-- ==== Sys2Proof/Word.lean ====
section
/-! DEFINITION. Words and bytes: the bit vectors the block's registers, addresses and buffers are made of. -/

namespace Sys2Proof

/-- One byte of a buffer or of a packet. -/
abbrev Byte := BitVec 8

/-- A register or a general register of an application core (64 bits; 32-bit registers use the low half). -/
abbrev Word := BitVec 64

end Sys2Proof
end

