-- ==== Sys2Proof/Types.lean ====
section
/-! DEFINITION. The names and packets that commands carry: lanes, modes, link packets, pass results, frames. -/

namespace Sys2Proof

/-- The three lanes (01). -/
inductive LaneId | a | b | c
  deriving DecidableEq, Repr

/-- 0 A, 1 B, 2 C. -/
def LaneId.idx : LaneId → Nat
  | .a => 0 | .b => 1 | .c => 2

/-- The lane after this one on the links: A→B, B→C, C→A (04, exchange over the links). -/
def LaneId.next : LaneId → LaneId
  | .a => .b | .b => .c | .c => .a

/-- The lane before this one. -/
def LaneId.prev : LaneId → LaneId
  | .a => .c | .b => .a | .c => .b

/-- The eight modes (03 R82). -/
inductive Mode | stowed | start | configure | safe3 | safe2 | split | halt | depot
  deriving DecidableEq, Repr

/-- The code of a mode (03 R82). -/
def Mode.code : Mode → Nat
  | .stowed => 0 | .start => 1 | .configure => 2 | .safe3 => 3 | .safe2 => 4 | .split => 5 | .halt => 6 | .depot => 7

/-- The life-cycle states (03 R105). -/
inductive Life | factory | commissioning | inService | depotOpen | retired
  deriving DecidableEq, Repr

/-- The code of a life-cycle state (03 R105). -/
def Life.code : Life → Nat
  | .factory => 1 | .commissioning => 2 | .inService => 3 | .depotOpen => 4 | .retired => 5

/-- A voter: voter 1 in the hub, voter 2 in the supervisor (01). -/
inductive VoterId | v1 | v2
  deriving DecidableEq, Repr

/-- Switch side of an output (15): the high side is voter 1's, the low side voter 2's. -/
inductive Side | hs | ls
  deriving DecidableEq, Repr

/-- 0 high side, 1 low side (17 R539). -/
def Side.num : Side → Nat
  | .hs => 0 | .ls => 1

/-- Privilege modes of a core (05, privilege and memory protection). -/
inductive Priv | m | s | u
  deriving DecidableEq, Repr

/-- Who runs on a core when it makes an access (05, privilege and memory protection): the kernel in M mode, the dispatcher in S mode, or a
task in U mode. -/
inductive Runner
  | kernel
  | dispatcher
  | task (t : Nat)
  deriving DecidableEq, Repr

/-- A region of lane addresses and what is granted on it: a PMP entry, or a region declaration of an image (05 R143, R146). -/
structure Region where
  base : Nat
  size : Nat
  read : Bool
  write : Bool
  exec : Bool
  deriving DecidableEq, Repr

/-- The operations of the A extension's AMO instructions (05 R140, R142). -/
inductive AmoOp | swap | add | xor | and | or | min | max | minu | maxu
  deriving DecidableEq, Repr

/-- An access to lane memory that answers into a register: a load, or an instruction of the A extension (05 R142). -/
inductive MemOp
  | load
  | lr
  | sc (v : Word)
  | amo (f : AmoOp) (v : Word)
  deriving DecidableEq, Repr

/-- The CSR instructions of Zicsr: write, set bits, clear bits (05 R140). -/
inductive CsrOp | rw | rs | rc
  deriving DecidableEq, Repr

/-- Formats of the coded float instructions (05 R163). -/
inductive FFmt | f32 | f64
  deriving DecidableEq, Repr

/-- A load's outcome at the memory's check bits (01 R28). -/
inductive EccResult | clean | single | double
  deriving DecidableEq, Repr

/-- How a word of a task's state or output is coded (05). -/
inductive WordKind | int | f32 | f64
  deriving DecidableEq, Repr

/-- One word of a safety task: its plain value, its code word and its signature (05 R150). -/
structure CodedWord where
  kind : WordKind
  sig : Nat
  plain : Word
  enc : Word
  deriving DecidableEq, Repr

/-- A variable of a task's plain state: how it is coded, its signature and its byte offset (07 R209, state layout). -/
structure VarDecl where
  kind : WordKind
  sig : Nat
  off : Nat
  deriving DecidableEq, Repr

/-- What the plain pass of a task (or a non-safety task's execution) produced: the environment's program result.
`outs` are the output bits it sets among `mask`; `state` is its plain state afterwards; `retained` are the retained blocks it wrote (index, 252 bytes);
`stationOut` are its station outputs (channel, payload). -/
structure PassResult where
  task : Nat
  dur : Nat
  psig : Nat
  mask : Nat
  outs : Nat
  state : List Byte
  retained : List (Nat × List Byte)
  stationOut : List (Nat × List Byte)
  deriving DecidableEq, Repr

/-- What the encoded pass of a safety task produced: the condition signature, the output words and the state words
with their plain and encoded values. -/
structure EncResult where
  task : Nat
  dur : Nat
  esig : Nat
  outWords : List CodedWord
  stateWords : List CodedWord
  deriving DecidableEq, Repr

/-- A packet of a lane-to-lane link (04 R124); `crcOk` and `nframeOk` are the receiver's trailer checks. -/
structure LinkPacket where
  src : LaneId
  dst : LaneId
  frame : Nat
  layout : Nat
  payload : List Byte
  crcOk : Bool
  nframeOk : Bool
  deriving DecidableEq, Repr

/-- Voter 2's status record (06 R181). -/
structure StatusRecord where
  frame : Nat
  halt : Bool
  candOk : Nat
  members : Nat
  outcome : Nat
  out : Nat
  deriving DecidableEq, Repr

/-- A frame as a CAN controller receives it (12 R339, R340); `stamp` is the raw count at its SOF. -/
structure CanFrame where
  ide : Bool
  id : Nat
  remote : Bool
  fdf : Bool
  brs : Bool
  esi : Bool
  dlc : Nat
  data : List Byte
  stamp : Nat
  deriving DecidableEq, Repr

/-- A frame as a port of the switch receives it (11 R313): its bytes without the FCS, whether the FCS was right, and the
instants of its SFD and of its last byte, in 10 ns units from the hub's edge; and the egress ports whose queue has no space for it (the
spec gives the queues no size). -/
structure EthFrame where
  bytes : List Byte
  fcsOk : Bool
  sfd : Int
  last : Int
  full : Nat := 0
  deriving DecidableEq, Repr

/-- Who completes a start step (03 R88): a lane, the supervisor, the power unit, the hub, or the field stage. -/
inductive StartActor
  | lane (l : LaneId)
  | sup | power | hub | field
  deriving DecidableEq, Repr

/-- What a Cooper run found (18 R474 to R477): the blocks that ended, the time it took in ms, failing logic blocks with
their MISR and expected signature, failing bits in the order found (array, row, word, bit), rows that failed again after
repair (array, row), a failure of LPDDR4X, and SRAM Vmin code of block 5 at shutdown depth. -/
structure CooperRun where
  ended : Nat
  ms : Nat
  logic : List (Nat × Nat × Nat)
  fails : List (Nat × Nat × Nat × Nat)
  remain : List (Nat × Nat)
  lpddr : Bool
  vmin : Nat
  deriving DecidableEq, Repr

/-- Kinds of SD card, bus modes, file systems and partitionings (08 R232). -/
inductive SdKind | sdsc | sdhc | sdxc | sduc | sdio
  deriving DecidableEq, Repr
inductive SdBus | default | high | sdr12 | sdr25 | sdr50 | sdr104 | ddr50 | uhs2 | uhs3
  deriving DecidableEq, Repr
inductive SdFs | fat12 | fat16 | fat32 | exfat
  deriving DecidableEq, Repr
inductive SdPart | none | mbr | gpt
  deriving DecidableEq, Repr

/-- A card in the SD slot (08 R232): what it is, and the files of its directory /OSV3192/ by name; a file's content is none where its read
fails or the card is removed meanwhile. -/
structure SdCard where
  kind : SdKind
  bus : SdBus
  fs : SdFs
  part : SdPart
  files : List (List Byte × Option (List Byte))
  deriving DecidableEq, Repr

/-- What the supervisor measures of the supplies (20 R534): main input and input power in 10 mV and 10 mW, VO and VB in
100 mV, VKA in mV, board temperature in 0.1 °C. -/
structure Supply where
  vin : Nat
  pin : Nat
  vo : Nat
  vb : Nat
  vka : Nat
  temp : Int
  deriving DecidableEq, Repr

/-- What a lane measured for an ageing record (18 R491): mean voltage code, least slack in ps, highest junction temperature
in 0.1 °C, NBTI ratio in ppm, and the largest switch on-resistance ratio × 1 000 with its output and side. -/
structure AgeMeas where
  vMean : Nat
  slack : Int
  tj : Int
  nbti : Nat
  ron : Nat
  ronOut : Nat
  ronSide : Side
  deriving DecidableEq, Repr

/-- A client of the dictionary service (16 R437): 1 UDP with its IPv4 address and port, 2 CAN with its channel, 3 lane-local
with its lane; `port0` marks a request that arrived on maintenance port 0. -/
structure Client where
  kind : Nat
  addr : List Byte
  port0 : Bool
  deriving DecidableEq, Repr

/-- Errors that a CAN controller detects (12 R358). -/
inductive CanErr | bit | stuff | form | crc | ack
  deriving DecidableEq, Repr

/-- A kind of thing the module sends out. -/
inductive EmitKind
  | linkPacket | voter2Image | voter1Image | statusRecord | gateMessage | planRecord | bridge | ethernet | can
  | harvest | timeMessage | service | file | pairLine | report
  /-- A tick marker of the hub to a lane (02 R55), a lane's edge symbol to the supervisor (02 R58). -/
  | tickMarker | edgeSymbol
  /-- The lane end's error response to an inbound access of the hub (01 R31). -/
  | bridgeError
  /-- An Ethernet frame that its port ends with a deliberately invalid FCS (04 R114). -/
  | badFrame
  deriving DecidableEq, Repr

/-- One thing sent out of a die: its kind, where (port, lane, channel), a tag, and its bytes. -/
structure Emission where
  kind : EmitKind
  place : Nat
  tag : Nat
  bytes : List Byte
  deriving DecidableEq, Repr

end Sys2Proof
end

