-- ==== Sys2Proof/Syntax.lean ====
section
/-! DEFINITION. The commands of the block: one constructor per row of the table of operations and events, with what the row's rule says
happens as operands: who acts, an address, a value, what was received or measured. The table gives its rows no bits. -/

namespace Sys2Proof

/-- A command. -/
inductive Instr
  /-- TICK_EDGE (R12). -/
  | tickEdge (l : LaneId) (current : Nat)
  /-- SYNC_BEAT (R53). -/
  | syncBeat (l : LaneId) (p q : Option Int)
  /-- LANE_OUT_OF_STEP (R54). -/
  | laneOutOfStep (l : LaneId)
  /-- TICK_MARKER (R55). -/
  | tickMarker (l : LaneId) (offset : Int)
  /-- HUB_LOSS_ENTER (R57). -/
  | hubLossEnter (l : LaneId)
  /-- HUB_LOSS_LEAVE (R57). -/
  | hubLossLeave (l : LaneId)
  /-- SUPERVISOR_EDGE (R58). -/
  | supervisorEdge (a b c : Option Nat) (line : Bool) (m : Option Supply)
  /-- HUB_EDGE (R255). -/
  | hubEdge (dt : Nat) (late : List (Nat × Nat))
  /-- END_OF_L (R117). -/
  | endOfL (l : LaneId)
  /-- IMAGE_PACKET_RECEIVE (R125). -/
  | imagePacketReceive (l : LaneId) (p : LinkPacket)
  /-- IMAGE_CUTOFF (R127). -/
  | imageCutoff (l : LaneId)
  /-- RECEIPT_RECEIVE (R128). -/
  | receiptReceive (l : LaneId) (p : LinkPacket)
  /-- RECEIPT_CUTOFF (R128). -/
  | receiptCutoff (l : LaneId)
  /-- END_OF_A (R129). -/
  | endOfA (l : LaneId)
  /-- INPUT_DISAGREEMENT_FLAG (R136). -/
  | inputDisagreementFlag (l : LaneId) (i : Nat)
  /-- INPUT_DISAGREEMENT_CLEAR (R136). -/
  | inputDisagreementClear (l : LaneId) (i : Nat)
  /-- ENTER_PHASE_E (R60). -/
  | enterPhaseE (l : LaneId) (rs : List PassResult)
  /-- ENTER_PHASE_V (R60). -/
  | enterPhaseV (l : LaneId) (es : List EncResult) (ns : List PassResult) (since : Nat)
  /-- SAFETY_DEADLINE (R67). -/
  | safetyDeadline (l : LaneId) (es : List EncResult) (ns : List PassResult)
  /-- OVERRUN_BEYOND_TOLERANCE (R69). -/
  | overrunBeyondTolerance (l : LaneId) (c : Nat)
  /-- NONSAFETY_DEADLINE (R61). -/
  | nonsafetyDeadline (l : LaneId) (rs : List PassResult) (pages : List Nat) (wend : Nat)
  /-- TASK_TRAP (R206). -/
  | taskTrap (l : LaneId) (c task cause pc : Nat) (tval : Option Nat)
  /-- LANE_MEMORY_READ (R28). -/
  | laneMemoryRead (l : LaneId) (core pc addr size rd : Nat) (signed : Bool) (op : MemOp) (who : Runner) (ecc : EccResult)
  /-- CD_ENC (R162). -/
  | cdEnc (l : LaneId) (c pc rd rs1 rs3 : Nat)
  /-- CD_DEC (R162). -/
  | cdDec (l : LaneId) (c pc rd rs1 rs3 : Nat)
  /-- CD_CHK (R162). -/
  | cdChk (l : LaneId) (c pc rs1 rs3 : Nat)
  /-- CD_RESIG (R162). -/
  | cdResig (l : LaneId) (c pc rd rs1 rs3 : Nat)
  /-- CD_ADD (R162). -/
  | cdAdd (l : LaneId) (c pc rd rs1 rs2 rs3 : Nat)
  /-- CD_SUB (R162). -/
  | cdSub (l : LaneId) (c pc rd rs1 rs2 rs3 : Nat)
  /-- CD_MUL (R162). -/
  | cdMul (l : LaneId) (c pc rd rs1 rs2 rs3 : Nat)
  /-- CD_MULQ (R162). -/
  | cdMulq (l : LaneId) (c pc rd rs1 rs2 rs3 : Nat)
  /-- CD_DIV (R162). -/
  | cdDiv (l : LaneId) (c pc rd rs1 rs2 rs3 : Nat)
  /-- CD_REM (R162). -/
  | cdRem (l : LaneId) (c pc rd rs1 rs2 rs3 : Nat)
  /-- CD_SRA (R162). -/
  | cdSra (l : LaneId) (c pc rd rs1 rs3 : Nat)
  /-- CD_WRAP (R162). -/
  | cdWrap (l : LaneId) (c pc rd rs1 rs3 : Nat)
  /-- CD_SLT (R162). -/
  | cdSlt (l : LaneId) (c pc rd rs1 rs2 rs3 : Nat)
  /-- CD_SEQ (R162). -/
  | cdSeq (l : LaneId) (c pc rd rs1 rs2 rs3 : Nat)
  /-- CD_BAND (R162). -/
  | cdBand (l : LaneId) (c pc rd rs1 rs2 rs3 : Nat)
  /-- CD_BOR (R162). -/
  | cdBor (l : LaneId) (c pc rd rs1 rs2 rs3 : Nat)
  /-- CD_BNOT (R162). -/
  | cdBnot (l : LaneId) (c pc rd rs1 rs3 : Nat)
  /-- CD_COND (R162). -/
  | cdCond (l : LaneId) (c pc rd rs1 rs3 : Nat)
  /-- CD_PFOLD (R162). -/
  | cdPfold (l : LaneId) (c pc rs1 : Nat)
  /-- CD_REBASE (R162). -/
  | cdRebase (l : LaneId) (c pc rd rs1 rs2 rs3 : Nat)
  /-- CD_FENC (R163). -/
  | cdFenc (l : LaneId) (c pc : Nat) (f : FFmt) (fd fs1 : Nat)
  /-- CD_FDEC (R163). -/
  | cdFdec (l : LaneId) (c pc : Nat) (f : FFmt) (fd fs1 : Nat)
  /-- CD_FMUL (R163). -/
  | cdFmul (l : LaneId) (c pc : Nat) (f : FFmt) (fd fs1 fs2 : Nat)
  /-- CD_FDIV (R163). -/
  | cdFdiv (l : LaneId) (c pc : Nat) (f : FFmt) (fd fs1 fs2 : Nat)
  /-- CD_FSQRT (R163). -/
  | cdFsqrt (l : LaneId) (c pc : Nat) (f : FFmt) (fd fs1 : Nat)
  /-- CD_FMADD (R163). -/
  | cdFmadd (l : LaneId) (c pc : Nat) (f : FFmt) (fd fs1 fs2 fs3 : Nat)
  /-- CD_FSGNJX (R163). -/
  | cdFsgnjx (l : LaneId) (c pc : Nat) (f : FFmt) (fd fs1 fs2 : Nat)
  /-- CD_FLT (R164). -/
  | cdFlt (l : LaneId) (c pc : Nat) (f : FFmt) (rd fs1 fs2 rs3 : Nat)
  /-- CD_FLE (R164). -/
  | cdFle (l : LaneId) (c pc : Nat) (f : FFmt) (rd fs1 fs2 rs3 : Nat)
  /-- CD_FEQ (R164). -/
  | cdFeq (l : LaneId) (c pc : Nat) (f : FFmt) (rd fs1 fs2 rs3 : Nat)
  /-- CD_FCVT_X (R164). -/
  | cdFcvtX (l : LaneId) (c pc : Nat) (f : FFmt) (rd fs1 rs3 : Nat)
  /-- CD_FCVT_F (R164). -/
  | cdFcvtF (l : LaneId) (c pc : Nat) (f : FFmt) (fd rs1 rs3 : Nat)
  /-- CD_FCLASS (R164). -/
  | cdFclass (l : LaneId) (c pc : Nat) (f : FFmt) (rd fs1 rs3 : Nat)
  /-- CD_FREBASE (R164). -/
  | cdFrebase (l : LaneId) (c pc : Nat) (f : FFmt) (fd fs1 rs2 : Nat)
  /-- ENCODED_PASS_ILLEGAL (R159). -/
  | encodedPassIllegal (l : LaneId) (c pc task : Nat)
  /-- CDA_CSR_WRITE (R166). -/
  | cdaCsrWrite (l : LaneId) (c pc : Nat) (pr : Priv) (op : CsrOp) (csr rd : Nat) (v : Word)
  /-- TCK_CLS_DONE_WRITE (R78). -/
  | tckClsDoneWrite (l : LaneId) (w : Word)
  /-- TCK_FRAME_LOW_READ (R79). -/
  | tckFrameLowRead (l : LaneId) (core rd : Nat) (who : Runner)
  /-- XCH_VCOUNT_WRITE (R116). -/
  | xchVcountWrite (l : LaneId) (core v : Nat)
  /-- VOT_IMG_SEND (R173). -/
  | votImgSend (l : LaneId) (c : Nat) (w : Word)
  /-- VOT_V1_IMG_LATCH (R197). -/
  | votV1ImgLatch (l : LaneId) (w : Word)
  /-- VOT_CTL_SEND (R196). -/
  | votCtlSend (l : LaneId) (c : Nat)
  /-- VOTER_IMAGE_RECEIVE (R174). -/
  | voterImageReceive (i : VoterId) (l : LaneId) (b : List Byte)
  /-- VOTER_IMAGE_CUTOFF (R174). -/
  | voterImageCutoff (i : VoterId)
  /-- LANE_WATCHDOG_EXPIRE (R179). -/
  | laneWatchdogExpire (l : LaneId)
  /-- WITHHOLD_LIMIT_REMOVE (R178). -/
  | withholdLimitRemove (l : LaneId)
  /-- VOTER1_DISREGARD (R195). -/
  | voter1Disregard (l : LaneId)
  /-- STATUS_RECORD_RECEIVE (R181). -/
  | statusRecordReceive (l : LaneId) (r : StatusRecord) (crcOk : Bool)
  /-- VOTER_DIFFERENCE_RECORD (R183). -/
  | voterDifferenceRecord (l : LaneId)
  /-- VOTER_DIFFERENCE_HALT (R183). -/
  | voterDifferenceHalt (l : LaneId)
  /-- CHECKSUM_PACKET_RECEIVE (R186). -/
  | checksumPacketReceive (l : LaneId) (p : LinkPacket)
  /-- REALIGN_PAGE_SEND (R187). -/
  | realignPageSend (l : LaneId)
  /-- REALIGN_PAGE_RECEIVE (R187). -/
  | realignPageReceive (l : LaneId) (p : LinkPacket)
  /-- REALIGN_FINAL_PASS (R188). -/
  | realignFinalPass (t : LaneId)
  /-- REALIGNMENT_ABANDON (R189). -/
  | realignmentAbandon (t : LaneId)
  /-- STATION_TIMEOUT (R225). -/
  | stationTimeout (l : LaneId) (st : Nat)
  /-- DURABLE_REPORT (R219). -/
  | durableReport (l : LaneId) (q : Nat) (id : List Byte) (layout : Nat)
  /-- MODE_REQUEST_CONFIGURE (R109). -/
  | modeRequestConfigure (src : Nat)
  /-- MODE_REQUEST_DEPOT (R109). -/
  | modeRequestDepot (src : Nat)
  /-- MODE_REQUEST_RUN (R109). -/
  | modeRequestRun (src : Nat)
  /-- MODE_REQUEST_SHUT_DOWN (R109). -/
  | modeRequestShutDown (src : Nat)
  /-- LIFECYCLE_TO_IN_SERVICE (R106). -/
  | lifecycleToInService (src : Nat)
  /-- LIFECYCLE_TO_DEPOT_OPEN (R106). -/
  | lifecycleToDepotOpen (src : Nat)
  /-- LIFECYCLE_TO_RETIRED (R106). -/
  | lifecycleToRetired (src : Nat)
  /-- WAKE_INPUT_QUALIFIED (R103). -/
  | wakeInputQualified (rtc ms : Nat)
  /-- RTC_ALARM (R103). -/
  | rtcAlarm (rtc : Nat)
  /-- START_STEP_TIMEOUT (R89). -/
  | startStepTimeout (who : StartActor) (k : Nat)
  /-- WAKE_WITHDRAWN_TIMEOUT (R99). -/
  | wakeWithdrawnTimeout (sec : Nat)
  /-- C3_TIME_LIMIT (R480). -/
  | c3TimeLimit (ms : Nat)
  /-- BRIDGE_REGISTER_STORE (R286). -/
  | bridgeRegisterStore (l : LaneId) (core pc addr size : Nat) (v : Word) (amo : Bool) (who : Runner)
  /-- BRIDGE_COMBINED_STORE (R287). -/
  | bridgeCombinedStore (l : LaneId) (core pc addr size : Nat) (v : Word) (amo : Bool) (who : Runner)
  /-- WC_BUFFER_ISSUE (R287). -/
  | wcBufferIssue (l : LaneId) (core : Nat)
  /-- FENCE (R288). -/
  | fence (l : LaneId) (core pc : Nat)
  /-- BRIDGE_LOAD (R291). -/
  | bridgeLoad (l : LaneId) (core pc addr size rd : Nat) (signed spec amo : Bool) (who : Runner)
  /-- WRITE_RESPONSE (R298). -/
  | writeResponse (l : LaneId)
  /-- READ_RESPONSE (R295). -/
  | readResponse (l : LaneId) (tag : Nat) (ecc : Bool)
  /-- FLUSH_ACK (R295). -/
  | flushAck (l : LaneId) (tag : Nat)
  /-- DISCARD_TIMER_EXPIRE (R294). -/
  | discardTimerExpire (l : LaneId) (write : Bool) (i done : Nat)
  /-- LINK_RESET (R300). -/
  | linkReset (l : LaneId) (done replays : Nat)
  /-- BRG_RESET_WRITE (R302). -/
  | brgResetWrite (l : LaneId) (core v done : Nat)
  /-- LINK_RETRAINED (R299). -/
  | linkRetrained (l : LaneId)
  /-- INBOUND_WRITE (R31). -/
  | inboundWrite (l : LaneId) (off : Nat) (bs : List Byte) (race : Option (Nat × List Byte × Bool))
  /-- INBOUND_READ (R265). -/
  | inboundRead (l : LaneId) (off n : Nat)
  /-- PDE_ITEM_ARRIVE (R255). -/
  | pdeItemArrive (c : Nat) (raw : List Byte)
  /-- PDE_VDONE_WRITE (R259). -/
  | pdeVdoneWrite (l : LaneId) (v : Nat)
  /-- PDE_FETCH_CUTOFF (R260). -/
  | pdeFetchCutoff
  /-- SINK_TRANSMIT_OPPORTUNITY (R261). -/
  | sinkTransmitOpportunity (c now : Nat) (ok : Bool)
  /-- PDE_GO (R264). -/
  | pdeGo (l : LaneId) (core pc : Nat) (c : Nat)
  /-- PDE_DOORBELL (R264). -/
  | pdeDoorbell (l : LaneId) (core pc : Nat) (c : Nat)
  /-- PDE_ABORT (R275). -/
  | pdeAbort (l : LaneId) (core pc : Nat) (c : Nat)
  /-- QUEUED_INPUT_ITEM (R266). -/
  | queuedInputItem (c : Nat) (raw : List Byte)
  /-- QUEUED_OUTPUT_COMPLETE (R267). -/
  | queuedOutputComplete (c status : Nat)
  /-- CIRCULAR_INPUT_ITEM (R270). -/
  | circularInputItem (c : Nat) (raw : List Byte)
  /-- PDE_RD_WRITE (R270). -/
  | pdeRdWrite (l : LaneId) (core pc : Nat) (c v : Nat)
  /-- PDE_CQ_CLAIM (R272). -/
  | pdeCqClaim (l : LaneId) (core pc : Nat) (q v : Nat)
  /-- PDE_CQ_RELEASE (R272). -/
  | pdeCqRelease (l : LaneId) (core pc : Nat) (q : Nat)
  /-- PDE_CQ_TAIL_WRITE (R272). -/
  | pdeCqTailWrite (l : LaneId) (core pc : Nat) (q v : Nat)
  /-- PDE_ARM_WRITE (R276). -/
  | pdeArmWrite (l : LaneId) (core pc : Nat) (c : Nat)
  /-- PDE_ARM_SAMPLE (R276). -/
  | pdeArmSample
  /-- PDE_ARM_UNMATCHED (R277). -/
  | pdeArmUnmatched (c : Nat)
  /-- FRAME_RECEIVE (R313). -/
  | frameReceive (p : Nat) (f : EthFrame)
  /-- FRAME_EGRESS (R312). -/
  | frameEgress (p now : Nat)
  /-- QUARANTINE_HOLD_END (R316). -/
  | quarantineHoldEnd (p : Nat)
  /-- PORT_RELEASE_HELD (R316). -/
  | portReleaseHeld (src mask : Nat)
  /-- PORT_LINK_UP (R305). -/
  | portLinkUp (p speed : Nat)
  /-- PORT_LINK_DOWN (R316). -/
  | portLinkDown (p : Nat)
  /-- TRELLIS_BANK_SWITCH (R314). -/
  | trellisBankSwitch
  /-- WINDOW_CLAIM (R315). -/
  | windowClaim (src v : Nat)
  /-- WINDOW_RELEASE (R315). -/
  | windowRelease (src v : Nat)
  /-- HARVEST_PASS_SEND (R325). -/
  | harvestPassSend (pass : Nat)
  /-- HARVEST_FRAME_RETURN (R329). -/
  | harvestFrameReturn (port : Nat) (b : List Byte) (ok late : Bool)
  /-- HARVEST_PASS_LOST (R329). -/
  | harvestPassLost (pass dir : Nat)
  /-- HARVEST_RING_NORMAL (R329). -/
  | harvestRingNormal
  /-- HARVEST_STATION_MISSING (R329). -/
  | harvestStationMissing (k : Nat)
  /-- CAN_FRAME_RECEIVE (R339). -/
  | canFrameReceive (ch : Nat) (f : CanFrame)
  /-- CAN_TRANSMIT_START (R345). -/
  | canTransmitStart (ch : Nat)
  /-- CAN_ARBITRATION_LOST (R345). -/
  | canArbitrationLost (ch : Nat)
  /-- CAN_TRANSMIT_COMPLETE (R346). -/
  | canTransmitComplete (ch : Nat)
  /-- CAN_TRANSMIT_ERROR (R346). -/
  | canTransmitError (ch : Nat) (e : CanErr)
  /-- CAN_BUS_OFF (R350). -/
  | canBusOff (ch : Nat)
  /-- CAN_HOLDOFF_END (R350). -/
  | canHoldoffEnd (ch : Nat)
  /-- CAN_RECOVERY_COMPLETE (R350). -/
  | canRecoveryComplete (ch ms : Nat)
  /-- CAN_RELEASE_BLOCKED (R350). -/
  | canReleaseBlocked (src ch : Nat)
  /-- CAN_TXCANCEL_WRITE (R347). -/
  | canTxcancelWrite (l : LaneId) (ch v : Nat)
  /-- CAN_RESTRICTED_END (R351). -/
  | canRestrictedEnd (ch ms : Nat)
  /-- CAN_TRIGGER_FIRE (R354). -/
  | canTriggerFire (ch i : Nat) (free : Bool)
  /-- CAN_SERVICE_SEGMENT (R438). -/
  | canServiceSegment (ch : Nat) (f : CanFrame)
  /-- CAN_SEGMENT_GAP_TIMEOUT (R438). -/
  | canSegmentGapTimeout
  /-- PTP_SYNC_RECEIVE (R369). -/
  | ptpSyncReceive (p : Nat) (offset : Int) (dt : Nat)
  /-- SYNC_RECEIPT_TIMEOUT (R369). -/
  | syncReceiptTimeout (dt : Nat)
  /-- HOLDOVER_TIMEOUT (R369). -/
  | holdoverTimeout (dt : Nat)
  /-- RATE_UPDATE (R364). -/
  | rateUpdate (r dt : Nat)
  /-- SYNC_SEND (R370). -/
  | syncSend (p dt : Nat)
  /-- PDELAY_REQUEST_SEND (R367). -/
  | pdelayRequestSend (p : Nat) (result : Option (Nat × Bool)) (dt : Nat)
  /-- SET_TIME (R369). -/
  | setTime (src t dt : Nat)
  /-- TB_SETTIME_WRITE (R375). -/
  | tbSettimeWrite (l : LaneId) (core v dt : Nat)
  /-- TB_CAPTURE (R372). -/
  | tbCapture (l : LaneId) (v dt : Nat)
  /-- TB_LOW_WORD_READ (R372). -/
  | tbLowWordRead (l : LaneId) (disc : Bool) (rd dt : Nat)
  /-- CONNECTION_RESET (R386). -/
  | connectionReset (src k : Nat)
  /-- SLY_CRC_GO (R394). -/
  | slyCrcGo (l : LaneId) (core v : Nat)
  /-- SLY_CRC_DONE (R394). -/
  | slyCrcDone (l : LaneId)
  /-- INPUT_THRESHOLD_CROSS (R397). -/
  | inputThresholdCross (l : LaneId) (i mv : Nat)
  /-- INPUT_FILTER_CHANGE (R399). -/
  | inputFilterChange (l : LaneId) (i held at_ : Nat)
  /-- DARK_PULSE_START (R404). -/
  | darkPulseStart (d : Side) (o t : Nat)
  /-- DARK_PULSE_END (R405). -/
  | darkPulseEnd (d : Side) (o : Nat)
  /-- READBACK_CHANGE (R406). -/
  | readbackChange (l : LaneId) (hs ls oc t : Nat)
  /-- DARK_SLOT_CHECK (R406). -/
  | darkSlotCheck (l : LaneId) (d : Side) (o t : Nat)
  /-- SWITCH_OVERLOAD_TRIP (R403). -/
  | switchOverloadTrip (d : Side) (o : Nat)
  /-- VOTER_SILENCE_TIMEOUT (R413). -/
  | voterSilenceTimeout (i : VoterId) (us : Nat)
  /-- BRAKE_CURRENT_OUT_OF_RANGE (R415). -/
  | brakeCurrentOutOfRange (l : LaneId)
  /-- BRAKE_PROOF_TEST (R416). -/
  | brakeProofTest (src : Nat) (rs : List (Bool × Bool × Nat))
  /-- PROOF_TEST_OVERDUE (R417). -/
  | proofTestOverdue
  /-- RESET_INPUT_RISE (R418). -/
  | resetInputRise (low : Nat)
  /-- RESET_INPUT_FALL (R418). -/
  | resetInputFall (width : Nat)
  /-- RESET_HELD_TIMEOUT (R418). -/
  | resetHeldTimeout
  /-- SERVICE_READ (R440). -/
  | serviceRead (c : Client) (b : List Byte)
  /-- SERVICE_WRITE (R440). -/
  | serviceWrite (c : Client) (b : List Byte)
  /-- SERVICE_INFO (R439). -/
  | serviceInfo (c : Client) (b : List Byte)
  /-- SERVICE_CANCEL (R440). -/
  | serviceCancel (c : Client) (b : List Byte)
  /-- SERVICE_OUTCOME (R447). -/
  | serviceOutcome (l : LaneId) (b : List Byte)
  /-- TRANSFER_TIMEOUT (R440). -/
  | transferTimeout (i j : Nat)
  /-- LANE_LOCAL_REQUEST (R447). -/
  | laneLocalRequest (l : LaneId)
  /-- RELAY_ENTRY_EXPIRE (R446). -/
  | relayEntryExpire
  /-- CONFIG_COMMIT (R430). -/
  | configCommit (src : Nat)
  /-- CONFIG_DISCARD (R429). -/
  | configDiscard (src : Nat)
  /-- CONFIG_RESTORE_DEFAULTS (R429). -/
  | configRestoreDefaults (src : Nat)
  /-- DICTIONARY_IMAGE_LOAD (R432). -/
  | dictionaryImageLoad (src : Nat) (b : List Byte)
  /-- TRAIN_DIRECTORY_WRITE (R435). -/
  | trainDirectoryWrite (src : Nat) (b : List Byte)
  /-- TOKEN_REFILL (R451). -/
  | tokenRefill (p : Nat)
  /-- PARTNER_THROTTLE (R452). -/
  | partnerThrottle (p : Nat)
  /-- THROTTLE_END (R452). -/
  | throttleEnd (p : Nat)
  /-- PARTNER_SLOT_FREE (R450). -/
  | partnerSlotFree (p : Nat)
  /-- CBK_SUBMIT (R457). -/
  | cbkSubmit (l : LaneId) (core v : Nat)
  /-- CBK_TOKEN_GAIN (R462). -/
  | cbkTokenGain (code : Nat)
  /-- DECANT_TO_SD (R469). -/
  | decantToSd (src : Nat)
  /-- DECANT_TO_SERVICE (R469). -/
  | decantToService (src : Nat)
  /-- UNFREEZE_TAIL (R467). -/
  | unfreezeTail (src : Nat)
  /-- REOPEN_FIRST_FILL (R467). -/
  | reopenFirstFill (src : Nat)
  /-- DECANT_COMPLETE (R469). -/
  | decantComplete (card : Nat)
  /-- STAGE_PROGRAM_FROM_HOST (R234). -/
  | stageProgramFromHost (src : Nat)
  /-- STAGE_PROGRAM_FROM_SD (R234). -/
  | stageProgramFromSd (src : Nat)
  /-- STAGE_FIRMWARE_FROM_HOST (R234). -/
  | stageFirmwareFromHost (src : Nat)
  /-- STAGE_FIRMWARE_FROM_SD (R234). -/
  | stageFirmwareFromSd (src : Nat)
  /-- STAGING_SEGMENT_WRITE (R250). -/
  | stagingSegmentWrite (src : Nat) (data : List Byte)
  /-- SWITCH_PROGRAM (R235). -/
  | switchProgram (src : Nat)
  /-- GATE_MESSAGE_RECEIVE (R236). -/
  | gateMessageReceive (l : LaneId) (b : List Byte)
  /-- INSTALL_IN_SERVICE (R245). -/
  | installInService (src : Nat)
  /-- INSTALL_NEXT_LANE (R245). -/
  | installNextLane
  /-- INSTALL_ADMIT_TIMEOUT (R245). -/
  | installAdmitTimeout
  /-- HUB_RUNNING_REPORT (R246). -/
  | hubRunningReport (l : LaneId)
  /-- HUB_RESTART_TIMEOUT (R246). -/
  | hubRestartTimeout
  /-- INSTALL_AT_NEXT_START (R248). -/
  | installAtNextStart (src : Nat)
  /-- ABORT_RACKING (R247). -/
  | abortRacking (src : Nat)
  /-- DISCARD_STAGED (R230). -/
  | discardStaged (src : Nat)
  /-- COOPER_GO (R473). -/
  | cooperGo (l : LaneId) (core v : Nat)
  /-- COOPER_STOP (R493). -/
  | cooperStop (l : LaneId) (core v : Nat)
  /-- COOPER_RUN_DONE (R474). -/
  | cooperRunDone (l : LaneId) (r : CooperRun)
  /-- REPAIR_ENTRY_SUBMIT (R478). -/
  | repairEntrySubmit (src : Nat) (e : List Byte)
  /-- AGEING_RECORD_SUBMIT (R491). -/
  | ageingRecordSubmit (src : Nat) (b : List Byte)
  /-- COMMANDED_TEST (R483). -/
  | commandedTest (src v : Nat)
  /-- AVS_RAISE (R485). -/
  | avsRaise (l : LaneId) (cpr : List Int)
  /-- AVS_LOWER (R485). -/
  | avsLower (l : LaneId) (cpr : List Int)
  /-- FMAX_PROJECTION (R486). -/
  | fmaxProjection (l : LaneId) (slack tj : Int)
  /-- F_ALLOW_LOWER (R486). -/
  | fAllowLower (l : LaneId)
  /-- AGEING_REPORT (R487). -/
  | ageingReport (l : LaneId)
  /-- DAILY_AGEING_RECORD (R491). -/
  | dailyAgeingRecord (l : LaneId) (m : AgeMeas)
  /-- HANDOVER_REQUEST (R506). -/
  | handoverRequest (src : Nat)
  /-- HANDOVER_TIMEOUT (R507). -/
  | handoverTimeout (l : LaneId)
  /-- TAKE_HOLDOFF_EXPIRE (R508). -/
  | takeHoldoffExpire (l : LaneId)
  /-- START_WAIT_EXPIRE (R503). -/
  | startWaitExpire (l : LaneId)
  /-- SHADOW_MISMATCH (R509). -/
  | shadowMismatch (l : LaneId)
  /-- SHADOW_MISMATCH_CLEAR (R509). -/
  | shadowMismatchClear (l : LaneId)
  /-- MAIN_INPUT_BELOW_RANGE (R517). -/
  | mainInputBelowRange (v : Nat)
  /-- MAIN_INPUT_LOST (R517). -/
  | mainInputLost
  /-- MAIN_INPUT_RESTORED (R517). -/
  | mainInputRestored (v us heldMs rtc : Nat)
  /-- MAIN_INPUT_OVERVOLTAGE (R517). -/
  | mainInputOvervoltage (peak : Nat) (us : Option Nat)
  /-- OVERVOLTAGE_DISCONNECT (R517). -/
  | overvoltageDisconnect (v us : Nat)
  /-- HOLDUP_EXHAUSTED (R538). -/
  | holdupExhausted
  /-- HOLDUP_RECHARGE_DONE (R541). -/
  | holdupRechargeDone
  /-- DUMP_COMPLETE (R523). -/
  | dumpComplete (ms rtc : Nat)
  /-- OUTPUT_SUPPLY_OUT_OF_RANGE (R518). -/
  | outputSupplyOutOfRange (brake : Bool) (v : Nat)
  /-- OUTPUT_SUPPLY_RESTORED (R518). -/
  | outputSupplyRestored (brake : Bool) (v : Nat)
  /-- KEEPALIVE_LOW (R536). -/
  | keepaliveLow (mv : Nat)
  /-- BOARD_OVERTEMPERATURE (R532). -/
  | boardOvertemperature (t : Int)
  /-- SUPERVISOR_SUPPLY_LOSS (R40). -/
  | supervisorSupplyLoss (keepAlive : Bool)
  /-- HUB_SUPPLY_LOSS (R40). -/
  | hubSupplyLoss
  /-- RC_READ (R15). -/
  | rcRead (l : LaneId) (core pc addr size rd : Nat) (signed : Bool) (more : Nat) (who : Runner)
  /-- W1C_WRITE (R15). -/
  | w1cWrite (l : LaneId) (core pc addr : Nat) (v : Word) (set : Nat) (who : Runner)
  /-- REGISTER_WRITE (R14). -/
  | registerWrite (l : LaneId) (core pc addr size : Nat) (v : Word) (who : Runner)
  /-- START_STEP_COMPLETE (R88). -/
  | startStepComplete (who : StartActor) (k : Nat) (ok : Bool) (ms : Nat) (meas : List Nat)
  /-- STAGING_COMPLETE (R234). -/
  | stagingComplete (card : Option SdCard)
  /-- SD_CARD_REMOVAL (R233). -/
  | sdCardRemoval
  /-- OSCILLATOR_MONITOR_FAULT (R413). -/
  | oscillatorMonitorFault (i : VoterId)
  deriving DecidableEq, Repr

end Sys2Proof
end

