-- ==== Sys2Proof/Machine/Bits.lean ====
section
/-! DEFINITION. Bit fields, byte order, sparse maps and check values: the helpers every family shares. -/

namespace Sys2Proof.Machine

/-! ### Sparse maps
A sparse map lists (key, value) pairs with strictly rising keys and lists no pair equal to the default. -/

/-- The value listed at `k`, if any. -/
def mapFind {α : Type} : List (Nat × α) → Nat → Option α
  | [], _ => none
  | (i, v) :: m, k => if i = k then some v else mapFind m k

/-- Take the entry at `k` out. -/
def mapErase {α : Type} : List (Nat × α) → Nat → List (Nat × α)
  | [], _ => []
  | (i, v) :: m, k => if i = k then mapErase m k else (i, v) :: mapErase m k

/-- Put `(k, v)` in at its place in the rising order (`k` not listed). -/
def mapInsert {α : Type} : List (Nat × α) → Nat → α → List (Nat × α)
  | [], k, v => [(k, v)]
  | (i, w) :: m, k, v => if k < i then (k, v) :: (i, w) :: m else (i, w) :: mapInsert m k v

/-- What the map reads at `k`, with `d` the value of every key not listed. -/
def mapGet {α : Type} (d : α) (m : List (Nat × α)) (k : Nat) : α := (mapFind m k).getD d

/-- Write `v` at `k`, keeping the canonical form: the default is never listed. -/
def mapSet {α : Type} [DecidableEq α] (d : α) (m : List (Nat × α)) (k : Nat) (v : α) : List (Nat × α) :=
  if v = d then mapErase m k else mapInsert (mapErase m k) k v

/-- Strictly rising keys, and no entry equal to its key's default. -/
def mapWf {α : Type} [DecidableEq α] (d : Nat → α) : List (Nat × α) → Bool
  | [] => true
  | (i, v) :: m => decide (v ≠ d i) && m.all (fun p => decide (i < p.1)) && mapWf d m

/-! ### Bytes -/

/-- `n` bytes of `v`, least significant first. -/
def leBytes : Nat → Nat → List Byte
  | 0, _ => []
  | n + 1, v => BitVec.ofNat 8 v :: leBytes n (v / 256)

/-- `n` bytes of `v`, most significant first. -/
def beBytes (n v : Nat) : List Byte := (leBytes n v).reverse

/-- The number a byte list spells, least significant byte first. -/
def leNat : List Byte → Nat
  | [] => 0
  | b :: bs => b.toNat + 256 * leNat bs

/-- The number a byte list spells, most significant byte first. -/
def beNat (bs : List Byte) : Nat := leNat bs.reverse

/-- Bytes `i` to `i + n − 1` of a list. -/
def slice (bs : List Byte) (i n : Nat) : List Byte := (bs.drop i).take n

/-- A little-endian field of `n` bytes at offset `i`. -/
def leAt (bs : List Byte) (i n : Nat) : Nat := leNat (slice bs i n)

/-- A big-endian field of `n` bytes at offset `i`. -/
def beAt (bs : List Byte) (i n : Nat) : Nat := beNat (slice bs i n)

/-- One byte as a number (0 beyond the end). -/
def byteAt (bs : List Byte) (i : Nat) : Nat := (bs.getD i 0).toNat

/-- Cut or pad with zero bytes to exactly `n` bytes. -/
def padTo (n : Nat) (bs : List Byte) : List Byte := bs.take n ++ List.replicate (n - bs.length) 0

/-- Put `p` over the bytes of `bs` from offset `i` on. -/
def overlay (bs : List Byte) (i : Nat) (p : List Byte) : List Byte :=
  padTo i bs ++ p ++ bs.drop (i + p.length)

/-- Bytes of 7-bit text. -/
def asciiBytes (t : String) : List Byte := t.toList.map (fun c => BitVec.ofNat 8 c.toNat)

/-! ### Bits of numbers -/

/-- Bit `i` of `v`. -/
def bitOf (v i : Nat) : Bool := v / 2 ^ i % 2 == 1

/-- Bits `hi` down to `lo` of `v`. -/
def bitsOf (v hi lo : Nat) : Nat := v / 2 ^ lo % 2 ^ (hi + 1 - lo)

/-- `v` with bits `hi` down to `lo` replaced by the low bits of `x`. -/
def setBits (v hi lo x : Nat) : Nat :=
  v - bitsOf v hi lo * 2 ^ lo + (x % 2 ^ (hi + 1 - lo)) * 2 ^ lo

/-- `v` with bit `i` replaced. -/
def setBit (v i : Nat) (b : Bool) : Nat := setBits v i i (if b then 1 else 0)

/-- A flag as a number. -/
def b2n (b : Bool) : Nat := if b then 1 else 0

/-- How many of bits 0 to `n − 1` of `v` are 1. -/
def popCount : Nat → Nat → Nat
  | 0, _ => 0
  | n + 1, v => v % 2 + popCount n (v / 2)

/-- Bitwise operations on numbers. -/
def nAnd (a b : Nat) : Nat := a &&& b
def nOr (a b : Nat) : Nat := a ||| b
def nXor (a b : Nat) : Nat := a ^^^ b
/-- `a` without the bits of `b`. -/
def nAndNot (a b : Nat) : Nat := a ^^^ (a &&& b)

/-- A counter that stops at `top`. -/
def satAdd (top v d : Nat) : Nat := min top (v + d)

/-- A signed number as the low `n` bits that spell it in two's complement. -/
def ofInt (n : Nat) (x : Int) : Nat := (x % (2 ^ n : Int)).toNat

/-- The signed number that `n` bits spell. -/
def toInt (n v : Nat) : Int := if v % 2 ^ n < 2 ^ (n - 1) then (v % 2 ^ n : Int) else (v % 2 ^ n : Int) - 2 ^ n

/-- A signed number held within ±`top`. -/
def clampInt (top : Nat) (x : Int) : Int := max (-(top : Int)) (min (top : Int) x)

/-- The middle one of three numbers. -/
def median3 (a b c : Int) : Int := max (min a b) (min (max a b) c)

/-! ### Frame numbers (00 R12, R13) -/

/-- 2^48: frame numbers wrap here. -/
def frameMod : Nat := 2 ^ 48

/-- The frame `k` edges after `f` (R13). -/
def frameAdd (f k : Nat) : Nat := (f + k) % frameMod

/-- `f − g` modulo 2^48, read as a signed 48-bit number (R13). -/
def frameDiff (f g : Nat) : Int := toInt 48 (f % frameMod + frameMod - g % frameMod)

/-- Frame `f` is at or after frame `g` in the order of R13. -/
def frameGe (f g : Nat) : Bool := decide (0 ≤ frameDiff f g)

/-! ### CRC-32C (00 R11) -/

/-- One bit of the reflected computation; 0x82F6_3B78 is 0x1EDC_6F41 reflected. -/
def crcBit (c : BitVec 32) : BitVec 32 :=
  if c.getLsbD 0 then (c >>> 1) ^^^ 0x82F63B78#32 else c >>> 1

/-- One byte, least significant bit first. -/
def crcByte (c : BitVec 32) (b : Byte) : BitVec 32 :=
  crcBit (crcBit (crcBit (crcBit (crcBit (crcBit (crcBit (crcBit (c ^^^ b.setWidth 32))))))))

/-- CRC-32C over bytes in memory order (R11). -/
def crc32c (bs : List Byte) : Nat := (~~~ (bs.foldl crcByte 0xFFFFFFFF#32)).toNat

/-! ### Keys of two or three small numbers -/

/-- One map key of a pair. -/
def key2 (i j : Nat) : Nat := i * 65536 + j

/-! ### Counts over the three lanes -/

/-- Bit set of lanes: bit 0 A, bit 1 B, bit 2 C (17 R539). -/
def laneSetCount (v : Nat) : Nat := popCount 3 v

/-- Put an element into a list in rising order of its key, behind equal ones. -/
def insertBy {α : Type} (k : α → Nat) (a : α) : List α → List α
  | [] => [a]
  | b :: bs => if k a < k b then a :: b :: bs else b :: insertBy k a bs

/-- A list in rising order of a key. -/
def orderBy {α : Type} (k : α → Nat) (xs : List α) : List α := xs.foldl (fun m a => insertBy k a m) []

end Sys2Proof.Machine
end

