-- ==== Sys2Proof/Machine/Flags.lean ====
section
/-! DEFINITION. Binary floating point, exactly: values as sign, mantissa and exponent, one rounding, and the RISC-V
classes and comparisons that the coded float instructions use (05 R156 to R164). -/

namespace Sys2Proof.Machine

/-- A binary floating-point datum: NaN, an infinity, or `±m·2^e`. -/
inductive FVal
  | nan
  | inf (neg : Bool)
  | fin (neg : Bool) (m : Nat) (e : Int)
  deriving DecidableEq, Repr

/-- Significand bits of a format. -/
def fmtPrec : FFmt → Nat
  | .f32 => 24 | .f64 => 53

/-- Width of a format. -/
def fmtWidth : FFmt → Nat
  | .f32 => 32 | .f64 => 64

/-- Exponent of the last place of the subnormal numbers. -/
def fmtEmin : FFmt → Int
  | .f32 => -149 | .f64 => -1074

/-- The all-ones biased exponent. -/
def fmtEmax : FFmt → Nat
  | .f32 => 255 | .f64 => 2047

/-- The canonical NaN (R160). -/
def fmtNan : FFmt → Nat
  | .f32 => 0x7FC00000 | .f64 => 0x7FF8000000000000

/-- The datum that the bits of a format spell. -/
def unpack (f : FFmt) (b : Nat) : FVal :=
  let p := fmtPrec f
  let neg := bitOf b (fmtWidth f - 1)
  let ex := bitsOf b (fmtWidth f - 2) (p - 1)
  let fr := b % 2 ^ (p - 1)
  if ex = fmtEmax f then (if fr = 0 then .inf neg else .nan)
  else if ex = 0 then .fin neg fr (fmtEmin f)
  else .fin neg (fr + 2 ^ (p - 1)) (fmtEmin f + (ex - 1 : Int))

/-- Rounding modes as the F extension numbers them: 0 nearest even, 1 toward zero, 2 down, 3 up, 4 nearest, ties away. -/
def roundUp (rm : Nat) (neg odd half more : Bool) : Bool :=
  match rm with
  | 0 => half && (more || odd)
  | 1 => false
  | 2 => neg && (half || more)
  | 3 => !neg && (half || more)
  | _ => half

/-- Bits of a number. -/
def bitLen (m : Nat) : Nat := if m = 0 then 0 else Nat.log2 m + 1

/-- Cut `k` low bits off `m` with rounding; `sticky` stands for a nonzero rest below them. -/
def cutRound (rm : Nat) (neg : Bool) (m k : Nat) (sticky : Bool) : Nat :=
  let q := m / 2 ^ k
  let half := decide (0 < k) && bitOf m (k - 1)
  let more := decide (m % 2 ^ (k - 1) ≠ 0) || sticky
  q + b2n (roundUp rm neg (bitOf q 0) half more)

/-- The bits of `±(m + sticky)·2^e` rounded once to a format. -/
def packRound (f : FFmt) (rm : Nat) (neg : Bool) (m : Nat) (e : Int) (sticky : Bool) : Nat :=
  let p := fmtPrec f
  let sgn := b2n neg * 2 ^ (fmtWidth f - 1)
  if m = 0 then sgn
  else
    let t := max (e + (bitLen m : Int) - p) (fmtEmin f)
    let q := if t ≤ e then m * 2 ^ (e - t).toNat else cutRound rm neg m (t - e).toNat sticky
    let ex := if q < 2 ^ (p - 1) then 0 else (t - fmtEmin f).toNat + 1
    -- a carry out of the significand moves into the exponent by itself
    let body := if ex = 0 then q else (ex - 1) * 2 ^ (p - 1) + q
    sgn + (if fmtEmax f * 2 ^ (p - 1) ≤ body then fmtEmax f * 2 ^ (p - 1) else body)

/-- A datum rounded once, to nearest even. -/
def pack (f : FFmt) : FVal → Nat
  | .nan => fmtNan f
  | .inf neg => b2n neg * 2 ^ (fmtWidth f - 1) + fmtEmax f * 2 ^ (fmtPrec f - 1)
  | .fin neg m e => packRound f 0 neg m e false

/-- `−v·2^k`: the transform of 05, floating-point transform, and with `−k` its inverse. -/
def negScale (v : FVal) (k : Int) : FVal :=
  match v with
  | .nan => .nan
  | .inf neg => .inf (!neg)
  | .fin neg m e => .fin (!neg) m (e + k)

/-- The exact product. -/
def fMul : FVal → FVal → FVal
  | .fin n m e, .fin n' m' e' => .fin (n != n') (m * m') (e + e')
  | .inf n, .inf n' => .inf (n != n')
  | .inf n, .fin n' m _ => if m = 0 then .nan else .inf (n != n')
  | .fin n m _, .inf n' => if m = 0 then .nan else .inf (n != n')
  | _, _ => .nan

/-- A signed mantissa at exponent `lo`. -/
def signedAt (neg : Bool) (m : Nat) (e lo : Int) : Int :=
  let v : Int := (m * 2 ^ (e - lo).toNat : Nat)
  if neg then -v else v

/-- The exact sum; an exact zero of opposite signs is +0. -/
def fAdd : FVal → FVal → FVal
  | .fin n m e, .fin n' m' e' =>
    let lo := min e e'
    let t := signedAt n m e lo + signedAt n' m' e' lo
    if t = 0 then .fin (n && n') 0 lo else .fin (decide (t < 0)) t.natAbs lo
  | .inf n, .inf n' => if n = n' then .inf n else .nan
  | .inf n, .fin _ _ _ => .inf n
  | .fin _ _ _, .inf n => .inf n
  | _, _ => .nan

/-- The quotient before rounding: its leading bits, and whether more follow. -/
def fDiv (f : FFmt) : FVal → FVal → FVal × Bool
  | .fin n m e, .fin n' m' e' =>
    if m' = 0 then (if m = 0 then .nan else .inf (n != n'), false)
    else
      let sh := fmtPrec f + 3 + bitLen m'
      (.fin (n != n') (m * 2 ^ sh / m') (e - e' - sh), decide (m * 2 ^ sh % m' ≠ 0))
  | .inf _, .inf _ => (.nan, false)
  | .inf n, .fin n' _ _ => (.inf (n != n'), false)
  | .fin n _ _, .inf n' => (.fin (n != n') 0 0, false)
  | _, _ => (.nan, false)

/-- The integer square root, bit by bit from bit `k − 1`. -/
def isqrtGo : Nat → Nat → Nat → Nat
  | 0, _, r => r
  | k + 1, n, r => isqrtGo k n (if (r + 2 ^ k) * (r + 2 ^ k) ≤ n then r + 2 ^ k else r)

/-- The integer square root of a number. -/
def isqrt (n : Nat) : Nat := isqrtGo (bitLen n / 2 + 1) n 0

/-- The square root before rounding: its leading bits, and whether more follow. -/
def fSqrt (f : FFmt) : FVal → FVal × Bool
  | .nan => (.nan, false)
  | .inf neg => (if neg then .nan else .inf false, false)
  | .fin neg m e =>
    if m = 0 then (.fin neg 0 0, false)
    else if neg then (.nan, false)
    else
      -- an even exponent, and enough bits below for one rounding
      let k := 2 * (fmtPrec f + 2) + (if e % 2 = 0 then 0 else 1)
      let m := m * 2 ^ k
      let r := isqrt m
      (.fin false r ((e - k) / 2), decide (r * r ≠ m))

/-- a < b, false when unordered. -/
def fLt : FVal → FVal → Bool
  | .fin n m e, .fin n' m' e' => decide (signedAt n m e (min e e') < signedAt n' m' e' (min e e'))
  | .inf n, .inf n' => n && !n'
  | .inf n, .fin _ _ _ => n
  | .fin _ _ _, .inf n => !n
  | _, _ => false

/-- a = b, false when unordered. -/
def fEq : FVal → FVal → Bool
  | .fin n m e, .fin n' m' e' => decide (signedAt n m e (min e e') = signedAt n' m' e' (min e e'))
  | .inf n, .inf n' => n == n'
  | _, _ => false

/-- a·|sign(a) ⊕ sign(b)|: sign injection by exclusive or; a NaN stands for the positive canonical NaN (R160). -/
def fSgnjx (a b : FVal) : FVal :=
  let sb := match b with | .nan => false | .inf n => n | .fin n _ _ => n
  match a with
  | .nan => .nan
  | .inf n => .inf (n != sb)
  | .fin n m e => .fin (n != sb) m e

/-- The class mask of a value in a format (the F extension's fclass); a NaN is the canonical quiet one. -/
def fClass (f : FFmt) : FVal → Nat
  | .nan => 2 ^ 9
  | .inf neg => if neg then 2 ^ 0 else 2 ^ 7
  | .fin neg m e =>
    if m = 0 then (if neg then 2 ^ 3 else 2 ^ 4)
    else if e + (bitLen m : Int) < fmtEmin f + fmtPrec f then (if neg then 2 ^ 2 else 2 ^ 5)
    else (if neg then 2 ^ 1 else 2 ^ 6)

/-- Round a value to an integer with rounding mode `rm`. -/
def fToInt (rm : Nat) (neg : Bool) (m : Nat) (e : Int) : Int :=
  let q : Nat := if 0 ≤ e then m * 2 ^ e.toNat else cutRound rm neg m (-e).toNat false
  if neg then -(q : Int) else q

/-- Convert to an integer within [lo, hi]: saturating, with hi for a NaN (the F extension's fcvt). -/
def fConvert (rm : Nat) (lo hi : Int) : FVal → Int
  | .nan => hi
  | .inf neg => if neg then lo else hi
  | .fin neg m e => max lo (min hi (fToInt rm neg m e))

/-- Round to nearest even and pack a value with its following bits. -/
def packSticky (f : FFmt) (v : FVal × Bool) : Nat :=
  match v.1 with
  | .fin neg m e => packRound f 0 neg m e v.2
  | w => pack f w

/-- The upper bound of the coded float range, as a power of two: 2^113 (F32), 2^1009 (F64) (R156). -/
def fmtTop : FFmt → Int
  | .f32 => 113 | .f64 => 1009

/-- Outside the coded float range of R156: nonzero, finite, and below the smallest normal number or from its upper bound on. -/
def outOfRange (f : FFmt) : FVal → Bool
  | .fin _ m e =>
    decide (m ≠ 0) && (decide (e + (bitLen m : Int) < fmtEmin f + fmtPrec f) || decide (fmtTop f < e + (bitLen m : Int)))
  | _ => false

/-- A finite value within the range that its rounding takes out of it, up to the upper bound. -/
def roundsOut (f : FFmt) (v : FVal × Bool) : Bool :=
  match v.1, unpack f (packSticky f v) with
  | .fin _ m _, .inf _ => decide (m ≠ 0)
  | .fin _ m _, w => decide (m ≠ 0) && outOfRange f w
  | _, _ => false

end Sys2Proof.Machine
end

