-- ==== Sys2Proof/Config.lean ====
section
/-! DEFINITION. What an implementation fixes and the spec leaves open: constants without a body, so that no proof can see
a value of them. -/

namespace Sys2Proof

/-- The `i`-th free value drawn, as a word: a value the spec leaves open. -/
opaque Config.freeWord : Nat → Word

/-- The `i`-th free byte drawn. -/
opaque Config.freeByte : Nat → Byte

/-- Byte `k` of the CONST object `index:sub` fixed at manufacture (16 R428). -/
opaque Config.constByte : Nat → Nat → Nat → Byte

/-- The variables of a task that the state layout section lists: the spec gives the section's content, not its format. -/
opaque Config.stateVars : List Byte → Nat → List VarDecl

/-- The initial plain state of a task in the state layout section. -/
opaque Config.stateInit : List Byte → Nat → List Byte

/-- The regions that the region declarations section grants a task (07 R209): the spec gives the section's content, not its format. -/
opaque Config.regionDecls : List Byte → Nat → List Region

/-- The state region and the output region that the lane runtime has given a task's plain or encoded pass (07 R209, 05 R149): by
state layout section and task; the spec leaves the place to the runtime. -/
opaque Config.taskRegions : List Byte → Nat → Bool → List Region

/-- The variables of a task's input section that its encoded pass reads (05 R150), as the state layout section lists them. -/
opaque Config.inputVars : List Byte → Nat → List VarDecl

/-- The safe values of the LEVELS bits (04 R123): no object of the field-input configuration gives them. -/
opaque Config.safeLevels : Nat

/-- The firmware package that the committed bank holds from manufacture on. -/
opaque Config.factoryFirmware : List Byte

/-- The first 16 bytes of the SHA-512 digest over the records of a copy of the stored objects (16 R431): the spec does not give the
records' format. -/
opaque Config.configId : List (Nat × List Byte) → List Byte

/-- Fjartil's firmware-signing keys in the boot ROMs (08 R243): Ed25519 and ML-DSA-65 public keys by slot. -/
opaque Config.firmwareKeys : List (List Byte × List Byte)

/-- The SDTv2 safety code of IEC 61375-2-3 over bytes, with a start value and the four bytes fed first (14 R394). -/
opaque Config.sdtCode : Nat → Nat → List Byte → Nat

/-- One SDTv2 sink check of the standard (14 R389, R390): parameters, train directory, the sink's state, the telegram and the
frame give the result (1 valid and fresh, 2 repeated, 3 safety code or version, 4 time supervision, 5 channel monitoring or
latency) and the new state. -/
opaque Config.sdtSink : List Nat → List Byte → List Byte → List Byte → Nat → Nat × List Byte

/-- The dataset of an SDTv2 source with its trailer (14 R383, R389): parameters, train directory, counter, payload. -/
opaque Config.sdtSource : List Nat → List Byte → Nat → List Byte → List Byte

/-- The projection of 18 R486 with the calibration constants of the die: lane, worst replica slack, voltage code, junction
temperature and clock code give f_max in MHz. -/
opaque Config.fmax : Nat → Int → Nat → Int → Nat → Nat

end Sys2Proof
end

