-- ==== Sys2Proof/Machine/Objects.lean ====
section
/-! DEFINITION. The object dictionary's table: every object with its type, access, persistence, default and range,
written from the object tables of the chapters (00 R18 to R22, 16). -/

namespace Sys2Proof.Machine

/-- Dictionary types (00 R20); the number is the length of an OCTET, or the largest length. -/
inductive ObjType
  | bool | u8 | u16 | u32 | u64 | i8 | i16 | i32 | i64 | f32 | f64
  | octet (n : Nat) | vstring (n : Nat) | time64 | domain (n : Nat)
  deriving DecidableEq, Repr

/-- Dictionary access codes (00 R21). -/
inductive ObjAcc | ro | rw | wo | rwc | const
  deriving DecidableEq, Repr

/-- Persistence classes (00 R22). -/
inductive ObjPersist | volatile | retained | stored
  deriving DecidableEq, Repr

/-- A row of the object tables: indices `index + stride·i`, i below `count`, sub-indices `slo` to `shi`; the default as a
little-endian number; the accepted range of a numeric value. -/
structure ObjRow where
  index : Nat
  stride : Nat
  count : Nat
  slo : Nat
  shi : Nat
  ty : ObjType
  acc : ObjAcc
  per : ObjPersist
  dflt : Nat
  min : Int
  max : Int
  deriving DecidableEq, Repr

/-- Rows of the indices 0x0000 to 0x0FFF. -/
def objRows0 : List ObjRow := [
  ⟨0x0, 0x0, 1, 0x0, 0x0, .vstring 255, .const, .stored, 0, 0, 0⟩,
  ⟨0x1, 0x0, 1, 0x0, 0x0, .vstring 255, .const, .stored, 0, 0, 0⟩,
  ⟨0x2, 0x0, 1, 0x0, 0x0, .octet 8, .const, .stored, 0, 0, 0⟩,
  ⟨0x3, 0x0, 1, 0x1, 0x1, .u16, .const, .stored, 0, 0, 65535⟩,
  ⟨0x3, 0x0, 1, 0x2, 0x2, .u16, .const, .stored, 0, 0, 65535⟩,
  ⟨0x3, 0x0, 1, 0x3, 0x3, .time64, .const, .stored, 0, 0, 18446744073709551615⟩,
  ⟨0x4, 0x0, 1, 0x0, 0x0, .time64, .const, .stored, 0, 0, 18446744073709551615⟩,
  ⟨0x5, 0x0, 1, 0x1, 0x5, .u16, .const, .stored, 0, 0, 65535⟩,
  ⟨0x6, 0x0, 1, 0x0, 0x0, .octet 16, .const, .stored, 0, 0, 0⟩,
  ⟨0x7, 0x0, 1, 0x1, 0xC, .octet 6, .const, .stored, 0, 0, 0⟩,
  ⟨0x100, 0x0, 1, 0x1, 0x10, .octet 12, .rwc, .stored, 0, 0, 0⟩,
  ⟨0x101, 0x0, 1, 0x1, 0x1, .u8, .rwc, .stored, 255, 0, 255⟩,
  ⟨0x101, 0x0, 1, 0x2, 0x2, .u32, .rwc, .stored, 1536, 0, 4294967295⟩,
  ⟨0x101, 0x0, 1, 0x3, 0x3, .u32, .rwc, .stored, 1408, 0, 4294967295⟩,
  ⟨0x101, 0x0, 1, 0x4, 0x4, .u16, .rwc, .stored, 50310, 0, 65535⟩,
  ⟨0x102, 0x0, 1, 0x1, 0x10, .octet 32, .wo, .stored, 0, 0, 0⟩,
  ⟨0x110, 0x0, 1, 0x1, 0x4, .octet 32, .rwc, .stored, 0, 0, 0⟩,
  ⟨0x111, 0x0, 1, 0x1, 0x4, .octet 1952, .rwc, .stored, 0, 0, 0⟩,
  ⟨0x120, 0x0, 1, 0x1, 0x1, .u8, .wo, .volatile, 0, 0, 255⟩,
  ⟨0x120, 0x0, 1, 0x2, 0x2, .u8, .ro, .volatile, 0, 0, 255⟩,
  ⟨0x120, 0x0, 1, 0x3, 0x3, .u32, .ro, .volatile, 0, 0, 4294967295⟩,
  ⟨0x120, 0x0, 1, 0x5, 0x5, .octet 16, .ro, .stored, 0, 0, 0⟩,
  ⟨0x121, 0x0, 1, 0x0, 0x0, .domain 33554432, .wo, .volatile, 0, 0, 0⟩,
  ⟨0x200, 0x0, 1, 0x1, 0x1, .u8, .rwc, .stored, 0, 0, 63⟩,
  ⟨0x200, 0x0, 1, 0x2, 0x2, .u8, .rwc, .stored, 0, 0, 32⟩,
  ⟨0x200, 0x0, 1, 0x3, 0x3, .u8, .rwc, .stored, 0, 0, 1⟩,
  ⟨0x210, 0x0, 1, 0x1, 0x1, .octet 28, .rw, .volatile, 0, 0, 0⟩,
  ⟨0x301, 0x1, 255, 0x1, 0x1, .u8, .rwc, .stored, 0, 0, 3⟩,
  ⟨0x301, 0x1, 255, 0x2, 0x2, .u8, .rwc, .stored, 3, 1, 255⟩,
  ⟨0x301, 0x1, 255, 0x3, 0x3, .bool, .rwc, .stored, 0, 0, 1⟩,
  ⟨0x301, 0x1, 255, 0x4, 0x4, .octet 8, .rwc, .stored, 18446744073709551615, 0, 0⟩,
  ⟨0x301, 0x1, 255, 0x5, 0x5, .octet 8, .rwc, .stored, 18446744073709551615, 0, 0⟩,
  ⟨0x301, 0x1, 255, 0x6, 0x6, .vstring 32, .rwc, .stored, 0, 0, 0⟩]

/-- Rows of the indices 0x1000 to 0x1FFF, part 1 of 2. -/
def objRows1a : List ObjRow := [
  ⟨0x1000, 0x0, 1, 0x0, 0x0, .u8, .ro, .volatile, 1, 0, 255⟩,
  ⟨0x1001, 0x0, 1, 0x0, 0x0, .u8, .wo, .volatile, 0, 0, 255⟩,
  ⟨0x1002, 0x0, 1, 0x0, 0x0, .u8, .ro, .stored, 2, 0, 255⟩,
  ⟨0x1003, 0x0, 1, 0x0, 0x0, .u8, .wo, .volatile, 0, 0, 255⟩,
  ⟨0x1010, 0x0, 1, 0x0, 0x0, .u8, .rwc, .stored, 3, 0, 255⟩,
  ⟨0x1011, 0x0, 1, 0x0, 0x0, .bool, .rwc, .stored, 0, 0, 1⟩,
  ⟨0x1012, 0x0, 1, 0x0, 0x0, .u8, .rwc, .stored, 0, 0, 2⟩,
  ⟨0x1013, 0x0, 1, 0x0, 0x0, .u8, .rw, .retained, 0, 0, 1⟩,
  ⟨0x1014, 0x0, 1, 0x0, 0x0, .u16, .rwc, .stored, 5, 0, 3600⟩,
  ⟨0x1015, 0x0, 1, 0x0, 0x0, .u8, .rwc, .stored, 72, 1, 168⟩,
  ⟨0x1016, 0x0, 1, 0x1, 0x1, .bool, .rwc, .stored, 1, 0, 1⟩,
  ⟨0x1016, 0x0, 1, 0x2, 0x3, .bool, .rwc, .stored, 0, 0, 1⟩,
  ⟨0x1017, 0x0, 1, 0x0, 0x0, .time64, .rw, .retained, 0, 0, 18446744073709551615⟩,
  ⟨0x1018, 0x0, 1, 0x1, 0x1, .u32, .ro, .volatile, 0, 0, 4294967295⟩,
  ⟨0x1018, 0x0, 1, 0x2, 0x3, .u8, .ro, .volatile, 0, 0, 255⟩,
  ⟨0x1019, 0x0, 1, 0x0, 0x0, .u8, .rw, .retained, 0, 0, 2⟩,
  ⟨0x1100, 0x0, 1, 0x0, 0x0, .u8, .rwc, .stored, 2, 0, 8⟩,
  ⟨0x1102, 0x0, 1, 0x1, 0x8, .u8, .rwc, .stored, 0, 0, 3⟩,
  ⟨0x1103, 0x0, 1, 0x0, 0x0, .u32, .rwc, .stored, 3278080, 0, 16777215⟩,
  ⟨0x1104, 0x0, 1, 0x0, 0x0, .u8, .rwc, .stored, 16, 1, 255⟩,
  ⟨0x1110, 0x0, 1, 0x1, 0x2, .u32, .ro, .volatile, 0, 0, 4294967295⟩,
  ⟨0x1110, 0x0, 1, 0x3, 0x3, .u64, .ro, .volatile, 0, 0, 18446744073709551615⟩,
  ⟨0x1120, 0x0, 1, 0x1, 0x1, .u8, .rwc, .stored, 8, 1, 64⟩,
  ⟨0x1120, 0x0, 1, 0x2, 0x2, .u32, .rwc, .stored, 1048577, 0, 4294967295⟩,
  ⟨0x1120, 0x0, 1, 0x3, 0x3, .u8, .rwc, .stored, 8, 1, 255⟩,
  ⟨0x1121, 0x0, 1, 0x1, 0x1, .u32, .ro, .volatile, 40000, 0, 4294967295⟩,
  ⟨0x1121, 0x0, 1, 0x2, 0xA, .u32, .ro, .volatile, 0, 0, 4294967295⟩,
  ⟨0x1130, 0x0, 1, 0x1, 0x1, .u32, .const, .stored, 58659, 0, 4294967295⟩,
  ⟨0x1130, 0x0, 1, 0x2, 0x2, .u16, .rwc, .stored, 256, 1, 65535⟩,
  ⟨0x1130, 0x0, 1, 0x3, 0x5, .u32, .ro, .volatile, 0, 0, 4294967295⟩,
  ⟨0x1130, 0x0, 1, 0x6, 0x8, .u16, .ro, .volatile, 0, 0, 65535⟩,
  ⟨0x1140, 0x0, 1, 0x1, 0x10, .u8, .rwc, .stored, 0, 0, 5⟩,
  ⟨0x1140, 0x0, 1, 0x11, 0x11, .u8, .const, .stored, 1, 0, 255⟩,
  ⟨0x1141, 0x0, 1, 0x1, 0x1, .u8, .rwc, .stored, 3, 1, 8⟩,
  ⟨0x1141, 0x0, 1, 0x2, 0x2, .u8, .rwc, .stored, 2, 1, 4⟩,
  ⟨0x1141, 0x0, 1, 0x3, 0x3, .u8, .rwc, .stored, 3, 0, 10⟩,
  ⟨0x1141, 0x0, 1, 0x4, 0x4, .u8, .rwc, .stored, 16, 1, 255⟩,
  ⟨0x1141, 0x0, 1, 0x5, 0x5, .u32, .rwc, .stored, 5000, 100, 1000000⟩,
  ⟨0x1142, 0x0, 1, 0x1, 0x10, .u8, .rwc, .stored, 0, 0, 2⟩,
  ⟨0x1143, 0x0, 1, 0x1, 0x7, .u32, .ro, .volatile, 0, 0, 4294967295⟩,
  ⟨0x1150, 0x0, 1, 0x1, 0x1, .octet 16, .ro, .volatile, 0, 0, 0⟩,
  ⟨0x1150, 0x0, 1, 0x2, 0x2, .u16, .rwc, .stored, 1, 1, 1000⟩,
  ⟨0x1150, 0x0, 1, 0x3, 0x3, .u8, .ro, .volatile, 0, 0, 255⟩,
  ⟨0x1150, 0x0, 1, 0x4, 0x4, .u16, .ro, .volatile, 0, 0, 65535⟩,
  ⟨0x1150, 0x0, 1, 0x5, 0x5, .u32, .ro, .volatile, 0, 0, 4294967295⟩]

/-- Rows of the indices 0x1000 to 0x1FFF, part 2 of 2. -/
def objRows1b : List ObjRow := [
  ⟨0x1150, 0x0, 1, 0x6, 0x6, .u64, .ro, .volatile, 0, 0, 18446744073709551615⟩,
  ⟨0x1150, 0x0, 1, 0x7, 0x7, .u32, .ro, .volatile, 0, 0, 4294967295⟩,
  ⟨0x1151, 0x0, 1, 0x1, 0x1, .u16, .ro, .volatile, 1, 0, 65535⟩,
  ⟨0x1151, 0x0, 1, 0x2, 0x4, .u16, .ro, .volatile, 0, 0, 65535⟩,
  ⟨0x1152, 0x0, 1, 0x1, 0x40, .u32, .ro, .volatile, 0, 0, 4294967295⟩,
  ⟨0x1153, 0x0, 1, 0x1, 0x40, .u32, .ro, .volatile, 0, 0, 4294967295⟩,
  ⟨0x1154, 0x0, 1, 0x1, 0x40, .u32, .ro, .volatile, 0, 0, 4294967295⟩,
  ⟨0x1160, 0x0, 1, 0x1, 0x1, .u8, .wo, .volatile, 0, 0, 255⟩,
  ⟨0x1160, 0x0, 1, 0x2, 0x2, .u64, .rw, .volatile, 0, 0, 18446744073709551615⟩,
  ⟨0x1160, 0x0, 1, 0x3, 0x3, .vstring 64, .rw, .volatile, 0, 0, 0⟩,
  ⟨0x1160, 0x0, 1, 0x4, 0x4, .u8, .ro, .volatile, 0, 0, 255⟩,
  ⟨0x1160, 0x0, 1, 0x5, 0x5, .u8, .ro, .volatile, 0, 0, 255⟩,
  ⟨0x1160, 0x0, 1, 0x6, 0x8, .u8, .ro, .volatile, 0, 0, 255⟩,
  ⟨0x1161, 0x0, 1, 0x1, 0x1, .u32, .rw, .volatile, 0, 0, 1073741824⟩,
  ⟨0x1161, 0x0, 1, 0x2, 0x2, .u32, .rw, .volatile, 0, 0, 4294967295⟩,
  ⟨0x1161, 0x0, 1, 0x3, 0x3, .domain 1048576, .wo, .volatile, 0, 0, 0⟩,
  ⟨0x1162, 0x0, 1, 0x1, 0x1, .u32, .rwc, .stored, 20000, 5000, 600000⟩,
  ⟨0x1162, 0x0, 1, 0x2, 0x2, .u16, .rwc, .stored, 10, 1, 3600⟩,
  ⟨0x1163, 0x0, 1, 0x1, 0x4, .octet 16, .ro, .volatile, 0, 0, 0⟩,
  ⟨0x1163, 0x0, 1, 0x5, 0x5, .u16, .ro, .stored, 0, 0, 65535⟩,
  ⟨0x1164, 0x0, 1, 0x1, 0x1, .u32, .ro, .volatile, 0, 0, 4294967295⟩,
  ⟨0x1164, 0x0, 1, 0x2, 0x2, .u16, .ro, .volatile, 0, 0, 65535⟩,
  ⟨0x1170, 0x0, 1, 0x1, 0xFF, .u32, .ro, .volatile, 4294967042, 0, 4294967295⟩]

/-- Rows of the indices 0x1000 to 0x1FFF. -/
def objRows1 : List ObjRow := objRows1a ++ objRows1b

/-- Rows of the indices 0x2000 to 0x2FFF. -/
def objRows2 : List ObjRow := [
  ⟨0x2000, 0x10, 192, 0x1, 0x6, .u32, .rwc, .stored, 0, 0, 4294967295⟩,
  ⟨0x2001, 0x10, 192, 0x1, 0x1, .u8, .ro, .volatile, 0, 0, 255⟩,
  ⟨0x2001, 0x10, 192, 0x2, 0x5, .u32, .ro, .volatile, 0, 0, 4294967295⟩,
  ⟨0x2002, 0x10, 192, 0x1, 0x2, .u32, .ro, .volatile, 0, 0, 4294967295⟩]

/-- Rows of the indices 0x3000 to 0x3FFF. -/
def objRows3 : List ObjRow := [
  ⟨0x3000, 0x0, 1, 0x1, 0x1, .u8, .rwc, .stored, 1, 1, 64⟩,
  ⟨0x3000, 0x0, 1, 0x2, 0x2, .u16, .rwc, .stored, 100, 0, 10000⟩,
  ⟨0x3000, 0x0, 1, 0x3, 0x3, .u8, .rwc, .stored, 10, 1, 255⟩,
  ⟨0x3001, 0x0, 1, 0x1, 0x1, .u8, .rwc, .stored, 8, 1, 255⟩,
  ⟨0x3001, 0x0, 1, 0x2, 0x2, .u8, .rwc, .stored, 4, 1, 255⟩,
  ⟨0x3001, 0x0, 1, 0x3, 0x3, .u8, .rwc, .stored, 4, 0, 255⟩,
  ⟨0x3001, 0x0, 1, 0x4, 0x4, .u16, .wo, .volatile, 0, 0, 65535⟩,
  ⟨0x3010, 0x0, 1, 0x0, 0x0, .domain 32768, .rwc, .stored, 0, 0, 0⟩,
  ⟨0x3020, 0x0, 1, 0x1, 0x2, .u32, .wo, .volatile, 0, 0, 4294967295⟩,
  ⟨0x3030, 0x0, 1, 0x1, 0x2, .u8, .rwc, .stored, 0, 0, 3⟩,
  ⟨0x3030, 0x0, 1, 0x3, 0x4, .bool, .rwc, .stored, 0, 0, 1⟩,
  ⟨0x3030, 0x0, 1, 0x5, 0x5, .u16, .rwc, .stored, 4095, 0, 4095⟩,
  ⟨0x3100, 0x0, 1, 0x1, 0x1, .u8, .rwc, .stored, 0, 0, 16⟩,
  ⟨0x3100, 0x0, 1, 0x2, 0x2, .u8, .rwc, .stored, 1, 1, 4⟩,
  ⟨0x3100, 0x0, 1, 0x3, 0x6, .u32, .rwc, .stored, 0, 0, 4294967295⟩,
  ⟨0x3100, 0x0, 1, 0x7, 0x7, .u32, .rwc, .stored, 0, 0, 10000⟩,
  ⟨0x3110, 0x0, 1, 0x1, 0x10, .u64, .rwc, .stored, 0, 0, 18446744073709551615⟩,
  ⟨0x3200, 0x1, 512, 0x1, 0x1, .octet 6, .rwc, .stored, 0, 0, 0⟩,
  ⟨0x3200, 0x1, 512, 0x2, 0x2, .u16, .rwc, .stored, 0, 0, 4094⟩,
  ⟨0x3200, 0x1, 512, 0x3, 0x3, .u8, .rwc, .stored, 0, 0, 7⟩,
  ⟨0x3200, 0x1, 512, 0x4, 0x4, .u8, .rwc, .stored, 255, 0, 255⟩,
  ⟨0x3200, 0x1, 512, 0x5, 0x5, .u16, .rwc, .stored, 0, 0, 65535⟩,
  ⟨0x3200, 0x1, 512, 0x6, 0x6, .u8, .rwc, .stored, 0, 0, 2⟩,
  ⟨0x3200, 0x1, 512, 0x7, 0x7, .u8, .rwc, .stored, 0, 0, 2⟩,
  ⟨0x3200, 0x1, 512, 0x8, 0x8, .u32, .rwc, .stored, 0, 0, 4294967295⟩,
  ⟨0x3200, 0x1, 512, 0x9, 0x9, .u16, .rwc, .stored, 1536, 64, 1536⟩,
  ⟨0x3200, 0x1, 512, 0xA, 0xA, .u8, .rwc, .stored, 0, 0, 2⟩,
  ⟨0x3200, 0x1, 512, 0xB, 0xB, .domain 46, .rwc, .stored, 0, 0, 0⟩,
  ⟨0x3400, 0x0, 1, 0x1, 0x1, .u8, .rwc, .stored, 2, 0, 2⟩,
  ⟨0x3400, 0x0, 1, 0x2, 0x2, .i8, .rwc, .stored, 253, -7, 0⟩,
  ⟨0x3400, 0x0, 1, 0x3, 0x3, .i8, .rwc, .stored, 0, -3, 3⟩,
  ⟨0x3400, 0x0, 1, 0x5, 0x5, .u8, .rwc, .stored, 3, 2, 10⟩,
  ⟨0x3400, 0x0, 1, 0x6, 0x6, .u32, .rwc, .stored, 1000, 50, 100000⟩,
  ⟨0x3400, 0x0, 1, 0x7, 0x7, .u32, .rwc, .stored, 10000, 1000, 10000000⟩,
  ⟨0x3400, 0x0, 1, 0x8, 0x8, .u16, .rwc, .stored, 10, 1, 3600⟩,
  ⟨0x3400, 0x0, 1, 0x9, 0x9, .u32, .rwc, .stored, 800, 1, 100000⟩,
  ⟨0x3401, 0x0, 1, 0x1, 0xC, .u8, .rwc, .stored, 0, 0, 3⟩,
  ⟨0x3402, 0x0, 1, 0x1, 0xC, .i32, .rwc, .stored, 0, -100000, 100000⟩,
  ⟨0x3403, 0x0, 1, 0x1, 0x4, .u8, .rwc, .stored, 255, 1, 255⟩,
  ⟨0x3404, 0x0, 1, 0x1, 0x18, .u16, .const, .stored, 0, 0, 65535⟩,
  ⟨0x3410, 0x0, 1, 0x1, 0x1, .time64, .ro, .volatile, 0, 0, 18446744073709551615⟩,
  ⟨0x3410, 0x0, 1, 0x2, 0x2, .i32, .ro, .volatile, 0, -2147483648, 2147483647⟩,
  ⟨0x3410, 0x0, 1, 0x3, 0x3, .u8, .ro, .volatile, 0, 0, 255⟩,
  ⟨0x3410, 0x0, 1, 0x4, 0x4, .i32, .ro, .volatile, 0, -2147483648, 2147483647⟩,
  ⟨0x3410, 0x0, 1, 0x5, 0x5, .time64, .wo, .volatile, 0, 0, 18446744073709551615⟩]

/-- Rows of the indices 0x4000 to 0x4FFF. -/
def objRows4 : List ObjRow := [
  ⟨0x4000, 0x100, 8, 0x1, 0x1, .u32, .rwc, .stored, 0, 0, 4294967295⟩,
  ⟨0x4000, 0x100, 8, 0x2, 0x2, .u32, .rwc, .stored, 10518304, 0, 4294967295⟩,
  ⟨0x4000, 0x100, 8, 0x3, 0x3, .u32, .rwc, .stored, 17440010, 0, 4294967295⟩,
  ⟨0x4000, 0x100, 8, 0x4, 0x4, .u32, .rwc, .stored, 40448, 0, 4294967295⟩,
  ⟨0x4000, 0x100, 8, 0x5, 0x5, .u32, .rwc, .stored, 657940, 0, 4294967295⟩,
  ⟨0x4001, 0x100, 8, 0x1, 0x40, .octet 12, .rwc, .stored, 2342736497361113055232, 0, 0⟩,
  ⟨0x4002, 0x100, 8, 0x1, 0x20, .u8, .rwc, .stored, 15, 0, 15⟩,
  ⟨0x4003, 0x100, 4, 0x1, 0x1, .u32, .rwc, .stored, 1024, 0, 4294967295⟩,
  ⟨0x4003, 0x100, 4, 0x2, 0x2, .domain 1024, .rwc, .stored, 0, 0, 0⟩,
  ⟨0x4004, 0x100, 8, 0x1, 0x1, .bool, .wo, .volatile, 0, 0, 1⟩,
  ⟨0x4010, 0x100, 8, 0x1, 0x4, .u32, .ro, .volatile, 0, 0, 4294967295⟩]

/-- Rows of the indices 0x5000 to 0x5FFF. -/
def objRows5 : List ObjRow := [
  ⟨0x5000, 0x0, 1, 0x1, 0x4, .u8, .rwc, .stored, 0, 0, 6⟩,
  ⟨0x5001, 0x0, 1, 0x1, 0x20, .u16, .rwc, .stored, 1000, 1, 65000⟩,
  ⟨0x5002, 0x0, 1, 0x1, 0x20, .bool, .rwc, .stored, 1, 0, 1⟩,
  ⟨0x5100, 0x0, 1, 0x1, 0x11, .u32, .rwc, .stored, 0, 0, 4294967295⟩,
  ⟨0x5101, 0x0, 1, 0x1, 0x11, .u16, .rwc, .stored, 200, 100, 500⟩,
  ⟨0x5102, 0x0, 1, 0x0, 0x0, .u32, .rwc, .stored, 2000, 100, 60000⟩,
  ⟨0x5103, 0x0, 1, 0x1, 0x1, .u16, .rwc, .stored, 100, 0, 2400⟩,
  ⟨0x5103, 0x0, 1, 0x2, 0x2, .u16, .rwc, .stored, 2000, 0, 2400⟩,
  ⟨0x5104, 0x0, 1, 0x0, 0x0, .u16, .rwc, .stored, 168, 1, 8760⟩,
  ⟨0x5105, 0x0, 1, 0x0, 0x0, .bool, .wo, .volatile, 0, 0, 1⟩,
  ⟨0x5200, 0x0, 1, 0x1, 0x1, .u64, .ro, .volatile, 0, 0, 18446744073709551615⟩,
  ⟨0x5200, 0x0, 1, 0x2, 0x2, .u32, .ro, .volatile, 0, 0, 4294967295⟩,
  ⟨0x5200, 0x0, 1, 0x3, 0x3, .u32, .ro, .retained, 0, 0, 4294967295⟩,
  ⟨0x5200, 0x0, 1, 0x4, 0x4, .u32, .ro, .volatile, 0, 0, 4294967295⟩,
  ⟨0x5201, 0x0, 1, 0x1, 0x11, .u32, .ro, .volatile, 0, 0, 4294967295⟩]

/-- Rows of the indices 0x6000 to 0x6FFF. -/
def objRows6 : List ObjRow := [
  ⟨0x6100, 0x1, 256, 0x1, 0x1, .u8, .rwc, .stored, 0, 0, 4⟩,
  ⟨0x6100, 0x1, 256, 0x2, 0x2, .u8, .rwc, .stored, 0, 0, 191⟩,
  ⟨0x6100, 0x1, 256, 0x3, 0x3, .u32, .rwc, .stored, 0, 0, 4294967295⟩,
  ⟨0x6100, 0x1, 256, 0x4, 0x4, .u8, .rwc, .stored, 255, 0, 255⟩,
  ⟨0x6100, 0x1, 256, 0x5, 0x5, .u8, .rwc, .stored, 3, 1, 255⟩,
  ⟨0x6100, 0x1, 256, 0x6, 0x6, .u8, .rwc, .stored, 2, 1, 16⟩,
  ⟨0x6100, 0x1, 256, 0x7, 0x7, .u16, .rwc, .stored, 4, 1, 1000⟩,
  ⟨0x6100, 0x1, 256, 0x8, 0x8, .u8, .rwc, .stored, 4, 1, 255⟩,
  ⟨0x6100, 0x1, 256, 0x9, 0x9, .u16, .rwc, .stored, 1000, 1, 65535⟩,
  ⟨0x6100, 0x1, 256, 0xA, 0xA, .u16, .rwc, .stored, 0, 0, 1476⟩,
  ⟨0x6100, 0x1, 256, 0xB, 0x11, .u32, .rwc, .stored, 0, 0, 4294967295⟩,
  ⟨0x6200, 0x1, 256, 0x1, 0x1, .u8, .ro, .volatile, 0, 0, 255⟩,
  ⟨0x6200, 0x1, 256, 0x2, 0x4, .u32, .ro, .volatile, 0, 0, 4294967295⟩,
  ⟨0x6200, 0x1, 256, 0x5, 0x5, .u16, .ro, .volatile, 0, 0, 65535⟩,
  ⟨0x6300, 0x0, 1, 0x0, 0x0, .u8, .wo, .volatile, 0, 0, 255⟩]

/-- Rows of the indices 0x7000 to 0x7FFF, part 1 of 2. -/
def objRows7a : List ObjRow := [
  ⟨0x7000, 0x0, 1, 0x1, 0x5, .u32, .ro, .volatile, 0, 0, 4294967295⟩,
  ⟨0x7001, 0x0, 1, 0x1, 0x1, .u8, .rwc, .stored, 4, 1, 255⟩,
  ⟨0x7001, 0x0, 1, 0x2, 0x2, .u16, .rwc, .stored, 10, 1, 3600⟩,
  ⟨0x7001, 0x0, 1, 0x3, 0x3, .u8, .rwc, .stored, 8, 1, 255⟩,
  ⟨0x7001, 0x0, 1, 0x4, 0x4, .u16, .rwc, .stored, 10, 1, 3600⟩,
  ⟨0x7001, 0x0, 1, 0x5, 0x5, .u16, .rwc, .stored, 30, 1, 3600⟩,
  ⟨0x7010, 0x0, 1, 0x1, 0x44, .octet 32, .ro, .volatile, 0, 0, 0⟩,
  ⟨0x7100, 0x0, 1, 0x1, 0x1, .u64, .ro, .volatile, 0, 0, 18446744073709551615⟩,
  ⟨0x7100, 0x0, 1, 0x2, 0x2, .u32, .ro, .volatile, 0, 0, 4294967295⟩,
  ⟨0x7100, 0x0, 1, 0x3, 0x3, .u8, .ro, .volatile, 0, 0, 255⟩,
  ⟨0x7100, 0x0, 1, 0x4, 0x4, .u64, .ro, .volatile, 0, 0, 18446744073709551615⟩,
  ⟨0x7101, 0x0, 1, 0x0, 0x0, .domain 4096, .rwc, .stored, 0, 0, 0⟩,
  ⟨0x7102, 0x0, 1, 0x1, 0x1, .u16, .rwc, .stored, 8195, 0, 65535⟩,
  ⟨0x7102, 0x0, 1, 0x2, 0x2, .u16, .rwc, .stored, 4113, 0, 65535⟩,
  ⟨0x7102, 0x0, 1, 0x3, 0x3, .u16, .rwc, .stored, 2, 0, 65535⟩,
  ⟨0x7102, 0x0, 1, 0x4, 0x10, .u16, .rwc, .stored, 0, 0, 65535⟩,
  ⟨0x7102, 0x0, 1, 0x11, 0x11, .u16, .rwc, .stored, 1024, 0, 4095⟩,
  ⟨0x7110, 0x0, 1, 0x1, 0x1, .u8, .wo, .volatile, 0, 0, 255⟩,
  ⟨0x7110, 0x0, 1, 0x2, 0x2, .u8, .rw, .volatile, 0, 0, 2⟩,
  ⟨0x7110, 0x0, 1, 0x3, 0x3, .u64, .rw, .volatile, 0, 0, 18446744073709551615⟩,
  ⟨0x7110, 0x0, 1, 0x4, 0x4, .u32, .rw, .volatile, 0, 0, 4294967295⟩,
  ⟨0x7110, 0x0, 1, 0x5, 0x5, .u8, .ro, .volatile, 0, 0, 255⟩,
  ⟨0x7110, 0x0, 1, 0x6, 0x6, .u64, .ro, .stored, 0, 0, 18446744073709551615⟩,
  ⟨0x7110, 0x0, 1, 0x7, 0x7, .u8, .ro, .stored, 0, 0, 255⟩,
  ⟨0x7111, 0x0, 1, 0x0, 0x0, .domain 33554432, .ro, .volatile, 0, 0, 0⟩,
  ⟨0x7200, 0x0, 1, 0x1, 0x1, .u8, .rwc, .stored, 8, 4, 8⟩,
  ⟨0x7200, 0x0, 1, 0x2, 0x2, .u8, .rwc, .stored, 10, 5, 60⟩,
  ⟨0x7200, 0x0, 1, 0x3, 0x3, .u16, .rwc, .stored, 120, 1, 600⟩,
  ⟨0x7201, 0x0, 1, 0x0, 0x0, .u16, .wo, .volatile, 0, 0, 65535⟩,
  ⟨0x7202, 0x0, 1, 0x1, 0x3, .u8, .ro, .volatile, 0, 0, 255⟩,
  ⟨0x7202, 0x0, 1, 0x4, 0x6, .u32, .ro, .volatile, 0, 0, 4294967295⟩,
  ⟨0x7203, 0x0, 1, 0x1, 0x3, .u16, .ro, .volatile, 0, 0, 65535⟩,
  ⟨0x7210, 0x0, 1, 0x1, 0x2, .u32, .ro, .volatile, 4294967295, 0, 4294967295⟩,
  ⟨0x7210, 0x0, 1, 0x3, 0x3, .u16, .ro, .volatile, 1200, 0, 65535⟩,
  ⟨0x7210, 0x0, 1, 0x4, 0x6, .u16, .ro, .volatile, 0, 0, 65535⟩,
  ⟨0x7210, 0x0, 1, 0x7, 0x7, .u32, .ro, .volatile, 0, 0, 4294967295⟩,
  ⟨0x7211, 0x0, 1, 0x1, 0x6, .u16, .ro, .volatile, 0, 0, 65535⟩,
  ⟨0x7211, 0x0, 1, 0x7, 0x9, .u32, .ro, .volatile, 0, 0, 4294967295⟩,
  ⟨0x7211, 0x0, 1, 0xA, 0xA, .u16, .ro, .volatile, 0, 0, 65535⟩,
  ⟨0x7212, 0x0, 1, 0x1, 0x11, .u16, .ro, .volatile, 1000, 0, 65535⟩,
  ⟨0x7220, 0x0, 1, 0x0, 0x0, .octet 16, .wo, .volatile, 0, 0, 0⟩,
  ⟨0x7221, 0x0, 1, 0x0, 0x0, .octet 64, .wo, .volatile, 0, 0, 0⟩,
  ⟨0x7300, 0x0, 1, 0x1, 0x1, .bool, .rwc, .stored, 0, 0, 1⟩,
  ⟨0x7300, 0x0, 1, 0x2, 0x2, .u8, .rwc, .stored, 0, 0, 1⟩,
  ⟨0x7300, 0x0, 1, 0x3, 0x3, .u32, .rwc, .stored, 1, 1, 4294967294⟩]

/-- Rows of the indices 0x7000 to 0x7FFF, part 2 of 2. -/
def objRows7b : List ObjRow := [
  ⟨0x7300, 0x0, 1, 0x4, 0x4, .bool, .rwc, .stored, 1, 0, 1⟩,
  ⟨0x7300, 0x0, 1, 0x5, 0x5, .bool, .rwc, .stored, 1, 0, 1⟩,
  ⟨0x7300, 0x0, 1, 0x6, 0x6, .u16, .rwc, .stored, 60, 10, 3600⟩,
  ⟨0x7300, 0x0, 1, 0x7, 0x7, .u8, .rwc, .stored, 4, 0, 16⟩,
  ⟨0x7300, 0x0, 1, 0x8, 0x8, .u8, .rwc, .stored, 8, 1, 255⟩,
  ⟨0x7300, 0x0, 1, 0x9, 0x9, .u16, .rwc, .stored, 10, 1, 600⟩,
  ⟨0x7301, 0x0, 1, 0x1, 0x2, .u8, .ro, .volatile, 3, 0, 255⟩,
  ⟨0x7301, 0x0, 1, 0x3, 0x6, .u32, .ro, .volatile, 0, 0, 4294967295⟩,
  ⟨0x7302, 0x0, 1, 0x0, 0x0, .bool, .wo, .volatile, 0, 0, 1⟩,
  ⟨0x7400, 0x0, 1, 0x1, 0x5, .u16, .ro, .volatile, 0, 0, 65535⟩,
  ⟨0x7401, 0x0, 1, 0x1, 0x2, .u32, .ro, .volatile, 0, 0, 4294967295⟩,
  ⟨0x7401, 0x0, 1, 0x3, 0x3, .u32, .ro, .stored, 0, 0, 4294967295⟩,
  ⟨0x7402, 0x0, 1, 0x0, 0x0, .u16, .ro, .volatile, 0, 0, 65535⟩,
  ⟨0x7403, 0x0, 1, 0x1, 0x4, .u16, .ro, .volatile, 0, 0, 65535⟩,
  ⟨0x7403, 0x0, 1, 0x5, 0x5, .i16, .ro, .volatile, 0, -32768, 32767⟩,
  ⟨0x7403, 0x0, 1, 0x6, 0x6, .u16, .ro, .volatile, 0, 0, 65535⟩,
  ⟨0x7410, 0x0, 1, 0x1, 0x1, .bool, .rwc, .stored, 1, 0, 1⟩]

/-- Rows of the indices 0x7000 to 0x7FFF. -/
def objRows7 : List ObjRow := objRows7a ++ objRows7b

/-- All objects. -/
def objRows : List ObjRow :=
  objRows0 ++ objRows1 ++ objRows2 ++ objRows3 ++ objRows4 ++ objRows5 ++ objRows6 ++ objRows7

/-- The rows whose indices share the first digit of `i`: no row's indices cross it. -/
def objPart (i : Nat) : List ObjRow :=
  match i / 4096 with
  | 0 => objRows0
  | 1 => objRows1
  | 2 => objRows2
  | 3 => objRows3
  | 4 => objRows4
  | 5 => objRows5
  | 6 => objRows6
  | 7 => objRows7
  | _ => []

/-- Largest length of a type, in bytes. -/
def typeLen : ObjType → Nat
  | .bool | .u8 | .i8 => 1
  | .u16 | .i16 => 2
  | .u32 | .i32 | .f32 => 4
  | .u64 | .i64 | .f64 | .time64 => 8
  | .octet n | .vstring n | .domain n => n

/-- A fixed-size type must arrive whole (16 R440). -/
def typeFixed : ObjType → Bool
  | .vstring _ | .domain _ => false
  | _ => true

/-- The row's index range holds `i`. -/
def rowHasIndex (r : ObjRow) (i : Nat) : Bool :=
  if r.stride = 0 then decide (i = r.index)
  else decide (r.index ≤ i) && decide ((i - r.index) % r.stride = 0) && decide ((i - r.index) / r.stride < r.count)

/-- The row of index `i`, sub-index `j`. -/
def findObj (i j : Nat) : Option ObjRow :=
  (objPart i).find? (fun r => rowHasIndex r i && decide (r.slo ≤ j) && decide (j ≤ r.shi))

/-- Some row has the index. -/
def hasIndex (i : Nat) : Bool := (objPart i).any (fun r => rowHasIndex r i)

/-- The highest sub-index in use at an index (00 R18). -/
def topSub (i : Nat) : Nat :=
  ((objPart i).filter (fun r => rowHasIndex r i)).foldl (fun a r => max a r.shi) 0

/-- The default value of a row, as bytes. -/
def objDefault (r : ObjRow) : List Byte :=
  if typeFixed r.ty then leBytes (typeLen r.ty) r.dflt else []

end Sys2Proof.Machine
end

