-- ==== Sys2Proof/Machine/Regs.lean ====
section
/-! DEFINITION. The register map: every register of every chapter with its address, reset value, fields and access
codes (00 R14), written from the register tables of the chapters. -/

namespace Sys2Proof.Machine

/-- Access codes of register fields (00 R14). -/
inductive Acc | ro | rw | wo | w1c | rc | w1s
  deriving DecidableEq, Repr

/-- Whose copy of a register an access reaches: each lane has its own, or all lanes share the hub's, or each
application core has its own CSR. -/
inductive View | lane | hub | csr
  deriving DecidableEq, Repr

/-- A bit field of a register: the register's lane address and the field's bits. -/
structure Fld where
  reg : Nat
  hi : Nat
  lo : Nat
  deriving DecidableEq, Repr

/-- One field of a register's row. -/
structure FRow where
  hi : Nat
  lo : Nat
  acc : Acc
  deriving DecidableEq, Repr

/-- One row of the register tables; a row with `count` or `count2` above 1 is an array of registers. -/
structure RegRow where
  base : Nat
  stride : Nat
  count : Nat
  stride2 : Nat
  count2 : Nat
  /-- Width in bytes, 4 or 8. -/
  size : Nat
  view : View
  reset : Nat
  /-- Added to the reset value once for lane B and twice for lane C. -/
  laneStep : Nat
  /-- Application cores see the register as read-only; only the lane-management core writes it. -/
  mgmt : Bool
  flds : List FRow
  deriving DecidableEq, Repr

/-! ### Tick unit (02 R78) -/

abbrev TCK_CFG : Fld := ⟨0x40000000, 31, 0⟩
abbrev TCK_CFG_AIMG_KIB : Fld := ⟨0x40000000, 15, 8⟩
abbrev TCK_CFG_PERIOD : Fld := ⟨0x40000000, 3, 0⟩
abbrev TCK_FRAME : Fld := ⟨0x40000008, 47, 0⟩
abbrev TCK_STATUS : Fld := ⟨0x40000010, 31, 0⟩
abbrev TCK_STATUS_HUB_LOSS : Fld := ⟨0x40000010, 31, 31⟩
abbrev TCK_STATUS_PHASE : Fld := ⟨0x40000010, 27, 24⟩
abbrev TCK_STATUS_OVR_NOW : Fld := ⟨0x40000010, 15, 8⟩
abbrev TCK_STATUS_OUT_OF_STEP : Fld := ⟨0x40000010, 2, 2⟩
abbrev TCK_STATUS_MARKER_OK : Fld := ⟨0x40000010, 1, 1⟩
abbrev TCK_STATUS_RUN : Fld := ⟨0x40000010, 0, 0⟩
abbrev TCK_SINCE : Fld := ⟨0x40000018, 31, 0⟩
abbrev TCK_DL_SAFE : Fld := ⟨0x40000020, 31, 0⟩
abbrev TCK_DL_NS : Fld := ⟨0x40000024, 31, 0⟩
abbrev TCK_CLS_DONE : Fld := ⟨0x40000028, 7, 0⟩
abbrev TCK_CLS_EXP : Fld := ⟨0x4000002C, 7, 0⟩
abbrev TCK_CLS_CFG : Fld := ⟨0x40000030, 31, 0⟩
abbrev TCK_CLS_CFG_TOL : Fld := ⟨0x40000030, 31, 16⟩
abbrev TCK_CLS_CFG_SAFE : Fld := ⟨0x40000030, 7, 0⟩
abbrev TCK_OVR_CNT : Fld := ⟨0x40000034, 31, 0⟩
abbrev TCK_SYNC : Fld := ⟨0x40000038, 31, 0⟩
abbrev TCK_SYNC_LOSS_LIM : Fld := ⟨0x40000038, 31, 24⟩
abbrev TCK_SYNC_WIN : Fld := ⟨0x40000038, 23, 14⟩
abbrev TCK_SYNC_SLEW : Fld := ⟨0x40000038, 13, 7⟩
abbrev TCK_OFFSET : Fld := ⟨0x4000003C, 31, 0⟩
abbrev TCK_OFFSET_MARKER_OFS : Fld := ⟨0x4000003C, 31, 16⟩
abbrev TCK_OFFSET_MEDIAN_OFS : Fld := ⟨0x4000003C, 15, 0⟩
abbrev TCK_INT_EN : Fld := ⟨0x40000040, 31, 0⟩
abbrev TCK_INT_EN_HUB_LOSS : Fld := ⟨0x40000040, 7, 7⟩
abbrev TCK_INT_EN_MARKER_REJ : Fld := ⟨0x40000040, 6, 6⟩
abbrev TCK_INT_EN_OVR : Fld := ⟨0x40000040, 5, 5⟩
abbrev TCK_INT_EN_DL_NS : Fld := ⟨0x40000040, 4, 4⟩
abbrev TCK_INT_EN_DL_SAFE : Fld := ⟨0x40000040, 3, 3⟩
abbrev TCK_INT_EN_END_A : Fld := ⟨0x40000040, 2, 2⟩
abbrev TCK_INT_EN_END_L : Fld := ⟨0x40000040, 1, 1⟩
abbrev TCK_INT_EN_EDGE : Fld := ⟨0x40000040, 0, 0⟩
abbrev TCK_INT_STAT : Fld := ⟨0x40000044, 31, 0⟩
abbrev TCK_INT_STAT_HUB_LOSS : Fld := ⟨0x40000044, 7, 7⟩
abbrev TCK_INT_STAT_MARKER_REJ : Fld := ⟨0x40000044, 6, 6⟩
abbrev TCK_INT_STAT_OVR : Fld := ⟨0x40000044, 5, 5⟩
abbrev TCK_INT_STAT_DL_NS : Fld := ⟨0x40000044, 4, 4⟩
abbrev TCK_INT_STAT_DL_SAFE : Fld := ⟨0x40000044, 3, 3⟩
abbrev TCK_INT_STAT_END_A : Fld := ⟨0x40000044, 2, 2⟩
abbrev TCK_INT_STAT_END_L : Fld := ⟨0x40000044, 1, 1⟩
abbrev TCK_INT_STAT_EDGE : Fld := ⟨0x40000044, 0, 0⟩
abbrev TCK_PLAN : Fld := ⟨0x40000048, 31, 0⟩
abbrev TCK_PLAN_END_A : Fld := ⟨0x40000048, 31, 16⟩
abbrev TCK_PLAN_END_L : Fld := ⟨0x40000048, 15, 0⟩
abbrev TCK_MARGIN_GC : Fld := ⟨0x40000050, 31, 0⟩
abbrev TCK_MARGIN_RUN : Fld := ⟨0x40000054, 31, 0⟩
abbrev TCK_HWM : Fld := ⟨0x40000058, 31, 0⟩
abbrev TCK_CNT : Fld := ⟨0x4000005C, 31, 0⟩
abbrev TCK_CNT_MREJ : Fld := ⟨0x4000005C, 31, 16⟩
abbrev TCK_CNT_OVR : Fld := ⟨0x4000005C, 15, 0⟩

/-- The registers of this block. -/
def tickRows : List RegRow := [
  ⟨0x40000000, 0x0, 1, 0x0, 1, 4, .lane, 0x802, 0x0, false, [⟨15, 8, .ro⟩, ⟨3, 0, .ro⟩]⟩,
  ⟨0x40000008, 0x0, 1, 0x0, 1, 8, .lane, 0x0, 0x0, false, [⟨47, 0, .ro⟩]⟩,
  ⟨0x40000010, 0x0, 1, 0x0, 1, 4, .lane, 0x0, 0x0, false, [⟨31, 31, .ro⟩, ⟨27, 24, .ro⟩, ⟨15, 8, .ro⟩, ⟨2, 2, .ro⟩, ⟨1, 1, .ro⟩, ⟨0, 0, .ro⟩]⟩,
  ⟨0x40000018, 0x0, 1, 0x0, 1, 4, .lane, 0x0, 0x0, false, [⟨31, 0, .ro⟩]⟩,
  ⟨0x40000020, 0x0, 1, 0x0, 1, 4, .lane, 0xE4458, 0x0, false, [⟨31, 0, .ro⟩]⟩,
  ⟨0x40000024, 0x0, 1, 0x0, 1, 4, .lane, 0xE7EF0, 0x0, false, [⟨31, 0, .ro⟩]⟩,
  ⟨0x40000028, 0x0, 1, 0x0, 1, 4, .lane, 0x0, 0x0, false, [⟨7, 0, .w1s⟩]⟩,
  ⟨0x4000002C, 0x0, 1, 0x0, 1, 4, .lane, 0x0, 0x0, true, [⟨7, 0, .rw⟩]⟩,
  ⟨0x40000030, 0x0, 1, 0x0, 1, 4, .lane, 0x0, 0x0, true, [⟨31, 16, .rw⟩, ⟨7, 0, .rw⟩]⟩,
  ⟨0x40000034, 0x0, 1, 0x0, 1, 4, .lane, 0x0, 0x0, false, [⟨31, 0, .ro⟩]⟩,
  ⟨0x40000038, 0x0, 1, 0x0, 1, 4, .lane, 0x10320500, 0x0, true, [⟨31, 24, .rw⟩, ⟨23, 14, .rw⟩, ⟨13, 7, .rw⟩]⟩,
  ⟨0x4000003C, 0x0, 1, 0x0, 1, 4, .lane, 0x0, 0x0, false, [⟨31, 16, .ro⟩, ⟨15, 0, .ro⟩]⟩,
  ⟨0x40000040, 0x0, 1, 0x0, 1, 4, .lane, 0x0, 0x0, false, [⟨7, 7, .rw⟩, ⟨6, 6, .rw⟩, ⟨5, 5, .rw⟩, ⟨4, 4, .rw⟩, ⟨3, 3, .rw⟩, ⟨2, 2, .rw⟩, ⟨1, 1, .rw⟩, ⟨0, 0, .rw⟩]⟩,
  ⟨0x40000044, 0x0, 1, 0x0, 1, 4, .lane, 0x0, 0x0, false, [⟨7, 7, .w1c⟩, ⟨6, 6, .w1c⟩, ⟨5, 5, .w1c⟩, ⟨4, 4, .w1c⟩, ⟨3, 3, .w1c⟩, ⟨2, 2, .w1c⟩, ⟨1, 1, .w1c⟩, ⟨0, 0, .w1c⟩]⟩,
  ⟨0x40000048, 0x0, 1, 0x0, 1, 4, .lane, 0x25800C8, 0x0, false, [⟨31, 16, .ro⟩, ⟨15, 0, .ro⟩]⟩,
  ⟨0x40000050, 0x0, 1, 0x0, 1, 4, .lane, 0x0, 0x0, false, [⟨31, 0, .ro⟩]⟩,
  ⟨0x40000054, 0x0, 1, 0x0, 1, 4, .lane, 0x0, 0x0, false, [⟨31, 0, .ro⟩]⟩,
  ⟨0x40000058, 0x0, 1, 0x0, 1, 4, .lane, 0x0, 0x0, false, [⟨31, 0, .ro⟩]⟩,
  ⟨0x4000005C, 0x0, 1, 0x0, 1, 4, .lane, 0x0, 0x0, false, [⟨31, 16, .rc⟩, ⟨15, 0, .rc⟩]⟩]

/-! ### Mode registers (03 R108) -/

abbrev TCK_MODE : Fld := ⟨0x40000100, 31, 0⟩
abbrev TCK_MODE_CLOSING : Fld := ⟨0x40000100, 31, 31⟩
abbrev TCK_MODE_WARM : Fld := ⟨0x40000100, 30, 30⟩
abbrev TCK_MODE_LIFE : Fld := ⟨0x40000100, 26, 24⟩
abbrev TCK_MODE_PREV : Fld := ⟨0x40000100, 19, 16⟩
abbrev TCK_MODE_MODE : Fld := ⟨0x40000100, 3, 0⟩
abbrev TCK_MODE_EDGE : Fld := ⟨0x40000104, 31, 0⟩
abbrev TCK_WAKE : Fld := ⟨0x40000108, 31, 0⟩
abbrev TCK_WAKE_RESTART : Fld := ⟨0x40000108, 4, 4⟩
abbrev TCK_WAKE_KA_LOST : Fld := ⟨0x40000108, 3, 3⟩
abbrev TCK_WAKE_POWER : Fld := ⟨0x40000108, 2, 2⟩
abbrev TCK_WAKE_RTC : Fld := ⟨0x40000108, 1, 1⟩
abbrev TCK_WAKE_WAKE_IN : Fld := ⟨0x40000108, 0, 0⟩
abbrev TCK_START : Fld := ⟨0x4000010C, 31, 0⟩
abbrev TCK_START_TIME_MS : Fld := ⟨0x4000010C, 31, 16⟩
abbrev TCK_START_FAIL_STEP : Fld := ⟨0x4000010C, 15, 8⟩
abbrev TCK_START_QUICK : Fld := ⟨0x4000010C, 7, 7⟩
abbrev TCK_START_STV : Fld := ⟨0x4000010C, 6, 6⟩
abbrev TCK_START_LANES_OK : Fld := ⟨0x4000010C, 2, 0⟩

/-- The registers of this block. -/
def modeRows : List RegRow := [
  ⟨0x40000100, 0x0, 1, 0x0, 1, 4, .lane, 0x1, 0x0, false, [⟨31, 31, .ro⟩, ⟨30, 30, .ro⟩, ⟨26, 24, .ro⟩, ⟨19, 16, .ro⟩, ⟨3, 0, .ro⟩]⟩,
  ⟨0x40000104, 0x0, 1, 0x0, 1, 4, .lane, 0x0, 0x0, false, [⟨31, 0, .ro⟩]⟩,
  ⟨0x40000108, 0x0, 1, 0x0, 1, 4, .lane, 0x0, 0x0, false, [⟨4, 4, .ro⟩, ⟨3, 3, .ro⟩, ⟨2, 2, .ro⟩, ⟨1, 1, .ro⟩, ⟨0, 0, .ro⟩]⟩,
  ⟨0x4000010C, 0x0, 1, 0x0, 1, 4, .lane, 0x0, 0x0, false, [⟨31, 16, .ro⟩, ⟨15, 8, .ro⟩, ⟨7, 7, .ro⟩, ⟨6, 6, .ro⟩, ⟨2, 0, .ro⟩]⟩]

/-! ### Lane exchange unit (04 R137, R138) -/

abbrev XCH_CFG : Fld := ⟨0x40030000, 31, 0⟩
abbrev XCH_CFG_DIS_LIM : Fld := ⟨0x40030000, 15, 8⟩
abbrev XCH_LAYOUT : Fld := ⟨0x40030004, 31, 0⟩
abbrev XCH_LAYOUT_B_UNITS : Fld := ⟨0x40030004, 31, 20⟩
abbrev XCH_LAYOUT_T_CNT : Fld := ⟨0x40030004, 19, 10⟩
abbrev XCH_LAYOUT_N_CNT : Fld := ⟨0x40030004, 9, 0⟩
abbrev XCH_TA : Fld := ⟨0x40030008, 15, 0⟩
abbrev XCH_OWN : Fld := ⟨0x40030010, 31, 12⟩
abbrev XCH_AGREED : Fld := ⟨0x40030014, 31, 12⟩
abbrev XCH_SAFEMAP : Fld := ⟨0x40030018, 31, 12⟩
abbrev XCH_VLIST : Fld := ⟨0x40030020, 31, 12⟩
abbrev XCH_VCOUNT : Fld := ⟨0x40030024, 8, 0⟩
abbrev XCH_VOLUME : Fld := ⟨0x40030028, 20, 0⟩
abbrev XCH_STATUS : Fld := ⟨0x40030030, 31, 0⟩
abbrev XCH_STATUS_VLIST_ERR : Fld := ⟨0x40030030, 31, 31⟩
abbrev XCH_STATUS_WITHHOLD : Fld := ⟨0x40030030, 19, 19⟩
abbrev XCH_STATUS_NO_AGREE : Fld := ⟨0x40030030, 18, 18⟩
abbrev XCH_STATUS_FE_OK : Fld := ⟨0x40030030, 17, 17⟩
abbrev XCH_STATUS_DONE : Fld := ⟨0x40030030, 16, 16⟩
abbrev XCH_STATUS_USED : Fld := ⟨0x40030030, 10, 8⟩
abbrev XCH_STATUS_HELD : Fld := ⟨0x40030030, 6, 4⟩
abbrev XCH_STATUS_LANE : Fld := ⟨0x40030030, 1, 0⟩
abbrev XCH_LINK : Fld := ⟨0x40030034, 31, 0⟩
abbrev XCH_LINK_UP_PREV : Fld := ⟨0x40030034, 31, 31⟩
abbrev XCH_LINK_DELAY_PREV : Fld := ⟨0x40030034, 30, 16⟩
abbrev XCH_LINK_UP_NEXT : Fld := ⟨0x40030034, 15, 15⟩
abbrev XCH_LINK_DELAY_NEXT : Fld := ⟨0x40030034, 14, 0⟩
abbrev XCH_VRES (i : Nat) : Fld := ⟨0x40030040 + 0x4 * i, 31, 0⟩
abbrev XCH_AGVAL (i : Nat) : Fld := ⟨0x40030060 + 0x4 * i, 31, 0⟩
abbrev XCH_CNT_CHK : Fld := ⟨0x40030080, 31, 0⟩
abbrev XCH_CNT_CHK_BAD : Fld := ⟨0x40030080, 31, 16⟩
abbrev XCH_CNT_CHK_STALE : Fld := ⟨0x40030080, 15, 0⟩
abbrev XCH_CNT_LINK : Fld := ⟨0x40030084, 31, 0⟩
abbrev XCH_CNT_LINK_PREV : Fld := ⟨0x40030084, 31, 16⟩
abbrev XCH_CNT_LINK_NEXT : Fld := ⟨0x40030084, 15, 0⟩
abbrev XCH_CNT_DIS : Fld := ⟨0x40030088, 31, 0⟩
abbrev XCH_DIS_IN : Fld := ⟨0x4003008C, 31, 0⟩
abbrev XCH_CNT_SEAL : Fld := ⟨0x40030090, 15, 0⟩
abbrev XCH_INT_EN : Fld := ⟨0x400300A0, 31, 0⟩
abbrev XCH_INT_EN_SEAL : Fld := ⟨0x400300A0, 5, 5⟩
abbrev XCH_INT_EN_DIS : Fld := ⟨0x400300A0, 4, 4⟩
abbrev XCH_INT_EN_WITHHOLD : Fld := ⟨0x400300A0, 3, 3⟩
abbrev XCH_INT_EN_LATE : Fld := ⟨0x400300A0, 2, 2⟩
abbrev XCH_INT_EN_CHK : Fld := ⟨0x400300A0, 1, 1⟩
abbrev XCH_INT_EN_DONE : Fld := ⟨0x400300A0, 0, 0⟩
abbrev XCH_INT_STAT : Fld := ⟨0x400300A4, 31, 0⟩
abbrev XCH_INT_STAT_SEAL : Fld := ⟨0x400300A4, 5, 5⟩
abbrev XCH_INT_STAT_DIS : Fld := ⟨0x400300A4, 4, 4⟩
abbrev XCH_INT_STAT_WITHHOLD : Fld := ⟨0x400300A4, 3, 3⟩
abbrev XCH_INT_STAT_LATE : Fld := ⟨0x400300A4, 2, 2⟩
abbrev XCH_INT_STAT_CHK : Fld := ⟨0x400300A4, 1, 1⟩
abbrev XCH_INT_STAT_DONE : Fld := ⟨0x400300A4, 0, 0⟩

/-- The registers of this block. -/
def exchangeRows : List RegRow := [
  ⟨0x40030000, 0x0, 1, 0x0, 1, 4, .lane, 0x800, 0x0, true, [⟨15, 8, .rw⟩]⟩,
  ⟨0x40030004, 0x0, 1, 0x0, 1, 4, .lane, 0x0, 0x0, true, [⟨31, 20, .rw⟩, ⟨19, 10, .rw⟩, ⟨9, 0, .rw⟩]⟩,
  ⟨0x40030008, 0x0, 1, 0x0, 1, 4, .lane, 0x190, 0x0, true, [⟨15, 0, .ro⟩]⟩,
  ⟨0x40030010, 0x0, 1, 0x0, 1, 4, .lane, 0x0, 0x0, true, [⟨31, 12, .rw⟩]⟩,
  ⟨0x40030014, 0x0, 1, 0x0, 1, 4, .lane, 0x0, 0x0, true, [⟨31, 12, .rw⟩]⟩,
  ⟨0x40030018, 0x0, 1, 0x0, 1, 4, .lane, 0x0, 0x0, true, [⟨31, 12, .rw⟩]⟩,
  ⟨0x40030020, 0x0, 1, 0x0, 1, 4, .lane, 0x0, 0x0, true, [⟨31, 12, .rw⟩]⟩,
  ⟨0x40030024, 0x0, 1, 0x0, 1, 4, .lane, 0x0, 0x0, true, [⟨8, 0, .rw⟩]⟩,
  ⟨0x40030028, 0x0, 1, 0x0, 1, 4, .lane, 0x0, 0x0, true, [⟨20, 0, .ro⟩]⟩,
  ⟨0x40030030, 0x0, 1, 0x0, 1, 4, .lane, 0x0, 0x1, true, [⟨31, 31, .ro⟩, ⟨19, 19, .ro⟩, ⟨18, 18, .ro⟩, ⟨17, 17, .ro⟩, ⟨16, 16, .ro⟩, ⟨10, 8, .ro⟩, ⟨6, 4, .ro⟩, ⟨1, 0, .ro⟩]⟩,
  ⟨0x40030034, 0x0, 1, 0x0, 1, 4, .lane, 0x0, 0x0, true, [⟨31, 31, .ro⟩, ⟨30, 16, .ro⟩, ⟨15, 15, .ro⟩, ⟨14, 0, .ro⟩]⟩,
  ⟨0x40030040, 0x4, 8, 0x0, 1, 4, .lane, 0x0, 0x0, true, [⟨31, 0, .ro⟩]⟩,
  ⟨0x40030060, 0x4, 8, 0x0, 1, 4, .lane, 0x0, 0x0, true, [⟨31, 0, .ro⟩]⟩,
  ⟨0x40030080, 0x0, 1, 0x0, 1, 4, .lane, 0x0, 0x0, true, [⟨31, 16, .rc⟩, ⟨15, 0, .rc⟩]⟩,
  ⟨0x40030084, 0x0, 1, 0x0, 1, 4, .lane, 0x0, 0x0, true, [⟨31, 16, .rc⟩, ⟨15, 0, .rc⟩]⟩,
  ⟨0x40030088, 0x0, 1, 0x0, 1, 4, .lane, 0x0, 0x0, true, [⟨31, 0, .rc⟩]⟩,
  ⟨0x4003008C, 0x0, 1, 0x0, 1, 4, .lane, 0x0, 0x0, true, [⟨31, 0, .ro⟩]⟩,
  ⟨0x40030090, 0x0, 1, 0x0, 1, 4, .lane, 0x0, 0x0, true, [⟨15, 0, .rc⟩]⟩,
  ⟨0x400300A0, 0x0, 1, 0x0, 1, 4, .lane, 0x0, 0x0, true, [⟨5, 5, .rw⟩, ⟨4, 4, .rw⟩, ⟨3, 3, .rw⟩, ⟨2, 2, .rw⟩, ⟨1, 1, .rw⟩, ⟨0, 0, .rw⟩]⟩,
  ⟨0x400300A4, 0x0, 1, 0x0, 1, 4, .lane, 0x0, 0x0, true, [⟨5, 5, .w1c⟩, ⟨4, 4, .w1c⟩, ⟨3, 3, .w1c⟩, ⟨2, 2, .w1c⟩, ⟨1, 1, .w1c⟩, ⟨0, 0, .w1c⟩]⟩]

/-! ### Coded-arithmetic CSRs (05 R166) -/

abbrev CDA_CTL : Fld := ⟨0x7C0, 63, 0⟩
abbrev CDA_CTL_FTRAP : Fld := ⟨0x7C0, 2, 2⟩
abbrev CDA_CTL_PASS : Fld := ⟨0x7C0, 1, 1⟩
abbrev CDA_CTL_EN : Fld := ⟨0x7C0, 0, 0⟩
abbrev CDA_D : Fld := ⟨0x7C1, 14, 0⟩
abbrev CDA_S : Fld := ⟨0x7C2, 3, 0⟩
abbrev CDA_A : Fld := ⟨0x7C3, 15, 0⟩
abbrev CDA_PSIG : Fld := ⟨0x7C4, 31, 0⟩
abbrev CDA_ESIG : Fld := ⟨0x7C5, 31, 0⟩
abbrev CDA_FAULT : Fld := ⟨0x7C6, 63, 0⟩
abbrev CDA_FAULT_ILL : Fld := ⟨0x7C6, 5, 5⟩
abbrev CDA_FAULT_SIG : Fld := ⟨0x7C6, 4, 4⟩
abbrev CDA_FAULT_BOOL : Fld := ⟨0x7C6, 3, 3⟩
abbrev CDA_FAULT_FRANGE : Fld := ⟨0x7C6, 2, 2⟩
abbrev CDA_FAULT_IRANGE : Fld := ⟨0x7C6, 1, 1⟩
abbrev CDA_FAULT_RES : Fld := ⟨0x7C6, 0, 0⟩
abbrev CDA_FPC : Fld := ⟨0x7C7, 63, 0⟩
abbrev CDA_ICNT : Fld := ⟨0x7C8, 31, 0⟩
abbrev CDA_SEED : Fld := ⟨0x7C9, 14, 0⟩

/-- The registers of this block. -/
def codedRows : List RegRow := [
  ⟨0x7C0, 0x0, 1, 0x0, 1, 8, .csr, 0x0, 0x0, false, [⟨2, 2, .rw⟩, ⟨1, 1, .rw⟩, ⟨0, 0, .rw⟩]⟩,
  ⟨0x7C1, 0x0, 1, 0x0, 1, 8, .csr, 0x0, 0x0, false, [⟨14, 0, .ro⟩]⟩,
  ⟨0x7C2, 0x0, 1, 0x0, 1, 8, .csr, 0x0, 0x0, false, [⟨3, 0, .ro⟩]⟩,
  ⟨0x7C3, 0x0, 1, 0x0, 1, 8, .csr, 0xE523, 0x0, false, [⟨15, 0, .ro⟩]⟩,
  ⟨0x7C4, 0x0, 1, 0x0, 1, 8, .csr, 0x0, 0x0, false, [⟨31, 0, .rw⟩]⟩,
  ⟨0x7C5, 0x0, 1, 0x0, 1, 8, .csr, 0x0, 0x0, false, [⟨31, 0, .rw⟩]⟩,
  ⟨0x7C6, 0x0, 1, 0x0, 1, 8, .csr, 0x0, 0x0, false, [⟨5, 5, .w1c⟩, ⟨4, 4, .w1c⟩, ⟨3, 3, .w1c⟩, ⟨2, 2, .w1c⟩, ⟨1, 1, .w1c⟩, ⟨0, 0, .w1c⟩]⟩,
  ⟨0x7C7, 0x0, 1, 0x0, 1, 8, .csr, 0x0, 0x0, false, [⟨63, 0, .ro⟩]⟩,
  ⟨0x7C8, 0x0, 1, 0x0, 1, 8, .csr, 0x0, 0x0, false, [⟨31, 0, .rw⟩]⟩,
  ⟨0x7C9, 0x0, 1, 0x0, 1, 8, .csr, 0x0, 0x2AAA, false, [⟨14, 0, .ro⟩]⟩]

/-! ### Voter-2 port and voter 1 (06 R196, R197) -/

abbrev VOT_IMG (i : Nat) : Fld := ⟨0x40020000 + 0x4 * i, 31, 0⟩
abbrev VOT_CLS0 : Fld := ⟨0x40020020, 31, 0⟩
abbrev VOT_CLS1 : Fld := ⟨0x40020024, 31, 0⟩
abbrev VOT_SPOWN : Fld := ⟨0x40020028, 31, 0⟩
abbrev VOT_CTL : Fld := ⟨0x4002002C, 31, 0⟩
abbrev VOT_CTL_WD_LIM : Fld := ⟨0x4002002C, 23, 20⟩
abbrev VOT_CTL_WH_LIM : Fld := ⟨0x4002002C, 19, 16⟩
abbrev VOT_CTL_SPLIT : Fld := ⟨0x4002002C, 1, 1⟩
abbrev VOT_CTL_SEND : Fld := ⟨0x4002002C, 0, 0⟩
abbrev VOT_V2FRAME : Fld := ⟨0x40020030, 47, 0⟩
abbrev VOT_V2STAT : Fld := ⟨0x40020038, 31, 0⟩
abbrev VOT_V2STAT_VALID : Fld := ⟨0x40020038, 31, 31⟩
abbrev VOT_V2STAT_HALT : Fld := ⟨0x40020038, 30, 30⟩
abbrev VOT_V2STAT_CAND_OK : Fld := ⟨0x40020038, 26, 24⟩
abbrev VOT_V2STAT_MEMBERS : Fld := ⟨0x40020038, 22, 20⟩
abbrev VOT_V2STAT_OUTCOME : Fld := ⟨0x40020038, 11, 0⟩
abbrev VOT_V2OUT : Fld := ⟨0x4002003C, 16, 0⟩
abbrev VOT_SMAP : Fld := ⟨0x40020040, 31, 12⟩
abbrev VOT_SCFG : Fld := ⟨0x40020044, 31, 0⟩
abbrev VOT_SCFG_SLICE_KIB : Fld := ⟨0x40020044, 15, 8⟩
abbrev VOT_SCFG_ENTRIES : Fld := ⟨0x40020044, 6, 0⟩
abbrev VOT_SUM : Fld := ⟨0x40020048, 31, 0⟩
abbrev VOT_SUM_PREV : Fld := ⟨0x4002004C, 31, 0⟩
abbrev VOT_SUM_NEXT : Fld := ⟨0x40020050, 31, 0⟩
abbrev VOT_SLICE : Fld := ⟨0x40020054, 15, 0⟩
abbrev VOT_RLN : Fld := ⟨0x40020058, 31, 0⟩
abbrev VOT_RLN_ROLE : Fld := ⟨0x40020058, 31, 30⟩
abbrev VOT_RLN_PASS : Fld := ⟨0x40020058, 29, 28⟩
abbrev VOT_RLN_DUE : Fld := ⟨0x40020058, 15, 0⟩
abbrev VOT_DIRTY : Fld := ⟨0x4002005C, 15, 0⟩
abbrev VOT_CNT : Fld := ⟨0x40020060, 31, 0⟩
abbrev VOT_CNT_DUP : Fld := ⟨0x40020060, 31, 16⟩
abbrev VOT_CNT_PAGE : Fld := ⟨0x40020060, 15, 0⟩
abbrev VOT_INT_EN : Fld := ⟨0x40020070, 31, 0⟩
abbrev VOT_INT_EN_RLN_DONE : Fld := ⟨0x40020070, 3, 3⟩
abbrev VOT_INT_EN_SUM_DIFF : Fld := ⟨0x40020070, 2, 2⟩
abbrev VOT_INT_EN_MEMBERS : Fld := ⟨0x40020070, 1, 1⟩
abbrev VOT_INT_EN_STATUS : Fld := ⟨0x40020070, 0, 0⟩
abbrev VOT_INT_STAT : Fld := ⟨0x40020074, 31, 0⟩
abbrev VOT_INT_STAT_RLN_DONE : Fld := ⟨0x40020074, 3, 3⟩
abbrev VOT_INT_STAT_SUM_DIFF : Fld := ⟨0x40020074, 2, 2⟩
abbrev VOT_INT_STAT_MEMBERS : Fld := ⟨0x40020074, 1, 1⟩
abbrev VOT_INT_STAT_STATUS : Fld := ⟨0x40020074, 0, 0⟩
abbrev VOT_V1_IMG (i : Nat) : Fld := ⟨0x50340000 + 0x4 * i, 31, 0⟩
abbrev VOT_V1_MAPID : Fld := ⟨0x50340020, 31, 0⟩
abbrev VOT_V1_STATUS : Fld := ⟨0x50340024, 31, 0⟩
abbrev VOT_V1_STATUS_HALT : Fld := ⟨0x50340024, 31, 31⟩
abbrev VOT_V1_STATUS_MEMBERS : Fld := ⟨0x50340024, 22, 20⟩
abbrev VOT_V1_STATUS_OUTCOME : Fld := ⟨0x50340024, 11, 0⟩
abbrev VOT_V1_FRAME : Fld := ⟨0x50340028, 47, 0⟩
abbrev VOT_V1_OUT : Fld := ⟨0x50340030, 16, 0⟩
abbrev VOT_V1_CNT : Fld := ⟨0x50340034, 31, 0⟩
abbrev VOT_V1_CNT_INVALID : Fld := ⟨0x50340034, 31, 16⟩
abbrev VOT_V1_CNT_MISSING : Fld := ⟨0x50340034, 15, 0⟩

/-- The registers of this block. -/
def voteRows : List RegRow := [
  ⟨0x40020000, 0x4, 8, 0x0, 1, 4, .lane, 0x0, 0x0, true, [⟨31, 0, .wo⟩]⟩,
  ⟨0x40020020, 0x0, 1, 0x0, 1, 4, .lane, 0x0, 0x0, true, [⟨31, 0, .rw⟩]⟩,
  ⟨0x40020024, 0x0, 1, 0x0, 1, 4, .lane, 0x0, 0x0, true, [⟨31, 0, .rw⟩]⟩,
  ⟨0x40020028, 0x0, 1, 0x0, 1, 4, .lane, 0x0, 0x0, true, [⟨31, 0, .rw⟩]⟩,
  ⟨0x4002002C, 0x0, 1, 0x0, 1, 4, .lane, 0x0, 0x0, true, [⟨23, 20, .rw⟩, ⟨19, 16, .rw⟩, ⟨1, 1, .rw⟩, ⟨0, 0, .w1s⟩]⟩,
  ⟨0x40020030, 0x0, 1, 0x0, 1, 8, .lane, 0x0, 0x0, true, [⟨47, 0, .ro⟩]⟩,
  ⟨0x40020038, 0x0, 1, 0x0, 1, 4, .lane, 0x0, 0x0, true, [⟨31, 31, .ro⟩, ⟨30, 30, .ro⟩, ⟨26, 24, .ro⟩, ⟨22, 20, .ro⟩, ⟨11, 0, .ro⟩]⟩,
  ⟨0x4002003C, 0x0, 1, 0x0, 1, 4, .lane, 0x0, 0x0, true, [⟨16, 0, .ro⟩]⟩,
  ⟨0x40020040, 0x0, 1, 0x0, 1, 4, .lane, 0x0, 0x0, true, [⟨31, 12, .rw⟩]⟩,
  ⟨0x40020044, 0x0, 1, 0x0, 1, 4, .lane, 0x1000, 0x0, true, [⟨15, 8, .rw⟩, ⟨6, 0, .rw⟩]⟩,
  ⟨0x40020048, 0x0, 1, 0x0, 1, 4, .lane, 0x0, 0x0, true, [⟨31, 0, .ro⟩]⟩,
  ⟨0x4002004C, 0x0, 1, 0x0, 1, 4, .lane, 0x0, 0x0, true, [⟨31, 0, .ro⟩]⟩,
  ⟨0x40020050, 0x0, 1, 0x0, 1, 4, .lane, 0x0, 0x0, true, [⟨31, 0, .ro⟩]⟩,
  ⟨0x40020054, 0x0, 1, 0x0, 1, 4, .lane, 0x0, 0x0, true, [⟨15, 0, .ro⟩]⟩,
  ⟨0x40020058, 0x0, 1, 0x0, 1, 4, .lane, 0x0, 0x0, true, [⟨31, 30, .ro⟩, ⟨29, 28, .ro⟩, ⟨15, 0, .ro⟩]⟩,
  ⟨0x4002005C, 0x0, 1, 0x0, 1, 4, .lane, 0x0, 0x0, true, [⟨15, 0, .ro⟩]⟩,
  ⟨0x40020060, 0x0, 1, 0x0, 1, 4, .lane, 0x0, 0x0, true, [⟨31, 16, .rc⟩, ⟨15, 0, .rc⟩]⟩,
  ⟨0x40020070, 0x0, 1, 0x0, 1, 4, .lane, 0x0, 0x0, true, [⟨3, 3, .rw⟩, ⟨2, 2, .rw⟩, ⟨1, 1, .rw⟩, ⟨0, 0, .rw⟩]⟩,
  ⟨0x40020074, 0x0, 1, 0x0, 1, 4, .lane, 0x0, 0x0, true, [⟨3, 3, .w1c⟩, ⟨2, 2, .w1c⟩, ⟨1, 1, .w1c⟩, ⟨0, 0, .w1c⟩]⟩,
  ⟨0x50340000, 0x4, 8, 0x0, 1, 4, .lane, 0x0, 0x0, false, [⟨31, 0, .wo⟩]⟩,
  ⟨0x50340020, 0x0, 1, 0x0, 1, 4, .hub, 0x0, 0x0, false, [⟨31, 0, .ro⟩]⟩,
  ⟨0x50340024, 0x0, 1, 0x0, 1, 4, .hub, 0x0, 0x0, false, [⟨31, 31, .ro⟩, ⟨22, 20, .ro⟩, ⟨11, 0, .ro⟩]⟩,
  ⟨0x50340028, 0x0, 1, 0x0, 1, 8, .hub, 0x0, 0x0, false, [⟨47, 0, .ro⟩]⟩,
  ⟨0x50340030, 0x0, 1, 0x0, 1, 4, .hub, 0x0, 0x0, false, [⟨16, 0, .ro⟩]⟩,
  ⟨0x50340034, 0x0, 1, 0x0, 1, 4, .hub, 0x0, 0x0, false, [⟨31, 16, .rc⟩, ⟨15, 0, .rc⟩]⟩]

/-! ### Process data engine (09 R281, R282) -/

abbrev PDE_CFG (i : Nat) : Fld := ⟨0x50000000 + 0x100 * i, 31, 0⟩
abbrev PDE_CFG_MODE (i : Nat) : Fld := ⟨0x50000000 + 0x100 * i, 31, 28⟩
abbrev PDE_CFG_PLACE (i : Nat) : Fld := ⟨0x50000000 + 0x100 * i, 27, 26⟩
abbrev PDE_CFG_SPOWN (i : Nat) : Fld := ⟨0x50000000 + 0x100 * i, 25, 24⟩
abbrev PDE_CFG_CQ (i : Nat) : Fld := ⟨0x50000000 + 0x100 * i, 20, 16⟩
abbrev PDE_CFG_IRQM (i : Nat) : Fld := ⟨0x50000000 + 0x100 * i, 15, 12⟩
abbrev PDE_CFG_COMPARE (i : Nat) : Fld := ⟨0x50000000 + 0x100 * i, 0, 0⟩
abbrev PDE_SRC (i : Nat) : Fld := ⟨0x50000004 + 0x100 * i, 31, 0⟩
abbrev PDE_SRC_KIND (i : Nat) : Fld := ⟨0x50000004 + 0x100 * i, 31, 24⟩
abbrev PDE_SRC_PORT (i : Nat) : Fld := ⟨0x50000004 + 0x100 * i, 23, 16⟩
abbrev PDE_SRC_SRC_ID (i : Nat) : Fld := ⟨0x50000004 + 0x100 * i, 15, 0⟩
abbrev PDE_WIN (i : Nat) : Fld := ⟨0x50000008 + 0x100 * i, 31, 0⟩
abbrev PDE_WIN_WIN_OFF (i : Nat) : Fld := ⟨0x50000008 + 0x100 * i, 31, 16⟩
abbrev PDE_WIN_WIN_LEN (i : Nat) : Fld := ⟨0x50000008 + 0x100 * i, 15, 0⟩
abbrev PDE_BANK0 (i : Nat) : Fld := ⟨0x5000000C + 0x100 * i, 20, 0⟩
abbrev PDE_BANK1 (i : Nat) : Fld := ⟨0x50000010 + 0x100 * i, 20, 0⟩
abbrev PDE_SIZE (i : Nat) : Fld := ⟨0x50000014 + 0x100 * i, 31, 0⟩
abbrev PDE_SIZE_FIRST_GEN (i : Nat) : Fld := ⟨0x50000014 + 0x100 * i, 31, 31⟩
abbrev PDE_SIZE_SIZE (i : Nat) : Fld := ⟨0x50000014 + 0x100 * i, 20, 0⟩
abbrev PDE_SH_CFG (i : Nat) : Fld := ⟨0x50000020 + 0x100 * i, 31, 0⟩
abbrev PDE_SH_CFG_MODE (i : Nat) : Fld := ⟨0x50000020 + 0x100 * i, 31, 28⟩
abbrev PDE_SH_CFG_PLACE (i : Nat) : Fld := ⟨0x50000020 + 0x100 * i, 27, 26⟩
abbrev PDE_SH_CFG_SPOWN (i : Nat) : Fld := ⟨0x50000020 + 0x100 * i, 25, 24⟩
abbrev PDE_SH_CFG_CQ (i : Nat) : Fld := ⟨0x50000020 + 0x100 * i, 20, 16⟩
abbrev PDE_SH_CFG_IRQM (i : Nat) : Fld := ⟨0x50000020 + 0x100 * i, 15, 12⟩
abbrev PDE_SH_CFG_COMPARE (i : Nat) : Fld := ⟨0x50000020 + 0x100 * i, 0, 0⟩
abbrev PDE_SH_SRC (i : Nat) : Fld := ⟨0x50000024 + 0x100 * i, 31, 0⟩
abbrev PDE_SH_SRC_KIND (i : Nat) : Fld := ⟨0x50000024 + 0x100 * i, 31, 24⟩
abbrev PDE_SH_SRC_PORT (i : Nat) : Fld := ⟨0x50000024 + 0x100 * i, 23, 16⟩
abbrev PDE_SH_SRC_SRC_ID (i : Nat) : Fld := ⟨0x50000024 + 0x100 * i, 15, 0⟩
abbrev PDE_SH_WIN (i : Nat) : Fld := ⟨0x50000028 + 0x100 * i, 31, 0⟩
abbrev PDE_SH_WIN_WIN_OFF (i : Nat) : Fld := ⟨0x50000028 + 0x100 * i, 31, 16⟩
abbrev PDE_SH_WIN_WIN_LEN (i : Nat) : Fld := ⟨0x50000028 + 0x100 * i, 15, 0⟩
abbrev PDE_SH_BANK0 (i : Nat) : Fld := ⟨0x5000002C + 0x100 * i, 20, 0⟩
abbrev PDE_SH_BANK1 (i : Nat) : Fld := ⟨0x50000030 + 0x100 * i, 20, 0⟩
abbrev PDE_SH_SIZE (i : Nat) : Fld := ⟨0x50000034 + 0x100 * i, 31, 0⟩
abbrev PDE_SH_SIZE_FIRST_GEN (i : Nat) : Fld := ⟨0x50000034 + 0x100 * i, 31, 31⟩
abbrev PDE_SH_SIZE_SIZE (i : Nat) : Fld := ⟨0x50000034 + 0x100 * i, 20, 0⟩
abbrev PDE_ARM (i : Nat) : Fld := ⟨0x50000038 + 0x100 * i, 0, 0⟩
abbrev PDE_CTL (i : Nat) : Fld := ⟨0x50000040 + 0x100 * i, 31, 0⟩
abbrev PDE_CTL_ABORT (i : Nat) : Fld := ⟨0x50000040 + 0x100 * i, 1, 1⟩
abbrev PDE_CTL_GO (i : Nat) : Fld := ⟨0x50000040 + 0x100 * i, 0, 0⟩
abbrev PDE_DOORBELL (i : Nat) : Fld := ⟨0x50000044 + 0x100 * i, 31, 0⟩
abbrev PDE_STAT (i : Nat) : Fld := ⟨0x50000048 + 0x100 * i, 31, 0⟩
abbrev PDE_STAT_STATE (i : Nat) : Fld := ⟨0x50000048 + 0x100 * i, 31, 28⟩
abbrev PDE_STAT_DB_PEND (i : Nat) : Fld := ⟨0x50000048 + 0x100 * i, 27, 27⟩
abbrev PDE_STAT_EGEN (i : Nat) : Fld := ⟨0x50000048 + 0x100 * i, 26, 26⟩
abbrev PDE_STAT_ARM_ERR (i : Nat) : Fld := ⟨0x50000048 + 0x100 * i, 25, 25⟩
abbrev PDE_STAT_ERR (i : Nat) : Fld := ⟨0x50000048 + 0x100 * i, 23, 16⟩
abbrev PDE_CUR (i : Nat) : Fld := ⟨0x5000004C + 0x100 * i, 20, 0⟩
abbrev PDE_WR (i : Nat) : Fld := ⟨0x50000050 + 0x100 * i, 31, 0⟩
abbrev PDE_RD (i : Nat) : Fld := ⟨0x50000054 + 0x100 * i, 31, 0⟩
abbrev PDE_RESID (i : Nat) : Fld := ⟨0x50000058 + 0x100 * i, 23, 0⟩
abbrev PDE_ARM_FRAME (i : Nat) : Fld := ⟨0x5000005C + 0x100 * i, 31, 0⟩
abbrev PDE_LAST_FRAME (i : Nat) : Fld := ⟨0x50000060 + 0x100 * i, 31, 0⟩
abbrev PDE_CNT_ITEM (i : Nat) : Fld := ⟨0x50000064 + 0x100 * i, 31, 0⟩
abbrev PDE_CNT_DROP (i : Nat) : Fld := ⟨0x50000068 + 0x100 * i, 31, 0⟩
abbrev PDE_CNT_DROP_SUPERSEDED (i : Nat) : Fld := ⟨0x50000068 + 0x100 * i, 31, 16⟩
abbrev PDE_CNT_DROP_DROPPED (i : Nat) : Fld := ⟨0x50000068 + 0x100 * i, 15, 0⟩
abbrev PDE_CNT_ERR (i : Nat) : Fld := ⟨0x5000006C + 0x100 * i, 31, 0⟩
abbrev PDE_CNT_ERR_LATE (i : Nat) : Fld := ⟨0x5000006C + 0x100 * i, 31, 24⟩
abbrev PDE_CNT_ERR_SHORT (i : Nat) : Fld := ⟨0x5000006C + 0x100 * i, 23, 16⟩
abbrev PDE_CNT_ERR_CHECK (i : Nat) : Fld := ⟨0x5000006C + 0x100 * i, 15, 8⟩
abbrev PDE_CNT_ERR_DESC (i : Nat) : Fld := ⟨0x5000006C + 0x100 * i, 7, 0⟩
abbrev PDE_CNT_DIFF (i : Nat) : Fld := ⟨0x50000070 + 0x100 * i, 15, 0⟩
abbrev PDE_INT_EN (i : Nat) : Fld := ⟨0x50000078 + 0x100 * i, 31, 0⟩
abbrev PDE_INT_EN_ARM_ERR (i : Nat) : Fld := ⟨0x50000078 + 0x100 * i, 6, 6⟩
abbrev PDE_INT_EN_FULL (i : Nat) : Fld := ⟨0x50000078 + 0x100 * i, 5, 5⟩
abbrev PDE_INT_EN_HALF (i : Nat) : Fld := ⟨0x50000078 + 0x100 * i, 4, 4⟩
abbrev PDE_INT_EN_ERROR (i : Nat) : Fld := ⟨0x50000078 + 0x100 * i, 3, 3⟩
abbrev PDE_INT_EN_DROP (i : Nat) : Fld := ⟨0x50000078 + 0x100 * i, 2, 2⟩
abbrev PDE_INT_EN_ITEM (i : Nat) : Fld := ⟨0x50000078 + 0x100 * i, 1, 1⟩
abbrev PDE_INT_EN_CQ (i : Nat) : Fld := ⟨0x50000078 + 0x100 * i, 0, 0⟩
abbrev PDE_INT_STAT (i : Nat) : Fld := ⟨0x5000007C + 0x100 * i, 31, 0⟩
abbrev PDE_INT_STAT_ARM_ERR (i : Nat) : Fld := ⟨0x5000007C + 0x100 * i, 6, 6⟩
abbrev PDE_INT_STAT_FULL (i : Nat) : Fld := ⟨0x5000007C + 0x100 * i, 5, 5⟩
abbrev PDE_INT_STAT_HALF (i : Nat) : Fld := ⟨0x5000007C + 0x100 * i, 4, 4⟩
abbrev PDE_INT_STAT_ERROR (i : Nat) : Fld := ⟨0x5000007C + 0x100 * i, 3, 3⟩
abbrev PDE_INT_STAT_DROP (i : Nat) : Fld := ⟨0x5000007C + 0x100 * i, 2, 2⟩
abbrev PDE_INT_STAT_ITEM (i : Nat) : Fld := ⟨0x5000007C + 0x100 * i, 1, 1⟩
abbrev PDE_INT_STAT_CQ (i : Nat) : Fld := ⟨0x5000007C + 0x100 * i, 0, 0⟩
abbrev PDE_VDONE : Fld := ⟨0x5000C000, 15, 0⟩
abbrev PDE_TIMING : Fld := ⟨0x5000C004, 31, 0⟩
abbrev PDE_TIMING_SETUP : Fld := ⟨0x5000C004, 31, 16⟩
abbrev PDE_TIMING_CUT : Fld := ⟨0x5000C004, 15, 0⟩
abbrev PDE_GCNT : Fld := ⟨0x5000C008, 31, 0⟩
abbrev PDE_GCNT_VDONE_MISS : Fld := ⟨0x5000C008, 31, 16⟩
abbrev PDE_GCNT_VDONE_BAD : Fld := ⟨0x5000C008, 15, 0⟩
abbrev PDE_CQ_BASE (i : Nat) : Fld := ⟨0x5000D000 + 0x10 * i, 31, 0⟩
abbrev PDE_CQ_BASE_OWNER (i : Nat) : Fld := ⟨0x5000D000 + 0x10 * i, 31, 30⟩
abbrev PDE_CQ_BASE_M (i : Nat) : Fld := ⟨0x5000D000 + 0x10 * i, 24, 21⟩
abbrev PDE_CQ_BASE_BASE (i : Nat) : Fld := ⟨0x5000D000 + 0x10 * i, 20, 0⟩
abbrev PDE_CQ_HEAD (i : Nat) : Fld := ⟨0x5000D004 + 0x10 * i, 31, 0⟩
abbrev PDE_CQ_TAIL (i : Nat) : Fld := ⟨0x5000D008 + 0x10 * i, 31, 0⟩
abbrev PDE_CQ_STAT (i : Nat) : Fld := ⟨0x5000D00C + 0x10 * i, 31, 0⟩
abbrev PDE_CQ_STAT_STALLS (i : Nat) : Fld := ⟨0x5000D00C + 0x10 * i, 31, 16⟩
abbrev PDE_CQ_STAT_FULL (i : Nat) : Fld := ⟨0x5000D00C + 0x10 * i, 0, 0⟩

/-- The registers of this block. -/
def pdeRows : List RegRow := [
  ⟨0x50000000, 0x100, 192, 0x0, 1, 4, .hub, 0x0, 0x0, false, [⟨31, 28, .ro⟩, ⟨27, 26, .ro⟩, ⟨25, 24, .ro⟩, ⟨20, 16, .ro⟩, ⟨15, 12, .ro⟩, ⟨0, 0, .ro⟩]⟩,
  ⟨0x50000004, 0x100, 192, 0x0, 1, 4, .hub, 0x0, 0x0, false, [⟨31, 24, .ro⟩, ⟨23, 16, .ro⟩, ⟨15, 0, .ro⟩]⟩,
  ⟨0x50000008, 0x100, 192, 0x0, 1, 4, .hub, 0x0, 0x0, false, [⟨31, 16, .ro⟩, ⟨15, 0, .ro⟩]⟩,
  ⟨0x5000000C, 0x100, 192, 0x0, 1, 4, .hub, 0x0, 0x0, false, [⟨20, 0, .ro⟩]⟩,
  ⟨0x50000010, 0x100, 192, 0x0, 1, 4, .hub, 0x0, 0x0, false, [⟨20, 0, .ro⟩]⟩,
  ⟨0x50000014, 0x100, 192, 0x0, 1, 4, .hub, 0x0, 0x0, false, [⟨31, 31, .ro⟩, ⟨20, 0, .ro⟩]⟩,
  ⟨0x50000020, 0x100, 192, 0x0, 1, 4, .lane, 0x0, 0x0, false, [⟨31, 28, .rw⟩, ⟨27, 26, .rw⟩, ⟨25, 24, .rw⟩, ⟨20, 16, .rw⟩, ⟨15, 12, .rw⟩, ⟨0, 0, .rw⟩]⟩,
  ⟨0x50000024, 0x100, 192, 0x0, 1, 4, .lane, 0x0, 0x0, false, [⟨31, 24, .rw⟩, ⟨23, 16, .rw⟩, ⟨15, 0, .rw⟩]⟩,
  ⟨0x50000028, 0x100, 192, 0x0, 1, 4, .lane, 0x0, 0x0, false, [⟨31, 16, .rw⟩, ⟨15, 0, .rw⟩]⟩,
  ⟨0x5000002C, 0x100, 192, 0x0, 1, 4, .lane, 0x0, 0x0, false, [⟨20, 0, .rw⟩]⟩,
  ⟨0x50000030, 0x100, 192, 0x0, 1, 4, .lane, 0x0, 0x0, false, [⟨20, 0, .rw⟩]⟩,
  ⟨0x50000034, 0x100, 192, 0x0, 1, 4, .lane, 0x0, 0x0, false, [⟨31, 31, .rw⟩, ⟨20, 0, .rw⟩]⟩,
  ⟨0x50000038, 0x100, 192, 0x0, 1, 4, .lane, 0x0, 0x0, false, [⟨0, 0, .w1s⟩]⟩,
  ⟨0x50000040, 0x100, 192, 0x0, 1, 4, .hub, 0x0, 0x0, false, [⟨1, 1, .w1s⟩, ⟨0, 0, .w1s⟩]⟩,
  ⟨0x50000044, 0x100, 192, 0x0, 1, 4, .hub, 0x0, 0x0, false, [⟨31, 0, .wo⟩]⟩,
  ⟨0x50000048, 0x100, 192, 0x0, 1, 4, .hub, 0x0, 0x0, false, [⟨31, 28, .ro⟩, ⟨27, 27, .ro⟩, ⟨26, 26, .ro⟩, ⟨25, 25, .ro⟩, ⟨23, 16, .ro⟩]⟩,
  ⟨0x5000004C, 0x100, 192, 0x0, 1, 4, .hub, 0x0, 0x0, false, [⟨20, 0, .ro⟩]⟩,
  ⟨0x50000050, 0x100, 192, 0x0, 1, 4, .hub, 0x0, 0x0, false, [⟨31, 0, .ro⟩]⟩,
  ⟨0x50000054, 0x100, 192, 0x0, 1, 4, .hub, 0x0, 0x0, false, [⟨31, 0, .rw⟩]⟩,
  ⟨0x50000058, 0x100, 192, 0x0, 1, 4, .hub, 0x0, 0x0, false, [⟨23, 0, .ro⟩]⟩,
  ⟨0x5000005C, 0x100, 192, 0x0, 1, 4, .hub, 0x0, 0x0, false, [⟨31, 0, .ro⟩]⟩,
  ⟨0x50000060, 0x100, 192, 0x0, 1, 4, .hub, 0x0, 0x0, false, [⟨31, 0, .ro⟩]⟩,
  ⟨0x50000064, 0x100, 192, 0x0, 1, 4, .hub, 0x0, 0x0, false, [⟨31, 0, .rc⟩]⟩,
  ⟨0x50000068, 0x100, 192, 0x0, 1, 4, .hub, 0x0, 0x0, false, [⟨31, 16, .rc⟩, ⟨15, 0, .rc⟩]⟩,
  ⟨0x5000006C, 0x100, 192, 0x0, 1, 4, .hub, 0x0, 0x0, false, [⟨31, 24, .rc⟩, ⟨23, 16, .rc⟩, ⟨15, 8, .rc⟩, ⟨7, 0, .rc⟩]⟩,
  ⟨0x50000070, 0x100, 192, 0x0, 1, 4, .hub, 0x0, 0x0, false, [⟨15, 0, .rc⟩]⟩,
  ⟨0x50000078, 0x100, 192, 0x0, 1, 4, .hub, 0x0, 0x0, false, [⟨6, 6, .rw⟩, ⟨5, 5, .rw⟩, ⟨4, 4, .rw⟩, ⟨3, 3, .rw⟩, ⟨2, 2, .rw⟩, ⟨1, 1, .rw⟩, ⟨0, 0, .rw⟩]⟩,
  ⟨0x5000007C, 0x100, 192, 0x0, 1, 4, .hub, 0x0, 0x0, false, [⟨6, 6, .w1c⟩, ⟨5, 5, .w1c⟩, ⟨4, 4, .w1c⟩, ⟨3, 3, .w1c⟩, ⟨2, 2, .w1c⟩, ⟨1, 1, .w1c⟩, ⟨0, 0, .w1c⟩]⟩,
  ⟨0x5000C000, 0x0, 1, 0x0, 1, 4, .lane, 0x0, 0x0, false, [⟨15, 0, .wo⟩]⟩,
  ⟨0x5000C004, 0x0, 1, 0x0, 1, 4, .hub, 0xC800C8, 0x0, false, [⟨31, 16, .ro⟩, ⟨15, 0, .ro⟩]⟩,
  ⟨0x5000C008, 0x0, 1, 0x0, 1, 4, .hub, 0x0, 0x0, false, [⟨31, 16, .rc⟩, ⟨15, 0, .rc⟩]⟩,
  ⟨0x5000D000, 0x10, 32, 0x0, 1, 4, .hub, 0x0, 0x0, false, [⟨31, 30, .ro⟩, ⟨24, 21, .rw⟩, ⟨20, 0, .rw⟩]⟩,
  ⟨0x5000D004, 0x10, 32, 0x0, 1, 4, .hub, 0x0, 0x0, false, [⟨31, 0, .ro⟩]⟩,
  ⟨0x5000D008, 0x10, 32, 0x0, 1, 4, .hub, 0x0, 0x0, false, [⟨31, 0, .rw⟩]⟩,
  ⟨0x5000D00C, 0x10, 32, 0x0, 1, 4, .hub, 0x0, 0x0, false, [⟨31, 16, .rc⟩, ⟨0, 0, .ro⟩]⟩]

/-! ### Lane-hub bridge (10 R302) -/

abbrev BRG_CFG : Fld := ⟨0x50310000, 31, 0⟩
abbrev BRG_CFG_WC_OFF : Fld := ⟨0x50310000, 15, 15⟩
abbrev BRG_CFG_DISCARD : Fld := ⟨0x50310000, 9, 0⟩
abbrev BRG_STATUS : Fld := ⟨0x50310004, 31, 0⟩
abbrev BRG_STATUS_LINK_UP : Fld := ⟨0x50310004, 31, 31⟩
abbrev BRG_STATUS_RESETTING : Fld := ⟨0x50310004, 30, 30⟩
abbrev BRG_STATUS_WR_OUT : Fld := ⟨0x50310004, 21, 16⟩
abbrev BRG_STATUS_QUAR : Fld := ⟨0x50310004, 14, 8⟩
abbrev BRG_STATUS_TAGS : Fld := ⟨0x50310004, 6, 0⟩
abbrev BRG_WISSUED : Fld := ⟨0x50310008, 31, 0⟩
abbrev BRG_WISSUED_PREV : Fld := ⟨0x5031000C, 31, 0⟩
abbrev BRG_FAULT_ADDR : Fld := ⟨0x50310010, 63, 0⟩
abbrev BRG_FAULT_INFO : Fld := ⟨0x50310018, 31, 0⟩
abbrev BRG_FAULT_INFO_CODE : Fld := ⟨0x50310018, 31, 28⟩
abbrev BRG_FAULT_INFO_WRITE : Fld := ⟨0x50310018, 27, 27⟩
abbrev BRG_FAULT_INFO_CORE : Fld := ⟨0x50310018, 26, 24⟩
abbrev BRG_CNT_DISC : Fld := ⟨0x50310020, 31, 0⟩
abbrev BRG_CNT_DISC_LATE : Fld := ⟨0x50310020, 31, 16⟩
abbrev BRG_CNT_DISC_TIMEOUT : Fld := ⟨0x50310020, 15, 0⟩
abbrev BRG_CNT_ERR : Fld := ⟨0x50310024, 31, 0⟩
abbrev BRG_CNT_ERR_DECERR : Fld := ⟨0x50310024, 31, 24⟩
abbrev BRG_CNT_ERR_SLVERR : Fld := ⟨0x50310024, 23, 16⟩
abbrev BRG_CNT_ERR_ECCERR : Fld := ⟨0x50310024, 15, 8⟩
abbrev BRG_CNT_ERR_WTIMEOUT : Fld := ⟨0x50310024, 7, 0⟩
abbrev BRG_CNT_LINK : Fld := ⟨0x50310028, 31, 0⟩
abbrev BRG_CNT_LINK_RESETS : Fld := ⟨0x50310028, 31, 16⟩
abbrev BRG_CNT_LINK_REPLAYS : Fld := ⟨0x50310028, 15, 0⟩
abbrev BRG_CNT_INB : Fld := ⟨0x5031002C, 15, 0⟩
abbrev BRG_INT_EN : Fld := ⟨0x50310030, 31, 0⟩
abbrev BRG_INT_EN_INB : Fld := ⟨0x50310030, 3, 3⟩
abbrev BRG_INT_EN_RESET : Fld := ⟨0x50310030, 2, 2⟩
abbrev BRG_INT_EN_LATE : Fld := ⟨0x50310030, 1, 1⟩
abbrev BRG_INT_EN_FAULT : Fld := ⟨0x50310030, 0, 0⟩
abbrev BRG_INT_STAT : Fld := ⟨0x50310034, 31, 0⟩
abbrev BRG_INT_STAT_INB : Fld := ⟨0x50310034, 3, 3⟩
abbrev BRG_INT_STAT_RESET : Fld := ⟨0x50310034, 2, 2⟩
abbrev BRG_INT_STAT_LATE : Fld := ⟨0x50310034, 1, 1⟩
abbrev BRG_INT_STAT_FAULT : Fld := ⟨0x50310034, 0, 0⟩
abbrev BRG_RESET : Fld := ⟨0x50310038, 31, 0⟩
abbrev BRG_RESET_RESET : Fld := ⟨0x50310038, 0, 0⟩
abbrev BRG_WDONE : Fld := ⟨0x50310100, 31, 0⟩
abbrev BRG_WDONE_PREV : Fld := ⟨0x50310104, 31, 0⟩

/-- The registers of this block. -/
def bridgeRows : List RegRow := [
  ⟨0x50310000, 0x0, 1, 0x0, 1, 4, .lane, 0x32, 0x0, false, [⟨15, 15, .rw⟩, ⟨9, 0, .rw⟩]⟩,
  ⟨0x50310004, 0x0, 1, 0x0, 1, 4, .lane, 0x0, 0x0, false, [⟨31, 31, .ro⟩, ⟨30, 30, .ro⟩, ⟨21, 16, .ro⟩, ⟨14, 8, .ro⟩, ⟨6, 0, .ro⟩]⟩,
  ⟨0x50310008, 0x0, 1, 0x0, 1, 4, .lane, 0x0, 0x0, false, [⟨31, 0, .ro⟩]⟩,
  ⟨0x5031000C, 0x0, 1, 0x0, 1, 4, .lane, 0x0, 0x0, false, [⟨31, 0, .ro⟩]⟩,
  ⟨0x50310010, 0x0, 1, 0x0, 1, 8, .lane, 0x0, 0x0, false, [⟨63, 0, .ro⟩]⟩,
  ⟨0x50310018, 0x0, 1, 0x0, 1, 4, .lane, 0x0, 0x0, false, [⟨31, 28, .ro⟩, ⟨27, 27, .ro⟩, ⟨26, 24, .ro⟩]⟩,
  ⟨0x50310020, 0x0, 1, 0x0, 1, 4, .lane, 0x0, 0x0, false, [⟨31, 16, .rc⟩, ⟨15, 0, .rc⟩]⟩,
  ⟨0x50310024, 0x0, 1, 0x0, 1, 4, .lane, 0x0, 0x0, false, [⟨31, 24, .rc⟩, ⟨23, 16, .rc⟩, ⟨15, 8, .rc⟩, ⟨7, 0, .rc⟩]⟩,
  ⟨0x50310028, 0x0, 1, 0x0, 1, 4, .lane, 0x0, 0x0, false, [⟨31, 16, .rc⟩, ⟨15, 0, .rc⟩]⟩,
  ⟨0x5031002C, 0x0, 1, 0x0, 1, 4, .lane, 0x0, 0x0, false, [⟨15, 0, .rc⟩]⟩,
  ⟨0x50310030, 0x0, 1, 0x0, 1, 4, .lane, 0x0, 0x0, false, [⟨3, 3, .rw⟩, ⟨2, 2, .rw⟩, ⟨1, 1, .rw⟩, ⟨0, 0, .rw⟩]⟩,
  ⟨0x50310034, 0x0, 1, 0x0, 1, 4, .lane, 0x0, 0x0, false, [⟨3, 3, .w1c⟩, ⟨2, 2, .w1c⟩, ⟨1, 1, .w1c⟩, ⟨0, 0, .w1c⟩]⟩,
  ⟨0x50310038, 0x0, 1, 0x0, 1, 4, .lane, 0x0, 0x0, false, [⟨0, 0, .w1s⟩]⟩,
  ⟨0x50310100, 0x0, 1, 0x0, 1, 4, .lane, 0x0, 0x0, false, [⟨31, 0, .ro⟩]⟩,
  ⟨0x50310104, 0x0, 1, 0x0, 1, 4, .lane, 0x0, 0x0, false, [⟨31, 0, .ro⟩]⟩]

/-! ### Switch, trellis, harvest ring (11 R333) -/

abbrev SW_PSTAT (i : Nat) : Fld := ⟨0x50100000 + 0x40 * i, 31, 0⟩
abbrev SW_PSTAT_LINK (i : Nat) : Fld := ⟨0x50100000 + 0x40 * i, 31, 31⟩
abbrev SW_PSTAT_SPEED (i : Nat) : Fld := ⟨0x50100000 + 0x40 * i, 30, 28⟩
abbrev SW_PSTAT_STATE (i : Nat) : Fld := ⟨0x50100000 + 0x40 * i, 27, 26⟩
abbrev SW_PSTAT_COUPLER (i : Nat) : Fld := ⟨0x50100000 + 0x40 * i, 25, 25⟩
abbrev SW_PSTAT_FALLBACK (i : Nat) : Fld := ⟨0x50100000 + 0x40 * i, 24, 24⟩
abbrev SW_PSTAT_BUCKET (i : Nat) : Fld := ⟨0x50100000 + 0x40 * i, 23, 16⟩
abbrev SW_PSTAT_REJOINS (i : Nat) : Fld := ⟨0x50100000 + 0x40 * i, 15, 8⟩
abbrev TRL_CFG : Fld := ⟨0x50100400, 31, 0⟩
abbrev TRL_CFG_B : Fld := ⟨0x50100400, 30, 24⟩
abbrev TRL_CFG_GMIN : Fld := ⟨0x50100400, 23, 16⟩
abbrev TRL_CFG_MARGIN : Fld := ⟨0x50100400, 15, 0⟩
abbrev TRL_STATUS : Fld := ⟨0x50100404, 31, 0⟩
abbrev TRL_STATUS_BANK : Fld := ⟨0x50100404, 31, 31⟩
abbrev TRL_STATUS_PEND : Fld := ⟨0x50100404, 30, 30⟩
abbrev TRL_STATUS_BASIC : Fld := ⟨0x50100404, 21, 16⟩
abbrev TRL_QCFG : Fld := ⟨0x50100408, 31, 0⟩
abbrev TRL_QCFG_LIM : Fld := ⟨0x50100408, 31, 24⟩
abbrev TRL_QCFG_HOLD : Fld := ⟨0x50100408, 23, 16⟩
abbrev TRL_QCFG_REJOIN_LIM : Fld := ⟨0x50100408, 15, 8⟩
abbrev TRL_MFRAME : Fld := ⟨0x5010040C, 31, 0⟩
abbrev TRL_PORTS : Fld := ⟨0x50100410, 31, 0⟩
abbrev TRL_PORTS_QUAR : Fld := ⟨0x50100410, 31, 16⟩
abbrev TRL_PORTS_ACTIVE : Fld := ⟨0x50100410, 15, 0⟩
abbrev TRL_CNT : Fld := ⟨0x50100414, 31, 0⟩
abbrev TRL_CNT_CLAIMS : Fld := ⟨0x50100414, 31, 16⟩
abbrev TRL_CNT_SWAPS : Fld := ⟨0x50100414, 15, 0⟩
abbrev SW_INT_EN : Fld := ⟨0x50100480, 31, 0⟩
abbrev SW_INT_EN_HRV_CLOSE : Fld := ⟨0x50100480, 7, 7⟩
abbrev SW_INT_EN_HRV_SPLIT : Fld := ⟨0x50100480, 6, 6⟩
abbrev SW_INT_EN_HRV_MISS : Fld := ⟨0x50100480, 5, 5⟩
abbrev SW_INT_EN_HELD : Fld := ⟨0x50100480, 4, 4⟩
abbrev SW_INT_EN_QUAR : Fld := ⟨0x50100480, 3, 3⟩
abbrev SW_INT_EN_ACTIVE : Fld := ⟨0x50100480, 2, 2⟩
abbrev SW_INT_EN_NEAR : Fld := ⟨0x50100480, 1, 1⟩
abbrev SW_INT_EN_SWAP : Fld := ⟨0x50100480, 0, 0⟩
abbrev SW_INT_STAT : Fld := ⟨0x50100484, 31, 0⟩
abbrev SW_INT_STAT_HRV_CLOSE : Fld := ⟨0x50100484, 7, 7⟩
abbrev SW_INT_STAT_HRV_SPLIT : Fld := ⟨0x50100484, 6, 6⟩
abbrev SW_INT_STAT_HRV_MISS : Fld := ⟨0x50100484, 5, 5⟩
abbrev SW_INT_STAT_HELD : Fld := ⟨0x50100484, 4, 4⟩
abbrev SW_INT_STAT_QUAR : Fld := ⟨0x50100484, 3, 3⟩
abbrev SW_INT_STAT_ACTIVE : Fld := ⟨0x50100484, 2, 2⟩
abbrev SW_INT_STAT_NEAR : Fld := ⟨0x50100484, 1, 1⟩
abbrev SW_INT_STAT_SWAP : Fld := ⟨0x50100484, 0, 0⟩
abbrev HRV_CFG : Fld := ⟨0x50100800, 31, 0⟩
abbrev HRV_CFG_N : Fld := ⟨0x50100800, 20, 16⟩
abbrev HRV_CFG_PASSES : Fld := ⟨0x50100800, 10, 8⟩
abbrev HRV_STATUS : Fld := ⟨0x50100804, 31, 0⟩
abbrev HRV_STATUS_MODE : Fld := ⟨0x50100804, 31, 30⟩
abbrev HRV_STATUS_LOOP0 : Fld := ⟨0x50100804, 28, 24⟩
abbrev HRV_STATUS_LOOP1 : Fld := ⟨0x50100804, 20, 16⟩
abbrev HRV_STATUS_SEEN : Fld := ⟨0x50100804, 15, 0⟩
abbrev HRV_PT (i : Nat) : Fld := ⟨0x50100810 + 0x4 * i, 23, 0⟩
abbrev HRV_CNT : Fld := ⟨0x50100820, 31, 0⟩
abbrev HRV_CNT_LOST : Fld := ⟨0x50100820, 31, 16⟩
abbrev HRV_CNT_SPLITS : Fld := ⟨0x50100820, 15, 0⟩
abbrev HRV_SCNT (i : Nat) : Fld := ⟨0x50100840 + 0x4 * i, 31, 0⟩
abbrev HRV_SCNT_MISS (i : Nat) : Fld := ⟨0x50100840 + 0x4 * i, 31, 16⟩
abbrev HRV_SCNT_SIDERR (i : Nat) : Fld := ⟨0x50100840 + 0x4 * i, 15, 8⟩
abbrev HRV_SCNT_SERR (i : Nat) : Fld := ⟨0x50100840 + 0x4 * i, 7, 0⟩
abbrev SW_PCNT_RX (i : Nat) : Fld := ⟨0x50100004 + 0x40 * i, 31, 0⟩
abbrev SW_PCNT_TX (i : Nat) : Fld := ⟨0x50100008 + 0x40 * i, 31, 0⟩
abbrev SW_PCNT_DROP (i : Nat) : Fld := ⟨0x5010000C + 0x40 * i, 31, 0⟩
abbrev SW_PCNT_DROP_UNMATCHED (i : Nat) : Fld := ⟨0x5010000C + 0x40 * i, 31, 16⟩
abbrev SW_PCNT_DROP_QUEUE (i : Nat) : Fld := ⟨0x5010000C + 0x40 * i, 15, 0⟩
abbrev TRL_PVIOL (i : Nat) : Fld := ⟨0x50100010 + 0x40 * i, 31, 0⟩
abbrev TRL_PVIOL_OUTSIDE (i : Nat) : Fld := ⟨0x50100010 + 0x40 * i, 31, 24⟩
abbrev TRL_PVIOL_LATE (i : Nat) : Fld := ⟨0x50100010 + 0x40 * i, 23, 16⟩
abbrev TRL_PVIOL_BUDGET (i : Nat) : Fld := ⟨0x50100010 + 0x40 * i, 15, 8⟩
abbrev TRL_PVIOL_FCS (i : Nat) : Fld := ⟨0x50100010 + 0x40 * i, 7, 0⟩
abbrev TRL_PNEAR (i : Nat) : Fld := ⟨0x50100014 + 0x40 * i, 15, 0⟩

/-- The registers of this block. -/
def netRows : List RegRow := [
  ⟨0x50100000, 0x40, 16, 0x0, 1, 4, .hub, 0x0, 0x0, false, [⟨31, 31, .ro⟩, ⟨30, 28, .ro⟩, ⟨27, 26, .ro⟩, ⟨25, 25, .ro⟩, ⟨24, 24, .ro⟩, ⟨23, 16, .ro⟩, ⟨15, 8, .ro⟩]⟩,
  ⟨0x50100400, 0x0, 1, 0x0, 1, 4, .hub, 0x10A0064, 0x0, false, [⟨30, 24, .ro⟩, ⟨23, 16, .ro⟩, ⟨15, 0, .ro⟩]⟩,
  ⟨0x50100404, 0x0, 1, 0x0, 1, 4, .hub, 0x0, 0x0, false, [⟨31, 31, .ro⟩, ⟨30, 30, .ro⟩, ⟨21, 16, .ro⟩]⟩,
  ⟨0x50100408, 0x0, 1, 0x0, 1, 4, .hub, 0x8040400, 0x0, false, [⟨31, 24, .ro⟩, ⟨23, 16, .ro⟩, ⟨15, 8, .ro⟩]⟩,
  ⟨0x5010040C, 0x0, 1, 0x0, 1, 4, .hub, 0x0, 0x0, false, [⟨31, 0, .ro⟩]⟩,
  ⟨0x50100410, 0x0, 1, 0x0, 1, 4, .hub, 0x0, 0x0, false, [⟨31, 16, .ro⟩, ⟨15, 0, .ro⟩]⟩,
  ⟨0x50100414, 0x0, 1, 0x0, 1, 4, .hub, 0x0, 0x0, false, [⟨31, 16, .rc⟩, ⟨15, 0, .rc⟩]⟩,
  ⟨0x50100480, 0x0, 1, 0x0, 1, 4, .hub, 0x0, 0x0, false, [⟨7, 7, .rw⟩, ⟨6, 6, .rw⟩, ⟨5, 5, .rw⟩, ⟨4, 4, .rw⟩, ⟨3, 3, .rw⟩, ⟨2, 2, .rw⟩, ⟨1, 1, .rw⟩, ⟨0, 0, .rw⟩]⟩,
  ⟨0x50100484, 0x0, 1, 0x0, 1, 4, .hub, 0x0, 0x0, false, [⟨7, 7, .w1c⟩, ⟨6, 6, .w1c⟩, ⟨5, 5, .w1c⟩, ⟨4, 4, .w1c⟩, ⟨3, 3, .w1c⟩, ⟨2, 2, .w1c⟩, ⟨1, 1, .w1c⟩, ⟨0, 0, .w1c⟩]⟩,
  ⟨0x50100800, 0x0, 1, 0x0, 1, 4, .hub, 0x0, 0x0, false, [⟨20, 16, .ro⟩, ⟨10, 8, .ro⟩]⟩,
  ⟨0x50100804, 0x0, 1, 0x0, 1, 4, .hub, 0x0, 0x0, false, [⟨31, 30, .ro⟩, ⟨28, 24, .ro⟩, ⟨20, 16, .ro⟩, ⟨15, 0, .ro⟩]⟩,
  ⟨0x50100810, 0x4, 4, 0x0, 1, 4, .hub, 0x0, 0x0, false, [⟨23, 0, .ro⟩]⟩,
  ⟨0x50100820, 0x0, 1, 0x0, 1, 4, .hub, 0x0, 0x0, false, [⟨31, 16, .rc⟩, ⟨15, 0, .rc⟩]⟩,
  ⟨0x50100840, 0x4, 16, 0x0, 1, 4, .hub, 0x0, 0x0, false, [⟨31, 16, .rc⟩, ⟨15, 8, .rc⟩, ⟨7, 0, .rc⟩]⟩,
  ⟨0x50100004, 0x40, 16, 0x0, 1, 4, .hub, 0x0, 0x0, false, [⟨31, 0, .rc⟩]⟩,
  ⟨0x50100008, 0x40, 16, 0x0, 1, 4, .hub, 0x0, 0x0, false, [⟨31, 0, .rc⟩]⟩,
  ⟨0x5010000C, 0x40, 16, 0x0, 1, 4, .hub, 0x0, 0x0, false, [⟨31, 16, .rc⟩, ⟨15, 0, .rc⟩]⟩,
  ⟨0x50100010, 0x40, 16, 0x0, 1, 4, .hub, 0x0, 0x0, false, [⟨31, 24, .rc⟩, ⟨23, 16, .rc⟩, ⟨15, 8, .rc⟩, ⟨7, 0, .rc⟩]⟩,
  ⟨0x50100014, 0x40, 16, 0x0, 1, 4, .hub, 0x0, 0x0, false, [⟨15, 0, .rc⟩]⟩]

/-! ### CAN channels (12 R358) -/

abbrev CAN_CFG (i : Nat) : Fld := ⟨0x50200000 + 0x1000 * i, 31, 0⟩
abbrev CAN_CFG_OPMODE (i : Nat) : Fld := ⟨0x50200000 + 0x1000 * i, 31, 29⟩
abbrev CAN_CFG_FDE (i : Nat) : Fld := ⟨0x50200000 + 0x1000 * i, 28, 28⟩
abbrev CAN_CFG_TERM (i : Nat) : Fld := ⟨0x50200000 + 0x1000 * i, 27, 27⟩
abbrev CAN_CFG_LSTART (i : Nat) : Fld := ⟨0x50200000 + 0x1000 * i, 26, 26⟩
abbrev CAN_NBT (i : Nat) : Fld := ⟨0x50200004 + 0x1000 * i, 31, 0⟩
abbrev CAN_NBT_NBRP (i : Nat) : Fld := ⟨0x50200004 + 0x1000 * i, 31, 23⟩
abbrev CAN_NBT_NSJW (i : Nat) : Fld := ⟨0x50200004 + 0x1000 * i, 22, 16⟩
abbrev CAN_NBT_NTSEG1 (i : Nat) : Fld := ⟨0x50200004 + 0x1000 * i, 15, 8⟩
abbrev CAN_NBT_NTSEG2 (i : Nat) : Fld := ⟨0x50200004 + 0x1000 * i, 7, 0⟩
abbrev CAN_DBT (i : Nat) : Fld := ⟨0x50200008 + 0x1000 * i, 31, 0⟩
abbrev CAN_DBT_DBRP (i : Nat) : Fld := ⟨0x50200008 + 0x1000 * i, 28, 24⟩
abbrev CAN_DBT_DSJW (i : Nat) : Fld := ⟨0x50200008 + 0x1000 * i, 19, 16⟩
abbrev CAN_DBT_DTSEG1 (i : Nat) : Fld := ⟨0x50200008 + 0x1000 * i, 13, 8⟩
abbrev CAN_DBT_DTSEG2 (i : Nat) : Fld := ⟨0x50200008 + 0x1000 * i, 4, 0⟩
abbrev CAN_TDC (i : Nat) : Fld := ⟨0x5020000C + 0x1000 * i, 31, 0⟩
abbrev CAN_TDC_TDCE (i : Nat) : Fld := ⟨0x5020000C + 0x1000 * i, 15, 15⟩
abbrev CAN_TDC_TDCO (i : Nat) : Fld := ⟨0x5020000C + 0x1000 * i, 14, 8⟩
abbrev CAN_STAT (i : Nat) : Fld := ⟨0x50200010 + 0x1000 * i, 31, 0⟩
abbrev CAN_STAT_STATE (i : Nat) : Fld := ⟨0x50200010 + 0x1000 * i, 31, 29⟩
abbrev CAN_STAT_RESTR (i : Nat) : Fld := ⟨0x50200010 + 0x1000 * i, 28, 28⟩
abbrev CAN_STAT_TEC (i : Nat) : Fld := ⟨0x50200010 + 0x1000 * i, 24, 16⟩
abbrev CAN_STAT_REC (i : Nat) : Fld := ⟨0x50200010 + 0x1000 * i, 15, 8⟩
abbrev CAN_BOFF (i : Nat) : Fld := ⟨0x50200014 + 0x1000 * i, 31, 0⟩
abbrev CAN_BOFF_HOLD_MIN (i : Nat) : Fld := ⟨0x50200014 + 0x1000 * i, 31, 16⟩
abbrev CAN_BOFF_HOLD_MAX (i : Nat) : Fld := ⟨0x50200014 + 0x1000 * i, 15, 8⟩
abbrev CAN_BOFF_BOFF_LIM (i : Nat) : Fld := ⟨0x50200014 + 0x1000 * i, 7, 0⟩
abbrev CAN_BOFF_STAT (i : Nat) : Fld := ⟨0x50200018 + 0x1000 * i, 31, 0⟩
abbrev CAN_BOFF_STAT_K (i : Nat) : Fld := ⟨0x50200018 + 0x1000 * i, 31, 24⟩
abbrev CAN_BOFF_STAT_HOLD_NOW (i : Nat) : Fld := ⟨0x50200018 + 0x1000 * i, 15, 0⟩
abbrev CAN_TXCANCEL (i : Nat) : Fld := ⟨0x50200020 + 0x1000 * i, 31, 0⟩
abbrev CAN_TXPEND (i : Nat) : Fld := ⟨0x50200024 + 0x1000 * i, 31, 0⟩
abbrev CAN_CNT_TX (i : Nat) : Fld := ⟨0x50200030 + 0x1000 * i, 31, 0⟩
abbrev CAN_CNT_RX (i : Nat) : Fld := ⟨0x50200034 + 0x1000 * i, 31, 0⟩
abbrev CAN_CNT_ERR (i : Nat) : Fld := ⟨0x50200038 + 0x1000 * i, 31, 0⟩
abbrev CAN_CNT_ERR_BIT (i : Nat) : Fld := ⟨0x50200038 + 0x1000 * i, 31, 24⟩
abbrev CAN_CNT_ERR_STUFF (i : Nat) : Fld := ⟨0x50200038 + 0x1000 * i, 23, 16⟩
abbrev CAN_CNT_ERR_FORM (i : Nat) : Fld := ⟨0x50200038 + 0x1000 * i, 15, 8⟩
abbrev CAN_CNT_ERR_CRC (i : Nat) : Fld := ⟨0x50200038 + 0x1000 * i, 7, 0⟩
abbrev CAN_CNT_ERR2 (i : Nat) : Fld := ⟨0x5020003C + 0x1000 * i, 31, 0⟩
abbrev CAN_CNT_ERR2_ACK (i : Nat) : Fld := ⟨0x5020003C + 0x1000 * i, 31, 24⟩
abbrev CAN_CNT_ERR2_RETRYDROP (i : Nat) : Fld := ⟨0x5020003C + 0x1000 * i, 23, 16⟩
abbrev CAN_CNT_ERR2_CANLATE (i : Nat) : Fld := ⟨0x5020003C + 0x1000 * i, 15, 8⟩
abbrev CAN_CNT_ERR2_PEX (i : Nat) : Fld := ⟨0x5020003C + 0x1000 * i, 7, 0⟩
abbrev CAN_CNT_DROP (i : Nat) : Fld := ⟨0x50200040 + 0x1000 * i, 31, 0⟩
abbrev CAN_CNT_DROP_UNMATCHED (i : Nat) : Fld := ⟨0x50200040 + 0x1000 * i, 31, 16⟩
abbrev CAN_CNT_DROP_FORMAT (i : Nat) : Fld := ⟨0x50200040 + 0x1000 * i, 15, 0⟩
abbrev CAN_INT_EN (i : Nat) : Fld := ⟨0x50200048 + 0x1000 * i, 31, 0⟩
abbrev CAN_INT_EN_TTLVL (i : Nat) : Fld := ⟨0x50200048 + 0x1000 * i, 6, 6⟩
abbrev CAN_INT_EN_MASTER (i : Nat) : Fld := ⟨0x50200048 + 0x1000 * i, 5, 5⟩
abbrev CAN_INT_EN_BLOCKED (i : Nat) : Fld := ⟨0x50200048 + 0x1000 * i, 4, 4⟩
abbrev CAN_INT_EN_RECOV (i : Nat) : Fld := ⟨0x50200048 + 0x1000 * i, 3, 3⟩
abbrev CAN_INT_EN_BOFF (i : Nat) : Fld := ⟨0x50200048 + 0x1000 * i, 2, 2⟩
abbrev CAN_INT_EN_PASSIVE (i : Nat) : Fld := ⟨0x50200048 + 0x1000 * i, 1, 1⟩
abbrev CAN_INT_EN_CANCEL (i : Nat) : Fld := ⟨0x50200048 + 0x1000 * i, 0, 0⟩
abbrev CAN_INT_STAT (i : Nat) : Fld := ⟨0x5020004C + 0x1000 * i, 31, 0⟩
abbrev CAN_INT_STAT_TTLVL (i : Nat) : Fld := ⟨0x5020004C + 0x1000 * i, 6, 6⟩
abbrev CAN_INT_STAT_MASTER (i : Nat) : Fld := ⟨0x5020004C + 0x1000 * i, 5, 5⟩
abbrev CAN_INT_STAT_BLOCKED (i : Nat) : Fld := ⟨0x5020004C + 0x1000 * i, 4, 4⟩
abbrev CAN_INT_STAT_RECOV (i : Nat) : Fld := ⟨0x5020004C + 0x1000 * i, 3, 3⟩
abbrev CAN_INT_STAT_BOFF (i : Nat) : Fld := ⟨0x5020004C + 0x1000 * i, 2, 2⟩
abbrev CAN_INT_STAT_PASSIVE (i : Nat) : Fld := ⟨0x5020004C + 0x1000 * i, 1, 1⟩
abbrev CAN_INT_STAT_CANCEL (i : Nat) : Fld := ⟨0x5020004C + 0x1000 * i, 0, 0⟩
abbrev CAN_TXCFG (i j : Nat) : Fld := ⟨0x50200500 + 0x1000 * i + 0x8 * j, 31, 0⟩
abbrev CAN_TXCFG_RETRY_LIM (i j : Nat) : Fld := ⟨0x50200500 + 0x1000 * i + 0x8 * j, 31, 28⟩
abbrev CAN_TXCFG_BOUND (i j : Nat) : Fld := ⟨0x50200500 + 0x1000 * i + 0x8 * j, 7, 0⟩
abbrev CAN_TT_CFG (i : Nat) : Fld := ⟨0x50200600 + 0x1000 * i, 31, 0⟩
abbrev CAN_TT_CFG_REF_ID (i : Nat) : Fld := ⟨0x50200600 + 0x1000 * i, 31, 21⟩
abbrev CAN_TT_CFG_PRI (i : Nat) : Fld := ⟨0x50200600 + 0x1000 * i, 20, 18⟩
abbrev CAN_TT_CFG_PTM (i : Nat) : Fld := ⟨0x50200600 + 0x1000 * i, 17, 17⟩
abbrev CAN_TT_CFG_CCM (i : Nat) : Fld := ⟨0x50200600 + 0x1000 * i, 16, 14⟩
abbrev CAN_TT_CFG_TXEW (i : Nat) : Fld := ⟨0x50200600 + 0x1000 * i, 11, 8⟩
abbrev CAN_TT_CFG_TRIG_CNT (i : Nat) : Fld := ⟨0x50200600 + 0x1000 * i, 7, 0⟩
abbrev CAN_TT_STAT (i : Nat) : Fld := ⟨0x50200604 + 0x1000 * i, 31, 0⟩
abbrev CAN_TT_STAT_LEVEL (i : Nat) : Fld := ⟨0x50200604 + 0x1000 * i, 31, 30⟩
abbrev CAN_TT_STAT_ROLE (i : Nat) : Fld := ⟨0x50200604 + 0x1000 * i, 29, 28⟩
abbrev CAN_TT_STAT_CYCLE (i : Nat) : Fld := ⟨0x50200604 + 0x1000 * i, 27, 22⟩
abbrev CAN_TT_STAT_LOCAL (i : Nat) : Fld := ⟨0x50200604 + 0x1000 * i, 15, 0⟩
abbrev CAN_TT_REF (i : Nat) : Fld := ⟨0x50200608 + 0x1000 * i, 31, 0⟩
abbrev CAN_TT_REF_ID (i : Nat) : Fld := ⟨0x50200608 + 0x1000 * i, 10, 0⟩
abbrev CAN_TT_CNT (i : Nat) : Fld := ⟨0x5020060C + 0x1000 * i, 31, 0⟩
abbrev CAN_TT_CNT_S1 (i : Nat) : Fld := ⟨0x5020060C + 0x1000 * i, 31, 24⟩
abbrev CAN_TT_CNT_S2 (i : Nat) : Fld := ⟨0x5020060C + 0x1000 * i, 23, 16⟩
abbrev CAN_TT_CNT_S3 (i : Nat) : Fld := ⟨0x5020060C + 0x1000 * i, 15, 8⟩
abbrev CAN_TT_CNT_MASTER_CHG (i : Nat) : Fld := ⟨0x5020060C + 0x1000 * i, 7, 0⟩
abbrev CAN_TT_MSC (i j : Nat) : Fld := ⟨0x50200610 + 0x1000 * i + 0x4 * j, 31, 0⟩
abbrev CAN_TXSTAT (i j : Nat) : Fld := ⟨0x50200504 + 0x1000 * i + 0x8 * j, 31, 0⟩
abbrev CAN_TXSTAT_PEND (i j : Nat) : Fld := ⟨0x50200504 + 0x1000 * i + 0x8 * j, 31, 31⟩
abbrev CAN_TXSTAT_ONWIRE (i j : Nat) : Fld := ⟨0x50200504 + 0x1000 * i + 0x8 * j, 30, 30⟩
abbrev CAN_TXSTAT_RETRIES (i j : Nat) : Fld := ⟨0x50200504 + 0x1000 * i + 0x8 * j, 29, 26⟩
abbrev CAN_FLT0 (i j : Nat) : Fld := ⟨0x50200100 + 0x1000 * i + 0x10 * j, 31, 0⟩
abbrev CAN_FLT0_EN (i j : Nat) : Fld := ⟨0x50200100 + 0x1000 * i + 0x10 * j, 31, 31⟩
abbrev CAN_FLT0_IDE (i j : Nat) : Fld := ⟨0x50200100 + 0x1000 * i + 0x10 * j, 30, 30⟩
abbrev CAN_FLT0_ID (i j : Nat) : Fld := ⟨0x50200100 + 0x1000 * i + 0x10 * j, 28, 0⟩
abbrev CAN_FLT1 (i j : Nat) : Fld := ⟨0x50200104 + 0x1000 * i + 0x10 * j, 31, 0⟩
abbrev CAN_FLT1_FMT (i j : Nat) : Fld := ⟨0x50200104 + 0x1000 * i + 0x10 * j, 31, 30⟩
abbrev CAN_FLT1_MASK (i j : Nat) : Fld := ⟨0x50200104 + 0x1000 * i + 0x10 * j, 28, 0⟩
abbrev CAN_FLT2 (i j : Nat) : Fld := ⟨0x50200108 + 0x1000 * i + 0x10 * j, 31, 0⟩
abbrev CAN_FLT2_EXP_LEN (i j : Nat) : Fld := ⟨0x50200108 + 0x1000 * i + 0x10 * j, 6, 0⟩
abbrev CAN_FLT3 (i j : Nat) : Fld := ⟨0x5020010C + 0x1000 * i + 0x10 * j, 31, 0⟩
abbrev CAN_FLT3_LENERR (i j : Nat) : Fld := ⟨0x5020010C + 0x1000 * i + 0x10 * j, 31, 16⟩
abbrev CAN_TRIG (i j : Nat) : Fld := ⟨0x50200800 + 0x1000 * i + 0x4 * j, 31, 0⟩

/-- The registers of this block. -/
def canRows : List RegRow := [
  ⟨0x50200000, 0x1000, 8, 0x0, 1, 4, .hub, 0x0, 0x0, false, [⟨31, 29, .ro⟩, ⟨28, 28, .ro⟩, ⟨27, 27, .ro⟩, ⟨26, 26, .ro⟩]⟩,
  ⟨0x50200004, 0x1000, 8, 0x0, 1, 4, .hub, 0xA07F20, 0x0, false, [⟨31, 23, .ro⟩, ⟨22, 16, .ro⟩, ⟨15, 8, .ro⟩, ⟨7, 0, .ro⟩]⟩,
  ⟨0x50200008, 0x1000, 8, 0x0, 1, 4, .hub, 0x10A1D0A, 0x0, false, [⟨28, 24, .ro⟩, ⟨19, 16, .ro⟩, ⟨13, 8, .ro⟩, ⟨4, 0, .ro⟩]⟩,
  ⟨0x5020000C, 0x1000, 8, 0x0, 1, 4, .hub, 0x9E00, 0x0, false, [⟨15, 15, .ro⟩, ⟨14, 8, .ro⟩]⟩,
  ⟨0x50200010, 0x1000, 8, 0x0, 1, 4, .hub, 0x0, 0x0, false, [⟨31, 29, .ro⟩, ⟨28, 28, .ro⟩, ⟨24, 16, .ro⟩, ⟨15, 8, .ro⟩]⟩,
  ⟨0x50200014, 0x1000, 8, 0x0, 1, 4, .hub, 0xA0A14, 0x0, false, [⟨31, 16, .ro⟩, ⟨15, 8, .ro⟩, ⟨7, 0, .ro⟩]⟩,
  ⟨0x50200018, 0x1000, 8, 0x0, 1, 4, .hub, 0x0, 0x0, false, [⟨31, 24, .ro⟩, ⟨15, 0, .ro⟩]⟩,
  ⟨0x50200020, 0x1000, 8, 0x0, 1, 4, .hub, 0x0, 0x0, false, [⟨31, 0, .w1s⟩]⟩,
  ⟨0x50200024, 0x1000, 8, 0x0, 1, 4, .hub, 0x0, 0x0, false, [⟨31, 0, .ro⟩]⟩,
  ⟨0x50200030, 0x1000, 8, 0x0, 1, 4, .hub, 0x0, 0x0, false, [⟨31, 0, .rc⟩]⟩,
  ⟨0x50200034, 0x1000, 8, 0x0, 1, 4, .hub, 0x0, 0x0, false, [⟨31, 0, .rc⟩]⟩,
  ⟨0x50200038, 0x1000, 8, 0x0, 1, 4, .hub, 0x0, 0x0, false, [⟨31, 24, .rc⟩, ⟨23, 16, .rc⟩, ⟨15, 8, .rc⟩, ⟨7, 0, .rc⟩]⟩,
  ⟨0x5020003C, 0x1000, 8, 0x0, 1, 4, .hub, 0x0, 0x0, false, [⟨31, 24, .rc⟩, ⟨23, 16, .rc⟩, ⟨15, 8, .rc⟩, ⟨7, 0, .rc⟩]⟩,
  ⟨0x50200040, 0x1000, 8, 0x0, 1, 4, .hub, 0x0, 0x0, false, [⟨31, 16, .rc⟩, ⟨15, 0, .rc⟩]⟩,
  ⟨0x50200048, 0x1000, 8, 0x0, 1, 4, .hub, 0x0, 0x0, false, [⟨6, 6, .rw⟩, ⟨5, 5, .rw⟩, ⟨4, 4, .rw⟩, ⟨3, 3, .rw⟩, ⟨2, 2, .rw⟩, ⟨1, 1, .rw⟩, ⟨0, 0, .rw⟩]⟩,
  ⟨0x5020004C, 0x1000, 8, 0x0, 1, 4, .hub, 0x0, 0x0, false, [⟨6, 6, .w1c⟩, ⟨5, 5, .w1c⟩, ⟨4, 4, .w1c⟩, ⟨3, 3, .w1c⟩, ⟨2, 2, .w1c⟩, ⟨1, 1, .w1c⟩, ⟨0, 0, .w1c⟩]⟩,
  ⟨0x50200500, 0x1000, 8, 0x8, 32, 4, .hub, 0xFF, 0x0, false, [⟨31, 28, .ro⟩, ⟨7, 0, .ro⟩]⟩,
  ⟨0x50200600, 0x1000, 4, 0x0, 1, 4, .hub, 0x400, 0x0, false, [⟨31, 21, .ro⟩, ⟨20, 18, .ro⟩, ⟨17, 17, .ro⟩, ⟨16, 14, .ro⟩, ⟨11, 8, .ro⟩, ⟨7, 0, .ro⟩]⟩,
  ⟨0x50200604, 0x1000, 4, 0x0, 1, 4, .hub, 0x0, 0x0, false, [⟨31, 30, .ro⟩, ⟨29, 28, .ro⟩, ⟨27, 22, .ro⟩, ⟨15, 0, .ro⟩]⟩,
  ⟨0x50200608, 0x1000, 4, 0x0, 1, 4, .hub, 0x0, 0x0, false, [⟨10, 0, .ro⟩]⟩,
  ⟨0x5020060C, 0x1000, 4, 0x0, 1, 4, .hub, 0x0, 0x0, false, [⟨31, 24, .rc⟩, ⟨23, 16, .rc⟩, ⟨15, 8, .rc⟩, ⟨7, 0, .rc⟩]⟩,
  ⟨0x50200610, 0x1000, 4, 0x4, 8, 4, .hub, 0x0, 0x0, false, [⟨31, 0, .ro⟩]⟩,
  ⟨0x50200504, 0x1000, 8, 0x8, 32, 4, .hub, 0x0, 0x0, false, [⟨31, 31, .ro⟩, ⟨30, 30, .ro⟩, ⟨29, 26, .ro⟩]⟩,
  ⟨0x50200100, 0x1000, 8, 0x10, 64, 4, .hub, 0x0, 0x0, false, [⟨31, 31, .ro⟩, ⟨30, 30, .ro⟩, ⟨28, 0, .ro⟩]⟩,
  ⟨0x50200104, 0x1000, 8, 0x10, 64, 4, .hub, 0x0, 0x0, false, [⟨31, 30, .ro⟩, ⟨28, 0, .ro⟩]⟩,
  ⟨0x50200108, 0x1000, 8, 0x10, 64, 4, .hub, 0x7F, 0x0, false, [⟨6, 0, .ro⟩]⟩,
  ⟨0x5020010C, 0x1000, 8, 0x10, 64, 4, .hub, 0x0, 0x0, false, [⟨31, 16, .rc⟩]⟩,
  ⟨0x50200800, 0x1000, 4, 0x4, 256, 4, .hub, 0x0, 0x0, false, [⟨31, 0, .ro⟩]⟩]

/-! ### Time base (13 R375) -/

abbrev TB_RAW : Fld := ⟨0x50300000, 63, 0⟩
abbrev TB_DISC : Fld := ⟨0x50300008, 63, 0⟩
abbrev TB_RATE : Fld := ⟨0x50300010, 47, 0⟩
abbrev TB_OFFSET : Fld := ⟨0x50300018, 63, 0⟩
abbrev TB_CAPTURE : Fld := ⟨0x50300020, 31, 0⟩
abbrev TB_CAPTURE_GO : Fld := ⟨0x50300020, 0, 0⟩
abbrev TB_CAP_RAW : Fld := ⟨0x50300028, 63, 0⟩
abbrev TB_CAP_DISC : Fld := ⟨0x50300030, 63, 0⟩
abbrev TB_CAP_RATE : Fld := ⟨0x50300038, 47, 0⟩
abbrev TB_CAP_OFS : Fld := ⟨0x50300040, 63, 0⟩
abbrev TB_SETTIME : Fld := ⟨0x50300048, 63, 0⟩
abbrev TB_STATUS : Fld := ⟨0x50300050, 31, 0⟩
abbrev TB_STATUS_STATE : Fld := ⟨0x50300050, 31, 30⟩
abbrev TB_STATUS_ROLE : Fld := ⟨0x50300050, 29, 28⟩
abbrev TB_STATUS_SLAVE : Fld := ⟨0x50300050, 23, 20⟩
abbrev TB_OFS_LAST : Fld := ⟨0x50300054, 31, 0⟩
abbrev TB_CNT : Fld := ⟨0x50300058, 31, 0⟩
abbrev TB_CNT_STEPS : Fld := ⟨0x50300058, 31, 16⟩
abbrev TB_CNT_TC_SKIP : Fld := ⟨0x50300058, 15, 0⟩
abbrev TB_INT_EN : Fld := ⟨0x50300060, 31, 0⟩
abbrev TB_INT_EN_VIOL : Fld := ⟨0x50300060, 3, 3⟩
abbrev TB_INT_EN_STEP : Fld := ⟨0x50300060, 2, 2⟩
abbrev TB_INT_EN_LOST : Fld := ⟨0x50300060, 1, 1⟩
abbrev TB_INT_EN_SYNC : Fld := ⟨0x50300060, 0, 0⟩
abbrev TB_INT_STAT : Fld := ⟨0x50300064, 31, 0⟩
abbrev TB_INT_STAT_VIOL : Fld := ⟨0x50300064, 3, 3⟩
abbrev TB_INT_STAT_STEP : Fld := ⟨0x50300064, 2, 2⟩
abbrev TB_INT_STAT_LOST : Fld := ⟨0x50300064, 1, 1⟩
abbrev TB_INT_STAT_SYNC : Fld := ⟨0x50300064, 0, 0⟩
abbrev TB_PSTAT (i : Nat) : Fld := ⟨0x50300100 + 0x10 * i, 31, 0⟩
abbrev TB_PSTAT_PSTATE (i : Nat) : Fld := ⟨0x50300100 + 0x10 * i, 31, 30⟩
abbrev TB_PSTAT_ASCAP (i : Nat) : Fld := ⟨0x50300100 + 0x10 * i, 29, 29⟩
abbrev TB_PDELAY (i : Nat) : Fld := ⟨0x50300104 + 0x10 * i, 31, 0⟩
abbrev TB_PLAT (i : Nat) : Fld := ⟨0x50300108 + 0x10 * i, 31, 0⟩
abbrev TB_PLAT_RX (i : Nat) : Fld := ⟨0x50300108 + 0x10 * i, 31, 16⟩
abbrev TB_PLAT_TX (i : Nat) : Fld := ⟨0x50300108 + 0x10 * i, 15, 0⟩
abbrev TB_PCNT (i : Nat) : Fld := ⟨0x5030010C + 0x10 * i, 31, 0⟩
abbrev TB_PCNT_VIOL (i : Nat) : Fld := ⟨0x5030010C + 0x10 * i, 31, 16⟩
abbrev TB_PCNT_PDFAIL (i : Nat) : Fld := ⟨0x5030010C + 0x10 * i, 15, 0⟩

/-- The registers of this block. -/
def timeBaseRows : List RegRow := [
  ⟨0x50300000, 0x0, 1, 0x0, 1, 8, .hub, 0x0, 0x0, false, [⟨63, 0, .ro⟩]⟩,
  ⟨0x50300008, 0x0, 1, 0x0, 1, 8, .hub, 0x0, 0x0, false, [⟨63, 0, .ro⟩]⟩,
  ⟨0x50300010, 0x0, 1, 0x0, 1, 8, .hub, 0x14000000000, 0x0, false, [⟨47, 0, .ro⟩]⟩,
  ⟨0x50300018, 0x0, 1, 0x0, 1, 8, .hub, 0x0, 0x0, false, [⟨63, 0, .ro⟩]⟩,
  ⟨0x50300020, 0x0, 1, 0x0, 1, 4, .lane, 0x0, 0x0, false, [⟨0, 0, .w1s⟩]⟩,
  ⟨0x50300028, 0x0, 1, 0x0, 1, 8, .lane, 0x0, 0x0, false, [⟨63, 0, .ro⟩]⟩,
  ⟨0x50300030, 0x0, 1, 0x0, 1, 8, .lane, 0x0, 0x0, false, [⟨63, 0, .ro⟩]⟩,
  ⟨0x50300038, 0x0, 1, 0x0, 1, 8, .lane, 0x14000000000, 0x0, false, [⟨47, 0, .ro⟩]⟩,
  ⟨0x50300040, 0x0, 1, 0x0, 1, 8, .lane, 0x0, 0x0, false, [⟨63, 0, .ro⟩]⟩,
  ⟨0x50300048, 0x0, 1, 0x0, 1, 8, .hub, 0x0, 0x0, false, [⟨63, 0, .wo⟩]⟩,
  ⟨0x50300050, 0x0, 1, 0x0, 1, 4, .hub, 0x0, 0x0, false, [⟨31, 30, .ro⟩, ⟨29, 28, .ro⟩, ⟨23, 20, .ro⟩]⟩,
  ⟨0x50300054, 0x0, 1, 0x0, 1, 4, .hub, 0x0, 0x0, false, [⟨31, 0, .ro⟩]⟩,
  ⟨0x50300058, 0x0, 1, 0x0, 1, 4, .hub, 0x0, 0x0, false, [⟨31, 16, .rc⟩, ⟨15, 0, .rc⟩]⟩,
  ⟨0x50300060, 0x0, 1, 0x0, 1, 4, .hub, 0x0, 0x0, false, [⟨3, 3, .rw⟩, ⟨2, 2, .rw⟩, ⟨1, 1, .rw⟩, ⟨0, 0, .rw⟩]⟩,
  ⟨0x50300064, 0x0, 1, 0x0, 1, 4, .hub, 0x0, 0x0, false, [⟨3, 3, .w1c⟩, ⟨2, 2, .w1c⟩, ⟨1, 1, .w1c⟩, ⟨0, 0, .w1c⟩]⟩,
  ⟨0x50300100, 0x10, 12, 0x0, 1, 4, .hub, 0x0, 0x0, false, [⟨31, 30, .ro⟩, ⟨29, 29, .ro⟩]⟩,
  ⟨0x50300104, 0x10, 12, 0x0, 1, 4, .hub, 0x0, 0x0, false, [⟨31, 0, .ro⟩]⟩,
  ⟨0x50300108, 0x10, 12, 0x0, 1, 4, .hub, 0x0, 0x0, false, [⟨31, 16, .ro⟩, ⟨15, 0, .ro⟩]⟩,
  ⟨0x5030010C, 0x10, 12, 0x0, 1, 4, .hub, 0x0, 0x0, false, [⟨31, 16, .rc⟩, ⟨15, 0, .rc⟩]⟩]

/-! ### Safety layer (14 R394) -/

abbrev SLY_CRC_CTL : Fld := ⟨0x40031000, 31, 0⟩
abbrev SLY_CRC_CTL_POLY : Fld := ⟨0x40031000, 1, 0⟩
abbrev SLY_CRC_SEED : Fld := ⟨0x40031004, 31, 0⟩
abbrev SLY_CRC_PRE : Fld := ⟨0x40031008, 31, 0⟩
abbrev SLY_CRC_ADDR : Fld := ⟨0x4003100C, 31, 0⟩
abbrev SLY_CRC_LEN : Fld := ⟨0x40031010, 15, 0⟩
abbrev SLY_CRC_GO : Fld := ⟨0x40031014, 0, 0⟩
abbrev SLY_CRC_RES : Fld := ⟨0x40031018, 31, 0⟩
abbrev SLY_STATUS : Fld := ⟨0x4003101C, 31, 0⟩
abbrev SLY_STATUS_RANGE : Fld := ⟨0x4003101C, 0, 0⟩
abbrev SLY_CNT : Fld := ⟨0x40031020, 31, 0⟩
abbrev SLY_CNT_CRC : Fld := ⟨0x40031020, 31, 24⟩
abbrev SLY_CNT_SEQ : Fld := ⟨0x40031020, 23, 16⟩
abbrev SLY_CNT_FMT : Fld := ⟨0x40031020, 15, 8⟩
abbrev SLY_CNT_DELAY : Fld := ⟨0x40031020, 7, 0⟩
abbrev SLY_CNT2 : Fld := ⟨0x40031024, 31, 0⟩
abbrev SLY_CNT2_LOST : Fld := ⟨0x40031024, 31, 16⟩
abbrev SLY_CNT2_REPEAT : Fld := ⟨0x40031024, 15, 8⟩
abbrev SLY_CNT2_FAIL : Fld := ⟨0x40031024, 7, 0⟩
abbrev SLY_INT_EN : Fld := ⟨0x40031030, 31, 0⟩
abbrev SLY_INT_EN_FAIL : Fld := ⟨0x40031030, 2, 2⟩
abbrev SLY_INT_EN_ERR : Fld := ⟨0x40031030, 1, 1⟩
abbrev SLY_INT_EN_DONE : Fld := ⟨0x40031030, 0, 0⟩
abbrev SLY_INT_STAT : Fld := ⟨0x40031034, 31, 0⟩
abbrev SLY_INT_STAT_FAIL : Fld := ⟨0x40031034, 2, 2⟩
abbrev SLY_INT_STAT_ERR : Fld := ⟨0x40031034, 1, 1⟩
abbrev SLY_INT_STAT_DONE : Fld := ⟨0x40031034, 0, 0⟩

/-- The registers of this block. -/
def safetyRows : List RegRow := [
  ⟨0x40031000, 0x0, 1, 0x0, 1, 4, .lane, 0x0, 0x0, true, [⟨1, 0, .rw⟩]⟩,
  ⟨0x40031004, 0x0, 1, 0x0, 1, 4, .lane, 0xFFFFFFFF, 0x0, true, [⟨31, 0, .rw⟩]⟩,
  ⟨0x40031008, 0x0, 1, 0x0, 1, 4, .lane, 0x0, 0x0, true, [⟨31, 0, .rw⟩]⟩,
  ⟨0x4003100C, 0x0, 1, 0x0, 1, 4, .lane, 0x0, 0x0, true, [⟨31, 0, .rw⟩]⟩,
  ⟨0x40031010, 0x0, 1, 0x0, 1, 4, .lane, 0x0, 0x0, true, [⟨15, 0, .rw⟩]⟩,
  ⟨0x40031014, 0x0, 1, 0x0, 1, 4, .lane, 0x0, 0x0, true, [⟨0, 0, .w1s⟩]⟩,
  ⟨0x40031018, 0x0, 1, 0x0, 1, 4, .lane, 0x0, 0x0, true, [⟨31, 0, .ro⟩]⟩,
  ⟨0x4003101C, 0x0, 1, 0x0, 1, 4, .lane, 0x0, 0x0, true, [⟨0, 0, .ro⟩]⟩,
  ⟨0x40031020, 0x0, 1, 0x0, 1, 4, .lane, 0x0, 0x0, true, [⟨31, 24, .rc⟩, ⟨23, 16, .rc⟩, ⟨15, 8, .rc⟩, ⟨7, 0, .rc⟩]⟩,
  ⟨0x40031024, 0x0, 1, 0x0, 1, 4, .lane, 0x0, 0x0, true, [⟨31, 16, .rc⟩, ⟨15, 8, .rc⟩, ⟨7, 0, .rc⟩]⟩,
  ⟨0x40031030, 0x0, 1, 0x0, 1, 4, .lane, 0x0, 0x0, true, [⟨2, 2, .rw⟩, ⟨1, 1, .rw⟩, ⟨0, 0, .rw⟩]⟩,
  ⟨0x40031034, 0x0, 1, 0x0, 1, 4, .lane, 0x0, 0x0, true, [⟨2, 2, .w1c⟩, ⟨1, 1, .w1c⟩, ⟨0, 0, .w1c⟩]⟩]

/-! ### Inputs, outputs, brake loop (15) -/

abbrev DIN_CFG : Fld := ⟨0x40010000, 31, 0⟩
abbrev DIN_CFG_G3 : Fld := ⟨0x40010000, 15, 12⟩
abbrev DIN_CFG_G2 : Fld := ⟨0x40010000, 11, 8⟩
abbrev DIN_CFG_G1 : Fld := ⟨0x40010000, 7, 4⟩
abbrev DIN_CFG_G0 : Fld := ⟨0x40010000, 3, 0⟩
abbrev DIN_RAW : Fld := ⟨0x40010004, 31, 0⟩
abbrev DIN_FILT : Fld := ⟨0x40010008, 31, 0⟩
abbrev DIN_USED : Fld := ⟨0x4001000C, 31, 0⟩
abbrev DIN_STATUS : Fld := ⟨0x40010010, 31, 0⟩
abbrev DIN_STATUS_REC_OK : Fld := ⟨0x40010010, 3, 3⟩
abbrev DIN_STATUS_RUN : Fld := ⟨0x40010010, 2, 2⟩
abbrev DIN_STATUS_WAKE : Fld := ⟨0x40010010, 1, 1⟩
abbrev DIN_STATUS_RESET : Fld := ⟨0x40010010, 0, 0⟩
abbrev DIN_INT_EN : Fld := ⟨0x40010014, 31, 0⟩
abbrev DIN_INT_EN_REC_ERR : Fld := ⟨0x40010014, 1, 1⟩
abbrev DIN_INT_EN_CHG : Fld := ⟨0x40010014, 0, 0⟩
abbrev DIN_INT_STAT : Fld := ⟨0x40010018, 31, 0⟩
abbrev DIN_INT_STAT_REC_ERR : Fld := ⟨0x40010018, 1, 1⟩
abbrev DIN_INT_STAT_CHG : Fld := ⟨0x40010018, 0, 0⟩
abbrev DIN_DEB (i : Nat) : Fld := ⟨0x40010100 + 0x4 * i, 15, 0⟩
abbrev DIN_CHG (i : Nat) : Fld := ⟨0x40010200 + 0x4 * i, 15, 0⟩
abbrev DOUT_RB_HS : Fld := ⟨0x40010400, 16, 0⟩
abbrev DOUT_RB_LS : Fld := ⟨0x40010404, 16, 0⟩
abbrev DOUT_RB_OC : Fld := ⟨0x40010408, 16, 0⟩
abbrev DOUT_DIAG_HS : Fld := ⟨0x4001040C, 16, 0⟩
abbrev DOUT_DIAG_LS : Fld := ⟨0x40010410, 16, 0⟩
abbrev DOUT_DIAG_OVL : Fld := ⟨0x40010414, 16, 0⟩
abbrev DOUT_TP : Fld := ⟨0x40010418, 31, 0⟩
abbrev DOUT_SLOT : Fld := ⟨0x4001041C, 5, 0⟩
abbrev DOUT_CNT : Fld := ⟨0x40010420, 31, 0⟩
abbrev DOUT_CNT_SPURIOUS : Fld := ⟨0x40010420, 31, 16⟩
abbrev DOUT_CNT_PULSES : Fld := ⟨0x40010420, 15, 0⟩
abbrev DOUT_INT_EN : Fld := ⟨0x40010428, 31, 0⟩
abbrev DOUT_INT_EN_OVL : Fld := ⟨0x40010428, 3, 3⟩
abbrev DOUT_INT_EN_SPUR : Fld := ⟨0x40010428, 2, 2⟩
abbrev DOUT_INT_EN_FAULT : Fld := ⟨0x40010428, 1, 1⟩
abbrev DOUT_INT_EN_TP : Fld := ⟨0x40010428, 0, 0⟩
abbrev DOUT_INT_STAT : Fld := ⟨0x4001042C, 31, 0⟩
abbrev DOUT_INT_STAT_OVL : Fld := ⟨0x4001042C, 3, 3⟩
abbrev DOUT_INT_STAT_SPUR : Fld := ⟨0x4001042C, 2, 2⟩
abbrev DOUT_INT_STAT_FAULT : Fld := ⟨0x4001042C, 1, 1⟩
abbrev DOUT_INT_STAT_TP : Fld := ⟨0x4001042C, 0, 0⟩
abbrev DOUT_DARK (i : Nat) : Fld := ⟨0x40010440 + 0x4 * i, 8, 0⟩
abbrev BRK_I : Fld := ⟨0x40010800, 15, 0⟩
abbrev BRK_RANGE : Fld := ⟨0x40010804, 31, 0⟩
abbrev BRK_RANGE_I_MAX : Fld := ⟨0x40010804, 31, 16⟩
abbrev BRK_RANGE_I_MIN : Fld := ⟨0x40010804, 15, 0⟩
abbrev BRK_PT : Fld := ⟨0x40010808, 31, 0⟩
abbrev BRK_PT_PASS : Fld := ⟨0x40010808, 31, 31⟩
abbrev BRK_PT_FAIL : Fld := ⟨0x40010808, 30, 30⟩
abbrev BRK_PT_OVERDUE : Fld := ⟨0x40010808, 29, 29⟩
abbrev BRK_PT_HOURS : Fld := ⟨0x40010808, 15, 0⟩
abbrev BRK_CNT : Fld := ⟨0x4001080C, 31, 0⟩
abbrev BRK_CNT_RANGE : Fld := ⟨0x4001080C, 31, 16⟩
abbrev BRK_CNT_PT_FAIL : Fld := ⟨0x4001080C, 15, 0⟩

/-- The registers of this block. -/
def fieldRows : List RegRow := [
  ⟨0x40010000, 0x0, 1, 0x0, 1, 4, .lane, 0x0, 0x0, true, [⟨15, 12, .rw⟩, ⟨11, 8, .rw⟩, ⟨7, 4, .rw⟩, ⟨3, 0, .rw⟩]⟩,
  ⟨0x40010004, 0x0, 1, 0x0, 1, 4, .lane, 0x0, 0x0, true, [⟨31, 0, .ro⟩]⟩,
  ⟨0x40010008, 0x0, 1, 0x0, 1, 4, .lane, 0x0, 0x0, true, [⟨31, 0, .ro⟩]⟩,
  ⟨0x4001000C, 0x0, 1, 0x0, 1, 4, .lane, 0x0, 0x0, true, [⟨31, 0, .rw⟩]⟩,
  ⟨0x40010010, 0x0, 1, 0x0, 1, 4, .lane, 0x0, 0x0, true, [⟨3, 3, .ro⟩, ⟨2, 2, .ro⟩, ⟨1, 1, .ro⟩, ⟨0, 0, .ro⟩]⟩,
  ⟨0x40010014, 0x0, 1, 0x0, 1, 4, .lane, 0x0, 0x0, true, [⟨1, 1, .rw⟩, ⟨0, 0, .rw⟩]⟩,
  ⟨0x40010018, 0x0, 1, 0x0, 1, 4, .lane, 0x0, 0x0, true, [⟨1, 1, .w1c⟩, ⟨0, 0, .w1c⟩]⟩,
  ⟨0x40010100, 0x4, 32, 0x0, 1, 4, .lane, 0x3E8, 0x0, true, [⟨15, 0, .rw⟩]⟩,
  ⟨0x40010200, 0x4, 32, 0x0, 1, 4, .lane, 0x0, 0x0, true, [⟨15, 0, .rc⟩]⟩,
  ⟨0x40010400, 0x0, 1, 0x0, 1, 4, .lane, 0x0, 0x0, true, [⟨16, 0, .ro⟩]⟩,
  ⟨0x40010404, 0x0, 1, 0x0, 1, 4, .lane, 0x0, 0x0, true, [⟨16, 0, .ro⟩]⟩,
  ⟨0x40010408, 0x0, 1, 0x0, 1, 4, .lane, 0x0, 0x0, true, [⟨16, 0, .ro⟩]⟩,
  ⟨0x4001040C, 0x0, 1, 0x0, 1, 4, .lane, 0x0, 0x0, true, [⟨16, 0, .ro⟩]⟩,
  ⟨0x40010410, 0x0, 1, 0x0, 1, 4, .lane, 0x0, 0x0, true, [⟨16, 0, .ro⟩]⟩,
  ⟨0x40010414, 0x0, 1, 0x0, 1, 4, .lane, 0x0, 0x0, true, [⟨16, 0, .ro⟩]⟩,
  ⟨0x40010418, 0x0, 1, 0x0, 1, 4, .lane, 0x1E8480, 0x0, true, [⟨31, 0, .rw⟩]⟩,
  ⟨0x4001041C, 0x0, 1, 0x0, 1, 4, .lane, 0x0, 0x0, true, [⟨5, 0, .ro⟩]⟩,
  ⟨0x40010420, 0x0, 1, 0x0, 1, 4, .lane, 0x0, 0x0, true, [⟨31, 16, .rc⟩, ⟨15, 0, .rc⟩]⟩,
  ⟨0x40010428, 0x0, 1, 0x0, 1, 4, .lane, 0x0, 0x0, true, [⟨3, 3, .rw⟩, ⟨2, 2, .rw⟩, ⟨1, 1, .rw⟩, ⟨0, 0, .rw⟩]⟩,
  ⟨0x4001042C, 0x0, 1, 0x0, 1, 4, .lane, 0x0, 0x0, true, [⟨3, 3, .w1c⟩, ⟨2, 2, .w1c⟩, ⟨1, 1, .w1c⟩, ⟨0, 0, .w1c⟩]⟩,
  ⟨0x40010440, 0x4, 17, 0x0, 1, 4, .lane, 0xC8, 0x0, true, [⟨8, 0, .rw⟩]⟩,
  ⟨0x40010800, 0x0, 1, 0x0, 1, 4, .lane, 0x0, 0x0, true, [⟨15, 0, .ro⟩]⟩,
  ⟨0x40010804, 0x0, 1, 0x0, 1, 4, .lane, 0x7D00064, 0x0, true, [⟨31, 16, .rw⟩, ⟨15, 0, .rw⟩]⟩,
  ⟨0x40010808, 0x0, 1, 0x0, 1, 4, .lane, 0x0, 0x0, true, [⟨31, 31, .ro⟩, ⟨30, 30, .ro⟩, ⟨29, 29, .ro⟩, ⟨15, 0, .ro⟩]⟩,
  ⟨0x4001080C, 0x0, 1, 0x0, 1, 4, .lane, 0x0, 0x0, true, [⟨31, 16, .rc⟩, ⟨15, 0, .rc⟩]⟩]

/-! ### Cellar book (17 R470) -/

abbrev CBK_SUB (i : Nat) : Fld := ⟨0x50320000 + 0x4 * i, 31, 0⟩
abbrev CBK_STATUS : Fld := ⟨0x50320040, 31, 0⟩
abbrev CBK_STATUS_READY : Fld := ⟨0x50320040, 31, 31⟩
abbrev CBK_STATUS_FF_FULL : Fld := ⟨0x50320040, 30, 30⟩
abbrev CBK_STATUS_COUNTING : Fld := ⟨0x50320040, 29, 29⟩
abbrev CBK_STATUS_FROZEN : Fld := ⟨0x50320040, 28, 28⟩
abbrev CBK_STATUS_DECANT : Fld := ⟨0x50320040, 27, 27⟩
abbrev CBK_STATUS_SUB_FREE : Fld := ⟨0x50320040, 6, 0⟩
abbrev CBK_NEXT : Fld := ⟨0x50320048, 63, 0⟩
abbrev CBK_FF_BASE : Fld := ⟨0x50320050, 63, 0⟩
abbrev CBK_FF_COUNT : Fld := ⟨0x50320058, 18, 0⟩
abbrev CBK_FREEZE : Fld := ⟨0x50320060, 63, 0⟩
abbrev CBK_CNT : Fld := ⟨0x50320070, 31, 0⟩
abbrev CBK_CNT_LOST : Fld := ⟨0x50320070, 31, 16⟩
abbrev CBK_CNT_MERGED : Fld := ⟨0x50320070, 15, 0⟩
abbrev CBK_GCNT : Fld := ⟨0x50320074, 31, 0⟩
abbrev CBK_GCNT_TRIG_IGN : Fld := ⟨0x50320074, 31, 16⟩
abbrev CBK_GCNT_SUMMARIES : Fld := ⟨0x50320074, 15, 0⟩
abbrev CBK_INT_EN : Fld := ⟨0x50320080, 31, 0⟩
abbrev CBK_INT_EN_DECANT : Fld := ⟨0x50320080, 3, 3⟩
abbrev CBK_INT_EN_FROZEN : Fld := ⟨0x50320080, 2, 2⟩
abbrev CBK_INT_EN_FF_FULL : Fld := ⟨0x50320080, 1, 1⟩
abbrev CBK_INT_EN_LOST : Fld := ⟨0x50320080, 0, 0⟩
abbrev CBK_INT_STAT : Fld := ⟨0x50320084, 31, 0⟩
abbrev CBK_INT_STAT_DECANT : Fld := ⟨0x50320084, 3, 3⟩
abbrev CBK_INT_STAT_FROZEN : Fld := ⟨0x50320084, 2, 2⟩
abbrev CBK_INT_STAT_FF_FULL : Fld := ⟨0x50320084, 1, 1⟩
abbrev CBK_INT_STAT_LOST : Fld := ⟨0x50320084, 0, 0⟩

/-- The registers of this block. -/
def bookRows : List RegRow := [
  ⟨0x50320000, 0x4, 10, 0x0, 1, 4, .lane, 0x0, 0x0, true, [⟨31, 0, .wo⟩]⟩,
  ⟨0x50320040, 0x0, 1, 0x0, 1, 4, .hub, 0x40, 0x0, true, [⟨31, 31, .ro⟩, ⟨30, 30, .ro⟩, ⟨29, 29, .ro⟩, ⟨28, 28, .ro⟩, ⟨27, 27, .ro⟩, ⟨6, 0, .ro⟩]⟩,
  ⟨0x50320048, 0x0, 1, 0x0, 1, 8, .hub, 0x0, 0x0, true, [⟨63, 0, .ro⟩]⟩,
  ⟨0x50320050, 0x0, 1, 0x0, 1, 8, .hub, 0x0, 0x0, true, [⟨63, 0, .ro⟩]⟩,
  ⟨0x50320058, 0x0, 1, 0x0, 1, 4, .hub, 0x0, 0x0, true, [⟨18, 0, .ro⟩]⟩,
  ⟨0x50320060, 0x0, 1, 0x0, 1, 8, .hub, 0x0, 0x0, true, [⟨63, 0, .ro⟩]⟩,
  ⟨0x50320070, 0x0, 1, 0x0, 1, 4, .lane, 0x0, 0x0, true, [⟨31, 16, .rc⟩, ⟨15, 0, .rc⟩]⟩,
  ⟨0x50320074, 0x0, 1, 0x0, 1, 4, .hub, 0x0, 0x0, true, [⟨31, 16, .ro⟩, ⟨15, 0, .ro⟩]⟩,
  ⟨0x50320080, 0x0, 1, 0x0, 1, 4, .lane, 0x0, 0x0, true, [⟨3, 3, .rw⟩, ⟨2, 2, .rw⟩, ⟨1, 1, .rw⟩, ⟨0, 0, .rw⟩]⟩,
  ⟨0x50320084, 0x0, 1, 0x0, 1, 4, .lane, 0x0, 0x0, true, [⟨3, 3, .w1c⟩, ⟨2, 2, .w1c⟩, ⟨1, 1, .w1c⟩, ⟨0, 0, .w1c⟩]⟩]

/-! ### Cooper share and ageing sensors (18) -/

abbrev COO_CMD : Fld := ⟨0x40050000, 31, 0⟩
abbrev COO_CMD_BLOCKS : Fld := ⟨0x40050000, 15, 8⟩
abbrev COO_CMD_SET : Fld := ⟨0x40050000, 7, 4⟩
abbrev COO_CMD_GO : Fld := ⟨0x40050000, 0, 0⟩
abbrev COO_CFG : Fld := ⟨0x40050004, 31, 0⟩
abbrev COO_CFG_BUDGET : Fld := ⟨0x40050004, 7, 0⟩
abbrev COO_STATUS : Fld := ⟨0x40050008, 31, 0⟩
abbrev COO_STATUS_STATE : Fld := ⟨0x40050008, 31, 28⟩
abbrev COO_STATUS_SET : Fld := ⟨0x40050008, 27, 24⟩
abbrev COO_STATUS_RUNNING : Fld := ⟨0x40050008, 23, 16⟩
abbrev COO_STATUS_DONE : Fld := ⟨0x40050008, 15, 8⟩
abbrev COO_STATUS_PASS : Fld := ⟨0x40050008, 7, 7⟩
abbrev COO_STATUS_FLOG_OVF : Fld := ⟨0x40050008, 6, 6⟩
abbrev COO_RESULT : Fld := ⟨0x4005000C, 7, 0⟩
abbrev COO_MISR : Fld := ⟨0x40050010, 63, 0⟩
abbrev COO_MISR_EXP : Fld := ⟨0x40050018, 63, 0⟩
abbrev COO_TIME : Fld := ⟨0x40050020, 31, 0⟩
abbrev COO_SPARES : Fld := ⟨0x40050024, 31, 0⟩
abbrev COO_SPARES_SRAM : Fld := ⟨0x40050024, 31, 16⟩
abbrev COO_SPARES_L1 : Fld := ⟨0x40050024, 15, 0⟩
abbrev COO_STOP : Fld := ⟨0x40050028, 0, 0⟩
abbrev COO_INT_EN : Fld := ⟨0x40050030, 31, 0⟩
abbrev COO_INT_EN_FLOG : Fld := ⟨0x40050030, 2, 2⟩
abbrev COO_INT_EN_FAIL : Fld := ⟨0x40050030, 1, 1⟩
abbrev COO_INT_EN_DONE : Fld := ⟨0x40050030, 0, 0⟩
abbrev COO_INT_STAT : Fld := ⟨0x40050034, 31, 0⟩
abbrev COO_INT_STAT_FLOG : Fld := ⟨0x40050034, 2, 2⟩
abbrev COO_INT_STAT_FAIL : Fld := ⟨0x40050034, 1, 1⟩
abbrev COO_INT_STAT_DONE : Fld := ⟨0x40050034, 0, 0⟩
abbrev COO_FLOG (i : Nat) : Fld := ⟨0x40050100 + 0x8 * i, 63, 0⟩
abbrev COO_FLOG_ARRAY (i : Nat) : Fld := ⟨0x40050100 + 0x8 * i, 63, 56⟩
abbrev COO_FLOG_ROW (i : Nat) : Fld := ⟨0x40050100 + 0x8 * i, 55, 40⟩
abbrev COO_FLOG_BIT (i : Nat) : Fld := ⟨0x40050100 + 0x8 * i, 39, 32⟩
abbrev COO_FLOG_WORD (i : Nat) : Fld := ⟨0x40050100 + 0x8 * i, 31, 16⟩
abbrev COO_FLOG_VALID (i : Nat) : Fld := ⟨0x40050100 + 0x8 * i, 0, 0⟩
abbrev AGE_CPR (i : Nat) : Fld := ⟨0x40040000 + 0x4 * i, 15, 0⟩
abbrev AGE_SLACK : Fld := ⟨0x40040020, 15, 0⟩
abbrev AGE_NBTI : Fld := ⟨0x40040024, 31, 0⟩
abbrev AGE_TJ : Fld := ⟨0x40040028, 15, 0⟩
abbrev AGE_AVS : Fld := ⟨0x40040030, 31, 0⟩
abbrev AGE_AVS_SLACK_PLAN : Fld := ⟨0x40040030, 31, 24⟩
abbrev AGE_AVS_SLACK_HARD : Fld := ⟨0x40040030, 23, 16⟩
abbrev AGE_AVS_V_FLOOR : Fld := ⟨0x40040030, 15, 8⟩
abbrev AGE_AVS_V : Fld := ⟨0x40040030, 7, 0⟩
abbrev AGE_PLAN : Fld := ⟨0x40040034, 31, 0⟩
abbrev AGE_PLAN_F_RUN : Fld := ⟨0x40040034, 20, 16⟩
abbrev AGE_PLAN_F_ALLOW : Fld := ⟨0x40040034, 12, 8⟩
abbrev AGE_PLAN_HARD : Fld := ⟨0x40040034, 1, 1⟩
abbrev AGE_PLAN_VMAX : Fld := ⟨0x40040034, 0, 0⟩
abbrev AGE_VMIN : Fld := ⟨0x40040038, 7, 0⟩
abbrev AGE_INT_EN : Fld := ⟨0x40040040, 31, 0⟩
abbrev AGE_INT_EN_HARD : Fld := ⟨0x40040040, 1, 1⟩
abbrev AGE_INT_EN_VMAX : Fld := ⟨0x40040040, 0, 0⟩
abbrev AGE_INT_STAT : Fld := ⟨0x40040044, 31, 0⟩
abbrev AGE_INT_STAT_HARD : Fld := ⟨0x40040044, 1, 1⟩
abbrev AGE_INT_STAT_VMAX : Fld := ⟨0x40040044, 0, 0⟩

/-- The registers of this block. -/
def cooperRows : List RegRow := [
  ⟨0x40050000, 0x0, 1, 0x0, 1, 4, .lane, 0x0, 0x0, true, [⟨15, 8, .rw⟩, ⟨7, 4, .rw⟩, ⟨0, 0, .w1s⟩]⟩,
  ⟨0x40050004, 0x0, 1, 0x0, 1, 4, .lane, 0x20, 0x0, true, [⟨7, 0, .rw⟩]⟩,
  ⟨0x40050008, 0x0, 1, 0x0, 1, 4, .lane, 0x0, 0x0, true, [⟨31, 28, .ro⟩, ⟨27, 24, .ro⟩, ⟨23, 16, .ro⟩, ⟨15, 8, .ro⟩, ⟨7, 7, .ro⟩, ⟨6, 6, .ro⟩]⟩,
  ⟨0x4005000C, 0x0, 1, 0x0, 1, 4, .lane, 0x0, 0x0, true, [⟨7, 0, .ro⟩]⟩,
  ⟨0x40050010, 0x0, 1, 0x0, 1, 8, .lane, 0x0, 0x0, true, [⟨63, 0, .ro⟩]⟩,
  ⟨0x40050018, 0x0, 1, 0x0, 1, 8, .lane, 0x0, 0x0, true, [⟨63, 0, .ro⟩]⟩,
  ⟨0x40050020, 0x0, 1, 0x0, 1, 4, .lane, 0x0, 0x0, true, [⟨31, 0, .ro⟩]⟩,
  ⟨0x40050024, 0x0, 1, 0x0, 1, 4, .lane, 0x0, 0x0, true, [⟨31, 16, .ro⟩, ⟨15, 0, .ro⟩]⟩,
  ⟨0x40050028, 0x0, 1, 0x0, 1, 4, .lane, 0x0, 0x0, true, [⟨0, 0, .w1s⟩]⟩,
  ⟨0x40050030, 0x0, 1, 0x0, 1, 4, .lane, 0x0, 0x0, true, [⟨2, 2, .rw⟩, ⟨1, 1, .rw⟩, ⟨0, 0, .rw⟩]⟩,
  ⟨0x40050034, 0x0, 1, 0x0, 1, 4, .lane, 0x0, 0x0, true, [⟨2, 2, .w1c⟩, ⟨1, 1, .w1c⟩, ⟨0, 0, .w1c⟩]⟩,
  ⟨0x40050100, 0x8, 16, 0x0, 1, 8, .lane, 0x0, 0x0, true, [⟨63, 56, .ro⟩, ⟨55, 40, .ro⟩, ⟨39, 32, .ro⟩, ⟨31, 16, .ro⟩, ⟨0, 0, .ro⟩]⟩,
  ⟨0x40040000, 0x4, 8, 0x0, 1, 4, .lane, 0x0, 0x0, true, [⟨15, 0, .ro⟩]⟩,
  ⟨0x40040020, 0x0, 1, 0x0, 1, 4, .lane, 0x7FFF, 0x0, true, [⟨15, 0, .rc⟩]⟩,
  ⟨0x40040024, 0x0, 1, 0x0, 1, 4, .lane, 0x0, 0x0, true, [⟨31, 0, .ro⟩]⟩,
  ⟨0x40040028, 0x0, 1, 0x0, 1, 4, .lane, 0x0, 0x0, true, [⟨15, 0, .ro⟩]⟩,
  ⟨0x40040030, 0x0, 1, 0x0, 1, 4, .lane, 0x3C191428, 0x0, true, [⟨31, 24, .rw⟩, ⟨23, 16, .rw⟩, ⟨15, 8, .rw⟩, ⟨7, 0, .ro⟩]⟩,
  ⟨0x40040034, 0x0, 1, 0x0, 1, 4, .lane, 0x101000, 0x0, true, [⟨20, 16, .ro⟩, ⟨12, 8, .rw⟩, ⟨1, 1, .ro⟩, ⟨0, 0, .ro⟩]⟩,
  ⟨0x40040038, 0x0, 1, 0x0, 1, 4, .lane, 0x0, 0x0, true, [⟨7, 0, .ro⟩]⟩,
  ⟨0x40040040, 0x0, 1, 0x0, 1, 4, .lane, 0x0, 0x0, true, [⟨1, 1, .rw⟩, ⟨0, 0, .rw⟩]⟩,
  ⟨0x40040044, 0x0, 1, 0x0, 1, 4, .lane, 0x0, 0x0, true, [⟨1, 1, .w1c⟩, ⟨0, 0, .w1c⟩]⟩]

/-! ### Pairing (19) -/

abbrev PAIR_CTL : Fld := ⟨0x40020200, 31, 0⟩
abbrev PAIR_CTL_ROLE : Fld := ⟨0x40020200, 1, 0⟩
abbrev PAIR_STAT : Fld := ⟨0x40020204, 31, 0⟩
abbrev PAIR_STAT_LINE_IN : Fld := ⟨0x40020204, 31, 31⟩
abbrev PAIR_STAT_LINE_OUT : Fld := ⟨0x40020204, 30, 30⟩
abbrev PAIR_STAT_HB_OK : Fld := ⟨0x40020204, 29, 29⟩
abbrev PAIR_STAT_ELIGIBLE : Fld := ⟨0x40020204, 28, 28⟩
abbrev PAIR_STAT_SHADOW_OK : Fld := ⟨0x40020204, 27, 27⟩
abbrev PAIR_STAT_PROLE : Fld := ⟨0x40020204, 25, 24⟩
abbrev PAIR_STAT_TAKEBACKS : Fld := ⟨0x40020204, 3, 0⟩
abbrev PAIR_SHADOW : Fld := ⟨0x40020208, 16, 0⟩
abbrev PAIR_CNT : Fld := ⟨0x4002020C, 31, 0⟩
abbrev PAIR_CNT_HB_MISS : Fld := ⟨0x4002020C, 31, 16⟩
abbrev PAIR_CNT_SHADOW : Fld := ⟨0x4002020C, 15, 8⟩
abbrev PAIR_CNT_LINE : Fld := ⟨0x4002020C, 7, 0⟩
abbrev PAIR_CFG : Fld := ⟨0x40020210, 31, 0⟩
abbrev PAIR_CFG_SHADOW_N : Fld := ⟨0x40020210, 7, 0⟩

/-- The registers of this block. -/
def pairRows : List RegRow := [
  ⟨0x40020200, 0x0, 1, 0x0, 1, 4, .lane, 0x3, 0x0, true, [⟨1, 0, .rw⟩]⟩,
  ⟨0x40020204, 0x0, 1, 0x0, 1, 4, .lane, 0x0, 0x0, true, [⟨31, 31, .ro⟩, ⟨30, 30, .ro⟩, ⟨29, 29, .ro⟩, ⟨28, 28, .ro⟩, ⟨27, 27, .ro⟩, ⟨25, 24, .ro⟩, ⟨3, 0, .ro⟩]⟩,
  ⟨0x40020208, 0x0, 1, 0x0, 1, 4, .lane, 0x0, 0x0, true, [⟨16, 0, .ro⟩]⟩,
  ⟨0x4002020C, 0x0, 1, 0x0, 1, 4, .lane, 0x0, 0x0, true, [⟨31, 16, .rc⟩, ⟨15, 8, .rc⟩, ⟨7, 0, .rc⟩]⟩,
  ⟨0x40020210, 0x0, 1, 0x0, 1, 4, .lane, 0x8, 0x0, true, [⟨7, 0, .rw⟩]⟩]

/-! ### Power (20) -/

abbrev PWR_STATUS : Fld := ⟨0x40020300, 31, 0⟩
abbrev PWR_STATUS_MAIN_OK : Fld := ⟨0x40020300, 31, 31⟩
abbrev PWR_STATUS_HOLDUP : Fld := ⟨0x40020300, 30, 30⟩
abbrev PWR_STATUS_OVER : Fld := ⟨0x40020300, 29, 29⟩
abbrev PWR_STATUS_VO_OK : Fld := ⟨0x40020300, 28, 28⟩
abbrev PWR_STATUS_VB_OK : Fld := ⟨0x40020300, 27, 27⟩
abbrev PWR_STATUS_KA_LOW : Fld := ⟨0x40020300, 26, 26⟩
abbrev PWR_STATUS_TEMP_HI : Fld := ⟨0x40020300, 25, 25⟩
abbrev PWR_VIN : Fld := ⟨0x40020304, 15, 0⟩
abbrev PWR_PIN : Fld := ⟨0x40020308, 15, 0⟩
abbrev PWR_HU : Fld := ⟨0x4002030C, 31, 0⟩
abbrev PWR_HU_E_HU : Fld := ⟨0x4002030C, 31, 16⟩
abbrev PWR_HU_E_USE : Fld := ⟨0x4002030C, 15, 0⟩
abbrev PWR_HU_C : Fld := ⟨0x40020310, 31, 0⟩
abbrev PWR_HU_C_C : Fld := ⟨0x40020310, 31, 16⟩
abbrev PWR_HU_C_ESR : Fld := ⟨0x40020310, 15, 0⟩
abbrev PWR_VOUT : Fld := ⟨0x40020314, 31, 0⟩
abbrev PWR_VOUT_VO : Fld := ⟨0x40020314, 31, 16⟩
abbrev PWR_VOUT_VB : Fld := ⟨0x40020314, 15, 0⟩
abbrev PWR_VKA : Fld := ⟨0x40020318, 15, 0⟩
abbrev PWR_TEMP : Fld := ⟨0x4002031C, 15, 0⟩
abbrev PWR_CNT : Fld := ⟨0x40020320, 31, 0⟩
abbrev PWR_CNT_BRIDGED : Fld := ⟨0x40020320, 31, 16⟩
abbrev PWR_CNT_OVER : Fld := ⟨0x40020320, 15, 0⟩
abbrev PWR_DUMP : Fld := ⟨0x40020324, 15, 0⟩
abbrev PWR_INT_EN : Fld := ⟨0x40020330, 31, 0⟩
abbrev PWR_INT_EN_TEMP : Fld := ⟨0x40020330, 4, 4⟩
abbrev PWR_INT_EN_SUPPLY : Fld := ⟨0x40020330, 3, 3⟩
abbrev PWR_INT_EN_OVER : Fld := ⟨0x40020330, 2, 2⟩
abbrev PWR_INT_EN_RESTORED : Fld := ⟨0x40020330, 1, 1⟩
abbrev PWR_INT_EN_HOLDUP : Fld := ⟨0x40020330, 0, 0⟩
abbrev PWR_INT_STAT : Fld := ⟨0x40020334, 31, 0⟩
abbrev PWR_INT_STAT_TEMP : Fld := ⟨0x40020334, 4, 4⟩
abbrev PWR_INT_STAT_SUPPLY : Fld := ⟨0x40020334, 3, 3⟩
abbrev PWR_INT_STAT_OVER : Fld := ⟨0x40020334, 2, 2⟩
abbrev PWR_INT_STAT_RESTORED : Fld := ⟨0x40020334, 1, 1⟩
abbrev PWR_INT_STAT_HOLDUP : Fld := ⟨0x40020334, 0, 0⟩

/-- The registers of this block. -/
def powerRows : List RegRow := [
  ⟨0x40020300, 0x0, 1, 0x0, 1, 4, .lane, 0x0, 0x0, false, [⟨31, 31, .ro⟩, ⟨30, 30, .ro⟩, ⟨29, 29, .ro⟩, ⟨28, 28, .ro⟩, ⟨27, 27, .ro⟩, ⟨26, 26, .ro⟩, ⟨25, 25, .ro⟩]⟩,
  ⟨0x40020304, 0x0, 1, 0x0, 1, 4, .lane, 0x0, 0x0, false, [⟨15, 0, .ro⟩]⟩,
  ⟨0x40020308, 0x0, 1, 0x0, 1, 4, .lane, 0x0, 0x0, false, [⟨15, 0, .ro⟩]⟩,
  ⟨0x4002030C, 0x0, 1, 0x0, 1, 4, .lane, 0x0, 0x0, false, [⟨31, 16, .ro⟩, ⟨15, 0, .ro⟩]⟩,
  ⟨0x40020310, 0x0, 1, 0x0, 1, 4, .lane, 0x0, 0x0, false, [⟨31, 16, .ro⟩, ⟨15, 0, .ro⟩]⟩,
  ⟨0x40020314, 0x0, 1, 0x0, 1, 4, .lane, 0x0, 0x0, false, [⟨31, 16, .ro⟩, ⟨15, 0, .ro⟩]⟩,
  ⟨0x40020318, 0x0, 1, 0x0, 1, 4, .lane, 0x0, 0x0, false, [⟨15, 0, .ro⟩]⟩,
  ⟨0x4002031C, 0x0, 1, 0x0, 1, 4, .lane, 0x0, 0x0, false, [⟨15, 0, .ro⟩]⟩,
  ⟨0x40020320, 0x0, 1, 0x0, 1, 4, .lane, 0x0, 0x0, false, [⟨31, 16, .rc⟩, ⟨15, 0, .rc⟩]⟩,
  ⟨0x40020324, 0x0, 1, 0x0, 1, 4, .lane, 0x0, 0x0, false, [⟨15, 0, .ro⟩]⟩,
  ⟨0x40020330, 0x0, 1, 0x0, 1, 4, .lane, 0x0, 0x0, false, [⟨4, 4, .rw⟩, ⟨3, 3, .rw⟩, ⟨2, 2, .rw⟩, ⟨1, 1, .rw⟩, ⟨0, 0, .rw⟩]⟩,
  ⟨0x40020334, 0x0, 1, 0x0, 1, 4, .lane, 0x0, 0x0, false, [⟨4, 4, .w1c⟩, ⟨3, 3, .w1c⟩, ⟨2, 2, .w1c⟩, ⟨1, 1, .w1c⟩, ⟨0, 0, .w1c⟩]⟩]

/-! ### Interrupt controller (05 R147; layout PRESUMED from the RISC-V PLIC specification) -/

abbrev PLIC_PRIO (i : Nat) : Fld := ⟨0x44000000 + 0x4 * i, 31, 0⟩
abbrev PLIC_PEND (i : Nat) : Fld := ⟨0x44001000 + 0x4 * i, 31, 0⟩
abbrev PLIC_EN (i j : Nat) : Fld := ⟨0x44002000 + 0x80 * i + 0x4 * j, 31, 0⟩
abbrev PLIC_THR (i : Nat) : Fld := ⟨0x44200000 + 0x1000 * i, 31, 0⟩
abbrev PLIC_CLAIM (i : Nat) : Fld := ⟨0x44200004 + 0x1000 * i, 31, 0⟩

/-- The registers of this block. -/
def plicRows : List RegRow := [
  ⟨0x44000000, 0x4, 256, 0x0, 1, 4, .lane, 0x0, 0x0, false, [⟨31, 0, .rw⟩]⟩,
  ⟨0x44001000, 0x4, 8, 0x0, 1, 4, .lane, 0x0, 0x0, false, [⟨31, 0, .ro⟩]⟩,
  ⟨0x44002000, 0x80, 10, 0x4, 8, 4, .lane, 0x0, 0x0, false, [⟨31, 0, .rw⟩]⟩,
  ⟨0x44200000, 0x1000, 10, 0x0, 1, 4, .lane, 0x0, 0x0, false, [⟨31, 0, .rw⟩]⟩,
  ⟨0x44200004, 0x1000, 10, 0x0, 1, 4, .lane, 0x0, 0x0, false, [⟨31, 0, .rw⟩]⟩]

/-- All memory-mapped registers. -/
def regRows : List RegRow :=
  tickRows ++ modeRows ++ exchangeRows ++ voteRows ++ pdeRows ++ bridgeRows ++ netRows ++ canRows ++ timeBaseRows ++ safetyRows ++ fieldRows ++ bookRows ++ cooperRows ++ pairRows ++ powerRows ++ plicRows

end Sys2Proof.Machine
end

