-- ==== Sys2Proof/Machine/State.lean ====
section
/-! DEFINITION. The state of the block: every register, buffer, queue, counter, mode and pin the spec names, as plain
data, and the state right after reset. Default field values are the reset values. -/

namespace Sys2Proof.Machine

/-! ### Lanes -/

/-- An exception taken by a core: its cause number, the pc and the faulting address (05). -/
structure Trap where
  cause : Nat
  pc : Nat
  /-- The faulting address, of an access fault. -/
  tval : Option Nat
  deriving DecidableEq, Repr

/-- One core of a lane: cores 0 to 3 are the application cores, core 4 the lane-management core (05 R140). -/
structure CoreState where
  /-- General registers x1 to x31; x0 reads 0. -/
  x : List (Nat × Word) := []
  /-- Floating-point registers f0 to f31. -/
  f : List (Nat × Word) := []
  /-- Coded-arithmetic CSRs by number (05 R166). -/
  csr : List (Nat × Word) := []
  /-- The exception taken last, with its cause and pc. -/
  trap : Option Trap := none
  /-- The mode in which the core runs, and the task it runs in U mode (05, privilege and memory protection). -/
  priv : Priv := .m
  task : Option Nat := none
  /-- The dynamic rounding mode and the accrued exception flags of fcsr (05 R157, R160). -/
  frm : Nat := 0
  fflags : Nat := 0
  /-- satp, fixed to Bare (05 R143). -/
  satp : Word := 0
  /-- The PMP entries in force, at most 16 (05 R143). -/
  pmp : List Region := []
  /-- mcounteren and scounteren (05 R144). -/
  mcounteren : Nat := 0
  scounteren : Nat := 0
  /-- The reservation of an LR: its address and size. -/
  resv : Option (Nat × Nat) := none
  deriving DecidableEq, Repr

/-- What a lane knows of one marker (02 R55). -/
structure MarkerResult where
  frame : Nat := 0
  accepted : Bool := false
  inWindow : Bool := false
  deriving DecidableEq, Repr

/-- Tick-unit state beyond the TCK registers (02). -/
structure LaneTick where
  /-- Sum of the corrections to local time by the beats, ns (R53). -/
  adj : Int := 0
  /-- Change to the length of the next cycle, ns (R55). -/
  nextAdj : Int := 0
  /-- Length of the cycle that runs, ns. -/
  cycleLen : Nat := 1000000
  /-- Consecutive beats more than 2 µs from the median (R54). -/
  beatOut : Nat := 0
  /-- The marker taken last, and the one before it. -/
  mark : MarkerResult := {}
  markPrev : MarkerResult := {}
  /-- Consecutive edges with markers rejected at two or more lanes (R57). -/
  rejRun : Nat := 0
  /-- Consecutive edges with the marker in the window at every lane in the vote (R57). -/
  inRun : Nat := 0
  /-- Bits [47:32] captured by a 32-bit load of TCK_FRAME (R79). -/
  frameHi : Nat := 0
  /-- Image cycles left in which the all-off image with the halt request is sent (R69). -/
  haltSend : Nat := 0
  /-- The lane has had an edge since it was supplied. -/
  begun : Bool := false
  /-- Tasks are stopped (R69, closing). -/
  stopped : Bool := false
  /-- V of the running cycle has been entered (R60). -/
  inV : Bool := false
  /-- Due edges of pending register values that take effect at the next edge (04, XCH registers): address, value. -/
  dueRegs : List (Nat × Nat) := []
  deriving DecidableEq, Repr

/-- Exchange-unit state beyond the XCH registers (04). -/
structure LaneXch where
  /-- Banks of this parity are sealed from the end of L to the edge (R117). -/
  sealed : Bool := false
  /-- Held neighbour images by lane (R125). -/
  held : List (Nat × List Byte) := []
  /-- Valid receipts by lane: HELD mask and outcome bitmap (R128). -/
  receipts : List (Nat × List Byte) := []
  /-- The packet of a neighbour is counted as failed in this cycle. -/
  failed : Nat := 0
  /-- Lanes without a valid receipt at the cut-off. -/
  noReceipt : Nat := 0
  /-- Consecutive cycles in which an input's own level differed from the agreed one (R136), by input. -/
  disRun : List (Nat × Nat) := []
  /-- Consecutive cycles of agreement, by input. -/
  agreeRun : List (Nat × Nat) := []
  deriving DecidableEq, Repr

/-- A task's runtime record (05 R150, 07 R213). -/
structure TaskRt where
  encValid : Bool := false
  dSaved : Nat := 0
  sSaved : Nat := 0
  psigSaved : Nat := 0
  sweep : Nat := 0
  /-- Plain state as committed, and the input section written before the execution (07 R223). -/
  state : List Byte := []
  pendState : Option (List Byte) := none
  input : List Byte := []
  /-- State words: plain value, code word and signature, as committed with the D and s of their cycle. -/
  words : List CodedWord := []
  /-- The state words of the running cycle until its class completes (02 R67), with the cycle's D and s. -/
  pendEnc : Option (List CodedWord × Nat × Nat) := none
  /-- The encoded inputs of the running encoded pass (05 R150). -/
  inputs : List CodedWord := []
  /-- The local compare of this cycle has failed. -/
  failed : Bool := false
  /-- The task ran to its end in this cycle. -/
  ran : Bool := false
  /-- First execution since the mode was entered or the program switched. -/
  first : Bool := true
  /-- A trap ended the task in this cycle (07 R206). -/
  ended : Bool := false
  switched : Bool := false
  maxPlain : Nat := 0
  maxEnc : Nat := 0
  longer : Nat := 0
  deriving DecidableEq, Repr

/-- A station record (07 R225). -/
structure StationRec where
  fresh : Bool := false
  stale : Bool := true
  recovered : Bool := false
  safeOk : Bool := false
  age : Nat := 0xFFFFFFFF
  updFrame : Nat := 0
  incomplete : Nat := 0
  data : List Byte := []
  deriving DecidableEq, Repr

/-- The outputs a class set in the last image (02 R68): the bits it sets and their values. -/
structure ClassOut where
  mask : Nat := 0
  outs : Nat := 0
  prev : Nat := 0
  deriving DecidableEq, Repr

/-- A lane's input front end beyond its registers (15). -/
structure FrontEnd where
  /-- Last filter change of an input in the running cycle, in 100 ns units since the edge. -/
  chg : List (Nat × Nat) := []
  /-- Frame of the edge at which the expected state of an output changed last. -/
  expChg : List (Nat × Nat) := []
  /-- Slots whose window has shown the switch open (R406). -/
  seen : List Nat := []
  /-- Own findings by switch (output · 2 + side): 1 stuck closed, 2 did not open. -/
  found : List (Nat × Nat) := []
  /-- Findings suspended until the next test period with the supply in range: bit 0 outputs 0 to 15, bit 1 output 16. -/
  sus : Nat := 0
  deriving DecidableEq, Repr

/-- A safety connection on a lane (14 R378 to R390). -/
structure Conn where
  /-- 0 INIT, 1 SYNC, 2 RUN, 3 FAIL. -/
  st : Nat := 0
  /-- L of R384: the newest SEQ taken. -/
  last : Nat := 0
  /-- The last accepted SEQ. -/
  acc : Option Nat := none
  good : Nat := 0
  lost : Nat := 0
  /-- Frames of the errors within the last ERR_WIN ticks, newest first, and all errors. -/
  errs : List Nat := []
  total : Nat := 0
  /-- Last echo age. -/
  age : Nat := 0
  /-- SEQ of the next output item, and of the item handed to the hub last. -/
  next : Option Nat := none
  sent : Option Nat := none
  /-- SDTv2: the sink's state as the standard keeps it, and the source's counter. -/
  sdt : List Byte := []
  ssc : Nat := 0
  deriving DecidableEq, Repr

/-- A valid heartbeat as received (19 R500). -/
structure Heartbeat where
  role : Nat := 3
  mode : Nat := 0
  flags : Nat := 0
  out : Nat := 0
  outdig : Nat := 0
  setId : List Byte := []
  cfgId : List Byte := []
  deriving DecidableEq, Repr

/-- The pairing state of a lane's runtime (19 R501 to R510). -/
structure LanePair where
  /-- 0 standby, 1 master, 2 yielding, 3 not ready. -/
  role : Nat := 3
  /-- The heartbeat of the running cycle's snapshot, and the last valid one since START. -/
  hb : Option Heartbeat := none
  last : Option Heartbeat := none
  /-- SEQ accepted last, and consecutive misses. -/
  seq : Option Nat := none
  misses : Nat := 0
  /-- Eligible at the last edge. -/
  was : Bool := false
  /-- Frames for which the line has read low with no master heartbeat since position 1 began to wait (R503). -/
  waiting : Bool := false
  lowRun : Nat := 0
  /-- Consecutive edges of the two contradictions of R505. -/
  noHb : Nat := 0
  lowLine : Nat := 0
  /-- Cycle in which a hand-over began (R507), as yielding module, and the number of its cause. -/
  yieldAt : Option Nat := none
  cause : Nat := 0
  /-- A host's request, and TAKE with the frames its conditions have held (R506, R508). -/
  asked : Bool := false
  take : Bool := false
  takeRun : Nat := 0
  held : Bool := false
  /-- Frames of completed take-backs, newest first. -/
  backs : List Nat := []
  /-- Event 0x0069 is recorded for the present loss. -/
  lossRec : Bool := false
  /-- Shadow comparison (R509): consecutive differing and equal cycles, the own values of the last cycle and of this one. -/
  diff : Nat := 0
  same : Nat := 0
  ok : Bool := false
  ownOut : Nat := 0
  ownDig : Nat := 0
  /-- CHECK fields of the cyclic output items of the running cycle, in channel order. -/
  digs : List Byte := []
  /-- SEQ of the next heartbeat sent. -/
  next : Nat := 0
  deriving DecidableEq, Repr

/-- The lane runtime (02, 05, 06, 07). -/
structure LaneRt where
  tasks : List (Nat × TaskRt) := []
  stations : List (Nat × StationRec) := []
  classOut : List (Nat × ClassOut) := []
  /-- Outputs of the running cycle by class, before they commit. -/
  pendOut : List (Nat × ClassOut) := []
  /-- Retained blocks written in this cycle by task: index and bytes. -/
  pendRet : List (Nat × List (Nat × List Byte)) := []
  /-- Station outputs of the running cycle: channel, the class that wrote it, payload. -/
  pendSt : List (Nat × (Nat × List Byte)) := []
  /-- Station outputs of completed classes that the next V hands over (channel, payload). -/
  readySt : List (Nat × List Byte) := []
  /-- The station outputs written to the exchange area in the last V (channel, payload). -/
  sentSt : List (Nat × List Byte) := []
  /-- Outputs latched off, the agreed fault bits seen last (15 R410), and cycles of brake-loop current out of range with the
  event recorded (R415). -/
  latched : Nat := 0
  agDiag : Nat := 0
  brkRun : Nat := 0
  brkRec : Bool := false
  /-- Safety connections (14). -/
  conns : List (Nat × Conn) := []
  /-- The train directory as the lanes act on it (16 R435). -/
  train : List Byte := []
  /-- SEQ of the last relay entry acted on, and the fragments of a value so far (16 R446). -/
  relaySeq : Option Nat := none
  frags : List Byte := []
  fragNext : Nat := 0
  fragBad : Bool := false
  /-- The pairing state of the runtime (19). -/
  pair : LanePair := {}
  /-- The image of this cycle is withheld, and the number of the cause. -/
  withhold : Bool := false
  whCause : Nat := 0
  /-- The lane asks to leave the vote. -/
  leave : Bool := false
  /-- Halt request to put into the next image (voter difference, two-member divergence). -/
  haltReq : Bool := false
  suspect : Nat := 0
  confirm : Nat := 0
  cand : Bool := false
  /-- The status record of the last cycle was received and valid. -/
  recOk : Bool := false
  /-- The member set in force before the last record, for VOT_INT_STAT.MEMBERS. -/
  lastMembers : Nat := 0
  /-- The lane's last image. -/
  image : List Byte := []
  failTask : Nat := 0
  failBits : Nat := 0
  /-- Consecutive edges at which the two voters' outputs differed (06 R183). -/
  vDiff : Nat := 0
  /-- Consecutive edges at which the two voters' member sets differed. -/
  mDiff : Nat := 0
  /-- The decision frame compared last, and the bits that differed. -/
  vCmp : Option Nat := none
  vBits : Nat := 0
  /-- Event 0x2030 is recorded for the run of differing outputs, of differing member sets. -/
  vRec : Bool := false
  mRec : Bool := false
  /-- Packages of counters since start kept by the runtime for the dictionary, by object key. -/
  counts : List (Nat × Nat) := []
  deriving DecidableEq, Repr

/-- A received state checksum packet (06 R186). -/
structure SumPacket where
  slice : Nat
  crc : Nat
  recheck : Nat
  recrc : Nat
  smapid : Nat
  dirty : Nat
  bulkDue : Nat
  wend : Nat
  deriving DecidableEq, Repr

/-- Background checksum and realignment of a lane (06 R185 to R192). -/
structure LaneSum where
  /-- The recheck slice that is pending. -/
  recheck : Option Nat := none
  /-- Whether the last packet sent held a recheck, and the lane that differed first. -/
  rechecked : Option Nat := none
  suspectLane : Nat := 3
  own : Option SumPacket := none
  prev : Option SumPacket := none
  next : Option SumPacket := none
  /-- The packets of the cycle before, by lane: what the donors judge the final pass by (R188). -/
  was : List (Nat × SumPacket) := []
  /-- Pages of the bulk share still to send (donor) or receive (target). -/
  bulk : List Nat := []
  /-- Marked pages of a donor's write tracker. -/
  marked : List Nat := []
  /-- A dirty pass is in progress: pages of it still to send. -/
  dirtyPass : List Nat := []
  /-- Pages of the final pass still to send or receive. -/
  finalPass : List Nat := []
  /-- The lane that is realigned (for a donor). -/
  target : Option LaneId := none
  bulkStart : Nat := 0
  started : Bool := false
  /-- Frames at which realignments of this lane began (R192). -/
  attempts : List Nat := []
  candCycles : Nat := 0
  cleanRun : Nat := 0
  wend : Nat := 0
  deriving DecidableEq, Repr

/-- Retained data of a lane: working copies, marks and the commit in progress (07 R214 to R218). -/
structure LaneRet where
  /-- Working copies, 252 bytes a block. -/
  blocks : List (Nat × List Byte) := []
  marked : List Nat := []
  /-- The step of R216 in progress, 0 when none. -/
  step : Nat := 0
  seq : Nat := 0
  snap : List (Nat × List Byte) := []
  late : Bool := false
  deriving DecidableEq, Repr

/-- A submission to the cellar book (17 R457). -/
structure Submission where
  frame : Nat
  code : Nat
  partner : Nat
  data : List Byte
  deriving DecidableEq, Repr

/-- The lane's submission queue at the cellar book (17 R457). -/
structure LaneBook where
  queue : List Submission := []
  /-- The lane's next record written carries LOSS. -/
  loss : Bool := false
  deriving DecidableEq, Repr

/-- A lane's share of Cooper and of the ageing loop beyond its registers (18). -/
structure LaneCoop where
  /-- Repairs in the repair registers: array, row, spare (R477, R479). -/
  repairs : List (Nat × Nat × Nat) := []
  /-- Milliseconds that the running set takes by its schedule. -/
  plan : Nat := 0
  /-- A lower f_allow and the consecutive seconds for which it has held (R486). -/
  allow : Option (Nat × Nat) := none
  /-- f_max in MHz of the last projection. -/
  fmax : Nat := 0
  /-- Plan record held: code, edge q and whether it is forced; and the outcome of the re-proof (R487). -/
  record : Option (Nat × Nat × Bool) := none
  proof : Option Bool := none
  deriving DecidableEq, Repr

/-! ### Bridge (10) -/

/-- A write on its way to the hub: its core, address and enabled bytes (address, byte). `reg` marks a store to the
register window, which has not retired. -/
structure PendWrite where
  core : Nat
  /-- The pc of a store to the register window. -/
  pc : Nat
  addr : Nat
  bytes : List (Nat × Byte)
  reg : Bool
  deriving DecidableEq, Repr

/-- A read request: its tag (none while it waits for one), core and pc, destination register, address and size, whether the
load sign-extends, and whether it is speculative. -/
structure PendRead where
  tag : Option Nat
  core : Nat
  pc : Nat
  rd : Nat
  addr : Nat
  size : Nat
  signed : Bool
  spec : Bool
  /-- Earlier writes of the lane that have no response yet: the hub end performs them first (R292). -/
  ahead : Nat := 0
  deriving DecidableEq, Repr

/-- The lane end of the bridge (10). -/
structure LaneBrg where
  /-- Open write-combining buffers by core: enabled bytes of one aligned 64-byte block (R287). -/
  wc : List (Nat × List (Nat × Byte)) := []
  /-- Writes issued and not answered, oldest first. -/
  writes : List PendWrite := []
  /-- Responses of the first of them that the hub end has performed already, for a read behind them (R292). -/
  done : List Nat := []
  reads : List PendRead := []
  /-- Reads whose tags are quarantined (R295). -/
  quar : List PendRead := []
  /-- Writes that wait while the link resets. -/
  waiting : List PendWrite := []
  /-- Fences that wait for earlier writes: core and pc. -/
  fences : List (Nat × Nat) := []
  /-- First failed combined write of a core that no fence has reported yet. -/
  failed : List (Nat × Nat) := []
  deriving DecidableEq, Repr

/-! ### Process data engine (09) -/

/-- An item of a channel: its entry point, payload and check value (04 R112). -/
structure Item where
  kind : Nat
  port : Nat
  payload : List Byte
  check : Nat
  deriving DecidableEq, Repr

/-- A channel of the process data engine beyond its registers (09). -/
structure Chan where
  /-- The newest item of the open snapshot (R255). -/
  held : Option Item := none
  /-- No GO since the last commit (R264). -/
  fresh : Bool := false
  /-- The descriptor at PDE_CUR has been processed. -/
  doneCur : Bool := false
  /-- The channel was parked when its completion queue filled (R274). -/
  parked : Bool := false
  /-- Item fetched and waiting for its transmit opportunity (R261), or on the wire. -/
  out : Option Item := none
  /-- The sink has started the item. -/
  onWire : Bool := false
  /-- A newer cyclic item beside the one on the wire (12 R343). -/
  newer : Option Item := none
  /-- Errors counted against the item (12 R346). -/
  retries : Nat := 0
  /-- A cancel or an abort was sampled while the item was on the wire (R275, 12 R347). -/
  cancel : Bool := false
  abort : Bool := false
  /-- The setting that becomes active at the next hub edge: six register values (R276). -/
  next : Option (List Nat) := none
  /-- Edges for which an ARM has been unmatched (R277). -/
  armWait : Nat := 0
  deriving DecidableEq, Repr

/-- The process data engine. -/
structure Pde where
  regs : List (Nat × Word) := []
  chans : List (Nat × Chan) := []
  /-- Lanes that have rung PDE_VDONE for the running cycle. -/
  vdone : Nat := 0
  /-- The fetch of the running cycle is done. -/
  fetched : Bool := false
  /-- The channels are armed: the module is in SAFE-3, SAFE-2 or SPLIT (R278). -/
  armed : Bool := false
  /-- Channel 191 is armed (16 R446). -/
  relayArmed : Bool := false
  deriving DecidableEq, Repr

/-! ### Cellar book (17) -/

/-- A record of the cellar book (17 R456). -/
structure BookRec where
  seq : Nat
  frame : Nat
  code : Nat
  time : Nat
  tstate : Nat
  trig : Bool
  summary : Bool
  loss : Bool
  origin : Nat
  partner : Nat
  supp : Nat
  data : List Byte
  deriving DecidableEq, Repr

/-- A code's token bucket (17 R461, R462). -/
structure Bucket where
  tokens : Nat
  /-- Frame from which the next token is counted. -/
  since : Nat
  pending : Nat
  lastFrame : Nat
  deriving DecidableEq, Repr

/-- A decant in progress or its result (17 R467 to R469). -/
structure Decant where
  active : Bool := false
  toSd : Bool := false
  area : Nat := 0
  first : Nat := 0
  count : Nat := 0
  result : Nat := 0
  host : Nat := 0
  /-- Frame and disciplined time of the request. -/
  reqFrame : Nat := 0
  reqTime : Nat := 0
  /-- The file for the service (R469). -/
  file : List Byte := []
  /-- The whole first-fill partition was decanted after its last record. -/
  ffDecanted : Bool := false
  deriving DecidableEq, Repr

/-- The cellar-book controller and its areas. -/
structure Book where
  ready : Bool := false
  next : Nat := 1
  ffBase : Nat := 1
  ffCount : Nat := 0
  ffFull : Bool := false
  freeze : Nat := 0
  counting : Bool := false
  postLeft : Nat := 0
  frozen : Bool := false
  /-- SEQ of the last record that the frozen tail ring received (R464). -/
  frozenAt : Nat := 0
  ring : List (Nat × BookRec) := []
  ff : List (Nat × BookRec) := []
  tail : List (Nat × BookRec) := []
  buckets : List (Nat × Bucket) := []
  trigIgn : Nat := 0
  summaries : Nat := 0
  /-- The SEQ that the newer control copy names. -/
  ctlSeq : Nat := 1
  /-- Events that the supervisor keeps until lanes can submit them. -/
  kept : List Submission := []
  decant : Decant := {}
  deriving DecidableEq, Repr

/-! ### Voters (06) -/

/-- What a voter holds of one lane's image of the running cycle. -/
inductive Reception | missing | late | invalid | valid
  deriving DecidableEq, Repr

/-- A valid output image (06 R171). -/
structure Image where
  frame : Nat := 0
  out : Nat := 0
  mode : Nat := 0
  confirm : Nat := 0
  suspect : Nat := 0
  members : Nat := 0
  lane : Nat := 0
  leave : Bool := false
  cand : Bool := false
  haltReq : Bool := false
  withheld : Bool := false
  mapid : Nat := 0
  deriving DecidableEq, Repr

/-- One voter's record of one lane. -/
structure VoterLane where
  recv : Reception := .missing
  img : Image := {}
  /-- Consecutive edges without service (voter 2) or without a valid image (voter 1). -/
  miss : Nat := 0
  /-- Consecutive cycles without a valid, non-withheld image (R178 case 5). -/
  whRun : Nat := 0
  deriving DecidableEq, Repr

/-- A voter. -/
structure Voter where
  members : Nat := 0
  halt : Bool := false
  disregarded : Nat := 0
  /-- Frame whose images the voter collects. -/
  frame : Nat := 0
  la : VoterLane := {}
  lb : VoterLane := {}
  lc : VoterLane := {}
  mapid : Nat := 0
  /-- Class of outputs 0 to 16 as 4-bit fields. -/
  classes : Nat := 0
  owners : Nat := 0
  split : Bool := false
  wdLim : Nat := 0
  whLim : Nat := 0
  out : Nat := 0
  outcome : Nat := 0
  candOk : Nat := 0
  /-- The first cycle in a voted mode: voter 1 takes MEMBERS carried by two images (R177). -/
  fresh : Bool := false
  /-- The image cut-off of the cycle has passed (R174). -/
  cut : Bool := false
  /-- Voter 2 has accepted a configuration (R196). -/
  cfgOk : Bool := false
  /-- Refresh of the switches has stopped for want of a decision, or by the voter's own monitor (15 R413). -/
  silent : Bool := false
  oscFault : Bool := false
  /-- The decision applied last, and the edge from which each output has been on without interruption (15 R404). -/
  drove : Nat := 0
  onSince : List (Nat × Nat) := []
  /-- Switches held open by a running dark pulse, and switches that opened by themselves (15 R403, R404). -/
  dark : Nat := 0
  trip : Nat := 0
  /-- Lane configurations received (R196): lane, the words VOT_CLS0, VOT_CLS1, VOT_SPOWN, VOT_CTL. -/
  cfg : List (Nat × List Nat) := []
  deriving DecidableEq, Repr

/-! ### Racking (08) -/

/-- A gate message kept by the supervisor (08 R236). -/
structure GateMsg where
  lane : Nat
  kind : Nat
  frame : Nat
  setId : List Byte
  deriving DecidableEq, Repr

/-- Installation in service (08 R245). -/
structure Install where
  /-- Lanes still to be installed (or returned), the first one in progress. -/
  lanes : List Nat
  /-- The first lane has left the vote, removed at the frame `removed`. -/
  left : Bool := false
  removed : Nat := 0
  /-- The lanes return to the committed bank (R247). -/
  revert : Bool := false
  /-- An abort waits for the lane in progress. -/
  aborting : Bool := false
  deriving DecidableEq, Repr

/-- Racking state (08). -/
structure Rack where
  state : Nat := 0
  code : Nat := 0
  /-- 0 none, 1 staged, 2 failed, of lanes A to C. -/
  lanes : List (Nat × Nat) := []
  /-- Kind being staged or staged: 1 program set, 2 firmware package. -/
  kind : Nat := 0
  fromSd : Bool := false
  /-- The segments sent by the host, laid out by offset. -/
  host : List Byte := []
  /-- The inactive bank holds a staged image. -/
  staged : Bool := false
  stagedId : List Byte := []
  /-- Switch frame s of a pending switch, the gate's record and the outcome of the carry-over. -/
  switchFrame : Option Nat := none
  gateMsgs : List GateMsg := []
  gateGo : Option Bool := none
  gateLanes : Nat := 0
  /-- Blocks still to rewrite after a switch, by lane (R241). -/
  rewrite : List (Nat × List Nat) := []
  /-- X of the set that is being rewritten (R241). -/
  rewriteX : Nat := 0
  tCarry : Nat := 0
  x : Nat := 0
  install : Option Install := none
  lastJoin : Nat := 0
  /-- Frame at which the hub restart began. -/
  hubRestart : Option Nat := none
  /-- Lanes that have reported the hub firmware running, and attempts that failed. -/
  hubReports : Nat := 0
  hubFails : Nat := 0
  hubStopped : Bool := false
  deriving DecidableEq, Repr

/-! ### Supervisor (01, 02, 03, 06, 08) -/

/-- The shutdown self-test record (03 R101). -/
structure SelfTestRec where
  /-- Lanes that passed, and lanes that ran to the end. -/
  pass : Nat
  done : Nat
  /-- Real-time clock at the end of C3. -/
  time : Nat
  fwId : List Byte
  prgId : List Byte
  ms : Nat
  /-- The phase left a record that can be valid (R480 to R482). -/
  valid : Bool
  deriving DecidableEq, Repr

/-- The keep-alive domain (03 R83): it keeps its content while the module is stowed. -/
structure KeepAlive where
  content : Bool := true
  lastFrame : Nat := 0
  selfTest : Option SelfTestRec := none
  commitFlag : Bool := false
  q : Nat := 0
  durable : List (Nat × Nat) := []
  /-- Frames newer than Q that each lane has reported durable (lane, frame). -/
  reported : List (Nat × Nat) := []
  commitId : List Byte := []
  commitLayout : Nat := 0
  modeAtClosing : Nat := 0
  rtc : Nat := 0
  alarmLatched : Bool := false
  /-- Wake sources that are active and held while the main input is out of range (R104), as TCK_WAKE bits. -/
  heldWake : Nat := 0
  heldSince : Nat := 0
  life : Nat := 2
  progBank : Nat := 0
  fwBank : Nat := 0
  /-- Boot selectors of lanes A to C and the hub. -/
  sel : List (Nat × Nat) := []
  selPending : Bool := false
  minVka : Option Nat := none
  /-- Events that the next start records: code and data (20 R523, R538, R540). -/
  nextEvents : List (Nat × List (Nat × Nat)) := []
  /-- The clock code recorded at the last closing (18 R490). -/
  fRun : Option Nat := none
  lastDump : Nat := 0
  deriving DecidableEq, Repr

/-- The power unit (20). -/
structure Power where
  /-- The main input is in range, and has been disconnected by its protection. -/
  inRange : Bool := false
  disconnected : Bool := false
  overV : Bool := false
  holdup : Bool := false
  /-- Measurements: main input and input power in 10 mV and 10 mW, VO and VB in 100 mV, VKA in mV, temperature in 0.1 °C. -/
  vin : Nat := 0
  pin : Nat := 0
  vo : Nat := 0
  vb : Nat := 0
  vka : Nat := 0
  temp : Int := 0
  voOk : Bool := false
  vbOk : Bool := false
  kaLow : Bool := false
  tempHi : Bool := false
  /-- Of the last S1: C in µF, ESR in mΩ, V_ch in 10 mV, E_hu and E_use in mJ. -/
  cap : Nat := 0
  esr : Nat := 0
  vch : Nat := 0
  eHu : Nat := 0
  eUse : Nat := 0
  /-- The last S1 measured the store below the minimum of R521 (03 R90). -/
  lowStore : Bool := false
  /-- The store is charged to V_ch, or recharging after a bridged interruption. -/
  charged : Bool := false
  recharging : Bool := false
  /-- The dump switches are closed. -/
  dumping : Bool := false
  /-- The wake input's level. -/
  wakeIn : Bool := false
  deriving DecidableEq, Repr

/-- The reset input at the supervisor (15 R418). -/
structure ResetIn where
  level : Bool := false
  /-- A pulse that counts is running. -/
  counting : Bool := false
  /-- A valid pulse that waits for the next edge. -/
  valid : Bool := false
  deriving DecidableEq, Repr

/-- The brake loop's proof test (15): the time since the last passed one in ns, whether it is overdue (R417), and the result of the
last one: 0 none yet, 1 passed, 2 failed (R416). -/
structure Field where
  proofNs : Nat := 0
  overdue : Bool := false
  result : Nat := 0
  deriving DecidableEq, Repr

/-- A clock re-plan in the supervisor (18 R487, R488). -/
structure Replan where
  code : Nat
  frame : Nat
  forced : Bool
  proven : Nat
  blocked : Nat
  go : Option Bool
  deriving DecidableEq, Repr

/-- An ageing report kept by the supervisor (18 R487). -/
structure AgeReport where
  fAllow : Nat
  fRun : Nat
  hard : Bool
  frame : Nat
  deriving DecidableEq, Repr

/-! ### Modes, start and closing (03) -/

/-- A mode change that takes effect at the edge of `frame`. -/
structure ModeDue where
  target : Mode
  frame : Nat
  cause : Nat
  deriving DecidableEq, Repr

/-- A start in progress (03 R88 to R95). -/
structure StartState where
  fromMode : Mode := .stowed
  /-- Step in progress, 0 to 7; 8 when the mode it leads to is due. -/
  step : Nat := 0
  /-- Milliseconds since the wake was accepted. -/
  ms : Nat := 0
  /-- Lanes that have completed the step in progress, and lanes excluded. -/
  done : Nat := 0
  excluded : Nat := 0
  /-- Lanes that run S2 and S3 alone before S4 (R93). -/
  behind : Nat := 0
  /-- The power unit has completed S1; the supervisor, the hub and the field stage have completed the step in progress. -/
  s1done : Bool := false
  supDone : Bool := false
  hubDone : Bool := false
  fieldDone : Bool := false
  moduleFail : Bool := false
  /-- Admission codes by lane, and the code that the lanes share when it is a refusal (R212). -/
  codes : List (Nat × Nat) := []
  refused : Nat := 0
  /-- First failed step, 1 to 8 for S0 to S7; 0 none. -/
  failStep : Nat := 0
  warm : Bool := false
  /-- The self-test record was valid; a lane used the quick start check. -/
  stv : Bool := false
  quick : Bool := false
  /-- Lanes whose step S2 booted the pending bank, and lanes that passed S2. -/
  newBank : Nat := 0
  booted : Nat := 0
  /-- The tick was running when START was entered. -/
  ticked : Bool := false
  /-- The main input has stayed in range since the start began (R92). -/
  inputKept : Bool := true
  /-- Milliseconds and frame number at which the tick that times the rest of the start began. -/
  tickMs : Nat := 0
  tickFrame : Nat := 0
  deriving DecidableEq, Repr

/-- The closing phase (03 R100). -/
structure Closing where
  step : Nat
  trigger : Nat
  holdup : Bool
  /-- On main input: the frame of the edge at which C1 ends. -/
  c1End : Nat
  /-- Lane under test in C3, lanes that ran to the end and passed, and the milliseconds of C3 so far. -/
  lane : Option Nat
  done : Nat
  pass : Nat
  ms : Nat
  /-- The record of C3 can be valid. -/
  valid : Bool
  /-- Real-time clock at the beginning of C3, and whether C3 is ending early. -/
  c3At : Nat := 0
  early : Bool := false
  deriving DecidableEq, Repr

/-- A commanded test (18 R483): blocks, set, and the lanes still to test, the first one under test. -/
structure Commanded where
  blocks : Nat
  set : Nat
  lanes : List Nat
  deriving DecidableEq, Repr

/-- Cooper and ageing of the module (18). -/
structure Coop where
  /-- SRAM Vmin code of each lane's last shutdown self-test, and the floor set after it. -/
  vmin : List (Nat × Nat) := []
  floor : List (Nat × Nat) := []
  /-- Time out of STOWED in ns, and at the last daily record of each lane. -/
  opNs : Nat := 0
  daily : List (Nat × Nat) := []
  /-- Ageing records written since manufacture (R491). -/
  recs : Nat := 0
  /-- MRAM retention margin in 0.1 %, and the largest switch on-resistance ratios × 1 000 by output. -/
  margin : Nat := 0
  ron : List (Nat × Nat) := []
  /-- The margin forecast is below the warning since event 0x7040. -/
  warned : Bool := false
  test : Option Commanded := none
  /-- A closing trigger (trigger, hold-up) or a reset pulse waits for a running segment's end (R482). -/
  closeAfter : Option (Nat × Bool) := none
  resetAfter : Bool := false
  deriving DecidableEq, Repr

/-- The report of the last start (R108). -/
structure StartReport where
  ms : Nat := 0
  failStep : Nat := 0
  quick : Bool := false
  stv : Bool := false
  lanesOk : Nat := 0
  warm : Bool := false
  deriving DecidableEq, Repr

/-- The module's mode and life cycle (03). -/
structure ModeState where
  mode : Mode := .stowed
  prev : Mode := .stowed
  life : Life := .commissioning
  /-- Frame at which the mode was entered. -/
  since : Nat := 0
  /-- Mode changes that wait for their edges, in the order in which they were accepted. -/
  due : List ModeDue := []
  start : Option StartState := none
  closing : Option Closing := none
  wakeCause : Nat := 0
  last : StartReport := {}
  /-- The start was accepted while the wake input was low, and it has been low since; the real-time clock at the first edge, from which
  the shutdown delay then runs (R104). -/
  lowStart : Bool := false
  wakeOff : Option Nat := none
  deriving DecidableEq, Repr

/-! ### The object dictionary's values (16) -/

/-- An application object declared by a dictionary image (R432): type code, access (0 RO, 1 RW, 2 WO), persistence (0 volatile,
1 retained) and largest length. -/
structure AppDecl where
  index : Nat
  sub : Nat
  type : Nat
  access : Nat
  persist : Nat
  maxLen : Nat
  deriving DecidableEq, Repr

/-- Values of the object dictionary: the stored set, the pending set, and the volatile and retained values that the
service writes, by key (index · 256 + sub-index). -/
structure Dict where
  stored : List (Nat × List Byte) := []
  pend : List (Nat × List Byte) := []
  vol : List (Nat × List Byte) := []
  /-- Counters since start that report objects show, by key. -/
  counts : List (Nat × Nat) := []
  /-- Application objects of the stored set, and of a dictionary image that waits for a commit. -/
  app : List AppDecl := []
  pendApp : Option (List AppDecl) := none
  /-- The copy of the stored objects in force and its sequence number (R431). -/
  copy : Nat := 0
  copySeq : Nat := 0
  deriving DecidableEq, Repr

/-- An open transfer on an object (R440, R441): its client and the bytes so far. -/
structure Transfer where
  client : Client
  bytes : List Byte
  deriving DecidableEq, Repr

/-- A transfer that ended without its last segment: the abort code that the client's next segment receives (R440). -/
structure DeadTransfer where
  client : Client
  key : Nat
  code : Nat
  deriving DecidableEq, Repr

/-- An entry of the relay (R446); `req` numbers the request it belongs to, `snaps` counts the snapshots it was in. -/
structure RelayEntry where
  seq : Nat
  index : Nat
  sub : Nat
  source : Nat
  frag : Nat
  value : List Byte
  req : Nat
  snaps : Nat
  deriving DecidableEq, Repr

/-- A request that waits for the lanes' outcome: what its response repeats, and the host that signed it (0 none). -/
structure OpenRequest where
  id : Nat
  client : Client
  host : Nat
  tid : Nat
  index : Nat
  sub : Nat
  offset : Nat
  deriving DecidableEq, Repr

/-- The dictionary service (R437 to R447). -/
structure Svc where
  /-- Last accepted TID by host entry (R443). -/
  tids : List (Nat × Nat) := []
  transfers : List (Nat × Transfer) := []
  dead : List DeadTransfer := []
  /-- A PDU that arrives in CAN segments: the next SN and the bytes so far (R438). -/
  canRx : Option (Nat × List Byte) := none
  /-- SEQ of the newest relay entry, and the number of the newest request. -/
  seq : Nat := 0
  reqNo : Nat := 0
  relay : List RelayEntry := []
  reqs : List OpenRequest := []
  /-- First outcome read of an entry, by SEQ, newest first (R447). -/
  outcomes : List (Nat × Nat) := []
  /-- What the lanes did with an entry, by SEQ, newest first: every lane that acts on it reports this outcome. -/
  acted : List (Nat × Nat) := []
  deriving DecidableEq, Repr

/-! ### Partners (16 R450 to R452) -/

/-- A partner's entry in the partner table. -/
structure Partner where
  viol : Nat := 0
  /-- Suppressed violations. -/
  supp : Nat := 0
  /-- Tokens taken and not yet gained back: the partner holds BURST less this. -/
  used : Nat := 0
  /-- Frame from which the next token is counted. -/
  since : Nat := 0
  throttles : Nat := 0
  /-- Frames of the throttles within the last 3 600 s. -/
  throttleAt : List Nat := []
  /-- Frame at which the throttle ends. -/
  until_ : Option Nat := none
  /-- Frames of recent violations, for THR_WIN. -/
  violAt : List Nat := []
  lastFrame : Nat := 0
  lastCode : Nat := 0
  /-- Network address of partners 37 to 68: IPv4 and UDP port, or CAN channel. -/
  addr : List Byte := []
  /-- Further addresses that share slot 68 (R450). -/
  more : List (List Byte) := []
  dropped : Nat := 0
  deriving DecidableEq, Repr

/-! ### Network, CAN and time base registers (11, 12, 13) -/

/-- A port of the switch beyond its registers (11 R312, R316 to R319). -/
structure PortSt where
  /-- A violation, and an accepted frame, in the running matrix cycle. -/
  viol : Bool := false
  ok : Bool := false
  /-- The port has been in LISTEN since the matrix cycle began. -/
  whole : Bool := false
  /-- Number of the matrix cycle in which the port was quarantined. -/
  quarAt : Nat := 0
  /-- LISTEN follows a quarantine. -/
  after : Bool := false
  /-- Frames of rejoins within the last 3 600 s. -/
  rejoins : List Nat := []
  /-- NEAR frames in the running and in the last matrix cycle. -/
  near : Bool := false
  nearLast : Bool := false
  /-- The window that admitted the last frame (frame, window number) and the bytes admitted in it. -/
  used : Nat × Nat × Nat := (0, 0, 0)
  /-- Frames waiting for egress, by queue: the raw count at the ingress SFD and the bytes. -/
  queues : List (Nat × List (Nat × List Byte)) := []
  deriving DecidableEq, Repr

/-- A harvest pass that is out: its number and direction, and the cycle in which it was sent. -/
structure PassOut where
  pass : Nat
  dir : Nat
  deriving DecidableEq, Repr

/-- The consist switch, trellis and harvest ring (11). -/
structure Net where
  regs : List (Nat × Word) := []
  ports : List (Nat × PortSt) := []
  /-- Trellis banks 0 and 1, as entries of R309. -/
  bank0 : List Byte := []
  bank1 : List Byte := []
  /-- The edge from which a pending bank switch may be made, and B of the new bank (R314). -/
  switchAt : Option Nat := none
  nextB : Nat := 1
  /-- Matrix cycles begun since the first tick marker. -/
  matrix : Nat := 0
  /-- The hub's first tick marker has been given (R321). -/
  started : Bool := false
  /-- Claims in force: (b · 32 + w). -/
  claims : List Nat := []
  /-- Newest output item of each harvest station, passes that are out, stations that the pass in progress has shown. -/
  hrvOut : List (Nat × List Byte) := []
  /-- Inputs that the frames of the pass in progress have brought: station, direction, bytes. -/
  hrvIn : List (Nat × Nat × List Byte) := []
  hrvOutstanding : List PassOut := []
  hrvGot : Nat := 0
  hrvBack : Nat := 0
  /-- Split passes healed in a row, passes in split, and passes each station has been missing from. -/
  healed : Nat := 0
  splitPasses : Nat := 0
  missing : List (Nat × Nat) := []
  /-- TRDP sequence counters by comId, R-TAG sequence numbers by stream (R324, R306). -/
  trdpSeq : List (Nat × Nat) := []
  rtagSeq : List (Nat × Nat) := []
  /-- 802.1CB recovery by stream key: newest sequence number, history, and the frame of the last accepted packet. -/
  recover : List (Nat × (Nat × Nat × Nat)) := []
  deriving DecidableEq, Repr

/-- A CAN channel beyond its registers (12). -/
structure CanCh where
  /-- Frames of its bus-offs within the last 3 600 s, newest first (R350). -/
  boffs : List Nat := []
  /-- Frames received without error since restricted operation began (R351). -/
  good : Nat := 0
  /-- It has stopped acting as a potential time master (R356). -/
  dup : Bool := false
  /-- A scheduling error in the running and in the last basic cycle (R357). -/
  s1 : Bool := false
  s1Last : Bool := false
  /-- Receive mailboxes that a valid frame has reached since their last trigger (R354). -/
  seen : List Nat := []
  /-- Mailboxes of the open arbitrating window. -/
  window : List Nat := []
  /-- The next transmit opportunity is the start of an exclusive window of this mailbox. -/
  slot : Option Nat := none
  /-- The reference message of this channel is on the wire. -/
  refWire : Bool := false
  /-- The channel restarts after an S3 stop. -/
  stopped : Bool := false
  /-- The hub frame at entry into the running hold-off, and its length in ms (R350). -/
  holdFrame : Nat := 0
  holdMs : Nat := 0
  deriving DecidableEq, Repr

/-- The CAN channels (12). -/
structure Can where
  regs : List (Nat × Word) := []
  chs : List (Nat × CanCh) := []
  deriving DecidableEq, Repr

/-- The time base (13). -/
structure TimeBase where
  regs : List (Nat × Word) := []
  /-- Raw count at the last tick marker of the hub. -/
  edgeRaw : Nat := 0
  /-- Consecutive Sync messages with the offset within SYNC_THR (R369). -/
  syncRun : Nat := 0
  /-- Raw counts of the last valid Sync and of the entry into HOLDOVER. -/
  syncRaw : Nat := 0
  holdRaw : Nat := 0
  /-- The time has been set (roles grandmaster and free-running). -/
  isSet : Bool := false
  /-- Upper words captured by 32-bit loads: lane · 2 + (0 raw, 1 disciplined). -/
  hi : List (Nat × Nat) := []
  /-- Sequence numbers of the time messages sent by port: Sync at 2·p, Pdelay_Req at 2·p + 1. -/
  seq : List (Nat × Nat) := []
  /-- Ingress stamp of the last accepted frame of each stream for the open snapshot (R374). -/
  arrive : List (Nat × Nat) := []
  deriving DecidableEq, Repr

/-! ### Program sets (07) and the eMMC -/

/-- A task record (07 R210). -/
structure TaskDecl where
  task : Nat := 0
  cls : Nat := 0
  rate : Nat := 0
  place : Nat := 0
  core : Nat := 0
  flags : Nat := 0
  offset : Nat := 0
  cPlain : Nat := 0
  mPlain : Nat := 0
  cEnc : Nat := 0
  mEnc : Nat := 0
  entryPlain : Nat := 0
  entryEnc : Nat := 0
  statePlain : Nat := 0
  stateEnc : Nat := 0
  outBytes : Nat := 0
  retW : Nat := 0
  stack : Nat := 0
  insec : Nat := 0
  deriving DecidableEq, Repr

/-- An entry of the retained layout (07 R209). -/
structure RetDecl where
  task : Nat
  first : Nat
  count : Nat
  deriving DecidableEq, Repr

/-- A program set as a lane holds it. -/
structure Prog where
  id : List Byte := []
  /-- Divisors of rates 0 to 3. -/
  div : List Nat := [1, 0, 0, 0]
  tasks : List TaskDecl := []
  ret : List RetDecl := []
  retInit : List Byte := []
  layoutId : Nat := 0
  /-- Station references: task, station, direction. -/
  stations : List (Nat × Nat × Nat) := []
  /-- The state layout section, whose format the spec does not give. -/
  layout : List Byte := []
  carry : List Byte := []
  /-- XCH_LAYOUT and the safe values of the B region (04 R123). -/
  exchange : List Byte := []
  /-- The region declarations section, whose format the spec does not give. -/
  regions : List Byte := []
  /-- Bytes of code and constant data that the lane holds, and where they begin. -/
  code : Nat := 0
  codeAt : Nat := 0x80000000
  deriving DecidableEq, Repr

/-- The banks of the eMMC (01, storage): program banks 0 and 1, firmware banks 0 and 1. -/
structure Store where
  prog : List (Nat × List Byte) := []
  fw : List (Nat × List Byte) := []
  deriving DecidableEq, Repr

/-! ### The block -/

/-- One lane (01): its supply, registers, memory, cores and units. -/
structure Lane where
  /-- The supervisor supplies the lane (01 R26). -/
  supplied : Bool := false
  /-- Registers of the lane peripherals, of the bridge and of its own views, by lane address. -/
  regs : List (Nat × Word) := []
  /-- Boot ROM, lane SRAM, exchange area and LPDDR4X by lane address. -/
  mem : List Host.Cell := []
  /-- Single-bit errors corrected (01 R28). -/
  ecc : Nat := 0
  cores : List (Nat × CoreState) := []
  fe : FrontEnd := {}
  tick : LaneTick := {}
  xch : LaneXch := {}
  rt : LaneRt := {}
  /-- The running program set, and the staged one with its carried state during a switch (08). -/
  prog : Prog := {}
  newProg : Option Prog := none
  /-- Code of the last admission on this lane (07 R212); none before the first. -/
  admission : Option Nat := none
  /-- What the carry-over of a switch has formed: task records and retained blocks; the failed entry otherwise. -/
  carried : Option (List (Nat × TaskRt) × List (Nat × List Byte)) := none
  carryFail : Option Nat := none
  /-- The switch record read in L: GO or NOGO (08 R235). -/
  switchRec : Option Bool := none
  sum : LaneSum := {}
  ret : LaneRet := {}
  brg : LaneBrg := {}
  book : LaneBook := {}
  coop : LaneCoop := {}
  /-- Sources that a context of the interrupt controller has claimed and not completed. -/
  claimed : List Nat := []
  /-- A start step that the lane runs alone, and whether at quick depth (06 R184, 08 R245). -/
  restart : Option (Nat × Bool) := none
  /-- The lane stays without supply until the module next enters START. -/
  out : Bool := false
  /-- A commit has been made; the lane loads the new set at its next edge (16 R431). -/
  cfgDue : Bool := false
  deriving DecidableEq, Repr

/-- The hub (01). -/
structure Hub where
  supplied : Bool := false
  /-- The hub's tick markers run. -/
  markers : Bool := false
  frame : Nat := 0
  /-- Hub registers outside the engine, network, CAN and time base blocks, by lane address. -/
  regs : List (Nat × Word) := []
  sram : List Host.Cell := []
  /-- Retained partitions of lanes A to C in MRAM, by lane address. -/
  mram : List Host.Cell := []
  /-- Firmware bank from which the management cores run, and firmware identities by bank. -/
  bank : Nat := 0
  /-- The hub management cores run. -/
  mgmtUp : Bool := false
  deriving DecidableEq, Repr

/-- The supervisor (01). -/
structure Sup where
  supplied : Bool := true
  frame : Nat := 0
  v2 : Voter := {}
  ka : KeepAlive := {}
  /-- Last arrival of each lane's edge symbol on the supervisor's oscillator, ns (02 R58). -/
  arrival : List (Nat × Nat) := []
  missEdge : List (Nat × Nat) := []
  /-- Lanes to which the spacing rule has applied. -/
  spacing : Nat := 0
  /-- T of the cycle that runs, ns: what the next edge's spacing is measured against. -/
  cycle : Nat := 1000000
  /-- The supervisor's own edge on its oscillator, ns: the median, the later or the single arrival (02 R58). -/
  edgeAt : Option Nat := none
  pw : Power := {}
  rst : ResetIn := {}
  /-- The partner's mastership line as read at the last edge, and the own line (19 R498). -/
  lineIn : Bool := false
  lineOut : Bool := false
  replan : Option Replan := none
  reports : List (Nat × AgeReport) := []
  /-- Events kept until the lanes can submit them. -/
  kept : List Submission := []
  deriving DecidableEq, Repr

/-- The state of the block. -/
structure State where
  /-- Commands waiting, first in, first out. -/
  pending : List Instr := []
  laneA : Lane := {}
  laneB : Lane := {}
  laneC : Lane := {}
  hub : Hub := {}
  pde : Pde := {}
  v1 : Voter := {}
  book : Book := {}
  sup : Sup := {}
  md : ModeState := {}
  rack : Rack := {}
  store : Store := {}
  dict : Dict := {}
  svc : Svc := {}
  partners : List (Nat × Partner) := []
  net : Net := {}
  can : Can := {}
  tb : TimeBase := {}
  fld : Field := {}
  coo : Coop := {}
  /-- What has been sent out, newest first. -/
  tx : List Emission := []
  /-- The model's own counter of free values drawn. -/
  freeCtr : Nat := 0
  deriving DecidableEq, Repr

/-- Reasons for which a command stops: none. Every command of the table has an effect that the spec gives, possibly none, in
every state. -/
inductive Fault
  deriving DecidableEq, Repr

/-- Reasons for which a command is refused. -/
inductive Refusal
  /-- Raised by `exec` alone, for a command whose meaning has not been written; safe, since no run goes on. -/
  | notModelled (mnemonic : String)
  deriving DecidableEq, Repr

/-- The block right after reset. -/
def State.reset : State := {}

end Sys2Proof.Machine
end

