-- ==== Sys2Proof/Machine/Ops.lean ====
section
/-! DEFINITION. The named operations every family uses: lanes, registers, memory, dictionary values, free values,
interrupt causes, and what is sent out. -/

namespace Sys2Proof.Machine

/-! ### Lanes -/

/-- Lane `l` of the block. -/
def State.lane (s : State) : LaneId → Lane
  | .a => s.laneA | .b => s.laneB | .c => s.laneC

/-- The block with lane `l` replaced. -/
def State.setLane (s : State) (l : LaneId) (x : Lane) : State :=
  match l with
  | .a => { s with laneA := x } | .b => { s with laneB := x } | .c => { s with laneC := x }

/-- The block with lane `l` changed by `f`. -/
def State.updLane (s : State) (l : LaneId) (f : Lane → Lane) : State := s.setLane l (f (s.lane l))

/-- The three lanes in the order A, B, C. -/
def lanes : List LaneId := [.a, .b, .c]

/-- The lane of an index 0 to 2. -/
def laneOf : Nat → LaneId
  | 0 => .a | 1 => .b | _ => .c

/-- `f` applied for every lane in turn. -/
def onLanes (f : LaneId → State → State) (s : State) : State := f .c (f .b (f .a s))

/-- Bit set of the lanes that satisfy `p` (17 R539: bit 0 A, bit 1 B, bit 2 C). -/
def laneSet (p : LaneId → Bool) : Nat := b2n (p .a) + 2 * b2n (p .b) + 4 * b2n (p .c)

/-- Lane `l` is in the set. -/
def inSet (v : Nat) (l : LaneId) : Bool := bitOf v l.idx

/-- The lanes that are supplied. -/
def State.suppliedSet (s : State) : Nat := laneSet (fun l => (s.lane l).supplied)

/-! ### Registers -/

/-- The row's array holds the register at `addr`. -/
def rowHolds (r : RegRow) (addr : Nat) : Bool :=
  if addr < r.base then false
  else
    let off := addr - r.base
    let i := if r.stride = 0 then 0 else off / r.stride
    let rem := off - i * r.stride
    decide (i < r.count) &&
      (if r.stride2 = 0 then decide (rem = 0) else decide (rem % r.stride2 = 0) && decide (rem / r.stride2 < r.count2))

/-- The row of the register at `addr`. -/
def findReg (addr : Nat) : Option RegRow := regRows.find? (fun r => rowHolds r addr)

/-- The reset value of the register at `addr` on lane `l`. -/
def regReset (l : LaneId) (addr : Nat) : Word :=
  match findReg addr with
  | some r => BitVec.ofNat 64 (r.reset + r.laneStep * l.idx)
  | none => 0

/-- The block of the hub that holds a hub register's value. -/
inductive HubBlock | pde | net | can | tb | other
  deriving DecidableEq, Repr

/-- Which block of the hub an address belongs to (01 R44). -/
def hubBlock (addr : Nat) : HubBlock :=
  if addr < 0x50100000 then .pde else if addr < 0x50200000 then .net else if addr < 0x50300000 then .can
  else if addr < 0x50310000 then .tb else .other

/-- The hub's registers of a block. -/
def State.hubRegs (s : State) (addr : Nat) : List (Nat × Word) :=
  match hubBlock addr with
  | .pde => s.pde.regs
  | .net => s.net.regs
  | .can => s.can.regs
  | .tb => s.tb.regs
  | .other => s.hub.regs

/-- A whole register in lane `l`'s own view. -/
def State.lreg (s : State) (l : LaneId) (addr : Nat) : Word := mapGet (regReset l addr) (s.lane l).regs addr

/-- Write a whole register of lane `l`'s own view. -/
def State.lregSet (s : State) (l : LaneId) (addr : Nat) (v : Word) : State :=
  s.updLane l (fun x => { x with regs := mapSet (regReset l addr) x.regs addr v })

/-- A whole hub register. -/
def State.hreg (s : State) (addr : Nat) : Word := mapGet (regReset .a addr) (s.hubRegs addr) addr

/-- Write a whole hub register. -/
def State.hregSet (s : State) (addr : Nat) (v : Word) : State :=
  match hubBlock addr with
  | .pde => { s with pde := { s.pde with regs := mapSet (regReset .a addr) s.pde.regs addr v } }
  | .net => { s with net := { s.net with regs := mapSet (regReset .a addr) s.net.regs addr v } }
  | .can => { s with can := { s.can with regs := mapSet (regReset .a addr) s.can.regs addr v } }
  | .tb => { s with tb := { s.tb with regs := mapSet (regReset .a addr) s.tb.regs addr v } }
  | .other => { s with hub := { s.hub with regs := mapSet (regReset .a addr) s.hub.regs addr v } }

/-- A field of a register's value. -/
def fldGet (f : Fld) (v : Word) : Nat := bitsOf v.toNat f.hi f.lo

/-- A register's value with a field replaced. -/
def fldSet (f : Fld) (v : Word) (x : Nat) : Word := BitVec.ofNat 64 (setBits v.toNat f.hi f.lo x)

/-- A field in lane `l`'s own view. -/
def State.lf (s : State) (l : LaneId) (f : Fld) : Nat := fldGet f (s.lreg l f.reg)

/-- Set a field in lane `l`'s own view. -/
def State.lfSet (s : State) (l : LaneId) (f : Fld) (x : Nat) : State :=
  s.lregSet l f.reg (fldSet f (s.lreg l f.reg) x)

/-- A field of a hub register. -/
def State.hf (s : State) (f : Fld) : Nat := fldGet f (s.hreg f.reg)

/-- Set a field of a hub register. -/
def State.hfSet (s : State) (f : Fld) (x : Nat) : State := s.hregSet f.reg (fldSet f (s.hreg f.reg) x)

/-- The largest value of a field. -/
def fldTop (f : Fld) : Nat := 2 ^ (f.hi + 1 - f.lo) - 1

/-- Count `d` more in a counter of lane `l`; every counter stops at all ones. -/
def State.lcount (s : State) (l : LaneId) (f : Fld) (d : Nat) : State :=
  s.lfSet l f (satAdd (fldTop f) (s.lf l f) d)

/-- Count `d` more in a hub counter; every counter stops at all ones. -/
def State.hcount (s : State) (f : Fld) (d : Nat) : State := s.hfSet f (satAdd (fldTop f) (s.hf f) d)

/-! ### Memory -/

/-- What an address of lane memory or hub memory that nothing has written reads as (the spec gives no content after
power-on; log entry 4). -/
def memDefault : Byte := 0

/-- `n` bytes from `addr` on. -/
def memRead (m : List Host.Cell) : Nat → Nat → List Byte
  | _, 0 => []
  | addr, n + 1 => mapGet memDefault m addr :: memRead m (addr + 1) n

/-- Write bytes from `addr` on. -/
def memWrite (m : List Host.Cell) : Nat → List Byte → List Host.Cell
  | _, [] => m
  | addr, b :: bs => memWrite (mapSet memDefault m addr b) (addr + 1) bs

/-- Write bytes with enables, each at its own address. -/
def memWriteCells (m : List Host.Cell) : List (Nat × Byte) → List Host.Cell
  | [] => m
  | (a, b) :: bs => memWriteCells (mapSet memDefault m a b) bs

/-- `n` bytes of lane memory. -/
def State.lmem (s : State) (l : LaneId) (addr n : Nat) : List Byte := memRead (s.lane l).mem addr n

/-- Write lane memory. -/
def State.lmemSet (s : State) (l : LaneId) (addr : Nat) (bs : List Byte) : State :=
  s.updLane l (fun x => { x with mem := memWrite x.mem addr bs })

/-- Base of the exchange area in a lane's address map (01 R44). -/
def exchangeBase : Nat := 0x08600000

/-- Size of the exchange area. -/
def exchangeSize : Nat := 0x200000

/-- Base of lane `l`'s retained partition in MRAM (01, storage). -/
def partBase (l : LaneId) : Nat := 0x60000000 + 0x400000 * l.idx

/-! ### Dictionary values -/

/-- The key of object `i:j`. -/
def objKey (i j : Nat) : Nat := i * 256 + j

/-- The table row that an application object's declaration stands for (16 R432); type codes as in 08 R239 and 16 R439. -/
def appRow (d : AppDecl) : ObjRow :=
  let ty : ObjType := match d.type with
    | 1 => .bool | 2 => .u8 | 3 => .u16 | 4 => .u32 | 5 => .u64 | 6 => .i8 | 7 => .i16 | 8 => .i32 | 9 => .i64
    | 10 => .f32 | 11 => .f64 | 12 => .octet d.maxLen | 13 => .vstring d.maxLen | 14 => .time64 | _ => .domain d.maxLen
  let w := 8 * typeLen ty
  let sgn := decide (6 ≤ d.type) && decide (d.type ≤ 9)
  { index := d.index, stride := 0, count := 1, slo := d.sub, shi := d.sub, ty := ty,
    acc := if d.access = 0 then .ro else if d.access = 1 then .rw else .wo,
    per := if d.persist = 1 then .retained else .volatile, dflt := 0,
    min := if sgn then -(2 ^ (w - 1) : Int) else 0, max := if sgn then 2 ^ (w - 1) - 1 else 2 ^ w - 1 }

/-- Application objects have the indices 0x8000 to 0xEFFF (16 R427). -/
def isApp (i : Nat) : Bool := decide (0x8000 ≤ i) && decide (i ≤ 0xEFFF)

/-- The row of an object: of the chapters' tables, or declared by the committed dictionary image. -/
def State.objRow (s : State) (i j : Nat) : Option ObjRow :=
  if isApp i then (s.dict.app.find? (fun d => d.index == i && d.sub == j)).map appRow else findObj i j

/-- The value of a CONST object: vendor and order code as the spec gives them, other vintage values and the port latencies fixed
at manufacture (16 R428). -/
def constBytes (i j : Nat) (r : ObjRow) : List Byte :=
  if i = 0 then asciiBytes "Fjartil"
  else if i = 1 then asciiBytes "OSV-3192"
  else if i < 0x0100 ∨ i = 0x3404 then (List.range (typeLen r.ty)).map (Config.constByte i j)
  else objDefault r

/-- A committed or current value of object `i:j`: what was stored last, or its default; the default of an application object
is what its dictionary image gives (16 R432). -/
def State.objBytes (s : State) (i j : Nat) : List Byte :=
  match s.objRow i j with
  | none => []
  | some r =>
    if r.acc = .const then constBytes i j r
    else if r.per = .stored then (mapFind s.dict.stored (objKey i j)).getD (objDefault r)
    else match mapFind s.dict.vol (objKey i j) with
      | some b => b
      | none => if isApp i then (mapFind s.dict.stored (objKey i j)).getD (objDefault r) else objDefault r

/-- The value as an unsigned number. -/
def State.obj (s : State) (i j : Nat) : Nat := leNat (s.objBytes i j)

/-- Set the current value of a volatile or retained object. -/
def State.volSet (s : State) (i j : Nat) (bs : List Byte) : State :=
  { s with dict := { s.dict with vol := mapInsert (mapErase s.dict.vol (objKey i j)) (objKey i j) bs } }

/-- Set a stored value outside a commit (values that the module itself keeps). -/
def State.storedSet (s : State) (i j : Nat) (bs : List Byte) : State :=
  { s with dict := { s.dict with stored := mapInsert (mapErase s.dict.stored (objKey i j)) (objKey i j) bs } }

/-- A counter since start that a report object shows. -/
def State.cnt (s : State) (i j : Nat) : Nat := mapGet 0 s.dict.counts (objKey i j)

/-- Count `d` more for a report object, up to 32 bits. -/
def State.cntAdd (s : State) (i j d : Nat) : State :=
  { s with dict := { s.dict with counts := mapSet 0 s.dict.counts (objKey i j) (satAdd 0xFFFFFFFF (s.cnt i j) d) } }

/-- Set a reported number. -/
def State.cntSet (s : State) (i j v : Nat) : State :=
  { s with dict := { s.dict with counts := mapSet 0 s.dict.counts (objKey i j) v } }

/-! ### Tasks of a lane -/

/-- Task `t` of lane `l`. -/
def State.task (s : State) (l : LaneId) (t : Nat) : TaskRt := mapGet {} (s.lane l).rt.tasks t

/-- Replace a task's record. -/
def State.taskSet (s : State) (l : LaneId) (t : Nat) (x : TaskRt) : State :=
  s.updLane l (fun y => { y with rt := { y.rt with tasks := mapSet {} y.rt.tasks t x } })

/-- Task `t`'s local compare fails in this cycle (05 R150). -/
def State.taskFail (s : State) (l : LaneId) (t : Nat) : State := s.taskSet l t { s.task l t with failed := true }

/-! ### Free values and output -/

/-- Draw a free word: the state remembers only how many were drawn. -/
def State.freeWord (s : State) : Word × State := (Config.freeWord s.freeCtr, { s with freeCtr := s.freeCtr + 1 })

/-- One free value was drawn at the present count. -/
def State.drawn (s : State) : State := { s with freeCtr := s.freeCtr + 1 }

/-- Send something out. -/
def State.emit (s : State) (k : EmitKind) (place tag : Nat) (bs : List Byte) : State :=
  { s with tx := ⟨k, place, tag, bs⟩ :: s.tx }

/-! ### Frames and the tick -/

/-- Lane `l`'s frame counter. -/
def State.frame (s : State) (l : LaneId) : Nat := s.lf l TCK_FRAME

/-- Lane `l` runs its tick: supplied, edges generated. -/
def State.ticking (s : State) (l : LaneId) : Bool := (s.lane l).supplied && decide (s.lf l TCK_STATUS_RUN = 1)

/-- The first lane that runs its tick, if any: of what every lane does alike, the module's own counts are taken there. -/
def State.leadLane (s : State) : Option LaneId := lanes.find? s.ticking

/-- The later of two frame numbers in the order of R13. -/
def frameMax (f g : Nat) : Nat := if frameGe g f then g else f

/-- The module's frame number: of the newest edge that a lane has had, or the number kept in the keep-alive domain while no lane runs
its tick. -/
def State.modFrame (s : State) : Nat :=
  match lanes.filter s.ticking with
  | [] => s.sup.ka.lastFrame
  | l :: ls => ls.foldl (fun f k => frameMax f (s.frame k)) (s.frame l)

/-- The tick period of a code, in ns (02 R50); 0 for a reserved code. -/
def periodNs : Nat → Nat
  | 0 => 250000 | 1 => 500000 | 2 => 1000000 | 3 => 2000000 | 4 => 5000000 | 5 => 10000000 | 6 => 20000000
  | 7 => 50000000 | 8 => 100000000 | _ => 0

/-- T in ns: the committed period (02 R50, R51). -/
def State.period (s : State) : Nat := periodNs (s.obj 0x1100 0)

/-- T of lane `l`'s tick unit. -/
def State.lanePeriod (s : State) (l : LaneId) : Nat := periodNs (s.lf l TCK_CFG_PERIOD)

/-- A duration in seconds as a number of frames at the committed period (rounded up). -/
def State.framesOf (s : State) (sec : Nat) : Nat :=
  if s.period = 0 then 0 else (sec * 1000000000 + s.period - 1) / s.period

/-- The lanes in the vote: voter 2's member set (06 R177). -/
def State.members (s : State) : Nat := s.sup.v2.members

/-- The number of members. -/
def State.memberCount (s : State) : Nat := laneSetCount s.members

/-- The modes in which programs run. -/
def runMode : Mode → Bool
  | .safe3 | .safe2 | .split => true
  | _ => false

/-- The two voted modes. -/
def safeMode : Mode → Bool
  | .safe3 | .safe2 => true
  | _ => false

/-- The mode that lane `l`'s TCK_MODE shows. -/
def modeOfCode : Nat → Mode
  | 0 => .stowed | 1 => .start | 2 => .configure | 3 => .safe3 | 4 => .safe2 | 5 => .split | 6 => .halt | _ => .depot

/-- Lane `l`'s mode of the running cycle (03 R87). -/
def State.laneMode (s : State) (l : LaneId) : Mode := modeOfCode (s.lf l TCK_MODE_MODE)

end Sys2Proof.Machine
end

