-- ==== Sys2Proof/Machine/Book.lean ====
section
/-! DEFINITION. The cellar book (17): records, rate limits, freezing, submissions; and the partner table's token check
(16 R450, R451). Every event of the block ends up here. -/

namespace Sys2Proof.Machine

/-! ### Time (13 R362, R363) -/

/-- t_disc = floor(raw · RATE / 2^40) + OFFSET, for a raw count. -/
def discOf (raw rate : Nat) (offset : Int) : Nat := ofInt 64 (((raw * rate / 2 ^ 40 : Nat) : Int) + offset)

/-- The disciplined time now. -/
def State.discTime (s : State) : Nat := discOf (s.hf TB_RAW) (s.hf TB_RATE) (toInt 64 (s.hf TB_OFFSET))

/-! ### Records -/

/-- The 64 bytes of a record as stored (17 R456). -/
def recordBytes (r : BookRec) : List Byte :=
  let body := leBytes 8 r.seq ++ leBytes 6 r.frame ++ leBytes 2 r.code ++ leBytes 8 r.time
    ++ [BitVec.ofNat 8 (r.tstate * 64 + b2n r.trig * 32 + b2n r.summary * 16 + b2n r.loss * 8)]
    ++ [BitVec.ofNat 8 r.origin] ++ [BitVec.ofNat 8 r.partner] ++ [0] ++ leBytes 4 r.supp ++ padTo 28 r.data
  body ++ leBytes 4 (crc32c body)

/-- Records of the running ring and of the tail ring; slots of the first-fill partition (R455). -/
def ringSize : Nat := 257024
def tailSize : Nat := 4096
def ffSize : Nat := 262144

/-- The trigger codes in use (R464). -/
def State.triggerCodes (s : State) : List Nat :=
  ((List.range 16).map (fun i => s.obj 0x7102 (i + 1))).filter (· ≠ 0)

/-- Set an interrupt cause of the book on every lane's view. -/
def State.bookInt (s : State) (f : Fld) : State := onLanes (fun l s => s.lfSet l f 1) s

/-- Put a copy of a record at its slot. -/
def putSlot (m : List (Nat × BookRec)) (k : Nat) (r : BookRec) : List (Nat × BookRec) := mapInsert (mapErase m k) k r

/-- Write one record into every area open for it: running ring, first-fill partition, tail ring (R455, R463 to R465). -/
def State.bookWrite (s : State) (frame code partner supp origin : Nat) (summary loss : Bool) (data : List Byte) : State :=
  let b := s.book
  let isTrig := s.triggerCodes.contains code
  let trig := isTrig && !b.frozen && !b.counting
  let r : BookRec := ⟨b.next, frame, code, s.discTime, s.hf TB_STATUS_STATE, trig, summary, loss, origin, partner, supp,
    padTo 28 data⟩
  let ring := putSlot b.ring (b.next % ringSize) r
  let ff := if b.ffFull then b.ff else putSlot b.ff (b.next - b.ffBase) r
  let ffCount := if b.ffFull then b.ffCount else b.ffCount + 1
  let ffNow := !b.ffFull && decide (b.next - b.ffBase = ffSize - 1)
  let tail := if b.frozen then b.tail else putSlot b.tail (b.next % tailSize) r
  let post := if trig then s.obj 0x7102 0x11 else b.postLeft - 1
  let counting := (trig || b.counting) && decide (post ≠ 0)
  let freezes := (trig || b.counting) && decide (post = 0)
  let ignored := isTrig && (b.frozen || b.counting)
  let ctl := if (b.next + 1) % 1024 = 0 || freezes then b.next + 1 else b.ctlSeq
  let s := { s with book := { b with
    next := b.next + 1, ring := ring, ff := ff, ffCount := ffCount, ffFull := b.ffFull || ffNow, tail := tail,
    freeze := if trig then b.next else b.freeze, counting := counting, postLeft := post,
    frozen := b.frozen || freezes, frozenAt := if freezes then b.next else b.frozenAt, trigIgn := satAdd 0xFFFF b.trigIgn (b2n ignored), ctlSeq := ctl,
    summaries := satAdd 0xFFFF b.summaries (b2n summary),
    decant := if b.ffFull then b.decant else { b.decant with ffDecanted := false } } }
  let s := if ffNow then s.bookInt CBK_INT_STAT_FF_FULL else s
  if freezes then s.bookInt CBK_INT_STAT_FROZEN else s

/-! ### Rate limits (R460 to R462) -/

/-- The rate table's entry of a code: BURST and REFILL in s. -/
def rateFind : List Byte → Nat → Option (Nat × Nat)
  | c0 :: c1 :: b :: r :: rest, code =>
    if c0.toNat + 256 * c1.toNat = code then some (b.toNat, r.toNat) else rateFind rest code
  | _, _ => none

/-- The committed entry of a code. -/
def State.rateOf (s : State) (code : Nat) : Option (Nat × Nat) := rateFind (s.objBytes 0x7101 0) code

/-- A listed code's bucket; it starts full. -/
def State.bucket (s : State) (code burst : Nat) : Bucket := (mapFind s.book.buckets code).getD ⟨burst, 0, 0, 0⟩

/-- Replace a bucket. -/
def State.bucketSet (s : State) (code : Nat) (k : Bucket) : State :=
  { s with book := { s.book with buckets := mapInsert (mapErase s.book.buckets code) code k } }

/-- Clear the LOSS marks of the lanes that a written record came from. -/
def State.clearLoss (s : State) (origin : Nat) : State :=
  onLanes (fun l s => if inSet origin l then s.updLane l (fun x => { x with book := { x.book with loss := false } }) else s) s

/-- A lane of the origin has lost submissions before this record. -/
def State.lossOf (s : State) (origin : Nat) : Bool :=
  lanes.any (fun l => inSet origin l && (s.lane l).book.loss)

/-- Process one record: the code check, then the write (R460, R462). -/
def State.bookProcess (s : State) (frame code partner supp origin : Nat) (data : List Byte) : State :=
  let write := fun (s : State) (supp : Nat) =>
    (s.bookWrite frame code partner supp origin false (s.lossOf origin) data).clearLoss origin
  match s.rateOf code with
  | none => write s supp
  | some (burst, _) =>
    let k := s.bucket code burst
    if k.tokens = 0 then s.bucketSet code { k with pending := k.pending + 1 + supp, lastFrame := frame }
    else
      let since := if k.tokens = burst then s.hub.frame else k.since
      write (s.bucketSet code { k with tokens := k.tokens - 1, since := since, pending := 0 }) (supp + k.pending)

/-! ### Partners (16 R450, R451) -/

/-- A partner's entry. -/
def State.partner (s : State) (p : Nat) : Partner := mapGet {} s.partners p

/-- Replace a partner's entry. -/
def State.partnerSet (s : State) (p : Nat) (x : Partner) : State := { s with partners := mapSet {} s.partners p x }

/-- The partner check (R451): a token is taken and the suppressed count returned; without a token the event is suppressed. -/
def State.partnerCheck (s : State) (p : Nat) : State × Option Nat :=
  let x := s.partner p
  if x.used < s.obj 0x7001 1 then
    let since := if x.used = 0 then s.hub.frame else x.since
    (s.partnerSet p { x with used := x.used + 1, since := since, supp := 0 }, some x.supp)
  else (s.partnerSet p { x with supp := x.supp + 1 }, none)

/-- A violation by partner `p`: VIOL counts it (R450). -/
def State.countViolation (s : State) (p code : Nat) : State :=
  let x := s.partner p
  s.partnerSet p { x with
    viol := x.viol + 1, lastFrame := s.hub.frame, lastCode := code, violAt := s.hub.frame :: x.violAt.take 255 }

/-- Events of the safety layer that are partner violations (R448: R384, R385, R390). -/
def safetyViolation (code : Nat) : Bool :=
  (decide (0x6010 ≤ code) && decide (code ≤ 0x6014)) || (decide (0x6020 ≤ code) && decide (code ≤ 0x6022))

/-- Process a lane's submission: with a partner, the partner check comes first (R460). -/
def State.bookLane (s : State) (frame code partner origin : Nat) (data : List Byte) : State :=
  if partner = 0 then s.bookProcess frame code 0 0 origin data
  else
    let s := if safetyViolation code then s.countViolation partner code else s
    match s.partnerCheck partner with
    | (s, some supp) => s.bookProcess frame code partner supp origin data
    | (s, none) => s

/-- A decant in progress ends with a result of R469. -/
def State.decantEnd (s : State) (code : Nat) : State :=
  if s.book.decant.active then
    { s with book := { s.book with decant := { s.book.decant with active := false, result := code } } }.bookInt CBK_INT_STAT_DECANT
  else s

/-! ### Submissions (R457, R458) -/

/-- The controller holds no submission: no tick markers, or closing from C2 on (R458). -/
def State.bookAtOnce (s : State) : Bool :=
  !s.hub.markers || (match s.md.closing with | some c => decide (2 ≤ c.step) | none => false)

/-- A submission's hub edge FRAME + 2 has come. -/
def State.bookDue (s : State) (sub : Submission) : Bool := s.bookAtOnce || frameGe s.hub.frame (frameAdd sub.frame 2)

/-- A submission group: equal submissions of different lanes. -/
structure SubGroup where
  sub : Submission
  origin : Nat
  low : Nat
  deriving DecidableEq, Repr

/-- Add a lane's submission to the first equal group without that lane, or as a new group; the flag says merged. -/
def groupAdd : List SubGroup → LaneId → Submission → List SubGroup × Bool
  | [], l, sub => ([⟨sub, 2 ^ l.idx, l.idx⟩], false)
  | g :: gs, l, sub =>
    if g.sub = sub && !inSet g.origin l then ({ g with origin := g.origin + 2 ^ l.idx } :: gs, true)
    else let (gs', m) := groupAdd gs l sub; (g :: gs', m)

/-- Order of processing at one edge: ascending FRAME, then CODE, then lowest lane. -/
def groupBefore (g h : SubGroup) : Bool :=
  if g.sub.frame ≠ h.sub.frame then frameGe h.sub.frame g.sub.frame
  else if g.sub.code ≠ h.sub.code then decide (g.sub.code < h.sub.code)
  else decide (g.low ≤ h.low)

/-- Insert a group at its place. -/
def groupInsert (g : SubGroup) : List SubGroup → List SubGroup
  | [] => [g]
  | h :: t => if groupBefore h g then h :: groupInsert g t else g :: h :: t

/-- Collect the released submissions of one lane into groups. -/
def collectLane (l : LaneId) : List Submission → State × List SubGroup → State × List SubGroup
  | [], acc => acc
  | sub :: subs, (s, gs) =>
    let (gs', m) := groupAdd gs l sub
    collectLane l subs (if m then s.lcount l CBK_CNT_MERGED 1 else s, gs')

/-- Release every due submission, merge equal ones of different lanes and process them in order (R458). -/
def State.bookRelease (s : State) : State :=
  if !s.book.ready || !s.hub.supplied then s
  else
    let due := fun (l : LaneId) => (s.lane l).book.queue.filter s.bookDue
    let (s1, gs) := lanes.foldl (fun acc l => collectLane l (due l) acc) (s, [])
    let s2 := onLanes (fun l t => t.updLane l (fun x =>
      { x with book := { x.book with queue := x.book.queue.filter (fun sub => !s.bookDue sub) } })) s1
    (gs.foldr groupInsert []).foldl
      (fun t g => t.bookLane g.sub.frame g.sub.code g.sub.partner g.origin g.sub.data) s2

/-- Put a submission into a lane's queue of 64; one that finds the queue full is lost (R457). -/
def State.bookPush (s : State) (l : LaneId) (sub : Submission) : State :=
  if 64 ≤ (s.lane l).book.queue.length then
    ((s.lcount l CBK_CNT_LOST 1).lfSet l CBK_INT_STAT_LOST 1).updLane l
      (fun x => { x with book := { x.book with loss := true } })
  else s.updLane l (fun x => { x with book := { x.book with queue := x.book.queue ++ [sub] } })

/-- Submit an event into a lane's queue (R457); one whose edge has passed is processed at once (R458). -/
def State.bookSubmit (s : State) (l : LaneId) (sub : Submission) : State :=
  if !s.hub.supplied then s
  else if s.book.ready && s.bookDue sub then
    s.bookLane sub.frame sub.code sub.partner (2 ^ l.idx) sub.data
  else s.bookPush l sub

/-- Every supplied lane submits the same event: the book merges them into one record (R458). -/
def State.bookAll (s : State) (sub : Submission) : State :=
  if !s.hub.supplied then s
  else
    let s := onLanes (fun l s => if (s.lane l).supplied then s.bookPush l sub else s) s
    if s.book.ready && s.bookDue sub then s.bookRelease else s

/-! ### Events -/

/-- Event data: each field's width in bytes and value, packed little-endian (R539). -/
def evData (parts : List (Nat × Nat)) : List Byte := parts.flatMap (fun p => leBytes p.1 p.2)

/-- Lane `l`'s runtime submits an event of its current frame, of partner `p` (0 none). -/
def State.laneEvtP (s : State) (l : LaneId) (code p : Nat) (parts : List (Nat × Nat)) : State :=
  if (s.lane l).supplied then s.bookSubmit l ⟨s.frame l, code, p, padTo 28 (evData parts)⟩ else s

/-- Lane `l`'s runtime submits an event of its current frame. -/
def State.laneEvt (s : State) (l : LaneId) (code : Nat) (parts : List (Nat × Nat)) : State := s.laneEvtP l code 0 parts

/-- Every supplied lane submits the same event of the module's frame. -/
def State.allEvt (s : State) (code : Nat) (parts : List (Nat × Nat)) : State :=
  s.bookAll ⟨s.modFrame, code, 0, padTo 28 (evData parts)⟩

/-- An event of the supervisor: it reaches the book through the lanes, or is kept until lanes run (17, R32). -/
def State.supEvt (s : State) (code : Nat) (parts : List (Nat × Nat)) : State :=
  if s.suppliedSet = 0 then
    { s with sup := { s.sup with kept := s.sup.kept ++ [⟨s.modFrame, code, 0, padTo 28 (evData parts)⟩] } }
  else s.allEvt code parts

/-- An event of the hub, processed as it occurs (R458), of partner `p` with suppressed count `supp`. -/
def State.hubEvtP (s : State) (code p supp : Nat) (parts : List (Nat × Nat)) : State :=
  if !s.hub.supplied then s
  else if s.book.ready then s.bookProcess s.hub.frame code p supp 8 (evData parts)
  else { s with book := { s.book with kept := s.book.kept ++ [⟨s.hub.frame, code, p, padTo 28 (evData parts)⟩] } }

/-- An event of the hub. -/
def State.hubEvt (s : State) (code : Nat) (parts : List (Nat × Nat)) : State := s.hubEvtP code 0 0 parts

/-! ### Partner violations of the hub (16 R450, R451) -/

/-- An event recorded under the rate limits: it needs a token of partner `p` (R451). -/
def State.limitedEvt (s : State) (p code : Nat) (parts : List (Nat × Nat)) : State :=
  match s.partnerCheck p with
  | (s, some supp) => s.hubEvtP code p supp parts
  | (s, none) => s

/-- A violation by partner `p`: VIOL counts it, and it is recorded under the token check (R450, R451). -/
def State.violation (s : State) (p code : Nat) (parts : List (Nat × Nat)) : State :=
  (s.countViolation p code).limitedEvt p code parts

end Sys2Proof.Machine
end

