-- ==== Sys2Proof/Machine/ModeOps.lean ====
section
/-! DEFINITION. Mode changes (03 R84 to R87): the permitted transitions, the one operation that changes the mode, and the
lanes' mode registers. -/

namespace Sys2Proof.Machine

/-! ### Who asks (16 R442, R444, R446) -/

/-- The rights level of a request's source: host 1 to 16 of the host table, a lane, or the maintenance port. -/
def State.sourceLevel (s : State) (src : Nat) : Nat :=
  if 1 ≤ src ∧ src ≤ 16 then
    let h := s.objBytes 0x0100 src
    if byteAt h 0 = 0 then 0 else byteAt h 1
  else if 0x20 ≤ src ∧ src ≤ 0x22 then 1
  else if src = 0xFF ∧ (s.md.life = .factory ∨ s.md.life = .commissioning) then 3
  else 0

/-! ### Transitions -/

/-- The transitions of 03 R84; into STOWED also from START (R540) and at the end of the closing phase. -/
def permitted : Mode → Mode → Bool
  | .stowed, .start => true
  | .start, .safe3 | .start, .safe2 | .start, .split | .start, .configure | .start, .depot | .start, .halt
  | .start, .stowed => true
  | .configure, .start => true
  | .safe3, .safe2 | .safe2, .safe3 => true
  | .safe3, .halt | .safe2, .halt => true
  | .safe3, .depot | .safe2, .depot => true
  | .split, .halt => true
  | .split, .start | .depot, .start | .halt, .start => true
  | .depot, .configure => true
  | _, _ => false

/-- The priority of a cause (03 R85), 1 highest; causes are the row numbers of R84's table. -/
def causePriority : Nat → Nat
  | 18 => 1
  | 7 | 12 | 14 => 2
  | 10 => 3
  | 11 => 4
  | 15 => 5
  | 9 | 13 | 16 | 17 => 6
  | _ => 7

/-- Load the fields of lane `l`'s TCK_MODE that may change within a cycle: the life cycle (R106: at once) and the closing phase
(R87). -/
def State.loadFlags (s : State) (l : LaneId) : State :=
  (s.lfSet l TCK_MODE_LIFE s.md.life.code).lfSet l TCK_MODE_CLOSING (b2n s.md.closing.isSome)

/-- Load lane `l`'s TCK_MODE and TCK_MODE_EDGE from the module's mode (03 R108). -/
def State.loadMode (s : State) (l : LaneId) : State :=
  let s := s.lfSet l TCK_MODE_MODE s.md.mode.code
  let s := s.lfSet l TCK_MODE_PREV s.md.prev.code
  (s.loadFlags l).lfSet l TCK_MODE_EDGE (s.md.since % 2 ^ 32)

/-- Show a start's report on lane `l` (R108). -/
def State.showReport (s : State) (l : LaneId) (r : StartReport) : State :=
  let s := s.lfSet l TCK_WAKE s.md.wakeCause
  let s := s.lfSet l TCK_START_QUICK (b2n r.quick)
  let s := s.lfSet l TCK_START_STV (b2n r.stv)
  let s := s.lfSet l TCK_START_FAIL_STEP r.failStep
  let s := s.lfSet l TCK_START_LANES_OK r.lanesOk
  s.lfSet l TCK_START_TIME_MS (min 0xFFFF r.ms)

/-- A lane that gains supply on its own shows the mode and the report of the last start (R108). -/
def State.showLone (s : State) (l : LaneId) : State :=
  ((s.loadMode l).showReport l s.md.last).lfSet l TCK_MODE_WARM (b2n s.md.last.warm)

/-- Voters at the edge that enters a voted mode or SPLIT (06 R177): voter 2's members are the lanes that passed S7. Whether the SPLIT
rules apply is what the lanes have sent in VOT_CTL.SPLIT (06 R194). -/
def State.enterVote (s : State) (passed : Nat) : State :=
  { s with
    sup := { s.sup with v2 := { s.sup.v2 with members := passed, halt := false, fresh := true } }
    v1 := { s.v1 with members := 0, halt := false, fresh := true } }

/-- Voters when the module enters START: halt state left, member sets cleared (06 R177). -/
def State.clearVote (s : State) : State :=
  { s with
    sup := { s.sup with v2 := { s.sup.v2 with members := 0, halt := false, disregarded := 0 } }
    v1 := { s.v1 with members := 0, halt := false, disregarded := 0 } }

/-- Every runtime flag that a mode entry resets: first executions and overrun counts (07 R222, R223). -/
def State.freshTasks (s : State) : State :=
  onLanes (fun l s => s.updLane l (fun x =>
    { x with rt := { x.rt with tasks := x.rt.tasks.map (fun p => (p.1, { p.2 with first := true })) } })) s

/-- Volatile objects take their defaults at every start: counters since start, and values that are not retained (00 R22, 16
R425). The partner table is such a report, and the first request after START is exempt from the TID window (16 R443). -/
def State.startValues (s : State) : State :=
  let kept := s.dict.vol.filter (fun p => match s.objRow (p.1 / 256) (p.1 % 256) with
    | some r => decide (r.per = .retained)
    | none => false)
  { s with
    dict := { s.dict with vol := kept, counts := [] }
    svc := { s.svc with tids := [] }
    partners := []
    rack := { s.rack with code := 0, tCarry := 0, x := 0 } }

/-- Retained objects take their defaults at a cold start (16 R425). -/
def State.coldValues (s : State) : State :=
  let kept := s.dict.vol.filter (fun p => match s.objRow (p.1 / 256) (p.1 % 256) with
    | some r => decide (r.per ≠ .retained)
    | none => false)
  { s with dict := { s.dict with vol := kept } }

/-- Change the module's mode at frame `n` along a permitted transition (R84), or into STOWED from anywhere but STOWED when the
closing phase ends; every other change is impossible. -/
def State.changeMode (s : State) (m : Mode) (cause n : Nat) : State :=
  if (permitted s.md.mode m && s.md.closing.isNone) || (m == .stowed && s.md.closing.isSome) then
    let old := s.md.mode
    let ms := match s.md.start with | some st => st.ms | none => 0
    let s := { s with md := { s.md with mode := m, prev := old, since := n } }
    let s := if m == .start then s.clearVote.startValues else s
    -- START ends a decant and the file for the service (17 R469)
    let s := if m == .start then
        ({ s with book := { s.book with decant := { s.book.decant with file := [], result := 0 } } }).decantEnd 6
      else s
    -- leaving CONFIGURE discards the pending set (16 R429)
    let s := if old == .configure then { s with dict := { s.dict with pend := [], pendApp := none } } else s
    let s := s.freshTasks
    -- every safety connection is in INIT after a start (14 R384, R386)
    let s := if m == .start then
        onLanes (fun l s => s.updLane l (fun x => { x with rt := { x.rt with conns := [], train := [] } })) s
      else s
    s.supEvt 0x0001 [(1, old.code), (1, m.code), (1, cause), (4, if old == .start then ms else 0)]
  else s

/-- A trigger or request that is not acted on (event 0x0040, R85, R86). -/
def State.notActed (s : State) (what reason : Nat) : State := s.supEvt 0x0040 [(1, what), (1, reason)]

/-- Put a mode change at the edge of `frame`; of two at the same edge only the one of higher priority acts, the other is recorded
(R85). -/
def State.setDue (s : State) (target : Mode) (frame cause : Nat) : State :=
  let d : ModeDue := ⟨target, frame, cause⟩
  match s.md.due.find? (fun e => e.frame == frame) with
  | none => { s with md := { s.md with due := s.md.due ++ [d] } }
  | some e =>
    if causePriority cause < causePriority e.cause then
      ({ s with md := { s.md with due := s.md.due.map (fun x => if x = e then d else x) } }).notActed (causePriority e.cause) 1
    else s.notActed (causePriority cause) 1

/-- A change of this cause at the edge of `frame` would act: no due change there has as high a priority. -/
def State.dueFree (s : State) (frame cause : Nat) : Bool :=
  s.md.due.all (fun e => e.frame != frame || decide (causePriority cause < causePriority e.cause))

/-- The lanes' withhold flag of this cycle (06 R171), keeping the first cause. -/
def State.withhold (s : State) (l : LaneId) (cause : Nat) : State :=
  s.updLane l (fun x => { x with
    rt := { x.rt with withhold := true, whCause := if x.rt.withhold then x.rt.whCause else cause } })

/-- Pairing is enabled (19 R497). -/
def State.pairOn (s : State) : Bool := decide (s.obj 0x7300 1 = 1)

/-- The module is paired and does not drive the vehicle: its lanes show ROLE 0 or 3 (19 R502). -/
def State.pairStandby (s : State) : Bool :=
  s.pairOn && match s.leadLane with
    | some l => !(s.lf l PAIR_CTL_ROLE == 1 || s.lf l PAIR_CTL_ROLE == 2)
    | none => true

/-- Whether lane `l` is in the vote. -/
def State.inVote (s : State) (l : LaneId) : Bool := inSet s.members l

end Sys2Proof.Machine
end

