-- ==== Sys2Proof/Machine/TimeBase.lean ====
section
/-! DEFINITION. The time base (13): raw count and disciplined time, the servo and its states, time messages, captures and
the generated time records. -/

namespace Sys2Proof.Machine

/-! ### Raw count (R362, R363) -/

/-- The nominal RATE: 1.25 · 2^40 (R363). -/
def nominalRate : Nat := 0x014000000000

/-- `dt` raw counts pass; the count runs while the hub is supplied (R362). TB_DISC shows the disciplined time. -/
def State.advRaw (s : State) (dt : Nat) : State :=
  if s.hub.supplied then
    let s := s.hfSet TB_RAW (s.hf TB_RAW + dt)
    s.hfSet TB_DISC s.discTime
  else s

/-- OFFSET as a signed number. -/
def State.tbOffset (s : State) : Int := toInt 64 (s.hf TB_OFFSET)

/-- The raw counts of `ns` nanoseconds, rounded up. -/
def rawOfNs (ns : Nat) : Nat := (ns * 4 + 4) / 5

/-! ### States (R369) -/

/-- The time role (0 follower, 1 grandmaster, 2 free-running). -/
def State.tbRole (s : State) : Nat := s.hf TB_STATUS_ROLE

/-- Change the state of the time base; entering SYNC is event 0x4601, leaving it 0x4602 with its cause. -/
def State.tbState (s : State) (n cause : Nat) : State :=
  let old := s.hf TB_STATUS_STATE
  if old = n then s
  else
    let s := s.hfSet TB_STATUS_STATE n
    let s := if n = 1 then
        (s.hfSet TB_INT_STAT_SYNC 1).hubEvt 0x4601 [(1, s.tbRole), (1, s.hf TB_STATUS_SLAVE), (4, s.hf TB_OFS_LAST)]
      else s
    if old = 1 then (s.hfSet TB_INT_STAT_LOST 1).hubEvt 0x4602 [(1, n), (1, cause)] else s

/-- OFFSET changes without a change of RATE: a step (R365). Sources: 1 step to the master, 2 set by a host, 3 first setting. -/
def State.tbStep (s : State) (offset : Int) (source : Nat) : State :=
  let old := s.hf TB_OFFSET
  let s := s.hfSet TB_OFFSET (ofInt 64 offset)
  let s := (s.hfSet TB_DISC s.discTime).hcount TB_CNT_STEPS 1
  (s.hfSet TB_INT_STAT_STEP 1).hubEvt 0x4603 [(8, old), (8, ofInt 64 offset), (1, source)]

/-- Set the disciplined time as grandmaster or free-running: the first setting enters SYNC. -/
def State.tbSet (s : State) (t source : Nat) : State :=
  let base := discOf (s.hf TB_RAW) (s.hf TB_RATE) 0
  let s := s.tbStep ((t : Int) - (base : Int)) source
  let s := { s with tb := { s.tb with isSet := true } }
  if s.hf TB_STATUS_STATE = 0 then s.tbState 1 0 else s

/-- The time base when the hub management firmware starts: the committed role and port states (R368, R375). -/
def State.startTb (s : State) : State :=
  let s := s.hfSet TB_STATUS_ROLE (s.obj 0x3400 1)
  let s := (List.range 12).foldl (fun s p =>
    let v := if p = 11 && decide (s.obj 0x7300 1 = 1) then s.hf (TB_PSTAT_PSTATE 11) else s.obj 0x3401 (p + 1)
    (s.hfSet (TB_PSTAT_PSTATE p) v).hfSet (TB_PDELAY p) 0xFFFFFFFF) s
  let slave := (List.range 12).find? (fun p => decide (s.hf (TB_PSTAT_PSTATE p) = 2))
  s.hfSet TB_STATUS_SLAVE (slave.getD 15)

/-- A commit that changes the time role: a follower begins UNSYNC, the other roles are in SYNC once their time has been set (R369;
DEDUCED, log entry 73). -/
def State.tbNewRole (s : State) (old : Nat) : State :=
  if s.tbRole = old then s else s.tbState (if s.tbRole ≠ 0 && s.tb.isSet then 1 else 0) 4

/-- The hub management cores restart: RATE and OFFSET are held (R369). -/
def State.tbRestart (s : State) : State :=
  if s.hf TB_STATUS_STATE = 0 then s
  else
    let raw := s.hf TB_RAW
    ({ s with tb := { s.tb with syncRun := 0, holdRaw := raw } }).tbState 2 3

/-- The hub management cores run again: grandmaster and free-running leave HOLDOVER. -/
def State.tbRunning (s : State) : State :=
  if s.tbRole ≠ 0 ∧ s.hf TB_STATUS_STATE = 2 then s.tbState 1 0 else s

/-- A gPTP message on a disabled port, or a Sync on a port in state master or passive, is a violation (R370). -/
def State.tbViolation (s : State) (p type : Nat) : State :=
  ((s.hcount (TB_PCNT_VIOL p) 1).hfSet TB_INT_STAT_VIOL 1).violation (p + 1) 0x4606 [(1, p), (1, type)]

/-- Whether a gPTP message of this type may arrive on the port. -/
def State.tbAccepts (s : State) (p type : Nat) : Bool :=
  let st := s.hf (TB_PSTAT_PSTATE p)
  decide (st ≠ 0) && !(type == 0 && (st == 1 || st == 3))

/-- One Sync on the slave port, with the offset to the master in ns (own time less the master's). -/
def State.tbSync (s : State) (offset : Int) : State :=
  let raw := s.hf TB_RAW
  let s := { s with tb := { s.tb with syncRaw := raw } }
  let s := s.hfSet TB_OFS_LAST (ofInt 32 (clampInt (2 ^ 31 - 1) offset))
  let thr := s.obj 0x3400 6
  if 10 * thr < offset.natAbs then
    let s := { s with tb := { s.tb with syncRun := 0 } }
    let s := s.tbState 0 2
    if s.obj 0x3400 7 < offset.natAbs then s.tbStep (s.tbOffset - offset) 1 else s
  else
    let n := if offset.natAbs ≤ thr then s.tb.syncRun + 1 else 0
    let s := { s with tb := { s.tb with syncRun := n } }
    let far := decide (s.obj 0x3400 7 < offset.natAbs)
    let s := if s.hf TB_STATUS_STATE == 0 && far then s.tbStep (s.tbOffset - offset) 1 else s
    if 8 ≤ n then s.tbState 1 0 else s

/-- PTP_SYNC_RECEIVE: a Sync arrives on port `p` with the measured offset (R369, R370). -/
def execPtpSyncReceive (p : Nat) (offset : Int) (dt : Nat) (s : State) : Host.Outcome State Fault Refusal :=
  if !s.hub.supplied || decide (11 < p) || decide (s.hf (SW_PSTAT_LINK p) = 0) then .next s
  else
    let s := s.advRaw dt
    if !s.tbAccepts p 0 then .next (s.tbViolation p 0)
    else if s.hub.mgmtUp && decide (s.tbRole = 0) then .next (s.tbSync offset)
    else .next s

/-- The Sync interval in ns: 2^logSyncInterval s. -/
def logInterval (v : Nat) : Nat := 1000000000 / 2 ^ (7 - (toInt 8 v + 7).toNat)

/-- SYNC_RECEIPT_TIMEOUT: no valid Sync for syncReceiptTimeout Sync intervals (R369). -/
def execSyncReceiptTimeout (dt : Nat) (s : State) : Host.Outcome State Fault Refusal :=
  let s := s.advRaw dt
  let lim := rawOfNs (s.obj 0x3400 5 * logInterval (s.obj 0x3400 2))
  if s.hub.supplied && decide (s.tbRole = 0) && decide (s.tb.syncRaw + lim ≤ s.hf TB_RAW) then
    let raw := s.hf TB_RAW
    let s := { s with tb := { s.tb with syncRun := 0 } }
    if s.hf TB_STATUS_STATE = 1 then .next (({ s with tb := { s.tb with holdRaw := raw } }).tbState 2 1) else .next s
  else .next s

/-- HOLDOVER_TIMEOUT: a follower after HOLD s in HOLDOVER is UNSYNC (R369). -/
def execHoldoverTimeout (dt : Nat) (s : State) : Host.Outcome State Fault Refusal :=
  let s := s.advRaw dt
  if s.hub.supplied && decide (s.tbRole = 0) && decide (s.hf TB_STATUS_STATE = 2)
      && decide (s.tb.holdRaw + rawOfNs (s.obj 0x3400 8 * 1000000000) ≤ s.hf TB_RAW) then
    .next (s.tbState 0 1)
  else .next s

/-! ### Rate (R364) -/

/-- RATE stays within nominal ± 0.1 %. -/
def rateInRange (r : Nat) : Bool :=
  decide (nominalRate ≤ r + nominalRate / 1000) && decide (r ≤ nominalRate + nominalRate / 1000)

/-- A change of RATE at the present raw count: OFFSET changes in the same clock (R364). -/
def State.setRate (s : State) (r : Nat) : State :=
  let raw := s.hf TB_RAW
  let old : Nat := raw * s.hf TB_RATE / 2 ^ 40
  let new : Nat := raw * r / 2 ^ 40
  let ofs := s.tbOffset + (old : Int) - (new : Int)
  (s.hfSet TB_RATE r).hfSet TB_OFFSET (ofInt 64 ofs)

/-- RATE_UPDATE: the servo moves RATE towards `r`, by at most 2^24; a value out of range is ignored (R364, 0x4604). -/
def execRateUpdate (r dt : Nat) (s : State) : Host.Outcome State Fault Refusal :=
  if s.hub.supplied && s.hub.mgmtUp && decide (s.hf TB_STATUS_STATE ≠ 2) then
    let s := s.advRaw dt
    if !rateInRange r then .next (s.hubEvt 0x4604 [(8, s.hf TB_RATE)])
    else
      let old := s.hf TB_RATE
      .next (s.setRate (max (old - 2 ^ 24) (min (old + 2 ^ 24) r)))
  else .next (s.advRaw dt)

/-! ### Setting the time (R369, R375) -/

/-- A host sets the time (0x3410:05); false when the role refuses it. -/
def State.setTime (s : State) (t : Nat) : State × Bool :=
  if s.tbRole = 0 then (s, false) else (s.tbSet t 2, true)

/-- SET_TIME: an authorised host sets the disciplined time. -/
def execSetTime (src t dt : Nat) (s : State) : Host.Outcome State Fault Refusal :=
  if s.hub.supplied && decide (1 ≤ s.sourceLevel src) then .next ((s.advRaw dt).setTime t).1 else .next s

/-- A write of TB_SETTIME: accepted only from a lane-management core in START (none: SLVERR). -/
def State.settimeWrite (s : State) (core v : Nat) : Option State :=
  if core ≠ 4 ∨ s.md.mode ≠ .start then none
  else if s.tbRole ≠ 0 && !s.tb.isSet then some (s.tbSet v 3)
  else some s

/-- TB_SETTIME_WRITE: a lane-management core gives the first time setting in START. -/
def execTbSettimeWrite (l : LaneId) (core v dt : Nat) (s : State) : Host.Outcome State Fault Refusal :=
  if s.hub.supplied && (s.lane l).supplied then
    let s := s.advRaw dt
    .next ((s.settimeWrite core v).getD s)
  else .next s

/-! ### Captures (R372) -/

/-- TB_CAPTURE.GO: raw count, disciplined time, RATE and OFFSET in one clock into the lane's own copies. -/
def State.tbCapture (s : State) (l : LaneId) : State :=
  let r := s.hf TB_RAW
  let d := s.discTime
  let v := s.hf TB_RATE
  let o := s.hf TB_OFFSET
  (((s.lfSet l TB_CAP_RAW r).lfSet l TB_CAP_DISC d).lfSet l TB_CAP_RATE v).lfSet l TB_CAP_OFS o

/-- TB_CAPTURE: a lane writes TB_CAPTURE; bit 0 is GO. -/
def execTbCapture (l : LaneId) (v dt : Nat) (s : State) : Host.Outcome State Fault Refusal :=
  if s.hub.supplied && (s.lane l).supplied then
    let s := s.advRaw dt
    .next (if bitOf v 0 then s.tbCapture l else s)
  else .next s

/-- A 32-bit load of the lower word of TB_RAW (`disc` false) or TB_DISC: the value, with the upper word captured for the
lane (R372). -/
def State.tbLowRead (s : State) (l : LaneId) (disc : Bool) : Nat × State :=
  let v := if disc then s.discTime else s.hf TB_RAW
  (v % 2 ^ 32, { s with tb := { s.tb with hi := mapSet 0 s.tb.hi (l.idx * 2 + b2n disc) (v / 2 ^ 32) } })

/-- The upper word that the lane captured. -/
def State.tbHighRead (s : State) (l : LaneId) (disc : Bool) : Nat := mapGet 0 s.tb.hi (l.idx * 2 + b2n disc)

/-- TB_LOW_WORD_READ: the lane-management core loads a low time word into register `rd`. -/
def execTbLowWordRead (l : LaneId) (disc : Bool) (rd dt : Nat) (s : State) : Host.Outcome State Fault Refusal :=
  if s.hub.supplied && (s.lane l).supplied then
    let (v, s) := (s.advRaw dt).tbLowRead l disc
    .next (s.updLane l (fun x =>
      let k := mapGet {} x.cores 4
      { x with cores := mapSet {} x.cores 4 (if rd = 0 ∨ 31 < rd then k else
        { k with x := mapSet 0 k.x rd (BitVec.ofNat 64 v) }) }))
  else .next s

/-! ### Time messages (R367, R370, R371) -/

/-- The gPTP address. -/
def ptpAddress : List Byte := [0x01, 0x80, 0xC2, 0x00, 0x00, 0x0E]

/-- The clock identity: EUI-64 of the module's first address (PRESUMED from IEEE 802.1AS). -/
def State.clockId (s : State) : List Byte :=
  let m := s.objBytes 0x0007 1
  m.take 3 ++ [0xFF, 0xFE] ++ m.drop 3

/-- A gPTP frame of the module: header of 34 bytes and a 10-byte time stamp (PRESUMED from IEEE 802.1AS). -/
def State.ptpFrame (s : State) (p type seq log body : Nat) : List Byte :=
  ptpAddress ++ s.objBytes 0x0007 (p + 1) ++ [0x88, 0xF7]
    ++ [BitVec.ofNat 8 (0x10 + type), 0x12] ++ beBytes 2 (34 + body) ++ [0, 0, 0, 0x08] ++ List.replicate 8 0
    ++ List.replicate 4 0 ++ s.clockId ++ beBytes 2 (p + 1) ++ beBytes 2 seq
    ++ [BitVec.ofNat 8 (if type = 0 then 0 else 5), BitVec.ofNat 8 log] ++ List.replicate body 0

/-- The next sequence number of a port's messages of one kind. -/
def State.tbSeq (s : State) (k : Nat) : Nat × State :=
  let n := mapGet 0 s.tb.seq k
  (n, { s with tb := { s.tb with seq := mapSet 0 s.tb.seq k ((n + 1) % 65536) } })

/-- Put a frame, with the raw count of its ingress, into an egress queue of a port. -/
def State.enqueueAt (s : State) (p q raw : Nat) (b : List Byte) : State :=
  let x := mapGet {} s.net.ports p
  let x := { x with queues := mapSet [] x.queues q (mapGet [] x.queues q ++ [(raw, b)]) }
  { s with net := { s.net with ports := mapSet {} s.net.ports p x } }

/-- SYNC_SEND: a one-step Sync goes into queue 5 of a master port; it takes the stamp of its own SFD at egress (R370). -/
def execSyncSend (p dt : Nat) (s : State) : Host.Outcome State Fault Refusal :=
  let s := s.advRaw dt
  if s.hub.supplied && s.hub.mgmtUp && decide (p ≤ 11) && decide (s.hf (TB_PSTAT_PSTATE p) = 1)
      && decide (s.hf (SW_PSTAT_LINK p) = 1) then
    let (n, s) := s.tbSeq (2 * p)
    .next (s.enqueueAt p 5 (s.hf TB_RAW) (s.ptpFrame p 0 n (s.obj 0x3400 2) 10))
  else .next s

/-- PDELAY_REQUEST_SEND: a peer-delay exchange on a port in state master or slave; `result` is the mean link delay in ns
and whether the neighbour rate ratio lies within ±0.1 %, none when the exchange failed (R367, R375). -/
def execPdelayRequestSend (p : Nat) (result : Option (Nat × Bool)) (dt : Nat) (s : State) :
    Host.Outcome State Fault Refusal :=
  let s := s.advRaw dt
  let st := if p ≤ 11 then s.hf (TB_PSTAT_PSTATE p) else 0
  if s.hub.supplied && s.hub.mgmtUp && (st == 1 || st == 2) && decide (s.hf (SW_PSTAT_LINK p) = 1) then
    let (n, s) := s.tbSeq (2 * p + 1)
    let s := s.enqueueAt p 5 (s.hf TB_RAW) (s.ptpFrame p 2 n (s.obj 0x3400 3) 20)
    let was := s.hf (TB_PSTAT_ASCAP p)
    let (d, cap, s) := match result with
      | some (d, ratio) => (min d 0xFFFFFFFE, decide (d < s.obj 0x3400 9) && ratio, s)
      | none => (0xFFFFFFFF, false, s.hcount (TB_PCNT_PDFAIL p) 1)
    let s := (s.hfSet (TB_PDELAY p) d).hfSet (TB_PSTAT_ASCAP p) (b2n cap)
    .next (if was = 1 ∧ !cap then s.hubEvt 0x4605 [(1, p), (4, d)] else s)
  else .next s

/-- The offset of the PTP message in a frame: after the Ethernet head for EtherType 0x88F7, after the UDP head for UDP
over IPv4 to port 319; with the offset of the UDP checksum. UDP over IPv6 is the flag (PRESUMED from IEEE 1588). -/
def ptpAt (b : List Byte) : Option (Nat × Option Nat × Bool) :=
  let tag := decide (beAt b 12 2 = 0x8100)
  let h := if tag then 18 else 14
  let t := if tag then beAt b 16 2 else beAt b 12 2
  if t = 0x88F7 then some (h, none, false)
  else if t = 0x0800 ∧ byteAt b (h + 9) = 17 then
    let u := h + byteAt b h % 16 * 4
    if beAt b (u + 2) 2 = 319 then some (u + 8, some (u + 6), false) else none
  else if t = 0x86DD ∧ byteAt b (h + 6) = 17 ∧ beAt b (h + 42) 2 = 319 then some (h + 48, none, true)
  else none

/-- The residence time in units of 2^−16 ns (R371). -/
def residence (rawE rawI rate : Nat) : Nat := (rawE - rawI) * rate / 2 ^ 24

/-- A sum beyond the largest positive correctionField sets it to that. -/
def correctionAdd (c r : Nat) : Nat :=
  let v := toInt 64 c + (r : Int)
  if (2 ^ 63 - 1 : Int) < v then 2 ^ 63 - 1 else ofInt 64 v

/-- The one-step transparent clock on a frame that leaves a port (R371), and the time stamp of the module's own Sync. -/
def State.correct (s : State) (rawI rawE : Nat) (b : List Byte) : State × List Byte :=
  match ptpAt b with
  | none => (s, b)
  | some (o, sum, v6) =>
    let type := byteAt b o % 16
    if b.take 6 = ptpAddress then
      if type = 0 then
        let d := discOf rawE (s.hf TB_RATE) s.tbOffset
        (s, overlay b (o + 34) (beBytes 6 (d / 1000000000) ++ beBytes 4 (d % 1000000000)))
      else (s, b)
    else if 3 < type then (s, b)
    else
      let dom := byteAt b (o + 4)
      if v6 || dom == 0 || !(List.range 4).any (fun i => decide (s.obj 0x3403 (i + 1) = dom)) then
        (s.hcount TB_CNT_TC_SKIP 1, b)
      else
        let c := correctionAdd (beAt b (o + 8) 8) (residence rawE rawI (s.hf TB_RATE))
        let b := overlay b (o + 8) (beBytes 8 c)
        (s, match sum with | some k => overlay b k [0, 0] | none => b)

/-! ### Generated time records (R374) -/

/-- RATE_PPB: (RATE / nominal − 1) in ppb. -/
def ratePpb (r : Nat) : Int := ((r : Int) - (nominalRate : Int)) * 1000000000 / (nominalRate : Int)

/-- The tick record of edge `n`, whose marker stands at raw count `raw`. -/
def State.tickRecord (s : State) (n raw : Nat) : List Byte :=
  let d := discOf raw (s.hf TB_RATE) s.tbOffset
  let mark := if s.period = 0 then d else (d + s.period / 2) / s.period * s.period
  leBytes 8 n ++ leBytes 8 raw ++ leBytes 8 mark ++ leBytes 4 (ofInt 32 (ratePpb (s.hf TB_RATE)))
    ++ leBytes 1 (s.hf TB_STATUS_STATE) ++ leBytes 1 s.tbRole ++ [0, 0]

/-- The arrival record of stream `h`, none when no frame was accepted for the snapshot. -/
def State.arrivalRecord (s : State) (h : Nat) : Option (List Byte) :=
  (mapFind s.tb.arrive h).map (fun r => leBytes 8 r ++ leBytes 8 (discOf r (s.hf TB_RATE) s.tbOffset))

/-- A frame of stream `h` is accepted whose SFD stood `sfd` 10 ns units after the marker. -/
def State.arrives (s : State) (h : Nat) (sfd : Int) : State :=
  let raw := ((s.tb.edgeRaw : Int) + sfd * 8).toNat
  { s with tb := { s.tb with arrive := mapInsert (mapErase s.tb.arrive h) h raw } }

end Sys2Proof.Machine
end

