-- ==== Sys2Proof/Machine/Exchange.lean ====
section
/-! DEFINITION. Where data enters: entry tags, the verify list, the exchange over the lane-to-lane links and the agreement
rules (04). -/

namespace Sys2Proof.Machine

/-! ### Entry tags (R111) -/

/-- The 16 bytes of an entry tag. -/
def tagBytes (check kind len port frameLo : Nat) : List Byte :=
  let t := leBytes 4 check ++ leBytes 4 (kind * 2 ^ 24 + len % 2 ^ 24) ++ leBytes 4 (port * 2 ^ 24 + frameLo % 2 ^ 16)
  t ++ leBytes 4 (crc32c t)

/-- Fields of a tag. -/
def tagCheck (t : List Byte) : Nat := leAt t 0 4
def tagLen (t : List Byte) : Nat := leAt t 4 3
def tagKind (t : List Byte) : Nat := byteAt t 7
def tagFrameLo (t : List Byte) : Nat := leAt t 8 2
def tagPort (t : List Byte) : Nat := byteAt t 11

/-- TCHK matches tag bytes 0 to 11. -/
def tagOk (t : List Byte) : Bool := decide (leAt t 12 4 = crc32c (t.take 12))

/-! ### The verify list (R115 to R118) -/

/-- An entry of the verify list. -/
structure VEntry where
  off0 : Nat
  off1 : Nat
  size : Nat
  kind : Nat
  port : Nat
  deriving DecidableEq, Repr

/-- Base of the verify list. -/
def State.vlist (s : State) (l : LaneId) : Nat := (s.lreg l XCH_VLIST.reg).toNat

/-- Entry `i` of the verify list (R115). -/
def State.ventry (s : State) (l : LaneId) (i : Nat) : VEntry :=
  let b := s.lmem l (s.vlist l + 16 * i) 16
  ⟨leAt b 0 4 % 2 ^ 21, leAt b 4 4 % 2 ^ 21, leAt b 8 4, byteAt b 15, byteAt b 14⟩

/-- All entries. -/
def State.ventries (s : State) (l : LaneId) : List VEntry :=
  (List.range (s.lf l XCH_VCOUNT)).map (s.ventry l)

/-- The banks of the entries as (offset, size). -/
def entryBanks (es : List VEntry) : List (Nat × Nat) := es.flatMap (fun e => [(e.off0, e.size), (e.off1, e.size)])

/-- Some two banks of the list overlap. -/
def banksOverlap : List (Nat × Nat) → Bool
  | [] => false
  | (o, n) :: bs => bs.any (fun p => decide (o < p.1 + p.2) && decide (p.1 < o + n)) || banksOverlap bs

/-- A list is invalid (R116). R115 makes OFF0 and OFF1 8-byte aligned and R116 does not name a break of that: DESIGN CHOICE, it makes
the list invalid as well (log entry 42). -/
def vlistBad (es : List VEntry) : Bool :=
  es.any (fun e => decide (e.size < 16) || decide (e.size % 8 ≠ 0) || decide (e.off0 % 8 ≠ 0) || decide (e.off1 % 8 ≠ 0)
    || decide (exchangeSize < e.off0 + e.size) || decide (exchangeSize < e.off1 + e.size))
  || banksOverlap (entryBanks es) || decide (0x100000 < (es.map VEntry.size).sum)

/-- t_A in units of 100 ns: max(7.2 + 4.1·K, 5.0 + 0.027·V_KiB) µs, rounded up (R126); V in bytes. -/
def phaseA (k v : Nat) : Nat := max (72 + 41 * k) ((50 * 102400 + 27 * v + 102399) / 102400)

/-- TCK_PLAN.END_A follows t_A (R126), in 100 ns units from the edge. -/
def State.showEndA (s : State) (l : LaneId) : State :=
  s.lfSet l TCK_PLAN_END_A (min 0xFFFF (s.lf l TCK_PLAN_END_L + phaseA (s.obj 0x1120 1) (s.lf l XCH_VOLUME)))

/-- The check of the list whenever XCH_VCOUNT is written (R116), with the verify volume (R126). -/
def State.checkVlist (s : State) (l : LaneId) : State :=
  let es := s.ventries l
  let v := (es.map VEntry.size).sum
  let s := s.lfSet l XCH_STATUS_VLIST_ERR (b2n (vlistBad es))
  (s.lfSet l XCH_VOLUME (min v 0x1FFFFF)).showEndA l

/-- Offset of the bank of cycle `n` of an entry. -/
def bankOff (e : VEntry) (n : Nat) : Nat := if n % 2 = 0 then e.off0 else e.off1

/-- The result code of one entry on bank n mod 2 (R118); the first check that fails decides. -/
def State.verifyCode (s : State) (l : LaneId) (n : Nat) (e : VEntry) : Nat :=
  let base := exchangeBase + bankOff e n
  let t := s.lmem l base 16
  if tagFrameLo t ≠ n % 65536 then 1
  else if !tagOk t then 2
  else if tagKind t ≠ e.kind ∨ tagPort t ≠ e.port then 3
  else if e.size < 16 + tagLen t then 4
  else if crc32c (s.lmem l (base + 16) (tagLen t)) ≠ tagCheck t then 5
  else 0

/-- Write one entry's result: the code, the outcome bit, the counters (R118). -/
def State.verifyStore (s : State) (l : LaneId) (i code : Nat) : State :=
  let s := s.lmemSet l (s.vlist l + 0x1000 + i) [BitVec.ofNat 8 code]
  let s := s.lfSet l ⟨(XCH_VRES (i / 32)).reg, i % 32, i % 32⟩ (b2n (code == 0))
  let s := if code = 0 then s else s.lfSet l XCH_INT_STAT_CHK 1
  if code = 0 then s
  else if code = 1 then s.lcount l XCH_CNT_CHK_STALE 1
  else (s.lcount l XCH_CNT_CHK_BAD 1).cntAdd 0x1121 (2 + l.idx) 1

/-- Verify every entry on bank n mod 2 (R118); an invalid list gives code 0x04 throughout (R116). Bits of XCH_VRES of entries that
the list no longer has keep their values: DESIGN CHOICE, the rule speaks of each entry only (log entry 43). -/
def State.verifyAll (s : State) (l : LaneId) : State :=
  let n := s.frame l
  let bad := decide (s.lf l XCH_STATUS_VLIST_ERR = 1)
  (List.range (s.lf l XCH_VCOUNT)).foldl
    (fun t i => t.verifyStore l i (if bad then 4 else t.verifyCode l n (t.ventry l i))) s

/-! ### Images and packets (R121 to R128) -/

/-- K in bytes: the image size. -/
def State.imageBytes (s : State) (l : LaneId) : Nat := 1024 * s.lf l TCK_CFG_AIMG_KIB

/-- An image of which only the laid-out parts count: reserved bytes and the bytes after the application section are 0 (R121). -/
def laidOut (layout n : Nat) (img : List Byte) : List Byte :=
  let app := 8 * bitsOf layout 31 20 + 4 * (bitsOf layout 19 10 + bitsOf layout 9 0)
  padTo n (img.take 4 ++ leBytes 4 0 ++ slice img 8 12 ++ leBytes 4 0 ++ slice img 24 132 ++ List.replicate 100 0
    ++ slice img 256 app)

/-- The own image. -/
def State.ownImage (s : State) (l : LaneId) : List Byte :=
  laidOut (s.lreg l XCH_LAYOUT.reg).toNat (s.imageBytes l) (s.lmem l (s.lreg l XCH_OWN.reg).toNat (s.imageBytes l))

/-- All four bases are set (R138). -/
def State.basesSet (s : State) (l : LaneId) : Bool :=
  decide (s.lf l XCH_OWN ≠ 0) && decide (s.lf l XCH_AGREED ≠ 0) && decide (s.lf l XCH_SAFEMAP ≠ 0)
    && decide (s.lf l XCH_VLIST ≠ 0)

/-- A packet of a lane-to-lane link (R124): header and trailer big-endian. -/
def linkPacket (type : Nat) (src dst : LaneId) (frame layout : Nat) (payload : List Byte) : List Byte :=
  let h := beBytes 1 type ++ beBytes 1 (src.idx * 16 + dst.idx) ++ beBytes 6 frame ++ beBytes 4 payload.length
    ++ beBytes 4 layout
  h ++ payload ++ beBytes 4 (crc32c (h ++ payload)) ++ beBytes 4 (0xFFFFFFFF - frame % 2 ^ 32)

/-- Send a packet to both neighbours. -/
def State.sendBoth (s : State) (l : LaneId) (type layout : Nat) (payload : List Byte) : State :=
  let s := s.emit .linkPacket l.next.idx type (linkPacket type l l.next (s.frame l) layout payload)
  s.emit .linkPacket l.prev.idx type (linkPacket type l l.prev (s.frame l) layout payload)

/-- The verdict on a received packet's trailer and frame, and its sender's standing (R125). -/
def State.packetOk (s : State) (l : LaneId) (p : LinkPacket) : Bool :=
  p.crcOk && p.nframeOk && decide (p.frame = s.frame l) && decide (p.dst = l) && decide (p.src ≠ l)
    && inSet (s.lf l VOT_V2STAT_MEMBERS) p.src

/-- Count a failed or late image of a neighbour on its link (R125). -/
def State.countLink (s : State) (l src : LaneId) : State :=
  let s := if src = l.prev then s.lcount l XCH_CNT_LINK_PREV 1 else s.lcount l XCH_CNT_LINK_NEXT 1
  (s.lfSet l XCH_INT_STAT_LATE 1).cntAdd 0x1121 (5 + l.idx) 1

/-- Verify the front-end record of the own image (R120). -/
def State.frontEndCheck (s : State) (l : LaneId) : State :=
  let img := s.ownImage l
  let ok := decide (leAt img 152 4 = crc32c (slice img 16 136))
  let s := s.lmemSet l (s.lreg l XCH_OWN.reg).toNat [BitVec.ofNat 8 (setBit (byteAt img 0) 0 ok)]
  let s := s.lfSet l XCH_STATUS_FE_OK (b2n ok)
  let s := s.lfSet l DIN_STATUS_REC_OK (b2n ok)
  if ok then s else (s.lfSet l DIN_INT_STAT_REC_ERR 1).laneEvt l 0x5003 [(1, l.idx)]

/-- IMAGE_PACKET_RECEIVE: a neighbour's image is held, or counted as failed (R125). -/
def execImagePacketReceive (l : LaneId) (p : LinkPacket) (s : State) : Host.Outcome State Fault Refusal :=
  if !s.ticking l then .next s
  else
    let ok := s.packetOk l p && decide (p.payload.length = s.imageBytes l)
      && decide (p.layout = (s.lreg l XCH_LAYOUT.reg).toNat)
    -- after the image cut-off the packet is late and was counted there (R127)
    if decide (bitOf (s.lane l).xch.failed 3) then .next s
    else if ok then
      .next (s.updLane l (fun x => { x with
        xch := { x.xch with held := mapInsert (mapErase x.xch.held p.src.idx) p.src.idx p.payload } }))
    else
      .next ((s.countLink l p.src).updLane l (fun x => { x with
        xch := { x.xch with failed := setBit x.xch.failed p.src.idx true } }))

/-- Lanes whose images lane `l` holds; its own always counts (R128). -/
def State.heldSet (s : State) (l : LaneId) : Nat :=
  laneSet (fun k => decide (k = l) || (mapFind (s.lane l).xch.held k.idx).isSome)

/-- A neighbour in the vote whose image neither came nor failed is late (R125, R127). -/
def State.countLate (s : State) (l k : LaneId) : State :=
  if inSet (s.lf l VOT_V2STAT_MEMBERS) k && !inSet (s.heldSet l) k && !bitOf (s.lane l).xch.failed k.idx
  then s.countLink l k else s

/-- The own outcome bitmap as 32 bytes (R128). -/
def State.vresBytes (s : State) (l : LaneId) : List Byte :=
  (List.range 8).flatMap (fun j => leBytes 4 (s.lf l (XCH_VRES j)))

/-- IMAGE_CUTOFF: late images are counted and a receipt is sent to both neighbours (R127, R128). -/
def execImageCutoff (l : LaneId) (s : State) : Host.Outcome State Fault Refusal :=
  if !s.ticking l then .next s
  else if s.laneMode l == .split then .next s
  else
    let s := (s.countLate l l.prev).countLate l l.next
    let s := s.updLane l (fun x => { x with xch := { x.xch with failed := setBit x.xch.failed 3 true } })
    let s := s.lfSet l XCH_STATUS_HELD (s.heldSet l)
    .next (s.sendBoth l 6 0 (leBytes 8 (s.heldSet l) ++ s.vresBytes l))

/-- RECEIPT_RECEIVE: a neighbour's receipt is checked and kept (R128). -/
def execReceiptReceive (l : LaneId) (p : LinkPacket) (s : State) : Host.Outcome State Fault Refusal :=
  if !s.ticking l || bitOf (s.lane l).xch.failed 4 then .next s
  else if s.packetOk l p then
    .next (s.updLane l (fun x => { x with
      xch := { x.xch with receipts := mapInsert (mapErase x.xch.receipts p.src.idx) p.src.idx p.payload } }))
  else .next s

/-- Neighbours without a valid receipt. -/
def State.lackReceipt (s : State) (l : LaneId) : Nat :=
  laneSet (fun k => decide (k ≠ l) && (mapFind (s.lane l).xch.receipts k.idx).isNone)

/-- RECEIPT_CUTOFF: a neighbour without a valid receipt is left out of the agreement (R128). -/
def execReceiptCutoff (l : LaneId) (s : State) : Host.Outcome State Fault Refusal :=
  if !s.ticking l then .next s
  else if s.laneMode l == .split then .next s
  else
    let lack := s.lackReceipt l
    let s := s.updLane l (fun x => { x with
      xch := { x.xch with failed := setBit x.xch.failed 4 true, noReceipt := lack } })
    let missed := lanes.any (fun k => inSet lack k && inSet (s.lf l VOT_V2STAT_MEMBERS) k)
    .next (if missed then s.lfSet l XCH_INT_STAT_LATE 1 else s)

/-! ### Agreement (R129 to R136) -/

/-- The receipt of lane `k` at lane `l` counts: valid, and from a lane in the vote. -/
def State.receiptOf (s : State) (l k : LaneId) : Option (List Byte) :=
  if k = l then none
  else if inSet (s.lane l).xch.noReceipt k then none
  else mapFind (s.lane l).xch.receipts k.idx

/-- USED: the own HELD mask, intersected with each valid receipt's, less every lane without a receipt; the own image
always (R129), but for a candidate, which forms the agreed image from the members' images only (06 R190). -/
def State.usedSet (s : State) (l : LaneId) : Nat :=
  laneSet (fun k => (decide (k = l) && !(s.lane l).rt.cand) ||
    (decide (k ≠ l) && inSet (s.heldSet l) k && (s.receiptOf l k).isSome
      && lanes.all (fun j => match s.receiptOf l j with
          | none => true
          | some r => bitOf (byteAt r 0) k.idx)))

/-- The image of lane `k` as lane `l` holds it. -/
def State.imageOf (s : State) (l k : LaneId) : List Byte :=
  if k = l then s.ownImage l else (mapFind (s.lane l).xch.held k.idx).getD []

/-- A bit field agreed from the contributing values: majority of three; of two, equal bits else the safe value (R130). -/
def agreeBits (safe : Nat) : List Nat → Option Nat
  | [a, b, c] => some (nOr (nOr (nAnd a b) (nAnd b c)) (nAnd a c))
  | [a, b] => some (nOr (nAnd a b) (nAnd (nXor a b) safe))
  | _ => none

/-- 0x8000_0000 stands for no change (R119). -/
def timeAbsent : Nat := 0x80000000

/-- Sorting of a time item: the present values as signed numbers. -/
def presentTimes (xs : List Nat) : List Int := (xs.filter (· ≠ timeAbsent)).map (toInt 32)

/-- The earliest of a list of times. -/
def earliest : List Int → Option Int
  | [] => none
  | x :: xs => match earliest xs with | none => some x | some y => some (min x y)

/-- A TIME or T item (R130). -/
def agreeTime (xs : List Nat) : Option Nat :=
  match xs with
  | [_, _, _] => match presentTimes xs with
    | [a, b, c] => some (ofInt 32 (median3 a b c))
    | [a, b] => some (ofInt 32 (min a b))
    | _ => some timeAbsent
  | [_, _] => match earliest (presentTimes xs) with
    | some t => some (ofInt 32 t)
    | none => some timeAbsent
  | _ => none

/-- An N item: the median of three, the lower of two (R130). -/
def agreeN : List Nat → Option Nat
  | [a, b, c] => some (median3 a b c).toNat
  | [a, b] => some (min a b)
  | _ => none

/-- Write an agreed item of `n` bytes at an offset of the agreed image; with no agreement the item is not formed. -/
def putItem (img : List Byte) (off n : Nat) : Option Nat → List Byte
  | some v => overlay img off (leBytes n v)
  | none => img

/-- The fixed section from the contributing images. -/
def agreeFixed (safe : Nat) (imgs : List (List Byte)) (out : List Byte) : List Byte :=
  let out := putItem out 16 4 (agreeBits safe (imgs.map (fun i => leAt i 16 4)))
  (List.range 32).foldl (fun o k => putItem o (24 + 4 * k) 4 (agreeTime (imgs.map (fun i => leAt i (24 + 4 * k) 4)))) out

/-- The application section: B region, T items, N items (R121, R130). -/
def agreeApp (layout safe : Nat) (imgs : List (List Byte)) (out : List Byte) : List Byte :=
  let b := 8 * bitsOf layout 31 20
  let t := bitsOf layout 19 10
  let n := bitsOf layout 9 0
  let out := putItem out 256 b (agreeBits safe (imgs.map (fun i => leAt i 256 b)))
  let out := (List.range t).foldl (fun o k =>
    putItem o (256 + b + 4 * k) 4 (agreeTime (imgs.map (fun i => leAt i (256 + b + 4 * k) 4)))) out
  (List.range n).foldl (fun o k =>
    putItem o (256 + b + 4 * t + 4 * k) 4 (agreeN (imgs.map (fun i => leAt i (256 + b + 4 * t + 4 * k) 4)))) out

/-- The outcome bitmap of lane `k` as one number. -/
def State.vresOf (s : State) (l k : LaneId) : Nat :=
  if k = l then leNat (s.vresBytes l)
  else match s.receiptOf l k with | some r => leNat (slice r 8 32) | none => 0

/-- Agreed validity from the bitmaps of the lanes in USED (R132). -/
def agreeValid : List Nat → Nat
  | [a, b, c] => nOr (nOr (nAnd a b) (nAnd b c)) (nAnd a c)
  | [a, b] => nAnd a b
  | [a] => a
  | _ => 0

/-- The safe-value map's words for LEVELS and for the B region (R123). -/
def State.safeLevels (s : State) (l : LaneId) : Nat := leNat (s.lmem l (s.lreg l XCH_SAFEMAP.reg).toNat 4)
def State.safeB (s : State) (l : LaneId) : Nat :=
  leNat (s.lmem l ((s.lreg l XCH_SAFEMAP.reg).toNat + 4) (8 * s.lf l XCH_LAYOUT_B_UNITS))

/-- Count consecutive disagreeing and agreeing cycles of one input (R136). -/
def State.inputRun (s : State) (l : LaneId) (diff i : Nat) : State :=
  s.updLane l (fun x => { x with xch := { x.xch with
    disRun := mapSet 0 x.xch.disRun i (if bitOf diff i then mapGet 0 x.xch.disRun i + 1 else 0)
    agreeRun := mapSet 0 x.xch.agreeRun i (if bitOf diff i then 0 else mapGet 0 x.xch.agreeRun i + 1) } })

/-- How many 4-byte items of a region differ between two images. -/
def itemsDiffer (own agreed : List Byte) (off n : Nat) : Nat :=
  ((List.range n).filter (fun k => leAt own (off + 4 * k) 4 ≠ leAt agreed (off + 4 * k) 4)).length

/-- Compare the own values with the agreed ones (R136): LEVELS and B bits, T and N items. DEDUCED: the TIME values of the fixed
section do not count, as the chapter's worked example counts one difference where lane B's TIME[5] differs as well (log entry 12). -/
def State.countDis (s : State) (l : LaneId) (own agreed : List Byte) : State :=
  let dl := nXor (leAt own 16 4) (leAt agreed 16 4)
  let b := 8 * s.lf l XCH_LAYOUT_B_UNITS
  let db := nXor (leAt own 256 b) (leAt agreed 256 b)
  let items := itemsDiffer own agreed (256 + b) (s.lf l XCH_LAYOUT_T_CNT + s.lf l XCH_LAYOUT_N_CNT)
  let s := s.lcount l XCH_CNT_DIS (popCount 32 dl + popCount (8 * b) db + items)
  (List.range 32).foldl (fun t i => t.inputRun l dl i) s

/-- Write the agreed validity as XCH_AGVAL0 to 7. -/
def State.setAgval (s : State) (l : LaneId) (v : Nat) : State :=
  (List.range 8).foldl (fun t j => t.lfSet l (XCH_AGVAL j) (bitsOf v (32 * j + 31) (32 * j))) s

/-- The agreement of phase A on lane `l` (R129 to R136): USED, the agreed image, XCH_AGVAL, WITHHOLD and NO_AGREE. -/
def State.agree (s : State) (l : LaneId) : State :=
  let base := (s.lreg l XCH_AGREED.reg).toNat
  let own := s.ownImage l
  if !s.basesSet l then
    -- R138: no image is sent, no agreement
    let s := s.lfSet l XCH_STATUS_NO_AGREE 1
    let s := (s.lfSet l XCH_INT_STAT_WITHHOLD 1).cntAdd 0x1121 (8 + l.idx) 1
    (s.withhold l 4).lfSet l XCH_STATUS_DONE 1
  else if s.laneMode l == .split then
    -- SPLIT: the agreed image is the own image, AGVAL the own VRES (R135)
    let s := s.lmemSet l base own
    let s := s.setAgval l (leNat (s.vresBytes l))
    let s := s.lfSet l XCH_STATUS_USED (2 ^ l.idx)
    let s := s.lfSet l XCH_STATUS_DONE 1
    s.lfSet l XCH_INT_STAT_DONE 1
  else
    let used := s.usedSet l
    let us := lanes.filter (fun k => inSet used k)
    let imgs := us.map (s.imageOf l)
    let fixed := imgs.filter (fun i => bitOf (byteAt i 0) 0)
    let agval := agreeValid (us.map (s.vresOf l))
    let prev := s.lmem l base (s.imageBytes l)
    let out := agreeFixed (s.safeLevels l) fixed prev
    let out := agreeApp (s.lreg l XCH_LAYOUT.reg).toNat (s.safeB l) imgs out
    let out := overlay out 0 (leBytes 4 (b2n (decide (fixed ≠ [])) + 2 * used) ++ leBytes 4 0 ++ leBytes 8 (s.frame l))
    let alone := decide (us.length ≤ 1) || decide (fixed.length ≤ 1)
    let missed := decide (nAndNot agval (leNat (s.vresBytes l)) ≠ 0)
    let s := s.lmemSet l base out
    let s := s.setAgval l agval
    let s := s.lfSet l XCH_STATUS_USED used
    let s := s.lfSet l XCH_STATUS_NO_AGREE (b2n alone)
    let s := s.lfSet l XCH_STATUS_WITHHOLD (b2n missed)
    let s := if missed then s.withhold l 3 else s
    let s := if alone then s.withhold l 4 else s
    let s := if missed || alone then (s.lfSet l XCH_INT_STAT_WITHHOLD 1).cntAdd 0x1121 (8 + l.idx) 1 else s
    let s := s.countDis l own out
    let s := s.lfSet l XCH_STATUS_DONE 1
    s.lfSet l XCH_INT_STAT_DONE 1

/-- INPUT_DISAGREEMENT_FLAG: DIS_LIM consecutive differing cycles flag the input (R136). -/
def execInputDisagreementFlag (l : LaneId) (i : Nat) (s : State) : Host.Outcome State Fault Refusal :=
  if s.ticking l && decide (i < 32) && decide (s.lf l XCH_CFG_DIS_LIM ≤ mapGet 0 (s.lane l).xch.disRun i)
      && !bitOf (s.lf l XCH_DIS_IN) i then
    let s := s.lfSet l XCH_DIS_IN (setBit (s.lf l XCH_DIS_IN) i true)
    .next ((s.lfSet l XCH_INT_STAT_DIS 1).laneEvt l 0x5001 [(1, l.idx), (1, i)])
  else .next s

/-- INPUT_DISAGREEMENT_CLEAR: DIS_LIM consecutive agreeing cycles clear the flag (R136). -/
def execInputDisagreementClear (l : LaneId) (i : Nat) (s : State) : Host.Outcome State Fault Refusal :=
  if s.ticking l && decide (i < 32) && decide (s.lf l XCH_CFG_DIS_LIM ≤ mapGet 0 (s.lane l).xch.agreeRun i)
      && bitOf (s.lf l XCH_DIS_IN) i then
    .next ((s.lfSet l XCH_DIS_IN (setBit (s.lf l XCH_DIS_IN) i false)).laneEvt l 0x5002 [(1, l.idx), (1, i)])
  else .next s

/-! ### Placement of channels -/

/-- PLACE as lane `l` sees it: of the shadow set while the channel is disabled (R253). -/
def State.pdePlace (s : State) (l : LaneId) (c : Nat) : Nat :=
  if s.hf (PDE_CFG_MODE c) = 0 then s.lf l (PDE_SH_CFG_PLACE c) else s.hf (PDE_CFG_PLACE c)

end Sys2Proof.Machine
end

