-- ==== Sys2Proof/Machine/Pde.lean ====
section
/-! DEFINITION. The process data engine (09): cyclic channels, descriptor chains, rings, completion queues and the ARM
commit. -/

namespace Sys2Proof.Machine

/-! ### Channels -/

/-- Channels 0 to 191. -/
def pdeChannels : List Nat := List.range 192

/-- Channel `c` beyond its registers. -/
def State.chan (s : State) (c : Nat) : Chan := mapGet {} s.pde.chans c

/-- Replace what a channel holds beyond its registers. -/
def State.chanSet (s : State) (c : Nat) (x : Chan) : State :=
  { s with pde := { s.pde with chans := mapSet {} s.pde.chans c x } }

/-- Change what a channel holds beyond its registers. -/
def State.chanUpd (s : State) (c : Nat) (f : Chan → Chan) : State := s.chanSet c (f (s.chan c))

/-- PDE_STAT.STATE of a channel. -/
def State.pdeState (s : State) (c : Nat) : Nat := s.hf (PDE_STAT_STATE c)

/-- Set PDE_STAT.STATE. -/
def State.pdeStateSet (s : State) (c n : Nat) : State := s.hfSet (PDE_STAT_STATE c) n

/-- A placement code names lane `l`: 0 all lanes, 1 A, 2 B, 3 C (R253). -/
def placeHas (place : Nat) (l : LaneId) : Bool := place == 0 || place == l.idx + 1

/-- The lane of a single-lane channel. -/
def placeLane (place : Nat) : LaneId := laneOf (place - 1)

/-- Lane `l` may write the register block of channel `c` (R253). -/
def State.pdeMay (s : State) (l : LaneId) (c : Nat) : Bool := decide (c < 192) && placeHas (s.pdePlace l c) l

/-- Report object `(X+1):j` or `(X+2):j` of a channel. -/
def chanObj (c k : Nat) : Nat := 0x2000 + 16 * c + k

/-! ### Inbound accesses (01 R31, 04 R117) -/

/-- The link of lane `l` carries transactions. -/
def State.linkUp (s : State) (l : LaneId) : Bool :=
  s.hub.supplied && (s.lane l).supplied && decide (s.lf l BRG_STATUS_LINK_UP = 1)

/-- The bytes `off` to `off + n − 1` meet a sealed bank of lane `l`: the bank of the running cycle from the end of L on. -/
def State.sealedHit (s : State) (l : LaneId) (off n : Nat) : Bool :=
  (s.lane l).xch.sealed && (s.ventries l).any (fun e =>
    let b := bankOff e (s.frame l)
    decide (off < b + e.size) && decide (b < off + n))

/-- Writes that `n` bytes from `off` on take on the link: at most 64 bytes of one aligned block each. -/
def inboundWrites (off n : Nat) : Nat := (off + n - 1) / 64 - off / 64 + 1

/-- The lane end refuses an inbound access outside the exchange area: it is counted, and an error response goes to the hub (01 R31). -/
def State.inboundRefused (s : State) (l : LaneId) (off : Nat) : State :=
  ((s.lcount l BRG_CNT_INB 1).lfSet l BRG_INT_STAT_INB 1).emit .bridgeError l.idx off [2]

/-- An inbound write of the hub: outside the exchange area it is refused; to a sealed bank it is discarded and counted without an
error; the status is that of 10 R298. -/
def State.inbound (s : State) (l : LaneId) (off : Nat) (bs : List Byte) : State × Nat :=
  if bs = [] || !s.linkUp l then (s, 0)
  else if exchangeSize < off + bs.length then (s.inboundRefused l off, 2)
  else if s.sealedHit l off bs.length then
    ((s.lcount l XCH_CNT_SEAL (inboundWrites off bs.length)).lfSet l XCH_INT_STAT_SEAL 1, 0)
  else (s.lmemSet l (exchangeBase + off) bs, 0)

/-- `n` bytes of the exchange area, as the lane's cores stored them last (R265). -/
def State.outbound (s : State) (l : LaneId) (off n : Nat) : List Byte := s.lmem l (exchangeBase + off) n

/-- The bytes of a store at lane address `a` that lie in no aligned 8-byte word of `n` bytes from `b` on. -/
def outsideWords (a : Nat) (bs : List Byte) (b n : Nat) : List (Nat × Byte) :=
  (bs.zipIdx.map (fun p => (a + p.2, p.1))).filter (fun p => decide (p.1 / 8 < b / 8) || decide ((b + n - 1) / 8 < p.1 / 8))

/-- Write single bytes into the memory of lane `l`. -/
def State.lmemCells (s : State) (l : LaneId) (bs : List (Nat × Byte)) : State :=
  s.updLane l (fun x => { x with mem := memWriteCells x.mem bs })

/-- INBOUND_WRITE: a hub write to a lane is performed in the exchange area, or discarded (01 R31, 04 R117). `race` is a store of a
core to the exchange area in the same clock (lane address, bytes): each aligned word that both reach is written whole by the one that
passes the arbiter last, the core's when the flag is set (01 R36). -/
def execInboundWrite (l : LaneId) (off : Nat) (bs : List Byte) (race : Option (Nat × List Byte × Bool)) (s : State) :
    Host.Outcome State Fault Refusal :=
  let bs := bs.take 64
  match race with
  | none => .next (s.inbound l off bs).1
  | some (a, cs, coreLast) =>
    let cs := cs.take 8
    let a := exchangeBase + (a - exchangeBase) % exchangeSize
    let t := (s.inbound l off bs).1
    let lands := (s.lane l).supplied && s.linkUp l && decide (off + bs.length ≤ exchangeSize) && !s.sealedHit l off bs.length
      && bs ≠ []
    if !(s.lane l).supplied then .next s
    else if !lands then .next (t.lmemSet l a cs)
    else if coreLast then
      .next ((s.lmemCells l (outsideWords (exchangeBase + off) bs a cs.length)).lmemSet l a cs)
    else .next (t.lmemCells l (outsideWords a cs (exchangeBase + off) bs.length))

/-- INBOUND_READ: a hub read of the exchange area returns the lane's latest stores; outside the area it is refused and
counted (R265, 01 R31). -/
def execInboundRead (l : LaneId) (off n : Nat) (s : State) : Host.Outcome State Fault Refusal :=
  if !s.linkUp l then .next s
  else if exchangeSize < off + min n 64 then .next (s.inboundRefused l off)
  else .next (s.emit .bridge l.idx off (s.outbound l off (min n 64)))

/-! ### Counters and interrupt causes -/

/-- A cause of channel `c`'s interrupt. -/
def State.pdeInt (s : State) (c : Nat) (f : Nat → Fld) : State := s.hfSet (f c) 1

/-- An item was delivered or sent: PDE_CNT_ITEM and the report object (R281, R283). -/
def State.pdeCount (s : State) (c : Nat) : State := (s.hcount (PDE_CNT_ITEM c) 1).cntAdd (chanObj c 1) 2 1

/-- The frame of the last item delivered or fetched. -/
def State.pdeLast (s : State) (c frame : Nat) : State := s.hfSet (PDE_LAST_FRAME c) (frame % 2 ^ 32)

/-- An item was delivered; `frame` is its frame. -/
def State.pdeItemDone (s : State) (c frame : Nat) : State := (s.pdeCount c).pdeLast c frame

/-- The interrupt of an item in IRQM 0x2. -/
def State.pdeItemInt (s : State) (c : Nat) : State :=
  if s.hf (PDE_CFG_IRQM c) = 2 then s.pdeInt c PDE_INT_STAT_ITEM else s

/-- An item was superseded. -/
def State.pdeSupersede (s : State) (c : Nat) : State :=
  let s := s.hcount (PDE_CNT_DROP_SUPERSEDED c) 1
  (s.pdeInt c PDE_INT_STAT_DROP).cntAdd (chanObj c 1) 3 1

/-- An item was dropped. -/
def State.pdeDrop (s : State) (c : Nat) : State :=
  let s := s.hcount (PDE_CNT_DROP_DROPPED c) 1
  (s.pdeInt c PDE_INT_STAT_DROP).cntAdd (chanObj c 1) 3 1

/-! ### Cyclic input (R255 to R258) -/

/-- The bytes that form the item: the window of an Ethernet frame (R258), else the whole record; none when the frame ends
early. -/
def State.pdeSelect (s : State) (c : Nat) (raw : List Byte) : Option (List Byte) :=
  if s.hf (PDE_SRC_KIND c) = 1 then
    let off := s.hf (PDE_WIN_WIN_OFF c)
    let len := s.hf (PDE_WIN_WIN_LEN c)
    if raw.length < off + len then none
    else some (if len = 0 then raw.drop off else slice raw off len)
  else some raw

/-- The entry point of a channel's items with CHECK over the payload (04 R112). -/
def State.pdeItem (s : State) (c : Nat) (pl : List Byte) : Item := ⟨s.hf (PDE_SRC_KIND c), s.hf (PDE_SRC_PORT c), pl, crc32c pl⟩

/-- The lanes that an active placement names. -/
def State.pdeLanes (s : State) (c : Nat) : List LaneId := lanes.filter (fun l => placeHas (s.hf (PDE_CFG_PLACE c)) l)

/-- The bank of cycle `n` of a cyclic channel. -/
def State.pdeBank (s : State) (c n : Nat) : Nat := if n % 2 = 0 then s.hf (PDE_BANK0 c) else s.hf (PDE_BANK1 c)

/-- Write bytes into the exchange areas of several lanes. -/
def State.inboundAll (s : State) (ls : List LaneId) (off : Nat) (bs : List Byte) : State :=
  ls.foldl (fun s l => (s.inbound l off bs).1) s

/-- An item for a cyclic input channel: its payload is copied into the open bank of every lane placed, over an earlier one
of the same snapshot (R255, R256). -/
def State.cyclicArrive (s : State) (c : Nat) (raw : List Byte) : State :=
  if s.hf (PDE_CFG_MODE c) ≠ 1 || s.pdeState c ≠ 2 then s
  else match s.pdeSelect c raw with
    | none => s.hcount (PDE_CNT_ERR_SHORT c) 1
    | some pl =>
      let n := frameAdd s.hub.frame 1
      let s := s.inboundAll (s.pdeLanes c) (s.pdeBank c n + 16) (pl.take (s.hf (PDE_SIZE_SIZE c) - 16))
      let s := if (s.chan c).held.isSome then s.pdeSupersede c else s
      let it := s.pdeItem c pl
      s.chanUpd c (fun x => { x with held := some it })

/-- PDE_ITEM_ARRIVE: an item of a cyclic input channel has passed its receive checks. -/
def execPdeItemArrive (c : Nat) (raw : List Byte) (s : State) : Host.Outcome State Fault Refusal :=
  if !s.hub.supplied then .next s else .next (s.cyclicArrive c raw)

/-- The void tag of cycle n (R256). -/
def voidTag (n : Nat) : List Byte := tagBytes 0 0 0 0 ((n + 65535) % 65536)

/-- The tags of cycle `n` of one cyclic input channel: that of the delivered item, or the void tag. Copies to the lanes in
`late` are not complete by the end of L: they count as late, and the sealed bank discards them (R256, R257), one discarded write for
each copy (log entry 52). -/
def State.cyclicTag (s : State) (n c late : Nat) : State :=
  if s.hf (PDE_CFG_MODE c) ≠ 1 || s.pdeState c ≠ 2 then s
  else
    let x := s.chan c
    let tag := match x.held with
      | some it => tagBytes it.check it.kind it.payload.length it.port (n % 65536)
      | none => voidTag n
    let s := (s.pdeLanes c).foldl (fun s l =>
      if inSet late l then
        let s := s.hcount (PDE_CNT_ERR_LATE c) 1
        let s := (s.lcount l XCH_CNT_SEAL 1).lfSet l XCH_INT_STAT_SEAL 1
        (s.hubEvt 0x4301 [(1, c), (1, l.idx)]).cntAdd (chanObj c 1) 4 1
      else (s.inbound l (s.pdeBank c n) tag).1) s
    let s := s.chanUpd c (fun x => { x with held := none })
    -- an item that is late in every lane was delivered to none (R257)
    if x.held.isSome && !(s.pdeLanes c).all (inSet late) then (s.pdeItemDone c n).pdeItemInt c else s

/-- The tags of every cyclic input channel in ascending order; `late` lists (channel, lane set). -/
def State.snapshotTags (s : State) (n : Nat) (late : List (Nat × Nat)) : State :=
  pdeChannels.foldl (fun s c => s.cyclicTag n c (mapGet 0 late c)) s

/-! ### Sinks (R261, 11 R537, 12 R344) -/

/-- The bytes that a frame of originated stream `h` has beside its item (11 R537). -/
def State.streamExtra (s : State) (h : Nat) : Nat :=
  let i := 0x3200 + h
  let tag := if s.obj i 10 = 1 then 6 else 0
  if s.obj i 6 = 0 then 14 + (if s.obj i 2 = 0 then 0 else 4) + 4 + tag
  else (s.objBytes i 11).length + 40 + 4 + tag

/-- The largest item that a channel's sink accepts (11 R537, R331; 12 R344). -/
def State.sinkMax (s : State) (c : Nat) : Nat :=
  match s.hf (PDE_SRC_KIND c) with
  | 1 =>
    let h := s.hf (PDE_SRC_SRC_ID c) % 512
    s.obj (0x3200 + h) 9 - s.streamExtra h
  | 2 => 80
  | 3 => bitsOf (s.obj 0x3110 (s.hf (PDE_SRC_PORT c))) 31 16
  | _ => 0

/-- Data bytes that a DLC codes (ISO 11898-1, in an FD frame or a classical one). -/
def dlcLen (fd : Bool) (dlc : Nat) : Nat :=
  if dlc ≤ 8 then dlc
  else if !fd then 8
  else match dlc with
    | 9 => 12 | 10 => 16 | 11 => 20 | 12 => 24 | 13 => 32 | 14 => 48 | _ => 64

/-- The controller of channel `ch` takes a transmit item (12 R344). -/
def State.canItemOk (s : State) (ch : Nat) (b : List Byte) : Bool :=
  let id := leAt b 0 4
  let fdf := bitOf (byteAt b 4) 4
  let brs := bitOf (byteAt b 4) 5
  decide (16 ≤ b.length) && decide (byteAt b 5 = dlcLen fdf (byteAt b 4 % 16)) && decide (b.length = 16 + byteAt b 5)
    && !(fdf && (decide (s.hf (CAN_CFG_FDE ch) = 0) || decide (s.hf (CAN_CFG_OPMODE ch) = 3)))
    && !(brs && !fdf) && !(!bitOf id 29 && decide (0x7FF < id % 2 ^ 29))
    && decide (leAt b 8 8 = 0) && decide (byteAt b 6 = 0) && decide (byteAt b 7 = 0)

/-! ### Descriptor chains (R262 to R269, R273) -/

/-- A descriptor (R262). -/
structure Desc where
  end_ : Bool
  ngen : Nat
  next : Nat
  gen : Nat
  irq : Bool
  len : Nat
  buf : Nat
  cookie : Nat
  deriving DecidableEq, Repr

/-- The lane of a queued or circular channel. -/
def State.pdeLane (s : State) (c : Nat) : LaneId := placeLane (s.hf (PDE_CFG_PLACE c))

/-- Read the descriptor at offset `p`. -/
def State.descAt (s : State) (c p : Nat) : Desc :=
  let b := s.outbound (s.pdeLane c) p 16
  let w0 := leAt b 0 4
  let w1 := leAt b 4 4
  ⟨bitOf w0 31, b2n (bitOf w0 30), w0 % 2 ^ 21, b2n (bitOf w1 31), bitOf w1 30, w1 % 2 ^ 24, leAt b 8 4 % 2 ^ 21, leAt b 14 2⟩

/-- Records that fit queue `q`. -/
def State.cqSize (s : State) (q : Nat) : Nat := 2 ^ s.hf (PDE_CQ_BASE_M q)

/-- Records of queue `q` not consumed yet. -/
def State.cqFill (s : State) (q : Nat) : Nat := (s.hf (PDE_CQ_HEAD q) + 2 ^ 32 - s.hf (PDE_CQ_TAIL q)) % 2 ^ 32

/-- Queue `q` is full (R274). -/
def State.cqFull (s : State) (q : Nat) : Bool := decide (s.cqSize q ≤ s.cqFill q)

/-- Channels in a queued mode that name queue `q` and run. -/
def State.cqUsers (s : State) (q : Nat) : List Nat :=
  pdeChannels.filter (fun c => (decide (s.hf (PDE_CFG_MODE c) = 3) || decide (s.hf (PDE_CFG_MODE c) = 4))
    && decide (s.hf (PDE_CFG_CQ c) = q))

/-- A queue has become full: its channels stall (R274). -/
def State.cqStall (s : State) (q : Nat) : State :=
  let s := s.hfSet (PDE_CQ_STAT_FULL q) 1
  let us := (s.cqUsers q).filter (fun c => s.pdeState c = 2 || s.pdeState c = 3)
  let s := if us = [] then s else s.hcount (PDE_CQ_STAT_STALLS q) 1
  us.foldl (fun s c => (s.chanUpd c (fun x => { x with parked := decide (s.pdeState c = 3) })).pdeStateSet c 4) s

/-- Lane `l` owns queue `q`. -/
def State.cqOwned (s : State) (l : LaneId) (q : Nat) : Bool := decide (s.hf (PDE_CQ_BASE_OWNER q) = l.idx + 1)

/-- Write a completion record for the descriptor at `p` of channel `c` (R273); none once the lane has lost the queue with
its supply (R279). -/
def State.cqWrite (s : State) (c p cookie status xfer frameLo : Nat) (irq : Bool) : State :=
  let q := s.hf (PDE_CFG_CQ c)
  let h := s.hf (PDE_CQ_HEAD q)
  let m := s.hf (PDE_CQ_BASE_M q)
  let phase := 1 - h / 2 ^ m % 2
  let at_ := s.hf (PDE_CQ_BASE_BASE q) + 16 * (h % 2 ^ m)
  let l := s.pdeLane c
  if !s.cqOwned l q then s
  else
    let s := (s.inbound l (at_ + 4) (leBytes 4 (xfer % 2 ^ 24) ++ leBytes 4 p ++ leBytes 2 frameLo ++ leBytes 2 cookie)).1
    let s := (s.inbound l at_ (leBytes 4 (phase * 2 ^ 31 + status * 2 ^ 24 + c))).1
    let s := s.hfSet (PDE_CQ_HEAD q) ((h + 1) % 2 ^ 32)
    let s := if irq && decide (s.hf (PDE_CFG_IRQM c) = 1) then s.pdeInt c PDE_INT_STAT_CQ else s
    if s.cqFull q then s.cqStall q else s

/-- The descriptor at PDE_CUR ends with a status. -/
def State.descDone (s : State) (c status xfer frame : Nat) : State :=
  let p := s.hf (PDE_CUR c)
  let d := s.descAt c p
  (s.chanUpd c (fun x => { x with doneCur := true })).cqWrite c p d.cookie status xfer (frame % 65536) d.irq

/-- A descriptor error ends the chain until GO (R269). -/
def State.descError (s : State) (c p cookie code : Nat) (irq : Bool) : State :=
  let s := s.cqWrite c p cookie 3 0 (s.hub.frame % 65536) irq
  let s := s.pdeStateSet c 6
  let s := s.hfSet (PDE_STAT_ERR c) code
  let s := (s.hcount (PDE_CNT_ERR_DESC c) 1).pdeInt c PDE_INT_STAT_ERROR
  s.hubEvt 0x4302 [(1, c), (1, code)]

/-- The status of a queued output descriptor's checks (R267); 0 when it may be sent. -/
def State.outStatus (s : State) (c : Nat) (d : Desc) : Nat :=
  let l := s.pdeLane c
  let t := s.outbound l d.buf 16
  if d.len < 16 ∨ d.len < 16 + tagLen t then 5
  else if !tagOk t ∨ tagKind t ≠ 6 ∨ tagPort t ≠ l.idx ∨ crc32c (s.outbound l (d.buf + 16) (tagLen t)) ≠ tagCheck t then 4
  else if s.sinkMax c < tagLen t then 6
  else if s.hf (PDE_SRC_KIND c) = 2 ∧ !s.canItemOk (s.hf (PDE_SRC_PORT c)) (s.outbound l (d.buf + 16) (tagLen t)) then 7
  else 0

/-- The sink of an output channel is a CAN channel off the bus: meanwhile a queued channel consumes no descriptor (12 R349). -/
def State.sinkOff (s : State) (c : Nat) : Bool :=
  decide (s.hf (PDE_SRC_KIND c) = 2) && decide (4 ≤ s.hf (CAN_STAT_STATE (s.hf (PDE_SRC_PORT c))))

/-- What the engine does next with a chain. -/
inductive ChainAt
  /-- The descriptor at PDE_CUR is to be processed. -/
  | process
  /-- The link of the descriptor at PDE_CUR is to be read. -/
  | link
  /-- Nothing to follow: take a pending doorbell or park. -/
  | wait
  deriving DecidableEq, Repr

/-- The channel stalls on its full queue and remembers where it goes on (R274). -/
def State.chainStall (s : State) (c : Nat) (parked : Bool) : State :=
  (s.chanUpd c (fun x => { x with parked := parked })).pdeStateSet c 4

/-- Follow a chain (R264). Each turn consumes a completion slot, a doorbell or a link; the fuel covers a full queue. While the queue is
full the channel reads as stalled and starts nothing (R274). -/
def State.chain (c : Nat) : Nat → ChainAt → State → State
  | 0, _, s => s
  | k + 1, .wait, s =>
    if s.cqFull (s.hf (PDE_CFG_CQ c)) then s.chainStall c true
    else if s.hf (PDE_STAT_DB_PEND c) = 1 then State.chain c k .link (s.hfSet (PDE_STAT_DB_PEND c) 0)
    else s.pdeStateSet c 3
  | k + 1, .link, s =>
    let p := s.hf (PDE_CUR c)
    let d := s.descAt c p
    if s.cqFull (s.hf (PDE_CFG_CQ c)) then s.chainStall c false
    else if d.end_ || d.next = p then State.chain c k .wait s
    else if d.next % 16 ≠ 0 then s.descError c d.next 0 7 false
    else
      let e := s.descAt c d.next
      if e.gen = d.ngen then
        let s := (s.hfSet (PDE_CUR c) d.next).hfSet (PDE_STAT_EGEN c) d.ngen
        State.chain c k .process (s.chanUpd c (fun x => { x with doneCur := false }))
      else State.chain c k .wait s
  | k + 1, .process, s =>
    let d := s.descAt c (s.hf (PDE_CUR c))
    if s.cqFull (s.hf (PDE_CFG_CQ c)) then s.chainStall c false
    else if exchangeSize < d.buf + d.len then s.descError c (s.hf (PDE_CUR c)) d.cookie 8 d.irq
    else if s.hf (PDE_CFG_MODE c) = 3 then
      if d.len < 16 then s.descError c (s.hf (PDE_CUR c)) d.cookie 9 d.irq else s.pdeStateSet c 2
    else if s.sinkOff c then s.pdeStateSet c 2
    else
      let st := s.outStatus c d
      let s := s.pdeStateSet c 2
      if st = 0 then
        let l := s.pdeLane c
        let t := s.outbound l d.buf 16
        let it : Item := ⟨6, l.idx, s.outbound l (d.buf + 16) (tagLen t), tagCheck t⟩
        s.chanUpd c (fun x => { x with out := some it, onWire := false, retries := 0, cancel := false })
      else
        let s := if st = 7 then s.hcount (CAN_CNT_DROP_FORMAT (s.hf (PDE_SRC_PORT c))) 1 else s
        let s := s.descDone c st 0 s.hub.frame
        if s.pdeState c = 2 then State.chain c k .link s else s

/-- Turns that a chain can take in one command. -/
def chainFuel : Nat := 40000

/-- PDE_CTL.GO (R264). -/
def State.pdeGo (s : State) (c : Nat) : State :=
  let m := s.hf (PDE_CFG_MODE c)
  let st := s.pdeState c
  if !(st = 1 || st = 5 || st = 6) || m < 3 || 5 < m then s
  else if m = 5 then (s.pdeStateSet c 2).hfSet (PDE_STAT_ERR c) 0
  else
    let x := s.chan c
    let p := if x.fresh then s.hf (PDE_BANK0 c) else s.hf (PDE_CUR c)
    let g := if x.fresh then s.hf (PDE_SIZE_FIRST_GEN c) else s.hf (PDE_STAT_EGEN c)
    let s := (s.chanUpd c (fun x => { x with fresh := false })).hfSet (PDE_STAT_ERR c) 0
    let s := ((s.hfSet (PDE_CUR c) p).hfSet (PDE_STAT_EGEN c) g).pdeStateSet c 2
    if x.doneCur && !x.fresh then State.chain c chainFuel .link s
    else if (s.descAt c p).gen = g then State.chain c chainFuel .process s
    else State.chain c chainFuel .wait s

/-- A doorbell: a parked channel re-reads its link; an active one notes it; otherwise it is ignored (R264). -/
def State.pdeDoorbell (s : State) (c : Nat) : State :=
  if s.hf (PDE_CFG_MODE c) < 3 then s
  else match s.pdeState c with
  | 2 => s.hfSet (PDE_STAT_DB_PEND c) 1
  | 4 => s.hfSet (PDE_STAT_DB_PEND c) 1
  | 3 => State.chain c chainFuel .link ((s.hfSet (PDE_STAT_DB_PEND c) 0).pdeStateSet c 2)
  | _ => s

/-- After an abort PDE_CUR names the next descriptor that has not been processed, where the link of the last one already leads to it
(R275). -/
def State.pdeStopAt (s : State) (c : Nat) : State :=
  let p := s.hf (PDE_CUR c)
  let d := s.descAt c p
  if s.pdeState c ≠ 0 && (s.chan c).doneCur && !d.end_ && decide (d.next ≠ p) && d.next % 16 == 0 && decide ((s.descAt c d.next).gen = d.ngen) then
    let s := (s.hfSet (PDE_CUR c) d.next).hfSet (PDE_STAT_EGEN c) d.ngen
    (s.chanUpd c (fun x => { x with doneCur := false })).pdeStateSet c 5
  else if s.pdeState c = 0 then s
  else s.pdeStateSet c 5

/-- A queued channel goes on after its completion: stopped after an abort, stalled on a full queue, else along the chain. -/
def State.pdeGoOn (s : State) (c : Nat) : State :=
  if (s.chan c).abort then
    ((s.chanUpd c (fun x => { x with abort := false })).hfSet (PDE_CTL_ABORT c) 0).pdeStopAt c
  else if s.pdeState c = 2 then State.chain c chainFuel .link s
  else s

/-- The item of a queued output channel ends at its sink with a status (R267). -/
def State.outputDone (s : State) (c status : Nat) : State :=
  match (s.chan c).out with
  | none => s
  | some it =>
    let s := s.chanUpd c (fun x => { x with out := none, onWire := false, retries := 0, cancel := false })
    let s := if status = 0 then (s.pdeItemDone c s.hub.frame).pdeItemInt c else s
    (s.descDone c status (16 + it.payload.length) s.hub.frame).pdeGoOn c

/-- An output item has been sent: a queued one completes with status 0x0; a cyclic one is counted, and a newer one takes its place. -/
def State.outputSent (s : State) (c : Nat) : State :=
  if s.hf (PDE_CFG_MODE c) = 4 then s.outputDone c 0
  else (s.pdeCount c).chanUpd c (fun x => { x with out := x.newer, newer := none, onWire := false, retries := 0, cancel := false })

/-- QUEUED_OUTPUT_COMPLETE: the descriptor completes with the sink's status: 0x0, 0x7 or 0x8. -/
def execQueuedOutputComplete (c status : Nat) (s : State) : Host.Outcome State Fault Refusal :=
  if s.hub.supplied && decide (s.hf (PDE_CFG_MODE c) = 4) && (status = 0 || status = 7 || status = 8) then
    .next (s.outputDone c status)
  else .next s

/-- An item for a queued input channel (R266, R274). -/
def State.queuedArrive (s : State) (c : Nat) (raw : List Byte) : State :=
  if s.hf (PDE_CFG_MODE c) ≠ 3 || s.pdeState c < 2 then s
  else match s.pdeSelect c raw with
    | none => s.hcount (PDE_CNT_ERR_SHORT c) 1
    | some pl =>
      if s.pdeState c ≠ 2 then s.pdeDrop c
      else
        let n := frameAdd s.hub.frame 1
        let d := s.descAt c (s.hf (PDE_CUR c))
        let need := 16 + pl.length
        if d.len < need then ((s.pdeDrop c).descDone c 1 need n).pdeGoOn c
        else
          let it := s.pdeItem c pl
          let l := s.pdeLane c
          let s := (s.inbound l (d.buf + 16) pl).1
          let s := (s.inbound l d.buf (tagBytes it.check it.kind pl.length it.port (n % 65536))).1
          let s := (s.pdeItemDone c n).pdeItemInt c
          (s.descDone c 0 need n).pdeGoOn c

/-- QUEUED_INPUT_ITEM: an item is written into the next descriptor's buffer and completed. -/
def execQueuedInputItem (c : Nat) (raw : List Byte) (s : State) : Host.Outcome State Fault Refusal :=
  if !s.hub.supplied then .next s else .next (s.queuedArrive c raw)

/-! ### Circular input (R270, R271) -/

/-- Bytes of a circular channel's ring. -/
def State.ringBytes (s : State) (c : Nat) : Nat := 2 ^ (s.hf (PDE_SIZE_SIZE c) % 32)

/-- The fill of a ring. -/
def State.ringFill (s : State) (c : Nat) : Nat := (s.hf (PDE_WR c) + 2 ^ 32 - s.hf (PDE_RD c)) % 2 ^ 32

/-- Write bytes at a free-running count of a ring, across its end to its start. -/
def State.ringWrite (s : State) (c count : Nat) (bs : List Byte) : State :=
  let l := s.pdeLane c
  let base := s.hf (PDE_BANK0 c)
  let o := count % s.ringBytes c
  let room := s.ringBytes c - o
  let s := (s.inbound l (base + o) (bs.take room)).1
  (s.inbound l base (bs.drop room)).1

/-- An item of a circular channel: written as a record, payload first and tag last, or dropped (R270). -/
def State.circularArrive (s : State) (c : Nat) (raw : List Byte) : State :=
  if s.hf (PDE_CFG_MODE c) ≠ 5 || s.pdeState c ≠ 2 then s
  else match s.pdeSelect c raw with
    | none => s.hcount (PDE_CNT_ERR_SHORT c) 1
    | some pl =>
      let n := frameAdd s.hub.frame 1
      let len := 16 + (pl.length + 7) / 8 * 8
      let size := s.ringBytes c
      if size < s.ringFill c + len then s.pdeDrop c
      else
        let wr := s.hf (PDE_WR c)
        let it := s.pdeItem c pl
        let s := s.ringWrite c (wr + 16) (padTo (len - 16) pl)
        let s := s.ringWrite c wr (tagBytes it.check it.kind pl.length it.port (n % 65536))
        let s := s.hfSet (PDE_WR c) ((wr + len) % 2 ^ 32)
        let s := (s.pdeItemDone c n).pdeItemInt c
        if s.hf (PDE_CFG_IRQM c) = 3 then
          let o := wr % size
          let half := size / 2
          let s := if (o < half ∧ half ≤ o + len) ∨ size + half ≤ o + len then s.pdeInt c PDE_INT_STAT_HALF else s
          if size ≤ o + len then s.pdeInt c PDE_INT_STAT_FULL else s
        else s

/-- CIRCULAR_INPUT_ITEM. -/
def execCircularInputItem (c : Nat) (raw : List Byte) (s : State) : Host.Outcome State Fault Refusal :=
  if !s.hub.supplied then .next s else .next (s.circularArrive c raw)

/-- An item that an interface brings for channel `c`, by the channel's mode. -/
def State.itemFor (s : State) (c : Nat) (raw : List Byte) : State :=
  match s.hf (PDE_CFG_MODE c) with
  | 1 => s.cyclicArrive c raw
  | 3 => s.queuedArrive c raw
  | 5 => s.circularArrive c raw
  | _ => s

/-- A write of PDE_RD: one that would pass WR is ignored (R270). -/
def State.pdeRdWrite (s : State) (c v : Nat) : State :=
  if s.ringBytes c < (s.hf (PDE_WR c) + 2 ^ 32 - v % 2 ^ 32) % 2 ^ 32 then s else s.hfSet (PDE_RD c) v

/-! ### Completion queues (R272, R274) -/

/-- An armed channel names queue `q`. -/
def State.cqNamed (s : State) (q : Nat) : Bool := (s.cqUsers q).any (fun c => s.pdeState c ≠ 0)

/-- A write of PDE_CQ_BASE (R272): `none` when another lane owns the queue. -/
def State.cqBaseWrite (s : State) (l : LaneId) (q v : Nat) : Option State :=
  let m := bitsOf v 24 21
  let base := bitsOf v 20 0
  let owner := s.hf (PDE_CQ_BASE_OWNER q)
  if owner ≠ 0 ∧ !s.cqOwned l q then none
  else if m = 0 then
    if owner = 0 ∨ s.cqNamed q then some s
    else
      let s := s.hregSet (PDE_CQ_BASE q).reg 0
      let s := (s.hfSet (PDE_CQ_HEAD q) 0).hfSet (PDE_CQ_TAIL q) 0
      some (s.hfSet (PDE_CQ_STAT_FULL q) 0)
  else if m < 4 ∨ 12 < m ∨ s.cqNamed q ∨ base % (16 * 2 ^ m) ≠ 0 then some s
  else
    let s := s.hregSet (PDE_CQ_BASE q).reg (BitVec.ofNat 64 ((l.idx + 1) * 2 ^ 30 + m * 2 ^ 21 + base))
    let s := (s.hfSet (PDE_CQ_HEAD q) 0).hfSet (PDE_CQ_TAIL q) 0
    some (s.hfSet (PDE_CQ_STAT_FULL q) 0)

/-- Stalled channels of a queue with room go on. -/
def State.cqResume (s : State) (q : Nat) : State :=
  ((s.cqUsers q).filter (fun c => s.pdeState c = 4)).foldl (fun s c =>
    if s.cqFull q then s
    else if (s.chan c).parked then
      if s.hf (PDE_STAT_DB_PEND c) = 1 then State.chain c chainFuel .wait (s.pdeStateSet c 2) else s.pdeStateSet c 3
    else
      let s := s.pdeStateSet c 2
      if (s.chan c).out.isSome then s
      else if (s.chan c).doneCur then State.chain c chainFuel .link s
      else State.chain c chainFuel .process s) s

/-- A write of PDE_CQ_TAIL (R272): `none` when the lane does not own the queue; one that would pass HEAD is ignored. -/
def State.cqTailWrite (s : State) (l : LaneId) (q v : Nat) : Option State :=
  if !s.cqOwned l q then none
  else if s.cqSize q < (s.hf (PDE_CQ_HEAD q) + 2 ^ 32 - v % 2 ^ 32) % 2 ^ 32 then some s
  else
    let s := s.hfSet (PDE_CQ_TAIL q) v
    if s.cqFull q then some s else some ((s.hfSet (PDE_CQ_STAT_FULL q) 0).cqResume q)

/-! ### Abort (R275) -/

/-- ABORT on a channel. -/
def State.pdeAbort (s : State) (c : Nat) : State :=
  let m := s.hf (PDE_CFG_MODE c)
  let st := s.pdeState c
  if m = 5 then if st = 2 then s.pdeStateSet c 5 else s
  else if (m ≠ 3 ∧ m ≠ 4) ∨ !(st = 2 ∨ st = 3 ∨ st = 4 ∨ st = 1) then s
  else match (s.chan c).out with
    | some it =>
      if (s.chan c).onWire then
        ((s.chanUpd c (fun x => { x with abort := true })).hfSet (PDE_CTL_ABORT c) 1).hfSet (PDE_RESID c) 0
      else
        let d := s.descAt c (s.hf (PDE_CUR c))
        let x := 16 + it.payload.length
        let s := s.chanUpd c (fun x => { x with out := none, retries := 0, cancel := false })
        let s := s.hfSet (PDE_RESID c) (d.len - x)
        (s.descDone c (if s.hf (PDE_SRC_KIND c) = 2 then 8 else 2) x s.hub.frame).pdeStopAt c
    | none => (s.hfSet (PDE_RESID c) 0).pdeStopAt c

/-! ### Cyclic output (R259, R260) -/

/-- A lane's copy of an output for cycle `n` that passes the checks, as an item (R260). -/
def State.outCopy (s : State) (c n : Nat) (l : LaneId) : Option Item :=
  let b := s.pdeBank c n
  let t := s.outbound l b 16
  let pl := s.outbound l (b + 16) (tagLen t)
  if s.linkUp l && decide (tagFrameLo t = n % 65536) && tagOk t && decide (tagKind t = 6) && decide (tagPort t = l.idx)
      && decide (16 + tagLen t ≤ s.hf (PDE_SIZE_SIZE c)) && decide (crc32c pl = tagCheck t) then
    some ⟨6, l.idx, pl, tagCheck t⟩
  else none

/-- The candidate lanes of a cyclic output channel, in the order A, B, C (R260). -/
def State.outLanes (s : State) (c : Nat) : List LaneId :=
  let p := s.hf (PDE_CFG_PLACE c)
  if s.md.mode = .split then
    let l := if p = 0 then laneOf (s.hf (PDE_CFG_SPOWN c)) else placeLane p
    if inSet s.v1.disregarded l then [] else [l]
  else lanes.filter (fun l => placeHas p l && inSet (s.hf VOT_V1_STATUS_MEMBERS) l)

/-- A fetched item becomes the channel's item at its sink: it supersedes one not started, and waits beside one on the wire of
a CAN channel (R261, 12 R343); a CAN item that the controller refuses is counted (12 R344). -/
def State.sinkPut (s : State) (c : Nat) (it : Item) : State :=
  let ch := s.hf (PDE_SRC_PORT c)
  if s.hf (PDE_SRC_KIND c) = 2 ∧ !s.canItemOk ch it.payload then s.hcount (CAN_CNT_DROP_FORMAT ch) 1
  else
    let x := s.chan c
    if x.onWire then
      let s := if x.newer.isSome then s.pdeSupersede c else s
      s.chanUpd c (fun x => { x with newer := some it })
    else
      let s := if x.out.isSome then s.pdeSupersede c else s
      s.chanUpd c (fun x => { x with out := some it, retries := 0, cancel := false })

/-- The fetch of one channel for cycle `n` (R260). -/
def State.fetchOne (s : State) (n c : Nat) : State :=
  if s.hf (PDE_CFG_MODE c) ≠ 2 || s.pdeState c ≠ 2 then s
  else
    let cs := (s.outLanes c).filterMap (s.outCopy c n)
    let s := if s.hf (PDE_CFG_COMPARE c) = 1 && cs.any (fun i => cs.any (fun j => decide (i.check ≠ j.check))) then
        s.hcount (PDE_CNT_DIFF c) 1
      else s
    match cs with
    | [] => s
    | it :: _ =>
      if it.payload = [] then s else ((s.sinkPut c it).pdeLast c n).pdeItemInt c

/-- The fetch of cycle `n`. -/
def State.fetchAll (s : State) (n : Nat) : State :=
  pdeChannels.foldl (fun s c => s.fetchOne n c) { s with pde := { s.pde with fetched := true } }

/-- PDE_VDONE_WRITE: a lane rings after its output banks; when every member has rung, the engine fetches (R259, R260). -/
def State.vdoneWrite (s : State) (l : LaneId) (v : Nat) : State :=
  let n := s.hub.frame
  if v % 65536 ≠ n % 65536 then s.hcount PDE_GCNT_VDONE_BAD 1
  else
    let s := { s with pde := { s.pde with vdone := nOr s.pde.vdone (2 ^ l.idx) } }
    let ms := s.hf VOT_V1_STATUS_MEMBERS
    if !s.pde.fetched && s.pde.armed && decide (ms ≠ 0) && decide (nAndNot ms s.pde.vdone = 0) then s.fetchAll n else s

def execPdeVdoneWrite (l : LaneId) (v : Nat) (s : State) : Host.Outcome State Fault Refusal :=
  if !s.hub.supplied then .next s else .next (s.vdoneWrite l v)

/-- PDE_FETCH_CUTOFF: at edge n + 1 − 20 µs the engine fetches without waiting (R260). -/
def execPdeFetchCutoff (s : State) : Host.Outcome State Fault Refusal :=
  if !s.hub.supplied || s.pde.fetched || !s.pde.armed then .next s
  else
    let n := s.hub.frame
    let s := onLanes (fun l s =>
      if inSet (s.hf VOT_V1_STATUS_MEMBERS) l && !inSet s.pde.vdone l then
        (s.hcount PDE_GCNT_VDONE_MISS 1).hubEvt 0x4304 [(1, l.idx), (6, n)]
      else s) s
    .next (s.fetchAll n)

/-! ### The ARM commit (R276, R277) -/

/-- The shadow set of a channel on a lane: six register values. -/
def State.shadowSet (s : State) (l : LaneId) (c : Nat) : List Nat :=
  [PDE_SH_CFG c, PDE_SH_SRC c, PDE_SH_WIN c, PDE_SH_BANK0 c, PDE_SH_BANK1 c, PDE_SH_SIZE c].map
    (fun f => (s.lreg l f.reg).toNat)

/-- Sources and sinks that exist (R281, 11 R332, 12 R343, 13 R374, 16 R446). -/
def srcOk (c mode src : Nat) : Bool :=
  let kind := bitsOf src 31 24
  let port := bitsOf src 23 16
  let id := bitsOf src 15 0
  let inp := mode == 1 || mode == 3 || mode == 5
  match kind with
  | 1 => decide (id < 512) && (if inp then decide (port ≤ 11) else port == 12)
  | 2 => decide (port ≤ 7) && (if inp then decide (id ≤ 63) else decide (64 ≤ id) && decide (id ≤ 95))
  | 3 => decide (1 ≤ port) && decide (port ≤ 16) && id == 0
  | 7 => port == c && mode == 1 && ((id == 0x10 && c == 191) || id == 0x100 || (decide (0x200 ≤ id) && decide (id ≤ 0x3FF)))
  | _ => false

/-- The error code of a channel set (R269, R276, R281), 0 when it is valid; `owns q` says whether the channel's lane owns a
queue, `taken` whether another channel has the mailbox. -/
def setError (c : Nat) (owns : LaneId → Nat → Bool) (taken : Bool) (v : List Nat) : Nat :=
  let cfg := v.getD 0 0
  let src := v.getD 1 0
  let win := v.getD 2 0
  let b0 := v.getD 3 0
  let b1 := v.getD 4 0
  let sz := v.getD 5 0
  let mode := bitsOf cfg 31 28
  let place := bitsOf cfg 27 26
  let size := bitsOf sz 20 0
  let k := size % 32
  if mode = 0 then 0
  else if 5 < mode ∨ (place = 0 ∧ 2 < mode) ∨ bitsOf cfg 25 24 = 3 ∨ 3 < bitsOf cfg 15 12
      ∨ (bitsOf cfg 15 12 = 3 ∧ mode ≠ 5) ∨ !srcOk c mode src ∨ taken then 1
  else if (bitsOf src 31 24 ≠ 1 ∨ mode = 2 ∨ mode = 4) ∧ win ≠ 0 then 4
  else if 1536 < bitsOf win 31 16 + bitsOf win 15 0 then 4
  else if mode ≤ 2 then
    if size < 16 ∨ 0x100000 < size ∨ size % 8 ≠ 0 ∨ bitOf sz 31 ∨ exchangeSize < b0 + size ∨ exchangeSize < b1 + size then 3
    else if b0 % 8 ≠ 0 ∨ b1 % 8 ≠ 0 ∨ (b0 < b1 + size ∧ b1 < b0 + size) then 2
    else 0
  else if b1 ≠ 0 then 2
  else if mode = 5 then
    if size ≠ k ∨ k < 8 ∨ 20 < k ∨ bitOf sz 31 then 3
    else if b0 % 2 ^ k ≠ 0 ∨ exchangeSize < b0 + 2 ^ k then 2
    else 0
  else if size ≠ 0 then 3
  else if b0 % 16 ≠ 0 then 2
  else if !owns (placeLane place) (bitsOf cfg 20 16) then 10
  else 0

/-- The parts of the exchange area that a channel set writes or reads itself: two banks, or a ring. -/
def setAreas (v : List Nat) : List (Nat × Nat) :=
  let mode := bitsOf (v.getD 0 0) 31 28
  let size := bitsOf (v.getD 5 0) 20 0
  if mode = 1 ∨ mode = 2 then [(v.getD 3 0, size), (v.getD 4 0, size)]
  else if mode = 5 then [(v.getD 3 0, 2 ^ (size % 32))]
  else []

/-- Two channel sets on a common lane overlap in its exchange area. -/
def setsClash (v w : List Nat) : Bool :=
  let p := bitsOf (v.getD 0 0) 27 26
  let q := bitsOf (w.getD 0 0) 27 26
  (p == 0 || q == 0 || p == q)
    && (setAreas v).any (fun a => (setAreas w).any (fun b => decide (a.1 < b.1 + b.2) && decide (b.1 < a.1 + a.2)))

/-- The set that a channel has from the next edge on; none while one of its shadow sets is still to be judged. -/
def State.comingSet (s : State) (c : Nat) : Option (List Nat) :=
  match (s.chan c).next with
  | some v => some v
  | none =>
    if lanes.any (fun l => s.lf l (PDE_ARM c) = 1) then none
    else some ([PDE_CFG c, PDE_SRC c, PDE_WIN c, PDE_BANK0 c, PDE_BANK1 c, PDE_SIZE c].map (fun f => (s.hreg f.reg).toNat))

/-- Another armed channel is bound to the same CAN mailbox (12 R343). -/
def State.mailboxTaken (s : State) (c src : Nat) : Bool :=
  bitsOf src 31 24 == 2 && pdeChannels.any (fun d => d != c && s.hf (PDE_CFG_MODE d) != 0
    && (s.hreg (PDE_SRC d).reg).toNat == src)

/-- The error code of a shadow set in the present state. -/
def State.shadowError (s : State) (c : Nat) (v : List Nat) : Nat :=
  let e := setError c (fun l q => s.cqOwned l q) (s.mailboxTaken c (v.getD 1 0)) v
  if e ≠ 0 then e
  else if bitsOf (v.getD 0 0) 31 28 ≠ 0
      && pdeChannels.any (fun d => d != c && (match s.comingSet d with | some w => setsClash v w | none => false)) then 2
  else 0

/-- The lanes that have set ARM on a channel. -/
def State.armSet (s : State) (c : Nat) : Nat := laneSet (fun l => decide (s.lf l (PDE_ARM c) = 1))

/-- An ARM fails: it clears with an error code (R276, R277). -/
def State.armFail (s : State) (c code : Nat) : State :=
  let s := onLanes (fun l s => s.lfSet l (PDE_ARM c) 0) s
  let s := (s.hfSet (PDE_STAT_ARM_ERR c) 1).hfSet (PDE_STAT_ERR c) code
  let s := (s.pdeInt c PDE_INT_STAT_ARM_ERR).chanUpd c (fun x => { x with armWait := 0 })
  s.hubEvt 0x4305 [(1, c), (1, code)]

/-- Every lane that an ARM of this channel needs has armed an identical set. -/
def State.armMatched (s : State) (c : Nat) : Option (List Nat) :=
  match lanes.find? (fun l => inSet (s.armSet c) l) with
  | none => none
  | some l =>
    let v := s.shadowSet l c
    let p := s.pdePlace l c
    if p ≠ 0 then if placeHas p l then some v else none
    else if lanes.all (fun k => !s.linkUp k || (inSet (s.armSet c) k && decide (s.shadowSet k c = v))) then some v
    else none

/-- An ARM has been unmatched for 16 edges (R277): error 0x05 where the sets differ, else 0x06. -/
def State.armUnmatched (s : State) (c : Nat) : State :=
  if 16 ≤ (s.chan c).armWait && decide (s.armSet c ≠ 0) && (s.armMatched c).isNone then
    let ls := lanes.filter (fun l => inSet (s.armSet c) l)
    let diff := ls.any (fun l => ls.any (fun k => decide (s.shadowSet l c ≠ s.shadowSet k c)))
    s.armFail c (if diff then 5 else 6)
  else s

/-- The sample of ARM of one channel at edge − 2 µs (R276). -/
def State.armSample (s : State) (c : Nat) : State :=
  if s.armSet c = 0 then s.chanUpd c (fun x => { x with armWait := 0 })
  else match s.armMatched c with
    | some v =>
      let e := s.shadowError c v
      if e = 0 then s.chanUpd c (fun x => { x with next := some v, armWait := 0 }) else s.armFail c e
    | none => (s.chanUpd c (fun x => { x with armWait := x.armWait + 1 })).armUnmatched c

/-- PDE_ARM_SAMPLE: the engine validates armed shadow sets; valid ones become active at the edge. -/
def execPdeArmSample (s : State) : Host.Outcome State Fault Refusal :=
  if !s.hub.supplied then .next s else .next (pdeChannels.foldl (fun s c => s.armSample c) s)

/-- PDE_ARM_UNMATCHED: an ARM unmatched for 16 edges clears with an error. -/
def execPdeArmUnmatched (c : Nat) (s : State) : Host.Outcome State Fault Refusal :=
  if s.hub.supplied && decide (c < 192) then .next (s.armUnmatched c) else .next s

/-- The state of a channel with a valid setting while the channels are armed (R278). -/
def armedState (mode : Nat) : Nat := if mode = 0 then 0 else if mode ≤ 2 then 2 else 1

/-- A channel takes a new setting at edge `m` (R276). -/
def State.activate (s : State) (m c : Nat) (v : List Nat) : State :=
  let old := s.hf (PDE_CFG_MODE c)
  let s := if 3 ≤ old then s.pdeAbort c else s
  let s := if old = 2 && (s.chan c).out.isSome && !(s.chan c).onWire then s.pdeSupersede c else s
  let regs := [PDE_CFG c, PDE_SRC c, PDE_WIN c, PDE_BANK0 c, PDE_BANK1 c, PDE_SIZE c]
  let s := (regs.zip v).foldl (fun s p => s.hregSet p.1.reg (BitVec.ofNat 64 p.2)) s
  let x := s.chan c
  let s := s.chanSet c { fresh := true, out := if x.onWire then x.out else none, onWire := x.onWire, cancel := x.cancel }
  let s := (s.hfSet (PDE_STAT c) 0).hfSet (PDE_CTL_ABORT c) 0
  let s := s.hfSet (PDE_CUR c) (v.getD 3 0)
  let s := ((s.hfSet (PDE_WR c) 0).hfSet (PDE_RD c) 0).hfSet (PDE_ARM_FRAME c) (m % 2 ^ 32)
  let s := onLanes (fun l s => s.lfSet l (PDE_ARM c) 0) s
  let mode := bitsOf (v.getD 0 0) 31 28
  if s.pde.armed || (c = 191 && s.pde.relayArmed) then s.pdeStateSet c (armedState mode) else s

/-- The commits that are due become active at hub edge `m`. -/
def State.activateAll (s : State) (m : Nat) : State :=
  pdeChannels.foldl (fun s c => match (s.chan c).next with
    | some v => s.activate m c v
    | none => s) s

/-- Channel 191 while it is armed: the fixed setting of 16 R446. -/
def relaySet : List Nat := [0x10000000, 0x07BF0010, 0, 0x1FFC00, 0x1FFE00, 0x158]

/-- Arm channel 191 at the first edge of START, or disarm it in closing step C3 (16 R446). -/
def State.relayArm (s : State) (on : Bool) : State :=
  let s := { s with pde := { s.pde with relayArmed := on } }
  if on then s.activate s.hub.frame 191 relaySet else s.pdeStateSet 191 0

/-- At the edge that enters a mode: every committed channel becomes armed in SAFE-3, SAFE-2 and SPLIT, and disarmed in any
other mode, after an abort of queued and circular ones (R278). -/
def State.armAll (s : State) (on : Bool) : State :=
  let s := { s with pde := { s.pde with armed := on, vdone := 0, fetched := false } }
  pdeChannels.foldl (fun s c =>
    let m := s.hf (PDE_CFG_MODE c)
    if c = 191 then s
    else if on then
      (s.chanUpd c (fun x => { x with held := none })).pdeStateSet c (armedState m)
    else
      let s := if 3 ≤ m then s.pdeAbort c else s
      (s.chanUpd c (fun x => { x with held := none, out := if x.onWire then x.out else none })).pdeStateSet c 0) s

/-- The supply of lane `l` is removed (R279): its queued and circular channels stop without a completion, and its queues are
released. -/
def State.pdeLaneOff (s : State) (l : LaneId) : State :=
  if !s.hub.supplied then s
  else
    let s := pdeChannels.foldl (fun s c =>
      if 3 ≤ s.hf (PDE_CFG_MODE c) && s.hf (PDE_CFG_PLACE c) = l.idx + 1 then
        (s.chanUpd c (fun x => { x with out := if x.onWire then x.out else none, held := none })).pdeStateSet c 0
      else s) s
    (List.range 32).foldl (fun s q =>
      if s.cqOwned l q then
        let s := s.hregSet (PDE_CQ_BASE q).reg 0
        let s := (s.hfSet (PDE_CQ_HEAD q) 0).hfSet (PDE_CQ_TAIL q) 0
        s.hfSet (PDE_CQ_STAT_FULL q) 0
      else s) s

end Sys2Proof.Machine
end

