-- ==== Sys2Proof/Machine/LinkEnd.lean ====
section
/-! DEFINITION. The lane end of the lane-hub link (10 R287 to R289): its books, its write queue and the write-combining
buffers. -/

namespace Sys2Proof.Machine

/-- Change the lane end's record. -/
def State.brgUpd (s : State) (l : LaneId) (f : LaneBrg → LaneBrg) : State := s.updLane l (fun x => { x with brg := f x.brg })

/-- BRG_STATUS shows the outstanding writes, busy tags and quarantined tags. -/
def State.brgShow (s : State) (l : LaneId) : State :=
  let b := (s.lane l).brg
  let s := s.lfSet l BRG_STATUS_WR_OUT b.writes.length
  let s := s.lfSet l BRG_STATUS_QUAR b.quar.length
  s.lfSet l BRG_STATUS_TAGS (b.reads.filter (fun r => r.tag.isSome)).length

/-- Put a write into the lane end's queue (R289): issued while the link is up and fewer than 32 are outstanding. -/
def State.writeEnter (s : State) (l : LaneId) (w : PendWrite) : State :=
  let b := (s.lane l).brg
  if s.linkUp l && b.waiting.isEmpty && decide (b.writes.length < 32) then
    let s := s.brgUpd l (fun x => { x with writes := x.writes ++ [w] })
    (s.lfSet l BRG_WISSUED (s.lf l BRG_WISSUED + 1)).brgShow l
  else s.brgUpd l (fun x => { x with waiting := x.waiting ++ [w] })

/-- Close a core's write-combining buffer and issue it as one write (R287). -/
def State.wcIssue (s : State) (l : LaneId) (core : Nat) : State :=
  match mapFind (s.lane l).brg.wc core with
  | some ((a, b) :: bs) =>
    let s := s.brgUpd l (fun x => { x with wc := mapErase x.wc core })
    s.writeEnter l ⟨core, 0, a, (a, b) :: bs, false⟩
  | _ => s

/-- A value that takes effect at the next edge (04, 15 R420). -/
def State.setDueReg (s : State) (l : LaneId) (reg v : Nat) : State :=
  s.updLane l (fun x => { x with tick := { x.tick with dueRegs := mapInsert (mapErase x.tick.dueRegs reg) reg v } })

/-- Bytes at consecutive addresses. -/
def bytesAt (a : Nat) (bs : List Byte) : List (Nat × Byte) := bs.zipIdx.map (fun p => (a + p.2, p.1))

/-- The aligned 64-byte blocks that bytes fall into, `fuel` of them at most. -/
def splitBlocks : Nat → List (Nat × Byte) → List (List (Nat × Byte))
  | 0, _ => []
  | _, [] => []
  | n + 1, (a, b) :: bs =>
    let (mine, rest) := ((a, b) :: bs).span (fun p => decide (p.1 / 64 = a / 64))
    mine :: splitBlocks n rest

/-- A core writes bytes to hub memory: they go onto the link as combined writes of one aligned block each (R287, R289). -/
def State.bridgeWrite (s : State) (l : LaneId) (core a : Nat) (bs : List Byte) : State :=
  (splitBlocks bs.length (bytesAt a bs)).foldl (fun s w =>
    match w with
    | (a, b) :: r => s.writeEnter l ⟨core, 0, a, (a, b) :: r, false⟩
    | [] => s) s

end Sys2Proof.Machine
end

