-- ==== Sys2Proof/Machine/Crypto.lean ====
section
/-! DEFINITION. SHA-256, SHA-512 (FIPS 180-4) and HMAC-SHA-256 (RFC 2104), which the spec names by their standards
(00, checks; 07 R211; 16 R442; 17 R469; log entry 30). -/

namespace Sys2Proof.Machine

/-! ### SHA-512 -/

/-- Constants 0 to 15 of the table. -/
def k512_0 : List (BitVec 64) := [
  0x428A2F98D728AE22, 0x7137449123EF65CD, 0xB5C0FBCFEC4D3B2F, 0xE9B5DBA58189DBBC,
  0x3956C25BF348B538, 0x59F111F1B605D019, 0x923F82A4AF194F9B, 0xAB1C5ED5DA6D8118,
  0xD807AA98A3030242, 0x12835B0145706FBE, 0x243185BE4EE4B28C, 0x550C7DC3D5FFB4E2,
  0x72BE5D74F27B896F, 0x80DEB1FE3B1696B1, 0x9BDC06A725C71235, 0xC19BF174CF692694]

/-- Constants 16 to 31 of the table. -/
def k512_1 : List (BitVec 64) := [
  0xE49B69C19EF14AD2, 0xEFBE4786384F25E3, 0xFC19DC68B8CD5B5, 0x240CA1CC77AC9C65,
  0x2DE92C6F592B0275, 0x4A7484AA6EA6E483, 0x5CB0A9DCBD41FBD4, 0x76F988DA831153B5,
  0x983E5152EE66DFAB, 0xA831C66D2DB43210, 0xB00327C898FB213F, 0xBF597FC7BEEF0EE4,
  0xC6E00BF33DA88FC2, 0xD5A79147930AA725, 0x6CA6351E003826F, 0x142929670A0E6E70]

/-- Constants 32 to 47 of the table. -/
def k512_2 : List (BitVec 64) := [
  0x27B70A8546D22FFC, 0x2E1B21385C26C926, 0x4D2C6DFC5AC42AED, 0x53380D139D95B3DF,
  0x650A73548BAF63DE, 0x766A0ABB3C77B2A8, 0x81C2C92E47EDAEE6, 0x92722C851482353B,
  0xA2BFE8A14CF10364, 0xA81A664BBC423001, 0xC24B8B70D0F89791, 0xC76C51A30654BE30,
  0xD192E819D6EF5218, 0xD69906245565A910, 0xF40E35855771202A, 0x106AA07032BBD1B8]

/-- Constants 48 to 63 of the table. -/
def k512_3 : List (BitVec 64) := [
  0x19A4C116B8D2D0C8, 0x1E376C085141AB53, 0x2748774CDF8EEB99, 0x34B0BCB5E19B48A8,
  0x391C0CB3C5C95A63, 0x4ED8AA4AE3418ACB, 0x5B9CCA4F7763E373, 0x682E6FF3D6B2B8A3,
  0x748F82EE5DEFB2FC, 0x78A5636F43172F60, 0x84C87814A1F0AB72, 0x8CC702081A6439EC,
  0x90BEFFFA23631E28, 0xA4506CEBDE82BDE9, 0xBEF9A3F7B2C67915, 0xC67178F2E372532B]

/-- Constants 64 to 79 of the table. -/
def k512_4 : List (BitVec 64) := [
  0xCA273ECEEA26619C, 0xD186B8C721C0C207, 0xEADA7DD6CDE0EB1E, 0xF57D4F7FEE6ED178,
  0x6F067AA72176FBA, 0xA637DC5A2C898A6, 0x113F9804BEF90DAE, 0x1B710B35131C471B,
  0x28DB77F523047D84, 0x32CAAB7B40C72493, 0x3C9EBE0A15C9BEBC, 0x431D67C49C100D4C,
  0x4CC5D4BECB3E42B6, 0x597F299CFC657E2A, 0x5FCB6FAB3AD6FAEC, 0x6C44198C4A475817]

/-- The whole table. -/
def k512 : List (BitVec 64) := k512_0 ++ k512_1 ++ k512_2 ++ k512_3 ++ k512_4

/-- The small and large mixing functions. -/
def sml512a (x : BitVec 64) : BitVec 64 := x.rotateRight 1 ^^^ x.rotateRight 8 ^^^ x >>> 7
def sml512b (x : BitVec 64) : BitVec 64 := x.rotateRight 19 ^^^ x.rotateRight 61 ^^^ x >>> 6
def big512a (x : BitVec 64) : BitVec 64 := x.rotateRight 28 ^^^ x.rotateRight 34 ^^^ x.rotateRight 39
def big512b (x : BitVec 64) : BitVec 64 := x.rotateRight 14 ^^^ x.rotateRight 18 ^^^ x.rotateRight 41

/-- The eight working words. -/
structure Sha512 where
  a : BitVec 64
  b : BitVec 64
  c : BitVec 64
  d : BitVec 64
  e : BitVec 64
  f : BitVec 64
  g : BitVec 64
  h : BitVec 64
  deriving DecidableEq, Repr

/-- One round with constant `k` and message word `m`. -/
def round512 (v : Sha512) (k m : BitVec 64) : Sha512 :=
  let t1 := v.h + big512b v.e + ((v.e &&& v.f) ^^^ (~~~ v.e &&& v.g)) + k + m
  let t2 := big512a v.a + ((v.a &&& v.b) ^^^ (v.a &&& v.c) ^^^ (v.b &&& v.c))
  ⟨t1 + t2, v.a, v.b, v.c, v.d + t1, v.e, v.f, v.g⟩

/-- All rounds over a window of sixteen message words. -/
def rounds512 : List (BitVec 64) → Sha512 → List (BitVec 64) → Sha512
  | [], v, _ => v
  | k :: ks, v, ms =>
    let next := sml512b (ms.getD 14 0) + ms.getD 9 0 + sml512a (ms.getD 1 0) + ms.getD 0 0
    rounds512 ks (round512 v k (ms.getD 0 0)) (ms.drop 1 ++ [next])

/-- The words of one block. -/
def words512 : Nat → List Byte → List (BitVec 64)
  | 0, _ => []
  | m + 1, bs => BitVec.ofNat 64 (beNat (bs.take 8)) :: words512 m (bs.drop 8)

/-- One block folded into the hash. -/
def block512 (v : Sha512) (bs : List Byte) : Sha512 :=
  let u := rounds512 k512 v (words512 16 bs)
  ⟨v.a + u.a, v.b + u.b, v.c + u.c, v.d + u.d, v.e + u.e, v.f + u.f, v.g + u.g, v.h + u.h⟩

/-- `m` blocks in turn. -/
def blocks512 : Nat → Sha512 → List Byte → Sha512
  | 0, v, _ => v
  | m + 1, v, bs => blocks512 m (block512 v (bs.take 128)) (bs.drop 128)

/-- The padded message. -/
def pad512 (bs : List Byte) : List Byte :=
  let z := (128 - (bs.length + 1 + 16) % 128) % 128
  bs ++ [0x80] ++ List.replicate z 0 ++ beBytes 16 (8 * bs.length)

/-- SHA-512 of a byte list: 64 bytes. -/
def sha512 (bs : List Byte) : List Byte :=
  let p := pad512 bs
  let v := blocks512 (p.length / 128) ⟨0x6A09E667F3BCC908, 0xBB67AE8584CAA73B, 0x3C6EF372FE94F82B, 0xA54FF53A5F1D36F1,
    0x510E527FADE682D1, 0x9B05688C2B3E6C1F, 0x1F83D9ABFB41BD6B, 0x5BE0CD19137E2179⟩ p
  [v.a, v.b, v.c, v.d, v.e, v.f, v.g, v.h].flatMap (fun x => beBytes 8 x.toNat)

/-! ### SHA-256 and HMAC -/

/-- Constants 0 to 15 of the table. -/
def k256_0 : List (BitVec 32) := [
  0x428A2F98, 0x71374491, 0xB5C0FBCF, 0xE9B5DBA5,
  0x3956C25B, 0x59F111F1, 0x923F82A4, 0xAB1C5ED5,
  0xD807AA98, 0x12835B01, 0x243185BE, 0x550C7DC3,
  0x72BE5D74, 0x80DEB1FE, 0x9BDC06A7, 0xC19BF174]

/-- Constants 16 to 31 of the table. -/
def k256_1 : List (BitVec 32) := [
  0xE49B69C1, 0xEFBE4786, 0xFC19DC6, 0x240CA1CC,
  0x2DE92C6F, 0x4A7484AA, 0x5CB0A9DC, 0x76F988DA,
  0x983E5152, 0xA831C66D, 0xB00327C8, 0xBF597FC7,
  0xC6E00BF3, 0xD5A79147, 0x6CA6351, 0x14292967]

/-- Constants 32 to 47 of the table. -/
def k256_2 : List (BitVec 32) := [
  0x27B70A85, 0x2E1B2138, 0x4D2C6DFC, 0x53380D13,
  0x650A7354, 0x766A0ABB, 0x81C2C92E, 0x92722C85,
  0xA2BFE8A1, 0xA81A664B, 0xC24B8B70, 0xC76C51A3,
  0xD192E819, 0xD6990624, 0xF40E3585, 0x106AA070]

/-- Constants 48 to 63 of the table. -/
def k256_3 : List (BitVec 32) := [
  0x19A4C116, 0x1E376C08, 0x2748774C, 0x34B0BCB5,
  0x391C0CB3, 0x4ED8AA4A, 0x5B9CCA4F, 0x682E6FF3,
  0x748F82EE, 0x78A5636F, 0x84C87814, 0x8CC70208,
  0x90BEFFFA, 0xA4506CEB, 0xBEF9A3F7, 0xC67178F2]

/-- The whole table. -/
def k256 : List (BitVec 32) := k256_0 ++ k256_1 ++ k256_2 ++ k256_3

/-- The small and large mixing functions. -/
def sml256a (x : BitVec 32) : BitVec 32 := x.rotateRight 7 ^^^ x.rotateRight 18 ^^^ x >>> 3
def sml256b (x : BitVec 32) : BitVec 32 := x.rotateRight 17 ^^^ x.rotateRight 19 ^^^ x >>> 10
def big256a (x : BitVec 32) : BitVec 32 := x.rotateRight 2 ^^^ x.rotateRight 13 ^^^ x.rotateRight 22
def big256b (x : BitVec 32) : BitVec 32 := x.rotateRight 6 ^^^ x.rotateRight 11 ^^^ x.rotateRight 25

/-- The eight working words. -/
structure Sha256 where
  a : BitVec 32
  b : BitVec 32
  c : BitVec 32
  d : BitVec 32
  e : BitVec 32
  f : BitVec 32
  g : BitVec 32
  h : BitVec 32
  deriving DecidableEq, Repr

/-- One round with constant `k` and message word `m`. -/
def round256 (v : Sha256) (k m : BitVec 32) : Sha256 :=
  let t1 := v.h + big256b v.e + ((v.e &&& v.f) ^^^ (~~~ v.e &&& v.g)) + k + m
  let t2 := big256a v.a + ((v.a &&& v.b) ^^^ (v.a &&& v.c) ^^^ (v.b &&& v.c))
  ⟨t1 + t2, v.a, v.b, v.c, v.d + t1, v.e, v.f, v.g⟩

/-- All rounds over a window of sixteen message words. -/
def rounds256 : List (BitVec 32) → Sha256 → List (BitVec 32) → Sha256
  | [], v, _ => v
  | k :: ks, v, ms =>
    let next := sml256b (ms.getD 14 0) + ms.getD 9 0 + sml256a (ms.getD 1 0) + ms.getD 0 0
    rounds256 ks (round256 v k (ms.getD 0 0)) (ms.drop 1 ++ [next])

/-- The words of one block. -/
def words256 : Nat → List Byte → List (BitVec 32)
  | 0, _ => []
  | m + 1, bs => BitVec.ofNat 32 (beNat (bs.take 4)) :: words256 m (bs.drop 4)

/-- One block folded into the hash. -/
def block256 (v : Sha256) (bs : List Byte) : Sha256 :=
  let u := rounds256 k256 v (words256 16 bs)
  ⟨v.a + u.a, v.b + u.b, v.c + u.c, v.d + u.d, v.e + u.e, v.f + u.f, v.g + u.g, v.h + u.h⟩

/-- `m` blocks in turn. -/
def blocks256 : Nat → Sha256 → List Byte → Sha256
  | 0, v, _ => v
  | m + 1, v, bs => blocks256 m (block256 v (bs.take 64)) (bs.drop 64)

/-- The padded message. -/
def pad256 (bs : List Byte) : List Byte :=
  let z := (64 - (bs.length + 1 + 8) % 64) % 64
  bs ++ [0x80] ++ List.replicate z 0 ++ beBytes 8 (8 * bs.length)

/-- SHA-256 of a byte list: 32 bytes. -/
def sha256 (bs : List Byte) : List Byte :=
  let p := pad256 bs
  let v := blocks256 (p.length / 64) ⟨0x6A09E667, 0xBB67AE85, 0x3C6EF372, 0xA54FF53A, 0x510E527F, 0x9B05688C, 0x1F83D9AB, 0x5BE0CD19⟩ p
  [v.a, v.b, v.c, v.d, v.e, v.f, v.g, v.h].flatMap (fun x => beBytes 4 x.toNat)

/-- HMAC-SHA-256 of a message under a key of at most 64 bytes. -/
def hmac256 (key msg : List Byte) : List Byte :=
  let k := padTo 64 (if 64 < key.length then sha256 key else key)
  sha256 (k.map (· ^^^ 0x5C) ++ sha256 (k.map (· ^^^ 0x36) ++ msg))

end Sys2Proof.Machine
end

