-- ==== Sys2Proof/Machine/Signature.lean ====
section
/-! DEFINITION. The verification of the two signatures of program sets and firmware packages (00 R11, 07 R211, 08 R243):
Ed25519 (RFC 8032) and ML-DSA-65 (FIPS 204), which the spec names by their standards (PRESUMED, log entry 30). -/

namespace Sys2Proof.Machine

/-! ### Ed25519 -/

/-- The prime of the field, the order of the base point and the constant of the curve. -/
def edP : Nat := 2 ^ 255 - 19
def edL : Nat := 2 ^ 252 + 27742317777372353535851937790883648493
def edD : Nat := 37095705934669439343138083508754565189542113879843219016388785533085940283555

/-- `acc · b ^ e` modulo `m`, for an exponent of at most `n` bits. -/
def modPow (m : Nat) : Nat → Nat → Nat → Nat → Nat
  | 0, _, _, acc => acc
  | n + 1, b, e, acc => modPow m n (b * b % m) (e / 2) (if e % 2 = 1 then acc * b % m else acc)

/-- A power in the field of Ed25519. -/
def edPow (b e : Nat) : Nat := modPow edP 256 (b % edP) e 1

/-- A point of the curve in extended coordinates. -/
structure EdPoint where
  x : Nat
  y : Nat
  z : Nat
  t : Nat
  deriving DecidableEq, Repr

/-- The point with the affine coordinates `x` and `y`. -/
def edAffine (x y : Nat) : EdPoint := ⟨x, y, 1, x * y % edP⟩

/-- The base point. -/
def edBase : EdPoint :=
  edAffine 15112221349535400772501151409588531511454012693041857206046113283949847762202
    46316835694926478169428394003475163141307993866256225615783033603165251855960

/-- The sum of two points; the formula holds for equal points too. -/
def edAdd (p q : EdPoint) : EdPoint :=
  let a := (p.y + edP - p.x) * (q.y + edP - q.x) % edP
  let b := (p.y + p.x) * (q.y + q.x) % edP
  let c := p.t * 2 * edD * q.t % edP
  let d := p.z * 2 * q.z % edP
  let e := b + edP - a
  let f := d + edP - c
  let g := d + c
  let h := b + a
  ⟨e * f % edP, g * h % edP, f * g % edP, e * h % edP⟩

/-- `acc + k · p` for a `k` of at most `n` bits. -/
def edMul : Nat → Nat → EdPoint → EdPoint → EdPoint
  | 0, _, _, acc => acc
  | n + 1, k, p, acc => edMul n (k / 2) (edAdd p p) (if k % 2 = 1 then edAdd acc p else acc)

/-- Two points are one, whatever their coordinates' scale. -/
def edSame (p q : EdPoint) : Bool :=
  decide (p.x * q.z % edP = q.x * p.z % edP) && decide (p.y * q.z % edP = q.y * p.z % edP)

/-- The point that 32 bytes spell; none where they spell none (RFC 8032, 5.1.3). -/
def edDecode (b : List Byte) : Option EdPoint :=
  let n := leNat b
  let sign := n / 2 ^ 255
  let y := n % 2 ^ 255
  let u := (y * y + edP - 1) % edP
  let v := (edD * (y * y) + 1) % edP
  let r := u * edPow v 3 % edP * edPow (u * edPow v 7) ((edP - 5) / 8) % edP
  let w := v * r * r % edP
  let x := if w = u then r else r * edPow 2 ((edP - 1) / 4) % edP
  if b.length ≠ 32 || edP ≤ y || (w ≠ u && (w + u) % edP ≠ 0) || (x == 0 && sign == 1) then none
  else some (edAffine (if x % 2 = sign then x else edP - x) y)

/-- Three doublings: the cofactor 8. -/
def edEight (p : EdPoint) : EdPoint :=
  let p := edAdd p p
  let p := edAdd p p
  edAdd p p

/-- An Ed25519 signature verifies (RFC 8032, 5.1.7, with the cofactor). -/
def ed25519 (key msg sig : List Byte) : Bool :=
  let s := leNat (slice sig 32 32)
  match edDecode key, edDecode (sig.take 32) with
  | some a, some r =>
    let k := leNat (sha512 (sig.take 32 ++ key ++ msg))
    decide (sig.length = 64) && decide (s < edL)
      && edSame (edEight (edMul 256 s edBase (edAffine 0 1))) (edEight (edMul 512 k a r))
  | _, _ => false

/-! ### SHAKE (FIPS 202), which FIPS 204 rests on -/

/-- The rotations of the lanes, by x + 5·y. -/
def keccakRot : List Nat :=
  [0, 1, 62, 28, 27, 36, 44, 6, 55, 20, 3, 10, 43, 25, 39, 41, 45, 15, 21, 8, 18, 2, 61, 56, 14]

/-- The round constants. -/
def keccakRc : List (BitVec 64) := [
  0x0000000000000001, 0x0000000000008082, 0x800000000000808A, 0x8000000080008000,
  0x000000000000808B, 0x0000000080000001, 0x8000000080008081, 0x8000000000008009,
  0x000000000000008A, 0x0000000000000088, 0x0000000080008009, 0x000000008000000A,
  0x000000008000808B, 0x800000000000008B, 0x8000000000008089, 0x8000000000008003,
  0x8000000000008002, 0x8000000000000080, 0x000000000000800A, 0x800000008000000A,
  0x8000000080008081, 0x8000000000008080, 0x0000000080000001, 0x8000000080008008]

/-- One round on the 25 lanes. -/
def keccakRound (a : List (BitVec 64)) (rc : BitVec 64) : List (BitVec 64) :=
  let at_ := fun (v : List (BitVec 64)) (i : Nat) => v.getD i 0
  let c := (List.range 5).map (fun x => at_ a x ^^^ at_ a (x + 5) ^^^ at_ a (x + 10) ^^^ at_ a (x + 15) ^^^ at_ a (x + 20))
  let d := (List.range 5).map (fun x => at_ c ((x + 4) % 5) ^^^ (at_ c ((x + 1) % 5)).rotateLeft 1)
  let e := (List.range 25).map (fun i => (at_ a i ^^^ at_ d (i % 5)).rotateLeft (keccakRot.getD i 0))
  let b := (List.range 25).map (fun i => at_ e ((i % 5 + 3 * (i / 5)) % 5 + 5 * (i % 5)))
  let f := (List.range 25).map (fun i =>
    at_ b i ^^^ (~~~ at_ b ((i % 5 + 1) % 5 + 5 * (i / 5)) &&& at_ b ((i % 5 + 2) % 5 + 5 * (i / 5))))
  f.set 0 (at_ f 0 ^^^ rc)

/-- The permutation Keccak-f[1600]. -/
def keccakF (a : List (BitVec 64)) : List (BitVec 64) := keccakRc.foldl keccakRound a

/-- `n` blocks of `rate` bytes absorbed in turn. -/
def keccakAbsorb (rate : Nat) : Nat → List Byte → List (BitVec 64) → List (BitVec 64)
  | 0, _, a => a
  | n + 1, m, a =>
    keccakAbsorb rate n (m.drop rate)
      (keccakF ((List.range 25).map (fun i => a.getD i 0 ^^^ (if 8 * i < rate then BitVec.ofNat 64 (leNat (slice m (8 * i) 8)) else 0))))

/-- `n` blocks of `rate` bytes squeezed in turn. -/
def keccakSqueeze (rate : Nat) : Nat → List (BitVec 64) → List Byte
  | 0, _ => []
  | n + 1, a => (a.flatMap (fun w => leBytes 8 w.toNat)).take rate ++ keccakSqueeze rate n (keccakF a)

/-- The first `n` bytes of SHAKE with the given rate: 168 for SHAKE128, 136 for SHAKE256. -/
def shake (rate : Nat) (m : List Byte) (n : Nat) : List Byte :=
  let z := rate - 1 - m.length % rate
  let p := m ++ (if z = 0 then [0x9F] else [0x1F] ++ List.replicate (z - 1) 0 ++ [0x80])
  (keccakSqueeze rate ((n + rate - 1) / rate) (keccakAbsorb rate (p.length / rate) p (List.replicate 25 0))).take n

/-! ### ML-DSA-65 -/

/-- The modulus q. -/
def mlQ : Nat := 8380417

/-- The bits of a byte-sized number in reverse. -/
def mlRev (k : Nat) : Nat := (List.range 8).foldl (fun a i => 2 * a + k / 2 ^ i % 2) 0

/-- The points at which the number-theoretic transform evaluates a polynomial, in its order: ζ^brv(128 + i) and its negative. -/
def mlRoots : List Nat :=
  (List.range 128).flatMap (fun i =>
    let r := modPow mlQ 8 1753 (mlRev (128 + i)) 1
    [r, mlQ - r])

/-- The transform of a polynomial of 256 coefficients. -/
def mlNtt (w : List Nat) : List Nat := mlRoots.map (fun r => w.foldr (fun c acc => (c + r * acc) % mlQ) 0)

/-- The coefficients from `j` on that the inverse transform gives: `v` holds the values times the roots' inverses to the `j`. -/
def mlInvFrom (rs : List Nat) : Nat → List Nat → List Nat
  | 0, _ => []
  | n + 1, v => v.foldl (· + ·) 0 * 8347681 % mlQ :: mlInvFrom rs n (List.zipWith (fun a r => a * r % mlQ) v rs)

/-- The inverse transform. -/
def mlInv (v : List Nat) : List Nat := mlInvFrom (mlRoots.map (fun r => modPow mlQ 24 r (mlQ - 2) 1)) 256 v

/-- Sums, differences and products, coefficient by coefficient. -/
def mlAdd (a b : List Nat) : List Nat := List.zipWith (fun x y => (x + y) % mlQ) a b
def mlSub (a b : List Nat) : List Nat := List.zipWith (fun x y => (x + mlQ - y) % mlQ) a b
def mlMul (a b : List Nat) : List Nat := List.zipWith (fun x y => x * y % mlQ) a b

/-- 256 fields of `w` bits, least significant first. -/
def mlUnpack (w : Nat) (b : List Byte) : List Nat :=
  let n := leNat b
  (List.range 256).map (fun i => n / 2 ^ (w * i) % 2 ^ w)

/-- Candidates of three bytes that are below q (CoeffFromThreeBytes). -/
def mlThree : List Byte → List Nat
  | a :: b :: c :: l =>
    let z := a.toNat + 256 * b.toNat + 65536 * (c.toNat % 128)
    if z < mlQ then z :: mlThree l else mlThree l
  | _ => []

/-- An entry of the matrix: row `r`, column `s`, as values of the transform (RejNTTPoly). -/
def mlEntry (rho : List Byte) (r s : Nat) : List Nat :=
  (mlThree (shake 168 (rho ++ [BitVec.ofNat 8 s, BitVec.ofNat 8 r]) 1344)).take 256

/-- The swaps of SampleInBall from index `i` on, with the sign bits `h`; no polynomial where the bytes run out. -/
def mlBall (h : Nat) : List Byte → Nat → List Nat → List Nat
  | [], i, c => if i = 256 then c else []
  | b :: bs, i, c =>
    if i = 256 then c
    else if b.toNat ≤ i then
      mlBall h bs (i + 1) ((c.set i (c.getD b.toNat 0)).set b.toNat (if h / 2 ^ (i - 207) % 2 = 1 then mlQ - 1 else 1))
    else mlBall h bs i c

/-- The challenge polynomial with 49 coefficients of 1 and −1 (SampleInBall). -/
def mlChallenge (c : List Byte) : List Nat :=
  let b := shake 136 c 1088
  mlBall (leNat (b.take 8)) (b.drop 8) 207 (List.replicate 256 0)

/-- The positions of one polynomial's hints rise. -/
def mlRise : List Nat → Bool
  | a :: b :: l => decide (a < b) && mlRise (b :: l)
  | _ => true

/-- The hint's positions by polynomial (HintBitUnpack); none where the 61 bytes are no hint. -/
def mlHint (y : List Byte) : Option (List (List Nat)) :=
  let ends := (y.drop 55).map (·.toNat)
  let starts := 0 :: ends.take 5
  let parts := List.zipWith (fun a e => (slice y a (e - a)).map (·.toNat)) starts ends
  let last := ends.getD 5 0
  if (List.zipWith (fun a e => decide (a ≤ e) && decide (e ≤ 55)) starts ends).all id && parts.all mlRise
      && (slice y last (55 - last)).all (fun x => decide (x = 0)) then some parts
  else none

/-- The high bits of a coefficient, corrected by its hint bit (UseHint with 2·γ₂ = 523 776 and m = 16). -/
def mlUse (hint : Bool) (r : Nat) : Nat :=
  let m := r % 523776
  let up := decide (261888 < m)
  let hi := if up then r / 523776 + 1 else r / 523776
  let wrap := hi = 16
  let r1 := if wrap then 0 else hi
  let pos := !up && decide (0 < m)
  if hint then (if pos then (r1 + 1) % 16 else (r1 + 15) % 16) else r1

/-- Row `r` of w′: A·z − c·t₁·2¹³, from the transforms. -/
def mlRow (rho : List Byte) (zs : List (List Nat)) (c t : List Nat) (r : Nat) : List Nat :=
  let az := (List.range 5).foldl (fun acc s => mlAdd acc (mlMul (mlEntry rho r s) (zs.getD s []))) (List.replicate 256 0)
  mlInv (mlSub az (mlMul c t))

/-- Two values of four bits in each byte. -/
def mlPack4 : List Nat → List Byte
  | a :: b :: l => BitVec.ofNat 8 (a + 16 * b) :: mlPack4 l
  | _ => []

/-- An ML-DSA-65 signature of the message with an empty context string verifies (FIPS 204, ML-DSA.Verify). -/
def mldsa65 (key msg sig : List Byte) : Bool :=
  let rho := key.take 32
  let c0 := sig.take 48
  let zRaw := (List.range 5).map (fun i => mlUnpack 20 (slice sig (48 + 640 * i) 640))
  match mlHint (slice sig 3248 61) with
  | none => false
  | some hint =>
    let mu := shake 136 (shake 136 key 64 ++ [0, 0] ++ msg) 64
    let c := mlNtt (mlChallenge c0)
    let zs := zRaw.map (fun p => mlNtt (p.map (fun v => (mlQ + 524288 - v) % mlQ)))
    let w1 := (List.range 6).flatMap (fun r =>
      let t := mlNtt ((mlUnpack 10 (slice key (32 + 320 * r) 320)).map (fun v => v * 8192 % mlQ))
      let w := mlRow rho zs c t r
      let h := hint.getD r []
      mlPack4 ((List.range 256).map (fun j => mlUse (h.contains j) (w.getD j 0))))
    decide (key.length = 1952) && decide (sig.length = 3309)
      && zRaw.all (fun p => p.all (fun v => decide (196 < v) && decide (v < 1048380)))
      && decide (shake 136 (mu ++ w1) 48 = c0)

end Sys2Proof.Machine
end

