-- ==== Sys2Proof/Machine/Program.lean ====
section
/-! DEFINITION. Program sets (07): the image container, the task records, the budget planner (02 R63 to R66) and
admission (R212). -/

namespace Sys2Proof.Machine

/-! ### The container (R208 to R211) -/

/-- Sections of an image: type, offset, length, lane mask. -/
structure Section where
  type : Nat
  off : Nat
  len : Nat
  mask : Nat
  deriving DecidableEq, Repr

def imgHdrLen (b : List Byte) : Nat := leAt b 8 4
def imgBodyLen (b : List Byte) : Nat := leAt b 12 4
def imgBlockCnt (b : List Byte) : Nat := leAt b 28 4

/-- Entry `i` of the section table. -/
def imgSection (b : List Byte) (i : Nat) : Section :=
  let e := slice b (64 + 16 * i) 16
  ⟨leAt e 0 2, leAt e 4 4, leAt e 8 4, bitsOf (byteAt e 12) 2 0⟩

/-- The section table of `n` entries. -/
def imgSections (b : List Byte) (n : Nat) : List Section := (List.range n).map (imgSection b)

/-- The body bytes of a section. -/
def sectionBytes (b : List Byte) (x : Section) : List Byte := slice b (imgHdrLen b + x.off) x.len

/-- The content of the first section of a type. -/
def findSection (b : List Byte) (xs : List Section) (ty : Nat) : List Byte :=
  match xs.find? (fun x => x.type == ty) with
  | some x => sectionBytes b x
  | none => []

/-- The SHA-512 digest over header and body (R211). -/
def imgDigest (b : List Byte) : List Byte := sha512 (b.take (imgHdrLen b + imgBodyLen b))

/-- The identity: the first 16 bytes of the digest. -/
def imgId (b : List Byte) : List Byte := (imgDigest b).take 16

/-- The signature block. -/
def imgSig (b : List Byte) : List Byte := b.drop (imgHdrLen b + imgBodyLen b)

/-- A key slot that holds zeros is unused. -/
def usedKey (k : List Byte) : Bool := k.any (· ≠ 0)

/-- Both signatures verify with the keys of one and the same slot (R211, 16 R433). -/
def signedBy (slots : List (List Byte × List Byte)) (digest sig : List Byte) : Bool :=
  slots.any (fun k => usedKey k.1 && usedKey k.2 && ed25519 k.1 digest (sig.take 64)
    && mldsa65 k.2 digest (slice sig 64 3309) && decide (slice sig 3373 3 = [0, 0, 0]))

/-- The program-signing keys (16 R433). -/
def State.programSigned (s : State) (b : List Byte) : Bool :=
  signedBy ((List.range 4).map (fun i => (s.objBytes 0x0110 (i + 1), s.objBytes 0x0111 (i + 1)))) (imgDigest b) (imgSig b)

/-- Both signatures of a firmware package verify against the firmware-signing keys (08 R243). -/
def firmwareVerifies (b : List Byte) : Bool := signedBy Config.firmwareKeys (imgDigest b) (imgSig b)

/-- Every body block matches the block check table of an image with `n` sections. -/
def blocksOk (b : List Byte) (n : Nat) : Bool :=
  (List.range (imgBlockCnt b)).all (fun i =>
    decide (leAt b (64 + 16 * n + 4 * i) 4
      = crc32c ((slice b (imgHdrLen b + 65536 * i) (min 65536 (imgBodyLen b - 65536 * i))))))

/-- HCRC over header bytes 0 to 59 and 64 on. -/
def hcrcOk (b : List Byte) : Bool := decide (leAt b 60 4 = crc32c (b.take 60 ++ slice b 64 (imgHdrLen b - 64)))

/-- The parts every container has in common: magic, format, lengths, table counts, HCRC (R208). -/
def containerOk (b magic : List Byte) (kinds : List Nat) (bodyMax sects : Nat) : Bool :=
  decide (b.take 4 = magic) && decide (leAt b 4 2 = 1) && kinds.contains (leAt b 6 2) && decide (imgHdrLen b % 8 = 0)
    && decide (64 + 16 * sects + 4 * imgBlockCnt b ≤ imgHdrLen b) && decide (imgHdrLen b < 64 + 16 * sects + 4 * imgBlockCnt b + 8)
    && decide (1 ≤ imgBodyLen b) && decide (imgBodyLen b ≤ bodyMax) && decide (1 ≤ sects) && decide (sects ≤ 32)
    && decide (imgBlockCnt b = (imgBodyLen b + 65535) / 65536)
    && decide (b.length = imgHdrLen b + imgBodyLen b + 3376) && hcrcOk b
    && (imgSections b sects).all (fun x => decide (x.off % 8 = 0) && decide (x.off + x.len ≤ imgBodyLen b))

/-- The magic of Jaldex images and of firmware packages (R208, 08 R243). -/
def jaldexMagic : List Byte := [0x4A, 0x4C, 0x44, 0x58]
def firmwareMagic : List Byte := [0x4F, 0x53, 0x46, 0x57]

/-- Check 0x01: the header of a program set. -/
def headerOk (b : List Byte) : Bool :=
  let divOk := fun (d : Nat) => decide (d = 0) || (decide (2 ≤ d) && decide (d ≤ 1000))
  containerOk b jaldexMagic [1] 0x3FF00000 (leAt b 26 2)
    && decide (1 ≤ byteAt b 19) && decide (byteAt b 19 ≤ 64) && divOk (leAt b 20 2) && divOk (leAt b 22 2) && divOk (leAt b 24 2)
    && (slice b 32 28).all (· = 0)
    && (imgSections b (leAt b 26 2)).all (fun x => decide (1 ≤ x.type) && decide (x.type ≤ 9))

/-! ### Task records (R210) -/

/-- The 64 bytes of a task record. -/
def parseTask (r : List Byte) : TaskDecl :=
  { task := byteAt r 0, cls := byteAt r 1, rate := byteAt r 2, place := byteAt r 3, core := byteAt r 4, flags := byteAt r 5,
    offset := leAt r 6 2, cPlain := leAt r 8 4, mPlain := leAt r 12 4, cEnc := leAt r 16 4, mEnc := leAt r 20 4,
    entryPlain := leAt r 24 4, entryEnc := leAt r 28 4, statePlain := leAt r 32 4, stateEnc := leAt r 36 4,
    outBytes := leAt r 40 4, retW := leAt r 44 2, stack := leAt r 48 4, insec := leAt r 52 4 }

/-- A safety task. -/
def TaskDecl.safe (d : TaskDecl) : Bool := bitOf d.flags 0

/-- The task runs on lane `l` (R203). -/
def TaskDecl.onLane (d : TaskDecl) (l : LaneId) : Bool := d.place == 0 || d.place == l.idx + 1

/-- The task is placed on one lane. -/
def TaskDecl.single (d : TaskDecl) : Bool := d.place ≠ 0

/-- Divisor of a task's rate. -/
def rateDiv (p : Prog) (d : TaskDecl) : Nat := p.div.getD d.rate 0

/-- A task is due in cycle `n` (R202). -/
def taskDue (p : Prog) (d : TaskDecl) (n : Nat) : Bool := decide (n % rateDiv p d = d.offset)

/-- Entries of the retained layout: as many as make entries and initial values fill the section. -/
def retEntries (b : List Byte) : Nat → Nat → Nat → Option Nat
  | 0, _, _ => none
  | fuel + 1, i, blocks =>
    if 8 * i + 252 * blocks = b.length then some i
    else if b.length < 8 * i + 252 * blocks then none
    else retEntries b fuel (i + 1) (blocks + leAt b (8 * i + 4) 2)

/-- Entry `i` of the retained layout. -/
def retDecl (b : List Byte) (i : Nat) : RetDecl := ⟨byteAt b (8 * i), leAt b (8 * i + 2) 2, leAt b (8 * i + 4) 2⟩

/-- The sections of a program set that name lane `l` in their mask (R209). -/
def laneSections (b : List Byte) (l : LaneId) : List Section := (imgSections b (leAt b 26 2)).filter (fun x => inSet x.mask l)

/-- Bytes of code and constant sections among `xs`. -/
def codeBytes (xs : List Section) : Nat := ((xs.filter (fun x => x.type == 2 || x.type == 3)).map (·.len)).sum

/-- The program set that an image carries for lane `l`: the sections that name the lane (R209). -/
def parseProg (l : LaneId) (b : List Byte) : Prog :=
  let xs := laneSections b l
  let tt := findSection b xs 1
  let rl := findSection b xs 5
  let e := (retEntries rl (rl.length / 8 + 1) 0 0).getD 0
  let sr := findSection b xs 7
  { id := imgId b
    div := [1, leAt b 20 2, leAt b 22 2, leAt b 24 2]
    tasks := (List.range (byteAt b 19)).map (fun i => parseTask (slice tt (64 * i) 64))
    ret := (List.range e).map (retDecl rl)
    retInit := rl.drop (8 * e)
    layoutId := crc32c rl
    stations := (List.range (sr.length / 4)).map (fun i => (byteAt sr (4 * i), byteAt sr (4 * i + 1), byteAt sr (4 * i + 2)))
    layout := findSection b xs 4
    carry := findSection b xs 8
    exchange := findSection b xs 9
    regions := findSection b xs 6
    code := codeBytes xs }

/-- Check 0x06: the task records (R200, R201, R203, R210). -/
def tasksOk (l : LaneId) (b : List Byte) (p : Prog) : Bool :=
  let tt := findSection b (laneSections b l) 1
  let one := fun (d : TaskDecl) =>
    decide (d.task < 64) && decide (d.cls < 8) && decide (d.rate < 4) && decide (rateDiv p d ≠ 0) && decide (d.place < 4)
      && decide (d.core < 4) && decide (d.flags < 2) && decide (d.offset < rateDiv p d) && decide (d.retW ≤ 240)
      && decide (d.stack % 16 = 0) && decide (32 ≤ d.insec) && !(d.safe && d.single)
      && (d.safe || (decide (d.cEnc = 0) && decide (d.mEnc = 0) && decide (d.entryEnc = 0)))
  decide (tt.length = 64 * byteAt b 19) && p.tasks.all one && decide ((p.tasks.map (·.task)).Nodup)
    && p.tasks.all (fun d => p.tasks.all (fun e => d.cls ≠ e.cls || d.safe == e.safe))
    && (List.range (byteAt b 19)).all (fun i => decide (leAt tt (64 * i + 46) 2 = 0) && decide (leAt tt (64 * i + 56) 8 = 0))

/-- Two sections overlap in the body. -/
def sectionsOverlap : List Section → Bool
  | [] => false
  | x :: xs => xs.any (fun y => decide (x.off < y.off + y.len) && decide (y.off < x.off + x.len)) || sectionsOverlap xs

/-- Check 0x07. -/
def codeOk (b : List Byte) : Bool :=
  let xs := imgSections b (leAt b 26 2)
  lanes.all (fun l => decide (codeBytes (laneSections b l) ≤ 0x2000000)) && !sectionsOverlap xs

/-- Check 0x08: the retained layout (R200, R203). -/
def retainedOk (l : LaneId) (b : List Byte) (p : Prog) : Bool :=
  let rl := findSection b (laneSections b l) 5
  let blocks := p.ret.flatMap (fun r => (List.range r.count).map (r.first + ·))
  (retEntries rl (rl.length / 8 + 1) 0 0).isSome && blocks.all (fun k => decide (k < 16128)) && decide blocks.Nodup
    && p.ret.all (fun r => p.tasks.any (fun d => d.task == r.task && !d.single))
    && p.tasks.all (fun d => !d.single || d.retW == 0)

/-- W_I = Σ w_t · ceil(I / r_t) over the tasks with retained variables (R217). -/
def commitBlocks (p : Prog) (i : Nat) : Nat :=
  ((p.tasks.filter (fun d => p.ret.any (fun r => r.task == d.task))).map
    (fun d => d.retW * ((i + rateDiv p d - 1) / rateDiv p d))).sum

/-- t_commit in ns (R217). -/
def commitNs (w : Nat) : Nat := 15000 + 1250 * w

/-- Check 0x09: the commit bound. -/
def commitOk (p : Prog) (i t : Nat) : Bool :=
  let w := commitBlocks p i
  decide (w ≤ 240) && decide (commitNs w + 100000 ≤ i * t)

/-! ### The budget planner (02 R63, R64) -/

/-- Length of a pass at `f` MHz, in ns · MHz: C/f + M. -/
def passCost (f c m : Nat) : Nat := c * 1000 + m * f

/-- The larger of a list of numbers. -/
def maxList (xs : List Nat) : Nat := xs.foldl max 0

/-- Safety tasks of a core on a lane. -/
def coreSafe (p : Prog) (l : LaneId) (k : Nat) : List TaskDecl :=
  p.tasks.filter (fun d => d.onLane l && d.core == k && d.safe)

/-- S_end in ns · MHz, with the end of A in ns. -/
def safeEnd (p : Prog) (l : LaneId) (f endA : Nat) : Nat :=
  let pl := maxList ((List.range 4).map (fun k => ((coreSafe p l k).map (fun d => passCost f d.cPlain d.mPlain)).sum))
  let en := maxList ((List.range 4).map (fun k => ((coreSafe p l k).map (fun d => passCost f d.cEnc d.mEnc)).sum))
  (endA + 15000) * f + pl + en

/-- The latest of S_end and every core's end of non-safety work, in ns · MHz. -/
def planEnd (p : Prog) (l : LaneId) (f endA : Nat) : Nat :=
  let se := safeEnd p l f endA
  let core := fun (k : Nat) =>
    let work := ((p.tasks.filter (fun d => d.onLane l && d.core == k && !d.safe)).map (fun d => passCost f d.cPlain d.mPlain)).sum
    (if coreSafe p l k = [] then endA * f else se) + work
  max se (maxList ((List.range 4).map core))

/-- The planned margin m in ns, rounded down; negative margins are 0. -/
def planMargin (p : Prog) (l : LaneId) (f endA t : Nat) : Nat := (t * f - planEnd p l f endA) / f

/-- R64 on one lane at 1.2 GHz. -/
def planOk (p : Prog) (l : LaneId) (endA t : Nat) : Bool :=
  let f := 1200
  decide (max (15 * t * f) (100 * 50000 * f) ≤ 100 * (t * f - planEnd p l f endA))
    && decide (safeEnd p l f endA ≤ (t - 65000 + 15000) * f)

/-- The end of phase A of lane `l` in ns: t_L = 20 µs and t_A (04 R126). -/
def State.endA (s : State) (l : LaneId) : Nat := 20000 + 100 * phaseA (s.obj 0x1120 1) (s.lf l XCH_VOLUME)

/-- The running clock of a lane in MHz (18 R486). -/
def State.clockMHz (s : State) (l : LaneId) : Nat := 1600 - 25 * s.lf l AGE_PLAN_F_RUN

/-! ### Admission (R212) -/

/-- Two regions of addresses share a byte. -/
def regionsMeet (r t : Region) : Bool := decide (r.base < t.base + t.size) && decide (t.base < r.base + r.size)

/-- Region `r` lies within `t`. -/
def regionIn (r t : Region) : Bool := decide (t.base ≤ r.base) && decide (r.base + r.size ≤ t.base + t.size)

/-- A plain region of addresses. -/
def span (base size : Nat) : Region := ⟨base, size, false, false, false⟩

/-- The lane peripherals, and the hub register window with the blocks of it that a declaration may grant: process data channels,
CAN channels, time base (01 R44, 05 R146). -/
def peripherals : List Region := [span 0x40000000 0x60000, span 0x44000000 0x4000000]
def hubWindow : Region := span 0x50000000 0x8000000
def openBlocks : List Region := [span 0x50000000 0xC000, span 0x50200000 0x8000, span 0x50300000 0x10000]

/-- A declared grant of a non-safety task keeps R146: no write to a safety task's state, to the agreed image or to a lane peripheral, and of
the hub register window only the open blocks. -/
def State.regionOk (s : State) (l : LaneId) (p : Prog) (r : Region) : Bool :=
  let own := (p.tasks.filter TaskDecl.safe).flatMap (fun d =>
    Config.taskRegions p.layout d.task false ++ Config.taskRegions p.layout d.task true)
  let agreed := span (s.lreg l XCH_AGREED.reg).toNat (1024 * s.obj 0x1120 1)
  !(r.write && (agreed :: (own ++ peripherals)).any (regionsMeet r)) && (!regionsMeet r hubWindow || openBlocks.any (regionIn r))

/-- A grant of task `d` touches no process data channel but those placed on the task's own single lane (09 R254). -/
def State.channelsOk (s : State) (l : LaneId) (d : TaskDecl) (r : Region) : Bool :=
  (List.range 192).all (fun c =>
    !regionsMeet r (span (0x50000000 + 256 * c) 256) || (d.single && decide (s.pdePlace l c = d.place)))

/-- Check 0x0A: every region declaration of a non-safety task keeps R146, and that of every task R254. -/
def State.regionsOk (s : State) (l : LaneId) (p : Prog) : Bool :=
  p.tasks.all (fun d => (Config.regionDecls p.regions d.task).all (fun r =>
    (d.safe || s.regionOk l p r) && s.channelsOk l d r))

/-- The first check that refuses an image on lane `l`; 0 when it is admitted. -/
def State.admissionCode (s : State) (l : LaneId) (b : List Byte) : Nat :=
  let p := parseProg l b
  if !headerOk b then 1
  else if !s.programSigned b then 2
  else if !blocksOk b (leAt b 26 2) then 3
  else if leAt b 16 2 ≠ s.obj 0x0003 1 then 4
  else if byteAt b 18 ≠ 1 then 5
  else if !tasksOk l b p then 6
  else if !codeOk b then 7
  else if !retainedOk l b p then 8
  else if !commitOk p (s.obj 0x1150 2) s.period then 9
  else if !s.regionsOk l p then 10
  else if !p.stations.all (fun r => decide (r.2.1 ≠ 0) && decide (s.obj (0x0300 + r.2.1) 1 ≠ 0)) then 11
  else if !lanes.all (fun k => planOk p k (s.endA l) s.period) then 12
  else 0

/-- The image in the active program bank. -/
def State.activeImage (s : State) : List Byte := (mapFind s.store.prog s.sup.ka.progBank).getD []

/-- Load code and constant sections of an image into lane memory, in table order from address `a` on (R209). -/
def loadSections (b : List Byte) : List Section → Nat → List Host.Cell → List Host.Cell
  | [], _, m => m
  | x :: xs, a, m =>
    if x.type == 2 || x.type == 3 then loadSections b xs (a + x.len) (memWrite m a (sectionBytes b x)) else loadSections b xs a m

/-- Initial plain state of every task, with its encoded state invalid (R152, R222). -/
def freshTaskMap (p : Prog) : List (Nat × TaskRt) :=
  p.tasks.foldl (fun m d => mapSet {} m d.task { state := Config.stateInit p.layout d.task, first := true }) []

/-- TCK_CLS_CFG.SAFE of a program set (R201). -/
def safeClasses (p : Prog) : Nat :=
  (List.range 8).foldl (fun a c => a + b2n (p.tasks.any (fun d => d.cls == c && d.safe)) * 2 ^ c) 0

/-- TCK_CLS_CFG.TOL from 0x1102. -/
def State.tolerances (s : State) : Nat := (List.range 8).foldl (fun a c => a + s.obj 0x1102 (c + 1) % 4 * 4 ^ c) 0

/-- Show what the running set's plan gives (02 R78, R80; R229). -/
def State.showPlan (s : State) (l : LaneId) : State :=
  let p := (s.lane l).prog
  let e := s.endA l
  let s := s.lfSet l TCK_MARGIN_GC (planMargin p l 1200 e s.period)
  s.lfSet l TCK_MARGIN_RUN (planMargin p l (s.clockMHz l) e s.period)

/-- The safe-value map of a program set: the LEVELS bits, then the B region with the diagnosis area's own safe values (04 R123, 15
R408; the section's layout is DEDUCED, log entry 62). -/
def safeMap (p : Prog) (n : Nat) : List Byte :=
  leBytes 4 Config.safeLevels ++ (leBytes 8 (2 ^ 53 - 1) ++ padTo (8 * n - 8) (p.exchange.drop 12)).take (8 * n)

/-- The lane-management core fills the safe-value map at XCH_SAFEMAP. -/
def State.fillSafeMap (s : State) (l : LaneId) : State :=
  let a := (s.lreg l XCH_SAFEMAP.reg).toNat
  if a = 0 then s else s.lmemSet l a (safeMap (s.lane l).prog (s.lf l XCH_LAYOUT_B_UNITS))

/-- A lane takes an admitted set as its running set (start step S4). -/
def State.loadProg (s : State) (l : LaneId) (b : List Byte) : State :=
  let p := parseProg l b
  let s := s.updLane l (fun x => { x with
    prog := p, newProg := none, mem := loadSections b (laneSections b l) 0x80000000 x.mem
    rt := { x.rt with tasks := freshTaskMap p, classOut := [], pendOut := [], stations := [] } })
  let s := s.fillSafeMap l
  let s := s.lfSet l TCK_CLS_CFG_SAFE (safeClasses p)
  let s := s.lfSet l TCK_CLS_CFG_TOL s.tolerances
  let s := s.lfSet l TCK_OVR_CNT 0
  s.showPlan l

/-- Admission of the active bank's set on one lane: the code is kept, and a refusal by the planner is recorded (R64,
R212). -/
def State.judgeActive (s : State) (l : LaneId) : State :=
  let b := s.activeImage
  let c := s.admissionCode l b
  let s := s.updLane l (fun x => { x with admission := some c })
  if c = 0 then s
  else
    let s := s.cntSet 0x1150 3 c
    if c = 12 then s.laneEvt l 0x1022 [(1, l.idx), (4, planMargin (parseProg l b) l 1200 (s.endA l) s.period / 1000)] else s

/-- An admitted set is loaded (start step S4). -/
def State.admitActive (s : State) (l : LaneId) : State :=
  let s := s.judgeActive l
  if (s.lane l).admission = some 0 then s.loadProg l s.activeImage else s

end Sys2Proof.Machine
end

