-- ==== Sys2Proof/Machine/Operands.lean ====
section
/-! DEFINITION. Operand forms of the coded instructions (05): general and float registers of a core, packed signatures,
code words, encoded floats, and what a detected fault leaves. -/

namespace Sys2Proof.Machine

/-! ### Cores and CSRs -/

/-- Core `c` of lane `l`. -/
def State.core (s : State) (l : LaneId) (c : Nat) : CoreState := mapGet {} (s.lane l).cores c

/-- Replace a core. -/
def State.coreSet (s : State) (l : LaneId) (c : Nat) (k : CoreState) : State :=
  s.updLane l (fun x => { x with cores := mapSet {} x.cores c k })

/-- Reset values of the CDA CSRs: A in CDA_A and the lane's SEED in CDA_SEED (R166). -/
def csrReset (l : LaneId) (n : Nat) : Word :=
  if n = 0x7C3 then 0xE523
  else if n = 0x7C9 then (match l with | .a => 0 | .b => 0x2AAA | .c => 0x5554)
  else 0

/-- A CSR of a core. -/
def coreCsr (l : LaneId) (k : CoreState) (n : Nat) : Word := mapGet (csrReset l n) k.csr n

/-- Write a CSR of a core. -/
def coreCsrSet (l : LaneId) (k : CoreState) (n : Nat) (v : Word) : CoreState :=
  { k with csr := mapSet (csrReset l n) k.csr n v }

/-- A field of a CSR. -/
def cf (l : LaneId) (k : CoreState) (f : Fld) : Nat := fldGet f (coreCsr l k f.reg)

/-- Set a field of a CSR. -/
def cfSet (l : LaneId) (k : CoreState) (f : Fld) (x : Nat) : CoreState :=
  coreCsrSet l k f.reg (fldSet f (coreCsr l k f.reg) x)

/-- General register `r`; x0 reads 0. -/
def xReg (k : CoreState) (r : Nat) : Word := if r = 0 then 0 else mapGet 0 k.x r

/-- Write a general register; a write of x0 is discarded. -/
def xSet (k : CoreState) (r : Nat) (v : Word) : CoreState := if r = 0 then k else { k with x := mapSet 0 k.x r v }

/-- Float register `r` as a datum of a format; an F32 that is not NaN-boxed stands for the canonical NaN
(log entry 20). -/
def fReg (f : FFmt) (k : CoreState) (r : Nat) : FVal :=
  let v := (mapGet 0 k.f r).toNat
  match f with
  | .f64 => unpack .f64 v
  | .f32 => if bitsOf v 63 32 = 0xFFFFFFFF then unpack .f32 (bitsOf v 31 0) else .nan

/-- Write the bits of a datum to a float register; an F32 is NaN-boxed. -/
def fSet (f : FFmt) (k : CoreState) (r : Nat) (b : Nat) : CoreState :=
  let v := match f with | .f64 => b | .f32 => 0xFFFFFFFF * 2 ^ 32 + b
  { k with f := mapSet 0 k.f r (BitVec.ofNat 64 v) }

/-! ### The integer code (R153, R161, R162) -/

/-- A = 58 659. -/
def codeA : Int := 58659

/-- The coded integer domain (R153). -/
def inDomain (v : Int) : Bool := decide (-(2 ^ 47) ≤ v) && decide (v ≤ 2 ^ 47 - 1)

/-- D_n at a frame (R154). -/
def codeD (seed n : Nat) : Nat := 1 + (n * 19937 + seed) % 32767

/-- s_n at a frame (R154). -/
def codeS (lane n : Nat) : Nat := 1 + (n + 5 * lane) % 15

/-- A packed operand's fields. -/
def pkQ (p : Nat) : Nat := bitsOf p 63 56
def pkZ (p : Nat) : Nat := bitsOf p 47 32
def pkY (p : Nat) : Nat := bitsOf p 31 16
def pkX (p : Nat) : Nat := bitsOf p 15 0

/-- Which fields of the packed operand an instruction uses. -/
structure SigUse where
  x : Bool := false
  y : Bool := false
  z : Bool := false
  /-- Q values it takes. -/
  q : Nat → Bool := fun q => decide (q = 0)

/-- A signature field is right: 1 to 16 383 when used, 0 when not (R161). -/
def sigField (used : Bool) (b : Nat) : Bool := if used then decide (1 ≤ b) && decide (b ≤ 16383) else decide (b = 0)

/-- The packed operand is right for an instruction (R161). -/
def sigOk (u : SigUse) (p : Nat) : Bool :=
  sigField u.x (pkX p) && sigField u.y (pkY p) && sigField u.z (pkZ p) && u.q (pkQ p) && decide (bitsOf p 55 48 = 0)

/-- The value a code word carries under signature `b` and cycle value `d`; none where the residue check fails. -/
def codeDec (b d : Nat) (w : Word) : Option Int :=
  let v := w.toInt - b - d
  if v % codeA = 0 then some (v / codeA) else none

/-- code(v) = A·v + B + D (R162). -/
def codeEnc (b d : Nat) (v : Int) : Word := BitVec.ofInt 64 (codeA * v + b + d)

/-- One step of a condition signature: CRC-32C over one byte, no final XOR (R165). -/
def foldCond (sig : Nat) (c : Bool) : Nat := (crcByte (BitVec.ofNat 32 sig) (if c then 1 else 0)).toNat

/-! ### Encoded floats (R156, R160, R163) -/

/-- a = −f·2^(−s). -/
def fDec (s : Nat) (v : FVal) : FVal := negScale v (-(s : Int))

/-- enc(v) = −v·2^s as bits of a format. -/
def fEncBits (f : FFmt) (s : Nat) (b : Nat) : Nat := pack f (negScale (unpack f b) s)

/-! ### Fault bits of CDA_FAULT (R166) -/

def cdRes : Nat := 1
def cdIrange : Nat := 2
def cdFrange : Nat := 4
def cdBool : Nat := 8
def cdSig : Nat := 16
def cdIll : Nat := 32

/-- Set fault bits; the pc is recorded while CDA_FAULT was 0 (R155). -/
def setFault (l : LaneId) (k : CoreState) (bits pc : Nat) : CoreState :=
  if bits = 0 then k
  else
    let k := if cf l k CDA_FAULT = 0 then cfSet l k CDA_FPC pc else k
    cfSet l k CDA_FAULT (nOr (cf l k CDA_FAULT) bits)

/-- Take an exception: its cause, pc and faulting address are kept for the kernel, which runs in M mode. -/
def takeTrap (k : CoreState) (cause pc : Nat) (tval : Option Nat) : CoreState :=
  { k with trap := some ⟨cause, pc, tval⟩, priv := .m, resv := none }

/-- What a coded instruction leaves: the core with its destination written, and the fault bits it found. -/
structure CdOut where
  core : CoreState
  fault : Nat
  deriving DecidableEq, Repr

/-- A coded instruction of a core at `pc`: illegal while EN is 0, in the wrong pass, and on the lane-management core
(R141, R166); its faults are recorded and trap only with FTRAP (R155), after the destination has been written (DEDUCED, log entry 59); ICNT
counts it when it retires (log entry 21). The core, and whether it has taken an exception. -/
def codedCore (l : LaneId) (c pc : Nat) (plainPass : Bool) (k : CoreState) (f : CoreState → CdOut) : CoreState × Bool :=
  if c = 4 || cf l k CDA_CTL_EN = 0 || cf l k CDA_CTL_PASS ≠ b2n (!plainPass) then (takeTrap k 2 pc none, true)
  else
    let r := f k
    let k := setFault l r.core r.fault pc
    if r.fault ≠ 0 && cf l k CDA_CTL_FTRAP = 1 then (takeTrap k 24 pc none, true)
    else (cfSet l k CDA_ICNT (satAdd 0xFFFFFFFF (cf l k CDA_ICNT) 1), false)

/-- The lane and core exist and run. -/
def State.coreUp (s : State) (l : LaneId) (c : Nat) : Bool := (s.lane l).supplied && decide (c < 5)

/-- A declared task of lane `l`. -/
def State.decl (s : State) (l : LaneId) (t : Nat) : Option TaskDecl := (s.lane l).prog.tasks.find? (fun d => d.task == t)

/-- A trap ends a task: a safety task's local compare of the cycle fails, a non-safety task ends for the cycle (07 R206). -/
def State.taskTraps (s : State) (l : LaneId) (t : Nat) : State :=
  match s.decl l t with
  | none => s
  | some d => if d.safe then s.taskFail l t else s.taskSet l t { s.task l t with ended := true }

/-- What an exception of a core brings beside its own registers: the core's write-combining buffer closes (10 R287), and the task that ran
in U mode, `k` before the exception, ends (07 R206). -/
def State.afterTrap (s : State) (l : LaneId) (c : Nat) (k : CoreState) : State :=
  let s := s.wcIssue l c
  match (if k.priv = .u then k.task else none) with
  | some t => s.taskTraps l t
  | none => s

/-- Core `c` takes an exception. -/
def State.coreTrap (s : State) (l : LaneId) (c cause pc : Nat) (tval : Option Nat) : State :=
  (s.coreSet l c (takeTrap (s.core l c) cause pc tval)).afterTrap l c (s.core l c)

/-- A coded instruction's effect on the block. -/
def State.coded (s : State) (l : LaneId) (c pc : Nat) (plainPass : Bool) (f : CoreState → CdOut) : State :=
  if s.coreUp l c then
    let k := s.core l c
    let (r, trapped) := codedCore l c pc plainPass k f
    let t := s.coreSet l c r
    if trapped then t.afterTrap l c k else t
  else s

/-- An integer result: code(v) when in the domain, else IRANGE and 0. -/
def intOut (l : LaneId) (k : CoreState) (rd bz : Nat) (v : Int) : CdOut :=
  if inDomain v then ⟨xSet k rd (codeEnc bz (cf l k CDA_D) v), 0⟩ else ⟨xSet k rd 0, cdIrange⟩

/-- A fault of an integer instruction: 0 into the destination. -/
def intFault (k : CoreState) (rd bits : Nat) : CdOut := ⟨xSet k rd 0, bits⟩

/-- One coded operand under a packed operand. -/
def cdUnary (l : LaneId) (u : SigUse) (rd rs1 rs3 : Nat) (g : CoreState → Nat → Int → CdOut) (k : CoreState) : CdOut :=
  let p := (xReg k rs3).toNat
  if !sigOk u p then intFault k rd cdSig
  else match codeDec (pkX p) (cf l k CDA_D) (xReg k rs1) with
    | none => intFault k rd cdRes
    | some x => g k p x

/-- Two coded operands under a packed operand. -/
def cdBinary (l : LaneId) (u : SigUse) (rd rs1 rs2 rs3 : Nat) (g : CoreState → Nat → Int → Int → CdOut)
    (k : CoreState) : CdOut :=
  let p := (xReg k rs3).toNat
  if !sigOk u p then intFault k rd cdSig
  else match codeDec (pkX p) (cf l k CDA_D) (xReg k rs1), codeDec (pkY p) (cf l k CDA_D) (xReg k rs2) with
    | some x, some y => g k p x y
    | _, _ => intFault k rd cdRes

/-- A value is a boolean. -/
def isBool (v : Int) : Bool := decide (v = 0) || decide (v = 1)

/-- A truth value as an integer. -/
def b2i (b : Bool) : Int := if b then 1 else 0

/-- FRANGE of a result before rounding: nonzero, finite and outside R156, or rounded up to a bound of it. -/
def fltFault (f : FFmt) (v : FVal × Bool) : Nat := if outOfRange f v.1 || roundsOut f v then cdFrange else 0

/-- A float result `v` before rounding (a value, and whether the exact one lies a little above it in magnitude): enc(v), rounded
once to nearest even (R163). -/
def fltOut (l : LaneId) (f : FFmt) (k : CoreState) (fd : Nat) (v : FVal × Bool) : CdOut :=
  ⟨fSet f k fd (packSticky f (negScale v.1 (cf l k CDA_S), v.2)), fltFault f v⟩

/-- Operand registers `fs` decoded. -/
def fOperand (l : LaneId) (f : FFmt) (k : CoreState) (fs : Nat) : FVal := fDec (cf l k CDA_S) (fReg f k fs)

/-- A result computed from encoded floats with a packed operand, into an integer register. -/
def cdMixed (l : LaneId) (u : SigUse) (rd rs3 : Nat) (g : CoreState → Int) (k : CoreState) : CdOut :=
  let p := (xReg k rs3).toNat
  if !sigOk u p then intFault k rd cdSig else intOut l k rd (pkZ p) (g k)

end Sys2Proof.Machine
end

