-- ==== Sys2Proof/Machine/Coded.lean ====
section
/-! DEFINITION. Coded execution (05): the coded-arithmetic instructions. -/

namespace Sys2Proof.Machine

/-! ### Custom-0: integers (R162) -/

/-- CD_ENC: code(rs1) of a plain signed value. -/
def execCdEnc (l : LaneId) (c pc rd rs1 rs3 : Nat) (s : State) : Host.Outcome State Fault Refusal :=
  .next (s.coded l c pc false (fun k =>
    let p := (xReg k rs3).toNat
    if !sigOk { z := true } p then intFault k rd cdSig else intOut l k rd (pkZ p) (xReg k rs1).toInt))

/-- CD_DEC: x as a plain signed value. -/
def execCdDec (l : LaneId) (c pc rd rs1 rs3 : Nat) (s : State) : Host.Outcome State Fault Refusal :=
  .next (s.coded l c pc false (cdUnary l { x := true } rd rs1 rs3 (fun k _ x =>
    if inDomain x then ⟨xSet k rd (BitVec.ofInt 64 x), 0⟩ else intFault k rd cdIrange)))

/-- CD_CHK: the residue check only. -/
def execCdChk (l : LaneId) (c pc rs1 rs3 : Nat) (s : State) : Host.Outcome State Fault Refusal :=
  .next (s.coded l c pc false (cdUnary l { x := true } 0 rs1 rs3 (fun k _ _ => ⟨k, 0⟩)))

/-- CD_RESIG: code(x) with a new signature. -/
def execCdResig (l : LaneId) (c pc rd rs1 rs3 : Nat) (s : State) : Host.Outcome State Fault Refusal :=
  .next (s.coded l c pc false (cdUnary l { x := true, z := true } rd rs1 rs3 (fun k p x => intOut l k rd (pkZ p) x)))

/-- CD_ADD: code(x + y). -/
def execCdAdd (l : LaneId) (c pc rd rs1 rs2 rs3 : Nat) (s : State) : Host.Outcome State Fault Refusal :=
  .next (s.coded l c pc false (cdBinary l { x := true, y := true, z := true } rd rs1 rs2 rs3
    (fun k p x y => intOut l k rd (pkZ p) (x + y))))

/-- CD_SUB: code(x − y). -/
def execCdSub (l : LaneId) (c pc rd rs1 rs2 rs3 : Nat) (s : State) : Host.Outcome State Fault Refusal :=
  .next (s.coded l c pc false (cdBinary l { x := true, y := true, z := true } rd rs1 rs2 rs3
    (fun k p x y => intOut l k rd (pkZ p) (x - y))))

/-- CD_MUL: code(x·y). -/
def execCdMul (l : LaneId) (c pc rd rs1 rs2 rs3 : Nat) (s : State) : Host.Outcome State Fault Refusal :=
  .next (s.coded l c pc false (cdBinary l { x := true, y := true, z := true } rd rs1 rs2 rs3
    (fun k p x y => intOut l k rd (pkZ p) (x * y))))

/-- CD_MULQ: code(floor(x·y / 2^Q)), Q 0 to 47. -/
def execCdMulq (l : LaneId) (c pc rd rs1 rs2 rs3 : Nat) (s : State) : Host.Outcome State Fault Refusal :=
  .next (s.coded l c pc false (cdBinary l { x := true, y := true, z := true, q := fun q => decide (q ≤ 47) } rd rs1 rs2 rs3
    (fun k p x y => intOut l k rd (pkZ p) (x * y / 2 ^ pkQ p))))

/-- CD_DIV: code(x / y) truncated toward zero; y = 0 gives code(−1). -/
def execCdDiv (l : LaneId) (c pc rd rs1 rs2 rs3 : Nat) (s : State) : Host.Outcome State Fault Refusal :=
  .next (s.coded l c pc false (cdBinary l { x := true, y := true, z := true } rd rs1 rs2 rs3
    (fun k p x y => intOut l k rd (pkZ p) (if y = 0 then -1 else x.tdiv y))))

/-- CD_REM: code of the remainder with the sign of x; y = 0 gives code(x). -/
def execCdRem (l : LaneId) (c pc rd rs1 rs2 rs3 : Nat) (s : State) : Host.Outcome State Fault Refusal :=
  .next (s.coded l c pc false (cdBinary l { x := true, y := true, z := true } rd rs1 rs2 rs3
    (fun k p x y => intOut l k rd (pkZ p) (if y = 0 then x else x.tmod y))))

/-- CD_SRA: code(floor(x / 2^Q)), Q 0 to 47. -/
def execCdSra (l : LaneId) (c pc rd rs1 rs3 : Nat) (s : State) : Host.Outcome State Fault Refusal :=
  .next (s.coded l c pc false (cdUnary l { x := true, z := true, q := fun q => decide (q ≤ 47) } rd rs1 rs3
    (fun k p x => intOut l k rd (pkZ p) (x / 2 ^ pkQ p))))

/-- x reduced modulo 2^w into the signed or the unsigned range. -/
def wrapInt (signed : Bool) (w : Nat) (x : Int) : Int :=
  let r := x % 2 ^ w
  if signed && decide (2 ^ (w - 1) ≤ r) then r - 2 ^ w else r

/-- CD_WRAP: x modulo 2^w, signed with Q[7] = 1; w = Q[5:0], 1 to 32. -/
def execCdWrap (l : LaneId) (c pc rd rs1 rs3 : Nat) (s : State) : Host.Outcome State Fault Refusal :=
  .next (s.coded l c pc false (cdUnary l
    { x := true, z := true, q := fun q => decide (bitsOf q 6 6 = 0) && decide (1 ≤ bitsOf q 5 0) && decide (bitsOf q 5 0 ≤ 32) }
    rd rs1 rs3 (fun k p x => intOut l k rd (pkZ p) (wrapInt (bitOf (pkQ p) 7) (bitsOf (pkQ p) 5 0) x))))

/-- CD_SLT: the coded boolean of x < y. -/
def execCdSlt (l : LaneId) (c pc rd rs1 rs2 rs3 : Nat) (s : State) : Host.Outcome State Fault Refusal :=
  .next (s.coded l c pc false (cdBinary l { x := true, y := true, z := true } rd rs1 rs2 rs3
    (fun k p x y => intOut l k rd (pkZ p) (b2i (decide (x < y))))))

/-- CD_SEQ: the coded boolean of x = y. -/
def execCdSeq (l : LaneId) (c pc rd rs1 rs2 rs3 : Nat) (s : State) : Host.Outcome State Fault Refusal :=
  .next (s.coded l c pc false (cdBinary l { x := true, y := true, z := true } rd rs1 rs2 rs3
    (fun k p x y => intOut l k rd (pkZ p) (b2i (decide (x = y))))))

/-- CD_BAND: the coded boolean x ∧ y. -/
def execCdBand (l : LaneId) (c pc rd rs1 rs2 rs3 : Nat) (s : State) : Host.Outcome State Fault Refusal :=
  .next (s.coded l c pc false (cdBinary l { x := true, y := true, z := true } rd rs1 rs2 rs3 (fun k p x y =>
    if isBool x && isBool y then intOut l k rd (pkZ p) (x * y) else intFault k rd cdBool)))

/-- CD_BOR: the coded boolean x ∨ y. -/
def execCdBor (l : LaneId) (c pc rd rs1 rs2 rs3 : Nat) (s : State) : Host.Outcome State Fault Refusal :=
  .next (s.coded l c pc false (cdBinary l { x := true, y := true, z := true } rd rs1 rs2 rs3 (fun k p x y =>
    if isBool x && isBool y then intOut l k rd (pkZ p) (max x y) else intFault k rd cdBool)))

/-- CD_BNOT: the coded boolean ¬x. -/
def execCdBnot (l : LaneId) (c pc rd rs1 rs3 : Nat) (s : State) : Host.Outcome State Fault Refusal :=
  .next (s.coded l c pc false (cdUnary l { x := true, z := true } rd rs1 rs3 (fun k p x =>
    if isBool x then intOut l k rd (pkZ p) (1 - x) else intFault k rd cdBool)))

/-- CD_COND: plain 0 or 1 from a coded boolean, folded into CDA_ESIG (R165; log entry 22). -/
def execCdCond (l : LaneId) (c pc rd rs1 rs3 : Nat) (s : State) : Host.Outcome State Fault Refusal :=
  .next (s.coded l c pc false (cdUnary l { x := true } rd rs1 rs3 (fun k _ x =>
    if isBool x then
      ⟨cfSet l (xSet k rd (BitVec.ofInt 64 x)) CDA_ESIG (foldCond (cf l k CDA_ESIG) (decide (x = 1))), 0⟩
    else intFault k rd cdBool)))

/-- CD_PFOLD: in the plain pass, (rs1 ≠ 0) is folded into CDA_PSIG (R165). -/
def execCdPfold (l : LaneId) (c pc rs1 : Nat) (s : State) : Host.Outcome State Fault Refusal :=
  .next (s.coded l c pc true (fun k =>
    ⟨cfSet l k CDA_PSIG (foldCond (cf l k CDA_PSIG) (decide (xReg k rs1 ≠ 0))), 0⟩))

/-- CD_REBASE: code(x) with x decoded under the old D in rs2; an old D outside 1 to 32 767 leaves the result open
(log entry 23). -/
def execCdRebase (l : LaneId) (c pc rd rs1 rs2 rs3 : Nat) (s : State) : Host.Outcome State Fault Refusal :=
  .next ((s.coded l c pc false (fun k =>
    let p := (xReg k rs3).toNat
    let d := (xReg k rs2).toNat
    if !sigOk { x := true, z := true } p then intFault k rd cdSig
    else if d = 0 || decide (32767 < d) then ⟨xSet k rd (Config.freeWord s.freeCtr), 0⟩
    else match codeDec (pkX p) d (xReg k rs1) with
      | none => intFault k rd cdRes
      | some x => intOut l k rd (pkZ p) x)).drawn)

/-! ### Custom-1: floats (R163) -/

/-- CD_FENC: enc(fs1) of a plain value. -/
def execCdFenc (l : LaneId) (c pc : Nat) (f : FFmt) (fd fs1 : Nat) (s : State) : Host.Outcome State Fault Refusal :=
  .next (s.coded l c pc false (fun k => fltOut l f k fd (fReg f k fs1, false)))

/-- CD_FDEC: a as a plain value. -/
def execCdFdec (l : LaneId) (c pc : Nat) (f : FFmt) (fd fs1 : Nat) (s : State) : Host.Outcome State Fault Refusal :=
  .next (s.coded l c pc false (fun k =>
    let a := fOperand l f k fs1
    ⟨fSet f k fd (pack f a), fltFault f (a, false)⟩))

/-- CD_FMUL: enc(a·b). -/
def execCdFmul (l : LaneId) (c pc : Nat) (f : FFmt) (fd fs1 fs2 : Nat) (s : State) : Host.Outcome State Fault Refusal :=
  .next (s.coded l c pc false (fun k => fltOut l f k fd (fMul (fOperand l f k fs1) (fOperand l f k fs2), false)))

/-- CD_FDIV: enc(a / b). -/
def execCdFdiv (l : LaneId) (c pc : Nat) (f : FFmt) (fd fs1 fs2 : Nat) (s : State) : Host.Outcome State Fault Refusal :=
  .next (s.coded l c pc false (fun k => fltOut l f k fd (fDiv f (fOperand l f k fs1) (fOperand l f k fs2))))

/-- CD_FSQRT: enc(√a). -/
def execCdFsqrt (l : LaneId) (c pc : Nat) (f : FFmt) (fd fs1 : Nat) (s : State) : Host.Outcome State Fault Refusal :=
  .next (s.coded l c pc false (fun k => fltOut l f k fd (fSqrt f (fOperand l f k fs1))))

/-- CD_FMADD: enc(a·b + c). -/
def execCdFmadd (l : LaneId) (c pc : Nat) (f : FFmt) (fd fs1 fs2 fs3 : Nat) (s : State) : Host.Outcome State Fault Refusal :=
  .next (s.coded l c pc false (fun k => fltOut l f k fd
    (fAdd (fMul (fOperand l f k fs1) (fOperand l f k fs2)) (fOperand l f k fs3), false)))

/-- CD_FSGNJX: enc(fsgnjx(a, b)). -/
def execCdFsgnjx (l : LaneId) (c pc : Nat) (f : FFmt) (fd fs1 fs2 : Nat) (s : State) : Host.Outcome State Fault Refusal :=
  .next (s.coded l c pc false (fun k => fltOut l f k fd (fSgnjx (fOperand l f k fs1) (fOperand l f k fs2), false)))

/-! ### Custom-2: floats and integers (R164) -/

/-- CD_FLT: the coded boolean of a < b. -/
def execCdFlt (l : LaneId) (c pc : Nat) (f : FFmt) (rd fs1 fs2 rs3 : Nat) (s : State) : Host.Outcome State Fault Refusal :=
  .next (s.coded l c pc false (cdMixed l { z := true } rd rs3 (fun k =>
    b2i (fLt (fOperand l f k fs1) (fOperand l f k fs2)))))

/-- CD_FLE: the coded boolean of a ≤ b. -/
def execCdFle (l : LaneId) (c pc : Nat) (f : FFmt) (rd fs1 fs2 rs3 : Nat) (s : State) : Host.Outcome State Fault Refusal :=
  .next (s.coded l c pc false (cdMixed l { z := true } rd rs3 (fun k =>
    b2i ((fLt (fOperand l f k fs1) (fOperand l f k fs2) || fEq (fOperand l f k fs1) (fOperand l f k fs2))))))

/-- CD_FEQ: the coded boolean of a = b. -/
def execCdFeq (l : LaneId) (c pc : Nat) (f : FFmt) (rd fs1 fs2 rs3 : Nat) (s : State) : Host.Outcome State Fault Refusal :=
  .next (s.coded l c pc false (cdMixed l { z := true } rd rs3 (fun k =>
    b2i (fEq (fOperand l f k fs1) (fOperand l f k fs2)))))

/-- The Q values of cd.fcvt.x: a rounding mode 0 to 4 and a target 00, 01, 10 (R164). -/
def cvtQ (q : Nat) : Bool :=
  decide (bitsOf q 2 0 ≤ 4) && decide (bitsOf q 4 3 = 0) && decide (bitsOf q 6 5 ≤ 2) && decide (bitsOf q 7 7 = 0)

/-- The range of the target of cd.fcvt.x: I64, I32, U32. -/
def cvtRange (q : Nat) : Int × Int :=
  match bitsOf q 6 5 with
  | 0 => (-(2 ^ 63), 2 ^ 63 - 1)
  | 1 => (-(2 ^ 31), 2 ^ 31 - 1)
  | _ => (0, 2 ^ 32 - 1)

/-- CD_FCVT_X: code(convert(a)); the conversion saturates as the F extension's does (log entry 24). -/
def execCdFcvtX (l : LaneId) (c pc : Nat) (f : FFmt) (rd fs1 rs3 : Nat) (s : State) : Host.Outcome State Fault Refusal :=
  .next (s.coded l c pc false (fun k =>
    let q := pkQ (xReg k rs3).toNat
    cdMixed l { z := true, q := cvtQ } rd rs3 (fun k =>
      fConvert (bitsOf q 2 0) (cvtRange q).1 (cvtRange q).2 (fOperand l f k fs1)) k))

/-- CD_FCVT_F: enc(float(x)), x decoded under BX; a residue fault leaves the float result open (log entry 25). -/
def execCdFcvtF (l : LaneId) (c pc : Nat) (f : FFmt) (fd rs1 rs3 : Nat) (s : State) : Host.Outcome State Fault Refusal :=
  .next ((s.coded l c pc false (fun k =>
    let p := (xReg k rs3).toNat
    if !sigOk { x := true, q := fun q => decide (q ≤ 4) } p then ⟨fSet f k fd 0, cdSig⟩
    else match codeDec (pkX p) (cf l k CDA_D) (xReg k rs1) with
      | none => ⟨{ k with f := mapSet 0 k.f fd (Config.freeWord s.freeCtr) }, cdRes⟩
      | some x => fltOut l f k fd (unpack f (packRound f (pkQ p) (decide (x < 0)) x.natAbs 0 false), false))).drawn)

/-- CD_FCLASS: code(fclass(a)). -/
def execCdFclass (l : LaneId) (c pc : Nat) (f : FFmt) (rd fs1 rs3 : Nat) (s : State) : Host.Outcome State Fault Refusal :=
  .next (s.coded l c pc false (cdMixed l { z := true } rd rs3 (fun k => (fClass f (fOperand l f k fs1) : Int))))

/-- CD_FREBASE: enc(−fs1·2^(−s_old)), s_old in rs2; an s_old outside 1 to 15 leaves the result open (log entry 23). -/
def execCdFrebase (l : LaneId) (c pc : Nat) (f : FFmt) (fd fs1 rs2 : Nat) (s : State) : Host.Outcome State Fault Refusal :=
  .next ((s.coded l c pc false (fun k =>
    let so := (xReg k rs2).toNat
    if so = 0 || decide (15 < so) then ⟨{ k with f := mapSet 0 k.f fd (Config.freeWord s.freeCtr) }, 0⟩
    else fltOut l f k fd (fDec so (fReg f k fs1), false))).drawn)

/-! ### Faults -/

/-- ENCODED_PASS_ILLEGAL: a float instruction of R159 executed with PASS = 1 raises an illegal-instruction exception, sets
ILL, and the running task's local compare fails; with PASS = 0 it is no such instruction. -/
def execEncodedPassIllegal (l : LaneId) (c pc task : Nat) (s : State) : Host.Outcome State Fault Refusal :=
  if s.coreUp l c && decide (c < 4) && decide (cf l (s.core l c) CDA_CTL_PASS = 1) then
    .next (((s.coreSet l c { setFault l (s.core l c) cdIll pc with priv := .m }).coreTrap l c 2 pc none).taskFail l task)
  else .next s

end Sys2Proof.Machine
end

