-- ==== Sys2Proof/Machine/Vote.lean ====
section
/-! DEFINITION. Output vote and degradation (06): images, the two voters' decisions, membership, and the vote port. -/

namespace Sys2Proof.Machine

/-! ### Images (R171, R174) -/

/-- The 28 bytes before the CRC and the CRC. -/
def imageBytes32 (g : Image) : List Byte :=
  let flags := g.mode * 2 ^ 24 + g.confirm * 2 ^ 20 + g.suspect * 2 ^ 16 + g.members * 2 ^ 12 + g.lane * 16
    + b2n g.leave * 8 + b2n g.cand * 4 + b2n g.haltReq * 2 + b2n g.withheld
  let b := leBytes 8 g.frame ++ leBytes 4 g.out ++ leBytes 4 flags ++ leBytes 4 g.mapid ++ leBytes 8 0
  b ++ leBytes 4 (crc32c b)

/-- The fields that 32 bytes carry. -/
def parseImage (b : List Byte) : Image :=
  let w := leAt b 12 4
  { frame := leAt b 0 6, out := leAt b 8 4 % 2 ^ 17, mode := bitsOf w 27 24, confirm := bitsOf w 22 20,
    suspect := bitsOf w 18 16, members := bitsOf w 14 12, lane := bitsOf w 5 4, leave := bitOf w 3, cand := bitOf w 2,
    haltReq := bitOf w 1, withheld := bitOf w 0, mapid := leAt b 16 4 }

/-- Every reserved bit of an image is 0. -/
def imageReserved (b : List Byte) : Bool :=
  let w := leAt b 12 4
  decide (leAt b 6 2 = 0) && decide (leAt b 8 4 < 2 ^ 17) && decide (bitsOf w 31 28 = 0) && !bitOf w 23 && !bitOf w 19
    && !bitOf w 15 && decide (bitsOf w 11 6 = 0) && decide (leAt b 20 8 = 0)

/-- The first check of R174 that an image in time fails, by its row from 2 on; 0 when valid. -/
def imageCheck (v : Voter) (l : LaneId) (b : List Byte) : Nat :=
  let g := parseImage b
  if b.length ≠ 32 ∨ crc32c (b.take 28) ≠ leAt b 28 4 then 2
  else if g.frame ≠ v.frame then 3
  else if g.lane ≠ l.idx then 4
  else if g.mapid ≠ v.mapid then 5
  else if !imageReserved b then 6
  else 0

/-- MAPID: CRC-32C over VOT_CLS0, VOT_CLS1, VOT_SPOWN (R172). -/
def mapidOf (c0 c1 own : Nat) : Nat := crc32c (leBytes 4 c0 ++ leBytes 4 c1 ++ leBytes 4 own)

/-! ### Voters -/

/-- A voter's record of a lane. -/
def Voter.ln (v : Voter) : LaneId → VoterLane
  | .a => v.la | .b => v.lb | .c => v.lc

/-- Replace a voter's record of a lane. -/
def Voter.lnSet (v : Voter) (l : LaneId) (x : VoterLane) : Voter :=
  match l with
  | .a => { v with la := x } | .b => { v with lb := x } | .c => { v with lc := x }

/-- A voter of the block. -/
def State.voter (s : State) : VoterId → Voter
  | .v1 => s.v1 | .v2 => s.sup.v2

/-- Replace a voter. -/
def State.voterSet (s : State) (i : VoterId) (v : Voter) : State :=
  match i with
  | .v1 => { s with v1 := v } | .v2 => { s with sup := { s.sup with v2 := v } }

/-- 1 or 2, as the events name a voter. -/
def voterNum : VoterId → Nat
  | .v1 => 1 | .v2 => 2

/-- The die of a voter has its supply. -/
def State.voterUp (s : State) : VoterId → Bool
  | .v1 => s.hub.supplied | .v2 => s.sup.supplied

/-- An event of a voter: the hub records voter 1's, the supervisor's reach the book through the lanes (17 R457). -/
def State.voterEvt (s : State) (i : VoterId) (code : Nat) (parts : List (Nat × Nat)) : State :=
  match i with
  | .v1 => s.hubEvt code parts
  | .v2 => s.supEvt code parts

/-- A voter receives an image: the first valid one per lane and cycle is kept, a later one is discarded and counted (R173, R174). The
spec gives one counter of discarded images, the lane's VOT_CNT: DESIGN CHOICE, both voters' duplicates are counted there (log entry
60). -/
def State.voterReceive (s : State) (i : VoterId) (l : LaneId) (b : List Byte) : State :=
  let v := s.voter i
  let x := v.ln l
  if !s.voterUp i then s
  else if v.cut then s
  else if x.recv = .valid then s.lcount l VOT_CNT_DUP 1
  else
    let c := imageCheck v l b
    if c = 0 then s.voterSet i (v.lnSet l { x with recv := .valid, img := parseImage b })
    else
      let s := s.voterSet i (v.lnSet l { x with recv := .invalid })
      let s := match i with | .v1 => s.hcount VOT_V1_CNT_INVALID 1 | .v2 => s
      s.voterEvt i 0x2004 [(1, voterNum i), (1, l.idx), (1, c)]

/-- VOTER_IMAGE_RECEIVE: an image's last byte arrives at a voter before its cut-off or, after it, is late (R174). -/
def execVoterImageReceive (i : VoterId) (l : LaneId) (b : List Byte) (s : State) : Host.Outcome State Fault Refusal :=
  .next (s.voterReceive i l b)

/-- VOTER_IMAGE_CUTOFF: at edge n+1 − 20 µs every image not yet complete is late (R174). -/
def execVoterImageCutoff (i : VoterId) (s : State) : Host.Outcome State Fault Refusal :=
  if !s.voterUp i then .next s
  else
    let v := s.voter i
    let late := fun (x : VoterLane) => if x.recv = .missing then { x with recv := .late } else x
    .next (s.voterSet i { v with cut := true, la := late v.la, lb := late v.lb, lc := late v.lc })

/-! ### The decision (R175) -/

/-- The class of output `i`, 0 to 16; bit 16 is always class 1 (R172). -/
def Voter.clsOf (v : Voter) (i : Nat) : Nat := if i = 16 then 1 else bitsOf v.classes (4 * i + 3) (4 * i)

/-- The SPLIT owner of a class 2 output. -/
def Voter.ownOf (v : Voter) (i : Nat) : Nat := bitsOf v.owners (2 * i + 1) (2 * i)

/-- Lane `l`'s image of the cycle is valid. -/
def Voter.valid (v : Voter) (l : LaneId) : Bool := (v.ln l).recv = .valid

/-- Lane `l`'s image is valid and not withheld. -/
def Voter.votes (v : Voter) (l : LaneId) : Bool := v.valid l && !(v.ln l).img.withheld

/-- Lane `l`'s counted image asks for output `i` in a voted mode. -/
def Voter.asksSafe (v : Voter) (i : Nat) (l : LaneId) : Bool :=
  v.votes l && ((v.ln l).img.mode == 3 || (v.ln l).img.mode == 4) && bitOf (v.ln l).img.out i

/-- Lane `l`'s image asks for output `i` in SPLIT. -/
def Voter.asksSplit (v : Voter) (i : Nat) (l : LaneId) : Bool :=
  v.votes l && (v.ln l).img.mode == 5 && bitOf (v.ln l).img.out i && !inSet v.disregarded l

/-- The decision on one output (R175): two members decide a voted output, the owner an owned one; everything is off in
the halt state and in every other mode. -/
def Voter.decideBit (v : Voter) (i : Nat) : Bool :=
  if v.halt then false
  else
    let c := v.clsOf i
    let voted := decide (2 ≤ laneSetCount (laneSet (fun l => inSet v.members l && v.asksSafe i l)))
    if v.split then
      if c = 2 then decide (v.ownOf i < 3) && v.asksSplit i (laneOf (v.ownOf i))
      else if 3 ≤ c ∧ c ≤ 5 then v.asksSplit i (laneOf (c - 3))
      else false
    else
      if c = 1 ∨ c = 2 then voted
      else if 3 ≤ c ∧ c ≤ 5 then inSet v.members (laneOf (c - 3)) && v.asksSafe i (laneOf (c - 3))
      else false

/-- All seventeen bits of the decision. -/
def Voter.verdict (v : Voter) : Nat := (List.range 17).foldl (fun a i => a + b2n (v.decideBit i) * 2 ^ i) 0

/-- Mask of the voted outputs: classes 1 and 2. -/
def Voter.votedMask (v : Voter) : Nat :=
  (List.range 17).foldl (fun a i => a + b2n (v.clsOf i == 1 || v.clsOf i == 2) * 2 ^ i) 0

/-- Bits of class 1 and 2 in which two lanes' images differ. -/
def Voter.differ (v : Voter) (l k : LaneId) : Nat :=
  nAnd (nXor (v.ln l).img.out (v.ln k).img.out) v.votedMask

/-- R178 case 3: with three members, the bits in which the other two agree against lane `l`. -/
def Voter.minority (v : Voter) (l : LaneId) : Nat :=
  let j := l.next
  let k := l.prev
  if v.members = 7 && v.votes l && v.votes j && v.votes k then nAndNot (v.differ l j) (v.differ j k) else 0

/-- How many members' valid images carry HALT_REQ. -/
def Voter.haltCount (v : Voter) : Nat :=
  laneSetCount (laneSet (fun l => inSet v.members l && v.valid l && (v.ln l).img.haltReq))

/-- The outcome code of a lane (R196). -/
def Voter.outcomeOf (v : Voter) (l : LaneId) : Nat :=
  let x := v.ln l
  if inSet v.disregarded l then 6
  else match x.recv with
    | .missing | .late => 4
    | .invalid => 5
    | .valid =>
      if !v.split && !inSet v.members l then (if x.img.cand then 3 else 8)
      else if x.img.haltReq then 7
      else if x.img.withheld then 2
      else if v.minority l ≠ 0 then 1
      else 0

/-- The OUTCOME field of all three lanes. -/
def Voter.outcomes (v : Voter) : Nat := v.outcomeOf .a + 16 * v.outcomeOf .b + 256 * v.outcomeOf .c

/-- CAND_OK (R190): the candidate's image is valid, not withheld, and equal in every voted bit on which the members
agree. -/
def Voter.candOkOf (v : Voter) : Nat :=
  laneSet (fun l =>
    let ms := lanes.filter (fun k => inSet v.members k && v.votes k)
    let agreed := match ms with
      | [p, q] => nAndNot v.votedMask (v.differ p q)
      | _ => 0
    !inSet v.members l && v.votes l && (v.ln l).img.cand
      && ms.all (fun k => decide (nAnd (v.differ l k) agreed = 0)))

/-! ### Watchdogs and limits -/

/-- WD_LIM and WH_LIM as voter 2 holds them. -/
def Voter.wd (v : Voter) : Nat := if v.wdLim = 0 then 2 else v.wdLim
def Voter.wh (v : Voter) : Nat := if v.whLim = 0 then 3 else v.whLim

/-- Lane `l`'s counts after one more decided cycle (R178 case 5, R179). -/
def Voter.countLane (v : Voter) (l : LaneId) : VoterLane :=
  let x := v.ln l
  { x with miss := if v.valid l then 0 else x.miss + 1, whRun := if v.votes l then 0 else x.whRun + 1 }

/-- Both counts of every lane after one more decided cycle. -/
def Voter.counted (v : Voter) : Voter :=
  { v with la := v.countLane .a, lb := v.countLane .b, lc := v.countLane .c }

/-- The next cycle's images are collected from now on. -/
def Voter.nextCycle (v : Voter) (f : Nat) : Voter :=
  { v with
    frame := f, cut := false, la := { v.la with recv := .missing }, lb := { v.lb with recv := .missing },
    lc := { v.lc with recv := .missing } }

/-! ### Membership (R178 to R184) -/

/-- The case of R178 that removes member `l` at this edge, 0 for none. -/
def removalCase (v : Voter) (spacing : Nat) (l : LaneId) : Nat :=
  let x := v.ln l
  let three := v.members = 7
  let ok := v.valid l
  if v.wd ≤ x.miss ∨ inSet spacing l then 1
  else if ok && (x.img.leave || (three && x.img.haltReq && decide (v.haltCount = 1))) then 2
  else if v.minority l ≠ 0 then 3
  else if three && v.valid l.next && v.valid l.prev && inSet (v.ln l.next).img.suspect l
      && inSet (v.ln l.prev).img.suspect l then 4
  else if v.wh ≤ x.whRun then 5
  else 0

/-- The lane admitted at this edge, as a set (R191): carried in ADMIT by two remaining members, its own image valid with
CAND. -/
def admitSet (v : Voter) (remain : Nat) : Nat :=
  laneSet (fun l => !inSet v.members l && v.valid l && (v.ln l).img.cand
    && decide (2 ≤ laneSetCount (laneSet (fun k => inSet remain k && v.valid k && inSet (v.ln k).img.confirm l))))

/-- The cause of a halt of voter 2, numbered as R176's cases; 4 is the disagreement of R179; 0 for none. -/
def haltCause (v : Voter) (remain : Nat) : Nat :=
  let two := laneSetCount v.members = 2
  if 2 ≤ v.haltCount then 1
  else if two && decide (1 ≤ v.haltCount) then 2
  else if laneSetCount remain < 2 then 3
  else if two && (match lanes.filter (fun k => inSet v.members k && v.votes k) with
      | [p, q] => decide (v.differ p q ≠ 0)
      | _ => false) then 4
  else 0

/-- What is left of a lane without supply: what the hub ends of its bridge and cellar-book port hold for it (10 R302, 17
R470; the link has been reset, 10 R300), and the supervisor's records of it. -/
def lostSupply (x : Lane) : Lane :=
  let hubEnd := x.regs.filter (fun p => decide (0x50300000 ≤ p.1) && !(decide (0x50310000 ≤ p.1) && decide (p.1 < 0x50310108)))
  let done := mapGet 0 x.regs BRG_WDONE.reg
  { regs := if done = 0 then hubEnd else mapInsert hubEnd BRG_WDONE_PREV.reg done
    out := x.out
    sum := { attempts := x.sum.attempts }
    book := x.book }

/-- The newest frame number of a lane that loses its supply stays recorded: the number of the last edge when every lane has lost it
(02 R52). -/
def State.noteFrame (s : State) (l : LaneId) : State :=
  if s.ticking l then
    { s with sup := { s.sup with ka := { s.sup.ka with lastFrame := frameMax s.sup.ka.lastFrame (s.frame l) } } }
  else s

/-- The neighbours of a lane without supply lose the synchronisation of their links to it (04 R137). -/
def State.linksDown (s : State) (l : LaneId) : State :=
  (s.lfSet l.next XCH_LINK_UP_PREV 0).lfSet l.prev XCH_LINK_UP_NEXT 0

/-- A lane loses its supply: its registers, private memory and units lose their content (01 R26), and the engine stops its
channels (09 R279). -/
def State.lanePowerOff (s : State) (l : LaneId) : State :=
  (((s.noteFrame l).linksDown l).pdeLaneOff l).setLane l (lostSupply (s.lane l))

/-- A lane gains supply: nothing of its units runs, and its tick is stopped (02 R78). -/
def State.powerLane (s : State) (l : LaneId) : State :=
  (s.updLane l (fun x => { x with supplied := true })).lfSet l TCK_STATUS_PHASE 7

/-- Remove and restore a lane's supply: it restarts alone from start step `k` (R184, 08 R245). Its mode registers read the life-cycle
state from step S2 on (03 R105). -/
def State.laneRestart (s : State) (l : LaneId) (k : Nat) : State :=
  let s := ((s.lanePowerOff l).powerLane l).updLane l (fun x => { x with restart := some (k, true) })
  if k = 2 then s.showLone l else s

/-- Pages of the state map: S in 4 KiB pages. -/
def State.smapEntry (s : State) (l : LaneId) (i : Nat) : Nat × Nat :=
  let b := s.lmem l ((s.lreg l VOT_SMAP.reg).toNat + 8 * i) 8
  (leAt b 0 4, leAt b 4 4)

/-- The entries of the state map: base page and size in pages (R185). -/
def State.smap (s : State) (l : LaneId) : List (Nat × Nat) :=
  (List.range (s.lf l VOT_SCFG_ENTRIES)).map (s.smapEntry l)

/-- SMAPID: CRC-32C over the entries. -/
def State.smapid (s : State) (l : LaneId) : Nat :=
  crc32c ((s.smap l).flatMap (fun e => leBytes 4 e.1 ++ leBytes 4 e.2))

/-- Pages of mapped state. -/
def State.smapPages (s : State) (l : LaneId) : Nat := ((s.smap l).map (·.2)).sum

/-- The lane page of page `k` of the state map. -/
def pageOf : List (Nat × Nat) → Nat → Nat
  | [], _ => 0
  | (b, n) :: es, k => if k < n then b + k else pageOf es (k - n)

/-- The members in ascending order. -/
def State.memberList (s : State) : List LaneId := lanes.filter (fun l => inSet s.members l)

/-- Realignment attempts of a lane within the last 3 600 s (R192). -/
def State.recentAttempts (s : State) (l : LaneId) : List Nat :=
  (s.lane l).sum.attempts.filter (fun f => decide (frameDiff s.sup.frame f < (s.framesOf 3600 : Int)))

/-- A lane enters realignment with the two members as donors, unless its limit is used up (R187, R191, R192). -/
def State.startRealign (s : State) (t : LaneId) : State :=
  match s.memberList with
  | [d, e] =>
    let pages := s.smapPages d
    if s.lf d VOT_SCFG_ENTRIES = 0 then s.updLane t (fun x => { x with out := true })
    else if s.obj 0x1141 3 ≤ (s.recentAttempts t).length then
      (s.supEvt 0x2024 [(1, t.idx)]).updLane t (fun x => { x with out := true })
    else
      let even := (List.range pages).filter (fun k => k % 2 == 0)
      let odd := (List.range pages).filter (fun k => k % 2 == 1)
      let donor := fun (s : State) (l : LaneId) (ps : List Nat) =>
        let s := s.updLane l (fun x => { x with sum := { x.sum with
          bulk := ps, marked := [], dirtyPass := [], finalPass := [], target := some t, bulkStart := s.sup.frame,
          cleanRun := 0, candCycles := 0 } })
        let s := s.lfSet l VOT_RLN_ROLE 1
        let s := s.lfSet l VOT_RLN_PASS 0
        s.lfSet l VOT_RLN_DUE ps.length
      let s := donor s d even
      let s := donor s e odd
      let s := s.updLane t (fun x => { x with
        sum := { x.sum with
          bulk := List.range pages, target := some t, bulkStart := s.sup.frame, candCycles := 0,
          attempts := s.sup.frame :: s.recentAttempts t }
        rt := { x.rt with cand := false } })
      let s := s.lfSet t VOT_RLN_ROLE 2
      let s := s.lfSet t VOT_RLN_PASS 0
      let s := s.lfSet t VOT_RLN_DUE pages
      s.supEvt 0x2020 [(1, t.idx), (1, 2 ^ d.idx + 2 ^ e.idx), (4, pages)]
  | _ => s

/-- What follows a lane's removal (R184): restart, or realignment only after a divergence of its own; a lane that
racking takes out is left to racking. -/
def State.afterRemoval (s : State) (l : LaneId) (c : Nat) (leave : Bool) : State :=
  -- a lane below the guaranteed clock is kept without supply (18 R489)
  if (s.lane l).out then s.lanePowerOff l
  else match s.rack.install with
  | some i =>
    if c = 2 && leave && decide (i.lanes.head? = some l.idx) then
      -- 08 R245: start steps S0, S2 (staged bank), S3, S4 and S5 alone
      let s := s.laneRestart l 0
      { s with rack := { s.rack with install := some { i with left := true, removed := s.sup.frame } } }
    else if c = 2 && leave then s.startRealign l
    else s.laneRestart l 2
  | none => if c = 2 && leave then s.startRealign l else s.laneRestart l 2

/-- The hub management cores restart from a bank (08 R246, event 0x8022): open transfers and unanswered requests are
lost. -/
def State.beginHubRestart (s : State) (bank : Nat) : State :=
  let s := s.decantEnd 6
  let s := { s with
    rack := { s.rack with state := 7, hubRestart := some s.sup.frame, hubReports := 0 }
    hub := { s.hub with bank := bank, mgmtUp := false }
    svc := { s.svc with transfers := [], dead := [], canRx := none, relay := [], reqs := [] } }
  s.tbRestart.supEvt 0x8022 [(1, bank)]

/-- The staged bank, the one that is not committed. -/
def State.stagedFwBank (s : State) : Nat := 1 - s.sup.ka.fwBank

/-- Frames as milliseconds at the committed period. -/
def State.framesMs (s : State) (n : Nat) : Nat := n * s.period / 1000000

/-- The lane that installation waits for is admitted: event 0x8021, and the next lane's turn; after the last lane the hub
restarts, or the revert is over (08 R245, R247). -/
def State.installAdmitted (s : State) (t : LaneId) : State :=
  match s.rack.install with
  | none => s
  | some i =>
    if i.left && decide (i.lanes.head? = some t.idx) then
      let ms := s.framesMs (frameDiff s.sup.frame i.removed).toNat
      let s := if i.revert then s else s.supEvt 0x8021 [(1, t.idx), (4, ms)]
      let i := { i with lanes := i.lanes.drop 1, left := false }
      let s := { s with rack := { s.rack with install := some i } }
      if i.lanes ≠ [] then s
      else if i.revert then { s with rack := { s.rack with install := none, state := 2 } }
      else s.beginHubRestart s.stagedFwBank
    else s

/-- Take lanes out of voter 2's member set: event 0x2001 and the removal count for each (R178, R199). -/
def State.removeMembers (s : State) (cases : List (LaneId × Nat)) (n : Nat) : State :=
  cases.foldl (fun s p =>
    let v := s.sup.v2
    let s := { s with sup := { s.sup with v2 := { v with members := nAndNot v.members (2 ^ p.1.idx) } } }
    (s.supEvt 0x2001 [(1, p.1.idx), (1, p.2), (6, n)]).cntAdd 0x1143 (1 + p.1.idx) 1) s

/-- Voter 2 enters its halt state and opens its switches; HALT follows at edge n+2 (R176, R180). -/
def State.voter2Halt (s : State) (cause n : Nat) : State :=
  let s := { s with sup := { s.sup with v2 := { s.sup.v2 with halt := true, out := 0 } } }
  let s := s.supEvt 0x2003 [(1, if cause = 4 then 0 else cause), (1, s.sup.v2.members)]
  s.setDue .halt (frameAdd n 2) 12

/-- Form the member set at edge n+1 from the images of cycle n: removal, halt, admission, and the mode that follows
(R178 to R180, R191). -/
def State.formMembers (s : State) (v : Voter) (n : Nat) : State :=
  let cases := (lanes.filter (fun l => inSet v.members l)).filterMap (fun l =>
    match removalCase v s.sup.spacing l with
    | 0 => none
    | c => some (l, c))
  let remain := nAndNot v.members (laneSet (fun l => cases.any (fun p => p.1 == l)))
  let hc := haltCause v remain
  let s := s.removeMembers cases n
  if hc ≠ 0 then s.voter2Halt hc n
  else
    let adm := admitSet v remain
    let s := cases.foldl (fun s p => s.afterRemoval p.1 p.2 (v.ln p.1).img.leave) s
    let s := if cases ≠ [] then s.setDue .safe2 (frameAdd n 2) 10 else s
    if adm ≠ 0 && decide (laneSetCount remain = 2) then
      let t := laneOf (if inSet adm .a then 0 else if inSet adm .b then 1 else 2)
      -- the candidate's cycles as the members have counted them
      let cycles := match lanes.find? (inSet remain) with | some d => (s.lane d).sum.candCycles | none => 0
      let s := { s with sup := { s.sup with v2 := { s.sup.v2 with members := nOr s.sup.v2.members (2 ^ t.idx) } } }
      let s := s.updLane t (fun x => { x with rt := { x.rt with cand := false } })
      let s := onLanes (fun l s => (s.lfSet l VOT_RLN_ROLE 0).updLane l (fun x =>
        { x with sum := { x.sum with target := none, bulk := [], dirtyPass := [], finalPass := [], marked := [] } })) s
      let s := (s.supEvt 0x2002 [(1, t.idx), (4, cycles)]).cntAdd 0x1143 (4 + t.idx) 1
      let s := ({ s with rack := { s.rack with lastJoin := n } }).installAdmitted t
      s.setDue .safe3 (frameAdd n 2) 11
    else s

/-- Voter events of one decided cycle: late, withheld, minority and differing images (R199). -/
def State.voterEvents (s : State) (i : VoterId) (v : Voter) : State :=
  let s := onLanes (fun l s =>
    if (v.ln l).recv = .missing ∨ (v.ln l).recv = .late then
      -- in SPLIT a lane counts until it is disregarded, also where voter 1 knows no member set
      if (inSet v.members l || (v.split && decide (v.members = 0))) && !inSet v.disregarded l && runMode s.md.mode then
        let s := match i with | .v1 => s.hcount VOT_V1_CNT_MISSING 1 | .v2 => s
        s.voterEvt i 0x2005 [(1, voterNum i), (1, l.idx)]
      else s
    else s) s
  match i with
  | .v1 => s
  | .v2 =>
    let s := onLanes (fun l s =>
      if v.minority l ≠ 0 then s.supEvt 0x2007 [(1, l.idx), (4, v.minority l)] else s) s
    match lanes.filter (fun l => inSet v.members l && v.votes l) with
    | [p, q] =>
      if v.members = 7 && decide (v.differ p q ≠ 0) then
        s.supEvt 0x2008 [(1, 2 ^ p.idx + 2 ^ q.idx), (4, v.differ p q)]
      else s
    | _ => s

/-- The status record of cycle n as bytes of a link to the lanes (R181). -/
def statusBytes (r : StatusRecord) : List Byte :=
  let b := beBytes 8 r.frame ++ beBytes 4 (2 ^ 31 + b2n r.halt * 2 ^ 30 + r.candOk * 2 ^ 24 + r.members * 2 ^ 20 + r.outcome)
    ++ beBytes 4 r.out
  b ++ beBytes 4 (crc32c b)

/-- Send the status record to the three lanes (R181). -/
def State.sendStatus (s : State) (n : Nat) : State :=
  let v := s.sup.v2
  let b := statusBytes ⟨n, v.halt, v.candOk, v.members, v.outcome, v.out⟩
  onLanes (fun l s => if (s.lane l).supplied then s.emit .statusRecord l.idx 0 b else s) s

/-- In SPLIT a voter disregards a lane that takes part: its owned outputs are off, event 0x2040; voter 2's verdict takes the supply
away, and HALT follows at the next edge when no lane is left (R195). Voter 1 knows who takes part by its member set, where it holds
one. -/
def State.disregard (s : State) (i : VoterId) (l : LaneId) (cause : Nat) : State :=
  let v := s.voter i
  let part := inSet v.members l || (i == .v1 && decide (v.members = 0))
  if inSet v.disregarded l || !part then s
  else
    let s := s.voterSet i { v with disregarded := nOr v.disregarded (2 ^ l.idx) }
    let s := s.voterEvt i 0x2040 [(1, l.idx), (1, cause)]
    match i with
    | .v1 => s
    | .v2 =>
      let s := s.lanePowerOff l
      if nAndNot v.members s.sup.v2.disregarded = 0 then
        ({ s with sup := { s.sup with v2 := { s.sup.v2 with halt := true, out := 0 } } }).setDue .halt
          (frameAdd s.sup.frame 1) 14
      else s

/-- The SPLIT rules of one edge at a voter (R195): causes 1 watchdog, 2 halt request. -/
def State.splitEdge (s : State) (i : VoterId) (v : Voter) : State :=
  onLanes (fun l s =>
    if v.valid l && (v.ln l).img.haltReq then s.disregard i l 2
    else if v.wd ≤ (v.ln l).miss then s.disregard i l 1
    else s) s

/-- The closing phase runs on the hold-up store: both voters keep every switch open from its trigger on (03 R100). -/
def State.shutHoldup (s : State) : Bool := match s.md.closing with | some c => c.holdup | none => false

/-- Forget what a voter has counted of the lanes: the edge that enters a mode begins anew (R177). -/
def Voter.cleared (v : Voter) : Voter := { v with fresh := false, la := {}, lb := {}, lc := {} }

/-- A voter's decision of the cycle that has ended, with its outcomes; every switch stays open in a closing phase on hold-up. -/
def State.takeVerdict (s : State) (v : Voter) : Voter :=
  { v with out := if s.shutHoldup then 0 else v.verdict, outcome := v.outcomes, candOk := v.candOkOf }

/-- Voter 2 at edge n+1 (R175 to R181): it counts, in SPLIT disregards lanes, decides cycle n, forms the member set and sends its
record. At the edge that enters a voted mode or SPLIT it only begins to collect images (R177). -/
def State.voter2Edge (s : State) (edge : Nat) : State :=
  let v := s.sup.v2
  if v.fresh then
    let v := { v.cleared with out := 0, outcome := 0, candOk := 0 }
    ({ s with sup := { s.sup with v2 := v.nextCycle edge } }).sendStatus (frameAdd edge (frameMod - 1))
  else
    let n := v.frame
    let v := v.counted
    let s := s.voterEvents .v2 v
    let s := { s with sup := { s.sup with v2 := v } }
    let s := if v.split && runMode s.md.mode && !v.halt then s.splitEdge .v2 v else s
    let v := s.takeVerdict s.sup.v2
    let s := { s with sup := { s.sup with v2 := v } }
    let s := if !runMode s.md.mode || v.halt || v.split then s else s.formMembers v n
    let s := { s with sup := { s.sup with v2 := s.sup.v2.nextCycle edge, spacing := 0 } }
    s.sendStatus n

/-- The MEMBERS value that at least two valid images of a set of lanes carry (R177, R182); 0b000 is no value. -/
def carriedMembers (v : Voter) (among : Nat) : Option Nat :=
  let vs := (lanes.filter (fun l => inSet among l && v.valid l)).map (fun l => (v.ln l).img.members)
  match vs with
  | [p, q] => if p = q ∧ p ≠ 0 then some p else none
  | [p, q, r] =>
    if (p = q ∨ p = r) ∧ p ≠ 0 then some p else if q = r ∧ q ≠ 0 then some q else none
  | _ => none

/-- Voter 1's halt at the decision of a cycle (R176), by the member set it decides with: halt requests among its members, or MODE = HALT
from two of them. -/
def voter1Halts (v : Voter) : Bool :=
  decide (2 ≤ v.haltCount) || (decide (laneSetCount v.members = 2) && decide (1 ≤ v.haltCount))
    || decide (2 ≤ laneSetCount (laneSet (fun l => inSet v.members l && v.valid l && (v.ln l).img.mode == 6)))

/-- Show voter 1's decision in its registers (R197). -/
def State.showVoter1 (s : State) (n : Nat) : State :=
  let v := s.v1
  let s := s.hfSet VOT_V1_STATUS_HALT (b2n v.halt)
  let s := s.hfSet VOT_V1_STATUS_MEMBERS v.members
  let s := s.hfSet VOT_V1_STATUS_OUTCOME v.outcome
  let s := s.hfSet VOT_V1_FRAME n
  s.hfSet VOT_V1_OUT v.out

/-- Voter 1 takes the MEMBERS value that two images carry: any two lanes' while it holds no member set (R177), else two of its members'
(R182), which halts it when it names fewer than two lanes (R176); in SPLIT there is no membership beyond the first value (R194). -/
def Voter.adopt (v : Voter) : Voter :=
  if v.members = 0 then { v with members := (carriedMembers v 7).getD 0 }
  else if v.split then v
  else match carriedMembers v v.members with
    | some m => { v with members := m, halt := v.halt || decide (laneSetCount m < 2) }
    | none => v

/-- Voter 1 at the hub's edge n+1 (R175 to R177, R182, R195). -/
def State.voter1Edge (s : State) (edge : Nat) : State :=
  let v := s.v1.counted.adopt
  let n := v.frame
  let v := { v with halt := v.halt || (!v.split && voter1Halts v) }
  let s := s.voterEvents .v1 v
  let s := { s with v1 := v }
  let s := if v.split && runMode s.md.mode && !v.fresh then s.splitEdge .v1 v else s
  let w := s.takeVerdict s.v1
  let s := { s with v1 := (if w.fresh then w.cleared else w).nextCycle edge }
  s.showVoter1 n

/-! ### Commands of the vote port and the voters -/

/-- Lane `l`'s own output map identity. -/
def State.ownMapid (s : State) (l : LaneId) : Nat := mapidOf (s.lf l VOT_CLS0) (s.lf l VOT_CLS1) (s.lf l VOT_SPOWN)

/-- VOT_IMG_SEND: a write of VOT_IMG7 by the lane-management core sends the image to voter 2 (R173); application cores'
writes are ignored (R196). -/
def execVotImgSend (l : LaneId) (c : Nat) (w : Word) (s : State) : Host.Outcome State Fault Refusal :=
  if !(s.lane l).supplied || c ≠ 4 then .next s
  else
    let s := s.lfSet l (VOT_IMG 7) w.toNat
    .next (s.emit .voter2Image l.idx 0 ((List.range 8).flatMap (fun i => leBytes 4 (s.lf l (VOT_IMG i)))))

/-- VOT_V1_IMG_LATCH: a write of VOT_V1_IMG7 latches the eight words in voter 1 as the image of the lane whose bridge
link delivered it (R197). -/
def execVotV1ImgLatch (l : LaneId) (w : Word) (s : State) : Host.Outcome State Fault Refusal :=
  if !(s.lane l).supplied || !s.hub.supplied then .next s
  else
    let s := s.lfSet l (VOT_V1_IMG 7) w.toNat
    .next (s.voterReceive .v1 l ((List.range 8).flatMap (fun i => leBytes 4 (s.lf l (VOT_V1_IMG i)))))

/-- Voter 2 accepts a configuration only when every lane that takes part has sent identical values (R196). -/
def State.voter2Accept (s : State) (part : Nat) : State :=
  let v := s.sup.v2
  let sent := (lanes.filter (fun l => inSet part l)).map (fun l => mapFind v.cfg l.idx)
  match sent with
  | some [c0, c1, own, ctl] :: rest =>
    if rest.all (fun x => x == some [c0, c1, own, ctl]) then
      { s with sup := { s.sup with v2 := { v with
        cfgOk := true, classes := c0 + c1 * 2 ^ 32, owners := own, mapid := mapidOf c0 c1 own,
        wdLim := bitsOf ctl 23 20, whLim := bitsOf ctl 19 16, split := bitOf ctl 1 } } }
    else { s with sup := { s.sup with v2 := { v with cfgOk := false } } }
  | _ => { s with sup := { s.sup with v2 := { v with cfgOk := false } } }

/-- VOT_CTL_SEND: SEND sends VOT_CLS0, VOT_CLS1, VOT_SPOWN and VOT_CTL to voter 2; a limit of 0 is sent as its default
(R196). Voter 2 takes over the values at once when they come from every supplied lane alike. -/
def execVotCtlSend (l : LaneId) (c : Nat) (s : State) : Host.Outcome State Fault Refusal :=
  if !(s.lane l).supplied || c ≠ 4 || !s.sup.supplied then .next s
  else
    let ctl := s.lf l VOT_CTL
    let wd := if bitsOf ctl 23 20 = 0 then 2 else bitsOf ctl 23 20
    let wh := if bitsOf ctl 19 16 = 0 then 3 else bitsOf ctl 19 16
    let ctl := setBits (setBits (setBit ctl 0 false) 23 20 wd) 19 16 wh
    let v := s.sup.v2
    let words := [s.lf l VOT_CLS0, s.lf l VOT_CLS1, s.lf l VOT_SPOWN, ctl]
    .next (({ s with sup := { s.sup with v2 :=
      { v with cfg := mapInsert (mapErase v.cfg l.idx) l.idx words } } }).voter2Accept s.suppliedSet)

/-- LANE_WATCHDOG_EXPIRE: a lane not serviced at WD_LIM consecutive edges expires. In a voted mode voter 2 removes the
member (R178 case 1), in SPLIT it disregards the lane (R195). -/
def execLaneWatchdogExpire (l : LaneId) (s : State) : Host.Outcome State Fault Refusal :=
  let v := s.sup.v2
  if !s.sup.supplied || v.halt || (v.ln l).miss < v.wd || !inSet v.members l || !runMode s.md.mode then .next s
  else if v.split then .next (s.disregard .v2 l 1)
  else
    let s := s.removeMembers [(l, 1)] v.frame
    if laneSetCount s.sup.v2.members < 2 then .next (s.voter2Halt 3 v.frame)
    else .next ((s.laneRestart l 2).setDue .safe2 (frameAdd v.frame 2) 10)

/-- WITHHOLD_LIMIT_REMOVE: a member without a valid, non-withheld image in WH_LIM consecutive cycles is removed (R178
case 5). -/
def execWithholdLimitRemove (l : LaneId) (s : State) : Host.Outcome State Fault Refusal :=
  let v := s.sup.v2
  if !s.sup.supplied || v.halt || v.split || (v.ln l).whRun < v.wh || !inSet v.members l || !safeMode s.md.mode then
    .next s
  else
    let s := s.removeMembers [(l, 5)] v.frame
    if laneSetCount s.sup.v2.members < 2 then .next (s.voter2Halt 3 v.frame)
    else .next ((s.laneRestart l 2).setDue .safe2 (frameAdd v.frame 2) 10)

/-- VOTER1_DISREGARD: in SPLIT voter 1 disregards a lane after WD_LIM consecutive edges without a valid image (R195). -/
def execVoter1Disregard (l : LaneId) (s : State) : Host.Outcome State Fault Refusal :=
  let v := s.v1
  if !s.hub.supplied || !v.split || (v.ln l).miss < v.wd then .next s
  else .next (s.disregard .v1 l 1)

/-- A new expected state (R406): outputs that changed, at the lane's edge. -/
def State.newExpected (s : State) (l : LaneId) (old new : Nat) : State :=
  let n := s.frame l
  s.updLane l (fun x => { x with fe := { x.fe with
    expChg := (List.range 17).foldl (fun m o => if bitOf (nXor old new) o then mapInsert (mapErase m o) o n else m) x.fe.expChg } })

/-- STATUS_RECORD_RECEIVE: a lane takes voter 2's status record; an invalid one leaves VALID clear (R181). -/
def execStatusRecordReceive (l : LaneId) (r : StatusRecord) (crcOk : Bool) (s : State) :
    Host.Outcome State Fault Refusal :=
  if !s.ticking l then .next s
  else if !crcOk then .next (s.lfSet l VOT_V2STAT_VALID 0)
  else
    let old := s.lf l VOT_V2STAT_MEMBERS
    let s := s.lfSet l VOT_V2FRAME r.frame
    let s := s.lfSet l VOT_V2STAT_VALID (b2n (frameAdd r.frame 1 == s.frame l))
    let s := s.lfSet l VOT_V2STAT_HALT (b2n r.halt)
    let s := s.lfSet l VOT_V2STAT_CAND_OK r.candOk
    let s := s.lfSet l VOT_V2STAT_MEMBERS r.members
    let s := s.lfSet l VOT_V2STAT_OUTCOME r.outcome
    let s := (s.newExpected l (s.lf l VOT_V2OUT) r.out).lfSet l VOT_V2OUT r.out
    let s := if old = r.members % 8 then s else s.lfSet l VOT_INT_STAT_MEMBERS 1
    .next (s.lfSet l VOT_INT_STAT_STATUS 1)

/-- VOTER_OUTPUT_COMPARE, in L once voter 2's record has come: the two voters' bits of class 1 and 2, and their member sets, of one
decided cycle (R183). -/
def State.voterCompare (s : State) (l : LaneId) : State :=
  let f := s.hf VOT_V1_FRAME
  let rt := (s.lane l).rt
  if f ≠ s.lf l VOT_V2FRAME ∨ rt.vCmp = some f ∨ !s.inVote l ∨ !safeMode (s.laneMode l) then s
  else
    let bits := nAnd (nXor (s.hf VOT_V1_OUT) (s.lf l VOT_V2OUT)) s.sup.v2.votedMask
    let ms := decide (s.hf VOT_V1_STATUS_MEMBERS ≠ s.lf l VOT_V2STAT_MEMBERS)
    s.updLane l (fun x => { x with rt := { x.rt with
      vCmp := some f, vBits := bits, vDiff := if bits ≠ 0 then rt.vDiff + 1 else 0, mDiff := if ms then rt.mDiff + 1 else 0,
      vRec := rt.vRec && decide (bits ≠ 0), mRec := rt.mRec && ms } })

/-- VOTER_DIFFERENCE_RECORD: a difference at 2 consecutive edges is recorded once (R183, event 0x2030). -/
def execVoterDifferenceRecord (l : LaneId) (s : State) : Host.Outcome State Fault Refusal :=
  let rt := (s.lane l).rt
  if !s.ticking l || rt.vDiff < 2 || rt.vRec then .next s
  else
    .next ((s.laneEvt l 0x2030 [(4, rt.vBits), (4, rt.vDiff)]).updLane l (fun x =>
      { x with rt := { x.rt with vRec := true } }))

/-- VOTER_DIFFERENCE_HALT: outputs or member sets that differ at 8 consecutive edges make the member send HALT_REQ in its
next image; the member sets are recorded then (R183, event 0x2030). -/
def execVoterDifferenceHalt (l : LaneId) (s : State) : Host.Outcome State Fault Refusal :=
  let rt := (s.lane l).rt
  if s.ticking l && s.inVote l && (decide (8 ≤ rt.vDiff) || decide (8 ≤ rt.mDiff)) then
    let s := if 8 ≤ rt.mDiff && !rt.mRec then
        (s.laneEvt l 0x2030 [(1, s.hf VOT_V1_STATUS_MEMBERS), (1, s.lf l VOT_V2STAT_MEMBERS), (4, rt.mDiff)]).updLane l
          (fun x => { x with rt := { x.rt with mRec := true } })
      else s
    .next (s.updLane l (fun x => { x with rt := { x.rt with haltReq := true } }))
  else .next s

end Sys2Proof.Machine
end

