-- ==== Sys2Proof/Machine/Realign.lean ====
section
/-! DEFINITION. The background state checksum and realignment (06 R185 to R192). -/

namespace Sys2Proof.Machine

/-! ### Slices -/

/-- Lane memory of one page of the state map. -/
def State.pageBytes (s : State) (l : LaneId) (k : Nat) : List Byte := s.lmem l (4096 * pageOf (s.smap l) k) 4096

/-- SLICE in bytes. -/
def State.sliceBytes (s : State) (l : LaneId) : Nat := 1024 * s.lf l VOT_SCFG_SLICE_KIB

/-- N = ceil(S / SLICE). -/
def State.sliceCount (s : State) (l : LaneId) : Nat :=
  if s.sliceBytes l = 0 then 0 else (4096 * s.smapPages l + s.sliceBytes l - 1) / s.sliceBytes l

/-- `n` bytes of the mapped state from offset `o` on, through the pages of the map. -/
def State.mappedBytes (s : State) (l : LaneId) (o n : Nat) : List Byte :=
  let p0 := o / 4096
  let p1 := (o + n + 4095) / 4096
  slice (((List.range (p1 - p0)).flatMap (fun i => s.pageBytes l (p0 + i)))) (o % 4096) n

/-- CRC-32C of slice `k`; the last slice may be shorter. -/
def State.sliceSum (s : State) (l : LaneId) (k : Nat) : Nat :=
  let o := k * s.sliceBytes l
  crc32c (s.mappedBytes l o (min (s.sliceBytes l) (4096 * s.smapPages l - o)))

/-- The payload of a state checksum packet. -/
def sumBytes (p : SumPacket) : List Byte :=
  leBytes 4 p.slice ++ leBytes 4 p.crc ++ leBytes 4 p.recheck ++ leBytes 4 p.recrc ++ leBytes 4 p.smapid
    ++ leBytes 4 p.dirty ++ leBytes 4 p.bulkDue ++ leBytes 4 p.wend ++ leBytes 4 0

/-- The fields of a payload. -/
def parseSum (b : List Byte) : SumPacket :=
  ⟨leAt b 0 4, leAt b 4 4, leAt b 8 4, leAt b 12 4, leAt b 16 4, leAt b 20 4, leAt b 24 4, leAt b 28 4⟩

/-- STATE_CHECKSUM_SEND: from D_N the vote port sums the slice and a pending recheck slice and sends them on both links;
without a state map it stops (R186, R191). -/
def State.sumSend (s : State) (l : LaneId) (wend : Nat) : State :=
  if s.lf l VOT_SCFG_ENTRIES = 0 || s.laneMode l == .split || s.sliceCount l = 0 then s
  else
    let u := (s.lane l).sum
    let k := s.frame l % s.sliceCount l
    let (ri, rc) := match u.recheck with
      | some r => (r, s.sliceSum l r)
      | none => (0xFFFFFFFF, 0)
    let donor := s.lf l VOT_RLN_ROLE = 1
    let p : SumPacket := ⟨k, s.sliceSum l k, ri, rc, s.smapid l, if donor then u.marked.length else 0, u.bulk.length, wend⟩
    let p := if donor then p else { p with bulkDue := 0 }
    let s := s.lfSet l VOT_SUM p.crc
    let s := s.lfSet l VOT_SLICE k
    let s := s.lfSet l VOT_DIRTY u.marked.length
    let s := s.updLane l (fun x => { x with sum := { x.sum with own := some p, rechecked := u.recheck, wend := wend } })
    s.sendBoth l 3 0 (sumBytes p)

/-- CHECKSUM_PACKET_RECEIVE: a neighbour's state checksum packet is kept for the compare in L; one that fails its checks
or carries another SMAPID counts as missing (R124, R186). -/
def execChecksumPacketReceive (l : LaneId) (p : LinkPacket) (s : State) : Host.Outcome State Fault Refusal :=
  let q := parseSum p.payload
  if !s.ticking l || !p.crcOk || !p.nframeOk || p.frame ≠ s.frame l || p.dst ≠ l || p.src = l || p.payload.length ≠ 36
      || q.smapid ≠ s.smapid l then .next s
  else if p.src = l.prev then
    .next ((s.lfSet l VOT_SUM_PREV q.crc).updLane l (fun x => { x with sum := { x.sum with prev := some q } }))
  else .next ((s.lfSet l VOT_SUM_NEXT q.crc).updLane l (fun x => { x with sum := { x.sum with next := some q } }))

/-- The packet of lane `k` of the running cycle as lane `l` holds it. -/
def State.sumOf (s : State) (l k : LaneId) : Option SumPacket :=
  let u := (s.lane l).sum
  if k = l then u.own else if k = l.prev then u.prev else u.next

/-- The verdict on the members' sums of one slice. -/
inductive SumVerdict
  | clean
  /-- One lane differs from two equal sums. -/
  | one (l : LaneId)
  /-- Two members differ. -/
  | two
  /-- A sum is missing, or no two of three are equal. -/
  | noResult
  deriving DecidableEq, Repr

/-- Compare the members' sums. -/
def sumVerdict (xs : List (LaneId × Option Nat)) : SumVerdict :=
  match xs with
  | [(x, some p), (y, some q), (z, some r)] =>
    if p = q ∧ q = r then .clean
    else if q = r then .one x else if p = r then .one y else if p = q then .one z else .noResult
  | [(_, some p), (_, some q)] => if p = q then .clean else .two
  | _ => .noResult

/-- The members as lane `l` knows them. -/
def State.viewMembers (s : State) (l : LaneId) : List LaneId :=
  lanes.filter (fun k => inSet (s.lf l VOT_V2STAT_MEMBERS) k)

/-- The other member of two, as lane `l` sees it. -/
def State.otherMember (s : State) (l : LaneId) : LaneId := ((s.viewMembers l).find? (fun k => k ≠ l)).getD l.next

/-- What a differing recheck confirms (R186): event 0x2011; with three members the divergent lane leaves and the others
suspect it, with two each suspects the other and asks for a halt. -/
def State.confirmDiverged (s : State) (l : LaneId) (v : SumVerdict) (k : Nat) : State :=
  match v with
  | .one x =>
    let s := (s.laneEvt l 0x2011 [(1, x.idx), (4, k)]).cntAdd 0x1143 7 (b2n ((s.viewMembers l).head? == some l))
    if x = l then (s.withhold l 9).updLane l (fun y => { y with rt := { y.rt with leave := true } })
    else s.updLane l (fun y => { y with rt := { y.rt with suspect := nOr y.rt.suspect (2 ^ x.idx) } })
  | .two =>
    let o := s.otherMember l
    let s := (s.laneEvt l 0x2011 [(1, o.idx), (4, k)]).cntAdd 0x1143 7 (b2n ((s.viewMembers l).head? == some l))
    s.updLane l (fun y => { y with rt := { y.rt with suspect := nOr y.rt.suspect (2 ^ o.idx), haltReq := true } })
  | _ => s

/-- The candidate's sums in the same cycle (R190, R191): counted clean while it is present, equal to the members' and
CAND_OK; a difference in which it alone differs ends its candidacy. -/
def State.candidateSums (s : State) (l : LaneId) (v : SumVerdict) (k crc : Nat) : State :=
  match lanes.find? (fun c => !inSet (s.lf l VOT_V2STAT_MEMBERS) c && bitsOf (s.lf l VOT_V2STAT_OUTCOME) (4 * c.idx + 3) (4 * c.idx) == 3) with
  | none => s.updLane l (fun y => { y with sum := { y.sum with cleanRun := 0, candCycles := 0 } })
  | some c =>
    let same := decide (v = .clean) && (match s.sumOf l c with | some p => decide (p.crc = crc) | none => false)
    let alone := decide (v = .clean) && (match s.sumOf l c with | some p => decide (p.crc ≠ crc) | none => false)
    let good := same && inSet (s.lf l VOT_V2STAT_CAND_OK) c
    let s := s.updLane l (fun y => { y with sum := { y.sum with
      cleanRun := if good then y.sum.cleanRun + 1 else 0, candCycles := y.sum.candCycles + 1 } })
    if alone then
      let s := s.laneEvt l 0x2023 [(1, c.idx), (4, k)]
      if (s.lane c).rt.cand then
        (s.updLane c (fun y => { y with rt := { y.rt with cand := false } })).startRealign c
      else s
    else s

/-- SLICE_COMPARE in L (R186): the recheck of the last cycle, then the slice of the last cycle; the packets are used up, and the donors
keep them for one more cycle (R188). -/
def State.sliceCompare (s : State) (l : LaneId) : State :=
  let u := (s.lane l).sum
  match u.own with
  | none => s
  | some own =>
    let ms := s.viewMembers l
    let isMem := ms.contains l
    let vRe := sumVerdict (ms.map (fun k => (k, (s.sumOf l k).bind (fun p =>
      if p.recheck = own.recheck then some p.recrc else none))))
    let v := sumVerdict (ms.map (fun k => (k, (s.sumOf l k).bind (fun p =>
      if p.slice = own.slice then some p.crc else none))))
    let s := if !isMem || own.recheck = 0xFFFFFFFF then s
      else
        let s := match vRe with | .one _ | .two => s.lfSet l VOT_INT_STAT_SUM_DIFF 1 | _ => s
        match vRe with
        | .clean => s.laneEvt l 0x2012 [(1, u.suspectLane), (4, own.recheck)]
        | .one x => if x.idx = u.suspectLane then s.confirmDiverged l vRe own.recheck else s
        | .two => s.confirmDiverged l vRe own.recheck
        | .noResult => s
    let first := isMem && (match v with | .one _ | .two => true | _ => false) && decide (own.slice ≠ own.recheck)
    let lane := match v with | .one x => x.idx | _ => (s.otherMember l).idx
    let s := if first then (s.laneEvt l 0x2010 [(1, lane), (4, own.slice)]).lfSet l VOT_INT_STAT_SUM_DIFF 1 else s
    let s := s.updLane l (fun y => { y with sum := { y.sum with
      recheck := if first then some own.slice else none, suspectLane := if first then lane else 3 } })
    let s := if isMem then s.candidateSums l v own.slice own.crc else s
    let was := lanes.filterMap (fun k => (s.sumOf l k).map (fun p => (k.idx, p)))
    s.updLane l (fun y => { y with sum := { y.sum with own := none, prev := none, next := none, was := was } })

/-- END_OF_L: the current banks are sealed, the hub's copies are verified, the front-end record is checked and the
agreement image is sent (R117, R118, R120, R127). By now voter 2's record of the last cycle has come, and the members compare state
sums and the two voters (06 R181, R183, R186). -/
def execEndOfL (l : LaneId) (s : State) : Host.Outcome State Fault Refusal :=
  if !s.ticking l then .next s
  else
    let s := s.updLane l (fun x => { x with xch := { x.xch with sealed := true } })
    let s := s.lfSet l TCK_STATUS_PHASE 1
    let s := s.lfSet l TCK_INT_STAT_END_L 1
    let s := (s.sliceCompare l).voterCompare l
    let s := s.verifyAll l
    let s := if s.basesSet l then s.frontEndCheck l else s
    .next (if s.basesSet l && s.laneMode l != .split then
        s.sendBoth l 2 (s.lreg l XCH_LAYOUT.reg).toNat (s.ownImage l)
      else s)

/-- ADMIT of lane `l`'s image (R191): the candidate has run 16 cycles and been clean for N. -/
def State.confirmBits (s : State) (l : LaneId) : Nat :=
  let u := (s.lane l).sum
  if 16 ≤ u.candCycles ∧ s.sliceCount l ≤ u.cleanRun ∧ 0 < s.sliceCount l then
    laneSet (fun c => !inSet (s.lf l VOT_V2STAT_MEMBERS) c
      && bitsOf (s.lf l VOT_V2STAT_OUTCOME) (4 * c.idx + 3) (4 * c.idx) == 3)
  else 0

/-! ### Pages (R187, R188) -/

/-- Page `k` belongs to donor `l`'s share for target `t`: the donor with the lower index sends the even pages (R187). -/
def donorShare (l t : LaneId) (k : Nat) : Bool := decide (k % 2 = if lanes.find? (fun x => x ≠ t) = some l then 0 else 1)

/-- Pages of its own share that were written in the cycle become marked in a donor's write tracker, once their bulk transfer has begun
(R187, R188). -/
def State.trackWrites (s : State) (l : LaneId) (pages : List Nat) : State :=
  let u := (s.lane l).sum
  match u.target with
  | some t =>
    if s.lf l VOT_RLN_ROLE ≠ 1 then s
    else
      let new := pages.filter (fun k => decide (k < s.smapPages l) && donorShare l t k && !u.bulk.contains k && !u.marked.contains k)
      s.updLane l (fun x => { x with sum := { x.sum with marked := x.sum.marked ++ new } })
  | none => s

/-- The payload of a page packet. -/
def pagePayload (k smapid pass : Nat) (page : List Byte) : List Byte :=
  leBytes 4 k ++ leBytes 4 smapid ++ leBytes 4 (crc32c page) ++ leBytes 1 pass ++ leBytes 3 0 ++ page

/-- The page a donor sends next with its pass: the bulk share first, then dirty passes, then the final pass. -/
def nextPage (u : LaneSum) : Option (Nat × Nat) :=
  match u.finalPass, u.bulk, u.dirtyPass, u.marked with
  | k :: _, _, _, _ => some (k, 2)
  | [], k :: _, _, _ => some (k, 0)
  | [], [], k :: _, _ => some (k, 1)
  | [], [], [], k :: _ => some (k, 1)
  | [], [], [], [] => none

/-- The donor's books after sending page `k` of a pass; a dirty pass starts with every page marked then, and a page's
mark clears as its sending starts. -/
def pageSent (u : LaneSum) (k pass : Nat) : LaneSum :=
  match pass with
  | 0 => { u with bulk := u.bulk.drop 1 }
  | 1 =>
    let pass := if u.dirtyPass = [] then u.marked else u.dirtyPass
    { u with dirtyPass := pass.drop 1, marked := u.marked.filter (· ≠ k) }
  | _ => { u with finalPass := u.finalPass.drop 1, marked := u.marked.filter (· ≠ k) }

/-- REALIGN_PAGE_SEND: a donor sends the next page on its free link to the target (R187, R188). -/
def execRealignPageSend (l : LaneId) (s : State) : Host.Outcome State Fault Refusal :=
  let u := (s.lane l).sum
  if !s.ticking l || s.lf l VOT_RLN_ROLE ≠ 1 then .next s
  else
    match u.target, nextPage u with
    | some t, some (k, pass) =>
      let s := s.emit .linkPacket t.idx 4
        (linkPacket 4 l t (s.frame l) 0 (pagePayload k (s.smapid l) pass (s.pageBytes l k)))
      let u := pageSent u k pass
      let s := s.updLane l (fun x => { x with sum := u })
      let s := s.lfSet l VOT_RLN_PASS pass
      let due := if pass = 0 then u.bulk.length else if pass = 1 then u.dirtyPass.length else u.finalPass.length
      let s := s.lfSet l VOT_RLN_DUE due
      let s := s.lfSet l VOT_DIRTY u.marked.length
      .next (if due = 0 then s.lfSet l VOT_INT_STAT_RLN_DONE 1 else s)
    | _, _ => .next s

/-- REALIGN_PAGE_RECEIVE: the target stores a page whose checks pass; otherwise the page stays due and is counted
(R187). -/
def execRealignPageReceive (l : LaneId) (p : LinkPacket) (s : State) : Host.Outcome State Fault Refusal :=
  let k := leAt p.payload 0 4
  let page := p.payload.drop 16
  let ok := p.crcOk && p.nframeOk && decide (p.dst = l) && decide (p.payload.length = 4112)
    && decide (leAt p.payload 4 4 = s.smapid l) && decide (leAt p.payload 8 4 = crc32c page)
    && decide (byteAt p.payload 12 ≤ 2) && decide (k < s.smapPages l)
  if !s.ticking l || s.lf l VOT_RLN_ROLE < 2 then .next s
  else if !ok then .next (s.lcount l VOT_CNT_PAGE 1)
  else
    let s := s.lmemSet l (4096 * pageOf (s.smap l) k) page
    let due := (s.lane l).sum.bulk.filter (· ≠ k)
    let s := s.updLane l (fun x => { x with sum := { x.sum with bulk := due } })
    let s := s.lfSet l VOT_RLN_DUE due.length
    .next (if s.lf l VOT_RLN_ROLE = 2 then s.lfSet l VOT_RLN_PASS (byteAt p.payload 12) else s)

/-- F = floor((t_win − 2 µs) · 250 bytes/µs ÷ 4 136 bytes), t_win in ns (R188). -/
def finalLimit (twin : Nat) : Nat := (twin - 2000) * 250 / 1000 / 4136

/-- t_win in ns: from the later end of writes in cycle m to the end of L of cycle m+1. -/
def State.tWin (s : State) (d : LaneId) (wend : Nat) : Nat := s.lanePeriod d + 100 * s.lf d TCK_PLAN_END_L - wend

/-- Offset `o` of a lane's retained partition lies in a part whose check value verifies (01 R42, 07 R214, R215): the header, the journal
header and its slots, or a data block. -/
def partPartOk (m : List Host.Cell) (src : LaneId) (o : Nat) : Bool :=
  let rd := fun (i n : Nat) => memRead m (partBase src + i) n
  let block := fun (i k : Nat) => let b := rd i 256; decide (leAt b 252 4 = crc32c (leBytes 4 k ++ b.take 252))
  let n := leNat (rd 0x808 2)
  let journal := decide (leNat (rd (0x800 + 10 + 2 * n) 4) = crc32c (rd 0x800 (10 + 2 * n)))
  if o < 0x800 then decide (leNat (rd 32 4) = crc32c (rd 0 32))
  else if o < 0x1000 then journal
  else if o < 0x10000 then journal && block (0x1000 + (o - 0x1000) / 256 * 256) (leNat (rd (0x80A + 2 * ((o - 0x1000) / 256)) 2))
  else block (o / 256 * 256) ((o - 0x10000) / 256)

/-- Copy one retained partition over another in MRAM, verifying each check value (R189, 03 R95). DESIGN CHOICE: a part whose check
value fails is not copied, and the same part of the destination then reads as never written (log entry 61). -/
def copyPartition (m : List Host.Cell) (src dst : LaneId) : List Host.Cell :=
  let size := 0x400000
  let cells := m.filter (fun c => decide (partBase src ≤ c.1) && decide (c.1 < partBase src + size)
    && partPartOk m src (c.1 - partBase src))
  let rest := m.filter (fun c => !(decide (partBase dst ≤ c.1) && decide (c.1 < partBase dst + size)))
  memWriteCells rest (cells.map (fun c => (c.1 - partBase src + partBase dst, c.2)))

/-- The final pass is possible in this cycle (R188): bulk complete, no dirty pass, marked pages of both donors within F;
judged from both donors' checksum packets of the cycle before. -/
def State.finalReady (s : State) (d e : LaneId) : Bool :=
  match mapFind (s.lane d).sum.was d.idx, mapFind (s.lane d).sum.was e.idx with
  | some p, some q =>
    let f := finalLimit (s.tWin d (max p.wend q.wend))
    decide (p.bulkDue = 0) && decide (q.bulkDue = 0) && decide (p.dirty ≤ f) && decide (q.dirty ≤ f)
      && decide ((s.lane d).sum.dirtyPass = []) && decide ((s.lane e).sum.dirtyPass = [])
  | _, _ => false

/-- A donor turns its marked pages into the final pass. -/
def State.donorFinal (s : State) (l : LaneId) : State :=
  let s := s.updLane l (fun x => { x with sum := { x.sum with finalPass := x.sum.marked } })
  let s := s.lfSet l VOT_RLN_PASS 2
  s.lfSet l VOT_RLN_DUE (s.lane l).sum.finalPass.length

/-- The program image of an identity among the banks. -/
def State.imageWith (s : State) (id : List Byte) : Option (List Byte) :=
  (s.store.prog.map (·.2)).find? (fun b => decide (imgId b = id))

/-- A lane takes the set that the members run, when it holds another one (08 R235, R242). -/
def State.takeSet (s : State) (t d : LaneId) : State :=
  let id := (s.lane d).prog.id
  if (s.lane t).prog.id = id then s
  else match s.imageWith id with
    | none => s
    | some b =>
      let p := { parseProg t b with codeAt := (s.lane d).prog.codeAt }
      let s := s.updLane t (fun x => { x with
        prog := p, newProg := none, mem := loadSections b (laneSections b t) p.codeAt x.mem })
      s.lfSet t TCK_CLS_CFG_SAFE (safeClasses p)

/-- The target becomes a candidate: encoded states invalid, tasks of its own cold, its retained partition a copy of the
lower donor's (R152, R189, R190). -/
def State.becomeCandidate (s : State) (t d : LaneId) : State :=
  let s := ({ s with hub := { s.hub with mram := copyPartition s.hub.mram d t } } : State).takeSet t d
  let s := s.lfSet t VOT_RLN_ROLE 3
  let s := s.lfSet t VOT_RLN_PASS 3
  let s := s.lfSet t VOT_INT_STAT_RLN_DONE 1
  let dr := (s.lane d).rt
  let dk := (s.lane d).ret
  let single := fun (k : Nat) => (s.lane t).prog.tasks.any (fun e => e.task == k && e.place ≠ 0)
  let s := s.lfSet t TCK_MODE_WARM (s.lf d TCK_MODE_WARM)
  s.updLane t (fun x =>
    let own := freshTaskMap x.prog
    { x with
      rt := { x.rt with
        cand := true
        tasks := (dr.tasks.filter (fun p => !single p.1)).foldl
          (fun m p => mapInsert (mapErase m p.1) p.1 { p.2 with encValid := false }) (own.filter (fun p => single p.1))
        stations := dr.stations, classOut := dr.classOut, conns := dr.conns, train := dr.train, relaySeq := dr.relaySeq
        frags := dr.frags, fragNext := dr.fragNext, fragBad := dr.fragBad, pendSt := dr.pendSt, readySt := dr.readySt, pair := dr.pair }
      ret := { x.ret with blocks := dk.blocks, marked := dk.marked } })

/-- REALIGN_FINAL_PASS: at the end of writes, when both donors' figures allow it, the donors begin the final pass and the
target runs the next cycle as a candidate (R188 to R190; event 0x2021). -/
def execRealignFinalPass (t : LaneId) (s : State) : Host.Outcome State Fault Refusal :=
  match s.memberList with
  | [d, e] =>
    if (s.lane d).sum.target = some t && (s.lane e).sum.target = some t && s.lf t VOT_RLN_ROLE = 2 && s.finalReady d e then
      let m := s.frame d
      let pages := (s.lane d).sum.marked.length + (s.lane e).sum.marked.length
      let s := ((s.donorFinal d).donorFinal e).becomeCandidate t d
      .next ((s.laneEvt d 0x2021 [(6, m), (4, pages)]).laneEvt e 0x2021 [(6, m), (4, pages)])
    else .next s
  | _ => .next s

/-- Put every lane's realignment books back. -/
def State.endRealign (s : State) (t : LaneId) : State :=
  onLanes (fun l s =>
    if (s.lane l).sum.target = some t then
      (s.lfSet l VOT_RLN_ROLE 0).updLane l (fun x => { x with sum := { x.sum with
        target := none, bulk := [], dirtyPass := [], finalPass := [], marked := [] } })
    else s) s

/-- REALIGNMENT_ABANDON: no final pass within the allowed cycles of the start of bulk; event 0x2022, and the next attempt
starts unless the limit is used up (R189, R192). -/
def execRealignmentAbandon (t : LaneId) (s : State) : Host.Outcome State Fault Refusal :=
  if s.sup.supplied && decide (s.lf t VOT_RLN_ROLE = 2)
      && decide ((s.obj 0x1141 5 : Int) ≤ frameDiff s.sup.frame (s.lane t).sum.bulkStart) then
    .next (((s.endRealign t).supEvt 0x2022 [(1, t.idx), (1, 0)]).startRealign t)
  else .next s

end Sys2Proof.Machine
end

