-- ==== Sys2Proof/Machine/Cycle.lean ====
section
/-! DEFINITION. The cycle of one lane (02, 05, 07): passes and local compare, classes and overruns, images, retained
variables, stations. -/

namespace Sys2Proof.Machine

/-! ### Tasks of a cycle -/

/-- A task runs on lane `l` in its running cycle: it is due (R202), and in SPLIT it is no safety task (03 R82). -/
def State.runsNow (s : State) (l : LaneId) (d : TaskDecl) : Bool :=
  d.onLane l && taskDue (s.lane l).prog d (s.frame l) && !(d.safe && s.laneMode l == .split)

/-- The tasks of lane `l` in its running cycle in the order of R204: by class, then by task number. -/
def State.dueTasks (s : State) (l : LaneId) : List TaskDecl :=
  orderBy (fun (d : TaskDecl) => 64 * d.cls + d.task) ((s.lane l).prog.tasks.filter (s.runsNow l))

/-- Due classes as a bit set (R202). -/
def State.dueClasses (s : State) (l : LaneId) : Nat :=
  (List.range 8).foldl (fun a c => a + b2n ((s.dueTasks l).any (fun d => d.cls == c)) * 2 ^ c) 0

/-- The context block of a task's input section (R223). -/
def State.contextBlock (s : State) (l : LaneId) (t : TaskRt) : List Byte :=
  leBytes 8 (s.frame l) ++ leBytes 8 s.md.since ++ leBytes 1 (s.lf l TCK_MODE_MODE)
    ++ leBytes 1 (b2n t.first + 2 * s.lf l TCK_MODE_WARM + 4 * b2n t.switched) ++ leBytes 14 0

/-- A station record of 24 bytes and its data (R225). -/
def stationBytes (st : Nat) (r : StationRec) : List Byte :=
  leBytes 1 st ++ leBytes 1 (b2n r.fresh + 2 * b2n r.stale + 4 * b2n r.recovered + 8 * b2n r.safeOk) ++ leBytes 2 0
    ++ leBytes 4 r.age ++ leBytes 8 r.updFrame ++ leBytes 4 r.incomplete ++ leBytes 4 r.data.length ++ r.data

/-- A station's record on lane `l`. -/
def State.station (s : State) (l : LaneId) (st : Nat) : StationRec := mapGet {} (s.lane l).rt.stations st

/-- Replace a station's record. -/
def State.stationSet (s : State) (l : LaneId) (st : Nat) (r : StationRec) : State :=
  s.updLane l (fun x => { x with rt := { x.rt with stations := mapSet {} x.rt.stations st r } })

/-- Write the input section of a task: context block, then the records of its referenced input stations (R207, R223). -/
def State.writeInput (s : State) (l : LaneId) (d : TaskDecl) : State :=
  let t := s.task l d.task
  let refs := (s.lane l).prog.stations.filter (fun r => r.1 == d.task && r.2.2 == 0)
  s.taskSet l d.task { t with
    input := s.contextBlock l t ++ refs.flatMap (fun r => stationBytes r.2.1 (s.station l r.2.1)) }

/-- Set EN and PASS on the cores that carry safety work of lane `l`, with FTRAP 0, and a start value in a signature CSR (R150, R167). EN is
0 on the other cores, whose non-safety tasks start at the end of A. -/
def State.setPass (s : State) (l : LaneId) (en pass : Nat) (sig : Option Fld) : State :=
  (List.range 4).foldl (fun s k =>
    if coreSafe (s.lane l).prog l k = [] then s.coreSet l k (cfSet l (s.core l k) CDA_CTL_EN 0)
    else
      let c := cfSet l (cfSet l (cfSet l (s.core l k) CDA_CTL_EN en) CDA_CTL_PASS pass) CDA_CTL_FTRAP 0
      s.coreSet l k (match sig with | some f => cfSet l c f 0xFFFFFFFF | none => c)) s

/-- A signature CSR of a core as the pass of a task leaves it (R150). -/
def State.sigSet (s : State) (l : LaneId) (c : Nat) (f : Fld) (v : Nat) : State :=
  s.coreSet l c (cfSet l (s.core l c) f v)

/-- TASK_TRAP: a trap in a safety task fails its local compare of the cycle; in a non-safety task it ends the task for the
cycle (R206). -/
def execTaskTrap (l : LaneId) (c task cause pc : Nat) (tval : Option Nat) (s : State) :
    Host.Outcome State Fault Refusal :=
  if !s.ticking l || 3 < c then .next s
  else
    match s.decl l task with
    | none => .next s
    | some d =>
      let s := (s.coreSet l c { s.core l c with priv := .m }).coreTrap l c cause pc tval
      if d.safe then .next (s.taskFail l task) else .next (s.taskSet l task { s.task l task with ended := true })

/-- TCK_CLS_DONE_WRITE: the lane runtime sets class-done bits; hardware clears them at the edge (02 R78). -/
def execTckClsDoneWrite (l : LaneId) (w : Word) (s : State) : Host.Outcome State Fault Refusal :=
  if (s.lane l).supplied then .next (s.lfSet l TCK_CLS_DONE (nOr (s.lf l TCK_CLS_DONE) w.toNat)) else .next s

/-! ### Plain passes (R150, R213) -/

/-- Outputs that a task may set on lane `l` (R203): class 1 and 2 for a safety task, class 2 for a non-safety task on all
lanes, the lane's own class for a single-lane task. -/
def State.mayOutput (s : State) (l : LaneId) (d : TaskDecl) : Nat :=
  let cls := fun (i : Nat) => if i = 16 then 1 else if i < 8 then bitsOf (s.lf l VOT_CLS0) (4 * i + 3) (4 * i)
    else bitsOf (s.lf l VOT_CLS1) (4 * (i - 8) + 3) (4 * (i - 8))
  let ok := fun (c : Nat) => if d.safe then c == 1 || c == 2 else if d.single then c == 3 + l.idx else c == 2
  (List.range 17).foldl (fun a i => a + b2n (ok (cls i)) * 2 ^ i) 0

/-- Count a measured duration of a pass (R213): the longest, and one more when longer than declared at the running
clock. -/
def State.measure (s : State) (l : LaneId) (t idx dur c m : Nat) : State :=
  let s := s.cntSet idx (1 + t) (max (s.cnt idx (1 + t)) dur)
  if passCost (s.clockMHz l) c m < dur * s.clockMHz l then s.cntAdd 0x1154 (1 + t) 1 else s

/-- Results in the order in which their tasks run (R204). -/
def State.inOrder (s : State) (l : LaneId) (rs : List PassResult) : List PassResult :=
  orderBy (fun (r : PassResult) => match s.decl l r.task with | some d => 64 * d.cls + d.task | none => 512) rs

/-- Take one task's result of its plain pass, or of a non-safety task's execution: outputs and station outputs wait for
the class, retained blocks go to the working copies. -/
def State.takePass (s : State) (l : LaneId) (r : PassResult) : State :=
  match s.decl l r.task with
  | none => s
  | some d =>
    if !s.runsNow l d || (s.task l r.task).ended || (s.task l r.task).ran then s
    else
      let s := if d.safe then s.sigSet l d.core CDA_PSIG r.psig else s
      let s := s.measure l r.task 0x1152 r.dur d.cPlain d.mPlain
      let may := nAnd r.mask (s.mayOutput l d)
      let own := fun (k : Nat) => (s.lane l).prog.ret.any (fun e => e.task == r.task && decide (e.first ≤ k) && decide (k < e.first + e.count))
      let ret := r.retained.filter (fun p => own p.1)
      let s := s.taskSet l r.task { s.task l r.task with
        psigSaved := r.psig, ran := true, first := d.safe && (s.task l r.task).first
        switched := d.safe && (s.task l r.task).switched, pendState := some r.state, maxPlain := max (s.task l r.task).maxPlain r.dur }
      s.updLane l (fun x =>
        let o := mapGet {} x.rt.pendOut d.cls
        { x with rt := { x.rt with
          pendOut := mapSet {} x.rt.pendOut d.cls
            { o with mask := nOr o.mask may, outs := nOr (nAndNot o.outs may) (nAnd r.outs may) }
          pendSt := r.stationOut.foldl (fun m p => mapInsert (mapErase m p.1) p.1 (d.cls, p.2)) x.rt.pendSt
          pendRet := mapInsert (mapErase x.rt.pendRet r.task) r.task ret } })

/-- The plain value of a variable in a task's state. -/
def plainVar (st : List Byte) (v : VarDecl) : Word :=
  match v.kind with
  | .int => BitVec.ofNat 64 (leAt st v.off 8)
  | .f32 => BitVec.ofNat 64 (leAt st v.off 4)
  | .f64 => BitVec.ofNat 64 (leAt st v.off 8)

/-- The format of a float word. -/
def fmtOf : WordKind → FFmt
  | .f32 => .f32 | _ => .f64

/-- The code word of a plain value, and the fault that cd.enc or cd.fenc finds in it (R150, R161 to R163). -/
def encodeWord (d sc : Nat) (k : WordKind) (sig : Nat) (v : Word) : Word × Nat :=
  match k with
  | .int => if inDomain v.toInt then (codeEnc sig d v.toInt, 0) else (0, cdIrange)
  | k =>
    let x := unpack (fmtOf k) v.toNat
    (BitVec.ofNat 64 (pack (fmtOf k) (negScale x sc)), fltFault (fmtOf k) (x, false))

/-- The plain value of a code word; none where an integer's residue check fails. -/
def decodeWord (d sc : Nat) (k : WordKind) (sig : Nat) (v : Word) : Option Word :=
  match k with
  | .int => (codeDec sig d v).map (BitVec.ofInt 64)
  | k => some (BitVec.ofNat 64 (pack (fmtOf k) (fDec sc (unpack (fmtOf k) v.toNat))))

/-- A state word of an earlier cycle under this cycle's D and s, as cd.rebase and cd.frebase give it, and the fault found. -/
def rebaseWord (d0 s0 d1 s1 : Nat) (w : CodedWord) : CodedWord × Nat :=
  match decodeWord d0 s0 w.kind w.sig w.enc with
  | none => ({ w with enc := 0 }, cdRes)
  | some v =>
    let r := encodeWord d1 s1 w.kind w.sig v
    ({ w with enc := r.1 }, r.2)

/-- The code words of listed variables in `bs`, and the faults found. -/
def encodeVars (d sc : Nat) (vs : List VarDecl) (bs : List Byte) : List (CodedWord × Nat) :=
  vs.map (fun v =>
    let p := plainVar bs v
    let r := encodeWord d sc v.kind v.sig p
    ({ kind := v.kind, sig := v.sig, plain := p, enc := r.1 }, r.2))

/-- Fault bits that the runtime's own coded instructions set on a core; their pc is free. -/
def State.runtimeFault (s : State) (l : LaneId) (c bits : Nat) : State :=
  if bits = 0 then s else (s.coreSet l c (setFault l (s.core l c) bits (Config.freeWord s.freeCtr).toNat)).drawn

/-- Start of the encoded pass of a task (R150, R152): its state words are rebased, or formed from the plain state, its inputs are
encoded, and CDA_ESIG starts. -/
def State.startEncoded (s : State) (l : LaneId) (d : TaskDecl) : State :=
  let t := s.task l d.task
  let k := s.core l d.core
  let dn := cf l k CDA_D
  let sn := cf l k CDA_S
  let lay := (s.lane l).prog.layout
  let ws := if t.encValid then t.words.map (rebaseWord t.dSaved t.sSaved dn sn)
    else encodeVars dn sn (Config.stateVars lay d.task) t.state
  let is := encodeVars dn sn (Config.inputVars lay d.task) t.input
  let bits := (ws ++ is).foldl (fun a p => nOr a p.2) 0
  let s := (s.runtimeFault l d.core bits).sigSet l d.core CDA_ESIG 0xFFFFFFFF
  s.taskSet l d.task { t with
    pendEnc := some (ws.map (·.1), dn, sn), inputs := is.map (·.1), failed := t.failed || decide (bits ≠ 0) }

/-- ENTER_PHASE_E: every core has finished its plain passes; their results are taken and the encoded passes begin (02 R60,
R150). -/
def execEnterPhaseE (l : LaneId) (rs : List PassResult) (s : State) : Host.Outcome State Fault Refusal :=
  if !s.ticking l || (s.lane l).tick.stopped || !safeMode (s.laneMode l) || s.lf l TCK_STATUS_PHASE ≠ 2 then .next s
  else
    let safe := rs.filter (fun r => match s.decl l r.task with | some d => d.safe | none => false)
    let s := (s.inOrder l safe).foldl (fun s r => s.takePass l r) s
    let s := s.setPass l 1 1 (some CDA_ESIG)
    let s := ((s.dueTasks l).filter TaskDecl.safe).foldl (fun s d => s.startEncoded l d) s
    .next (s.lfSet l TCK_STATUS_PHASE 3)

/-! ### Local compare (R150, R151) -/

/-- W words of a list from position `i` on, wrapping. -/
def sweepWords {α : Type} (xs : List α) (i w : Nat) : List α :=
  if xs.length ≤ w then xs else (xs.drop i ++ xs).take w

/-- A word's plain value equals its decoded code word. -/
def wordOk (d sc : Nat) (w : CodedWord) : Bool := decide (decodeWord d sc w.kind w.sig w.enc = some w.plain)

/-- The local compare of a task fails: the image is withheld, the failure counted, and the task recorded with the CDA_FAULT bits
(R151, R170). -/
def State.compareFails (s : State) (l : LaneId) (d : TaskDecl) : State :=
  let bits := cf l (s.core l d.core) CDA_FAULT
  let s := ((s.withhold l 5).cntAdd 0x1130 (3 + l.idx) 1).cntSet 0x1130 (6 + l.idx) bits
  s.updLane l (fun x => { x with rt := { x.rt with failTask := d.task, failBits := bits } })

/-- LOCAL_COMPARE of one task against its encoded pass's results. -/
def State.compareTask (s : State) (l : LaneId) (d : TaskDecl) (e : EncResult) : State :=
  let t := s.task l d.task
  let k := s.core l d.core
  let dn := cf l k CDA_D
  let sn := cf l k CDA_S
  let w := s.obj 0x1130 2
  let ok := !t.failed && t.ran && e.outWords.all (wordOk dn sn) && (sweepWords e.stateWords t.sweep w).all (wordOk dn sn)
    && decide (e.esig = t.psigSaved) && decide (cf l k CDA_FAULT = 0)
  let n := e.stateWords.length
  let s := (s.measure l d.task 0x1153 e.dur d.cEnc d.mEnc).sigSet l d.core CDA_ESIG e.esig
  let s := s.taskSet l d.task { t with
    failed := !ok, encValid := true, pendEnc := some (e.stateWords, dn, sn)
    sweep := if n = 0 then 0 else (t.sweep + w) % n, first := false, switched := false, maxEnc := max t.maxEnc e.dur }
  if ok then s else s.compareFails l d

/-- The local compare of every due safety task whose encoded pass ended; a task that a trap has failed, or a word of whose state could
not be rebased, fails without one (R145, 07 R206). -/
def State.compareAll (s : State) (l : LaneId) (es : List EncResult) : State :=
  ((s.dueTasks l).filter TaskDecl.safe).foldl (fun s d =>
    match es.find? (fun e => e.task == d.task) with
    | some e => s.compareTask l d e
    | none => if (s.task l d.task).failed then s.compareFails l d else s) s

/-! ### Classes (02 R67, R68) -/

/-- Tasks of class `c` on lane `l`. -/
def State.classTasks (s : State) (l : LaneId) (c : Nat) : List Nat :=
  ((s.lane l).prog.tasks.filter (fun d => d.cls == c)).map (·.task)

/-- A task's work of the cycle becomes its committed state: plain state, and encoded state with its D and s (R67, R150). -/
def commitTask (t : TaskRt) : TaskRt :=
  let t := { t with state := t.pendState.getD t.state, pendState := none }
  match t.pendEnc with
  | some (ws, d, sc) => { t with words := ws, dSaved := d, sSaved := sc, pendEnc := none }
  | none => t

/-- Commit what a completed class did in this cycle: its outputs, its tasks' plain and encoded state, its station
outputs, and the retained blocks its tasks wrote, which are marked (R68, R217). -/
def State.commitClass (s : State) (l : LaneId) (c : Nat) : State :=
  let ts := s.classTasks l c
  s.updLane l (fun x =>
    let n := mapGet {} x.rt.pendOut c
    let o := mapGet {} x.rt.classOut c
    let ret := (x.rt.pendRet.filter (fun p => ts.contains p.1)).flatMap (·.2)
    { x with
      rt := { x.rt with
        classOut := mapSet {} x.rt.classOut c
          { mask := nOr o.mask n.mask, outs := nOr (nAndNot o.outs n.mask) (nAnd n.outs n.mask), prev := o.outs }
        pendOut := mapErase x.rt.pendOut c
        pendSt := x.rt.pendSt.filter (fun p => p.2.1 ≠ c)
        readySt := (x.rt.pendSt.filter (fun p => p.2.1 = c)).foldl (fun m p => mapInsert (mapErase m p.1) p.1 p.2.2) x.rt.readySt
        pendRet := x.rt.pendRet.filter (fun p => !ts.contains p.1)
        tasks := x.rt.tasks.map (fun p => if ts.contains p.1 then (p.1, commitTask p.2) else p) }
      ret := { x.ret with
        blocks := ret.foldl (fun m p => mapInsert (mapErase m p.1) p.1 (padTo 252 p.2)) x.ret.blocks
        marked := ret.foldl (fun m p => if m.contains p.1 then m else p.1 :: m) x.ret.marked } })

/-- The overrun count of class `c` (R78). -/
def ovrField (c : Nat) : Fld := ⟨TCK_OVR_CNT.reg, 4 * c + 3, 4 * c⟩

/-- The tolerance of class `c`. -/
def State.tolOf (s : State) (l : LaneId) (c : Nat) : Nat := bitsOf (s.lf l TCK_CLS_CFG_TOL) (2 * c + 1) (2 * c)

/-- Class `c` completes in this cycle: its done bit is set, and no trap has ended a task of it (07 R206). -/
def State.classDone (s : State) (l : LaneId) (c : Nat) : Bool :=
  bitOf (s.lf l TCK_CLS_DONE) c && !(s.classTasks l c).any (fun t => (s.task l t).ended)

/-- Classes of one kind that are due and done: their outputs commit and their counts return to 0 (R68). -/
def State.completeClasses (s : State) (l : LaneId) (safe : Bool) : State :=
  (List.range 8).foldl (fun s c =>
    if bitOf (s.lf l TCK_CLS_EXP) c && s.classDone l c && (bitOf (s.lf l TCK_CLS_CFG_SAFE) c == safe) then
      (s.commitClass l c).lfSet l (ovrField c) 0
    else s) s

/-- Stop a class for the cycle: its work is discarded (R67). -/
def State.stopClass (s : State) (l : LaneId) (c : Nat) : State :=
  let ts := s.classTasks l c
  s.updLane l (fun x => { x with rt := { x.rt with
    pendOut := mapErase x.rt.pendOut c
    pendSt := x.rt.pendSt.filter (fun p => p.2.1 ≠ c)
    pendRet := x.rt.pendRet.filter (fun p => !ts.contains p.1)
    tasks := x.rt.tasks.map (fun p => if ts.contains p.1 then (p.1, { p.2 with pendState := none, pendEnc := none }) else p) } })

/-- Lanes in the vote whose safety class `c` is not done in this cycle. -/
def State.missedLanes (s : State) (c : Nat) : Nat :=
  laneSet (fun k => s.inVote k && s.ticking k && bitOf (s.lf k TCK_CLS_EXP) c && !bitOf (s.lf k TCK_CLS_DONE) c)

/-- Lanes in the vote on which it completed in this cycle. -/
def State.doneLanes (s : State) (c : Nat) : Nat :=
  laneSet (fun k => s.inVote k && s.ticking k && bitOf (s.lf k TCK_CLS_DONE) c)

/-! ### The output image of a lane (06 R171, R173) -/

/-- Outputs that lane `l` may put into its image in its mode (06 R172). -/
def State.imageMask (s : State) (l : LaneId) : Nat :=
  let cls := fun (i : Nat) => if i = 16 then 1 else if i < 8 then bitsOf (s.lf l VOT_CLS0) (4 * i + 3) (4 * i)
    else bitsOf (s.lf l VOT_CLS1) (4 * (i - 8) + 3) (4 * (i - 8))
  let own := fun (i : Nat) => bitsOf (s.lf l VOT_SPOWN) (2 * i + 1) (2 * i)
  let ok := fun (i : Nat) =>
    if s.laneMode l == .split then (cls i == 2 && own i == l.idx) || cls i == 3 + l.idx
    else cls i == 1 || cls i == 2 || cls i == 3 + l.idx
  (List.range 17).foldl (fun a i => a + b2n (ok i) * 2 ^ i) 0

/-- The bits that the lane's programs ask for: the committed outputs of every class, less the outputs latched off (15 R410). -/
def State.computedOut (s : State) (l : LaneId) : Nat :=
  nAndNot (nAnd ((s.lane l).rt.classOut.foldl (fun a p => nOr a (nAnd p.2.outs p.2.mask)) 0) (s.imageMask l))
    (s.lane l).rt.latched

/-- The image of the running cycle; `off` forces every output off (SAFE to DEPOT, closing, a standby module). -/
def State.formImage (s : State) (l : LaneId) (off : Bool) : Image :=
  let rt := (s.lane l).rt
  let halt := rt.haltReq || decide ((s.lane l).tick.haltSend ≠ 0)
  let run := runMode (s.laneMode l)
  let known := s.lf l VOT_V2STAT_VALID = 1
  let wh := rt.withhold
  { frame := s.frame l
    out := if off || halt || wh || !run || (s.lane l).tick.stopped then 0 else s.computedOut l
    mode := s.lf l TCK_MODE_MODE
    confirm := s.confirmBits l
    suspect := rt.suspect
    members := if known then s.lf l VOT_V2STAT_MEMBERS else 0
    lane := l.idx
    leave := rt.leave
    cand := rt.cand
    haltReq := halt
    withheld := wh
    mapid := s.ownMapid l }

/-- A lane without a valid record of the last cycle withholds (06 R181), as does one with a late commit (R218), out of
step (02 R54), or with a failed task of this cycle. -/
def State.withholdCases (s : State) (l : LaneId) : State :=
  let s := if s.lf l VOT_V2STAT_VALID = 0 && runMode (s.laneMode l) then s.withhold l 6 else s
  let s := if (s.lane l).ret.late then s.withhold l 7 else s
  let s := if s.lf l TCK_STATUS_OUT_OF_STEP = 1 then s.withhold l 8 else s
  if (s.dueTasks l).any (fun d => d.safe && (s.task l d.task).failed) && safeMode (s.laneMode l) then s.withhold l 5 else s

/-- Send the image to both voters (06 R173): it stands in VOT_IMG and VOT_V1_IMG, and a withheld one is recorded. -/
def State.sendImages (s : State) (l : LaneId) (off : Bool) : State :=
  let g := s.formImage l off
  let b := imageBytes32 g
  let s := (List.range 8).foldl (fun s i => (s.lfSet l (VOT_IMG i) (leAt b (4 * i) 4)).lfSet l (VOT_V1_IMG i) (leAt b (4 * i) 4)) s
  let s := s.emit .voter2Image l.idx 0 b
  let s := s.emit .voter1Image l.idx 0 b
  let rt := (s.lane l).rt
  let s := if g.withheld then
      s.laneEvt l 0x2006 [(1, l.idx), (1, rt.whCause), (1, if rt.whCause = 5 then rt.failTask else 0),
        (1, if rt.whCause = 5 then rt.failBits else 0)]
    else s
  s.updLane l (fun x => { x with
    tick := { x.tick with haltSend := x.tick.haltSend - 1 }
    rt := { x.rt with image := b, suspect := 0, leave := false, haltReq := false } })

/-! ### Deadlines (02 R67 to R70) -/

/-- An overrun beyond tolerance: all tasks stop, and the all-off image with the halt request is sent in this cycle and the
next (R69, event 0x1011). -/
def State.overrunBeyond (s : State) (l : LaneId) (c : Nat) : State :=
  if (s.lane l).tick.stopped then s
  else
    let s := s.updLane l (fun x => { x with tick := { x.tick with stopped := true, haltSend := 2 } })
    let s := (s.lfSet l TCK_STATUS_PHASE 6).laneEvt l 0x1011 [(1, l.idx), (1, c)]
    -- after V of the cycle the image goes out at the deadline itself
    if (s.lane l).tick.inV then s.sendImages l true else s

/-- Class `c` overran on lane `l` (R68, R69): counted; held up to the tolerance, else beyond it. -/
def State.overrun (s : State) (l : LaneId) (c : Nat) : State :=
  let n := min 4 (s.lf l (ovrField c) + 1)
  let s := (s.stopClass l c).lfSet l (ovrField c) n
  let s := s.lfSet l TCK_STATUS_OVR_NOW (setBit (s.lf l TCK_STATUS_OVR_NOW) c true)
  let s := (s.lcount l TCK_CNT_OVR 1).lfSet l TCK_INT_STAT_OVR 1
  if n ≤ s.tolOf l c then s.laneEvt l 0x1010 [(1, l.idx), (1, c), (4, n)] else s.overrunBeyond l c

/-- The deadline of one kind of classes on a lane (R67 to R70): a safety class that completed on another lane in the vote
is a partial overrun, recorded and withheld. DESIGN CHOICE: a
partial overrun leaves OVR_NOW, the overrun counts and the OVR interrupt as they are (log entry 63). -/
def State.deadline (s : State) (l : LaneId) (safe : Bool) : State :=
  (List.range 8).foldl (fun s c =>
    if bitOf (s.lf l TCK_CLS_EXP) c && !s.classDone l c && (bitOf (s.lf l TCK_CLS_CFG_SAFE) c == safe)
        && !bitOf (s.lf l TCK_STATUS_OVR_NOW) c && !(s.lane l).tick.stopped then
      if safe && s.inVote l && decide (nAndNot (s.doneLanes c) (2 ^ l.idx) ≠ 0) then
        ((s.stopClass l c).laneEvt l 0x1012 [(1, s.missedLanes c), (1, c)]).withhold l 2
      else s.overrun l c
    else s) s

/-- OVERRUN_BEYOND_TOLERANCE: a class whose count has reached k + 1 in this cycle stops the lane (R69). -/
def execOverrunBeyondTolerance (l : LaneId) (c : Nat) (s : State) : Host.Outcome State Fault Refusal :=
  if s.ticking l && decide (c < 8) && bitOf (s.lf l TCK_STATUS_OVR_NOW) c && decide (s.tolOf l c < s.lf l (ovrField c)) then
    .next (s.overrunBeyond l c)
  else .next s

/-! ### Retained variables (R214 to R221) -/

/-- A block or slot of 256 bytes: 252 bytes and the CRC-32C over index and content (R215). -/
def blockBytes (i : Nat) (v : List Byte) : List Byte :=
  let v := padTo 252 v
  v ++ leBytes 4 (crc32c (leBytes 4 i ++ v))

/-- The journal header (R214). -/
def journalBytes (seq : Nat) (idx : List Nat) : List Byte :=
  let h := leBytes 8 seq ++ leBytes 2 idx.length ++ idx.flatMap (leBytes 2)
  h ++ leBytes 4 (crc32c h)

/-- The partition header (R214). -/
def partitionBytes (id : List Byte) (layout applied : Nat) : List Byte :=
  let h := [0x4A, 0x4C, 0x52, 0x54] ++ padTo 16 id ++ leBytes 4 layout ++ leBytes 8 applied
  h ++ leBytes 4 (crc32c h)

/-- MRAM bytes. -/
def State.mramRead (s : State) (a n : Nat) : List Byte := memRead s.hub.mram a n

/-- Write MRAM. -/
def State.mramWrite (s : State) (a : Nat) (bs : List Byte) : State :=
  { s with hub := { s.hub with mram := memWrite s.hub.mram a bs } }

/-- The identity that a lane's commits carry now: zero while blocks are still to be rewritten after a switch (08 R241). -/
def State.commitId (s : State) (l : LaneId) : List Byte :=
  if mapGet [] s.rack.rewrite l.idx = [] then (s.lane l).prog.id else List.replicate 16 0

/-- The layout that a lane's commits carry now: the one in the partition header until the rewrite is complete (08 R241). -/
def State.commitLayout (s : State) (l : LaneId) : Nat :=
  if mapGet [] s.rack.rewrite l.idx = [] then (s.lane l).prog.layoutId else leNat (s.mramRead (partBase l + 20) 4)

/-- What the step in progress of R216 writes to MRAM: addresses and bytes. -/
def State.retainedWrites (s : State) (l : LaneId) : List (Nat × List Byte) :=
  let r := (s.lane l).ret
  let base := partBase l
  match r.step with
  | 1 => [(base + 0x800 + 10 + 2 * leNat (s.mramRead (base + 0x808) 2), [0, 0, 0, 0])]
  | 2 => r.snap.zipIdx.map (fun p => (base + 0x1000 + 256 * p.2, blockBytes p.1.1 p.1.2))
  | 3 => [(base + 0x800, journalBytes r.seq (r.snap.map (·.1)))]
  | 5 => r.snap.map (fun p => (base + 0x10000 + 256 * p.1, blockBytes p.1 p.2))
  | 6 => [(base, partitionBytes (s.commitId l) (s.commitLayout l) r.seq)]
  | _ => []

/-- Step 4 of R216: the lane reports its commit as durable. -/
def State.retainedReport (s : State) (l : LaneId) : State :=
  if (s.lane l).ret.step = 4 then
    s.emit .report l.idx 1 (leBytes 8 (s.lane l).ret.seq ++ s.commitId l ++ leBytes 4 (s.commitLayout l))
  else s

/-- The lane-management core begins step `k` of R216: its writes go onto the bridge, which the fence that ends the step waits for
(10 R288). -/
def State.retainedAt (s : State) (l : LaneId) (k : Nat) : State :=
  let s := s.updLane l (fun x => { x with ret := { x.ret with step := k } })
  ((s.retainedWrites l).foldl (fun s w => s.bridgeWrite l 4 w.1 w.2) s).retainedReport l

/-- A commit begins, or begins again after a write that failed (10 R301). -/
def State.retainedBegin (s : State) (l : LaneId) : State := s.retainedAt l 1

/-- A commit has ended: the last one of a rewrite records event 0x8014 (08 R241). -/
def State.retainedEnds (s : State) (l : LaneId) : State :=
  let q := (s.lane l).ret.seq
  let s := s.updLane l (fun x => { x with ret := { x.ret with step := 0, snap := [], late := false } })
  if mapFind s.rack.rewrite l.idx = some [] then
    ({ s with rack := { s.rack with rewrite := mapErase s.rack.rewrite l.idx } } : State).laneEvt l 0x8014 [(6, q)]
  else s

/-- The fence that ends the step in progress has completed: the next step begins. -/
def State.retainedNext (s : State) (l : LaneId) : State :=
  let k := (s.lane l).ret.step
  if k = 0 then s else if k = 6 then s.retainedEnds l else s.retainedAt l (k + 1)

/-- The snapshot at D_N of a cycle n with n mod I = 0 (R217, R218): blocks of failed tasks stay marked; after a switch at
most X further blocks are added (08 R241); a commit still in progress is late. -/
def State.retainedSnapshot (s : State) (l : LaneId) : State :=
  let i := s.obj 0x1150 2
  if i = 0 || s.frame l % i ≠ 0 || (s.lane l).prog.ret = [] || !runMode (s.laneMode l) then s
  else if (s.lane l).ret.step ≠ 0 then
    if (s.lane l).ret.late then s
    else (s.updLane l (fun x => { x with ret := { x.ret with late := true } })).cntAdd 0x1150 7 1
  else
    let bad := (s.lane l).prog.tasks.filter (fun d => (s.task l d.task).failed)
    let left := fun (k : Nat) => (s.lane l).prog.ret.any (fun r =>
      bad.any (fun d => d.task == r.task) && decide (r.first ≤ k) && decide (k < r.first + r.count))
    let marked := (s.lane l).ret.marked
    let take := marked.filter (fun k => !left k)
    let rest := mapGet [] s.rack.rewrite l.idx
    let more := (rest.filter (fun k => !take.contains k)).take s.rack.rewriteX
    let all := (take ++ more).take 240
    if all = [] then s
    else
      let s := if (mapFind s.rack.rewrite l.idx).isNone then s
        else { s with rack := { s.rack with
          rewrite := mapInsert (mapErase s.rack.rewrite l.idx) l.idx (rest.filter (fun k => !all.contains k)) } }
      let snap := all.map (fun k => (k, mapGet (List.replicate 252 0) (s.lane l).ret.blocks k))
      (s.updLane l (fun x => { x with ret := { x.ret with
        marked := marked.filter (fun k => !all.contains k), seq := s.frame l, snap := snap } })).retainedBegin l

/-- DURABLE_REPORT: the supervisor keeps each lane's last durable frame; Q is the newest that two lanes have reported, at whatever
times, and the flag is set with the identity and layout of that commit (R219). -/
def execDurableReport (l : LaneId) (q : Nat) (id : List Byte) (layout : Nat) (s : State) :
    Host.Outcome State Fault Refusal :=
  if !s.sup.supplied then .next s
  else
    let ka := s.sup.ka
    let two := ka.reported.any (fun p => p.1 ≠ l.idx && p.2 == q)
    let newer := two && (!ka.commitFlag || frameGe q ka.q)
    let q' := if newer then q else ka.q
    let keep := fun (p : Nat × Nat) => !(newer || ka.commitFlag) || (frameGe p.2 q' && p.2 ≠ q')
    let ka := { ka with
      durable := mapInsert (mapErase ka.durable l.idx) l.idx q
      reported := ((l.idx, q) :: ka.reported.filter (fun p => p != (l.idx, q))).filter keep }
    .next { s with sup := { s.sup with ka :=
      if newer then { ka with q := q, commitFlag := true, commitId := padTo 16 id, commitLayout := layout } else ka } }

/-- APPLIED of a lane's partition. -/
def State.applied (s : State) (l : LaneId) : Nat := leNat (s.mramRead (partBase l + 24) 8)

/-- Block `k` of a partition as stored. -/
def State.partBlock (s : State) (l : LaneId) (k : Nat) : List Byte := s.mramRead (partBase l + 0x10000 + 256 * k) 256

/-- Complete the journal in S6: with a valid JCRC, steps 5 and 6 are performed again for SEQ (R220). -/
def State.completeJournal (s : State) (l : LaneId) : State :=
  let base := partBase l
  let n := leNat (s.mramRead (base + 0x808) 2)
  let h := s.mramRead (base + 0x800) (10 + 2 * n)
  if n = 0 || 240 < n || leNat (s.mramRead (base + 0x800 + 10 + 2 * n) 4) ≠ crc32c h then s
  else
    let s := (List.range n).foldl (fun s i =>
      s.mramWrite (base + 0x10000 + 256 * leAt h (10 + 2 * i) 2) (s.mramRead (base + 0x1000 + 256 * i) 256)) s
    s.mramWrite base (partitionBytes (s.mramRead (base + 4) 16) (leNat (s.mramRead (base + 20) 4)) (leAt h 0 8))

/-- A partition verifies: its header and every block (R215, R220). -/
def State.partitionOk (s : State) (l : LaneId) : Bool :=
  let h := s.mramRead (partBase l) 36
  decide (h.take 4 = [0x4A, 0x4C, 0x52, 0x54]) && decide (leAt h 32 4 = crc32c (h.take 32))
    && (List.range 16128).all (fun k =>
      let b := s.partBlock l k
      decide (leAt b 252 4 = crc32c (leBytes 4 k ++ b.take 252)))

/-- The partition digest: CRC-32C over APPLIED and the CRCs of all data blocks (R220). -/
def State.partitionDigest (s : State) (l : LaneId) : Nat :=
  crc32c (leBytes 8 (s.applied l) ++ (List.range 16128).flatMap (fun k => (s.partBlock l k).drop 252))

/-- Initial value of block `k` in the retained layout; zero where none is listed. -/
def retInitBlock (rs : List RetDecl) (init : List Byte) (k : Nat) : List Byte :=
  match rs with
  | [] => List.replicate 252 0
  | r :: rest =>
    if r.first ≤ k ∧ k < r.first + r.count then padTo 252 (slice init (252 * (k - r.first)) 252)
    else retInitBlock rest (init.drop (252 * r.count)) k

/-- Blocks that the retained layout lists. -/
def listedBlocks (p : Prog) : List Nat := p.ret.flatMap (fun r => (List.range r.count).map (r.first + ·))

/-- A cold start of a lane's retained data in S6 (R221). -/
def State.coldRetained (s : State) (l : LaneId) : State :=
  let p := (s.lane l).prog
  let base := partBase l
  let s := (List.range 16128).foldl (fun s k =>
    s.mramWrite (base + 0x10000 + 256 * k) (blockBytes k (retInitBlock p.ret p.retInit k))) s
  let s := s.mramWrite (base + 0x800 + 10 + 2 * leNat (s.mramRead (base + 0x808) 2)) [0, 0, 0, 0]
  let s := s.mramWrite base (partitionBytes p.id p.layoutId (s.frame l))
  let s := s.emit .report l.idx 1 (leBytes 8 (s.frame l) ++ p.id ++ leBytes 4 p.layoutId)
  s.updLane l (fun x => { x with ret := {
    blocks := (listedBlocks p).foldl (fun m k => mapInsert (mapErase m k) k (retInitBlock p.ret p.retInit k)) [] } })

/-- A warm start of a lane's retained data: the working copies are the committed blocks (R222). -/
def State.warmRetained (s : State) (l : LaneId) : State :=
  let p := (s.lane l).prog
  s.updLane l (fun x => { x with ret := {
    blocks := (listedBlocks p).foldl (fun m k => mapInsert (mapErase m k) k ((s.partBlock l k).take 252)) [] } })

/-! ### Stations (R224, R225) -/

/-- The timeout j of a station in ticks (16 R436). -/
def State.stationTimeout (s : State) (st : Nat) : Nat := s.obj (0x0300 + st) 2

/-- A record turns STALE: SAFE_OK is 0 while it is. -/
def staleRec (r : StationRec) : StationRec := { r with stale := true, safeOk := false }

/-- One cycle of a station on lane `l`: `new` is its whole new data when every input channel arrived, with SAFE_OK;
`part` says that only some arrived (R224, R225). -/
def State.stationStep (s : State) (l : LaneId) (st : Nat) (new : Option (List Byte × Bool)) (part : Bool) : State :=
  let r := s.station l st
  match new with
  | some (data, ok) =>
    s.stationSet l st { r with
      fresh := true, stale := false, recovered := r.stale, safeOk := ok, age := 0, updFrame := s.frame l, data := data }
  | none =>
    let age := satAdd 0xFFFFFFFF r.age 1
    let r := { r with
      fresh := false, recovered := false, age := age, incomplete := satAdd 0xFFFFFFFF r.incomplete (b2n part) }
    s.stationSet l st (if s.stationTimeout st ≤ age then staleRec r else r)

/-- STATION_TIMEOUT: AGE has reached j without an update in this cycle; the record shows STALE (R225). -/
def execStationTimeout (l : LaneId) (st : Nat) (s : State) : Host.Outcome State Fault Refusal :=
  let r := s.station l st
  if s.ticking l && decide (1 ≤ st) && decide (st ≤ 255) && !r.fresh && decide (s.stationTimeout st ≤ r.age) then
    .next (s.stationSet l st (staleRec r))
  else .next s

end Sys2Proof.Machine
end

