-- ==== Sys2Proof/Machine/Rack.lean ====
section
/-! DEFINITION. Racking (08): staging, the program switch with its gate and carry-over, and lane-by-lane installation of
firmware. -/

namespace Sys2Proof.Machine

/-! ### Requests (R230) -/

/-- The last code of R238 (0x1160:05). -/
def State.rackCode (s : State) (c : Nat) : State := { s with rack := { s.rack with code := c } }

/-- Life-cycle states in which images may be staged. -/
def stageLife (fw : Bool) (l : Life) : Bool :=
  match l with
  | .factory => fw
  | .commissioning | .inService | .depotOpen => true
  | .retired => false

/-- The inactive bank of the kind staged is marked empty. -/
def State.emptyStaged (s : State) : State :=
  let s := { s with rack := { s.rack with staged := false, stagedId := [], kind := 0, lanes := [], tCarry := 0, x := 0 } }
  onLanes (fun l s => s.updLane l (fun x => { x with newProg := none })) s

/-- Staging begins (R230, R234): refused with code 0x01 in another state; what was staged before is discarded. -/
def State.stage (s : State) (src kind : Nat) (fromSd : Bool) : State :=
  let okState := s.rack.state = 0 || s.rack.state = 2
  if s.sourceLevel src < 2 || !stageLife (kind == 2) s.md.life || s.md.mode = .stowed || s.md.mode = .start || !okState then
    s.rackCode 1
  else
    let s := s.emptyStaged
    let s := { s with rack := { s.rack with state := 1, kind := kind, fromSd := fromSd, code := 0 } }
    s.supEvt 0x8001 [(1, if fromSd then 1 else 2), (1, kind)]

/-- STAGE_PROGRAM_FROM_HOST. -/
def execStageProgramFromHost (src : Nat) (s : State) : Host.Outcome State Fault Refusal := .next (s.stage src 1 false)

/-- STAGE_PROGRAM_FROM_SD: the file of 0x1160:03 is read. -/
def execStageProgramFromSd (src : Nat) (s : State) : Host.Outcome State Fault Refusal := .next (s.stage src 1 true)

/-- STAGE_FIRMWARE_FROM_HOST. -/
def execStageFirmwareFromHost (src : Nat) (s : State) : Host.Outcome State Fault Refusal := .next (s.stage src 2 false)

/-- STAGE_FIRMWARE_FROM_SD. -/
def execStageFirmwareFromSd (src : Nat) (s : State) : Host.Outcome State Fault Refusal := .next (s.stage src 2 true)

/-- A segment of a host image at the offset of 0x1161:02; one beyond the total length is refused (R250). -/
def State.segment (s : State) (src : Nat) (data : List Byte) : State :=
  let off := s.obj 0x1161 2
  if s.sourceLevel src < 2 || data = [] || decide (1048576 < data.length) || decide (s.obj 0x1161 1 < off + data.length) then s
  else { s with rack := { s.rack with host := overlay s.rack.host off data } }

/-- STAGING_SEGMENT_WRITE. -/
def execStagingSegmentWrite (src : Nat) (data : List Byte) (s : State) : Host.Outcome State Fault Refusal :=
  .next (s.segment src data)

/-! ### Checks of staging (R234, R238, R244) -/

/-- The firmware package of the committed bank. -/
def State.runningFw (s : State) : List Byte := (mapFind s.store.fw s.sup.ka.fwBank).getD Config.factoryFirmware

/-- The header of a firmware package: exactly one section of lane firmware and one of hub firmware (R243). -/
def firmwareShape (b : List Byte) : Bool :=
  let n := leAt b 26 2
  let count := fun (ty : Nat) => (((imgSections b n).map (·.type)).filter (· = ty)).length
  containerOk b firmwareMagic [0x10] 0x0FF00000 n && decide (count 0x0101 = 1) && decide (count 0x0102 = 1) && decide (n = 2)

/-- Checks of a firmware package: the first that fails, 0 for none (R243, R244). -/
def State.firmwareCode (s : State) (b : List Byte) : Nat :=
  let n := leAt b 26 2
  let run := s.runningFw
  if !firmwareShape b then 3
  else if !firmwareVerifies b then 4
  else if !blocksOk b n then 5
  else if leAt b 16 2 ≠ s.obj 0x0003 1 then 6
  else if leAt b 18 2 < s.obj 0x1163 5 then 7
  else if leAt b 20 2 ≠ leAt run 20 2 || leAt run 22 2 < leAt b 24 2 || leAt b 22 2 < leAt run 24 2 then 8
  else 0

/-- Size in bytes of a carry-over type; an OCTET's length stands in PARAM (R239). -/
def carrySize (ty param : Nat) : Nat :=
  match ty with
  | 1 | 2 | 6 | 0x11 => 1
  | 3 | 7 => 2
  | 4 | 8 | 0x0A => 4
  | 5 | 9 | 0x0B => 8
  | 0x0C => param % 65536
  | 0x10 => 16
  | _ => 0

/-- Integer types, with width in bits and signedness. -/
def intType (ty : Nat) : Option (Nat × Bool) :=
  match ty with
  | 2 => some (8, false) | 3 => some (16, false) | 4 => some (32, false) | 5 => some (64, false)
  | 6 => some (8, true) | 7 => some (16, true) | 8 => some (32, true) | 9 => some (64, true)
  | _ => none

/-- Float types. -/
def floatType (ty : Nat) : Option FFmt :=
  match ty with
  | 0x0A => some .f32 | 0x0B => some .f64 | _ => none

/-- An entry of the carry-over map (R239). -/
structure CarryEntry where
  oldTask : Nat
  newTask : Nat
  oldType : Nat
  newType : Nat
  conv : Nat
  area : Nat
  oldOff : Nat
  newOff : Nat
  elems : Nat
  param : Nat
  /-- Its reserved bytes are 0. -/
  rsvOk : Bool
  deriving DecidableEq, Repr

/-- Entry `i` of a map. -/
def carryEntry (m : List Byte) (i : Nat) : CarryEntry :=
  let e := slice m (32 + 24 * i) 24
  ⟨byteAt e 0, byteAt e 1, byteAt e 2, byteAt e 3, byteAt e 4, byteAt e 5, leAt e 8 4, leAt e 12 4, leAt e 16 4, leAt e 20 4, decide (leAt e 6 2 = 0)⟩

/-- The entries of a map. -/
def carryEntries (m : List Byte) : List CarryEntry := (List.range (leAt m 16 4)).map (carryEntry m)

/-- The length of the old OCTET of a RESIZE: PARAM's upper half, or the entry's own size (log entry 33). -/
def oldSize (e : CarryEntry) : Nat := if e.conv = 8 then e.param / 65536 else carrySize e.oldType e.param
def newSize (e : CarryEntry) : Nat := carrySize e.newType e.param

/-- The conversion is allowed for the type pair (R240). -/
def convOk (e : CarryEntry) : Bool :=
  match e.conv with
  | 0 => e.oldType == e.newType && decide (newSize e ≠ 0)
  | 1 | 2 => (intType e.oldType).isSome && (intType e.newType).isSome
  | 3 => (intType e.oldType).isSome && (intType e.newType).isSome && decide ((toInt 32 e.param).natAbs ≤ 63)
  | 4 => (intType e.oldType).isSome && (floatType e.newType).isSome
  | 5 => (floatType e.oldType).isSome && (intType e.newType).isSome && decide (bitsOf e.param 2 0 ≤ 4)
  | 6 => (floatType e.oldType).isSome && (floatType e.newType).isSome && e.oldType ≠ e.newType
  | 7 => ((intType e.oldType).isSome && e.newType == 1) || (e.oldType == 1 && (intType e.newType).isSome)
  | 8 => e.oldType == 0x0C && e.newType == 0x0C
  | _ => false

/-- The integer that bytes of a type spell. -/
def readInt (w : Nat) (sgn : Bool) (b : List Byte) : Int := if sgn then toInt w (leNat b) else (leNat b : Int)

/-- A value lies in an integer type. -/
def fitsInt (w : Nat) (sgn : Bool) (v : Int) : Bool :=
  if sgn then decide (-(2 ^ (w - 1) : Int) ≤ v) && decide (v < 2 ^ (w - 1)) else decide (0 ≤ v) && decide (v < 2 ^ w)

/-- Saturate to an integer type. -/
def satInt (w : Nat) (sgn : Bool) (v : Int) : Int :=
  if sgn then max (-(2 ^ (w - 1) : Int)) (min (2 ^ (w - 1) - 1) v) else max 0 (min (2 ^ w - 1) v)

/-- floor(x · 2^p). -/
def scaleInt (x p : Int) : Int := if 0 ≤ p then x * 2 ^ p.toNat else x / 2 ^ (-p).toNat

/-- Convert one element; none where the conversion fails (R240). -/
def convert (e : CarryEntry) (b : List Byte) : Option (List Byte) :=
  let n := newSize e
  match e.conv with
  | 0 => some b
  | 1 | 2 | 3 =>
    match intType e.oldType, intType e.newType with
    | some (w, g), some (w', g') =>
      let v := readInt w g b
      let v := if e.conv = 3 then scaleInt v (toInt 32 e.param) else v
      if e.conv = 2 then some (leBytes n (ofInt (8 * n) (satInt w' g' v)))
      else if fitsInt w' g' v then some (leBytes n (ofInt (8 * n) v)) else none
    | _, _ => none
  | 4 =>
    match intType e.oldType, floatType e.newType with
    | some (w, g), some f =>
      let v := readInt w g b
      some (leBytes n (packRound f 0 (decide (v < 0)) v.natAbs 0 false))
    | _, _ => none
  | 5 =>
    match floatType e.oldType, intType e.newType with
    | some f, some (w, g) =>
      match unpack f (leNat b) with
      | .fin neg m x =>
        let v := fToInt (bitsOf e.param 2 0) neg m x
        if fitsInt w g v then some (leBytes n (ofInt (8 * n) v)) else none
      | _ => none
    | _, _ => none
  | 6 =>
    match floatType e.oldType, floatType e.newType with
    | some f, some f' =>
      let v := unpack f (leNat b)
      let r := pack f' v
      match v, unpack f' r with
      | .fin _ _ _, .inf _ => none
      | _, _ => some (leBytes n r)
    | _, _ => none
  | 7 =>
    if e.newType = 1 then some [if leNat b = 0 then 0 else 1]
    else some (leBytes n (if leNat b = 0 then 0 else 1))
  | _ => some (padTo n b)

/-- Bytes of a task's area: plain state, or its retained blocks. -/
def areaSize (p : Prog) (t area : Nat) : Nat :=
  if area = 0 then (match p.tasks.find? (fun d => d.task == t) with | some d => d.statePlain | none => 0)
  else 252 * (((p.ret.filter (fun r => r.task == t)).map (·.count)).sum)

/-- An entry is valid against both sets (R239). -/
def entryOk (old new : Prog) (e : CarryEntry) : Bool :=
  let place := fun (p : Prog) (t : Nat) => (p.tasks.find? (fun d => d.task == t)).map (·.place)
  -- data of a single-lane task stays on its lane
  let stays := decide (place old e.oldTask = some 0) || decide (place old e.oldTask = place new e.newTask)
  decide (e.area ≤ 1) && decide (1 ≤ e.elems) && decide (e.elems ≤ 65536) && convOk e
    && (place old e.oldTask).isSome && (place new e.newTask).isSome && stays && e.rsvOk
    && decide (e.oldOff + e.elems * oldSize e ≤ areaSize old e.oldTask e.area)
    && decide (e.newOff + e.elems * newSize e ≤ areaSize new e.newTask e.area)

/-- Two entries write overlapping bytes. -/
def entriesOverlap : List CarryEntry → Bool
  | [] => false
  | e :: es => es.any (fun f => decide (e.newTask = f.newTask) && decide (e.area = f.area)
      && decide (e.newOff < f.newOff + f.elems * newSize f) && decide (f.newOff < e.newOff + e.elems * newSize e))
    || entriesOverlap es

/-- t_carry in ns on a lane: 2 µs + 0.01 µs · E + B/4 800 µs, rounded up (R237). -/
def carryNs (new : Prog) (es : List CarryEntry) (l : LaneId) : Nat :=
  let mine := es.filter (fun e => new.tasks.any (fun d => d.task == e.newTask && d.onLane l))
  let b := (mine.map (fun e => e.elems * newSize e)).sum
  2000 + 10 * mine.length + (5 * b + 23) / 24

/-- X of R241; 0 where the share is less than 1. -/
def rewriteShare (p : Prog) (i t : Nat) : Nat :=
  let w := commitBlocks p i
  min (240 - w) ((i * t - 115000) / 1250 - w)

/-- The header of a map: COUNT 0 to 65 535, reserved bytes 0, and as many entries as the section holds (R239). -/
def carryHeaderOk (m : List Byte) : Bool :=
  decide (leAt m 16 4 ≤ 65535) && (slice m 20 12).all (· = 0) && decide (m.length = 32 + 24 * leAt m 16 4)

/-- Bytes that a set needs in lane memory: code and constant data, and the regions of its tasks. -/
def setBytes (p : Prog) : Nat :=
  p.code + (p.tasks.map (fun d => d.statePlain + d.stateEnc + d.outBytes + d.stack + d.insec)).sum

/-- Checks of a program image for staging on lane `l`: the first that fails (R234, R238). -/
def State.stageCode (s : State) (l : LaneId) (b : List Byte) : Nat :=
  let old := (s.lane l).prog
  let new := parseProg l b
  let es := carryEntries new.carry
  let adm := s.admissionCode l b
  let i := s.obj 0x1150 2
  if adm = 1 then 3
  else if adm = 2 then 4
  else if adm = 3 then 5
  else if adm = 4 then 6
  else if adm ≠ 0 then 9
  else if new.carry = [] || padTo 16 (new.carry.take 16) ≠ padTo 16 old.id then 10
  else if !carryHeaderOk new.carry || !es.all (entryOk old new) || entriesOverlap es
      || decide (safeClasses new ≠ safeClasses old) then 11
  else if 70000 + (s.endA l - 20000) < carryNs new es l || rewriteShare new i s.period < 1 then 12
  else if 2 ^ 32 < setBytes old + setBytes new then 13
  else 0

/-- The tag that a storage block would carry (04 R112): KIND 0x04, CHECK from the block check table of an image with `n` sections, PORT 0
for the eMMC and 1 for the SD card. -/
def storageTag (b : List Byte) (n port i : Nat) : List Byte :=
  tagBytes (leAt b (64 + 16 * n + 4 * i) 4) 4 (min 65536 (imgBodyLen b - 65536 * i)) port 0

/-- The hub's check of each block as it writes it into the eMMC: the payload against CHECK of its tag (04 R113, R234 step 1). -/
def hubBlocksOk (b : List Byte) (n port : Nat) : Bool :=
  (List.range (imgBlockCnt b)).all (fun i =>
    decide (leAt (storageTag b n port i) 0 4 = crc32c (slice b (imgHdrLen b + 65536 * i) (min 65536 (imgBodyLen b - 65536 * i)))))

/-- The file name of 0x1160:03 can be one: 1 to 64 printable ASCII characters (R232). -/
def fileNameOk (n : List Byte) : Bool :=
  decide (1 ≤ n.length) && decide (n.length ≤ 64) && n.all (fun c => decide (0x20 ≤ c.toNat) && decide (c.toNat ≤ 0x7E))

/-- A letter as its small form: file names are case-insensitive (R232). -/
def smallLetter (c : Byte) : Byte := if 0x41 ≤ c.toNat ∧ c.toNat ≤ 0x5A then c + 0x20 else c

/-- The card and its file system are supported (R232). -/
def cardSupported (c : SdCard) : Bool :=
  (c.kind == .sdhc || c.kind == .sdxc)
    && (c.bus == .default || c.bus == .high || c.bus == .sdr12 || c.bus == .sdr25 || c.bus == .sdr50)
    && (c.fs == .fat32 || c.fs == .exfat) && c.part != .gpt

/-- The file that the card gives for a name, none where it cannot be read (R232, R233). -/
def cardFile (c : SdCard) (name : List Byte) : Option (List Byte) :=
  if cardSupported c && fileNameOk name then
    (c.files.find? (fun f => decide (f.1.map smallLetter = name.map smallLetter))).bind (·.2)
  else none

/-- The staged image of the kind, once its copying has ended: the host's segments, or the file of 0x1160:03. -/
def State.stagingImage (s : State) (card : Option SdCard) : Option (List Byte) :=
  if s.rack.fromSd then card.bind (fun c => cardFile c (s.objBytes 0x1160 3)) else some s.rack.host

/-- The code with which the hub ends the copy into the eMMC, 0 for none (R234 step 1, R250): a source that cannot be read, a length beyond
the bank, a block that does not match its check value. -/
def State.copyCode (s : State) (card : Option SdCard) : Nat :=
  let fw := s.rack.kind = 2
  match s.stagingImage card with
  | none => 2
  | some b =>
    if !s.rack.fromSd && decide ((if fw then 0x10000000 else 0x40000000) < s.obj 0x1161 1) then 3
    else
      let n := leAt b 26 2
      let whole := if fw then firmwareShape b else headerOk b
      if whole && !hubBlocksOk b n (b2n s.rack.fromSd) then 5 else 0

/-- The code that lane `l` finds in the staged image, 0 for none (R234 steps 2 and 3). -/
def State.laneCode (s : State) (l : LaneId) (b : List Byte) : Nat := if s.rack.kind = 1 then s.stageCode l b else s.firmwareCode b

/-- The lanes that take part in staging. -/
def State.stagingLanes (s : State) : List LaneId := lanes.filter (fun l => (s.lane l).supplied)

/-- What each lane reports (0x1160:06 to 08): staged or failed. -/
def State.stageReports (s : State) (b : List Byte) : List (Nat × Nat) :=
  s.stagingLanes.map (fun (l : LaneId) => (l.idx, if s.laneCode l b = 0 then 1 else 2))

/-- Staging ends with code `c` in the hub's copy (lane 3 in event 0x8003, log entry 65): the inactive bank is marked empty. -/
def State.copyFailed (s : State) (c : Nat) : State :=
  let s := (s.hubEvt 0x8003 [(1, c), (1, 3)]).emptyStaged
  { s with rack := { s.rack with state := 0, code := c } }

/-- Staging ends with the first code that a lane found: each lane that found one records event 0x8003, and event 0x1022 where its
planner refused the set (02 R64); the inactive bank is marked empty. -/
def State.stagingFailed (s : State) (b : List Byte) (c : Nat) : State :=
  let rep := s.stageReports b
  let s := onLanes (fun l s =>
    if !(s.lane l).supplied || s.laneCode l b = 0 then s
    else
      let s := s.laneEvt l 0x8003 [(1, s.laneCode l b), (1, l.idx)]
      if s.rack.kind = 1 && s.admissionCode l b = 12 then
        s.laneEvt l 0x1022 [(1, l.idx), (4, planMargin (parseProg l b) l 1200 (s.endA l) s.period / 1000)]
      else s) s
  let s := s.emptyStaged
  { s with rack := { s.rack with state := 0, code := c, lanes := rep } }

/-- Where a set goes beside the running one: two places of 32 MiB take turns (R234 step 3, 07 R209; log entry 66). -/
def besideAt (p : Prog) : Nat := if p.codeAt = 0x80000000 then 0x82000000 else 0x80000000

/-- Lane `l` loads code and constant data of the staged set beside the running set (R234 step 3). -/
def State.loadBeside (s : State) (l : LaneId) (b : List Byte) : State :=
  let a := besideAt (s.lane l).prog
  s.updLane l (fun x => { x with
    newProg := some { parseProg l b with codeAt := a }, mem := loadSections b (laneSections b l) a x.mem })

/-- Every check has passed: the inactive bank holds the image, and every lane reports it staged (R234 step 4). -/
def State.stagingDone (s : State) (b : List Byte) : State :=
  let rep := s.stageReports b
  let s := if s.rack.kind = 1 then
      let k := 1 - s.sup.ka.progBank
      let s := { s with store := { s.store with prog := mapInsert (mapErase s.store.prog k) k b } }
      let s := onLanes (fun l s => if (s.lane l).supplied then s.loadBeside l b else s) s
      let i := s.obj 0x1150 2
      let ps := s.stagingLanes.map (fun (l : LaneId) => (l, parseProg l b))
      { s with rack := { s.rack with
        tCarry := maxList (ps.map (fun p => carryNs p.2 (carryEntries p.2.carry) p.1))
        x := (ps.map (fun p => rewriteShare p.2 i s.period)).foldl min 240 } }
    else
      let k := s.stagedFwBank
      { s with store := { s.store with fw := mapInsert (mapErase s.store.fw k) k b } }
  let s := { s with rack := { s.rack with
    state := 2, code := 0, staged := true, stagedId := imgId b, lanes := rep } }
  s.supEvt 0x8002 [(1, s.rack.kind), (8, leNat ((imgId b).take 8))]

/-- STAGING_COMPLETE: the copy into the inactive bank and the lanes' checks end (R234). `card` is what stands in the SD slot. -/
def execStagingComplete (card : Option SdCard) (s : State) : Host.Outcome State Fault Refusal :=
  if s.rack.state ≠ 1 then .next s
  else if s.copyCode card ≠ 0 then .next (s.copyFailed (s.copyCode card))
  else match s.stagingImage card with
    | none => .next s
    | some b =>
      let adm := s.stagingLanes.map (fun (l : LaneId) => s.admissionCode l b)
      let s := if s.rack.kind = 1 then s.cntSet 0x1150 3 ((adm.find? (· ≠ 0)).getD 0) else s
      match (s.stagingLanes.map (fun (l : LaneId) => s.laneCode l b)).find? (· ≠ 0) with
      | some c => .next (s.stagingFailed b c)
      | none => .next (s.stagingDone b)

/-! ### The switch (R235 to R242) -/

/-- Some lane realigns or is a candidate. -/
def State.realigning (s : State) : Bool := lanes.any (fun l => decide (2 ≤ s.lf l VOT_RLN_ROLE))

/-- The image is staged on every member. -/
def State.stagedOnMembers (s : State) (kind : Nat) : Bool :=
  s.rack.staged && s.rack.kind == kind && s.memberList.all (fun l => mapFind s.rack.lanes l.idx == some 1)

/-- The switch request (R230, R235): s from 0x1160:02, 0 meaning a + 4. -/
def State.requestSwitch (s : State) (src : Nat) : State :=
  let a := s.modFrame
  let t := if s.obj 0x1160 2 = 0 then frameAdd a 4 else s.obj 0x1160 2
  if s.sourceLevel src < 2 || !(s.md.life = .commissioning || s.md.life = .inService) || s.md.mode ≠ .safe3
      || s.rack.state ≠ 2 || !s.stagedOnMembers 1 || s.realigning then s.rackCode 1
  else if frameDiff t a < 4 || (2 ^ 20 : Int) < frameDiff t a then s.rackCode 0x13
  else
    let s := { s with rack := { s.rack with
      state := 3, switchFrame := some t, gateMsgs := [], gateGo := none, gateLanes := 0, code := 0 } }
    s.supEvt 0x8010 [(6, a), (6, t)]

/-- SWITCH_PROGRAM: a switch request fixes the switch frame and starts the gate. -/
def execSwitchProgram (src : Nat) (s : State) : Host.Outcome State Fault Refusal := .next (s.requestSwitch src)

/-- The 32 bytes of a gate message (R236). -/
def gateBytes (frame : Nat) (id : List Byte) (ls kind : Nat) : List Byte :=
  let b := leBytes 8 frame ++ padTo 16 id ++ leBytes 1 ls ++ leBytes 1 kind ++ leBytes 2 0
  b ++ leBytes 4 (crc32c b)

/-- In V of cycle s − 2 a lane sends READY or REFUSE; in V of cycle s it sends SWITCHED or REFUSE (R235, R242). -/
def State.gateSend (s : State) (l : LaneId) : State :=
  match s.rack.switchFrame with
  | none => s
  | some t =>
    let id := s.rack.stagedId
    let ready := (s.lane l).newProg.isSome && s.rack.staged && mapFind s.rack.lanes l.idx == some 1
    if frameAdd (s.frame l) 2 = t then
      s.emit .gateMessage l.idx 0 (gateBytes t id l.idx (if ready then 1 else 3))
    else if s.frame l = t then
      s.emit .gateMessage l.idx 0 (gateBytes t id l.idx (if (s.lane l).prog.id = id then 2 else 3))
    else s

/-- A lane without a valid switch record for a pending switch leaves in cycle s − 1 (R235). -/
def State.gateLeave (s : State) (l : LaneId) : State :=
  match s.rack.switchFrame with
  | some t =>
    if frameAdd (s.frame l) 1 = t && (s.lane l).switchRec.isNone then
      s.updLane l (fun x => { x with rt := { x.rt with leave := true } })
    else s
  | none => s

/-- A gate message is well formed: its CRC, its reserved fields (R236). -/
def gateOk (b : List Byte) : Bool :=
  decide (b.length = 32) && decide (leAt b 28 4 = crc32c (b.take 28)) && decide (leAt b 26 2 = 0) && decide (leAt b 6 2 = 0)

/-- A lane's READY, SWITCHED or REFUSE reaches the supervisor (R235, R236, R242). -/
def State.gateKeep (s : State) (l : LaneId) (b : List Byte) : State :=
  if !s.sup.supplied then s
  else
    let m : GateMsg := ⟨l.idx, byteAt b 25, leAt b 0 6, slice b 8 16⟩
    { s with rack := { s.rack with gateMsgs := m :: s.rack.gateMsgs.filter (fun g => !(g.lane == l.idx && g.kind == m.kind)) } }

/-- The switch record reaches lane `l` in L of cycle s − 1: GO or NOGO for the pending switch (R235). -/
def State.gateRead (s : State) (l : LaneId) (b : List Byte) : State :=
  let t := leAt b 0 6
  let valid := s.ticking l && decide (s.rack.switchFrame = some t) && decide (frameAdd (s.frame l) 1 = t)
    && decide (slice b 8 16 = padTo 16 s.rack.stagedId)
  if valid then s.updLane l (fun x => { x with switchRec := some (byteAt b 25 == 0x10) }) else s

/-- GATE_MESSAGE_RECEIVE on the link between lane `l` and voter 2: the supervisor receives a lane's message (KIND 0x01 to 0x03), the
lane the switch record (KIND 0x10, 0x11) (R235, R236, R242; one row for both ends, log entry 67). -/
def execGateMessageReceive (l : LaneId) (b : List Byte) (s : State) : Host.Outcome State Fault Refusal :=
  let k := byteAt b 25
  if !gateOk b then .next s
  else if 1 ≤ k ∧ k ≤ 3 ∧ byteAt b 24 = l.idx then .next (s.gateKeep l b)
  else if k = 0x10 ∨ k = 0x11 then .next (s.gateRead l b)
  else .next s

/-- SWITCH_GATE at supervisor edge s − 1 (R235): GO when every member sent READY with equal s and identity in SAFE-3 with
no candidate or target; the switch record goes out with the status record. -/
def State.switchGate (s : State) (edge : Nat) : State :=
  match s.rack.switchFrame with
  | none => s
  | some t =>
    if frameAdd edge 1 ≠ t || s.rack.gateGo.isSome then s
    else
      let ready := laneSet (fun l => s.rack.gateMsgs.any (fun m => m.lane == l.idx && m.kind == 1 && m.frame == t
        && m.setId == padTo 16 s.rack.stagedId))
      let refused := s.rack.gateMsgs.any (fun m => m.kind == 3 && m.frame == t && inSet s.members (laneOf m.lane))
      let go := decide (nAndNot s.members ready = 0) && decide (s.members ≠ 0) && !refused && s.md.mode == .safe3 && !s.realigning
      let b := gateBytes t s.rack.stagedId ready (if go then 0x10 else 0x11)
      let s := onLanes (fun l s => if (s.lane l).supplied then s.emit .gateMessage l.idx 1 b else s) s
      let s := { s with rack := { s.rack with gateGo := some go, gateLanes := ready } }
      if go then s
      else
        let s := { s with rack := { s.rack with state := 2, code := 0x0E, switchFrame := none } }
        s.supEvt 0x8012 [(1, ready)]

/-- The old bytes of a task's area on a lane. -/
def State.areaBytes (s : State) (l : LaneId) (p : Prog) (t area : Nat) : List Byte :=
  if area = 0 then (s.task l t).state
  else (p.ret.filter (fun r => r.task == t)).flatMap (fun r =>
    (List.range r.count).flatMap (fun i => mapGet (List.replicate 252 0) (s.lane l).ret.blocks (r.first + i)))

/-- Convert the elements of an entry; none at the first failure. -/
def convertAll (e : CarryEntry) (old : List Byte) : Nat → Option (List Byte)
  | 0 => some []
  | n + 1 =>
    match convertAll e old n with
    | none => none
    | some done => (convert e (slice old (e.oldOff + n * oldSize e) (oldSize e))).map (done ++ ·)

/-- Put bytes into the retained blocks of a task at a byte offset of its area. -/
def blocksPut (p : Prog) (t : Nat) (m : List (Nat × List Byte)) (off : Nat) (bs : List Byte) : List (Nat × List Byte) :=
  let ks := (p.ret.filter (fun r => r.task == t)).flatMap (fun r => (List.range r.count).map (r.first + ·))
  let area := overlay (ks.flatMap (fun k => mapGet (List.replicate 252 0) m k)) off bs
  ks.zipIdx.foldl (fun m q => mapInsert (mapErase m q.1) q.1 (slice area (252 * q.2) 252)) m

/-- The carry-over of one lane, entry by entry; a failure gives the entry's number (R237, R240). -/
def State.carryGo (s : State) (l : LaneId) (old new : Prog) :
    List (CarryEntry × Nat) → List (Nat × TaskRt) × List (Nat × List Byte) →
    (List (Nat × TaskRt) × List (Nat × List Byte)) ⊕ Nat
  | [], acc => .inl acc
  | (e, i) :: es, (ts, bl) =>
    if !(new.tasks.any (fun d => d.task == e.newTask && d.onLane l)) then s.carryGo l old new es (ts, bl)
    else match convertAll e (s.areaBytes l old e.oldTask e.area) e.elems with
      | none => .inr i
      | some bs =>
        if e.area = 0 then
          let t := mapGet {} ts e.newTask
          s.carryGo l old new es (mapSet {} ts e.newTask { t with state := overlay t.state e.newOff bs }, bl)
        else s.carryGo l old new es (ts, blocksPut new e.newTask bl e.newOff bs)

/-- The lane-management core writes XCH_LAYOUT and the verify list of the new set; they take effect at edge s (R237). -/
def State.switchRegs (s : State) (l : LaneId) (new : Prog) : State :=
  if new.exchange.length < 4 then s else s.setDueReg l XCH_LAYOUT.reg (leAt new.exchange 0 4)

/-- From D_N of cycle s − 1, on GO, the lane forms the new set's state from the running set's committed state (R237). -/
def State.carryOver (s : State) (l : LaneId) : State :=
  match s.rack.switchFrame, (s.lane l).newProg with
  | some t, some new =>
    if frameAdd (s.frame l) 1 = t && (s.lane l).switchRec = some true then
      let old := (s.lane l).prog
      let ts := (freshTaskMap new).map (fun p => (p.1, { p.2 with switched := true }))
      let bl := (listedBlocks new).foldl (fun m k => mapInsert (mapErase m k) k (retInitBlock new.ret new.retInit k)) []
      match s.carryGo l old new (carryEntries new.carry).zipIdx (ts, bl) with
      | .inl r => (s.updLane l (fun x => { x with carried := some r, carryFail := none })).switchRegs l new
      | .inr i => s.updLane l (fun x => { x with carried := none, carryFail := some i })
    else s
  | _, _ => s

/-- At edge s a lane takes the new set with the carried state; a failed conversion leaves the old set running, event
0x8013 (R240, R241). -/
def State.switchAtEdge (s : State) (l : LaneId) : State :=
  match s.rack.switchFrame with
  | none => s
  | some t =>
    if s.frame l ≠ t then s
    else match (s.lane l).carried, (s.lane l).newProg, (s.lane l).carryFail with
      | some (ts, bl), some p, none =>
        let s := s.updLane l (fun x => { x with
          prog := p, newProg := none, carried := none, switchRec := none
          rt := { x.rt with tasks := ts, classOut := x.rt.classOut, pendOut := [], pendRet := [] }
          ret := { x.ret with blocks := bl, marked := [] } })
        let s := { s with rack := { s.rack with
          rewrite := mapSet [] s.rack.rewrite l.idx (listedBlocks p), rewriteX := s.rack.x } }
        let s := s.lfSet l TCK_OVR_CNT 0
        ((s.lfSet l TCK_CLS_CFG_SAFE (safeClasses p)).fillSafeMap l).showPlan l
      | _, _, some i =>
        ((s.updLane l (fun x => { x with carried := none, carryFail := none, switchRec := none })).rackCode 0x0F).laneEvt l 0x8013
          [(2, i), (1, l.idx)]
      | _, _, _ => s.updLane l (fun x => { x with switchRec := none })

/-- PROGRAM_BANK_ACTIVATE at supervisor edge s + 1 (R242): with two members SWITCHED the new bank becomes active. -/
def State.activateBank (s : State) (edge : Nat) : State :=
  match s.rack.switchFrame with
  | none => s
  | some t =>
    if edge ≠ frameAdd t 1 || s.rack.gateGo ≠ some true then s
    else
      let by_ := laneSet (fun l => inSet s.members l && s.rack.gateMsgs.any (fun m => m.lane == l.idx && m.kind == 2 && m.frame == t))
      if 2 ≤ laneSetCount by_ then
        let old := imgId s.activeImage
        let new := s.rack.stagedId
        let s := { s with sup := { s.sup with ka := { s.sup.ka with progBank := 1 - s.sup.ka.progBank } } }
        let s := { s with rack := { s.rack with state := 0, staged := false, kind := 0, lanes := [], switchFrame := none } }
        s.supEvt 0x8011 [(8, leNat (old.take 8)), (8, leNat (new.take 8)), (6, t)]
      else { s with rack := { s.rack with state := 2, switchFrame := none } }

/-! ### Installation (R245 to R248) -/

/-- Set a boot selector: lanes 0 to 2, the hub 3. -/
def State.setSel (s : State) (i bank : Nat) : State :=
  { s with sup := { s.sup with ka := { s.sup.ka with sel := mapSet 0 s.sup.ka.sel i bank } } }

/-- INSTALL_IN_SERVICE: the request starts lane-by-lane installation (R230, R245). -/
def State.requestInstall (s : State) (src : Nat) : State :=
  if s.sourceLevel src < 2 || !(s.md.life = .commissioning || s.md.life = .inService) || s.md.mode ≠ .safe3
      || s.rack.state ≠ 2 || !s.stagedOnMembers 2 || s.memberList.any (fun l => decide (s.lf l VOT_SCFG_ENTRIES = 0)) then
    s.rackCode 1
  else { s with rack := { s.rack with state := 4, code := 0, hubFails := 0, install := some { lanes := [0, 1, 2] } } }

def execInstallInService (src : Nat) (s : State) : Host.Outcome State Fault Refusal := .next (s.requestInstall src)

/-- The lanes to return on a revert: those whose selector names the staged bank, `first` in front (R247). -/
def State.revertLanes (s : State) (first : Option Nat) : List Nat :=
  let named := [0, 1, 2].filter (fun i => mapGet 0 s.sup.ka.sel i == s.stagedFwBank)
  match first with
  | some f => if named.contains f then f :: named.filter (· ≠ f) else named
  | none => named

/-- A revert begins: event 0x8024; a lane that is already out restarts from the committed bank at once (R247). -/
def State.beginRevert (s : State) (first : Nat) (code : Nat) (out : Bool) : State :=
  let ls := s.revertLanes (some first)
  let s := s.setSel 3 s.sup.ka.fwBank
  let s := (s.rackCode code).supEvt 0x8024 [(1, first), (1, code)]
  match ls with
  | [] => { s with rack := { s.rack with state := 2, install := none } }
  | f :: _ =>
    let s := { s with rack := { s.rack with state := 8, install := some { lanes := ls, revert := true } } }
    if out && f = first then
      let s := (s.setSel f s.sup.ka.fwBank).laneRestart (laneOf f) 0
      { s with rack := { s.rack with install := some { lanes := ls, revert := true, left := true, removed := s.sup.frame } } }
    else s

/-- INSTALL_NEXT_LANE: with SAFE-3, no candidate or target and the spacing since the last admission, the next lane's
selector is set and the lane leaves the vote (R245; on a revert R247). -/
def execInstallNextLane (s : State) : Host.Outcome State Fault Refusal :=
  match s.rack.install with
  | none => .next s
  | some i =>
    match i.lanes with
    | [] => .next s
    | f :: _ =>
      let l := laneOf f
      let spaced := (s.framesOf (s.obj 0x1162 2) : Int) ≤ frameDiff s.sup.frame s.rack.lastJoin || s.rack.lastJoin = 0
      if i.left || s.md.mode ≠ .safe3 || s.realigning || !spaced || !s.inVote l then .next s
      else if i.aborting && !i.revert then .next (s.beginRevert f 0x12 false)
      else
        let bank := if i.revert then s.sup.ka.fwBank else s.stagedFwBank
        let s := s.setSel f bank
        let s := if i.revert then s else s.supEvt 0x8020 [(1, f), (1, bank)]
        let s := { s with rack := { s.rack with state := if i.revert then 8 else 4 + f } }
        .next (s.updLane l (fun x => { x with rt := { x.rt with leave := true } }))

/-- INSTALL_ADMIT_TIMEOUT: an installed lane not admitted within 0x1162:01 ms of its removal triggers a revert (R245,
R247); a lane that fails on its return stays out. -/
def execInstallAdmitTimeout (s : State) : Host.Outcome State Fault Refusal :=
  match s.rack.install with
  | some i =>
    match i.lanes with
    | [] => .next s
    | f :: rest =>
      let late := i.left && decide (s.obj 0x1162 1 ≤ s.framesMs (frameDiff s.sup.frame i.removed).toNat)
      if !late then .next s
      else if i.revert then
        let i := { i with lanes := rest, left := false }
        .next { s with rack := { s.rack with
          install := if rest = [] then none else some i, state := if rest = [] then 2 else 8 } }
      else .next (s.beginRevert f 0x10 true)
  | none => .next s

/-- HUB_RUNNING_REPORT: a lane reports the hub firmware running; with two members the restart is complete, and the staged
bank is committed when it was the one started (R245, R246). -/
def execHubRunningReport (l : LaneId) (s : State) : Host.Outcome State Fault Refusal :=
  match s.rack.hubRestart with
  | none => .next s
  | some f =>
    let r := nOr s.rack.hubReports (if s.inVote l then 2 ^ l.idx else 0)
    let s := { s with rack := { s.rack with hubReports := r } }
    if laneSetCount r < 2 then .next s
    else
      let s := s.supEvt 0x8023 [(4, s.framesMs (frameDiff s.sup.frame f).toNat)]
      let s := ({ s with rack := { s.rack with hubRestart := none }, hub := { s.hub with mgmtUp := true } } : State).tbRunning
      if s.hub.bank = s.stagedFwBank && s.rack.install.isSome then
        let b := (mapFind s.store.fw s.hub.bank).getD []
        let s := { s with sup := { s.sup with ka := { s.sup.ka with fwBank := s.hub.bank } } }
        let s := (s.setSel 3 s.hub.bank).storedSet 0x1163 5 (leBytes 2 (leAt b 18 2))
        let s := { s with rack := { s.rack with state := 0, staged := false, kind := 0, lanes := [], install := none } }
        .next (s.supEvt 0x8025 [(8, leNat ((imgId b).take 8)), (2, leAt b 18 2)])
      else .next s

/-- HUB_RESTART_TIMEOUT: without two running reports within 2 s the hub restarts from the committed bank, event 0x8026,
and the installation is reverted; when that fails too, the management cores stay stopped (R246, R247). -/
def execHubRestartTimeout (s : State) : Host.Outcome State Fault Refusal :=
  match s.rack.hubRestart with
  | none => .next s
  | some f =>
    if s.framesMs (frameDiff s.sup.frame f).toNat < 2000 then .next s
    else
      let n := s.rack.hubFails + 1
      let s := s.supEvt 0x8026 [(4, n)]
      let s := { s with rack := { s.rack with hubFails := n, hubRestart := none } }
      if n = 1 then
        let s := s.beginRevert 0 0x11 false
        let st := s.rack.state
        let s := s.beginHubRestart s.sup.ka.fwBank
        .next { s with rack := { s.rack with state := st } }
      else .next { s with rack := { s.rack with hubStopped := true } }

/-- INSTALL_AT_NEXT_START: every selector is set to the staged bank, pending the next start (R230, R248). -/
def State.requestNextStart (s : State) (src : Nat) : State :=
  if s.sourceLevel src < 2 || s.md.life = .retired || !(s.md.mode = .configure || s.md.mode = .depot) || s.rack.state ≠ 2
      || !(s.rack.staged && s.rack.kind == 2) then s.rackCode 1
  else
    let b := s.stagedFwBank
    let s := (((s.setSel 0 b).setSel 1 b).setSel 2 b).setSel 3 b
    { s with
      rack := { s.rack with state := 9, code := 0 }
      sup := { s.sup with ka := { s.sup.ka with selPending := true } } }

def execInstallAtNextStart (src : Nat) (s : State) : Host.Outcome State Fault Refusal := .next (s.requestNextStart src)

/-- Every selector names the committed bank again, with nothing pending. -/
def State.restoreSel (s : State) : State :=
  let b := s.sup.ka.fwBank
  let s := (((s.setSel 0 b).setSel 1 b).setSel 2 b).setSel 3 b
  { s with sup := { s.sup with ka := { s.sup.ka with selPending := false } } }

/-- ABORT_RACKING (R230, R247): staging ends with an empty bank, a pending switch or start ends with the image still staged,
an installation lets its lane finish and is reverted. -/
def State.requestAbort (s : State) (src : Nat) : State :=
  if s.sourceLevel src < 2 || s.md.life = .retired || s.md.mode = .stowed then s.rackCode 1
  else
    let st := s.rack.state
    let s := (s.rackCode 0x12).supEvt 0x8040 [(1, st)]
    if st = 1 then
      let s := s.emptyStaged
      { s with rack := { s.rack with state := 0 } }
    else if st = 3 then { s with rack := { s.rack with state := 2, switchFrame := none } }
    else if st = 9 then
      let s := s.restoreSel
      { s with rack := { s.rack with state := 2 } }
    else match s.rack.install with
      | some i =>
        if i.revert then s
        else if i.left || st = 7 then { s with rack := { s.rack with install := some { i with aborting := true } } }
        else s.beginRevert (i.lanes.headD 0) 0x12 false
      | none => s

def execAbortRacking (src : Nat) (s : State) : Host.Outcome State Fault Refusal := .next (s.requestAbort src)

/-- The staged image leaves its bank. -/
def State.dropStaged (s : State) : State :=
  let k := 1 - s.sup.ka.progBank
  let s := if s.rack.kind = 1 then { s with store := { s.store with prog := mapErase s.store.prog k } }
    else if s.rack.kind = 2 then { s with store := { s.store with fw := mapErase s.store.fw s.stagedFwBank } }
    else s
  let s := s.emptyStaged
  { s with rack := { s.rack with state := 0, code := 0, switchFrame := none } }

/-- DISCARD_STAGED: the staged image is discarded (R230). A pending switch, a pending start or staging in progress ends with it; while
firmware is installed the request acts as an abort, which keeps the image (log entry 64). -/
def State.requestDiscard (s : State) (src : Nat) : State :=
  if s.sourceLevel src < 2 || s.md.life = .retired || s.md.mode = .stowed then s.rackCode 1
  else if s.rack.install.isSome || decide (4 ≤ s.rack.state ∧ s.rack.state ≤ 8) then s.requestAbort src
  else (if s.rack.state = 9 then s.restoreSel else s).dropStaged

def execDiscardStaged (src : Nat) (s : State) : Host.Outcome State Fault Refusal := .next (s.requestDiscard src)

/-- A racking request of 0x1160:01 by its value (R250). -/
def State.rackRequest (s : State) (src v : Nat) : State :=
  match v with
  | 1 => s.stage src 1 false
  | 2 => s.stage src 1 true
  | 3 => s.requestSwitch src
  | 4 => s.stage src 2 false
  | 5 => s.stage src 2 true
  | 6 => s.requestInstall src
  | 7 => s.requestNextStart src
  | 8 => s.requestAbort src
  | 9 => s.requestDiscard src
  | _ => s

end Sys2Proof.Machine
end

