-- ==== Sys2Proof/Machine/Can.lean ====
section
/-! DEFINITION. The eight CAN channels (12): receiving, transmitting, cancelling, bus-off, restricted operation and
time-triggered operation. -/

namespace Sys2Proof.Machine

/-! ### Channels -/

/-- Channel `ch` beyond its registers. -/
def State.canCh (s : State) (ch : Nat) : CanCh := mapGet {} s.can.chs ch

/-- Change what a channel holds beyond its registers. -/
def State.canUpd (s : State) (ch : Nat) (f : CanCh → CanCh) : State :=
  { s with can := { s.can with chs := mapSet {} s.can.chs ch (f (s.canCh ch)) } }

/-- CAN_STAT.STATE. -/
def State.canState (s : State) (ch : Nat) : Nat := s.hf (CAN_STAT_STATE ch)

/-- The channel takes part in bus traffic: integrating, error active or error passive. -/
def State.canOn (s : State) (ch : Nat) : Bool :=
  s.hub.supplied && decide (ch < 8) && decide (1 ≤ s.canState ch) && decide (s.canState ch ≤ 3)

/-- Integration ends at the channel's first traffic. -/
def State.canIntegrated (s : State) (ch : Nat) : State := if s.canState ch = 1 then s.hfSet (CAN_STAT_STATE ch) 2 else s

/-- Engine channels bound to CAN channel `ch`, enabled. -/
def State.canBound (s : State) (ch : Nat) : List Nat :=
  pdeChannels.filter (fun c => decide (s.hf (PDE_CFG_MODE c) ≠ 0) && decide (s.hf (PDE_SRC_KIND c) = 2)
    && decide (s.hf (PDE_SRC_PORT c) = ch))

/-- The mailbox of an engine channel. -/
def State.mailbox (s : State) (c : Nat) : Nat := s.hf (PDE_SRC_SRC_ID c) % 128

/-- The engine channel bound to a mailbox. -/
def State.canOf (s : State) (ch m : Nat) : Option Nat := (s.canBound ch).find? (fun c => s.mailbox c = m)

/-- Load the registers of a channel from the committed objects, and (re)integrate (R337, R338, R351). -/
def State.loadCan (s : State) (ch : Nat) : State :=
  let x := 0x4000 + 0x100 * ch
  let put := fun (s : State) (f : Fld) (v : Nat) => s.hregSet f.reg (BitVec.ofNat 64 v)
  let s := put s (CAN_CFG ch) (s.obj x 1)
  let s := put s (CAN_NBT ch) (s.obj x 2)
  let s := put s (CAN_DBT ch) (s.obj x 3)
  let s := put s (CAN_TDC ch) (s.obj x 4)
  let s := put s (CAN_BOFF ch) (s.obj x 5)
  let s := (List.range 64).foldl (fun s m =>
    let b := s.objBytes (x + 1) (m + 1)
    let s := put s (CAN_FLT0 ch m) (leAt b 0 4)
    let s := put s (CAN_FLT1 ch m) (leAt b 4 4)
    put s (CAN_FLT2 ch m) (leAt b 8 4)) s
  let s := (List.range 32).foldl (fun s m => s.hfSet (CAN_TXCFG_RETRY_LIM ch m) (s.obj (x + 2) (m + 1))) s
  let s := if ch < 4 then put s (CAN_TT_CFG ch) (s.obj (x + 3) 1) else s
  let s := s.canUpd ch (fun y => { boffs := y.boffs })
  let s := if ch < 4 then (List.range 8).foldl (fun s j => s.hregSet (CAN_TT_MSC ch j).reg 0) s else s
  let mode := s.hf (CAN_CFG_OPMODE ch)
  let s := s.hregSet (CAN_STAT ch).reg 0
  let s := s.hfSet (CAN_STAT_STATE ch) (if mode = 0 then 0 else 1)
  let s := if ch < 4 then s.hregSet (CAN_TT_STAT ch).reg 0 else s
  s.hfSet (CAN_STAT_RESTR ch) (b2n (mode == 2 || (mode != 0 && decide (s.hf (CAN_CFG_LSTART ch) = 1))))

/-- A commit takes a changed channel off the bus: its pending items are discarded as by ABORT, and it integrates again (R338). A
BLOCKED channel that stays in use stays BLOCKED, since only a release or START ends that (R350; log entry 71). -/
def State.recommitCan (s : State) (ch : Nat) : State :=
  let s := (s.canBound ch).foldl (fun s c =>
    if s.hf (PDE_CFG_MODE c) = 4 then
      (s.chanUpd c (fun x => { x with onWire := false })).pdeAbort c
    else s.chanUpd c (fun x => { x with out := none, onWire := false, newer := none, retries := 0, cancel := false })) s
  let blocked := decide (s.canState ch = 6)
  let s := s.loadCan ch
  if blocked && s.canState ch == 1 then s.hfSet (CAN_STAT_STATE ch) 6 else s

/-! ### Time-triggered operation (R352 to R357) -/

/-- The channel runs time-triggered. -/
def State.canTt (s : State) (ch : Nat) : Bool := decide (ch < 4) && decide (s.hf (CAN_CFG_OPMODE ch) = 3)

/-- An entry of the trigger list. -/
structure Trig where
  type : Nat
  rep : Nat
  ofs : Nat
  mark : Nat
  mbx : Nat
  deriving DecidableEq, Repr

/-- Entry `i` of a channel's trigger list. -/
def State.trigAt (s : State) (ch i : Nat) : Trig :=
  let b := slice (s.objBytes (0x4003 + 0x100 * ch) 2) (8 * i) 8
  let w := leAt b 0 4
  ⟨bitsOf w 31 29, bitsOf w 28 26, bitsOf w 25 20, bitsOf w 15 0, leAt b 4 4 % 128⟩

/-- The field of CAN_TT_MSC that holds the message status count of receive mailbox `m`. -/
def mscField (ch m : Nat) : Fld := ⟨(CAN_TT_MSC ch (m / 8)).reg, 4 * (m % 8) + 2, 4 * (m % 8)⟩

/-- Some message status count is at 7. -/
def State.mscFull (s : State) (ch : Nat) : Bool := (List.range 64).any (fun m => decide (s.hf (mscField ch m) = 7))

/-- The error level of the conditions present (R357). -/
def State.ttLevel (s : State) (ch : Nat) : Nat :=
  if s.canState ch = 3 || s.mscFull ch then 2 else if (s.canCh ch).s1 || (s.canCh ch).s1Last then 1 else 0

/-- Show the error level; its rise to S2 is event 0x4520. -/
def State.ttShow (s : State) (ch cause : Nat) : State :=
  if !s.canTt ch || s.hf (CAN_TT_STAT_LEVEL ch) = 3 then s
  else
    let old := s.hf (CAN_TT_STAT_LEVEL ch)
    let new := s.ttLevel ch
    let s := s.hfSet (CAN_TT_STAT_LEVEL ch) new
    let s := if old < 1 ∧ new = 1 then s.hcount (CAN_TT_CNT_S1 ch) 1 else s
    if old < 2 ∧ new = 2 then
      ((s.hcount (CAN_TT_CNT_S2 ch) 1).hfSet (CAN_INT_STAT_TTLVL ch) 1).hubEvt 0x4520 [(1, ch), (1, cause)]
    else s

/-- A scheduling error S1 of trigger `i` (R354, R357). -/
def State.ttS1 (s : State) (ch i : Nat) : State :=
  ((s.canUpd ch (fun x => { x with s1 := true })).hubEvt 0x4525 [(1, ch), (1, i)]).ttShow ch 1

/-! ### Bus-off (R349, R350) -/

/-- The item of an engine channel leaves the wire without completing: a newer one takes its place, else it stays (R343). -/
def State.offWire (s : State) (c : Nat) : State :=
  let x := s.chan c
  match x.newer with
  | some it =>
    (s.pdeSupersede c).chanUpd c (fun x => { x with out := some it, newer := none, onWire := false, retries := 0, cancel := false })
  | none => s.chanUpd c (fun x => { x with onWire := false })

/-- A cancelled item is removed: status 0x8 on a queued channel, counted as dropped on a cyclic one (R347). -/
def State.removeCancelled (s : State) (ch c : Nat) : State :=
  let m := s.mailbox c
  let s := s.hfSet ⟨(CAN_TXCANCEL ch).reg, m - 64, m - 64⟩ 0
  let s := s.hfSet (CAN_INT_STAT_CANCEL ch) 1
  if s.hf (PDE_CFG_MODE c) = 4 then s.outputDone c 8
  else
    let s := s.pdeDrop c
    s.chanUpd c (fun x => { x with out := x.newer, newer := none, onWire := false, retries := 0, cancel := false })

/-- The engine channel whose item is on the wire. -/
def State.wireChan (s : State) (ch : Nat) : Option Nat := (s.canBound ch).find? (fun c => (s.chan c).onWire)

/-- The item on the wire ends without completing: lost arbitration, an error or bus-off. -/
def State.wireFails (s : State) (ch : Nat) : State :=
  match s.wireChan ch with
  | none => s
  | some c => if (s.chan c).cancel || (s.chan c).abort then s.removeCancelled ch c else s.offWire c

/-- Bus-offs within the last 3 600 s. -/
def State.recentBoffs (s : State) (ch : Nat) : List Nat :=
  (s.canCh ch).boffs.filter (fun f => decide (frameDiff s.hub.frame f < (s.framesOf 3600 : Int)))

/-- A channel enters bus-off, or an S3 stop that counts as one (R350). -/
def State.canBusOff (s : State) (ch : Nat) : State :=
  let s := s.wireFails ch
  let bs := s.hub.frame :: s.recentBoffs ch
  let k := bs.length
  let s := s.canUpd ch (fun x => { x with boffs := bs, refWire := false, window := [], slot := none })
  let s := s.cntAdd (0x4010 + 0x100 * ch) 1 1
  let s := (s.hfSet (CAN_BOFF_STAT_K ch) (min 255 k)).hfSet (CAN_INT_STAT_BOFF ch) 1
  let lim := s.hf (CAN_BOFF_BOFF_LIM ch)
  if lim ≠ 0 ∧ lim < k then
    ((s.hfSet (CAN_STAT_STATE ch) 6).hfSet (CAN_INT_STAT_BLOCKED ch) 1).hubEvt 0x4506 [(1, ch), (1, k)]
  else
    let h := min (s.hf (CAN_BOFF_HOLD_MIN ch) * 2 ^ (k - 1)) (s.hf (CAN_BOFF_HOLD_MAX ch) * 100)
    let s := s.canUpd ch (fun x => { x with holdFrame := s.hub.frame, holdMs := h })
    ((s.hfSet (CAN_STAT_STATE ch) 4).hfSet (CAN_BOFF_STAT_HOLD_NOW ch) h).hubEvt 0x4503 [(1, ch), (1, k), (4, h)]

/-- Time-triggered operation stops (S3): the channel goes off the bus (R357). -/
def State.ttStop (s : State) (ch cause : Nat) : State :=
  let s := (s.hfSet (CAN_TT_STAT_LEVEL ch) 3).hcount (CAN_TT_CNT_S3 ch) 1
  let s := (s.hfSet (CAN_INT_STAT_TTLVL ch) 1).hubEvt 0x4523 [(1, ch), (1, cause)]
  let s := s.hfSet (CAN_TT_STAT_ROLE ch) 0
  (s.canUpd ch (fun x => { x with stopped := true })).canBusOff ch

/-- CAN_BUS_OFF: the transmit error counter has reached 256; the channel computes k and enters hold-off or BLOCKED. -/
def execCanBusOff (ch : Nat) (s : State) : Host.Outcome State Fault Refusal :=
  if s.canOn ch && decide (256 ≤ s.hf (CAN_STAT_TEC ch)) then
    .next (if s.canTt ch then s.ttStop ch 2 else s.canBusOff ch)
  else .next s

/-- Standard recovery begins (R350). -/
def State.canRecover (s : State) (ch : Nat) : State :=
  ((s.hfSet (CAN_STAT_STATE ch) 5).hfSet (CAN_BOFF_STAT_HOLD_NOW ch) 0).hubEvt 0x4504 [(1, ch)]

/-- At an edge of the hub CAN_BOFF_STAT.HOLD_NOW shows the milliseconds that remain of a hold-off (R350, R358). -/
def State.canHoldNow (s : State) : State :=
  (List.range 8).foldl (fun s ch =>
    if s.canState ch = 4 then
      let x := s.canCh ch
      s.hfSet (CAN_BOFF_STAT_HOLD_NOW ch) (x.holdMs - (frameDiff s.hub.frame x.holdFrame).toNat * s.period / 1000000)
    else s) s

/-- Queued channels of a CAN channel that is on the bus again go on at the descriptor they wait at (R349). -/
def State.canResume (s : State) (ch : Nat) : State :=
  (s.canBound ch).foldl (fun s c =>
    if s.hf (PDE_CFG_MODE c) = 4 && s.pdeState c = 2 && (s.chan c).out.isNone && !(s.chan c).doneCur then
      State.chain c chainFuel .process s
    else s) s

/-- CAN_HOLDOFF_END: the hold-off ends and standard recovery begins. -/
def execCanHoldoffEnd (ch : Nat) (s : State) : Host.Outcome State Fault Refusal :=
  if s.hub.supplied && decide (ch < 8) && decide (s.canState ch = 4) then .next (s.canRecover ch) else .next s

/-- CAN_RECOVERY_COMPLETE: the channel is error active with TEC = REC = 0; after an S3 stop it integrates again (R350, R351,
R357). -/
def execCanRecoveryComplete (ch ms : Nat) (s : State) : Host.Outcome State Fault Refusal :=
  if s.hub.supplied && decide (ch < 8) && decide (s.canState ch = 5) then
    let s := ((s.hfSet (CAN_STAT_TEC ch) 0).hfSet (CAN_STAT_REC ch) 0).hfSet (CAN_STAT_STATE ch) 2
    let s := (s.hfSet (CAN_INT_STAT_RECOV ch) 1).hubEvt 0x4505 [(1, ch), (4, ms)]
    let s := if s.hf (CAN_CFG_LSTART ch) = 1 then
        (s.hfSet (CAN_STAT_RESTR ch) 1).canUpd ch (fun x => { x with good := 0 })
      else s
    let s := s.canResume ch
    .next (if (s.canCh ch).stopped then
        let s := (s.hfSet (CAN_TT_STAT_LEVEL ch) 0).hfSet (CAN_TT_STAT_ROLE ch) 0
        (s.canUpd ch (fun x => { x with stopped := false, s1 := false, s1Last := false })).hubEvt 0x4526 [(1, ch)]
      else s)
  else .next s

/-- Release a BLOCKED channel; of any other channel it has no effect (R350). -/
def State.canRelease (s : State) (src ch : Nat) : State :=
  if s.canState ch = 6 then (s.hubEvt 0x4507 [(1, ch), (1, src)]).canRecover ch else s

/-- The module enters START: a BLOCKED channel begins the standard recovery, without the release's event 0x4507, and a channel that had
stopped acting as a potential time master may act as one again (R350, R356; log entry 71). -/
def State.canStart (s : State) : State :=
  (List.range 8).foldl (fun s ch =>
    let s := s.canUpd ch (fun x => { x with dup := false })
    if s.canState ch = 6 then s.canRecover ch else s) s

/-- CAN_RELEASE_BLOCKED: a host of rights level 1 releases a BLOCKED channel and recovery starts at once. -/
def execCanReleaseBlocked (src ch : Nat) (s : State) : Host.Outcome State Fault Refusal :=
  if s.hub.supplied && decide (ch < 8) && decide (1 ≤ s.sourceLevel src) then .next (s.canRelease src ch) else .next s

/-! ### Receiving (R339 to R342, R351, R355) -/

/-- CAN_RESTRICTED_END: after 8 good frames or 100 ms the channel leaves restricted operation (R351). -/
def execCanRestrictedEnd (ch ms : Nat) (s : State) : Host.Outcome State Fault Refusal :=
  if s.canOn ch && decide (s.hf (CAN_STAT_RESTR ch) = 1) && decide (s.hf (CAN_CFG_OPMODE ch) ≠ 2)
      && (decide (8 ≤ (s.canCh ch).good) || decide (100 ≤ ms)) then
    .next (s.hfSet (CAN_STAT_RESTR ch) 0)
  else .next s

/-- A good frame in restricted operation; else the receive error counter falls by 1 (ISO 11898-1). -/
def State.canGood (s : State) (ch : Nat) : State :=
  if s.hf (CAN_STAT_RESTR ch) = 1 then
    let s := s.canUpd ch (fun x => { x with good := x.good + 1 })
    if 8 ≤ (s.canCh ch).good ∧ s.hf (CAN_CFG_OPMODE ch) ≠ 2 then s.hfSet (CAN_STAT_RESTR ch) 0 else s
  else s.hfSet (CAN_STAT_REC ch) (s.hf (CAN_STAT_REC ch) - 1)

/-- The reference-message range of a channel holds a frame (R355). -/
def State.isRef (s : State) (ch : Nat) (f : CanFrame) : Bool :=
  s.canTt ch && !f.ide && decide (1 ≤ f.data.length) && decide (f.id / 8 * 8 = s.hf (CAN_TT_CFG_REF_ID ch) / 8 * 8)

/-- A channel's own reference identifier. -/
def State.ownRef (s : State) (ch : Nat) : Nat := s.hf (CAN_TT_CFG_REF_ID ch) + s.hf (CAN_TT_CFG_PRI ch)

/-- A basic cycle begins at a reference message with cycle count `cyc` from `id` (R355, R357). -/
def State.ttCycle (s : State) (ch cyc id role : Nat) : State :=
  let was := s.hf (CAN_TT_REF_ID ch)
  let old := s.hf (CAN_TT_STAT_ROLE ch)
  let s := (s.hfSet (CAN_TT_STAT_CYCLE ch) cyc).hfSet (CAN_TT_STAT_LOCAL ch) 0
  let s := (s.hfSet (CAN_TT_STAT_ROLE ch) role).hfSet (CAN_TT_REF_ID ch) id
  let s := if old ≠ 0 ∧ was ≠ id then (s.hcount (CAN_TT_CNT_MASTER_CHG ch) 1).hfSet (CAN_INT_STAT_MASTER ch) 1 else s
  let s := s.canUpd ch (fun x => { x with s1Last := x.s1, s1 := false, window := [], slot := none, refWire := false })
  s.ttShow ch 0

/-- The channel acts as a potential time master (R355, R356); a standby's channels do not (19 R502). -/
def State.canPtm (s : State) (ch : Nat) : Bool :=
  decide (s.hf (CAN_TT_CFG_PTM ch) = 1) && !(s.canCh ch).dup && !s.pairStandby

/-- A reference message arrives; one of its own that has not started is withdrawn (R355, R356). -/
def State.refArrives (s : State) (ch : Nat) (f : CanFrame) : State :=
  if decide (f.id = s.ownRef ch) && s.canPtm ch && !(s.canCh ch).refWire then
    ((s.canUpd ch (fun x => { x with dup := true })).hubEvt 0x4524 [(1, ch), (2, f.id)]).ttStop ch 3
  else
    let s := if s.hf (CAN_TT_STAT_ROLE ch) = 3 then s.hubEvt 0x4522 [(1, ch), (2, f.id)] else s
    s.ttCycle ch (byteAt f.data 0 % 64) f.id (if s.canPtm ch then 2 else 1)

/-- The filter of mailbox `m` takes a frame (R339). -/
def State.filterTakes (s : State) (ch m : Nat) (f : CanFrame) : Bool :=
  let fmt := s.hf (CAN_FLT1_FMT ch m)
  decide (s.hf (CAN_FLT0_EN ch m) = 1) && decide (s.hf (CAN_FLT0_IDE ch m) = b2n f.ide)
    && (fmt == 0 || (fmt == 1 && !f.fdf) || (fmt == 2 && f.fdf))
    && decide (nAnd (nXor f.id (s.hf (CAN_FLT0_ID ch m))) (s.hf (CAN_FLT1_MASK ch m)) = 0)

/-- The receive record (R340). -/
def canRecord (f : CanFrame) (m : Nat) (ttw ref : Bool) (cyc : Nat) : List Byte :=
  leBytes 4 (b2n f.ide * 2 ^ 29 + f.id % 2 ^ 29)
    ++ leBytes 1 (b2n f.esi * 64 + b2n f.brs * 32 + b2n f.fdf * 16 + f.dlc % 16) ++ leBytes 1 f.data.length
    ++ leBytes 1 m ++ leBytes 1 (b2n ttw * 128 + b2n ref * 64 + (if ttw then cyc % 64 else 0)) ++ leBytes 8 f.stamp ++ f.data

/-- A frame of the dictionary service, which owns mailbox 63 of its channel (16 R438). -/
def State.isService (s : State) (ch : Nat) (f : CanFrame) : Bool :=
  let r := s.obj 0x0101 2
  decide (s.obj 0x0101 1 = ch) && decide (bitOf r 31 = f.ide) && decide (r % 2 ^ 29 = f.id)

/-- CAN_FRAME_RECEIVE: a valid frame is matched to a mailbox and becomes a receive record (R339 to R342, R355). An FD frame on a channel
without FDE is a protocol exception: it is counted, and no frame is received (R336; DEDUCED, log entry 72). -/
def execCanFrameReceive (ch : Nat) (f : CanFrame) (s : State) : Host.Outcome State Fault Refusal :=
  if !s.canOn ch then .next s
  else if f.fdf && decide (s.hf (CAN_CFG_FDE ch) = 0) then .next (s.hcount (CAN_CNT_ERR2_PEX ch) 1)
  else
    let s := (s.canIntegrated ch).canGood ch
    if f.remote then .next (s.hcount (CAN_CNT_DROP_UNMATCHED ch) 1)
    else
      let ref := s.isRef ch f
      let s := if ref then s.refArrives ch f else s
      match (List.range 64).find? (fun m => s.filterTakes ch m f) with
      | none => .next (if s.isService ch f then s else s.hcount (CAN_CNT_DROP_UNMATCHED ch) 1)
      | some m =>
        let exp := s.hf (CAN_FLT2_EXP_LEN ch m)
        match s.canOf ch m with
        | none => .next (s.hcount (CAN_CNT_DROP_UNMATCHED ch) 1)
        | some c =>
          if exp ≠ 127 ∧ exp ≠ f.data.length then
            let s := (s.hcount (CAN_FLT3_LENERR ch m) 1).cntAdd (chanObj c 2) 1 1
            .next (s.violation (29 + ch) 0x4510 [(1, ch), (1, m), (4, f.id), (1, f.data.length)])
          else
            let ttw := s.canTt ch && decide (s.hf (CAN_TT_STAT_ROLE ch) ≠ 0)
            let rec_ := canRecord f m ttw ref (s.hf (CAN_TT_STAT_CYCLE ch))
            let s := (s.hcount (CAN_CNT_RX ch) 1).cntAdd (0x4010 + 0x100 * ch) 3 1
            let s := s.canUpd ch (fun x => { x with seen := if x.seen.contains m then x.seen else m :: x.seen })
            .next (s.itemFor c rec_)

/-! ### Transmitting (R343 to R346) -/

/-- A number that orders arbitration fields: a base identifier goes before an extended one with the same first 11 bits. -/
def arbKey (b : List Byte) : Nat :=
  let w := leAt b 0 4
  let id := w % 2 ^ 29
  if bitOf w 29 then id / 2 ^ 18 * 2 ^ 19 + 2 ^ 18 + id % 2 ^ 18 else id % 2 ^ 11 * 2 ^ 19

/-- The pending items of a channel that may be offered: (key, mailbox, engine channel). -/
def State.offers (s : State) (ch : Nat) : List (Nat × Nat × Nat) :=
  (s.canBound ch).filterMap (fun c =>
    let m := s.mailbox c
    match (s.chan c).out with
    | some it =>
      if s.pdeState c ≠ 0 && (!s.canTt ch || (s.canCh ch).window.contains m) then some (arbKey it.payload, m, c) else none
    | none => none)

/-- The offer that would win arbitration; between equal fields the lower mailbox (R345). -/
def bestOffer : List (Nat × Nat × Nat) → Option (Nat × Nat × Nat)
  | [] => none
  | o :: os => match bestOffer os with
    | none => some o
    | some p => if o.1 < p.1 ∨ (o.1 = p.1 ∧ o.2.1 ≤ p.2.1) then some o else some p

/-- The wire is free for this channel's controller to start. -/
def State.canMaySend (s : State) (ch : Nat) : Bool :=
  s.canOn ch && decide (s.hf (CAN_STAT_RESTR ch) = 0) && (s.wireChan ch).isNone && !(s.canCh ch).refWire
    && (decide (s.hf (CAN_CFG_OPMODE ch) = 1) || decide (s.hf (CAN_CFG_OPMODE ch) = 3))

/-- CAN_TRANSMIT_START: the controller offers the winning pending item. -/
def execCanTransmitStart (ch : Nat) (s : State) : Host.Outcome State Fault Refusal :=
  if !s.canMaySend ch then .next s
  else
    let s := s.canIntegrated ch
    match bestOffer (s.offers ch) with
    | none => .next s
    | some o => .next (s.chanUpd o.2.2 (fun x => { x with onWire := true }))

/-- CAN_ARBITRATION_LOST: the item stays pending; a reference message withdraws (R343, R346, R355). -/
def execCanArbitrationLost (ch : Nat) (s : State) : Host.Outcome State Fault Refusal :=
  if !s.canOn ch then .next s
  else if (s.canCh ch).refWire then .next (s.canUpd ch (fun x => { x with refWire := false }))
  else .next (s.wireFails ch)

/-- A successful transmission lowers TEC by 1; below 128 the channel is error active again (ISO 11898-1). -/
def State.canTxGood (s : State) (ch : Nat) : State :=
  let s := s.hfSet (CAN_STAT_TEC ch) (s.hf (CAN_STAT_TEC ch) - 1)
  if s.canState ch = 3 ∧ s.hf (CAN_STAT_TEC ch) < 128 ∧ s.hf (CAN_STAT_REC ch) < 128 then
    (s.hfSet (CAN_STAT_STATE ch) 2).hubEvt 0x4502 [(1, ch)]
  else s

/-- CAN_TRANSMIT_COMPLETE: a transmission completes at the end of its end-of-frame field (R346, R347, R355). -/
def execCanTransmitComplete (ch : Nat) (s : State) : Host.Outcome State Fault Refusal :=
  if !s.canOn ch then .next s
  else if (s.canCh ch).refWire then
    let s := (s.canTxGood ch).canUpd ch (fun x => { x with refWire := false })
    let cyc := s.hf (CAN_TT_STAT_CYCLE ch)
    let first := decide (s.hf (CAN_TT_STAT_ROLE ch) = 0)
    let new := if first then 0 else (cyc + 1) % 2 ^ s.hf (CAN_TT_CFG_CCM ch)
    let s := s.emit .can ch (s.ownRef ch) [BitVec.ofNat 8 new]
    let s := if s.hf (CAN_TT_STAT_ROLE ch) = 3 then s else s.hubEvt 0x4521 [(1, ch), (1, s.hf (CAN_TT_CFG_PRI ch))]
    .next (s.ttCycle ch new (s.ownRef ch) 3)
  else match s.wireChan ch with
    | none => .next s
    | some c =>
      match (s.chan c).out with
      | none => .next s
      | some it =>
        let m := s.mailbox c
        let s := (s.canTxGood ch).hcount (CAN_CNT_TX ch) 1
        let s := (s.cntAdd (0x4010 + 0x100 * ch) 2 1).emit .can ch m it.payload
        let s := if (s.chan c).cancel || (s.chan c).abort then
            let s := s.hfSet ⟨(CAN_TXCANCEL ch).reg, m - 64, m - 64⟩ 0
            let s := (s.hfSet (CAN_INT_STAT_CANCEL ch) 1).hcount (CAN_CNT_ERR2_CANLATE ch) 1
            (s.cntAdd (chanObj c 2) 2 1).hubEvt 0x4512 [(1, ch), (1, m)]
          else s
        .next (s.outputSent c)

/-- Count a detected error. -/
def State.canErrCount (s : State) (ch : Nat) (e : CanErr) : State :=
  let s := s.cntAdd (0x4010 + 0x100 * ch) 4 1
  match e with
  | .bit => s.hcount (CAN_CNT_ERR_BIT ch) 1
  | .stuff => s.hcount (CAN_CNT_ERR_STUFF ch) 1
  | .form => s.hcount (CAN_CNT_ERR_FORM ch) 1
  | .crc => s.hcount (CAN_CNT_ERR_CRC ch) 1
  | .ack => s.hcount (CAN_CNT_ERR2_ACK ch) 1

/-- The transmit error counter rises by 8 (ISO 11898-1): error passive from 128, bus-off at 256. -/
def State.canTxBad (s : State) (ch : Nat) : State :=
  let tec := min 256 (s.hf (CAN_STAT_TEC ch) + 8)
  let s := s.hfSet (CAN_STAT_TEC ch) tec
  let s := if s.canState ch = 2 ∧ 128 ≤ tec then
      let s := (s.hfSet (CAN_STAT_STATE ch) 3).hfSet (CAN_INT_STAT_PASSIVE ch) 1
      (s.hubEvt 0x4501 [(1, ch), (2, tec), (1, s.hf (CAN_STAT_REC ch))]).ttShow ch 2
    else s
  if 256 ≤ tec then (if s.canTt ch then s.ttStop ch 2 else s.canBusOff ch) else s

/-- An error counts against the item on the wire; above RETRY_LIM it is dropped (R346). -/
def State.retryItem (s : State) (ch c : Nat) : State :=
  if (s.chan c).cancel || (s.chan c).abort then s.removeCancelled ch c
  else if (s.chan c).newer.isSome then s.offWire c
  else
    let m := s.mailbox c
    let n := (s.chan c).retries + 1
    let lim := s.hf (CAN_TXCFG_RETRY_LIM ch (m - 64))
    let s := s.chanUpd c (fun x => { x with onWire := false, retries := n })
    if lim ≠ 15 ∧ lim < n then
      let s := (s.hubEvt 0x4511 [(1, ch), (1, m)]).cntAdd (chanObj c 2) 1 1
      if s.hf (PDE_CFG_MODE c) = 4 then s.outputDone c 7
      else (s.hcount (CAN_CNT_ERR2_RETRYDROP ch) 1).chanUpd c (fun x => { x with out := none, retries := 0 })
    else s

/-- CAN_TRANSMIT_ERROR: an error on the wire raises the item's retry count and may drop it. -/
def execCanTransmitError (ch : Nat) (e : CanErr) (s : State) : Host.Outcome State Fault Refusal :=
  if !s.canOn ch then .next s
  else if (s.canCh ch).refWire then
    .next (((s.canErrCount ch e).canUpd ch (fun x => { x with refWire := false })).canTxBad ch)
  else match s.wireChan ch with
    | none => .next s
    | some c => .next (((s.canErrCount ch e).retryItem ch c).canTxBad ch)

/-! ### Cancellation (R347, R348) -/

/-- A cancel of mailbox `m` by lane `l`: only of a channel placed on that lane alone. -/
def State.cancelMailbox (s : State) (l : LaneId) (ch m : Nat) : State :=
  match s.canOf ch m with
  | none => s
  | some c =>
    if s.hf (PDE_CFG_PLACE c) ≠ l.idx + 1 || (s.chan c).out.isNone then s
    else if (s.chan c).onWire then
      (s.chanUpd c (fun x => { x with cancel := true })).hfSet ⟨(CAN_TXCANCEL ch).reg, m - 64, m - 64⟩ 1
    else s.removeCancelled ch c

/-- The write of CAN_TXCANCEL. -/
def State.txCancel (s : State) (l : LaneId) (ch v : Nat) : State :=
  (List.range 32).foldl (fun s i => if bitOf v i then s.cancelMailbox l ch (64 + i) else s) s

/-- CAN_TXCANCEL_WRITE: a lane cancels waiting transmit items of its own channels. -/
def execCanTxcancelWrite (l : LaneId) (ch v : Nat) (s : State) : Host.Outcome State Fault Refusal :=
  if s.hub.supplied && decide (ch < 8) then .next (s.txCancel l ch v) else .next s

/-! ### Triggers (R354, R356) -/

/-- A reference message goes on the wire; in restricted operation the channel sends none (R351). -/
def State.sendRef (s : State) (ch : Nat) : State :=
  s.canUpd ch (fun x => { x with refWire := decide (s.hf (CAN_STAT_RESTR ch) = 0), window := [] })

/-- A trigger of the list fires at its mark; `free` says that the bus let an exclusive item start within TXEW (R354). -/
def State.fireTrigger (s : State) (ch i : Nat) (free : Bool) : State :=
  let t := s.trigAt ch i
  let role := s.hf (CAN_TT_STAT_ROLE ch)
  let ptm := s.canPtm ch
  let due := decide (role ≠ 0) && decide (s.hf (CAN_TT_STAT_CYCLE ch) % 2 ^ t.rep = t.ofs)
  let s := s.hfSet (CAN_TT_STAT_LOCAL ch) t.mark
  let close := fun (s : State) => s.canUpd ch (fun x => { x with window := [] })
  match t.type with
  | 0 =>
    let s := close s
    if !due then s
    else match s.canOf ch t.mbx with
      | none => s.ttS1 ch i
      | some c =>
        if (s.chan c).out.isSome && s.pdeState c ≠ 0 && free && s.canMaySend ch then
          s.chanUpd c (fun x => { x with onWire := true })
        else s.ttS1 ch i
  | 1 =>
    if due then s.canUpd ch (fun x => { x with window := if x.window.contains t.mbx then x.window else t.mbx :: x.window })
    else s
  | 2 =>
    let s := close s
    if !due then s
    else
      let f := mscField ch t.mbx
      let got := (s.canCh ch).seen.contains t.mbx
      let s := s.canUpd ch (fun x => { x with seen := x.seen.filter (· ≠ t.mbx) })
      if got then (s.hfSet f (s.hf f - 1)).ttShow ch 0
      else (s.hfSet f (min 7 (s.hf f + 1))).ttS1 ch i
  | 3 => if due && ptm then (close s).sendRef ch else close s
  | 4 => if role = 0 && ptm then s.sendRef ch else s.ttStop ch 1
  | _ => s

/-- CAN_TRIGGER_FIRE: trigger `i` fires at its mark and acts by its type. -/
def execCanTriggerFire (ch i : Nat) (free : Bool) (s : State) : Host.Outcome State Fault Refusal :=
  if s.canOn ch && s.canTt ch && decide (i < s.hf (CAN_TT_CFG_TRIG_CNT ch)) then
    .next ((s.canIntegrated ch).fireTrigger ch i free)
  else .next s

end Sys2Proof.Machine
end

