-- ==== Sys2Proof/Machine/Partners.lean ====
section
/-! DEFINITION. The partner table (16 R450 to R452): slots of clients and peers, tokens, and throttling. -/

namespace Sys2Proof.Machine

/-- Partner slots of dictionary clients and TRDP message-data peers. -/
def clientSlots : List Nat := (List.range 32).map (· + 37)

/-- The slot that a client's address has: its own, or slot 68 if it shares that one (R450). -/
def State.slotOfAddr (s : State) (addr : List Byte) : Option Nat :=
  clientSlots.find? (fun p => ((s.partner p).addr = addr || (s.partner p).more.contains addr) && decide (addr ≠ []))

/-- The slot of a client's address at a violation: the one it has, else the lowest free one, else the shared slot 68 (R450). -/
def State.clientSlot (s : State) (addr : List Byte) : Nat :=
  match s.slotOfAddr addr with
  | some p => p
  | none => ((clientSlots.take 31).find? (fun p => (mapFind s.partners p).isNone)).getD 68

/-- The address's partner is throttled. -/
def State.throttled (s : State) (addr : List Byte) : Bool :=
  match s.slotOfAddr addr with
  | some p => (s.partner p).until_.isSome
  | none => false

/-- Drop what a throttled partner sends, unparsed and unanswered (R452). -/
def State.dropThrottled (s : State) (addr : List Byte) : State :=
  let p := s.clientSlot addr
  (s.partnerSet p { s.partner p with dropped := (s.partner p).dropped + 1 }).cntAdd 0x7000 4 1

/-- Violations of a partner within THR_WIN s. -/
def State.recentViol (s : State) (p : Nat) : Nat :=
  ((s.partner p).violAt.filter (fun f => decide (frameDiff s.hub.frame f ≤ (s.framesOf (s.obj 0x7001 4) : Int)))).length

/-- A client whose violations reach THR_LIM within THR_WIN s is throttled (R452). -/
def State.throttle (s : State) (p : Nat) : State :=
  let x := s.partner p
  if p < 37 ∨ 68 < p ∨ x.until_.isSome ∨ s.recentViol p < s.obj 0x7001 3 then s
  else
    let past := s.hub.frame :: x.throttleAt.filter (fun f => decide (frameDiff s.hub.frame f < (s.framesOf 3600 : Int)))
    let hold := min 3600 (s.obj 0x7001 5 * 2 ^ (past.length - 1))
    let s := s.partnerSet p { x with
      throttles := x.throttles + 1, throttleAt := past, until_ := some (frameAdd s.hub.frame (s.framesOf hold)),
      violAt := [], dropped := 0 }
    s.hubEvtP 0x3004 p 0 [(4, hold)]

/-- PARTNER_THROTTLE: the violations of client slot `p` have reached the limit. -/
def execPartnerThrottle (p : Nat) (s : State) : Host.Outcome State Fault Refusal :=
  if s.hub.supplied then .next (s.throttle p) else .next s

/-- A violation by a client or peer at an address (R450, R452). -/
def State.clientViolation (s : State) (addr : List Byte) (code : Nat) (parts : List (Nat × Nat)) : State :=
  let p := s.clientSlot addr
  let x := s.partner p
  let s := if x.addr = [] then s.partnerSet p { x with addr := addr }
    else if x.addr = addr || x.more.contains addr then s
    else s.partnerSet p { x with more := addr :: x.more }
  (s.violation p code parts).throttle p

/-- THROTTLE_END: the hold time of slot `p` has passed (R452). -/
def execThrottleEnd (p : Nat) (s : State) : Host.Outcome State Fault Refusal :=
  match (s.partner p).until_ with
  | none => .next s
  | some f =>
    if s.hub.supplied && frameGe s.hub.frame f then
      let x := s.partner p
      .next ((s.partnerSet p { x with until_ := none, dropped := 0 }).hubEvtP 0x3005 p 0 [(4, x.dropped)])
    else .next s

/-- TOKEN_REFILL: a partner gains one token every REFILL s, up to BURST (R451). -/
def execTokenRefill (p : Nat) (s : State) : Host.Outcome State Fault Refusal :=
  let x := s.partner p
  let step := s.framesOf (s.obj 0x7001 2)
  if s.hub.supplied && decide (0 < x.used) && decide ((step : Int) ≤ frameDiff s.hub.frame x.since) then
    .next (s.partnerSet p { x with used := x.used - 1, since := frameAdd x.since step })
  else .next s

/-- PARTNER_SLOT_FREE: a client slot without a violation for 3 600 s and not throttled is freed (R450). -/
def execPartnerSlotFree (p : Nat) (s : State) : Host.Outcome State Fault Refusal :=
  let x := s.partner p
  if s.hub.supplied && decide (37 ≤ p) && decide (p ≤ 68) && x.until_.isNone && decide (0 < x.viol)
      && decide ((s.framesOf 3600 : Int) ≤ frameDiff s.hub.frame x.lastFrame) then
    .next { s with partners := mapErase s.partners p }
  else .next s

end Sys2Proof.Machine
end

