-- ==== Sys2Proof/Machine/Net.lean ====
section
/-! DEFINITION. The consist network (11): ports and quarantine, the trellis, streams and TRDP, and the harvest ring. -/

namespace Sys2Proof.Machine

/-! ### Ports -/

/-- Port `p` beyond its registers. -/
def State.port (s : State) (p : Nat) : PortSt := mapGet {} s.net.ports p

/-- Change what a port holds beyond its registers. -/
def State.portUpd (s : State) (p : Nat) (f : PortSt → PortSt) : State :=
  { s with net := { s.net with ports := mapSet {} s.net.ports p (f (s.port p)) } }

/-- The state of a port: 0 LISTEN, 1 ACTIVE, 2 QUARANTINED, 3 HELD. -/
def State.portState (s : State) (p : Nat) : Nat := s.hf (SW_PSTAT_STATE p)

/-- Set a port's state, with TRL_PORTS. -/
def State.portStateSet (s : State) (p n : Nat) : State :=
  let s := s.hfSet (SW_PSTAT_STATE p) n
  let s := s.hfSet ⟨TRL_PORTS.reg, 16 + p, 16 + p⟩ (b2n (2 ≤ n))
  s.hfSet ⟨TRL_PORTS.reg, p, p⟩ (b2n (n == 1))

/-- Ports whose ingress the trellis checks. -/
def windowed (p : Nat) : Bool := decide (1 ≤ p) && decide (p ≤ 10)

/-- The harvest ring is enabled. -/
def State.ringOn (s : State) : Bool := decide (s.hf HRV_CFG_N ≠ 0)

/-- A port of the enabled harvest ring: it carries nothing but harvest frames (R325). -/
def State.ringPort (s : State) (p : Nat) : Bool := s.ringOn && (p == 7 || p == 8)

/-- Uplinks and harvest-ring ports are never quarantined (R317). -/
def State.neverQuar (s : State) (p : Nat) : Bool := p == 9 || p == 10 || s.ringPort p

/-- A port enters LISTEN. -/
def State.listen (s : State) (p : Nat) (after : Bool) : State :=
  (s.portStateSet p 0).portUpd p (fun x => { x with after := after, whole := false, viol := false, ok := false })

/-- Time-base synchronised (R321). -/
def State.tbSynced (s : State) : Bool := decide (1 ≤ s.hf TB_STATUS_STATE) && decide (s.hf TB_STATUS_STATE ≤ 2)

/-! ### The trellis (R308 to R311) -/

/-- A window of the trellis (R309); times in 10 ns units. -/
structure Win where
  type : Nat
  start : Nat
  len : Nat
  dmask : Nat
  smask : Nat
  maxb : Nat
  stream : Nat
  deriving DecidableEq, Repr

/-- Parse an entry. -/
def parseWin (b : List Byte) : Win :=
  let w0 := leAt b 0 4
  let w2 := leAt b 8 4
  let w3 := leAt b 12 4
  ⟨bitsOf w0 31 30, w0 % 2 ^ 24, leAt b 4 4 % 2 ^ 24, bitsOf w2 31 16, bitsOf w2 15 0, bitsOf w3 31 16, bitsOf w3 8 0⟩

/-- The bytes of an entry. -/
def winBytes (w : Win) : List Byte :=
  leBytes 4 (w.type * 2 ^ 30 + w.start) ++ leBytes 4 w.len ++ leBytes 4 (w.dmask * 65536 + w.smask)
    ++ leBytes 4 (w.maxb * 65536 + w.stream)

/-- Window `w` of basic cycle `b` in a trellis. -/
def winAt (t : List Byte) (b w : Nat) : Win := parseWin (slice t (0x200 * b + 0x10 * w) 16)

/-- The bank in force. -/
def State.trellis (s : State) : List Byte := if s.hf TRL_STATUS_BANK = 0 then s.net.bank0 else s.net.bank1

/-- The inactive bank. -/
def State.otherBank (s : State) : List Byte := if s.hf TRL_STATUS_BANK = 0 then s.net.bank1 else s.net.bank0

/-- Replace the inactive bank. -/
def State.otherBankSet (s : State) (t : List Byte) : State :=
  if s.hf TRL_STATUS_BANK = 0 then { s with net := { s.net with bank1 := t } } else { s with net := { s.net with bank0 := t } }

/-- The windows of basic cycle `b` in force. -/
def State.windows (s : State) (b : Nat) : List (Nat × Win) :=
  ((List.range 32).map (fun w => (w, winAt s.trellis b w))).filter (fun p => decide (p.2.len ≠ 0))

/-- B in force. -/
def State.basics (s : State) : Nat := max 1 (s.hf TRL_CFG_B)

/-! ### Streams (R307) -/

/-- The VID of a frame: 0 when it is untagged. -/
def frameVid (b : List Byte) : Nat := if beAt b 12 2 = 0x8100 then beAt b 14 2 % 4096 else 0

/-- The EtherType of a frame behind its VLAN tag. -/
def frameType (b : List Byte) : Nat := if beAt b 12 2 = 0x8100 then beAt b 16 2 else beAt b 12 2

/-- Bytes before the EtherType's payload. -/
def frameHead (b : List Byte) : Nat := if beAt b 12 2 = 0x8100 then 18 else 14

/-- The stream of a frame: ingress port, destination and VID. -/
def State.streamOf (s : State) (p : Nat) (b : List Byte) : Option Nat :=
  (List.range 512).find? (fun h => decide (s.obj (0x3200 + h) 4 = p) && decide (s.objBytes (0x3200 + h) 1 = b.take 6)
    && decide (s.obj (0x3200 + h) 2 = frameVid b))

/-- The broadcast address. -/
def broadcast : List Byte := List.replicate 6 0xFF

/-- A MAC address of the module's ports. -/
def State.ownAddress (s : State) (a : List Byte) : Bool := (List.range 12).any (fun i => decide (s.objBytes 0x0007 (i + 1) = a))

/-- The frame is a harvest frame on a ring port. -/
def State.isHarvest (s : State) (p : Nat) (b : List Byte) : Bool :=
  s.ringPort p && decide (beAt b 12 2 = 0x88B5)

/-! ### Violations and quarantine (R313, R316 to R320) -/

/-- Results of R313 that drop a frame. -/
inductive Viol | fcs | outside | late | budget
  deriving DecidableEq, Repr

/-- The number of a violation, in the order of R313. -/
def Viol.num : Viol → Nat
  | .fcs => 0 | .outside => 1 | .late => 2 | .budget => 3

/-- The counter of a violation. -/
def violField (p : Nat) : Viol → Fld
  | .fcs => TRL_PVIOL_FCS p | .outside => TRL_PVIOL_OUTSIDE p | .late => TRL_PVIOL_LATE p | .budget => TRL_PVIOL_BUDGET p

/-- A port is quarantined at its LIM-th violation (R316). -/
def State.quarantine (s : State) (p : Nat) (k : Viol) : State :=
  let q := s.net.matrix
  let s := (s.portStateSet p 2).portUpd p (fun x => { x with quarAt := q })
  (s.hfSet SW_INT_STAT_QUAR 1).hubEvt 0x4102 [(1, p), (1, k.num)]

/-- A frame from port `p` is dropped as a violation. -/
def State.portViol (s : State) (p : Nat) (k : Viol) (w : Nat) : State :=
  let s := s.hcount (violField p k) 1
  if !windowed p then s
  else
    let b := s.hub.frame % s.basics
    let s := s.violation (p + 1) (0x3010 + k.num) [(1, p), (1, b), (1, w)]
    let s := s.portUpd p (fun x => { x with viol := true })
    if s.portState p ≠ 1 then s
    else
      let n := min 255 (s.hf (SW_PSTAT_BUCKET p) + 1)
      let s := s.hfSet (SW_PSTAT_BUCKET p) n
      if s.hf TRL_QCFG_LIM ≤ n && !s.neverQuar p then s.quarantine p k else s

/-- Rejoins of a port within the last 3 600 s. -/
def State.recentRejoins (s : State) (p : Nat) : List Nat :=
  (s.port p).rejoins.filter (fun f => decide (frameDiff s.hub.frame f < (s.framesOf 3600 : Int)))

/-- The end of HOLD: LISTEN, or HELD by the rejoin limit (R316, R319). -/
def State.holdEnd (s : State) (p : Nat) : State :=
  if s.portState p ≠ 2 || s.net.matrix < (s.port p).quarAt + 1 + s.hf TRL_QCFG_HOLD then s
  else
    let r := s.recentRejoins p
    if s.hf TRL_QCFG_REJOIN_LIM ≤ r.length then
      ((s.portStateSet p 3).hfSet SW_INT_STAT_HELD 1).hubEvt 0x4104 [(1, p), (1, r.length)]
    else (s.listen p true).hubEvt 0x4103 [(1, p)]

/-- QUARANTINE_HOLD_END: after HOLD matrix cycles a quarantined port returns to LISTEN, or is HELD. -/
def execQuarantineHoldEnd (p : Nat) (s : State) : Host.Outcome State Fault Refusal :=
  if s.hub.supplied && windowed p then .next (s.holdEnd p) else .next s

/-- Release HELD ports by a mask (R316). -/
def State.releaseHeld (s : State) (mask : Nat) : State :=
  (List.range 16).foldl (fun s p => if bitOf mask p && decide (s.portState p = 3) then s.listen p true else s) s

/-- PORT_RELEASE_HELD: an authorised release moves HELD ports to LISTEN. -/
def execPortReleaseHeld (src mask : Nat) (s : State) : Host.Outcome State Fault Refusal :=
  if s.hub.supplied && decide (1 ≤ s.sourceLevel src) then .next (s.releaseHeld mask) else .next s

/-! ### Links (R305, R329) -/

/-- The ring enters a mode; entering split is event 0x4201, returning to normal 0x4202 (R329). -/
def State.ringSplit (s : State) (cause looper : Nat) : State :=
  if s.hf HRV_STATUS_MODE ≠ 1 then s
  else
    let s := { s with net := { s.net with healed := 0, splitPasses := 0 } }
    ((((s.hfSet HRV_STATUS_MODE 2).hcount HRV_CNT_SPLITS 1).hfSet SW_INT_STAT_HRV_SPLIT 1)).hubEvt 0x4201
      [(1, cause), (1, looper)]

/-- The ring's mode after a link change: down when both links are down (R329). -/
def State.ringLinks (s : State) : State :=
  if !s.ringOn then s.hfSet HRV_STATUS_MODE 0
  else
    let a := decide (s.hf (SW_PSTAT_LINK 7) = 1)
    let b := decide (s.hf (SW_PSTAT_LINK 8) = 1)
    if !a && !b then s.hfSet HRV_STATUS_MODE 0
    else if s.hf HRV_STATUS_MODE = 0 then
      let s := s.hfSet HRV_STATUS_MODE 1
      if a && b then s else s.ringSplit 3 0
    else if a && b then s
    else s.ringSplit 3 0

/-- The speeds that a port's link can settle at (R303, R305): 1 1000BASE-T, 2 1000BASE-T1, 3 10GBASE-T1. -/
def State.speedOk (s : State) (p speed : Nat) : Bool :=
  if p = 0 ∨ p = 11 then speed == 1
  else if p ≤ 8 then speed == 2
  else match s.obj 0x3030 (p - 8) with
    | 0 => speed == 2 || speed == 3
    | 1 => speed == 3
    | 2 => speed == 2
    | _ => false

/-- The code of a port's fastest speed (R305). -/
def State.fastest (s : State) (p : Nat) : Nat := if p = 9 ∨ p = 10 then 3 else if p = 0 ∨ p = 11 then 1 else 2

/-- PORT_LINK_UP: a port link comes up, settles its speed and enters LISTEN (R305, R316). -/
def execPortLinkUp (p speed : Nat) (s : State) : Host.Outcome State Fault Refusal :=
  if !s.hub.supplied || decide (11 < p) || !bitOf (s.obj 0x3030 5) p || !s.speedOk p speed then .next s
  else
    let s := (s.hfSet (SW_PSTAT_LINK p) 1).hfSet (SW_PSTAT_SPEED p) speed
    let up := p == 9 || p == 10
    let fall := up && decide (s.obj 0x3030 (p - 8) = 0) && speed == 2
    let s := s.hfSet (SW_PSTAT_FALLBACK p) (b2n fall)
    let (w, s) := if speed = s.fastest p then (BitVec.ofNat 64 (s.obj 0x3404 (2 * p + 1) * 65536 + s.obj 0x3404 (2 * p + 2)), s)
      else s.freeWord
    let s := s.hfSet (TB_PLAT p) w.toNat
    let s := s.hubEvt 0x4001 [(1, p), (1, speed)]
    let s := if fall then s.hubEvt 0x4003 [(1, p)] else s
    let s := if !windowed p then s.portStateSet p 1 else if s.portState p = 3 then s else s.listen p (s.port p).after
    .next (if p = 7 ∨ p = 8 then s.ringLinks else s)

/-- A port's link goes down: LISTEN follows when it returns, except from HELD (R316); a port that comes from quarantine still rejoins
(R319). -/
def State.portDown (s : State) (p : Nat) : State :=
  let was := s.portState p
  let s := (s.hfSet (SW_PSTAT_LINK p) 0).hfSet (SW_PSTAT_SPEED p) 0
  let s := s.hubEvt 0x4002 [(1, p)]
  let s := if windowed p && decide (was ≠ 3) then s.listen p ((s.port p).after || decide (was = 2)) else s
  if p = 7 ∨ p = 8 then s.ringLinks else s

/-- PORT_LINK_DOWN: a port link goes down. -/
def execPortLinkDown (p : Nat) (s : State) : Host.Outcome State Fault Refusal :=
  if !s.hub.supplied || decide (11 < p) || decide (s.hf (SW_PSTAT_LINK p) = 0) then .next s else .next (s.portDown p)

/-! ### TRDP (R322 to R324) -/

/-- One bit of the IEEE 802.3 CRC-32, reflected. -/
def crcIeeeBit (c : BitVec 32) : BitVec 32 := if c.getLsbD 0 then (c >>> 1) ^^^ 0xEDB88320#32 else c >>> 1

/-- One byte. -/
def crcIeeeByte (c : BitVec 32) (b : Byte) : BitVec 32 :=
  (List.range 8).foldl (fun c _ => crcIeeeBit c) (c ^^^ b.setWidth 32)

/-- The CRC-32 of IEEE 802.3, which TRDP's header FCS uses (IEC 61375-2-3). -/
def crcIeee (bs : List Byte) : Nat := (~~~ (bs.foldl crcIeeeByte 0xFFFFFFFF#32)).toNat

/-- Sum of 16-bit words of an Internet checksum, folded to 16 bits. -/
def inetSum : List Byte → Nat
  | a :: b :: r => let t := a.toNat * 256 + b.toNat + inetSum r; t % 65536 + t / 65536
  | [a] => a.toNat * 256
  | [] => 0

/-- The checksum of a header sums to all ones. -/
def inetOk (b : List Byte) : Bool := decide (inetSum b = 0xFFFF)

/-- The train directory's etbTopoCnt and opTrnTopoCnt (16 R434). -/
def State.etbTopo (s : State) : Nat := beAt (s.objBytes 0x0210 1) 0 4
def State.opTrnTopo (s : State) : Nat := beAt (s.objBytes 0x0210 1) 4 4

/-- Result of R323's checks: the number of the check that failed, a topography mismatch apart. -/
inductive TrdpCheck | ok | refused (k : Nat) | topo
  deriving DecidableEq, Repr

/-- The checks of a received telegram (R323); `md` for message data, whose message types are Mn, Mr, Mp, Mq, Mc and Me. -/
def State.trdpCheck (s : State) (h : Nat) (b : List Byte) (md : Bool) : TrdpCheck :=
  let ip := b.drop (frameHead b)
  let ihl := byteAt ip 0 % 16 * 4
  let udp := (ip.take (beAt ip 2 2)).drop ihl
  let t := udp.drop 8
  let ulen := beAt udp 4 2
  let pseudo := slice ip 12 8 ++ [0, 17] ++ beBytes 2 ulen ++ udp.take ulen
  let types := if md then [0x4D6E, 0x4D72, 0x4D70, 0x4D71, 0x4D63, 0x4D65] else [0x5064]
  let e := beAt t 12 4
  let o := beAt t 16 4
  if !inetOk (ip.take ihl) then .refused 1
  else if beAt udp 6 2 ≠ 0 ∧ !inetOk pseudo then .refused 2
  else if leAt t 36 4 ≠ crcIeee (t.take 36) then .refused 3
  else if byteAt t 4 ≠ 1 ∨ !types.contains (beAt t 6 2) then .refused 4
  else if beAt t 8 4 ≠ s.obj (0x3200 + h) 8 then .refused 5
  else if (e ≠ 0 ∧ e ≠ s.etbTopo) ∨ (o ≠ 0 ∧ o ≠ s.opTrnTopo) then .topo
  else if t.length < 40 + beAt t 20 4 then .refused 7
  else .ok

/-- The engine channel of a stream's input. -/
def State.streamChan (s : State) (p h : Nat) : Option Nat :=
  pdeChannels.find? (fun c => decide (s.hf (PDE_CFG_MODE c) ≠ 0) && decide (s.hf (PDE_SRC_KIND c) = 1)
    && decide (s.hf (PDE_SRC_PORT c) = p) && decide (s.hf (PDE_SRC_SRC_ID c) = h))

/-- A frame of stream `h` for the module's engine (port 12), or for its message data (port 13), with the checks of its PROTO (R322,
R323). -/
def State.toEngine (s : State) (p h : Nat) (b : List Byte) : State :=
  match s.streamChan p h with
  | none => s
  | some c =>
    match s.obj (0x3200 + h) 6 with
    | 0 => s.itemFor c b
    | 1 => match s.trdpCheck h b false with
      | .ok => s.itemFor c b
      | .refused k => (s.cntAdd (chanObj c 2) 1 1).violation (p + 1) 0x4401 [(2, h), (1, k)]
      | .topo =>
        let t := (b.drop (frameHead b)).drop 28
        (s.cntAdd (chanObj c 2) 2 1).violation (p + 1) 0x4402 [(2, h), (4, beAt t 12 4), (4, beAt t 16 4)]
    | _ =>
      let ip := b.drop (frameHead b)
      let addr := slice ip 12 4 ++ slice ip (byteAt ip 0 % 16 * 4) 2
      if !s.hub.mgmtUp then s
      else if s.throttled addr then s.dropThrottled addr
      else match s.trdpCheck h b true with
        | .ok => s.itemFor c b
        | .refused k => s.clientViolation addr 0x3006 [(4, s.obj (0x3200 + h) 8), (1, k)]
        | .topo => s.clientViolation addr 0x3006 [(4, s.obj (0x3200 + h) 8), (1, 6)]

/-! ### 802.1CB recovery (R306) -/

/-- The key under which the two copies of a stream are recovered: destination and VID. -/
def recoverKey (b : List Byte) : Nat := beNat (b.take 6) * 4096 + frameVid b

/-- Vector recovery with history length 32 and reset time 10 ms: whether the frame is the first copy. -/
def State.recoverStep (s : State) (b : List Byte) : State × Bool :=
  let k := recoverKey b
  let seq := beAt b (frameHead b + 2) 2
  let put := fun (q h : Nat) => { s with net := { s.net with recover := mapInsert (mapErase s.net.recover k) k (q, h, s.hub.frame) } }
  match mapFind s.net.recover k with
  | none => (put seq 1, true)
  | some (q, h, f) =>
    if ((10000000 + s.period - 1) / max 1 s.period : Nat) ≤ (frameDiff s.hub.frame f).toNat then (put seq 1, true)
    else
      let d := toInt 16 (seq + 65536 - q)
      if d > 31 ∨ d < -31 then (s, false)
      else if 0 < d then (put seq ((h * 2 ^ d.toNat + 1) % 2 ^ 32), true)
      else if bitOf h (-d).toNat then (s, false)
      else (put q (h + 2 ^ (-d).toNat), true)

/-- A frame without its R-TAG. -/
def stripRtag (b : List Byte) : List Byte := b.take (frameHead b - 2) ++ b.drop (frameHead b + 4)

/-! ### Reception (R304, R312, R313, R321) -/

/-- The egress queue of a frame of stream `h`, or of an unmatched frame (R307). -/
def State.queueOf (s : State) (h : Option Nat) (b : List Byte) : Nat :=
  let pcp := if beAt b 12 2 = 0x8100 then byteAt b 14 / 32 else 0
  match h with
  | none => min pcp 5
  | some h => match s.obj (0x3200 + h) 7 with
    | 0 => 7
    | 1 => 6
    | _ => min (s.obj (0x3200 + h) 3) 5

/-- A window admits a frame of stream `h` from port `p` (R310). -/
def State.admits (s : State) (p : Nat) (h : Option Nat) (harvest : Bool) (w : Win) : Bool :=
  if harvest then bitOf w.smask 15
  else if s.ringPort p then false
  else bitOf w.smask p && match w.type with
    | 0 => decide (h = some w.stream)
    | 1 => match h with
      | some h => decide (s.obj (0x3200 + h) 7 = 1) && decide (s.obj (0x3200 + h) 4 = p)
      | none => false
    | 2 => match h with
      | some h => decide (s.obj (0x3200 + h) 7 = 2)
      | none => true
    | _ => false

/-- The ports that a frame of stream `h` from port `p` goes to: the egress mask without the port itself; from port 0 the module's own only
(R303, R304). -/
def State.egressMask (s : State) (p h : Nat) : Nat :=
  let m := setBit (s.obj (0x3200 + h) 5) p false
  if p = 0 then m / 4096 * 4096 else m

/-- An R-TAG with a sequence number (R306). -/
def rtagBytes (q : Nat) : List Byte := beBytes 2 0xF1C1 ++ [0, 0] ++ beBytes 2 q

/-- The next R-TAG sequence number of a stream. -/
def State.rtagNext (s : State) (h : Nat) : Nat × State :=
  let q := mapGet 0 s.net.rtagSeq h
  (q, { s with net := { s.net with rtagSeq := mapSet 0 s.net.rtagSeq h ((q + 1) % 65536) } })

/-- A frame with an R-TAG before its EtherType. -/
def insertRtag (q : Nat) (b : List Byte) : List Byte :=
  b.take (frameHead b - 2) ++ rtagBytes q ++ b.drop (frameHead b - 2)

/-- Forward an accepted frame (R304, R307): 802.1CB recovery takes the first copy, generation tags the copies for ports 9 and 10 (R306);
`full` are the egress ports without queue space. -/
def State.forward (s : State) (p : Nat) (h : Option Nat) (sfd : Int) (full : Nat) (b : List Byte) : State :=
  let s := s.hcount (SW_PCNT_RX p) 1
  match h with
  | none => if s.hub.mgmtUp then s.emit .service p 0 b else s
  | some h =>
    let cb := s.obj (0x3200 + h) 10
    let tagged := decide (frameType b = 0xF1C1)
    let (s, first) := if cb = 2 && tagged then s.recoverStep b else (s, true)
    if !first then s
    else
      let b := if cb = 2 && tagged then stripRtag b else b
      let mask := s.egressMask p h
      let q := s.queueOf (some h) b
      let raw := ((s.tb.edgeRaw : Int) + sfd * 8).toNat
      let (tag, s) := if cb = 1 && (bitOf mask 9 || bitOf mask 10) then
          let (n, s) := s.rtagNext h
          (some n, s)
        else (none, s)
      let s := (List.range 12).foldl (fun s e =>
        if !bitOf mask e then s
        else if bitOf full e then s.hcount (SW_PCNT_DROP_QUEUE e) 1
        else s.enqueueAt e q raw (match tag with
          | some n => if e = 9 ∨ e = 10 then insertRtag n b else b
          | none => b)) s
      let s := s.arrives h sfd
      if bitOf mask (if s.obj (0x3200 + h) 6 = 2 then 13 else 12) then s.toEngine p h b else s

/-- The verdict of R313 on a frame in a window cycle: the violation, or whether it is NEAR with its offset; and the window. -/
def State.verdictOf (s : State) (p : Nat) (h : Option Nat) (harvest : Bool) (f : EthFrame) :
    (Viol ⊕ (Bool × Nat)) × Nat :=
  let len := f.bytes.length + 4
  let t := (s.period / 10 : Nat)
  let back := decide (f.sfd < 0)
  let n := if back then s.hub.frame + frameMod - 1 else s.hub.frame
  let sfd := (if back then f.sfd + t else f.sfd).toNat
  let last := (if back then f.last + t else f.last).toNat
  if !f.fcsOk ∨ len < 64 ∨ 1536 < len then (.inl .fcs, 0)
  else match (s.windows (n % s.basics)).find? (fun w =>
      s.admits p h harvest w.2 && decide (w.2.start ≤ sfd) && decide (sfd < w.2.start + w.2.len)) with
    | none => (.inl .outside, 0)
    | some (i, w) =>
      let end_ := w.start + w.len
      if end_ < last then (.inl .late, i)
      else
        let was := (s.port p).used
        let bytes := if was.1 = n % frameMod ∧ was.2.1 = i then was.2.2 else 0
        if w.maxb ≠ 0 ∧ w.maxb < bytes + len then (.inl .budget, i)
        else
          let m := s.hf TRL_CFG_MARGIN
          let near := decide (sfd - w.start < m) || decide (end_ - last < m)
          (.inr (near, min (sfd - w.start) (end_ - last)), i)

/-- FRAME_RECEIVE: a frame fully received at a port is policed against the trellis and forwarded or dropped. -/
def execFrameReceive (p : Nat) (f : EthFrame) (s : State) : Host.Outcome State Fault Refusal :=
  let b := f.bytes
  if !s.hub.supplied || decide (11 < p) || decide (s.hf (SW_PSTAT_LINK p) = 0) then .next s
  else if b.take 6 = ptpAddress ∧ f.fcsOk then
    let type := byteAt b (frameHead b) % 16
    .next (if s.tbAccepts p type then s.hcount (SW_PCNT_RX p) 1 else s.tbViolation p type)
  else if !windowed p then
    let len := b.length + 4
    if !f.fcsOk ∨ len < 64 ∨ 1536 < len then .next (s.portViol p .fcs 0)
    else
      let h := s.streamOf p b
      if h.isNone ∧ !s.ownAddress (b.take 6) ∧ b.take 6 ≠ broadcast then .next (s.hcount (SW_PCNT_DROP_UNMATCHED p) 1)
      else .next (s.forward p h f.sfd f.full b)
  else if !s.net.started || s.trellis = [] then .next (s.hcount (SW_PCNT_DROP_UNMATCHED p) 1)
  else if 2 ≤ s.portState p then .next s
  else
    let h := s.streamOf p b
    let harvest := s.isHarvest p b
    match s.verdictOf p h harvest f with
    | (.inl k, w) => .next (s.portViol p k w)
    | (.inr (near, ofs), w) =>
      let was := (s.port p).used
      let n := if f.sfd < 0 then s.hub.frame + frameMod - 1 else s.hub.frame
      let n := n % frameMod
      let bytes := (if was.1 = n ∧ was.2.1 = w then was.2.2 else 0) + b.length + 4
      let s := s.portUpd p (fun x => { x with ok := true, used := (n, w, bytes) })
      if s.portState p ≠ 1 then .next s
      else
        let s := if near then
            let first := !(s.port p).near && !(s.port p).nearLast
            let s := ((s.hcount (TRL_PNEAR p) 1).hfSet SW_INT_STAT_NEAR 1).portUpd p (fun x => { x with near := true })
            if first then s.hubEvt 0x4105 [(1, p), (4, ofs)] else s
          else s
        if harvest then .next (s.hcount (SW_PCNT_RX p) 1)
        else if h.isNone ∧ !s.ownAddress (b.take 6) ∧ b.take 6 ≠ broadcast then
          .next (s.hcount (SW_PCNT_DROP_UNMATCHED p) 1)
        else .next (s.forward p h f.sfd f.full b)

/-! ### Egress (R310, R312) -/

/-- Wire time of a frame of `n` bytes without FCS at a port's speed, in units of 0.1 ns: preamble, frame and FCS. -/
def State.wireTime (s : State) (p n : Nat) : Nat := (n + 12) * (if s.hf (SW_PSTAT_SPEED p) = 3 then 8 else 80)

/-- Queue `q` of a port is open at `now` (10 ns units) until the window's end; `none` while it is closed (R310). -/
def State.gateOpen (s : State) (p q now : Nat) : Option Nat :=
  ((s.windows (s.hub.frame % s.basics)).find? (fun w =>
    bitOf w.2.dmask p && decide (w.2.start ≤ now) && decide (now < w.2.start + w.2.len)
      && (match w.2.type with | 0 => q == 7 | 1 => q == 6 | 2 => decide (q ≤ 5) | _ => false))).map
    (fun w => w.2.start + w.2.len)

/-- A frame at the head of queue `q` may start at `now` (R312, R311, R321). -/
def State.mayStart (s : State) (p q now : Nat) (b : List Byte) : Bool :=
  if !s.net.started || s.ringPort p then false
  else if s.trellis = [] then !windowed p
  else match s.gateOpen p q now with
    | some e => decide (now * 100 + s.wireTime p b.length ≤ e * 100)
    | none => false

/-- FRAME_EGRESS: the highest queue with an open gate sends its first frame, if it fits before the gate closes. -/
def execFrameEgress (p now : Nat) (s : State) : Host.Outcome State Fault Refusal :=
  if !s.hub.supplied || decide (11 < p) || decide (s.hf (SW_PSTAT_LINK p) = 0) then .next s
  else
    match [7, 6, 5, 4, 3, 2, 1, 0].find? (fun q => match mapGet [] (s.port p).queues q with
      | b :: _ => s.mayStart p q now b.2
      | [] => false) with
    | none => .next s
    | some q =>
      let fs := mapGet [] (s.port p).queues q
      let s := s.portUpd p (fun x => { x with queues := mapSet [] x.queues q (fs.drop 1) })
      let f := fs.headD (0, [])
      let (s, b) := s.correct f.1 (s.tb.edgeRaw + 8 * now) f.2
      .next ((s.hcount (SW_PCNT_TX p) 1).emit .ethernet p q b)

/-! ### Matrix cycles and bank switches (R308, R314, R316, R317) -/

/-- The banks switch (R314). -/
def State.bankSwitch (s : State) : State :=
  let k := 1 - s.hf TRL_STATUS_BANK
  let s := (s.hfSet TRL_STATUS_BANK k).hfSet TRL_STATUS_PEND 0
  let s := s.hfSet TRL_CFG_B s.net.nextB
  let s := { s with net := { s.net with switchAt := none } }
  ((s.hcount TRL_CNT_SWAPS 1).hfSet SW_INT_STAT_SWAP 1).hubEvt 0x4110 [(1, k), (6, s.hub.frame)]

/-- A pending switch may be made at a matrix-cycle start `edge`. -/
def State.switchDue (s : State) (edge : Nat) : Bool :=
  match s.net.switchAt with
  | some f => frameGe edge f
  | none => false

/-- TRELLIS_BANK_SWITCH: at a matrix-cycle start at least 2 edges after the end of compilation the banks switch. -/
def execTrellisBankSwitch (s : State) : Host.Outcome State Fault Refusal :=
  if s.hub.supplied && s.net.started && decide (s.hub.frame % s.basics = 0) && s.switchDue s.hub.frame then .next s.bankSwitch
  else .next s

/-- One port at a matrix-cycle start. -/
def State.portMatrix (s : State) (p : Nat) : State :=
  let x := s.port p
  let was := s.portState p
  let s := if was = 2 then s.holdEnd p else s
  let s := if was = 1 ∧ !x.viol then s.hfSet (SW_PSTAT_BUCKET p) (s.hf (SW_PSTAT_BUCKET p) - 1) else s
  let s := if was = 0 ∧ x.whole ∧ x.ok ∧ !x.viol ∧ ((p ≠ 9 ∧ p ≠ 10) ∨ s.tbSynced) then
      let rj := if x.after then s.hub.frame :: s.recentRejoins p else s.recentRejoins p
      let s := (s.portStateSet p 1).portUpd p (fun x => { x with rejoins := rj, after := false })
      let s := (s.hfSet (SW_PSTAT_BUCKET p) 0).hfSet SW_INT_STAT_ACTIVE 1
      s.hubEvt 0x4101 [(1, p), (1, 0)]
    else s
  let s := s.hfSet (SW_PSTAT_REJOINS p) (min 255 (s.recentRejoins p).length)
  let l := decide (s.portState p = 0) && decide (s.hf (SW_PSTAT_LINK p) = 1)
  s.portUpd p (fun x => { x with viol := false, ok := false, whole := l, nearLast := x.near, near := false })

/-- The trellis at hub edge `n`: the basic cycle, and at a matrix-cycle start the bank switch and the ports (R308). -/
def State.trellisEdge (s : State) (n : Nat) : State :=
  let start := decide (n % s.basics = 0)
  let s := if start && s.switchDue n then s.bankSwitch else s
  let s := s.hfSet TRL_STATUS_BASIC (n % s.basics)
  let s := if n % s.basics = 0 then
      let s := { s with net := { s.net with matrix := s.net.matrix + 1 } }
      -- the first matrix cycle that a port can spend in LISTEN begins after the first marker (R321)
      (if s.net.started then (List.range 10).foldl (fun s i => s.portMatrix (i + 1)) s else s).hfSet TRL_MFRAME (n % 2 ^ 32)
    else s
  { s with net := { s.net with started := true } }

/-- A port that is disabled, or whose mode no longer allows its speed, loses its link. -/
def State.portKeep (s : State) (p : Nat) : State :=
  if s.hf (SW_PSTAT_LINK p) = 1 && (!bitOf (s.obj 0x3030 5) p || !s.speedOk p (s.hf (SW_PSTAT_SPEED p))) then s.portDown p else s

/-- The registers of the switch and the harvest ring from the committed objects (R334). -/
def State.loadNetRegs (s : State) : State :=
  let s := (s.hfSet TRL_CFG_MARGIN (s.obj 0x3000 2)).hfSet TRL_CFG_GMIN (s.obj 0x3000 3)
  let s := (s.hfSet TRL_QCFG_LIM (s.obj 0x3001 1)).hfSet TRL_QCFG_HOLD (s.obj 0x3001 2)
  let s := s.hfSet TRL_QCFG_REJOIN_LIM (s.obj 0x3001 3)
  let n := s.obj 0x3100 1
  let s := (s.hfSet HRV_CFG_N n).hfSet HRV_CFG_PASSES (if n = 0 then 0 else s.obj 0x3100 2)
  let s := (List.range 4).foldl (fun s i => s.hfSet (HRV_PT i) (s.obj 0x3100 (3 + i))) s
  (s.hfSet (SW_PSTAT_COUPLER 9) (s.obj 0x3030 3)).hfSet (SW_PSTAT_COUPLER 10) (s.obj 0x3030 4)

/-- Load the switch's registers from the committed objects (R334). -/
def State.loadNetCfg (s : State) : State := ((List.range 12).foldl State.portKeep s.loadNetRegs).ringLinks

/-- A new trellis goes into the inactive bank and is compiled; the switch follows (R314). Compilation takes at most 20 ms. -/
def State.newTrellis (s : State) (t : List Byte) (b : Nat) : State :=
  let s := s.otherBankSet t
  let c := (20000000 + s.period - 1) / max 1 s.period
  { s.hfSet TRL_STATUS_PEND 1 with net := { (s.hfSet TRL_STATUS_PEND 1).net with
    switchAt := some (frameAdd s.hub.frame (c + 2)), nextB := b } }

/-- Claims are lost: the committed trellis follows by a bank switch (R315). -/
def State.dropClaims (s : State) : State :=
  if s.net.claims = [] then s
  else ({ s with net := { s.net with claims := [] } } : State).newTrellis (s.objBytes 0x3010 0) (s.obj 0x3000 1)

/-- The module enters START while the hub runs: claims are lost, and HELD ports go to LISTEN (R315, R316). -/
def State.netStart (s : State) : State := if s.hub.supplied then s.dropClaims.releaseHeld 0xFFFF else s

/-- The switch at hub start: the committed trellis stands in bank 0 (R321). -/
def State.startNet (s : State) : State :=
  let s := { s with net := { regs := s.net.regs, bank0 := s.objBytes 0x3010 0, nextB := s.obj 0x3000 1 } }
  let s := (s.hfSet TRL_CFG_B (s.obj 0x3000 1)).loadNetCfg
  [0, 11, 12, 13, 14, 15].foldl (fun s p =>
    let s := s.portStateSet p 1
    if 12 ≤ p then (s.hfSet (SW_PSTAT_LINK p) 1).hfSet (SW_PSTAT_SPEED p) 4 else s) s

/-! ### Spare windows (R315) -/

/-- The bytes of MAXF of stream `h` fit the window at the slowest port it names (R311, R315). -/
def State.maxfFits (s : State) (h : Nat) (w : Win) : Bool :=
  let slow := (List.range 16).any (fun p => (bitOf w.dmask p || bitOf w.smask p) &&
    !((p == 9 || p == 10) && decide (s.obj 0x3030 (p - 8) = 1)) && decide (p ≤ 11))
  decide ((s.obj (0x3200 + h) 9 + 8) * (if slow then 80 else 8) ≤ w.len * 100)

/-- The trellis that a claim or release changes: the pending one, else the one in force. -/
def State.claimBase (s : State) : List Byte := if s.net.switchAt.isSome then s.otherBank else s.trellis

/-- A claim is accepted (R315). -/
def State.claimOk (s : State) (b w h : Nat) : Bool :=
  let e := winAt s.claimBase b w
  let ing := s.obj (0x3200 + h) 4
  decide (b < s.basics) && decide (e.len ≠ 0) && e.type == 0 && e.smask == 0
    && decide (s.obj (0x3200 + h) 7 = 0) && decide (ing ≤ 12) && !bitOf e.dmask ing
    && decide (nAndNot (s.obj (0x3200 + h) 5) e.dmask = 0) && s.maxfFits h e

/-- Replace an entry of the trellis to be, and let the banks switch. -/
def State.putWindow (s : State) (b w : Nat) (e : Win) : State :=
  s.newTrellis (overlay s.claimBase (0x200 * b + 0x10 * w) (winBytes e)) (if s.net.switchAt.isSome then s.net.nextB else s.basics)

/-- A claim (R315): the abort code of the answer, 0 when it is accepted. -/
def State.claim (s : State) (v : Nat) : State × Nat :=
  let b := bitsOf v 29 24
  let w := bitsOf v 20 16
  let h := bitsOf v 8 0
  if s.claimOk b w h then
    let e := winAt s.claimBase b w
    let s := s.putWindow b w { e with smask := 2 ^ s.obj (0x3200 + h) 4, stream := h }
    let s := { s with net := { s.net with claims := (32 * b + w) :: s.net.claims } }
    ((s.hcount TRL_CNT_CLAIMS 1).hubEvt 0x4111 [(1, b), (1, w), (2, h)], 0)
  else (s.hubEvt 0x4113 [(1, b), (1, w), (2, h), (1, 1)], 0x0403)

/-- A release (R315). -/
def State.releaseWindow (s : State) (v : Nat) : State × Nat :=
  let b := bitsOf v 29 24
  let w := bitsOf v 20 16
  if s.net.claims.contains (32 * b + w) then
    let e := winAt s.claimBase b w
    let s := s.putWindow b w { e with smask := 0, stream := 0 }
    let s := { s with net := { s.net with claims := s.net.claims.filter (· ≠ 32 * b + w) } }
    (s.hubEvt 0x4112 [(1, b), (1, w)], 0)
  else (s, 0x0403)

/-- WINDOW_CLAIM: a host of rights level 1 claims a spare window for a stream. -/
def execWindowClaim (src v : Nat) (s : State) : Host.Outcome State Fault Refusal :=
  if s.hub.supplied && decide (1 ≤ s.sourceLevel src) then .next (s.claim v).1 else .next s

/-- WINDOW_RELEASE: a host releases a claimed window. -/
def execWindowRelease (src v : Nat) (s : State) : Host.Outcome State Fault Refusal :=
  if s.hub.supplied && decide (1 ≤ s.sourceLevel src) then .next (s.releaseWindow v).1 else .next s

/-! ### Frames of originated streams (R324, R537) -/

/-- The sequence number that follows in a table, starting at 0. -/
def nextSeq (m : List (Nat × Nat)) (k : Nat) : Nat := mapGet 0 m k

/-- The IPv4 header with its total length and checksum filled in. -/
def ipv4Header (t : List Byte) (len : Nat) : List Byte :=
  let h := overlay (overlay (t.take 20) 2 (beBytes 2 len)) 10 [0, 0]
  overlay h 10 (beBytes 2 (0xFFFF - inetSum h))

/-- The TRDP process data header (R324). -/
def State.trdpHeader (s : State) (comId seq len : Nat) : List Byte :=
  let h := beBytes 4 seq ++ [1, 0] ++ beBytes 2 0x5064 ++ beBytes 4 comId ++ beBytes 4 s.etbTopo ++ beBytes 4 s.opTrnTopo
    ++ beBytes 4 len ++ beBytes 4 0 ++ beBytes 4 0 ++ beBytes 4 0
  h ++ leBytes 4 (crcIeee h)

/-- The lowest-numbered port of an egress mask. -/
def lowPort (mask : Nat) : Nat := ((List.range 12).find? (fun p => bitOf mask p)).getD 0

/-- The frame that the hub builds around an item of originated stream `h`, without the FCS (R537). -/
def State.buildFrame (s : State) (h : Nat) (item : List Byte) : State × List Byte :=
  let i := 0x3200 + h
  let t := s.objBytes i 11
  let (s, rtag) := if s.obj i 10 = 1 then
      let (q, s) := s.rtagNext h
      (s, rtagBytes q)
    else (s, [])
  if s.obj i 6 = 0 then
    let vlan := if s.obj i 2 = 0 then [] else beBytes 2 0x8100 ++ beBytes 2 (s.obj i 3 * 8192 + s.obj i 2)
    let b := s.objBytes i 1 ++ s.objBytes 0x0007 (lowPort (s.obj i 5) + 1) ++ vlan ++ rtag ++ t ++ item
    (s, if b.length < 60 then padTo 60 b else b)
  else
    let com := s.obj i 8
    let q := nextSeq s.net.trdpSeq com
    let s := { s with net := { s.net with trdpSeq := mapSet 0 s.net.trdpSeq com ((q + 1) % 2 ^ 32) } }
    let e := t.length - 28
    let body := s.trdpHeader com q item.length ++ item
    let ip := ipv4Header (slice t e 20) (28 + body.length)
    let udp := overlay (overlay (slice t (e + 20) 8) 4 (beBytes 2 (8 + body.length))) 6 [0, 0]
    let b := t.take (e - 2) ++ rtag ++ slice t (e - 2) 2 ++ ip ++ udp ++ body
    (s, if b.length < 60 then padTo 60 b else b)

/-! ### The harvest ring (R325 to R331) -/

/-- SID, OUT_LEN and IN_LEN of station `k`. -/
def State.hrvSid (s : State) (k : Nat) : Nat := bitsOf (s.obj 0x3110 k) 63 32
def State.hrvOutLen (s : State) (k : Nat) : Nat := bitsOf (s.obj 0x3110 k) 31 16
def State.hrvInLen (s : State) (k : Nat) : Nat := bitsOf (s.obj 0x3110 k) 15 0

/-- The engine channel of a station: output or input. -/
def State.hrvChan (s : State) (k : Nat) (out : Bool) : Option Nat :=
  pdeChannels.find? (fun c =>
    let m := s.hf (PDE_CFG_MODE c)
    (if out then m == 2 || m == 4 else m == 1 || m == 3 || m == 5) && decide (s.hf (PDE_SRC_KIND c) = 3)
      && decide (s.hf (PDE_SRC_PORT c) = k))

/-- The item of a station's output channel becomes the newest one that passes carry (R331). -/
def State.hrvTake (s : State) (k : Nat) : State :=
  match s.hrvChan k true with
  | none => s
  | some c => match (s.chan c).out with
    | none => s
    | some it =>
      let s := { s with net := { s.net with hrvOut := mapInsert (mapErase s.net.hrvOut k) k it.payload } }
      s.outputSent c

/-- One segment as the module sends it (R327). -/
def State.hrvSegment (s : State) (k : Nat) : List Byte :=
  let o := s.hrvOutLen k
  let d := (mapFind s.net.hrvOut k).getD []
  let ok := (mapFind s.net.hrvOut k).isSome && decide (d.length = o)
  beBytes 1 k ++ [if ok then 0x80 else 0] ++ beBytes 2 o ++ beBytes 2 (s.hrvInLen k) ++ [0, 0] ++ beBytes 4 0
    ++ (if ok then d else List.replicate o 0) ++ List.replicate (s.hrvInLen k) 0

/-- The payload of a harvest frame (R326). -/
def State.hrvPayload (s : State) (dir pass frame : Nat) (split : Bool) : List Byte :=
  let n := s.hf HRV_CFG_N
  let h := [0x01] ++ beBytes 1 (dir * 128 + b2n split * 32) ++ beBytes 1 n ++ beBytes 1 pass ++ beBytes 6 frame
    ++ beBytes 2 0 ++ [0, 0, 0, 0]
  h ++ (List.range n).flatMap (fun i => s.hrvSegment (i + 1))

/-- Send one harvest frame on port 7 (DIR 0) or 8 (DIR 1). -/
def State.hrvSend (s : State) (dir pass frame : Nat) (split : Bool) : State :=
  let b := [0x03, 0x00, 0x00, 0x48, 0x52, 0x56] ++ s.objBytes 0x0007 (8 + dir) ++ beBytes 2 0x88B5
    ++ s.hrvPayload dir pass frame split
  let s := (s.hcount (SW_PCNT_TX (7 + dir)) 1).emit .harvest (7 + dir) pass (if b.length < 60 then padTo 60 b else b)
  { s with net := { s.net with hrvOutstanding := s.net.hrvOutstanding ++ [⟨pass, dir⟩] } }

/-- Segments whose item length differs from OUT_LEN count an engine check error (R331). -/
def State.hrvMismatch (s : State) (k : Nat) : State :=
  match s.hrvChan k true, mapFind s.net.hrvOut k with
  | some c, some d => if d.length = s.hrvOutLen k then s else (s.hcount (PDE_CNT_ERR_CHECK c) 1).cntAdd (chanObj c 1) 5 1
  | _, _ => s

/-- HARVEST_PASS_SEND: at a pass time the module sends a harvest frame, or two in split mode. -/
def execHarvestPassSend (pass : Nat) (s : State) : Host.Outcome State Fault Refusal :=
  if !s.hub.supplied || !s.ringOn || decide (s.hf HRV_STATUS_MODE = 0) || decide (s.hf HRV_CFG_PASSES ≤ pass)
      || !s.net.started then .next s
  else
    let ks := (List.range (s.hf HRV_CFG_N)).map (· + 1)
    let s := ks.foldl State.hrvTake s
    let s := ks.foldl State.hrvMismatch s
    let frame := if s.pde.fetched then s.hub.frame else frameAdd s.hub.frame (frameMod - 1)
    let s := { s with net := { s.net with hrvGot := 0, hrvBack := 0, hrvIn := [] } }
    if s.hf HRV_STATUS_MODE = 1 then .next (s.hrvSend 0 pass frame false)
    else
      let s := { s with net := { s.net with splitPasses := s.net.splitPasses + 1 } }
      .next ((s.hrvSend 0 pass frame true).hrvSend 1 pass frame true)

/-- A station has been missing from 3 consecutive passes (R329). -/
def State.hrvStationMissing (s : State) (k : Nat) : State :=
  if mapGet 0 s.net.missing k = 3 then
    let s := { s with net := { s.net with missing := mapSet 0 s.net.missing k 4 } }
    s.hubEvt 0x4204 [(1, k), (1, 3)]
  else s

/-- HARVEST_STATION_MISSING. -/
def execHarvestStationMissing (k : Nat) (s : State) : Host.Outcome State Fault Refusal :=
  if s.hub.supplied && s.ringOn && decide (1 ≤ k) && decide (k ≤ s.hf HRV_CFG_N) then .next (s.hrvStationMissing k) else .next s

/-- After 8 healed split passes in a row the ring returns to normal (R329). -/
def State.ringNormal (s : State) : State :=
  if s.hf HRV_STATUS_MODE = 2 ∧ 8 ≤ s.net.healed then
    let n := s.net.splitPasses
    let s := { s with net := { s.net with healed := 0, splitPasses := 0 } }
    ((s.hfSet HRV_STATUS_MODE 1).hfSet SW_INT_STAT_HRV_CLOSE 1).hubEvt 0x4202 [(4, n)]
  else s

/-- HARVEST_RING_NORMAL. -/
def execHarvestRingNormal (s : State) : Host.Outcome State Fault Refusal :=
  if s.hub.supplied then .next s.ringNormal else .next s

/-- The inputs that the frames of a pass have brought go to their channels; where both frames carry a station's, DIR 0 is taken
(R329). -/
def State.hrvDeliver (s : State) : State :=
  let got := s.net.hrvIn
  let s := { s with net := { s.net with hrvIn := [] } }
  (List.range 16).foldl (fun s i =>
    match (got.find? (fun g => g.1 == i + 1 && g.2.1 == 0)).orElse (fun _ => got.find? (fun g => g.1 == i + 1)), s.hrvChan (i + 1) false with
    | some g, some c => s.itemFor c g.2.2
    | _, _ => s) s

/-- A pass is over when none of its frames is out: stations it has not shown were missing (R329). -/
def State.passOver (s : State) (pass : Nat) : State :=
  if s.net.hrvOutstanding.any (fun o => o.pass == pass) then s
  else
    let s := s.hfSet HRV_STATUS_SEEN s.net.hrvGot
    let s := s.hrvDeliver
    (List.range (s.hf HRV_CFG_N)).foldl (fun s i =>
      let k := i + 1
      if bitOf s.net.hrvGot i then { s with net := { s.net with missing := mapSet 0 s.net.missing k 0 } }
      else
        let c := mapGet 0 s.net.missing k
        let s := { s with net := { s.net with missing := mapSet 0 s.net.missing k (if c < 3 then c + 1 else c) } }
        let s := (s.hcount (HRV_SCNT_MISS i) 1).hfSet SW_INT_STAT_HRV_MISS 1
        let s := match s.hrvChan k false with | some c => s.cntAdd (chanObj c 2) 1 1 | none => s
        s.hrvStationMissing k) s

/-- Take one station's segment of a returned frame (R329). -/
def State.hrvStation (s : State) (dir : Nat) (b : List Byte) (k off : Nat) : State :=
  let seg := b.drop off
  let fl := byteAt seg 1
  let seen := bitOf (beAt b 10 2) (k - 1)
  if !seen then s
  else
    let s := { s with net := { s.net with hrvGot := setBit s.net.hrvGot (k - 1) true } }
    let s := if bitOf fl 5 then s.hcount (HRV_SCNT_SERR (k - 1)) 1 else s
    if beAt seg 8 4 ≠ s.hrvSid k then
      let s := (s.hcount (HRV_SCNT_SIDERR (k - 1)) 1)
      let s := match s.hrvChan k false with | some c => s.cntAdd (chanObj c 2) 2 1 | none => s
      s.violation (12 + k) 0x4205 [(1, k), (4, beAt seg 8 4)]
    else if !bitOf fl 6 || bitOf fl 5 then s
    else { s with net := { s.net with hrvIn := (k, dir, slice seg (12 + s.hrvOutLen k) (s.hrvInLen k)) :: s.net.hrvIn } }

/-- Take every station's segment. -/
def State.hrvStations (s : State) (dir : Nat) (b : List Byte) : State :=
  ((List.range (s.hf HRV_CFG_N)).foldl (fun (a : State × Nat) i =>
    (a.1.hrvStation dir b (i + 1) a.2, a.2 + 12 + a.1.hrvOutLen (i + 1) + a.1.hrvInLen (i + 1))) (s, 16)).1

/-- A pass's frame is out no longer. -/
def State.passBack (s : State) (pass dir : Nat) : State :=
  { s with net := { s.net with hrvOutstanding := s.net.hrvOutstanding.filter (fun o => !(o.pass == pass && o.dir == dir)) } }

/-- A pass's frame is lost: counted, event 0x4203, and the ring splits (R329). -/
def State.passLost (s : State) (pass dir : Nat) : State :=
  let s := ((s.passBack pass dir).hcount HRV_CNT_LOST 1).hubEvt 0x4203 [(1, pass), (1, dir)]
  let s := { s with net := { s.net with healed := 0 } }
  (s.ringSplit 2 0).passOver pass

/-- HARVEST_FRAME_RETURN: a returned harvest frame delivers station inputs and may put the ring in split mode; one that is
late or has a wrong FCS is lost. `b` is the frame's payload as it came back on port `port`. -/
def execHarvestFrameReturn (port : Nat) (b : List Byte) (ok late : Bool) (s : State) : Host.Outcome State Fault Refusal :=
  let dir := b2n (bitOf (byteAt b 1) 7)
  let pass := byteAt b 3
  if !s.hub.supplied || !s.ringOn || !s.net.hrvOutstanding.any (fun o => o.pass == pass && o.dir == dir) then .next s
  else if !ok || late || byteAt b 0 ≠ 1 then .next (s.passLost pass dir)
  else
    let loop := bitOf (byteAt b 1) 6
    let looper := byteAt b 12
    let s := s.hfSet (if dir = 0 then HRV_STATUS_LOOP0 else HRV_STATUS_LOOP1) looper
    let s := (s.hrvStations dir b).passBack pass dir
    let healedOne := !loop && decide (port = 8 - dir)
    let s := if loop && decide (s.hf HRV_STATUS_MODE = 1) then s.ringSplit 1 looper
      else if s.hf HRV_STATUS_MODE = 2 then
        let back := s.net.hrvBack + b2n healedOne
        let ended := !s.net.hrvOutstanding.any (fun o => o.pass == pass)
        let s := { s with net := { s.net with
          hrvBack := back, healed := if ended then (if back = 2 then s.net.healed + 1 else 0) else s.net.healed } }
        s.ringNormal
      else s
    .next (s.passOver pass)

/-- HARVEST_PASS_LOST: a pass not returned by its window's end is lost and the ring splits. -/
def execHarvestPassLost (pass dir : Nat) (s : State) : Host.Outcome State Fault Refusal :=
  if s.hub.supplied && s.net.hrvOutstanding.any (fun o => o.pass == pass && o.dir == dir) then .next (s.passLost pass dir)
  else .next s

/-! ### Transmit opportunities (09 R261, 04 R114) -/

/-- An item of stream `h` as a frame on the ports of its egress mask at `now` (10 ns units after the edge), and whether it has started on one:
a port whose gate is closed, or closes too early, keeps its copy for the next open window (R312). `bad` ends the frame with a deliberately
invalid FCS (04 R114); DESIGN CHOICE: it counts as sent (log entry 68). -/
def State.sendFrame (s : State) (h now : Nat) (item : List Byte) (bad : Bool) : State × Bool :=
  let (t, b) := s.buildFrame h item
  let q := s.queueOf (some h) b
  let ps := (List.range 12).filter (fun p => bitOf (s.obj (0x3200 + h) 5) p && decide (s.hf (SW_PSTAT_LINK p) = 1))
  let goes := fun (p : Nat) => s.mayStart p q now b
  if !ps.any goes then (s, false)
  else
    (ps.foldl (fun s p =>
      if goes p then (s.hcount (SW_PCNT_TX p) 1).emit (if bad then .badFrame else .ethernet) p q b
      else if bad then s
      else s.enqueueAt p q s.tb.edgeRaw b) t, true)

/-- SINK_TRANSMIT_OPPORTUNITY: a fetched item is handed to its sink, `now` in 10 ns units after the edge; `ok` says that CHECK matched as it
passed the transmit stage (04 R114). An Ethernet frame goes out on the ports of the stream's egress mask, a harvest item into the next pass;
a CAN item stays in its mailbox until the controller offers it. -/
def execSinkTransmitOpportunity (c now : Nat) (ok : Bool) (s : State) : Host.Outcome State Fault Refusal :=
  match s.hub.supplied, (s.chan c).out with
  | true, some it =>
    let kind := s.hf (PDE_SRC_KIND c)
    if decide (191 < c) || (s.chan c).onWire then .next s
    else
      let (t, gone) := if kind = 1 then s.sendFrame (s.hf (PDE_SRC_SRC_ID c)) now it.payload !ok else (s, true)
      if !gone then .next s
      else if !ok then
        let t := ((t.hcount (PDE_CNT_ERR_CHECK c) 1).cntAdd (chanObj c 1) 5 1).hubEvt 0x4303 [(1, c)]
        .next (if s.hf (PDE_CFG_MODE c) = 4 then t.outputDone c 7 else t.chanUpd c (fun x => { x with out := none }))
      else if kind = 1 then .next (t.outputSent c)
      else if kind = 3 then .next (s.hrvTake (s.hf (PDE_SRC_PORT c)))
      else .next s
  | _, _ => .next s

end Sys2Proof.Machine
end

