-- ==== Sys2Proof/Machine/SafetyLayer.lean ====
section
/-! DEFINITION. Safe transport over black channels (14): the cork trailer, the module as consumer and as producer, SDTv2, and
the safety-layer check engine of each lane. -/

namespace Sys2Proof.Machine

/-! ### Configuration of connections (R378, R395) -/

/-- Sub-object `j` of connection `k`. -/
def State.connObj (s : State) (k j : Nat) : Nat := s.obj (0x6100 + k) j

/-- KIND of connection `k`. -/
def State.connKind (s : State) (k : Nat) : Nat := s.connObj k 1

/-- The connection that a channel carries (R379: at most one). -/
def State.connOf (s : State) (c : Nat) : Option Nat :=
  (List.range 256).find? (fun k => decide (s.connKind k ≠ 0) && decide (s.connObj k 2 = c))

/-- SDTv2 parameters of connection `k`: SMI and 0x0B to 0x11. -/
def State.sdtParams (s : State) (k : Nat) : List Nat := s.connObj k 3 :: (List.range 7).map (fun i => s.connObj k (0x0B + i))

/-- Connection `k` on lane `l`. -/
def State.conn (s : State) (l : LaneId) (k : Nat) : Conn := mapGet {} (s.lane l).rt.conns k

/-- Replace a connection's record. -/
def State.connSet (s : State) (l : LaneId) (k : Nat) (x : Conn) : State :=
  s.updLane l (fun y => { y with rt := { y.rt with conns := mapSet {} y.rt.conns k x } })

/-- The partner that carries the channel of connection `k` (16 R450, R451). -/
def State.connPartner (s : State) (k : Nat) : Nat :=
  let c := s.connObj k 2
  let src := s.hf (PDE_SRC_SRC_ID c)
  match s.hf (PDE_SRC_KIND c) with
  | 1 => let p := s.obj (0x3200 + src) 4
         if p ≤ 11 then p + 1 else 0
  | 2 => 29 + s.hf (PDE_SRC_PORT c) % 8
  | 3 => 13 + (s.hf (PDE_SRC_PORT c) - 1) % 16
  | _ => 0

/-- An event of connection `k`, under the rate limits, once for the module (R396). -/
def State.connEvt (s : State) (l : LaneId) (k code : Nat) (parts : List (Nat × Nat)) : State :=
  s.laneEvtP l code (s.connPartner k) ((1, k) :: parts)

/-! ### The cork trailer (R381, R382) -/

/-- One bit of the computation, most significant bit first. -/
def corkBit (c : BitVec 32) : BitVec 32 := if c.getLsbD 31 then (c <<< 1) ^^^ 0x741B8CD7#32 else c <<< 1

/-- One byte. -/
def corkByte (c : BitVec 32) (b : Byte) : BitVec 32 :=
  corkBit (corkBit (corkBit (corkBit (corkBit (corkBit (corkBit (corkBit (c ^^^ (b.setWidth 32 <<< 24)))))))))

/-- The engine's CRC from an initial value, without the final XOR. -/
def corkRun (seed : Nat) (bs : List Byte) : BitVec 32 := bs.foldl corkByte (BitVec.ofNat 32 seed)

/-- CORK_CRC over CID, payload and trailer bytes 0 to 7. -/
def corkCrc (cid : Nat) (body : List Byte) : Nat := (~~~ (corkRun 0xFFFFFFFF (beBytes 4 cid ++ body))).toNat

/-- The fields of a cork trailer. -/
structure Trailer where
  seq : Nat
  echo : Nat
  evalid : Bool
  passive : Bool
  rsvOk : Bool
  crc : Nat
  deriving DecidableEq, Repr

/-- The trailer of a telegram whose payload has `n` bytes. -/
def parseTrailer (t : List Byte) (n : Nat) : Trailer :=
  ⟨beAt t n 4, beAt t (n + 4) 2, bitOf (byteAt t (n + 6)) 7, bitOf (byteAt t (n + 6)) 6,
    decide (byteAt t (n + 6) % 64 = 0) && decide (byteAt t (n + 7) = 0), beAt t (n + 8) 4⟩

/-- A telegram: payload and trailer. -/
def corkTelegram (cid seq echo : Nat) (evalid passive : Bool) (pl : List Byte) : List Byte :=
  let b := pl ++ beBytes 4 seq ++ beBytes 2 echo ++ beBytes 1 (b2n evalid * 128 + b2n passive * 64) ++ [0]
  b ++ beBytes 4 (corkCrc cid b)

/-- The telegram in an item: DATA of a CAN record, the item itself otherwise (R381). -/
def telegramOf (kind : Nat) (item : List Byte) : List Byte := if kind = 2 then slice item 16 (byteAt item 5) else item

/-! ### The module as consumer (R384 to R387) -/

/-- A connection changes state; leaving RUN is event 0x6002 with its cause. -/
def State.connState (s : State) (l : LaneId) (k st cause : Nat) : State :=
  let x := s.conn l k
  let s := s.connSet l k { x with st := st }
  if x.st = 2 ∧ st ≠ 2 then s.connEvt l k 0x6002 [(1, cause)] else s

/-- err(c, kind) of R384, after the counters of the kind; the cause is the kind's place in R384. -/
def State.connErr (s : State) (l : LaneId) (k code cause : Nat) (parts : List (Nat × Nat)) : State :=
  let s := (s.connEvt l k code parts).lfSet l SLY_INT_STAT_ERR 1
  let x := s.conn l k
  let n := s.frame l
  let win := s.connObj k 9
  let errs := n :: x.errs.filter (fun f => decide (frameDiff n f < (win : Int)))
  let s := s.connSet l k { x with errs := errs, total := satAdd 0xFFFFFFFF x.total 1 }
  if s.connObj k 8 ≤ errs.length && (s.conn l k).st ≠ 3 then
    let s := (s.connState l k 3 cause).connEvt l k 0x6003 [(4, errs.length)]
    (s.lcount l SLY_CNT2_FAIL 1).lfSet l SLY_INT_STAT_FAIL 1
  else s

/-- The echo check of an accepted item (R385): whether it passes, with its age. -/
def State.echoCheck (s : State) (l : LaneId) (k : Nat) (t : Trailer) : Bool × Option Nat :=
  let r := s.connObj k 4
  if r = 0xFF then (true, none)
  else match (s.conn l r).sent with
    | none => (false, none)
    | some q =>
      let age := (q % 65536 + 65536 - t.echo) % 65536
      (t.evalid && decide (age ≤ s.connObj k 7), some age)

/-- An accepted item of a cork input: SAFE_OK (R385). -/
def State.corkSafe (s : State) (l : LaneId) (k : Nat) (t : Trailer) : State × Bool :=
  let (echoOk, age) := s.echoCheck l k t
  let s := match age with
    | some v => s.connSet l k { s.conn l k with age := v }
    | none => s
  let s := if echoOk then s else ((s.lcount l SLY_CNT_DELAY 1).lfSet l SLY_INT_STAT_ERR 1).connEvt l k 0x6013 [(4, age.getD 0)]
  let s := if t.passive then s.connEvt l k 0x6014 [] else s
  (s, decide ((s.conn l k).st = 2) && !t.passive && safeMode (s.laneMode l) && echoOk)

/-- One item of a cork input connection (R384): the payload when it is accepted, with SAFE_OK. -/
def State.corkItem (s : State) (l : LaneId) (k : Nat) (tel : List Byte) : State × Option (List Byte × Bool) :=
  let n := s.connObj k 0x0A
  let x := s.conn l k
  let t := parseTrailer tel n
  if x.st = 3 then (s, none)
  else if tel.length ≠ n + 12 then ((s.lcount l SLY_CNT_FMT 1).connErr l k 0x6012 1 [(4, tel.length)], none)
  else if corkCrc (s.connObj k 3) (tel.take (n + 8)) ≠ t.crc then ((s.lcount l SLY_CNT_CRC 1).connErr l k 0x6010 2 [], none)
  else if !t.rsvOk then ((s.lcount l SLY_CNT_FMT 1).connErr l k 0x6012 3 [(4, tel.length)], none)
  else if x.st = 0 then (s.connSet l k { x with st := 1, last := t.seq, good := 0 }, none)
  else
    let d := (t.seq + 2 ^ 32 - x.last) % 2 ^ 32
    if d = 0 then (s.lcount l SLY_CNT2_REPEAT 1, none)
    else if s.connObj k 5 < d then
      let s := s.connState l k 1 4
      let s := s.connSet l k { s.conn l k with last := t.seq, good := 0 }
      ((s.lcount l SLY_CNT_SEQ 1).connErr l k 0x6011 4 [(4, t.seq), (4, x.acc.getD 0)], none)
    else
      let s := s.lcount l SLY_CNT2_LOST (d - 1)
      let good := if x.st = 1 then x.good + 1 else x.good
      let run := x.st = 1 && decide (s.connObj k 6 ≤ good)
      let s := s.connSet l k { x with
        last := t.seq, acc := some t.seq, lost := satAdd 0xFFFFFFFF x.lost (d - 1), good := good
        st := if run then 2 else x.st }
      let s := if run then s.connEvt l k 0x6001 [(4, t.seq)] else s
      let (s, ok) := s.corkSafe l k t
      (s, some (tel.take n, ok))

/-- The length of the SDTv2 trailer (PRESUMED from IEC 61375-2-3). -/
def sdtTrailer : Nat := 16

/-- One item of an SDTv2 sink (R390). -/
def State.sdtItem (s : State) (l : LaneId) (k : Nat) (tel : List Byte) : State × Option (List Byte × Bool) :=
  let x := s.conn l k
  if x.st = 3 then (s, none)
  else
    let (r, next) := Config.sdtSink (s.sdtParams k) (s.lane l).rt.train x.sdt tel (s.frame l)
    let s := s.connSet l k { x with sdt := next }
    let data := tel.take (tel.length - sdtTrailer)
    match r with
    | 1 => (s, some (data, safeMode (s.laneMode l)))
    | 2 => (s.lcount l SLY_CNT2_REPEAT 1, none)
    | 4 => (s.connEvt l k 0x6021 [], some (data, false))
    | 5 => (s.connEvt l k 0x6022 [(1, 0)], some (data, false))
    | _ => ((s.lcount l SLY_CNT_CRC 1).connErr l k 0x6020 2 [], none)

/-! ### Station update at the end of A (07 R224, R225) -/

/-- The verify-list entry of an input channel: the one with its two banks (09, entry of each cyclic input channel). -/
def State.entryOf (s : State) (l : LaneId) (c : Nat) : Option (Nat × VEntry) :=
  ((s.ventries l).zipIdx.find? (fun e =>
    decide (e.1.off0 = s.hf (PDE_BANK0 c)) && decide (e.1.off1 = s.hf (PDE_BANK1 c)))).map (fun e => (e.2, e.1))

/-- The item of channel `c` that has arrived at lane `l` in this cycle: its copy is agreed valid and the own copy verified
(04 R132, R133). -/
def State.arrived (s : State) (l : LaneId) (c : Nat) : Option (List Byte) :=
  match s.entryOf l c with
  | none => none
  | some (i, e) =>
    if s.lf l ⟨(XCH_AGVAL (i / 32)).reg, i % 32, i % 32⟩ = 1 ∧ s.lf l ⟨(XCH_VRES (i / 32)).reg, i % 32, i % 32⟩ = 1 then
      let b := exchangeBase + bankOff e (s.frame l)
      let n := tagLen (s.lmem l b 16)
      some (s.lmem l (b + 16) n)
    else none

/-- Input and output channels of a station in directory order (16 R436). -/
def State.stationChans (s : State) (st sub : Nat) : List Nat :=
  ((s.objBytes (0x0300 + st) sub).map BitVec.toNat).filter (· ≠ 0xFF)

/-- Pad with zeros to a multiple of 8 bytes. -/
def pad8 (bs : List Byte) : List Byte := padTo ((bs.length + 7) / 8 * 8) bs

/-- One input channel of a station: the state after the checks of its safety layer, and the payload when it has arrived. -/
def State.stationItem (s : State) (l : LaneId) (st c : Nat) : State × Option (List Byte × Bool) :=
  match s.arrived l c with
  | none => (s, none)
  | some pl =>
    if s.obj (0x0300 + st) 3 = 0 then (s, some (pl, true))
    else match s.connOf c with
      | none => (s, none)
      | some k =>
        if s.connKind k = 1 then s.corkItem l k (telegramOf (s.hf (PDE_SRC_KIND c)) pl)
        else if s.connKind k = 3 then s.sdtItem l k pl
        else (s, none)

/-- The items of a station's input channels. -/
def State.stationItems (s : State) (l : LaneId) (st : Nat) : List Nat → State × List (Option (List Byte × Bool))
  | [] => (s, [])
  | c :: cs =>
    let (s1, x) := s.stationItem l st c
    let (s2, xs) := s1.stationItems l st cs
    (s2, x :: xs)

/-- Update of station `st` on lane `l` at the end of A (R224). -/
def State.stationUpdate (s : State) (l : LaneId) (st : Nat) : State :=
  let cs := s.stationChans st 4
  if s.obj (0x0300 + st) 1 = 0 || cs = [] then s
  else
    let (s, xs) := s.stationItems l st cs
    let got := xs.filterMap id
    if got.length = xs.length then
      s.stationStep l st (some (got.flatMap (fun p => pad8 p.1), got.all (·.2))) false
    else s.stationStep l st none (decide (got ≠ []))

/-- The stations that the running set references, in ascending order (07 R207, R209). -/
def Prog.stationList (p : Prog) : List Nat := (List.range 256).filter (fun st => p.stations.any (fun r => r.2.1 == st))

/-- The update of each referenced station (07 R207). -/
def State.stationsUpdate (s : State) (l : LaneId) : State :=
  (s.lane l).prog.stationList.foldl (fun s st => s.stationUpdate l st) s

/-- The data bytes of a station: what its input channels carry, each padded (07 R225). -/
def State.stationLen (s : State) (st : Nat) : Nat :=
  ((s.stationChans st 4).map (fun c => (s.hf (PDE_SIZE_SIZE c) - 16 + 7) / 8 * 8)).sum

/-- The station table after a start: every entry STALE, never updated, its data zero (07 R222). -/
def State.freshStations (s : State) (l : LaneId) : State :=
  s.updLane l (fun x => { x with rt := { x.rt with
    stations := (x.prog.stationList.filter (fun st => decide (s.stationLen st ≠ 0))).map
      (fun st => (st, { data := List.replicate (s.stationLen st) 0 })) } })

/-! ### The module as producer (R383) -/

/-- The item of a cork output connection: none when the payload has another length than PLEN. -/
def State.corkProduce (s : State) (l : LaneId) (k : Nat) (passive : Bool) (pl : List Byte) : State × Option (List Byte) :=
  if pl.length ≠ s.connObj k 0x0A then (((s.lcount l SLY_CNT_FMT 1).lfSet l SLY_INT_STAT_ERR 1).connEvt l k 0x6012 [(4, pl.length)], none)
  else
    let x := s.conn l k
    let seq := x.next.getD (s.frame l % 2 ^ 32)
    let r := s.connObj k 4
    let y := s.conn l r
    let echo := if r ≠ 0xFF ∧ (y.st = 1 ∨ y.st = 2) then y.acc else none
    let s := s.connSet l k { x with next := some ((seq + 1) % 2 ^ 32), sent := some seq }
    (s, some (corkTelegram (s.connObj k 3) seq ((echo.getD 0) % 65536) echo.isSome passive pl))

/-- The item that a payload becomes on its channel, with the safety layer's trailer. -/
def State.produce (s : State) (l : LaneId) (c : Nat) (passive : Bool) (pl : List Byte) : State × Option (List Byte) :=
  match s.connOf c with
  | none => (s, some pl)
  | some k =>
    if s.connKind k = 2 then
      -- on CAN the telegram is DATA of the transmit record, whose 16 header bytes the task writes first (R381)
      let h := if s.hf (PDE_SRC_KIND c) = 2 then 16 else 0
      let (s, t) := s.corkProduce l k passive (pl.drop h)
      (s, t.map (fun b => pl.take h ++ b))
    else if s.connKind k = 4 then
      let x := s.conn l k
      let b := Config.sdtSource (s.sdtParams k) (s.lane l).rt.train x.ssc pl
      (s.connSet l k { x with ssc := (x.ssc + 1) % 2 ^ 32 }, some b)
    else (s, some pl)

/-- Write one output bank of lane `l` for its running cycle: an item, or an empty tag (09 R259). -/
def State.outBank (s : State) (l : LaneId) (c : Nat) (item : Option (List Byte)) : State :=
  let n := s.frame l
  let b := exchangeBase + s.pdeBank c n
  match item with
  | some pl =>
    if 16 + pl.length ≤ s.hf (PDE_SIZE_SIZE c) then
      (s.lmemSet l (b + 16) pl).lmemSet l b (tagBytes (crc32c pl) 6 pl.length l.idx n)
    else s.lmemSet l b (tagBytes (crc32c []) 6 0 l.idx n)
  | none => s.lmemSet l b (tagBytes (crc32c []) 6 0 l.idx n)

/-- One cyclic output channel in V: its item goes to the bank, or an empty tag does; its CHECK enters OUTDIG (19 R509). -/
def State.stationOut (s : State) (l : LaneId) (passive silent write : Bool) (sent : List (Nat × List Byte)) (c : Nat) : State :=
  let (s, it) := match mapFind sent c with
    | none => (s, none)
    | some pl => s.produce l c passive pl
  let check := match it with | some b => crc32c b | none => 0
  let s := s.updLane l (fun x => { x with rt := { x.rt with pair := { x.rt.pair with digs := x.rt.pair.digs ++ leBytes 4 check } } })
  if write then s.outBank l c (if silent then none else it) else s

/-- The station outputs of V: every cyclic output channel placed on the lane (09 R259, 07 R226). A lane that withholds its
image writes no bank; a silent module writes empty tags (19 R502, R507). With pairing, channel 190 is the heartbeat's. -/
def State.stationOutputs (s : State) (l : LaneId) (passive silent : Bool) : State :=
  if !runMode (s.laneMode l) then s
  else
    let sent := (s.lane l).rt.readySt
    let pair := decide (s.obj 0x7300 1 = 1)
    let chans := pdeChannels.filter (fun c => decide (s.hf (PDE_CFG_MODE c) = 2) && placeHas (s.hf (PDE_CFG_PLACE c)) l
      && !(pair && c == 190))
    let s := s.updLane l (fun x => { x with rt := { x.rt with
      readySt := [], sentSt := sent, pair := { x.rt.pair with digs := [] } } })
    let write := !(s.lane l).rt.withhold
    chans.foldl (fun s c => s.stationOut l passive silent write sent c) s

/-! ### Reset of a connection (R386) -/

/-- Lane `l` returns a failed connection to INIT; the answer is an abort code. -/
def State.connReset (s : State) (l : LaneId) (k src : Nat) : State × Nat :=
  if s.connKind k ≠ 1 ∧ s.connKind k ≠ 3 then (s, 0x0403)
  else if (s.conn l k).st = 3 then
    ((s.connSet l k { s.conn l k with st := 0, errs := [] }).connEvt l k 0x6004 [(1, src)], 0)
  else (s, 0)

/-- CONNECTION_RESET: an authorised host writes 0x6300:00, and every lane that runs acts on it. -/
def execConnectionReset (src k : Nat) (s : State) : Host.Outcome State Fault Refusal :=
  if s.sourceLevel src < 1 then .next s
  else .next (onLanes (fun l s => if s.ticking l then (s.connReset l k src).1 else s) s)

/-! ### The check engine (R394) -/

/-- SLY_CRC_GO: the lane-management core starts a computation; writes of application cores are ignored. -/
def execSlyCrcGo (l : LaneId) (core v : Nat) (s : State) : Host.Outcome State Fault Refusal :=
  if (s.lane l).supplied && decide (core = 4) && bitOf v 0 then .next (s.lfSet l SLY_CRC_GO 1) else .next s

/-- SLY_CRC_DONE: the engine finishes and writes its result, or shows that the range left lane SRAM. A reserved POLY gives a
free value. -/
def execSlyCrcDone (l : LaneId) (s : State) : Host.Outcome State Fault Refusal :=
  if !(s.lane l).supplied || s.lf l SLY_CRC_GO = 0 then .next s
  else
    let at_ := s.lf l SLY_CRC_ADDR
    let n := s.lf l SLY_CRC_LEN
    let s := (s.lfSet l SLY_CRC_GO 0).lfSet l SLY_INT_STAT_DONE 1
    if at_ < 0x08000000 ∨ 0x08800000 < at_ + n then .next (s.lfSet l SLY_STATUS_RANGE 1)
    else
      let s := s.lfSet l SLY_STATUS_RANGE 0
      let bs := s.lmem l at_ n
      let pre := s.lf l SLY_CRC_PRE
      let seed := s.lf l SLY_CRC_SEED
      match s.lf l SLY_CRC_CTL_POLY with
      | 0 => .next (s.lfSet l SLY_CRC_RES (~~~ (corkRun seed (beBytes 4 pre ++ bs))).toNat)
      | 1 => .next (s.lfSet l SLY_CRC_RES (Config.sdtCode seed pre bs))
      | _ => let (w, s) := s.freeWord
             .next (s.lfSet l SLY_CRC_RES w.toNat)

end Sys2Proof.Machine
end

