-- ==== Sys2Proof/Machine/Field.lean ====
section
/-! DEFINITION. The field stage (15): input thresholds and filters, the switches with their dark pulses and findings, the
diagnosis area, the brake loop and the reset input. -/

namespace Sys2Proof.Machine

/-! ### Inputs (R397 to R400) -/

/-- On and off thresholds of a group class in mV (R397). -/
def thresholds : Nat → Option (Nat × Nat)
  | 1 => some (15000, 9000)
  | 2 => some (22500, 13500)
  | 3 => some (30000, 18000)
  | 4 => some (45000, 27000)
  | 5 => some (60000, 36000)
  | 6 => some (68750, 41250)
  | _ => none

/-- The class of the group of input `i`. -/
def State.inputClass (s : State) (l : LaneId) (i : Nat) : Nat := bitsOf (s.lf l DIN_CFG) (4 * (i / 8) + 3) (4 * (i / 8))

/-- The front end reads input `i` (R398). -/
def State.inputUsed (s : State) (l : LaneId) (i : Nat) : Bool :=
  decide (i < 32) && bitOf (s.lf l DIN_USED) i && (thresholds (s.inputClass l i)).isSome

/-- INPUT_THRESHOLD_CROSS: the pin of input `i` stands at `mv`; the lane's comparator follows (R397, R398). -/
def execInputThresholdCross (l : LaneId) (i mv : Nat) (s : State) : Host.Outcome State Fault Refusal :=
  if !(s.lane l).supplied || !s.inputUsed l i then .next s
  else match thresholds (s.inputClass l i) with
    | none => .next s
    | some (on, off) =>
      let v := s.lf l DIN_RAW
      if on ≤ mv then .next (s.lfSet l DIN_RAW (setBit v i true))
      else if mv ≤ off then .next (s.lfSet l DIN_RAW (setBit v i false))
      else .next s

/-- INPUT_FILTER_CHANGE: the comparator of input `i` has held its level for `held` µs; the filter output follows, stamped
`at_` in 100 ns units since the edge (R399, R400). -/
def execInputFilterChange (l : LaneId) (i held at_ : Nat) (s : State) : Host.Outcome State Fault Refusal :=
  if !(s.lane l).supplied || !s.inputUsed l i then .next s
  else
    let raw := bitOf (s.lf l DIN_RAW) i
    let old := s.lf l DIN_FILT
    if held < s.lf l (DIN_DEB i) || bitOf old i == raw then .next s
    else
      let s := (s.lfSet l DIN_FILT (setBit old i raw)).lcount l (DIN_CHG i) 1
      let s := s.lfSet l DIN_INT_STAT_CHG 1
      .next (s.updLane l (fun x => { x with fe := { x.fe with chg := mapInsert (mapErase x.fe.chg i) i at_ } }))

/-- TIME[i] of the latch: the last change in 100 ns units relative to the edge, 0x8000_0000 without one (R119). -/
def State.latchTime (s : State) (l : LaneId) (cycle i : Nat) : Nat :=
  match mapFind (s.lane l).fe.chg i with
  | some t => ofInt 32 (min 0 ((t : Int) - (cycle / 100 : Nat)))
  | none => timeAbsent

/-- The front end's latch at the edge that ends a cycle of `cycle` ns: bytes 16 to 155 of the own image
(R119); bytes 8 to 15 hold the frame number (04 R121). -/
def State.frontLatch (s : State) (l : LaneId) (cycle : Nat) : State :=
  if s.lf l XCH_OWN = 0 then s
  else
    let rec_ := leBytes 4 (s.lf l DIN_FILT) ++ leBytes 4 0 ++ (List.range 32).flatMap (fun i => leBytes 4 (s.latchTime l cycle i))
    let s := s.lmemSet l ((s.lreg l XCH_OWN.reg).toNat + 8) (leBytes 8 (s.frame l) ++ rec_ ++ leBytes 4 (crc32c rec_))
    s.updLane l (fun x => { x with fe := { x.fe with chg := [] } })

/-- An unused input, or one of an unused group, reads 0 and has no filter change (R398). -/
def State.dropUnused (s : State) (l : LaneId) : State :=
  let used := (List.range 32).foldl (fun m i => setBit m i (s.inputUsed l i)) 0
  let s := (s.lfSet l DIN_RAW (nAnd (s.lf l DIN_RAW) used)).lfSet l DIN_FILT (nAnd (s.lf l DIN_FILT) used)
  s.updLane l (fun x => { x with fe := { x.fe with chg := x.fe.chg.filter (fun p => bitOf used p.1) } })

/-- DIN_CFG, filters, dark pulses and brake range from the committed objects (R420). -/
def State.loadField (s : State) (l : LaneId) : State :=
  let s := (List.range 4).foldl (fun s g => s.lfSet l ⟨DIN_CFG.reg, 4 * g + 3, 4 * g⟩ (s.obj 0x5000 (g + 1))) s
  let s := (List.range 32).foldl (fun s i =>
    (s.lfSet l (DIN_DEB i) (s.obj 0x5001 (i + 1))).lfSet l ⟨DIN_USED.reg, i, i⟩ (s.obj 0x5002 (i + 1))) s
  let s := s.lfSet l DOUT_TP (s.obj 0x5102 0 * 1000)
  let s := (List.range 17).foldl (fun s i => s.lfSet l (DOUT_DARK i) (s.obj 0x5101 (i + 1))) s
  let s := (s.lfSet l BRK_RANGE_I_MIN (s.obj 0x5103 1)).lfSet l BRK_RANGE_I_MAX (s.obj 0x5103 2)
  (s.lfSet l DIN_STATUS_RUN 1).dropUnused l

/-- The front end's findings return to none at START (R410, R421). -/
def State.clearFindings (s : State) (l : LaneId) : State :=
  let s := (s.lfSet l DOUT_DIAG_HS 0).lfSet l DOUT_DIAG_LS 0
  s.updLane l (fun x => { x with fe := { x.fe with found := [] }, rt := { x.rt with agDiag := 0, latched := 0 } })

/-! ### Switches (R401 to R405) -/

/-- The voter that drives a side (R37, R38). -/
def voterOf : Side → VoterId
  | .hs => .v1 | .ls => .v2

/-- The voter drives its refresh (R413). -/
def State.refreshes (s : State) (i : VoterId) : Bool :=
  let v := s.voter i
  s.voterUp i && !v.halt && !v.silent && !v.oscFault

/-- The switch of output `o` on a side is closed. -/
def State.closed (s : State) (d : Side) (o : Nat) : Bool :=
  let v := s.voter (voterOf d)
  s.refreshes (voterOf d) && bitOf v.out o && !bitOf v.dark o && !bitOf v.trip o

/-- What a voter's decision at `edge` does to its switches: on since, pulses and trips end with an off decision, refresh runs
again (R403 to R405, R413). -/
def State.driveSwitches (s : State) (i : VoterId) (edge : Nat) : State :=
  let v := s.voter i
  let on := v.out
  let since := (List.range 17).foldl (fun m o =>
    if !bitOf on o then mapErase m o
    else if bitOf v.drove o then m
    else mapInsert (mapErase m o) o edge) v.onSince
  s.voterSet i { v with
    drove := on, onSince := since, dark := nAnd v.dark on, trip := nAnd v.trip on, silent := false }

/-- TP in µs. -/
def State.tpUs (s : State) : Nat := s.obj 0x5102 0 * 1000

/-- T in µs. -/
def State.tUs (s : State) : Nat := s.period / 1000

/-- Position in the test period, in µs, `t` µs after the edge of frame `n` (R404). -/
def State.tpPos (s : State) (n t : Nat) : Nat := n % (s.tpUs / max 1 s.tUs) * s.tUs + t

/-- The slot of output `o` on a side (R404). -/
def slotOf (d : Side) (o : Nat) : Nat :=
  match d with
  | .ls => 2 * o | .hs => 2 * o + 1

/-- Start of slot `k` in µs from the start of the test period. -/
def State.slotStart (s : State) (k : Nat) : Nat := s.tpUs * k / 34

/-- The frame of a voter's own edges. -/
def State.voterFrame (s : State) : VoterId → Nat
  | .v1 => s.hub.frame | .v2 => s.sup.frame

/-- DARK_PULSE_START: at the start of its slot, `t` µs after its last edge, a voter opens a switch that it has held on from
an edge at least 300 µs before (R404). -/
def execDarkPulseStart (d : Side) (o t : Nat) (s : State) : Host.Outcome State Fault Refusal :=
  let i := voterOf d
  let v := s.voter i
  let n := s.voterFrame i
  match mapFind v.onSince o with
  | none => .next s
  | some f =>
    let on := (frameDiff n f).toNat * s.tUs + t
    if s.refreshes i && decide (o < 17) && bitOf v.drove o && decide (300 ≤ on)
        && decide (s.tpPos n t = s.slotStart (slotOf d o)) then
      .next (s.voterSet i { v with dark := setBit v.dark o true })
    else .next s

/-- DARK_PULSE_END: a running pulse ends DARK_i µs after it began (R405). -/
def execDarkPulseEnd (d : Side) (o : Nat) (s : State) : Host.Outcome State Fault Refusal :=
  let i := voterOf d
  .next (s.voterSet i { s.voter i with dark := setBit (s.voter i).dark o false })

/-- SWITCH_OVERLOAD_TRIP: a switch 1 ms in current limit opens by itself; every running front end finds an overload (R403,
R406; event 0x5013). -/
def execSwitchOverloadTrip (d : Side) (o : Nat) (s : State) : Host.Outcome State Fault Refusal :=
  let i := voterOf d
  if decide (16 < o) || !s.closed d o then .next s
  else
    let s := s.voterSet i { s.voter i with trip := setBit (s.voter i).trip o true }
    .next (onLanes (fun l s =>
      if s.ticking l then
        ((s.lfSet l DOUT_DIAG_OVL (setBit (s.lf l DOUT_DIAG_OVL) o true)).lfSet l DOUT_INT_STAT_OVL 1).laneEvt l 0x5013 [(1, o)]
      else s) s)

/-- Voter 2 stops deciding: its refresh stops, and with it the mastership output (R413; 19 R498). -/
def State.lineDrop (s : State) (i : VoterId) : State :=
  if i = .v2 && s.sup.lineOut then
    onLanes (fun l s => if (s.lane l).supplied then s.lfSet l PAIR_STAT_LINE_OUT 0 else s)
      (({ s with sup := { s.sup with lineOut := false } } : State).emit .pairLine 0 0 [])
  else s

/-- VOTER_SILENCE_TIMEOUT: `us` µs without a decision; after 2·T + 100 µs the voter stops the refresh (R413). -/
def execVoterSilenceTimeout (i : VoterId) (us : Nat) (s : State) : Host.Outcome State Fault Refusal :=
  if s.voterUp i && decide (2 * s.tUs + 100 ≤ us) then .next ((s.voterSet i { s.voter i with silent := true }).lineDrop i)
  else .next s

/-- OSCILLATOR_MONITOR_FAULT: a voter's own monitor stops the refresh of its switches (R413). -/
def execOscillatorMonitorFault (i : VoterId) (s : State) : Host.Outcome State Fault Refusal :=
  if s.voterUp i then .next ((s.voterSet i { s.voter i with oscFault := true }).lineDrop i) else .next s

/-! ### Readback and findings (R401, R406) -/

/-- A side of output `o` reads closed on lane `l` (R401). -/
def State.readsClosed (s : State) (l : LaneId) (d : Side) (o : Nat) : Bool :=
  match d with
  | .hs => bitOf (s.lf l DOUT_RB_HS) o
  | .ls => !bitOf (s.lf l DOUT_RB_LS) o

/-- µs since the expected state of output `o` changed, `t` µs after lane `l`'s edge; none when it has not changed since the
lane started. -/
def State.sinceExpected (s : State) (l : LaneId) (o t : Nat) : Option Nat :=
  (mapFind (s.lane l).fe.expChg o).map (fun f => (frameDiff (s.frame l) f).toNat * s.tUs + t)

/-- Findings of output `o` are suspended (20 R518). -/
def State.findingsOff (s : State) (l : LaneId) (o : Nat) : Bool := bitOf (s.lane l).fe.sus (if o = 16 then 1 else 0)

/-- A fault finding of a switch: kinds 1 stuck closed, 2 did not open. -/
def State.switchFault (s : State) (l : LaneId) (d : Side) (o kind : Nat) : State :=
  let f := match d with | .hs => DOUT_DIAG_HS | .ls => DOUT_DIAG_LS
  if bitOf (s.lf l f) o then s
  else
    let s := (s.lfSet l f (setBit (s.lf l f) o true)).lfSet l DOUT_INT_STAT_FAULT 1
    s.updLane l (fun x => { x with fe := { x.fe with found := mapInsert (mapErase x.fe.found (2 * o + d.num)) (2 * o + d.num) kind } })

/-- Both sides of every output. -/
def switches : List (Side × Nat) := (List.range 17).flatMap (fun o => [(.hs, o), (.ls, o)])

/-- Stuck-closed findings, `t` µs after the lane's edge: expected open for 300 µs or more, and reading closed. -/
def State.stuckCheck (s : State) (l : LaneId) (t : Nat) : State :=
  switches.foldl (fun s p =>
    let quiet := match s.sinceExpected l p.2 t with | some u => decide (300 ≤ u) | none => true
    if quiet && !s.findingsOff l p.2 && !bitOf (s.lf l VOT_V2OUT) p.2 && s.readsClosed l p.1 p.2 then
      s.switchFault l p.1 p.2 1
    else s) s

/-- The position `t` µs after the edge lies between the start of the switch's slot and that start + DARK + 100 µs. -/
def State.inSlotWindow (s : State) (l : LaneId) (d : Side) (o t : Nat) : Bool :=
  let pos := s.tpPos (s.frame l) t
  let a0 := s.slotStart (slotOf d o)
  decide (a0 ≤ pos) && decide (pos ≤ a0 + s.lf l (DOUT_DARK o) + 100)

/-- READBACK_CHANGE: new readback states that have held for 20 µs, `t` µs after the lane's edge, are evaluated (R401,
R406). -/
def execReadbackChange (l : LaneId) (hs ls oc t : Nat) (s : State) : Host.Outcome State Fault Refusal :=
  if !s.ticking l then .next s
  else
    let was := switches.filter (fun p => s.readsClosed l p.1 p.2)
    let s := ((s.lfSet l DOUT_RB_HS hs).lfSet l DOUT_RB_LS ls).lfSet l DOUT_RB_OC oc
    let s := was.foldl (fun s p =>
      let o := p.2
      if s.readsClosed l p.1 o || !bitOf (s.lf l VOT_V2OUT) o then s
      else if s.inSlotWindow l p.1 o t then
        let s := s.lcount l DOUT_CNT_PULSES 1
        s.updLane l (fun x => { x with fe := { x.fe with seen := slotOf p.1 o :: x.fe.seen } })
      else
        let quiet := match s.sinceExpected l o t with | some u => decide (300 ≤ u) | none => true
        if quiet && !s.findingsOff l o then
          ((s.lcount l DOUT_CNT_SPURIOUS 1).lfSet l DOUT_INT_STAT_SPUR 1).laneEvt l 0x5012 [(1, l.idx), (1, o), (1, p.1.num)]
        else s) s
    .next (s.stuckCheck l t)

/-- DARK_SLOT_CHECK: after a switch's slot window, `t` µs after the lane's edge, a switch that was expected closed throughout
and never read open did not open (R406). -/
def execDarkSlotCheck (l : LaneId) (d : Side) (o t : Nat) (s : State) : Host.Outcome State Fault Refusal :=
  if !s.ticking l || decide (16 < o) then .next s
  else
    let k := slotOf d o
    let pos := s.tpPos (s.frame l) t
    let after := pos - s.slotStart k
    let seen := (s.lane l).fe.seen.contains k || !s.readsClosed l d o
    let held := match s.sinceExpected l o t with | some u => decide (after + 300 ≤ u) | none => true
    let due := decide (s.slotStart k + s.lf l (DOUT_DARK o) + 100 ≤ pos)
    if !due then .next s
    else
      let s := s.updLane l (fun x => { x with fe := { x.fe with seen := x.fe.seen.filter (· ≠ k) } })
      if bitOf (s.lf l VOT_V2OUT) o && held && !seen && !s.findingsOff l o then .next (s.switchFault l d o 2) else .next s

/-- The front end at an edge: the slot, the end of a test period, overload findings that have ended, and stuck switches of
the cycle that ends (R404, R406; 20 R518: findings resume at a test period). -/
def State.frontEdge (s : State) (l : LaneId) : State :=
  let n := s.frame l
  let p := s.tpUs / max 1 s.tUs
  let s := s.lfSet l DOUT_SLOT (min 33 (s.tpPos n 0 * 34 / max 1 s.tpUs))
  let s := if n % p = 0 then
      let s := s.lfSet l DOUT_INT_STAT_TP 1
      let sus := (s.lane l).fe.sus
      let sus := setBit (setBit sus 0 (bitOf sus 0 && !s.sup.pw.voOk)) 1 (bitOf sus 1 && !s.sup.pw.vbOk)
      s.updLane l (fun x => { x with fe := { x.fe with sus := sus } })
    else s
  s.lfSet l DOUT_DIAG_OVL (nAnd (s.lf l DOUT_DIAG_OVL) (nOr s.v1.trip s.sup.v2.trip))

/-! ### The diagnosis area (R408 to R410) -/

/-- The lane's own diagnosis bits (R408). -/
def State.diagBits (s : State) (l : LaneId) : Nat :=
  s.lf l DOUT_DIAG_HS + s.lf l DOUT_DIAG_LS * 2 ^ 17 + s.lf l DOUT_DIAG_OVL * 2 ^ 34 + s.lf l BRK_PT_FAIL * 2 ^ 51
    + s.lf l BRK_PT_OVERDUE * 2 ^ 52

/-- Address of N item 0 in an image at `base`. -/
def State.nItem (s : State) (l : LaneId) (base : Nat) : Nat :=
  base + 256 + 8 * s.lf l XCH_LAYOUT_B_UNITS + 4 * s.lf l XCH_LAYOUT_T_CNT

/-- The lane runtime writes the diagnosis area into its own image (R408). -/
def State.writeDiag (s : State) (l : LaneId) : State :=
  if s.lf l XCH_OWN = 0 then s
  else
    let base := (s.lreg l XCH_OWN.reg).toNat
    let s := if s.lf l XCH_LAYOUT_B_UNITS = 0 then s else s.lmemSet l (base + 256) (leBytes 8 (s.diagBits l))
    if s.lf l XCH_LAYOUT_N_CNT = 0 then s else s.lmemSet l (s.nItem l base) (leBytes 4 (s.lf l BRK_I))

/-- The agreed diagnosis bits and the agreed brake-loop current. -/
def State.agreedDiag (s : State) (l : LaneId) : Nat := leNat (s.lmem l ((s.lreg l XCH_AGREED.reg).toNat + 256) 8)
def State.agreedCurrent (s : State) (l : LaneId) : Nat := leNat (s.lmem l (s.nItem l (s.lreg l XCH_AGREED.reg).toNat) 4)

/-- The agreed items were formed from two or three values. -/
def State.agreedByTwo (s : State) (l : LaneId) : Bool := decide (2 ≤ laneSetCount (s.lf l XCH_STATUS_USED))

/-- Outputs whose agreed HS or LS fault has become 1 are latched off; a lane with its own finding records it (R410). -/
def State.outputLatch (s : State) (l : LaneId) : State :=
  if !s.agreedByTwo l || s.lf l XCH_LAYOUT_B_UNITS = 0 then s
  else
    let now := bitsOf (s.agreedDiag l) 33 0
    let new := nAndNot now (s.lane l).rt.agDiag
    let s := s.updLane l (fun x => { x with rt := { x.rt with agDiag := now } })
    let s := switches.foldl (fun s p =>
      if bitOf new (p.2 + 17 * p.1.num) then
        match mapFind (s.lane l).fe.found (2 * p.2 + p.1.num) with
        | some 1 => s.laneEvt l 0x5010 [(1, p.2), (1, p.1.num)]
        | some _ => s.laneEvt l 0x5011 [(1, p.2), (1, p.1.num)]
        | none => s
      else s) s
    (List.range 17).foldl (fun s o =>
      if (bitOf new o || bitOf new (o + 17)) && !bitOf (s.lane l).rt.latched o then
        (s.updLane l (fun x => { x with rt := { x.rt with latched := setBit x.rt.latched o true } })).laneEvt l 0x5014 [(1, o)]
      else s) s

/-! ### The brake loop (R414 to R417) -/

/-- Count the cycles in which the agreed current lies out of range while the agreed output is on (R415). -/
def State.brakeCount (s : State) (l : LaneId) : State :=
  let i := s.agreedCurrent l
  let bad := bitOf (s.lf l VOT_V2OUT) 16 && (decide (i < s.lf l BRK_RANGE_I_MIN) || decide (s.lf l BRK_RANGE_I_MAX < i))
  s.updLane l (fun x => { x with rt := { x.rt with
    brkRun := if bad then x.rt.brkRun + 1 else 0, brkRec := bad && x.rt.brkRec } })

/-- BRAKE_CURRENT_OUT_OF_RANGE: 100 consecutive milliseconds out of range record event 0x5030 (R415). -/
def execBrakeCurrentOutOfRange (l : LaneId) (s : State) : Host.Outcome State Fault Refusal :=
  let rt := (s.lane l).rt
  if s.ticking l && !rt.brkRec && decide (100000 ≤ rt.brkRun * s.tUs) && decide (0 < rt.brkRun) then
    let s := s.updLane l (fun x => { x with rt := { x.rt with brkRec := true } })
    .next ((s.lcount l BRK_CNT_RANGE 1).laneEvt l 0x5030 [(4, s.agreedCurrent l)])
  else .next s

/-- The first step of the half-closed test that a list of readings (RB_HS, RB_LS, brake current in mA) fails; 0 when all five
pass (R416). -/
def halfClosedFail : Nat → List (Bool × Bool) → List (Bool × Bool × Nat) → Nat
  | _, [], _ => 0
  | k, _ :: _, [] => k
  | k, e :: es, r :: rs => if e.1 == r.1 && e.2 == r.2.1 && decide (r.2.2 < 20) then halfClosedFail (k + 1) es rs else k

/-- The expected RB_HS and RB_LS of the five steps. -/
def halfClosedSteps : List (Bool × Bool) := [(false, true), (true, true), (false, true), (false, false), (false, true)]

/-- Hours since the last passed proof test. -/
def State.proofHours (s : State) : Nat := s.fld.proofNs / 3600000000000

/-- BRK_PT of lane `l` shows the last proof test and the hours since the last passed one (R416, R417, R421). -/
def State.showProof (s : State) (l : LaneId) : State :=
  let s := (s.lfSet l BRK_PT_PASS (b2n (s.fld.result == 1))).lfSet l BRK_PT_FAIL (b2n (s.fld.result == 2))
  (s.lfSet l BRK_PT_HOURS (min 0xFFFF s.proofHours)).lfSet l BRK_PT_OVERDUE (b2n s.fld.overdue)

/-- What the front end shows at an edge beside its inputs: the levels of the reset and the wake input (R419), and the proof test. -/
def State.showField (s : State) (l : LaneId) : State :=
  ((s.lfSet l DIN_STATUS_RESET (b2n s.sup.rst.level)).lfSet l DIN_STATUS_WAKE (b2n s.sup.pw.wakeIn)).showProof l

/-- The result of a proof test of the brake loop on every lane that runs (R416, R417). -/
def State.proofResult (s : State) (fail : Nat) : State :=
  let ok := decide (fail = 0)
  let s := { s with fld := if ok then { result := 1 } else { s.fld with result := 2 } }
  onLanes (fun l s =>
    if !s.ticking l then s
    else
      let s := s.showProof l
      let s := if ok then s else s.lcount l BRK_CNT_PT_FAIL 1
      s.laneEvt l 0x5031 [(1, b2n (!ok)), (1, fail)]) s

/-- The proof test on request (0x5105:00), accepted only in DEPOT. -/
def State.proofTest (s : State) (rs : List (Bool × Bool × Nat)) : State × Nat :=
  if s.md.mode ≠ .depot then (s, 0x0501) else (s.proofResult (halfClosedFail 1 halfClosedSteps rs), 0)

/-- BRAKE_PROOF_TEST: a request in DEPOT runs the half-closed proof test with the readings it meets. -/
def execBrakeProofTest (src : Nat) (rs : List (Bool × Bool × Nat)) (s : State) : Host.Outcome State Fault Refusal :=
  if s.sourceLevel src < 1 then .next s else .next (s.proofTest rs).1

/-- PROOF_TEST_OVERDUE: more than 0x5104 hours since the last passed proof test; while no lane runs its tick it is judged later
(R417). -/
def execProofTestOverdue (s : State) : Host.Outcome State Fault Refusal :=
  if s.fld.overdue || s.proofHours ≤ s.obj 0x5104 0 || !lanes.any s.ticking then .next s
  else
    let s := { s with fld := { s.fld with overdue := true } }
    .next (onLanes (fun l s => if s.ticking l then (s.showProof l).laneEvt l 0x5032 [(4, min 0xFFFF s.proofHours)] else s) s)

/-! ### The reset input (R418) -/

/-- RESET_INPUT_RISE: a rising edge after `low` µs of low level that the supervisor has observed; it counts from 50 ms on. -/
def execResetInputRise (low : Nat) (s : State) : Host.Outcome State Fault Refusal :=
  if !s.sup.supplied || s.sup.rst.level then .next s
  else
    let s := { s with sup := { s.sup with rst := { s.sup.rst with level := true, counting := decide (50000 ≤ low) } } }
    .next (onLanes (fun l s => if s.ticking l then s.lfSet l DIN_STATUS_RESET 1 else s) s)

/-- RESET_HELD_TIMEOUT: still high 2 s after its rising edge, the pulse is rejected with event 0x5021. -/
def execResetHeldTimeout (s : State) : Host.Outcome State Fault Refusal :=
  if s.sup.supplied && s.sup.rst.level && s.sup.rst.counting then
    .next (({ s with sup := { s.sup with rst := { s.sup.rst with counting := false } } }).supEvt 0x5021 [])
  else .next s

end Sys2Proof.Machine
end

