-- ==== Sys2Proof/Machine/Cooper.lean ====
section
/-! DEFINITION. Self-test, ageing and margin re-planning (18): Cooper runs and row repair, the repair map, the voltage loop,
the projection of f_max, clock re-planning, and the ageing history with its forecast. -/

namespace Sys2Proof.Machine

/-! ### Cooper runs (R472 to R477) -/

/-- Test power of a block in 0.25 W units (R474). -/
def blockPower (k : Nat) : Nat := [16, 16, 16, 16, 8, 6, 4, 10].getD k 0

/-- Duration of a block in ms at a depth: 1 shutdown, 2 quick, 3 full (R474). -/
def blockMs (depth k : Nat) : Nat :=
  if depth = 1 then [400, 400, 400, 400, 300, 400, 60, 0].getD k 0
  else if depth = 2 then [25, 25, 25, 25, 20, 160, 60, 0].getD k 0
  else [2000, 2000, 2000, 2000, 1500, 400, 120, 4000].getD k 0

/-- The blocks of a set (R472), ascending. -/
def setBlocks (set blocks : Nat) : List Nat :=
  if set = 1 ∨ set = 2 then List.range 7
  else if set = 3 then List.range 8
  else if set = 4 then (List.range 5).filter (fun k => bitOf blocks k)
  else if set = 5 then [5]
  else if set = 6 then (List.range 8).filter (fun k => bitOf blocks k)
  else []

/-- The schedule of R474: blocks start in ascending order as soon as the summed test power allows; the end of the last one,
in ms. `run` holds the running blocks as (end, power). -/
def scheduleGo (budget : Nat) : Nat → Nat → List (Nat × Nat) → List (Nat × Nat) → Nat
  | 0, now, _, _ => now
  | n + 1, now, run, todo =>
    match todo with
    | [] => run.foldl (fun a r => max a r.1) now
    | (w, d) :: rest =>
      if (run.map (·.2)).sum + w ≤ budget ∨ run = [] then scheduleGo budget n now ((now + d, w) :: run) rest
      else
        let t := run.foldl (fun a r => min a r.1) (run.headD (now, 0)).1
        scheduleGo budget n t (run.filter (fun r => decide (t < r.1))) todo

/-- Milliseconds that blocks take at a depth and budget (R474). -/
def schedule (budget depth : Nat) (ks : List Nat) : Nat :=
  scheduleGo budget (2 * ks.length + 1) 0 [] (ks.map (fun k => (blockPower k, blockMs depth k)))

/-- Blocks that start at once: the longest run of blocks in ascending order whose power fits the budget. -/
def firstBlocks (budget : Nat) : List Nat → Nat → Nat
  | [], _ => 0
  | k :: ks, used => if used + blockPower k ≤ budget then 2 ^ k + firstBlocks budget ks (used + blockPower k) else 0

/-- Lane `l` is the lane under a commanded test. -/
def State.underTest (s : State) (l : LaneId) : Bool :=
  match s.coo.test with
  | some t => decide (t.lanes.head? = some l.idx)
  | none => false

/-- Whether the shutdown self-test record is valid at this start (03 R101, 18 R481). -/
def State.recordValid (s : State) : Bool :=
  match s.sup.ka.selfTest with
  | none => false
  | some r => s.sup.ka.content && r.valid && decide (r.done = 7) && decide (r.pass = 7)
      && decide (s.sup.ka.rtc - r.time ≤ s.obj 0x1015 0 * 3600000000000)
      && decide (r.fwId = imgId s.runningFw) && decide (r.prgId = imgId s.activeImage)

/-- Lane `l` runs step S3, of a start or alone. -/
def State.inS3 (s : State) (l : LaneId) : Bool :=
  (match s.md.start with
    | some st => decide (st.step = 3) && !inSet st.excluded l || (inSet st.behind l && (match (s.lane l).restart with
        | some (k, _) => decide (k = 3) | none => false))
    | none => false)
  || (match (s.lane l).restart with | some (k, _) => decide (k = 3) | none => false)

/-- The depth of step S3 on lane `l` (R472): quick when the record is valid or the lane is restarted at quick depth. -/
def State.quickS3 (s : State) (l : LaneId) : Bool :=
  match (s.lane l).restart with
  | some (_, q) => q
  | none => s.recordValid

/-- A set is permitted on lane `l` now (R472, 03 R105). -/
def State.cooMay (s : State) (l : LaneId) (set : Nat) : Bool :=
  if set = 1 then
    match s.md.closing with
    | some c => decide (c.step = 3) && decide (c.lane = some l.idx)
    | none => false
  else if set = 2 then s.inS3 l && s.quickS3 l
  else if set = 3 then s.inS3 l && !s.quickS3 l
  else if set ≤ 6 && decide (4 ≤ set) then
    (s.md.life = .factory || s.md.life = .depotOpen) && s.underTest l
      && (match s.coo.test with | some t => decide (t.set = set) | none => false)
  else false

/-- Start a set on lane `l` (R473): the fail log is cleared, the first blocks run. -/
def State.cooStart (s : State) (l : LaneId) (set blocks : Nat) : State :=
  let ks := setBlocks set blocks
  let budget := s.lf l COO_CFG_BUDGET
  let s := s.lfSet l COO_CMD_GO 1
  let s := s.lfSet l COO_STATUS 0
  let s := s.lfSet l COO_STATUS_STATE 1
  let s := s.lfSet l COO_STATUS_SET set
  let s := s.lfSet l COO_STATUS_RUNNING (firstBlocks budget ks 0)
  let s := s.lfSet l COO_RESULT 0
  let s := (List.range 16).foldl (fun s i => s.lregSet l (COO_FLOG i).reg 0) s
  s.updLane l (fun x => { x with coop := { x.coop with plan := schedule budget (min set 3) ks } })

/-- COOPER_GO: a write of COO_CMD by a core; a permitted GO starts the set, any other GO is ignored (R473). -/
def execCooperGo (l : LaneId) (core v : Nat) (s : State) : Host.Outcome State Fault Refusal :=
  if !(s.lane l).supplied || core ≠ 4 then .next s
  else
    let st := s.lf l COO_STATUS_STATE
    let set := bitsOf v 7 4
    let blocks := bitsOf v 15 8
    let s := s.lfSet l COO_CMD_BLOCKS blocks
    let s := if 1 ≤ set ∧ set ≤ 6 then s.lfSet l COO_CMD_SET set else s
    if v % 2 = 1 && (st = 0 || st = 3) && s.cooMay l set then .next (s.cooStart l set blocks) else .next s

/-- The running set of lane `l` stops at its segment end (R493). -/
def State.cooStop (s : State) (l : LaneId) : State :=
  if s.lf l COO_STATUS_STATE = 1 then (s.lfSet l COO_STOP 1).lfSet l COO_STATUS_STATE 2 else s

/-- COOPER_STOP: the management core writes COO_STOP (R493). -/
def execCooperStop (l : LaneId) (core v : Nat) (s : State) : Host.Outcome State Fault Refusal :=
  if (s.lane l).supplied && decide (core = 4) && decide (v % 2 = 1) then .next (s.cooStop l) else .next s

/-- Spare rows of an array (R477). -/
def spareRows (array : Nat) : Nat := if array < 128 then 4 else if array < 138 then 2 else 0

/-- The block of an array. -/
def arrayBlock (array : Nat) : Nat := if array < 128 then 5 else 6

/-- Rows that failed, each once, in the order found. -/
def failRows : List (Nat × Nat × Nat × Nat) → List (Nat × Nat) → List (Nat × Nat)
  | [], acc => acc
  | (a, r, _, _) :: fs, acc => failRows fs (if acc.contains (a, r) then acc else acc ++ [(a, r)])

/-- Lowest free spare of an array. -/
def freeSpare (reps : List (Nat × Nat × Nat)) (array : Nat) : Option Nat :=
  (List.range (spareRows array)).find? (fun k => !reps.any (fun r => r.1 == array && r.2.2 == k))

/-- Assign spares to failing rows (R477, events 0x7010 and 0x7011); the arrays that stay unrepaired. -/
def State.repairRows (s : State) (l : LaneId) (ks : List Nat) : List (Nat × Nat) → State × List Nat
  | [] => (s, [])
  | (a, r) :: rs =>
    if !ks.contains (arrayBlock a) || 138 ≤ a then s.repairRows l ks rs
    else match freeSpare (s.lane l).coop.repairs a with
      | some k =>
        let s := s.updLane l (fun x => { x with coop := { x.coop with repairs := x.coop.repairs ++ [(a, r, k)] } })
        (s.laneEvt l 0x7010 [(1, l.idx), (1, a), (4, r), (1, k)]).repairRows l ks rs
      | none =>
        let (s, bad) := (s.laneEvt l 0x7011 [(1, l.idx), (1, a), (4, r)]).repairRows l ks rs
        (s, a :: bad)

/-- Enter failing bits into the fail log: the first 16 are kept (R476). -/
def State.failLog (s : State) (l : LaneId) (fs : List (Nat × Nat × Nat × Nat)) : State :=
  let s := fs.zipIdx.foldl (fun s p =>
    if p.2 < 16 then
      let (a, r, w, b) := p.1
      let s := s.lfSet l (COO_FLOG_ARRAY p.2) a
      let s := s.lfSet l (COO_FLOG_ROW p.2) r
      let s := s.lfSet l (COO_FLOG_BIT p.2) b
      let s := s.lfSet l (COO_FLOG_WORD p.2) w
      s.lfSet l (COO_FLOG_VALID p.2) 1
    else s) s
  let s := if fs = [] then s else s.lfSet l COO_INT_STAT_FLOG 1
  s.lfSet l COO_STATUS_FLOG_OVF (b2n (decide (16 < fs.length)))

/-- Spares used, of lane SRAM and of the L1 arrays (R493). -/
def State.showSpares (s : State) (l : LaneId) : State :=
  let rs := (s.lane l).coop.repairs
  let s := s.lfSet l COO_SPARES_SRAM (rs.filter (fun r => r.1 < 128)).length
  let s := s.lfSet l COO_SPARES_L1 (rs.filter (fun r => 128 ≤ r.1)).length
  s.cntSet 0x7203 (l.idx + 1) rs.length

/-- The results of a run on lane `l` (R474 to R477, events 0x7003, 0x7004 and 0x7006): repaired rows, the failed blocks, and
the state after it. -/
def State.cooEnd (s : State) (l : LaneId) (r : CooperRun) : State :=
  let set := s.lf l COO_STATUS_SET
  let early := decide (s.lf l COO_STATUS_STATE = 2)
  let ks := setBlocks set (s.lf l COO_CMD_BLOCKS)
  let ended := if early then nAnd r.ended ((ks.map (2 ^ ·)).sum) else (ks.map (2 ^ ·)).sum
  let ran := ks.filter (fun k => bitOf ended k)
  let fails := r.fails.filter (fun f => ran.contains (arrayBlock f.1))
  -- set 0x5 searches the minimum voltage and repairs nothing (R483)
  let s := s.failLog l fails
  let (s, bad) := if set = 5 then (s, (failRows fails []).map (·.1)) else s.repairRows l ran (failRows fails [])
  let bad := bad ++ (r.remain.map (·.1))
  let failed := (ran.filter (fun k =>
    if k ≤ 4 then r.logic.any (fun x => x.1 == k)
    else if k = 7 then r.lpddr
    else bad.any (fun a => decide (a < 138) && arrayBlock a == k)))
  let s := s.lfSet l COO_RESULT ((failed.map (2 ^ ·)).sum)
  let s := match r.logic.find? (fun x => ran.contains x.1) with
    | some (_, m, e) => (s.lfSet l COO_MISR m).lfSet l COO_MISR_EXP e
    | none => s
  let first := fun (k : Nat) =>
    match r.logic.find? (fun x => x.1 == k) with
    | some (_, m, _) => m
    | none => (s.lreg l (COO_FLOG 0).reg).toNat
  let s := failed.foldl (fun s k => s.laneEvt l 0x7003 [(1, set), (1, l.idx), (1, k), (8, first k)]) s
  let pass := !early && failed = []
  let ms := if early || 4 ≤ set then r.ms else (s.lane l).coop.plan
  let s := s.lfSet l COO_STATUS_STATE (if early then 4 else 3)
  let s := s.lfSet l COO_STATUS_RUNNING 0
  let s := s.lfSet l COO_STATUS_DONE ended
  let s := s.lfSet l COO_STATUS_PASS (b2n pass)
  let s := s.lfSet l COO_TIME ms
  let s := s.lfSet l COO_CMD_GO 0
  let s := s.lfSet l COO_STOP 0
  let s := s.lfSet l COO_INT_STAT_DONE 1
  let s := if failed = [] then s else s.lfSet l COO_INT_STAT_FAIL 1
  let s := s.cntSet 0x7202 (l.idx + 1) (b2n pass * 128 + set)
  let s := s.cntSet 0x7202 (l.idx + 4) ms
  let s := s.showSpares l
  let s := if early then
      s.laneEvt l 0x7006 [(1, set), (1, l.idx), (1, (ks.find? (fun k => !bitOf ended k)).getD 0), (1, 0)]
    else s
  if set = 2 || set = 3 then s.laneEvt l 0x7004 [(1, set), (1, l.idx), (1, b2n (!pass)), (4, ms)] else s

/-- After a shutdown self-test: SRAM Vmin, and the voltage floor 60 mV above it (R476, R485, event 0x7020). -/
def State.newFloor (s : State) (l : LaneId) (vmin : Nat) : State :=
  let old := s.lf l AGE_AVS_V_FLOOR
  let new := min 60 (max 20 (vmin + 12))
  let s := (s.lfSet l AGE_VMIN vmin).lfSet l AGE_AVS_V_FLOOR new
  let s := s.lfSet l AGE_AVS_V (max new (s.lf l AGE_AVS_V))
  let s := { s with coo := { s.coo with
    vmin := mapSet 0 s.coo.vmin l.idx vmin
    floor := mapSet 0 s.coo.floor l.idx new } }
  if old + 4 ≤ new then s.laneEvt l 0x7020 [(1, l.idx), (1, old), (1, new)] else s

/-! ### The repair map (R478, R479) -/

/-- Base of a copy of the repair map. -/
def mapBase (k : Nat) : Nat := 0x60C00000 + 0x80000 * k

/-- The sequence number of a copy that verifies. -/
def State.mapSeq (s : State) (k : Nat) : Option Nat :=
  let h := s.mramRead (mapBase k) 64
  if h.take 4 = [0x4F, 0x52, 0x50, 0x4D] ∧ leAt h 60 4 = crc32c (h.take 60) then some (leAt h 4 8) else none

/-- The copy in force: the valid one with the higher sequence number. -/
def State.mapCopy (s : State) : Option (Nat × Nat) :=
  match s.mapSeq 0, s.mapSeq 1 with
  | some x, some y => if x < y then some (1, y) else some (0, x)
  | some x, none => some (0, x)
  | none, some y => some (1, y)
  | none, none => none

/-- The entries of the copy in force. -/
def State.mapEntries (s : State) : List (List Byte) :=
  match s.mapCopy with
  | none => []
  | some (k, _) => (List.range (leNat (s.mramRead (mapBase k + 12) 4) % 32768)).map (fun i => s.mramRead (mapBase k + 64 + 16 * i) 16)

/-- Append an entry: the inactive copy is written whole, then its header with the next sequence number (R478). -/
def State.mapAppend (s : State) (e : List Byte) : State :=
  let es := s.mapEntries ++ [padTo 16 e]
  let (k, q) := match s.mapCopy with | some (k, q) => (1 - k, q + 1) | none => (0, 1)
  let s := s.mramWrite (mapBase k + 64) es.flatten
  let h := [0x4F, 0x52, 0x50, 0x4D] ++ leBytes 8 q ++ leBytes 4 es.length ++ List.replicate 44 0
  s.mramWrite (mapBase k) (h ++ leBytes 4 (crc32c h))

/-- Load a lane's entries into its repair registers before step S3's tests; invalid copies and entries are recorded
(R479, event 0x7012). -/
def State.loadRepairs (s : State) (l : LaneId) : State :=
  let s := [0, 1].foldl (fun s k => if (s.mapSeq k).isNone then s.laneEvt l 0x7012 [(1, k), (4, 0)] else s) s
  let k := match s.mapCopy with | some (k, _) => k | none => 0
  let s := s.updLane l (fun x => { x with coop := { x.coop with repairs := [] } })
  let s := s.mapEntries.zipIdx.foldl (fun s p =>
    let e := p.1
    if leAt e 12 4 ≠ crc32c (e.take 12) then s.laneEvt l 0x7012 [(1, k), (4, p.2)]
    else if byteAt e 0 = l.idx then
      s.updLane l (fun x => { x with coop := { x.coop with repairs := x.coop.repairs ++ [(byteAt e 1, leAt e 2 2, byteAt e 4)] } })
    else s) s
  s.showSpares l

/-- REPAIR_ENTRY_SUBMIT: a lane submits a repair entry through 0x7220:00; every other transport is refused (R478, R495). -/
def execRepairEntrySubmit (src : Nat) (e : List Byte) (s : State) : Host.Outcome State Fault Refusal :=
  if s.hub.supplied && decide (0x20 ≤ src) && decide (src ≤ 0x22) && decide (e.length = 16) then .next (s.mapAppend e) else .next s

/-! ### Voltage loop and projection (R485, R486, R489) -/

/-- Slack as the registers hold it. -/
def slackNat (x : Int) : Nat := ofInt 16 x

/-- Take a measurement of the eight replicas: AGE_CPR and the least slack (R484, R494). -/
def State.replicas (s : State) (l : LaneId) (cpr : List Int) : State :=
  let s := cpr.zipIdx.foldl (fun s p => if p.2 < 8 then s.lfSet l (AGE_CPR p.2) (slackNat p.1) else s) s
  let least := cpr.foldl min (toInt 16 (s.lf l AGE_SLACK))
  s.lfSet l AGE_SLACK (slackNat least)

/-- Show V_MAX and HARD, with the interrupts of their setting (R488, R494). -/
def State.showVmax (s : State) (l : LaneId) (cpr : List Int) : State :=
  let top := decide (s.lf l AGE_AVS_V = 60)
  let hard := top && cpr.any (fun x => decide (x < (s.lf l AGE_AVS_SLACK_HARD : Int)))
  let s := if top && decide (s.lf l AGE_PLAN_VMAX = 0) then s.lfSet l AGE_INT_STAT_VMAX 1 else s
  let s := if hard && decide (s.lf l AGE_PLAN_HARD = 0) then s.lfSet l AGE_INT_STAT_HARD 1 else s
  (s.lfSet l AGE_PLAN_VMAX (b2n top)).lfSet l AGE_PLAN_HARD (b2n hard)

/-- AVS_RAISE: with any replica below SLACK_PLAN the code rises by 1, up to V_MAX (R485). -/
def execAvsRaise (l : LaneId) (cpr : List Int) (s : State) : Host.Outcome State Fault Refusal :=
  if !(s.lane l).supplied then .next s
  else
    let s := s.replicas l cpr
    let v := s.lf l AGE_AVS_V
    let low := cpr.any (fun x => decide (x < (s.lf l AGE_AVS_SLACK_PLAN : Int)))
    let s := if low && decide (v < 60) then s.lfSet l AGE_AVS_V (v + 1) else s
    .next (s.showVmax l cpr)

/-- AVS_LOWER: with every replica above SLACK_PLAN + 20 ps the code falls by 1, never below V_FLOOR (R485). -/
def execAvsLower (l : LaneId) (cpr : List Int) (s : State) : Host.Outcome State Fault Refusal :=
  if !(s.lane l).supplied then .next s
  else
    let s := s.replicas l cpr
    let v := s.lf l AGE_AVS_V
    let high := cpr.all (fun x => decide ((s.lf l AGE_AVS_SLACK_PLAN : Int) + 20 < x))
    let s := if high && decide (s.lf l AGE_AVS_V_FLOOR < v) then s.lfSet l AGE_AVS_V (v - 1) else s
    .next (s.showVmax l cpr)

/-- The operating point of a frequency: the highest one not above it; code 16 is the lowest (R486). -/
def pointOf (mhz : Nat) : Nat := min 16 ((1600 - mhz + 24) / 25)

/-- FMAX_PROJECTION: once per second the worst slack and the junction temperature are projected; in START the point found is
F_ALLOW, afterwards a lower one begins to be held, at the highest point that each reading of the time has stayed at or below (R486;
DEDUCED, log entry 74); below 1.2 GHz the lane leaves and is kept without supply (R489). -/
def execFmaxProjection (l : LaneId) (slack tj : Int) (s : State) : Host.Outcome State Fault Refusal :=
  if !(s.lane l).supplied then .next s
  else
    let f := Config.fmax l.idx slack (s.lf l AGE_AVS_V) tj (s.lf l AGE_PLAN_F_RUN)
    let s := s.lfSet l AGE_TJ (ofInt 16 tj)
    let s := s.cntSet 0x7210 (l.idx + 4) f
    let p := pointOf f
    let now := s.lf l AGE_PLAN_F_ALLOW
    let boot := s.md.mode == .start || (s.lane l).restart.isSome
    let held := match (s.lane l).coop.allow with
      | some (q, n) => some (min q p, n + 1)
      | none => some (p, 1)
    let s := if boot then s.lfSet l AGE_PLAN_F_ALLOW p else s
    let s := s.updLane l (fun x => { x with coop := { x.coop with
      fmax := f
      allow := if boot || p ≤ now then none else held } })
    if f < 1200 && !((s.lane l).out && (s.lane l).rt.leave) then
      let s := s.laneEvt l 0x7032 [(1, l.idx), (2, f)]
      .next (s.updLane l (fun x => { x with out := true, rt := { x.rt with leave := true } }))
    else .next s

/-- F_ALLOW_LOWER: a lower f_allow that has held for 60 consecutive seconds takes effect (R486). -/
def execFAllowLower (l : LaneId) (s : State) : Host.Outcome State Fault Refusal :=
  match (s.lane l).coop.allow with
  | some (p, n) =>
    if 60 ≤ n ∧ s.lf l AGE_PLAN_F_ALLOW < p then
      .next ((s.lfSet l AGE_PLAN_F_ALLOW p).updLane l (fun x => { x with coop := { x.coop with allow := none } }))
    else .next s
  | none => .next s

/-! ### Clock re-planning (R487, R488, R490) -/

/-- The F_RUN code that the supervisor holds. -/
def State.fRun (s : State) : Nat := s.sup.ka.fRun.getD 16

/-- The counted lanes: the members, in SPLIT every supplied lane that is not disregarded (R487). -/
def State.counted (s : State) : Nat :=
  if s.md.mode == .split then nAndNot s.suppliedSet s.sup.v2.disregarded else s.members

/-- AGEING_REPORT: in V of each cycle n with n mod (1 s / T) = 0 the lane sends FRAME, LANE, F_ALLOW and HARD, and the
supervisor keeps it (R487). -/
def execAgeingReport (l : LaneId) (s : State) : Host.Outcome State Fault Refusal :=
  let n := 1000000000 / max 1 s.period
  if s.ticking l && runMode (s.laneMode l) && decide (s.frame l % max 1 n = 0) then
    let r : AgeReport := ⟨s.lf l AGE_PLAN_F_ALLOW, s.lf l AGE_PLAN_F_RUN, decide (s.lf l AGE_PLAN_HARD = 1), s.frame l⟩
    let s := s.emit .report l.idx 2 (leBytes 6 r.frame ++ leBytes 1 l.idx ++ leBytes 1 r.fAllow ++ leBytes 1 (b2n r.hard))
    if s.sup.supplied then
      .next { s with sup := { s.sup with reports := mapInsert (mapErase s.sup.reports l.idx) l.idx r } }
    else .next s
  else .next s

/-- The highest F_ALLOW code that the counted lanes reported, and whether one reported HARD. -/
def State.reported (s : State) : Nat × Bool :=
  (s.sup.reports.filter (fun p => inSet s.counted (laneOf p.1))).foldl
    (fun acc p => (max acc.1 p.2.fAllow, acc.2 || p.2.hard)) (0, false)

/-- At supervisor edge `edge`: the gate of a plan sent at the last edge, or a new plan record (REPLAN_PROPOSE, REPLAN_GATE,
FORCED_REPLAN; R487, R488, event 0x7033). A forced plan below the code in force would raise f_run, so it names that code (DEDUCED, log
entry 75). -/
def State.replanEdge (s : State) (edge : Nat) : State :=
  let none_ := fun (s : State) => { s with sup := { s.sup with replan := none } }
  match s.sup.replan with
  | some r =>
    if !r.forced && r.go.isNone && edge = frameAdd r.frame 1 then
      let switching := match s.rack.switchFrame with
        | some t => decide (0 ≤ frameDiff edge (frameAdd t (frameMod - 2))) && decide (frameDiff edge t ≤ 0)
        | none => false
      let go := decide (nAndNot s.counted r.proven = 0) && decide (s.counted ≠ 0) && !switching
      if go then { s with sup := { s.sup with replan := some { r with go := some true } } }
      else (none_ s).supEvt 0x7033 [(1, r.code), (1, nAndNot s.counted r.proven)]
    else if (r.forced && edge = frameAdd r.frame 1) || (r.go = some true && edge = frameAdd r.frame 2) then
      { s with sup := { s.sup with ka := { s.sup.ka with fRun := some r.code } } }
    else if edge = r.frame then s
    else none_ s
  | none =>
    let (code, hard) := s.reported
    let s := { s with sup := { s.sup with reports := [] } }
    if runMode s.md.mode && (decide (s.fRun < code) || (hard && decide (code ≠ 0))) then
      let s := { s with sup := { s.sup with replan := some ⟨max code s.fRun, edge, hard, 0, 0, none⟩ } }
      let code := max code s.fRun
      onLanes (fun l s =>
        if (s.lane l).supplied then
          let s := s.emit .planRecord l.idx (b2n hard) (leBytes 6 edge ++ leBytes 1 code ++ leBytes 1 (b2n hard))
          s.updLane l (fun x => { x with coop := { x.coop with record := some (code, edge, hard), proof := none } })
        else s) s
    else s

/-- The re-proof of 02 R66 at the proposed clock, from the end of A of cycle q (R487; event 0x1021 when it fails,
DESIGN CHOICE: with the proposed clock, log entry 70). -/
def State.reproof (s : State) (l : LaneId) : State :=
  match (s.lane l).coop.record with
  | some (code, q, false) =>
    if q = s.frame l then
      let p := (s.lane l).prog
      let e := s.endA l
      let f := 1600 - 25 * code
      let hwm := s.lf l TCK_HWM
      let ok := planOk p l e s.period && decide (hwm * s.clockMHz l ≤ safeEnd p l (s.clockMHz l) e)
      let s := if ok then s else s.laneEvt l 0x1021 [(2, f), (4, hwm / 1000)]
      s.updLane l (fun x => { x with coop := { x.coop with proof := some ok } })
    else s
  | _ => s

/-- PROVEN or BLOCKED sent in V of cycle q (R487). -/
def State.sendProof (s : State) (l : LaneId) : State :=
  match (s.lane l).coop.proof, s.sup.replan with
  | some ok, some r =>
    let s := s.updLane l (fun x => { x with coop := { x.coop with proof := none } })
    let s := s.emit .report l.idx 3 (leBytes 6 (s.frame l) ++ leBytes 1 (b2n ok))
    if r.frame = s.frame l then
      { s with sup := { s.sup with replan := some (if ok then { r with proven := nOr r.proven (2 ^ l.idx) }
        else { r with blocked := nOr r.blocked (2 ^ l.idx) }) } }
    else s
  | _, _ => s

/-- A lane's clock moves to a code; the margin at the running clock follows (R487). -/
def State.setClock (s : State) (l : LaneId) (code : Nat) : State := (s.lfSet l AGE_PLAN_F_RUN code).showPlan l

/-- The lane's own AGEING_RECORD_SUBMIT follows a re-plan (R491). CLOCK_MOVE at edge q + 2 after a GO, at q + 1 when forced (R487, R488; events 0x7030, 0x7031 and 0x1020). -/
def State.clockMove (s : State) (l : LaneId) : State :=
  match (s.lane l).coop.record with
  | none => s
  | some (code, q, forced) =>
    let go := match s.sup.replan with
      | some r => decide (r.frame = q) && decide (r.go = some true)
      | none => false
    let n := s.frame l
    if (forced && n = frameAdd q 1) || (!forced && n = frameAdd q 2 && go) then
      let old := s.lf l AGE_PLAN_F_RUN
      let s := s.setClock l code
      let s := s.updLane l (fun x => { x with coop := { x.coop with record := none } })
      let s := s.laneEvt l 0x7030 [(1, old), (1, code), (1, if forced then 2 else 1)]
      let s := if forced then s.laneEvt l 0x7031 [(1, l.idx), (4, ofInt 32 (toInt 16 (s.lf l AGE_SLACK)))] else s
      let s := s.laneEvt l 0x1020 [(2, 1600 - 25 * code), (4, s.lf l TCK_MARGIN_GC / 1000), (4, s.lf l TCK_MARGIN_RUN / 1000)]
      s.lfSet l TCK_HWM 0
    else if n = q || n = frameAdd q 1 || n = frameAdd q 2 then s
    else s.updLane l (fun x => { x with coop := { x.coop with record := none } })

/-- The slot of the `k`-th ageing record: the first 1 024 keep theirs for ever, the rest is a ring. -/
def ageSlot (k : Nat) : Nat := if k < 1024 then k else 1024 + (k - 1024) % 48128

/-- An ageing record carries its own check value, made by the lane (R491); a reader verifies it (01 R30). -/
def ageRecordOk (b : List Byte) : Bool := decide (leAt b 60 4 = crc32c (b.take 60))

/-- The stored ageing records whose check value holds, newest last. -/
def State.ageRecords (s : State) : List (List Byte) :=
  let n := s.coo.recs
  let first := (List.range (min n 1024)).map (fun k => s.mramRead (0x60D00000 + 64 * k) 64)
  let from_ := max 1024 (n - 48128)
  (first ++ (List.range (n - from_)).map (fun i => s.mramRead (0x60D00000 + 64 * ageSlot (from_ + i)) 64)).filter ageRecordOk

/-- The clock at start step S4: the higher of the kept code and the highest F_ALLOW code of the lanes that passed S3 (R490).
DESIGN CHOICE: without the keep-alive content and without a sound record the kept code is 16, the code at which lanes boot; no code above 16
is taken (log entry 69). -/
def State.startClock (s : State) (passed : Nat) : State :=
  let allow := lanes.foldl (fun (m : Nat) (l : LaneId) => if inSet passed l then max m (s.lf l AGE_PLAN_F_ALLOW) else m) 0
  let kept := if s.sup.ka.content then s.sup.ka.fRun.getD 0
    else match s.ageRecords.getLast? with
      | some b => byteAt b 13
      | none => 16
  let code := min 16 (max kept allow)
  let s := { s with sup := { s.sup with ka := { s.sup.ka with fRun := some code } } }
  onLanes (fun l s => if inSet passed l then s.setClock l code else s) s

/-! ### Ageing history and forecast (R491, R492) -/

/-- Write an ageing record into the history (R491). -/
def State.ageAppend (s : State) (b : List Byte) : State :=
  let s := s.mramWrite (0x60D00000 + 64 * ageSlot s.coo.recs) (padTo 64 b)
  { s with coo := { s.coo with recs := s.coo.recs + 1 } }

/-- AGEING_RECORD_SUBMIT: a lane submits an ageing record through 0x7221:00; every other transport is refused (R491, R495). -/
def execAgeingRecordSubmit (src : Nat) (b : List Byte) (s : State) : Host.Outcome State Fault Refusal :=
  if s.hub.supplied && decide (0x20 ≤ src) && decide (src ≤ 0x22) && decide (b.length = 64) then .next (s.ageAppend b) else .next s

/-- Integer cube root, bit by bit from bit `n`. -/
def icbrtGo : Nat → Nat → Nat → Nat
  | 0, _, r => r
  | n + 1, x, r => let t := r + 2 ^ n; icbrtGo n x (if t * t * t ≤ x then t else r)

/-- The sixth root of `t`, in units of 2^−24. -/
def sixthRoot (t : Nat) : Nat := icbrtGo 40 (isqrt (t * 2 ^ 144)) 0

/-- Sums for the fit f0 − b·t^(1/6) over (t, f_max): count, Σx, Σy, Σxx, Σxy. -/
def fitSums : List (Nat × Nat) → Nat × Nat × Nat × Nat × Nat
  | [] => (0, 0, 0, 0, 0)
  | (t, f) :: ps =>
    let (n, sx, sy, sxx, sxy) := fitSums ps
    let x := sixthRoot t
    (n + 1, sx + x, sy + f, sxx + x * x, sxy + x * f)

/-- Hours at which the fit over a lane's records reaches a frequency (R492): none when it does not fall, or never does. -/
def fitReaches (ps : List (Nat × Nat)) (f : Nat) : Option Nat :=
  let (n, sx, sy, sxx, sxy) := fitSums ps
  -- slope −b = num / den with den > 0 for two different times
  let den : Int := (n * sxx : Nat) - (sx * sx : Nat)
  let num : Int := (n * sxy : Nat) - (sx * sy : Nat)
  if den ≤ 0 ∨ 0 ≤ num then none
  else
    -- x with f0 − b x = f: x = (n f − Σy + (num/den) Σx)·den / (n num), in units of 2^−24
    let top : Int := ((n * f : Nat) - (sy : Int)) * den + num * sx
    let x : Int := top / ((n : Int) * num)
    if x ≤ 0 then some 0 else some (x.toNat ^ 6 / 2 ^ 144)

/-- Months of operation, at 730 h, until a lane's fit reaches `f`, from `now` hours on; at most 0xFFFF_FFFE. -/
def monthsTo (ps : List (Nat × Nat)) (now f : Nat) : Nat :=
  match fitReaches ps f with
  | some t => min 0xFFFFFFFE ((t - now) / 730)
  | none => 0xFFFFFFFE

/-- Operating hours. -/
def State.opHours (s : State) : Nat := s.coo.opNs / 3600000000000

/-- The forecasts of R492 from the stored records, and event 0x7040. -/
def State.forecast (s : State) : State :=
  let recs := s.ageRecords
  let own := fun (l : LaneId) => (recs.filter (fun r => byteAt r 12 == l.idx)).map (fun r => (leAt r 8 4, leAt r 20 2))
  if lanes.any (fun l => (own l).length < 30) then (s.cntSet 0x7210 1 0xFFFFFFFF).cntSet 0x7210 2 0xFFFFFFFF
  else
    let fit := fun (l : LaneId) => (own l).filter (fun p => 168 ≤ p.1)
    let months := fun (f : Nat) => lanes.foldl (fun (m : Nat) (l : LaneId) => min m (monthsTo (fit l) s.opHours f)) 0xFFFFFFFE
    let m := months 1200
    let s := (s.cntSet 0x7210 1 m).cntSet 0x7210 2 (months (1600 - 25 * s.fRun - 25))
    let low := decide (m < s.obj 0x7200 3)
    let s := if low && !s.coo.warned then s.allEvt 0x7040 [(4, m)] else s
    { s with coo := { s.coo with warned := low } }

/-- At a start the forecast is judged anew: event 0x7040 at every start while it stays below the warning (R492). -/
def State.forecastStart (s : State) : State := ({ s with coo := { s.coo with warned := false } } : State).forecast

/-- The 64 bytes of a lane's ageing record (R491). -/
def State.ageRecord (s : State) (l : LaneId) (m : AgeMeas) : List Byte :=
  let b := leBytes 6 (s.frame l) ++ leBytes 2 0 ++ leBytes 4 s.opHours
    ++ leBytes 1 l.idx ++ leBytes 1 (s.lf l AGE_PLAN_F_RUN) ++ leBytes 1 (s.lf l AGE_PLAN_F_ALLOW) ++ leBytes 1 m.vMean
    ++ leBytes 2 (ofInt 16 m.slack) ++ leBytes 2 (ofInt 16 m.tj) ++ leBytes 2 (s.lane l).coop.fmax
    ++ leBytes 1 (s.lf l AGE_VMIN) ++ leBytes 1 0 ++ leBytes 4 m.nbti
    ++ leBytes 2 (s.lane l).coop.repairs.length ++ leBytes 2 s.coo.margin ++ leBytes 2 s.sup.pw.eHu ++ leBytes 2 s.sup.pw.esr
    ++ leBytes 2 m.ron ++ leBytes 1 m.ronOut ++ List.replicate 21 0
  b ++ leBytes 4 (crc32c b)

/-- DAILY_AGEING_RECORD: after 24 h of operation the lane takes its measurements and submits its record; the forecasts are
fitted anew (R484, R491, R492; event 0x7042). -/
def execDailyAgeingRecord (l : LaneId) (m : AgeMeas) (s : State) : Host.Outcome State Fault Refusal :=
  let last := mapGet 0 s.coo.daily l.idx
  if !(s.lane l).supplied || !s.hub.supplied || s.coo.opNs < last + 86400000000000 then .next s
  else
    let s := s.lfSet l AGE_NBTI m.nbti
    let s := s.lfSet l AGE_TJ (ofInt 16 m.tj)
    let s := s.cntSet 0x7211 (l.idx + 7) m.nbti
    let s := s.cntSet 0x7212 (m.ronOut + 1) m.ron
    let s := if 2000 < m.ron then s.laneEvt l 0x7042 [(1, m.ronOut), (1, m.ronSide.num), (4, m.ron)] else s
    let s := s.ageAppend (s.ageRecord l m)
    let s := { s with coo := { s.coo with
      daily := mapSet 0 s.coo.daily l.idx (last + 86400000000000)
      ron := mapSet 0 s.coo.ron m.ronOut m.ron } }
    .next s.forecast

/-! ### Commanded tests (R483) -/

/-- The next lane of a commanded test sets LEAVE and is under test. -/
def State.testLane (s : State) : State :=
  match s.coo.test with
  | none => s
  | some t =>
    match t.lanes with
    | [] => { s with coo := { s.coo with test := none } }
    | i :: _ => s.updLane (laneOf i) (fun x => { x with rt := { x.rt with leave := true } })

/-- A commanded test by request 0x7201:00 (R483): abort code 0 when accepted. -/
def State.commandTest (s : State) (src v : Nat) : State × Nat :=
  let set := bitsOf v 7 4
  let ls := (List.range 3).filter (fun i => bitOf v i && (s.lane (laneOf i)).supplied)
  if s.sourceLevel src < 3 then (s, 0x0304)
  else if s.md.mode ≠ .depot || !(s.md.life = .factory || s.md.life = .depotOpen) || s.coo.test.isSome then (s, 0x0501)
  else if set < 4 || 6 < set || v % 8 = 0 || bitsOf v 3 3 ≠ 0 then (s, 0x0403)
  else
    let s : State := { s with coo := { s.coo with test := some ⟨bitsOf v 15 8, set, ls⟩ } }
    (s.testLane, 0)

/-- COMMANDED_TEST: a host writes 0x7201:00 (R483). -/
def execCommandedTest (src v : Nat) (s : State) : Host.Outcome State Fault Refusal := .next (s.commandTest src v).1

/-- The end of a commanded set on lane `l` (R483, event 0x7005): the lane restarts from S2 as after a watchdog cause, and the
next lane's turn comes. -/
def State.commandedEnd (s : State) (l : LaneId) : State :=
  match s.coo.test with
  | none => s
  | some t =>
    if t.lanes.head? = some l.idx then
      let pass := decide (s.lf l COO_STATUS_PASS = 1)
      let s := s.laneEvt l 0x7005 [(1, t.set), (1, l.idx), (1, t.blocks), (1, b2n (!pass))]
      let s := s.laneRestart l 2
      let rest := t.lanes.drop 1
      let s := { s with coo := { s.coo with test := if rest = [] then none else some { t with lanes := rest } } }
      s.testLane
    else s

end Sys2Proof.Machine
end

