-- ==== Sys2Proof/Machine/Power.lean ====
section
/-! DEFINITION. Power, stored energy and supplies (20): the power registers, excursions of the supplies, and the loss of a
die's supply (01 R40). -/

namespace Sys2Proof.Machine

/-- Change the power unit's state. -/
def State.pwSet (s : State) (f : Power → Power) : State := { s with sup := { s.sup with pw := f s.sup.pw } }

/-- Report the supplies through lane `l`'s voter-2 port (R534). -/
def State.showPowerLane (s : State) (l : LaneId) : State :=
  if !(s.lane l).supplied then s
  else
    let p := s.sup.pw
    let s := s.lfSet l PWR_STATUS_MAIN_OK (b2n p.inRange)
    let s := s.lfSet l PWR_STATUS_HOLDUP (b2n p.holdup)
    let s := s.lfSet l PWR_STATUS_OVER (b2n p.overV)
    let s := s.lfSet l PWR_STATUS_VO_OK (b2n p.voOk)
    let s := s.lfSet l PWR_STATUS_VB_OK (b2n p.vbOk)
    let s := s.lfSet l PWR_STATUS_KA_LOW (b2n p.kaLow)
    let s := s.lfSet l PWR_STATUS_TEMP_HI (b2n p.tempHi)
    let s := s.lfSet l PWR_VIN p.vin
    let s := s.lfSet l PWR_PIN p.pin
    let s := s.lfSet l PWR_HU_E_HU p.eHu
    let s := s.lfSet l PWR_HU_E_USE p.eUse
    let s := s.lfSet l PWR_HU_C_C p.cap
    let s := s.lfSet l PWR_HU_C_ESR p.esr
    let s := s.lfSet l PWR_VOUT_VO p.vo
    let s := s.lfSet l PWR_VOUT_VB p.vb
    let s := s.lfSet l PWR_VKA p.vka
    let s := s.lfSet l PWR_TEMP (ofInt 16 p.temp)
    s.lfSet l PWR_DUMP (min 0xFFFF s.sup.ka.lastDump)

/-- Report the supplies on every lane. -/
def State.showPower (s : State) : State := onLanes (fun l s => s.showPowerLane l) s

/-- Set an interrupt cause of the power registers on every supplied lane. -/
def State.powerInt (s : State) (f : Fld) : State :=
  onLanes (fun l s => if (s.lane l).supplied then s.lfSet l f 1 else s) s

/-- VO is out of its range, in 100 mV (R515, R518). -/
def voOut (v : Nat) : Bool := decide (v < 144) || decide (1540 < v)

/-- VB is out of its range, in 100 mV. -/
def vbOut (v : Nat) : Bool := decide (v < 770) || decide (1375 < v)

/-- The front ends suspend the switch findings of outputs 0 to 15 or of output 16 (R518). -/
def State.suspendFindings (s : State) (brake : Bool) : State :=
  onLanes (fun l s => if (s.lane l).supplied then
    s.updLane l (fun x => { x with fe := { x.fe with sus := setBit x.fe.sus (b2n brake) true } }) else s) s

/-- Take a measurement of the supplies (R534). KA_LOW and TEMP_HI end with a value back within its limit; the rows of their excursions
set them, and the rows of VO and VB set those supplies' flags. -/
def State.measureSupplies (s : State) (m : Supply) : State :=
  (s.pwSet (fun p => { p with
    vin := m.vin, pin := m.pin, vo := m.vo, vb := m.vb, vka := m.vka, temp := m.temp
    kaLow := p.kaLow && decide (m.vka < 2200), tempHi := p.tempHi && decide (950 < m.temp) })).showPower

/-- OUTPUT_SUPPLY_OUT_OF_RANGE: VO (`brake` false) or VB leaves its range; the findings are suspended (R518, events 0x9010
and 0x9011). -/
def execOutputSupplyOutOfRange (brake : Bool) (v : Nat) (s : State) : Host.Outcome State Fault Refusal :=
  if !s.sup.supplied || !(if brake then vbOut v else voOut v) then .next s
  else
    let was := if brake then s.sup.pw.vbOk else s.sup.pw.voOk
    let s := s.pwSet (fun p => if brake then { p with vb := v, vbOk := false } else { p with vo := v, voOk := false })
    let s := if was then s.powerInt PWR_INT_STAT_SUPPLY else s
    let s := s.showPower.suspendFindings brake
    .next (s.supEvt (if brake then 0x9011 else 0x9010) [(4, 100 * v)])

/-- OUTPUT_SUPPLY_RESTORED: a supply has been back in range for 100 ms; the findings resume at the next test period (R518,
event 0x9012). -/
def execOutputSupplyRestored (brake : Bool) (v : Nat) (s : State) : Host.Outcome State Fault Refusal :=
  if !s.sup.supplied || (if brake then vbOut v else voOut v) then .next s
  else
    let was := if brake then s.sup.pw.vbOk else s.sup.pw.voOk
    let s := s.pwSet (fun p => if brake then { p with vb := v, vbOk := true } else { p with vo := v, voOk := true })
    let s := if was then s else s.powerInt PWR_INT_STAT_SUPPLY
    let s := s.showPower
    .next (if was then s else s.supEvt 0x9012 [(1, if brake then 2 else 1)])

/-- KEEPALIVE_LOW: VKA falls below 2.2 V; out of STOWED the event is recorded at once, in STOWED the lowest value is kept for
the next start (R536). An input that is already low falls no second time. -/
def execKeepaliveLow (mv : Nat) (s : State) : Host.Outcome State Fault Refusal :=
  if !s.sup.supplied || 2200 ≤ mv then .next s
  else
    let was := s.sup.pw.kaLow
    let s := s.pwSet (fun p => { p with vka := mv, kaLow := true })
    if s.md.mode == .stowed then
      let low := match s.sup.ka.minVka with | some x => min x mv | none => mv
      .next { s with sup := { s.sup with ka := { s.sup.ka with minVka := some low } } }
    else
      let s := s.showPower
      .next (if was || s.obj 0x7410 1 = 0 then s else s.supEvt 0x9006 [(4, mv)])

/-- BOARD_OVERTEMPERATURE: the board is above 95 °C, in 0.1 °C (R532, event 0x9020); nothing else happens. -/
def execBoardOvertemperature (t : Int) (s : State) : Host.Outcome State Fault Refusal :=
  if !s.sup.supplied || t ≤ 950 then .next s
  else
    let was := s.sup.pw.tempHi
    let s := (s.pwSet (fun p => { p with temp := t, tempHi := true })).showPower
    if was then .next s else .next ((s.powerInt PWR_INT_STAT_TEMP).supEvt 0x9020 [(2, ofInt 16 t)])

/-- MAIN_INPUT_OVERVOLTAGE: the main input rises above 154 V to `peak` (10 mV), or comes back after `us`: operation continues
(R517, event 0x9003). -/
def execMainInputOvervoltage (peak : Nat) (us : Option Nat) (s : State) : Host.Outcome State Fault Refusal :=
  if !s.sup.supplied || peak ≤ 15400 then .next s
  else
    match us with
    | none =>
      if s.sup.pw.overV then .next s
      else
        let s := s.pwSet (fun p => { p with overV := true, vin := peak })
        let s := onLanes (fun l s => if (s.lane l).supplied then s.lcount l PWR_CNT_OVER 1 else s) s
        .next (s.powerInt PWR_INT_STAT_OVER).showPower
    | some d =>
      if !s.sup.pw.overV then .next s
      else .next ((s.pwSet (fun p => { p with overV := false })).showPower.supEvt 0x9003 [(4, 10 * peak), (4, d)])

/-- HOLDUP_RECHARGE_DONE: the store is at V_ch again after a bridged interruption (R541). -/
def execHoldupRechargeDone (s : State) : Host.Outcome State Fault Refusal :=
  if s.sup.supplied && s.sup.pw.recharging && s.sup.pw.inRange then
    .next (s.pwSet (fun p => { p with recharging := false, charged := true })).showPower
  else .next s

/-- The charge voltage of the store in 10 mV: min(45.0 V, √(2.38 J / C)), for C in µF (R520). -/
def chargeVolts (c : Nat) : Nat := min 4500 (isqrt (23800000000 / max 1 c))

/-- Energy in mJ that C (µF) gives between two voltages in 10 mV, rounded down (R520). -/
def storeEnergy (c v w : Nat) : Nat := c * (v * v - w * w) / 20000000

/-- HOLDUP_MEASURE in S1 (R520): C, ESR, V_ch, E_hu and E_use, and event 0x9030. -/
def State.holdupMeasure (s : State) (c esr : Nat) : State :=
  let v := chargeVolts c
  let hu := storeEnergy c v 0
  let use := storeEnergy c v 1500
  let s := s.pwSet (fun p => { p with cap := c, esr := esr, vch := v, eHu := hu, eUse := use })
  s.showPower.supEvt 0x9030 [(4, c), (4, esr), (4, hu)]

/-- The minimum of R521 is met. -/
def State.holdupOk (s : State) : Bool := decide (800 ≤ s.sup.pw.eUse) && decide (s.sup.pw.esr ≤ 150)

/-- Take S1's measurement of the store; one below the minimum of R521 is recorded and stays known until the next S1 (03 R90, event
0x9001). -/
def State.holdupTake (s : State) (c esr : Nat) : State :=
  let s := s.holdupMeasure c esr
  let low := !s.holdupOk
  let s := s.pwSet (fun p => { p with lowStore := low })
  if low then s.supEvt 0x9001 [(4, s.sup.pw.cap), (4, s.sup.pw.esr), (4, s.sup.pw.eUse)] else s

/-- The store is charged to V_ch (R520, R541). -/
def State.holdupCharged (s : State) : State := s.pwSet (fun p => { p with charged := true, recharging := false })

/-! ### Loss of supplies -/

/-- The hub loses its supply: MRAM keeps the retained partitions, the stored and retained objects, the cellar book's areas and
the ageing data; every high-side switch opens (01 R40). -/
def State.hubPowerOff (s : State) : State :=
  let s := onLanes (fun l s => if (s.lane l).supplied then
    (s.lfSet l BRG_STATUS_LINK_UP 0).updLane l (fun x => { x with book := {} }) else s) s
  { s with
    hub := { mram := s.hub.mram, bank := s.hub.bank }
    pde := {}
    net := {}
    can := {}
    tb := {}
    v1 := {}
    partners := []
    book := { s.book with ready := false, buckets := [], kept := [], decant := { ffDecanted := s.book.decant.ffDecanted } }
    dict := { s.startValues.dict with pend := [], pendApp := none }
    svc := {} }

/-- The supervisor removes the supply of every lane; the frame number of the last edge is recorded (02 R52). -/
def State.lanesPowerOff (s : State) : State := onLanes (fun l s => s.lanePowerOff l) s

/-- HUB_SUPPLY_LOSS: the hub loses its supply and all high-side switches open (01 R40). -/
def execHubSupplyLoss (s : State) : Host.Outcome State Fault Refusal := .next s.hubPowerOff

/-- The keep-alive domain after both its sources are gone (03 R83, 02 R52): it has lost its content; the banks that the
supervisor works with come from MRAM and the eMMC. -/
def KeepAlive.lost (k : KeepAlive) : KeepAlive :=
  { content := false, life := k.life, progBank := k.progBank, fwBank := k.fwBank
    sel := (((mapSet 0 (mapSet 0 (mapSet 0 [] 0 k.fwBank) 1 k.fwBank) 2 k.fwBank)) |> (mapSet 0 · 3 k.fwBank)) }

/-- SUPERVISOR_SUPPLY_LOSS: all low-side switches open, the mastership line falls, the dump switches close by themselves
(01 R40, 19 R498, 20 R523); without the keep-alive input the domain's content is lost. -/
def execSupervisorSupplyLoss (keepAlive : Bool) (s : State) : Host.Outcome State Fault Refusal :=
  let ka := if keepAlive then s.sup.ka else s.sup.ka.lost
  .next { s with sup := { supplied := false, ka := ka, pw := { dumping := true, wakeIn := s.sup.pw.wakeIn } } }

end Sys2Proof.Machine
end

