-- ==== Sys2Proof/Machine/Closing.lean ====
section
/-! DEFINITION. The closing phase (03 R99 to R102), the controlled dump (20 R523, R524), and the self-test of closing step C3
(18 R480 to R482). -/

namespace Sys2Proof.Machine

/-- Change the closing phase in progress. -/
def State.clUpd (s : State) (f : Closing → Closing) : State :=
  { s with md := { s.md with closing := s.md.closing.map f } }

/-- Show a change of the mode, the life cycle or the closing phase on every supplied lane: a lane that runs its tick takes a new mode
at its own next edge (R87), and only the other flags at once. -/
def State.showMode (s : State) : State :=
  onLanes (fun l s => if s.ticking l then s.loadFlags l else if (s.lane l).supplied then s.loadMode l else s) s

/-- Some lane runs its tick. -/
def State.anyTick (s : State) : Bool := lanes.any (fun l => s.ticking l)

/-! ### Steps C5 and the dump -/

/-- Step C5: the supervisor removes the hub and lane supplies and releases the dump switches (R100, 20 R523); every switch
opens. -/
def State.closingC5 (s : State) : State :=
  let s := s.lanesPowerOff.hubPowerOff
  let s := { s with sup := { s.sup with
    v2 := {}, replan := none, reports := [], lineOut := false
    pw := { s.sup.pw with charged := false, recharging := false, holdup := false, dumping := true } } }
  let s := { s with coo := { s.coo with test := none, closeAfter := none, resetAfter := false } }
  s.clUpd (fun c => { c with step := 5, lane := none })

/-- Step C4 on main input: the record of R481 and event 0x0011; on hold-up the record is only marked invalid. -/
def State.closingC4 (s : State) : State :=
  match s.md.closing with
  | none => s
  | some c =>
    let r : SelfTestRec := ⟨c.pass, c.done, s.sup.ka.rtc, imgId s.runningFw, imgId s.activeImage, c.ms, c.valid && !c.holdup⟩
    let s := { s with sup := { s.sup with ka := { s.sup.ka with selfTest := some r } } }
    let ok := r.valid && decide (c.done = 7) && decide (c.pass = 7)
    let s := if c.holdup then s else s.supEvt 0x0011 [(1, b2n (!ok)), (4, c.ms)]
    (s.bookRelease).closingC5

/-! ### Step C3 (18 R480) -/

/-- The supervisor grants the shutdown self-test to lane `i`; a lane without supply is supplied for it. -/
def State.grantC3 (s : State) (i : Nat) : State :=
  let l := laneOf i
  let s := if (s.lane l).supplied then s else (s.powerLane l).showLone l
  s.clUpd (fun c => { c with step := 3, lane := some i, c3At := if c.step = 3 then c.c3At else s.sup.ka.rtc })

/-- Cooper of lane `l` stops at once without a result (R482). -/
def State.cooKill (s : State) (l : LaneId) : State :=
  let st := s.lf l COO_STATUS_STATE
  if st = 1 || st = 2 then
    let s := s.lfSet l COO_STATUS_STATE 4
    let s := s.lfSet l COO_STATUS_RUNNING 0
    (s.lfSet l COO_CMD_GO 0).lfSet l COO_STOP 0
  else s

/-- A set of Cooper runs on lane `l`. -/
def State.cooRuns (s : State) (l : LaneId) : Bool :=
  let st := s.lf l COO_STATUS_STATE
  (s.lane l).supplied && (st = 1 || st = 2)

/-- The shutdown self-test ends early: the running lane stops at its segment end, or with no lane running C4 follows (R480,
R482). -/
def State.endC3Early (s : State) : State :=
  match s.md.closing with
  | none => s
  | some c =>
    let s := s.clUpd (fun c => { c with valid := false, early := true })
    match c.lane with
    | some i => if s.cooRuns (laneOf i) then s.cooStop (laneOf i) else s.closingC4
    | none => s.closingC4

/-- The run of the granted lane has ended: the floor follows from its Vmin, and the next lane or C4 follows (R480, R485). -/
def State.c3RunDone (s : State) (l : LaneId) (vmin : Nat) : State :=
  let full := decide (s.lf l COO_STATUS_STATE = 3)
  let pass := decide (s.lf l COO_STATUS_PASS = 1)
  let s := if bitOf (s.lf l COO_STATUS_DONE) 5 then s.newFloor l vmin else s
  let s := s.clUpd (fun c => { c with
    done := nOr c.done (if full then 2 ^ l.idx else 0)
    pass := nOr c.pass (if full && pass then 2 ^ l.idx else 0)
    ms := c.ms + s.lf l COO_TIME
    valid := c.valid && full })
  if full && l.idx < 2 then s.grantC3 (l.idx + 1) else s.closingC4

/-! ### Steps C1 and C2 -/

/-- The final snapshot of lane `l`: every marked block begins to be committed (07 R218, 03 R100). -/
def State.finalSnapshot (s : State) (l : LaneId) : State :=
  let r := (s.lane l).ret
  if r.step ≠ 0 || r.marked = [] || !(s.lane l).supplied then s
  else
    let all := r.marked.take 240
    let snap := all.map (fun k => (k, mapGet (List.replicate 252 0) r.blocks k))
    (s.updLane l (fun x => { x with ret := { x.ret with
      marked := r.marked.filter (fun k => !all.contains k), seq := s.frame l, snap := snap } })).retainedBegin l

/-- The retained commits of step C2 are complete on every supplied lane. -/
def State.c2Complete (s : State) : Bool :=
  lanes.all (fun l => !(s.lane l).supplied || (decide ((s.lane l).ret.step = 0) && decide ((s.lane l).ret.marked = [])))

/-- The end of step C2: the flag is set, frame number and mode go to the keep-alive domain; then C3, or on hold-up C4 and C5. -/
def State.endC2 (s : State) : State :=
  match s.md.closing with
  | none => s
  | some c =>
    let ka := s.sup.ka
    let s := { s with sup := { s.sup with ka := { ka with
      commitFlag := true, lastFrame := s.modFrame, modeAtClosing := s.md.mode.code } } }
    if c.holdup then (s.storedSet 0x7401 3 (leBytes 4 (s.obj 0x7401 3 + 1))).closingC4
    else (s.relayArm false).grantC3 0

/-- Pending counts of the rate limits become summary records in step C2 (17 R462). -/
def State.bookSummaries (s : State) : State :=
  s.book.buckets.foldl (fun s p =>
    if p.2.pending = 0 || !s.book.ready then s
    else
      let s := s.bookWrite p.2.lastFrame p.1 0 p.2.pending 8 true false []
      s.bucketSet p.1 { p.2 with pending := 0 }) s

/-- Step C2 begins: event 0x0010, the final retained commit, and every held submission is processed (R100, 17 R458). -/
def State.beginC2 (s : State) : State :=
  match s.md.closing with
  | none => s
  | some c =>
    let s := s.clUpd (fun c => { c with step := 2 })
    let s := s.supEvt 0x0010 [(1, c.trigger), (1, b2n c.holdup)]
    let s := s.bookRelease.bookSummaries
    let s := onLanes (fun l s => s.finalSnapshot l) s
    if s.c2Complete then s.endC2 else s

/-- Step C1 on hold-up: voter 2 opens every low-side switch at once, every lane stops its application cores and sends an
all-off image in the current cycle; C2 starts at the trigger (R100). -/
def State.closeOnHoldup (s : State) : State :=
  let s := (s.voterSet .v2 { s.sup.v2 with out := 0 }).driveSwitches .v2 s.sup.frame
  let s := onLanes (fun l s =>
    if s.ticking l then
      (s.updLane l (fun x => { x with tick := { x.tick with stopped := true } })).sendImages l true
    else s) s
  s.beginC2

/-- The closing phase begins (R99, R100): a start or a mode change that was due gives way to it (R85). -/
def State.closeNow (s : State) (trigger : Nat) (holdup : Bool) : State :=
  let ds := s.md.due
  let s := ds.foldl (fun s d => s.notActed (causePriority d.cause) 1) { s with md := { s.md with due := [] } }
  let s := s.decantEnd 6
  let n := s.modFrame
  let s := { s with md := { s.md with
    start := none
    closing := some ⟨1, trigger, holdup, frameAdd n 2, none, 0, 0, 0, true, 0, false⟩ } }
  let s := s.showMode
  if holdup then s.closeOnHoldup else if s.anyTick then s else s.beginC2

/-- A closing trigger: 1 wake input withdrawn, 2 main input lost, 3 request, 4 RETIRED (R99). A running segment of Cooper ends
first in S3 or a commanded test (18 R482). -/
def State.closingTrigger (s : State) (trigger : Nat) (holdup : Bool) : State :=
  if s.md.mode == .stowed || s.md.closing.isSome || !s.sup.supplied then s
  else if lanes.any (fun l => s.cooRuns l) then
    let s := onLanes (fun l s => if s.cooRuns l then s.cooStop l else s) s
    { s with coo := { s.coo with closeAfter := some (trigger, holdup) } }
  else s.closeNow trigger holdup

/-- The main input is lost during a closing phase that runs on it: the rest runs on hold-up (R100, 18 R482). -/
def State.closingLosesInput (s : State) : State :=
  match s.md.closing with
  | none => s
  | some c =>
    if c.holdup || c.step = 5 then s
    else
      let s := s.clUpd (fun c => { c with holdup := true, valid := false })
      if c.step = 1 then s.closeOnHoldup
      else if c.step = 2 then s
      else
        let s := onLanes (fun l s => s.cooKill l) s
        s.closingC4

/-- The closing phase at an edge of frame `n`: C1 ends at the second edge after the trigger, C2 when every commit is complete. -/
def State.closingEdge (s : State) (n : Nat) : State :=
  match s.md.closing with
  | none => s
  | some c =>
    if c.step = 1 && frameGe n c.c1End then s.beginC2
    else if c.step = 2 then
      let s := onLanes (fun l s => s.finalSnapshot l) s
      if s.c2Complete then s.endC2 else s
    else s

/-- C3_TIME_LIMIT: 0x7200:02 s have passed since C3 began, in ms: the running lane stops at its segment end and the record is
invalid (18 R480). -/
def execC3TimeLimit (ms : Nat) (s : State) : Host.Outcome State Fault Refusal :=
  match s.md.closing with
  | some c => if c.step = 3 && s.obj 0x7200 2 * 1000 ≤ ms then .next s.endC3Early else .next s
  | none => .next s

/-- The wake input, low for `sec` s, has been withdrawn for longer than the shutdown delay. When the start was accepted with the input
low and it has stayed low, the delay runs from the first edge (R104). -/
def State.withdrawnLong (s : State) (sec : Nat) : Bool :=
  if s.md.lowStart then
    match s.md.wakeOff with
    | some t => decide (s.obj 0x1014 0 * 1000000000 < s.sup.ka.rtc - t)
    | none => false
  else decide (s.obj 0x1014 0 < sec)

/-- WAKE_WITHDRAWN_TIMEOUT: the wake input has been low for `sec` s; beyond the shutdown delay it triggers closing (R99, R104). -/
def execWakeWithdrawnTimeout (sec : Nat) (s : State) : Host.Outcome State Fault Refusal :=
  let s := s.pwSet (fun p => { p with wakeIn := false })
  if s.obj 0x1016 1 = 1 && s.withdrawnLong sec then .next (s.closingTrigger 1 false) else .next s

end Sys2Proof.Machine
end

