-- ==== Sys2Proof/Machine/Cellar.lean ====
section
/-! DEFINITION. The cellar book's own commands (17): submissions, token gains, recovery, decanting, unfreezing and reopening;
and the removal of the SD card (08 R233). -/

namespace Sys2Proof.Machine

/-! ### Recovery (R465) -/

/-- Walk the running ring from a SEQ on while the slots hold the expected records, completing their other copies. -/
def bookWalk : Nat → Book → Book
  | 0, b => b
  | n + 1, b =>
    match mapFind b.ring (b.next % ringSize) with
    | some r =>
      if r.seq = b.next then
        let ff := if b.ffFull then b.ff else putSlot b.ff (b.next - b.ffBase) r
        let tail := if b.frozen then b.tail else putSlot b.tail (b.next % tailSize) r
        bookWalk n { b with next := b.next + 1, ff := ff, tail := tail }
      else b
    | none => b

/-- CBK_RECOVERY at hub start: from the SEQ of the control copy the ring is walked; buckets start full, READY is set, and
waiting submissions are processed (R461, R465). -/
def State.bookRecover (s : State) : State :=
  let b := bookWalk 2048 { s.book with next := s.book.ctlSeq }
  let kept := b.kept
  let s := { s with book := { b with ready := true, buckets := [], kept := [], trigIgn := 0, summaries := 0 } }
  let s := kept.foldl (fun s e => s.bookProcess e.frame e.code e.partner 0 8 e.data) s
  s.bookRelease

/-! ### Submission and tokens -/

/-- The submission in CBK_SUB0 to CBK_SUB8 with the word written to CBK_SUB9 (R457). -/
def State.submission (s : State) (l : LaneId) (v : Nat) : Submission :=
  let b := (List.range 9).flatMap (fun i => leBytes 4 (s.lreg l (CBK_SUB i).reg).toNat) ++ leBytes 4 v
  ⟨leAt b 0 6, leAt b 6 2, byteAt b 8, slice b 12 28⟩

/-- CBK_SUBMIT: the lane-management core writes CBK_SUB9 (R457). -/
def execCbkSubmit (l : LaneId) (core v : Nat) (s : State) : Host.Outcome State Fault Refusal :=
  if (s.lane l).supplied && decide (core = 4) then .next (s.bookSubmit l (s.submission l v)) else .next s

/-- CBK_TOKEN_GAIN: REFILL · 1 s / T frames after the last one a listed code gains a token; with a pending count the token is
taken at once for a summary record (R461, R462). -/
def execCbkTokenGain (code : Nat) (s : State) : Host.Outcome State Fault Refusal :=
  match s.rateOf code with
  | none => .next s
  | some (burst, refill) =>
    let k := s.bucket code burst
    let step := s.framesOf refill
    if !s.book.ready || burst ≤ k.tokens || frameDiff s.hub.frame k.since < (step : Int) then .next s
    else
      let k := { k with since := frameAdd k.since step }
      if k.pending = 0 then .next (s.bucketSet code { k with tokens := k.tokens + 1 })
      else
        let s := s.bucketSet code { k with pending := 0 }
        .next (s.bookWrite k.lastFrame code 0 k.pending 8 true false [])

/-! ### Decanting (R466 to R469) -/

/-- Oldest and newest SEQ present in an area: 0 running ring, 1 first-fill partition, 2 tail ring (R466, R468). -/
def State.areaRange (s : State) (area : Nat) : Nat × Nat :=
  let b := s.book
  if area = 0 then (max 1 (b.next - ringSize), b.next - 1)
  else if area = 1 then (b.ffBase, b.ffBase + b.ffCount - 1)
  else
    let last := if b.frozen then b.frozenAt else b.next - 1
    (b.tail.foldl (fun m p => min m p.2.seq) last, last)

/-- Record `q` of an area (R466). -/
def State.areaRecord (s : State) (area q : Nat) : Option BookRec :=
  let r := if area = 0 then mapFind s.book.ring (q % ringSize)
    else if area = 1 then mapFind s.book.ff (q - s.book.ffBase)
    else mapFind s.book.tail (q % tailSize)
  match r with
  | some r => if r.seq = q then some r else none
  | none => none

/-- The decant file of a range (R468); none when a record is no longer present. -/
def State.decantFile (s : State) (d : Decant) : Option (List Byte) :=
  let rs := (List.range d.count).map (fun i => s.areaRecord d.area (d.first + i))
  if rs.any (·.isNone) then none
  else
    let h := [0x4F, 0x43, 0x42, 0x4B] ++ leBytes 2 1 ++ leBytes 1 d.area ++ [0] ++ padTo 8 (s.objBytes 0x0002 0)
      ++ leBytes 8 d.first ++ leBytes 4 d.count ++ leBytes 4 0 ++ leBytes 6 d.reqFrame ++ leBytes 2 0
      ++ leBytes 8 d.reqTime ++ List.replicate 12 0
    let h := h ++ leBytes 4 (crc32c h)
    let body := h ++ (rs.filterMap id).flatMap recordBytes
    some (body ++ sha512 body)

/-- Rights and modes of a decant request (R467): 0, or the abort code. -/
def State.decantRefused (s : State) (src : Nat) : Nat :=
  let m := s.md.mode
  let need := if m == .depot then 1 else 2
  if m == .stowed || m == .start || s.md.closing.isSome then 0x0501
  else if s.sourceLevel src < need then 0x0304
  else if s.book.decant.active || !s.book.ready then 0x0501
  else 0

/-- A decant request: the range is fixed now (R467, R468). -/
def State.decantRequest (s : State) (src : Nat) (toSd : Bool) : State × Nat :=
  let code := s.decantRefused src
  if code ≠ 0 then (s, code)
  else
    let area := s.obj 0x7110 2
    let (lo, hi) := s.areaRange area
    let first := if s.obj 0x7110 3 = 0 then lo else s.obj 0x7110 3
    let count := if s.obj 0x7110 4 = 0 then hi + 1 - first else s.obj 0x7110 4
    if !toSd && 4096 < count then (s, 0x0501)
    else
      let inside := decide (1 ≤ count) && decide (lo ≤ first) && decide (first + count ≤ hi + 1)
      let d : Decant := ⟨inside, toSd, area, first, count, if inside then 1 else 4, src, s.hub.frame, s.discTime, [], s.book.decant.ffDecanted⟩
      let s := { s with book := { s.book with decant := d } }
      (if inside then s else s.bookInt CBK_INT_STAT_DECANT, 0)

/-- DECANT_TO_SD: request 0x01 (R467, R469). -/
def execDecantToSd (src : Nat) (s : State) : Host.Outcome State Fault Refusal := .next (s.decantRequest src true).1

/-- DECANT_TO_SERVICE: request 0x02. -/
def execDecantToService (src : Nat) (s : State) : Host.Outcome State Fault Refusal := .next (s.decantRequest src false).1

/-- DECANT_COMPLETE: the decant ends; `card` is what the card did with the file: 0 written, 2 failed, 3 the name exists
(R469). -/
def execDecantComplete (card : Nat) (s : State) : Host.Outcome State Fault Refusal :=
  let d := s.book.decant
  if !d.active then .next s
  else
    match s.decantFile d with
    | none => .next (s.decantEnd 5)
    | some f =>
      let code := if d.toSd && (card = 2 || card = 3) then card else 0
      if code ≠ 0 then .next (s.decantEnd code)
      else
        let whole := decide (d.area = 1) && decide (d.first = s.book.ffBase) && decide (d.count = s.book.ffCount)
        let s := if d.toSd then s.emit .file d.area d.first f else s
        let s := { s with book := { s.book with decant := { d with
          file := if d.toSd then [] else f
          ffDecanted := d.ffDecanted || whole } } }
        let s := (s.storedSet 0x7110 6 (leBytes 8 d.reqFrame)).storedSet 0x7110 7 (leBytes 1 d.host)
        .next (s.decantEnd 0)

/-- Request 0x03: unfreeze the tail ring (R467). -/
def State.unfreeze (s : State) (src : Nat) : State × Nat :=
  if s.md.mode == .stowed || s.md.mode == .start then (s, 0x0501)
  else if s.sourceLevel src < 2 then (s, 0x0304)
  else ({ s with book := { s.book with
    freeze := 0, counting := false, postLeft := 0, frozen := false, ctlSeq := s.book.next } }, 0)

/-- UNFREEZE_TAIL. -/
def execUnfreezeTail (src : Nat) (s : State) : Host.Outcome State Fault Refusal := .next (s.unfreeze src).1

/-- Request 0x04: reopen the first-fill partition after a decant of all of it (R467). -/
def State.reopenFf (s : State) (src : Nat) : State × Nat :=
  if s.md.mode ≠ .depot || s.md.life ≠ .depotOpen then (s, 0x0501)
  else if s.sourceLevel src < 3 then (s, 0x0304)
  else if !s.book.decant.ffDecanted then (s, 0x0501)
  else ({ s with book := { s.book with
    ffBase := s.book.next, ffCount := 0, ffFull := false, ff := [], ctlSeq := s.book.next } }, 0)

/-- REOPEN_FIRST_FILL. -/
def execReopenFirstFill (src : Nat) (s : State) : Host.Outcome State Fault Refusal := .next (s.reopenFf src).1

/-- A decant-object request by value (R467, R471). -/
def State.bookRequest (s : State) (src v : Nat) : State × Nat :=
  match v with
  | 1 => s.decantRequest src true
  | 2 => s.decantRequest src false
  | 3 => s.unfreeze src
  | 4 => s.reopenFf src
  | _ => (s, 0x0403)

/-- SD_CARD_REMOVAL: staging from the card stops with code 0x02, a decant to the card ends with result 0x02 (08 R233, R469). -/
def execSdCardRemoval (s : State) : Host.Outcome State Fault Refusal :=
  let s := if s.rack.state = 1 && s.rack.fromSd then s.copyFailed 2 else s
  .next (if s.book.decant.toSd then s.decantEnd 2 else s)

end Sys2Proof.Machine
end

