-- ==== Sys2Proof/Machine/Start.lean ====
section
/-! DEFINITION. The start sequence (03 R88 to R95), wake sources (R103, R104), mode and life-cycle requests (R86, R106, R109),
the reset input's effect (R96), and the excursions of the main input that change the mode (20 R517, R538, R540). -/

namespace Sys2Proof.Machine

/-- Change the start in progress. -/
def State.stUpd (s : State) (f : StartState → StartState) : State :=
  { s with md := { s.md with start := s.md.start.map f } }

/-- The start in progress. -/
def State.st (s : State) : StartState := s.md.start.getD {}

/-- The lanes that have supply and are not excluded from the start. -/
def State.passing (s : State) : Nat :=
  laneSet (fun l => (s.lane l).supplied && !inSet s.st.excluded l && !inSet s.st.behind l)

/-! ### Loading the committed configuration (R88 S4, 02 R77, 06 R196) -/

/-- An output's classes as VOT_CLS0 and VOT_CLS1, and the SPLIT owners as VOT_SPOWN, from 0x1140 and 0x1142. -/
def State.clsWord (s : State) (half : Nat) : Nat :=
  (List.range 8).foldl (fun a i => a + s.obj 0x1140 (8 * half + i + 1) % 16 * 16 ^ i) 0
def State.ownWord (s : State) : Nat := (List.range 16).foldl (fun a i => a + s.obj 0x1142 (i + 1) % 4 * 4 ^ i) 0

/-- The deadlines D_S = T − 65 µs and D_N = T − 50 µs in the lane's registers (02 R60). -/
def State.loadDeadlines (s : State) (l : LaneId) : State :=
  (s.lfSet l TCK_DL_SAFE (s.period - 65000)).lfSet l TCK_DL_NS (s.period - 50000)

/-- The six shadow-set values that the objects of channel `c` give (09 R283). -/
def State.chanSetting (s : State) (c : Nat) : List Nat := (List.range 6).map (fun i => s.obj (chanObj c 0) (i + 1))

/-- The lane-management core writes the channels of the committed configuration into the lane's shadow sets, and arms those that
are placed on the lane and differ from the setting in force, or were stopped with the lane (09 R277, R279). Channel 191 is the
hub's own (16 R446). -/
def State.loadShadow (s : State) (l : LaneId) : State :=
  (List.range 191).foldl (fun s c =>
    let v := s.chanSetting c
    let now := [PDE_CFG c, PDE_SRC c, PDE_WIN c, PDE_BANK0 c, PDE_BANK1 c, PDE_SIZE c].map (fun f => (s.hreg f.reg).toNat)
    let regs := [PDE_SH_CFG c, PDE_SH_SRC c, PDE_SH_WIN c, PDE_SH_BANK0 c, PDE_SH_BANK1 c, PDE_SH_SIZE c]
    let s := (regs.zip v).foldl (fun s p => s.lregSet l p.1.reg (BitVec.ofNat 64 p.2)) s
    let place := bitsOf (v.getD 0 0) 27 26
    let mine := place == 0 || place == l.idx + 1
    if mine && (decide (v ≠ now) || (place != 0 && decide (bitsOf (v.getD 0 0) 31 28 ≠ 0))) then s.lfSet l (PDE_ARM c) 1 else s) s

/-- One verify-list entry (04 R115) for a channel's setting: banks, size, KIND and PORT. -/
def ventryBytes (v : List Nat) : List Byte :=
  leBytes 4 (v.getD 3 0) ++ leBytes 4 (v.getD 4 0) ++ leBytes 4 (bitsOf (v.getD 5 0) 20 0)
    ++ leBytes 4 (bitsOf (v.getD 1 0) 31 16 * 65536)

/-- The lane-management core writes one verify-list entry for each cyclic input channel placed on the lane, in channel order, at
the base that XCH_VLIST holds (09 R258); with no base set the list stays as it is. -/
def State.loadVerify (s : State) (l : LaneId) : State :=
  if s.vlist l = 0 then s
  else
    let sets := (List.range 191).map s.chanSetting ++ [relaySet]
    let mine := fun (v : List Nat) =>
      let place := bitsOf (v.getD 0 0) 27 26
      decide (bitsOf (v.getD 0 0) 31 28 = 1) && (place == 0 || place == l.idx + 1)
    let es := sets.filter mine
    ((s.lmemSet l (s.vlist l) (es.flatMap ventryBytes)).lfSet l XCH_VCOUNT es.length).checkVlist l

/-- A lane takes the committed configuration into its registers. -/
def State.loadConfig (s : State) (l : LaneId) : State :=
  let s := s.lfSet l TCK_CFG_PERIOD (s.obj 0x1100 0)
  let s := s.lfSet l TCK_CFG_AIMG_KIB (s.obj 0x1120 1)
  let s := s.lfSet l TCK_SYNC (s.obj 0x1103 0 % 2 ^ 24 + s.obj 0x1104 0 * 2 ^ 24)
  let s := s.loadDeadlines l
  let s := s.lfSet l XCH_LAYOUT (s.obj 0x1120 2)
  let s := s.lfSet l XCH_CFG_DIS_LIM (s.obj 0x1120 3)
  let s := s.lfSet l VOT_CTL_WH_LIM (s.obj 0x1141 1)
  let s := s.lfSet l VOT_CTL_WD_LIM (s.obj 0x1141 2)
  let s := s.lfSet l VOT_CTL_SPLIT (b2n (s.obj 0x1010 0 == 5))
  let s := s.lfSet l VOT_CLS0 (s.clsWord 0)
  let s := s.lfSet l VOT_CLS1 (s.clsWord 1)
  let s := s.lfSet l VOT_SPOWN s.ownWord
  let s := s.lfSet l VOT_SCFG_SLICE_KIB (s.obj 0x1141 4)
  let s := s.lfSet l PAIR_CFG_SHADOW_N (s.obj 0x7300 8)
  let s := s.updLane l (fun x => { x with tick := { x.tick with cycleLen := s.period } })
  ((s.loadField l).loadShadow l).loadVerify l

/-- Voter 1 takes MAPID and the limits from the committed objects at START (06 R195, R197). -/
def State.loadVoter1 (s : State) : State :=
  let c0 := s.clsWord 0
  let c1 := s.clsWord 1
  let own := s.ownWord
  let s := { s with v1 := { s.v1 with
    classes := c0 + c1 * 2 ^ 32, owners := own, mapid := mapidOf c0 c1 own
    wdLim := s.obj 0x1141 2, whLim := s.obj 0x1141 1, split := decide (s.obj 0x1010 0 = 5) } }
  s.hfSet VOT_V1_MAPID (mapidOf c0 c1 own)

/-! ### Supplying dies -/

/-- The report of the start in progress (R108). -/
def State.startReport (s : State) : StartReport :=
  { ms := s.st.ms, failStep := s.st.failStep, quick := s.st.quick, stv := s.st.stv, lanesOk := s.passing, warm := s.st.warm }

/-- Show the start in progress on lane `l` (R108). -/
def State.showStart (s : State) (l : LaneId) : State := s.showReport l s.startReport

/-- The supervisor supplies lane `l` (01 R26). -/
def State.laneSupply (s : State) (l : LaneId) : State :=
  if (s.lane l).supplied then s
  else
    let s := (s.powerLane l).updLane l (fun x => { x with out := false })
    let s := s.lfSet l COO_CFG_BUDGET (4 * s.obj 0x7200 1)
    let s := s.lfSet l AGE_VMIN (mapGet 0 s.coo.vmin l.idx)
    let s := s.lfSet l AGE_AVS_V_FLOOR (mapGet 20 s.coo.floor l.idx)
    ((s.loadMode l).showStart l).showPowerLane l

/-- Events that the supervisor has kept go to the lanes (17, R32). -/
def State.flushKept (s : State) : State :=
  if s.suppliedSet = 0 then s
  else
    let es := s.sup.kept
    let s := { s with sup := { s.sup with kept := [] } }
    es.foldl (fun s e => s.bookAll e) s

/-- HUB_START (S2, 11 R321, 17 R465): the hub's units take the committed configuration, and the cellar book recovers. -/
def State.hubStart (s : State) (margin : Nat) : State :=
  let s := { s with
    hub := { s.hub with mgmtUp := true, bank := mapGet 0 s.sup.ka.sel 3 }
    coo := { s.coo with margin := margin } }
  let s := s.startTb.startNet
  let s := (List.range 8).foldl (fun s ch => s.loadCan ch) s
  let s := s.loadVoter1.bookRecover
  let s := s.cntSet 0x7211 10 margin
  if margin < 200 then s.hubEvt 0x7041 [(4, margin)] else s

/-! ### Ends of a start -/

/-- The committed firmware bank is restored after a start on a pending bank (08 R248, event 0x8024). -/
def State.bankRestore (s : State) (lane : Nat) : State :=
  if s.sup.ka.selPending && s.st.fromMode == .stowed then
    let s := s.restoreSel
    let s := { s with rack := { s.rack with state := 2, code := 0x10 } }
    s.supEvt 0x8024 [(1, lane), (1, 0x10)]
  else s

/-- The pending bank is committed when every lane that passed S2 runs it (08 R248, event 0x8025). -/
def State.bankCommit (s : State) : State :=
  let st := s.st
  if s.sup.ka.selPending && st.fromMode == .stowed && decide (nAndNot st.booted st.newBank = 0) then
    let bank := s.stagedFwBank
    let b := (mapFind s.store.fw bank).getD []
    let s := { s with sup := { s.sup with ka := { s.sup.ka with fwBank := bank, selPending := false } } }
    let s := s.storedSet 0x1163 5 (leBytes 2 (leAt b 18 2))
    let s := { s with rack := { s.rack with state := 0, staged := false, kind := 0, lanes := [], code := 0 } }
    s.supEvt 0x8025 [(8, leNat ((imgId b).take 8)), (2, leAt b 18 2)]
  else s

/-- The start ends in the mode just entered (R91, R92, R95, R108; events 0x0002, 0x0003 and 0x0008). -/
def State.finishStart (s : State) : State :=
  match s.md.start with
  | none => s
  | some st =>
    let m := s.md.mode
    let s := onLanes (fun l s => if (s.lane l).supplied then s.showStart l else s) s
    let s := s.cntSet 0x1018 1 st.ms
    let s := s.cntSet 0x1018 2 s.md.wakeCause
    let s := s.cntSet 0x1018 3 st.failStep
    let s := if m == .halt then
        let s := s.bankRestore 0
        s.supEvt 0x0002 [(1, if st.failStep = 0 then 7 else st.failStep - 1), (1, s.passing)]
      else s.bankCommit
    let s := if st.fromMode == .stowed && st.stv && st.inputKept && decide (4000 < st.ms) && decide (s.period ≤ 100000000) then
        s.supEvt 0x0003 [(4, st.ms)]
      else s
    let s := if m == .configure && decide (st.refused ≠ 0) then s.supEvt 0x0008 [(1, st.refused)] else s
    let s := (s.volSet 0x1013 0 [0]).volSet 0x1019 0 [0]
    ({ s with md := { s.md with start := none, last := s.startReport } } : State).forecastStart

/-- The start ends in HALT: at the next edge, or at once when the tick is not yet running (R84, R91). -/
def State.startHalt (s : State) : State :=
  if s.anyTick then (s.stUpd (fun st => { st with step := 8 })).setDue .halt (frameAdd s.modFrame 1) 7
  else ((s.changeMode .halt 7 s.modFrame).finishStart).showMode

/-- A module failure of step `k` (R90, R91). -/
def State.startFails (s : State) (k : Nat) : State :=
  (s.stUpd (fun st => { st with moduleFail := true, failStep := if st.failStep = 0 then k + 1 else st.failStep })).startHalt

/-- The start leads to a mode at the next edge (R84). -/
def State.startTo (s : State) (m : Mode) (cause : Nat) : State :=
  (s.stUpd (fun st => { st with step := 8 })).setDue m (frameAdd s.modFrame 1) cause

/-- A lane is excluded for the rest of the start; its supply is removed (R89, event 0x0006). -/
def State.exclude (s : State) (l : LaneId) (k : Nat) : State :=
  let s := s.stUpd (fun st => { st with
    excluded := nOr st.excluded (2 ^ l.idx), behind := nAndNot st.behind (2 ^ l.idx)
    failStep := if st.failStep = 0 then k + 1 else st.failStep })
  let s := s.lanePowerOff l
  let s := s.supEvt 0x0006 [(1, l.idx), (1, k)]
  if 2 ≤ k ∧ k ≤ 4 then s.bankRestore l.idx else s

/-! ### Steps S4 to S7 judged for all lanes -/

/-- The admission codes of S4 compared: a lane without the majority's code fails the step (07 R212). -/
def State.judgeCodes (s : State) : State :=
  let cs := s.st.codes.filter (fun p => inSet s.passing (laneOf p.1))
  let major := cs.find? (fun p => decide (cs.length < 2 * (cs.filter (fun q => q.2 == p.2)).length))
  match major with
  | none => cs.foldl (fun s p => s.exclude (laneOf p.1) 4) s
  | some (_, c) =>
    let s := cs.foldl (fun s p => if p.2 = c then s else s.exclude (laneOf p.1) 4) s
    s.stUpd (fun st => { st with refused := c })

/-- S5 ends: the tick starts, with the frame after the last one recorded (02 R52, event 0x1040), or a lane joins the running
tick with the frame number of the lanes that run; TCK_HWM begins anew (02 R78); the lowest passed lane sets the time base (13 R369). -/
def State.startTick (s : State) : State :=
  let lost := !s.sup.ka.content
  let f := if s.st.ticked then s.modFrame else if lost then frameMod - 1 else s.sup.ka.lastFrame
  let ps := s.passing
  let s := onLanes (fun l s =>
    if inSet ps l && !s.ticking l then
      let s := ((s.lfSet l TCK_FRAME f).lfSet l TCK_STATUS_RUN 1).lfSet l TCK_HWM 0
      s.updLane l (fun x => { x with restart := none, tick := { x.tick with cycleLen := s.period } })
    else s) s
  let s : State := if s.st.ticked then s
    else
      let s := s.stUpd (fun st => { st with tickMs := st.ms, tickFrame := f })
      { s with
        hub := { s.hub with frame := f }
        sup := { s.sup with frame := f, ka := { s.sup.ka with content := true, lastFrame := f } } }
  let s := if lost && !s.st.ticked then s.supEvt 0x1040 [] else s
  if ps ≠ 0 then (s.settimeWrite 4 s.sup.ka.rtc).getD s else s

/-- The decision after S5 (R84, R90): DEPOT before CONFIGURE, or the start goes on; the flag says that it goes on. -/
def State.afterS5 (s : State) : State × Bool :=
  let st := s.st
  let life := s.md.life
  let depot := life == .depotOpen || life == .retired || (life == .factory && decide (s.obj 0x1010 0 = 3))
    || decide (s.obj 0x1019 0 = 2) || s.sup.pw.lowStore
  -- no copy of the stored objects has been committed, or no program set is in the active bank
  let conf := decide (s.dict.copySeq = 0) || decide (s.activeImage = []) || decide (st.refused ≠ 0) || decide (s.obj 0x1019 0 = 1)
  if depot then (s.startTo .depot 6, false)
  else if conf then (s.startTo .configure 5, false)
  else (s, true)

/-- The agreeing lanes of S6: verified partitions with APPLIED = Q and equal digests, at least two (R94, 07 R220). -/
def State.agreeing (s : State) : Nat :=
  let ok := lanes.filter (fun l => inSet s.passing l && s.partitionOk l && decide (s.applied l = s.sup.ka.q))
  let same := fun (l : LaneId) => laneSet (fun k => ok.contains k && decide (s.partitionDigest k = s.partitionDigest l))
  ok.foldl (fun (best : Nat) (l : LaneId) => if laneSetCount best < laneSetCount (same l) then same l else best) 0

/-- WARM_COLD_SELECT: the number of the first condition of R94 that fails, 0 for a warm start. -/
def State.coldCause (s : State) (agree : Nat) : Nat :=
  let pol := s.obj 0x1012 0
  let ka := s.sup.ka
  if pol = 1 || (pol = 2 && s.st.fromMode == .halt) then 1
  else if s.obj 0x1013 0 = 1 then 2
  else if !ka.commitFlag || !ka.content then 3
  else
    let ids := lanes.filter (fun l => inSet s.passing l)
    if ids.any (fun l => decide (padTo 16 (s.lane l).prog.id ≠ ka.commitId)) then 4
    else if ids.any (fun l => decide ((s.lane l).prog.layoutId ≠ ka.commitLayout)) then 5
    else if laneSetCount agree < 2 then 6
    else 0

/-- S6 ends: warm, with divergent partitions copied from the agreeing pair, or cold (R94, R95, 07 R221; events 0x0004, 0x0005
and 0x0007). -/
def State.selectWarm (s : State) : State :=
  let agree := s.agreeing
  let cause := s.coldCause agree
  let ps := s.passing
  if cause = 0 then
    let s := s.supEvt 0x0004 [(1, agree)]
    let src := (lanes.find? (fun l => inSet agree l)).getD .a
    let s := onLanes (fun l s =>
      if inSet ps l then
        let s := if inSet agree l then s
          else ({ s with hub := { s.hub with mram := copyPartition s.hub.mram src l } }).laneEvt l 0x0007 [(1, l.idx), (1, agree)]
        ((s.warmRetained l).freshStations l).lfSet l TCK_MODE_WARM 1
      else s) s
    s.stUpd (fun st => { st with warm := true })
  else
    let s := { s with sup := { s.sup with ka := { s.sup.ka with commitFlag := false } } }
    let s := (s.supEvt 0x0005 [(1, cause)]).coldValues
    onLanes (fun l s => if inSet ps l then ((s.coldRetained l).freshStations l).lfSet l TCK_MODE_WARM 0 else s) s

/-- The lanes and voters agree on the output map in S7 (06 R196, R197). -/
def State.mapsAgree (s : State) : Bool :=
  s.sup.v2.cfgOk && lanes.all (fun l => !inSet s.passing l
    || (decide (s.ownMapid l = s.hf VOT_V1_MAPID) && decide (s.ownMapid l = s.sup.v2.mapid)))

/-- S7 ends: the mode that the passed lanes and the start target lead to (R84, R91). -/
def State.afterS7 (s : State) : State :=
  let s := s.voter2Accept s.passing
  let n := laneSetCount s.passing
  if !s.mapsAgree then s.startFails 7
  else if s.obj 0x1010 0 = 5 then (if 1 ≤ n then s.startTo .split 4 else s.startHalt)
  else if n = 3 then s.startTo .safe3 2
  else if n = 2 ∧ s.obj 0x1011 0 = 1 then s.startTo .safe2 3
  else s.startHalt

/-! ### Progress -/

/-- Enter start step `k`. -/
def State.enterStep (s : State) (k : Nat) : State :=
  let s := s.stUpd (fun st => { st with
    step := k, done := 0, supDone := false, hubDone := false, fieldDone := false })
  if k = 2 then s.stUpd (fun st => { st with hubDone := s.hub.mgmtUp })
  else if k = 3 then
    let s := onLanes (fun l s => if (s.lane l).supplied && s.hub.supplied then s.lfSet l BRG_STATUS_LINK_UP 1 else s) s
    let s := s.stUpd (fun st => { st with quick := s.recordValid })
    onLanes (fun l s => if inSet s.passing l then s.loadRepairs l else s) s
  else if k = 4 then s.startClock s.passing
  else if k = 5 then onLanes (fun l s => if inSet s.passing l then s.sendBoth l 5 0 [] else s) s
  else s

/-- Every actor of the step in progress has completed it. -/
def State.stepReady (s : State) : Bool :=
  let st := s.st
  let all := decide (nAndNot s.passing st.done = 0)
  match st.step with
  | 0 => st.supDone
  | 2 => all && st.hubDone
  | 3 => all
  | 4 => all && decide (st.behind = 0)
  | 5 => all && st.supDone && st.s1done
  | 6 => all
  | 7 => all && st.hubDone && st.supDone && st.fieldDone
  | _ => false

/-- The start moves on when its step is complete; without a lane it ends in HALT (R88, R91). -/
def State.startAdvance (s : State) : State :=
  let st := s.st
  if s.md.start.isNone || st.moduleFail || st.step = 8 then s
  else if st.step ≠ 0 && decide (s.passing = 0) && decide (st.behind = 0) then s.startHalt
  else if !s.stepReady then s
  else match st.step with
    | 0 =>
      let s := { s with hub := { s.hub with supplied := true } }
      let s := onLanes (fun l s => s.laneSupply l) s
      (s.flushKept).enterStep 2
    | 2 => s.enterStep 3
    | 3 => s.enterStep 4
    | 4 =>
      let s := s.judgeCodes
      if s.passing = 0 then s.startHalt else s.enterStep 5
    | 5 =>
      let s := s.startTick
      match s.afterS5 with
      | (s, true) => s.enterStep 6
      | (s, false) => s
    | 6 => s.selectWarm.enterStep 7
    | _ => s.afterS7

/-! ### Lanes that run start steps alone (06 R184, 08 R245, 18 R483) -/

/-- A lone lane fails a restart step: it stays without supply, event 0x2022. -/
def State.loneFail (s : State) (l : LaneId) (k : Nat) : State :=
  ((s.lanePowerOff l).updLane l (fun x => { x with out := true })).supEvt 0x2022 [(1, l.idx), (1, k)]

/-- Step S5 has measured the delays of lane `l`'s links to the previous and the next lane, in ns, and a link whose other end has supply is
synchronised (R88, 02 R53, 04 R137). -/
def State.linksUp (s : State) (l : LaneId) (meas : List Nat) : State :=
  let prev := b2n (s.lane l.prev).supplied
  let next := b2n (s.lane l.next).supplied
  let s := (s.lfSet l XCH_LINK_UP_PREV prev).lfSet l XCH_LINK_DELAY_PREV (min 0x7FFF (meas.getD 0 0))
  let s := (s.lfSet l XCH_LINK_UP_NEXT next).lfSet l XCH_LINK_DELAY_NEXT (min 0x7FFF (meas.getD 1 0))
  -- a neighbour that already runs its tick sees the same link synchronised
  let s := if s.ticking l.prev then s.lfSet l.prev XCH_LINK_UP_NEXT 1 else s
  if s.ticking l.next then s.lfSet l.next XCH_LINK_UP_PREV 1 else s

/-- A lone lane has completed step `k`: the next one, or after S5 it joins the tick and is realigned. -/
def State.loneStep (s : State) (l : LaneId) (k : Nat) (quick : Bool) (meas : List Nat) : State :=
  let to_ := fun (s : State) (n : Nat) => s.updLane l (fun x => { x with restart := some (n, quick) })
  match k with
  | 0 => (to_ s 2).showLone l
  | 2 =>
    let s := s.setClock l s.fRun
    let s := if s.hub.supplied then s.lfSet l BRG_STATUS_LINK_UP 1 else s
    to_ (s.loadRepairs l) 3
  | 3 => to_ s 4
  | 4 =>
    let s := (s.loadConfig l).admitActive l
    if (s.lane l).admission = some 0 then (to_ s 5).sendBoth l 5 0 [] else s.loneFail l 4
  | _ =>
    -- every lane runs at the same clock (01 R27): the code in force when the lane joins
    let s := s.setClock l s.fRun
    let f := match lanes.find? (fun k => k ≠ l && s.ticking k) with
      | some k => s.frame k
      | none => s.sup.frame
    let s := ((s.lfSet l TCK_FRAME f).lfSet l TCK_STATUS_RUN 1).updLane l (fun x => { x with restart := none })
    let s := (s.loadMode l).linksUp l meas
    if safeMode s.md.mode then s.startRealign l else s

/-- A lane behind in a start from CONFIGURE or DEPOT has completed S2 or S3; after S3 it is ready for S4 (R93). -/
def State.behindStep (s : State) (l : LaneId) (k : Nat) : State :=
  if k = 2 then
    let s := if s.hub.supplied then s.lfSet l BRG_STATUS_LINK_UP 1 else s
    (s.loadRepairs l).updLane l (fun x => { x with restart := some (3, false) })
  else
    let s := (s.updLane l (fun x => { x with restart := none })).setClock l s.fRun
    (s.stUpd (fun st => { st with behind := nAndNot st.behind (2 ^ l.idx) })).startAdvance

/-- Lane `l` completes step `k` of the start. -/
def State.laneStep (s : State) (l : LaneId) (k : Nat) (meas : List Nat) : State :=
  let s := if k = 2 then
      let bank := mapGet 0 s.sup.ka.sel l.idx
      s.stUpd (fun st => { st with
        booted := nOr st.booted (2 ^ l.idx)
        newBank := if bank = s.stagedFwBank then nOr st.newBank (2 ^ l.idx) else st.newBank })
    else if k = 4 then
      let s := (s.loadConfig l).admitActive l
      s.stUpd (fun st => { st with codes := mapInsert (mapErase st.codes l.idx) l.idx ((s.lane l).admission.getD 0) })
    else if k = 5 then s.linksUp l meas
    else if k = 6 then s.completeJournal l
    else s
  s.stUpd (fun st => { st with done := nOr st.done (2 ^ l.idx) })

/-- Whether step S2 of lane `l` can pass: the firmware in its bank verifies under both signatures (R88, 08 R243); the package of the
factory is not held in the bank itself. -/
def State.s2Ok (s : State) (bank : Nat) : Bool :=
  match mapFind s.store.fw bank with
  | some b => b == Config.factoryFirmware || firmwareVerifies b
  | none => true

/-- Whether step S3 of lane `l` can pass: Cooper found no failure, and f_max has not been projected below 1.2 GHz (18 R489). -/
def State.s3Ok (s : State) (l : LaneId) : Bool :=
  (decide (s.lf l COO_STATUS_DONE = 0) || decide (s.lf l COO_STATUS_PASS = 1))
    && !(decide ((s.lane l).coop.fmax ≠ 0) && decide ((s.lane l).coop.fmax < 1200))

/-- Whether lane `l` can pass step `k`. -/
def State.stepOk (s : State) (l : LaneId) (k : Nat) : Bool :=
  if k = 2 then s.s2Ok (mapGet 0 s.sup.ka.sel l.idx) else if k = 3 then s.s3Ok l else true

/-- START_STEP_COMPLETE: `who` has completed step `k`, `ms` after the wake was accepted, or has failed it. `meas` is what the
step measured: C (µF) and ESR (mΩ) in S1, the MRAM margin (0.1 %) in S2 of the hub, the delays of the links to the previous and the
next lane (ns) in S5 of a lane, the failing output and step of a failed output test in S7. -/
def execStartStepComplete (who : StartActor) (k : Nat) (ok : Bool) (ms : Nat) (meas : List Nat) (s : State) :
    Host.Outcome State Fault Refusal :=
  let lone := match who with
    | .lane l => (match (s.lane l).restart with
      | some (n, q) => if n = k && (s.lane l).supplied then some (l, q) else none
      | none => none)
    | _ => none
  match lone with
  | some (l, q) =>
    let good := ok && s.stepOk l k
    if inSet s.st.behind l && s.md.start.isSome then
      .next (if good then s.behindStep l k else (s.exclude l k).startAdvance)
    else .next (if good then s.loneStep l k q meas else s.loneFail l k)
  | none =>
    if s.md.start.isNone || !s.sup.supplied then .next s
    else
      let st := s.st
      let s := s.stUpd (fun st => { st with ms := max st.ms ms })
      match who with
      | .power =>
        if k ≠ 1 || st.s1done || st.step = 0 || st.step = 8 then .next s
        else if !ok then .next (s.startFails 1)
        else
          let s := s.holdupTake (meas.getD 0 0) (meas.getD 1 0)
          .next ((s.holdupCharged.stUpd (fun st => { st with s1done := true })).startAdvance)
      | .lane l =>
        if k ≠ st.step || !inSet s.passing l || inSet st.done l then .next s
        else if ok && s.stepOk l k then .next (s.laneStep l k meas).startAdvance
        else .next (s.exclude l k).startAdvance
      | .sup =>
        if k ≠ st.step || !(k = 0 || k = 5 || k = 7) then .next s
        else if ok then .next (s.stUpd (fun st => { st with supDone := true })).startAdvance
        else .next (s.startFails k)
      | .hub =>
        if k ≠ st.step || !(k = 2 || k = 7) || st.hubDone then .next s
        else if !ok || (k = 2 && !s.s2Ok (mapGet 0 s.sup.ka.sel 3)) then .next (s.startFails k)
        else
          let s := if k = 2 then s.hubStart (meas.getD 0 0) else s
          .next (s.stUpd (fun st => { st with hubDone := true })).startAdvance
      | .field =>
        if k ≠ 7 || st.step ≠ 7 then .next s
        else if ok then .next ((s.proofResult 0).stUpd (fun st => { st with fieldDone := true })).startAdvance
        else
          let o := meas.getD 0 0
          let s := if o = 16 then s.proofResult (meas.getD 1 0) else s
          .next ((s.supEvt 0x5040 [(1, o), (1, meas.getD 1 0)]).startFails 7)

/-- START_STEP_TIMEOUT: `who` has not completed step `k` by its limit: a lane is excluded, anything else is a module failure
(R89, R90); a lone lane stays without supply (06 R184). R90 names S1 and S7 as module failures: DESIGN CHOICE, the hub's S2 and the
supervisor's S0 and S5, without which no start can go on, are treated alike (log entry 48). -/
def execStartStepTimeout (who : StartActor) (k : Nat) (s : State) : Host.Outcome State Fault Refusal :=
  let st := s.st
  match who with
  | .lane l =>
    match (s.lane l).restart with
    | some (n, _) =>
      if n ≠ k || !(s.lane l).supplied then .next s
      else if s.md.start.isSome && inSet st.behind l then .next (s.exclude l k).startAdvance
      else .next (s.loneFail l k)
    | none =>
      if s.md.start.isSome && decide (k = st.step) && inSet s.passing l && !inSet st.done l then .next (s.exclude l k).startAdvance
      else .next s
  | .power => if s.md.start.isSome && decide (k = 1) && !st.s1done && decide (st.step ≠ 8) then .next (s.startFails 1) else .next s
  | .sup => if s.md.start.isSome && decide (k = st.step) && !st.supDone && (k = 0 || k = 5 || k = 7) then .next (s.startFails k) else .next s
  | .hub => if s.md.start.isSome && decide (k = st.step) && !st.hubDone && (k = 2 || k = 7) then .next (s.startFails k) else .next s
  | .field => if s.md.start.isSome && decide (k = 7) && decide (st.step = 7) && !st.fieldDone then .next (s.startFails k) else .next s

/-! ### Entering START -/

/-- What a lane's runtime forgets when the module enters START. -/
def freshLane (x : Lane) : Lane :=
  { x with
    out := false
    tick := { x.tick with haltSend := 0, stopped := false }
    rt := { x.rt with
      withhold := false, leave := false, haltReq := false, cand := false, confirm := 0, suspect := 0, pair := {}
      latched := 0, vDiff := 0, mDiff := 0, pendOut := [], classOut := [] } }

/-- START has been entered from `from_` (R93): S0 with all lanes, or S4 on a running tick. -/
def State.beginStart (s : State) (from_ : Mode) (bits : Nat) : State :=
  let stv := s.recordValid
  let s := (({ s with md := { s.md with wakeCause := bits } } : State).netStart).canStart
  if from_ == .configure || from_ == .depot then
    let behind := laneSet (fun l => !(s.lane l).supplied)
    let s := onLanes (fun l s => ((s.updLane l freshLane).clearFindings l).lfSet l TCK_HWM 0) s
    let s := onLanes (fun l s => if inSet behind l then
      (s.laneSupply l).updLane l (fun x => { x with restart := some (2, false) }) else s) s
    let st : StartState :=
      { fromMode := from_, step := 4, behind := behind, s1done := true, ticked := true, stv := stv, tickFrame := s.md.since }
    let s := { s with md := { s.md with start := some st } }
    (s.loadVoter1.enterStep 4).showMode
  else
    let s := if from_ == .stowed then s else s.lanesPowerOff
    let s := onLanes (fun l s => s.updLane l (fun x => { x with out := false })) s
    let s := s.pwSet (fun p => { p with charged := false })
    { s with md := { s.md with start := some { fromMode := from_, stv := stv } } }

/-! ### Wake sources (R103, R104) -/

/-- Advance the supervisor's real-time clock to `rtc`; stowed time counts for the proof test (15 R417). -/
def State.advRtc (s : State) (rtc : Nat) : State :=
  if rtc ≤ s.sup.ka.rtc then s
  else
    let d := rtc - s.sup.ka.rtc
    let s := { s with sup := { s.sup with ka := { s.sup.ka with rtc := rtc } } }
    if s.md.mode == .stowed then { s with fld := { s.fld with proofNs := s.fld.proofNs + d } } else s

/-- The enabled wake sources that are active, in the layout of TCK_WAKE: 1 wake input, 2 alarm, 4 main input; the first two also while
they are held from the time in which the main input was out of range (R104). -/
def State.wakeBits (s : State) : Nat :=
  let held := fun (i : Nat) => bitOf s.sup.ka.heldWake i
  b2n ((s.sup.pw.wakeIn || held 0) && decide (s.obj 0x1016 1 = 1))
    + 2 * b2n ((s.sup.ka.alarmLatched || held 1) && decide (s.obj 0x1016 2 = 1))
    + 4 * b2n (held 2 && decide (s.obj 0x1016 3 = 1))

/-- WAKE_ACCEPT (R84, R103): STOWED to START with the causes; events of the time in STOWED are recorded by this start (20 R523,
R536, R538, R540; 08 R245). DESIGN CHOICE: event 0x0050 gives the held time in µs in 4 bytes, as 17 R539 encodes a duration, and 0 when
no source was held (log entry 49). -/
def State.acceptWake (s : State) (bits : Nat) : State :=
  let ka := s.sup.ka
  let held := if ka.heldWake % 4 = 0 then 0 else (ka.rtc - ka.heldSince) / 1000
  let src := if bits % 2 = 1 then 1 else if bits / 2 % 2 = 1 then 2 else 3
  let bits := bits + 8 * b2n (!ka.content)
  let s := if ka.selPending || [0, 1, 2, 3].all (fun i => decide (mapGet 0 ka.sel i = ka.fwBank)) then s else s.restoreSel
  let s := if s.rack.install.isSome || s.rack.hubRestart.isSome then
      { s with rack := { s.rack with install := none, hubRestart := none, state := 2 } }
    else s
  let s := s.changeMode .start 1 s.modFrame
  let s := s.supEvt 0x0050 [(1, src), (4, held)]
  let s := ka.nextEvents.foldl (fun s e => s.supEvt e.1 e.2) s
  let s := match ka.minVka with
    | some mv => if s.obj 0x7410 1 = 0 then s else s.supEvt 0x9006 [(4, mv)]
    | none => s
  let s := { s with sup := { s.sup with ka := { s.sup.ka with
    nextEvents := [], minVka := none, alarmLatched := false, heldWake := 0 } } }
  let s := { s with md := { s.md with lowStart := !s.sup.pw.wakeIn, wakeOff := none } }
  s.beginStart .stowed bits

/-- Change what the keep-alive domain keeps. -/
def State.kaSet (s : State) (f : KeepAlive → KeepAlive) : State := { s with sup := { s.sup with ka := f s.sup.ka } }

/-- Evaluate the wake sources in STOWED: with the main input in range one starts the module, otherwise it is held (R103, R104). The main
input is a source at the instant at which it enters its range. -/
def State.evalWake (s : State) : State :=
  let bits := s.wakeBits
  if s.md.mode ≠ .stowed || s.md.closing.isSome || !s.sup.supplied then s
  else if s.sup.pw.inRange then
    if bits = 0 then s.kaSet (fun k => { k with heldWake := 0 }) else s.acceptWake bits
  else if bits % 4 = 0 then s
  else s.kaSet (fun k => { k with
    heldWake := nOr k.heldWake (bits % 4)
    heldSince := if k.heldWake % 4 = 0 then k.rtc else k.heldSince })

/-- A wake in step C3 ends the self-test early when more than 1 s of its schedule remains: the record is invalid (R102, 18 R482).
DESIGN CHOICE: event 0x0012 gives as the pattern reached the blocks that the lane under test is running, as COO_STATUS.RUNNING shows
them (log entry 50). -/
def State.wakeInC3 (s : State) (ms : Nat) : State :=
  match s.md.closing with
  | some c =>
    let plan := 3 * schedule (4 * s.obj 0x7200 1) 1 (setBlocks 1 0)
    if c.step = 3 && !c.early && decide (ms + 1000 < plan) then
      (s.supEvt 0x0012 [(1, match c.lane with | some i => s.lf (laneOf i) COO_STATUS_RUNNING | none => 0)]).endC3Early
    else s
  | none => s

/-- Milliseconds of C3 so far by the real-time clock. -/
def State.c3Ms (s : State) : Nat := match s.md.closing with | some c => (s.sup.ka.rtc - c.c3At) / 1000000 | none => 0

/-- WAKE_INPUT_QUALIFIED: the wake input has been above its threshold for 20 ms; during C3, `ms` after its begin, a wake ends
the self-test when more than 1 s of its schedule remains (R102, 18 R482, event 0x0012). -/
def execWakeInputQualified (rtc ms : Nat) (s : State) : Host.Outcome State Fault Refusal :=
  if !s.sup.supplied then .next s
  else
    let s := (s.advRtc rtc).pwSet (fun p => { p with wakeIn := true })
    let s := { s with md := { s.md with lowStart := false, wakeOff := none } }
    if s.md.closing.isSome then .next (if s.obj 0x1016 1 = 1 then s.wakeInC3 ms else s) else .next s.evalWake

/-- RTC_ALARM: the real-time clock has reached 0x1017:00; the alarm stays latched until a start consumes it (R103), and in C3 it is a
wake as well (R102). -/
def execRtcAlarm (rtc : Nat) (s : State) : Host.Outcome State Fault Refusal :=
  let s := s.advRtc rtc
  let alarm := s.obj 0x1017 0
  if !s.sup.supplied || alarm = 0 || s.sup.ka.rtc < alarm then .next s
  else
    let s := s.kaSet (fun k => { k with alarmLatched := true })
    if s.md.closing.isSome then .next (if s.obj 0x1016 2 = 1 then s.wakeInC3 s.c3Ms else s) else .next s.evalWake

/-! ### The main input (20 R517, R538, R540) -/

/-- R540: the main input is lost in START before the store is charged: supplies off at once, STOWED, event 0x9007 at the next
start; a wake source that is active then is held (R102, R104). -/
def State.startPowerAbort (s : State) : State :=
  let step := s.st.step
  let s := s.md.due.foldl (fun s d => s.notActed (causePriority d.cause) 1) s
  let s := s.lanesPowerOff.hubPowerOff
  let s := s.changeMode .stowed 8 s.modFrame
  let s := { s with md := { s.md with start := none, due := [] } }
  let s := { s with sup := { s.sup with
    ka := { s.sup.ka with nextEvents := s.sup.ka.nextEvents ++ [(0x9007, [(1, step)])] }
    v2 := {} } }
  s.evalWake

/-- The main input leaves its range: the module runs on the hold-up store, or in START before it is charged returns to STOWED
(R517, R540). -/
def State.inputBelow (s : State) (v : Nat) : State :=
  let s := (s.pwSet (fun p => { p with inRange := false, vin := v })).stUpd (fun st => { st with inputKept := false })
  if s.md.mode == .stowed then s
  else if s.md.mode == .start && !s.sup.pw.charged && s.md.closing.isNone then s.startPowerAbort
  else if s.sup.pw.holdup then s
  else
    let s := s.pwSet (fun p => { p with holdup := true })
    (s.powerInt PWR_INT_STAT_HOLDUP).showPower

/-- MAIN_INPUT_BELOW_RANGE: the main input falls below 14.4 V, in 10 mV (R517). -/
def execMainInputBelowRange (v : Nat) (s : State) : Host.Outcome State Fault Refusal :=
  if s.sup.supplied && decide (v < 1440) && s.sup.pw.inRange then .next (s.inputBelow v) else .next s

/-- OVERVOLTAGE_DISCONNECT: above 180 V, or above 154 V for more than 1 s, the protection disconnects the input (R517). -/
def execOvervoltageDisconnect (v us : Nat) (s : State) : Host.Outcome State Fault Refusal :=
  if !s.sup.supplied || !(18000 < v || (15400 < v && 1000000 < us)) || s.sup.pw.disconnected then .next s
  else
    let s := s.pwSet (fun p => { p with disconnected := true })
    .next (if s.sup.pw.inRange then s.inputBelow v else s)

/-- MAIN_INPUT_LOST: 201 consecutive samples below range trigger the closing phase on hold-up (R517, R99). -/
def execMainInputLost (s : State) : Host.Outcome State Fault Refusal :=
  if !s.sup.supplied || s.sup.pw.inRange then .next s
  else if s.md.closing.isSome then .next s.closingLosesInput
  else .next (s.closingTrigger 2 true)

/-- MAIN_INPUT_RESTORED: the input is back in range after an interruption of `us`; after a disconnection it counts once it has
been in range for 100 ms (R517, R541, event 0x9002). In STOWED held wake sources and the main-input source start the module. -/
def execMainInputRestored (v us heldMs rtc : Nat) (s : State) : Host.Outcome State Fault Refusal :=
  if v < 1440 || 15400 < v || (s.sup.pw.disconnected && heldMs < 100) then .next s
  else if !s.sup.supplied then
    -- the supervisor gains supply again: nothing else has supply, and the module is stowed
    let s := s.lanesPowerOff.hubPowerOff
    let s := { s with
      sup := { ka := s.sup.ka, pw := { inRange := true, vin := v } }
      md := { life := s.md.life } }
    let s := s.advRtc rtc
    let s := { s with sup := { s.sup with ka := { s.sup.ka with heldWake := 4 } } }
    .next s.evalWake
  else if s.sup.pw.inRange then .next s
  else
    let bridged := s.sup.pw.holdup && s.md.closing.isNone
    let s := (s.advRtc rtc).pwSet (fun p => { p with inRange := true, disconnected := false, vin := v, holdup := false, recharging := p.holdup })
    let s := (s.powerInt PWR_INT_STAT_RESTORED).showPower
    let s := if s.md.mode == .stowed || s.md.closing.isSome then
        { s with sup := { s.sup with ka := { s.sup.ka with heldWake := nOr s.sup.ka.heldWake 4 } } }
      else s
    -- a restored main input in C3 is a wake where it is a source (R102)
    let s := if s.obj 0x1016 3 = 1 then s.wakeInC3 s.c3Ms else s
    if bridged then
      let s := onLanes (fun l s => if (s.lane l).supplied then s.lcount l PWR_CNT_BRIDGED 1 else s) s
      let s := (s.cntAdd 0x7401 1 1).cntSet 0x7401 2 (max us (s.cnt 0x7401 2))
      .next (s.supEvt 0x9002 [(4, us)])
    else .next s.evalWake

/-- HOLDUP_EXHAUSTED: on hold-up the store reaches 15.0 V before C2 is complete: supplies off and C5 at that instant (R538). -/
def execHoldupExhausted (s : State) : Host.Outcome State Fault Refusal :=
  let step := match s.md.closing with | some c => c.step | none => 0
  if !s.sup.supplied || !s.sup.pw.holdup || s.md.mode == .stowed || 3 ≤ step then .next s
  else
    let s := { s with sup := { s.sup with ka := { s.sup.ka with
      nextEvents := s.sup.ka.nextEvents ++ [(0x9008, [(1, step)])] } } }
    let s := s.md.due.foldl (fun s d => s.notActed (causePriority d.cause) 1) s
    let s := { s with md := { s.md with
      start := none, due := []
      closing := some (s.md.closing.getD ⟨1, 2, true, 0, none, 0, 0, 0, false, 0, false⟩) } }
    .next s.closingC5

/-- DUMP_COMPLETE: the stored energy is below 0.1 J `ms` after C5 began; the module is STOWED and evaluates the wake sources
(R102, R523, R524). -/
def execDumpComplete (ms rtc : Nat) (s : State) : Host.Outcome State Fault Refusal :=
  if !s.sup.supplied || !s.sup.pw.dumping then .next s
  else
    let s := s.pwSet (fun p => { p with dumping := false })
    let ev := (if 500 < ms then 0x9005 else 0x9004, [(4, ms)])
    let s := { s with sup := { s.sup with ka := { s.sup.ka with
      lastDump := ms, nextEvents := s.sup.ka.nextEvents ++ [ev] } } }
    let s := if s.md.closing.isSome then
        let s := s.changeMode .stowed 19 s.modFrame
        { s with md := { s.md with closing := none, start := none, due := [] } }
      else s
    .next (s.advRtc rtc).evalWake

/-! ### Mode changes at an edge -/

/-- START by a reset pulse at the edge of frame `n` (R93, R96; event 0x0020). -/
def State.resetStart (s : State) (n : Nat) : State :=
  let m := s.md.mode
  ((s.supEvt 0x0020 [(1, m.code)]).changeMode .start 15 n).beginStart m 16

/-- RESET_PULSE_ACCEPT at the first edge after a valid pulse, of frame `n` (R96; events 0x0020 and 0x0021). Of the changes due at the
same edge a halt or a change of the vote outranks the pulse, and a mode request does not (R85). -/
def State.resetEdge (s : State) (n : Nat) : State :=
  if !s.sup.rst.valid then s
  else
    let s := { s with sup := { s.sup with rst := { s.sup.rst with valid := false } } }
    let m := s.md.mode
    let here := s.md.due.filter (fun d => frameGe n d.frame)
    if m == .stowed then s
    else if m == .start || safeMode m || s.md.closing.isSome then s.supEvt 0x0021 [(1, m.code)]
    else if lanes.any (fun l => s.cooRuns l) then
      let s := onLanes (fun l s => if s.cooRuns l then s.cooStop l else s) s
      { s with coo := { s.coo with resetAfter := true } }
    else if here.any (fun d => decide (causePriority d.cause < 5)) then s.notActed 5 1
    else
      let s := { s with md := { s.md with due := s.md.due.filter (fun d => !frameGe n d.frame) } }
      (here.foldl (fun s d => s.notActed (causePriority d.cause) 1) s).resetStart n

/-- The milliseconds of the start in progress at the edge of frame `n` that ends it: T per edge since the tick started (R108). -/
def State.startMs (s : State) (n : Nat) : Nat :=
  let st := s.st
  let edges := (frameDiff n st.tickFrame).toNat - b2n (!st.ticked)
  max st.ms (st.tickMs + edges * s.period / 1000000)

/-- One mode change that is due takes effect at the edge of frame `n`, if its transition is possible then; otherwise it is recorded as not
acted on (R84, R85). -/
def State.applyOne (n : Nat) (s : State) (d : ModeDue) : State :=
  if !permitted s.md.mode d.target || s.md.closing.isSome then s.notActed (causePriority d.cause) 2
  else
    let old := s.md.mode
    let ps := s.passing
    let s := s.stUpd (fun st => { st with ms := s.startMs n })
    let t := s.changeMode d.target d.cause n
    if d.target == .start then t.beginStart old 16
    else if old == .start then ((if runMode d.target then t.enterVote ps else t).finishStart).showMode
    else t.showMode

/-- MODE_CHANGE: the mode changes due at the edge of frame `n` take effect (R84, R87; 06 R177). -/
def State.applyDue (s : State) (n : Nat) : State :=
  let here := s.md.due.filter (fun d => frameGe n d.frame)
  here.foldl (State.applyOne n) { s with md := { s.md with due := s.md.due.filter (fun d => !frameGe n d.frame) } }

/-! ### Cooper runs that end (18 R474, R480 to R483) -/

/-- A closing trigger or a reset pulse that waited for a running segment proceeds (18 R482). -/
def State.afterSegment (s : State) : State :=
  if lanes.any (fun l => s.cooRuns l) then s
  else match s.coo.closeAfter with
    | some (t, h) => ({ s with coo := { s.coo with closeAfter := none, test := none } }).closeNow t h
    | none =>
      if s.coo.resetAfter then
        -- the pulse is acted on at the first edge from now on
        let s := { s with
          coo := { s.coo with resetAfter := false, test := none }
          sup := { s.sup with rst := { s.sup.rst with valid := true } } }
        if s.anyTick then s else s.resetEdge s.modFrame
      else s

/-- COOPER_RUN_DONE: a run ends with its results; in C3 the next lane or C4 follows, a commanded test restarts its lane. -/
def execCooperRunDone (l : LaneId) (r : CooperRun) (s : State) : Host.Outcome State Fault Refusal :=
  if !s.cooRuns l then .next s
  else
    let s := s.cooEnd l r
    let inC3 := match s.md.closing with
      | some c => decide (c.step = 3) && decide (c.lane = some l.idx)
      | none => false
    let s := if inC3 then s.c3RunDone l r.vmin else if s.underTest l then s.commandedEnd l else s
    .next s.afterSegment

/-! ### Requests (R86, R106, R109) -/

/-- Refuse mode request `v` (R86; event 0x0040). DESIGN CHOICE: the event gives the request as 0x10 plus its code, where a trigger has
its priority of R85, and as the reason 2 mode, 3 rights, 4 value, 5 a running test; 1 is a higher priority (log entry 51). -/
def State.refuseMode (s : State) (v reason code : Nat) : State × Nat := (s.notActed (0x10 + v % 16) reason, code)

/-- An accepted request puts its change at an edge, unless a change of higher or equal priority is due there already (R85). -/
def State.requestDue (s : State) (m : Mode) (frame cause : Nat) : State × Nat :=
  (s.setDue m frame cause, if s.dueFree frame cause then 0 else 0x0501)

/-- A mode request of 0x1001:00 (R86, R109): abort code 0 when accepted. -/
def State.modeRequest (s : State) (src v : Nat) : State × Nat :=
  let n := s.modFrame
  let m := s.md.mode
  let admitted := lanes.all (fun l => !(s.lane l).supplied || decide ((s.lane l).admission = some 0))
  if s.sourceLevel src < 1 then s.refuseMode v 3 0x0304
  else if v < 1 || 4 < v then s.refuseMode v 4 0x0403
  else if v ≠ 4 && s.coo.test.isSome then s.refuseMode v 5 0x0502
  else if s.md.closing.isSome || m == .stowed then s.refuseMode v 2 0x0501
  else if v = 1 then
    if m == .depot && s.md.life ≠ .retired then s.requestDue .configure (frameAdd n 1) 16 else s.refuseMode v 2 0x0501
  else if v = 2 then
    if safeMode m then s.requestDue .depot (frameAdd n 2) 13 else s.refuseMode v 2 0x0501
  else if v = 3 then
    if m == .configure && admitted then s.requestDue .start (frameAdd n 1) 9
    else if m == .depot then s.requestDue .start (frameAdd n 1) 17
    else s.refuseMode v 2 0x0501
  else (s.closingTrigger 3 false, 0)

/-- MODE_REQUEST_CONFIGURE. -/
def execModeRequestConfigure (src : Nat) (s : State) : Host.Outcome State Fault Refusal := .next (s.modeRequest src 1).1

/-- MODE_REQUEST_DEPOT. -/
def execModeRequestDepot (src : Nat) (s : State) : Host.Outcome State Fault Refusal := .next (s.modeRequest src 2).1

/-- MODE_REQUEST_RUN. -/
def execModeRequestRun (src : Nat) (s : State) : Host.Outcome State Fault Refusal := .next (s.modeRequest src 3).1

/-- MODE_REQUEST_SHUT_DOWN. -/
def execModeRequestShutDown (src : Nat) (s : State) : Host.Outcome State Fault Refusal := .next (s.modeRequest src 4).1

/-- At least one host of rights level 2 or higher has a nonzero key (16 R433). -/
def State.hostKeyed (s : State) : Bool :=
  (List.range 16).any (fun h =>
    let e := s.objBytes 0x0100 (h + 1)
    byteAt e 0 ≠ 0 && decide (2 ≤ byteAt e 1) && (s.objBytes 0x0102 (h + 1)).any (fun b => b ≠ 0))

/-- The transitions of R106 that a request can make now. -/
def State.lifeTo (s : State) (v : Nat) : Option Life :=
  let m := s.md.mode
  let admitted := lanes.any (fun l => (s.lane l).supplied)
    && lanes.all (fun l => !(s.lane l).supplied || decide ((s.lane l).admission = some 0))
  match s.md.life, v with
  | .commissioning, 3 => if (m == .configure || m == .depot) && admitted && s.hostKeyed then some .inService else none
  | .inService, 4 => if m == .depot then some .depotOpen else none
  | .depotOpen, 3 => if m == .depot && s.hostKeyed then some .inService else none
  | .depotOpen, 5 => if m == .depot then some .retired else none
  | _, _ => none

/-- Refuse a life-cycle request (R106; event 0x0031). -/
def State.refuseLife (s : State) (v code : Nat) : State × Nat := (s.supEvt 0x0031 [(1, v % 256), (1, s.md.life.code)], code)

/-- A life-cycle request of 0x1003:00 (R106, events 0x0030 and 0x0031): RETIRED then closes the module. -/
def State.lifeRequest (s : State) (src v : Nat) : State × Nat :=
  let old := s.md.life
  if s.sourceLevel src < 3 || s.md.closing.isSome then s.refuseLife v (if s.md.closing.isSome then 0x0501 else 0x0304)
  else match s.lifeTo v with
    | none => s.refuseLife v 0x0501
    | some new =>
      let s := { s with
        md := { s.md with life := new }
        sup := { s.sup with ka := { s.sup.ka with life := new.code } } }
      let s := (s.storedSet 0x1002 0 [BitVec.ofNat 8 new.code]).showMode
      let s := s.supEvt 0x0030 [(1, old.code), (1, new.code), (1, src)]
      (if new == .retired then s.closingTrigger 4 false else s, 0)

/-- LIFECYCLE_TO_IN_SERVICE. -/
def execLifecycleToInService (src : Nat) (s : State) : Host.Outcome State Fault Refusal := .next (s.lifeRequest src 3).1

/-- LIFECYCLE_TO_DEPOT_OPEN. -/
def execLifecycleToDepotOpen (src : Nat) (s : State) : Host.Outcome State Fault Refusal := .next (s.lifeRequest src 4).1

/-- LIFECYCLE_TO_RETIRED. -/
def execLifecycleToRetired (src : Nat) (s : State) : Host.Outcome State Fault Refusal := .next (s.lifeRequest src 5).1

end Sys2Proof.Machine
end

