-- ==== Sys2Proof/Machine/Pair.lean ====
section
/-! DEFINITION. Paired modules and fail-over (19): heartbeat, roles, hand-over, take-back, shadow comparison and the
mastership line. -/

namespace Sys2Proof.Machine

/-! ### Identity and eligibility -/

/-- The pairing state of lane `l`'s runtime. -/
def State.pr (s : State) (l : LaneId) : LanePair := (s.lane l).rt.pair

/-- Replace it. -/
def State.prSet (s : State) (l : LaneId) (x : LanePair) : State :=
  s.updLane l (fun y => { y with rt := { y.rt with pair := x } })

/-- The own position (R497). -/
def State.pairPos (s : State) : Nat := s.obj 0x7300 2

/-- CIDs of the own and of the partner's heartbeat (R500). -/
def State.ownCid (s : State) : Nat := s.obj 0x7300 3 + s.pairPos
def State.partnerCid (s : State) : Nat := s.obj 0x7300 3 + 1 - s.pairPos

/-- The identities equal those of the last valid partner heartbeat, or none has been received since START. -/
def State.sameIds (s : State) (l : LaneId) : Bool :=
  match (s.pr l).last with
  | none => true
  | some h => decide (h.setId = padTo 16 (s.lane l).prog.id) && decide (h.cfgId = padTo 16 (s.objBytes 0x0120 5))

/-- The module is eligible (19, roles); the closing phase ends a mastership (R506). -/
def State.eligible (s : State) (l : LaneId) : Bool :=
  s.pairOn && safeMode (s.laneMode l) && s.md.closing.isNone
    && (decide (s.md.life = .commissioning) || decide (s.md.life = .inService)) && s.sameIds l

/-- A valid heartbeat with ROLE 1 or 2 (R501). -/
def masterBeat (h : Option Heartbeat) : Bool :=
  match h with
  | some x => decide (x.role = 1) || decide (x.role = 2)
  | none => false

/-- FLAGS of a heartbeat: TAKE, ELIGIBLE, SHADOW_OK. -/
def Heartbeat.takes (h : Heartbeat) : Bool := bitOf h.flags 6
def Heartbeat.elig (h : Heartbeat) : Bool := bitOf h.flags 5
def Heartbeat.shadowOk (h : Heartbeat) : Bool := bitOf h.flags 4

/-! ### The heartbeat (R500, R501) -/

/-- The fields of a heartbeat item. -/
def parseBeat (b : List Byte) : Heartbeat :=
  { role := byteAt b 6, mode := byteAt b 7, flags := byteAt b 8, out := beAt b 12 4, outdig := beAt b 16 4
    setId := slice b 20 16, cfgId := slice b 36 16 }

/-- Reserved bits of a heartbeat are 0. -/
def beatReserved (b : List Byte) : Bool :=
  !bitOf (byteAt b 8) 3 && decide (beAt b 9 3 = 0) && decide (beAt b 12 4 < 2 ^ 17) && decide (byteAt b 6 < 4)
    && (parseTrailer b 52).rsvOk

/-- Whether the item is a valid heartbeat, with its SEQ. -/
def State.beatOk (s : State) (l : LaneId) (b : List Byte) : Option Nat :=
  let t := parseTrailer b 52
  let p := s.pr l
  let seqOk := match p.seq with
    | none => true
    | some q => let d := (t.seq + 2 ^ 32 - q) % 2 ^ 32
                decide (8 ≤ p.misses) || (decide (1 ≤ d) && decide (d ≤ 8))
  if b.length = 64 && beatReserved b && decide (corkCrc s.partnerCid (b.take 60) = t.crc) && seqOk then some t.seq else none

/-- The heartbeat of the running cycle's snapshot (R501): a missing or invalid one counts in PAIR_CNT.HB_MISS, and an
invalid one is a violation of partner 12. -/
def State.beatStep (s : State) (l : LaneId) : State :=
  let it := s.arrived l 189
  let p := s.pr l
  match it.bind (fun b => (s.beatOk l b).map (fun q => (parseBeat b, q))) with
  | some (h, q) =>
    let s := s.prSet l { p with hb := some h, last := some h, seq := some q, misses := 0 }
    (s.lfSet l PAIR_STAT_HB_OK 1).lfSet l PAIR_STAT_PROLE h.role
  | none =>
    let s := s.prSet l { p with hb := none, misses := min 8 (p.misses + 1) }
    let s := (s.lfSet l PAIR_STAT_HB_OK 0).lcount l PAIR_CNT_HB_MISS 1
    if s.leadLane = some l then
      let s := s.cntAdd 0x7301 6 1
      if it.isSome then s.countViolation 12 0 else s
    else s

/-! ### Shadow comparison (R509) -/

/-- Outputs of classes 0x1 and 0x2 (06 R172). -/
def State.shadowMask (s : State) (l : LaneId) : Nat :=
  let cls := fun (i : Nat) => if i = 16 then 1 else if i < 8 then bitsOf (s.lf l VOT_CLS0) (4 * i + 3) (4 * i)
    else bitsOf (s.lf l VOT_CLS1) (4 * (i - 8) + 3) (4 * (i - 8))
  (List.range 17).foldl (fun a i => a + b2n (cls i == 1 || cls i == 2) * 2 ^ i) 0

/-- SHADOW_N differing cycles in a row clear SHADOW_OK: event 0x0066. -/
def State.shadowBad (s : State) (l : LaneId) (bits own other : Nat) : State :=
  let p := s.pr l
  if s.lf l PAIR_CFG_SHADOW_N ≤ p.diff && p.ok then
    let s := (s.prSet l { p with ok := false }).lfSet l PAIR_STAT_SHADOW_OK 0
    s.laneEvt l 0x0066 [(4, bits), (4, own), (4, other)]
  else s

/-- SHADOW_N equal cycles in a row set SHADOW_OK: event 0x0067. -/
def State.shadowGood (s : State) (l : LaneId) : State :=
  let p := s.pr l
  if s.lf l PAIR_CFG_SHADOW_N ≤ p.same && !p.ok then
    ((s.prSet l { p with ok := true }).lfSet l PAIR_STAT_SHADOW_OK 1).laneEvt l 0x0067 []
  else s

/-- The standby compares the master's values with its own of the cycle before. -/
def State.shadowStep (s : State) (l : LaneId) : State :=
  let p := s.pr l
  match p.hb with
  | none => s
  | some h =>
    if h.role ≠ 1 ∨ p.role ≠ 0 ∨ !s.sameIds l then s
    else
      let bits := nAnd (nXor h.out p.ownOut) (s.shadowMask l)
      let s := s.lfSet l PAIR_SHADOW bits
      if bits ≠ 0 ∨ h.outdig ≠ p.ownDig then
        let s := (s.prSet l { p with diff := p.diff + 1, same := 0 }).lcount l PAIR_CNT_SHADOW 1
        let s := if s.leadLane = some l then s.cntAdd 0x7301 5 1 else s
        s.shadowBad l bits p.ownDig h.outdig
      else (s.prSet l { p with diff := 0, same := p.same + 1 }).shadowGood l

/-- SHADOW_MISMATCH: the threshold row of lane `l`; it acts when SHADOW_N differing cycles have been counted. -/
def execShadowMismatch (l : LaneId) (s : State) : Host.Outcome State Fault Refusal :=
  match (s.pr l).last with
  | some h => .next (s.shadowBad l (s.lf l PAIR_SHADOW) (s.pr l).ownDig h.outdig)
  | none => .next s

/-- SHADOW_MISMATCH_CLEAR: the threshold row of lane `l`; it acts when SHADOW_N equal cycles have been counted. -/
def execShadowMismatchClear (l : LaneId) (s : State) : Host.Outcome State Fault Refusal := .next (s.shadowGood l)

/-! ### Roles (R502 to R508) -/

/-- Time role of the module's ports at a change of mastership (R511). -/
def State.pairTime (s : State) (master : Bool) : State :=
  if s.obj 0x3400 1 = 1 && s.hub.supplied then
    let s := s.hfSet TB_STATUS_ROLE (b2n master)
    let s := s.hfSet (TB_PSTAT_PSTATE 11) (if master then 1 else 2)
    s.hfSet TB_STATUS_SLAVE (if master then 15 else 11)
  else s

/-- The module takes a role: PAIR_CTL.ROLE, and the time roles with mastership. -/
def State.takeRole (s : State) (l : LaneId) (role : Nat) : State :=
  let p := s.pr l
  let own := fun (r : Nat) => decide (r = 1) || decide (r = 2)
  let s := s.prSet l { p with role := role, noHb := 0, lowLine := 0, yieldAt := none, asked := false }
  let s := s.lfSet l PAIR_CTL_ROLE role
  if own role != own p.role || (role = 0 && p.role = 3) then s.pairTime (own role) else s

/-- Take-backs of lane `l` within the last 3 600 s. -/
def State.recentBacks (s : State) (l : LaneId) : List Nat :=
  (s.pr l).backs.filter (fun f => decide (frameDiff (s.frame l) f < (s.framesOf 3600 : Int)))

/-- The module becomes master with event 0x0060: causes 1 first role at position 0, 2 start wait of position 1, 3 hand-over. -/
def State.becomeMaster (s : State) (l : LaneId) (cause : Nat) : State :=
  let back := cause = 3 && (s.pr l).take
  let s := (s.takeRole l 1).laneEvt l 0x0060 [(1, cause)]
  let p := s.pr l
  let s := s.prSet l { p with take := false, takeRun := 0, waiting := false, backs := if back then s.frame l :: s.recentBacks l else p.backs }
  if back && decide (s.leadLane = some l) then s.cntAdd 0x7301 4 1 else s

/-- The module becomes standby (ROLE 0) or not ready (ROLE 3) with event 0x0061: causes 1 not eligible, 2 first role,
3 hand-over. -/
def State.becomeStandby (s : State) (l : LaneId) (role cause : Nat) : State :=
  (s.takeRole l role).laneEvt l 0x0061 [(1, cause)]

/-- A standby becomes master after the loss of the partner (R504; event 0x0062). -/
def State.takeOver (s : State) (l : LaneId) : State :=
  let s := (s.takeRole l 1).laneEvt l 0x0062 [(6, s.frame l)]
  let s := s.prSet l { s.pr l with take := false, takeRun := 0, waiting := false }
  if s.leadLane = some l then s.cntAdd 0x7301 3 1 else s

/-- Position 1 has seen the line low with no master heartbeat for 0x7300:09 s. -/
def State.startWait (s : State) (l : LaneId) : State :=
  let p := s.pr l
  if p.role = 0 && p.waiting && s.eligible l && decide (s.framesOf (s.obj 0x7300 9) ≤ p.lowRun) then s.becomeMaster l 2 else s

/-- TAKE is set when its conditions have held for 0x7300:06 s and the rate limit allows it (R508). -/
def State.takeHold (s : State) (l : LaneId) : State :=
  let p := s.pr l
  let n := (s.recentBacks l).length
  if s.framesOf (s.obj 0x7300 6) ≤ p.takeRun && decide (p.role = 0) && !p.take && decide (s.obj 0x7300 7 ≠ 0)
      && decide (p.takeRun ≠ 0) then
    if n < s.obj 0x7300 7 then s.prSet l { p with take := true, held := false }
    else if p.held then s
    else (s.prSet l { p with held := true }).laneEvt l 0x0068 [(4, n)]
  else s

/-- A yielding module that has not seen ROLE 1 by cycle e + 8 is master again (R507; event 0x006A). -/
def State.yieldEnd (s : State) (l : LaneId) : State :=
  match (s.pr l).yieldAt with
  | some e =>
    if (s.pr l).role = 2 && frameGe (s.frame l) (frameAdd e 8) then (s.takeRole l 1).laneEvt l 0x006A [(6, e)] else s
  | none => s

/-- The cause of a hand-over that a master begins now (R506): 2 SAFE-2, 3 TAKE, 4 a host; 0 none. -/
def State.yieldCause (s : State) (l : LaneId) (h : Option Heartbeat) : Nat :=
  match h with
  | none => 0
  | some x =>
    if s.laneMode l == .safe2 && decide (s.obj 0x7300 4 = 1) && decide (x.mode = 3) && x.elig && x.shadowOk then 2
    else if x.takes && x.elig then 3
    else if (s.pr l).asked && x.elig then 4
    else 0

/-- A contradiction of R505 seen at this edge: after 8 edges in a row its event is recorded. -/
def State.contradiction (s : State) (l : LaneId) (high : Bool) : State :=
  let p := s.pr l
  let n := if high then p.noHb + 1 else p.lowLine + 1
  let s := (s.prSet l { p with noHb := if high then n else 0, lowLine := if high then 0 else n }).lcount l PAIR_CNT_LINE 1
  if n = 8 then s.laneEvt l (if high then 0x0063 else 0x0064) [(1, n)] else s

/-- An eligible standby decides (R504, R505, R507, R508). -/
def State.standbyDecide (s : State) (l : LaneId) (line : Bool) : State :=
  let p := s.pr l
  let mb := masterBeat p.hb
  if p.hb.any (fun h => decide (h.role = 2)) then s.becomeMaster l 3
  else if !line && !mb then
    if p.waiting then (s.prSet l { p with lowRun := p.lowRun + 1, noHb := 0, lowLine := 0 }).startWait l
    else s.takeOver l
  else
    let s := s.prSet l { p with lowRun := 0, waiting := false }
    let s := if line && !mb then s.contradiction l true
      else if !line then s.contradiction l false
      else s.prSet l { s.pr l with noHb := 0, lowLine := 0 }
    -- take-back (R508): position 0, in SAFE-3 and with SHADOW_OK, without a break
    let q := s.pr l
    if s.pairPos = 0 && decide (s.obj 0x7300 5 = 1) && s.laneMode l == .safe3 && q.ok then
      (s.prSet l { q with takeRun := q.takeRun + 1 }).takeHold l
    else s.prSet l { q with take := false, takeRun := 0, held := false }

/-- A master or yielding module decides (R505 to R507). -/
def State.masterDecide (s : State) (l : LaneId) (line : Bool) : State :=
  let p := s.pr l
  if p.role = 2 then
    if p.hb.any (fun h => decide (h.role = 1)) then s.becomeStandby l 0 3 else s.yieldEnd l
  else
    let both := line && masterBeat p.hb && !p.hb.any (fun h => decide (h.role = 2))
    let s := if both then s.lcount l PAIR_CNT_LINE 1 else s
    if both && s.pairPos = 1 then (s.takeRole l 0).laneEvt l 0x0065 []
    else
    let c := s.yieldCause l p.hb
    if c = 0 then s
    else
      let s := s.takeRole l 2
      s.prSet l { s.pr l with yieldAt := some (s.frame l), cause := c }

/-- Lane `l` decides the role for the running cycle from the agreed heartbeat and the line reading (19, roles). -/
def State.roleDecide (s : State) (l : LaneId) : State :=
  let p := s.pr l
  let line := decide (s.lf l PAIR_STAT_LINE_IN = 1)
  let mb := masterBeat p.hb
  let el := s.eligible l
  let s := s.lfSet l PAIR_STAT_ELIGIBLE (b2n el)
  if !el then
    let s := if p.role = 3 then s else s.becomeStandby l 3 1
    -- a standby that is not eligible does not take over (R504; event 0x0069: 1 identities, 2 mode)
    let p := s.pr l
    if line || mb then s.prSet l { p with lossRec := false }
    else if p.last.isSome && !p.lossRec then
      (s.prSet l { p with lossRec := true }).laneEvt l 0x0069 [(1, if safeMode (s.laneMode l) then 1 else 2)]
    else s
  else if p.role = 3 then
    -- R503
    if line || mb then s.becomeStandby l 0 2
    else if s.pairPos = 0 then s.becomeMaster l 1
    else
      let s := s.becomeStandby l 0 2
      s.prSet l { s.pr l with waiting := true, lowRun := 1 }
  else if p.role = 0 then s.standbyDecide l line
  else s.masterDecide l line

/-- Pairing at the end of A: heartbeat, shadow comparison and role (R501 to R509), and the registers of the role. -/
def State.pairStep (s : State) (l : LaneId) : State :=
  if !s.pairOn then s
  else
    let s := ((s.beatStep l).shadowStep l).roleDecide l
    let s := s.lfSet l PAIR_CTL_ROLE (s.pr l).role
    s.lfSet l PAIR_STAT_TAKEBACKS (min 15 (s.recentBacks l).length)

/-- Pairing at the edge: START forgets the partner, and a module that the edge makes ineligible has ROLE 3 from there on
(R501, R506, R510). -/
def State.roleEdge (s : State) (l : LaneId) : State :=
  if !s.pairOn then s
  else if s.laneMode l == .start then
    ((s.prSet l {}).lfSet l PAIR_CTL_ROLE 3).lfSet l PAIR_STAT (0x03000000 + (if s.lf l PAIR_STAT_LINE_IN = 1 then 2 ^ 31 else 0))
  else if !s.eligible l && decide ((s.pr l).role ≠ 3) then (s.becomeStandby l 3 1).lfSet l PAIR_STAT_ELIGIBLE 0
  else s

/-- HANDOVER_REQUEST: an authorised host writes 0x7302:00; the answer is an abort code (R506). -/
def State.askHandover (s : State) (src : Nat) : State × Nat :=
  if s.sourceLevel src < 1 then (s, 0x0304)
  else
    let may := fun (l : LaneId) => decide ((s.pr l).role = 1) && (s.pr l).hb.any Heartbeat.elig
    if s.pairOn && lanes.any (fun l => s.ticking l && may l) then
      (onLanes (fun l s => if s.ticking l && may l then s.prSet l { s.pr l with asked := true } else s) s, 0)
    else (s, 0x0501)

/-- HANDOVER_REQUEST (R506). -/
def execHandoverRequest (src : Nat) (s : State) : Host.Outcome State Fault Refusal := .next (s.askHandover src).1

/-- HANDOVER_TIMEOUT: a yielding module that has not seen ROLE 1 by cycle e + 8 (R507); it acts when that cycle has come. -/
def execHandoverTimeout (l : LaneId) (s : State) : Host.Outcome State Fault Refusal :=
  if s.ticking l && s.pairOn then .next (s.yieldEnd l) else .next s

/-- TAKE_HOLDOFF_EXPIRE: the take-back hold-off has passed (R508); it acts when its frames have been counted. -/
def execTakeHoldoffExpire (l : LaneId) (s : State) : Host.Outcome State Fault Refusal :=
  if s.ticking l && s.pairOn then .next (s.takeHold l) else .next s

/-- START_WAIT_EXPIRE: position 1 has waited (R503); it acts when its frames have been counted. -/
def execStartWaitExpire (l : LaneId) (s : State) : Host.Outcome State Fault Refusal :=
  if s.ticking l && s.pairOn then .next (s.startWait l) else .next s

/-! ### What the role does to the outputs (R502, R507) -/

/-- The images of a standby or not-ready module carry OUT = 0. -/
def State.pairOff (s : State) (l : LaneId) : Bool := s.pairOn && (decide ((s.pr l).role = 0) || decide ((s.pr l).role = 3))

/-- A module writes empty tags to its cyclic outputs: standby, not ready, or yielding after cycle e. -/
def State.pairSilent (s : State) (l : LaneId) : Bool :=
  s.pairOff l || (s.pairOn && decide ((s.pr l).role = 2) &&
    match (s.pr l).yieldAt with
    | some e => decide (0 < frameDiff (s.frame l) e)
    | none => false)

/-- The heartbeat item of the running cycle (R500). -/
def State.beatBytes (s : State) (l : LaneId) (out dig : Nat) : List Byte :=
  let p := s.pr l
  let flags := 128 * s.pairPos + 64 * b2n p.take + 32 * b2n (s.eligible l) + 16 * b2n p.ok + s.lf l VOT_V2STAT_MEMBERS
  let body := beBytes 6 (s.frame l) ++ beBytes 1 p.role ++ beBytes 1 (s.lf l TCK_MODE_MODE) ++ beBytes 1 flags
    ++ [0, 0, 0] ++ beBytes 4 out ++ beBytes 4 dig ++ padTo 16 (s.lane l).prog.id ++ padTo 16 (s.objBytes 0x0120 5)
  corkTelegram s.ownCid p.next ((p.seq.getD 0) % 65536) p.seq.isSome (decide (p.role = 3)) body

/-- In V the lane writes its heartbeat to channel 190 and keeps its OUT and OUTDIG for the comparison (R500, R509). -/
def State.beatSend (s : State) (l : LaneId) : State :=
  if !s.pairOn then s
  else
    let p := s.pr l
    let out := s.computedOut l
    let dig := crc32c p.digs
    let b := s.beatBytes l out dig
    let s := s.prSet l { p with next := (p.next + 1) % 2 ^ 32, ownOut := out, ownDig := dig }
    if (s.lane l).rt.withhold then s else s.outBank l 190 (some b)

/-! ### The mastership line (R498) -/

/-- The supervisor drives its mastership output. -/
def State.lineUpdate (s : State) : State :=
  let n := popCount 3 (laneSet (fun l => s.inVote l && (s.lane l).supplied &&
    (decide (s.lf l PAIR_CTL_ROLE = 1) || decide (s.lf l PAIR_CTL_ROLE = 2))))
  let up := s.pairOn && s.sup.supplied && s.refreshes .v2 && decide (2 ≤ s.memberCount) && decide (2 ≤ n)
  let s := if up = s.sup.lineOut then s else s.emit .pairLine 0 (b2n up) []
  let s := { s with sup := { s.sup with lineOut := up } }
  onLanes (fun l s => if (s.lane l).supplied then s.lfSet l PAIR_STAT_LINE_OUT (b2n up) else s) s

/-- At its edge the supervisor reads the partner's line, high only after 20 µs, and reports it to all lanes. -/
def State.lineEdge (s : State) (high : Bool) : State :=
  let s := { s with sup := { s.sup with lineIn := high } }
  let s := onLanes (fun l s => if (s.lane l).supplied then s.lfSet l PAIR_STAT_LINE_IN (b2n high) else s) s
  s.lineUpdate

end Sys2Proof.Machine
end

