-- ==== Sys2Proof/Machine/Access.lean ====
section
/-! DEFINITION. Access to registers and to hub memory (00 R14 to R17, 01 R41 to R47): what a read returns and clears, what a
write changes or starts, and the responses of the hub end (10 R298). -/

namespace Sys2Proof.Machine

/-- The block after an answer. -/
def nextOr (s : State) (o : Host.Outcome State Fault Refusal) : State :=
  match o with
  | .next t => t
  | _ => s

/-! ### Interrupt controller (05 R147; layout and rules PRESUMED from the RISC-V PLIC specification) -/

/-- A cause is pending and enabled. -/
def State.laneLevel (s : State) (l : LaneId) (stat en : Fld) : Bool :=
  decide (nAnd (s.lreg l stat.reg).toNat (s.lreg l en.reg).toNat ≠ 0)

/-- The same for a hub block. -/
def State.hubLevel (s : State) (stat en : Fld) : Bool :=
  decide (nAnd (s.hreg stat.reg).toNat (s.hreg en.reg).toNat ≠ 0)

/-- The level of interrupt source `i` at lane `l` (05 R147, 09 R253). Sources 13 and 14 have no cause in any register that the spec lays out:
their level is free (log entry 53). -/
def State.srcLevel (s : State) (l : LaneId) (i : Nat) : Bool :=
  if i = 1 then s.laneLevel l TCK_INT_STAT TCK_INT_EN || s.laneLevel l DIN_INT_STAT DIN_INT_EN || s.laneLevel l DOUT_INT_STAT DOUT_INT_EN
  else if i = 2 then s.laneLevel l XCH_INT_STAT XCH_INT_EN || s.laneLevel l SLY_INT_STAT SLY_INT_EN
  else if i = 3 then s.laneLevel l VOT_INT_STAT VOT_INT_EN || s.laneLevel l PWR_INT_STAT PWR_INT_EN
  else if i = 4 then s.laneLevel l AGE_INT_STAT AGE_INT_EN
  else if i = 5 then s.laneLevel l COO_INT_STAT COO_INT_EN
  else if 6 ≤ i ∧ i ≤ 9 then decide (cf l (s.core l (i - 6)) CDA_FAULT ≠ 0)
  else if i = 10 then s.laneLevel l BRG_INT_STAT BRG_INT_EN
  else if i = 11 then s.hubLevel TB_INT_STAT TB_INT_EN
  else if i = 12 then s.laneLevel l CBK_INT_STAT CBK_INT_EN
  else if i = 13 ∨ i = 14 then bitOf (Config.freeWord s.freeCtr).toNat (l.idx + 3 * (i - 13))
  else if i = 15 then s.hubLevel SW_INT_STAT SW_INT_EN
  else if 16 ≤ i ∧ i ≤ 23 then s.hubLevel (CAN_INT_STAT (i - 16)) (CAN_INT_EN (i - 16))
  else if 32 ≤ i ∧ i ≤ 223 then
    placeHas (s.pdePlace l (i - 32)) l && s.hubLevel (PDE_INT_STAT (i - 32)) (PDE_INT_EN (i - 32))
  else false

/-- Source `i` is pending: its level is high and no context has claimed it. -/
def State.srcPend (s : State) (l : LaneId) (i : Nat) : Bool := s.srcLevel l i && !(s.lane l).claimed.contains i

/-- Source `i` is enabled for context `c`. -/
def State.srcEn (s : State) (l : LaneId) (c i : Nat) : Bool := bitOf (s.lf l (PLIC_EN c (i / 32))) (i % 32)

/-- The source that a claim of context `c` takes: the pending and enabled one of highest priority, the lowest number first. -/
def State.claimSrc (s : State) (l : LaneId) (c : Nat) : Nat :=
  (List.range 255).foldl (fun best k =>
    let i := k + 1
    if s.srcPend l i && s.srcEn l c i && decide (s.lf l (PLIC_PRIO best) < s.lf l (PLIC_PRIO i)) then i else best) 0

/-- Context `c` is notified: a source is pending and enabled for it with a priority above its threshold (05 R148). -/
def State.notified (s : State) (l : LaneId) (c : Nat) : Bool :=
  (List.range 256).any (fun i => s.srcPend l i && s.srcEn l c i && decide (s.lf l (PLIC_THR c) < s.lf l (PLIC_PRIO i)))

/-- The pending bits of 32 sources. -/
def State.pendWord (s : State) (l : LaneId) (j : Nat) : Nat :=
  (List.range 32).foldl (fun a i => a + b2n (s.srcPend l (32 * j + i)) * 2 ^ i) 0

/-! ### Which register an address names -/

/-- The register that holds the byte at an address: its address and its row. -/
def regAt (addr : Nat) : Option (Nat × RegRow) :=
  let w := addr - addr % 4
  match findReg w with
  | some r => if r.view = .csr then none else some (w, r)
  | none => match findReg (w - 4) with
    | some r => if r.view ≠ .csr && r.size = 8 && 4 ≤ w then some (w - 4, r) else none
    | none => none

/-- The bits of a field. -/
def fMask (f : FRow) : Nat := (2 ^ (f.hi + 1 - f.lo) - 1) * 2 ^ f.lo

/-- The bits of bytes `i` to `i + n − 1`. -/
def byteMask (i n : Nat) : Nat := (2 ^ (8 * n) - 1) * 2 ^ (8 * i)

/-- A register's stored value in the view of lane `l`. -/
def State.rawReg (s : State) (l : LaneId) (r : RegRow) (reg : Nat) : Nat :=
  if r.view = .lane then (s.lreg l reg).toNat else (s.hreg reg).toNat

/-- Store a register's value in the view of lane `l`. -/
def State.rawSet (s : State) (l : LaneId) (r : RegRow) (reg v : Nat) : State :=
  if r.view = .lane then s.lregSet l reg (BitVec.ofNat 64 v) else s.hregSet reg (BitVec.ofNat 64 v)

/-! ### Reads (R14, R15) -/

/-- Registers whose value follows from the rest of the state: t_A, transmit mailboxes and triggers of CAN, the book, the disciplined time,
the interrupt controller. -/
def State.shown (s : State) (l : LaneId) (reg : Nat) : Option Nat :=
  let b := s.book
  if reg = TB_DISC.reg then some s.discTime
  else if reg = XCH_TA.reg then some (min 0xFFFF (phaseA (s.obj 0x1120 1) (s.lf l XCH_VOLUME)))
  else if reg = CBK_STATUS.reg then
    some (b2n b.ready * 2 ^ 31 + b2n b.ffFull * 2 ^ 30 + b2n b.counting * 2 ^ 29 + b2n b.frozen * 2 ^ 28
      + b2n b.decant.active * 2 ^ 27 + (64 - (s.lane l).book.queue.length))
  else if reg = CBK_NEXT.reg then some b.next
  else if reg = CBK_FF_BASE.reg then some b.ffBase
  else if reg = CBK_FF_COUNT.reg then some b.ffCount
  else if reg = CBK_FREEZE.reg then some b.freeze
  else if reg = CBK_GCNT.reg then some (b.trigIgn * 65536 + b.summaries)
  else if 0x50200000 ≤ reg ∧ reg < 0x50208000 then
    let ch := (reg - 0x50200000) / 0x1000
    let o := reg % 0x1000
    if o = 0x024 then
      some ((List.range 32).foldl (fun v i =>
        v + b2n ((s.canOf ch (64 + i)).any (fun c => (s.chan c).out.isSome)) * 2 ^ i) 0)
    else if 0x500 ≤ o ∧ o < 0x600 ∧ o % 8 = 4 then
      match s.canOf ch (64 + (o - 0x500) / 8) with
      | some c => some (b2n (s.chan c).out.isSome * 2 ^ 31 + b2n (s.chan c).onWire * 2 ^ 30 + min 15 (s.chan c).retries * 2 ^ 26)
      | none => some 0
    else if 0x800 ≤ o ∧ o < 0xC00 ∧ ch < 4 then some (leAt (s.objBytes (0x4003 + 0x100 * ch) 2) (o - 0x800) 4)
    else if 0x500 ≤ o ∧ o < 0x600 ∧ o % 8 = 0 then
      some (setBits (s.hreg reg).toNat 7 0 ((s.canOf ch (64 + (o - 0x500) / 8)).getD 0xFF))
    else none
  else if 0x44001000 ≤ reg ∧ reg < 0x44001020 then some (s.pendWord l ((reg - 0x44001000) / 4))
  else none

/-- The fields that a read returns: every field but WO ones; reserved bits read 0 (R17). -/
def visible (r : RegRow) (v : Nat) : Nat :=
  r.flds.foldl (fun a f => if f.acc = .wo then a else nOr a (nAnd v (fMask f))) 0

/-- What a read leaves of a register: RC fields that it touches are cleared, which leaves their reset value: 0 of a counter, and 0x7FFF
of AGE_SLACK, a least value since the last read (log entry 40). -/
def cleared (r : RegRow) (mask v : Nat) : Nat :=
  r.flds.foldl (fun a f =>
    if f.acc = .rc && decide (nAnd mask (fMask f) ≠ 0) then nOr (nAndNot a (fMask f)) (nAnd r.reset (fMask f)) else a) v

/-- Read the bytes in `mask` of a register by a core: its whole value, and the block with its RC fields cleared; a register that is
RO for an application core keeps them on its read (04 R137). A claim register takes the source it returns. -/
def State.regRead (s : State) (l : LaneId) (core reg : Nat) (r : RegRow) (mask : Nat) : Nat × State :=
  match mapFind (s.lane l).tick.dueRegs reg with
  | some v => (v, s)
  | none =>
    if 0x44200000 ≤ reg ∧ reg % 0x1000 = 4 ∧ reg < 0x4420A000 then
      let i := s.claimSrc l ((reg - 0x44200000) / 0x1000)
      (i, if i = 0 then s else s.updLane l (fun x => { x with claimed := i :: x.claimed }))
    else if reg = TCK_SINCE.reg ∧ s.lf l TCK_STATUS_RUN = 1 then
      let (w, s) := s.freeWord
      (w.toNat % 2 ^ 32, s)
    else
      let v := match s.shown l reg with
        | some v => v
        | none => s.rawReg l r reg
      let w := if r.mgmt && decide (core ≠ 4) then v else cleared r mask v
      (visible r v, if w = v then s else s.rawSet l r reg w)

/-! ### Writes (R14, R16, R17) -/

/-- One field after a write of `v` under `mask`. -/
def fieldWrite (v mask : Nat) (old : Nat) (f : FRow) : Nat :=
  let m := nAnd mask (fMask f)
  match f.acc with
  | .rw | .wo => nOr (nAndNot old m) (nAnd v m)
  | .w1c => nAndNot old (nAnd v m)
  | .w1s => nOr old (nAnd v m)
  | .ro | .rc => old

/-- A register after a write under its fields' access codes. -/
def written (r : RegRow) (old v mask : Nat) : Nat := r.flds.foldl (fieldWrite v mask) old

/-- `v` with field `f` put back to its old value unless `ok` holds of the new one (R17: the previous value is kept). -/
def keepUnless (f : Fld) (ok : Nat → Bool) (old v : Nat) : Nat :=
  if ok (bitsOf v f.hi f.lo) then v else setBits v f.hi f.lo (bitsOf old f.hi f.lo)

/-- A region of `n` bytes lies wholly in private lane SRAM. -/
def inSram (base n : Nat) : Bool := decide (0x08000000 ≤ base) && decide (base + n ≤ 0x08600000)

/-- The exchange unit takes writes of its setting: START, CONFIGURE and program switches (04). -/
def State.xchOpen (s : State) (l : LaneId) : Bool :=
  s.laneMode l == .start || s.laneMode l == .configure || (s.lane l).newProg.isSome

/-- The value that a register of lane `l` has from the next edge on. -/
def State.comingReg (s : State) (l : LaneId) (reg : Nat) : Nat :=
  (mapFind (s.lane l).tick.dueRegs reg).getD (s.lreg l reg).toNat

/-- A write of an XCH setting register with the value `v` that its fields would take (04 R116, R122, R137, R138). -/
def State.xchWrite (s : State) (l : LaneId) (reg v : Nat) : State :=
  if !s.xchOpen l then s
  else
    let k := s.imageBytes l
    if reg = XCH_CFG.reg then if bitsOf v 15 8 = 0 then s else s.setDueReg l reg v
    else if reg = XCH_LAYOUT.reg then
      if 256 + 8 * bitsOf v 31 20 + 4 * (bitsOf v 19 10 + bitsOf v 9 0) ≤ k then s.setDueReg l reg v else s
    else if reg = XCH_VCOUNT.reg then
      if 256 < v then s
      else
        -- the list is checked as it will be in force (R116)
        let t := (s.lfSet l XCH_VCOUNT v).lregSet l XCH_VLIST.reg (BitVec.ofNat 64 (s.comingReg l XCH_VLIST.reg))
        let es := t.ventries l
        let vol := (es.map VEntry.size).sum
        let s := s.lfSet l XCH_STATUS_VLIST_ERR (b2n (vlistBad es))
        (s.lfSet l XCH_VOLUME (min vol 0x1FFFFF)).setDueReg l reg v
    else if reg = XCH_SAFEMAP.reg then
      let n := bitsOf (s.comingReg l XCH_LAYOUT.reg) 31 20
      if inSram v (4 + 8 * n) then (s.lmemSet l v (safeMap (s.lane l).prog n)).setDueReg l reg v else s
    else if inSram v (if reg = XCH_VLIST.reg then 0x1100 else k) then s.setDueReg l reg v
    else s

/-- The state map keeps R185. -/
def smapOk (es : List (Nat × Nat)) : Bool :=
  es.all (fun e => inSram (4096 * e.1) (4096 * e.2)
    || (decide (0x80000000 ≤ 4096 * e.1) && decide (4096 * (e.1 + e.2) ≤ 0x180000000)))
  && decide ((es.map (·.2)).sum ≤ 32768)

/-- The write of a 16 × 4-bit or 2-bit array keeps the fields whose new code is reserved. -/
def keepFields (n width top : Nat) (old v : Nat) : Nat :=
  (List.range n).foldl (fun a i => keepUnless ⟨0, width * i + width - 1, width * i⟩ (fun x => decide (x ≤ top)) old a) v

/-- A write to a lane register with rules of its own: `x` is the register's value after the write by its access codes, `v` the
value written under `mask`. -/
def State.laneWrite (s : State) (l : LaneId) (core reg old x v mask : Nat) : Option State :=
  let w := nAnd v mask
  let put := fun (y : Nat) => some (s.lregSet l reg (BitVec.ofNat 64 y))
  if reg = TCK_CLS_DONE.reg then some (nextOr s (execTckClsDoneWrite l (BitVec.ofNat 64 (w % 256)) s))
  else if reg = TCK_SYNC.reg then
    let slew := bitsOf x 13 7
    let win := bitsOf x 23 14
    if 10 * slew * 1000 ≤ s.lanePeriod l && decide (1 ≤ slew) && decide (slew ≤ 100) && decide (10 ≤ win) && decide (win ≤ 1000)
        && decide (1 ≤ bitsOf x 31 24) then put x else some s
  else if 0x40030000 ≤ reg ∧ reg ≤ 0x40030024 then some (s.xchWrite l reg x)
  else if reg = (VOT_IMG 7).reg then some (nextOr s (execVotImgSend l core (BitVec.ofNat 64 x) s))
  else if reg = VOT_CLS0.reg ∨ reg = VOT_CLS1.reg then put (keepFields 8 4 5 old x)
  else if reg = VOT_SPOWN.reg then put (keepFields 16 2 2 old x)
  else if reg = VOT_CTL.reg then
    let y := keepUnless VOT_CTL_WD_LIM (fun n => decide (n ≤ 4)) old (keepUnless VOT_CTL_WH_LIM (fun n => decide (n ≤ 8)) old x)
    let s := s.lregSet l reg (BitVec.ofNat 64 (setBit y 0 false))
    some (if bitOf w 0 then nextOr s (execVotCtlSend l core s) else s)
  else if reg = VOT_SMAP.reg then
    -- of a set to be switched to: in force from the edge of the switch on (08 R237)
    if (s.lane l).newProg.isSome && s.rack.switchFrame.isSome then some (s.setDueReg l reg x) else put x
  else if reg = VOT_SCFG.reg then
    let y := keepUnless VOT_SCFG_SLICE_KIB (fun n => decide (n ≠ 0)) old x
    let t := (s.lregSet l reg (BitVec.ofNat 64 y)).lregSet l VOT_SMAP.reg (BitVec.ofNat 64 (s.comingReg l VOT_SMAP.reg))
    some (if bitsOf y 6 0 ≤ 64 && smapOk (t.smap l) then
        if (s.lane l).newProg.isSome && s.rack.switchFrame.isSome then s.setDueReg l reg y else s.lregSet l reg (BitVec.ofNat 64 y)
      else s)
  else if reg = SLY_CRC_CTL.reg then put (keepUnless SLY_CRC_CTL_POLY (fun n => decide (n ≤ 1)) old x)
  else if reg = SLY_CRC_GO.reg then some (nextOr s (execSlyCrcGo l core w s))
  else if reg = DIN_CFG.reg then some (s.setDueReg l reg (keepFields 4 4 6 old x))
  else if 0x40010100 ≤ reg ∧ reg < 0x40010180 then
    some (if 1 ≤ x % 65536 ∧ x % 65536 ≤ 65000 then s.setDueReg l reg x else s)
  else if reg = DOUT_TP.reg ∨ reg = BRK_RANGE.reg then some (s.setDueReg l reg x)
  else if 0x40010440 ≤ reg ∧ reg ≤ 0x40010480 then some (if 100 ≤ x % 512 ∧ x % 512 ≤ 500 then s.setDueReg l reg x else s)
  else if reg = COO_CMD.reg then some (nextOr s (execCooperGo l core (if nAnd mask 1 = 1 then x else setBit x 0 false) s))
  else if reg = COO_CFG.reg then some (if 16 ≤ x % 256 ∧ x % 256 ≤ 32 then s.lregSet l reg (BitVec.ofNat 64 x) else s)
  else if reg = COO_STOP.reg then some (nextOr s (execCooperStop l core w s))
  else if reg = AGE_AVS.reg then
    let y := keepUnless AGE_AVS_SLACK_PLAN (fun n => decide (40 ≤ n) && decide (n ≤ 120)) old x
    let y := keepUnless AGE_AVS_SLACK_HARD (fun n => decide (10 ≤ n) && decide (n + 20 ≤ bitsOf y 31 24)) old y
    let y := keepUnless AGE_AVS_V_FLOOR (fun n => decide (20 ≤ n) && decide (n ≤ 60) && decide (s.lf l AGE_VMIN + 12 ≤ n)) old y
    put (setBits y 7 0 (max (bitsOf y 7 0) (bitsOf y 15 8)))
  else if reg = AGE_PLAN.reg then
    put (keepUnless AGE_PLAN_F_ALLOW (fun n => decide (n ≤ 16) && decide (bitsOf old 12 8 ≤ n)) old x)
  else if reg = PAIR_CFG.reg then put (keepUnless PAIR_CFG_SHADOW_N (fun n => decide (n ≠ 0)) old x)
  else if 0x40020300 ≤ reg ∧ reg < 0x40020340 then some s
  else if reg = 0x44000000 then some s
  else if 0x44200000 ≤ reg ∧ reg % 0x1000 = 4 ∧ reg < 0x4420A000 then
    some (s.updLane l (fun y => { y with claimed := y.claimed.filter (· ≠ v % 2 ^ 32) }))
  else if reg = BRG_RESET.reg then some s
  else if reg = BRG_CFG.reg then
    put (keepUnless BRG_CFG_DISCARD (fun n => decide (1 ≤ n) && decide (n ≤ 1000)) old x)
  else none

/-- A write to a register of the hub with rules of its own: the block and the response (0 OK, 2 SLVERR). -/
def State.hubWrite (s : State) (l : LaneId) (core reg x v mask : Nat) : Option (State × Nat) :=
  let w := nAnd v mask
  let act := fun (o : Host.Outcome State Fault Refusal) => some (nextOr s o, 0)
  let owned := fun (o : Option State) => some (match o with | some t => (t, 0) | none => (s, 2))
  if 0x50000000 ≤ reg ∧ reg < 0x5000C000 then
    let c := (reg - 0x50000000) / 256
    let o := reg % 256
    if !s.pdeMay l c then some (s, 2)
    else if o = 0x40 then
      let s := if bitOf w 0 then s.pdeGo c else s
      some (if bitOf w 1 then s.pdeAbort c else s, 0)
    else if o = 0x44 then some (s.pdeDoorbell c, 0)
    else if o = 0x54 then some (s.pdeRdWrite c x, 0)
    else if o = 0x20 then
      -- reserved owners and interrupt modes keep the previous value (00 R17)
      let old := (s.lreg l reg).toNat
      let y := keepUnless (PDE_SH_CFG_SPOWN c) (fun n => decide (n ≤ 2)) old x
      some (s.lregSet l reg (BitVec.ofNat 64 (keepUnless (PDE_SH_CFG_IRQM c) (fun n => decide (n ≤ 3)) old y)), 0)
    else if o = 0x38 then some (if bitOf w 0 then s.lfSet l (PDE_ARM c) 1 else s, 0)
    else none
  else if reg = PDE_VDONE.reg then act (execPdeVdoneWrite l (w % 65536) s)
  else if 0x5000D000 ≤ reg ∧ reg < 0x5000D200 then
    let q := (reg - 0x5000D000) / 16
    if reg % 16 = 0 then owned (s.cqBaseWrite l q x)
    else if reg % 16 = 8 then owned (s.cqTailWrite l q x)
    else none
  else if 0x50200000 ≤ reg ∧ reg < 0x50208000 ∧ reg % 0x1000 = 0x20 then
    act (execCanTxcancelWrite l ((reg - 0x50200000) / 0x1000) w s)
  else if reg = TB_CAPTURE.reg then act (execTbCapture l w 0 s)
  else if reg = TB_SETTIME.reg then
    -- 64 bits at once, or the upper word after the lower one
    if mask / 2 ^ 32 = 0 then some (s.hregSet reg (BitVec.ofNat 64 x), 0)
    else owned (s.settimeWrite core x)
  else if 0x50320000 ≤ reg ∧ reg < 0x50320024 ∧ core ≠ 4 then some (s, 0)
  else if reg = (CBK_SUB 9).reg then act (execCbkSubmit l core x s)
  else if reg = (VOT_V1_IMG 7).reg then act (execVotV1ImgLatch l (BitVec.ofNat 64 x) s)
  else none

/-- Write `v` under `mask` to a register: the block and the response. -/
def State.regWrite (s : State) (l : LaneId) (core reg : Nat) (r : RegRow) (v mask : Nat) : State × Nat :=
  if r.mgmt && decide (core ≠ 4) then (s, 0)
  else
    let old := (mapFind (s.lane l).tick.dueRegs reg).getD (s.rawReg l r reg)
    let x := written r old v mask
    if reg < 0x50000000 ∨ (0x50310000 ≤ reg ∧ reg < 0x50310100) then
      match s.laneWrite l core reg old x v mask with
      | some t => (t, 0)
      | none => (s.rawSet l r reg x, 0)
    else match s.hubWrite l core reg x v mask with
      | some a => a
      | none => (s.rawSet l r reg x, 0)

/-! ### Accesses of several bytes -/

/-- The bytes of an access that fall into the register of its first byte, and the rest. -/
def splitReg (reg size : Nat) (bs : List (Nat × Byte)) : List (Nat × Byte) × List (Nat × Byte) :=
  (bs.takeWhile (fun p => decide (reg ≤ p.1) && decide (p.1 < reg + size)),
    bs.dropWhile (fun p => decide (reg ≤ p.1) && decide (p.1 < reg + size)))

/-- The value and the mask that enabled bytes spell in a register. -/
def bytesOn (reg : Nat) (bs : List (Nat × Byte)) : Nat × Nat :=
  bs.foldl (fun a p => (a.1 + p.2.toNat * 2 ^ (8 * (p.1 - reg)), a.2 + 255 * 2 ^ (8 * (p.1 - reg)))) (0, 0)

/-- Every byte lies in a register. -/
def allRegs (bs : List (Nat × Byte)) : Bool := bs.all (fun p => (regAt p.1).isSome)

/-- Write enabled bytes to registers, one register after the other; the first response that is not OK stops it. -/
def State.regStore (s : State) (l : LaneId) (core : Nat) : Nat → List (Nat × Byte) → State × Nat
  | 0, _ => (s, 0)
  | _, [] => (s, 0)
  | n + 1, (a, b) :: bs =>
    match regAt a with
    | none => (s, 1)
    | some (reg, r) =>
      let (mine, rest) := splitReg reg r.size ((a, b) :: bs)
      let (v, mask) := bytesOn reg mine
      let (s, code) := s.regWrite l core reg r v mask
      if code ≠ 0 then (s, code) else s.regStore l core n rest

/-- Read `n` bytes of registers from `addr` on. -/
def State.regLoad (s : State) (l : LaneId) (core : Nat) : Nat → Nat → Nat → State × List Byte
  | 0, _, _ => (s, [])
  | _, _, 0 => (s, [])
  | k + 1, addr, n =>
    match regAt addr with
    | none => (s, [])
    | some (reg, r) =>
      let i := addr - reg
      let m := min n (r.size - i)
      let half := decide (r.size = 8) && decide (m = 4)
      -- R79, R372: 32-bit loads of the lower word capture the upper one
      let (v, s) :=
        if half && decide (reg = TCK_FRAME.reg) then
          if i = 0 then
            (s.frame l, s.updLane l (fun x => { x with tick := { x.tick with frameHi := s.frame l / 2 ^ 32 } }))
          else ((s.lane l).tick.frameHi * 2 ^ 32, s)
        else if half && decide (reg = TB_RAW.reg ∨ reg = TB_DISC.reg) then
          if i = 0 then s.tbLowRead l (reg == TB_DISC.reg) else (s.tbHighRead l (reg == TB_DISC.reg) * 2 ^ 32, s)
        else s.regRead l core reg r (byteMask i m)
      let (s, rest) := s.regLoad l core k (addr + m) (n - m)
      (s, leBytes m (v / 2 ^ (8 * i)) ++ rest)

/-! ### The hub end (10) -/

/-- MRAM: lane `l` may write the address (01 R41). -/
def mramMay (l : LaneId) (addr : Nat) : Bool := decide (partBase l ≤ addr) && decide (addr < partBase l + 0x400000)

/-- The byte at offset `o` of an area of the cellar book (17 R455). -/
def bookByte (m : List (Nat × BookRec)) (o : Nat) : Byte :=
  match mapFind m (o / 64) with
  | some r => (recordBytes r).getD (o % 64) 0
  | none => 0

/-- Bases of the tail ring, the first-fill partition and the running ring (17 R455). -/
def tailBase : Nat := 0x62010000
def ffAreaBase : Nat := 0x62050000
def ringBase : Nat := 0x63050000

/-- A byte of MRAM: a retained partition, the repair map and the ageing history as bytes, the cellar book from its records
(17 R455); the format of the stored objects and of the book's control copies is not given: free bytes. -/
def State.mramByte (s : State) (addr : Nat) : State × Byte :=
  if decide (addr < 0x61000000) then (s, mapGet memDefault s.hub.mram addr)
  else if decide (addr < tailBase) then (s.drawn, BitVec.ofNat 8 (Config.freeWord s.freeCtr).toNat)
  else if decide (addr < ffAreaBase) then (s, bookByte s.book.tail (addr - tailBase))
  else if decide (addr < ringBase) then (s, bookByte s.book.ff (addr - ffAreaBase))
  else (s, bookByte s.book.ring (addr - ringBase))

/-- Bytes of MRAM. -/
def State.mramLoad (s : State) : Nat → Nat → State × List Byte
  | 0, _ => (s, [])
  | n + 1, addr =>
    let (s, b) := s.mramByte addr
    let (s, bs) := s.mramLoad n (addr + 1)
    (s, b :: bs)

/-- The address lies in the hub register window, in a mapped block (01 R44). -/
def inWindow (addr : Nat) : Bool := decide (0x50000000 ≤ addr) && decide (addr < 0x50350000)

/-- The address lies in hub SRAM or MRAM. -/
def inHubMem (addr : Nat) : Bool :=
  (decide (0x58000000 ≤ addr) && decide (addr < 0x59000000)) || (decide (0x60000000 ≤ addr) && decide (addr < 0x64000000))

/-- The hub end performs a write of lane `l` and answers (R298). -/
def State.hubStore (s : State) (l : LaneId) (core : Nat) (bs : List (Nat × Byte)) : State × Nat :=
  match bs with
  | [] => (s, 0)
  | (a, _) :: _ =>
    if inHubMem a then
      if a < 0x60000000 then ({ s with hub := { s.hub with sram := memWriteCells s.hub.sram bs } }, 0)
      else if bs.all (fun p => mramMay l p.1) then ({ s with hub := { s.hub with mram := memWriteCells s.hub.mram bs } }, 0)
      else (s, 2)
    else if allRegs bs then s.regStore l core bs.length bs
    else (s, 1)

/-- The hub end performs a read of lane `l`: the block, the bytes and the response; `ecc` marks an uncorrectable error in hub
SRAM or MRAM (R298). -/
def State.hubLoad (s : State) (l : LaneId) (core addr n : Nat) (ecc : Bool) : State × List Byte × Nat :=
  if inHubMem addr then
    if ecc then (s, [], 3)
    else if addr < 0x60000000 then (s, memRead s.hub.sram addr n, 0)
    else
      let (s, bs) := s.mramLoad n addr
      (s, bs, 0)
  else if (List.range n).all (fun i => (regAt (addr + i)).isSome) then
    let (s, bs) := s.regLoad l core n addr n
    (s, bs, 0)
  else (s, [], 1)

/-! ### What a core sees -/

/-- A load's bytes as the value of its destination register. -/
def loadWord (bs : List Byte) (signed : Bool) : Word :=
  if signed then BitVec.ofInt 64 (toInt (8 * bs.length) (leNat bs)) else BitVec.ofNat 64 (leNat bs)

/-- Write a core's register. -/
def State.coreLoad (s : State) (l : LaneId) (core rd : Nat) (bs : List Byte) (signed : Bool) : State :=
  s.coreSet l core (xSet (s.core l core) rd (loadWord bs signed))

/-- A load (cause 5) or store/AMO (cause 7) access fault with its address. -/
def State.accessFault (s : State) (l : LaneId) (core pc addr : Nat) (store : Bool) : State :=
  s.coreTrap l core (if store then 7 else 5) pc (some addr)

/-- The bytes of a store. -/
def storeBytes (addr size : Nat) (v : Word) : List (Nat × Byte) :=
  (leBytes size v.toNat).zipIdx.map (fun p => (addr + p.2, p.1))

/-- Sizes of loads and stores. -/
def accessSize (n : Nat) : Bool := n == 1 || n == 2 || n == 4 || n == 8

/-- A lane peripheral's address. -/
def inPeripheral (addr : Nat) : Bool :=
  (decide (0x40000000 ≤ addr) && decide (addr < 0x40060000)) || (decide (0x44000000 ≤ addr) && decide (addr < 0x48000000))

/-- An access to a register by a core, performed at once: lane peripherals and the lane end of the bridge. -/
def State.localStore (s : State) (l : LaneId) (core pc addr size : Nat) (v : Word) : State :=
  let bs := storeBytes addr size v
  if addr % size ≠ 0 || !allRegs bs then s.accessFault l core pc addr true else (s.regStore l core size bs).1

/-- A load of a register by a core, performed at once. -/
def State.localLoad (s : State) (l : LaneId) (core pc addr size rd : Nat) (signed : Bool) : State :=
  if addr % size ≠ 0 || !(List.range size).all (fun i => (regAt (addr + i)).isSome) then s.accessFault l core pc addr false
  else
    let (s, bs) := s.regLoad l core size addr size
    s.coreLoad l core rd bs signed

end Sys2Proof.Machine
end

