-- ==== Sys2Proof/Machine/Protect.lean ====
section
/-! DEFINITION. Privilege and memory protection of the cores (05 R142 to R146, R157, R166, R167): the dispatch of a task with its PMP
entries, accesses of tasks, the A extension on lane memory, and the CSRs. -/

namespace Sys2Proof.Machine

/-! ### Grants (R145, R146) -/

/-- Lane SRAM or LPDDR4X (01 R44): where LR, SC and AMO instructions are performed (R142). -/
def inLaneRam (addr : Nat) : Bool :=
  (decide (0x08000000 ≤ addr) && decide (addr < 0x08800000)) || (decide (0x80000000 ≤ addr) && decide (addr < 0x180000000))

/-- The region lies in lane memory: what the runtime may place a task's state in (07 R209). -/
def regionInRam (r : Region) : Bool :=
  regionIn r (span 0x08000000 0x800000) || regionIn r (span 0x80000000 0x100000000)

/-- The exchange-area buffers of the input channels of the stations that a task references (R145; log entry 54). -/
def State.taskBuffers (s : State) (l : LaneId) (t : Nat) : List Region :=
  let sts := ((s.lane l).prog.stations.filter (fun r => r.1 == t && r.2.2 == 0)).map (·.2.1)
  let cs := sts.flatMap (fun st => s.stationChans st 4)
  cs.flatMap (fun c =>
    [PDE_BANK0 c, PDE_BANK1 c].map (fun f => ⟨exchangeBase + s.hf f, s.hf (PDE_SIZE_SIZE c), true, false, false⟩))

/-- What the PMP grants while task `d` runs on lane `l` (R145, R146): a safety task its code, the agreed image, its buffers, and the state
and output region of the pass; a non-safety task the regions of its declaration. 16 entries at most (R143). -/
def State.grants (s : State) (l : LaneId) (d : TaskDecl) (enc : Bool) : List Region :=
  let p := (s.lane l).prog
  let code : Region := ⟨p.codeAt, p.code, true, false, true⟩
  if d.safe then
    let agreed : Region := ⟨(s.lreg l XCH_AGREED.reg).toNat, s.imageBytes l, true, false, false⟩
    let own := ((Config.taskRegions p.layout d.task enc).filter regionInRam).map (fun r => { r with read := true, write := true, exec := false })
    (code :: agreed :: (own ++ s.taskBuffers l d.task)).take 16
  else (Config.regionDecls p.regions d.task).take 16

/-- The lane runtime dispatches a task on a core: its PMP entries are programmed (R143), the counters are closed and the rounding mode is
to nearest even for a safety task (R144, R157), and EN is 0 for a non-safety task (R167). The core then runs in U mode. -/
def State.dispatch (s : State) (l : LaneId) (c : Nat) (d : TaskDecl) : State :=
  let k := s.core l c
  let k := { k with priv := .u, task := some d.task, pmp := s.grants l d (decide (cf l k CDA_CTL_PASS = 1)), resv := none }
  let k := if d.safe then { k with mcounteren := 0, scounteren := 0, frm := 0 } else cfSet l k CDA_CTL_EN 0
  s.coreSet l c k

/-- An entry in force grants an access of `n` bytes. -/
def CoreState.pmpAllows (k : CoreState) (addr n : Nat) (write : Bool) : Bool :=
  k.pmp.any (fun r => decide (r.base ≤ addr) && decide (addr + n ≤ r.base + r.size) && (if write then r.write else r.read))

/-- An access of `n` bytes by whoever runs on the core: the kernel reaches everything, the dispatcher what the kernel grants it (log entry
55), a task what the PMP grants it; any other access is an access fault, which ends the task (R145, 07 R206). The core runs in M, S and U
mode for the three; the lane-management core has M mode only. -/
def State.guarded (s : State) (l : LaneId) (core pc addr n : Nat) (write : Bool) (who : Runner) (f : State → State) : State :=
  match who with
  | .kernel => f (s.coreSet l core { s.core l core with priv := .m })
  | .dispatcher => f (s.coreSet l core { s.core l core with priv := if core = 4 then .m else .s })
  | .task t =>
    if core = 4 then f s
    else match s.decl l t with
      | none => s.accessFault l core pc addr write
      | some d =>
        let s := s.dispatch l core d
        if (s.core l core).pmpAllows addr n write then f s else s.accessFault l core pc addr write

/-! ### The A extension (R140, R142) -/

/-- The new value of an AMO on `w` bits. -/
def amoValue (op : AmoOp) (w : Nat) (old v : Nat) : Nat :=
  let v := v % 2 ^ w
  match op with
  | .swap => v
  | .add => (old + v) % 2 ^ w
  | .xor => nXor old v
  | .and => nAnd old v
  | .or => nOr old v
  | .min => if toInt w v < toInt w old then v else old
  | .max => if toInt w old < toInt w v then v else old
  | .minu => min old v
  | .maxu => max old v

/-- A store to lane memory ends the reservations that it meets, of every core but `core` (RVWMO, R142). -/
def State.breakResv (s : State) (l : LaneId) (core addr n : Nat) : State :=
  s.updLane l (fun x => { x with cores := x.cores.map (fun p =>
    match p.2.resv with
    | some (a, m) => if p.1 ≠ core && decide (a < addr + n) && decide (addr < a + m) then (p.1, { p.2 with resv := none }) else p
    | none => p) })

/-- A store of a core to lane memory. -/
def State.laneMemStore (s : State) (l : LaneId) (core addr n : Nat) (v : Nat) : State :=
  (s.lmemSet l addr (leBytes n v)).breakResv l core addr n

/-- An LR, SC or AMO on lane memory at an aligned address (R142): words of 4 or 8 bytes, a 4-byte result sign-extended; SC answers 0 when it
stores. -/
def State.atomicOp (s : State) (l : LaneId) (core addr size rd : Nat) (op : MemOp) : State :=
  let old := leNat (s.lmem l addr size)
  let loaded := s.coreLoad l core rd (leBytes size old) true
  match op with
  | .load => s
  | .lr => loaded.coreSet l core { loaded.core l core with resv := some (addr, size) }
  | .sc v =>
    let k := s.core l core
    let s := s.coreSet l core { k with resv := none }
    if k.resv = some (addr, size) then (s.laneMemStore l core addr size v.toNat).coreLoad l core rd [0] false
    else s.coreLoad l core rd [1] false
  | .amo f v => loaded.laneMemStore l core addr size (amoValue f (8 * size) old v.toNat)

/-- The exception of an LR, SC or AMO that cannot be performed: illegal on the lane-management core, misaligned, or outside lane SRAM and
LPDDR4X, which is a store/AMO access fault (R140, R142; the alignment exceptions PRESUMED from the A extension, log entry 56). -/
def atomicTrap (core addr size : Nat) (op : MemOp) : Option Nat :=
  if core = 4 || (size ≠ 4 && size ≠ 8) then some 2
  else if addr % size ≠ 0 then some (if op = .lr then 4 else 6)
  else if !inLaneRam addr then some 7
  else none

/-! ### CSRs (R140, R143, R144, R157, R166) -/

/-- The bits of a CDA CSR that software sets (R166). -/
def csrWritable (n : Nat) : Nat :=
  match n with
  | 0x7C0 => 7
  | 0x7C4 | 0x7C5 | 0x7C8 => 0xFFFFFFFF
  | _ => 0

/-- The value that a CSR instruction writes over `old`; none where it writes nothing, as a set or clear of no bit (log entry 57). -/
def csrNew (op : CsrOp) (old v : Nat) : Option Nat :=
  match op with
  | .rw => some v
  | .rs => if v = 0 then none else some (nOr old v)
  | .rc => if v = 0 then none else some (nAndNot old v)

/-- A CDA CSR after a write of `w`: control, signatures and the count are set, CDA_FAULT bits written 1 clear, read-only fields keep their
value; FTRAP stays 0 in SAFE-3 and SAFE-2 (R166, R167; log entry 58). -/
def State.cdaWrite (s : State) (l : LaneId) (csr old w : Nat) : Nat :=
  let new := if csr = 0x7C6 then nAndNot old (nAnd w 0x3F) else nOr (nAndNot old (csrWritable csr)) (nAnd w (csrWritable csr))
  if csr = 0x7C0 && safeMode (s.laneMode l) then setBit new 2 false else new

/-- A counter CSR can be read in a mode: cycle, time, instret and the hpmcounters under mcounteren and scounteren (R144). -/
def counterOpen (k : CoreState) (pr : Priv) (n : Nat) : Bool :=
  let i := n - 0xC00
  match pr with
  | .m => true
  | .s => bitOf k.mcounteren i
  | .u => bitOf k.mcounteren i && bitOf k.scounteren i

/-- The value of a CSR beside the CDA ones that the spec names, and the lowest mode that may access it; none where the core has no such
CSR. mip shows the interrupts that the contexts of the core are notified of. -/
def State.baseCsr (s : State) (l : LaneId) (c n : Nat) : Option (Nat × Priv) :=
  let k := s.core l c
  if n = 0x344 then some (b2n (s.notified l (2 * c)) * 2 ^ 11 + b2n (decide (c < 4) && s.notified l (2 * c + 1)) * 2 ^ 9, .m)
  else if c = 4 then none
  else if n = 1 then some (k.fflags, .u)
  else if n = 2 then some (k.frm, .u)
  else if n = 3 then some (k.fflags + 32 * k.frm, .u)
  else if n = 0x106 then some (k.scounteren, .s)
  else if n = 0x180 then some (k.satp.toNat, .s)
  else if n = 0x306 then some (k.mcounteren, .m)
  else none

/-- Write such a CSR: satp is fixed to Bare, and mip shows levels. -/
def baseCsrSet (k : CoreState) (n v : Nat) : CoreState :=
  if n = 1 then { k with fflags := v % 32 }
  else if n = 2 then { k with frm := v % 8 }
  else if n = 3 then { k with fflags := v % 32, frm := v / 32 % 8 }
  else if n = 0x106 then { k with scounteren := v % 2 ^ 32 }
  else if n = 0x306 then { k with mcounteren := v % 2 ^ 32 }
  else k

/-- The mode is high enough. -/
def privAtLeast : Priv → Priv → Bool
  | .m, _ => true
  | .s, .m => false
  | .s, _ => true
  | .u, .u => true
  | .u, _ => false

/-- CDA_CSR_WRITE: a CSR instruction of a core puts the old value into `rd` and writes the CSR (R166). S and U mode, 0x7CA to 0x7CF and the
lane-management core give an illegal-instruction exception on a CDA CSR, as do a counter that is closed or written (R144) and a CSR
that the core does not have. A counter's value is free. -/
def execCdaCsrWrite (l : LaneId) (c pc : Nat) (pr : Priv) (op : CsrOp) (csr rd : Nat) (v : Word) (s : State) :
    Host.Outcome State Fault Refusal :=
  let k := s.core l c
  let trap := s.coreTrap l c 2 pc none
  if !s.coreUp l c then .next s
  else if 0x7C0 ≤ csr ∧ csr ≤ 0x7CF then
    if decide (c = 4) || pr != .m || decide (0x7CA ≤ csr) then .next trap
    else
      let old := (coreCsr l k csr).toNat
      let k := xSet k rd (BitVec.ofNat 64 old)
      .next (s.coreSet l c (match csrNew op old v.toNat with
        | none => k
        | some w => coreCsrSet l k csr (BitVec.ofNat 64 (s.cdaWrite l csr old w))))
  else if 0xC00 ≤ csr ∧ csr ≤ 0xC1F then
    if c = 4 || !counterOpen k pr csr || op = .rw || v ≠ 0 then .next trap
    else .next ((s.coreSet l c (xSet k rd (Config.freeWord s.freeCtr))).drawn)
  else match s.baseCsr l c csr with
    | none => .next trap
    | some (old, least) =>
      if !privAtLeast pr least then .next trap
      else
        let k := xSet k rd (BitVec.ofNat 64 old)
        .next (s.coreSet l c (match csrNew op old v.toNat with
          | none => k
          | some w => baseCsrSet k csr w))

end Sys2Proof.Machine
end

