-- ==== Sys2Proof/Machine/Bridge.lean ====
section
/-! DEFINITION. The lane-hub bridge (10): write combining, fences, tagged reads, the discard timer, quarantines and link
resets; and the loads and stores of lane memory and registers (00 R14, R15, 01 R28, 02 R79). -/

namespace Sys2Proof.Machine

/-! ### The lane end's books -/

/-- Record a failure: address, code, direction and core (R298), its count and the interrupt cause. -/
def State.brgFail (s : State) (l : LaneId) (code : Nat) (write : Bool) (core addr : Nat) : State :=
  let s := s.lfSet l BRG_FAULT_ADDR addr
  let s := s.lfSet l BRG_FAULT_INFO_CODE code
  let s := s.lfSet l BRG_FAULT_INFO_WRITE (b2n write)
  let s := s.lfSet l BRG_FAULT_INFO_CORE core
  let s := s.lfSet l BRG_INT_STAT_FAULT 1
  match code with
  | 1 => s.lcount l BRG_CNT_ERR_DECERR 1
  | 2 => s.lcount l BRG_CNT_ERR_SLVERR 1
  | 3 => s.lcount l BRG_CNT_ERR_ECCERR 1
  | 4 => if write then s.lcount l BRG_CNT_ERR_WTIMEOUT 1 else s.lcount l BRG_CNT_DISC_TIMEOUT 1
  | _ => s

/-- A write fails: a store to the register window faults at once, a combined one is kept for the core's next fence or bridge
access (R286, R288). -/
def State.writeFails (s : State) (l : LaneId) (w : PendWrite) (code : Nat) : State :=
  let s := s.brgFail l code true w.core w.addr
  if w.reg then s.accessFault l w.core w.pc w.addr true
  else
    let b := (s.lane l).brg
    if (mapFind b.failed w.core).isSome then s else s.brgUpd l (fun x => { x with failed := mapInsert x.failed w.core w.addr })

/-- A waiting write or read proceeds. -/
def State.brgProceed (s : State) (l : LaneId) : State :=
  let b := (s.lane l).brg
  let s := match b.waiting with
    | w :: ws =>
      if s.linkUp l && decide (b.writes.length < 32) then
        (s.brgUpd l (fun x => { x with waiting := ws, writes := x.writes ++ [w] })).lfSet l BRG_WISSUED (s.lf l BRG_WISSUED + 1)
      else s
    | [] => s
  s.brgShow l

/-- The lowest tag that is neither busy nor quarantined. -/
def freeTag (b : LaneBrg) : Option Nat :=
  (List.range 64).find? (fun t => !(b.reads ++ b.quar).any (fun r => r.tag == some t))

/-- Reads that wait for a tag take the free ones, in order (R293). -/
def takeTags : Nat → LaneBrg → LaneBrg
  | 0, b => b
  | n + 1, b =>
    match b.reads.find? (fun r => r.tag.isNone), freeTag b with
    | some r, some t =>
      let i := b.reads.findIdx (fun x => x.tag.isNone)
      takeTags n { b with reads := b.reads.set i { r with tag := some t } }
    | _, _ => b

/-- All that waits for the link proceeds. -/
def State.brgAll (s : State) (l : LaneId) : State :=
  if !s.linkUp l then s
  else
    let n := (s.lane l).brg.waiting.length
    let s := (List.range n).foldl (fun s _ => s.brgProceed l) s
    (s.brgUpd l (takeTags 64)).brgShow l

/-- A failed combined write that no fence has waited for faults the core's next bridge access (R288). -/
def State.oweFault (s : State) (l : LaneId) (core pc : Nat) : Option State :=
  match mapFind (s.lane l).brg.failed core with
  | some a => some ((s.brgUpd l (fun x => { x with failed := mapErase x.failed core })).accessFault l core pc a true)
  | none => none

/-- A register in the lane end of the bridge (R302). -/
def laneEnd (addr : Nat) : Bool := decide (0x50310000 ≤ addr) && decide (addr < 0x50310100)

/-! ### Fences and performed writes -/

/-- Writes of a core that have no response yet. -/
def LaneBrg.owes (b : LaneBrg) (core : Nat) : Bool := (b.writes ++ b.waiting).any (fun w => w.core == core)

/-- A fence of a core completes, or faults for its first failed write; a step of the retained commit that failed restarts the
commit at step 1 (R288, R301, 07 R216). -/
def State.fenceDone (s : State) (l : LaneId) (core pc : Nat) : State :=
  match s.oweFault l core pc with
  | some t => if core = 4 && decide ((s.lane l).ret.step ≠ 0) then t.retainedBegin l else t
  | none => if core = 4 && decide ((s.lane l).ret.step ≠ 0) then s.retainedNext l else s

/-- Fences that wait for no further response complete. -/
def State.fencesGo (s : State) (l : LaneId) : State :=
  (s.lane l).brg.fences.foldl (fun s f =>
    if (s.lane l).brg.owes f.1 then s
    else (s.brgUpd l (fun x => { x with fences := mapErase x.fences f.1 })).fenceDone l f.1 f.2) s

/-- The hub end performs a write and counts it when it has been performed (R298, R302). -/
def State.performWrite (s : State) (l : LaneId) (w : PendWrite) : State × Nat :=
  let (s, code) := s.hubStore l w.core w.bytes
  (if code = 0 then s.lfSet l BRG_WDONE (s.lf l BRG_WDONE + 1) else s, code)

/-- The hub end performs the outstanding writes up to the first `n`, whose responses are still to come (R292). -/
def State.performAhead (s : State) (l : LaneId) (n : Nat) : State :=
  let b := (s.lane l).brg
  ((b.writes.take n).drop b.done.length).foldl (fun s w =>
    let (s, code) := s.performWrite l w
    s.brgUpd l (fun x => { x with done := x.done ++ [code] })) s

/-! ### Link reset (R299 to R301) -/

/-- The link goes down for a reset: no access enters it until it is up again (R299). -/
def State.linkFalls (s : State) (l : LaneId) : State := (s.lfSet l BRG_STATUS_LINK_UP 0).lfSet l BRG_STATUS_RESETTING 1

/-- A link reset begins; of the outstanding writes the hub end has performed the first `done`, and the first `told` have
failed already (R300). -/
def State.linkReset (s : State) (l : LaneId) (done told : Nat) : State :=
  let b := (s.lane l).brg
  -- writes that the hub end had received in full are performed
  let s := (s.performAhead l done).linkFalls l
  let s := s.lfSet l BRG_WDONE_PREV (s.lf l BRG_WDONE)
  let s := s.lfSet l BRG_WISSUED_PREV (s.lf l BRG_WISSUED)
  let s := (s.lfSet l BRG_WDONE 0).lfSet l BRG_WISSUED 0
  let s := s.brgUpd l (fun x => { x with
    writes := [], done := [], reads := x.reads.filter (fun r => r.tag.isNone), quar := [] })
  let s := (b.reads.filter (fun r => r.tag.isSome)).foldl (fun s r =>
    if r.spec then s else (s.brgFail l 5 false r.core r.addr).accessFault l r.core r.pc r.addr false) s
  let s := (b.writes.drop told).foldl (fun s w => s.writeFails l w 5) s
  -- the lane's shadow sets of the engine (09 R277)
  let s := (List.range 192).foldl (fun s c =>
    [PDE_SH_CFG c, PDE_SH_SRC c, PDE_SH_WIN c, PDE_SH_BANK0 c, PDE_SH_BANK1 c, PDE_SH_SIZE c, PDE_ARM c].foldl
      (fun s f => s.lregSet l f.reg (regReset l f.reg)) s) s
  let s := (s.lcount l BRG_CNT_LINK_RESETS 1).lfSet l BRG_INT_STAT_RESET 1
  (s.brgShow l).fencesGo l

/-- LINK_RESET: eight failed replays of one frame or a loss of lock (R299); `replays` frame replays have been counted. -/
def execLinkReset (l : LaneId) (done replays : Nat) (s : State) : Host.Outcome State Fault Refusal :=
  if !(s.lane l).supplied then .next s
  else
    let s := s.lcount l BRG_CNT_LINK_REPLAYS replays
    if s.lf l BRG_STATUS_LINK_UP = 1 then .next (s.linkReset l done 0) else .next s

/-- BRG_RESET_WRITE: a lane writes BRG_RESET; bit 0 starts a link reset and reads 1 until the link is up (R299, R302). -/
def execBrgResetWrite (l : LaneId) (core v done : Nat) (s : State) : Host.Outcome State Fault Refusal :=
  if s.coreUp l core && bitOf v 0 then
    if s.lf l BRG_STATUS_RESETTING = 1 then .next (s.lfSet l BRG_RESET_RESET 1)
    else .next ((s.linkReset l done 0).lfSet l BRG_RESET_RESET 1)
  else .next s

/-! ### Stores -/

/-- A store to a lane peripheral or a lane-end register, performed at once; a 1 into BRG_RESET.RESET starts a link reset (R299). -/
def State.laneStore (s : State) (l : LaneId) (core pc addr size : Nat) (v : Word) : State :=
  let t := s.localStore l core pc addr size v
  if addr = BRG_RESET.reg && addr % size = 0 && bitOf v.toNat 0 then nextOr t (execBrgResetWrite l core v.toNat 0 t) else t

/-- BRIDGE_REGISTER_STORE: a store of a core to the hub register window goes onto the link and retires on its response (R286);
`amo` marks an AMO, LR or SC. -/
def execBridgeRegisterStore (l : LaneId) (core pc addr size : Nat) (v : Word) (amo : Bool) (who : Runner) (s : State) :
    Host.Outcome State Fault Refusal :=
  if !s.coreUp l core || !accessSize size then .next s
  else .next (s.guarded l core pc addr size true who (fun s =>
    if amo || addr % size ≠ 0 || !inWindow addr then s.accessFault l core pc addr true
    else match s.oweFault l core pc with
      | some t => t
      | none =>
        if laneEnd addr then s.laneStore l core pc addr size v
        else (s.wcIssue l core).writeEnter l ⟨core, pc, addr, storeBytes addr size v, true⟩))

/-- Put bytes into a buffer, the newest over the older ones, in rising address order. -/
def wcPut (bs : List (Nat × Byte)) (new : List (Nat × Byte)) : List (Nat × Byte) :=
  new.foldl (fun m p => mapInsert (mapErase m p.1) p.1 p.2) bs

/-- A combined store: a store to another block closes the core's buffer, as does the last byte of its own (R287). -/
def State.combinedStore (s : State) (l : LaneId) (core addr size : Nat) (v : Word) : State :=
  let other := match mapFind (s.lane l).brg.wc core with
    | some ((a, _) :: _) => decide (a / 64 ≠ addr / 64)
    | _ => false
  let s := if other then s.wcIssue l core else s
  let b := wcPut (mapGet [] (s.lane l).brg.wc core) (storeBytes addr size v)
  let s := s.brgUpd l (fun x => { x with wc := mapSet [] x.wc core b })
  if b.length = 64 then s.wcIssue l core else s

/-! ### Writes to the engine's registers (09 R253, R264, R270, R272, R275, R276) -/

/-- A write to a hub register that the hub end answers with an error response: it is not performed, and the writing core takes a store
access fault (09 R253, R272; R298). -/
def State.windowFault (s : State) (l : LaneId) (core pc addr : Nat) : State :=
  (s.brgFail l 2 true core addr).accessFault l core pc addr true

/-- A write of lane `l` to register `reg` of channel `c`: it does `f` where the placement names the lane, else it faults (09 R253). -/
def State.chanWrite (s : State) (l : LaneId) (core pc reg c : Nat) (f : State → State) : State :=
  if !s.hub.supplied || 192 ≤ c then s else if s.pdeMay l c then f s else s.windowFault l core pc reg

/-- A write of lane `l` to a completion queue: `f` answers none where another lane owns it, and the write faults (09 R272). -/
def State.queueWrite (s : State) (l : LaneId) (core pc reg q : Nat) (f : State → Option State) : State :=
  if !s.hub.supplied || 32 ≤ q then s
  else match f s with
    | some t => t
    | none => s.windowFault l core pc reg

/-- PDE_GO: GO starts a queued channel following its chain, or a circular one writing. -/
def execPdeGo (l : LaneId) (core pc c : Nat) (s : State) : Host.Outcome State Fault Refusal :=
  .next (s.chanWrite l core pc (PDE_CTL_GO c).reg c (fun s => s.pdeGo c))

/-- PDE_DOORBELL: a lane rings after it has appended to a chain. -/
def execPdeDoorbell (l : LaneId) (core pc c : Nat) (s : State) : Host.Outcome State Fault Refusal :=
  .next (s.chanWrite l core pc (PDE_DOORBELL c).reg c (fun s => s.pdeDoorbell c))

/-- PDE_ABORT: ABORT stops a queued or circular channel. -/
def execPdeAbort (l : LaneId) (core pc c : Nat) (s : State) : Host.Outcome State Fault Refusal :=
  .next (s.chanWrite l core pc (PDE_CTL_ABORT c).reg c (fun s => s.pdeAbort c))

/-- PDE_RD_WRITE: software advances the ring read count. -/
def execPdeRdWrite (l : LaneId) (core pc c v : Nat) (s : State) : Host.Outcome State Fault Refusal :=
  .next (s.chanWrite l core pc (PDE_RD c).reg c (fun s => s.pdeRdWrite c v))

/-- PDE_ARM_WRITE: a lane sets ARM to commit its shadow set. -/
def execPdeArmWrite (l : LaneId) (core pc c : Nat) (s : State) : Host.Outcome State Fault Refusal :=
  .next (s.chanWrite l core pc (PDE_ARM c).reg c (fun s => s.lfSet l (PDE_ARM c) 1))

/-- PDE_CQ_CLAIM: a lane claims a queue by writing PDE_CQ_BASE with a valid M. -/
def execPdeCqClaim (l : LaneId) (core pc q v : Nat) (s : State) : Host.Outcome State Fault Refusal :=
  .next (s.queueWrite l core pc (PDE_CQ_BASE q).reg q (fun s => s.cqBaseWrite l q v))

/-- PDE_CQ_RELEASE: a lane releases its queue by writing 0, while no armed channel names it. -/
def execPdeCqRelease (l : LaneId) (core pc q : Nat) (s : State) : Host.Outcome State Fault Refusal :=
  .next (s.queueWrite l core pc (PDE_CQ_BASE q).reg q (fun s => s.cqBaseWrite l q 0))

/-- PDE_CQ_TAIL_WRITE: software advances TAIL and stalled channels resume. -/
def execPdeCqTailWrite (l : LaneId) (core pc q v : Nat) (s : State) : Host.Outcome State Fault Refusal :=
  .next (s.queueWrite l core pc (PDE_CQ_TAIL q).reg q (fun s => s.cqTailWrite l q v))

/-- BRIDGE_COMBINED_STORE: a store to hub SRAM or MRAM retires into the core's write-combining buffer; a store to an MRAM area
that is RO for the lane faults and is not sent (R287, R290, 01 R41). -/
def execBridgeCombinedStore (l : LaneId) (core pc addr size : Nat) (v : Word) (amo : Bool) (who : Runner) (s : State) :
    Host.Outcome State Fault Refusal :=
  if !s.coreUp l core || !accessSize size then .next s
  else .next (s.guarded l core pc addr size true who (fun s =>
    if amo || addr % size ≠ 0 || !inHubMem addr then s.accessFault l core pc addr true
    else match s.oweFault l core pc with
      | some t => t
      | none =>
        if 0x60000000 ≤ addr && !mramMay l addr then (s.brgFail l 2 true core addr).accessFault l core pc addr true
        else if s.lf l BRG_CFG_WC_OFF = 1 then (s.wcIssue l core).writeEnter l ⟨core, pc, addr, storeBytes addr size v, true⟩
        else s.combinedStore l core addr size v))

/-- WC_BUFFER_ISSUE: trap entry, or 64 lane clocks without a further store, closes a core's buffer (R287). -/
def execWcBufferIssue (l : LaneId) (core : Nat) (s : State) : Host.Outcome State Fault Refusal :=
  if s.coreUp l core then .next (s.wcIssue l core) else .next s

/-- FENCE: a fence whose predecessor set contains w or o (R288). -/
def execFence (l : LaneId) (core pc : Nat) (s : State) : Host.Outcome State Fault Refusal :=
  if !s.coreUp l core then .next s
  else
    let s := s.wcIssue l core
    if (s.lane l).brg.owes core then
      .next (s.brgUpd l (fun x => { x with fences := mapInsert (mapErase x.fences core) core pc }))
    else .next (s.fenceDone l core pc)

/-! ### Loads -/

/-- Put a read request into the lane end: behind the writes that are there (R292), with a tag when the link is up (R293). -/
def State.readEnter (s : State) (l : LaneId) (core pc addr size rd : Nat) (signed spec : Bool) : State :=
  let b := (s.lane l).brg
  let r : PendRead := ⟨none, core, pc, rd, addr, size, signed, spec, b.writes.length + b.waiting.length⟩
  let s := s.brgUpd l (fun x => { x with reads := x.reads ++ [r] })
  if s.linkUp l then (s.brgUpd l (takeTags 1)).brgShow l else s

/-- BRIDGE_LOAD: a load of a core from a bridge region (R291): a lane-end register answers at once, every other address by a
tagged read request. `spec` marks a speculative load, possible only of hub SRAM and MRAM; `amo` an AMO or LR. -/
def execBridgeLoad (l : LaneId) (core pc addr size rd : Nat) (signed spec amo : Bool) (who : Runner) (s : State) :
    Host.Outcome State Fault Refusal :=
  if !s.coreUp l core || !accessSize size then .next s
  else .next (s.guarded l core pc addr size false who (fun s =>
    if amo then s.accessFault l core pc addr true
    else if addr % size ≠ 0 || !(inWindow addr || inHubMem addr) then s.accessFault l core pc addr false
    else match s.oweFault l core pc with
      | some t => t
      | none =>
        if laneEnd addr then (s.wcIssue l core).localLoad l core pc addr size rd signed
        else (s.wcIssue l core).readEnter l core pc addr size rd signed (spec && inHubMem addr)))

/-! ### Responses -/

/-- WRITE_RESPONSE: the hub end has performed the oldest write of the lane and its response arrives (R289, R298). -/
def execWriteResponse (l : LaneId) (s : State) : Host.Outcome State Fault Refusal :=
  match (s.lane l).brg.writes with
  | [] => .next s
  | w :: ws =>
    if !s.linkUp l then .next s
    else
      let s := s.performAhead l 1
      let code := (s.lane l).brg.done.headD 0
      let s := s.brgUpd l (fun x => { x with
        writes := ws, done := x.done.drop 1
        reads := x.reads.map (fun r => { r with ahead := r.ahead - 1 }), quar := x.quar.map (fun r => { r with ahead := r.ahead - 1 }) })
      let s := if code = 0 then s else s.writeFails l w code
      .next ((s.brgAll l).fencesGo l)

/-- READ_RESPONSE: the hub end has performed the read with a tag and its response arrives: its load completes or faults, or,
for a quarantined tag, it is dropped and counted (R295, R298). Earlier writes of the lane are performed first (R292); `ecc` marks an uncorrectable error of hub SRAM or MRAM. -/
def execReadResponse (l : LaneId) (tag : Nat) (ecc : Bool) (s : State) : Host.Outcome State Fault Refusal :=
  let b := (s.lane l).brg
  if !s.linkUp l then .next s
  else match b.reads.find? (fun r => r.tag == some tag) with
    | some r =>
      let s := s.brgUpd l (fun x => { x with reads := x.reads.filter (fun y => !(y.tag == some tag)) })
      let s := s.performAhead l r.ahead
      let (s, bs, code) := s.hubLoad l r.core r.addr r.size ecc
      let s := if code = 0 then s.coreLoad l r.core r.rd bs r.signed
        else (s.brgFail l code false r.core r.addr).accessFault l r.core r.pc r.addr false
      .next (s.brgAll l)
    | none =>
      match b.quar.find? (fun r => r.tag == some tag) with
      | some r =>
        let s := s.performAhead l r.ahead
        let (s, _, _) := s.hubLoad l r.core r.addr r.size ecc
        .next ((s.lcount l BRG_CNT_DISC_LATE 1).lfSet l BRG_INT_STAT_LATE 1)
      | none => .next s

/-- FLUSH_ACK: the acknowledgement for a quarantined tag frees it (R295). -/
def execFlushAck (l : LaneId) (tag : Nat) (s : State) : Host.Outcome State Fault Refusal :=
  if !s.linkUp l then .next s
  else .next ((s.brgUpd l (fun x => { x with quar := x.quar.filter (fun y => !(y.tag == some tag)) })).brgAll l)

/-! ### The link comes up again -/

/-- LINK_RETRAINED: the link is up again, within 100 µs, and waiting accesses proceed (R299, R300). -/
def execLinkRetrained (l : LaneId) (s : State) : Host.Outcome State Fault Refusal :=
  if (s.lane l).supplied && s.hub.supplied && decide (s.lf l BRG_STATUS_RESETTING = 1) then
    let s := ((s.lfSet l BRG_STATUS_RESETTING 0).lfSet l BRG_STATUS_LINK_UP 1).lfSet l BRG_RESET_RESET 0
    .next (s.brgAll l)
  else .next s

/-! ### The discard timer (R294) -/

/-- DISCARD_TIMER_EXPIRE: the timer of a read (its place among the outstanding reads) or of the oldest write runs out; `done`
as in a link reset. -/
def execDiscardTimerExpire (l : LaneId) (write : Bool) (i done : Nat) (s : State) : Host.Outcome State Fault Refusal :=
  let b := (s.lane l).brg
  if !(s.lane l).supplied then .next s
  else if write then
    match b.writes, b.waiting with
    | w :: _, _ =>
      -- the write fails with TIMEOUT and the lane end resets the link; the others fail with LINK
      .next (((s.linkFalls l).writeFails l w 4).linkReset l done 1)
    | [], w :: ws => .next (((s.brgUpd l (fun x => { x with waiting := ws })).writeFails l w 4).fencesGo l)
    | [], [] => .next s
  else match b.reads[i]? with
    | none => .next s
    | some r =>
      let s := s.brgUpd l (fun x => { x with
        reads := x.reads.eraseIdx i
        quar := if r.tag.isSome then x.quar ++ [r] else x.quar })
      let s := if r.spec then s else (s.brgFail l 4 false r.core r.addr).accessFault l r.core r.pc r.addr false
      .next ((s.brgUpd l (takeTags 64)).brgShow l)

/-! ### Lane memory and registers -/

/-- An address of lane memory (01 R44). -/
def inLaneMem (addr : Nat) : Bool :=
  decide (addr < 0x10000) || (decide (0x08000000 ≤ addr) && decide (addr < 0x08800000))
    || (decide (0x80000000 ≤ addr) && decide (addr < 0x180000000))

/-- LANE_MEMORY_READ: a load from lane SRAM or LPDDR4X, or an LR, SC or AMO on it (05 R142). A single-bit error is corrected and
counted; a double-bit or address-fold error faults the load, and the lane withholds its image of the cycle (01 R28). -/
def execLaneMemoryRead (l : LaneId) (core pc addr size rd : Nat) (signed : Bool) (op : MemOp) (who : Runner) (ecc : EccResult)
    (s : State) : Host.Outcome State Fault Refusal :=
  if !s.coreUp l core || !accessSize size then .next s
  else .next (s.guarded l core pc addr size (op != .load && op != .lr) who (fun s =>
    let bad := match op with
      | .load => if !inLaneMem addr || !inLaneMem (addr + size - 1) then some 5 else none
      | op => atomicTrap core addr size op
    match bad with
    | some cause => s.coreTrap l core cause pc (if cause = 2 then none else some addr)
    | none =>
      let go := fun (s : State) => if op = .load then s.coreLoad l core rd (s.lmem l addr size) signed else s.atomicOp l core addr size rd op
      match ecc with
      | .clean => go s
      | .single => go (s.updLane l (fun x => { x with ecc := x.ecc + 1 }))
      | .double => (s.accessFault l core pc addr (op != .load && op != .lr)).withhold l 1))

/-- TCK_FRAME_LOW_READ: a 32-bit load from 0x4000_0008 captures bits [47:32] for a later load from 0x4000_000C (02 R79). -/
def execTckFrameLowRead (l : LaneId) (core rd : Nat) (who : Runner) (s : State) : Host.Outcome State Fault Refusal :=
  if s.coreUp l core then
    .next (s.guarded l core 0 TCK_FRAME.reg 4 false who (fun s => s.localLoad l core 0 TCK_FRAME.reg 4 rd false))
  else .next s

/-- XCH_VCOUNT_WRITE: the lane-management core writes XCH_VCOUNT and the exchange unit checks the list (04 R116, R137). -/
def execXchVcountWrite (l : LaneId) (core v : Nat) (s : State) : Host.Outcome State Fault Refusal :=
  if s.coreUp l core && decide (core = 4) && decide (v < 512) then .next (s.xchWrite l XCH_VCOUNT.reg v) else .next s

/-- A store in one step: to lane memory (a store to the boot ROM is not performed and faults, log entry 41), to a lane peripheral or lane-end register at once, to a hub
register with its write response (01 R44, R286). -/
def State.registerStore (s : State) (l : LaneId) (core pc addr size : Nat) (v : Word) : State :=
  if inLaneMem addr && inLaneMem (addr + size - 1) then
    if addr < 0x10000 then s.accessFault l core pc addr true else s.laneMemStore l core addr size v.toNat
  else if inPeripheral addr || laneEnd addr then s.laneStore l core pc addr size v
  else if addr % size ≠ 0 || !inWindow addr then s.accessFault l core pc addr true
  else match (s.wcIssue l core).oweFault l core pc with
    | some t => t
    | none =>
      let s := s.wcIssue l core
      if !s.linkUp l then s.writeEnter l ⟨core, pc, addr, storeBytes addr size v, true⟩
      else
        let s := s.lfSet l BRG_WISSUED (s.lf l BRG_WISSUED + 1)
        let (s, code) := s.hubStore l core (storeBytes addr size v)
        if code = 0 then s.lfSet l BRG_WDONE (s.lf l BRG_WDONE + 1) else s.writeFails l ⟨core, pc, addr, storeBytes addr size v, true⟩ code

/-- REGISTER_WRITE: a write to a register sets its writable fields, starts its action or is ignored (00 R14, R17). -/
def execRegisterWrite (l : LaneId) (core pc addr size : Nat) (v : Word) (who : Runner) (s : State) : Host.Outcome State Fault Refusal :=
  if s.coreUp l core && accessSize size then
    .next (s.guarded l core pc addr size true who (fun s => s.registerStore l core pc addr size v))
  else .next s

/-- W1C_WRITE: a 1 clears its bit, unless hardware sets it in the same clock: `set` are the bits that hardware sets then
(00 R15). -/
def execW1cWrite (l : LaneId) (core pc addr : Nat) (v : Word) (set : Nat) (who : Runner) (s : State) : Host.Outcome State Fault Refusal :=
  if !s.coreUp l core then .next s
  else
    let t := s.guarded l core pc addr 4 true who (fun s => s.registerStore l core pc addr 4 v)
    match regAt addr with
    | some (reg, r) =>
      let bits := r.flds.foldl (fun a f => if f.acc = .w1c then nOr a (nAnd set (fMask f)) else a) 0
      .next (if bits = 0 then t else t.rawSet l r reg (nOr (t.rawReg l r reg) bits))
    | none => .next t

/-- RC_READ: a read of a register into a core's register; RC fields return their value and are cleared, and an event recorded
in the same clock remains: `more` is added to the first RC field that the read cleared (00 R15). -/
def execRcRead (l : LaneId) (core pc addr size rd : Nat) (signed : Bool) (more : Nat) (who : Runner) (s : State) :
    Host.Outcome State Fault Refusal :=
  if !s.coreUp l core || !accessSize size then .next s
  else .next (s.guarded l core pc addr size false who (fun s =>
    if !(inPeripheral addr || inWindow addr) then s.accessFault l core pc addr false
    else match (if inPeripheral addr then none else s.oweFault l core pc) with
    | some t => t
    | none =>
      -- a load from a bridge region closes the core's buffer (10 R287)
      let s := if inPeripheral addr then s else s.wcIssue l core
      if !(inPeripheral addr || laneEnd addr) && !s.linkUp l then s.readEnter l core pc addr size rd signed false
      else
        let t := s.localLoad l core pc addr size rd signed
        match regAt addr with
        | some (reg, r) =>
          match r.flds.find? (fun f => f.acc = .rc && decide (nAnd (byteMask (addr - reg) size) (fMask f) ≠ 0)) with
          | some f =>
            let g : Fld := ⟨reg, f.hi, f.lo⟩
            if r.view = .lane then t.lcount l g more else t.hcount g more
          | none => t
        | none => t))

end Sys2Proof.Machine
end

