-- ==== Sys2Proof/Machine/Commit.lean ====
section
/-! DEFINITION. The configuration commit (16 R429 to R432): the pending and the merged set, the values an object accepts, the
commit conditions of the owning chapters in ascending index order, and what a commit does. -/

namespace Sys2Proof.Machine

/-! ### The pending set -/

/-- Put a value into the pending set. -/
def State.pendSet (s : State) (i j : Nat) (bs : List Byte) : State :=
  { s with dict := { s.dict with pend := mapInsert (mapErase s.dict.pend (objKey i j)) (objKey i j) bs } }

/-- Values laid over a set. -/
def overSet (top base : List (Nat × List Byte)) : List (Nat × List Byte) :=
  top.foldl (fun m p => mapInsert (mapErase m p.1) p.1 p.2) base

/-- The state with the pending set merged with the stored set (R429). -/
def State.merged (s : State) : State :=
  { s with dict := { s.dict with stored := overSet s.dict.pend s.dict.stored, app := s.dict.pendApp.getD s.dict.app } }

/-! ### Values (R424; 00 R20) -/

/-- UTF-8 text (00 R20): lead bytes followed by their continuation bytes, shortest forms, no surrogates, up to U+10FFFF. -/
def utf8Ok : List Byte → Bool
  | [] => true
  | x :: r =>
    let c := fun (y : Byte) => decide (0x80 ≤ y.toNat) && decide (y.toNat < 0xC0)
    let v := x.toNat
    if v < 0x80 then utf8Ok r
    else match r with
      | y :: r1 =>
        if 0xC2 ≤ v ∧ v < 0xE0 then c y && utf8Ok r1
        else match r1 with
          | z :: r2 =>
            if 0xE0 ≤ v ∧ v < 0xF0 then
              c y && c z && !(v == 0xE0 && decide (y.toNat < 0xA0)) && !(v == 0xED && decide (0xA0 ≤ y.toNat)) && utf8Ok r2
            else match r2 with
              | w :: r3 =>
                decide (0xF0 ≤ v) && decide (v < 0xF5) && c y && c z && c w && !(v == 0xF0 && decide (y.toNat < 0x90))
                  && !(v == 0xF4 && decide (0x90 ≤ y.toNat)) && utf8Ok r3
              | [] => false
          | [] => false
      | [] => false

/-- A value as the number that a row's range is stated for. -/
def rowNumber (r : ObjRow) (bs : List Byte) : Int :=
  match r.ty with
  | .i8 => toInt 8 (leNat bs)
  | .i16 => toInt 16 (leNat bs)
  | .i32 => toInt 32 (leNat bs)
  | .i64 => toInt 64 (leNat bs)
  | _ => (leNat bs : Int)

/-- The value fits the type and the range of its row (R424). -/
def rowValueOk (r : ObjRow) (bs : List Byte) : Bool :=
  match r.ty with
  | .bool => decide (leNat bs < 2)
  | .vstring _ => utf8Ok bs
  | .octet _ | .domain _ | .f32 | .f64 | .u64 | .time64 => true
  | _ => decide (r.min ≤ rowNumber r bs) && decide (rowNumber r bs ≤ r.max)

/-- A layout of 04 R122 with image size `k` KiB that keeps 15 R409. -/
def layoutValid (k v : Nat) : Bool :=
  let w := BitVec.ofNat 64 v
  let b := fldGet XCH_LAYOUT_B_UNITS w
  let n := fldGet XCH_LAYOUT_N_CNT w
  decide (256 + 8 * b + 4 * (fldGet XCH_LAYOUT_T_CNT w + n) ≤ 1024 * k) && decide (1 ≤ b) && decide (1 ≤ n)

/-- Entries of the rate table have BURST and REFILL of at least 1 (17 R460). -/
def rateEntriesOk : List Byte → Bool
  | _ :: _ :: b :: r :: rest => decide (b ≠ 0) && decide (r ≠ 0) && rateEntriesOk rest
  | [] => true
  | _ => false

/-- Accepted values that the row's range alone does not state; `s` is the merged set. -/
def State.specialOk (s : State) (i j : Nat) (bs : List Byte) : Bool :=
  let v := leNat bs
  let t := s.period
  if i = 0x0100 then
    let zero := fun (k : Nat) => byteAt bs k == 0
    decide (byteAt bs 0 ≤ 2) && decide (byteAt bs 1 ≤ 3) && zero 2 && zero 3 && zero 10 && zero 11
      && (byteAt bs 0 != 2 || decide (byteAt bs 4 ≤ 7))
  else if i = 0x0101 ∧ j = 1 then decide (v ≤ 7) || v == 0xFF
  else if i = 0x0101 ∧ (j = 2 ∨ j = 3) then bitsOf v 30 29 == 0 && (bitOf v 31 || decide (v ≤ 0x7FF))
  else if i = 0x0120 then decide (1 ≤ v) && decide (v ≤ 3)
  else if i = 0x1010 then v == 3 || v == 5
  else if i = 0x1103 then
    let win := fldGet TCK_SYNC_WIN (BitVec.ofNat 64 v)
    decide (10 ≤ win) && decide (win ≤ 1000)
  else if i = 0x1120 ∧ j = 2 then layoutValid (s.obj 0x1120 1) v
  else if i = 0x1161 ∧ j = 3 then decide (bs ≠ [])
  else if 0x2000 ≤ i ∧ i < 0x2C00 ∧ i % 16 = 0 then
    match j with
    | 1 => decide (bitsOf v 31 28 ≤ 5) && decide (bitsOf v 25 24 ≤ 2) && bitsOf v 23 21 == 0 && decide (bitsOf v 15 12 ≤ 3)
        && bitsOf v 11 1 == 0
    | 2 => [0, 1, 2, 3, 7].contains (bitsOf v 31 24)
    | 4 | 5 => bitsOf v 31 21 == 0
    | 6 => bitsOf v 30 21 == 0
    | _ => true
  else if i = 0x3010 then bs.length % 512 == 0
  else if i = 0x3020 then bitsOf v 31 30 == 0 && bitsOf v 23 21 == 0 && bitsOf v 15 9 == 0
  else if i = 0x3100 ∧ 3 ≤ j ∧ j ≤ 6 then decide (v * 10 < t)
  else if 0x3200 ≤ i ∧ i < 0x3400 ∧ j = 4 then decide (v ≤ 12) || v == 0xFF
  else if 0x3200 ≤ i ∧ i < 0x3400 ∧ j = 11 then
    bs.length == 0 || bs.length == 2 || bs.length == 42 || bs.length == 46
  else if i = 0x3403 then decide (1 ≤ v)
  else if 0x4000 ≤ i ∧ i < 0x4800 then
    match i % 0x100, j with
    | 0, 1 => decide (bitsOf v 31 29 ≤ 3) && bitsOf v 25 0 == 0
    | 0, 2 => decide (1 ≤ bitsOf v 31 23) && decide (bitsOf v 31 23 ≤ 256) && decide (2 ≤ bitsOf v 15 8)
        && decide (2 ≤ bitsOf v 7 0) && decide (bitsOf v 7 0 ≤ 127)
    | 0, 3 => nAnd v 0xE0F0C0E0 == 0 && decide (1 ≤ bitsOf v 28 24) && decide (bitsOf v 28 24 ≤ 16) && decide (1 ≤ bitsOf v 13 8)
        && decide (bitsOf v 13 8 ≤ 32) && decide (1 ≤ bitsOf v 4 0) && decide (bitsOf v 4 0 ≤ 16)
    | 0, 4 => nAnd v 0xFFFF00FF == 0
    | 0, 5 => decide (bitsOf v 31 16 ≤ 10000) && decide (1 ≤ bitsOf v 15 8)
    | 1, _ => !bitOf (leAt bs 0 4) 29 && decide (bitsOf (leAt bs 4 4) 31 30 ≠ 3) && !bitOf (leAt bs 4 4) 29 && decide (leAt bs 8 4 < 128)
    | 3, 1 => decide (bitsOf v 7 0 ≤ 128) && decide (1 ≤ bitsOf v 11 8) && bitsOf v 13 12 == 0 && bitsOf v 23 21 == 0
        && decide (bitsOf v 16 14 ≤ 6)
    | 3, 2 => bs.length % 8 == 0 && decide (bs.length ≤ 1024)
    | _, _ => true
  else if i = 0x5102 then decide (t ≠ 0) && v * 1000000 % t == 0
  else if i = 0x5103 ∧ j = 2 then decide (s.obj 0x5103 1 ≤ v)
  else if i = 0x7101 then rateEntriesOk bs
  else true

/-- A value is accepted for an object (R424). -/
def State.valueOk (s : State) (i j : Nat) (r : ObjRow) (bs : List Byte) : Bool := rowValueOk r bs && s.merged.specialOk i j bs

/-! ### Pairing's fixed objects (19 R499) -/

/-- The heartbeat's destination address. -/
def beatAddress : List Byte := [0x03, 0x00, 0x00, 0x4F, 0x53, 0x50]

/-- The values that channels 189 and 190 and streams 510 and 511 have while pairing is enabled. -/
def pairSets : List (Nat × Nat × List Byte) :=
  let chan : Nat → List Nat → List (Nat × Nat × List Byte) := fun i vs => vs.zipIdx.map (fun p => (i, p.2 + 1, leBytes 4 p.1))
  let stream : Nat → Nat → Nat → List Byte → List (Nat × Nat × List Byte) := fun i ing mask t =>
    [(i, 1, beatAddress), (i, 2, leBytes 2 0), (i, 3, [0]), (i, 4, leBytes 1 ing), (i, 5, leBytes 2 mask), (i, 6, [0]), (i, 7, [0]),
      (i, 8, leBytes 4 0), (i, 9, leBytes 2 82), (i, 10, [0]), (i, 11, t)]
  chan 0x2BD0 [0x10000000, 0x010B01FE, 0x000E0040, 0x1FF800, 0x1FF850, 0x50]
    ++ chan 0x2BE0 [0x20000000, 0x010C01FF, 0, 0x1FF900, 0x1FF950, 0x50]
    ++ stream 0x33FE 11 0x1000 [] ++ stream 0x33FF 12 0x0800 [0x88, 0xB6]

/-- An object whose value is fixed: channel 191's, and those of `pairSets` while pairing is enabled (R446, 19 R499). -/
def State.fixedObj (s : State) (i j : Nat) : Bool :=
  i == 0x2BF0 || (s.pairOn && pairSets.any (fun p => p.1 == i && p.2.1 == j))

/-- A commit that enables pairing gives these objects their values (19 R499). -/
def State.withPair (s : State) : State :=
  if s.pairOn then pairSets.foldl (fun s p => s.storedSet p.1 p.2.1 p.2.2) s else s

/-! ### Commit conditions; each is judged on the merged set -/

/-- One condition: the object that fails, and whether it holds. -/
structure Cond where
  index : Nat
  sub : Nat
  ok : Bool
  deriving DecidableEq, Repr

/-- The stations in use. -/
def State.usedStations (s : State) : List Nat :=
  ((List.range 255).map (· + 1)).filter (fun k => decide (s.obj (0x0300 + k) 1 ≠ 0))

/-- The KIND of a channel's source in the objects, and its mode. -/
def State.setKind (s : State) (c : Nat) : Nat := bitsOf (s.obj (chanObj c 0) 2) 31 24
def State.setMode (s : State) (c : Nat) : Nat := bitsOf (s.obj (chanObj c 0) 1) 31 28
def State.setPlace (s : State) (c : Nat) : Nat := bitsOf (s.obj (chanObj c 0) 1) 27 26

/-- The KIND that matches an attachment: 1 Ethernet stream, 2 harvest ring, 3 CAN. -/
def attachKind : Nat → Nat
  | 1 => 1 | 2 => 3 | 3 => 2 | _ => 0

/-- The station conditions (R436). -/
def State.stationConds (s : State) : List Cond :=
  let used := s.usedStations
  let all := used.flatMap (fun k => s.stationChans k 4 ++ s.stationChans k 5)
  used.flatMap (fun k =>
    let a := attachKind (s.obj (0x0300 + k) 1)
    let ins := s.stationChans k 4
    let outs := s.stationChans k 5
    let good := fun (m : Nat) (c : Nat) =>
      decide (c < 192) && s.setMode c == m && s.setKind c == a && decide ((all.filter (· = c)).length = 1)
    [⟨0x0300 + k, 1, decide (ins ++ outs ≠ [])⟩,
     ⟨0x0300 + k, 4, ins.all (fun c => good 1 c && s.setPlace c == 0)⟩,
     ⟨0x0300 + k, 5, outs.all (good 2)⟩])

/-- SLEW, in 10 ns, does not exceed T/1000 (02 R56). -/
def State.slewConds (s : State) : List Cond :=
  [⟨0x1103, 0, decide (10 * fldGet TCK_SYNC_SLEW (BitVec.ofNat 64 (s.obj 0x1103 0)) * 1000 ≤ s.period)⟩,
   ⟨0x1120, 2, layoutValid (s.obj 0x1120 1) (s.obj 0x1120 2)⟩]

/-- The sub-index that an error code of a channel set points at (09 R281). -/
def chanErrSub (code : Nat) (src : Bool) : Nat :=
  match code with
  | 1 => if src then 2 else 1
  | 2 => 4
  | 4 => 3
  | _ => 6

/-- Another channel is bound to the same CAN mailbox (12 R343). -/
def State.setTaken (s : State) (c : Nat) : Bool :=
  s.setKind c == 2 && pdeChannels.any (fun d => d != c && s.setMode d != 0 && s.obj (chanObj d 0) 2 == s.obj (chanObj c 0) 2)

/-- The channel conditions: a set that the engine would refuse (09 R276, R283), and frames that exceed MAXF (11 R537). -/
def State.chanConds (s : State) : List Cond :=
  (List.range 191).map (fun c =>
    let v := s.chanSetting c
    let own := setError c (fun _ _ => true) (s.setTaken c) v
    let e := if own ≠ 0 || s.setMode c = 0 then own
      else if (List.range 192).any (fun d => d != c && s.setMode d != 0 && setsClash v (s.chanSetting d)) then 2 else 0
    let h := v.getD 1 0 % 512
    let long := s.setMode c == 2 && s.setKind c == 1 && decide (s.obj (0x3200 + h) 4 = 12)
      && decide (s.obj (0x3200 + h) 9 < bitsOf (v.getD 5 0) 20 0 - 16 + s.streamExtra h)
    ⟨chanObj c 0, if e ≠ 0 then chanErrSub e (s.setTaken c || !srcOk c (s.setMode c) (v.getD 1 0)) else 6, e == 0 && !long⟩)

/-! ### The trellis (11 R311, R330) -/

/-- The windows of basic cycle `b` of a trellis. -/
def winsOf (t : List Byte) (b : Nat) : List Win := (List.range 32).map (winAt t b)

/-- An unused entry is all zero, used ones come first in ascending START, and reserved bits are 0 (R309, R311). -/
def entriesOk (t : List Byte) (b : Nat) : Bool :=
  let ws := winsOf t b
  let used := ws.takeWhile (fun w => w.len ≠ 0)
  let raw := fun (w : Nat) => slice t (0x200 * b + 0x10 * w) 16
  (ws.drop used.length).all (fun w => w.len == 0)
    && (List.range 32).all (fun w => decide (w < used.length) || (raw w).all (· = 0))
    && (List.range used.length).all (fun w => winBytes (winAt t b w) = raw w)
    && (used.zip (used.drop 1)).all (fun p => decide (p.1.start ≤ p.2.start))

/-- Ports that a window names. -/
def winPorts (w : Win) : Nat := nOr w.smask w.dmask

/-- Two windows of one basic cycle share a port and overlap. -/
def winClash (x y : Win) : Bool :=
  decide (nAnd (winPorts x) (winPorts y) ≠ 0) && decide (x.start < y.start + y.len) && decide (y.start < x.start + x.len)

/-- No two windows clash. -/
def winsApart : List Win → Bool
  | [] => true
  | w :: ws => !ws.any (winClash w) && winsApart ws

/-- The slowest speed at a port, in Gbit/s: 10 on an uplink in mode 1 only (R311). -/
def State.slowPort (s : State) (p : Nat) : Bool :=
  decide (p ≤ 11) && !((p == 9 || p == 10) && decide (s.obj 0x3030 (p - 8) = 1))

/-- An exclusive window's own conditions (R311). -/
def State.exclusiveOk (s : State) (w : Win) : Bool :=
  let ing := s.obj (0x3200 + w.stream) 4
  let one := w.smask == 0 || (decide (ing ≤ 12) && w.smask == 2 ^ ing)
  let slow := (List.range 16).any (fun p => bitOf (winPorts w) p && s.slowPort p)
  one && (w.smask == 0 || nAndNot (s.obj (0x3200 + w.stream) 5) w.dmask == 0)
    && (w.smask == 0 || decide ((s.obj (0x3200 + w.stream) 9 + 8) * (if slow then 80 else 8) ≤ w.len * 100))

/-- The end, on port `p`, of the last time before `start` of basic cycle `b` that is not guard, as time since it: T if the port
has had none in the cycle before either. -/
def guardBefore (t : List Byte) (bcount t10 p b start : Nat) : Nat :=
  let live := fun (w : Win) => w.len ≠ 0 && w.type ≠ 3 && bitOf (winPorts w) p
  let ends := ((winsOf t b).filter (fun w => live w && decide (w.start < start))).map (fun w => w.start + w.len)
  match ends with
  | [] =>
    let before := ((winsOf t ((b + bcount - 1) % bcount)).filter live).map (fun w => w.start + w.len)
    start + (t10 - maxList before)
  | _ => start - maxList ends

/-- Every exclusive and arbitrating window on ports 1 to 8 has GMIN of guard before it (R311); GMIN in 100 ns. -/
def State.guardsOk (s : State) (t : List Byte) (bcount t10 b : Nat) : Bool :=
  (winsOf t b).all (fun w => w.len == 0 || 2 ≤ w.type || ((List.range 8).map (· + 1)).all (fun p =>
    !bitOf (winPorts w) p || decide (10 * s.obj 0x3000 3 ≤ guardBefore t bcount t10 p b w.start)))

/-- Every enabled external port has a free window of at least 2 µs in a matrix cycle (R311). -/
def State.freeOk (s : State) (t : List Byte) (bcount : Nat) : Bool :=
  (List.range 12).all (fun p => !bitOf (s.obj 0x3030 5) p || (List.range bcount).any (fun b =>
    (winsOf t b).any (fun w => w.type == 2 && decide (200 ≤ w.len) && bitOf (winPorts w) p)))

/-- The trellis keeps R311 for the committed T; an empty one only without ring and pairing. -/
def State.trellisOk (s : State) : Bool :=
  let t := s.objBytes 0x3010 0
  let n := s.obj 0x3000 1
  let t10 := s.period / 10
  if t = [] then s.obj 0x3100 1 == 0 && !s.pairOn
  else
    decide (t.length = 512 * n) && (List.range n).all (fun b =>
      entriesOk t b
        && (winsOf t b).all (fun w => decide (w.start + w.len ≤ t10) && !bitOf w.smask 0 && !bitOf w.smask 11
            && (w.len == 0 || w.type != 0 || s.exclusiveOk w) && (w.type == 0 || w.stream == 0))
        && winsApart ((winsOf t b).filter (fun w => w.len ≠ 0))
        && s.guardsOk t n t10 b)
      && s.freeOk t n

/-- Harvest stations 1 to N: OUT_LEN + IN_LEN of each. -/
def State.ringLens (s : State) : List Nat :=
  (List.range (s.obj 0x3100 1)).map (fun k => bitsOf (s.obj 0x3110 (k + 1)) 31 16 + bitsOf (s.obj 0x3110 (k + 1)) 15 0)

/-- Payload bytes of a harvest frame (R327, R325). -/
def State.ringPayload (s : State) : Nat := 16 + (s.ringLens.map (· + 12)).sum

/-- The window of a pass holds at least t_split + 1 µs in every basic cycle (R330). -/
def State.passOk (s : State) (i : Nat) : Bool :=
  let f := max 64 (14 + s.ringPayload + 4)
  let split := (f + 8) * 8 + 2 * (s.obj 0x3100 1 * 1000 + s.obj 0x3100 7)
  let t := s.objBytes 0x3010 0
  (List.range (s.obj 0x3000 1)).all (fun b => (winsOf t b).any (fun w =>
    w.len != 0 && w.smask == 2 ^ 15 && w.dmask == 2 ^ 7 + 2 ^ 8 && w.start == s.obj 0x3100 (3 + i)
      && decide (split + 1000 ≤ 10 * w.len)))

/-- The ring conditions (R325, R330). -/
def State.ringConds (s : State) : List Cond :=
  if s.obj 0x3100 1 = 0 then []
  else [⟨0x3100, 1, decide (s.ringPayload ≤ 1500)⟩]
    ++ (List.range (s.obj 0x3100 2)).map (fun i => ⟨0x3100, 3 + i, decide (s.obj 0x3100 (3 + i) * 10 < s.period) && s.passOk i⟩)

/-! ### Streams, time roles and CAN -/

/-- The key of a used stream entry. -/
def State.streamKey (s : State) (h : Nat) : List Nat :=
  [s.obj (0x3200 + h) 4, beNat (s.objBytes (0x3200 + h) 1), s.obj (0x3200 + h) 2]

/-- The length that a stream's header template has: the EtherType of an originated PROTO 0 stream, the headers of an originated PROTO 1
stream, else none (11 R307, R537). -/
def State.templateOk (s : State) (h : Nat) : Bool :=
  let n := (s.objBytes (0x3200 + h) 11).length
  match s.obj (0x3200 + h) 4, s.obj (0x3200 + h) 6 with
  | 12, 0 => n == 2
  | 12, 1 => n == 42 || n == 46
  | _, _ => n == 0

/-- The stream conditions: no duplicates, a comId for TRDP only, and the template's length (11 R307, R537). -/
def State.streamConds (s : State) : List Cond :=
  let used := (List.range 512).filter (fun h => decide (s.obj (0x3200 + h) 4 ≠ 0xFF))
  let keys := used.map s.streamKey
  used.flatMap (fun h =>
    [⟨0x3200 + h, 1, decide ((keys.filter (· = s.streamKey h)).length ≤ 1)⟩,
     ⟨0x3200 + h, 8, s.obj (0x3200 + h) 6 != 0 || s.obj (0x3200 + h) 8 == 0⟩,
     ⟨0x3200 + h, 11, s.templateOk h⟩])

/-- The time-role conditions (13 R368). -/
def State.roleConds (s : State) : List Cond :=
  let n := fun (k : Nat) => ((List.range 12).filter (fun p => decide (s.obj 0x3401 (p + 1) = k))).length
  let role := s.obj 0x3400 1
  [⟨0x3400, 1, if role = 0 then n 2 == 1 else n 2 == 0 && (role != 2 || n 1 == 0)⟩]

/-- Bit timing (12 R338): clocks per bit, sample point in 50 to 90 %, jump width. -/
def timingOk (brp seg1 seg2 sjw : Nat) : Bool :=
  let n := 1 + seg1 + seg2
  decide (1 ≤ brp) && decide (n ≤ 2 * (1 + seg1)) && decide (10 * (1 + seg1) ≤ 9 * n) && decide (sjw ≤ seg2)

/-- The bit-rate conditions of a channel that is in use (R338). -/
def State.canRateOk (s : State) (ch : Nat) : Bool :=
  let x := 0x4000 + 0x100 * ch
  let w := fun (j : Nat) => BitVec.ofNat 64 (s.obj x j)
  let nb := fldGet (CAN_NBT_NBRP 0) (w 2)
  let n1 := fldGet (CAN_NBT_NTSEG1 0) (w 2)
  let n2 := fldGet (CAN_NBT_NTSEG2 0) (w 2)
  let db := fldGet (CAN_DBT_DBRP 0) (w 3)
  let d1 := fldGet (CAN_DBT_DTSEG1 0) (w 3)
  let d2 := fldGet (CAN_DBT_DTSEG2 0) (w 3)
  let nc := nb * (1 + n1 + n2)
  let dc := db * (1 + d1 + d2)
  let fde := fldGet (CAN_CFG_FDE 0) (w 1) == 1
  let mode := fldGet (CAN_CFG_OPMODE 0) (w 1)
  timingOk nb n1 n2 (fldGet (CAN_NBT_NSJW 0) (w 2)) && timingOk db d1 d2 (fldGet (CAN_DBT_DSJW 0) (w 3))
    && decide (nb ≤ 256) && decide (2 ≤ n1) && decide (2 ≤ n2) && decide (n2 ≤ 127)
    && decide (db ≤ 16) && decide (1 ≤ d1) && decide (d1 ≤ 32) && decide (1 ≤ d2) && decide (d2 ≤ 16)
    && decide (80 ≤ nc) && decide (nc ≤ 8000)
    && (!fde || (decide (dc ≤ nc) && decide (16 ≤ dc)))
    && (!(fde && decide (dc < 80)) || fldGet (CAN_TDC_TDCE 0) (w 4) == 1)
    && (mode != 3 || (decide (ch < 4) && !fde))

/-- A channel bound to a mailbox of a CAN channel in the merged set. -/
def State.boundIn (s : State) (ch m : Nat) : Bool :=
  (List.range 191).any (fun c => s.setMode c != 0 && s.setKind c == 2
    && decide (bitsOf (s.obj (chanObj c 0) 2) 23 0 = ch * 65536 + m))

/-- The trigger list of a channel in OPMODE 3 (R352, R353). -/
def State.triggersOk (s : State) (ch : Nat) : Bool :=
  let w := BitVec.ofNat 64 (s.obj (0x4003 + 0x100 * ch) 1)
  let n := fldGet (CAN_TT_CFG_TRIG_CNT 0) w
  let ptm := fldGet (CAN_TT_CFG_PTM 0) w == 1
  let ccm := fldGet (CAN_TT_CFG_CCM 0) w
  let b := s.objBytes (0x4003 + 0x100 * ch) 2
  let ts := (List.range n).map (s.trigAt ch)
  let raw := fun (i : Nat) => (leAt b (8 * i) 4, leAt b (8 * i + 4) 4)
  let refAt := ts.findIdx (fun t => t.type == 3)
  decide (1 ≤ n) && decide (n ≤ 128) && decide (b.length = 8 * n)
    && (List.range n).all (fun i => bitsOf (raw i).1 19 16 == 0 && decide ((raw i).2 < 128))
    && (ts.zip (ts.drop 1)).all (fun p => decide (p.1.mark < p.2.mark))
    && ts.all (fun t => decide (t.type ≤ 4) && decide (t.rep ≤ min 6 ccm) && decide (t.ofs < 2 ^ t.rep))
    && ((ts.filter (fun t => t.type == 4)).length == 1) && (match ts.getLast? with | some t => t.type == 4 | none => false)
    && (if ptm then (ts.filter (fun t => t.type == 3)).length == 1 && (ts.drop refAt).all (fun t => 3 ≤ t.type)
        else !ts.any (fun t => t.type == 3))
    && ts.all (fun t => match t.type with
        | 0 | 1 => decide (64 ≤ t.mbx) && decide (t.mbx ≤ 95) && s.boundIn ch t.mbx
        | 2 => decide (t.mbx ≤ 63) && s.boundIn ch t.mbx
        | _ => t.mbx == 0)

/-- The conditions of CAN channel `ch` (R338, R352, R353; 16 R438). -/
def State.canConds (s : State) (ch : Nat) : List Cond :=
  let x := 0x4000 + 0x100 * ch
  let svc := s.obj 0x0101 1 == ch
  let mode := fldGet (CAN_CFG_OPMODE 0) (BitVec.ofNat 64 (s.obj x 1))
  let rate : List Cond := [⟨x, 2, s.canRateOk ch⟩, ⟨x + 1, 64, !svc || (!bitOf (leAt (s.objBytes (x + 1) 64) 0 4) 31 && !s.boundIn ch 95)⟩]
  if ch < 4 then
    rate ++ [⟨x + 3, 1, mode == 3 || decide (s.obj (x + 3) 1 % 256 = 0)⟩, ⟨x + 3, 2, mode != 3 || s.triggersOk ch⟩]
  else rate

/-! ### Field stage, safety connections and the rest -/

/-- E of output `o` in µJ, rounded up: ½·L·I_LIM² with 0.6 A, 2.4 A on the brake loop (15 R411). -/
def State.clampEnergy (s : State) (o : Nat) : Nat := (s.obj 0x5100 (o + 1) * (if o = 16 then 288 else 18) + 99) / 100

/-- The field-stage conditions: clamp energy (R411), TP a multiple of T and I_MAX not below I_MIN. -/
def State.fieldConds (s : State) : List Cond :=
  let tp := s.obj 0x5102 0
  (List.range 17).map (fun o =>
    ⟨0x5100, o + 1, decide (s.clampEnergy o ≤ 150000) && decide (2 * s.clampEnergy o ≤ 250 * tp)⟩)
  ++ [⟨0x5102, 0, decide (s.period ≠ 0) && decide (tp * 1000000 % s.period = 0)⟩, ⟨0x5103, 2, decide (s.obj 0x5103 1 ≤ s.obj 0x5103 2)⟩]

/-- Telegram lengths that a CAN FD frame can have (14 R379). -/
def fdLens : List Nat := [12, 16, 20, 24, 32, 48, 64]

/-- Number of the first condition of 14 R379 that connection `k` breaks, 0 when none. -/
def State.connError (s : State) (k : Nat) : Nat :=
  let x := 0x6100 + k
  let kind := s.obj x 1
  let c := s.obj x 2
  let kinds := fun (j : Nat) => decide (s.obj (0x6100 + j) 1 ≠ 0)
  let inp := kind == 1 || kind == 3
  let cork := kind == 1 || kind == 2
  let src := s.obj (chanObj c 0) 2
  let h := src % 512
  let stream := s.setKind c == 1
  let proto := s.obj (0x3200 + h) 6
  let plen := s.obj x 10
  let rest := (List.range 256).filter (fun j => j ≠ k && kinds j)
  let holds := fun (st : Nat) => (s.stationChans st (if inp then 4 else 5)).contains c
  let inStation := s.usedStations.any (fun st => s.obj (0x0300 + st) 3 == 1 && holds st)
  let st := s.usedStations.find? holds
  let rev := s.obj x 4
  let ch := bitsOf src 23 16
  let cfg := BitVec.ofNat 64 (s.obj (0x4000 + 0x100 * ch) 1)
  let win := bitsOf (s.obj (chanObj c 0) 3) 15 0
  let seg := s.obj 0x3110 ch
  let revOk := rev == 0xFF || (kinds rev && ((s.obj (0x6100 + rev) 1 == 1 || s.obj (0x6100 + rev) 1 == 3) != inp)
    && (match st with
      | some t => (s.stationChans t (if inp then 5 else 4)).contains (s.obj (0x6100 + rev) 2)
      | none => false))
  let extra := (List.range 7).any (fun i => decide (s.obj x (11 + i) ≠ 0))
  if kind = 0 then (if extra then 8 else 0)
  else if !(s.setMode c == (if inp then 1 else 2) && s.setPlace c == 0 && inStation
      && (if cork then (stream && proto == 0) || s.setKind c == 2 || s.setKind c == 3 else stream && proto == 1)) then 1
  else if rest.any (fun j => s.obj (0x6100 + j) 2 == c) then 2
  else if cork && (s.obj x 3 == 0 || rest.any (fun j => decide (s.obj (0x6100 + j) 1 ≤ 2) && s.obj (0x6100 + j) 3 == s.obj x 3)) then 3
  else if cork && inp && stream && decide (win ≠ plen + 12) then 4
  else if cork && s.setKind c == 2 && !(fldGet (CAN_CFG_FDE 0) cfg == 1
      && (fldGet (CAN_CFG_OPMODE 0) cfg == 1 || fldGet (CAN_CFG_OPMODE 0) cfg == 2) && fdLens.contains (plen + 12)) then 5
  else if cork && s.setKind c == 3 && decide (plen + 12 ≠ (if inp then bitsOf seg 15 0 else bitsOf seg 31 16)) then 6
  else if !revOk then 7
  else if cork && extra then 8
  else 0

/-- The connection conditions (14 R379, R395). -/
def State.connConds (s : State) : List Cond :=
  (List.range 256).map (fun k => ⟨0x6100 + k, 1, s.connError k == 0⟩)

/-- The codes of a rate table. -/
def rateCodes : List Byte → List Nat
  | c0 :: c1 :: _ :: _ :: rest => (c0.toNat + 256 * c1.toNat) :: rateCodes rest
  | _ => []

/-- The rate-table conditions (17 R460). -/
def State.rateConds (s : State) : List Cond :=
  let cs := rateCodes (s.objBytes 0x7101 0)
  [⟨0x7101, 0, cs.all (fun c => decide (c / 4096 ≠ 0) && decide (c / 4096 ≠ 8) && decide (c / 4096 ≠ 9)
      && !s.triggerCodes.contains c) && decide cs.Nodup⟩]

/-- The pairing conditions (19 R497). -/
def State.pairConds (s : State) : List Cond :=
  if !s.pairOn then []
  else
    let t := s.objBytes 0x3010 0
    let heart := (List.range (s.obj 0x3000 1)).all (fun b =>
      (winsOf t b).any (fun w => w.len != 0 && w.type == 0 && w.stream == 511 && bitOf w.dmask 11))
    [⟨0x7300, 1, s.obj 0x3100 1 == 0 && s.obj 0x3401 12 == 0 && heart⟩]

/-- Every commit condition in ascending index order (R430). -/
def State.conds (s : State) : List Cond :=
  s.stationConds ++ s.slewConds ++ s.chanConds ++ [⟨0x3010, 0, s.trellisOk⟩] ++ s.ringConds ++ s.streamConds ++ s.roleConds
    ++ (List.range 8).flatMap s.canConds ++ s.fieldConds ++ s.connConds ++ s.rateConds ++ s.pairConds

/-! ### The commit -/

/-- The event of a refused commit (14 R379: 0x6030; 15 R411: 0x5041). -/
def State.condEvent (s t : State) (c : Cond) : State :=
  if 0x6100 ≤ c.index ∧ c.index < 0x6200 then
    let k := c.index - 0x6100
    s.hubEvt 0x6030 [(1, k), (1, t.connError k)]
  else if c.index = 0x5100 then s.hubEvt 0x5041 [(1, c.sub - 1), (4, t.clampEnergy (c.sub - 1)), (4, t.obj 0x5102 0)]
  else s

/-- Some CAN object of channel `ch` changes. -/
def canChanges (s t : State) (ch : Nat) : Bool :=
  (List.range 4).any (fun k => (List.range 65).any (fun j =>
    decide (s.objBytes (0x4000 + 0x100 * ch + k) j ≠ t.objBytes (0x4000 + 0x100 * ch + k) j)))

/-- The hub takes the committed values of the switch, the CAN channels and the time base; claims are lost (11 R315, 12 R338). -/
def State.hubTakes (s old : State) : State :=
  if !s.hub.supplied then s
  else
    let s := s.loadNetCfg
    let roles := [0x3400, 0x3401].any (fun i => (List.range 13).any (fun j => decide (old.objBytes i j ≠ s.objBytes i j)))
    let s := if roles || decide (old.pairOn ≠ s.pairOn) then s.startTb.tbNewRole (old.obj 0x3400 1) else s
    let s := s.dropClaims
    let s := if decide (old.objBytes 0x3010 0 = s.objBytes 0x3010 0) && decide (old.obj 0x3000 1 = s.obj 0x3000 1) then s
      else s.newTrellis (s.objBytes 0x3010 0) (s.obj 0x3000 1)
    (List.range 8).foldl (fun s ch => if canChanges old s ch then s.recommitCan ch else s) s

/-- A staged program set becomes the committed one (08 R230); a new retained layout clears the retained-commit flag (07
R219). -/
def State.takeStaged (s : State) : State :=
  if s.rack.staged && s.rack.kind == 1 && s.rack.switchFrame.isNone then
    let bank := 1 - s.sup.ka.progBank
    let old := (parseProg .a s.activeImage).layoutId
    let s := { s with
      sup := { s.sup with ka := { s.sup.ka with progBank := bank } }
      rack := { s.rack with state := 0, staged := false, kind := 0, lanes := [] } }
    if (parseProg .a s.activeImage).layoutId = old then s
    else { s with sup := { s.sup with ka := { s.sup.ka with commitFlag := false } } }
  else s

/-- A commit (R429 to R431): the merged set is checked; stored in the inactive copy with the next sequence number; the lanes load
it at the next edge. The answer is an abort code. -/
def State.commit (s : State) : State × Nat :=
  let t := s.merged.withPair
  match t.conds.find? (fun c => !c.ok) with
  | some c =>
    (((s.condEvent t c).volSet 0x0120 2 [1]).volSet 0x0120 3 (leBytes 4 (c.index * 256 + c.sub)), 0x0404)
  | none =>
    let d := t.dict
    let s1 := { s with dict := { d with pend := [], pendApp := none, copy := 1 - s.dict.copy, copySeq := s.dict.copySeq + 1 } }
    let s1 := s1.storedSet 0x0120 5 (padTo 16 (Config.configId d.stored))
    let s1 := (s1.volSet 0x0120 2 [0]).volSet 0x0120 3 (leBytes 4 0)
    let s1 := (s1.takeStaged).hubTakes s
    (onLanes (fun l x => x.updLane l (fun y => { y with cfgDue := true })) s1, 0)

/-- The pending set is discarded (R429). -/
def State.discard (s : State) : State := { s with dict := { s.dict with pend := [], pendApp := none } }

/-- Every object of a row: its index and sub-index. -/
def rowObjects (r : ObjRow) : List (Nat × Nat) :=
  (List.range (max 1 r.count)).flatMap (fun k => (List.range (r.shi + 1 - r.slo)).map (fun j => (r.index + r.stride * k, r.slo + j)))

/-- The default of every RWC object, except 0x0100 to 0x0111, goes into the pending set (R429, R425). -/
def State.restoreDefaults (s : State) : State :=
  let rows := objRows.filter (fun r => decide (r.acc = .rwc) && !(decide (0x0100 ≤ r.index) && decide (r.index ≤ 0x0111)))
  let vs := rows.flatMap (fun r => (rowObjects r).map (fun o => (objKey o.1 o.2, objDefault r)))
  { s with dict := { s.dict with pend := overSet vs s.dict.pend } }

/-! ### Dictionary images (R432) -/

/-- Check 0x01 of R212 for KIND 0x0002: the container, zero CODED_FMT, TASK_CNT and rate divisors, and known sections. -/
def dictHeaderOk (b : List Byte) : Bool :=
  containerOk b jaldexMagic [2] 0x3FF00000 (leAt b 26 2)
    && byteAt b 18 == 0 && byteAt b 19 == 0 && (slice b 20 6).all (· = 0) && (slice b 32 28).all (· = 0)
    && (imgSections b (leAt b 26 2)).all (fun x => x.type == 0x0201 || x.type == 0x0202)

/-- Checks 0x01 to 0x04 of 07 R212 on a dictionary image; 0 when none fails. -/
def State.dictImageCode (s : State) (b : List Byte) : Nat :=
  if !dictHeaderOk b then 1
  else if !s.programSigned b then 2
  else if !blocksOk b (leAt b 26 2) then 3
  else if leAt b 16 2 ≠ s.obj 0x0003 1 then 4
  else 0

/-- MAXLEN keeps the size of a type (00 R20): an OCTET has 1 to 4 096 bytes, a VSTRING at most 255, a DOMAIN at most 32 MiB. -/
def maxLenOk (d : AppDecl) : Bool :=
  match d.type with
  | 12 => decide (1 ≤ d.maxLen) && decide (d.maxLen ≤ 4096)
  | 13 => decide (d.maxLen ≤ 255)
  | _ => decide (d.maxLen ≤ 0x2000000)

/-- The declarations of a section 0x0202; none when an entry uses a reserved encoding. -/
def declEntries (b : List Byte) : Option (List AppDecl) :=
  let ds := (List.range (b.length / 16)).map (fun i =>
    let e := slice b (16 * i) 16
    (e, ({ index := leAt e 0 2, sub := byteAt e 2, type := byteAt e 3, access := byteAt e 4, persist := byteAt e 5,
           maxLen := leAt e 8 4 } : AppDecl)))
  let ok := fun (p : List Byte × AppDecl) =>
    isApp p.2.index && decide (1 ≤ p.2.type) && decide (p.2.type ≤ 15) && decide (p.2.access ≤ 2) && decide (p.2.persist ≤ 1)
      && leAt p.1 6 2 == 0 && leAt p.1 12 4 == 0 && maxLenOk p.2
  if b.length % 16 = 0 && ds.all ok then some (ds.map (·.2)) else none

/-- The values of a section 0x0201: index, sub-index and bytes; none when an entry is cut off or a reserved byte is not 0. -/
def valueEntries : Nat → List Byte → Option (List (Nat × Nat × List Byte))
  | 0, _ => none
  | fuel + 1, b =>
    if b = [] then some []
    else
      let n := leAt b 4 4
      let size := 8 + (n + 7) / 8 * 8
      if b.length < size ∨ byteAt b 3 ≠ 0 then none
      else (valueEntries fuel (b.drop size)).map (fun r => (leAt b 0 2, byteAt b 2, slice b 8 n) :: r)

/-- A value fits an object's length (R424, R440). -/
def lengthOk (r : ObjRow) (n : Nat) : Bool := if typeFixed r.ty then n == typeLen r.ty else decide (n ≤ typeLen r.ty)

/-- One value of an image, as a write of rights level 2 to the pending set: RWC objects outside 0x0100 to 0x0111, and the
defaults of application objects; none when it is refused. -/
def State.imageValue (s : State) (i j : Nat) (bs : List Byte) : Option State :=
  match s.merged.objRow i j with
  | none => none
  | some r =>
    if !lengthOk r bs.length || !s.valueOk i j r bs || s.fixedObj i j then none
    else if isApp i || (decide (r.acc = .rwc) && !(decide (0x0100 ≤ i) && decide (i ≤ 0x0111))) then some (s.pendSet i j bs)
    else none

/-- Apply the values in order; the first refused one stops the load. -/
def State.imageValues (s : State) : List (Nat × Nat × List Byte) → Option State
  | [] => some s
  | (i, j, bs) :: r => match s.imageValue i j bs with
    | some t => t.imageValues r
    | none => none

/-- DICTIONARY_IMAGE_LOAD's effect: the image is checked, its declarations and values go into the pending set; a refusal leaves
the pending set as it was (R432). -/
def State.loadImage (s : State) (b : List Byte) : State × Nat :=
  if s.dictImageCode b ≠ 0 then (s, 0x0403)
  else
    let xs := imgSections b (leAt b 26 2)
    let decls := (xs.filter (fun x => x.type == 0x0202)).map (fun x => declEntries (sectionBytes b x))
    let vals := (xs.filter (fun x => x.type == 0x0201)).map (fun x => valueEntries (x.len + 1) (sectionBytes b x))
    if decls.any (·.isNone) || vals.any (·.isNone) then (s, 0x0403)
    else
      let ds := decls.flatMap (·.getD [])
      let s1 := if ds = [] then s else { s with dict := { s.dict with pendApp := some ds } }
      match s1.imageValues (vals.flatMap (·.getD [])) with
      | some t => (t, 0)
      | none => (s, 0x0403)

end Sys2Proof.Machine
end

