-- ==== Sys2Proof/Machine/Report.lean ====
section
/-! DEFINITION. What the report objects of the dictionary show (16 R426 and the object tables of the chapters). -/

namespace Sys2Proof.Machine

/-- The lane whose view the lanes' common reports show: the lowest-numbered of voter 2's member set, in SPLIT the lowest-numbered
that is not disregarded (R426); else the first supplied lane. -/
def State.viewLane (s : State) : LaneId :=
  let inView := fun (l : LaneId) =>
    if s.md.mode = .split then (s.lane l).supplied && !inSet s.sup.v2.disregarded l else inSet s.members l
  ((lanes.find? inView).orElse (fun _ => s.leadLane)).getD .a

/-- The least value of a field over the supplied lanes; 0 when none is. -/
def State.leastField (s : State) (f : Fld) : Nat :=
  match (lanes.filter (fun l => (s.lane l).supplied)).map (fun l => s.lf l f) with
  | [] => 0
  | v :: vs => vs.foldl min v

/-- The largest of a task's values over the lanes. -/
def State.mostTask (s : State) (t : Nat) (f : TaskRt → Nat) : Nat := maxList (lanes.map (fun l => f (s.task l t)))

/-- STATUS and AGE of a station (07 R225). -/
def stationWord (r : StationRec) : Nat :=
  min 0xFFFFFF r.age * 256 + b2n r.fresh + 2 * b2n r.stale + 4 * b2n r.recovered + 8 * b2n r.safeOk

/-- Identity of a firmware bank. -/
def State.fwId (s : State) (bank : Nat) : List Byte := imgId ((mapFind s.store.fw bank).getD Config.factoryFirmware)

/-- The kind of a partner's entry (R454). -/
def partnerKind (p : Nat) (x : Partner) : Nat :=
  if p ≤ 12 then 1 else if p ≤ 28 then 2 else if p ≤ 36 then 3
  else match x.addr.length with
    | 0 => 0
    | 1 => 5
    | _ => 4

/-- The 32 bytes of partner `p` (R454). -/
def State.partnerBytes (s : State) (p : Nat) : List Byte :=
  let x := s.partner p
  leBytes 1 (partnerKind p x) ++ leBytes 1 (b2n x.until_.isSome) ++ leBytes 1 (s.obj 0x7001 1 - x.used) ++ [0]
    ++ leBytes 4 x.viol ++ leBytes 4 x.supp ++ leBytes 4 x.throttles ++ leBytes 8 x.lastFrame ++ leBytes 2 x.lastCode
    ++ padTo 6 x.addr

/-- The numbers of the mode, tick and program chapters' reports. -/
def State.computed1 (s : State) (i j : Nat) : Option Nat :=
  let l := s.viewLane
  let p := (s.lane l).prog
  if i = 0x1000 then some s.md.mode.code
  else if i = 0x1110 then
    match j with
    | 1 => some (s.leastField TCK_MARGIN_GC)
    | 2 => some (s.leastField TCK_MARGIN_RUN)
    | _ => some s.modFrame
  else if i = 0x1121 ∧ j = 1 then some (100 * phaseA (s.obj 0x1120 1) (s.lf l XCH_VOLUME))
  else if i = 0x1150 then
    let w := commitBlocks p (s.obj 0x1150 2)
    match j with
    | 4 => some w
    | 5 => some (if p.id = [] then 0 else commitNs w)
    | 6 => some s.sup.ka.q
    | _ => none
  else if i = 0x1151 then some (p.div.getD (j - 1) 0)
  else if i = 0x1152 then some (s.mostTask (j - 1) (·.maxPlain))
  else if i = 0x1153 then some (s.mostTask (j - 1) (·.maxEnc))
  else if i = 0x1160 then
    match j with
    | 4 => some s.rack.state
    | 5 => some s.rack.code
    | 6 | 7 | 8 => some (mapGet 0 s.rack.lanes (j - 6))
    | _ => none
  else if i = 0x1164 then some (if j = 1 then s.rack.tCarry else s.rack.x)
  else if i = 0x1170 then some (stationWord (mapGet {} (s.lane l).rt.stations j))
  else none

/-- The numbers of the engine's, the time base's, the field stage's and the safety layer's reports. -/
def State.computed2 (s : State) (i j : Nat) : Option Nat :=
  let l := s.viewLane
  if i = 0x2BF0 then some (relaySet.getD (j - 1) 0)
  else if 0x2000 ≤ i ∧ i < 0x2C00 ∧ i % 16 = 1 ∧ j = 1 then some (s.hf (PDE_STAT_STATE ((i - 0x2000) / 16)))
  else if i = 0x3410 then
    match j with
    | 1 => some s.discTime
    | 2 => some (s.hf TB_OFS_LAST)
    | 3 => some (s.hf TB_STATUS_STATE)
    | 4 => some (ofInt 32 (ratePpb (s.hf TB_RATE)))
    | _ => none
  else if i = 0x5200 then
    match j with
    | 1 => some (s.agreedDiag l)
    | 2 => some (s.agreedCurrent l)
    | 3 => some s.proofHours
    | _ => some (s.lane l).rt.latched
  else if i = 0x5201 then some (s.clampEnergy (j - 1))
  else if 0x6200 ≤ i ∧ i < 0x6300 then
    let k := s.conn l (i - 0x6200)
    match j with
    | 1 => some k.st
    | 2 => some (k.acc.getD 0)
    | 3 => some k.total
    | 4 => some k.lost
    | _ => some k.age
  else none

/-- The numbers of the cellar book's, the ageing loop's, pairing's and the power unit's reports. -/
def State.computed3 (s : State) (i j : Nat) : Option Nat :=
  let b := s.book
  let w := s.sup.pw
  let r := (s.lane s.viewLane).rt.pair
  if i = 0x7100 then
    match j with
    | 1 => some b.next
    | 2 => some b.ffCount
    | 3 => some (16 * b2n b.ready + 8 * b2n b.ffFull + 4 * b2n b.counting + 2 * b2n b.frozen + b2n b.decant.active)
    | _ => some b.freeze
  else if i = 0x7110 ∧ j = 5 then some b.decant.result
  else if i = 0x7211 ∧ j ≤ 3 then
    some (if (s.lane (laneOf (j - 1))).supplied then 600 + 5 * s.lf (laneOf (j - 1)) AGE_AVS_V else 0)
  else if i = 0x7211 ∧ j ≤ 6 then
    some (if mapGet 0 s.coo.vmin (j - 4) = 0 then 0 else 600 + 5 * mapGet 0 s.coo.vmin (j - 4))
  else if i = 0x7210 ∧ j = 3 then some (1600 - 25 * s.fRun)
  else if i = 0x7210 ∧ j = 7 then some s.opHours
  else if i = 0x7301 ∧ j = 1 then some r.role
  else if i = 0x7301 ∧ j = 2 then some (match r.last with | some h => h.role | none => 3)
  else if i = 0x7400 then
    match j with
    | 1 => some w.cap
    | 2 => some w.esr
    | 3 => some (min 0xFFFF w.eHu)
    | 4 => some (min 0xFFFF w.eUse)
    | _ => some w.vch
  else if i = 0x7402 then some (min 0xFFFF s.sup.ka.lastDump)
  else if i = 0x7403 then
    match j with
    | 1 => some w.vka
    | 2 => some w.vo
    | 3 => some w.vb
    | 4 => some (w.vin / 10)
    | 5 => some (ofInt 16 w.temp)
    | _ => some (w.pin / 10)
  else none

/-- Reports that are byte strings. -/
def State.computedBytes (s : State) (i j : Nat) : Option (List Byte) :=
  if i = 0x1150 ∧ j = 1 then some (padTo 16 (s.lane s.viewLane).prog.id)
  else if i = 0x1163 ∧ j ≤ 3 then some (padTo 16 (s.fwId (mapGet 0 s.sup.ka.sel (j - 1))))
  else if i = 0x1163 ∧ j = 4 then some (padTo 16 (s.fwId s.hub.bank))
  else if i = 0x7010 then some (s.partnerBytes j)
  else if i = 0x7111 then some s.book.decant.file
  else none

/-- What a read of object `i:j` shows: a value computed from the state, a count, or the value held. -/
def State.report (s : State) (i j : Nat) (r : ObjRow) : List Byte :=
  match s.computedBytes i j with
  | some b => b
  | none =>
    match ((s.computed1 i j).orElse (fun _ => s.computed2 i j)).orElse (fun _ => s.computed3 i j) with
    | some v => leBytes (typeLen r.ty) v
    | none =>
      match (if r.acc = .ro then mapFind s.dict.counts (objKey i j) else none) with
      | some v => leBytes (typeLen r.ty) v
      | none => s.objBytes i j

end Sys2Proof.Machine
end

