-- ==== Sys2Proof/Machine/Relay.lean ====
section
/-! DEFINITION. The relay to the lanes on channel 191 (16 R446): the hub's queue of entries, what a lane does with an entry, and
the outcomes that lanes report (R447); and the answers of the service. -/

namespace Sys2Proof.Machine

/-! ### Answers -/

/-- The segments of a PDU as CAN data fields of `room` bytes with their header byte: FIRST, LAST, SN (R438). -/
def canSegments (room : Nat) : Nat → Nat → List Byte → List (List Byte)
  | 0, _, _ => []
  | fuel + 1, i, b =>
    let last := decide (b.length ≤ room)
    let h := b2n (i == 0) * 128 + b2n last * 64 + i % 64
    (leBytes 1 h ++ padTo room b) :: (if last then [] else canSegments room fuel (i + 1) (b.drop room))

/-- Base of lane `i`'s interface in hub SRAM (R447). -/
def laneRing (i : Nat) : Nat := 0x58FC0000 + 0x10000 * i

/-- A 32-bit count of an interface. -/
def State.ringCount (s : State) (addr : Nat) : Nat := leNat (memRead s.hub.sram addr 4)

/-- Write hub SRAM. -/
def State.sramSet (s : State) (addr : Nat) (bs : List Byte) : State :=
  { s with hub := { s.hub with sram := memWrite s.hub.sram addr bs } }

/-- Give a response to a client over its transport (R437, R438, R447). -/
def State.deliver (s : State) (c : Client) (b : List Byte) : State :=
  if c.kind = 1 then s.emit .service 13 (beNat c.addr) b
  else if c.kind = 2 then
    let ch := byteAt c.addr 0
    let room := if s.hf (CAN_CFG_FDE ch) = 1 then 63 else 7
    (canSegments room (b.length + 1) 0 b).foldl (fun s f => s.emit .can ch (s.obj 0x0101 3) f) s
  else
    let base := laneRing (byteAt c.addr 0)
    let w := s.ringCount (base + 0xFF08)
    let s := s.sramSet (base + 0x4100 + 0x410 * (w % 16)) (leBytes 2 b.length ++ List.replicate 14 0 ++ b)
    s.sramSet (base + 0xFF08) (leBytes 4 ((w + 1) % 2 ^ 32))

/-- Answer a request: header, data, and AUTH under the key of the host that signed it (R439, R442); requests served and aborts
sent are counted. -/
def State.respond (s : State) (q : OpenRequest) (op code : Nat) (last : Bool) (data : List Byte) : State :=
  let flags := 128 * b2n (q.host ≠ 0) + 64 * b2n last
  let b := leBytes 1 1 ++ leBytes 1 (op % 128 + 128) ++ beBytes 2 q.tid ++ beBytes 2 q.index ++ leBytes 1 q.sub ++ leBytes 1 flags
    ++ beBytes 4 q.offset ++ beBytes 2 data.length ++ beBytes 2 code ++ data
  let b := if q.host = 0 then b else b ++ (hmac256 (s.objBytes 0x0102 q.host) b).take 16
  ((s.cntAdd 0x7000 1 1).cntAdd 0x7000 2 (b2n (code ≠ 0))).deliver q.client b

/-! ### The hub's queue (R446) -/

/-- Objects owned by the lanes (R426). -/
def State.laneOwned (s : State) (i j : Nat) : Bool :=
  [0x1001, 0x1003, 0x1013, 0x1017, 0x1019, 0x5105, 0x6300].contains i || (i == 0x1160 && (j == 1 || j == 2)) || i == 0x0210
    || (isApp i && (match s.objRow i j with
      | some r => r.acc != .ro && decide (typeLen r.ty ≤ 4096)
      | none => false))

/-- Entries that a value of `n` bytes takes. -/
def fragCount (n : Nat) : Nat := max 1 ((n + 31) / 32)

/-- The relay has room for a value of `n` bytes. -/
def State.relayRoom (s : State) (n : Nat) : Bool := decide (s.svc.relay.length + fragCount n ≤ 136)

/-- Queue a value: one entry, or its fragments in order (R446); `req` is the request it belongs to, 0 none. -/
def State.relayPut (s : State) (req i j src : Nat) (bs : List Byte) : State :=
  let n := fragCount bs.length
  let es := (List.range n).map (fun k =>
    ({ seq := (s.svc.seq + 1 + k) % 65536, index := i, sub := j, source := src, frag := k % 128 + 128 * b2n (k + 1 == n),
       value := slice bs (32 * k) 32, req := req, snaps := 0 } : RelayEntry))
  { s with svc := { s.svc with seq := (s.svc.seq + n) % 65536, relay := s.svc.relay ++ es } }

/-- A request waits for the lanes. -/
def State.relayRequest (s : State) (q : OpenRequest) (src : Nat) (bs : List Byte) : State :=
  let id := s.svc.reqNo + 1
  let s := { s with svc := { s.svc with reqNo := id, reqs := s.svc.reqs ++ [{ q with id := id }] } }
  s.relayPut id q.index q.sub src bs

/-- The entry of 40 bytes. -/
def relayBytes (e : RelayEntry) : List Byte :=
  leBytes 2 e.seq ++ leBytes 2 e.index ++ leBytes 1 e.sub ++ leBytes 1 e.value.length ++ leBytes 1 e.source ++ leBytes 1 e.frag
    ++ padTo 32 e.value

/-- The generator's record: COUNT and the first 8 entries in SEQ order. -/
def relayRecord (es : List RelayEntry) : List Byte :=
  let es := es.take 8
  padTo 328 (leBytes 1 es.length ++ List.replicate 7 0 ++ es.flatMap relayBytes)

/-- The first 8 entries have travelled in one more snapshot. -/
def relaySent : Nat → List RelayEntry → List RelayEntry
  | n + 1, e :: es => { e with snaps := e.snaps + 1 } :: relaySent n es
  | _, es => es

/-- A request is finished with an outcome: its entries go, its client is answered. -/
def State.relayFinish (s : State) (req code : Nat) : State :=
  let q := s.svc.reqs.find? (fun q => q.id == req)
  let s := { s with svc := { s.svc with
    relay := s.svc.relay.filter (fun e => e.req ≠ req), reqs := s.svc.reqs.filter (fun q => q.id ≠ req) } }
  match q with
  | some q => s.respond q 2 code true []
  | none => s

/-- Entries that 16 snapshots have carried without an outcome are answered 0x0503, with the rest of their value. -/
def State.relayExpire (s : State) : State :=
  let old := s.svc.relay.filter (fun e => decide (16 ≤ e.snaps))
  old.foldl (fun s e =>
    if s.svc.relay.contains e then (s.relayFinish e.req 0x0503).cntAdd 0x7000 3 1 else s) s

/-- RELAY_ENTRY_EXPIRE: entries whose 16 snapshots have passed. -/
def execRelayEntryExpire (s : State) : Host.Outcome State Fault Refusal :=
  if s.hub.supplied && s.hub.mgmtUp then .next s.relayExpire else .next s

/-- The outcome of entry `seq` as a lane reports it: the first one counts, a later differing one is counted (R447). -/
def State.relayOutcome (s : State) (seq code : Nat) : State :=
  match s.svc.relay.find? (fun e => e.seq == seq) with
  | some e =>
    let s := { s with svc := { s.svc with outcomes := ((seq, code) :: s.svc.outcomes).take 256 } }
    if code ≠ 0 ∨ 128 ≤ e.frag then s.relayFinish e.req code
    else { s with svc := { s.svc with relay := s.svc.relay.filter (fun x => x.seq ≠ seq) } }
  | none =>
    match s.svc.outcomes.find? (fun o => o.1 == seq) with
    | some o => if o.2 = code then s else s.cntAdd 0x7000 5 1
    | none => s

/-! ### What the lanes do with an entry (R426, R446) -/

/-- A racking request's outcome: refused by state 0x0501, by value 0x0403 (08 R230, R238). -/
def State.rackOutcome (s : State) (src v : Nat) : State × Nat :=
  if v < 1 ∨ 9 < v then (s, 0x0403)
  else
    let t := ({ s with rack := { s.rack with code := 0xFF } } : State).rackRequest src v
    if t.rack.code = 0xFF then ({ t with rack := { t.rack with code := s.rack.code } }, 0)
    else (t, if t.rack.code = 1 then 0x0501 else if t.rack.code = 0x13 then 0x0403 else 0)

/-- The effect of a relayed value on the module: the lanes that act on it do the same. Its outcome. -/
def State.relayEffect (s : State) (src i j : Nat) (bs : List Byte) : State × Nat :=
  let v := leNat bs
  if i = 0x1001 then s.modeRequest src v
  else if i = 0x1003 then s.lifeRequest src v
  else if i = 0x1160 ∧ j = 1 then s.rackOutcome src v
  else if i = 0x5105 then (s, if v = 0 ∨ s.md.mode = .depot then 0 else 0x0501)
  else if i = 0x6300 ∨ i = 0x0210 then (s, 0)
  else (s.volSet i j bs, 0)

/-- The effect that each lane has for itself: the train directory it uses (R435), the reset of a safety connection (14 R386). -/
def State.relayOwn (s : State) (l : LaneId) (src i code : Nat) (bs : List Byte) : State × Nat :=
  if i = 0x0210 then (s.updLane l (fun x => { x with rt := { x.rt with train := bs } }), code)
  else if i = 0x6300 then s.connReset l (leNat bs) src
  else (s, code)

/-- Lane `l` acts on a whole value; what the module does is done once, by the first lane. -/
def State.relayDo (s : State) (l : LaneId) (seq src i j : Nat) (bs : List Byte) : State × Nat :=
  match s.svc.acted.find? (fun o => o.1 == seq) with
  | some o => s.relayOwn l src i o.2 bs
  | none =>
    let (s, code) := s.relayEffect src i j bs
    let s := { s with svc := { s.svc with acted := ((seq, code) :: s.svc.acted).take 32 } }
    s.relayOwn l src i code bs

/-- The lane reports an outcome with OP 0x10 (R447). -/
def State.relayReport (s : State) (l : LaneId) (seq i j code : Nat) : State :=
  s.emit .service (0x20 + l.idx) seq
    ([1, 0x10] ++ beBytes 2 seq ++ beBytes 2 i ++ leBytes 1 j ++ [0] ++ List.replicate 6 0 ++ beBytes 2 code)

/-- Lane `l` and one entry: an older one is skipped; fragments are kept in order; the value is applied with the last one. -/
def State.relayEntry (s : State) (l : LaneId) (e : List Byte) : State :=
  let seq := leAt e 0 2
  let i := leAt e 2 2
  let j := byteAt e 4
  let rt := (s.lane l).rt
  let newer := match rt.relaySeq with
    | none => true
    | some q => decide (0 < toInt 16 (seq + 65536 - q))
  if !newer then s
  else
    let num := byteAt e 7 % 128
    let part := slice e 8 (byteAt e 5)
    let bad := num ≠ 0 && (rt.fragBad || num ≠ rt.fragNext)
    let all := if num = 0 then part else rt.frags ++ part
    let last := decide (128 ≤ byteAt e 7)
    let s := s.updLane l (fun x => { x with rt := { x.rt with
      relaySeq := some seq, frags := if last then [] else all, fragNext := if last then 0 else num + 1, fragBad := !last && bad } })
    if bad then s.relayReport l seq i j 0x0402
    else if !last then s.relayReport l seq i j 0
    else
      let (s, code) := s.relayDo l seq (byteAt e 6) i j all
      s.relayReport l seq i j code

/-- RELAY_ENTRY_ACT: at the end of A lane `l` acts on the entries of an agreed valid relay copy, in entry order. -/
def State.relayAct (s : State) (l : LaneId) : State :=
  match s.arrived l 191 with
  | none => s
  | some r => (List.range (min 8 (byteAt r 0))).foldl (fun s k => s.relayEntry l (slice r (8 + 40 * k) 40)) s

end Sys2Proof.Machine
end

