-- ==== Sys2Proof/Machine/Service.lean ====
section
/-! DEFINITION. The dictionary service (16 R437 to R447): PDUs, their checks in order, reads, writes in segments, and the requests of
the configuration. -/

namespace Sys2Proof.Machine

/-! ### PDUs (R439) -/

/-- A request PDU. -/
structure Pdu where
  ver : Nat
  op : Nat
  tid : Nat
  index : Nat
  sub : Nat
  auth : Bool
  last : Bool
  first : Bool
  reserved : Nat
  offset : Nat
  len : Nat
  abort : Nat
  data : List Byte
  mac : List Byte
  deriving DecidableEq, Repr

/-- The fields of a PDU; missing bytes read 0. -/
def parsePdu (b : List Byte) : Pdu :=
  let h := padTo 16 b
  let f := byteAt h 7
  let auth := bitOf f 7
  let n := b.length - 16 - 16 * b2n auth
  { ver := byteAt h 0, op := byteAt h 1, tid := beAt h 2 2, index := beAt h 4 2, sub := byteAt h 6, auth := auth,
    last := bitOf f 6, first := bitOf f 5, reserved := f % 32, offset := beAt h 8 4, len := beAt h 12 2, abort := beAt h 14 2,
    data := slice b 16 n, mac := b.drop (16 + n) }

/-- Checks of the form, VER and OP: 0, or the abort code (R440, R445). -/
def formCode (p : Pdu) (size : Nat) (lane : Bool) : Nat :=
  if size < 16 ∨ 1024 < size then 0x0101
  else if p.ver ≠ 1 || !([1, 2, 3, 4].contains p.op || (p.op == 16 && lane)) then 0x0102
  else
    let carries := p.op == 2 || p.op == 16
    let lens := if carries then p.len == p.data.length && decide (p.len ≤ 992) else decide (p.data = [])
    let zero := (p.op ≠ 3 && p.op ≠ 4) || (p.len == 0 && p.offset == 0)
    if lens && zero && p.reserved == 0 && decide (16 + 16 * b2n p.auth ≤ size) && (p.op == 16 || p.abort == 0) then 0 else 0x0101

/-- The first host whose entry matches a client's transport address (R442). -/
def State.hostMatch (s : State) (c : Client) : Option Nat :=
  ((List.range 16).map (· + 1)).find? (fun h =>
    let e := s.objBytes 0x0100 h
    byteAt e 0 == c.kind
      && (if c.kind = 1 then
            slice e 4 4 == c.addr.take 4 && (slice e 8 2 == [0, 0] || slice e 8 2 == slice c.addr 4 2)
          else c.kind == 2 && byteAt e 4 == byteAt c.addr 0))

/-- AUTH is what the entry's key gives over the header and DATA (R442). -/
def State.macOk (s : State) (h : Nat) (b : List Byte) (p : Pdu) : Bool :=
  decide (p.mac = (hmac256 (s.objBytes 0x0102 h) (b.take (16 + p.data.length))).take 16)

/-- The TID lies 1 to 256 above the last accepted one; the first after START is exempt (R443). -/
def State.tidOk (s : State) (h tid : Nat) : Bool :=
  match mapFind s.svc.tids h with
  | none => true
  | some t => let d := (tid + 65536 - t) % 65536; decide (1 ≤ d) && decide (d ≤ 256)

/-- Where a request comes from: a lane 0x20 to 0x22, maintenance port 0 in FACTORY and COMMISSIONING 0xFF, the host that signed it,
else 0 (R442, R446). -/
def State.requestSource (s : State) (c : Client) (host : Nat) : Nat :=
  if c.kind = 3 then 0x20 + byteAt c.addr 0
  else if c.port0 && (s.md.life == .factory || s.md.life == .commissioning) then 0xFF
  else host

/-! ### Objects as the service sees them -/

/-- The highest sub-index in use of an object: of the chapters' tables, or of the declarations of an application object. -/
def State.topSubOf (s : State) (i : Nat) : Nat :=
  if isApp i then maxList ((s.dict.app.filter (fun d => d.index == i)).map (fun d => d.sub)) else topSub i

/-- The index exists (R427). -/
def State.indexExists (s : State) (i : Nat) : Bool := if isApp i then s.dict.app.any (fun d => d.index == i) else hasIndex i

/-- The row of sub-index 0 that gives the highest sub-index in use (00 R18). -/
def State.countRow (s : State) (i : Nat) : ObjRow := ⟨i, 0, 1, 0, 0, .u8, .ro, .volatile, s.topSubOf i, 0, 255⟩

/-- The row of an object, sub-index 0 of an array or record included. -/
def State.serviceRow (s : State) (i j : Nat) : Option ObjRow :=
  match s.objRow i j with
  | some r => some r
  | none => if j = 0 && s.indexExists i then some (s.countRow i) else none

/-- The value that a read returns: the pending one in CONFIGURE, else what the object shows (R429). -/
def State.readValue (s : State) (i j : Nat) (r : ObjRow) : List Byte :=
  match (if r.acc = .rwc then mapFind s.dict.pend (objKey i j) else none) with
  | some b => b
  | none => if (s.objRow i j).isNone then leBytes 1 r.dflt else s.report i j r

/-- The code of a type in INFO (08 R239, R439). -/
def typeCode : ObjType → Nat
  | .bool => 1 | .u8 => 2 | .u16 => 3 | .u32 => 4 | .u64 => 5 | .i8 => 6 | .i16 => 7 | .i32 => 8 | .i64 => 9 | .f32 => 10
  | .f64 => 11 | .octet _ => 12 | .vstring _ => 13 | .time64 => 14 | .domain _ => 15

/-- The 12 bytes of INFO (R439). -/
def State.infoBytes (s : State) (i j : Nat) (r : ObjRow) : List Byte :=
  let acc : Nat := if s.fixedObj i j then 0 else match r.acc with
    | .ro => 0 | .rw => 1 | .wo => 2 | .rwc => 3 | .const => 4
  let per : Nat := match r.per with | .volatile => 0 | .retained => 1 | .stored => 2
  let cur := if r.acc = .wo then (s.objBytes i j).length else (s.readValue i j r).length
  leBytes 1 (typeCode r.ty) ++ leBytes 1 acc ++ leBytes 1 per ++ leBytes 1 (b2n (mapFind s.dict.pend (objKey i j)).isSome)
    ++ leBytes 4 cur ++ leBytes 4 (typeLen r.ty)

/-! ### Rights, modes and lengths (R444, R445) -/

/-- Host table, transports and keys (R433). -/
def hostObj (i : Nat) : Bool := decide (0x0100 ≤ i) && decide (i ≤ 0x0111)

/-- The level that a write needs (R433, R444). -/
def levelFor (i : Nat) (r : ObjRow) : Nat :=
  if i = 0x1003 || hostObj i then 3
  else if r.acc = .rwc || i = 0x0120 || i = 0x0121 || i = 0x1160 || i = 0x1161 then 2
  else if i = 0x7201 then 3
  else 1

/-- A source may write an object: repair entries and ageing records come from lanes alone (18 R495). -/
def State.mayWrite (s : State) (src i : Nat) (r : ObjRow) : Bool :=
  decide (levelFor i r ≤ s.sourceLevel src) && ((i ≠ 0x7220 && i ≠ 0x7221) || (decide (0x20 ≤ src) && decide (src ≤ 0x22)))

/-- Mode and life-cycle check of a write (R429, R433, R446). -/
def State.modeCode (s : State) (i j : Nat) (r : ObjRow) : Nat :=
  let cfg := s.md.mode == .configure
  let pends := r.acc == .rwc || i == 0x0102
  let lives := s.md.life == .factory || s.md.life == .commissioning || s.md.life == .depotOpen
  if pends && !cfg then 0x0303
  else if hostObj i && !lives then 0x0501
  else if (i == 0x0120 || i == 0x0121) && !cfg then 0x0501
  else if s.laneOwned i j && !s.pde.relayArmed then 0x0501
  else 0

/-- Checks of a write up to the mode: 0x0302, 0x0304, 0x0303 and 0x0501. -/
def State.writeCode (s : State) (src i j : Nat) (r : ObjRow) : Nat :=
  let lane := decide (0x20 ≤ src) && decide (src ≤ 0x22)
  if r.acc = .const || s.fixedObj i j || (r.acc = .ro && !(lane && isApp i)) then 0x0302
  else if !s.mayWrite src i r then 0x0304
  else s.modeCode i j r

/-! ### Values that the hub holds -/

/-- A whole value for an object that the hub holds; the answer is an abort code. -/
def State.hubValue (s : State) (src i j : Nat) (r : ObjRow) (bs : List Byte) : State × Nat :=
  let v := leNat bs
  if r.acc = .rwc ∨ i = 0x0102 then (s.pendSet i j bs, 0)
  else if i = 0x0120 then
    match v with
    | 1 => s.commit
    | 2 => (s.discard, 0)
    | _ => (s.restoreDefaults, 0)
  else if i = 0x0121 then s.loadImage bs
  else if i = 0x1161 ∧ j = 3 then
    if s.obj 0x1161 1 < s.obj 0x1161 2 + bs.length then (s, 0x0403) else (s.segment src bs, 0)
  else if i = 0x3001 then (s.releaseHeld v, 0)
  else if i = 0x3020 then (if j = 1 then s.claim v else s.releaseWindow v)
  else if i = 0x3410 then
    let (t, ok) := s.setTime v
    (t, if ok then 0 else 0x0501)
  else if 0x4000 ≤ i ∧ i < 0x4800 then (if v = 1 then s.canRelease src ((i - 0x4000) / 0x100) else s, 0)
  else if i = 0x7110 ∧ j = 1 then s.bookRequest src v
  else if i = 0x7201 then s.commandTest src v
  else if i = 0x7220 then (s.mapAppend bs, 0)
  else if i = 0x7221 then (s.ageAppend bs, 0)
  else if i = 0x7302 then if v = 1 then s.askHandover src else (s, 0)
  else (s.volSet i j bs, 0)

/-! ### Transfers (R440, R441) -/

/-- The open transfer on an object. -/
def State.transferAt (s : State) (k : Nat) : Option Transfer := mapFind s.svc.transfers k

/-- Open or extend a transfer. -/
def State.transferSet (s : State) (k : Nat) (t : Transfer) : State :=
  { s with svc := { s.svc with transfers := mapInsert (mapErase s.svc.transfers k) k t } }

/-- End a transfer. -/
def State.transferEnd (s : State) (k : Nat) : State := { s with svc := { s.svc with transfers := mapErase s.svc.transfers k } }

/-- The mark of a client's ended transfer on an object. -/
def State.deadAt (s : State) (c : Client) (k : Nat) : Option DeadTransfer :=
  s.svc.dead.find? (fun d => d.client == c && d.key == k)

/-- Take the mark away. -/
def State.deadClear (s : State) (c : Client) (k : Nat) : State :=
  { s with svc := { s.svc with dead := s.svc.dead.filter (fun d => !(d.client == c && d.key == k)) } }

/-- A transfer ends without its last segment: the client's next segment receives `code`. -/
def State.transferKill (s : State) (k code : Nat) : State :=
  match s.transferAt k with
  | none => s
  | some t =>
    let s := (s.transferEnd k).deadClear t.client k
    { s with svc := { s.svc with dead := ⟨t.client, k, code⟩ :: s.svc.dead } }

/-- TRANSFER_TIMEOUT: no segment for 1 s on object `i:j`; the next one receives 0x0601. -/
def execTransferTimeout (i j : Nat) (s : State) : Host.Outcome State Fault Refusal := .next (s.transferKill (objKey i j) 0x0601)

/-- A mode or life-cycle request that the service refuses with `code`: the module records it as refused (03 R86, R106). -/
def State.refuseRequest (s : State) (i v code : Nat) : State :=
  if i = 0x1001 then (s.refuseMode v (if code = 0x0304 then 3 else 2) code).1
  else if i = 0x1003 then (s.refuseLife v code).1
  else s

/-- Checks 8 to 10 of a WRITE segment whose client's bytes so far are `got` (R445): open transfer, relay, lengths, order. -/
def State.segmentCode (s : State) (p : Pdu) (r : ObjRow) (busy : Bool) (dead got : Option Nat) : Nat :=
  let total := p.offset + p.len
  let relay := p.last && s.laneOwned p.index p.sub && !s.relayRoom total
  let order := if p.first then p.offset == 0 else got == some p.offset
  if busy then 0x0502
  else if !p.first && dead.isSome then dead.getD 0
  else if relay then 0x0502
  else if p.last && typeFixed r.ty && total ≠ typeLen r.ty then 0x0401
  else if typeLen r.ty < total || !order then 0x0402
  else 0

/-- A WRITE segment (R440): the value is replaced when LAST arrives; a value that the lanes own is relayed, and answered with
their outcome. -/
def State.writeSegment (s : State) (c : Client) (q : OpenRequest) (src : Nat) (p : Pdu) (r : ObjRow) : State :=
  let k := objKey p.index p.sub
  let t := s.transferAt k
  let mine := match t with | some t => t.client == c | none => false
  let busy := t.isSome && !mine
  let got := if mine then t.map (fun t => t.bytes.length) else none
  let dead := (s.deadAt c k).map (fun d => d.code)
  let code := s.segmentCode p r busy dead got
  let bytes := (if p.first then [] else (t.map (fun t => t.bytes)).getD []) ++ p.data
  let s := if p.first || dead == some 0x0601 then s.deadClear c k else s
  if busy then s.respond q 2 code p.last []
  else if code ≠ 0 then ((s.refuseRequest p.index (leNat p.data) code).transferEnd k).respond q 2 code p.last []
  else if !p.last then (s.transferSet k ⟨c, bytes⟩).respond q 2 0 false []
  else
    let s := s.transferEnd k
    if !s.valueOk p.index p.sub r bytes then (s.refuseRequest p.index (leNat bytes) 0x0403).respond q 2 0x0403 true []
    else if s.laneOwned p.index p.sub then
      (if p.index = 0x0210 then s.volSet 0x0210 1 bytes else s).relayRequest q src bytes
    else
      let (s, code) := s.hubValue src p.index p.sub r bytes
      s.respond q 2 code true []

/-! ### One request (R441, R445) -/

/-- A READ's answer (R440). -/
def State.readAnswer (s : State) (q : OpenRequest) (p : Pdu) (r : ObjRow) : State :=
  let v := s.readValue p.index p.sub r
  if p.len = 0 || (v.length ≤ p.offset && !(v = [] && p.offset = 0)) then s.respond q 1 0x0402 true []
  else
    let d := slice v p.offset (min p.len 992)
    s.respond q 1 0 (p.offset + d.length == v.length) d

/-- The request proper, after its checks of form, AUTH and TID. -/
def State.handle (s : State) (c : Client) (q : OpenRequest) (src : Nat) (p : Pdu) : State :=
  if !s.indexExists p.index then s.respond q p.op 0x0201 true []
  else match s.serviceRow p.index p.sub with
    | none => s.respond q p.op 0x0202 true []
    | some r =>
      match p.op with
      | 1 => if r.acc = .wo then s.respond q 1 0x0301 true [] else s.readAnswer q p r
      | 2 =>
        let code := s.writeCode src p.index p.sub r
        if code ≠ 0 then (s.refuseRequest p.index (leNat p.data) code).respond q 2 code true []
        else s.writeSegment c q src p r
      | 3 => s.respond q 3 0 true (s.infoBytes p.index p.sub r)
      | _ =>
        let k := objKey p.index p.sub
        let mine := match s.transferAt k with | some t => t.client == c | none => false
        (if mine then s.transferKill k 0x0602 else s).respond q 4 0 true []

/-- A dictionary client's violation (R448, R453); the lanes are no partners. -/
def State.clientFault (s : State) (c : Client) (code : Nat) (parts : List (Nat × Nat)) : State :=
  if c.kind = 3 then s else s.clientViolation c.addr code parts

/-- The service runs and the client's transport is open (R437). -/
def State.serviceOpen (s : State) (c : Client) : Bool :=
  s.hub.supplied && s.hub.mgmtUp && s.md.mode != .stowed
    && (if c.kind = 1 then decide (s.obj 0x0101 4 ≠ 0)
        else if c.kind = 2 then decide (s.obj 0x0101 1 = byteAt c.addr 0) && decide (byteAt c.addr 0 < 8)
        else c.kind == 3 && decide (byteAt c.addr 0 < 3))

/-- A lane's OUTCOME PDU: TID is the SEQ of the entry, ABORT its outcome (R447). -/
def State.outcomePdu (s : State) (p : Pdu) : State := s.relayOutcome p.tid p.abort

/-- One request as it arrived complete: the checks in the order of R445. A throttled client's is dropped before any (R452). -/
def State.serve (s : State) (c : Client) (b : List Byte) : State :=
  if !s.serviceOpen c then s
  else if c.kind ≠ 3 && s.throttled c.addr then s.dropThrottled c.addr
  else
    let p := parsePdu b
    let q : OpenRequest := ⟨0, c, 0, p.tid, p.index, p.sub, p.offset⟩
    let form := formCode p b.length (c.kind == 3)
    if form ≠ 0 then (s.clientFault c 0x3001 [(2, form)]).respond q p.op form true []
    else if p.op = 16 then s.outcomePdu p
    else
      match (if p.auth then s.hostMatch c else none) with
      | none => s.handle c q (s.requestSource c 0) p
      | some h =>
        if !s.macOk h b p then (s.clientFault c 0x3002 [(1, h)]).respond q p.op 0x0103 true []
        else
          let q := { q with host := h }
          if !s.tidOk h p.tid then (s.clientFault c 0x3003 [(2, p.tid)]).respond q p.op 0x0603 true []
          else
            let s := { s with svc := { s.svc with tids := mapInsert (mapErase s.svc.tids h) h p.tid } }
            s.handle c q (s.requestSource c h) p

/-! ### Commands -/

/-- The OP byte of a PDU. -/
def pduOp (b : List Byte) : Nat := byteAt b 1

/-- SERVICE_READ: a READ request, or a PDU of no known OP. -/
def execServiceRead (c : Client) (b : List Byte) (s : State) : Host.Outcome State Fault Refusal :=
  if [2, 3, 4, 16].contains (pduOp b) then .next s else .next (s.serve c b)

/-- SERVICE_WRITE: a WRITE request. -/
def execServiceWrite (c : Client) (b : List Byte) (s : State) : Host.Outcome State Fault Refusal :=
  if pduOp b = 2 then .next (s.serve c b) else .next s

/-- SERVICE_INFO: an INFO request. -/
def execServiceInfo (c : Client) (b : List Byte) (s : State) : Host.Outcome State Fault Refusal :=
  if pduOp b = 3 then .next (s.serve c b) else .next s

/-- SERVICE_CANCEL: a CANCEL request. -/
def execServiceCancel (c : Client) (b : List Byte) (s : State) : Host.Outcome State Fault Refusal :=
  if pduOp b = 4 then .next (s.serve c b) else .next s

/-- The lane-local client of a lane. -/
def laneClient (l : LaneId) : Client := ⟨3, leBytes 1 l.idx, false⟩

/-- SERVICE_OUTCOME: lane `l` reports the outcome of a relay entry. -/
def execServiceOutcome (l : LaneId) (b : List Byte) (s : State) : Host.Outcome State Fault Refusal :=
  if pduOp b = 16 then .next (s.serve (laneClient l) b) else .next s

/-- LANE_LOCAL_REQUEST: the hub takes the next request of lane `l`'s ring and counts REQ_RD (R447). -/
def execLaneLocalRequest (l : LaneId) (s : State) : Host.Outcome State Fault Refusal :=
  let base := laneRing l.idx
  let w := s.ringCount (base + 0xFF00)
  let r := s.ringCount (base + 0xFF04)
  if !s.serviceOpen (laneClient l) || w = r then .next s
  else
    let slot := base + 0x410 * (r % 16)
    let n := leNat (memRead s.hub.sram slot 2)
    let b := memRead s.hub.sram (slot + 16) (min n 1024)
    let s := s.sramSet (base + 0xFF04) (leBytes 4 ((r + 1) % 2 ^ 32))
    .next (s.serve (laneClient l) (if 1024 < n then [] else b))

/-- The client of the CAN transport. -/
def canClient (ch : Nat) : Client := ⟨2, leBytes 1 ch, false⟩

/-- The length that a PDU's own header gives it: what follows it in its last CAN frame is padding (R438). -/
def trimPdu (b : List Byte) : List Byte :=
  let p := parsePdu b
  let n := 16 + (if p.op = 2 ∨ p.op = 16 then p.len else 0) + 16 * b2n p.auth
  if (b.drop n).all (· = 0) && decide (b.length < n + 63) && decide (16 ≤ b.length) then b.take n else b

/-- A partial PDU is discarded and counts as a malformed request (R438). -/
def State.canBroken (s : State) (ch : Nat) : State :=
  let s := { s with svc := { s.svc with canRx := none } }
  s.clientFault (canClient ch) 0x3001 [(2, 0x0101)]

/-- CAN_SERVICE_SEGMENT: a frame of the request identifier adds a segment to the PDU; LAST completes it. -/
def execCanServiceSegment (ch : Nat) (f : CanFrame) (s : State) : Host.Outcome State Fault Refusal :=
  if !s.serviceOpen (canClient ch) || !s.canOn ch || !s.isService ch f || f.remote || f.data = [] then .next s
  else
    let h := byteAt f.data 0
    let sn := h % 64
    let first := bitOf h 7
    let (want, got) := match s.svc.canRx with
      | some (n, b) => (some n, b)
      | none => (none, [])
    let s := if first && want.isSome then s.canBroken ch else s
    let ok := if first then sn == 0 else want == some sn
    if !ok then .next (s.canBroken ch)
    else
      let b := (if first then [] else got) ++ f.data.drop 1
      if bitOf h 6 then
        .next (({ s with svc := { s.svc with canRx := none } } : State).serve (canClient ch) (trimPdu b))
      else .next { s with svc := { s.svc with canRx := some ((sn + 1) % 64, b) } }

/-- CAN_SEGMENT_GAP_TIMEOUT: more than 100 ms between the frames of a PDU. -/
def execCanSegmentGapTimeout (s : State) : Host.Outcome State Fault Refusal :=
  if s.svc.canRx.isSome then .next (s.canBroken (s.obj 0x0101 1)) else .next s

/-- A request of the configuration is taken from a source of level 2 in CONFIGURE. -/
def State.configOpen (s : State) (src : Nat) : Bool :=
  s.hub.supplied && s.hub.mgmtUp && decide (2 ≤ s.sourceLevel src) && s.md.mode == .configure

/-- CONFIG_COMMIT: 0x0120:01 = 0x01. -/
def execConfigCommit (src : Nat) (s : State) : Host.Outcome State Fault Refusal :=
  if s.configOpen src then .next s.commit.1 else .next s

/-- CONFIG_DISCARD: 0x0120:01 = 0x02. -/
def execConfigDiscard (src : Nat) (s : State) : Host.Outcome State Fault Refusal :=
  if s.configOpen src then .next s.discard else .next s

/-- CONFIG_RESTORE_DEFAULTS: 0x0120:01 = 0x03. -/
def execConfigRestoreDefaults (src : Nat) (s : State) : Host.Outcome State Fault Refusal :=
  if s.configOpen src then .next s.restoreDefaults else .next s

/-- DICTIONARY_IMAGE_LOAD: a whole value of 0x0121:00. -/
def execDictionaryImageLoad (src : Nat) (b : List Byte) (s : State) : Host.Outcome State Fault Refusal :=
  if s.configOpen src then .next (s.loadImage b).1 else .next s

/-- TRAIN_DIRECTORY_WRITE: a host writes 0x0210:01; the hub uses it at once, the lanes from the cycle in which they act on its
entry (R435). -/
def execTrainDirectoryWrite (src : Nat) (b : List Byte) (s : State) : Host.Outcome State Fault Refusal :=
  if s.hub.supplied && s.hub.mgmtUp && s.pde.relayArmed && decide (1 ≤ s.sourceLevel src) && decide (b.length = 28)
      && s.relayRoom 28 then
    let id := s.svc.reqNo + 1
    let s := { s with svc := { s.svc with reqNo := id } }
    .next ((s.volSet 0x0210 1 b).relayPut id 0x0210 1 src b)
  else .next s

end Sys2Proof.Machine
end

