-- ==== Sys2Proof/Machine/Tick.lean ====
section
/-! DEFINITION. The tick unit's own commands (02): sync beats, the hub's tick markers, hub loss. -/

namespace Sys2Proof.Machine

/-- Change the tick state of lane `l`. -/
def State.tickUpd (s : State) (l : LaneId) (f : LaneTick → LaneTick) : State :=
  s.updLane l (fun x => { x with tick := f x.tick })

/-! ### Sync beats (R53, R54) -/

/-- Lane `k`'s beats count for its neighbours: it runs, is in step, and is in the vote where there is one (R54). -/
def State.beatCounts (s : State) (k : LaneId) : Bool :=
  s.ticking k && decide (s.lf k TCK_STATUS_OUT_OF_STEP = 0) && (decide (s.members = 0) || s.inVote k)

/-- The median of the beats relative to the own beat, which stands at 0: of three, or half the way to one neighbour's (R53). -/
def beatMedian : List Int → Int
  | [p, q] => median3 0 p q
  | [p] => p / 2
  | _ => 0

/-- Two consecutive beats more than 2 µs from the median: out of step, images withheld (R54, event 0x1004). -/
def State.outOfStep (s : State) (l : LaneId) : State :=
  if 2 ≤ (s.lane l).tick.beatOut ∧ s.lf l TCK_STATUS_OUT_OF_STEP = 0 then
    let s := (s.lfSet l TCK_STATUS_OUT_OF_STEP 1).withhold l 8
    s.laneEvt l 0x1004 [(1, l.idx), (4, ofInt 32 (toInt 16 (s.lf l TCK_OFFSET_MEDIAN_OFS)))]
  else s

/-- SYNC_BEAT: every 50 µs lane `l` sends a beat on both links and corrects its local time; `p` and `q` are the times at which the
previous and the next lane's beat arrive relative to its own, in ns; the link delays measured at start are subtracted (R53). -/
def execSyncBeat (l : LaneId) (p q : Option Int) (s : State) : Host.Outcome State Fault Refusal :=
  if !s.ticking l then .next s
  else
    let s := s.sendBoth l 1 0 []
    let near := fun (k : LaneId) (t : Option Int) (delay : Nat) =>
      if s.beatCounts k then t.toList.map (fun x => x - (delay : Int)) else ([] : List Int)
    let m := beatMedian (near l.prev p (s.lf l XCH_LINK_DELAY_PREV) ++ near l.next q (s.lf l XCH_LINK_DELAY_NEXT))
    let s := s.lfSet l TCK_OFFSET_MEDIAN_OFS (ofInt 16 (clampInt 32767 (-m)))
    let far := decide (2000 < m.natAbs)
    let s := s.tickUpd l (fun t => { t with adj := t.adj + m, beatOut := if far then t.beatOut + 1 else 0 })
    .next (s.outOfStep l)

/-- LANE_OUT_OF_STEP: the threshold row of lane `l`; it acts when two consecutive beats were more than 2 µs off (R54). -/
def execLaneOutOfStep (l : LaneId) (s : State) : Host.Outcome State Fault Refusal :=
  if s.ticking l then .next (s.outOfStep l) else .next s

/-! ### Markers (R55, R56) -/

/-- A marker is rejected, or missing: counted, with its offset in event 0x1001. -/
def State.markerReject (s : State) (l : LaneId) (offset : Nat) : State :=
  let s := (s.lcount l TCK_CNT_MREJ 1).lfSet l TCK_INT_STAT_MARKER_REJ 1
  (s.lfSet l TCK_STATUS_MARKER_OK 0).laneEvt l 0x1001 [(1, l.idx), (4, offset)]

/-- TICK_MARKER: the hub's marker reaches lane `l`, `offset` ns after its nearest edge; a negative offset lies before the edge to
come (R55). Of two markers accepted in one cycle both change the next cycle, and SLEW bounds what they change it by together (DEDUCED
from the bound of R56, log entry 44). -/
def execTickMarker (l : LaneId) (offset : Int) (s : State) : Host.Outcome State Fault Refusal :=
  if !s.ticking l then .next s
  else
    let n := if offset < 0 then frameAdd (s.frame l) 1 else s.frame l
    let inWin := decide (offset.natAbs ≤ 10 * s.lf l TCK_SYNC_WIN)
    let ok := inWin || decide (s.lf l TCK_STATUS_HUB_LOSS = 1)
    let s := s.lfSet l TCK_OFFSET_MARKER_OFS (ofInt 16 (clampInt 32767 offset))
    let s := s.tickUpd l (fun t => { t with markPrev := t.mark, mark := ⟨n, ok, inWin⟩ })
    if ok then
      let slew := 10 * s.lf l TCK_SYNC_SLEW
      let s := s.tickUpd l (fun t => { t with nextAdj := clampInt slew (t.nextAdj + clampInt slew offset) })
      .next (s.lfSet l TCK_STATUS_MARKER_OK 1)
    else .next (s.markerReject l (ofInt 32 offset))

/-! ### Hub loss (R57) -/

/-- What lane `k` knows of the marker of edge `n`; a missing marker is rejected. -/
def State.markOf (s : State) (k : LaneId) (n : Nat) : MarkerResult :=
  let t := (s.lane k).tick
  if t.mark.frame = n then t.mark else if t.markPrev.frame = n then t.markPrev else ⟨n, false, false⟩

/-- Lanes that rejected the marker of edge `n`. -/
def State.rejecting (s : State) (n : Nat) : Nat := laneSet (fun k => s.ticking k && !(s.markOf k n).accepted)

/-- Markers rejected at two lanes for LOSS_LIM consecutive edges: HUB_LOSS is set (event 0x1002). -/
def State.hubLossEnter (s : State) (l : LaneId) : State :=
  let t := (s.lane l).tick
  if s.lf l TCK_SYNC_LOSS_LIM ≤ t.rejRun ∧ t.rejRun ≠ 0 ∧ s.lf l TCK_STATUS_HUB_LOSS = 0 then
    let s := (s.lfSet l TCK_STATUS_HUB_LOSS 1).lfSet l TCK_INT_STAT_HUB_LOSS 1
    let s := s.tickUpd l (fun t => { t with inRun := 0 })
    s.laneEvt l 0x1002 [(1, s.rejecting (frameAdd (s.frame l) (frameMod - 1)))]
  else s

/-- The markers in the window at every lane in the vote for 8 consecutive edges: HUB_LOSS is cleared (event 0x1003). -/
def State.hubLossLeave (s : State) (l : LaneId) : State :=
  if 8 ≤ (s.lane l).tick.inRun ∧ s.lf l TCK_STATUS_HUB_LOSS = 1 then
    ((s.lfSet l TCK_STATUS_HUB_LOSS 0).tickUpd l (fun t => { t with inRun := 0, rejRun := 0 })).laneEvt l 0x1003 []
  else s

/-- At an edge lane `l` counts the markers of the edge before, of frame `n`: a missing one is rejected, and the runs of R57 go on.
R81 names an offset for event 0x1001, and a missing marker has none: a free value. DESIGN CHOICE: with no lane in the vote every
lane that runs its tick counts for the end of hub loss (log entry 45). -/
def State.markerTally (s : State) (l : LaneId) (n : Nat) : State :=
  let t := (s.lane l).tick
  if !t.begun then s.tickUpd l (fun t => { t with begun := true })
  else
    let s := if t.mark.frame = n ∨ t.markPrev.frame = n then s
      else
        let v := s.freeWord.1.toNat % 2 ^ 32
        s.drawn.markerReject l v
    let rej := decide (2 ≤ laneSetCount (s.rejecting n))
    let counts := fun (k : LaneId) => s.ticking k && (decide (s.members = 0) || s.inVote k)
    let all := lanes.all (fun k => !counts k || (s.markOf k n).inWindow)
    s.tickUpd l (fun t => { t with rejRun := if rej then t.rejRun + 1 else 0, inRun := if all then t.inRun + 1 else 0 })

/-- HUB_LOSS_ENTER: the threshold row of lane `l`; it acts when LOSS_LIM edges have been counted. -/
def execHubLossEnter (l : LaneId) (s : State) : Host.Outcome State Fault Refusal :=
  if s.ticking l then .next (s.hubLossEnter l) else .next s

/-- HUB_LOSS_LEAVE: the threshold row of lane `l`; it acts when 8 edges have been counted. -/
def execHubLossLeave (l : LaneId) (s : State) : Host.Outcome State Fault Refusal :=
  if s.ticking l then .next (s.hubLossLeave l) else .next s

/-! ### Phases of a cycle beyond L (02 R60, R61; 05 R148) -/

/-- Tasks of lane `l` run in its cycle. -/
def State.tasksRun (s : State) (l : LaneId) : Bool := runMode (s.laneMode l) && !(s.lane l).tick.stopped

/-- The highest priority of a source but source 1 that context `c` enables. -/
def State.otherPrio (s : State) (l : LaneId) (c : Nat) : Nat :=
  (List.range 256).foldl (fun m i => if i ≠ 1 && s.srcEn l c i then max m (s.lf l (PLIC_PRIO i)) else m) 0

/-- The thresholds of each application core with safety work: at most source 1, or every source, may interrupt (05 R148; layout of
contexts PRESUMED). The thresholds of the other cores are what the runtime has written. -/
def State.maskCores (s : State) (l : LaneId) (masked : Bool) : State :=
  (List.range 4).foldl (fun s k =>
    if coreSafe (s.lane l).prog l k = [] then s
    else
      let s := s.lfSet l (PLIC_THR (2 * k)) (if masked then s.otherPrio l (2 * k) else 0)
      s.lfSet l (PLIC_THR (2 * k + 1)) (if masked then 0xFFFFFFFF else 0)) s

/-- A task whose input section is written at the end of A: a safety task, or a non-safety task of a core without safety work, which
starts then; the others start in V (07 R207). -/
def State.startsEarly (s : State) (l : LaneId) (d : TaskDecl) : Bool := d.safe || decide (coreSafe (s.lane l).prog l d.core = [])

/-- Take the results of non-safety tasks that have ended, in order; `early` ones are of cores without safety work (07 R204, R207). -/
def State.takeFree (s : State) (l : LaneId) (early : Bool) (rs : List PassResult) : State :=
  (s.inOrder l (rs.filter (fun r => match s.decl l r.task with
    | some d => !d.safe && (!early || s.startsEarly l d)
    | none => false))).foldl (fun s r => s.takePass l r) s

/-- END_OF_A: the agreement is complete; the runtime updates the stations, acts on agreed data and starts the plain passes (R129,
07 R207). -/
def execEndOfA (l : LaneId) (s : State) : Host.Outcome State Fault Refusal :=
  if !s.ticking l || s.lf l TCK_STATUS_PHASE ≠ 1 then .next s
  else
    let s := (s.agree l).relayAct l
    let s := if runMode (s.laneMode l) then ((s.stationsUpdate l).outputLatch l).brakeCount l else s
    let s := if runMode (s.laneMode l) then (s.pairStep l).lineUpdate else s
    let s := s.reproof l
    let s := if s.tasksRun l then
        let s := ((s.dueTasks l).filter (s.startsEarly l)).foldl (fun s d => s.writeInput l d) s
        (s.setPass l 1 0 (some CDA_PSIG)).maskCores l true
      else s
    let s := s.lfSet l TCK_INT_STAT_END_A 1
    .next (s.lfSet l TCK_STATUS_PHASE (if s.tasksRun l then 2 else 6))

/-- The module goes to DEPOT at the next edge: the lanes send all-off images in the edge between (03 R84). -/
def State.depotNext (s : State) (l : LaneId) : Bool :=
  s.md.due.any (fun d => d.target == .depot && decide (frameAdd (s.frame l) 1 = d.frame))

/-- Phase V of lane `l`, entered `since` ns after its edge: images to both voters, station outputs, heartbeat (R60, 06 R173, 09
R259, 19 R500). `ns` are the executions of non-safety tasks that have ended by then on cores without safety work. -/
def State.phaseV (s : State) (l : LaneId) (ns : List PassResult) (since : Nat) : State :=
  let s := if s.tasksRun l then (s.takeFree l true ns).completeClasses l false else s
  let s := (s.withholdCases l).gateLeave l
  let s := (s.sendImages l (s.depotNext l || s.pairOff l)).gateSend l
  let s := if runMode (s.laneMode l) then (s.setPass l 0 0 none).maskCores l false else s
  let s := if s.tasksRun l then
      ((s.dueTasks l).filter (fun d => !s.startsEarly l d)).foldl (fun s d => s.writeInput l d) s
    else s
  let s := if runMode (s.laneMode l) then s.lfSet l TCK_HWM (max (s.lf l TCK_HWM) (since + 15000)) else s
  let s := s.stationOutputs l (s.laneMode l == .split) (s.pairSilent l)
  let s := if runMode (s.laneMode l) then s.beatSend l else s
  -- PHASE stays 6 while the tasks are stopped
  ((s.sendProof l).tickUpd l (fun t => { t with inV := true })).lfSet l TCK_STATUS_PHASE (if s.tasksRun l then 4 else 6)

/-- The lane has not entered V in this cycle, and phase A is over. -/
def State.beforeV (s : State) (l : LaneId) : Bool :=
  let p := s.lf l TCK_STATUS_PHASE
  (p == 2 || p == 3 || p == 6) && !(s.lane l).tick.inV

/-- ENTER_PHASE_V: every core has finished its encoded passes and local compare, `since` ns after the edge (R60). With tasks in a
voted mode phase E comes first. -/
def execEnterPhaseV (l : LaneId) (es : List EncResult) (ns : List PassResult) (since : Nat) (s : State) :
    Host.Outcome State Fault Refusal :=
  if !s.ticking l || !s.beforeV l || (s.tasksRun l && safeMode (s.laneMode l) && decide (s.lf l TCK_STATUS_PHASE ≠ 3)) then .next s
  else
    let s := if s.tasksRun l then (s.compareAll l es).completeClasses l true else s
    .next (s.phaseV l ns since)

/-- SAFETY_DEADLINE: at D_S a safety class that is not done overruns, and the lane enters V if it has not (R60, R67 to R70). The
compares and non-safety executions that have ended by then are in `es` and `ns`. -/
def execSafetyDeadline (l : LaneId) (es : List EncResult) (ns : List PassResult) (s : State) : Host.Outcome State Fault Refusal :=
  if !s.ticking l then .next s
  else
    let s := s.lfSet l TCK_INT_STAT_DL_SAFE 1
    let open_ := s.beforeV l
    let s := if open_ && s.tasksRun l then (s.compareAll l es).completeClasses l true else s
    let s := if s.tasksRun l then s.deadline l true else s
    .next (if open_ then s.phaseV l ns (s.lf l TCK_DL_SAFE) else s)

/-- NONSAFETY_DEADLINE: at D_N the non-safety classes that are not done overrun; then the checksum slice, the retained snapshot and
the carry-over of a switch (R61, R67, 06 R186, 07 R217, 08 R237). `rs` are the executions that have ended, `pages` the pages of the
state map written in the cycle, `wend` the end of writes in ns from the edge. -/
def execNonsafetyDeadline (l : LaneId) (rs : List PassResult) (pages : List Nat) (wend : Nat) (s : State) :
    Host.Outcome State Fault Refusal :=
  if !s.ticking l then .next s
  else
    let s := s.lfSet l TCK_INT_STAT_DL_NS 1
    let s := if s.tasksRun l then
        ((s.takeFree l false rs).completeClasses l false).deadline l false
      else s
    let s := (s.trackWrites l pages).sumSend l wend
    let s := (s.retainedSnapshot l).carryOver l
    .next (if s.lf l TCK_STATUS_PHASE = 4 then s.lfSet l TCK_STATUS_PHASE 5 else s)

end Sys2Proof.Machine
end

