-- ==== Sys2Proof/Machine/Edges.lean ====
section
/-! DEFINITION. The edges: of a lane (02 R12, R52), of the supervisor (02 R58) and of the hub (09 R255). -/

namespace Sys2Proof.Machine

/-! ### A lane's edge -/

/-- Register values that were written for the next edge take effect (04 R116, R122, 15 R420). -/
def State.applyDueRegs (s : State) (l : LaneId) : State :=
  let due := (s.lane l).tick.dueRegs
  let s := due.foldl (fun s p => s.lregSet l p.1 (BitVec.ofNat 64 p.2)) s
  let s := if due = [] then s else s.dropUnused l
  s.tickUpd l (fun t => { t with dueRegs := [] })

/-- A task's record at the beginning of a cycle. -/
def newCycleTask (t : TaskRt) : TaskRt := { t with failed := false, ran := false, ended := false, pendState := none, pendEnc := none }

/-- Hardware and runtime state of the cycle that has ended returns to its beginning (02 R78, 04 R138, 06 R171, R196). -/
def State.newCycle (s : State) (l : LaneId) : State :=
  let s := s.updLane l (fun x => { x with
    tick := { x.tick with inV := false }
    xch := { x.xch with sealed := false, held := [], receipts := [], failed := 0, noReceipt := 0 }
    rt := { x.rt with
      withhold := false, whCause := 0, pendOut := [], pendRet := [], failTask := 0, failBits := 0
      tasks := x.rt.tasks.map (fun p => (p.1, newCycleTask p.2)) } })
  let s := (s.lfSet l TCK_CLS_DONE 0).lfSet l TCK_STATUS_OVR_NOW 0
  let s := (s.lfSet l TCK_STATUS_PHASE 0).lfSet l TCK_INT_STAT_EDGE 1
  let s := (s.lfSet l XCH_STATUS_DONE 0).lfSet l XCH_STATUS_WITHHOLD 0
  let s := (s.lfSet l XCH_STATUS_NO_AGREE 0).lfSet l XCH_STATUS_USED 0
  (s.lfSet l XCH_STATUS_HELD 0).lfSet l VOT_V2STAT_VALID 0

/-- D and s of cycle `n` in the coded-arithmetic units (05 R154). -/
def State.newCode (s : State) (l : LaneId) (n : Nat) : State :=
  (List.range 4).foldl (fun s k =>
    let c := s.core l k
    s.coreSet l k (cfSet l (cfSet l c CDA_D (codeD (cf l c CDA_SEED) n)) CDA_S (codeS l.idx n))) s

/-- The first edge after a commit: the lane loads the committed configuration and admits the program set of that set again (16 R431;
02 R51, event 0x1030). -/
def State.loadCommit (s : State) (l : LaneId) : State :=
  if !(s.lane l).cfgDue then s
  else
    let old := s.lf l TCK_CFG_PERIOD
    let s := ((s.updLane l (fun x => { x with cfgDue := false })).loadConfig l).judgeActive l
    let s := (s.lfSet l TCK_CLS_CFG_TOL s.tolerances).showPlan l
    if old = s.lf l TCK_CFG_PERIOD then s else s.laneEvt l 0x1030 [(1, old), (1, s.lf l TCK_CFG_PERIOD)]

/-- The mode and the closing phase at the edge of frame `n` (03 R84, R87, R96, R100). -/
def State.modeEdge (s : State) (n : Nat) : State := ((s.closingEdge n).resetEdge n).applyDue n

/-- What a lane does in L of the cycle that has begun: due classes, own image, compares (07 R207, 04 R119, 06 R183, R186). -/
def State.beginL (s : State) (l : LaneId) (cycle : Nat) : State :=
  let s := s.lfSet l TCK_CLS_EXP (if s.tasksRun l then s.dueClasses l else 0)
  let s := (((s.showField l).writeDiag l).frontLatch l cycle).frontEdge l
  let s := s.stuckCheck l 0
  s.roleEdge l

/-- TICK_EDGE: lane `l` opens the next cycle and sends its edge symbol to the supervisor; `current` is the brake-loop current in mA
that its front end has measured (R12, R52, R58, R78; 15 R414). -/
def execTickEdge (l : LaneId) (current : Nat) (s : State) : Host.Outcome State Fault Refusal :=
  if !s.ticking l then .next s
  else
    let n := frameAdd (s.frame l) 1
    let cycle := (s.lane l).tick.cycleLen
    let s := s.markerTally l (s.frame l)
    let s := ((s.lfSet l TCK_FRAME n).lfSet l BRK_I (min 0xFFFF current)).emit .edgeSymbol l.idx 0 []
    let s := (s.hubLossEnter l).hubLossLeave l
    let s := ((s.applyDueRegs l).newCycle l).newCode l n
    let s := s.modeEdge n
    if !s.ticking l then .next s
    else
      let s := (s.loadMode l).loadCommit l
      let s := s.tickUpd l (fun t => { t with
        cycleLen := ((s.lanePeriod l : Int) + t.nextAdj).toNat, nextAdj := 0
        stopped := t.stopped || s.md.closing.isSome })
      let s := (s.switchAtEdge l).clockMove l
      .next (s.beginL l cycle)

/-! ### The reset input's pulse -/

/-- RESET_INPUT_FALL: the falling edge `width` µs after the rising one ends a pulse: valid from 50 ms to 2 s, else rejected
with event 0x5020 (15 R418). DESIGN CHOICE: while no lane runs its tick and no mode change waits for an edge, there is no first edge to
wait for, and a valid pulse is acted on at once (log entry 46). -/
def execResetInputFall (width : Nat) (s : State) : Host.Outcome State Fault Refusal :=
  if !s.sup.supplied || !s.sup.rst.level then .next s
  else
    let r := s.sup.rst
    let ok := r.counting && decide (50000 ≤ width) && decide (width ≤ 2000000)
    let s := { s with sup := { s.sup with rst := { r with level := false, counting := false, valid := r.valid || ok } } }
    let s := onLanes (fun l s => if s.ticking l then s.lfSet l DIN_STATUS_RESET 0 else s) s
    let s := if r.counting && decide (width < 50000) then s.supEvt 0x5020 [(4, width)] else s
    .next (if s.anyTick || decide (s.md.due ≠ []) then s else s.resetEdge s.modFrame)

/-! ### The supervisor's edge -/

/-- A spacing outside T ± 1 %. -/
def spacingBad (t d : Nat) : Bool := decide (100 * d < 99 * t) || decide (101 * t < 100 * d)

/-- The edge symbol of lane `l` at one edge (02 R58): `at_` is its arrival on the supervisor's oscillator in ns. A spacing outside
T ± 1 %, or a symbol missing at two consecutive edges, counts as an expired watchdog (event 0x1005); a missing symbol has no measured
spacing: a free value. -/
def State.edgeSymbol (s : State) (l : LaneId) (at_ : Option Nat) : State :=
  let bad := fun (s : State) (us : Nat) =>
    { s with sup := { s.sup with spacing := nOr s.sup.spacing (2 ^ l.idx) } }.supEvt 0x1005 [(1, l.idx), (4, us)]
  if !s.ticking l then
    { s with sup := { s.sup with arrival := mapErase s.sup.arrival l.idx, missEdge := mapSet 0 s.sup.missEdge l.idx 0 } }
  else match at_ with
    | some t =>
      let old := mapFind s.sup.arrival l.idx
      let s := { s with sup := { s.sup with
        arrival := mapInsert (mapErase s.sup.arrival l.idx) l.idx t, missEdge := mapSet 0 s.sup.missEdge l.idx 0 } }
      match old with
      | some u => if spacingBad s.sup.cycle (t - u) then bad s ((t - u) / 1000) else s
      | none => s
    | none =>
      let k := mapGet 0 s.sup.missEdge l.idx + 1
      let s := { s with sup := { s.sup with
        arrival := mapErase s.sup.arrival l.idx, missEdge := mapSet 0 s.sup.missEdge l.idx k } }
      if k = 2 then bad s.drawn (s.freeWord.1.toNat % 2 ^ 32) else s

/-- In SPLIT a lane to which the spacing rule applies is disregarded (02 R58, 06 R195). -/
def State.spacingSplit (s : State) : State :=
  let bad := s.sup.spacing
  if s.sup.v2.split && runMode s.md.mode && !s.sup.v2.fresh then
    onLanes (fun l s => if inSet bad l then s.disregard .v2 l 1 else s) s
  else s

/-- The supervisor's own edge from the arrivals of the edge symbols: the median of three, the later of two, the one (R58). -/
def ownEdge : List Nat → Option Nat
  | [x] => some x
  | [x, y] => some (max x y)
  | [x, y, z] => some (median3 x y z).toNat
  | _ => none

/-- The arrivals that make the supervisor's edge: of the lanes in the vote, or of every lane while none of those has one. -/
def State.edgeFrom (s : State) (a b c : Option Nat) : Option Nat :=
  let at_ := fun (l : LaneId) => match l with | .a => a | .b => b | .c => c
  let vote := (lanes.filter s.inVote).filterMap at_
  ownEdge (if vote = [] then lanes.filterMap at_ else vote)

/-- Time goes on by one cycle: the real-time clock, the proof test's and the module's operating hours (03, 15 R417, 18 R491). After a
start with the wake input low, the shutdown delay runs from the first edge (03 R104). -/
def State.advHours (s : State) : State :=
  let t := s.sup.cycle
  let off := if s.md.lowStart && s.md.wakeOff.isNone then some s.sup.ka.rtc else s.md.wakeOff
  { s with
    md := { s.md with wakeOff := off }
    sup := { s.sup with ka := { s.sup.ka with rtc := s.sup.ka.rtc + t }, cycle := s.period }
    fld := { s.fld with proofNs := s.fld.proofNs + t }
    coo := { s.coo with opNs := s.coo.opNs + t } }

/-- SUPERVISOR_EDGE: the supervisor takes its edge from the lanes' edge symbols and does what belongs to it: voter 2, the gate of a
switch, the re-plan, the mastership line (R58, 06 R175, 08 R235, 18 R487, 19 R498). `line` is the partner's line level, `m` a
measurement of the supplies. DESIGN CHOICE: while no lane runs its tick, the supervisor counts the edges at which mode changes that are
due take effect by itself (03 R84: SPLIT to HALT after the last lane; log entry 47). -/
def execSupervisorEdge (a b c : Option Nat) (line : Bool) (m : Option Supply) (s : State) :
    Host.Outcome State Fault Refusal :=
  if !s.sup.supplied || (a.isNone && b.isNone && c.isNone && (s.anyTick || decide (s.md.due = []))) then .next s
  else
    let n := frameAdd s.sup.frame 1
    let s := if s.anyTick then s else s.modeEdge n
    let s := ((s.edgeSymbol .a a).edgeSymbol .b b).edgeSymbol .c c
    let s := { s with sup := { s.sup with frame := n, edgeAt := s.edgeFrom a b c } }
    let s := (s.spacingSplit.voter2Edge n).driveSwitches .v2 n
    let s := ((s.switchGate n).activateBank n).replanEdge n
    let s := s.lineEdge line
    let s := match m with
      | some m => s.measureSupplies m
      | none => s
    .next s.advHours

/-! ### The hub's edge -/

/-- The record of a time-base or relay generator for the snapshot of edge `n` (13 R374, 16 R446). -/
def State.generated (s : State) (n src : Nat) : Option (List Byte) :=
  if src = 0x0010 then (if s.hub.mgmtUp then some (relayRecord s.svc.relay) else none)
  else if src = 0x0100 then some (s.tickRecord n s.tb.edgeRaw)
  else if 0x0200 ≤ src ∧ src ≤ 0x03FF then s.arrivalRecord (src - 0x0200)
  else none

/-- The generators' items of the snapshot of edge `n` on the channels that take them. -/
def State.generate (s : State) (n : Nat) : State :=
  let s := pdeChannels.foldl (fun s c =>
    if s.hf (PDE_CFG_MODE c) = 1 && s.hf (PDE_SRC_KIND c) = 7 then
      match s.generated n (s.hf (PDE_SRC_SRC_ID c)) with
      | some b => s.cyclicArrive c b
      | none => s
    else s) s
  { s with tb := { s.tb with arrive := [] } }

/-- Entries of the relay before and after the snapshot that carries them. -/
def State.relaySnapshot (s : State) (n : Nat) : State :=
  let s := if s.hub.mgmtUp then s.relayExpire else s
  let s := s.generate n
  if s.pde.relayArmed && s.hub.mgmtUp then { s with svc := { s.svc with relay := relaySent 8 s.svc.relay } } else s

/-- Arming at the edge that enters a mode (09 R278), and channel 191 from START to C3 (16 R446). -/
def State.armEdge (s : State) : State :=
  let on := runMode s.md.mode
  let s := if on = s.pde.armed then s else s.armAll on
  let s := if on then s else { s with net := { s.net with hrvOut := [] } }
  let c3 := match s.md.closing with | some c => decide (3 ≤ c.step) | none => false
  if !s.pde.relayArmed && !c3 && s.md.mode != .stowed then s.relayArm true else s

/-- The hub sends its tick marker to every lane (02 R55). -/
def State.sendMarkers (s : State) : State :=
  onLanes (fun l s => if (s.lane l).supplied then s.emit .tickMarker l.idx 0 [] else s) s

/-- HUB_EDGE: at its tick marker, `dt` raw counts after the last command that told the time, the hub sends the marker, takes the
snapshot of edge n, applies voter 1, arms channels and processes the cellar book. `late` lists the copies (channel, lanes) that are not complete by the end
of L (R255 to R257). -/
def execHubEdge (dt : Nat) (late : List (Nat × Nat)) (s : State) : Host.Outcome State Fault Refusal :=
  if !s.hub.supplied then .next s
  else
    let n := frameAdd s.hub.frame 1
    let s := (s.advRaw dt).sendMarkers
    let s := { s with tb := { s.tb with edgeRaw := s.hf TB_RAW } }
    let s := (s.voter1Edge n).driveSwitches .v1 n
    let s := (s.relaySnapshot n).snapshotTags n late
    let s := { s with hub := { s.hub with frame := n, markers := true }, pde := { s.pde with vdone := 0, fetched := false } }
    let s := (s.armEdge).activateAll n
    .next (((s.trellisEdge n).canHoldNow).bookRelease)

end Sys2Proof.Machine
end

