-- ==== Sys2Proof/Machine/Dispatch.lean ====
section
/-! DEFINITION. The effect of every command on everything but the queue: one arm per command, in the table's order, grouped by the file
of its meaning. -/

namespace Sys2Proof.Machine

/-- The effect of a command. -/
def exec (i : Instr) (s : State) : Host.Outcome State Fault Refusal :=
  match i with
  -- Edges
  | .tickEdge l current => Sys2Proof.Machine.execTickEdge l current s
  -- Tick
  | .syncBeat l p q => Sys2Proof.Machine.execSyncBeat l p q s
  | .laneOutOfStep l => Sys2Proof.Machine.execLaneOutOfStep l s
  | .tickMarker l offset => Sys2Proof.Machine.execTickMarker l offset s
  | .hubLossEnter l => Sys2Proof.Machine.execHubLossEnter l s
  | .hubLossLeave l => Sys2Proof.Machine.execHubLossLeave l s
  -- Edges
  | .supervisorEdge a b c line m => Sys2Proof.Machine.execSupervisorEdge a b c line m s
  | .hubEdge dt late => Sys2Proof.Machine.execHubEdge dt late s
  -- Exchange
  | .endOfL l => Sys2Proof.Machine.execEndOfL l s
  | .imagePacketReceive l p => Sys2Proof.Machine.execImagePacketReceive l p s
  | .imageCutoff l => Sys2Proof.Machine.execImageCutoff l s
  | .receiptReceive l p => Sys2Proof.Machine.execReceiptReceive l p s
  | .receiptCutoff l => Sys2Proof.Machine.execReceiptCutoff l s
  -- Tick
  | .endOfA l => Sys2Proof.Machine.execEndOfA l s
  -- Exchange
  | .inputDisagreementFlag l n => Sys2Proof.Machine.execInputDisagreementFlag l n s
  | .inputDisagreementClear l n => Sys2Proof.Machine.execInputDisagreementClear l n s
  -- Cycle
  | .enterPhaseE l rs => Sys2Proof.Machine.execEnterPhaseE l rs s
  -- Tick
  | .enterPhaseV l es ns since => Sys2Proof.Machine.execEnterPhaseV l es ns since s
  | .safetyDeadline l es ns => Sys2Proof.Machine.execSafetyDeadline l es ns s
  -- Cycle
  | .overrunBeyondTolerance l c => Sys2Proof.Machine.execOverrunBeyondTolerance l c s
  -- Tick
  | .nonsafetyDeadline l rs pages wend => Sys2Proof.Machine.execNonsafetyDeadline l rs pages wend s
  -- Cycle
  | .taskTrap l c task cause pc tval => Sys2Proof.Machine.execTaskTrap l c task cause pc tval s
  -- Bridge
  | .laneMemoryRead l core pc addr size rd signed op who ecc => Sys2Proof.Machine.execLaneMemoryRead l core pc addr size rd signed op who ecc s
  -- Coded
  | .cdEnc l c pc rd rs1 rs3 => Sys2Proof.Machine.execCdEnc l c pc rd rs1 rs3 s
  | .cdDec l c pc rd rs1 rs3 => Sys2Proof.Machine.execCdDec l c pc rd rs1 rs3 s
  | .cdChk l c pc rs1 rs3 => Sys2Proof.Machine.execCdChk l c pc rs1 rs3 s
  | .cdResig l c pc rd rs1 rs3 => Sys2Proof.Machine.execCdResig l c pc rd rs1 rs3 s
  | .cdAdd l c pc rd rs1 rs2 rs3 => Sys2Proof.Machine.execCdAdd l c pc rd rs1 rs2 rs3 s
  | .cdSub l c pc rd rs1 rs2 rs3 => Sys2Proof.Machine.execCdSub l c pc rd rs1 rs2 rs3 s
  | .cdMul l c pc rd rs1 rs2 rs3 => Sys2Proof.Machine.execCdMul l c pc rd rs1 rs2 rs3 s
  | .cdMulq l c pc rd rs1 rs2 rs3 => Sys2Proof.Machine.execCdMulq l c pc rd rs1 rs2 rs3 s
  | .cdDiv l c pc rd rs1 rs2 rs3 => Sys2Proof.Machine.execCdDiv l c pc rd rs1 rs2 rs3 s
  | .cdRem l c pc rd rs1 rs2 rs3 => Sys2Proof.Machine.execCdRem l c pc rd rs1 rs2 rs3 s
  | .cdSra l c pc rd rs1 rs3 => Sys2Proof.Machine.execCdSra l c pc rd rs1 rs3 s
  | .cdWrap l c pc rd rs1 rs3 => Sys2Proof.Machine.execCdWrap l c pc rd rs1 rs3 s
  | .cdSlt l c pc rd rs1 rs2 rs3 => Sys2Proof.Machine.execCdSlt l c pc rd rs1 rs2 rs3 s
  | .cdSeq l c pc rd rs1 rs2 rs3 => Sys2Proof.Machine.execCdSeq l c pc rd rs1 rs2 rs3 s
  | .cdBand l c pc rd rs1 rs2 rs3 => Sys2Proof.Machine.execCdBand l c pc rd rs1 rs2 rs3 s
  | .cdBor l c pc rd rs1 rs2 rs3 => Sys2Proof.Machine.execCdBor l c pc rd rs1 rs2 rs3 s
  | .cdBnot l c pc rd rs1 rs3 => Sys2Proof.Machine.execCdBnot l c pc rd rs1 rs3 s
  | .cdCond l c pc rd rs1 rs3 => Sys2Proof.Machine.execCdCond l c pc rd rs1 rs3 s
  | .cdPfold l c pc rs1 => Sys2Proof.Machine.execCdPfold l c pc rs1 s
  | .cdRebase l c pc rd rs1 rs2 rs3 => Sys2Proof.Machine.execCdRebase l c pc rd rs1 rs2 rs3 s
  | .cdFenc l c pc f fd fs1 => Sys2Proof.Machine.execCdFenc l c pc f fd fs1 s
  | .cdFdec l c pc f fd fs1 => Sys2Proof.Machine.execCdFdec l c pc f fd fs1 s
  | .cdFmul l c pc f fd fs1 fs2 => Sys2Proof.Machine.execCdFmul l c pc f fd fs1 fs2 s
  | .cdFdiv l c pc f fd fs1 fs2 => Sys2Proof.Machine.execCdFdiv l c pc f fd fs1 fs2 s
  | .cdFsqrt l c pc f fd fs1 => Sys2Proof.Machine.execCdFsqrt l c pc f fd fs1 s
  | .cdFmadd l c pc f fd fs1 fs2 fs3 => Sys2Proof.Machine.execCdFmadd l c pc f fd fs1 fs2 fs3 s
  | .cdFsgnjx l c pc f fd fs1 fs2 => Sys2Proof.Machine.execCdFsgnjx l c pc f fd fs1 fs2 s
  | .cdFlt l c pc f rd fs1 fs2 rs3 => Sys2Proof.Machine.execCdFlt l c pc f rd fs1 fs2 rs3 s
  | .cdFle l c pc f rd fs1 fs2 rs3 => Sys2Proof.Machine.execCdFle l c pc f rd fs1 fs2 rs3 s
  | .cdFeq l c pc f rd fs1 fs2 rs3 => Sys2Proof.Machine.execCdFeq l c pc f rd fs1 fs2 rs3 s
  | .cdFcvtX l c pc f rd fs1 rs3 => Sys2Proof.Machine.execCdFcvtX l c pc f rd fs1 rs3 s
  | .cdFcvtF l c pc f fd rs1 rs3 => Sys2Proof.Machine.execCdFcvtF l c pc f fd rs1 rs3 s
  | .cdFclass l c pc f rd fs1 rs3 => Sys2Proof.Machine.execCdFclass l c pc f rd fs1 rs3 s
  | .cdFrebase l c pc f fd fs1 rs2 => Sys2Proof.Machine.execCdFrebase l c pc f fd fs1 rs2 s
  | .encodedPassIllegal l c pc task => Sys2Proof.Machine.execEncodedPassIllegal l c pc task s
  | .cdaCsrWrite l c pc pr op csr rd v => Sys2Proof.Machine.execCdaCsrWrite l c pc pr op csr rd v s
  -- Cycle
  | .tckClsDoneWrite l w => Sys2Proof.Machine.execTckClsDoneWrite l w s
  -- Bridge
  | .tckFrameLowRead l core rd who => Sys2Proof.Machine.execTckFrameLowRead l core rd who s
  | .xchVcountWrite l core v => Sys2Proof.Machine.execXchVcountWrite l core v s
  -- Vote
  | .votImgSend l c w => Sys2Proof.Machine.execVotImgSend l c w s
  | .votV1ImgLatch l w => Sys2Proof.Machine.execVotV1ImgLatch l w s
  | .votCtlSend l c => Sys2Proof.Machine.execVotCtlSend l c s
  | .voterImageReceive n l b => Sys2Proof.Machine.execVoterImageReceive n l b s
  | .voterImageCutoff n => Sys2Proof.Machine.execVoterImageCutoff n s
  | .laneWatchdogExpire l => Sys2Proof.Machine.execLaneWatchdogExpire l s
  | .withholdLimitRemove l => Sys2Proof.Machine.execWithholdLimitRemove l s
  | .voter1Disregard l => Sys2Proof.Machine.execVoter1Disregard l s
  | .statusRecordReceive l r crcOk => Sys2Proof.Machine.execStatusRecordReceive l r crcOk s
  | .voterDifferenceRecord l => Sys2Proof.Machine.execVoterDifferenceRecord l s
  | .voterDifferenceHalt l => Sys2Proof.Machine.execVoterDifferenceHalt l s
  -- Realign
  | .checksumPacketReceive l p => Sys2Proof.Machine.execChecksumPacketReceive l p s
  | .realignPageSend l => Sys2Proof.Machine.execRealignPageSend l s
  | .realignPageReceive l p => Sys2Proof.Machine.execRealignPageReceive l p s
  | .realignFinalPass t => Sys2Proof.Machine.execRealignFinalPass t s
  | .realignmentAbandon t => Sys2Proof.Machine.execRealignmentAbandon t s
  -- Cycle
  | .stationTimeout l st => Sys2Proof.Machine.execStationTimeout l st s
  | .durableReport l q id layout => Sys2Proof.Machine.execDurableReport l q id layout s
  -- Start
  | .modeRequestConfigure src => Sys2Proof.Machine.execModeRequestConfigure src s
  | .modeRequestDepot src => Sys2Proof.Machine.execModeRequestDepot src s
  | .modeRequestRun src => Sys2Proof.Machine.execModeRequestRun src s
  | .modeRequestShutDown src => Sys2Proof.Machine.execModeRequestShutDown src s
  | .lifecycleToInService src => Sys2Proof.Machine.execLifecycleToInService src s
  | .lifecycleToDepotOpen src => Sys2Proof.Machine.execLifecycleToDepotOpen src s
  | .lifecycleToRetired src => Sys2Proof.Machine.execLifecycleToRetired src s
  | .wakeInputQualified rtc ms => Sys2Proof.Machine.execWakeInputQualified rtc ms s
  | .rtcAlarm rtc => Sys2Proof.Machine.execRtcAlarm rtc s
  | .startStepTimeout who k => Sys2Proof.Machine.execStartStepTimeout who k s
  -- Closing
  | .wakeWithdrawnTimeout sec => Sys2Proof.Machine.execWakeWithdrawnTimeout sec s
  | .c3TimeLimit ms => Sys2Proof.Machine.execC3TimeLimit ms s
  -- Bridge
  | .bridgeRegisterStore l core pc addr size v amo who => Sys2Proof.Machine.execBridgeRegisterStore l core pc addr size v amo who s
  | .bridgeCombinedStore l core pc addr size v amo who => Sys2Proof.Machine.execBridgeCombinedStore l core pc addr size v amo who s
  | .wcBufferIssue l core => Sys2Proof.Machine.execWcBufferIssue l core s
  | .fence l core pc => Sys2Proof.Machine.execFence l core pc s
  | .bridgeLoad l core pc addr size rd signed spec amo who => Sys2Proof.Machine.execBridgeLoad l core pc addr size rd signed spec amo who s
  | .writeResponse l => Sys2Proof.Machine.execWriteResponse l s
  | .readResponse l tag ecc => Sys2Proof.Machine.execReadResponse l tag ecc s
  | .flushAck l tag => Sys2Proof.Machine.execFlushAck l tag s
  | .discardTimerExpire l write n done => Sys2Proof.Machine.execDiscardTimerExpire l write n done s
  | .linkReset l done replays => Sys2Proof.Machine.execLinkReset l done replays s
  | .brgResetWrite l core v done => Sys2Proof.Machine.execBrgResetWrite l core v done s
  | .linkRetrained l => Sys2Proof.Machine.execLinkRetrained l s
  -- Pde
  | .inboundWrite l off bs race => Sys2Proof.Machine.execInboundWrite l off bs race s
  | .inboundRead l off n => Sys2Proof.Machine.execInboundRead l off n s
  | .pdeItemArrive c raw => Sys2Proof.Machine.execPdeItemArrive c raw s
  | .pdeVdoneWrite l v => Sys2Proof.Machine.execPdeVdoneWrite l v s
  | .pdeFetchCutoff => Sys2Proof.Machine.execPdeFetchCutoff s
  -- Net
  | .sinkTransmitOpportunity c now ok => Sys2Proof.Machine.execSinkTransmitOpportunity c now ok s
  -- Pde
  | .pdeGo l core pc c => Sys2Proof.Machine.execPdeGo l core pc c s
  | .pdeDoorbell l core pc c => Sys2Proof.Machine.execPdeDoorbell l core pc c s
  | .pdeAbort l core pc c => Sys2Proof.Machine.execPdeAbort l core pc c s
  | .queuedInputItem c raw => Sys2Proof.Machine.execQueuedInputItem c raw s
  | .queuedOutputComplete c status => Sys2Proof.Machine.execQueuedOutputComplete c status s
  | .circularInputItem c raw => Sys2Proof.Machine.execCircularInputItem c raw s
  | .pdeRdWrite l core pc c v => Sys2Proof.Machine.execPdeRdWrite l core pc c v s
  | .pdeCqClaim l core pc q v => Sys2Proof.Machine.execPdeCqClaim l core pc q v s
  | .pdeCqRelease l core pc q => Sys2Proof.Machine.execPdeCqRelease l core pc q s
  | .pdeCqTailWrite l core pc q v => Sys2Proof.Machine.execPdeCqTailWrite l core pc q v s
  | .pdeArmWrite l core pc c => Sys2Proof.Machine.execPdeArmWrite l core pc c s
  | .pdeArmSample => Sys2Proof.Machine.execPdeArmSample s
  | .pdeArmUnmatched c => Sys2Proof.Machine.execPdeArmUnmatched c s
  -- Net
  | .frameReceive p f => Sys2Proof.Machine.execFrameReceive p f s
  | .frameEgress p now => Sys2Proof.Machine.execFrameEgress p now s
  | .quarantineHoldEnd p => Sys2Proof.Machine.execQuarantineHoldEnd p s
  | .portReleaseHeld src mask => Sys2Proof.Machine.execPortReleaseHeld src mask s
  | .portLinkUp p speed => Sys2Proof.Machine.execPortLinkUp p speed s
  | .portLinkDown p => Sys2Proof.Machine.execPortLinkDown p s
  | .trellisBankSwitch => Sys2Proof.Machine.execTrellisBankSwitch s
  | .windowClaim src v => Sys2Proof.Machine.execWindowClaim src v s
  | .windowRelease src v => Sys2Proof.Machine.execWindowRelease src v s
  | .harvestPassSend pass => Sys2Proof.Machine.execHarvestPassSend pass s
  | .harvestFrameReturn port b ok late => Sys2Proof.Machine.execHarvestFrameReturn port b ok late s
  | .harvestPassLost pass dir => Sys2Proof.Machine.execHarvestPassLost pass dir s
  | .harvestRingNormal => Sys2Proof.Machine.execHarvestRingNormal s
  | .harvestStationMissing k => Sys2Proof.Machine.execHarvestStationMissing k s
  -- Can
  | .canFrameReceive ch f => Sys2Proof.Machine.execCanFrameReceive ch f s
  | .canTransmitStart ch => Sys2Proof.Machine.execCanTransmitStart ch s
  | .canArbitrationLost ch => Sys2Proof.Machine.execCanArbitrationLost ch s
  | .canTransmitComplete ch => Sys2Proof.Machine.execCanTransmitComplete ch s
  | .canTransmitError ch e => Sys2Proof.Machine.execCanTransmitError ch e s
  | .canBusOff ch => Sys2Proof.Machine.execCanBusOff ch s
  | .canHoldoffEnd ch => Sys2Proof.Machine.execCanHoldoffEnd ch s
  | .canRecoveryComplete ch ms => Sys2Proof.Machine.execCanRecoveryComplete ch ms s
  | .canReleaseBlocked src ch => Sys2Proof.Machine.execCanReleaseBlocked src ch s
  | .canTxcancelWrite l ch v => Sys2Proof.Machine.execCanTxcancelWrite l ch v s
  | .canRestrictedEnd ch ms => Sys2Proof.Machine.execCanRestrictedEnd ch ms s
  | .canTriggerFire ch n free => Sys2Proof.Machine.execCanTriggerFire ch n free s
  -- Service
  | .canServiceSegment ch f => Sys2Proof.Machine.execCanServiceSegment ch f s
  | .canSegmentGapTimeout => Sys2Proof.Machine.execCanSegmentGapTimeout s
  -- TimeBase
  | .ptpSyncReceive p offset dt => Sys2Proof.Machine.execPtpSyncReceive p offset dt s
  | .syncReceiptTimeout dt => Sys2Proof.Machine.execSyncReceiptTimeout dt s
  | .holdoverTimeout dt => Sys2Proof.Machine.execHoldoverTimeout dt s
  | .rateUpdate r dt => Sys2Proof.Machine.execRateUpdate r dt s
  | .syncSend p dt => Sys2Proof.Machine.execSyncSend p dt s
  | .pdelayRequestSend p result dt => Sys2Proof.Machine.execPdelayRequestSend p result dt s
  | .setTime src t dt => Sys2Proof.Machine.execSetTime src t dt s
  | .tbSettimeWrite l core v dt => Sys2Proof.Machine.execTbSettimeWrite l core v dt s
  | .tbCapture l v dt => Sys2Proof.Machine.execTbCapture l v dt s
  | .tbLowWordRead l disc rd dt => Sys2Proof.Machine.execTbLowWordRead l disc rd dt s
  -- SafetyLayer
  | .connectionReset src k => Sys2Proof.Machine.execConnectionReset src k s
  | .slyCrcGo l core v => Sys2Proof.Machine.execSlyCrcGo l core v s
  | .slyCrcDone l => Sys2Proof.Machine.execSlyCrcDone l s
  -- Field
  | .inputThresholdCross l n mv => Sys2Proof.Machine.execInputThresholdCross l n mv s
  | .inputFilterChange l n held at_ => Sys2Proof.Machine.execInputFilterChange l n held at_ s
  | .darkPulseStart d o t => Sys2Proof.Machine.execDarkPulseStart d o t s
  | .darkPulseEnd d o => Sys2Proof.Machine.execDarkPulseEnd d o s
  | .readbackChange l hs ls oc t => Sys2Proof.Machine.execReadbackChange l hs ls oc t s
  | .darkSlotCheck l d o t => Sys2Proof.Machine.execDarkSlotCheck l d o t s
  | .switchOverloadTrip d o => Sys2Proof.Machine.execSwitchOverloadTrip d o s
  | .voterSilenceTimeout n us => Sys2Proof.Machine.execVoterSilenceTimeout n us s
  | .brakeCurrentOutOfRange l => Sys2Proof.Machine.execBrakeCurrentOutOfRange l s
  | .brakeProofTest src rs => Sys2Proof.Machine.execBrakeProofTest src rs s
  | .proofTestOverdue => Sys2Proof.Machine.execProofTestOverdue s
  | .resetInputRise low => Sys2Proof.Machine.execResetInputRise low s
  -- Edges
  | .resetInputFall width => Sys2Proof.Machine.execResetInputFall width s
  -- Field
  | .resetHeldTimeout => Sys2Proof.Machine.execResetHeldTimeout s
  -- Service
  | .serviceRead c b => Sys2Proof.Machine.execServiceRead c b s
  | .serviceWrite c b => Sys2Proof.Machine.execServiceWrite c b s
  | .serviceInfo c b => Sys2Proof.Machine.execServiceInfo c b s
  | .serviceCancel c b => Sys2Proof.Machine.execServiceCancel c b s
  | .serviceOutcome l b => Sys2Proof.Machine.execServiceOutcome l b s
  | .transferTimeout n j => Sys2Proof.Machine.execTransferTimeout n j s
  | .laneLocalRequest l => Sys2Proof.Machine.execLaneLocalRequest l s
  -- Relay
  | .relayEntryExpire => Sys2Proof.Machine.execRelayEntryExpire s
  -- Service
  | .configCommit src => Sys2Proof.Machine.execConfigCommit src s
  | .configDiscard src => Sys2Proof.Machine.execConfigDiscard src s
  | .configRestoreDefaults src => Sys2Proof.Machine.execConfigRestoreDefaults src s
  | .dictionaryImageLoad src b => Sys2Proof.Machine.execDictionaryImageLoad src b s
  | .trainDirectoryWrite src b => Sys2Proof.Machine.execTrainDirectoryWrite src b s
  -- Partners
  | .tokenRefill p => Sys2Proof.Machine.execTokenRefill p s
  | .partnerThrottle p => Sys2Proof.Machine.execPartnerThrottle p s
  | .throttleEnd p => Sys2Proof.Machine.execThrottleEnd p s
  | .partnerSlotFree p => Sys2Proof.Machine.execPartnerSlotFree p s
  -- Cellar
  | .cbkSubmit l core v => Sys2Proof.Machine.execCbkSubmit l core v s
  | .cbkTokenGain code => Sys2Proof.Machine.execCbkTokenGain code s
  | .decantToSd src => Sys2Proof.Machine.execDecantToSd src s
  | .decantToService src => Sys2Proof.Machine.execDecantToService src s
  | .unfreezeTail src => Sys2Proof.Machine.execUnfreezeTail src s
  | .reopenFirstFill src => Sys2Proof.Machine.execReopenFirstFill src s
  | .decantComplete card => Sys2Proof.Machine.execDecantComplete card s
  -- Rack
  | .stageProgramFromHost src => Sys2Proof.Machine.execStageProgramFromHost src s
  | .stageProgramFromSd src => Sys2Proof.Machine.execStageProgramFromSd src s
  | .stageFirmwareFromHost src => Sys2Proof.Machine.execStageFirmwareFromHost src s
  | .stageFirmwareFromSd src => Sys2Proof.Machine.execStageFirmwareFromSd src s
  | .stagingSegmentWrite src data => Sys2Proof.Machine.execStagingSegmentWrite src data s
  | .switchProgram src => Sys2Proof.Machine.execSwitchProgram src s
  | .gateMessageReceive l b => Sys2Proof.Machine.execGateMessageReceive l b s
  | .installInService src => Sys2Proof.Machine.execInstallInService src s
  | .installNextLane => Sys2Proof.Machine.execInstallNextLane s
  | .installAdmitTimeout => Sys2Proof.Machine.execInstallAdmitTimeout s
  | .hubRunningReport l => Sys2Proof.Machine.execHubRunningReport l s
  | .hubRestartTimeout => Sys2Proof.Machine.execHubRestartTimeout s
  | .installAtNextStart src => Sys2Proof.Machine.execInstallAtNextStart src s
  | .abortRacking src => Sys2Proof.Machine.execAbortRacking src s
  | .discardStaged src => Sys2Proof.Machine.execDiscardStaged src s
  -- Cooper
  | .cooperGo l core v => Sys2Proof.Machine.execCooperGo l core v s
  | .cooperStop l core v => Sys2Proof.Machine.execCooperStop l core v s
  -- Start
  | .cooperRunDone l r => Sys2Proof.Machine.execCooperRunDone l r s
  -- Cooper
  | .repairEntrySubmit src e => Sys2Proof.Machine.execRepairEntrySubmit src e s
  | .ageingRecordSubmit src b => Sys2Proof.Machine.execAgeingRecordSubmit src b s
  | .commandedTest src v => Sys2Proof.Machine.execCommandedTest src v s
  | .avsRaise l cpr => Sys2Proof.Machine.execAvsRaise l cpr s
  | .avsLower l cpr => Sys2Proof.Machine.execAvsLower l cpr s
  | .fmaxProjection l slack tj => Sys2Proof.Machine.execFmaxProjection l slack tj s
  | .fAllowLower l => Sys2Proof.Machine.execFAllowLower l s
  | .ageingReport l => Sys2Proof.Machine.execAgeingReport l s
  | .dailyAgeingRecord l m => Sys2Proof.Machine.execDailyAgeingRecord l m s
  -- Pair
  | .handoverRequest src => Sys2Proof.Machine.execHandoverRequest src s
  | .handoverTimeout l => Sys2Proof.Machine.execHandoverTimeout l s
  | .takeHoldoffExpire l => Sys2Proof.Machine.execTakeHoldoffExpire l s
  | .startWaitExpire l => Sys2Proof.Machine.execStartWaitExpire l s
  | .shadowMismatch l => Sys2Proof.Machine.execShadowMismatch l s
  | .shadowMismatchClear l => Sys2Proof.Machine.execShadowMismatchClear l s
  -- Start
  | .mainInputBelowRange v => Sys2Proof.Machine.execMainInputBelowRange v s
  | .mainInputLost => Sys2Proof.Machine.execMainInputLost s
  | .mainInputRestored v us heldMs rtc => Sys2Proof.Machine.execMainInputRestored v us heldMs rtc s
  -- Power
  | .mainInputOvervoltage peak us => Sys2Proof.Machine.execMainInputOvervoltage peak us s
  -- Start
  | .overvoltageDisconnect v us => Sys2Proof.Machine.execOvervoltageDisconnect v us s
  | .holdupExhausted => Sys2Proof.Machine.execHoldupExhausted s
  -- Power
  | .holdupRechargeDone => Sys2Proof.Machine.execHoldupRechargeDone s
  -- Start
  | .dumpComplete ms rtc => Sys2Proof.Machine.execDumpComplete ms rtc s
  -- Power
  | .outputSupplyOutOfRange brake v => Sys2Proof.Machine.execOutputSupplyOutOfRange brake v s
  | .outputSupplyRestored brake v => Sys2Proof.Machine.execOutputSupplyRestored brake v s
  | .keepaliveLow mv => Sys2Proof.Machine.execKeepaliveLow mv s
  | .boardOvertemperature t => Sys2Proof.Machine.execBoardOvertemperature t s
  | .supervisorSupplyLoss keepAlive => Sys2Proof.Machine.execSupervisorSupplyLoss keepAlive s
  | .hubSupplyLoss => Sys2Proof.Machine.execHubSupplyLoss s
  -- Bridge
  | .rcRead l core pc addr size rd signed more who => Sys2Proof.Machine.execRcRead l core pc addr size rd signed more who s
  | .w1cWrite l core pc addr v set who => Sys2Proof.Machine.execW1cWrite l core pc addr v set who s
  | .registerWrite l core pc addr size v who => Sys2Proof.Machine.execRegisterWrite l core pc addr size v who s
  -- Start
  | .startStepComplete who k ok ms meas => Sys2Proof.Machine.execStartStepComplete who k ok ms meas s
  -- Rack
  | .stagingComplete card => Sys2Proof.Machine.execStagingComplete card s
  -- Cellar
  | .sdCardRemoval => Sys2Proof.Machine.execSdCardRemoval s
  -- Field
  | .oscillatorMonitorFault n => Sys2Proof.Machine.execOscillatorMonitorFault n s

end Sys2Proof.Machine
end

