-- ==== Sys2Proof/Safety.lean ====
section
/-! DEFINITION. What counts as safe on this hardware, in the terms that the claims use. -/

namespace Sys2Proof.Machine

/-- Memory in its canonical form: rising addresses, and no entry that reads as an unlisted address does. -/
def Memory.wf (m : List Host.Cell) : Bool := mapWf (fun _ => memDefault) m

/-- Every memory of the block is in its canonical form. -/
def State.memWf (s : State) : Bool :=
  lanes.all (fun l => Memory.wf (s.lane l).mem) && Memory.wf s.hub.sram && Memory.wf s.hub.mram

/-- Output `o` is energised: both of its switches are closed (01 R37). -/
def State.energised (s : State) (o : Nat) : Bool := s.closed .hs o && s.closed .ls o

/-- A voter in its halt state asks for no output (06 R176). -/
def Voter.haltOff (v : Voter) : Prop := v.halt = true → v.out = 0

/-- Voter 2, which drives every low-side switch, is off while it is halted. -/
def State.haltOff (s : State) : Prop := s.sup.v2.haltOff

/-- Registers of a lane that the cellar book writes when an event is recorded: CBK_CNT and CBK_INT_STAT (17 R457, R458). -/
def eventReg (a : Nat) : Bool := a == CBK_CNT.reg || a == CBK_INT_STAT.reg

/-- `t` is `s` but for what recording events writes: the cellar book, the lanes' submission queues and book registers, the events that
the supervisor keeps, and the partners' tokens (17 R455 to R462, 16 R451). -/
structure EventOnly (s t : State) : Prop where
  pending : t.pending = s.pending
  lane : ∀ k, t.lane k = { s.lane k with regs := (t.lane k).regs, book := (t.lane k).book }
  reg : ∀ k a, eventReg a = false → t.lreg k a = s.lreg k a
  hub : t.hub = s.hub
  pde : t.pde = s.pde
  v1 : t.v1 = s.v1
  sup : t.sup = { s.sup with kept := t.sup.kept }
  md : t.md = s.md
  rack : t.rack = s.rack
  store : t.store = s.store
  dict : t.dict = s.dict
  svc : t.svc = s.svc
  net : t.net = s.net
  can : t.can = s.can
  tb : t.tb = s.tb
  fld : t.fld = s.fld
  coo : t.coo = s.coo
  tx : t.tx = s.tx
  freeCtr : t.freeCtr = s.freeCtr

/-- `t` is `s` but for lane `l`. -/
def LaneOnly (l : LaneId) (s t : State) : Prop := t = s.setLane l (t.lane l)

/-- `t` is `s` but for lane `l` and what recording events writes. -/
def LaneEvt (l : LaneId) (s t : State) : Prop := EventOnly (s.setLane l (t.lane l)) t

/-! ### Who runs on a core (05 R143 to R146) -/

/-- An access of `n` bytes by whoever runs on a core is let through: the kernel's and the dispatcher's, one of the lane-management core,
and that of a task to what the PMP grants it when it is dispatched. -/
def State.lets (s : State) (l : LaneId) (core addr n : Nat) (write : Bool) (who : Runner) : Bool :=
  match who with
  | .task t => core == 4 || (match s.decl l t with
    | some d => ((s.dispatch l core d).core l core).pmpAllows addr n write
    | none => false)
  | _ => true

/-! ### Coded instructions (05 R141, R155, R166) -/

/-- Application core `c` of lane `l` may execute the coded instructions of a pass: 0 plain, 1 encoded. -/
def State.codedReady (s : State) (l : LaneId) (c pass : Nat) : Prop :=
  (s.lane l).supplied = true ∧ c < 4 ∧ cf l (s.core l c) CDA_CTL_EN = 1 ∧ cf l (s.core l c) CDA_CTL_PASS = pass

/-- A coded instruction without a fault leaves everything of core `k` but its destination and the count of retired ones. -/
structure CodedKeeps (l : LaneId) (k k' : CoreState) : Prop where
  trap : k'.trap = k.trap
  csr : ∀ n, n ≠ CDA_ICNT.reg → coreCsr l k' n = coreCsr l k n
  count : cf l k' CDA_ICNT = satAdd 0xFFFFFFFF (cf l k CDA_ICNT) 1

/-- Core `k'` is `k` after a coded instruction that wrote `w` to general register `rd`. -/
structure CodedX (l : LaneId) (k k' : CoreState) (rd : Nat) (w : Word) : Prop where
  dest : xReg k' rd = if rd = 0 then 0 else w
  others : ∀ r, r ≠ rd → xReg k' r = xReg k r
  floats : k'.f = k.f
  keeps : CodedKeeps l k k'

/-- The bits of a format in a float register; an F32 is NaN-boxed. -/
def floatBits (f : FFmt) (b : Nat) : Word :=
  match f with
  | .f64 => BitVec.ofNat 64 b
  | .f32 => BitVec.ofNat 64 (0xFFFFFFFF * 2 ^ 32 + b)

/-- Core `k'` is `k` after a coded instruction that wrote the bits `b` of format `f` to float register `fd`. -/
structure CodedF (l : LaneId) (k k' : CoreState) (f : FFmt) (fd b : Nat) : Prop where
  dest : mapGet 0 k'.f fd = floatBits f b
  others : ∀ r, r ≠ fd → mapGet 0 k'.f r = mapGet 0 k.f r
  ints : k'.x = k.x
  keeps : CodedKeeps l k k'

/-- Command `i` completes on core `c`, which alone changes: `w` in general register `rd`. -/
def State.codedTo (s : State) (l : LaneId) (c : Nat) (i : Instr) (rd : Nat) (w : Word) : Prop :=
  ∃ k', exec i s = .next (s.coreSet l c k') ∧ CodedX l (s.core l c) k' rd w

/-- Command `i` completes on core `c`, which alone changes: the bits `b` of format `f` in float register `fd`. -/
def State.codedToF (s : State) (l : LaneId) (c : Nat) (i : Instr) (f : FFmt) (fd b : Nat) : Prop :=
  ∃ k', exec i s = .next (s.coreSet l c k') ∧ CodedF l (s.core l c) k' f fd b

/-! ### Answers of the dictionary service (16 R438, R439) -/

/-- The PDU that answers an unsigned request. -/
def answerPdu (op : Nat) (p : Pdu) (code : Nat) (last : Bool) (data : List Byte) : List Byte :=
  leBytes 1 1 ++ leBytes 1 (op + 128) ++ beBytes 2 p.tid ++ beBytes 2 p.index ++ leBytes 1 p.sub ++ leBytes 1 (64 * b2n last)
    ++ beBytes 4 p.offset ++ beBytes 2 data.length ++ beBytes 2 code ++ data

/-- From `s` to `t` one answer to a client on the network has gone out, and nothing else. -/
def State.answered (s t : State) (c : Client) (op : Nat) (p : Pdu) (code : Nat) (last : Bool) (data : List Byte) : Prop :=
  t.tx = ⟨.service, 13, beNat c.addr, answerPdu op p code last data⟩ :: s.tx

end Sys2Proof.Machine
end

