-- ==== Sys2Proof/Certificates/Slice0/Obligations.lean ====
section
/-! DEFINITION. The statements for the provers, from the numbered rules of the spec: every family of commands and every kind of state. -/

open Sys2Proof Sys2Proof.Machine

/-- R55, R56: a marker within WIN of its edge, or any marker in hub loss, is accepted: MARKER_OK is set and the next cycle is
lengthened by its offset, at most SLEW in all; any other is rejected: counted, with MARKER_OK cleared. Only the lane changes. -/
def Obligations.TickMarkerAcceptedOrRejected : Prop :=
  ∀ (s : State) (l : LaneId) (offset : Int), s.ticking l = true →
    (offset.natAbs ≤ 10 * s.lf l TCK_SYNC_WIN ∨ s.lf l TCK_STATUS_HUB_LOSS = 1 →
      ∃ t, exec (.tickMarker l offset) s = .next t ∧ t.lf l TCK_STATUS_MARKER_OK = 1 ∧
        (t.lane l).tick.nextAdj = clampInt (10 * s.lf l TCK_SYNC_SLEW)
          ((s.lane l).tick.nextAdj + clampInt (10 * s.lf l TCK_SYNC_SLEW) offset) ∧
        t.lf l TCK_CNT_MREJ = s.lf l TCK_CNT_MREJ ∧ t.lf l TCK_FRAME = s.lf l TCK_FRAME ∧ LaneOnly l s t) ∧
    (10 * s.lf l TCK_SYNC_WIN < offset.natAbs → s.lf l TCK_STATUS_HUB_LOSS ≠ 1 →
      ∃ t, exec (.tickMarker l offset) s = .next t ∧ t.lf l TCK_STATUS_MARKER_OK = 0 ∧
        t.lf l TCK_CNT_MREJ = satAdd 0xFFFF (s.lf l TCK_CNT_MREJ) 1 ∧ t.lf l TCK_INT_STAT_MARKER_REJ = 1 ∧
        (t.lane l).tick.nextAdj = (s.lane l).tick.nextAdj ∧ t.lf l TCK_FRAME = s.lf l TCK_FRAME ∧
        LaneEvt l s t)

/-- R54, R57: at its threshold a lane enters hub loss, leaves hub loss, or falls out of step and withholds its images; its frame
counter and everything outside the lane stay. -/
def Obligations.TickThresholdsAct : Prop :=
  ∀ (s : State) (l : LaneId), s.ticking l = true →
    (s.lf l TCK_SYNC_LOSS_LIM ≤ (s.lane l).tick.rejRun → (s.lane l).tick.rejRun ≠ 0 → s.lf l TCK_STATUS_HUB_LOSS = 0 →
      ∃ t, exec (.hubLossEnter l) s = .next t ∧ t.lf l TCK_STATUS_HUB_LOSS = 1 ∧ t.lf l TCK_INT_STAT_HUB_LOSS = 1 ∧
        t.lf l TCK_FRAME = s.lf l TCK_FRAME ∧ LaneEvt l s t) ∧
    (8 ≤ (s.lane l).tick.inRun → s.lf l TCK_STATUS_HUB_LOSS = 1 →
      ∃ t, exec (.hubLossLeave l) s = .next t ∧ t.lf l TCK_STATUS_HUB_LOSS = 0 ∧ t.lf l TCK_FRAME = s.lf l TCK_FRAME ∧
        LaneEvt l s t) ∧
    (2 ≤ (s.lane l).tick.beatOut → s.lf l TCK_STATUS_OUT_OF_STEP = 0 →
      ∃ t, exec (.laneOutOfStep l) s = .next t ∧ t.lf l TCK_STATUS_OUT_OF_STEP = 1 ∧ (t.lane l).rt.withhold = true ∧
        t.lf l TCK_FRAME = s.lf l TCK_FRAME ∧ LaneEvt l s t)

/-- R53, R54: at a beat a lane corrects its local time to the median of the three beats less their link delays, with one counting
neighbour by half the offset, with none not at all; two consecutive beats more than 2 µs off put it out of step. -/
def Obligations.SyncBeatCorrectsToMedian : Prop :=
  ∀ (s : State) (l : LaneId) (p q : Int), s.ticking l = true →
    (s.beatCounts l.prev = true → s.beatCounts l.next = true →
      ∃ t, exec (.syncBeat l (some p) (some q)) s = .next t ∧
        (t.lane l).tick.adj = (s.lane l).tick.adj
          + median3 0 (p - (s.lf l XCH_LINK_DELAY_PREV : Int)) (q - (s.lf l XCH_LINK_DELAY_NEXT : Int)) ∧
        ((median3 0 (p - (s.lf l XCH_LINK_DELAY_PREV : Int)) (q - (s.lf l XCH_LINK_DELAY_NEXT : Int))).natAbs ≤ 2000 →
          (t.lane l).tick.beatOut = 0) ∧
        (2000 < (median3 0 (p - (s.lf l XCH_LINK_DELAY_PREV : Int)) (q - (s.lf l XCH_LINK_DELAY_NEXT : Int))).natAbs →
          1 ≤ (s.lane l).tick.beatOut → s.lf l TCK_STATUS_OUT_OF_STEP = 0 →
          t.lf l TCK_STATUS_OUT_OF_STEP = 1 ∧ (t.lane l).rt.withhold = true)) ∧
    (s.beatCounts l.prev = true →
      ∃ t, exec (.syncBeat l (some p) none) s = .next t ∧
        (t.lane l).tick.adj = (s.lane l).tick.adj + (p - (s.lf l XCH_LINK_DELAY_PREV : Int)) / 2) ∧
    (s.beatCounts l.next = true →
      ∃ t, exec (.syncBeat l none (some q)) s = .next t ∧
        (t.lane l).tick.adj = (s.lane l).tick.adj + (q - (s.lf l XCH_LINK_DELAY_NEXT : Int)) / 2) ∧
    (∃ t, exec (.syncBeat l none none) s = .next t ∧ (t.lane l).tick.adj = (s.lane l).tick.adj)

/-- R78, R79, R116: a lane's core sets class-done bits, reads the low half of the frame counter with the upper half captured, and
has the verify list of a new count judged. -/
def Obligations.TickAndListRegisters : Prop :=
  ∀ (s : State) (l : LaneId), (s.lane l).supplied = true →
    (∀ w : Word, ∃ t, exec (.tckClsDoneWrite l w) s = .next t ∧
      t.lf l TCK_CLS_DONE = nOr (s.lf l TCK_CLS_DONE) w.toNat % 256 ∧ LaneOnly l s t) ∧
    (∀ core rd who, core < 5 → s.lets l core TCK_FRAME.reg 4 false who = true →
      ∃ t, exec (.tckFrameLowRead l core rd who) s = .next t ∧
      xReg (t.core l core) rd = (if rd = 0 then 0 else BitVec.ofNat 64 (s.lf l TCK_FRAME % 2 ^ 32)) ∧
      (t.lane l).tick.frameHi = s.lf l TCK_FRAME / 2 ^ 32 ∧ (t.lane l).regs = (s.lane l).regs) ∧
    (∀ v, v ≤ 256 → s.laneMode l = .configure →
      ∃ t, exec (.xchVcountWrite l 4 v) s = .next t ∧ mapFind (t.lane l).tick.dueRegs XCH_VCOUNT.reg = some v ∧
        t.lf l XCH_STATUS_VLIST_ERR = b2n (vlistBad
          (((s.lfSet l XCH_VCOUNT v).lregSet l XCH_VLIST.reg (BitVec.ofNat 64 (s.comingReg l XCH_VLIST.reg))).ventries l))) ∧
    (∀ v, 256 < v → v < 512 → s.laneMode l = .configure → exec (.xchVcountWrite l 4 v) s = .next s)

/-- R60, R61, R117: the phases of a cycle follow each other: A at the end of L with the banks sealed and the image sent to both
neighbours, P (or phase code 6 without tasks, the model's reading) at the end of A, E after the plain passes, V (with phase code 6
again while no task runs) after the encoded passes or at the safety deadline, and G from the non-safety deadline on
unless the lane stops its tasks there. -/
def Obligations.PhasesFollowEachOther : Prop :=
  ∀ (s : State) (l : LaneId), s.ticking l = true →
    (∃ t, exec (.endOfL l) s = .next t ∧ t.lf l TCK_STATUS_PHASE = 1 ∧ t.lf l TCK_INT_STAT_END_L = 1 ∧ (t.lane l).xch.sealed = true ∧
      (s.basesSet l = true → s.laneMode l ≠ .split →
        t.tx = [⟨.linkPacket, l.prev.idx, 2, linkPacket 2 l l.prev (s.frame l) (s.lreg l XCH_LAYOUT.reg).toNat (t.ownImage l)⟩,
          ⟨.linkPacket, l.next.idx, 2, linkPacket 2 l l.next (s.frame l) (s.lreg l XCH_LAYOUT.reg).toNat (t.ownImage l)⟩] ++ s.tx)) ∧
    (s.lf l TCK_STATUS_PHASE = 1 →
      ∃ t, exec (.endOfA l) s = .next t ∧ t.lf l TCK_INT_STAT_END_A = 1 ∧
        t.lf l TCK_STATUS_PHASE = if t.tasksRun l then 2 else 6) ∧
    (∀ rs, s.lf l TCK_STATUS_PHASE = 2 → (s.lane l).tick.stopped = false → safeMode (s.laneMode l) = true →
      ∃ t, exec (.enterPhaseE l rs) s = .next t ∧ t.lf l TCK_STATUS_PHASE = 3) ∧
    (∀ es ns since, s.beforeV l = true → s.lf l TCK_STATUS_PHASE = 3 ∨ s.tasksRun l = false ∨ safeMode (s.laneMode l) = false →
      ∃ t, exec (.enterPhaseV l es ns since) s = .next t ∧ t.lf l TCK_STATUS_PHASE = if t.tasksRun l then 4 else 6) ∧
    (∀ es ns, s.beforeV l = true →
      ∃ t, exec (.safetyDeadline l es ns) s = .next t ∧ t.lf l TCK_STATUS_PHASE = if t.tasksRun l then 4 else 6) ∧
    (∀ es ns, s.beforeV l = false → s.tasksRun l = false →
      ∃ t, exec (.safetyDeadline l es ns) s = .next t ∧ t.lf l TCK_INT_STAT_DL_SAFE = 1 ∧
        t.lf l TCK_STATUS_PHASE = s.lf l TCK_STATUS_PHASE ∧ LaneOnly l s t) ∧
    (∀ rs pages wend, s.lf l TCK_STATUS_PHASE = 4 →
      ∃ t, exec (.nonsafetyDeadline l rs pages wend) s = .next t ∧ t.lf l TCK_INT_STAT_DL_NS = 1 ∧
        t.lf l TCK_STATUS_PHASE = if s.tasksRun l && (t.lane l).tick.stopped then 6 else 5)

/-- R69: a class beyond its tolerance stops all tasks of the lane, which sends the all-off image with the halt request in this
cycle and the next: in phase V, or at once where V is over; nothing outside the lane changes but the event's record. -/
def Obligations.OverrunBeyondToleranceStopsLane : Prop :=
  ∀ (s : State) (l : LaneId) (c : Nat), s.ticking l = true → c < 8 → bitOf (s.lf l TCK_STATUS_OVR_NOW) c = true →
    s.tolOf l c < s.lf l (ovrField c) → (s.lane l).tick.stopped = false →
    ∃ t, exec (.overrunBeyondTolerance l c) s = .next t ∧ (t.lane l).tick.stopped = true ∧ t.lf l TCK_STATUS_PHASE = 6 ∧
      LaneEvt l { s with tx := t.tx } t ∧ (∀ off, (t.formImage l off).out = 0 ∧ (t.formImage l off).haltReq = true) ∧
      ((s.lane l).tick.inV = false → (t.lane l).tick.haltSend = 2 ∧ t.tx = s.tx) ∧
      ((s.lane l).tick.inV = true → (t.lane l).tick.haltSend = 1 ∧ ∃ g : Image, g.out = 0 ∧ g.haltReq = true ∧
        t.tx = ⟨.voter1Image, l.idx, 0, imageBytes32 g⟩ :: ⟨.voter2Image, l.idx, 0, imageBytes32 g⟩ :: s.tx)

/-- R206, R159: a trap in a safety task fails its local compare of the cycle, a trap in a non-safety task ends that task; an
instruction of R159 in the encoded pass raises an illegal-instruction exception, sets ILL and fails the task's compare.
R225: a station whose age has reached its timeout without an update shows STALE, with SAFE_OK 0; nothing else changes. -/
def Obligations.TrapsAndStationTimeouts : Prop :=
  (∀ (s : State) (l : LaneId) (c task : Nat), c < 4 →
     (s.ticking l = true → ∀ cause pc tval d, s.decl l task = some d →
       ∃ t, exec (.taskTrap l c task cause pc tval) s = .next t ∧ (t.core l c).trap = some ⟨cause, pc, tval⟩ ∧
         (d.safe = true → t.task l task = { s.task l task with failed := true }) ∧
         (d.safe = false → t.task l task = { s.task l task with ended := true }) ∧ LaneOnly l s t) ∧
     ((s.lane l).supplied = true → cf l (s.core l c) CDA_CTL_PASS = 1 → ∀ pc,
       ∃ t, exec (.encodedPassIllegal l c pc task) s = .next t ∧ (t.core l c).trap = some ⟨2, pc, none⟩ ∧
         bitOf (cf l (t.core l c) CDA_FAULT) 5 = true ∧ (t.task l task).failed = true ∧ LaneOnly l s t)) ∧
  (∀ (s : State) (l : LaneId) (st : Nat), s.ticking l = true → 1 ≤ st → st ≤ 255 → (s.station l st).fresh = false →
     s.stationTimeout st ≤ (s.station l st).age →
     ∃ t, exec (.stationTimeout l st) s = .next t ∧ t.station l st = { s.station l st with stale := true, safeOk := false } ∧
       (∀ k, k ≠ st → t.station l k = s.station l k) ∧ LaneOnly l s t)

/-- R28, R142: a load of a word with no or one wrong bit returns it, and one wrong bit is counted; a double error raises a precise load
access fault, changes no memory and makes the lane withhold its image. An LR reserves its word, an AMO answers the old word and stores
the new one, and a misaligned AMO raises its exception. -/
def Obligations.LaneMemoryReadCorrects : Prop :=
  ∀ (s : State) (l : LaneId) (core pc addr size rd : Nat) (signed : Bool) (who : Runner), (s.lane l).supplied = true → core < 5 →
    accessSize size = true →
    (inLaneMem addr = true → inLaneMem (addr + size - 1) = true → s.lets l core addr size false who = true →
      (∃ t, exec (.laneMemoryRead l core pc addr size rd signed .load who .clean) s = .next t ∧
        xReg (t.core l core) rd = (if rd = 0 then 0 else loadWord (s.lmem l addr size) signed) ∧ (t.lane l).ecc = (s.lane l).ecc ∧
        (t.lane l).mem = (s.lane l).mem ∧ LaneOnly l s t) ∧
      (∃ t, exec (.laneMemoryRead l core pc addr size rd signed .load who .single) s = .next t ∧
        xReg (t.core l core) rd = (if rd = 0 then 0 else loadWord (s.lmem l addr size) signed) ∧ (t.lane l).ecc = (s.lane l).ecc + 1 ∧
        (t.lane l).mem = (s.lane l).mem ∧ LaneOnly l s t) ∧
      (∃ t, exec (.laneMemoryRead l core pc addr size rd signed .load who .double) s = .next t ∧
        (t.core l core).trap = some ⟨5, pc, some addr⟩ ∧ (∀ r, xReg (t.core l core) r = xReg (s.core l core) r) ∧
        (t.lane l).rt.withhold = true ∧ (t.lane l).mem = (s.lane l).mem ∧ LaneOnly l s t)) ∧
    (core < 4 → size = 4 ∨ size = 8 → inLaneRam addr = true → addr % size = 0 →
      (s.lets l core addr size false who = true →
        ∃ t, exec (.laneMemoryRead l core pc addr size rd signed .lr who .clean) s = .next t ∧
          xReg (t.core l core) rd = (if rd = 0 then 0 else loadWord (s.lmem l addr size) true) ∧
          (t.core l core).resv = some (addr, size) ∧ (t.lane l).mem = (s.lane l).mem ∧ LaneOnly l s t) ∧
      (∀ f v, s.lets l core addr size true who = true →
        ∃ t, exec (.laneMemoryRead l core pc addr size rd signed (.amo f v) who .clean) s = .next t ∧
          xReg (t.core l core) rd = (if rd = 0 then 0 else loadWord (s.lmem l addr size) true) ∧
          (t.lane l).mem = memWrite (s.lane l).mem addr
            (leBytes size (amoValue f (8 * size) (leNat (s.lmem l addr size)) v.toNat)) ∧ LaneOnly l s t)) ∧
    (∀ f v, core < 4 → size = 4 ∨ size = 8 → addr % size ≠ 0 → s.lets l core addr size true who = true →
      ∃ t, exec (.laneMemoryRead l core pc addr size rd signed (.amo f v) who .clean) s = .next t ∧
        (t.core l core).trap = some ⟨6, pc, some addr⟩ ∧ (t.lane l).mem = (s.lane l).mem ∧ LaneOnly l s t)

/-- R12, R52, R58, R78: at an edge with no change of mode or closing phase due, a lane's frame counter advances by exactly 1, its phase
is L and its class-done bits are 0; the supervisor and the hub advance their frame numbers by 1 at their edges. -/
def Obligations.EdgesAdvanceFrameCounters : Prop :=
  ∀ s : State,
    (∀ (l : LaneId) (current : Nat), s.ticking l = true → s.md.due = [] → s.md.closing = none → s.sup.rst.valid = false →
      (s.lane l).cfgDue = false → (∀ p ∈ (s.lane l).tick.dueRegs, p.1 ≠ TCK_FRAME.reg ∧ p.1 ≠ TCK_STATUS.reg) →
      ∃ t, exec (.tickEdge l current) s = .next t ∧ t.lf l TCK_FRAME = frameAdd (s.lf l TCK_FRAME) 1 ∧
        t.lf l TCK_STATUS_PHASE = 0 ∧ t.lf l TCK_CLS_DONE = 0 ∧ t.lf l TCK_INT_STAT_EDGE = 1 ∧
        (t.lane l).xch.sealed = false ∧ (t.lane l).rt.withhold = false) ∧
    (∀ (a b c : Option Nat) (line : Bool) (m : Option Supply), s.sup.supplied = true → (a.isSome || b.isSome || c.isSome) = true →
      ∃ t, exec (.supervisorEdge a b c line m) s = .next t ∧ t.sup.frame = frameAdd s.sup.frame 1 ∧
        (s.anyTick = true → t.hub.frame = s.hub.frame)) ∧
    (∀ (dt : Nat) (late : List (Nat × Nat)), s.hub.supplied = true →
      ∃ t, exec (.hubEdge dt late) s = .next t ∧ t.hub.frame = frameAdd s.hub.frame 1 ∧ t.sup.frame = s.sup.frame)

/-- R125, R127, R128: before the image cut-off a neighbour's image that passes every check is held and one that fails is counted on
its link; at the cut-off the lane sends both neighbours a receipt with its HELD set and outcome bitmap; a valid receipt is kept until
the receipt cut-off, at which the neighbours without one are left out. -/
def Obligations.ExchangeOfImagesAndReceipts : Prop :=
  ∀ (s : State) (l : LaneId), s.ticking l = true →
    (∀ p : LinkPacket, bitOf (s.lane l).xch.failed 3 = false → s.packetOk l p = true → p.payload.length = s.imageBytes l →
      p.layout = (s.lreg l XCH_LAYOUT.reg).toNat →
      ∃ t, exec (.imagePacketReceive l p) s = .next t ∧ mapFind (t.lane l).xch.held p.src.idx = some p.payload ∧
        (t.lane l).regs = (s.lane l).regs ∧ (t.lane l).mem = (s.lane l).mem ∧ LaneOnly l s t) ∧
    (∀ p : LinkPacket, bitOf (s.lane l).xch.failed 3 = false →
      (s.packetOk l p = false ∨ p.payload.length ≠ s.imageBytes l ∨ p.layout ≠ (s.lreg l XCH_LAYOUT.reg).toNat) →
      ∃ t, exec (.imagePacketReceive l p) s = .next t ∧ (t.lane l).xch.held = (s.lane l).xch.held ∧
        (p.src = l.prev → t.lf l XCH_CNT_LINK_PREV = satAdd 0xFFFF (s.lf l XCH_CNT_LINK_PREV) 1) ∧
        (p.src ≠ l.prev → t.lf l XCH_CNT_LINK_NEXT = satAdd 0xFFFF (s.lf l XCH_CNT_LINK_NEXT) 1) ∧
        (t.lane l).mem = (s.lane l).mem) ∧
    (s.laneMode l ≠ .split →
      ∃ t, exec (.imageCutoff l) s = .next t ∧ t.lf l XCH_STATUS_HELD = s.heldSet l ∧ bitOf (t.lane l).xch.failed 3 = true ∧
        t.tx = [⟨.linkPacket, l.prev.idx, 6, linkPacket 6 l l.prev (s.frame l) 0 (leBytes 8 (s.heldSet l) ++ s.vresBytes l)⟩,
          ⟨.linkPacket, l.next.idx, 6, linkPacket 6 l l.next (s.frame l) 0 (leBytes 8 (s.heldSet l) ++ s.vresBytes l)⟩] ++ s.tx) ∧
    (∀ p : LinkPacket, bitOf (s.lane l).xch.failed 4 = false → s.packetOk l p = true →
      ∃ t, exec (.receiptReceive l p) s = .next t ∧ mapFind (t.lane l).xch.receipts p.src.idx = some p.payload ∧
        (t.lane l).regs = (s.lane l).regs ∧ LaneOnly l s t) ∧
    (s.laneMode l ≠ .split →
      ∃ t, exec (.receiptCutoff l) s = .next t ∧ bitOf (t.lane l).xch.failed 4 = true ∧
        (∀ k, inSet (t.lane l).xch.noReceipt k = true ↔ k ≠ l ∧ mapFind (s.lane l).xch.receipts k.idx = none) ∧ LaneOnly l s t)

/-- R136: an input whose own level has differed from the agreed one for DIS_LIM cycles is flagged, and the flag clears after DIS_LIM
agreeing cycles; other inputs' flags stay, and no lane leaves the vote. -/
def Obligations.InputDisagreementFlagged : Prop :=
  ∀ (s : State) (l : LaneId) (i : Nat), s.ticking l = true → i < 32 →
    (s.lf l XCH_CFG_DIS_LIM ≤ mapGet 0 (s.lane l).xch.disRun i → bitOf (s.lf l XCH_DIS_IN) i = false →
      ∃ t, exec (.inputDisagreementFlag l i) s = .next t ∧ t.lf l XCH_DIS_IN = setBit (s.lf l XCH_DIS_IN) i true ∧
        bitOf (t.lf l XCH_DIS_IN) i = true ∧ t.lf l XCH_INT_STAT_DIS = 1 ∧ t.members = s.members ∧ LaneEvt l s t) ∧
    (s.lf l XCH_CFG_DIS_LIM ≤ mapGet 0 (s.lane l).xch.agreeRun i → bitOf (s.lf l XCH_DIS_IN) i = true →
      ∃ t, exec (.inputDisagreementClear l i) s = .next t ∧ t.lf l XCH_DIS_IN = setBit (s.lf l XCH_DIS_IN) i false ∧
        bitOf (t.lf l XCH_DIS_IN) i = false ∧ t.members = s.members ∧ LaneEvt l s t)

/-- R162: with right operands and a result in the coded domain, the arithmetic instructions write the code word of x + y, x − y, x·y,
⌊x·y / 2^Q⌋, x / y toward zero (−1 for y = 0) and the remainder with the sign of x (x for y = 0), and change nothing else. -/
def Obligations.CodedArithmeticResults : Prop :=
  ∀ (s : State) (l : LaneId) (c pc rd rs1 rs2 rs3 : Nat) (x y : Int), s.codedReady l c 1 →
    let k := s.core l c
    let p := (xReg k rs3).toNat
    let d := cf l k CDA_D
    codeDec (pkX p) d (xReg k rs1) = some x → codeDec (pkY p) d (xReg k rs2) = some y →
    (sigOk { x := true, y := true, z := true } p = true →
      (inDomain (x + y) = true → s.codedTo l c (.cdAdd l c pc rd rs1 rs2 rs3) rd (codeEnc (pkZ p) d (x + y))) ∧
      (inDomain (x - y) = true → s.codedTo l c (.cdSub l c pc rd rs1 rs2 rs3) rd (codeEnc (pkZ p) d (x - y))) ∧
      (inDomain (x * y) = true → s.codedTo l c (.cdMul l c pc rd rs1 rs2 rs3) rd (codeEnc (pkZ p) d (x * y))) ∧
      (y ≠ 0 → inDomain (x.tdiv y) = true → s.codedTo l c (.cdDiv l c pc rd rs1 rs2 rs3) rd (codeEnc (pkZ p) d (x.tdiv y))) ∧
      (y = 0 → s.codedTo l c (.cdDiv l c pc rd rs1 rs2 rs3) rd (codeEnc (pkZ p) d (-1))) ∧
      (y ≠ 0 → inDomain (x.tmod y) = true → s.codedTo l c (.cdRem l c pc rd rs1 rs2 rs3) rd (codeEnc (pkZ p) d (x.tmod y))) ∧
      (y = 0 → inDomain x = true → s.codedTo l c (.cdRem l c pc rd rs1 rs2 rs3) rd (codeEnc (pkZ p) d x))) ∧
    (sigOk { x := true, y := true, z := true, q := fun q => decide (q ≤ 47) } p = true → inDomain (x * y / 2 ^ pkQ p) = true →
      s.codedTo l c (.cdMulq l c pc rd rs1 rs2 rs3) rd (codeEnc (pkZ p) d (x * y / 2 ^ pkQ p)))

/-- R162, R165: encoding, decoding, check, new signature, shift, wrap and rebase of one operand. The old D of a rebase lies in 1 to
32 767.
R162, R165: comparisons and coded booleans write the code word of 0 or 1; cd.cond writes a plain 0 or 1 and folds it into CDA_ESIG,
and cd.pfold folds (rs1 ≠ 0) into CDA_PSIG in the plain pass. -/
def Obligations.CodedUnaryAndBooleanResults : Prop :=
  (∀ (s : State) (l : LaneId) (c pc rd rs1 rs2 rs3 : Nat) (x : Int), s.codedReady l c 1 →
     let k := s.core l c
     let p := (xReg k rs3).toNat
     let d := cf l k CDA_D
     (sigOk { z := true } p = true → inDomain (xReg k rs1).toInt = true →
       s.codedTo l c (.cdEnc l c pc rd rs1 rs3) rd (codeEnc (pkZ p) d (xReg k rs1).toInt)) ∧
     (codeDec (pkX p) d (xReg k rs1) = some x →
       (sigOk { x := true } p = true → inDomain x = true → s.codedTo l c (.cdDec l c pc rd rs1 rs3) rd (BitVec.ofInt 64 x)) ∧
       (sigOk { x := true } p = true → s.codedTo l c (.cdChk l c pc rs1 rs3) 0 0) ∧
       (sigOk { x := true, z := true } p = true → inDomain x = true →
         s.codedTo l c (.cdResig l c pc rd rs1 rs3) rd (codeEnc (pkZ p) d x)) ∧
       (sigOk { x := true, z := true, q := fun q => decide (q ≤ 47) } p = true → inDomain (x / 2 ^ pkQ p) = true →
         s.codedTo l c (.cdSra l c pc rd rs1 rs3) rd (codeEnc (pkZ p) d (x / 2 ^ pkQ p))) ∧
       (bitsOf (pkQ p) 6 6 = 0 → 1 ≤ bitsOf (pkQ p) 5 0 → bitsOf (pkQ p) 5 0 ≤ 32 →
         sigOk { x := true, z := true, q := fun _ => true } p = true →
         (bitOf (pkQ p) 7 = false → s.codedTo l c (.cdWrap l c pc rd rs1 rs3) rd (codeEnc (pkZ p) d (x % 2 ^ bitsOf (pkQ p) 5 0))) ∧
         (bitOf (pkQ p) 7 = true → s.codedTo l c (.cdWrap l c pc rd rs1 rs3) rd
           (codeEnc (pkZ p) d ((x + 2 ^ (bitsOf (pkQ p) 5 0 - 1)) % 2 ^ bitsOf (pkQ p) 5 0 - 2 ^ (bitsOf (pkQ p) 5 0 - 1)))))) ∧
     (sigOk { x := true, z := true } p = true → (xReg k rs2).toNat ≠ 0 → (xReg k rs2).toNat ≤ 32767 →
       codeDec (pkX p) (xReg k rs2).toNat (xReg k rs1) = some x → inDomain x = true →
       ∃ k', exec (.cdRebase l c pc rd rs1 rs2 rs3) s = .next (s.coreSet l c k').drawn ∧ CodedX l k k' rd (codeEnc (pkZ p) d x))) ∧
  (∀ (s : State) (l : LaneId) (c pc rd rs1 rs2 rs3 : Nat) (x y : Int),
     let k := s.core l c
     let p := (xReg k rs3).toNat
     let d := cf l k CDA_D
     (s.codedReady l c 1 → codeDec (pkX p) d (xReg k rs1) = some x →
       (codeDec (pkY p) d (xReg k rs2) = some y → sigOk { x := true, y := true, z := true } p = true →
         s.codedTo l c (.cdSlt l c pc rd rs1 rs2 rs3) rd (codeEnc (pkZ p) d (if x < y then 1 else 0)) ∧
         s.codedTo l c (.cdSeq l c pc rd rs1 rs2 rs3) rd (codeEnc (pkZ p) d (if x = y then 1 else 0)) ∧
         (isBool x = true → isBool y = true →
           s.codedTo l c (.cdBand l c pc rd rs1 rs2 rs3) rd (codeEnc (pkZ p) d (if x = 1 ∧ y = 1 then 1 else 0)) ∧
           s.codedTo l c (.cdBor l c pc rd rs1 rs2 rs3) rd (codeEnc (pkZ p) d (if x = 1 ∨ y = 1 then 1 else 0)))) ∧
       (isBool x = true → sigOk { x := true, z := true } p = true →
         s.codedTo l c (.cdBnot l c pc rd rs1 rs3) rd (codeEnc (pkZ p) d (if x = 1 then 0 else 1))) ∧
       (isBool x = true → sigOk { x := true } p = true →
         ∃ k', exec (.cdCond l c pc rd rs1 rs3) s = .next (s.coreSet l c k') ∧
           xReg k' rd = (if rd = 0 then 0 else if x = 1 then 1 else 0) ∧
           cf l k' CDA_ESIG = foldCond (cf l k CDA_ESIG) (decide (x = 1)) ∧ cf l k' CDA_PSIG = cf l k CDA_PSIG ∧ k'.f = k.f)) ∧
     (s.codedReady l c 0 →
       ∃ k', exec (.cdPfold l c pc rs1) s = .next (s.coreSet l c k') ∧ k'.x = k.x ∧ k'.f = k.f ∧
         cf l k' CDA_PSIG = foldCond (cf l k CDA_PSIG) (decide (xReg k rs1 ≠ 0)) ∧ cf l k' CDA_ESIG = cf l k CDA_ESIG))

/-- R155, R161, R162: a wrong signature operand, a failed residue check of either operand, or a result outside the coded domain sets
its CDA_FAULT bit, records the pc while CDA_FAULT was 0, writes 0 to the destination, and traps with cause 24 only with FTRAP. -/
def Obligations.CodedFaultsRecorded : Prop :=
  ∀ (s : State) (l : LaneId) (c pc rd rs1 rs2 rs3 : Nat), s.codedReady l c 1 →
    let k := s.core l c
    let p := (xReg k rs3).toNat
    let d := cf l k CDA_D
    let faults := fun (i : Instr) (bit : Nat) => ∃ k',
      exec i s = .next (if cf l k CDA_CTL_FTRAP = 1 then (s.coreSet l c k').afterTrap l c k else s.coreSet l c k') ∧ xReg k' rd = 0 ∧
      cf l k' CDA_FAULT = nOr (cf l k CDA_FAULT) bit ∧
      cf l k' CDA_FPC = (if cf l k CDA_FAULT = 0 then pc % 2 ^ 64 else cf l k CDA_FPC) ∧
      k'.trap = (if cf l k CDA_CTL_FTRAP = 1 then some ⟨24, pc, none⟩ else k.trap) ∧ (∀ r, r ≠ rd → xReg k' r = xReg k r) ∧ k'.f = k.f
    ∀ i ∈ [Instr.cdAdd l c pc rd rs1 rs2 rs3, .cdSub l c pc rd rs1 rs2 rs3, .cdMul l c pc rd rs1 rs2 rs3, .cdDiv l c pc rd rs1 rs2 rs3,
        .cdRem l c pc rd rs1 rs2 rs3, .cdSlt l c pc rd rs1 rs2 rs3, .cdSeq l c pc rd rs1 rs2 rs3, .cdBand l c pc rd rs1 rs2 rs3,
        .cdBor l c pc rd rs1 rs2 rs3],
      (sigOk { x := true, y := true, z := true } p = false → faults i cdSig) ∧
      (sigOk { x := true, y := true, z := true } p = true →
        (codeDec (pkX p) d (xReg k rs1) = none ∨ codeDec (pkY p) d (xReg k rs2) = none → faults i cdRes) ∧
        (∀ x y, codeDec (pkX p) d (xReg k rs1) = some x → codeDec (pkY p) d (xReg k rs2) = some y →
          (i = .cdAdd l c pc rd rs1 rs2 rs3 → inDomain (x + y) = false → faults i cdIrange) ∧
          (i = .cdMul l c pc rd rs1 rs2 rs3 → inDomain (x * y) = false → faults i cdIrange) ∧
          (i = .cdBand l c pc rd rs1 rs2 rs3 → isBool x = false ∨ isBool y = false → faults i cdBool)))

/-- R163: with a result v before rounding that sets no FRANGE the float instructions write −v·2^s of the plain value, product, quotient,
root, fused sum and sign injection, rounded once to nearest even; cd.fdec writes the plain value. Nothing else changes.
R164: float comparisons, classification and conversions between coded floats and coded integers; an old scale of 1 to 15 for
cd.frebase. -/
def Obligations.CodedFloatAndMixedResults : Prop :=
  (∀ (s : State) (l : LaneId) (c pc : Nat) (f : FFmt) (fd fs1 fs2 fs3 : Nat), s.codedReady l c 1 →
     let k := s.core l c
     let sn := cf l k CDA_S
     let a := fDec sn (fReg f k fs1)
     let b := fDec sn (fReg f k fs2)
     let e := fDec sn (fReg f k fs3)
     let result := fun (i : Instr) (v : FVal × Bool) =>
       fltFault f v = 0 → s.codedToF l c i f fd (packSticky f (negScale v.1 sn, v.2))
     result (.cdFenc l c pc f fd fs1) (fReg f k fs1, false) ∧
     result (.cdFmul l c pc f fd fs1 fs2) (fMul a b, false) ∧
     result (.cdFdiv l c pc f fd fs1 fs2) (fDiv f a b) ∧
     result (.cdFsqrt l c pc f fd fs1) (fSqrt f a) ∧
     result (.cdFmadd l c pc f fd fs1 fs2 fs3) (fAdd (fMul a b) e, false) ∧
     result (.cdFsgnjx l c pc f fd fs1 fs2) (fSgnjx a b, false) ∧
     (fltFault f (a, false) = 0 → s.codedToF l c (.cdFdec l c pc f fd fs1) f fd (pack f a))) ∧
  (∀ (s : State) (l : LaneId) (c pc : Nat) (f : FFmt) (rd rs1 rs2 rs3 : Nat), s.codedReady l c 1 →
     let k := s.core l c
     let p := (xReg k rs3).toNat
     let d := cf l k CDA_D
     let sn := cf l k CDA_S
     let a := fDec sn (fReg f k rs1)
     let b := fDec sn (fReg f k rs2)
     (sigOk { z := true } p = true →
       s.codedTo l c (.cdFlt l c pc f rd rs1 rs2 rs3) rd (codeEnc (pkZ p) d (if fLt a b then 1 else 0)) ∧
       s.codedTo l c (.cdFle l c pc f rd rs1 rs2 rs3) rd (codeEnc (pkZ p) d (if fLt a b || fEq a b then 1 else 0)) ∧
       s.codedTo l c (.cdFeq l c pc f rd rs1 rs2 rs3) rd (codeEnc (pkZ p) d (if fEq a b then 1 else 0)) ∧
       s.codedTo l c (.cdFclass l c pc f rd rs1 rs3) rd (codeEnc (pkZ p) d (fClass f a))) ∧
     (sigOk { z := true, q := cvtQ } p = true →
       let v := fConvert (bitsOf (pkQ p) 2 0) (cvtRange (pkQ p)).1 (cvtRange (pkQ p)).2 a
       inDomain v = true → s.codedTo l c (.cdFcvtX l c pc f rd rs1 rs3) rd (codeEnc (pkZ p) d v)) ∧
     (∀ x : Int, sigOk { x := true, q := fun q => decide (q ≤ 4) } p = true → codeDec (pkX p) d (xReg k rs1) = some x →
       let v := unpack f (packRound f (pkQ p) (decide (x < 0)) x.natAbs 0 false)
       fltFault f (v, false) = 0 →
       ∃ k', exec (.cdFcvtF l c pc f rd rs1 rs3) s = .next (s.coreSet l c k').drawn ∧
         CodedF l k k' f rd (packSticky f (negScale v sn, false))) ∧
     ((xReg k rs2).toNat ≠ 0 → (xReg k rs2).toNat ≤ 15 →
       let v := fDec (xReg k rs2).toNat (fReg f k rs1)
       fltFault f (v, false) = 0 →
       ∃ k', exec (.cdFrebase l c pc f rd rs1 rs2) s = .next (s.coreSet l c k').drawn ∧
         CodedF l k k' f rd (packSticky f (negScale v sn, false))))

/-- R166, R167: in machine mode a CSR instruction puts the old value of a coded-arithmetic CSR into its destination and sets only the
writable bits, a 1 written to CDA_FAULT clears its bit, and FTRAP stays 0 in SAFE-3 and SAFE-2; in S or U mode, for CSR 0x7CA to 0x7CF
and on the lane-management core the access raises an illegal-instruction exception.
R141: while EN is 0, and on the lane-management core, every coded instruction raises an illegal-instruction exception and has no
other effect on the machine than that exception brings (three of them count a free value that they do not use). -/
def Obligations.CodedCsrWritesAndIllegal : Prop :=
  (∀ (s : State) (l : LaneId) (c pc csr rd : Nat) (op : CsrOp) (v : Word), (s.lane l).supplied = true → 0x7C0 ≤ csr → csr ≤ 0x7CF →
     let k := s.core l c
     let old := coreCsr l k csr
     (∀ pr, c < 5 → (c = 4 ∨ pr ≠ .m ∨ 0x7CA ≤ csr) →
       exec (.cdaCsrWrite l c pc pr op csr rd v) s = .next (s.coreTrap l c 2 pc none)) ∧
     (c < 4 → csr < 0x7CA →
       ∃ k', exec (.cdaCsrWrite l c pc .m op csr rd v) s = .next (s.coreSet l c k') ∧
         xReg k' rd = (if rd = 0 then 0 else BitVec.ofNat 64 old.toNat) ∧ (∀ r, r ≠ rd → xReg k' r = xReg k r) ∧
         k'.f = k.f ∧ k'.trap = k.trap ∧ (∀ n, n ≠ csr → coreCsr l k' n = coreCsr l k n) ∧
         (csrNew op old.toNat v.toNat = none → coreCsr l k' csr = old) ∧
         (∀ w, csrNew op old.toNat v.toNat = some w →
           (csr = 0x7C6 → ∀ i, i < 6 → bitOf (coreCsr l k' csr).toNat i = (bitOf old.toNat i && !bitOf w i)) ∧
           (csr = 0x7C0 → (coreCsr l k' csr).toNat % 8 = if safeMode (s.laneMode l) then w % 4 else w % 8) ∧
           (csr = 0x7C4 ∨ csr = 0x7C5 ∨ csr = 0x7C8 → (coreCsr l k' csr).toNat % 2 ^ 32 = w % 2 ^ 32) ∧
           (csr = 0x7C1 ∨ csr = 0x7C2 ∨ csr = 0x7C3 ∨ csr = 0x7C7 ∨ csr = 0x7C9 → coreCsr l k' csr = old)))) ∧
  (∀ (s : State) (l : LaneId) (c pc : Nat) (f : FFmt) (d a b e : Nat), (s.lane l).supplied = true →
     (c = 4 ∨ c < 4 ∧ cf l (s.core l c) CDA_CTL_EN = 0) →
     (∀ i ∈ [Instr.cdEnc l c pc d a e, .cdDec l c pc d a e, .cdChk l c pc a e, .cdResig l c pc d a e, .cdAdd l c pc d a b e,
         .cdSub l c pc d a b e, .cdMul l c pc d a b e, .cdMulq l c pc d a b e, .cdDiv l c pc d a b e, .cdRem l c pc d a b e,
         .cdSra l c pc d a e, .cdWrap l c pc d a e, .cdSlt l c pc d a b e, .cdSeq l c pc d a b e, .cdBand l c pc d a b e,
         .cdBor l c pc d a b e, .cdBnot l c pc d a e, .cdCond l c pc d a e, .cdPfold l c pc a, .cdFenc l c pc f d a,
         .cdFdec l c pc f d a, .cdFmul l c pc f d a b, .cdFdiv l c pc f d a b, .cdFsqrt l c pc f d a, .cdFmadd l c pc f d a b e,
         .cdFsgnjx l c pc f d a b, .cdFlt l c pc f d a b e, .cdFle l c pc f d a b e, .cdFeq l c pc f d a b e,
         .cdFcvtX l c pc f d a e, .cdFclass l c pc f d a e],
       exec i s = .next (s.coreTrap l c 2 pc none)) ∧
     (∀ i ∈ [Instr.cdRebase l c pc d a b e, .cdFcvtF l c pc f d a e, .cdFrebase l c pc f d a b],
       exec i s = .next (s.coreTrap l c 2 pc none).drawn))

/-- R175, R176: a class 0x1 or 0x2 output is on in a voted mode exactly when the valid, non-withheld images of two different members ask
for it; an owned output exactly when its owner's does; class 0x0 never; in SPLIT only the owner of a class 0x2 to 0x5 output decides;
and in the halt state every output is off. -/
def Obligations.VoterDecidesFromTwoMembers : Prop :=
  ∀ (v : Voter) (i : Nat), i < 17 →
    let asks := fun (l : LaneId) => (v.ln l).recv = .valid ∧ (v.ln l).img.withheld = false ∧
      ((v.ln l).img.mode = 3 ∨ (v.ln l).img.mode = 4) ∧ bitOf (v.ln l).img.out i = true
    let asksAlone := fun (l : LaneId) => (v.ln l).recv = .valid ∧ (v.ln l).img.withheld = false ∧ (v.ln l).img.mode = 5 ∧
      bitOf (v.ln l).img.out i = true ∧ inSet v.disregarded l = false
    (v.halt = true → bitOf v.verdict i = false) ∧
    (v.halt = false → v.split = false →
      (v.clsOf i = 1 ∨ v.clsOf i = 2 → (bitOf v.verdict i = true ↔
        ∃ l k : LaneId, l ≠ k ∧ inSet v.members l = true ∧ inSet v.members k = true ∧ asks l ∧ asks k)) ∧
      (∀ l : LaneId, v.clsOf i = 3 + l.idx → (bitOf v.verdict i = true ↔ inSet v.members l = true ∧ asks l)) ∧
      (v.clsOf i = 0 → bitOf v.verdict i = false)) ∧
    (v.halt = false → v.split = true →
      (v.clsOf i = 0 ∨ v.clsOf i = 1 → bitOf v.verdict i = false) ∧
      (∀ l : LaneId, v.clsOf i = 2 → v.ownOf i = l.idx → (bitOf v.verdict i = true ↔ asksAlone l)) ∧
      (∀ l : LaneId, v.clsOf i = 3 + l.idx → (bitOf v.verdict i = true ↔ asksAlone l)))

/-- R173, R196, R197: the lane-management core's write of VOT_IMG7 sends the eight image words to voter 2, an application core's does
nothing; a write of VOT_V1_IMG7 hands the words to voter 1; and SEND gives voter 2 the lane's configuration, which it accepts only when
every supplied lane has sent identical values. -/
def Obligations.VotePortSendsAndConfigures : Prop :=
  ∀ (s : State) (l : LaneId) (w : Word), (s.lane l).supplied = true →
    (∃ t, exec (.votImgSend l 4 w) s = .next t ∧
      t.tx = ⟨.voter2Image, l.idx, 0, (List.range 8).flatMap (fun i =>
        leBytes 4 (if i = 7 then w.toNat % 2 ^ 32 else s.lf l (VOT_IMG i)))⟩ :: s.tx ∧ (t.lane l).mem = (s.lane l).mem ∧ t.hub = s.hub) ∧
    (∀ c, c ≠ 4 → exec (.votImgSend l c w) s = .next s ∧ exec (.votCtlSend l c) s = .next s) ∧
    (s.hub.supplied = true → s.v1.cut = false → (s.v1.ln l).recv ≠ .valid →
      let b := (List.range 8).flatMap (fun i => leBytes 4 (if i = 7 then w.toNat % 2 ^ 32 else s.lf l (VOT_V1_IMG i)))
      imageCheck s.v1 l b = 0 →
      ∃ t, exec (.votV1ImgLatch l w) s = .next t ∧ (t.v1.ln l).recv = .valid ∧ (t.v1.ln l).img = parseImage b ∧
        (∀ k, k ≠ l → t.v1.ln k = s.v1.ln k) ∧ t.sup = s.sup) ∧
    (s.sup.supplied = true →
      let ctl := s.lf l VOT_CTL
      let sent := [s.lf l VOT_CLS0, s.lf l VOT_CLS1, s.lf l VOT_SPOWN,
        setBits (setBits (setBit ctl 0 false) 23 20 (if bitsOf ctl 23 20 = 0 then 2 else bitsOf ctl 23 20)) 19 16
          (if bitsOf ctl 19 16 = 0 then 3 else bitsOf ctl 19 16)]
      ((∀ k, k ≠ l → (s.lane k).supplied = true → mapFind s.sup.v2.cfg k.idx = some sent) →
        ∃ t, exec (.votCtlSend l 4) s = .next t ∧ t.sup.v2.cfgOk = true ∧
          t.sup.v2.classes = s.lf l VOT_CLS0 + s.lf l VOT_CLS1 * 2 ^ 32 ∧ t.sup.v2.owners = s.lf l VOT_SPOWN ∧
          t.sup.v2.mapid = s.ownMapid l ∧ t.sup.v2.split = bitOf (s.lf l VOT_CTL) 1 ∧ t.v1 = s.v1) ∧
      (∀ k, k ≠ l → (s.lane k).supplied = true → mapFind s.sup.v2.cfg k.idx ≠ some sent →
        ∃ t, exec (.votCtlSend l 4) s = .next t ∧ t.sup.v2.cfgOk = false ∧ t.sup.v2.classes = s.sup.v2.classes ∧
          t.sup.v2.mapid = s.sup.v2.mapid))

/-- R174, R173: before its cut-off a voter keeps the first image of a lane that is 32 bytes long with the right CRC, frame, lane, MAPID
and reserved bits; a later one changes nothing it holds and is counted; any other is invalid; at the cut-off a missing image is late, and what comes
after it changes nothing. -/
def Obligations.VoterKeepsFirstValidImage : Prop :=
  ∀ (s : State) (i : VoterId) (l : LaneId) (b : List Byte), s.voterUp i = true →
    let v := s.voter i
    let good := b.length = 32 ∧ crc32c (b.take 28) = leAt b 28 4 ∧ (parseImage b).frame = v.frame ∧ (parseImage b).lane = l.idx ∧
      (parseImage b).mapid = v.mapid ∧ imageReserved b = true
    (v.cut = false → (v.ln l).recv ≠ .valid → good →
      ∃ t, exec (.voterImageReceive i l b) s = .next t ∧
        (t.voter i).ln l = { v.ln l with recv := .valid, img := parseImage b } ∧
        (∀ k, k ≠ l → (t.voter i).ln k = v.ln k) ∧ (t.voter i).out = v.out ∧ (t.voter i).members = v.members) ∧
    (v.cut = false → (v.ln l).recv = .valid →
      ∃ t, exec (.voterImageReceive i l b) s = .next t ∧ t.voter i = v ∧
        t.lf l VOT_CNT_DUP = satAdd 0xFFFF (s.lf l VOT_CNT_DUP) 1) ∧
    (v.cut = false → (v.ln l).recv ≠ .valid → ¬ good →
      ∃ t, exec (.voterImageReceive i l b) s = .next t ∧ ((t.voter i).ln l).recv = .invalid ∧
        (∀ k, k ≠ l → (t.voter i).ln k = v.ln k) ∧ (i = .v1 → t.hf VOT_V1_CNT_INVALID = satAdd 0xFFFF (s.hf VOT_V1_CNT_INVALID) 1)) ∧
    (v.cut = true → exec (.voterImageReceive i l b) s = .next s) ∧
    (∃ t, exec (.voterImageCutoff i) s = .next t ∧ (t.voter i).cut = true ∧
      (∀ k, ((t.voter i).ln k).recv = if (v.ln k).recv = .missing then .late else (v.ln k).recv) ∧
      (t.voter i).out = v.out ∧ (t.voter i).members = v.members)

/-- R178, R179, R180, R195: a member whose watchdog or withhold limit has been reached leaves voter 2's member set and restarts alone; if
fewer than two members would remain, voter 2 halts with every output off; in SPLIT the lane is disregarded, by voter 2 with its supply
removed, and by voter 1 on its own count. -/
def Obligations.LimitsRemoveALane : Prop :=
  ∀ (s : State) (l : LaneId),
    let v := s.sup.v2
    let rest := nAndNot v.members (2 ^ l.idx)
    (s.sup.supplied = true → v.halt = false → inSet v.members l = true → v.split = false →
      (v.wd ≤ (v.ln l).miss → runMode s.md.mode = true →
        (2 ≤ laneSetCount rest → ∃ t, exec (.laneWatchdogExpire l) s = .next t ∧ t.sup.v2.members = rest ∧ t.sup.v2.halt = false ∧
          (t.lane l).supplied = true ∧ (t.lane l).restart = some (2, true) ∧ t.v1 = s.v1) ∧
        (laneSetCount rest < 2 → ∃ t, exec (.laneWatchdogExpire l) s = .next t ∧ t.sup.v2.halt = true ∧ t.sup.v2.out = 0 ∧
          t.sup.v2.members = rest ∧ t.v1 = s.v1)) ∧
      (v.wh ≤ (v.ln l).whRun → safeMode s.md.mode = true →
        (2 ≤ laneSetCount rest → ∃ t, exec (.withholdLimitRemove l) s = .next t ∧ t.sup.v2.members = rest ∧ t.sup.v2.halt = false ∧
          (t.lane l).supplied = true ∧ (t.lane l).restart = some (2, true) ∧ t.v1 = s.v1) ∧
        (laneSetCount rest < 2 → ∃ t, exec (.withholdLimitRemove l) s = .next t ∧ t.sup.v2.halt = true ∧ t.sup.v2.out = 0 ∧
          t.sup.v2.members = rest ∧ t.v1 = s.v1))) ∧
    (s.sup.supplied = true → v.halt = false → inSet v.members l = true → v.split = true → inSet v.disregarded l = false →
      v.wd ≤ (v.ln l).miss → runMode s.md.mode = true →
      ∃ t, exec (.laneWatchdogExpire l) s = .next t ∧ inSet t.sup.v2.disregarded l = true ∧ (t.lane l).supplied = false ∧
        t.sup.v2.members = v.members) ∧
    (s.hub.supplied = true → s.v1.split = true → s.v1.wd ≤ (s.v1.ln l).miss → inSet s.v1.members l = true ∨ s.v1.members = 0 →
      inSet s.v1.disregarded l = false →
      ∃ t, exec (.voter1Disregard l) s = .next t ∧ inSet t.v1.disregarded l = true ∧ t.v1.members = s.v1.members ∧
        (t.lane l).supplied = (s.lane l).supplied)

/-- R181, R183: a lane takes voter 2's record into its vote port, valid for the frame before its own, and an invalid record leaves VALID
clear; a difference of the voters at two edges is recorded once, and at eight edges the member requests a halt in its next image. -/
def Obligations.StatusRecordsAndVoterDifferences : Prop :=
  ∀ (s : State) (l : LaneId), s.ticking l = true →
    (∀ r : StatusRecord, ∃ t, exec (.statusRecordReceive l r true) s = .next t ∧
      t.lf l VOT_V2FRAME = r.frame % 2 ^ 48 ∧ t.lf l VOT_V2STAT_MEMBERS = r.members % 8 ∧ t.lf l VOT_V2STAT_HALT = b2n r.halt ∧
      t.lf l VOT_V2OUT = r.out % 2 ^ 17 ∧ t.lf l VOT_V2STAT_OUTCOME = r.outcome % 2 ^ 12 ∧
      t.lf l VOT_V2STAT_VALID = b2n (frameAdd r.frame 1 == s.lf l TCK_FRAME) ∧ t.lf l VOT_INT_STAT_STATUS = 1 ∧ LaneOnly l s t) ∧
    (∀ r : StatusRecord, ∃ t, exec (.statusRecordReceive l r false) s = .next t ∧ t.lf l VOT_V2STAT_VALID = 0 ∧
      t.lf l VOT_V2STAT_MEMBERS = s.lf l VOT_V2STAT_MEMBERS ∧ LaneOnly l s t) ∧
    (2 ≤ (s.lane l).rt.vDiff → (s.lane l).rt.vRec = false →
      ∃ t, exec (.voterDifferenceRecord l) s = .next t ∧ (t.lane l).rt = { (s.lane l).rt with vRec := true } ∧ LaneEvt l s t) ∧
    (s.inVote l = true → 8 ≤ (s.lane l).rt.vDiff ∨ 8 ≤ (s.lane l).rt.mDiff →
      ∃ t, exec (.voterDifferenceHalt l) s = .next t ∧ (t.lane l).rt =
          { (s.lane l).rt with haltReq := true, mRec := (s.lane l).rt.mRec || decide (8 ≤ (s.lane l).rt.mDiff) } ∧ LaneEvt l s t ∧
        (∀ off, (t.formImage l off).haltReq = true ∧ (t.formImage l off).out = 0))

/-- R186, R187, R188: a neighbour's state checksum packet with right checks and map identity is kept for the compare, any other is
dropped; a donor sends its next page with its pass and its mark clears; the target stores a page whose checks pass at its place in
the state map and nowhere else, and counts and keeps due one that fails. -/
def Obligations.RealignmentPagesStored : Prop :=
  ∀ (s : State) (l : LaneId), s.ticking l = true →
    (∀ p : LinkPacket, let good := p.crcOk = true ∧ p.nframeOk = true ∧ p.frame = s.frame l ∧ p.dst = l ∧ p.src ≠ l ∧
        p.payload.length = 36 ∧ (parseSum p.payload).smapid = s.smapid l
      (good → p.src = l.prev → ∃ t, exec (.checksumPacketReceive l p) s = .next t ∧
        t.lf l VOT_SUM_PREV = (parseSum p.payload).crc % 2 ^ 32 ∧ (t.lane l).sum = { (s.lane l).sum with prev := some (parseSum p.payload) } ∧
        LaneOnly l s t) ∧
      (good → p.src = l.next → ∃ t, exec (.checksumPacketReceive l p) s = .next t ∧
        t.lf l VOT_SUM_NEXT = (parseSum p.payload).crc % 2 ^ 32 ∧ (t.lane l).sum = { (s.lane l).sum with next := some (parseSum p.payload) } ∧
        LaneOnly l s t) ∧
      (¬ good → exec (.checksumPacketReceive l p) s = .next s)) ∧
    (∀ (d : LaneId) (k pass : Nat), s.lf l VOT_RLN_ROLE = 1 → (s.lane l).sum.target = some d → nextPage (s.lane l).sum = some (k, pass) →
      ∃ t, exec (.realignPageSend l) s = .next t ∧
        t.tx = ⟨.linkPacket, d.idx, 4, linkPacket 4 l d (s.frame l) 0 (pagePayload k (s.smapid l) pass (s.pageBytes l k))⟩ :: s.tx ∧
        t.lf l VOT_RLN_PASS = pass % 4 ∧ (pass ≠ 0 → k ∉ (t.lane l).sum.marked) ∧ (t.lane l).mem = (s.lane l).mem) ∧
    (∀ (p : LinkPacket) (k : Nat) (page : List Byte), 2 ≤ s.lf l VOT_RLN_ROLE → p.dst = l → p.payload.length = 4112 →
      k = leAt p.payload 0 4 → page = p.payload.drop 16 → leAt p.payload 4 4 = s.smapid l → byteAt p.payload 12 ≤ 2 → k < s.smapPages l →
      (p.crcOk = true → p.nframeOk = true → leAt p.payload 8 4 = crc32c page →
        ∃ t, exec (.realignPageReceive l p) s = .next t ∧ t.lmem l (4096 * pageOf (s.smap l) k) 4096 = page ∧
          (∀ a, a < 4096 * pageOf (s.smap l) k ∨ 4096 * pageOf (s.smap l) k + 4096 ≤ a → t.lmem l a 1 = s.lmem l a 1) ∧
          k ∉ (t.lane l).sum.bulk ∧ LaneOnly l s t) ∧
      (p.crcOk = false ∨ p.nframeOk = false ∨ leAt p.payload 8 4 ≠ crc32c page →
        ∃ t, exec (.realignPageReceive l p) s = .next t ∧ (t.lane l).mem = (s.lane l).mem ∧ (t.lane l).sum = (s.lane l).sum ∧
          t.lf l VOT_CNT_PAGE = satAdd 0xFFFF (s.lf l VOT_CNT_PAGE) 1 ∧ LaneOnly l s t))

/-- R188, R189, R190, R192: when both donors' figures allow it, the donors take up the final pass and the target becomes a candidate;
a realignment that has found no final pass in the allowed cycles is abandoned, and the next attempt begins unless the limit of attempts
is used up, in which case the lane stays out. -/
def Obligations.RealignmentEndsOrIsAbandoned : Prop :=
  ∀ (s : State) (x d e : LaneId), s.memberList = [d, e] →
    ((s.lane d).sum.target = some x → (s.lane e).sum.target = some x → s.lf x VOT_RLN_ROLE = 2 → x ≠ d → x ≠ e →
      s.finalReady d e = true →
      ∃ t, exec (.realignFinalPass x) s = .next t ∧ t.lf x VOT_RLN_ROLE = 3 ∧ (t.lane x).rt.cand = true ∧
        (t.lane d).sum.finalPass = (s.lane d).sum.marked ∧ (t.lane e).sum.finalPass = (s.lane e).sum.marked ∧
        t.members = s.members) ∧
    (s.sup.supplied = true → s.lf x VOT_RLN_ROLE = 2 → (s.obj 0x1141 5 : Int) ≤ frameDiff s.sup.frame (s.lane x).sum.bulkStart →
      s.lf d VOT_SCFG_ENTRIES ≠ 0 →
      (s.obj 0x1141 3 ≤ (s.recentAttempts x).length →
        ∃ t, exec (.realignmentAbandon x) s = .next t ∧ (t.lane x).out = true ∧ t.members = s.members) ∧
      ((s.recentAttempts x).length < s.obj 0x1141 3 →
        ∃ t, exec (.realignmentAbandon x) s = .next t ∧ t.lf x VOT_RLN_ROLE = 2 ∧ (t.lane x).sum.bulkStart = s.sup.frame ∧
          (t.lane x).sum.bulk = List.range (s.smapPages d) ∧ (t.lane x).sum.attempts = s.sup.frame :: s.recentAttempts x ∧
          t.members = s.members))

/-- R219: the supervisor keeps each lane's last durable frame; a frame that a second lane reports too becomes Q with the commit flag and
the identity of that commit, and a frame that no other lane has reported leaves Q and the flag, and is remembered. -/
def Obligations.DurableReportsFormQ : Prop :=
  ∀ (s : State) (l : LaneId) (q : Nat) (id : List Byte) (layout : Nat), s.sup.supplied = true →
    ∃ t, exec (.durableReport l q id layout) s = .next t ∧ mapFind t.sup.ka.durable l.idx = some q ∧
      (∀ k, k ≠ l → mapFind t.sup.ka.durable k.idx = mapFind s.sup.ka.durable k.idx) ∧
      ((∃ p ∈ s.sup.ka.reported, p.1 ≠ l.idx ∧ p.2 = q) → s.sup.ka.commitFlag = false ∨ frameGe q s.sup.ka.q = true →
        t.sup.ka.q = q ∧ t.sup.ka.commitFlag = true ∧ t.sup.ka.commitId = padTo 16 id ∧ t.sup.ka.commitLayout = layout) ∧
      ((∀ p ∈ s.sup.ka.reported, p.1 = l.idx ∨ p.2 ≠ q) →
        t.sup.ka.q = s.sup.ka.q ∧ t.sup.ka.commitFlag = s.sup.ka.commitFlag ∧
        (s.sup.ka.commitFlag = false → (l.idx, q) ∈ t.sup.ka.reported)) ∧
      t = { s with sup := { s.sup with ka := t.sup.ka } }

/-- R31, R36, R117, R255, R256, R265: a hub write within the exchange area is performed on the lane unless its bank is sealed, in which
case it is discarded and counted, and outside the area it is discarded, counted and answered with an error; of a store of a core in the
same clock the one that comes last writes its words whole; a hub read returns the area's bytes; an item of an
active cyclic input channel goes into the bank of the coming cycle on every placed lane, behind the place of its tag, and replaces an
earlier one of the same snapshot. -/
def Obligations.CyclicItemsReachTheOpenBank : Prop :=
  ∀ (s : State) (l : LaneId), s.linkUp l = true →
    (∀ (off : Nat) (bs : List Byte), 1 ≤ bs.length → bs.length ≤ 64 →
      (exchangeSize < off + bs.length → ∃ t, exec (.inboundWrite l off bs none) s = .next t ∧ (t.lane l).mem = (s.lane l).mem ∧
        t.lf l BRG_CNT_INB = satAdd (fldTop BRG_CNT_INB) (s.lf l BRG_CNT_INB) 1 ∧ t.lf l BRG_INT_STAT_INB = 1 ∧
        t.tx = ⟨.bridgeError, l.idx, off, [2]⟩ :: s.tx ∧ LaneOnly l { s with tx := t.tx } t) ∧
      (off + bs.length ≤ exchangeSize → s.sealedHit l off bs.length = true →
        ∃ t, exec (.inboundWrite l off bs none) s = .next t ∧ (t.lane l).mem = (s.lane l).mem ∧
          t.lf l XCH_CNT_SEAL = satAdd (fldTop XCH_CNT_SEAL) (s.lf l XCH_CNT_SEAL) (inboundWrites off bs.length) ∧
          t.lf l XCH_INT_STAT_SEAL = 1 ∧ LaneOnly l s t) ∧
      (off + bs.length ≤ exchangeSize → s.sealedHit l off bs.length = false →
        (∃ t, exec (.inboundWrite l off bs none) s = .next t ∧ t.lmem l (exchangeBase + off) bs.length = bs ∧
          (∀ a, a < exchangeBase + off ∨ exchangeBase + off + bs.length ≤ a → t.lmem l a 1 = s.lmem l a 1) ∧
          (t.lane l).regs = (s.lane l).regs ∧ LaneOnly l s t) ∧
        (∀ (a : Nat) (cs : List Byte) (coreLast : Bool), cs.length ≤ 8 → exchangeBase ≤ a → a + cs.length ≤ exchangeBase + exchangeSize →
          ∃ t, exec (.inboundWrite l off bs (some (a, cs, coreLast))) s = .next t ∧
            (coreLast = true → t.lmem l a cs.length = cs) ∧
            (coreLast = false → t.lmem l (exchangeBase + off) bs.length = bs) ∧ LaneOnly l s t))) ∧
    (∀ off n, n ≤ 64 →
      (off + n ≤ exchangeSize →
        exec (.inboundRead l off n) s = .next (s.emit .bridge l.idx off (s.lmem l (exchangeBase + off) n))) ∧
      (exchangeSize < off + n → ∃ t, exec (.inboundRead l off n) s = .next t ∧ t.lf l BRG_INT_STAT_INB = 1 ∧
        t.tx = ⟨.bridgeError, l.idx, off, [2]⟩ :: s.tx ∧ (t.lane l).mem = (s.lane l).mem)) ∧
    (∀ (c : Nat) (raw : List Byte), c < 192 → s.hf (PDE_CFG_MODE c) = 1 → s.pdeState c = 2 → s.hf (PDE_SRC_KIND c) ≠ 1 →
      ∃ t, exec (.pdeItemArrive c raw) s = .next t ∧
        (t.chan c).held = some ⟨s.hf (PDE_SRC_KIND c), s.hf (PDE_SRC_PORT c), raw, crc32c raw⟩ ∧
        t.hf (PDE_CNT_DROP_SUPERSEDED c) =
          (if (s.chan c).held.isSome then satAdd 0xFFFF (s.hf (PDE_CNT_DROP_SUPERSEDED c)) 1 else s.hf (PDE_CNT_DROP_SUPERSEDED c)) ∧
        (∀ off, off = (if (s.hub.frame + 1) % 2 = 0 then s.hf (PDE_BANK0 c) else s.hf (PDE_BANK1 c)) →
          raw.length + 16 ≤ s.hf (PDE_SIZE_SIZE c) → off + 16 + raw.length ≤ exchangeSize →
          s.sealedHit l (off + 16) raw.length = false → placeHas (s.hf (PDE_CFG_PLACE c)) l = true →
          t.lmem l (exchangeBase + off + 16) raw.length = raw ∧
          t.lmem l (exchangeBase + off) 16 = s.lmem l (exchangeBase + off) 16) ∧
        (placeHas (s.hf (PDE_CFG_PLACE c)) l = false → t.lane l = s.lane l))

/-- R259, R260, R261: the engine fetches when the last member has written PDE_VDONE for the running cycle, or at the cut-off; each
active cyclic output channel takes the first copy, of the members in the order A, B, C, that passes the checks. A write for another
cycle is only counted. At a transmit opportunity the item of an Ethernet stream goes out, as a frame on every port of the stream's mask
whose gate lets it start, with an invalid FCS where its CHECK no longer matches; such an item of another sink is dropped and counted. -/
def Obligations.LastMemberStartsTheFetch : Prop :=
  ∀ (s : State), s.hub.supplied = true → s.pde.fetched = false → s.pde.armed = true →
    (∀ (l : LaneId) (v : Nat), v % 65536 ≠ s.hub.frame % 65536 →
      ∃ t, exec (.pdeVdoneWrite l v) s = .next t ∧ t.pde = s.pde ∧
        t.hf PDE_GCNT_VDONE_BAD = satAdd (fldTop PDE_GCNT_VDONE_BAD) (s.hf PDE_GCNT_VDONE_BAD) 1) ∧
    (∀ (l k : LaneId), k ≠ l → inSet (s.hf VOT_V1_STATUS_MEMBERS) k = true → inSet s.pde.vdone k = false →
      ∃ t, exec (.pdeVdoneWrite l s.hub.frame) s = .next t ∧ inSet t.pde.vdone l = true ∧ t.pde.fetched = false ∧
        t = { s with pde := { s.pde with vdone := t.pde.vdone } }) ∧
    (∀ (i : Instr), i = .pdeFetchCutoff ∨ (∃ l, i = .pdeVdoneWrite l s.hub.frame ∧ inSet (s.hf VOT_V1_STATUS_MEMBERS) l = true ∧
        ∀ k, k ≠ l → inSet (s.hf VOT_V1_STATUS_MEMBERS) k = true → inSet s.pde.vdone k = true) →
      ∃ t, exec i s = .next t ∧ t.pde.fetched = true ∧
        ∀ c, c < 192 → s.hf (PDE_CFG_MODE c) = 2 → s.pdeState c = 2 → (s.chan c).onWire = false → s.hf (PDE_SRC_KIND c) ≠ 2 →
          (∀ it, (s.outLanes c).findSome? (s.outCopy c s.hub.frame) = some it → it.payload ≠ [] →
            (t.chan c).out = some it ∧ t.hf (PDE_CNT_ITEM c) = s.hf (PDE_CNT_ITEM c) ∧
            t.hf (PDE_LAST_FRAME c) = s.hub.frame % 2 ^ 32) ∧
          ((s.outLanes c).findSome? (s.outCopy c s.hub.frame) = none → t.chan c = s.chan c ∧
            t.hf (PDE_CNT_ITEM c) = s.hf (PDE_CNT_ITEM c))) ∧
    (∀ c it now, c < 192 → (s.chan c).out = some it → (s.chan c).onWire = false → s.hf (PDE_CFG_MODE c) = 2 →
      (s.hf (PDE_SRC_KIND c) ≠ 1 → ∃ t, exec (.sinkTransmitOpportunity c now false) s = .next t ∧ (t.chan c).out = none ∧
        t.hf (PDE_CNT_ERR_CHECK c) = satAdd (fldTop (PDE_CNT_ERR_CHECK c)) (s.hf (PDE_CNT_ERR_CHECK c)) 1 ∧ t.tx = s.tx) ∧
      (∀ h b q, s.hf (PDE_SRC_KIND c) = 1 → h = s.hf (PDE_SRC_SRC_ID c) → b = (s.buildFrame h it.payload).2 → q = s.queueOf (some h) b →
        let goes := fun (p : Nat) =>
          p < 12 ∧ bitOf (s.obj (0x3200 + h) 5) p = true ∧ s.hf (SW_PSTAT_LINK p) = 1 ∧ s.mayStart p q now b = true
        ((∃ p, goes p) → ∀ ok, ∃ t, exec (.sinkTransmitOpportunity c now ok) s = .next t ∧
          (ok = true → (t.chan c).out = (s.chan c).newer ∧
            t.hf (PDE_CNT_ITEM c) = satAdd 0xFFFFFFFF (s.hf (PDE_CNT_ITEM c)) 1) ∧
          (ok = false → (t.chan c).out = none) ∧
          ∀ p, goes p → ⟨if ok then .ethernet else .badFrame, p, q, b⟩ ∈ t.tx) ∧
        ((∀ p, ¬ goes p) → ∀ ok, exec (.sinkTransmitOpportunity c now ok) s = .next s)))

/-- R266, R273: an item for a queued input channel goes into the buffer of its descriptor with its tag when it fits, and the record of
its completion goes into the queue; an item that does not fit writes nothing to the buffer and completes with status 1 and its size.
The descriptor ends the chain here, and the parts of the exchange area concerned lie apart. -/
def Obligations.QueuedInputItemCompletes : Prop :=
  ∀ (s : State) (c : Nat) (raw : List Byte) (l : LaneId) (cur slot need : Nat) (d : Desc) (q : Nat),
    s.hub.supplied = true → c < 192 → s.hf (PDE_CFG_MODE c) = 3 → s.pdeState c = 2 → s.hf (PDE_SRC_KIND c) ≠ 1 →
    l = placeLane (s.hf (PDE_CFG_PLACE c)) → s.linkUp l = true → (s.lane l).xch.sealed = false →
    cur = s.hf (PDE_CUR c) → d = s.descAt c cur → d.end_ = true → s.hf (PDE_STAT_DB_PEND c) = 0 → (s.chan c).abort = false →
    need = 16 + raw.length → raw.length < 2 ^ 24 - 16 → d.buf + d.len ≤ exchangeSize →
    q = s.hf (PDE_CFG_CQ c) → s.cqOwned l q = true →
    slot = s.hf (PDE_CQ_BASE_BASE q) + 16 * (s.hf (PDE_CQ_HEAD q) % 2 ^ s.hf (PDE_CQ_BASE_M q)) → slot + 16 ≤ exchangeSize →
    (slot + 16 ≤ d.buf ∨ d.buf + d.len ≤ slot) → (cur + 16 ≤ d.buf ∨ d.buf + d.len ≤ cur) → (cur + 16 ≤ slot ∨ slot + 16 ≤ cur) →
    ∃ t, exec (.queuedInputItem c raw) s = .next t ∧ t.hf (PDE_CQ_HEAD q) = (s.hf (PDE_CQ_HEAD q) + 1) % 2 ^ 32 ∧
      t.pdeState c = (if t.cqFull q then 4 else 3) ∧
      t.lmem l (exchangeBase + slot + 4) 12 =
        leBytes 4 need ++ leBytes 4 cur ++ leBytes 2 ((s.hub.frame + 1) % 65536) ++ leBytes 2 d.cookie ∧
      (∀ st, st = (if need ≤ d.len then 0 else 1) →
        t.lmem l (exchangeBase + slot) 4 =
          leBytes 4 ((1 - s.hf (PDE_CQ_HEAD q) / 2 ^ s.hf (PDE_CQ_BASE_M q) % 2) * 2 ^ 31 + st * 2 ^ 24 + c)) ∧
      (need ≤ d.len →
        t.lmem l (exchangeBase + d.buf) need =
          tagBytes (crc32c raw) (s.hf (PDE_SRC_KIND c)) raw.length (s.hf (PDE_SRC_PORT c)) ((s.hub.frame + 1) % 65536) ++ raw ∧
        t.hf (PDE_CNT_ITEM c) = satAdd 0xFFFFFFFF (s.hf (PDE_CNT_ITEM c)) 1) ∧
      (d.len < need → t.lmem l (exchangeBase + d.buf) d.len = s.lmem l (exchangeBase + d.buf) d.len ∧
        t.hf (PDE_CNT_ITEM c) = s.hf (PDE_CNT_ITEM c) ∧
        t.hf (PDE_CNT_DROP_DROPPED c) = satAdd 0xFFFF (s.hf (PDE_CNT_DROP_DROPPED c)) 1)

/-- R270: an item of a circular channel that fits is written as a record, tag and payload padded to 8 bytes, at WR and across the end
of the ring, and WR goes on by it; one that does not fit is dropped with the ring as it was. A write of PDE_RD is taken unless it would
pass WR. -/
def Obligations.CircularRecordsFollowWr : Prop :=
  ∀ (s : State) (c : Nat) (l : LaneId) (base size wr : Nat),
    s.hub.supplied = true → c < 192 → s.hf (PDE_CFG_MODE c) = 5 → l = placeLane (s.hf (PDE_CFG_PLACE c)) →
    base = s.hf (PDE_BANK0 c) → size = 2 ^ (s.hf (PDE_SIZE_SIZE c) % 32) → wr = s.hf (PDE_WR c) →
    (∀ (raw rec : List Byte), s.linkUp l = true → (s.lane l).xch.sealed = false → base + size ≤ exchangeSize →
      s.pdeState c = 2 → s.hf (PDE_SRC_KIND c) ≠ 1 →
      rec = tagBytes (crc32c raw) (s.hf (PDE_SRC_KIND c)) raw.length (s.hf (PDE_SRC_PORT c)) ((s.hub.frame + 1) % 65536) ++
        raw ++ List.replicate ((raw.length + 7) / 8 * 8 - raw.length) 0 →
      ((wr + 2 ^ 32 - s.hf (PDE_RD c)) % 2 ^ 32 + rec.length ≤ size →
        ∃ t, exec (.circularInputItem c raw) s = .next t ∧ t.hf (PDE_WR c) = (wr + rec.length) % 2 ^ 32 ∧ t.hf (PDE_RD c) = s.hf (PDE_RD c) ∧
          (∀ i (b : Byte), rec[i]? = some b → t.lmem l (exchangeBase + base + (wr + i) % size) 1 = [b]) ∧
          (∀ a, a < exchangeBase + base ∨ exchangeBase + base + size ≤ a → t.lmem l a 1 = s.lmem l a 1) ∧
          t.hf (PDE_CNT_ITEM c) = satAdd 0xFFFFFFFF (s.hf (PDE_CNT_ITEM c)) 1) ∧
      (size < (wr + 2 ^ 32 - s.hf (PDE_RD c)) % 2 ^ 32 + rec.length →
        ∃ t, exec (.circularInputItem c raw) s = .next t ∧ (t.lane l).mem = (s.lane l).mem ∧ t.hf (PDE_WR c) = wr ∧
          t.hf (PDE_CNT_DROP_DROPPED c) = satAdd 0xFFFF (s.hf (PDE_CNT_DROP_DROPPED c)) 1)) ∧
    (∀ core pc v, v < 2 ^ 32 → placeHas (s.hf (PDE_CFG_PLACE c)) l = true →
      ((wr + 2 ^ 32 - v) % 2 ^ 32 ≤ size → ∃ t, exec (.pdeRdWrite l core pc c v) s = .next t ∧ t.hf (PDE_RD c) = v ∧ t.hf (PDE_WR c) = wr) ∧
      (size < (wr + 2 ^ 32 - v) % 2 ^ 32 → exec (.pdeRdWrite l core pc c v) s = .next s))

/-- R264, R267, R275: GO reads the first descriptor after a commit, and the channel is active with it when its generation is the one
expected and parked when not; a doorbell makes a parked channel read its link again and is noted by an active one; ABORT stops a
channel with nothing on the wire; the sink's report completes the descriptor of an output. -/
def Obligations.ChainsStartParkAndStop : Prop :=
  ∀ (s : State) (c core pc : Nat) (l : LaneId), s.hub.supplied = true → c < 192 → l = placeLane (s.hf (PDE_CFG_PLACE c)) →
    1 ≤ s.hf (PDE_CFG_PLACE c) → s.cqFull (s.hf (PDE_CFG_CQ c)) = false →
    (s.hf (PDE_CFG_MODE c) = 3 → s.pdeState c = 1 → (s.chan c).fresh = true → (s.chan c).doneCur = false →
      s.hf (PDE_STAT_DB_PEND c) = 0 →
      (∀ d, d = s.descAt c (s.hf (PDE_BANK0 c)) → d.gen = s.hf (PDE_SIZE_FIRST_GEN c) → 16 ≤ d.len → d.buf + d.len ≤ exchangeSize →
        ∃ t, exec (.pdeGo l core pc c) s = .next t ∧ t.pdeState c = 2 ∧ t.hf (PDE_CUR c) = s.hf (PDE_BANK0 c) ∧
          t.hf (PDE_STAT_ERR c) = 0 ∧ ∀ k, (t.lane k).mem = (s.lane k).mem) ∧
      ((s.descAt c (s.hf (PDE_BANK0 c))).gen ≠ s.hf (PDE_SIZE_FIRST_GEN c) →
        ∃ t, exec (.pdeGo l core pc c) s = .next t ∧ t.pdeState c = 3 ∧ t.hf (PDE_CUR c) = s.hf (PDE_BANK0 c))) ∧
    (s.hf (PDE_CFG_MODE c) = 5 → s.pdeState c = 1 →
      ∃ t, exec (.pdeGo l core pc c) s = .next t ∧ t.pdeState c = 2 ∧ t.hf (PDE_WR c) = s.hf (PDE_WR c)) ∧
    (s.hf (PDE_CFG_MODE c) = 3 ∨ s.hf (PDE_CFG_MODE c) = 4 →
      (s.pdeState c = 2 ∨ s.pdeState c = 4 → ∃ t, exec (.pdeDoorbell l core pc c) s = .next t ∧ t.hf (PDE_STAT_DB_PEND c) = 1 ∧
        t.pdeState c = s.pdeState c) ∧
      (s.pdeState c = 3 → (s.descAt c (s.hf (PDE_CUR c))).end_ = true → ∃ t, exec (.pdeDoorbell l core pc c) s = .next t ∧
        t.pdeState c = 3 ∧ t.hf (PDE_STAT_DB_PEND c) = 0 ∧ t.hf (PDE_CUR c) = s.hf (PDE_CUR c)) ∧
      (∀ d e, s.hf (PDE_CFG_MODE c) = 3 → s.pdeState c = 3 → d = s.descAt c (s.hf (PDE_CUR c)) → d.end_ = false →
        d.next ≠ s.hf (PDE_CUR c) → d.next % 16 = 0 → e = s.descAt c d.next → e.gen = d.ngen → 16 ≤ e.len → e.buf + e.len ≤ exchangeSize →
        ∃ t, exec (.pdeDoorbell l core pc c) s = .next t ∧ t.pdeState c = 2 ∧ t.hf (PDE_CUR c) = d.next ∧ t.hf (PDE_STAT_EGEN c) = d.ngen) ∧
      ((s.chan c).out = none → s.pdeState c = 2 ∨ s.pdeState c = 3 ∨ s.pdeState c = 4 →
        ∃ t, exec (.pdeAbort l core pc c) s = .next t ∧ t.pdeState c = 5 ∧ t.hf (PDE_RESID c) = 0 ∧
          ((s.chan c).doneCur = false → t.hf (PDE_CUR c) = s.hf (PDE_CUR c)) ∧
          ∀ k, (t.lane k).mem = (s.lane k).mem)) ∧
    (∀ it st q slot cur, s.hf (PDE_CFG_MODE c) = 4 → (s.chan c).out = some it → s.linkUp l = true →
      (s.lane l).xch.sealed = false → (st = 0 ∨ st = 7 ∨ st = 8) → q = s.hf (PDE_CFG_CQ c) → s.cqOwned l q = true → s.pdeState c ≠ 0 → cur = s.hf (PDE_CUR c) →
      slot = s.hf (PDE_CQ_BASE_BASE q) + 16 * (s.hf (PDE_CQ_HEAD q) % 2 ^ s.hf (PDE_CQ_BASE_M q)) → slot + 16 ≤ exchangeSize →
      ((s.chan c).abort = true ∨
        ((s.chan c).abort = false ∧ s.pdeState c = 2 ∧ (s.descAt c cur).end_ = true ∧ s.hf (PDE_STAT_DB_PEND c) = 0 ∧
          (cur + 16 ≤ slot ∨ slot + 16 ≤ cur))) →
      ∃ t, exec (.queuedOutputComplete c st) s = .next t ∧ (t.chan c).out = none ∧
        t.pdeState c = (if (s.chan c).abort then 5 else if t.cqFull q then 4 else 3) ∧
        t.hf (PDE_CQ_HEAD q) = (s.hf (PDE_CQ_HEAD q) + 1) % 2 ^ 32 ∧
        t.lmem l (exchangeBase + slot) 4 =
          leBytes 4 ((1 - s.hf (PDE_CQ_HEAD q) / 2 ^ s.hf (PDE_CQ_BASE_M q) % 2) * 2 ^ 31 + st * 2 ^ 24 + c))

/-- R253, R272, R276, R277: a lane claims a free completion queue by a valid base, releases it while no armed channel names it, and takes
records off it up to HEAD; a write to another lane's queue, or to the block of a channel placed elsewhere, is not performed and raises a
store access fault on the writing core; a lane's ARM commits its shadow set of a single-lane channel at the sample when the set is valid and fails
with an error code when not; an ARM unmatched for 16 edges clears with an error. -/
def Obligations.QueuesClaimedAndChannelsArmed : Prop :=
  ∀ (s : State) (l : LaneId) (core pc : Nat), s.hub.supplied = true →
    (∀ q m base, q < 32 → s.cqNamed q = false →
      (s.hf (PDE_CQ_BASE_OWNER q) = 0 ∨ s.hf (PDE_CQ_BASE_OWNER q) = l.idx + 1) → 4 ≤ m → m ≤ 12 → base < 2 ^ 21 → base % (16 * 2 ^ m) = 0 →
      ∃ t, exec (.pdeCqClaim l core pc q (m * 2 ^ 21 + base)) s = .next t ∧ t.hf (PDE_CQ_BASE_OWNER q) = l.idx + 1 ∧ t.hf (PDE_CQ_BASE_M q) = m ∧
        t.hf (PDE_CQ_BASE_BASE q) = base ∧ t.hf (PDE_CQ_HEAD q) = 0 ∧ t.hf (PDE_CQ_TAIL q) = 0) ∧
    (∀ q v, q < 32 → s.hf (PDE_CQ_BASE_OWNER q) ≠ 0 → s.hf (PDE_CQ_BASE_OWNER q) ≠ l.idx + 1 →
      exec (.pdeCqClaim l core pc q v) s = .next (s.windowFault l core pc (PDE_CQ_BASE q).reg) ∧
      exec (.pdeCqRelease l core pc q) s = .next (s.windowFault l core pc (PDE_CQ_BASE q).reg) ∧
      exec (.pdeCqTailWrite l core pc q v) s = .next (s.windowFault l core pc (PDE_CQ_TAIL q).reg)) ∧
    (∀ c v, c < 192 → s.pdeMay l c = false →
      exec (.pdeGo l core pc c) s = .next (s.windowFault l core pc (PDE_CTL_GO c).reg) ∧
      exec (.pdeRdWrite l core pc c v) s = .next (s.windowFault l core pc (PDE_RD c).reg) ∧
      exec (.pdeArmWrite l core pc c) s = .next (s.windowFault l core pc (PDE_ARM c).reg)) ∧
    (∀ addr, (((s.windowFault l core pc addr).core l core).trap = some ⟨7, pc, some addr⟩) ∧
      (s.windowFault l core pc addr).lf l BRG_FAULT_INFO_CODE = 2 ∧ LaneOnly l s (s.windowFault l core pc addr)) ∧
    (∀ q, q < 32 → s.hf (PDE_CQ_BASE_OWNER q) = l.idx + 1 →
      (s.cqNamed q = false → ∃ t, exec (.pdeCqRelease l core pc q) s = .next t ∧ t.hf (PDE_CQ_BASE_OWNER q) = 0) ∧
      (s.cqNamed q = true → exec (.pdeCqRelease l core pc q) s = .next s) ∧
      (∀ v, v < 2 ^ 32 →
        ((s.hf (PDE_CQ_HEAD q) + 2 ^ 32 - v) % 2 ^ 32 ≤ 2 ^ s.hf (PDE_CQ_BASE_M q) →
          ∃ t, exec (.pdeCqTailWrite l core pc q v) s = .next t ∧ t.hf (PDE_CQ_TAIL q) = v ∧
            ((∀ c, c < 192 → s.pdeState c ≠ 4) → t.hf (PDE_CQ_HEAD q) = s.hf (PDE_CQ_HEAD q))) ∧
        (2 ^ s.hf (PDE_CQ_BASE_M q) < (s.hf (PDE_CQ_HEAD q) + 2 ^ 32 - v) % 2 ^ 32 →
          exec (.pdeCqTailWrite l core pc q v) s = .next s))) ∧
    (∀ c, s.pdeMay l c = true → ∃ t, exec (.pdeArmWrite l core pc c) s = .next t ∧ t.lf l (PDE_ARM c) = 1 ∧ LaneOnly l s t) ∧
    (∀ c, c < 192 → (∀ k, s.lf k (PDE_ARM c) = if k = l then 1 else 0) →
      (∀ k d, d < 192 → d ≠ c → s.lf k (PDE_ARM d) = 0) → s.pdePlace l c = l.idx + 1 →
      ∃ t, exec .pdeArmSample s = .next t ∧
        (s.shadowError c (s.shadowSet l c) = 0 → (t.chan c).next = some (s.shadowSet l c) ∧ t.lf l (PDE_ARM c) = 1) ∧
        (s.shadowError c (s.shadowSet l c) ≠ 0 → (t.chan c).next = (s.chan c).next ∧ t.lf l (PDE_ARM c) = 0 ∧
          t.hf (PDE_STAT_ARM_ERR c) = 1 ∧ t.hf (PDE_STAT_ERR c) = s.shadowError c (s.shadowSet l c))) ∧
    (∀ c, c < 192 → 16 ≤ (s.chan c).armWait → (∀ k, s.pdePlace k c = 0) → s.lf l (PDE_ARM c) = 1 →
      (∃ k, s.linkUp k = true ∧ s.lf k (PDE_ARM c) = 0) →
      ∃ t, exec (.pdeArmUnmatched c) s = .next t ∧ (∀ k, t.lf k (PDE_ARM c) = 0) ∧ t.hf (PDE_STAT_ARM_ERR c) = 1 ∧
        (t.hf (PDE_STAT_ERR c) = 5 ∨ t.hf (PDE_STAT_ERR c) = 6) ∧ (t.chan c).armWait = 0)

/-- R303, R316, R319: a link that comes up shows its speed and starts a windowed port in LISTEN, and one that goes down clears them;
at the end of its hold a quarantined port goes to LISTEN, or to HELD at the limit of rejoins; an authorised host releases the held
ports of its mask.
R314, R315: a switch of banks that is due at the start of a matrix cycle puts the other bank in force; an authorised host claims a
spare window when the claim is in order, a refused claim is only recorded, and a release frees a claimed window. -/
def Obligations.PortsAndTrellis : Prop :=
  (∀ (s : State) (p : Nat), s.hub.supplied = true → p < 12 →
     (∀ speed, bitOf (s.obj 0x3030 5) p = true → s.speedOk p speed = true →
       ∃ t, exec (.portLinkUp p speed) s = .next t ∧ t.hf (SW_PSTAT_LINK p) = 1 ∧ t.hf (SW_PSTAT_SPEED p) = speed ∧
         t.portState p = (if windowed p then (if s.portState p = 3 then 3 else 0) else 1)) ∧
     (s.hf (SW_PSTAT_LINK p) = 1 →
       ∃ t, exec (.portLinkDown p) s = .next t ∧ t.hf (SW_PSTAT_LINK p) = 0 ∧ t.hf (SW_PSTAT_SPEED p) = 0 ∧
         t.portState p = (if windowed p = true ∧ s.portState p ≠ 3 then 0 else s.portState p)) ∧
     (windowed p = true → s.portState p = 2 → (s.port p).quarAt + 1 + s.hf TRL_QCFG_HOLD ≤ s.net.matrix →
       ((s.recentRejoins p).length < s.hf TRL_QCFG_REJOIN_LIM →
         ∃ t, exec (.quarantineHoldEnd p) s = .next t ∧ t.portState p = 0 ∧ (t.port p).after = true) ∧
       (s.hf TRL_QCFG_REJOIN_LIM ≤ (s.recentRejoins p).length →
         ∃ t, exec (.quarantineHoldEnd p) s = .next t ∧ t.portState p = 3 ∧ t.hf SW_INT_STAT_HELD = 1)) ∧
     (∀ src mask, (1 ≤ s.sourceLevel src → ∃ t, exec (.portReleaseHeld src mask) s = .next t ∧
         t.portState p = (if bitOf mask p = true ∧ s.portState p = 3 then 0 else s.portState p)) ∧
       (s.sourceLevel src = 0 → exec (.portReleaseHeld src mask) s = .next s))) ∧
  (∀ (s : State), s.hub.supplied = true →
     (s.net.started = true → s.hub.frame % s.basics = 0 → s.switchDue s.hub.frame = true →
       ∃ t, exec .trellisBankSwitch s = .next t ∧ t.hf TRL_STATUS_BANK = 1 - s.hf TRL_STATUS_BANK ∧ t.hf TRL_STATUS_PEND = 0 ∧
         t.net.switchAt = none ∧ t.hf TRL_CNT_SWAPS = satAdd 0xFFFF (s.hf TRL_CNT_SWAPS) 1) ∧
     (s.net.started = false ∨ s.hub.frame % s.basics ≠ 0 ∨ s.switchDue s.hub.frame = false → exec .trellisBankSwitch s = .next s) ∧
     (∀ src v k, 1 ≤ s.sourceLevel src → k = 32 * bitsOf v 29 24 + bitsOf v 20 16 →
       (s.claimOk (bitsOf v 29 24) (bitsOf v 20 16) (bitsOf v 8 0) = true →
         ∃ t, exec (.windowClaim src v) s = .next t ∧ t.net.claims = k :: s.net.claims ∧
           t.hf TRL_CNT_CLAIMS = satAdd 0xFFFF (s.hf TRL_CNT_CLAIMS) 1) ∧
       (s.claimOk (bitsOf v 29 24) (bitsOf v 20 16) (bitsOf v 8 0) = false →
         ∃ t, exec (.windowClaim src v) s = .next t ∧ EventOnly s t) ∧
       (k ∈ s.net.claims → ∃ t, exec (.windowRelease src v) s = .next t ∧ k ∉ t.net.claims ∧
         ∀ j, j ≠ k → (j ∈ t.net.claims ↔ j ∈ s.net.claims)) ∧
       (k ∉ s.net.claims → exec (.windowRelease src v) s = .next s)) ∧
     (∀ src v, s.sourceLevel src = 0 → exec (.windowClaim src v) s = .next s ∧ exec (.windowRelease src v) s = .next s))

/-- R304, R312, R313, R317, R321: a frame of a stream or for the module itself counts as received and goes on, any other is dropped as
unmatched, a bad one counts as a violation; no check is made on a windowed port before the first marker or in quarantine. A frame
leaves from the highest queue that may start. -/
def Obligations.FramesReceivedAndSent : Prop :=
  ∀ (s : State) (p : Nat), s.hub.supplied = true → p < 12 → s.hf (SW_PSTAT_LINK p) = 1 →
    (∀ f : EthFrame, f.bytes.take 6 ≠ ptpAddress → windowed p = false →
      (f.fcsOk = true → 64 ≤ f.bytes.length + 4 → f.bytes.length + 4 ≤ 1536 →
        ((s.streamOf p f.bytes).isSome ∨ s.ownAddress (f.bytes.take 6) = true ∨ f.bytes.take 6 = broadcast →
          ∃ t, exec (.frameReceive p f) s = .next t ∧ t.hf (SW_PCNT_RX p) = satAdd 0xFFFFFFFF (s.hf (SW_PCNT_RX p)) 1) ∧
        (s.streamOf p f.bytes = none → s.ownAddress (f.bytes.take 6) = false → f.bytes.take 6 ≠ broadcast →
          exec (.frameReceive p f) s = .next (s.hcount (SW_PCNT_DROP_UNMATCHED p) 1))) ∧
      (f.fcsOk = false → exec (.frameReceive p f) s = .next (s.hcount (TRL_PVIOL_FCS p) 1))) ∧
    (∀ f : EthFrame, f.bytes.take 6 ≠ ptpAddress → windowed p = true →
      (s.net.started = false → exec (.frameReceive p f) s = .next (s.hcount (SW_PCNT_DROP_UNMATCHED p) 1)) ∧
      (s.net.started = true → s.trellis ≠ [] → 2 ≤ s.portState p → exec (.frameReceive p f) s = .next s) ∧
      (∀ h near ofs w, s.net.started = true → s.trellis ≠ [] → s.portState p = 1 → s.streamOf p f.bytes = some h → s.isHarvest p f.bytes = false →
        s.verdictOf p (some h) false f = (.inr (near, ofs), w) →
        ∃ t, exec (.frameReceive p f) s = .next t ∧ (t.port p).ok = true ∧
          t.hf (SW_PCNT_RX p) = satAdd 0xFFFFFFFF (s.hf (SW_PCNT_RX p)) 1) ∧
      (∀ h k w, s.net.started = true → s.trellis ≠ [] → s.portState p ≤ 1 → s.streamOf p f.bytes = h →
        s.verdictOf p h (s.isHarvest p f.bytes) f = (.inl k, w) →
        ∃ t, exec (.frameReceive p f) s = .next t ∧ (t.port p).viol = true ∧ t.tx = s.tx ∧
          t.hf (violField p k) = satAdd 0xFF (s.hf (violField p k)) 1)) ∧
    (∀ now q f fs, q < 8 → mapGet [] (s.port p).queues q = f :: fs → s.mayStart p q now f.2 = true →
      (∀ k g gs, q < k → k < 8 → mapGet [] (s.port p).queues k = g :: gs → s.mayStart p k now g.2 = false) →
      ∃ t b, exec (.frameEgress p now) s = .next t ∧ mapGet [] (t.port p).queues q = fs ∧ t.tx = ⟨.ethernet, p, q, b⟩ :: s.tx ∧
        t.hf (SW_PCNT_TX p) = satAdd 0xFFFFFFFF (s.hf (SW_PCNT_TX p)) 1) ∧
    (∀ now, (∀ q g gs, q < 8 → mapGet [] (s.port p).queues q = g :: gs → s.mayStart p q now g.2 = false) →
      exec (.frameEgress p now) s = .next s)

/-- R325, R326, R329, R331: a pass is sent once on port 7 in normal mode and on both ring ports in split mode; a frame that returns
closes its pass and splits a normal ring when it was looped back; a lost one is counted and splits a normal ring; a split ring closes
after 8 healed passes; a station missing three times in a row is reported once. -/
def Obligations.HarvestRingPasses : Prop :=
  ∀ (s : State), s.hub.supplied = true → s.ringOn = true →
    (∀ pass, pass < s.hf HRV_CFG_PASSES → s.net.started = true →
      (s.hf HRV_STATUS_MODE = 1 → ∃ t b, exec (.harvestPassSend pass) s = .next t ∧ t.tx.head? = some ⟨.harvest, 7, pass, b⟩ ∧
        b.take 6 = [0x03, 0x00, 0x00, 0x48, 0x52, 0x56] ∧ t.net.hrvOutstanding = s.net.hrvOutstanding ++ [⟨pass, 0⟩] ∧
        t.hf HRV_STATUS_MODE = 1) ∧
      (s.hf HRV_STATUS_MODE = 2 → ∃ t b d, exec (.harvestPassSend pass) s = .next t ∧
        t.tx.take 2 = [⟨.harvest, 8, pass, d⟩, ⟨.harvest, 7, pass, b⟩] ∧
        t.net.hrvOutstanding = s.net.hrvOutstanding ++ [⟨pass, 0⟩, ⟨pass, 1⟩] ∧ t.hf HRV_STATUS_MODE = 2)) ∧
    (∀ port b dir pass, dir = b2n (bitOf (byteAt b 1) 7) → pass = byteAt b 3 → ⟨pass, dir⟩ ∈ s.net.hrvOutstanding → byteAt b 0 = 1 →
      s.hf HRV_STATUS_MODE = 1 →
      ∃ t, exec (.harvestFrameReturn port b true false) s = .next t ∧
        t.net.hrvOutstanding = s.net.hrvOutstanding.filter (fun o => !(o.pass == pass && o.dir == dir)) ∧
        t.hf HRV_STATUS_MODE = (if bitOf (byteAt b 1) 6 then 2 else 1) ∧
        t.hf (if dir = 0 then HRV_STATUS_LOOP0 else HRV_STATUS_LOOP1) = byteAt b 12 % 32) ∧
    (∀ pass dir, ⟨pass, dir⟩ ∈ s.net.hrvOutstanding → ∃ t, exec (.harvestPassLost pass dir) s = .next t ∧
      ⟨pass, dir⟩ ∉ t.net.hrvOutstanding ∧ t.hf HRV_CNT_LOST = satAdd 0xFFFF (s.hf HRV_CNT_LOST) 1 ∧
      (s.hf HRV_STATUS_MODE = 1 → t.hf HRV_STATUS_MODE = 2) ∧ t.net.healed = 0) ∧
    (s.hf HRV_STATUS_MODE = 2 → 8 ≤ s.net.healed → ∃ t, exec .harvestRingNormal s = .next t ∧ t.hf HRV_STATUS_MODE = 1 ∧
      t.net.healed = 0 ∧ t.hf SW_INT_STAT_HRV_CLOSE = 1) ∧
    (s.hf HRV_STATUS_MODE = 2 → s.net.healed < 8 → exec .harvestRingNormal s = .next s) ∧
    (∀ k, 1 ≤ k → k ≤ s.hf HRV_CFG_N → (mapGet 0 s.net.missing k = 3 → ∃ t, exec (.harvestStationMissing k) s = .next t ∧
        mapGet 0 t.net.missing k = 4 ∧ ∀ j, j ≠ k → mapGet 0 t.net.missing j = mapGet 0 s.net.missing j) ∧
      (mapGet 0 s.net.missing k ≠ 3 → exec (.harvestStationMissing k) s = .next s))

/-- R339, R340, R342, R355: a data frame goes to the first enabled filter that matches it, and its record to the channel bound to that
mailbox; one of another length than the filter expects is dropped and counted, and so is one that no filter takes; a reference message
sets the cycle count. An FD frame on a channel without FDE is no frame (R336, log entry 72). -/
def Obligations.CanFramesReachTheirMailbox : Prop :=
  ∀ (s : State) (ch : Nat) (f : CanFrame), s.canOn ch = true →
    (f.fdf = true → s.hf (CAN_CFG_FDE ch) = 0 →
      exec (.canFrameReceive ch f) s = .next (s.hcount (CAN_CNT_ERR2_PEX ch) 1)) ∧
    (f.fdf = false ∨ s.hf (CAN_CFG_FDE ch) ≠ 0 →
    (f.remote = true → ∃ t, exec (.canFrameReceive ch f) s = .next t ∧ t.pde = s.pde ∧
      t.hf (CAN_CNT_DROP_UNMATCHED ch) = satAdd 0xFFFF (s.hf (CAN_CNT_DROP_UNMATCHED ch)) 1) ∧
    (f.remote = false → s.isRef ch f = false → s.isService ch f = false → (∀ m, m < 64 → s.filterTakes ch m f = false) →
      ∃ t, exec (.canFrameReceive ch f) s = .next t ∧ t.pde = s.pde ∧
        t.hf (CAN_CNT_DROP_UNMATCHED ch) = satAdd 0xFFFF (s.hf (CAN_CNT_DROP_UNMATCHED ch)) 1) ∧
    (∀ m c, f.remote = false → s.isRef ch f = false → m < 64 → (∀ k, k < m → s.filterTakes ch k f = false) → s.filterTakes ch m f = true →
      s.canOf ch m = some c →
      (s.hf (CAN_FLT2_EXP_LEN ch m) = 127 ∨ s.hf (CAN_FLT2_EXP_LEN ch m) = f.data.length →
        ∃ t, exec (.canFrameReceive ch f) s = .next t ∧ t.hf (CAN_CNT_RX ch) = satAdd 0xFFFFFFFF (s.hf (CAN_CNT_RX ch)) 1 ∧
          m ∈ (t.canCh ch).seen ∧
          (s.hf (PDE_CFG_MODE c) = 1 → s.pdeState c = 2 → s.canTt ch = false →
            ∃ r, (t.chan c).held = some ⟨2, ch, r, crc32c r⟩ ∧ r = canRecord f m false false 0)) ∧
      (s.hf (CAN_FLT2_EXP_LEN ch m) ≠ 127 → s.hf (CAN_FLT2_EXP_LEN ch m) ≠ f.data.length →
        ∃ t, exec (.canFrameReceive ch f) s = .next t ∧ t.pde = s.pde ∧ t.hf (CAN_CNT_RX ch) = s.hf (CAN_CNT_RX ch) ∧
          t.hf (CAN_FLT3_LENERR ch m) = satAdd 0xFFFF (s.hf (CAN_FLT3_LENERR ch m)) 1)) ∧
    (f.remote = false → s.isRef ch f = true → f.id ≠ s.ownRef ch →
      ∃ t, exec (.canFrameReceive ch f) s = .next t ∧ t.hf (CAN_TT_STAT_CYCLE ch) = byteAt f.data 0 % 64 ∧
        t.hf (CAN_TT_STAT_ROLE ch) = (if s.canPtm ch then 2 else 1)))

/-- R345, R346, R347: a transmission starts with the offered item that wins arbitration; losing arbitration keeps the item, completing
sends it and lets a newer one follow, an error keeps it for a retry up to the limit; a lane's cancel removes a waiting item of its own
channel and marks one on the wire. -/
def Obligations.CanItemsSentFromMailboxes : Prop :=
  ∀ (s : State) (ch : Nat),
    (∀ k m c, s.canMaySend ch = true → bestOffer (s.offers ch) = some (k, m, c) →
      (∃ t, exec (.canTransmitStart ch) s = .next t ∧ (t.chan c).onWire = true ∧ (t.chan c).out = (s.chan c).out ∧
        ∀ d, d ≠ c → t.chan d = s.chan d) ∧
      (k, m, c) ∈ s.offers ch ∧ ∀ o ∈ s.offers ch, k < o.1 ∨ (k = o.1 ∧ m ≤ o.2.1)) ∧
    (∀ c it, s.canOn ch = true → (s.canCh ch).refWire = false → s.wireChan ch = some c → (s.chan c).out = some it →
      s.hf (PDE_CFG_MODE c) = 2 →
      ((s.chan c).cancel = false → (s.chan c).abort = false → (s.chan c).newer = none →
        exec (.canArbitrationLost ch) s = .next (s.chanUpd c (fun x => { x with onWire := false })) ∧
        (∀ e, s.hf (CAN_TXCFG_RETRY_LIM ch (s.mailbox c - 64)) = 15 ∨ (s.chan c).retries + 1 ≤ s.hf (CAN_TXCFG_RETRY_LIM ch (s.mailbox c - 64)) →
          ∃ t, exec (.canTransmitError ch e) s = .next t ∧ (t.chan c).out = some it ∧ (t.chan c).onWire = false ∧
            (t.chan c).retries = (s.chan c).retries + 1 ∧ t.hf (CAN_STAT_TEC ch) = min 256 (s.hf (CAN_STAT_TEC ch) + 8)) ∧
        (∀ e, s.hf (CAN_TXCFG_RETRY_LIM ch (s.mailbox c - 64)) ≠ 15 → s.hf (CAN_TXCFG_RETRY_LIM ch (s.mailbox c - 64)) < (s.chan c).retries + 1 →
          ∃ t, exec (.canTransmitError ch e) s = .next t ∧ (t.chan c).out = none ∧ (t.chan c).onWire = false ∧
            t.hf (CAN_CNT_ERR2_RETRYDROP ch) = satAdd 0xFF (s.hf (CAN_CNT_ERR2_RETRYDROP ch)) 1)) ∧
      (∃ t, exec (.canTransmitComplete ch) s = .next t ∧ (t.chan c).out = (s.chan c).newer ∧ (t.chan c).onWire = false ∧
        t.tx = ⟨.can, ch, s.mailbox c, it.payload⟩ :: s.tx ∧ t.hf (CAN_CNT_TX ch) = satAdd 0xFFFFFFFF (s.hf (CAN_CNT_TX ch)) 1 ∧
        t.hf (CAN_STAT_TEC ch) = s.hf (CAN_STAT_TEC ch) - 1)) ∧
    (∀ (l : LaneId) v i c it, s.hub.supplied = true → ch < 8 → i < 32 → bitOf v i = true → s.canOf ch (64 + i) = some c →
      s.hf (PDE_CFG_MODE c) = 2 → (s.chan c).out = some it →
      (s.hf (PDE_CFG_PLACE c) ≠ l.idx + 1 → ∃ t, exec (.canTxcancelWrite l ch v) s = .next t ∧ t.chan c = s.chan c) ∧
      (s.hf (PDE_CFG_PLACE c) = l.idx + 1 → (s.chan c).onWire = true →
        ∃ t, exec (.canTxcancelWrite l ch v) s = .next t ∧ (t.chan c).cancel = true ∧ (t.chan c).out = some it ∧
          bitOf (t.hf (CAN_TXCANCEL ch)) i = true) ∧
      (s.hf (PDE_CFG_PLACE c) = l.idx + 1 → (s.chan c).onWire = false →
        ∃ t, exec (.canTxcancelWrite l ch v) s = .next t ∧ (t.chan c).out = (s.chan c).newer ∧
          bitOf (t.hf (CAN_TXCANCEL ch)) i = false ∧
          t.hf (PDE_CNT_DROP_DROPPED c) = satAdd 0xFFFF (s.hf (PDE_CNT_DROP_DROPPED c)) 1))

/-- R349, R350, R351: a bus-off waits its hold-off, or blocks the channel beyond the limit of bus-offs, and keeps the waiting items;
recovery starts at the end of the hold-off or by an authorised release of a blocked channel and ends with the error counters at 0;
restricted operation ends after 8 good frames or 100 ms.
R352, R354: a trigger of the running basic cycle sets local time to its mark; an exclusive one starts its mailbox's item on a free
bus, a merged one opens its mailbox's window, and a receive trigger lowers or raises its mailbox's status count. -/
def Obligations.CanRecoveryAndTriggers : Prop :=
  (∀ (s : State) (ch k : Nat), s.hub.supplied = true → ch < 8 → k = (s.recentBoffs ch).length + 1 →
     (s.canOn ch = true → 256 ≤ s.hf (CAN_STAT_TEC ch) →
       ∃ t, exec (.canBusOff ch) s = .next t ∧
         t.canState ch = (if s.hf (CAN_BOFF_BOFF_LIM ch) ≠ 0 ∧ s.hf (CAN_BOFF_BOFF_LIM ch) < k then 6 else 4) ∧
         t.hf (CAN_BOFF_STAT_K ch) = min 255 k ∧
         (¬ (s.hf (CAN_BOFF_BOFF_LIM ch) ≠ 0 ∧ s.hf (CAN_BOFF_BOFF_LIM ch) < k) →
           t.hf (CAN_BOFF_STAT_HOLD_NOW ch) = min (s.hf (CAN_BOFF_HOLD_MIN ch) * 2 ^ (k - 1)) (s.hf (CAN_BOFF_HOLD_MAX ch) * 100)) ∧
         ∀ c, (s.chan c).onWire = false → (t.chan c).out = (s.chan c).out) ∧
     (s.canState ch = 4 → ∃ t, exec (.canHoldoffEnd ch) s = .next t ∧ t.canState ch = 5 ∧ t.hf (CAN_BOFF_STAT_HOLD_NOW ch) = 0 ∧ t.pde = s.pde) ∧
     (∀ ms, s.canState ch = 5 → ∃ t, exec (.canRecoveryComplete ch ms) s = .next t ∧ t.canState ch = 2 ∧ t.hf (CAN_STAT_TEC ch) = 0 ∧
       t.hf (CAN_STAT_REC ch) = 0 ∧ t.hf (CAN_INT_STAT_RECOV ch) = 1 ∧
       ∀ c, s.hf (PDE_CFG_MODE c) ≠ 4 → (t.chan c).out = (s.chan c).out) ∧
     (∀ src, (1 ≤ s.sourceLevel src → s.canState ch = 6 → ∃ t, exec (.canReleaseBlocked src ch) s = .next t ∧ t.canState ch = 5 ∧
         t.canCh ch = s.canCh ch) ∧
       (s.sourceLevel src = 0 ∨ s.canState ch ≠ 6 → exec (.canReleaseBlocked src ch) s = .next s)) ∧
     (∀ ms, s.canOn ch = true → s.hf (CAN_STAT_RESTR ch) = 1 → s.hf (CAN_CFG_OPMODE ch) ≠ 2 →
       (8 ≤ (s.canCh ch).good ∨ 100 ≤ ms → ∃ t, exec (.canRestrictedEnd ch ms) s = .next t ∧ t.hf (CAN_STAT_RESTR ch) = 0 ∧ t.pde = s.pde) ∧
       ((s.canCh ch).good < 8 → ms < 100 → exec (.canRestrictedEnd ch ms) s = .next s))) ∧
  (∀ (s : State) (ch i : Nat) (g : Trig) (free : Bool), s.canOn ch = true → s.canTt ch = true → i < s.hf (CAN_TT_CFG_TRIG_CNT ch) →
     g = s.trigAt ch i → s.hf (CAN_TT_STAT_ROLE ch) ≠ 0 → s.hf (CAN_TT_STAT_CYCLE ch) % 2 ^ g.rep = g.ofs →
     (g.type = 0 → free = true → s.canMaySend ch = true → ∀ c, s.canOf ch g.mbx = some c → (s.chan c).out.isSome → s.pdeState c ≠ 0 →
       ∃ t, exec (.canTriggerFire ch i free) s = .next t ∧ (t.chan c).onWire = true ∧ (t.canCh ch).window = [] ∧
         t.hf (CAN_TT_STAT_LOCAL ch) = g.mark) ∧
     (g.type = 0 → s.canOf ch g.mbx = none → ∃ t, exec (.canTriggerFire ch i free) s = .next t ∧ (t.canCh ch).s1 = true ∧ t.pde = s.pde) ∧
     (g.type = 1 → ∃ t, exec (.canTriggerFire ch i free) s = .next t ∧ g.mbx ∈ (t.canCh ch).window ∧
       t.hf (CAN_TT_STAT_LOCAL ch) = g.mark ∧ t.pde = s.pde) ∧
     (g.type = 2 → g.mbx < 64 →
       (g.mbx ∈ (s.canCh ch).seen → ∃ t, exec (.canTriggerFire ch i free) s = .next t ∧
         t.hf (mscField ch g.mbx) = s.hf (mscField ch g.mbx) - 1 ∧ g.mbx ∉ (t.canCh ch).seen) ∧
       (g.mbx ∉ (s.canCh ch).seen → ∃ t, exec (.canTriggerFire ch i free) s = .next t ∧
         t.hf (mscField ch g.mbx) = min 7 (s.hf (mscField ch g.mbx) + 1) ∧ (t.canCh ch).s1 = true)))

/-- R362, R363, R364, R365, R369, R370, R372: the raw count advances with the hub oscillator; a capture and a read of a low word take one
instant; a change of rate moves no disciplined time and a rate out of range is ignored; the time is set as grandmaster or free-running,
not as a follower.
R368, R369, R370: a follower is in step after 8 Sync messages within the threshold and out of it above ten times the threshold; it
holds over when none comes and gives up after the hold time, with rate and offset held; a Sync on a port that takes none is a counted
violation; Sync and Pdelay requests go into queue 5 of their port. -/
def Obligations.TimeBaseSetAndHeld : Prop :=
  (∀ (s : State) (l : LaneId) (dt raw : Nat), s.hub.supplied = true → raw = (s.hf TB_RAW + dt) % 2 ^ 64 →
     ((s.lane l).supplied = true →
       (∃ t, exec (.tbCapture l 1 dt) s = .next t ∧ t.lf l TB_CAP_RAW = raw ∧
         t.lf l TB_CAP_DISC = discOf raw (s.hf TB_RATE) (toInt 64 (s.hf TB_OFFSET)) ∧ t.lf l TB_CAP_RATE = s.hf TB_RATE ∧
         t.lf l TB_CAP_OFS = s.hf TB_OFFSET ∧ t.hf TB_RAW = raw) ∧
       (∀ disc rd v, 1 ≤ rd → rd ≤ 31 → v = (if disc then discOf raw (s.hf TB_RATE) (toInt 64 (s.hf TB_OFFSET)) else raw) →
         ∃ t, exec (.tbLowWordRead l disc rd dt) s = .next t ∧ xReg (t.core l 4) rd = BitVec.ofNat 64 (v % 2 ^ 32) ∧
           mapGet 0 t.tb.hi (l.idx * 2 + b2n disc) = v / 2 ^ 32) ∧
       (∀ v, s.tbRole ≠ 0 → s.tb.isSet = false → s.md.mode = .start → v < 2 ^ 64 →
         ∃ t, exec (.tbSettimeWrite l 4 v dt) s = .next t ∧ t.discTime = v ∧ t.tb.isSet = true ∧ t.hf TB_STATUS_STATE ≠ 0) ∧
       (∀ core v, core ≠ 4 ∨ s.md.mode ≠ .start ∨ s.tbRole = 0 ∨ s.tb.isSet = true →
         exec (.tbSettimeWrite l core v dt) s = .next (s.advRaw dt))) ∧
     (∀ src v, 1 ≤ s.sourceLevel src → v < 2 ^ 64 →
       (s.tbRole ≠ 0 → ∃ t, exec (.setTime src v dt) s = .next t ∧ t.discTime = v ∧ t.hf TB_RATE = s.hf TB_RATE ∧
         t.hf TB_CNT_STEPS = satAdd (fldTop TB_CNT_STEPS) (s.hf TB_CNT_STEPS) 1) ∧
       (s.tbRole = 0 → exec (.setTime src v dt) s = .next (s.advRaw dt))) ∧
     (∀ r, s.hub.mgmtUp = true → s.hf TB_STATUS_STATE ≠ 2 →
       (rateInRange r = true → ∃ t, exec (.rateUpdate r dt) s = .next t ∧ t.discTime = (s.advRaw dt).discTime ∧
         t.hf TB_RATE = max (s.hf TB_RATE - 2 ^ 24) (min (s.hf TB_RATE + 2 ^ 24) r) % 2 ^ 48) ∧
       (rateInRange r = false → ∃ t, exec (.rateUpdate r dt) s = .next t ∧ t.hf TB_RATE = s.hf TB_RATE ∧ t.hf TB_OFFSET = s.hf TB_OFFSET))) ∧
  (∀ (s : State) (p dt : Nat), s.hub.supplied = true →
     (∀ offset : Int, s.hub.mgmtUp = true → s.tbRole = 0 → p < 12 → s.hf (SW_PSTAT_LINK p) = 1 →
       (s.hf (TB_PSTAT_PSTATE p) = 2 → offset.natAbs ≤ s.obj 0x3400 6 → 7 ≤ s.tb.syncRun →
         ∃ t, exec (.ptpSyncReceive p offset dt) s = .next t ∧ t.hf TB_STATUS_STATE = 1 ∧ t.tb.syncRun = s.tb.syncRun + 1) ∧
       (s.hf (TB_PSTAT_PSTATE p) = 2 → 10 * s.obj 0x3400 6 < offset.natAbs →
         ∃ t, exec (.ptpSyncReceive p offset dt) s = .next t ∧ t.hf TB_STATUS_STATE = 0 ∧ t.tb.syncRun = 0) ∧
       (s.hf (TB_PSTAT_PSTATE p) ≠ 2 →
         ∃ t, exec (.ptpSyncReceive p offset dt) s = .next t ∧ t.hf TB_STATUS_STATE = s.hf TB_STATUS_STATE ∧
           t.hf TB_OFFSET = s.hf TB_OFFSET ∧ t.hf (TB_PCNT_VIOL p) = satAdd 0xFFFF (s.hf (TB_PCNT_VIOL p)) 1)) ∧
     (s.tbRole = 0 → s.hf TB_STATUS_STATE = 1 →
       s.tb.syncRaw + rawOfNs (s.obj 0x3400 5 * logInterval (s.obj 0x3400 2)) ≤ (s.hf TB_RAW + dt) % 2 ^ 64 →
       ∃ t, exec (.syncReceiptTimeout dt) s = .next t ∧ t.hf TB_STATUS_STATE = 2 ∧ t.hf TB_RATE = s.hf TB_RATE ∧
         t.hf TB_OFFSET = s.hf TB_OFFSET ∧ t.tb.holdRaw = (s.hf TB_RAW + dt) % 2 ^ 64) ∧
     (s.tbRole = 0 → s.hf TB_STATUS_STATE = 2 → s.tb.holdRaw + rawOfNs (s.obj 0x3400 8 * 1000000000) ≤ (s.hf TB_RAW + dt) % 2 ^ 64 →
       ∃ t, exec (.holdoverTimeout dt) s = .next t ∧ t.hf TB_STATUS_STATE = 0 ∧ t.hf TB_OFFSET = s.hf TB_OFFSET) ∧
     (s.hub.mgmtUp = true → p < 12 → s.hf (SW_PSTAT_LINK p) = 1 →
       (s.hf (TB_PSTAT_PSTATE p) = 1 →
         ∃ t fr, exec (.syncSend p dt) s = .next t ∧ mapGet [] (t.port p).queues 5 = mapGet [] (s.port p).queues 5 ++ [fr] ∧
           fr.2.take 6 = ptpAddress) ∧
       (s.hf (TB_PSTAT_PSTATE p) = 1 ∨ s.hf (TB_PSTAT_PSTATE p) = 2 →
         (∀ d ratio, ∃ t fr, exec (.pdelayRequestSend p (some (d, ratio)) dt) s = .next t ∧
           mapGet [] (t.port p).queues 5 = mapGet [] (s.port p).queues 5 ++ [fr] ∧ t.hf (TB_PDELAY p) = min d 0xFFFFFFFE ∧
           t.hf (TB_PSTAT_ASCAP p) = b2n (decide (d < s.obj 0x3400 9) && ratio)) ∧
         (∃ t, exec (.pdelayRequestSend p none dt) s = .next t ∧ t.hf (TB_PDELAY p) = 0xFFFFFFFF ∧ t.hf (TB_PSTAT_ASCAP p) = 0 ∧
           t.hf (TB_PCNT_PDFAIL p) = satAdd 0xFFFF (s.hf (TB_PCNT_PDFAIL p)) 1))))

/-- R382, R386, R394: an authorised host returns a failed input connection to INIT on every ticking lane and touches no other; the CRC
unit of a lane starts by its management core and puts the cork code of the bytes it names into its result, or reports a range outside
the lane's memory. -/
def Obligations.SafetyConnectionsAndCrcUnit : Prop :=
  ∀ (s : State) (l : LaneId),
    (∀ src k, 1 ≤ s.sourceLevel src → s.ticking l = true → s.connKind k = 1 ∨ s.connKind k = 3 →
      ∃ t, exec (.connectionReset src k) s = .next t ∧ (∀ j, j ≠ k → t.conn l j = s.conn l j) ∧
        ((s.conn l k).st ≠ 3 → t.conn l k = s.conn l k) ∧ ((s.conn l k).st = 3 → (t.conn l k).st = 0 ∧ (t.conn l k).errs = [])) ∧
    (∀ src k, s.sourceLevel src = 0 → exec (.connectionReset src k) s = .next s) ∧
    ((s.lane l).supplied = true →
      (∃ t, exec (.slyCrcGo l 4 1) s = .next t ∧ t.lf l SLY_CRC_GO = 1 ∧ LaneOnly l s t) ∧
      (s.lf l SLY_CRC_GO = 1 → 0x08000000 ≤ s.lf l SLY_CRC_ADDR → s.lf l SLY_CRC_ADDR + s.lf l SLY_CRC_LEN ≤ 0x08800000 →
        ∃ t, exec (.slyCrcDone l) s = .next t ∧ t.lf l SLY_CRC_GO = 0 ∧ t.lf l SLY_INT_STAT_DONE = 1 ∧ t.lf l SLY_STATUS_RANGE = 0 ∧
          (s.lf l SLY_CRC_CTL_POLY = 0 → t.lf l SLY_CRC_RES = 0xFFFFFFFF - (corkRun (s.lf l SLY_CRC_SEED)
            (beBytes 4 (s.lf l SLY_CRC_PRE) ++ s.lmem l (s.lf l SLY_CRC_ADDR) (s.lf l SLY_CRC_LEN))).toNat ∧ LaneOnly l s t)) ∧
      (s.lf l SLY_CRC_GO = 1 → s.lf l SLY_CRC_ADDR < 0x08000000 ∨ 0x08800000 < s.lf l SLY_CRC_ADDR + s.lf l SLY_CRC_LEN →
        ∃ t, exec (.slyCrcDone l) s = .next t ∧ t.lf l SLY_CRC_GO = 0 ∧ t.lf l SLY_INT_STAT_DONE = 1 ∧ t.lf l SLY_STATUS_RANGE = 1 ∧
          t.lf l SLY_CRC_RES = s.lf l SLY_CRC_RES ∧ LaneOnly l s t))

/-- R397, R399, R401, R403, R404, R406: an input's comparator follows the thresholds of its class and its filter follows the comparator
after the debounce time; a dark pulse opens one switch and its end restores the decision; a switch in current limit opens and every
ticking lane shows it; a readback is taken over; a switch that did not open in its slot is a fault. -/
def Obligations.InputsAndSwitchesOfTheFieldStage : Prop :=
  ∀ (s : State) (l : LaneId) (d : Side) (o : Nat), o ≤ 16 →
    (∀ i mv on off, (s.lane l).supplied = true → s.inputUsed l i = true → thresholds (s.inputClass l i) = some (on, off) →
      ∃ t, exec (.inputThresholdCross l i mv) s = .next t ∧
        bitOf (t.lf l DIN_RAW) i = (if on ≤ mv then true else if mv ≤ off then false else bitOf (s.lf l DIN_RAW) i) ∧
        (∀ j, j ≠ i → bitOf (t.lf l DIN_RAW) j = bitOf (s.lf l DIN_RAW) j) ∧ t.lf l DIN_FILT = s.lf l DIN_FILT ∧ LaneOnly l s t) ∧
    (∀ i held at_, (s.lane l).supplied = true → s.inputUsed l i = true → bitOf (s.lf l DIN_FILT) i ≠ bitOf (s.lf l DIN_RAW) i →
      (s.lf l (DIN_DEB i) ≤ held → ∃ t, exec (.inputFilterChange l i held at_) s = .next t ∧
        bitOf (t.lf l DIN_FILT) i = bitOf (s.lf l DIN_RAW) i ∧ t.lf l (DIN_CHG i) = satAdd 0xFFFF (s.lf l (DIN_CHG i)) 1 ∧
        mapFind (t.lane l).fe.chg i = some at_ ∧ LaneOnly l s t) ∧
      (held < s.lf l (DIN_DEB i) → exec (.inputFilterChange l i held at_) s = .next s)) ∧
    (∀ u f, s.refreshes (voterOf d) = true → bitOf (s.voter (voterOf d)).drove o = true → mapFind (s.voter (voterOf d)).onSince o = some f →
      300 ≤ (frameDiff (s.voterFrame (voterOf d)) f).toNat * s.tUs + u → s.tpPos (s.voterFrame (voterOf d)) u = s.slotStart (slotOf d o) →
      ∃ t, exec (.darkPulseStart d o u) s = .next t ∧ t.closed d o = false ∧
        ∀ e p, e ≠ d ∨ p ≠ o → t.closed e p = s.closed e p) ∧
    (∃ t, exec (.darkPulseEnd d o) s = .next t ∧
      t.closed d o = (s.refreshes (voterOf d) && bitOf (s.voter (voterOf d)).out o && !bitOf (s.voter (voterOf d)).trip o)) ∧
    (s.closed d o = true → ∃ t, exec (.switchOverloadTrip d o) s = .next t ∧ t.closed d o = false ∧
      ∀ k, s.ticking k = true → bitOf (t.lf k DOUT_DIAG_OVL) o = true) ∧
    (∀ hs ls oc u, s.ticking l = true → ∃ t, exec (.readbackChange l hs ls oc u) s = .next t ∧ t.lf l DOUT_RB_HS = hs % 2 ^ 17 ∧
      t.lf l DOUT_RB_LS = ls % 2 ^ 17 ∧ LaneEvt l s t) ∧
    (∀ u pos, s.ticking l = true → pos = s.tpPos (s.frame l) u → s.slotStart (slotOf d o) + s.lf l (DOUT_DARK o) + 100 ≤ pos →
      bitOf (s.lf l VOT_V2OUT) o = true → s.findingsOff l o = false → s.readsClosed l d o = true →
      (∀ v, s.sinceExpected l o u = some v → pos - s.slotStart (slotOf d o) + 300 ≤ v) →
      ∃ t, exec (.darkSlotCheck l d o u) s = .next t ∧ LaneOnly l s t ∧
        (slotOf d o ∉ (s.lane l).fe.seen → bitOf (t.lf l (match d with | .hs => DOUT_DIAG_HS | .ls => DOUT_DIAG_LS)) o = true) ∧
        (slotOf d o ∈ (s.lane l).fe.seen → (t.lane l).regs = (s.lane l).regs))

/-- R413, R415, R416, R417, R418: a voter without a decision for two cycles, or with a monitor fault, opens its switches; a brake
current out of range for 100 ms is recorded; a proof test in DEPOT shows its result on every ticking lane and a passed one starts the
hours anew; an overdue one is shown; the reset input's edges are measured. -/
def Obligations.VotersBrakeLoopAndResetInput : Prop :=
  ∀ (s : State),
    (∀ (i : VoterId) us d o, s.voterUp i = true → voterOf d = i →
      (2 * s.tUs + 100 ≤ us → ∃ t, exec (.voterSilenceTimeout i us) s = .next t ∧ t.closed d o = false) ∧
      (us < 2 * s.tUs + 100 → exec (.voterSilenceTimeout i us) s = .next s) ∧
      (∃ t, exec (.oscillatorMonitorFault i) s = .next t ∧ t.closed d o = false)) ∧
    (∀ l, s.ticking l = true → (s.lane l).rt.brkRec = false → 100000 ≤ (s.lane l).rt.brkRun * s.tUs → 0 < (s.lane l).rt.brkRun →
      ∃ t, exec (.brakeCurrentOutOfRange l) s = .next t ∧ (t.lane l).rt.brkRec = true ∧
        t.lf l BRK_CNT_RANGE = satAdd 0xFFFF (s.lf l BRK_CNT_RANGE) 1 ∧ LaneEvt l s t) ∧
    (∀ src rs, 1 ≤ s.sourceLevel src →
      (s.md.mode = .depot → ∃ t, exec (.brakeProofTest src rs) s = .next t ∧
        (halfClosedFail 1 halfClosedSteps rs = 0 → t.fld.proofNs = 0 ∧ t.fld.overdue = false ∧
          ∀ l, s.ticking l = true → t.lf l BRK_PT_PASS = 1 ∧ t.lf l BRK_PT_FAIL = 0 ∧ t.lf l BRK_PT_HOURS = 0 ∧ t.lf l BRK_PT_OVERDUE = 0) ∧
        (halfClosedFail 1 halfClosedSteps rs ≠ 0 → t.fld = { s.fld with result := 2 } ∧ ∀ l, s.ticking l = true → t.lf l BRK_PT_PASS = 0 ∧ t.lf l BRK_PT_FAIL = 1 ∧
          t.lf l BRK_CNT_PT_FAIL = satAdd 0xFFFF (s.lf l BRK_CNT_PT_FAIL) 1)) ∧
      (s.md.mode ≠ .depot → exec (.brakeProofTest src rs) s = .next s)) ∧
    (s.fld.overdue = false →
      (s.obj 0x5104 0 < s.proofHours → (∃ k, s.ticking k = true) → ∃ t, exec .proofTestOverdue s = .next t ∧ t.fld.overdue = true ∧
        ∀ l, s.ticking l = true → t.lf l BRK_PT_OVERDUE = 1 ∧ t.lf l BRK_PT_HOURS = min 0xFFFF s.proofHours) ∧
      (s.proofHours ≤ s.obj 0x5104 0 ∨ (∀ k, s.ticking k = false) → exec .proofTestOverdue s = .next s)) ∧
    (s.sup.supplied = true →
      (∀ low, s.sup.rst.level = false → ∃ t, exec (.resetInputRise low) s = .next t ∧ t.sup.rst.level = true ∧
        t.sup.rst.counting = decide (50000 ≤ low) ∧ ∀ l, s.ticking l = true → t.lf l DIN_STATUS_RESET = 1) ∧
      (∀ width, s.sup.rst.level = true → s.anyTick = true → ∃ t, exec (.resetInputFall width) s = .next t ∧ t.sup.rst.level = false ∧
        (t.sup.rst.valid = true ↔ s.sup.rst.valid = true ∨ s.sup.rst.counting = true ∧ 50000 ≤ width ∧ width ≤ 2000000)) ∧
      (s.sup.rst.level = true → s.sup.rst.counting = true → ∃ t, exec .resetHeldTimeout s = .next t ∧ t.sup.rst.counting = false ∧
        t.sup.rst.valid = s.sup.rst.valid))

/-- R84, R85, R86, R99, R106, R109: a mode request by an authorised host that the mode permits falls due at its edge, and a shut-down
request begins the closing phase; a life-cycle request that the life cycle and the mode permit takes effect at once, and RETIRED closes
the module. A request without the rights, or that is not permitted, is only recorded. -/
def Obligations.ModeAndLifeCycleRequests : Prop :=
  ∀ (s : State) (src : Nat), s.md.closing = none → s.md.mode ≠ .stowed →
    (1 ≤ s.sourceLevel src → s.coo.test = none → s.md.due = [] →
      (s.md.mode = .depot → s.md.life ≠ .retired → exec (.modeRequestConfigure src) s =
        .next { s with md := { s.md with due := [⟨.configure, frameAdd s.modFrame 1, 16⟩] } }) ∧
      (safeMode s.md.mode = true → exec (.modeRequestDepot src) s =
        .next { s with md := { s.md with due := [⟨.depot, frameAdd s.modFrame 2, 13⟩] } }) ∧
      (s.md.mode = .configure → (∀ l, (s.lane l).supplied = true → (s.lane l).admission = some 0) → exec (.modeRequestRun src) s =
        .next { s with md := { s.md with due := [⟨.start, frameAdd s.modFrame 1, 9⟩] } }) ∧
      (s.md.mode = .depot → exec (.modeRequestRun src) s =
        .next { s with md := { s.md with due := [⟨.start, frameAdd s.modFrame 1, 17⟩] } })) ∧
    (1 ≤ s.sourceLevel src → s.sup.supplied = true → s.anyTick = true → (∀ l, s.cooRuns l = false) →
      ∃ t, exec (.modeRequestShutDown src) s = .next t ∧ t.md.mode = s.md.mode ∧ t.md.due = [] ∧ t.md.start = none ∧
        t.md.closing = some ⟨1, 3, false, frameAdd s.modFrame 2, none, 0, 0, 0, true, 0, false⟩) ∧
    (s.sourceLevel src = 0 ∨ s.md.mode ≠ .depot ∨ s.md.life = .retired →
      ∃ t, exec (.modeRequestConfigure src) s = .next t ∧ EventOnly s t) ∧
    (s.sourceLevel src = 0 ∨ safeMode s.md.mode = false →
      ∃ t, exec (.modeRequestDepot src) s = .next t ∧ EventOnly s t) ∧
    (s.sourceLevel src = 0 ∨ (s.md.mode ≠ .depot ∧ s.md.mode ≠ .configure) →
      ∃ t, exec (.modeRequestRun src) s = .next t ∧ EventOnly s t) ∧
    (s.sourceLevel src = 0 → ∃ t, exec (.modeRequestShutDown src) s = .next t ∧ EventOnly s t) ∧
    (3 ≤ s.sourceLevel src → s.md.mode = .depot →
      (s.md.life = .depotOpen → s.hostKeyed = true → ∃ t, exec (.lifecycleToInService src) s = .next t ∧ t.md.life = .inService ∧
        t.sup.ka.life = Life.inService.code ∧ t.md.mode = .depot) ∧
      (s.md.life = .inService → ∃ t, exec (.lifecycleToDepotOpen src) s = .next t ∧ t.md.life = .depotOpen ∧
        t.sup.ka.life = Life.depotOpen.code ∧ t.md.mode = .depot) ∧
      (s.md.life = .depotOpen → s.sup.supplied = true → s.anyTick = true → (∀ l, s.cooRuns l = false) →
        ∃ t, exec (.lifecycleToRetired src) s = .next t ∧ t.md.life = .retired ∧ t.sup.ka.life = Life.retired.code ∧
          t.md.closing = some ⟨1, 4, false, frameAdd s.modFrame 2, none, 0, 0, 0, true, 0, false⟩)) ∧
    (s.sourceLevel src < 3 ∨ s.md.life = .inService ∨ s.md.life = .retired →
      ∃ t, exec (.lifecycleToInService src) s = .next t ∧ EventOnly s t) ∧
    (s.sourceLevel src < 3 ∨ s.md.life ≠ .inService → ∃ t, exec (.lifecycleToDepotOpen src) s = .next t ∧ EventOnly s t) ∧
    (s.sourceLevel src < 3 ∨ s.md.life ≠ .depotOpen → ∃ t, exec (.lifecycleToRetired src) s = .next t ∧ EventOnly s t)

/-- R89, R90, R99, R102, R103, R104: a wake source starts a stowed module whose main input is in range; a wake input withdrawn for longer
than the shutdown delay closes it; the shutdown self-test ends at its time limit; a step of START is complete for a lane that reports it,
and a lane that does not is switched off and left out, while a hub that does not ends the start in HALT. -/
def Obligations.WakeStartStepsAndClosing : Prop :=
  ∀ (s : State), s.sup.supplied = true →
    (∀ rtc ms, s.md.mode = .stowed → s.md.closing = none → s.sup.pw.inRange = true → s.obj 0x1016 1 = 1 →
      ∃ t, exec (.wakeInputQualified rtc ms) s = .next t ∧ t.md.mode = .start ∧ t.md.prev = .stowed ∧ t.md.start.isSome ∧
        bitOf t.md.wakeCause 0 = true ∧ t.md.life = s.md.life) ∧
    (∀ rtc ms, s.md.mode ≠ .stowed → s.md.closing = none →
      ∃ t, exec (.wakeInputQualified rtc ms) s = .next t ∧ t.sup.pw.wakeIn = true ∧
        t.md = { s.md with lowStart := false, wakeOff := none }) ∧
    (∀ rtc, s.md.mode = .stowed → s.md.closing = none → s.sup.pw.inRange = true → s.obj 0x1016 2 = 1 → s.obj 0x1017 0 ≠ 0 →
      s.obj 0x1017 0 ≤ rtc → ∃ t, exec (.rtcAlarm rtc) s = .next t ∧ t.md.mode = .start ∧ t.md.prev = .stowed ∧
        bitOf t.md.wakeCause 1 = true) ∧
    (∀ rtc, s.obj 0x1017 0 ≠ 0 → s.obj 0x1017 0 ≤ rtc → s.md.mode ≠ .stowed → s.md.closing = none →
      ∃ t, exec (.rtcAlarm rtc) s = .next t ∧ t.sup.ka.alarmLatched = true ∧ t.md = s.md) ∧
    (∀ sec, s.obj 0x1016 1 = 1 → s.withdrawnLong sec = true → s.md.mode ≠ .stowed → s.md.closing = none → s.anyTick = true →
      (∀ l, s.cooRuns l = false) → ∃ t, exec (.wakeWithdrawnTimeout sec) s = .next t ∧ t.sup.pw.wakeIn = false ∧
        t.md.mode = s.md.mode ∧ t.md.closing = some ⟨1, 1, false, frameAdd s.modFrame 2, none, 0, 0, 0, true, 0, false⟩) ∧
    (∀ sec, s.obj 0x1016 1 ≠ 1 ∨ s.withdrawnLong sec = false →
      exec (.wakeWithdrawnTimeout sec) s = .next (s.pwSet (fun p => { p with wakeIn := false }))) ∧
    (∀ ms c, s.md.closing = some c → c.step = 3 → s.obj 0x7200 2 * 1000 ≤ ms →
      ((∀ l, s.cooRuns l = false) → ∃ t, exec (.c3TimeLimit ms) s = .next t ∧ t.sup.pw.dumping = true ∧
        ∀ l, (t.lane l).supplied = false) ∧
      (∀ i, c.lane = some i → s.cooRuns (laneOf i) = true → ∃ t, exec (.c3TimeLimit ms) s = .next t ∧
        t.md.closing = some { c with valid := false, early := true } ∧ t.lf (laneOf i) COO_STATUS_STATE = 2)) ∧
    (∀ (l k : LaneId) step ms meas, s.md.start.isSome → s.st.step = step → step ≠ 0 → step ≠ 8 → l ≠ k →
      inSet s.passing l = true → inSet s.st.done l = false → inSet s.passing k = true → inSet s.st.done k = false →
      (s.lane l).restart = none → s.stepOk l step = true →
      ∃ t, exec (.startStepComplete (.lane l) step true ms meas) s = .next t ∧
        inSet t.st.done l = true ∧ t.st.step = step ∧ (t.lane l).supplied = true) ∧
    (∀ (l k : LaneId) step, s.md.start.isSome → s.st.step = step → step ≠ 0 → step ≠ 8 → l ≠ k →
      inSet s.passing l = true → inSet s.st.done l = false → inSet s.passing k = true → inSet s.st.done k = false →
      (s.lane l).restart = none →
      ∃ t, exec (.startStepTimeout (.lane l) step) s = .next t ∧ (t.lane l).supplied = false ∧ inSet t.st.excluded l = true ∧
        t.st.step = step ∧ (t.lane k).supplied = true) ∧
    (∀ step, s.md.start.isSome → s.md.mode = .start → s.md.closing = none → s.anyTick = false → s.st.step = step →
      step = 2 ∨ step = 7 → s.st.hubDone = false →
      ∃ t, exec (.startStepTimeout .hub step) s = .next t ∧ t.md.mode = .halt ∧ t.md.start = none)

/-- R99, R102, R517, R523, R538, R540, R541: a main input below its range puts the module on hold-up, or back to STOWED in a START whose
store is not yet charged, and its loss closes the module with the outputs off; its return ends the hold-up and the store is recharged; an
overvoltage is shown, and one that lasts disconnects; when the hold-up is exhausted the supplies are removed and the energy dumped, and a
dump that completes stows the module. -/
def Obligations.MainInputAndHoldUp : Prop :=
  ∀ (s : State), s.sup.supplied = true →
    (∀ v, v < 1440 → s.sup.pw.inRange = true → s.md.mode = .stowed →
      ∃ t, exec (.mainInputBelowRange v) s = .next t ∧ t.sup.pw.inRange = false ∧ t.sup.pw.vin = v ∧ t.md.mode = .stowed) ∧
    (∀ v, v < 1440 → s.sup.pw.inRange = true → s.md.mode ≠ .stowed →
      s.md.mode ≠ .start ∨ s.sup.pw.charged = true ∨ s.md.closing.isSome → s.sup.pw.holdup = false →
      ∃ t, exec (.mainInputBelowRange v) s = .next t ∧ t.sup.pw.inRange = false ∧ t.sup.pw.holdup = true ∧ t.md.mode = s.md.mode ∧
        ∀ l, (s.lane l).supplied = true → t.lf l PWR_STATUS_HOLDUP = 1 ∧ t.lf l PWR_INT_STAT_HOLDUP = 1) ∧
    (∀ v, v < 1440 → s.sup.pw.inRange = true → s.md.mode = .start → s.sup.pw.charged = false → s.md.closing = none →
      ∃ t, exec (.mainInputBelowRange v) s = .next t ∧ t.sup.pw.inRange = false ∧ t.md.mode = .stowed ∧ t.md.start = none ∧
        t.hub.supplied = false ∧ ∀ l, (t.lane l).supplied = false) ∧
    (s.sup.pw.inRange = false → s.md.mode ≠ .stowed → s.md.closing = none → (∀ l, s.cooRuns l = false) →
      ∃ t, exec .mainInputLost s = .next t ∧ t.md.closing.isSome ∧ t.sup.v2.out = 0 ∧ t.md.mode = s.md.mode) ∧
    (∀ v us held rtc, s.sup.pw.inRange = false → 1440 ≤ v → v ≤ 15400 → s.sup.pw.disconnected = false ∨ 100 ≤ held →
      s.md.mode ≠ .stowed → s.md.closing = none →
      ∃ t, exec (.mainInputRestored v us held rtc) s = .next t ∧ t.sup.pw.inRange = true ∧ t.sup.pw.holdup = false ∧
        t.sup.pw.vin = v ∧ t.sup.pw.disconnected = false ∧ t.md = s.md ∧ t.sup.pw.recharging = s.sup.pw.holdup ∧
        (s.sup.pw.holdup = true → t.cnt 0x7401 1 = satAdd 0xFFFFFFFF (s.cnt 0x7401 1) 1)) ∧
    (∀ peak, 15400 < peak → s.sup.pw.overV = false →
      ∃ t, exec (.mainInputOvervoltage peak none) s = .next t ∧ t.sup.pw.overV = true ∧ t.md = s.md ∧
        ∀ l, (s.lane l).supplied = true → t.lf l PWR_STATUS_OVER = 1 ∧ t.lf l PWR_INT_STAT_OVER = 1) ∧
    (∀ peak us, 15400 < peak → s.sup.pw.overV = true →
      ∃ t, exec (.mainInputOvervoltage peak (some us)) s = .next t ∧ t.sup.pw.overV = false ∧ t.md = s.md ∧
        ∀ l, (s.lane l).supplied = true → t.lf l PWR_STATUS_OVER = 0) ∧
    (∀ v us, 18000 < v ∨ (15400 < v ∧ 1000000 < us) → s.sup.pw.disconnected = false →
      ∃ t, exec (.overvoltageDisconnect v us) s = .next t ∧ t.sup.pw.disconnected = true ∧ t.sup.pw.inRange = false) ∧
    (s.sup.pw.holdup = true → s.md.mode ≠ .stowed → (∀ c, s.md.closing = some c → c.step < 3) →
      ∃ t, exec .holdupExhausted s = .next t ∧ t.sup.pw.dumping = true ∧ t.hub.supplied = false ∧ (∀ l, (t.lane l).supplied = false) ∧
        ∃ c, t.md.closing = some c ∧ c.step = 5) ∧
    (s.sup.pw.recharging = true → s.sup.pw.inRange = true → ∃ t, exec .holdupRechargeDone s = .next t ∧ t.sup.pw.recharging = false ∧
      t.sup.pw.charged = true ∧ t.md = s.md) ∧
    (∀ ms rtc, s.sup.pw.dumping = true → ∃ t, exec (.dumpComplete ms rtc) s = .next t ∧ t.sup.pw.dumping = false ∧ t.sup.ka.lastDump = ms ∧
      (s.md.closing.isSome → t.md.closing = none ∧ (s.sup.pw.inRange = false → t.md.mode = .stowed)))

/-- R40, R518, R532, R534, R536: an output supply out of range is shown until it is restored and suspends the findings of its outputs; a low
keep-alive supply and an over-temperature are shown, and nothing else follows; a supervisor without supply keeps or loses its keep-alive
domain, and a hub without supply keeps its MRAM. -/
def Obligations.SuppliesTemperatureAndLosses : Prop :=
  ∀ (s : State),
    (∀ v, s.sup.supplied = true → voOut v = true → ∃ t, exec (.outputSupplyOutOfRange false v) s = .next t ∧
      t.sup.pw.voOk = false ∧ t.sup.pw.vo = v ∧ t.md = s.md ∧
      ∀ l, (s.lane l).supplied = true → t.lf l PWR_STATUS_VO_OK = 0 ∧ bitOf (t.lane l).fe.sus 0 = true) ∧
    (∀ v, s.sup.supplied = true → vbOut v = true → ∃ t, exec (.outputSupplyOutOfRange true v) s = .next t ∧
      t.sup.pw.vbOk = false ∧ t.sup.pw.vb = v ∧ t.md = s.md ∧
      ∀ l, (s.lane l).supplied = true → t.lf l PWR_STATUS_VB_OK = 0 ∧ bitOf (t.lane l).fe.sus 1 = true) ∧
    (∀ v, s.sup.supplied = true → voOut v = false → ∃ t, exec (.outputSupplyRestored false v) s = .next t ∧
      t.sup.pw.voOk = true ∧ t.sup.pw.vo = v ∧ t.md = s.md ∧ ∀ l, (s.lane l).supplied = true → t.lf l PWR_STATUS_VO_OK = 1) ∧
    (∀ v, s.sup.supplied = true → vbOut v = false → ∃ t, exec (.outputSupplyRestored true v) s = .next t ∧
      t.sup.pw.vbOk = true ∧ t.sup.pw.vb = v ∧ t.md = s.md ∧ ∀ l, (s.lane l).supplied = true → t.lf l PWR_STATUS_VB_OK = 1) ∧
    (∀ mv, s.sup.supplied = true → mv < 2200 → ∃ t, exec (.keepaliveLow mv) s = .next t ∧ t.sup.pw.kaLow = true ∧ t.sup.pw.vka = mv ∧
      t.md = s.md ∧ (s.md.mode ≠ .stowed → ∀ l, (s.lane l).supplied = true → t.lf l PWR_STATUS_KA_LOW = 1)) ∧
    (∀ x : Int, s.sup.supplied = true → 950 < x → ∃ t, exec (.boardOvertemperature x) s = .next t ∧ t.sup.pw.tempHi = true ∧ t.sup.pw.temp = x ∧
      t.md = s.md ∧ ∀ l, (s.lane l).supplied = true → t.lf l PWR_STATUS_TEMP_HI = 1) ∧
    (∃ t, exec (.supervisorSupplyLoss true) s = .next t ∧ t.sup.supplied = false ∧ t.sup.pw.dumping = true ∧
      t.sup.ka = s.sup.ka ∧ t = { s with sup := t.sup }) ∧
    (∃ t, exec (.supervisorSupplyLoss false) s = .next t ∧ t.sup.supplied = false ∧ t.sup.pw.dumping = true ∧
      t.sup.ka = s.sup.ka.lost ∧ t = { s with sup := t.sup }) ∧
    (∃ t, exec .hubSupplyLoss s = .next t ∧ t.hub.supplied = false ∧ t.hub.mram = s.hub.mram ∧ t.sup = s.sup ∧ t.md = s.md ∧
      ∀ l, (t.lane l).mem = (s.lane l).mem ∧ ((s.lane l).supplied = true → t.lf l BRG_STATUS_LINK_UP = 0))

/-- R286 to R292: a store to hub memory goes into its core's buffer, a closed buffer and a register-window store go into the write queue
and are counted as issued; an AMO, a misaligned store and a store to another lane's MRAM partition fault; a write response performs the
oldest write; a fence with nothing outstanding completes, one with a failed write faults with its address. -/
def Obligations.BridgeStoresWritesAndFences : Prop :=
  ∀ (s : State) (l : LaneId) (core pc : Nat) (who : Runner), s.coreUp l core = true →
    (∀ addr size v, s.lets l core addr size true who = true → mapFind (s.lane l).brg.failed core = none → accessSize size = true → addr % size = 0 → inHubMem addr = true →
      addr < 0x60000000 ∨ mramMay l addr = true → s.lf l BRG_CFG_WC_OFF = 0 → mapFind (s.lane l).brg.wc core = none →
      ∃ t, exec (.bridgeCombinedStore l core pc addr size v false who) s = .next t ∧
        mapFind (t.lane l).brg.wc core = some (storeBytes addr size v) ∧ (t.lane l).brg.writes = (s.lane l).brg.writes ∧ t.hub = s.hub ∧ LaneOnly l s t) ∧
    (∀ addr size v amo, mapFind (s.lane l).brg.wc core = none → accessSize size = true → amo = true ∨ addr % size ≠ 0 →
      ∀ i, i = .bridgeCombinedStore l core pc addr size v amo who ∨ i = .bridgeRegisterStore l core pc addr size v amo who →
      ∃ t, exec i s = .next t ∧ (t.core l core).trap = some ⟨7, pc, some addr⟩ ∧ (t.lane l).brg = (s.lane l).brg ∧ LaneOnly l s t) ∧
    (∀ addr size v, s.lets l core addr size true who = true → mapFind (s.lane l).brg.failed core = none → accessSize size = true →
      addr % size = 0 → inHubMem addr = true → 0x60000000 ≤ addr → mramMay l addr = false →
      ∃ t, exec (.bridgeCombinedStore l core pc addr size v false who) s = .next t ∧ (t.core l core).trap = some ⟨7, pc, some addr⟩ ∧
        t.hub = s.hub ∧ t.lf l BRG_FAULT_ADDR = addr ∧ t.lf l BRG_FAULT_INFO_CODE = 2) ∧
    (s.linkUp l = true → (s.lane l).brg.waiting = [] → (s.lane l).brg.writes.length < 32 →
      (∀ addr size v, s.lets l core addr size true who = true → accessSize size = true → addr % size = 0 → inWindow addr = true → laneEnd addr = false →
        mapFind (s.lane l).brg.wc core = none → mapFind (s.lane l).brg.failed core = none →
        ∃ t, exec (.bridgeRegisterStore l core pc addr size v false who) s = .next t ∧
          (t.lane l).brg.writes = (s.lane l).brg.writes ++ [⟨core, pc, addr, storeBytes addr size v, true⟩] ∧
          t.lf l BRG_WISSUED = (s.lf l BRG_WISSUED + 1) % 2 ^ 32 ∧ t.hub = s.hub ∧ LaneOnly l s t) ∧
      (∀ p bs, mapFind (s.lane l).brg.wc core = some (p :: bs) → ∃ t, exec (.wcBufferIssue l core) s = .next t ∧
        mapFind (t.lane l).brg.wc core = none ∧ (t.lane l).brg.writes = (s.lane l).brg.writes ++ [⟨core, 0, p.1, p :: bs, false⟩] ∧
        t.lf l BRG_WISSUED = (s.lf l BRG_WISSUED + 1) % 2 ^ 32 ∧ LaneOnly l s t) ∧
      (∀ w ws, (s.lane l).brg.writes = w :: ws → (s.lane l).brg.done = [] → (∃ p bs, w.bytes = p :: bs ∧ 0x58000000 ≤ p.1 ∧ p.1 < 0x59000000) →
        ∃ t, exec (.writeResponse l) s = .next t ∧ t.hub.sram = memWriteCells s.hub.sram w.bytes ∧ ((s.lane l).brg.fences = [] → t.hub.mram = s.hub.mram) ∧
          t.lf l BRG_WDONE = (s.lf l BRG_WDONE + 1) % 2 ^ 32)) ∧
    (mapFind (s.lane l).brg.wc core = none → (s.lane l).brg.owes core = false → core < 4 →
      (mapFind (s.lane l).brg.failed core = none → exec (.fence l core pc) s = .next s) ∧
      (∀ a, mapFind (s.lane l).brg.failed core = some a → ∃ t, exec (.fence l core pc) s = .next t ∧
        (t.core l core).trap = some ⟨7, pc, some a⟩ ∧ mapFind (t.lane l).brg.failed core = none ∧ LaneOnly l s t)) ∧
    (mapFind (s.lane l).brg.wc core = none → (s.lane l).brg.owes core = true → ∃ t, exec (.fence l core pc) s = .next t ∧
      mapFind (t.lane l).brg.fences core = some pc ∧ (t.core l core).trap = (s.core l core).trap ∧ LaneOnly l s t)

/-- R291 to R301: a load waits with its tag for its response, which writes the loaded value; a failed one faults; a discarded read
faults, keeps its tag in quarantine until the flush is acknowledged, and a write timeout resets the link. A reset fails what was
outstanding, keeps the counts, clears the shadow sets and ends when the link has trained. -/
def Obligations.BridgeLoadsTimersAndReset : Prop :=
  ∀ (s : State) (l : LaneId), (s.lane l).supplied = true →
    (∀ core pc addr size rd signed spec who, core < 5 → s.lets l core addr size false who = true → mapFind (s.lane l).brg.failed core = none → accessSize size = true → addr % size = 0 →
      inWindow addr = true ∧ laneEnd addr = false ∨ inHubMem addr = true →
      ∃ t r, exec (.bridgeLoad l core pc addr size rd signed spec false who) s = .next t ∧ r ∈ (t.lane l).brg.reads ∧
        r.core = core ∧ r.pc = pc ∧ r.rd = rd ∧ r.addr = addr ∧ r.size = size ∧
        (t.lane l).brg.reads.length = (s.lane l).brg.reads.length + 1 ∧ (t.core l core).trap = (s.core l core).trap) ∧
    (∀ tag r, s.linkUp l = true → (s.lane l).brg.reads.find? (fun r => r.tag == some tag) = some r → 0x58000000 ≤ r.addr →
      r.addr < 0x59000000 → r.ahead ≤ (s.lane l).brg.done.length →
      (∃ t, exec (.readResponse l tag false) s = .next t ∧
        xReg (t.core l r.core) r.rd = (if r.rd = 0 then 0 else loadWord (memRead s.hub.sram r.addr r.size) r.signed) ∧ t.hub.sram = s.hub.sram) ∧
      (∃ t, exec (.readResponse l tag true) s = .next t ∧ (t.core l r.core).trap = some ⟨5, r.pc, some r.addr⟩ ∧
        t.lf l BRG_FAULT_INFO_CODE = 3 ∧ t.lf l BRG_FAULT_ADDR = r.addr)) ∧
    (∀ tag, s.linkUp l = true → ∃ t, exec (.flushAck l tag) s = .next t ∧ ∀ r, r ∈ (t.lane l).brg.quar ↔ r ∈ (s.lane l).brg.quar ∧ r.tag ≠ some tag) ∧
    (∀ i r done, (s.lane l).brg.reads[i]? = some r → r.spec = false →
      ∃ t, exec (.discardTimerExpire l false i done) s = .next t ∧ (t.core l r.core).trap = some ⟨5, r.pc, some r.addr⟩ ∧
        t.lf l BRG_CNT_DISC_TIMEOUT = satAdd 0xFFFF (s.lf l BRG_CNT_DISC_TIMEOUT) 1 ∧ t.lf l BRG_FAULT_INFO_CODE = 4 ∧
        (t.lane l).brg.quar = (s.lane l).brg.quar ++ (if r.tag.isSome then [r] else [])) ∧
    (∀ i, (∃ n, i = .linkReset l 0 n ∧ s.lf l BRG_STATUS_LINK_UP = 1) ∨
        (∃ core, i = .brgResetWrite l core 1 0 ∧ core < 5 ∧ s.lf l BRG_STATUS_RESETTING = 0) ∨
        (∃ k w ws, i = .discardTimerExpire l true k 0 ∧ (s.lane l).brg.writes = w :: ws) →
      ∃ t, exec i s = .next t ∧ t.lf l BRG_STATUS_LINK_UP = 0 ∧ t.lf l BRG_STATUS_RESETTING = 1 ∧ t.lf l BRG_WISSUED = 0 ∧
        t.lf l BRG_WDONE = 0 ∧ t.lf l BRG_WISSUED_PREV = s.lf l BRG_WISSUED ∧ t.lf l BRG_WDONE_PREV = s.lf l BRG_WDONE ∧
        (t.lane l).brg.writes = [] ∧ (t.lane l).brg.quar = [] ∧ (∀ c, c < 192 → t.lf l (PDE_ARM c) = 0) ∧
        t.lf l BRG_CNT_LINK_RESETS = satAdd 0xFFFF (s.lf l BRG_CNT_LINK_RESETS) 1) ∧
    (s.hub.supplied = true → s.lf l BRG_STATUS_RESETTING = 1 → ∃ t, exec (.linkRetrained l) s = .next t ∧ t.lf l BRG_STATUS_RESETTING = 0 ∧
      t.lf l BRG_STATUS_LINK_UP = 1 ∧ t.lf l BRG_RESET_RESET = 0)

/-- R16, R32: a read of a register with RC counters returns them and clears them, and events of the same clock stay counted; writing 1
clears an event bit unless the event occurs again; a store goes to lane memory, not to its ROM, and a register is written by its
access rules. -/
def Obligations.CoresAccessRegistersAndMemory : Prop :=
  ∀ (s : State) (l : LaneId) (core pc : Nat) (who : Runner), (s.lane l).supplied = true → core < 5 →
    (∀ rd signed more, 1 ≤ rd → rd ≤ 31 → s.lets l core 0x4000005C 4 false who = true →
      mapFind (s.lane l).tick.dueRegs 0x4000005C = none →
      ∃ t, exec (.rcRead l core pc 0x4000005C 4 rd signed more who) s = .next t ∧
        (signed = false → xReg (t.core l core) rd = BitVec.ofNat 64 (s.lf l ⟨0x4000005C, 31, 0⟩)) ∧
        t.lf l ⟨0x4000005C, 31, 16⟩ = satAdd 0xFFFF 0 more ∧ t.lf l ⟨0x4000005C, 15, 0⟩ = 0) ∧
    (∀ v set, s.lets l core 0x40000044 4 true who = true → mapFind (s.lane l).tick.dueRegs 0x40000044 = none →
      ∃ t, exec (.w1cWrite l core pc 0x40000044 v set who) s = .next t ∧ LaneOnly l s t ∧
        ∀ b, b < 8 → bitOf (t.lf l ⟨0x40000044, 7, 0⟩) b =
          (bitOf set b || (bitOf (s.lf l ⟨0x40000044, 7, 0⟩) b && !bitOf v.toNat b))) ∧
    (∀ addr size v, s.lets l core addr size true who = true → accessSize size = true → 0x80000000 ≤ addr → addr + size ≤ 0x180000000 →
      ∃ t, exec (.registerWrite l core pc addr size v who) s = .next t ∧ t.lmem l addr size = leBytes size v.toNat ∧
        (∀ a, a < addr ∨ addr + size ≤ a → t.lmem l a 1 = s.lmem l a 1) ∧ LaneOnly l s t) ∧
    (∀ addr size v, accessSize size = true → addr + size ≤ 0x10000 →
      ∃ t, exec (.registerWrite l core pc addr size v who) s = .next t ∧ (t.lane l).mem = (s.lane l).mem ∧
        (t.core l core).trap = some ⟨7, pc, some addr⟩) ∧
    (∀ v, s.lets l core SLY_CRC_SEED.reg 4 true who = true → mapFind (s.lane l).tick.dueRegs SLY_CRC_SEED.reg = none → ∃ t, exec (.registerWrite l core pc SLY_CRC_SEED.reg 4 v who) s = .next t ∧
      t.lf l SLY_CRC_SEED = (if core = 4 then v.toNat % 2 ^ 32 else s.lf l SLY_CRC_SEED))

/-- R429, R438 to R441, R445, R447: a request whose checks pass is answered with its data: a READ with the value's bytes from OFFSET, a WRITE
to a configuration object by its pending value, INFO, CANCEL; an unknown index and a refused write with their abort codes; a lane's
outcome ends its relay entry; CAN segments form a request; a transfer without segments ends. -/
def Obligations.ServiceRequestsAnswered : Prop :=
  ∀ (s : State),
    (∀ (c : Client) (b : List Byte) (p : Pdu), s.serviceOpen c = true → c.kind = 1 → s.throttled c.addr = false → p = parsePdu b →
      formCode p b.length false = 0 → p.auth = false →
      (∀ i, i = .serviceRead c b ∧ p.op = 1 ∨ i = .serviceWrite c b ∧ p.op = 2 ∨ i = .serviceInfo c b ∧ p.op = 3 ∨
        i = .serviceCancel c b ∧ p.op = 4 → s.indexExists p.index = false →
        ∃ t, exec i s = .next t ∧ s.answered t c p.op p 0x0201 true [] ∧ t.dict.stored = s.dict.stored) ∧
      (∀ r, s.indexExists p.index = true → s.serviceRow p.index p.sub = some r →
        (∀ v, p.op = 1 → r.acc ≠ .wo → v = s.readValue p.index p.sub r → p.len ≠ 0 → p.offset < v.length →
          ∃ t, exec (.serviceRead c b) s = .next t ∧ t.hub = s.hub ∧ t.dict.stored = s.dict.stored ∧
            s.answered t c 1 p 0 (p.offset + min (min p.len 992) (v.length - p.offset) == v.length) ((v.drop p.offset).take (min p.len 992))) ∧
        (p.op = 3 → ∃ t, exec (.serviceInfo c b) s = .next t ∧ s.answered t c 3 p 0 true (s.infoBytes p.index p.sub r) ∧ t.hub = s.hub) ∧
        (p.op = 4 → ∃ t, exec (.serviceCancel c b) s = .next t ∧ s.answered t c 4 p 0 true [] ∧
          (∀ x, s.transferAt (objKey p.index p.sub) = some x → x.client = c → t.transferAt (objKey p.index p.sub) = none)) ∧
        (∀ code, p.op = 2 → code = s.writeCode (s.requestSource c 0) p.index p.sub r →
          (code ≠ 0 → ∃ t, exec (.serviceWrite c b) s = .next t ∧ s.answered t c 2 p code true [] ∧ t.dict.pend = s.dict.pend ∧
            t.dict.stored = s.dict.stored) ∧
          (code = 0 → r.acc = .rwc → s.laneOwned p.index p.sub = false → p.first = true → p.last = true → p.offset = 0 →
            s.transferAt (objKey p.index p.sub) = none → p.len ≤ typeLen r.ty → (typeFixed r.ty = true → p.len = typeLen r.ty) →
            s.valueOk p.index p.sub r p.data = true →
            ∃ t, exec (.serviceWrite c b) s = .next t ∧ s.answered t c 2 p 0 true [] ∧
              mapFind t.dict.pend (objKey p.index p.sub) = some p.data ∧ t.dict.stored = s.dict.stored)))) ∧
    (∀ (l : LaneId) (b : List Byte) (p : Pdu) e, s.hub.supplied = true → s.hub.mgmtUp = true → s.md.mode ≠ .stowed → p = parsePdu b →
      formCode p b.length true = 0 → p.op = 16 → s.svc.relay.find? (fun e => e.seq == p.tid) = some e →
      ∃ t, exec (.serviceOutcome l b) s = .next t ∧ e ∉ t.svc.relay ∧ t.svc.outcomes.head? = some (p.tid, p.abort)) ∧
    (∀ (l : LaneId) base r n, base = laneRing l.idx → r = s.ringCount (base + 0xFF04) → s.serviceOpen (laneClient l) = true →
      n = leNat (memRead s.hub.sram (base + 0x410 * (r % 16)) 2) → n ≤ 1024 →
      (s.ringCount (base + 0xFF00) ≠ r → exec (.laneLocalRequest l) s =
        .next ((s.sramSet (base + 0xFF04) (leBytes 4 ((r + 1) % 2 ^ 32))).serve (laneClient l)
          (memRead s.hub.sram (base + 0x410 * (r % 16) + 16) n))) ∧
      (s.ringCount (base + 0xFF00) = r → exec (.laneLocalRequest l) s = .next s)) ∧
    (∀ ch (f : CanFrame) h, s.serviceOpen (canClient ch) = true → s.canOn ch = true → s.isService ch f = true → f.remote = false → f.data ≠ [] →
      h = byteAt f.data 0 →
      (s.svc.canRx = none → bitOf h 7 = true → bitOf h 6 = false → h % 64 = 0 →
        exec (.canServiceSegment ch f) s = .next { s with svc := { s.svc with canRx := some (1, f.data.drop 1) } }) ∧
      (∀ n got, s.svc.canRx = some (n, got) → bitOf h 7 = false → h % 64 = n → n < 64 →
        (bitOf h 6 = false → exec (.canServiceSegment ch f) s =
          .next { s with svc := { s.svc with canRx := some ((n + 1) % 64, got ++ f.data.drop 1) } }) ∧
        (bitOf h 6 = true → exec (.canServiceSegment ch f) s =
          .next (({ s with svc := { s.svc with canRx := none } } : State).serve (canClient ch) (trimPdu (got ++ f.data.drop 1))))) ∧
      (∀ n got, s.svc.canRx = some (n, got) → bitOf h 7 = false → h % 64 ≠ n →
        ∃ t, exec (.canServiceSegment ch f) s = .next t ∧ t.svc.canRx = none ∧ t.dict = s.dict)) ∧
    (s.svc.canRx.isSome → ∃ t, exec .canSegmentGapTimeout s = .next t ∧ t.svc.canRx = none ∧ t.dict = s.dict) ∧
    (∀ i j x, s.transferAt (objKey i j) = some x → ∃ t, exec (.transferTimeout i j) s = .next t ∧ t.transferAt (objKey i j) = none ∧
      (t.deadAt x.client (objKey i j)).map (fun d => d.code) = some 0x0601 ∧ t.dict = s.dict) ∧
    (s.hub.supplied = true → s.hub.mgmtUp = true → ∃ t, exec .relayEntryExpire s = .next t ∧
      ∀ e, e ∈ t.svc.relay ↔ e ∈ s.svc.relay ∧ ∀ x ∈ s.svc.relay, 16 ≤ x.snaps → x.req ≠ e.req)

/-- R426, R429, R435: a commit whose conditions all hold takes the pending set and every lane takes it up at its next edge; one that
fails changes no object but its result; a discard empties the pending set, a restore puts the defaults into it, an image's values go
there too; a train directory is kept and relayed to the lanes. -/
def Obligations.ConfigurationCommittedOrDiscarded : Prop :=
  ∀ (s : State) (src : Nat),
    (s.configOpen src = true →
      ((∀ c ∈ (s.merged.withPair).conds, c.ok = true) → ∃ t, exec (.configCommit src) s = .next t ∧ t.dict.pend = [] ∧ t.dict.pendApp = none ∧
        t.dict.copy = 1 - s.dict.copy ∧ t.dict.copySeq = s.dict.copySeq + 1 ∧ t.objBytes 0x0120 2 = [0] ∧ ∀ l, (t.lane l).cfgDue = true) ∧
      ((∃ c ∈ (s.merged.withPair).conds, c.ok = false) → ∃ t, exec (.configCommit src) s = .next t ∧ t.dict.pend = s.dict.pend ∧
        t.dict.stored = s.dict.stored ∧ t.objBytes 0x0120 2 = [1] ∧ t.md = s.md) ∧
      exec (.configDiscard src) s = .next { s with dict := { s.dict with pend := [], pendApp := none } } ∧
      (∃ t, exec (.configRestoreDefaults src) s = .next t ∧ t = { s with dict := { s.dict with pend := t.dict.pend } } ∧
        mapFind t.dict.pend (objKey 0x3400 1) = some [2] ∧
        ∀ k, 0x0100 * 256 ≤ k → k < 0x0112 * 256 → mapFind t.dict.pend k = mapFind s.dict.pend k) ∧
      (∀ b, s.dictImageCode b ≠ 0 → exec (.dictionaryImageLoad src b) s = .next s) ∧
      (∀ b u, s.loadImage b = (u, 0) → ∃ t, exec (.dictionaryImageLoad src b) s = .next t ∧ t = { s with dict := t.dict } ∧
        t.dict.stored = s.dict.stored)) ∧
    (s.configOpen src = false → ∀ i, i = .configCommit src ∨ i = .configDiscard src ∨ i = .configRestoreDefaults src ∨
      (∃ b, i = .dictionaryImageLoad src b) → exec i s = .next s) ∧
    (∀ b : List Byte, s.hub.supplied = true → s.hub.mgmtUp = true → s.pde.relayArmed = true → 1 ≤ s.sourceLevel src → b.length = 28 →
      s.svc.relay.length + 1 ≤ 136 →
      ∃ t e, exec (.trainDirectoryWrite src b) s = .next t ∧ t.svc.relay = s.svc.relay ++ [e] ∧ e.index = 0x0210 ∧ e.sub = 1 ∧ e.source = src ∧
        e.value = b ∧ t.svc.seq = (s.svc.seq + 1) % 65536 ∧ mapFind t.dict.vol (objKey 0x0210 1) = some b)

/-- R450 to R452, R457, R458, R461, R462, R467 to R469: a client at its violation limit is throttled until its hold ends; partners gain
tokens back and free their slots; a lane's submission is queued, lost or recorded; a code's token gained writes a pending summary; a
decant of a range that is present runs and ends with its result; unfreeze and reopen act for those who may. -/
def Obligations.PartnersAndCellarBook : Prop :=
  ∀ (s : State),
    (∀ p, s.hub.supplied = true →
      (37 ≤ p → p ≤ 68 → (s.partner p).until_ = none → s.obj 0x7001 3 ≤ s.recentViol p →
        ∃ t f, exec (.partnerThrottle p) s = .next t ∧ (t.partner p).until_ = some f ∧ (t.partner p).throttles = (s.partner p).throttles + 1 ∧
          ((s.partner p).throttleAt = [] → f = frameAdd s.hub.frame (s.framesOf (min 3600 (s.obj 0x7001 5))))) ∧
      (∀ f, (s.partner p).until_ = some f → (frameGe s.hub.frame f = true → ∃ t, exec (.throttleEnd p) s = .next t ∧
          (t.partner p).until_ = none ∧ (t.partner p).dropped = 0) ∧
        (frameGe s.hub.frame f = false → exec (.throttleEnd p) s = .next s)) ∧
      (0 < (s.partner p).used → (s.framesOf (s.obj 0x7001 2) : Int) ≤ frameDiff s.hub.frame (s.partner p).since →
        ∃ t, exec (.tokenRefill p) s = .next t ∧ (t.partner p).used = (s.partner p).used - 1 ∧
          (t.partner p).supp = (s.partner p).supp ∧ t = { s with partners := t.partners }) ∧
      (37 ≤ p → p ≤ 68 → (s.partner p).until_ = none → 0 < (s.partner p).viol →
        (s.framesOf 3600 : Int) ≤ frameDiff s.hub.frame (s.partner p).lastFrame →
        ∃ t, exec (.partnerSlotFree p) s = .next t ∧ mapFind t.partners p = none ∧ t = { s with partners := t.partners })) ∧
    (∀ (l : LaneId) v sub, (s.lane l).supplied = true → s.hub.supplied = true → sub = s.submission l v →
      (64 ≤ (s.lane l).book.queue.length → s.book.ready = false ∨ s.bookDue sub = false → ∃ t, exec (.cbkSubmit l 4 v) s = .next t ∧ t.book = s.book ∧ (t.lane l).book.loss = true ∧
        (t.lane l).book.queue = (s.lane l).book.queue ∧ t.lf l CBK_CNT_LOST = satAdd 0xFFFF (s.lf l CBK_CNT_LOST) 1) ∧
      ((s.lane l).book.queue.length < 64 → s.book.ready = false ∨ s.bookDue sub = false →
        ∃ t, exec (.cbkSubmit l 4 v) s = .next t ∧ (t.lane l).book.queue = (s.lane l).book.queue ++ [sub] ∧ t.book = s.book ∧ LaneOnly l s t) ∧
      (s.book.ready = true → s.bookDue sub = true → ∃ t, exec (.cbkSubmit l 4 v) s = .next t ∧ EventOnly s t)) ∧
    (∀ code burst refill k, s.rateOf code = some (burst, refill) → s.book.ready = true → k = s.bucket code burst → k.tokens < burst →
      (s.framesOf refill : Int) ≤ frameDiff s.hub.frame k.since →
      (k.pending = 0 → ∃ t, exec (.cbkTokenGain code) s = .next t ∧ (t.bucket code burst).tokens = k.tokens + 1 ∧ t.book.next = s.book.next) ∧
      (k.pending ≠ 0 → ∃ t, exec (.cbkTokenGain code) s = .next t ∧ (t.bucket code burst).tokens = k.tokens ∧ (t.bucket code burst).pending = 0 ∧
        t.book.next = s.book.next + 1)) ∧
    (∀ src first count toSd i, i = (if toSd = true then Instr.decantToSd src else Instr.decantToService src) → first = s.obj 0x7110 3 →
      count = s.obj 0x7110 4 → first ≠ 0 → count ≠ 0 →
      (s.decantRefused src = 0 → (toSd = true ∨ count ≤ 4096) → (s.areaRange (s.obj 0x7110 2)).1 ≤ first →
        first + count ≤ (s.areaRange (s.obj 0x7110 2)).2 + 1 →
        ∃ t, exec i s = .next t ∧ t.book.decant.active = true ∧ t.book.decant.toSd = toSd ∧ t.book.decant.area = s.obj 0x7110 2 ∧
          t.book.decant.first = first ∧ t.book.decant.count = count ∧ t.book.decant.host = src ∧ t.book.ring = s.book.ring) ∧
      (s.decantRefused src ≠ 0 → exec i s = .next s)) ∧
    (∀ card f, s.book.decant.active = true → s.decantFile s.book.decant = some f →
      (s.book.decant.toSd = true → card ≠ 2 → card ≠ 3 → ∃ t, exec (.decantComplete card) s = .next t ∧ t.book.decant.active = false ∧
        t.book.decant.result = 0 ∧ t.tx = ⟨.file, s.book.decant.area, s.book.decant.first, f⟩ :: s.tx) ∧
      (s.book.decant.toSd = true → card = 2 ∨ card = 3 → ∃ t, exec (.decantComplete card) s = .next t ∧ t.book.decant.active = false ∧
        t.book.decant.result = card ∧ t.tx = s.tx) ∧
      (s.book.decant.toSd = false → ∃ t, exec (.decantComplete card) s = .next t ∧ t.book.decant.active = false ∧
        t.book.decant.result = 0 ∧ t.book.decant.file = f ∧ t.tx = s.tx)) ∧
    (s.book.decant.active = true → s.book.decant.toSd = true → ∃ t, exec .sdCardRemoval s = .next t ∧ t.book.decant.active = false ∧
      t.book.decant.result = 2) ∧
    (∀ src, s.md.mode ≠ .stowed → s.md.mode ≠ .start →
      (2 ≤ s.sourceLevel src → ∃ t, exec (.unfreezeTail src) s = .next t ∧ t.book.frozen = false ∧ t.book.counting = false ∧ t.book.freeze = 0 ∧
        t.book.tail = s.book.tail ∧ t = { s with book := t.book }) ∧
      (s.sourceLevel src < 2 → exec (.unfreezeTail src) s = .next s) ∧
      (3 ≤ s.sourceLevel src → s.md.mode = .depot → s.md.life = .depotOpen → s.book.decant.ffDecanted = true →
        ∃ t, exec (.reopenFirstFill src) s = .next t ∧ t.book.ffBase = s.book.next ∧ t.book.ffCount = 0 ∧ t.book.ffFull = false ∧
          t.book.ring = s.book.ring ∧ t = { s with book := t.book }) ∧
      (s.md.mode ≠ .depot ∨ s.md.life ≠ .depotOpen ∨ s.book.decant.ffDecanted = false → exec (.reopenFirstFill src) s = .next s))

/-- R230, R233, R234, R238, R245, R248: a staging request that the module permits begins staging, and segments lay out the host's
container; a complete image is staged into the inactive bank, or ends staging with its code; a staged image is switched to, installed in
service or at the next start, aborted or discarded. A request without the rights of level 2 gets code 1 and changes nothing else. -/
def Obligations.StagingAndRackingRequests : Prop :=
  ∀ (s : State) (src : Nat),
    (∀ i kind sd, i = .stageProgramFromHost src ∧ kind = 1 ∧ sd = false ∨ i = .stageProgramFromSd src ∧ kind = 1 ∧ sd = true ∨
        i = .stageFirmwareFromHost src ∧ kind = 2 ∧ sd = false ∨ i = .stageFirmwareFromSd src ∧ kind = 2 ∧ sd = true →
      (2 ≤ s.sourceLevel src → stageLife (kind == 2) s.md.life = true → s.md.mode ≠ .stowed → s.md.mode ≠ .start →
        s.rack.state = 0 ∨ s.rack.state = 2 → ∃ t, exec i s = .next t ∧ t.rack.state = 1 ∧ t.rack.kind = kind ∧
          t.rack.fromSd = sd ∧ t.rack.code = 0 ∧ t.rack.staged = false ∧ t.store = s.store ∧ t.md = s.md ∧ t.hub = s.hub) ∧
      (2 ≤ s.sourceLevel src → s.rack.state ≠ 0 → s.rack.state ≠ 2 → exec i s = .next (s.rackCode 1)) ∧
      (s.md.life = .retired → exec i s = .next (s.rackCode 1))) ∧
    (∀ data, 2 ≤ s.sourceLevel src → data ≠ [] → data.length ≤ 1048576 → s.obj 0x1161 2 + data.length ≤ s.obj 0x1161 1 →
      ∃ t, exec (.stagingSegmentWrite src data) s = .next t ∧ t.rack.host = overlay s.rack.host (s.obj 0x1161 2) data ∧
        t = { s with rack := t.rack } ∧ t.rack.state = s.rack.state) ∧
    (∀ card, (s.rack.state ≠ 1 → exec (.stagingComplete card) s = .next s) ∧
      (s.rack.state = 1 → s.stagingImage card = none → s.copyCode card = 2) ∧
      (s.rack.state = 1 → s.copyCode card ≠ 0 → ∃ t, exec (.stagingComplete card) s = .next t ∧ t.rack.state = 0 ∧
        t.rack.code = s.copyCode card ∧ t.rack.staged = false ∧ t.store = s.store) ∧
      (∀ img, s.rack.state = 1 → s.copyCode card = 0 → s.stagingImage card = some img →
        ((∀ l, (s.lane l).supplied = true → s.laneCode l img = 0) →
          ∃ t, exec (.stagingComplete card) s = .next t ∧ t.rack.state = 2 ∧ t.rack.staged = true ∧ t.rack.code = 0 ∧
            t.rack.stagedId = imgId img ∧ t.md = s.md ∧ t.hub = s.hub ∧
            (s.rack.kind = 1 → mapFind t.store.prog (1 - s.sup.ka.progBank) = some img ∧ t.store.fw = s.store.fw) ∧
            (s.rack.kind ≠ 1 → mapFind t.store.fw s.stagedFwBank = some img ∧ t.store.prog = s.store.prog)) ∧
        (∀ l, (s.lane l).supplied = true → s.laneCode l img ≠ 0 →
          (∀ k, (s.lane k).supplied = true → k.idx < l.idx → s.laneCode k img = 0) →
          ∃ t, exec (.stagingComplete card) s = .next t ∧ t.rack.state = 0 ∧ t.rack.code = s.laneCode l img ∧
            t.rack.staged = false ∧ t.store = s.store))) ∧
    (2 ≤ s.sourceLevel src → s.rack.state = 2 → s.md.life = .commissioning ∨ s.md.life = .inService → s.md.mode = .safe3 →
      (s.stagedOnMembers 1 = true → s.realigning = false →
        (s.obj 0x1160 2 = 0 → ∃ t, exec (.switchProgram src) s = .next t ∧
          t.rack.state = 3 ∧ t.rack.switchFrame = some (frameAdd s.modFrame 4) ∧ t.rack.gateMsgs = [] ∧ t.rack.code = 0 ∧
          t.store = s.store ∧ t.md = s.md) ∧
        (s.obj 0x1160 2 ≠ 0 → 4 ≤ frameDiff (s.obj 0x1160 2) s.modFrame → frameDiff (s.obj 0x1160 2) s.modFrame ≤ 2 ^ 20 →
          ∃ t, exec (.switchProgram src) s = .next t ∧ t.rack.state = 3 ∧ t.rack.switchFrame = some (s.obj 0x1160 2) ∧
            t.rack.code = 0 ∧ t.store = s.store ∧ t.md = s.md) ∧
        (s.obj 0x1160 2 ≠ 0 → frameDiff (s.obj 0x1160 2) s.modFrame < 4 ∨ 2 ^ 20 < frameDiff (s.obj 0x1160 2) s.modFrame →
          exec (.switchProgram src) s = .next (s.rackCode 0x13))) ∧
      (s.stagedOnMembers 2 = true →
        ((∀ l, inSet s.members l = true → 0 < s.lf l VOT_SCFG_ENTRIES) → ∃ t, exec (.installInService src) s = .next t ∧
          t.rack.state = 4 ∧ t.rack.install = some { lanes := [0, 1, 2] } ∧ t.rack.code = 0 ∧ t = { s with rack := t.rack }) ∧
        (∀ l, inSet s.members l = true → s.lf l VOT_SCFG_ENTRIES = 0 → exec (.installInService src) s = .next (s.rackCode 1)))) ∧
    (2 ≤ s.sourceLevel src → s.md.life ≠ .retired →
      (s.md.mode = .configure ∨ s.md.mode = .depot → s.rack.state = 2 → s.rack.staged = true → s.rack.kind = 2 →
        ∃ t, exec (.installAtNextStart src) s = .next t ∧ t.rack.state = 9 ∧ t.sup.ka.selPending = true ∧ t.store = s.store ∧
          ∀ k, k < 4 → mapGet 0 t.sup.ka.sel k = s.stagedFwBank) ∧
      (s.md.mode ≠ .stowed →
        (s.rack.state = 1 → ∃ t, exec (.abortRacking src) s = .next t ∧ t.rack.state = 0 ∧ t.rack.code = 0x12 ∧ t.store = s.store) ∧
        (s.rack.state = 3 → ∃ t, exec (.abortRacking src) s = .next t ∧ t.rack.state = 2 ∧ t.rack.switchFrame = none ∧
          t.store = s.store) ∧
        (s.rack.state = 9 → ∃ t, exec (.abortRacking src) s = .next t ∧ t.rack.state = 2 ∧ t.sup.ka.selPending = false ∧
          ∀ k, k < 4 → mapGet 0 t.sup.ka.sel k = s.sup.ka.fwBank) ∧
        (∀ n, 4 ≤ s.rack.state → s.rack.state ≤ 6 → s.rack.install = some n → n.revert = false → n.left = true →
          ∃ t, exec (.abortRacking src) s = .next t ∧ t.rack.install = some { n with aborting := true } ∧
            t.rack.state = s.rack.state ∧ t.rack.code = 0x12 ∧ t.store = s.store) ∧
        (s.rack.install = none → s.rack.state < 4 ∨ 8 < s.rack.state →
          ∃ t, exec (.discardStaged src) s = .next t ∧ t.rack.state = 0 ∧ t.rack.code = 0 ∧ t.rack.staged = false ∧
          t.store = { s.store with prog := t.store.prog, fw := t.store.fw } ∧
          (s.rack.kind = 1 → t.store.prog = mapErase s.store.prog (1 - s.sup.ka.progBank) ∧ t.store.fw = s.store.fw) ∧
          (s.rack.kind = 2 → t.store.fw = mapErase s.store.fw s.stagedFwBank ∧ t.store.prog = s.store.prog) ∧
          (s.rack.kind ≠ 1 → s.rack.kind ≠ 2 → t.store = s.store)))) ∧
    (s.sourceLevel src < 2 → ∀ i, i = .stageProgramFromHost src ∨ i = .stageProgramFromSd src ∨ i = .stageFirmwareFromHost src ∨
      i = .stageFirmwareFromSd src ∨ i = .switchProgram src ∨ i = .installInService src ∨ i = .installAtNextStart src ∨
      i = .abortRacking src ∨ i = .discardStaged src → exec i s = .next (s.rackCode 1))

/-- R235, R236, R245, R246, R247: a valid gate message is kept, and a switch record for the coming switch reaches its lane; the next lane to install leaves the vote with its selector at the staged bank;
a lane that is not admitted in time begins the revert, as an abort does, and the last lane of a revert ends it; two members' reports end a
hub restart, which commits the staged bank when it runs, and its time limit ends it as failed. -/
def Obligations.InstallationInService : Prop :=
  ∀ (s : State),
    (∀ (l : LaneId) msg kind, s.sup.supplied = true → msg.length = 32 → leAt msg 28 4 = crc32c (msg.take 28) → byteAt msg 24 = l.idx →
      byteAt msg 25 = kind → 1 ≤ kind → kind ≤ 3 → leAt msg 26 2 = 0 → leAt msg 6 2 = 0 →
      ∃ t, exec (.gateMessageReceive l msg) s = .next t ∧ t = { s with rack := { s.rack with gateMsgs := t.rack.gateMsgs } } ∧
        t.rack.gateMsgs.head? = some ⟨l.idx, kind, leAt msg 0 6, slice msg 8 16⟩) ∧
    (∀ (l : LaneId) msg n, msg.length = 32 → leAt msg 28 4 = crc32c (msg.take 28) → leAt msg 26 2 = 0 → leAt msg 6 2 = 0 →
      byteAt msg 25 = 0x10 ∨ byteAt msg 25 = 0x11 → n = leAt msg 0 6 →
      (s.ticking l = true → s.rack.switchFrame = some n → frameAdd (s.frame l) 1 = n → slice msg 8 16 = padTo 16 s.rack.stagedId →
        ∃ t, exec (.gateMessageReceive l msg) s = .next t ∧ LaneOnly l s t ∧
          t.lane l = { s.lane l with switchRec := some (byteAt msg 25 == 0x10) }) ∧
      (s.ticking l = false ∨ s.rack.switchFrame ≠ some n ∨ frameAdd (s.frame l) 1 ≠ n ∨
        slice msg 8 16 ≠ padTo 16 s.rack.stagedId → exec (.gateMessageReceive l msg) s = .next s)) ∧
    (∀ (l : LaneId) msg, msg.length ≠ 32 ∨ leAt msg 28 4 ≠ crc32c (msg.take 28) ∨ leAt msg 26 2 ≠ 0 ∨ leAt msg 6 2 ≠ 0 ∨
        byteAt msg 24 ≠ l.idx ∧ byteAt msg 25 ≤ 3 ∨ byteAt msg 25 = 0 ∨ 3 < byteAt msg 25 ∧ byteAt msg 25 < 0x10 ∨ 0x11 < byteAt msg 25 →
      exec (.gateMessageReceive l msg) s = .next s) ∧
    (∀ n f rest, s.rack.install = some n → n.lanes = f :: rest → f < 3 →
      (n.left = false → s.md.mode = .safe3 → s.realigning = false → s.inVote (laneOf f) = true →
        s.rack.lastJoin = 0 ∨ (s.framesOf (s.obj 0x1162 2) : Int) ≤ frameDiff s.sup.frame s.rack.lastJoin →
        (n.aborting = false ∨ n.revert = true → ∃ t, exec .installNextLane s = .next t ∧
          t.rack.state = (if n.revert then 8 else 4 + f) ∧ (t.lane (laneOf f)).rt.leave = true ∧
          mapGet 0 t.sup.ka.sel f = (if n.revert then s.sup.ka.fwBank else s.stagedFwBank) ∧
          t.rack.install = s.rack.install ∧ ∀ k, k ≠ laneOf f → (t.lane k).rt = (s.lane k).rt) ∧
        (n.aborting = true → n.revert = false → ∃ t, exec .installNextLane s = .next t ∧ t.rack.code = 0x12 ∧
          mapGet 0 t.sup.ka.sel 3 = s.sup.ka.fwBank ∧ (t.rack.state = 8 ∨ t.rack.state = 2) ∧ ∀ k, (t.lane k).rt = (s.lane k).rt)) ∧
      (n.left = true ∨ s.md.mode ≠ .safe3 ∨ s.realigning = true ∨ s.inVote (laneOf f) = false →
        exec .installNextLane s = .next s) ∧
      (n.left = true → s.obj 0x1162 1 ≤ s.framesMs (frameDiff s.sup.frame n.removed).toNat →
        (n.revert = false → ∃ t, exec .installAdmitTimeout s = .next t ∧ t.rack.code = 0x10 ∧
          mapGet 0 t.sup.ka.sel 3 = s.sup.ka.fwBank ∧ (t.rack.state = 8 ∨ t.rack.state = 2)) ∧
        (n.revert = true → rest = [] →
          exec .installAdmitTimeout s = .next { s with rack := { s.rack with install := none, state := 2 } })) ∧
      (n.left = false ∨ s.framesMs (frameDiff s.sup.frame n.removed).toNat < s.obj 0x1162 1 →
        exec .installAdmitTimeout s = .next s)) ∧
    (∀ (l : LaneId) g reports, s.rack.hubRestart = some g → s.inVote l = true → reports = nOr s.rack.hubReports (2 ^ l.idx) →
      (laneSetCount reports < 2 →
        exec (.hubRunningReport l) s = .next { s with rack := { s.rack with hubReports := reports } }) ∧
      (2 ≤ laneSetCount reports → ∃ t, exec (.hubRunningReport l) s = .next t ∧ t.rack.hubRestart = none ∧ t.hub.mgmtUp = true ∧
        t.hub.bank = s.hub.bank ∧
        (s.hub.bank = s.stagedFwBank → s.rack.install.isSome = true → t.sup.ka.fwBank = s.hub.bank ∧ t.rack.install = none ∧
          t.rack.state = 0 ∧ t.rack.staged = false) ∧
        (s.hub.bank ≠ s.stagedFwBank ∨ s.rack.install = none → t.sup.ka = s.sup.ka ∧ t.rack.install = s.rack.install ∧
          t.rack.state = s.rack.state))) ∧
    (∀ g, s.rack.hubRestart = some g →
      (s.framesMs (frameDiff s.sup.frame g).toNat < 2000 → exec .hubRestartTimeout s = .next s) ∧
      (2000 ≤ s.framesMs (frameDiff s.sup.frame g).toNat →
        (s.rack.hubFails = 0 → ∃ t, exec .hubRestartTimeout s = .next t ∧ t.rack.hubFails = 1 ∧ t.rack.code = 0x11 ∧ t.hub.bank = s.sup.ka.fwBank ∧
          t.hub.mgmtUp = false ∧ t.rack.hubRestart = some s.sup.frame) ∧
        (0 < s.rack.hubFails → ∃ t, exec .hubRestartTimeout s = .next t ∧ t.rack.hubStopped = true ∧ t.rack.hubRestart = none ∧
          t.store = s.store)))

/-- R472, R474, R475, R476, R478, R480: a Cooper set starts when the lane may run it and ends with its result; a repair entry is appended
to the other copy of the repair map and an ageing record to its slot; a commanded test is taken in DEPOT from level 3. -/
def Obligations.CooperSetsAndRecords : Prop :=
  ∀ (s : State) (l : LaneId),
    ((s.lane l).supplied = true → ∀ v set, set = bitsOf v 7 4 → v % 2 = 1 → 1 ≤ set → set ≤ 6 →
      (s.lf l COO_STATUS_STATE = 0 ∨ s.lf l COO_STATUS_STATE = 3 → s.cooMay l set = true →
        ∃ t, exec (.cooperGo l 4 v) s = .next t ∧ LaneOnly l s t ∧ t.lf l COO_STATUS_STATE = 1 ∧ t.lf l COO_STATUS_SET = set ∧
          t.lf l COO_CMD_GO = 1 ∧ t.lf l COO_RESULT = 0) ∧
      (s.cooMay l set = false ∨ s.lf l COO_STATUS_STATE = 1 ∨ s.lf l COO_STATUS_STATE = 2 →
        ∃ t, exec (.cooperGo l 4 v) s = .next t ∧ LaneOnly l s t ∧ t.lf l COO_STATUS_STATE = s.lf l COO_STATUS_STATE ∧
          t.lf l COO_RESULT = s.lf l COO_RESULT)) ∧
    ((s.lane l).supplied = true → ∀ v, v % 2 = 1 →
      (s.lf l COO_STATUS_STATE = 1 → ∃ t, exec (.cooperStop l 4 v) s = .next t ∧ LaneOnly l s t ∧ t.lf l COO_STATUS_STATE = 2 ∧
        t.lf l COO_STOP = 1) ∧
      (s.lf l COO_STATUS_STATE ≠ 1 → exec (.cooperStop l 4 v) s = .next s)) ∧
    (∀ (r : CooperRun), (s.lane l).supplied = true → s.md.closing = none → s.underTest l = false → s.coo.closeAfter = none →
      s.coo.resetAfter = false → r.fails = [] → r.logic = [] → r.remain = [] → r.lpddr = false →
      (s.lf l COO_STATUS_STATE = 1 → ∃ t, exec (.cooperRunDone l r) s = .next t ∧ t.lf l COO_STATUS_STATE = 3 ∧
        t.lf l COO_STATUS_PASS = 1 ∧ t.lf l COO_RESULT = 0 ∧ t.lf l COO_STATUS_RUNNING = 0 ∧ t.lf l COO_CMD_GO = 0 ∧
        t.lf l COO_STOP = 0 ∧ t.md = s.md) ∧
      (s.lf l COO_STATUS_STATE = 2 → ∃ t, exec (.cooperRunDone l r) s = .next t ∧ t.lf l COO_STATUS_STATE = 4 ∧
        t.lf l COO_STATUS_PASS = 0 ∧ t.lf l COO_STATUS_RUNNING = 0 ∧ t.md = s.md)) ∧
    (∀ src, s.hub.supplied = true → 0x20 ≤ src → src ≤ 0x22 →
      (∀ e k q, e.length = 16 → (k, q) = (match s.mapCopy with | some (k, q) => (1 - k, q + 1) | none => (0, 1)) →
        ∃ t, exec (.repairEntrySubmit src e) s = .next t ∧
          t.mramRead (mapBase k + 64) (s.mapEntries ++ [e]).flatten.length = (s.mapEntries ++ [e]).flatten ∧
          leAt (t.mramRead (mapBase k) 64) 4 8 = q % 2 ^ 64 ∧
          (∀ k, t.lane k = s.lane k) ∧ (∀ a, a < mapBase k ∨ mapBase k + 64 + (s.mapEntries ++ [e]).flatten.length ≤ a →
            t.mramRead a 1 = s.mramRead a 1)) ∧
      (∀ e, e.length ≠ 16 → exec (.repairEntrySubmit src e) s = .next s) ∧
      (∀ rec, rec.length = 64 → ∃ t, exec (.ageingRecordSubmit src rec) s = .next t ∧
        t.mramRead (0x60D00000 + 64 * ageSlot s.coo.recs) 64 = rec ∧ t.coo.recs = s.coo.recs + 1 ∧
        (∀ a, a < 0x60D00000 + 64 * ageSlot s.coo.recs ∨ 0x60D00000 + 64 * ageSlot s.coo.recs + 64 ≤ a →
          t.mramRead a 1 = s.mramRead a 1))) ∧
    (∀ src v set, set = bitsOf v 7 4 →
      (3 ≤ s.sourceLevel src → s.md.mode = .depot → s.md.life = .factory ∨ s.md.life = .depotOpen → s.coo.test = none → 4 ≤ set →
        set ≤ 6 → bitsOf v 3 3 = 0 → bitOf v l.idx = true → (s.lane l).supplied = true →
        ∃ t x, exec (.commandedTest src v) s = .next t ∧ t.coo.test = some x ∧ x.set = set ∧ x.blocks = bitsOf v 15 8 ∧
          l.idx ∈ x.lanes ∧ t.md = s.md ∧ t.hub = s.hub) ∧
      (s.sourceLevel src < 3 ∨ s.md.mode ≠ .depot ∨ set < 4 ∨ 6 < set → exec (.commandedTest src v) s = .next s))

/-- R482 to R488, R491: the voltage loop raises a lane's voltage step while a replica's slack is below plan and lowers it while all have
20 ps to spare; the projection of f_max takes a lane below 1200 MHz out; a lower f_allow counts after 60 s; each second a lane reports
its plan, and each 24 hours of operation it writes its ageing record. -/
def Obligations.VoltageLoopAndAgeing : Prop :=
  ∀ (s : State) (l : LaneId), (s.lane l).supplied = true →
    (∀ cpr, (∃ x ∈ cpr, x < (s.lf l AGE_AVS_SLACK_PLAN : Int)) → s.lf l AGE_AVS_V < 60 →
      ∃ t, exec (.avsRaise l cpr) s = .next t ∧ t.lf l AGE_AVS_V = s.lf l AGE_AVS_V + 1 ∧
        ∀ k, k ≠ l → t.lane k = s.lane k) ∧
    (∀ cpr, (∀ x ∈ cpr, (s.lf l AGE_AVS_SLACK_PLAN : Int) ≤ x) ∨ 60 ≤ s.lf l AGE_AVS_V →
      ∃ t, exec (.avsRaise l cpr) s = .next t ∧ t.lf l AGE_AVS_V = s.lf l AGE_AVS_V) ∧
    (∀ cpr, (∀ x ∈ cpr, (s.lf l AGE_AVS_SLACK_PLAN : Int) + 20 < x) → s.lf l AGE_AVS_V_FLOOR < s.lf l AGE_AVS_V →
      ∃ t, exec (.avsLower l cpr) s = .next t ∧ t.lf l AGE_AVS_V = s.lf l AGE_AVS_V - 1 ∧ ∀ k, k ≠ l → t.lane k = s.lane k) ∧
    (∀ cpr, (∃ x ∈ cpr, x ≤ (s.lf l AGE_AVS_SLACK_PLAN : Int) + 20) ∨ s.lf l AGE_AVS_V ≤ s.lf l AGE_AVS_V_FLOOR →
      ∃ t, exec (.avsLower l cpr) s = .next t ∧ t.lf l AGE_AVS_V = s.lf l AGE_AVS_V) ∧
    (∀ slack tj f, f = Config.fmax l.idx slack (s.lf l AGE_AVS_V) tj (s.lf l AGE_PLAN_F_RUN) →
      ∃ t, exec (.fmaxProjection l slack tj) s = .next t ∧ (t.lane l).coop.fmax = f ∧
        (f < 1200 → (t.lane l).out = true ∧ (t.lane l).rt.leave = true) ∧
        (1200 ≤ f → (t.lane l).out = (s.lane l).out ∧ (t.lane l).rt = (s.lane l).rt) ∧
        (s.md.mode = .start → t.lf l AGE_PLAN_F_ALLOW = pointOf f) ∧
        (s.md.mode ≠ .start → (s.lane l).restart = none → t.lf l AGE_PLAN_F_ALLOW = s.lf l AGE_PLAN_F_ALLOW ∧
          (pointOf f ≤ s.lf l AGE_PLAN_F_ALLOW → (t.lane l).coop.allow = none) ∧
          (∀ n, s.lf l AGE_PLAN_F_ALLOW < pointOf f → (s.lane l).coop.allow = some (pointOf f, n) →
            (t.lane l).coop.allow = some (pointOf f, n + 1)))) ∧
    (∀ p n, (s.lane l).coop.allow = some (p, n) → p ≤ 16 →
      (60 ≤ n → s.lf l AGE_PLAN_F_ALLOW < p → ∃ t, exec (.fAllowLower l) s = .next t ∧ LaneOnly l s t ∧
        t.lf l AGE_PLAN_F_ALLOW = p ∧ (t.lane l).coop.allow = none) ∧
      (n < 60 → exec (.fAllowLower l) s = .next s)) ∧
    (s.ticking l = true → runMode (s.laneMode l) = true → s.sup.supplied = true →
      s.frame l % max 1 (1000000000 / max 1 s.period) = 0 → ∃ t r, exec (.ageingReport l) s = .next t ∧
        mapFind t.sup.reports l.idx = some r ∧ r.fAllow = s.lf l AGE_PLAN_F_ALLOW ∧ r.fRun = s.lf l AGE_PLAN_F_RUN ∧
        r.frame = s.frame l ∧ (r.hard = true ↔ s.lf l AGE_PLAN_HARD = 1) ∧ ∀ k, t.lane k = s.lane k) ∧
    (∀ m last, s.hub.supplied = true → last = mapGet 0 s.coo.daily l.idx →
      (last + 86400000000000 ≤ s.coo.opNs → ∃ t, exec (.dailyAgeingRecord l m) s = .next t ∧ t.coo.recs = s.coo.recs + 1 ∧
        mapGet 0 t.coo.daily l.idx = last + 86400000000000 ∧ t.md = s.md) ∧
      (s.coo.opNs < last + 86400000000000 → exec (.dailyAgeingRecord l m) s = .next s))

/-- R500, R503, R504, R507, R509, R510, R513: a handover request is kept by the lanes of a master whose partner is eligible; a yielding
position becomes master again after eight frames without a successor; the hold-off and the start wait end; the shadow comparison raises
and clears its flag. -/
def Obligations.PairRolesAndShadow : Prop :=
  ∀ (s : State),
    (∀ src, (1 ≤ s.sourceLevel src → s.pairOn = true →
        (∃ l, s.ticking l = true ∧ (s.pr l).role = 1 ∧ (s.pr l).hb.any Heartbeat.elig = true) →
        ∃ t, exec (.handoverRequest src) s = .next t ∧
          ∀ l, t.pr l = if s.ticking l = true ∧ (s.pr l).role = 1 ∧ (s.pr l).hb.any Heartbeat.elig = true
            then { s.pr l with asked := true } else s.pr l) ∧
      (s.sourceLevel src = 0 ∨ s.pairOn = false ∨ (∀ l, (s.pr l).role ≠ 1) → exec (.handoverRequest src) s = .next s)) ∧
    (∀ l, s.ticking l = true → s.pairOn = true →
      (∀ e, (s.pr l).yieldAt = some e → (s.pr l).role = 2 →
        (frameGe (s.frame l) (frameAdd e 8) = true → ∃ t, exec (.handoverTimeout l) s = .next t ∧ (t.pr l).role = 1 ∧
          (t.pr l).yieldAt = none ∧ t.lf l PAIR_CTL_ROLE = 1 ∧ ∀ k, k ≠ l → t.pr k = s.pr k) ∧
        (frameGe (s.frame l) (frameAdd e 8) = false → exec (.handoverTimeout l) s = .next s)) ∧
      (s.framesOf (s.obj 0x7300 6) ≤ (s.pr l).takeRun → (s.pr l).takeRun ≠ 0 → (s.pr l).role = 0 → (s.pr l).take = false →
        s.obj 0x7300 7 ≠ 0 →
        ((s.recentBacks l).length < s.obj 0x7300 7 → ∃ t, exec (.takeHoldoffExpire l) s = .next t ∧ LaneOnly l s t ∧
          (t.pr l).take = true) ∧
        (s.obj 0x7300 7 ≤ (s.recentBacks l).length → (s.pr l).held = false → ∃ t, exec (.takeHoldoffExpire l) s = .next t ∧
          (t.pr l).take = false ∧ (t.pr l).held = true)) ∧
      ((s.pr l).role = 0 → (s.pr l).waiting = true → s.eligible l = true →
        (s.framesOf (s.obj 0x7300 9) ≤ (s.pr l).lowRun → ∃ t, exec (.startWaitExpire l) s = .next t ∧ (t.pr l).role = 1 ∧
          (t.pr l).waiting = false ∧ t.lf l PAIR_CTL_ROLE = 1) ∧
        ((s.pr l).lowRun < s.framesOf (s.obj 0x7300 9) → exec (.startWaitExpire l) s = .next s))) ∧
    (∀ l,
      (∀ h, (s.pr l).last = some h → s.lf l PAIR_CFG_SHADOW_N ≤ (s.pr l).diff → (s.pr l).ok = true →
        ∃ t, exec (.shadowMismatch l) s = .next t ∧ (t.pr l).ok = false ∧ t.lf l PAIR_STAT_SHADOW_OK = 0 ∧
          (t.pr l).role = (s.pr l).role) ∧
      ((s.pr l).diff < s.lf l PAIR_CFG_SHADOW_N → exec (.shadowMismatch l) s = .next s) ∧
      (s.lf l PAIR_CFG_SHADOW_N ≤ (s.pr l).same → (s.pr l).ok = false →
        ∃ t, exec (.shadowMismatchClear l) s = .next t ∧ (t.pr l).ok = true ∧ t.lf l PAIR_STAT_SHADOW_OK = 1) ∧
      ((s.pr l).same < s.lf l PAIR_CFG_SHADOW_N → exec (.shadowMismatchClear l) s = .next s))

/-- A step takes the command at the front of the queue and gives it its effect on the state with the queue's rest; with no command
waiting the block idles (the model's choice, log entry 1). -/
def Obligations.FrontCommandIsExecuted : Prop :=
  (∀ (s : State) (i : Instr) (rest : List Instr), s.pending = i :: rest → step s = exec i { s with pending := rest }) ∧
  (∀ s : State, s.pending = [] → step s = .next s)

/-- Every step of every state answers a next state, and shortens the queue by the command that it took: no command of the table stops
the block, and none sends commands to it. -/
def Obligations.EveryStepGoesOnAndTakesOne : Prop :=
  ∀ s : State, ∃ t, step s = .next t ∧ t.pending = s.pending.tail

/-- R106: along every step the life cycle never comes back to FACTORY nor, once left, to COMMISSIONING, and never leaves RETIRED; and
no command of the table leads out of FACTORY. -/
def Obligations.LifeCycleNeverGoesBack : Prop :=
  ∀ (s t : State), step s = .next t →
    (t.md.life = .factory ↔ s.md.life = .factory) ∧
    (s.md.life ≠ .factory → s.md.life ≠ .commissioning → t.md.life ≠ .commissioning) ∧
    (s.md.life = .retired → t.md.life = .retired)

/-- R82, R94, R105, R108, R176, R497: after reset the module is STOWED with the supervisor alone supplied, no command waits, every
switch is open, no output is energised, every memory is in its canonical form and the mode, coded-arithmetic and pair registers hold
their reset values. The life-cycle state COMMISSIONING, in which the module ships, is the model's choice (log entry 3). -/
def Obligations.ResetStateIsStowedAndOff : Prop :=
  State.reset.pending = [] ∧ State.reset.md.mode = .stowed ∧ State.reset.md.life = .commissioning ∧ State.reset.hub.supplied = false ∧
  State.reset.sup.supplied = true ∧ State.reset.memWf = true ∧ State.reset.haltOff ∧
  (∀ d o, State.reset.closed d o = false) ∧ (∀ o, State.reset.energised o = false) ∧
  ∀ l, (State.reset.lane l).supplied = false ∧ State.reset.lreg l TCK_MODE_MODE.reg = 1 ∧ (State.reset.pr l).role = 3 ∧
    ∀ c, c < 4 → xReg (State.reset.core l c) 0 = 0 ∧ cf l (State.reset.core l c) CDA_CTL_EN = 0
end

