-- ==== Sys2Proof/Laws/Field.lean ====
section
/-! SUPPORT. Laws of bit fields: a field read after it was set, another field of the same register, and the width of a value. -/

namespace Sys2Proof.Machine

/-- A number cut at a field: what lies above, the field, what lies below. -/
theorem cut_field (v hi lo : Nat) :
    v = v / 2 ^ lo / 2 ^ (hi + 1 - lo) * 2 ^ (hi + 1 - lo) * 2 ^ lo + bitsOf v hi lo * 2 ^ lo + v % 2 ^ lo := by
  unfold bitsOf
  have h1 := Nat.div_add_mod v (2 ^ lo)
  have h2 := Nat.div_add_mod (v / 2 ^ lo) (2 ^ (hi + 1 - lo))
  rw [← Nat.add_mul, Nat.mul_comm (v / 2 ^ lo / 2 ^ (hi + 1 - lo)), h2, Nat.mul_comm, h1]

/-- A number with a field set, cut at that field. -/
theorem setBits_cut (v hi lo x : Nat) :
    setBits v hi lo x = (v / 2 ^ lo / 2 ^ (hi + 1 - lo) * 2 ^ (hi + 1 - lo) + x % 2 ^ (hi + 1 - lo)) * 2 ^ lo + v % 2 ^ lo := by
  unfold setBits
  have h := cut_field v hi lo
  rw [Nat.add_mul]
  generalize v / 2 ^ lo / 2 ^ (hi + 1 - lo) * 2 ^ (hi + 1 - lo) * 2 ^ lo = A at *
  generalize bitsOf v hi lo * 2 ^ lo = B at *
  generalize x % 2 ^ (hi + 1 - lo) * 2 ^ lo = C at *
  omega

/-- A field reads as it was set. -/
theorem bitsOf_setBits_same (v hi lo x : Nat) : bitsOf (setBits v hi lo x) hi lo = x % 2 ^ (hi + 1 - lo) := by
  rw [setBits_cut]
  unfold bitsOf
  have hp : 0 < 2 ^ lo := Nat.two_pow_pos lo
  rw [Nat.mul_comm _ (2 ^ lo), Nat.mul_add_div hp, Nat.div_eq_of_lt (Nat.mod_lt v hp), Nat.add_zero, Nat.mul_comm _ (2 ^ (hi + 1 - lo)),
    Nat.mul_add_mod, Nat.mod_mod]

/-- A field above the one set reads as before. -/
theorem bitsOf_setBits_above (v hi lo x hi' lo' : Nat) (h : hi < lo') (hl : lo ≤ hi) :
    bitsOf (setBits v hi lo x) hi' lo' = bitsOf v hi' lo' := by
  rw [setBits_cut]
  unfold bitsOf
  have hp : 0 < 2 ^ lo := Nat.two_pow_pos lo
  obtain ⟨k, rfl⟩ : ∃ k, lo' = lo + (hi + 1 - lo) + k := ⟨lo' - (hi + 1), by omega⟩
  generalize hi + 1 - lo = n
  have hn : 0 < 2 ^ n := Nat.two_pow_pos n
  have e : ∀ w, w / 2 ^ (lo + n + k) = w / 2 ^ lo / 2 ^ n / 2 ^ k := by
    intro w
    rw [Nat.div_div_eq_div_mul, Nat.div_div_eq_div_mul, ← Nat.pow_add, ← Nat.pow_add, Nat.add_assoc]
  rw [e, e, Nat.mul_comm _ (2 ^ lo), Nat.mul_add_div hp, Nat.div_eq_of_lt (Nat.mod_lt v hp), Nat.add_zero, Nat.mul_comm _ (2 ^ n),
    Nat.mul_add_div hn, Nat.div_eq_of_lt (Nat.mod_lt x hn), Nat.add_zero]

/-- A field below the one set reads as before. -/
theorem bitsOf_setBits_below (v hi lo x hi' lo' : Nat) (h : hi' < lo) (hl : lo' ≤ hi') :
    bitsOf (setBits v hi lo x) hi' lo' = bitsOf v hi' lo' := by
  rw [setBits_cut]
  generalize (v / 2 ^ lo / 2 ^ (hi + 1 - lo) * 2 ^ (hi + 1 - lo) + x % 2 ^ (hi + 1 - lo)) = A
  have low : ∀ w, bitsOf w hi' lo' = w % 2 ^ lo / 2 ^ lo' % 2 ^ (hi' + 1 - lo') := by
    intro w
    unfold bitsOf
    obtain ⟨k, rfl⟩ : ∃ k, lo = lo' + ((hi' + 1 - lo') + k) := ⟨lo - (hi' + 1), by omega⟩
    rw [Nat.pow_add, Nat.mod_mul_right_div_self, Nat.pow_add, Nat.mod_mul_right_mod]
  rw [low, low v, Nat.mul_comm, Nat.mul_add_mod, Nat.mod_mod]

/-- Setting a field of a 64-bit value keeps it a 64-bit value. -/
theorem setBits_lt (v hi lo x : Nat) (hv : v < 2 ^ 64) (h : hi < 64) (hl : lo ≤ hi) : setBits v hi lo x < 2 ^ 64 := by
  have h0 : bitsOf (setBits v hi lo x) 128 64 = 0 := by
    rw [bitsOf_setBits_above _ _ _ _ _ _ h hl]
    unfold bitsOf
    rw [Nat.div_eq_of_lt hv, Nat.zero_mod]
  rw [setBits_cut]
  have hp : 0 < 2 ^ lo := Nat.two_pow_pos lo
  obtain ⟨k, hk⟩ : ∃ k, 64 = lo + ((hi + 1 - lo) + k) := ⟨64 - (hi + 1), by omega⟩
  generalize hi + 1 - lo = n at *
  have e : 2 ^ 64 = 2 ^ lo * (2 ^ n * 2 ^ k) := by rw [← Nat.pow_add, ← Nat.pow_add, ← hk]
  have hx := Nat.mod_lt x (Nat.two_pow_pos n)
  have hr := Nat.mod_lt v hp
  have hq : v / 2 ^ lo / 2 ^ n < 2 ^ k := by
    rw [Nat.div_div_eq_div_mul]
    apply Nat.div_lt_of_lt_mul
    rw [Nat.mul_assoc, ← e]
    exact hv
  rw [e]
  generalize v / 2 ^ lo / 2 ^ n = q at *
  generalize x % 2 ^ n = x' at *
  generalize v % 2 ^ lo = r at *
  have a1 : q * 2 ^ n + x' + 1 ≤ 2 ^ n * 2 ^ k := by
    calc q * 2 ^ n + x' + 1 ≤ q * 2 ^ n + 2 ^ n := by omega
      _ = 2 ^ n * (q + 1) := by ring
      _ ≤ 2 ^ n * 2 ^ k := Nat.mul_le_mul_left _ hq
  calc (q * 2 ^ n + x') * 2 ^ lo + r < (q * 2 ^ n + x' + 1) * 2 ^ lo := by
        rw [Nat.add_mul _ 1]
        omega
    _ ≤ 2 ^ n * 2 ^ k * 2 ^ lo := Nat.mul_le_mul_right _ a1
    _ = 2 ^ lo * (2 ^ n * 2 ^ k) := Nat.mul_comm _ _

/-- A well-formed field lies within 64 bits. -/
def Fld.ok (f : Fld) : Bool := decide (f.lo ≤ f.hi) && decide (f.hi < 64)

/-- A field of a register reads as it was set. -/
theorem fldGet_fldSet_same (f : Fld) (v : Word) (x : Nat) (hf : f.ok = true) : fldGet f (fldSet f v x) = x % 2 ^ (f.hi + 1 - f.lo) := by
  simp only [Fld.ok, Bool.and_eq_true, decide_eq_true_eq] at hf
  unfold fldGet fldSet
  rw [BitVec.toNat_ofNat, Nat.mod_eq_of_lt (setBits_lt _ _ _ _ v.isLt hf.2 hf.1), bitsOf_setBits_same]

/-- Another field of the register reads as before. -/
theorem fldGet_fldSet_other (f g : Fld) (v : Word) (x : Nat) (hf : f.ok = true) (hg : g.lo ≤ g.hi) (h : f.hi < g.lo ∨ g.hi < f.lo) :
    fldGet g (fldSet f v x) = fldGet g v := by
  simp only [Fld.ok, Bool.and_eq_true, decide_eq_true_eq] at hf
  unfold fldGet fldSet
  rw [BitVec.toNat_ofNat, Nat.mod_eq_of_lt (setBits_lt _ _ _ _ v.isLt hf.2 hf.1)]
  rcases h with h | h
  · exact bitsOf_setBits_above _ _ _ _ _ _ h hf.1
  · exact bitsOf_setBits_below _ _ _ _ _ _ h hg

end Sys2Proof.Machine
end

