-- ==== Sys2Proof/Laws/Map.lean ====
section
/-! SUPPORT. Laws of the sparse maps: a read after a write, and the canonical form is kept. -/

namespace Sys2Proof.Machine

variable {α : Type}

@[simp] theorem mapFind_nil (k : Nat) : mapFind ([] : List (Nat × α)) k = none := rfl

@[simp] theorem mapGet_nil (d : α) (k : Nat) : mapGet d [] k = d := rfl

/-- An erased key is not listed. -/
@[simp] theorem mapFind_mapErase_same (m : List (Nat × α)) (k : Nat) : mapFind (mapErase m k) k = none := by
  induction m with
  | nil => rfl
  | cons p m ih =>
    obtain ⟨i, v⟩ := p
    by_cases h : i = k <;> simp [mapErase, mapFind, h, ih]

/-- Erasing leaves every other key. -/
theorem mapFind_mapErase_other (m : List (Nat × α)) {k j : Nat} (h : j ≠ k) : mapFind (mapErase m k) j = mapFind m j := by
  induction m with
  | nil => rfl
  | cons p m ih =>
    obtain ⟨i, v⟩ := p
    by_cases hk : i = k
    · subst hk
      simp [mapErase, mapFind, ih, Ne.symm h]
    · by_cases hj : i = j
      · subst hj
        simp [mapErase, mapFind, hk]
      · simp [mapErase, mapFind, hk, hj, ih]

/-- An inserted key that was not listed reads as inserted. -/
theorem mapFind_mapInsert_same (m : List (Nat × α)) (k : Nat) (v : α) (h : mapFind m k = none) : mapFind (mapInsert m k v) k = some v := by
  induction m with
  | nil => simp [mapInsert, mapFind]
  | cons p m ih =>
    obtain ⟨i, w⟩ := p
    have hik : i ≠ k := by
      intro hik
      simp [mapFind, hik] at h
    rw [mapFind, if_neg hik] at h
    by_cases hk : k < i
    · simp [mapInsert, hk, mapFind]
    · simp [mapInsert, hk, mapFind, hik, ih h]

/-- Inserting leaves every other key. -/
theorem mapFind_mapInsert_other (m : List (Nat × α)) {k j : Nat} (v : α) (h : j ≠ k) : mapFind (mapInsert m k v) j = mapFind m j := by
  induction m with
  | nil => simp [mapInsert, mapFind, Ne.symm h]
  | cons p m ih =>
    obtain ⟨i, w⟩ := p
    by_cases hk : k < i
    · simp [mapInsert, hk, mapFind, Ne.symm h]
    · by_cases hj : i = j
      · subst hj
        simp [mapInsert, hk, mapFind]
      · simp [mapInsert, hk, mapFind, hj, ih]

/-- A key put in after its erasure reads as put in. -/
@[simp] theorem mapFind_put_same (m : List (Nat × α)) (k : Nat) (v : α) : mapFind (mapInsert (mapErase m k) k v) k = some v :=
  mapFind_mapInsert_same _ _ _ (mapFind_mapErase_same m k)

/-- Putting a key in leaves every other key. -/
theorem mapFind_put_other (m : List (Nat × α)) {k j : Nat} (v : α) (h : j ≠ k) :
    mapFind (mapInsert (mapErase m k) k v) j = mapFind m j := by
  rw [mapFind_mapInsert_other _ _ h, mapFind_mapErase_other _ h]

/-- A read after a write of the same key gives the value written. -/
@[simp] theorem mapGet_mapSet_same [DecidableEq α] (d : α) (m : List (Nat × α)) (k : Nat) (v : α) : mapGet d (mapSet d m k v) k = v := by
  unfold mapSet mapGet
  split <;> simp_all

/-- A write leaves every other key. -/
theorem mapGet_mapSet_other [DecidableEq α] (d : α) (m : List (Nat × α)) {k j : Nat} (v : α) (h : j ≠ k) :
    mapGet d (mapSet d m k v) j = mapGet d m j := by
  unfold mapSet mapGet
  split
  · rw [mapFind_mapErase_other _ h]
  · rw [mapFind_put_other _ _ h]

/-- The same with another value for keys not listed. -/
theorem mapGet_mapSet_ne [DecidableEq α] (d d' : α) (m : List (Nat × α)) {k j : Nat} (v : α) (h : j ≠ k) :
    mapGet d' (mapSet d m k v) j = mapGet d' m j := by
  unfold mapSet mapGet
  split
  · rw [mapFind_mapErase_other _ h]
  · rw [mapFind_put_other _ _ h]

/-- Every entry left by an erasure was there before it. -/
theorem mem_mapErase {m : List (Nat × α)} {k : Nat} {p : Nat × α} (h : p ∈ mapErase m k) : p ∈ m ∧ p.1 ≠ k := by
  induction m with
  | nil => simp [mapErase] at h
  | cons q m ih =>
    obtain ⟨i, v⟩ := q
    by_cases hk : i = k
    · simp only [mapErase, hk, if_true] at h
      exact ⟨List.mem_cons_of_mem _ (ih h).1, (ih h).2⟩
    · simp only [mapErase, hk, if_false, List.mem_cons] at h
      rcases h with rfl | h
      · exact ⟨List.mem_cons_self .., hk⟩
      · exact ⟨List.mem_cons_of_mem _ (ih h).1, (ih h).2⟩

/-- Every entry after an insertion was there before it or is the one inserted. -/
theorem mem_mapInsert {m : List (Nat × α)} {k : Nat} {v : α} {p : Nat × α} (h : p ∈ mapInsert m k v) : p = (k, v) ∨ p ∈ m := by
  induction m with
  | nil => simpa [mapInsert] using h
  | cons q m ih =>
    obtain ⟨i, w⟩ := q
    by_cases hk : k < i
    · simpa [mapInsert, hk] using h
    · simp only [mapInsert, hk, if_false, List.mem_cons] at h
      rcases h with rfl | h
      · exact .inr (List.mem_cons_self ..)
      · exact (ih h).imp_right (List.mem_cons_of_mem _)

variable [DecidableEq α]

/-- The canonical form of a list, entry by entry. -/
theorem mapWf_cons (d : Nat → α) (i : Nat) (v : α) (m : List (Nat × α)) :
    mapWf d ((i, v) :: m) = true ↔ v ≠ d i ∧ (∀ p ∈ m, i < p.1) ∧ mapWf d m = true := by
  simp [mapWf, and_assoc]

/-- Erasing keeps the canonical form. -/
theorem mapWf_mapErase (d : Nat → α) (m : List (Nat × α)) (k : Nat) (h : mapWf d m = true) : mapWf d (mapErase m k) = true := by
  induction m with
  | nil => rfl
  | cons q m ih =>
    obtain ⟨i, v⟩ := q
    obtain ⟨hv, hi, hm⟩ := (mapWf_cons d i v m).1 h
    by_cases hk : i = k
    · simpa [mapErase, hk] using ih hm
    · simp only [mapErase, hk, if_false]
      exact (mapWf_cons d i v _).2 ⟨hv, fun p hp => hi p (mem_mapErase hp).1, ih hm⟩

/-- Inserting a key that is not listed, with another value than its default, keeps the canonical form. -/
theorem mapWf_mapInsert (d : Nat → α) (m : List (Nat × α)) (k : Nat) (v : α) (hv : v ≠ d k) (hk : ∀ p ∈ m, p.1 ≠ k)
    (h : mapWf d m = true) : mapWf d (mapInsert m k v) = true := by
  induction m with
  | nil => simp [mapInsert, mapWf, hv]
  | cons q m ih =>
    obtain ⟨i, w⟩ := q
    obtain ⟨hw, hi, hm⟩ := (mapWf_cons d i w m).1 h
    by_cases hlt : k < i
    · simp only [mapInsert, hlt, if_true]
      refine (mapWf_cons d k v _).2 ⟨hv, ?_, h⟩
      intro p hp
      rcases List.mem_cons.1 hp with rfl | hp
      · exact hlt
      · exact lt_trans hlt (hi p hp)
    · have hne : i ≠ k := hk _ (List.mem_cons_self ..)
      simp only [mapInsert, hlt, if_false]
      refine (mapWf_cons d i w _).2 ⟨hw, ?_, ih (fun p hp => hk p (List.mem_cons_of_mem _ hp)) hm⟩
      intro p hp
      rcases mem_mapInsert hp with rfl | hp
      · exact lt_of_le_of_ne (not_lt.1 hlt) hne
      · exact hi p hp

/-- A write keeps the canonical form. -/
theorem mapWf_mapSet (d : α) (m : List (Nat × α)) (k : Nat) (v : α) (h : mapWf (fun _ => d) m = true) :
    mapWf (fun _ => d) (mapSet d m k v) = true := by
  unfold mapSet
  split
  · exact mapWf_mapErase _ _ _ h
  · exact mapWf_mapInsert _ _ _ _ ‹_› (fun p hp => (mem_mapErase hp).2) (mapWf_mapErase _ _ _ h)

end Sys2Proof.Machine
end

