-- ==== Sys2Proof/Laws/State.lean ====
section
/-! SUPPORT. What each named operation on the state leaves, one lemma per field, and what a register, a field or a reported number
reads as after one was set. -/

namespace Sys2Proof.Machine

/-! ### Operations on a lane leave everything outside the lanes -/

@[simp] theorem State.setLane_pending (s : State) (l : LaneId) (x : Lane) :
    (s.setLane l x).pending = s.pending := by cases l <;> rfl

@[simp] theorem State.setLane_hub (s : State) (l : LaneId) (x : Lane) :
    (s.setLane l x).hub = s.hub := by cases l <;> rfl

@[simp] theorem State.setLane_pde (s : State) (l : LaneId) (x : Lane) :
    (s.setLane l x).pde = s.pde := by cases l <;> rfl

@[simp] theorem State.setLane_v1 (s : State) (l : LaneId) (x : Lane) :
    (s.setLane l x).v1 = s.v1 := by cases l <;> rfl

@[simp] theorem State.setLane_book (s : State) (l : LaneId) (x : Lane) :
    (s.setLane l x).book = s.book := by cases l <;> rfl

@[simp] theorem State.setLane_sup (s : State) (l : LaneId) (x : Lane) :
    (s.setLane l x).sup = s.sup := by cases l <;> rfl

@[simp] theorem State.setLane_md (s : State) (l : LaneId) (x : Lane) :
    (s.setLane l x).md = s.md := by cases l <;> rfl

@[simp] theorem State.setLane_rack (s : State) (l : LaneId) (x : Lane) :
    (s.setLane l x).rack = s.rack := by cases l <;> rfl

@[simp] theorem State.setLane_store (s : State) (l : LaneId) (x : Lane) :
    (s.setLane l x).store = s.store := by cases l <;> rfl

@[simp] theorem State.setLane_dict (s : State) (l : LaneId) (x : Lane) :
    (s.setLane l x).dict = s.dict := by cases l <;> rfl

@[simp] theorem State.setLane_svc (s : State) (l : LaneId) (x : Lane) :
    (s.setLane l x).svc = s.svc := by cases l <;> rfl

@[simp] theorem State.setLane_partners (s : State) (l : LaneId) (x : Lane) :
    (s.setLane l x).partners = s.partners := by cases l <;> rfl

@[simp] theorem State.setLane_net (s : State) (l : LaneId) (x : Lane) :
    (s.setLane l x).net = s.net := by cases l <;> rfl

@[simp] theorem State.setLane_can (s : State) (l : LaneId) (x : Lane) :
    (s.setLane l x).can = s.can := by cases l <;> rfl

@[simp] theorem State.setLane_tb (s : State) (l : LaneId) (x : Lane) :
    (s.setLane l x).tb = s.tb := by cases l <;> rfl

@[simp] theorem State.setLane_fld (s : State) (l : LaneId) (x : Lane) :
    (s.setLane l x).fld = s.fld := by cases l <;> rfl

@[simp] theorem State.setLane_coo (s : State) (l : LaneId) (x : Lane) :
    (s.setLane l x).coo = s.coo := by cases l <;> rfl

@[simp] theorem State.setLane_tx (s : State) (l : LaneId) (x : Lane) :
    (s.setLane l x).tx = s.tx := by cases l <;> rfl

@[simp] theorem State.setLane_freeCtr (s : State) (l : LaneId) (x : Lane) :
    (s.setLane l x).freeCtr = s.freeCtr := by cases l <;> rfl

@[simp] theorem State.updLane_pending (s : State) (l : LaneId) (f : Lane → Lane) :
    (s.updLane l f).pending = s.pending := by cases l <;> rfl

@[simp] theorem State.updLane_hub (s : State) (l : LaneId) (f : Lane → Lane) :
    (s.updLane l f).hub = s.hub := by cases l <;> rfl

@[simp] theorem State.updLane_pde (s : State) (l : LaneId) (f : Lane → Lane) :
    (s.updLane l f).pde = s.pde := by cases l <;> rfl

@[simp] theorem State.updLane_v1 (s : State) (l : LaneId) (f : Lane → Lane) :
    (s.updLane l f).v1 = s.v1 := by cases l <;> rfl

@[simp] theorem State.updLane_book (s : State) (l : LaneId) (f : Lane → Lane) :
    (s.updLane l f).book = s.book := by cases l <;> rfl

@[simp] theorem State.updLane_sup (s : State) (l : LaneId) (f : Lane → Lane) :
    (s.updLane l f).sup = s.sup := by cases l <;> rfl

@[simp] theorem State.updLane_md (s : State) (l : LaneId) (f : Lane → Lane) :
    (s.updLane l f).md = s.md := by cases l <;> rfl

@[simp] theorem State.updLane_rack (s : State) (l : LaneId) (f : Lane → Lane) :
    (s.updLane l f).rack = s.rack := by cases l <;> rfl

@[simp] theorem State.updLane_store (s : State) (l : LaneId) (f : Lane → Lane) :
    (s.updLane l f).store = s.store := by cases l <;> rfl

@[simp] theorem State.updLane_dict (s : State) (l : LaneId) (f : Lane → Lane) :
    (s.updLane l f).dict = s.dict := by cases l <;> rfl

@[simp] theorem State.updLane_svc (s : State) (l : LaneId) (f : Lane → Lane) :
    (s.updLane l f).svc = s.svc := by cases l <;> rfl

@[simp] theorem State.updLane_partners (s : State) (l : LaneId) (f : Lane → Lane) :
    (s.updLane l f).partners = s.partners := by cases l <;> rfl

@[simp] theorem State.updLane_net (s : State) (l : LaneId) (f : Lane → Lane) :
    (s.updLane l f).net = s.net := by cases l <;> rfl

@[simp] theorem State.updLane_can (s : State) (l : LaneId) (f : Lane → Lane) :
    (s.updLane l f).can = s.can := by cases l <;> rfl

@[simp] theorem State.updLane_tb (s : State) (l : LaneId) (f : Lane → Lane) :
    (s.updLane l f).tb = s.tb := by cases l <;> rfl

@[simp] theorem State.updLane_fld (s : State) (l : LaneId) (f : Lane → Lane) :
    (s.updLane l f).fld = s.fld := by cases l <;> rfl

@[simp] theorem State.updLane_coo (s : State) (l : LaneId) (f : Lane → Lane) :
    (s.updLane l f).coo = s.coo := by cases l <;> rfl

@[simp] theorem State.updLane_tx (s : State) (l : LaneId) (f : Lane → Lane) :
    (s.updLane l f).tx = s.tx := by cases l <;> rfl

@[simp] theorem State.updLane_freeCtr (s : State) (l : LaneId) (f : Lane → Lane) :
    (s.updLane l f).freeCtr = s.freeCtr := by cases l <;> rfl

@[simp] theorem State.lregSet_pending (s : State) (l : LaneId) (addr : Nat) (v : Word) :
    (s.lregSet l addr v).pending = s.pending := by cases l <;> rfl

@[simp] theorem State.lregSet_hub (s : State) (l : LaneId) (addr : Nat) (v : Word) :
    (s.lregSet l addr v).hub = s.hub := by cases l <;> rfl

@[simp] theorem State.lregSet_pde (s : State) (l : LaneId) (addr : Nat) (v : Word) :
    (s.lregSet l addr v).pde = s.pde := by cases l <;> rfl

@[simp] theorem State.lregSet_v1 (s : State) (l : LaneId) (addr : Nat) (v : Word) :
    (s.lregSet l addr v).v1 = s.v1 := by cases l <;> rfl

@[simp] theorem State.lregSet_book (s : State) (l : LaneId) (addr : Nat) (v : Word) :
    (s.lregSet l addr v).book = s.book := by cases l <;> rfl

@[simp] theorem State.lregSet_sup (s : State) (l : LaneId) (addr : Nat) (v : Word) :
    (s.lregSet l addr v).sup = s.sup := by cases l <;> rfl

@[simp] theorem State.lregSet_md (s : State) (l : LaneId) (addr : Nat) (v : Word) :
    (s.lregSet l addr v).md = s.md := by cases l <;> rfl

@[simp] theorem State.lregSet_rack (s : State) (l : LaneId) (addr : Nat) (v : Word) :
    (s.lregSet l addr v).rack = s.rack := by cases l <;> rfl

@[simp] theorem State.lregSet_store (s : State) (l : LaneId) (addr : Nat) (v : Word) :
    (s.lregSet l addr v).store = s.store := by cases l <;> rfl

@[simp] theorem State.lregSet_dict (s : State) (l : LaneId) (addr : Nat) (v : Word) :
    (s.lregSet l addr v).dict = s.dict := by cases l <;> rfl

@[simp] theorem State.lregSet_svc (s : State) (l : LaneId) (addr : Nat) (v : Word) :
    (s.lregSet l addr v).svc = s.svc := by cases l <;> rfl

@[simp] theorem State.lregSet_partners (s : State) (l : LaneId) (addr : Nat) (v : Word) :
    (s.lregSet l addr v).partners = s.partners := by cases l <;> rfl

@[simp] theorem State.lregSet_net (s : State) (l : LaneId) (addr : Nat) (v : Word) :
    (s.lregSet l addr v).net = s.net := by cases l <;> rfl

@[simp] theorem State.lregSet_can (s : State) (l : LaneId) (addr : Nat) (v : Word) :
    (s.lregSet l addr v).can = s.can := by cases l <;> rfl

@[simp] theorem State.lregSet_tb (s : State) (l : LaneId) (addr : Nat) (v : Word) :
    (s.lregSet l addr v).tb = s.tb := by cases l <;> rfl

@[simp] theorem State.lregSet_fld (s : State) (l : LaneId) (addr : Nat) (v : Word) :
    (s.lregSet l addr v).fld = s.fld := by cases l <;> rfl

@[simp] theorem State.lregSet_coo (s : State) (l : LaneId) (addr : Nat) (v : Word) :
    (s.lregSet l addr v).coo = s.coo := by cases l <;> rfl

@[simp] theorem State.lregSet_tx (s : State) (l : LaneId) (addr : Nat) (v : Word) :
    (s.lregSet l addr v).tx = s.tx := by cases l <;> rfl

@[simp] theorem State.lregSet_freeCtr (s : State) (l : LaneId) (addr : Nat) (v : Word) :
    (s.lregSet l addr v).freeCtr = s.freeCtr := by cases l <;> rfl

@[simp] theorem State.lfSet_pending (s : State) (l : LaneId) (f : Fld) (x : Nat) :
    (s.lfSet l f x).pending = s.pending := by cases l <;> rfl

@[simp] theorem State.lfSet_hub (s : State) (l : LaneId) (f : Fld) (x : Nat) :
    (s.lfSet l f x).hub = s.hub := by cases l <;> rfl

@[simp] theorem State.lfSet_pde (s : State) (l : LaneId) (f : Fld) (x : Nat) :
    (s.lfSet l f x).pde = s.pde := by cases l <;> rfl

@[simp] theorem State.lfSet_v1 (s : State) (l : LaneId) (f : Fld) (x : Nat) :
    (s.lfSet l f x).v1 = s.v1 := by cases l <;> rfl

@[simp] theorem State.lfSet_book (s : State) (l : LaneId) (f : Fld) (x : Nat) :
    (s.lfSet l f x).book = s.book := by cases l <;> rfl

@[simp] theorem State.lfSet_sup (s : State) (l : LaneId) (f : Fld) (x : Nat) :
    (s.lfSet l f x).sup = s.sup := by cases l <;> rfl

@[simp] theorem State.lfSet_md (s : State) (l : LaneId) (f : Fld) (x : Nat) :
    (s.lfSet l f x).md = s.md := by cases l <;> rfl

@[simp] theorem State.lfSet_rack (s : State) (l : LaneId) (f : Fld) (x : Nat) :
    (s.lfSet l f x).rack = s.rack := by cases l <;> rfl

@[simp] theorem State.lfSet_store (s : State) (l : LaneId) (f : Fld) (x : Nat) :
    (s.lfSet l f x).store = s.store := by cases l <;> rfl

@[simp] theorem State.lfSet_dict (s : State) (l : LaneId) (f : Fld) (x : Nat) :
    (s.lfSet l f x).dict = s.dict := by cases l <;> rfl

@[simp] theorem State.lfSet_svc (s : State) (l : LaneId) (f : Fld) (x : Nat) :
    (s.lfSet l f x).svc = s.svc := by cases l <;> rfl

@[simp] theorem State.lfSet_partners (s : State) (l : LaneId) (f : Fld) (x : Nat) :
    (s.lfSet l f x).partners = s.partners := by cases l <;> rfl

@[simp] theorem State.lfSet_net (s : State) (l : LaneId) (f : Fld) (x : Nat) :
    (s.lfSet l f x).net = s.net := by cases l <;> rfl

@[simp] theorem State.lfSet_can (s : State) (l : LaneId) (f : Fld) (x : Nat) :
    (s.lfSet l f x).can = s.can := by cases l <;> rfl

@[simp] theorem State.lfSet_tb (s : State) (l : LaneId) (f : Fld) (x : Nat) :
    (s.lfSet l f x).tb = s.tb := by cases l <;> rfl

@[simp] theorem State.lfSet_fld (s : State) (l : LaneId) (f : Fld) (x : Nat) :
    (s.lfSet l f x).fld = s.fld := by cases l <;> rfl

@[simp] theorem State.lfSet_coo (s : State) (l : LaneId) (f : Fld) (x : Nat) :
    (s.lfSet l f x).coo = s.coo := by cases l <;> rfl

@[simp] theorem State.lfSet_tx (s : State) (l : LaneId) (f : Fld) (x : Nat) :
    (s.lfSet l f x).tx = s.tx := by cases l <;> rfl

@[simp] theorem State.lfSet_freeCtr (s : State) (l : LaneId) (f : Fld) (x : Nat) :
    (s.lfSet l f x).freeCtr = s.freeCtr := by cases l <;> rfl

@[simp] theorem State.lcount_pending (s : State) (l : LaneId) (f : Fld) (d : Nat) :
    (s.lcount l f d).pending = s.pending := by cases l <;> rfl

@[simp] theorem State.lcount_hub (s : State) (l : LaneId) (f : Fld) (d : Nat) :
    (s.lcount l f d).hub = s.hub := by cases l <;> rfl

@[simp] theorem State.lcount_pde (s : State) (l : LaneId) (f : Fld) (d : Nat) :
    (s.lcount l f d).pde = s.pde := by cases l <;> rfl

@[simp] theorem State.lcount_v1 (s : State) (l : LaneId) (f : Fld) (d : Nat) :
    (s.lcount l f d).v1 = s.v1 := by cases l <;> rfl

@[simp] theorem State.lcount_book (s : State) (l : LaneId) (f : Fld) (d : Nat) :
    (s.lcount l f d).book = s.book := by cases l <;> rfl

@[simp] theorem State.lcount_sup (s : State) (l : LaneId) (f : Fld) (d : Nat) :
    (s.lcount l f d).sup = s.sup := by cases l <;> rfl

@[simp] theorem State.lcount_md (s : State) (l : LaneId) (f : Fld) (d : Nat) :
    (s.lcount l f d).md = s.md := by cases l <;> rfl

@[simp] theorem State.lcount_rack (s : State) (l : LaneId) (f : Fld) (d : Nat) :
    (s.lcount l f d).rack = s.rack := by cases l <;> rfl

@[simp] theorem State.lcount_store (s : State) (l : LaneId) (f : Fld) (d : Nat) :
    (s.lcount l f d).store = s.store := by cases l <;> rfl

@[simp] theorem State.lcount_dict (s : State) (l : LaneId) (f : Fld) (d : Nat) :
    (s.lcount l f d).dict = s.dict := by cases l <;> rfl

@[simp] theorem State.lcount_svc (s : State) (l : LaneId) (f : Fld) (d : Nat) :
    (s.lcount l f d).svc = s.svc := by cases l <;> rfl

@[simp] theorem State.lcount_partners (s : State) (l : LaneId) (f : Fld) (d : Nat) :
    (s.lcount l f d).partners = s.partners := by cases l <;> rfl

@[simp] theorem State.lcount_net (s : State) (l : LaneId) (f : Fld) (d : Nat) :
    (s.lcount l f d).net = s.net := by cases l <;> rfl

@[simp] theorem State.lcount_can (s : State) (l : LaneId) (f : Fld) (d : Nat) :
    (s.lcount l f d).can = s.can := by cases l <;> rfl

@[simp] theorem State.lcount_tb (s : State) (l : LaneId) (f : Fld) (d : Nat) :
    (s.lcount l f d).tb = s.tb := by cases l <;> rfl

@[simp] theorem State.lcount_fld (s : State) (l : LaneId) (f : Fld) (d : Nat) :
    (s.lcount l f d).fld = s.fld := by cases l <;> rfl

@[simp] theorem State.lcount_coo (s : State) (l : LaneId) (f : Fld) (d : Nat) :
    (s.lcount l f d).coo = s.coo := by cases l <;> rfl

@[simp] theorem State.lcount_tx (s : State) (l : LaneId) (f : Fld) (d : Nat) :
    (s.lcount l f d).tx = s.tx := by cases l <;> rfl

@[simp] theorem State.lcount_freeCtr (s : State) (l : LaneId) (f : Fld) (d : Nat) :
    (s.lcount l f d).freeCtr = s.freeCtr := by cases l <;> rfl

@[simp] theorem State.lmemSet_pending (s : State) (l : LaneId) (addr : Nat) (bs : List Byte) :
    (s.lmemSet l addr bs).pending = s.pending := by cases l <;> rfl

@[simp] theorem State.lmemSet_hub (s : State) (l : LaneId) (addr : Nat) (bs : List Byte) :
    (s.lmemSet l addr bs).hub = s.hub := by cases l <;> rfl

@[simp] theorem State.lmemSet_pde (s : State) (l : LaneId) (addr : Nat) (bs : List Byte) :
    (s.lmemSet l addr bs).pde = s.pde := by cases l <;> rfl

@[simp] theorem State.lmemSet_v1 (s : State) (l : LaneId) (addr : Nat) (bs : List Byte) :
    (s.lmemSet l addr bs).v1 = s.v1 := by cases l <;> rfl

@[simp] theorem State.lmemSet_book (s : State) (l : LaneId) (addr : Nat) (bs : List Byte) :
    (s.lmemSet l addr bs).book = s.book := by cases l <;> rfl

@[simp] theorem State.lmemSet_sup (s : State) (l : LaneId) (addr : Nat) (bs : List Byte) :
    (s.lmemSet l addr bs).sup = s.sup := by cases l <;> rfl

@[simp] theorem State.lmemSet_md (s : State) (l : LaneId) (addr : Nat) (bs : List Byte) :
    (s.lmemSet l addr bs).md = s.md := by cases l <;> rfl

@[simp] theorem State.lmemSet_rack (s : State) (l : LaneId) (addr : Nat) (bs : List Byte) :
    (s.lmemSet l addr bs).rack = s.rack := by cases l <;> rfl

@[simp] theorem State.lmemSet_store (s : State) (l : LaneId) (addr : Nat) (bs : List Byte) :
    (s.lmemSet l addr bs).store = s.store := by cases l <;> rfl

@[simp] theorem State.lmemSet_dict (s : State) (l : LaneId) (addr : Nat) (bs : List Byte) :
    (s.lmemSet l addr bs).dict = s.dict := by cases l <;> rfl

@[simp] theorem State.lmemSet_svc (s : State) (l : LaneId) (addr : Nat) (bs : List Byte) :
    (s.lmemSet l addr bs).svc = s.svc := by cases l <;> rfl

@[simp] theorem State.lmemSet_partners (s : State) (l : LaneId) (addr : Nat) (bs : List Byte) :
    (s.lmemSet l addr bs).partners = s.partners := by cases l <;> rfl

@[simp] theorem State.lmemSet_net (s : State) (l : LaneId) (addr : Nat) (bs : List Byte) :
    (s.lmemSet l addr bs).net = s.net := by cases l <;> rfl

@[simp] theorem State.lmemSet_can (s : State) (l : LaneId) (addr : Nat) (bs : List Byte) :
    (s.lmemSet l addr bs).can = s.can := by cases l <;> rfl

@[simp] theorem State.lmemSet_tb (s : State) (l : LaneId) (addr : Nat) (bs : List Byte) :
    (s.lmemSet l addr bs).tb = s.tb := by cases l <;> rfl

@[simp] theorem State.lmemSet_fld (s : State) (l : LaneId) (addr : Nat) (bs : List Byte) :
    (s.lmemSet l addr bs).fld = s.fld := by cases l <;> rfl

@[simp] theorem State.lmemSet_coo (s : State) (l : LaneId) (addr : Nat) (bs : List Byte) :
    (s.lmemSet l addr bs).coo = s.coo := by cases l <;> rfl

@[simp] theorem State.lmemSet_tx (s : State) (l : LaneId) (addr : Nat) (bs : List Byte) :
    (s.lmemSet l addr bs).tx = s.tx := by cases l <;> rfl

@[simp] theorem State.lmemSet_freeCtr (s : State) (l : LaneId) (addr : Nat) (bs : List Byte) :
    (s.lmemSet l addr bs).freeCtr = s.freeCtr := by cases l <;> rfl

@[simp] theorem State.taskSet_pending (s : State) (l : LaneId) (t : Nat) (x : TaskRt) :
    (s.taskSet l t x).pending = s.pending := by cases l <;> rfl

@[simp] theorem State.taskSet_hub (s : State) (l : LaneId) (t : Nat) (x : TaskRt) :
    (s.taskSet l t x).hub = s.hub := by cases l <;> rfl

@[simp] theorem State.taskSet_pde (s : State) (l : LaneId) (t : Nat) (x : TaskRt) :
    (s.taskSet l t x).pde = s.pde := by cases l <;> rfl

@[simp] theorem State.taskSet_v1 (s : State) (l : LaneId) (t : Nat) (x : TaskRt) :
    (s.taskSet l t x).v1 = s.v1 := by cases l <;> rfl

@[simp] theorem State.taskSet_book (s : State) (l : LaneId) (t : Nat) (x : TaskRt) :
    (s.taskSet l t x).book = s.book := by cases l <;> rfl

@[simp] theorem State.taskSet_sup (s : State) (l : LaneId) (t : Nat) (x : TaskRt) :
    (s.taskSet l t x).sup = s.sup := by cases l <;> rfl

@[simp] theorem State.taskSet_md (s : State) (l : LaneId) (t : Nat) (x : TaskRt) :
    (s.taskSet l t x).md = s.md := by cases l <;> rfl

@[simp] theorem State.taskSet_rack (s : State) (l : LaneId) (t : Nat) (x : TaskRt) :
    (s.taskSet l t x).rack = s.rack := by cases l <;> rfl

@[simp] theorem State.taskSet_store (s : State) (l : LaneId) (t : Nat) (x : TaskRt) :
    (s.taskSet l t x).store = s.store := by cases l <;> rfl

@[simp] theorem State.taskSet_dict (s : State) (l : LaneId) (t : Nat) (x : TaskRt) :
    (s.taskSet l t x).dict = s.dict := by cases l <;> rfl

@[simp] theorem State.taskSet_svc (s : State) (l : LaneId) (t : Nat) (x : TaskRt) :
    (s.taskSet l t x).svc = s.svc := by cases l <;> rfl

@[simp] theorem State.taskSet_partners (s : State) (l : LaneId) (t : Nat) (x : TaskRt) :
    (s.taskSet l t x).partners = s.partners := by cases l <;> rfl

@[simp] theorem State.taskSet_net (s : State) (l : LaneId) (t : Nat) (x : TaskRt) :
    (s.taskSet l t x).net = s.net := by cases l <;> rfl

@[simp] theorem State.taskSet_can (s : State) (l : LaneId) (t : Nat) (x : TaskRt) :
    (s.taskSet l t x).can = s.can := by cases l <;> rfl

@[simp] theorem State.taskSet_tb (s : State) (l : LaneId) (t : Nat) (x : TaskRt) :
    (s.taskSet l t x).tb = s.tb := by cases l <;> rfl

@[simp] theorem State.taskSet_fld (s : State) (l : LaneId) (t : Nat) (x : TaskRt) :
    (s.taskSet l t x).fld = s.fld := by cases l <;> rfl

@[simp] theorem State.taskSet_coo (s : State) (l : LaneId) (t : Nat) (x : TaskRt) :
    (s.taskSet l t x).coo = s.coo := by cases l <;> rfl

@[simp] theorem State.taskSet_tx (s : State) (l : LaneId) (t : Nat) (x : TaskRt) :
    (s.taskSet l t x).tx = s.tx := by cases l <;> rfl

@[simp] theorem State.taskSet_freeCtr (s : State) (l : LaneId) (t : Nat) (x : TaskRt) :
    (s.taskSet l t x).freeCtr = s.freeCtr := by cases l <;> rfl

@[simp] theorem State.taskFail_pending (s : State) (l : LaneId) (t : Nat) :
    (s.taskFail l t).pending = s.pending := by cases l <;> rfl

@[simp] theorem State.taskFail_hub (s : State) (l : LaneId) (t : Nat) :
    (s.taskFail l t).hub = s.hub := by cases l <;> rfl

@[simp] theorem State.taskFail_pde (s : State) (l : LaneId) (t : Nat) :
    (s.taskFail l t).pde = s.pde := by cases l <;> rfl

@[simp] theorem State.taskFail_v1 (s : State) (l : LaneId) (t : Nat) :
    (s.taskFail l t).v1 = s.v1 := by cases l <;> rfl

@[simp] theorem State.taskFail_book (s : State) (l : LaneId) (t : Nat) :
    (s.taskFail l t).book = s.book := by cases l <;> rfl

@[simp] theorem State.taskFail_sup (s : State) (l : LaneId) (t : Nat) :
    (s.taskFail l t).sup = s.sup := by cases l <;> rfl

@[simp] theorem State.taskFail_md (s : State) (l : LaneId) (t : Nat) :
    (s.taskFail l t).md = s.md := by cases l <;> rfl

@[simp] theorem State.taskFail_rack (s : State) (l : LaneId) (t : Nat) :
    (s.taskFail l t).rack = s.rack := by cases l <;> rfl

@[simp] theorem State.taskFail_store (s : State) (l : LaneId) (t : Nat) :
    (s.taskFail l t).store = s.store := by cases l <;> rfl

@[simp] theorem State.taskFail_dict (s : State) (l : LaneId) (t : Nat) :
    (s.taskFail l t).dict = s.dict := by cases l <;> rfl

@[simp] theorem State.taskFail_svc (s : State) (l : LaneId) (t : Nat) :
    (s.taskFail l t).svc = s.svc := by cases l <;> rfl

@[simp] theorem State.taskFail_partners (s : State) (l : LaneId) (t : Nat) :
    (s.taskFail l t).partners = s.partners := by cases l <;> rfl

@[simp] theorem State.taskFail_net (s : State) (l : LaneId) (t : Nat) :
    (s.taskFail l t).net = s.net := by cases l <;> rfl

@[simp] theorem State.taskFail_can (s : State) (l : LaneId) (t : Nat) :
    (s.taskFail l t).can = s.can := by cases l <;> rfl

@[simp] theorem State.taskFail_tb (s : State) (l : LaneId) (t : Nat) :
    (s.taskFail l t).tb = s.tb := by cases l <;> rfl

@[simp] theorem State.taskFail_fld (s : State) (l : LaneId) (t : Nat) :
    (s.taskFail l t).fld = s.fld := by cases l <;> rfl

@[simp] theorem State.taskFail_coo (s : State) (l : LaneId) (t : Nat) :
    (s.taskFail l t).coo = s.coo := by cases l <;> rfl

@[simp] theorem State.taskFail_tx (s : State) (l : LaneId) (t : Nat) :
    (s.taskFail l t).tx = s.tx := by cases l <;> rfl

@[simp] theorem State.taskFail_freeCtr (s : State) (l : LaneId) (t : Nat) :
    (s.taskFail l t).freeCtr = s.freeCtr := by cases l <;> rfl

/-! ### The lane itself, and the others -/

@[simp] theorem State.setLane_lane (s : State) (l k : LaneId) (x : Lane) :
    (s.setLane l x).lane k = if k = l then x else s.lane k := by cases l <;> cases k <;> rfl

@[simp] theorem State.updLane_lane (s : State) (l k : LaneId) (f : Lane → Lane) :
    (s.updLane l f).lane k = if k = l then f (s.lane l) else s.lane k := by cases l <;> cases k <;> rfl

@[simp] theorem State.lregSet_lane_supplied (s : State) (l : LaneId) (addr : Nat) (v : Word) (k : LaneId) :
    ((s.lregSet l addr v).lane k).supplied = (s.lane k).supplied := by cases l <;> cases k <;> rfl

@[simp] theorem State.lregSet_lane_mem (s : State) (l : LaneId) (addr : Nat) (v : Word) (k : LaneId) :
    ((s.lregSet l addr v).lane k).mem = (s.lane k).mem := by cases l <;> cases k <;> rfl

@[simp] theorem State.lregSet_lane_ecc (s : State) (l : LaneId) (addr : Nat) (v : Word) (k : LaneId) :
    ((s.lregSet l addr v).lane k).ecc = (s.lane k).ecc := by cases l <;> cases k <;> rfl

@[simp] theorem State.lregSet_lane_cores (s : State) (l : LaneId) (addr : Nat) (v : Word) (k : LaneId) :
    ((s.lregSet l addr v).lane k).cores = (s.lane k).cores := by cases l <;> cases k <;> rfl

@[simp] theorem State.lregSet_lane_fe (s : State) (l : LaneId) (addr : Nat) (v : Word) (k : LaneId) :
    ((s.lregSet l addr v).lane k).fe = (s.lane k).fe := by cases l <;> cases k <;> rfl

@[simp] theorem State.lregSet_lane_tick (s : State) (l : LaneId) (addr : Nat) (v : Word) (k : LaneId) :
    ((s.lregSet l addr v).lane k).tick = (s.lane k).tick := by cases l <;> cases k <;> rfl

@[simp] theorem State.lregSet_lane_xch (s : State) (l : LaneId) (addr : Nat) (v : Word) (k : LaneId) :
    ((s.lregSet l addr v).lane k).xch = (s.lane k).xch := by cases l <;> cases k <;> rfl

@[simp] theorem State.lregSet_lane_rt (s : State) (l : LaneId) (addr : Nat) (v : Word) (k : LaneId) :
    ((s.lregSet l addr v).lane k).rt = (s.lane k).rt := by cases l <;> cases k <;> rfl

@[simp] theorem State.lregSet_lane_prog (s : State) (l : LaneId) (addr : Nat) (v : Word) (k : LaneId) :
    ((s.lregSet l addr v).lane k).prog = (s.lane k).prog := by cases l <;> cases k <;> rfl

@[simp] theorem State.lregSet_lane_newProg (s : State) (l : LaneId) (addr : Nat) (v : Word) (k : LaneId) :
    ((s.lregSet l addr v).lane k).newProg = (s.lane k).newProg := by cases l <;> cases k <;> rfl

@[simp] theorem State.lregSet_lane_admission (s : State) (l : LaneId) (addr : Nat) (v : Word) (k : LaneId) :
    ((s.lregSet l addr v).lane k).admission = (s.lane k).admission := by cases l <;> cases k <;> rfl

@[simp] theorem State.lregSet_lane_carried (s : State) (l : LaneId) (addr : Nat) (v : Word) (k : LaneId) :
    ((s.lregSet l addr v).lane k).carried = (s.lane k).carried := by cases l <;> cases k <;> rfl

@[simp] theorem State.lregSet_lane_carryFail (s : State) (l : LaneId) (addr : Nat) (v : Word) (k : LaneId) :
    ((s.lregSet l addr v).lane k).carryFail = (s.lane k).carryFail := by cases l <;> cases k <;> rfl

@[simp] theorem State.lregSet_lane_switchRec (s : State) (l : LaneId) (addr : Nat) (v : Word) (k : LaneId) :
    ((s.lregSet l addr v).lane k).switchRec = (s.lane k).switchRec := by cases l <;> cases k <;> rfl

@[simp] theorem State.lregSet_lane_sum (s : State) (l : LaneId) (addr : Nat) (v : Word) (k : LaneId) :
    ((s.lregSet l addr v).lane k).sum = (s.lane k).sum := by cases l <;> cases k <;> rfl

@[simp] theorem State.lregSet_lane_ret (s : State) (l : LaneId) (addr : Nat) (v : Word) (k : LaneId) :
    ((s.lregSet l addr v).lane k).ret = (s.lane k).ret := by cases l <;> cases k <;> rfl

@[simp] theorem State.lregSet_lane_brg (s : State) (l : LaneId) (addr : Nat) (v : Word) (k : LaneId) :
    ((s.lregSet l addr v).lane k).brg = (s.lane k).brg := by cases l <;> cases k <;> rfl

@[simp] theorem State.lregSet_lane_book (s : State) (l : LaneId) (addr : Nat) (v : Word) (k : LaneId) :
    ((s.lregSet l addr v).lane k).book = (s.lane k).book := by cases l <;> cases k <;> rfl

@[simp] theorem State.lregSet_lane_coop (s : State) (l : LaneId) (addr : Nat) (v : Word) (k : LaneId) :
    ((s.lregSet l addr v).lane k).coop = (s.lane k).coop := by cases l <;> cases k <;> rfl

@[simp] theorem State.lregSet_lane_claimed (s : State) (l : LaneId) (addr : Nat) (v : Word) (k : LaneId) :
    ((s.lregSet l addr v).lane k).claimed = (s.lane k).claimed := by cases l <;> cases k <;> rfl

@[simp] theorem State.lregSet_lane_restart (s : State) (l : LaneId) (addr : Nat) (v : Word) (k : LaneId) :
    ((s.lregSet l addr v).lane k).restart = (s.lane k).restart := by cases l <;> cases k <;> rfl

@[simp] theorem State.lregSet_lane_out (s : State) (l : LaneId) (addr : Nat) (v : Word) (k : LaneId) :
    ((s.lregSet l addr v).lane k).out = (s.lane k).out := by cases l <;> cases k <;> rfl

@[simp] theorem State.lregSet_lane_cfgDue (s : State) (l : LaneId) (addr : Nat) (v : Word) (k : LaneId) :
    ((s.lregSet l addr v).lane k).cfgDue = (s.lane k).cfgDue := by cases l <;> cases k <;> rfl

@[simp] theorem State.lfSet_lane_supplied (s : State) (l : LaneId) (f : Fld) (x : Nat) (k : LaneId) :
    ((s.lfSet l f x).lane k).supplied = (s.lane k).supplied := by cases l <;> cases k <;> rfl

@[simp] theorem State.lfSet_lane_mem (s : State) (l : LaneId) (f : Fld) (x : Nat) (k : LaneId) :
    ((s.lfSet l f x).lane k).mem = (s.lane k).mem := by cases l <;> cases k <;> rfl

@[simp] theorem State.lfSet_lane_ecc (s : State) (l : LaneId) (f : Fld) (x : Nat) (k : LaneId) :
    ((s.lfSet l f x).lane k).ecc = (s.lane k).ecc := by cases l <;> cases k <;> rfl

@[simp] theorem State.lfSet_lane_cores (s : State) (l : LaneId) (f : Fld) (x : Nat) (k : LaneId) :
    ((s.lfSet l f x).lane k).cores = (s.lane k).cores := by cases l <;> cases k <;> rfl

@[simp] theorem State.lfSet_lane_fe (s : State) (l : LaneId) (f : Fld) (x : Nat) (k : LaneId) :
    ((s.lfSet l f x).lane k).fe = (s.lane k).fe := by cases l <;> cases k <;> rfl

@[simp] theorem State.lfSet_lane_tick (s : State) (l : LaneId) (f : Fld) (x : Nat) (k : LaneId) :
    ((s.lfSet l f x).lane k).tick = (s.lane k).tick := by cases l <;> cases k <;> rfl

@[simp] theorem State.lfSet_lane_xch (s : State) (l : LaneId) (f : Fld) (x : Nat) (k : LaneId) :
    ((s.lfSet l f x).lane k).xch = (s.lane k).xch := by cases l <;> cases k <;> rfl

@[simp] theorem State.lfSet_lane_rt (s : State) (l : LaneId) (f : Fld) (x : Nat) (k : LaneId) :
    ((s.lfSet l f x).lane k).rt = (s.lane k).rt := by cases l <;> cases k <;> rfl

@[simp] theorem State.lfSet_lane_prog (s : State) (l : LaneId) (f : Fld) (x : Nat) (k : LaneId) :
    ((s.lfSet l f x).lane k).prog = (s.lane k).prog := by cases l <;> cases k <;> rfl

@[simp] theorem State.lfSet_lane_newProg (s : State) (l : LaneId) (f : Fld) (x : Nat) (k : LaneId) :
    ((s.lfSet l f x).lane k).newProg = (s.lane k).newProg := by cases l <;> cases k <;> rfl

@[simp] theorem State.lfSet_lane_admission (s : State) (l : LaneId) (f : Fld) (x : Nat) (k : LaneId) :
    ((s.lfSet l f x).lane k).admission = (s.lane k).admission := by cases l <;> cases k <;> rfl

@[simp] theorem State.lfSet_lane_carried (s : State) (l : LaneId) (f : Fld) (x : Nat) (k : LaneId) :
    ((s.lfSet l f x).lane k).carried = (s.lane k).carried := by cases l <;> cases k <;> rfl

@[simp] theorem State.lfSet_lane_carryFail (s : State) (l : LaneId) (f : Fld) (x : Nat) (k : LaneId) :
    ((s.lfSet l f x).lane k).carryFail = (s.lane k).carryFail := by cases l <;> cases k <;> rfl

@[simp] theorem State.lfSet_lane_switchRec (s : State) (l : LaneId) (f : Fld) (x : Nat) (k : LaneId) :
    ((s.lfSet l f x).lane k).switchRec = (s.lane k).switchRec := by cases l <;> cases k <;> rfl

@[simp] theorem State.lfSet_lane_sum (s : State) (l : LaneId) (f : Fld) (x : Nat) (k : LaneId) :
    ((s.lfSet l f x).lane k).sum = (s.lane k).sum := by cases l <;> cases k <;> rfl

@[simp] theorem State.lfSet_lane_ret (s : State) (l : LaneId) (f : Fld) (x : Nat) (k : LaneId) :
    ((s.lfSet l f x).lane k).ret = (s.lane k).ret := by cases l <;> cases k <;> rfl

@[simp] theorem State.lfSet_lane_brg (s : State) (l : LaneId) (f : Fld) (x : Nat) (k : LaneId) :
    ((s.lfSet l f x).lane k).brg = (s.lane k).brg := by cases l <;> cases k <;> rfl

@[simp] theorem State.lfSet_lane_book (s : State) (l : LaneId) (f : Fld) (x : Nat) (k : LaneId) :
    ((s.lfSet l f x).lane k).book = (s.lane k).book := by cases l <;> cases k <;> rfl

@[simp] theorem State.lfSet_lane_coop (s : State) (l : LaneId) (f : Fld) (x : Nat) (k : LaneId) :
    ((s.lfSet l f x).lane k).coop = (s.lane k).coop := by cases l <;> cases k <;> rfl

@[simp] theorem State.lfSet_lane_claimed (s : State) (l : LaneId) (f : Fld) (x : Nat) (k : LaneId) :
    ((s.lfSet l f x).lane k).claimed = (s.lane k).claimed := by cases l <;> cases k <;> rfl

@[simp] theorem State.lfSet_lane_restart (s : State) (l : LaneId) (f : Fld) (x : Nat) (k : LaneId) :
    ((s.lfSet l f x).lane k).restart = (s.lane k).restart := by cases l <;> cases k <;> rfl

@[simp] theorem State.lfSet_lane_out (s : State) (l : LaneId) (f : Fld) (x : Nat) (k : LaneId) :
    ((s.lfSet l f x).lane k).out = (s.lane k).out := by cases l <;> cases k <;> rfl

@[simp] theorem State.lfSet_lane_cfgDue (s : State) (l : LaneId) (f : Fld) (x : Nat) (k : LaneId) :
    ((s.lfSet l f x).lane k).cfgDue = (s.lane k).cfgDue := by cases l <;> cases k <;> rfl

@[simp] theorem State.lcount_lane_supplied (s : State) (l : LaneId) (f : Fld) (d : Nat) (k : LaneId) :
    ((s.lcount l f d).lane k).supplied = (s.lane k).supplied := by cases l <;> cases k <;> rfl

@[simp] theorem State.lcount_lane_mem (s : State) (l : LaneId) (f : Fld) (d : Nat) (k : LaneId) :
    ((s.lcount l f d).lane k).mem = (s.lane k).mem := by cases l <;> cases k <;> rfl

@[simp] theorem State.lcount_lane_ecc (s : State) (l : LaneId) (f : Fld) (d : Nat) (k : LaneId) :
    ((s.lcount l f d).lane k).ecc = (s.lane k).ecc := by cases l <;> cases k <;> rfl

@[simp] theorem State.lcount_lane_cores (s : State) (l : LaneId) (f : Fld) (d : Nat) (k : LaneId) :
    ((s.lcount l f d).lane k).cores = (s.lane k).cores := by cases l <;> cases k <;> rfl

@[simp] theorem State.lcount_lane_fe (s : State) (l : LaneId) (f : Fld) (d : Nat) (k : LaneId) :
    ((s.lcount l f d).lane k).fe = (s.lane k).fe := by cases l <;> cases k <;> rfl

@[simp] theorem State.lcount_lane_tick (s : State) (l : LaneId) (f : Fld) (d : Nat) (k : LaneId) :
    ((s.lcount l f d).lane k).tick = (s.lane k).tick := by cases l <;> cases k <;> rfl

@[simp] theorem State.lcount_lane_xch (s : State) (l : LaneId) (f : Fld) (d : Nat) (k : LaneId) :
    ((s.lcount l f d).lane k).xch = (s.lane k).xch := by cases l <;> cases k <;> rfl

@[simp] theorem State.lcount_lane_rt (s : State) (l : LaneId) (f : Fld) (d : Nat) (k : LaneId) :
    ((s.lcount l f d).lane k).rt = (s.lane k).rt := by cases l <;> cases k <;> rfl

@[simp] theorem State.lcount_lane_prog (s : State) (l : LaneId) (f : Fld) (d : Nat) (k : LaneId) :
    ((s.lcount l f d).lane k).prog = (s.lane k).prog := by cases l <;> cases k <;> rfl

@[simp] theorem State.lcount_lane_newProg (s : State) (l : LaneId) (f : Fld) (d : Nat) (k : LaneId) :
    ((s.lcount l f d).lane k).newProg = (s.lane k).newProg := by cases l <;> cases k <;> rfl

@[simp] theorem State.lcount_lane_admission (s : State) (l : LaneId) (f : Fld) (d : Nat) (k : LaneId) :
    ((s.lcount l f d).lane k).admission = (s.lane k).admission := by cases l <;> cases k <;> rfl

@[simp] theorem State.lcount_lane_carried (s : State) (l : LaneId) (f : Fld) (d : Nat) (k : LaneId) :
    ((s.lcount l f d).lane k).carried = (s.lane k).carried := by cases l <;> cases k <;> rfl

@[simp] theorem State.lcount_lane_carryFail (s : State) (l : LaneId) (f : Fld) (d : Nat) (k : LaneId) :
    ((s.lcount l f d).lane k).carryFail = (s.lane k).carryFail := by cases l <;> cases k <;> rfl

@[simp] theorem State.lcount_lane_switchRec (s : State) (l : LaneId) (f : Fld) (d : Nat) (k : LaneId) :
    ((s.lcount l f d).lane k).switchRec = (s.lane k).switchRec := by cases l <;> cases k <;> rfl

@[simp] theorem State.lcount_lane_sum (s : State) (l : LaneId) (f : Fld) (d : Nat) (k : LaneId) :
    ((s.lcount l f d).lane k).sum = (s.lane k).sum := by cases l <;> cases k <;> rfl

@[simp] theorem State.lcount_lane_ret (s : State) (l : LaneId) (f : Fld) (d : Nat) (k : LaneId) :
    ((s.lcount l f d).lane k).ret = (s.lane k).ret := by cases l <;> cases k <;> rfl

@[simp] theorem State.lcount_lane_brg (s : State) (l : LaneId) (f : Fld) (d : Nat) (k : LaneId) :
    ((s.lcount l f d).lane k).brg = (s.lane k).brg := by cases l <;> cases k <;> rfl

@[simp] theorem State.lcount_lane_book (s : State) (l : LaneId) (f : Fld) (d : Nat) (k : LaneId) :
    ((s.lcount l f d).lane k).book = (s.lane k).book := by cases l <;> cases k <;> rfl

@[simp] theorem State.lcount_lane_coop (s : State) (l : LaneId) (f : Fld) (d : Nat) (k : LaneId) :
    ((s.lcount l f d).lane k).coop = (s.lane k).coop := by cases l <;> cases k <;> rfl

@[simp] theorem State.lcount_lane_claimed (s : State) (l : LaneId) (f : Fld) (d : Nat) (k : LaneId) :
    ((s.lcount l f d).lane k).claimed = (s.lane k).claimed := by cases l <;> cases k <;> rfl

@[simp] theorem State.lcount_lane_restart (s : State) (l : LaneId) (f : Fld) (d : Nat) (k : LaneId) :
    ((s.lcount l f d).lane k).restart = (s.lane k).restart := by cases l <;> cases k <;> rfl

@[simp] theorem State.lcount_lane_out (s : State) (l : LaneId) (f : Fld) (d : Nat) (k : LaneId) :
    ((s.lcount l f d).lane k).out = (s.lane k).out := by cases l <;> cases k <;> rfl

@[simp] theorem State.lcount_lane_cfgDue (s : State) (l : LaneId) (f : Fld) (d : Nat) (k : LaneId) :
    ((s.lcount l f d).lane k).cfgDue = (s.lane k).cfgDue := by cases l <;> cases k <;> rfl

@[simp] theorem State.lmemSet_lane_supplied (s : State) (l : LaneId) (addr : Nat) (bs : List Byte) (k : LaneId) :
    ((s.lmemSet l addr bs).lane k).supplied = (s.lane k).supplied := by cases l <;> cases k <;> rfl

@[simp] theorem State.lmemSet_lane_regs (s : State) (l : LaneId) (addr : Nat) (bs : List Byte) (k : LaneId) :
    ((s.lmemSet l addr bs).lane k).regs = (s.lane k).regs := by cases l <;> cases k <;> rfl

@[simp] theorem State.lmemSet_lane_ecc (s : State) (l : LaneId) (addr : Nat) (bs : List Byte) (k : LaneId) :
    ((s.lmemSet l addr bs).lane k).ecc = (s.lane k).ecc := by cases l <;> cases k <;> rfl

@[simp] theorem State.lmemSet_lane_cores (s : State) (l : LaneId) (addr : Nat) (bs : List Byte) (k : LaneId) :
    ((s.lmemSet l addr bs).lane k).cores = (s.lane k).cores := by cases l <;> cases k <;> rfl

@[simp] theorem State.lmemSet_lane_fe (s : State) (l : LaneId) (addr : Nat) (bs : List Byte) (k : LaneId) :
    ((s.lmemSet l addr bs).lane k).fe = (s.lane k).fe := by cases l <;> cases k <;> rfl

@[simp] theorem State.lmemSet_lane_tick (s : State) (l : LaneId) (addr : Nat) (bs : List Byte) (k : LaneId) :
    ((s.lmemSet l addr bs).lane k).tick = (s.lane k).tick := by cases l <;> cases k <;> rfl

@[simp] theorem State.lmemSet_lane_xch (s : State) (l : LaneId) (addr : Nat) (bs : List Byte) (k : LaneId) :
    ((s.lmemSet l addr bs).lane k).xch = (s.lane k).xch := by cases l <;> cases k <;> rfl

@[simp] theorem State.lmemSet_lane_rt (s : State) (l : LaneId) (addr : Nat) (bs : List Byte) (k : LaneId) :
    ((s.lmemSet l addr bs).lane k).rt = (s.lane k).rt := by cases l <;> cases k <;> rfl

@[simp] theorem State.lmemSet_lane_prog (s : State) (l : LaneId) (addr : Nat) (bs : List Byte) (k : LaneId) :
    ((s.lmemSet l addr bs).lane k).prog = (s.lane k).prog := by cases l <;> cases k <;> rfl

@[simp] theorem State.lmemSet_lane_newProg (s : State) (l : LaneId) (addr : Nat) (bs : List Byte) (k : LaneId) :
    ((s.lmemSet l addr bs).lane k).newProg = (s.lane k).newProg := by cases l <;> cases k <;> rfl

@[simp] theorem State.lmemSet_lane_admission (s : State) (l : LaneId) (addr : Nat) (bs : List Byte) (k : LaneId) :
    ((s.lmemSet l addr bs).lane k).admission = (s.lane k).admission := by cases l <;> cases k <;> rfl

@[simp] theorem State.lmemSet_lane_carried (s : State) (l : LaneId) (addr : Nat) (bs : List Byte) (k : LaneId) :
    ((s.lmemSet l addr bs).lane k).carried = (s.lane k).carried := by cases l <;> cases k <;> rfl

@[simp] theorem State.lmemSet_lane_carryFail (s : State) (l : LaneId) (addr : Nat) (bs : List Byte) (k : LaneId) :
    ((s.lmemSet l addr bs).lane k).carryFail = (s.lane k).carryFail := by cases l <;> cases k <;> rfl

@[simp] theorem State.lmemSet_lane_switchRec (s : State) (l : LaneId) (addr : Nat) (bs : List Byte) (k : LaneId) :
    ((s.lmemSet l addr bs).lane k).switchRec = (s.lane k).switchRec := by cases l <;> cases k <;> rfl

@[simp] theorem State.lmemSet_lane_sum (s : State) (l : LaneId) (addr : Nat) (bs : List Byte) (k : LaneId) :
    ((s.lmemSet l addr bs).lane k).sum = (s.lane k).sum := by cases l <;> cases k <;> rfl

@[simp] theorem State.lmemSet_lane_ret (s : State) (l : LaneId) (addr : Nat) (bs : List Byte) (k : LaneId) :
    ((s.lmemSet l addr bs).lane k).ret = (s.lane k).ret := by cases l <;> cases k <;> rfl

@[simp] theorem State.lmemSet_lane_brg (s : State) (l : LaneId) (addr : Nat) (bs : List Byte) (k : LaneId) :
    ((s.lmemSet l addr bs).lane k).brg = (s.lane k).brg := by cases l <;> cases k <;> rfl

@[simp] theorem State.lmemSet_lane_book (s : State) (l : LaneId) (addr : Nat) (bs : List Byte) (k : LaneId) :
    ((s.lmemSet l addr bs).lane k).book = (s.lane k).book := by cases l <;> cases k <;> rfl

@[simp] theorem State.lmemSet_lane_coop (s : State) (l : LaneId) (addr : Nat) (bs : List Byte) (k : LaneId) :
    ((s.lmemSet l addr bs).lane k).coop = (s.lane k).coop := by cases l <;> cases k <;> rfl

@[simp] theorem State.lmemSet_lane_claimed (s : State) (l : LaneId) (addr : Nat) (bs : List Byte) (k : LaneId) :
    ((s.lmemSet l addr bs).lane k).claimed = (s.lane k).claimed := by cases l <;> cases k <;> rfl

@[simp] theorem State.lmemSet_lane_restart (s : State) (l : LaneId) (addr : Nat) (bs : List Byte) (k : LaneId) :
    ((s.lmemSet l addr bs).lane k).restart = (s.lane k).restart := by cases l <;> cases k <;> rfl

@[simp] theorem State.lmemSet_lane_out (s : State) (l : LaneId) (addr : Nat) (bs : List Byte) (k : LaneId) :
    ((s.lmemSet l addr bs).lane k).out = (s.lane k).out := by cases l <;> cases k <;> rfl

@[simp] theorem State.lmemSet_lane_cfgDue (s : State) (l : LaneId) (addr : Nat) (bs : List Byte) (k : LaneId) :
    ((s.lmemSet l addr bs).lane k).cfgDue = (s.lane k).cfgDue := by cases l <;> cases k <;> rfl

@[simp] theorem State.taskSet_lane_supplied (s : State) (l : LaneId) (t : Nat) (x : TaskRt) (k : LaneId) :
    ((s.taskSet l t x).lane k).supplied = (s.lane k).supplied := by cases l <;> cases k <;> rfl

@[simp] theorem State.taskSet_lane_regs (s : State) (l : LaneId) (t : Nat) (x : TaskRt) (k : LaneId) :
    ((s.taskSet l t x).lane k).regs = (s.lane k).regs := by cases l <;> cases k <;> rfl

@[simp] theorem State.taskSet_lane_mem (s : State) (l : LaneId) (t : Nat) (x : TaskRt) (k : LaneId) :
    ((s.taskSet l t x).lane k).mem = (s.lane k).mem := by cases l <;> cases k <;> rfl

@[simp] theorem State.taskSet_lane_ecc (s : State) (l : LaneId) (t : Nat) (x : TaskRt) (k : LaneId) :
    ((s.taskSet l t x).lane k).ecc = (s.lane k).ecc := by cases l <;> cases k <;> rfl

@[simp] theorem State.taskSet_lane_cores (s : State) (l : LaneId) (t : Nat) (x : TaskRt) (k : LaneId) :
    ((s.taskSet l t x).lane k).cores = (s.lane k).cores := by cases l <;> cases k <;> rfl

@[simp] theorem State.taskSet_lane_fe (s : State) (l : LaneId) (t : Nat) (x : TaskRt) (k : LaneId) :
    ((s.taskSet l t x).lane k).fe = (s.lane k).fe := by cases l <;> cases k <;> rfl

@[simp] theorem State.taskSet_lane_tick (s : State) (l : LaneId) (t : Nat) (x : TaskRt) (k : LaneId) :
    ((s.taskSet l t x).lane k).tick = (s.lane k).tick := by cases l <;> cases k <;> rfl

@[simp] theorem State.taskSet_lane_xch (s : State) (l : LaneId) (t : Nat) (x : TaskRt) (k : LaneId) :
    ((s.taskSet l t x).lane k).xch = (s.lane k).xch := by cases l <;> cases k <;> rfl

@[simp] theorem State.taskSet_lane_prog (s : State) (l : LaneId) (t : Nat) (x : TaskRt) (k : LaneId) :
    ((s.taskSet l t x).lane k).prog = (s.lane k).prog := by cases l <;> cases k <;> rfl

@[simp] theorem State.taskSet_lane_newProg (s : State) (l : LaneId) (t : Nat) (x : TaskRt) (k : LaneId) :
    ((s.taskSet l t x).lane k).newProg = (s.lane k).newProg := by cases l <;> cases k <;> rfl

@[simp] theorem State.taskSet_lane_admission (s : State) (l : LaneId) (t : Nat) (x : TaskRt) (k : LaneId) :
    ((s.taskSet l t x).lane k).admission = (s.lane k).admission := by cases l <;> cases k <;> rfl

@[simp] theorem State.taskSet_lane_carried (s : State) (l : LaneId) (t : Nat) (x : TaskRt) (k : LaneId) :
    ((s.taskSet l t x).lane k).carried = (s.lane k).carried := by cases l <;> cases k <;> rfl

@[simp] theorem State.taskSet_lane_carryFail (s : State) (l : LaneId) (t : Nat) (x : TaskRt) (k : LaneId) :
    ((s.taskSet l t x).lane k).carryFail = (s.lane k).carryFail := by cases l <;> cases k <;> rfl

@[simp] theorem State.taskSet_lane_switchRec (s : State) (l : LaneId) (t : Nat) (x : TaskRt) (k : LaneId) :
    ((s.taskSet l t x).lane k).switchRec = (s.lane k).switchRec := by cases l <;> cases k <;> rfl

@[simp] theorem State.taskSet_lane_sum (s : State) (l : LaneId) (t : Nat) (x : TaskRt) (k : LaneId) :
    ((s.taskSet l t x).lane k).sum = (s.lane k).sum := by cases l <;> cases k <;> rfl

@[simp] theorem State.taskSet_lane_ret (s : State) (l : LaneId) (t : Nat) (x : TaskRt) (k : LaneId) :
    ((s.taskSet l t x).lane k).ret = (s.lane k).ret := by cases l <;> cases k <;> rfl

@[simp] theorem State.taskSet_lane_brg (s : State) (l : LaneId) (t : Nat) (x : TaskRt) (k : LaneId) :
    ((s.taskSet l t x).lane k).brg = (s.lane k).brg := by cases l <;> cases k <;> rfl

@[simp] theorem State.taskSet_lane_book (s : State) (l : LaneId) (t : Nat) (x : TaskRt) (k : LaneId) :
    ((s.taskSet l t x).lane k).book = (s.lane k).book := by cases l <;> cases k <;> rfl

@[simp] theorem State.taskSet_lane_coop (s : State) (l : LaneId) (t : Nat) (x : TaskRt) (k : LaneId) :
    ((s.taskSet l t x).lane k).coop = (s.lane k).coop := by cases l <;> cases k <;> rfl

@[simp] theorem State.taskSet_lane_claimed (s : State) (l : LaneId) (t : Nat) (x : TaskRt) (k : LaneId) :
    ((s.taskSet l t x).lane k).claimed = (s.lane k).claimed := by cases l <;> cases k <;> rfl

@[simp] theorem State.taskSet_lane_restart (s : State) (l : LaneId) (t : Nat) (x : TaskRt) (k : LaneId) :
    ((s.taskSet l t x).lane k).restart = (s.lane k).restart := by cases l <;> cases k <;> rfl

@[simp] theorem State.taskSet_lane_out (s : State) (l : LaneId) (t : Nat) (x : TaskRt) (k : LaneId) :
    ((s.taskSet l t x).lane k).out = (s.lane k).out := by cases l <;> cases k <;> rfl

@[simp] theorem State.taskSet_lane_cfgDue (s : State) (l : LaneId) (t : Nat) (x : TaskRt) (k : LaneId) :
    ((s.taskSet l t x).lane k).cfgDue = (s.lane k).cfgDue := by cases l <;> cases k <;> rfl

@[simp] theorem State.taskFail_lane_supplied (s : State) (l : LaneId) (t : Nat) (k : LaneId) :
    ((s.taskFail l t).lane k).supplied = (s.lane k).supplied := by cases l <;> cases k <;> rfl

@[simp] theorem State.taskFail_lane_regs (s : State) (l : LaneId) (t : Nat) (k : LaneId) :
    ((s.taskFail l t).lane k).regs = (s.lane k).regs := by cases l <;> cases k <;> rfl

@[simp] theorem State.taskFail_lane_mem (s : State) (l : LaneId) (t : Nat) (k : LaneId) :
    ((s.taskFail l t).lane k).mem = (s.lane k).mem := by cases l <;> cases k <;> rfl

@[simp] theorem State.taskFail_lane_ecc (s : State) (l : LaneId) (t : Nat) (k : LaneId) :
    ((s.taskFail l t).lane k).ecc = (s.lane k).ecc := by cases l <;> cases k <;> rfl

@[simp] theorem State.taskFail_lane_cores (s : State) (l : LaneId) (t : Nat) (k : LaneId) :
    ((s.taskFail l t).lane k).cores = (s.lane k).cores := by cases l <;> cases k <;> rfl

@[simp] theorem State.taskFail_lane_fe (s : State) (l : LaneId) (t : Nat) (k : LaneId) :
    ((s.taskFail l t).lane k).fe = (s.lane k).fe := by cases l <;> cases k <;> rfl

@[simp] theorem State.taskFail_lane_tick (s : State) (l : LaneId) (t : Nat) (k : LaneId) :
    ((s.taskFail l t).lane k).tick = (s.lane k).tick := by cases l <;> cases k <;> rfl

@[simp] theorem State.taskFail_lane_xch (s : State) (l : LaneId) (t : Nat) (k : LaneId) :
    ((s.taskFail l t).lane k).xch = (s.lane k).xch := by cases l <;> cases k <;> rfl

@[simp] theorem State.taskFail_lane_prog (s : State) (l : LaneId) (t : Nat) (k : LaneId) :
    ((s.taskFail l t).lane k).prog = (s.lane k).prog := by cases l <;> cases k <;> rfl

@[simp] theorem State.taskFail_lane_newProg (s : State) (l : LaneId) (t : Nat) (k : LaneId) :
    ((s.taskFail l t).lane k).newProg = (s.lane k).newProg := by cases l <;> cases k <;> rfl

@[simp] theorem State.taskFail_lane_admission (s : State) (l : LaneId) (t : Nat) (k : LaneId) :
    ((s.taskFail l t).lane k).admission = (s.lane k).admission := by cases l <;> cases k <;> rfl

@[simp] theorem State.taskFail_lane_carried (s : State) (l : LaneId) (t : Nat) (k : LaneId) :
    ((s.taskFail l t).lane k).carried = (s.lane k).carried := by cases l <;> cases k <;> rfl

@[simp] theorem State.taskFail_lane_carryFail (s : State) (l : LaneId) (t : Nat) (k : LaneId) :
    ((s.taskFail l t).lane k).carryFail = (s.lane k).carryFail := by cases l <;> cases k <;> rfl

@[simp] theorem State.taskFail_lane_switchRec (s : State) (l : LaneId) (t : Nat) (k : LaneId) :
    ((s.taskFail l t).lane k).switchRec = (s.lane k).switchRec := by cases l <;> cases k <;> rfl

@[simp] theorem State.taskFail_lane_sum (s : State) (l : LaneId) (t : Nat) (k : LaneId) :
    ((s.taskFail l t).lane k).sum = (s.lane k).sum := by cases l <;> cases k <;> rfl

@[simp] theorem State.taskFail_lane_ret (s : State) (l : LaneId) (t : Nat) (k : LaneId) :
    ((s.taskFail l t).lane k).ret = (s.lane k).ret := by cases l <;> cases k <;> rfl

@[simp] theorem State.taskFail_lane_brg (s : State) (l : LaneId) (t : Nat) (k : LaneId) :
    ((s.taskFail l t).lane k).brg = (s.lane k).brg := by cases l <;> cases k <;> rfl

@[simp] theorem State.taskFail_lane_book (s : State) (l : LaneId) (t : Nat) (k : LaneId) :
    ((s.taskFail l t).lane k).book = (s.lane k).book := by cases l <;> cases k <;> rfl

@[simp] theorem State.taskFail_lane_coop (s : State) (l : LaneId) (t : Nat) (k : LaneId) :
    ((s.taskFail l t).lane k).coop = (s.lane k).coop := by cases l <;> cases k <;> rfl

@[simp] theorem State.taskFail_lane_claimed (s : State) (l : LaneId) (t : Nat) (k : LaneId) :
    ((s.taskFail l t).lane k).claimed = (s.lane k).claimed := by cases l <;> cases k <;> rfl

@[simp] theorem State.taskFail_lane_restart (s : State) (l : LaneId) (t : Nat) (k : LaneId) :
    ((s.taskFail l t).lane k).restart = (s.lane k).restart := by cases l <;> cases k <;> rfl

@[simp] theorem State.taskFail_lane_out (s : State) (l : LaneId) (t : Nat) (k : LaneId) :
    ((s.taskFail l t).lane k).out = (s.lane k).out := by cases l <;> cases k <;> rfl

@[simp] theorem State.taskFail_lane_cfgDue (s : State) (l : LaneId) (t : Nat) (k : LaneId) :
    ((s.taskFail l t).lane k).cfgDue = (s.lane k).cfgDue := by cases l <;> cases k <;> rfl

/-! ### Operations on the hub's registers leave the lanes and everything else -/

@[simp] theorem State.hregSet_laneA (s : State) (addr : Nat) (v : Word) :
    (s.hregSet addr v).laneA = s.laneA := by unfold State.hregSet; split <;> rfl

@[simp] theorem State.hregSet_laneB (s : State) (addr : Nat) (v : Word) :
    (s.hregSet addr v).laneB = s.laneB := by unfold State.hregSet; split <;> rfl

@[simp] theorem State.hregSet_laneC (s : State) (addr : Nat) (v : Word) :
    (s.hregSet addr v).laneC = s.laneC := by unfold State.hregSet; split <;> rfl

@[simp] theorem State.hregSet_pending (s : State) (addr : Nat) (v : Word) :
    (s.hregSet addr v).pending = s.pending := by unfold State.hregSet; split <;> rfl

@[simp] theorem State.hregSet_v1 (s : State) (addr : Nat) (v : Word) :
    (s.hregSet addr v).v1 = s.v1 := by unfold State.hregSet; split <;> rfl

@[simp] theorem State.hregSet_book (s : State) (addr : Nat) (v : Word) :
    (s.hregSet addr v).book = s.book := by unfold State.hregSet; split <;> rfl

@[simp] theorem State.hregSet_sup (s : State) (addr : Nat) (v : Word) :
    (s.hregSet addr v).sup = s.sup := by unfold State.hregSet; split <;> rfl

@[simp] theorem State.hregSet_md (s : State) (addr : Nat) (v : Word) :
    (s.hregSet addr v).md = s.md := by unfold State.hregSet; split <;> rfl

@[simp] theorem State.hregSet_rack (s : State) (addr : Nat) (v : Word) :
    (s.hregSet addr v).rack = s.rack := by unfold State.hregSet; split <;> rfl

@[simp] theorem State.hregSet_store (s : State) (addr : Nat) (v : Word) :
    (s.hregSet addr v).store = s.store := by unfold State.hregSet; split <;> rfl

@[simp] theorem State.hregSet_dict (s : State) (addr : Nat) (v : Word) :
    (s.hregSet addr v).dict = s.dict := by unfold State.hregSet; split <;> rfl

@[simp] theorem State.hregSet_svc (s : State) (addr : Nat) (v : Word) :
    (s.hregSet addr v).svc = s.svc := by unfold State.hregSet; split <;> rfl

@[simp] theorem State.hregSet_partners (s : State) (addr : Nat) (v : Word) :
    (s.hregSet addr v).partners = s.partners := by unfold State.hregSet; split <;> rfl

@[simp] theorem State.hregSet_fld (s : State) (addr : Nat) (v : Word) :
    (s.hregSet addr v).fld = s.fld := by unfold State.hregSet; split <;> rfl

@[simp] theorem State.hregSet_coo (s : State) (addr : Nat) (v : Word) :
    (s.hregSet addr v).coo = s.coo := by unfold State.hregSet; split <;> rfl

@[simp] theorem State.hregSet_tx (s : State) (addr : Nat) (v : Word) :
    (s.hregSet addr v).tx = s.tx := by unfold State.hregSet; split <;> rfl

@[simp] theorem State.hregSet_freeCtr (s : State) (addr : Nat) (v : Word) :
    (s.hregSet addr v).freeCtr = s.freeCtr := by unfold State.hregSet; split <;> rfl

@[simp] theorem State.hregSet_hub_supplied (s : State) (addr : Nat) (v : Word) :
    (s.hregSet addr v).hub.supplied = s.hub.supplied := by unfold State.hregSet; split <;> rfl

@[simp] theorem State.hregSet_hub_markers (s : State) (addr : Nat) (v : Word) :
    (s.hregSet addr v).hub.markers = s.hub.markers := by unfold State.hregSet; split <;> rfl

@[simp] theorem State.hregSet_hub_frame (s : State) (addr : Nat) (v : Word) :
    (s.hregSet addr v).hub.frame = s.hub.frame := by unfold State.hregSet; split <;> rfl

@[simp] theorem State.hregSet_hub_sram (s : State) (addr : Nat) (v : Word) :
    (s.hregSet addr v).hub.sram = s.hub.sram := by unfold State.hregSet; split <;> rfl

@[simp] theorem State.hregSet_hub_mram (s : State) (addr : Nat) (v : Word) :
    (s.hregSet addr v).hub.mram = s.hub.mram := by unfold State.hregSet; split <;> rfl

@[simp] theorem State.hregSet_hub_bank (s : State) (addr : Nat) (v : Word) :
    (s.hregSet addr v).hub.bank = s.hub.bank := by unfold State.hregSet; split <;> rfl

@[simp] theorem State.hregSet_hub_mgmtUp (s : State) (addr : Nat) (v : Word) :
    (s.hregSet addr v).hub.mgmtUp = s.hub.mgmtUp := by unfold State.hregSet; split <;> rfl

@[simp] theorem State.hregSet_pde_chans (s : State) (addr : Nat) (v : Word) :
    (s.hregSet addr v).pde.chans = s.pde.chans := by unfold State.hregSet; split <;> rfl

@[simp] theorem State.hregSet_pde_vdone (s : State) (addr : Nat) (v : Word) :
    (s.hregSet addr v).pde.vdone = s.pde.vdone := by unfold State.hregSet; split <;> rfl

@[simp] theorem State.hregSet_pde_fetched (s : State) (addr : Nat) (v : Word) :
    (s.hregSet addr v).pde.fetched = s.pde.fetched := by unfold State.hregSet; split <;> rfl

@[simp] theorem State.hregSet_pde_armed (s : State) (addr : Nat) (v : Word) :
    (s.hregSet addr v).pde.armed = s.pde.armed := by unfold State.hregSet; split <;> rfl

@[simp] theorem State.hregSet_pde_relayArmed (s : State) (addr : Nat) (v : Word) :
    (s.hregSet addr v).pde.relayArmed = s.pde.relayArmed := by unfold State.hregSet; split <;> rfl

@[simp] theorem State.hregSet_net_ports (s : State) (addr : Nat) (v : Word) :
    (s.hregSet addr v).net.ports = s.net.ports := by unfold State.hregSet; split <;> rfl

@[simp] theorem State.hregSet_net_bank0 (s : State) (addr : Nat) (v : Word) :
    (s.hregSet addr v).net.bank0 = s.net.bank0 := by unfold State.hregSet; split <;> rfl

@[simp] theorem State.hregSet_net_bank1 (s : State) (addr : Nat) (v : Word) :
    (s.hregSet addr v).net.bank1 = s.net.bank1 := by unfold State.hregSet; split <;> rfl

@[simp] theorem State.hregSet_net_switchAt (s : State) (addr : Nat) (v : Word) :
    (s.hregSet addr v).net.switchAt = s.net.switchAt := by unfold State.hregSet; split <;> rfl

@[simp] theorem State.hregSet_net_nextB (s : State) (addr : Nat) (v : Word) :
    (s.hregSet addr v).net.nextB = s.net.nextB := by unfold State.hregSet; split <;> rfl

@[simp] theorem State.hregSet_net_matrix (s : State) (addr : Nat) (v : Word) :
    (s.hregSet addr v).net.matrix = s.net.matrix := by unfold State.hregSet; split <;> rfl

@[simp] theorem State.hregSet_net_started (s : State) (addr : Nat) (v : Word) :
    (s.hregSet addr v).net.started = s.net.started := by unfold State.hregSet; split <;> rfl

@[simp] theorem State.hregSet_net_claims (s : State) (addr : Nat) (v : Word) :
    (s.hregSet addr v).net.claims = s.net.claims := by unfold State.hregSet; split <;> rfl

@[simp] theorem State.hregSet_net_hrvOut (s : State) (addr : Nat) (v : Word) :
    (s.hregSet addr v).net.hrvOut = s.net.hrvOut := by unfold State.hregSet; split <;> rfl

@[simp] theorem State.hregSet_net_hrvIn (s : State) (addr : Nat) (v : Word) :
    (s.hregSet addr v).net.hrvIn = s.net.hrvIn := by unfold State.hregSet; split <;> rfl

@[simp] theorem State.hregSet_net_hrvOutstanding (s : State) (addr : Nat) (v : Word) :
    (s.hregSet addr v).net.hrvOutstanding = s.net.hrvOutstanding := by unfold State.hregSet; split <;> rfl

@[simp] theorem State.hregSet_net_hrvGot (s : State) (addr : Nat) (v : Word) :
    (s.hregSet addr v).net.hrvGot = s.net.hrvGot := by unfold State.hregSet; split <;> rfl

@[simp] theorem State.hregSet_net_hrvBack (s : State) (addr : Nat) (v : Word) :
    (s.hregSet addr v).net.hrvBack = s.net.hrvBack := by unfold State.hregSet; split <;> rfl

@[simp] theorem State.hregSet_net_healed (s : State) (addr : Nat) (v : Word) :
    (s.hregSet addr v).net.healed = s.net.healed := by unfold State.hregSet; split <;> rfl

@[simp] theorem State.hregSet_net_splitPasses (s : State) (addr : Nat) (v : Word) :
    (s.hregSet addr v).net.splitPasses = s.net.splitPasses := by unfold State.hregSet; split <;> rfl

@[simp] theorem State.hregSet_net_missing (s : State) (addr : Nat) (v : Word) :
    (s.hregSet addr v).net.missing = s.net.missing := by unfold State.hregSet; split <;> rfl

@[simp] theorem State.hregSet_net_trdpSeq (s : State) (addr : Nat) (v : Word) :
    (s.hregSet addr v).net.trdpSeq = s.net.trdpSeq := by unfold State.hregSet; split <;> rfl

@[simp] theorem State.hregSet_net_rtagSeq (s : State) (addr : Nat) (v : Word) :
    (s.hregSet addr v).net.rtagSeq = s.net.rtagSeq := by unfold State.hregSet; split <;> rfl

@[simp] theorem State.hregSet_net_recover (s : State) (addr : Nat) (v : Word) :
    (s.hregSet addr v).net.recover = s.net.recover := by unfold State.hregSet; split <;> rfl

@[simp] theorem State.hregSet_can_chs (s : State) (addr : Nat) (v : Word) :
    (s.hregSet addr v).can.chs = s.can.chs := by unfold State.hregSet; split <;> rfl

@[simp] theorem State.hregSet_tb_edgeRaw (s : State) (addr : Nat) (v : Word) :
    (s.hregSet addr v).tb.edgeRaw = s.tb.edgeRaw := by unfold State.hregSet; split <;> rfl

@[simp] theorem State.hregSet_tb_syncRun (s : State) (addr : Nat) (v : Word) :
    (s.hregSet addr v).tb.syncRun = s.tb.syncRun := by unfold State.hregSet; split <;> rfl

@[simp] theorem State.hregSet_tb_syncRaw (s : State) (addr : Nat) (v : Word) :
    (s.hregSet addr v).tb.syncRaw = s.tb.syncRaw := by unfold State.hregSet; split <;> rfl

@[simp] theorem State.hregSet_tb_holdRaw (s : State) (addr : Nat) (v : Word) :
    (s.hregSet addr v).tb.holdRaw = s.tb.holdRaw := by unfold State.hregSet; split <;> rfl

@[simp] theorem State.hregSet_tb_isSet (s : State) (addr : Nat) (v : Word) :
    (s.hregSet addr v).tb.isSet = s.tb.isSet := by unfold State.hregSet; split <;> rfl

@[simp] theorem State.hregSet_tb_hi (s : State) (addr : Nat) (v : Word) :
    (s.hregSet addr v).tb.hi = s.tb.hi := by unfold State.hregSet; split <;> rfl

@[simp] theorem State.hregSet_tb_seq (s : State) (addr : Nat) (v : Word) :
    (s.hregSet addr v).tb.seq = s.tb.seq := by unfold State.hregSet; split <;> rfl

@[simp] theorem State.hregSet_tb_arrive (s : State) (addr : Nat) (v : Word) :
    (s.hregSet addr v).tb.arrive = s.tb.arrive := by unfold State.hregSet; split <;> rfl

@[simp] theorem State.hregSet_lane (s : State) (addr : Nat) (v : Word) (k : LaneId) :
    (s.hregSet addr v).lane k = s.lane k := by cases k <;> simp [State.lane]

@[simp] theorem State.hfSet_laneA (s : State) (f : Fld) (x : Nat) :
    (s.hfSet f x).laneA = s.laneA := State.hregSet_laneA _ _ _

@[simp] theorem State.hfSet_laneB (s : State) (f : Fld) (x : Nat) :
    (s.hfSet f x).laneB = s.laneB := State.hregSet_laneB _ _ _

@[simp] theorem State.hfSet_laneC (s : State) (f : Fld) (x : Nat) :
    (s.hfSet f x).laneC = s.laneC := State.hregSet_laneC _ _ _

@[simp] theorem State.hfSet_pending (s : State) (f : Fld) (x : Nat) :
    (s.hfSet f x).pending = s.pending := State.hregSet_pending _ _ _

@[simp] theorem State.hfSet_v1 (s : State) (f : Fld) (x : Nat) :
    (s.hfSet f x).v1 = s.v1 := State.hregSet_v1 _ _ _

@[simp] theorem State.hfSet_book (s : State) (f : Fld) (x : Nat) :
    (s.hfSet f x).book = s.book := State.hregSet_book _ _ _

@[simp] theorem State.hfSet_sup (s : State) (f : Fld) (x : Nat) :
    (s.hfSet f x).sup = s.sup := State.hregSet_sup _ _ _

@[simp] theorem State.hfSet_md (s : State) (f : Fld) (x : Nat) :
    (s.hfSet f x).md = s.md := State.hregSet_md _ _ _

@[simp] theorem State.hfSet_rack (s : State) (f : Fld) (x : Nat) :
    (s.hfSet f x).rack = s.rack := State.hregSet_rack _ _ _

@[simp] theorem State.hfSet_store (s : State) (f : Fld) (x : Nat) :
    (s.hfSet f x).store = s.store := State.hregSet_store _ _ _

@[simp] theorem State.hfSet_dict (s : State) (f : Fld) (x : Nat) :
    (s.hfSet f x).dict = s.dict := State.hregSet_dict _ _ _

@[simp] theorem State.hfSet_svc (s : State) (f : Fld) (x : Nat) :
    (s.hfSet f x).svc = s.svc := State.hregSet_svc _ _ _

@[simp] theorem State.hfSet_partners (s : State) (f : Fld) (x : Nat) :
    (s.hfSet f x).partners = s.partners := State.hregSet_partners _ _ _

@[simp] theorem State.hfSet_fld (s : State) (f : Fld) (x : Nat) :
    (s.hfSet f x).fld = s.fld := State.hregSet_fld _ _ _

@[simp] theorem State.hfSet_coo (s : State) (f : Fld) (x : Nat) :
    (s.hfSet f x).coo = s.coo := State.hregSet_coo _ _ _

@[simp] theorem State.hfSet_tx (s : State) (f : Fld) (x : Nat) :
    (s.hfSet f x).tx = s.tx := State.hregSet_tx _ _ _

@[simp] theorem State.hfSet_freeCtr (s : State) (f : Fld) (x : Nat) :
    (s.hfSet f x).freeCtr = s.freeCtr := State.hregSet_freeCtr _ _ _

@[simp] theorem State.hfSet_hub_supplied (s : State) (f : Fld) (x : Nat) :
    (s.hfSet f x).hub.supplied = s.hub.supplied := State.hregSet_hub_supplied _ _ _

@[simp] theorem State.hfSet_hub_markers (s : State) (f : Fld) (x : Nat) :
    (s.hfSet f x).hub.markers = s.hub.markers := State.hregSet_hub_markers _ _ _

@[simp] theorem State.hfSet_hub_frame (s : State) (f : Fld) (x : Nat) :
    (s.hfSet f x).hub.frame = s.hub.frame := State.hregSet_hub_frame _ _ _

@[simp] theorem State.hfSet_hub_sram (s : State) (f : Fld) (x : Nat) :
    (s.hfSet f x).hub.sram = s.hub.sram := State.hregSet_hub_sram _ _ _

@[simp] theorem State.hfSet_hub_mram (s : State) (f : Fld) (x : Nat) :
    (s.hfSet f x).hub.mram = s.hub.mram := State.hregSet_hub_mram _ _ _

@[simp] theorem State.hfSet_hub_bank (s : State) (f : Fld) (x : Nat) :
    (s.hfSet f x).hub.bank = s.hub.bank := State.hregSet_hub_bank _ _ _

@[simp] theorem State.hfSet_hub_mgmtUp (s : State) (f : Fld) (x : Nat) :
    (s.hfSet f x).hub.mgmtUp = s.hub.mgmtUp := State.hregSet_hub_mgmtUp _ _ _

@[simp] theorem State.hfSet_pde_chans (s : State) (f : Fld) (x : Nat) :
    (s.hfSet f x).pde.chans = s.pde.chans := State.hregSet_pde_chans _ _ _

@[simp] theorem State.hfSet_pde_vdone (s : State) (f : Fld) (x : Nat) :
    (s.hfSet f x).pde.vdone = s.pde.vdone := State.hregSet_pde_vdone _ _ _

@[simp] theorem State.hfSet_pde_fetched (s : State) (f : Fld) (x : Nat) :
    (s.hfSet f x).pde.fetched = s.pde.fetched := State.hregSet_pde_fetched _ _ _

@[simp] theorem State.hfSet_pde_armed (s : State) (f : Fld) (x : Nat) :
    (s.hfSet f x).pde.armed = s.pde.armed := State.hregSet_pde_armed _ _ _

@[simp] theorem State.hfSet_pde_relayArmed (s : State) (f : Fld) (x : Nat) :
    (s.hfSet f x).pde.relayArmed = s.pde.relayArmed := State.hregSet_pde_relayArmed _ _ _

@[simp] theorem State.hfSet_net_ports (s : State) (f : Fld) (x : Nat) :
    (s.hfSet f x).net.ports = s.net.ports := State.hregSet_net_ports _ _ _

@[simp] theorem State.hfSet_net_bank0 (s : State) (f : Fld) (x : Nat) :
    (s.hfSet f x).net.bank0 = s.net.bank0 := State.hregSet_net_bank0 _ _ _

@[simp] theorem State.hfSet_net_bank1 (s : State) (f : Fld) (x : Nat) :
    (s.hfSet f x).net.bank1 = s.net.bank1 := State.hregSet_net_bank1 _ _ _

@[simp] theorem State.hfSet_net_switchAt (s : State) (f : Fld) (x : Nat) :
    (s.hfSet f x).net.switchAt = s.net.switchAt := State.hregSet_net_switchAt _ _ _

@[simp] theorem State.hfSet_net_nextB (s : State) (f : Fld) (x : Nat) :
    (s.hfSet f x).net.nextB = s.net.nextB := State.hregSet_net_nextB _ _ _

@[simp] theorem State.hfSet_net_matrix (s : State) (f : Fld) (x : Nat) :
    (s.hfSet f x).net.matrix = s.net.matrix := State.hregSet_net_matrix _ _ _

@[simp] theorem State.hfSet_net_started (s : State) (f : Fld) (x : Nat) :
    (s.hfSet f x).net.started = s.net.started := State.hregSet_net_started _ _ _

@[simp] theorem State.hfSet_net_claims (s : State) (f : Fld) (x : Nat) :
    (s.hfSet f x).net.claims = s.net.claims := State.hregSet_net_claims _ _ _

@[simp] theorem State.hfSet_net_hrvOut (s : State) (f : Fld) (x : Nat) :
    (s.hfSet f x).net.hrvOut = s.net.hrvOut := State.hregSet_net_hrvOut _ _ _

@[simp] theorem State.hfSet_net_hrvIn (s : State) (f : Fld) (x : Nat) :
    (s.hfSet f x).net.hrvIn = s.net.hrvIn := State.hregSet_net_hrvIn _ _ _

@[simp] theorem State.hfSet_net_hrvOutstanding (s : State) (f : Fld) (x : Nat) :
    (s.hfSet f x).net.hrvOutstanding = s.net.hrvOutstanding := State.hregSet_net_hrvOutstanding _ _ _

@[simp] theorem State.hfSet_net_hrvGot (s : State) (f : Fld) (x : Nat) :
    (s.hfSet f x).net.hrvGot = s.net.hrvGot := State.hregSet_net_hrvGot _ _ _

@[simp] theorem State.hfSet_net_hrvBack (s : State) (f : Fld) (x : Nat) :
    (s.hfSet f x).net.hrvBack = s.net.hrvBack := State.hregSet_net_hrvBack _ _ _

@[simp] theorem State.hfSet_net_healed (s : State) (f : Fld) (x : Nat) :
    (s.hfSet f x).net.healed = s.net.healed := State.hregSet_net_healed _ _ _

@[simp] theorem State.hfSet_net_splitPasses (s : State) (f : Fld) (x : Nat) :
    (s.hfSet f x).net.splitPasses = s.net.splitPasses := State.hregSet_net_splitPasses _ _ _

@[simp] theorem State.hfSet_net_missing (s : State) (f : Fld) (x : Nat) :
    (s.hfSet f x).net.missing = s.net.missing := State.hregSet_net_missing _ _ _

@[simp] theorem State.hfSet_net_trdpSeq (s : State) (f : Fld) (x : Nat) :
    (s.hfSet f x).net.trdpSeq = s.net.trdpSeq := State.hregSet_net_trdpSeq _ _ _

@[simp] theorem State.hfSet_net_rtagSeq (s : State) (f : Fld) (x : Nat) :
    (s.hfSet f x).net.rtagSeq = s.net.rtagSeq := State.hregSet_net_rtagSeq _ _ _

@[simp] theorem State.hfSet_net_recover (s : State) (f : Fld) (x : Nat) :
    (s.hfSet f x).net.recover = s.net.recover := State.hregSet_net_recover _ _ _

@[simp] theorem State.hfSet_can_chs (s : State) (f : Fld) (x : Nat) :
    (s.hfSet f x).can.chs = s.can.chs := State.hregSet_can_chs _ _ _

@[simp] theorem State.hfSet_tb_edgeRaw (s : State) (f : Fld) (x : Nat) :
    (s.hfSet f x).tb.edgeRaw = s.tb.edgeRaw := State.hregSet_tb_edgeRaw _ _ _

@[simp] theorem State.hfSet_tb_syncRun (s : State) (f : Fld) (x : Nat) :
    (s.hfSet f x).tb.syncRun = s.tb.syncRun := State.hregSet_tb_syncRun _ _ _

@[simp] theorem State.hfSet_tb_syncRaw (s : State) (f : Fld) (x : Nat) :
    (s.hfSet f x).tb.syncRaw = s.tb.syncRaw := State.hregSet_tb_syncRaw _ _ _

@[simp] theorem State.hfSet_tb_holdRaw (s : State) (f : Fld) (x : Nat) :
    (s.hfSet f x).tb.holdRaw = s.tb.holdRaw := State.hregSet_tb_holdRaw _ _ _

@[simp] theorem State.hfSet_tb_isSet (s : State) (f : Fld) (x : Nat) :
    (s.hfSet f x).tb.isSet = s.tb.isSet := State.hregSet_tb_isSet _ _ _

@[simp] theorem State.hfSet_tb_hi (s : State) (f : Fld) (x : Nat) :
    (s.hfSet f x).tb.hi = s.tb.hi := State.hregSet_tb_hi _ _ _

@[simp] theorem State.hfSet_tb_seq (s : State) (f : Fld) (x : Nat) :
    (s.hfSet f x).tb.seq = s.tb.seq := State.hregSet_tb_seq _ _ _

@[simp] theorem State.hfSet_tb_arrive (s : State) (f : Fld) (x : Nat) :
    (s.hfSet f x).tb.arrive = s.tb.arrive := State.hregSet_tb_arrive _ _ _

@[simp] theorem State.hfSet_lane (s : State) (f : Fld) (x : Nat) (k : LaneId) :
    (s.hfSet f x).lane k = s.lane k := by cases k <;> simp [State.lane]

@[simp] theorem State.hcount_laneA (s : State) (f : Fld) (d : Nat) :
    (s.hcount f d).laneA = s.laneA := State.hfSet_laneA _ _ _

@[simp] theorem State.hcount_laneB (s : State) (f : Fld) (d : Nat) :
    (s.hcount f d).laneB = s.laneB := State.hfSet_laneB _ _ _

@[simp] theorem State.hcount_laneC (s : State) (f : Fld) (d : Nat) :
    (s.hcount f d).laneC = s.laneC := State.hfSet_laneC _ _ _

@[simp] theorem State.hcount_pending (s : State) (f : Fld) (d : Nat) :
    (s.hcount f d).pending = s.pending := State.hfSet_pending _ _ _

@[simp] theorem State.hcount_v1 (s : State) (f : Fld) (d : Nat) :
    (s.hcount f d).v1 = s.v1 := State.hfSet_v1 _ _ _

@[simp] theorem State.hcount_book (s : State) (f : Fld) (d : Nat) :
    (s.hcount f d).book = s.book := State.hfSet_book _ _ _

@[simp] theorem State.hcount_sup (s : State) (f : Fld) (d : Nat) :
    (s.hcount f d).sup = s.sup := State.hfSet_sup _ _ _

@[simp] theorem State.hcount_md (s : State) (f : Fld) (d : Nat) :
    (s.hcount f d).md = s.md := State.hfSet_md _ _ _

@[simp] theorem State.hcount_rack (s : State) (f : Fld) (d : Nat) :
    (s.hcount f d).rack = s.rack := State.hfSet_rack _ _ _

@[simp] theorem State.hcount_store (s : State) (f : Fld) (d : Nat) :
    (s.hcount f d).store = s.store := State.hfSet_store _ _ _

@[simp] theorem State.hcount_dict (s : State) (f : Fld) (d : Nat) :
    (s.hcount f d).dict = s.dict := State.hfSet_dict _ _ _

@[simp] theorem State.hcount_svc (s : State) (f : Fld) (d : Nat) :
    (s.hcount f d).svc = s.svc := State.hfSet_svc _ _ _

@[simp] theorem State.hcount_partners (s : State) (f : Fld) (d : Nat) :
    (s.hcount f d).partners = s.partners := State.hfSet_partners _ _ _

@[simp] theorem State.hcount_fld (s : State) (f : Fld) (d : Nat) :
    (s.hcount f d).fld = s.fld := State.hfSet_fld _ _ _

@[simp] theorem State.hcount_coo (s : State) (f : Fld) (d : Nat) :
    (s.hcount f d).coo = s.coo := State.hfSet_coo _ _ _

@[simp] theorem State.hcount_tx (s : State) (f : Fld) (d : Nat) :
    (s.hcount f d).tx = s.tx := State.hfSet_tx _ _ _

@[simp] theorem State.hcount_freeCtr (s : State) (f : Fld) (d : Nat) :
    (s.hcount f d).freeCtr = s.freeCtr := State.hfSet_freeCtr _ _ _

@[simp] theorem State.hcount_hub_supplied (s : State) (f : Fld) (d : Nat) :
    (s.hcount f d).hub.supplied = s.hub.supplied := State.hfSet_hub_supplied _ _ _

@[simp] theorem State.hcount_hub_markers (s : State) (f : Fld) (d : Nat) :
    (s.hcount f d).hub.markers = s.hub.markers := State.hfSet_hub_markers _ _ _

@[simp] theorem State.hcount_hub_frame (s : State) (f : Fld) (d : Nat) :
    (s.hcount f d).hub.frame = s.hub.frame := State.hfSet_hub_frame _ _ _

@[simp] theorem State.hcount_hub_sram (s : State) (f : Fld) (d : Nat) :
    (s.hcount f d).hub.sram = s.hub.sram := State.hfSet_hub_sram _ _ _

@[simp] theorem State.hcount_hub_mram (s : State) (f : Fld) (d : Nat) :
    (s.hcount f d).hub.mram = s.hub.mram := State.hfSet_hub_mram _ _ _

@[simp] theorem State.hcount_hub_bank (s : State) (f : Fld) (d : Nat) :
    (s.hcount f d).hub.bank = s.hub.bank := State.hfSet_hub_bank _ _ _

@[simp] theorem State.hcount_hub_mgmtUp (s : State) (f : Fld) (d : Nat) :
    (s.hcount f d).hub.mgmtUp = s.hub.mgmtUp := State.hfSet_hub_mgmtUp _ _ _

@[simp] theorem State.hcount_pde_chans (s : State) (f : Fld) (d : Nat) :
    (s.hcount f d).pde.chans = s.pde.chans := State.hfSet_pde_chans _ _ _

@[simp] theorem State.hcount_pde_vdone (s : State) (f : Fld) (d : Nat) :
    (s.hcount f d).pde.vdone = s.pde.vdone := State.hfSet_pde_vdone _ _ _

@[simp] theorem State.hcount_pde_fetched (s : State) (f : Fld) (d : Nat) :
    (s.hcount f d).pde.fetched = s.pde.fetched := State.hfSet_pde_fetched _ _ _

@[simp] theorem State.hcount_pde_armed (s : State) (f : Fld) (d : Nat) :
    (s.hcount f d).pde.armed = s.pde.armed := State.hfSet_pde_armed _ _ _

@[simp] theorem State.hcount_pde_relayArmed (s : State) (f : Fld) (d : Nat) :
    (s.hcount f d).pde.relayArmed = s.pde.relayArmed := State.hfSet_pde_relayArmed _ _ _

@[simp] theorem State.hcount_net_ports (s : State) (f : Fld) (d : Nat) :
    (s.hcount f d).net.ports = s.net.ports := State.hfSet_net_ports _ _ _

@[simp] theorem State.hcount_net_bank0 (s : State) (f : Fld) (d : Nat) :
    (s.hcount f d).net.bank0 = s.net.bank0 := State.hfSet_net_bank0 _ _ _

@[simp] theorem State.hcount_net_bank1 (s : State) (f : Fld) (d : Nat) :
    (s.hcount f d).net.bank1 = s.net.bank1 := State.hfSet_net_bank1 _ _ _

@[simp] theorem State.hcount_net_switchAt (s : State) (f : Fld) (d : Nat) :
    (s.hcount f d).net.switchAt = s.net.switchAt := State.hfSet_net_switchAt _ _ _

@[simp] theorem State.hcount_net_nextB (s : State) (f : Fld) (d : Nat) :
    (s.hcount f d).net.nextB = s.net.nextB := State.hfSet_net_nextB _ _ _

@[simp] theorem State.hcount_net_matrix (s : State) (f : Fld) (d : Nat) :
    (s.hcount f d).net.matrix = s.net.matrix := State.hfSet_net_matrix _ _ _

@[simp] theorem State.hcount_net_started (s : State) (f : Fld) (d : Nat) :
    (s.hcount f d).net.started = s.net.started := State.hfSet_net_started _ _ _

@[simp] theorem State.hcount_net_claims (s : State) (f : Fld) (d : Nat) :
    (s.hcount f d).net.claims = s.net.claims := State.hfSet_net_claims _ _ _

@[simp] theorem State.hcount_net_hrvOut (s : State) (f : Fld) (d : Nat) :
    (s.hcount f d).net.hrvOut = s.net.hrvOut := State.hfSet_net_hrvOut _ _ _

@[simp] theorem State.hcount_net_hrvIn (s : State) (f : Fld) (d : Nat) :
    (s.hcount f d).net.hrvIn = s.net.hrvIn := State.hfSet_net_hrvIn _ _ _

@[simp] theorem State.hcount_net_hrvOutstanding (s : State) (f : Fld) (d : Nat) :
    (s.hcount f d).net.hrvOutstanding = s.net.hrvOutstanding := State.hfSet_net_hrvOutstanding _ _ _

@[simp] theorem State.hcount_net_hrvGot (s : State) (f : Fld) (d : Nat) :
    (s.hcount f d).net.hrvGot = s.net.hrvGot := State.hfSet_net_hrvGot _ _ _

@[simp] theorem State.hcount_net_hrvBack (s : State) (f : Fld) (d : Nat) :
    (s.hcount f d).net.hrvBack = s.net.hrvBack := State.hfSet_net_hrvBack _ _ _

@[simp] theorem State.hcount_net_healed (s : State) (f : Fld) (d : Nat) :
    (s.hcount f d).net.healed = s.net.healed := State.hfSet_net_healed _ _ _

@[simp] theorem State.hcount_net_splitPasses (s : State) (f : Fld) (d : Nat) :
    (s.hcount f d).net.splitPasses = s.net.splitPasses := State.hfSet_net_splitPasses _ _ _

@[simp] theorem State.hcount_net_missing (s : State) (f : Fld) (d : Nat) :
    (s.hcount f d).net.missing = s.net.missing := State.hfSet_net_missing _ _ _

@[simp] theorem State.hcount_net_trdpSeq (s : State) (f : Fld) (d : Nat) :
    (s.hcount f d).net.trdpSeq = s.net.trdpSeq := State.hfSet_net_trdpSeq _ _ _

@[simp] theorem State.hcount_net_rtagSeq (s : State) (f : Fld) (d : Nat) :
    (s.hcount f d).net.rtagSeq = s.net.rtagSeq := State.hfSet_net_rtagSeq _ _ _

@[simp] theorem State.hcount_net_recover (s : State) (f : Fld) (d : Nat) :
    (s.hcount f d).net.recover = s.net.recover := State.hfSet_net_recover _ _ _

@[simp] theorem State.hcount_can_chs (s : State) (f : Fld) (d : Nat) :
    (s.hcount f d).can.chs = s.can.chs := State.hfSet_can_chs _ _ _

@[simp] theorem State.hcount_tb_edgeRaw (s : State) (f : Fld) (d : Nat) :
    (s.hcount f d).tb.edgeRaw = s.tb.edgeRaw := State.hfSet_tb_edgeRaw _ _ _

@[simp] theorem State.hcount_tb_syncRun (s : State) (f : Fld) (d : Nat) :
    (s.hcount f d).tb.syncRun = s.tb.syncRun := State.hfSet_tb_syncRun _ _ _

@[simp] theorem State.hcount_tb_syncRaw (s : State) (f : Fld) (d : Nat) :
    (s.hcount f d).tb.syncRaw = s.tb.syncRaw := State.hfSet_tb_syncRaw _ _ _

@[simp] theorem State.hcount_tb_holdRaw (s : State) (f : Fld) (d : Nat) :
    (s.hcount f d).tb.holdRaw = s.tb.holdRaw := State.hfSet_tb_holdRaw _ _ _

@[simp] theorem State.hcount_tb_isSet (s : State) (f : Fld) (d : Nat) :
    (s.hcount f d).tb.isSet = s.tb.isSet := State.hfSet_tb_isSet _ _ _

@[simp] theorem State.hcount_tb_hi (s : State) (f : Fld) (d : Nat) :
    (s.hcount f d).tb.hi = s.tb.hi := State.hfSet_tb_hi _ _ _

@[simp] theorem State.hcount_tb_seq (s : State) (f : Fld) (d : Nat) :
    (s.hcount f d).tb.seq = s.tb.seq := State.hfSet_tb_seq _ _ _

@[simp] theorem State.hcount_tb_arrive (s : State) (f : Fld) (d : Nat) :
    (s.hcount f d).tb.arrive = s.tb.arrive := State.hfSet_tb_arrive _ _ _

@[simp] theorem State.hcount_lane (s : State) (f : Fld) (d : Nat) (k : LaneId) :
    (s.hcount f d).lane k = s.lane k := by cases k <;> simp [State.lane]

/-! ### Values of the dictionary, free values and output -/

@[simp] theorem State.volSet_laneA (s : State) (i j : Nat) (bs : List Byte) :
    (s.volSet i j bs).laneA = s.laneA := rfl

@[simp] theorem State.volSet_laneB (s : State) (i j : Nat) (bs : List Byte) :
    (s.volSet i j bs).laneB = s.laneB := rfl

@[simp] theorem State.volSet_laneC (s : State) (i j : Nat) (bs : List Byte) :
    (s.volSet i j bs).laneC = s.laneC := rfl

@[simp] theorem State.volSet_pending (s : State) (i j : Nat) (bs : List Byte) :
    (s.volSet i j bs).pending = s.pending := rfl

@[simp] theorem State.volSet_hub (s : State) (i j : Nat) (bs : List Byte) :
    (s.volSet i j bs).hub = s.hub := rfl

@[simp] theorem State.volSet_pde (s : State) (i j : Nat) (bs : List Byte) :
    (s.volSet i j bs).pde = s.pde := rfl

@[simp] theorem State.volSet_v1 (s : State) (i j : Nat) (bs : List Byte) :
    (s.volSet i j bs).v1 = s.v1 := rfl

@[simp] theorem State.volSet_book (s : State) (i j : Nat) (bs : List Byte) :
    (s.volSet i j bs).book = s.book := rfl

@[simp] theorem State.volSet_sup (s : State) (i j : Nat) (bs : List Byte) :
    (s.volSet i j bs).sup = s.sup := rfl

@[simp] theorem State.volSet_md (s : State) (i j : Nat) (bs : List Byte) :
    (s.volSet i j bs).md = s.md := rfl

@[simp] theorem State.volSet_rack (s : State) (i j : Nat) (bs : List Byte) :
    (s.volSet i j bs).rack = s.rack := rfl

@[simp] theorem State.volSet_store (s : State) (i j : Nat) (bs : List Byte) :
    (s.volSet i j bs).store = s.store := rfl

@[simp] theorem State.volSet_svc (s : State) (i j : Nat) (bs : List Byte) :
    (s.volSet i j bs).svc = s.svc := rfl

@[simp] theorem State.volSet_partners (s : State) (i j : Nat) (bs : List Byte) :
    (s.volSet i j bs).partners = s.partners := rfl

@[simp] theorem State.volSet_net (s : State) (i j : Nat) (bs : List Byte) :
    (s.volSet i j bs).net = s.net := rfl

@[simp] theorem State.volSet_can (s : State) (i j : Nat) (bs : List Byte) :
    (s.volSet i j bs).can = s.can := rfl

@[simp] theorem State.volSet_tb (s : State) (i j : Nat) (bs : List Byte) :
    (s.volSet i j bs).tb = s.tb := rfl

@[simp] theorem State.volSet_fld (s : State) (i j : Nat) (bs : List Byte) :
    (s.volSet i j bs).fld = s.fld := rfl

@[simp] theorem State.volSet_coo (s : State) (i j : Nat) (bs : List Byte) :
    (s.volSet i j bs).coo = s.coo := rfl

@[simp] theorem State.volSet_tx (s : State) (i j : Nat) (bs : List Byte) :
    (s.volSet i j bs).tx = s.tx := rfl

@[simp] theorem State.volSet_freeCtr (s : State) (i j : Nat) (bs : List Byte) :
    (s.volSet i j bs).freeCtr = s.freeCtr := rfl

@[simp] theorem State.volSet_lane (s : State) (i j : Nat) (bs : List Byte) (m : LaneId) :
    (s.volSet i j bs).lane m = s.lane m := by cases m <;> rfl

@[simp] theorem State.storedSet_laneA (s : State) (i j : Nat) (bs : List Byte) :
    (s.storedSet i j bs).laneA = s.laneA := rfl

@[simp] theorem State.storedSet_laneB (s : State) (i j : Nat) (bs : List Byte) :
    (s.storedSet i j bs).laneB = s.laneB := rfl

@[simp] theorem State.storedSet_laneC (s : State) (i j : Nat) (bs : List Byte) :
    (s.storedSet i j bs).laneC = s.laneC := rfl

@[simp] theorem State.storedSet_pending (s : State) (i j : Nat) (bs : List Byte) :
    (s.storedSet i j bs).pending = s.pending := rfl

@[simp] theorem State.storedSet_hub (s : State) (i j : Nat) (bs : List Byte) :
    (s.storedSet i j bs).hub = s.hub := rfl

@[simp] theorem State.storedSet_pde (s : State) (i j : Nat) (bs : List Byte) :
    (s.storedSet i j bs).pde = s.pde := rfl

@[simp] theorem State.storedSet_v1 (s : State) (i j : Nat) (bs : List Byte) :
    (s.storedSet i j bs).v1 = s.v1 := rfl

@[simp] theorem State.storedSet_book (s : State) (i j : Nat) (bs : List Byte) :
    (s.storedSet i j bs).book = s.book := rfl

@[simp] theorem State.storedSet_sup (s : State) (i j : Nat) (bs : List Byte) :
    (s.storedSet i j bs).sup = s.sup := rfl

@[simp] theorem State.storedSet_md (s : State) (i j : Nat) (bs : List Byte) :
    (s.storedSet i j bs).md = s.md := rfl

@[simp] theorem State.storedSet_rack (s : State) (i j : Nat) (bs : List Byte) :
    (s.storedSet i j bs).rack = s.rack := rfl

@[simp] theorem State.storedSet_store (s : State) (i j : Nat) (bs : List Byte) :
    (s.storedSet i j bs).store = s.store := rfl

@[simp] theorem State.storedSet_svc (s : State) (i j : Nat) (bs : List Byte) :
    (s.storedSet i j bs).svc = s.svc := rfl

@[simp] theorem State.storedSet_partners (s : State) (i j : Nat) (bs : List Byte) :
    (s.storedSet i j bs).partners = s.partners := rfl

@[simp] theorem State.storedSet_net (s : State) (i j : Nat) (bs : List Byte) :
    (s.storedSet i j bs).net = s.net := rfl

@[simp] theorem State.storedSet_can (s : State) (i j : Nat) (bs : List Byte) :
    (s.storedSet i j bs).can = s.can := rfl

@[simp] theorem State.storedSet_tb (s : State) (i j : Nat) (bs : List Byte) :
    (s.storedSet i j bs).tb = s.tb := rfl

@[simp] theorem State.storedSet_fld (s : State) (i j : Nat) (bs : List Byte) :
    (s.storedSet i j bs).fld = s.fld := rfl

@[simp] theorem State.storedSet_coo (s : State) (i j : Nat) (bs : List Byte) :
    (s.storedSet i j bs).coo = s.coo := rfl

@[simp] theorem State.storedSet_tx (s : State) (i j : Nat) (bs : List Byte) :
    (s.storedSet i j bs).tx = s.tx := rfl

@[simp] theorem State.storedSet_freeCtr (s : State) (i j : Nat) (bs : List Byte) :
    (s.storedSet i j bs).freeCtr = s.freeCtr := rfl

@[simp] theorem State.storedSet_lane (s : State) (i j : Nat) (bs : List Byte) (m : LaneId) :
    (s.storedSet i j bs).lane m = s.lane m := by cases m <;> rfl

@[simp] theorem State.cntAdd_laneA (s : State) (i j d : Nat) :
    (s.cntAdd i j d).laneA = s.laneA := rfl

@[simp] theorem State.cntAdd_laneB (s : State) (i j d : Nat) :
    (s.cntAdd i j d).laneB = s.laneB := rfl

@[simp] theorem State.cntAdd_laneC (s : State) (i j d : Nat) :
    (s.cntAdd i j d).laneC = s.laneC := rfl

@[simp] theorem State.cntAdd_pending (s : State) (i j d : Nat) :
    (s.cntAdd i j d).pending = s.pending := rfl

@[simp] theorem State.cntAdd_hub (s : State) (i j d : Nat) :
    (s.cntAdd i j d).hub = s.hub := rfl

@[simp] theorem State.cntAdd_pde (s : State) (i j d : Nat) :
    (s.cntAdd i j d).pde = s.pde := rfl

@[simp] theorem State.cntAdd_v1 (s : State) (i j d : Nat) :
    (s.cntAdd i j d).v1 = s.v1 := rfl

@[simp] theorem State.cntAdd_book (s : State) (i j d : Nat) :
    (s.cntAdd i j d).book = s.book := rfl

@[simp] theorem State.cntAdd_sup (s : State) (i j d : Nat) :
    (s.cntAdd i j d).sup = s.sup := rfl

@[simp] theorem State.cntAdd_md (s : State) (i j d : Nat) :
    (s.cntAdd i j d).md = s.md := rfl

@[simp] theorem State.cntAdd_rack (s : State) (i j d : Nat) :
    (s.cntAdd i j d).rack = s.rack := rfl

@[simp] theorem State.cntAdd_store (s : State) (i j d : Nat) :
    (s.cntAdd i j d).store = s.store := rfl

@[simp] theorem State.cntAdd_svc (s : State) (i j d : Nat) :
    (s.cntAdd i j d).svc = s.svc := rfl

@[simp] theorem State.cntAdd_partners (s : State) (i j d : Nat) :
    (s.cntAdd i j d).partners = s.partners := rfl

@[simp] theorem State.cntAdd_net (s : State) (i j d : Nat) :
    (s.cntAdd i j d).net = s.net := rfl

@[simp] theorem State.cntAdd_can (s : State) (i j d : Nat) :
    (s.cntAdd i j d).can = s.can := rfl

@[simp] theorem State.cntAdd_tb (s : State) (i j d : Nat) :
    (s.cntAdd i j d).tb = s.tb := rfl

@[simp] theorem State.cntAdd_fld (s : State) (i j d : Nat) :
    (s.cntAdd i j d).fld = s.fld := rfl

@[simp] theorem State.cntAdd_coo (s : State) (i j d : Nat) :
    (s.cntAdd i j d).coo = s.coo := rfl

@[simp] theorem State.cntAdd_tx (s : State) (i j d : Nat) :
    (s.cntAdd i j d).tx = s.tx := rfl

@[simp] theorem State.cntAdd_freeCtr (s : State) (i j d : Nat) :
    (s.cntAdd i j d).freeCtr = s.freeCtr := rfl

@[simp] theorem State.cntAdd_lane (s : State) (i j d : Nat) (m : LaneId) :
    (s.cntAdd i j d).lane m = s.lane m := by cases m <;> rfl

@[simp] theorem State.cntSet_laneA (s : State) (i j v : Nat) :
    (s.cntSet i j v).laneA = s.laneA := rfl

@[simp] theorem State.cntSet_laneB (s : State) (i j v : Nat) :
    (s.cntSet i j v).laneB = s.laneB := rfl

@[simp] theorem State.cntSet_laneC (s : State) (i j v : Nat) :
    (s.cntSet i j v).laneC = s.laneC := rfl

@[simp] theorem State.cntSet_pending (s : State) (i j v : Nat) :
    (s.cntSet i j v).pending = s.pending := rfl

@[simp] theorem State.cntSet_hub (s : State) (i j v : Nat) :
    (s.cntSet i j v).hub = s.hub := rfl

@[simp] theorem State.cntSet_pde (s : State) (i j v : Nat) :
    (s.cntSet i j v).pde = s.pde := rfl

@[simp] theorem State.cntSet_v1 (s : State) (i j v : Nat) :
    (s.cntSet i j v).v1 = s.v1 := rfl

@[simp] theorem State.cntSet_book (s : State) (i j v : Nat) :
    (s.cntSet i j v).book = s.book := rfl

@[simp] theorem State.cntSet_sup (s : State) (i j v : Nat) :
    (s.cntSet i j v).sup = s.sup := rfl

@[simp] theorem State.cntSet_md (s : State) (i j v : Nat) :
    (s.cntSet i j v).md = s.md := rfl

@[simp] theorem State.cntSet_rack (s : State) (i j v : Nat) :
    (s.cntSet i j v).rack = s.rack := rfl

@[simp] theorem State.cntSet_store (s : State) (i j v : Nat) :
    (s.cntSet i j v).store = s.store := rfl

@[simp] theorem State.cntSet_svc (s : State) (i j v : Nat) :
    (s.cntSet i j v).svc = s.svc := rfl

@[simp] theorem State.cntSet_partners (s : State) (i j v : Nat) :
    (s.cntSet i j v).partners = s.partners := rfl

@[simp] theorem State.cntSet_net (s : State) (i j v : Nat) :
    (s.cntSet i j v).net = s.net := rfl

@[simp] theorem State.cntSet_can (s : State) (i j v : Nat) :
    (s.cntSet i j v).can = s.can := rfl

@[simp] theorem State.cntSet_tb (s : State) (i j v : Nat) :
    (s.cntSet i j v).tb = s.tb := rfl

@[simp] theorem State.cntSet_fld (s : State) (i j v : Nat) :
    (s.cntSet i j v).fld = s.fld := rfl

@[simp] theorem State.cntSet_coo (s : State) (i j v : Nat) :
    (s.cntSet i j v).coo = s.coo := rfl

@[simp] theorem State.cntSet_tx (s : State) (i j v : Nat) :
    (s.cntSet i j v).tx = s.tx := rfl

@[simp] theorem State.cntSet_freeCtr (s : State) (i j v : Nat) :
    (s.cntSet i j v).freeCtr = s.freeCtr := rfl

@[simp] theorem State.cntSet_lane (s : State) (i j v : Nat) (m : LaneId) :
    (s.cntSet i j v).lane m = s.lane m := by cases m <;> rfl

@[simp] theorem State.drawn_laneA (s : State) :
    (s.drawn).laneA = s.laneA := rfl

@[simp] theorem State.drawn_laneB (s : State) :
    (s.drawn).laneB = s.laneB := rfl

@[simp] theorem State.drawn_laneC (s : State) :
    (s.drawn).laneC = s.laneC := rfl

@[simp] theorem State.drawn_pending (s : State) :
    (s.drawn).pending = s.pending := rfl

@[simp] theorem State.drawn_hub (s : State) :
    (s.drawn).hub = s.hub := rfl

@[simp] theorem State.drawn_pde (s : State) :
    (s.drawn).pde = s.pde := rfl

@[simp] theorem State.drawn_v1 (s : State) :
    (s.drawn).v1 = s.v1 := rfl

@[simp] theorem State.drawn_book (s : State) :
    (s.drawn).book = s.book := rfl

@[simp] theorem State.drawn_sup (s : State) :
    (s.drawn).sup = s.sup := rfl

@[simp] theorem State.drawn_md (s : State) :
    (s.drawn).md = s.md := rfl

@[simp] theorem State.drawn_rack (s : State) :
    (s.drawn).rack = s.rack := rfl

@[simp] theorem State.drawn_store (s : State) :
    (s.drawn).store = s.store := rfl

@[simp] theorem State.drawn_dict (s : State) :
    (s.drawn).dict = s.dict := rfl

@[simp] theorem State.drawn_svc (s : State) :
    (s.drawn).svc = s.svc := rfl

@[simp] theorem State.drawn_partners (s : State) :
    (s.drawn).partners = s.partners := rfl

@[simp] theorem State.drawn_net (s : State) :
    (s.drawn).net = s.net := rfl

@[simp] theorem State.drawn_can (s : State) :
    (s.drawn).can = s.can := rfl

@[simp] theorem State.drawn_tb (s : State) :
    (s.drawn).tb = s.tb := rfl

@[simp] theorem State.drawn_fld (s : State) :
    (s.drawn).fld = s.fld := rfl

@[simp] theorem State.drawn_coo (s : State) :
    (s.drawn).coo = s.coo := rfl

@[simp] theorem State.drawn_tx (s : State) :
    (s.drawn).tx = s.tx := rfl

@[simp] theorem State.drawn_lane (s : State) (m : LaneId) :
    (s.drawn).lane m = s.lane m := by cases m <;> rfl

@[simp] theorem State.emit_laneA (s : State) (k : EmitKind) (place tag : Nat) (bs : List Byte) :
    (s.emit k place tag bs).laneA = s.laneA := rfl

@[simp] theorem State.emit_laneB (s : State) (k : EmitKind) (place tag : Nat) (bs : List Byte) :
    (s.emit k place tag bs).laneB = s.laneB := rfl

@[simp] theorem State.emit_laneC (s : State) (k : EmitKind) (place tag : Nat) (bs : List Byte) :
    (s.emit k place tag bs).laneC = s.laneC := rfl

@[simp] theorem State.emit_pending (s : State) (k : EmitKind) (place tag : Nat) (bs : List Byte) :
    (s.emit k place tag bs).pending = s.pending := rfl

@[simp] theorem State.emit_hub (s : State) (k : EmitKind) (place tag : Nat) (bs : List Byte) :
    (s.emit k place tag bs).hub = s.hub := rfl

@[simp] theorem State.emit_pde (s : State) (k : EmitKind) (place tag : Nat) (bs : List Byte) :
    (s.emit k place tag bs).pde = s.pde := rfl

@[simp] theorem State.emit_v1 (s : State) (k : EmitKind) (place tag : Nat) (bs : List Byte) :
    (s.emit k place tag bs).v1 = s.v1 := rfl

@[simp] theorem State.emit_book (s : State) (k : EmitKind) (place tag : Nat) (bs : List Byte) :
    (s.emit k place tag bs).book = s.book := rfl

@[simp] theorem State.emit_sup (s : State) (k : EmitKind) (place tag : Nat) (bs : List Byte) :
    (s.emit k place tag bs).sup = s.sup := rfl

@[simp] theorem State.emit_md (s : State) (k : EmitKind) (place tag : Nat) (bs : List Byte) :
    (s.emit k place tag bs).md = s.md := rfl

@[simp] theorem State.emit_rack (s : State) (k : EmitKind) (place tag : Nat) (bs : List Byte) :
    (s.emit k place tag bs).rack = s.rack := rfl

@[simp] theorem State.emit_store (s : State) (k : EmitKind) (place tag : Nat) (bs : List Byte) :
    (s.emit k place tag bs).store = s.store := rfl

@[simp] theorem State.emit_dict (s : State) (k : EmitKind) (place tag : Nat) (bs : List Byte) :
    (s.emit k place tag bs).dict = s.dict := rfl

@[simp] theorem State.emit_svc (s : State) (k : EmitKind) (place tag : Nat) (bs : List Byte) :
    (s.emit k place tag bs).svc = s.svc := rfl

@[simp] theorem State.emit_partners (s : State) (k : EmitKind) (place tag : Nat) (bs : List Byte) :
    (s.emit k place tag bs).partners = s.partners := rfl

@[simp] theorem State.emit_net (s : State) (k : EmitKind) (place tag : Nat) (bs : List Byte) :
    (s.emit k place tag bs).net = s.net := rfl

@[simp] theorem State.emit_can (s : State) (k : EmitKind) (place tag : Nat) (bs : List Byte) :
    (s.emit k place tag bs).can = s.can := rfl

@[simp] theorem State.emit_tb (s : State) (k : EmitKind) (place tag : Nat) (bs : List Byte) :
    (s.emit k place tag bs).tb = s.tb := rfl

@[simp] theorem State.emit_fld (s : State) (k : EmitKind) (place tag : Nat) (bs : List Byte) :
    (s.emit k place tag bs).fld = s.fld := rfl

@[simp] theorem State.emit_coo (s : State) (k : EmitKind) (place tag : Nat) (bs : List Byte) :
    (s.emit k place tag bs).coo = s.coo := rfl

@[simp] theorem State.emit_freeCtr (s : State) (k : EmitKind) (place tag : Nat) (bs : List Byte) :
    (s.emit k place tag bs).freeCtr = s.freeCtr := rfl

@[simp] theorem State.emit_lane (s : State) (k : EmitKind) (place tag : Nat) (bs : List Byte) (m : LaneId) :
    (s.emit k place tag bs).lane m = s.lane m := by cases m <;> rfl

@[simp] theorem State.emit_tx (s : State) (k : EmitKind) (place tag : Nat) (bs : List Byte) :
    (s.emit k place tag bs).tx = ⟨k, place, tag, bs⟩ :: s.tx := rfl

@[simp] theorem State.drawn_freeCtr (s : State) :
    s.drawn.freeCtr = s.freeCtr + 1 := rfl

@[simp] theorem State.cntAdd_dict_stored (s : State) (i j d : Nat) :
    (s.cntAdd i j d).dict.stored = s.dict.stored := rfl

@[simp] theorem State.cntAdd_dict_pend (s : State) (i j d : Nat) :
    (s.cntAdd i j d).dict.pend = s.dict.pend := rfl

@[simp] theorem State.cntAdd_dict_vol (s : State) (i j d : Nat) :
    (s.cntAdd i j d).dict.vol = s.dict.vol := rfl

@[simp] theorem State.cntAdd_dict_app (s : State) (i j d : Nat) :
    (s.cntAdd i j d).dict.app = s.dict.app := rfl

@[simp] theorem State.cntAdd_dict_pendApp (s : State) (i j d : Nat) :
    (s.cntAdd i j d).dict.pendApp = s.dict.pendApp := rfl

@[simp] theorem State.cntAdd_dict_copy (s : State) (i j d : Nat) :
    (s.cntAdd i j d).dict.copy = s.dict.copy := rfl

@[simp] theorem State.cntAdd_dict_copySeq (s : State) (i j d : Nat) :
    (s.cntAdd i j d).dict.copySeq = s.dict.copySeq := rfl

@[simp] theorem State.cntSet_dict_stored (s : State) (i j v : Nat) :
    (s.cntSet i j v).dict.stored = s.dict.stored := rfl

@[simp] theorem State.cntSet_dict_pend (s : State) (i j v : Nat) :
    (s.cntSet i j v).dict.pend = s.dict.pend := rfl

@[simp] theorem State.cntSet_dict_vol (s : State) (i j v : Nat) :
    (s.cntSet i j v).dict.vol = s.dict.vol := rfl

@[simp] theorem State.cntSet_dict_app (s : State) (i j v : Nat) :
    (s.cntSet i j v).dict.app = s.dict.app := rfl

@[simp] theorem State.cntSet_dict_pendApp (s : State) (i j v : Nat) :
    (s.cntSet i j v).dict.pendApp = s.dict.pendApp := rfl

@[simp] theorem State.cntSet_dict_copy (s : State) (i j v : Nat) :
    (s.cntSet i j v).dict.copy = s.dict.copy := rfl

@[simp] theorem State.cntSet_dict_copySeq (s : State) (i j v : Nat) :
    (s.cntSet i j v).dict.copySeq = s.dict.copySeq := rfl

@[simp] theorem State.volSet_dict_stored (s : State) (i j : Nat) (bs : List Byte) :
    (s.volSet i j bs).dict.stored = s.dict.stored := rfl

@[simp] theorem State.volSet_dict_pend (s : State) (i j : Nat) (bs : List Byte) :
    (s.volSet i j bs).dict.pend = s.dict.pend := rfl

@[simp] theorem State.volSet_dict_counts (s : State) (i j : Nat) (bs : List Byte) :
    (s.volSet i j bs).dict.counts = s.dict.counts := rfl

@[simp] theorem State.volSet_dict_app (s : State) (i j : Nat) (bs : List Byte) :
    (s.volSet i j bs).dict.app = s.dict.app := rfl

@[simp] theorem State.volSet_dict_pendApp (s : State) (i j : Nat) (bs : List Byte) :
    (s.volSet i j bs).dict.pendApp = s.dict.pendApp := rfl

@[simp] theorem State.volSet_dict_copy (s : State) (i j : Nat) (bs : List Byte) :
    (s.volSet i j bs).dict.copy = s.dict.copy := rfl

@[simp] theorem State.volSet_dict_copySeq (s : State) (i j : Nat) (bs : List Byte) :
    (s.volSet i j bs).dict.copySeq = s.dict.copySeq := rfl

@[simp] theorem State.storedSet_dict_pend (s : State) (i j : Nat) (bs : List Byte) :
    (s.storedSet i j bs).dict.pend = s.dict.pend := rfl

@[simp] theorem State.storedSet_dict_vol (s : State) (i j : Nat) (bs : List Byte) :
    (s.storedSet i j bs).dict.vol = s.dict.vol := rfl

@[simp] theorem State.storedSet_dict_counts (s : State) (i j : Nat) (bs : List Byte) :
    (s.storedSet i j bs).dict.counts = s.dict.counts := rfl

@[simp] theorem State.storedSet_dict_app (s : State) (i j : Nat) (bs : List Byte) :
    (s.storedSet i j bs).dict.app = s.dict.app := rfl

@[simp] theorem State.storedSet_dict_pendApp (s : State) (i j : Nat) (bs : List Byte) :
    (s.storedSet i j bs).dict.pendApp = s.dict.pendApp := rfl

@[simp] theorem State.storedSet_dict_copy (s : State) (i j : Nat) (bs : List Byte) :
    (s.storedSet i j bs).dict.copy = s.dict.copy := rfl

@[simp] theorem State.storedSet_dict_copySeq (s : State) (i j : Nat) (bs : List Byte) :
    (s.storedSet i j bs).dict.copySeq = s.dict.copySeq := rfl

/-! ### Registers and fields of a lane -/

/-- A lane's register reads as it was written. -/
@[simp] theorem State.lreg_lregSet_same (s : State) (l : LaneId) (addr : Nat) (v : Word) : (s.lregSet l addr v).lreg l addr = v := by
  simp [State.lreg, State.lregSet]

/-- Every other register of every lane reads as before. -/
theorem State.lreg_lregSet_other (s : State) (l k : LaneId) {addr b : Nat} (v : Word) (h : b ≠ addr) :
    (s.lregSet l addr v).lreg k b = s.lreg k b := by
  by_cases hk : k = l
  · subst hk
    simp [State.lreg, State.lregSet, mapGet_mapSet_ne _ _ _ _ h]
  · simp [State.lreg, State.lregSet, hk]

/-- The other lanes' registers read as before. -/
theorem State.lreg_lregSet_lane (s : State) {l k : LaneId} (addr b : Nat) (v : Word) (h : k ≠ l) :
    (s.lregSet l addr v).lreg k b = s.lreg k b := by
  simp [State.lreg, State.lregSet, h]

/-- Two fields that share no bit of a register. -/
def Fld.apart (f g : Fld) : Bool :=
  f.ok && decide (g.lo ≤ g.hi) && (decide (f.reg ≠ g.reg) || decide (f.hi < g.lo) || decide (g.hi < f.lo))

/-- A lane's field reads as it was set, cut to its width. -/
theorem State.lf_lfSet_same (s : State) (l : LaneId) (f : Fld) (x : Nat) (hf : f.ok = true) :
    (s.lfSet l f x).lf l f = x % 2 ^ (f.hi + 1 - f.lo) := by
  simp [State.lf, State.lfSet, fldGet_fldSet_same _ _ _ hf]

/-- A field that shares no bit with the one set reads as before, on every lane. -/
theorem State.lf_lfSet_apart (s : State) (l k : LaneId) (f g : Fld) (x : Nat) (h : f.apart g = true) :
    (s.lfSet l f x).lf k g = s.lf k g := by
  simp only [Fld.apart, Bool.and_eq_true, Bool.or_eq_true, decide_eq_true_eq] at h
  obtain ⟨⟨hf, hg⟩, h⟩ := h
  unfold State.lf State.lfSet
  by_cases hr : g.reg = f.reg
  · rw [hr]
    by_cases hk : k = l
    · subst hk
      rw [State.lreg_lregSet_same]
      refine fldGet_fldSet_other _ _ _ _ hf hg ?_
      rcases h with (h | h) | h
      · exact absurd hr.symm h
      · exact .inl h
      · exact .inr h
    · rw [State.lreg_lregSet_lane _ _ _ _ hk]
  · rw [State.lreg_lregSet_other _ _ _ _ hr]

/-- The other lanes' fields read as before. -/
theorem State.lf_lfSet_lane (s : State) {l k : LaneId} (f g : Fld) (x : Nat) (h : k ≠ l) : (s.lfSet l f x).lf k g = s.lf k g := by
  unfold State.lf State.lfSet
  rw [State.lreg_lregSet_lane _ _ _ _ h]

/-- A counter's field after counting stands at the sum, or at all ones. -/
theorem State.lf_lcount_same (s : State) (l : LaneId) (f : Fld) (d : Nat) (hf : f.ok = true) :
    (s.lcount l f d).lf l f = satAdd (fldTop f) (s.lf l f) d := by
  unfold State.lcount
  rw [State.lf_lfSet_same _ _ _ _ hf, Nat.mod_eq_of_lt]
  unfold satAdd fldTop
  have := Nat.two_pow_pos (f.hi + 1 - f.lo)
  omega

/-- A field apart from a counter reads as before. -/
theorem State.lf_lcount_apart (s : State) (l k : LaneId) (f g : Fld) (d : Nat) (h : f.apart g = true) :
    (s.lcount l f d).lf k g = s.lf k g := State.lf_lfSet_apart _ _ _ _ _ _ h

/-! ### Registers and fields of the hub -/

/-- A hub register reads as it was written. -/
@[simp] theorem State.hreg_hregSet_same (s : State) (addr : Nat) (v : Word) : (s.hregSet addr v).hreg addr = v := by
  unfold State.hreg State.hregSet State.hubRegs
  split <;> simp_all

/-- Every other hub register reads as before. -/
theorem State.hreg_hregSet_other (s : State) {addr b : Nat} (v : Word) (h : b ≠ addr) : (s.hregSet addr v).hreg b = s.hreg b := by
  unfold State.hreg State.hregSet State.hubRegs
  cases hubBlock addr <;> cases hubBlock b <;> simp [mapGet_mapSet_ne _ _ _ _ h]

/-- A hub field reads as it was set, cut to its width. -/
theorem State.hf_hfSet_same (s : State) (f : Fld) (x : Nat) (hf : f.ok = true) : (s.hfSet f x).hf f = x % 2 ^ (f.hi + 1 - f.lo) := by
  simp [State.hf, State.hfSet, fldGet_fldSet_same _ _ _ hf]

/-- A hub field that shares no bit with the one set reads as before. -/
theorem State.hf_hfSet_apart (s : State) (f g : Fld) (x : Nat) (h : f.apart g = true) : (s.hfSet f x).hf g = s.hf g := by
  simp only [Fld.apart, Bool.and_eq_true, Bool.or_eq_true, decide_eq_true_eq] at h
  obtain ⟨⟨hf, hg⟩, h⟩ := h
  unfold State.hf State.hfSet
  by_cases hr : g.reg = f.reg
  · rw [hr, State.hreg_hregSet_same]
    refine fldGet_fldSet_other _ _ _ _ hf hg ?_
    rcases h with (h | h) | h
    · exact absurd hr.symm h
    · exact .inl h
    · exact .inr h
  · rw [State.hreg_hregSet_other _ _ hr]

/-- A hub counter after counting stands at the sum, or at all ones. -/
theorem State.hf_hcount_same (s : State) (f : Fld) (d : Nat) (hf : f.ok = true) : (s.hcount f d).hf f = satAdd (fldTop f) (s.hf f) d := by
  unfold State.hcount
  rw [State.hf_hfSet_same _ _ _ hf, Nat.mod_eq_of_lt]
  unfold satAdd fldTop
  have := Nat.two_pow_pos (f.hi + 1 - f.lo)
  omega

/-- A field apart from a hub counter reads as before. -/
theorem State.hf_hcount_apart (s : State) (f g : Fld) (d : Nat) (h : f.apart g = true) : (s.hcount f d).hf g = s.hf g :=
  State.hf_hfSet_apart _ _ _ _ h

/-! ### The hub's registers and a lane's do not touch each other -/

@[simp] theorem State.lreg_hregSet (s : State) (addr : Nat) (v : Word) (k : LaneId) (b : Nat) : (s.hregSet addr v).lreg k b = s.lreg k b := by
  simp [State.lreg]

@[simp] theorem State.lf_hfSet (s : State) (f g : Fld) (x : Nat) (k : LaneId) : (s.hfSet f x).lf k g = s.lf k g := by
  simp [State.lf, State.hfSet]

@[simp] theorem State.lf_hcount (s : State) (f g : Fld) (d : Nat) (k : LaneId) : (s.hcount f d).lf k g = s.lf k g :=
  State.lf_hfSet _ _ _ _ _

@[simp] theorem State.hreg_lregSet (s : State) (l : LaneId) (addr : Nat) (v : Word) (b : Nat) : (s.lregSet l addr v).hreg b = s.hreg b := by
  simp only [State.hreg, State.hubRegs, State.lregSet_pde, State.lregSet_net, State.lregSet_can, State.lregSet_tb, State.lregSet_hub]

@[simp] theorem State.hf_lfSet (s : State) (l : LaneId) (f g : Fld) (x : Nat) : (s.lfSet l f x).hf g = s.hf g := by
  simp [State.hf, State.lfSet]

@[simp] theorem State.hf_lcount (s : State) (l : LaneId) (f g : Fld) (d : Nat) : (s.lcount l f d).hf g = s.hf g :=
  State.hf_lfSet _ _ _ _ _

/-! ### A lane's registers and the rest of the state -/

/-- Two states with the same registers of a lane read alike. -/
theorem State.lf_congr {s t : State} {k : LaneId} (h : (t.lane k).regs = (s.lane k).regs) (g : Fld) : t.lf k g = s.lf k g := by
  simp [State.lf, State.lreg, h]

@[simp] theorem State.lf_emit (s : State) (e : EmitKind) (p t : Nat) (bs : List Byte) (k : LaneId) (g : Fld) :
    (s.emit e p t bs).lf k g = s.lf k g := State.lf_congr (by simp) g

@[simp] theorem State.lf_drawn (s : State) (k : LaneId) (g : Fld) : s.drawn.lf k g = s.lf k g := State.lf_congr (by simp) g

@[simp] theorem State.lf_cntAdd (s : State) (i j d : Nat) (k : LaneId) (g : Fld) : (s.cntAdd i j d).lf k g = s.lf k g :=
  State.lf_congr (by simp) g

@[simp] theorem State.lf_cntSet (s : State) (i j v : Nat) (k : LaneId) (g : Fld) : (s.cntSet i j v).lf k g = s.lf k g :=
  State.lf_congr (by simp) g

@[simp] theorem State.lf_volSet (s : State) (i j : Nat) (bs : List Byte) (k : LaneId) (g : Fld) : (s.volSet i j bs).lf k g = s.lf k g :=
  State.lf_congr (by simp) g

@[simp] theorem State.lf_taskSet (s : State) (l : LaneId) (t : Nat) (x : TaskRt) (k : LaneId) (g : Fld) :
    (s.taskSet l t x).lf k g = s.lf k g := State.lf_congr (by simp) g

@[simp] theorem State.lf_taskFail (s : State) (l : LaneId) (t : Nat) (k : LaneId) (g : Fld) : (s.taskFail l t).lf k g = s.lf k g :=
  State.lf_congr (by simp) g

/-- A task's record reads as it was set. -/
@[simp] theorem State.task_taskSet_same (s : State) (l : LaneId) (t : Nat) (x : TaskRt) : (s.taskSet l t x).task l t = x := by
  simp [State.task, State.taskSet]

/-- The other tasks' records read as before. -/
theorem State.task_taskSet_other (s : State) (l : LaneId) {t u : Nat} (x : TaskRt) (h : u ≠ t) : (s.taskSet l t x).task l u = s.task l u := by
  simp [State.task, State.taskSet, mapGet_mapSet_other _ _ _ h]

/-! ### Reported numbers -/

/-- A reported number reads as it was set. -/
@[simp] theorem State.cnt_cntSet_same (s : State) (i j v : Nat) : (s.cntSet i j v).cnt i j = v := by
  simp [State.cnt, State.cntSet]

/-- A counter since start counts on, up to 32 bits. -/
@[simp] theorem State.cnt_cntAdd_same (s : State) (i j d : Nat) : (s.cntAdd i j d).cnt i j = satAdd 0xFFFFFFFF (s.cnt i j) d := by
  simp [State.cnt, State.cntAdd]

@[simp] theorem State.cnt_lfSet (s : State) (l : LaneId) (f : Fld) (x i j : Nat) : (s.lfSet l f x).cnt i j = s.cnt i j := by
  simp [State.cnt]

@[simp] theorem State.cnt_hfSet (s : State) (f : Fld) (x i j : Nat) : (s.hfSet f x).cnt i j = s.cnt i j := by
  simp [State.cnt]

end Sys2Proof.Machine
end

