-- ==== Sys2Proof/Laws/Life.lean ====
section
/-! SUPPORT. Which operations leave the life-cycle state: all of them but the requests of 03 R106, alone or carried by the relay. A
lemma `X_life` says that X leaves it. The lemmas about a request say that it keeps every property that R106's transitions keep. -/

namespace Sys2Proof.Machine

/-! ### Ops.lean -/

@[simp] theorem foldl_life {α : Type} (f : State → α → State) (h : ∀ s x, (f s x).md.life = s.md.life) (xs : List α) (s : State) :
    (xs.foldl f s).md.life = s.md.life := by
  induction xs generalizing s with
  | nil => rfl
  | cons x xs ih => rw [List.foldl_cons, ih, h]
@[simp] theorem onLanes_life (f : LaneId → State → State) (h : ∀ l s, (f l s).md.life = s.md.life) (s : State) :
    (onLanes f s).md.life = s.md.life := by
  simp [onLanes, h]
@[simp] theorem ite_life (c : Prop) [Decidable c] (s t : State) : (if c then s else t).md.life = if c then s.md.life else t.md.life := by
  split <;> rfl
theorem nextOr_life (s : State) (o : Host.Outcome State Fault Refusal) (h : ∀ t, o = .next t → t.md.life = s.md.life) :
    (nextOr s o).md.life = s.md.life := by
  cases o with
  | next t => exact h t rfl
  | fault r => rfl
  | refused r => rfl
theorem getD_life (s : State) (o : Option State) (h : ∀ t, o = some t → t.md.life = s.md.life) : (o.getD s).md.life = s.md.life := by
  cases o with
  | some t => exact h t rfl
  | none => rfl
theorem out_ite {P : State → Prop} {c : Prop} [Decidable c] {x y : Host.Outcome State Fault Refusal} (hx : ∀ t, x = .next t → P t)
    (hy : ∀ t, y = .next t → P t) : ∀ t, (if c then x else y) = .next t → P t := by
  split <;> assumption
theorem next_all {P : State → Prop} {x : State} (h : P x) : ∀ t, (Host.Outcome.next x :
    Host.Outcome State Fault Refusal) = .next t → P t := by
  intro t e
  injection e with e
  exact e ▸ h
theorem opt_ite {P : State → Prop} {c : Prop} [Decidable c] {x y : Option State} (hx : ∀ t, x = some t → P t)
    (hy : ∀ t, y = some t → P t) : ∀ t, (if c then x else y) = some t → P t := by
  split <;> assumption
theorem some_all {P : State → Prop} {x : State} (h : P x) : ∀ t, some x = some t → P t := by
  intro t e
  injection e with e
  exact e ▸ h
theorem State.md_mk {x0 x1 x2 x3 x4 x5 x6 x7 x8 x9 x10 x11 x12 x13 x14 x15 x16 x17 x18 x19 x20 x21} : (State.mk x0 x1 x2 x3 x4 x5 x6 x7 x8 x9 x10 x11 x12 x13 x14 x15 x16 x17 x18 x19 x20 x21).md = x9 := rfl

@[simp] theorem State.setLane_life (s : State) (l : LaneId) (x : Lane) : (State.setLane s l x).md.life = s.md.life := by
  unfold State.setLane
  (repeat' split) <;> simp

@[simp] theorem State.updLane_life (s : State) (l : LaneId) (f : Lane → Lane) :
    (State.updLane s l f).md.life = s.md.life := by simp [State.updLane]

@[simp] theorem State.lregSet_life (s : State) (l : LaneId) (addr : Nat) (v : Word) :
    (State.lregSet s l addr v).md.life = s.md.life := by simp [State.lregSet]

@[simp] theorem State.hregSet_life (s : State) (addr : Nat) (v : Word) : (State.hregSet s addr v).md.life = s.md.life := by
  unfold State.hregSet
  (repeat' split) <;> simp

@[simp] theorem State.lfSet_life (s : State) (l : LaneId) (f : Fld) (x : Nat) :
    (State.lfSet s l f x).md.life = s.md.life := by simp [State.lfSet]

@[simp] theorem State.hfSet_life (s : State) (f : Fld) (x : Nat) : (State.hfSet s f x).md.life = s.md.life := by simp [State.hfSet]

@[simp] theorem State.lcount_life (s : State) (l : LaneId) (f : Fld) (d : Nat) :
    (State.lcount s l f d).md.life = s.md.life := by simp [State.lcount]

@[simp] theorem State.hcount_life (s : State) (f : Fld) (d : Nat) : (State.hcount s f d).md.life = s.md.life := by simp [State.hcount]

@[simp] theorem State.lmemSet_life (s : State) (l : LaneId) (addr : Nat) (bs : List Byte) :
    (State.lmemSet s l addr bs).md.life = s.md.life := by simp [State.lmemSet]

@[simp] theorem State.volSet_life (s : State) (i j : Nat) (bs : List Byte) :
    (State.volSet s i j bs).md.life = s.md.life := by simp [State.volSet]

@[simp] theorem State.storedSet_life (s : State) (i j : Nat) (bs : List Byte) :
    (State.storedSet s i j bs).md.life = s.md.life := by simp [State.storedSet]

@[simp] theorem State.cntAdd_life (s : State) (i j d : Nat) : (State.cntAdd s i j d).md.life = s.md.life := by simp [State.cntAdd]

@[simp] theorem State.cntSet_life (s : State) (i j v : Nat) : (State.cntSet s i j v).md.life = s.md.life := by simp [State.cntSet]

@[simp] theorem State.taskSet_life (s : State) (l : LaneId) (t : Nat) (x : TaskRt) :
    (State.taskSet s l t x).md.life = s.md.life := by simp [State.taskSet]

@[simp] theorem State.taskFail_life (s : State) (l : LaneId) (t : Nat) :
    (State.taskFail s l t).md.life = s.md.life := by simp [State.taskFail]

@[simp] theorem State.freeWord_life (s : State) : (State.freeWord s).2.md.life = s.md.life := by simp [State.freeWord]

@[simp] theorem State.drawn_life (s : State) : (State.drawn s).md.life = s.md.life := by simp [State.drawn]

@[simp] theorem State.emit_life (s : State) (k : EmitKind) (place tag : Nat) (bs : List Byte) :
    (State.emit s k place tag bs).md.life = s.md.life := by simp [State.emit]

/-! ### Book.lean -/

@[simp] theorem State.bookInt_life (s : State) (f : Fld) : (State.bookInt s f).md.life = s.md.life := by simp [State.bookInt]

@[simp] theorem State.bookWrite_life (s : State) (frame code partner supp origin : Nat) (summary loss : Bool) (data : List Byte) :
    (State.bookWrite s frame code partner supp origin summary loss data).md.life = s.md.life := by simp [State.bookWrite]

@[simp] theorem State.bucketSet_life (s : State) (code : Nat) (k : Bucket) :
    (State.bucketSet s code k).md.life = s.md.life := by simp [State.bucketSet]

@[simp] theorem State.clearLoss_life (s : State) (origin : Nat) :
    (State.clearLoss s origin).md.life = s.md.life := by simp [State.clearLoss]

@[simp] theorem State.bookProcess_life (s : State) (frame code partner supp origin : Nat) (data : List Byte) :
    (State.bookProcess s frame code partner supp origin data).md.life = s.md.life := by
  unfold State.bookProcess
  (repeat' split) <;> simp

@[simp] theorem State.partnerSet_life (s : State) (p : Nat) (x : Partner) :
    (State.partnerSet s p x).md.life = s.md.life := by simp [State.partnerSet]

@[simp] theorem State.partnerCheck_life (s : State) (p : Nat) : (State.partnerCheck s p).1.md.life = s.md.life := by
  unfold State.partnerCheck
  dsimp only
  (repeat' split) <;> simp

@[simp] theorem State.countViolation_life (s : State) (p code : Nat) :
    (State.countViolation s p code).md.life = s.md.life := by simp [State.countViolation]

@[simp] theorem State.bookLane_life (s : State) (frame code partner origin : Nat) (data : List Byte) :
    (State.bookLane s frame code partner origin data).md.life = s.md.life := by
  unfold State.bookLane
  repeat' (first | split | simp)
  all_goals (rename_i h; have h2 := congrArg (fun p => p.1.md.life) h; simp at h2; simp [h2])

@[simp] theorem State.decantEnd_life (s : State) (code : Nat) : (State.decantEnd s code).md.life = s.md.life := by simp [State.decantEnd]

@[simp] theorem collectLane_life (l : LaneId) (subs : List Submission) (acc : State × List SubGroup) :
    (collectLane l subs acc).1.md.life = acc.1.md.life := by
  induction subs generalizing acc with
  | nil => rfl
  | cons sub subs ih =>
    obtain ⟨s, gs⟩ := acc
    rw [collectLane, ih]
    try dsimp only
    split <;> simp

@[simp] theorem State.bookRelease_life (s : State) : s.bookRelease.md.life = s.md.life := by
  unfold State.bookRelease
  split
  · rfl
  · simp [lanes]

@[simp] theorem State.bookPush_life (s : State) (l : LaneId) (sub : Submission) :
    (State.bookPush s l sub).md.life = s.md.life := by simp [State.bookPush]

@[simp] theorem State.bookSubmit_life (s : State) (l : LaneId) (sub : Submission) :
    (State.bookSubmit s l sub).md.life = s.md.life := by simp [State.bookSubmit]

@[simp] theorem State.bookAll_life (s : State) (sub : Submission) : (State.bookAll s sub).md.life = s.md.life := by simp [State.bookAll]

@[simp] theorem State.laneEvtP_life (s : State) (l : LaneId) (code p : Nat) (parts : List (Nat × Nat)) :
    (State.laneEvtP s l code p parts).md.life = s.md.life := by simp [State.laneEvtP]

@[simp] theorem State.laneEvt_life (s : State) (l : LaneId) (code : Nat) (parts : List (Nat × Nat)) :
    (State.laneEvt s l code parts).md.life = s.md.life := by simp [State.laneEvt]

@[simp] theorem State.allEvt_life (s : State) (code : Nat) (parts : List (Nat × Nat)) :
    (State.allEvt s code parts).md.life = s.md.life := by simp [State.allEvt]

@[simp] theorem State.supEvt_life (s : State) (code : Nat) (parts : List (Nat × Nat)) :
    (State.supEvt s code parts).md.life = s.md.life := by simp [State.supEvt]

@[simp] theorem State.hubEvtP_life (s : State) (code p supp : Nat) (parts : List (Nat × Nat)) :
    (State.hubEvtP s code p supp parts).md.life = s.md.life := by simp [State.hubEvtP]

@[simp] theorem State.hubEvt_life (s : State) (code : Nat) (parts : List (Nat × Nat)) :
    (State.hubEvt s code parts).md.life = s.md.life := by simp [State.hubEvt]

@[simp] theorem State.limitedEvt_life (s : State) (p code : Nat) (parts : List (Nat × Nat)) :
    (State.limitedEvt s p code parts).md.life = s.md.life := by
  unfold State.limitedEvt
  repeat' (first | split | simp)
  all_goals (rename_i h; have h2 := congrArg (fun p => p.1.md.life) h; simp at h2; simp [h2])

@[simp] theorem State.violation_life (s : State) (p code : Nat) (parts : List (Nat × Nat)) :
    (State.violation s p code parts).md.life = s.md.life := by simp [State.violation]

/-! ### ModeOps.lean -/

@[simp] theorem State.loadFlags_life (s : State) (l : LaneId) : (State.loadFlags s l).md.life = s.md.life := by simp [State.loadFlags]

@[simp] theorem State.loadMode_life (s : State) (l : LaneId) : (State.loadMode s l).md.life = s.md.life := by simp [State.loadMode]

@[simp] theorem State.showReport_life (s : State) (l : LaneId) (r : StartReport) :
    (State.showReport s l r).md.life = s.md.life := by simp [State.showReport]

@[simp] theorem State.showLone_life (s : State) (l : LaneId) : (State.showLone s l).md.life = s.md.life := by simp [State.showLone]

@[simp] theorem State.enterVote_life (s : State) (passed : Nat) :
    (State.enterVote s passed).md.life = s.md.life := by simp [State.enterVote]

@[simp] theorem State.clearVote_life (s : State) : (State.clearVote s).md.life = s.md.life := by simp [State.clearVote]

@[simp] theorem State.freshTasks_life (s : State) : (State.freshTasks s).md.life = s.md.life := by simp [State.freshTasks]

@[simp] theorem State.startValues_life (s : State) : (State.startValues s).md.life = s.md.life := by simp [State.startValues]

@[simp] theorem State.coldValues_life (s : State) : (State.coldValues s).md.life = s.md.life := by simp [State.coldValues]

@[simp] theorem State.changeMode_life (s : State) (m : Mode) (cause n : Nat) :
    (State.changeMode s m cause n).md.life = s.md.life := by simp [State.changeMode]

@[simp] theorem State.notActed_life (s : State) (what reason : Nat) :
    (State.notActed s what reason).md.life = s.md.life := by simp [State.notActed]

@[simp] theorem State.setDue_life (s : State) (target : Mode) (frame cause : Nat) :
    (State.setDue s target frame cause).md.life = s.md.life := by
  unfold State.setDue
  (repeat' split) <;> simp

@[simp] theorem State.withhold_life (s : State) (l : LaneId) (cause : Nat) :
    (State.withhold s l cause).md.life = s.md.life := by simp [State.withhold]

/-! ### TimeBase.lean -/

@[simp] theorem State.advRaw_life (s : State) (dt : Nat) : (State.advRaw s dt).md.life = s.md.life := by simp [State.advRaw]

@[simp] theorem State.tbState_life (s : State) (n cause : Nat) : (State.tbState s n cause).md.life = s.md.life := by simp [State.tbState]

@[simp] theorem State.tbStep_life (s : State) (offset : Int) (source : Nat) :
    (State.tbStep s offset source).md.life = s.md.life := by simp [State.tbStep]

@[simp] theorem State.tbSet_life (s : State) (t source : Nat) : (State.tbSet s t source).md.life = s.md.life := by simp [State.tbSet]

@[simp] theorem State.startTb_life (s : State) : (State.startTb s).md.life = s.md.life := by simp [State.startTb]

@[simp] theorem State.tbNewRole_life (s : State) (old : Nat) : (State.tbNewRole s old).md.life = s.md.life := by simp [State.tbNewRole]

@[simp] theorem State.tbRestart_life (s : State) : (State.tbRestart s).md.life = s.md.life := by simp [State.tbRestart]

@[simp] theorem State.tbRunning_life (s : State) : (State.tbRunning s).md.life = s.md.life := by simp [State.tbRunning]

@[simp] theorem State.tbViolation_life (s : State) (p type : Nat) :
    (State.tbViolation s p type).md.life = s.md.life := by simp [State.tbViolation]

@[simp] theorem State.tbSync_life (s : State) (offset : Int) : (State.tbSync s offset).md.life = s.md.life := by simp [State.tbSync]

theorem execPtpSyncReceive_life {p : Nat} {offset : Int} {dt : Nat} {s s' : State} (h : execPtpSyncReceive p offset dt s = .next s') :
    s'.md.life = s.md.life := by
  unfold execPtpSyncReceive at h
  dsimp only at h
  (repeat' split at h) <;> cases h <;> simp

theorem execSyncReceiptTimeout_life {dt : Nat} {s s' : State} (h : execSyncReceiptTimeout dt s = .next s') : s'.md.life = s.md.life := by
  unfold execSyncReceiptTimeout at h
  dsimp only at h
  (repeat' split at h) <;> cases h <;> simp

theorem execHoldoverTimeout_life {dt : Nat} {s s' : State} (h : execHoldoverTimeout dt s = .next s') : s'.md.life = s.md.life := by
  unfold execHoldoverTimeout at h
  dsimp only at h
  (repeat' split at h) <;> cases h <;> simp

@[simp] theorem State.setRate_life (s : State) (r : Nat) : (State.setRate s r).md.life = s.md.life := by simp [State.setRate]

theorem execRateUpdate_life {r dt : Nat} {s s' : State} (h : execRateUpdate r dt s = .next s') : s'.md.life = s.md.life := by
  unfold execRateUpdate at h
  (repeat' split at h) <;> cases h <;> simp

@[simp] theorem State.setTime_life (s : State) (t : Nat) : (State.setTime s t).1.md.life = s.md.life := by
  unfold State.setTime
  (repeat' split) <;> simp

theorem execSetTime_life {src t dt : Nat} {s s' : State} (h : execSetTime src t dt s = .next s') : s'.md.life = s.md.life := by
  unfold execSetTime at h
  (repeat' split at h) <;> cases h <;> simp

@[simp] theorem State.settimeWrite_life (s : State) (core v : Nat) : ((s.settimeWrite core v).getD s).md.life = s.md.life := by
  unfold State.settimeWrite
  split
  · rfl
  · split <;> simp

theorem State.settimeWrite_some_life {s t : State} {core v : Nat} (h : s.settimeWrite core v = some t) : t.md.life = s.md.life := by
  simpa [h] using s.settimeWrite_life core v

theorem execTbSettimeWrite_life {l : LaneId} {core v dt : Nat} {s s' : State} (h : execTbSettimeWrite l core v dt s = .next s') :
    s'.md.life = s.md.life := by
  unfold execTbSettimeWrite at h
  (repeat' split at h) <;> cases h <;> simp

@[simp] theorem State.tbCapture_life (s : State) (l : LaneId) : (State.tbCapture s l).md.life = s.md.life := by simp [State.tbCapture]

theorem execTbCapture_life {l : LaneId} {v dt : Nat} {s s' : State} (h : execTbCapture l v dt s = .next s') : s'.md.life = s.md.life := by
  unfold execTbCapture at h
  (repeat' split at h) <;> cases h <;> simp

@[simp] theorem execTbCapture_life' (l : LaneId) (v dt : Nat) (s : State) : (nextOr s (execTbCapture l v dt s)).md.life = s.md.life :=
  nextOr_life _ _ (fun _ h => execTbCapture_life h)

@[simp] theorem State.tbLowRead_life (s : State) (l : LaneId) (disc : Bool) :
    (State.tbLowRead s l disc).2.md.life = s.md.life := by simp [State.tbLowRead]

theorem execTbLowWordRead_life {l : LaneId} {disc : Bool} {rd dt : Nat} {s s' : State} (h : execTbLowWordRead l disc rd dt s = .next s') :
    s'.md.life = s.md.life := by
  unfold execTbLowWordRead at h
  dsimp only at h
  (repeat' split at h) <;> cases h <;> simp

@[simp] theorem State.tbSeq_life (s : State) (k : Nat) : (State.tbSeq s k).2.md.life = s.md.life := by simp [State.tbSeq]

@[simp] theorem State.enqueueAt_life (s : State) (p q raw : Nat) (b : List Byte) :
    (State.enqueueAt s p q raw b).md.life = s.md.life := by simp [State.enqueueAt]

theorem execSyncSend_life {p dt : Nat} {s s' : State} (h : execSyncSend p dt s = .next s') : s'.md.life = s.md.life := by
  unfold execSyncSend at h
  dsimp only at h
  (repeat' split at h) <;> cases h <;> simp

theorem execPdelayRequestSend_life {p : Nat} {result : Option (Nat × Bool)} {dt : Nat} {s s' : State} (h : execPdelayRequestSend p result dt s = .next s') :
    s'.md.life = s.md.life := by
  unfold execPdelayRequestSend at h
  dsimp only at h
  (repeat' split at h) <;> cases h <;> simp

@[simp] theorem State.correct_life (s : State) (rawI rawE : Nat) (b : List Byte) : (State.correct s rawI rawE b).1.md.life = s.md.life := by
  unfold State.correct
  dsimp only
  (repeat' split) <;> simp

@[simp] theorem State.arrives_life (s : State) (h : Nat) (sfd : Int) :
    (State.arrives s h sfd).md.life = s.md.life := by simp [State.arrives]

/-! ### Exchange.lean -/

@[simp] theorem State.showEndA_life (s : State) (l : LaneId) : (State.showEndA s l).md.life = s.md.life := by simp [State.showEndA]

@[simp] theorem State.checkVlist_life (s : State) (l : LaneId) : (State.checkVlist s l).md.life = s.md.life := by simp [State.checkVlist]

@[simp] theorem State.verifyStore_life (s : State) (l : LaneId) (i code : Nat) :
    (State.verifyStore s l i code).md.life = s.md.life := by simp [State.verifyStore]

@[simp] theorem State.verifyAll_life (s : State) (l : LaneId) : (State.verifyAll s l).md.life = s.md.life := by simp [State.verifyAll]

@[simp] theorem State.sendBoth_life (s : State) (l : LaneId) (type layout : Nat) (payload : List Byte) :
    (State.sendBoth s l type layout payload).md.life = s.md.life := by simp [State.sendBoth]

@[simp] theorem State.countLink_life (s : State) (l src : LaneId) :
    (State.countLink s l src).md.life = s.md.life := by simp [State.countLink]

@[simp] theorem State.frontEndCheck_life (s : State) (l : LaneId) :
    (State.frontEndCheck s l).md.life = s.md.life := by simp [State.frontEndCheck]

theorem execImagePacketReceive_life {l : LaneId} {p : LinkPacket} {s s' : State} (h : execImagePacketReceive l p s = .next s') :
    s'.md.life = s.md.life := by
  unfold execImagePacketReceive at h
  dsimp only at h
  (repeat' split at h) <;> cases h <;> simp

@[simp] theorem State.countLate_life (s : State) (l k : LaneId) : (State.countLate s l k).md.life = s.md.life := by simp [State.countLate]

theorem execImageCutoff_life {l : LaneId} {s s' : State} (h : execImageCutoff l s = .next s') : s'.md.life = s.md.life := by
  unfold execImageCutoff at h
  (repeat' split at h) <;> cases h <;> simp

theorem execReceiptReceive_life {l : LaneId} {p : LinkPacket} {s s' : State} (h : execReceiptReceive l p s = .next s') :
    s'.md.life = s.md.life := by
  unfold execReceiptReceive at h
  (repeat' split at h) <;> cases h <;> simp

theorem execReceiptCutoff_life {l : LaneId} {s s' : State} (h : execReceiptCutoff l s = .next s') : s'.md.life = s.md.life := by
  unfold execReceiptCutoff at h
  (repeat' split at h) <;> cases h <;> simp

@[simp] theorem State.inputRun_life (s : State) (l : LaneId) (diff i : Nat) :
    (State.inputRun s l diff i).md.life = s.md.life := by simp [State.inputRun]

@[simp] theorem State.countDis_life (s : State) (l : LaneId) (own agreed : List Byte) :
    (State.countDis s l own agreed).md.life = s.md.life := by simp [State.countDis]

@[simp] theorem State.setAgval_life (s : State) (l : LaneId) (v : Nat) :
    (State.setAgval s l v).md.life = s.md.life := by simp [State.setAgval]

@[simp] theorem State.agree_life (s : State) (l : LaneId) : (State.agree s l).md.life = s.md.life := by simp [State.agree]

theorem execInputDisagreementFlag_life {l : LaneId} {i : Nat} {s s' : State} (h : execInputDisagreementFlag l i s = .next s') :
    s'.md.life = s.md.life := by
  unfold execInputDisagreementFlag at h
  (repeat' split at h) <;> cases h <;> simp

theorem execInputDisagreementClear_life {l : LaneId} {i : Nat} {s s' : State} (h : execInputDisagreementClear l i s = .next s') :
    s'.md.life = s.md.life := by
  unfold execInputDisagreementClear at h
  (repeat' split at h) <;> cases h <;> simp

/-! ### Program.lean -/

@[simp] theorem State.showPlan_life (s : State) (l : LaneId) : (State.showPlan s l).md.life = s.md.life := by simp [State.showPlan]

@[simp] theorem State.fillSafeMap_life (s : State) (l : LaneId) : (State.fillSafeMap s l).md.life = s.md.life := by simp [State.fillSafeMap]

@[simp] theorem State.loadProg_life (s : State) (l : LaneId) (b : List Byte) :
    (State.loadProg s l b).md.life = s.md.life := by simp [State.loadProg]

@[simp] theorem State.judgeActive_life (s : State) (l : LaneId) : (State.judgeActive s l).md.life = s.md.life := by simp [State.judgeActive]

@[simp] theorem State.admitActive_life (s : State) (l : LaneId) : (State.admitActive s l).md.life = s.md.life := by simp [State.admitActive]

/-! ### Pde.lean -/

@[simp] theorem State.chanSet_life (s : State) (c : Nat) (x : Chan) : (State.chanSet s c x).md.life = s.md.life := by simp [State.chanSet]

@[simp] theorem State.chanUpd_life (s : State) (c : Nat) (f : Chan → Chan) :
    (State.chanUpd s c f).md.life = s.md.life := by simp [State.chanUpd]

@[simp] theorem State.pdeStateSet_life (s : State) (c n : Nat) :
    (State.pdeStateSet s c n).md.life = s.md.life := by simp [State.pdeStateSet]

@[simp] theorem State.inboundRefused_life (s : State) (l : LaneId) (off : Nat) :
    (State.inboundRefused s l off).md.life = s.md.life := by simp [State.inboundRefused]

@[simp] theorem State.inbound_life (s : State) (l : LaneId) (off : Nat) (bs : List Byte) :
    (State.inbound s l off bs).1.md.life = s.md.life := by
  unfold State.inbound
  (repeat' split) <;> simp

@[simp] theorem State.lmemCells_life (s : State) (l : LaneId) (bs : List (Nat × Byte)) :
    (State.lmemCells s l bs).md.life = s.md.life := by simp [State.lmemCells]

theorem execInboundWrite_life {l : LaneId} {off : Nat} {bs : List Byte} {race : Option (Nat × List Byte × Bool)} {s s' : State} (h : execInboundWrite l off bs race s = .next s') :
    s'.md.life = s.md.life := by
  unfold execInboundWrite at h
  dsimp only at h
  (repeat' split at h) <;> cases h <;> simp

theorem execInboundRead_life {l : LaneId} {off n : Nat} {s s' : State} (h : execInboundRead l off n s = .next s') :
    s'.md.life = s.md.life := by
  unfold execInboundRead at h
  (repeat' split at h) <;> cases h <;> simp

@[simp] theorem State.pdeInt_life (s : State) (c : Nat) (f : Nat → Fld) : (State.pdeInt s c f).md.life = s.md.life := by simp [State.pdeInt]

@[simp] theorem State.pdeCount_life (s : State) (c : Nat) : (State.pdeCount s c).md.life = s.md.life := by simp [State.pdeCount]

@[simp] theorem State.pdeLast_life (s : State) (c frame : Nat) : (State.pdeLast s c frame).md.life = s.md.life := by simp [State.pdeLast]

@[simp] theorem State.pdeItemDone_life (s : State) (c frame : Nat) :
    (State.pdeItemDone s c frame).md.life = s.md.life := by simp [State.pdeItemDone]

@[simp] theorem State.pdeItemInt_life (s : State) (c : Nat) : (State.pdeItemInt s c).md.life = s.md.life := by simp [State.pdeItemInt]

@[simp] theorem State.pdeSupersede_life (s : State) (c : Nat) : (State.pdeSupersede s c).md.life = s.md.life := by simp [State.pdeSupersede]

@[simp] theorem State.pdeDrop_life (s : State) (c : Nat) : (State.pdeDrop s c).md.life = s.md.life := by simp [State.pdeDrop]

@[simp] theorem State.inboundAll_life (s : State) (ls : List LaneId) (off : Nat) (bs : List Byte) :
    (State.inboundAll s ls off bs).md.life = s.md.life := by simp [State.inboundAll]

@[simp] theorem State.cyclicArrive_life (s : State) (c : Nat) (raw : List Byte) : (State.cyclicArrive s c raw).md.life = s.md.life := by
  unfold State.cyclicArrive
  (repeat' split) <;> simp

theorem execPdeItemArrive_life {c : Nat} {raw : List Byte} {s s' : State} (h : execPdeItemArrive c raw s = .next s') :
    s'.md.life = s.md.life := by
  unfold execPdeItemArrive at h
  (repeat' split at h) <;> cases h <;> simp

@[simp] theorem State.cyclicTag_life (s : State) (n c late : Nat) :
    (State.cyclicTag s n c late).md.life = s.md.life := by simp [State.cyclicTag]

@[simp] theorem State.snapshotTags_life (s : State) (n : Nat) (late : List (Nat × Nat)) :
    (State.snapshotTags s n late).md.life = s.md.life := by simp [State.snapshotTags]

@[simp] theorem State.cqStall_life (s : State) (q : Nat) : (State.cqStall s q).md.life = s.md.life := by simp [State.cqStall]

@[simp] theorem State.cqWrite_life (s : State) (c p cookie status xfer frameLo : Nat) (irq : Bool) :
    (State.cqWrite s c p cookie status xfer frameLo irq).md.life = s.md.life := by simp [State.cqWrite]

@[simp] theorem State.descDone_life (s : State) (c status xfer frame : Nat) :
    (State.descDone s c status xfer frame).md.life = s.md.life := by simp [State.descDone]

@[simp] theorem State.descError_life (s : State) (c p cookie code : Nat) (irq : Bool) :
    (State.descError s c p cookie code irq).md.life = s.md.life := by simp [State.descError]

@[simp] theorem State.chainStall_life (s : State) (c : Nat) (parked : Bool) :
    (State.chainStall s c parked).md.life = s.md.life := by simp [State.chainStall]

@[simp] theorem State.chain_life (c k : Nat) (p : ChainAt) (s : State) : (State.chain c k p s).md.life = s.md.life := by
  induction k generalizing p s with
  | zero => rfl
  | succ k ih =>
    cases p <;> unfold State.chain <;> (try dsimp only) <;> (repeat' split) <;> simp [ih]

@[simp] theorem State.pdeGo_life (s : State) (c : Nat) : (State.pdeGo s c).md.life = s.md.life := by simp [State.pdeGo]

@[simp] theorem State.pdeDoorbell_life (s : State) (c : Nat) : (State.pdeDoorbell s c).md.life = s.md.life := by
  unfold State.pdeDoorbell
  (repeat' split) <;> simp

@[simp] theorem State.pdeStopAt_life (s : State) (c : Nat) : (State.pdeStopAt s c).md.life = s.md.life := by simp [State.pdeStopAt]

@[simp] theorem State.pdeGoOn_life (s : State) (c : Nat) : (State.pdeGoOn s c).md.life = s.md.life := by simp [State.pdeGoOn]

@[simp] theorem State.outputDone_life (s : State) (c status : Nat) : (State.outputDone s c status).md.life = s.md.life := by
  unfold State.outputDone
  (repeat' split) <;> simp

@[simp] theorem State.outputSent_life (s : State) (c : Nat) : (State.outputSent s c).md.life = s.md.life := by simp [State.outputSent]

theorem execQueuedOutputComplete_life {c status : Nat} {s s' : State} (h : execQueuedOutputComplete c status s = .next s') :
    s'.md.life = s.md.life := by
  unfold execQueuedOutputComplete at h
  (repeat' split at h) <;> cases h <;> simp

@[simp] theorem State.queuedArrive_life (s : State) (c : Nat) (raw : List Byte) : (State.queuedArrive s c raw).md.life = s.md.life := by
  unfold State.queuedArrive
  (repeat' split) <;> simp

theorem execQueuedInputItem_life {c : Nat} {raw : List Byte} {s s' : State} (h : execQueuedInputItem c raw s = .next s') :
    s'.md.life = s.md.life := by
  unfold execQueuedInputItem at h
  (repeat' split at h) <;> cases h <;> simp

@[simp] theorem State.ringWrite_life (s : State) (c count : Nat) (bs : List Byte) :
    (State.ringWrite s c count bs).md.life = s.md.life := by simp [State.ringWrite]

@[simp] theorem State.circularArrive_life (s : State) (c : Nat) (raw : List Byte) : (State.circularArrive s c raw).md.life = s.md.life := by
  unfold State.circularArrive
  (repeat' split) <;> simp

theorem execCircularInputItem_life {c : Nat} {raw : List Byte} {s s' : State} (h : execCircularInputItem c raw s = .next s') :
    s'.md.life = s.md.life := by
  unfold execCircularInputItem at h
  (repeat' split at h) <;> cases h <;> simp

@[simp] theorem State.itemFor_life (s : State) (c : Nat) (raw : List Byte) : (State.itemFor s c raw).md.life = s.md.life := by
  unfold State.itemFor
  (repeat' split) <;> simp

@[simp] theorem State.pdeRdWrite_life (s : State) (c v : Nat) : (State.pdeRdWrite s c v).md.life = s.md.life := by simp [State.pdeRdWrite]

theorem State.cqBaseWrite_life {s t : State} {l : LaneId} {q v : Nat} (h : s.cqBaseWrite l q v = some t) : t.md.life = s.md.life := by
  unfold State.cqBaseWrite at h
  dsimp only at h
  (repeat' split at h) <;> cases h <;> simp

@[simp] theorem State.cqResume_life (s : State) (q : Nat) : (s.cqResume q).md.life = s.md.life := by
  unfold State.cqResume
  refine foldl_life _ ?_ _ _
  intro s c
  try dsimp only
  repeat' split
  all_goals simp

theorem State.cqTailWrite_life {s t : State} {l : LaneId} {q v : Nat} (h : s.cqTailWrite l q v = some t) : t.md.life = s.md.life := by
  unfold State.cqTailWrite at h
  dsimp only at h
  (repeat' split at h) <;> cases h <;> simp

@[simp] theorem State.pdeAbort_life (s : State) (c : Nat) : (State.pdeAbort s c).md.life = s.md.life := by
  unfold State.pdeAbort
  (repeat' split) <;> simp

@[simp] theorem State.sinkPut_life (s : State) (c : Nat) (it : Item) : (State.sinkPut s c it).md.life = s.md.life := by simp [State.sinkPut]

@[simp] theorem State.fetchOne_life (s : State) (n c : Nat) : (State.fetchOne s n c).md.life = s.md.life := by
  unfold State.fetchOne
  dsimp only
  (repeat' split) <;> simp

@[simp] theorem State.fetchAll_life (s : State) (n : Nat) : (State.fetchAll s n).md.life = s.md.life := by simp [State.fetchAll]

@[simp] theorem State.vdoneWrite_life (s : State) (l : LaneId) (v : Nat) :
    (State.vdoneWrite s l v).md.life = s.md.life := by simp [State.vdoneWrite]

theorem execPdeVdoneWrite_life {l : LaneId} {v : Nat} {s s' : State} (h : execPdeVdoneWrite l v s = .next s') : s'.md.life = s.md.life := by
  unfold execPdeVdoneWrite at h
  (repeat' split at h) <;> cases h <;> simp

@[simp] theorem execPdeVdoneWrite_life' (l : LaneId) (v : Nat) (s : State) : (nextOr s (execPdeVdoneWrite l v s)).md.life = s.md.life :=
  nextOr_life _ _ (fun _ h => execPdeVdoneWrite_life h)

theorem execPdeFetchCutoff_life {s s' : State} (h : execPdeFetchCutoff s = .next s') : s'.md.life = s.md.life := by
  unfold execPdeFetchCutoff at h
  (repeat' split at h) <;> cases h <;> simp

@[simp] theorem State.armFail_life (s : State) (c code : Nat) : (State.armFail s c code).md.life = s.md.life := by simp [State.armFail]

@[simp] theorem State.armUnmatched_life (s : State) (c : Nat) : (State.armUnmatched s c).md.life = s.md.life := by simp [State.armUnmatched]

@[simp] theorem State.armSample_life (s : State) (c : Nat) : (State.armSample s c).md.life = s.md.life := by
  unfold State.armSample
  (repeat' split) <;> simp

theorem execPdeArmSample_life {s s' : State} (h : execPdeArmSample s = .next s') : s'.md.life = s.md.life := by
  unfold execPdeArmSample at h
  (repeat' split at h) <;> cases h <;> simp

theorem execPdeArmUnmatched_life {c : Nat} {s s' : State} (h : execPdeArmUnmatched c s = .next s') : s'.md.life = s.md.life := by
  unfold execPdeArmUnmatched at h
  (repeat' split at h) <;> cases h <;> simp

@[simp] theorem State.activate_life (s : State) (m c : Nat) (v : List Nat) :
    (State.activate s m c v).md.life = s.md.life := by simp [State.activate]

@[simp] theorem State.activateAll_life (s : State) (m : Nat) : (s.activateAll m).md.life = s.md.life := by
  unfold State.activateAll
  refine foldl_life _ ?_ _ _
  intro s c
  try dsimp only
  split <;> simp

@[simp] theorem State.relayArm_life (s : State) (on : Bool) : (State.relayArm s on).md.life = s.md.life := by simp [State.relayArm]

@[simp] theorem State.armAll_life (s : State) (on : Bool) : (State.armAll s on).md.life = s.md.life := by simp [State.armAll]

@[simp] theorem State.pdeLaneOff_life (s : State) (l : LaneId) : (State.pdeLaneOff s l).md.life = s.md.life := by simp [State.pdeLaneOff]

/-! ### LinkEnd.lean -/

@[simp] theorem State.brgUpd_life (s : State) (l : LaneId) (f : LaneBrg → LaneBrg) :
    (State.brgUpd s l f).md.life = s.md.life := by simp [State.brgUpd]

@[simp] theorem State.brgShow_life (s : State) (l : LaneId) : (State.brgShow s l).md.life = s.md.life := by simp [State.brgShow]

@[simp] theorem State.writeEnter_life (s : State) (l : LaneId) (w : PendWrite) :
    (State.writeEnter s l w).md.life = s.md.life := by simp [State.writeEnter]

@[simp] theorem State.wcIssue_life (s : State) (l : LaneId) (core : Nat) : (State.wcIssue s l core).md.life = s.md.life := by
  unfold State.wcIssue
  (repeat' split) <;> simp

@[simp] theorem State.setDueReg_life (s : State) (l : LaneId) (reg v : Nat) :
    (State.setDueReg s l reg v).md.life = s.md.life := by simp [State.setDueReg]

@[simp] theorem State.bridgeWrite_life (s : State) (l : LaneId) (core a : Nat) (bs : List Byte) :
    (State.bridgeWrite s l core a bs).md.life = s.md.life := by
  unfold State.bridgeWrite
  refine foldl_life _ ?_ _ _
  intro s c
  try dsimp only
  (repeat' split) <;> simp

/-! ### Vote.lean -/

@[simp] theorem State.voterSet_life (s : State) (i : VoterId) (v : Voter) : (State.voterSet s i v).md.life = s.md.life := by
  unfold State.voterSet
  (repeat' split) <;> simp

@[simp] theorem State.voterEvt_life (s : State) (i : VoterId) (code : Nat) (parts : List (Nat × Nat)) :
    (State.voterEvt s i code parts).md.life = s.md.life := by
  unfold State.voterEvt
  (repeat' split) <;> simp

@[simp] theorem State.voterReceive_life (s : State) (i : VoterId) (l : LaneId) (b : List Byte) :
    (State.voterReceive s i l b).md.life = s.md.life := by
  unfold State.voterReceive
  (repeat' split) <;> simp

theorem execVoterImageReceive_life {i : VoterId} {l : LaneId} {b : List Byte} {s s' : State} (h : execVoterImageReceive i l b s = .next s') :
    s'.md.life = s.md.life := by
  unfold execVoterImageReceive at h
  cases h
  simp

theorem execVoterImageCutoff_life {i : VoterId} {s s' : State} (h : execVoterImageCutoff i s = .next s') : s'.md.life = s.md.life := by
  unfold execVoterImageCutoff at h
  (repeat' split at h) <;> cases h <;> simp

@[simp] theorem State.noteFrame_life (s : State) (l : LaneId) : (State.noteFrame s l).md.life = s.md.life := by simp [State.noteFrame]

@[simp] theorem State.linksDown_life (s : State) (l : LaneId) : (State.linksDown s l).md.life = s.md.life := by simp [State.linksDown]

@[simp] theorem State.lanePowerOff_life (s : State) (l : LaneId) :
    (State.lanePowerOff s l).md.life = s.md.life := by simp [State.lanePowerOff]

@[simp] theorem State.powerLane_life (s : State) (l : LaneId) : (State.powerLane s l).md.life = s.md.life := by simp [State.powerLane]

@[simp] theorem State.laneRestart_life (s : State) (l : LaneId) (k : Nat) :
    (State.laneRestart s l k).md.life = s.md.life := by simp [State.laneRestart]

@[simp] theorem State.startRealign_life (s : State) (t : LaneId) : (State.startRealign s t).md.life = s.md.life := by
  unfold State.startRealign
  (repeat' split) <;> simp

@[simp] theorem State.afterRemoval_life (s : State) (l : LaneId) (c : Nat) (leave : Bool) :
    (State.afterRemoval s l c leave).md.life = s.md.life := by
  unfold State.afterRemoval
  (repeat' split) <;> simp

@[simp] theorem State.beginHubRestart_life (s : State) (bank : Nat) :
    (State.beginHubRestart s bank).md.life = s.md.life := by simp [State.beginHubRestart]

@[simp] theorem State.installAdmitted_life (s : State) (t : LaneId) : (State.installAdmitted s t).md.life = s.md.life := by
  unfold State.installAdmitted
  (repeat' split) <;> simp

@[simp] theorem State.removeMembers_life (s : State) (cases : List (LaneId × Nat)) (n : Nat) :
    (State.removeMembers s cases n).md.life = s.md.life := by simp [State.removeMembers]

@[simp] theorem State.voter2Halt_life (s : State) (cause n : Nat) :
    (State.voter2Halt s cause n).md.life = s.md.life := by simp [State.voter2Halt]

@[simp] theorem State.formMembers_life (s : State) (v : Voter) (n : Nat) :
    (State.formMembers s v n).md.life = s.md.life := by simp [State.formMembers]

@[simp] theorem State.voterEvents_life (s : State) (i : VoterId) (v : Voter) : (State.voterEvents s i v).md.life = s.md.life := by
  unfold State.voterEvents
  (repeat' split) <;> simp

@[simp] theorem State.sendStatus_life (s : State) (n : Nat) : (State.sendStatus s n).md.life = s.md.life := by simp [State.sendStatus]

@[simp] theorem State.disregard_life (s : State) (i : VoterId) (l : LaneId) (cause : Nat) :
    (State.disregard s i l cause).md.life = s.md.life := by
  unfold State.disregard
  (repeat' split) <;> simp

@[simp] theorem State.splitEdge_life (s : State) (i : VoterId) (v : Voter) :
    (State.splitEdge s i v).md.life = s.md.life := by simp [State.splitEdge]

@[simp] theorem State.voter2Edge_life (s : State) (edge : Nat) : (State.voter2Edge s edge).md.life = s.md.life := by simp [State.voter2Edge]

@[simp] theorem State.showVoter1_life (s : State) (n : Nat) : (State.showVoter1 s n).md.life = s.md.life := by simp [State.showVoter1]

@[simp] theorem State.voter1Edge_life (s : State) (edge : Nat) : (State.voter1Edge s edge).md.life = s.md.life := by simp [State.voter1Edge]

theorem execVotImgSend_life {l : LaneId} {c : Nat} {w : Word} {s s' : State} (h : execVotImgSend l c w s = .next s') :
    s'.md.life = s.md.life := by
  unfold execVotImgSend at h
  (repeat' split at h) <;> cases h <;> simp

@[simp] theorem execVotImgSend_life' (l : LaneId) (c : Nat) (w : Word) (s : State) : (nextOr s (execVotImgSend l c w s)).md.life = s.md.life :=
  nextOr_life _ _ (fun _ h => execVotImgSend_life h)

theorem execVotV1ImgLatch_life {l : LaneId} {w : Word} {s s' : State} (h : execVotV1ImgLatch l w s = .next s') :
    s'.md.life = s.md.life := by
  unfold execVotV1ImgLatch at h
  (repeat' split at h) <;> cases h <;> simp

@[simp] theorem execVotV1ImgLatch_life' (l : LaneId) (w : Word) (s : State) : (nextOr s (execVotV1ImgLatch l w s)).md.life = s.md.life :=
  nextOr_life _ _ (fun _ h => execVotV1ImgLatch_life h)

@[simp] theorem State.voter2Accept_life (s : State) (part : Nat) : (State.voter2Accept s part).md.life = s.md.life := by
  unfold State.voter2Accept
  dsimp only
  (repeat' split) <;> simp

theorem execVotCtlSend_life {l : LaneId} {c : Nat} {s s' : State} (h : execVotCtlSend l c s = .next s') : s'.md.life = s.md.life := by
  unfold execVotCtlSend at h
  (repeat' split at h) <;> cases h <;> simp

@[simp] theorem execVotCtlSend_life' (l : LaneId) (c : Nat) (s : State) : (nextOr s (execVotCtlSend l c s)).md.life = s.md.life :=
  nextOr_life _ _ (fun _ h => execVotCtlSend_life h)

theorem execLaneWatchdogExpire_life {l : LaneId} {s s' : State} (h : execLaneWatchdogExpire l s = .next s') : s'.md.life = s.md.life := by
  unfold execLaneWatchdogExpire at h
  dsimp only at h
  (repeat' split at h) <;> cases h <;> simp

theorem execWithholdLimitRemove_life {l : LaneId} {s s' : State} (h : execWithholdLimitRemove l s = .next s') : s'.md.life = s.md.life := by
  unfold execWithholdLimitRemove at h
  dsimp only at h
  (repeat' split at h) <;> cases h <;> simp

theorem execVoter1Disregard_life {l : LaneId} {s s' : State} (h : execVoter1Disregard l s = .next s') : s'.md.life = s.md.life := by
  unfold execVoter1Disregard at h
  dsimp only at h
  (repeat' split at h) <;> cases h <;> simp

@[simp] theorem State.newExpected_life (s : State) (l : LaneId) (old new : Nat) :
    (State.newExpected s l old new).md.life = s.md.life := by simp [State.newExpected]

theorem execStatusRecordReceive_life {l : LaneId} {r : StatusRecord} {crcOk : Bool} {s s' : State} (h : execStatusRecordReceive l r crcOk s = .next s') :
    s'.md.life = s.md.life := by
  unfold execStatusRecordReceive at h
  (repeat' split at h) <;> cases h <;> simp

@[simp] theorem State.voterCompare_life (s : State) (l : LaneId) :
    (State.voterCompare s l).md.life = s.md.life := by simp [State.voterCompare]

theorem execVoterDifferenceRecord_life {l : LaneId} {s s' : State} (h : execVoterDifferenceRecord l s = .next s') :
    s'.md.life = s.md.life := by
  unfold execVoterDifferenceRecord at h
  dsimp only at h
  (repeat' split at h) <;> cases h <;> simp

theorem execVoterDifferenceHalt_life {l : LaneId} {s s' : State} (h : execVoterDifferenceHalt l s = .next s') : s'.md.life = s.md.life := by
  unfold execVoterDifferenceHalt at h
  dsimp only at h
  (repeat' split at h) <;> cases h <;> simp

/-! ### Realign.lean -/

@[simp] theorem State.sumSend_life (s : State) (l : LaneId) (wend : Nat) :
    (State.sumSend s l wend).md.life = s.md.life := by simp [State.sumSend]

theorem execChecksumPacketReceive_life {l : LaneId} {p : LinkPacket} {s s' : State} (h : execChecksumPacketReceive l p s = .next s') :
    s'.md.life = s.md.life := by
  unfold execChecksumPacketReceive at h
  dsimp only at h
  (repeat' split at h) <;> cases h <;> simp

@[simp] theorem State.confirmDiverged_life (s : State) (l : LaneId) (v : SumVerdict) (k : Nat) :
    (State.confirmDiverged s l v k).md.life = s.md.life := by
  unfold State.confirmDiverged
  (repeat' split) <;> simp

@[simp] theorem State.candidateSums_life (s : State) (l : LaneId) (v : SumVerdict) (k crc : Nat) :
    (State.candidateSums s l v k crc).md.life = s.md.life := by
  unfold State.candidateSums
  (repeat' split) <;> simp

@[simp] theorem State.sliceCompare_life (s : State) (l : LaneId) : (State.sliceCompare s l).md.life = s.md.life := by
  unfold State.sliceCompare
  repeat' (first | split | simp)

theorem execEndOfL_life {l : LaneId} {s s' : State} (h : execEndOfL l s = .next s') : s'.md.life = s.md.life := by
  unfold execEndOfL at h
  (repeat' split at h) <;> cases h <;> simp

@[simp] theorem State.trackWrites_life (s : State) (l : LaneId) (pages : List Nat) : (State.trackWrites s l pages).md.life = s.md.life := by
  unfold State.trackWrites
  dsimp only
  (repeat' split) <;> simp

theorem execRealignPageSend_life {l : LaneId} {s s' : State} (h : execRealignPageSend l s = .next s') : s'.md.life = s.md.life := by
  unfold execRealignPageSend at h
  dsimp only at h
  (repeat' split at h) <;> cases h <;> simp

theorem execRealignPageReceive_life {l : LaneId} {p : LinkPacket} {s s' : State} (h : execRealignPageReceive l p s = .next s') :
    s'.md.life = s.md.life := by
  unfold execRealignPageReceive at h
  dsimp only at h
  (repeat' split at h) <;> cases h <;> simp

@[simp] theorem State.donorFinal_life (s : State) (l : LaneId) : (State.donorFinal s l).md.life = s.md.life := by simp [State.donorFinal]

@[simp] theorem State.takeSet_life (s : State) (t d : LaneId) : (State.takeSet s t d).md.life = s.md.life := by
  unfold State.takeSet
  dsimp only
  (repeat' split) <;> simp

@[simp] theorem State.becomeCandidate_life (s : State) (t d : LaneId) :
    (State.becomeCandidate s t d).md.life = s.md.life := by simp [State.becomeCandidate]

theorem execRealignFinalPass_life {t : LaneId} {s s' : State} (h : execRealignFinalPass t s = .next s') : s'.md.life = s.md.life := by
  unfold execRealignFinalPass at h
  (repeat' split at h) <;> cases h <;> simp

@[simp] theorem State.endRealign_life (s : State) (t : LaneId) : (State.endRealign s t).md.life = s.md.life := by simp [State.endRealign]

theorem execRealignmentAbandon_life {t : LaneId} {s s' : State} (h : execRealignmentAbandon t s = .next s') : s'.md.life = s.md.life := by
  unfold execRealignmentAbandon at h
  (repeat' split at h) <;> cases h <;> simp

/-! ### Operands.lean -/

@[simp] theorem State.coreSet_life (s : State) (l : LaneId) (c : Nat) (k : CoreState) :
    (State.coreSet s l c k).md.life = s.md.life := by simp [State.coreSet]

@[simp] theorem State.taskTraps_life (s : State) (l : LaneId) (t : Nat) : (State.taskTraps s l t).md.life = s.md.life := by
  unfold State.taskTraps
  (repeat' split) <;> simp

@[simp] theorem State.afterTrap_life (s : State) (l : LaneId) (c : Nat) (k : CoreState) :
    (State.afterTrap s l c k).md.life = s.md.life := by
  unfold State.afterTrap
  (repeat' split) <;> simp

@[simp] theorem State.coreTrap_life (s : State) (l : LaneId) (c cause pc : Nat) (tval : Option Nat) :
    (State.coreTrap s l c cause pc tval).md.life = s.md.life := by simp [State.coreTrap]

@[simp] theorem State.coded_life (s : State) (l : LaneId) (c pc : Nat) (plainPass : Bool) (f : CoreState → CdOut) :
    (State.coded s l c pc plainPass f).md.life = s.md.life := by simp [State.coded]

/-! ### Coded.lean -/

theorem execCdEnc_life {l : LaneId} {c pc rd rs1 rs3 : Nat} {s s' : State} (h : execCdEnc l c pc rd rs1 rs3 s = .next s') :
    s'.md.life = s.md.life := by
  unfold execCdEnc at h
  cases h
  simp

theorem execCdDec_life {l : LaneId} {c pc rd rs1 rs3 : Nat} {s s' : State} (h : execCdDec l c pc rd rs1 rs3 s = .next s') :
    s'.md.life = s.md.life := by
  unfold execCdDec at h
  cases h
  simp

theorem execCdChk_life {l : LaneId} {c pc rs1 rs3 : Nat} {s s' : State} (h : execCdChk l c pc rs1 rs3 s = .next s') :
    s'.md.life = s.md.life := by
  unfold execCdChk at h
  cases h
  simp

theorem execCdResig_life {l : LaneId} {c pc rd rs1 rs3 : Nat} {s s' : State} (h : execCdResig l c pc rd rs1 rs3 s = .next s') :
    s'.md.life = s.md.life := by
  unfold execCdResig at h
  cases h
  simp

theorem execCdAdd_life {l : LaneId} {c pc rd rs1 rs2 rs3 : Nat} {s s' : State} (h : execCdAdd l c pc rd rs1 rs2 rs3 s = .next s') :
    s'.md.life = s.md.life := by
  unfold execCdAdd at h
  cases h
  simp

theorem execCdSub_life {l : LaneId} {c pc rd rs1 rs2 rs3 : Nat} {s s' : State} (h : execCdSub l c pc rd rs1 rs2 rs3 s = .next s') :
    s'.md.life = s.md.life := by
  unfold execCdSub at h
  cases h
  simp

theorem execCdMul_life {l : LaneId} {c pc rd rs1 rs2 rs3 : Nat} {s s' : State} (h : execCdMul l c pc rd rs1 rs2 rs3 s = .next s') :
    s'.md.life = s.md.life := by
  unfold execCdMul at h
  cases h
  simp

theorem execCdMulq_life {l : LaneId} {c pc rd rs1 rs2 rs3 : Nat} {s s' : State} (h : execCdMulq l c pc rd rs1 rs2 rs3 s = .next s') :
    s'.md.life = s.md.life := by
  unfold execCdMulq at h
  cases h
  simp

theorem execCdDiv_life {l : LaneId} {c pc rd rs1 rs2 rs3 : Nat} {s s' : State} (h : execCdDiv l c pc rd rs1 rs2 rs3 s = .next s') :
    s'.md.life = s.md.life := by
  unfold execCdDiv at h
  cases h
  simp

theorem execCdRem_life {l : LaneId} {c pc rd rs1 rs2 rs3 : Nat} {s s' : State} (h : execCdRem l c pc rd rs1 rs2 rs3 s = .next s') :
    s'.md.life = s.md.life := by
  unfold execCdRem at h
  cases h
  simp

theorem execCdSra_life {l : LaneId} {c pc rd rs1 rs3 : Nat} {s s' : State} (h : execCdSra l c pc rd rs1 rs3 s = .next s') :
    s'.md.life = s.md.life := by
  unfold execCdSra at h
  cases h
  simp

theorem execCdWrap_life {l : LaneId} {c pc rd rs1 rs3 : Nat} {s s' : State} (h : execCdWrap l c pc rd rs1 rs3 s = .next s') :
    s'.md.life = s.md.life := by
  unfold execCdWrap at h
  cases h
  simp

theorem execCdSlt_life {l : LaneId} {c pc rd rs1 rs2 rs3 : Nat} {s s' : State} (h : execCdSlt l c pc rd rs1 rs2 rs3 s = .next s') :
    s'.md.life = s.md.life := by
  unfold execCdSlt at h
  cases h
  simp

theorem execCdSeq_life {l : LaneId} {c pc rd rs1 rs2 rs3 : Nat} {s s' : State} (h : execCdSeq l c pc rd rs1 rs2 rs3 s = .next s') :
    s'.md.life = s.md.life := by
  unfold execCdSeq at h
  cases h
  simp

theorem execCdBand_life {l : LaneId} {c pc rd rs1 rs2 rs3 : Nat} {s s' : State} (h : execCdBand l c pc rd rs1 rs2 rs3 s = .next s') :
    s'.md.life = s.md.life := by
  unfold execCdBand at h
  cases h
  simp

theorem execCdBor_life {l : LaneId} {c pc rd rs1 rs2 rs3 : Nat} {s s' : State} (h : execCdBor l c pc rd rs1 rs2 rs3 s = .next s') :
    s'.md.life = s.md.life := by
  unfold execCdBor at h
  cases h
  simp

theorem execCdBnot_life {l : LaneId} {c pc rd rs1 rs3 : Nat} {s s' : State} (h : execCdBnot l c pc rd rs1 rs3 s = .next s') :
    s'.md.life = s.md.life := by
  unfold execCdBnot at h
  cases h
  simp

theorem execCdCond_life {l : LaneId} {c pc rd rs1 rs3 : Nat} {s s' : State} (h : execCdCond l c pc rd rs1 rs3 s = .next s') :
    s'.md.life = s.md.life := by
  unfold execCdCond at h
  cases h
  simp

theorem execCdPfold_life {l : LaneId} {c pc rs1 : Nat} {s s' : State} (h : execCdPfold l c pc rs1 s = .next s') :
    s'.md.life = s.md.life := by
  unfold execCdPfold at h
  cases h
  simp

theorem execCdRebase_life {l : LaneId} {c pc rd rs1 rs2 rs3 : Nat} {s s' : State} (h : execCdRebase l c pc rd rs1 rs2 rs3 s = .next s') :
    s'.md.life = s.md.life := by
  unfold execCdRebase at h
  cases h
  simp

theorem execCdFenc_life {l : LaneId} {c pc : Nat} {f : FFmt} {fd fs1 : Nat} {s s' : State} (h : execCdFenc l c pc f fd fs1 s = .next s') :
    s'.md.life = s.md.life := by
  unfold execCdFenc at h
  cases h
  simp

theorem execCdFdec_life {l : LaneId} {c pc : Nat} {f : FFmt} {fd fs1 : Nat} {s s' : State} (h : execCdFdec l c pc f fd fs1 s = .next s') :
    s'.md.life = s.md.life := by
  unfold execCdFdec at h
  cases h
  simp

theorem execCdFmul_life {l : LaneId} {c pc : Nat} {f : FFmt} {fd fs1 fs2 : Nat} {s s' : State} (h : execCdFmul l c pc f fd fs1 fs2 s = .next s') :
    s'.md.life = s.md.life := by
  unfold execCdFmul at h
  cases h
  simp

theorem execCdFdiv_life {l : LaneId} {c pc : Nat} {f : FFmt} {fd fs1 fs2 : Nat} {s s' : State} (h : execCdFdiv l c pc f fd fs1 fs2 s = .next s') :
    s'.md.life = s.md.life := by
  unfold execCdFdiv at h
  cases h
  simp

theorem execCdFsqrt_life {l : LaneId} {c pc : Nat} {f : FFmt} {fd fs1 : Nat} {s s' : State} (h : execCdFsqrt l c pc f fd fs1 s = .next s') :
    s'.md.life = s.md.life := by
  unfold execCdFsqrt at h
  cases h
  simp

theorem execCdFmadd_life {l : LaneId} {c pc : Nat} {f : FFmt} {fd fs1 fs2 fs3 : Nat} {s s' : State} (h : execCdFmadd l c pc f fd fs1 fs2 fs3 s = .next s') :
    s'.md.life = s.md.life := by
  unfold execCdFmadd at h
  cases h
  simp

theorem execCdFsgnjx_life {l : LaneId} {c pc : Nat} {f : FFmt} {fd fs1 fs2 : Nat} {s s' : State} (h : execCdFsgnjx l c pc f fd fs1 fs2 s = .next s') :
    s'.md.life = s.md.life := by
  unfold execCdFsgnjx at h
  cases h
  simp

theorem execCdFlt_life {l : LaneId} {c pc : Nat} {f : FFmt} {rd fs1 fs2 rs3 : Nat} {s s' : State} (h : execCdFlt l c pc f rd fs1 fs2 rs3 s = .next s') :
    s'.md.life = s.md.life := by
  unfold execCdFlt at h
  cases h
  simp

theorem execCdFle_life {l : LaneId} {c pc : Nat} {f : FFmt} {rd fs1 fs2 rs3 : Nat} {s s' : State} (h : execCdFle l c pc f rd fs1 fs2 rs3 s = .next s') :
    s'.md.life = s.md.life := by
  unfold execCdFle at h
  cases h
  simp

theorem execCdFeq_life {l : LaneId} {c pc : Nat} {f : FFmt} {rd fs1 fs2 rs3 : Nat} {s s' : State} (h : execCdFeq l c pc f rd fs1 fs2 rs3 s = .next s') :
    s'.md.life = s.md.life := by
  unfold execCdFeq at h
  cases h
  simp

theorem execCdFcvtX_life {l : LaneId} {c pc : Nat} {f : FFmt} {rd fs1 rs3 : Nat} {s s' : State} (h : execCdFcvtX l c pc f rd fs1 rs3 s = .next s') :
    s'.md.life = s.md.life := by
  unfold execCdFcvtX at h
  cases h
  simp

theorem execCdFcvtF_life {l : LaneId} {c pc : Nat} {f : FFmt} {fd rs1 rs3 : Nat} {s s' : State} (h : execCdFcvtF l c pc f fd rs1 rs3 s = .next s') :
    s'.md.life = s.md.life := by
  unfold execCdFcvtF at h
  cases h
  simp

theorem execCdFclass_life {l : LaneId} {c pc : Nat} {f : FFmt} {rd fs1 rs3 : Nat} {s s' : State} (h : execCdFclass l c pc f rd fs1 rs3 s = .next s') :
    s'.md.life = s.md.life := by
  unfold execCdFclass at h
  cases h
  simp

theorem execCdFrebase_life {l : LaneId} {c pc : Nat} {f : FFmt} {fd fs1 rs2 : Nat} {s s' : State} (h : execCdFrebase l c pc f fd fs1 rs2 s = .next s') :
    s'.md.life = s.md.life := by
  unfold execCdFrebase at h
  cases h
  simp

theorem execEncodedPassIllegal_life {l : LaneId} {c pc task : Nat} {s s' : State} (h : execEncodedPassIllegal l c pc task s = .next s') :
    s'.md.life = s.md.life := by
  unfold execEncodedPassIllegal at h
  (repeat' split at h) <;> cases h <;> simp

/-! ### Cycle.lean -/

@[simp] theorem State.stationSet_life (s : State) (l : LaneId) (st : Nat) (r : StationRec) :
    (State.stationSet s l st r).md.life = s.md.life := by simp [State.stationSet]

@[simp] theorem State.writeInput_life (s : State) (l : LaneId) (d : TaskDecl) :
    (State.writeInput s l d).md.life = s.md.life := by simp [State.writeInput]

@[simp] theorem State.setPass_life (s : State) (l : LaneId) (en pass : Nat) (sig : Option Fld) :
    (State.setPass s l en pass sig).md.life = s.md.life := by simp [State.setPass]

@[simp] theorem State.sigSet_life (s : State) (l : LaneId) (c : Nat) (f : Fld) (v : Nat) :
    (State.sigSet s l c f v).md.life = s.md.life := by simp [State.sigSet]

theorem execTaskTrap_life {l : LaneId} {c task cause pc : Nat} {tval : Option Nat} {s s' : State} (h : execTaskTrap l c task cause pc tval s = .next s') :
    s'.md.life = s.md.life := by
  unfold execTaskTrap at h
  (repeat' split at h) <;> cases h <;> simp

theorem execTckClsDoneWrite_life {l : LaneId} {w : Word} {s s' : State} (h : execTckClsDoneWrite l w s = .next s') :
    s'.md.life = s.md.life := by
  unfold execTckClsDoneWrite at h
  (repeat' split at h) <;> cases h <;> simp

@[simp] theorem execTckClsDoneWrite_life' (l : LaneId) (w : Word) (s : State) : (nextOr s (execTckClsDoneWrite l w s)).md.life = s.md.life :=
  nextOr_life _ _ (fun _ h => execTckClsDoneWrite_life h)

@[simp] theorem State.measure_life (s : State) (l : LaneId) (t idx dur c m : Nat) :
    (State.measure s l t idx dur c m).md.life = s.md.life := by simp [State.measure]

@[simp] theorem State.takePass_life (s : State) (l : LaneId) (r : PassResult) : (State.takePass s l r).md.life = s.md.life := by
  unfold State.takePass
  (repeat' split) <;> simp

@[simp] theorem State.runtimeFault_life (s : State) (l : LaneId) (c bits : Nat) :
    (State.runtimeFault s l c bits).md.life = s.md.life := by simp [State.runtimeFault]

@[simp] theorem State.startEncoded_life (s : State) (l : LaneId) (d : TaskDecl) :
    (State.startEncoded s l d).md.life = s.md.life := by simp [State.startEncoded]

theorem execEnterPhaseE_life {l : LaneId} {rs : List PassResult} {s s' : State} (h : execEnterPhaseE l rs s = .next s') :
    s'.md.life = s.md.life := by
  unfold execEnterPhaseE at h
  (repeat' split at h) <;> cases h <;> simp

@[simp] theorem State.compareFails_life (s : State) (l : LaneId) (d : TaskDecl) :
    (State.compareFails s l d).md.life = s.md.life := by simp [State.compareFails]

@[simp] theorem State.compareTask_life (s : State) (l : LaneId) (d : TaskDecl) (e : EncResult) :
    (State.compareTask s l d e).md.life = s.md.life := by simp [State.compareTask]

@[simp] theorem State.compareAll_life (s : State) (l : LaneId) (es : List EncResult) : (s.compareAll l es).md.life = s.md.life := by
  unfold State.compareAll
  refine foldl_life _ ?_ _ _
  intro s d
  try dsimp only
  split <;> simp

@[simp] theorem State.commitClass_life (s : State) (l : LaneId) (c : Nat) :
    (State.commitClass s l c).md.life = s.md.life := by simp [State.commitClass]

@[simp] theorem State.completeClasses_life (s : State) (l : LaneId) (safe : Bool) :
    (State.completeClasses s l safe).md.life = s.md.life := by simp [State.completeClasses]

@[simp] theorem State.stopClass_life (s : State) (l : LaneId) (c : Nat) :
    (State.stopClass s l c).md.life = s.md.life := by simp [State.stopClass]

@[simp] theorem State.withholdCases_life (s : State) (l : LaneId) :
    (State.withholdCases s l).md.life = s.md.life := by simp [State.withholdCases]

@[simp] theorem State.sendImages_life (s : State) (l : LaneId) (off : Bool) :
    (State.sendImages s l off).md.life = s.md.life := by simp [State.sendImages]

@[simp] theorem State.overrunBeyond_life (s : State) (l : LaneId) (c : Nat) :
    (State.overrunBeyond s l c).md.life = s.md.life := by simp [State.overrunBeyond]

@[simp] theorem State.overrun_life (s : State) (l : LaneId) (c : Nat) : (State.overrun s l c).md.life = s.md.life := by simp [State.overrun]

@[simp] theorem State.deadline_life (s : State) (l : LaneId) (safe : Bool) :
    (State.deadline s l safe).md.life = s.md.life := by simp [State.deadline]

theorem execOverrunBeyondTolerance_life {l : LaneId} {c : Nat} {s s' : State} (h : execOverrunBeyondTolerance l c s = .next s') :
    s'.md.life = s.md.life := by
  unfold execOverrunBeyondTolerance at h
  (repeat' split at h) <;> cases h <;> simp

@[simp] theorem State.mramWrite_life (s : State) (a : Nat) (bs : List Byte) :
    (State.mramWrite s a bs).md.life = s.md.life := by simp [State.mramWrite]

@[simp] theorem State.retainedReport_life (s : State) (l : LaneId) :
    (State.retainedReport s l).md.life = s.md.life := by simp [State.retainedReport]

@[simp] theorem State.retainedAt_life (s : State) (l : LaneId) (k : Nat) :
    (State.retainedAt s l k).md.life = s.md.life := by simp [State.retainedAt]

@[simp] theorem State.retainedBegin_life (s : State) (l : LaneId) :
    (State.retainedBegin s l).md.life = s.md.life := by simp [State.retainedBegin]

@[simp] theorem State.retainedEnds_life (s : State) (l : LaneId) :
    (State.retainedEnds s l).md.life = s.md.life := by simp [State.retainedEnds]

@[simp] theorem State.retainedNext_life (s : State) (l : LaneId) :
    (State.retainedNext s l).md.life = s.md.life := by simp [State.retainedNext]

@[simp] theorem State.retainedSnapshot_life (s : State) (l : LaneId) : (s.retainedSnapshot l).md.life = s.md.life := by
  unfold State.retainedSnapshot
  generalize List.replicate 252 (0 : Byte) = z
  try dsimp only
  repeat' split
  all_goals simp

theorem execDurableReport_life {l : LaneId} {q : Nat} {id : List Byte} {layout : Nat} {s s' : State} (h : execDurableReport l q id layout s = .next s') :
    s'.md.life = s.md.life := by
  unfold execDurableReport at h
  (repeat' split at h) <;> cases h <;> simp

@[simp] theorem State.completeJournal_life (s : State) (l : LaneId) :
    (State.completeJournal s l).md.life = s.md.life := by simp [State.completeJournal]

@[simp] theorem State.coldRetained_life (s : State) (l : LaneId) : (s.coldRetained l).md.life = s.md.life := by
  unfold State.coldRetained
  generalize List.range 16128 = xs
  rw [State.updLane_md, State.emit_md, State.mramWrite_life, State.mramWrite_life]
  exact foldl_life _ (fun s k => State.mramWrite_life _ _ _) _ _

@[simp] theorem State.warmRetained_life (s : State) (l : LaneId) :
    (State.warmRetained s l).md.life = s.md.life := by simp [State.warmRetained]

@[simp] theorem State.stationStep_life (s : State) (l : LaneId) (st : Nat) (new : Option (List Byte × Bool)) (part : Bool) :
    (State.stationStep s l st new part).md.life = s.md.life := by
  unfold State.stationStep
  (repeat' split) <;> simp

theorem execStationTimeout_life {l : LaneId} {st : Nat} {s s' : State} (h : execStationTimeout l st s = .next s') :
    s'.md.life = s.md.life := by
  unfold execStationTimeout at h
  dsimp only at h
  (repeat' split at h) <;> cases h <;> simp

/-! ### Rack.lean -/

@[simp] theorem State.rackCode_life (s : State) (c : Nat) : (State.rackCode s c).md.life = s.md.life := by simp [State.rackCode]

@[simp] theorem State.emptyStaged_life (s : State) : (State.emptyStaged s).md.life = s.md.life := by simp [State.emptyStaged]

@[simp] theorem State.stage_life (s : State) (src kind : Nat) (fromSd : Bool) :
    (State.stage s src kind fromSd).md.life = s.md.life := by simp [State.stage]

theorem execStageProgramFromHost_life {src : Nat} {s s' : State} (h : execStageProgramFromHost src s = .next s') :
    s'.md.life = s.md.life := by
  unfold execStageProgramFromHost at h
  cases h
  simp

theorem execStageProgramFromSd_life {src : Nat} {s s' : State} (h : execStageProgramFromSd src s = .next s') : s'.md.life = s.md.life := by
  unfold execStageProgramFromSd at h
  cases h
  simp

theorem execStageFirmwareFromHost_life {src : Nat} {s s' : State} (h : execStageFirmwareFromHost src s = .next s') :
    s'.md.life = s.md.life := by
  unfold execStageFirmwareFromHost at h
  cases h
  simp

theorem execStageFirmwareFromSd_life {src : Nat} {s s' : State} (h : execStageFirmwareFromSd src s = .next s') :
    s'.md.life = s.md.life := by
  unfold execStageFirmwareFromSd at h
  cases h
  simp

@[simp] theorem State.segment_life (s : State) (src : Nat) (data : List Byte) :
    (State.segment s src data).md.life = s.md.life := by simp [State.segment]

theorem execStagingSegmentWrite_life {src : Nat} {data : List Byte} {s s' : State} (h : execStagingSegmentWrite src data s = .next s') :
    s'.md.life = s.md.life := by
  unfold execStagingSegmentWrite at h
  cases h
  simp

@[simp] theorem State.copyFailed_life (s : State) (c : Nat) : (State.copyFailed s c).md.life = s.md.life := by simp [State.copyFailed]

@[simp] theorem State.stagingFailed_life (s : State) (b : List Byte) (c : Nat) :
    (State.stagingFailed s b c).md.life = s.md.life := by simp [State.stagingFailed]

@[simp] theorem State.loadBeside_life (s : State) (l : LaneId) (b : List Byte) :
    (State.loadBeside s l b).md.life = s.md.life := by simp [State.loadBeside]

@[simp] theorem State.stagingDone_life (s : State) (b : List Byte) :
    (State.stagingDone s b).md.life = s.md.life := by simp [State.stagingDone]

theorem execStagingComplete_life {card : Option SdCard} {s s' : State} (h : execStagingComplete card s = .next s') :
    s'.md.life = s.md.life := by
  unfold execStagingComplete at h
  dsimp only at h
  (repeat' split at h) <;> cases h <;> simp

@[simp] theorem State.requestSwitch_life (s : State) (src : Nat) :
    (State.requestSwitch s src).md.life = s.md.life := by simp [State.requestSwitch]

theorem execSwitchProgram_life {src : Nat} {s s' : State} (h : execSwitchProgram src s = .next s') : s'.md.life = s.md.life := by
  unfold execSwitchProgram at h
  cases h
  simp

@[simp] theorem State.gateSend_life (s : State) (l : LaneId) : (State.gateSend s l).md.life = s.md.life := by
  unfold State.gateSend
  (repeat' split) <;> simp

@[simp] theorem State.gateLeave_life (s : State) (l : LaneId) : (State.gateLeave s l).md.life = s.md.life := by
  unfold State.gateLeave
  (repeat' split) <;> simp

@[simp] theorem State.gateKeep_life (s : State) (l : LaneId) (b : List Byte) :
    (State.gateKeep s l b).md.life = s.md.life := by simp [State.gateKeep]

@[simp] theorem State.gateRead_life (s : State) (l : LaneId) (b : List Byte) :
    (State.gateRead s l b).md.life = s.md.life := by simp [State.gateRead]

theorem execGateMessageReceive_life {l : LaneId} {b : List Byte} {s s' : State} (h : execGateMessageReceive l b s = .next s') :
    s'.md.life = s.md.life := by
  unfold execGateMessageReceive at h
  dsimp only at h
  (repeat' split at h) <;> cases h <;> simp

@[simp] theorem State.switchGate_life (s : State) (edge : Nat) : (State.switchGate s edge).md.life = s.md.life := by
  unfold State.switchGate
  (repeat' split) <;> simp

@[simp] theorem State.switchRegs_life (s : State) (l : LaneId) (new : Prog) :
    (State.switchRegs s l new).md.life = s.md.life := by simp [State.switchRegs]

@[simp] theorem State.carryOver_life (s : State) (l : LaneId) : (State.carryOver s l).md.life = s.md.life := by
  unfold State.carryOver
  dsimp only
  (repeat' split) <;> simp

@[simp] theorem State.switchAtEdge_life (s : State) (l : LaneId) : (State.switchAtEdge s l).md.life = s.md.life := by
  unfold State.switchAtEdge
  (repeat' split) <;> simp

@[simp] theorem State.activateBank_life (s : State) (edge : Nat) : (State.activateBank s edge).md.life = s.md.life := by
  unfold State.activateBank
  (repeat' split) <;> simp

@[simp] theorem State.setSel_life (s : State) (i bank : Nat) : (State.setSel s i bank).md.life = s.md.life := by simp [State.setSel]

@[simp] theorem State.requestInstall_life (s : State) (src : Nat) :
    (State.requestInstall s src).md.life = s.md.life := by simp [State.requestInstall]

theorem execInstallInService_life {src : Nat} {s s' : State} (h : execInstallInService src s = .next s') : s'.md.life = s.md.life := by
  unfold execInstallInService at h
  cases h
  simp

@[simp] theorem State.beginRevert_life (s : State) (first : Nat) (code : Nat) (out : Bool) :
    (State.beginRevert s first code out).md.life = s.md.life := by
  unfold State.beginRevert
  dsimp only
  (repeat' split) <;> simp

theorem execInstallNextLane_life {s s' : State} (h : execInstallNextLane s = .next s') : s'.md.life = s.md.life := by
  unfold execInstallNextLane at h
  dsimp only at h
  (repeat' split at h) <;> cases h <;> simp

theorem execInstallAdmitTimeout_life {s s' : State} (h : execInstallAdmitTimeout s = .next s') : s'.md.life = s.md.life := by
  unfold execInstallAdmitTimeout at h
  dsimp only at h
  (repeat' split at h) <;> cases h <;> simp

theorem execHubRunningReport_life {l : LaneId} {s s' : State} (h : execHubRunningReport l s = .next s') : s'.md.life = s.md.life := by
  unfold execHubRunningReport at h
  dsimp only at h
  (repeat' split at h) <;> cases h <;> simp

theorem execHubRestartTimeout_life {s s' : State} (h : execHubRestartTimeout s = .next s') : s'.md.life = s.md.life := by
  unfold execHubRestartTimeout at h
  dsimp only at h
  (repeat' split at h) <;> cases h <;> simp

@[simp] theorem State.requestNextStart_life (s : State) (src : Nat) :
    (State.requestNextStart s src).md.life = s.md.life := by simp [State.requestNextStart]

theorem execInstallAtNextStart_life {src : Nat} {s s' : State} (h : execInstallAtNextStart src s = .next s') : s'.md.life = s.md.life := by
  unfold execInstallAtNextStart at h
  cases h
  simp

@[simp] theorem State.restoreSel_life (s : State) : (State.restoreSel s).md.life = s.md.life := by simp [State.restoreSel]

@[simp] theorem State.requestAbort_life (s : State) (src : Nat) : (State.requestAbort s src).md.life = s.md.life := by
  unfold State.requestAbort
  dsimp only
  (repeat' split) <;> simp

theorem execAbortRacking_life {src : Nat} {s s' : State} (h : execAbortRacking src s = .next s') : s'.md.life = s.md.life := by
  unfold execAbortRacking at h
  cases h
  simp

@[simp] theorem State.dropStaged_life (s : State) : (State.dropStaged s).md.life = s.md.life := by simp [State.dropStaged]

@[simp] theorem State.requestDiscard_life (s : State) (src : Nat) :
    (State.requestDiscard s src).md.life = s.md.life := by simp [State.requestDiscard]

theorem execDiscardStaged_life {src : Nat} {s s' : State} (h : execDiscardStaged src s = .next s') : s'.md.life = s.md.life := by
  unfold execDiscardStaged at h
  cases h
  simp

@[simp] theorem State.rackRequest_life (s : State) (src v : Nat) : (State.rackRequest s src v).md.life = s.md.life := by
  unfold State.rackRequest
  (repeat' split) <;> simp

/-! ### Can.lean -/

@[simp] theorem State.canUpd_life (s : State) (ch : Nat) (f : CanCh → CanCh) :
    (State.canUpd s ch f).md.life = s.md.life := by simp [State.canUpd]

@[simp] theorem State.canIntegrated_life (s : State) (ch : Nat) :
    (State.canIntegrated s ch).md.life = s.md.life := by simp [State.canIntegrated]

@[simp] theorem State.loadCan_life (s : State) (ch : Nat) : (State.loadCan s ch).md.life = s.md.life := by simp [State.loadCan]

@[simp] theorem State.recommitCan_life (s : State) (ch : Nat) : (State.recommitCan s ch).md.life = s.md.life := by simp [State.recommitCan]

@[simp] theorem State.ttShow_life (s : State) (ch cause : Nat) : (State.ttShow s ch cause).md.life = s.md.life := by simp [State.ttShow]

@[simp] theorem State.ttS1_life (s : State) (ch i : Nat) : (State.ttS1 s ch i).md.life = s.md.life := by simp [State.ttS1]

@[simp] theorem State.offWire_life (s : State) (c : Nat) : (State.offWire s c).md.life = s.md.life := by
  unfold State.offWire
  dsimp only
  (repeat' split) <;> simp

@[simp] theorem State.removeCancelled_life (s : State) (ch c : Nat) :
    (State.removeCancelled s ch c).md.life = s.md.life := by simp [State.removeCancelled]

@[simp] theorem State.wireFails_life (s : State) (ch : Nat) : (State.wireFails s ch).md.life = s.md.life := by
  unfold State.wireFails
  (repeat' split) <;> simp

@[simp] theorem State.canBusOff_life (s : State) (ch : Nat) : (State.canBusOff s ch).md.life = s.md.life := by simp [State.canBusOff]

@[simp] theorem State.ttStop_life (s : State) (ch cause : Nat) : (State.ttStop s ch cause).md.life = s.md.life := by simp [State.ttStop]

theorem execCanBusOff_life {ch : Nat} {s s' : State} (h : execCanBusOff ch s = .next s') : s'.md.life = s.md.life := by
  unfold execCanBusOff at h
  (repeat' split at h) <;> cases h <;> simp

@[simp] theorem State.canRecover_life (s : State) (ch : Nat) : (State.canRecover s ch).md.life = s.md.life := by simp [State.canRecover]

@[simp] theorem State.canHoldNow_life (s : State) : (State.canHoldNow s).md.life = s.md.life := by simp [State.canHoldNow]

@[simp] theorem State.canResume_life (s : State) (ch : Nat) : (State.canResume s ch).md.life = s.md.life := by simp [State.canResume]

theorem execCanHoldoffEnd_life {ch : Nat} {s s' : State} (h : execCanHoldoffEnd ch s = .next s') : s'.md.life = s.md.life := by
  unfold execCanHoldoffEnd at h
  (repeat' split at h) <;> cases h <;> simp

theorem execCanRecoveryComplete_life {ch ms : Nat} {s s' : State} (h : execCanRecoveryComplete ch ms s = .next s') :
    s'.md.life = s.md.life := by
  unfold execCanRecoveryComplete at h
  (repeat' split at h) <;> cases h <;> simp

@[simp] theorem State.canRelease_life (s : State) (src ch : Nat) :
    (State.canRelease s src ch).md.life = s.md.life := by simp [State.canRelease]

@[simp] theorem State.canStart_life (s : State) : (State.canStart s).md.life = s.md.life := by simp [State.canStart]

theorem execCanReleaseBlocked_life {src ch : Nat} {s s' : State} (h : execCanReleaseBlocked src ch s = .next s') :
    s'.md.life = s.md.life := by
  unfold execCanReleaseBlocked at h
  (repeat' split at h) <;> cases h <;> simp

theorem execCanRestrictedEnd_life {ch ms : Nat} {s s' : State} (h : execCanRestrictedEnd ch ms s = .next s') : s'.md.life = s.md.life := by
  unfold execCanRestrictedEnd at h
  (repeat' split at h) <;> cases h <;> simp

@[simp] theorem State.canGood_life (s : State) (ch : Nat) : (State.canGood s ch).md.life = s.md.life := by simp [State.canGood]

@[simp] theorem State.ttCycle_life (s : State) (ch cyc id role : Nat) :
    (State.ttCycle s ch cyc id role).md.life = s.md.life := by simp [State.ttCycle]

@[simp] theorem State.refArrives_life (s : State) (ch : Nat) (f : CanFrame) :
    (State.refArrives s ch f).md.life = s.md.life := by simp [State.refArrives]

theorem execCanFrameReceive_life {ch : Nat} {f : CanFrame} {s s' : State} (h : execCanFrameReceive ch f s = .next s') :
    s'.md.life = s.md.life := by
  unfold execCanFrameReceive at h
  dsimp only at h
  (repeat' split at h) <;> cases h <;> simp

theorem execCanTransmitStart_life {ch : Nat} {s s' : State} (h : execCanTransmitStart ch s = .next s') : s'.md.life = s.md.life := by
  unfold execCanTransmitStart at h
  dsimp only at h
  (repeat' split at h) <;> cases h <;> simp

theorem execCanArbitrationLost_life {ch : Nat} {s s' : State} (h : execCanArbitrationLost ch s = .next s') : s'.md.life = s.md.life := by
  unfold execCanArbitrationLost at h
  (repeat' split at h) <;> cases h <;> simp

@[simp] theorem State.canTxGood_life (s : State) (ch : Nat) : (State.canTxGood s ch).md.life = s.md.life := by simp [State.canTxGood]

theorem execCanTransmitComplete_life {ch : Nat} {s s' : State} (h : execCanTransmitComplete ch s = .next s') : s'.md.life = s.md.life := by
  unfold execCanTransmitComplete at h
  (repeat' split at h) <;> cases h <;> simp

@[simp] theorem State.canErrCount_life (s : State) (ch : Nat) (e : CanErr) : (State.canErrCount s ch e).md.life = s.md.life := by
  unfold State.canErrCount
  (repeat' split) <;> simp

@[simp] theorem State.canTxBad_life (s : State) (ch : Nat) : (State.canTxBad s ch).md.life = s.md.life := by simp [State.canTxBad]

@[simp] theorem State.retryItem_life (s : State) (ch c : Nat) : (State.retryItem s ch c).md.life = s.md.life := by simp [State.retryItem]

theorem execCanTransmitError_life {ch : Nat} {e : CanErr} {s s' : State} (h : execCanTransmitError ch e s = .next s') :
    s'.md.life = s.md.life := by
  unfold execCanTransmitError at h
  (repeat' split at h) <;> cases h <;> simp

@[simp] theorem State.cancelMailbox_life (s : State) (l : LaneId) (ch m : Nat) : (State.cancelMailbox s l ch m).md.life = s.md.life := by
  unfold State.cancelMailbox
  (repeat' split) <;> simp

@[simp] theorem State.txCancel_life (s : State) (l : LaneId) (ch v : Nat) :
    (State.txCancel s l ch v).md.life = s.md.life := by simp [State.txCancel]

theorem execCanTxcancelWrite_life {l : LaneId} {ch v : Nat} {s s' : State} (h : execCanTxcancelWrite l ch v s = .next s') :
    s'.md.life = s.md.life := by
  unfold execCanTxcancelWrite at h
  (repeat' split at h) <;> cases h <;> simp

@[simp] theorem execCanTxcancelWrite_life' (l : LaneId) (ch v : Nat) (s : State) : (nextOr s (execCanTxcancelWrite l ch v s)).md.life = s.md.life :=
  nextOr_life _ _ (fun _ h => execCanTxcancelWrite_life h)

@[simp] theorem State.sendRef_life (s : State) (ch : Nat) : (State.sendRef s ch).md.life = s.md.life := by simp [State.sendRef]

@[simp] theorem State.fireTrigger_life (s : State) (ch i : Nat) (free : Bool) : (State.fireTrigger s ch i free).md.life = s.md.life := by
  unfold State.fireTrigger
  dsimp only
  (repeat' split) <;> simp

theorem execCanTriggerFire_life {ch i : Nat} {free : Bool} {s s' : State} (h : execCanTriggerFire ch i free s = .next s') :
    s'.md.life = s.md.life := by
  unfold execCanTriggerFire at h
  (repeat' split at h) <;> cases h <;> simp

/-! ### Partners.lean -/

@[simp] theorem State.dropThrottled_life (s : State) (addr : List Byte) :
    (State.dropThrottled s addr).md.life = s.md.life := by simp [State.dropThrottled]

@[simp] theorem State.throttle_life (s : State) (p : Nat) : (State.throttle s p).md.life = s.md.life := by simp [State.throttle]

theorem execPartnerThrottle_life {p : Nat} {s s' : State} (h : execPartnerThrottle p s = .next s') : s'.md.life = s.md.life := by
  unfold execPartnerThrottle at h
  (repeat' split at h) <;> cases h <;> simp

@[simp] theorem State.clientViolation_life (s : State) (addr : List Byte) (code : Nat) (parts : List (Nat × Nat)) :
    (State.clientViolation s addr code parts).md.life = s.md.life := by simp [State.clientViolation]

theorem execThrottleEnd_life {p : Nat} {s s' : State} (h : execThrottleEnd p s = .next s') : s'.md.life = s.md.life := by
  unfold execThrottleEnd at h
  (repeat' split at h) <;> cases h <;> simp

theorem execTokenRefill_life {p : Nat} {s s' : State} (h : execTokenRefill p s = .next s') : s'.md.life = s.md.life := by
  unfold execTokenRefill at h
  dsimp only at h
  (repeat' split at h) <;> cases h <;> simp

theorem execPartnerSlotFree_life {p : Nat} {s s' : State} (h : execPartnerSlotFree p s = .next s') : s'.md.life = s.md.life := by
  unfold execPartnerSlotFree at h
  dsimp only at h
  (repeat' split at h) <;> cases h <;> simp

/-! ### Net.lean -/

@[simp] theorem State.portUpd_life (s : State) (p : Nat) (f : PortSt → PortSt) :
    (State.portUpd s p f).md.life = s.md.life := by simp [State.portUpd]

@[simp] theorem State.portStateSet_life (s : State) (p n : Nat) :
    (State.portStateSet s p n).md.life = s.md.life := by simp [State.portStateSet]

@[simp] theorem State.listen_life (s : State) (p : Nat) (after : Bool) :
    (State.listen s p after).md.life = s.md.life := by simp [State.listen]

@[simp] theorem State.otherBankSet_life (s : State) (t : List Byte) :
    (State.otherBankSet s t).md.life = s.md.life := by simp [State.otherBankSet]

@[simp] theorem State.quarantine_life (s : State) (p : Nat) (k : Viol) :
    (State.quarantine s p k).md.life = s.md.life := by simp [State.quarantine]

@[simp] theorem State.portViol_life (s : State) (p : Nat) (k : Viol) (w : Nat) :
    (State.portViol s p k w).md.life = s.md.life := by simp [State.portViol]

@[simp] theorem State.holdEnd_life (s : State) (p : Nat) : (State.holdEnd s p).md.life = s.md.life := by simp [State.holdEnd]

theorem execQuarantineHoldEnd_life {p : Nat} {s s' : State} (h : execQuarantineHoldEnd p s = .next s') : s'.md.life = s.md.life := by
  unfold execQuarantineHoldEnd at h
  (repeat' split at h) <;> cases h <;> simp

@[simp] theorem State.releaseHeld_life (s : State) (mask : Nat) :
    (State.releaseHeld s mask).md.life = s.md.life := by simp [State.releaseHeld]

theorem execPortReleaseHeld_life {src mask : Nat} {s s' : State} (h : execPortReleaseHeld src mask s = .next s') :
    s'.md.life = s.md.life := by
  unfold execPortReleaseHeld at h
  (repeat' split at h) <;> cases h <;> simp

@[simp] theorem State.ringSplit_life (s : State) (cause looper : Nat) :
    (State.ringSplit s cause looper).md.life = s.md.life := by simp [State.ringSplit]

@[simp] theorem State.ringLinks_life (s : State) : (State.ringLinks s).md.life = s.md.life := by simp [State.ringLinks]

theorem execPortLinkUp_life {p speed : Nat} {s s' : State} (h : execPortLinkUp p speed s = .next s') : s'.md.life = s.md.life := by
  unfold execPortLinkUp at h
  dsimp only at h
  (repeat' split at h) <;> cases h <;> simp

@[simp] theorem State.portDown_life (s : State) (p : Nat) : (State.portDown s p).md.life = s.md.life := by simp [State.portDown]

theorem execPortLinkDown_life {p : Nat} {s s' : State} (h : execPortLinkDown p s = .next s') : s'.md.life = s.md.life := by
  unfold execPortLinkDown at h
  (repeat' split at h) <;> cases h <;> simp

@[simp] theorem State.toEngine_life (s : State) (p h : Nat) (b : List Byte) : (State.toEngine s p h b).md.life = s.md.life := by
  unfold State.toEngine
  (repeat' split) <;> simp

@[simp] theorem State.recoverStep_life (s : State) (b : List Byte) : (State.recoverStep s b).1.md.life = s.md.life := by
  unfold State.recoverStep
  dsimp only
  (repeat' split) <;> simp

@[simp] theorem State.rtagNext_life (s : State) (h : Nat) : (State.rtagNext s h).2.md.life = s.md.life := by simp [State.rtagNext]

@[simp] theorem State.forward_life (s : State) (p : Nat) (h : Option Nat) (sfd : Int) (full : Nat) (b : List Byte) :
    (State.forward s p h sfd full b).md.life = s.md.life := by
  unfold State.forward
  dsimp only
  (repeat' split) <;> simp

theorem execFrameReceive_life {p : Nat} {f : EthFrame} {s s' : State} (h : execFrameReceive p f s = .next s') : s'.md.life = s.md.life := by
  suffices H : ∀ t, execFrameReceive p f s = .next t → t.md.life = s.md.life from H s' h
  clear h s'
  unfold execFrameReceive
  extract_lets b type len h hv was n
  refine out_ite (next_all rfl) (out_ite (next_all ?_) (out_ite (out_ite (next_all ?_) (out_ite (next_all ?_) (next_all ?_)))
    (out_ite (next_all ?_) (out_ite (next_all rfl) ?_))))
  · split <;> simp
  · simp
  · simp
  · simp
  · simp
  · generalize s.verdictOf p h hv f = v
    obtain ⟨k | ⟨near, ofs⟩, w⟩ := v
    · exact next_all (by simp)
    · dsimp -zeta only
      extract_lets bytes s2 first s3 s4
      have e2 : s2.md.life = s.md.life := by simp only [s2, State.portUpd_life]
      have e4 : s4.md.life = s2.md.life := by
        simp only [s4]
        split
        · split <;> simp [s3]
        · rfl
      refine out_ite (next_all e2) (out_ite (next_all ?_) (out_ite (next_all ?_) (next_all ?_)))
      · rw [State.hcount_md, e4, e2]
      · rw [State.hcount_md, e4, e2]
      · rw [State.forward_life, e4, e2]

theorem execFrameEgress_life {p now : Nat} {s s' : State} (h : execFrameEgress p now s = .next s') : s'.md.life = s.md.life := by
  unfold execFrameEgress at h
  dsimp only at h
  (repeat' split at h) <;> cases h <;> simp

@[simp] theorem State.bankSwitch_life (s : State) : (State.bankSwitch s).md.life = s.md.life := by simp [State.bankSwitch]

theorem execTrellisBankSwitch_life {s s' : State} (h : execTrellisBankSwitch s = .next s') : s'.md.life = s.md.life := by
  unfold execTrellisBankSwitch at h
  (repeat' split at h) <;> cases h <;> simp

@[simp] theorem State.portMatrix_life (s : State) (p : Nat) : (State.portMatrix s p).md.life = s.md.life := by simp [State.portMatrix]

@[simp] theorem State.trellisEdge_life (s : State) (n : Nat) : (State.trellisEdge s n).md.life = s.md.life := by simp [State.trellisEdge]

@[simp] theorem State.portKeep_life (s : State) (p : Nat) : (State.portKeep s p).md.life = s.md.life := by simp [State.portKeep]

@[simp] theorem State.loadNetRegs_life (s : State) : s.loadNetRegs.md.life = s.md.life := by
  unfold State.loadNetRegs
  extract_lets s1 s2 s3 n s4 s5
  have h1 : s1.md = s.md := by simp only [s1, State.hfSet_md]
  have h2 : s2.md = s1.md := by simp only [s2, State.hfSet_md]
  have h3 : s3.md = s2.md := by simp only [s3, State.hfSet_md]
  have h4 : s4.md = s3.md := by simp only [s4, State.hfSet_md]
  have h5 : s5.md.life = s4.md.life := foldl_life _ (fun s i => by rw [State.hfSet_md]) _ _
  simp only [State.hfSet_md]
  rw [h5, h4, h3, h2, h1]

@[simp] theorem State.loadNetCfg_life (s : State) : s.loadNetCfg.md.life = s.md.life := by
  unfold State.loadNetCfg
  rw [State.ringLinks_life, foldl_life _ State.portKeep_life, State.loadNetRegs_life]

@[simp] theorem State.newTrellis_life (s : State) (t : List Byte) (b : Nat) :
    (State.newTrellis s t b).md.life = s.md.life := by simp [State.newTrellis]

@[simp] theorem State.dropClaims_life (s : State) : (State.dropClaims s).md.life = s.md.life := by simp [State.dropClaims]

@[simp] theorem State.netStart_life (s : State) : (State.netStart s).md.life = s.md.life := by simp [State.netStart]

@[simp] theorem State.startNet_life (s : State) : (State.startNet s).md.life = s.md.life := by simp [State.startNet]

@[simp] theorem State.putWindow_life (s : State) (b w : Nat) (e : Win) :
    (State.putWindow s b w e).md.life = s.md.life := by simp [State.putWindow]

@[simp] theorem State.claim_life (s : State) (v : Nat) : (State.claim s v).1.md.life = s.md.life := by
  unfold State.claim
  dsimp only
  (repeat' split) <;> simp

@[simp] theorem State.releaseWindow_life (s : State) (v : Nat) : (State.releaseWindow s v).1.md.life = s.md.life := by
  unfold State.releaseWindow
  dsimp only
  (repeat' split) <;> simp

theorem execWindowClaim_life {src v : Nat} {s s' : State} (h : execWindowClaim src v s = .next s') : s'.md.life = s.md.life := by
  unfold execWindowClaim at h
  (repeat' split at h) <;> cases h <;> simp

theorem execWindowRelease_life {src v : Nat} {s s' : State} (h : execWindowRelease src v s = .next s') : s'.md.life = s.md.life := by
  unfold execWindowRelease at h
  (repeat' split at h) <;> cases h <;> simp

@[simp] theorem State.buildFrame_life (s : State) (h : Nat) (item : List Byte) : (State.buildFrame s h item).1.md.life = s.md.life := by
  unfold State.buildFrame
  dsimp only
  (repeat' split) <;> simp

@[simp] theorem State.hrvTake_life (s : State) (k : Nat) : (State.hrvTake s k).md.life = s.md.life := by
  unfold State.hrvTake
  (repeat' split) <;> simp

@[simp] theorem State.hrvSend_life (s : State) (dir pass frame : Nat) (split : Bool) :
    (State.hrvSend s dir pass frame split).md.life = s.md.life := by simp [State.hrvSend]

@[simp] theorem State.hrvMismatch_life (s : State) (k : Nat) : (State.hrvMismatch s k).md.life = s.md.life := by
  unfold State.hrvMismatch
  (repeat' split) <;> simp

theorem execHarvestPassSend_life {pass : Nat} {s s' : State} (h : execHarvestPassSend pass s = .next s') : s'.md.life = s.md.life := by
  unfold execHarvestPassSend at h
  dsimp only at h
  (repeat' split at h) <;> cases h <;> simp

@[simp] theorem State.hrvStationMissing_life (s : State) (k : Nat) :
    (State.hrvStationMissing s k).md.life = s.md.life := by simp [State.hrvStationMissing]

theorem execHarvestStationMissing_life {k : Nat} {s s' : State} (h : execHarvestStationMissing k s = .next s') :
    s'.md.life = s.md.life := by
  unfold execHarvestStationMissing at h
  (repeat' split at h) <;> cases h <;> simp

@[simp] theorem State.ringNormal_life (s : State) : (State.ringNormal s).md.life = s.md.life := by simp [State.ringNormal]

theorem execHarvestRingNormal_life {s s' : State} (h : execHarvestRingNormal s = .next s') : s'.md.life = s.md.life := by
  unfold execHarvestRingNormal at h
  (repeat' split at h) <;> cases h <;> simp

@[simp] theorem State.hrvDeliver_life (s : State) : s.hrvDeliver.md.life = s.md.life := by
  unfold State.hrvDeliver
  rw [foldl_life]
  intro s i
  split <;> simp

@[simp] theorem State.passOver_life (s : State) (pass : Nat) : (s.passOver pass).md.life = s.md.life := by
  unfold State.passOver
  split
  · rfl
  · dsimp only
    rw [foldl_life]
    · simp
    · intro s i
      try dsimp only
      split
      · rfl
      · split <;> simp

@[simp] theorem State.hrvStation_life (s : State) (dir : Nat) (b : List Byte) (k off : Nat) :
    (State.hrvStation s dir b k off).md.life = s.md.life := by
  unfold State.hrvStation
  dsimp only
  (repeat' split) <;> simp

@[simp] theorem State.hrvStations_life (s : State) (dir : Nat) (b : List Byte) : (s.hrvStations dir b).md.life = s.md.life := by
  unfold State.hrvStations
  generalize List.range (s.hf HRV_CFG_N) = xs
  have h : ∀ (xs : List Nat) (a : State × Nat), (xs.foldl (fun (a : State × Nat) i =>
      (a.1.hrvStation dir b (i + 1) a.2, a.2 + 12 + a.1.hrvOutLen (i + 1) + a.1.hrvInLen (i + 1))) a).1.md.life = a.1.md.life := by
    intro xs
    induction xs with
    | nil => intro a; rfl
    | cons x xs ih => intro a; rw [List.foldl_cons, ih]; simp
  exact h _ _

@[simp] theorem State.passBack_life (s : State) (pass dir : Nat) :
    (State.passBack s pass dir).md.life = s.md.life := by simp [State.passBack]

@[simp] theorem State.passLost_life (s : State) (pass dir : Nat) :
    (State.passLost s pass dir).md.life = s.md.life := by simp [State.passLost]

theorem execHarvestFrameReturn_life {port : Nat} {b : List Byte} {ok late : Bool} {s s' : State} (h : execHarvestFrameReturn port b ok late s = .next s') :
    s'.md.life = s.md.life := by
  suffices H : ∀ t, execHarvestFrameReturn port b ok late s = .next t → t.md.life = s.md.life from H s' h
  clear h s'
  unfold execHarvestFrameReturn
  extract_lets dir pass loop looper s1 s2 h1 back ended src s4 s3
  have e1 : s1.md.life = s.md.life := by simp only [s1, State.hfSet_md]
  have e2 : s2.md.life = s1.md.life := by simp only [s2, State.passBack_life, State.hrvStations_life]
  clear_value s2
  refine out_ite ?_ (out_ite ?_ ?_)
  · intro t h; cases h; rfl
  · intro t h; cases h; exact State.passLost_life _ _ _
  · intro t h
    injection h with h
    rw [← h, State.passOver_life, ← e1, ← e2]
    simp only [s3]
    split
    · rw [State.ringSplit_life]
    · split
      · rw [State.ringNormal_life]
      · rfl

theorem execHarvestPassLost_life {pass dir : Nat} {s s' : State} (h : execHarvestPassLost pass dir s = .next s') :
    s'.md.life = s.md.life := by
  unfold execHarvestPassLost at h
  (repeat' split at h) <;> cases h <;> simp

@[simp] theorem State.sendFrame_life (s : State) (h now : Nat) (item : List Byte) (bad : Bool) :
    (State.sendFrame s h now item bad).1.md.life = s.md.life := by
  unfold State.sendFrame
  dsimp only
  (repeat' split) <;> simp

theorem execSinkTransmitOpportunity_life {c now : Nat} {ok : Bool} {s s' : State} (h : execSinkTransmitOpportunity c now ok s = .next s') :
    s'.md.life = s.md.life := by
  unfold execSinkTransmitOpportunity at h
  dsimp only at h
  (repeat' split at h) <;> cases h <;> simp

/-! ### SafetyLayer.lean -/

@[simp] theorem State.connSet_life (s : State) (l : LaneId) (k : Nat) (x : Conn) :
    (State.connSet s l k x).md.life = s.md.life := by simp [State.connSet]

@[simp] theorem State.connEvt_life (s : State) (l : LaneId) (k code : Nat) (parts : List (Nat × Nat)) :
    (State.connEvt s l k code parts).md.life = s.md.life := by simp [State.connEvt]

@[simp] theorem State.connState_life (s : State) (l : LaneId) (k st cause : Nat) :
    (State.connState s l k st cause).md.life = s.md.life := by simp [State.connState]

@[simp] theorem State.connErr_life (s : State) (l : LaneId) (k code cause : Nat) (parts : List (Nat × Nat)) :
    (State.connErr s l k code cause parts).md.life = s.md.life := by simp [State.connErr]

@[simp] theorem State.corkSafe_life (s : State) (l : LaneId) (k : Nat) (t : Trailer) : (State.corkSafe s l k t).1.md.life = s.md.life := by
  unfold State.corkSafe
  (repeat' split) <;> simp

@[simp] theorem State.corkItem_life (s : State) (l : LaneId) (k : Nat) (tel : List Byte) :
    (State.corkItem s l k tel).1.md.life = s.md.life := by
  unfold State.corkItem
  dsimp only
  (repeat' split) <;> simp

@[simp] theorem State.sdtItem_life (s : State) (l : LaneId) (k : Nat) (tel : List Byte) :
    (State.sdtItem s l k tel).1.md.life = s.md.life := by
  unfold State.sdtItem
  dsimp only
  (repeat' split) <;> simp

@[simp] theorem State.stationItem_life (s : State) (l : LaneId) (st c : Nat) : (State.stationItem s l st c).1.md.life = s.md.life := by
  unfold State.stationItem
  (repeat' split) <;> simp

@[simp] theorem State.stationItems_life (s : State) (l : LaneId) (st : Nat) (cs : List Nat) :
    (s.stationItems l st cs).1.md.life = s.md.life := by
  induction cs generalizing s with
  | nil => rfl
  | cons c cs ih => simp [State.stationItems, ih]

@[simp] theorem State.stationUpdate_life (s : State) (l : LaneId) (st : Nat) : (s.stationUpdate l st).md.life = s.md.life := by
  unfold State.stationUpdate
  try dsimp only
  repeat' split
  all_goals simp

@[simp] theorem State.stationsUpdate_life (s : State) (l : LaneId) :
    (State.stationsUpdate s l).md.life = s.md.life := by simp [State.stationsUpdate]

@[simp] theorem State.freshStations_life (s : State) (l : LaneId) :
    (State.freshStations s l).md.life = s.md.life := by simp [State.freshStations]

@[simp] theorem State.corkProduce_life (s : State) (l : LaneId) (k : Nat) (passive : Bool) (pl : List Byte) :
    (State.corkProduce s l k passive pl).1.md.life = s.md.life := by
  unfold State.corkProduce
  (repeat' split) <;> simp

@[simp] theorem State.produce_life (s : State) (l : LaneId) (c : Nat) (passive : Bool) (pl : List Byte) :
    (State.produce s l c passive pl).1.md.life = s.md.life := by
  unfold State.produce
  (repeat' split) <;> simp

@[simp] theorem State.outBank_life (s : State) (l : LaneId) (c : Nat) (item : Option (List Byte)) :
    (State.outBank s l c item).md.life = s.md.life := by
  unfold State.outBank
  (repeat' split) <;> simp

@[simp] theorem State.stationOut_life (s : State) (l : LaneId) (passive silent write : Bool) (sent : List (Nat × List Byte)) (c : Nat) :
    (State.stationOut s l passive silent write sent c).md.life = s.md.life := by
  unfold State.stationOut
  dsimp only
  (repeat' split) <;> simp

@[simp] theorem State.stationOutputs_life (s : State) (l : LaneId) (passive silent : Bool) :
    (State.stationOutputs s l passive silent).md.life = s.md.life := by simp [State.stationOutputs]

@[simp] theorem State.connReset_life (s : State) (l : LaneId) (k src : Nat) : (State.connReset s l k src).1.md.life = s.md.life := by
  unfold State.connReset
  (repeat' split) <;> simp

theorem execConnectionReset_life {src k : Nat} {s s' : State} (h : execConnectionReset src k s = .next s') : s'.md.life = s.md.life := by
  unfold execConnectionReset at h
  (repeat' split at h) <;> cases h <;> simp

theorem execSlyCrcGo_life {l : LaneId} {core v : Nat} {s s' : State} (h : execSlyCrcGo l core v s = .next s') : s'.md.life = s.md.life := by
  unfold execSlyCrcGo at h
  (repeat' split at h) <;> cases h <;> simp

@[simp] theorem execSlyCrcGo_life' (l : LaneId) (core v : Nat) (s : State) : (nextOr s (execSlyCrcGo l core v s)).md.life = s.md.life :=
  nextOr_life _ _ (fun _ h => execSlyCrcGo_life h)

theorem execSlyCrcDone_life {l : LaneId} {s s' : State} (h : execSlyCrcDone l s = .next s') : s'.md.life = s.md.life := by
  unfold execSlyCrcDone at h
  dsimp only at h
  (repeat' split at h) <;> cases h <;> simp

/-! ### Field.lean -/

theorem execInputThresholdCross_life {l : LaneId} {i mv : Nat} {s s' : State} (h : execInputThresholdCross l i mv s = .next s') :
    s'.md.life = s.md.life := by
  unfold execInputThresholdCross at h
  (repeat' split at h) <;> cases h <;> simp

theorem execInputFilterChange_life {l : LaneId} {i held at_ : Nat} {s s' : State} (h : execInputFilterChange l i held at_ s = .next s') :
    s'.md.life = s.md.life := by
  unfold execInputFilterChange at h
  dsimp only at h
  (repeat' split at h) <;> cases h <;> simp

@[simp] theorem State.frontLatch_life (s : State) (l : LaneId) (cycle : Nat) :
    (State.frontLatch s l cycle).md.life = s.md.life := by simp [State.frontLatch]

@[simp] theorem State.dropUnused_life (s : State) (l : LaneId) : (State.dropUnused s l).md.life = s.md.life := by simp [State.dropUnused]

@[simp] theorem State.loadField_life (s : State) (l : LaneId) : (State.loadField s l).md.life = s.md.life := by simp [State.loadField]

@[simp] theorem State.clearFindings_life (s : State) (l : LaneId) :
    (State.clearFindings s l).md.life = s.md.life := by simp [State.clearFindings]

@[simp] theorem State.driveSwitches_life (s : State) (i : VoterId) (edge : Nat) :
    (State.driveSwitches s i edge).md.life = s.md.life := by simp [State.driveSwitches]

theorem execDarkPulseStart_life {d : Side} {o t : Nat} {s s' : State} (h : execDarkPulseStart d o t s = .next s') :
    s'.md.life = s.md.life := by
  unfold execDarkPulseStart at h
  dsimp only at h
  (repeat' split at h) <;> cases h <;> simp

theorem execDarkPulseEnd_life {d : Side} {o : Nat} {s s' : State} (h : execDarkPulseEnd d o s = .next s') : s'.md.life = s.md.life := by
  unfold execDarkPulseEnd at h
  cases h
  simp

theorem execSwitchOverloadTrip_life {d : Side} {o : Nat} {s s' : State} (h : execSwitchOverloadTrip d o s = .next s') :
    s'.md.life = s.md.life := by
  unfold execSwitchOverloadTrip at h
  (repeat' split at h) <;> cases h <;> simp

@[simp] theorem State.lineDrop_life (s : State) (i : VoterId) : (State.lineDrop s i).md.life = s.md.life := by simp [State.lineDrop]

theorem execVoterSilenceTimeout_life {i : VoterId} {us : Nat} {s s' : State} (h : execVoterSilenceTimeout i us s = .next s') :
    s'.md.life = s.md.life := by
  unfold execVoterSilenceTimeout at h
  (repeat' split at h) <;> cases h <;> simp

theorem execOscillatorMonitorFault_life {i : VoterId} {s s' : State} (h : execOscillatorMonitorFault i s = .next s') :
    s'.md.life = s.md.life := by
  unfold execOscillatorMonitorFault at h
  (repeat' split at h) <;> cases h <;> simp

@[simp] theorem State.switchFault_life (s : State) (l : LaneId) (d : Side) (o kind : Nat) :
    (State.switchFault s l d o kind).md.life = s.md.life := by simp [State.switchFault]

@[simp] theorem State.stuckCheck_life (s : State) (l : LaneId) (t : Nat) :
    (State.stuckCheck s l t).md.life = s.md.life := by simp [State.stuckCheck]

theorem execReadbackChange_life {l : LaneId} {hs ls oc t : Nat} {s s' : State} (h : execReadbackChange l hs ls oc t s = .next s') :
    s'.md.life = s.md.life := by
  unfold execReadbackChange at h
  (repeat' split at h) <;> cases h <;> simp

theorem execDarkSlotCheck_life {l : LaneId} {d : Side} {o t : Nat} {s s' : State} (h : execDarkSlotCheck l d o t s = .next s') :
    s'.md.life = s.md.life := by
  unfold execDarkSlotCheck at h
  dsimp only at h
  (repeat' split at h) <;> cases h <;> simp

@[simp] theorem State.frontEdge_life (s : State) (l : LaneId) : (State.frontEdge s l).md.life = s.md.life := by simp [State.frontEdge]

@[simp] theorem State.writeDiag_life (s : State) (l : LaneId) : (State.writeDiag s l).md.life = s.md.life := by simp [State.writeDiag]

@[simp] theorem State.outputLatch_life (s : State) (l : LaneId) : (s.outputLatch l).md.life = s.md.life := by
  unfold State.outputLatch
  split
  · rfl
  · dsimp only
    rw [foldl_life, foldl_life]
    · simp
    · intro s p
      try dsimp only
      split
      · split <;> simp
      · rfl
    · intro s o
      try dsimp only
      split <;> simp

@[simp] theorem State.brakeCount_life (s : State) (l : LaneId) : (State.brakeCount s l).md.life = s.md.life := by simp [State.brakeCount]

theorem execBrakeCurrentOutOfRange_life {l : LaneId} {s s' : State} (h : execBrakeCurrentOutOfRange l s = .next s') :
    s'.md.life = s.md.life := by
  unfold execBrakeCurrentOutOfRange at h
  dsimp only at h
  (repeat' split at h) <;> cases h <;> simp

@[simp] theorem State.showProof_life (s : State) (l : LaneId) : (State.showProof s l).md.life = s.md.life := by simp [State.showProof]

@[simp] theorem State.showField_life (s : State) (l : LaneId) : (State.showField s l).md.life = s.md.life := by simp [State.showField]

@[simp] theorem State.proofResult_life (s : State) (fail : Nat) :
    (State.proofResult s fail).md.life = s.md.life := by simp [State.proofResult]

@[simp] theorem State.proofTest_life (s : State) (rs : List (Bool × Bool × Nat)) : (State.proofTest s rs).1.md.life = s.md.life := by
  unfold State.proofTest
  (repeat' split) <;> simp

theorem execBrakeProofTest_life {src : Nat} {rs : List (Bool × Bool × Nat)} {s s' : State} (h : execBrakeProofTest src rs s = .next s') :
    s'.md.life = s.md.life := by
  unfold execBrakeProofTest at h
  (repeat' split at h) <;> cases h <;> simp

theorem execProofTestOverdue_life {s s' : State} (h : execProofTestOverdue s = .next s') : s'.md.life = s.md.life := by
  unfold execProofTestOverdue at h
  (repeat' split at h) <;> cases h <;> simp

theorem execResetInputRise_life {low : Nat} {s s' : State} (h : execResetInputRise low s = .next s') : s'.md.life = s.md.life := by
  unfold execResetInputRise at h
  (repeat' split at h) <;> cases h <;> simp

theorem execResetHeldTimeout_life {s s' : State} (h : execResetHeldTimeout s = .next s') : s'.md.life = s.md.life := by
  unfold execResetHeldTimeout at h
  (repeat' split at h) <;> cases h <;> simp

/-! ### Cooper.lean -/

@[simp] theorem State.cooStart_life (s : State) (l : LaneId) (set blocks : Nat) :
    (State.cooStart s l set blocks).md.life = s.md.life := by simp [State.cooStart]

theorem execCooperGo_life {l : LaneId} {core v : Nat} {s s' : State} (h : execCooperGo l core v s = .next s') : s'.md.life = s.md.life := by
  unfold execCooperGo at h
  dsimp only at h
  (repeat' split at h) <;> cases h <;> simp

@[simp] theorem execCooperGo_life' (l : LaneId) (core v : Nat) (s : State) : (nextOr s (execCooperGo l core v s)).md.life = s.md.life :=
  nextOr_life _ _ (fun _ h => execCooperGo_life h)

@[simp] theorem State.cooStop_life (s : State) (l : LaneId) : (State.cooStop s l).md.life = s.md.life := by simp [State.cooStop]

theorem execCooperStop_life {l : LaneId} {core v : Nat} {s s' : State} (h : execCooperStop l core v s = .next s') :
    s'.md.life = s.md.life := by
  unfold execCooperStop at h
  (repeat' split at h) <;> cases h <;> simp

@[simp] theorem execCooperStop_life' (l : LaneId) (core v : Nat) (s : State) : (nextOr s (execCooperStop l core v s)).md.life = s.md.life :=
  nextOr_life _ _ (fun _ h => execCooperStop_life h)

@[simp] theorem State.repairRows_life (s : State) (l : LaneId) (ks : List Nat) (rs : List (Nat × Nat)) :
    (s.repairRows l ks rs).1.md.life = s.md.life := by
  induction rs generalizing s with
  | nil => rfl
  | cons x rs ih =>
    obtain ⟨a, r⟩ := x
    unfold State.repairRows
    split
    · exact ih s
    · split
      · dsimp only
        rw [ih]
        simp
      · dsimp only
        rw [ih]
        simp

@[simp] theorem State.failLog_life (s : State) (l : LaneId) (fs : List (Nat × Nat × Nat × Nat)) :
    (State.failLog s l fs).md.life = s.md.life := by simp [State.failLog]

@[simp] theorem State.showSpares_life (s : State) (l : LaneId) : (State.showSpares s l).md.life = s.md.life := by simp [State.showSpares]

@[simp] theorem State.cooEnd_life (s : State) (l : LaneId) (r : CooperRun) : (s.cooEnd l r).md.life = s.md.life := by
  unfold State.cooEnd
  extract_lets set early ks ended ran fails s0
  have h0 : (if set = 5 then (s0, (failRows fails []).map (·.1)) else s0.repairRows l ran (failRows fails [])).1.md.life = s.md.life := by
    split <;> simp [s0]
  generalize (if set = 5 then (s0, (failRows fails []).map (·.1)) else s0.repairRows l ran (failRows fails [])) = q at h0 ⊢
  obtain ⟨s0, bad⟩ := q
  dsimp -zeta only at h0 ⊢
  extract_lets bad failed s1 s2 first s3 pass ms s4 s5 s6 s7 s8 s9 s10 s11 s12 s13 s14 s15 s16
  have h1 : s1.md.life = s0.md.life := by simp [s1]
  have h2 : s2.md.life = s1.md.life := by simp only [s2]; split <;> simp
  have h3 : s3.md.life = s2.md.life := foldl_life _ (fun s k => by simp) _ _
  have h4 : s11.md = s3.md := by simp only [s11, s10, s9, s8, s7, s6, s5, s4, State.lfSet_md]
  have h5 : s12.md.life = s11.md.life := by simp only [s12]; split <;> simp
  have h6 : s14.md.life = s12.md.life := by simp [s14, s13]
  have h7 : s15.md.life = s14.md.life := by simp [s15]
  have h8 : s16.md.life = s15.md.life := by simp only [s16]; split <;> simp
  rw [← h0, ← h1, ← h2, ← h3, ← h4, ← h5, ← h6, ← h7, ← h8]
  split <;> simp

@[simp] theorem State.newFloor_life (s : State) (l : LaneId) (vmin : Nat) :
    (State.newFloor s l vmin).md.life = s.md.life := by simp [State.newFloor]

@[simp] theorem State.mapAppend_life (s : State) (e : List Byte) : (State.mapAppend s e).md.life = s.md.life := by simp [State.mapAppend]

@[simp] theorem State.loadRepairs_life (s : State) (l : LaneId) : (State.loadRepairs s l).md.life = s.md.life := by simp [State.loadRepairs]

theorem execRepairEntrySubmit_life {src : Nat} {e : List Byte} {s s' : State} (h : execRepairEntrySubmit src e s = .next s') :
    s'.md.life = s.md.life := by
  unfold execRepairEntrySubmit at h
  (repeat' split at h) <;> cases h <;> simp

@[simp] theorem State.replicas_life (s : State) (l : LaneId) (cpr : List Int) :
    (State.replicas s l cpr).md.life = s.md.life := by simp [State.replicas]

@[simp] theorem State.showVmax_life (s : State) (l : LaneId) (cpr : List Int) :
    (State.showVmax s l cpr).md.life = s.md.life := by simp [State.showVmax]

theorem execAvsRaise_life {l : LaneId} {cpr : List Int} {s s' : State} (h : execAvsRaise l cpr s = .next s') : s'.md.life = s.md.life := by
  unfold execAvsRaise at h
  (repeat' split at h) <;> cases h <;> simp

theorem execAvsLower_life {l : LaneId} {cpr : List Int} {s s' : State} (h : execAvsLower l cpr s = .next s') : s'.md.life = s.md.life := by
  unfold execAvsLower at h
  (repeat' split at h) <;> cases h <;> simp

theorem execFmaxProjection_life {l : LaneId} {slack tj : Int} {s s' : State} (h : execFmaxProjection l slack tj s = .next s') :
    s'.md.life = s.md.life := by
  unfold execFmaxProjection at h
  dsimp only at h
  (repeat' split at h) <;> cases h <;> simp

theorem execFAllowLower_life {l : LaneId} {s s' : State} (h : execFAllowLower l s = .next s') : s'.md.life = s.md.life := by
  unfold execFAllowLower at h
  (repeat' split at h) <;> cases h <;> simp

theorem execAgeingReport_life {l : LaneId} {s s' : State} (h : execAgeingReport l s = .next s') : s'.md.life = s.md.life := by
  unfold execAgeingReport at h
  dsimp only at h
  (repeat' split at h) <;> cases h <;> simp

@[simp] theorem State.replanEdge_life (s : State) (edge : Nat) : (State.replanEdge s edge).md.life = s.md.life := by
  unfold State.replanEdge
  (repeat' split) <;> simp

@[simp] theorem State.reproof_life (s : State) (l : LaneId) : (State.reproof s l).md.life = s.md.life := by
  unfold State.reproof
  (repeat' split) <;> simp

@[simp] theorem State.sendProof_life (s : State) (l : LaneId) : (State.sendProof s l).md.life = s.md.life := by
  unfold State.sendProof
  (repeat' split) <;> simp

@[simp] theorem State.setClock_life (s : State) (l : LaneId) (code : Nat) :
    (State.setClock s l code).md.life = s.md.life := by simp [State.setClock]

@[simp] theorem State.clockMove_life (s : State) (l : LaneId) : (State.clockMove s l).md.life = s.md.life := by
  unfold State.clockMove
  (repeat' split) <;> simp

@[simp] theorem State.startClock_life (s : State) (passed : Nat) :
    (State.startClock s passed).md.life = s.md.life := by simp [State.startClock]

@[simp] theorem State.ageAppend_life (s : State) (b : List Byte) : (State.ageAppend s b).md.life = s.md.life := by simp [State.ageAppend]

theorem execAgeingRecordSubmit_life {src : Nat} {b : List Byte} {s s' : State} (h : execAgeingRecordSubmit src b s = .next s') :
    s'.md.life = s.md.life := by
  unfold execAgeingRecordSubmit at h
  (repeat' split at h) <;> cases h <;> simp

@[simp] theorem State.forecast_life (s : State) : (State.forecast s).md.life = s.md.life := by simp [State.forecast]

@[simp] theorem State.forecastStart_life (s : State) : (State.forecastStart s).md.life = s.md.life := by simp [State.forecastStart]

theorem execDailyAgeingRecord_life {l : LaneId} {m : AgeMeas} {s s' : State} (h : execDailyAgeingRecord l m s = .next s') :
    s'.md.life = s.md.life := by
  unfold execDailyAgeingRecord at h
  dsimp only at h
  (repeat' split at h) <;> cases h <;> simp

@[simp] theorem State.testLane_life (s : State) : (State.testLane s).md.life = s.md.life := by
  unfold State.testLane
  (repeat' split) <;> simp

@[simp] theorem State.commandTest_life (s : State) (src v : Nat) : (State.commandTest s src v).1.md.life = s.md.life := by
  unfold State.commandTest
  dsimp only
  (repeat' split) <;> simp

theorem execCommandedTest_life {src v : Nat} {s s' : State} (h : execCommandedTest src v s = .next s') : s'.md.life = s.md.life := by
  unfold execCommandedTest at h
  cases h
  simp

@[simp] theorem State.commandedEnd_life (s : State) (l : LaneId) : (State.commandedEnd s l).md.life = s.md.life := by
  unfold State.commandedEnd
  (repeat' split) <;> simp

/-! ### Power.lean -/

@[simp] theorem State.pwSet_life (s : State) (f : Power → Power) : (State.pwSet s f).md.life = s.md.life := by simp [State.pwSet]

@[simp] theorem State.showPowerLane_life (s : State) (l : LaneId) :
    (State.showPowerLane s l).md.life = s.md.life := by simp [State.showPowerLane]

@[simp] theorem State.showPower_life (s : State) : (State.showPower s).md.life = s.md.life := by simp [State.showPower]

@[simp] theorem State.powerInt_life (s : State) (f : Fld) : (State.powerInt s f).md.life = s.md.life := by simp [State.powerInt]

@[simp] theorem State.suspendFindings_life (s : State) (brake : Bool) :
    (State.suspendFindings s brake).md.life = s.md.life := by simp [State.suspendFindings]

@[simp] theorem State.measureSupplies_life (s : State) (m : Supply) :
    (State.measureSupplies s m).md.life = s.md.life := by simp [State.measureSupplies]

theorem execOutputSupplyOutOfRange_life {brake : Bool} {v : Nat} {s s' : State} (h : execOutputSupplyOutOfRange brake v s = .next s') :
    s'.md.life = s.md.life := by
  unfold execOutputSupplyOutOfRange at h
  (repeat' split at h) <;> cases h <;> simp

theorem execOutputSupplyRestored_life {brake : Bool} {v : Nat} {s s' : State} (h : execOutputSupplyRestored brake v s = .next s') :
    s'.md.life = s.md.life := by
  unfold execOutputSupplyRestored at h
  (repeat' split at h) <;> cases h <;> simp

theorem execKeepaliveLow_life {mv : Nat} {s s' : State} (h : execKeepaliveLow mv s = .next s') : s'.md.life = s.md.life := by
  unfold execKeepaliveLow at h
  dsimp only at h
  (repeat' split at h) <;> cases h <;> simp

theorem execBoardOvertemperature_life {t : Int} {s s' : State} (h : execBoardOvertemperature t s = .next s') : s'.md.life = s.md.life := by
  unfold execBoardOvertemperature at h
  dsimp only at h
  (repeat' split at h) <;> cases h <;> simp

theorem execMainInputOvervoltage_life {peak : Nat} {us : Option Nat} {s s' : State} (h : execMainInputOvervoltage peak us s = .next s') :
    s'.md.life = s.md.life := by
  unfold execMainInputOvervoltage at h
  (repeat' split at h) <;> cases h <;> simp

theorem execHoldupRechargeDone_life {s s' : State} (h : execHoldupRechargeDone s = .next s') : s'.md.life = s.md.life := by
  unfold execHoldupRechargeDone at h
  (repeat' split at h) <;> cases h <;> simp

@[simp] theorem State.holdupMeasure_life (s : State) (c esr : Nat) :
    (State.holdupMeasure s c esr).md.life = s.md.life := by simp [State.holdupMeasure]

@[simp] theorem State.holdupTake_life (s : State) (c esr : Nat) :
    (State.holdupTake s c esr).md.life = s.md.life := by simp [State.holdupTake]

@[simp] theorem State.holdupCharged_life (s : State) : (State.holdupCharged s).md.life = s.md.life := by simp [State.holdupCharged]

@[simp] theorem State.hubPowerOff_life (s : State) : (State.hubPowerOff s).md.life = s.md.life := by simp [State.hubPowerOff]

@[simp] theorem State.lanesPowerOff_life (s : State) : (State.lanesPowerOff s).md.life = s.md.life := by simp [State.lanesPowerOff]

theorem execHubSupplyLoss_life {s s' : State} (h : execHubSupplyLoss s = .next s') : s'.md.life = s.md.life := by
  unfold execHubSupplyLoss at h
  cases h
  simp

theorem execSupervisorSupplyLoss_life {keepAlive : Bool} {s s' : State} (h : execSupervisorSupplyLoss keepAlive s = .next s') :
    s'.md.life = s.md.life := by
  unfold execSupervisorSupplyLoss at h
  cases h
  simp

/-! ### Closing.lean -/

@[simp] theorem State.clUpd_life (s : State) (f : Closing → Closing) : (State.clUpd s f).md.life = s.md.life := by simp [State.clUpd]

@[simp] theorem State.showMode_life (s : State) : (State.showMode s).md.life = s.md.life := by simp [State.showMode]

@[simp] theorem State.closingC5_life (s : State) : (State.closingC5 s).md.life = s.md.life := by simp [State.closingC5]

@[simp] theorem State.closingC4_life (s : State) : (State.closingC4 s).md.life = s.md.life := by
  unfold State.closingC4
  (repeat' split) <;> simp

@[simp] theorem State.grantC3_life (s : State) (i : Nat) : (State.grantC3 s i).md.life = s.md.life := by simp [State.grantC3]

@[simp] theorem State.cooKill_life (s : State) (l : LaneId) : (State.cooKill s l).md.life = s.md.life := by simp [State.cooKill]

@[simp] theorem State.endC3Early_life (s : State) : (State.endC3Early s).md.life = s.md.life := by
  unfold State.endC3Early
  (repeat' split) <;> simp

@[simp] theorem State.c3RunDone_life (s : State) (l : LaneId) (vmin : Nat) :
    (State.c3RunDone s l vmin).md.life = s.md.life := by simp [State.c3RunDone]

@[simp] theorem State.finalSnapshot_life (s : State) (l : LaneId) : (s.finalSnapshot l).md.life = s.md.life := by
  unfold State.finalSnapshot
  generalize List.replicate 252 (0 : Byte) = z
  try dsimp only
  repeat' split
  all_goals simp

@[simp] theorem State.endC2_life (s : State) : (State.endC2 s).md.life = s.md.life := by
  unfold State.endC2
  (repeat' split) <;> simp

@[simp] theorem State.bookSummaries_life (s : State) : (State.bookSummaries s).md.life = s.md.life := by simp [State.bookSummaries]

@[simp] theorem State.beginC2_life (s : State) : (State.beginC2 s).md.life = s.md.life := by
  unfold State.beginC2
  (repeat' split) <;> simp

@[simp] theorem State.closeOnHoldup_life (s : State) : (State.closeOnHoldup s).md.life = s.md.life := by simp [State.closeOnHoldup]

@[simp] theorem State.closeNow_life (s : State) (trigger : Nat) (holdup : Bool) :
    (State.closeNow s trigger holdup).md.life = s.md.life := by simp [State.closeNow]

@[simp] theorem State.closingTrigger_life (s : State) (trigger : Nat) (holdup : Bool) :
    (State.closingTrigger s trigger holdup).md.life = s.md.life := by simp [State.closingTrigger]

@[simp] theorem State.closingLosesInput_life (s : State) : (State.closingLosesInput s).md.life = s.md.life := by
  unfold State.closingLosesInput
  (repeat' split) <;> simp

@[simp] theorem State.closingEdge_life (s : State) (n : Nat) : (State.closingEdge s n).md.life = s.md.life := by
  unfold State.closingEdge
  (repeat' split) <;> simp

theorem execC3TimeLimit_life {ms : Nat} {s s' : State} (h : execC3TimeLimit ms s = .next s') : s'.md.life = s.md.life := by
  unfold execC3TimeLimit at h
  (repeat' split at h) <;> cases h <;> simp

theorem execWakeWithdrawnTimeout_life {sec : Nat} {s s' : State} (h : execWakeWithdrawnTimeout sec s = .next s') :
    s'.md.life = s.md.life := by
  unfold execWakeWithdrawnTimeout at h
  dsimp only at h
  (repeat' split at h) <;> cases h <;> simp

/-! ### Cellar.lean -/

@[simp] theorem State.bookRecover_life (s : State) : (State.bookRecover s).md.life = s.md.life := by simp [State.bookRecover]

theorem execCbkSubmit_life {l : LaneId} {core v : Nat} {s s' : State} (h : execCbkSubmit l core v s = .next s') :
    s'.md.life = s.md.life := by
  unfold execCbkSubmit at h
  (repeat' split at h) <;> cases h <;> simp

@[simp] theorem execCbkSubmit_life' (l : LaneId) (core v : Nat) (s : State) : (nextOr s (execCbkSubmit l core v s)).md.life = s.md.life :=
  nextOr_life _ _ (fun _ h => execCbkSubmit_life h)

theorem execCbkTokenGain_life {code : Nat} {s s' : State} (h : execCbkTokenGain code s = .next s') : s'.md.life = s.md.life := by
  unfold execCbkTokenGain at h
  dsimp only at h
  (repeat' split at h) <;> cases h <;> simp

@[simp] theorem State.decantRequest_life (s : State) (src : Nat) (toSd : Bool) :
    (State.decantRequest s src toSd).1.md.life = s.md.life := by
  unfold State.decantRequest
  dsimp only
  (repeat' split) <;> simp

theorem execDecantToSd_life {src : Nat} {s s' : State} (h : execDecantToSd src s = .next s') : s'.md.life = s.md.life := by
  unfold execDecantToSd at h
  cases h
  simp

theorem execDecantToService_life {src : Nat} {s s' : State} (h : execDecantToService src s = .next s') : s'.md.life = s.md.life := by
  unfold execDecantToService at h
  cases h
  simp

theorem execDecantComplete_life {card : Nat} {s s' : State} (h : execDecantComplete card s = .next s') : s'.md.life = s.md.life := by
  unfold execDecantComplete at h
  dsimp only at h
  (repeat' split at h) <;> cases h <;> simp

@[simp] theorem State.unfreeze_life (s : State) (src : Nat) : (State.unfreeze s src).1.md.life = s.md.life := by
  unfold State.unfreeze
  (repeat' split) <;> simp

theorem execUnfreezeTail_life {src : Nat} {s s' : State} (h : execUnfreezeTail src s = .next s') : s'.md.life = s.md.life := by
  unfold execUnfreezeTail at h
  cases h
  simp

@[simp] theorem State.reopenFf_life (s : State) (src : Nat) : (State.reopenFf s src).1.md.life = s.md.life := by
  unfold State.reopenFf
  (repeat' split) <;> simp

theorem execReopenFirstFill_life {src : Nat} {s s' : State} (h : execReopenFirstFill src s = .next s') : s'.md.life = s.md.life := by
  unfold execReopenFirstFill at h
  cases h
  simp

@[simp] theorem State.bookRequest_life (s : State) (src v : Nat) : (State.bookRequest s src v).1.md.life = s.md.life := by
  unfold State.bookRequest
  (repeat' split) <;> simp

theorem execSdCardRemoval_life {s s' : State} (h : execSdCardRemoval s = .next s') : s'.md.life = s.md.life := by
  unfold execSdCardRemoval at h
  cases h
  simp

/-! ### Start.lean -/

@[simp] theorem State.stUpd_life (s : State) (f : StartState → StartState) : (State.stUpd s f).md.life = s.md.life := by simp [State.stUpd]

@[simp] theorem State.loadDeadlines_life (s : State) (l : LaneId) :
    (State.loadDeadlines s l).md.life = s.md.life := by simp [State.loadDeadlines]

@[simp] theorem State.loadShadow_life (s : State) (l : LaneId) : (State.loadShadow s l).md.life = s.md.life := by simp [State.loadShadow]

@[simp] theorem State.loadVerify_life (s : State) (l : LaneId) : (State.loadVerify s l).md.life = s.md.life := by simp [State.loadVerify]

@[simp] theorem State.loadConfig_life (s : State) (l : LaneId) : (State.loadConfig s l).md.life = s.md.life := by simp [State.loadConfig]

@[simp] theorem State.loadVoter1_life (s : State) : (State.loadVoter1 s).md.life = s.md.life := by simp [State.loadVoter1]

@[simp] theorem State.showStart_life (s : State) (l : LaneId) : (State.showStart s l).md.life = s.md.life := by simp [State.showStart]

@[simp] theorem State.laneSupply_life (s : State) (l : LaneId) : (State.laneSupply s l).md.life = s.md.life := by simp [State.laneSupply]

@[simp] theorem State.flushKept_life (s : State) : (State.flushKept s).md.life = s.md.life := by simp [State.flushKept]

@[simp] theorem State.hubStart_life (s : State) (margin : Nat) : (s.hubStart margin).md.life = s.md.life := by
  unfold State.hubStart
  extract_lets x1 x2 s1 s2 s3 s4 s5
  have h1 : s2.md.life = s.md.life := by rw [show s2 = s1.startTb.startNet from rfl, State.startNet_life, State.startTb_life]
  have h2 : s3.md.life = s2.md.life := foldl_life _ (fun s k => State.loadCan_life _ _) _ _
  have h3 : s4.md.life = s3.md.life := by rw [show s4 = s3.loadVoter1.bookRecover from rfl, State.bookRecover_life, State.loadVoter1_life]
  rw [← h1, ← h2, ← h3]
  split
  · rw [State.hubEvt_life, State.cntSet_md]
  · rw [State.cntSet_md]

@[simp] theorem State.bankRestore_life (s : State) (lane : Nat) :
    (State.bankRestore s lane).md.life = s.md.life := by simp [State.bankRestore]

@[simp] theorem State.bankCommit_life (s : State) : (State.bankCommit s).md.life = s.md.life := by simp [State.bankCommit]

@[simp] theorem State.finishStart_life (s : State) : s.finishStart.md.life = s.md.life := by
  unfold State.finishStart
  split
  · rfl
  · rename_i st _
    extract_lets m s1 s2 s3 s4 a1 s5 s6 s7 s8
    have h1 : s1.md.life = s.md.life := onLanes_life _ (fun l t => by split <;> simp) _
    have h4 : s4.md.life = s1.md.life := by simp [s4, s3, s2]
    have h5 : s5.md.life = s4.md.life := by simp only [s5, a1]; split <;> simp
    have h6 : s6.md.life = s5.md.life := by simp only [s6]; split <;> simp
    have h7 : s7.md.life = s6.md.life := by simp only [s7]; split <;> simp
    have h8 : s8.md.life = s7.md.life := by simp [s8]
    rw [State.forecastStart_life, h8, h7, h6, h5, h4, h1]

@[simp] theorem State.startHalt_life (s : State) : (State.startHalt s).md.life = s.md.life := by simp [State.startHalt]

@[simp] theorem State.startFails_life (s : State) (k : Nat) : (State.startFails s k).md.life = s.md.life := by simp [State.startFails]

@[simp] theorem State.startTo_life (s : State) (m : Mode) (cause : Nat) :
    (State.startTo s m cause).md.life = s.md.life := by simp [State.startTo]

@[simp] theorem State.exclude_life (s : State) (l : LaneId) (k : Nat) : (State.exclude s l k).md.life = s.md.life := by simp [State.exclude]

@[simp] theorem State.judgeCodes_life (s : State) : (State.judgeCodes s).md.life = s.md.life := by
  unfold State.judgeCodes
  dsimp only
  (repeat' split) <;> simp

@[simp] theorem State.startTick_life (s : State) : s.startTick.md.life = s.md.life := by
  unfold State.startTick
  try dsimp only
  repeat' split
  all_goals simp

@[simp] theorem State.afterS5_life (s : State) : (State.afterS5 s).1.md.life = s.md.life := by
  unfold State.afterS5
  dsimp only
  (repeat' split) <;> simp

@[simp] theorem State.selectWarm_life (s : State) : (State.selectWarm s).md.life = s.md.life := by simp [State.selectWarm]

@[simp] theorem State.afterS7_life (s : State) : (State.afterS7 s).md.life = s.md.life := by simp [State.afterS7]

@[simp] theorem State.enterStep_life (s : State) (k : Nat) : (State.enterStep s k).md.life = s.md.life := by simp [State.enterStep]

@[simp] theorem State.startAdvance_life (s : State) : (State.startAdvance s).md.life = s.md.life := by
  unfold State.startAdvance
  repeat' (first | split | simp)
  all_goals (rename_i h; have h2 := congrArg (fun p => p.1.md.life) h; simp at h2; simp [h2])

@[simp] theorem State.loneFail_life (s : State) (l : LaneId) (k : Nat) :
    (State.loneFail s l k).md.life = s.md.life := by simp [State.loneFail]

@[simp] theorem State.linksUp_life (s : State) (l : LaneId) (meas : List Nat) :
    (State.linksUp s l meas).md.life = s.md.life := by simp [State.linksUp]

@[simp] theorem State.loneStep_life (s : State) (l : LaneId) (k : Nat) (quick : Bool) (meas : List Nat) :
    (State.loneStep s l k quick meas).md.life = s.md.life := by
  unfold State.loneStep
  (repeat' split) <;> simp

@[simp] theorem State.behindStep_life (s : State) (l : LaneId) (k : Nat) :
    (State.behindStep s l k).md.life = s.md.life := by simp [State.behindStep]

@[simp] theorem State.laneStep_life (s : State) (l : LaneId) (k : Nat) (meas : List Nat) :
    (State.laneStep s l k meas).md.life = s.md.life := by simp [State.laneStep]

theorem execStartStepComplete_life {who : StartActor} {k : Nat} {ok : Bool} {ms : Nat} {meas : List Nat} {s s' : State} (h : execStartStepComplete who k ok ms meas s = .next s') :
    s'.md.life = s.md.life := by
  unfold execStartStepComplete at h
  dsimp only at h
  (repeat' split at h) <;> cases h <;> simp

theorem execStartStepTimeout_life {who : StartActor} {k : Nat} {s s' : State} (h : execStartStepTimeout who k s = .next s') :
    s'.md.life = s.md.life := by
  unfold execStartStepTimeout at h
  dsimp only at h
  (repeat' split at h) <;> cases h <;> simp

@[simp] theorem State.beginStart_life (s : State) (from_ : Mode) (bits : Nat) : (s.beginStart from_ bits).md.life = s.md.life := by
  unfold State.beginStart
  extract_lets stv m s1 behind s2 s3 st m' s4 s5 s6 s7
  have h1 : s1.md.life = s.md.life := by simp [s1, m]
  have h2 : s2.md.life = s1.md.life := onLanes_life _ (fun l t => by simp) _
  have h3 : s3.md.life = s2.md.life := onLanes_life _ (fun l t => by split <;> simp) _
  have h5 : s5.md.life = s1.md.life := by simp only [s5]; split <;> simp
  have h6 : s6.md.life = s5.md.life := onLanes_life _ (fun l t => by simp) _
  have h7 : s7.md = s6.md := rfl
  split
  · rw [State.showMode_life, State.enterStep_life, State.loadVoter1_life, ← h1, ← h2, ← h3]
  · rw [← h1, ← h5, ← h6, ← h7]

@[simp] theorem State.advRtc_life (s : State) (rtc : Nat) : (State.advRtc s rtc).md.life = s.md.life := by simp [State.advRtc]

@[simp] theorem State.acceptWake_life (s : State) (bits : Nat) : (State.acceptWake s bits).md.life = s.md.life := by
  unfold State.acceptWake
  dsimp only
  (repeat' split) <;> simp

@[simp] theorem State.kaSet_life (s : State) (f : KeepAlive → KeepAlive) : (State.kaSet s f).md.life = s.md.life := by simp [State.kaSet]

@[simp] theorem State.evalWake_life (s : State) : (State.evalWake s).md.life = s.md.life := by simp [State.evalWake]

@[simp] theorem State.wakeInC3_life (s : State) (ms : Nat) : (State.wakeInC3 s ms).md.life = s.md.life := by
  unfold State.wakeInC3
  (repeat' split) <;> simp

theorem execWakeInputQualified_life {rtc ms : Nat} {s s' : State} (h : execWakeInputQualified rtc ms s = .next s') :
    s'.md.life = s.md.life := by
  unfold execWakeInputQualified at h
  dsimp only at h
  (repeat' split at h) <;> cases h <;> simp

theorem execRtcAlarm_life {rtc : Nat} {s s' : State} (h : execRtcAlarm rtc s = .next s') : s'.md.life = s.md.life := by
  unfold execRtcAlarm at h
  dsimp only at h
  (repeat' split at h) <;> cases h <;> simp

@[simp] theorem State.startPowerAbort_life (s : State) : (State.startPowerAbort s).md.life = s.md.life := by simp [State.startPowerAbort]

@[simp] theorem State.inputBelow_life (s : State) (v : Nat) : (State.inputBelow s v).md.life = s.md.life := by simp [State.inputBelow]

theorem execMainInputBelowRange_life {v : Nat} {s s' : State} (h : execMainInputBelowRange v s = .next s') : s'.md.life = s.md.life := by
  unfold execMainInputBelowRange at h
  (repeat' split at h) <;> cases h <;> simp

theorem execOvervoltageDisconnect_life {v us : Nat} {s s' : State} (h : execOvervoltageDisconnect v us s = .next s') :
    s'.md.life = s.md.life := by
  unfold execOvervoltageDisconnect at h
  (repeat' split at h) <;> cases h <;> simp

theorem execMainInputLost_life {s s' : State} (h : execMainInputLost s = .next s') : s'.md.life = s.md.life := by
  unfold execMainInputLost at h
  (repeat' split at h) <;> cases h <;> simp

theorem execMainInputRestored_life {v us heldMs rtc : Nat} {s s' : State} (h : execMainInputRestored v us heldMs rtc s = .next s') :
    s'.md.life = s.md.life := by
  unfold execMainInputRestored at h
  dsimp only at h
  (repeat' split at h) <;> cases h <;> simp

theorem execHoldupExhausted_life {s s' : State} (h : execHoldupExhausted s = .next s') : s'.md.life = s.md.life := by
  unfold execHoldupExhausted at h
  dsimp only at h
  (repeat' split at h) <;> cases h <;> simp

theorem execDumpComplete_life {ms rtc : Nat} {s s' : State} (h : execDumpComplete ms rtc s = .next s') : s'.md.life = s.md.life := by
  unfold execDumpComplete at h
  (repeat' split at h) <;> cases h <;> simp

@[simp] theorem State.resetStart_life (s : State) (n : Nat) : (State.resetStart s n).md.life = s.md.life := by simp [State.resetStart]

@[simp] theorem State.resetEdge_life (s : State) (n : Nat) : (State.resetEdge s n).md.life = s.md.life := by simp [State.resetEdge]

@[simp] theorem State.applyOne_life (n : Nat) (s : State) (d : ModeDue) :
    (State.applyOne n s d).md.life = s.md.life := by simp [State.applyOne]

@[simp] theorem State.applyDue_life (s : State) (n : Nat) : (State.applyDue s n).md.life = s.md.life := by simp [State.applyDue]

@[simp] theorem State.afterSegment_life (s : State) : (State.afterSegment s).md.life = s.md.life := by
  unfold State.afterSegment
  (repeat' split) <;> simp

theorem execCooperRunDone_life {l : LaneId} {r : CooperRun} {s s' : State} (h : execCooperRunDone l r s = .next s') :
    s'.md.life = s.md.life := by
  unfold execCooperRunDone at h
  (repeat' split at h) <;> cases h <;> simp

@[simp] theorem State.refuseMode_life (s : State) (v reason code : Nat) :
    (State.refuseMode s v reason code).1.md.life = s.md.life := by simp [State.refuseMode]

@[simp] theorem State.requestDue_life (s : State) (m : Mode) (frame cause : Nat) :
    (State.requestDue s m frame cause).1.md.life = s.md.life := by simp [State.requestDue]

@[simp] theorem State.modeRequest_life (s : State) (src v : Nat) : (State.modeRequest s src v).1.md.life = s.md.life := by
  unfold State.modeRequest
  dsimp only
  (repeat' split) <;> simp

theorem execModeRequestConfigure_life {src : Nat} {s s' : State} (h : execModeRequestConfigure src s = .next s') :
    s'.md.life = s.md.life := by
  unfold execModeRequestConfigure at h
  cases h
  simp

theorem execModeRequestDepot_life {src : Nat} {s s' : State} (h : execModeRequestDepot src s = .next s') : s'.md.life = s.md.life := by
  unfold execModeRequestDepot at h
  cases h
  simp

theorem execModeRequestRun_life {src : Nat} {s s' : State} (h : execModeRequestRun src s = .next s') : s'.md.life = s.md.life := by
  unfold execModeRequestRun at h
  cases h
  simp

theorem execModeRequestShutDown_life {src : Nat} {s s' : State} (h : execModeRequestShutDown src s = .next s') :
    s'.md.life = s.md.life := by
  unfold execModeRequestShutDown at h
  cases h
  simp

@[simp] theorem State.refuseLife_life (s : State) (v code : Nat) :
    (State.refuseLife s v code).1.md.life = s.md.life := by simp [State.refuseLife]

/-- A life-cycle request keeps a property of the life-cycle state that R106's transitions keep. -/
theorem State.lifeRequest_keeps (P : Life → Prop) (s : State) (src v : Nat) (h : P s.md.life)
    (hP : ∀ new, s.lifeTo v = some new → P new) : P (s.lifeRequest src v).1.md.life := by
  unfold State.lifeRequest
  extract_lets old
  split
  · simpa using h
  · split
    · simpa using h
    · rename_i new e
      extract_lets s1 s2 s3
      clear_value (e3 : s3 = _)
      clear_value (e2 : s2 = _)
      clear_value (e1 : s1 = _)
      have h3 : s3.md.life = new := by
        rw [e3, State.supEvt_life, e2, State.showMode_life, State.storedSet_md, e1]
      have hn := hP _ e
      dsimp only
      split
      · rw [State.closingTrigger_life, h3]
        exact hn
      · rw [h3]
        exact hn

/-- R106's transitions never lead to FACTORY. -/
theorem State.lifeTo_ne_factory (s : State) (v : Nat) {new : Life} (h : s.lifeTo v = some new) : new ≠ .factory := by
  unfold State.lifeTo at h
  dsimp only at h
  split at h <;> (try split at h) <;> cases h <;> decide

/-- R106's transitions never leave RETIRED. -/
theorem State.lifeTo_retired (s : State) (v : Nat) (h : s.md.life = .retired) : s.lifeTo v = none := by
  unfold State.lifeTo
  rw [h]

/-! ### Pair.lean -/

@[simp] theorem State.prSet_life (s : State) (l : LaneId) (x : LanePair) : (State.prSet s l x).md.life = s.md.life := by simp [State.prSet]

@[simp] theorem State.beatStep_life (s : State) (l : LaneId) : (State.beatStep s l).md.life = s.md.life := by
  unfold State.beatStep
  dsimp only
  (repeat' split) <;> simp

@[simp] theorem State.shadowBad_life (s : State) (l : LaneId) (bits own other : Nat) :
    (State.shadowBad s l bits own other).md.life = s.md.life := by simp [State.shadowBad]

@[simp] theorem State.shadowGood_life (s : State) (l : LaneId) : (State.shadowGood s l).md.life = s.md.life := by simp [State.shadowGood]

@[simp] theorem State.shadowStep_life (s : State) (l : LaneId) : (State.shadowStep s l).md.life = s.md.life := by
  unfold State.shadowStep
  dsimp only
  (repeat' split) <;> simp

theorem execShadowMismatch_life {l : LaneId} {s s' : State} (h : execShadowMismatch l s = .next s') : s'.md.life = s.md.life := by
  unfold execShadowMismatch at h
  (repeat' split at h) <;> cases h <;> simp

theorem execShadowMismatchClear_life {l : LaneId} {s s' : State} (h : execShadowMismatchClear l s = .next s') : s'.md.life = s.md.life := by
  unfold execShadowMismatchClear at h
  cases h
  simp

@[simp] theorem State.pairTime_life (s : State) (master : Bool) : (State.pairTime s master).md.life = s.md.life := by simp [State.pairTime]

@[simp] theorem State.takeRole_life (s : State) (l : LaneId) (role : Nat) :
    (State.takeRole s l role).md.life = s.md.life := by simp [State.takeRole]

@[simp] theorem State.becomeMaster_life (s : State) (l : LaneId) (cause : Nat) :
    (State.becomeMaster s l cause).md.life = s.md.life := by simp [State.becomeMaster]

@[simp] theorem State.becomeStandby_life (s : State) (l : LaneId) (role cause : Nat) :
    (State.becomeStandby s l role cause).md.life = s.md.life := by simp [State.becomeStandby]

@[simp] theorem State.takeOver_life (s : State) (l : LaneId) : (State.takeOver s l).md.life = s.md.life := by simp [State.takeOver]

@[simp] theorem State.startWait_life (s : State) (l : LaneId) : (State.startWait s l).md.life = s.md.life := by simp [State.startWait]

@[simp] theorem State.takeHold_life (s : State) (l : LaneId) : (State.takeHold s l).md.life = s.md.life := by simp [State.takeHold]

@[simp] theorem State.yieldEnd_life (s : State) (l : LaneId) : (State.yieldEnd s l).md.life = s.md.life := by
  unfold State.yieldEnd
  (repeat' split) <;> simp

@[simp] theorem State.contradiction_life (s : State) (l : LaneId) (high : Bool) :
    (State.contradiction s l high).md.life = s.md.life := by simp [State.contradiction]

@[simp] theorem State.standbyDecide_life (s : State) (l : LaneId) (line : Bool) :
    (State.standbyDecide s l line).md.life = s.md.life := by simp [State.standbyDecide]

@[simp] theorem State.masterDecide_life (s : State) (l : LaneId) (line : Bool) :
    (State.masterDecide s l line).md.life = s.md.life := by simp [State.masterDecide]

@[simp] theorem State.roleDecide_life (s : State) (l : LaneId) : (State.roleDecide s l).md.life = s.md.life := by simp [State.roleDecide]

@[simp] theorem State.pairStep_life (s : State) (l : LaneId) : (State.pairStep s l).md.life = s.md.life := by simp [State.pairStep]

@[simp] theorem State.roleEdge_life (s : State) (l : LaneId) : (State.roleEdge s l).md.life = s.md.life := by simp [State.roleEdge]

@[simp] theorem State.askHandover_life (s : State) (src : Nat) : (State.askHandover s src).1.md.life = s.md.life := by
  unfold State.askHandover
  dsimp only
  (repeat' split) <;> simp

theorem execHandoverRequest_life {src : Nat} {s s' : State} (h : execHandoverRequest src s = .next s') : s'.md.life = s.md.life := by
  unfold execHandoverRequest at h
  cases h
  simp

theorem execHandoverTimeout_life {l : LaneId} {s s' : State} (h : execHandoverTimeout l s = .next s') : s'.md.life = s.md.life := by
  unfold execHandoverTimeout at h
  (repeat' split at h) <;> cases h <;> simp

theorem execTakeHoldoffExpire_life {l : LaneId} {s s' : State} (h : execTakeHoldoffExpire l s = .next s') : s'.md.life = s.md.life := by
  unfold execTakeHoldoffExpire at h
  (repeat' split at h) <;> cases h <;> simp

theorem execStartWaitExpire_life {l : LaneId} {s s' : State} (h : execStartWaitExpire l s = .next s') : s'.md.life = s.md.life := by
  unfold execStartWaitExpire at h
  (repeat' split at h) <;> cases h <;> simp

@[simp] theorem State.beatSend_life (s : State) (l : LaneId) : (State.beatSend s l).md.life = s.md.life := by simp [State.beatSend]

@[simp] theorem State.lineUpdate_life (s : State) : (State.lineUpdate s).md.life = s.md.life := by simp [State.lineUpdate]

@[simp] theorem State.lineEdge_life (s : State) (high : Bool) : (State.lineEdge s high).md.life = s.md.life := by simp [State.lineEdge]

/-! ### Access.lean -/

@[simp] theorem State.rawSet_life (s : State) (l : LaneId) (r : RegRow) (reg v : Nat) :
    (State.rawSet s l r reg v).md.life = s.md.life := by simp [State.rawSet]

@[simp] theorem State.regRead_life (s : State) (l : LaneId) (core reg : Nat) (r : RegRow) (mask : Nat) :
    (State.regRead s l core reg r mask).2.md.life = s.md.life := by
  unfold State.regRead
  dsimp only
  (repeat' split) <;> simp

@[simp] theorem State.xchWrite_life (s : State) (l : LaneId) (reg v : Nat) :
    (State.xchWrite s l reg v).md.life = s.md.life := by simp [State.xchWrite]

theorem State.laneWrite_life {s t : State} {l : LaneId} {core reg old x v mask : Nat} (h : s.laneWrite l core reg old x v mask = some t) :
    t.md.life = s.md.life := by
  suffices H : ∀ t, s.laneWrite l core reg old x v mask = some t → t.md.life = s.md.life from H t h
  clear h t
  unfold State.laneWrite
  extract_lets w put
  have hp : ∀ y t, put y = some t → t.md.life = s.md.life := fun y => some_all (by rw [State.lregSet_md])
  repeat'
    first
    | refine opt_ite ?_ ?_
    | exact hp _
    | exact some_all rfl
    | exact some_all (by (repeat' split) <;> simp +zetaDelta)
    | (intro t h; cases h; done)

theorem State.hubWrite_life {s : State} {l : LaneId} {core reg x v mask : Nat} {a : State × Nat} (h : s.hubWrite l core reg x v mask = some a) :
    a.1.md.life = s.md.life := by
  unfold State.hubWrite at h
  dsimp only at h
  (repeat' split at h) <;> cases h <;> (try simp) <;> (try (repeat' split)) <;> (try simp) <;>
    first
    | exact State.cqBaseWrite_life ‹_›
    | exact State.cqTailWrite_life ‹_›
    | exact State.settimeWrite_some_life ‹_›

@[simp] theorem State.regWrite_life (s : State) (l : LaneId) (core reg : Nat) (r : RegRow) (v mask : Nat) :
    (s.regWrite l core reg r v mask).1.md.life = s.md.life := by
  unfold State.regWrite
  try dsimp only
  split
  · rfl
  · split
    · split
      · exact State.laneWrite_life ‹_›
      · simp
    · split
      · exact State.hubWrite_life ‹_›
      · simp

@[simp] theorem State.regStore_life (s : State) (l : LaneId) (core n : Nat) (bs : List (Nat × Byte)) :
    (s.regStore l core n bs).1.md.life = s.md.life := by
  induction n generalizing s bs with
  | zero => rfl
  | succ n ih =>
    cases bs with
    | nil => rfl
    | cons p bs =>
      obtain ⟨a, b⟩ := p
      unfold State.regStore
      split
      · rfl
      · dsimp only
        split
        · simp
        · rw [ih]
          simp

@[simp] theorem State.regLoad_life (s : State) (l : LaneId) (core k addr n : Nat) : (s.regLoad l core k addr n).1.md.life = s.md.life := by
  induction k generalizing s addr n with
  | zero => rfl
  | succ k ih =>
    cases n with
    | zero => rfl
    | succ n =>
      rw [State.regLoad]
      · split
        · rfl
        · extract_lets i m half
          split
          rename_i v s1 hq
          have h1 : s1.md.life = s.md.life := by
            have e := congrArg (fun p => p.2.md.life) hq
            rw [← e]
            repeat' split
            all_goals simp
          rw [← h1, ← ih s1 (addr + m) (n + 1 - m)]
      · simp

@[simp] theorem State.mramByte_life (s : State) (addr : Nat) : (State.mramByte s addr).1.md.life = s.md.life := by
  unfold State.mramByte
  (repeat' split) <;> simp

@[simp] theorem State.mramLoad_life (s : State) (n addr : Nat) : (s.mramLoad n addr).1.md.life = s.md.life := by
  induction n generalizing s addr with
  | zero => rfl
  | succ n ih => simp [State.mramLoad, ih]

@[simp] theorem State.hubStore_life (s : State) (l : LaneId) (core : Nat) (bs : List (Nat × Byte)) :
    (s.hubStore l core bs).1.md.life = s.md.life := by
  unfold State.hubStore
  repeat' split
  all_goals simp

@[simp] theorem State.hubLoad_life (s : State) (l : LaneId) (core addr n : Nat) (ecc : Bool) :
    (s.hubLoad l core addr n ecc).1.md.life = s.md.life := by
  have hm : (match s.mramLoad n addr with | (s, bs) => (s, bs, 0) : State × List Byte × Nat).1.md.life = s.md.life :=
    s.mramLoad_life n addr
  have hr : (match s.regLoad l core n addr n with | (s, bs) => (s, bs, 0) : State × List Byte × Nat).1.md.life = s.md.life :=
    s.regLoad_life l core n addr n
  unfold State.hubLoad
  split
  · split
    · rfl
    · split
      · rfl
      · exact hm
  · split
    · exact hr
    · rfl

@[simp] theorem State.coreLoad_life (s : State) (l : LaneId) (core rd : Nat) (bs : List Byte) (signed : Bool) :
    (State.coreLoad s l core rd bs signed).md.life = s.md.life := by simp [State.coreLoad]

@[simp] theorem State.accessFault_life (s : State) (l : LaneId) (core pc addr : Nat) (store : Bool) :
    (State.accessFault s l core pc addr store).md.life = s.md.life := by simp [State.accessFault]

@[simp] theorem State.localStore_life (s : State) (l : LaneId) (core pc addr size : Nat) (v : Word) :
    (s.localStore l core pc addr size v).md.life = s.md.life := by
  unfold State.localStore
  try dsimp only
  split <;> simp

@[simp] theorem State.localLoad_life (s : State) (l : LaneId) (core pc addr size rd : Nat) (signed : Bool) :
    (s.localLoad l core pc addr size rd signed).md.life = s.md.life := by
  unfold State.localLoad
  try dsimp only
  split <;> simp

/-! ### Protect.lean -/

@[simp] theorem State.dispatch_life (s : State) (l : LaneId) (c : Nat) (d : TaskDecl) :
    (State.dispatch s l c d).md.life = s.md.life := by simp [State.dispatch]

@[simp] theorem State.guarded_life (s : State) (l : LaneId) (core pc addr n : Nat) (write : Bool) (who : Runner) (f : State → State)
    (hf : ∀ t, (f t).md.life = t.md.life) : (s.guarded l core pc addr n write who f).md.life = s.md.life := by
  unfold State.guarded
  cases who <;> (try dsimp only) <;> (repeat' split) <;> simp [hf]

@[simp] theorem State.breakResv_life (s : State) (l : LaneId) (core addr n : Nat) :
    (State.breakResv s l core addr n).md.life = s.md.life := by simp [State.breakResv]

@[simp] theorem State.laneMemStore_life (s : State) (l : LaneId) (core addr n : Nat) (v : Nat) :
    (State.laneMemStore s l core addr n v).md.life = s.md.life := by simp [State.laneMemStore]

@[simp] theorem State.atomicOp_life (s : State) (l : LaneId) (core addr size rd : Nat) (op : MemOp) :
    (State.atomicOp s l core addr size rd op).md.life = s.md.life := by
  unfold State.atomicOp
  (repeat' split) <;> simp

theorem execCdaCsrWrite_life {l : LaneId} {c pc : Nat} {pr : Priv} {op : CsrOp} {csr rd : Nat} {v : Word} {s s' : State} (h : execCdaCsrWrite l c pc pr op csr rd v s = .next s') :
    s'.md.life = s.md.life := by
  unfold execCdaCsrWrite at h
  dsimp only at h
  (repeat' split at h) <;> cases h <;> simp

/-! ### Bridge.lean -/

@[simp] theorem State.brgFail_life (s : State) (l : LaneId) (code : Nat) (write : Bool) (core addr : Nat) :
    (State.brgFail s l code write core addr).md.life = s.md.life := by
  unfold State.brgFail
  (repeat' split) <;> simp

@[simp] theorem State.writeFails_life (s : State) (l : LaneId) (w : PendWrite) (code : Nat) :
    (State.writeFails s l w code).md.life = s.md.life := by simp [State.writeFails]

@[simp] theorem State.brgProceed_life (s : State) (l : LaneId) : (State.brgProceed s l).md.life = s.md.life := by
  unfold State.brgProceed
  dsimp only
  (repeat' split) <;> simp

@[simp] theorem State.brgAll_life (s : State) (l : LaneId) : (State.brgAll s l).md.life = s.md.life := by simp [State.brgAll]

theorem State.oweFault_life {s t : State} {l : LaneId} {core pc : Nat} (h : s.oweFault l core pc = some t) : t.md.life = s.md.life := by
  unfold State.oweFault at h
  split at h <;> cases h
  simp

@[simp] theorem State.fenceDone_life (s : State) (l : LaneId) (core pc : Nat) : (s.fenceDone l core pc).md.life = s.md.life := by
  unfold State.fenceDone
  split
  · split
    · simp [State.oweFault_life ‹_›]
    · exact State.oweFault_life ‹_›
  · split <;> simp

@[simp] theorem State.fencesGo_life (s : State) (l : LaneId) : (State.fencesGo s l).md.life = s.md.life := by simp [State.fencesGo]

@[simp] theorem State.performWrite_life (s : State) (l : LaneId) (w : PendWrite) :
    (State.performWrite s l w).1.md.life = s.md.life := by simp [State.performWrite]

@[simp] theorem State.performAhead_life (s : State) (l : LaneId) (n : Nat) :
    (State.performAhead s l n).md.life = s.md.life := by simp [State.performAhead]

@[simp] theorem State.linkFalls_life (s : State) (l : LaneId) : (State.linkFalls s l).md.life = s.md.life := by simp [State.linkFalls]

@[simp] theorem State.linkReset_life (s : State) (l : LaneId) (done told : Nat) :
    (State.linkReset s l done told).md.life = s.md.life := by simp [State.linkReset]

theorem execLinkReset_life {l : LaneId} {done replays : Nat} {s s' : State} (h : execLinkReset l done replays s = .next s') :
    s'.md.life = s.md.life := by
  unfold execLinkReset at h
  dsimp only at h
  (repeat' split at h) <;> cases h <;> simp

theorem execBrgResetWrite_life {l : LaneId} {core v done : Nat} {s s' : State} (h : execBrgResetWrite l core v done s = .next s') :
    s'.md.life = s.md.life := by
  unfold execBrgResetWrite at h
  (repeat' split at h) <;> cases h <;> simp

@[simp] theorem execBrgResetWrite_life' (l : LaneId) (core v done : Nat) (s : State) : (nextOr s (execBrgResetWrite l core v done s)).md.life = s.md.life :=
  nextOr_life _ _ (fun _ h => execBrgResetWrite_life h)

@[simp] theorem State.laneStore_life (s : State) (l : LaneId) (core pc addr size : Nat) (v : Word) :
    (State.laneStore s l core pc addr size v).md.life = s.md.life := by simp [State.laneStore]

theorem execBridgeRegisterStore_life {l : LaneId} {core pc addr size : Nat} {v : Word} {amo : Bool} {who : Runner} {s s' : State} (h : execBridgeRegisterStore l core pc addr size v amo who s = .next s') :
    s'.md.life = s.md.life := by
  unfold execBridgeRegisterStore at h
  split at h <;> cases h
  · rfl
  · refine State.guarded_life _ _ _ _ _ _ _ _ _ (fun t => ?_)
    (try dsimp only); (repeat' split) <;> first | exact State.oweFault_life (by assumption) | (simp; done) | ((repeat' split) <;> simp)

@[simp] theorem State.combinedStore_life (s : State) (l : LaneId) (core addr size : Nat) (v : Word) :
    (State.combinedStore s l core addr size v).md.life = s.md.life := by simp [State.combinedStore]

@[simp] theorem State.windowFault_life (s : State) (l : LaneId) (core pc addr : Nat) :
    (State.windowFault s l core pc addr).md.life = s.md.life := by simp [State.windowFault]

theorem State.chanWrite_life (s g : State) (l : LaneId) (core pc reg c : Nat) (f : State → State) (e : f s = g)
    (hf : g.md.life = s.md.life) : (s.chanWrite l core pc reg c f).md.life = s.md.life := by
  subst e
  unfold State.chanWrite
  split <;> simp [apply_ite, hf]

@[simp] theorem State.queueWrite_life (s : State) (l : LaneId) (core pc reg q : Nat) (f : State → Option State)
    (hf : ∀ t, f s = some t → t.md.life = s.md.life) : (s.queueWrite l core pc reg q f).md.life = s.md.life := by
  unfold State.queueWrite
  split
  · rfl
  · split
    · exact hf _ (by assumption)
    · simp

theorem execPdeGo_life {l : LaneId} {core pc c : Nat} {s s' : State} (h : execPdeGo l core pc c s = .next s') : s'.md.life = s.md.life := by
  unfold execPdeGo at h
  injection h with h
  rw [← h]
  exact State.chanWrite_life _ _ _ _ _ _ _ _ rfl (by simp)

theorem execPdeDoorbell_life {l : LaneId} {core pc c : Nat} {s s' : State} (h : execPdeDoorbell l core pc c s = .next s') :
    s'.md.life = s.md.life := by
  unfold execPdeDoorbell at h
  injection h with h
  rw [← h]
  exact State.chanWrite_life _ _ _ _ _ _ _ _ rfl (by simp)

theorem execPdeAbort_life {l : LaneId} {core pc c : Nat} {s s' : State} (h : execPdeAbort l core pc c s = .next s') :
    s'.md.life = s.md.life := by
  unfold execPdeAbort at h
  injection h with h
  rw [← h]
  exact State.chanWrite_life _ _ _ _ _ _ _ _ rfl (by simp)

theorem execPdeRdWrite_life {l : LaneId} {core pc c v : Nat} {s s' : State} (h : execPdeRdWrite l core pc c v s = .next s') :
    s'.md.life = s.md.life := by
  unfold execPdeRdWrite at h
  injection h with h
  rw [← h]
  exact State.chanWrite_life _ _ _ _ _ _ _ _ rfl (State.pdeRdWrite_life s c v)

theorem execPdeArmWrite_life {l : LaneId} {core pc c : Nat} {s s' : State} (h : execPdeArmWrite l core pc c s = .next s') :
    s'.md.life = s.md.life := by
  unfold execPdeArmWrite at h
  injection h with h
  rw [← h]
  exact State.chanWrite_life _ _ _ _ _ _ _ _ rfl (by simp)

theorem execPdeCqClaim_life {l : LaneId} {core pc q v : Nat} {s s' : State} (h : execPdeCqClaim l core pc q v s = .next s') :
    s'.md.life = s.md.life := by
  unfold execPdeCqClaim at h
  cases h
  exact State.queueWrite_life _ _ _ _ _ _ _ (fun _ h => State.cqBaseWrite_life h)

theorem execPdeCqRelease_life {l : LaneId} {core pc q : Nat} {s s' : State} (h : execPdeCqRelease l core pc q s = .next s') :
    s'.md.life = s.md.life := by
  unfold execPdeCqRelease at h
  cases h
  exact State.queueWrite_life _ _ _ _ _ _ _ (fun _ h => State.cqBaseWrite_life h)

theorem execPdeCqTailWrite_life {l : LaneId} {core pc q v : Nat} {s s' : State} (h : execPdeCqTailWrite l core pc q v s = .next s') :
    s'.md.life = s.md.life := by
  unfold execPdeCqTailWrite at h
  cases h
  exact State.queueWrite_life _ _ _ _ _ _ _ (fun _ h => State.cqTailWrite_life h)

theorem execBridgeCombinedStore_life {l : LaneId} {core pc addr size : Nat} {v : Word} {amo : Bool} {who : Runner} {s s' : State} (h : execBridgeCombinedStore l core pc addr size v amo who s = .next s') :
    s'.md.life = s.md.life := by
  unfold execBridgeCombinedStore at h
  split at h <;> cases h
  · rfl
  · refine State.guarded_life _ _ _ _ _ _ _ _ _ (fun t => ?_)
    (try dsimp only); (repeat' split) <;> first | exact State.oweFault_life (by assumption) | (simp; done) | ((repeat' split) <;> simp)

theorem execWcBufferIssue_life {l : LaneId} {core : Nat} {s s' : State} (h : execWcBufferIssue l core s = .next s') :
    s'.md.life = s.md.life := by
  unfold execWcBufferIssue at h
  (repeat' split at h) <;> cases h <;> simp

theorem execFence_life {l : LaneId} {core pc : Nat} {s s' : State} (h : execFence l core pc s = .next s') : s'.md.life = s.md.life := by
  unfold execFence at h
  dsimp only at h
  (repeat' split at h) <;> cases h <;> simp

@[simp] theorem State.readEnter_life (s : State) (l : LaneId) (core pc addr size rd : Nat) (signed spec : Bool) :
    (State.readEnter s l core pc addr size rd signed spec).md.life = s.md.life := by simp [State.readEnter]

theorem execBridgeLoad_life {l : LaneId} {core pc addr size rd : Nat} {signed spec amo : Bool} {who : Runner} {s s' : State} (h : execBridgeLoad l core pc addr size rd signed spec amo who s = .next s') :
    s'.md.life = s.md.life := by
  unfold execBridgeLoad at h
  split at h <;> cases h
  · rfl
  · refine State.guarded_life _ _ _ _ _ _ _ _ _ (fun t => ?_)
    (try dsimp only); (repeat' split) <;> first | exact State.oweFault_life (by assumption) | (simp; done) | ((repeat' split) <;> simp)

theorem execWriteResponse_life {l : LaneId} {s s' : State} (h : execWriteResponse l s = .next s') : s'.md.life = s.md.life := by
  unfold execWriteResponse at h
  (repeat' split at h) <;> cases h <;> simp

theorem execReadResponse_life {l : LaneId} {tag : Nat} {ecc : Bool} {s s' : State} (h : execReadResponse l tag ecc s = .next s') :
    s'.md.life = s.md.life := by
  unfold execReadResponse at h
  dsimp only at h
  (repeat' split at h) <;> cases h <;> simp

theorem execFlushAck_life {l : LaneId} {tag : Nat} {s s' : State} (h : execFlushAck l tag s = .next s') : s'.md.life = s.md.life := by
  unfold execFlushAck at h
  (repeat' split at h) <;> cases h <;> simp

theorem execLinkRetrained_life {l : LaneId} {s s' : State} (h : execLinkRetrained l s = .next s') : s'.md.life = s.md.life := by
  unfold execLinkRetrained at h
  (repeat' split at h) <;> cases h <;> simp

theorem execDiscardTimerExpire_life {l : LaneId} {write : Bool} {i done : Nat} {s s' : State} (h : execDiscardTimerExpire l write i done s = .next s') :
    s'.md.life = s.md.life := by
  unfold execDiscardTimerExpire at h
  dsimp only at h
  (repeat' split at h) <;> cases h <;> simp

theorem execLaneMemoryRead_life {l : LaneId} {core pc addr size rd : Nat} {signed : Bool} {op : MemOp} {who : Runner} {ecc : EccResult} {s s' : State} (h : execLaneMemoryRead l core pc addr size rd signed op who ecc s = .next s') :
    s'.md.life = s.md.life := by
  unfold execLaneMemoryRead at h
  dsimp only at h
  (repeat' split at h) <;> cases h <;> simp

theorem execTckFrameLowRead_life {l : LaneId} {core rd : Nat} {who : Runner} {s s' : State} (h : execTckFrameLowRead l core rd who s = .next s') :
    s'.md.life = s.md.life := by
  unfold execTckFrameLowRead at h
  (repeat' split at h) <;> cases h <;> simp

theorem execXchVcountWrite_life {l : LaneId} {core v : Nat} {s s' : State} (h : execXchVcountWrite l core v s = .next s') :
    s'.md.life = s.md.life := by
  unfold execXchVcountWrite at h
  (repeat' split at h) <;> cases h <;> simp

@[simp] theorem State.registerStore_life (s : State) (l : LaneId) (core pc addr size : Nat) (v : Word) :
    (s.registerStore l core pc addr size v).md.life = s.md.life := by
  unfold State.registerStore
  try dsimp only
  repeat' split
  all_goals first | simp | simp [State.oweFault_life ‹_›]

theorem execRegisterWrite_life {l : LaneId} {core pc addr size : Nat} {v : Word} {who : Runner} {s s' : State} (h : execRegisterWrite l core pc addr size v who s = .next s') :
    s'.md.life = s.md.life := by
  unfold execRegisterWrite at h
  (repeat' split at h) <;> cases h <;> simp

theorem execW1cWrite_life {l : LaneId} {core pc addr : Nat} {v : Word} {set : Nat} {who : Runner} {s s' : State} (h : execW1cWrite l core pc addr v set who s = .next s') :
    s'.md.life = s.md.life := by
  unfold execW1cWrite at h
  (repeat' split at h) <;> cases h <;> simp

theorem execRcRead_life {l : LaneId} {core pc addr size rd : Nat} {signed : Bool} {more : Nat} {who : Runner} {s s' : State} (h : execRcRead l core pc addr size rd signed more who s = .next s') :
    s'.md.life = s.md.life := by
  unfold execRcRead at h
  split at h <;> cases h
  · rfl
  · refine State.guarded_life _ _ _ _ _ _ _ _ _ (fun t => ?_)
    have ho : ∀ x, (if inPeripheral addr then none else t.oweFault l core pc) = some x → x.md.life = t.md.life := by
      intro x hx
      split at hx
      · cases hx
      · exact State.oweFault_life hx
    split
    · simp
    · split
      · exact ho _ (by assumption)
      · (repeat' split) <;> (try simp) <;> (repeat' split) <;> simp

/-! ### Commit.lean -/

@[simp] theorem State.pendSet_life (s : State) (i j : Nat) (bs : List Byte) :
    (State.pendSet s i j bs).md.life = s.md.life := by simp [State.pendSet]

@[simp] theorem State.merged_life (s : State) : (State.merged s).md.life = s.md.life := by simp [State.merged]

@[simp] theorem State.withPair_life (s : State) : s.withPair.md.life = s.md.life := by
  unfold State.withPair
  generalize pairSets = xs
  split
  · exact foldl_life (fun s (p : Nat × Nat × List Byte) => s.storedSet p.1 p.2.1 p.2.2) (fun _ _ => rfl) _ _
  · rfl

@[simp] theorem State.condEvent_life (s t : State) (c : Cond) : (State.condEvent s t c).md.life = s.md.life := by simp [State.condEvent]

@[simp] theorem State.hubTakes_life (s old : State) : (s.hubTakes old).md.life = s.md.life := by
  unfold State.hubTakes
  extract_lets s1 roles s2 s3 s4
  clear_value (e4 : s4 = _)
  clear_value (e3 : s3 = _)
  clear_value roles (e2 : s2 = _)
  clear_value (e1 : s1 = _)
  have h1 : s1.md.life = s.md.life := by rw [e1, State.loadNetCfg_life]
  have h2 : s2.md.life = s1.md.life := by
    rw [e2]
    split
    · rw [State.tbNewRole_life, State.startTb_life]
    · rfl
  have h3 : s3.md.life = s2.md.life := by rw [e3, State.dropClaims_life]
  have h4 : s4.md.life = s3.md.life := by
    rw [e4]
    split
    · rfl
    · rw [State.newTrellis_life]
  split
  · rfl
  · rw [← h1, ← h2, ← h3, ← h4]
    generalize List.range 8 = xs
    refine foldl_life _ ?_ _ _
    intro s ch
    split
    · rw [State.recommitCan_life]
    · rfl

@[simp] theorem State.takeStaged_life (s : State) : (State.takeStaged s).md.life = s.md.life := by simp [State.takeStaged]

@[simp] theorem State.commit_life (s : State) : s.commit.1.md.life = s.md.life := by
  unfold State.commit
  try dsimp only
  split <;> simp

@[simp] theorem State.discard_life (s : State) : (State.discard s).md.life = s.md.life := by simp [State.discard]

@[simp] theorem State.restoreDefaults_life (s : State) : s.restoreDefaults.md.life = s.md.life := by
  unfold State.restoreDefaults
  extract_lets rows vs x
  clear_value vs
  rfl

theorem State.imageValue_life {s t : State} {i j : Nat} {bs : List Byte} (h : s.imageValue i j bs = some t) : t.md.life = s.md.life := by
  unfold State.imageValue at h
  (repeat' split at h) <;> cases h <;> simp

theorem State.imageValues_life {s t : State} (vs : List (Nat × Nat × List Byte)) (h : s.imageValues vs = some t) :
    t.md.life = s.md.life := by
  induction vs generalizing s with
  | nil => cases h; rfl
  | cons v vs ih =>
    obtain ⟨i, j, bs⟩ := v
    unfold State.imageValues at h
    split at h
    · rw [ih h, State.imageValue_life ‹_›]
    · cases h

@[simp] theorem State.loadImage_life (s : State) (b : List Byte) : (s.loadImage b).1.md.life = s.md.life := by
  unfold State.loadImage
  try dsimp only
  repeat' split
  all_goals first | rfl | simp [State.imageValues_life _ ‹_›]

/-! ### Relay.lean -/

@[simp] theorem State.sramSet_life (s : State) (addr : Nat) (bs : List Byte) :
    (State.sramSet s addr bs).md.life = s.md.life := by simp [State.sramSet]

@[simp] theorem State.deliver_life (s : State) (c : Client) (b : List Byte) : (s.deliver c b).md.life = s.md.life := by
  unfold State.deliver
  split
  · rfl
  · split
    · extract_lets ch room
      exact foldl_life (fun s (f : List Byte) => s.emit .can ch (s.obj 0x0101 3) f) (fun _ _ => rfl) _ _
    · rfl

@[simp] theorem State.respond_life (s : State) (q : OpenRequest) (op code : Nat) (last : Bool) (data : List Byte) :
    (State.respond s q op code last data).md.life = s.md.life := by simp [State.respond]

@[simp] theorem State.relayPut_life (s : State) (req i j src : Nat) (bs : List Byte) :
    (State.relayPut s req i j src bs).md.life = s.md.life := by simp [State.relayPut]

@[simp] theorem State.relayRequest_life (s : State) (q : OpenRequest) (src : Nat) (bs : List Byte) :
    (State.relayRequest s q src bs).md.life = s.md.life := by simp [State.relayRequest]

@[simp] theorem State.relayFinish_life (s : State) (req code : Nat) : (State.relayFinish s req code).md.life = s.md.life := by
  unfold State.relayFinish
  dsimp only
  (repeat' split) <;> simp

@[simp] theorem State.relayExpire_life (s : State) : (State.relayExpire s).md.life = s.md.life := by simp [State.relayExpire]

theorem execRelayEntryExpire_life {s s' : State} (h : execRelayEntryExpire s = .next s') : s'.md.life = s.md.life := by
  unfold execRelayEntryExpire at h
  (repeat' split at h) <;> cases h <;> simp

@[simp] theorem State.relayOutcome_life (s : State) (seq code : Nat) : (State.relayOutcome s seq code).md.life = s.md.life := by
  unfold State.relayOutcome
  (repeat' split) <;> simp

@[simp] theorem State.rackOutcome_life (s : State) (src v : Nat) : (State.rackOutcome s src v).1.md.life = s.md.life := by
  unfold State.rackOutcome
  dsimp only
  (repeat' split) <;> simp

theorem State.relayEffect_keeps (P : Life → Prop) (hP : ∀ (s : State) (v : Nat) (new : Life), P s.md.life → s.lifeTo v = some new → P new)
    (s : State) (src i j : Nat) (bs : List Byte) (h : P s.md.life) : P (s.relayEffect src i j bs).1.md.life := by
  have pr : ∀ (c : Prop) [Decidable c] (x y : State × Nat), P x.1.md.life → P y.1.md.life → P (if c then x else y).1.md.life := by
    intro c _ x y hx hy
    split <;> assumption
  unfold State.relayEffect
  extract_lets v
  refine pr _ _ _ (by simpa using h) ?_
  refine pr _ _ _ (s.lifeRequest_keeps P src v h (fun new => hP s v new h)) ?_
  refine pr _ _ _ (by simpa using h) ?_
  refine pr _ _ _ h ?_
  refine pr _ _ _ h ?_
  exact h

@[simp] theorem State.relayOwn_life (s : State) (l : LaneId) (src i code : Nat) (bs : List Byte) :
    (s.relayOwn l src i code bs).1.md.life = s.md.life := by
  unfold State.relayOwn
  split
  · simp
  · split
    · simp
    · rfl

theorem State.relayDo_keeps (P : Life → Prop) (hP : ∀ (s : State) (v : Nat) (new : Life), P s.md.life → s.lifeTo v = some new → P new)
    (s : State) (l : LaneId) (seq src i j : Nat) (bs : List Byte) (h : P s.md.life) : P (s.relayDo l seq src i j bs).1.md.life := by
  unfold State.relayDo
  split
  · simpa using h
  · have e := State.relayEffect_keeps P hP s src i j bs h
    generalize s.relayEffect src i j bs = q at e ⊢
    obtain ⟨t, code⟩ := q
    simpa using e

@[simp] theorem State.relayReport_life (s : State) (l : LaneId) (seq i j code : Nat) :
    (State.relayReport s l seq i j code).md.life = s.md.life := by simp [State.relayReport]

theorem State.relayEntry_keeps (P : Life → Prop) (hP : ∀ (s : State) (v : Nat) (new : Life), P s.md.life → s.lifeTo v = some new → P new)
    (s : State) (l : LaneId) (e : List Byte) (h : P s.md.life) : P (s.relayEntry l e).md.life := by
  unfold State.relayEntry
  extract_lets seq i j rt newer num part bad all last s1
  clear_value (e1 : s1 = _)
  have h1 : P s1.md.life := by rw [e1, State.updLane_md]; exact h
  split
  · exact h
  · split
    · simpa using h1
    · split
      · simpa using h1
      · have e := State.relayDo_keeps P hP s1 l seq (byteAt e 6) i j all h1
        generalize s1.relayDo l seq (byteAt _ 6) i j all = q at e ⊢
        obtain ⟨t, code⟩ := q
        simpa using e

theorem State.relayAct_keeps (P : Life → Prop) (hP : ∀ (s : State) (v : Nat) (new : Life), P s.md.life → s.lifeTo v = some new → P new)
    (s : State) (l : LaneId) (h : P s.md.life) : P (s.relayAct l).md.life := by
  unfold State.relayAct
  split
  · exact h
  · rename_i r e
    clear e
    generalize List.range (min 8 (byteAt r 0)) = xs
    induction xs generalizing s with
    | nil => exact h
    | cons x xs ih =>
      rw [List.foldl_cons]
      exact ih _ (State.relayEntry_keeps P hP s l _ h)

/-! ### Service.lean -/

@[simp] theorem State.hubValue_life (s : State) (src i j : Nat) (r : ObjRow) (bs : List Byte) :
    (s.hubValue src i j r bs).1.md.life = s.md.life := by
  have pr : ∀ (c : Prop) [Decidable c] (x y : State × Nat), x.1.md.life = s.md.life → y.1.md.life = s.md.life →
      (if c then x else y).1.md.life = s.md.life := by
    intro c _ x y hx hy
    split <;> assumption
  unfold State.hubValue
  extract_lets v
  clear_value v
  refine pr _ _ _ (by simp) ?_
  refine pr _ _ _ ?_ ?_
  · split
    · exact s.commit_life
    · exact s.discard_life
    · exact s.restoreDefaults_life
  refine pr _ _ _ (s.loadImage_life _) ?_
  refine pr _ _ _ (pr _ _ _ rfl (by simp)) ?_
  refine pr _ _ _ (by simp) ?_
  refine pr _ _ _ (pr _ _ _ (by simp) (by simp)) ?_
  refine pr _ _ _ (by simp) ?_
  refine pr _ _ _ ?_ ?_
  · dsimp only
    split
    · exact s.canRelease_life _ _
    · rfl
  refine pr _ _ _ (by simp) ?_
  refine pr _ _ _ (by simp) ?_
  refine pr _ _ _ (by simp) ?_
  refine pr _ _ _ (by simp) ?_
  refine pr _ _ _ (pr _ _ _ (by simp) rfl) ?_
  rfl

@[simp] theorem State.transferSet_life (s : State) (k : Nat) (t : Transfer) :
    (State.transferSet s k t).md.life = s.md.life := by simp [State.transferSet]

@[simp] theorem State.transferEnd_life (s : State) (k : Nat) : (State.transferEnd s k).md.life = s.md.life := by simp [State.transferEnd]

@[simp] theorem State.deadClear_life (s : State) (c : Client) (k : Nat) :
    (State.deadClear s c k).md.life = s.md.life := by simp [State.deadClear]

@[simp] theorem State.transferKill_life (s : State) (k code : Nat) : (State.transferKill s k code).md.life = s.md.life := by
  unfold State.transferKill
  (repeat' split) <;> simp

theorem execTransferTimeout_life {i j : Nat} {s s' : State} (h : execTransferTimeout i j s = .next s') : s'.md.life = s.md.life := by
  unfold execTransferTimeout at h
  cases h
  simp

@[simp] theorem State.refuseRequest_life (s : State) (i v code : Nat) :
    (State.refuseRequest s i v code).md.life = s.md.life := by simp [State.refuseRequest]

@[simp] theorem State.writeSegment_life (s : State) (c : Client) (q : OpenRequest) (src : Nat) (p : Pdu) (r : ObjRow) :
    (State.writeSegment s c q src p r).md.life = s.md.life := by simp [State.writeSegment]

@[simp] theorem State.readAnswer_life (s : State) (q : OpenRequest) (p : Pdu) (r : ObjRow) :
    (State.readAnswer s q p r).md.life = s.md.life := by simp [State.readAnswer]

@[simp] theorem State.handle_life (s : State) (c : Client) (q : OpenRequest) (src : Nat) (p : Pdu) :
    (State.handle s c q src p).md.life = s.md.life := by
  unfold State.handle
  (repeat' split) <;> simp

@[simp] theorem State.clientFault_life (s : State) (c : Client) (code : Nat) (parts : List (Nat × Nat)) :
    (State.clientFault s c code parts).md.life = s.md.life := by simp [State.clientFault]

@[simp] theorem State.outcomePdu_life (s : State) (p : Pdu) : (State.outcomePdu s p).md.life = s.md.life := by simp [State.outcomePdu]

@[simp] theorem State.serve_life (s : State) (c : Client) (b : List Byte) : (State.serve s c b).md.life = s.md.life := by
  unfold State.serve
  dsimp only
  (repeat' split) <;> simp

theorem execServiceRead_life {c : Client} {b : List Byte} {s s' : State} (h : execServiceRead c b s = .next s') :
    s'.md.life = s.md.life := by
  unfold execServiceRead at h
  (repeat' split at h) <;> cases h <;> simp

theorem execServiceWrite_life {c : Client} {b : List Byte} {s s' : State} (h : execServiceWrite c b s = .next s') :
    s'.md.life = s.md.life := by
  unfold execServiceWrite at h
  (repeat' split at h) <;> cases h <;> simp

theorem execServiceInfo_life {c : Client} {b : List Byte} {s s' : State} (h : execServiceInfo c b s = .next s') :
    s'.md.life = s.md.life := by
  unfold execServiceInfo at h
  (repeat' split at h) <;> cases h <;> simp

theorem execServiceCancel_life {c : Client} {b : List Byte} {s s' : State} (h : execServiceCancel c b s = .next s') :
    s'.md.life = s.md.life := by
  unfold execServiceCancel at h
  (repeat' split at h) <;> cases h <;> simp

theorem execServiceOutcome_life {l : LaneId} {b : List Byte} {s s' : State} (h : execServiceOutcome l b s = .next s') :
    s'.md.life = s.md.life := by
  unfold execServiceOutcome at h
  (repeat' split at h) <;> cases h <;> simp

theorem execLaneLocalRequest_life {l : LaneId} {s s' : State} (h : execLaneLocalRequest l s = .next s') : s'.md.life = s.md.life := by
  unfold execLaneLocalRequest at h
  dsimp only at h
  (repeat' split at h) <;> cases h <;> simp

@[simp] theorem State.canBroken_life (s : State) (ch : Nat) : (State.canBroken s ch).md.life = s.md.life := by simp [State.canBroken]

theorem execCanServiceSegment_life {ch : Nat} {f : CanFrame} {s s' : State} (h : execCanServiceSegment ch f s = .next s') :
    s'.md.life = s.md.life := by
  unfold execCanServiceSegment at h
  dsimp only at h
  (repeat' split at h) <;> cases h <;> simp

theorem execCanSegmentGapTimeout_life {s s' : State} (h : execCanSegmentGapTimeout s = .next s') : s'.md.life = s.md.life := by
  unfold execCanSegmentGapTimeout at h
  (repeat' split at h) <;> cases h <;> simp

theorem execConfigCommit_life {src : Nat} {s s' : State} (h : execConfigCommit src s = .next s') : s'.md.life = s.md.life := by
  unfold execConfigCommit at h
  exact out_ite (P := fun t => t.md.life = s.md.life) (next_all s.commit_life) (next_all rfl) s' h

theorem execConfigDiscard_life {src : Nat} {s s' : State} (h : execConfigDiscard src s = .next s') : s'.md.life = s.md.life := by
  unfold execConfigDiscard at h
  (repeat' split at h) <;> cases h <;> simp

theorem execConfigRestoreDefaults_life {src : Nat} {s s' : State} (h : execConfigRestoreDefaults src s = .next s') :
    s'.md.life = s.md.life := by
  unfold execConfigRestoreDefaults at h
  (repeat' split at h) <;> cases h <;> simp

theorem execDictionaryImageLoad_life {src : Nat} {b : List Byte} {s s' : State} (h : execDictionaryImageLoad src b s = .next s') :
    s'.md.life = s.md.life := by
  unfold execDictionaryImageLoad at h
  (repeat' split at h) <;> cases h <;> simp

theorem execTrainDirectoryWrite_life {src : Nat} {b : List Byte} {s s' : State} (h : execTrainDirectoryWrite src b s = .next s') :
    s'.md.life = s.md.life := by
  unfold execTrainDirectoryWrite at h
  (repeat' split at h) <;> cases h <;> simp

/-! ### Tick.lean -/

@[simp] theorem State.tickUpd_life (s : State) (l : LaneId) (f : LaneTick → LaneTick) :
    (State.tickUpd s l f).md.life = s.md.life := by simp [State.tickUpd]

@[simp] theorem State.outOfStep_life (s : State) (l : LaneId) : (State.outOfStep s l).md.life = s.md.life := by simp [State.outOfStep]

theorem execSyncBeat_life {l : LaneId} {p q : Option Int} {s s' : State} (h : execSyncBeat l p q s = .next s') :
    s'.md.life = s.md.life := by
  unfold execSyncBeat at h
  (repeat' split at h) <;> cases h <;> simp

theorem execLaneOutOfStep_life {l : LaneId} {s s' : State} (h : execLaneOutOfStep l s = .next s') : s'.md.life = s.md.life := by
  unfold execLaneOutOfStep at h
  (repeat' split at h) <;> cases h <;> simp

@[simp] theorem State.markerReject_life (s : State) (l : LaneId) (offset : Nat) :
    (State.markerReject s l offset).md.life = s.md.life := by simp [State.markerReject]

theorem execTickMarker_life {l : LaneId} {offset : Int} {s s' : State} (h : execTickMarker l offset s = .next s') :
    s'.md.life = s.md.life := by
  unfold execTickMarker at h
  dsimp only at h
  (repeat' split at h) <;> cases h <;> simp

@[simp] theorem State.hubLossEnter_life (s : State) (l : LaneId) :
    (State.hubLossEnter s l).md.life = s.md.life := by simp [State.hubLossEnter]

@[simp] theorem State.hubLossLeave_life (s : State) (l : LaneId) :
    (State.hubLossLeave s l).md.life = s.md.life := by simp [State.hubLossLeave]

@[simp] theorem State.markerTally_life (s : State) (l : LaneId) (n : Nat) :
    (State.markerTally s l n).md.life = s.md.life := by simp [State.markerTally]

theorem execHubLossEnter_life {l : LaneId} {s s' : State} (h : execHubLossEnter l s = .next s') : s'.md.life = s.md.life := by
  unfold execHubLossEnter at h
  (repeat' split at h) <;> cases h <;> simp

theorem execHubLossLeave_life {l : LaneId} {s s' : State} (h : execHubLossLeave l s = .next s') : s'.md.life = s.md.life := by
  unfold execHubLossLeave at h
  (repeat' split at h) <;> cases h <;> simp

@[simp] theorem State.maskCores_life (s : State) (l : LaneId) (masked : Bool) :
    (State.maskCores s l masked).md.life = s.md.life := by simp [State.maskCores]

@[simp] theorem State.takeFree_life (s : State) (l : LaneId) (early : Bool) (rs : List PassResult) :
    (State.takeFree s l early rs).md.life = s.md.life := by simp [State.takeFree]

theorem execEndOfA_keeps (P : Life → Prop) (hP : ∀ (s : State) (v : Nat) (new : Life), P s.md.life → s.lifeTo v = some new → P new)
    {l : LaneId} {s s' : State} (e : execEndOfA l s = .next s') (h : P s.md.life) : P s'.md.life := by
  unfold execEndOfA at e
  refine out_ite (P := fun t => P t.md.life) (next_all h) ?_ s' e
  extract_lets s1 s2 s3 s4 s5 s6 s7
  clear_value (e7 : s7 = _)
  clear_value (e6 : s6 = _)
  clear_value (e5 : s5 = _)
  clear_value (e4 : s4 = _)
  clear_value (e3 : s3 = _)
  clear_value (e2 : s2 = _)
  clear_value (e1 : s1 = _)
  have h1 : P s1.md.life := by
    rw [e1]
    exact State.relayAct_keeps P hP _ _ (by rw [State.agree_life]; exact h)
  have h2 : s2.md.life = s1.md.life := by
    rw [e2]
    split <;> simp
  have h3 : s3.md.life = s2.md.life := by
    rw [e3]
    split <;> simp
  have h4 : s4.md.life = s3.md.life := by rw [e4, State.reproof_life]
  have h5 : s5.md.life = s4.md.life := by
    rw [e5]
    exact foldl_life _ (fun s d => State.writeInput_life _ _ _) _ _
  have h6 : s6.md.life = s4.md.life := by
    rw [e6]
    split
    · rw [State.maskCores_life, State.setPass_life, h5]
    · rfl
  refine next_all ?_
  rw [State.lfSet_md, e7, State.lfSet_md, h6, h4, h3, h2]
  exact h1

@[simp] theorem State.phaseV_life (s : State) (l : LaneId) (ns : List PassResult) (since : Nat) :
    (State.phaseV s l ns since).md.life = s.md.life := by simp [State.phaseV]

theorem execEnterPhaseV_life {l : LaneId} {es : List EncResult} {ns : List PassResult} {since : Nat} {s s' : State} (h : execEnterPhaseV l es ns since s = .next s') :
    s'.md.life = s.md.life := by
  unfold execEnterPhaseV at h
  (repeat' split at h) <;> cases h <;> simp

theorem execSafetyDeadline_life {l : LaneId} {es : List EncResult} {ns : List PassResult} {s s' : State} (h : execSafetyDeadline l es ns s = .next s') :
    s'.md.life = s.md.life := by
  unfold execSafetyDeadline at h
  (repeat' split at h) <;> cases h <;> simp

theorem execNonsafetyDeadline_life {l : LaneId} {rs : List PassResult} {pages : List Nat} {wend : Nat} {s s' : State} (h : execNonsafetyDeadline l rs pages wend s = .next s') :
    s'.md.life = s.md.life := by
  unfold execNonsafetyDeadline at h
  (repeat' split at h) <;> cases h <;> simp

/-! ### Edges.lean -/

@[simp] theorem State.applyDueRegs_life (s : State) (l : LaneId) :
    (State.applyDueRegs s l).md.life = s.md.life := by simp [State.applyDueRegs]

@[simp] theorem State.newCycle_life (s : State) (l : LaneId) : (State.newCycle s l).md.life = s.md.life := by simp [State.newCycle]

@[simp] theorem State.newCode_life (s : State) (l : LaneId) (n : Nat) : (State.newCode s l n).md.life = s.md.life := by simp [State.newCode]

@[simp] theorem State.loadCommit_life (s : State) (l : LaneId) : (State.loadCommit s l).md.life = s.md.life := by simp [State.loadCommit]

@[simp] theorem State.modeEdge_life (s : State) (n : Nat) : (State.modeEdge s n).md.life = s.md.life := by simp [State.modeEdge]

@[simp] theorem State.beginL_life (s : State) (l : LaneId) (cycle : Nat) :
    (State.beginL s l cycle).md.life = s.md.life := by simp [State.beginL]

theorem execTickEdge_life {l : LaneId} {current : Nat} {s s' : State} (h : execTickEdge l current s = .next s') :
    s'.md.life = s.md.life := by
  unfold execTickEdge at h
  dsimp only at h
  (repeat' split at h) <;> cases h <;> simp

theorem execResetInputFall_life {width : Nat} {s s' : State} (h : execResetInputFall width s = .next s') : s'.md.life = s.md.life := by
  unfold execResetInputFall at h
  (repeat' split at h) <;> cases h <;> simp

@[simp] theorem State.edgeSymbol_life (s : State) (l : LaneId) (at_ : Option Nat) : (State.edgeSymbol s l at_).md.life = s.md.life := by
  unfold State.edgeSymbol
  dsimp only
  (repeat' split) <;> simp

@[simp] theorem State.spacingSplit_life (s : State) : (State.spacingSplit s).md.life = s.md.life := by simp [State.spacingSplit]

@[simp] theorem State.advHours_life (s : State) : (State.advHours s).md.life = s.md.life := by simp [State.advHours]

theorem execSupervisorEdge_life {a b c : Option Nat} {line : Bool} {m : Option Supply} {s s' : State} (h : execSupervisorEdge a b c line m s = .next s') :
    s'.md.life = s.md.life := by
  unfold execSupervisorEdge at h
  (repeat' split at h) <;> cases h <;> simp

@[simp] theorem State.generate_life (s : State) (n : Nat) : (s.generate n).md.life = s.md.life := by
  unfold State.generate
  try dsimp only
  refine foldl_life _ ?_ _ _
  intro s c
  try dsimp only
  repeat' split
  all_goals simp

@[simp] theorem State.relaySnapshot_life (s : State) (n : Nat) :
    (State.relaySnapshot s n).md.life = s.md.life := by simp [State.relaySnapshot]

@[simp] theorem State.armEdge_life (s : State) : (State.armEdge s).md.life = s.md.life := by simp [State.armEdge]

@[simp] theorem State.sendMarkers_life (s : State) : (State.sendMarkers s).md.life = s.md.life := by simp [State.sendMarkers]

theorem execHubEdge_life {dt : Nat} {late : List (Nat × Nat)} {s s' : State} (h : execHubEdge dt late s = .next s') :
    s'.md.life = s.md.life := by
  suffices H : ∀ t, execHubEdge dt late s = .next t → t.md.life = s.md.life from H s' h
  clear h s'
  unfold execHubEdge
  dsimp only
  refine out_ite (next_all rfl) (next_all ?_)
  rw [State.bookRelease_life, State.canHoldNow_life, State.trellisEdge_life, State.activateAll_life, State.armEdge_life]
  refine Eq.trans (congrArg ModeState.life State.md_mk) ?_
  rw [State.snapshotTags_life, State.relaySnapshot_life, State.driveSwitches_life, State.voter1Edge_life]
  refine Eq.trans (congrArg ModeState.life State.md_mk) ?_
  rw [State.sendMarkers_life, State.advRaw_life]

end Sys2Proof.Machine
end

