-- ==== Sys2Proof/Laws/Queue.lean ====
section
/-! SUPPORT. No operation and no command touches the queue of waiting commands, which step alone shortens. A lemma `X_pending` says so
of X; the lemmas about the relay and its requests say that they keep every property of the queue. -/

namespace Sys2Proof.Machine

/-! ### Ops.lean -/

@[simp] theorem foldl_pending {α : Type} (f : State → α → State) (h : ∀ s x, (f s x).pending = s.pending) (xs : List α) (s : State) :
    (xs.foldl f s).pending = s.pending := by
  induction xs generalizing s with
  | nil => rfl
  | cons x xs ih => rw [List.foldl_cons, ih, h]
@[simp] theorem onLanes_pending (f : LaneId → State → State) (h : ∀ l s, (f l s).pending = s.pending) (s : State) :
    (onLanes f s).pending = s.pending := by
  simp [onLanes, h]
@[simp] theorem ite_pending (c : Prop) [Decidable c] (s t : State) : (if c then s else t).pending = if c then s.pending else t.pending := by
  split <;> rfl
theorem nextOr_pending (s : State) (o : Host.Outcome State Fault Refusal) (h : ∀ t, o = .next t → t.pending = s.pending) :
    (nextOr s o).pending = s.pending := by
  cases o with
  | next t => exact h t rfl
  | fault r => rfl
  | refused r => rfl
theorem getD_pending (s : State) (o : Option State) (h : ∀ t, o = some t → t.pending = s.pending) : (o.getD s).pending = s.pending := by
  cases o with
  | some t => exact h t rfl
  | none => rfl
theorem State.queue_mk {x0 x1 x2 x3 x4 x5 x6 x7 x8 x9 x10 x11 x12 x13 x14 x15 x16 x17 x18 x19 x20 x21} : (State.mk x0 x1 x2 x3 x4 x5 x6 x7 x8 x9 x10 x11 x12 x13 x14 x15 x16 x17 x18 x19 x20 x21).pending = x0 := rfl

@[simp] theorem State.freeWord_pending (s : State) : (State.freeWord s).2.pending = s.pending := by simp [State.freeWord]

/-! ### Book.lean -/

@[simp] theorem State.bookInt_pending (s : State) (f : Fld) : (State.bookInt s f).pending = s.pending := by simp [State.bookInt]

@[simp] theorem State.bookWrite_pending (s : State) (frame code partner supp origin : Nat) (summary loss : Bool) (data : List Byte) :
    (State.bookWrite s frame code partner supp origin summary loss data).pending = s.pending := by simp [State.bookWrite]

@[simp] theorem State.bucketSet_pending (s : State) (code : Nat) (k : Bucket) :
    (State.bucketSet s code k).pending = s.pending := by simp [State.bucketSet]

@[simp] theorem State.clearLoss_pending (s : State) (origin : Nat) :
    (State.clearLoss s origin).pending = s.pending := by simp [State.clearLoss]

@[simp] theorem State.bookProcess_pending (s : State) (frame code partner supp origin : Nat) (data : List Byte) :
    (State.bookProcess s frame code partner supp origin data).pending = s.pending := by
  unfold State.bookProcess
  (repeat' split) <;> simp

@[simp] theorem State.partnerSet_pending (s : State) (p : Nat) (x : Partner) :
    (State.partnerSet s p x).pending = s.pending := by simp [State.partnerSet]

@[simp] theorem State.partnerCheck_pending (s : State) (p : Nat) : (State.partnerCheck s p).1.pending = s.pending := by
  unfold State.partnerCheck
  dsimp only
  (repeat' split) <;> simp

@[simp] theorem State.countViolation_pending (s : State) (p code : Nat) :
    (State.countViolation s p code).pending = s.pending := by simp [State.countViolation]

@[simp] theorem State.bookLane_pending (s : State) (frame code partner origin : Nat) (data : List Byte) :
    (State.bookLane s frame code partner origin data).pending = s.pending := by
  unfold State.bookLane
  repeat' (first | split | simp)
  all_goals (rename_i h; have h2 := congrArg (fun p => p.1.pending) h; simp at h2; simp [h2])

@[simp] theorem State.decantEnd_pending (s : State) (code : Nat) : (State.decantEnd s code).pending = s.pending := by simp [State.decantEnd]

@[simp] theorem collectLane_pending (l : LaneId) (subs : List Submission) (acc : State × List SubGroup) :
    (collectLane l subs acc).1.pending = acc.1.pending := by
  induction subs generalizing acc with
  | nil => rfl
  | cons sub subs ih =>
    obtain ⟨s, gs⟩ := acc
    rw [collectLane, ih]
    try dsimp only
    split <;> simp

@[simp] theorem State.bookRelease_pending (s : State) : s.bookRelease.pending = s.pending := by
  unfold State.bookRelease
  split
  · rfl
  · simp [lanes]

@[simp] theorem State.bookPush_pending (s : State) (l : LaneId) (sub : Submission) :
    (State.bookPush s l sub).pending = s.pending := by simp [State.bookPush]

@[simp] theorem State.bookSubmit_pending (s : State) (l : LaneId) (sub : Submission) :
    (State.bookSubmit s l sub).pending = s.pending := by simp [State.bookSubmit]

@[simp] theorem State.bookAll_pending (s : State) (sub : Submission) : (State.bookAll s sub).pending = s.pending := by simp [State.bookAll]

@[simp] theorem State.laneEvtP_pending (s : State) (l : LaneId) (code p : Nat) (parts : List (Nat × Nat)) :
    (State.laneEvtP s l code p parts).pending = s.pending := by simp [State.laneEvtP]

@[simp] theorem State.laneEvt_pending (s : State) (l : LaneId) (code : Nat) (parts : List (Nat × Nat)) :
    (State.laneEvt s l code parts).pending = s.pending := by simp [State.laneEvt]

@[simp] theorem State.allEvt_pending (s : State) (code : Nat) (parts : List (Nat × Nat)) :
    (State.allEvt s code parts).pending = s.pending := by simp [State.allEvt]

@[simp] theorem State.supEvt_pending (s : State) (code : Nat) (parts : List (Nat × Nat)) :
    (State.supEvt s code parts).pending = s.pending := by simp [State.supEvt]

@[simp] theorem State.hubEvtP_pending (s : State) (code p supp : Nat) (parts : List (Nat × Nat)) :
    (State.hubEvtP s code p supp parts).pending = s.pending := by simp [State.hubEvtP]

@[simp] theorem State.hubEvt_pending (s : State) (code : Nat) (parts : List (Nat × Nat)) :
    (State.hubEvt s code parts).pending = s.pending := by simp [State.hubEvt]

@[simp] theorem State.limitedEvt_pending (s : State) (p code : Nat) (parts : List (Nat × Nat)) :
    (State.limitedEvt s p code parts).pending = s.pending := by
  unfold State.limitedEvt
  repeat' (first | split | simp)
  all_goals (rename_i h; have h2 := congrArg (fun p => p.1.pending) h; simp at h2; simp [h2])

@[simp] theorem State.violation_pending (s : State) (p code : Nat) (parts : List (Nat × Nat)) :
    (State.violation s p code parts).pending = s.pending := by simp [State.violation]

/-! ### ModeOps.lean -/

@[simp] theorem State.loadFlags_pending (s : State) (l : LaneId) : (State.loadFlags s l).pending = s.pending := by simp [State.loadFlags]

@[simp] theorem State.loadMode_pending (s : State) (l : LaneId) : (State.loadMode s l).pending = s.pending := by simp [State.loadMode]

@[simp] theorem State.showReport_pending (s : State) (l : LaneId) (r : StartReport) :
    (State.showReport s l r).pending = s.pending := by simp [State.showReport]

@[simp] theorem State.showLone_pending (s : State) (l : LaneId) : (State.showLone s l).pending = s.pending := by simp [State.showLone]

@[simp] theorem State.enterVote_pending (s : State) (passed : Nat) :
    (State.enterVote s passed).pending = s.pending := by simp [State.enterVote]

@[simp] theorem State.clearVote_pending (s : State) : (State.clearVote s).pending = s.pending := by simp [State.clearVote]

@[simp] theorem State.freshTasks_pending (s : State) : (State.freshTasks s).pending = s.pending := by simp [State.freshTasks]

@[simp] theorem State.startValues_pending (s : State) : (State.startValues s).pending = s.pending := by simp [State.startValues]

@[simp] theorem State.coldValues_pending (s : State) : (State.coldValues s).pending = s.pending := by simp [State.coldValues]

@[simp] theorem State.changeMode_pending (s : State) (m : Mode) (cause n : Nat) :
    (State.changeMode s m cause n).pending = s.pending := by simp [State.changeMode]

@[simp] theorem State.notActed_pending (s : State) (what reason : Nat) :
    (State.notActed s what reason).pending = s.pending := by simp [State.notActed]

@[simp] theorem State.setDue_pending (s : State) (target : Mode) (frame cause : Nat) :
    (State.setDue s target frame cause).pending = s.pending := by
  unfold State.setDue
  (repeat' split) <;> simp

@[simp] theorem State.withhold_pending (s : State) (l : LaneId) (cause : Nat) :
    (State.withhold s l cause).pending = s.pending := by simp [State.withhold]

/-! ### TimeBase.lean -/

@[simp] theorem State.advRaw_pending (s : State) (dt : Nat) : (State.advRaw s dt).pending = s.pending := by simp [State.advRaw]

@[simp] theorem State.tbState_pending (s : State) (n cause : Nat) : (State.tbState s n cause).pending = s.pending := by simp [State.tbState]

@[simp] theorem State.tbStep_pending (s : State) (offset : Int) (source : Nat) :
    (State.tbStep s offset source).pending = s.pending := by simp [State.tbStep]

@[simp] theorem State.tbSet_pending (s : State) (t source : Nat) : (State.tbSet s t source).pending = s.pending := by simp [State.tbSet]

@[simp] theorem State.startTb_pending (s : State) : (State.startTb s).pending = s.pending := by simp [State.startTb]

@[simp] theorem State.tbNewRole_pending (s : State) (old : Nat) : (State.tbNewRole s old).pending = s.pending := by simp [State.tbNewRole]

@[simp] theorem State.tbRestart_pending (s : State) : (State.tbRestart s).pending = s.pending := by simp [State.tbRestart]

@[simp] theorem State.tbRunning_pending (s : State) : (State.tbRunning s).pending = s.pending := by simp [State.tbRunning]

@[simp] theorem State.tbViolation_pending (s : State) (p type : Nat) :
    (State.tbViolation s p type).pending = s.pending := by simp [State.tbViolation]

@[simp] theorem State.tbSync_pending (s : State) (offset : Int) : (State.tbSync s offset).pending = s.pending := by simp [State.tbSync]

theorem execPtpSyncReceive_pending {p : Nat} {offset : Int} {dt : Nat} {s s' : State} (h : execPtpSyncReceive p offset dt s = .next s') :
    s'.pending = s.pending := by
  unfold execPtpSyncReceive at h
  dsimp only at h
  (repeat' split at h) <;> cases h <;> simp

theorem execSyncReceiptTimeout_pending {dt : Nat} {s s' : State} (h : execSyncReceiptTimeout dt s = .next s') : s'.pending = s.pending := by
  unfold execSyncReceiptTimeout at h
  dsimp only at h
  (repeat' split at h) <;> cases h <;> simp

theorem execHoldoverTimeout_pending {dt : Nat} {s s' : State} (h : execHoldoverTimeout dt s = .next s') : s'.pending = s.pending := by
  unfold execHoldoverTimeout at h
  dsimp only at h
  (repeat' split at h) <;> cases h <;> simp

@[simp] theorem State.setRate_pending (s : State) (r : Nat) : (State.setRate s r).pending = s.pending := by simp [State.setRate]

theorem execRateUpdate_pending {r dt : Nat} {s s' : State} (h : execRateUpdate r dt s = .next s') : s'.pending = s.pending := by
  unfold execRateUpdate at h
  (repeat' split at h) <;> cases h <;> simp

@[simp] theorem State.setTime_pending (s : State) (t : Nat) : (State.setTime s t).1.pending = s.pending := by
  unfold State.setTime
  (repeat' split) <;> simp

theorem execSetTime_pending {src t dt : Nat} {s s' : State} (h : execSetTime src t dt s = .next s') : s'.pending = s.pending := by
  unfold execSetTime at h
  (repeat' split at h) <;> cases h <;> simp

@[simp] theorem State.settimeWrite_pending (s : State) (core v : Nat) : ((s.settimeWrite core v).getD s).pending = s.pending := by
  unfold State.settimeWrite
  split
  · rfl
  · split <;> simp

theorem State.settimeWrite_some_pending {s t : State} {core v : Nat} (h : s.settimeWrite core v = some t) : t.pending = s.pending := by
  simpa [h] using s.settimeWrite_pending core v

theorem execTbSettimeWrite_pending {l : LaneId} {core v dt : Nat} {s s' : State} (h : execTbSettimeWrite l core v dt s = .next s') :
    s'.pending = s.pending := by
  unfold execTbSettimeWrite at h
  (repeat' split at h) <;> cases h <;> simp

@[simp] theorem State.tbCapture_pending (s : State) (l : LaneId) : (State.tbCapture s l).pending = s.pending := by simp [State.tbCapture]

theorem execTbCapture_pending {l : LaneId} {v dt : Nat} {s s' : State} (h : execTbCapture l v dt s = .next s') : s'.pending = s.pending := by
  unfold execTbCapture at h
  (repeat' split at h) <;> cases h <;> simp

@[simp] theorem execTbCapture_pending' (l : LaneId) (v dt : Nat) (s : State) : (nextOr s (execTbCapture l v dt s)).pending = s.pending :=
  nextOr_pending _ _ (fun _ h => execTbCapture_pending h)

@[simp] theorem State.tbLowRead_pending (s : State) (l : LaneId) (disc : Bool) :
    (State.tbLowRead s l disc).2.pending = s.pending := by simp [State.tbLowRead]

theorem execTbLowWordRead_pending {l : LaneId} {disc : Bool} {rd dt : Nat} {s s' : State} (h : execTbLowWordRead l disc rd dt s = .next s') :
    s'.pending = s.pending := by
  unfold execTbLowWordRead at h
  dsimp only at h
  (repeat' split at h) <;> cases h <;> simp

@[simp] theorem State.tbSeq_pending (s : State) (k : Nat) : (State.tbSeq s k).2.pending = s.pending := by simp [State.tbSeq]

@[simp] theorem State.enqueueAt_pending (s : State) (p q raw : Nat) (b : List Byte) :
    (State.enqueueAt s p q raw b).pending = s.pending := by simp [State.enqueueAt]

theorem execSyncSend_pending {p dt : Nat} {s s' : State} (h : execSyncSend p dt s = .next s') : s'.pending = s.pending := by
  unfold execSyncSend at h
  dsimp only at h
  (repeat' split at h) <;> cases h <;> simp

theorem execPdelayRequestSend_pending {p : Nat} {result : Option (Nat × Bool)} {dt : Nat} {s s' : State} (h : execPdelayRequestSend p result dt s = .next s') :
    s'.pending = s.pending := by
  unfold execPdelayRequestSend at h
  dsimp only at h
  (repeat' split at h) <;> cases h <;> simp

@[simp] theorem State.correct_pending (s : State) (rawI rawE : Nat) (b : List Byte) : (State.correct s rawI rawE b).1.pending = s.pending := by
  unfold State.correct
  dsimp only
  (repeat' split) <;> simp

@[simp] theorem State.arrives_pending (s : State) (h : Nat) (sfd : Int) :
    (State.arrives s h sfd).pending = s.pending := by simp [State.arrives]

/-! ### Exchange.lean -/

@[simp] theorem State.showEndA_pending (s : State) (l : LaneId) : (State.showEndA s l).pending = s.pending := by simp [State.showEndA]

@[simp] theorem State.checkVlist_pending (s : State) (l : LaneId) : (State.checkVlist s l).pending = s.pending := by simp [State.checkVlist]

@[simp] theorem State.verifyStore_pending (s : State) (l : LaneId) (i code : Nat) :
    (State.verifyStore s l i code).pending = s.pending := by simp [State.verifyStore]

@[simp] theorem State.verifyAll_pending (s : State) (l : LaneId) : (State.verifyAll s l).pending = s.pending := by simp [State.verifyAll]

@[simp] theorem State.sendBoth_pending (s : State) (l : LaneId) (type layout : Nat) (payload : List Byte) :
    (State.sendBoth s l type layout payload).pending = s.pending := by simp [State.sendBoth]

@[simp] theorem State.countLink_pending (s : State) (l src : LaneId) :
    (State.countLink s l src).pending = s.pending := by simp [State.countLink]

@[simp] theorem State.frontEndCheck_pending (s : State) (l : LaneId) :
    (State.frontEndCheck s l).pending = s.pending := by simp [State.frontEndCheck]

theorem execImagePacketReceive_pending {l : LaneId} {p : LinkPacket} {s s' : State} (h : execImagePacketReceive l p s = .next s') :
    s'.pending = s.pending := by
  unfold execImagePacketReceive at h
  dsimp only at h
  (repeat' split at h) <;> cases h <;> simp

@[simp] theorem State.countLate_pending (s : State) (l k : LaneId) : (State.countLate s l k).pending = s.pending := by simp [State.countLate]

theorem execImageCutoff_pending {l : LaneId} {s s' : State} (h : execImageCutoff l s = .next s') : s'.pending = s.pending := by
  unfold execImageCutoff at h
  (repeat' split at h) <;> cases h <;> simp

theorem execReceiptReceive_pending {l : LaneId} {p : LinkPacket} {s s' : State} (h : execReceiptReceive l p s = .next s') :
    s'.pending = s.pending := by
  unfold execReceiptReceive at h
  (repeat' split at h) <;> cases h <;> simp

theorem execReceiptCutoff_pending {l : LaneId} {s s' : State} (h : execReceiptCutoff l s = .next s') : s'.pending = s.pending := by
  unfold execReceiptCutoff at h
  (repeat' split at h) <;> cases h <;> simp

@[simp] theorem State.inputRun_pending (s : State) (l : LaneId) (diff i : Nat) :
    (State.inputRun s l diff i).pending = s.pending := by simp [State.inputRun]

@[simp] theorem State.countDis_pending (s : State) (l : LaneId) (own agreed : List Byte) :
    (State.countDis s l own agreed).pending = s.pending := by simp [State.countDis]

@[simp] theorem State.setAgval_pending (s : State) (l : LaneId) (v : Nat) :
    (State.setAgval s l v).pending = s.pending := by simp [State.setAgval]

@[simp] theorem State.agree_pending (s : State) (l : LaneId) : (State.agree s l).pending = s.pending := by simp [State.agree]

theorem execInputDisagreementFlag_pending {l : LaneId} {i : Nat} {s s' : State} (h : execInputDisagreementFlag l i s = .next s') :
    s'.pending = s.pending := by
  unfold execInputDisagreementFlag at h
  (repeat' split at h) <;> cases h <;> simp

theorem execInputDisagreementClear_pending {l : LaneId} {i : Nat} {s s' : State} (h : execInputDisagreementClear l i s = .next s') :
    s'.pending = s.pending := by
  unfold execInputDisagreementClear at h
  (repeat' split at h) <;> cases h <;> simp

/-! ### Program.lean -/

@[simp] theorem State.showPlan_pending (s : State) (l : LaneId) : (State.showPlan s l).pending = s.pending := by simp [State.showPlan]

@[simp] theorem State.fillSafeMap_pending (s : State) (l : LaneId) : (State.fillSafeMap s l).pending = s.pending := by simp [State.fillSafeMap]

@[simp] theorem State.loadProg_pending (s : State) (l : LaneId) (b : List Byte) :
    (State.loadProg s l b).pending = s.pending := by simp [State.loadProg]

@[simp] theorem State.judgeActive_pending (s : State) (l : LaneId) : (State.judgeActive s l).pending = s.pending := by simp [State.judgeActive]

@[simp] theorem State.admitActive_pending (s : State) (l : LaneId) : (State.admitActive s l).pending = s.pending := by simp [State.admitActive]

/-! ### Pde.lean -/

@[simp] theorem State.chanSet_pending (s : State) (c : Nat) (x : Chan) : (State.chanSet s c x).pending = s.pending := by simp [State.chanSet]

@[simp] theorem State.chanUpd_pending (s : State) (c : Nat) (f : Chan → Chan) :
    (State.chanUpd s c f).pending = s.pending := by simp [State.chanUpd]

@[simp] theorem State.pdeStateSet_pending (s : State) (c n : Nat) :
    (State.pdeStateSet s c n).pending = s.pending := by simp [State.pdeStateSet]

@[simp] theorem State.inboundRefused_pending (s : State) (l : LaneId) (off : Nat) :
    (State.inboundRefused s l off).pending = s.pending := by simp [State.inboundRefused]

@[simp] theorem State.inbound_pending (s : State) (l : LaneId) (off : Nat) (bs : List Byte) :
    (State.inbound s l off bs).1.pending = s.pending := by
  unfold State.inbound
  (repeat' split) <;> simp

@[simp] theorem State.lmemCells_pending (s : State) (l : LaneId) (bs : List (Nat × Byte)) :
    (State.lmemCells s l bs).pending = s.pending := by simp [State.lmemCells]

theorem execInboundWrite_pending {l : LaneId} {off : Nat} {bs : List Byte} {race : Option (Nat × List Byte × Bool)} {s s' : State} (h : execInboundWrite l off bs race s = .next s') :
    s'.pending = s.pending := by
  unfold execInboundWrite at h
  dsimp only at h
  (repeat' split at h) <;> cases h <;> simp

theorem execInboundRead_pending {l : LaneId} {off n : Nat} {s s' : State} (h : execInboundRead l off n s = .next s') :
    s'.pending = s.pending := by
  unfold execInboundRead at h
  (repeat' split at h) <;> cases h <;> simp

@[simp] theorem State.pdeInt_pending (s : State) (c : Nat) (f : Nat → Fld) : (State.pdeInt s c f).pending = s.pending := by simp [State.pdeInt]

@[simp] theorem State.pdeCount_pending (s : State) (c : Nat) : (State.pdeCount s c).pending = s.pending := by simp [State.pdeCount]

@[simp] theorem State.pdeLast_pending (s : State) (c frame : Nat) : (State.pdeLast s c frame).pending = s.pending := by simp [State.pdeLast]

@[simp] theorem State.pdeItemDone_pending (s : State) (c frame : Nat) :
    (State.pdeItemDone s c frame).pending = s.pending := by simp [State.pdeItemDone]

@[simp] theorem State.pdeItemInt_pending (s : State) (c : Nat) : (State.pdeItemInt s c).pending = s.pending := by simp [State.pdeItemInt]

@[simp] theorem State.pdeSupersede_pending (s : State) (c : Nat) : (State.pdeSupersede s c).pending = s.pending := by simp [State.pdeSupersede]

@[simp] theorem State.pdeDrop_pending (s : State) (c : Nat) : (State.pdeDrop s c).pending = s.pending := by simp [State.pdeDrop]

@[simp] theorem State.inboundAll_pending (s : State) (ls : List LaneId) (off : Nat) (bs : List Byte) :
    (State.inboundAll s ls off bs).pending = s.pending := by simp [State.inboundAll]

@[simp] theorem State.cyclicArrive_pending (s : State) (c : Nat) (raw : List Byte) : (State.cyclicArrive s c raw).pending = s.pending := by
  unfold State.cyclicArrive
  (repeat' split) <;> simp

theorem execPdeItemArrive_pending {c : Nat} {raw : List Byte} {s s' : State} (h : execPdeItemArrive c raw s = .next s') :
    s'.pending = s.pending := by
  unfold execPdeItemArrive at h
  (repeat' split at h) <;> cases h <;> simp

@[simp] theorem State.cyclicTag_pending (s : State) (n c late : Nat) :
    (State.cyclicTag s n c late).pending = s.pending := by simp [State.cyclicTag]

@[simp] theorem State.snapshotTags_pending (s : State) (n : Nat) (late : List (Nat × Nat)) :
    (State.snapshotTags s n late).pending = s.pending := by simp [State.snapshotTags]

@[simp] theorem State.cqStall_pending (s : State) (q : Nat) : (State.cqStall s q).pending = s.pending := by simp [State.cqStall]

@[simp] theorem State.cqWrite_pending (s : State) (c p cookie status xfer frameLo : Nat) (irq : Bool) :
    (State.cqWrite s c p cookie status xfer frameLo irq).pending = s.pending := by simp [State.cqWrite]

@[simp] theorem State.descDone_pending (s : State) (c status xfer frame : Nat) :
    (State.descDone s c status xfer frame).pending = s.pending := by simp [State.descDone]

@[simp] theorem State.descError_pending (s : State) (c p cookie code : Nat) (irq : Bool) :
    (State.descError s c p cookie code irq).pending = s.pending := by simp [State.descError]

@[simp] theorem State.chainStall_pending (s : State) (c : Nat) (parked : Bool) :
    (State.chainStall s c parked).pending = s.pending := by simp [State.chainStall]

@[simp] theorem State.chain_pending (c k : Nat) (p : ChainAt) (s : State) : (State.chain c k p s).pending = s.pending := by
  induction k generalizing p s with
  | zero => rfl
  | succ k ih =>
    cases p <;> unfold State.chain <;> (try dsimp only) <;> (repeat' split) <;> simp [ih]

@[simp] theorem State.pdeGo_pending (s : State) (c : Nat) : (State.pdeGo s c).pending = s.pending := by simp [State.pdeGo]

@[simp] theorem State.pdeDoorbell_pending (s : State) (c : Nat) : (State.pdeDoorbell s c).pending = s.pending := by
  unfold State.pdeDoorbell
  (repeat' split) <;> simp

@[simp] theorem State.pdeStopAt_pending (s : State) (c : Nat) : (State.pdeStopAt s c).pending = s.pending := by simp [State.pdeStopAt]

@[simp] theorem State.pdeGoOn_pending (s : State) (c : Nat) : (State.pdeGoOn s c).pending = s.pending := by simp [State.pdeGoOn]

@[simp] theorem State.outputDone_pending (s : State) (c status : Nat) : (State.outputDone s c status).pending = s.pending := by
  unfold State.outputDone
  (repeat' split) <;> simp

@[simp] theorem State.outputSent_pending (s : State) (c : Nat) : (State.outputSent s c).pending = s.pending := by simp [State.outputSent]

theorem execQueuedOutputComplete_pending {c status : Nat} {s s' : State} (h : execQueuedOutputComplete c status s = .next s') :
    s'.pending = s.pending := by
  unfold execQueuedOutputComplete at h
  (repeat' split at h) <;> cases h <;> simp

@[simp] theorem State.queuedArrive_pending (s : State) (c : Nat) (raw : List Byte) : (State.queuedArrive s c raw).pending = s.pending := by
  unfold State.queuedArrive
  (repeat' split) <;> simp

theorem execQueuedInputItem_pending {c : Nat} {raw : List Byte} {s s' : State} (h : execQueuedInputItem c raw s = .next s') :
    s'.pending = s.pending := by
  unfold execQueuedInputItem at h
  (repeat' split at h) <;> cases h <;> simp

@[simp] theorem State.ringWrite_pending (s : State) (c count : Nat) (bs : List Byte) :
    (State.ringWrite s c count bs).pending = s.pending := by simp [State.ringWrite]

@[simp] theorem State.circularArrive_pending (s : State) (c : Nat) (raw : List Byte) : (State.circularArrive s c raw).pending = s.pending := by
  unfold State.circularArrive
  (repeat' split) <;> simp

theorem execCircularInputItem_pending {c : Nat} {raw : List Byte} {s s' : State} (h : execCircularInputItem c raw s = .next s') :
    s'.pending = s.pending := by
  unfold execCircularInputItem at h
  (repeat' split at h) <;> cases h <;> simp

@[simp] theorem State.itemFor_pending (s : State) (c : Nat) (raw : List Byte) : (State.itemFor s c raw).pending = s.pending := by
  unfold State.itemFor
  (repeat' split) <;> simp

@[simp] theorem State.pdeRdWrite_pending (s : State) (c v : Nat) : (State.pdeRdWrite s c v).pending = s.pending := by simp [State.pdeRdWrite]

theorem State.cqBaseWrite_pending {s t : State} {l : LaneId} {q v : Nat} (h : s.cqBaseWrite l q v = some t) : t.pending = s.pending := by
  unfold State.cqBaseWrite at h
  dsimp only at h
  (repeat' split at h) <;> cases h <;> simp

@[simp] theorem State.cqResume_pending (s : State) (q : Nat) : (s.cqResume q).pending = s.pending := by
  unfold State.cqResume
  refine foldl_pending _ ?_ _ _
  intro s c
  try dsimp only
  repeat' split
  all_goals simp

theorem State.cqTailWrite_pending {s t : State} {l : LaneId} {q v : Nat} (h : s.cqTailWrite l q v = some t) : t.pending = s.pending := by
  unfold State.cqTailWrite at h
  dsimp only at h
  (repeat' split at h) <;> cases h <;> simp

@[simp] theorem State.pdeAbort_pending (s : State) (c : Nat) : (State.pdeAbort s c).pending = s.pending := by
  unfold State.pdeAbort
  (repeat' split) <;> simp

@[simp] theorem State.sinkPut_pending (s : State) (c : Nat) (it : Item) : (State.sinkPut s c it).pending = s.pending := by simp [State.sinkPut]

@[simp] theorem State.fetchOne_pending (s : State) (n c : Nat) : (State.fetchOne s n c).pending = s.pending := by
  unfold State.fetchOne
  dsimp only
  (repeat' split) <;> simp

@[simp] theorem State.fetchAll_pending (s : State) (n : Nat) : (State.fetchAll s n).pending = s.pending := by simp [State.fetchAll]

@[simp] theorem State.vdoneWrite_pending (s : State) (l : LaneId) (v : Nat) :
    (State.vdoneWrite s l v).pending = s.pending := by simp [State.vdoneWrite]

theorem execPdeVdoneWrite_pending {l : LaneId} {v : Nat} {s s' : State} (h : execPdeVdoneWrite l v s = .next s') : s'.pending = s.pending := by
  unfold execPdeVdoneWrite at h
  (repeat' split at h) <;> cases h <;> simp

@[simp] theorem execPdeVdoneWrite_pending' (l : LaneId) (v : Nat) (s : State) : (nextOr s (execPdeVdoneWrite l v s)).pending = s.pending :=
  nextOr_pending _ _ (fun _ h => execPdeVdoneWrite_pending h)

theorem execPdeFetchCutoff_pending {s s' : State} (h : execPdeFetchCutoff s = .next s') : s'.pending = s.pending := by
  unfold execPdeFetchCutoff at h
  (repeat' split at h) <;> cases h <;> simp

@[simp] theorem State.armFail_pending (s : State) (c code : Nat) : (State.armFail s c code).pending = s.pending := by simp [State.armFail]

@[simp] theorem State.armUnmatched_pending (s : State) (c : Nat) : (State.armUnmatched s c).pending = s.pending := by simp [State.armUnmatched]

@[simp] theorem State.armSample_pending (s : State) (c : Nat) : (State.armSample s c).pending = s.pending := by
  unfold State.armSample
  (repeat' split) <;> simp

theorem execPdeArmSample_pending {s s' : State} (h : execPdeArmSample s = .next s') : s'.pending = s.pending := by
  unfold execPdeArmSample at h
  (repeat' split at h) <;> cases h <;> simp

theorem execPdeArmUnmatched_pending {c : Nat} {s s' : State} (h : execPdeArmUnmatched c s = .next s') : s'.pending = s.pending := by
  unfold execPdeArmUnmatched at h
  (repeat' split at h) <;> cases h <;> simp

@[simp] theorem State.activate_pending (s : State) (m c : Nat) (v : List Nat) :
    (State.activate s m c v).pending = s.pending := by simp [State.activate]

@[simp] theorem State.activateAll_pending (s : State) (m : Nat) : (s.activateAll m).pending = s.pending := by
  unfold State.activateAll
  refine foldl_pending _ ?_ _ _
  intro s c
  try dsimp only
  split <;> simp

@[simp] theorem State.relayArm_pending (s : State) (on : Bool) : (State.relayArm s on).pending = s.pending := by simp [State.relayArm]

@[simp] theorem State.armAll_pending (s : State) (on : Bool) : (State.armAll s on).pending = s.pending := by simp [State.armAll]

@[simp] theorem State.pdeLaneOff_pending (s : State) (l : LaneId) : (State.pdeLaneOff s l).pending = s.pending := by simp [State.pdeLaneOff]

/-! ### LinkEnd.lean -/

@[simp] theorem State.brgUpd_pending (s : State) (l : LaneId) (f : LaneBrg → LaneBrg) :
    (State.brgUpd s l f).pending = s.pending := by simp [State.brgUpd]

@[simp] theorem State.brgShow_pending (s : State) (l : LaneId) : (State.brgShow s l).pending = s.pending := by simp [State.brgShow]

@[simp] theorem State.writeEnter_pending (s : State) (l : LaneId) (w : PendWrite) :
    (State.writeEnter s l w).pending = s.pending := by simp [State.writeEnter]

@[simp] theorem State.wcIssue_pending (s : State) (l : LaneId) (core : Nat) : (State.wcIssue s l core).pending = s.pending := by
  unfold State.wcIssue
  (repeat' split) <;> simp

@[simp] theorem State.setDueReg_pending (s : State) (l : LaneId) (reg v : Nat) :
    (State.setDueReg s l reg v).pending = s.pending := by simp [State.setDueReg]

@[simp] theorem State.bridgeWrite_pending (s : State) (l : LaneId) (core a : Nat) (bs : List Byte) :
    (State.bridgeWrite s l core a bs).pending = s.pending := by
  unfold State.bridgeWrite
  refine foldl_pending _ ?_ _ _
  intro s c
  try dsimp only
  (repeat' split) <;> simp

/-! ### Vote.lean -/

@[simp] theorem State.voterSet_pending (s : State) (i : VoterId) (v : Voter) : (State.voterSet s i v).pending = s.pending := by
  unfold State.voterSet
  (repeat' split) <;> simp

@[simp] theorem State.voterEvt_pending (s : State) (i : VoterId) (code : Nat) (parts : List (Nat × Nat)) :
    (State.voterEvt s i code parts).pending = s.pending := by
  unfold State.voterEvt
  (repeat' split) <;> simp

@[simp] theorem State.voterReceive_pending (s : State) (i : VoterId) (l : LaneId) (b : List Byte) :
    (State.voterReceive s i l b).pending = s.pending := by
  unfold State.voterReceive
  (repeat' split) <;> simp

theorem execVoterImageReceive_pending {i : VoterId} {l : LaneId} {b : List Byte} {s s' : State} (h : execVoterImageReceive i l b s = .next s') :
    s'.pending = s.pending := by
  unfold execVoterImageReceive at h
  cases h
  simp

theorem execVoterImageCutoff_pending {i : VoterId} {s s' : State} (h : execVoterImageCutoff i s = .next s') : s'.pending = s.pending := by
  unfold execVoterImageCutoff at h
  (repeat' split at h) <;> cases h <;> simp

@[simp] theorem State.noteFrame_pending (s : State) (l : LaneId) : (State.noteFrame s l).pending = s.pending := by simp [State.noteFrame]

@[simp] theorem State.linksDown_pending (s : State) (l : LaneId) : (State.linksDown s l).pending = s.pending := by simp [State.linksDown]

@[simp] theorem State.lanePowerOff_pending (s : State) (l : LaneId) :
    (State.lanePowerOff s l).pending = s.pending := by simp [State.lanePowerOff]

@[simp] theorem State.powerLane_pending (s : State) (l : LaneId) : (State.powerLane s l).pending = s.pending := by simp [State.powerLane]

@[simp] theorem State.laneRestart_pending (s : State) (l : LaneId) (k : Nat) :
    (State.laneRestart s l k).pending = s.pending := by simp [State.laneRestart]

@[simp] theorem State.startRealign_pending (s : State) (t : LaneId) : (State.startRealign s t).pending = s.pending := by
  unfold State.startRealign
  (repeat' split) <;> simp

@[simp] theorem State.afterRemoval_pending (s : State) (l : LaneId) (c : Nat) (leave : Bool) :
    (State.afterRemoval s l c leave).pending = s.pending := by
  unfold State.afterRemoval
  (repeat' split) <;> simp

@[simp] theorem State.beginHubRestart_pending (s : State) (bank : Nat) :
    (State.beginHubRestart s bank).pending = s.pending := by simp [State.beginHubRestart]

@[simp] theorem State.installAdmitted_pending (s : State) (t : LaneId) : (State.installAdmitted s t).pending = s.pending := by
  unfold State.installAdmitted
  (repeat' split) <;> simp

@[simp] theorem State.removeMembers_pending (s : State) (cases : List (LaneId × Nat)) (n : Nat) :
    (State.removeMembers s cases n).pending = s.pending := by simp [State.removeMembers]

@[simp] theorem State.voter2Halt_pending (s : State) (cause n : Nat) :
    (State.voter2Halt s cause n).pending = s.pending := by simp [State.voter2Halt]

@[simp] theorem State.formMembers_pending (s : State) (v : Voter) (n : Nat) :
    (State.formMembers s v n).pending = s.pending := by simp [State.formMembers]

@[simp] theorem State.voterEvents_pending (s : State) (i : VoterId) (v : Voter) : (State.voterEvents s i v).pending = s.pending := by
  unfold State.voterEvents
  (repeat' split) <;> simp

@[simp] theorem State.sendStatus_pending (s : State) (n : Nat) : (State.sendStatus s n).pending = s.pending := by simp [State.sendStatus]

@[simp] theorem State.disregard_pending (s : State) (i : VoterId) (l : LaneId) (cause : Nat) :
    (State.disregard s i l cause).pending = s.pending := by
  unfold State.disregard
  (repeat' split) <;> simp

@[simp] theorem State.splitEdge_pending (s : State) (i : VoterId) (v : Voter) :
    (State.splitEdge s i v).pending = s.pending := by simp [State.splitEdge]

@[simp] theorem State.voter2Edge_pending (s : State) (edge : Nat) : (State.voter2Edge s edge).pending = s.pending := by simp [State.voter2Edge]

@[simp] theorem State.showVoter1_pending (s : State) (n : Nat) : (State.showVoter1 s n).pending = s.pending := by simp [State.showVoter1]

@[simp] theorem State.voter1Edge_pending (s : State) (edge : Nat) : (State.voter1Edge s edge).pending = s.pending := by simp [State.voter1Edge]

theorem execVotImgSend_pending {l : LaneId} {c : Nat} {w : Word} {s s' : State} (h : execVotImgSend l c w s = .next s') :
    s'.pending = s.pending := by
  unfold execVotImgSend at h
  (repeat' split at h) <;> cases h <;> simp

@[simp] theorem execVotImgSend_pending' (l : LaneId) (c : Nat) (w : Word) (s : State) : (nextOr s (execVotImgSend l c w s)).pending = s.pending :=
  nextOr_pending _ _ (fun _ h => execVotImgSend_pending h)

theorem execVotV1ImgLatch_pending {l : LaneId} {w : Word} {s s' : State} (h : execVotV1ImgLatch l w s = .next s') :
    s'.pending = s.pending := by
  unfold execVotV1ImgLatch at h
  (repeat' split at h) <;> cases h <;> simp

@[simp] theorem execVotV1ImgLatch_pending' (l : LaneId) (w : Word) (s : State) : (nextOr s (execVotV1ImgLatch l w s)).pending = s.pending :=
  nextOr_pending _ _ (fun _ h => execVotV1ImgLatch_pending h)

@[simp] theorem State.voter2Accept_pending (s : State) (part : Nat) : (State.voter2Accept s part).pending = s.pending := by
  unfold State.voter2Accept
  dsimp only
  (repeat' split) <;> simp

theorem execVotCtlSend_pending {l : LaneId} {c : Nat} {s s' : State} (h : execVotCtlSend l c s = .next s') : s'.pending = s.pending := by
  unfold execVotCtlSend at h
  (repeat' split at h) <;> cases h <;> simp

@[simp] theorem execVotCtlSend_pending' (l : LaneId) (c : Nat) (s : State) : (nextOr s (execVotCtlSend l c s)).pending = s.pending :=
  nextOr_pending _ _ (fun _ h => execVotCtlSend_pending h)

theorem execLaneWatchdogExpire_pending {l : LaneId} {s s' : State} (h : execLaneWatchdogExpire l s = .next s') : s'.pending = s.pending := by
  unfold execLaneWatchdogExpire at h
  dsimp only at h
  (repeat' split at h) <;> cases h <;> simp

theorem execWithholdLimitRemove_pending {l : LaneId} {s s' : State} (h : execWithholdLimitRemove l s = .next s') : s'.pending = s.pending := by
  unfold execWithholdLimitRemove at h
  dsimp only at h
  (repeat' split at h) <;> cases h <;> simp

theorem execVoter1Disregard_pending {l : LaneId} {s s' : State} (h : execVoter1Disregard l s = .next s') : s'.pending = s.pending := by
  unfold execVoter1Disregard at h
  dsimp only at h
  (repeat' split at h) <;> cases h <;> simp

@[simp] theorem State.newExpected_pending (s : State) (l : LaneId) (old new : Nat) :
    (State.newExpected s l old new).pending = s.pending := by simp [State.newExpected]

theorem execStatusRecordReceive_pending {l : LaneId} {r : StatusRecord} {crcOk : Bool} {s s' : State} (h : execStatusRecordReceive l r crcOk s = .next s') :
    s'.pending = s.pending := by
  unfold execStatusRecordReceive at h
  (repeat' split at h) <;> cases h <;> simp

@[simp] theorem State.voterCompare_pending (s : State) (l : LaneId) :
    (State.voterCompare s l).pending = s.pending := by simp [State.voterCompare]

theorem execVoterDifferenceRecord_pending {l : LaneId} {s s' : State} (h : execVoterDifferenceRecord l s = .next s') :
    s'.pending = s.pending := by
  unfold execVoterDifferenceRecord at h
  dsimp only at h
  (repeat' split at h) <;> cases h <;> simp

theorem execVoterDifferenceHalt_pending {l : LaneId} {s s' : State} (h : execVoterDifferenceHalt l s = .next s') : s'.pending = s.pending := by
  unfold execVoterDifferenceHalt at h
  dsimp only at h
  (repeat' split at h) <;> cases h <;> simp

/-! ### Realign.lean -/

@[simp] theorem State.sumSend_pending (s : State) (l : LaneId) (wend : Nat) :
    (State.sumSend s l wend).pending = s.pending := by simp [State.sumSend]

theorem execChecksumPacketReceive_pending {l : LaneId} {p : LinkPacket} {s s' : State} (h : execChecksumPacketReceive l p s = .next s') :
    s'.pending = s.pending := by
  unfold execChecksumPacketReceive at h
  dsimp only at h
  (repeat' split at h) <;> cases h <;> simp

@[simp] theorem State.confirmDiverged_pending (s : State) (l : LaneId) (v : SumVerdict) (k : Nat) :
    (State.confirmDiverged s l v k).pending = s.pending := by
  unfold State.confirmDiverged
  (repeat' split) <;> simp

@[simp] theorem State.candidateSums_pending (s : State) (l : LaneId) (v : SumVerdict) (k crc : Nat) :
    (State.candidateSums s l v k crc).pending = s.pending := by
  unfold State.candidateSums
  (repeat' split) <;> simp

@[simp] theorem State.sliceCompare_pending (s : State) (l : LaneId) : (State.sliceCompare s l).pending = s.pending := by
  unfold State.sliceCompare
  repeat' (first | split | simp)

theorem execEndOfL_pending {l : LaneId} {s s' : State} (h : execEndOfL l s = .next s') : s'.pending = s.pending := by
  unfold execEndOfL at h
  (repeat' split at h) <;> cases h <;> simp

@[simp] theorem State.trackWrites_pending (s : State) (l : LaneId) (pages : List Nat) : (State.trackWrites s l pages).pending = s.pending := by
  unfold State.trackWrites
  dsimp only
  (repeat' split) <;> simp

theorem execRealignPageSend_pending {l : LaneId} {s s' : State} (h : execRealignPageSend l s = .next s') : s'.pending = s.pending := by
  unfold execRealignPageSend at h
  dsimp only at h
  (repeat' split at h) <;> cases h <;> simp

theorem execRealignPageReceive_pending {l : LaneId} {p : LinkPacket} {s s' : State} (h : execRealignPageReceive l p s = .next s') :
    s'.pending = s.pending := by
  unfold execRealignPageReceive at h
  dsimp only at h
  (repeat' split at h) <;> cases h <;> simp

@[simp] theorem State.donorFinal_pending (s : State) (l : LaneId) : (State.donorFinal s l).pending = s.pending := by simp [State.donorFinal]

@[simp] theorem State.takeSet_pending (s : State) (t d : LaneId) : (State.takeSet s t d).pending = s.pending := by
  unfold State.takeSet
  dsimp only
  (repeat' split) <;> simp

@[simp] theorem State.becomeCandidate_pending (s : State) (t d : LaneId) :
    (State.becomeCandidate s t d).pending = s.pending := by simp [State.becomeCandidate]

theorem execRealignFinalPass_pending {t : LaneId} {s s' : State} (h : execRealignFinalPass t s = .next s') : s'.pending = s.pending := by
  unfold execRealignFinalPass at h
  (repeat' split at h) <;> cases h <;> simp

@[simp] theorem State.endRealign_pending (s : State) (t : LaneId) : (State.endRealign s t).pending = s.pending := by simp [State.endRealign]

theorem execRealignmentAbandon_pending {t : LaneId} {s s' : State} (h : execRealignmentAbandon t s = .next s') : s'.pending = s.pending := by
  unfold execRealignmentAbandon at h
  (repeat' split at h) <;> cases h <;> simp

/-! ### Operands.lean -/

@[simp] theorem State.coreSet_pending (s : State) (l : LaneId) (c : Nat) (k : CoreState) :
    (State.coreSet s l c k).pending = s.pending := by simp [State.coreSet]

@[simp] theorem State.taskTraps_pending (s : State) (l : LaneId) (t : Nat) : (State.taskTraps s l t).pending = s.pending := by
  unfold State.taskTraps
  (repeat' split) <;> simp

@[simp] theorem State.afterTrap_pending (s : State) (l : LaneId) (c : Nat) (k : CoreState) :
    (State.afterTrap s l c k).pending = s.pending := by
  unfold State.afterTrap
  (repeat' split) <;> simp

@[simp] theorem State.coreTrap_pending (s : State) (l : LaneId) (c cause pc : Nat) (tval : Option Nat) :
    (State.coreTrap s l c cause pc tval).pending = s.pending := by simp [State.coreTrap]

@[simp] theorem State.coded_pending (s : State) (l : LaneId) (c pc : Nat) (plainPass : Bool) (f : CoreState → CdOut) :
    (State.coded s l c pc plainPass f).pending = s.pending := by simp [State.coded]

/-! ### Coded.lean -/

theorem execCdEnc_pending {l : LaneId} {c pc rd rs1 rs3 : Nat} {s s' : State} (h : execCdEnc l c pc rd rs1 rs3 s = .next s') :
    s'.pending = s.pending := by
  unfold execCdEnc at h
  cases h
  simp

theorem execCdDec_pending {l : LaneId} {c pc rd rs1 rs3 : Nat} {s s' : State} (h : execCdDec l c pc rd rs1 rs3 s = .next s') :
    s'.pending = s.pending := by
  unfold execCdDec at h
  cases h
  simp

theorem execCdChk_pending {l : LaneId} {c pc rs1 rs3 : Nat} {s s' : State} (h : execCdChk l c pc rs1 rs3 s = .next s') :
    s'.pending = s.pending := by
  unfold execCdChk at h
  cases h
  simp

theorem execCdResig_pending {l : LaneId} {c pc rd rs1 rs3 : Nat} {s s' : State} (h : execCdResig l c pc rd rs1 rs3 s = .next s') :
    s'.pending = s.pending := by
  unfold execCdResig at h
  cases h
  simp

theorem execCdAdd_pending {l : LaneId} {c pc rd rs1 rs2 rs3 : Nat} {s s' : State} (h : execCdAdd l c pc rd rs1 rs2 rs3 s = .next s') :
    s'.pending = s.pending := by
  unfold execCdAdd at h
  cases h
  simp

theorem execCdSub_pending {l : LaneId} {c pc rd rs1 rs2 rs3 : Nat} {s s' : State} (h : execCdSub l c pc rd rs1 rs2 rs3 s = .next s') :
    s'.pending = s.pending := by
  unfold execCdSub at h
  cases h
  simp

theorem execCdMul_pending {l : LaneId} {c pc rd rs1 rs2 rs3 : Nat} {s s' : State} (h : execCdMul l c pc rd rs1 rs2 rs3 s = .next s') :
    s'.pending = s.pending := by
  unfold execCdMul at h
  cases h
  simp

theorem execCdMulq_pending {l : LaneId} {c pc rd rs1 rs2 rs3 : Nat} {s s' : State} (h : execCdMulq l c pc rd rs1 rs2 rs3 s = .next s') :
    s'.pending = s.pending := by
  unfold execCdMulq at h
  cases h
  simp

theorem execCdDiv_pending {l : LaneId} {c pc rd rs1 rs2 rs3 : Nat} {s s' : State} (h : execCdDiv l c pc rd rs1 rs2 rs3 s = .next s') :
    s'.pending = s.pending := by
  unfold execCdDiv at h
  cases h
  simp

theorem execCdRem_pending {l : LaneId} {c pc rd rs1 rs2 rs3 : Nat} {s s' : State} (h : execCdRem l c pc rd rs1 rs2 rs3 s = .next s') :
    s'.pending = s.pending := by
  unfold execCdRem at h
  cases h
  simp

theorem execCdSra_pending {l : LaneId} {c pc rd rs1 rs3 : Nat} {s s' : State} (h : execCdSra l c pc rd rs1 rs3 s = .next s') :
    s'.pending = s.pending := by
  unfold execCdSra at h
  cases h
  simp

theorem execCdWrap_pending {l : LaneId} {c pc rd rs1 rs3 : Nat} {s s' : State} (h : execCdWrap l c pc rd rs1 rs3 s = .next s') :
    s'.pending = s.pending := by
  unfold execCdWrap at h
  cases h
  simp

theorem execCdSlt_pending {l : LaneId} {c pc rd rs1 rs2 rs3 : Nat} {s s' : State} (h : execCdSlt l c pc rd rs1 rs2 rs3 s = .next s') :
    s'.pending = s.pending := by
  unfold execCdSlt at h
  cases h
  simp

theorem execCdSeq_pending {l : LaneId} {c pc rd rs1 rs2 rs3 : Nat} {s s' : State} (h : execCdSeq l c pc rd rs1 rs2 rs3 s = .next s') :
    s'.pending = s.pending := by
  unfold execCdSeq at h
  cases h
  simp

theorem execCdBand_pending {l : LaneId} {c pc rd rs1 rs2 rs3 : Nat} {s s' : State} (h : execCdBand l c pc rd rs1 rs2 rs3 s = .next s') :
    s'.pending = s.pending := by
  unfold execCdBand at h
  cases h
  simp

theorem execCdBor_pending {l : LaneId} {c pc rd rs1 rs2 rs3 : Nat} {s s' : State} (h : execCdBor l c pc rd rs1 rs2 rs3 s = .next s') :
    s'.pending = s.pending := by
  unfold execCdBor at h
  cases h
  simp

theorem execCdBnot_pending {l : LaneId} {c pc rd rs1 rs3 : Nat} {s s' : State} (h : execCdBnot l c pc rd rs1 rs3 s = .next s') :
    s'.pending = s.pending := by
  unfold execCdBnot at h
  cases h
  simp

theorem execCdCond_pending {l : LaneId} {c pc rd rs1 rs3 : Nat} {s s' : State} (h : execCdCond l c pc rd rs1 rs3 s = .next s') :
    s'.pending = s.pending := by
  unfold execCdCond at h
  cases h
  simp

theorem execCdPfold_pending {l : LaneId} {c pc rs1 : Nat} {s s' : State} (h : execCdPfold l c pc rs1 s = .next s') :
    s'.pending = s.pending := by
  unfold execCdPfold at h
  cases h
  simp

theorem execCdRebase_pending {l : LaneId} {c pc rd rs1 rs2 rs3 : Nat} {s s' : State} (h : execCdRebase l c pc rd rs1 rs2 rs3 s = .next s') :
    s'.pending = s.pending := by
  unfold execCdRebase at h
  cases h
  simp

theorem execCdFenc_pending {l : LaneId} {c pc : Nat} {f : FFmt} {fd fs1 : Nat} {s s' : State} (h : execCdFenc l c pc f fd fs1 s = .next s') :
    s'.pending = s.pending := by
  unfold execCdFenc at h
  cases h
  simp

theorem execCdFdec_pending {l : LaneId} {c pc : Nat} {f : FFmt} {fd fs1 : Nat} {s s' : State} (h : execCdFdec l c pc f fd fs1 s = .next s') :
    s'.pending = s.pending := by
  unfold execCdFdec at h
  cases h
  simp

theorem execCdFmul_pending {l : LaneId} {c pc : Nat} {f : FFmt} {fd fs1 fs2 : Nat} {s s' : State} (h : execCdFmul l c pc f fd fs1 fs2 s = .next s') :
    s'.pending = s.pending := by
  unfold execCdFmul at h
  cases h
  simp

theorem execCdFdiv_pending {l : LaneId} {c pc : Nat} {f : FFmt} {fd fs1 fs2 : Nat} {s s' : State} (h : execCdFdiv l c pc f fd fs1 fs2 s = .next s') :
    s'.pending = s.pending := by
  unfold execCdFdiv at h
  cases h
  simp

theorem execCdFsqrt_pending {l : LaneId} {c pc : Nat} {f : FFmt} {fd fs1 : Nat} {s s' : State} (h : execCdFsqrt l c pc f fd fs1 s = .next s') :
    s'.pending = s.pending := by
  unfold execCdFsqrt at h
  cases h
  simp

theorem execCdFmadd_pending {l : LaneId} {c pc : Nat} {f : FFmt} {fd fs1 fs2 fs3 : Nat} {s s' : State} (h : execCdFmadd l c pc f fd fs1 fs2 fs3 s = .next s') :
    s'.pending = s.pending := by
  unfold execCdFmadd at h
  cases h
  simp

theorem execCdFsgnjx_pending {l : LaneId} {c pc : Nat} {f : FFmt} {fd fs1 fs2 : Nat} {s s' : State} (h : execCdFsgnjx l c pc f fd fs1 fs2 s = .next s') :
    s'.pending = s.pending := by
  unfold execCdFsgnjx at h
  cases h
  simp

theorem execCdFlt_pending {l : LaneId} {c pc : Nat} {f : FFmt} {rd fs1 fs2 rs3 : Nat} {s s' : State} (h : execCdFlt l c pc f rd fs1 fs2 rs3 s = .next s') :
    s'.pending = s.pending := by
  unfold execCdFlt at h
  cases h
  simp

theorem execCdFle_pending {l : LaneId} {c pc : Nat} {f : FFmt} {rd fs1 fs2 rs3 : Nat} {s s' : State} (h : execCdFle l c pc f rd fs1 fs2 rs3 s = .next s') :
    s'.pending = s.pending := by
  unfold execCdFle at h
  cases h
  simp

theorem execCdFeq_pending {l : LaneId} {c pc : Nat} {f : FFmt} {rd fs1 fs2 rs3 : Nat} {s s' : State} (h : execCdFeq l c pc f rd fs1 fs2 rs3 s = .next s') :
    s'.pending = s.pending := by
  unfold execCdFeq at h
  cases h
  simp

theorem execCdFcvtX_pending {l : LaneId} {c pc : Nat} {f : FFmt} {rd fs1 rs3 : Nat} {s s' : State} (h : execCdFcvtX l c pc f rd fs1 rs3 s = .next s') :
    s'.pending = s.pending := by
  unfold execCdFcvtX at h
  cases h
  simp

theorem execCdFcvtF_pending {l : LaneId} {c pc : Nat} {f : FFmt} {fd rs1 rs3 : Nat} {s s' : State} (h : execCdFcvtF l c pc f fd rs1 rs3 s = .next s') :
    s'.pending = s.pending := by
  unfold execCdFcvtF at h
  cases h
  simp

theorem execCdFclass_pending {l : LaneId} {c pc : Nat} {f : FFmt} {rd fs1 rs3 : Nat} {s s' : State} (h : execCdFclass l c pc f rd fs1 rs3 s = .next s') :
    s'.pending = s.pending := by
  unfold execCdFclass at h
  cases h
  simp

theorem execCdFrebase_pending {l : LaneId} {c pc : Nat} {f : FFmt} {fd fs1 rs2 : Nat} {s s' : State} (h : execCdFrebase l c pc f fd fs1 rs2 s = .next s') :
    s'.pending = s.pending := by
  unfold execCdFrebase at h
  cases h
  simp

theorem execEncodedPassIllegal_pending {l : LaneId} {c pc task : Nat} {s s' : State} (h : execEncodedPassIllegal l c pc task s = .next s') :
    s'.pending = s.pending := by
  unfold execEncodedPassIllegal at h
  (repeat' split at h) <;> cases h <;> simp

/-! ### Cycle.lean -/

@[simp] theorem State.stationSet_pending (s : State) (l : LaneId) (st : Nat) (r : StationRec) :
    (State.stationSet s l st r).pending = s.pending := by simp [State.stationSet]

@[simp] theorem State.writeInput_pending (s : State) (l : LaneId) (d : TaskDecl) :
    (State.writeInput s l d).pending = s.pending := by simp [State.writeInput]

@[simp] theorem State.setPass_pending (s : State) (l : LaneId) (en pass : Nat) (sig : Option Fld) :
    (State.setPass s l en pass sig).pending = s.pending := by simp [State.setPass]

@[simp] theorem State.sigSet_pending (s : State) (l : LaneId) (c : Nat) (f : Fld) (v : Nat) :
    (State.sigSet s l c f v).pending = s.pending := by simp [State.sigSet]

theorem execTaskTrap_pending {l : LaneId} {c task cause pc : Nat} {tval : Option Nat} {s s' : State} (h : execTaskTrap l c task cause pc tval s = .next s') :
    s'.pending = s.pending := by
  unfold execTaskTrap at h
  (repeat' split at h) <;> cases h <;> simp

theorem execTckClsDoneWrite_pending {l : LaneId} {w : Word} {s s' : State} (h : execTckClsDoneWrite l w s = .next s') :
    s'.pending = s.pending := by
  unfold execTckClsDoneWrite at h
  (repeat' split at h) <;> cases h <;> simp

@[simp] theorem execTckClsDoneWrite_pending' (l : LaneId) (w : Word) (s : State) : (nextOr s (execTckClsDoneWrite l w s)).pending = s.pending :=
  nextOr_pending _ _ (fun _ h => execTckClsDoneWrite_pending h)

@[simp] theorem State.measure_pending (s : State) (l : LaneId) (t idx dur c m : Nat) :
    (State.measure s l t idx dur c m).pending = s.pending := by simp [State.measure]

@[simp] theorem State.takePass_pending (s : State) (l : LaneId) (r : PassResult) : (State.takePass s l r).pending = s.pending := by
  unfold State.takePass
  (repeat' split) <;> simp

@[simp] theorem State.runtimeFault_pending (s : State) (l : LaneId) (c bits : Nat) :
    (State.runtimeFault s l c bits).pending = s.pending := by simp [State.runtimeFault]

@[simp] theorem State.startEncoded_pending (s : State) (l : LaneId) (d : TaskDecl) :
    (State.startEncoded s l d).pending = s.pending := by simp [State.startEncoded]

theorem execEnterPhaseE_pending {l : LaneId} {rs : List PassResult} {s s' : State} (h : execEnterPhaseE l rs s = .next s') :
    s'.pending = s.pending := by
  unfold execEnterPhaseE at h
  (repeat' split at h) <;> cases h <;> simp

@[simp] theorem State.compareFails_pending (s : State) (l : LaneId) (d : TaskDecl) :
    (State.compareFails s l d).pending = s.pending := by simp [State.compareFails]

@[simp] theorem State.compareTask_pending (s : State) (l : LaneId) (d : TaskDecl) (e : EncResult) :
    (State.compareTask s l d e).pending = s.pending := by simp [State.compareTask]

@[simp] theorem State.compareAll_pending (s : State) (l : LaneId) (es : List EncResult) : (s.compareAll l es).pending = s.pending := by
  unfold State.compareAll
  refine foldl_pending _ ?_ _ _
  intro s d
  try dsimp only
  split <;> simp

@[simp] theorem State.commitClass_pending (s : State) (l : LaneId) (c : Nat) :
    (State.commitClass s l c).pending = s.pending := by simp [State.commitClass]

@[simp] theorem State.completeClasses_pending (s : State) (l : LaneId) (safe : Bool) :
    (State.completeClasses s l safe).pending = s.pending := by simp [State.completeClasses]

@[simp] theorem State.stopClass_pending (s : State) (l : LaneId) (c : Nat) :
    (State.stopClass s l c).pending = s.pending := by simp [State.stopClass]

@[simp] theorem State.withholdCases_pending (s : State) (l : LaneId) :
    (State.withholdCases s l).pending = s.pending := by simp [State.withholdCases]

@[simp] theorem State.sendImages_pending (s : State) (l : LaneId) (off : Bool) :
    (State.sendImages s l off).pending = s.pending := by simp [State.sendImages]

@[simp] theorem State.overrunBeyond_pending (s : State) (l : LaneId) (c : Nat) :
    (State.overrunBeyond s l c).pending = s.pending := by simp [State.overrunBeyond]

@[simp] theorem State.overrun_pending (s : State) (l : LaneId) (c : Nat) : (State.overrun s l c).pending = s.pending := by simp [State.overrun]

@[simp] theorem State.deadline_pending (s : State) (l : LaneId) (safe : Bool) :
    (State.deadline s l safe).pending = s.pending := by simp [State.deadline]

theorem execOverrunBeyondTolerance_pending {l : LaneId} {c : Nat} {s s' : State} (h : execOverrunBeyondTolerance l c s = .next s') :
    s'.pending = s.pending := by
  unfold execOverrunBeyondTolerance at h
  (repeat' split at h) <;> cases h <;> simp

@[simp] theorem State.mramWrite_pending (s : State) (a : Nat) (bs : List Byte) :
    (State.mramWrite s a bs).pending = s.pending := by simp [State.mramWrite]

@[simp] theorem State.retainedReport_pending (s : State) (l : LaneId) :
    (State.retainedReport s l).pending = s.pending := by simp [State.retainedReport]

@[simp] theorem State.retainedAt_pending (s : State) (l : LaneId) (k : Nat) :
    (State.retainedAt s l k).pending = s.pending := by simp [State.retainedAt]

@[simp] theorem State.retainedBegin_pending (s : State) (l : LaneId) :
    (State.retainedBegin s l).pending = s.pending := by simp [State.retainedBegin]

@[simp] theorem State.retainedEnds_pending (s : State) (l : LaneId) :
    (State.retainedEnds s l).pending = s.pending := by simp [State.retainedEnds]

@[simp] theorem State.retainedNext_pending (s : State) (l : LaneId) :
    (State.retainedNext s l).pending = s.pending := by simp [State.retainedNext]

@[simp] theorem State.retainedSnapshot_pending (s : State) (l : LaneId) : (s.retainedSnapshot l).pending = s.pending := by
  unfold State.retainedSnapshot
  generalize List.replicate 252 (0 : Byte) = z
  try dsimp only
  repeat' split
  all_goals simp

theorem execDurableReport_pending {l : LaneId} {q : Nat} {id : List Byte} {layout : Nat} {s s' : State} (h : execDurableReport l q id layout s = .next s') :
    s'.pending = s.pending := by
  unfold execDurableReport at h
  (repeat' split at h) <;> cases h <;> simp

@[simp] theorem State.completeJournal_pending (s : State) (l : LaneId) :
    (State.completeJournal s l).pending = s.pending := by simp [State.completeJournal]

@[simp] theorem State.coldRetained_pending (s : State) (l : LaneId) : (s.coldRetained l).pending = s.pending := by
  unfold State.coldRetained
  generalize List.range 16128 = xs
  rw [State.updLane_pending, State.emit_pending, State.mramWrite_pending, State.mramWrite_pending]
  exact foldl_pending _ (fun s k => State.mramWrite_pending _ _ _) _ _

@[simp] theorem State.warmRetained_pending (s : State) (l : LaneId) :
    (State.warmRetained s l).pending = s.pending := by simp [State.warmRetained]

@[simp] theorem State.stationStep_pending (s : State) (l : LaneId) (st : Nat) (new : Option (List Byte × Bool)) (part : Bool) :
    (State.stationStep s l st new part).pending = s.pending := by
  unfold State.stationStep
  (repeat' split) <;> simp

theorem execStationTimeout_pending {l : LaneId} {st : Nat} {s s' : State} (h : execStationTimeout l st s = .next s') :
    s'.pending = s.pending := by
  unfold execStationTimeout at h
  dsimp only at h
  (repeat' split at h) <;> cases h <;> simp

/-! ### Rack.lean -/

@[simp] theorem State.rackCode_pending (s : State) (c : Nat) : (State.rackCode s c).pending = s.pending := by simp [State.rackCode]

@[simp] theorem State.emptyStaged_pending (s : State) : (State.emptyStaged s).pending = s.pending := by simp [State.emptyStaged]

@[simp] theorem State.stage_pending (s : State) (src kind : Nat) (fromSd : Bool) :
    (State.stage s src kind fromSd).pending = s.pending := by simp [State.stage]

theorem execStageProgramFromHost_pending {src : Nat} {s s' : State} (h : execStageProgramFromHost src s = .next s') :
    s'.pending = s.pending := by
  unfold execStageProgramFromHost at h
  cases h
  simp

theorem execStageProgramFromSd_pending {src : Nat} {s s' : State} (h : execStageProgramFromSd src s = .next s') : s'.pending = s.pending := by
  unfold execStageProgramFromSd at h
  cases h
  simp

theorem execStageFirmwareFromHost_pending {src : Nat} {s s' : State} (h : execStageFirmwareFromHost src s = .next s') :
    s'.pending = s.pending := by
  unfold execStageFirmwareFromHost at h
  cases h
  simp

theorem execStageFirmwareFromSd_pending {src : Nat} {s s' : State} (h : execStageFirmwareFromSd src s = .next s') :
    s'.pending = s.pending := by
  unfold execStageFirmwareFromSd at h
  cases h
  simp

@[simp] theorem State.segment_pending (s : State) (src : Nat) (data : List Byte) :
    (State.segment s src data).pending = s.pending := by simp [State.segment]

theorem execStagingSegmentWrite_pending {src : Nat} {data : List Byte} {s s' : State} (h : execStagingSegmentWrite src data s = .next s') :
    s'.pending = s.pending := by
  unfold execStagingSegmentWrite at h
  cases h
  simp

@[simp] theorem State.copyFailed_pending (s : State) (c : Nat) : (State.copyFailed s c).pending = s.pending := by simp [State.copyFailed]

@[simp] theorem State.stagingFailed_pending (s : State) (b : List Byte) (c : Nat) :
    (State.stagingFailed s b c).pending = s.pending := by simp [State.stagingFailed]

@[simp] theorem State.loadBeside_pending (s : State) (l : LaneId) (b : List Byte) :
    (State.loadBeside s l b).pending = s.pending := by simp [State.loadBeside]

@[simp] theorem State.stagingDone_pending (s : State) (b : List Byte) :
    (State.stagingDone s b).pending = s.pending := by simp [State.stagingDone]

theorem execStagingComplete_pending {card : Option SdCard} {s s' : State} (h : execStagingComplete card s = .next s') :
    s'.pending = s.pending := by
  unfold execStagingComplete at h
  dsimp only at h
  (repeat' split at h) <;> cases h <;> simp

@[simp] theorem State.requestSwitch_pending (s : State) (src : Nat) :
    (State.requestSwitch s src).pending = s.pending := by simp [State.requestSwitch]

theorem execSwitchProgram_pending {src : Nat} {s s' : State} (h : execSwitchProgram src s = .next s') : s'.pending = s.pending := by
  unfold execSwitchProgram at h
  cases h
  simp

@[simp] theorem State.gateSend_pending (s : State) (l : LaneId) : (State.gateSend s l).pending = s.pending := by
  unfold State.gateSend
  (repeat' split) <;> simp

@[simp] theorem State.gateLeave_pending (s : State) (l : LaneId) : (State.gateLeave s l).pending = s.pending := by
  unfold State.gateLeave
  (repeat' split) <;> simp

@[simp] theorem State.gateKeep_pending (s : State) (l : LaneId) (b : List Byte) :
    (State.gateKeep s l b).pending = s.pending := by simp [State.gateKeep]

@[simp] theorem State.gateRead_pending (s : State) (l : LaneId) (b : List Byte) :
    (State.gateRead s l b).pending = s.pending := by simp [State.gateRead]

theorem execGateMessageReceive_pending {l : LaneId} {b : List Byte} {s s' : State} (h : execGateMessageReceive l b s = .next s') :
    s'.pending = s.pending := by
  unfold execGateMessageReceive at h
  dsimp only at h
  (repeat' split at h) <;> cases h <;> simp

@[simp] theorem State.switchGate_pending (s : State) (edge : Nat) : (State.switchGate s edge).pending = s.pending := by
  unfold State.switchGate
  (repeat' split) <;> simp

@[simp] theorem State.switchRegs_pending (s : State) (l : LaneId) (new : Prog) :
    (State.switchRegs s l new).pending = s.pending := by simp [State.switchRegs]

@[simp] theorem State.carryOver_pending (s : State) (l : LaneId) : (State.carryOver s l).pending = s.pending := by
  unfold State.carryOver
  dsimp only
  (repeat' split) <;> simp

@[simp] theorem State.switchAtEdge_pending (s : State) (l : LaneId) : (State.switchAtEdge s l).pending = s.pending := by
  unfold State.switchAtEdge
  (repeat' split) <;> simp

@[simp] theorem State.activateBank_pending (s : State) (edge : Nat) : (State.activateBank s edge).pending = s.pending := by
  unfold State.activateBank
  (repeat' split) <;> simp

@[simp] theorem State.setSel_pending (s : State) (i bank : Nat) : (State.setSel s i bank).pending = s.pending := by simp [State.setSel]

@[simp] theorem State.requestInstall_pending (s : State) (src : Nat) :
    (State.requestInstall s src).pending = s.pending := by simp [State.requestInstall]

theorem execInstallInService_pending {src : Nat} {s s' : State} (h : execInstallInService src s = .next s') : s'.pending = s.pending := by
  unfold execInstallInService at h
  cases h
  simp

@[simp] theorem State.beginRevert_pending (s : State) (first : Nat) (code : Nat) (out : Bool) :
    (State.beginRevert s first code out).pending = s.pending := by
  unfold State.beginRevert
  dsimp only
  (repeat' split) <;> simp

theorem execInstallNextLane_pending {s s' : State} (h : execInstallNextLane s = .next s') : s'.pending = s.pending := by
  unfold execInstallNextLane at h
  dsimp only at h
  (repeat' split at h) <;> cases h <;> simp

theorem execInstallAdmitTimeout_pending {s s' : State} (h : execInstallAdmitTimeout s = .next s') : s'.pending = s.pending := by
  unfold execInstallAdmitTimeout at h
  dsimp only at h
  (repeat' split at h) <;> cases h <;> simp

theorem execHubRunningReport_pending {l : LaneId} {s s' : State} (h : execHubRunningReport l s = .next s') : s'.pending = s.pending := by
  unfold execHubRunningReport at h
  dsimp only at h
  (repeat' split at h) <;> cases h <;> simp

theorem execHubRestartTimeout_pending {s s' : State} (h : execHubRestartTimeout s = .next s') : s'.pending = s.pending := by
  unfold execHubRestartTimeout at h
  dsimp only at h
  (repeat' split at h) <;> cases h <;> simp

@[simp] theorem State.requestNextStart_pending (s : State) (src : Nat) :
    (State.requestNextStart s src).pending = s.pending := by simp [State.requestNextStart]

theorem execInstallAtNextStart_pending {src : Nat} {s s' : State} (h : execInstallAtNextStart src s = .next s') : s'.pending = s.pending := by
  unfold execInstallAtNextStart at h
  cases h
  simp

@[simp] theorem State.restoreSel_pending (s : State) : (State.restoreSel s).pending = s.pending := by simp [State.restoreSel]

@[simp] theorem State.requestAbort_pending (s : State) (src : Nat) : (State.requestAbort s src).pending = s.pending := by
  unfold State.requestAbort
  dsimp only
  (repeat' split) <;> simp

theorem execAbortRacking_pending {src : Nat} {s s' : State} (h : execAbortRacking src s = .next s') : s'.pending = s.pending := by
  unfold execAbortRacking at h
  cases h
  simp

@[simp] theorem State.dropStaged_pending (s : State) : (State.dropStaged s).pending = s.pending := by simp [State.dropStaged]

@[simp] theorem State.requestDiscard_pending (s : State) (src : Nat) :
    (State.requestDiscard s src).pending = s.pending := by simp [State.requestDiscard]

theorem execDiscardStaged_pending {src : Nat} {s s' : State} (h : execDiscardStaged src s = .next s') : s'.pending = s.pending := by
  unfold execDiscardStaged at h
  cases h
  simp

@[simp] theorem State.rackRequest_pending (s : State) (src v : Nat) : (State.rackRequest s src v).pending = s.pending := by
  unfold State.rackRequest
  (repeat' split) <;> simp

/-! ### Can.lean -/

@[simp] theorem State.canUpd_pending (s : State) (ch : Nat) (f : CanCh → CanCh) :
    (State.canUpd s ch f).pending = s.pending := by simp [State.canUpd]

@[simp] theorem State.canIntegrated_pending (s : State) (ch : Nat) :
    (State.canIntegrated s ch).pending = s.pending := by simp [State.canIntegrated]

@[simp] theorem State.loadCan_pending (s : State) (ch : Nat) : (State.loadCan s ch).pending = s.pending := by simp [State.loadCan]

@[simp] theorem State.recommitCan_pending (s : State) (ch : Nat) : (State.recommitCan s ch).pending = s.pending := by simp [State.recommitCan]

@[simp] theorem State.ttShow_pending (s : State) (ch cause : Nat) : (State.ttShow s ch cause).pending = s.pending := by simp [State.ttShow]

@[simp] theorem State.ttS1_pending (s : State) (ch i : Nat) : (State.ttS1 s ch i).pending = s.pending := by simp [State.ttS1]

@[simp] theorem State.offWire_pending (s : State) (c : Nat) : (State.offWire s c).pending = s.pending := by
  unfold State.offWire
  dsimp only
  (repeat' split) <;> simp

@[simp] theorem State.removeCancelled_pending (s : State) (ch c : Nat) :
    (State.removeCancelled s ch c).pending = s.pending := by simp [State.removeCancelled]

@[simp] theorem State.wireFails_pending (s : State) (ch : Nat) : (State.wireFails s ch).pending = s.pending := by
  unfold State.wireFails
  (repeat' split) <;> simp

@[simp] theorem State.canBusOff_pending (s : State) (ch : Nat) : (State.canBusOff s ch).pending = s.pending := by simp [State.canBusOff]

@[simp] theorem State.ttStop_pending (s : State) (ch cause : Nat) : (State.ttStop s ch cause).pending = s.pending := by simp [State.ttStop]

theorem execCanBusOff_pending {ch : Nat} {s s' : State} (h : execCanBusOff ch s = .next s') : s'.pending = s.pending := by
  unfold execCanBusOff at h
  (repeat' split at h) <;> cases h <;> simp

@[simp] theorem State.canRecover_pending (s : State) (ch : Nat) : (State.canRecover s ch).pending = s.pending := by simp [State.canRecover]

@[simp] theorem State.canHoldNow_pending (s : State) : (State.canHoldNow s).pending = s.pending := by simp [State.canHoldNow]

@[simp] theorem State.canResume_pending (s : State) (ch : Nat) : (State.canResume s ch).pending = s.pending := by simp [State.canResume]

theorem execCanHoldoffEnd_pending {ch : Nat} {s s' : State} (h : execCanHoldoffEnd ch s = .next s') : s'.pending = s.pending := by
  unfold execCanHoldoffEnd at h
  (repeat' split at h) <;> cases h <;> simp

theorem execCanRecoveryComplete_pending {ch ms : Nat} {s s' : State} (h : execCanRecoveryComplete ch ms s = .next s') :
    s'.pending = s.pending := by
  unfold execCanRecoveryComplete at h
  (repeat' split at h) <;> cases h <;> simp

@[simp] theorem State.canRelease_pending (s : State) (src ch : Nat) :
    (State.canRelease s src ch).pending = s.pending := by simp [State.canRelease]

@[simp] theorem State.canStart_pending (s : State) : (State.canStart s).pending = s.pending := by simp [State.canStart]

theorem execCanReleaseBlocked_pending {src ch : Nat} {s s' : State} (h : execCanReleaseBlocked src ch s = .next s') :
    s'.pending = s.pending := by
  unfold execCanReleaseBlocked at h
  (repeat' split at h) <;> cases h <;> simp

theorem execCanRestrictedEnd_pending {ch ms : Nat} {s s' : State} (h : execCanRestrictedEnd ch ms s = .next s') : s'.pending = s.pending := by
  unfold execCanRestrictedEnd at h
  (repeat' split at h) <;> cases h <;> simp

@[simp] theorem State.canGood_pending (s : State) (ch : Nat) : (State.canGood s ch).pending = s.pending := by simp [State.canGood]

@[simp] theorem State.ttCycle_pending (s : State) (ch cyc id role : Nat) :
    (State.ttCycle s ch cyc id role).pending = s.pending := by simp [State.ttCycle]

@[simp] theorem State.refArrives_pending (s : State) (ch : Nat) (f : CanFrame) :
    (State.refArrives s ch f).pending = s.pending := by simp [State.refArrives]

theorem execCanFrameReceive_pending {ch : Nat} {f : CanFrame} {s s' : State} (h : execCanFrameReceive ch f s = .next s') :
    s'.pending = s.pending := by
  unfold execCanFrameReceive at h
  dsimp only at h
  (repeat' split at h) <;> cases h <;> simp

theorem execCanTransmitStart_pending {ch : Nat} {s s' : State} (h : execCanTransmitStart ch s = .next s') : s'.pending = s.pending := by
  unfold execCanTransmitStart at h
  dsimp only at h
  (repeat' split at h) <;> cases h <;> simp

theorem execCanArbitrationLost_pending {ch : Nat} {s s' : State} (h : execCanArbitrationLost ch s = .next s') : s'.pending = s.pending := by
  unfold execCanArbitrationLost at h
  (repeat' split at h) <;> cases h <;> simp

@[simp] theorem State.canTxGood_pending (s : State) (ch : Nat) : (State.canTxGood s ch).pending = s.pending := by simp [State.canTxGood]

theorem execCanTransmitComplete_pending {ch : Nat} {s s' : State} (h : execCanTransmitComplete ch s = .next s') : s'.pending = s.pending := by
  unfold execCanTransmitComplete at h
  (repeat' split at h) <;> cases h <;> simp

@[simp] theorem State.canErrCount_pending (s : State) (ch : Nat) (e : CanErr) : (State.canErrCount s ch e).pending = s.pending := by
  unfold State.canErrCount
  (repeat' split) <;> simp

@[simp] theorem State.canTxBad_pending (s : State) (ch : Nat) : (State.canTxBad s ch).pending = s.pending := by simp [State.canTxBad]

@[simp] theorem State.retryItem_pending (s : State) (ch c : Nat) : (State.retryItem s ch c).pending = s.pending := by simp [State.retryItem]

theorem execCanTransmitError_pending {ch : Nat} {e : CanErr} {s s' : State} (h : execCanTransmitError ch e s = .next s') :
    s'.pending = s.pending := by
  unfold execCanTransmitError at h
  (repeat' split at h) <;> cases h <;> simp

@[simp] theorem State.cancelMailbox_pending (s : State) (l : LaneId) (ch m : Nat) : (State.cancelMailbox s l ch m).pending = s.pending := by
  unfold State.cancelMailbox
  (repeat' split) <;> simp

@[simp] theorem State.txCancel_pending (s : State) (l : LaneId) (ch v : Nat) :
    (State.txCancel s l ch v).pending = s.pending := by simp [State.txCancel]

theorem execCanTxcancelWrite_pending {l : LaneId} {ch v : Nat} {s s' : State} (h : execCanTxcancelWrite l ch v s = .next s') :
    s'.pending = s.pending := by
  unfold execCanTxcancelWrite at h
  (repeat' split at h) <;> cases h <;> simp

@[simp] theorem execCanTxcancelWrite_pending' (l : LaneId) (ch v : Nat) (s : State) : (nextOr s (execCanTxcancelWrite l ch v s)).pending = s.pending :=
  nextOr_pending _ _ (fun _ h => execCanTxcancelWrite_pending h)

@[simp] theorem State.sendRef_pending (s : State) (ch : Nat) : (State.sendRef s ch).pending = s.pending := by simp [State.sendRef]

@[simp] theorem State.fireTrigger_pending (s : State) (ch i : Nat) (free : Bool) : (State.fireTrigger s ch i free).pending = s.pending := by
  unfold State.fireTrigger
  dsimp only
  (repeat' split) <;> simp

theorem execCanTriggerFire_pending {ch i : Nat} {free : Bool} {s s' : State} (h : execCanTriggerFire ch i free s = .next s') :
    s'.pending = s.pending := by
  unfold execCanTriggerFire at h
  (repeat' split at h) <;> cases h <;> simp

/-! ### Partners.lean -/

@[simp] theorem State.dropThrottled_pending (s : State) (addr : List Byte) :
    (State.dropThrottled s addr).pending = s.pending := by simp [State.dropThrottled]

@[simp] theorem State.throttle_pending (s : State) (p : Nat) : (State.throttle s p).pending = s.pending := by simp [State.throttle]

theorem execPartnerThrottle_pending {p : Nat} {s s' : State} (h : execPartnerThrottle p s = .next s') : s'.pending = s.pending := by
  unfold execPartnerThrottle at h
  (repeat' split at h) <;> cases h <;> simp

@[simp] theorem State.clientViolation_pending (s : State) (addr : List Byte) (code : Nat) (parts : List (Nat × Nat)) :
    (State.clientViolation s addr code parts).pending = s.pending := by simp [State.clientViolation]

theorem execThrottleEnd_pending {p : Nat} {s s' : State} (h : execThrottleEnd p s = .next s') : s'.pending = s.pending := by
  unfold execThrottleEnd at h
  (repeat' split at h) <;> cases h <;> simp

theorem execTokenRefill_pending {p : Nat} {s s' : State} (h : execTokenRefill p s = .next s') : s'.pending = s.pending := by
  unfold execTokenRefill at h
  dsimp only at h
  (repeat' split at h) <;> cases h <;> simp

theorem execPartnerSlotFree_pending {p : Nat} {s s' : State} (h : execPartnerSlotFree p s = .next s') : s'.pending = s.pending := by
  unfold execPartnerSlotFree at h
  dsimp only at h
  (repeat' split at h) <;> cases h <;> simp

/-! ### Net.lean -/

@[simp] theorem State.portUpd_pending (s : State) (p : Nat) (f : PortSt → PortSt) :
    (State.portUpd s p f).pending = s.pending := by simp [State.portUpd]

@[simp] theorem State.portStateSet_pending (s : State) (p n : Nat) :
    (State.portStateSet s p n).pending = s.pending := by simp [State.portStateSet]

@[simp] theorem State.listen_pending (s : State) (p : Nat) (after : Bool) :
    (State.listen s p after).pending = s.pending := by simp [State.listen]

@[simp] theorem State.otherBankSet_pending (s : State) (t : List Byte) :
    (State.otherBankSet s t).pending = s.pending := by simp [State.otherBankSet]

@[simp] theorem State.quarantine_pending (s : State) (p : Nat) (k : Viol) :
    (State.quarantine s p k).pending = s.pending := by simp [State.quarantine]

@[simp] theorem State.portViol_pending (s : State) (p : Nat) (k : Viol) (w : Nat) :
    (State.portViol s p k w).pending = s.pending := by simp [State.portViol]

@[simp] theorem State.holdEnd_pending (s : State) (p : Nat) : (State.holdEnd s p).pending = s.pending := by simp [State.holdEnd]

theorem execQuarantineHoldEnd_pending {p : Nat} {s s' : State} (h : execQuarantineHoldEnd p s = .next s') : s'.pending = s.pending := by
  unfold execQuarantineHoldEnd at h
  (repeat' split at h) <;> cases h <;> simp

@[simp] theorem State.releaseHeld_pending (s : State) (mask : Nat) :
    (State.releaseHeld s mask).pending = s.pending := by simp [State.releaseHeld]

theorem execPortReleaseHeld_pending {src mask : Nat} {s s' : State} (h : execPortReleaseHeld src mask s = .next s') :
    s'.pending = s.pending := by
  unfold execPortReleaseHeld at h
  (repeat' split at h) <;> cases h <;> simp

@[simp] theorem State.ringSplit_pending (s : State) (cause looper : Nat) :
    (State.ringSplit s cause looper).pending = s.pending := by simp [State.ringSplit]

@[simp] theorem State.ringLinks_pending (s : State) : (State.ringLinks s).pending = s.pending := by simp [State.ringLinks]

theorem execPortLinkUp_pending {p speed : Nat} {s s' : State} (h : execPortLinkUp p speed s = .next s') : s'.pending = s.pending := by
  unfold execPortLinkUp at h
  dsimp only at h
  (repeat' split at h) <;> cases h <;> simp

@[simp] theorem State.portDown_pending (s : State) (p : Nat) : (State.portDown s p).pending = s.pending := by simp [State.portDown]

theorem execPortLinkDown_pending {p : Nat} {s s' : State} (h : execPortLinkDown p s = .next s') : s'.pending = s.pending := by
  unfold execPortLinkDown at h
  (repeat' split at h) <;> cases h <;> simp

@[simp] theorem State.toEngine_pending (s : State) (p h : Nat) (b : List Byte) : (State.toEngine s p h b).pending = s.pending := by
  unfold State.toEngine
  (repeat' split) <;> simp

@[simp] theorem State.recoverStep_pending (s : State) (b : List Byte) : (State.recoverStep s b).1.pending = s.pending := by
  unfold State.recoverStep
  dsimp only
  (repeat' split) <;> simp

@[simp] theorem State.rtagNext_pending (s : State) (h : Nat) : (State.rtagNext s h).2.pending = s.pending := by simp [State.rtagNext]

@[simp] theorem State.forward_pending (s : State) (p : Nat) (h : Option Nat) (sfd : Int) (full : Nat) (b : List Byte) :
    (State.forward s p h sfd full b).pending = s.pending := by
  unfold State.forward
  dsimp only
  (repeat' split) <;> simp

theorem execFrameReceive_pending {p : Nat} {f : EthFrame} {s s' : State} (h : execFrameReceive p f s = .next s') : s'.pending = s.pending := by
  suffices H : ∀ t, execFrameReceive p f s = .next t → t.pending = s.pending from H s' h
  clear h s'
  unfold execFrameReceive
  extract_lets b type len h hv was n
  refine out_ite (next_all rfl) (out_ite (next_all ?_) (out_ite (out_ite (next_all ?_) (out_ite (next_all ?_) (next_all ?_)))
    (out_ite (next_all ?_) (out_ite (next_all rfl) ?_))))
  · split <;> simp
  · simp
  · simp
  · simp
  · simp
  · generalize s.verdictOf p h hv f = v
    obtain ⟨k | ⟨near, ofs⟩, w⟩ := v
    · exact next_all (by simp)
    · dsimp -zeta only
      extract_lets bytes s2 first s3 s4
      have e2 : s2.pending = s.pending := by simp only [s2, State.portUpd_pending]
      have e4 : s4.pending = s2.pending := by
        simp only [s4]
        split
        · split <;> simp [s3]
        · rfl
      refine out_ite (next_all e2) (out_ite (next_all ?_) (out_ite (next_all ?_) (next_all ?_)))
      · rw [State.hcount_pending, e4, e2]
      · rw [State.hcount_pending, e4, e2]
      · rw [State.forward_pending, e4, e2]

theorem execFrameEgress_pending {p now : Nat} {s s' : State} (h : execFrameEgress p now s = .next s') : s'.pending = s.pending := by
  unfold execFrameEgress at h
  dsimp only at h
  (repeat' split at h) <;> cases h <;> simp

@[simp] theorem State.bankSwitch_pending (s : State) : (State.bankSwitch s).pending = s.pending := by simp [State.bankSwitch]

theorem execTrellisBankSwitch_pending {s s' : State} (h : execTrellisBankSwitch s = .next s') : s'.pending = s.pending := by
  unfold execTrellisBankSwitch at h
  (repeat' split at h) <;> cases h <;> simp

@[simp] theorem State.portMatrix_pending (s : State) (p : Nat) : (State.portMatrix s p).pending = s.pending := by simp [State.portMatrix]

@[simp] theorem State.trellisEdge_pending (s : State) (n : Nat) : (State.trellisEdge s n).pending = s.pending := by simp [State.trellisEdge]

@[simp] theorem State.portKeep_pending (s : State) (p : Nat) : (State.portKeep s p).pending = s.pending := by simp [State.portKeep]

@[simp] theorem State.loadNetRegs_pending (s : State) : s.loadNetRegs.pending = s.pending := by
  unfold State.loadNetRegs
  extract_lets s1 s2 s3 n s4 s5
  have h1 : s1.pending = s.pending := by simp only [s1, State.hfSet_pending]
  have h2 : s2.pending = s1.pending := by simp only [s2, State.hfSet_pending]
  have h3 : s3.pending = s2.pending := by simp only [s3, State.hfSet_pending]
  have h4 : s4.pending = s3.pending := by simp only [s4, State.hfSet_pending]
  have h5 : s5.pending = s4.pending := foldl_pending _ (fun s i => by rw [State.hfSet_pending]) _ _
  simp only [State.hfSet_pending]
  rw [h5, h4, h3, h2, h1]

@[simp] theorem State.loadNetCfg_pending (s : State) : s.loadNetCfg.pending = s.pending := by
  unfold State.loadNetCfg
  rw [State.ringLinks_pending, foldl_pending _ State.portKeep_pending, State.loadNetRegs_pending]

@[simp] theorem State.newTrellis_pending (s : State) (t : List Byte) (b : Nat) :
    (State.newTrellis s t b).pending = s.pending := by simp [State.newTrellis]

@[simp] theorem State.dropClaims_pending (s : State) : (State.dropClaims s).pending = s.pending := by simp [State.dropClaims]

@[simp] theorem State.netStart_pending (s : State) : (State.netStart s).pending = s.pending := by simp [State.netStart]

@[simp] theorem State.startNet_pending (s : State) : (State.startNet s).pending = s.pending := by simp [State.startNet]

@[simp] theorem State.putWindow_pending (s : State) (b w : Nat) (e : Win) :
    (State.putWindow s b w e).pending = s.pending := by simp [State.putWindow]

@[simp] theorem State.claim_pending (s : State) (v : Nat) : (State.claim s v).1.pending = s.pending := by
  unfold State.claim
  dsimp only
  (repeat' split) <;> simp

@[simp] theorem State.releaseWindow_pending (s : State) (v : Nat) : (State.releaseWindow s v).1.pending = s.pending := by
  unfold State.releaseWindow
  dsimp only
  (repeat' split) <;> simp

theorem execWindowClaim_pending {src v : Nat} {s s' : State} (h : execWindowClaim src v s = .next s') : s'.pending = s.pending := by
  unfold execWindowClaim at h
  (repeat' split at h) <;> cases h <;> simp

theorem execWindowRelease_pending {src v : Nat} {s s' : State} (h : execWindowRelease src v s = .next s') : s'.pending = s.pending := by
  unfold execWindowRelease at h
  (repeat' split at h) <;> cases h <;> simp

@[simp] theorem State.buildFrame_pending (s : State) (h : Nat) (item : List Byte) : (State.buildFrame s h item).1.pending = s.pending := by
  unfold State.buildFrame
  dsimp only
  (repeat' split) <;> simp

@[simp] theorem State.hrvTake_pending (s : State) (k : Nat) : (State.hrvTake s k).pending = s.pending := by
  unfold State.hrvTake
  (repeat' split) <;> simp

@[simp] theorem State.hrvSend_pending (s : State) (dir pass frame : Nat) (split : Bool) :
    (State.hrvSend s dir pass frame split).pending = s.pending := by simp [State.hrvSend]

@[simp] theorem State.hrvMismatch_pending (s : State) (k : Nat) : (State.hrvMismatch s k).pending = s.pending := by
  unfold State.hrvMismatch
  (repeat' split) <;> simp

theorem execHarvestPassSend_pending {pass : Nat} {s s' : State} (h : execHarvestPassSend pass s = .next s') : s'.pending = s.pending := by
  unfold execHarvestPassSend at h
  dsimp only at h
  (repeat' split at h) <;> cases h <;> simp

@[simp] theorem State.hrvStationMissing_pending (s : State) (k : Nat) :
    (State.hrvStationMissing s k).pending = s.pending := by simp [State.hrvStationMissing]

theorem execHarvestStationMissing_pending {k : Nat} {s s' : State} (h : execHarvestStationMissing k s = .next s') :
    s'.pending = s.pending := by
  unfold execHarvestStationMissing at h
  (repeat' split at h) <;> cases h <;> simp

@[simp] theorem State.ringNormal_pending (s : State) : (State.ringNormal s).pending = s.pending := by simp [State.ringNormal]

theorem execHarvestRingNormal_pending {s s' : State} (h : execHarvestRingNormal s = .next s') : s'.pending = s.pending := by
  unfold execHarvestRingNormal at h
  (repeat' split at h) <;> cases h <;> simp

@[simp] theorem State.hrvDeliver_pending (s : State) : s.hrvDeliver.pending = s.pending := by
  unfold State.hrvDeliver
  rw [foldl_pending]
  intro s i
  split <;> simp

@[simp] theorem State.passOver_pending (s : State) (pass : Nat) : (s.passOver pass).pending = s.pending := by
  unfold State.passOver
  split
  · rfl
  · dsimp only
    rw [foldl_pending]
    · simp
    · intro s i
      try dsimp only
      split
      · rfl
      · split <;> simp

@[simp] theorem State.hrvStation_pending (s : State) (dir : Nat) (b : List Byte) (k off : Nat) :
    (State.hrvStation s dir b k off).pending = s.pending := by
  unfold State.hrvStation
  dsimp only
  (repeat' split) <;> simp

@[simp] theorem State.hrvStations_pending (s : State) (dir : Nat) (b : List Byte) : (s.hrvStations dir b).pending = s.pending := by
  unfold State.hrvStations
  generalize List.range (s.hf HRV_CFG_N) = xs
  have h : ∀ (xs : List Nat) (a : State × Nat), (xs.foldl (fun (a : State × Nat) i =>
      (a.1.hrvStation dir b (i + 1) a.2, a.2 + 12 + a.1.hrvOutLen (i + 1) + a.1.hrvInLen (i + 1))) a).1.pending = a.1.pending := by
    intro xs
    induction xs with
    | nil => intro a; rfl
    | cons x xs ih => intro a; rw [List.foldl_cons, ih]; simp
  exact h _ _

@[simp] theorem State.passBack_pending (s : State) (pass dir : Nat) :
    (State.passBack s pass dir).pending = s.pending := by simp [State.passBack]

@[simp] theorem State.passLost_pending (s : State) (pass dir : Nat) :
    (State.passLost s pass dir).pending = s.pending := by simp [State.passLost]

theorem execHarvestFrameReturn_pending {port : Nat} {b : List Byte} {ok late : Bool} {s s' : State} (h : execHarvestFrameReturn port b ok late s = .next s') :
    s'.pending = s.pending := by
  suffices H : ∀ t, execHarvestFrameReturn port b ok late s = .next t → t.pending = s.pending from H s' h
  clear h s'
  unfold execHarvestFrameReturn
  extract_lets dir pass loop looper s1 s2 h1 back ended src s4 s3
  have e1 : s1.pending = s.pending := by simp only [s1, State.hfSet_pending]
  have e2 : s2.pending = s1.pending := by simp only [s2, State.passBack_pending, State.hrvStations_pending]
  clear_value s2
  refine out_ite ?_ (out_ite ?_ ?_)
  · intro t h; cases h; rfl
  · intro t h; cases h; exact State.passLost_pending _ _ _
  · intro t h
    injection h with h
    rw [← h, State.passOver_pending, ← e1, ← e2]
    simp only [s3]
    split
    · rw [State.ringSplit_pending]
    · split
      · rw [State.ringNormal_pending]
      · rfl

theorem execHarvestPassLost_pending {pass dir : Nat} {s s' : State} (h : execHarvestPassLost pass dir s = .next s') :
    s'.pending = s.pending := by
  unfold execHarvestPassLost at h
  (repeat' split at h) <;> cases h <;> simp

@[simp] theorem State.sendFrame_pending (s : State) (h now : Nat) (item : List Byte) (bad : Bool) :
    (State.sendFrame s h now item bad).1.pending = s.pending := by
  unfold State.sendFrame
  dsimp only
  (repeat' split) <;> simp

theorem execSinkTransmitOpportunity_pending {c now : Nat} {ok : Bool} {s s' : State} (h : execSinkTransmitOpportunity c now ok s = .next s') :
    s'.pending = s.pending := by
  unfold execSinkTransmitOpportunity at h
  dsimp only at h
  (repeat' split at h) <;> cases h <;> simp

/-! ### SafetyLayer.lean -/

@[simp] theorem State.connSet_pending (s : State) (l : LaneId) (k : Nat) (x : Conn) :
    (State.connSet s l k x).pending = s.pending := by simp [State.connSet]

@[simp] theorem State.connEvt_pending (s : State) (l : LaneId) (k code : Nat) (parts : List (Nat × Nat)) :
    (State.connEvt s l k code parts).pending = s.pending := by simp [State.connEvt]

@[simp] theorem State.connState_pending (s : State) (l : LaneId) (k st cause : Nat) :
    (State.connState s l k st cause).pending = s.pending := by simp [State.connState]

@[simp] theorem State.connErr_pending (s : State) (l : LaneId) (k code cause : Nat) (parts : List (Nat × Nat)) :
    (State.connErr s l k code cause parts).pending = s.pending := by simp [State.connErr]

@[simp] theorem State.corkSafe_pending (s : State) (l : LaneId) (k : Nat) (t : Trailer) : (State.corkSafe s l k t).1.pending = s.pending := by
  unfold State.corkSafe
  (repeat' split) <;> simp

@[simp] theorem State.corkItem_pending (s : State) (l : LaneId) (k : Nat) (tel : List Byte) :
    (State.corkItem s l k tel).1.pending = s.pending := by
  unfold State.corkItem
  dsimp only
  (repeat' split) <;> simp

@[simp] theorem State.sdtItem_pending (s : State) (l : LaneId) (k : Nat) (tel : List Byte) :
    (State.sdtItem s l k tel).1.pending = s.pending := by
  unfold State.sdtItem
  dsimp only
  (repeat' split) <;> simp

@[simp] theorem State.stationItem_pending (s : State) (l : LaneId) (st c : Nat) : (State.stationItem s l st c).1.pending = s.pending := by
  unfold State.stationItem
  (repeat' split) <;> simp

@[simp] theorem State.stationItems_pending (s : State) (l : LaneId) (st : Nat) (cs : List Nat) :
    (s.stationItems l st cs).1.pending = s.pending := by
  induction cs generalizing s with
  | nil => rfl
  | cons c cs ih => simp [State.stationItems, ih]

@[simp] theorem State.stationUpdate_pending (s : State) (l : LaneId) (st : Nat) : (s.stationUpdate l st).pending = s.pending := by
  unfold State.stationUpdate
  try dsimp only
  repeat' split
  all_goals simp

@[simp] theorem State.stationsUpdate_pending (s : State) (l : LaneId) :
    (State.stationsUpdate s l).pending = s.pending := by simp [State.stationsUpdate]

@[simp] theorem State.freshStations_pending (s : State) (l : LaneId) :
    (State.freshStations s l).pending = s.pending := by simp [State.freshStations]

@[simp] theorem State.corkProduce_pending (s : State) (l : LaneId) (k : Nat) (passive : Bool) (pl : List Byte) :
    (State.corkProduce s l k passive pl).1.pending = s.pending := by
  unfold State.corkProduce
  (repeat' split) <;> simp

@[simp] theorem State.produce_pending (s : State) (l : LaneId) (c : Nat) (passive : Bool) (pl : List Byte) :
    (State.produce s l c passive pl).1.pending = s.pending := by
  unfold State.produce
  (repeat' split) <;> simp

@[simp] theorem State.outBank_pending (s : State) (l : LaneId) (c : Nat) (item : Option (List Byte)) :
    (State.outBank s l c item).pending = s.pending := by
  unfold State.outBank
  (repeat' split) <;> simp

@[simp] theorem State.stationOut_pending (s : State) (l : LaneId) (passive silent write : Bool) (sent : List (Nat × List Byte)) (c : Nat) :
    (State.stationOut s l passive silent write sent c).pending = s.pending := by
  unfold State.stationOut
  dsimp only
  (repeat' split) <;> simp

@[simp] theorem State.stationOutputs_pending (s : State) (l : LaneId) (passive silent : Bool) :
    (State.stationOutputs s l passive silent).pending = s.pending := by simp [State.stationOutputs]

@[simp] theorem State.connReset_pending (s : State) (l : LaneId) (k src : Nat) : (State.connReset s l k src).1.pending = s.pending := by
  unfold State.connReset
  (repeat' split) <;> simp

theorem execConnectionReset_pending {src k : Nat} {s s' : State} (h : execConnectionReset src k s = .next s') : s'.pending = s.pending := by
  unfold execConnectionReset at h
  (repeat' split at h) <;> cases h <;> simp

theorem execSlyCrcGo_pending {l : LaneId} {core v : Nat} {s s' : State} (h : execSlyCrcGo l core v s = .next s') : s'.pending = s.pending := by
  unfold execSlyCrcGo at h
  (repeat' split at h) <;> cases h <;> simp

@[simp] theorem execSlyCrcGo_pending' (l : LaneId) (core v : Nat) (s : State) : (nextOr s (execSlyCrcGo l core v s)).pending = s.pending :=
  nextOr_pending _ _ (fun _ h => execSlyCrcGo_pending h)

theorem execSlyCrcDone_pending {l : LaneId} {s s' : State} (h : execSlyCrcDone l s = .next s') : s'.pending = s.pending := by
  unfold execSlyCrcDone at h
  dsimp only at h
  (repeat' split at h) <;> cases h <;> simp

/-! ### Field.lean -/

theorem execInputThresholdCross_pending {l : LaneId} {i mv : Nat} {s s' : State} (h : execInputThresholdCross l i mv s = .next s') :
    s'.pending = s.pending := by
  unfold execInputThresholdCross at h
  (repeat' split at h) <;> cases h <;> simp

theorem execInputFilterChange_pending {l : LaneId} {i held at_ : Nat} {s s' : State} (h : execInputFilterChange l i held at_ s = .next s') :
    s'.pending = s.pending := by
  unfold execInputFilterChange at h
  dsimp only at h
  (repeat' split at h) <;> cases h <;> simp

@[simp] theorem State.frontLatch_pending (s : State) (l : LaneId) (cycle : Nat) :
    (State.frontLatch s l cycle).pending = s.pending := by simp [State.frontLatch]

@[simp] theorem State.dropUnused_pending (s : State) (l : LaneId) : (State.dropUnused s l).pending = s.pending := by simp [State.dropUnused]

@[simp] theorem State.loadField_pending (s : State) (l : LaneId) : (State.loadField s l).pending = s.pending := by simp [State.loadField]

@[simp] theorem State.clearFindings_pending (s : State) (l : LaneId) :
    (State.clearFindings s l).pending = s.pending := by simp [State.clearFindings]

@[simp] theorem State.driveSwitches_pending (s : State) (i : VoterId) (edge : Nat) :
    (State.driveSwitches s i edge).pending = s.pending := by simp [State.driveSwitches]

theorem execDarkPulseStart_pending {d : Side} {o t : Nat} {s s' : State} (h : execDarkPulseStart d o t s = .next s') :
    s'.pending = s.pending := by
  unfold execDarkPulseStart at h
  dsimp only at h
  (repeat' split at h) <;> cases h <;> simp

theorem execDarkPulseEnd_pending {d : Side} {o : Nat} {s s' : State} (h : execDarkPulseEnd d o s = .next s') : s'.pending = s.pending := by
  unfold execDarkPulseEnd at h
  cases h
  simp

theorem execSwitchOverloadTrip_pending {d : Side} {o : Nat} {s s' : State} (h : execSwitchOverloadTrip d o s = .next s') :
    s'.pending = s.pending := by
  unfold execSwitchOverloadTrip at h
  (repeat' split at h) <;> cases h <;> simp

@[simp] theorem State.lineDrop_pending (s : State) (i : VoterId) : (State.lineDrop s i).pending = s.pending := by simp [State.lineDrop]

theorem execVoterSilenceTimeout_pending {i : VoterId} {us : Nat} {s s' : State} (h : execVoterSilenceTimeout i us s = .next s') :
    s'.pending = s.pending := by
  unfold execVoterSilenceTimeout at h
  (repeat' split at h) <;> cases h <;> simp

theorem execOscillatorMonitorFault_pending {i : VoterId} {s s' : State} (h : execOscillatorMonitorFault i s = .next s') :
    s'.pending = s.pending := by
  unfold execOscillatorMonitorFault at h
  (repeat' split at h) <;> cases h <;> simp

@[simp] theorem State.switchFault_pending (s : State) (l : LaneId) (d : Side) (o kind : Nat) :
    (State.switchFault s l d o kind).pending = s.pending := by simp [State.switchFault]

@[simp] theorem State.stuckCheck_pending (s : State) (l : LaneId) (t : Nat) :
    (State.stuckCheck s l t).pending = s.pending := by simp [State.stuckCheck]

theorem execReadbackChange_pending {l : LaneId} {hs ls oc t : Nat} {s s' : State} (h : execReadbackChange l hs ls oc t s = .next s') :
    s'.pending = s.pending := by
  unfold execReadbackChange at h
  (repeat' split at h) <;> cases h <;> simp

theorem execDarkSlotCheck_pending {l : LaneId} {d : Side} {o t : Nat} {s s' : State} (h : execDarkSlotCheck l d o t s = .next s') :
    s'.pending = s.pending := by
  unfold execDarkSlotCheck at h
  dsimp only at h
  (repeat' split at h) <;> cases h <;> simp

@[simp] theorem State.frontEdge_pending (s : State) (l : LaneId) : (State.frontEdge s l).pending = s.pending := by simp [State.frontEdge]

@[simp] theorem State.writeDiag_pending (s : State) (l : LaneId) : (State.writeDiag s l).pending = s.pending := by simp [State.writeDiag]

@[simp] theorem State.outputLatch_pending (s : State) (l : LaneId) : (s.outputLatch l).pending = s.pending := by
  unfold State.outputLatch
  split
  · rfl
  · dsimp only
    rw [foldl_pending, foldl_pending]
    · simp
    · intro s p
      try dsimp only
      split
      · split <;> simp
      · rfl
    · intro s o
      try dsimp only
      split <;> simp

@[simp] theorem State.brakeCount_pending (s : State) (l : LaneId) : (State.brakeCount s l).pending = s.pending := by simp [State.brakeCount]

theorem execBrakeCurrentOutOfRange_pending {l : LaneId} {s s' : State} (h : execBrakeCurrentOutOfRange l s = .next s') :
    s'.pending = s.pending := by
  unfold execBrakeCurrentOutOfRange at h
  dsimp only at h
  (repeat' split at h) <;> cases h <;> simp

@[simp] theorem State.showProof_pending (s : State) (l : LaneId) : (State.showProof s l).pending = s.pending := by simp [State.showProof]

@[simp] theorem State.showField_pending (s : State) (l : LaneId) : (State.showField s l).pending = s.pending := by simp [State.showField]

@[simp] theorem State.proofResult_pending (s : State) (fail : Nat) :
    (State.proofResult s fail).pending = s.pending := by simp [State.proofResult]

@[simp] theorem State.proofTest_pending (s : State) (rs : List (Bool × Bool × Nat)) : (State.proofTest s rs).1.pending = s.pending := by
  unfold State.proofTest
  (repeat' split) <;> simp

theorem execBrakeProofTest_pending {src : Nat} {rs : List (Bool × Bool × Nat)} {s s' : State} (h : execBrakeProofTest src rs s = .next s') :
    s'.pending = s.pending := by
  unfold execBrakeProofTest at h
  (repeat' split at h) <;> cases h <;> simp

theorem execProofTestOverdue_pending {s s' : State} (h : execProofTestOverdue s = .next s') : s'.pending = s.pending := by
  unfold execProofTestOverdue at h
  (repeat' split at h) <;> cases h <;> simp

theorem execResetInputRise_pending {low : Nat} {s s' : State} (h : execResetInputRise low s = .next s') : s'.pending = s.pending := by
  unfold execResetInputRise at h
  (repeat' split at h) <;> cases h <;> simp

theorem execResetHeldTimeout_pending {s s' : State} (h : execResetHeldTimeout s = .next s') : s'.pending = s.pending := by
  unfold execResetHeldTimeout at h
  (repeat' split at h) <;> cases h <;> simp

/-! ### Cooper.lean -/

@[simp] theorem State.cooStart_pending (s : State) (l : LaneId) (set blocks : Nat) :
    (State.cooStart s l set blocks).pending = s.pending := by simp [State.cooStart]

theorem execCooperGo_pending {l : LaneId} {core v : Nat} {s s' : State} (h : execCooperGo l core v s = .next s') : s'.pending = s.pending := by
  unfold execCooperGo at h
  dsimp only at h
  (repeat' split at h) <;> cases h <;> simp

@[simp] theorem execCooperGo_pending' (l : LaneId) (core v : Nat) (s : State) : (nextOr s (execCooperGo l core v s)).pending = s.pending :=
  nextOr_pending _ _ (fun _ h => execCooperGo_pending h)

@[simp] theorem State.cooStop_pending (s : State) (l : LaneId) : (State.cooStop s l).pending = s.pending := by simp [State.cooStop]

theorem execCooperStop_pending {l : LaneId} {core v : Nat} {s s' : State} (h : execCooperStop l core v s = .next s') :
    s'.pending = s.pending := by
  unfold execCooperStop at h
  (repeat' split at h) <;> cases h <;> simp

@[simp] theorem execCooperStop_pending' (l : LaneId) (core v : Nat) (s : State) : (nextOr s (execCooperStop l core v s)).pending = s.pending :=
  nextOr_pending _ _ (fun _ h => execCooperStop_pending h)

@[simp] theorem State.repairRows_pending (s : State) (l : LaneId) (ks : List Nat) (rs : List (Nat × Nat)) :
    (s.repairRows l ks rs).1.pending = s.pending := by
  induction rs generalizing s with
  | nil => rfl
  | cons x rs ih =>
    obtain ⟨a, r⟩ := x
    unfold State.repairRows
    split
    · exact ih s
    · split
      · dsimp only
        rw [ih]
        simp
      · dsimp only
        rw [ih]
        simp

@[simp] theorem State.failLog_pending (s : State) (l : LaneId) (fs : List (Nat × Nat × Nat × Nat)) :
    (State.failLog s l fs).pending = s.pending := by simp [State.failLog]

@[simp] theorem State.showSpares_pending (s : State) (l : LaneId) : (State.showSpares s l).pending = s.pending := by simp [State.showSpares]

@[simp] theorem State.cooEnd_pending (s : State) (l : LaneId) (r : CooperRun) : (s.cooEnd l r).pending = s.pending := by
  unfold State.cooEnd
  extract_lets set early ks ended ran fails s0
  have h0 : (if set = 5 then (s0, (failRows fails []).map (·.1)) else s0.repairRows l ran (failRows fails [])).1.pending = s.pending := by
    split <;> simp [s0]
  generalize (if set = 5 then (s0, (failRows fails []).map (·.1)) else s0.repairRows l ran (failRows fails [])) = q at h0 ⊢
  obtain ⟨s0, bad⟩ := q
  dsimp -zeta only at h0 ⊢
  extract_lets bad failed s1 s2 first s3 pass ms s4 s5 s6 s7 s8 s9 s10 s11 s12 s13 s14 s15 s16
  have h1 : s1.pending = s0.pending := by simp [s1]
  have h2 : s2.pending = s1.pending := by simp only [s2]; split <;> simp
  have h3 : s3.pending = s2.pending := foldl_pending _ (fun s k => by simp) _ _
  have h4 : s11.pending = s3.pending := by simp only [s11, s10, s9, s8, s7, s6, s5, s4, State.lfSet_pending]
  have h5 : s12.pending = s11.pending := by simp only [s12]; split <;> simp
  have h6 : s14.pending = s12.pending := by simp [s14, s13]
  have h7 : s15.pending = s14.pending := by simp [s15]
  have h8 : s16.pending = s15.pending := by simp only [s16]; split <;> simp
  rw [← h0, ← h1, ← h2, ← h3, ← h4, ← h5, ← h6, ← h7, ← h8]
  split <;> simp

@[simp] theorem State.newFloor_pending (s : State) (l : LaneId) (vmin : Nat) :
    (State.newFloor s l vmin).pending = s.pending := by simp [State.newFloor]

@[simp] theorem State.mapAppend_pending (s : State) (e : List Byte) : (State.mapAppend s e).pending = s.pending := by simp [State.mapAppend]

@[simp] theorem State.loadRepairs_pending (s : State) (l : LaneId) : (State.loadRepairs s l).pending = s.pending := by simp [State.loadRepairs]

theorem execRepairEntrySubmit_pending {src : Nat} {e : List Byte} {s s' : State} (h : execRepairEntrySubmit src e s = .next s') :
    s'.pending = s.pending := by
  unfold execRepairEntrySubmit at h
  (repeat' split at h) <;> cases h <;> simp

@[simp] theorem State.replicas_pending (s : State) (l : LaneId) (cpr : List Int) :
    (State.replicas s l cpr).pending = s.pending := by simp [State.replicas]

@[simp] theorem State.showVmax_pending (s : State) (l : LaneId) (cpr : List Int) :
    (State.showVmax s l cpr).pending = s.pending := by simp [State.showVmax]

theorem execAvsRaise_pending {l : LaneId} {cpr : List Int} {s s' : State} (h : execAvsRaise l cpr s = .next s') : s'.pending = s.pending := by
  unfold execAvsRaise at h
  (repeat' split at h) <;> cases h <;> simp

theorem execAvsLower_pending {l : LaneId} {cpr : List Int} {s s' : State} (h : execAvsLower l cpr s = .next s') : s'.pending = s.pending := by
  unfold execAvsLower at h
  (repeat' split at h) <;> cases h <;> simp

theorem execFmaxProjection_pending {l : LaneId} {slack tj : Int} {s s' : State} (h : execFmaxProjection l slack tj s = .next s') :
    s'.pending = s.pending := by
  unfold execFmaxProjection at h
  dsimp only at h
  (repeat' split at h) <;> cases h <;> simp

theorem execFAllowLower_pending {l : LaneId} {s s' : State} (h : execFAllowLower l s = .next s') : s'.pending = s.pending := by
  unfold execFAllowLower at h
  (repeat' split at h) <;> cases h <;> simp

theorem execAgeingReport_pending {l : LaneId} {s s' : State} (h : execAgeingReport l s = .next s') : s'.pending = s.pending := by
  unfold execAgeingReport at h
  dsimp only at h
  (repeat' split at h) <;> cases h <;> simp

@[simp] theorem State.replanEdge_pending (s : State) (edge : Nat) : (State.replanEdge s edge).pending = s.pending := by
  unfold State.replanEdge
  (repeat' split) <;> simp

@[simp] theorem State.reproof_pending (s : State) (l : LaneId) : (State.reproof s l).pending = s.pending := by
  unfold State.reproof
  (repeat' split) <;> simp

@[simp] theorem State.sendProof_pending (s : State) (l : LaneId) : (State.sendProof s l).pending = s.pending := by
  unfold State.sendProof
  (repeat' split) <;> simp

@[simp] theorem State.setClock_pending (s : State) (l : LaneId) (code : Nat) :
    (State.setClock s l code).pending = s.pending := by simp [State.setClock]

@[simp] theorem State.clockMove_pending (s : State) (l : LaneId) : (State.clockMove s l).pending = s.pending := by
  unfold State.clockMove
  (repeat' split) <;> simp

@[simp] theorem State.startClock_pending (s : State) (passed : Nat) :
    (State.startClock s passed).pending = s.pending := by simp [State.startClock]

@[simp] theorem State.ageAppend_pending (s : State) (b : List Byte) : (State.ageAppend s b).pending = s.pending := by simp [State.ageAppend]

theorem execAgeingRecordSubmit_pending {src : Nat} {b : List Byte} {s s' : State} (h : execAgeingRecordSubmit src b s = .next s') :
    s'.pending = s.pending := by
  unfold execAgeingRecordSubmit at h
  (repeat' split at h) <;> cases h <;> simp

@[simp] theorem State.forecast_pending (s : State) : (State.forecast s).pending = s.pending := by simp [State.forecast]

@[simp] theorem State.forecastStart_pending (s : State) : (State.forecastStart s).pending = s.pending := by simp [State.forecastStart]

theorem execDailyAgeingRecord_pending {l : LaneId} {m : AgeMeas} {s s' : State} (h : execDailyAgeingRecord l m s = .next s') :
    s'.pending = s.pending := by
  unfold execDailyAgeingRecord at h
  dsimp only at h
  (repeat' split at h) <;> cases h <;> simp

@[simp] theorem State.testLane_pending (s : State) : (State.testLane s).pending = s.pending := by
  unfold State.testLane
  (repeat' split) <;> simp

@[simp] theorem State.commandTest_pending (s : State) (src v : Nat) : (State.commandTest s src v).1.pending = s.pending := by
  unfold State.commandTest
  dsimp only
  (repeat' split) <;> simp

theorem execCommandedTest_pending {src v : Nat} {s s' : State} (h : execCommandedTest src v s = .next s') : s'.pending = s.pending := by
  unfold execCommandedTest at h
  cases h
  simp

@[simp] theorem State.commandedEnd_pending (s : State) (l : LaneId) : (State.commandedEnd s l).pending = s.pending := by
  unfold State.commandedEnd
  (repeat' split) <;> simp

/-! ### Power.lean -/

@[simp] theorem State.pwSet_pending (s : State) (f : Power → Power) : (State.pwSet s f).pending = s.pending := by simp [State.pwSet]

@[simp] theorem State.showPowerLane_pending (s : State) (l : LaneId) :
    (State.showPowerLane s l).pending = s.pending := by simp [State.showPowerLane]

@[simp] theorem State.showPower_pending (s : State) : (State.showPower s).pending = s.pending := by simp [State.showPower]

@[simp] theorem State.powerInt_pending (s : State) (f : Fld) : (State.powerInt s f).pending = s.pending := by simp [State.powerInt]

@[simp] theorem State.suspendFindings_pending (s : State) (brake : Bool) :
    (State.suspendFindings s brake).pending = s.pending := by simp [State.suspendFindings]

@[simp] theorem State.measureSupplies_pending (s : State) (m : Supply) :
    (State.measureSupplies s m).pending = s.pending := by simp [State.measureSupplies]

theorem execOutputSupplyOutOfRange_pending {brake : Bool} {v : Nat} {s s' : State} (h : execOutputSupplyOutOfRange brake v s = .next s') :
    s'.pending = s.pending := by
  unfold execOutputSupplyOutOfRange at h
  (repeat' split at h) <;> cases h <;> simp

theorem execOutputSupplyRestored_pending {brake : Bool} {v : Nat} {s s' : State} (h : execOutputSupplyRestored brake v s = .next s') :
    s'.pending = s.pending := by
  unfold execOutputSupplyRestored at h
  (repeat' split at h) <;> cases h <;> simp

theorem execKeepaliveLow_pending {mv : Nat} {s s' : State} (h : execKeepaliveLow mv s = .next s') : s'.pending = s.pending := by
  unfold execKeepaliveLow at h
  dsimp only at h
  (repeat' split at h) <;> cases h <;> simp

theorem execBoardOvertemperature_pending {t : Int} {s s' : State} (h : execBoardOvertemperature t s = .next s') : s'.pending = s.pending := by
  unfold execBoardOvertemperature at h
  dsimp only at h
  (repeat' split at h) <;> cases h <;> simp

theorem execMainInputOvervoltage_pending {peak : Nat} {us : Option Nat} {s s' : State} (h : execMainInputOvervoltage peak us s = .next s') :
    s'.pending = s.pending := by
  unfold execMainInputOvervoltage at h
  (repeat' split at h) <;> cases h <;> simp

theorem execHoldupRechargeDone_pending {s s' : State} (h : execHoldupRechargeDone s = .next s') : s'.pending = s.pending := by
  unfold execHoldupRechargeDone at h
  (repeat' split at h) <;> cases h <;> simp

@[simp] theorem State.holdupMeasure_pending (s : State) (c esr : Nat) :
    (State.holdupMeasure s c esr).pending = s.pending := by simp [State.holdupMeasure]

@[simp] theorem State.holdupTake_pending (s : State) (c esr : Nat) :
    (State.holdupTake s c esr).pending = s.pending := by simp [State.holdupTake]

@[simp] theorem State.holdupCharged_pending (s : State) : (State.holdupCharged s).pending = s.pending := by simp [State.holdupCharged]

@[simp] theorem State.hubPowerOff_pending (s : State) : (State.hubPowerOff s).pending = s.pending := by simp [State.hubPowerOff]

@[simp] theorem State.lanesPowerOff_pending (s : State) : (State.lanesPowerOff s).pending = s.pending := by simp [State.lanesPowerOff]

theorem execHubSupplyLoss_pending {s s' : State} (h : execHubSupplyLoss s = .next s') : s'.pending = s.pending := by
  unfold execHubSupplyLoss at h
  cases h
  simp

theorem execSupervisorSupplyLoss_pending {keepAlive : Bool} {s s' : State} (h : execSupervisorSupplyLoss keepAlive s = .next s') :
    s'.pending = s.pending := by
  unfold execSupervisorSupplyLoss at h
  cases h
  simp

/-! ### Closing.lean -/

@[simp] theorem State.clUpd_pending (s : State) (f : Closing → Closing) : (State.clUpd s f).pending = s.pending := by simp [State.clUpd]

@[simp] theorem State.showMode_pending (s : State) : (State.showMode s).pending = s.pending := by simp [State.showMode]

@[simp] theorem State.closingC5_pending (s : State) : (State.closingC5 s).pending = s.pending := by simp [State.closingC5]

@[simp] theorem State.closingC4_pending (s : State) : (State.closingC4 s).pending = s.pending := by
  unfold State.closingC4
  (repeat' split) <;> simp

@[simp] theorem State.grantC3_pending (s : State) (i : Nat) : (State.grantC3 s i).pending = s.pending := by simp [State.grantC3]

@[simp] theorem State.cooKill_pending (s : State) (l : LaneId) : (State.cooKill s l).pending = s.pending := by simp [State.cooKill]

@[simp] theorem State.endC3Early_pending (s : State) : (State.endC3Early s).pending = s.pending := by
  unfold State.endC3Early
  (repeat' split) <;> simp

@[simp] theorem State.c3RunDone_pending (s : State) (l : LaneId) (vmin : Nat) :
    (State.c3RunDone s l vmin).pending = s.pending := by simp [State.c3RunDone]

@[simp] theorem State.finalSnapshot_pending (s : State) (l : LaneId) : (s.finalSnapshot l).pending = s.pending := by
  unfold State.finalSnapshot
  generalize List.replicate 252 (0 : Byte) = z
  try dsimp only
  repeat' split
  all_goals simp

@[simp] theorem State.endC2_pending (s : State) : (State.endC2 s).pending = s.pending := by
  unfold State.endC2
  (repeat' split) <;> simp

@[simp] theorem State.bookSummaries_pending (s : State) : (State.bookSummaries s).pending = s.pending := by simp [State.bookSummaries]

@[simp] theorem State.beginC2_pending (s : State) : (State.beginC2 s).pending = s.pending := by
  unfold State.beginC2
  (repeat' split) <;> simp

@[simp] theorem State.closeOnHoldup_pending (s : State) : (State.closeOnHoldup s).pending = s.pending := by simp [State.closeOnHoldup]

@[simp] theorem State.closeNow_pending (s : State) (trigger : Nat) (holdup : Bool) :
    (State.closeNow s trigger holdup).pending = s.pending := by simp [State.closeNow]

@[simp] theorem State.closingTrigger_pending (s : State) (trigger : Nat) (holdup : Bool) :
    (State.closingTrigger s trigger holdup).pending = s.pending := by simp [State.closingTrigger]

@[simp] theorem State.closingLosesInput_pending (s : State) : (State.closingLosesInput s).pending = s.pending := by
  unfold State.closingLosesInput
  (repeat' split) <;> simp

@[simp] theorem State.closingEdge_pending (s : State) (n : Nat) : (State.closingEdge s n).pending = s.pending := by
  unfold State.closingEdge
  (repeat' split) <;> simp

theorem execC3TimeLimit_pending {ms : Nat} {s s' : State} (h : execC3TimeLimit ms s = .next s') : s'.pending = s.pending := by
  unfold execC3TimeLimit at h
  (repeat' split at h) <;> cases h <;> simp

theorem execWakeWithdrawnTimeout_pending {sec : Nat} {s s' : State} (h : execWakeWithdrawnTimeout sec s = .next s') :
    s'.pending = s.pending := by
  unfold execWakeWithdrawnTimeout at h
  dsimp only at h
  (repeat' split at h) <;> cases h <;> simp

/-! ### Cellar.lean -/

@[simp] theorem State.bookRecover_pending (s : State) : (State.bookRecover s).pending = s.pending := by simp [State.bookRecover]

theorem execCbkSubmit_pending {l : LaneId} {core v : Nat} {s s' : State} (h : execCbkSubmit l core v s = .next s') :
    s'.pending = s.pending := by
  unfold execCbkSubmit at h
  (repeat' split at h) <;> cases h <;> simp

@[simp] theorem execCbkSubmit_pending' (l : LaneId) (core v : Nat) (s : State) : (nextOr s (execCbkSubmit l core v s)).pending = s.pending :=
  nextOr_pending _ _ (fun _ h => execCbkSubmit_pending h)

theorem execCbkTokenGain_pending {code : Nat} {s s' : State} (h : execCbkTokenGain code s = .next s') : s'.pending = s.pending := by
  unfold execCbkTokenGain at h
  dsimp only at h
  (repeat' split at h) <;> cases h <;> simp

@[simp] theorem State.decantRequest_pending (s : State) (src : Nat) (toSd : Bool) :
    (State.decantRequest s src toSd).1.pending = s.pending := by
  unfold State.decantRequest
  dsimp only
  (repeat' split) <;> simp

theorem execDecantToSd_pending {src : Nat} {s s' : State} (h : execDecantToSd src s = .next s') : s'.pending = s.pending := by
  unfold execDecantToSd at h
  cases h
  simp

theorem execDecantToService_pending {src : Nat} {s s' : State} (h : execDecantToService src s = .next s') : s'.pending = s.pending := by
  unfold execDecantToService at h
  cases h
  simp

theorem execDecantComplete_pending {card : Nat} {s s' : State} (h : execDecantComplete card s = .next s') : s'.pending = s.pending := by
  unfold execDecantComplete at h
  dsimp only at h
  (repeat' split at h) <;> cases h <;> simp

@[simp] theorem State.unfreeze_pending (s : State) (src : Nat) : (State.unfreeze s src).1.pending = s.pending := by
  unfold State.unfreeze
  (repeat' split) <;> simp

theorem execUnfreezeTail_pending {src : Nat} {s s' : State} (h : execUnfreezeTail src s = .next s') : s'.pending = s.pending := by
  unfold execUnfreezeTail at h
  cases h
  simp

@[simp] theorem State.reopenFf_pending (s : State) (src : Nat) : (State.reopenFf s src).1.pending = s.pending := by
  unfold State.reopenFf
  (repeat' split) <;> simp

theorem execReopenFirstFill_pending {src : Nat} {s s' : State} (h : execReopenFirstFill src s = .next s') : s'.pending = s.pending := by
  unfold execReopenFirstFill at h
  cases h
  simp

@[simp] theorem State.bookRequest_pending (s : State) (src v : Nat) : (State.bookRequest s src v).1.pending = s.pending := by
  unfold State.bookRequest
  (repeat' split) <;> simp

theorem execSdCardRemoval_pending {s s' : State} (h : execSdCardRemoval s = .next s') : s'.pending = s.pending := by
  unfold execSdCardRemoval at h
  cases h
  simp

/-! ### Start.lean -/

@[simp] theorem State.stUpd_pending (s : State) (f : StartState → StartState) : (State.stUpd s f).pending = s.pending := by simp [State.stUpd]

@[simp] theorem State.loadDeadlines_pending (s : State) (l : LaneId) :
    (State.loadDeadlines s l).pending = s.pending := by simp [State.loadDeadlines]

@[simp] theorem State.loadShadow_pending (s : State) (l : LaneId) : (State.loadShadow s l).pending = s.pending := by simp [State.loadShadow]

@[simp] theorem State.loadVerify_pending (s : State) (l : LaneId) : (State.loadVerify s l).pending = s.pending := by simp [State.loadVerify]

@[simp] theorem State.loadConfig_pending (s : State) (l : LaneId) : (State.loadConfig s l).pending = s.pending := by simp [State.loadConfig]

@[simp] theorem State.loadVoter1_pending (s : State) : (State.loadVoter1 s).pending = s.pending := by simp [State.loadVoter1]

@[simp] theorem State.showStart_pending (s : State) (l : LaneId) : (State.showStart s l).pending = s.pending := by simp [State.showStart]

@[simp] theorem State.laneSupply_pending (s : State) (l : LaneId) : (State.laneSupply s l).pending = s.pending := by simp [State.laneSupply]

@[simp] theorem State.flushKept_pending (s : State) : (State.flushKept s).pending = s.pending := by simp [State.flushKept]

@[simp] theorem State.hubStart_pending (s : State) (margin : Nat) : (s.hubStart margin).pending = s.pending := by
  unfold State.hubStart
  extract_lets x1 x2 s1 s2 s3 s4 s5
  have h1 : s2.pending = s.pending := by rw [show s2 = s1.startTb.startNet from rfl, State.startNet_pending, State.startTb_pending]
  have h2 : s3.pending = s2.pending := foldl_pending _ (fun s k => State.loadCan_pending _ _) _ _
  have h3 : s4.pending = s3.pending := by rw [show s4 = s3.loadVoter1.bookRecover from rfl, State.bookRecover_pending, State.loadVoter1_pending]
  rw [← h1, ← h2, ← h3]
  split
  · rw [State.hubEvt_pending, State.cntSet_pending]
  · rw [State.cntSet_pending]

@[simp] theorem State.bankRestore_pending (s : State) (lane : Nat) :
    (State.bankRestore s lane).pending = s.pending := by simp [State.bankRestore]

@[simp] theorem State.bankCommit_pending (s : State) : (State.bankCommit s).pending = s.pending := by simp [State.bankCommit]

@[simp] theorem State.finishStart_pending (s : State) : s.finishStart.pending = s.pending := by
  unfold State.finishStart
  split
  · rfl
  · rename_i st _
    extract_lets m s1 s2 s3 s4 a1 s5 s6 s7 s8
    have h1 : s1.pending = s.pending := onLanes_pending _ (fun l t => by split <;> simp) _
    have h4 : s4.pending = s1.pending := by simp [s4, s3, s2]
    have h5 : s5.pending = s4.pending := by simp only [s5, a1]; split <;> simp
    have h6 : s6.pending = s5.pending := by simp only [s6]; split <;> simp
    have h7 : s7.pending = s6.pending := by simp only [s7]; split <;> simp
    have h8 : s8.pending = s7.pending := by simp [s8]
    rw [State.forecastStart_pending, h8, h7, h6, h5, h4, h1]

@[simp] theorem State.startHalt_pending (s : State) : (State.startHalt s).pending = s.pending := by simp [State.startHalt]

@[simp] theorem State.startFails_pending (s : State) (k : Nat) : (State.startFails s k).pending = s.pending := by simp [State.startFails]

@[simp] theorem State.startTo_pending (s : State) (m : Mode) (cause : Nat) :
    (State.startTo s m cause).pending = s.pending := by simp [State.startTo]

@[simp] theorem State.exclude_pending (s : State) (l : LaneId) (k : Nat) : (State.exclude s l k).pending = s.pending := by simp [State.exclude]

@[simp] theorem State.judgeCodes_pending (s : State) : (State.judgeCodes s).pending = s.pending := by
  unfold State.judgeCodes
  dsimp only
  (repeat' split) <;> simp

@[simp] theorem State.startTick_pending (s : State) : s.startTick.pending = s.pending := by
  unfold State.startTick
  try dsimp only
  repeat' split
  all_goals simp

@[simp] theorem State.afterS5_pending (s : State) : (State.afterS5 s).1.pending = s.pending := by
  unfold State.afterS5
  dsimp only
  (repeat' split) <;> simp

@[simp] theorem State.selectWarm_pending (s : State) : (State.selectWarm s).pending = s.pending := by simp [State.selectWarm]

@[simp] theorem State.afterS7_pending (s : State) : (State.afterS7 s).pending = s.pending := by simp [State.afterS7]

@[simp] theorem State.enterStep_pending (s : State) (k : Nat) : (State.enterStep s k).pending = s.pending := by simp [State.enterStep]

@[simp] theorem State.startAdvance_pending (s : State) : (State.startAdvance s).pending = s.pending := by
  unfold State.startAdvance
  repeat' (first | split | simp)
  all_goals (rename_i h; have h2 := congrArg (fun p => p.1.pending) h; simp at h2; simp [h2])

@[simp] theorem State.loneFail_pending (s : State) (l : LaneId) (k : Nat) :
    (State.loneFail s l k).pending = s.pending := by simp [State.loneFail]

@[simp] theorem State.linksUp_pending (s : State) (l : LaneId) (meas : List Nat) :
    (State.linksUp s l meas).pending = s.pending := by simp [State.linksUp]

@[simp] theorem State.loneStep_pending (s : State) (l : LaneId) (k : Nat) (quick : Bool) (meas : List Nat) :
    (State.loneStep s l k quick meas).pending = s.pending := by
  unfold State.loneStep
  (repeat' split) <;> simp

@[simp] theorem State.behindStep_pending (s : State) (l : LaneId) (k : Nat) :
    (State.behindStep s l k).pending = s.pending := by simp [State.behindStep]

@[simp] theorem State.laneStep_pending (s : State) (l : LaneId) (k : Nat) (meas : List Nat) :
    (State.laneStep s l k meas).pending = s.pending := by simp [State.laneStep]

theorem execStartStepComplete_pending {who : StartActor} {k : Nat} {ok : Bool} {ms : Nat} {meas : List Nat} {s s' : State} (h : execStartStepComplete who k ok ms meas s = .next s') :
    s'.pending = s.pending := by
  unfold execStartStepComplete at h
  dsimp only at h
  (repeat' split at h) <;> cases h <;> simp

theorem execStartStepTimeout_pending {who : StartActor} {k : Nat} {s s' : State} (h : execStartStepTimeout who k s = .next s') :
    s'.pending = s.pending := by
  unfold execStartStepTimeout at h
  dsimp only at h
  (repeat' split at h) <;> cases h <;> simp

@[simp] theorem State.beginStart_pending (s : State) (from_ : Mode) (bits : Nat) : (s.beginStart from_ bits).pending = s.pending := by
  unfold State.beginStart
  extract_lets stv m s1 behind s2 s3 st m' s4 s5 s6 s7
  have h1 : s1.pending = s.pending := by simp [s1, m]
  have h2 : s2.pending = s1.pending := onLanes_pending _ (fun l t => by simp) _
  have h3 : s3.pending = s2.pending := onLanes_pending _ (fun l t => by split <;> simp) _
  have h5 : s5.pending = s1.pending := by simp only [s5]; split <;> simp
  have h6 : s6.pending = s5.pending := onLanes_pending _ (fun l t => by simp) _
  have h7 : s7.pending = s6.pending := rfl
  split
  · rw [State.showMode_pending, State.enterStep_pending, State.loadVoter1_pending, ← h1, ← h2, ← h3]
  · rw [← h1, ← h5, ← h6, ← h7]

@[simp] theorem State.advRtc_pending (s : State) (rtc : Nat) : (State.advRtc s rtc).pending = s.pending := by simp [State.advRtc]

@[simp] theorem State.acceptWake_pending (s : State) (bits : Nat) : (State.acceptWake s bits).pending = s.pending := by
  unfold State.acceptWake
  dsimp only
  (repeat' split) <;> simp

@[simp] theorem State.kaSet_pending (s : State) (f : KeepAlive → KeepAlive) : (State.kaSet s f).pending = s.pending := by simp [State.kaSet]

@[simp] theorem State.evalWake_pending (s : State) : (State.evalWake s).pending = s.pending := by simp [State.evalWake]

@[simp] theorem State.wakeInC3_pending (s : State) (ms : Nat) : (State.wakeInC3 s ms).pending = s.pending := by
  unfold State.wakeInC3
  (repeat' split) <;> simp

theorem execWakeInputQualified_pending {rtc ms : Nat} {s s' : State} (h : execWakeInputQualified rtc ms s = .next s') :
    s'.pending = s.pending := by
  unfold execWakeInputQualified at h
  dsimp only at h
  (repeat' split at h) <;> cases h <;> simp

theorem execRtcAlarm_pending {rtc : Nat} {s s' : State} (h : execRtcAlarm rtc s = .next s') : s'.pending = s.pending := by
  unfold execRtcAlarm at h
  dsimp only at h
  (repeat' split at h) <;> cases h <;> simp

@[simp] theorem State.startPowerAbort_pending (s : State) : (State.startPowerAbort s).pending = s.pending := by simp [State.startPowerAbort]

@[simp] theorem State.inputBelow_pending (s : State) (v : Nat) : (State.inputBelow s v).pending = s.pending := by simp [State.inputBelow]

theorem execMainInputBelowRange_pending {v : Nat} {s s' : State} (h : execMainInputBelowRange v s = .next s') : s'.pending = s.pending := by
  unfold execMainInputBelowRange at h
  (repeat' split at h) <;> cases h <;> simp

theorem execOvervoltageDisconnect_pending {v us : Nat} {s s' : State} (h : execOvervoltageDisconnect v us s = .next s') :
    s'.pending = s.pending := by
  unfold execOvervoltageDisconnect at h
  (repeat' split at h) <;> cases h <;> simp

theorem execMainInputLost_pending {s s' : State} (h : execMainInputLost s = .next s') : s'.pending = s.pending := by
  unfold execMainInputLost at h
  (repeat' split at h) <;> cases h <;> simp

theorem execMainInputRestored_pending {v us heldMs rtc : Nat} {s s' : State} (h : execMainInputRestored v us heldMs rtc s = .next s') :
    s'.pending = s.pending := by
  unfold execMainInputRestored at h
  dsimp only at h
  (repeat' split at h) <;> cases h <;> simp

theorem execHoldupExhausted_pending {s s' : State} (h : execHoldupExhausted s = .next s') : s'.pending = s.pending := by
  unfold execHoldupExhausted at h
  dsimp only at h
  (repeat' split at h) <;> cases h <;> simp

theorem execDumpComplete_pending {ms rtc : Nat} {s s' : State} (h : execDumpComplete ms rtc s = .next s') : s'.pending = s.pending := by
  unfold execDumpComplete at h
  (repeat' split at h) <;> cases h <;> simp

@[simp] theorem State.resetStart_pending (s : State) (n : Nat) : (State.resetStart s n).pending = s.pending := by simp [State.resetStart]

@[simp] theorem State.resetEdge_pending (s : State) (n : Nat) : (State.resetEdge s n).pending = s.pending := by simp [State.resetEdge]

@[simp] theorem State.applyOne_pending (n : Nat) (s : State) (d : ModeDue) :
    (State.applyOne n s d).pending = s.pending := by simp [State.applyOne]

@[simp] theorem State.applyDue_pending (s : State) (n : Nat) : (State.applyDue s n).pending = s.pending := by simp [State.applyDue]

@[simp] theorem State.afterSegment_pending (s : State) : (State.afterSegment s).pending = s.pending := by
  unfold State.afterSegment
  (repeat' split) <;> simp

theorem execCooperRunDone_pending {l : LaneId} {r : CooperRun} {s s' : State} (h : execCooperRunDone l r s = .next s') :
    s'.pending = s.pending := by
  unfold execCooperRunDone at h
  (repeat' split at h) <;> cases h <;> simp

@[simp] theorem State.refuseMode_pending (s : State) (v reason code : Nat) :
    (State.refuseMode s v reason code).1.pending = s.pending := by simp [State.refuseMode]

@[simp] theorem State.requestDue_pending (s : State) (m : Mode) (frame cause : Nat) :
    (State.requestDue s m frame cause).1.pending = s.pending := by simp [State.requestDue]

@[simp] theorem State.modeRequest_pending (s : State) (src v : Nat) : (State.modeRequest s src v).1.pending = s.pending := by
  unfold State.modeRequest
  dsimp only
  (repeat' split) <;> simp

theorem execModeRequestConfigure_pending {src : Nat} {s s' : State} (h : execModeRequestConfigure src s = .next s') :
    s'.pending = s.pending := by
  unfold execModeRequestConfigure at h
  cases h
  simp

theorem execModeRequestDepot_pending {src : Nat} {s s' : State} (h : execModeRequestDepot src s = .next s') : s'.pending = s.pending := by
  unfold execModeRequestDepot at h
  cases h
  simp

theorem execModeRequestRun_pending {src : Nat} {s s' : State} (h : execModeRequestRun src s = .next s') : s'.pending = s.pending := by
  unfold execModeRequestRun at h
  cases h
  simp

theorem execModeRequestShutDown_pending {src : Nat} {s s' : State} (h : execModeRequestShutDown src s = .next s') :
    s'.pending = s.pending := by
  unfold execModeRequestShutDown at h
  cases h
  simp

@[simp] theorem State.refuseLife_pending (s : State) (v code : Nat) :
    (State.refuseLife s v code).1.pending = s.pending := by simp [State.refuseLife]

/-- A life-cycle request keeps every property of the queue. -/
theorem State.lifeRequest_keepsQueue (P : List Instr → Prop) (s : State) (src v : Nat) (h : P s.pending) : P (s.lifeRequest src v).1.pending := by
  unfold State.lifeRequest
  extract_lets old
  split
  · simpa using h
  · split
    · simpa using h
    · rename_i new e
      extract_lets s1 s2 s3
      clear_value (e3 : s3 = _)
      clear_value (e2 : s2 = _)
      clear_value (e1 : s1 = _)
      have h3 : s3.pending = s.pending := by
        rw [e3, State.supEvt_pending, e2, State.showMode_pending, State.storedSet_pending, e1]
      dsimp only
      split
      · rw [State.closingTrigger_pending, h3]
        exact h
      · rw [h3]
        exact h

/-! ### Pair.lean -/

@[simp] theorem State.prSet_pending (s : State) (l : LaneId) (x : LanePair) : (State.prSet s l x).pending = s.pending := by simp [State.prSet]

@[simp] theorem State.beatStep_pending (s : State) (l : LaneId) : (State.beatStep s l).pending = s.pending := by
  unfold State.beatStep
  dsimp only
  (repeat' split) <;> simp

@[simp] theorem State.shadowBad_pending (s : State) (l : LaneId) (bits own other : Nat) :
    (State.shadowBad s l bits own other).pending = s.pending := by simp [State.shadowBad]

@[simp] theorem State.shadowGood_pending (s : State) (l : LaneId) : (State.shadowGood s l).pending = s.pending := by simp [State.shadowGood]

@[simp] theorem State.shadowStep_pending (s : State) (l : LaneId) : (State.shadowStep s l).pending = s.pending := by
  unfold State.shadowStep
  dsimp only
  (repeat' split) <;> simp

theorem execShadowMismatch_pending {l : LaneId} {s s' : State} (h : execShadowMismatch l s = .next s') : s'.pending = s.pending := by
  unfold execShadowMismatch at h
  (repeat' split at h) <;> cases h <;> simp

theorem execShadowMismatchClear_pending {l : LaneId} {s s' : State} (h : execShadowMismatchClear l s = .next s') : s'.pending = s.pending := by
  unfold execShadowMismatchClear at h
  cases h
  simp

@[simp] theorem State.pairTime_pending (s : State) (master : Bool) : (State.pairTime s master).pending = s.pending := by simp [State.pairTime]

@[simp] theorem State.takeRole_pending (s : State) (l : LaneId) (role : Nat) :
    (State.takeRole s l role).pending = s.pending := by simp [State.takeRole]

@[simp] theorem State.becomeMaster_pending (s : State) (l : LaneId) (cause : Nat) :
    (State.becomeMaster s l cause).pending = s.pending := by simp [State.becomeMaster]

@[simp] theorem State.becomeStandby_pending (s : State) (l : LaneId) (role cause : Nat) :
    (State.becomeStandby s l role cause).pending = s.pending := by simp [State.becomeStandby]

@[simp] theorem State.takeOver_pending (s : State) (l : LaneId) : (State.takeOver s l).pending = s.pending := by simp [State.takeOver]

@[simp] theorem State.startWait_pending (s : State) (l : LaneId) : (State.startWait s l).pending = s.pending := by simp [State.startWait]

@[simp] theorem State.takeHold_pending (s : State) (l : LaneId) : (State.takeHold s l).pending = s.pending := by simp [State.takeHold]

@[simp] theorem State.yieldEnd_pending (s : State) (l : LaneId) : (State.yieldEnd s l).pending = s.pending := by
  unfold State.yieldEnd
  (repeat' split) <;> simp

@[simp] theorem State.contradiction_pending (s : State) (l : LaneId) (high : Bool) :
    (State.contradiction s l high).pending = s.pending := by simp [State.contradiction]

@[simp] theorem State.standbyDecide_pending (s : State) (l : LaneId) (line : Bool) :
    (State.standbyDecide s l line).pending = s.pending := by simp [State.standbyDecide]

@[simp] theorem State.masterDecide_pending (s : State) (l : LaneId) (line : Bool) :
    (State.masterDecide s l line).pending = s.pending := by simp [State.masterDecide]

@[simp] theorem State.roleDecide_pending (s : State) (l : LaneId) : (State.roleDecide s l).pending = s.pending := by simp [State.roleDecide]

@[simp] theorem State.pairStep_pending (s : State) (l : LaneId) : (State.pairStep s l).pending = s.pending := by simp [State.pairStep]

@[simp] theorem State.roleEdge_pending (s : State) (l : LaneId) : (State.roleEdge s l).pending = s.pending := by simp [State.roleEdge]

@[simp] theorem State.askHandover_pending (s : State) (src : Nat) : (State.askHandover s src).1.pending = s.pending := by
  unfold State.askHandover
  dsimp only
  (repeat' split) <;> simp

theorem execHandoverRequest_pending {src : Nat} {s s' : State} (h : execHandoverRequest src s = .next s') : s'.pending = s.pending := by
  unfold execHandoverRequest at h
  cases h
  simp

theorem execHandoverTimeout_pending {l : LaneId} {s s' : State} (h : execHandoverTimeout l s = .next s') : s'.pending = s.pending := by
  unfold execHandoverTimeout at h
  (repeat' split at h) <;> cases h <;> simp

theorem execTakeHoldoffExpire_pending {l : LaneId} {s s' : State} (h : execTakeHoldoffExpire l s = .next s') : s'.pending = s.pending := by
  unfold execTakeHoldoffExpire at h
  (repeat' split at h) <;> cases h <;> simp

theorem execStartWaitExpire_pending {l : LaneId} {s s' : State} (h : execStartWaitExpire l s = .next s') : s'.pending = s.pending := by
  unfold execStartWaitExpire at h
  (repeat' split at h) <;> cases h <;> simp

@[simp] theorem State.beatSend_pending (s : State) (l : LaneId) : (State.beatSend s l).pending = s.pending := by simp [State.beatSend]

@[simp] theorem State.lineUpdate_pending (s : State) : (State.lineUpdate s).pending = s.pending := by simp [State.lineUpdate]

@[simp] theorem State.lineEdge_pending (s : State) (high : Bool) : (State.lineEdge s high).pending = s.pending := by simp [State.lineEdge]

/-! ### Access.lean -/

@[simp] theorem State.rawSet_pending (s : State) (l : LaneId) (r : RegRow) (reg v : Nat) :
    (State.rawSet s l r reg v).pending = s.pending := by simp [State.rawSet]

@[simp] theorem State.regRead_pending (s : State) (l : LaneId) (core reg : Nat) (r : RegRow) (mask : Nat) :
    (State.regRead s l core reg r mask).2.pending = s.pending := by
  unfold State.regRead
  dsimp only
  (repeat' split) <;> simp

@[simp] theorem State.xchWrite_pending (s : State) (l : LaneId) (reg v : Nat) :
    (State.xchWrite s l reg v).pending = s.pending := by simp [State.xchWrite]

theorem State.laneWrite_pending {s t : State} {l : LaneId} {core reg old x v mask : Nat} (h : s.laneWrite l core reg old x v mask = some t) :
    t.pending = s.pending := by
  suffices H : ∀ t, s.laneWrite l core reg old x v mask = some t → t.pending = s.pending from H t h
  clear h t
  unfold State.laneWrite
  extract_lets w put
  have hp : ∀ y t, put y = some t → t.pending = s.pending := fun y => some_all (by rw [State.lregSet_pending])
  repeat'
    first
    | refine opt_ite ?_ ?_
    | exact hp _
    | exact some_all rfl
    | exact some_all (by (repeat' split) <;> simp +zetaDelta)
    | (intro t h; cases h; done)

theorem State.hubWrite_pending {s : State} {l : LaneId} {core reg x v mask : Nat} {a : State × Nat} (h : s.hubWrite l core reg x v mask = some a) :
    a.1.pending = s.pending := by
  unfold State.hubWrite at h
  dsimp only at h
  (repeat' split at h) <;> cases h <;> (try simp) <;> (try (repeat' split)) <;> (try simp) <;>
    first
    | exact State.cqBaseWrite_pending ‹_›
    | exact State.cqTailWrite_pending ‹_›
    | exact State.settimeWrite_some_pending ‹_›

@[simp] theorem State.regWrite_pending (s : State) (l : LaneId) (core reg : Nat) (r : RegRow) (v mask : Nat) :
    (s.regWrite l core reg r v mask).1.pending = s.pending := by
  unfold State.regWrite
  try dsimp only
  split
  · rfl
  · split
    · split
      · exact State.laneWrite_pending ‹_›
      · simp
    · split
      · exact State.hubWrite_pending ‹_›
      · simp

@[simp] theorem State.regStore_pending (s : State) (l : LaneId) (core n : Nat) (bs : List (Nat × Byte)) :
    (s.regStore l core n bs).1.pending = s.pending := by
  induction n generalizing s bs with
  | zero => rfl
  | succ n ih =>
    cases bs with
    | nil => rfl
    | cons p bs =>
      obtain ⟨a, b⟩ := p
      unfold State.regStore
      split
      · rfl
      · dsimp only
        split
        · simp
        · rw [ih]
          simp

@[simp] theorem State.regLoad_pending (s : State) (l : LaneId) (core k addr n : Nat) : (s.regLoad l core k addr n).1.pending = s.pending := by
  induction k generalizing s addr n with
  | zero => rfl
  | succ k ih =>
    cases n with
    | zero => rfl
    | succ n =>
      rw [State.regLoad]
      · split
        · rfl
        · extract_lets i m half
          split
          rename_i v s1 hq
          have h1 : s1.pending = s.pending := by
            have e := congrArg (fun p => p.2.pending) hq
            rw [← e]
            repeat' split
            all_goals simp
          rw [← h1, ← ih s1 (addr + m) (n + 1 - m)]
      · simp

@[simp] theorem State.mramByte_pending (s : State) (addr : Nat) : (State.mramByte s addr).1.pending = s.pending := by
  unfold State.mramByte
  (repeat' split) <;> simp

@[simp] theorem State.mramLoad_pending (s : State) (n addr : Nat) : (s.mramLoad n addr).1.pending = s.pending := by
  induction n generalizing s addr with
  | zero => rfl
  | succ n ih => simp [State.mramLoad, ih]

@[simp] theorem State.hubStore_pending (s : State) (l : LaneId) (core : Nat) (bs : List (Nat × Byte)) :
    (s.hubStore l core bs).1.pending = s.pending := by
  unfold State.hubStore
  repeat' split
  all_goals simp

@[simp] theorem State.hubLoad_pending (s : State) (l : LaneId) (core addr n : Nat) (ecc : Bool) :
    (s.hubLoad l core addr n ecc).1.pending = s.pending := by
  have hm : (match s.mramLoad n addr with | (s, bs) => (s, bs, 0) : State × List Byte × Nat).1.pending = s.pending :=
    s.mramLoad_pending n addr
  have hr : (match s.regLoad l core n addr n with | (s, bs) => (s, bs, 0) : State × List Byte × Nat).1.pending = s.pending :=
    s.regLoad_pending l core n addr n
  unfold State.hubLoad
  split
  · split
    · rfl
    · split
      · rfl
      · exact hm
  · split
    · exact hr
    · rfl

@[simp] theorem State.coreLoad_pending (s : State) (l : LaneId) (core rd : Nat) (bs : List Byte) (signed : Bool) :
    (State.coreLoad s l core rd bs signed).pending = s.pending := by simp [State.coreLoad]

@[simp] theorem State.accessFault_pending (s : State) (l : LaneId) (core pc addr : Nat) (store : Bool) :
    (State.accessFault s l core pc addr store).pending = s.pending := by simp [State.accessFault]

@[simp] theorem State.localStore_pending (s : State) (l : LaneId) (core pc addr size : Nat) (v : Word) :
    (s.localStore l core pc addr size v).pending = s.pending := by
  unfold State.localStore
  try dsimp only
  split <;> simp

@[simp] theorem State.localLoad_pending (s : State) (l : LaneId) (core pc addr size rd : Nat) (signed : Bool) :
    (s.localLoad l core pc addr size rd signed).pending = s.pending := by
  unfold State.localLoad
  try dsimp only
  split <;> simp

/-! ### Protect.lean -/

@[simp] theorem State.dispatch_pending (s : State) (l : LaneId) (c : Nat) (d : TaskDecl) :
    (State.dispatch s l c d).pending = s.pending := by simp [State.dispatch]

@[simp] theorem State.guarded_pending (s : State) (l : LaneId) (core pc addr n : Nat) (write : Bool) (who : Runner) (f : State → State)
    (hf : ∀ t, (f t).pending = t.pending) : (s.guarded l core pc addr n write who f).pending = s.pending := by
  unfold State.guarded
  cases who <;> (try dsimp only) <;> (repeat' split) <;> simp [hf]

@[simp] theorem State.breakResv_pending (s : State) (l : LaneId) (core addr n : Nat) :
    (State.breakResv s l core addr n).pending = s.pending := by simp [State.breakResv]

@[simp] theorem State.laneMemStore_pending (s : State) (l : LaneId) (core addr n : Nat) (v : Nat) :
    (State.laneMemStore s l core addr n v).pending = s.pending := by simp [State.laneMemStore]

@[simp] theorem State.atomicOp_pending (s : State) (l : LaneId) (core addr size rd : Nat) (op : MemOp) :
    (State.atomicOp s l core addr size rd op).pending = s.pending := by
  unfold State.atomicOp
  (repeat' split) <;> simp

theorem execCdaCsrWrite_pending {l : LaneId} {c pc : Nat} {pr : Priv} {op : CsrOp} {csr rd : Nat} {v : Word} {s s' : State} (h : execCdaCsrWrite l c pc pr op csr rd v s = .next s') :
    s'.pending = s.pending := by
  unfold execCdaCsrWrite at h
  dsimp only at h
  (repeat' split at h) <;> cases h <;> simp

/-! ### Bridge.lean -/

@[simp] theorem State.brgFail_pending (s : State) (l : LaneId) (code : Nat) (write : Bool) (core addr : Nat) :
    (State.brgFail s l code write core addr).pending = s.pending := by
  unfold State.brgFail
  (repeat' split) <;> simp

@[simp] theorem State.writeFails_pending (s : State) (l : LaneId) (w : PendWrite) (code : Nat) :
    (State.writeFails s l w code).pending = s.pending := by simp [State.writeFails]

@[simp] theorem State.brgProceed_pending (s : State) (l : LaneId) : (State.brgProceed s l).pending = s.pending := by
  unfold State.brgProceed
  dsimp only
  (repeat' split) <;> simp

@[simp] theorem State.brgAll_pending (s : State) (l : LaneId) : (State.brgAll s l).pending = s.pending := by simp [State.brgAll]

theorem State.oweFault_pending {s t : State} {l : LaneId} {core pc : Nat} (h : s.oweFault l core pc = some t) : t.pending = s.pending := by
  unfold State.oweFault at h
  split at h <;> cases h
  simp

@[simp] theorem State.fenceDone_pending (s : State) (l : LaneId) (core pc : Nat) : (s.fenceDone l core pc).pending = s.pending := by
  unfold State.fenceDone
  split
  · split
    · simp [State.oweFault_pending ‹_›]
    · exact State.oweFault_pending ‹_›
  · split <;> simp

@[simp] theorem State.fencesGo_pending (s : State) (l : LaneId) : (State.fencesGo s l).pending = s.pending := by simp [State.fencesGo]

@[simp] theorem State.performWrite_pending (s : State) (l : LaneId) (w : PendWrite) :
    (State.performWrite s l w).1.pending = s.pending := by simp [State.performWrite]

@[simp] theorem State.performAhead_pending (s : State) (l : LaneId) (n : Nat) :
    (State.performAhead s l n).pending = s.pending := by simp [State.performAhead]

@[simp] theorem State.linkFalls_pending (s : State) (l : LaneId) : (State.linkFalls s l).pending = s.pending := by simp [State.linkFalls]

@[simp] theorem State.linkReset_pending (s : State) (l : LaneId) (done told : Nat) :
    (State.linkReset s l done told).pending = s.pending := by simp [State.linkReset]

theorem execLinkReset_pending {l : LaneId} {done replays : Nat} {s s' : State} (h : execLinkReset l done replays s = .next s') :
    s'.pending = s.pending := by
  unfold execLinkReset at h
  dsimp only at h
  (repeat' split at h) <;> cases h <;> simp

theorem execBrgResetWrite_pending {l : LaneId} {core v done : Nat} {s s' : State} (h : execBrgResetWrite l core v done s = .next s') :
    s'.pending = s.pending := by
  unfold execBrgResetWrite at h
  (repeat' split at h) <;> cases h <;> simp

@[simp] theorem execBrgResetWrite_pending' (l : LaneId) (core v done : Nat) (s : State) : (nextOr s (execBrgResetWrite l core v done s)).pending = s.pending :=
  nextOr_pending _ _ (fun _ h => execBrgResetWrite_pending h)

@[simp] theorem State.laneStore_pending (s : State) (l : LaneId) (core pc addr size : Nat) (v : Word) :
    (State.laneStore s l core pc addr size v).pending = s.pending := by simp [State.laneStore]

theorem execBridgeRegisterStore_pending {l : LaneId} {core pc addr size : Nat} {v : Word} {amo : Bool} {who : Runner} {s s' : State} (h : execBridgeRegisterStore l core pc addr size v amo who s = .next s') :
    s'.pending = s.pending := by
  unfold execBridgeRegisterStore at h
  split at h <;> cases h
  · rfl
  · refine State.guarded_pending _ _ _ _ _ _ _ _ _ (fun t => ?_)
    (try dsimp only); (repeat' split) <;> first | exact State.oweFault_pending (by assumption) | (simp; done) | ((repeat' split) <;> simp)

@[simp] theorem State.combinedStore_pending (s : State) (l : LaneId) (core addr size : Nat) (v : Word) :
    (State.combinedStore s l core addr size v).pending = s.pending := by simp [State.combinedStore]

@[simp] theorem State.windowFault_pending (s : State) (l : LaneId) (core pc addr : Nat) :
    (State.windowFault s l core pc addr).pending = s.pending := by simp [State.windowFault]

theorem State.chanWrite_pending (s g : State) (l : LaneId) (core pc reg c : Nat) (f : State → State) (e : f s = g)
    (hf : g.pending = s.pending) : (s.chanWrite l core pc reg c f).pending = s.pending := by
  subst e
  unfold State.chanWrite
  split <;> simp [apply_ite, hf]

@[simp] theorem State.queueWrite_pending (s : State) (l : LaneId) (core pc reg q : Nat) (f : State → Option State)
    (hf : ∀ t, f s = some t → t.pending = s.pending) : (s.queueWrite l core pc reg q f).pending = s.pending := by
  unfold State.queueWrite
  split
  · rfl
  · split
    · exact hf _ (by assumption)
    · simp

theorem execPdeGo_pending {l : LaneId} {core pc c : Nat} {s s' : State} (h : execPdeGo l core pc c s = .next s') : s'.pending = s.pending := by
  unfold execPdeGo at h
  injection h with h
  rw [← h]
  exact State.chanWrite_pending _ _ _ _ _ _ _ _ rfl (by simp)

theorem execPdeDoorbell_pending {l : LaneId} {core pc c : Nat} {s s' : State} (h : execPdeDoorbell l core pc c s = .next s') :
    s'.pending = s.pending := by
  unfold execPdeDoorbell at h
  injection h with h
  rw [← h]
  exact State.chanWrite_pending _ _ _ _ _ _ _ _ rfl (by simp)

theorem execPdeAbort_pending {l : LaneId} {core pc c : Nat} {s s' : State} (h : execPdeAbort l core pc c s = .next s') :
    s'.pending = s.pending := by
  unfold execPdeAbort at h
  injection h with h
  rw [← h]
  exact State.chanWrite_pending _ _ _ _ _ _ _ _ rfl (by simp)

theorem execPdeRdWrite_pending {l : LaneId} {core pc c v : Nat} {s s' : State} (h : execPdeRdWrite l core pc c v s = .next s') :
    s'.pending = s.pending := by
  unfold execPdeRdWrite at h
  injection h with h
  rw [← h]
  exact State.chanWrite_pending _ _ _ _ _ _ _ _ rfl (State.pdeRdWrite_pending s c v)

theorem execPdeArmWrite_pending {l : LaneId} {core pc c : Nat} {s s' : State} (h : execPdeArmWrite l core pc c s = .next s') :
    s'.pending = s.pending := by
  unfold execPdeArmWrite at h
  injection h with h
  rw [← h]
  exact State.chanWrite_pending _ _ _ _ _ _ _ _ rfl (by simp)

theorem execPdeCqClaim_pending {l : LaneId} {core pc q v : Nat} {s s' : State} (h : execPdeCqClaim l core pc q v s = .next s') :
    s'.pending = s.pending := by
  unfold execPdeCqClaim at h
  cases h
  exact State.queueWrite_pending _ _ _ _ _ _ _ (fun _ h => State.cqBaseWrite_pending h)

theorem execPdeCqRelease_pending {l : LaneId} {core pc q : Nat} {s s' : State} (h : execPdeCqRelease l core pc q s = .next s') :
    s'.pending = s.pending := by
  unfold execPdeCqRelease at h
  cases h
  exact State.queueWrite_pending _ _ _ _ _ _ _ (fun _ h => State.cqBaseWrite_pending h)

theorem execPdeCqTailWrite_pending {l : LaneId} {core pc q v : Nat} {s s' : State} (h : execPdeCqTailWrite l core pc q v s = .next s') :
    s'.pending = s.pending := by
  unfold execPdeCqTailWrite at h
  cases h
  exact State.queueWrite_pending _ _ _ _ _ _ _ (fun _ h => State.cqTailWrite_pending h)

theorem execBridgeCombinedStore_pending {l : LaneId} {core pc addr size : Nat} {v : Word} {amo : Bool} {who : Runner} {s s' : State} (h : execBridgeCombinedStore l core pc addr size v amo who s = .next s') :
    s'.pending = s.pending := by
  unfold execBridgeCombinedStore at h
  split at h <;> cases h
  · rfl
  · refine State.guarded_pending _ _ _ _ _ _ _ _ _ (fun t => ?_)
    (try dsimp only); (repeat' split) <;> first | exact State.oweFault_pending (by assumption) | (simp; done) | ((repeat' split) <;> simp)

theorem execWcBufferIssue_pending {l : LaneId} {core : Nat} {s s' : State} (h : execWcBufferIssue l core s = .next s') :
    s'.pending = s.pending := by
  unfold execWcBufferIssue at h
  (repeat' split at h) <;> cases h <;> simp

theorem execFence_pending {l : LaneId} {core pc : Nat} {s s' : State} (h : execFence l core pc s = .next s') : s'.pending = s.pending := by
  unfold execFence at h
  dsimp only at h
  (repeat' split at h) <;> cases h <;> simp

@[simp] theorem State.readEnter_pending (s : State) (l : LaneId) (core pc addr size rd : Nat) (signed spec : Bool) :
    (State.readEnter s l core pc addr size rd signed spec).pending = s.pending := by simp [State.readEnter]

theorem execBridgeLoad_pending {l : LaneId} {core pc addr size rd : Nat} {signed spec amo : Bool} {who : Runner} {s s' : State} (h : execBridgeLoad l core pc addr size rd signed spec amo who s = .next s') :
    s'.pending = s.pending := by
  unfold execBridgeLoad at h
  split at h <;> cases h
  · rfl
  · refine State.guarded_pending _ _ _ _ _ _ _ _ _ (fun t => ?_)
    (try dsimp only); (repeat' split) <;> first | exact State.oweFault_pending (by assumption) | (simp; done) | ((repeat' split) <;> simp)

theorem execWriteResponse_pending {l : LaneId} {s s' : State} (h : execWriteResponse l s = .next s') : s'.pending = s.pending := by
  unfold execWriteResponse at h
  (repeat' split at h) <;> cases h <;> simp

theorem execReadResponse_pending {l : LaneId} {tag : Nat} {ecc : Bool} {s s' : State} (h : execReadResponse l tag ecc s = .next s') :
    s'.pending = s.pending := by
  unfold execReadResponse at h
  dsimp only at h
  (repeat' split at h) <;> cases h <;> simp

theorem execFlushAck_pending {l : LaneId} {tag : Nat} {s s' : State} (h : execFlushAck l tag s = .next s') : s'.pending = s.pending := by
  unfold execFlushAck at h
  (repeat' split at h) <;> cases h <;> simp

theorem execLinkRetrained_pending {l : LaneId} {s s' : State} (h : execLinkRetrained l s = .next s') : s'.pending = s.pending := by
  unfold execLinkRetrained at h
  (repeat' split at h) <;> cases h <;> simp

theorem execDiscardTimerExpire_pending {l : LaneId} {write : Bool} {i done : Nat} {s s' : State} (h : execDiscardTimerExpire l write i done s = .next s') :
    s'.pending = s.pending := by
  unfold execDiscardTimerExpire at h
  dsimp only at h
  (repeat' split at h) <;> cases h <;> simp

theorem execLaneMemoryRead_pending {l : LaneId} {core pc addr size rd : Nat} {signed : Bool} {op : MemOp} {who : Runner} {ecc : EccResult} {s s' : State} (h : execLaneMemoryRead l core pc addr size rd signed op who ecc s = .next s') :
    s'.pending = s.pending := by
  unfold execLaneMemoryRead at h
  dsimp only at h
  (repeat' split at h) <;> cases h <;> simp

theorem execTckFrameLowRead_pending {l : LaneId} {core rd : Nat} {who : Runner} {s s' : State} (h : execTckFrameLowRead l core rd who s = .next s') :
    s'.pending = s.pending := by
  unfold execTckFrameLowRead at h
  (repeat' split at h) <;> cases h <;> simp

theorem execXchVcountWrite_pending {l : LaneId} {core v : Nat} {s s' : State} (h : execXchVcountWrite l core v s = .next s') :
    s'.pending = s.pending := by
  unfold execXchVcountWrite at h
  (repeat' split at h) <;> cases h <;> simp

@[simp] theorem State.registerStore_pending (s : State) (l : LaneId) (core pc addr size : Nat) (v : Word) :
    (s.registerStore l core pc addr size v).pending = s.pending := by
  unfold State.registerStore
  try dsimp only
  repeat' split
  all_goals first | simp | simp [State.oweFault_pending ‹_›]

theorem execRegisterWrite_pending {l : LaneId} {core pc addr size : Nat} {v : Word} {who : Runner} {s s' : State} (h : execRegisterWrite l core pc addr size v who s = .next s') :
    s'.pending = s.pending := by
  unfold execRegisterWrite at h
  (repeat' split at h) <;> cases h <;> simp

theorem execW1cWrite_pending {l : LaneId} {core pc addr : Nat} {v : Word} {set : Nat} {who : Runner} {s s' : State} (h : execW1cWrite l core pc addr v set who s = .next s') :
    s'.pending = s.pending := by
  unfold execW1cWrite at h
  (repeat' split at h) <;> cases h <;> simp

theorem execRcRead_pending {l : LaneId} {core pc addr size rd : Nat} {signed : Bool} {more : Nat} {who : Runner} {s s' : State} (h : execRcRead l core pc addr size rd signed more who s = .next s') :
    s'.pending = s.pending := by
  unfold execRcRead at h
  split at h <;> cases h
  · rfl
  · refine State.guarded_pending _ _ _ _ _ _ _ _ _ (fun t => ?_)
    have ho : ∀ x, (if inPeripheral addr then none else t.oweFault l core pc) = some x → x.pending = t.pending := by
      intro x hx
      split at hx
      · cases hx
      · exact State.oweFault_pending hx
    split
    · simp
    · split
      · exact ho _ (by assumption)
      · (repeat' split) <;> (try simp) <;> (repeat' split) <;> simp

/-! ### Commit.lean -/

@[simp] theorem State.pendSet_pending (s : State) (i j : Nat) (bs : List Byte) :
    (State.pendSet s i j bs).pending = s.pending := by simp [State.pendSet]

@[simp] theorem State.merged_pending (s : State) : (State.merged s).pending = s.pending := by simp [State.merged]

@[simp] theorem State.withPair_pending (s : State) : s.withPair.pending = s.pending := by
  unfold State.withPair
  generalize pairSets = xs
  split
  · exact foldl_pending (fun s (p : Nat × Nat × List Byte) => s.storedSet p.1 p.2.1 p.2.2) (fun _ _ => rfl) _ _
  · rfl

@[simp] theorem State.condEvent_pending (s t : State) (c : Cond) : (State.condEvent s t c).pending = s.pending := by simp [State.condEvent]

@[simp] theorem State.hubTakes_pending (s old : State) : (s.hubTakes old).pending = s.pending := by
  unfold State.hubTakes
  extract_lets s1 roles s2 s3 s4
  clear_value (e4 : s4 = _)
  clear_value (e3 : s3 = _)
  clear_value roles (e2 : s2 = _)
  clear_value (e1 : s1 = _)
  have h1 : s1.pending = s.pending := by rw [e1, State.loadNetCfg_pending]
  have h2 : s2.pending = s1.pending := by
    rw [e2]
    split
    · rw [State.tbNewRole_pending, State.startTb_pending]
    · rfl
  have h3 : s3.pending = s2.pending := by rw [e3, State.dropClaims_pending]
  have h4 : s4.pending = s3.pending := by
    rw [e4]
    split
    · rfl
    · rw [State.newTrellis_pending]
  split
  · rfl
  · rw [← h1, ← h2, ← h3, ← h4]
    generalize List.range 8 = xs
    refine foldl_pending _ ?_ _ _
    intro s ch
    split
    · rw [State.recommitCan_pending]
    · rfl

@[simp] theorem State.takeStaged_pending (s : State) : (State.takeStaged s).pending = s.pending := by simp [State.takeStaged]

@[simp] theorem State.commit_pending (s : State) : s.commit.1.pending = s.pending := by
  unfold State.commit
  try dsimp only
  split <;> simp

@[simp] theorem State.discard_pending (s : State) : (State.discard s).pending = s.pending := by simp [State.discard]

@[simp] theorem State.restoreDefaults_pending (s : State) : s.restoreDefaults.pending = s.pending := by
  unfold State.restoreDefaults
  extract_lets rows vs x
  clear_value vs
  rfl

theorem State.imageValue_pending {s t : State} {i j : Nat} {bs : List Byte} (h : s.imageValue i j bs = some t) : t.pending = s.pending := by
  unfold State.imageValue at h
  (repeat' split at h) <;> cases h <;> simp

theorem State.imageValues_pending {s t : State} (vs : List (Nat × Nat × List Byte)) (h : s.imageValues vs = some t) :
    t.pending = s.pending := by
  induction vs generalizing s with
  | nil => cases h; rfl
  | cons v vs ih =>
    obtain ⟨i, j, bs⟩ := v
    unfold State.imageValues at h
    split at h
    · rw [ih h, State.imageValue_pending ‹_›]
    · cases h

@[simp] theorem State.loadImage_pending (s : State) (b : List Byte) : (s.loadImage b).1.pending = s.pending := by
  unfold State.loadImage
  try dsimp only
  repeat' split
  all_goals first | rfl | simp [State.imageValues_pending _ ‹_›]

/-! ### Relay.lean -/

@[simp] theorem State.sramSet_pending (s : State) (addr : Nat) (bs : List Byte) :
    (State.sramSet s addr bs).pending = s.pending := by simp [State.sramSet]

@[simp] theorem State.deliver_pending (s : State) (c : Client) (b : List Byte) : (s.deliver c b).pending = s.pending := by
  unfold State.deliver
  split
  · rfl
  · split
    · extract_lets ch room
      exact foldl_pending (fun s (f : List Byte) => s.emit .can ch (s.obj 0x0101 3) f) (fun _ _ => rfl) _ _
    · rfl

@[simp] theorem State.respond_pending (s : State) (q : OpenRequest) (op code : Nat) (last : Bool) (data : List Byte) :
    (State.respond s q op code last data).pending = s.pending := by simp [State.respond]

@[simp] theorem State.relayPut_pending (s : State) (req i j src : Nat) (bs : List Byte) :
    (State.relayPut s req i j src bs).pending = s.pending := by simp [State.relayPut]

@[simp] theorem State.relayRequest_pending (s : State) (q : OpenRequest) (src : Nat) (bs : List Byte) :
    (State.relayRequest s q src bs).pending = s.pending := by simp [State.relayRequest]

@[simp] theorem State.relayFinish_pending (s : State) (req code : Nat) : (State.relayFinish s req code).pending = s.pending := by
  unfold State.relayFinish
  dsimp only
  (repeat' split) <;> simp

@[simp] theorem State.relayExpire_pending (s : State) : (State.relayExpire s).pending = s.pending := by simp [State.relayExpire]

theorem execRelayEntryExpire_pending {s s' : State} (h : execRelayEntryExpire s = .next s') : s'.pending = s.pending := by
  unfold execRelayEntryExpire at h
  (repeat' split at h) <;> cases h <;> simp

@[simp] theorem State.relayOutcome_pending (s : State) (seq code : Nat) : (State.relayOutcome s seq code).pending = s.pending := by
  unfold State.relayOutcome
  (repeat' split) <;> simp

@[simp] theorem State.rackOutcome_pending (s : State) (src v : Nat) : (State.rackOutcome s src v).1.pending = s.pending := by
  unfold State.rackOutcome
  dsimp only
  (repeat' split) <;> simp

theorem State.relayEffect_keepsQueue (P : List Instr → Prop)
    (s : State) (src i j : Nat) (bs : List Byte) (h : P s.pending) : P (s.relayEffect src i j bs).1.pending := by
  have pr : ∀ (c : Prop) [Decidable c] (x y : State × Nat), P x.1.pending → P y.1.pending → P (if c then x else y).1.pending := by
    intro c _ x y hx hy
    split <;> assumption
  unfold State.relayEffect
  extract_lets v
  refine pr _ _ _ (by simpa using h) ?_
  refine pr _ _ _ (s.lifeRequest_keepsQueue P src v h) ?_
  refine pr _ _ _ (by simpa using h) ?_
  refine pr _ _ _ h ?_
  refine pr _ _ _ h ?_
  exact h

@[simp] theorem State.relayOwn_pending (s : State) (l : LaneId) (src i code : Nat) (bs : List Byte) :
    (s.relayOwn l src i code bs).1.pending = s.pending := by
  unfold State.relayOwn
  split
  · simp
  · split
    · simp
    · rfl

theorem State.relayDo_keepsQueue (P : List Instr → Prop)
    (s : State) (l : LaneId) (seq src i j : Nat) (bs : List Byte) (h : P s.pending) : P (s.relayDo l seq src i j bs).1.pending := by
  unfold State.relayDo
  split
  · simpa using h
  · have e := State.relayEffect_keepsQueue P s src i j bs h
    generalize s.relayEffect src i j bs = q at e ⊢
    obtain ⟨t, code⟩ := q
    simpa using e

@[simp] theorem State.relayReport_pending (s : State) (l : LaneId) (seq i j code : Nat) :
    (State.relayReport s l seq i j code).pending = s.pending := by simp [State.relayReport]

theorem State.relayEntry_keepsQueue (P : List Instr → Prop)
    (s : State) (l : LaneId) (e : List Byte) (h : P s.pending) : P (s.relayEntry l e).pending := by
  unfold State.relayEntry
  extract_lets seq i j rt newer num part bad all last s1
  clear_value (e1 : s1 = _)
  have h1 : P s1.pending := by rw [e1, State.updLane_pending]; exact h
  split
  · exact h
  · split
    · simpa using h1
    · split
      · simpa using h1
      · have e := State.relayDo_keepsQueue P s1 l seq (byteAt e 6) i j all h1
        generalize s1.relayDo l seq (byteAt _ 6) i j all = q at e ⊢
        obtain ⟨t, code⟩ := q
        simpa using e

theorem State.relayAct_keepsQueue (P : List Instr → Prop)
    (s : State) (l : LaneId) (h : P s.pending) : P (s.relayAct l).pending := by
  unfold State.relayAct
  split
  · exact h
  · rename_i r e
    clear e
    generalize List.range (min 8 (byteAt r 0)) = xs
    induction xs generalizing s with
    | nil => exact h
    | cons x xs ih =>
      rw [List.foldl_cons]
      exact ih _ (State.relayEntry_keepsQueue P s l _ h)

/-! ### Service.lean -/

@[simp] theorem State.hubValue_pending (s : State) (src i j : Nat) (r : ObjRow) (bs : List Byte) :
    (s.hubValue src i j r bs).1.pending = s.pending := by
  have pr : ∀ (c : Prop) [Decidable c] (x y : State × Nat), x.1.pending = s.pending → y.1.pending = s.pending →
      (if c then x else y).1.pending = s.pending := by
    intro c _ x y hx hy
    split <;> assumption
  unfold State.hubValue
  extract_lets v
  clear_value v
  refine pr _ _ _ (by simp) ?_
  refine pr _ _ _ ?_ ?_
  · split
    · exact s.commit_pending
    · exact s.discard_pending
    · exact s.restoreDefaults_pending
  refine pr _ _ _ (s.loadImage_pending _) ?_
  refine pr _ _ _ (pr _ _ _ rfl (by simp)) ?_
  refine pr _ _ _ (by simp) ?_
  refine pr _ _ _ (pr _ _ _ (by simp) (by simp)) ?_
  refine pr _ _ _ (by simp) ?_
  refine pr _ _ _ ?_ ?_
  · dsimp only
    split
    · exact s.canRelease_pending _ _
    · rfl
  refine pr _ _ _ (by simp) ?_
  refine pr _ _ _ (by simp) ?_
  refine pr _ _ _ (by simp) ?_
  refine pr _ _ _ (by simp) ?_
  refine pr _ _ _ (pr _ _ _ (by simp) rfl) ?_
  rfl

@[simp] theorem State.transferSet_pending (s : State) (k : Nat) (t : Transfer) :
    (State.transferSet s k t).pending = s.pending := by simp [State.transferSet]

@[simp] theorem State.transferEnd_pending (s : State) (k : Nat) : (State.transferEnd s k).pending = s.pending := by simp [State.transferEnd]

@[simp] theorem State.deadClear_pending (s : State) (c : Client) (k : Nat) :
    (State.deadClear s c k).pending = s.pending := by simp [State.deadClear]

@[simp] theorem State.transferKill_pending (s : State) (k code : Nat) : (State.transferKill s k code).pending = s.pending := by
  unfold State.transferKill
  (repeat' split) <;> simp

theorem execTransferTimeout_pending {i j : Nat} {s s' : State} (h : execTransferTimeout i j s = .next s') : s'.pending = s.pending := by
  unfold execTransferTimeout at h
  cases h
  simp

@[simp] theorem State.refuseRequest_pending (s : State) (i v code : Nat) :
    (State.refuseRequest s i v code).pending = s.pending := by simp [State.refuseRequest]

@[simp] theorem State.writeSegment_pending (s : State) (c : Client) (q : OpenRequest) (src : Nat) (p : Pdu) (r : ObjRow) :
    (State.writeSegment s c q src p r).pending = s.pending := by simp [State.writeSegment]

@[simp] theorem State.readAnswer_pending (s : State) (q : OpenRequest) (p : Pdu) (r : ObjRow) :
    (State.readAnswer s q p r).pending = s.pending := by simp [State.readAnswer]

@[simp] theorem State.handle_pending (s : State) (c : Client) (q : OpenRequest) (src : Nat) (p : Pdu) :
    (State.handle s c q src p).pending = s.pending := by
  unfold State.handle
  (repeat' split) <;> simp

@[simp] theorem State.clientFault_pending (s : State) (c : Client) (code : Nat) (parts : List (Nat × Nat)) :
    (State.clientFault s c code parts).pending = s.pending := by simp [State.clientFault]

@[simp] theorem State.outcomePdu_pending (s : State) (p : Pdu) : (State.outcomePdu s p).pending = s.pending := by simp [State.outcomePdu]

@[simp] theorem State.serve_pending (s : State) (c : Client) (b : List Byte) : (State.serve s c b).pending = s.pending := by
  unfold State.serve
  dsimp only
  (repeat' split) <;> simp

theorem execServiceRead_pending {c : Client} {b : List Byte} {s s' : State} (h : execServiceRead c b s = .next s') :
    s'.pending = s.pending := by
  unfold execServiceRead at h
  (repeat' split at h) <;> cases h <;> simp

theorem execServiceWrite_pending {c : Client} {b : List Byte} {s s' : State} (h : execServiceWrite c b s = .next s') :
    s'.pending = s.pending := by
  unfold execServiceWrite at h
  (repeat' split at h) <;> cases h <;> simp

theorem execServiceInfo_pending {c : Client} {b : List Byte} {s s' : State} (h : execServiceInfo c b s = .next s') :
    s'.pending = s.pending := by
  unfold execServiceInfo at h
  (repeat' split at h) <;> cases h <;> simp

theorem execServiceCancel_pending {c : Client} {b : List Byte} {s s' : State} (h : execServiceCancel c b s = .next s') :
    s'.pending = s.pending := by
  unfold execServiceCancel at h
  (repeat' split at h) <;> cases h <;> simp

theorem execServiceOutcome_pending {l : LaneId} {b : List Byte} {s s' : State} (h : execServiceOutcome l b s = .next s') :
    s'.pending = s.pending := by
  unfold execServiceOutcome at h
  (repeat' split at h) <;> cases h <;> simp

theorem execLaneLocalRequest_pending {l : LaneId} {s s' : State} (h : execLaneLocalRequest l s = .next s') : s'.pending = s.pending := by
  unfold execLaneLocalRequest at h
  dsimp only at h
  (repeat' split at h) <;> cases h <;> simp

@[simp] theorem State.canBroken_pending (s : State) (ch : Nat) : (State.canBroken s ch).pending = s.pending := by simp [State.canBroken]

theorem execCanServiceSegment_pending {ch : Nat} {f : CanFrame} {s s' : State} (h : execCanServiceSegment ch f s = .next s') :
    s'.pending = s.pending := by
  unfold execCanServiceSegment at h
  dsimp only at h
  (repeat' split at h) <;> cases h <;> simp

theorem execCanSegmentGapTimeout_pending {s s' : State} (h : execCanSegmentGapTimeout s = .next s') : s'.pending = s.pending := by
  unfold execCanSegmentGapTimeout at h
  (repeat' split at h) <;> cases h <;> simp

theorem execConfigCommit_pending {src : Nat} {s s' : State} (h : execConfigCommit src s = .next s') : s'.pending = s.pending := by
  unfold execConfigCommit at h
  exact out_ite (P := fun t => t.pending = s.pending) (next_all s.commit_pending) (next_all rfl) s' h

theorem execConfigDiscard_pending {src : Nat} {s s' : State} (h : execConfigDiscard src s = .next s') : s'.pending = s.pending := by
  unfold execConfigDiscard at h
  (repeat' split at h) <;> cases h <;> simp

theorem execConfigRestoreDefaults_pending {src : Nat} {s s' : State} (h : execConfigRestoreDefaults src s = .next s') :
    s'.pending = s.pending := by
  unfold execConfigRestoreDefaults at h
  (repeat' split at h) <;> cases h <;> simp

theorem execDictionaryImageLoad_pending {src : Nat} {b : List Byte} {s s' : State} (h : execDictionaryImageLoad src b s = .next s') :
    s'.pending = s.pending := by
  unfold execDictionaryImageLoad at h
  (repeat' split at h) <;> cases h <;> simp

theorem execTrainDirectoryWrite_pending {src : Nat} {b : List Byte} {s s' : State} (h : execTrainDirectoryWrite src b s = .next s') :
    s'.pending = s.pending := by
  unfold execTrainDirectoryWrite at h
  (repeat' split at h) <;> cases h <;> simp

/-! ### Tick.lean -/

@[simp] theorem State.tickUpd_pending (s : State) (l : LaneId) (f : LaneTick → LaneTick) :
    (State.tickUpd s l f).pending = s.pending := by simp [State.tickUpd]

@[simp] theorem State.outOfStep_pending (s : State) (l : LaneId) : (State.outOfStep s l).pending = s.pending := by simp [State.outOfStep]

theorem execSyncBeat_pending {l : LaneId} {p q : Option Int} {s s' : State} (h : execSyncBeat l p q s = .next s') :
    s'.pending = s.pending := by
  unfold execSyncBeat at h
  (repeat' split at h) <;> cases h <;> simp

theorem execLaneOutOfStep_pending {l : LaneId} {s s' : State} (h : execLaneOutOfStep l s = .next s') : s'.pending = s.pending := by
  unfold execLaneOutOfStep at h
  (repeat' split at h) <;> cases h <;> simp

@[simp] theorem State.markerReject_pending (s : State) (l : LaneId) (offset : Nat) :
    (State.markerReject s l offset).pending = s.pending := by simp [State.markerReject]

theorem execTickMarker_pending {l : LaneId} {offset : Int} {s s' : State} (h : execTickMarker l offset s = .next s') :
    s'.pending = s.pending := by
  unfold execTickMarker at h
  dsimp only at h
  (repeat' split at h) <;> cases h <;> simp

@[simp] theorem State.hubLossEnter_pending (s : State) (l : LaneId) :
    (State.hubLossEnter s l).pending = s.pending := by simp [State.hubLossEnter]

@[simp] theorem State.hubLossLeave_pending (s : State) (l : LaneId) :
    (State.hubLossLeave s l).pending = s.pending := by simp [State.hubLossLeave]

@[simp] theorem State.markerTally_pending (s : State) (l : LaneId) (n : Nat) :
    (State.markerTally s l n).pending = s.pending := by simp [State.markerTally]

theorem execHubLossEnter_pending {l : LaneId} {s s' : State} (h : execHubLossEnter l s = .next s') : s'.pending = s.pending := by
  unfold execHubLossEnter at h
  (repeat' split at h) <;> cases h <;> simp

theorem execHubLossLeave_pending {l : LaneId} {s s' : State} (h : execHubLossLeave l s = .next s') : s'.pending = s.pending := by
  unfold execHubLossLeave at h
  (repeat' split at h) <;> cases h <;> simp

@[simp] theorem State.maskCores_pending (s : State) (l : LaneId) (masked : Bool) :
    (State.maskCores s l masked).pending = s.pending := by simp [State.maskCores]

@[simp] theorem State.takeFree_pending (s : State) (l : LaneId) (early : Bool) (rs : List PassResult) :
    (State.takeFree s l early rs).pending = s.pending := by simp [State.takeFree]

theorem execEndOfA_keepsQueue (P : List Instr → Prop)
    {l : LaneId} {s s' : State} (e : execEndOfA l s = .next s') (h : P s.pending) : P s'.pending := by
  unfold execEndOfA at e
  refine out_ite (P := fun t => P t.pending) (next_all h) ?_ s' e
  extract_lets s1 s2 s3 s4 s5 s6 s7
  clear_value (e7 : s7 = _)
  clear_value (e6 : s6 = _)
  clear_value (e5 : s5 = _)
  clear_value (e4 : s4 = _)
  clear_value (e3 : s3 = _)
  clear_value (e2 : s2 = _)
  clear_value (e1 : s1 = _)
  have h1 : P s1.pending := by
    rw [e1]
    exact State.relayAct_keepsQueue P _ _ (by rw [State.agree_pending]; exact h)
  have h2 : s2.pending = s1.pending := by
    rw [e2]
    split <;> simp
  have h3 : s3.pending = s2.pending := by
    rw [e3]
    split <;> simp
  have h4 : s4.pending = s3.pending := by rw [e4, State.reproof_pending]
  have h5 : s5.pending = s4.pending := by
    rw [e5]
    exact foldl_pending _ (fun s d => State.writeInput_pending _ _ _) _ _
  have h6 : s6.pending = s4.pending := by
    rw [e6]
    split
    · rw [State.maskCores_pending, State.setPass_pending, h5]
    · rfl
  refine next_all ?_
  rw [State.lfSet_pending, e7, State.lfSet_pending, h6, h4, h3, h2]
  exact h1

@[simp] theorem State.phaseV_pending (s : State) (l : LaneId) (ns : List PassResult) (since : Nat) :
    (State.phaseV s l ns since).pending = s.pending := by simp [State.phaseV]

theorem execEnterPhaseV_pending {l : LaneId} {es : List EncResult} {ns : List PassResult} {since : Nat} {s s' : State} (h : execEnterPhaseV l es ns since s = .next s') :
    s'.pending = s.pending := by
  unfold execEnterPhaseV at h
  (repeat' split at h) <;> cases h <;> simp

theorem execSafetyDeadline_pending {l : LaneId} {es : List EncResult} {ns : List PassResult} {s s' : State} (h : execSafetyDeadline l es ns s = .next s') :
    s'.pending = s.pending := by
  unfold execSafetyDeadline at h
  (repeat' split at h) <;> cases h <;> simp

theorem execNonsafetyDeadline_pending {l : LaneId} {rs : List PassResult} {pages : List Nat} {wend : Nat} {s s' : State} (h : execNonsafetyDeadline l rs pages wend s = .next s') :
    s'.pending = s.pending := by
  unfold execNonsafetyDeadline at h
  (repeat' split at h) <;> cases h <;> simp

/-! ### Edges.lean -/

@[simp] theorem State.applyDueRegs_pending (s : State) (l : LaneId) :
    (State.applyDueRegs s l).pending = s.pending := by simp [State.applyDueRegs]

@[simp] theorem State.newCycle_pending (s : State) (l : LaneId) : (State.newCycle s l).pending = s.pending := by simp [State.newCycle]

@[simp] theorem State.newCode_pending (s : State) (l : LaneId) (n : Nat) : (State.newCode s l n).pending = s.pending := by simp [State.newCode]

@[simp] theorem State.loadCommit_pending (s : State) (l : LaneId) : (State.loadCommit s l).pending = s.pending := by simp [State.loadCommit]

@[simp] theorem State.modeEdge_pending (s : State) (n : Nat) : (State.modeEdge s n).pending = s.pending := by simp [State.modeEdge]

@[simp] theorem State.beginL_pending (s : State) (l : LaneId) (cycle : Nat) :
    (State.beginL s l cycle).pending = s.pending := by simp [State.beginL]

theorem execTickEdge_pending {l : LaneId} {current : Nat} {s s' : State} (h : execTickEdge l current s = .next s') :
    s'.pending = s.pending := by
  unfold execTickEdge at h
  dsimp only at h
  (repeat' split at h) <;> cases h <;> simp

theorem execResetInputFall_pending {width : Nat} {s s' : State} (h : execResetInputFall width s = .next s') : s'.pending = s.pending := by
  unfold execResetInputFall at h
  (repeat' split at h) <;> cases h <;> simp

@[simp] theorem State.edgeSymbol_pending (s : State) (l : LaneId) (at_ : Option Nat) : (State.edgeSymbol s l at_).pending = s.pending := by
  unfold State.edgeSymbol
  dsimp only
  (repeat' split) <;> simp

@[simp] theorem State.spacingSplit_pending (s : State) : (State.spacingSplit s).pending = s.pending := by simp [State.spacingSplit]

@[simp] theorem State.advHours_pending (s : State) : (State.advHours s).pending = s.pending := by simp [State.advHours]

theorem execSupervisorEdge_pending {a b c : Option Nat} {line : Bool} {m : Option Supply} {s s' : State} (h : execSupervisorEdge a b c line m s = .next s') :
    s'.pending = s.pending := by
  unfold execSupervisorEdge at h
  (repeat' split at h) <;> cases h <;> simp

@[simp] theorem State.generate_pending (s : State) (n : Nat) : (s.generate n).pending = s.pending := by
  unfold State.generate
  try dsimp only
  refine foldl_pending _ ?_ _ _
  intro s c
  try dsimp only
  repeat' split
  all_goals simp

@[simp] theorem State.relaySnapshot_pending (s : State) (n : Nat) :
    (State.relaySnapshot s n).pending = s.pending := by simp [State.relaySnapshot]

@[simp] theorem State.armEdge_pending (s : State) : (State.armEdge s).pending = s.pending := by simp [State.armEdge]

@[simp] theorem State.sendMarkers_pending (s : State) : (State.sendMarkers s).pending = s.pending := by simp [State.sendMarkers]

theorem execHubEdge_pending {dt : Nat} {late : List (Nat × Nat)} {s s' : State} (h : execHubEdge dt late s = .next s') :
    s'.pending = s.pending := by
  suffices H : ∀ t, execHubEdge dt late s = .next t → t.pending = s.pending from H s' h
  clear h s'
  unfold execHubEdge
  dsimp only
  refine out_ite (next_all rfl) (next_all ?_)
  rw [State.bookRelease_pending, State.canHoldNow_pending, State.trellisEdge_pending, State.activateAll_pending, State.armEdge_pending]
  refine Eq.trans State.queue_mk ?_
  rw [State.snapshotTags_pending, State.relaySnapshot_pending, State.driveSwitches_pending, State.voter1Edge_pending]
  refine Eq.trans State.queue_mk ?_
  rw [State.sendMarkers_pending, State.advRaw_pending]

end Sys2Proof.Machine
end

