-- ==== Sys2Proof/Laws/Event.lean ====
section
/-! SUPPORT. What recording an event can do, once for every way an event is recorded, and what it leaves. -/

namespace Sys2Proof.Machine

theorem EventOnly.refl (s : State) : EventOnly s s :=
  ⟨rfl, fun _ => rfl, fun _ _ _ => rfl, rfl, rfl, rfl, rfl, rfl, rfl, rfl, rfl, rfl, rfl, rfl, rfl, rfl, rfl, rfl, rfl⟩

theorem EventOnly.trans {s t u : State} (h : EventOnly s t) (g : EventOnly t u) : EventOnly s u where
  pending := g.pending.trans h.pending
  lane k := by rw [g.lane k, h.lane k]
  reg k a e := (g.reg k a e).trans (h.reg k a e)
  hub := g.hub.trans h.hub
  pde := g.pde.trans h.pde
  v1 := g.v1.trans h.v1
  sup := by rw [g.sup, h.sup]
  md := g.md.trans h.md
  rack := g.rack.trans h.rack
  store := g.store.trans h.store
  dict := g.dict.trans h.dict
  svc := g.svc.trans h.svc
  net := g.net.trans h.net
  can := g.can.trans h.can
  tb := g.tb.trans h.tb
  fld := g.fld.trans h.fld
  coo := g.coo.trans h.coo
  tx := g.tx.trans h.tx
  freeCtr := g.freeCtr.trans h.freeCtr

theorem EventOnly.lf {s t : State} (h : EventOnly s t) (k : LaneId) (f : Fld) (e : eventReg f.reg = false) : t.lf k f = s.lf k f := by
  unfold State.lf
  rw [h.reg k f.reg e]

/-- Changes within one lane, then events, then changes within the lane: only that lane differs, but for events. -/
theorem LaneEvt.trans {s u t : State} {l : LaneId} (h : LaneEvt l s u) (g : LaneEvt l u t) : LaneEvt l s t where
  pending := by have h := h.pending; have g := g.pending; simp only [State.setLane_pending] at *; rw [g, h]
  lane k := by
    by_cases hk : k = l
    · subst hk; simp
    · have h := h.lane k; have g := g.lane k; simp only [State.setLane_lane, if_neg hk] at *; rw [g, h]
  reg k a e := by
    by_cases hk : k = l
    · subst hk; unfold State.lreg; simp
    · have h := h.reg k a e; have g := g.reg k a e; unfold State.lreg at *
      simp only [State.setLane_lane, if_neg hk] at *; rw [g, h]
  hub := by have h := h.hub; have g := g.hub; simp only [State.setLane_hub] at *; rw [g, h]
  pde := by have h := h.pde; have g := g.pde; simp only [State.setLane_pde] at *; rw [g, h]
  v1 := by have h := h.v1; have g := g.v1; simp only [State.setLane_v1] at *; rw [g, h]
  sup := by have h := h.sup; have g := g.sup; simp only [State.setLane_sup] at *; rw [g, h]
  md := by have h := h.md; have g := g.md; simp only [State.setLane_md] at *; rw [g, h]
  rack := by have h := h.rack; have g := g.rack; simp only [State.setLane_rack] at *; rw [g, h]
  store := by have h := h.store; have g := g.store; simp only [State.setLane_store] at *; rw [g, h]
  dict := by have h := h.dict; have g := g.dict; simp only [State.setLane_dict] at *; rw [g, h]
  svc := by have h := h.svc; have g := g.svc; simp only [State.setLane_svc] at *; rw [g, h]
  net := by have h := h.net; have g := g.net; simp only [State.setLane_net] at *; rw [g, h]
  can := by have h := h.can; have g := g.can; simp only [State.setLane_can] at *; rw [g, h]
  tb := by have h := h.tb; have g := g.tb; simp only [State.setLane_tb] at *; rw [g, h]
  fld := by have h := h.fld; have g := g.fld; simp only [State.setLane_fld] at *; rw [g, h]
  coo := by have h := h.coo; have g := g.coo; simp only [State.setLane_coo] at *; rw [g, h]
  tx := by have h := h.tx; have g := g.tx; simp only [State.setLane_tx] at *; rw [g, h]
  freeCtr := by have h := h.freeCtr; have g := g.freeCtr; simp only [State.setLane_freeCtr] at *; rw [g, h]

theorem LaneOnly.refl (l : LaneId) (s : State) : LaneOnly l s s := by cases l <;> rfl

theorem LaneOnly.upd (l : LaneId) (s : State) (f : Lane → Lane) : LaneOnly l s (s.updLane l f) := by
  unfold LaneOnly State.updLane
  rw [State.setLane_lane, if_pos rfl]

theorem LaneOnly.trans {s u t : State} {l : LaneId} (h : LaneOnly l s u) (g : LaneOnly l u t) : LaneOnly l s t := by
  unfold LaneOnly at *
  rw [g, h]
  cases l <;> rfl

theorem LaneOnly.lregSet (l : LaneId) (s : State) (a : Nat) (x : Word) : LaneOnly l s (s.lregSet l a x) := by
  unfold State.lregSet
  exact LaneOnly.upd l s _

theorem LaneOnly.lfSet (l : LaneId) (s : State) (f : Fld) (x : Nat) : LaneOnly l s (s.lfSet l f x) := LaneOnly.lregSet l s _ _

theorem LaneOnly.lcount (l : LaneId) (s : State) (f : Fld) (x : Nat) : LaneOnly l s (s.lcount l f x) := LaneOnly.lfSet l s _ _

theorem LaneOnly.lmemSet (l : LaneId) (s : State) (a : Nat) (bs : List Byte) : LaneOnly l s (s.lmemSet l a bs) := by
  unfold State.lmemSet
  exact LaneOnly.upd l s _

theorem LaneOnly.taskSet (l : LaneId) (s : State) (t : Nat) (x : TaskRt) : LaneOnly l s (s.taskSet l t x) := by
  unfold State.taskSet
  exact LaneOnly.upd l s _

theorem LaneOnly.evt {s t : State} {l : LaneId} (h : LaneOnly l s t) : LaneEvt l s t := by
  unfold LaneEvt
  rw [← h]
  exact EventOnly.refl t

theorem EventOnly.inLane {s t : State} (l : LaneId) (h : EventOnly s t) : LaneEvt l s t where
  pending := by simp [h.pending]
  lane k := by
    by_cases hk : k = l
    · subst hk; simp
    · have h := h.lane k; simp only [State.setLane_lane, if_neg hk]; exact h
  reg k a e := by
    by_cases hk : k = l
    · subst hk; unfold State.lreg; simp
    · have h := h.reg k a e; unfold State.lreg at *; simp only [State.setLane_lane, if_neg hk]; exact h
  hub := by simp [h.hub]
  pde := by simp [h.pde]
  v1 := by simp [h.v1]
  sup := by simpa using h.sup
  md := by simp [h.md]
  rack := by simp [h.rack]
  store := by simp [h.store]
  dict := by simp [h.dict]
  svc := by simp [h.svc]
  net := by simp [h.net]
  can := by simp [h.can]
  tb := by simp [h.tb]
  fld := by simp [h.fld]
  coo := by simp [h.coo]
  tx := by simp [h.tx]
  freeCtr := by simp [h.freeCtr]

/-- Setting a field of a book register is part of recording an event. -/
theorem lfSet_eventOnly (s : State) (l : LaneId) (f : Fld) (x : Nat) (e : eventReg f.reg = true) : EventOnly s (s.lfSet l f x) where
  pending := by simp
  lane k := by
    cases l <;> cases k <;> rfl
  reg k a ha := by
    unfold State.lfSet
    refine State.lreg_lregSet_other _ _ _ _ ?_
    rintro rfl
    rw [e] at ha
    cases ha
  hub := by simp
  pde := by simp
  v1 := by simp
  sup := by simp
  md := by simp
  rack := by simp
  store := by simp
  dict := by simp
  svc := by simp
  net := by simp
  can := by simp
  tb := by simp
  fld := by simp
  coo := by simp
  tx := by simp
  freeCtr := by simp

/-- Changing a lane's submission queue is part of recording an event. -/
theorem bookUpd_eventOnly (s : State) (l : LaneId) (f : LaneBook → LaneBook) :
    EventOnly s (s.updLane l (fun x => { x with book := f x.book })) where
  pending := by simp
  lane k := by
    cases l <;> cases k <;> rfl
  reg k a ha := by
    cases l <;> cases k <;> rfl
  hub := by simp
  pde := by simp
  v1 := by simp
  sup := by simp
  md := by simp
  rack := by simp
  store := by simp
  dict := by simp
  svc := by simp
  net := by simp
  can := by simp
  tb := by simp
  fld := by simp
  coo := by simp
  tx := by simp
  freeCtr := by simp

/-- Changing the book's areas is part of recording an event. -/
theorem bookSet_eventOnly (s : State) (b : Book) : EventOnly s { s with book := b } :=
  ⟨rfl, fun k => by cases k <;> rfl, fun k _ _ => by cases k <;> rfl, rfl, rfl, rfl, rfl, rfl, rfl, rfl, rfl, rfl, rfl, rfl, rfl, rfl, rfl, rfl, rfl⟩

/-- Changing the partners' tokens is part of recording an event. -/
theorem partners_eventOnly (s : State) (p : List (Nat × Partner)) : EventOnly s { s with partners := p } :=
  ⟨rfl, fun k => by cases k <;> rfl, fun k _ _ => by cases k <;> rfl, rfl, rfl, rfl, rfl, rfl, rfl, rfl, rfl, rfl, rfl, rfl, rfl, rfl, rfl, rfl, rfl⟩

/-- Keeping an event in the supervisor is part of recording it. -/
theorem kept_eventOnly (s : State) (q : List Submission) : EventOnly s { s with sup := { s.sup with kept := q } } :=
  ⟨rfl, fun k => by cases k <;> rfl, fun k _ _ => by cases k <;> rfl, rfl, rfl, rfl, rfl, rfl, rfl, rfl, rfl, rfl, rfl, rfl, rfl, rfl, rfl, rfl, rfl⟩

/-- The same on every lane. -/
theorem onLanes_eventOnly (f : LaneId → State → State) (h : ∀ l s, EventOnly s (f l s)) (s : State) : EventOnly s (onLanes f s) :=
  ((h .a s).trans (h .b _)).trans (h .c _)

theorem bookInt_eventOnly (s : State) (f : Fld) (e : eventReg f.reg = true) : EventOnly s (s.bookInt f) :=
  onLanes_eventOnly _ (fun l s => lfSet_eventOnly s l f 1 e) s

theorem bookWrite_eventOnly (s : State) (frame code partner supp origin : Nat) (summary loss : Bool) (data : List Byte) :
    EventOnly s (s.bookWrite frame code partner supp origin summary loss data) := by
  unfold State.bookWrite
  extract_lets b isTrig trig r ring ff ffCount ffNow tail post counting freezes ignored ctl d s1 s2
  have h1 : EventOnly s s1 := bookSet_eventOnly s _
  have h2 : EventOnly s1 s2 := by
    simp only [s2]
    split
    · exact bookInt_eventOnly _ CBK_INT_STAT_FF_FULL rfl
    · exact EventOnly.refl _
  refine h1.trans (h2.trans ?_)
  split
  · exact bookInt_eventOnly _ CBK_INT_STAT_FROZEN rfl
  · exact EventOnly.refl _

theorem clearLoss_eventOnly (s : State) (origin : Nat) : EventOnly s (s.clearLoss origin) := by
  refine onLanes_eventOnly _ ?_ s
  intro l s
  split
  · exact bookUpd_eventOnly s l (fun b => { b with loss := false })
  · exact EventOnly.refl _

theorem bookProcess_eventOnly (s : State) (frame code partner supp origin : Nat) (data : List Byte) :
    EventOnly s (s.bookProcess frame code partner supp origin data) := by
  unfold State.bookProcess
  extract_lets write
  have hw : ∀ s n, EventOnly s (write s n) := fun s n => (bookWrite_eventOnly s _ _ _ _ _ _ _ _).trans (clearLoss_eventOnly _ _)
  split
  · exact hw _ _
  · extract_lets k since
    split
    · exact bookSet_eventOnly s _
    · exact (bookSet_eventOnly s _).trans (hw _ _)

theorem partnerCheck_eventOnly (s : State) (p : Nat) : EventOnly s (s.partnerCheck p).1 := by
  unfold State.partnerCheck
  extract_lets x since
  split <;> exact partners_eventOnly s _

theorem countViolation_eventOnly (s : State) (p code : Nat) : EventOnly s (s.countViolation p code) := partners_eventOnly s _

theorem bookLane_eventOnly (s : State) (frame code partner origin : Nat) (data : List Byte) :
    EventOnly s (s.bookLane frame code partner origin data) := by
  unfold State.bookLane
  split
  · exact bookProcess_eventOnly _ _ _ _ _ _ _
  · extract_lets s1
    have h1 : EventOnly s s1 := by
      simp only [s1]
      split
      · exact countViolation_eventOnly _ _ _
      · exact EventOnly.refl _
    have h2 := partnerCheck_eventOnly s1 partner
    generalize s1.partnerCheck partner = q at h2 ⊢
    obtain ⟨t, x⟩ := q
    cases x with
    | none => exact h1.trans h2
    | some supp => exact (h1.trans h2).trans (bookProcess_eventOnly _ _ _ _ _ _ _)

theorem bookPush_eventOnly (s : State) (l : LaneId) (sub : Submission) : EventOnly s (s.bookPush l sub) := by
  unfold State.bookPush
  split
  · have h1 : EventOnly s (s.lcount l CBK_CNT_LOST 1) := lfSet_eventOnly s l CBK_CNT_LOST _ rfl
    refine h1.trans ((lfSet_eventOnly _ l CBK_INT_STAT_LOST 1 rfl).trans ?_)
    exact bookUpd_eventOnly _ l (fun b => { b with loss := true })
  · exact bookUpd_eventOnly s l (fun b => { b with queue := b.queue ++ [sub] })

theorem bookSubmit_eventOnly (s : State) (l : LaneId) (sub : Submission) : EventOnly s (s.bookSubmit l sub) := by
  unfold State.bookSubmit
  split
  · exact EventOnly.refl _
  · split
    · exact bookLane_eventOnly _ _ _ _ _ _
    · exact bookPush_eventOnly _ _ _

theorem collectLane_eventOnly (l : LaneId) (subs : List Submission) (acc : State × List SubGroup) :
    EventOnly acc.1 (collectLane l subs acc).1 := by
  induction subs generalizing acc with
  | nil => exact EventOnly.refl _
  | cons sub subs ih =>
    obtain ⟨s, gs⟩ := acc
    simp only [collectLane]
    refine EventOnly.trans ?_ (ih _)
    dsimp only
    split
    · exact lfSet_eventOnly s l CBK_CNT_MERGED _ rfl
    · exact EventOnly.refl _

theorem foldl_eventOnly {α : Type} (f : State → α → State) (hf : ∀ s x, EventOnly s (f s x)) (xs : List α) (s : State) :
    EventOnly s (xs.foldl f s) := by
  induction xs generalizing s with
  | nil => exact EventOnly.refl _
  | cons x xs ih => exact (hf s x).trans (ih _)

theorem bookRelease_eventOnly (s : State) : EventOnly s s.bookRelease := by
  unfold State.bookRelease
  split
  · exact EventOnly.refl _
  · simp only [lanes, List.foldl_cons, List.foldl_nil]
    refine EventOnly.trans ?_ (foldl_eventOnly _ (fun t g => bookLane_eventOnly t _ _ _ _ _) _ _)
    refine EventOnly.trans ?_ (onLanes_eventOnly _ (fun l t => bookUpd_eventOnly t l
      (fun b => { b with queue := b.queue.filter (fun sub => !s.bookDue sub) })) _)
    exact ((collectLane_eventOnly .a _ (s, [])).trans (collectLane_eventOnly .b _ _)).trans (collectLane_eventOnly .c _ _)

theorem bookAll_eventOnly (s : State) (sub : Submission) : EventOnly s (s.bookAll sub) := by
  unfold State.bookAll
  split
  · exact EventOnly.refl _
  · have h : EventOnly s (onLanes (fun l s => if (s.lane l).supplied then s.bookPush l sub else s) s) :=
      onLanes_eventOnly _ (fun l s => by split; exact bookPush_eventOnly _ _ _; exact EventOnly.refl _) s
    dsimp only
    split
    · exact h.trans (bookRelease_eventOnly _)
    · exact h

theorem laneEvtP_eventOnly (s : State) (l : LaneId) (code p : Nat) (parts : List (Nat × Nat)) : EventOnly s (s.laneEvtP l code p parts) := by
  unfold State.laneEvtP
  split
  · exact bookSubmit_eventOnly _ _ _
  · exact EventOnly.refl _

theorem laneEvt_eventOnly (s : State) (l : LaneId) (code : Nat) (parts : List (Nat × Nat)) : EventOnly s (s.laneEvt l code parts) :=
  laneEvtP_eventOnly s l code 0 parts

theorem allEvt_eventOnly (s : State) (code : Nat) (parts : List (Nat × Nat)) : EventOnly s (s.allEvt code parts) :=
  bookAll_eventOnly _ _

theorem supEvt_eventOnly (s : State) (code : Nat) (parts : List (Nat × Nat)) : EventOnly s (s.supEvt code parts) := by
  unfold State.supEvt
  split
  · exact kept_eventOnly s _
  · exact allEvt_eventOnly _ _ _

theorem hubEvtP_eventOnly (s : State) (code p supp : Nat) (parts : List (Nat × Nat)) : EventOnly s (s.hubEvtP code p supp parts) := by
  unfold State.hubEvtP
  split
  · exact EventOnly.refl _
  · split
    · exact bookProcess_eventOnly _ _ _ _ _ _ _
    · exact bookSet_eventOnly s _

theorem hubEvt_eventOnly (s : State) (code : Nat) (parts : List (Nat × Nat)) : EventOnly s (s.hubEvt code parts) :=
  hubEvtP_eventOnly s code 0 0 parts

theorem limitedEvt_eventOnly (s : State) (p code : Nat) (parts : List (Nat × Nat)) : EventOnly s (s.limitedEvt p code parts) := by
  unfold State.limitedEvt
  have h := partnerCheck_eventOnly s p
  generalize s.partnerCheck p = q at h ⊢
  obtain ⟨t, x⟩ := q
  cases x with
  | none => exact h
  | some supp => exact h.trans (hubEvtP_eventOnly _ _ _ _ _)

theorem violation_eventOnly (s : State) (p code : Nat) (parts : List (Nat × Nat)) : EventOnly s (s.violation p code parts) :=
  (countViolation_eventOnly s p code).trans (limitedEvt_eventOnly _ p code parts)

theorem decantEnd_eventOnly (s : State) (code : Nat) : EventOnly s (s.decantEnd code) := by
  unfold State.decantEnd
  split
  · exact (bookSet_eventOnly s _).trans (bookInt_eventOnly _ CBK_INT_STAT_DECANT rfl)
  · exact EventOnly.refl _

/-! ### What the three ways of recording an event leave -/

@[simp] theorem State.laneEvt_hub (s : State) (l : LaneId) (code : Nat) (parts : List (Nat × Nat)) :
    (s.laneEvt l code parts).hub = s.hub := (laneEvt_eventOnly s l code parts).hub

@[simp] theorem State.laneEvt_pde (s : State) (l : LaneId) (code : Nat) (parts : List (Nat × Nat)) :
    (s.laneEvt l code parts).pde = s.pde := (laneEvt_eventOnly s l code parts).pde

@[simp] theorem State.laneEvt_v1 (s : State) (l : LaneId) (code : Nat) (parts : List (Nat × Nat)) :
    (s.laneEvt l code parts).v1 = s.v1 := (laneEvt_eventOnly s l code parts).v1

@[simp] theorem State.laneEvt_md (s : State) (l : LaneId) (code : Nat) (parts : List (Nat × Nat)) :
    (s.laneEvt l code parts).md = s.md := (laneEvt_eventOnly s l code parts).md

@[simp] theorem State.laneEvt_rack (s : State) (l : LaneId) (code : Nat) (parts : List (Nat × Nat)) :
    (s.laneEvt l code parts).rack = s.rack := (laneEvt_eventOnly s l code parts).rack

@[simp] theorem State.laneEvt_store (s : State) (l : LaneId) (code : Nat) (parts : List (Nat × Nat)) :
    (s.laneEvt l code parts).store = s.store := (laneEvt_eventOnly s l code parts).store

@[simp] theorem State.laneEvt_dict (s : State) (l : LaneId) (code : Nat) (parts : List (Nat × Nat)) :
    (s.laneEvt l code parts).dict = s.dict := (laneEvt_eventOnly s l code parts).dict

@[simp] theorem State.laneEvt_svc (s : State) (l : LaneId) (code : Nat) (parts : List (Nat × Nat)) :
    (s.laneEvt l code parts).svc = s.svc := (laneEvt_eventOnly s l code parts).svc

@[simp] theorem State.laneEvt_net (s : State) (l : LaneId) (code : Nat) (parts : List (Nat × Nat)) :
    (s.laneEvt l code parts).net = s.net := (laneEvt_eventOnly s l code parts).net

@[simp] theorem State.laneEvt_can (s : State) (l : LaneId) (code : Nat) (parts : List (Nat × Nat)) :
    (s.laneEvt l code parts).can = s.can := (laneEvt_eventOnly s l code parts).can

@[simp] theorem State.laneEvt_tb (s : State) (l : LaneId) (code : Nat) (parts : List (Nat × Nat)) :
    (s.laneEvt l code parts).tb = s.tb := (laneEvt_eventOnly s l code parts).tb

@[simp] theorem State.laneEvt_fld (s : State) (l : LaneId) (code : Nat) (parts : List (Nat × Nat)) :
    (s.laneEvt l code parts).fld = s.fld := (laneEvt_eventOnly s l code parts).fld

@[simp] theorem State.laneEvt_coo (s : State) (l : LaneId) (code : Nat) (parts : List (Nat × Nat)) :
    (s.laneEvt l code parts).coo = s.coo := (laneEvt_eventOnly s l code parts).coo

@[simp] theorem State.laneEvt_tx (s : State) (l : LaneId) (code : Nat) (parts : List (Nat × Nat)) :
    (s.laneEvt l code parts).tx = s.tx := (laneEvt_eventOnly s l code parts).tx

@[simp] theorem State.laneEvt_freeCtr (s : State) (l : LaneId) (code : Nat) (parts : List (Nat × Nat)) :
    (s.laneEvt l code parts).freeCtr = s.freeCtr := (laneEvt_eventOnly s l code parts).freeCtr

@[simp] theorem State.laneEvt_lane_supplied (s : State) (l : LaneId) (code : Nat) (parts : List (Nat × Nat)) (k : LaneId) :
    ((s.laneEvt l code parts).lane k).supplied = (s.lane k).supplied := by
  rw [(laneEvt_eventOnly s l code parts).lane k]

@[simp] theorem State.laneEvt_lane_mem (s : State) (l : LaneId) (code : Nat) (parts : List (Nat × Nat)) (k : LaneId) :
    ((s.laneEvt l code parts).lane k).mem = (s.lane k).mem := by
  rw [(laneEvt_eventOnly s l code parts).lane k]

@[simp] theorem State.laneEvt_lane_ecc (s : State) (l : LaneId) (code : Nat) (parts : List (Nat × Nat)) (k : LaneId) :
    ((s.laneEvt l code parts).lane k).ecc = (s.lane k).ecc := by
  rw [(laneEvt_eventOnly s l code parts).lane k]

@[simp] theorem State.laneEvt_lane_cores (s : State) (l : LaneId) (code : Nat) (parts : List (Nat × Nat)) (k : LaneId) :
    ((s.laneEvt l code parts).lane k).cores = (s.lane k).cores := by
  rw [(laneEvt_eventOnly s l code parts).lane k]

@[simp] theorem State.laneEvt_lane_fe (s : State) (l : LaneId) (code : Nat) (parts : List (Nat × Nat)) (k : LaneId) :
    ((s.laneEvt l code parts).lane k).fe = (s.lane k).fe := by
  rw [(laneEvt_eventOnly s l code parts).lane k]

@[simp] theorem State.laneEvt_lane_tick (s : State) (l : LaneId) (code : Nat) (parts : List (Nat × Nat)) (k : LaneId) :
    ((s.laneEvt l code parts).lane k).tick = (s.lane k).tick := by
  rw [(laneEvt_eventOnly s l code parts).lane k]

@[simp] theorem State.laneEvt_lane_xch (s : State) (l : LaneId) (code : Nat) (parts : List (Nat × Nat)) (k : LaneId) :
    ((s.laneEvt l code parts).lane k).xch = (s.lane k).xch := by
  rw [(laneEvt_eventOnly s l code parts).lane k]

@[simp] theorem State.laneEvt_lane_rt (s : State) (l : LaneId) (code : Nat) (parts : List (Nat × Nat)) (k : LaneId) :
    ((s.laneEvt l code parts).lane k).rt = (s.lane k).rt := by
  rw [(laneEvt_eventOnly s l code parts).lane k]

@[simp] theorem State.laneEvt_lane_prog (s : State) (l : LaneId) (code : Nat) (parts : List (Nat × Nat)) (k : LaneId) :
    ((s.laneEvt l code parts).lane k).prog = (s.lane k).prog := by
  rw [(laneEvt_eventOnly s l code parts).lane k]

@[simp] theorem State.laneEvt_lane_newProg (s : State) (l : LaneId) (code : Nat) (parts : List (Nat × Nat)) (k : LaneId) :
    ((s.laneEvt l code parts).lane k).newProg = (s.lane k).newProg := by
  rw [(laneEvt_eventOnly s l code parts).lane k]

@[simp] theorem State.laneEvt_lane_admission (s : State) (l : LaneId) (code : Nat) (parts : List (Nat × Nat)) (k : LaneId) :
    ((s.laneEvt l code parts).lane k).admission = (s.lane k).admission := by
  rw [(laneEvt_eventOnly s l code parts).lane k]

@[simp] theorem State.laneEvt_lane_carried (s : State) (l : LaneId) (code : Nat) (parts : List (Nat × Nat)) (k : LaneId) :
    ((s.laneEvt l code parts).lane k).carried = (s.lane k).carried := by
  rw [(laneEvt_eventOnly s l code parts).lane k]

@[simp] theorem State.laneEvt_lane_carryFail (s : State) (l : LaneId) (code : Nat) (parts : List (Nat × Nat)) (k : LaneId) :
    ((s.laneEvt l code parts).lane k).carryFail = (s.lane k).carryFail := by
  rw [(laneEvt_eventOnly s l code parts).lane k]

@[simp] theorem State.laneEvt_lane_switchRec (s : State) (l : LaneId) (code : Nat) (parts : List (Nat × Nat)) (k : LaneId) :
    ((s.laneEvt l code parts).lane k).switchRec = (s.lane k).switchRec := by
  rw [(laneEvt_eventOnly s l code parts).lane k]

@[simp] theorem State.laneEvt_lane_sum (s : State) (l : LaneId) (code : Nat) (parts : List (Nat × Nat)) (k : LaneId) :
    ((s.laneEvt l code parts).lane k).sum = (s.lane k).sum := by
  rw [(laneEvt_eventOnly s l code parts).lane k]

@[simp] theorem State.laneEvt_lane_ret (s : State) (l : LaneId) (code : Nat) (parts : List (Nat × Nat)) (k : LaneId) :
    ((s.laneEvt l code parts).lane k).ret = (s.lane k).ret := by
  rw [(laneEvt_eventOnly s l code parts).lane k]

@[simp] theorem State.laneEvt_lane_brg (s : State) (l : LaneId) (code : Nat) (parts : List (Nat × Nat)) (k : LaneId) :
    ((s.laneEvt l code parts).lane k).brg = (s.lane k).brg := by
  rw [(laneEvt_eventOnly s l code parts).lane k]

@[simp] theorem State.laneEvt_lane_coop (s : State) (l : LaneId) (code : Nat) (parts : List (Nat × Nat)) (k : LaneId) :
    ((s.laneEvt l code parts).lane k).coop = (s.lane k).coop := by
  rw [(laneEvt_eventOnly s l code parts).lane k]

@[simp] theorem State.laneEvt_lane_claimed (s : State) (l : LaneId) (code : Nat) (parts : List (Nat × Nat)) (k : LaneId) :
    ((s.laneEvt l code parts).lane k).claimed = (s.lane k).claimed := by
  rw [(laneEvt_eventOnly s l code parts).lane k]

@[simp] theorem State.laneEvt_lane_restart (s : State) (l : LaneId) (code : Nat) (parts : List (Nat × Nat)) (k : LaneId) :
    ((s.laneEvt l code parts).lane k).restart = (s.lane k).restart := by
  rw [(laneEvt_eventOnly s l code parts).lane k]

@[simp] theorem State.laneEvt_lane_out (s : State) (l : LaneId) (code : Nat) (parts : List (Nat × Nat)) (k : LaneId) :
    ((s.laneEvt l code parts).lane k).out = (s.lane k).out := by
  rw [(laneEvt_eventOnly s l code parts).lane k]

@[simp] theorem State.laneEvt_lane_cfgDue (s : State) (l : LaneId) (code : Nat) (parts : List (Nat × Nat)) (k : LaneId) :
    ((s.laneEvt l code parts).lane k).cfgDue = (s.lane k).cfgDue := by
  rw [(laneEvt_eventOnly s l code parts).lane k]

@[simp] theorem State.laneEvt_sup_supplied (s : State) (l : LaneId) (code : Nat) (parts : List (Nat × Nat)) :
    (s.laneEvt l code parts).sup.supplied = s.sup.supplied := by
  rw [(laneEvt_eventOnly s l code parts).sup]

@[simp] theorem State.laneEvt_sup_frame (s : State) (l : LaneId) (code : Nat) (parts : List (Nat × Nat)) :
    (s.laneEvt l code parts).sup.frame = s.sup.frame := by
  rw [(laneEvt_eventOnly s l code parts).sup]

@[simp] theorem State.laneEvt_sup_edgeAt (s : State) (l : LaneId) (code : Nat) (parts : List (Nat × Nat)) :
    (s.laneEvt l code parts).sup.edgeAt = s.sup.edgeAt := by
  rw [(laneEvt_eventOnly s l code parts).sup]

@[simp] theorem State.laneEvt_sup_v2 (s : State) (l : LaneId) (code : Nat) (parts : List (Nat × Nat)) :
    (s.laneEvt l code parts).sup.v2 = s.sup.v2 := by
  rw [(laneEvt_eventOnly s l code parts).sup]

@[simp] theorem State.laneEvt_sup_ka (s : State) (l : LaneId) (code : Nat) (parts : List (Nat × Nat)) :
    (s.laneEvt l code parts).sup.ka = s.sup.ka := by
  rw [(laneEvt_eventOnly s l code parts).sup]

@[simp] theorem State.laneEvt_sup_arrival (s : State) (l : LaneId) (code : Nat) (parts : List (Nat × Nat)) :
    (s.laneEvt l code parts).sup.arrival = s.sup.arrival := by
  rw [(laneEvt_eventOnly s l code parts).sup]

@[simp] theorem State.laneEvt_sup_missEdge (s : State) (l : LaneId) (code : Nat) (parts : List (Nat × Nat)) :
    (s.laneEvt l code parts).sup.missEdge = s.sup.missEdge := by
  rw [(laneEvt_eventOnly s l code parts).sup]

@[simp] theorem State.laneEvt_sup_spacing (s : State) (l : LaneId) (code : Nat) (parts : List (Nat × Nat)) :
    (s.laneEvt l code parts).sup.spacing = s.sup.spacing := by
  rw [(laneEvt_eventOnly s l code parts).sup]

@[simp] theorem State.laneEvt_sup_cycle (s : State) (l : LaneId) (code : Nat) (parts : List (Nat × Nat)) :
    (s.laneEvt l code parts).sup.cycle = s.sup.cycle := by
  rw [(laneEvt_eventOnly s l code parts).sup]

@[simp] theorem State.laneEvt_sup_pw (s : State) (l : LaneId) (code : Nat) (parts : List (Nat × Nat)) :
    (s.laneEvt l code parts).sup.pw = s.sup.pw := by
  rw [(laneEvt_eventOnly s l code parts).sup]

@[simp] theorem State.laneEvt_sup_rst (s : State) (l : LaneId) (code : Nat) (parts : List (Nat × Nat)) :
    (s.laneEvt l code parts).sup.rst = s.sup.rst := by
  rw [(laneEvt_eventOnly s l code parts).sup]

@[simp] theorem State.laneEvt_sup_lineIn (s : State) (l : LaneId) (code : Nat) (parts : List (Nat × Nat)) :
    (s.laneEvt l code parts).sup.lineIn = s.sup.lineIn := by
  rw [(laneEvt_eventOnly s l code parts).sup]

@[simp] theorem State.laneEvt_sup_lineOut (s : State) (l : LaneId) (code : Nat) (parts : List (Nat × Nat)) :
    (s.laneEvt l code parts).sup.lineOut = s.sup.lineOut := by
  rw [(laneEvt_eventOnly s l code parts).sup]

@[simp] theorem State.laneEvt_sup_replan (s : State) (l : LaneId) (code : Nat) (parts : List (Nat × Nat)) :
    (s.laneEvt l code parts).sup.replan = s.sup.replan := by
  rw [(laneEvt_eventOnly s l code parts).sup]

@[simp] theorem State.laneEvt_sup_reports (s : State) (l : LaneId) (code : Nat) (parts : List (Nat × Nat)) :
    (s.laneEvt l code parts).sup.reports = s.sup.reports := by
  rw [(laneEvt_eventOnly s l code parts).sup]

theorem State.lf_laneEvt (s : State) (l : LaneId) (code : Nat) (parts : List (Nat × Nat)) (k : LaneId) (f : Fld) (e : eventReg f.reg = false) :
    (s.laneEvt l code parts).lf k f = s.lf k f := (laneEvt_eventOnly s l code parts).lf k f e

@[simp] theorem State.hf_laneEvt (s : State) (l : LaneId) (code : Nat) (parts : List (Nat × Nat)) (f : Fld) : (s.laneEvt l code parts).hf f = s.hf f := by
  simp only [State.hf, State.hreg, State.hubRegs, State.laneEvt_pde, State.laneEvt_net, State.laneEvt_can, State.laneEvt_tb, State.laneEvt_hub]

@[simp] theorem State.supEvt_hub (s : State) (code : Nat) (parts : List (Nat × Nat)) :
    (s.supEvt code parts).hub = s.hub := (supEvt_eventOnly s code parts).hub

@[simp] theorem State.supEvt_pde (s : State) (code : Nat) (parts : List (Nat × Nat)) :
    (s.supEvt code parts).pde = s.pde := (supEvt_eventOnly s code parts).pde

@[simp] theorem State.supEvt_v1 (s : State) (code : Nat) (parts : List (Nat × Nat)) :
    (s.supEvt code parts).v1 = s.v1 := (supEvt_eventOnly s code parts).v1

@[simp] theorem State.supEvt_md (s : State) (code : Nat) (parts : List (Nat × Nat)) :
    (s.supEvt code parts).md = s.md := (supEvt_eventOnly s code parts).md

@[simp] theorem State.supEvt_rack (s : State) (code : Nat) (parts : List (Nat × Nat)) :
    (s.supEvt code parts).rack = s.rack := (supEvt_eventOnly s code parts).rack

@[simp] theorem State.supEvt_store (s : State) (code : Nat) (parts : List (Nat × Nat)) :
    (s.supEvt code parts).store = s.store := (supEvt_eventOnly s code parts).store

@[simp] theorem State.supEvt_dict (s : State) (code : Nat) (parts : List (Nat × Nat)) :
    (s.supEvt code parts).dict = s.dict := (supEvt_eventOnly s code parts).dict

@[simp] theorem State.supEvt_svc (s : State) (code : Nat) (parts : List (Nat × Nat)) :
    (s.supEvt code parts).svc = s.svc := (supEvt_eventOnly s code parts).svc

@[simp] theorem State.supEvt_net (s : State) (code : Nat) (parts : List (Nat × Nat)) :
    (s.supEvt code parts).net = s.net := (supEvt_eventOnly s code parts).net

@[simp] theorem State.supEvt_can (s : State) (code : Nat) (parts : List (Nat × Nat)) :
    (s.supEvt code parts).can = s.can := (supEvt_eventOnly s code parts).can

@[simp] theorem State.supEvt_tb (s : State) (code : Nat) (parts : List (Nat × Nat)) :
    (s.supEvt code parts).tb = s.tb := (supEvt_eventOnly s code parts).tb

@[simp] theorem State.supEvt_fld (s : State) (code : Nat) (parts : List (Nat × Nat)) :
    (s.supEvt code parts).fld = s.fld := (supEvt_eventOnly s code parts).fld

@[simp] theorem State.supEvt_coo (s : State) (code : Nat) (parts : List (Nat × Nat)) :
    (s.supEvt code parts).coo = s.coo := (supEvt_eventOnly s code parts).coo

@[simp] theorem State.supEvt_tx (s : State) (code : Nat) (parts : List (Nat × Nat)) :
    (s.supEvt code parts).tx = s.tx := (supEvt_eventOnly s code parts).tx

@[simp] theorem State.supEvt_freeCtr (s : State) (code : Nat) (parts : List (Nat × Nat)) :
    (s.supEvt code parts).freeCtr = s.freeCtr := (supEvt_eventOnly s code parts).freeCtr

@[simp] theorem State.supEvt_lane_supplied (s : State) (code : Nat) (parts : List (Nat × Nat)) (k : LaneId) :
    ((s.supEvt code parts).lane k).supplied = (s.lane k).supplied := by
  rw [(supEvt_eventOnly s code parts).lane k]

@[simp] theorem State.supEvt_lane_mem (s : State) (code : Nat) (parts : List (Nat × Nat)) (k : LaneId) :
    ((s.supEvt code parts).lane k).mem = (s.lane k).mem := by
  rw [(supEvt_eventOnly s code parts).lane k]

@[simp] theorem State.supEvt_lane_ecc (s : State) (code : Nat) (parts : List (Nat × Nat)) (k : LaneId) :
    ((s.supEvt code parts).lane k).ecc = (s.lane k).ecc := by
  rw [(supEvt_eventOnly s code parts).lane k]

@[simp] theorem State.supEvt_lane_cores (s : State) (code : Nat) (parts : List (Nat × Nat)) (k : LaneId) :
    ((s.supEvt code parts).lane k).cores = (s.lane k).cores := by
  rw [(supEvt_eventOnly s code parts).lane k]

@[simp] theorem State.supEvt_lane_fe (s : State) (code : Nat) (parts : List (Nat × Nat)) (k : LaneId) :
    ((s.supEvt code parts).lane k).fe = (s.lane k).fe := by
  rw [(supEvt_eventOnly s code parts).lane k]

@[simp] theorem State.supEvt_lane_tick (s : State) (code : Nat) (parts : List (Nat × Nat)) (k : LaneId) :
    ((s.supEvt code parts).lane k).tick = (s.lane k).tick := by
  rw [(supEvt_eventOnly s code parts).lane k]

@[simp] theorem State.supEvt_lane_xch (s : State) (code : Nat) (parts : List (Nat × Nat)) (k : LaneId) :
    ((s.supEvt code parts).lane k).xch = (s.lane k).xch := by
  rw [(supEvt_eventOnly s code parts).lane k]

@[simp] theorem State.supEvt_lane_rt (s : State) (code : Nat) (parts : List (Nat × Nat)) (k : LaneId) :
    ((s.supEvt code parts).lane k).rt = (s.lane k).rt := by
  rw [(supEvt_eventOnly s code parts).lane k]

@[simp] theorem State.supEvt_lane_prog (s : State) (code : Nat) (parts : List (Nat × Nat)) (k : LaneId) :
    ((s.supEvt code parts).lane k).prog = (s.lane k).prog := by
  rw [(supEvt_eventOnly s code parts).lane k]

@[simp] theorem State.supEvt_lane_newProg (s : State) (code : Nat) (parts : List (Nat × Nat)) (k : LaneId) :
    ((s.supEvt code parts).lane k).newProg = (s.lane k).newProg := by
  rw [(supEvt_eventOnly s code parts).lane k]

@[simp] theorem State.supEvt_lane_admission (s : State) (code : Nat) (parts : List (Nat × Nat)) (k : LaneId) :
    ((s.supEvt code parts).lane k).admission = (s.lane k).admission := by
  rw [(supEvt_eventOnly s code parts).lane k]

@[simp] theorem State.supEvt_lane_carried (s : State) (code : Nat) (parts : List (Nat × Nat)) (k : LaneId) :
    ((s.supEvt code parts).lane k).carried = (s.lane k).carried := by
  rw [(supEvt_eventOnly s code parts).lane k]

@[simp] theorem State.supEvt_lane_carryFail (s : State) (code : Nat) (parts : List (Nat × Nat)) (k : LaneId) :
    ((s.supEvt code parts).lane k).carryFail = (s.lane k).carryFail := by
  rw [(supEvt_eventOnly s code parts).lane k]

@[simp] theorem State.supEvt_lane_switchRec (s : State) (code : Nat) (parts : List (Nat × Nat)) (k : LaneId) :
    ((s.supEvt code parts).lane k).switchRec = (s.lane k).switchRec := by
  rw [(supEvt_eventOnly s code parts).lane k]

@[simp] theorem State.supEvt_lane_sum (s : State) (code : Nat) (parts : List (Nat × Nat)) (k : LaneId) :
    ((s.supEvt code parts).lane k).sum = (s.lane k).sum := by
  rw [(supEvt_eventOnly s code parts).lane k]

@[simp] theorem State.supEvt_lane_ret (s : State) (code : Nat) (parts : List (Nat × Nat)) (k : LaneId) :
    ((s.supEvt code parts).lane k).ret = (s.lane k).ret := by
  rw [(supEvt_eventOnly s code parts).lane k]

@[simp] theorem State.supEvt_lane_brg (s : State) (code : Nat) (parts : List (Nat × Nat)) (k : LaneId) :
    ((s.supEvt code parts).lane k).brg = (s.lane k).brg := by
  rw [(supEvt_eventOnly s code parts).lane k]

@[simp] theorem State.supEvt_lane_coop (s : State) (code : Nat) (parts : List (Nat × Nat)) (k : LaneId) :
    ((s.supEvt code parts).lane k).coop = (s.lane k).coop := by
  rw [(supEvt_eventOnly s code parts).lane k]

@[simp] theorem State.supEvt_lane_claimed (s : State) (code : Nat) (parts : List (Nat × Nat)) (k : LaneId) :
    ((s.supEvt code parts).lane k).claimed = (s.lane k).claimed := by
  rw [(supEvt_eventOnly s code parts).lane k]

@[simp] theorem State.supEvt_lane_restart (s : State) (code : Nat) (parts : List (Nat × Nat)) (k : LaneId) :
    ((s.supEvt code parts).lane k).restart = (s.lane k).restart := by
  rw [(supEvt_eventOnly s code parts).lane k]

@[simp] theorem State.supEvt_lane_out (s : State) (code : Nat) (parts : List (Nat × Nat)) (k : LaneId) :
    ((s.supEvt code parts).lane k).out = (s.lane k).out := by
  rw [(supEvt_eventOnly s code parts).lane k]

@[simp] theorem State.supEvt_lane_cfgDue (s : State) (code : Nat) (parts : List (Nat × Nat)) (k : LaneId) :
    ((s.supEvt code parts).lane k).cfgDue = (s.lane k).cfgDue := by
  rw [(supEvt_eventOnly s code parts).lane k]

@[simp] theorem State.supEvt_sup_supplied (s : State) (code : Nat) (parts : List (Nat × Nat)) :
    (s.supEvt code parts).sup.supplied = s.sup.supplied := by
  rw [(supEvt_eventOnly s code parts).sup]

@[simp] theorem State.supEvt_sup_frame (s : State) (code : Nat) (parts : List (Nat × Nat)) :
    (s.supEvt code parts).sup.frame = s.sup.frame := by
  rw [(supEvt_eventOnly s code parts).sup]

@[simp] theorem State.supEvt_sup_edgeAt (s : State) (code : Nat) (parts : List (Nat × Nat)) :
    (s.supEvt code parts).sup.edgeAt = s.sup.edgeAt := by
  rw [(supEvt_eventOnly s code parts).sup]

@[simp] theorem State.supEvt_sup_v2 (s : State) (code : Nat) (parts : List (Nat × Nat)) :
    (s.supEvt code parts).sup.v2 = s.sup.v2 := by
  rw [(supEvt_eventOnly s code parts).sup]

@[simp] theorem State.supEvt_sup_ka (s : State) (code : Nat) (parts : List (Nat × Nat)) :
    (s.supEvt code parts).sup.ka = s.sup.ka := by
  rw [(supEvt_eventOnly s code parts).sup]

@[simp] theorem State.supEvt_sup_arrival (s : State) (code : Nat) (parts : List (Nat × Nat)) :
    (s.supEvt code parts).sup.arrival = s.sup.arrival := by
  rw [(supEvt_eventOnly s code parts).sup]

@[simp] theorem State.supEvt_sup_missEdge (s : State) (code : Nat) (parts : List (Nat × Nat)) :
    (s.supEvt code parts).sup.missEdge = s.sup.missEdge := by
  rw [(supEvt_eventOnly s code parts).sup]

@[simp] theorem State.supEvt_sup_spacing (s : State) (code : Nat) (parts : List (Nat × Nat)) :
    (s.supEvt code parts).sup.spacing = s.sup.spacing := by
  rw [(supEvt_eventOnly s code parts).sup]

@[simp] theorem State.supEvt_sup_cycle (s : State) (code : Nat) (parts : List (Nat × Nat)) :
    (s.supEvt code parts).sup.cycle = s.sup.cycle := by
  rw [(supEvt_eventOnly s code parts).sup]

@[simp] theorem State.supEvt_sup_pw (s : State) (code : Nat) (parts : List (Nat × Nat)) :
    (s.supEvt code parts).sup.pw = s.sup.pw := by
  rw [(supEvt_eventOnly s code parts).sup]

@[simp] theorem State.supEvt_sup_rst (s : State) (code : Nat) (parts : List (Nat × Nat)) :
    (s.supEvt code parts).sup.rst = s.sup.rst := by
  rw [(supEvt_eventOnly s code parts).sup]

@[simp] theorem State.supEvt_sup_lineIn (s : State) (code : Nat) (parts : List (Nat × Nat)) :
    (s.supEvt code parts).sup.lineIn = s.sup.lineIn := by
  rw [(supEvt_eventOnly s code parts).sup]

@[simp] theorem State.supEvt_sup_lineOut (s : State) (code : Nat) (parts : List (Nat × Nat)) :
    (s.supEvt code parts).sup.lineOut = s.sup.lineOut := by
  rw [(supEvt_eventOnly s code parts).sup]

@[simp] theorem State.supEvt_sup_replan (s : State) (code : Nat) (parts : List (Nat × Nat)) :
    (s.supEvt code parts).sup.replan = s.sup.replan := by
  rw [(supEvt_eventOnly s code parts).sup]

@[simp] theorem State.supEvt_sup_reports (s : State) (code : Nat) (parts : List (Nat × Nat)) :
    (s.supEvt code parts).sup.reports = s.sup.reports := by
  rw [(supEvt_eventOnly s code parts).sup]

theorem State.lf_supEvt (s : State) (code : Nat) (parts : List (Nat × Nat)) (k : LaneId) (f : Fld) (e : eventReg f.reg = false) :
    (s.supEvt code parts).lf k f = s.lf k f := (supEvt_eventOnly s code parts).lf k f e

@[simp] theorem State.hf_supEvt (s : State) (code : Nat) (parts : List (Nat × Nat)) (f : Fld) : (s.supEvt code parts).hf f = s.hf f := by
  simp only [State.hf, State.hreg, State.hubRegs, State.supEvt_pde, State.supEvt_net, State.supEvt_can, State.supEvt_tb, State.supEvt_hub]

@[simp] theorem State.hubEvt_hub (s : State) (code : Nat) (parts : List (Nat × Nat)) :
    (s.hubEvt code parts).hub = s.hub := (hubEvt_eventOnly s code parts).hub

@[simp] theorem State.hubEvt_pde (s : State) (code : Nat) (parts : List (Nat × Nat)) :
    (s.hubEvt code parts).pde = s.pde := (hubEvt_eventOnly s code parts).pde

@[simp] theorem State.hubEvt_v1 (s : State) (code : Nat) (parts : List (Nat × Nat)) :
    (s.hubEvt code parts).v1 = s.v1 := (hubEvt_eventOnly s code parts).v1

@[simp] theorem State.hubEvt_md (s : State) (code : Nat) (parts : List (Nat × Nat)) :
    (s.hubEvt code parts).md = s.md := (hubEvt_eventOnly s code parts).md

@[simp] theorem State.hubEvt_rack (s : State) (code : Nat) (parts : List (Nat × Nat)) :
    (s.hubEvt code parts).rack = s.rack := (hubEvt_eventOnly s code parts).rack

@[simp] theorem State.hubEvt_store (s : State) (code : Nat) (parts : List (Nat × Nat)) :
    (s.hubEvt code parts).store = s.store := (hubEvt_eventOnly s code parts).store

@[simp] theorem State.hubEvt_dict (s : State) (code : Nat) (parts : List (Nat × Nat)) :
    (s.hubEvt code parts).dict = s.dict := (hubEvt_eventOnly s code parts).dict

@[simp] theorem State.hubEvt_svc (s : State) (code : Nat) (parts : List (Nat × Nat)) :
    (s.hubEvt code parts).svc = s.svc := (hubEvt_eventOnly s code parts).svc

@[simp] theorem State.hubEvt_net (s : State) (code : Nat) (parts : List (Nat × Nat)) :
    (s.hubEvt code parts).net = s.net := (hubEvt_eventOnly s code parts).net

@[simp] theorem State.hubEvt_can (s : State) (code : Nat) (parts : List (Nat × Nat)) :
    (s.hubEvt code parts).can = s.can := (hubEvt_eventOnly s code parts).can

@[simp] theorem State.hubEvt_tb (s : State) (code : Nat) (parts : List (Nat × Nat)) :
    (s.hubEvt code parts).tb = s.tb := (hubEvt_eventOnly s code parts).tb

@[simp] theorem State.hubEvt_fld (s : State) (code : Nat) (parts : List (Nat × Nat)) :
    (s.hubEvt code parts).fld = s.fld := (hubEvt_eventOnly s code parts).fld

@[simp] theorem State.hubEvt_coo (s : State) (code : Nat) (parts : List (Nat × Nat)) :
    (s.hubEvt code parts).coo = s.coo := (hubEvt_eventOnly s code parts).coo

@[simp] theorem State.hubEvt_tx (s : State) (code : Nat) (parts : List (Nat × Nat)) :
    (s.hubEvt code parts).tx = s.tx := (hubEvt_eventOnly s code parts).tx

@[simp] theorem State.hubEvt_freeCtr (s : State) (code : Nat) (parts : List (Nat × Nat)) :
    (s.hubEvt code parts).freeCtr = s.freeCtr := (hubEvt_eventOnly s code parts).freeCtr

@[simp] theorem State.hubEvt_lane_supplied (s : State) (code : Nat) (parts : List (Nat × Nat)) (k : LaneId) :
    ((s.hubEvt code parts).lane k).supplied = (s.lane k).supplied := by
  rw [(hubEvt_eventOnly s code parts).lane k]

@[simp] theorem State.hubEvt_lane_mem (s : State) (code : Nat) (parts : List (Nat × Nat)) (k : LaneId) :
    ((s.hubEvt code parts).lane k).mem = (s.lane k).mem := by
  rw [(hubEvt_eventOnly s code parts).lane k]

@[simp] theorem State.hubEvt_lane_ecc (s : State) (code : Nat) (parts : List (Nat × Nat)) (k : LaneId) :
    ((s.hubEvt code parts).lane k).ecc = (s.lane k).ecc := by
  rw [(hubEvt_eventOnly s code parts).lane k]

@[simp] theorem State.hubEvt_lane_cores (s : State) (code : Nat) (parts : List (Nat × Nat)) (k : LaneId) :
    ((s.hubEvt code parts).lane k).cores = (s.lane k).cores := by
  rw [(hubEvt_eventOnly s code parts).lane k]

@[simp] theorem State.hubEvt_lane_fe (s : State) (code : Nat) (parts : List (Nat × Nat)) (k : LaneId) :
    ((s.hubEvt code parts).lane k).fe = (s.lane k).fe := by
  rw [(hubEvt_eventOnly s code parts).lane k]

@[simp] theorem State.hubEvt_lane_tick (s : State) (code : Nat) (parts : List (Nat × Nat)) (k : LaneId) :
    ((s.hubEvt code parts).lane k).tick = (s.lane k).tick := by
  rw [(hubEvt_eventOnly s code parts).lane k]

@[simp] theorem State.hubEvt_lane_xch (s : State) (code : Nat) (parts : List (Nat × Nat)) (k : LaneId) :
    ((s.hubEvt code parts).lane k).xch = (s.lane k).xch := by
  rw [(hubEvt_eventOnly s code parts).lane k]

@[simp] theorem State.hubEvt_lane_rt (s : State) (code : Nat) (parts : List (Nat × Nat)) (k : LaneId) :
    ((s.hubEvt code parts).lane k).rt = (s.lane k).rt := by
  rw [(hubEvt_eventOnly s code parts).lane k]

@[simp] theorem State.hubEvt_lane_prog (s : State) (code : Nat) (parts : List (Nat × Nat)) (k : LaneId) :
    ((s.hubEvt code parts).lane k).prog = (s.lane k).prog := by
  rw [(hubEvt_eventOnly s code parts).lane k]

@[simp] theorem State.hubEvt_lane_newProg (s : State) (code : Nat) (parts : List (Nat × Nat)) (k : LaneId) :
    ((s.hubEvt code parts).lane k).newProg = (s.lane k).newProg := by
  rw [(hubEvt_eventOnly s code parts).lane k]

@[simp] theorem State.hubEvt_lane_admission (s : State) (code : Nat) (parts : List (Nat × Nat)) (k : LaneId) :
    ((s.hubEvt code parts).lane k).admission = (s.lane k).admission := by
  rw [(hubEvt_eventOnly s code parts).lane k]

@[simp] theorem State.hubEvt_lane_carried (s : State) (code : Nat) (parts : List (Nat × Nat)) (k : LaneId) :
    ((s.hubEvt code parts).lane k).carried = (s.lane k).carried := by
  rw [(hubEvt_eventOnly s code parts).lane k]

@[simp] theorem State.hubEvt_lane_carryFail (s : State) (code : Nat) (parts : List (Nat × Nat)) (k : LaneId) :
    ((s.hubEvt code parts).lane k).carryFail = (s.lane k).carryFail := by
  rw [(hubEvt_eventOnly s code parts).lane k]

@[simp] theorem State.hubEvt_lane_switchRec (s : State) (code : Nat) (parts : List (Nat × Nat)) (k : LaneId) :
    ((s.hubEvt code parts).lane k).switchRec = (s.lane k).switchRec := by
  rw [(hubEvt_eventOnly s code parts).lane k]

@[simp] theorem State.hubEvt_lane_sum (s : State) (code : Nat) (parts : List (Nat × Nat)) (k : LaneId) :
    ((s.hubEvt code parts).lane k).sum = (s.lane k).sum := by
  rw [(hubEvt_eventOnly s code parts).lane k]

@[simp] theorem State.hubEvt_lane_ret (s : State) (code : Nat) (parts : List (Nat × Nat)) (k : LaneId) :
    ((s.hubEvt code parts).lane k).ret = (s.lane k).ret := by
  rw [(hubEvt_eventOnly s code parts).lane k]

@[simp] theorem State.hubEvt_lane_brg (s : State) (code : Nat) (parts : List (Nat × Nat)) (k : LaneId) :
    ((s.hubEvt code parts).lane k).brg = (s.lane k).brg := by
  rw [(hubEvt_eventOnly s code parts).lane k]

@[simp] theorem State.hubEvt_lane_coop (s : State) (code : Nat) (parts : List (Nat × Nat)) (k : LaneId) :
    ((s.hubEvt code parts).lane k).coop = (s.lane k).coop := by
  rw [(hubEvt_eventOnly s code parts).lane k]

@[simp] theorem State.hubEvt_lane_claimed (s : State) (code : Nat) (parts : List (Nat × Nat)) (k : LaneId) :
    ((s.hubEvt code parts).lane k).claimed = (s.lane k).claimed := by
  rw [(hubEvt_eventOnly s code parts).lane k]

@[simp] theorem State.hubEvt_lane_restart (s : State) (code : Nat) (parts : List (Nat × Nat)) (k : LaneId) :
    ((s.hubEvt code parts).lane k).restart = (s.lane k).restart := by
  rw [(hubEvt_eventOnly s code parts).lane k]

@[simp] theorem State.hubEvt_lane_out (s : State) (code : Nat) (parts : List (Nat × Nat)) (k : LaneId) :
    ((s.hubEvt code parts).lane k).out = (s.lane k).out := by
  rw [(hubEvt_eventOnly s code parts).lane k]

@[simp] theorem State.hubEvt_lane_cfgDue (s : State) (code : Nat) (parts : List (Nat × Nat)) (k : LaneId) :
    ((s.hubEvt code parts).lane k).cfgDue = (s.lane k).cfgDue := by
  rw [(hubEvt_eventOnly s code parts).lane k]

@[simp] theorem State.hubEvt_sup_supplied (s : State) (code : Nat) (parts : List (Nat × Nat)) :
    (s.hubEvt code parts).sup.supplied = s.sup.supplied := by
  rw [(hubEvt_eventOnly s code parts).sup]

@[simp] theorem State.hubEvt_sup_frame (s : State) (code : Nat) (parts : List (Nat × Nat)) :
    (s.hubEvt code parts).sup.frame = s.sup.frame := by
  rw [(hubEvt_eventOnly s code parts).sup]

@[simp] theorem State.hubEvt_sup_edgeAt (s : State) (code : Nat) (parts : List (Nat × Nat)) :
    (s.hubEvt code parts).sup.edgeAt = s.sup.edgeAt := by
  rw [(hubEvt_eventOnly s code parts).sup]

@[simp] theorem State.hubEvt_sup_v2 (s : State) (code : Nat) (parts : List (Nat × Nat)) :
    (s.hubEvt code parts).sup.v2 = s.sup.v2 := by
  rw [(hubEvt_eventOnly s code parts).sup]

@[simp] theorem State.hubEvt_sup_ka (s : State) (code : Nat) (parts : List (Nat × Nat)) :
    (s.hubEvt code parts).sup.ka = s.sup.ka := by
  rw [(hubEvt_eventOnly s code parts).sup]

@[simp] theorem State.hubEvt_sup_arrival (s : State) (code : Nat) (parts : List (Nat × Nat)) :
    (s.hubEvt code parts).sup.arrival = s.sup.arrival := by
  rw [(hubEvt_eventOnly s code parts).sup]

@[simp] theorem State.hubEvt_sup_missEdge (s : State) (code : Nat) (parts : List (Nat × Nat)) :
    (s.hubEvt code parts).sup.missEdge = s.sup.missEdge := by
  rw [(hubEvt_eventOnly s code parts).sup]

@[simp] theorem State.hubEvt_sup_spacing (s : State) (code : Nat) (parts : List (Nat × Nat)) :
    (s.hubEvt code parts).sup.spacing = s.sup.spacing := by
  rw [(hubEvt_eventOnly s code parts).sup]

@[simp] theorem State.hubEvt_sup_cycle (s : State) (code : Nat) (parts : List (Nat × Nat)) :
    (s.hubEvt code parts).sup.cycle = s.sup.cycle := by
  rw [(hubEvt_eventOnly s code parts).sup]

@[simp] theorem State.hubEvt_sup_pw (s : State) (code : Nat) (parts : List (Nat × Nat)) :
    (s.hubEvt code parts).sup.pw = s.sup.pw := by
  rw [(hubEvt_eventOnly s code parts).sup]

@[simp] theorem State.hubEvt_sup_rst (s : State) (code : Nat) (parts : List (Nat × Nat)) :
    (s.hubEvt code parts).sup.rst = s.sup.rst := by
  rw [(hubEvt_eventOnly s code parts).sup]

@[simp] theorem State.hubEvt_sup_lineIn (s : State) (code : Nat) (parts : List (Nat × Nat)) :
    (s.hubEvt code parts).sup.lineIn = s.sup.lineIn := by
  rw [(hubEvt_eventOnly s code parts).sup]

@[simp] theorem State.hubEvt_sup_lineOut (s : State) (code : Nat) (parts : List (Nat × Nat)) :
    (s.hubEvt code parts).sup.lineOut = s.sup.lineOut := by
  rw [(hubEvt_eventOnly s code parts).sup]

@[simp] theorem State.hubEvt_sup_replan (s : State) (code : Nat) (parts : List (Nat × Nat)) :
    (s.hubEvt code parts).sup.replan = s.sup.replan := by
  rw [(hubEvt_eventOnly s code parts).sup]

@[simp] theorem State.hubEvt_sup_reports (s : State) (code : Nat) (parts : List (Nat × Nat)) :
    (s.hubEvt code parts).sup.reports = s.sup.reports := by
  rw [(hubEvt_eventOnly s code parts).sup]

theorem State.lf_hubEvt (s : State) (code : Nat) (parts : List (Nat × Nat)) (k : LaneId) (f : Fld) (e : eventReg f.reg = false) :
    (s.hubEvt code parts).lf k f = s.lf k f := (hubEvt_eventOnly s code parts).lf k f e

@[simp] theorem State.hf_hubEvt (s : State) (code : Nat) (parts : List (Nat × Nat)) (f : Fld) : (s.hubEvt code parts).hf f = s.hf f := by
  simp only [State.hf, State.hreg, State.hubRegs, State.hubEvt_pde, State.hubEvt_net, State.hubEvt_can, State.hubEvt_tb, State.hubEvt_hub]

end Sys2Proof.Machine
end

