-- ==== Sys2Proof/Laws/Update.lean ====
section
/-! SUPPORT. What each operation that changes one component of the state leaves, one lemma per field. -/

namespace Sys2Proof.Machine

/-! ### coreSet -/

@[simp] theorem State.coreSet_hub (s : State) (l : LaneId) (c : Nat) (x : CoreState) :
    (s.coreSet l c x).hub = s.hub := by cases l <;> rfl

@[simp] theorem State.coreSet_pde (s : State) (l : LaneId) (c : Nat) (x : CoreState) :
    (s.coreSet l c x).pde = s.pde := by cases l <;> rfl

@[simp] theorem State.coreSet_v1 (s : State) (l : LaneId) (c : Nat) (x : CoreState) :
    (s.coreSet l c x).v1 = s.v1 := by cases l <;> rfl

@[simp] theorem State.coreSet_book (s : State) (l : LaneId) (c : Nat) (x : CoreState) :
    (s.coreSet l c x).book = s.book := by cases l <;> rfl

@[simp] theorem State.coreSet_sup (s : State) (l : LaneId) (c : Nat) (x : CoreState) :
    (s.coreSet l c x).sup = s.sup := by cases l <;> rfl

@[simp] theorem State.coreSet_md (s : State) (l : LaneId) (c : Nat) (x : CoreState) :
    (s.coreSet l c x).md = s.md := by cases l <;> rfl

@[simp] theorem State.coreSet_rack (s : State) (l : LaneId) (c : Nat) (x : CoreState) :
    (s.coreSet l c x).rack = s.rack := by cases l <;> rfl

@[simp] theorem State.coreSet_store (s : State) (l : LaneId) (c : Nat) (x : CoreState) :
    (s.coreSet l c x).store = s.store := by cases l <;> rfl

@[simp] theorem State.coreSet_dict (s : State) (l : LaneId) (c : Nat) (x : CoreState) :
    (s.coreSet l c x).dict = s.dict := by cases l <;> rfl

@[simp] theorem State.coreSet_svc (s : State) (l : LaneId) (c : Nat) (x : CoreState) :
    (s.coreSet l c x).svc = s.svc := by cases l <;> rfl

@[simp] theorem State.coreSet_partners (s : State) (l : LaneId) (c : Nat) (x : CoreState) :
    (s.coreSet l c x).partners = s.partners := by cases l <;> rfl

@[simp] theorem State.coreSet_net (s : State) (l : LaneId) (c : Nat) (x : CoreState) :
    (s.coreSet l c x).net = s.net := by cases l <;> rfl

@[simp] theorem State.coreSet_can (s : State) (l : LaneId) (c : Nat) (x : CoreState) :
    (s.coreSet l c x).can = s.can := by cases l <;> rfl

@[simp] theorem State.coreSet_tb (s : State) (l : LaneId) (c : Nat) (x : CoreState) :
    (s.coreSet l c x).tb = s.tb := by cases l <;> rfl

@[simp] theorem State.coreSet_fld (s : State) (l : LaneId) (c : Nat) (x : CoreState) :
    (s.coreSet l c x).fld = s.fld := by cases l <;> rfl

@[simp] theorem State.coreSet_coo (s : State) (l : LaneId) (c : Nat) (x : CoreState) :
    (s.coreSet l c x).coo = s.coo := by cases l <;> rfl

@[simp] theorem State.coreSet_tx (s : State) (l : LaneId) (c : Nat) (x : CoreState) :
    (s.coreSet l c x).tx = s.tx := by cases l <;> rfl

@[simp] theorem State.coreSet_freeCtr (s : State) (l : LaneId) (c : Nat) (x : CoreState) :
    (s.coreSet l c x).freeCtr = s.freeCtr := by cases l <;> rfl

@[simp] theorem State.coreSet_lane_supplied (s : State) (l : LaneId) (c : Nat) (x : CoreState) (k : LaneId) :
    ((s.coreSet l c x).lane k).supplied = (s.lane k).supplied := by cases l <;> cases k <;> rfl

@[simp] theorem State.coreSet_lane_regs (s : State) (l : LaneId) (c : Nat) (x : CoreState) (k : LaneId) :
    ((s.coreSet l c x).lane k).regs = (s.lane k).regs := by cases l <;> cases k <;> rfl

@[simp] theorem State.coreSet_lane_mem (s : State) (l : LaneId) (c : Nat) (x : CoreState) (k : LaneId) :
    ((s.coreSet l c x).lane k).mem = (s.lane k).mem := by cases l <;> cases k <;> rfl

@[simp] theorem State.coreSet_lane_ecc (s : State) (l : LaneId) (c : Nat) (x : CoreState) (k : LaneId) :
    ((s.coreSet l c x).lane k).ecc = (s.lane k).ecc := by cases l <;> cases k <;> rfl

@[simp] theorem State.coreSet_lane_fe (s : State) (l : LaneId) (c : Nat) (x : CoreState) (k : LaneId) :
    ((s.coreSet l c x).lane k).fe = (s.lane k).fe := by cases l <;> cases k <;> rfl

@[simp] theorem State.coreSet_lane_tick (s : State) (l : LaneId) (c : Nat) (x : CoreState) (k : LaneId) :
    ((s.coreSet l c x).lane k).tick = (s.lane k).tick := by cases l <;> cases k <;> rfl

@[simp] theorem State.coreSet_lane_xch (s : State) (l : LaneId) (c : Nat) (x : CoreState) (k : LaneId) :
    ((s.coreSet l c x).lane k).xch = (s.lane k).xch := by cases l <;> cases k <;> rfl

@[simp] theorem State.coreSet_lane_rt (s : State) (l : LaneId) (c : Nat) (x : CoreState) (k : LaneId) :
    ((s.coreSet l c x).lane k).rt = (s.lane k).rt := by cases l <;> cases k <;> rfl

@[simp] theorem State.coreSet_lane_prog (s : State) (l : LaneId) (c : Nat) (x : CoreState) (k : LaneId) :
    ((s.coreSet l c x).lane k).prog = (s.lane k).prog := by cases l <;> cases k <;> rfl

@[simp] theorem State.coreSet_lane_newProg (s : State) (l : LaneId) (c : Nat) (x : CoreState) (k : LaneId) :
    ((s.coreSet l c x).lane k).newProg = (s.lane k).newProg := by cases l <;> cases k <;> rfl

@[simp] theorem State.coreSet_lane_admission (s : State) (l : LaneId) (c : Nat) (x : CoreState) (k : LaneId) :
    ((s.coreSet l c x).lane k).admission = (s.lane k).admission := by cases l <;> cases k <;> rfl

@[simp] theorem State.coreSet_lane_carried (s : State) (l : LaneId) (c : Nat) (x : CoreState) (k : LaneId) :
    ((s.coreSet l c x).lane k).carried = (s.lane k).carried := by cases l <;> cases k <;> rfl

@[simp] theorem State.coreSet_lane_carryFail (s : State) (l : LaneId) (c : Nat) (x : CoreState) (k : LaneId) :
    ((s.coreSet l c x).lane k).carryFail = (s.lane k).carryFail := by cases l <;> cases k <;> rfl

@[simp] theorem State.coreSet_lane_switchRec (s : State) (l : LaneId) (c : Nat) (x : CoreState) (k : LaneId) :
    ((s.coreSet l c x).lane k).switchRec = (s.lane k).switchRec := by cases l <;> cases k <;> rfl

@[simp] theorem State.coreSet_lane_sum (s : State) (l : LaneId) (c : Nat) (x : CoreState) (k : LaneId) :
    ((s.coreSet l c x).lane k).sum = (s.lane k).sum := by cases l <;> cases k <;> rfl

@[simp] theorem State.coreSet_lane_ret (s : State) (l : LaneId) (c : Nat) (x : CoreState) (k : LaneId) :
    ((s.coreSet l c x).lane k).ret = (s.lane k).ret := by cases l <;> cases k <;> rfl

@[simp] theorem State.coreSet_lane_brg (s : State) (l : LaneId) (c : Nat) (x : CoreState) (k : LaneId) :
    ((s.coreSet l c x).lane k).brg = (s.lane k).brg := by cases l <;> cases k <;> rfl

@[simp] theorem State.coreSet_lane_book (s : State) (l : LaneId) (c : Nat) (x : CoreState) (k : LaneId) :
    ((s.coreSet l c x).lane k).book = (s.lane k).book := by cases l <;> cases k <;> rfl

@[simp] theorem State.coreSet_lane_coop (s : State) (l : LaneId) (c : Nat) (x : CoreState) (k : LaneId) :
    ((s.coreSet l c x).lane k).coop = (s.lane k).coop := by cases l <;> cases k <;> rfl

@[simp] theorem State.coreSet_lane_claimed (s : State) (l : LaneId) (c : Nat) (x : CoreState) (k : LaneId) :
    ((s.coreSet l c x).lane k).claimed = (s.lane k).claimed := by cases l <;> cases k <;> rfl

@[simp] theorem State.coreSet_lane_restart (s : State) (l : LaneId) (c : Nat) (x : CoreState) (k : LaneId) :
    ((s.coreSet l c x).lane k).restart = (s.lane k).restart := by cases l <;> cases k <;> rfl

@[simp] theorem State.coreSet_lane_out (s : State) (l : LaneId) (c : Nat) (x : CoreState) (k : LaneId) :
    ((s.coreSet l c x).lane k).out = (s.lane k).out := by cases l <;> cases k <;> rfl

@[simp] theorem State.coreSet_lane_cfgDue (s : State) (l : LaneId) (c : Nat) (x : CoreState) (k : LaneId) :
    ((s.coreSet l c x).lane k).cfgDue = (s.lane k).cfgDue := by cases l <;> cases k <;> rfl

@[simp] theorem State.lf_coreSet (s : State) (l : LaneId) (c : Nat) (x : CoreState) (k : LaneId) (g : Fld) :
    (s.coreSet l c x).lf k g = s.lf k g := State.lf_congr (by simp) g

@[simp] theorem State.hf_coreSet (s : State) (l : LaneId) (c : Nat) (x : CoreState) (g : Fld) :
    (s.coreSet l c x).hf g = s.hf g := by cases l <;> rfl

/-! ### stationSet -/

@[simp] theorem State.stationSet_hub (s : State) (l : LaneId) (n : Nat) (x : StationRec) :
    (s.stationSet l n x).hub = s.hub := by cases l <;> rfl

@[simp] theorem State.stationSet_pde (s : State) (l : LaneId) (n : Nat) (x : StationRec) :
    (s.stationSet l n x).pde = s.pde := by cases l <;> rfl

@[simp] theorem State.stationSet_v1 (s : State) (l : LaneId) (n : Nat) (x : StationRec) :
    (s.stationSet l n x).v1 = s.v1 := by cases l <;> rfl

@[simp] theorem State.stationSet_book (s : State) (l : LaneId) (n : Nat) (x : StationRec) :
    (s.stationSet l n x).book = s.book := by cases l <;> rfl

@[simp] theorem State.stationSet_sup (s : State) (l : LaneId) (n : Nat) (x : StationRec) :
    (s.stationSet l n x).sup = s.sup := by cases l <;> rfl

@[simp] theorem State.stationSet_md (s : State) (l : LaneId) (n : Nat) (x : StationRec) :
    (s.stationSet l n x).md = s.md := by cases l <;> rfl

@[simp] theorem State.stationSet_rack (s : State) (l : LaneId) (n : Nat) (x : StationRec) :
    (s.stationSet l n x).rack = s.rack := by cases l <;> rfl

@[simp] theorem State.stationSet_store (s : State) (l : LaneId) (n : Nat) (x : StationRec) :
    (s.stationSet l n x).store = s.store := by cases l <;> rfl

@[simp] theorem State.stationSet_dict (s : State) (l : LaneId) (n : Nat) (x : StationRec) :
    (s.stationSet l n x).dict = s.dict := by cases l <;> rfl

@[simp] theorem State.stationSet_svc (s : State) (l : LaneId) (n : Nat) (x : StationRec) :
    (s.stationSet l n x).svc = s.svc := by cases l <;> rfl

@[simp] theorem State.stationSet_partners (s : State) (l : LaneId) (n : Nat) (x : StationRec) :
    (s.stationSet l n x).partners = s.partners := by cases l <;> rfl

@[simp] theorem State.stationSet_net (s : State) (l : LaneId) (n : Nat) (x : StationRec) :
    (s.stationSet l n x).net = s.net := by cases l <;> rfl

@[simp] theorem State.stationSet_can (s : State) (l : LaneId) (n : Nat) (x : StationRec) :
    (s.stationSet l n x).can = s.can := by cases l <;> rfl

@[simp] theorem State.stationSet_tb (s : State) (l : LaneId) (n : Nat) (x : StationRec) :
    (s.stationSet l n x).tb = s.tb := by cases l <;> rfl

@[simp] theorem State.stationSet_fld (s : State) (l : LaneId) (n : Nat) (x : StationRec) :
    (s.stationSet l n x).fld = s.fld := by cases l <;> rfl

@[simp] theorem State.stationSet_coo (s : State) (l : LaneId) (n : Nat) (x : StationRec) :
    (s.stationSet l n x).coo = s.coo := by cases l <;> rfl

@[simp] theorem State.stationSet_tx (s : State) (l : LaneId) (n : Nat) (x : StationRec) :
    (s.stationSet l n x).tx = s.tx := by cases l <;> rfl

@[simp] theorem State.stationSet_freeCtr (s : State) (l : LaneId) (n : Nat) (x : StationRec) :
    (s.stationSet l n x).freeCtr = s.freeCtr := by cases l <;> rfl

@[simp] theorem State.stationSet_lane_supplied (s : State) (l : LaneId) (n : Nat) (x : StationRec) (k : LaneId) :
    ((s.stationSet l n x).lane k).supplied = (s.lane k).supplied := by cases l <;> cases k <;> rfl

@[simp] theorem State.stationSet_lane_regs (s : State) (l : LaneId) (n : Nat) (x : StationRec) (k : LaneId) :
    ((s.stationSet l n x).lane k).regs = (s.lane k).regs := by cases l <;> cases k <;> rfl

@[simp] theorem State.stationSet_lane_mem (s : State) (l : LaneId) (n : Nat) (x : StationRec) (k : LaneId) :
    ((s.stationSet l n x).lane k).mem = (s.lane k).mem := by cases l <;> cases k <;> rfl

@[simp] theorem State.stationSet_lane_ecc (s : State) (l : LaneId) (n : Nat) (x : StationRec) (k : LaneId) :
    ((s.stationSet l n x).lane k).ecc = (s.lane k).ecc := by cases l <;> cases k <;> rfl

@[simp] theorem State.stationSet_lane_cores (s : State) (l : LaneId) (n : Nat) (x : StationRec) (k : LaneId) :
    ((s.stationSet l n x).lane k).cores = (s.lane k).cores := by cases l <;> cases k <;> rfl

@[simp] theorem State.stationSet_lane_fe (s : State) (l : LaneId) (n : Nat) (x : StationRec) (k : LaneId) :
    ((s.stationSet l n x).lane k).fe = (s.lane k).fe := by cases l <;> cases k <;> rfl

@[simp] theorem State.stationSet_lane_tick (s : State) (l : LaneId) (n : Nat) (x : StationRec) (k : LaneId) :
    ((s.stationSet l n x).lane k).tick = (s.lane k).tick := by cases l <;> cases k <;> rfl

@[simp] theorem State.stationSet_lane_xch (s : State) (l : LaneId) (n : Nat) (x : StationRec) (k : LaneId) :
    ((s.stationSet l n x).lane k).xch = (s.lane k).xch := by cases l <;> cases k <;> rfl

@[simp] theorem State.stationSet_lane_prog (s : State) (l : LaneId) (n : Nat) (x : StationRec) (k : LaneId) :
    ((s.stationSet l n x).lane k).prog = (s.lane k).prog := by cases l <;> cases k <;> rfl

@[simp] theorem State.stationSet_lane_newProg (s : State) (l : LaneId) (n : Nat) (x : StationRec) (k : LaneId) :
    ((s.stationSet l n x).lane k).newProg = (s.lane k).newProg := by cases l <;> cases k <;> rfl

@[simp] theorem State.stationSet_lane_admission (s : State) (l : LaneId) (n : Nat) (x : StationRec) (k : LaneId) :
    ((s.stationSet l n x).lane k).admission = (s.lane k).admission := by cases l <;> cases k <;> rfl

@[simp] theorem State.stationSet_lane_carried (s : State) (l : LaneId) (n : Nat) (x : StationRec) (k : LaneId) :
    ((s.stationSet l n x).lane k).carried = (s.lane k).carried := by cases l <;> cases k <;> rfl

@[simp] theorem State.stationSet_lane_carryFail (s : State) (l : LaneId) (n : Nat) (x : StationRec) (k : LaneId) :
    ((s.stationSet l n x).lane k).carryFail = (s.lane k).carryFail := by cases l <;> cases k <;> rfl

@[simp] theorem State.stationSet_lane_switchRec (s : State) (l : LaneId) (n : Nat) (x : StationRec) (k : LaneId) :
    ((s.stationSet l n x).lane k).switchRec = (s.lane k).switchRec := by cases l <;> cases k <;> rfl

@[simp] theorem State.stationSet_lane_sum (s : State) (l : LaneId) (n : Nat) (x : StationRec) (k : LaneId) :
    ((s.stationSet l n x).lane k).sum = (s.lane k).sum := by cases l <;> cases k <;> rfl

@[simp] theorem State.stationSet_lane_ret (s : State) (l : LaneId) (n : Nat) (x : StationRec) (k : LaneId) :
    ((s.stationSet l n x).lane k).ret = (s.lane k).ret := by cases l <;> cases k <;> rfl

@[simp] theorem State.stationSet_lane_brg (s : State) (l : LaneId) (n : Nat) (x : StationRec) (k : LaneId) :
    ((s.stationSet l n x).lane k).brg = (s.lane k).brg := by cases l <;> cases k <;> rfl

@[simp] theorem State.stationSet_lane_book (s : State) (l : LaneId) (n : Nat) (x : StationRec) (k : LaneId) :
    ((s.stationSet l n x).lane k).book = (s.lane k).book := by cases l <;> cases k <;> rfl

@[simp] theorem State.stationSet_lane_coop (s : State) (l : LaneId) (n : Nat) (x : StationRec) (k : LaneId) :
    ((s.stationSet l n x).lane k).coop = (s.lane k).coop := by cases l <;> cases k <;> rfl

@[simp] theorem State.stationSet_lane_claimed (s : State) (l : LaneId) (n : Nat) (x : StationRec) (k : LaneId) :
    ((s.stationSet l n x).lane k).claimed = (s.lane k).claimed := by cases l <;> cases k <;> rfl

@[simp] theorem State.stationSet_lane_restart (s : State) (l : LaneId) (n : Nat) (x : StationRec) (k : LaneId) :
    ((s.stationSet l n x).lane k).restart = (s.lane k).restart := by cases l <;> cases k <;> rfl

@[simp] theorem State.stationSet_lane_out (s : State) (l : LaneId) (n : Nat) (x : StationRec) (k : LaneId) :
    ((s.stationSet l n x).lane k).out = (s.lane k).out := by cases l <;> cases k <;> rfl

@[simp] theorem State.stationSet_lane_cfgDue (s : State) (l : LaneId) (n : Nat) (x : StationRec) (k : LaneId) :
    ((s.stationSet l n x).lane k).cfgDue = (s.lane k).cfgDue := by cases l <;> cases k <;> rfl

@[simp] theorem State.lf_stationSet (s : State) (l : LaneId) (n : Nat) (x : StationRec) (k : LaneId) (g : Fld) :
    (s.stationSet l n x).lf k g = s.lf k g := State.lf_congr (by simp) g

@[simp] theorem State.hf_stationSet (s : State) (l : LaneId) (n : Nat) (x : StationRec) (g : Fld) :
    (s.stationSet l n x).hf g = s.hf g := by cases l <;> rfl

/-! ### connSet -/

@[simp] theorem State.connSet_hub (s : State) (l : LaneId) (n : Nat) (x : Conn) :
    (s.connSet l n x).hub = s.hub := by cases l <;> rfl

@[simp] theorem State.connSet_pde (s : State) (l : LaneId) (n : Nat) (x : Conn) :
    (s.connSet l n x).pde = s.pde := by cases l <;> rfl

@[simp] theorem State.connSet_v1 (s : State) (l : LaneId) (n : Nat) (x : Conn) :
    (s.connSet l n x).v1 = s.v1 := by cases l <;> rfl

@[simp] theorem State.connSet_book (s : State) (l : LaneId) (n : Nat) (x : Conn) :
    (s.connSet l n x).book = s.book := by cases l <;> rfl

@[simp] theorem State.connSet_sup (s : State) (l : LaneId) (n : Nat) (x : Conn) :
    (s.connSet l n x).sup = s.sup := by cases l <;> rfl

@[simp] theorem State.connSet_md (s : State) (l : LaneId) (n : Nat) (x : Conn) :
    (s.connSet l n x).md = s.md := by cases l <;> rfl

@[simp] theorem State.connSet_rack (s : State) (l : LaneId) (n : Nat) (x : Conn) :
    (s.connSet l n x).rack = s.rack := by cases l <;> rfl

@[simp] theorem State.connSet_store (s : State) (l : LaneId) (n : Nat) (x : Conn) :
    (s.connSet l n x).store = s.store := by cases l <;> rfl

@[simp] theorem State.connSet_dict (s : State) (l : LaneId) (n : Nat) (x : Conn) :
    (s.connSet l n x).dict = s.dict := by cases l <;> rfl

@[simp] theorem State.connSet_svc (s : State) (l : LaneId) (n : Nat) (x : Conn) :
    (s.connSet l n x).svc = s.svc := by cases l <;> rfl

@[simp] theorem State.connSet_partners (s : State) (l : LaneId) (n : Nat) (x : Conn) :
    (s.connSet l n x).partners = s.partners := by cases l <;> rfl

@[simp] theorem State.connSet_net (s : State) (l : LaneId) (n : Nat) (x : Conn) :
    (s.connSet l n x).net = s.net := by cases l <;> rfl

@[simp] theorem State.connSet_can (s : State) (l : LaneId) (n : Nat) (x : Conn) :
    (s.connSet l n x).can = s.can := by cases l <;> rfl

@[simp] theorem State.connSet_tb (s : State) (l : LaneId) (n : Nat) (x : Conn) :
    (s.connSet l n x).tb = s.tb := by cases l <;> rfl

@[simp] theorem State.connSet_fld (s : State) (l : LaneId) (n : Nat) (x : Conn) :
    (s.connSet l n x).fld = s.fld := by cases l <;> rfl

@[simp] theorem State.connSet_coo (s : State) (l : LaneId) (n : Nat) (x : Conn) :
    (s.connSet l n x).coo = s.coo := by cases l <;> rfl

@[simp] theorem State.connSet_tx (s : State) (l : LaneId) (n : Nat) (x : Conn) :
    (s.connSet l n x).tx = s.tx := by cases l <;> rfl

@[simp] theorem State.connSet_freeCtr (s : State) (l : LaneId) (n : Nat) (x : Conn) :
    (s.connSet l n x).freeCtr = s.freeCtr := by cases l <;> rfl

@[simp] theorem State.connSet_lane_supplied (s : State) (l : LaneId) (n : Nat) (x : Conn) (k : LaneId) :
    ((s.connSet l n x).lane k).supplied = (s.lane k).supplied := by cases l <;> cases k <;> rfl

@[simp] theorem State.connSet_lane_regs (s : State) (l : LaneId) (n : Nat) (x : Conn) (k : LaneId) :
    ((s.connSet l n x).lane k).regs = (s.lane k).regs := by cases l <;> cases k <;> rfl

@[simp] theorem State.connSet_lane_mem (s : State) (l : LaneId) (n : Nat) (x : Conn) (k : LaneId) :
    ((s.connSet l n x).lane k).mem = (s.lane k).mem := by cases l <;> cases k <;> rfl

@[simp] theorem State.connSet_lane_ecc (s : State) (l : LaneId) (n : Nat) (x : Conn) (k : LaneId) :
    ((s.connSet l n x).lane k).ecc = (s.lane k).ecc := by cases l <;> cases k <;> rfl

@[simp] theorem State.connSet_lane_cores (s : State) (l : LaneId) (n : Nat) (x : Conn) (k : LaneId) :
    ((s.connSet l n x).lane k).cores = (s.lane k).cores := by cases l <;> cases k <;> rfl

@[simp] theorem State.connSet_lane_fe (s : State) (l : LaneId) (n : Nat) (x : Conn) (k : LaneId) :
    ((s.connSet l n x).lane k).fe = (s.lane k).fe := by cases l <;> cases k <;> rfl

@[simp] theorem State.connSet_lane_tick (s : State) (l : LaneId) (n : Nat) (x : Conn) (k : LaneId) :
    ((s.connSet l n x).lane k).tick = (s.lane k).tick := by cases l <;> cases k <;> rfl

@[simp] theorem State.connSet_lane_xch (s : State) (l : LaneId) (n : Nat) (x : Conn) (k : LaneId) :
    ((s.connSet l n x).lane k).xch = (s.lane k).xch := by cases l <;> cases k <;> rfl

@[simp] theorem State.connSet_lane_prog (s : State) (l : LaneId) (n : Nat) (x : Conn) (k : LaneId) :
    ((s.connSet l n x).lane k).prog = (s.lane k).prog := by cases l <;> cases k <;> rfl

@[simp] theorem State.connSet_lane_newProg (s : State) (l : LaneId) (n : Nat) (x : Conn) (k : LaneId) :
    ((s.connSet l n x).lane k).newProg = (s.lane k).newProg := by cases l <;> cases k <;> rfl

@[simp] theorem State.connSet_lane_admission (s : State) (l : LaneId) (n : Nat) (x : Conn) (k : LaneId) :
    ((s.connSet l n x).lane k).admission = (s.lane k).admission := by cases l <;> cases k <;> rfl

@[simp] theorem State.connSet_lane_carried (s : State) (l : LaneId) (n : Nat) (x : Conn) (k : LaneId) :
    ((s.connSet l n x).lane k).carried = (s.lane k).carried := by cases l <;> cases k <;> rfl

@[simp] theorem State.connSet_lane_carryFail (s : State) (l : LaneId) (n : Nat) (x : Conn) (k : LaneId) :
    ((s.connSet l n x).lane k).carryFail = (s.lane k).carryFail := by cases l <;> cases k <;> rfl

@[simp] theorem State.connSet_lane_switchRec (s : State) (l : LaneId) (n : Nat) (x : Conn) (k : LaneId) :
    ((s.connSet l n x).lane k).switchRec = (s.lane k).switchRec := by cases l <;> cases k <;> rfl

@[simp] theorem State.connSet_lane_sum (s : State) (l : LaneId) (n : Nat) (x : Conn) (k : LaneId) :
    ((s.connSet l n x).lane k).sum = (s.lane k).sum := by cases l <;> cases k <;> rfl

@[simp] theorem State.connSet_lane_ret (s : State) (l : LaneId) (n : Nat) (x : Conn) (k : LaneId) :
    ((s.connSet l n x).lane k).ret = (s.lane k).ret := by cases l <;> cases k <;> rfl

@[simp] theorem State.connSet_lane_brg (s : State) (l : LaneId) (n : Nat) (x : Conn) (k : LaneId) :
    ((s.connSet l n x).lane k).brg = (s.lane k).brg := by cases l <;> cases k <;> rfl

@[simp] theorem State.connSet_lane_book (s : State) (l : LaneId) (n : Nat) (x : Conn) (k : LaneId) :
    ((s.connSet l n x).lane k).book = (s.lane k).book := by cases l <;> cases k <;> rfl

@[simp] theorem State.connSet_lane_coop (s : State) (l : LaneId) (n : Nat) (x : Conn) (k : LaneId) :
    ((s.connSet l n x).lane k).coop = (s.lane k).coop := by cases l <;> cases k <;> rfl

@[simp] theorem State.connSet_lane_claimed (s : State) (l : LaneId) (n : Nat) (x : Conn) (k : LaneId) :
    ((s.connSet l n x).lane k).claimed = (s.lane k).claimed := by cases l <;> cases k <;> rfl

@[simp] theorem State.connSet_lane_restart (s : State) (l : LaneId) (n : Nat) (x : Conn) (k : LaneId) :
    ((s.connSet l n x).lane k).restart = (s.lane k).restart := by cases l <;> cases k <;> rfl

@[simp] theorem State.connSet_lane_out (s : State) (l : LaneId) (n : Nat) (x : Conn) (k : LaneId) :
    ((s.connSet l n x).lane k).out = (s.lane k).out := by cases l <;> cases k <;> rfl

@[simp] theorem State.connSet_lane_cfgDue (s : State) (l : LaneId) (n : Nat) (x : Conn) (k : LaneId) :
    ((s.connSet l n x).lane k).cfgDue = (s.lane k).cfgDue := by cases l <;> cases k <;> rfl

@[simp] theorem State.lf_connSet (s : State) (l : LaneId) (n : Nat) (x : Conn) (k : LaneId) (g : Fld) :
    (s.connSet l n x).lf k g = s.lf k g := State.lf_congr (by simp) g

@[simp] theorem State.hf_connSet (s : State) (l : LaneId) (n : Nat) (x : Conn) (g : Fld) :
    (s.connSet l n x).hf g = s.hf g := by cases l <;> rfl

/-! ### prSet -/

@[simp] theorem State.prSet_hub (s : State) (l : LaneId) (x : LanePair) :
    (s.prSet l x).hub = s.hub := by cases l <;> rfl

@[simp] theorem State.prSet_pde (s : State) (l : LaneId) (x : LanePair) :
    (s.prSet l x).pde = s.pde := by cases l <;> rfl

@[simp] theorem State.prSet_v1 (s : State) (l : LaneId) (x : LanePair) :
    (s.prSet l x).v1 = s.v1 := by cases l <;> rfl

@[simp] theorem State.prSet_book (s : State) (l : LaneId) (x : LanePair) :
    (s.prSet l x).book = s.book := by cases l <;> rfl

@[simp] theorem State.prSet_sup (s : State) (l : LaneId) (x : LanePair) :
    (s.prSet l x).sup = s.sup := by cases l <;> rfl

@[simp] theorem State.prSet_md (s : State) (l : LaneId) (x : LanePair) :
    (s.prSet l x).md = s.md := by cases l <;> rfl

@[simp] theorem State.prSet_rack (s : State) (l : LaneId) (x : LanePair) :
    (s.prSet l x).rack = s.rack := by cases l <;> rfl

@[simp] theorem State.prSet_store (s : State) (l : LaneId) (x : LanePair) :
    (s.prSet l x).store = s.store := by cases l <;> rfl

@[simp] theorem State.prSet_dict (s : State) (l : LaneId) (x : LanePair) :
    (s.prSet l x).dict = s.dict := by cases l <;> rfl

@[simp] theorem State.prSet_svc (s : State) (l : LaneId) (x : LanePair) :
    (s.prSet l x).svc = s.svc := by cases l <;> rfl

@[simp] theorem State.prSet_partners (s : State) (l : LaneId) (x : LanePair) :
    (s.prSet l x).partners = s.partners := by cases l <;> rfl

@[simp] theorem State.prSet_net (s : State) (l : LaneId) (x : LanePair) :
    (s.prSet l x).net = s.net := by cases l <;> rfl

@[simp] theorem State.prSet_can (s : State) (l : LaneId) (x : LanePair) :
    (s.prSet l x).can = s.can := by cases l <;> rfl

@[simp] theorem State.prSet_tb (s : State) (l : LaneId) (x : LanePair) :
    (s.prSet l x).tb = s.tb := by cases l <;> rfl

@[simp] theorem State.prSet_fld (s : State) (l : LaneId) (x : LanePair) :
    (s.prSet l x).fld = s.fld := by cases l <;> rfl

@[simp] theorem State.prSet_coo (s : State) (l : LaneId) (x : LanePair) :
    (s.prSet l x).coo = s.coo := by cases l <;> rfl

@[simp] theorem State.prSet_tx (s : State) (l : LaneId) (x : LanePair) :
    (s.prSet l x).tx = s.tx := by cases l <;> rfl

@[simp] theorem State.prSet_freeCtr (s : State) (l : LaneId) (x : LanePair) :
    (s.prSet l x).freeCtr = s.freeCtr := by cases l <;> rfl

@[simp] theorem State.prSet_lane_supplied (s : State) (l : LaneId) (x : LanePair) (k : LaneId) :
    ((s.prSet l x).lane k).supplied = (s.lane k).supplied := by cases l <;> cases k <;> rfl

@[simp] theorem State.prSet_lane_regs (s : State) (l : LaneId) (x : LanePair) (k : LaneId) :
    ((s.prSet l x).lane k).regs = (s.lane k).regs := by cases l <;> cases k <;> rfl

@[simp] theorem State.prSet_lane_mem (s : State) (l : LaneId) (x : LanePair) (k : LaneId) :
    ((s.prSet l x).lane k).mem = (s.lane k).mem := by cases l <;> cases k <;> rfl

@[simp] theorem State.prSet_lane_ecc (s : State) (l : LaneId) (x : LanePair) (k : LaneId) :
    ((s.prSet l x).lane k).ecc = (s.lane k).ecc := by cases l <;> cases k <;> rfl

@[simp] theorem State.prSet_lane_cores (s : State) (l : LaneId) (x : LanePair) (k : LaneId) :
    ((s.prSet l x).lane k).cores = (s.lane k).cores := by cases l <;> cases k <;> rfl

@[simp] theorem State.prSet_lane_fe (s : State) (l : LaneId) (x : LanePair) (k : LaneId) :
    ((s.prSet l x).lane k).fe = (s.lane k).fe := by cases l <;> cases k <;> rfl

@[simp] theorem State.prSet_lane_tick (s : State) (l : LaneId) (x : LanePair) (k : LaneId) :
    ((s.prSet l x).lane k).tick = (s.lane k).tick := by cases l <;> cases k <;> rfl

@[simp] theorem State.prSet_lane_xch (s : State) (l : LaneId) (x : LanePair) (k : LaneId) :
    ((s.prSet l x).lane k).xch = (s.lane k).xch := by cases l <;> cases k <;> rfl

@[simp] theorem State.prSet_lane_prog (s : State) (l : LaneId) (x : LanePair) (k : LaneId) :
    ((s.prSet l x).lane k).prog = (s.lane k).prog := by cases l <;> cases k <;> rfl

@[simp] theorem State.prSet_lane_newProg (s : State) (l : LaneId) (x : LanePair) (k : LaneId) :
    ((s.prSet l x).lane k).newProg = (s.lane k).newProg := by cases l <;> cases k <;> rfl

@[simp] theorem State.prSet_lane_admission (s : State) (l : LaneId) (x : LanePair) (k : LaneId) :
    ((s.prSet l x).lane k).admission = (s.lane k).admission := by cases l <;> cases k <;> rfl

@[simp] theorem State.prSet_lane_carried (s : State) (l : LaneId) (x : LanePair) (k : LaneId) :
    ((s.prSet l x).lane k).carried = (s.lane k).carried := by cases l <;> cases k <;> rfl

@[simp] theorem State.prSet_lane_carryFail (s : State) (l : LaneId) (x : LanePair) (k : LaneId) :
    ((s.prSet l x).lane k).carryFail = (s.lane k).carryFail := by cases l <;> cases k <;> rfl

@[simp] theorem State.prSet_lane_switchRec (s : State) (l : LaneId) (x : LanePair) (k : LaneId) :
    ((s.prSet l x).lane k).switchRec = (s.lane k).switchRec := by cases l <;> cases k <;> rfl

@[simp] theorem State.prSet_lane_sum (s : State) (l : LaneId) (x : LanePair) (k : LaneId) :
    ((s.prSet l x).lane k).sum = (s.lane k).sum := by cases l <;> cases k <;> rfl

@[simp] theorem State.prSet_lane_ret (s : State) (l : LaneId) (x : LanePair) (k : LaneId) :
    ((s.prSet l x).lane k).ret = (s.lane k).ret := by cases l <;> cases k <;> rfl

@[simp] theorem State.prSet_lane_brg (s : State) (l : LaneId) (x : LanePair) (k : LaneId) :
    ((s.prSet l x).lane k).brg = (s.lane k).brg := by cases l <;> cases k <;> rfl

@[simp] theorem State.prSet_lane_book (s : State) (l : LaneId) (x : LanePair) (k : LaneId) :
    ((s.prSet l x).lane k).book = (s.lane k).book := by cases l <;> cases k <;> rfl

@[simp] theorem State.prSet_lane_coop (s : State) (l : LaneId) (x : LanePair) (k : LaneId) :
    ((s.prSet l x).lane k).coop = (s.lane k).coop := by cases l <;> cases k <;> rfl

@[simp] theorem State.prSet_lane_claimed (s : State) (l : LaneId) (x : LanePair) (k : LaneId) :
    ((s.prSet l x).lane k).claimed = (s.lane k).claimed := by cases l <;> cases k <;> rfl

@[simp] theorem State.prSet_lane_restart (s : State) (l : LaneId) (x : LanePair) (k : LaneId) :
    ((s.prSet l x).lane k).restart = (s.lane k).restart := by cases l <;> cases k <;> rfl

@[simp] theorem State.prSet_lane_out (s : State) (l : LaneId) (x : LanePair) (k : LaneId) :
    ((s.prSet l x).lane k).out = (s.lane k).out := by cases l <;> cases k <;> rfl

@[simp] theorem State.prSet_lane_cfgDue (s : State) (l : LaneId) (x : LanePair) (k : LaneId) :
    ((s.prSet l x).lane k).cfgDue = (s.lane k).cfgDue := by cases l <;> cases k <;> rfl

@[simp] theorem State.lf_prSet (s : State) (l : LaneId) (x : LanePair) (k : LaneId) (g : Fld) :
    (s.prSet l x).lf k g = s.lf k g := State.lf_congr (by simp) g

@[simp] theorem State.hf_prSet (s : State) (l : LaneId) (x : LanePair) (g : Fld) :
    (s.prSet l x).hf g = s.hf g := by cases l <;> rfl

/-! ### brgUpd -/

@[simp] theorem State.brgUpd_hub (s : State) (l : LaneId) (f : LaneBrg → LaneBrg) :
    (s.brgUpd l f).hub = s.hub := by cases l <;> rfl

@[simp] theorem State.brgUpd_pde (s : State) (l : LaneId) (f : LaneBrg → LaneBrg) :
    (s.brgUpd l f).pde = s.pde := by cases l <;> rfl

@[simp] theorem State.brgUpd_v1 (s : State) (l : LaneId) (f : LaneBrg → LaneBrg) :
    (s.brgUpd l f).v1 = s.v1 := by cases l <;> rfl

@[simp] theorem State.brgUpd_book (s : State) (l : LaneId) (f : LaneBrg → LaneBrg) :
    (s.brgUpd l f).book = s.book := by cases l <;> rfl

@[simp] theorem State.brgUpd_sup (s : State) (l : LaneId) (f : LaneBrg → LaneBrg) :
    (s.brgUpd l f).sup = s.sup := by cases l <;> rfl

@[simp] theorem State.brgUpd_md (s : State) (l : LaneId) (f : LaneBrg → LaneBrg) :
    (s.brgUpd l f).md = s.md := by cases l <;> rfl

@[simp] theorem State.brgUpd_rack (s : State) (l : LaneId) (f : LaneBrg → LaneBrg) :
    (s.brgUpd l f).rack = s.rack := by cases l <;> rfl

@[simp] theorem State.brgUpd_store (s : State) (l : LaneId) (f : LaneBrg → LaneBrg) :
    (s.brgUpd l f).store = s.store := by cases l <;> rfl

@[simp] theorem State.brgUpd_dict (s : State) (l : LaneId) (f : LaneBrg → LaneBrg) :
    (s.brgUpd l f).dict = s.dict := by cases l <;> rfl

@[simp] theorem State.brgUpd_svc (s : State) (l : LaneId) (f : LaneBrg → LaneBrg) :
    (s.brgUpd l f).svc = s.svc := by cases l <;> rfl

@[simp] theorem State.brgUpd_partners (s : State) (l : LaneId) (f : LaneBrg → LaneBrg) :
    (s.brgUpd l f).partners = s.partners := by cases l <;> rfl

@[simp] theorem State.brgUpd_net (s : State) (l : LaneId) (f : LaneBrg → LaneBrg) :
    (s.brgUpd l f).net = s.net := by cases l <;> rfl

@[simp] theorem State.brgUpd_can (s : State) (l : LaneId) (f : LaneBrg → LaneBrg) :
    (s.brgUpd l f).can = s.can := by cases l <;> rfl

@[simp] theorem State.brgUpd_tb (s : State) (l : LaneId) (f : LaneBrg → LaneBrg) :
    (s.brgUpd l f).tb = s.tb := by cases l <;> rfl

@[simp] theorem State.brgUpd_fld (s : State) (l : LaneId) (f : LaneBrg → LaneBrg) :
    (s.brgUpd l f).fld = s.fld := by cases l <;> rfl

@[simp] theorem State.brgUpd_coo (s : State) (l : LaneId) (f : LaneBrg → LaneBrg) :
    (s.brgUpd l f).coo = s.coo := by cases l <;> rfl

@[simp] theorem State.brgUpd_tx (s : State) (l : LaneId) (f : LaneBrg → LaneBrg) :
    (s.brgUpd l f).tx = s.tx := by cases l <;> rfl

@[simp] theorem State.brgUpd_freeCtr (s : State) (l : LaneId) (f : LaneBrg → LaneBrg) :
    (s.brgUpd l f).freeCtr = s.freeCtr := by cases l <;> rfl

@[simp] theorem State.brgUpd_lane_supplied (s : State) (l : LaneId) (f : LaneBrg → LaneBrg) (k : LaneId) :
    ((s.brgUpd l f).lane k).supplied = (s.lane k).supplied := by cases l <;> cases k <;> rfl

@[simp] theorem State.brgUpd_lane_regs (s : State) (l : LaneId) (f : LaneBrg → LaneBrg) (k : LaneId) :
    ((s.brgUpd l f).lane k).regs = (s.lane k).regs := by cases l <;> cases k <;> rfl

@[simp] theorem State.brgUpd_lane_mem (s : State) (l : LaneId) (f : LaneBrg → LaneBrg) (k : LaneId) :
    ((s.brgUpd l f).lane k).mem = (s.lane k).mem := by cases l <;> cases k <;> rfl

@[simp] theorem State.brgUpd_lane_ecc (s : State) (l : LaneId) (f : LaneBrg → LaneBrg) (k : LaneId) :
    ((s.brgUpd l f).lane k).ecc = (s.lane k).ecc := by cases l <;> cases k <;> rfl

@[simp] theorem State.brgUpd_lane_cores (s : State) (l : LaneId) (f : LaneBrg → LaneBrg) (k : LaneId) :
    ((s.brgUpd l f).lane k).cores = (s.lane k).cores := by cases l <;> cases k <;> rfl

@[simp] theorem State.brgUpd_lane_fe (s : State) (l : LaneId) (f : LaneBrg → LaneBrg) (k : LaneId) :
    ((s.brgUpd l f).lane k).fe = (s.lane k).fe := by cases l <;> cases k <;> rfl

@[simp] theorem State.brgUpd_lane_tick (s : State) (l : LaneId) (f : LaneBrg → LaneBrg) (k : LaneId) :
    ((s.brgUpd l f).lane k).tick = (s.lane k).tick := by cases l <;> cases k <;> rfl

@[simp] theorem State.brgUpd_lane_xch (s : State) (l : LaneId) (f : LaneBrg → LaneBrg) (k : LaneId) :
    ((s.brgUpd l f).lane k).xch = (s.lane k).xch := by cases l <;> cases k <;> rfl

@[simp] theorem State.brgUpd_lane_rt (s : State) (l : LaneId) (f : LaneBrg → LaneBrg) (k : LaneId) :
    ((s.brgUpd l f).lane k).rt = (s.lane k).rt := by cases l <;> cases k <;> rfl

@[simp] theorem State.brgUpd_lane_prog (s : State) (l : LaneId) (f : LaneBrg → LaneBrg) (k : LaneId) :
    ((s.brgUpd l f).lane k).prog = (s.lane k).prog := by cases l <;> cases k <;> rfl

@[simp] theorem State.brgUpd_lane_newProg (s : State) (l : LaneId) (f : LaneBrg → LaneBrg) (k : LaneId) :
    ((s.brgUpd l f).lane k).newProg = (s.lane k).newProg := by cases l <;> cases k <;> rfl

@[simp] theorem State.brgUpd_lane_admission (s : State) (l : LaneId) (f : LaneBrg → LaneBrg) (k : LaneId) :
    ((s.brgUpd l f).lane k).admission = (s.lane k).admission := by cases l <;> cases k <;> rfl

@[simp] theorem State.brgUpd_lane_carried (s : State) (l : LaneId) (f : LaneBrg → LaneBrg) (k : LaneId) :
    ((s.brgUpd l f).lane k).carried = (s.lane k).carried := by cases l <;> cases k <;> rfl

@[simp] theorem State.brgUpd_lane_carryFail (s : State) (l : LaneId) (f : LaneBrg → LaneBrg) (k : LaneId) :
    ((s.brgUpd l f).lane k).carryFail = (s.lane k).carryFail := by cases l <;> cases k <;> rfl

@[simp] theorem State.brgUpd_lane_switchRec (s : State) (l : LaneId) (f : LaneBrg → LaneBrg) (k : LaneId) :
    ((s.brgUpd l f).lane k).switchRec = (s.lane k).switchRec := by cases l <;> cases k <;> rfl

@[simp] theorem State.brgUpd_lane_sum (s : State) (l : LaneId) (f : LaneBrg → LaneBrg) (k : LaneId) :
    ((s.brgUpd l f).lane k).sum = (s.lane k).sum := by cases l <;> cases k <;> rfl

@[simp] theorem State.brgUpd_lane_ret (s : State) (l : LaneId) (f : LaneBrg → LaneBrg) (k : LaneId) :
    ((s.brgUpd l f).lane k).ret = (s.lane k).ret := by cases l <;> cases k <;> rfl

@[simp] theorem State.brgUpd_lane_book (s : State) (l : LaneId) (f : LaneBrg → LaneBrg) (k : LaneId) :
    ((s.brgUpd l f).lane k).book = (s.lane k).book := by cases l <;> cases k <;> rfl

@[simp] theorem State.brgUpd_lane_coop (s : State) (l : LaneId) (f : LaneBrg → LaneBrg) (k : LaneId) :
    ((s.brgUpd l f).lane k).coop = (s.lane k).coop := by cases l <;> cases k <;> rfl

@[simp] theorem State.brgUpd_lane_claimed (s : State) (l : LaneId) (f : LaneBrg → LaneBrg) (k : LaneId) :
    ((s.brgUpd l f).lane k).claimed = (s.lane k).claimed := by cases l <;> cases k <;> rfl

@[simp] theorem State.brgUpd_lane_restart (s : State) (l : LaneId) (f : LaneBrg → LaneBrg) (k : LaneId) :
    ((s.brgUpd l f).lane k).restart = (s.lane k).restart := by cases l <;> cases k <;> rfl

@[simp] theorem State.brgUpd_lane_out (s : State) (l : LaneId) (f : LaneBrg → LaneBrg) (k : LaneId) :
    ((s.brgUpd l f).lane k).out = (s.lane k).out := by cases l <;> cases k <;> rfl

@[simp] theorem State.brgUpd_lane_cfgDue (s : State) (l : LaneId) (f : LaneBrg → LaneBrg) (k : LaneId) :
    ((s.brgUpd l f).lane k).cfgDue = (s.lane k).cfgDue := by cases l <;> cases k <;> rfl

@[simp] theorem State.lf_brgUpd (s : State) (l : LaneId) (f : LaneBrg → LaneBrg) (k : LaneId) (g : Fld) :
    (s.brgUpd l f).lf k g = s.lf k g := State.lf_congr (by simp) g

@[simp] theorem State.hf_brgUpd (s : State) (l : LaneId) (f : LaneBrg → LaneBrg) (g : Fld) :
    (s.brgUpd l f).hf g = s.hf g := by cases l <;> rfl

/-! ### tickUpd -/

@[simp] theorem State.tickUpd_hub (s : State) (l : LaneId) (f : LaneTick → LaneTick) :
    (s.tickUpd l f).hub = s.hub := by cases l <;> rfl

@[simp] theorem State.tickUpd_pde (s : State) (l : LaneId) (f : LaneTick → LaneTick) :
    (s.tickUpd l f).pde = s.pde := by cases l <;> rfl

@[simp] theorem State.tickUpd_v1 (s : State) (l : LaneId) (f : LaneTick → LaneTick) :
    (s.tickUpd l f).v1 = s.v1 := by cases l <;> rfl

@[simp] theorem State.tickUpd_book (s : State) (l : LaneId) (f : LaneTick → LaneTick) :
    (s.tickUpd l f).book = s.book := by cases l <;> rfl

@[simp] theorem State.tickUpd_sup (s : State) (l : LaneId) (f : LaneTick → LaneTick) :
    (s.tickUpd l f).sup = s.sup := by cases l <;> rfl

@[simp] theorem State.tickUpd_md (s : State) (l : LaneId) (f : LaneTick → LaneTick) :
    (s.tickUpd l f).md = s.md := by cases l <;> rfl

@[simp] theorem State.tickUpd_rack (s : State) (l : LaneId) (f : LaneTick → LaneTick) :
    (s.tickUpd l f).rack = s.rack := by cases l <;> rfl

@[simp] theorem State.tickUpd_store (s : State) (l : LaneId) (f : LaneTick → LaneTick) :
    (s.tickUpd l f).store = s.store := by cases l <;> rfl

@[simp] theorem State.tickUpd_dict (s : State) (l : LaneId) (f : LaneTick → LaneTick) :
    (s.tickUpd l f).dict = s.dict := by cases l <;> rfl

@[simp] theorem State.tickUpd_svc (s : State) (l : LaneId) (f : LaneTick → LaneTick) :
    (s.tickUpd l f).svc = s.svc := by cases l <;> rfl

@[simp] theorem State.tickUpd_partners (s : State) (l : LaneId) (f : LaneTick → LaneTick) :
    (s.tickUpd l f).partners = s.partners := by cases l <;> rfl

@[simp] theorem State.tickUpd_net (s : State) (l : LaneId) (f : LaneTick → LaneTick) :
    (s.tickUpd l f).net = s.net := by cases l <;> rfl

@[simp] theorem State.tickUpd_can (s : State) (l : LaneId) (f : LaneTick → LaneTick) :
    (s.tickUpd l f).can = s.can := by cases l <;> rfl

@[simp] theorem State.tickUpd_tb (s : State) (l : LaneId) (f : LaneTick → LaneTick) :
    (s.tickUpd l f).tb = s.tb := by cases l <;> rfl

@[simp] theorem State.tickUpd_fld (s : State) (l : LaneId) (f : LaneTick → LaneTick) :
    (s.tickUpd l f).fld = s.fld := by cases l <;> rfl

@[simp] theorem State.tickUpd_coo (s : State) (l : LaneId) (f : LaneTick → LaneTick) :
    (s.tickUpd l f).coo = s.coo := by cases l <;> rfl

@[simp] theorem State.tickUpd_tx (s : State) (l : LaneId) (f : LaneTick → LaneTick) :
    (s.tickUpd l f).tx = s.tx := by cases l <;> rfl

@[simp] theorem State.tickUpd_freeCtr (s : State) (l : LaneId) (f : LaneTick → LaneTick) :
    (s.tickUpd l f).freeCtr = s.freeCtr := by cases l <;> rfl

@[simp] theorem State.tickUpd_lane_supplied (s : State) (l : LaneId) (f : LaneTick → LaneTick) (k : LaneId) :
    ((s.tickUpd l f).lane k).supplied = (s.lane k).supplied := by cases l <;> cases k <;> rfl

@[simp] theorem State.tickUpd_lane_regs (s : State) (l : LaneId) (f : LaneTick → LaneTick) (k : LaneId) :
    ((s.tickUpd l f).lane k).regs = (s.lane k).regs := by cases l <;> cases k <;> rfl

@[simp] theorem State.tickUpd_lane_mem (s : State) (l : LaneId) (f : LaneTick → LaneTick) (k : LaneId) :
    ((s.tickUpd l f).lane k).mem = (s.lane k).mem := by cases l <;> cases k <;> rfl

@[simp] theorem State.tickUpd_lane_ecc (s : State) (l : LaneId) (f : LaneTick → LaneTick) (k : LaneId) :
    ((s.tickUpd l f).lane k).ecc = (s.lane k).ecc := by cases l <;> cases k <;> rfl

@[simp] theorem State.tickUpd_lane_cores (s : State) (l : LaneId) (f : LaneTick → LaneTick) (k : LaneId) :
    ((s.tickUpd l f).lane k).cores = (s.lane k).cores := by cases l <;> cases k <;> rfl

@[simp] theorem State.tickUpd_lane_fe (s : State) (l : LaneId) (f : LaneTick → LaneTick) (k : LaneId) :
    ((s.tickUpd l f).lane k).fe = (s.lane k).fe := by cases l <;> cases k <;> rfl

@[simp] theorem State.tickUpd_lane_xch (s : State) (l : LaneId) (f : LaneTick → LaneTick) (k : LaneId) :
    ((s.tickUpd l f).lane k).xch = (s.lane k).xch := by cases l <;> cases k <;> rfl

@[simp] theorem State.tickUpd_lane_rt (s : State) (l : LaneId) (f : LaneTick → LaneTick) (k : LaneId) :
    ((s.tickUpd l f).lane k).rt = (s.lane k).rt := by cases l <;> cases k <;> rfl

@[simp] theorem State.tickUpd_lane_prog (s : State) (l : LaneId) (f : LaneTick → LaneTick) (k : LaneId) :
    ((s.tickUpd l f).lane k).prog = (s.lane k).prog := by cases l <;> cases k <;> rfl

@[simp] theorem State.tickUpd_lane_newProg (s : State) (l : LaneId) (f : LaneTick → LaneTick) (k : LaneId) :
    ((s.tickUpd l f).lane k).newProg = (s.lane k).newProg := by cases l <;> cases k <;> rfl

@[simp] theorem State.tickUpd_lane_admission (s : State) (l : LaneId) (f : LaneTick → LaneTick) (k : LaneId) :
    ((s.tickUpd l f).lane k).admission = (s.lane k).admission := by cases l <;> cases k <;> rfl

@[simp] theorem State.tickUpd_lane_carried (s : State) (l : LaneId) (f : LaneTick → LaneTick) (k : LaneId) :
    ((s.tickUpd l f).lane k).carried = (s.lane k).carried := by cases l <;> cases k <;> rfl

@[simp] theorem State.tickUpd_lane_carryFail (s : State) (l : LaneId) (f : LaneTick → LaneTick) (k : LaneId) :
    ((s.tickUpd l f).lane k).carryFail = (s.lane k).carryFail := by cases l <;> cases k <;> rfl

@[simp] theorem State.tickUpd_lane_switchRec (s : State) (l : LaneId) (f : LaneTick → LaneTick) (k : LaneId) :
    ((s.tickUpd l f).lane k).switchRec = (s.lane k).switchRec := by cases l <;> cases k <;> rfl

@[simp] theorem State.tickUpd_lane_sum (s : State) (l : LaneId) (f : LaneTick → LaneTick) (k : LaneId) :
    ((s.tickUpd l f).lane k).sum = (s.lane k).sum := by cases l <;> cases k <;> rfl

@[simp] theorem State.tickUpd_lane_ret (s : State) (l : LaneId) (f : LaneTick → LaneTick) (k : LaneId) :
    ((s.tickUpd l f).lane k).ret = (s.lane k).ret := by cases l <;> cases k <;> rfl

@[simp] theorem State.tickUpd_lane_brg (s : State) (l : LaneId) (f : LaneTick → LaneTick) (k : LaneId) :
    ((s.tickUpd l f).lane k).brg = (s.lane k).brg := by cases l <;> cases k <;> rfl

@[simp] theorem State.tickUpd_lane_book (s : State) (l : LaneId) (f : LaneTick → LaneTick) (k : LaneId) :
    ((s.tickUpd l f).lane k).book = (s.lane k).book := by cases l <;> cases k <;> rfl

@[simp] theorem State.tickUpd_lane_coop (s : State) (l : LaneId) (f : LaneTick → LaneTick) (k : LaneId) :
    ((s.tickUpd l f).lane k).coop = (s.lane k).coop := by cases l <;> cases k <;> rfl

@[simp] theorem State.tickUpd_lane_claimed (s : State) (l : LaneId) (f : LaneTick → LaneTick) (k : LaneId) :
    ((s.tickUpd l f).lane k).claimed = (s.lane k).claimed := by cases l <;> cases k <;> rfl

@[simp] theorem State.tickUpd_lane_restart (s : State) (l : LaneId) (f : LaneTick → LaneTick) (k : LaneId) :
    ((s.tickUpd l f).lane k).restart = (s.lane k).restart := by cases l <;> cases k <;> rfl

@[simp] theorem State.tickUpd_lane_out (s : State) (l : LaneId) (f : LaneTick → LaneTick) (k : LaneId) :
    ((s.tickUpd l f).lane k).out = (s.lane k).out := by cases l <;> cases k <;> rfl

@[simp] theorem State.tickUpd_lane_cfgDue (s : State) (l : LaneId) (f : LaneTick → LaneTick) (k : LaneId) :
    ((s.tickUpd l f).lane k).cfgDue = (s.lane k).cfgDue := by cases l <;> cases k <;> rfl

@[simp] theorem State.lf_tickUpd (s : State) (l : LaneId) (f : LaneTick → LaneTick) (k : LaneId) (g : Fld) :
    (s.tickUpd l f).lf k g = s.lf k g := State.lf_congr (by simp) g

@[simp] theorem State.hf_tickUpd (s : State) (l : LaneId) (f : LaneTick → LaneTick) (g : Fld) :
    (s.tickUpd l f).hf g = s.hf g := by cases l <;> rfl

/-! ### withhold -/

@[simp] theorem State.withhold_hub (s : State) (l : LaneId) (c : Nat) :
    (s.withhold l c).hub = s.hub := by cases l <;> rfl

@[simp] theorem State.withhold_pde (s : State) (l : LaneId) (c : Nat) :
    (s.withhold l c).pde = s.pde := by cases l <;> rfl

@[simp] theorem State.withhold_v1 (s : State) (l : LaneId) (c : Nat) :
    (s.withhold l c).v1 = s.v1 := by cases l <;> rfl

@[simp] theorem State.withhold_book (s : State) (l : LaneId) (c : Nat) :
    (s.withhold l c).book = s.book := by cases l <;> rfl

@[simp] theorem State.withhold_sup (s : State) (l : LaneId) (c : Nat) :
    (s.withhold l c).sup = s.sup := by cases l <;> rfl

@[simp] theorem State.withhold_md (s : State) (l : LaneId) (c : Nat) :
    (s.withhold l c).md = s.md := by cases l <;> rfl

@[simp] theorem State.withhold_rack (s : State) (l : LaneId) (c : Nat) :
    (s.withhold l c).rack = s.rack := by cases l <;> rfl

@[simp] theorem State.withhold_store (s : State) (l : LaneId) (c : Nat) :
    (s.withhold l c).store = s.store := by cases l <;> rfl

@[simp] theorem State.withhold_dict (s : State) (l : LaneId) (c : Nat) :
    (s.withhold l c).dict = s.dict := by cases l <;> rfl

@[simp] theorem State.withhold_svc (s : State) (l : LaneId) (c : Nat) :
    (s.withhold l c).svc = s.svc := by cases l <;> rfl

@[simp] theorem State.withhold_partners (s : State) (l : LaneId) (c : Nat) :
    (s.withhold l c).partners = s.partners := by cases l <;> rfl

@[simp] theorem State.withhold_net (s : State) (l : LaneId) (c : Nat) :
    (s.withhold l c).net = s.net := by cases l <;> rfl

@[simp] theorem State.withhold_can (s : State) (l : LaneId) (c : Nat) :
    (s.withhold l c).can = s.can := by cases l <;> rfl

@[simp] theorem State.withhold_tb (s : State) (l : LaneId) (c : Nat) :
    (s.withhold l c).tb = s.tb := by cases l <;> rfl

@[simp] theorem State.withhold_fld (s : State) (l : LaneId) (c : Nat) :
    (s.withhold l c).fld = s.fld := by cases l <;> rfl

@[simp] theorem State.withhold_coo (s : State) (l : LaneId) (c : Nat) :
    (s.withhold l c).coo = s.coo := by cases l <;> rfl

@[simp] theorem State.withhold_tx (s : State) (l : LaneId) (c : Nat) :
    (s.withhold l c).tx = s.tx := by cases l <;> rfl

@[simp] theorem State.withhold_freeCtr (s : State) (l : LaneId) (c : Nat) :
    (s.withhold l c).freeCtr = s.freeCtr := by cases l <;> rfl

@[simp] theorem State.withhold_lane_supplied (s : State) (l : LaneId) (c : Nat) (k : LaneId) :
    ((s.withhold l c).lane k).supplied = (s.lane k).supplied := by cases l <;> cases k <;> rfl

@[simp] theorem State.withhold_lane_regs (s : State) (l : LaneId) (c : Nat) (k : LaneId) :
    ((s.withhold l c).lane k).regs = (s.lane k).regs := by cases l <;> cases k <;> rfl

@[simp] theorem State.withhold_lane_mem (s : State) (l : LaneId) (c : Nat) (k : LaneId) :
    ((s.withhold l c).lane k).mem = (s.lane k).mem := by cases l <;> cases k <;> rfl

@[simp] theorem State.withhold_lane_ecc (s : State) (l : LaneId) (c : Nat) (k : LaneId) :
    ((s.withhold l c).lane k).ecc = (s.lane k).ecc := by cases l <;> cases k <;> rfl

@[simp] theorem State.withhold_lane_cores (s : State) (l : LaneId) (c : Nat) (k : LaneId) :
    ((s.withhold l c).lane k).cores = (s.lane k).cores := by cases l <;> cases k <;> rfl

@[simp] theorem State.withhold_lane_fe (s : State) (l : LaneId) (c : Nat) (k : LaneId) :
    ((s.withhold l c).lane k).fe = (s.lane k).fe := by cases l <;> cases k <;> rfl

@[simp] theorem State.withhold_lane_tick (s : State) (l : LaneId) (c : Nat) (k : LaneId) :
    ((s.withhold l c).lane k).tick = (s.lane k).tick := by cases l <;> cases k <;> rfl

@[simp] theorem State.withhold_lane_xch (s : State) (l : LaneId) (c : Nat) (k : LaneId) :
    ((s.withhold l c).lane k).xch = (s.lane k).xch := by cases l <;> cases k <;> rfl

@[simp] theorem State.withhold_lane_prog (s : State) (l : LaneId) (c : Nat) (k : LaneId) :
    ((s.withhold l c).lane k).prog = (s.lane k).prog := by cases l <;> cases k <;> rfl

@[simp] theorem State.withhold_lane_newProg (s : State) (l : LaneId) (c : Nat) (k : LaneId) :
    ((s.withhold l c).lane k).newProg = (s.lane k).newProg := by cases l <;> cases k <;> rfl

@[simp] theorem State.withhold_lane_admission (s : State) (l : LaneId) (c : Nat) (k : LaneId) :
    ((s.withhold l c).lane k).admission = (s.lane k).admission := by cases l <;> cases k <;> rfl

@[simp] theorem State.withhold_lane_carried (s : State) (l : LaneId) (c : Nat) (k : LaneId) :
    ((s.withhold l c).lane k).carried = (s.lane k).carried := by cases l <;> cases k <;> rfl

@[simp] theorem State.withhold_lane_carryFail (s : State) (l : LaneId) (c : Nat) (k : LaneId) :
    ((s.withhold l c).lane k).carryFail = (s.lane k).carryFail := by cases l <;> cases k <;> rfl

@[simp] theorem State.withhold_lane_switchRec (s : State) (l : LaneId) (c : Nat) (k : LaneId) :
    ((s.withhold l c).lane k).switchRec = (s.lane k).switchRec := by cases l <;> cases k <;> rfl

@[simp] theorem State.withhold_lane_sum (s : State) (l : LaneId) (c : Nat) (k : LaneId) :
    ((s.withhold l c).lane k).sum = (s.lane k).sum := by cases l <;> cases k <;> rfl

@[simp] theorem State.withhold_lane_ret (s : State) (l : LaneId) (c : Nat) (k : LaneId) :
    ((s.withhold l c).lane k).ret = (s.lane k).ret := by cases l <;> cases k <;> rfl

@[simp] theorem State.withhold_lane_brg (s : State) (l : LaneId) (c : Nat) (k : LaneId) :
    ((s.withhold l c).lane k).brg = (s.lane k).brg := by cases l <;> cases k <;> rfl

@[simp] theorem State.withhold_lane_book (s : State) (l : LaneId) (c : Nat) (k : LaneId) :
    ((s.withhold l c).lane k).book = (s.lane k).book := by cases l <;> cases k <;> rfl

@[simp] theorem State.withhold_lane_coop (s : State) (l : LaneId) (c : Nat) (k : LaneId) :
    ((s.withhold l c).lane k).coop = (s.lane k).coop := by cases l <;> cases k <;> rfl

@[simp] theorem State.withhold_lane_claimed (s : State) (l : LaneId) (c : Nat) (k : LaneId) :
    ((s.withhold l c).lane k).claimed = (s.lane k).claimed := by cases l <;> cases k <;> rfl

@[simp] theorem State.withhold_lane_restart (s : State) (l : LaneId) (c : Nat) (k : LaneId) :
    ((s.withhold l c).lane k).restart = (s.lane k).restart := by cases l <;> cases k <;> rfl

@[simp] theorem State.withhold_lane_out (s : State) (l : LaneId) (c : Nat) (k : LaneId) :
    ((s.withhold l c).lane k).out = (s.lane k).out := by cases l <;> cases k <;> rfl

@[simp] theorem State.withhold_lane_cfgDue (s : State) (l : LaneId) (c : Nat) (k : LaneId) :
    ((s.withhold l c).lane k).cfgDue = (s.lane k).cfgDue := by cases l <;> cases k <;> rfl

@[simp] theorem State.lf_withhold (s : State) (l : LaneId) (c : Nat) (k : LaneId) (g : Fld) :
    (s.withhold l c).lf k g = s.lf k g := State.lf_congr (by simp) g

@[simp] theorem State.hf_withhold (s : State) (l : LaneId) (c : Nat) (g : Fld) :
    (s.withhold l c).hf g = s.hf g := by cases l <;> rfl

@[simp] theorem State.brgUpd_lane_brg (s : State) (l k : LaneId) (f : LaneBrg → LaneBrg) :
    ((s.brgUpd l f).lane k).brg = if k = l then f (s.lane l).brg else (s.lane k).brg := by cases l <;> cases k <;> rfl

@[simp] theorem State.tickUpd_lane_tick (s : State) (l k : LaneId) (f : LaneTick → LaneTick) :
    ((s.tickUpd l f).lane k).tick = if k = l then f (s.lane l).tick else (s.lane k).tick := by cases l <;> cases k <;> rfl

@[simp] theorem State.station_stationSet_same (s : State) (l : LaneId) (n : Nat) (x : StationRec) :
    (s.stationSet l n x).station l n = x := by simp [State.station, State.stationSet]

@[simp] theorem State.core_coreSet_same (s : State) (l : LaneId) (c : Nat) (x : CoreState) :
    (s.coreSet l c x).core l c = x := by simp [State.core, State.coreSet]

/-! ### chanUpd -/

@[simp] theorem State.chanUpd_laneA (s : State) (c : Nat) (f : Chan → Chan) :
    (s.chanUpd c f).laneA = s.laneA := rfl

@[simp] theorem State.chanUpd_laneB (s : State) (c : Nat) (f : Chan → Chan) :
    (s.chanUpd c f).laneB = s.laneB := rfl

@[simp] theorem State.chanUpd_laneC (s : State) (c : Nat) (f : Chan → Chan) :
    (s.chanUpd c f).laneC = s.laneC := rfl

@[simp] theorem State.chanUpd_hub (s : State) (c : Nat) (f : Chan → Chan) :
    (s.chanUpd c f).hub = s.hub := rfl

@[simp] theorem State.chanUpd_v1 (s : State) (c : Nat) (f : Chan → Chan) :
    (s.chanUpd c f).v1 = s.v1 := rfl

@[simp] theorem State.chanUpd_book (s : State) (c : Nat) (f : Chan → Chan) :
    (s.chanUpd c f).book = s.book := rfl

@[simp] theorem State.chanUpd_sup (s : State) (c : Nat) (f : Chan → Chan) :
    (s.chanUpd c f).sup = s.sup := rfl

@[simp] theorem State.chanUpd_md (s : State) (c : Nat) (f : Chan → Chan) :
    (s.chanUpd c f).md = s.md := rfl

@[simp] theorem State.chanUpd_rack (s : State) (c : Nat) (f : Chan → Chan) :
    (s.chanUpd c f).rack = s.rack := rfl

@[simp] theorem State.chanUpd_store (s : State) (c : Nat) (f : Chan → Chan) :
    (s.chanUpd c f).store = s.store := rfl

@[simp] theorem State.chanUpd_dict (s : State) (c : Nat) (f : Chan → Chan) :
    (s.chanUpd c f).dict = s.dict := rfl

@[simp] theorem State.chanUpd_svc (s : State) (c : Nat) (f : Chan → Chan) :
    (s.chanUpd c f).svc = s.svc := rfl

@[simp] theorem State.chanUpd_partners (s : State) (c : Nat) (f : Chan → Chan) :
    (s.chanUpd c f).partners = s.partners := rfl

@[simp] theorem State.chanUpd_net (s : State) (c : Nat) (f : Chan → Chan) :
    (s.chanUpd c f).net = s.net := rfl

@[simp] theorem State.chanUpd_can (s : State) (c : Nat) (f : Chan → Chan) :
    (s.chanUpd c f).can = s.can := rfl

@[simp] theorem State.chanUpd_tb (s : State) (c : Nat) (f : Chan → Chan) :
    (s.chanUpd c f).tb = s.tb := rfl

@[simp] theorem State.chanUpd_fld (s : State) (c : Nat) (f : Chan → Chan) :
    (s.chanUpd c f).fld = s.fld := rfl

@[simp] theorem State.chanUpd_coo (s : State) (c : Nat) (f : Chan → Chan) :
    (s.chanUpd c f).coo = s.coo := rfl

@[simp] theorem State.chanUpd_tx (s : State) (c : Nat) (f : Chan → Chan) :
    (s.chanUpd c f).tx = s.tx := rfl

@[simp] theorem State.chanUpd_freeCtr (s : State) (c : Nat) (f : Chan → Chan) :
    (s.chanUpd c f).freeCtr = s.freeCtr := rfl

@[simp] theorem State.chanUpd_lane (s : State) (c : Nat) (f : Chan → Chan) (l : LaneId) :
    (s.chanUpd c f).lane l = s.lane l := by cases l <;> rfl

@[simp] theorem State.chanUpd_pde_regs (s : State) (c : Nat) (f : Chan → Chan) :
    (s.chanUpd c f).pde.regs = s.pde.regs := rfl

@[simp] theorem State.chanUpd_pde_vdone (s : State) (c : Nat) (f : Chan → Chan) :
    (s.chanUpd c f).pde.vdone = s.pde.vdone := rfl

@[simp] theorem State.chanUpd_pde_fetched (s : State) (c : Nat) (f : Chan → Chan) :
    (s.chanUpd c f).pde.fetched = s.pde.fetched := rfl

@[simp] theorem State.chanUpd_pde_armed (s : State) (c : Nat) (f : Chan → Chan) :
    (s.chanUpd c f).pde.armed = s.pde.armed := rfl

@[simp] theorem State.chanUpd_pde_relayArmed (s : State) (c : Nat) (f : Chan → Chan) :
    (s.chanUpd c f).pde.relayArmed = s.pde.relayArmed := rfl

@[simp] theorem State.lf_chanUpd (s : State) (c : Nat) (f : Chan → Chan) (l : LaneId) (g : Fld) :
    (s.chanUpd c f).lf l g = s.lf l g := State.lf_congr (by simp) g

@[simp] theorem State.hf_chanUpd (s : State) (c : Nat) (f : Chan → Chan) (g : Fld) :
    (s.chanUpd c f).hf g = s.hf g := by
  simp only [State.hf, State.hreg]
  unfold State.hubRegs
  cases hubBlock g.reg <;> rfl

/-! ### canUpd -/

@[simp] theorem State.canUpd_laneA (s : State) (c : Nat) (f : CanCh → CanCh) :
    (s.canUpd c f).laneA = s.laneA := rfl

@[simp] theorem State.canUpd_laneB (s : State) (c : Nat) (f : CanCh → CanCh) :
    (s.canUpd c f).laneB = s.laneB := rfl

@[simp] theorem State.canUpd_laneC (s : State) (c : Nat) (f : CanCh → CanCh) :
    (s.canUpd c f).laneC = s.laneC := rfl

@[simp] theorem State.canUpd_hub (s : State) (c : Nat) (f : CanCh → CanCh) :
    (s.canUpd c f).hub = s.hub := rfl

@[simp] theorem State.canUpd_pde (s : State) (c : Nat) (f : CanCh → CanCh) :
    (s.canUpd c f).pde = s.pde := rfl

@[simp] theorem State.canUpd_v1 (s : State) (c : Nat) (f : CanCh → CanCh) :
    (s.canUpd c f).v1 = s.v1 := rfl

@[simp] theorem State.canUpd_book (s : State) (c : Nat) (f : CanCh → CanCh) :
    (s.canUpd c f).book = s.book := rfl

@[simp] theorem State.canUpd_sup (s : State) (c : Nat) (f : CanCh → CanCh) :
    (s.canUpd c f).sup = s.sup := rfl

@[simp] theorem State.canUpd_md (s : State) (c : Nat) (f : CanCh → CanCh) :
    (s.canUpd c f).md = s.md := rfl

@[simp] theorem State.canUpd_rack (s : State) (c : Nat) (f : CanCh → CanCh) :
    (s.canUpd c f).rack = s.rack := rfl

@[simp] theorem State.canUpd_store (s : State) (c : Nat) (f : CanCh → CanCh) :
    (s.canUpd c f).store = s.store := rfl

@[simp] theorem State.canUpd_dict (s : State) (c : Nat) (f : CanCh → CanCh) :
    (s.canUpd c f).dict = s.dict := rfl

@[simp] theorem State.canUpd_svc (s : State) (c : Nat) (f : CanCh → CanCh) :
    (s.canUpd c f).svc = s.svc := rfl

@[simp] theorem State.canUpd_partners (s : State) (c : Nat) (f : CanCh → CanCh) :
    (s.canUpd c f).partners = s.partners := rfl

@[simp] theorem State.canUpd_net (s : State) (c : Nat) (f : CanCh → CanCh) :
    (s.canUpd c f).net = s.net := rfl

@[simp] theorem State.canUpd_tb (s : State) (c : Nat) (f : CanCh → CanCh) :
    (s.canUpd c f).tb = s.tb := rfl

@[simp] theorem State.canUpd_fld (s : State) (c : Nat) (f : CanCh → CanCh) :
    (s.canUpd c f).fld = s.fld := rfl

@[simp] theorem State.canUpd_coo (s : State) (c : Nat) (f : CanCh → CanCh) :
    (s.canUpd c f).coo = s.coo := rfl

@[simp] theorem State.canUpd_tx (s : State) (c : Nat) (f : CanCh → CanCh) :
    (s.canUpd c f).tx = s.tx := rfl

@[simp] theorem State.canUpd_freeCtr (s : State) (c : Nat) (f : CanCh → CanCh) :
    (s.canUpd c f).freeCtr = s.freeCtr := rfl

@[simp] theorem State.canUpd_lane (s : State) (c : Nat) (f : CanCh → CanCh) (l : LaneId) :
    (s.canUpd c f).lane l = s.lane l := by cases l <;> rfl

@[simp] theorem State.canUpd_can_regs (s : State) (c : Nat) (f : CanCh → CanCh) :
    (s.canUpd c f).can.regs = s.can.regs := rfl

@[simp] theorem State.lf_canUpd (s : State) (c : Nat) (f : CanCh → CanCh) (l : LaneId) (g : Fld) :
    (s.canUpd c f).lf l g = s.lf l g := State.lf_congr (by simp) g

@[simp] theorem State.hf_canUpd (s : State) (c : Nat) (f : CanCh → CanCh) (g : Fld) :
    (s.canUpd c f).hf g = s.hf g := by
  simp only [State.hf, State.hreg]
  unfold State.hubRegs
  cases hubBlock g.reg <;> rfl

/-! ### portUpd -/

@[simp] theorem State.portUpd_laneA (s : State) (p : Nat) (f : PortSt → PortSt) :
    (s.portUpd p f).laneA = s.laneA := rfl

@[simp] theorem State.portUpd_laneB (s : State) (p : Nat) (f : PortSt → PortSt) :
    (s.portUpd p f).laneB = s.laneB := rfl

@[simp] theorem State.portUpd_laneC (s : State) (p : Nat) (f : PortSt → PortSt) :
    (s.portUpd p f).laneC = s.laneC := rfl

@[simp] theorem State.portUpd_hub (s : State) (p : Nat) (f : PortSt → PortSt) :
    (s.portUpd p f).hub = s.hub := rfl

@[simp] theorem State.portUpd_pde (s : State) (p : Nat) (f : PortSt → PortSt) :
    (s.portUpd p f).pde = s.pde := rfl

@[simp] theorem State.portUpd_v1 (s : State) (p : Nat) (f : PortSt → PortSt) :
    (s.portUpd p f).v1 = s.v1 := rfl

@[simp] theorem State.portUpd_book (s : State) (p : Nat) (f : PortSt → PortSt) :
    (s.portUpd p f).book = s.book := rfl

@[simp] theorem State.portUpd_sup (s : State) (p : Nat) (f : PortSt → PortSt) :
    (s.portUpd p f).sup = s.sup := rfl

@[simp] theorem State.portUpd_md (s : State) (p : Nat) (f : PortSt → PortSt) :
    (s.portUpd p f).md = s.md := rfl

@[simp] theorem State.portUpd_rack (s : State) (p : Nat) (f : PortSt → PortSt) :
    (s.portUpd p f).rack = s.rack := rfl

@[simp] theorem State.portUpd_store (s : State) (p : Nat) (f : PortSt → PortSt) :
    (s.portUpd p f).store = s.store := rfl

@[simp] theorem State.portUpd_dict (s : State) (p : Nat) (f : PortSt → PortSt) :
    (s.portUpd p f).dict = s.dict := rfl

@[simp] theorem State.portUpd_svc (s : State) (p : Nat) (f : PortSt → PortSt) :
    (s.portUpd p f).svc = s.svc := rfl

@[simp] theorem State.portUpd_partners (s : State) (p : Nat) (f : PortSt → PortSt) :
    (s.portUpd p f).partners = s.partners := rfl

@[simp] theorem State.portUpd_can (s : State) (p : Nat) (f : PortSt → PortSt) :
    (s.portUpd p f).can = s.can := rfl

@[simp] theorem State.portUpd_tb (s : State) (p : Nat) (f : PortSt → PortSt) :
    (s.portUpd p f).tb = s.tb := rfl

@[simp] theorem State.portUpd_fld (s : State) (p : Nat) (f : PortSt → PortSt) :
    (s.portUpd p f).fld = s.fld := rfl

@[simp] theorem State.portUpd_coo (s : State) (p : Nat) (f : PortSt → PortSt) :
    (s.portUpd p f).coo = s.coo := rfl

@[simp] theorem State.portUpd_tx (s : State) (p : Nat) (f : PortSt → PortSt) :
    (s.portUpd p f).tx = s.tx := rfl

@[simp] theorem State.portUpd_freeCtr (s : State) (p : Nat) (f : PortSt → PortSt) :
    (s.portUpd p f).freeCtr = s.freeCtr := rfl

@[simp] theorem State.portUpd_lane (s : State) (p : Nat) (f : PortSt → PortSt) (l : LaneId) :
    (s.portUpd p f).lane l = s.lane l := by cases l <;> rfl

@[simp] theorem State.portUpd_net_regs (s : State) (p : Nat) (f : PortSt → PortSt) :
    (s.portUpd p f).net.regs = s.net.regs := rfl

@[simp] theorem State.portUpd_net_bank0 (s : State) (p : Nat) (f : PortSt → PortSt) :
    (s.portUpd p f).net.bank0 = s.net.bank0 := rfl

@[simp] theorem State.portUpd_net_bank1 (s : State) (p : Nat) (f : PortSt → PortSt) :
    (s.portUpd p f).net.bank1 = s.net.bank1 := rfl

@[simp] theorem State.portUpd_net_switchAt (s : State) (p : Nat) (f : PortSt → PortSt) :
    (s.portUpd p f).net.switchAt = s.net.switchAt := rfl

@[simp] theorem State.portUpd_net_nextB (s : State) (p : Nat) (f : PortSt → PortSt) :
    (s.portUpd p f).net.nextB = s.net.nextB := rfl

@[simp] theorem State.portUpd_net_matrix (s : State) (p : Nat) (f : PortSt → PortSt) :
    (s.portUpd p f).net.matrix = s.net.matrix := rfl

@[simp] theorem State.portUpd_net_started (s : State) (p : Nat) (f : PortSt → PortSt) :
    (s.portUpd p f).net.started = s.net.started := rfl

@[simp] theorem State.portUpd_net_claims (s : State) (p : Nat) (f : PortSt → PortSt) :
    (s.portUpd p f).net.claims = s.net.claims := rfl

@[simp] theorem State.portUpd_net_hrvOut (s : State) (p : Nat) (f : PortSt → PortSt) :
    (s.portUpd p f).net.hrvOut = s.net.hrvOut := rfl

@[simp] theorem State.portUpd_net_hrvIn (s : State) (p : Nat) (f : PortSt → PortSt) :
    (s.portUpd p f).net.hrvIn = s.net.hrvIn := rfl

@[simp] theorem State.portUpd_net_hrvOutstanding (s : State) (p : Nat) (f : PortSt → PortSt) :
    (s.portUpd p f).net.hrvOutstanding = s.net.hrvOutstanding := rfl

@[simp] theorem State.portUpd_net_hrvGot (s : State) (p : Nat) (f : PortSt → PortSt) :
    (s.portUpd p f).net.hrvGot = s.net.hrvGot := rfl

@[simp] theorem State.portUpd_net_hrvBack (s : State) (p : Nat) (f : PortSt → PortSt) :
    (s.portUpd p f).net.hrvBack = s.net.hrvBack := rfl

@[simp] theorem State.portUpd_net_healed (s : State) (p : Nat) (f : PortSt → PortSt) :
    (s.portUpd p f).net.healed = s.net.healed := rfl

@[simp] theorem State.portUpd_net_splitPasses (s : State) (p : Nat) (f : PortSt → PortSt) :
    (s.portUpd p f).net.splitPasses = s.net.splitPasses := rfl

@[simp] theorem State.portUpd_net_missing (s : State) (p : Nat) (f : PortSt → PortSt) :
    (s.portUpd p f).net.missing = s.net.missing := rfl

@[simp] theorem State.portUpd_net_trdpSeq (s : State) (p : Nat) (f : PortSt → PortSt) :
    (s.portUpd p f).net.trdpSeq = s.net.trdpSeq := rfl

@[simp] theorem State.portUpd_net_rtagSeq (s : State) (p : Nat) (f : PortSt → PortSt) :
    (s.portUpd p f).net.rtagSeq = s.net.rtagSeq := rfl

@[simp] theorem State.portUpd_net_recover (s : State) (p : Nat) (f : PortSt → PortSt) :
    (s.portUpd p f).net.recover = s.net.recover := rfl

@[simp] theorem State.lf_portUpd (s : State) (p : Nat) (f : PortSt → PortSt) (l : LaneId) (g : Fld) :
    (s.portUpd p f).lf l g = s.lf l g := State.lf_congr (by simp) g

@[simp] theorem State.hf_portUpd (s : State) (p : Nat) (f : PortSt → PortSt) (g : Fld) :
    (s.portUpd p f).hf g = s.hf g := by
  simp only [State.hf, State.hreg]
  unfold State.hubRegs
  cases hubBlock g.reg <;> rfl

/-! ### pwSet -/

@[simp] theorem State.pwSet_laneA (s : State) (f : Power → Power) :
    (s.pwSet f).laneA = s.laneA := rfl

@[simp] theorem State.pwSet_laneB (s : State) (f : Power → Power) :
    (s.pwSet f).laneB = s.laneB := rfl

@[simp] theorem State.pwSet_laneC (s : State) (f : Power → Power) :
    (s.pwSet f).laneC = s.laneC := rfl

@[simp] theorem State.pwSet_hub (s : State) (f : Power → Power) :
    (s.pwSet f).hub = s.hub := rfl

@[simp] theorem State.pwSet_pde (s : State) (f : Power → Power) :
    (s.pwSet f).pde = s.pde := rfl

@[simp] theorem State.pwSet_v1 (s : State) (f : Power → Power) :
    (s.pwSet f).v1 = s.v1 := rfl

@[simp] theorem State.pwSet_book (s : State) (f : Power → Power) :
    (s.pwSet f).book = s.book := rfl

@[simp] theorem State.pwSet_md (s : State) (f : Power → Power) :
    (s.pwSet f).md = s.md := rfl

@[simp] theorem State.pwSet_rack (s : State) (f : Power → Power) :
    (s.pwSet f).rack = s.rack := rfl

@[simp] theorem State.pwSet_store (s : State) (f : Power → Power) :
    (s.pwSet f).store = s.store := rfl

@[simp] theorem State.pwSet_dict (s : State) (f : Power → Power) :
    (s.pwSet f).dict = s.dict := rfl

@[simp] theorem State.pwSet_svc (s : State) (f : Power → Power) :
    (s.pwSet f).svc = s.svc := rfl

@[simp] theorem State.pwSet_partners (s : State) (f : Power → Power) :
    (s.pwSet f).partners = s.partners := rfl

@[simp] theorem State.pwSet_net (s : State) (f : Power → Power) :
    (s.pwSet f).net = s.net := rfl

@[simp] theorem State.pwSet_can (s : State) (f : Power → Power) :
    (s.pwSet f).can = s.can := rfl

@[simp] theorem State.pwSet_tb (s : State) (f : Power → Power) :
    (s.pwSet f).tb = s.tb := rfl

@[simp] theorem State.pwSet_fld (s : State) (f : Power → Power) :
    (s.pwSet f).fld = s.fld := rfl

@[simp] theorem State.pwSet_coo (s : State) (f : Power → Power) :
    (s.pwSet f).coo = s.coo := rfl

@[simp] theorem State.pwSet_tx (s : State) (f : Power → Power) :
    (s.pwSet f).tx = s.tx := rfl

@[simp] theorem State.pwSet_freeCtr (s : State) (f : Power → Power) :
    (s.pwSet f).freeCtr = s.freeCtr := rfl

@[simp] theorem State.pwSet_lane (s : State) (f : Power → Power) (l : LaneId) :
    (s.pwSet f).lane l = s.lane l := by cases l <;> rfl

@[simp] theorem State.pwSet_sup_supplied (s : State) (f : Power → Power) :
    (s.pwSet f).sup.supplied = s.sup.supplied := rfl

@[simp] theorem State.pwSet_sup_frame (s : State) (f : Power → Power) :
    (s.pwSet f).sup.frame = s.sup.frame := rfl

@[simp] theorem State.pwSet_sup_v2 (s : State) (f : Power → Power) :
    (s.pwSet f).sup.v2 = s.sup.v2 := rfl

@[simp] theorem State.pwSet_sup_ka (s : State) (f : Power → Power) :
    (s.pwSet f).sup.ka = s.sup.ka := rfl

@[simp] theorem State.pwSet_sup_arrival (s : State) (f : Power → Power) :
    (s.pwSet f).sup.arrival = s.sup.arrival := rfl

@[simp] theorem State.pwSet_sup_missEdge (s : State) (f : Power → Power) :
    (s.pwSet f).sup.missEdge = s.sup.missEdge := rfl

@[simp] theorem State.pwSet_sup_spacing (s : State) (f : Power → Power) :
    (s.pwSet f).sup.spacing = s.sup.spacing := rfl

@[simp] theorem State.pwSet_sup_cycle (s : State) (f : Power → Power) :
    (s.pwSet f).sup.cycle = s.sup.cycle := rfl

@[simp] theorem State.pwSet_sup_edgeAt (s : State) (f : Power → Power) :
    (s.pwSet f).sup.edgeAt = s.sup.edgeAt := rfl

@[simp] theorem State.pwSet_sup_rst (s : State) (f : Power → Power) :
    (s.pwSet f).sup.rst = s.sup.rst := rfl

@[simp] theorem State.pwSet_sup_lineIn (s : State) (f : Power → Power) :
    (s.pwSet f).sup.lineIn = s.sup.lineIn := rfl

@[simp] theorem State.pwSet_sup_lineOut (s : State) (f : Power → Power) :
    (s.pwSet f).sup.lineOut = s.sup.lineOut := rfl

@[simp] theorem State.pwSet_sup_replan (s : State) (f : Power → Power) :
    (s.pwSet f).sup.replan = s.sup.replan := rfl

@[simp] theorem State.pwSet_sup_reports (s : State) (f : Power → Power) :
    (s.pwSet f).sup.reports = s.sup.reports := rfl

@[simp] theorem State.pwSet_sup_kept (s : State) (f : Power → Power) :
    (s.pwSet f).sup.kept = s.sup.kept := rfl

@[simp] theorem State.lf_pwSet (s : State) (f : Power → Power) (l : LaneId) (g : Fld) :
    (s.pwSet f).lf l g = s.lf l g := State.lf_congr (by simp) g

@[simp] theorem State.hf_pwSet (s : State) (f : Power → Power) (g : Fld) :
    (s.pwSet f).hf g = s.hf g := by
  simp only [State.hf, State.hreg]
  unfold State.hubRegs
  cases hubBlock g.reg <;> rfl

/-! ### clUpd -/

@[simp] theorem State.clUpd_laneA (s : State) (f : Closing → Closing) :
    (s.clUpd f).laneA = s.laneA := rfl

@[simp] theorem State.clUpd_laneB (s : State) (f : Closing → Closing) :
    (s.clUpd f).laneB = s.laneB := rfl

@[simp] theorem State.clUpd_laneC (s : State) (f : Closing → Closing) :
    (s.clUpd f).laneC = s.laneC := rfl

@[simp] theorem State.clUpd_hub (s : State) (f : Closing → Closing) :
    (s.clUpd f).hub = s.hub := rfl

@[simp] theorem State.clUpd_pde (s : State) (f : Closing → Closing) :
    (s.clUpd f).pde = s.pde := rfl

@[simp] theorem State.clUpd_v1 (s : State) (f : Closing → Closing) :
    (s.clUpd f).v1 = s.v1 := rfl

@[simp] theorem State.clUpd_book (s : State) (f : Closing → Closing) :
    (s.clUpd f).book = s.book := rfl

@[simp] theorem State.clUpd_sup (s : State) (f : Closing → Closing) :
    (s.clUpd f).sup = s.sup := rfl

@[simp] theorem State.clUpd_rack (s : State) (f : Closing → Closing) :
    (s.clUpd f).rack = s.rack := rfl

@[simp] theorem State.clUpd_store (s : State) (f : Closing → Closing) :
    (s.clUpd f).store = s.store := rfl

@[simp] theorem State.clUpd_dict (s : State) (f : Closing → Closing) :
    (s.clUpd f).dict = s.dict := rfl

@[simp] theorem State.clUpd_svc (s : State) (f : Closing → Closing) :
    (s.clUpd f).svc = s.svc := rfl

@[simp] theorem State.clUpd_partners (s : State) (f : Closing → Closing) :
    (s.clUpd f).partners = s.partners := rfl

@[simp] theorem State.clUpd_net (s : State) (f : Closing → Closing) :
    (s.clUpd f).net = s.net := rfl

@[simp] theorem State.clUpd_can (s : State) (f : Closing → Closing) :
    (s.clUpd f).can = s.can := rfl

@[simp] theorem State.clUpd_tb (s : State) (f : Closing → Closing) :
    (s.clUpd f).tb = s.tb := rfl

@[simp] theorem State.clUpd_fld (s : State) (f : Closing → Closing) :
    (s.clUpd f).fld = s.fld := rfl

@[simp] theorem State.clUpd_coo (s : State) (f : Closing → Closing) :
    (s.clUpd f).coo = s.coo := rfl

@[simp] theorem State.clUpd_tx (s : State) (f : Closing → Closing) :
    (s.clUpd f).tx = s.tx := rfl

@[simp] theorem State.clUpd_freeCtr (s : State) (f : Closing → Closing) :
    (s.clUpd f).freeCtr = s.freeCtr := rfl

@[simp] theorem State.clUpd_lane (s : State) (f : Closing → Closing) (l : LaneId) :
    (s.clUpd f).lane l = s.lane l := by cases l <;> rfl

@[simp] theorem State.clUpd_md_mode (s : State) (f : Closing → Closing) :
    (s.clUpd f).md.mode = s.md.mode := rfl

@[simp] theorem State.clUpd_md_prev (s : State) (f : Closing → Closing) :
    (s.clUpd f).md.prev = s.md.prev := rfl

@[simp] theorem State.clUpd_md_life (s : State) (f : Closing → Closing) :
    (s.clUpd f).md.life = s.md.life := rfl

@[simp] theorem State.clUpd_md_since (s : State) (f : Closing → Closing) :
    (s.clUpd f).md.since = s.md.since := rfl

@[simp] theorem State.clUpd_md_due (s : State) (f : Closing → Closing) :
    (s.clUpd f).md.due = s.md.due := rfl

@[simp] theorem State.clUpd_md_start (s : State) (f : Closing → Closing) :
    (s.clUpd f).md.start = s.md.start := rfl

@[simp] theorem State.clUpd_md_wakeCause (s : State) (f : Closing → Closing) :
    (s.clUpd f).md.wakeCause = s.md.wakeCause := rfl

@[simp] theorem State.clUpd_md_last (s : State) (f : Closing → Closing) :
    (s.clUpd f).md.last = s.md.last := rfl

@[simp] theorem State.clUpd_md_lowStart (s : State) (f : Closing → Closing) :
    (s.clUpd f).md.lowStart = s.md.lowStart := rfl

@[simp] theorem State.clUpd_md_wakeOff (s : State) (f : Closing → Closing) :
    (s.clUpd f).md.wakeOff = s.md.wakeOff := rfl

@[simp] theorem State.lf_clUpd (s : State) (f : Closing → Closing) (l : LaneId) (g : Fld) :
    (s.clUpd f).lf l g = s.lf l g := State.lf_congr (by simp) g

@[simp] theorem State.hf_clUpd (s : State) (f : Closing → Closing) (g : Fld) :
    (s.clUpd f).hf g = s.hf g := by
  simp only [State.hf, State.hreg]
  unfold State.hubRegs
  cases hubBlock g.reg <;> rfl

/-! ### stUpd -/

@[simp] theorem State.stUpd_laneA (s : State) (f : StartState → StartState) :
    (s.stUpd f).laneA = s.laneA := rfl

@[simp] theorem State.stUpd_laneB (s : State) (f : StartState → StartState) :
    (s.stUpd f).laneB = s.laneB := rfl

@[simp] theorem State.stUpd_laneC (s : State) (f : StartState → StartState) :
    (s.stUpd f).laneC = s.laneC := rfl

@[simp] theorem State.stUpd_hub (s : State) (f : StartState → StartState) :
    (s.stUpd f).hub = s.hub := rfl

@[simp] theorem State.stUpd_pde (s : State) (f : StartState → StartState) :
    (s.stUpd f).pde = s.pde := rfl

@[simp] theorem State.stUpd_v1 (s : State) (f : StartState → StartState) :
    (s.stUpd f).v1 = s.v1 := rfl

@[simp] theorem State.stUpd_book (s : State) (f : StartState → StartState) :
    (s.stUpd f).book = s.book := rfl

@[simp] theorem State.stUpd_sup (s : State) (f : StartState → StartState) :
    (s.stUpd f).sup = s.sup := rfl

@[simp] theorem State.stUpd_rack (s : State) (f : StartState → StartState) :
    (s.stUpd f).rack = s.rack := rfl

@[simp] theorem State.stUpd_store (s : State) (f : StartState → StartState) :
    (s.stUpd f).store = s.store := rfl

@[simp] theorem State.stUpd_dict (s : State) (f : StartState → StartState) :
    (s.stUpd f).dict = s.dict := rfl

@[simp] theorem State.stUpd_svc (s : State) (f : StartState → StartState) :
    (s.stUpd f).svc = s.svc := rfl

@[simp] theorem State.stUpd_partners (s : State) (f : StartState → StartState) :
    (s.stUpd f).partners = s.partners := rfl

@[simp] theorem State.stUpd_net (s : State) (f : StartState → StartState) :
    (s.stUpd f).net = s.net := rfl

@[simp] theorem State.stUpd_can (s : State) (f : StartState → StartState) :
    (s.stUpd f).can = s.can := rfl

@[simp] theorem State.stUpd_tb (s : State) (f : StartState → StartState) :
    (s.stUpd f).tb = s.tb := rfl

@[simp] theorem State.stUpd_fld (s : State) (f : StartState → StartState) :
    (s.stUpd f).fld = s.fld := rfl

@[simp] theorem State.stUpd_coo (s : State) (f : StartState → StartState) :
    (s.stUpd f).coo = s.coo := rfl

@[simp] theorem State.stUpd_tx (s : State) (f : StartState → StartState) :
    (s.stUpd f).tx = s.tx := rfl

@[simp] theorem State.stUpd_freeCtr (s : State) (f : StartState → StartState) :
    (s.stUpd f).freeCtr = s.freeCtr := rfl

@[simp] theorem State.stUpd_lane (s : State) (f : StartState → StartState) (l : LaneId) :
    (s.stUpd f).lane l = s.lane l := by cases l <;> rfl

@[simp] theorem State.stUpd_md_mode (s : State) (f : StartState → StartState) :
    (s.stUpd f).md.mode = s.md.mode := rfl

@[simp] theorem State.stUpd_md_prev (s : State) (f : StartState → StartState) :
    (s.stUpd f).md.prev = s.md.prev := rfl

@[simp] theorem State.stUpd_md_life (s : State) (f : StartState → StartState) :
    (s.stUpd f).md.life = s.md.life := rfl

@[simp] theorem State.stUpd_md_since (s : State) (f : StartState → StartState) :
    (s.stUpd f).md.since = s.md.since := rfl

@[simp] theorem State.stUpd_md_due (s : State) (f : StartState → StartState) :
    (s.stUpd f).md.due = s.md.due := rfl

@[simp] theorem State.stUpd_md_closing (s : State) (f : StartState → StartState) :
    (s.stUpd f).md.closing = s.md.closing := rfl

@[simp] theorem State.stUpd_md_wakeCause (s : State) (f : StartState → StartState) :
    (s.stUpd f).md.wakeCause = s.md.wakeCause := rfl

@[simp] theorem State.stUpd_md_last (s : State) (f : StartState → StartState) :
    (s.stUpd f).md.last = s.md.last := rfl

@[simp] theorem State.stUpd_md_lowStart (s : State) (f : StartState → StartState) :
    (s.stUpd f).md.lowStart = s.md.lowStart := rfl

@[simp] theorem State.stUpd_md_wakeOff (s : State) (f : StartState → StartState) :
    (s.stUpd f).md.wakeOff = s.md.wakeOff := rfl

@[simp] theorem State.lf_stUpd (s : State) (f : StartState → StartState) (l : LaneId) (g : Fld) :
    (s.stUpd f).lf l g = s.lf l g := State.lf_congr (by simp) g

@[simp] theorem State.hf_stUpd (s : State) (f : StartState → StartState) (g : Fld) :
    (s.stUpd f).hf g = s.hf g := by
  simp only [State.hf, State.hreg]
  unfold State.hubRegs
  cases hubBlock g.reg <;> rfl

/-! ### partnerSet -/

@[simp] theorem State.partnerSet_laneA (s : State) (p : Nat) (x : Partner) :
    (s.partnerSet p x).laneA = s.laneA := rfl

@[simp] theorem State.partnerSet_laneB (s : State) (p : Nat) (x : Partner) :
    (s.partnerSet p x).laneB = s.laneB := rfl

@[simp] theorem State.partnerSet_laneC (s : State) (p : Nat) (x : Partner) :
    (s.partnerSet p x).laneC = s.laneC := rfl

@[simp] theorem State.partnerSet_hub (s : State) (p : Nat) (x : Partner) :
    (s.partnerSet p x).hub = s.hub := rfl

@[simp] theorem State.partnerSet_pde (s : State) (p : Nat) (x : Partner) :
    (s.partnerSet p x).pde = s.pde := rfl

@[simp] theorem State.partnerSet_v1 (s : State) (p : Nat) (x : Partner) :
    (s.partnerSet p x).v1 = s.v1 := rfl

@[simp] theorem State.partnerSet_book (s : State) (p : Nat) (x : Partner) :
    (s.partnerSet p x).book = s.book := rfl

@[simp] theorem State.partnerSet_sup (s : State) (p : Nat) (x : Partner) :
    (s.partnerSet p x).sup = s.sup := rfl

@[simp] theorem State.partnerSet_md (s : State) (p : Nat) (x : Partner) :
    (s.partnerSet p x).md = s.md := rfl

@[simp] theorem State.partnerSet_rack (s : State) (p : Nat) (x : Partner) :
    (s.partnerSet p x).rack = s.rack := rfl

@[simp] theorem State.partnerSet_store (s : State) (p : Nat) (x : Partner) :
    (s.partnerSet p x).store = s.store := rfl

@[simp] theorem State.partnerSet_dict (s : State) (p : Nat) (x : Partner) :
    (s.partnerSet p x).dict = s.dict := rfl

@[simp] theorem State.partnerSet_svc (s : State) (p : Nat) (x : Partner) :
    (s.partnerSet p x).svc = s.svc := rfl

@[simp] theorem State.partnerSet_net (s : State) (p : Nat) (x : Partner) :
    (s.partnerSet p x).net = s.net := rfl

@[simp] theorem State.partnerSet_can (s : State) (p : Nat) (x : Partner) :
    (s.partnerSet p x).can = s.can := rfl

@[simp] theorem State.partnerSet_tb (s : State) (p : Nat) (x : Partner) :
    (s.partnerSet p x).tb = s.tb := rfl

@[simp] theorem State.partnerSet_fld (s : State) (p : Nat) (x : Partner) :
    (s.partnerSet p x).fld = s.fld := rfl

@[simp] theorem State.partnerSet_coo (s : State) (p : Nat) (x : Partner) :
    (s.partnerSet p x).coo = s.coo := rfl

@[simp] theorem State.partnerSet_tx (s : State) (p : Nat) (x : Partner) :
    (s.partnerSet p x).tx = s.tx := rfl

@[simp] theorem State.partnerSet_freeCtr (s : State) (p : Nat) (x : Partner) :
    (s.partnerSet p x).freeCtr = s.freeCtr := rfl

@[simp] theorem State.partnerSet_lane (s : State) (p : Nat) (x : Partner) (l : LaneId) :
    (s.partnerSet p x).lane l = s.lane l := by cases l <;> rfl

@[simp] theorem State.lf_partnerSet (s : State) (p : Nat) (x : Partner) (l : LaneId) (g : Fld) :
    (s.partnerSet p x).lf l g = s.lf l g := State.lf_congr (by simp) g

@[simp] theorem State.hf_partnerSet (s : State) (p : Nat) (x : Partner) (g : Fld) :
    (s.partnerSet p x).hf g = s.hf g := by
  simp only [State.hf, State.hreg]
  unfold State.hubRegs
  cases hubBlock g.reg <;> rfl

/-! ### bucketSet -/

@[simp] theorem State.bucketSet_laneA (s : State) (c : Nat) (x : Bucket) :
    (s.bucketSet c x).laneA = s.laneA := rfl

@[simp] theorem State.bucketSet_laneB (s : State) (c : Nat) (x : Bucket) :
    (s.bucketSet c x).laneB = s.laneB := rfl

@[simp] theorem State.bucketSet_laneC (s : State) (c : Nat) (x : Bucket) :
    (s.bucketSet c x).laneC = s.laneC := rfl

@[simp] theorem State.bucketSet_hub (s : State) (c : Nat) (x : Bucket) :
    (s.bucketSet c x).hub = s.hub := rfl

@[simp] theorem State.bucketSet_pde (s : State) (c : Nat) (x : Bucket) :
    (s.bucketSet c x).pde = s.pde := rfl

@[simp] theorem State.bucketSet_v1 (s : State) (c : Nat) (x : Bucket) :
    (s.bucketSet c x).v1 = s.v1 := rfl

@[simp] theorem State.bucketSet_sup (s : State) (c : Nat) (x : Bucket) :
    (s.bucketSet c x).sup = s.sup := rfl

@[simp] theorem State.bucketSet_md (s : State) (c : Nat) (x : Bucket) :
    (s.bucketSet c x).md = s.md := rfl

@[simp] theorem State.bucketSet_rack (s : State) (c : Nat) (x : Bucket) :
    (s.bucketSet c x).rack = s.rack := rfl

@[simp] theorem State.bucketSet_store (s : State) (c : Nat) (x : Bucket) :
    (s.bucketSet c x).store = s.store := rfl

@[simp] theorem State.bucketSet_dict (s : State) (c : Nat) (x : Bucket) :
    (s.bucketSet c x).dict = s.dict := rfl

@[simp] theorem State.bucketSet_svc (s : State) (c : Nat) (x : Bucket) :
    (s.bucketSet c x).svc = s.svc := rfl

@[simp] theorem State.bucketSet_partners (s : State) (c : Nat) (x : Bucket) :
    (s.bucketSet c x).partners = s.partners := rfl

@[simp] theorem State.bucketSet_net (s : State) (c : Nat) (x : Bucket) :
    (s.bucketSet c x).net = s.net := rfl

@[simp] theorem State.bucketSet_can (s : State) (c : Nat) (x : Bucket) :
    (s.bucketSet c x).can = s.can := rfl

@[simp] theorem State.bucketSet_tb (s : State) (c : Nat) (x : Bucket) :
    (s.bucketSet c x).tb = s.tb := rfl

@[simp] theorem State.bucketSet_fld (s : State) (c : Nat) (x : Bucket) :
    (s.bucketSet c x).fld = s.fld := rfl

@[simp] theorem State.bucketSet_coo (s : State) (c : Nat) (x : Bucket) :
    (s.bucketSet c x).coo = s.coo := rfl

@[simp] theorem State.bucketSet_tx (s : State) (c : Nat) (x : Bucket) :
    (s.bucketSet c x).tx = s.tx := rfl

@[simp] theorem State.bucketSet_freeCtr (s : State) (c : Nat) (x : Bucket) :
    (s.bucketSet c x).freeCtr = s.freeCtr := rfl

@[simp] theorem State.bucketSet_lane (s : State) (c : Nat) (x : Bucket) (l : LaneId) :
    (s.bucketSet c x).lane l = s.lane l := by cases l <;> rfl

@[simp] theorem State.bucketSet_book_ready (s : State) (c : Nat) (x : Bucket) :
    (s.bucketSet c x).book.ready = s.book.ready := rfl

@[simp] theorem State.bucketSet_book_next (s : State) (c : Nat) (x : Bucket) :
    (s.bucketSet c x).book.next = s.book.next := rfl

@[simp] theorem State.bucketSet_book_ffBase (s : State) (c : Nat) (x : Bucket) :
    (s.bucketSet c x).book.ffBase = s.book.ffBase := rfl

@[simp] theorem State.bucketSet_book_ffCount (s : State) (c : Nat) (x : Bucket) :
    (s.bucketSet c x).book.ffCount = s.book.ffCount := rfl

@[simp] theorem State.bucketSet_book_ffFull (s : State) (c : Nat) (x : Bucket) :
    (s.bucketSet c x).book.ffFull = s.book.ffFull := rfl

@[simp] theorem State.bucketSet_book_freeze (s : State) (c : Nat) (x : Bucket) :
    (s.bucketSet c x).book.freeze = s.book.freeze := rfl

@[simp] theorem State.bucketSet_book_counting (s : State) (c : Nat) (x : Bucket) :
    (s.bucketSet c x).book.counting = s.book.counting := rfl

@[simp] theorem State.bucketSet_book_postLeft (s : State) (c : Nat) (x : Bucket) :
    (s.bucketSet c x).book.postLeft = s.book.postLeft := rfl

@[simp] theorem State.bucketSet_book_frozen (s : State) (c : Nat) (x : Bucket) :
    (s.bucketSet c x).book.frozen = s.book.frozen := rfl

@[simp] theorem State.bucketSet_book_frozenAt (s : State) (c : Nat) (x : Bucket) :
    (s.bucketSet c x).book.frozenAt = s.book.frozenAt := rfl

@[simp] theorem State.bucketSet_book_ring (s : State) (c : Nat) (x : Bucket) :
    (s.bucketSet c x).book.ring = s.book.ring := rfl

@[simp] theorem State.bucketSet_book_ff (s : State) (c : Nat) (x : Bucket) :
    (s.bucketSet c x).book.ff = s.book.ff := rfl

@[simp] theorem State.bucketSet_book_tail (s : State) (c : Nat) (x : Bucket) :
    (s.bucketSet c x).book.tail = s.book.tail := rfl

@[simp] theorem State.bucketSet_book_trigIgn (s : State) (c : Nat) (x : Bucket) :
    (s.bucketSet c x).book.trigIgn = s.book.trigIgn := rfl

@[simp] theorem State.bucketSet_book_summaries (s : State) (c : Nat) (x : Bucket) :
    (s.bucketSet c x).book.summaries = s.book.summaries := rfl

@[simp] theorem State.bucketSet_book_ctlSeq (s : State) (c : Nat) (x : Bucket) :
    (s.bucketSet c x).book.ctlSeq = s.book.ctlSeq := rfl

@[simp] theorem State.bucketSet_book_kept (s : State) (c : Nat) (x : Bucket) :
    (s.bucketSet c x).book.kept = s.book.kept := rfl

@[simp] theorem State.bucketSet_book_decant (s : State) (c : Nat) (x : Bucket) :
    (s.bucketSet c x).book.decant = s.book.decant := rfl

@[simp] theorem State.lf_bucketSet (s : State) (c : Nat) (x : Bucket) (l : LaneId) (g : Fld) :
    (s.bucketSet c x).lf l g = s.lf l g := State.lf_congr (by simp) g

@[simp] theorem State.hf_bucketSet (s : State) (c : Nat) (x : Bucket) (g : Fld) :
    (s.bucketSet c x).hf g = s.hf g := by
  simp only [State.hf, State.hreg]
  unfold State.hubRegs
  cases hubBlock g.reg <;> rfl

/-! ### pendSet -/

@[simp] theorem State.pendSet_laneA (s : State) (i j : Nat) (bs : List Byte) :
    (s.pendSet i j bs).laneA = s.laneA := rfl

@[simp] theorem State.pendSet_laneB (s : State) (i j : Nat) (bs : List Byte) :
    (s.pendSet i j bs).laneB = s.laneB := rfl

@[simp] theorem State.pendSet_laneC (s : State) (i j : Nat) (bs : List Byte) :
    (s.pendSet i j bs).laneC = s.laneC := rfl

@[simp] theorem State.pendSet_hub (s : State) (i j : Nat) (bs : List Byte) :
    (s.pendSet i j bs).hub = s.hub := rfl

@[simp] theorem State.pendSet_pde (s : State) (i j : Nat) (bs : List Byte) :
    (s.pendSet i j bs).pde = s.pde := rfl

@[simp] theorem State.pendSet_v1 (s : State) (i j : Nat) (bs : List Byte) :
    (s.pendSet i j bs).v1 = s.v1 := rfl

@[simp] theorem State.pendSet_book (s : State) (i j : Nat) (bs : List Byte) :
    (s.pendSet i j bs).book = s.book := rfl

@[simp] theorem State.pendSet_sup (s : State) (i j : Nat) (bs : List Byte) :
    (s.pendSet i j bs).sup = s.sup := rfl

@[simp] theorem State.pendSet_md (s : State) (i j : Nat) (bs : List Byte) :
    (s.pendSet i j bs).md = s.md := rfl

@[simp] theorem State.pendSet_rack (s : State) (i j : Nat) (bs : List Byte) :
    (s.pendSet i j bs).rack = s.rack := rfl

@[simp] theorem State.pendSet_store (s : State) (i j : Nat) (bs : List Byte) :
    (s.pendSet i j bs).store = s.store := rfl

@[simp] theorem State.pendSet_svc (s : State) (i j : Nat) (bs : List Byte) :
    (s.pendSet i j bs).svc = s.svc := rfl

@[simp] theorem State.pendSet_partners (s : State) (i j : Nat) (bs : List Byte) :
    (s.pendSet i j bs).partners = s.partners := rfl

@[simp] theorem State.pendSet_net (s : State) (i j : Nat) (bs : List Byte) :
    (s.pendSet i j bs).net = s.net := rfl

@[simp] theorem State.pendSet_can (s : State) (i j : Nat) (bs : List Byte) :
    (s.pendSet i j bs).can = s.can := rfl

@[simp] theorem State.pendSet_tb (s : State) (i j : Nat) (bs : List Byte) :
    (s.pendSet i j bs).tb = s.tb := rfl

@[simp] theorem State.pendSet_fld (s : State) (i j : Nat) (bs : List Byte) :
    (s.pendSet i j bs).fld = s.fld := rfl

@[simp] theorem State.pendSet_coo (s : State) (i j : Nat) (bs : List Byte) :
    (s.pendSet i j bs).coo = s.coo := rfl

@[simp] theorem State.pendSet_tx (s : State) (i j : Nat) (bs : List Byte) :
    (s.pendSet i j bs).tx = s.tx := rfl

@[simp] theorem State.pendSet_freeCtr (s : State) (i j : Nat) (bs : List Byte) :
    (s.pendSet i j bs).freeCtr = s.freeCtr := rfl

@[simp] theorem State.pendSet_lane (s : State) (i j : Nat) (bs : List Byte) (l : LaneId) :
    (s.pendSet i j bs).lane l = s.lane l := by cases l <;> rfl

@[simp] theorem State.pendSet_dict_stored (s : State) (i j : Nat) (bs : List Byte) :
    (s.pendSet i j bs).dict.stored = s.dict.stored := rfl

@[simp] theorem State.pendSet_dict_vol (s : State) (i j : Nat) (bs : List Byte) :
    (s.pendSet i j bs).dict.vol = s.dict.vol := rfl

@[simp] theorem State.pendSet_dict_counts (s : State) (i j : Nat) (bs : List Byte) :
    (s.pendSet i j bs).dict.counts = s.dict.counts := rfl

@[simp] theorem State.pendSet_dict_app (s : State) (i j : Nat) (bs : List Byte) :
    (s.pendSet i j bs).dict.app = s.dict.app := rfl

@[simp] theorem State.pendSet_dict_pendApp (s : State) (i j : Nat) (bs : List Byte) :
    (s.pendSet i j bs).dict.pendApp = s.dict.pendApp := rfl

@[simp] theorem State.pendSet_dict_copy (s : State) (i j : Nat) (bs : List Byte) :
    (s.pendSet i j bs).dict.copy = s.dict.copy := rfl

@[simp] theorem State.pendSet_dict_copySeq (s : State) (i j : Nat) (bs : List Byte) :
    (s.pendSet i j bs).dict.copySeq = s.dict.copySeq := rfl

@[simp] theorem State.lf_pendSet (s : State) (i j : Nat) (bs : List Byte) (l : LaneId) (g : Fld) :
    (s.pendSet i j bs).lf l g = s.lf l g := State.lf_congr (by simp) g

@[simp] theorem State.hf_pendSet (s : State) (i j : Nat) (bs : List Byte) (g : Fld) :
    (s.pendSet i j bs).hf g = s.hf g := by
  simp only [State.hf, State.hreg]
  unfold State.hubRegs
  cases hubBlock g.reg <;> rfl

/-! ### transferSet -/

@[simp] theorem State.transferSet_laneA (s : State) (k : Nat) (t : Transfer) :
    (s.transferSet k t).laneA = s.laneA := rfl

@[simp] theorem State.transferSet_laneB (s : State) (k : Nat) (t : Transfer) :
    (s.transferSet k t).laneB = s.laneB := rfl

@[simp] theorem State.transferSet_laneC (s : State) (k : Nat) (t : Transfer) :
    (s.transferSet k t).laneC = s.laneC := rfl

@[simp] theorem State.transferSet_hub (s : State) (k : Nat) (t : Transfer) :
    (s.transferSet k t).hub = s.hub := rfl

@[simp] theorem State.transferSet_pde (s : State) (k : Nat) (t : Transfer) :
    (s.transferSet k t).pde = s.pde := rfl

@[simp] theorem State.transferSet_v1 (s : State) (k : Nat) (t : Transfer) :
    (s.transferSet k t).v1 = s.v1 := rfl

@[simp] theorem State.transferSet_book (s : State) (k : Nat) (t : Transfer) :
    (s.transferSet k t).book = s.book := rfl

@[simp] theorem State.transferSet_sup (s : State) (k : Nat) (t : Transfer) :
    (s.transferSet k t).sup = s.sup := rfl

@[simp] theorem State.transferSet_md (s : State) (k : Nat) (t : Transfer) :
    (s.transferSet k t).md = s.md := rfl

@[simp] theorem State.transferSet_rack (s : State) (k : Nat) (t : Transfer) :
    (s.transferSet k t).rack = s.rack := rfl

@[simp] theorem State.transferSet_store (s : State) (k : Nat) (t : Transfer) :
    (s.transferSet k t).store = s.store := rfl

@[simp] theorem State.transferSet_dict (s : State) (k : Nat) (t : Transfer) :
    (s.transferSet k t).dict = s.dict := rfl

@[simp] theorem State.transferSet_partners (s : State) (k : Nat) (t : Transfer) :
    (s.transferSet k t).partners = s.partners := rfl

@[simp] theorem State.transferSet_net (s : State) (k : Nat) (t : Transfer) :
    (s.transferSet k t).net = s.net := rfl

@[simp] theorem State.transferSet_can (s : State) (k : Nat) (t : Transfer) :
    (s.transferSet k t).can = s.can := rfl

@[simp] theorem State.transferSet_tb (s : State) (k : Nat) (t : Transfer) :
    (s.transferSet k t).tb = s.tb := rfl

@[simp] theorem State.transferSet_fld (s : State) (k : Nat) (t : Transfer) :
    (s.transferSet k t).fld = s.fld := rfl

@[simp] theorem State.transferSet_coo (s : State) (k : Nat) (t : Transfer) :
    (s.transferSet k t).coo = s.coo := rfl

@[simp] theorem State.transferSet_tx (s : State) (k : Nat) (t : Transfer) :
    (s.transferSet k t).tx = s.tx := rfl

@[simp] theorem State.transferSet_freeCtr (s : State) (k : Nat) (t : Transfer) :
    (s.transferSet k t).freeCtr = s.freeCtr := rfl

@[simp] theorem State.transferSet_lane (s : State) (k : Nat) (t : Transfer) (l : LaneId) :
    (s.transferSet k t).lane l = s.lane l := by cases l <;> rfl

@[simp] theorem State.transferSet_svc_tids (s : State) (k : Nat) (t : Transfer) :
    (s.transferSet k t).svc.tids = s.svc.tids := rfl

@[simp] theorem State.transferSet_svc_dead (s : State) (k : Nat) (t : Transfer) :
    (s.transferSet k t).svc.dead = s.svc.dead := rfl

@[simp] theorem State.transferSet_svc_canRx (s : State) (k : Nat) (t : Transfer) :
    (s.transferSet k t).svc.canRx = s.svc.canRx := rfl

@[simp] theorem State.transferSet_svc_seq (s : State) (k : Nat) (t : Transfer) :
    (s.transferSet k t).svc.seq = s.svc.seq := rfl

@[simp] theorem State.transferSet_svc_reqNo (s : State) (k : Nat) (t : Transfer) :
    (s.transferSet k t).svc.reqNo = s.svc.reqNo := rfl

@[simp] theorem State.transferSet_svc_relay (s : State) (k : Nat) (t : Transfer) :
    (s.transferSet k t).svc.relay = s.svc.relay := rfl

@[simp] theorem State.transferSet_svc_reqs (s : State) (k : Nat) (t : Transfer) :
    (s.transferSet k t).svc.reqs = s.svc.reqs := rfl

@[simp] theorem State.transferSet_svc_outcomes (s : State) (k : Nat) (t : Transfer) :
    (s.transferSet k t).svc.outcomes = s.svc.outcomes := rfl

@[simp] theorem State.transferSet_svc_acted (s : State) (k : Nat) (t : Transfer) :
    (s.transferSet k t).svc.acted = s.svc.acted := rfl

@[simp] theorem State.lf_transferSet (s : State) (k : Nat) (t : Transfer) (l : LaneId) (g : Fld) :
    (s.transferSet k t).lf l g = s.lf l g := State.lf_congr (by simp) g

@[simp] theorem State.hf_transferSet (s : State) (k : Nat) (t : Transfer) (g : Fld) :
    (s.transferSet k t).hf g = s.hf g := by
  simp only [State.hf, State.hreg]
  unfold State.hubRegs
  cases hubBlock g.reg <;> rfl

/-! ### mramWrite -/

@[simp] theorem State.mramWrite_laneA (s : State) (a : Nat) (bs : List Byte) :
    (s.mramWrite a bs).laneA = s.laneA := rfl

@[simp] theorem State.mramWrite_laneB (s : State) (a : Nat) (bs : List Byte) :
    (s.mramWrite a bs).laneB = s.laneB := rfl

@[simp] theorem State.mramWrite_laneC (s : State) (a : Nat) (bs : List Byte) :
    (s.mramWrite a bs).laneC = s.laneC := rfl

@[simp] theorem State.mramWrite_pde (s : State) (a : Nat) (bs : List Byte) :
    (s.mramWrite a bs).pde = s.pde := rfl

@[simp] theorem State.mramWrite_v1 (s : State) (a : Nat) (bs : List Byte) :
    (s.mramWrite a bs).v1 = s.v1 := rfl

@[simp] theorem State.mramWrite_book (s : State) (a : Nat) (bs : List Byte) :
    (s.mramWrite a bs).book = s.book := rfl

@[simp] theorem State.mramWrite_sup (s : State) (a : Nat) (bs : List Byte) :
    (s.mramWrite a bs).sup = s.sup := rfl

@[simp] theorem State.mramWrite_md (s : State) (a : Nat) (bs : List Byte) :
    (s.mramWrite a bs).md = s.md := rfl

@[simp] theorem State.mramWrite_rack (s : State) (a : Nat) (bs : List Byte) :
    (s.mramWrite a bs).rack = s.rack := rfl

@[simp] theorem State.mramWrite_store (s : State) (a : Nat) (bs : List Byte) :
    (s.mramWrite a bs).store = s.store := rfl

@[simp] theorem State.mramWrite_dict (s : State) (a : Nat) (bs : List Byte) :
    (s.mramWrite a bs).dict = s.dict := rfl

@[simp] theorem State.mramWrite_svc (s : State) (a : Nat) (bs : List Byte) :
    (s.mramWrite a bs).svc = s.svc := rfl

@[simp] theorem State.mramWrite_partners (s : State) (a : Nat) (bs : List Byte) :
    (s.mramWrite a bs).partners = s.partners := rfl

@[simp] theorem State.mramWrite_net (s : State) (a : Nat) (bs : List Byte) :
    (s.mramWrite a bs).net = s.net := rfl

@[simp] theorem State.mramWrite_can (s : State) (a : Nat) (bs : List Byte) :
    (s.mramWrite a bs).can = s.can := rfl

@[simp] theorem State.mramWrite_tb (s : State) (a : Nat) (bs : List Byte) :
    (s.mramWrite a bs).tb = s.tb := rfl

@[simp] theorem State.mramWrite_fld (s : State) (a : Nat) (bs : List Byte) :
    (s.mramWrite a bs).fld = s.fld := rfl

@[simp] theorem State.mramWrite_coo (s : State) (a : Nat) (bs : List Byte) :
    (s.mramWrite a bs).coo = s.coo := rfl

@[simp] theorem State.mramWrite_tx (s : State) (a : Nat) (bs : List Byte) :
    (s.mramWrite a bs).tx = s.tx := rfl

@[simp] theorem State.mramWrite_freeCtr (s : State) (a : Nat) (bs : List Byte) :
    (s.mramWrite a bs).freeCtr = s.freeCtr := rfl

@[simp] theorem State.mramWrite_lane (s : State) (a : Nat) (bs : List Byte) (l : LaneId) :
    (s.mramWrite a bs).lane l = s.lane l := by cases l <;> rfl

@[simp] theorem State.mramWrite_hub_supplied (s : State) (a : Nat) (bs : List Byte) :
    (s.mramWrite a bs).hub.supplied = s.hub.supplied := rfl

@[simp] theorem State.mramWrite_hub_markers (s : State) (a : Nat) (bs : List Byte) :
    (s.mramWrite a bs).hub.markers = s.hub.markers := rfl

@[simp] theorem State.mramWrite_hub_frame (s : State) (a : Nat) (bs : List Byte) :
    (s.mramWrite a bs).hub.frame = s.hub.frame := rfl

@[simp] theorem State.mramWrite_hub_regs (s : State) (a : Nat) (bs : List Byte) :
    (s.mramWrite a bs).hub.regs = s.hub.regs := rfl

@[simp] theorem State.mramWrite_hub_sram (s : State) (a : Nat) (bs : List Byte) :
    (s.mramWrite a bs).hub.sram = s.hub.sram := rfl

@[simp] theorem State.mramWrite_hub_bank (s : State) (a : Nat) (bs : List Byte) :
    (s.mramWrite a bs).hub.bank = s.hub.bank := rfl

@[simp] theorem State.mramWrite_hub_mgmtUp (s : State) (a : Nat) (bs : List Byte) :
    (s.mramWrite a bs).hub.mgmtUp = s.hub.mgmtUp := rfl

@[simp] theorem State.lf_mramWrite (s : State) (a : Nat) (bs : List Byte) (l : LaneId) (g : Fld) :
    (s.mramWrite a bs).lf l g = s.lf l g := State.lf_congr (by simp) g

@[simp] theorem State.hf_mramWrite (s : State) (a : Nat) (bs : List Byte) (g : Fld) :
    (s.mramWrite a bs).hf g = s.hf g := by
  simp only [State.hf, State.hreg]
  unfold State.hubRegs
  cases hubBlock g.reg <;> rfl

/-! ### sramSet -/

@[simp] theorem State.sramSet_laneA (s : State) (a : Nat) (bs : List Byte) :
    (s.sramSet a bs).laneA = s.laneA := rfl

@[simp] theorem State.sramSet_laneB (s : State) (a : Nat) (bs : List Byte) :
    (s.sramSet a bs).laneB = s.laneB := rfl

@[simp] theorem State.sramSet_laneC (s : State) (a : Nat) (bs : List Byte) :
    (s.sramSet a bs).laneC = s.laneC := rfl

@[simp] theorem State.sramSet_pde (s : State) (a : Nat) (bs : List Byte) :
    (s.sramSet a bs).pde = s.pde := rfl

@[simp] theorem State.sramSet_v1 (s : State) (a : Nat) (bs : List Byte) :
    (s.sramSet a bs).v1 = s.v1 := rfl

@[simp] theorem State.sramSet_book (s : State) (a : Nat) (bs : List Byte) :
    (s.sramSet a bs).book = s.book := rfl

@[simp] theorem State.sramSet_sup (s : State) (a : Nat) (bs : List Byte) :
    (s.sramSet a bs).sup = s.sup := rfl

@[simp] theorem State.sramSet_md (s : State) (a : Nat) (bs : List Byte) :
    (s.sramSet a bs).md = s.md := rfl

@[simp] theorem State.sramSet_rack (s : State) (a : Nat) (bs : List Byte) :
    (s.sramSet a bs).rack = s.rack := rfl

@[simp] theorem State.sramSet_store (s : State) (a : Nat) (bs : List Byte) :
    (s.sramSet a bs).store = s.store := rfl

@[simp] theorem State.sramSet_dict (s : State) (a : Nat) (bs : List Byte) :
    (s.sramSet a bs).dict = s.dict := rfl

@[simp] theorem State.sramSet_svc (s : State) (a : Nat) (bs : List Byte) :
    (s.sramSet a bs).svc = s.svc := rfl

@[simp] theorem State.sramSet_partners (s : State) (a : Nat) (bs : List Byte) :
    (s.sramSet a bs).partners = s.partners := rfl

@[simp] theorem State.sramSet_net (s : State) (a : Nat) (bs : List Byte) :
    (s.sramSet a bs).net = s.net := rfl

@[simp] theorem State.sramSet_can (s : State) (a : Nat) (bs : List Byte) :
    (s.sramSet a bs).can = s.can := rfl

@[simp] theorem State.sramSet_tb (s : State) (a : Nat) (bs : List Byte) :
    (s.sramSet a bs).tb = s.tb := rfl

@[simp] theorem State.sramSet_fld (s : State) (a : Nat) (bs : List Byte) :
    (s.sramSet a bs).fld = s.fld := rfl

@[simp] theorem State.sramSet_coo (s : State) (a : Nat) (bs : List Byte) :
    (s.sramSet a bs).coo = s.coo := rfl

@[simp] theorem State.sramSet_tx (s : State) (a : Nat) (bs : List Byte) :
    (s.sramSet a bs).tx = s.tx := rfl

@[simp] theorem State.sramSet_freeCtr (s : State) (a : Nat) (bs : List Byte) :
    (s.sramSet a bs).freeCtr = s.freeCtr := rfl

@[simp] theorem State.sramSet_lane (s : State) (a : Nat) (bs : List Byte) (l : LaneId) :
    (s.sramSet a bs).lane l = s.lane l := by cases l <;> rfl

@[simp] theorem State.sramSet_hub_supplied (s : State) (a : Nat) (bs : List Byte) :
    (s.sramSet a bs).hub.supplied = s.hub.supplied := rfl

@[simp] theorem State.sramSet_hub_markers (s : State) (a : Nat) (bs : List Byte) :
    (s.sramSet a bs).hub.markers = s.hub.markers := rfl

@[simp] theorem State.sramSet_hub_frame (s : State) (a : Nat) (bs : List Byte) :
    (s.sramSet a bs).hub.frame = s.hub.frame := rfl

@[simp] theorem State.sramSet_hub_regs (s : State) (a : Nat) (bs : List Byte) :
    (s.sramSet a bs).hub.regs = s.hub.regs := rfl

@[simp] theorem State.sramSet_hub_mram (s : State) (a : Nat) (bs : List Byte) :
    (s.sramSet a bs).hub.mram = s.hub.mram := rfl

@[simp] theorem State.sramSet_hub_bank (s : State) (a : Nat) (bs : List Byte) :
    (s.sramSet a bs).hub.bank = s.hub.bank := rfl

@[simp] theorem State.sramSet_hub_mgmtUp (s : State) (a : Nat) (bs : List Byte) :
    (s.sramSet a bs).hub.mgmtUp = s.hub.mgmtUp := rfl

@[simp] theorem State.lf_sramSet (s : State) (a : Nat) (bs : List Byte) (l : LaneId) (g : Fld) :
    (s.sramSet a bs).lf l g = s.lf l g := State.lf_congr (by simp) g

@[simp] theorem State.hf_sramSet (s : State) (a : Nat) (bs : List Byte) (g : Fld) :
    (s.sramSet a bs).hf g = s.hf g := by
  simp only [State.hf, State.hreg]
  unfold State.hubRegs
  cases hubBlock g.reg <;> rfl

@[simp] theorem State.pwSet_sup_pw (s : State) (f : Power → Power) :
    (s.pwSet f).sup.pw = f s.sup.pw := rfl

@[simp] theorem State.chan_chanUpd_same (s : State) (c : Nat) (f : Chan → Chan) :
    (s.chanUpd c f).chan c = f (s.chan c) := by simp [State.chan, State.chanUpd, State.chanSet]

@[simp] theorem State.canCh_canUpd_same (s : State) (c : Nat) (f : CanCh → CanCh) :
    (s.canUpd c f).canCh c = f (s.canCh c) := by simp [State.canCh, State.canUpd]

@[simp] theorem State.port_portUpd_same (s : State) (p : Nat) (f : PortSt → PortSt) :
    (s.portUpd p f).port p = f (s.port p) := by simp [State.port, State.portUpd]

@[simp] theorem State.partner_partnerSet_same (s : State) (p : Nat) (x : Partner) :
    (s.partnerSet p x).partner p = x := by simp [State.partner, State.partnerSet]

end Sys2Proof.Machine
end

