-- ==== Sys2Proof/Laws/Frame.lean ====
section
/-! SUPPORT. Operations that change one lane only, and what cores and tasks read as after them. -/

namespace Sys2Proof.Machine

theorem LaneOnly.coreSet (l : LaneId) (s : State) (c : Nat) (k : CoreState) : LaneOnly l s (s.coreSet l c k) := by
  unfold State.coreSet
  exact LaneOnly.upd l s _

theorem LaneOnly.stationSet (l : LaneId) (s : State) (n : Nat) (x : StationRec) : LaneOnly l s (s.stationSet l n x) := by
  unfold State.stationSet
  exact LaneOnly.upd l s _

theorem LaneOnly.tickUpd (l : LaneId) (s : State) (f : LaneTick → LaneTick) : LaneOnly l s (s.tickUpd l f) := by
  unfold State.tickUpd
  exact LaneOnly.upd l s _

theorem LaneOnly.withhold (l : LaneId) (s : State) (c : Nat) : LaneOnly l s (s.withhold l c) := by
  unfold State.withhold
  exact LaneOnly.upd l s _

theorem LaneOnly.prSet (l : LaneId) (s : State) (x : LanePair) : LaneOnly l s (s.prSet l x) := by
  unfold State.prSet
  exact LaneOnly.upd l s _

theorem LaneOnly.connSet (l : LaneId) (s : State) (c : Nat) (x : Conn) : LaneOnly l s (s.connSet l c x) := by
  unfold State.connSet
  exact LaneOnly.upd l s _

theorem LaneOnly.brgUpd (l : LaneId) (s : State) (f : LaneBrg → LaneBrg) : LaneOnly l s (s.brgUpd l f) := by
  unfold State.brgUpd
  exact LaneOnly.upd l s _

@[simp] theorem State.task_coreSet (s : State) (l m : LaneId) (c t : Nat) (k : CoreState) : (s.coreSet l c k).task m t = s.task m t := by
  simp [State.task]

@[simp] theorem State.core_taskSet (s : State) (l m : LaneId) (c t : Nat) (x : TaskRt) : (s.taskSet l t x).core m c = s.core m c := by
  simp [State.core]

end Sys2Proof.Machine
end

