-- ==== Sys2Proof/Laws/Memory.lean ====
section
/-! SUPPORT. Laws of the memories: a read after a write, and every memory operation keeps the canonical form. -/

namespace Sys2Proof.Machine

/-- A byte before or after the bytes written reads as before. -/
theorem mapGet_memWrite_out (m : List Host.Cell) (addr b : Nat) (bs : List Byte) (h : b < addr ∨ addr + bs.length ≤ b) :
    mapGet memDefault (memWrite m addr bs) b = mapGet memDefault m b := by
  induction bs generalizing m addr with
  | nil => rfl
  | cons x bs ih =>
    simp only [List.length_cons] at h
    rw [memWrite, ih _ _ (by omega), mapGet_mapSet_other _ _ _ (by omega)]

/-- A byte within the bytes written reads as written. -/
theorem mapGet_memWrite_in (m : List Host.Cell) (addr i : Nat) (bs : List Byte) (h : i < bs.length) :
    mapGet memDefault (memWrite m addr bs) (addr + i) = bs[i] := by
  induction bs generalizing m addr i with
  | nil => simp at h
  | cons x bs ih =>
    cases i with
    | zero =>
      rw [memWrite, mapGet_memWrite_out _ _ _ _ (by omega)]
      simp
    | succ i =>
      have := ih (mapSet memDefault m addr x) (addr + 1) i (by simpa using h)
      rw [memWrite]
      simpa [Nat.add_assoc, Nat.add_comm 1] using this

/-- Bytes read where bytes were written are those written. -/
theorem memRead_memWrite_same (m : List Host.Cell) (addr : Nat) (bs : List Byte) : memRead (memWrite m addr bs) addr bs.length = bs := by
  induction bs generalizing m addr with
  | nil => rfl
  | cons x bs ih =>
    rw [List.length_cons, memRead]
    congr 1
    · exact mapGet_memWrite_in m addr 0 (x :: bs) (Nat.succ_pos _)
    · exact ih _ _

/-- Bytes read apart from the bytes written are as before. -/
theorem memRead_memWrite_out (m : List Host.Cell) (addr b n : Nat) (bs : List Byte) (h : b + n ≤ addr ∨ addr + bs.length ≤ b) :
    memRead (memWrite m addr bs) b n = memRead m b n := by
  induction n generalizing b with
  | zero => rfl
  | succ n ih => rw [memRead, memRead, ih _ (by omega), mapGet_memWrite_out _ _ _ _ (by omega)]

/-- A write keeps the canonical form. -/
theorem wf_memWrite (m : List Host.Cell) (addr : Nat) (bs : List Byte) (h : Memory.wf m = true) : Memory.wf (memWrite m addr bs) = true := by
  induction bs generalizing m addr with
  | nil => exact h
  | cons x bs ih => exact ih _ _ (mapWf_mapSet _ _ _ _ h)

/-- A write with byte enables keeps the canonical form. -/
theorem wf_memWriteCells (m : List Host.Cell) (bs : List (Nat × Byte)) (h : Memory.wf m = true) : Memory.wf (memWriteCells m bs) = true := by
  induction bs generalizing m with
  | nil => exact h
  | cons x bs ih => exact ih _ (mapWf_mapSet _ _ _ _ h)

/-- A store to lane memory keeps the canonical form of every memory. -/
theorem memWf_lmemSet (s : State) (l : LaneId) (addr : Nat) (bs : List Byte) (h : s.memWf = true) : (s.lmemSet l addr bs).memWf = true := by
  have key : ∀ k, (((s.lmemSet l addr bs).lane k).mem = (s.lane k).mem) ∨
      (((s.lmemSet l addr bs).lane k).mem = memWrite (s.lane k).mem addr bs) := by
    intro k
    by_cases hk : k = l
    · subst hk
      exact .inr (by simp [State.lmemSet])
    · exact .inl (by simp [State.lmemSet, hk])
  simp only [State.memWf, lanes, List.all_cons, List.all_nil, Bool.and_true, Bool.and_eq_true, State.lmemSet_hub] at h ⊢
  obtain ⟨⟨⟨ha, hb, hc⟩, hs⟩, hm⟩ := h
  have fin : ∀ k, Memory.wf (s.lane k).mem = true → Memory.wf ((s.lmemSet l addr bs).lane k).mem = true := by
    intro k hk
    rcases key k with e | e <;> rw [e]
    · exact hk
    · exact wf_memWrite _ _ _ hk
  exact ⟨⟨⟨fin _ ha, fin _ hb, fin _ hc⟩, hs⟩, hm⟩

/-- A store to MRAM keeps the canonical form of every memory. -/
theorem memWf_mramWrite (s : State) (addr : Nat) (bs : List Byte) (h : s.memWf = true) : (s.mramWrite addr bs).memWf = true := by
  simp only [State.memWf, lanes, List.all_cons, List.all_nil, Bool.and_true, Bool.and_eq_true] at h ⊢
  exact ⟨h.1, wf_memWrite _ _ _ h.2⟩

/-- After reset every memory is in its canonical form. -/
theorem memWf_reset : State.reset.memWf = true := rfl

end Sys2Proof.Machine
end

