-- ==== Sys2Proof/Laws/Vote.lean ====
section
/-! SUPPORT. Bit sets formed bit by bit: the lanes that satisfy a property, and a voter's decision. -/

namespace Sys2Proof.Machine

/-- A number formed from n bits lies below 2^n. -/
theorem bitFold_lt (p : Nat → Bool) (n : Nat) : (List.range n).foldl (fun a i => a + b2n (p i) * 2 ^ i) 0 < 2 ^ n := by
  induction n with
  | zero => simp
  | succ n ih =>
    rw [List.range_succ, List.foldl_append]
    simp only [List.foldl_cons, List.foldl_nil, pow_succ]
    generalize (List.range n).foldl (fun a i => a + b2n (p i) * 2 ^ i) 0 = x at *
    cases p n <;> simp only [b2n, if_true, Bool.false_eq_true, if_false] <;> omega

/-- Bit `i` of a number formed bit by bit. -/
theorem bitOf_bitFold (p : Nat → Bool) {n i : Nat} (h : i < n) :
    bitOf ((List.range n).foldl (fun a i => a + b2n (p i) * 2 ^ i) 0) i = p i := by
  induction n with
  | zero => omega
  | succ n ih =>
    rw [List.range_succ, List.foldl_append]
    simp only [List.foldl_cons, List.foldl_nil]
    have hl := bitFold_lt p n
    generalize (List.range n).foldl (fun a i => a + b2n (p i) * 2 ^ i) 0 = x at *
    by_cases hi : i = n
    · subst hi
      unfold bitOf
      rw [Nat.add_mul_div_right _ _ (Nat.two_pow_pos i), Nat.div_eq_of_lt hl]
      cases p i <;> rfl
    · have hin : i < n := by omega
      rw [← ih hin]
      unfold bitOf
      obtain ⟨k, rfl⟩ : ∃ k, n = i + 1 + k := ⟨n - (i + 1), by omega⟩
      have e : b2n (p (i + 1 + k)) * 2 ^ (i + 1 + k) = (b2n (p (i + 1 + k)) * 2 ^ k * 2) * 2 ^ i := by
        rw [Nat.pow_add, Nat.pow_succ]; ring
      rw [e, Nat.add_mul_div_right _ _ (Nat.two_pow_pos i)]
      simp [Nat.add_mul_mod_self_right]

/-- Membership in a set of lanes given by a property. -/
@[simp] theorem inSet_laneSet (p : LaneId → Bool) (l : LaneId) : inSet (laneSet p) l = p l := by
  unfold inSet laneSet bitOf
  cases l <;> cases p .a <;> cases p .b <;> cases p .c <;> rfl

/-- A voter's decision, bit by bit. -/
theorem Voter.bitOf_verdict (v : Voter) {i : Nat} (h : i < 17) : bitOf v.verdict i = v.decideBit i := bitOf_bitFold _ h

end Sys2Proof.Machine
end

