-- ==== Sys2Proof/WellFormed.lean ====
section
/-! DEFINITION. Well-formed commands: operands that name a thing the block has. A command with an operand outside these ranges names a
thing that does not exist; the meanings hold for every operand. -/

namespace Sys2Proof

/-- Cores of a lane: 0 to 3 the application cores, 4 the lane-management core (05 R140). -/
def coreOk (c : Nat) : Bool := decide (c < 5)
/-- Application cores. -/
def appCoreOk (c : Nat) : Bool := decide (c < 4)
/-- Overrun classes (02 R67). -/
def classOk (c : Nat) : Bool := decide (c < 8)
/-- Registers of a core. -/
def regOk (r : Nat) : Bool := decide (r < 32)
/-- Access sizes in bytes. -/
def sizeOk (n : Nat) : Bool := n == 1 || n == 2 || n == 4 || n == 8
/-- Channels of the process data engine (09). -/
def chanOk (c : Nat) : Bool := decide (c < 192)
/-- Completion queues (09). -/
def queueOk (q : Nat) : Bool := decide (q < 32)
/-- CAN channels (12). -/
def canOk (ch : Nat) : Bool := decide (ch < 8)
/-- Ports of the switch that have a link: 0 to 11 (11). -/
def portOk (p : Nat) : Bool := decide (p < 12)
/-- Field inputs (15). -/
def inputOk (i : Nat) : Bool := decide (i < 32)
/-- Outputs: 0 to 15, and 16 the brake loop (15). -/
def outputOk (o : Nat) : Bool := decide (o < 17)
/-- Partners (16 R450). -/
def partnerOk (p : Nat) : Bool := decide (p ≤ 68)
/-- Start steps S0 to S7 (03 R88). -/
def stepOk (k : Nat) : Bool := decide (k < 8)
/-- Sources of a request: one byte (16 R446). -/
def sourceOk (n : Nat) : Bool := decide (n < 256)
/-- Safety connections (14). -/
def connOk (k : Nat) : Bool := decide (k < 256)
/-- Stations (16 R436). -/
def stationOk (k : Nat) : Bool := decide (1 ≤ k) && decide (k ≤ 255)

/-- Every operand of the command names a thing that the block has. -/
def Instr.wf : Instr → Bool
  | .tickEdge .. => true
  | .syncBeat .. => true
  | .laneOutOfStep .. => true
  | .tickMarker .. => true
  | .hubLossEnter .. => true
  | .hubLossLeave .. => true
  | .supervisorEdge .. => true
  | .hubEdge .. => true
  | .endOfL .. => true
  | .imagePacketReceive .. => true
  | .imageCutoff .. => true
  | .receiptReceive .. => true
  | .receiptCutoff .. => true
  | .endOfA .. => true
  | .inputDisagreementFlag _ i => inputOk i
  | .inputDisagreementClear _ i => inputOk i
  | .enterPhaseE .. => true
  | .enterPhaseV .. => true
  | .safetyDeadline .. => true
  | .overrunBeyondTolerance _ c => classOk c
  | .nonsafetyDeadline .. => true
  | .taskTrap _ c _ _ _ _ => appCoreOk c
  | .laneMemoryRead _ core _ _ size rd _ _ _ _ => coreOk core && sizeOk size && regOk rd
  | .cdEnc _ c _ rd rs1 rs3 => appCoreOk c && regOk rd && regOk rs1 && regOk rs3
  | .cdDec _ c _ rd rs1 rs3 => appCoreOk c && regOk rd && regOk rs1 && regOk rs3
  | .cdChk _ c _ rs1 rs3 => appCoreOk c && regOk rs1 && regOk rs3
  | .cdResig _ c _ rd rs1 rs3 => appCoreOk c && regOk rd && regOk rs1 && regOk rs3
  | .cdAdd _ c _ rd rs1 rs2 rs3 => appCoreOk c && regOk rd && regOk rs1 && regOk rs2 && regOk rs3
  | .cdSub _ c _ rd rs1 rs2 rs3 => appCoreOk c && regOk rd && regOk rs1 && regOk rs2 && regOk rs3
  | .cdMul _ c _ rd rs1 rs2 rs3 => appCoreOk c && regOk rd && regOk rs1 && regOk rs2 && regOk rs3
  | .cdMulq _ c _ rd rs1 rs2 rs3 => appCoreOk c && regOk rd && regOk rs1 && regOk rs2 && regOk rs3
  | .cdDiv _ c _ rd rs1 rs2 rs3 => appCoreOk c && regOk rd && regOk rs1 && regOk rs2 && regOk rs3
  | .cdRem _ c _ rd rs1 rs2 rs3 => appCoreOk c && regOk rd && regOk rs1 && regOk rs2 && regOk rs3
  | .cdSra _ c _ rd rs1 rs3 => appCoreOk c && regOk rd && regOk rs1 && regOk rs3
  | .cdWrap _ c _ rd rs1 rs3 => appCoreOk c && regOk rd && regOk rs1 && regOk rs3
  | .cdSlt _ c _ rd rs1 rs2 rs3 => appCoreOk c && regOk rd && regOk rs1 && regOk rs2 && regOk rs3
  | .cdSeq _ c _ rd rs1 rs2 rs3 => appCoreOk c && regOk rd && regOk rs1 && regOk rs2 && regOk rs3
  | .cdBand _ c _ rd rs1 rs2 rs3 => appCoreOk c && regOk rd && regOk rs1 && regOk rs2 && regOk rs3
  | .cdBor _ c _ rd rs1 rs2 rs3 => appCoreOk c && regOk rd && regOk rs1 && regOk rs2 && regOk rs3
  | .cdBnot _ c _ rd rs1 rs3 => appCoreOk c && regOk rd && regOk rs1 && regOk rs3
  | .cdCond _ c _ rd rs1 rs3 => appCoreOk c && regOk rd && regOk rs1 && regOk rs3
  | .cdPfold _ c _ rs1 => appCoreOk c && regOk rs1
  | .cdRebase _ c _ rd rs1 rs2 rs3 => appCoreOk c && regOk rd && regOk rs1 && regOk rs2 && regOk rs3
  | .cdFenc _ c _ _ fd fs1 => appCoreOk c && regOk fd && regOk fs1
  | .cdFdec _ c _ _ fd fs1 => appCoreOk c && regOk fd && regOk fs1
  | .cdFmul _ c _ _ fd fs1 fs2 => appCoreOk c && regOk fd && regOk fs1 && regOk fs2
  | .cdFdiv _ c _ _ fd fs1 fs2 => appCoreOk c && regOk fd && regOk fs1 && regOk fs2
  | .cdFsqrt _ c _ _ fd fs1 => appCoreOk c && regOk fd && regOk fs1
  | .cdFmadd _ c _ _ fd fs1 fs2 fs3 => appCoreOk c && regOk fd && regOk fs1 && regOk fs2 && regOk fs3
  | .cdFsgnjx _ c _ _ fd fs1 fs2 => appCoreOk c && regOk fd && regOk fs1 && regOk fs2
  | .cdFlt _ c _ _ rd fs1 fs2 rs3 => appCoreOk c && regOk rd && regOk fs1 && regOk fs2 && regOk rs3
  | .cdFle _ c _ _ rd fs1 fs2 rs3 => appCoreOk c && regOk rd && regOk fs1 && regOk fs2 && regOk rs3
  | .cdFeq _ c _ _ rd fs1 fs2 rs3 => appCoreOk c && regOk rd && regOk fs1 && regOk fs2 && regOk rs3
  | .cdFcvtX _ c _ _ rd fs1 rs3 => appCoreOk c && regOk rd && regOk fs1 && regOk rs3
  | .cdFcvtF _ c _ _ fd rs1 rs3 => appCoreOk c && regOk fd && regOk rs1 && regOk rs3
  | .cdFclass _ c _ _ rd fs1 rs3 => appCoreOk c && regOk rd && regOk fs1 && regOk rs3
  | .cdFrebase _ c _ _ fd fs1 rs2 => appCoreOk c && regOk fd && regOk fs1 && regOk rs2
  | .encodedPassIllegal _ c _ _ => appCoreOk c
  | .cdaCsrWrite _ c _ _ _ _ rd _ => coreOk c && regOk rd
  | .tckClsDoneWrite .. => true
  | .tckFrameLowRead _ core rd _ => coreOk core && regOk rd
  | .xchVcountWrite _ core _ => coreOk core
  | .votImgSend _ c _ => coreOk c
  | .votV1ImgLatch .. => true
  | .votCtlSend _ c => coreOk c
  | .voterImageReceive .. => true
  | .voterImageCutoff .. => true
  | .laneWatchdogExpire .. => true
  | .withholdLimitRemove .. => true
  | .voter1Disregard .. => true
  | .statusRecordReceive .. => true
  | .voterDifferenceRecord .. => true
  | .voterDifferenceHalt .. => true
  | .checksumPacketReceive .. => true
  | .realignPageSend .. => true
  | .realignPageReceive .. => true
  | .realignFinalPass .. => true
  | .realignmentAbandon .. => true
  | .stationTimeout _ st => stationOk st
  | .durableReport .. => true
  | .modeRequestConfigure src => sourceOk src
  | .modeRequestDepot src => sourceOk src
  | .modeRequestRun src => sourceOk src
  | .modeRequestShutDown src => sourceOk src
  | .lifecycleToInService src => sourceOk src
  | .lifecycleToDepotOpen src => sourceOk src
  | .lifecycleToRetired src => sourceOk src
  | .wakeInputQualified .. => true
  | .rtcAlarm .. => true
  | .startStepTimeout _ k => stepOk k
  | .wakeWithdrawnTimeout .. => true
  | .c3TimeLimit .. => true
  | .bridgeRegisterStore _ core _ _ size _ _ _ => coreOk core && sizeOk size
  | .bridgeCombinedStore _ core _ _ size _ _ _ => coreOk core && sizeOk size
  | .wcBufferIssue _ core => coreOk core
  | .fence _ core _ => coreOk core
  | .bridgeLoad _ core _ _ size rd _ _ _ _ => coreOk core && sizeOk size && regOk rd
  | .writeResponse .. => true
  | .readResponse .. => true
  | .flushAck .. => true
  | .discardTimerExpire .. => true
  | .linkReset .. => true
  | .brgResetWrite _ core _ _ => coreOk core
  | .linkRetrained .. => true
  | .inboundWrite .. => true
  | .inboundRead .. => true
  | .pdeItemArrive c _ => chanOk c
  | .pdeVdoneWrite .. => true
  | .pdeFetchCutoff => true
  | .sinkTransmitOpportunity c _ _ => chanOk c
  | .pdeGo _ k _ c => coreOk k && chanOk c
  | .pdeDoorbell _ k _ c => coreOk k && chanOk c
  | .pdeAbort _ k _ c => coreOk k && chanOk c
  | .queuedInputItem c _ => chanOk c
  | .queuedOutputComplete c _ => chanOk c
  | .circularInputItem c _ => chanOk c
  | .pdeRdWrite _ k _ c _ => coreOk k && chanOk c
  | .pdeCqClaim _ k _ q _ => coreOk k && queueOk q
  | .pdeCqRelease _ k _ q => coreOk k && queueOk q
  | .pdeCqTailWrite _ k _ q _ => coreOk k && queueOk q
  | .pdeArmWrite _ k _ c => coreOk k && chanOk c
  | .pdeArmSample => true
  | .pdeArmUnmatched c => chanOk c
  | .frameReceive p _ => portOk p
  | .frameEgress p _ => portOk p
  | .quarantineHoldEnd p => portOk p
  | .portReleaseHeld src _ => sourceOk src
  | .portLinkUp p _ => portOk p
  | .portLinkDown p => portOk p
  | .trellisBankSwitch => true
  | .windowClaim src _ => sourceOk src
  | .windowRelease src _ => sourceOk src
  | .harvestPassSend .. => true
  | .harvestFrameReturn .. => true
  | .harvestPassLost .. => true
  | .harvestRingNormal => true
  | .harvestStationMissing .. => true
  | .canFrameReceive ch _ => canOk ch
  | .canTransmitStart ch => canOk ch
  | .canArbitrationLost ch => canOk ch
  | .canTransmitComplete ch => canOk ch
  | .canTransmitError ch _ => canOk ch
  | .canBusOff ch => canOk ch
  | .canHoldoffEnd ch => canOk ch
  | .canRecoveryComplete ch _ => canOk ch
  | .canReleaseBlocked src ch => sourceOk src && canOk ch
  | .canTxcancelWrite _ ch _ => canOk ch
  | .canRestrictedEnd ch _ => canOk ch
  | .canTriggerFire ch _ _ => canOk ch
  | .canServiceSegment ch _ => canOk ch
  | .canSegmentGapTimeout => true
  | .ptpSyncReceive p _ _ => portOk p
  | .syncReceiptTimeout .. => true
  | .holdoverTimeout .. => true
  | .rateUpdate .. => true
  | .syncSend p _ => portOk p
  | .pdelayRequestSend p _ _ => portOk p
  | .setTime src _ _ => sourceOk src
  | .tbSettimeWrite _ core _ _ => coreOk core
  | .tbCapture .. => true
  | .tbLowWordRead _ _ rd _ => regOk rd
  | .connectionReset src k => sourceOk src && connOk k
  | .slyCrcGo _ core _ => coreOk core
  | .slyCrcDone .. => true
  | .inputThresholdCross _ i _ => inputOk i
  | .inputFilterChange _ i _ _ => inputOk i
  | .darkPulseStart _ o _ => outputOk o
  | .darkPulseEnd _ o => outputOk o
  | .readbackChange .. => true
  | .darkSlotCheck _ _ o _ => outputOk o
  | .switchOverloadTrip _ o => outputOk o
  | .voterSilenceTimeout .. => true
  | .brakeCurrentOutOfRange .. => true
  | .brakeProofTest src _ => sourceOk src
  | .proofTestOverdue => true
  | .resetInputRise .. => true
  | .resetInputFall .. => true
  | .resetHeldTimeout => true
  | .serviceRead .. => true
  | .serviceWrite .. => true
  | .serviceInfo .. => true
  | .serviceCancel .. => true
  | .serviceOutcome .. => true
  | .transferTimeout .. => true
  | .laneLocalRequest .. => true
  | .relayEntryExpire => true
  | .configCommit src => sourceOk src
  | .configDiscard src => sourceOk src
  | .configRestoreDefaults src => sourceOk src
  | .dictionaryImageLoad src _ => sourceOk src
  | .trainDirectoryWrite src _ => sourceOk src
  | .tokenRefill p => partnerOk p
  | .partnerThrottle p => partnerOk p
  | .throttleEnd p => partnerOk p
  | .partnerSlotFree p => partnerOk p
  | .cbkSubmit _ core _ => coreOk core
  | .cbkTokenGain .. => true
  | .decantToSd src => sourceOk src
  | .decantToService src => sourceOk src
  | .unfreezeTail src => sourceOk src
  | .reopenFirstFill src => sourceOk src
  | .decantComplete .. => true
  | .stageProgramFromHost src => sourceOk src
  | .stageProgramFromSd src => sourceOk src
  | .stageFirmwareFromHost src => sourceOk src
  | .stageFirmwareFromSd src => sourceOk src
  | .stagingSegmentWrite src _ => sourceOk src
  | .switchProgram src => sourceOk src
  | .gateMessageReceive .. => true
  | .installInService src => sourceOk src
  | .installNextLane => true
  | .installAdmitTimeout => true
  | .hubRunningReport .. => true
  | .hubRestartTimeout => true
  | .installAtNextStart src => sourceOk src
  | .abortRacking src => sourceOk src
  | .discardStaged src => sourceOk src
  | .cooperGo _ core _ => coreOk core
  | .cooperStop _ core _ => coreOk core
  | .cooperRunDone .. => true
  | .repairEntrySubmit src _ => sourceOk src
  | .ageingRecordSubmit src _ => sourceOk src
  | .commandedTest src _ => sourceOk src
  | .avsRaise .. => true
  | .avsLower .. => true
  | .fmaxProjection .. => true
  | .fAllowLower .. => true
  | .ageingReport .. => true
  | .dailyAgeingRecord .. => true
  | .handoverRequest src => sourceOk src
  | .handoverTimeout .. => true
  | .takeHoldoffExpire .. => true
  | .startWaitExpire .. => true
  | .shadowMismatch .. => true
  | .shadowMismatchClear .. => true
  | .mainInputBelowRange .. => true
  | .mainInputLost => true
  | .mainInputRestored .. => true
  | .mainInputOvervoltage .. => true
  | .overvoltageDisconnect .. => true
  | .holdupExhausted => true
  | .holdupRechargeDone => true
  | .dumpComplete .. => true
  | .outputSupplyOutOfRange .. => true
  | .outputSupplyRestored .. => true
  | .keepaliveLow .. => true
  | .boardOvertemperature .. => true
  | .supervisorSupplyLoss .. => true
  | .hubSupplyLoss => true
  | .rcRead _ core _ _ size rd _ _ _ => coreOk core && sizeOk size && regOk rd
  | .w1cWrite _ core _ _ _ _ _ => coreOk core
  | .registerWrite _ core _ _ size _ _ => coreOk core && sizeOk size
  | .startStepComplete _ k _ _ _ => stepOk k
  | .stagingComplete .. => true
  | .sdCardRemoval => true
  | .oscillatorMonitorFault .. => true

end Sys2Proof
end

