-- ==== Sys2Proof/Tests/Slice0.lean ====
section
/-! SUPPORT. The model's own tests. `test_wf_X` shows a command that the check `X` accepts and one that it refuses, at the boundary.
`witness_X` shows, for each clause of the statement `X` that has hypotheses, a small state and operands that meet them, and that the
command answers there as the rule cited by the statement says: the values on the right are read off the rules. -/

namespace Sys2Proof

theorem test_wf_coreOk : (Instr.votCtlSend .a 4).wf = true ∧ (Instr.votCtlSend .a 5).wf = false := by decide
theorem test_wf_appCoreOk : (Instr.taskTrap .a 3 0 0 0 none).wf = true ∧ (Instr.taskTrap .a 4 0 0 0 none).wf = false := by decide
theorem test_wf_classOk : (Instr.overrunBeyondTolerance .a 7).wf = true ∧ (Instr.overrunBeyondTolerance .a 8).wf = false := by decide
theorem test_wf_regOk : (Instr.tbLowWordRead .a false 31 0).wf = true ∧ (Instr.tbLowWordRead .a false 32 0).wf = false := by decide
theorem test_wf_sizeOk : (Instr.registerWrite .a 0 0 0 8 0 .kernel).wf = true ∧ (Instr.registerWrite .a 0 0 0 3 0 .kernel).wf = false := by decide
theorem test_wf_chanOk : (Instr.pdeItemArrive 191 []).wf = true ∧ (Instr.pdeItemArrive 192 []).wf = false := by decide
theorem test_wf_queueOk : (Instr.pdeCqRelease .a 4 0 31).wf = true ∧ (Instr.pdeCqRelease .a 4 0 32).wf = false := by decide
theorem test_wf_canOk : (Instr.canBusOff 7).wf = true ∧ (Instr.canBusOff 8).wf = false := by decide
theorem test_wf_portOk : (Instr.portLinkUp 11 1).wf = true ∧ (Instr.portLinkUp 12 1).wf = false := by decide
theorem test_wf_inputOk : (Instr.inputDisagreementFlag .a 31).wf = true ∧ (Instr.inputDisagreementFlag .a 32).wf = false := by decide
theorem test_wf_outputOk : (Instr.darkPulseEnd .hs 16).wf = true ∧ (Instr.darkPulseEnd .hs 17).wf = false := by decide
theorem test_wf_partnerOk : (Instr.tokenRefill 68).wf = true ∧ (Instr.tokenRefill 69).wf = false := by decide
theorem test_wf_stepOk : (Instr.startStepTimeout .hub 7).wf = true ∧ (Instr.startStepTimeout .hub 8).wf = false := by decide
theorem test_wf_sourceOk : (Instr.decantToSd 255).wf = true ∧ (Instr.decantToSd 256).wf = false := by decide
theorem test_wf_connOk : (Instr.connectionReset 1 255).wf = true ∧ (Instr.connectionReset 1 256).wf = false := by decide
theorem test_wf_stationOk : (Instr.stationTimeout .a 255).wf = true ∧ (Instr.stationTimeout .a 0).wf = false := by decide

end Sys2Proof

namespace Sys2Proof.Machine

set_option Elab.async false

/-- The command answers a next state with property `p`. -/
def answers (o : Host.Outcome State Fault Refusal) (p : State → Bool) : Bool :=
  match o with
  | .next t => p t
  | _ => false

/-- A module in SAFE-3 with three members and an empty agreed image, the lanes' ticks running and the hub and the supervisor supplied. -/
def up : State :=
  let s : State := { State.reset with hub := { supplied := true, mgmtUp := true, markers := true }, md := { mode := .safe3 } }
  let s := onLanes (fun l s => (s.updLane l (fun x => { x with supplied := true })).lfSet l TCK_STATUS_RUN 1) s
  onLanes (fun l s => ((s.loadMode l).lfSet l VOT_V2STAT_MEMBERS 7).lfSet l TCK_CFG_AIMG_KIB 0) (s.enterVote 7)

def v2With (f : Voter → Voter) : State := { up with sup := { up.sup with v2 := f up.sup.v2 } }

theorem witness_TickMarkerAcceptedOrRejected :
    (up.ticking .a = true ∧ (5 : Int).natAbs ≤ 10 * up.lf .a TCK_SYNC_WIN ∧
    answers (exec (.tickMarker .a 5) up) (fun t => decide (t.lf .a TCK_STATUS_MARKER_OK = 1 ∧ (t.lane .a).tick.nextAdj = clampInt (10 * up.lf .a TCK_SYNC_SLEW)
      (0 + clampInt (10 * up.lf .a TCK_SYNC_SLEW) 5))) = true) ∧
    (up.ticking .b = true ∧ 10 * up.lf .b TCK_SYNC_WIN < (-9000000 : Int).natAbs ∧ up.lf .b TCK_STATUS_HUB_LOSS ≠ 1 ∧
    answers (exec (.tickMarker .b (-9000000)) up) (fun t => decide (t.lf .b TCK_STATUS_MARKER_OK = 0 ∧ t.lf .b TCK_CNT_MREJ = 1 ∧ t.lf .b TCK_INT_STAT_MARKER_REJ = 1)) = true) := by decide +kernel

def tickedA (f : LaneTick → LaneTick) : State := up.tickUpd .a f

theorem witness_TickThresholdsAct :
    (let s := tickedA (fun t => { t with rejRun := 16 });
      s.ticking .a = true ∧ s.lf .a TCK_SYNC_LOSS_LIM ≤ (s.lane .a).tick.rejRun ∧ (s.lane .a).tick.rejRun ≠ 0 ∧ s.lf .a TCK_STATUS_HUB_LOSS = 0 ∧
    answers (exec (.hubLossEnter .a) (tickedA (fun t => { t with rejRun := 16 }))) (fun t => decide (t.lf .a TCK_STATUS_HUB_LOSS = 1 ∧ t.lf .a TCK_INT_STAT_HUB_LOSS = 1)) = true) ∧
    (let s := (tickedA (fun t => { t with inRun := 8 })).lfSet .a TCK_STATUS_HUB_LOSS 1;
      s.ticking .a = true ∧ 8 ≤ (s.lane .a).tick.inRun ∧ s.lf .a TCK_STATUS_HUB_LOSS = 1 ∧
    answers (exec (.hubLossLeave .a) ((tickedA (fun t => { t with inRun := 8 })).lfSet .a TCK_STATUS_HUB_LOSS 1)) (fun t => decide (t.lf .a TCK_STATUS_HUB_LOSS = 0)) = true) ∧
    (let s := tickedA (fun t => { t with beatOut := 2 });
      s.ticking .a = true ∧ 2 ≤ (s.lane .a).tick.beatOut ∧ s.lf .a TCK_STATUS_OUT_OF_STEP = 0 ∧
    answers (exec (.laneOutOfStep .a) (tickedA (fun t => { t with beatOut := 2 }))) (fun t => decide (t.lf .a TCK_STATUS_OUT_OF_STEP = 1 ∧ (t.lane .a).rt.withhold = true)) = true) := by decide +kernel

theorem witness_SyncBeatCorrectsToMedian :
    (up.ticking .a = true ∧ up.beatCounts LaneId.a.prev = true ∧ up.beatCounts LaneId.a.next = true ∧ (median3 0 100 300).natAbs ≤ 2000 ∧
    answers (exec (.syncBeat .a (some 100) (some 300)) up) (fun t => decide ((t.lane .a).tick.adj = 100 ∧ (t.lane .a).tick.beatOut = 0)) = true) ∧
    (let s := tickedA (fun t => { t with beatOut := 1 });
      s.ticking .a = true ∧ s.beatCounts LaneId.a.prev = true ∧ s.beatCounts LaneId.a.next = true ∧ 2000 < (median3 0 3000 2001).natAbs ∧
      1 ≤ (s.lane .a).tick.beatOut ∧ s.lf .a TCK_STATUS_OUT_OF_STEP = 0 ∧
    answers (exec (.syncBeat .a (some 3000) (some 2001)) (tickedA (fun t => { t with beatOut := 1 }))) (fun t => decide (t.lf .a TCK_STATUS_OUT_OF_STEP = 1 ∧ (t.lane .a).rt.withhold = true ∧ (t.lane .a).tick.adj = 2001)) = true) ∧
    (up.beatCounts LaneId.a.prev = true ∧
    answers (exec (.syncBeat .a (some (-7)) none) up) (fun t => decide ((t.lane .a).tick.adj = -4)) = true) ∧
    (up.ticking .a = true ∧
    answers (exec (.syncBeat .a none none) up) (fun t => decide ((t.lane .a).tick.adj = 0)) = true) := by decide +kernel

theorem witness_TickAndListRegisters :
    ((up.lane .c).supplied = true ∧
    answers (exec (.tckClsDoneWrite .c 0x105) up) (fun t => decide (t.lf .c TCK_CLS_DONE = 5)) = true) ∧
    ((up.lane .c).supplied = true ∧ 2 < 5 ∧ (up.lfSet .c TCK_FRAME 0x12300000005).lets .c 2 TCK_FRAME.reg 4 false .kernel = true ∧
    answers (exec (.tckFrameLowRead .c 2 7 .kernel) (up.lfSet .c TCK_FRAME 0x12300000005)) (fun t => decide (xReg (t.core .c 2) 7 = 5 ∧ (t.lane .c).tick.frameHi = 0x123)) = true) ∧
    ((256 ≤ 256) ∧ (up.lfSet .a TCK_MODE_MODE 2).laneMode .a = .configure ∧
    answers (exec (.xchVcountWrite .a 4 0) (up.lfSet .a TCK_MODE_MODE 2)) (fun t => decide (mapFind (t.lane .a).tick.dueRegs XCH_VCOUNT.reg = some 0 ∧ t.lf .a XCH_STATUS_VLIST_ERR = 0)) = true) ∧
    (256 < 257 ∧ 257 < 512 ∧ (up.lfSet .a TCK_MODE_MODE 2).laneMode .a = .configure ∧
    answers (exec (.xchVcountWrite .a 4 257) (up.lfSet .a TCK_MODE_MODE 2)) (fun t => decide (t = (up.lfSet .a TCK_MODE_MODE 2))) = true) := by decide +kernel

theorem witness_PhasesFollowEachOther_1 :
    (up.ticking .a = true ∧
    answers (exec (.endOfL .a) up) (fun t => decide (t.lf .a TCK_STATUS_PHASE = 1 ∧ t.lf .a TCK_INT_STAT_END_L = 1 ∧ (t.lane .a).xch.sealed = true)) = true) ∧
    (let s := (((up.lfSet .a XCH_OWN 0x8100).lfSet .a XCH_AGREED 0x8110).lfSet .a XCH_SAFEMAP 0x8120).lfSet .a XCH_VLIST 0x8130;
      s.basesSet .a = true ∧ s.laneMode .a ≠ .split ∧
    answers (exec (.endOfL .a) ((((up.lfSet .a XCH_OWN 0x8100).lfSet .a XCH_AGREED 0x8110).lfSet .a XCH_SAFEMAP 0x8120).lfSet .a XCH_VLIST 0x8130)) (fun t => decide (t.tx.length = 2)) = true) ∧
    ((up.lfSet .a TCK_STATUS_PHASE 1).lf .a TCK_STATUS_PHASE = 1 ∧
    answers (exec (.endOfA .a) (up.lfSet .a TCK_STATUS_PHASE 1)) (fun t => decide (t.lf .a TCK_INT_STAT_END_A = 1 ∧ t.lf .a TCK_STATUS_PHASE = 2)) = true) ∧
    (let s := up.lfSet .a TCK_STATUS_PHASE 2;
      s.lf .a TCK_STATUS_PHASE = 2 ∧ (s.lane .a).tick.stopped = false ∧ safeMode (s.laneMode .a) = true ∧
    answers (exec (.enterPhaseE .a []) (up.lfSet .a TCK_STATUS_PHASE 2)) (fun t => decide (t.lf .a TCK_STATUS_PHASE = 3)) = true) := by decide +kernel

theorem witness_PhasesFollowEachOther_2 :
    ((up.lfSet .a TCK_STATUS_PHASE 3).lf .a TCK_STATUS_PHASE = 3 ∧
    answers (exec (.enterPhaseV .a [] [] 5000) (up.lfSet .a TCK_STATUS_PHASE 3)) (fun t => decide (t.lf .a TCK_STATUS_PHASE = 4)) = true) ∧
    (let s := (tickedA (fun t => { t with stopped := true })).lfSet .a TCK_STATUS_PHASE 6;
      s.ticking .a = true ∧ s.beforeV .a = true ∧ s.tasksRun .a = false ∧
    answers (exec (.enterPhaseV .a [] [] 5000) ((tickedA (fun t => { t with stopped := true })).lfSet .a TCK_STATUS_PHASE 6)) (fun t => decide (t.lf .a TCK_STATUS_PHASE = 6)) = true) ∧
    ((up.lfSet .a TCK_STATUS_PHASE 2).beforeV .a = true ∧
    answers (exec (.safetyDeadline .a [] []) (up.lfSet .a TCK_STATUS_PHASE 2)) (fun t => decide (t.lf .a TCK_STATUS_PHASE = 4)) = true) ∧
    (let s := (tickedA (fun t => { t with stopped := true })).lfSet .a TCK_STATUS_PHASE 4;
      s.ticking .a = true ∧ s.beforeV .a = false ∧ s.tasksRun .a = false ∧ s.lf .a TCK_STATUS_PHASE = 4 ∧
    answers (exec (.safetyDeadline .a [] []) ((tickedA (fun t => { t with stopped := true })).lfSet .a TCK_STATUS_PHASE 4)) (fun t => decide (t.lf .a TCK_STATUS_PHASE = 4 ∧ t.lf .a TCK_INT_STAT_DL_SAFE = 1)) = true) := by decide +kernel

theorem witness_PhasesFollowEachOther_3 :
    (answers (exec (.nonsafetyDeadline .a [] [] 0) ((tickedA (fun t => { t with stopped := true })).lfSet .a TCK_STATUS_PHASE 4)) (fun t => decide (t.lf .a TCK_STATUS_PHASE = 5 ∧ t.lf .a TCK_INT_STAT_DL_NS = 1)) = true) := by decide +kernel

def overrunA : State := (up.lfSet .a TCK_STATUS_OVR_NOW 8).lfSet .a (ovrField 3) 200

theorem witness_OverrunBeyondToleranceStopsLane :
    (overrunA.ticking .a = true ∧ bitOf (overrunA.lf .a TCK_STATUS_OVR_NOW) 3 = true ∧ overrunA.tolOf .a 3 < overrunA.lf .a (ovrField 3) ∧
      (overrunA.lane .a).tick.stopped = false ∧
    answers (exec (.overrunBeyondTolerance .a 3) overrunA) (fun t => decide ((t.lane .a).tick.stopped = true ∧ (t.lane .a).tick.haltSend = 2 ∧ t.lf .a TCK_STATUS_PHASE = 6 ∧ (t.formImage .a false).out = 0 ∧
      (t.formImage .a false).haltReq = true)) = true) ∧
    ((overrunA.tickUpd .a (fun x => { x with inV := true })).ticking .a = true ∧
    answers (exec (.overrunBeyondTolerance .a 3) (overrunA.tickUpd .a (fun x => { x with inV := true }))) (fun t => decide ((t.lane .a).tick.haltSend = 1 ∧ t.tx.length = 2)) = true) := by decide +kernel

def tasked : State := up.updLane .a (fun x => { x with prog := { x.prog with tasks := [{ task := 7, flags := 1 }, { task := 8 }] } })

theorem witness_TrapsAndStationTimeouts :
    (tasked.ticking .a = true ∧ 2 < 4 ∧ tasked.decl .a 7 = some { task := 7, flags := 1 } ∧ ({ task := 7, flags := 1 } : TaskDecl).safe = true ∧
    answers (exec (.taskTrap .a 2 7 13 0x1000 (some 0x20)) tasked) (fun t => decide ((t.core .a 2).trap = some ⟨13, 0x1000, some 0x20⟩ ∧ (t.task .a 7).failed = true)) = true) ∧
    (tasked.decl .a 8 = some { task := 8 } ∧ ({ task := 8 } : TaskDecl).safe = false ∧
    answers (exec (.taskTrap .a 2 8 5 0x1000 none) tasked) (fun t => decide ((t.task .a 8).ended = true ∧ (t.task .a 8).failed = false)) = true) ∧
    (let s := up.coreSet .a 1 (cfSet .a (up.core .a 1) CDA_CTL_PASS 1);
      (s.lane .a).supplied = true ∧ cf .a (s.core .a 1) CDA_CTL_PASS = 1 ∧
    answers (exec (.encodedPassIllegal .a 1 0x40 7) (up.coreSet .a 1 (cfSet .a (up.core .a 1) CDA_CTL_PASS 1))) (fun t => decide ((t.core .a 1).trap = some ⟨2, 0x40, none⟩ ∧ bitOf (cf .a (t.core .a 1) CDA_FAULT) 5 = true ∧ (t.task .a 7).failed = true)) = true) ∧
    (let s := up.stationSet .a 255 { up.station .a 255 with fresh := false, age := 1000000 };
      s.ticking .a = true ∧ 1 ≤ 255 ∧ 255 ≤ 255 ∧ (s.station .a 255).fresh = false ∧ s.stationTimeout 255 ≤ (s.station .a 255).age ∧
    answers (exec (.stationTimeout .a 255) (up.stationSet .a 255 { up.station .a 255 with fresh := false, age := 1000000 })) (fun t => decide ((t.station .a 255).stale = true ∧ (t.station .a 255).safeOk = false ∧ (t.station .a 254) = up.station .a 254)) = true) := by decide +kernel

theorem witness_LaneMemoryReadCorrects_1 :
    ((up.lane .b).supplied = true ∧ 4 < 5 ∧ accessSize 4 = true ∧ inLaneMem 0x08000010 = true ∧ inLaneMem (0x08000010 + 4 - 1) = true ∧ up.lets .b 4 0x08000010 4 false .kernel = true ∧
    answers (exec (.laneMemoryRead .b 4 0x100 0x08000010 4 5 true .load .kernel .clean) (up.lmemSet .b 0x08000010 [1, 2, 3, 0x80])) (fun t => decide (xReg (t.core .b 4) 5 = 0xFFFFFFFF80030201 ∧ (t.lane .b).ecc = 0)) = true) ∧
    (answers (exec (.laneMemoryRead .b 4 0x100 0x08000010 4 5 false .load .kernel .single) (up.lmemSet .b 0x08000010 [1, 2, 3, 0x80])) (fun t => decide (xReg (t.core .b 4) 5 = 0x80030201 ∧ (t.lane .b).ecc = 1)) = true) ∧
    (answers (exec (.laneMemoryRead .b 4 0x100 0x08000010 4 5 true .load .kernel .double) up) (fun t => decide ((t.core .b 4).trap = some ⟨5, 0x100, some 0x08000010⟩ ∧ (t.lane .b).rt.withhold = true)) = true) ∧
    (inLaneRam 0x08000010 = true ∧ 0x08000010 % 4 = 0 ∧ up.lets .b 1 0x08000010 4 true .dispatcher = true ∧
    answers (exec (.laneMemoryRead .b 1 0x100 0x08000010 4 5 true .lr .dispatcher .clean) (up.lmemSet .b 0x08000010 [1, 2, 3, 0x80])) (fun t => decide (xReg (t.core .b 1) 5 = 0xFFFFFFFF80030201 ∧ (t.core .b 1).resv = some (0x08000010, 4))) = true) := by decide +kernel

theorem witness_LaneMemoryReadCorrects_2 :
    (answers (exec (.laneMemoryRead .b 1 0x100 0x08000010 4 5 true (.amo .maxu 5) .dispatcher .clean) (up.lmemSet .b 0x08000010 [1, 2, 3, 0x80])) (fun t => decide (xReg (t.core .b 1) 5 = 0xFFFFFFFF80030201 ∧ t.lmem .b 0x08000010 4 = [1, 2, 3, 0x80])) = true) ∧
    (0x08000012 % 4 ≠ 0 ∧ up.lets .b 1 0x08000012 4 true .kernel = true ∧
    answers (exec (.laneMemoryRead .b 1 0x100 0x08000012 4 5 true (.amo .add 5) .kernel .clean) up) (fun t => decide ((t.core .b 1).trap = some ⟨6, 0x100, some 0x08000012⟩)) = true) := by decide +kernel

theorem witness_EdgesAdvanceFrameCounters :
    (up.ticking .a = true ∧ up.md.due = [] ∧ up.md.closing = none ∧ up.sup.rst.valid = false ∧ (up.lane .a).cfgDue = false ∧
      (∀ p ∈ (up.lane .a).tick.dueRegs, p.1 ≠ TCK_FRAME.reg ∧ p.1 ≠ TCK_STATUS.reg) ∧
    answers (exec (.tickEdge .a 120) (up.lfSet .a TCK_FRAME 0xFFFFFFFFFFFF)) (fun t => decide (t.lf .a TCK_FRAME = 0 ∧ t.lf .a TCK_STATUS_PHASE = 0 ∧ t.lf .a TCK_CLS_DONE = 0 ∧ t.lf .a TCK_INT_STAT_EDGE = 1)) = true) ∧
    (up.sup.supplied = true ∧ ((none : Option Nat).isSome || (some 5 : Option Nat).isSome || (none : Option Nat).isSome) = true ∧
    answers (exec (.supervisorEdge none (some 5) none false none) up) (fun t => decide (t.sup.frame = 1 ∧ t.hub.frame = 0)) = true) ∧
    (up.hub.supplied = true) := by decide +kernel

def packetB : LinkPacket :=
  ⟨.b, .a, up.frame .a, (up.lreg .a XCH_LAYOUT.reg).toNat, List.replicate (up.imageBytes .a) 0, true, true⟩

theorem witness_ExchangeOfImagesAndReceipts_1 :
    (up.ticking .a = true ∧ bitOf (up.lane .a).xch.failed 3 = false ∧ up.packetOk .a packetB = true ∧
      packetB.payload.length = up.imageBytes .a ∧ packetB.layout = (up.lreg .a XCH_LAYOUT.reg).toNat ∧
    answers (exec (.imagePacketReceive .a packetB) up) (fun t => decide (mapFind (t.lane .a).xch.held 1 = some packetB.payload)) = true) ∧
    (up.packetOk .a { packetB with crcOk := false } = false ∧
    answers (exec (.imagePacketReceive .a { packetB with crcOk := false }) up) (fun t => decide (t.lf .a XCH_CNT_LINK_NEXT = 1 ∧ t.lf .a XCH_CNT_LINK_PREV = 0)) = true) ∧
    ({ packetB with src := LaneId.c, layout := 77 }.layout ≠ (up.lreg .a XCH_LAYOUT.reg).toNat ∧
    answers (exec (.imagePacketReceive .a { packetB with src := .c, layout := 77 }) up) (fun t => decide (t.lf .a XCH_CNT_LINK_PREV = 1)) = true) ∧
    (up.laneMode .a ≠ .split ∧
    answers (exec (.imageCutoff .a) up) (fun t => decide (t.lf .a XCH_STATUS_HELD = up.heldSet .a ∧ bitOf (t.lane .a).xch.failed 3 = true ∧ t.tx.length = 2)) = true) := by decide +kernel

theorem witness_ExchangeOfImagesAndReceipts_2 :
    (bitOf (up.lane .a).xch.failed 4 = false ∧ up.packetOk .a packetB = true ∧
    answers (exec (.receiptReceive .a packetB) up) (fun t => decide (mapFind (t.lane .a).xch.receipts 1 = some packetB.payload)) = true) ∧
    (answers (exec (.receiptCutoff .a) up) (fun t => decide (bitOf (t.lane .a).xch.failed 4 = true ∧ inSet (t.lane .a).xch.noReceipt .b = true ∧ inSet (t.lane .a).xch.noReceipt .a = false)) = true) := by decide +kernel

theorem witness_InputDisagreementFlagged :
    (let s := up.updLane .c (fun x => { x with xch := { x.xch with disRun := [(31, 1000)] } });
      s.ticking .c = true ∧ 31 < 32 ∧ s.lf .c XCH_CFG_DIS_LIM ≤ mapGet 0 (s.lane .c).xch.disRun 31 ∧ bitOf (s.lf .c XCH_DIS_IN) 31 = false ∧
    answers (exec (.inputDisagreementFlag .c 31) (up.updLane .c (fun x => { x with xch := { x.xch with disRun := [(31, 1000)] } }))) (fun t => decide (t.lf .c XCH_DIS_IN = 0x80000000 ∧ t.lf .c XCH_INT_STAT_DIS = 1)) = true) ∧
    (let s := (up.lfSet .c XCH_DIS_IN 5).updLane .c (fun x => { x with xch := { x.xch with agreeRun := [(0, 1000)] } });
      s.ticking .c = true ∧ 0 < 32 ∧ s.lf .c XCH_CFG_DIS_LIM ≤ mapGet 0 (s.lane .c).xch.agreeRun 0 ∧ bitOf (s.lf .c XCH_DIS_IN) 0 = true ∧
    answers (exec (.inputDisagreementClear .c 0) ((up.lfSet .c XCH_DIS_IN 5).updLane .c (fun x => { x with xch := { x.xch with agreeRun := [(0, 1000)] } }))) (fun t => decide (t.lf .c XCH_DIS_IN = 4)) = true) := by decide +kernel

def coded (en pass : Nat) (x y p : Word) (fs : List (Nat × Word)) : State :=
  let k := cfSet .a (cfSet .a (cfSet .a (cfSet .a (up.core .a 2) CDA_CTL_EN en) CDA_CTL_PASS pass) CDA_D 5) CDA_S 3
  let k := xSet (xSet (xSet k 1 x) 2 y) 3 p
  up.coreSet .a 2 { k with f := fs }

def xyz : Word := 10 + 20 * 2 ^ 16 + 30 * 2 ^ 32

def cdx (x y : Int) (p : Word) : State := coded 1 1 (codeEnc 10 5 x) (codeEnc 20 5 y) p []

def resultIs (t : State) (rd : Nat) (v : Int) : Prop := xReg (t.core .a 2) rd = codeEnc 30 5 v ∧ cf .a (t.core .a 2) CDA_FAULT = 0
  deriving Decidable

def opd (s : State) (r : Nat) : Word := xReg (s.core .a 2) r

theorem witness_CodedArithmeticResults_1 :
    (let s := cdx 7 (-3) xyz;
      (s.lane .a).supplied = true ∧ cf .a (s.core .a 2) CDA_CTL_EN = 1 ∧ cf .a (s.core .a 2) CDA_CTL_PASS = 1 ∧
      cf .a (s.core .a 2) CDA_D = 5 ∧ codeDec (pkX (opd s 3).toNat) 5 (opd s 1) = some 7 ∧ codeDec (pkY (opd s 3).toNat) 5 (opd s 2) = some (-3) ∧
      sigOk { x := true, y := true, z := true } (opd s 3).toNat = true ∧ inDomain (7 + -3) = true ∧ inDomain (7 - -3) = true ∧
      inDomain (7 * -3) = true ∧ inDomain (Int.tdiv 7 (-3)) = true ∧ inDomain (Int.tmod 7 (-3)) = true ∧
    answers (exec (.cdAdd .a 2 0x40 5 1 2 3) (cdx 7 (-3) xyz)) (fun t => decide (resultIs t 5 4)) = true) ∧
    (answers (exec (.cdSub .a 2 0x40 5 1 2 3) (cdx 7 (-3) xyz)) (fun t => decide (resultIs t 5 10)) = true) ∧
    (answers (exec (.cdMul .a 2 0x40 5 1 2 3) (cdx 7 (-3) xyz)) (fun t => decide (resultIs t 5 (-21))) = true) ∧
    (answers (exec (.cdDiv .a 2 0x40 5 1 2 3) (cdx 7 (-3) xyz)) (fun t => decide (resultIs t 5 (-2))) = true) := by decide +kernel

theorem witness_CodedArithmeticResults_2 :
    (answers (exec (.cdRem .a 2 0x40 5 1 2 3) (cdx 7 (-3) xyz)) (fun t => decide (resultIs t 5 1)) = true) ∧
    (let s := cdx 7 0 xyz;
      codeDec (pkY (opd s 3).toNat) 5 (opd s 2) = some 0 ∧ inDomain 7 = true ∧
    answers (exec (.cdDiv .a 2 0x40 5 1 2 3) (cdx 7 0 xyz)) (fun t => decide (resultIs t 5 (-1))) = true) ∧
    (answers (exec (.cdRem .a 2 0x40 5 1 2 3) (cdx 7 0 xyz)) (fun t => decide (resultIs t 5 7)) = true) ∧
    (let s := cdx (-7) 3 (xyz + 47 * 2 ^ 56);
      sigOk { x := true, y := true, z := true, q := fun q => decide (q ≤ 47) } (opd s 3).toNat = true ∧ pkQ (opd s 3).toNat = 47 ∧
      inDomain (-7 * 3 / 2 ^ 47) = true ∧
    answers (exec (.cdMulq .a 2 0x40 5 1 2 3) (cdx (-7) 3 (xyz + 47 * 2 ^ 56))) (fun t => decide (resultIs t 5 (-1))) = true) := by decide +kernel

def xz : Word := 10 + 30 * 2 ^ 32

theorem witness_CodedUnaryAndBooleanResults_1 :
    (let s := coded 1 1 (BitVec.ofInt 64 (-9)) 0 (30 * 2 ^ 32) [];
      sigOk { z := true } (opd s 3).toNat = true ∧ inDomain (opd s 1).toInt = true ∧ (opd s 1).toInt = -9 ∧
    answers (exec (.cdEnc .a 2 0x40 5 1 3) (coded 1 1 (BitVec.ofInt 64 (-9)) 0 (30 * 2 ^ 32) [])) (fun t => decide (resultIs t 5 (-9))) = true) ∧
    (let s := cdx (-9) 0 10;
      codeDec (pkX (opd s 3).toNat) 5 (opd s 1) = some (-9) ∧ sigOk { x := true } (opd s 3).toNat = true ∧ inDomain (-9) = true ∧
    answers (exec (.cdDec .a 2 0x40 5 1 3) (cdx (-9) 0 10)) (fun t => decide (xReg (t.core .a 2) 5 = BitVec.ofInt 64 (-9))) = true) ∧
    (answers (exec (.cdChk .a 2 0x40 1 3) (cdx (-9) 0 10)) (fun t => decide (cf .a (t.core .a 2) CDA_FAULT = 0)) = true) ∧
    (let s := cdx (-9) 0 xz;
      codeDec (pkX (opd s 3).toNat) 5 (opd s 1) = some (-9) ∧ sigOk { x := true, z := true } (opd s 3).toNat = true ∧
    answers (exec (.cdResig .a 2 0x40 5 1 3) (cdx (-9) 0 xz)) (fun t => decide (resultIs t 5 (-9))) = true) := by decide +kernel

theorem witness_CodedUnaryAndBooleanResults_2 :
    (let s := cdx (-9) 0 (xz + 1 * 2 ^ 56);
      sigOk { x := true, z := true, q := fun q => decide (q ≤ 47) } (opd s 3).toNat = true ∧ inDomain (-9 / 2 ^ 1) = true ∧
    answers (exec (.cdSra .a 2 0x40 5 1 3) (cdx (-9) 0 (xz + 1 * 2 ^ 56))) (fun t => decide (resultIs t 5 (-5))) = true) ∧
    (let s := cdx 200 0 (xz + 8 * 2 ^ 56);
      bitsOf (pkQ (opd s 3).toNat) 6 6 = 0 ∧ 1 ≤ bitsOf (pkQ (opd s 3).toNat) 5 0 ∧ bitsOf (pkQ (opd s 3).toNat) 5 0 ≤ 32 ∧
      sigOk { x := true, z := true, q := fun _ => true } (opd s 3).toNat = true ∧ bitOf (pkQ (opd s 3).toNat) 7 = false ∧
    answers (exec (.cdWrap .a 2 0x40 5 1 3) (cdx 200 0 (xz + 8 * 2 ^ 56))) (fun t => decide (resultIs t 5 200)) = true) ∧
    (let s := cdx 200 0 (xz + 0x88 * 2 ^ 56);
      bitOf (pkQ (opd s 3).toNat) 7 = true ∧ bitsOf (pkQ (opd s 3).toNat) 5 0 = 8 ∧
    answers (exec (.cdWrap .a 2 0x40 5 1 3) (cdx 200 0 (xz + 0x88 * 2 ^ 56))) (fun t => decide (resultIs t 5 (-56))) = true) ∧
    (let s := coded 1 1 (codeEnc 10 32767 77) 32767 xz [];
      (opd s 2).toNat ≠ 0 ∧ (opd s 2).toNat ≤ 32767 ∧ codeDec (pkX (opd s 3).toNat) (opd s 2).toNat (opd s 1) = some 77 ∧ inDomain 77 = true) := by decide +kernel

theorem witness_CodedUnaryAndBooleanResults_3 :
    (let s := cdx 1 0 xyz;
      codeDec (pkX (opd s 3).toNat) 5 (opd s 1) = some 1 ∧ codeDec (pkY (opd s 3).toNat) 5 (opd s 2) = some 0 ∧ isBool 1 = true ∧ isBool 0 = true ∧
    answers (exec (.cdSlt .a 2 0x40 5 1 2 3) (cdx 1 0 xyz)) (fun t => decide (resultIs t 5 0)) = true) ∧
    (answers (exec (.cdSeq .a 2 0x40 5 1 2 3) (cdx 1 1 xyz)) (fun t => decide (resultIs t 5 1)) = true) ∧
    (answers (exec (.cdBand .a 2 0x40 5 1 2 3) (cdx 1 0 xyz)) (fun t => decide (resultIs t 5 0)) = true) ∧
    (answers (exec (.cdBor .a 2 0x40 5 1 2 3) (cdx 1 0 xyz)) (fun t => decide (resultIs t 5 1)) = true) := by decide +kernel

theorem witness_CodedUnaryAndBooleanResults_4 :
    (answers (exec (.cdBnot .a 2 0x40 5 1 3) (cdx 0 0 xz)) (fun t => decide (resultIs t 5 1)) = true) ∧
    (answers (exec (.cdCond .a 2 0x40 5 1 3) (cdx 1 0 10)) (fun t => decide (xReg (t.core .a 2) 5 = 1 ∧ cf .a (t.core .a 2) CDA_ESIG = foldCond (cf .a (up.core .a 2) CDA_ESIG) true)) = true) ∧
    (let s := coded 1 0 3 0 0 [];
      cf .a (s.core .a 2) CDA_CTL_EN = 1 ∧ cf .a (s.core .a 2) CDA_CTL_PASS = 0 ∧
    answers (exec (.cdPfold .a 2 0x40 1) (coded 1 0 3 0 0 [])) (fun t => decide (cf .a (t.core .a 2) CDA_PSIG = foldCond (cf .a (up.core .a 2) CDA_PSIG) true)) = true) := by decide +kernel

theorem witness_CodedFaultsRecorded_1 :
    (let s := cdx 1 2 10;
      sigOk { x := true, y := true, z := true } (opd s 3).toNat = false ∧
    answers (exec (.cdAdd .a 2 0x44 5 1 2 3) (cdx 1 2 10)) (fun t => decide (xReg (t.core .a 2) 5 = 0 ∧ cf .a (t.core .a 2) CDA_FAULT = cdSig ∧ cf .a (t.core .a 2) CDA_FPC = 0x44 ∧ (t.core .a 2).trap = none)) = true) ∧
    (let s := coded 1 1 (codeEnc 10 5 1 + 1) (codeEnc 20 5 1) xyz [];
      sigOk { x := true, y := true, z := true } (opd s 3).toNat = true ∧ codeDec (pkX (opd s 3).toNat) 5 (opd s 1) = none ∧
    answers (exec (.cdSlt .a 2 0x44 5 1 2 3) (coded 1 1 (codeEnc 10 5 1 + 1) (codeEnc 20 5 1) xyz [])) (fun t => decide (xReg (t.core .a 2) 5 = 0 ∧ cf .a (t.core .a 2) CDA_FAULT = cdRes)) = true) ∧
    (inDomain (2 ^ 47 - 1 + 1) = false ∧ inDomain (2 ^ 24 * 2 ^ 24) = false ∧
    answers (exec (.cdAdd .a 2 0x44 5 1 2 3) (cdx (2 ^ 47 - 1) 1 xyz)) (fun t => decide (xReg (t.core .a 2) 5 = 0 ∧ cf .a (t.core .a 2) CDA_FAULT = cdIrange)) = true) ∧
    (answers (exec (.cdMul .a 2 0x44 5 1 2 3) (cdx (2 ^ 24) (2 ^ 24) xyz)) (fun t => decide (cf .a (t.core .a 2) CDA_FAULT = cdIrange)) = true) := by decide +kernel

theorem witness_CodedFaultsRecorded_2 :
    (isBool 2 = false ∧
    answers (exec (.cdBand .a 2 0x44 5 1 2 3) (cdx 2 1 xyz)) (fun t => decide (xReg (t.core .a 2) 5 = 0 ∧ cf .a (t.core .a 2) CDA_FAULT = cdBool)) = true) := by decide +kernel

def cdf (x y z : Nat) (p : Word) : State :=
  coded 1 1 0 15 p [(1, BitVec.ofNat 64 (fEncBits .f64 3 x)), (2, BitVec.ofNat 64 (fEncBits .f64 3 y)), (4, BitVec.ofNat 64 (fEncBits .f64 3 z))]

def two : Nat := 0x4000000000000000

def three : Nat := 0x4008000000000000

def nine : Nat := 0x4022000000000000

def six : Nat := 0x4018000000000000

def floatIs (t : State) (fd v : Nat) : Prop := mapGet 0 (t.core .a 2).f fd = floatBits .f64 (fEncBits .f64 3 v) ∧ cf .a (t.core .a 2) CDA_FAULT = 0
  deriving Decidable

theorem witness_CodedFloatAndMixedResults_1 :
    (let s := cdf three two three 0;
      (s.lane .a).supplied = true ∧ cf .a (s.core .a 2) CDA_S = 3 ∧ outOfRange .f64 (unpack .f64 six) = false ∧ outOfRange .f64 (unpack .f64 nine) = false ∧
    answers (exec (.cdFenc .a 2 0x40 .f64 5 1) (coded 1 1 0 0 0 [(1, BitVec.ofNat 64 two)])) (fun t => decide (floatIs t 5 two)) = true) ∧
    (answers (exec (.cdFmul .a 2 0x40 .f64 5 1 2) (cdf three two 0 0)) (fun t => decide (floatIs t 5 six)) = true) ∧
    (answers (exec (.cdFdiv .a 2 0x40 .f64 5 1 2) (cdf six two 0 0)) (fun t => decide (floatIs t 5 three)) = true) ∧
    (answers (exec (.cdFsqrt .a 2 0x40 .f64 5 1) (cdf nine 0 0 0)) (fun t => decide (floatIs t 5 three)) = true) := by decide +kernel

theorem witness_CodedFloatAndMixedResults_2 :
    (answers (exec (.cdFmadd .a 2 0x40 .f64 5 1 2 4) (cdf three two three 0)) (fun t => decide (floatIs t 5 nine)) = true) ∧
    (answers (exec (.cdFsgnjx .a 2 0x40 .f64 5 1 2) (cdf three two 0 0)) (fun t => decide (floatIs t 5 three)) = true) ∧
    (answers (exec (.cdFdec .a 2 0x40 .f64 5 1) (cdf three two 0 0)) (fun t => decide (mapGet 0 (t.core .a 2).f 5 = BitVec.ofNat 64 three)) = true) ∧
    (sigOk { z := true } (30 * 2 ^ 32) = true ∧
    answers (exec (.cdFlt .a 2 0x40 .f64 5 1 2 3) (cdf three two 0 (30 * 2 ^ 32))) (fun t => decide (resultIs t 5 0)) = true) := by decide +kernel

theorem witness_CodedFloatAndMixedResults_3 :
    (answers (exec (.cdFle .a 2 0x40 .f64 5 1 2 3) (cdf three three 0 (30 * 2 ^ 32))) (fun t => decide (resultIs t 5 1)) = true) ∧
    (answers (exec (.cdFeq .a 2 0x40 .f64 5 1 2 3) (cdf three two 0 (30 * 2 ^ 32))) (fun t => decide (resultIs t 5 0)) = true) ∧
    (answers (exec (.cdFclass .a 2 0x40 .f64 5 1 3) (cdf three two 0 (30 * 2 ^ 32))) (fun t => decide (resultIs t 5 (2 ^ 6))) = true) ∧
    (let p := 30 * 2 ^ 32 + 1 * 2 ^ 56;
      sigOk { z := true, q := cvtQ } p = true ∧ inDomain (fConvert (bitsOf (pkQ p) 2 0) (cvtRange (pkQ p)).1 (cvtRange (pkQ p)).2 (unpack .f64 six)) = true ∧
    answers (exec (.cdFcvtX .a 2 0x40 .f64 5 1 3) (cdf six 0 0 (30 * 2 ^ 32 + 1 * 2 ^ 56))) (fun t => decide (resultIs t 5 6)) = true) := by decide +kernel

theorem witness_CodedFloatAndMixedResults_4 :
    (sigOk { x := true, q := fun q => decide (q ≤ 4) } 10 = true) ∧
    ((15 : Word).toNat ≠ 0 ∧ (15 : Word).toNat ≤ 15) := by decide +kernel

theorem witness_CodedCsrWritesAndIllegal_1 :
    ((up.lane .a).supplied = true ∧ 0x7C0 ≤ 0x7CA ∧ 0x7CA ≤ 0x7CF ∧ 2 < 5 ∧
    answers (exec (.cdaCsrWrite .a 2 0x40 .m .rw 0x7CA 6 1) up) (fun t => decide ((t.core .a 2).trap = some ⟨2, 0x40, none⟩)) = true) ∧
    (answers (exec (.cdaCsrWrite .a 4 0x40 .m .rs 0x7C0 6 1) up) (fun t => decide ((t.core .a 4).trap = some ⟨2, 0x40, none⟩)) = true) ∧
    (answers (exec (.cdaCsrWrite .a 2 0x40 .u .rc 0x7C0 6 0) up) (fun t => decide ((t.core .a 2).trap = some ⟨2, 0x40, none⟩)) = true) ∧
    (2 < 4 ∧ 0x7C6 < 0x7CA ∧ csrNew .rw 63 5 = some 5 ∧
    answers (exec (.cdaCsrWrite .a 2 0x40 .m .rw 0x7C6 6 5) (up.coreSet .a 2 (setFault .a (up.core .a 2) 63 0x40))) (fun t => decide ((coreCsr .a (t.core .a 2) 0x7C6).toNat % 64 = 58 ∧ xReg (t.core .a 2) 6 = 63)) = true) := by decide +kernel

theorem witness_CodedCsrWritesAndIllegal_2 :
    (answers (exec (.cdaCsrWrite .a 2 0x40 .m .rs 0x7C0 6 7) up) (fun t => decide ((coreCsr .a (t.core .a 2) 0x7C0).toNat % 8 = 3)) = true) ∧
    (answers (exec (.cdaCsrWrite .a 2 0x40 .m .rw 0x7C5 0 0xFFFFFFFF) up) (fun t => decide ((coreCsr .a (t.core .a 2) 0x7C5).toNat % 2 ^ 32 = 0xFFFFFFFF)) = true) ∧
    (answers (exec (.cdaCsrWrite .a 2 0x40 .m .rc 0x7C1 6 0xFFFFFFFF) up) (fun t => decide (coreCsr .a (t.core .a 2) 0x7C1 = coreCsr .a (up.core .a 2) 0x7C1)) = true) ∧
    ((up.lane .a).supplied = true ∧ cf .a (up.core .a 2) CDA_CTL_EN = 0 ∧
    answers (exec (.cdAdd .a 2 0x40 5 1 2 3) up) (fun t => decide ((t.core .a 2).trap = some ⟨2, 0x40, none⟩)) = true) := by decide +kernel

theorem witness_CodedCsrWritesAndIllegal_3 :
    (answers (exec (.cdFclass .a 4 0x40 .f32 5 1 3) up) (fun t => decide ((t.core .a 4).trap = some ⟨2, 0x40, none⟩)) = true) ∧
    (answers (exec (.cdRebase .a 4 0x40 5 1 2 3) up) (fun t => decide ((t.core .a 4).trap = some ⟨2, 0x40, none⟩)) = true) := by decide +kernel

def askImg (l : LaneId) (o m : Nat) : Image := { frame := 0, out := o, mode := m, lane := l.idx }

def voterWith (cls mem : Nat) (split : Bool) (oa ob oc m : Nat) : Voter :=
  { members := mem, classes := cls, split := split, la := { recv := .valid, img := askImg .a oa m }, lb := { recv := .valid, img := askImg .b ob m },
    lc := { recv := .valid, img := askImg .c oc m } }

theorem witness_VoterDecidesFromTwoMembers_1 :
    (let v := { voterWith 0x11111 7 false 1 1 0 3 with halt := true }; v.halt = true ∧ bitOf v.verdict 0 = false) ∧
    (let v := voterWith 0x11111 7 false 1 1 0 3;
      v.halt = false ∧ v.split = false ∧ v.clsOf 0 = 1 ∧ bitOf v.verdict 0 = true ∧ bitOf v.verdict 1 = false) ∧
    (let v := voterWith 0x11112 5 false 1 1 0 3; v.clsOf 0 = 2 ∧ bitOf v.verdict 0 = false) ∧
    (let v := voterWith (3 * 2 ^ 60) 1 false 0x8000 0 0 4;
      v.clsOf 15 = 3 + LaneId.a.idx ∧ bitOf v.verdict 15 = true ∧ v.clsOf 0 = 0 ∧ bitOf v.verdict 0 = false) := by decide +kernel

theorem witness_VoterDecidesFromTwoMembers_2 :
    (let v := voterWith 0x000421 0 true 15 15 0 5;
      v.halt = false ∧ v.split = true ∧ v.clsOf 0 = 1 ∧ bitOf v.verdict 0 = false ∧ v.clsOf 1 = 2 ∧ v.ownOf 1 = LaneId.a.idx ∧
      bitOf v.verdict 1 = true ∧ v.clsOf 2 = 3 + LaneId.b.idx ∧ bitOf v.verdict 2 = true ∧ v.clsOf 3 = 0 ∧ bitOf v.verdict 3 = false) := by decide +kernel

def sampleImg (frame lane mapid : Nat) : List Byte :=
  let h := leBytes 8 frame ++ leBytes 4 3 ++ leBytes 4 (3 * 2 ^ 24 + lane * 16) ++ leBytes 4 mapid ++ leBytes 8 0
  h ++ leBytes 4 (crc32c h)

theorem witness_VotePortSendsAndConfigures_1 :
    ((up.lane .a).supplied = true ∧ (2 : Nat) ≠ 4 ∧
    answers (exec (.votImgSend .a 4 0x12345678) up) (fun t => decide (t.tx.length = 1)) = true) ∧
    (answers (exec (.votImgSend .a 2 0x12345678) up) (fun t => decide (t = up)) = true) ∧
    (answers (exec (.votCtlSend .a 2) up) (fun t => decide (t = up)) = true) ∧
    (let s := (List.range 8).foldl (fun s i => s.lfSet .a (VOT_V1_IMG i) (leAt (sampleImg 0 0 0) (4 * i) 4)) up;
      s.hub.supplied = true ∧ s.v1.cut = false ∧ (s.v1.ln .a).recv ≠ .valid ∧
      imageCheck s.v1 .a ((List.range 8).flatMap (fun i => leBytes 4 (if i = 7 then (BitVec.ofNat 64 (leAt (sampleImg 0 0 0) 28 4)).toNat % 2 ^ 32 else s.lf .a (VOT_V1_IMG i)))) = 0 ∧
    answers (exec (.votV1ImgLatch .a (BitVec.ofNat 64 (leAt (sampleImg 0 0 0) 28 4))) ((List.range 8).foldl (fun s i => s.lfSet .a (VOT_V1_IMG i) (leAt (sampleImg 0 0 0) (4 * i) 4)) up)) (fun t => decide ((t.v1.ln .a).recv = .valid ∧ (t.v1.ln .a).img.out = 3)) = true) := by decide +kernel

theorem witness_VotePortSendsAndConfigures_2 :
    (let sent := [0, 0, 0, 0x230000];
      let s : State := { up with sup := { up.sup with v2 := { up.sup.v2 with cfg := [(1, sent), (2, sent)] } } };
      s.sup.supplied = true ∧ setBits (setBits (setBit (s.lf .a VOT_CTL) 0 false) 23 20 2) 19 16 3 = 0x230000 ∧ mapFind s.sup.v2.cfg 1 = some sent ∧ mapFind s.sup.v2.cfg 2 = some sent ∧
    answers (exec (.votCtlSend .a 4) ({ up with sup := { up.sup with v2 := { up.sup.v2 with cfg := [(1, [0, 0, 0, 0x230000]), (2, [0, 0, 0, 0x230000])] } } })) (fun t => decide (t.sup.v2.cfgOk = true ∧ t.sup.v2.wdLim = 2 ∧ t.sup.v2.whLim = 3)) = true) ∧
    (mapFind up.sup.v2.cfg 1 ≠ some [0, 0, 0, 0x230000] ∧ (up.lane .b).supplied = true ∧
    answers (exec (.votCtlSend .a 4) up) (fun t => decide (t.sup.v2.cfgOk = false)) = true) := by decide +kernel

theorem witness_VoterKeepsFirstValidImage_1 :
    (let img := sampleImg 0 1 0;
      up.voterUp .v2 = true ∧ (up.voter .v2).cut = false ∧ ((up.voter .v2).ln .b).recv ≠ .valid ∧ img.length = 32 ∧ crc32c (img.take 28) = leAt img 28 4 ∧
      (parseImage img).frame = (up.voter .v2).frame ∧ (parseImage img).lane = 1 ∧ (parseImage img).mapid = (up.voter .v2).mapid ∧ imageReserved img = true ∧
    answers (exec (.voterImageReceive .v2 .b (sampleImg 0 1 0)) up) (fun t => decide (((t.voter .v2).ln .b).recv = .valid ∧ ((t.voter .v2).ln .b).img.out = 3 ∧ ((t.voter .v2).ln .b).img.mode = 3)) = true) ∧
    ((((up.voterReceive .v2 .b (sampleImg 0 1 0)).voter .v2).ln .b).recv = .valid ∧
    answers (exec (.voterImageReceive .v2 .b (sampleImg 9 1 0)) (up.voterReceive .v2 .b (sampleImg 0 1 0))) (fun t => decide (((t.voter .v2).ln .b).img.frame = 0 ∧ t.lf .b VOT_CNT_DUP = 1)) = true) ∧
    (¬ (parseImage (sampleImg 9 1 0)).frame = (up.voter .v1).frame ∧
    answers (exec (.voterImageReceive .v1 .b (sampleImg 9 1 0)) up) (fun t => decide (((t.voter .v1).ln .b).recv = .invalid ∧ t.hf VOT_V1_CNT_INVALID = 1)) = true) ∧
    (let s := up.voterSet .v1 { up.v1 with cut := true }; (s.voter .v1).cut = true ∧
    answers (exec (.voterImageReceive .v1 .b (sampleImg 0 1 0)) (up.voterSet .v1 { up.v1 with cut := true })) (fun t => decide (t = (up.voterSet .v1 { up.v1 with cut := true }))) = true) := by decide +kernel

theorem witness_VoterKeepsFirstValidImage_2 :
    (answers (exec (.voterImageCutoff .v1) up) (fun t => decide ((t.voter .v1).cut = true ∧ ((t.voter .v1).ln .c).recv = .late)) = true) := by decide +kernel

theorem witness_LimitsRemoveALane_1 :
    (let s := v2With (fun v => { v with lb := { v.lb with miss := 2 } });
      s.sup.supplied = true ∧ s.sup.v2.halt = false ∧ inSet s.sup.v2.members .b = true ∧ s.sup.v2.split = false ∧ s.sup.v2.wd ≤ (s.sup.v2.ln .b).miss ∧
      runMode s.md.mode = true ∧ 2 ≤ laneSetCount (nAndNot s.sup.v2.members (2 ^ LaneId.b.idx)) ∧
    answers (exec (.laneWatchdogExpire .b) (v2With (fun v => { v with lb := { v.lb with miss := 2 } }))) (fun t => decide (t.sup.v2.members = 5 ∧ t.sup.v2.halt = false ∧ (t.lane .b).restart = some (2, true) ∧ (t.lane .b).supplied = true)) = true) ∧
    (let s := v2With (fun v => { v with members := 3, lb := { v.lb with miss := 2 } });
      laneSetCount (nAndNot s.sup.v2.members (2 ^ LaneId.b.idx)) < 2 ∧ s.sup.v2.wd ≤ (s.sup.v2.ln .b).miss ∧
    answers (exec (.laneWatchdogExpire .b) (v2With (fun v => { v with members := 3, lb := { v.lb with miss := 2 } }))) (fun t => decide (t.sup.v2.members = 1 ∧ t.sup.v2.halt = true ∧ t.sup.v2.out = 0)) = true) ∧
    (let s := v2With (fun v => { v with lb := { v.lb with whRun := 3 } });
      s.sup.v2.wh ≤ (s.sup.v2.ln .b).whRun ∧ safeMode s.md.mode = true) ∧
    (let s := v2With (fun v => { v with split := true, lb := { v.lb with miss := 2 } });
      s.sup.v2.split = true ∧ inSet s.sup.v2.disregarded .b = false ∧ s.sup.v2.wd ≤ (s.sup.v2.ln .b).miss) := by decide +kernel

theorem witness_LimitsRemoveALane_2 :
    (let s := up.voterSet .v1 { up.v1 with split := true, members := 7, lc := { up.v1.lc with miss := 2 } };
      s.hub.supplied = true ∧ s.v1.split = true ∧ s.v1.wd ≤ (s.v1.ln .c).miss ∧ inSet s.v1.members .c = true ∧ inSet s.v1.disregarded .c = false ∧
    answers (exec (.voter1Disregard .c) (up.voterSet .v1 { up.v1 with split := true, members := 7, lc := { up.v1.lc with miss := 2 } })) (fun t => decide (inSet t.v1.disregarded .c = true ∧ (t.lane .c).supplied = true)) = true) := by decide +kernel

def record : StatusRecord := { frame := 0xFFFFFFFFFFFF, members := 5, halt := true, out := 0x10001, candOk := 0, outcome := 0xABC }

theorem witness_StatusRecordsAndVoterDifferences :
    (up.ticking .a = true ∧
    answers (exec (.statusRecordReceive .a record true) up) (fun t => decide (t.lf .a VOT_V2FRAME = 0xFFFFFFFFFFFF ∧ t.lf .a VOT_V2STAT_MEMBERS = 5 ∧ t.lf .a VOT_V2STAT_HALT = 1 ∧ t.lf .a VOT_V2OUT = 0x10001 ∧ t.lf .a VOT_V2STAT_OUTCOME = 0xABC ∧ t.lf .a VOT_V2STAT_VALID = 1)) = true) ∧
    (answers (exec (.statusRecordReceive .a record false) up) (fun t => decide (t.lf .a VOT_V2STAT_VALID = 0 ∧ t.lf .a VOT_V2STAT_MEMBERS = 7)) = true) ∧
    (let s := up.updLane .a (fun x => { x with rt := { x.rt with vDiff := 2 } });
      2 ≤ (s.lane .a).rt.vDiff ∧ (s.lane .a).rt.vRec = false ∧
    answers (exec (.voterDifferenceRecord .a) (up.updLane .a (fun x => { x with rt := { x.rt with vDiff := 2 } }))) (fun t => decide ((t.lane .a).rt.vRec = true)) = true) ∧
    (let s := up.updLane .a (fun x => { x with rt := { x.rt with mDiff := 8 } });
      s.inVote .a = true ∧ (8 ≤ (s.lane .a).rt.vDiff ∨ 8 ≤ (s.lane .a).rt.mDiff) ∧
    answers (exec (.voterDifferenceHalt .a) (up.updLane .a (fun x => { x with rt := { x.rt with mDiff := 8 } }))) (fun t => decide ((t.formImage .a false).haltReq = true ∧ (t.formImage .a true).out = 0)) = true) := by decide +kernel

def sumPkt (s : State) (l : LaneId) (src : LaneId) : LinkPacket :=
  ⟨src, l, s.frame l, 0, List.replicate 16 7 ++ leBytes 4 (s.smapid l) ++ List.replicate 16 7, true, true⟩

def goodSum (s : State) (l : LaneId) (p : LinkPacket) : Prop := p.crcOk = true ∧ p.nframeOk = true ∧ p.frame = s.frame l ∧ p.dst = l ∧ p.src ≠ l ∧
  p.payload.length = 36 ∧ (parseSum p.payload).smapid = s.smapid l
  deriving Decidable

def donor : State := (up.lfSet .a VOT_RLN_ROLE 1).updLane .a (fun x => { x with sum := { x.sum with target := some .c, marked := [3], dirtyPass := [] } })

def mapped (role : Nat) : State := ((up.lfSet .c VOT_RLN_ROLE role).lfSet .c VOT_SCFG_ENTRIES 1).lmemSet .c ((up.lreg .c VOT_SMAP.reg).toNat) [0, 0x80, 0, 0, 2, 0, 0, 0]

def page : List Byte := List.replicate 4096 0

def pagePkt (s : State) (crc : Nat) : LinkPacket := ⟨.a, .c, 0, 0, leBytes 4 1 ++ leBytes 4 (s.smapid .c) ++ leBytes 4 crc ++ leBytes 4 0 ++ page, true, true⟩

/-- A page packet has the length that R188 gives it; a witness of `RealignmentPagesStored`. -/
theorem witness_pageLength (crc : Nat) : (pagePkt (mapped 2) crc).payload.length = 4112 := by
  show (leBytes 4 1 ++ leBytes 4 ((mapped 2).smapid .c) ++ leBytes 4 crc ++ leBytes 4 0 ++ page).length = 4112
  simp only [List.length_append, page, List.length_replicate]
  rfl

theorem crc32c_lt (bs : List Byte) : crc32c bs < 2 ^ 32 := BitVec.isLt _
theorem crcField (n k : Nat) (bs : List Byte) (hn : n < 2 ^ 32) :
    leAt (leBytes 4 1 ++ leBytes 4 k ++ leBytes 4 n ++ leBytes 4 0 ++ bs) 8 4 = n := by
  have h : leAt (leBytes 4 1 ++ leBytes 4 k ++ leBytes 4 n ++ leBytes 4 0 ++ bs) 8 4 = leNat (leBytes 4 n) := rfl
  rw [h]
  simp only [leNat, leBytes, BitVec.toNat_ofNat]
  omega
/-- A page packet carries the CRC that it is given; a witness of `RealignmentPagesStored`. -/
theorem witness_pageCrc : leAt (pagePkt (mapped 2) (crc32c page)).payload 8 4 = crc32c page :=
  crcField _ _ _ (crc32c_lt page)

theorem witness_RealignmentPagesStored_1 :
    (up.ticking .a = true ∧ goodSum up .a (sumPkt up .a .c) ∧ (sumPkt up .a .c).src = LaneId.a.prev ∧
    answers (exec (.checksumPacketReceive .a (sumPkt up .a .c)) up) (fun t => decide (t.lf .a VOT_SUM_PREV = (parseSum (sumPkt up .a .c).payload).crc ∧ (t.lane .a).sum.prev = some (parseSum (sumPkt up .a .c).payload))) = true) ∧
    (goodSum up .a (sumPkt up .a .b) ∧ (sumPkt up .a .b).src = LaneId.a.next ∧
    answers (exec (.checksumPacketReceive .a (sumPkt up .a .b)) up) (fun t => decide ((t.lane .a).sum.next = some (parseSum (sumPkt up .a .b).payload))) = true) ∧
    (¬ goodSum up .a { sumPkt up .a .b with crcOk := false } ∧
    answers (exec (.checksumPacketReceive .a { sumPkt up .a .b with crcOk := false }) up) (fun t => decide (t = up)) = true) ∧
    (donor.ticking .a = true ∧ donor.lf .a VOT_RLN_ROLE = 1 ∧ (donor.lane .a).sum.target = some .c ∧ nextPage (donor.lane .a).sum = some (3, 1)) := by decide +kernel

theorem witness_RealignmentPagesStored_2 :
    (let s := mapped 2;
      s.ticking .c = true ∧ 2 ≤ s.lf .c VOT_RLN_ROLE ∧ (pagePkt s 0).dst = .c ∧ leAt (pagePkt s 0).payload 0 4 = 1 ∧ leAt (pagePkt s 0).payload 4 4 = s.smapid .c ∧ byteAt (pagePkt s 0).payload 12 ≤ 2 ∧ 1 < s.smapPages .c ∧ { pagePkt s 0 with crcOk := false }.crcOk = false) := by decide +kernel

def finalS : State := onLanes (fun l s => if l = .c then s else s.updLane l (fun x => { x with sum := { x.sum with
    target := some .c, was := [(0, parseSum []), (1, parseSum [])], marked := [9] } }))
  ((v2With (fun v => { v with members := 3 })).lfSet .c VOT_RLN_ROLE 2)

def abandonS (n : Nat) : State := (((v2With (fun v => { v with members := 3 })).lfSet .c VOT_RLN_ROLE 2).lfSet .a VOT_SCFG_ENTRIES 1).updLane .c (fun x => { x with sum := { x.sum with bulkStart := 2 ^ 48 - 1000000, attempts := List.replicate n 0 } })

theorem witness_RealignmentEndsOrIsAbandoned :
    (finalS.memberList = [.a, .b] ∧ (finalS.lane .a).sum.target = some .c ∧ (finalS.lane .b).sum.target = some .c ∧ finalS.lf .c VOT_RLN_ROLE = 2 ∧ LaneId.c ≠ .a ∧ LaneId.c ≠ .b ∧ finalS.finalReady .a .b = true ∧
    answers (exec (.realignFinalPass .c) finalS) (fun t => decide (t.lf .c VOT_RLN_ROLE = 3 ∧ (t.lane .c).rt.cand = true ∧ (t.lane .a).sum.finalPass = [9])) = true) ∧
    (let s := abandonS 100;
      s.memberList = [.a, .b] ∧ s.sup.supplied = true ∧ s.lf .c VOT_RLN_ROLE = 2 ∧ (s.obj 0x1141 5 : Int) ≤ frameDiff s.sup.frame (s.lane .c).sum.bulkStart ∧ s.lf .a VOT_SCFG_ENTRIES ≠ 0 ∧ s.obj 0x1141 3 ≤ (s.recentAttempts .c).length ∧
    answers (exec (.realignmentAbandon .c) (abandonS 100)) (fun t => decide ((t.lane .c).out = true)) = true) ∧
    (let s := abandonS 0;
      (s.obj 0x1141 5 : Int) ≤ frameDiff s.sup.frame (s.lane .c).sum.bulkStart ∧ (s.recentAttempts .c).length < s.obj 0x1141 3 ∧
    answers (exec (.realignmentAbandon .c) (abandonS 0)) (fun t => decide (t.lf .c VOT_RLN_ROLE = 2 ∧ (t.lane .c).sum.bulkStart = 0 ∧ (t.lane .c).sum.attempts = [0])) = true) := by decide +kernel

def durableS (flag : Bool) : State := { up with sup := { up.sup with ka := { up.sup.ka with durable := [(1, 64)], reported := [(1, 64)], commitFlag := flag, q := 32 } } }

theorem witness_DurableReportsFormQ :
    ((durableS true).sup.supplied = true ∧ (1, 64) ∈ (durableS true).sup.ka.reported ∧ 1 ≠ LaneId.a.idx ∧ frameGe 64 (durableS true).sup.ka.q = true ∧
    answers (exec (.durableReport .a 64 [1, 2] 9) (durableS true)) (fun t => decide (t.sup.ka.q = 64 ∧ t.sup.ka.commitFlag = true ∧ t.sup.ka.commitId = padTo 16 [1, 2] ∧ t.sup.ka.commitLayout = 9)) = true) ∧
    ((∀ p ∈ (durableS false).sup.ka.reported, p.1 = LaneId.a.idx ∨ p.2 ≠ 63) ∧ (durableS false).sup.ka.commitFlag = false ∧
    answers (exec (.durableReport .a 63 [1, 2] 9) (durableS false)) (fun t => decide (t.sup.ka.q = 32 ∧ t.sup.ka.commitFlag = false ∧ mapFind t.sup.ka.durable 0 = some 63 ∧ (0, 63) ∈ t.sup.ka.reported)) = true) := by decide +kernel

def linked : State := onLanes (fun l s => s.lfSet l BRG_STATUS_LINK_UP 1) { up with pde := { up.pde with armed := true } }

def chS (c mode place kind state : Nat) : State :=
  let s := ((((linked.hfSet (PDE_CFG_MODE c) mode).hfSet (PDE_CFG_PLACE c) place).hfSet (PDE_SRC_KIND c) kind).hfSet (PDE_STAT_STATE c) state)
  ((s.hfSet (PDE_BANK0 c) 0x1000).hfSet (PDE_BANK1 c) 0x1100).hfSet (PDE_SIZE_SIZE c) 64

def sealedS : State := (linked.lmemSet .a ((linked.lreg .a XCH_VLIST.reg).toNat) (leBytes 4 0)).updLane .a (fun x => { x with xch := { x.xch with sealed := true } })

theorem witness_CyclicItemsReachTheOpenBank_1 :
    (linked.linkUp .a = true ∧ 1 ≤ [(1 : Byte), 2].length ∧ [(1 : Byte), 2].length ≤ 64 ∧ exchangeSize < 0x1FFFFF + [(1 : Byte), 2].length ∧
    answers (exec (.inboundWrite .a 0x1FFFFF [1, 2] none) linked) (fun t => decide (t.lf .a BRG_CNT_INB = 1 ∧ t.lf .a BRG_INT_STAT_INB = 1 ∧ t.tx.length = 1)) = true) ∧
    (0x1FFFFE + [(1 : Byte), 2].length ≤ exchangeSize ∧ linked.sealedHit .a 0x1FFFFE 2 = false ∧
    answers (exec (.inboundWrite .a 0x1FFFFE [1, 2] none) linked) (fun t => decide (t.lmem .a (exchangeBase + 0x1FFFFE) 2 = [1, 2])) = true) ∧
    ([(3 : Byte), 4].length ≤ 8 ∧ exchangeBase ≤ exchangeBase + 0x1FFFFE ∧ exchangeBase + 0x1FFFFE + 2 ≤ exchangeBase + exchangeSize ∧
    answers (exec (.inboundWrite .a 0x1FFFFE [1, 2] (some (exchangeBase + 0x1FFFFE, [3, 4], true))) linked) (fun t => decide (t.lmem .a (exchangeBase + 0x1FFFFE) 2 = [3, 4])) = true) ∧
    (answers (exec (.inboundRead .a 0 4) linked) (fun t => decide (t.tx.length = 1)) = true) := by decide +kernel

theorem witness_CyclicItemsReachTheOpenBank_2 :
    (answers (exec (.inboundRead .a 0x1FFFFF 4) linked) (fun t => decide (t.tx.length = 1 ∧ t.lf .a BRG_INT_STAT_INB = 1)) = true) ∧
    (let s := chS 191 1 1 2 2;
      191 < 192 ∧ s.hf (PDE_CFG_MODE 191) = 1 ∧ s.pdeState 191 = 2 ∧ s.hf (PDE_SRC_KIND 191) ≠ 1 ∧ 0x1100 = (if (s.hub.frame + 1) % 2 = 0 then s.hf (PDE_BANK0 191) else s.hf (PDE_BANK1 191)) ∧
      [(7 : Byte), 8].length + 16 ≤ s.hf (PDE_SIZE_SIZE 191) ∧ s.sealedHit .a (0x1100 + 16) 2 = false ∧ placeHas (s.hf (PDE_CFG_PLACE 191)) .a = true ∧ placeHas (s.hf (PDE_CFG_PLACE 191)) .b = false ∧
    answers (exec (.pdeItemArrive 191 [7, 8]) (chS 191 1 1 2 2)) (fun t => decide ((t.chan 191).held = some ⟨2, 0, [7, 8], crc32c [7, 8]⟩ ∧ t.lmem .a (exchangeBase + 0x1110) 2 = [7, 8] ∧ t.hf (PDE_CNT_DROP_SUPERSEDED 191) = 0)) = true) := by decide +kernel

def vdS (m rung : Nat) : State := let s := linked.hfSet VOT_V1_STATUS_MEMBERS m; { s with pde := { s.pde with vdone := rung } }

def outItem : List Byte := let p := [(9 : Byte), 8, 7]; tagBytes (crc32c p) 6 3 0 0 ++ p

def fetchS : State := ((chS 5 2 1 3 2).hfSet VOT_V1_STATUS_MEMBERS 7).lmemSet .a (exchangeBase + 0x1000) outItem

def sendS (kind : Nat) : State := (chS 5 2 1 kind 2).chanUpd 5 (fun x => { x with out := some ⟨6, 0, [1, 2, 3], crc32c [1, 2, 3]⟩ })

def sendE (link : Nat) : State := let s := ((sendS 1).storedSet 0x3200 5 (leBytes 2 1)).hfSet (SW_PSTAT_LINK 0) link; { s with net := { s.net with started := true } }

theorem witness_LastMemberStartsTheFetch_1 :
    (linked.hub.supplied = true ∧ linked.pde.fetched = false ∧ linked.pde.armed = true ∧ 1 % 65536 ≠ linked.hub.frame % 65536 ∧
    answers (exec (.pdeVdoneWrite .b 1) linked) (fun t => decide (t.hf PDE_GCNT_VDONE_BAD = 1)) = true) ∧
    (let s := vdS 7 0; inSet (s.hf VOT_V1_STATUS_MEMBERS) .a = true ∧ inSet s.pde.vdone .a = false ∧
    answers (exec (.pdeVdoneWrite .b 0) (vdS 7 0)) (fun t => decide (inSet t.pde.vdone .b = true ∧ t.pde.fetched = false)) = true) ∧
    (let s := vdS 7 5; inSet (s.hf VOT_V1_STATUS_MEMBERS) .b = true ∧ inSet s.pde.vdone .a = true ∧ inSet s.pde.vdone .c = true) ∧
    (let s := fetchS;
      s.hf (PDE_CFG_MODE 5) = 2 ∧ s.pdeState 5 = 2 ∧ (s.chan 5).onWire = false ∧ s.hf (PDE_SRC_KIND 5) ≠ 2 ∧
      (s.outLanes 5).findSome? (s.outCopy 5 s.hub.frame) = some ⟨6, 0, [9, 8, 7], crc32c [9, 8, 7]⟩ ∧ [(9 : Byte), 8, 7] ≠ []) := by decide +kernel

theorem witness_LastMemberStartsTheFetch_2 :
    (let s := chS 5 2 1 3 2; (s.outLanes 5).findSome? (s.outCopy 5 s.hub.frame) = none) ∧
    (let s := sendS 3; (s.chan 5).out = some ⟨6, 0, [1, 2, 3], crc32c [1, 2, 3]⟩ ∧ (s.chan 5).onWire = false ∧ s.hf (PDE_CFG_MODE 5) = 2 ∧
    answers (exec (.sinkTransmitOpportunity 5 0 false) (sendS 3)) (fun t => decide ((t.chan 5).out = none ∧ t.hf (PDE_CNT_ERR_CHECK 5) = 1)) = true) ∧
    (let s := sendE 1; let b := (s.buildFrame 0 [1, 2, 3]).2;
      s.hf (PDE_SRC_KIND 5) = 1 ∧ s.hf (PDE_SRC_SRC_ID 5) = 0 ∧ bitOf (s.obj 0x3200 5) 0 = true ∧ s.hf (SW_PSTAT_LINK 0) = 1 ∧ s.mayStart 0 (s.queueOf (some 0) b) 0 b = true) ∧
    (answers (exec (.sinkTransmitOpportunity 5 0 true) (sendE 0)) (fun t => decide (t = sendE 0)) = true) := by decide +kernel

def descBytes (fin ngen next gen len buf cookie : Nat) : List Byte :=
  leBytes 4 (fin * 2 ^ 31 + ngen * 2 ^ 30 + next) ++ leBytes 4 (gen * 2 ^ 31 + len) ++ leBytes 4 buf ++ leBytes 2 0 ++ leBytes 2 cookie

def queuedS (len : Nat) : State :=
  let s := ((chS 20 3 2 2 2).hfSet (PDE_CUR 20) 0x2000).hfSet (PDE_CFG_CQ 20) 31
  let s := ((s.hfSet (PDE_CQ_BASE_BASE 31) 0x3000).hfSet (PDE_CQ_BASE_M 31) 4).hfSet (PDE_CQ_BASE_OWNER 31) 2
  s.lmemSet .b (exchangeBase + 0x2000) (descBytes 1 0 0 0 len 0x2100 0x1234)

theorem witness_QueuedInputItemCompletes :
    (let s := queuedS 64; let d := s.descAt 20 0x2000;
      s.hub.supplied = true ∧ s.hf (PDE_CFG_MODE 20) = 3 ∧ s.pdeState 20 = 2 ∧ s.hf (PDE_SRC_KIND 20) ≠ 1 ∧ placeLane (s.hf (PDE_CFG_PLACE 20)) = .b ∧ s.linkUp .b = true ∧
      (s.lane .b).xch.sealed = false ∧ s.hf (PDE_CUR 20) = 0x2000 ∧ d.end_ = true ∧ s.hf (PDE_STAT_DB_PEND 20) = 0 ∧ (s.chan 20).abort = false ∧ d.buf = 0x2100 ∧ d.len = 64 ∧
      d.buf + d.len ≤ exchangeSize ∧ s.hf (PDE_CFG_CQ 20) = 31 ∧ s.cqOwned .b 31 = true ∧ s.hf (PDE_CQ_BASE_BASE 31) + 16 * (s.hf (PDE_CQ_HEAD 31) % 2 ^ s.hf (PDE_CQ_BASE_M 31)) = 0x3000 ∧
      0x2000 + 16 ≤ d.buf ∧ d.buf + d.len ≤ 0x3000 ∧ 16 + [(1 : Byte), 2, 3].length ≤ d.len ∧ d.cookie = 0x1234 ∧
    answers (exec (.queuedInputItem 20 [1, 2, 3]) (queuedS 64)) (fun t => decide (t.hf (PDE_CQ_HEAD 31) = 1 ∧ t.pdeState 20 = 3 ∧ t.lmem .b (exchangeBase + 0x3000) 16 = leBytes 4 (2 ^ 31 + 20) ++ leBytes 4 19 ++ leBytes 4 0x2000 ++ leBytes 2 1 ++ leBytes 2 0x1234 ∧
      t.lmem .b (exchangeBase + 0x2110) 3 = [1, 2, 3] ∧ t.hf (PDE_CNT_ITEM 20) = 1)) = true) ∧
    ((queuedS 18).descAt 20 0x2000 = { (queuedS 64).descAt 20 0x2000 with len := 18 } ∧ 18 < 16 + [(1 : Byte), 2, 3].length ∧
    answers (exec (.queuedInputItem 20 [1, 2, 3]) (queuedS 18)) (fun t => decide (t.lmem .b (exchangeBase + 0x3000) 4 = leBytes 4 (2 ^ 31 + 2 ^ 24 + 20) ∧ t.hf (PDE_CNT_ITEM 20) = 0 ∧ t.hf (PDE_CNT_DROP_DROPPED 20) = 1)) = true) := by decide +kernel

def ringS (wr rd state : Nat) : State := (((chS 30 5 3 2 state).hfSet (PDE_SIZE_SIZE 30) 6).hfSet (PDE_WR 30) wr).hfSet (PDE_RD 30) rd

theorem witness_CircularRecordsFollowWr :
    (let s := ringS 56 32 2;
      s.hf (PDE_CFG_MODE 30) = 5 ∧ placeLane (s.hf (PDE_CFG_PLACE 30)) = .c ∧ s.hf (PDE_BANK0 30) = 0x1000 ∧ 2 ^ (s.hf (PDE_SIZE_SIZE 30) % 32) = 64 ∧ s.linkUp .c = true ∧ (s.lane .c).xch.sealed = false ∧
      s.pdeState 30 = 2 ∧ s.hf (PDE_SRC_KIND 30) ≠ 1 ∧ (s.hf (PDE_WR 30) + 2 ^ 32 - s.hf (PDE_RD 30)) % 2 ^ 32 + 24 ≤ 64 ∧
    answers (exec (.circularInputItem 30 [1, 2, 3]) (ringS 56 32 2)) (fun t => decide (t.hf (PDE_WR 30) = 80 ∧ t.lmem .c (exchangeBase + 0x1000 + 8) 3 = [1, 2, 3] ∧ t.hf (PDE_CNT_ITEM 30) = 1)) = true) ∧
    (let s := ringS 0 (2 ^ 32 - 48) 2; 64 < (s.hf (PDE_WR 30) + 2 ^ 32 - s.hf (PDE_RD 30)) % 2 ^ 32 + 24 ∧
    answers (exec (.circularInputItem 30 [1, 2, 3]) (ringS 0 (2 ^ 32 - 48) 2)) (fun t => decide (t.hf (PDE_WR 30) = 0 ∧ t.hf (PDE_CNT_DROP_DROPPED 30) = 1)) = true) ∧
    (let s := ringS 56 32 2; placeHas (s.hf (PDE_CFG_PLACE 30)) .c = true ∧ (s.hf (PDE_WR 30) + 2 ^ 32 - 56) % 2 ^ 32 ≤ 64 ∧ 64 < (s.hf (PDE_WR 30) + 2 ^ 32 - 57) % 2 ^ 32 ∧
    answers (exec (.pdeRdWrite .c 4 0x40 30 56) (ringS 56 32 2)) (fun t => decide (t.hf (PDE_RD 30) = 56)) = true) ∧
    (answers (exec (.pdeRdWrite .c 4 0x40 30 57) (ringS 56 32 2)) (fun t => decide (t = (ringS 56 32 2))) = true) := by decide +kernel

def goS (gen : Nat) : State := ((chS 40 3 1 2 1).chanUpd 40 (fun x => { x with fresh := true })).lmemSet .a (exchangeBase + 0x1000) (descBytes 1 0 0 gen 64 0x2100 0)

def dbS (state : Nat) (fin : Bool) : State := ((chS 40 3 1 2 state).hfSet (PDE_CUR 40) 0x1000).lmemSet .a (exchangeBase + 0x1000)
  (descBytes (b2n fin) 0 0x1020 0 64 0x2100 0 ++ leBytes 16 0 ++ descBytes 1 0 0 0 64 0x2200 0)

def doneS (ab : Bool) : State :=
  let s := (((((dbS 2 true).hfSet (PDE_CQ_BASE_OWNER 0) 1).hfSet (PDE_CFG_MODE 40) 4).hfSet (PDE_CFG_CQ 40) 0).hfSet (PDE_CQ_BASE_BASE 0) 0x3000).hfSet (PDE_CQ_BASE_M 0) 4
  s.chanUpd 40 (fun x => { x with out := some ⟨6, 0, [1], 0⟩, abort := ab })

theorem witness_ChainsStartParkAndStop_1 :
    (let s := goS 0; let d := s.descAt 40 (s.hf (PDE_BANK0 40));
      placeLane (s.hf (PDE_CFG_PLACE 40)) = .a ∧ 1 ≤ s.hf (PDE_CFG_PLACE 40) ∧ s.hf (PDE_CFG_MODE 40) = 3 ∧ s.pdeState 40 = 1 ∧ (s.chan 40).fresh = true ∧ (s.chan 40).doneCur = false ∧ s.hf (PDE_STAT_DB_PEND 40) = 0 ∧
      d.gen = s.hf (PDE_SIZE_FIRST_GEN 40) ∧ 16 ≤ d.len ∧ d.buf + d.len ≤ exchangeSize ∧ s.cqFull (s.hf (PDE_CFG_CQ 40)) = false ∧
    answers (exec (.pdeGo .a 4 0x40 40) (goS 0)) (fun t => decide (t.pdeState 40 = 2 ∧ t.hf (PDE_CUR 40) = 0x1000)) = true) ∧
    (let s := goS 1; (s.descAt 40 (s.hf (PDE_BANK0 40))).gen ≠ s.hf (PDE_SIZE_FIRST_GEN 40) ∧
    answers (exec (.pdeGo .a 4 0x40 40) (goS 1)) (fun t => decide (t.pdeState 40 = 3 ∧ t.hf (PDE_CUR 40) = 0x1000)) = true) ∧
    ((ringS 0 0 1).hf (PDE_CFG_MODE 30) = 5 ∧ (ringS 0 0 1).pdeState 30 = 1 ∧
    answers (exec (.pdeGo .c 4 0x40 30) (ringS 0 0 1)) (fun t => decide (t.pdeState 30 = 2)) = true) ∧
    ((dbS 2 true).hf (PDE_CFG_MODE 40) = 3 ∧ (dbS 2 true).pdeState 40 = 2 ∧
    answers (exec (.pdeDoorbell .a 4 0x40 40) (dbS 2 true)) (fun t => decide (t.hf (PDE_STAT_DB_PEND 40) = 1 ∧ t.pdeState 40 = 2)) = true) := by decide +kernel

theorem witness_ChainsStartParkAndStop_2 :
    (let s := dbS 3 true; s.pdeState 40 = 3 ∧ (s.descAt 40 (s.hf (PDE_CUR 40))).end_ = true ∧
    answers (exec (.pdeDoorbell .a 4 0x40 40) (dbS 3 true)) (fun t => decide (t.pdeState 40 = 3 ∧ t.hf (PDE_STAT_DB_PEND 40) = 0)) = true) ∧
    (let s := dbS 3 false; let d := s.descAt 40 (s.hf (PDE_CUR 40)); let e := s.descAt 40 d.next;
      d.end_ = false ∧ d.next ≠ s.hf (PDE_CUR 40) ∧ d.next % 16 = 0 ∧ e.gen = d.ngen ∧ 16 ≤ e.len ∧ e.buf + e.len ≤ exchangeSize ∧
    answers (exec (.pdeDoorbell .a 4 0x40 40) (dbS 3 false)) (fun t => decide (t.pdeState 40 = 2 ∧ t.hf (PDE_CUR 40) = 0x1020)) = true) ∧
    (((dbS 3 true).chan 40).out = none ∧
    answers (exec (.pdeAbort .a 4 0x40 40) (dbS 3 true)) (fun t => decide (t.pdeState 40 = 5 ∧ t.hf (PDE_RESID 40) = 0 ∧ t.hf (PDE_CUR 40) = 0x1000)) = true) ∧
    (let s := doneS true; s.hf (PDE_CFG_MODE 40) = 4 ∧ (s.chan 40).out = some ⟨6, 0, [1], 0⟩ ∧ s.linkUp .a = true ∧ (s.lane .a).xch.sealed = false ∧ s.cqOwned .a (s.hf (PDE_CFG_CQ 40)) = true ∧ (s.chan 40).abort = true ∧
    answers (exec (.queuedOutputComplete 40 8) (doneS true)) (fun t => decide (t.pdeState 40 = 5 ∧ t.hf (PDE_CQ_HEAD 0) = 1 ∧ (t.chan 40).out = none)) = true) := by decide +kernel

theorem witness_ChainsStartParkAndStop_3 :
    (let s := doneS false; (s.chan 40).abort = false ∧ s.pdeState 40 = 2 ∧ (s.descAt 40 (s.hf (PDE_CUR 40))).end_ = true ∧ s.hf (PDE_STAT_DB_PEND 40) = 0 ∧
    answers (exec (.queuedOutputComplete 40 0) (doneS false)) (fun t => decide (t.pdeState 40 = 3 ∧ t.lmem .a (exchangeBase + 0x3000) 4 = leBytes 4 (2 ^ 31 + 40))) = true) := by decide +kernel

def portS (p st link : Nat) (f : PortSt → PortSt) : State := ((up.hfSet (SW_PSTAT_STATE p) st).hfSet (SW_PSTAT_LINK p) link).portUpd p f

def netS (f : Net → Net) (s : State) : State := { s with net := f s.net }

def claimBank : List Byte := leBytes 4 100 ++ leBytes 4 5000 ++ leBytes 4 0xFFFFFFFF ++ leBytes 4 0

def bframe (ok : Bool) : EthFrame := ⟨List.replicate 6 0xFF ++ List.replicate 54 1, ok, 100, 700, 0⟩

def oframe (ok : Bool) : EthFrame := ⟨List.replicate 6 0x22 ++ List.replicate 54 1, ok, 100, 700, 0⟩

theorem witness_PortsAndTrellis_1 :
    (up.hub.supplied = true ∧ 9 < 12 ∧ bitOf (up.obj 0x3030 5) 9 = true ∧ up.speedOk 9 2 = true ∧
    answers (exec (.portLinkUp 9 2) up) (fun t => decide (t.hf (SW_PSTAT_LINK 9) = 1 ∧ t.hf (SW_PSTAT_SPEED 9) = 2 ∧ t.portState 9 = 0)) = true) ∧
    (answers (exec (.portLinkUp 11 1) up) (fun t => decide (t.portState 11 = 1 ∧ t.hf (SW_PSTAT_SPEED 11) = 1)) = true) ∧
    ((portS 3 3 1 id).hf (SW_PSTAT_LINK 3) = 1 ∧
    answers (exec (.portLinkDown 3) (portS 3 3 1 id)) (fun t => decide (t.hf (SW_PSTAT_LINK 3) = 0 ∧ t.portState 3 = 3)) = true) ∧
    (let s := netS (fun x => { x with matrix := 100 }) (portS 3 2 1 (fun x => { x with quarAt := 2 }));
      windowed 3 = true ∧ s.portState 3 = 2 ∧ (s.port 3).quarAt + 1 + s.hf TRL_QCFG_HOLD ≤ s.net.matrix ∧ (s.recentRejoins 3).length < (s.hfSet TRL_QCFG_REJOIN_LIM 2).hf TRL_QCFG_REJOIN_LIM ∧
    answers (exec (.quarantineHoldEnd 3) ((netS (fun x => { x with matrix := 100 }) (portS 3 2 1 (fun x => { x with quarAt := 2 }))).hfSet TRL_QCFG_REJOIN_LIM 2)) (fun t => decide (t.portState 3 = 0 ∧ (t.port 3).after = true)) = true) := by decide +kernel

theorem witness_PortsAndTrellis_2 :
    (let s := (netS (fun x => { x with matrix := 100 }) (portS 3 2 1 (fun x => { x with quarAt := 2 }))).hfSet TRL_QCFG_REJOIN_LIM 0; s.hf TRL_QCFG_REJOIN_LIM ≤ (s.recentRejoins 3).length ∧
    answers (exec (.quarantineHoldEnd 3) ((netS (fun x => { x with matrix := 100 }) (portS 3 2 1 (fun x => { x with quarAt := 2 }))).hfSet TRL_QCFG_REJOIN_LIM 0)) (fun t => decide (t.portState 3 = 3 ∧ t.hf SW_INT_STAT_HELD = 1)) = true) ∧
    (1 ≤ up.sourceLevel 0xFF ∧ up.sourceLevel 1 = 0 ∧
    answers (exec (.portReleaseHeld 0xFF 8) (portS 3 3 1 id)) (fun t => decide (t.portState 3 = 0)) = true) ∧
    (answers (exec (.portReleaseHeld 1 8) (portS 3 3 1 id)) (fun t => decide (t = (portS 3 3 1 id))) = true) ∧
    (let s := netS (fun x => { x with started := true, switchAt := some 0 }) up; s.net.started = true ∧ s.hub.frame % s.basics = 0 ∧ s.switchDue s.hub.frame = true ∧
    answers (exec (.trellisBankSwitch) (netS (fun x => { x with started := true, switchAt := some 0 }) up)) (fun t => decide (t.hf TRL_STATUS_BANK = 1 ∧ t.hf TRL_STATUS_PEND = 0 ∧ t.net.switchAt = none ∧ t.hf TRL_CNT_SWAPS = 1)) = true) := by decide +kernel

theorem witness_PortsAndTrellis_3 :
    (up.switchDue up.hub.frame = false ∧
    answers (exec (.trellisBankSwitch) up) (fun t => decide (t = up)) = true) ∧
    (up.claimOk 0 0 0 = false ∧
    answers (exec (.windowClaim 0xFF 0) up) (fun t => decide (t.net.claims = [] ∧ t.hf TRL_CNT_CLAIMS = 0)) = true) ∧
    (let s := (netS (fun x => { x with bank0 := claimBank }) up).storedSet 0x3200 4 [0]; (32 * 0 + 0 ∈ (netS (fun x => { x with claims := [0] }) s).net.claims) ∧ 5 ∉ up.net.claims ∧
    answers (exec (.windowRelease 0xFF 0) (netS (fun x => { x with claims := [0, 7] }) up)) (fun t => decide (t.net.claims = [7])) = true) ∧
    (answers (exec (.windowRelease 0xFF 0x50000) up) (fun t => decide (t = up)) = true) := by decide +kernel

theorem witness_PortsAndTrellis_4 :
    (answers (exec (.windowClaim 1 0) up) (fun t => decide (t = up)) = true) := by decide +kernel

def streamS (st : Nat) : State := ((netS (fun x => { x with started := true, bank0 := claimBank }) (portS 3 st 1 id)).storedSet 0x3200 4 [3]).storedSet 0x3200 1 (List.replicate 6 0x22)

def egressS : State := netS (fun x => { x with started := true }) (portS 0 1 1 (fun x => { x with queues := [(5, [(0, List.replicate 60 1)])] }))

def ringN (mode : Nat) (f : Net → Net) : State := netS f (((up.hfSet HRV_CFG_N 4).hfSet HRV_CFG_PASSES 2).hfSet HRV_STATUS_MODE mode)

def hrvFrame : List Byte := [1, 0, 0, 0, 0, 0, 0, 0, 0, 0, 0, 0, 4] ++ List.replicate 60 0

/-- No stream is declared on port 0, whatever the frame. -/
theorem noStream (bs : List Byte) : (portS 0 1 1 id).streamOf 0 bs = none := by
  have key : ∀ h ∈ List.range 512, (portS 0 1 1 id).obj (0x3200 + h) 4 ≠ 0 := by decide +kernel
  unfold State.streamOf
  rw [List.find?_eq_none]
  intro h hh
  simp [key h hh]
/-- Twelve addresses of the module's own cannot be all of thirteen: a frame of no stream and for another module's address. A witness of
`FramesReceivedAndSent`. -/
theorem witness_foreignFrame : ∃ k : Fin 13, let f : EthFrame := ⟨List.replicate 6 (BitVec.ofNat 8 k.val) ++ List.replicate 54 1, true, 100, 700, 0⟩;
    (portS 0 1 1 id).streamOf 0 f.bytes = none ∧ (portS 0 1 1 id).ownAddress (f.bytes.take 6) = false ∧ f.bytes.take 6 ≠ broadcast ∧
    f.bytes.take 6 ≠ ptpAddress ∧ 64 ≤ f.bytes.length + 4 ∧ f.bytes.length + 4 ≤ 1536 := by
  have own : ∃ k : Fin 13, (portS 0 1 1 id).ownAddress (List.replicate 6 (BitVec.ofNat 8 k.val)) = false := by
    by_contra hc
    push Not at hc
    have hi : ∀ k : Fin 13, ∃ i : Fin 12, (portS 0 1 1 id).objBytes 0x0007 (i.val + 1) = List.replicate 6 (BitVec.ofNat 8 k.val) := by
      intro k
      have hk := hc k
      simp only [Bool.not_eq_false, State.ownAddress, List.any_eq_true, List.mem_range, decide_eq_true_eq] at hk
      obtain ⟨i, h12, hi⟩ := hk
      exact ⟨⟨i, h12⟩, hi⟩
    choose g hg using hi
    obtain ⟨x, y, hxy, he⟩ := Fintype.exists_ne_map_eq_of_card_lt g (by simp)
    have hr := (hg x).symm.trans ((congrArg (fun i : Fin 12 => (portS 0 1 1 id).objBytes 0x0007 (i.val + 1)) he).trans (hg y))
    revert hxy hr
    clear * -
    revert x y
    decide
  obtain ⟨k, hk⟩ := own
  refine ⟨k, noStream _, hk, ?_, ?_, ?_, ?_⟩ <;> (clear hk; revert k; decide)

theorem witness_FramesReceivedAndSent_1 :
    (let s := portS 0 1 1 id;
      s.hub.supplied = true ∧ s.hf (SW_PSTAT_LINK 0) = 1 ∧ (bframe true).bytes.take 6 ≠ ptpAddress ∧ windowed 0 = false ∧ (bframe true).fcsOk = true ∧ 64 ≤ (bframe true).bytes.length + 4 ∧ (bframe true).bytes.length + 4 ≤ 1536 ∧
      (bframe true).bytes.take 6 = broadcast) ∧
    ((oframe true).bytes.take 6 ≠ broadcast) ∧
    (windowed 3 = true ∧ (portS 3 1 1 id).net.started = false ∧
    answers (exec (.frameReceive 3 (oframe true)) (portS 3 1 1 id)) (fun t => decide (t = (portS 3 1 1 id).hcount (SW_PCNT_DROP_UNMATCHED 3) 1)) = true) ∧
    (let s := netS (fun x => { x with started := true, bank0 := claimBank }) (portS 3 2 1 id); s.net.started = true ∧ s.trellis ≠ [] ∧ 2 ≤ s.portState 3 ∧
    answers (exec (.frameReceive 3 (oframe true)) (netS (fun x => { x with started := true, bank0 := claimBank }) (portS 3 2 1 id))) (fun t => decide (t = (netS (fun x => { x with started := true, bank0 := claimBank }) (portS 3 2 1 id)))) = true) := by decide +kernel

theorem witness_FramesReceivedAndSent_2 :
    ((streamS 1).portState 3 = 1 ∧ (streamS 1).isHarvest 3 (oframe true).bytes = false) ∧
    ((streamS 1).verdictOf 3 (some 0) false (oframe true) = (.inr (true, 0), 0) ∧ (streamS 1).verdictOf 3 (some 0) false (oframe false) = (.inl .fcs, 0) ∧ (streamS 1).streamOf 3 (oframe true).bytes = some 0) ∧
    (mapGet [] (egressS.port 0).queues 5 = [(0, List.replicate 60 1)] ∧ egressS.mayStart 0 5 100 (List.replicate 60 1) = true ∧ mapGet [] (egressS.port 0).queues 7 = [] ∧
    answers (exec (.frameEgress 0 100) egressS) (fun t => decide (mapGet [] (t.port 0).queues 5 = [] ∧ t.tx.length = 1 ∧ t.hf (SW_PCNT_TX 0) = 1)) = true) ∧
    (answers (exec (.frameEgress 0 100) (portS 0 1 1 id)) (fun t => decide (t = (portS 0 1 1 id))) = true) := by decide +kernel

theorem witness_HarvestRingPasses_1 :
    (let s := ringN 1 (fun x => { x with started := true }); s.hub.supplied = true ∧ s.ringOn = true ∧ 1 < s.hf HRV_CFG_PASSES ∧ s.net.started = true ∧ s.hf HRV_STATUS_MODE = 1) ∧
    (⟨0, 0⟩ ∈ (ringN 1 (fun x => { x with hrvOutstanding := [⟨0, 0⟩] })).net.hrvOutstanding ∧ byteAt hrvFrame 0 = 1 ∧ byteAt hrvFrame 3 = 0 ∧ b2n (bitOf (byteAt hrvFrame 1) 7) = 0) ∧
    (8 ≤ (ringN 2 (fun x => { x with healed := 8 })).net.healed ∧ (ringN 2 id).net.healed < 8 ∧
    answers (exec (.harvestRingNormal) (ringN 2 (fun x => { x with healed := 8 }))) (fun t => decide (t.hf HRV_STATUS_MODE = 1 ∧ t.net.healed = 0 ∧ t.hf SW_INT_STAT_HRV_CLOSE = 1)) = true) ∧
    (answers (exec (.harvestRingNormal) (ringN 2 id)) (fun t => decide (t = (ringN 2 id))) = true) := by decide +kernel

theorem witness_HarvestRingPasses_2 :
    (let s := ringN 2 (fun x => { x with missing := [(4, 3)] }); 1 ≤ 4 ∧ 4 ≤ s.hf HRV_CFG_N ∧ mapGet 0 s.net.missing 4 = 3 ∧ mapGet 0 s.net.missing 1 ≠ 3 ∧
    answers (exec (.harvestStationMissing 4) (ringN 2 (fun x => { x with missing := [(4, 3)] }))) (fun t => decide (mapGet 0 t.net.missing 4 = 4)) = true) ∧
    (answers (exec (.harvestStationMissing 1) (ringN 2 (fun x => { x with missing := [(4, 3)] }))) (fun t => decide (t = (ringN 2 (fun x => { x with missing := [(4, 3)] })))) = true) := by decide +kernel

def canS (ch mode : Nat) (f : CanCh → CanCh) : State := ((linked.hfSet (CAN_STAT_STATE ch) 2).hfSet (CAN_CFG_OPMODE ch) mode).canUpd ch f

def bindS (s : State) (c ch m mode place state : Nat) : State :=
  (((((s.hfSet (PDE_CFG_MODE c) mode).hfSet (PDE_CFG_PLACE c) place).hfSet (PDE_SRC_KIND c) 2).hfSet (PDE_SRC_PORT c) ch).hfSet (PDE_SRC_SRC_ID c) m).hfSet (PDE_STAT_STATE c) state

def filtS (len : Nat) : State := ((((bindS (canS 3 1 id) 50 3 63 1 1 2).hfSet (CAN_FLT0_EN 3 63) 1).hfSet (CAN_FLT0_ID 3 63) 0x123).hfSet (CAN_FLT1_MASK 3 63) 0x7FF).hfSet (CAN_FLT2_EXP_LEN 3 63) len

def cf1 (id : Nat) (remote : Bool) : CanFrame := ⟨false, id, remote, false, false, false, 3, [9, 8, 7], 77⟩

def ttS : State := ((((canS 2 3 id).hfSet (CAN_TT_CFG_REF_ID 2) 0x100).hfSet (CAN_TT_CFG_PTM 2) 1).hfSet (CAN_TT_STAT_ROLE 2) 1)

theorem witness_CanFramesReachTheirMailbox_1 :
    ((filtS 3).canOn 3 = true ∧ (cf1 0x123 true).remote = true ∧
    answers (exec (.canFrameReceive 3 (cf1 0x123 true)) (filtS 3)) (fun t => decide (t.hf (CAN_CNT_DROP_UNMATCHED 3) = 1)) = true) ∧
    (let s := filtS 3; let f := cf1 0x124 false; f.remote = false ∧ s.isRef 3 f = false ∧ s.isService 3 f = false ∧ (∀ m ∈ List.range 64, s.filterTakes 3 m f = false)) ∧
    (let s := filtS 3; let f := cf1 0x123 false; s.isRef 3 f = false ∧ 63 < 64 ∧ (∀ k ∈ List.range 63, s.filterTakes 3 k f = false) ∧ s.filterTakes 3 63 f = true ∧ s.canOf 3 63 = some 50 ∧ s.hf (CAN_FLT2_EXP_LEN 3 63) = f.data.length ∧ s.hf (PDE_CFG_MODE 50) = 1 ∧ s.pdeState 50 = 2 ∧ s.canTt 3 = false) ∧
    ((filtS 4).hf (CAN_FLT2_EXP_LEN 3 63) ≠ 127 ∧ (filtS 4).hf (CAN_FLT2_EXP_LEN 3 63) ≠ 3) := by decide +kernel

theorem witness_CanFramesReachTheirMailbox_2 :
    (let f := cf1 0x103 false; ttS.canOn 2 = true ∧ ttS.isRef 2 f = true ∧ f.id ≠ ttS.ownRef 2) := by decide +kernel

def item1 : Item := ⟨6, 0, [0, 0, 0, 1, 0, 0, 0, 0, 5], 0⟩

def mboxS (wire : Bool) (lim : Nat) : State := ((bindS (canS 3 1 id) 60 3 64 2 1 2).hfSet (CAN_TXCFG_RETRY_LIM 3 0) lim).chanUpd 60 (fun x => { x with out := some item1, onWire := wire })

theorem witness_CanItemsSentFromMailboxes_1 :
    (let s := mboxS false 1; s.canMaySend 3 = true ∧ bestOffer (s.offers 3) = some (arbKey item1.payload, 64, 60)) ∧
    (let s := mboxS true 1; s.canOn 3 = true ∧ (s.canCh 3).refWire = false ∧ s.wireChan 3 = some 60 ∧ (s.chan 60).out = some item1 ∧ s.hf (PDE_CFG_MODE 60) = 2 ∧ (s.chan 60).cancel = false ∧ (s.chan 60).abort = false ∧ (s.chan 60).newer = none ∧
    answers (exec (.canArbitrationLost 3) (mboxS true 1)) (fun t => decide ((t.chan 60).onWire = false ∧ (t.chan 60).out = some item1)) = true) ∧
    (let s := mboxS true 1; s.mailbox 60 - 64 = 0 ∧ (s.chan 60).retries + 1 ≤ s.hf (CAN_TXCFG_RETRY_LIM 3 0) ∧
    answers (exec (.canTransmitError 3 .bit) (mboxS true 1)) (fun t => decide ((t.chan 60).out = some item1 ∧ (t.chan 60).retries = 1 ∧ t.hf (CAN_STAT_TEC 3) = 8)) = true) ∧
    (let s := mboxS true 0; s.hf (CAN_TXCFG_RETRY_LIM 3 0) ≠ 15 ∧ s.hf (CAN_TXCFG_RETRY_LIM 3 0) < (s.chan 60).retries + 1 ∧
    answers (exec (.canTransmitError 3 .ack) (mboxS true 0)) (fun t => decide ((t.chan 60).out = none ∧ t.hf (CAN_CNT_ERR2_RETRYDROP 3) = 1)) = true) := by decide +kernel

theorem witness_CanItemsSentFromMailboxes_2 :
    (answers (exec (.canTransmitComplete 3) (mboxS true 1)) (fun t => decide ((t.chan 60).out = none ∧ t.hf (CAN_CNT_TX 3) = 1 ∧ t.tx.length = 1)) = true) ∧
    (let s := mboxS true 1; s.hub.supplied = true ∧ bitOf 1 0 = true ∧ s.canOf 3 (64 + 0) = some 60 ∧ s.hf (PDE_CFG_PLACE 60) ≠ LaneId.b.idx + 1 ∧ s.hf (PDE_CFG_PLACE 60) = LaneId.a.idx + 1 ∧
    answers (exec (.canTxcancelWrite .b 3 1) (mboxS true 1)) (fun t => decide ((t.chan 60).cancel = false)) = true) ∧
    (answers (exec (.canTxcancelWrite .a 3 1) (mboxS true 1)) (fun t => decide ((t.chan 60).cancel = true ∧ bitOf (t.hf (CAN_TXCANCEL 3)) 0 = true)) = true) ∧
    (answers (exec (.canTxcancelWrite .a 3 1) (mboxS false 1)) (fun t => decide ((t.chan 60).out = none ∧ t.hf (PDE_CNT_DROP_DROPPED 60) = 1)) = true) := by decide +kernel

def boffS (st lim n : Nat) : State := (((canS 3 1 (fun x => { x with boffs := List.replicate n 0 })).hfSet (CAN_STAT_STATE 3) st).hfSet (CAN_BOFF_BOFF_LIM 3) lim).hfSet (CAN_STAT_TEC 3) 256

def trigS (ty m rep : Nat) (f : CanCh → CanCh) : State :=
  let s := ((((canS 2 3 f).hfSet (CAN_TT_CFG_TRIG_CNT 2) 1).hfSet (CAN_TT_STAT_ROLE 2) 1).storedSet 0x4203 2 (leBytes 4 (ty * 2 ^ 29 + rep * 2 ^ 26 + 50) ++ leBytes 4 m))
  (bindS s 60 2 64 2 1 2).chanUpd 60 (fun x => { x with out := some item1 })

theorem witness_CanRecoveryAndTriggers_1 :
    (let s := boffS 3 2 0; s.hub.supplied = true ∧ s.canOn 3 = true ∧ 256 ≤ s.hf (CAN_STAT_TEC 3) ∧ (s.recentBoffs 3).length + 1 = 1 ∧
    answers (exec (.canBusOff 3) (boffS 3 2 0)) (fun t => decide (t.canState 3 = 4 ∧ t.hf (CAN_BOFF_STAT_K 3) = 1)) = true) ∧
    ((boffS 3 2 2).hf (CAN_BOFF_BOFF_LIM 3) < (((boffS 3 2 2).recentBoffs 3).length + 1) ∧
    answers (exec (.canBusOff 3) (boffS 3 2 2)) (fun t => decide (t.canState 3 = 6 ∧ t.hf (CAN_BOFF_STAT_K 3) = 3)) = true) ∧
    ((boffS 4 2 0).canState 3 = 4 ∧ (boffS 5 2 0).canState 3 = 5 ∧ (boffS 6 2 0).canState 3 = 6 ∧ 1 ≤ (boffS 6 2 0).sourceLevel 0xFF ∧
    answers (exec (.canHoldoffEnd 3) (boffS 4 2 0)) (fun t => decide (t.canState 3 = 5)) = true) ∧
    (answers (exec (.canRecoveryComplete 3 20) (boffS 5 2 0)) (fun t => decide (t.canState 3 = 2 ∧ t.hf (CAN_STAT_TEC 3) = 0 ∧ t.hf (CAN_INT_STAT_RECOV 3) = 1)) = true) := by decide +kernel

theorem witness_CanRecoveryAndTriggers_2 :
    (answers (exec (.canReleaseBlocked 0xFF 3) (boffS 6 2 0)) (fun t => decide (t.canState 3 = 5)) = true) ∧
    (answers (exec (.canReleaseBlocked 0xFF 3) (boffS 5 2 0)) (fun t => decide (t = (boffS 5 2 0))) = true) ∧
    (let s := (canS 3 1 id).hfSet (CAN_STAT_RESTR 3) 1; s.canOn 3 = true ∧ s.hf (CAN_STAT_RESTR 3) = 1 ∧ s.hf (CAN_CFG_OPMODE 3) ≠ 2 ∧ (s.canCh 3).good < 8 ∧
    answers (exec (.canRestrictedEnd 3 100) ((canS 3 1 id).hfSet (CAN_STAT_RESTR 3) 1)) (fun t => decide (t.hf (CAN_STAT_RESTR 3) = 0)) = true) ∧
    (answers (exec (.canRestrictedEnd 3 99) ((canS 3 1 id).hfSet (CAN_STAT_RESTR 3) 1)) (fun t => decide (t = ((canS 3 1 id).hfSet (CAN_STAT_RESTR 3) 1))) = true) := by decide +kernel

theorem witness_CanRecoveryAndTriggers_3 :
    (let s := trigS 0 64 0 id; let g := s.trigAt 2 0; s.canOn 2 = true ∧ s.canTt 2 = true ∧ 0 < s.hf (CAN_TT_CFG_TRIG_CNT 2) ∧ s.hf (CAN_TT_STAT_ROLE 2) ≠ 0 ∧ s.hf (CAN_TT_STAT_CYCLE 2) % 2 ^ g.rep = g.ofs ∧ g.type = 0 ∧ s.canMaySend 2 = true ∧
      s.canOf 2 g.mbx = some 60 ∧ (s.chan 60).out.isSome ∧ s.pdeState 60 ≠ 0) ∧
    (let s := trigS 0 65 0 id; s.canOf 2 (s.trigAt 2 0).mbx = none) ∧
    (((trigS 1 64 0 id).trigAt 2 0).type = 1 ∧
    answers (exec (.canTriggerFire 2 0 true) (trigS 1 64 0 id)) (fun t => decide (64 ∈ (t.canCh 2).window ∧ t.hf (CAN_TT_STAT_LOCAL 2) = 50)) = true) ∧
    (let s := trigS 2 9 0 (fun x => { x with seen := [9] }); (s.trigAt 2 0).type = 2 ∧ (s.trigAt 2 0).mbx = 9 ∧ 9 ∈ (s.canCh 2).seen ∧ 9 ∉ ((trigS 2 9 0 id).canCh 2).seen ∧
    answers (exec (.canTriggerFire 2 0 true) ((trigS 2 9 0 (fun x => { x with seen := [9] })).hfSet (mscField 2 9) 3)) (fun t => decide (t.hf (mscField 2 9) = 2 ∧ 9 ∉ (t.canCh 2).seen)) = true) := by decide +kernel

theorem witness_CanRecoveryAndTriggers_4 :
    (answers (exec (.canTriggerFire 2 0 true) (trigS 2 9 0 id)) (fun t => decide (t.hf (mscField 2 9) = 1 ∧ (t.canCh 2).s1 = true)) = true) := by decide +kernel

def tbS (role state : Nat) : State := (((up.hfSet TB_STATUS_ROLE role).hfSet TB_STATUS_STATE state).hfSet (SW_PSTAT_LINK 3) 1).hfSet (TB_PSTAT_PSTATE 3) 2

def startS (isSet : Bool) : State := { tbS 1 0 with md := { up.md with mode := .start }, tb := { (tbS 1 0).tb with isSet := isSet } }

theorem witness_TimeBaseReadSetAndRated_1 :
    (up.hub.supplied = true ∧ (up.lane .a).supplied = true ∧ 1000 = (up.hf TB_RAW + 1000) % 2 ^ 64 ∧
    answers (exec (.tbCapture .a 1 1000) up) (fun t => decide (t.lf .a TB_CAP_RAW = 1000 ∧ t.lf .a TB_CAP_DISC = 1250)) = true) ∧
    (answers (exec (.tbLowWordRead .a true 31 1000) up) (fun t => decide (xReg (t.core .a 4) 31 = BitVec.ofNat 64 1250)) = true) ∧
    ((startS false).tbRole ≠ 0 ∧ (startS false).tb.isSet = false ∧ (startS false).md.mode = .start ∧
    answers (exec (.tbSettimeWrite .b 4 5000 7) (startS false)) (fun t => decide (t.discTime = 5000 ∧ t.tb.isSet = true)) = true) ∧
    (answers (exec (.tbSettimeWrite .b 4 5000 7) (startS true)) (fun t => decide (t = (startS true).advRaw 7)) = true) := by decide +kernel

theorem witness_TimeBaseReadSetAndRated_2 :
    (answers (exec (.tbSettimeWrite .b 3 5000 7) (startS false)) (fun t => decide (t = (startS false).advRaw 7)) = true) ∧
    (1 ≤ up.sourceLevel 0xFF ∧ (tbS 1 0).tbRole ≠ 0 ∧
    answers (exec (.setTime 0xFF 9 5) (tbS 1 0)) (fun t => decide (t.discTime = 9)) = true) ∧
    (up.tbRole = 0 ∧
    answers (exec (.setTime 0xFF 9 5) up) (fun t => decide (t = up.advRaw 5)) = true) ∧
    (up.hub.mgmtUp = true ∧ up.hf TB_STATUS_STATE ≠ 2 ∧ rateInRange (nominalRate + 100) = true ∧ rateInRange (2 * nominalRate) = false ∧
    answers (exec (.rateUpdate (nominalRate + 100) 3) up) (fun t => decide (t.hf TB_RATE = nominalRate + 100)) = true) := by decide +kernel

theorem witness_TimeBaseReadSetAndRated_3 :
    (answers (exec (.rateUpdate (2 * nominalRate) 3) up) (fun t => decide (t.hf TB_RATE = nominalRate)) = true) := by decide +kernel

def followS (run : Nat) : State := { tbS 0 0 with tb := { (tbS 0 0).tb with syncRun := run } }

theorem witness_TimeBaseFollowsAndHoldsOver_1 :
    (let s := followS 7; s.hub.mgmtUp = true ∧ s.tbRole = 0 ∧ 3 < 12 ∧ s.hf (SW_PSTAT_LINK 3) = 1 ∧ s.hf (TB_PSTAT_PSTATE 3) = 2 ∧ (1000 : Int).natAbs ≤ s.obj 0x3400 6 ∧ 7 ≤ s.tb.syncRun ∧
    answers (exec (.ptpSyncReceive 3 1000 5) (followS 7)) (fun t => decide (t.hf TB_STATUS_STATE = 1)) = true) ∧
    (10 * (followS 7).obj 0x3400 6 < (-10001 : Int).natAbs ∧
    answers (exec (.ptpSyncReceive 3 (-10001) 5) (followS 7)) (fun t => decide (t.hf TB_STATUS_STATE = 0 ∧ t.tb.syncRun = 0)) = true) ∧
    (((followS 7).hfSet (TB_PSTAT_PSTATE 3) 1).hf (TB_PSTAT_PSTATE 3) ≠ 2 ∧
    answers (exec (.ptpSyncReceive 3 5 5) ((followS 7).hfSet (TB_PSTAT_PSTATE 3) 1)) (fun t => decide (t.hf (TB_PCNT_VIOL 3) = 1)) = true) ∧
    (let s := tbS 0 1; s.tbRole = 0 ∧ s.hf TB_STATUS_STATE = 1 ∧ s.tb.syncRaw + rawOfNs (s.obj 0x3400 5 * logInterval (s.obj 0x3400 2)) ≤ (s.hf TB_RAW + 300000000) % 2 ^ 64 ∧
    answers (exec (.syncReceiptTimeout 300000000) (tbS 0 1)) (fun t => decide (t.hf TB_STATUS_STATE = 2 ∧ t.tb.holdRaw = 300000000)) = true) := by decide +kernel

theorem witness_TimeBaseFollowsAndHoldsOver_2 :
    (let s := tbS 0 2; s.hf TB_STATUS_STATE = 2 ∧ s.tb.holdRaw + rawOfNs (s.obj 0x3400 8 * 1000000000) ≤ (s.hf TB_RAW + 8000000000) % 2 ^ 64 ∧
    answers (exec (.holdoverTimeout 8000000000) (tbS 0 2)) (fun t => decide (t.hf TB_STATUS_STATE = 0)) = true) ∧
    (let s := (tbS 0 0).hfSet (TB_PSTAT_PSTATE 3) 1; s.hub.mgmtUp = true ∧ 3 < 12 ∧ s.hf (SW_PSTAT_LINK 3) = 1 ∧ s.hf (TB_PSTAT_PSTATE 3) = 1 ∧
    answers (exec (.syncSend 3 5) ((tbS 0 0).hfSet (TB_PSTAT_PSTATE 3) 1)) (fun t => decide (((mapGet [] (t.port 3).queues 5).map (fun fr => fr.2.take 6)) = [ptpAddress])) = true) ∧
    ((tbS 0 0).hf (TB_PSTAT_PSTATE 3) = 1 ∨ (tbS 0 0).hf (TB_PSTAT_PSTATE 3) = 2 ∧
    answers (exec (.pdelayRequestSend 3 (some (799, true)) 5) (tbS 0 0)) (fun t => decide (t.hf (TB_PDELAY 3) = 799 ∧ t.hf (TB_PSTAT_ASCAP 3) = 1)) = true) ∧
    (answers (exec (.pdelayRequestSend 3 none 5) (tbS 0 0)) (fun t => decide (t.hf (TB_PDELAY 3) = 0xFFFFFFFF ∧ t.hf (TB_PCNT_PDFAIL 3) = 1)) = true) := by decide +kernel

def failedConn (l : LaneId) (st : Nat) : State := (up.storedSet 0x6101 1 [1]).updLane l (fun x => { x with rt := { x.rt with conns := [(1, { st := st, errs := [5] })] } })

def crcS (addr len : Nat) : State := (((up.lfSet .b SLY_CRC_GO 1).lfSet .b SLY_CRC_ADDR addr).lfSet .b SLY_CRC_LEN len).lfSet .b SLY_CRC_PRE 0x55

theorem witness_SafetyConnectionsAndCrcUnit_1 :
    (let s := failedConn .c 3; 1 ≤ s.sourceLevel 0xFF ∧ s.ticking .c = true ∧ s.connKind 1 = 1 ∧ (s.conn .c 1).st = 3 ∧
    answers (exec (.connectionReset 0xFF 1) (failedConn .c 3)) (fun t => decide ((t.conn .c 1).st = 0 ∧ (t.conn .c 1).errs = [])) = true) ∧
    (((failedConn .c 2).conn .c 1).st ≠ 3 ∧
    answers (exec (.connectionReset 0xFF 1) (failedConn .c 2)) (fun t => decide ((t.conn .c 1) = (failedConn .c 2).conn .c 1)) = true) ∧
    ((failedConn .c 3).sourceLevel 1 = 0 ∧
    answers (exec (.connectionReset 1 1) (failedConn .c 3)) (fun t => decide (t = (failedConn .c 3))) = true) ∧
    ((up.lane .b).supplied = true ∧
    answers (exec (.slyCrcGo .b 4 1) up) (fun t => decide (t.lf .b SLY_CRC_GO = 1)) = true) := by decide +kernel

theorem witness_SafetyConnectionsAndCrcUnit_2 :
    (let s := crcS 0x08000000 3; s.lf .b SLY_CRC_GO = 1 ∧ 0x08000000 ≤ s.lf .b SLY_CRC_ADDR ∧ s.lf .b SLY_CRC_ADDR + s.lf .b SLY_CRC_LEN ≤ 0x08800000 ∧ s.lf .b SLY_CRC_CTL_POLY = 0 ∧
    answers (exec (.slyCrcDone .b) (crcS 0x08000000 3)) (fun t => decide (t.lf .b SLY_INT_STAT_DONE = 1 ∧ t.lf .b SLY_STATUS_RANGE = 0 ∧ t.lf .b SLY_CRC_RES ≠ 0)) = true) ∧
    (let s := crcS 0x087FFFFF 2; 0x08800000 < s.lf .b SLY_CRC_ADDR + s.lf .b SLY_CRC_LEN ∧
    answers (exec (.slyCrcDone .b) (crcS 0x087FFFFF 2)) (fun t => decide (t.lf .b SLY_STATUS_RANGE = 1 ∧ t.lf .b SLY_CRC_GO = 0)) = true) := by decide +kernel

def dinS (filt raw : Nat) : State := (((up.lfSet .a DIN_USED 0xFFFFFFFF).lfSet .a DIN_CFG 0x6666).lfSet .a DIN_FILT filt).lfSet .a DIN_RAW raw

def v2S (f : Voter → Voter) : State := { up with sup := { up.sup with v2 := f up.sup.v2, supplied := true, frame := 352 } }

def rbS (seen : List Nat) : State := (((up.lfSet .a TCK_FRAME 700).lfSet .a VOT_V2OUT 8).lfSet .a DOUT_RB_HS 8).updLane .a (fun x => { x with fe := { x.fe with seen := seen } })

theorem witness_InputsAndSwitchesOfTheFieldStage_1 :
    (let s := dinS 0 0; (s.lane .a).supplied = true ∧ s.inputUsed .a 31 = true ∧ thresholds (s.inputClass .a 31) = some (68750, 41250) ∧ 3 ≤ 16 ∧
    answers (exec (.inputThresholdCross .a 31 68750) (dinS 0 0)) (fun t => decide (t.lf .a DIN_RAW = 0x80000000)) = true) ∧
    (answers (exec (.inputThresholdCross .a 31 41250) (dinS 0 0x80000000)) (fun t => decide (t.lf .a DIN_RAW = 0)) = true) ∧
    (answers (exec (.inputThresholdCross .a 31 41251) (dinS 0 0x80000000)) (fun t => decide (t.lf .a DIN_RAW = 0x80000000)) = true) ∧
    (let s := dinS 0 0x200; s.inputUsed .a 9 = true ∧ bitOf (s.lf .a DIN_FILT) 9 ≠ bitOf (s.lf .a DIN_RAW) 9 ∧ s.lf .a (DIN_DEB 9) ≤ 1000 ∧ 999 < s.lf .a (DIN_DEB 9) ∧
    answers (exec (.inputFilterChange .a 9 1000 77) (dinS 0 0x200)) (fun t => decide (t.lf .a DIN_FILT = 0x200 ∧ t.lf .a (DIN_CHG 9) = 1)) = true) := by decide +kernel

theorem witness_InputsAndSwitchesOfTheFieldStage_2 :
    (answers (exec (.inputFilterChange .a 9 999 77) (dinS 0 0x200)) (fun t => decide (t = (dinS 0 0x200))) = true) ∧
    (let s := v2S (fun v => { v with drove := 8, out := 8, onSince := [(3, 352)] }); s.refreshes (voterOf .ls) = true ∧ bitOf (s.voter (voterOf .ls)).drove 3 = true ∧ mapFind (s.voter (voterOf .ls)).onSince 3 = some 352 ∧ 300 ≤ (frameDiff (s.voterFrame (voterOf .ls)) 352).toNat * s.tUs + 941 ∧ s.tpPos (s.voterFrame (voterOf .ls)) 941 = s.slotStart (slotOf .ls 3) ∧
    answers (exec (.darkPulseStart .ls 3 941) (v2S (fun v => { v with drove := 8, out := 8, onSince := [(3, 352)] }))) (fun t => decide (t.closed .ls 3 = false)) = true) ∧
    (answers (exec (.darkPulseEnd .ls 3) (v2S (fun v => { v with drove := 8, out := 8, dark := 8 }))) (fun t => decide (t.closed .ls 3 = true)) = true) ∧
    ((v2S (fun v => { v with out := 8 })).closed .ls 3 = true ∧
    answers (exec (.switchOverloadTrip .ls 3) (v2S (fun v => { v with out := 8 }))) (fun t => decide (t.closed .ls 3 = false ∧ bitOf (t.lf .c DOUT_DIAG_OVL) 3 = true)) = true) := by decide +kernel

theorem witness_InputsAndSwitchesOfTheFieldStage_3 :
    (answers (exec (.readbackChange .a 0x20001 3 1 5) up) (fun t => decide (t.lf .a DOUT_RB_HS = 1 ∧ t.lf .a DOUT_RB_LS = 3)) = true) ∧
    (let s := rbS []; s.ticking .a = true ∧ 700900 = s.tpPos (s.frame .a) 900 ∧ s.slotStart (slotOf .hs 3) + s.lf .a (DOUT_DARK 3) + 100 ≤ 700900 ∧ bitOf (s.lf .a VOT_V2OUT) 3 = true ∧ s.findingsOff .a 3 = false ∧ s.readsClosed .a .hs 3 = true ∧ s.sinceExpected .a 3 900 = none ∧ slotOf .hs 3 ∉ (s.lane .a).fe.seen ∧
    answers (exec (.darkSlotCheck .a .hs 3 900) (rbS [])) (fun t => decide (bitOf (t.lf .a DOUT_DIAG_HS) 3 = true)) = true) ∧
    (slotOf .hs 3 ∈ ((rbS [7]).lane .a).fe.seen ∧
    answers (exec (.darkSlotCheck .a .hs 3 900) (rbS [7])) (fun t => decide ((t.lane .a).regs = ((rbS [7]).lane .a).regs)) = true) := by decide +kernel

def rtS (f : LaneRt → LaneRt) : State := up.updLane .a (fun x => { x with rt := f x.rt })

def depotS : State := { up with md := { up.md with mode := .depot } }

def proofOk : List (Bool × Bool × Nat) := [(false, true, 19), (true, true, 0), (false, true, 1), (false, false, 1), (false, true, 1)]

def fldS (ns : Nat) : State := { up with fld := { up.fld with proofNs := ns } }

def rstS (level counting : Bool) : State := { up with sup := { up.sup with supplied := true, rst := { level := level, counting := counting } } }

theorem witness_VotersBrakeLoopAndResetInput_1 :
    (up.voterUp .v1 = true ∧ voterOf .hs = .v1 ∧ 2 * up.tUs + 100 ≤ 2100 ∧
    answers (exec (.voterSilenceTimeout .v1 2100) up) (fun t => decide (t.v1.silent = true ∧ t.closed .hs 3 = false)) = true) ∧
    (answers (exec (.voterSilenceTimeout .v1 2099) up) (fun t => decide (t = up)) = true) ∧
    (answers (exec (.oscillatorMonitorFault .v1) up) (fun t => decide (t.v1.oscFault = true)) = true) ∧
    (let s := rtS (fun r => { r with brkRun := 100 }); s.ticking .a = true ∧ (s.lane .a).rt.brkRec = false ∧ 100000 ≤ (s.lane .a).rt.brkRun * s.tUs ∧ 0 < (s.lane .a).rt.brkRun ∧
    answers (exec (.brakeCurrentOutOfRange .a) (rtS (fun r => { r with brkRun := 100 }))) (fun t => decide (t.lf .a BRK_CNT_RANGE = 1)) = true) := by decide +kernel

theorem witness_VotersBrakeLoopAndResetInput_2 :
    (1 ≤ depotS.sourceLevel 0xFF ∧ depotS.md.mode = .depot ∧ halfClosedFail 1 halfClosedSteps proofOk = 0 ∧ halfClosedFail 1 halfClosedSteps [] ≠ 0 ∧ up.md.mode ≠ .depot ∧ 1 ≤ up.sourceLevel 0xFF ∧
    answers (exec (.brakeProofTest 0xFF proofOk) depotS) (fun t => decide (t.lf .c BRK_PT_PASS = 1 ∧ t.fld.proofNs = 0)) = true) ∧
    (answers (exec (.brakeProofTest 0xFF []) depotS) (fun t => decide (t.lf .c BRK_PT_FAIL = 1 ∧ t.lf .c BRK_CNT_PT_FAIL = 1)) = true) ∧
    (answers (exec (.brakeProofTest 0xFF proofOk) up) (fun t => decide (t = up)) = true) ∧
    (let s := fldS (169 * 3600000000000); s.fld.overdue = false ∧ s.obj 0x5104 0 < s.proofHours ∧ (fldS 5).proofHours ≤ (fldS 5).obj 0x5104 0 ∧
    answers (exec (.proofTestOverdue) (fldS (169 * 3600000000000))) (fun t => decide (t.lf .b BRK_PT_OVERDUE = 1 ∧ t.lf .b BRK_PT_HOURS = 169)) = true) := by decide +kernel

theorem witness_VotersBrakeLoopAndResetInput_3 :
    (answers (exec (.proofTestOverdue) (fldS 5)) (fun t => decide (t = fldS 5)) = true) ∧
    ((rstS false false).sup.supplied = true ∧ (rstS false false).sup.rst.level = false ∧
    answers (exec (.resetInputRise 50000) (rstS false false)) (fun t => decide (t.sup.rst.counting = true ∧ t.lf .a DIN_STATUS_RESET = 1)) = true) ∧
    ((rstS true true).sup.rst.level = true ∧ (rstS true true).anyTick = true ∧ (rstS true true).sup.rst.counting = true ∧
    answers (exec (.resetInputFall 2000000) (rstS true true)) (fun t => decide (t.sup.rst.valid = true)) = true) ∧
    (answers (exec (.resetInputFall 2000001) (rstS true true)) (fun t => decide (t.sup.rst.valid = false ∧ t.sup.rst.level = false)) = true) := by decide +kernel

theorem witness_VotersBrakeLoopAndResetInput_4 :
    (answers (exec (.resetHeldTimeout) (rstS true true)) (fun t => decide (t.sup.rst.counting = false)) = true) := by decide +kernel

def modeS (m : Mode) : State := onLanes (fun (l : LaneId) s => s.updLane l (fun x => { x with admission := some 0 })) { up with md := { up.md with mode := m, life := .depotOpen }, sup := { up.sup with pw := { up.sup.pw with inRange := true } } }

def hostS (m : Mode) (life : Life) : State := ({ modeS m with md := { (modeS m).md with life := life } }).storedSet 0x0100 2 ([1, 3] ++ List.replicate 36 0)

theorem witness_ModeAndLifeCycleRequests_1 :
    (up.modFrame = 0 ∧ (modeS .depot).md.closing = none ∧ 1 ≤ (hostS .depot .inService).sourceLevel 2 ∧ (modeS .depot).coo.test = none ∧ (modeS .depot).md.due = [] ∧ (hostS .depot .inService).md.mode = .depot ∧ (hostS .depot .inService).md.life ≠ .retired ∧
    answers (exec (.modeRequestConfigure 2) (hostS .depot .inService)) (fun t => decide (t.md.due = [⟨.configure, 1, 16⟩])) = true) ∧
    (answers (exec (.modeRequestConfigure 2) (hostS .safe3 .inService)) (fun t => decide (t.md.due = [] ∧ t.md = ((hostS .safe3 .inService)).md ∧ t.hub = ((hostS .safe3 .inService)).hub)) = true) ∧
    (answers (exec (.modeRequestDepot 2) (hostS .safe3 .inService)) (fun t => decide (t.md.due = [⟨.depot, 2, 13⟩])) = true) ∧
    (answers (exec (.modeRequestDepot 2) (hostS .split .inService)) (fun t => decide (t.md = ((hostS .split .inService)).md ∧ t.hub = ((hostS .split .inService)).hub)) = true) := by decide +kernel

theorem witness_ModeAndLifeCycleRequests_2 :
    ((hostS .configure .inService).md.mode = .configure ∧ lanes.all (fun (l : LaneId) => decide (((hostS .configure .inService).lane l).admission = some 0)) = true ∧
    answers (exec (.modeRequestRun 2) (hostS .configure .inService)) (fun t => decide (t.md.due = [⟨.start, 1, 9⟩])) = true) ∧
    (answers (exec (.modeRequestRun 2) (hostS .depot .inService)) (fun t => decide (t.md.due = [⟨.start, 1, 17⟩])) = true) ∧
    (answers (exec (.modeRequestRun 2) (hostS .safe3 .inService)) (fun t => decide (t.md = ((hostS .safe3 .inService)).md ∧ t.hub = ((hostS .safe3 .inService)).hub)) = true) ∧
    (let s := hostS .safe3 .inService; s.md.mode ≠ .stowed ∧ s.sup.supplied = true ∧ s.anyTick = true ∧ lanes.all (fun (l : LaneId) => !s.cooRuns l) = true ∧
    answers (exec (.modeRequestShutDown 2) (hostS .safe3 .inService)) (fun t => decide (t.md.closing = some ⟨1, 3, false, 2, none, 0, 0, 0, true, 0, false⟩)) = true) := by decide +kernel

theorem witness_ModeAndLifeCycleRequests_3 :
    ((modeS .safe3).sourceLevel 2 = 0 ∧ (modeS .safe3).sourceLevel 2 < 3 ∧ 3 ≤ (hostS .depot .depotOpen).sourceLevel 2 ∧ (hostS .depot .depotOpen).md.life = .depotOpen ∧
    answers (exec (.modeRequestDepot 2) (modeS .safe3)) (fun t => decide (t.md = ((modeS .safe3)).md ∧ t.hub = ((modeS .safe3)).hub)) = true) ∧
    (((hostS .depot .depotOpen).storedSet 0x0102 2 [1]).hostKeyed = true ∧ 3 ≤ ((hostS .depot .depotOpen).storedSet 0x0102 2 [1]).sourceLevel 2 ∧
    answers (exec (.lifecycleToInService 2) ((hostS .depot .depotOpen).storedSet 0x0102 2 [1])) (fun t => decide (t.md.life = .inService)) = true) ∧
    (answers (exec (.lifecycleToDepotOpen 2) (hostS .depot .inService)) (fun t => decide (t.md.life = .depotOpen)) = true) ∧
    (answers (exec (.lifecycleToRetired 2) (hostS .depot .depotOpen)) (fun t => decide (t.md.life = .retired ∧ t.md.closing = some ⟨1, 4, false, 2, none, 0, 0, 0, true, 0, false⟩)) = true) := by decide +kernel

theorem witness_ModeAndLifeCycleRequests_4 :
    (answers (exec (.lifecycleToInService 2) (hostS .safe3 .depotOpen)) (fun t => decide (t.md = ((hostS .safe3 .depotOpen)).md ∧ t.hub = ((hostS .safe3 .depotOpen)).hub)) = true) ∧
    (answers (exec (.lifecycleToInService 2) (modeS .depot)) (fun t => decide (t.md = ((modeS .depot)).md ∧ t.hub = ((modeS .depot)).hub)) = true) := by decide +kernel

def stow (m : Mode) : State := ((modeS m).storedSet 0x1016 2 [1]).volSet 0x1017 0 (leBytes 8 1000)

def c3S (coo : Nat) : State := ({ modeS .safe3 with md := { (modeS .safe3).md with closing := some ⟨3, 3, false, 0, some 1, 0, 0, 0, true, 0, false⟩ } }).lfSet .b COO_STATUS_STATE coo

def stepS (k : Nat) : State := { modeS .start with md := { (modeS .start).md with start := some { step := k } } }

def coldS (k : Nat) : State := { State.reset with md := { mode := .start, start := some { step := k } } }

theorem witness_WakeStartStepsAndClosing_1 :
    (let s := stow .stowed; s.sup.supplied = true ∧ s.md.mode = .stowed ∧ s.md.closing = none ∧ s.sup.pw.inRange = true ∧ s.obj 0x1016 1 = 1 ∧ s.obj 0x1016 2 = 1 ∧ s.obj 0x1017 0 ≠ 0 ∧ s.obj 0x1017 0 ≤ 1000 ∧
    answers (exec (.wakeInputQualified 5 0) (stow .stowed)) (fun t => decide (t.md.mode = .start ∧ t.md.start.isSome ∧ bitOf t.md.wakeCause 0 = true)) = true) ∧
    (answers (exec (.wakeInputQualified 5 0) (stow .safe2)) (fun t => decide (t.sup.pw.wakeIn = true ∧ t.md.mode = .safe2)) = true) ∧
    (answers (exec (.rtcAlarm 1000) (stow .stowed)) (fun t => decide (t.md.mode = .start ∧ bitOf t.md.wakeCause 1 = true)) = true) ∧
    (answers (exec (.rtcAlarm 1000) (stow .safe2)) (fun t => decide (t.sup.ka.alarmLatched = true ∧ t.md.mode = .safe2)) = true) := by decide +kernel

theorem witness_WakeStartStepsAndClosing_2 :
    (let s := stow .safe2; s.obj 0x1014 0 < 6 ∧ 5 ≤ s.obj 0x1014 0 ∧ s.anyTick = true ∧ lanes.all (fun (l : LaneId) => !s.cooRuns l) = true ∧
    answers (exec (.wakeWithdrawnTimeout 6) (stow .safe2)) (fun t => decide (t.md.closing = some ⟨1, 1, false, 2, none, 0, 0, 0, true, 0, false⟩)) = true) ∧
    (answers (exec (.wakeWithdrawnTimeout 5) (stow .safe2)) (fun t => decide (t = (stow .safe2).pwSet (fun p => { p with wakeIn := false }))) = true) ∧
    (lanes.all (fun (l : LaneId) => !(c3S 0).cooRuns l) = true ∧ (c3S 0).obj 0x7200 2 * 1000 ≤ 10000) ∧
    (laneOf 1 = .b ∧ (c3S 1).cooRuns (laneOf 1) = true ∧
    answers (exec (.c3TimeLimit 10000) (c3S 1)) (fun t => decide (t.lf .b COO_STATUS_STATE = 2 ∧ t.md.closing = some ⟨3, 3, false, 0, some 1, 0, 0, 0, false, 0, true⟩)) = true) := by decide +kernel

theorem witness_WakeStartStepsAndClosing_3 :
    (let s := stepS 3; s.md.start.isSome ∧ s.st.step = 3 ∧ s.st.moduleFail = false ∧ inSet s.passing .a = true ∧ inSet s.st.done .a = false ∧ inSet s.passing .b = true ∧ inSet s.st.done .b = false ∧ (s.lane .a).restart = none ∧ s.stepOk .a 3 = true ∧
    answers (exec (.startStepComplete (.lane .a) 3 true 100 []) (stepS 3)) (fun t => decide (inSet t.st.done .a = true ∧ t.st.step = 3)) = true) ∧
    (let s := coldS 2; s.sup.supplied = true ∧ s.md.start.isSome ∧ s.md.mode = .start ∧ s.md.closing = none ∧ s.anyTick = false ∧ s.st.step = 2 ∧ s.st.hubDone = false ∧
    answers (exec (.startStepTimeout .hub 2) (coldS 2)) (fun t => decide (t.md.mode = .halt ∧ t.md.start = none)) = true) := by decide +kernel

def pwS (m : Mode) (f : Power → Power) : State := { modeS m with sup := { (modeS m).sup with pw := f (modeS m).sup.pw } }

theorem witness_MainInputAndHoldUp_1 :
    (1439 < 1440 ∧ (modeS .stowed).sup.supplied = true ∧ (modeS .stowed).sup.pw.inRange = true ∧ (modeS .stowed).md.mode = .stowed ∧ (modeS .safe2).sup.pw.holdup = false ∧
    answers (exec (.mainInputBelowRange 1439) (modeS .stowed)) (fun t => decide (t.sup.pw.inRange = false ∧ t.sup.pw.holdup = false)) = true) ∧
    (answers (exec (.mainInputBelowRange 1439) (modeS .safe2)) (fun t => decide (t.sup.pw.holdup = true ∧ t.lf .a PWR_STATUS_HOLDUP = 1)) = true) ∧
    (let s := { coldS 2 with sup := { (coldS 2).sup with pw := { (coldS 2).sup.pw with inRange := true } } }; s.sup.pw.inRange = true ∧ s.sup.pw.charged = false ∧ s.md.closing = none ∧
    answers (exec (.mainInputBelowRange 1439) ({ coldS 2 with sup := { (coldS 2).sup with pw := { (coldS 2).sup.pw with inRange := true } } })) (fun t => decide (t.md.mode = .stowed ∧ t.md.start = none ∧ t.hub.supplied = false)) = true) ∧
    (let s := pwS .safe2 (fun p => { p with inRange := false }); s.sup.pw.inRange = false ∧ s.md.mode ≠ .stowed ∧ s.md.closing = none ∧ lanes.all (fun (l : LaneId) => !s.cooRuns l) = true) := by decide +kernel

theorem witness_MainInputAndHoldUp_2 :
    (answers (exec (.mainInputRestored 1440 500 0 7) (pwS .safe2 (fun p => { p with inRange := false, holdup := true }))) (fun t => decide (t.sup.pw.inRange = true ∧ t.sup.pw.recharging = true ∧ t.cnt 0x7401 1 = 1)) = true) ∧
    (15400 < 15401 ∧ (modeS .safe2).sup.pw.overV = false ∧ (pwS .safe2 (fun p => { p with overV := true })).sup.pw.overV = true ∧
    answers (exec (.mainInputOvervoltage 15401 none) (modeS .safe2)) (fun t => decide (t.lf .b PWR_STATUS_OVER = 1 ∧ t.sup.pw.overV = true)) = true) ∧
    (answers (exec (.mainInputOvervoltage 15401 (some 9)) (pwS .safe2 (fun p => { p with overV := true }))) (fun t => decide (t.sup.pw.overV = false)) = true) ∧
    (answers (exec (.overvoltageDisconnect 15401 1000001) (modeS .safe2)) (fun t => decide (t.sup.pw.disconnected = true ∧ t.sup.pw.inRange = false)) = true) := by decide +kernel

theorem witness_MainInputAndHoldUp_3 :
    (answers (exec (.overvoltageDisconnect 18001 0) (modeS .safe2)) (fun t => decide (t.sup.pw.disconnected = true)) = true) ∧
    (let s := pwS .safe2 (fun p => { p with inRange := false, holdup := true }); s.sup.pw.holdup = true ∧ s.md.closing = none) ∧
    (answers (exec (.holdupRechargeDone) (pwS .safe2 (fun p => { p with recharging := true }))) (fun t => decide (t.sup.pw.charged = true ∧ t.sup.pw.recharging = false)) = true) ∧
    (let s := c3S 0; s.md.closing.isSome ∧
    answers (exec (.dumpComplete 40 9) ({ c3S 0 with sup := { (c3S 0).sup with pw := { dumping := true } } })) (fun t => decide (t.md.closing = none ∧ t.md.mode = .stowed ∧ t.sup.ka.lastDump = 40)) = true) := by decide +kernel

theorem witness_SuppliesTemperatureAndLosses_1 :
    (vbOut 769 = true ∧ voOut 1541 = true ∧ vbOut 770 = false ∧ voOut 1540 = false ∧ 2199 < 2200 ∧ (950 : Int) < 951 ∧
    answers (exec (.outputSupplyOutOfRange true 769) up) (fun t => decide (t.sup.pw.vbOk = false ∧ t.lf .a PWR_STATUS_VB_OK = 0 ∧ bitOf (t.lane .a).fe.sus 1 = true)) = true) ∧
    (answers (exec (.outputSupplyOutOfRange false 1541) up) (fun t => decide (t.sup.pw.voOk = false ∧ bitOf (t.lane .a).fe.sus 0 = true)) = true) ∧
    (answers (exec (.outputSupplyRestored true 770) up) (fun t => decide (t.sup.pw.vbOk = true ∧ t.lf .a PWR_STATUS_VB_OK = 1)) = true) ∧
    (answers (exec (.outputSupplyRestored false 1540) up) (fun t => decide (t.sup.pw.voOk = true ∧ t.lf .a PWR_STATUS_VO_OK = 1)) = true) := by decide +kernel

theorem witness_SuppliesTemperatureAndLosses_2 :
    (answers (exec (.keepaliveLow 2199) up) (fun t => decide (t.sup.pw.kaLow = true ∧ t.lf .c PWR_STATUS_KA_LOW = 1)) = true) ∧
    (answers (exec (.boardOvertemperature 951) up) (fun t => decide (t.sup.pw.tempHi = true ∧ t.lf .c PWR_STATUS_TEMP_HI = 1)) = true) ∧
    (answers (exec (.supervisorSupplyLoss false) up) (fun t => decide (t.sup.supplied = false ∧ t.sup.ka = up.sup.ka.lost)) = true) ∧
    (answers (exec (.hubSupplyLoss) up) (fun t => decide (t.hub.supplied = false ∧ t.lf .a BRG_STATUS_LINK_UP = 0)) = true) := by decide +kernel

def brgS (f : LaneBrg → LaneBrg) : State := linked.updLane .b (fun x => { x with brg := f x.brg })

def wrS : State := brgS (fun g => { g with writes := [⟨1, 8, 0x58000010, [(0x58000010, 7)], false⟩] })

def rdS (addr : Nat) : State := brgS (fun g => { g with reads := [⟨some 3, 1, 8, 31, addr, 4, true, false, 0⟩] })

theorem witness_BridgeStoresWritesAndFences_1 :
    (linked.coreUp .b 4 = true ∧ linked.lets .b 4 0x58FFFFF8 8 true .kernel = true ∧ linked.lets .b 4 0x63FFFFF8 8 true .kernel = true ∧ linked.lets .b 4 0x5034FFFC 4 true .kernel = true ∧ linked.lets .b 4 0x60000000 4 false .kernel = true ∧ mapFind (linked.lane .b).brg.failed 4 = none ∧ accessSize 8 = true ∧ 0x58FFFFF8 % 8 = 0 ∧ inHubMem 0x58FFFFF8 = true ∧ linked.lf .b BRG_CFG_WC_OFF = 0 ∧ mapFind (linked.lane .b).brg.wc 4 = none ∧
    answers (exec (.bridgeCombinedStore .b 4 100 0x58FFFFF8 8 5 false .kernel) linked) (fun t => decide (mapFind (t.lane .b).brg.wc 4 = some (storeBytes 0x58FFFFF8 8 5) ∧ (t.lane .b).brg.writes = [])) = true) ∧
    (accessSize 4 = true ∧ 0x58000002 % 4 ≠ 0 ∧
    answers (exec (.bridgeCombinedStore .b 4 100 0x58000002 4 5 false .kernel) linked) (fun t => decide ((t.core .b 4).trap = some ⟨7, 100, some 0x58000002⟩)) = true) ∧
    (answers (exec (.bridgeRegisterStore .b 4 100 0x50000000 4 5 true .kernel) linked) (fun t => decide ((t.core .b 4).trap = some ⟨7, 100, some 0x50000000⟩)) = true) ∧
    (inHubMem 0x60000000 = true ∧ mramMay .b 0x60000000 = false ∧ mramMay .a 0x60000000 = true ∧ inHubMem 0x63FFFFF8 = true ∧ mramMay .b 0x63FFFFF8 = false ∧
    answers (exec (.bridgeCombinedStore .b 4 100 0x63FFFFF8 8 5 false .kernel) linked) (fun t => decide ((t.core .b 4).trap = some ⟨7, 100, some 0x63FFFFF8⟩ ∧ t.lf .b BRG_FAULT_INFO_CODE = 2)) = true) := by decide +kernel

theorem witness_BridgeStoresWritesAndFences_2 :
    (linked.linkUp .b = true ∧ (linked.lane .b).brg.waiting = [] ∧ (linked.lane .b).brg.writes.length < 32 ∧ inWindow 0x5034FFFC = true ∧ laneEnd 0x5034FFFC = false ∧
    answers (exec (.bridgeRegisterStore .b 4 100 0x5034FFFC 4 5 false .kernel) linked) (fun t => decide ((t.lane .b).brg.writes.length = 1 ∧ t.lf .b BRG_WISSUED = 1)) = true) ∧
    (mapFind ((brgS (fun g => { g with wc := [(2, [(0x58000010, 7)])] })).lane .b).brg.wc 2 = some [(0x58000010, 7)] ∧
    answers (exec (.wcBufferIssue .b 2) (brgS (fun g => { g with wc := [(2, [(0x58000010, 7)])] }))) (fun t => decide ((t.lane .b).brg.writes = [⟨2, 0, 0x58000010, [(0x58000010, 7)], false⟩] ∧ t.lf .b BRG_WISSUED = 1)) = true) ∧
    ((wrS.lane .b).brg.writes ≠ [] ∧ wrS.linkUp .b = true ∧
    answers (exec (.writeResponse .b) wrS) (fun t => decide (t.hub.sram = [(0x58000010, 7)] ∧ t.lf .b BRG_WDONE = 1)) = true) ∧
    (mapFind (linked.lane .b).brg.wc 3 = none ∧ (linked.lane .b).brg.owes 3 = false ∧ linked.coreUp .b 3 = true ∧ (wrS.lane .b).brg.owes 1 = true ∧
    answers (exec (.fence .b 3 20) linked) (fun t => decide (t = linked)) = true) := by decide +kernel

theorem witness_BridgeStoresWritesAndFences_3 :
    (answers (exec (.fence .b 3 20) (brgS (fun g => { g with failed := [(3, 0x58000000)] }))) (fun t => decide ((t.core .b 3).trap = some ⟨7, 20, some 0x58000000⟩ ∧ (t.lane .b).brg.failed = [])) = true) ∧
    (answers (exec (.fence .b 1 20) wrS) (fun t => decide (mapFind (t.lane .b).brg.fences 1 = some 20)) = true) := by decide +kernel

theorem witness_BridgeLoadsTimersAndReset_1 :
    ((linked.lane .b).supplied = true ∧ mapFind (linked.lane .b).brg.failed 4 = none ∧ accessSize 4 = true ∧ inHubMem 0x60000000 = true ∧ inWindow 0x50000000 = true ∧ laneEnd 0x50000000 = false ∧
    answers (exec (.bridgeLoad .b 4 100 0x60000000 4 5 false false false .kernel) linked) (fun t => decide ((t.lane .b).brg.reads.map (fun r => (r.core, r.pc, r.rd, r.addr)) = [(4, 100, 5, 0x60000000)])) = true) ∧
    (let s := rdS 0x58000010; s.linkUp .b = true ∧ ((s.lane .b).brg.reads.find? (fun r => r.tag == some 3)).isSome ∧ 0x58000000 ≤ 0x58000010 ∧
    answers (exec (.readResponse .b 3 false) (rdS 0x58000010)) (fun t => decide (xReg (t.core .b 1) 31 = 0 ∧ (t.lane .b).brg.reads = [])) = true) ∧
    (answers (exec (.readResponse .b 3 true) (rdS 0x58000010)) (fun t => decide ((t.core .b 1).trap = some ⟨5, 8, some 0x58000010⟩ ∧ t.lf .b BRG_FAULT_INFO_CODE = 3)) = true) ∧
    (answers (exec (.flushAck .b 3) (brgS (fun g => { g with quar := [⟨some 3, 1, 8, 31, 0x58000010, 4, true, false, 0⟩] }))) (fun t => decide ((t.lane .b).brg.quar = [])) = true) := by decide +kernel

theorem witness_BridgeLoadsTimersAndReset_2 :
    (((rdS 0x58000010).lane .b).brg.reads[0]? = some ⟨some 3, 1, 8, 31, 0x58000010, 4, true, false, 0⟩ ∧
    answers (exec (.discardTimerExpire .b false 0 0) (rdS 0x58000010)) (fun t => decide ((t.core .b 1).trap = some ⟨5, 8, some 0x58000010⟩ ∧ (t.lane .b).brg.quar.length = 1 ∧ t.lf .b BRG_CNT_DISC_TIMEOUT = 1)) = true) ∧
    (wrS.lf .b BRG_STATUS_LINK_UP = 1 ∧ wrS.lf .b BRG_STATUS_RESETTING = 0) ∧
    (let s := up.lfSet .b BRG_STATUS_RESETTING 1; s.hub.supplied = true ∧ s.lf .b BRG_STATUS_RESETTING = 1 ∧
    answers (exec (.linkRetrained .b) (up.lfSet .b BRG_STATUS_RESETTING 1)) (fun t => decide (t.lf .b BRG_STATUS_LINK_UP = 1 ∧ t.lf .b BRG_STATUS_RESETTING = 0)) = true) := by decide +kernel

theorem witness_CoresAccessRegistersAndMemory_1 :
    ((up.lane .b).supplied = true ∧ up.lets .b 2 0x4000005C 4 false .kernel = true ∧ up.lets .b 2 0x40000044 4 true .kernel = true ∧ up.lets .b 0 0x17FFFFFF8 8 true .kernel = true ∧ up.lets .b 3 SLY_CRC_SEED.reg 4 true .kernel = true ∧ mapFind (up.lane .b).tick.dueRegs 0x40000044 = none ∧ mapFind (up.lane .b).tick.dueRegs SLY_CRC_SEED.reg = none ∧ accessSize 8 = true ∧ 0x17FFFFFF8 + 8 ≤ 0x180000000 ∧ 0xFFF8 + 8 ≤ 0x10000 ∧
    answers (exec (.rcRead .b 2 8 0x4000005C 4 31 false 1 .kernel) (up.lfSet .b ⟨0x4000005C, 31, 0⟩ 0x30002)) (fun t => decide (xReg (t.core .b 2) 31 = 0x30002 ∧ t.lf .b ⟨0x4000005C, 31, 0⟩ = 0x10000)) = true) ∧
    (answers (exec (.w1cWrite .b 2 8 0x40000044 3 2 .kernel) (up.lfSet .b ⟨0x40000044, 7, 0⟩ 7)) (fun t => decide (t.lf .b ⟨0x40000044, 7, 0⟩ = 6)) = true) ∧
    (answers (exec (.registerWrite .b 0 8 0x17FFFFFF8 8 0x1122334455667788 .kernel) up) (fun t => decide (t.lmem .b 0x17FFFFFF8 8 = leBytes 8 0x1122334455667788)) = true) ∧
    (answers (exec (.registerWrite .b 0 8 0xFFF8 8 5 .kernel) up) (fun t => decide ((t.core .b 0).trap = some ⟨7, 8, some 0xFFF8⟩)) = true) := by decide +kernel

theorem witness_CoresAccessRegistersAndMemory_2 :
    (answers (exec (.registerWrite .b 4 8 SLY_CRC_SEED.reg 4 0xABCD .kernel) up) (fun t => decide (t.lf .b SLY_CRC_SEED = 0xABCD)) = true) ∧
    (answers (exec (.registerWrite .b 3 8 SLY_CRC_SEED.reg 4 0xABCD .kernel) up) (fun t => decide (t.lf .b SLY_CRC_SEED = up.lf .b SLY_CRC_SEED)) = true) := by decide +kernel

def cfgS : State := { up with md := { up.md with mode := .configure } }

def pduOf (op index sub offset len : Nat) (data : List Byte) : List Byte := [1] ++ leBytes 1 op ++ [0, 7] ++ beBytes 2 index ++ leBytes 1 sub ++ [0x60] ++ beBytes 4 offset ++ beBytes 2 len ++ [0, 0] ++ data

def cl : Client := ⟨1, [10, 0, 0, 1, 0, 5], true⟩

def codeAt (t : State) : List (List Byte) := t.tx.map (fun e => (e.bytes.drop 14).take 2)

def asked (f : Svc → Svc) : State := { up with svc := f up.svc }

theorem witness_ServiceRequestsAnswered_1 :
    (let b := pduOf 1 0x0050 0 0 4 []; let p := parsePdu b; up.serviceOpen cl = true ∧ cl.kind = 1 ∧ up.throttled cl.addr = false ∧ formCode p b.length false = 0 ∧ p.auth = false ∧ p.op = 1 ∧ up.indexExists p.index = false ∧
    answers (exec (.serviceRead cl (pduOf 1 0x0050 0 0 4 [])) up) (fun t => decide (codeAt t = [[2, 1]])) = true) ∧
    (let b := pduOf 2 0x0050 0 0 1 [5]; let p := parsePdu b; formCode p b.length false = 0 ∧ p.op = 2 ∧
    answers (exec (.serviceWrite cl (pduOf 2 0x0050 0 0 1 [5])) up) (fun t => decide (codeAt t = [[2, 1]])) = true) ∧
    (let b := pduOf 3 0x0050 0 0 0 []; let p := parsePdu b; formCode p b.length false = 0 ∧ p.op = 3 ∧
    answers (exec (.serviceInfo cl (pduOf 3 0x0050 0 0 0 [])) up) (fun t => decide (codeAt t = [[2, 1]])) = true) ∧
    (let b := pduOf 4 0x0050 0 0 0 []; let p := parsePdu b; formCode p b.length false = 0 ∧ p.op = 4 ∧
    answers (exec (.serviceCancel cl (pduOf 4 0x0050 0 0 0 [])) up) (fun t => decide (codeAt t = [[2, 1]])) = true) := by decide +kernel

theorem witness_ServiceRequestsAnswered_2 :
    (let p := parsePdu (pduOf 1 0x3400 6 2 992 []); up.indexExists p.index = true ∧ (up.serviceRow p.index p.sub).isSome ∧ (up.serviceRow p.index p.sub).all (fun r => r.acc ≠ .wo && decide (p.offset < (up.readValue p.index p.sub r).length)) = true ∧ p.len ≠ 0 ∧
    answers (exec (.serviceRead cl (pduOf 1 0x3400 6 2 992 [])) up) (fun t => decide (t.tx.map (fun e => e.bytes.drop 16) = [[0, 0]] ∧ codeAt t = [[0, 0]])) = true) ∧
    (answers (exec (.serviceInfo cl (pduOf 3 0x3400 6 0 0 [])) up) (fun t => decide (codeAt t = [[0, 0]] ∧ t.tx.map (fun e => e.bytes.length) = [28])) = true) ∧
    (let s := asked (fun v => { v with transfers := [(objKey 0x3400 6, ⟨cl, [1]⟩)] }); (s.transferAt (objKey 0x3400 6)).isSome ∧
    answers (exec (.serviceCancel cl (pduOf 4 0x3400 6 0 0 [])) (asked (fun v => { v with transfers := [(objKey 0x3400 6, ⟨cl, [1]⟩)] }))) (fun t => decide (codeAt t = [[0, 0]] ∧ t.svc.transfers = [])) = true) ∧
    (let p := parsePdu (pduOf 2 0x3400 6 0 4 [0, 0, 0, 1]); (up.serviceRow p.index p.sub).all (fun r => decide (up.writeCode (up.requestSource cl 0) p.index p.sub r = 0x0303)) = true ∧
    answers (exec (.serviceWrite cl (pduOf 2 0x3400 6 0 4 [100, 0, 0, 0])) up) (fun t => decide (codeAt t = [[3, 3]] ∧ t.dict.pend = [])) = true) := by decide +kernel

theorem witness_ServiceRequestsAnswered_3 :
    (let p := parsePdu (pduOf 2 0x3400 6 0 4 [100, 0, 0, 0]); (cfgS.serviceRow p.index p.sub).all (fun r => decide (cfgS.writeCode (cfgS.requestSource cl 0) p.index p.sub r = 0 ∧ r.acc = .rwc ∧ p.len ≤ typeLen r.ty ∧ p.len = typeLen r.ty) && cfgS.valueOk p.index p.sub r p.data) = true ∧ cfgS.laneOwned p.index p.sub = false ∧ p.first = true ∧ p.last = true ∧ p.offset = 0 ∧ cfgS.transferAt (objKey p.index p.sub) = none ∧
    answers (exec (.serviceWrite cl (pduOf 2 0x3400 6 0 4 [100, 0, 0, 0])) cfgS) (fun t => decide (codeAt t = [[0, 0]] ∧ t.dict.pend = [(objKey 0x3400 6, [100, 0, 0, 0])])) = true) ∧
    (let b := pduOf 16 0 0 0 0 []; let p := parsePdu b; up.md.mode ≠ .stowed ∧ up.hub.supplied = true ∧ up.hub.mgmtUp = true ∧ formCode p b.length true = 0 ∧ p.op = 16 ∧ p.tid = 7 ∧
    answers (exec (.serviceOutcome .a (pduOf 16 0 0 0 0 [])) (asked (fun v => { v with relay := [⟨7, 0x1001, 0, 2, 0, [1], 5, 0⟩] }))) (fun t => decide (t.svc.relay = [] ∧ t.svc.outcomes.head? = some (7, 0))) = true) := by decide +kernel

def ringReq : State := (up.sramSet (0x58FC0000 + 16) (pduOf 3 0x3400 6 0 0 [])).sramSet (laneRing LaneId.a.idx) [16]

def sramReq : State := ringReq.sramSet (laneRing LaneId.a.idx + 0xFF00) [1]

def canF (h : Byte) : CanFrame := ⟨false, 0x600, false, false, false, false, 3, [h, 8, 7], 77⟩

def canAskS (rx : Option (Nat × List Byte)) : State := let s := ((canS 3 1 id).storedSet 0x0101 1 [3]).storedSet 0x0101 2 (leBytes 4 0x600); { s with svc := { s.svc with canRx := rx } }

theorem witness_ServiceRequestsAnswered_rings_1 :
    (let r := sramReq.ringCount (laneRing 0 + 0xFF04); r = 0 ∧ sramReq.serviceOpen (laneClient .a) = true ∧ leNat (memRead sramReq.hub.sram (laneRing 0) 2) = 16 ∧ sramReq.ringCount (laneRing 0 + 0xFF00) ≠ r ∧ ringReq.ringCount (laneRing 0 + 0xFF00) = ringReq.ringCount (laneRing 0 + 0xFF04) ∧
    answers (exec (.laneLocalRequest .a) sramReq) (fun t => decide (t.ringCount (laneRing 0 + 0xFF04) = 1)) = true) ∧
    (answers (exec (.laneLocalRequest .a) ringReq) (fun t => decide (t = ringReq)) = true) ∧
    (let s := canAskS none; let f := canF 0x80; s.serviceOpen (canClient 3) = true ∧ s.canOn 3 = true ∧ s.isService 3 f = true ∧ f.remote = false ∧ f.data ≠ [] ∧ bitOf (byteAt f.data 0) 7 = true ∧ bitOf (byteAt f.data 0) 6 = false ∧
    answers (exec (.canServiceSegment 3 (canF 0x80)) (canAskS none)) (fun t => decide (t.svc.canRx = some (1, [8, 7]))) = true) ∧
    (let f := canF 0x3F; bitOf (byteAt f.data 0) 7 = false ∧ bitOf (byteAt f.data 0) 6 = false ∧ byteAt f.data 0 % 64 = 63 ∧
    answers (exec (.canServiceSegment 3 (canF 0x3F)) (canAskS (some (63, [1])))) (fun t => decide (t.svc.canRx = some (0, [1, 8, 7]))) = true) := by decide +kernel

theorem witness_ServiceRequestsAnswered_rings_2 :
    (let f := canF 0x41; bitOf (byteAt f.data 0) 6 = true ∧ byteAt f.data 0 % 64 = 1 ∧
    answers (exec (.canServiceSegment 3 (canF 0x41)) (canAskS (some (1, [1])))) (fun t => decide (t.svc.canRx = none)) = true) ∧
    (answers (exec (.canServiceSegment 3 (canF 0x01)) (canAskS (some (2, [1])))) (fun t => decide (t.svc.canRx = none)) = true) ∧
    (answers (exec (.canSegmentGapTimeout) (canAskS (some (2, [1])))) (fun t => decide (t.svc.canRx = none)) = true) ∧
    (answers (exec (.transferTimeout 0x3400 6) (asked (fun v => { v with transfers := [(objKey 0x3400 6, ⟨cl, [1]⟩)] }))) (fun t => decide (t.svc.transfers = [] ∧ (t.deadAt cl (objKey 0x3400 6)).map (fun d => d.code) = some 0x0601)) = true) := by decide +kernel

theorem witness_ServiceRequestsAnswered_rings_3 :
    (answers (exec (.relayEntryExpire) (asked (fun v => { v with relay := [⟨7, 0x1001, 0, 2, 0, [1], 5, 16⟩, ⟨8, 0x1001, 0, 2, 0, [1], 6, 15⟩] }))) (fun t => decide (t.svc.relay = [⟨8, 0x1001, 0, 2, 0, [1], 6, 15⟩])) = true) := by decide +kernel

def okS : State := cfgS.storedSet 0x3010 0 []

def badS : State := { cfgS with dict := { cfgS.dict with pend := [(objKey 0x7101 0, [1, 0x80, 1, 1])] } }

def armedS : State := { linked with pde := { linked.pde with relayArmed := true } }

theorem witness_ConfigurationCommittedOrDiscarded_1 :
    (cfgS.configOpen 0xFF = true ∧ (cfgS.merged.withPair).conds.all (fun c => c.ok) = true) ∧
    (badS.configOpen 0xFF = true ∧ (badS.merged.withPair).rateConds.any (fun c => !c.ok) = true) ∧
    (answers (exec (.configDiscard 0xFF) badS) (fun t => decide (t.dict.pend = [])) = true) ∧
    (cfgS.dictImageCode [] ≠ 0 ∧ up.configOpen 0xFF = false ∧
    answers (exec (.dictionaryImageLoad 0xFF []) cfgS) (fun t => decide (t = cfgS)) = true) := by decide +kernel

theorem witness_ConfigurationCommittedOrDiscarded_2 :
    (answers (exec (.configCommit 0xFF) up) (fun t => decide (t = up)) = true) ∧
    (armedS.hub.supplied = true ∧ armedS.hub.mgmtUp = true ∧ armedS.pde.relayArmed = true ∧ 1 ≤ armedS.sourceLevel 0x20 ∧ (List.replicate 28 (9 : Byte)).length = 28 ∧ armedS.svc.relay.length + 1 ≤ 136 ∧
    answers (exec (.trainDirectoryWrite 0x20 (List.replicate 28 9)) armedS) (fun t => decide (t.svc.relay.map (fun e => (e.index, e.sub, e.source, e.value)) = [(0x0210, 1, 0x20, List.replicate 28 9)])) = true) := by decide +kernel

def parS (f : Partner → Partner) : State := { up with partners := [(40, f {})], hub := { up.hub with frame := 50000 } }

def bookS (f : Book → Book) : State := { up with book := f { up.book with ready := true, next := 10 }, hub := { up.hub with frame := 50000 } }

def subS (n frame : Nat) (b : Bool) : State := ((bookS (fun k => { k with ready := b })).updLane .a (fun x => { x with book := { x.book with queue := List.replicate n ⟨1, 2, 3, []⟩ } })).lfSet .a ⟨(CBK_SUB 0).reg, 31, 0⟩ frame

def decS (sd : Bool) : State := bookS (fun k => { k with decant := { active := true, toSd := sd, first := 9, count := 1, reqFrame := 1 }, ring := [(9, ⟨9, 1, 2, 3, 0, false, false, false, 0, 0, 0, []⟩)] })

def depS (ff : Bool) : State := let s := bookS (fun k => { k with decant := { k.decant with ffDecanted := ff } }); { s with md := { s.md with mode := .depot, life := .depotOpen } }.storedSet 0x0100 2 ([1, 3] ++ List.replicate 36 0)

def askDec : State := ((bookS id).volSet 0x7110 3 (leBytes 8 8)).volSet 0x7110 4 (leBytes 4 2)

theorem witness_PartnersAndCellarBook_1 :
    (let s := parS (fun p => { p with violAt := List.replicate 8 50000 }); s.hub.supplied = true ∧ (s.partner 40).until_ = none ∧ s.obj 0x7001 3 ≤ s.recentViol 40 ∧ (s.partner 40).throttleAt = [] ∧
    answers (exec (.partnerThrottle 40) (parS (fun p => { p with violAt := List.replicate 8 50000 }))) (fun t => decide ((t.partner 40).until_ = some 80000 ∧ (t.partner 40).throttles = 1)) = true) ∧
    (frameGe (parS id).hub.frame 50000 = true ∧ frameGe (parS id).hub.frame 50001 = false ∧
    answers (exec (.throttleEnd 40) (parS (fun p => { p with until_ := some 50000 }))) (fun t => decide ((t.partner 40).until_ = none)) = true) ∧
    (answers (exec (.throttleEnd 40) (parS (fun p => { p with until_ := some 50001 }))) (fun t => decide (t = parS (fun p => { p with until_ := some 50001 }))) = true) ∧
    (let s := parS (fun p => { p with used := 2, since := 40000 }); 0 < (s.partner 40).used ∧ (s.framesOf (s.obj 0x7001 2) : Int) ≤ frameDiff s.hub.frame (s.partner 40).since ∧
    answers (exec (.tokenRefill 40) (parS (fun p => { p with used := 2, since := 40000 }))) (fun t => decide ((t.partner 40).used = 1)) = true) := by decide +kernel

theorem witness_PartnersAndCellarBook_2 :
    (let s := { parS (fun p => { p with viol := 2, lastFrame := 40000 }) with hub := { up.hub with frame := 3640000 } }; 0 < (s.partner 40).viol ∧ (s.framesOf 3600 : Int) ≤ frameDiff s.hub.frame (s.partner 40).lastFrame ∧ (s.partner 40).until_ = none ∧
    answers (exec (.partnerSlotFree 40) ({ parS (fun p => { p with viol := 2, lastFrame := 40000 }) with hub := { up.hub with frame := 3640000, supplied := true } })) (fun t => decide (t.partners = [])) = true) ∧
    (64 ≤ ((subS 64 0 false).lane .a).book.queue.length ∧ ((subS 63 0 true).lane .a).book.queue.length < 64 ∧ (subS 63 50000 true).bookDue ((subS 63 50000 true).submission .a 5) = false ∧ (subS 63 0 true).book.ready = true ∧ (subS 63 0 true).bookDue ((subS 63 0 true).submission .a 5) = true ∧
    answers (exec (.cbkSubmit .a 4 5) (subS 64 0 false)) (fun t => decide (t.lf .a CBK_CNT_LOST = 1 ∧ (t.lane .a).book.loss = true)) = true) ∧
    (answers (exec (.cbkSubmit .a 4 5) (subS 63 50000 true)) (fun t => decide ((t.lane .a).book.queue.length = 64)) = true) ∧
    (let s := (bookS (fun k => { k with buckets := [(0x101, ⟨1, 40000, 0, 0⟩)] })).storedSet 0x7101 0 [1, 1, 4, 10]; s.rateOf 0x101 = some (4, 10) ∧ (s.bucket 0x101 4).tokens < 4 ∧ (s.framesOf 10 : Int) ≤ frameDiff s.hub.frame (s.bucket 0x101 4).since ∧ (s.bucket 0x101 4).pending = 0 ∧
    answers (exec (.cbkTokenGain 0x101) ((bookS (fun k => { k with buckets := [(0x101, ⟨1, 40000, 0, 0⟩)] })).storedSet 0x7101 0 [1, 1, 4, 10])) (fun t => decide ((t.bucket 0x101 4).tokens = 2)) = true) := by decide +kernel

theorem witness_PartnersAndCellarBook_3 :
    (answers (exec (.cbkTokenGain 0x101) ((bookS (fun k => { k with buckets := [(0x101, ⟨1, 40000, 3, 0⟩)] })).storedSet 0x7101 0 [1, 1, 4, 10])) (fun t => decide (t.book.next = 11 ∧ (t.bucket 0x101 4).pending = 0)) = true) ∧
    (askDec.obj 0x7110 3 = 8 ∧ askDec.obj 0x7110 4 = 2 ∧ askDec.decantRefused 0xFF = 0 ∧ (askDec.areaRange 0).1 ≤ 8 ∧ 8 + 2 ≤ (askDec.areaRange 0).2 + 1 ∧ askDec.decantRefused 1 ≠ 0 ∧
    answers (exec (.decantToSd 0xFF) askDec) (fun t => decide (t.book.decant.active = true ∧ t.book.decant.toSd = true ∧ t.book.decant.count = 2)) = true) ∧
    (answers (exec (.decantToService 0xFF) askDec) (fun t => decide (t.book.decant.active = true ∧ t.book.decant.toSd = false)) = true) ∧
    (answers (exec (.decantToSd 1) askDec) (fun t => decide (t = askDec)) = true) := by decide +kernel

theorem witness_PartnersAndCellarBook_4 :
    ((decS true).book.decant.active = true ∧ ((decS true).decantFile (decS true).book.decant).isSome) ∧
    (answers (exec (.decantComplete 3) (decS true)) (fun t => decide (t.book.decant.active = false ∧ t.book.decant.result = 3)) = true) ∧
    (answers (exec (.sdCardRemoval) (decS true)) (fun t => decide (t.book.decant.result = 2)) = true) ∧
    ((depS true).md.mode ≠ .stowed ∧ 3 ≤ (depS true).sourceLevel 2 ∧ (depS true).md.life = .depotOpen ∧ (depS true).book.decant.ffDecanted = true ∧ up.sourceLevel 1 < 2 ∧
    answers (exec (.unfreezeTail 0xFF) (bookS (fun k => { k with frozen := true, freeze := 5 }))) (fun t => decide (t.book.frozen = false ∧ t.book.freeze = 0)) = true) := by decide +kernel

theorem witness_PartnersAndCellarBook_5 :
    (answers (exec (.unfreezeTail 1) up) (fun t => decide (t = up)) = true) ∧
    (answers (exec (.reopenFirstFill 2) (depS true)) (fun t => decide (t.book.ffBase = 10 ∧ t.book.ffFull = false)) = true) ∧
    (answers (exec (.reopenFirstFill 2) (depS false)) (fun t => decide (t = depS false)) = true) := by decide +kernel

def rkS (m : Mode) (life : Life) (f : Rack → Rack) : State := let s := hostS m life; { s with rack := f s.rack }

def darkS (f : Rack → Rack) : State := { State.reset with rack := f {} }

def swS (frame : Nat) : State := (rkS .safe3 .inService (fun r => { r with state := 2, kind := 1, staged := true, lanes := [(0, 1), (1, 1), (2, 1)] })).volSet 0x1160 2 (leBytes 8 frame)

def fwS (m : Mode) (n : Nat) : State := onLanes (fun l s => s.lfSet l VOT_SCFG_ENTRIES n) (rkS m .inService (fun r => { r with state := 2, kind := 2, staged := true, lanes := [(0, 1), (1, 1), (2, 1)] }))

def inS (state : Nat) (n : Option Install) : State := rkS .safe3 .inService (fun r => { r with state := state, kind := 2, staged := true, install := n })

theorem witness_StagingAndRackingRequests_1 :
    (let s := rkS .safe3 .inService id; 2 ≤ s.sourceLevel 2 ∧ stageLife false s.md.life = true ∧ s.md.mode ≠ .stowed ∧ s.md.mode ≠ .start ∧ s.rack.state = 0 ∧ s.sourceLevel 1 < 2 ∧
    answers (exec (.stageProgramFromHost 2) (rkS .safe3 .inService id)) (fun t => decide (t.rack.state = 1 ∧ t.rack.kind = 1 ∧ t.rack.fromSd = false)) = true) ∧
    (answers (exec (.stageFirmwareFromSd 2) (rkS .safe3 .inService id)) (fun t => decide (t.rack.state = 1 ∧ t.rack.kind = 2 ∧ t.rack.fromSd = true)) = true) ∧
    (answers (exec (.stageProgramFromSd 2) (rkS .safe3 .inService (fun r => { r with state := 5 }))) (fun t => decide (t.rack.state = 5 ∧ t.rack.code = 1)) = true) ∧
    (answers (exec (.stageFirmwareFromHost 2) (rkS .depot .retired id)) (fun t => decide (t.rack.state = 0 ∧ t.rack.code = 1)) = true) := by decide +kernel

theorem witness_StagingAndRackingRequests_2 :
    (answers (exec (.installInService 1) (rkS .safe3 .inService id)) (fun t => decide (t.rack.state = 0 ∧ t.rack.code = 1)) = true) ∧
    (let s := (rkS .safe3 .inService (fun r => { r with host := [9, 9, 9, 9] })).volSet 0x1161 1 (leBytes 4 8); 2 ≤ s.sourceLevel 2 ∧ s.obj 0x1161 2 + 2 ≤ s.obj 0x1161 1 ∧
    answers (exec (.stagingSegmentWrite 2 [1, 2]) ((rkS .safe3 .inService (fun r => { r with host := [9, 9, 9, 9] })).volSet 0x1161 1 (leBytes 4 8))) (fun t => decide (t.rack.host = [1, 2, 9, 9])) = true) ∧
    (let s := darkS (fun r => { r with state := 1, kind := 1, fromSd := true }); s.stagingImage none = none ∧ s.copyCode none = 2 ∧
    answers (exec (.stagingComplete none) (darkS (fun r => { r with state := 1, kind := 1, fromSd := true }))) (fun t => decide (t.rack.state = 0 ∧ t.rack.code = 2)) = true) ∧
    (let s := darkS (fun r => { r with state := 1, kind := 1, host := [1] }); s.copyCode none = 0 ∧ s.stagingImage none = some [1] ∧ lanes.all (fun (l : LaneId) => !(s.lane l).supplied) = true ∧
    answers (exec (.stagingComplete none) (darkS (fun r => { r with state := 1, kind := 1, host := [1] }))) (fun t => decide (t.rack.state = 2 ∧ t.rack.staged = true ∧ mapFind t.store.prog 1 = some [1])) = true) := by decide +kernel

theorem witness_StagingAndRackingRequests_3 :
    (let s := rkS .safe3 .inService (fun r => { r with state := 1, kind := 1, host := [1] }); s.copyCode none = 0 ∧ s.stagingImage none = some [1] ∧ (s.lane .a).supplied = true ∧ s.laneCode .a [1] = 3 ∧
    answers (exec (.stagingComplete none) (rkS .safe3 .inService (fun r => { r with state := 1, kind := 1, host := [1] }))) (fun t => decide (t.rack.state = 0 ∧ t.rack.code = 3)) = true) ∧
    (let s := swS 0; s.stagedOnMembers 1 = true ∧ s.realigning = false ∧ s.obj 0x1160 2 = 0 ∧ (swS 4).obj 0x1160 2 ≠ 0 ∧ 4 ≤ frameDiff ((swS 4).obj 0x1160 2) (swS 4).modFrame ∧ frameDiff ((swS 4).obj 0x1160 2) (swS 4).modFrame ≤ 2 ^ 20 ∧
    answers (exec (.switchProgram 2) (swS 0)) (fun t => decide (t.rack.state = 3 ∧ t.rack.switchFrame = some 4)) = true) ∧
    (answers (exec (.switchProgram 2) (swS 4)) (fun t => decide (t.rack.state = 3 ∧ t.rack.switchFrame = some 4)) = true) ∧
    (answers (exec (.switchProgram 2) (swS 3)) (fun t => decide (t.rack.state = 2 ∧ t.rack.code = 0x13)) = true) := by decide +kernel

theorem witness_StagingAndRackingRequests_4 :
    (let s := fwS .safe3 1; s.stagedOnMembers 2 = true ∧ lanes.all (fun (l : LaneId) => decide (0 < s.lf l VOT_SCFG_ENTRIES)) = true ∧
    answers (exec (.installInService 2) (fwS .safe3 1)) (fun t => decide (t.rack.state = 4 ∧ t.rack.install = some { lanes := [0, 1, 2] })) = true) ∧
    (answers (exec (.installInService 2) (fwS .safe3 0)) (fun t => decide (t.rack.state = 2 ∧ t.rack.code = 1)) = true) ∧
    (answers (exec (.installAtNextStart 2) (fwS .depot 1)) (fun t => decide (t.rack.state = 9 ∧ mapGet 0 t.sup.ka.sel 0 = 1 ∧ mapGet 0 t.sup.ka.sel 3 = 1)) = true) ∧
    (answers (exec (.abortRacking 2) (rkS .safe3 .inService (fun r => { r with state := 1 }))) (fun t => decide (t.rack.state = 0 ∧ t.rack.code = 0x12)) = true) := by decide +kernel

theorem witness_StagingAndRackingRequests_5 :
    (answers (exec (.abortRacking 2) (rkS .safe3 .inService (fun r => { r with state := 3, switchFrame := some 9 }))) (fun t => decide (t.rack.state = 2 ∧ t.rack.switchFrame = none)) = true) ∧
    (answers (exec (.abortRacking 2) (rkS .depot .inService (fun r => { r with state := 9 }))) (fun t => decide (t.rack.state = 2 ∧ t.sup.ka.selPending = false)) = true) ∧
    (answers (exec (.abortRacking 2) (inS 5 (some { lanes := [1], left := true }))) (fun t => decide (t.rack.state = 5 ∧ t.rack.code = 0x12 ∧ t.rack.install = some { lanes := [1], left := true, aborting := true })) = true) ∧
    (let s := fwS .safe3 1; s.rack.install = none ∧ s.rack.state < 4 ∧ s.rack.kind = 2 ∧
    answers (exec (.discardStaged 2) (fwS .safe3 1)) (fun t => decide (t.rack.state = 0 ∧ t.rack.staged = false)) = true) := by decide +kernel

def gateMsg (l kind n : Nat) : List Byte := let p := leBytes 6 n ++ [0, 0] ++ leBytes 16 0 ++ leBytes 1 l ++ leBytes 1 kind ++ [0, 0]; p ++ leBytes 4 (crc32c p)

def late (s : State) : State := { s with sup := { s.sup with frame := 100000000 } }

def hubS (f : Rack → Rack) : State := { up with rack := f { up.rack with hubRestart := some 0 } }

theorem witness_InstallationInService_1 :
    (let m := gateMsg 1 2 300; m.length = 32 ∧ leAt m 28 4 = crc32c (m.take 28) ∧ byteAt m 24 = 1 ∧ byteAt m 25 = 2 ∧ leAt m 26 2 = 0 ∧ leAt m 6 2 = 0 ∧
    answers (exec (.gateMessageReceive .b (gateMsg 1 2 300)) up) (fun t => decide (t.rack.gateMsgs = [⟨1, 2, 300, leBytes 16 0⟩])) = true) ∧
    (let s := rkS .safe3 .inService (fun r => { r with switchFrame := some 1 }); let m := gateMsg 0 0x10 1; s.ticking .b = true ∧ s.rack.switchFrame = some 1 ∧ frameAdd (s.frame .b) 1 = 1 ∧ slice m 8 16 = padTo 16 s.rack.stagedId ∧ byteAt m 25 = 0x10 ∧ m.length = 32 ∧
    answers (exec (.gateMessageReceive .b (gateMsg 0 0x10 1)) (rkS .safe3 .inService (fun r => { r with switchFrame := some 1 }))) (fun t => decide ((t.lane .b).switchRec = some true ∧ (t.lane .a).switchRec = none)) = true) ∧
    (answers (exec (.gateMessageReceive .b (gateMsg 0 0x11 1)) (rkS .safe3 .inService (fun r => { r with switchFrame := some 1 }))) (fun t => decide ((t.lane .b).switchRec = some false)) = true) ∧
    (answers (exec (.gateMessageReceive .b (gateMsg 0 0x10 1)) up) (fun t => decide (t = up)) = true) := by decide +kernel

theorem witness_InstallationInService_2 :
    (answers (exec (.gateMessageReceive .b (gateMsg 0 2 300)) up) (fun t => decide (t = up)) = true) ∧
    (answers (exec (.gateMessageReceive .b [1]) up) (fun t => decide (t = up)) = true) ∧
    (let s := inS 4 (some { lanes := [0, 1] }); s.md.mode = .safe3 ∧ s.realigning = false ∧ s.inVote (laneOf 0) = true ∧ s.rack.lastJoin = 0 ∧ laneOf 0 = .a ∧
    answers (exec (.installNextLane) (inS 4 (some { lanes := [0, 1] }))) (fun t => decide ((t.lane .a).rt.leave = true ∧ t.rack.state = 4 ∧ mapGet 0 t.sup.ka.sel 0 = 1)) = true) ∧
    (answers (exec (.installNextLane) (inS 4 (some { lanes := [0], revert := true }))) (fun t => decide ((t.lane .a).rt.leave = true ∧ t.rack.state = 8 ∧ mapGet 0 t.sup.ka.sel 0 = 0)) = true) := by decide +kernel

theorem witness_InstallationInService_3 :
    (answers (exec (.installNextLane) (inS 5 (some { lanes := [1, 2], aborting := true }))) (fun t => decide (t.rack.code = 0x12 ∧ (t.lane .b).rt.leave = false)) = true) ∧
    (answers (exec (.installNextLane) (inS 4 (some { lanes := [0], left := true }))) (fun t => decide (t = inS 4 (some { lanes := [0], left := true }))) = true) ∧
    (let s := late (inS 4 (some { lanes := [0], left := true })); s.obj 0x1162 1 ≤ s.framesMs (frameDiff s.sup.frame 0).toNat ∧ up.framesMs (frameDiff up.sup.frame 0).toNat < up.obj 0x1162 1 ∧
    answers (exec (.installAdmitTimeout) (late (inS 4 (some { lanes := [0], left := true })))) (fun t => decide (t.rack.code = 0x10)) = true) ∧
    (answers (exec (.installAdmitTimeout) (late (inS 8 (some { lanes := [0], left := true, revert := true })))) (fun t => decide (t.rack.state = 2 ∧ t.rack.install = none)) = true) := by decide +kernel

theorem witness_InstallationInService_4 :
    (answers (exec (.installAdmitTimeout) (inS 4 (some { lanes := [0], left := true }))) (fun t => decide (t = inS 4 (some { lanes := [0], left := true }))) = true) ∧
    ((hubS id).inVote .b = true ∧ laneSetCount (nOr 0 (2 ^ LaneId.b.idx)) < 2 ∧ 2 ≤ laneSetCount (nOr 1 (2 ^ LaneId.b.idx)) ∧ (hubS id).rack.hubRestart = some 0 ∧
    answers (exec (.hubRunningReport .b) (hubS id)) (fun t => decide (t.rack.hubReports = 2 ∧ t.rack.hubRestart = some 0)) = true) ∧
    (answers (exec (.hubRunningReport .b) (hubS (fun r => { r with hubReports := 1 }))) (fun t => decide (t.rack.hubRestart = none ∧ t.hub.mgmtUp = true)) = true) ∧
    ((hubS id).framesMs (frameDiff (hubS id).sup.frame 0).toNat < 2000 ∧ 2000 ≤ (late (hubS id)).framesMs (frameDiff (late (hubS id)).sup.frame 0).toNat ∧
    answers (exec (.hubRestartTimeout) (late (hubS id))) (fun t => decide (t.rack.hubFails = 1 ∧ t.rack.code = 0x11 ∧ t.hub.mgmtUp = false)) = true) := by decide +kernel

theorem witness_InstallationInService_5 :
    (answers (exec (.hubRestartTimeout) (late (hubS (fun r => { r with hubFails := 1 })))) (fun t => decide (t.rack.hubStopped = true ∧ t.rack.hubRestart = none)) = true) ∧
    (answers (exec (.hubRestartTimeout) (hubS id)) (fun t => decide (t = hubS id)) = true) := by decide +kernel

def passRun : CooperRun := { ended := 0, ms := 1000, logic := [], fails := [], remain := [], lpddr := false, vmin := 30 }

theorem witness_CooperSetsAndRecords_1 :
    (let s := c3S 0; (s.lane .b).supplied = true ∧ s.lf .b COO_STATUS_STATE = 0 ∧ s.cooMay .b (bitsOf 0x11 7 4) = true ∧ up.cooMay .a (bitsOf 0x41 7 4) = false ∧ 1 ≤ bitsOf 0x11 7 4 ∧
    answers (exec (.cooperGo .b 4 0x11) (c3S 0)) (fun t => decide (t.lf .b COO_STATUS_STATE = 1 ∧ t.lf .b COO_STATUS_SET = 1)) = true) ∧
    (answers (exec (.cooperGo .a 4 0x41) up) (fun t => decide (t.lf .a COO_STATUS_STATE = 0)) = true) ∧
    (answers (exec (.cooperStop .a 4 1) (up.lfSet .a COO_STATUS_STATE 1)) (fun t => decide (t.lf .a COO_STATUS_STATE = 2 ∧ t.lf .a COO_STOP = 1)) = true) ∧
    (answers (exec (.cooperStop .a 4 1) up) (fun t => decide (t = up)) = true) := by decide +kernel

theorem witness_CooperSetsAndRecords_2 :
    (let s := up.lfSet .a COO_STATUS_STATE 1; s.md.closing = none ∧ s.underTest .a = false ∧ s.coo.closeAfter = none ∧ s.coo.resetAfter = false ∧ passRun.fails = [] ∧ passRun.remain = [] ∧
    answers (exec (.cooperRunDone .a passRun) (up.lfSet .a COO_STATUS_STATE 1)) (fun t => decide (t.lf .a COO_STATUS_STATE = 3 ∧ t.lf .a COO_STATUS_PASS = 1)) = true) ∧
    (answers (exec (.cooperRunDone .a passRun) (up.lfSet .a COO_STATUS_STATE 2)) (fun t => decide (t.lf .a COO_STATUS_STATE = 4 ∧ t.lf .a COO_STATUS_PASS = 0)) = true) ∧
    (up.hub.supplied = true ∧ up.mapCopy = none ∧ (List.replicate 16 (7 : Byte)).length = 16 ∧
    answers (exec (.repairEntrySubmit 0x20 (List.replicate 16 7)) up) (fun t => decide (t.mramRead (mapBase 0 + 64) 16 = List.replicate 16 7 ∧ leAt (t.mramRead (mapBase 0) 64) 4 8 = 1)) = true) ∧
    (answers (exec (.repairEntrySubmit 0x22 [7]) up) (fun t => decide (t = up)) = true) := by decide +kernel

theorem witness_CooperSetsAndRecords_3 :
    (answers (exec (.ageingRecordSubmit 0x22 (List.replicate 64 7)) up) (fun t => decide (t.mramRead (0x60D00000 + 64 * ageSlot 0) 64 = List.replicate 64 7 ∧ t.coo.recs = 1)) = true) ∧
    (let s := hostS .depot .depotOpen; 3 ≤ s.sourceLevel 2 ∧ s.coo.test = none ∧ bitsOf 0x41 7 4 = 4 ∧ bitsOf 0x41 3 3 = 0 ∧ bitOf 0x41 0 = true ∧ (s.lane .a).supplied = true ∧
    answers (exec (.commandedTest 2 0x41) (hostS .depot .depotOpen)) (fun t => decide (t.coo.test.map (fun x => (x.set, x.blocks)) = some (4, 0))) = true) ∧
    (answers (exec (.commandedTest 2 0x41) (hostS .safe3 .depotOpen)) (fun t => decide (t = hostS .safe3 .depotOpen)) = true) := by decide +kernel

def avsS (v : Nat) : State := (up.lfSet .a AGE_AVS_V v).lfSet .a AGE_AVS_V_FLOOR 10

def allowS (n : Nat) : State := (up.lfSet .a AGE_PLAN_F_ALLOW 3).updLane .a (fun x => { x with coop := { x.coop with allow := some (5, n) } })

def dayS (ns : Nat) : State := { up with coo := { up.coo with opNs := ns } }

def meas : AgeMeas := ⟨600, 100, 55, 0, 1000, 0, .hs⟩

theorem witness_VoltageLoopAndAgeing_1 :
    (let s := avsS 30; (s.lane .a).supplied = true ∧ (0 : Int) < (s.lf .a AGE_AVS_SLACK_PLAN : Int) ∧ s.lf .a AGE_AVS_V < 60 ∧ (s.lf .a AGE_AVS_SLACK_PLAN : Int) + 20 < 1000 ∧ s.lf .a AGE_AVS_V_FLOOR < s.lf .a AGE_AVS_V ∧ 60 ≤ (avsS 60).lf .a AGE_AVS_V ∧ (avsS 10).lf .a AGE_AVS_V ≤ (avsS 10).lf .a AGE_AVS_V_FLOOR ∧
    answers (exec (.avsRaise .a [1000, 0]) (avsS 30)) (fun t => decide (t.lf .a AGE_AVS_V = 31)) = true) ∧
    (answers (exec (.avsRaise .a [1000]) (avsS 30)) (fun t => decide (t.lf .a AGE_AVS_V = 30)) = true) ∧
    (answers (exec (.avsLower .a [1000]) (avsS 30)) (fun t => decide (t.lf .a AGE_AVS_V = 29)) = true) ∧
    (answers (exec (.avsLower .a [1000]) (avsS 10)) (fun t => decide (t.lf .a AGE_AVS_V = 10)) = true) := by decide +kernel

theorem witness_VoltageLoopAndAgeing_2 :
    (answers (exec (.avsLower .a [1000, 0]) (avsS 30)) (fun t => decide (t.lf .a AGE_AVS_V = 30)) = true) ∧
    (((allowS 60).lane .a).coop.allow = some (5, 60) ∧ (allowS 60).lf .a AGE_PLAN_F_ALLOW < 5 ∧ up.md.mode ≠ .start ∧ (up.lane .a).restart = none ∧
    answers (exec (.fAllowLower .a) (allowS 60)) (fun t => decide (t.lf .a AGE_PLAN_F_ALLOW = 5 ∧ (t.lane .a).coop.allow = none)) = true) ∧
    (answers (exec (.fAllowLower .a) (allowS 59)) (fun t => decide (t = allowS 59)) = true) ∧
    (up.ticking .b = true ∧ runMode (up.laneMode .b) = true ∧ up.sup.supplied = true ∧ up.frame .b % max 1 (1000000000 / max 1 up.period) = 0 ∧
    answers (exec (.ageingReport .b) up) (fun t => decide ((mapFind t.sup.reports 1).isSome)) = true) := by decide +kernel

theorem witness_VoltageLoopAndAgeing_3 :
    (answers (exec (.dailyAgeingRecord .c meas) (dayS 86400000000000)) (fun t => decide (t.coo.recs = 1 ∧ mapGet 0 t.coo.daily 2 = 86400000000000)) = true) ∧
    (answers (exec (.dailyAgeingRecord .c meas) (dayS 86399999999999)) (fun t => decide (t = dayS 86399999999999)) = true) := by decide +kernel

def pairS (f : LanePair → LanePair) : State := let s := (hostS .safe3 .inService).storedSet 0x7300 1 [1]; s.prSet .a (f (s.pr .a))

theorem witness_PairRolesAndShadow_1 :
    (let s := pairS (fun x => { x with role := 1, hb := some { flags := 32 } }); 1 ≤ s.sourceLevel 2 ∧ s.pairOn = true ∧ s.ticking .a = true ∧ (s.pr .a).role = 1 ∧ (s.pr .a).hb.any Heartbeat.elig = true ∧ s.sourceLevel 1 = 0 ∧
    answers (exec (.handoverRequest 2) (pairS (fun x => { x with role := 1, hb := some { flags := 32 } }))) (fun t => decide ((t.pr .a).asked = true ∧ (t.pr .b).asked = false)) = true) ∧
    (answers (exec (.handoverRequest 1) (pairS (fun x => { x with role := 1, hb := some { flags := 32 } }))) (fun t => decide (t = pairS (fun x => { x with role := 1, hb := some { flags := 32 } }))) = true) ∧
    (answers (exec (.handoverTimeout .a) (pairS (fun x => { x with role := 2, yieldAt := some (2 ^ 48 - 8) }))) (fun t => decide ((t.pr .a).role = 1 ∧ (t.pr .a).yieldAt = none ∧ t.lf .a PAIR_CTL_ROLE = 1)) = true) ∧
    (answers (exec (.handoverTimeout .a) (pairS (fun x => { x with role := 2, yieldAt := some (2 ^ 48 - 7) }))) (fun t => decide (t = pairS (fun x => { x with role := 2, yieldAt := some (2 ^ 48 - 7) }))) = true) := by decide +kernel

theorem witness_PairRolesAndShadow_2 :
    (let s := pairS (fun x => { x with role := 0, takeRun := 10000000 }); s.framesOf (s.obj 0x7300 6) ≤ 10000000 ∧ s.obj 0x7300 7 ≠ 0 ∧ (s.recentBacks .a).length < s.obj 0x7300 7 ∧
    answers (exec (.takeHoldoffExpire .a) (pairS (fun x => { x with role := 0, takeRun := 10000000 }))) (fun t => decide ((t.pr .a).take = true)) = true) ∧
    (let s := pairS (fun x => { x with role := 0, takeRun := 10000000, backs := List.replicate 255 0 }); s.obj 0x7300 7 ≤ (s.recentBacks .a).length ∧ (s.pr .a).held = false ∧
    answers (exec (.takeHoldoffExpire .a) (pairS (fun x => { x with role := 0, takeRun := 10000000, backs := List.replicate 255 0 }))) (fun t => decide ((t.pr .a).take = false ∧ (t.pr .a).held = true)) = true) ∧
    (let s := pairS (fun x => { x with role := 0, waiting := true, lowRun := 10000000 }); s.eligible .a = true ∧ s.framesOf (s.obj 0x7300 9) ≤ 10000000 ∧ 0 < s.framesOf (s.obj 0x7300 9) ∧
    answers (exec (.startWaitExpire .a) (pairS (fun x => { x with role := 0, waiting := true, lowRun := 10000000 }))) (fun t => decide ((t.pr .a).role = 1 ∧ (t.pr .a).waiting = false)) = true) ∧
    (answers (exec (.startWaitExpire .a) (pairS (fun x => { x with role := 0, waiting := true }))) (fun t => decide (t = pairS (fun x => { x with role := 0, waiting := true }))) = true) := by decide +kernel

theorem witness_PairRolesAndShadow_3 :
    (up.lf .a PAIR_CFG_SHADOW_N ≤ 255 ∧ 0 < up.lf .a PAIR_CFG_SHADOW_N ∧
    answers (exec (.shadowMismatch .a) (pairS (fun x => { x with last := some {}, diff := 255, ok := true }))) (fun t => decide ((t.pr .a).ok = false ∧ t.lf .a PAIR_STAT_SHADOW_OK = 0)) = true) ∧
    (answers (exec (.shadowMismatch .a) (pairS (fun x => { x with ok := true }))) (fun t => decide (t = pairS (fun x => { x with ok := true }))) = true) ∧
    (answers (exec (.shadowMismatchClear .a) (pairS (fun x => { x with same := 255, ok := false }))) (fun t => decide ((t.pr .a).ok = true ∧ t.lf .a PAIR_STAT_SHADOW_OK = 1)) = true) ∧
    (answers (exec (.shadowMismatchClear .a) (pairS (fun x => { x with same := 0 }))) (fun t => decide (t = pairS (fun x => { x with same := 0 }))) = true) := by decide +kernel

theorem witness_StepsTakeCommandsAndIdle :
    (up.pending = [] ∧ answers (step up) (fun t => decide (t = up)) = true) ∧
    (answers (step { up with pending := [.shadowMismatch .a, .portLinkDown 3] }) (fun t => decide (t.pending = [.portLinkDown 3] ∧ t.md.life = up.md.life)) = true) := by decide +kernel

end Sys2Proof.Machine
end

/-! Accesses of the cores: the bits of registers, a word read from or written to a register of a lane peripheral, stores to lane
memory and access faults (00 R14, R15; 01 R44, R46). -/

namespace Sys2Proof.Machine

/-! ### Bits of a number -/

theorem bitOf_eq_testBit (v i : Nat) : bitOf v i = v.testBit i := by
  rw [bitOf, Nat.testBit_eq_decide_div_mod_eq, beq_eq_decide]

@[simp] theorem bitOf_zero (i : Nat) : bitOf 0 i = false := by
  simp [bitOf_eq_testBit]

@[simp] theorem bitOf_nOr (a b i : Nat) : bitOf (nOr a b) i = (bitOf a i || bitOf b i) := by
  simp [bitOf_eq_testBit, nOr]

@[simp] theorem bitOf_nAnd (a b i : Nat) : bitOf (nAnd a b) i = (bitOf a i && bitOf b i) := by
  simp [bitOf_eq_testBit, nAnd]

@[simp] theorem bitOf_nAndNot (a b i : Nat) : bitOf (nAndNot a b) i = (bitOf a i && !bitOf b i) := by
  simp only [bitOf_eq_testBit, nAndNot, Nat.testBit_xor, Nat.testBit_and]
  cases a.testBit i <;> cases b.testBit i <;> rfl

/-- Bit `i` of a field that begins at bit 0. -/
theorem bitOf_bitsOf_zero (v : Nat) {hi i : Nat} (h : i ≤ hi) : bitOf (bitsOf v hi 0) i = bitOf v i := by
  rw [bitsOf, bitOf_eq_testBit, bitOf_eq_testBit, Nat.pow_zero, Nat.div_one, Nat.testBit_mod_two_pow]
  simp [Nat.lt_succ_of_le h]

theorem bitOf_mod_two_pow (v : Nat) {n i : Nat} (h : i < n) : bitOf (v % 2 ^ n) i = bitOf v i := by
  rw [bitOf_eq_testBit, bitOf_eq_testBit, Nat.testBit_mod_two_pow]
  simp [h]

/-- Every bit of a word's mask is set. -/
theorem bitOf_word {i : Nat} (h : i < 32) : bitOf 0xFFFFFFFF i = true := by
  rw [bitOf_eq_testBit, show 0xFFFFFFFF = 2 ^ 32 - 1 from rfl, Nat.testBit_two_pow_sub_one, decide_eq_true h]

/-- The number that the bytes of a value spell. -/
theorem leNat_leBytes (n v : Nat) : leNat (leBytes n v) = v % 256 ^ n := by
  induction n generalizing v with
  | zero => simp [leBytes, leNat, Nat.mod_one]
  | succ n ih =>
    rw [leBytes, leNat, ih, BitVec.toNat_ofNat, Nat.pow_succ' (m := 256), Nat.mod_mul (a := 256)]

@[simp] theorem length_leBytes (n v : Nat) : (leBytes n v).length = n := by
  induction n generalizing v with
  | zero => rfl
  | succ n ih => rw [leBytes, List.length_cons, ih]

/-! ### Who runs on a core -/

/-- `u` is `s` but for core `core` of lane `l`. -/
def CoreOnly (l : LaneId) (core : Nat) (s u : State) : Prop := u = s ∨ ∃ k, u = s.coreSet l core k

/-- What whoever runs on a core may do with a state: make the access, in that state but for the core, or fault (R143 to R146). -/
theorem guarded_cases (s : State) (l : LaneId) (core pc addr n : Nat) (write : Bool) (who : Runner) (f : State → State) :
    ∃ u, CoreOnly l core s u ∧ (s.guarded l core pc addr n write who f = f u ∨
      (s.lets l core addr n write who = false ∧ s.guarded l core pc addr n write who f = u.accessFault l core pc addr write)) := by
  cases who with
  | kernel => exact ⟨_, .inr ⟨_, rfl⟩, .inl rfl⟩
  | dispatcher => exact ⟨_, .inr ⟨_, rfl⟩, .inl rfl⟩
  | task t =>
    by_cases hc : core = 4
    · exact ⟨s, .inl rfl, .inl (by simp [State.guarded, hc])⟩
    · cases hd : s.decl l t with
      | none => exact ⟨s, .inl rfl, .inr (by simp [State.guarded, State.lets, hc, hd])⟩
      | some d =>
        refine ⟨s.dispatch l core d, .inr ⟨_, rfl⟩, ?_⟩
        cases h : ((s.dispatch l core d).core l core).pmpAllows addr n write <;> simp [State.guarded, State.lets, hc, hd, h]

/-- An access that is let through is made. -/
theorem guarded_of_lets {s : State} {l : LaneId} {core pc addr n : Nat} {write : Bool} {who : Runner}
    (h : s.lets l core addr n write who = true) (f : State → State) :
    ∃ u, CoreOnly l core s u ∧ s.guarded l core pc addr n write who f = f u := by
  obtain ⟨u, hu, he | ⟨hl, -⟩⟩ := guarded_cases s l core pc addr n write who f
  · exact ⟨u, hu, he⟩
  · simp [h] at hl

/-- An access that faults by itself faults whoever runs on the core. -/
theorem guarded_accessFault (s : State) (l : LaneId) (core pc addr n : Nat) (write : Bool) (who : Runner) :
    ∃ u, CoreOnly l core s u ∧
      s.guarded l core pc addr n write who (fun s => s.accessFault l core pc addr write) = u.accessFault l core pc addr write := by
  obtain ⟨u, hu, he | ⟨-, he⟩⟩ := guarded_cases s l core pc addr n write who (fun s => s.accessFault l core pc addr write)
  · exact ⟨u, hu, he⟩
  · exact ⟨u, hu, he⟩

/-- A state that differs in one core has the lane's memory, registers and tick unit. -/
theorem CoreOnly.keeps {s u : State} {l : LaneId} {core : Nat} (h : CoreOnly l core s u) :
    LaneOnly l s u ∧ (u.lane l).mem = (s.lane l).mem ∧ (u.lane l).tick = (s.lane l).tick ∧ (∀ a, u.lreg l a = s.lreg l a) := by
  rcases h with rfl | ⟨k, rfl⟩
  · exact ⟨LaneOnly.refl _ _, rfl, rfl, fun _ => rfl⟩
  · exact ⟨LaneOnly.coreSet _ _ _ _, by simp, by simp, fun a => by simp [State.lreg]⟩

/-! ### Accesses to one register of a lane peripheral -/

/-- `r` is the row of a 4-byte register of a lane peripheral at the address `reg`, and every byte of it is that register's. -/
structure WordReg (reg : Nat) (r : RegRow) : Prop where
  peripheral : inPeripheral reg = true
  aligned : reg % 4 = 0
  size : r.size = 4
  bytes : ∀ i < 4, regAt (reg + i) = some (reg, r)

theorem WordReg.at_base {reg : Nat} {r : RegRow} (h : WordReg reg r) : regAt reg = some (reg, r) := h.bytes 0 (by omega)

theorem WordReg.range {reg : Nat} {r : RegRow} (h : WordReg reg r) : 0x40000000 ≤ reg ∧ reg < 0x48000000 := by
  have hp := h.peripheral
  simp only [inPeripheral, Bool.or_eq_true, Bool.and_eq_true, decide_eq_true_eq] at hp
  omega

/-- The four bytes of a word, with their addresses. -/
theorem storeBytes_word (a : Nat) (v : Word) : storeBytes a 4 v =
    [(a, BitVec.ofNat 8 v.toNat), (a + 1, BitVec.ofNat 8 (v.toNat / 256)), (a + 2, BitVec.ofNat 8 (v.toNat / 256 / 256)),
      (a + 3, BitVec.ofNat 8 (v.toNat / 256 / 256 / 256))] := rfl

/-- The value and the mask that a word's bytes spell. -/
theorem bytesOn_word (a : Nat) (v : Word) : bytesOn a (storeBytes a 4 v) = (v.toNat % 2 ^ 32, 0xFFFFFFFF) := by
  rw [storeBytes_word]
  simp [bytesOn]
  omega

/-- A word's bytes all lie in its register. -/
theorem splitReg_word (a : Nat) (v : Word) : splitReg a 4 (storeBytes a 4 v) = (storeBytes a 4 v, []) := by
  rw [storeBytes_word]
  simp [splitReg]

/-- A word stored to a register is one write of the register. -/
theorem WordReg.localStore {reg : Nat} {r : RegRow} (h : WordReg reg r) (s : State) (l : LaneId) (core pc : Nat) (v : Word) :
    s.localStore l core pc reg 4 v = (s.regWrite l core reg r (v.toNat % 2 ^ 32) 0xFFFFFFFF).1 := by
  have hall : allRegs (storeBytes reg 4 v) = true := by
    rw [storeBytes_word]
    simp [allRegs, h.at_base, h.bytes 1, h.bytes 2, h.bytes 3]
  have hstore : (s.regStore l core 4 (storeBytes reg 4 v)).1 = (s.regWrite l core reg r (v.toNat % 2 ^ 32) 0xFFFFFFFF).1 := by
    have hb := bytesOn_word reg v
    have hs := splitReg_word reg v
    rw [storeBytes_word] at hb hs ⊢
    simp only [State.regStore, h.at_base, h.size, hs, hb]
    split <;> rfl
  simp [State.localStore, h.aligned, hall, hstore]

/-- A word loaded from a register is one read of the register. -/
theorem WordReg.localLoad {reg : Nat} {r : RegRow} (h : WordReg reg r) (s : State) (l : LaneId) (core pc rd : Nat) (signed : Bool) :
    s.localLoad l core pc reg 4 rd signed =
      (s.regRead l core reg r 0xFFFFFFFF).2.coreLoad l core rd (leBytes 4 (s.regRead l core reg r 0xFFFFFFFF).1) signed := by
  have hall : (List.range 4).all (fun i => (regAt (reg + i)).isSome) = true := by
    simp [List.range_succ, h.at_base, h.bytes 1, h.bytes 2, h.bytes 3]
  simp [State.localLoad, h.aligned, hall, State.regLoad, h.at_base, h.size, byteMask]

/-- A store to a register of a lane peripheral writes that register. -/
theorem WordReg.registerStore {reg : Nat} {r : RegRow} (h : WordReg reg r) (s : State) (l : LaneId) (core pc : Nat) (v : Word) :
    s.registerStore l core pc reg 4 v = (s.regWrite l core reg r (v.toNat % 2 ^ 32) 0xFFFFFFFF).1 := by
  obtain ⟨hlo, hhi⟩ := h.range
  have hmem : inLaneMem reg = false := by simp [inLaneMem]; omega
  have hbrg : reg ≠ BRG_RESET.reg := by simp; omega
  simp [State.registerStore, hmem, h.peripheral, State.laneStore, hbrg, h.localStore]

/-! ### The three registers of the statement -/

/-- The row of TCK_CNT: two counters that a read clears. -/
def tckCntRow : RegRow := ⟨0x4000005C, 0x0, 1, 0x0, 1, 4, .lane, 0x0, 0x0, false, [⟨31, 16, .rc⟩, ⟨15, 0, .rc⟩]⟩

/-- The row of TCK_INT_STAT: eight event bits, cleared by writing 1. -/
def tckIntStatRow : RegRow := ⟨0x40000044, 0x0, 1, 0x0, 1, 4, .lane, 0x0, 0x0, false,
  [⟨7, 7, .w1c⟩, ⟨6, 6, .w1c⟩, ⟨5, 5, .w1c⟩, ⟨4, 4, .w1c⟩, ⟨3, 3, .w1c⟩, ⟨2, 2, .w1c⟩, ⟨1, 1, .w1c⟩, ⟨0, 0, .w1c⟩]⟩

/-- The row of SLY_CRC_SEED: one field that the lane-management core sets. -/
def slyCrcSeedRow : RegRow := ⟨0x40031004, 0x0, 1, 0x0, 1, 4, .lane, 0xFFFFFFFF, 0x0, true, [⟨31, 0, .rw⟩]⟩

theorem wordReg_tckCnt : WordReg 0x4000005C tckCntRow := ⟨rfl, rfl, rfl, by decide +kernel⟩
theorem wordReg_tckIntStat : WordReg 0x40000044 tckIntStatRow := ⟨rfl, rfl, rfl, by decide +kernel⟩
theorem wordReg_slyCrcSeed : WordReg SLY_CRC_SEED.reg slyCrcSeedRow := ⟨rfl, rfl, rfl, by decide +kernel⟩

theorem regWrite_tckIntStat (s : State) (l : LaneId) (core v mask : Nat) (h : mapFind (s.lane l).tick.dueRegs 0x40000044 = none) :
    (s.regWrite l core 0x40000044 tckIntStatRow v mask).1 =
      s.lregSet l 0x40000044 (BitVec.ofNat 64 (written tckIntStatRow (s.lreg l 0x40000044).toNat v mask)) := by
  simp only [State.regWrite, h]
  rfl

theorem regWrite_slyCrcSeed (s : State) (l : LaneId) (core v mask : Nat) (h : mapFind (s.lane l).tick.dueRegs SLY_CRC_SEED.reg = none) :
    (s.regWrite l core SLY_CRC_SEED.reg slyCrcSeedRow v mask).1 = if core = 4 then
      s.lregSet l SLY_CRC_SEED.reg (BitVec.ofNat 64 (written slyCrcSeedRow (s.lreg l SLY_CRC_SEED.reg).toNat v mask)) else s := by
  by_cases hc : core = 4
  · subst hc
    simp only [State.regWrite, h]
    rfl
  · simp [State.regWrite, slyCrcSeedRow, hc]

theorem regRead_tckCnt (s : State) (l : LaneId) (core mask : Nat) (h : mapFind (s.lane l).tick.dueRegs 0x4000005C = none) :
    s.regRead l core 0x4000005C tckCntRow mask =
      (visible tckCntRow (s.lreg l 0x4000005C).toNat,
        if cleared tckCntRow mask (s.lreg l 0x4000005C).toNat = (s.lreg l 0x4000005C).toNat then s
        else s.lregSet l 0x4000005C (BitVec.ofNat 64 (cleared tckCntRow mask (s.lreg l 0x4000005C).toNat))) := by
  simp only [State.regRead, h]
  rfl

/-! ### The bits of fields -/

/-- The bits of a field's mask are those from its lowest to its highest one. -/
theorem bitOf_fMask (f : FRow) (i : Nat) (h : f.lo ≤ f.hi) : bitOf (fMask f) i = decide (f.lo ≤ i ∧ i ≤ f.hi) := by
  rw [bitOf_eq_testBit, fMask, Nat.testBit_mul_two_pow, Nat.testBit_two_pow_sub_one]
  by_cases hl : f.lo ≤ i
  · simp [hl]
    omega
  · simp [hl]

/-- Fields with the same bits are equal. -/
theorem bitsOf_congr {v w hi lo : Nat} (h : ∀ i, lo ≤ i → i ≤ hi → bitOf v i = bitOf w i) : bitsOf v hi lo = bitsOf w hi lo := by
  rw [bitsOf, bitsOf]
  refine Nat.eq_of_testBit_eq fun i => ?_
  rw [Nat.testBit_mod_two_pow, Nat.testBit_div_two_pow, Nat.testBit_mod_two_pow, Nat.testBit_div_two_pow]
  by_cases hi' : i < hi + 1 - lo
  · rw [← bitOf_eq_testBit, h (i + lo) (by omega) (by omega), bitOf_eq_testBit]
  · simp [hi']

/-- What a bit of a register reads as after a write of the register (R14, R15): a field of one of its access codes. -/
theorem bitOf_fieldWrite (v mask old : Nat) (f : FRow) (i : Nat) : bitOf (fieldWrite v mask old f) i =
    if bitOf mask i && bitOf (fMask f) i then
      match f.acc with
      | .rw | .wo => bitOf v i
      | .w1c => bitOf old i && !bitOf v i
      | .w1s => bitOf old i || bitOf v i
      | .ro | .rc => bitOf old i
    else bitOf old i := by
  obtain ⟨hi, lo, acc⟩ := f
  cases acc <;> cases hm : bitOf mask i <;> cases hf : bitOf (fMask ⟨hi, lo, _⟩) i <;> simp [fieldWrite, hm, hf]

/-! ### The read that clears -/

theorem visible_tckCnt (v : Nat) : visible tckCntRow v = v % 2 ^ 32 := by
  have hm : visible tckCntRow v = v &&& (2 ^ 32 - 1) := by
    simp [visible, tckCntRow, nOr, nAnd, fMask, ← Nat.and_or_distrib_left]
  rw [hm, Nat.and_two_pow_sub_one_eq_mod]

theorem bitOf_cleared_tckCnt (v : Nat) {i : Nat} (h : i < 32) : bitOf (cleared tckCntRow 0xFFFFFFFF v) i = false := by
  have hc : cleared tckCntRow 0xFFFFFFFF v =
      nOr (nAndNot (nOr (nAndNot v (fMask ⟨31, 16, .rc⟩)) (nAnd 0 (fMask ⟨31, 16, .rc⟩))) (fMask ⟨15, 0, .rc⟩))
        (nAnd 0 (fMask ⟨15, 0, .rc⟩)) := rfl
  simp [hc, bitOf_fMask]
  omega

/-- A general register but x0 reads as it was set. -/
theorem xReg_xSet_same (k : CoreState) {r : Nat} (v : Word) (h : r ≠ 0) : xReg (xSet k r v) r = v := by
  simp [xReg, xSet, h]

theorem loadWord_leBytes_four (v : Nat) : loadWord (leBytes 4 v) false = BitVec.ofNat 64 (v % 2 ^ 32) := by
  simp [loadWord, leNat_leBytes]

@[simp] theorem State.core_lcount (s : State) (l m : LaneId) (c : Nat) (f : Fld) (d : Nat) : (s.lcount l f d).core m c = s.core m c := by
  simp [State.core]

/-- What the counters of TCK_CNT hold once they have been read: 0. -/
theorem lreg_regRead_tckCnt {s : State} {l : LaneId} (core : Nat) (h : mapFind (s.lane l).tick.dueRegs 0x4000005C = none) :
    (s.regRead l core 0x4000005C tckCntRow 0xFFFFFFFF).2.lreg l 0x4000005C =
      BitVec.ofNat 64 (cleared tckCntRow 0xFFFFFFFF (s.lreg l 0x4000005C).toNat) := by
  rw [regRead_tckCnt s l core _ h]
  dsimp only
  split
  case isTrue he => rw [he, BitVec.ofNat_toNat, BitVec.setWidth_eq]
  case isFalse => rw [State.lreg_lregSet_same]

theorem lf_regRead_tckCnt {s : State} {l : LaneId} (core hi lo : Nat) (h : mapFind (s.lane l).tick.dueRegs 0x4000005C = none)
    (hhi : hi < 32) : (s.regRead l core 0x4000005C tckCntRow 0xFFFFFFFF).2.lf l ⟨0x4000005C, hi, lo⟩ = 0 := by
  rw [State.lf, fldGet, lreg_regRead_tckCnt core h, BitVec.toNat_ofNat, bitsOf_congr (w := 0), bitsOf, Nat.zero_div, Nat.zero_mod]
  intro i _ (hi' : i ≤ hi)
  rw [bitOf_mod_two_pow _ (by omega), bitOf_cleared_tckCnt _ (by omega), bitOf_zero]

/-- A read of TCK_CNT that is let through loads the register and adds the events of the same clock to its first counter (R15). -/
theorem exec_rcRead_tckCnt {s : State} {l : LaneId} {core : Nat} {who : Runner} (pc rd : Nat) (signed : Bool) (more : Nat)
    (hup : s.coreUp l core = true) (h : s.lets l core 0x4000005C 4 false who = true) :
    ∃ u, CoreOnly l core s u ∧ exec (.rcRead l core pc 0x4000005C 4 rd signed more who) s =
      .next ((u.localLoad l core pc 0x4000005C 4 rd signed).lcount l ⟨0x4000005C, 31, 16⟩ more) := by
  obtain ⟨u, hu, he⟩ := guarded_of_lets (pc := pc) h _
  refine ⟨u, hu, ?_⟩
  show execRcRead l core pc 0x4000005C 4 rd signed more who s = _
  unfold execRcRead
  rw [hup, he, wordReg_tckCnt.at_base]
  rfl

theorem coreUp_of {s : State} {l : LaneId} {core : Nat} (hs : (s.lane l).supplied = true) (hc : core < 5) : s.coreUp l core = true := by
  simp [State.coreUp, hs, hc]

theorem rcRead_tckCnt {s : State} {l : LaneId} {core : Nat} {who : Runner} (pc rd : Nat) (signed : Bool) (more : Nat)
    (hup : s.coreUp l core = true) (h : s.lets l core 0x4000005C 4 false who = true)
    (hd : mapFind (s.lane l).tick.dueRegs 0x4000005C = none) (hrd : 1 ≤ rd) :
    ∃ t, exec (.rcRead l core pc 0x4000005C 4 rd signed more who) s = .next t ∧
      (signed = false → xReg (t.core l core) rd = BitVec.ofNat 64 (s.lf l ⟨0x4000005C, 31, 0⟩)) ∧
      t.lf l ⟨0x4000005C, 31, 16⟩ = satAdd 0xFFFF 0 more ∧ t.lf l ⟨0x4000005C, 15, 0⟩ = 0 := by
  obtain ⟨u, hu, he⟩ := exec_rcRead_tckCnt pc rd signed more hup h
  obtain ⟨-, -, htick, hreg⟩ := hu.keeps
  have hd' : mapFind (u.lane l).tick.dueRegs 0x4000005C = none := by rw [htick, hd]
  refine ⟨_, he, ?_, ?_, ?_⟩
  · rintro rfl
    rw [State.core_lcount, wordReg_tckCnt.localLoad, State.coreLoad, State.core_coreSet_same, xReg_xSet_same _ _ (by omega : rd ≠ 0),
      loadWord_leBytes_four, regRead_tckCnt _ _ _ _ hd', visible_tckCnt, hreg, Nat.mod_mod, State.lf, fldGet, bitsOf]
    simp
  · rw [State.lf_lcount_same _ _ _ _ rfl, wordReg_tckCnt.localLoad, State.coreLoad, State.lf_coreSet, lf_regRead_tckCnt core 31 16 hd' (by omega)]
    rfl
  · rw [State.lf_lcount_apart _ _ _ _ _ _ rfl, wordReg_tckCnt.localLoad, State.coreLoad, State.lf_coreSet, lf_regRead_tckCnt core 15 0 hd' (by omega)]

/-! ### The write that clears -/

/-- The event bits of TCK_INT_STAT that are set in the clock of a write. -/
def tckIntStatSet (set : Nat) : Nat :=
  tckIntStatRow.flds.foldl (fun a f => if f.acc = .w1c then nOr a (nAnd set (fMask f)) else a) 0

theorem bitOf_tckIntStatSet (set : Nat) {b : Nat} (h : b < 8) : bitOf (tckIntStatSet set) b = bitOf set b := by
  simp [tckIntStatSet, tckIntStatRow, bitOf_fMask]
  interval_cases b <;> simp

theorem bitOf_written_tckIntStat (old v : Nat) {b : Nat} (h : b < 8) :
    bitOf (written tckIntStatRow old (v % 2 ^ 32) 0xFFFFFFFF) b = (bitOf old b && !bitOf v b) := by
  simp only [written, tckIntStatRow, List.foldl_cons, List.foldl_nil, bitOf_fieldWrite, bitOf_word (by omega : b < 32),
    bitOf_mod_two_pow v (by omega : b < 32)]
  interval_cases b <;> simp [bitOf_fMask]

/-- A bit of a lane's register below bit 32 as the field that begins at bit 0 shows it. -/
theorem bitOf_lf_lregSet (s : State) (l : LaneId) (reg x : Nat) {hi b : Nat} (hb : b ≤ hi) (hhi : hi < 64) :
    bitOf ((s.lregSet l reg (BitVec.ofNat 64 x)).lf l ⟨reg, hi, 0⟩) b = bitOf x b := by
  rw [State.lf, fldGet, State.lreg_lregSet_same, bitOf_bitsOf_zero _ hb, BitVec.toNat_ofNat, bitOf_mod_two_pow _ (by omega)]

/-- Setting the event bits of the same clock after a write of TCK_INT_STAT. -/
def State.setEvents (s : State) (l : LaneId) (bits : Nat) : State :=
  if bits = 0 then s else s.lregSet l 0x40000044 (BitVec.ofNat 64 (nOr (s.lreg l 0x40000044).toNat bits))

theorem LaneOnly.setEvents (l : LaneId) (s : State) (bits : Nat) : LaneOnly l s (s.setEvents l bits) := by
  unfold State.setEvents
  split
  · exact LaneOnly.refl l s
  · exact LaneOnly.lregSet l s _ _

theorem bitOf_setEvents (s : State) (l : LaneId) (bits : Nat) {b : Nat} (h : b < 8) :
    bitOf ((s.setEvents l bits).lf l ⟨0x40000044, 7, 0⟩) b = (bitOf (s.lf l ⟨0x40000044, 7, 0⟩) b || bitOf bits b) := by
  unfold State.setEvents
  split
  case isTrue h0 => simp [h0]
  case isFalse => rw [bitOf_lf_lregSet _ _ _ _ (by omega) (by omega), bitOf_nOr, State.lf, fldGet,
    bitOf_bitsOf_zero _ (Nat.le_of_lt_succ h)]

/-- A write of TCK_INT_STAT that is let through writes the register and then sets the events of the same clock (R15). -/
theorem exec_w1cWrite_tckIntStat {s : State} {l : LaneId} {core : Nat} {who : Runner} (pc : Nat) (v : Word) (set : Nat)
    (hup : s.coreUp l core = true) (h : s.lets l core 0x40000044 4 true who = true) :
    ∃ u, CoreOnly l core s u ∧ exec (.w1cWrite l core pc 0x40000044 v set who) s =
      .next ((u.regWrite l core 0x40000044 tckIntStatRow (v.toNat % 2 ^ 32) 0xFFFFFFFF).1.setEvents l (tckIntStatSet set)) := by
  obtain ⟨u, hu, he⟩ := guarded_of_lets (pc := pc) h (fun s => s.registerStore l core pc 0x40000044 4 v)
  refine ⟨u, hu, ?_⟩
  show execW1cWrite l core pc 0x40000044 v set who s = _
  unfold execW1cWrite
  rw [hup, he, wordReg_tckIntStat.registerStore, wordReg_tckIntStat.at_base]
  rfl

theorem w1cWrite_tckIntStat {s : State} {l : LaneId} {core : Nat} {who : Runner} (pc : Nat) (v : Word) (set : Nat)
    (hup : s.coreUp l core = true) (h : s.lets l core 0x40000044 4 true who = true)
    (hd : mapFind (s.lane l).tick.dueRegs 0x40000044 = none) :
    ∃ t, exec (.w1cWrite l core pc 0x40000044 v set who) s = .next t ∧ LaneOnly l s t ∧
      ∀ b, b < 8 → bitOf (t.lf l ⟨0x40000044, 7, 0⟩) b =
        (bitOf set b || (bitOf (s.lf l ⟨0x40000044, 7, 0⟩) b && !bitOf v.toNat b)) := by
  obtain ⟨u, hu, he⟩ := exec_w1cWrite_tckIntStat pc v set hup h
  obtain ⟨hlane, -, htick, hreg⟩ := hu.keeps
  rw [regWrite_tckIntStat u l core _ _ (by rw [htick, hd])] at he
  refine ⟨_, he, (hlane.trans (LaneOnly.lregSet ..)).trans (LaneOnly.setEvents ..), fun b hb => ?_⟩
  rw [bitOf_setEvents _ _ _ hb, bitOf_lf_lregSet _ _ _ _ (by omega) (by omega), bitOf_written_tckIntStat _ _ hb,
    bitOf_tckIntStatSet _ hb, hreg, State.lf, fldGet, bitOf_bitsOf_zero _ (Nat.le_of_lt_succ hb), Bool.or_comm]

/-! ### Stores to lane memory and to the boot ROM -/

@[simp] theorem State.breakResv_lane_mem (s : State) (l : LaneId) (core addr n : Nat) (m : LaneId) :
    ((s.breakResv l core addr n).lane m).mem = (s.lane m).mem := by cases l <;> cases m <;> rfl

theorem LaneOnly.laneMemStore (l : LaneId) (s : State) (core addr n v : Nat) : LaneOnly l s (s.laneMemStore l core addr n v) := by
  unfold State.laneMemStore State.breakResv
  exact (LaneOnly.lmemSet ..).trans (LaneOnly.upd ..)

theorem laneMemStore_mem (s : State) (l : LaneId) (core addr n v : Nat) :
    ((s.laneMemStore l core addr n v).lane l).mem = memWrite (s.lane l).mem addr (leBytes n v) := by
  simp [State.laneMemStore, State.lmemSet]

/-- A store to LPDDR4X writes lane memory. -/
theorem registerStore_ram (s : State) (l : LaneId) (core pc : Nat) {addr size : Nat} (v : Word) (hsize : 1 ≤ size)
    (hlo : 0x80000000 ≤ addr) (hhi : addr + size ≤ 0x180000000) :
    s.registerStore l core pc addr size v = s.laneMemStore l core addr size v.toNat := by
  have hfst : inLaneMem addr = true := by simp [inLaneMem]; omega
  have hlst : inLaneMem (addr + size - 1) = true := by simp [inLaneMem]; omega
  have hrom : ¬addr < 0x10000 := by omega
  simp [State.registerStore, hfst, hlst, hrom]

/-- A store to the boot ROM faults. -/
theorem registerStore_rom (s : State) (l : LaneId) (core pc : Nat) {addr size : Nat} (v : Word) (hsize : 1 ≤ size)
    (hhi : addr + size ≤ 0x10000) : s.registerStore l core pc addr size v = s.accessFault l core pc addr true := by
  have hfst : inLaneMem addr = true := by simp [inLaneMem]; omega
  have hlst : inLaneMem (addr + size - 1) = true := by simp [inLaneMem]; omega
  have hrom : addr < 0x10000 := by omega
  simp [State.registerStore, hfst, hlst, hrom]

theorem one_le_of_accessSize {n : Nat} (h : accessSize n = true) : 1 ≤ n := by
  rcases n with _ | n
  · exact absurd h (by decide)
  · omega

theorem exec_registerWrite {s : State} {l : LaneId} {core : Nat} (pc addr : Nat) {size : Nat} (v : Word) (who : Runner)
    (hup : s.coreUp l core = true) (hsize : accessSize size = true) : exec (.registerWrite l core pc addr size v who) s =
      .next (s.guarded l core pc addr size true who (fun s => s.registerStore l core pc addr size v)) := by
  show execRegisterWrite l core pc addr size v who s = _
  rw [execRegisterWrite, hup, hsize]
  rfl

theorem registerWrite_ram {s : State} {l : LaneId} {core : Nat} {who : Runner} (pc : Nat) {addr size : Nat} (v : Word)
    (hup : s.coreUp l core = true) (h : s.lets l core addr size true who = true) (hsize : accessSize size = true)
    (hlo : 0x80000000 ≤ addr) (hhi : addr + size ≤ 0x180000000) :
    ∃ t, exec (.registerWrite l core pc addr size v who) s = .next t ∧ t.lmem l addr size = leBytes size v.toNat ∧
      (∀ a, a < addr ∨ addr + size ≤ a → t.lmem l a 1 = s.lmem l a 1) ∧ LaneOnly l s t := by
  obtain ⟨u, hu, he⟩ := guarded_of_lets (pc := pc) h (fun s => s.registerStore l core pc addr size v)
  obtain ⟨hlane, hmem, -, -⟩ := hu.keeps
  rw [registerStore_ram u l core pc v (one_le_of_accessSize hsize) hlo hhi] at he
  refine ⟨_, by rw [exec_registerWrite _ _ _ _ hup hsize, he], ?_, fun a ha => ?_, hlane.trans (LaneOnly.laneMemStore ..)⟩
  · have hread := memRead_memWrite_same (u.lane l).mem addr (leBytes size v.toNat)
    rwa [length_leBytes, ← laneMemStore_mem u l core] at hread
  · rw [State.lmem, laneMemStore_mem, memRead_memWrite_out _ _ _ _ _ (by rw [length_leBytes]; omega), hmem, State.lmem]

/-! ### Access faults -/

theorem writeEnter_cores_mem (s : State) (l : LaneId) (w : PendWrite) :
    ((s.writeEnter l w).lane l).cores = (s.lane l).cores ∧ ((s.writeEnter l w).lane l).mem = (s.lane l).mem := by
  unfold State.writeEnter
  dsimp only
  split <;> simp [State.brgShow]

/-- The close of a core's combining buffer queues a write, and touches neither cores nor memory. -/
theorem wcIssue_cores_mem (s : State) (l : LaneId) (c : Nat) :
    ((s.wcIssue l c).lane l).cores = (s.lane l).cores ∧ ((s.wcIssue l c).lane l).mem = (s.lane l).mem := by
  unfold State.wcIssue
  split
  · simp [writeEnter_cores_mem]
  · exact ⟨rfl, rfl⟩

theorem taskTraps_cores_mem (s : State) (l : LaneId) (t : Nat) :
    ((s.taskTraps l t).lane l).cores = (s.lane l).cores ∧ ((s.taskTraps l t).lane l).mem = (s.lane l).mem := by
  unfold State.taskTraps
  split
  · exact ⟨rfl, rfl⟩
  · split <;> simp

theorem afterTrap_cores_mem (s : State) (l : LaneId) (c : Nat) (k : CoreState) :
    ((s.afterTrap l c k).lane l).cores = (s.lane l).cores ∧ ((s.afterTrap l c k).lane l).mem = (s.lane l).mem := by
  unfold State.afterTrap
  dsimp only
  split
  · simp [taskTraps_cores_mem, wcIssue_cores_mem]
  · exact wcIssue_cores_mem s l c

/-- An access fault puts its cause, pc and address into the core's trap and leaves lane memory (R144). -/
theorem accessFault_trap_mem (s : State) (l : LaneId) (core pc addr : Nat) (store : Bool) :
    ((s.accessFault l core pc addr store).core l core).trap = some ⟨if store then 7 else 5, pc, some addr⟩ ∧
      ((s.accessFault l core pc addr store).lane l).mem = (s.lane l).mem := by
  obtain ⟨hcores, hmem⟩ := afterTrap_cores_mem
    (s.coreSet l core (takeTrap (s.core l core) (if store then 7 else 5) pc (some addr))) l core (s.core l core)
  constructor
  · rw [State.accessFault, State.coreTrap, State.core, hcores]
    exact congrArg CoreState.trap (State.core_coreSet_same ..)
  · rw [State.accessFault, State.coreTrap, hmem, State.coreSet_lane_mem]

theorem registerWrite_rom {s : State} {l : LaneId} {core : Nat} (who : Runner) (pc : Nat) {addr size : Nat} (v : Word)
    (hup : s.coreUp l core = true) (hsize : accessSize size = true) (hhi : addr + size ≤ 0x10000) :
    ∃ t, exec (.registerWrite l core pc addr size v who) s = .next t ∧ (t.lane l).mem = (s.lane l).mem ∧
      (t.core l core).trap = some ⟨7, pc, some addr⟩ := by
  have hf : (fun s : State => s.registerStore l core pc addr size v) = fun s => s.accessFault l core pc addr true :=
    funext fun s => registerStore_rom s l core pc v (one_le_of_accessSize hsize) hhi
  obtain ⟨u, hu, he⟩ := guarded_accessFault s l core pc addr size true who
  obtain ⟨-, hmem, -, -⟩ := hu.keeps
  obtain ⟨htrap, hkeep⟩ := accessFault_trap_mem u l core pc addr true
  exact ⟨_, by rw [exec_registerWrite _ _ _ _ hup hsize, hf, he], by rw [hkeep, hmem], htrap⟩

/-! ### A register that the lane-management core sets -/

theorem lf_written_slyCrcSeed (s : State) (l : LaneId) (old v : Nat) :
    (s.lregSet l SLY_CRC_SEED.reg (BitVec.ofNat 64 (written slyCrcSeedRow old (v % 2 ^ 32) 0xFFFFFFFF))).lf l SLY_CRC_SEED = v % 2 ^ 32 := by
  have hb : ∀ i, 0 ≤ i → i ≤ 31 → bitOf (written slyCrcSeedRow old (v % 2 ^ 32) 0xFFFFFFFF % 2 ^ 64) i = bitOf v i := by
    intro i _ hi
    rw [bitOf_mod_two_pow _ (by omega), written, slyCrcSeedRow, List.foldl_cons, List.foldl_nil, bitOf_fieldWrite, bitOf_word (by omega),
      bitOf_fMask _ _ (by decide), bitOf_mod_two_pow _ (by omega)]
    simp [hi]
  rw [State.lf, fldGet, State.lreg_lregSet_same, BitVec.toNat_ofNat, bitsOf_congr hb, bitsOf, Nat.pow_zero, Nat.div_one]

theorem registerWrite_slyCrcSeed {s : State} {l : LaneId} {core : Nat} {who : Runner} (pc : Nat) (v : Word)
    (hup : s.coreUp l core = true) (h : s.lets l core SLY_CRC_SEED.reg 4 true who = true)
    (hd : mapFind (s.lane l).tick.dueRegs SLY_CRC_SEED.reg = none) :
    ∃ t, exec (.registerWrite l core pc SLY_CRC_SEED.reg 4 v who) s = .next t ∧
      t.lf l SLY_CRC_SEED = (if core = 4 then v.toNat % 2 ^ 32 else s.lf l SLY_CRC_SEED) := by
  obtain ⟨u, hu, he⟩ := guarded_of_lets (pc := pc) h (fun s => s.registerStore l core pc SLY_CRC_SEED.reg 4 v)
  obtain ⟨-, -, htick, hreg⟩ := hu.keeps
  rw [wordReg_slyCrcSeed.registerStore, regWrite_slyCrcSeed _ _ _ _ _ (by rw [htick, hd])] at he
  refine ⟨_, by rw [exec_registerWrite _ _ _ _ hup rfl, he], ?_⟩
  split
  · exact lf_written_slyCrcSeed ..
  · rw [State.lf, hreg, State.lf]

/-- Settles O47: the read that clears, the write that clears, the stores to memory and to the ROM, and the managed register. -/
theorem coresAccessRegistersAndMemory : Obligations.CoresAccessRegistersAndMemory := by
  unfold Obligations.CoresAccessRegistersAndMemory
  intro s l core pc who hs hc
  have hup := coreUp_of hs hc
  exact ⟨fun rd signed more hrd _ h hd => rcRead_tckCnt pc rd signed more hup h hd hrd,
    fun v set h hd => w1cWrite_tckIntStat pc v set hup h hd,
    fun addr size v h hsize hlo hhi => registerWrite_ram pc v hup h hsize hlo hhi,
    fun addr size v hsize hhi => registerWrite_rom who pc v hup hsize hhi,
    fun v h hd => registerWrite_slyCrcSeed pc v hup h hd⟩

end Sys2Proof.Machine


/-! The edges of the lanes, the supervisor and the hub: what they leave of the frame numbers, and what a lane's edge leaves of the
cycle that it begins (02 R52, R58, R78; 09 R255). -/

namespace Sys2Proof.Machine

/-! ### What leaves the frame numbers of the supervisor and the hub -/

/-- `t` has the frame numbers of `s` at the supervisor and at the hub. -/
abbrev KeepsFrames (s t : State) : Prop := t.sup.frame = s.sup.frame ∧ t.hub.frame = s.hub.frame

theorem KeepsFrames.trans {s t u : State} (h : KeepsFrames s t) (g : KeepsFrames t u) : KeepsFrames s u :=
  ⟨g.1.trans h.1, g.2.trans h.2⟩

theorem KeepsFrames.ite {s t u : State} {c : Prop} [Decidable c] (h : KeepsFrames s t) (g : KeepsFrames s u) :
    KeepsFrames s (if c then t else u) := by
  split
  · exact h
  · exact g

theorem State.hfSet_frames (s : State) (f : Fld) (x : Nat) : KeepsFrames s (s.hfSet f x) := by simp [KeepsFrames]

theorem State.hubEvt_frames (s : State) (code : Nat) (parts : List (Nat × Nat)) :
    KeepsFrames s (s.hubEvt code parts) := by
  simp [KeepsFrames]

theorem keepsFrames_ka (s : State) (k : KeepAlive) :
    KeepsFrames s { s with sup := { s.sup with ka := k } } := ⟨rfl, rfl⟩

theorem EventOnly.keepsFrames {s t : State} (h : EventOnly s t) : KeepsFrames s t :=
  ⟨by rw [h.sup], by rw [h.hub]⟩

@[simp] theorem ite_frames (c : Prop) [Decidable c] (s t : State) :
    (if c then s else t).sup.frame = (if c then s.sup.frame else t.sup.frame) ∧
      (if c then s else t).hub.frame = if c then s.hub.frame else t.hub.frame := by
  split <;> exact ⟨rfl, rfl⟩

@[simp] theorem foldl_frames {α : Type} (f : State → α → State) (h : ∀ s x, KeepsFrames s (f s x)) (xs : List α) (s : State) :
    KeepsFrames s (xs.foldl f s) := by
  induction xs generalizing s with
  | nil => exact ⟨rfl, rfl⟩
  | cons x xs ih => exact ⟨(ih _).1.trans (h s x).1, (ih _).2.trans (h s x).2⟩

@[simp] theorem onLanes_frames (f : LaneId → State → State) (h : ∀ l s, KeepsFrames s (f l s)) (s : State) :
    KeepsFrames s (onLanes f s) := by
  simp [KeepsFrames, onLanes, h]

@[simp] theorem State.bookRelease_frames (s : State) :
    KeepsFrames s s.bookRelease := (bookRelease_eventOnly s).keepsFrames

@[simp] theorem State.decantEnd_frames (s : State) (code : Nat) :
    KeepsFrames s (s.decantEnd code) := (decantEnd_eventOnly s code).keepsFrames

@[simp] theorem State.loadFlags_frames (s : State) (l : LaneId) : KeepsFrames s (s.loadFlags l) := by
  simp [KeepsFrames, State.loadFlags]

@[simp] theorem State.loadMode_frames (s : State) (l : LaneId) : KeepsFrames s (s.loadMode l) := by
  simp [KeepsFrames, State.loadMode]

@[simp] theorem State.showReport_frames (s : State) (l : LaneId) (r : StartReport) : KeepsFrames s (s.showReport l r) := by
  simp [KeepsFrames, State.showReport]

@[simp] theorem State.showLone_frames (s : State) (l : LaneId) : KeepsFrames s (s.showLone l) := by
  simp [KeepsFrames, State.showLone]

@[simp] theorem State.notActed_frames (s : State) (what reason : Nat) : KeepsFrames s (s.notActed what reason) := by
  simp [KeepsFrames, State.notActed]

@[simp] theorem State.setDue_frames (s : State) (target : Mode) (frame cause : Nat) :
    KeepsFrames s (s.setDue target frame cause) := by
  unfold State.setDue
  (repeat' split) <;> simp [KeepsFrames]

@[simp] theorem State.advRaw_frames (s : State) (dt : Nat) : KeepsFrames s (s.advRaw dt) := by
  simp [KeepsFrames, State.advRaw]

@[simp] theorem State.chanSet_frames (s : State) (c : Nat) (x : Chan) : KeepsFrames s (s.chanSet c x) := by
  simp [KeepsFrames, State.chanSet]

@[simp] theorem State.pdeStateSet_frames (s : State) (c n : Nat) : KeepsFrames s (s.pdeStateSet c n) := by
  simp [KeepsFrames, State.pdeStateSet]

@[simp] theorem State.inboundRefused_frames (s : State) (l : LaneId) (off : Nat) : KeepsFrames s (s.inboundRefused l off) := by
  simp [KeepsFrames, State.inboundRefused]

@[simp] theorem State.inbound_frames (s : State) (l : LaneId) (off : Nat) (bs : List Byte) :
    KeepsFrames s (s.inbound l off bs).1 := by
  unfold State.inbound
  (repeat' split) <;> simp [KeepsFrames]

@[simp] theorem State.pdeInt_frames (s : State) (c : Nat) (f : Nat → Fld) : KeepsFrames s (s.pdeInt c f) := by
  simp [KeepsFrames, State.pdeInt]

@[simp] theorem State.pdeCount_frames (s : State) (c : Nat) : KeepsFrames s (s.pdeCount c) := by
  simp [KeepsFrames, State.pdeCount]

@[simp] theorem State.pdeLast_frames (s : State) (c frame : Nat) : KeepsFrames s (s.pdeLast c frame) := by
  simp [KeepsFrames, State.pdeLast]

@[simp] theorem State.pdeItemDone_frames (s : State) (c frame : Nat) : KeepsFrames s (s.pdeItemDone c frame) := by
  simp [KeepsFrames, State.pdeItemDone]

@[simp] theorem State.pdeItemInt_frames (s : State) (c : Nat) : KeepsFrames s (s.pdeItemInt c) := by
  simp [KeepsFrames, State.pdeItemInt]

@[simp] theorem State.pdeSupersede_frames (s : State) (c : Nat) : KeepsFrames s (s.pdeSupersede c) := by
  simp [KeepsFrames, State.pdeSupersede]

@[simp] theorem State.inboundAll_frames (s : State) (ls : List LaneId) (off : Nat) (bs : List Byte) :
    KeepsFrames s (s.inboundAll ls off bs) := by
  simp [KeepsFrames, State.inboundAll]

@[simp] theorem State.cyclicArrive_frames (s : State) (c : Nat) (raw : List Byte) :
    KeepsFrames s (s.cyclicArrive c raw) := by
  unfold State.cyclicArrive
  (repeat' split) <;> simp [KeepsFrames]

@[simp] theorem State.cyclicTag_frames (s : State) (n c late : Nat) : KeepsFrames s (s.cyclicTag n c late) := by
  simp [KeepsFrames, State.cyclicTag]

@[simp] theorem State.snapshotTags_frames (s : State) (n : Nat) (late : List (Nat × Nat)) : KeepsFrames s (s.snapshotTags n late) := by
  simp [KeepsFrames, State.snapshotTags]

@[simp] theorem State.cqStall_frames (s : State) (q : Nat) : KeepsFrames s (s.cqStall q) := by
  simp [KeepsFrames, State.cqStall]

@[simp] theorem State.cqWrite_frames (s : State) (c p cookie status xfer frameLo : Nat) (irq : Bool) :
    KeepsFrames s (s.cqWrite c p cookie status xfer frameLo irq) := by
  simp [KeepsFrames, State.cqWrite]

@[simp] theorem State.descDone_frames (s : State) (c status xfer frame : Nat) : KeepsFrames s (s.descDone c status xfer frame) := by
  simp [KeepsFrames, State.descDone]

@[simp] theorem State.pdeStopAt_frames (s : State) (c : Nat) : KeepsFrames s (s.pdeStopAt c) := by
  simp [KeepsFrames, State.pdeStopAt]

@[simp] theorem State.pdeAbort_frames (s : State) (c : Nat) : KeepsFrames s (s.pdeAbort c) := by
  unfold State.pdeAbort
  (repeat' split) <;> simp [KeepsFrames]

@[simp] theorem State.activate_frames (s : State) (m c : Nat) (v : List Nat) : KeepsFrames s (s.activate m c v) := by
  simp [KeepsFrames, State.activate]

@[simp] theorem State.activateAll_frames (s : State) (m : Nat) : KeepsFrames s (s.activateAll m) := by
  unfold State.activateAll
  refine foldl_frames _ (fun s c => ?_) _ _
  split <;> simp [KeepsFrames]

@[simp] theorem State.relayArm_frames (s : State) (on : Bool) : KeepsFrames s (s.relayArm on) := by
  simp [KeepsFrames, State.relayArm]

@[simp] theorem State.armAll_frames (s : State) (on : Bool) : KeepsFrames s (s.armAll on) := by
  simp [KeepsFrames, State.armAll]

@[simp] theorem State.pdeLaneOff_frames (s : State) (l : LaneId) : KeepsFrames s (s.pdeLaneOff l) := by
  simp [KeepsFrames, State.pdeLaneOff]

@[simp] theorem State.voterSet_frames (s : State) (i : VoterId) (v : Voter) : KeepsFrames s (s.voterSet i v) := by
  unfold State.voterSet
  (repeat' split) <;> simp [KeepsFrames]

@[simp] theorem State.voterEvt_frames (s : State) (i : VoterId) (code : Nat) (parts : List (Nat × Nat)) :
    KeepsFrames s (s.voterEvt i code parts) := by
  unfold State.voterEvt
  (repeat' split) <;> simp [KeepsFrames]

@[simp] theorem State.noteFrame_frames (s : State) (l : LaneId) : KeepsFrames s (s.noteFrame l) := by
  unfold State.noteFrame
  split
  · exact keepsFrames_ka s _
  · exact ⟨rfl, rfl⟩

@[simp] theorem State.linksDown_frames (s : State) (l : LaneId) : KeepsFrames s (s.linksDown l) := by
  simp [KeepsFrames, State.linksDown]

@[simp] theorem State.lanePowerOff_frames (s : State) (l : LaneId) : KeepsFrames s (s.lanePowerOff l) := by
  simp [KeepsFrames, State.lanePowerOff]

@[simp] theorem State.powerLane_frames (s : State) (l : LaneId) : KeepsFrames s (s.powerLane l) := by
  simp [KeepsFrames, State.powerLane]

@[simp] theorem State.laneRestart_frames (s : State) (l : LaneId) (k : Nat) : KeepsFrames s (s.laneRestart l k) := by
  simp [KeepsFrames, State.laneRestart]

@[simp] theorem State.startRealign_frames (s : State) (t : LaneId) : KeepsFrames s (s.startRealign t) := by
  unfold State.startRealign
  (repeat' split) <;> simp [KeepsFrames]

@[simp] theorem State.afterRemoval_frames (s : State) (l : LaneId) (c : Nat) (leave : Bool) :
    KeepsFrames s (s.afterRemoval l c leave) := by
  unfold State.afterRemoval
  (repeat' split) <;> simp [KeepsFrames]

@[simp] theorem State.tbState_frames (s : State) (n cause : Nat) : KeepsFrames s (s.tbState n cause) := by
  unfold State.tbState
  (repeat' split) <;> simp [KeepsFrames]

@[simp] theorem State.tbRestart_frames (s : State) : KeepsFrames s (s.tbRestart) := by
  simp [KeepsFrames, State.tbRestart]

@[simp] theorem State.beginHubRestart_frames (s : State) (bank : Nat) : KeepsFrames s (s.beginHubRestart bank) := by
  simp [KeepsFrames, State.beginHubRestart]

@[simp] theorem State.installAdmitted_frames (s : State) (t : LaneId) : KeepsFrames s (s.installAdmitted t) := by
  unfold State.installAdmitted
  (repeat' split) <;> simp [KeepsFrames]

@[simp] theorem State.removeMembers_frames (s : State) (cases : List (LaneId × Nat)) (n : Nat) :
    KeepsFrames s (s.removeMembers cases n) := by
  simp [KeepsFrames, State.removeMembers]

@[simp] theorem State.voter2Halt_frames (s : State) (cause n : Nat) : KeepsFrames s (s.voter2Halt cause n) := by
  simp [KeepsFrames, State.voter2Halt]

@[simp] theorem State.formMembers_frames (s : State) (v : Voter) (n : Nat) : KeepsFrames s (s.formMembers v n) := by
  simp [KeepsFrames, State.formMembers]

@[simp] theorem State.voterEvents_frames (s : State) (i : VoterId) (v : Voter) : KeepsFrames s (s.voterEvents i v) := by
  unfold State.voterEvents
  (repeat' split) <;> simp [KeepsFrames]

@[simp] theorem State.sendStatus_frames (s : State) (n : Nat) : KeepsFrames s (s.sendStatus n) := by
  simp [KeepsFrames, State.sendStatus]

@[simp] theorem State.disregard_frames (s : State) (i : VoterId) (l : LaneId) (cause : Nat) :
    KeepsFrames s (s.disregard i l cause) := by
  unfold State.disregard
  (repeat' split) <;> simp [KeepsFrames]

@[simp] theorem State.splitEdge_frames (s : State) (i : VoterId) (v : Voter) : KeepsFrames s (s.splitEdge i v) := by
  simp [KeepsFrames, State.splitEdge]

@[simp] theorem State.voter2Edge_frames (s : State) (edge : Nat) : KeepsFrames s (s.voter2Edge edge) := by
  simp [KeepsFrames, State.voter2Edge]

@[simp] theorem State.showVoter1_frames (s : State) (n : Nat) : KeepsFrames s (s.showVoter1 n) := by
  simp [KeepsFrames, State.showVoter1]

@[simp] theorem State.voter1Edge_frames (s : State) (edge : Nat) : KeepsFrames s (s.voter1Edge edge) := by
  simp [KeepsFrames, State.voter1Edge]

@[simp] theorem State.switchGate_frames (s : State) (edge : Nat) : KeepsFrames s (s.switchGate edge) := by
  unfold State.switchGate
  (repeat' split) <;> simp [KeepsFrames]

@[simp] theorem State.activateBank_frames (s : State) (edge : Nat) : KeepsFrames s (s.activateBank edge) := by
  unfold State.activateBank
  (repeat' split) <;> simp [KeepsFrames]

@[simp] theorem State.canHoldNow_frames (s : State) : KeepsFrames s (s.canHoldNow) := by
  simp [KeepsFrames, State.canHoldNow]

@[simp] theorem State.portUpd_frames (s : State) (p : Nat) (f : PortSt → PortSt) : KeepsFrames s (s.portUpd p f) := by
  simp [KeepsFrames, State.portUpd]

@[simp] theorem State.portStateSet_frames (s : State) (p n : Nat) : KeepsFrames s (s.portStateSet p n) := by
  simp [KeepsFrames, State.portStateSet]

@[simp] theorem State.listen_frames (s : State) (p : Nat) (after : Bool) : KeepsFrames s (s.listen p after) :=
  (s.portStateSet_frames p 0).trans ((s.portStateSet p 0).portUpd_frames p _)

@[simp] theorem State.holdEnd_frames (s : State) (p : Nat) : KeepsFrames s (s.holdEnd p) := by
  simp [KeepsFrames, State.holdEnd]

@[simp] theorem State.bankSwitch_frames (s : State) : KeepsFrames s (s.bankSwitch) := by
  simp [KeepsFrames, State.bankSwitch]

@[simp] theorem State.portMatrix_frames (s : State) (p : Nat) : KeepsFrames s (s.portMatrix p) := by
  unfold State.portMatrix
  dsimp only
  refine KeepsFrames.trans ?_ (State.portUpd_frames _ p _)
  refine KeepsFrames.trans ?_ (State.hfSet_frames _ _ _)
  have hs (s : State) (c : Prop) [Decidable c] (f : Fld) (x : Nat) : KeepsFrames s (if c then s.hfSet f x else s) :=
    .ite (s.hfSet_frames f x) ⟨rfl, rfl⟩
  have hq : KeepsFrames s (if s.portState p = 2 then s.holdEnd p else s) := .ite (s.holdEnd_frames p) ⟨rfl, rfl⟩
  refine .ite ?_ (hq.trans (hs _ _ _ _))
  refine KeepsFrames.trans ?_ (State.hubEvt_frames _ _ _)
  refine KeepsFrames.trans ?_ (State.hfSet_frames _ _ _)
  refine KeepsFrames.trans ?_ (State.hfSet_frames _ _ _)
  refine KeepsFrames.trans ?_ (State.portUpd_frames _ p _)
  refine KeepsFrames.trans ?_ (State.portStateSet_frames _ p 1)
  exact hq.trans (hs _ _ _ _)

@[simp] theorem State.trellisEdge_frames (s : State) (n : Nat) : KeepsFrames s (s.trellisEdge n) := by
  simp [KeepsFrames, State.trellisEdge]

@[simp] theorem State.driveSwitches_frames (s : State) (i : VoterId) (edge : Nat) : KeepsFrames s (s.driveSwitches i edge) := by
  simp [KeepsFrames, State.driveSwitches]

@[simp] theorem State.replanEdge_frames (s : State) (edge : Nat) : KeepsFrames s (s.replanEdge edge) := by
  unfold State.replanEdge
  (repeat' split) <;> simp [KeepsFrames]

@[simp] theorem State.showPowerLane_frames (s : State) (l : LaneId) : KeepsFrames s (s.showPowerLane l) := by
  simp [KeepsFrames, State.showPowerLane]

@[simp] theorem State.showPower_frames (s : State) : KeepsFrames s (s.showPower) := by
  simp [KeepsFrames, State.showPower]

@[simp] theorem State.measureSupplies_frames (s : State) (m : Supply) : KeepsFrames s (s.measureSupplies m) := by
  simp [KeepsFrames, State.measureSupplies]

@[simp] theorem State.lineUpdate_frames (s : State) : KeepsFrames s (s.lineUpdate) := by
  simp [KeepsFrames, State.lineUpdate]

@[simp] theorem State.lineEdge_frames (s : State) (high : Bool) : KeepsFrames s (s.lineEdge high) := by
  simp [KeepsFrames, State.lineEdge]

@[simp] theorem State.deliver_frames (s : State) (c : Client) (b : List Byte) : KeepsFrames s (s.deliver c b) := by
  unfold State.deliver
  (repeat' split) <;> simp [KeepsFrames]

@[simp] theorem State.respond_frames (s : State) (q : OpenRequest) (op code : Nat) (last : Bool) (data : List Byte) :
    KeepsFrames s (s.respond q op code last data) := by
  simp [KeepsFrames, State.respond]

@[simp] theorem State.relayFinish_frames (s : State) (req code : Nat) : KeepsFrames s (s.relayFinish req code) := by
  unfold State.relayFinish
  dsimp only
  (repeat' split) <;> simp [KeepsFrames]

@[simp] theorem State.relayExpire_frames (s : State) : KeepsFrames s (s.relayExpire) := by
  simp [KeepsFrames, State.relayExpire]

@[simp] theorem State.edgeSymbol_frames (s : State) (l : LaneId) (at_ : Option Nat) :
    KeepsFrames s (s.edgeSymbol l at_) := by
  unfold State.edgeSymbol
  dsimp only
  (repeat' split) <;> simp [KeepsFrames]

@[simp] theorem State.spacingSplit_frames (s : State) : KeepsFrames s (s.spacingSplit) := by
  simp [KeepsFrames, State.spacingSplit]

@[simp] theorem State.advHours_frames (s : State) : KeepsFrames s (s.advHours) := by simp [KeepsFrames, State.advHours]

@[simp] theorem State.generate_frames (s : State) (n : Nat) : KeepsFrames s (s.generate n) := by
  unfold State.generate
  refine foldl_frames _ (fun s c => ?_) _ _
  (repeat' split) <;> simp [KeepsFrames]

@[simp] theorem State.relaySnapshot_frames (s : State) (n : Nat) : KeepsFrames s (s.relaySnapshot n) := by
  simp [KeepsFrames, State.relaySnapshot]

@[simp] theorem State.armEdge_frames (s : State) : KeepsFrames s (s.armEdge) := by simp [KeepsFrames, State.armEdge]

@[simp] theorem State.sendMarkers_frames (s : State) : KeepsFrames s (s.sendMarkers) := by
  simp [KeepsFrames, State.sendMarkers]

/-! ### The edges of the supervisor and of the hub -/

theorem keepsFrames_tb (s : State) (x : TimeBase) : KeepsFrames s { s with tb := x } := ⟨rfl, rfl⟩

/-- What the hub does at its edge before it counts its frame (R255). -/
theorem hubEdgeBegin_frames (s : State) (dt n : Nat) (late : List (Nat × Nat)) (x : TimeBase) :
    KeepsFrames s
      ((((({ (s.advRaw dt).sendMarkers with tb := x }).voter1Edge n).driveSwitches .v1 n).relaySnapshot n).snapshotTags n late) := by
  have hmarkers : KeepsFrames s (s.advRaw dt).sendMarkers := (s.advRaw_frames dt).trans (State.sendMarkers_frames _)
  have hvoter := (hmarkers.trans (keepsFrames_tb _ x)).trans (State.voter1Edge_frames _ n)
  have hswitches := hvoter.trans (State.driveSwitches_frames _ .v1 n)
  exact (hswitches.trans (State.relaySnapshot_frames _ n)).trans (State.snapshotTags_frames _ n late)

/-- What the hub does at its edge after it has counted its frame (R255). -/
theorem hubEdgeEnd_frames (s : State) (n : Nat) :
    KeepsFrames s ((((s.armEdge).activateAll n).trellisEdge n).canHoldNow).bookRelease := by
  have hchannels : KeepsFrames s (s.armEdge.activateAll n) := s.armEdge_frames.trans (State.activateAll_frames _ n)
  have htrellis := hchannels.trans (State.trellisEdge_frames _ n)
  exact (htrellis.trans (State.canHoldNow_frames _)).trans (State.bookRelease_frames _)

/-- Counting the hub's frame leaves the supervisor's. -/
theorem setHub_frames (s : State) (h : Hub) (p : Pde) :
    ({ s with hub := h, pde := p } : State).sup.frame = s.sup.frame ∧
      ({ s with hub := h, pde := p } : State).hub.frame = h.frame := ⟨rfl, rfl⟩

theorem exec_hubEdge_frames (s : State) (dt : Nat) (late : List (Nat × Nat)) (hs : s.hub.supplied = true) :
    ∃ t, exec (.hubEdge dt late) s = .next t ∧ t.hub.frame = frameAdd s.hub.frame 1 ∧ t.sup.frame = s.sup.frame := by
  refine ⟨_, show execHubEdge dt late s = _ by rw [execHubEdge, hs]; rfl, ?_, ?_⟩
  · exact (hubEdgeEnd_frames _ _).2.trans (setHub_frames _ _ _).2
  · exact ((hubEdgeEnd_frames _ _).1.trans (setHub_frames _ _ _).1).trans (hubEdgeBegin_frames s dt _ late _).1

/-- What the supervisor does at its edge after it has counted its frame (R58). -/
theorem supervisorEdgeEnd_frames (s : State) (n : Nat) (line : Bool) :
    KeepsFrames s ((((((s.spacingSplit.voter2Edge n).driveSwitches .v2 n).switchGate n).activateBank n).replanEdge n).lineEdge line) := by
  have hvoter : KeepsFrames s (s.spacingSplit.voter2Edge n) := s.spacingSplit_frames.trans (State.voter2Edge_frames _ n)
  have hswitches := hvoter.trans (State.driveSwitches_frames _ .v2 n)
  have hbank := (hswitches.trans (State.switchGate_frames _ n)).trans (State.activateBank_frames _ n)
  exact (hbank.trans (State.replanEdge_frames _ n)).trans (State.lineEdge_frames _ line)

/-- The edge symbols leave both counts. -/
theorem edgeSymbols_frames (s : State) (a b c : Option Nat) :
    KeepsFrames s (((s.edgeSymbol .a a).edgeSymbol .b b).edgeSymbol .c c) :=
  ((s.edgeSymbol_frames .a a).trans (State.edgeSymbol_frames _ .b b)).trans (State.edgeSymbol_frames _ .c c)

/-- Counting the supervisor's frame leaves the hub's. -/
theorem setSup_frames (s : State) (u : Sup) :
    ({ s with sup := u } : State).sup.frame = u.frame ∧ ({ s with sup := u } : State).hub.frame = s.hub.frame := ⟨rfl, rfl⟩

theorem exec_supervisorEdge_frames (s : State) (a b c : Option Nat) (line : Bool) (m : Option Supply) (hs : s.sup.supplied = true)
    (habc : (a.isSome || b.isSome || c.isSome) = true) :
    ∃ t, exec (.supervisorEdge a b c line m) s = .next t ∧ t.sup.frame = frameAdd s.sup.frame 1 ∧
      (s.anyTick = true → t.hub.frame = s.hub.frame) := by
  have hnone : (a.isNone && b.isNone && c.isNone) = false := by
    simp only [← Option.not_isSome, ← Bool.not_or, habc, Bool.not_true]
  have hlast (u : State) : KeepsFrames u (match m with | some m => u.measureSupplies m | none => u).advHours := by
    cases m with
    | none => exact u.advHours_frames
    | some m => exact (u.measureSupplies_frames m).trans (State.advHours_frames _)
  refine ⟨_, show execSupervisorEdge a b c line m s = _ by rw [execSupervisorEdge, hs, hnone]; rfl, ?_, fun ht => ?_⟩
  · exact ((supervisorEdgeEnd_frames _ _ line).trans (hlast _)).1.trans (setSup_frames _ _).1
  · refine (((supervisorEdgeEnd_frames _ _ line).trans (hlast _)).2.trans (setSup_frames _ _).2).trans ?_
    exact (edgeSymbols_frames _ a b c).2.trans (by rw [if_pos ht])

/-! ### What a lane's edge leaves of the cycle that it has begun -/

/-- `t` shows the frame, the phase, the class-done bits, the edge event, the seal and the withheld image of lane `l` as `s` does. -/
structure CycleKept (l : LaneId) (s t : State) : Prop where
  frame : t.lf l TCK_FRAME = s.lf l TCK_FRAME
  phase : t.lf l TCK_STATUS_PHASE = s.lf l TCK_STATUS_PHASE
  done : t.lf l TCK_CLS_DONE = s.lf l TCK_CLS_DONE
  edge : t.lf l TCK_INT_STAT_EDGE = s.lf l TCK_INT_STAT_EDGE
  sealed : (t.lane l).xch.sealed = (s.lane l).xch.sealed
  withhold : (t.lane l).rt.withhold = (s.lane l).rt.withhold

/-- Field `f` lies apart from the fields of a cycle. -/
def cycleApart (f : Fld) : Bool := [TCK_FRAME, TCK_STATUS_PHASE, TCK_CLS_DONE, TCK_INT_STAT_EDGE].all f.apart

namespace CycleKept

variable {l : LaneId} {s t u : State}

theorem refl (l : LaneId) (s : State) : CycleKept l s s := ⟨rfl, rfl, rfl, rfl, rfl, rfl⟩

theorem trans (h : CycleKept l s t) (g : CycleKept l t u) : CycleKept l s u :=
  ⟨g.frame.trans h.frame, g.phase.trans h.phase, g.done.trans h.done, g.edge.trans h.edge, g.sealed.trans h.sealed,
    g.withhold.trans h.withhold⟩

theorem ite {c : Prop} [Decidable c] (h : c → CycleKept l s t) (g : ¬c → CycleKept l s u) : CycleKept l s (if c then t else u) := by
  split
  · exact h ‹_›
  · exact g ‹_›

theorem foldl {α : Type} {f : State → α → State} (hf : ∀ {t x}, CycleKept l s t → CycleKept l s (f t x)) {xs : List α}
    (h : CycleKept l s t) : CycleKept l s (xs.foldl f t) := by
  induction xs generalizing t with
  | nil => exact h
  | cons x xs ih => exact ih (hf h)

theorem of_lane (h : CycleKept l s t) (hu : u.lane l = t.lane l) : CycleKept l s u := by
  have hlf : ∀ f, u.lf l f = t.lf l f := State.lf_congr (by rw [hu])
  exact h.trans ⟨hlf _, hlf _, hlf _, hlf _, by rw [hu], by rw [hu]⟩

theorem lfSet {f : Fld} {x : Nat} (h : CycleKept l s t) (hf : cycleApart f = true := by rfl) : CycleKept l s (t.lfSet l f x) := by
  simp only [cycleApart, List.all_cons, List.all_nil, Bool.and_true, Bool.and_eq_true] at hf
  obtain ⟨hframe, hphase, hdone, hedge⟩ := hf
  exact h.trans ⟨State.lf_lfSet_apart _ _ _ _ _ _ hframe, State.lf_lfSet_apart _ _ _ _ _ _ hphase,
    State.lf_lfSet_apart _ _ _ _ _ _ hdone, State.lf_lfSet_apart _ _ _ _ _ _ hedge, by simp, by simp⟩

/-- A change of the lane outside its registers, its seal and its withheld image. -/
theorem updLane {f : Lane → Lane} (h : CycleKept l s t) (hregs : ∀ x, (f x).regs = x.regs := by exact fun _ => rfl)
    (hseal : ∀ x, (f x).xch.sealed = x.xch.sealed := by exact fun _ => rfl)
    (hwith : ∀ x, (f x).rt.withhold = x.rt.withhold := by exact fun _ => rfl) : CycleKept l s (t.updLane l f) := by
  have hlf : ∀ g, (t.updLane l f).lf l g = t.lf l g := State.lf_congr (by simp [hregs])
  exact h.trans ⟨hlf _, hlf _, hlf _, hlf _, by simp [hseal], by simp [hwith]⟩

theorem laneEvt {code : Nat} {parts : List (Nat × Nat)} (h : CycleKept l s t) : CycleKept l s (t.laneEvt l code parts) :=
  h.trans ⟨State.lf_laneEvt _ _ _ _ _ _ rfl, State.lf_laneEvt _ _ _ _ _ _ rfl, State.lf_laneEvt _ _ _ _ _ _ rfl,
    State.lf_laneEvt _ _ _ _ _ _ rfl, by simp, by simp⟩

theorem lmemSet {a : Nat} {bs : List Byte} (h : CycleKept l s t) : CycleKept l s (t.lmemSet l a bs) := h.updLane

theorem hfSet {f : Fld} {x : Nat} (h : CycleKept l s t) : CycleKept l s (t.hfSet f x) := h.of_lane (by simp)

theorem setRack {r : Rack} (h : CycleKept l s t) : CycleKept l s { t with rack := r } := h.of_lane (by cases l <;> rfl)

theorem newCode {n : Nat} (h : CycleKept l s t) : CycleKept l s (t.newCode l n) := foldl (fun h => h.updLane) h

theorem loadMode (h : CycleKept l s t) : CycleKept l s (t.loadMode l) := by
  unfold State.loadMode State.loadFlags
  exact h.lfSet.lfSet.lfSet.lfSet.lfSet

theorem showPlan (h : CycleKept l s t) : CycleKept l s (t.showPlan l) := by
  unfold State.showPlan
  exact h.lfSet.lfSet

theorem fillSafeMap (h : CycleKept l s t) : CycleKept l s (t.fillSafeMap l) := ite (fun _ => h) (fun _ => h.lmemSet)

theorem switchAtEdge (h : CycleKept l s t) : CycleKept l s (t.switchAtEdge l) := by
  unfold State.switchAtEdge
  split
  · exact h
  · refine ite (fun _ => h) (fun _ => ?_)
    split
    · exact h.updLane.setRack.lfSet.lfSet.fillSafeMap.showPlan
    · unfold State.rackCode
      exact h.updLane.setRack.laneEvt
    · exact h.updLane

theorem setClock {code : Nat} (h : CycleKept l s t) : CycleKept l s (t.setClock l code) := by
  unfold State.setClock
  exact h.lfSet.showPlan

theorem clockMove (h : CycleKept l s t) : CycleKept l s (t.clockMove l) := by
  unfold State.clockMove
  split
  · exact h
  · refine ite (fun _ => ?_) (fun _ => ite (fun _ => h) (fun _ => h.updLane))
    refine lfSet (laneEvt (ite (fun _ => laneEvt ?_) (fun _ => ?_)))
    · exact h.setClock.updLane.laneEvt
    · exact h.setClock.updLane.laneEvt

theorem showField (h : CycleKept l s t) : CycleKept l s (t.showField l) := by
  unfold State.showField State.showProof
  exact h.lfSet.lfSet.lfSet.lfSet.lfSet.lfSet

theorem writeDiag (h : CycleKept l s t) : CycleKept l s (t.writeDiag l) := by
  unfold State.writeDiag
  refine ite (fun _ => h) (fun _ => ite (fun _ => ?_) (fun _ => lmemSet ?_))
  · exact ite (fun _ => h) (fun _ => h.lmemSet)
  · exact ite (fun _ => h) (fun _ => h.lmemSet)

theorem frontLatch {cycle : Nat} (h : CycleKept l s t) : CycleKept l s (t.frontLatch l cycle) := by
  unfold State.frontLatch
  exact ite (fun _ => h) (fun _ => h.lmemSet.updLane)

theorem frontEdge (h : CycleKept l s t) : CycleKept l s (t.frontEdge l) := by
  unfold State.frontEdge
  exact (ite (fun _ => h.lfSet.lfSet.updLane) (fun _ => h.lfSet)).lfSet

theorem switchFault {d : Side} {o kind : Nat} (h : CycleKept l s t) : CycleKept l s (t.switchFault l d o kind) := by
  unfold State.switchFault
  cases d with
  | hs => exact ite (fun _ => h) (fun _ => h.lfSet.lfSet.updLane)
  | ls => exact ite (fun _ => h) (fun _ => h.lfSet.lfSet.updLane)

theorem stuckCheck {at_ : Nat} (h : CycleKept l s t) : CycleKept l s (t.stuckCheck l at_) :=
  foldl (fun h => ite (fun _ => h.switchFault) (fun _ => h)) h

theorem prSet {x : LanePair} (h : CycleKept l s t) : CycleKept l s (t.prSet l x) := h.updLane

theorem pairTime {master : Bool} (h : CycleKept l s t) : CycleKept l s (t.pairTime master) :=
  ite (fun _ => h.hfSet.hfSet.hfSet) (fun _ => h)

theorem takeRole {role : Nat} (h : CycleKept l s t) : CycleKept l s (t.takeRole l role) := by
  unfold State.takeRole
  exact ite (fun _ => h.prSet.lfSet.pairTime) (fun _ => h.prSet.lfSet)

theorem roleEdge (h : CycleKept l s t) : CycleKept l s (t.roleEdge l) := by
  unfold State.roleEdge State.becomeStandby
  refine ite (fun _ => h) (fun _ => ite (fun _ => ?_) (fun _ => ite (fun _ => ?_) (fun _ => h)))
  · exact h.prSet.lfSet.lfSet
  · exact h.takeRole.laneEvt.lfSet

theorem tickUpd {f : LaneTick → LaneTick} (h : CycleKept l s t) : CycleKept l s (t.tickUpd l f) := h.updLane

/-- What a lane does in L of the cycle that has begun. -/
theorem beginL {cycle : Nat} (h : CycleKept l s t) : CycleKept l s (t.beginL l cycle) := by
  unfold State.beginL
  exact h.lfSet.showField.writeDiag.frontLatch.frontEdge.stuckCheck.roleEdge

end CycleKept

/-! ### What a lane's edge leaves of what decides a change of mode -/

/-- `t` has the modes and the reset input of `s`, and lane `l` has its supply, its pending commit, its running tick and its frame as
in `s`. -/
structure EdgeKept (l : LaneId) (s t : State) : Prop where
  md : t.md = s.md
  rst : t.sup.rst = s.sup.rst
  supplied : (t.lane l).supplied = (s.lane l).supplied
  cfgDue : (t.lane l).cfgDue = (s.lane l).cfgDue
  run : t.lf l TCK_STATUS_RUN = s.lf l TCK_STATUS_RUN
  frame : t.lf l TCK_FRAME = s.lf l TCK_FRAME

/-- Field `f` lies apart from the frame counter and the bit that runs the tick. -/
def edgeApart (f : Fld) : Bool := f.apart TCK_STATUS_RUN && f.apart TCK_FRAME

namespace EdgeKept

variable {l : LaneId} {s t u : State}

theorem refl (l : LaneId) (s : State) : EdgeKept l s s := ⟨rfl, rfl, rfl, rfl, rfl, rfl⟩

theorem trans (h : EdgeKept l s t) (g : EdgeKept l t u) : EdgeKept l s u :=
  ⟨g.md.trans h.md, g.rst.trans h.rst, g.supplied.trans h.supplied, g.cfgDue.trans h.cfgDue, g.run.trans h.run,
    g.frame.trans h.frame⟩

theorem ite {c : Prop} [Decidable c] (h : c → EdgeKept l s t) (g : ¬c → EdgeKept l s u) : EdgeKept l s (if c then t else u) := by
  split
  · exact h ‹_›
  · exact g ‹_›

theorem lregSet {a : Nat} {v : Word} (h : EdgeKept l s t) (hframe : a ≠ TCK_FRAME.reg) (hstatus : a ≠ TCK_STATUS.reg) :
    EdgeKept l s (t.lregSet l a v) := by
  have hlf (f : Fld) (hf : a ≠ f.reg) : (t.lregSet l a v).lf l f = t.lf l f := by
    rw [State.lf, State.lreg_lregSet_other _ _ _ _ (Ne.symm hf), State.lf]
  exact h.trans ⟨by simp, by simp, by simp, by simp, hlf _ hstatus, hlf _ hframe⟩

theorem lfSet {f : Fld} {x : Nat} (h : EdgeKept l s t) (hf : edgeApart f = true := by rfl) : EdgeKept l s (t.lfSet l f x) := by
  obtain ⟨hrun, hframe⟩ := Bool.and_eq_true_iff.1 hf
  exact h.trans ⟨by simp, by simp, by simp, by simp, State.lf_lfSet_apart _ _ _ _ _ _ hrun, State.lf_lfSet_apart _ _ _ _ _ _ hframe⟩

/-- A change of the lane outside its supply, its pending commit and its registers. -/
theorem updLane {f : Lane → Lane} (h : EdgeKept l s t) (hsup : ∀ x, (f x).supplied = x.supplied := by exact fun _ => rfl)
    (hdue : ∀ x, (f x).cfgDue = x.cfgDue := by exact fun _ => rfl) (hregs : ∀ x, (f x).regs = x.regs := by exact fun _ => rfl) :
    EdgeKept l s (t.updLane l f) :=
  h.trans ⟨by simp, by simp, by simp [hsup], by simp [hdue], State.lf_congr (by simp [hregs]) _,
    State.lf_congr (by simp [hregs]) _⟩

theorem tickUpd {f : LaneTick → LaneTick} (h : EdgeKept l s t) : EdgeKept l s (t.tickUpd l f) := h.updLane

theorem emit {k : EmitKind} {place tag : Nat} {bs : List Byte} (h : EdgeKept l s t) : EdgeKept l s (t.emit k place tag bs) :=
  h.trans ⟨rfl, rfl, by cases l <;> rfl, by cases l <;> rfl, State.lf_congr (by cases l <;> rfl) _,
    State.lf_congr (by cases l <;> rfl) _⟩

theorem drawn (h : EdgeKept l s t) : EdgeKept l s t.drawn :=
  h.trans ⟨rfl, rfl, by simp, by simp, State.lf_drawn _ _ _, State.lf_drawn _ _ _⟩

theorem laneEvt {code : Nat} {parts : List (Nat × Nat)} (h : EdgeKept l s t) : EdgeKept l s (t.laneEvt l code parts) :=
  h.trans ⟨by simp, by rw [(laneEvt_eventOnly t l code parts).sup], by simp, by simp, State.lf_laneEvt _ _ _ _ _ _ rfl,
    State.lf_laneEvt _ _ _ _ _ _ rfl⟩

theorem lcount {f : Fld} {d : Nat} (h : EdgeKept l s t) (hf : edgeApart f = true := by rfl) : EdgeKept l s (t.lcount l f d) :=
  h.lfSet hf

theorem markerReject {offset : Nat} (h : EdgeKept l s t) : EdgeKept l s (t.markerReject l offset) := by
  unfold State.markerReject
  exact h.lcount.lfSet.lfSet.laneEvt

theorem markerTally {n : Nat} (h : EdgeKept l s t) : EdgeKept l s (t.markerTally l n) := by
  unfold State.markerTally
  exact ite (fun _ => h.tickUpd) (fun _ => tickUpd (ite (fun _ => h) (fun _ => h.drawn.markerReject)))

theorem hubLossEnter (h : EdgeKept l s t) : EdgeKept l s (t.hubLossEnter l) := by
  unfold State.hubLossEnter
  exact ite (fun _ => h.lfSet.lfSet.tickUpd.laneEvt) (fun _ => h)

theorem hubLossLeave (h : EdgeKept l s t) : EdgeKept l s (t.hubLossLeave l) := by
  unfold State.hubLossLeave
  exact ite (fun _ => h.lfSet.tickUpd.laneEvt) (fun _ => h)

theorem dropUnused (h : EdgeKept l s t) : EdgeKept l s (t.dropUnused l) := by
  unfold State.dropUnused
  exact h.lfSet.lfSet.updLane

theorem lregSets {xs : List (Nat × Nat)} (hxs : ∀ p ∈ xs, p.1 ≠ TCK_FRAME.reg ∧ p.1 ≠ TCK_STATUS.reg) (h : EdgeKept l s t) :
    EdgeKept l s (xs.foldl (fun t p => t.lregSet l p.1 (BitVec.ofNat 64 p.2)) t) := by
  induction xs generalizing t with
  | nil => exact h
  | cons p xs ih =>
    obtain ⟨hp, hxs⟩ := List.forall_mem_cons.1 hxs
    exact ih hxs (h.lregSet hp.1 hp.2)

theorem applyDueRegs (hdue : ∀ p ∈ (t.lane l).tick.dueRegs, p.1 ≠ TCK_FRAME.reg ∧ p.1 ≠ TCK_STATUS.reg)
    (h : EdgeKept l s t) :
    EdgeKept l s (t.applyDueRegs l) := by
  unfold State.applyDueRegs
  exact tickUpd (ite (fun _ => h.lregSets hdue) (fun _ => (h.lregSets hdue).dropUnused))

theorem newCycle (h : EdgeKept l s t) : EdgeKept l s (t.newCycle l) := by
  unfold State.newCycle
  exact h.updLane.lfSet.lfSet.lfSet.lfSet.lfSet.lfSet.lfSet.lfSet.lfSet.lfSet

theorem newCode {n : Nat} (h : EdgeKept l s t) : EdgeKept l s (t.newCode l n) := by
  unfold State.newCode
  generalize List.range 4 = xs
  induction xs generalizing t with
  | nil => exact h
  | cons x xs ih => exact ih h.updLane

end EdgeKept

/-! ### The edge of a lane -/

/-- Lane `l` shows a cycle that has just begun. -/
structure CycleBegun (l : LaneId) (s : State) : Prop where
  phase : s.lf l TCK_STATUS_PHASE = 0
  done : s.lf l TCK_CLS_DONE = 0
  edge : s.lf l TCK_INT_STAT_EDGE = 1
  sealed : (s.lane l).xch.sealed = false
  withhold : (s.lane l).rt.withhold = false

theorem CycleBegun.kept {l : LaneId} {s t : State} (h : CycleBegun l s) (hk : CycleKept l s t) : CycleBegun l t :=
  ⟨hk.phase.trans h.phase, hk.done.trans h.done, hk.edge.trans h.edge, hk.sealed.trans h.sealed, hk.withhold.trans h.withhold⟩

/-- The registers of the ended cycle return to its beginning. -/
theorem cycleBegun_clear {s : State} {l : LaneId} (hseal : (s.lane l).xch.sealed = false) (hwith : (s.lane l).rt.withhold = false) :
    CycleBegun l ((((s.lfSet l TCK_CLS_DONE 0).lfSet l TCK_STATUS_OVR_NOW 0).lfSet l TCK_STATUS_PHASE 0).lfSet l TCK_INT_STAT_EDGE 1) where
  phase := by rw [State.lf_lfSet_apart _ _ _ _ _ _ rfl, State.lf_lfSet_same _ _ _ _ rfl]; rfl
  done := by
    rw [State.lf_lfSet_apart _ _ _ _ _ _ rfl, State.lf_lfSet_apart _ _ _ _ _ _ rfl, State.lf_lfSet_apart _ _ _ _ _ _ rfl,
      State.lf_lfSet_same _ _ _ _ rfl]
    rfl
  edge := State.lf_lfSet_same _ _ _ _ rfl
  sealed := by simpa using hseal
  withhold := by simpa using hwith

theorem newCycle_begun (s : State) (l : LaneId) : CycleBegun l (s.newCycle l) := by
  unfold State.newCycle
  refine CycleBegun.kept (cycleBegun_clear ?_ ?_) (CycleKept.refl l _).lfSet.lfSet.lfSet.lfSet.lfSet.lfSet
  · simp
  · simp

/-- With no mode due, no closing and no valid reset pulse, the edge changes no mode (R84, R96, R100). -/
theorem modeEdge_idle {s : State} (n : Nat) (hdue : s.md.due = []) (hclosing : s.md.closing = none) (hrst : s.sup.rst.valid = false) :
    s.modeEdge n = s := by
  have hclosingEdge : s.closingEdge n = s := by rw [State.closingEdge, hclosing]
  have hresetEdge : s.resetEdge n = s := by rw [State.resetEdge, hrst]; rfl
  have happlyDue : s.applyDue n = s := by
    rw [State.applyDue, hdue]
    simp only [List.filter_nil, List.foldl_nil]
    rw [← hdue]
  rw [State.modeEdge, hclosingEdge, hresetEdge, happlyDue]

theorem loadCommit_idle {s : State} {l : LaneId} (h : (s.lane l).cfgDue = false) : s.loadCommit l = s := by
  rw [State.loadCommit, h]
  rfl

theorem loadMode_cfgDue (s : State) (l : LaneId) : ((s.loadMode l).lane l).cfgDue = (s.lane l).cfgDue := by
  simp [State.loadMode, State.loadFlags]

/-- The lane counts its frame and sends its edge symbol (R52). -/
def State.countFrame (s : State) (l : LaneId) (current : Nat) : State :=
  let s := (s.markerTally l (s.frame l)).lfSet l TCK_FRAME (frameAdd (s.frame l) 1)
  (s.lfSet l BRK_I (min 0xFFFF current)).emit .edgeSymbol l.idx 0 []

/-- The lane judges the loss of the hub and returns to the beginning of a cycle, that of frame `n`, before any change of mode. -/
def State.openCycle (s : State) (l : LaneId) (n : Nat) : State :=
  ((((s.hubLossEnter l).hubLossLeave l).applyDueRegs l).newCycle l).newCode l n

/-- The lane loads the modes and a committed configuration and sets out on the cycle, `cycle` being the length of the ended one
(R52, R78). -/
def State.setOut (s : State) (l : LaneId) (cycle : Nat) : State :=
  let s := (s.loadMode l).loadCommit l
  let s := s.tickUpd l (fun t => { t with
    cycleLen := ((s.lanePeriod l : Int) + t.nextAdj).toNat, nextAdj := 0
    stopped := t.stopped || s.md.closing.isSome })
  ((s.switchAtEdge l).clockMove l).beginL l cycle

theorem CycleKept.setOut {l : LaneId} {s : State} (cycle : Nat) (h : (s.lane l).cfgDue = false) : CycleKept l s (s.setOut l cycle) := by
  have hcommit : (s.loadMode l).loadCommit l = s.loadMode l := loadCommit_idle (by rw [loadMode_cfgDue, h])
  unfold State.setOut
  rw [hcommit]
  exact (CycleKept.refl l s).loadMode.tickUpd.switchAtEdge.clockMove.beginL

/-- The tick edge of a lane whose tick runs, cut where the mode may change. -/
theorem execTickEdge_of_ticking {s : State} {l : LaneId} (current : Nat) (h : s.ticking l = true) :
    execTickEdge l current s =
      let t := ((s.countFrame l current).openCycle l (frameAdd (s.frame l) 1)).modeEdge (frameAdd (s.frame l) 1)
      .next (if !t.ticking l then t else t.setOut l (s.lane l).tick.cycleLen) := by
  rw [execTickEdge, h]
  exact (apply_ite Host.Outcome.next _ _ _).symm

theorem openCycle_begun (s : State) (l : LaneId) (n : Nat) : CycleBegun l (s.openCycle l n) :=
  (newCycle_begun _ l).kept (CycleKept.refl l _).newCode

theorem markerTally_dueRegs (s : State) (l : LaneId) (n : Nat) : ((s.markerTally l n).lane l).tick.dueRegs = (s.lane l).tick.dueRegs := by
  unfold State.markerTally
  dsimp only
  split
  · simp [State.tickUpd]
  · split <;> simp [State.tickUpd, State.markerReject]

theorem countFrame_dueRegs (s : State) (l : LaneId) (current : Nat) :
    ((s.countFrame l current).lane l).tick.dueRegs = (s.lane l).tick.dueRegs := by
  have hemit (t : State) : (t.emit .edgeSymbol l.idx 0 []).lane l = t.lane l := by cases l <;> rfl
  simp [State.countFrame, hemit, markerTally_dueRegs]

theorem hubLoss_dueRegs (s : State) (l : LaneId) :
    (((s.hubLossEnter l).hubLossLeave l).lane l).tick.dueRegs = (s.lane l).tick.dueRegs := by
  have henter : ((s.hubLossEnter l).lane l).tick.dueRegs = (s.lane l).tick.dueRegs := by
    unfold State.hubLossEnter
    dsimp only
    split <;> simp [State.tickUpd]
  rw [← henter, State.hubLossLeave]
  split <;> simp [State.tickUpd]

theorem countFrame_frame (s : State) (l : LaneId) (current : Nat) :
    (s.countFrame l current).lf l TCK_FRAME = frameAdd (s.lf l TCK_FRAME) 1 := by
  have hset := State.lf_lfSet_same (s.markerTally l (s.frame l)) l TCK_FRAME (frameAdd (s.frame l) 1) rfl
  rw [State.countFrame, (EdgeKept.refl l _).lfSet.emit.frame, hset]
  exact Nat.mod_mod _ _

/-- What decides a change of mode stays until then: nothing is due, and the lane keeps its supply and its tick. -/
structure ModesIdle (l : LaneId) (s : State) : Prop where
  due : s.md.due = []
  closing : s.md.closing = none
  rst : s.sup.rst.valid = false
  cfgDue : (s.lane l).cfgDue = false
  ticking : s.ticking l = true

theorem ModesIdle.kept {l : LaneId} {s t : State} (h : ModesIdle l s) (hk : EdgeKept l s t) : ModesIdle l t where
  due := by rw [hk.md, h.due]
  closing := by rw [hk.md, h.closing]
  rst := by rw [hk.rst, h.rst]
  cfgDue := by rw [hk.cfgDue, h.cfgDue]
  ticking := by rw [State.ticking, hk.supplied, hk.run]; exact h.ticking

theorem ModesIdle.setFrame {l : LaneId} {s : State} (h : ModesIdle l s) (n : Nat) : ModesIdle l (s.lfSet l TCK_FRAME n) where
  due := by simpa using h.due
  closing := by simpa using h.closing
  rst := by simpa using h.rst
  cfgDue := by simpa using h.cfgDue
  ticking := by
    rw [State.ticking, State.lfSet_lane_supplied, State.lf_lfSet_apart _ _ _ _ _ _ rfl]
    exact h.ticking

theorem ModesIdle.countFrame {l : LaneId} {s : State} (h : ModesIdle l s) (current : Nat) : ModesIdle l (s.countFrame l current) :=
  ((h.kept (EdgeKept.refl l s).markerTally).setFrame _).kept (EdgeKept.refl l _).lfSet.emit

theorem EdgeKept.openCycle {l : LaneId} {s : State} (n : Nat)
    (hdue : ∀ p ∈ (s.lane l).tick.dueRegs, p.1 ≠ TCK_FRAME.reg ∧ p.1 ≠ TCK_STATUS.reg) : EdgeKept l s (s.openCycle l n) := by
  have hloss : EdgeKept l s ((s.hubLossEnter l).hubLossLeave l) := (EdgeKept.refl l s).hubLossEnter.hubLossLeave
  exact (hloss.applyDueRegs (by rwa [hubLoss_dueRegs])).newCycle.newCode

theorem openCycle_countFrame_idle {s : State} {l : LaneId} (current n : Nat) (h : ModesIdle l s)
    (hdue : ∀ p ∈ (s.lane l).tick.dueRegs, p.1 ≠ TCK_FRAME.reg ∧ p.1 ≠ TCK_STATUS.reg) :
    ModesIdle l ((s.countFrame l current).openCycle l n) :=
  (h.countFrame current).kept (.openCycle n (by rwa [countFrame_dueRegs]))

/-- A tick edge with no change of mode, no commit and no closing step due (R12, R52, R78). -/
theorem execTickEdge_idle {s : State} {l : LaneId} (current : Nat) (h : ModesIdle l s)
    (hdue : ∀ p ∈ (s.lane l).tick.dueRegs, p.1 ≠ TCK_FRAME.reg ∧ p.1 ≠ TCK_STATUS.reg) :
    execTickEdge l current s =
      .next (((s.countFrame l current).openCycle l (frameAdd (s.frame l) 1)).setOut l (s.lane l).tick.cycleLen) := by
  have hidle := openCycle_countFrame_idle current (frameAdd (s.frame l) 1) h hdue
  rw [execTickEdge_of_ticking current h.ticking, modeEdge_idle _ hidle.due hidle.closing hidle.rst]
  dsimp only
  rw [hidle.ticking]
  rfl

theorem exec_tickEdge_frame {s : State} {l : LaneId} (current : Nat) (h : ModesIdle l s)
    (hdue : ∀ p ∈ (s.lane l).tick.dueRegs, p.1 ≠ TCK_FRAME.reg ∧ p.1 ≠ TCK_STATUS.reg) :
    ∃ t, exec (.tickEdge l current) s = .next t ∧ t.lf l TCK_FRAME = frameAdd (s.lf l TCK_FRAME) 1 ∧ CycleBegun l t := by
  have hidle := openCycle_countFrame_idle current (frameAdd (s.frame l) 1) h hdue
  have hout := CycleKept.setOut (s.lane l).tick.cycleLen hidle.cfgDue
  refine ⟨_, execTickEdge_idle current h hdue, ?_, (openCycle_begun _ l _).kept hout⟩
  have hopen := EdgeKept.openCycle (l := l) (frameAdd (s.frame l) 1) (s := s.countFrame l current) (by rwa [countFrame_dueRegs])
  rw [hout.frame, hopen.frame, countFrame_frame]

/-- Settles O9: nothing that an edge does after it has counted its frame changes a frame number, and without a mode due nothing
undoes the beginning of the lane's cycle. -/
theorem edgesAdvanceFrameCounters : Obligations.EdgesAdvanceFrameCounters := by
  unfold Obligations.EdgesAdvanceFrameCounters
  refine fun s => ⟨fun l current hticking hdue hclosing hrst hcfg hregs => ?_, exec_supervisorEdge_frames s, exec_hubEdge_frames s⟩
  obtain ⟨t, hexec, hframe, hbegun⟩ := exec_tickEdge_frame current ⟨hdue, hclosing, hrst, hcfg, hticking⟩ hregs
  exact ⟨t, hexec, hframe, hbegun.phase, hbegun.done, hbegun.edge, hbegun.sealed, hbegun.withhold⟩

end Sys2Proof.Machine

/-! Operations that change lanes only; the power registers of a lane; excursions of the output supplies, the keep-alive supply and
the temperature; loss of the supervisor's or the hub's supply (01 R40; 20 R518, R532, R534, R536). -/

namespace Sys2Proof.Machine

/-! ### Operations that change lanes only -/

/-- `t` is `s` but for the lanes. -/
def LanesOnly (s t : State) : Prop := t = { s with laneA := t.laneA, laneB := t.laneB, laneC := t.laneC }

theorem LanesOnly.refl (s : State) : LanesOnly s s := rfl

theorem LanesOnly.trans {s t u : State} (h : LanesOnly s t) (g : LanesOnly t u) : LanesOnly s u := by
  unfold LanesOnly at *
  rw [g, h]

theorem LaneOnly.lanesOnly {l : LaneId} {s t : State} (h : LaneOnly l s t) : LanesOnly s t := by
  unfold LaneOnly at h
  rw [h]
  cases l <;> rfl

theorem LanesOnly.sup {s t : State} (h : LanesOnly s t) : t.sup = s.sup := by rw [h]

theorem LanesOnly.hub {s t : State} (h : LanesOnly s t) : t.hub = s.hub := by rw [h]

theorem LanesOnly.md {s t : State} (h : LanesOnly s t) : t.md = s.md := by rw [h]

/-- Lane `k` is left by an operation on another lane. -/
theorem LaneOnly.other {l k : LaneId} {s t : State} (h : LaneOnly l s t) (hk : k ≠ l) : t.lane k = s.lane k := by
  rw [h, State.setLane_lane, if_neg hk]

theorem LaneOnly.ite {c : Prop} [Decidable c] {l : LaneId} {s t u : State} (h : LaneOnly l s t) (g : LaneOnly l s u) :
    LaneOnly l s (if c then t else u) := by
  split
  · exact h
  · exact g

/-- What changes one lane each time, done for every lane, changes lanes only. -/
theorem LanesOnly.onLanes {f : LaneId → State → State} (h : ∀ l s, LaneOnly l s (f l s)) (s : State) : LanesOnly s (onLanes f s) :=
  ((h .a s).lanesOnly.trans (h .b _).lanesOnly).trans (h .c _).lanesOnly

/-- What is brought about on a lane, and kept when another lane is dealt with, holds of every lane in the end. -/
theorem onLanes_each {P : State → LaneId → Prop} {f : LaneId → State → State} (hmake : ∀ l s, P (f l s) l)
    (hkeep : ∀ l k s, l ≠ k → P s l → P (f k s) l) (s : State) (l : LaneId) : P (onLanes f s) l := by
  cases l with
  | a => exact hkeep _ .c _ (by decide) (hkeep _ .b _ (by decide) (hmake .a s))
  | b => exact hkeep _ .c _ (by decide) (hmake .b _)
  | c => exact hmake .c _

/-- A field of a lane as every step for every lane leaves it. -/
theorem onLanes_keeps {β : Type} (p : State → β) {f : LaneId → State → State} (h : ∀ l s, p (f l s) = p s) (s : State) :
    p (onLanes f s) = p s := by
  rw [onLanes, h, h, h]

/-! ### Several fields of a lane set in turn -/

section
variable {α : Type} {l : LaneId} {g : α → Fld} {x : α → Nat}

theorem LaneOnly.foldl_lfSet (ps : List α) (s : State) : LaneOnly l s (ps.foldl (fun t p => t.lfSet l (g p) (x p)) s) := by
  induction ps generalizing s with
  | nil => exact .refl l s
  | cons p ps ih => exact (LaneOnly.lfSet l s _ _).trans (ih _)

/-- A field apart from all that are set reads as before. -/
theorem lf_foldl_lfSet_apart {ps : List α} {f : Fld} (h : ∀ p ∈ ps, (g p).apart f = true) (s : State) (k : LaneId) :
    (ps.foldl (fun t p => t.lfSet l (g p) (x p)) s).lf k f = s.lf k f := by
  induction ps generalizing s with
  | nil => rfl
  | cons p ps ih =>
    rw [List.foldl_cons, ih fun q hq => h q (List.mem_cons_of_mem _ hq), State.lf_lfSet_apart _ _ _ _ _ _ (h p List.mem_cons_self)]

/-- Fields that lie apart all read as they were set, cut to their widths. -/
theorem lf_foldl_lfSet {ps : List α} (hp : ps.Pairwise fun p q => (g q).apart (g p) = true) (hok : ∀ p ∈ ps, (g p).ok = true)
    (s : State) {p : α} (h : p ∈ ps) :
    (ps.foldl (fun t p => t.lfSet l (g p) (x p)) s).lf l (g p) = x p % 2 ^ ((g p).hi + 1 - (g p).lo) := by
  induction ps generalizing s with
  | nil => cases h
  | cons q ps ih =>
    obtain ⟨hq, hps⟩ := List.pairwise_cons.1 hp
    rw [List.foldl_cons]
    rcases List.mem_cons.1 h with rfl | h
    · rw [lf_foldl_lfSet_apart hq, State.lf_lfSet_same _ _ _ _ (hok p List.mem_cons_self)]
    · exact ih hps (fun q hq => hok q (List.mem_cons_of_mem _ hq)) _ h

end

/-! ### The power registers (20 R534) -/

/-- The fields of the power registers that report the supplies, each with what it reports. -/
def powerFields : List (Fld × (Power → KeepAlive → Nat)) :=
  [(PWR_STATUS_MAIN_OK, fun p _ => b2n p.inRange), (PWR_STATUS_HOLDUP, fun p _ => b2n p.holdup),
    (PWR_STATUS_OVER, fun p _ => b2n p.overV), (PWR_STATUS_VO_OK, fun p _ => b2n p.voOk), (PWR_STATUS_VB_OK, fun p _ => b2n p.vbOk),
    (PWR_STATUS_KA_LOW, fun p _ => b2n p.kaLow), (PWR_STATUS_TEMP_HI, fun p _ => b2n p.tempHi), (PWR_VIN, fun p _ => p.vin),
    (PWR_PIN, fun p _ => p.pin), (PWR_HU_E_HU, fun p _ => p.eHu), (PWR_HU_E_USE, fun p _ => p.eUse), (PWR_HU_C_C, fun p _ => p.cap),
    (PWR_HU_C_ESR, fun p _ => p.esr), (PWR_VOUT_VO, fun p _ => p.vo), (PWR_VOUT_VB, fun p _ => p.vb), (PWR_VKA, fun p _ => p.vka),
    (PWR_TEMP, fun p _ => ofInt 16 p.temp), (PWR_DUMP, fun _ k => min 0xFFFF k.lastDump)]

theorem powerFields_pairwise : powerFields.Pairwise fun p q => q.1.apart p.1 = true := by
  decide

theorem showPowerLane_eq (s : State) (l : LaneId) : s.showPowerLane l =
    if (s.lane l).supplied then powerFields.foldl (fun t p => t.lfSet l p.1 (p.2 s.sup.pw s.sup.ka)) s else s := by
  unfold State.showPowerLane
  cases (s.lane l).supplied <;> simp [powerFields]

/-- Lane `l`, where it is supplied, reports the supplies as the power unit holds them. -/
def ShowsPower (s : State) (l : LaneId) : Prop :=
  (s.lane l).supplied = true → ∀ p ∈ powerFields, s.lf l p.1 = p.2 s.sup.pw s.sup.ka % 2 ^ (p.1.hi + 1 - p.1.lo)

theorem showPowerLane_laneOnly (s : State) (l : LaneId) : LaneOnly l s (s.showPowerLane l) := by
  rw [showPowerLane_eq]
  exact .ite (.foldl_lfSet _ _) (.refl l s)

theorem showPower_lanesOnly (s : State) : LanesOnly s s.showPower := .onLanes (fun l s => showPowerLane_laneOnly s l) s

@[simp] theorem foldl_lfSet_supplied {α : Type} {g : α → Fld} {x : α → Nat} (l k : LaneId) (ps : List α) (s : State) :
    ((ps.foldl (fun t p => t.lfSet l (g p) (x p)) s).lane k).supplied = (s.lane k).supplied := by
  induction ps generalizing s with
  | nil => rfl
  | cons p ps ih => rw [List.foldl_cons, ih, State.lfSet_lane_supplied]

theorem showPowerLane_supplied (s : State) (l k : LaneId) : ((s.showPowerLane l).lane k).supplied = (s.lane k).supplied := by
  rw [showPowerLane_eq]
  split <;> simp

theorem showPower_supplied (s : State) (k : LaneId) : (s.showPower.lane k).supplied = (s.lane k).supplied :=
  onLanes_keeps (fun s => (s.lane k).supplied) (fun l s => showPowerLane_supplied s l k) s

theorem showPowerLane_shows (s : State) (l : LaneId) : ShowsPower (s.showPowerLane l) l := by
  intro hs p hp
  rw [showPowerLane_supplied] at hs
  rw [(showPowerLane_laneOnly s l).lanesOnly.sup, showPowerLane_eq, if_pos hs]
  exact lf_foldl_lfSet powerFields_pairwise (by decide) s hp

/-- A lane that is left shows what it showed. -/
theorem ShowsPower.congr {s t : State} {l : LaneId} (h : ShowsPower s l) (hl : t.lane l = s.lane l) (hsup : t.sup = s.sup) :
    ShowsPower t l := by
  intro hs p hp
  rw [State.lf_congr (congrArg Lane.regs hl), hsup]
  exact h (hl ▸ hs) p hp

theorem showPower_shows (s : State) (l : LaneId) : ShowsPower s.showPower l :=
  onLanes_each (P := ShowsPower) (fun l s => showPowerLane_shows s l)
    (fun _ k s hk h => h.congr ((showPowerLane_laneOnly s k).other hk) (showPowerLane_laneOnly s k).lanesOnly.sup) s l

/-! ### Taking a value of a supply -/

/-- `t` is `s` with the power unit's state `p`, in so far as it concerns the power unit, the modes and which lanes are supplied. -/
structure TakesPower (p : Power) (s t : State) : Prop where
  pw : t.sup.pw = p
  md : t.md = s.md
  supplied : ∀ l, (t.lane l).supplied = (s.lane l).supplied

/-- `t` is such a state, and its lanes report it. -/
structure ReportsPower (p : Power) (s t : State) : Prop extends TakesPower p s t where
  shows : ∀ l, ShowsPower t l

/-- `u` has the power unit's state and what the lanes report of it as `t` has. -/
structure PowerKept (t u : State) : Prop where
  pw : u.sup.pw = t.sup.pw
  ka : u.sup.ka = t.sup.ka
  md : u.md = t.md
  supplied : ∀ l, (u.lane l).supplied = (t.lane l).supplied
  shown : ∀ l, ∀ p ∈ powerFields, u.lf l p.1 = t.lf l p.1

theorem PowerKept.refl (s : State) : PowerKept s s := ⟨rfl, rfl, rfl, fun _ => rfl, fun _ _ _ => rfl⟩

theorem PowerKept.ite {c : Prop} [Decidable c] {s t u : State} (h : PowerKept s t) (g : PowerKept s u) :
    PowerKept s (if c then t else u) := by
  split
  · exact h
  · exact g

theorem PowerKept.trans {s t u : State} (h : PowerKept s t) (g : PowerKept t u) : PowerKept s u where
  pw := g.pw.trans h.pw
  ka := g.ka.trans h.ka
  md := g.md.trans h.md
  supplied l := (g.supplied l).trans (h.supplied l)
  shown l p hp := (g.shown l p hp).trans (h.shown l p hp)

/-- What is kept for each lane's step is kept for all. -/
theorem PowerKept.onLanes {f : LaneId → State → State} (h : ∀ l s, PowerKept s (f l s)) (s : State) : PowerKept s (onLanes f s) :=
  ((h .a s).trans (h .b _)).trans (h .c _)

theorem powerKept_supEvt (s : State) (code : Nat) (parts : List (Nat × Nat)) : PowerKept s (s.supEvt code parts) where
  pw := by simp
  ka := by simp
  md := by simp
  supplied := by simp
  shown l p hp := State.lf_supEvt _ _ _ _ _ ((by decide : ∀ p ∈ powerFields, eventReg p.1.reg = false) p hp)

theorem powerKept_powerInt (s : State) (f : Fld) (h : ∀ p ∈ powerFields, f.apart p.1 = true) : PowerKept s (s.powerInt f) :=
  .onLanes (fun l s => .ite ⟨by simp, by simp, by simp, by simp, fun k p hp => State.lf_lfSet_apart _ _ _ _ _ _ (h p hp)⟩ (.refl s)) s

theorem powerKept_suspendFindings (s : State) (brake : Bool) : PowerKept s (s.suspendFindings brake) := by
  refine .onLanes (fun l s => .ite ⟨by simp, by simp, by simp, fun k => ?_, fun k p _ => ?_⟩ (.refl s)) s
  · rw [State.updLane_lane]
    split <;> simp [*]
  · refine State.lf_congr ?_ _
    rw [State.updLane_lane]
    split <;> simp [*]

theorem TakesPower.kept {p : Power} {s t u : State} (h : TakesPower p s t) (hk : PowerKept t u) : TakesPower p s u :=
  ⟨hk.pw.trans h.pw, hk.md.trans h.md, fun l => (hk.supplied l).trans (h.supplied l)⟩

theorem ReportsPower.kept {p : Power} {s t u : State} (h : ReportsPower p s t) (hk : PowerKept t u) : ReportsPower p s u where
  toTakesPower := h.toTakesPower.kept hk
  shows l hs q hq := by
    rw [hk.shown l q hq, hk.pw, hk.ka]
    exact h.shows l (hk.supplied l ▸ hs) q hq

theorem takesPower_pwSet (s : State) (f : Power → Power) : TakesPower (f s.sup.pw) s (s.pwSet f) := ⟨rfl, rfl, by simp⟩

theorem TakesPower.report {p : Power} {s t : State} (h : TakesPower p s t) : ReportsPower p s t.showPower where
  pw := by rw [(showPower_lanesOnly t).sup, h.pw]
  md := by rw [(showPower_lanesOnly t).md, h.md]
  supplied l := (showPower_supplied t l).trans (h.supplied l)
  shows := showPower_shows t

/-- A lane reports a flag of the power unit in a field of one bit. -/
theorem ReportsPower.flag {p : Power} {s t : State} (h : ReportsPower p s t) {l : LaneId} (hs : (s.lane l).supplied = true) (f : Fld)
    (b : Power → Bool) (hf : (f, fun p _ => b2n (b p)) ∈ powerFields) (hw : f.hi = f.lo) : t.lf l f = b2n (b p) := by
  rw [h.shows l (by rw [h.supplied, hs]) _ hf, h.pw, hw, Nat.add_sub_cancel_left]
  show b2n (b p) % 2 ^ 1 = b2n (b p)
  cases b p <;> rfl

section
variable {p : Power} {s t : State} {l : LaneId} (h : ReportsPower p s t) (hs : (s.lane l).supplied = true)
include h hs

theorem ReportsPower.voOk : t.lf l PWR_STATUS_VO_OK = b2n p.voOk := h.flag hs _ Power.voOk (by simp [powerFields]) rfl

theorem ReportsPower.vbOk : t.lf l PWR_STATUS_VB_OK = b2n p.vbOk := h.flag hs _ Power.vbOk (by simp [powerFields]) rfl

theorem ReportsPower.kaLow : t.lf l PWR_STATUS_KA_LOW = b2n p.kaLow := h.flag hs _ Power.kaLow (by simp [powerFields]) rfl

theorem ReportsPower.tempHi : t.lf l PWR_STATUS_TEMP_HI = b2n p.tempHi := h.flag hs _ Power.tempHi (by simp [powerFields]) rfl

end

/-! ### Excursions (20 R518, R532, R536) -/

/-- VB (`brake`) or VO measures `v`, in range or not. -/
def Power.outputSupply (p : Power) (brake : Bool) (v : Nat) (ok : Bool) : Power :=
  if brake then { p with vb := v, vbOk := ok } else { p with vo := v, voOk := ok }

theorem bitOf_setBit_true (v i : Nat) : bitOf (setBit v i true) i = true := by
  have h : bitsOf (setBits v i i 1) i i = 1 := by rw [bitsOf_setBits_same, Nat.add_sub_cancel_left, Nat.pow_one]
  rw [bitsOf, Nat.add_sub_cancel_left, Nat.pow_one] at h
  simp [bitOf, setBit, h]

theorem suspendFindings_sus (s : State) (brake : Bool) (l : LaneId) (hs : (s.lane l).supplied = true) :
    bitOf ((s.suspendFindings brake).lane l).fe.sus (b2n brake) = true := by
  refine onLanes_each (P := fun t l => (t.lane l).supplied = true → bitOf (t.lane l).fe.sus (b2n brake) = true) ?_ ?_ s l
    (((powerKept_suspendFindings s brake).supplied l).trans hs)
  · intro l s hs
    split
    · simp [bitOf_setBit_true]
    · split at hs <;> contradiction
  · intro l k s hk h
    rwa [LaneOnly.other (.ite (.upd k s _) (.refl k s)) hk]

theorem exec_outputSupplyOutOfRange {s : State} {brake : Bool} {v : Nat} (hs : s.sup.supplied = true)
    (hv : (if brake then vbOut v else voOut v) = true) :
    ∃ t, exec (.outputSupplyOutOfRange brake v) s = .next t ∧ ReportsPower (s.sup.pw.outputSupply brake v false) s t ∧
      ∀ l, (s.lane l).supplied = true → bitOf (t.lane l).fe.sus (b2n brake) = true := by
  have hset := takesPower_pwSet s (fun p => p.outputSupply brake v false)
  have hint := hset.kept (.ite (c := (if brake then s.sup.pw.vbOk else s.sup.pw.voOk) = true)
    (powerKept_powerInt _ PWR_INT_STAT_SUPPLY (by decide)) (.refl _))
  refine ⟨_, show execOutputSupplyOutOfRange brake v s = _ by rw [execOutputSupplyOutOfRange, hs, hv]; rfl,
    (hint.report.kept (powerKept_suspendFindings _ brake)).kept (powerKept_supEvt ..), fun l hl => ?_⟩
  rw [State.supEvt_lane_fe]
  exact suspendFindings_sus _ brake l ((hint.report.supplied l).trans hl)

theorem exec_outputSupplyRestored {s : State} {brake : Bool} {v : Nat} (hs : s.sup.supplied = true)
    (hv : (if brake then vbOut v else voOut v) = false) :
    ∃ t, exec (.outputSupplyRestored brake v) s = .next t ∧ ReportsPower (s.sup.pw.outputSupply brake v true) s t := by
  have hset := takesPower_pwSet s (fun p => p.outputSupply brake v true)
  have hint := hset.kept (.ite (c := (if brake then s.sup.pw.vbOk else s.sup.pw.voOk) = true) (.refl _)
    (powerKept_powerInt _ PWR_INT_STAT_SUPPLY (by decide)))
  exact ⟨_, show execOutputSupplyRestored brake v s = _ by rw [execOutputSupplyRestored, hs, hv]; rfl,
    hint.report.kept (.ite (.refl _) (powerKept_supEvt ..))⟩

/-- In STOWED a low keep-alive supply is taken and its lowest value kept for the next start. -/
theorem exec_keepaliveLow_stowed {s : State} {mv : Nat} (hs : s.sup.supplied = true) (hmv : mv < 2200) (hm : s.md.mode = .stowed) :
    ∃ t, exec (.keepaliveLow mv) s = .next t ∧ TakesPower { s.sup.pw with vka := mv, kaLow := true } s t := by
  have hlow : execKeepaliveLow mv s = _ := if_neg (by simp [hs, hmv])
  exact ⟨_, hlow.trans (if_pos (by simp [hm])), rfl, rfl, fun l => by cases l <;> rfl⟩

theorem exec_keepaliveLow_running {s : State} {mv : Nat} (hs : s.sup.supplied = true) (hmv : mv < 2200) (hm : s.md.mode ≠ .stowed) :
    ∃ t, exec (.keepaliveLow mv) s = .next t ∧ ReportsPower { s.sup.pw with vka := mv, kaLow := true } s t := by
  have hlow : execKeepaliveLow mv s = _ := if_neg (by simp [hs, hmv])
  have hset := takesPower_pwSet s (fun p => { p with vka := mv, kaLow := true })
  exact ⟨_, hlow.trans (if_neg (by simp [hm])), hset.report.kept (.ite (.refl _) (powerKept_supEvt ..))⟩

theorem exec_boardOvertemperature {s : State} {x : Int} (hs : s.sup.supplied = true) (hx : 950 < x) :
    ∃ t, exec (.boardOvertemperature x) s = .next t ∧ ReportsPower { s.sup.pw with temp := x, tempHi := true } s t := by
  have hlim : decide (x ≤ 950) = false := decide_eq_false (by omega)
  have hrep := (takesPower_pwSet s (fun p => { p with temp := x, tempHi := true })).report
  cases hwas : s.sup.pw.tempHi with
  | true => exact ⟨_, show execBoardOvertemperature x s = _ by rw [execBoardOvertemperature, hs, hlim, hwas]; rfl, hrep⟩
  | false =>
    exact ⟨_, show execBoardOvertemperature x s = _ by rw [execBoardOvertemperature, hs, hlim, hwas]; rfl,
      (hrep.kept (powerKept_powerInt _ PWR_INT_STAT_TEMP (by decide))).kept (powerKept_supEvt ..)⟩

/-! ### Loss of a supply (01 R40) -/

theorem exec_supervisorSupplyLoss (s : State) (keepAlive : Bool) :
    ∃ t, exec (.supervisorSupplyLoss keepAlive) s = .next t ∧ t.sup.supplied = false ∧ t.sup.pw.dumping = true ∧
      t.sup.ka = (if keepAlive then s.sup.ka else s.sup.ka.lost) ∧ t = { s with sup := t.sup } :=
  ⟨_, rfl, rfl, rfl, rfl, rfl⟩

/-- What the loss of the hub does to lane `l`, where it is supplied: its link is down and its submissions are lost. -/
def State.hubGone (s : State) (l : LaneId) : State :=
  if (s.lane l).supplied then (s.lfSet l BRG_STATUS_LINK_UP 0).updLane l (fun x => { x with book := {} }) else s

theorem hubGone_laneOnly (s : State) (l : LaneId) : LaneOnly l s (s.hubGone l) :=
  .ite ((LaneOnly.lfSet l s _ _).trans (.upd ..)) (.refl l s)

theorem hubGone_lane (s : State) (l k : LaneId) :
    ((s.hubGone l).lane k).supplied = (s.lane k).supplied ∧ ((s.hubGone l).lane k).mem = (s.lane k).mem := by
  unfold State.hubGone
  split
  · rw [State.updLane_lane]
    split <;> simp [*]
  · exact ⟨rfl, rfl⟩

theorem hubGone_linkUp (s : State) (l : LaneId) (hs : ((s.hubGone l).lane l).supplied = true) :
    (s.hubGone l).lf l BRG_STATUS_LINK_UP = 0 := by
  rw [(hubGone_lane s l l).1] at hs
  rw [State.hubGone, if_pos hs]
  refine (State.lf_congr ?_ _).trans (State.lf_lfSet_same s l BRG_STATUS_LINK_UP 0 rfl)
  simp

theorem hubPowerOff_lane (s : State) (l : LaneId) : s.hubPowerOff.lane l = (onLanes (fun l s => s.hubGone l) s).lane l := by
  cases l <;> rfl

theorem onLanes_hubGone_linkUp (s : State) (l : LaneId) (hs : (s.lane l).supplied = true) :
    (onLanes (fun l s => s.hubGone l) s).lf l BRG_STATUS_LINK_UP = 0 := by
  refine onLanes_each (P := fun t l => (t.lane l).supplied = true → t.lf l BRG_STATUS_LINK_UP = 0)
    (fun l s => hubGone_linkUp s l) (fun l k s hk h hl => ?_) s l ?_
  · have hsame := (hubGone_laneOnly s k).other hk
    rw [State.lf_congr (congrArg Lane.regs hsame)]
    exact h (hsame ▸ hl)
  · rw [onLanes_keeps (fun s => (s.lane l).supplied) (fun k s => (hubGone_lane s k l).1), hs]

theorem exec_hubSupplyLoss (s : State) : ∃ t, exec .hubSupplyLoss s = .next t ∧ t.hub.supplied = false ∧ t.hub.mram = s.hub.mram ∧
    t.sup = s.sup ∧ t.md = s.md ∧
    ∀ l, (t.lane l).mem = (s.lane l).mem ∧ ((s.lane l).supplied = true → t.lf l BRG_STATUS_LINK_UP = 0) := by
  have hlanes : LanesOnly s (onLanes (fun l s => s.hubGone l) s) := .onLanes (fun l s => hubGone_laneOnly s l) s
  refine ⟨s.hubPowerOff, rfl, rfl, (congrArg Hub.mram hlanes.hub :), hlanes.sup, hlanes.md, fun l => ⟨?_, fun hl => ?_⟩⟩
  · rw [hubPowerOff_lane, onLanes_keeps (fun s => (s.lane l).mem) (fun k s => (hubGone_lane s k l).2)]
  · rw [State.lf_congr (congrArg Lane.regs (hubPowerOff_lane s l)), onLanes_hubGone_linkUp s l hl]

/-- Settles O44: each excursion reports the power unit's state as it takes it, and nothing that follows touches what is reported. -/
theorem suppliesTemperatureAndLosses : Obligations.SuppliesTemperatureAndLosses := by
  unfold Obligations.SuppliesTemperatureAndLosses
  refine fun s => ⟨fun v hs hv => ?_, fun v hs hv => ?_, fun v hs hv => ?_, fun v hs hv => ?_, fun mv hs hmv => ?_, fun x hs hx => ?_,
    exec_supervisorSupplyLoss s true, exec_supervisorSupplyLoss s false, exec_hubSupplyLoss s⟩
  · obtain ⟨t, he, hr, hsus⟩ := exec_outputSupplyOutOfRange (brake := false) hs hv
    exact ⟨t, he, by rw [hr.pw]; rfl, by rw [hr.pw]; rfl, hr.md, fun l hl => ⟨hr.voOk hl, hsus l hl⟩⟩
  · obtain ⟨t, he, hr, hsus⟩ := exec_outputSupplyOutOfRange (brake := true) hs hv
    exact ⟨t, he, by rw [hr.pw]; rfl, by rw [hr.pw]; rfl, hr.md, fun l hl => ⟨hr.vbOk hl, hsus l hl⟩⟩
  · obtain ⟨t, he, hr⟩ := exec_outputSupplyRestored (brake := false) hs hv
    exact ⟨t, he, by rw [hr.pw]; rfl, by rw [hr.pw]; rfl, hr.md, fun l hl => hr.voOk hl⟩
  · obtain ⟨t, he, hr⟩ := exec_outputSupplyRestored (brake := true) hs hv
    exact ⟨t, he, by rw [hr.pw]; rfl, by rw [hr.pw]; rfl, hr.md, fun l hl => hr.vbOk hl⟩
  · by_cases hm : s.md.mode = .stowed
    · obtain ⟨t, he, ht⟩ := exec_keepaliveLow_stowed hs hmv hm
      exact ⟨t, he, by rw [ht.pw], by rw [ht.pw], ht.md, absurd hm⟩
    · obtain ⟨t, he, hr⟩ := exec_keepaliveLow_running hs hmv hm
      exact ⟨t, he, by rw [hr.pw], by rw [hr.pw], hr.md, fun _ l hl => hr.kaLow hl⟩
  · obtain ⟨t, he, hr⟩ := exec_boardOvertemperature hs hx
    exact ⟨t, he, by rw [hr.pw], by rw [hr.pw], hr.md, fun l hl => hr.tempHi hl⟩

end Sys2Proof.Machine

/-! The exchange area (01 R31, R36; 04 R117; 09 R255, R256, R265): what an inbound access of the hub can do, what single bytes of
memory leave of it, and how the item of a cyclic input channel reaches the lanes. -/

namespace Sys2Proof.Machine

/-! ### Lane memory -/

theorem lmem_lmemSet_same (s : State) (l : LaneId) (addr : Nat) (bs : List Byte) : (s.lmemSet l addr bs).lmem l addr bs.length = bs := by
  simp [State.lmem, State.lmemSet, memRead_memWrite_same]

theorem lmem_lmemSet_out (s : State) (l : LaneId) {addr b n : Nat} {bs : List Byte} (h : b + n ≤ addr ∨ addr + bs.length ≤ b) :
    (s.lmemSet l addr bs).lmem l b n = s.lmem l b n := by
  simp [State.lmem, State.lmemSet, memRead_memWrite_out _ _ _ _ _ h]

@[simp] theorem lmemSet_nil (s : State) (l : LaneId) (addr : Nat) : s.lmemSet l addr [] = s := by cases l <;> rfl

theorem mapGet_memWriteCells_out {bs : List (Nat × Byte)} {b : Nat} (h : ∀ p ∈ bs, p.1 ≠ b) (m : List Host.Cell) :
    mapGet memDefault (memWriteCells m bs) b = mapGet memDefault m b := by
  induction bs generalizing m with
  | nil => rfl
  | cons p bs ih =>
    rw [memWriteCells, ih fun q hq => h q (List.mem_cons_of_mem _ hq), mapGet_mapSet_other _ _ _ (h p List.mem_cons_self).symm]

/-- Bytes read apart from all the single bytes written are as before. -/
theorem lmem_lmemCells_out (s : State) (l : LaneId) {bs : List (Nat × Byte)} {b n : Nat} (h : ∀ p ∈ bs, p.1 < b ∨ b + n ≤ p.1) :
    (s.lmemCells l bs).lmem l b n = s.lmem l b n := by
  rw [State.lmem, State.lmemCells, State.updLane_lane, if_pos rfl, State.lmem]
  induction n generalizing b with
  | zero => rfl
  | succ n ih =>
    have hb : ∀ p ∈ bs, p.1 ≠ b := fun p hp => by have := h p hp; omega
    have hn : ∀ p ∈ bs, p.1 < b + 1 ∨ b + 1 + n ≤ p.1 := fun p hp => by have := h p hp; omega
    rw [memRead, memRead, ih hn, mapGet_memWriteCells_out hb]

theorem LaneOnly.lmemCells (l : LaneId) (s : State) (bs : List (Nat × Byte)) : LaneOnly l s (s.lmemCells l bs) := .upd l s _

/-- The bytes outside the words of a range lie outside the range. -/
theorem outsideWords_apart {a b n : Nat} {cs : List Byte} : ∀ p ∈ outsideWords a cs b n, p.1 < b ∨ b + n ≤ p.1 := by
  intro p hp
  have hword := (List.mem_filter.1 hp).2
  simp only [Bool.or_eq_true, decide_eq_true_eq] at hword
  omega

/-! ### The link and the seal depend on the lane alone -/

theorem linkUp_congr {s t : State} {l : LaneId} (hl : t.lane l = s.lane l) (hh : t.hub = s.hub) : t.linkUp l = s.linkUp l := by
  rw [State.linkUp, hh, hl, State.lf_congr (congrArg Lane.regs hl), State.linkUp]

theorem sealedHit_congr {s t : State} {l : LaneId} (hl : t.lane l = s.lane l) (off n : Nat) :
    t.sealedHit l off n = s.sealedHit l off n := by
  have hfld : ∀ f, t.lf l f = s.lf l f := State.lf_congr (congrArg Lane.regs hl)
  have hentry : t.ventry l = s.ventry l := funext fun i => by simp only [State.ventry, State.vlist, State.lreg, State.lmem, hl]
  have hentries : t.ventries l = s.ventries l := by rw [State.ventries, hfld, hentry, State.ventries]
  rw [State.sealedHit, hl, hentries, show t.frame l = s.frame l from hfld _, State.sealedHit]

theorem supplied_of_linkUp {s : State} {l : LaneId} (h : s.linkUp l = true) : (s.lane l).supplied = true := by
  simp only [State.linkUp, Bool.and_eq_true] at h
  exact h.1.2

theorem hubSupplied_of_linkUp {s : State} {l : LaneId} (h : s.linkUp l = true) : s.hub.supplied = true := by
  simp only [State.linkUp, Bool.and_eq_true] at h
  exact h.1.1

/-! ### What an inbound write does (01 R31, 04 R117) -/

/-- The place of the exchange area that a store of a core names. -/
def exchangeWrap (a : Nat) : Nat := exchangeBase + (a - exchangeBase) % exchangeSize

theorem exchangeWrap_of_within {a : Nat} (hbase : exchangeBase ≤ a) (hend : a < exchangeBase + exchangeSize) : exchangeWrap a = a := by
  rw [exchangeWrap, Nat.mod_eq_of_lt (by omega)]
  omega

/-- `t` is `s` but for lane `l` and what has been sent. -/
abbrev LaneTx (l : LaneId) (s t : State) : Prop := LaneOnly l { s with tx := t.tx } t

theorem LaneOnly.emit {l : LaneId} {s t : State} (h : LaneOnly l s t) (k : EmitKind) (place tag : Nat) (bs : List Byte) :
    LaneTx l s (t.emit k place tag bs) := by
  unfold LaneTx LaneOnly at *
  rw [h]
  cases l <;> rfl

theorem LaneOnly.tx {l : LaneId} {s t : State} (h : LaneOnly l s t) : LaneTx l s t := by
  have htx : t.tx = s.tx := by rw [h, State.setLane_tx]
  rw [LaneTx, htx]
  exact h

section
variable {s : State} {l : LaneId} {off : Nat} {bs : List Byte} (hup : s.linkUp l = true)
include hup

theorem inbound_outside (hbs : bs ≠ []) (h : exchangeSize < off + bs.length) : (s.inbound l off bs).1 = s.inboundRefused l off := by
  simp [State.inbound, hup, hbs, h]

theorem inbound_sealed (hbs : bs ≠ []) (h : off + bs.length ≤ exchangeSize) (hseal : s.sealedHit l off bs.length = true) :
    (s.inbound l off bs).1 = (s.lcount l XCH_CNT_SEAL (inboundWrites off bs.length)).lfSet l XCH_INT_STAT_SEAL 1 := by
  simp [State.inbound, hup, hbs, Nat.not_lt.2 h, hseal]

/-- A write within the area that meets no sealed bank is performed; one of no bytes has nothing to do. -/
theorem inbound_open (h : off + bs.length ≤ exchangeSize) (hseal : s.sealedHit l off bs.length = false) :
    (s.inbound l off bs).1 = s.lmemSet l (exchangeBase + off) bs := by
  by_cases hbs : bs = []
  · simp [State.inbound, hbs]
  · simp [State.inbound, hup, hbs, Nat.not_lt.2 h, hseal]

end

theorem inboundRefused_laneTx (s : State) (l : LaneId) (off : Nat) : LaneTx l s (s.inboundRefused l off) :=
  ((LaneOnly.lcount l s _ _).trans (.lfSet ..)).emit ..

/-- A refused access is counted and shown, answered with an error, and leaves the memory. -/
theorem inboundRefused_effect (s : State) (l : LaneId) (off : Nat) :
    ((s.inboundRefused l off).lane l).mem = (s.lane l).mem ∧
      (s.inboundRefused l off).lf l BRG_CNT_INB = satAdd (fldTop BRG_CNT_INB) (s.lf l BRG_CNT_INB) 1 ∧
      (s.inboundRefused l off).lf l BRG_INT_STAT_INB = 1 ∧ (s.inboundRefused l off).tx = ⟨.bridgeError, l.idx, off, [2]⟩ :: s.tx := by
  refine ⟨by simp [State.inboundRefused], ?_, ?_, by simp [State.inboundRefused]⟩
  · rw [State.inboundRefused, State.lf_emit, State.lf_lfSet_apart _ _ _ _ _ _ rfl, State.lf_lcount_same _ _ _ _ rfl]
  · exact (State.lf_emit ..).trans (State.lf_lfSet_same _ _ _ _ rfl)

/-- Whatever becomes of an inbound write, it concerns its lane and what is sent. -/
theorem inbound_laneTx (s : State) (l : LaneId) (off : Nat) (bs : List Byte) : LaneTx l s (s.inbound l off bs).1 := by
  unfold State.inbound
  split
  · exact (LaneOnly.refl l s).tx
  · split
    · exact inboundRefused_laneTx s l off
    · split
      · exact ((LaneOnly.lcount l s _ _).trans (.lfSet ..)).tx
      · exact (LaneOnly.lmemSet l s _ _).tx

theorem exec_inboundWrite_alone {s : State} {l : LaneId} {off : Nat} {bs : List Byte} (h : bs.length ≤ 64) :
    exec (.inboundWrite l off bs none) s = .next (s.inbound l off bs).1 := by
  show execInboundWrite l off bs none s = _
  rw [execInboundWrite, List.take_of_length_le h]

section
variable {s : State} {l : LaneId} {off : Nat} {bs : List Byte} (hup : s.linkUp l = true) (hone : 1 ≤ bs.length) (hlen : bs.length ≤ 64)
include hup hone hlen

theorem exec_inboundWrite_outside (h : exchangeSize < off + bs.length) :
    ∃ t, exec (.inboundWrite l off bs none) s = .next t ∧ (t.lane l).mem = (s.lane l).mem ∧
      t.lf l BRG_CNT_INB = satAdd (fldTop BRG_CNT_INB) (s.lf l BRG_CNT_INB) 1 ∧ t.lf l BRG_INT_STAT_INB = 1 ∧
      t.tx = ⟨.bridgeError, l.idx, off, [2]⟩ :: s.tx ∧ LaneOnly l { s with tx := t.tx } t := by
  obtain ⟨hmem, hcnt, hint, htx⟩ := inboundRefused_effect s l off
  rw [exec_inboundWrite_alone hlen, inbound_outside hup (List.ne_nil_of_length_pos hone) h]
  exact ⟨_, rfl, hmem, hcnt, hint, htx, inboundRefused_laneTx s l off⟩

theorem exec_inboundWrite_sealed (h : off + bs.length ≤ exchangeSize) (hseal : s.sealedHit l off bs.length = true) :
    ∃ t, exec (.inboundWrite l off bs none) s = .next t ∧ (t.lane l).mem = (s.lane l).mem ∧
      t.lf l XCH_CNT_SEAL = satAdd (fldTop XCH_CNT_SEAL) (s.lf l XCH_CNT_SEAL) (inboundWrites off bs.length) ∧
      t.lf l XCH_INT_STAT_SEAL = 1 ∧ LaneOnly l s t := by
  rw [exec_inboundWrite_alone hlen, inbound_sealed hup (List.ne_nil_of_length_pos hone) h hseal]
  refine ⟨_, rfl, by simp, ?_, State.lf_lfSet_same _ _ _ _ rfl, (LaneOnly.lcount l s _ _).trans (.lfSet ..)⟩
  rw [State.lf_lfSet_apart _ _ _ _ _ _ rfl, State.lf_lcount_same _ _ _ _ rfl]

omit hone in
theorem exec_inboundWrite_open (h : off + bs.length ≤ exchangeSize) (hseal : s.sealedHit l off bs.length = false) :
    ∃ t, exec (.inboundWrite l off bs none) s = .next t ∧ t.lmem l (exchangeBase + off) bs.length = bs ∧
      (∀ a, a < exchangeBase + off ∨ exchangeBase + off + bs.length ≤ a → t.lmem l a 1 = s.lmem l a 1) ∧
      (t.lane l).regs = (s.lane l).regs ∧ LaneOnly l s t := by
  rw [exec_inboundWrite_alone hlen, inbound_open hup h hseal]
  exact ⟨_, rfl, lmem_lmemSet_same .., fun a ha => lmem_lmemSet_out _ _ ha, by simp, LaneOnly.lmemSet ..⟩

/-- A store of a core to the exchange area in the same clock: what comes last stands whole in the words of both (R36). -/
theorem exec_inboundWrite_race (a : Nat) {cs : List Byte} (coreLast : Bool) (h : off + bs.length ≤ exchangeSize)
    (hseal : s.sealedHit l off bs.length = false) (hcs : cs.length ≤ 8) :
    exec (.inboundWrite l off bs (some (a, cs, coreLast))) s = .next
      (if coreLast then
        (s.lmemCells l (outsideWords (exchangeBase + off) bs (exchangeWrap a) cs.length)).lmemSet l (exchangeWrap a) cs
      else (s.lmemSet l (exchangeBase + off) bs).lmemCells l (outsideWords (exchangeWrap a) cs (exchangeBase + off) bs.length)) := by
  have hbs : bs ≠ [] := List.ne_nil_of_length_pos hone
  show execInboundWrite l off bs (some (a, cs, coreLast)) s = _
  simp only [execInboundWrite, List.take_of_length_le hlen, List.take_of_length_le hcs, supplied_of_linkUp hup, hup, hseal, h,
    inbound_open hup h hseal, exchangeWrap]
  cases coreLast <;> simp [hbs]

theorem exec_inboundWrite_coreRace {a : Nat} {cs : List Byte} (coreLast : Bool) (h : off + bs.length ≤ exchangeSize)
    (hseal : s.sealedHit l off bs.length = false) (hcs : cs.length ≤ 8) (hbase : exchangeBase ≤ a)
    (hend : a + cs.length ≤ exchangeBase + exchangeSize) :
    ∃ t, exec (.inboundWrite l off bs (some (a, cs, coreLast))) s = .next t ∧ (coreLast = true → t.lmem l a cs.length = cs) ∧
      (coreLast = false → t.lmem l (exchangeBase + off) bs.length = bs) ∧ LaneOnly l s t := by
  refine ⟨_, exec_inboundWrite_race hup hone hlen a coreLast h hseal hcs, ?_⟩
  cases coreLast with
  | true =>
    refine ⟨fun _ => ?_, nofun, (LaneOnly.lmemCells l s _).trans (.lmemSet ..)⟩
    cases cs with
    | nil => rfl
    | cons c cs =>
      rw [exchangeWrap_of_within hbase (by simp only [List.length_cons] at hend; omega)]
      exact lmem_lmemSet_same ..
  | false =>
    refine ⟨nofun, fun _ => ?_, (LaneOnly.lmemSet l s _ _).trans (.lmemCells ..)⟩
    exact (lmem_lmemCells_out _ _ outsideWords_apart).trans (lmem_lmemSet_same ..)

end

/-! ### What an inbound read does (R265, 01 R31) -/

theorem exec_inboundRead_within {s : State} {l : LaneId} {off n : Nat} (hup : s.linkUp l = true) (hn : n ≤ 64)
    (h : off + n ≤ exchangeSize) :
    exec (.inboundRead l off n) s = .next (s.emit .bridge l.idx off (s.lmem l (exchangeBase + off) n)) := by
  show execInboundRead l off n s = _
  rw [execInboundRead, hup, Nat.min_eq_left hn]
  exact if_neg (Nat.not_lt.2 h)

theorem exec_inboundRead_outside {s : State} {l : LaneId} {off n : Nat} (hup : s.linkUp l = true) (hn : n ≤ 64)
    (h : exchangeSize < off + n) : exec (.inboundRead l off n) s = .next (s.inboundRefused l off) := by
  show execInboundRead l off n s = _
  rw [execInboundRead, hup, Nat.min_eq_left hn]
  exact if_pos h

/-! ### An item for several lanes -/

theorem LaneTx.lanesOnly {l : LaneId} {s t : State} (h : LaneTx l s t) : LanesOnly { s with tx := t.tx } t := LaneOnly.lanesOnly h

theorem LaneTx.other {l k : LaneId} {s t : State} (h : LaneTx l s t) (hk : k ≠ l) : t.lane k = s.lane k := by
  rw [LaneOnly.other h hk]
  cases k <;> rfl

/-- `t` is `s` but for the lanes and what has been sent. -/
abbrev LanesTx (s t : State) : Prop := LanesOnly { s with tx := t.tx } t

theorem LanesTx.trans {s t u : State} (h : LanesTx s t) (g : LanesTx t u) : LanesTx s u := by
  unfold LanesTx LanesOnly at *
  rw [g, h]

theorem LanesTx.hf {s t : State} (h : LanesTx s t) (f : Fld) : t.hf f = s.hf f := by
  unfold LanesTx LanesOnly at h
  rw [h]
  rfl

theorem inboundAll_cons (l : LaneId) (ls : List LaneId) (s : State) (off : Nat) (bs : List Byte) :
    s.inboundAll (l :: ls) off bs = (s.inbound l off bs).1.inboundAll ls off bs := rfl

theorem inboundAll_lanesTx (ls : List LaneId) (s : State) (off : Nat) (bs : List Byte) : LanesTx s (s.inboundAll ls off bs) := by
  induction ls generalizing s with
  | nil => exact rfl
  | cons l ls ih => exact LanesTx.trans (inbound_laneTx s l off bs).lanesOnly (ih _)

theorem inboundAll_lane_unplaced {ls : List LaneId} {l : LaneId} (h : l ∉ ls) (s : State) (off : Nat) (bs : List Byte) :
    (s.inboundAll ls off bs).lane l = s.lane l := by
  induction ls generalizing s with
  | nil => rfl
  | cons k ls ih =>
    rw [List.mem_cons, not_or] at h
    exact (ih h.2 _).trans ((inbound_laneTx s k off bs).other h.1)

/-- A lane that is placed once holds the bytes written, where its own link is up and the bytes lie open within its area. -/
theorem inboundAll_lane_placed {ls : List LaneId} {l : LaneId} (hnodup : ls.Nodup) (hl : l ∈ ls) {s : State} {off : Nat}
    {bs : List Byte} (hup : s.linkUp l = true) (h : off + bs.length ≤ exchangeSize) (hseal : s.sealedHit l off bs.length = false) :
    (s.inboundAll ls off bs).lane l = (s.lmemSet l (exchangeBase + off) bs).lane l := by
  induction ls generalizing s with
  | nil => cases hl
  | cons k ls ih =>
    obtain ⟨hk, hls⟩ := List.nodup_cons.1 hnodup
    by_cases hkl : k = l
    · subst hkl
      rw [inboundAll_cons, inboundAll_lane_unplaced hk, inbound_open hup h hseal]
    · have htx := inbound_laneTx s k off bs
      have hlane : (s.inbound k off bs).1.lane l = s.lane l := htx.other (Ne.symm hkl)
      have hhub : (s.inbound k off bs).1.hub = s.hub := htx.lanesOnly.hub
      refine (ih hls ((List.mem_cons.1 hl).resolve_left (Ne.symm hkl)) ?_ ?_).trans ?_
      · rw [linkUp_congr hlane hhub, hup]
      · rw [sealedHit_congr hlane, hseal]
      · simp [State.lmemSet, hlane]

theorem nodup_pdeLanes (s : State) (c : Nat) : (s.pdeLanes c).Nodup := List.Nodup.filter _ (by decide)

theorem mem_pdeLanes {s : State} {c : Nat} {l : LaneId} : l ∈ s.pdeLanes c ↔ placeHas (s.hf (PDE_CFG_PLACE c)) l = true := by
  rw [State.pdeLanes, List.mem_filter]
  cases l <;> simp [lanes]

/-! ### The item of a cyclic input channel (R255, R256) -/

@[simp] theorem State.hf_cntAdd (s : State) (i j d : Nat) (f : Fld) : (s.cntAdd i j d).hf f = s.hf f := rfl

theorem chan_chanUpd_same (s : State) (c : Nat) (f : Chan → Chan) : (s.chanUpd c f).chan c = f (s.chan c) :=
  mapGet_mapSet_same ..

/-- A field of channel `c` apart from the count of superseded items and from the cause of a drop reads as before. -/
theorem hf_pdeSupersede_apart (s : State) (c : Nat) {f : Fld} (hcnt : (PDE_CNT_DROP_SUPERSEDED c).apart f = true)
    (hint : (PDE_INT_STAT_DROP c).apart f = true) : (s.pdeSupersede c).hf f = s.hf f := by
  rw [State.pdeSupersede, State.pdeInt, State.hf_cntAdd, State.hf_hfSet_apart _ _ _ _ hint, State.hf_hcount_apart _ _ _ _ hcnt]

theorem hf_pdeSupersede_count (s : State) (c : Nat) :
    (s.pdeSupersede c).hf (PDE_CNT_DROP_SUPERSEDED c) = satAdd 0xFFFF (s.hf (PDE_CNT_DROP_SUPERSEDED c)) 1 := by
  rw [State.pdeSupersede, State.pdeInt, State.hf_cntAdd, State.hf_hfSet_apart _ _ _ _ (by simp [Fld.apart, Fld.ok]),
    State.hf_hcount_same _ _ _ rfl]
  rfl

theorem pdeSupersede_lane (s : State) (c : Nat) (l : LaneId) : (s.pdeSupersede c).lane l = s.lane l := by
  simp [State.pdeSupersede, State.pdeInt]

/-- The state with an earlier item of channel `c` counted as superseded, if it held one. -/
def State.supersedeHeld (s : State) (c : Nat) : State := if (s.chan c).held.isSome then s.pdeSupersede c else s

theorem pdeItem_supersedeHeld (s : State) (c : Nat) (pl : List Byte) : (s.supersedeHeld c).pdeItem c pl = s.pdeItem c pl := by
  unfold State.supersedeHeld
  split
  · rw [State.pdeItem, hf_pdeSupersede_apart _ _ (by simp [Fld.apart, Fld.ok]) (by simp [Fld.apart, Fld.ok]),
      hf_pdeSupersede_apart _ _ (by simp [Fld.apart, Fld.ok]) (by simp [Fld.apart, Fld.ok]), State.pdeItem]
  · rfl

theorem supersedeHeld_lane (s : State) (c : Nat) (l : LaneId) : (s.supersedeHeld c).lane l = s.lane l := by
  unfold State.supersedeHeld
  split
  · exact pdeSupersede_lane s c l
  · rfl

theorem hf_supersedeHeld_count (s : State) (c : Nat) : (s.supersedeHeld c).hf (PDE_CNT_DROP_SUPERSEDED c) =
    if (s.chan c).held.isSome then satAdd 0xFFFF (s.hf (PDE_CNT_DROP_SUPERSEDED c)) 1 else s.hf (PDE_CNT_DROP_SUPERSEDED c) := by
  unfold State.supersedeHeld
  split
  · exact hf_pdeSupersede_count s c
  · rfl

/-- The copies of an item in the banks of the coming cycle. -/
def State.itemCopies (s : State) (c : Nat) (raw : List Byte) : State :=
  s.inboundAll (s.pdeLanes c) (s.pdeBank c (frameAdd s.hub.frame 1) + 16) (raw.take (s.hf (PDE_SIZE_SIZE c) - 16))

theorem itemCopies_lanesTx (s : State) (c : Nat) (raw : List Byte) : LanesTx s (s.itemCopies c raw) := inboundAll_lanesTx ..

/-- The whole record of an item that no Ethernet window selects goes to the lanes and becomes the item held (R255). -/
theorem exec_pdeItemArrive {s : State} {c : Nat} {raw : List Byte} (hs : s.hub.supplied = true) (hmode : s.hf (PDE_CFG_MODE c) = 1)
    (hstate : s.pdeState c = 2) (hkind : s.hf (PDE_SRC_KIND c) ≠ 1) :
    exec (.pdeItemArrive c raw) s = .next (((s.itemCopies c raw).supersedeHeld c).chanUpd c
      (fun x => { x with held := some (s.pdeItem c raw) })) := by
  have hitem : ((s.itemCopies c raw).supersedeHeld c).pdeItem c raw = s.pdeItem c raw := by
    rw [pdeItem_supersedeHeld, State.pdeItem, (itemCopies_lanesTx s c raw).hf, (itemCopies_lanesTx s c raw).hf, State.pdeItem]
  have hselect : s.pdeSelect c raw = some raw := if_neg hkind
  show execPdeItemArrive c raw s = _
  rw [execPdeItemArrive, hs, ← hitem]
  simp only [State.cyclicArrive, hmode, hstate, hselect]
  rfl

/-- The bank of the coming cycle goes by the parity of the hub's frame, also where the frame number wraps. -/
theorem pdeBank_coming (s : State) (c f : Nat) :
    s.pdeBank c (frameAdd f 1) = if (f + 1) % 2 = 0 then s.hf (PDE_BANK0 c) else s.hf (PDE_BANK1 c) := by
  have hparity : frameAdd f 1 % 2 = (f + 1) % 2 := by simp only [frameAdd, frameMod]; omega
  rw [State.pdeBank, hparity]

theorem itemCopies_lane_placed {s : State} {c : Nat} {raw : List Byte} {l : LaneId} {off : Nat} (hup : s.linkUp l = true)
    (hoff : off = s.pdeBank c (frameAdd s.hub.frame 1)) (hsize : raw.length + 16 ≤ s.hf (PDE_SIZE_SIZE c))
    (h : off + 16 + raw.length ≤ exchangeSize) (hseal : s.sealedHit l (off + 16) raw.length = false)
    (hplace : placeHas (s.hf (PDE_CFG_PLACE c)) l = true) :
    (s.itemCopies c raw).lane l = (s.lmemSet l (exchangeBase + (off + 16)) raw).lane l := by
  rw [State.itemCopies, List.take_of_length_le (by omega), ← hoff]
  exact inboundAll_lane_placed (nodup_pdeLanes s c) (mem_pdeLanes.2 hplace) hup h hseal

theorem itemCopies_lane_unplaced {s : State} {c : Nat} {l : LaneId} (raw : List Byte)
    (hplace : placeHas (s.hf (PDE_CFG_PLACE c)) l = false) : (s.itemCopies c raw).lane l = s.lane l :=
  inboundAll_lane_unplaced (fun hl => by simp [mem_pdeLanes, hplace] at hl) ..

theorem pdeItemArrive_effect {s : State} {l : LaneId} {c : Nat} {raw : List Byte} (hup : s.linkUp l = true)
    (hmode : s.hf (PDE_CFG_MODE c) = 1) (hstate : s.pdeState c = 2) (hkind : s.hf (PDE_SRC_KIND c) ≠ 1) :
    ∃ t, exec (.pdeItemArrive c raw) s = .next t ∧
      (t.chan c).held = some ⟨s.hf (PDE_SRC_KIND c), s.hf (PDE_SRC_PORT c), raw, crc32c raw⟩ ∧
      t.hf (PDE_CNT_DROP_SUPERSEDED c) =
        (if (s.chan c).held.isSome then satAdd 0xFFFF (s.hf (PDE_CNT_DROP_SUPERSEDED c)) 1 else s.hf (PDE_CNT_DROP_SUPERSEDED c)) ∧
      (∀ off, off = (if (s.hub.frame + 1) % 2 = 0 then s.hf (PDE_BANK0 c) else s.hf (PDE_BANK1 c)) →
        raw.length + 16 ≤ s.hf (PDE_SIZE_SIZE c) → off + 16 + raw.length ≤ exchangeSize →
        s.sealedHit l (off + 16) raw.length = false → placeHas (s.hf (PDE_CFG_PLACE c)) l = true →
        t.lmem l (exchangeBase + off + 16) raw.length = raw ∧ t.lmem l (exchangeBase + off) 16 = s.lmem l (exchangeBase + off) 16) ∧
      (placeHas (s.hf (PDE_CFG_PLACE c)) l = false → t.lane l = s.lane l) := by
  refine ⟨_, exec_pdeItemArrive (hubSupplied_of_linkUp hup) hmode hstate hkind, ?_, ?_, fun off hoff hsize h hseal hplace => ?_,
    fun hplace => ?_⟩
  · rw [chan_chanUpd_same, State.pdeItem]
  · have hcopies := itemCopies_lanesTx s c raw
    have hchan : (s.itemCopies c raw).chan c = s.chan c := by rw [State.chan, hcopies, State.chan]
    rw [State.hf_chanUpd, hf_supersedeHeld_count, hchan, hcopies.hf]
  · rw [State.lmem, State.lmem, State.chanUpd_lane, supersedeHeld_lane,
      itemCopies_lane_placed hup (hoff.trans (pdeBank_coming s c _).symm) hsize h hseal hplace]
    exact ⟨lmem_lmemSet_same s l _ raw, lmem_lmemSet_out s l (by omega)⟩
  · rw [State.chanUpd_lane, supersedeHeld_lane, itemCopies_lane_unplaced raw hplace]

/-- Lane A with its link up and one verify entry, whose banks of 32 bytes at the beginning of the exchange area are sealed. -/
def sealedBank : State :=
  let s := { State.reset with hub := { State.reset.hub with supplied := true } }
  let s := s.updLane .a (fun x => { x with supplied := true, xch := { x.xch with sealed := true } })
  let s := (s.lfSet .a BRG_STATUS_LINK_UP 1).lfSet .a XCH_VCOUNT 1
  s.lmemSet .a (s.vlist .a) (leBytes 8 0 ++ leBytes 4 32)

/-- A write of two bytes to a sealed bank is one discarded write. -/
theorem exec_inboundWrite_sealedBank :
    ∃ t, exec (.inboundWrite .a 30 [1, 2] none) sealedBank = .next t ∧ t.lf .a XCH_CNT_SEAL = 1 := by
  obtain ⟨t, he, -, hcnt, -⟩ := exec_inboundWrite_sealed (s := sealedBank) (l := .a) (off := 30) (bs := [1, 2]) (by decide +kernel)
    (by decide) (by decide) (by decide) (by decide +kernel)
  exact ⟨t, he, hcnt.trans (by decide +kernel)⟩

/-- Settles O25: the four things that an inbound write can meet, the read within and outside the area, and the copies of an item. -/
theorem cyclicItemsReachTheOpenBank : Obligations.CyclicItemsReachTheOpenBank := by
  unfold Obligations.CyclicItemsReachTheOpenBank
  refine fun s l hup => ⟨fun off bs hone hlen => ⟨?_, ?_, fun h hseal => ⟨?_, fun a cs coreLast hcs hbase hend => ?_⟩⟩,
    fun off n hn => ⟨?_, fun h => ?_⟩, fun c raw _ hmode hstate hkind => ?_⟩
  · exact exec_inboundWrite_outside hup hone hlen
  · exact exec_inboundWrite_sealed hup hone hlen
  · exact exec_inboundWrite_open hup hlen h hseal
  · exact exec_inboundWrite_coreRace hup hone hlen coreLast h hseal hcs hbase hend
  · exact exec_inboundRead_within hup hn
  · obtain ⟨hmem, -, hint, htx⟩ := inboundRefused_effect s l off
    exact ⟨_, exec_inboundRead_outside hup hn h, hint, htx, hmem⟩
  · exact pdeItemArrive_effect hup hmode hstate hkind

end Sys2Proof.Machine

/-! The tick unit: the hub's markers, hub loss, and the sync beats of the lanes (02 R53 to R57). -/

namespace Sys2Proof.Machine

-- One theorem after the other, as the model's tests: elaborated side by side they would exceed the check's memory limit.
set_option Elab.async false

/-! ### Markers (R55, R56) -/

/-- Lane `l` shows a marker's offset and remembers the marker. -/
def State.markerSeen (s : State) (l : LaneId) (offset : Int) : State :=
  let inWin := decide (offset.natAbs ≤ 10 * s.lf l TCK_SYNC_WIN)
  (s.lfSet l TCK_OFFSET_MARKER_OFS (ofInt 16 (clampInt 32767 offset))).tickUpd l (fun t => { t with
    markPrev := t.mark
    mark := ⟨if offset < 0 then frameAdd (s.frame l) 1 else s.frame l, inWin || decide (s.lf l TCK_STATUS_HUB_LOSS = 1), inWin⟩ })

/-- An accepted marker changes the length of the next cycle within `slew` (R56). -/
def State.markerAccept (s : State) (l : LaneId) (slew : Nat) (offset : Int) : State :=
  (s.tickUpd l (fun t => { t with nextAdj := clampInt slew (t.nextAdj + clampInt slew offset) })).lfSet l TCK_STATUS_MARKER_OK 1

theorem lf_markerSeen (s : State) (l : LaneId) (offset : Int) {f : Fld} (h : TCK_OFFSET_MARKER_OFS.apart f = true) :
    (s.markerSeen l offset).lf l f = s.lf l f := by
  rw [State.markerSeen, State.lf_tickUpd, State.lf_lfSet_apart _ _ _ _ _ _ h]

theorem nextAdj_markerSeen (s : State) (l : LaneId) (offset : Int) :
    ((s.markerSeen l offset).lane l).tick.nextAdj = (s.lane l).tick.nextAdj := by simp [State.markerSeen]

theorem LaneOnly.markerSeen (l : LaneId) (s : State) (offset : Int) : LaneOnly l s (s.markerSeen l offset) := by
  unfold State.markerSeen
  exact (LaneOnly.lfSet l s _ _).trans (.tickUpd ..)

theorem LaneOnly.markerAccept (l : LaneId) (s : State) (slew : Nat) (offset : Int) : LaneOnly l s (s.markerAccept l slew offset) :=
  (LaneOnly.tickUpd l s _).trans (.lfSet ..)

/-- A marker that reaches a ticking lane is accepted or rejected. -/
theorem exec_tickMarker {s : State} {l : LaneId} (offset : Int) (hs : s.ticking l = true) : exec (.tickMarker l offset) s =
    .next (if offset.natAbs ≤ 10 * s.lf l TCK_SYNC_WIN ∨ s.lf l TCK_STATUS_HUB_LOSS = 1 then
      (s.markerSeen l offset).markerAccept l (10 * s.lf l TCK_SYNC_SLEW) offset
    else (s.markerSeen l offset).markerReject l (ofInt 32 offset)) := by
  have hslew : (s.markerSeen l offset).lf l TCK_SYNC_SLEW = s.lf l TCK_SYNC_SLEW := lf_markerSeen s l offset rfl
  show execTickMarker l offset s = _
  rw [← hslew, execTickMarker, if_neg (by simp [hs])]
  by_cases h : offset.natAbs ≤ 10 * s.lf l TCK_SYNC_WIN ∨ s.lf l TCK_STATUS_HUB_LOSS = 1
  · rw [if_pos h]
    exact if_pos (by simpa using h)
  · rw [if_neg h]
    exact if_neg (by simpa using h)

theorem lf_markerReject_apart (s : State) (l : LaneId) (offset : Nat) {f : Fld} (hcnt : TCK_CNT_MREJ.apart f = true)
    (hint : TCK_INT_STAT_MARKER_REJ.apart f = true) (hok : TCK_STATUS_MARKER_OK.apart f = true) (hevt : eventReg f.reg = false) :
    (s.markerReject l offset).lf l f = s.lf l f := by
  rw [State.markerReject, State.lf_laneEvt _ _ _ _ _ _ hevt, State.lf_lfSet_apart _ _ _ _ _ _ hok,
    State.lf_lfSet_apart _ _ _ _ _ _ hint, State.lf_lcount_apart _ _ _ _ _ _ hcnt]

/-- A rejected marker is counted and raises its interrupt, and MARKER_OK is cleared. -/
theorem markerReject_shows (s : State) (l : LaneId) (offset : Nat) : (s.markerReject l offset).lf l TCK_STATUS_MARKER_OK = 0 ∧
    (s.markerReject l offset).lf l TCK_CNT_MREJ = satAdd 0xFFFF (s.lf l TCK_CNT_MREJ) 1 ∧
    (s.markerReject l offset).lf l TCK_INT_STAT_MARKER_REJ = 1 := by
  rw [State.markerReject, State.lf_laneEvt _ _ _ _ _ _ rfl, State.lf_laneEvt _ _ _ _ _ _ rfl, State.lf_laneEvt _ _ _ _ _ _ rfl]
  refine ⟨State.lf_lfSet_same _ _ _ _ rfl, ?_, ?_⟩
  · rw [State.lf_lfSet_apart _ _ _ _ _ _ rfl, State.lf_lfSet_apart _ _ _ _ _ _ rfl, State.lf_lcount_same _ _ _ _ rfl]
    rfl
  · rw [State.lf_lfSet_apart _ _ _ _ _ _ rfl, State.lf_lfSet_same _ _ _ _ rfl]
    rfl

theorem LaneEvt.laneEvt {l : LaneId} {s t : State} (h : LaneEvt l s t) (code : Nat) (parts : List (Nat × Nat)) :
    LaneEvt l s (t.laneEvt l code parts) := h.trans ((laneEvt_eventOnly t l code parts).inLane l)

theorem markerReject_laneEvt (s : State) (l : LaneId) (offset : Nat) : LaneEvt l s (s.markerReject l offset) :=
  (((LaneOnly.lcount l s _ _).trans (.lfSet ..)).trans (.lfSet ..)).evt.laneEvt _ _

theorem nextAdj_markerReject (s : State) (l : LaneId) (offset : Nat) :
    ((s.markerReject l offset).lane l).tick.nextAdj = (s.lane l).tick.nextAdj := by simp [State.markerReject]

/-- Settles O1: a marker is accepted or rejected, and what either leaves of the lane's registers. -/
theorem tickMarkerAcceptedOrRejected : Obligations.TickMarkerAcceptedOrRejected := by
  unfold Obligations.TickMarkerAcceptedOrRejected
  intro s l offset hs
  refine ⟨fun hok => ?_, fun hwin hloss => ?_⟩
  · refine ⟨_, (exec_tickMarker offset hs).trans (by rw [if_pos hok]), State.lf_lfSet_same _ _ _ _ rfl, ?_, ?_, ?_,
      (LaneOnly.markerSeen l s offset).trans (.markerAccept ..)⟩
    · simp [State.markerAccept, nextAdj_markerSeen]
    · rw [State.markerAccept, State.lf_lfSet_apart _ _ _ _ _ _ rfl, State.lf_tickUpd, lf_markerSeen _ _ _ rfl]
    · rw [State.markerAccept, State.lf_lfSet_apart _ _ _ _ _ _ rfl, State.lf_tickUpd, lf_markerSeen _ _ _ rfl]
  · obtain ⟨hok, hcnt, hint⟩ := markerReject_shows (s.markerSeen l offset) l (ofInt 32 offset)
    rw [lf_markerSeen _ _ _ rfl] at hcnt
    refine ⟨_, (exec_tickMarker offset hs).trans (by rw [if_neg (by omega)]), hok, hcnt, hint, ?_, ?_,
      (LaneOnly.markerSeen l s offset).evt.trans (markerReject_laneEvt ..)⟩
    · rw [nextAdj_markerReject, nextAdj_markerSeen]
    · rw [lf_markerReject_apart _ _ _ rfl rfl rfl rfl, lf_markerSeen _ _ _ rfl]

/-! ### Thresholds (R54, R57) -/

/-- What entering hub loss leaves, once the run of rejected markers has reached its limit. -/
theorem exec_hubLossEnter {s : State} {l : LaneId} (hs : s.ticking l = true) (hlim : s.lf l TCK_SYNC_LOSS_LIM ≤ (s.lane l).tick.rejRun)
    (hrun : (s.lane l).tick.rejRun ≠ 0) (hloss : s.lf l TCK_STATUS_HUB_LOSS = 0) :
    ∃ t, exec (.hubLossEnter l) s = .next t ∧ t.lf l TCK_STATUS_HUB_LOSS = 1 ∧ t.lf l TCK_INT_STAT_HUB_LOSS = 1 ∧
      t.lf l TCK_FRAME = s.lf l TCK_FRAME ∧ LaneEvt l s t := by
  refine ⟨_, show execHubLossEnter l s = _ by rw [execHubLossEnter, if_pos hs, State.hubLossEnter, if_pos ⟨hlim, hrun, hloss⟩],
    ?_, ?_, ?_, (((LaneOnly.lfSet l s _ _).trans (.lfSet ..)).trans (.tickUpd ..)).evt.laneEvt _ _⟩
  · rw [State.lf_laneEvt _ _ _ _ _ _ rfl, State.lf_tickUpd, State.lf_lfSet_apart _ _ _ _ _ _ rfl, State.lf_lfSet_same _ _ _ _ rfl]
    rfl
  · rw [State.lf_laneEvt _ _ _ _ _ _ rfl, State.lf_tickUpd, State.lf_lfSet_same _ _ _ _ rfl]
    rfl
  · rw [State.lf_laneEvt _ _ _ _ _ _ rfl, State.lf_tickUpd, State.lf_lfSet_apart _ _ _ _ _ _ rfl, State.lf_lfSet_apart _ _ _ _ _ _ rfl]

/-- What leaving hub loss leaves, once the run of markers in the window has reached 8. -/
theorem exec_hubLossLeave {s : State} {l : LaneId} (hs : s.ticking l = true) (hrun : 8 ≤ (s.lane l).tick.inRun)
    (hloss : s.lf l TCK_STATUS_HUB_LOSS = 1) :
    ∃ t, exec (.hubLossLeave l) s = .next t ∧ t.lf l TCK_STATUS_HUB_LOSS = 0 ∧ t.lf l TCK_FRAME = s.lf l TCK_FRAME ∧ LaneEvt l s t := by
  refine ⟨_, show execHubLossLeave l s = _ by rw [execHubLossLeave, if_pos hs, State.hubLossLeave, if_pos ⟨hrun, hloss⟩],
    ?_, ?_, ((LaneOnly.lfSet l s _ _).trans (.tickUpd ..)).evt.laneEvt _ _⟩
  · rw [State.lf_laneEvt _ _ _ _ _ _ rfl, State.lf_tickUpd, State.lf_lfSet_same _ _ _ _ rfl]
    rfl
  · rw [State.lf_laneEvt _ _ _ _ _ _ rfl, State.lf_tickUpd, State.lf_lfSet_apart _ _ _ _ _ _ rfl]

section
variable {s : State} {l : LaneId} (hbeat : 2 ≤ (s.lane l).tick.beatOut) (hstep : s.lf l TCK_STATUS_OUT_OF_STEP = 0)
include hbeat hstep

/-- The state that follows when a lane falls out of step. -/
theorem outOfStep_eq : s.outOfStep l = ((s.lfSet l TCK_STATUS_OUT_OF_STEP 1).withhold l 8).laneEvt l 0x1004
    [(1, l.idx), (4, ofInt 32 (toInt 16 (((s.lfSet l TCK_STATUS_OUT_OF_STEP 1).withhold l 8).lf l TCK_OFFSET_MEDIAN_OFS)))] :=
  if_pos ⟨hbeat, hstep⟩

/-- A lane out of step shows it and withholds its images. -/
theorem outOfStep_shows : (s.outOfStep l).lf l TCK_STATUS_OUT_OF_STEP = 1 ∧ ((s.outOfStep l).lane l).rt.withhold = true := by
  rw [outOfStep_eq hbeat hstep]
  refine ⟨?_, by simp [State.withhold]⟩
  rw [State.lf_laneEvt _ _ _ _ _ _ rfl, State.lf_withhold, State.lf_lfSet_same _ _ _ _ rfl]
  rfl

theorem outOfStep_frame : (s.outOfStep l).lf l TCK_FRAME = s.lf l TCK_FRAME := by
  rw [outOfStep_eq hbeat hstep, State.lf_laneEvt _ _ _ _ _ _ rfl, State.lf_withhold, State.lf_lfSet_apart _ _ _ _ _ _ rfl]

theorem outOfStep_laneEvt : LaneEvt l s (s.outOfStep l) := by
  rw [outOfStep_eq hbeat hstep]
  exact ((LaneOnly.lfSet l s _ _).trans (.withhold ..)).evt.laneEvt _ _

end

/-- Settles O2: each threshold's command acts on the lane alone, but for the event that it records. -/
theorem tickThresholdsAct : Obligations.TickThresholdsAct := by
  unfold Obligations.TickThresholdsAct
  intro s l hs
  refine ⟨exec_hubLossEnter hs, exec_hubLossLeave hs, fun hbeat hstep => ?_⟩
  obtain ⟨hout, hwith⟩ := outOfStep_shows hbeat hstep
  exact ⟨_, show execLaneOutOfStep l s = _ by rw [execLaneOutOfStep, if_pos hs], hout, hwith, outOfStep_frame hbeat hstep,
    outOfStep_laneEvt hbeat hstep⟩

/-! ### Sync beats (R53, R54) -/

/-- Whether or not the lane falls out of step, its local time and its run of beats stand. -/
theorem outOfStep_tick (s : State) (l : LaneId) : ((s.outOfStep l).lane l).tick = (s.lane l).tick := by
  unfold State.outOfStep
  split
  · simp
  · rfl

/-- The beat of neighbour `k` relative to the own one, less the link delay, if it came and counts. -/
def State.beatNear (s : State) (k : LaneId) (t : Option Int) (delay : Nat) : List Int :=
  if s.beatCounts k then t.toList.map (fun x => x - (delay : Int)) else []

/-- The correction of lane `l` at a beat (R53). -/
def State.beatShift (s : State) (l : LaneId) (p q : Option Int) : Int :=
  beatMedian (s.beatNear l.prev p (s.lf l XCH_LINK_DELAY_PREV) ++ s.beatNear l.next q (s.lf l XCH_LINK_DELAY_NEXT))

/-- A lane corrected by `m` at a beat: its local time, and its run of beats more than 2 µs off. -/
def State.beatTake (s : State) (l : LaneId) (m : Int) : State :=
  ((s.sendBoth l 1 0 []).lfSet l TCK_OFFSET_MEDIAN_OFS (ofInt 16 (clampInt 32767 (-m)))).tickUpd l (fun t => { t with
    adj := t.adj + m, beatOut := if decide (2000 < m.natAbs) then t.beatOut + 1 else 0 })

theorem beatCounts_sendBoth (s : State) (l k : LaneId) (type layout : Nat) (payload : List Byte) :
    (s.sendBoth l type layout payload).beatCounts k = s.beatCounts k := by cases k <;> rfl

theorem lf_sendBoth (s : State) (l k : LaneId) (type layout : Nat) (payload : List Byte) (f : Fld) :
    (s.sendBoth l type layout payload).lf k f = s.lf k f := by simp [State.sendBoth]

theorem beatShift_sendBoth (s : State) (l : LaneId) (type layout : Nat) (payload : List Byte) (p q : Option Int) :
    (s.sendBoth l type layout payload).beatShift l p q = s.beatShift l p q := by
  simp only [State.beatShift, State.beatNear, beatCounts_sendBoth, lf_sendBoth]

theorem exec_syncBeat {s : State} {l : LaneId} (hs : s.ticking l = true) (p q : Option Int) :
    exec (.syncBeat l p q) s = .next ((s.beatTake l (s.beatShift l p q)).outOfStep l) := by
  show execSyncBeat l p q s = _
  rw [execSyncBeat, hs, ← beatShift_sendBoth s l 1 0 []]
  rfl

theorem beatTake_tick (s : State) (l : LaneId) (m : Int) : ((s.beatTake l m).lane l).tick =
    { (s.lane l).tick with
      adj := (s.lane l).tick.adj + m, beatOut := if 2000 < m.natAbs then (s.lane l).tick.beatOut + 1 else 0 } := by
  simp [State.beatTake, State.sendBoth]

theorem beatTake_step (s : State) (l : LaneId) (m : Int) :
    (s.beatTake l m).lf l TCK_STATUS_OUT_OF_STEP = s.lf l TCK_STATUS_OUT_OF_STEP := by
  rw [State.beatTake, State.lf_tickUpd, State.lf_lfSet_apart _ _ _ _ _ _ rfl, lf_sendBoth]

/-- A beat corrects the lane's local time by the step of R53. -/
theorem adj_syncBeat (s : State) (l : LaneId) (m : Int) :
    (((s.beatTake l m).outOfStep l).lane l).tick.adj = (s.lane l).tick.adj + m := by
  rw [outOfStep_tick, beatTake_tick]

/-- A beat within 2 µs ends the run of beats off the median. -/
theorem beatOut_syncBeat_near (s : State) (l : LaneId) {m : Int} (h : m.natAbs ≤ 2000) :
    (((s.beatTake l m).outOfStep l).lane l).tick.beatOut = 0 := by
  rw [outOfStep_tick, beatTake_tick, if_neg (by omega)]

/-- A second consecutive beat more than 2 µs off puts the lane out of step (R54). -/
theorem syncBeat_far {s : State} {l : LaneId} {m : Int} (h : 2000 < m.natAbs) (hbeat : 1 ≤ (s.lane l).tick.beatOut)
    (hstep : s.lf l TCK_STATUS_OUT_OF_STEP = 0) : ((s.beatTake l m).outOfStep l).lf l TCK_STATUS_OUT_OF_STEP = 1 ∧
      (((s.beatTake l m).outOfStep l).lane l).rt.withhold = true := by
  refine outOfStep_shows ?_ ((beatTake_step s l m).trans hstep)
  rw [beatTake_tick, if_pos h]
  exact Nat.succ_le_succ hbeat

theorem beatNear_some {s : State} {k : LaneId} (h : s.beatCounts k = true) (x : Int) (delay : Nat) :
    s.beatNear k (some x) delay = [x - (delay : Int)] := if_pos h

@[simp] theorem beatNear_none (s : State) (k : LaneId) (delay : Nat) : s.beatNear k none delay = [] := ite_self _

/-- Settles O3: the correction is the median of the beats that count, and two beats far off in a row act as R54 says. -/
theorem syncBeatCorrectsToMedian : Obligations.SyncBeatCorrectsToMedian := by
  unfold Obligations.SyncBeatCorrectsToMedian
  intro s l p q hs
  refine ⟨fun hprev hnext => ?_, fun hprev => ?_, fun hnext => ?_, ?_⟩
  · have hm : s.beatShift l (some p) (some q) =
        median3 0 (p - (s.lf l XCH_LINK_DELAY_PREV : Int)) (q - (s.lf l XCH_LINK_DELAY_NEXT : Int)) := by
      rw [State.beatShift, beatNear_some hprev, beatNear_some hnext]
      rfl
    rw [← hm]
    exact ⟨_, exec_syncBeat hs _ _, adj_syncBeat .., beatOut_syncBeat_near s l, syncBeat_far⟩
  · have hm : s.beatShift l (some p) none = (p - (s.lf l XCH_LINK_DELAY_PREV : Int)) / 2 := by
      rw [State.beatShift, beatNear_some hprev, beatNear_none]
      rfl
    exact ⟨_, exec_syncBeat hs _ _, (adj_syncBeat ..).trans (by rw [hm])⟩
  · have hm : s.beatShift l none (some q) = (q - (s.lf l XCH_LINK_DELAY_NEXT : Int)) / 2 := by
      rw [State.beatShift, beatNear_some hnext, beatNear_none]
      rfl
    exact ⟨_, exec_syncBeat hs _ _, (adj_syncBeat ..).trans (by rw [hm])⟩
  · have hm : s.beatShift l none none = 0 := by
      rw [State.beatShift, beatNear_none, beatNear_none]
      rfl
    exact ⟨_, exec_syncBeat hs _ _, (adj_syncBeat ..).trans (by rw [hm, Int.add_zero])⟩

end Sys2Proof.Machine

/-! The registers that a core of a lane writes and reads in its tick and exchange units: class-done bits, the low half of the frame
counter, and the count of the verify list (02 R78, R79; 04 R116). -/

namespace Sys2Proof.Machine

-- One theorem after the other, as the model's tests: elaborated side by side they would exceed the check's memory limit.
set_option Elab.async false

/-! ### The low half of the frame counter (R79) -/

/-- The row of TCK_FRAME: a counter of 48 bits in a register of 8 bytes. -/
def tckFrameRow : RegRow := ⟨0x40000008, 0x0, 1, 0x0, 1, 8, .lane, 0x0, 0x0, false, [⟨47, 0, .ro⟩]⟩

theorem regAt_tckFrame : ∀ i < 4, regAt (TCK_FRAME.reg + i) = some (TCK_FRAME.reg, tckFrameRow) := by decide +kernel

/-- Lane `l` holds the upper half of its frame counter for a later load. -/
def State.captureFrame (s : State) (l : LaneId) : State := s.tickUpd l (fun t => { t with frameHi := s.frame l / 2 ^ 32 })

theorem regLoad_tckFrame_low (s : State) (l : LaneId) (core : Nat) :
    s.regLoad l core 4 TCK_FRAME.reg 4 = (s.captureFrame l, leBytes 4 (s.frame l)) := by
  rw [State.regLoad, regAt_tckFrame 0 (by decide)]
  · simp [tckFrameRow, State.regLoad, State.captureFrame, State.tickUpd]
  · omega

theorem localLoad_tckFrame_low (s : State) (l : LaneId) (core pc rd : Nat) (signed : Bool) :
    s.localLoad l core pc TCK_FRAME.reg 4 rd signed = (s.captureFrame l).coreLoad l core rd (leBytes 4 (s.frame l)) signed := by
  have hall : (List.range 4).all (fun i => (regAt (TCK_FRAME.reg + i)).isSome) = true := by
    rw [List.all_eq_true]
    intro i hi
    rw [regAt_tckFrame i (List.mem_range.1 hi)]
    rfl
  rw [State.localLoad, hall, regLoad_tckFrame_low]
  rfl

/-- The register that a load writes, x0 reading as 0. -/
theorem xReg_xSet (k : CoreState) (r : Nat) (v : Word) : xReg (xSet k r v) r = if r = 0 then 0 else v := by
  split
  case isTrue h => simp [xReg, h]
  case isFalse h => exact xReg_xSet_same k v h

theorem xReg_coreLoad (s : State) (l : LaneId) (core rd : Nat) (bs : List Byte) (signed : Bool) :
    xReg ((s.coreLoad l core rd bs signed).core l core) rd = if rd = 0 then 0 else loadWord bs signed := by
  rw [State.coreLoad, State.core_coreSet_same, xReg_xSet]

/-- A state that differs in one core holds the lane's registers. -/
theorem CoreOnly.regs {s u : State} {l : LaneId} {core : Nat} (h : CoreOnly l core s u) : (u.lane l).regs = (s.lane l).regs := by
  rcases h with rfl | ⟨k, rfl⟩
  · rfl
  · exact State.coreSet_lane_regs ..

theorem exec_tckFrameLowRead {s : State} {l : LaneId} {core : Nat} {who : Runner} (rd : Nat) (hup : s.coreUp l core = true)
    (h : s.lets l core TCK_FRAME.reg 4 false who = true) :
    ∃ t, exec (.tckFrameLowRead l core rd who) s = .next t ∧
      xReg (t.core l core) rd = (if rd = 0 then 0 else BitVec.ofNat 64 (s.lf l TCK_FRAME % 2 ^ 32)) ∧
      (t.lane l).tick.frameHi = s.lf l TCK_FRAME / 2 ^ 32 ∧ (t.lane l).regs = (s.lane l).regs := by
  obtain ⟨u, hu, he⟩ := guarded_of_lets (pc := 0) h (fun s => s.localLoad l core 0 TCK_FRAME.reg 4 rd false)
  have hframe : u.frame l = s.lf l TCK_FRAME := State.lf_congr hu.regs _
  refine ⟨_, show execTckFrameLowRead l core rd who s = _ by rw [execTckFrameLowRead, if_pos hup, he, localLoad_tckFrame_low], ?_, ?_, ?_⟩
  · rw [xReg_coreLoad, loadWord_leBytes_four, hframe]
  · simp [State.coreLoad, State.captureFrame, hframe]
  · simp [State.coreLoad, State.captureFrame, hu.regs]

/-! ### The count of the verify list (R116) -/

/-- Lane `l` as a new count of the verify list will have it, for the check of the list. -/
def State.withCount (s : State) (l : LaneId) (v : Nat) : State :=
  (s.lfSet l XCH_VCOUNT v).lregSet l XCH_VLIST.reg (BitVec.ofNat 64 (s.comingReg l XCH_VLIST.reg))

/-- In CONFIGURE a count up to 256 has the list judged and its volume shown, and comes into force at the next edge; a greater one is
ignored. -/
theorem xchWrite_vcount {s : State} {l : LaneId} (v : Nat) (hmode : s.laneMode l = .configure) : s.xchWrite l XCH_VCOUNT.reg v =
    if 256 < v then s else
      ((s.lfSet l XCH_STATUS_VLIST_ERR (b2n (vlistBad ((s.withCount l v).ventries l)))).lfSet l XCH_VOLUME
        (min (((s.withCount l v).ventries l).map VEntry.size).sum 0x1FFFFF)).setDueReg l XCH_VCOUNT.reg v := by
  have hopen : s.xchOpen l = true := by simp [State.xchOpen, hmode]
  rw [State.xchWrite, hopen]
  rfl

theorem exec_xchVcountWrite {s : State} {l : LaneId} {v : Nat} (hs : (s.lane l).supplied = true) (hv : v < 512) :
    exec (.xchVcountWrite l 4 v) s = .next (s.xchWrite l XCH_VCOUNT.reg v) := by
  show execXchVcountWrite l 4 v s = _
  rw [execXchVcountWrite, coreUp_of hs (by omega)]
  exact if_pos (by simpa using hv)

@[simp] theorem State.lf_setDueReg (s : State) (l k : LaneId) (reg v : Nat) (f : Fld) : (s.setDueReg l reg v).lf k f = s.lf k f :=
  State.lf_congr (by cases l <;> cases k <;> rfl) f

theorem mapFind_setDueReg (s : State) (l : LaneId) (reg v : Nat) : mapFind ((s.setDueReg l reg v).lane l).tick.dueRegs reg = some v := by
  simp [State.setDueReg]

/-- A flag fits a field of one bit. -/
theorem b2n_mod_two (b : Bool) : b2n b % 2 = b2n b := by cases b <;> rfl

theorem xchVcountWrite_judged {s : State} {l : LaneId} {v : Nat} (hs : (s.lane l).supplied = true) (hv : v ≤ 256)
    (hmode : s.laneMode l = .configure) :
    ∃ t, exec (.xchVcountWrite l 4 v) s = .next t ∧ mapFind (t.lane l).tick.dueRegs XCH_VCOUNT.reg = some v ∧
      t.lf l XCH_STATUS_VLIST_ERR = b2n (vlistBad ((s.withCount l v).ventries l)) := by
  refine ⟨_, by rw [exec_xchVcountWrite hs (by omega), xchWrite_vcount v hmode, if_neg (by omega)], mapFind_setDueReg .., ?_⟩
  rw [State.lf_setDueReg, State.lf_lfSet_apart _ _ _ _ _ _ rfl, State.lf_lfSet_same _ _ _ _ rfl]
  exact b2n_mod_two _

theorem exec_tckClsDoneWrite {s : State} {l : LaneId} (hs : (s.lane l).supplied = true) (w : Word) :
    exec (.tckClsDoneWrite l w) s = .next (s.lfSet l TCK_CLS_DONE (nOr (s.lf l TCK_CLS_DONE) w.toNat)) := if_pos hs

/-- Settles O4: the write of the class-done bits, the load that captures the upper half of the frame counter, and the count of the
verify list within and above its range. -/
theorem tickAndListRegisters : Obligations.TickAndListRegisters := by
  unfold Obligations.TickAndListRegisters
  refine fun s l hs => ⟨fun w => ⟨_, exec_tckClsDoneWrite hs w, State.lf_lfSet_same _ _ _ _ rfl, LaneOnly.lfSet ..⟩,
    fun core rd who hc h => exec_tckFrameLowRead rd (coreUp_of hs hc) h, fun v hv hmode => xchVcountWrite_judged hs hv hmode,
    fun v hv hlt hmode => ?_⟩
  rw [exec_xchVcountWrite hs hlt, xchWrite_vcount v hmode, if_pos hv]

end Sys2Proof.Machine

/-! What the work of a cycle leaves of a lane's tick unit, its mode registers and the settings of its exchange unit (02 R60, R61). -/

namespace Sys2Proof.Machine

-- One theorem after the other, as the model's tests: elaborated side by side they would exceed the check's memory limit.
set_option Elab.async false

/-- A register of the tick unit, a mode register, or a setting of the exchange unit. -/
def settingReg (a : Nat) : Bool := decide (a < 0x40010000) || (decide (0x40030000 ≤ a) && decide (a < 0x40030030))

/-- `t` has the settings, the stop of the tasks and the seal of lane `l` as in `s`, and with `quiet` nothing has been sent. -/
structure SettingKept (quiet : Bool) (l : LaneId) (s t : State) : Prop where
  reg : ∀ a, settingReg a = true → t.lreg l a = s.lreg l a
  stopped : (t.lane l).tick.stopped = (s.lane l).tick.stopped
  sealed : (t.lane l).xch.sealed = (s.lane l).xch.sealed
  tx : quiet = true → t.tx = s.tx

theorem eventReg_of_settingReg {a : Nat} (h : settingReg a = true) : eventReg a = false := by
  simp only [settingReg, eventReg, Bool.or_eq_true, Bool.and_eq_true, decide_eq_true_eq, Bool.or_eq_false_iff, beq_eq_false_iff_ne] at h ⊢
  omega

namespace SettingKept

variable {q : Bool} {l : LaneId} {s t u : State}

theorem refl (q : Bool) (l : LaneId) (s : State) : SettingKept q l s s := ⟨fun _ _ => rfl, rfl, rfl, fun _ => rfl⟩

theorem trans (h : SettingKept q l s t) (g : SettingKept q l t u) : SettingKept q l s u :=
  ⟨fun a ha => (g.reg a ha).trans (h.reg a ha), g.stopped.trans h.stopped, g.sealed.trans h.sealed, fun hq => (g.tx hq).trans (h.tx hq)⟩

theorem lf (h : SettingKept q l s t) (f : Fld) (hf : settingReg f.reg = true := by rfl) : t.lf l f = s.lf l f := by
  rw [State.lf, h.reg _ hf, State.lf]

theorem ite {c : Prop} [Decidable c] (h : c → SettingKept q l s t) (g : ¬c → SettingKept q l s u) :
    SettingKept q l s (if c then t else u) := by
  split
  · exact h ‹_›
  · exact g ‹_›

theorem foldl {α : Type} {f : State → α → State} (hf : ∀ {t x}, SettingKept q l s t → SettingKept q l s (f t x)) {xs : List α}
    (h : SettingKept q l s t) : SettingKept q l s (xs.foldl f t) := by
  induction xs generalizing t with
  | nil => exact h
  | cons x xs ih => exact ih (hf h)

/-- What leaves the lane and sends nothing. -/
theorem of_lane (h : SettingKept q l s t) (hl : u.lane l = t.lane l) (htx : u.tx = t.tx) : SettingKept q l s u :=
  h.trans ⟨fun a _ => by rw [State.lreg, hl, State.lreg], by rw [hl], by rw [hl], fun _ => htx⟩

theorem events (h : SettingKept q l s t) (he : EventOnly t u) : SettingKept q l s u :=
  h.trans ⟨fun a ha => he.reg l a (eventReg_of_settingReg ha), by rw [he.lane l], by rw [he.lane l], fun _ => he.tx⟩

theorem laneEvt {k : LaneId} {code : Nat} {parts : List (Nat × Nat)} (h : SettingKept q l s t) :
    SettingKept q l s (t.laneEvt k code parts) := h.events (laneEvt_eventOnly ..)

theorem supEvt {code : Nat} {parts : List (Nat × Nat)} (h : SettingKept q l s t) : SettingKept q l s (t.supEvt code parts) :=
  h.events (supEvt_eventOnly ..)

theorem lfSet {k : LaneId} {f : Fld} {x : Nat} (h : SettingKept q l s t) (hf : settingReg f.reg = false := by rfl) :
    SettingKept q l s (t.lfSet k f x) := by
  refine h.trans ⟨fun a ha => State.lreg_lregSet_other _ _ _ _ ?_, by simp, by simp, fun _ => by simp⟩
  rintro rfl
  rw [hf] at ha
  cases ha

theorem lcount {k : LaneId} {f : Fld} {d : Nat} (h : SettingKept q l s t) (hf : settingReg f.reg = false := by rfl) :
    SettingKept q l s (t.lcount k f d) := h.lfSet hf

/-- A change of a lane outside its registers, the stop of its tasks and its seal. -/
theorem updLane {k : LaneId} {f : Lane → Lane} (h : SettingKept q l s t) (hregs : ∀ x, (f x).regs = x.regs := by exact fun _ => rfl)
    (hstop : ∀ x, (f x).tick.stopped = x.tick.stopped := by exact fun _ => rfl)
    (hseal : ∀ x, (f x).xch.sealed = x.xch.sealed := by exact fun _ => rfl) : SettingKept q l s (t.updLane k f) := by
  by_cases hk : l = k
  · subst hk
    exact h.trans ⟨fun a _ => by simp [State.lreg, hregs], by simp [hstop], by simp [hseal], fun _ => by simp⟩
  · exact h.of_lane (by simp [hk]) (by simp)

theorem coreSet {k : LaneId} {c : Nat} {x : CoreState} (h : SettingKept q l s t) : SettingKept q l s (t.coreSet k c x) := h.updLane

theorem taskSet {k : LaneId} {n : Nat} {x : TaskRt} (h : SettingKept q l s t) : SettingKept q l s (t.taskSet k n x) := h.updLane

theorem lmemSet {k : LaneId} {a : Nat} {bs : List Byte} (h : SettingKept q l s t) : SettingKept q l s (t.lmemSet k a bs) := h.updLane

theorem withhold {k : LaneId} {c : Nat} (h : SettingKept q l s t) : SettingKept q l s (t.withhold k c) := h.updLane

theorem cntAdd {i j d : Nat} (h : SettingKept q l s t) : SettingKept q l s (t.cntAdd i j d) := h.of_lane (by simp) (by simp)

theorem cntSet {i j v : Nat} (h : SettingKept q l s t) : SettingKept q l s (t.cntSet i j v) := h.of_lane (by simp) (by simp)

theorem setRack {r : Rack} (h : SettingKept q l s t) : SettingKept q l s { t with rack := r } := h.of_lane (by cases l <;> rfl) rfl

theorem emit {k : EmitKind} {place tag : Nat} {bs : List Byte} (h : SettingKept false l s t) :
    SettingKept false l s (t.emit k place tag bs) :=
  h.trans ⟨fun a _ => by simp [State.lreg], by simp, by simp, nofun⟩

theorem sendBoth {k : LaneId} {type layout : Nat} {bs : List Byte} (h : SettingKept false l s t) :
    SettingKept false l s (t.sendBoth k type layout bs) := h.emit.emit

/-! ### The work at the end of L (04 R118, R120; 06 R183, R186) -/

theorem startRealign {k : LaneId} (h : SettingKept q l s t) : SettingKept q l s (t.startRealign k) := by
  unfold State.startRealign
  split
  · refine ite (fun _ => h.updLane) (fun _ => ite (fun _ => h.supEvt.updLane) (fun _ => supEvt ?_))
    exact (updLane h.updLane.lfSet.lfSet.lfSet.updLane.lfSet.lfSet.lfSet).lfSet.lfSet.lfSet
  · exact h

theorem confirmDiverged {v : SumVerdict} {n : Nat} (h : SettingKept q l s t) : SettingKept q l s (t.confirmDiverged l v n) := by
  unfold State.confirmDiverged
  cases v with
  | clean => exact h
  | one x => exact ite (fun _ => h.laneEvt.cntAdd.withhold.updLane) (fun _ => h.laneEvt.cntAdd.updLane)
  | two => exact h.laneEvt.cntAdd.updLane
  | noResult => exact h

theorem candidateSums {v : SumVerdict} {n crc : Nat} (h : SettingKept q l s t) : SettingKept q l s (t.candidateSums l v n crc) := by
  unfold State.candidateSums
  split
  · exact h.updLane
  · exact ite (fun _ => ite (fun _ => h.updLane.laneEvt.updLane.startRealign) (fun _ => h.updLane.laneEvt)) (fun _ => h.updLane)

theorem sliceCompare (h : SettingKept q l s t) : SettingKept q l s (t.sliceCompare l) := by
  unfold State.sliceCompare
  extract_lets u
  split
  · exact h
  · extract_lets vRe v tDiff tRe first lane tNew tMark tCand was
    clear_value vRe
    have hdiff : SettingKept q l s tDiff := by
      unfold tDiff
      split
      · exact h.lfSet
      · exact h.lfSet
      · exact h
    have hre : SettingKept q l s tRe := by
      refine ite (fun _ => h) (fun _ => ?_)
      split
      · exact hdiff.laneEvt
      · exact ite (fun _ => hdiff.confirmDiverged) (fun _ => hdiff)
      · exact hdiff.confirmDiverged
      · exact hdiff
    have hmark : SettingKept q l s tMark := updLane (ite (fun _ => hre.laneEvt.lfSet) (fun _ => hre))
    exact updLane (ite (fun _ => hmark.candidateSums) (fun _ => hmark))

theorem voterCompare (h : SettingKept q l s t) : SettingKept q l s (t.voterCompare l) := by
  unfold State.voterCompare
  exact ite (fun _ => h) (fun _ => h.updLane)

theorem verifyStore {i code : Nat} (h : SettingKept q l s t) : SettingKept q l s (t.verifyStore l i code) := by
  have hres : settingReg (XCH_VRES (i / 32)).reg = false := by
    simp only [settingReg, Bool.or_eq_false_iff, Bool.and_eq_false_iff, decide_eq_false_iff_not]
    omega
  unfold State.verifyStore
  extract_lets t1 t2 t3
  have h2 : SettingKept q l s t2 := h.lmemSet.lfSet hres
  have h3 : SettingKept q l s t3 := ite (fun _ => h2) (fun _ => h2.lfSet)
  exact ite (fun _ => h3) (fun _ => ite (fun _ => h3.lcount) (fun _ => h3.lcount.cntAdd))

theorem verifyAll (h : SettingKept q l s t) : SettingKept q l s (t.verifyAll l) := by
  unfold State.verifyAll
  exact foldl verifyStore h

theorem frontEndCheck (h : SettingKept q l s t) : SettingKept q l s (t.frontEndCheck l) := by
  unfold State.frontEndCheck
  exact ite (fun _ => h.lmemSet.lfSet.lfSet) (fun _ => h.lmemSet.lfSet.lfSet.lfSet.laneEvt)

/-! ### Images, classes and the work from D_N on (02 R67, R69; 06 R171, R186; 07 R217; 08 R237) -/

/-- The words of an image in both ports of the lane. -/
theorem imageWords {b : List Byte} {is : List Nat} (hi : ∀ i ∈ is, i < 8) (h : SettingKept q l s t) :
    SettingKept q l s (is.foldl (fun s i => (s.lfSet l (VOT_IMG i) (leAt b (4 * i) 4)).lfSet l (VOT_V1_IMG i) (leAt b (4 * i) 4)) t) := by
  induction is generalizing t with
  | nil => exact h
  | cons i is ih =>
    obtain ⟨hlt, his⟩ := List.forall_mem_cons.1 hi
    refine ih his ((h.lfSet ?_).lfSet ?_)
    all_goals
      simp only [settingReg, Bool.or_eq_false_iff, Bool.and_eq_false_iff, decide_eq_false_iff_not]
      omega

theorem sendImages {off : Bool} (h : SettingKept false l s t) : SettingKept false l s (t.sendImages l off) := by
  unfold State.sendImages
  extract_lets g b t1 t2 t3 rt t4
  have h1 : SettingKept false l s t1 := h.imageWords fun i hi => List.mem_range.1 hi
  have h4 : SettingKept false l s t4 := ite (fun _ => h1.emit.emit.laneEvt) (fun _ => h1.emit.emit)
  exact h4.updLane

theorem sendProof {k : LaneId} (h : SettingKept false l s t) : SettingKept false l s (t.sendProof k) := by
  unfold State.sendProof
  split
  · exact ite (fun _ => of_lane (emit h.updLane) (by cases l <;> rfl) rfl) (fun _ => emit h.updLane)
  · exact h

theorem measure {k : LaneId} {n idx dur c m : Nat} (h : SettingKept q l s t) : SettingKept q l s (t.measure k n idx dur c m) := by
  unfold State.measure
  exact ite (fun _ => h.cntSet.cntAdd) (fun _ => h.cntSet)

theorem takePass {k : LaneId} {r : PassResult} (h : SettingKept q l s t) : SettingKept q l s (t.takePass k r) := by
  unfold State.takePass
  split
  · exact h
  · refine ite (fun _ => h) (fun _ => ?_)
    have hsig : ∀ d : TaskDecl, SettingKept q l s (if d.safe then t.sigSet k d.core CDA_PSIG r.psig else t) :=
      fun d => ite (fun _ => h.coreSet) (fun _ => h)
    exact (hsig _).measure.taskSet.updLane

theorem takeFree {k : LaneId} {early : Bool} {rs : List PassResult} (h : SettingKept q l s t) :
    SettingKept q l s (t.takeFree k early rs) := by
  unfold State.takeFree
  exact foldl takePass h

theorem commitClass {k : LaneId} {c : Nat} (h : SettingKept q l s t) : SettingKept q l s (t.commitClass k c) := by
  unfold State.commitClass
  exact h.updLane

theorem stopClass {k : LaneId} {c : Nat} (h : SettingKept q l s t) : SettingKept q l s (t.stopClass k c) := by
  unfold State.stopClass
  exact h.updLane

theorem trackWrites {k : LaneId} {pages : List Nat} (h : SettingKept q l s t) : SettingKept q l s (t.trackWrites k pages) := by
  unfold State.trackWrites
  extract_lets u
  split
  · exact ite (fun _ => h) (fun _ => h.updLane)
  · exact h

theorem sumSend {k : LaneId} {wend : Nat} (h : SettingKept false l s t) : SettingKept false l s (t.sumSend k wend) := by
  unfold State.sumSend
  exact ite (fun _ => h) (fun _ => sendBoth (updLane h.lfSet.lfSet.lfSet))

theorem writeEnter {k : LaneId} {w : PendWrite} (h : SettingKept q l s t) : SettingKept q l s (t.writeEnter k w) := by
  unfold State.writeEnter State.brgShow
  exact ite (fun _ => (updLane h).lfSet.lfSet.lfSet.lfSet) (fun _ => h.updLane)

theorem bridgeWrite {k : LaneId} {core a : Nat} {bs : List Byte} (h : SettingKept q l s t) :
    SettingKept q l s (t.bridgeWrite k core a bs) := by
  unfold State.bridgeWrite
  refine foldl (fun {t w} h => ?_) h
  cases w with
  | nil => exact h
  | cons p r => exact h.writeEnter

theorem retainedAt {k : LaneId} {n : Nat} (h : SettingKept false l s t) : SettingKept false l s (t.retainedAt k n) := by
  have hreport : ∀ {u}, SettingKept false l s u → SettingKept false l s (u.retainedReport k) := fun h =>
    ite (fun _ => h.emit) (fun _ => h)
  unfold State.retainedAt
  exact hreport (foldl bridgeWrite h.updLane)

theorem retainedSnapshot {k : LaneId} (h : SettingKept false l s t) : SettingKept false l s (t.retainedSnapshot k) := by
  unfold State.retainedSnapshot State.retainedBegin
  refine ite (fun _ => h) (fun _ => ite (fun _ => ite (fun _ => h) (fun _ => h.updLane.cntAdd)) (fun _ => ite (fun _ => h) (fun _ => ?_)))
  exact retainedAt (updLane (ite (fun _ => h) (fun _ => h.setRack)))

theorem carryOver {k : LaneId} (h : SettingKept q l s t) : SettingKept q l s (t.carryOver k) := by
  unfold State.carryOver
  split
  · refine ite (fun _ => ?_) (fun _ => h)
    extract_lets old ts bl
    split
    · unfold State.switchRegs State.setDueReg
      exact ite (fun _ => h.updLane) (fun _ => updLane h.updLane)
    · exact h.updLane
  · exact h

theorem tasksRun (h : SettingKept q l s t) : t.tasksRun l = s.tasksRun l := by
  simp only [State.tasksRun, State.laneMode, h.lf TCK_MODE_MODE, h.stopped]

end SettingKept

end Sys2Proof.Machine

/-! The phases of a lane's cycle, and an overrun beyond tolerance (02 R60, R61, R69; 04 R117). -/

namespace Sys2Proof.Machine

-- One theorem after the other, as the model's tests: elaborated side by side they would exceed the check's memory limit.
set_option Elab.async false

/-! ### The phase of a lane -/

/-- Tasks run or not, whatever a field apart from the lane's mode holds. -/
theorem tasksRun_lfSet (s : State) (l : LaneId) (f : Fld) (x : Nat) (h : f.apart TCK_MODE_MODE = true) :
    (s.lfSet l f x).tasksRun l = s.tasksRun l := by
  rw [State.tasksRun, State.laneMode, State.lf_lfSet_apart _ _ _ _ _ _ h, State.lfSet_lane_tick, State.tasksRun, State.laneMode]

theorem beforeV_lfSet (s : State) (l : LaneId) (f : Fld) (x : Nat) (h : f.apart TCK_STATUS_PHASE = true) :
    (s.lfSet l f x).beforeV l = s.beforeV l := by
  rw [State.beforeV, State.lf_lfSet_apart _ _ _ _ _ _ h, State.lfSet_lane_tick, State.beforeV]

/-- A phase that depends on whether tasks run is shown as it was set, and judged alike afterwards. -/
theorem lf_phase_tasksRun (s : State) (l : LaneId) {a b : Nat} (ha : a < 16) (hb : b < 16) :
    (s.lfSet l TCK_STATUS_PHASE (if s.tasksRun l then a else b)).lf l TCK_STATUS_PHASE =
      if (s.lfSet l TCK_STATUS_PHASE (if s.tasksRun l then a else b)).tasksRun l then a else b := by
  rw [tasksRun_lfSet _ _ _ _ rfl, State.lf_lfSet_same _ _ _ _ rfl]
  exact Nat.mod_eq_of_lt (by split <;> assumption)

/-! ### Phase A at the end of L (R60; 04 R117, R127) -/

/-- Lane `l` has reached the end of L: its banks are sealed, and phase A has begun. -/
def State.sealL (s : State) (l : LaneId) : State :=
  ((s.updLane l (fun x => { x with xch := { x.xch with sealed := true } })).lfSet l TCK_STATUS_PHASE 1).lfSet l TCK_INT_STAT_END_L 1

/-- The checks of lane `l` at the end of L (04 R118, R120; 06 R183, R186). -/
def State.checkL (s : State) (l : LaneId) : State :=
  let s := ((s.sliceCompare l).voterCompare l).verifyAll l
  if s.basesSet l then s.frontEndCheck l else s

theorem SettingKept.checkL (q : Bool) (l : LaneId) (s : State) : SettingKept q l s (s.checkL l) := by
  have h : SettingKept q l s (((s.sliceCompare l).voterCompare l).verifyAll l) := (refl q l s).sliceCompare.voterCompare.verifyAll
  exact ite (fun _ => h.frontEndCheck) (fun _ => h)

theorem SettingKept.basesSet {q : Bool} {l : LaneId} {s t : State} (h : SettingKept q l s t) : t.basesSet l = s.basesSet l := by
  simp only [State.basesSet, h.lf XCH_OWN, h.lf XCH_AGREED, h.lf XCH_SAFEMAP, h.lf XCH_VLIST]

/-- Lane `l` sends its own image to both neighbours, once its bases are set and while the lanes work together (R127). -/
def State.sendOwn (s : State) (l : LaneId) : State :=
  if s.basesSet l && s.laneMode l != .split then s.sendBoth l 2 (s.lreg l XCH_LAYOUT.reg).toNat (s.ownImage l) else s

theorem SettingKept.sendOwn (l : LaneId) (s : State) : SettingKept false l s (s.sendOwn l) :=
  ite (fun _ => (refl false l s).sendBoth) (fun _ => refl false l s)

theorem exec_endOfL {s : State} {l : LaneId} (hs : s.ticking l = true) :
    exec (.endOfL l) s = .next (((s.sealL l).checkL l).sendOwn l) := by
  show execEndOfL l s = _
  rw [execEndOfL, if_neg (by simp [hs])]
  rfl

/-- A field apart from the phase and from the event at the end of L stands when the banks are sealed. -/
theorem lf_sealL (s : State) (l : LaneId) {f : Fld} (hphase : TCK_STATUS_PHASE.apart f = true)
    (hend : TCK_INT_STAT_END_L.apart f = true) : (s.sealL l).lf l f = s.lf l f := by
  rw [State.sealL, State.lf_lfSet_apart _ _ _ _ _ _ hend, State.lf_lfSet_apart _ _ _ _ _ _ hphase]
  exact State.lf_congr (by simp) f

theorem sealL_shows (s : State) (l : LaneId) : (s.sealL l).lf l TCK_STATUS_PHASE = 1 ∧ (s.sealL l).lf l TCK_INT_STAT_END_L = 1 ∧
    ((s.sealL l).lane l).xch.sealed = true ∧ (s.sealL l).tx = s.tx := by
  refine ⟨?_, State.lf_lfSet_same _ _ _ _ rfl, by simp [State.sealL], by simp [State.sealL]⟩
  rw [State.sealL, State.lf_lfSet_apart _ _ _ _ _ _ rfl, State.lf_lfSet_same _ _ _ _ rfl]
  rfl

theorem basesSet_sealL (s : State) (l : LaneId) : (s.sealL l).basesSet l = s.basesSet l := by
  rw [State.basesSet, lf_sealL _ _ rfl rfl, lf_sealL _ _ rfl rfl, lf_sealL _ _ rfl rfl, lf_sealL _ _ rfl rfl, State.basesSet]

theorem layout_sealL (s : State) (l : LaneId) : (s.sealL l).lreg l XCH_LAYOUT.reg = s.lreg l XCH_LAYOUT.reg := by
  rw [State.sealL, State.lfSet, State.lreg_lregSet_other _ _ _ _ (by decide), State.lfSet, State.lreg_lregSet_other _ _ _ _ (by decide)]
  simp [State.lreg]

theorem tx_sendBoth (s : State) (l : LaneId) (type layout : Nat) (payload : List Byte) : (s.sendBoth l type layout payload).tx =
    [⟨.linkPacket, l.prev.idx, type, linkPacket type l l.prev (s.frame l) layout payload⟩,
      ⟨.linkPacket, l.next.idx, type, linkPacket type l l.next (s.frame l) layout payload⟩] ++ s.tx := by
  simp [State.sendBoth, State.emit, State.frame, State.lf, State.lreg]
  cases l <;> rfl

theorem ownImage_sendBoth (s : State) (l : LaneId) (type layout : Nat) (payload : List Byte) :
    (s.sendBoth l type layout payload).ownImage l = s.ownImage l := by cases l <;> rfl

theorem tx_sendOwn {s : State} {l : LaneId} (hb : s.basesSet l = true) (hm : s.laneMode l ≠ .split) : (s.sendOwn l).tx =
    [⟨.linkPacket, l.prev.idx, 2, linkPacket 2 l l.prev (s.frame l) (s.lreg l XCH_LAYOUT.reg).toNat ((s.sendOwn l).ownImage l)⟩,
      ⟨.linkPacket, l.next.idx, 2, linkPacket 2 l l.next (s.frame l) (s.lreg l XCH_LAYOUT.reg).toNat ((s.sendOwn l).ownImage l)⟩]
        ++ s.tx := by
  rw [State.sendOwn, if_pos (by simp [hb, hm]), ownImage_sendBoth, tx_sendBoth]

theorem endOfL_phase {s : State} {l : LaneId} (hs : s.ticking l = true) :
    ∃ t, exec (.endOfL l) s = .next t ∧ t.lf l TCK_STATUS_PHASE = 1 ∧ t.lf l TCK_INT_STAT_END_L = 1 ∧ (t.lane l).xch.sealed = true ∧
      (s.basesSet l = true → s.laneMode l ≠ .split →
        t.tx = [⟨.linkPacket, l.prev.idx, 2, linkPacket 2 l l.prev (s.frame l) (s.lreg l XCH_LAYOUT.reg).toNat (t.ownImage l)⟩,
          ⟨.linkPacket, l.next.idx, 2, linkPacket 2 l l.next (s.frame l) (s.lreg l XCH_LAYOUT.reg).toNat (t.ownImage l)⟩] ++ s.tx) := by
  obtain ⟨hphase, hend, hseal, htx⟩ := sealL_shows s l
  have hcheck := SettingKept.checkL true l (s.sealL l)
  have hkept := (SettingKept.checkL false l (s.sealL l)).trans (.sendOwn l _)
  refine ⟨_, exec_endOfL hs, (hkept.lf _).trans hphase, (hkept.lf _).trans hend, hkept.sealed.trans hseal, fun hb hm => ?_⟩
  have hbases : ((s.sealL l).checkL l).basesSet l = true := by rw [hcheck.basesSet, basesSet_sealL, hb]
  have hmode : ((s.sealL l).checkL l).laneMode l ≠ .split := by rwa [State.laneMode, hcheck.lf _, lf_sealL _ _ rfl rfl]
  have hframe : ((s.sealL l).checkL l).frame l = s.frame l := (hcheck.lf _).trans (lf_sealL _ _ rfl rfl)
  rw [tx_sendOwn hbases hmode, hframe, hcheck.reg _ rfl, layout_sealL, hcheck.tx rfl, htx]

/-! ### Phases P and E (R60; 07 R207; 05 R150) -/

theorem endOfA_phase {s : State} {l : LaneId} (hs : s.ticking l = true) (hphase : s.lf l TCK_STATUS_PHASE = 1) :
    ∃ t, exec (.endOfA l) s = .next t ∧ t.lf l TCK_INT_STAT_END_A = 1 ∧ t.lf l TCK_STATUS_PHASE = if t.tasksRun l then 2 else 6 := by
  have hexec : ∃ u : State, exec (.endOfA l) s = .next ((u.lfSet l TCK_INT_STAT_END_A 1).lfSet l TCK_STATUS_PHASE
      (if (u.lfSet l TCK_INT_STAT_END_A 1).tasksRun l then 2 else 6)) := by
    apply Exists.intro
    show execEndOfA l s = _
    rw [execEndOfA, if_neg (by simp [hs, hphase])]
  obtain ⟨u, hu⟩ := hexec
  refine ⟨_, hu, ?_, lf_phase_tasksRun _ _ (by decide) (by decide)⟩
  rw [State.lf_lfSet_apart _ _ _ _ _ _ rfl, State.lf_lfSet_same _ _ _ _ rfl]
  rfl

theorem enterPhaseE_phase {s : State} {l : LaneId} (rs : List PassResult) (hs : s.ticking l = true)
    (hphase : s.lf l TCK_STATUS_PHASE = 2) (hstop : (s.lane l).tick.stopped = false) (hmode : safeMode (s.laneMode l) = true) :
    ∃ t, exec (.enterPhaseE l rs) s = .next t ∧ t.lf l TCK_STATUS_PHASE = 3 := by
  refine ⟨_, show execEnterPhaseE l rs s = _ by rw [execEnterPhaseE, if_neg (by simp [hs, hphase, hstop, hmode])], ?_⟩
  exact State.lf_lfSet_same _ _ _ _ rfl

/-! ### Phase V (R60) -/

/-- The end of phase V's entry: the proof of the outputs goes out, and the phase shows 4, or 6 while no task runs. -/
def State.phaseVEnd (s : State) (l : LaneId) : State :=
  ((s.sendProof l).tickUpd l (fun t => { t with inV := true })).lfSet l TCK_STATUS_PHASE (if s.tasksRun l then 4 else 6)

theorem phaseVEnd_phase (s : State) (l : LaneId) :
    (s.phaseVEnd l).lf l TCK_STATUS_PHASE = if (s.phaseVEnd l).tasksRun l then 4 else 6 := by
  have hrun : ((s.sendProof l).tickUpd l (fun t => { t with inV := true })).tasksRun l = s.tasksRun l :=
    ((SettingKept.refl false l s).sendProof.updLane).tasksRun
  rw [State.phaseVEnd, ← hrun]
  exact lf_phase_tasksRun _ _ (by decide) (by decide)

/-- Phase V shows code 4, or 6 while no task runs. -/
theorem phaseV_phase (s : State) (l : LaneId) (ns : List PassResult) (since : Nat) :
    (s.phaseV l ns since).lf l TCK_STATUS_PHASE = if (s.phaseV l ns since).tasksRun l then 4 else 6 := by
  obtain ⟨u, hu⟩ : ∃ u : State, s.phaseV l ns since = u.phaseVEnd l := ⟨_, rfl⟩
  rw [hu]
  exact phaseVEnd_phase u l

theorem enterPhaseV_phase {s : State} {l : LaneId} (es : List EncResult) (ns : List PassResult) (since : Nat) (hs : s.ticking l = true)
    (hbefore : s.beforeV l = true) (h : s.lf l TCK_STATUS_PHASE = 3 ∨ s.tasksRun l = false ∨ safeMode (s.laneMode l) = false) :
    ∃ t, exec (.enterPhaseV l es ns since) s = .next t ∧ t.lf l TCK_STATUS_PHASE = if t.tasksRun l then 4 else 6 := by
  have hnot : (s.tasksRun l && safeMode (s.laneMode l) && decide (s.lf l TCK_STATUS_PHASE ≠ 3)) = false := by
    rcases h with h | h | h <;> simp [h]
  refine ⟨_, show execEnterPhaseV l es ns since s = _ by rw [execEnterPhaseV, hs, hbefore, hnot]; rfl, ?_⟩
  exact phaseV_phase ..

theorem safetyDeadline_phase {s : State} {l : LaneId} (es : List EncResult) (ns : List PassResult) (hs : s.ticking l = true)
    (hbefore : s.beforeV l = true) :
    ∃ t, exec (.safetyDeadline l es ns) s = .next t ∧ t.lf l TCK_STATUS_PHASE = if t.tasksRun l then 4 else 6 := by
  have hexec : ∃ (u : State) (since : Nat), exec (.safetyDeadline l es ns) s = .next (u.phaseV l ns since) := by
    apply Exists.intro
    apply Exists.intro
    show execSafetyDeadline l es ns s = _
    have hopen : (s.lfSet l TCK_INT_STAT_DL_SAFE 1).beforeV l = true := (beforeV_lfSet _ _ _ _ rfl).trans hbefore
    rw [execSafetyDeadline, if_neg (by simp [hs])]
    dsimp only
    rw [hopen, if_pos rfl]
  obtain ⟨u, since, hu⟩ := hexec
  exact ⟨_, hu, phaseV_phase ..⟩

/-- A safety deadline after V, while no task runs, shows its event only. -/
theorem exec_safetyDeadline_afterV {s : State} {l : LaneId} (es : List EncResult) (ns : List PassResult) (hs : s.ticking l = true)
    (hbefore : s.beforeV l = false) (hrun : s.tasksRun l = false) :
    exec (.safetyDeadline l es ns) s = .next (s.lfSet l TCK_INT_STAT_DL_SAFE 1) := by
  have hclosed : (s.lfSet l TCK_INT_STAT_DL_SAFE 1).beforeV l = false := (beforeV_lfSet _ _ _ _ rfl).trans hbefore
  have hstill : (s.lfSet l TCK_INT_STAT_DL_SAFE 1).tasksRun l = false := (tasksRun_lfSet _ _ _ _ rfl).trans hrun
  show execSafetyDeadline l es ns s = _
  rw [execSafetyDeadline, if_neg (by simp [hs])]
  simp [hclosed, hstill]

end Sys2Proof.Machine

/-! The non-safety deadline and phase G (02 R61, R67 to R69). -/

namespace Sys2Proof.Machine

-- One theorem after the other, as the model's tests: elaborated side by side they would exceed the check's memory limit.
set_option Elab.async false

/-- Lane `l` shows that its non-safety deadline has passed, and stays in phase V unless its tasks have been stopped. -/
def State.AtDeadline (s : State) (l : LaneId) : Prop :=
  s.lf l TCK_INT_STAT_DL_NS = 1 ∧ s.lf l TCK_STATUS_PHASE = if (s.lane l).tick.stopped then 6 else 4

/-- A field of another register than the one that is written. -/
theorem lf_lfSet_otherReg (s : State) (l : LaneId) {f g : Fld} (x : Nat) (h : g.reg ≠ f.reg) : (s.lfSet l f x).lf l g = s.lf l g := by
  rw [State.lf, State.lfSet, State.lreg_lregSet_other _ _ _ _ h, State.lf]

namespace State.AtDeadline

variable {s t : State} {l : LaneId}

theorem kept {q : Bool} (h : s.AtDeadline l) (g : SettingKept q l s t) : t.AtDeadline l := by
  rw [State.AtDeadline, g.lf _, g.lf _, g.stopped]
  exact h

/-- A field of the tick unit apart from the phase and the deadline's event. -/
theorem lfSet (h : s.AtDeadline l) {f : Fld} {x : Nat} (hdl : f.apart TCK_INT_STAT_DL_NS = true := by rfl)
    (hphase : f.apart TCK_STATUS_PHASE = true := by rfl) : (s.lfSet l f x).AtDeadline l := by
  rw [State.AtDeadline, State.lf_lfSet_apart _ _ _ _ _ _ hdl, State.lf_lfSet_apart _ _ _ _ _ _ hphase, State.lfSet_lane_tick]
  exact h

theorem lcount (h : s.AtDeadline l) {f : Fld} {d : Nat} (hdl : f.apart TCK_INT_STAT_DL_NS = true := by rfl)
    (hphase : f.apart TCK_STATUS_PHASE = true := by rfl) : (s.lcount l f d).AtDeadline l := h.lfSet hdl hphase

theorem laneEvt (h : s.AtDeadline l) {code : Nat} {parts : List (Nat × Nat)} : (s.laneEvt l code parts).AtDeadline l :=
  h.kept (SettingKept.refl true l s).laneEvt

theorem ite {c : Prop} [Decidable c] (h : c → s.AtDeadline l) (g : ¬c → t.AtDeadline l) : (if c then s else t).AtDeadline l := by
  split
  · exact h ‹_›
  · exact g ‹_›

/-- The steps over the classes keep what one step keeps. -/
theorem foldl {α : Type} {f : State → α → State} (hf : ∀ {t x}, t.AtDeadline l → (f t x).AtDeadline l) {xs : List α}
    (h : s.AtDeadline l) : (xs.foldl f s).AtDeadline l := by
  induction xs generalizing s with
  | nil => exact h
  | cons x xs ih => exact ih (hf h)

theorem ovrCount (h : s.AtDeadline l) {c n : Nat} : (s.lfSet l (ovrField c) n).AtDeadline l := by
  have hdl : TCK_INT_STAT_DL_NS.reg ≠ (ovrField c).reg := by change TCK_INT_STAT_DL_NS.reg ≠ TCK_OVR_CNT.reg; decide
  have hphase : TCK_STATUS_PHASE.reg ≠ (ovrField c).reg := by change TCK_STATUS_PHASE.reg ≠ TCK_OVR_CNT.reg; decide
  rw [State.AtDeadline, lf_lfSet_otherReg _ _ _ hdl, lf_lfSet_otherReg _ _ _ hphase, State.lfSet_lane_tick]
  exact h

theorem takeFree (h : s.AtDeadline l) {early : Bool} {rs : List PassResult} : (s.takeFree l early rs).AtDeadline l :=
  h.kept (SettingKept.refl true l s).takeFree

theorem completeClasses (h : s.AtDeadline l) {safe : Bool} : (s.completeClasses l safe).AtDeadline l :=
  foldl (fun {t _} h => ite (fun _ => (h.kept (SettingKept.refl true l t).commitClass).ovrCount) (fun _ => h)) h

/-- The phase of a lane that stops its tasks is 6 (R69). -/
theorem overrunBeyond (h : s.AtDeadline l) {c : Nat} : (s.overrunBeyond l c).AtDeadline l := by
  unfold State.overrunBeyond
  refine ite (fun _ => h) (fun _ => ?_)
  extract_lets t u
  have ht : t.lf l TCK_INT_STAT_DL_NS = 1 := (State.lf_congr (by simp [t]) _).trans h.1
  have hphase : (t.lfSet l TCK_STATUS_PHASE 6).AtDeadline l := by
    rw [State.AtDeadline, State.lf_lfSet_apart _ _ _ _ _ _ rfl, State.lf_lfSet_same _ _ _ _ rfl, State.lfSet_lane_tick]
    exact ⟨ht, by simp [t]⟩
  exact ite (fun _ => hphase.laneEvt.kept (SettingKept.refl false l u).sendImages) (fun _ => hphase.laneEvt)

theorem overrun (h : s.AtDeadline l) {c : Nat} : (s.overrun l c).AtDeadline l := by
  have hcount : ∀ n x, ((((((s.stopClass l c).lfSet l (ovrField c) n).lfSet l TCK_STATUS_OVR_NOW x).lcount l TCK_CNT_OVR 1).lfSet l
      TCK_INT_STAT_OVR 1)).AtDeadline l := fun n x =>
    ((h.kept (SettingKept.refl true l s).stopClass).ovrCount).lfSet.lcount.lfSet
  unfold State.overrun
  exact ite (fun _ => (hcount _ _).laneEvt) (fun _ => (hcount _ _).overrunBeyond)

theorem deadline (h : s.AtDeadline l) {safe : Bool} : (s.deadline l safe).AtDeadline l := by
  unfold State.deadline
  refine foldl (fun {t c} h => ite (fun _ => ite (fun _ => ?_) (fun _ => h.overrun)) (fun _ => h)) h
  exact h.kept (SettingKept.refl true l t).stopClass.laneEvt.withhold

end State.AtDeadline

/-- The work on tasks and classes at the non-safety deadline: it shows, and what is not done overruns (R67 to R69). -/
def State.nonsafetyClasses (s : State) (l : LaneId) (rs : List PassResult) : State :=
  let s := s.lfSet l TCK_INT_STAT_DL_NS 1
  if s.tasksRun l then ((s.takeFree l false rs).completeClasses l false).deadline l false else s

/-- The work of the runtime after the classes (06 R186; 07 R217; 08 R237). -/
def State.nonsafetyRest (s : State) (l : LaneId) (pages : List Nat) (wend : Nat) : State :=
  (((s.trackWrites l pages).sumSend l wend).retainedSnapshot l).carryOver l

/-- Phase G begins, unless the lane is not in phase V (R61). -/
def State.enterG (s : State) (l : LaneId) : State :=
  if s.lf l TCK_STATUS_PHASE = 4 then s.lfSet l TCK_STATUS_PHASE 5 else s

theorem exec_nonsafetyDeadline {s : State} {l : LaneId} (rs : List PassResult) (pages : List Nat) (wend : Nat)
    (hs : s.ticking l = true) : exec (.nonsafetyDeadline l rs pages wend) s =
      .next (((s.nonsafetyClasses l rs).nonsafetyRest l pages wend).enterG l) := by
  show execNonsafetyDeadline l rs pages wend s = _
  rw [execNonsafetyDeadline, if_neg (by simp [hs])]
  rfl

theorem SettingKept.nonsafetyRest (l : LaneId) (s : State) (pages : List Nat) (wend : Nat) :
    SettingKept false l s (s.nonsafetyRest l pages wend) :=
  (refl false l s).trackWrites.sumSend.retainedSnapshot.carryOver

theorem nonsafetyClasses_run {s : State} {l : LaneId} (rs : List PassResult) (hphase : s.lf l TCK_STATUS_PHASE = 4)
    (hrun : s.tasksRun l = true) : (s.nonsafetyClasses l rs).AtDeadline l := by
  have hstop : (s.lane l).tick.stopped = false := by
    simp only [State.tasksRun, Bool.and_eq_true, Bool.not_eq_true'] at hrun
    exact hrun.2
  have hstart : (s.lfSet l TCK_INT_STAT_DL_NS 1).AtDeadline l := by
    rw [State.AtDeadline, State.lf_lfSet_same _ _ _ _ rfl, State.lf_lfSet_apart _ _ _ _ _ _ rfl, State.lfSet_lane_tick, hphase, hstop]
    exact ⟨rfl, rfl⟩
  rw [State.nonsafetyClasses, if_pos ((tasksRun_lfSet _ _ _ _ rfl).trans hrun)]
  exact hstart.takeFree.completeClasses.deadline

theorem nonsafetyClasses_still {s : State} {l : LaneId} (rs : List PassResult) (hrun : s.tasksRun l = false) :
    s.nonsafetyClasses l rs = s.lfSet l TCK_INT_STAT_DL_NS 1 :=
  if_neg (by rw [tasksRun_lfSet _ _ _ _ rfl, hrun]; decide)

theorem enterG_stopped (s : State) (l : LaneId) : ((s.enterG l).lane l).tick.stopped = (s.lane l).tick.stopped := by
  unfold State.enterG
  split
  · simp
  · rfl

theorem enterG_deadline (s : State) (l : LaneId) : (s.enterG l).lf l TCK_INT_STAT_DL_NS = s.lf l TCK_INT_STAT_DL_NS := by
  unfold State.enterG
  split
  · exact State.lf_lfSet_apart _ _ _ _ _ _ rfl
  · rfl

theorem enterG_phase {s : State} {l : LaneId} (h : s.lf l TCK_STATUS_PHASE = 4) : (s.enterG l).lf l TCK_STATUS_PHASE = 5 := by
  rw [State.enterG, if_pos h, State.lf_lfSet_same _ _ _ _ rfl]
  rfl

theorem enterG_atDeadline {s : State} {l : LaneId} (h : s.AtDeadline l) :
    (s.enterG l).lf l TCK_STATUS_PHASE = if ((s.enterG l).lane l).tick.stopped then 6 else 5 := by
  obtain ⟨-, hphase⟩ := h
  rw [enterG_stopped]
  cases hstop : (s.lane l).tick.stopped <;> rw [hstop] at hphase
  · exact enterG_phase hphase
  · rw [State.enterG, if_neg (by simp [hphase]), hphase]
    rfl

theorem nonsafetyDeadline_phase {s : State} {l : LaneId} (rs : List PassResult) (pages : List Nat) (wend : Nat)
    (hs : s.ticking l = true) (hphase : s.lf l TCK_STATUS_PHASE = 4) :
    ∃ t, exec (.nonsafetyDeadline l rs pages wend) s = .next t ∧ t.lf l TCK_INT_STAT_DL_NS = 1 ∧
      t.lf l TCK_STATUS_PHASE = if s.tasksRun l && (t.lane l).tick.stopped then 6 else 5 := by
  have hrest := SettingKept.nonsafetyRest l (s.nonsafetyClasses l rs) pages wend
  refine ⟨_, exec_nonsafetyDeadline rs pages wend hs, ?_⟩
  rw [enterG_deadline]
  cases hrun : s.tasksRun l with
  | true =>
    have hat := (nonsafetyClasses_run rs hphase hrun).kept hrest
    exact ⟨hat.1, by rw [enterG_atDeadline hat, Bool.true_and]⟩
  | false =>
    rw [hrest.lf _, nonsafetyClasses_still rs hrun]
    refine ⟨State.lf_lfSet_same _ _ _ _ rfl, enterG_phase ?_⟩
    rw [← nonsafetyClasses_still rs hrun, hrest.lf _, nonsafetyClasses_still rs hrun, State.lf_lfSet_apart _ _ _ _ _ _ rfl, hphase]

/-- Settles O5: each command of the cycle shows the phase that it begins, and phase A sends the lane's own image. -/
theorem phasesFollowEachOther : Obligations.PhasesFollowEachOther := by
  unfold Obligations.PhasesFollowEachOther
  intro s l hs
  refine ⟨endOfL_phase hs, endOfA_phase hs, fun rs => enterPhaseE_phase rs hs, fun es ns since => enterPhaseV_phase es ns since hs,
    fun es ns => safetyDeadline_phase es ns hs, fun es ns hbefore hrun => ?_,
    fun rs pages wend => nonsafetyDeadline_phase rs pages wend hs⟩
  exact ⟨_, exec_safetyDeadline_afterV es ns hs hbefore hrun, State.lf_lfSet_same _ _ _ _ rfl, State.lf_lfSet_apart _ _ _ _ _ _ rfl,
    LaneOnly.lfSet ..⟩

end Sys2Proof.Machine

/-! An overrun beyond tolerance stops the lane's tasks and halts it (02 R69). -/

namespace Sys2Proof.Machine

-- One theorem after the other, as the model's tests: elaborated side by side they would exceed the check's memory limit.
set_option Elab.async false

/-! ### A change of one lane with its events and what it sends -/

/-- `t` is `s` but for lane `l`, what recording events writes, and what has been sent. -/
abbrev LaneEvtTx (l : LaneId) (s t : State) : Prop := LaneEvt l { s with tx := t.tx } t

theorem EventOnly.withTx {s t : State} (h : EventOnly s t) (x : List Emission) : EventOnly { s with tx := x } { t with tx := x } :=
  ⟨h.pending, h.lane, h.reg, h.hub, h.pde, h.v1, h.sup, h.md, h.rack, h.store, h.dict, h.svc, h.net, h.can, h.tb, h.fld, h.coo, rfl,
    h.freeCtr⟩

theorem LaneEvt.withTx {l : LaneId} {s t : State} (h : LaneEvt l s t) (x : List Emission) :
    LaneEvt l { s with tx := x } { t with tx := x } := by
  have := EventOnly.withTx h x
  cases l <;> exact this

theorem LaneEvtTx.trans {l : LaneId} {s t u : State} (h : LaneEvtTx l s t) (g : LaneEvtTx l t u) : LaneEvtTx l s u :=
  (LaneEvt.withTx h u.tx).trans g

theorem LaneEvt.evtTx {l : LaneId} {s t : State} (h : LaneEvt l s t) : LaneEvtTx l s t := by
  have htx : t.tx = s.tx := (EventOnly.tx h).trans (State.setLane_tx ..)
  rw [LaneEvtTx, htx]
  exact h

theorem LaneTx.evtTx {l : LaneId} {s t : State} (h : LaneTx l s t) : LaneEvtTx l s t := LaneOnly.evt h

/-! ### The images of a halted lane -/

/-- A lane that is to send the halt request sends no output with it. -/
theorem formImage_halted {s : State} {l : LaneId} (h : (s.lane l).tick.haltSend ≠ 0) (off : Bool) :
    (s.formImage l off).out = 0 ∧ (s.formImage l off).haltReq = true := by
  simp [State.formImage, h]

/-- The words of an image stand in the lane's registers of both ports (06 R173). -/
def State.showImage (s : State) (l : LaneId) (b : List Byte) : State :=
  (List.range 8).foldl (fun s i => (s.lfSet l (VOT_IMG i) (leAt b (4 * i) 4)).lfSet l (VOT_V1_IMG i) (leAt b (4 * i) 4)) s

theorem showImage_foldl (l : LaneId) (b : List Byte) (is : List Nat) (s : State) :
    let t := is.foldl (fun s i => (s.lfSet l (VOT_IMG i) (leAt b (4 * i) 4)).lfSet l (VOT_V1_IMG i) (leAt b (4 * i) 4)) s
    LaneOnly l s t ∧ (t.lane l).tick = (s.lane l).tick ∧ t.tx = s.tx := by
  induction is generalizing s with
  | nil => exact ⟨LaneOnly.refl l s, rfl, rfl⟩
  | cons i is ih =>
    obtain ⟨honly, htick, htx⟩ := ih ((s.lfSet l (VOT_IMG i) (leAt b (4 * i) 4)).lfSet l (VOT_V1_IMG i) (leAt b (4 * i) 4))
    exact ⟨((LaneOnly.lfSet l s _ _).trans (.lfSet ..)).trans honly, htick.trans (by simp), htx.trans (by simp)⟩

/-- What the registers show concerns the lane alone; its tick unit stands and nothing is sent. -/
theorem showImage_frame (s : State) (l : LaneId) (b : List Byte) :
    LaneOnly l s (s.showImage l b) ∧ ((s.showImage l b).lane l).tick = (s.lane l).tick ∧ (s.showImage l b).tx = s.tx :=
  showImage_foldl l b _ s

/-- The record of a withheld image (event 0x2006). -/
def State.imageRecord (s : State) (l : LaneId) (withheld : Bool) : State :=
  let rt := (s.lane l).rt
  if withheld then s.laneEvt l 0x2006 [(1, l.idx), (1, rt.whCause), (1, if rt.whCause = 5 then rt.failTask else 0),
    (1, if rt.whCause = 5 then rt.failBits else 0)]
  else s

theorem imageRecord_eventOnly (s : State) (l : LaneId) (withheld : Bool) : EventOnly s (s.imageRecord l withheld) := by
  unfold State.imageRecord
  split
  · exact laneEvt_eventOnly ..
  · exact EventOnly.refl s

theorem imageRecord_tick (s : State) (l : LaneId) (withheld : Bool) : ((s.imageRecord l withheld).lane l).tick = (s.lane l).tick := by
  rw [(imageRecord_eventOnly s l withheld).lane l]

/-- The bytes of an image stand in the lane's registers and are sent to both voters. -/
def State.sendWords (s : State) (l : LaneId) (b : List Byte) : State :=
  ((s.showImage l b).emit .voter2Image l.idx 0 b).emit .voter1Image l.idx 0 b

theorem sendWords_tx (s : State) (l : LaneId) (b : List Byte) :
    (s.sendWords l b).tx = ⟨.voter1Image, l.idx, 0, b⟩ :: ⟨.voter2Image, l.idx, 0, b⟩ :: s.tx := by
  obtain ⟨-, -, htx⟩ := showImage_frame s l b
  rw [State.sendWords, State.emit_tx, State.emit_tx, htx]

theorem sendWords_tick (s : State) (l : LaneId) (b : List Byte) : ((s.sendWords l b).lane l).tick = (s.lane l).tick := by
  obtain ⟨-, htick, -⟩ := showImage_frame s l b
  rw [State.sendWords, State.emit_lane, State.emit_lane, htick]

theorem sendWords_laneEvtTx (s : State) (l : LaneId) (b : List Byte) : LaneEvtTx l s (s.sendWords l b) := by
  obtain ⟨hshow, -, -⟩ := showImage_frame s l b
  have hfirst := LaneTx.evtTx (hshow.emit .voter2Image l.idx 0 b)
  exact hfirst.trans (LaneTx.evtTx ((LaneOnly.refl l _).emit .voter1Image l.idx 0 b))

/-- A lane whose image `b` has been sent: one halt request less is to be sent. -/
def Lane.imageSent (x : Lane) (b : List Byte) : Lane :=
  { x with
    tick := { x.tick with haltSend := x.tick.haltSend - 1 }
    rt := { x.rt with image := b, suspect := 0, leave := false, haltReq := false } }

/-- An image goes to both voters, a withheld one is recorded, and the lane counts what it has sent. -/
theorem sendImages_eq (s : State) (l : LaneId) (off : Bool) :
    s.sendImages l off = ((s.sendWords l (imageBytes32 (s.formImage l off))).imageRecord l (s.formImage l off).withheld).updLane l
      (fun x => x.imageSent (imageBytes32 (s.formImage l off))) := rfl

theorem sendImages_tx (s : State) (l : LaneId) (off : Bool) : (s.sendImages l off).tx =
    ⟨.voter1Image, l.idx, 0, imageBytes32 (s.formImage l off)⟩ :: ⟨.voter2Image, l.idx, 0, imageBytes32 (s.formImage l off)⟩ :: s.tx := by
  rw [sendImages_eq, State.updLane_tx, (imageRecord_eventOnly ..).tx, sendWords_tx]

theorem sendImages_haltSend (s : State) (l : LaneId) (off : Bool) :
    ((s.sendImages l off).lane l).tick.haltSend = (s.lane l).tick.haltSend - 1 := by
  rw [sendImages_eq]
  simp [Lane.imageSent, imageRecord_tick, sendWords_tick]

theorem sendImages_laneEvtTx (s : State) (l : LaneId) (off : Bool) : LaneEvtTx l s (s.sendImages l off) := by
  rw [sendImages_eq]
  have hrecord := (sendWords_laneEvtTx s l (imageBytes32 (s.formImage l off))).trans
    (LaneEvt.evtTx ((imageRecord_eventOnly _ l (s.formImage l off).withheld).inLane l))
  exact hrecord.trans (LaneEvt.evtTx (LaneOnly.evt (.upd ..)))

/-! ### The overrun -/

/-- Lane `l` with its tasks stopped, its phase 6, two halt requests to send, and the event recorded. -/
def State.overrunStop (s : State) (l : LaneId) (c : Nat) : State :=
  ((s.updLane l (fun x => { x with tick := { x.tick with stopped := true, haltSend := 2 } })).lfSet l TCK_STATUS_PHASE 6).laneEvt l 0x1011
    [(1, l.idx), (1, c)]

theorem overrunStop_tick (s : State) (l : LaneId) (c : Nat) :
    ((s.overrunStop l c).lane l).tick = { (s.lane l).tick with stopped := true, haltSend := 2 } := by
  simp [State.overrunStop]

theorem overrunStop_phase (s : State) (l : LaneId) (c : Nat) : (s.overrunStop l c).lf l TCK_STATUS_PHASE = 6 := by
  rw [State.overrunStop, State.lf_laneEvt _ _ _ _ _ _ rfl, State.lf_lfSet_same _ _ _ _ rfl]
  rfl

theorem overrunStop_laneEvt (s : State) (l : LaneId) (c : Nat) : LaneEvt l s (s.overrunStop l c) :=
  ((LaneOnly.upd l s _).trans (.lfSet ..)).evt.laneEvt _ _

theorem overrunStop_tx (s : State) (l : LaneId) (c : Nat) : (s.overrunStop l c).tx = s.tx :=
  (EventOnly.tx (overrunStop_laneEvt s l c)).trans (State.setLane_tx ..)

theorem overrunBeyond_eq {s : State} {l : LaneId} (c : Nat) (hstop : (s.lane l).tick.stopped = false) :
    s.overrunBeyond l c = if (s.lane l).tick.inV then (s.overrunStop l c).sendImages l true else s.overrunStop l c := by
  have hinV : ((s.overrunStop l c).lane l).tick.inV = (s.lane l).tick.inV := by rw [overrunStop_tick]
  rw [State.overrunBeyond, if_neg (by simp [hstop]), ← hinV]
  rfl

/-- Settles O6: the lane stops its tasks, and its images are all-off with the halt request while one is still to be sent. -/
theorem overrunBeyondToleranceStopsLane : Obligations.OverrunBeyondToleranceStopsLane := by
  unfold Obligations.OverrunBeyondToleranceStopsLane
  intro s l c hs hc hnow htol hstop
  have hexec : exec (.overrunBeyondTolerance l c) s = .next (s.overrunBeyond l c) := by
    show execOverrunBeyondTolerance l c s = _
    rw [execOverrunBeyondTolerance, if_pos (by simp [hs, hc, hnow, htol])]
  have hstopped : ((s.overrunStop l c).lane l).tick.stopped = true := by rw [overrunStop_tick]
  have hsend : ((s.overrunStop l c).lane l).tick.haltSend = 2 := by rw [overrunStop_tick]
  rw [hexec, overrunBeyond_eq c hstop]
  cases hinV : (s.lane l).tick.inV with
  | false =>
    rw [if_neg (by decide)]
    exact ⟨_, rfl, hstopped, overrunStop_phase s l c, (overrunStop_laneEvt s l c).evtTx, formImage_halted (by simp [hsend]),
      fun _ => ⟨hsend, overrunStop_tx s l c⟩, nofun⟩
  | true =>
    rw [if_pos rfl]
    have hkept := (SettingKept.refl false l (s.overrunStop l c)).sendImages (off := true)
    have hleft : (((s.overrunStop l c).sendImages l true).lane l).tick.haltSend = 1 := by rw [sendImages_haltSend, hsend]
    obtain ⟨hout, hreq⟩ := formImage_halted (s := s.overrunStop l c) (l := l) (by simp [hsend]) true
    refine ⟨_, rfl, hkept.stopped.trans hstopped, (hkept.lf _).trans (overrunStop_phase s l c),
      (overrunStop_laneEvt s l c).evtTx.trans (sendImages_laneEvtTx ..), formImage_halted (by simp [hleft]), nofun,
      fun _ => ⟨hleft, _, hout, hreq, ?_⟩⟩
    rw [sendImages_tx, overrunStop_tx]

end Sys2Proof.Machine

/-! The life cycle (03 R105, R106): which of its states can follow which, and that every command keeps to that order. -/

namespace Sys2Proof

/-! ### The order of the life cycle -/

/-- Life-cycle state `b` may follow `a` in a run: nothing enters or leaves FACTORY, COMMISSIONING is never entered again, and RETIRED is
never left (03 R105, R106). -/
structure Life.Before (a b : Life) : Prop where
  factory : b = .factory ↔ a = .factory
  commissioning : a ≠ .factory → a ≠ .commissioning → b ≠ .commissioning
  retired : a = .retired → b = .retired

namespace Life.Before

theorem refl (a : Life) : Before a a := ⟨.rfl, fun _ h => h, id⟩

theorem trans {a b c : Life} (hab : Before a b) (hbc : Before b c) : Before a c where
  factory := hbc.factory.trans hab.factory
  commissioning hf hc := hbc.commissioning (mt hab.factory.mp hf) (hab.commissioning hf hc)
  retired h := hbc.retired (hab.retired h)

end Life.Before

end Sys2Proof

namespace Sys2Proof.Machine

/-- The transitions of R106's table that a request can make. -/
theorem State.lifeTo_cases {s : State} {v : Nat} {new : Life} (h : s.lifeTo v = some new) :
    (s.md.life = .commissioning ∧ new = .inService) ∨ (s.md.life = .inService ∧ new = .depotOpen) ∨
      (s.md.life = .depotOpen ∧ (new = .inService ∨ new = .retired)) := by
  unfold State.lifeTo at h
  extract_lets m admitted at h
  split at h
  case h_5 => cases h
  all_goals
    split at h
    · cases h
      simp [*]
    · cases h

theorem State.lifeTo_before {s : State} {v : Nat} {new : Life} (h : s.lifeTo v = some new) : Life.Before s.md.life new := by
  obtain ⟨hold, rfl⟩ | ⟨hold, rfl⟩ | ⟨hold, rfl | rfl⟩ := State.lifeTo_cases h <;> rw [hold] <;> constructor <;> decide

end Sys2Proof.Machine

namespace Sys2Proof

/-! ### What a command does to the life cycle -/

/-- The commands that can carry a life-cycle request: the three of 0x1003:00, and the end of A, at which the lanes act on what the relay
brought. -/
def Instr.asksLife : Instr → Bool
  | .endOfA .. | .lifecycleToInService .. | .lifecycleToDepotOpen .. | .lifecycleToRetired .. => true
  | _ => false

end Sys2Proof

namespace Sys2Proof.Machine

/-- Every command that carries no request leaves the life cycle as it is. -/
theorem exec_life {i : Instr} {s t : State} (hi : i.asksLife = false) (e : exec i s = .next t) : t.md.life = s.md.life := by
  cases i with
  | endOfA | lifecycleToInService | lifecycleToDepotOpen | lifecycleToRetired => cases hi
  | tickEdge => exact execTickEdge_life e
  | syncBeat => exact execSyncBeat_life e
  | laneOutOfStep => exact execLaneOutOfStep_life e
  | tickMarker => exact execTickMarker_life e
  | hubLossEnter => exact execHubLossEnter_life e
  | hubLossLeave => exact execHubLossLeave_life e
  | supervisorEdge => exact execSupervisorEdge_life e
  | hubEdge => exact execHubEdge_life e
  | endOfL => exact execEndOfL_life e
  | imagePacketReceive => exact execImagePacketReceive_life e
  | imageCutoff => exact execImageCutoff_life e
  | receiptReceive => exact execReceiptReceive_life e
  | receiptCutoff => exact execReceiptCutoff_life e
  | inputDisagreementFlag => exact execInputDisagreementFlag_life e
  | inputDisagreementClear => exact execInputDisagreementClear_life e
  | enterPhaseE => exact execEnterPhaseE_life e
  | enterPhaseV => exact execEnterPhaseV_life e
  | safetyDeadline => exact execSafetyDeadline_life e
  | overrunBeyondTolerance => exact execOverrunBeyondTolerance_life e
  | nonsafetyDeadline => exact execNonsafetyDeadline_life e
  | taskTrap => exact execTaskTrap_life e
  | laneMemoryRead => exact execLaneMemoryRead_life e
  | cdEnc => exact execCdEnc_life e
  | cdDec => exact execCdDec_life e
  | cdChk => exact execCdChk_life e
  | cdResig => exact execCdResig_life e
  | cdAdd => exact execCdAdd_life e
  | cdSub => exact execCdSub_life e
  | cdMul => exact execCdMul_life e
  | cdMulq => exact execCdMulq_life e
  | cdDiv => exact execCdDiv_life e
  | cdRem => exact execCdRem_life e
  | cdSra => exact execCdSra_life e
  | cdWrap => exact execCdWrap_life e
  | cdSlt => exact execCdSlt_life e
  | cdSeq => exact execCdSeq_life e
  | cdBand => exact execCdBand_life e
  | cdBor => exact execCdBor_life e
  | cdBnot => exact execCdBnot_life e
  | cdCond => exact execCdCond_life e
  | cdPfold => exact execCdPfold_life e
  | cdRebase => exact execCdRebase_life e
  | cdFenc => exact execCdFenc_life e
  | cdFdec => exact execCdFdec_life e
  | cdFmul => exact execCdFmul_life e
  | cdFdiv => exact execCdFdiv_life e
  | cdFsqrt => exact execCdFsqrt_life e
  | cdFmadd => exact execCdFmadd_life e
  | cdFsgnjx => exact execCdFsgnjx_life e
  | cdFlt => exact execCdFlt_life e
  | cdFle => exact execCdFle_life e
  | cdFeq => exact execCdFeq_life e
  | cdFcvtX => exact execCdFcvtX_life e
  | cdFcvtF => exact execCdFcvtF_life e
  | cdFclass => exact execCdFclass_life e
  | cdFrebase => exact execCdFrebase_life e
  | encodedPassIllegal => exact execEncodedPassIllegal_life e
  | cdaCsrWrite => exact execCdaCsrWrite_life e
  | tckClsDoneWrite => exact execTckClsDoneWrite_life e
  | tckFrameLowRead => exact execTckFrameLowRead_life e
  | xchVcountWrite => exact execXchVcountWrite_life e
  | votImgSend => exact execVotImgSend_life e
  | votV1ImgLatch => exact execVotV1ImgLatch_life e
  | votCtlSend => exact execVotCtlSend_life e
  | voterImageReceive => exact execVoterImageReceive_life e
  | voterImageCutoff => exact execVoterImageCutoff_life e
  | laneWatchdogExpire => exact execLaneWatchdogExpire_life e
  | withholdLimitRemove => exact execWithholdLimitRemove_life e
  | voter1Disregard => exact execVoter1Disregard_life e
  | statusRecordReceive => exact execStatusRecordReceive_life e
  | voterDifferenceRecord => exact execVoterDifferenceRecord_life e
  | voterDifferenceHalt => exact execVoterDifferenceHalt_life e
  | checksumPacketReceive => exact execChecksumPacketReceive_life e
  | realignPageSend => exact execRealignPageSend_life e
  | realignPageReceive => exact execRealignPageReceive_life e
  | realignFinalPass => exact execRealignFinalPass_life e
  | realignmentAbandon => exact execRealignmentAbandon_life e
  | stationTimeout => exact execStationTimeout_life e
  | durableReport => exact execDurableReport_life e
  | modeRequestConfigure => exact execModeRequestConfigure_life e
  | modeRequestDepot => exact execModeRequestDepot_life e
  | modeRequestRun => exact execModeRequestRun_life e
  | modeRequestShutDown => exact execModeRequestShutDown_life e
  | wakeInputQualified => exact execWakeInputQualified_life e
  | rtcAlarm => exact execRtcAlarm_life e
  | startStepTimeout => exact execStartStepTimeout_life e
  | wakeWithdrawnTimeout => exact execWakeWithdrawnTimeout_life e
  | c3TimeLimit => exact execC3TimeLimit_life e
  | bridgeRegisterStore => exact execBridgeRegisterStore_life e
  | bridgeCombinedStore => exact execBridgeCombinedStore_life e
  | wcBufferIssue => exact execWcBufferIssue_life e
  | fence => exact execFence_life e
  | bridgeLoad => exact execBridgeLoad_life e
  | writeResponse => exact execWriteResponse_life e
  | readResponse => exact execReadResponse_life e
  | flushAck => exact execFlushAck_life e
  | discardTimerExpire => exact execDiscardTimerExpire_life e
  | linkReset => exact execLinkReset_life e
  | brgResetWrite => exact execBrgResetWrite_life e
  | linkRetrained => exact execLinkRetrained_life e
  | inboundWrite => exact execInboundWrite_life e
  | inboundRead => exact execInboundRead_life e
  | pdeItemArrive => exact execPdeItemArrive_life e
  | pdeVdoneWrite => exact execPdeVdoneWrite_life e
  | pdeFetchCutoff => exact execPdeFetchCutoff_life e
  | sinkTransmitOpportunity => exact execSinkTransmitOpportunity_life e
  | pdeGo => exact execPdeGo_life e
  | pdeDoorbell => exact execPdeDoorbell_life e
  | pdeAbort => exact execPdeAbort_life e
  | queuedInputItem => exact execQueuedInputItem_life e
  | queuedOutputComplete => exact execQueuedOutputComplete_life e
  | circularInputItem => exact execCircularInputItem_life e
  | pdeRdWrite => exact execPdeRdWrite_life e
  | pdeCqClaim => exact execPdeCqClaim_life e
  | pdeCqRelease => exact execPdeCqRelease_life e
  | pdeCqTailWrite => exact execPdeCqTailWrite_life e
  | pdeArmWrite => exact execPdeArmWrite_life e
  | pdeArmSample => exact execPdeArmSample_life e
  | pdeArmUnmatched => exact execPdeArmUnmatched_life e
  | frameReceive => exact execFrameReceive_life e
  | frameEgress => exact execFrameEgress_life e
  | quarantineHoldEnd => exact execQuarantineHoldEnd_life e
  | portReleaseHeld => exact execPortReleaseHeld_life e
  | portLinkUp => exact execPortLinkUp_life e
  | portLinkDown => exact execPortLinkDown_life e
  | trellisBankSwitch => exact execTrellisBankSwitch_life e
  | windowClaim => exact execWindowClaim_life e
  | windowRelease => exact execWindowRelease_life e
  | harvestPassSend => exact execHarvestPassSend_life e
  | harvestFrameReturn => exact execHarvestFrameReturn_life e
  | harvestPassLost => exact execHarvestPassLost_life e
  | harvestRingNormal => exact execHarvestRingNormal_life e
  | harvestStationMissing => exact execHarvestStationMissing_life e
  | canFrameReceive => exact execCanFrameReceive_life e
  | canTransmitStart => exact execCanTransmitStart_life e
  | canArbitrationLost => exact execCanArbitrationLost_life e
  | canTransmitComplete => exact execCanTransmitComplete_life e
  | canTransmitError => exact execCanTransmitError_life e
  | canBusOff => exact execCanBusOff_life e
  | canHoldoffEnd => exact execCanHoldoffEnd_life e
  | canRecoveryComplete => exact execCanRecoveryComplete_life e
  | canReleaseBlocked => exact execCanReleaseBlocked_life e
  | canTxcancelWrite => exact execCanTxcancelWrite_life e
  | canRestrictedEnd => exact execCanRestrictedEnd_life e
  | canTriggerFire => exact execCanTriggerFire_life e
  | canServiceSegment => exact execCanServiceSegment_life e
  | canSegmentGapTimeout => exact execCanSegmentGapTimeout_life e
  | ptpSyncReceive => exact execPtpSyncReceive_life e
  | syncReceiptTimeout => exact execSyncReceiptTimeout_life e
  | holdoverTimeout => exact execHoldoverTimeout_life e
  | rateUpdate => exact execRateUpdate_life e
  | syncSend => exact execSyncSend_life e
  | pdelayRequestSend => exact execPdelayRequestSend_life e
  | setTime => exact execSetTime_life e
  | tbSettimeWrite => exact execTbSettimeWrite_life e
  | tbCapture => exact execTbCapture_life e
  | tbLowWordRead => exact execTbLowWordRead_life e
  | connectionReset => exact execConnectionReset_life e
  | slyCrcGo => exact execSlyCrcGo_life e
  | slyCrcDone => exact execSlyCrcDone_life e
  | inputThresholdCross => exact execInputThresholdCross_life e
  | inputFilterChange => exact execInputFilterChange_life e
  | darkPulseStart => exact execDarkPulseStart_life e
  | darkPulseEnd => exact execDarkPulseEnd_life e
  | readbackChange => exact execReadbackChange_life e
  | darkSlotCheck => exact execDarkSlotCheck_life e
  | switchOverloadTrip => exact execSwitchOverloadTrip_life e
  | voterSilenceTimeout => exact execVoterSilenceTimeout_life e
  | brakeCurrentOutOfRange => exact execBrakeCurrentOutOfRange_life e
  | brakeProofTest => exact execBrakeProofTest_life e
  | proofTestOverdue => exact execProofTestOverdue_life e
  | resetInputRise => exact execResetInputRise_life e
  | resetInputFall => exact execResetInputFall_life e
  | resetHeldTimeout => exact execResetHeldTimeout_life e
  | serviceRead => exact execServiceRead_life e
  | serviceWrite => exact execServiceWrite_life e
  | serviceInfo => exact execServiceInfo_life e
  | serviceCancel => exact execServiceCancel_life e
  | serviceOutcome => exact execServiceOutcome_life e
  | transferTimeout => exact execTransferTimeout_life e
  | laneLocalRequest => exact execLaneLocalRequest_life e
  | relayEntryExpire => exact execRelayEntryExpire_life e
  | configCommit => exact execConfigCommit_life e
  | configDiscard => exact execConfigDiscard_life e
  | configRestoreDefaults => exact execConfigRestoreDefaults_life e
  | dictionaryImageLoad => exact execDictionaryImageLoad_life e
  | trainDirectoryWrite => exact execTrainDirectoryWrite_life e
  | tokenRefill => exact execTokenRefill_life e
  | partnerThrottle => exact execPartnerThrottle_life e
  | throttleEnd => exact execThrottleEnd_life e
  | partnerSlotFree => exact execPartnerSlotFree_life e
  | cbkSubmit => exact execCbkSubmit_life e
  | cbkTokenGain => exact execCbkTokenGain_life e
  | decantToSd => exact execDecantToSd_life e
  | decantToService => exact execDecantToService_life e
  | unfreezeTail => exact execUnfreezeTail_life e
  | reopenFirstFill => exact execReopenFirstFill_life e
  | decantComplete => exact execDecantComplete_life e
  | stageProgramFromHost => exact execStageProgramFromHost_life e
  | stageProgramFromSd => exact execStageProgramFromSd_life e
  | stageFirmwareFromHost => exact execStageFirmwareFromHost_life e
  | stageFirmwareFromSd => exact execStageFirmwareFromSd_life e
  | stagingSegmentWrite => exact execStagingSegmentWrite_life e
  | switchProgram => exact execSwitchProgram_life e
  | gateMessageReceive => exact execGateMessageReceive_life e
  | installInService => exact execInstallInService_life e
  | installNextLane => exact execInstallNextLane_life e
  | installAdmitTimeout => exact execInstallAdmitTimeout_life e
  | hubRunningReport => exact execHubRunningReport_life e
  | hubRestartTimeout => exact execHubRestartTimeout_life e
  | installAtNextStart => exact execInstallAtNextStart_life e
  | abortRacking => exact execAbortRacking_life e
  | discardStaged => exact execDiscardStaged_life e
  | cooperGo => exact execCooperGo_life e
  | cooperStop => exact execCooperStop_life e
  | cooperRunDone => exact execCooperRunDone_life e
  | repairEntrySubmit => exact execRepairEntrySubmit_life e
  | ageingRecordSubmit => exact execAgeingRecordSubmit_life e
  | commandedTest => exact execCommandedTest_life e
  | avsRaise => exact execAvsRaise_life e
  | avsLower => exact execAvsLower_life e
  | fmaxProjection => exact execFmaxProjection_life e
  | fAllowLower => exact execFAllowLower_life e
  | ageingReport => exact execAgeingReport_life e
  | dailyAgeingRecord => exact execDailyAgeingRecord_life e
  | handoverRequest => exact execHandoverRequest_life e
  | handoverTimeout => exact execHandoverTimeout_life e
  | takeHoldoffExpire => exact execTakeHoldoffExpire_life e
  | startWaitExpire => exact execStartWaitExpire_life e
  | shadowMismatch => exact execShadowMismatch_life e
  | shadowMismatchClear => exact execShadowMismatchClear_life e
  | mainInputBelowRange => exact execMainInputBelowRange_life e
  | mainInputLost => exact execMainInputLost_life e
  | mainInputRestored => exact execMainInputRestored_life e
  | mainInputOvervoltage => exact execMainInputOvervoltage_life e
  | overvoltageDisconnect => exact execOvervoltageDisconnect_life e
  | holdupExhausted => exact execHoldupExhausted_life e
  | holdupRechargeDone => exact execHoldupRechargeDone_life e
  | dumpComplete => exact execDumpComplete_life e
  | outputSupplyOutOfRange => exact execOutputSupplyOutOfRange_life e
  | outputSupplyRestored => exact execOutputSupplyRestored_life e
  | keepaliveLow => exact execKeepaliveLow_life e
  | boardOvertemperature => exact execBoardOvertemperature_life e
  | supervisorSupplyLoss => exact execSupervisorSupplyLoss_life e
  | hubSupplyLoss => exact execHubSupplyLoss_life e
  | rcRead => exact execRcRead_life e
  | w1cWrite => exact execW1cWrite_life e
  | registerWrite => exact execRegisterWrite_life e
  | startStepComplete => exact execStartStepComplete_life e
  | stagingComplete => exact execStagingComplete_life e
  | sdCardRemoval => exact execSdCardRemoval_life e
  | oscillatorMonitorFault => exact execOscillatorMonitorFault_life e

theorem State.lifeRequest_before (s : State) (src v : Nat) : Life.Before s.md.life (s.lifeRequest src v).1.md.life :=
  s.lifeRequest_keeps _ src v (.refl _) fun _ => State.lifeTo_before

theorem execEndOfA_before {l : LaneId} {s t : State} (e : execEndOfA l s = .next t) : Life.Before s.md.life t.md.life :=
  execEndOfA_keeps _ (fun _ _ _ h hnew => h.trans (State.lifeTo_before hnew)) e (.refl _)

/-- Every command moves the life cycle forward or not at all. -/
theorem exec_before {i : Instr} {s t : State} (e : exec i s = .next t) : Life.Before s.md.life t.md.life := by
  cases hi : i.asksLife with
  | false => exact exec_life hi e ▸ .refl _
  | true =>
    cases i with
    | endOfA => exact execEndOfA_before e
    | lifecycleToInService src => cases e; exact s.lifeRequest_before src 3
    | lifecycleToDepotOpen src => cases e; exact s.lifeRequest_before src 4
    | lifecycleToRetired src => cases e; exact s.lifeRequest_before src 5
    | _ => cases hi

theorem step_before {s t : State} (e : step s = .next t) : Life.Before s.md.life t.md.life := by
  unfold step at e
  split at e
  · cases e; exact .refl _
  next i rest _ => exact exec_before (s := { s with pending := rest }) e

/-- Settles O58: a step is a command's effect or none, and every command keeps the order of the life cycle. -/
theorem lifeCycleNeverGoesBack : Obligations.LifeCycleNeverGoesBack := by
  unfold Obligations.LifeCycleNeverGoesBack
  intro s t e
  have h := step_before e
  exact ⟨h.factory, h.commissioning, h.retired⟩

end Sys2Proof.Machine

/-! The reset state (03 R82, R105). -/

namespace Sys2Proof.Machine

/-- A switch that its voter does not ask for is open. -/
theorem closed_eq_false_of_out {s : State} {d : Side} (h : (s.voter (voterOf d)).out = 0) (o : Nat) : s.closed d o = false := by
  simp [State.closed, h]

theorem reset_closed (d : Side) (o : Nat) : State.reset.closed d o = false :=
  closed_eq_false_of_out (by cases d <;> rfl) o

/-- Settles O59: the registers read as the tables give them, and every switch is open because no voter asks for it. -/
theorem resetStateIsStowedAndOff : Obligations.ResetStateIsStowedAndOff := by
  unfold Obligations.ResetStateIsStowedAndOff
  refine ⟨rfl, rfl, rfl, rfl, rfl, memWf_reset, fun _ => rfl, reset_closed, fun o => ?_, fun l => ?_⟩
  · rw [State.energised, reset_closed, Bool.false_and]
  · refine ⟨by cases l <;> rfl, by cases l <;> rfl, by cases l <;> rfl, fun c _ => ?_⟩
    have hcore : State.reset.core l c = {} := by cases l <;> rfl
    rw [hcore]
    exact ⟨rfl, by cases l <;> rfl⟩

end Sys2Proof.Machine

/-! The beginning of a closing phase (03 R85, R99, R100), and what leaves the lanes' running ticks as they are. -/

namespace Sys2Proof.Machine

/-! ### What decides how a closing phase begins -/

/-- `t` has each lane's supply, running tick, frame and Cooper state, and the supervisor's supply and recorded frame, as `s` has. -/
structure RunKept (s t : State) : Prop where
  supplied : ∀ l, (t.lane l).supplied = (s.lane l).supplied
  run : ∀ l, t.lf l TCK_STATUS_RUN = s.lf l TCK_STATUS_RUN
  frame : ∀ l, t.lf l TCK_FRAME = s.lf l TCK_FRAME
  cooper : ∀ l, t.lf l COO_STATUS_STATE = s.lf l COO_STATUS_STATE
  sup : t.sup.supplied = s.sup.supplied
  last : t.sup.ka.lastFrame = s.sup.ka.lastFrame

namespace RunKept

variable {s t u : State}

theorem refl (s : State) : RunKept s s := ⟨fun _ => rfl, fun _ => rfl, fun _ => rfl, fun _ => rfl, rfl, rfl⟩

theorem trans (h : RunKept s t) (g : RunKept t u) : RunKept s u where
  supplied l := (g.supplied l).trans (h.supplied l)
  run l := (g.run l).trans (h.run l)
  frame l := (g.frame l).trans (h.frame l)
  cooper l := (g.cooper l).trans (h.cooper l)
  sup := g.sup.trans h.sup
  last := g.last.trans h.last

theorem ite {c : Prop} [Decidable c] (h : RunKept s t) (g : RunKept s u) : RunKept s (if c then t else u) := by
  split
  · exact h
  · exact g

theorem onLanes {f : LaneId → State → State} (h : ∀ l s, RunKept s (f l s)) (s : State) : RunKept s (onLanes f s) :=
  ((h .a s).trans (h .b _)).trans (h .c _)

theorem ticking (h : RunKept s t) (l : LaneId) : t.ticking l = s.ticking l := by
  rw [State.ticking, h.supplied, h.run, State.ticking]

theorem anyTick (h : RunKept s t) : t.anyTick = s.anyTick := by
  simp only [State.anyTick, h.ticking]

theorem cooRuns (h : RunKept s t) (l : LaneId) : t.cooRuns l = s.cooRuns l := by
  simp only [State.cooRuns, h.supplied, h.cooper]

theorem modFrame (h : RunKept s t) : t.modFrame = s.modFrame := by
  have hticking : t.ticking = s.ticking := funext h.ticking
  have hframe : t.frame = s.frame := funext h.frame
  rw [State.modFrame, hticking, hframe, h.last, State.modFrame]

end RunKept

theorem EventOnly.runKept {s t : State} (h : EventOnly s t) : RunKept s t where
  supplied l := by rw [h.lane l]
  run l := h.lf l _ rfl
  frame l := h.lf l _ rfl
  cooper l := h.lf l _ rfl
  sup := by rw [h.sup]
  last := by rw [h.sup]

theorem runKept_md (s : State) (m : ModeState) : RunKept s { s with md := m } :=
  ⟨fun l => by cases l <;> rfl, fun l => by cases l <;> rfl, fun l => by cases l <;> rfl, fun l => by cases l <;> rfl, rfl, rfl⟩

/-- Field `f` lies apart from what runs a lane's tick and Cooper. -/
def runApart (f : Fld) : Bool := [TCK_STATUS_RUN, TCK_FRAME, COO_STATUS_STATE].all f.apart

theorem runKept_lfSet (s : State) (l : LaneId) {f : Fld} (x : Nat) (hf : runApart f = true := by rfl) : RunKept s (s.lfSet l f x) := by
  simp only [runApart, List.all_cons, List.all_nil, Bool.and_true, Bool.and_eq_true] at hf
  obtain ⟨hrun, hframe, hcooper⟩ := hf
  exact ⟨by simp, fun k => State.lf_lfSet_apart _ _ _ _ _ _ hrun, fun k => State.lf_lfSet_apart _ _ _ _ _ _ hframe,
    fun k => State.lf_lfSet_apart _ _ _ _ _ _ hcooper, by simp, by simp⟩

/-! ### Showing the mode -/

theorem loadFlags_laneOnly (s : State) (l : LaneId) : LaneOnly l s (s.loadFlags l) :=
  (LaneOnly.lfSet l s _ _).trans (.lfSet ..)

theorem loadMode_laneOnly (s : State) (l : LaneId) : LaneOnly l s (s.loadMode l) :=
  (((LaneOnly.lfSet l s _ _).trans (.lfSet ..)).trans (loadFlags_laneOnly _ l)).trans (.lfSet ..)

theorem showMode_lanesOnly (s : State) : LanesOnly s s.showMode :=
  .onLanes (fun l s => .ite (loadFlags_laneOnly s l) (.ite (loadMode_laneOnly s l) (.refl l s))) s

theorem runKept_loadFlags (s : State) (l : LaneId) : RunKept s (s.loadFlags l) :=
  (runKept_lfSet s l _).trans (runKept_lfSet _ l _)

theorem runKept_loadMode (s : State) (l : LaneId) : RunKept s (s.loadMode l) :=
  (((runKept_lfSet s l _).trans (runKept_lfSet _ l _)).trans (runKept_loadFlags _ l)).trans (runKept_lfSet _ l _)

theorem runKept_showMode (s : State) : RunKept s s.showMode :=
  .onLanes (fun l s => .ite (runKept_loadFlags s l) (.ite (runKept_loadMode s l) (.refl s))) s

/-! ### The beginning (R99, R100) -/

/-- The mode of the module as a closing phase of this trigger begins at frame `n`. -/
def ModeState.begun (m : ModeState) (trigger : Nat) (holdup : Bool) (n : Nat) : ModeState :=
  { m with start := none, closing := some ⟨1, trigger, holdup, frameAdd n 2, none, 0, 0, 0, true, 0, false⟩ }

/-- `s` with no change of mode due: those that were due are recorded as not acted on, and a decant ends. -/
def State.dueGivesWay (s : State) : State :=
  (s.md.due.foldl (fun (t : State) d => t.notActed (causePriority d.cause) 1) { s with md := { s.md with due := [] } }).decantEnd 6

/-- `s` as the closing phase has begun, before anything follows in it. -/
def State.closingBegun (s : State) (trigger : Nat) (holdup : Bool) : State :=
  ({ s.dueGivesWay with md := s.dueGivesWay.md.begun trigger holdup s.dueGivesWay.modFrame } : State).showMode

theorem closeNow_eq (s : State) (trigger : Nat) (holdup : Bool) : s.closeNow trigger holdup =
    if holdup then (s.closingBegun trigger holdup).closeOnHoldup
    else if (s.closingBegun trigger holdup).anyTick then s.closingBegun trigger holdup else (s.closingBegun trigger holdup).beginC2 := by
  rfl

theorem foldl_notActed_eventOnly (ds : List ModeDue) (s : State) :
    EventOnly s (ds.foldl (fun (t : State) d => t.notActed (causePriority d.cause) 1) s) :=
  foldl_eventOnly _ (fun s _ => supEvt_eventOnly s _ _) ds s

theorem dueGivesWay_eventOnly (s : State) : EventOnly { s with md := { s.md with due := [] } } s.dueGivesWay :=
  (foldl_notActed_eventOnly _ _).trans (decantEnd_eventOnly _ 6)

theorem dueGivesWay_runKept (s : State) : RunKept s s.dueGivesWay :=
  (runKept_md s _).trans (dueGivesWay_eventOnly s).runKept

section
variable (s : State) (trigger : Nat) (holdup : Bool)

theorem closingBegun_runKept : RunKept s (s.closingBegun trigger holdup) :=
  ((dueGivesWay_runKept s).trans (runKept_md _ _)).trans (runKept_showMode _)

theorem closingBegun_md : (s.closingBegun trigger holdup).md =
    { s.md with due := [] }.begun trigger holdup s.modFrame := by
  rw [State.closingBegun, (showMode_lanesOnly _).md, (dueGivesWay_runKept s).modFrame]
  show s.dueGivesWay.md.begun trigger holdup s.modFrame = _
  rw [(dueGivesWay_eventOnly s).md]

theorem closingBegun_sup : (s.closingBegun trigger holdup).sup = { s.sup with kept := (s.closingBegun trigger holdup).sup.kept } := by
  rw [State.closingBegun, (showMode_lanesOnly _).sup]
  exact (dueGivesWay_eventOnly s).sup

end

theorem closingTrigger_eq {s : State} (trigger : Nat) (holdup : Bool) (hmode : s.md.mode ≠ .stowed) (hnone : s.md.closing = none)
    (hsup : s.sup.supplied = true) (hcoo : ∀ l, s.cooRuns l = false) :
    s.closingTrigger trigger holdup = s.closeNow trigger holdup := by
  simp [State.closingTrigger, hmode, hnone, hsup, hcoo, lanes]

/-- On main input, with a lane's tick running, nothing more follows at the trigger. -/
theorem closingTrigger_onInput {s : State} (trigger : Nat) (hmode : s.md.mode ≠ .stowed) (hnone : s.md.closing = none)
    (hsup : s.sup.supplied = true) (htick : s.anyTick = true) (hcoo : ∀ l, s.cooRuns l = false) :
    s.closingTrigger trigger false = s.closingBegun trigger false := by
  rw [closingTrigger_eq trigger false hmode hnone hsup hcoo, closeNow_eq, if_neg (by decide),
    if_pos ((closingBegun_runKept s trigger false).anyTick.trans htick)]

end Sys2Proof.Machine

/-! Mode requests and life-cycle requests (03 R84 to R86, R106, R109). -/

namespace Sys2Proof.Machine

/-! ### Mode requests (R84 to R86, R109) -/

theorem setDue_eq_of_due_nil {s : State} (h : s.md.due = []) (target : Mode) (frame cause : Nat) :
    s.setDue target frame cause = { s with md := { s.md with due := [⟨target, frame, cause⟩] } } := by
  simp [State.setDue, h]

theorem refuseMode_eventOnly (s : State) (v reason code : Nat) : EventOnly s (s.refuseMode v reason code).1 :=
  supEvt_eventOnly s _ _

section
variable {s : State} {src : Nat}

/-- A request that passes the conditions common to all is judged by its own. -/
theorem modeRequest_eq {v : Nat} (hv : 1 ≤ v ∧ v ≤ 4) (hlevel : 1 ≤ s.sourceLevel src) (htest : v = 4 ∨ s.coo.test = none)
    (hnone : s.md.closing = none) (hmode : s.md.mode ≠ .stowed) : s.modeRequest src v =
      if v = 1 then
        if s.md.mode == .depot && s.md.life ≠ .retired then s.requestDue .configure (frameAdd s.modFrame 1) 16
        else s.refuseMode v 2 0x0501
      else if v = 2 then
        if safeMode s.md.mode then s.requestDue .depot (frameAdd s.modFrame 2) 13 else s.refuseMode v 2 0x0501
      else if v = 3 then
        if s.md.mode == .configure && lanes.all (fun l => !(s.lane l).supplied || decide ((s.lane l).admission = some 0)) then
          s.requestDue .start (frameAdd s.modFrame 1) 9
        else if s.md.mode == .depot then s.requestDue .start (frameAdd s.modFrame 1) 17
        else s.refuseMode v 2 0x0501
      else (s.closingTrigger 3 false, 0) := by
  have hlevel : ¬s.sourceLevel src < 1 := by omega
  have hrange : (v < 1 || 4 < v) = false := by simp; omega
  have htest : (v ≠ 4 && s.coo.test.isSome) = false := by rcases htest with h | h <;> simp [h]
  have hopen : (s.md.closing.isSome || s.md.mode == .stowed) = false := by simp [hnone, hmode]
  rw [State.modeRequest]
  simp only [if_neg hlevel, hrange, htest, hopen, Bool.false_eq_true, if_false]

theorem ite_fst_eventOnly {c : Prop} [Decidable c] {x y : State × Nat} (hx : c → EventOnly s x.1) (hy : ¬c → EventOnly s y.1) :
    EventOnly s (if c then x else y).1 := by
  split
  · exact hx ‹_›
  · exact hy ‹_›

/-- A request without the rights, or one that the mode does not permit, is recorded at most, whatever else holds of it. -/
theorem modeRequest_eventOnly {v : Nat} (hv : v < 4)
    (h : s.sourceLevel src = 0 ∨ (v = 1 → s.md.mode ≠ .depot ∨ s.md.life = .retired) ∧ (v = 2 → safeMode s.md.mode = false) ∧
      (v = 3 → s.md.mode ≠ .depot ∧ s.md.mode ≠ .configure)) :
    EventOnly s (s.modeRequest src v).1 := by
  have refused (reason code : Nat) {c : Prop} (_ : c) : EventOnly s (s.refuseMode v reason code).1 := refuseMode_eventOnly s v reason code
  rw [State.modeRequest]
  refine ite_fst_eventOnly (refused _ _) fun hlevel => ?_
  obtain ⟨h1, h2, h3⟩ := h.resolve_left (by omega)
  refine ite_fst_eventOnly (refused _ _) fun hrange => ite_fst_eventOnly (refused _ _) fun _ => ite_fst_eventOnly (refused _ _) fun _ =>
    ite_fst_eventOnly (fun hv1 => ?_) fun _ => ite_fst_eventOnly (fun hv2 => ?_) fun _ => ite_fst_eventOnly (fun hv3 => ?_) fun _ => ?_
  · refine ite_fst_eventOnly (fun hyes => ?_) (refused _ _)
    obtain ⟨hmode, hlife⟩ : s.md.mode = .depot ∧ s.md.life ≠ .retired := by simpa using hyes
    exact ((h1 hv1).elim (absurd hmode) hlife).elim
  · exact ite_fst_eventOnly (fun hyes => absurd hyes (by simp [h2 hv2])) (refused _ _)
  · obtain ⟨hdepot, hconfigure⟩ := h3 hv3
    exact ite_fst_eventOnly (fun hyes => absurd hyes (by simp [hconfigure])) fun _ =>
      ite_fst_eventOnly (fun hyes => absurd hyes (by simp [hdepot])) (refused _ _)
  · have : v = 0 := by omega
    simp [this] at hrange

end

/-! ### Life-cycle requests (R106) -/

/-- `s` after an accepted request of `src` for life-cycle state `new`, before RETIRED closes the module. -/
def State.takeLife (s : State) (new : Life) (src : Nat) : State :=
  ((({ s with
      md := { s.md with life := new }
      sup := { s.sup with ka := { s.sup.ka with life := new.code } } } : State).storedSet 0x1002 0 [BitVec.ofNat 8 new.code]).showMode).supEvt
    0x0030 [(1, s.md.life.code), (1, new.code), (1, src)]

section
variable (s : State) (new : Life) (src : Nat)

theorem takeLife_md : (s.takeLife new src).md = { s.md with life := new } := by
  rw [State.takeLife, State.supEvt_md, (showMode_lanesOnly _).md, State.storedSet_md]

theorem takeLife_ka : (s.takeLife new src).sup.ka = { s.sup.ka with life := new.code } := by
  rw [State.takeLife, State.supEvt_sup_ka, (showMode_lanesOnly _).sup, State.storedSet_sup]

theorem takeLife_runKept : RunKept s (s.takeLife new src) := by
  have hset : RunKept s (({ s with
      md := { s.md with life := new }
      sup := { s.sup with ka := { s.sup.ka with life := new.code } } } : State).storedSet 0x1002 0 [BitVec.ofNat 8 new.code]) :=
    ⟨fun l => by cases l <;> rfl, fun l => by cases l <;> rfl, fun l => by cases l <;> rfl, fun l => by cases l <;> rfl, rfl, rfl⟩
  exact (hset.trans (runKept_showMode _)).trans (supEvt_eventOnly _ _ _).runKept

end

section
variable {s : State} {src v : Nat}

theorem lifeRequest_accepted {new : Life} (hlevel : 3 ≤ s.sourceLevel src) (hnone : s.md.closing = none) (h : s.lifeTo v = some new) :
    (s.lifeRequest src v).1 = if new == .retired then (s.takeLife new src).closingTrigger 4 false else s.takeLife new src := by
  have hopen : (decide (s.sourceLevel src < 3) || s.md.closing.isSome) = false := by simp [hnone]; omega
  rw [State.lifeRequest, hopen, h]
  rfl

theorem lifeRequest_eventOnly (h : s.sourceLevel src < 3 ∨ s.lifeTo v = none) : EventOnly s (s.lifeRequest src v).1 := by
  rw [State.lifeRequest]
  refine ite_fst_eventOnly (fun _ => supEvt_eventOnly s _ _) fun hopen => ?_
  rw [h.resolve_left (by simp at hopen; omega)]
  exact supEvt_eventOnly s _ _

end

/-- The modes after a closing trigger on main input that finds nothing in its way. -/
theorem closingTrigger_md {s : State} (trigger : Nat) (hmode : s.md.mode ≠ .stowed) (hnone : s.md.closing = none)
    (hsup : s.sup.supplied = true) (htick : s.anyTick = true) (hcoo : ∀ l, s.cooRuns l = false) :
    (s.closingTrigger trigger false).md = { s.md with due := [] }.begun trigger false s.modFrame := by
  rw [closingTrigger_onInput trigger hmode hnone hsup htick hcoo, closingBegun_md]

theorem exec_lifecycleToRetired {s : State} {src : Nat} (hnone : s.md.closing = none) (hlevel : 3 ≤ s.sourceLevel src)
    (hdepot : s.md.mode = .depot) (hlife : s.md.life = .depotOpen) (hsup : s.sup.supplied = true) (htick : s.anyTick = true)
    (hcoo : ∀ l, s.cooRuns l = false) :
    ∃ t, exec (.lifecycleToRetired src) s = .next t ∧ t.md.life = .retired ∧ t.sup.ka.life = Life.retired.code ∧
      t.md.closing = some ⟨1, 4, false, frameAdd s.modFrame 2, none, 0, 0, 0, true, 0, false⟩ := by
  have hto : s.lifeTo 5 = some .retired := by simp [State.lifeTo, hlife, hdepot]
  have hkept := takeLife_runKept s .retired src
  have hbegun : (s.takeLife .retired src).closingTrigger 4 false = (s.takeLife .retired src).closingBegun 4 false :=
    closingTrigger_onInput 4 (by simp [takeLife_md, hdepot]) (by simp [takeLife_md, hnone]) (hkept.sup.trans hsup)
      (hkept.anyTick.trans htick) fun l => (hkept.cooRuns l).trans (hcoo l)
  refine ⟨_, rfl, ?_⟩
  rw [lifeRequest_accepted hlevel hnone hto, if_pos (by decide), hbegun, closingBegun_md, closingBegun_sup, takeLife_md, takeLife_ka,
    hkept.modFrame]
  exact ⟨rfl, rfl, rfl⟩

/-- Settles O41: an accepted request is put at its edge, begins the closing phase or takes the new state of the life cycle, and every
other one is refused. -/
theorem modeAndLifeCycleRequests : Obligations.ModeAndLifeCycleRequests := by
  unfold Obligations.ModeAndLifeCycleRequests
  intro s src hnone hmode
  refine ⟨fun hlevel htest hdue => ⟨fun hm hlife => ?_, fun hm => ?_, fun hm hadm => ?_, fun hm => ?_⟩, fun hlevel hsup htick hcoo => ?_,
    fun h => ⟨_, rfl, modeRequest_eventOnly (by decide) (by simpa using h)⟩,
    fun h => ⟨_, rfl, modeRequest_eventOnly (by decide) (by simpa using h)⟩,
    fun h => ⟨_, rfl, modeRequest_eventOnly (by decide) (by simpa using h)⟩, fun h => ⟨_, rfl, ?_⟩,
    fun hlevel hdepot => ⟨fun hlife hkey => ?_, fun hlife => ?_, exec_lifecycleToRetired hnone hlevel hdepot⟩,
    fun h => ⟨_, rfl, lifeRequest_eventOnly (h.imp_right fun h => ?_)⟩,
    fun h => ⟨_, rfl, lifeRequest_eventOnly (h.imp_right fun h => ?_)⟩,
    fun h => ⟨_, rfl, lifeRequest_eventOnly (h.imp_right fun h => ?_)⟩⟩
  · show Host.Outcome.next (s.modeRequest src 1).1 = _
    rw [modeRequest_eq (by decide) hlevel (.inr htest) hnone hmode, if_pos rfl, if_pos (by simp [hm, hlife])]
    exact congrArg _ (setDue_eq_of_due_nil hdue ..)
  · show Host.Outcome.next (s.modeRequest src 2).1 = _
    rw [modeRequest_eq (by decide) hlevel (.inr htest) hnone hmode, if_neg (by decide), if_pos rfl, if_pos hm]
    exact congrArg _ (setDue_eq_of_due_nil hdue ..)
  · show Host.Outcome.next (s.modeRequest src 3).1 = _
    have hall (l : LaneId) : (s.lane l).supplied = false ∨ (s.lane l).admission = some 0 := by
      cases hl : (s.lane l).supplied
      · exact .inl rfl
      · exact .inr (hadm l hl)
    rw [modeRequest_eq (by decide) hlevel (.inr htest) hnone hmode, if_neg (by decide), if_neg (by decide), if_pos rfl,
      if_pos (by simp [hm, hall])]
    exact congrArg _ (setDue_eq_of_due_nil hdue ..)
  · show Host.Outcome.next (s.modeRequest src 3).1 = _
    rw [modeRequest_eq (by decide) hlevel (.inr htest) hnone hmode, if_neg (by decide), if_neg (by decide), if_pos rfl,
      if_neg (by simp [hm]), if_pos (by simp [hm])]
    exact congrArg _ (setDue_eq_of_due_nil hdue ..)
  · have hmd := closingTrigger_md 3 hmode hnone hsup htick hcoo
    refine ⟨s.closingTrigger 3 false, ?_, by rw [hmd]; rfl, by rw [hmd]; rfl, by rw [hmd]; rfl, by rw [hmd]; rfl⟩
    show Host.Outcome.next (s.modeRequest src 4).1 = _
    rw [modeRequest_eq (by decide) hlevel (.inl rfl) hnone hmode]
    rfl
  · rw [State.modeRequest, if_pos (by omega)]
    exact refuseMode_eventOnly ..
  · have hto : s.lifeTo 3 = some .inService := by simp [State.lifeTo, hlife, hdepot, hkey]
    exact ⟨s.takeLife .inService src, congrArg _ (lifeRequest_accepted hlevel hnone hto), by rw [takeLife_md], by rw [takeLife_ka],
      by rw [takeLife_md]; exact hdepot⟩
  · have hto : s.lifeTo 4 = some .depotOpen := by simp [State.lifeTo, hlife, hdepot]
    exact ⟨s.takeLife .depotOpen src, congrArg _ (lifeRequest_accepted hlevel hnone hto), by rw [takeLife_md], by rw [takeLife_ka],
      by rw [takeLife_md]; exact hdepot⟩
  · rcases h with h | h <;> simp [State.lifeTo, h]
  · cases hl : s.md.life <;> simp_all [State.lifeTo]
  · cases hl : s.md.life <;> simp_all [State.lifeTo]

end Sys2Proof.Machine

/-! What leaves the module's mode, its supplies and what voter 2 asks for as they are: the layer that the statements about wakes, start
steps, the closing phase and the main input stand on (03, 20). -/

namespace Sys2Proof.Machine

/-! ### What is left -/

/-- `t` has the supervisor's supply, the power unit's state, the outputs that voter 2 asks for and the duration of the last dump as `s`
has. -/
structure SupKept (s t : State) : Prop where
  sup : t.sup.supplied = s.sup.supplied
  pw : t.sup.pw = s.sup.pw
  out : t.sup.v2.out = s.sup.v2.out
  dump : t.sup.ka.lastDump = s.sup.ka.lastDump

/-- `t` has the supplies of the hub and of every lane as `s` has. -/
structure DiesKept (s t : State) : Prop where
  hub : t.hub.supplied = s.hub.supplied
  lanes : ∀ l, (t.lane l).supplied = (s.lane l).supplied

/-- `t` has all of that, and the modes, as `s` has. -/
structure Steady (s t : State) : Prop extends SupKept s t, DiesKept s t where
  md : t.md = s.md

section
variable {s t u : State}

theorem SupKept.refl (s : State) : SupKept s s := ⟨rfl, rfl, rfl, rfl⟩

theorem SupKept.trans (h : SupKept s t) (g : SupKept t u) : SupKept s u :=
  ⟨g.sup.trans h.sup, g.pw.trans h.pw, g.out.trans h.out, g.dump.trans h.dump⟩

theorem SupKept.of_sup (h : t.sup = s.sup) : SupKept s t := by
  constructor <;> rw [h]

theorem DiesKept.refl (s : State) : DiesKept s s := ⟨rfl, fun _ => rfl⟩

theorem DiesKept.trans (h : DiesKept s t) (g : DiesKept t u) : DiesKept s u :=
  ⟨g.hub.trans h.hub, fun l => (g.lanes l).trans (h.lanes l)⟩

/-- A change of components that are none of those named. -/
theorem Steady.of_eq (hmd : t.md = s.md := by rfl) (hsup : t.sup = s.sup := by rfl) (hhub : t.hub.supplied = s.hub.supplied := by rfl)
    (hlane : t.lane = s.lane := by rfl) : Steady s t :=
  ⟨.of_sup hsup, ⟨hhub, fun l => by rw [hlane]⟩, hmd⟩

theorem EventOnly.steady (h : EventOnly s t) : Steady s t :=
  ⟨by constructor <;> rw [h.sup], ⟨by rw [h.hub], fun l => by rw [h.lane l]⟩, h.md⟩

/-- A change of lanes that leaves their supplies. -/
theorem LanesOnly.steady (h : LanesOnly s t) (hs : ∀ l, (t.lane l).supplied = (s.lane l).supplied) : Steady s t :=
  ⟨.of_sup h.sup, ⟨by rw [h.hub], hs⟩, h.md⟩

end

/-! ### The shared operations -/

namespace Steady

variable {s t u : State} {l : LaneId}

theorem refl (s : State) : Steady s s := ⟨.refl s, .refl s, rfl⟩

theorem trans (h : Steady s t) (g : Steady t u) : Steady s u :=
  ⟨h.toSupKept.trans g.toSupKept, h.toDiesKept.trans g.toDiesKept, g.md.trans h.md⟩

theorem ite {c : Prop} [Decidable c] (h : Steady s t) (g : Steady s u) : Steady s (if c then t else u) := by
  split
  · exact h
  · exact g

theorem foldl {α : Type} {f : State → α → State} {xs : List α} (hf : ∀ t x, Steady s t → Steady s (f t x)) (h : Steady s t) :
    Steady s (xs.foldl f t) := by
  induction xs generalizing t with
  | nil => exact h
  | cons x xs ih => exact ih (hf t x h)

theorem onLanes {f : LaneId → State → State} (hf : ∀ l t, Steady s t → Steady s (f l t)) (h : Steady s t) : Steady s (onLanes f t) :=
  hf .c _ (hf .b _ (hf .a t h))

theorem lregSet {a : Nat} {v : Word} (h : Steady s t) : Steady s (t.lregSet l a v) :=
  h.trans ((LaneOnly.lregSet l t a v).lanesOnly.steady (by simp))

theorem lfSet {f : Fld} {x : Nat} (h : Steady s t) : Steady s (t.lfSet l f x) := h.lregSet

theorem lfSetIf {c : Prop} [Decidable c] {f : Fld} {x : Nat} (h : Steady s t) : Steady s (if c then t.lfSet l f x else t) := .ite h.lfSet h

theorem lcount {f : Fld} {x : Nat} (h : Steady s t) : Steady s (t.lcount l f x) := h.lfSet

theorem updLane {f : Lane → Lane} (h : Steady s t) (hf : ∀ x, (f x).supplied = x.supplied := by exact fun _ => rfl) :
    Steady s (t.updLane l f) := by
  refine h.trans ((LaneOnly.upd l t f).lanesOnly.steady fun k => ?_)
  rw [State.updLane_lane]
  split
  · rw [hf, ‹k = l›]
  · rfl

theorem lmemSet {a : Nat} {bs : List Byte} (h : Steady s t) : Steady s (t.lmemSet l a bs) := h.updLane

theorem hregSet {a : Nat} {v : Word} (h : Steady s t) : Steady s (t.hregSet a v) :=
  h.trans (.of_eq (by simp) (by simp) (by simp) (funext fun l => by simp))

theorem hfSet {f : Fld} {x : Nat} (h : Steady s t) : Steady s (t.hfSet f x) := h.hregSet

theorem emit {k : EmitKind} {place tag : Nat} {bs : List Byte} (h : Steady s t) : Steady s (t.emit k place tag bs) := h.trans .of_eq

theorem cntSet {i j v : Nat} (h : Steady s t) : Steady s (t.cntSet i j v) := h.trans .of_eq

theorem cntAdd {i j v : Nat} (h : Steady s t) : Steady s (t.cntAdd i j v) := h.trans .of_eq

theorem volSet {i j : Nat} {bs : List Byte} (h : Steady s t) : Steady s (t.volSet i j bs) := h.trans .of_eq

theorem mramWrite {a : Nat} {bs : List Byte} (h : Steady s t) : Steady s (t.mramWrite a bs) := h.trans .of_eq

theorem supEvt {code : Nat} {parts : List (Nat × Nat)} (h : Steady s t) : Steady s (t.supEvt code parts) :=
  h.trans (supEvt_eventOnly t code parts).steady

theorem laneEvt {code : Nat} {parts : List (Nat × Nat)} (h : Steady s t) : Steady s (t.laneEvt l code parts) :=
  h.trans (laneEvt_eventOnly t l code parts).steady

theorem hubEvt {code : Nat} {parts : List (Nat × Nat)} (h : Steady s t) : Steady s (t.hubEvt code parts) :=
  h.trans (hubEvt_eventOnly t code parts).steady

theorem allEvt {code : Nat} {parts : List (Nat × Nat)} (h : Steady s t) : Steady s (t.allEvt code parts) :=
  h.trans (allEvt_eventOnly t code parts).steady

theorem showMode (h : Steady s t) : Steady s t.showMode :=
  h.trans ((showMode_lanesOnly t).steady (runKept_showMode t).supplied)

/-! ### What a lane takes and does in a start step (03 R88) -/

theorem dropUnused (h : Steady s t) : Steady s (t.dropUnused l) := by
  unfold State.dropUnused
  exact h.lfSet.lfSet.updLane

theorem loadField (h : Steady s t) : Steady s (t.loadField l) := by
  unfold State.loadField
  refine .dropUnused (.lfSet (.lfSet (.lfSet (.foldl (fun _ _ h => h.lfSet) (.lfSet ?_)))))
  exact .foldl (fun _ _ h => h.lfSet.lfSet) (.foldl (fun _ _ h => h.lfSet) h)

theorem loadShadow (h : Steady s t) : Steady s (t.loadShadow l) := by
  unfold State.loadShadow
  exact .foldl (fun t c h => .ite (.lfSet (.foldl (fun _ _ h => h.lregSet) h)) (.foldl (fun _ _ h => h.lregSet) h)) h

theorem checkVlist (h : Steady s t) : Steady s (t.checkVlist l) := h.lfSet.lfSet.lfSet

theorem loadVerify (h : Steady s t) : Steady s (t.loadVerify l) := by
  unfold State.loadVerify
  exact .ite h (.checkVlist h.lmemSet.lfSet)

theorem loadConfig (h : Steady s t) : Steady s (t.loadConfig l) := by
  unfold State.loadConfig State.loadDeadlines
  refine .loadVerify (.loadShadow (.loadField (.updLane ?_)))
  exact h.lfSet.lfSet.lfSet.lfSet.lfSet.lfSet.lfSet.lfSet.lfSet.lfSet.lfSet.lfSet.lfSet.lfSet.lfSet

theorem judgeActive (h : Steady s t) : Steady s (t.judgeActive l) := by
  unfold State.judgeActive
  exact .ite h.updLane (.ite (.laneEvt (.cntSet h.updLane)) (.cntSet h.updLane))

theorem fillSafeMap (h : Steady s t) : Steady s (t.fillSafeMap l) := by
  unfold State.fillSafeMap
  exact .ite h h.lmemSet

theorem showPlan (h : Steady s t) : Steady s (t.showPlan l) := h.lfSet.lfSet

theorem loadProg {b : List Byte} (h : Steady s t) : Steady s (t.loadProg l b) := by
  unfold State.loadProg
  exact .showPlan (.lfSet (.lfSet (.lfSet (.fillSafeMap h.updLane))))

theorem admitActive (h : Steady s t) : Steady s (t.admitActive l) := by
  unfold State.admitActive
  exact .ite h.judgeActive.loadProg h.judgeActive

theorem linksUp {meas : List Nat} (h : Steady s t) : Steady s (t.linksUp l meas) := by
  unfold State.linksUp
  exact .lfSetIf (.lfSetIf h.lfSet.lfSet.lfSet.lfSet)

theorem completeJournal (h : Steady s t) : Steady s (t.completeJournal l) := by
  unfold State.completeJournal
  exact .ite h (.mramWrite (.foldl (fun _ _ h => h.mramWrite) h))

/-! ### Loss of a lane's supply (01 R26) -/

/-- A change of the keep-alive domain that leaves the duration of the last dump. -/
theorem kaSet {f : KeepAlive → KeepAlive} (h : Steady s t) (hf : ∀ k, (f k).lastDump = k.lastDump := by exact fun _ => rfl) :
    Steady s (t.kaSet f) :=
  h.trans ⟨⟨rfl, rfl, rfl, hf _⟩, ⟨rfl, fun l => by cases l <;> rfl⟩, rfl⟩

theorem noteFrame (h : Steady s t) : Steady s (t.noteFrame l) := by
  unfold State.noteFrame
  exact .ite (h.kaSet (f := fun k => { k with lastFrame := frameMax k.lastFrame (t.frame l) })) h

theorem linksDown (h : Steady s t) : Steady s (t.linksDown l) := h.lfSet.lfSet

theorem chanUpd {c : Nat} {f : Chan → Chan} (h : Steady s t) : Steady s (t.chanUpd c f) := h.trans .of_eq

theorem pdeStateSet {c n : Nat} (h : Steady s t) : Steady s (t.pdeStateSet c n) := h.hfSet

theorem pdeLaneOff (h : Steady s t) : Steady s (t.pdeLaneOff l) := by
  unfold State.pdeLaneOff
  refine .ite h (.foldl (fun _ _ h => ?_) (.foldl (fun _ _ h => ?_) h))
  · exact .ite (.hfSet (.hfSet (.hfSet h.hregSet))) h
  · exact .ite h.chanUpd.pdeStateSet h

theorem setSel {i bank : Nat} (h : Steady s t) : Steady s (t.setSel i bank) :=
  h.kaSet (f := fun k => { k with sel := mapSet 0 k.sel i bank })

theorem restoreSel (h : Steady s t) : Steady s t.restoreSel := by
  unfold State.restoreSel
  exact kaSet (f := fun k => { k with selPending := false }) h.setSel.setSel.setSel.setSel

theorem rackSet {x : Rack} (h : Steady s t) : Steady s { t with rack := x } := h.trans .of_eq

theorem bankRestore {k : Nat} (h : Steady s t) : Steady s (t.bankRestore k) := by
  unfold State.bankRestore
  exact .ite h.restoreSel.rackSet.supEvt h

end Steady

end Sys2Proof.Machine

/-! Loss of the lanes' and the hub's supply, and the change of mode (01 R26, R40; 03 R84). -/

namespace Sys2Proof.Machine

/-! ### The supervisor removes supplies -/

section
variable (s : State) (l : LaneId)

theorem lanePowerOff_steady : ∃ u, Steady s u ∧ s.lanePowerOff l = u.setLane l (lostSupply (s.lane l)) :=
  ⟨_, (Steady.refl s).noteFrame.linksDown.pdeLaneOff, rfl⟩

theorem lanePowerOff_sup : SupKept s (s.lanePowerOff l) := by
  obtain ⟨u, hu, h⟩ := lanePowerOff_steady s l
  rw [h]
  exact hu.toSupKept.trans (.of_sup (State.setLane_sup ..))

theorem lanePowerOff_md : (s.lanePowerOff l).md = s.md := by
  obtain ⟨u, hu, h⟩ := lanePowerOff_steady s l
  rw [h, State.setLane_md, hu.md]

theorem lanePowerOff_hub : (s.lanePowerOff l).hub.supplied = s.hub.supplied := by
  obtain ⟨u, hu, h⟩ := lanePowerOff_steady s l
  rw [h, State.setLane_hub, hu.hub]

theorem lanePowerOff_same : ((s.lanePowerOff l).lane l).supplied = false := by
  obtain ⟨u, hu, h⟩ := lanePowerOff_steady s l
  rw [h, State.setLane_lane, if_pos rfl, lostSupply]

theorem lanePowerOff_other {k : LaneId} (hk : k ≠ l) : ((s.lanePowerOff l).lane k).supplied = (s.lane k).supplied := by
  obtain ⟨u, hu, h⟩ := lanePowerOff_steady s l
  rw [h, State.setLane_lane, if_neg hk, hu.lanes]

end

theorem lanesPowerOff_sup (s : State) : SupKept s s.lanesPowerOff :=
  ((lanePowerOff_sup s .a).trans (lanePowerOff_sup _ .b)).trans (lanePowerOff_sup _ .c)

theorem lanesPowerOff_md (s : State) : s.lanesPowerOff.md = s.md :=
  onLanes_keeps State.md (fun l s => lanePowerOff_md s l) s

theorem lanesPowerOff_supplied (s : State) (l : LaneId) : (s.lanesPowerOff.lane l).supplied = false :=
  onLanes_each (P := fun t l => (t.lane l).supplied = false) (fun l s => lanePowerOff_same s l)
    (fun _ k s hk h => (lanePowerOff_other s k hk).trans h) s l

theorem hubPowerOff_lanesOnly (s : State) : LanesOnly s (onLanes (fun l s => s.hubGone l) s) :=
  .onLanes (fun l s => hubGone_laneOnly s l) s

theorem hubPowerOff_sup (s : State) : s.hubPowerOff.sup = s.sup := (hubPowerOff_lanesOnly s).sup

theorem hubPowerOff_md (s : State) : s.hubPowerOff.md = s.md := (hubPowerOff_lanesOnly s).md

theorem hubPowerOff_supplied (s : State) (l : LaneId) : (s.hubPowerOff.lane l).supplied = (s.lane l).supplied := by
  rw [hubPowerOff_lane, onLanes_keeps (fun s => (s.lane l).supplied) (fun k s => (hubGone_lane s k l).1)]

/-- `t` is `s` with the supplies of the hub and of all lanes removed. -/
structure DiesOff (s t : State) : Prop extends SupKept s t where
  md : t.md = s.md
  hub : t.hub.supplied = false
  lanes : ∀ l, (t.lane l).supplied = false

theorem diesOff (s : State) : DiesOff s s.lanesPowerOff.hubPowerOff where
  toSupKept := (lanesPowerOff_sup s).trans (.of_sup (hubPowerOff_sup _))
  md := (hubPowerOff_md _).trans (lanesPowerOff_md s)
  hub := rfl
  lanes l := (hubPowerOff_supplied _ l).trans (lanesPowerOff_supplied s l)

/-! ### The change of mode (R84) -/

namespace Steady

variable {s t : State}

/-- What is left when modes change is left of the states with the changed modes. -/
theorem mdUpd (h : Steady s t) (f : ModeState → ModeState) : Steady { s with md := f s.md } { t with md := f t.md } where
  sup := h.sup
  pw := h.pw
  out := h.out
  dump := h.dump
  hub := h.hub
  lanes := fun l => by cases l <;> [exact h.lanes .a; exact h.lanes .b; exact h.lanes .c]
  md := congrArg f h.md

theorem decantEnd {code : Nat} (h : Steady s t) : Steady s (t.decantEnd code) := h.trans (decantEnd_eventOnly t code).steady

theorem dictSet {x : Dict} (h : Steady s t) : Steady s { t with dict := x } := h.trans .of_eq

theorem bookSet {x : Book} (h : Steady s t) : Steady s { t with book := x } := h.trans .of_eq

theorem clearVote (h : Steady s t) : Steady s t.clearVote := h.trans ⟨⟨rfl, rfl, rfl, rfl⟩, ⟨rfl, fun l => by cases l <;> rfl⟩, rfl⟩

theorem startValues (h : Steady s t) : Steady s t.startValues := h.trans .of_eq

theorem freshTasks (h : Steady s t) : Steady s t.freshTasks := by
  unfold State.freshTasks
  exact .onLanes (fun _ _ h => h.updLane) h

end Steady

/-- A change of mode that is possible changes the mode, the previous mode and the frame since which the mode is; nothing of the supplies
follows. -/
theorem changeMode_steady {s : State} {m : Mode} (cause n : Nat)
    (h : ((permitted s.md.mode m && s.md.closing.isNone) || (m == .stowed && s.md.closing.isSome)) = true) :
    Steady { s with md := { s.md with mode := m, prev := s.md.mode, since := n } } (s.changeMode m cause n) := by
  rw [State.changeMode, if_pos h]
  extract_lets modes old ms changed voted book decant decanted dict dropped fresh started
  have hvoted : Steady changed voted := .ite (Steady.refl changed).clearVote.startValues (.refl changed)
  have hdecanted : Steady changed decanted := .ite (.decantEnd hvoted.bookSet) hvoted
  have hdropped : Steady changed dropped := .ite hdecanted.dictSet hdecanted
  have hstarted : Steady changed started := .ite (.onLanes (fun _ _ h => h.updLane) hdropped.freshTasks) hdropped.freshTasks
  exact hstarted.supEvt

end Sys2Proof.Machine

/-! A wake source starts the stowed module (03 R89, R103, R104). -/

namespace Sys2Proof.Machine

/-! ### What the hub's network and CAN channels do as START begins -/

namespace Steady

variable {s t : State}

theorem netSet {x : Net} (h : Steady s t) : Steady s { t with net := x } := h.trans .of_eq

theorem newTrellis {b : List Byte} {n : Nat} (h : Steady s t) : Steady s (t.newTrellis b n) := by
  unfold State.newTrellis State.otherBankSet
  exact .netSet (.hfSet (.ite h.netSet h.netSet))

theorem portUpd {p : Nat} {f : PortSt → PortSt} (h : Steady s t) : Steady s (t.portUpd p f) := h.netSet

theorem listen {p : Nat} {after : Bool} (h : Steady s t) : Steady s (t.listen p after) := by
  unfold State.listen State.portStateSet
  exact h.hfSet.hfSet.hfSet.portUpd

theorem netStart (h : Steady s t) : Steady s t.netStart := by
  unfold State.netStart State.releaseHeld State.dropClaims
  exact .ite (.foldl (fun _ _ h => .ite h.listen h) (.ite h h.netSet.newTrellis)) h

theorem canUpd {ch : Nat} {f : CanCh → CanCh} (h : Steady s t) : Steady s (t.canUpd ch f) := h.trans .of_eq

theorem canStart (h : Steady s t) : Steady s t.canStart := by
  unfold State.canStart State.canRecover
  exact .foldl (fun _ _ h => .ite h.canUpd.hfSet.hfSet.hubEvt h.canUpd) h

end Steady

/-! ### START from STOWED -/

/-- `s` woken by the causes `bits` (the layout of TCK_WAKE). -/
def State.wokenBy (s : State) (bits : Nat) : State := { s with md := { s.md with wakeCause := bits } }

/-- `s` in a start that has begun from STOWED, its store not yet charged. -/
def State.startBegun (s : State) (stv : Bool) : State :=
  { s with
    sup := { s.sup with pw := { s.sup.pw with charged := false } }
    md := { s.md with start := some { fromMode := .stowed, stv := stv } } }

theorem Steady.startBegun {s t : State} (h : Steady s t) (stv : Bool) : Steady (s.startBegun stv) (t.startBegun stv) where
  sup := h.sup
  pw := congrArg (fun p : Power => { p with charged := false }) h.pw
  out := h.out
  dump := h.dump
  hub := h.hub
  lanes := fun l => by cases l <;> [exact h.lanes .a; exact h.lanes .b; exact h.lanes .c]
  md := congrArg (fun m : ModeState => { m with start := some { fromMode := .stowed, stv := stv } }) h.md

theorem beginStart_stowed (s : State) (bits : Nat) :
    Steady ((s.wokenBy bits).startBegun s.recordValid) (s.beginStart .stowed bits) := by
  have hwoken : Steady (s.wokenBy bits) (s.wokenBy bits).netStart.canStart := (Steady.refl _).netStart.canStart
  have hlanes := Steady.onLanes (f := fun l s => s.updLane l (fun x => { x with out := false })) (fun _ _ h => h.updLane) hwoken
  exact hlanes.startBegun s.recordValid

/-- The modes `m` as a wake with the causes `bits` is accepted at frame `n`, with the wake input low or not. -/
def ModeState.woken (m : ModeState) (bits n : Nat) (low : Bool) : ModeState :=
  { m with mode := .start, prev := m.mode, since := n, lowStart := low, wakeOff := none, wakeCause := bits }

/-- An accepted wake begins a start from STOWED, with the loss of the keep-alive content as a further cause. -/
theorem acceptWake_steady {s : State} (bits : Nat) (hmode : s.md.mode = .stowed) (hnone : s.md.closing = none) :
    ∃ n stv, Steady (({ s with md := s.md.woken (bits + 8 * b2n (!s.sup.ka.content)) n (!s.sup.pw.wakeIn) } : State).startBegun stv)
      (s.acceptWake bits) := by
  unfold State.acceptWake
  extract_lets ka held src causes chosen rack idle started noted recorded told sup kept forgot modes woken
  have hchosen : Steady s chosen := .ite (.refl s) (Steady.refl s).restoreSel
  have hidle : Steady s idle := .ite hchosen.rackSet hchosen
  have hmd : idle.md = s.md := hidle.md
  have hstarted : Steady { s with md := { s.md with mode := .start, prev := s.md.mode, since := idle.modFrame } } started :=
    (hidle.mdUpd fun m => { m with mode := .start, prev := m.mode, since := idle.modFrame }).trans
      (changeMode_steady 1 _ (by rw [hmd, hmode, hnone]; rfl))
  have hrecorded : Steady _ recorded := .foldl (fun _ _ h => h.supEvt) hstarted.supEvt
  have htold : Steady { s with md := { s.md with mode := .start, prev := s.md.mode, since := idle.modFrame } } told := by
    simp only [told]
    split
    · exact .ite hrecorded hrecorded.supEvt
    · exact hrecorded
  have hforgot : Steady _ forgot := htold.kaSet (f := fun k => { k with nextEvents := [], minVka := none, alarmLatched := false, heldWake := 0 })
  have hlow : forgot.sup.pw.wakeIn = s.sup.pw.wakeIn := congrArg Power.wakeIn hforgot.pw
  have hwoken : Steady { s with md := s.md.woken causes idle.modFrame (!s.sup.pw.wakeIn) } (woken.wokenBy causes) := by
    simp only [woken, hlow]
    exact hforgot.mdUpd fun m => { m with lowStart := !s.sup.pw.wakeIn, wakeOff := none, wakeCause := causes }
  exact ⟨idle.modFrame, woken.recordValid, (hwoken.startBegun _).trans (beginStart_stowed woken causes)⟩

/-! ### The wake sources (R103, R104) -/

theorem State.obj_congr {s t : State} (h : t.dict = s.dict) (i j : Nat) : t.obj i j = s.obj i j := by
  simp only [State.obj, State.objBytes, State.objRow, h]

/-- The supervisor's clock advances to `rtc`, never backwards; of the rest only the proof test's time can go on. -/
theorem advRtc_eq (s : State) (rtc : Nat) : ∃ f, s.advRtc rtc =
    { s with sup := { s.sup with ka := { s.sup.ka with rtc := max rtc s.sup.ka.rtc } }, fld := f } := by
  unfold State.advRtc
  split
  · exact ⟨s.fld, by rw [Nat.max_eq_right ‹_›]⟩
  · have hlt : max rtc s.sup.ka.rtc = rtc := by omega
    dsimp only
    split
    · exact ⟨_, by rw [hlt]⟩
    · exact ⟨_, by rw [hlt]⟩

theorem evalWake_running {s : State} (hmode : s.md.mode ≠ .stowed) : s.evalWake = s := by
  simp [State.evalWake, hmode]

/-- With the main input in range an active source is accepted. -/
theorem evalWake_accepts {s : State} (hmode : s.md.mode = .stowed) (hnone : s.md.closing = none) (hsup : s.sup.supplied = true)
    (hin : s.sup.pw.inRange = true) (hbits : s.wakeBits ≠ 0) : s.evalWake = s.acceptWake s.wakeBits := by
  simp [State.evalWake, hmode, hnone, hsup, hin, hbits]

/-- Out of range a source is held at most. -/
theorem evalWake_held {s : State} (hin : s.sup.pw.inRange = false) : Steady s s.evalWake := by
  unfold State.evalWake
  refine .ite (.refl s) ?_
  rw [if_neg (by simp [hin])]
  exact .ite (.refl s) (.kaSet (.refl s))

/-- The active sources: the wake input and the alarm at their places in TCK_WAKE. -/
theorem bitOf_wakeBits (s : State) :
    bitOf s.wakeBits 0 = ((s.sup.pw.wakeIn || bitOf s.sup.ka.heldWake 0) && decide (s.obj 0x1016 1 = 1)) ∧
      bitOf s.wakeBits 1 = ((s.sup.ka.alarmLatched || bitOf s.sup.ka.heldWake 1) && decide (s.obj 0x1016 2 = 1)) := by
  have hflags (a b c : Bool) : bitOf (b2n a + 2 * b2n b + 4 * b2n c) 0 = a ∧ bitOf (b2n a + 2 * b2n b + 4 * b2n c) 1 = b := by
    cases a <;> cases b <;> cases c <;> decide
  exact hflags _ _ _

/-- The bit that tells of lost keep-alive content lies above the wake input and the alarm. -/
theorem bitOf_add_eight (v x : Nat) {i : Nat} (hi : i < 2) : bitOf (v + 8 * x) i = bitOf v i := by
  have h : (v + 8 * x) / 2 ^ i % 2 = v / 2 ^ i % 2 := by
    obtain rfl | rfl : i = 0 ∨ i = 1 := by omega
    all_goals omega
  rw [bitOf, h, bitOf]

/-- A source that is active in STOWED, with the main input in range, starts the module; the causes show it. -/
theorem evalWake_starts {s : State} (hmode : s.md.mode = .stowed) (hnone : s.md.closing = none) (hsup : s.sup.supplied = true)
    (hin : s.sup.pw.inRange = true) {i : Nat} (hi : i < 2) (hbit : bitOf s.wakeBits i = true) :
    s.evalWake.md.mode = .start ∧ s.evalWake.md.prev = .stowed ∧ s.evalWake.md.start.isSome ∧ bitOf s.evalWake.md.wakeCause i = true ∧
      s.evalWake.md.life = s.md.life := by
  have hbits : s.wakeBits ≠ 0 := by
    rintro h
    simp [h] at hbit
  rw [evalWake_accepts hmode hnone hsup hin hbits]
  obtain ⟨n, stv, h⟩ := acceptWake_steady s.wakeBits hmode hnone
  rw [h.md]
  refine ⟨rfl, hmode, rfl, ?_, rfl⟩
  exact (bitOf_add_eight s.wakeBits _ hi).trans hbit

theorem exec_wakeInputQualified_eq {s : State} (rtc ms : Nat) (hsup : s.sup.supplied = true) (hnone : s.md.closing = none) :
    ∃ u : State, exec (.wakeInputQualified rtc ms) s = .next u.evalWake ∧ u.md = { s.md with lowStart := false, wakeOff := none } ∧
      u.sup.pw = { s.sup.pw with wakeIn := true } ∧ u.sup.supplied = true ∧ u.dict = s.dict := by
  obtain ⟨f, hf⟩ := advRtc_eq s rtc
  refine ⟨{ s with
    sup := { s.sup with ka := { s.sup.ka with rtc := max rtc s.sup.ka.rtc }, pw := { s.sup.pw with wakeIn := true } }
    fld := f
    md := { s.md with lowStart := false, wakeOff := none } }, ?_, rfl, rfl, hsup, rfl⟩
  show execWakeInputQualified rtc ms s = _
  rw [execWakeInputQualified, hf]
  simp [hsup, hnone, State.pwSet]

theorem exec_rtcAlarm_eq {s : State} {rtc : Nat} (hsup : s.sup.supplied = true) (hnone : s.md.closing = none)
    (halarm : s.obj 0x1017 0 ≠ 0) (hrtc : s.obj 0x1017 0 ≤ rtc) :
    ∃ u : State, exec (.rtcAlarm rtc) s = .next u.evalWake ∧ u.md = s.md ∧ u.sup.pw = s.sup.pw ∧ u.sup.supplied = true ∧ u.dict = s.dict ∧
      u.sup.ka.alarmLatched = true := by
  obtain ⟨f, hf⟩ := advRtc_eq s rtc
  refine ⟨{ s with
    sup := { s.sup with ka := { s.sup.ka with rtc := max rtc s.sup.ka.rtc, alarmLatched := true } }
    fld := f }, ?_, rfl, rfl, hsup, rfl, rfl⟩
  show execRtcAlarm rtc s = _
  have hobj : (s.advRtc rtc).obj 0x1017 0 = s.obj 0x1017 0 := State.obj_congr (by rw [hf]) _ _
  have hdue : ¬max rtc s.sup.ka.rtc < s.obj 0x1017 0 := by omega
  rw [execRtcAlarm]
  dsimp only
  rw [hobj, hf]
  simp [hsup, hnone, halarm, hdue, State.kaSet]

theorem exec_wakeInputQualified_stowed {s : State} (rtc ms : Nat) (hsup : s.sup.supplied = true) (hmode : s.md.mode = .stowed)
    (hnone : s.md.closing = none) (hin : s.sup.pw.inRange = true) (hsource : s.obj 0x1016 1 = 1) :
    ∃ t, exec (.wakeInputQualified rtc ms) s = .next t ∧ t.md.mode = .start ∧ t.md.prev = .stowed ∧ t.md.start.isSome ∧
      bitOf t.md.wakeCause 0 = true ∧ t.md.life = s.md.life := by
  obtain ⟨u, he, hmd, hpw, hu, hdict⟩ := exec_wakeInputQualified_eq rtc ms hsup hnone
  have hbit : bitOf u.wakeBits 0 = true := by
    rw [(bitOf_wakeBits u).1, hpw, State.obj_congr hdict, hsource]
    rfl
  obtain ⟨hstart, hprev, hsome, hcause, hlife⟩ := evalWake_starts (by rw [hmd]; exact hmode) (by rw [hmd]; exact hnone) hu
    (by rw [hpw]; exact hin) (by decide) hbit
  exact ⟨_, he, hstart, hprev, hsome, hcause, by rw [hlife, hmd]⟩

theorem exec_wakeInputQualified_running {s : State} (rtc ms : Nat) (hsup : s.sup.supplied = true) (hmode : s.md.mode ≠ .stowed)
    (hnone : s.md.closing = none) :
    ∃ t, exec (.wakeInputQualified rtc ms) s = .next t ∧ t.sup.pw.wakeIn = true ∧
      t.md = { s.md with lowStart := false, wakeOff := none } := by
  obtain ⟨u, he, hmd, hpw, _⟩ := exec_wakeInputQualified_eq rtc ms hsup hnone
  rw [evalWake_running (by rw [hmd]; exact hmode)] at he
  exact ⟨u, he, by rw [hpw], hmd⟩

section
variable {s : State} {rtc : Nat} (hsup : s.sup.supplied = true) (hnone : s.md.closing = none) (halarm : s.obj 0x1017 0 ≠ 0)
  (hrtc : s.obj 0x1017 0 ≤ rtc)
include hsup hnone halarm hrtc

theorem exec_rtcAlarm_stowed (hmode : s.md.mode = .stowed) (hin : s.sup.pw.inRange = true) (hsource : s.obj 0x1016 2 = 1) :
    ∃ t, exec (.rtcAlarm rtc) s = .next t ∧ t.md.mode = .start ∧ t.md.prev = .stowed ∧ bitOf t.md.wakeCause 1 = true := by
  obtain ⟨u, he, hmd, hpw, hu, hdict, hlatched⟩ := exec_rtcAlarm_eq hsup hnone halarm hrtc
  have hbit : bitOf u.wakeBits 1 = true := by
    rw [(bitOf_wakeBits u).2, hlatched, State.obj_congr hdict, hsource]
    rfl
  obtain ⟨hstart, hprev, _, hcause, _⟩ := evalWake_starts (by rw [hmd, hmode]) (by rw [hmd, hnone]) hu (by rw [hpw, hin]) (by decide) hbit
  exact ⟨_, he, hstart, hprev, hcause⟩

theorem exec_rtcAlarm_running (hmode : s.md.mode ≠ .stowed) :
    ∃ t, exec (.rtcAlarm rtc) s = .next t ∧ t.sup.ka.alarmLatched = true ∧ t.md = s.md := by
  obtain ⟨u, he, hmd, _, _, _, hlatched⟩ := exec_rtcAlarm_eq hsup hnone halarm hrtc
  rw [evalWake_running (by rw [hmd]; exact hmode)] at he
  exact ⟨u, he, hlatched, hmd⟩

end

end Sys2Proof.Machine

/-! The end of a closing phase: the supplies are removed and the energy is dumped; closing on hold-up (03 R100, R102; 18 R480; 20 R523). -/

namespace Sys2Proof.Machine

/-! ### Step C5 -/

/-- `t` is in step C5 of the closing phase of `s`: nothing but the supervisor has supply, nothing is asked for, and the energy is dumped. -/
structure DumpBegun (s t : State) : Prop where
  md : t.md = { s.md with closing := s.md.closing.map fun c => { c with step := 5, lane := none } }
  dumping : t.sup.pw.dumping = true
  out : t.sup.v2.out = 0
  hub : t.hub.supplied = false
  lanes : ∀ l, (t.lane l).supplied = false

theorem closingC5_begun (s : State) : DumpBegun s s.closingC5 := by
  have hoff := diesOff s
  exact ⟨by rw [← hoff.md]; rfl, rfl, rfl, hoff.hub, fun l => by cases l <;> [exact hoff.lanes .a; exact hoff.lanes .b; exact hoff.lanes .c]⟩

/-- What comes before C5 and leaves the modes does not show in it. -/
theorem DumpBegun.of_md {s u t : State} (h : u.md = s.md) (g : DumpBegun u t) : DumpBegun s t :=
  { g with md := h ▸ g.md }

namespace Steady

variable {s t : State}

theorem bookRelease (h : Steady s t) : Steady s t.bookRelease := h.trans (bookRelease_eventOnly t).steady

theorem bookSummaries (h : Steady s t) : Steady s t.bookSummaries := by
  unfold State.bookSummaries
  exact .foldl (fun _ _ h => .ite h (.bookSet (h.trans (bookWrite_eventOnly ..).steady))) h

theorem brgUpd {l : LaneId} {f : LaneBrg → LaneBrg} (h : Steady s t) : Steady s (t.brgUpd l f) := h.updLane

theorem brgShow {l : LaneId} (h : Steady s t) : Steady s (t.brgShow l) := h.lfSet.lfSet.lfSet

theorem writeEnter {l : LaneId} {w : PendWrite} (h : Steady s t) : Steady s (t.writeEnter l w) := by
  unfold State.writeEnter
  exact .ite h.brgUpd.lfSet.brgShow h.brgUpd

theorem bridgeWrite {l : LaneId} {core a : Nat} {bs : List Byte} (h : Steady s t) : Steady s (t.bridgeWrite l core a bs) := by
  unfold State.bridgeWrite
  refine .foldl (fun t w h => ?_) h
  cases w with
  | nil => exact h
  | cons => exact h.writeEnter

theorem retainedReport {l : LaneId} (h : Steady s t) : Steady s (t.retainedReport l) := by
  unfold State.retainedReport
  exact .ite h.emit h

theorem retainedBegin {l : LaneId} (h : Steady s t) : Steady s (t.retainedBegin l) := by
  unfold State.retainedBegin State.retainedAt
  exact .retainedReport (.foldl (fun _ _ h => h.bridgeWrite) h.updLane)

theorem finalSnapshot {l : LaneId} (h : Steady s t) : Steady s (t.finalSnapshot l) := by
  unfold State.finalSnapshot
  exact .ite h h.updLane.retainedBegin

theorem storedSet {i j : Nat} {bs : List Byte} (h : Steady s t) : Steady s (t.storedSet i j bs) := h.trans .of_eq

end Steady

/-! ### Steps C3 and C4 -/

/-- Step C4 ends in C5 at once. -/
theorem closingC4_begun {s : State} {c : Closing} (hc : s.md.closing = some c) : DumpBegun s s.closingC4 := by
  unfold State.closingC4
  split
  case h_1 h => simp [hc] at h
  case h_2 c' _ =>
    extract_lets r sup ka tested ok recorded
    have htested : Steady s tested := (Steady.refl s).kaSet (f := fun k => { k with selfTest := some r })
    have hrecorded : Steady s recorded := .ite htested htested.supEvt
    exact .of_md hrecorded.bookRelease.md (closingC5_begun _)

/-- The self-test ends early with no lane running: C4 and C5 follow. -/
theorem endC3Early_begun {s : State} {c : Closing} (hc : s.md.closing = some c) (hcoo : ∀ l, s.cooRuns l = false) :
    s.endC3Early.sup.pw.dumping = true ∧ ∀ l, (s.endC3Early.lane l).supplied = false := by
  have hkept : RunKept s (s.clUpd (fun c => { c with valid := false, early := true })) := runKept_md s _
  have hbegun := closingC4_begun (s := s.clUpd (fun c => { c with valid := false, early := true }))
    (c := { c with valid := false, early := true }) (by simp [State.clUpd, hc])
  unfold State.endC3Early
  rw [hc]
  cases hl : c.lane with
  | none => simp only [hl]; exact ⟨hbegun.dumping, hbegun.lanes⟩
  | some i =>
    simp only [hl, hkept.cooRuns, hcoo]
    exact ⟨hbegun.dumping, hbegun.lanes⟩

theorem exec_c3TimeLimit {s : State} {c : Closing} {ms : Nat} (hc : s.md.closing = some c) (hstep : c.step = 3)
    (hms : s.obj 0x7200 2 * 1000 ≤ ms) : exec (.c3TimeLimit ms) s = .next s.endC3Early := by
  show execC3TimeLimit ms s = _
  simp [execC3TimeLimit, hc, hstep, hms]

/-- A running set of Cooper is told to stop, and is in state 2 then. -/
theorem cooStop_state {s : State} {l : LaneId} (h : s.cooRuns l = true) : (s.cooStop l).lf l COO_STATUS_STATE = 2 := by
  unfold State.cooStop
  split
  · exact State.lf_lfSet_same _ _ _ _ rfl
  · simp only [State.cooRuns, Bool.and_eq_true, Bool.or_eq_true, decide_eq_true_eq] at h
    exact h.2.resolve_left ‹_›

theorem cooStop_md (s : State) (l : LaneId) : (s.cooStop l).md = s.md :=
  (Steady.ite (Steady.refl s).lfSet.lfSet (.refl s)).md

/-- With the granted lane running, the self-test ends at that lane's segment end. -/
theorem endC3Early_running {s : State} {c : Closing} {i : Nat} (hc : s.md.closing = some c) (hl : c.lane = some i)
    (hcoo : s.cooRuns (laneOf i) = true) :
    s.endC3Early.md.closing = some { c with valid := false, early := true } ∧ s.endC3Early.lf (laneOf i) COO_STATUS_STATE = 2 := by
  have hkept : RunKept s (s.clUpd (fun c => { c with valid := false, early := true })) := runKept_md s _
  have hruns := (hkept.cooRuns (laneOf i)).trans hcoo
  have heq : s.endC3Early = (s.clUpd (fun c => { c with valid := false, early := true })).cooStop (laneOf i) := by
    unfold State.endC3Early
    simp only [hc, hl, hruns, if_true]
  rw [heq, cooStop_md]
  exact ⟨by simp [State.clUpd, hc], cooStop_state hruns⟩

/-! ### A wake input withdrawn (R99, R104) -/

theorem wakeWithdrawnTimeout_eq (s : State) (sec : Nat) : exec (.wakeWithdrawnTimeout sec) s =
    if s.obj 0x1016 1 = 1 && s.withdrawnLong sec then .next ((s.pwSet (fun p => { p with wakeIn := false })).closingTrigger 1 false)
    else .next (s.pwSet (fun p => { p with wakeIn := false })) := by
  rfl

end Sys2Proof.Machine

/-! The steps of START (03 R88 to R91): a step that a lane completes, or does not, while another lane has still to complete it, and the
end of a start in HALT. -/

namespace Sys2Proof.Machine

/-! ### A step that waits -/

/-- While a lane that takes part has not completed the step in progress, the start does not move on. -/
theorem startAdvance_waits {s : State} {k : LaneId} (hstep : s.st.step ≠ 0) (hpass : inSet s.passing k = true)
    (hdone : inSet s.st.done k = false) : s.startAdvance = s := by
  have hrest : nAndNot s.passing s.st.done ≠ 0 := by
    intro h
    have hbit : bitOf (nAndNot s.passing s.st.done) k.idx = true := by
      rw [bitOf_nAndNot, ← inSet, ← inSet, hpass, hdone]
      rfl
    rw [h, bitOf_zero] at hbit
    cases hbit
  have hsome : s.passing ≠ 0 := by
    intro h
    rw [h, inSet, bitOf_zero] at hpass
    cases hpass
  have hready : s.stepReady = false := by
    simp only [State.stepReady, decide_eq_false hrest, Bool.false_and]
    split
    case h_1 h => exact absurd h hstep
    all_goals rfl
  simp [State.startAdvance, hsome, hready]

/-- The part of the start in `t` that decides who has still to complete its step is that of `s`. -/
structure StartKept (s t : State) : Prop extends DiesKept s t where
  isSome : t.md.start.isSome = s.md.start.isSome
  step : t.st.step = s.st.step
  done : t.st.done = s.st.done
  excluded : t.st.excluded = s.st.excluded
  behind : t.st.behind = s.st.behind

namespace StartKept

variable {s t u : State}

theorem refl (s : State) : StartKept s s := ⟨.refl s, rfl, rfl, rfl, rfl, rfl⟩

theorem steady (h : StartKept s t) (g : Steady t u) : StartKept s u := by
  have hst : u.st = t.st := by rw [State.st, State.st, g.md]
  exact ⟨h.toDiesKept.trans g.toDiesKept, by rw [g.md, h.isSome], by rw [hst, h.step], by rw [hst, h.done], by rw [hst, h.excluded],
    by rw [hst, h.behind]⟩

theorem ite {c : Prop} [Decidable c] (h : StartKept s t) (g : StartKept s u) : StartKept s (if c then t else u) := by
  split
  · exact h
  · exact g

theorem passing (h : StartKept s t) : t.passing = s.passing := by
  simp only [State.passing, h.lanes, h.excluded, h.behind]

end StartKept

theorem st_stUpd {s : State} (f : StartState → StartState) (h : s.md.start.isSome) : (s.stUpd f).st = f s.st := by
  obtain ⟨st, hst⟩ := Option.isSome_iff_exists.1 h
  simp [State.st, State.stUpd, hst]

theorem lane_stUpd (s : State) (f : StartState → StartState) (l : LaneId) : (s.stUpd f).lane l = s.lane l := by
  cases l <;> rfl

theorem isSome_stUpd (s : State) (f : StartState → StartState) : (s.stUpd f).md.start.isSome = s.md.start.isSome := by
  simp [State.stUpd]

theorem StartKept.stUpd {s t : State} (h : StartKept s t) (hs : s.md.start.isSome) (f : StartState → StartState)
    (hf : ∀ x, (f x).step = x.step ∧ (f x).done = x.done ∧ (f x).excluded = x.excluded ∧ (f x).behind = x.behind := by
      exact fun _ => ⟨rfl, rfl, rfl, rfl⟩) : StartKept s (t.stUpd f) := by
  have hst := st_stUpd f (h.isSome.trans hs)
  obtain ⟨hstep, hdone, hexcluded, hbehind⟩ := hf t.st
  exact ⟨h.toDiesKept.trans ⟨rfl, fun l => by rw [lane_stUpd]⟩, (isSome_stUpd t f).trans h.isSome, by rw [hst, hstep, h.step],
    by rw [hst, hdone, h.done], by rw [hst, hexcluded, h.excluded], by rw [hst, hbehind, h.behind]⟩

/-! ### A lane completes its step (R88) -/

/-- What a lane does in its step leaves who has still to complete it; then the lane is among those that have. -/
theorem laneStep_eq {s : State} (l : LaneId) (k : Nat) (meas : List Nat) (hs : s.md.start.isSome) :
    ∃ u, StartKept s u ∧ s.laneStep l k meas = u.stUpd (fun st => { st with done := nOr st.done (2 ^ l.idx) }) := by
  have hself := StartKept.refl s
  refine ⟨_, ?_, rfl⟩
  refine .ite (hself.stUpd hs _) (.ite ?_ (.ite (hself.steady (Steady.refl s).linksUp) (.ite (hself.steady (Steady.refl s).completeJournal) hself)))
  exact (hself.steady (Steady.refl s).loadConfig.admitActive).stUpd hs _

theorem inSet_lane (l k : LaneId) : inSet (2 ^ l.idx) k = decide (k = l) := by
  cases l <;> cases k <;> decide

/-- A set of lanes with lane `l` added. -/
theorem inSet_add (v : Nat) (l k : LaneId) : inSet (nOr v (2 ^ l.idx)) k = (inSet v k || decide (k = l)) := by
  rw [inSet, bitOf_nOr, ← inSet, ← inSet, inSet_lane]

/-- A set of lanes with lane `l` taken out. -/
theorem inSet_remove (v : Nat) (l k : LaneId) : inSet (nAndNot v (2 ^ l.idx)) k = (inSet v k && !decide (k = l)) := by
  rw [inSet, bitOf_nAndNot, ← inSet, ← inSet, inSet_lane]

theorem inSet_passing (s : State) (l : LaneId) :
    inSet s.passing l = ((s.lane l).supplied && !inSet s.st.excluded l && !inSet s.st.behind l) := inSet_laneSet _ l

theorem supplied_of_passing {s : State} {l : LaneId} (h : inSet s.passing l = true) : (s.lane l).supplied = true := by
  rw [inSet_passing, Bool.and_assoc, Bool.and_eq_true] at h
  exact h.1

theorem startStepComplete_lane_eq {s : State} {l : LaneId} {k ms : Nat} {meas : List Nat} (hs : s.md.start.isSome)
    (hsup : s.sup.supplied = true) (hstep : s.st.step = k) (hpass : inSet s.passing l = true) (hdone : inSet s.st.done l = false)
    (hlone : (s.lane l).restart = none) (hok : s.stepOk l k = true) :
    exec (.startStepComplete (.lane l) k true ms meas) s =
      .next ((s.stUpd (fun st => { st with ms := max st.ms ms })).laneStep l k meas).startAdvance := by
  have hkept : StartKept s (s.stUpd (fun st => { st with ms := max st.ms ms })) := (StartKept.refl s).stUpd hs _
  have hok : (s.stUpd (fun st => { st with ms := max st.ms ms })).stepOk l k = true := hok
  have hnone : s.md.start.isNone = false := by simpa using hs
  show execStartStepComplete (.lane l) k true ms meas s = _
  rw [execStartStepComplete]
  simp only [hlone, hnone, hsup, hkept.passing, hpass, hdone, hstep, hok, ne_eq, not_true_eq_false, decide_false]
  rfl

/-- A lane that reports its step is counted; another one that has still to report keeps the step in progress. -/
theorem exec_startStepComplete_lane {s : State} {l k : LaneId} {step : Nat} (ms : Nat) (meas : List Nat) (hsup : s.sup.supplied = true)
    (hs : s.md.start.isSome) (hstep : s.st.step = step) (h0 : step ≠ 0) (hlk : l ≠ k) (hl : inSet s.passing l = true)
    (hldone : inSet s.st.done l = false) (hk : inSet s.passing k = true) (hkdone : inSet s.st.done k = false)
    (hlone : (s.lane l).restart = none) (hok : s.stepOk l step = true) :
    ∃ t, exec (.startStepComplete (.lane l) step true ms meas) s = .next t ∧ inSet t.st.done l = true ∧ t.st.step = step ∧
      (t.lane l).supplied = true := by
  have hbegin : StartKept s (s.stUpd (fun st => { st with ms := max st.ms ms })) := (StartKept.refl s).stUpd hs _
  obtain ⟨u, hu, heq⟩ := laneStep_eq l step meas (hbegin.isSome.trans hs)
  have hst := st_stUpd (fun st => { st with done := nOr st.done (2 ^ l.idx) }) (hu.isSome.trans (hbegin.isSome.trans hs))
  have hpassing : (u.stUpd (fun st => { st with done := nOr st.done (2 ^ l.idx) })).passing = s.passing := by
    rw [← hbegin.passing, ← hu.passing]
    simp only [State.passing, hst, lane_stUpd]
  refine ⟨_, startStepComplete_lane_eq hs hsup hstep hl hldone hlone hok, ?_⟩
  rw [heq, startAdvance_waits (k := k), hst, inSet_add, hu.step, hbegin.step, lane_stUpd, hu.lanes, hbegin.lanes]
  · exact ⟨by simp, hstep, supplied_of_passing hl⟩
  · rw [hst, hu.step, hbegin.step, hstep]
    exact h0
  · rw [hpassing, hk]
  · rw [hst, inSet_add, hu.done, hbegin.done, hkdone]
    simpa using hlk.symm

/-! ### A lane is excluded (R89) -/

/-- A start without lane `l`, which has failed step `k`. -/
def StartState.without (st : StartState) (l : LaneId) (k : Nat) : StartState :=
  { st with
    excluded := nOr st.excluded (2 ^ l.idx), behind := nAndNot st.behind (2 ^ l.idx)
    failStep := if st.failStep = 0 then k + 1 else st.failStep }

/-- The start goes on without the lane, whose supply is removed; what is recorded and restored with it changes neither. -/
theorem exclude_steady (s : State) (l : LaneId) (k : Nat) :
    Steady ((s.stUpd (fun st => st.without l k)).lanePowerOff l) (s.exclude l k) := by
  have hrecorded := (Steady.refl ((s.stUpd (fun st => st.without l k)).lanePowerOff l)).supEvt (code := 0x0006) (parts := [(1, l.idx), (1, k)])
  exact .ite hrecorded.bankRestore hrecorded

section
variable {s : State} (l : LaneId) (k : Nat)

theorem st_exclude (hs : s.md.start.isSome) : (s.exclude l k).st = s.st.without l k := by
  rw [State.st, (exclude_steady s l k).md, lanePowerOff_md, ← State.st, st_stUpd _ hs]

theorem supplied_exclude_same : ((s.exclude l k).lane l).supplied = false := by
  rw [(exclude_steady s l k).lanes, lanePowerOff_same]

theorem supplied_exclude_other {m : LaneId} (hm : m ≠ l) : ((s.exclude l k).lane m).supplied = (s.lane m).supplied := by
  rw [(exclude_steady s l k).lanes, lanePowerOff_other _ _ hm, lane_stUpd]

theorem inSet_passing_exclude {m : LaneId} (hs : s.md.start.isSome) (hm : m ≠ l) :
    inSet (s.exclude l k).passing m = inSet s.passing m := by
  rw [inSet_passing, inSet_passing, supplied_exclude_other l k hm, st_exclude l k hs]
  simp [StartState.without, inSet_add, inSet_remove, hm]

end

/-- A lane that does not complete its step in time is switched off and left out; another one keeps the step in progress. -/
theorem exec_startStepTimeout_lane {s : State} {l k : LaneId} {step : Nat} (hs : s.md.start.isSome) (hstep : s.st.step = step)
    (h0 : step ≠ 0) (hlk : l ≠ k) (hl : inSet s.passing l = true) (hldone : inSet s.st.done l = false) (hk : inSet s.passing k = true)
    (hkdone : inSet s.st.done k = false) (hlone : (s.lane l).restart = none) :
    ∃ t, exec (.startStepTimeout (.lane l) step) s = .next t ∧ (t.lane l).supplied = false ∧ inSet t.st.excluded l = true ∧
      t.st.step = step ∧ (t.lane k).supplied = true := by
  have heq : exec (.startStepTimeout (.lane l) step) s = .next (s.exclude l step).startAdvance := by
    show execStartStepTimeout (.lane l) step s = _
    simp [execStartStepTimeout, hlone, hs, hstep, hl, hldone]
  refine ⟨_, heq, ?_⟩
  rw [startAdvance_waits (k := k), supplied_exclude_same, supplied_exclude_other l step hlk.symm, st_exclude l step hs]
  · exact ⟨rfl, by simp [StartState.without, inSet_add], hstep, supplied_of_passing hk⟩
  · rw [st_exclude l step hs]
    exact hstep ▸ h0
  · rw [inSet_passing_exclude l step hs hlk.symm, hk]
  · rw [st_exclude l step hs]
    exact hkdone

/-! ### The start ends in HALT (R90, R91) -/

namespace Steady

variable {s t : State}

theorem showStart {l : LaneId} (h : Steady s t) : Steady s (t.showStart l) := by
  unfold State.showStart State.showReport
  exact h.lfSet.lfSet.lfSet.lfSet.lfSet.lfSet

theorem cooSet {x : Coop} (h : Steady s t) : Steady s { t with coo := x } := h.trans .of_eq

theorem forecast (h : Steady s t) : Steady s t.forecast := by
  unfold State.forecast
  exact .ite h.cntSet.cntSet (.cooSet (.ite (.allEvt h.cntSet.cntSet) h.cntSet.cntSet))

theorem forecastStart (h : Steady s t) : Steady s t.forecastStart := h.cooSet.forecast

end Steady

/-- A start that ends in HALT leaves the modes, but for the start and its report. -/
theorem finishStart_md {s : State} (hhalt : s.md.mode = .halt) (hs : s.md.start.isSome) :
    ∃ r, s.finishStart.md = { s.md with start := none, last := r } := by
  obtain ⟨st, hst⟩ := Option.isSome_iff_exists.1 hs
  unfold State.finishStart
  split
  case h_1 h => simp [hst] at h
  case h_2 =>
    extract_lets m shown timed caused failed restored halted late refused sent md
    have hshown : Steady s shown := .onLanes (fun _ _ h => .ite h.showStart h) (.refl s)
    have hfailed : Steady s failed := hshown.cntSet.cntSet.cntSet
    have hhalted : Steady s halted := by
      simp only [halted, m, hhalt, beq_self_eq_true, if_true]
      exact hfailed.bankRestore.supEvt
    have hlate : Steady s late := .ite hhalted.supEvt hhalted
    have hrefused : Steady s refused := .ite hlate.supEvt hlate
    have hsent : Steady s sent := hrefused.volSet.volSet
    exact ⟨sent.startReport, (hsent.mdUpd fun m => { m with start := none, last := sent.startReport }).forecastStart.md⟩

theorem startHalt_md {s : State} (hmode : s.md.mode = .start) (hs : s.md.start.isSome) (hnone : s.md.closing = none)
    (htick : s.anyTick = false) : s.startHalt.md.mode = .halt ∧ s.startHalt.md.start = none := by
  have hchanged : (s.changeMode .halt 7 s.modFrame).md = { s.md with mode := .halt, prev := .start, since := s.modFrame } := by
    rw [(changeMode_steady 7 _ (by rw [hmode, hnone]; rfl)).md, hmode]
  obtain ⟨r, hr⟩ := finishStart_md (s := s.changeMode .halt 7 s.modFrame) (by rw [hchanged]) (by rw [hchanged]; exact hs)
  rw [State.startHalt, htick, if_neg (by decide), (showMode_lanesOnly _).md, hr, hchanged]
  exact ⟨rfl, rfl⟩

/-- A module failure in START while no lane's tick runs ends the start in HALT at once. -/
theorem startFails_md {s : State} (k : Nat) (hmode : s.md.mode = .start) (hs : s.md.start.isSome) (hnone : s.md.closing = none)
    (htick : s.anyTick = false) : (s.startFails k).md.mode = .halt ∧ (s.startFails k).md.start = none :=
  startHalt_md hmode ((isSome_stUpd s _).trans hs) hnone htick

theorem exec_startStepTimeout_hub {s : State} {step : Nat} (hs : s.md.start.isSome) (hmode : s.md.mode = .start)
    (hnone : s.md.closing = none) (htick : s.anyTick = false) (hstep : s.st.step = step) (h27 : step = 2 ∨ step = 7)
    (hhub : s.st.hubDone = false) :
    ∃ t, exec (.startStepTimeout .hub step) s = .next t ∧ t.md.mode = .halt ∧ t.md.start = none := by
  refine ⟨s.startFails step, ?_, startFails_md step hmode hs hnone htick⟩
  show execStartStepTimeout .hub step s = _
  rcases h27 with rfl | rfl <;> simp [execStartStepTimeout, hs, hstep, hhub]

end Sys2Proof.Machine

/-! Wakes, steps of START and the end of the shutdown self-test (03 R89, R90, R99, R102 to R104). -/

namespace Sys2Proof.Machine

/-- A wake input withdrawn for longer than the shutdown delay begins the closing phase. -/
theorem exec_wakeWithdrawnTimeout {s : State} {sec : Nat} (hsup : s.sup.supplied = true) (hsource : s.obj 0x1016 1 = 1)
    (hlong : s.withdrawnLong sec = true) (hmode : s.md.mode ≠ .stowed) (hnone : s.md.closing = none) (htick : s.anyTick = true)
    (hcoo : ∀ l, s.cooRuns l = false) :
    ∃ t, exec (.wakeWithdrawnTimeout sec) s = .next t ∧ t.sup.pw.wakeIn = false ∧ t.md.mode = s.md.mode ∧
      t.md.closing = some ⟨1, 1, false, frameAdd s.modFrame 2, none, 0, 0, 0, true, 0, false⟩ := by
  have hbegun : (s.pwSet (fun p => { p with wakeIn := false })).closingTrigger 1 false =
      (s.pwSet (fun p => { p with wakeIn := false })).closingBegun 1 false :=
    closingTrigger_onInput 1 hmode hnone hsup htick hcoo
  refine ⟨_, (wakeWithdrawnTimeout_eq s sec).trans (if_pos (by simp [hsource, hlong])), ?_⟩
  rw [hbegun, closingBegun_md, closingBegun_sup]
  exact ⟨rfl, rfl, rfl⟩

/-- Settles O42: a wake is accepted or noted, the end of C3 is the segment's or C5, and a start whose step another lane has still to
complete stays in that step. -/
theorem wakeStartStepsAndClosing : Obligations.WakeStartStepsAndClosing := by
  unfold Obligations.WakeStartStepsAndClosing
  intro s hsup
  refine ⟨fun rtc ms hmode hnone hin hsource => exec_wakeInputQualified_stowed rtc ms hsup hmode hnone hin hsource,
    fun rtc ms hmode hnone => exec_wakeInputQualified_running rtc ms hsup hmode hnone,
    fun rtc hmode hnone hin hsource halarm hrtc => exec_rtcAlarm_stowed hsup hnone halarm hrtc hmode hin hsource,
    fun rtc halarm hrtc hmode hnone => exec_rtcAlarm_running hsup hnone halarm hrtc hmode,
    fun sec hsource hlong hmode hnone => exec_wakeWithdrawnTimeout hsup hsource hlong hmode hnone,
    fun sec h => (wakeWithdrawnTimeout_eq s sec).trans (if_neg ?_), fun ms c hc hstep hms => ⟨fun hcoo => ?_, fun i hi hcoo => ?_⟩,
    fun l k step ms meas hs hstep h0 _ hlk hl hldone hk hkdone hlone hok =>
      exec_startStepComplete_lane ms meas hsup hs hstep h0 hlk hl hldone hk hkdone hlone hok,
    fun l k step hs hstep h0 _ hlk hl hldone hk hkdone hlone => exec_startStepTimeout_lane hs hstep h0 hlk hl hldone hk hkdone hlone,
    fun step hs hmode hnone htick hstep h27 hhub => exec_startStepTimeout_hub hs hmode hnone htick hstep h27 hhub⟩
  · rcases h with h | h <;> simp [h]
  · exact ⟨_, exec_c3TimeLimit hc hstep hms, endC3Early_begun hc hcoo⟩
  · exact ⟨_, exec_c3TimeLimit hc hstep hms, endC3Early_running hc hi hcoo⟩

end Sys2Proof.Machine

/-! The main input leaves its range and returns, an overvoltage, and the end of the hold-up (03 R99, R102; 20 R517, R523, R538, R540,
R541). -/

namespace Sys2Proof.Machine

/-! ### What the lanes are shown (20 R534) -/

theorem powerInt_lanesOnly (s : State) (f : Fld) : LanesOnly s (s.powerInt f) :=
  .onLanes (fun l s => .ite (.lfSet l s f 1) (.refl l s)) s

/-- An interrupt cause is set on every supplied lane. -/
theorem lf_powerInt (s : State) {f : Fld} {l : LaneId} (hok : f.ok = true) (hbit : f.hi = f.lo) (hs : (s.lane l).supplied = true) :
    (s.powerInt f).lf l f = 1 := by
  have hset (l : LaneId) (s : State) : ((if (s.lane l).supplied then s.lfSet l f 1 else s).lane l).supplied = true →
      (if (s.lane l).supplied then s.lfSet l f 1 else s).lf l f = 1 := by
    split
    · intro _
      rw [State.lf_lfSet_same _ _ _ _ hok, hbit, Nat.add_sub_cancel_left]
      rfl
    · exact fun h => absurd h ‹_›
  have hkeep (l k : LaneId) (s : State) (hk : l ≠ k) (h : (s.lane l).supplied = true → s.lf l f = 1) :
      ((if (s.lane k).supplied then s.lfSet k f 1 else s).lane l).supplied = true →
        (if (s.lane k).supplied then s.lfSet k f 1 else s).lf l f = 1 := by
    have hsame := LaneOnly.other (.ite (c := (s.lane k).supplied = true) (.lfSet k s f 1) (.refl k s)) hk
    rw [State.lf_congr (congrArg Lane.regs hsame), hsame]
    exact h
  refine onLanes_each (P := fun t l => (t.lane l).supplied = true → t.lf l f = 1) hset hkeep s l ?_
  rw [onLanes_keeps (fun s => (s.lane l).supplied) (fun k s => by split <;> simp), hs]

/-- The report of the supplies leaves a field apart from those that it sets. -/
theorem lf_showPower_apart (s : State) {f : Fld} (h : ∀ p ∈ powerFields, p.1.apart f = true) (l : LaneId) :
    s.showPower.lf l f = s.lf l f := by
  refine onLanes_keeps (fun s => s.lf l f) (fun k s => ?_) s
  rw [showPowerLane_eq]
  split
  · exact lf_foldl_lfSet_apart h s l
  · rfl

section
variable {p : Power} {s t : State} {l : LaneId} (h : ReportsPower p s t) (hs : (s.lane l).supplied = true)
include h hs

theorem ReportsPower.holdup : t.lf l PWR_STATUS_HOLDUP = b2n p.holdup := h.flag hs _ Power.holdup (by simp [powerFields]) rfl

theorem ReportsPower.over : t.lf l PWR_STATUS_OVER = b2n p.overV := h.flag hs _ Power.overV (by simp [powerFields]) rfl

end

theorem steady_showPower (s : State) : Steady s s.showPower := (showPower_lanesOnly s).steady (showPower_supplied s)

/-! ### Below the range (R517, R540) -/

/-- `s` with the main input out of range at `v`. -/
def State.belowRange (s : State) (v : Nat) : State :=
  (s.pwSet (fun p => { p with inRange := false, vin := v })).stUpd (fun st => { st with inputKept := false })

theorem inputBelow_eq (s : State) (v : Nat) : s.inputBelow v =
    if s.md.mode == .stowed then s.belowRange v
    else if s.md.mode == .start && !s.sup.pw.charged && s.md.closing.isNone then (s.belowRange v).startPowerAbort
    else if s.sup.pw.holdup then s.belowRange v
    else (((s.belowRange v).pwSet (fun p => { p with holdup := true })).powerInt PWR_INT_STAT_HOLDUP).showPower := by
  have hmode : (s.belowRange v).md.mode = s.md.mode := rfl
  have hclosing : (s.belowRange v).md.closing = s.md.closing := rfl
  have hcharged : (s.belowRange v).sup.pw.charged = s.sup.pw.charged := rfl
  have hholdup : (s.belowRange v).sup.pw.holdup = s.sup.pw.holdup := rfl
  rw [← hmode, ← hclosing, ← hcharged, ← hholdup]
  rfl

/-- A start whose store is not yet charged is given up: the supplies are removed and the module is STOWED. -/
theorem startPowerAbort_stows {s : State} (hmode : s.md.mode = .start) (hnone : s.md.closing = none) (hin : s.sup.pw.inRange = false) :
    s.startPowerAbort.sup.pw = s.sup.pw ∧ s.startPowerAbort.md.mode = .stowed ∧ s.startPowerAbort.md.start = none ∧
      s.startPowerAbort.hub.supplied = false ∧ ∀ l, (s.startPowerAbort.lane l).supplied = false := by
  unfold State.startPowerAbort
  extract_lets step recorded off stowed md given sup ka events
  have hrecorded : Steady s recorded := (foldl_notActed_eventOnly _ s).steady
  have hoff : DiesOff recorded off := diesOff recorded
  have hmd : off.md = s.md := hoff.md.trans hrecorded.md
  have hstowed := changeMode_steady (s := off) (m := .stowed) 8 off.modFrame (by rw [hmd, hmode, hnone]; rfl)
  have hpw : events.sup.pw = s.sup.pw := hstowed.pw.trans (hoff.pw.trans hrecorded.pw)
  have hlanes (l : LaneId) : (events.lane l).supplied = false := by
    cases l
    · exact (hstowed.lanes .a).trans (hoff.lanes .a)
    · exact (hstowed.lanes .b).trans (hoff.lanes .b)
    · exact (hstowed.lanes .c).trans (hoff.lanes .c)
  have hheld : Steady events events.evalWake := evalWake_held (by rw [hpw, hin])
  refine ⟨hheld.pw.trans hpw, ?_, ?_, hheld.hub.trans (hstowed.hub.trans hoff.hub), fun l => (hheld.lanes l).trans (hlanes l)⟩
  · rw [hheld.md]
    exact congrArg ModeState.mode hstowed.md
  · rw [hheld.md]

section
variable {s : State} {v : Nat} (hsup : s.sup.supplied = true) (hv : v < 1440) (hin : s.sup.pw.inRange = true)
include hsup hv hin

theorem exec_mainInputBelowRange_eq : exec (.mainInputBelowRange v) s = .next (s.inputBelow v) := by
  show execMainInputBelowRange v s = _
  simp [execMainInputBelowRange, hsup, hv, hin]

theorem exec_mainInputBelowRange_stowed (hmode : s.md.mode = .stowed) :
    ∃ t, exec (.mainInputBelowRange v) s = .next t ∧ t.sup.pw.inRange = false ∧ t.sup.pw.vin = v ∧ t.md.mode = .stowed := by
  refine ⟨_, exec_mainInputBelowRange_eq hsup hv hin, ?_⟩
  rw [inputBelow_eq, if_pos (by simp [hmode])]
  exact ⟨rfl, rfl, hmode⟩

/-- A module that does not give up its start goes on, on the hold-up store. -/
theorem exec_mainInputBelowRange_running (hmode : s.md.mode ≠ .stowed)
    (hgoes : s.md.mode ≠ .start ∨ s.sup.pw.charged = true ∨ s.md.closing.isSome) (hholdup : s.sup.pw.holdup = false) :
    ∃ t, exec (.mainInputBelowRange v) s = .next t ∧ t.sup.pw.inRange = false ∧ t.sup.pw.holdup = true ∧ t.md.mode = s.md.mode ∧
      ∀ l, (s.lane l).supplied = true → t.lf l PWR_STATUS_HOLDUP = 1 ∧ t.lf l PWR_INT_STAT_HOLDUP = 1 := by
  have hgoes : (s.md.mode == .start && !s.sup.pw.charged && s.md.closing.isNone) = false := by
    rcases hgoes with h | h | h
    · simp [h]
    · simp [h]
    · simp [← Option.not_isSome, h]
  have hreports := ((takesPower_pwSet (s.belowRange v) (fun p => { p with holdup := true })).kept
    (powerKept_powerInt _ PWR_INT_STAT_HOLDUP (by decide))).report
  have hlane (l : LaneId) : (s.belowRange v).lane l = s.lane l := by cases l <;> rfl
  refine ⟨_, exec_mainInputBelowRange_eq hsup hv hin, ?_⟩
  rw [inputBelow_eq, if_neg (by simp [hmode]), hgoes, if_neg (by decide), hholdup, if_neg (by decide)]
  refine ⟨by rw [hreports.pw]; rfl, by rw [hreports.pw], by rw [hreports.md]; rfl, fun l hl => ⟨?_, ?_⟩⟩
  · rw [hreports.holdup ((hlane l).symm ▸ hl)]
    rfl
  · rw [lf_showPower_apart _ (by decide), lf_powerInt _ rfl rfl]
    exact (congrArg Lane.supplied (hlane l)).trans hl

theorem exec_mainInputBelowRange_start (hmode : s.md.mode = .start) (hcharged : s.sup.pw.charged = false) (hnone : s.md.closing = none) :
    ∃ t, exec (.mainInputBelowRange v) s = .next t ∧ t.sup.pw.inRange = false ∧ t.md.mode = .stowed ∧ t.md.start = none ∧
      t.hub.supplied = false ∧ ∀ l, (t.lane l).supplied = false := by
  obtain ⟨hpw, hstowed⟩ := startPowerAbort_stows (s := s.belowRange v) hmode hnone rfl
  refine ⟨_, exec_mainInputBelowRange_eq hsup hv hin, ?_⟩
  rw [inputBelow_eq, if_neg (by simp [hmode]), if_pos (by simp [hmode, hcharged, hnone])]
  exact ⟨by rw [hpw]; rfl, hstowed⟩

end

/-! ### An overvoltage (R517) -/

/-- Whatever follows when the main input leaves its range, it is out of range, and a disconnection stays. -/
theorem inputBelow_pw (s : State) (v : Nat) :
    (s.inputBelow v).sup.pw.inRange = false ∧ (s.inputBelow v).sup.pw.disconnected = s.sup.pw.disconnected := by
  rw [inputBelow_eq]
  split
  · exact ⟨rfl, rfl⟩
  split
  next h =>
    simp only [Bool.and_eq_true, beq_iff_eq, Option.isNone_iff_eq_none] at h
    rw [(startPowerAbort_stows (s := s.belowRange v) h.1.1 h.2 rfl).1]
    exact ⟨rfl, rfl⟩
  split
  · exact ⟨rfl, rfl⟩
  · rw [(showPower_lanesOnly _).sup, (powerInt_lanesOnly _ _).sup]
    exact ⟨rfl, rfl⟩

theorem exec_overvoltageDisconnect {s : State} {v us : Nat} (hsup : s.sup.supplied = true) (hv : 18000 < v ∨ (15400 < v ∧ 1000000 < us))
    (hoff : s.sup.pw.disconnected = false) :
    ∃ t, exec (.overvoltageDisconnect v us) s = .next t ∧ t.sup.pw.disconnected = true ∧ t.sup.pw.inRange = false := by
  have heq : exec (.overvoltageDisconnect v us) s = .next
      (if s.sup.pw.inRange then (s.pwSet (fun p => { p with disconnected := true })).inputBelow v
      else s.pwSet (fun p => { p with disconnected := true })) := by
    show execOvervoltageDisconnect v us s = _
    rw [execOvervoltageDisconnect, if_neg (by simp [hsup, hoff]; omega)]
    rfl
  refine ⟨_, heq, ?_⟩
  cases hin : s.sup.pw.inRange with
  | true =>
    obtain ⟨hrange, hkept⟩ := inputBelow_pw (s.pwSet (fun p => { p with disconnected := true })) v
    exact ⟨hkept, hrange⟩
  | false => exact ⟨rfl, hin⟩

theorem powerKept_countOver (s : State) :
    PowerKept s (onLanes (fun l s => if (s.lane l).supplied then s.lcount l PWR_CNT_OVER 1 else s) s) :=
  .onLanes (fun l s => .ite ⟨by simp, by simp, by simp, by simp,
    fun k p hp => State.lf_lfSet_apart _ _ _ _ _ _ ((by decide : ∀ p ∈ powerFields, PWR_CNT_OVER.apart p.1 = true) p hp)⟩ (.refl s)) s

theorem exec_mainInputOvervoltage {s : State} {peak : Nat} (hsup : s.sup.supplied = true) (hpeak : 15400 < peak)
    (hover : s.sup.pw.overV = false) :
    ∃ t, exec (.mainInputOvervoltage peak none) s = .next t ∧ t.sup.pw.overV = true ∧ t.md = s.md ∧
      ∀ l, (s.lane l).supplied = true → t.lf l PWR_STATUS_OVER = 1 ∧ t.lf l PWR_INT_STAT_OVER = 1 := by
  have hcounted := (takesPower_pwSet s (fun p => { p with overV := true, vin := peak })).kept (powerKept_countOver _)
  have hreports := (hcounted.kept (powerKept_powerInt _ PWR_INT_STAT_OVER (by decide))).report
  refine ⟨_, ?_, by rw [hreports.pw], hreports.md, fun l hl => ⟨?_, ?_⟩⟩
  · show execMainInputOvervoltage peak none s = _
    rw [execMainInputOvervoltage, if_neg (by simp [hsup]; omega)]
    simp only [hover]
    rfl
  · rw [hreports.over hl]
    rfl
  · rw [lf_showPower_apart _ (by decide), lf_powerInt _ rfl rfl]
    exact (hcounted.supplied l).trans hl

theorem exec_mainInputOvervoltage_ends {s : State} {peak : Nat} (us : Nat) (hsup : s.sup.supplied = true) (hpeak : 15400 < peak)
    (hover : s.sup.pw.overV = true) :
    ∃ t, exec (.mainInputOvervoltage peak (some us)) s = .next t ∧ t.sup.pw.overV = false ∧ t.md = s.md ∧
      ∀ l, (s.lane l).supplied = true → t.lf l PWR_STATUS_OVER = 0 := by
  have hreports := (takesPower_pwSet s (fun p => { p with overV := false })).report.kept
    (powerKept_supEvt _ 0x9003 [(4, 10 * peak), (4, us)])
  refine ⟨_, ?_, by rw [hreports.pw], hreports.md, fun l hl => by rw [hreports.over hl]; rfl⟩
  show execMainInputOvervoltage peak (some us) s = _
  rw [execMainInputOvervoltage, if_neg (by simp [hsup]; omega)]
  simp only [hover]
  rfl

end Sys2Proof.Machine

/-! Closing on hold-up, the return of the main input, and the dump (03 R99, R100, R102; 20 R523, R538, R540, R541). -/

namespace Sys2Proof.Machine

/-! ### Closing on hold-up (03 R99, R100) -/

theorem Steady.sendImages {s t : State} {l : LaneId} {off : Bool} (h : Steady s t) : Steady s (t.sendImages l off) := by
  unfold State.sendImages
  extract_lets g b shown sent2 sent1 rt told
  have hsent : Steady s sent1 := (Steady.foldl (fun _ _ h => h.lfSet.lfSet) h).emit.emit
  have htold : Steady s told := .ite hsent.laneEvt hsent
  exact htold.updLane

/-- `t` is in a closing phase that began in the mode of `s`, and voter 2 asks for no output. -/
structure ClosingOff (s t : State) : Prop where
  mode : t.md.mode = s.md.mode
  closing : t.md.closing.isSome
  out : t.sup.v2.out = 0

/-- Step C2 on hold-up ends in C4 and C5. -/
theorem endC2_onHoldup {s : State} {c : Closing} (hc : s.md.closing = some c) (hhold : c.holdup = true) : DumpBegun s s.endC2 := by
  unfold State.endC2
  simp only [hc, hhold, if_true]
  refine .of_md ?_ (closingC4_begun (c := c) ?_)
  · rfl
  · exact hc

theorem beginC2_onHoldup {s : State} {c : Closing} (hc : s.md.closing = some c) (hhold : c.holdup = true) (hout : s.sup.v2.out = 0) :
    ClosingOff s s.beginC2 := by
  unfold State.beginC2
  split
  case h_1 h => simp [hc] at h
  case h_2 c' _ =>
    extract_lets step told booked taken
    have htaken : Steady step taken :=
      .onLanes (fun _ _ h => h.finalSnapshot) (Steady.supEvt (.refl step)).bookRelease.bookSummaries
    have hclosing : taken.md.closing = some { c with step := 2 } := by
      rw [htaken.md]
      simp [step, State.clUpd, hc]
    split
    · have hbegun := endC2_onHoldup hclosing hhold
      exact ⟨by rw [hbegun.md, htaken.md]; rfl, by rw [hbegun.md, hclosing]; rfl, hbegun.out⟩
    · exact ⟨by rw [htaken.md]; rfl, by rw [hclosing]; rfl, htaken.out.trans hout⟩

theorem closeOnHoldup_off {s : State} {c : Closing} (hc : s.md.closing = some c) (hhold : c.holdup = true) : ClosingOff s s.closeOnHoldup := by
  unfold State.closeOnHoldup
  extract_lets voter opened sent
  have hsent : Steady opened sent := .onLanes (fun _ _ h => .ite h.updLane.sendImages h) (.refl opened)
  have hmd : sent.md = s.md := hsent.md
  have hoff := beginC2_onHoldup (s := sent) (hmd ▸ hc) hhold hsent.out
  exact { hoff with mode := hoff.mode.trans (by rw [hmd]) }

theorem exec_mainInputLost {s : State} (hsup : s.sup.supplied = true) (hin : s.sup.pw.inRange = false) (hmode : s.md.mode ≠ .stowed)
    (hnone : s.md.closing = none) (hcoo : ∀ l, s.cooRuns l = false) :
    ∃ t, exec .mainInputLost s = .next t ∧ t.md.closing.isSome ∧ t.sup.v2.out = 0 ∧ t.md.mode = s.md.mode := by
  have hmd := closingBegun_md s 2 true
  have hoff := closeOnHoldup_off (s := s.closingBegun 2 true) (by rw [hmd]; rfl) rfl
  refine ⟨(s.closingBegun 2 true).closeOnHoldup, ?_, hoff.closing, hoff.out, hoff.mode.trans (by rw [hmd]; rfl)⟩
  show execMainInputLost s = _
  rw [execMainInputLost, hsup, hin, hnone, closingTrigger_eq 2 true hmode hnone hsup hcoo, closeNow_eq]
  rfl

/-! ### The return (R517, R541) -/

theorem LanesOnly.dict {s t : State} (h : LanesOnly s t) : t.dict = s.dict := by rw [h]

theorem State.cnt_congr {s t : State} (h : t.dict = s.dict) (i j : Nat) : t.cnt i j = s.cnt i j := by
  rw [State.cnt, h, State.cnt]

/-- Setting one reported number leaves another. -/
theorem State.cnt_cntSet_other (s : State) (i v : Nat) {j k : Nat} (h : objKey i k ≠ objKey i j) : (s.cntSet i j v).cnt i k = s.cnt i k := by
  simp [State.cnt, State.cntSet, mapGet_mapSet_other _ _ _ h]

theorem wakeInC3_open {s : State} (hnone : s.md.closing = none) (ms : Nat) : s.wakeInC3 ms = s := by
  simp [State.wakeInC3, hnone]

/-- `s` with the main input back in range at `v`, as the lanes are shown it. -/
def State.inputBack (s : State) (v rtc : Nat) : State :=
  (((s.advRtc rtc).pwSet (fun p =>
    { p with inRange := true, disconnected := false, vin := v, holdup := false, recharging := p.holdup })).powerInt
      PWR_INT_STAT_RESTORED).showPower

/-- `s` with a bridged interruption counted on every supplied lane. -/
def State.countBridged (s : State) : State :=
  onLanes (fun l s => if (s.lane l).supplied then s.lcount l PWR_CNT_BRIDGED 1 else s) s

/-- `s` with an interruption of `us` that the hold-up bridged on record (R541). -/
def State.bridged (s : State) (us : Nat) : State :=
  ((s.countBridged.cntAdd 0x7401 1 1).cntSet 0x7401 2 (max us (s.countBridged.cnt 0x7401 2))).supEvt 0x9002 [(4, us)]

theorem steady_bridged (s : State) (us : Nat) : Steady s (s.bridged us) :=
  .supEvt (.cntSet (.cntAdd (.onLanes (fun _ _ h => .ite h.lcount h) (.refl s))))

/-- One more bridged interruption is counted. -/
theorem bridged_cnt (s : State) (us : Nat) : (s.bridged us).cnt 0x7401 1 = satAdd 0xFFFFFFFF (s.cnt 0x7401 1) 1 := by
  have hcounted : LanesOnly s s.countBridged := .onLanes (fun l s => .ite (.lfSet l s _ _) (.refl l s)) s
  rw [State.bridged, State.cnt_congr (supEvt_eventOnly _ _ _).dict, State.cnt_cntSet_other _ _ _ (by decide), State.cnt_cntAdd_same,
    State.cnt_congr hcounted.dict]

theorem inputBack_takes (s : State) (v rtc : Nat) : TakesPower
    { s.sup.pw with inRange := true, disconnected := false, vin := v, holdup := false, recharging := s.sup.pw.holdup } s (s.inputBack v rtc) := by
  obtain ⟨f, hf⟩ := advRtc_eq s rtc
  have h := (takesPower_pwSet (s.advRtc rtc) (fun p =>
    { p with inRange := true, disconnected := false, vin := v, holdup := false, recharging := p.holdup })).kept
      (powerKept_powerInt _ PWR_INT_STAT_RESTORED (by decide))
  have hback := h.report.toTakesPower
  exact ⟨hback.pw.trans (by rw [hf]), hback.md.trans (by rw [hf]), fun l => (hback.supplied l).trans (by rw [hf]; cases l <;> rfl)⟩

theorem inputBack_dict (s : State) (v rtc : Nat) : (s.inputBack v rtc).dict = s.dict := by
  obtain ⟨f, hf⟩ := advRtc_eq s rtc
  rw [State.inputBack, (showPower_lanesOnly _).dict, (powerInt_lanesOnly _ _).dict, hf]
  rfl

section
variable {s : State} {v us held rtc : Nat} (hsup : s.sup.supplied = true) (hin : s.sup.pw.inRange = false) (hlow : 1440 ≤ v)
  (hhigh : v ≤ 15400) (hheld : s.sup.pw.disconnected = false ∨ 100 ≤ held) (hmode : s.md.mode ≠ .stowed) (hnone : s.md.closing = none)
include hsup hin hlow hhigh hheld hmode hnone

/-- A running module goes on; an interruption that the hold-up bridged is recorded. -/
theorem exec_mainInputRestored_eq : exec (.mainInputRestored v us held rtc) s =
    .next (if s.sup.pw.holdup then (s.inputBack v rtc).bridged us else s.inputBack v rtc) := by
  have hmd := (inputBack_takes s v rtc).md
  have hrange : (decide (v < 1440) || decide (15400 < v) || (s.sup.pw.disconnected && decide (held < 100))) = false := by
    rcases hheld with h | h
    · simp [h]; omega
    · simp; omega
  have hstays : ((s.inputBack v rtc).md.mode == .stowed || (s.inputBack v rtc).md.closing.isSome) = false := by
    simp [hmd, hmode, hnone]
  have hwake := wakeInC3_open (s := s.inputBack v rtc) (by rw [hmd, hnone])
  have hidle := evalWake_running (s := s.inputBack v rtc) (by rw [hmd]; exact hmode)
  show execMainInputRestored v us held rtc s = _
  rw [execMainInputRestored, hrange, hsup, hin, hnone]
  simp only [Bool.false_eq_true, if_false, Bool.not_true, Option.isNone_none, Bool.and_true]
  rw [← State.inputBack, hstays]
  simp only [Bool.false_eq_true, if_false, hwake, ite_self, hidle]
  cases s.sup.pw.holdup <;> rfl

theorem exec_mainInputRestored :
    ∃ t, exec (.mainInputRestored v us held rtc) s = .next t ∧ t.sup.pw.inRange = true ∧ t.sup.pw.holdup = false ∧
      t.sup.pw.vin = v ∧ t.sup.pw.disconnected = false ∧ t.md = s.md ∧ t.sup.pw.recharging = s.sup.pw.holdup ∧
      (s.sup.pw.holdup = true → t.cnt 0x7401 1 = satAdd 0xFFFFFFFF (s.cnt 0x7401 1) 1) := by
  have hback := inputBack_takes s v rtc
  have hsteady : Steady (s.inputBack v rtc) (if s.sup.pw.holdup then (s.inputBack v rtc).bridged us else s.inputBack v rtc) :=
    .ite (steady_bridged _ us) (.refl _)
  refine ⟨_, exec_mainInputRestored_eq hsup hin hlow hhigh hheld hmode hnone, ?_⟩
  rw [hsteady.pw, hback.pw]
  refine ⟨rfl, rfl, rfl, rfl, hsteady.md.trans hback.md, rfl, fun h => ?_⟩
  rw [if_pos h, bridged_cnt, State.cnt_congr (inputBack_dict s v rtc)]

end

theorem exec_holdupRechargeDone {s : State} (hsup : s.sup.supplied = true) (hcharging : s.sup.pw.recharging = true)
    (hin : s.sup.pw.inRange = true) :
    ∃ t, exec .holdupRechargeDone s = .next t ∧ t.sup.pw.recharging = false ∧ t.sup.pw.charged = true ∧ t.md = s.md := by
  have hreports := (takesPower_pwSet s (fun p => { p with recharging := false, charged := true })).report
  refine ⟨_, ?_, by rw [hreports.pw], by rw [hreports.pw], hreports.md⟩
  show execHoldupRechargeDone s = _
  rw [execHoldupRechargeDone, hsup, hcharging, hin]
  rfl

/-! ### The store is exhausted, and the dump (R523, R538) -/

/-- The step of the closing phase, 0 outside it. -/
def ModeState.closingStep (m : ModeState) : Nat := match m.closing with | some c => c.step | none => 0

/-- `s` with the exhausted store noted for the next start, and a closing phase in which no change of mode is due. -/
def State.storeEmpty (s : State) : State :=
  let noted := s.kaSet (fun k => { k with nextEvents := k.nextEvents ++ [(0x9008, [(1, s.md.closingStep)])] })
  let given := noted.md.due.foldl (fun s d => s.notActed (causePriority d.cause) 1) noted
  { given with md := { given.md with
    start := none, due := []
    closing := some (given.md.closing.getD ⟨1, 2, true, 0, none, 0, 0, 0, false, 0, false⟩) } }

theorem exec_holdupExhausted {s : State} (hsup : s.sup.supplied = true) (hhold : s.sup.pw.holdup = true) (hmode : s.md.mode ≠ .stowed)
    (hstep : ∀ c, s.md.closing = some c → c.step < 3) :
    ∃ t, exec .holdupExhausted s = .next t ∧ t.sup.pw.dumping = true ∧ t.hub.supplied = false ∧ (∀ l, (t.lane l).supplied = false) ∧
      ∃ c, t.md.closing = some c ∧ c.step = 5 := by
  have hearly : s.md.closingStep < 3 := by
    cases hc : s.md.closing with
    | none => simp [ModeState.closingStep, hc]
    | some c => simpa [ModeState.closingStep, hc] using hstep c hc
  have he : exec .holdupExhausted s = .next s.storeEmpty.closingC5 := by
    show execHoldupExhausted s = _
    have hruns : ¬(!s.sup.supplied || !s.sup.pw.holdup || s.md.mode == .stowed || decide (3 ≤ s.md.closingStep)) = true := by
      simpa [hsup, hhold, hmode] using hearly
    exact if_neg hruns
  have hbegun := closingC5_begun s.storeEmpty
  exact ⟨_, he, hbegun.dumping, hbegun.hub, hbegun.lanes, _, by rw [hbegun.md]; rfl, rfl⟩

/-- Whatever the wake sources start, a dump that has ended stays so, with its duration, and no closing phase begins. -/
theorem evalWake_dump (s : State) : s.evalWake.sup.pw.dumping = s.sup.pw.dumping ∧ s.evalWake.sup.ka.lastDump = s.sup.ka.lastDump ∧
    s.evalWake.md.closing = s.md.closing := by
  have hkept {t : State} (h : Steady s t) :
      t.sup.pw.dumping = s.sup.pw.dumping ∧ t.sup.ka.lastDump = s.sup.ka.lastDump ∧ t.md.closing = s.md.closing :=
    ⟨by rw [h.pw], h.dump, by rw [h.md]⟩
  by_cases hstays : s.md.mode ≠ .stowed ∨ s.md.closing.isSome ∨ s.sup.supplied = false
  · rw [State.evalWake, if_pos (by simpa [or_assoc] using hstays)]
    exact hkept (.refl s)
  · obtain ⟨hmode, hclosing, hsup⟩ : s.md.mode = .stowed ∧ s.md.closing = none ∧ s.sup.supplied = true := by
      simpa using hstays
    cases hin : s.sup.pw.inRange with
    | false => exact hkept (evalWake_held hin)
    | true =>
      by_cases hbits : s.wakeBits = 0
      · have hcleared : s.evalWake = s.kaSet (fun k => { k with heldWake := 0 }) := by
          simp [State.evalWake, hmode, hclosing, hsup, hin, hbits]
        rw [hcleared]
        exact ⟨rfl, rfl, rfl⟩
      · rw [evalWake_accepts hmode hclosing hsup hin hbits]
        obtain ⟨n, stv, h⟩ := acceptWake_steady s.wakeBits hmode hclosing
        exact ⟨(congrArg Power.dumping h.pw).trans rfl, h.dump, (congrArg ModeState.closing h.md).trans rfl⟩

/-- The dump of a closing phase that is complete stows the module. -/
def State.dumpStows (s : State) : State :=
  if s.md.closing.isSome then
    { s.changeMode .stowed 19 s.modFrame with
      md := { (s.changeMode .stowed 19 s.modFrame).md with closing := none, start := none, due := [] } }
  else s

theorem dumpStows_pw (s : State) : s.dumpStows.sup.pw = s.sup.pw ∧ s.dumpStows.sup.ka.lastDump = s.sup.ka.lastDump := by
  unfold State.dumpStows
  split
  next h =>
    have hstowed := changeMode_steady (s := s) (m := .stowed) 19 s.modFrame (by simp [h])
    exact ⟨hstowed.pw, hstowed.dump⟩
  next => exact ⟨rfl, rfl⟩

theorem dumpStows_md {s : State} (h : s.md.closing.isSome) : s.dumpStows.md.mode = .stowed ∧ s.dumpStows.md.closing = none := by
  rw [State.dumpStows, if_pos h]
  exact ⟨congrArg ModeState.mode (changeMode_steady (s := s) (m := .stowed) 19 s.modFrame (by simp [h])).md, rfl⟩

/-- `s` with the dump ended after `ms`, noted for the next start. -/
def State.dumped (s : State) (ms : Nat) : State :=
  (s.pwSet (fun p => { p with dumping := false })).kaSet (fun k =>
    { k with lastDump := ms, nextEvents := k.nextEvents ++ [(if 500 < ms then 0x9005 else 0x9004, [(4, ms)])] })

theorem exec_dumpComplete {s : State} (ms rtc : Nat) (hsup : s.sup.supplied = true) (hdump : s.sup.pw.dumping = true) :
    ∃ t, exec (.dumpComplete ms rtc) s = .next t ∧ t.sup.pw.dumping = false ∧ t.sup.ka.lastDump = ms ∧
      (s.md.closing.isSome → t.md.closing = none ∧ (s.sup.pw.inRange = false → t.md.mode = .stowed)) := by
  have he : exec (.dumpComplete ms rtc) s = .next ((s.dumped ms).dumpStows.advRtc rtc).evalWake := by
    show execDumpComplete ms rtc s = _
    rw [execDumpComplete, hsup, hdump]
    rfl
  obtain ⟨f, hf⟩ := advRtc_eq (s.dumped ms).dumpStows rtc
  obtain ⟨hpw, hlast⟩ := dumpStows_pw (s.dumped ms)
  obtain ⟨hdumping, hka, hclosing⟩ := evalWake_dump ((s.dumped ms).dumpStows.advRtc rtc)
  refine ⟨_, he, ?_, ?_, fun hc => ?_⟩
  · rw [hdumping, hf, hpw]
    rfl
  · rw [hka, hf, hlast]
    rfl
  · obtain ⟨hmode, hnone⟩ := dumpStows_md (s := s.dumped ms) hc
    refine ⟨by rw [hclosing, hf, hnone], fun hin => ?_⟩
    have hheld := evalWake_held (s := (s.dumped ms).dumpStows.advRtc rtc) (by rw [hf, hpw]; exact hin)
    rw [hheld.md, hf, hmode]

/-- Settles O43: the branches of the main input and of the hold-up, clause by clause; the supplies are followed through what closing,
starting and reporting do by `Steady`. -/
theorem mainInputAndHoldUp : Obligations.MainInputAndHoldUp := by
  unfold Obligations.MainInputAndHoldUp
  intro s hsup
  exact ⟨fun _ hv hin => exec_mainInputBelowRange_stowed hsup hv hin,
    fun _ hv hin => exec_mainInputBelowRange_running hsup hv hin,
    fun _ hv hin => exec_mainInputBelowRange_start hsup hv hin,
    exec_mainInputLost hsup,
    fun _ _ _ _ => exec_mainInputRestored hsup,
    fun _ => exec_mainInputOvervoltage hsup,
    fun _ us => exec_mainInputOvervoltage_ends us hsup,
    fun _ _ => exec_overvoltageDisconnect hsup,
    exec_holdupExhausted hsup,
    exec_holdupRechargeDone hsup,
    fun ms rtc => exec_dumpComplete ms rtc hsup⟩

end Sys2Proof.Machine

/-! The exchange of images and receipts between the lanes (04 R125, R127, R128). -/

namespace Sys2Proof.Machine

-- One theorem after the other, as the model's tests: elaborated side by side they would exceed the check's memory limit.
set_option Elab.async false

/-! ### What closing the images leaves -/

/-- The registers that show which images came: CNT_LINK, INT_STAT and STATUS of the exchange unit. -/
def imageReg (a : Nat) : Bool := a == XCH_CNT_LINK.reg || a == XCH_INT_STAT.reg || a == XCH_STATUS_HELD.reg

/-- Lane `l` holds the same images in `t` as in `s`, nothing more has been sent, and its memory stands, as do its registers but for
those that show which images came. -/
structure HeldKept (l : LaneId) (s t : State) : Prop where
  held : (t.lane l).xch.held = (s.lane l).xch.held
  mem : (t.lane l).mem = (s.lane l).mem
  tx : t.tx = s.tx
  reg : ∀ a, imageReg a = false → t.lreg l a = s.lreg l a

namespace HeldKept

variable {l : LaneId} {s t u : State}

theorem refl (l : LaneId) (s : State) : HeldKept l s s := ⟨rfl, rfl, rfl, fun _ _ => rfl⟩

theorem trans (h : HeldKept l s t) (g : HeldKept l t u) : HeldKept l s u :=
  ⟨g.held.trans h.held, g.mem.trans h.mem, g.tx.trans h.tx, fun a ha => (g.reg a ha).trans (h.reg a ha)⟩

theorem lf (h : HeldKept l s t) (f : Fld) (hf : imageReg f.reg = false) : t.lf l f = s.lf l f := by
  rw [State.lf, h.reg _ hf, State.lf]

theorem heldSet (h : HeldKept l s t) : t.heldSet l = s.heldSet l := by
  rw [State.heldSet, h.held, State.heldSet]

/-- The outcome bitmap is read from registers that stand. -/
theorem vresBytes (h : HeldKept l s t) : t.vresBytes l = s.vresBytes l := by
  have hreg : ∀ j ∈ List.range 8, imageReg (XCH_VRES j).reg = false := by decide
  exact List.flatMap_congr fun j hj => by rw [h.lf _ (hreg j hj)]

theorem lfSet (l : LaneId) (s : State) (f : Fld) (x : Nat) (hf : imageReg f.reg = true) : HeldKept l s (s.lfSet l f x) := by
  refine ⟨by simp, by simp, by simp, fun a ha => State.lreg_lregSet_other _ _ _ _ ?_⟩
  rintro rfl
  simp [hf] at ha

theorem lcount (l : LaneId) (s : State) (f : Fld) (d : Nat) (hf : imageReg f.reg = true) : HeldKept l s (s.lcount l f d) :=
  lfSet l s f _ hf

theorem cntAdd (l : LaneId) (s : State) (i j d : Nat) : HeldKept l s (s.cntAdd i j d) :=
  ⟨by simp, by simp, by simp, fun a _ => by simp [State.lreg]⟩

/-- Noting which images failed. -/
theorem failed (l : LaneId) (s : State) (f : Nat → Nat) :
    HeldKept l s (s.updLane l (fun x => { x with xch := { x.xch with failed := f x.xch.failed } })) :=
  ⟨by simp, by simp, by simp, fun a _ => by simp [State.lreg]⟩

theorem countLink (l : LaneId) (s : State) (src : LaneId) : HeldKept l s (s.countLink l src) := by
  have hlink : HeldKept l s (if src = l.prev then s.lcount l XCH_CNT_LINK_PREV 1 else s.lcount l XCH_CNT_LINK_NEXT 1) := by
    split
    · exact lcount l s _ _ rfl
    · exact lcount l s _ _ rfl
  exact (hlink.trans (lfSet l _ XCH_INT_STAT_LATE _ rfl)).trans (cntAdd l _ _ _ _)

theorem countLate (l : LaneId) (s : State) (k : LaneId) : HeldKept l s (s.countLate l k) := by
  unfold State.countLate
  split
  · exact countLink l s k
  · exact refl l s

end HeldKept

/-! ### A neighbour's image (R125) -/

/-- An image that failed is counted on the link by which it came. -/
theorem lf_countLink (s : State) (l src : LaneId) :
    (src = l.prev → (s.countLink l src).lf l XCH_CNT_LINK_PREV = satAdd 0xFFFF (s.lf l XCH_CNT_LINK_PREV) 1) ∧
      (src ≠ l.prev → (s.countLink l src).lf l XCH_CNT_LINK_NEXT = satAdd 0xFFFF (s.lf l XCH_CNT_LINK_NEXT) 1) := by
  rw [State.countLink, State.lf_cntAdd, State.lf_cntAdd, State.lf_lfSet_apart _ _ _ _ _ _ rfl, State.lf_lfSet_apart _ _ _ _ _ _ rfl]
  constructor
  · intro h
    rw [if_pos h, State.lf_lcount_same _ _ _ _ rfl]
    rfl
  · intro h
    rw [if_neg h, State.lf_lcount_same _ _ _ _ rfl]
    rfl

/-- An image packet passes every check of R125. -/
def State.imageOk (s : State) (l : LaneId) (p : LinkPacket) : Bool :=
  s.packetOk l p && decide (p.payload.length = s.imageBytes l) && decide (p.layout = (s.lreg l XCH_LAYOUT.reg).toNat)

theorem imageOk_iff (s : State) (l : LaneId) (p : LinkPacket) : s.imageOk l p = true ↔
    s.packetOk l p = true ∧ p.payload.length = s.imageBytes l ∧ p.layout = (s.lreg l XCH_LAYOUT.reg).toNat := by
  simp [State.imageOk, and_assoc]

/-- Lane `l` holds the image of a packet. -/
def State.holdImage (s : State) (l : LaneId) (p : LinkPacket) : State :=
  s.updLane l (fun x => { x with
    xch := { x.xch with held := mapInsert (mapErase x.xch.held p.src.idx) p.src.idx p.payload } })

/-- Lane `l` counts the packet on its link, and notes that its sender's image failed. -/
def State.refuseImage (s : State) (l : LaneId) (p : LinkPacket) : State :=
  (s.countLink l p.src).updLane l (fun x => { x with xch := { x.xch with failed := setBit x.xch.failed p.src.idx true } })

theorem exec_imagePacketReceive {s : State} {l : LaneId} (p : LinkPacket) (hs : s.ticking l = true)
    (hopen : bitOf (s.lane l).xch.failed 3 = false) :
    exec (.imagePacketReceive l p) s = .next (if s.imageOk l p then s.holdImage l p else s.refuseImage l p) := by
  show execImagePacketReceive l p s = _
  rw [execImagePacketReceive, if_neg (by simp [hs])]
  dsimp only
  rw [if_neg (by simp [hopen]), apply_ite Host.Outcome.next]
  rfl

theorem holdImage_holds (s : State) (l : LaneId) (p : LinkPacket) :
    mapFind ((s.holdImage l p).lane l).xch.held p.src.idx = some p.payload ∧
      ((s.holdImage l p).lane l).regs = (s.lane l).regs ∧ ((s.holdImage l p).lane l).mem = (s.lane l).mem := by
  simp [State.holdImage]

theorem HeldKept.refuseImage (l : LaneId) (s : State) (p : LinkPacket) : HeldKept l s (s.refuseImage l p) :=
  (HeldKept.countLink l s p.src).trans (.failed l _ fun v => setBit v p.src.idx true)

theorem lf_refuseImage (s : State) (l : LaneId) (p : LinkPacket) (f : Fld) :
    (s.refuseImage l p).lf l f = (s.countLink l p.src).lf l f := State.lf_congr (by simp [State.refuseImage]) f

/-! ### The image cut-off (R127, R128) -/

/-- Lane `l` has counted the neighbours' images that are missing, and takes no more. -/
def State.countMissing (s : State) (l : LaneId) : State :=
  ((s.countLate l l.prev).countLate l l.next).updLane l (fun x => { x with
    xch := { x.xch with failed := setBit x.xch.failed 3 true } })

/-- Lane `l` at the image cut-off, before it sends its receipt: HELD shows which images came. -/
def State.closeImages (s : State) (l : LaneId) : State :=
  (s.countMissing l).lfSet l XCH_STATUS_HELD ((s.countMissing l).heldSet l)

theorem HeldKept.countMissing (l : LaneId) (s : State) : HeldKept l s (s.countMissing l) :=
  ((HeldKept.countLate l s l.prev).trans (.countLate l _ l.next)).trans (.failed l _ fun v => setBit v 3 true)

theorem HeldKept.closeImages (l : LaneId) (s : State) : HeldKept l s (s.closeImages l) :=
  (HeldKept.countMissing l s).trans (.lfSet l _ XCH_STATUS_HELD _ rfl)

theorem laneSet_lt (p : LaneId → Bool) : laneSet p < 8 := by
  unfold laneSet
  cases p .a <;> cases p .b <;> cases p .c <;> decide

theorem closeImages_shows (s : State) (l : LaneId) :
    (s.closeImages l).lf l XCH_STATUS_HELD = s.heldSet l ∧ bitOf ((s.closeImages l).lane l).xch.failed 3 = true := by
  constructor
  · rw [State.closeImages, State.lf_lfSet_same _ _ _ _ rfl, (HeldKept.countMissing l s).heldSet]
    exact Nat.mod_eq_of_lt (laneSet_lt _)
  · simp [State.closeImages, State.countMissing, bitOf_setBit_true]

theorem exec_imageCutoff_eq {s : State} {l : LaneId} (hs : s.ticking l = true) (hmode : s.laneMode l ≠ .split) :
    exec (.imageCutoff l) s = .next
      ((s.closeImages l).sendBoth l 6 0 (leBytes 8 ((s.closeImages l).heldSet l) ++ (s.closeImages l).vresBytes l)) := by
  show execImageCutoff l s = _
  rw [execImageCutoff, if_neg (by simp [hs]), if_neg (by simpa using hmode)]
  rfl

theorem exec_imageCutoff {s : State} {l : LaneId} (hs : s.ticking l = true) (hmode : s.laneMode l ≠ .split) :
    ∃ t, exec (.imageCutoff l) s = .next t ∧ t.lf l XCH_STATUS_HELD = s.heldSet l ∧ bitOf (t.lane l).xch.failed 3 = true ∧
      t.tx = [⟨.linkPacket, l.prev.idx, 6, linkPacket 6 l l.prev (s.frame l) 0 (leBytes 8 (s.heldSet l) ++ s.vresBytes l)⟩,
        ⟨.linkPacket, l.next.idx, 6, linkPacket 6 l l.next (s.frame l) 0 (leBytes 8 (s.heldSet l) ++ s.vresBytes l)⟩] ++ s.tx := by
  have hkept := HeldKept.closeImages l s
  have hframe : (s.closeImages l).frame l = s.frame l := hkept.lf _ rfl
  obtain ⟨hheld, hclosed⟩ := closeImages_shows s l
  refine ⟨_, exec_imageCutoff_eq hs hmode, (lf_sendBoth ..).trans hheld, ?_, ?_⟩
  · simpa [State.sendBoth] using hclosed
  · rw [tx_sendBoth, hframe, hkept.heldSet, hkept.vresBytes, hkept.tx]

/-! ### Receipts (R128) -/

theorem exec_receiptReceive {s : State} {l : LaneId} (hs : s.ticking l = true) {p : LinkPacket}
    (hopen : bitOf (s.lane l).xch.failed 4 = false) (hok : s.packetOk l p = true) :
    ∃ t, exec (.receiptReceive l p) s = .next t ∧ mapFind (t.lane l).xch.receipts p.src.idx = some p.payload ∧
      (t.lane l).regs = (s.lane l).regs ∧ LaneOnly l s t := by
  refine ⟨_, show execReceiptReceive l p s = _ by rw [execReceiptReceive, if_neg (by simp [hs, hopen]), if_pos hok],
    ?_, ?_, .upd ..⟩ <;> simp

/-- Lane `l` at the receipt cut-off: no more receipts are taken, and the neighbours without one are left out. -/
def State.closeReceipts (s : State) (l : LaneId) : State :=
  s.updLane l (fun x => { x with xch := { x.xch with failed := setBit x.xch.failed 4 true, noReceipt := s.lackReceipt l } })

theorem inSet_lackReceipt (s : State) (l k : LaneId) :
    inSet (s.lackReceipt l) k = true ↔ k ≠ l ∧ mapFind (s.lane l).xch.receipts k.idx = none := by
  simp [State.lackReceipt]

theorem closeReceipts_shows (s : State) (l : LaneId) : bitOf ((s.closeReceipts l).lane l).xch.failed 4 = true ∧
    ((s.closeReceipts l).lane l).xch.noReceipt = s.lackReceipt l := by
  simp [State.closeReceipts, bitOf_setBit_true]

/-- The receipt of a member is missing at the receipt cut-off. -/
def State.receiptMissed (s : State) (l : LaneId) : Bool :=
  lanes.any fun k => inSet (s.lackReceipt l) k && inSet ((s.closeReceipts l).lf l VOT_V2STAT_MEMBERS) k

theorem exec_receiptCutoff_eq {s : State} {l : LaneId} (hs : s.ticking l = true) (hmode : s.laneMode l ≠ .split) :
    exec (.receiptCutoff l) s = .next
      (if s.receiptMissed l then (s.closeReceipts l).lfSet l XCH_INT_STAT_LATE 1 else s.closeReceipts l) := by
  show execReceiptCutoff l s = _
  rw [execReceiptCutoff, if_neg (by simp [hs]), if_neg (by simpa using hmode)]
  rfl

/-- Whether or not a member's receipt is missing, which raises an interrupt, the neighbours without one are left out. -/
theorem exec_receiptCutoff {s : State} {l : LaneId} (hs : s.ticking l = true) (hmode : s.laneMode l ≠ .split) :
    ∃ t, exec (.receiptCutoff l) s = .next t ∧ bitOf (t.lane l).xch.failed 4 = true ∧
      (∀ k, inSet (t.lane l).xch.noReceipt k = true ↔ k ≠ l ∧ mapFind (s.lane l).xch.receipts k.idx = none) ∧ LaneOnly l s t := by
  have hclosed : LaneOnly l s (s.closeReceipts l) := .upd ..
  obtain ⟨hbit, hlack⟩ := closeReceipts_shows s l
  refine ⟨_, exec_receiptCutoff_eq hs hmode, ?_, fun k => ?_, .ite (hclosed.trans (.lfSet ..)) hclosed⟩
  · split
    · rwa [State.lfSet_lane_xch]
    · exact hbit
  · rw [← inSet_lackReceipt, ← hlack]
    split
    · rw [State.lfSet_lane_xch]
    · exact Iff.rfl

/-- Settles O10: images and receipts, each as it arrives and at its cut-off; `HeldKept` follows what a receipt tells through the counting
of late images. -/
theorem exchangeOfImagesAndReceipts : Obligations.ExchangeOfImagesAndReceipts := by
  unfold Obligations.ExchangeOfImagesAndReceipts
  intro s l hs
  refine ⟨fun p hopen hok hlen hlay => ?_, fun p hopen hbad => ?_, exec_imageCutoff hs, fun _ => exec_receiptReceive hs,
    exec_receiptCutoff hs⟩
  · obtain ⟨hheld, hregs, hmem⟩ := holdImage_holds s l p
    have hpass : s.imageOk l p = true := (imageOk_iff s l p).2 ⟨hok, hlen, hlay⟩
    exact ⟨_, (exec_imagePacketReceive p hs hopen).trans (by rw [if_pos hpass]), hheld, hregs, hmem, .upd ..⟩
  · obtain ⟨hprev, hnext⟩ := lf_countLink s l p.src
    have hkept := HeldKept.refuseImage l s p
    have hfail : ¬ s.imageOk l p = true := by
      rw [imageOk_iff, Classical.not_and_iff_not_or_not, Classical.not_and_iff_not_or_not, Bool.not_eq_true]
      exact hbad
    exact ⟨_, (exec_imagePacketReceive p hs hopen).trans (by rw [if_neg hfail]), hkept.held,
      fun h => (lf_refuseImage ..).trans (hprev h), fun h => (lf_refuseImage ..).trans (hnext h), hkept.mem⟩

end Sys2Proof.Machine

/-! The flags of inputs whose own level disagrees with the agreed one (04 R136). -/

namespace Sys2Proof.Machine

-- One theorem after the other, as the model's tests: elaborated side by side they would exceed the check's memory limit.
set_option Elab.async false

/-! ### One bit of a number set -/

theorem bitOf_eq_bitsOf (v i : Nat) : bitOf v i = (bitsOf v i i == 1) := by
  rw [bitOf, bitsOf, Nat.add_sub_cancel_left, Nat.pow_one]

/-- A bit reads as it was set, and every other bit as before. -/
theorem bitOf_setBit (v i j : Nat) (b : Bool) : bitOf (setBit v i b) j = if j = i then b else bitOf v j := by
  rw [bitOf_eq_bitsOf, setBit]
  rcases Nat.lt_trichotomy i j with h | rfl | h
  · rw [bitsOf_setBits_above _ _ _ _ _ _ h le_rfl, if_neg (by omega), bitOf_eq_bitsOf]
  · rw [bitsOf_setBits_same, Nat.add_sub_cancel_left, if_pos rfl]
    cases b <;> rfl
  · rw [bitsOf_setBits_below _ _ _ _ _ _ h le_rfl, if_neg (by omega), bitOf_eq_bitsOf]

/-- A number of `n` bits keeps that width when one of them is set. -/
theorem setBit_lt {v n i : Nat} (hv : v < 2 ^ n) (hi : i < n) (b : Bool) : setBit v i b < 2 ^ n := by
  refine Nat.lt_pow_two_of_testBit _ fun j hj => ?_
  rw [← bitOf_eq_testBit, bitOf_setBit, if_neg (by omega), bitOf_eq_testBit]
  exact Nat.testBit_lt_two_pow (hv.trans_le (Nat.pow_le_pow_right (by decide) hj))

theorem lf_lt (s : State) (l : LaneId) (f : Fld) : s.lf l f < 2 ^ (f.hi + 1 - f.lo) := Nat.mod_lt _ (Nat.two_pow_pos _)

/-! ### The flags (R136) -/

/-- What concerns one lane and its events leaves the vote's members. -/
theorem LaneEvt.members {l : LaneId} {s t : State} (h : LaneEvt l s t) : t.members = s.members := by
  rw [State.members, EventOnly.sup h, State.setLane_sup, State.members]

/-- The flag of input `i` at lane `l` set to `b`. -/
def State.flagInput (s : State) (l : LaneId) (i : Nat) (b : Bool) : State := s.lfSet l XCH_DIS_IN (setBit (s.lf l XCH_DIS_IN) i b)

theorem lf_flagInput (s : State) (l : LaneId) {i : Nat} (hi : i < 32) (b : Bool) :
    (s.flagInput l i b).lf l XCH_DIS_IN = setBit (s.lf l XCH_DIS_IN) i b :=
  (State.lf_lfSet_same _ _ _ _ rfl).trans (Nat.mod_eq_of_lt (setBit_lt (lf_lt ..) hi b))

/-- Lane `l` with input `i` flagged: the interrupt is raised and the event recorded. -/
def State.disagreementFlagged (s : State) (l : LaneId) (i : Nat) : State :=
  ((s.flagInput l i true).lfSet l XCH_INT_STAT_DIS 1).laneEvt l 0x5001 [(1, l.idx), (1, i)]

/-- Lane `l` with the flag of input `i` cleared and the event recorded. -/
def State.disagreementCleared (s : State) (l : LaneId) (i : Nat) : State :=
  (s.flagInput l i false).laneEvt l 0x5002 [(1, l.idx), (1, i)]

theorem disagreementFlagged_laneEvt (s : State) (l : LaneId) (i : Nat) : LaneEvt l s (s.disagreementFlagged l i) :=
  ((LaneOnly.lfSet l s _ _).trans (.lfSet ..)).evt.laneEvt _ _

theorem disagreementCleared_laneEvt (s : State) (l : LaneId) (i : Nat) : LaneEvt l s (s.disagreementCleared l i) :=
  (LaneOnly.lfSet l s _ _).evt.laneEvt _ _

theorem lf_disagreementFlagged (s : State) (l : LaneId) {i : Nat} (hi : i < 32) :
    (s.disagreementFlagged l i).lf l XCH_DIS_IN = setBit (s.lf l XCH_DIS_IN) i true ∧
      (s.disagreementFlagged l i).lf l XCH_INT_STAT_DIS = 1 := by
  rw [State.disagreementFlagged, State.lf_laneEvt _ _ _ _ _ _ rfl, State.lf_laneEvt _ _ _ _ _ _ rfl]
  refine ⟨?_, State.lf_lfSet_same _ _ _ _ rfl⟩
  rw [State.lf_lfSet_apart _ _ _ _ _ _ rfl, lf_flagInput _ _ hi]

theorem lf_disagreementCleared (s : State) (l : LaneId) {i : Nat} (hi : i < 32) :
    (s.disagreementCleared l i).lf l XCH_DIS_IN = setBit (s.lf l XCH_DIS_IN) i false := by
  rw [State.disagreementCleared, State.lf_laneEvt _ _ _ _ _ _ rfl, lf_flagInput _ _ hi]

section
variable {s : State} {l : LaneId} {i : Nat} (hs : s.ticking l = true) (hi : i < 32)
include hs hi

theorem exec_inputDisagreementFlag (hrun : s.lf l XCH_CFG_DIS_LIM ≤ mapGet 0 (s.lane l).xch.disRun i)
    (hflag : bitOf (s.lf l XCH_DIS_IN) i = false) :
    exec (.inputDisagreementFlag l i) s = .next (s.disagreementFlagged l i) := by
  show execInputDisagreementFlag l i s = _
  exact if_pos (by simp [hs, hi, hrun, hflag])

theorem exec_inputDisagreementClear (hrun : s.lf l XCH_CFG_DIS_LIM ≤ mapGet 0 (s.lane l).xch.agreeRun i)
    (hflag : bitOf (s.lf l XCH_DIS_IN) i = true) :
    exec (.inputDisagreementClear l i) s = .next (s.disagreementCleared l i) := by
  show execInputDisagreementClear l i s = _
  exact if_pos (by simp [hs, hi, hrun, hflag])

end

/-- Settles O11: the flag of one input set and cleared once its run has reached the limit; nothing but the lane and its events changes,
so the members stand. -/
theorem inputDisagreementFlagged : Obligations.InputDisagreementFlagged := by
  unfold Obligations.InputDisagreementFlagged
  refine fun s l i hs hi => ⟨fun hrun hflag => ?_, fun hrun hflag => ?_⟩
  · obtain ⟨hdis, hint⟩ := lf_disagreementFlagged s l hi
    have hevt := disagreementFlagged_laneEvt s l i
    exact ⟨_, exec_inputDisagreementFlag hs hi hrun hflag, hdis, by rw [hdis, bitOf_setBit_true], hint, hevt.members, hevt⟩
  · have hdis := lf_disagreementCleared s l hi
    have hevt := disagreementCleared_laneEvt s l i
    exact ⟨_, exec_inputDisagreementClear hs hi hrun hflag, hdis, by rw [hdis, bitOf_setBit, if_pos rfl], hevt.members, hevt⟩

end Sys2Proof.Machine

/-! Coded instructions (05 R141, R155, R161, R166): the registers and CSRs of a core, and what a coded instruction leaves when it finds
no fault, when it finds one, and where it is illegal. -/

namespace Sys2Proof.Machine

/-! ### Registers and CSRs of a core -/

theorem xReg_xSet_other (k : CoreState) {r q : Nat} (v : Word) (h : q ≠ r) : xReg (xSet k r v) q = xReg k q := by
  unfold xReg xSet
  by_cases hr : r = 0
  · rw [if_pos hr]
  · rw [if_neg hr, mapGet_mapSet_other _ _ _ h]

theorem xReg_congr {k k' : CoreState} (h : k'.x = k.x) (r : Nat) : xReg k' r = xReg k r := by
  rw [xReg, h, xReg]

@[simp] theorem xSet_f (k : CoreState) (r : Nat) (v : Word) : (xSet k r v).f = k.f := by
  unfold xSet
  split <;> rfl

@[simp] theorem xSet_csr (k : CoreState) (r : Nat) (v : Word) : (xSet k r v).csr = k.csr := by
  unfold xSet
  split <;> rfl

@[simp] theorem xSet_trap (k : CoreState) (r : Nat) (v : Word) : (xSet k r v).trap = k.trap := by
  unfold xSet
  split <;> rfl

theorem fSet_eq (f : FFmt) (k : CoreState) (r b : Nat) : fSet f k r b = { k with f := mapSet 0 k.f r (floatBits f b) } := by
  cases f <;> rfl

theorem coreCsr_congr {k k' : CoreState} (h : k'.csr = k.csr) (l : LaneId) (n : Nat) : coreCsr l k' n = coreCsr l k n := by
  rw [coreCsr, h, coreCsr]

theorem cf_congr {k k' : CoreState} (h : k'.csr = k.csr) (l : LaneId) (f : Fld) : cf l k' f = cf l k f := by
  rw [cf, coreCsr_congr h, cf]

@[simp] theorem coreCsr_coreCsrSet_same (l : LaneId) (k : CoreState) (n : Nat) (v : Word) : coreCsr l (coreCsrSet l k n v) n = v :=
  mapGet_mapSet_same ..

theorem coreCsr_coreCsrSet_other (l : LaneId) (k : CoreState) {n m : Nat} (v : Word) (h : m ≠ n) :
    coreCsr l (coreCsrSet l k n v) m = coreCsr l k m :=
  mapGet_mapSet_ne _ _ _ _ h

theorem cf_cfSet_same (l : LaneId) (k : CoreState) (f : Fld) (x : Nat) (hf : f.ok = true) :
    cf l (cfSet l k f x) f = x % 2 ^ (f.hi + 1 - f.lo) := by
  rw [cf, cfSet, coreCsr_coreCsrSet_same, fldGet_fldSet_same _ _ _ hf]

theorem cf_cfSet_other (l : LaneId) (k : CoreState) {f g : Fld} (x : Nat) (h : g.reg ≠ f.reg) : cf l (cfSet l k f x) g = cf l k g := by
  rw [cf, cfSet, coreCsr_coreCsrSet_other _ _ _ h, cf]

theorem cf_lt (l : LaneId) (k : CoreState) (f : Fld) : cf l k f < 2 ^ (f.hi + 1 - f.lo) := Nat.mod_lt _ (Nat.two_pow_pos _)

/-! ### The count of retired instructions -/

/-- Core `k` with one more coded instruction retired. -/
def counted (l : LaneId) (k : CoreState) : CoreState := cfSet l k CDA_ICNT (satAdd 0xFFFFFFFF (cf l k CDA_ICNT) 1)

theorem cf_counted_other (l : LaneId) (k : CoreState) {g : Fld} (h : g.reg ≠ CDA_ICNT.reg) : cf l (counted l k) g = cf l k g :=
  cf_cfSet_other _ _ _ h

theorem codedKeeps_counted {l : LaneId} {k k' : CoreState} (hcsr : k'.csr = k.csr) (htrap : k'.trap = k.trap) :
    CodedKeeps l k (counted l k') where
  trap := htrap
  csr n h := (coreCsr_coreCsrSet_other _ _ _ h).trans (coreCsr_congr hcsr l n)
  count := by
    rw [counted, cf_cfSet_same _ _ _ _ rfl, cf_congr hcsr, satAdd]
    exact Nat.mod_eq_of_lt (Nat.lt_of_le_of_lt (Nat.min_le_left ..) (by decide))

theorem codedX_counted (l : LaneId) (k : CoreState) (rd : Nat) (w : Word) : CodedX l k (counted l (xSet k rd w)) rd w where
  dest := xReg_xSet k rd w
  others _ h := xReg_xSet_other k w h
  floats := xSet_f k rd w
  keeps := codedKeeps_counted (xSet_csr k rd w) (xSet_trap k rd w)

theorem codedF_counted (l : LaneId) (k : CoreState) (f : FFmt) (fd b : Nat) : CodedF l k (counted l (fSet f k fd b)) f fd b := by
  rw [fSet_eq]
  exact ⟨mapGet_mapSet_same .., fun r h => mapGet_mapSet_other _ _ _ h, rfl, codedKeeps_counted rfl rfl⟩

/-! ### Faults -/

/-- Recording a fault sets its bits in CDA_FAULT, and the pc while CDA_FAULT was 0 (R155). -/
theorem cf_setFault (l : LaneId) (k : CoreState) {bits : Nat} (pc : Nat) (hb : bits ≠ 0) (hlt : bits < 2 ^ 64) :
    cf l (setFault l k bits pc) CDA_FAULT = nOr (cf l k CDA_FAULT) bits ∧
      cf l (setFault l k bits pc) CDA_FPC = if cf l k CDA_FAULT = 0 then pc % 2 ^ 64 else cf l k CDA_FPC := by
  have hor : nOr (cf l k CDA_FAULT) bits % 2 ^ 64 = nOr (cf l k CDA_FAULT) bits :=
    Nat.mod_eq_of_lt (Nat.or_lt_two_pow (cf_lt l k CDA_FAULT) hlt)
  unfold setFault
  rw [if_neg hb]
  dsimp only
  rw [cf_cfSet_same _ _ _ _ rfl, cf_cfSet_other _ _ _ (by decide)]
  split
  · rw [cf_cfSet_other _ _ _ (by decide), cf_cfSet_same _ _ _ _ rfl]
    exact ⟨hor, rfl⟩
  · exact ⟨hor, rfl⟩

theorem cf_setFault_other (l : LaneId) (k : CoreState) (bits pc : Nat) {g : Fld} (hfault : g.reg ≠ CDA_FAULT.reg) (hpc : g.reg ≠ CDA_FPC.reg) :
    cf l (setFault l k bits pc) g = cf l k g := by
  unfold setFault
  split
  · rfl
  · dsimp only
    rw [cf_cfSet_other _ _ _ hfault]
    split
    · exact cf_cfSet_other _ _ _ hpc
    · rfl

/-- Recording a fault changes CSRs alone. -/
theorem setFault_eq (l : LaneId) (k : CoreState) (bits pc : Nat) : setFault l k bits pc = { k with csr := (setFault l k bits pc).csr } := by
  unfold setFault
  split
  · rfl
  · dsimp only
    split <;> rfl

@[simp] theorem setFault_x (l : LaneId) (k : CoreState) (bits pc : Nat) : (setFault l k bits pc).x = k.x := by
  rw [setFault_eq]

@[simp] theorem setFault_f (l : LaneId) (k : CoreState) (bits pc : Nat) : (setFault l k bits pc).f = k.f := by
  rw [setFault_eq]

@[simp] theorem setFault_trap (l : LaneId) (k : CoreState) (bits pc : Nat) : (setFault l k bits pc).trap = k.trap := by
  rw [setFault_eq]

/-! ### What a coded instruction does -/

section
variable {s : State} {l : LaneId} {c pc : Nat} {plain : Bool} {f : CoreState → CdOut}

/-- The core once an instruction has left `r`: its faults are recorded, and it traps with cause 24 or retires the instruction (R155). -/
theorem codedCore_of_ready {k : CoreState} (hc : c < 4) (hen : cf l k CDA_CTL_EN = 1) (hpass : cf l k CDA_CTL_PASS = b2n (!plain)) :
    codedCore l c pc plain k f =
      if (f k).fault ≠ 0 ∧ cf l (setFault l (f k).core (f k).fault pc) CDA_CTL_FTRAP = 1 then
        (takeTrap (setFault l (f k).core (f k).fault pc) 24 pc none, true)
      else (counted l (setFault l (f k).core (f k).fault pc), false) := by
  have hc4 : c ≠ 4 := by omega
  simp [codedCore, counted, hc4, hen, hpass]

theorem codedCore_illegal {k : CoreState} (hc : c = 4 ∨ c < 4 ∧ cf l k CDA_CTL_EN = 0) :
    codedCore l c pc plain k f = (takeTrap k 2 pc none, true) := by
  rcases hc with rfl | ⟨-, hen⟩
  · rfl
  · simp [codedCore, hen]

theorem coded_of_codedCore (hup : s.coreUp l c = true) {k : CoreState} {trapped : Bool}
    (h : codedCore l c pc plain (s.core l c) f = (k, trapped)) :
    s.coded l c pc plain f = if trapped then (s.coreSet l c k).afterTrap l c (s.core l c) else s.coreSet l c k := by
  rw [State.coded, if_pos hup]
  dsimp only
  rw [h]

/-- An instruction that finds no fault retires. -/
theorem coded_noFault {k : CoreState} (h : s.codedReady l c (b2n (!plain))) (hf : f (s.core l c) = ⟨k, 0⟩) :
    s.coded l c pc plain f = s.coreSet l c (counted l k) := by
  obtain ⟨hs, hc, hen, hpass⟩ := h
  refine coded_of_codedCore (coreUp_of hs (by omega)) (trapped := false) ?_
  rw [codedCore_of_ready hc hen hpass, hf]
  exact if_neg (fun h => h.1 rfl)

/-- An instruction that finds a fault traps with FTRAP and retires without it; `k` is the core with the fault recorded. -/
theorem coded_fault {r k : CoreState} {bits : Nat} (h : s.codedReady l c (b2n (!plain))) (hf : f (s.core l c) = ⟨r, bits⟩) (hb : bits ≠ 0)
    (hk : setFault l r bits pc = k) : s.coded l c pc plain f =
      if cf l k CDA_CTL_FTRAP = 1 then (s.coreSet l c (takeTrap k 24 pc none)).afterTrap l c (s.core l c)
      else s.coreSet l c (counted l k) := by
  obtain ⟨hs, hc, hen, hpass⟩ := h
  have hcore := codedCore_of_ready (pc := pc) (plain := plain) (f := f) hc hen hpass
  have hup : s.coreUp l c = true := coreUp_of hs (by omega)
  rw [hf] at hcore
  dsimp only at hcore
  rw [hk] at hcore
  split
  case isTrue ht => exact coded_of_codedCore hup (hcore.trans (if_pos ⟨hb, ht⟩))
  case isFalse ht => exact coded_of_codedCore hup (hcore.trans (if_neg fun h => ht h.2))

/-- While EN is 0, and on the lane-management core, a coded instruction is illegal (R141). -/
theorem coded_illegal (hs : (s.lane l).supplied = true) (hc : c = 4 ∨ c < 4 ∧ cf l (s.core l c) CDA_CTL_EN = 0) :
    s.coded l c pc plain f = s.coreTrap l c 2 pc none :=
  coded_of_codedCore (coreUp_of hs (by omega)) (codedCore_illegal hc)

end

section
variable {s : State} {l : LaneId} {c pc : Nat} {i : Instr} {f : CoreState → CdOut}

/-- A coded instruction of the encoded pass that finds no fault and writes a general register. -/
theorem codedTo_of_out {rd : Nat} {w : Word} (h : s.codedReady l c 1) (hi : exec i s = .next (s.coded l c pc false f))
    (hf : f (s.core l c) = ⟨xSet (s.core l c) rd w, 0⟩) : s.codedTo l c i rd w :=
  ⟨_, by rw [hi, coded_noFault h hf], codedX_counted ..⟩

/-- A coded instruction of the encoded pass that finds no fault and writes a float register. -/
theorem codedToF_of_out {fmt : FFmt} {fd b : Nat} (h : s.codedReady l c 1) (hi : exec i s = .next (s.coded l c pc false f))
    (hf : f (s.core l c) = ⟨fSet fmt (s.core l c) fd b, 0⟩) : s.codedToF l c i fmt fd b :=
  ⟨_, by rw [hi, coded_noFault h hf], codedF_counted ..⟩

end

/-! ### Operands and results of the integer instructions (R161, R162) -/

/-- The packed operand in `rs3`. -/
abbrev packed (k : CoreState) (rs3 : Nat) : Nat := (xReg k rs3).toNat

/-- The value that `rs1` carries under BX of the packed operand; none where the residue check fails. -/
abbrev operandX (l : LaneId) (k : CoreState) (rs1 rs3 : Nat) : Option Int := codeDec (pkX (packed k rs3)) (cf l k CDA_D) (xReg k rs1)

/-- The value that `rs2` carries under BY. -/
abbrev operandY (l : LaneId) (k : CoreState) (rs2 rs3 : Nat) : Option Int := codeDec (pkY (packed k rs3)) (cf l k CDA_D) (xReg k rs2)

/-- The code word of `v` under the destination signature of the packed operand. -/
abbrev codeWord (l : LaneId) (k : CoreState) (rs3 : Nat) (v : Int) : Word := codeEnc (pkZ (packed k rs3)) (cf l k CDA_D) v

theorem intOut_inDomain (l : LaneId) (k : CoreState) (rd bz : Nat) {v : Int} (h : inDomain v = true) :
    intOut l k rd bz v = ⟨xSet k rd (codeEnc bz (cf l k CDA_D) v), 0⟩ :=
  if_pos h

theorem intOut_outside (l : LaneId) (k : CoreState) (rd bz : Nat) {v : Int} (h : inDomain v = false) :
    intOut l k rd bz v = intFault k rd cdIrange :=
  if_neg (by simp [h])

section
variable {l : LaneId} {u : SigUse} {rd rs1 rs2 rs3 : Nat} {k : CoreState} {x y : Int}

theorem cdUnary_right (g : CoreState → Nat → Int → CdOut) (hsig : sigOk u (packed k rs3) = true)
    (hx : operandX l k rs1 rs3 = some x) : cdUnary l u rd rs1 rs3 g k = g k (packed k rs3) x := by
  simp [cdUnary, hsig, hx]

theorem cdBinary_right (g : CoreState → Nat → Int → Int → CdOut) (hsig : sigOk u (packed k rs3) = true)
    (hx : operandX l k rs1 rs3 = some x) (hy : operandY l k rs2 rs3 = some y) :
    cdBinary l u rd rs1 rs2 rs3 g k = g k (packed k rs3) x y := by
  simp [cdBinary, hsig, hx, hy]

theorem cdBinary_wrongSig (g : CoreState → Nat → Int → Int → CdOut) (hsig : sigOk u (packed k rs3) = false) :
    cdBinary l u rd rs1 rs2 rs3 g k = intFault k rd cdSig := by
  simp [cdBinary, hsig]

/-- A failed residue check of either operand. -/
theorem cdBinary_wrongResidue (g : CoreState → Nat → Int → Int → CdOut) (hsig : sigOk u (packed k rs3) = true)
    (h : operandX l k rs1 rs3 = none ∨ operandY l k rs2 rs3 = none) :
    cdBinary l u rd rs1 rs2 rs3 g k = intFault k rd cdRes := by
  rcases h with h | h
  · simp [cdBinary, hsig, h]
  · cases hx : operandX l k rs1 rs3 <;> simp [cdBinary, hsig, h, hx]

end

end Sys2Proof.Machine

/-! Results of the coded integer instructions on right operands (05 R162, R165). -/

namespace Sys2Proof.Machine

/-! ### One and two operands -/

section
variable {s : State} {l : LaneId} {c pc rd rs1 rs2 rs3 : Nat} {i : Instr} {u : SigUse} {x y v : Int}

/-- An instruction of one right operand with a result in the coded domain. -/
theorem codedTo_unary {g : CoreState → Nat → Int → CdOut} (h : s.codedReady l c 1)
    (hi : exec i s = .next (s.coded l c pc false (cdUnary l u rd rs1 rs3 g)))
    (hsig : sigOk u (packed (s.core l c) rs3) = true) (hx : operandX l (s.core l c) rs1 rs3 = some x)
    (hg : g (s.core l c) (packed (s.core l c) rs3) x = intOut l (s.core l c) rd (pkZ (packed (s.core l c) rs3)) v)
    (hv : inDomain v = true) :
    s.codedTo l c i rd (codeWord l (s.core l c) rs3 v) :=
  codedTo_of_out h hi (by rw [cdUnary_right g hsig hx, hg, intOut_inDomain _ _ _ _ hv])

/-- An instruction of two right operands with a result in the coded domain. -/
theorem codedTo_binary {g : CoreState → Nat → Int → Int → CdOut} (h : s.codedReady l c 1)
    (hi : exec i s = .next (s.coded l c pc false (cdBinary l u rd rs1 rs2 rs3 g)))
    (hsig : sigOk u (packed (s.core l c) rs3) = true)
    (hx : operandX l (s.core l c) rs1 rs3 = some x) (hy : operandY l (s.core l c) rs2 rs3 = some y)
    (hg : g (s.core l c) (packed (s.core l c) rs3) x y = intOut l (s.core l c) rd (pkZ (packed (s.core l c) rs3)) v)
    (hv : inDomain v = true) :
    s.codedTo l c i rd (codeWord l (s.core l c) rs3 v) :=
  codedTo_of_out h hi (by rw [cdBinary_right g hsig hx hy, hg, intOut_inDomain _ _ _ _ hv])

end

/-! ### Arithmetic -/

/-- Settles O12: each instruction hands its own value to `intOut`; a divisor of 0 has values of its own. -/
theorem codedArithmeticResults : Obligations.CodedArithmeticResults := by
  unfold Obligations.CodedArithmeticResults
  intro s l c pc rd rs1 rs2 rs3 x y h k p d hx hy
  refine ⟨fun hsig => ⟨?add, ?sub, ?mul, fun hy0 => ?div, fun hy0 => ?divZero, fun hy0 => ?rem, fun hy0 => ?remZero⟩, fun hsig => ?mulq⟩
  case add => exact codedTo_binary h rfl hsig hx hy rfl
  case sub => exact codedTo_binary h rfl hsig hx hy rfl
  case mul => exact codedTo_binary h rfl hsig hx hy rfl
  case div => exact codedTo_binary h rfl hsig hx hy (congrArg _ (if_neg hy0))
  case divZero => exact codedTo_binary h rfl hsig hx hy (congrArg _ (if_pos hy0)) rfl
  case rem => exact codedTo_binary h rfl hsig hx hy (congrArg _ (if_neg hy0))
  case remZero => exact codedTo_binary h rfl hsig hx hy (congrArg _ (if_pos hy0))
  case mulq => exact codedTo_binary h rfl hsig hx hy rfl

/-! ### Wrapping -/

theorem wrapInt_unsigned (w : Nat) (x : Int) : wrapInt false w x = x % 2 ^ w := rfl

/-- The signed range: the residue moved by half the modulus. -/
theorem wrapInt_signed {w : Nat} (hw : 1 ≤ w) (x : Int) : wrapInt true w x = (x + 2 ^ (w - 1)) % 2 ^ w - 2 ^ (w - 1) := by
  obtain ⟨n, rfl⟩ : ∃ n, w = n + 1 := ⟨w - 1, by omega⟩
  have hmod : (2 : Int) ^ (n + 1) = 2 ^ n * 2 := pow_succ ..
  have hpos : (0 : Int) < 2 ^ n := by positivity
  have hnonneg := Int.emod_nonneg x (b := 2 ^ (n + 1)) (by omega)
  have hlt := Int.emod_lt_of_pos x (b := 2 ^ (n + 1)) (by omega)
  simp only [wrapInt, Bool.true_and, decide_eq_true_eq, Nat.add_sub_cancel]
  have hmove : (x + 2 ^ n) % 2 ^ (n + 1) = (x % 2 ^ (n + 1) + 2 ^ n) % 2 ^ (n + 1) := (Int.emod_add_emod ..).symm
  rw [hmove]
  split
  case isTrue hhalf =>
    rw [← Int.sub_emod_right (x % 2 ^ (n + 1) + 2 ^ n), Int.emod_eq_of_lt (a := x % 2 ^ (n + 1) + 2 ^ n - _) (by omega) (by omega)]
    omega
  case isFalse hhalf =>
    rw [Int.emod_eq_of_lt (a := x % 2 ^ (n + 1) + 2 ^ n) (by omega) (by omega)]
    omega

theorem inDomain_wrapInt (signed : Bool) {w : Nat} (hw : w ≤ 32) (x : Int) : inDomain (wrapInt signed w x) = true := by
  have hpos : (0 : Int) < 2 ^ w := by positivity
  have hle : (2 : Int) ^ w ≤ 2 ^ 32 := pow_le_pow_right₀ (by decide) hw
  have hnonneg := Int.emod_nonneg x hpos.ne'
  have hlt := Int.emod_lt_of_pos x hpos
  simp only [inDomain, Bool.and_eq_true, decide_eq_true_eq, wrapInt]
  split <;> omega

/-- The packed operand is right when its fields are and the instruction takes its Q. -/
theorem sigOk_of_q {u : SigUse} {p : Nat} (h : sigOk { u with q := fun _ => true } p = true) (hq : u.q (pkQ p) = true) : sigOk u p = true := by
  simp only [sigOk, Bool.and_true] at h
  simp [sigOk, hq, h]

/-! ### Booleans -/

theorem isBool_iff {x : Int} : isBool x = true ↔ x = 0 ∨ x = 1 := by
  simp [isBool]

theorem inDomain_truth (P : Prop) [Decidable P] : inDomain (if P then 1 else 0) = true := by
  split <;> rfl

theorem b2i_decide (P : Prop) [Decidable P] : b2i (decide P) = if P then 1 else 0 := by
  simp [b2i]

section
variable {x y : Int} (hx : isBool x = true)
include hx

theorem mul_of_isBool (hy : isBool y = true) : x * y = if x = 1 ∧ y = 1 then 1 else 0 := by
  rcases isBool_iff.1 hx with rfl | rfl <;> rcases isBool_iff.1 hy with rfl | rfl <;> rfl

theorem max_of_isBool (hy : isBool y = true) : max x y = if x = 1 ∨ y = 1 then 1 else 0 := by
  rcases isBool_iff.1 hx with rfl | rfl <;> rcases isBool_iff.1 hy with rfl | rfl <;> rfl

theorem one_sub_of_isBool : 1 - x = if x = 1 then 0 else 1 := by
  rcases isBool_iff.1 hx with rfl | rfl <;> rfl

theorem ofInt_of_isBool : BitVec.ofInt 64 x = if x = 1 then 1 else 0 := by
  rcases isBool_iff.1 hx with rfl | rfl <;> rfl

end

/-! ### Condition folds (R165) -/

theorem foldCond_lt (sig : Nat) (b : Bool) : foldCond sig b < 2 ^ 32 := (crcByte _ _).isLt

/-- cd.cond writes the plain truth value and folds it into CDA_ESIG. -/
theorem exec_cdCond {s : State} {l : LaneId} {c rs1 rs3 : Nat} {x : Int} (pc rd : Nat) (h : s.codedReady l c 1)
    (hsig : sigOk { x := true } (packed (s.core l c) rs3) = true) (hx : operandX l (s.core l c) rs1 rs3 = some x)
    (hbool : isBool x = true) : exec (.cdCond l c pc rd rs1 rs3) s = .next (s.coreSet l c (counted l
      (cfSet l (xSet (s.core l c) rd (BitVec.ofInt 64 x)) CDA_ESIG (foldCond (cf l (s.core l c) CDA_ESIG) (decide (x = 1)))))) := by
  show execCdCond l c pc rd rs1 rs3 s = _
  rw [execCdCond, coded_noFault h]
  rw [cdUnary_right _ hsig hx, if_pos hbool]

theorem exec_cdPfold {s : State} {l : LaneId} {c : Nat} (pc rs1 : Nat) (h : s.codedReady l c 0) :
    exec (.cdPfold l c pc rs1) s = .next (s.coreSet l c (counted l
      (cfSet l (s.core l c) CDA_PSIG (foldCond (cf l (s.core l c) CDA_PSIG) (decide (xReg (s.core l c) rs1 ≠ 0)))))) := by
  show execCdPfold l c pc rs1 s = _
  rw [execCdPfold, coded_noFault h rfl]

/-- A folded condition reads as folded. -/
theorem cf_counted_fold (l : LaneId) (k : CoreState) {f : Fld} (sig : Nat) (b : Bool) (hf : f.ok = true) (hw : f.hi + 1 - f.lo = 32)
    (hcnt : f.reg ≠ CDA_ICNT.reg) : cf l (counted l (cfSet l k f (foldCond sig b))) f = foldCond sig b := by
  rw [cf_counted_other _ _ hcnt, cf_cfSet_same _ _ _ _ hf, hw, Nat.mod_eq_of_lt (foldCond_lt sig b)]

/-! ### Operands under another D, and instructions of one operand -/

/-- cd.rebase: an operand decoded under an old D of 1 to 32 767 is encoded under the present one. -/
theorem exec_cdRebase {s : State} {l : LaneId} {c rs1 rs2 rs3 : Nat} {x : Int} (pc rd : Nat) (h : s.codedReady l c 1)
    (hsig : sigOk { x := true, z := true } (packed (s.core l c) rs3) = true) (hd0 : (xReg (s.core l c) rs2).toNat ≠ 0)
    (hd : (xReg (s.core l c) rs2).toNat ≤ 32767)
    (hx : codeDec (pkX (packed (s.core l c) rs3)) (xReg (s.core l c) rs2).toNat (xReg (s.core l c) rs1) = some x)
    (hv : inDomain x = true) : exec (.cdRebase l c pc rd rs1 rs2 rs3) s = .next (s.coreSet l c (counted l
      (xSet (s.core l c) rd (codeWord l (s.core l c) rs3 x)))).drawn := by
  show execCdRebase l c pc rd rs1 rs2 rs3 s = _
  rw [execCdRebase, coded_noFault h]
  simp [hsig, hd0, Nat.not_lt.2 hd, hx, intOut_inDomain _ _ _ _ hv]

section
variable {s : State} {l : LaneId} {c rs1 rs3 : Nat} {x : Int} (pc rd : Nat) (h : s.codedReady l c 1)
  (hx : operandX l (s.core l c) rs1 rs3 = some x)
include h

theorem codedTo_cdEnc (hsig : sigOk { z := true } (packed (s.core l c) rs3) = true) (hv : inDomain (xReg (s.core l c) rs1).toInt = true) :
    s.codedTo l c (.cdEnc l c pc rd rs1 rs3) rd (codeWord l (s.core l c) rs3 (xReg (s.core l c) rs1).toInt) :=
  codedTo_of_out h rfl (by simp [hsig, intOut_inDomain _ _ _ _ hv])

include hx

theorem codedTo_cdDec (hsig : sigOk { x := true } (packed (s.core l c) rs3) = true) (hv : inDomain x = true) :
    s.codedTo l c (.cdDec l c pc rd rs1 rs3) rd (BitVec.ofInt 64 x) :=
  codedTo_of_out h rfl (by rw [cdUnary_right _ hsig hx, if_pos hv])

theorem codedTo_cdChk (hsig : sigOk { x := true } (packed (s.core l c) rs3) = true) : s.codedTo l c (.cdChk l c pc rs1 rs3) 0 0 :=
  codedTo_of_out h rfl (cdUnary_right _ hsig hx)

/-- cd.wrap hands on the wrapped operand, which lies in the coded domain. -/
theorem codedTo_cdWrap (hq : bitsOf (pkQ (packed (s.core l c) rs3)) 6 6 = 0) (hw1 : 1 ≤ bitsOf (pkQ (packed (s.core l c) rs3)) 5 0)
    (hw : bitsOf (pkQ (packed (s.core l c) rs3)) 5 0 ≤ 32)
    (hsig : sigOk { x := true, z := true, q := fun _ => true } (packed (s.core l c) rs3) = true) :
    s.codedTo l c (.cdWrap l c pc rd rs1 rs3) rd (codeWord l (s.core l c) rs3
      (wrapInt (bitOf (pkQ (packed (s.core l c) rs3)) 7) (bitsOf (pkQ (packed (s.core l c) rs3)) 5 0) x)) :=
  codedTo_unary h rfl (sigOk_of_q hsig (by simp [hq, hw1, hw])) hx rfl (inDomain_wrapInt _ hw x)

end

/-- Settles O13: the instructions of one operand, and then the comparisons, the coded booleans and the folds. -/
theorem codedUnaryAndBooleanResults : Obligations.CodedUnaryAndBooleanResults := by
  unfold Obligations.CodedUnaryAndBooleanResults
  constructor
  · intro s l c pc rd rs1 rs2 rs3 x h k p d
    refine ⟨codedTo_cdEnc pc rd h, fun hx => ⟨codedTo_cdDec pc rd h hx, codedTo_cdChk pc h hx, ?resig, ?sra, ?wrap⟩, ?rebase⟩
    case resig => exact fun hsig => codedTo_unary h rfl hsig hx rfl
    case sra => exact fun hsig => codedTo_unary h rfl hsig hx rfl
    case wrap =>
      intro hq hw1 hw hsig
      have hwrap := codedTo_cdWrap pc rd h hx hq hw1 hw hsig
      constructor <;> intro hb
      · rwa [hb, wrapInt_unsigned] at hwrap
      · rwa [hb, wrapInt_signed hw1] at hwrap
    case rebase => exact fun hsig hd0 hd hx hv => ⟨_, exec_cdRebase pc rd h hsig hd0 hd hx hv, codedX_counted ..⟩
  · intro s l c pc rd rs1 rs2 rs3 x y k p d
    refine ⟨fun h hx => ⟨fun hy hsig => ⟨?slt, ?seq, fun hbx hby => ⟨?band, ?bor⟩⟩, fun hbx hsig => ?bnot, fun hbx hsig => ?cond⟩,
      fun h => ?pfold⟩
    case slt => exact codedTo_binary h rfl hsig hx hy (congrArg _ (b2i_decide _)) (inDomain_truth _)
    case seq => exact codedTo_binary h rfl hsig hx hy (congrArg _ (b2i_decide _)) (inDomain_truth _)
    case band => exact codedTo_binary h rfl hsig hx hy (by simp [hbx, hby, mul_of_isBool hbx hby]) (inDomain_truth _)
    case bor => exact codedTo_binary h rfl hsig hx hy (by simp [hbx, hby, max_of_isBool hbx hby]) (inDomain_truth _)
    case bnot => exact codedTo_unary h rfl hsig hx (by simp [hbx, one_sub_of_isBool hbx]) (by split <;> rfl)
    case cond =>
      refine ⟨_, exec_cdCond pc rd h hsig hx hbx, ?_, cf_counted_fold _ _ _ _ rfl rfl (by decide), ?_, xSet_f ..⟩
      · exact (xReg_xSet ..).trans (by rw [ofInt_of_isBool hbx])
      · rw [cf_counted_other _ _ (by decide), cf_cfSet_other _ _ _ (by decide), cf_congr (xSet_csr ..)]
    case pfold =>
      refine ⟨_, exec_cdPfold pc rs1 h, rfl, rfl, cf_counted_fold _ _ _ _ rfl rfl (by decide), ?_⟩
      rw [cf_counted_other _ _ (by decide), cf_cfSet_other _ _ _ (by decide)]

end Sys2Proof.Machine

/-! Faults of the coded integer instructions of two operands (05 R155, R161, R162). -/

namespace Sys2Proof.Machine

/-! ### What a fault leaves -/

/-- Command `i` at `pc` records the fault `bit` on core `c` and writes 0 to `rd`; with FTRAP it traps with cause 24. -/
def State.codedFaultTo (s : State) (l : LaneId) (c pc rd : Nat) (i : Instr) (bit : Nat) : Prop :=
  let k := s.core l c
  ∃ k', exec i s = .next (if cf l k CDA_CTL_FTRAP = 1 then (s.coreSet l c k').afterTrap l c k else s.coreSet l c k') ∧ xReg k' rd = 0 ∧
    cf l k' CDA_FAULT = nOr (cf l k CDA_FAULT) bit ∧
    cf l k' CDA_FPC = (if cf l k CDA_FAULT = 0 then pc % 2 ^ 64 else cf l k CDA_FPC) ∧
    k'.trap = (if cf l k CDA_CTL_FTRAP = 1 then some ⟨24, pc, none⟩ else k.trap) ∧ (∀ r, r ≠ rd → xReg k' r = xReg k r) ∧ k'.f = k.f

/-- Core `k` with 0 written to `rd` and a fault recorded. -/
def faulted (l : LaneId) (k : CoreState) (rd bits pc : Nat) : CoreState := setFault l (xSet k rd 0) bits pc

theorem xReg_faulted (l : LaneId) (k : CoreState) (rd bits pc r : Nat) :
    xReg (faulted l k rd bits pc) r = if r = rd then 0 else xReg k r := by
  rw [faulted, xReg_congr (setFault_x ..)]
  split
  case isTrue h => rw [h, xReg_xSet, ite_self]
  case isFalse h => exact xReg_xSet_other k 0 h

@[simp] theorem faulted_f (l : LaneId) (k : CoreState) (rd bits pc : Nat) : (faulted l k rd bits pc).f = k.f := by
  simp [faulted]

@[simp] theorem faulted_trap (l : LaneId) (k : CoreState) (rd bits pc : Nat) : (faulted l k rd bits pc).trap = k.trap := by
  simp [faulted]

theorem cf_faulted (l : LaneId) (k : CoreState) (rd : Nat) {bits : Nat} (pc : Nat) (hb : bits ≠ 0) (hlt : bits < 2 ^ 64) :
    cf l (faulted l k rd bits pc) CDA_FAULT = nOr (cf l k CDA_FAULT) bits ∧
      cf l (faulted l k rd bits pc) CDA_FPC = if cf l k CDA_FAULT = 0 then pc % 2 ^ 64 else cf l k CDA_FPC := by
  have h := cf_setFault l (xSet k rd 0) pc hb hlt
  rwa [cf_congr (xSet_csr k rd 0), cf_congr (xSet_csr k rd 0)] at h

theorem cf_faulted_ftrap (l : LaneId) (k : CoreState) (rd bits pc : Nat) :
    cf l (faulted l k rd bits pc) CDA_CTL_FTRAP = cf l k CDA_CTL_FTRAP := by
  rw [faulted, cf_setFault_other _ _ _ _ (by decide) (by decide), cf_congr (xSet_csr ..)]

/-! ### An instruction of two operands that finds a fault -/

section
variable {s : State} {l : LaneId} {c pc rd rs1 rs2 rs3 : Nat} {i : Instr} {bit : Nat}

/-- A coded instruction that answers `intFault` records the fault, whether it traps or retires. -/
theorem codedFaultTo_of_out {f : CoreState → CdOut} (h : s.codedReady l c 1) (hi : exec i s = .next (s.coded l c pc false f))
    (hf : f (s.core l c) = intFault (s.core l c) rd bit) (hb : bit ≠ 0) (hlt : bit < 2 ^ 64) : s.codedFaultTo l c pc rd i bit := by
  have hexec := hi.trans (congrArg _ (coded_fault (plain := false) (pc := pc) (f := f) h hf hb rfl))
  obtain ⟨hfault, hpc⟩ := cf_faulted l (s.core l c) rd pc hb hlt
  have hflt := faulted_f l (s.core l c) rd bit pc
  have hdest := xReg_faulted l (s.core l c) rd bit pc
  rw [← faulted, cf_faulted_ftrap] at hexec
  by_cases ht : cf l (s.core l c) CDA_CTL_FTRAP = 1
  · refine ⟨takeTrap (faulted l (s.core l c) rd bit pc) 24 pc none, ?_, ?_, hfault, hpc, (if_pos ht).symm, fun r hr => ?_, hflt⟩
    · rw [hexec, if_pos ht, if_pos ht]
    · exact (hdest rd).trans (if_pos rfl)
    · exact (hdest r).trans (if_neg hr)
  · refine ⟨counted l (faulted l (s.core l c) rd bit pc), ?_, ?_, ?_, ?_, ?_, fun r hr => ?_, hflt⟩
    · rw [hexec, if_neg ht, if_neg ht]
    · exact (hdest rd).trans (if_pos rfl)
    · rw [cf_counted_other _ _ (by decide), hfault]
    · rw [cf_counted_other _ _ (by decide), hpc]
    · exact (faulted_trap ..).trans (if_neg ht).symm
    · exact (hdest r).trans (if_neg hr)

/-- A fault that an instruction finds in two right operands. -/
theorem codedFaultTo_binary {u : SigUse} {g : CoreState → Nat → Int → Int → CdOut} {x y : Int} (h : s.codedReady l c 1)
    (hi : exec i s = .next (s.coded l c pc false (cdBinary l u rd rs1 rs2 rs3 g)))
    (hsig : sigOk u (packed (s.core l c) rs3) = true)
    (hx : operandX l (s.core l c) rs1 rs3 = some x) (hy : operandY l (s.core l c) rs2 rs3 = some y)
    (hg : g (s.core l c) (packed (s.core l c) rs3) x y = intFault (s.core l c) rd bit) (hb : bit ≠ 0) (hlt : bit < 2 ^ 64) :
    s.codedFaultTo l c pc rd i bit :=
  codedFaultTo_of_out h hi (by rw [cdBinary_right g hsig hx hy, hg]) hb hlt

end

/-- The integer instructions of two operands without a Q read their operands in one way. -/
theorem exec_eq_cdBinary (s : State) (l : LaneId) (c pc rd rs1 rs2 rs3 : Nat) :
    ∀ i ∈ [Instr.cdAdd l c pc rd rs1 rs2 rs3, .cdSub l c pc rd rs1 rs2 rs3, .cdMul l c pc rd rs1 rs2 rs3, .cdDiv l c pc rd rs1 rs2 rs3,
        .cdRem l c pc rd rs1 rs2 rs3, .cdSlt l c pc rd rs1 rs2 rs3, .cdSeq l c pc rd rs1 rs2 rs3, .cdBand l c pc rd rs1 rs2 rs3,
        .cdBor l c pc rd rs1 rs2 rs3],
      ∃ g, exec i s = .next (s.coded l c pc false (cdBinary l { x := true, y := true, z := true } rd rs1 rs2 rs3 g)) := by
  iterate 9 refine List.forall_mem_cons.2 ⟨⟨_, rfl⟩, ?_⟩
  exact List.forall_mem_nil _

/-- Settles O14: a fault of the operands is found before the instruction's own operation, a fault of the result by that operation. -/
theorem codedFaultsRecorded : Obligations.CodedFaultsRecorded := by
  unfold Obligations.CodedFaultsRecorded
  intro s l c pc rd rs1 rs2 rs3 h k p d faults i hmem
  obtain ⟨g, hi⟩ := exec_eq_cdBinary s l c pc rd rs1 rs2 rs3 i hmem
  refine ⟨fun hsig => ?sig, fun hsig => ⟨fun hres => ?residue, fun x y hx hy => ⟨?add, ?mul, ?band⟩⟩⟩
  case sig => exact codedFaultTo_of_out h hi (cdBinary_wrongSig g hsig) (by decide) (by decide)
  case residue => exact codedFaultTo_of_out h hi (cdBinary_wrongResidue g hsig hres) (by decide) (by decide)
  case add =>
    rintro rfl hv
    exact codedFaultTo_binary h rfl hsig hx hy (intOut_outside _ _ _ _ hv) (by decide) (by decide)
  case mul =>
    rintro rfl hv
    exact codedFaultTo_binary h rfl hsig hx hy (intOut_outside _ _ _ _ hv) (by decide) (by decide)
  case band =>
    rintro rfl hbool
    have hnot : ¬(isBool x && isBool y) = true := by rcases hbool with hb | hb <;> simp [hb]
    exact codedFaultTo_binary h rfl hsig hx hy (if_neg hnot) (by decide) (by decide)

end Sys2Proof.Machine

/-! Results of the coded float instructions, and of the conversions between floats and integers (05 R163, R164). -/

namespace Sys2Proof.Machine

theorem fltOut_inRange (l : LaneId) (f : FFmt) (k : CoreState) (fd : Nat) {v : FVal × Bool} (h : fltFault f v = 0) :
    fltOut l f k fd v = ⟨fSet f k fd (packSticky f (negScale v.1 (cf l k CDA_S), v.2)), 0⟩ := by
  rw [fltOut, h]

theorem inDomain_fClass (f : FFmt) (v : FVal) : inDomain (fClass f v) = true := by
  unfold fClass
  split
  · rfl
  · split <;> rfl
  · split
    · split <;> rfl
    · split <;> split <;> rfl

section
variable {s : State} {l : LaneId} {c pc : Nat} {i : Instr}

/-- A float instruction whose result before rounding sets no FRANGE. -/
theorem codedToF_float {f : FFmt} {fd : Nat} {g : CoreState → FVal × Bool} {v : FVal × Bool} (h : s.codedReady l c 1)
    (hi : exec i s = .next (s.coded l c pc false (fun k => fltOut l f k fd (g k)))) (hg : g (s.core l c) = v) (hv : fltFault f v = 0) :
    s.codedToF l c i f fd (packSticky f (negScale v.1 (cf l (s.core l c) CDA_S), v.2)) :=
  codedToF_of_out h hi (by rw [hg, fltOut_inRange _ _ _ _ hv])

/-- An instruction from floats to an integer, with a right packed operand and a result in the coded domain. -/
theorem codedTo_mixed {u : SigUse} {rd rs3 : Nat} {g : CoreState → Int} {v : Int} (h : s.codedReady l c 1)
    (hi : exec i s = .next (s.coded l c pc false (cdMixed l u rd rs3 g))) (hsig : sigOk u (packed (s.core l c) rs3) = true)
    (hg : g (s.core l c) = v) (hv : inDomain v = true) :
    s.codedTo l c i rd (codeWord l (s.core l c) rs3 v) :=
  codedTo_of_out h hi (by simp [cdMixed, hsig, hg, intOut_inDomain _ _ _ _ hv])

end

section
variable {s : State} {l : LaneId} {c : Nat} (pc : Nat) {f : FFmt} (h : s.codedReady l c 1)
include h

theorem codedToF_cdFdec (fd fs1 : Nat)
    (hv : fltFault f (fDec (cf l (s.core l c) CDA_S) (fReg f (s.core l c) fs1), false) = 0) :
    s.codedToF l c (.cdFdec l c pc f fd fs1) f fd (pack f (fDec (cf l (s.core l c) CDA_S) (fReg f (s.core l c) fs1))) :=
  codedToF_of_out h rfl (congrArg (CdOut.mk _) hv)

theorem codedTo_cdFcvtX (rd rs1 : Nat) {rs3 : Nat} {v : Int} (hsig : sigOk { z := true, q := cvtQ } (packed (s.core l c) rs3) = true)
    (hconv : fConvert (bitsOf (pkQ (packed (s.core l c) rs3)) 2 0) (cvtRange (pkQ (packed (s.core l c) rs3))).1
      (cvtRange (pkQ (packed (s.core l c) rs3))).2 (fDec (cf l (s.core l c) CDA_S) (fReg f (s.core l c) rs1)) = v)
    (hv : inDomain v = true) : s.codedTo l c (.cdFcvtX l c pc f rd rs1 rs3) rd (codeWord l (s.core l c) rs3 v) :=
  codedTo_of_out h rfl (by simp [cdMixed, hsig, fOperand, hconv, intOut_inDomain _ _ _ _ hv])

/-- cd.fcvt.f: a right operand whose conversion sets no FRANGE. -/
theorem exec_cdFcvtF (fd rs1 rs3 : Nat) {x : Int} {v : FVal}
    (hsig : sigOk { x := true, q := fun q => decide (q ≤ 4) } (packed (s.core l c) rs3) = true)
    (hx : operandX l (s.core l c) rs1 rs3 = some x)
    (hconv : unpack f (packRound f (pkQ (packed (s.core l c) rs3)) (decide (x < 0)) x.natAbs 0 false) = v)
    (hv : fltFault f (v, false) = 0) : exec (.cdFcvtF l c pc f fd rs1 rs3) s = .next (s.coreSet l c (counted l
      (fSet f (s.core l c) fd (packSticky f (negScale v (cf l (s.core l c) CDA_S), false))))).drawn := by
  show execCdFcvtF l c pc f fd rs1 rs3 s = _
  rw [execCdFcvtF, coded_noFault h]
  simp [hsig, hx, hconv, fltOut_inRange _ _ _ _ hv]

/-- cd.frebase: an old scale of 1 to 15, with a result that sets no FRANGE. -/
theorem exec_cdFrebase (fd fs1 rs2 : Nat) (hs0 : (xReg (s.core l c) rs2).toNat ≠ 0) (hs15 : (xReg (s.core l c) rs2).toNat ≤ 15)
    (hv : fltFault f (fDec (xReg (s.core l c) rs2).toNat (fReg f (s.core l c) fs1), false) = 0) :
    exec (.cdFrebase l c pc f fd fs1 rs2) s = .next (s.coreSet l c (counted l (fSet f (s.core l c) fd
      (packSticky f (negScale (fDec (xReg (s.core l c) rs2).toNat (fReg f (s.core l c) fs1)) (cf l (s.core l c) CDA_S), false))))).drawn := by
  show execCdFrebase l c pc f fd fs1 rs2 s = _
  rw [execCdFrebase, coded_noFault h]
  simp [hs0, Nat.not_lt.2 hs15, fltOut_inRange _ _ _ _ hv]

end

/-- Settles O15: each float instruction hands its own value to `fltOut`, and each one from floats to integers to `cdMixed`. -/
theorem codedFloatAndMixedResults : Obligations.CodedFloatAndMixedResults := by
  unfold Obligations.CodedFloatAndMixedResults
  constructor
  · intro s l c pc f fd fs1 fs2 fs3 h k sn a b e result
    exact ⟨codedToF_float h rfl rfl, codedToF_float h rfl rfl, codedToF_float h rfl rfl, codedToF_float h rfl rfl,
      codedToF_float h rfl rfl, codedToF_float h rfl rfl, codedToF_cdFdec pc h fd fs1⟩
  · intro s l c pc f rd rs1 rs2 rs3 h k p d sn a b
    refine ⟨fun hsig => ⟨?flt, ?fle, ?feq, ?fclass⟩, fun hsig hv => ?fcvtX, fun x hsig hx hv => ?fcvtF, fun hs0 hs15 hv => ?frebase⟩
    case flt => exact codedTo_mixed h rfl hsig rfl (inDomain_truth _)
    case fle => exact codedTo_mixed h rfl hsig rfl (inDomain_truth _)
    case feq => exact codedTo_mixed h rfl hsig rfl (inDomain_truth _)
    case fclass => exact codedTo_mixed h rfl hsig rfl (inDomain_fClass f a)
    case fcvtX => exact codedTo_cdFcvtX pc h rd rs1 hsig rfl hv
    case fcvtF => exact ⟨_, exec_cdFcvtF pc h rd rs1 rs3 hsig hx rfl hv, codedF_counted ..⟩
    case frebase => exact ⟨_, exec_cdFrebase pc h rd rs1 rs2 hs0 hs15 hv, codedF_counted ..⟩

end Sys2Proof.Machine

/-! Writes of the coded-arithmetic CSRs, and where the coded instructions are illegal (05 R141, R166, R167). -/

namespace Sys2Proof.Machine

/-! ### What a write makes of a CSR -/

theorem toNat_ofNat_mod (n : Nat) {m : Nat} (h : m ≤ 64) : (BitVec.ofNat 64 n).toNat % 2 ^ m = n % 2 ^ m := by
  rw [BitVec.toNat_ofNat, Nat.mod_mod_of_dvd _ (pow_dvd_pow 2 h)]

/-- The low bits written under a mask of ones are the ones written. -/
theorem masked_mod (old w n : Nat) : nOr (nAndNot old (2 ^ n - 1)) (nAnd w (2 ^ n - 1)) % 2 ^ n = w % 2 ^ n := by
  refine Nat.eq_of_testBit_eq fun i => ?_
  rw [Nat.testBit_mod_two_pow, Nat.testBit_mod_two_pow]
  by_cases hi : i < n
  · have hone : bitOf (2 ^ n - 1) i = true := by rw [bitOf_eq_testBit, Nat.testBit_two_pow_sub_one, decide_eq_true hi]
    rw [← bitOf_eq_testBit, ← bitOf_eq_testBit, bitOf_nOr, bitOf_nAndNot, bitOf_nAnd, hone]
    simp
  · simp [hi]

theorem masked_zero (old w : Nat) : nOr (nAndNot old 0) (nAnd w 0) = old := by
  simp [nOr, nAndNot, nAnd]

/-- The low three bits with the third one cleared. -/
theorem setBit_two_mod (v : Nat) : setBit v 2 false % 8 = v % 4 := by
  refine Nat.eq_of_testBit_eq fun i => ?_
  rw [show 8 = 2 ^ 3 from rfl, show 4 = 2 ^ 2 from rfl, Nat.testBit_mod_two_pow, Nat.testBit_mod_two_pow, ← bitOf_eq_testBit, bitOf_setBit,
    ← bitOf_eq_testBit]
  by_cases hi : i = 2
  · simp [hi]
  · rw [if_neg hi, decide_eq_decide.2 (show i < 3 ↔ i < 2 by omega)]

section
variable (s : State) (l : LaneId) (old w : Nat)

/-- A 1 written to a bit of CDA_FAULT clears it. -/
theorem bitOf_cdaWrite_fault {i : Nat} (hi : i < 6) : bitOf (s.cdaWrite l 0x7C6 old w) i = (bitOf old i && !bitOf w i) := by
  have hmask : bitOf 0x3F i = true := by
    rw [bitOf_eq_testBit, show 0x3F = 2 ^ 6 - 1 from rfl, Nat.testBit_two_pow_sub_one, decide_eq_true hi]
  have hw : s.cdaWrite l 0x7C6 old w = nAndNot old (nAnd w 0x3F) := by simp [State.cdaWrite]
  rw [hw, bitOf_nAndNot, bitOf_nAnd, hmask, Bool.and_true]

/-- CDA_CTL takes its three bits, but for FTRAP in SAFE-3 and SAFE-2. -/
theorem cdaWrite_ctl_mod : s.cdaWrite l 0x7C0 old w % 8 = if safeMode (s.laneMode l) then w % 4 else w % 8 := by
  have hnew : nOr (nAndNot old 7) (nAnd w 7) % 8 = w % 8 := masked_mod old w 3
  have hctl : s.cdaWrite l 0x7C0 old w =
      if safeMode (s.laneMode l) then setBit (nOr (nAndNot old 7) (nAnd w 7)) 2 false else nOr (nAndNot old 7) (nAnd w 7) := rfl
  rw [hctl]
  split
  · rw [setBit_two_mod]
    omega
  · exact hnew

/-- CDA_PSIG, CDA_ESIG and CDA_ICNT take the low word. -/
theorem cdaWrite_word_mod {csr : Nat} (h : csr = 0x7C4 ∨ csr = 0x7C5 ∨ csr = 0x7C8) : s.cdaWrite l csr old w % 2 ^ 32 = w % 2 ^ 32 := by
  have hnew := masked_mod old w 32
  rcases h with rfl | rfl | rfl <;> exact hnew

/-- The other CSRs keep their value. -/
theorem cdaWrite_readOnly {csr : Nat} (h : csr = 0x7C1 ∨ csr = 0x7C2 ∨ csr = 0x7C3 ∨ csr = 0x7C7 ∨ csr = 0x7C9) :
    s.cdaWrite l csr old w = old := by
  have hnew := masked_zero old w
  rcases h with rfl | rfl | rfl | rfl | rfl <;> exact hnew

end

/-! ### The CSR instructions -/

/-- Core `k` once a CSR instruction has written `new` over the value `old` of a CSR, or nothing. -/
def State.csrWritten (s : State) (l : LaneId) (csr old : Nat) (k : CoreState) (new : Option Nat) : CoreState :=
  match new with
  | none => k
  | some w => coreCsrSet l k csr (BitVec.ofNat 64 (s.cdaWrite l csr old w))

section
variable {s : State} {l : LaneId} {c csr : Nat} (pc rd : Nat) (op : CsrOp) (v : Word)
  (hs : (s.lane l).supplied = true) (hlo : 0x7C0 ≤ csr)
include hs hlo

theorem exec_cdaCsrWrite_illegal {pr : Priv} (hc : c < 5) (hhi : csr ≤ 0x7CF) (h : c = 4 ∨ pr ≠ .m ∨ 0x7CA ≤ csr) :
    exec (.cdaCsrWrite l c pc pr op csr rd v) s = .next (s.coreTrap l c 2 pc none) := by
  have hill : (decide (c = 4) || pr != .m || decide (0x7CA ≤ csr)) = true := by simpa [or_assoc] using h
  show execCdaCsrWrite l c pc pr op csr rd v s = _
  simp only [execCdaCsrWrite, coreUp_of hs hc, hlo, hhi, hill]
  rfl

/-- In machine mode an application core's instruction puts the old value into `rd` and writes the CSR if it writes at all. -/
theorem exec_cdaCsrWrite_machine (hc : c < 4) (hhi : csr < 0x7CA) : exec (.cdaCsrWrite l c pc .m op csr rd v) s =
    .next (s.coreSet l c (s.csrWritten l csr (coreCsr l (s.core l c) csr).toNat
      (xSet (s.core l c) rd (BitVec.ofNat 64 (coreCsr l (s.core l c) csr).toNat))
      (csrNew op (coreCsr l (s.core l c) csr).toNat v.toNat))) := by
  have hup : s.coreUp l c = true := coreUp_of hs (by omega)
  have hlegal : (decide (c = 4) || Priv.m != .m || decide (0x7CA ≤ csr)) = false := by
    simp
    omega
  have hin : 0x7C0 ≤ csr ∧ csr ≤ 0x7CF := ⟨hlo, by omega⟩
  show execCdaCsrWrite l c pc .m op csr rd v s = _
  simp only [execCdaCsrWrite, hup, hin, hlegal]
  rfl

end

/-! ### Where the coded instructions are illegal -/

section
variable {s : State} {l : LaneId} {c pc : Nat} {plain : Bool} {f : CoreState → CdOut} {i : Instr} (hs : (s.lane l).supplied = true)
  (hc : c = 4 ∨ c < 4 ∧ cf l (s.core l c) CDA_CTL_EN = 0)
include hs hc

theorem exec_illegal (hi : exec i s = .next (s.coded l c pc plain f)) : exec i s = .next (s.coreTrap l c 2 pc none) := by
  rw [hi, coded_illegal hs hc]

theorem exec_illegal_drawn (hi : exec i s = .next (s.coded l c pc plain f).drawn) :
    exec i s = .next (s.coreTrap l c 2 pc none).drawn := by
  rw [hi, coded_illegal hs hc]

end

/-- Settles O16: the CSR instruction by whether it writes, and the coded instructions by the one rule of what is illegal. -/
theorem codedCsrWritesAndIllegal : Obligations.CodedCsrWritesAndIllegal := by
  unfold Obligations.CodedCsrWritesAndIllegal
  constructor
  · intro s l c pc csr rd op v hs hlo hhi k old
    refine ⟨fun pr hc h => exec_cdaCsrWrite_illegal pc rd op v hs hlo hc hhi h, fun hc hcsr => ?_⟩
    have hexec := exec_cdaCsrWrite_machine pc rd op v hs hlo hc hcsr
    have hdest := xReg_xSet k rd (BitVec.ofNat 64 old.toNat)
    have hothers := fun r (hr : r ≠ rd) => xReg_xSet_other k (BitVec.ofNat 64 old.toNat) hr
    have hcsrs := coreCsr_congr (xSet_csr k rd (BitVec.ofNat 64 old.toNat)) l
    refine ⟨_, hexec, ?_⟩
    cases csrNew op old.toNat v.toNat with
    | none => exact ⟨hdest, hothers, xSet_f .., xSet_trap .., fun n _ => hcsrs n, fun _ => hcsrs csr, nofun⟩
    | some w =>
      refine ⟨hdest, hothers, xSet_f .., xSet_trap .., fun n hn => (coreCsr_coreCsrSet_other _ _ _ hn).trans (hcsrs n), nofun, ?_⟩
      rintro _ ⟨⟩
      rw [State.csrWritten, coreCsr_coreCsrSet_same]
      refine ⟨?fault, ?ctl, fun h => ?word, fun h => ?readOnly⟩
      case fault =>
        rintro rfl i hi
        rw [BitVec.toNat_ofNat, bitOf_mod_two_pow _ (by omega), bitOf_cdaWrite_fault _ _ _ _ hi]
      case ctl =>
        rintro rfl
        exact (toNat_ofNat_mod _ (m := 3) (by decide)).trans (cdaWrite_ctl_mod ..)
      case word => rw [toNat_ofNat_mod _ (by decide), cdaWrite_word_mod _ _ _ _ h]
      case readOnly => rw [cdaWrite_readOnly _ _ _ _ h, BitVec.ofNat_toNat, BitVec.setWidth_eq]
  · intro s l c pc f d a b e hs hc
    constructor
    · iterate 31 refine List.forall_mem_cons.2 ⟨exec_illegal hs hc rfl, ?_⟩
      exact List.forall_mem_nil _
    · iterate 3 refine List.forall_mem_cons.2 ⟨exec_illegal_drawn hs hc rfl, ?_⟩
      exact List.forall_mem_nil _

end Sys2Proof.Machine

/-! What a voter decides of one output (06 R175, R176, R195). -/

namespace Sys2Proof.Machine

/-! ### Two lanes of a set -/

/-- A set of lanes counts two exactly when it holds two different lanes. -/
theorem two_le_laneSetCount_laneSet (p : LaneId → Bool) :
    2 ≤ laneSetCount (laneSet p) ↔ ∃ l k : LaneId, l ≠ k ∧ p l = true ∧ p k = true := by
  have hcount : 2 ≤ laneSetCount (laneSet p) ↔
      (p .a && p .b || p .a && p .c || p .b && p .c) = true := by
    unfold laneSet
    cases p .a <;> cases p .b <;> cases p .c <;> decide
  rw [hcount]
  constructor
  · intro h
    simp only [Bool.or_eq_true, Bool.and_eq_true] at h
    rcases h with (h | h) | h
    · exact ⟨.a, .b, by decide, h⟩
    · exact ⟨.a, .c, by decide, h⟩
    · exact ⟨.b, .c, by decide, h⟩
  · rintro ⟨l, k, hne, hl, hk⟩
    cases l <;> cases k <;> simp_all

@[simp] theorem laneOf_idx (l : LaneId) : laneOf l.idx = l := by cases l <;> rfl

theorem idx_lt_three (l : LaneId) : l.idx < 3 := by cases l <;> decide

/-! ### What a lane's image asks for -/

namespace Voter

variable {v : Voter} {i : Nat}

theorem votes_iff {l : LaneId} : v.votes l = true ↔ (v.ln l).recv = .valid ∧ (v.ln l).img.withheld = false := by
  simp [votes, valid]

theorem asksSafe_iff {l : LaneId} : v.asksSafe i l = true ↔ (v.ln l).recv = .valid ∧ (v.ln l).img.withheld = false ∧
    ((v.ln l).img.mode = 3 ∨ (v.ln l).img.mode = 4) ∧ bitOf (v.ln l).img.out i = true := by
  simp [asksSafe, votes_iff, and_assoc]

theorem asksSplit_iff {l : LaneId} : v.asksSplit i l = true ↔ (v.ln l).recv = .valid ∧ (v.ln l).img.withheld = false ∧
    (v.ln l).img.mode = 5 ∧ bitOf (v.ln l).img.out i = true ∧ inSet v.disregarded l = false := by
  simp [asksSplit, votes_iff, and_assoc]

/-! ### The decision on one output, by its class -/

theorem decideBit_halted (h : v.halt = true) : v.decideBit i = false := by simp [decideBit, h]

theorem decideBit_voted (h : v.halt = false) (hs : v.split = false) (hc : v.clsOf i = 1 ∨ v.clsOf i = 2) :
    v.decideBit i = true ↔
      ∃ l k : LaneId, l ≠ k ∧ (inSet v.members l && v.asksSafe i l) = true ∧ (inSet v.members k && v.asksSafe i k) = true := by
  rw [← two_le_laneSetCount_laneSet]
  simp [decideBit, h, hs, hc]

theorem decideBit_owned (h : v.halt = false) (hs : v.split = false) {l : LaneId} (hc : v.clsOf i = 3 + l.idx) :
    v.decideBit i = (inSet v.members l && v.asksSafe i l) := by
  have hl := idx_lt_three l
  rw [decideBit, if_neg (by simp [h])]
  dsimp only
  rw [if_neg (by simp [hs]), if_neg (by omega), if_pos (by omega), hc, Nat.add_sub_cancel_left, laneOf_idx]

theorem decideBit_unused (h : v.halt = false) (hs : v.split = false) (hc : v.clsOf i = 0) : v.decideBit i = false := by
  simp [decideBit, h, hs, hc]

theorem decideBit_split_shared (h : v.halt = false) (hs : v.split = true) {l : LaneId} (hc : v.clsOf i = 2) (ho : v.ownOf i = l.idx) :
    v.decideBit i = v.asksSplit i l := by
  simp [decideBit, h, hs, hc, ho, idx_lt_three]

theorem decideBit_split_owned (h : v.halt = false) (hs : v.split = true) {l : LaneId} (hc : v.clsOf i = 3 + l.idx) :
    v.decideBit i = v.asksSplit i l := by
  have hl := idx_lt_three l
  rw [decideBit, if_neg (by simp [h])]
  dsimp only
  rw [if_pos hs, if_neg (by omega), if_pos (by omega), hc, Nat.add_sub_cancel_left, laneOf_idx]

theorem decideBit_split_off (h : v.halt = false) (hs : v.split = true) (hc : v.clsOf i = 0 ∨ v.clsOf i = 1) : v.decideBit i = false := by
  rcases hc with hc | hc <;> simp [decideBit, h, hs, hc]

end Voter

/-- Settles O17: the verdict bit by bit, then the decision by the voter's state and the class of the output. -/
theorem voterDecidesFromTwoMembers : Obligations.VoterDecidesFromTwoMembers := by
  unfold Obligations.VoterDecidesFromTwoMembers
  intro v i hi asks asksAlone
  have hsafe (l : LaneId) : (inSet v.members l && v.asksSafe i l) = true ↔ inSet v.members l = true ∧ asks l := by
    rw [Bool.and_eq_true, Voter.asksSafe_iff]
  rw [Voter.bitOf_verdict v hi]
  refine ⟨Voter.decideBit_halted, fun h hs => ⟨fun hc => ?_, fun l hc => ?_, Voter.decideBit_unused h hs⟩,
    fun h hs => ⟨Voter.decideBit_split_off h hs, fun l hc ho => ?_, fun l hc => ?_⟩⟩
  · simp only [Voter.decideBit_voted h hs hc, hsafe]
    exact exists₂_congr fun l k => by tauto
  · rw [Voter.decideBit_owned h hs hc, hsafe]
  · rw [Voter.decideBit_split_shared h hs hc ho, Voter.asksSplit_iff]
  · rw [Voter.decideBit_split_owned h hs hc, Voter.asksSplit_iff]

end Sys2Proof.Machine

/-! What a voter receives of the lanes (06 R173, R174). -/

namespace Sys2Proof.Machine

-- One theorem after the other, as the model's tests: elaborated side by side they would exceed the check's memory limit.
set_option Elab.async false

/-! ### A voter's records of the lanes -/

namespace Voter

@[simp] theorem lnSet_ln_same (v : Voter) (l : LaneId) (x : VoterLane) : (v.lnSet l x).ln l = x := by cases l <;> rfl

theorem lnSet_ln_other (v : Voter) {l k : LaneId} (x : VoterLane) (h : k ≠ l) : (v.lnSet l x).ln k = v.ln k := by
  cases l <;> cases k <;> simp_all [lnSet, ln]

@[simp] theorem lnSet_out (v : Voter) (l : LaneId) (x : VoterLane) : (v.lnSet l x).out = v.out := by cases l <;> rfl

@[simp] theorem lnSet_members (v : Voter) (l : LaneId) (x : VoterLane) : (v.lnSet l x).members = v.members := by cases l <;> rfl

end Voter

/-! ### The voters of the block -/

@[simp] theorem voter_voterSet (s : State) (i : VoterId) (v : Voter) : (s.voterSet i v).voter i = v := by cases i <;> rfl

@[simp] theorem voter_lcount (s : State) (i : VoterId) (l : LaneId) (f : Fld) (d : Nat) : (s.lcount l f d).voter i = s.voter i := by
  cases i <;> simp [State.voter]

@[simp] theorem voter_hcount (s : State) (i : VoterId) (f : Fld) (d : Nat) : (s.hcount f d).voter i = s.voter i := by
  cases i <;> simp [State.voter]

@[simp] theorem voter_voterEvt (s : State) (i k : VoterId) (code : Nat) (parts : List (Nat × Nat)) :
    (s.voterEvt k code parts).voter i = s.voter i := by
  cases i <;> cases k <;> simp [State.voter, State.voterEvt]

/-- Voter 1 counts an invalid image in its register. -/
def State.countInvalid (s : State) (i : VoterId) : State := match i with | .v1 => s.hcount VOT_V1_CNT_INVALID 1 | .v2 => s

@[simp] theorem voter_countInvalid (s : State) (i k : VoterId) : (s.countInvalid k).voter i = s.voter i := by
  cases k <;> simp [State.countInvalid]

theorem hf_voterEvt_countInvalid_v1 (s : State) (v : Voter) (code : Nat) (parts : List (Nat × Nat)) :
    (((s.voterSet .v1 v).countInvalid .v1).voterEvt .v1 code parts).hf VOT_V1_CNT_INVALID =
      satAdd 0xFFFF (s.hf VOT_V1_CNT_INVALID) 1 :=
  (State.hf_hubEvt ..).trans (State.hf_hcount_same _ _ _ rfl)

/-! ### The checks of an image (R174) -/

/-- An image passes every check of R174 that concerns its content. -/
theorem imageCheck_eq_zero (v : Voter) (l : LaneId) (b : List Byte) : imageCheck v l b = 0 ↔
    b.length = 32 ∧ crc32c (b.take 28) = leAt b 28 4 ∧ (parseImage b).frame = v.frame ∧ (parseImage b).lane = l.idx ∧
      (parseImage b).mapid = v.mapid ∧ imageReserved b = true := by
  unfold imageCheck
  dsimp only
  split_ifs <;> grind

/-! ### An image arrives (R173, R174) -/

section
variable {s : State} {i : VoterId} {l : LaneId} {b : List Byte} (hup : s.voterUp i = true)
include hup

theorem voterReceive_late (hcut : (s.voter i).cut = true) : s.voterReceive i l b = s := by
  simp [State.voterReceive, hup, hcut]

variable (hcut : (s.voter i).cut = false)
include hcut

theorem voterReceive_again (hrecv : ((s.voter i).ln l).recv = .valid) : s.voterReceive i l b = s.lcount l VOT_CNT_DUP 1 := by
  simp [State.voterReceive, hup, hcut, hrecv]

variable (hrecv : ((s.voter i).ln l).recv ≠ .valid)
include hrecv

theorem voterReceive_valid (hok : imageCheck (s.voter i) l b = 0) : s.voterReceive i l b =
    s.voterSet i ((s.voter i).lnSet l { (s.voter i).ln l with recv := .valid, img := parseImage b }) := by
  simp [State.voterReceive, hup, hcut, hrecv, hok]

theorem voterReceive_invalid (hbad : imageCheck (s.voter i) l b ≠ 0) : s.voterReceive i l b =
    ((s.voterSet i ((s.voter i).lnSet l { (s.voter i).ln l with recv := .invalid })).countInvalid i).voterEvt i 0x2004
      [(1, voterNum i), (1, l.idx), (1, imageCheck (s.voter i) l b)] := by
  cases i <;> simp [State.voterReceive, State.countInvalid, hup, hcut, hrecv, hbad]

end

/-! ### The cut-off (R174) -/

/-- A voter at its cut-off: it takes no more images, and those that are missing are late. -/
def Voter.cutOff (v : Voter) : Voter :=
  let late := fun (x : VoterLane) => if x.recv = .missing then { x with recv := .late } else x
  { v with cut := true, la := late v.la, lb := late v.lb, lc := late v.lc }

theorem Voter.cutOff_recv (v : Voter) (l : LaneId) :
    (v.cutOff.ln l).recv = if (v.ln l).recv = .missing then .late else (v.ln l).recv := by
  cases l <;> exact apply_ite VoterLane.recv ..

theorem exec_voterImageCutoff {s : State} {i : VoterId} (hup : s.voterUp i = true) :
    exec (.voterImageCutoff i) s = .next (s.voterSet i (s.voter i).cutOff) := by
  show execVoterImageCutoff i s = _
  rw [execVoterImageCutoff, if_neg (by simp [hup])]
  rfl

/-- Settles O19: a reception by whether it comes in time, finds a valid image, and passes its checks; then the cut-off. -/
theorem voterKeepsFirstValidImage : Obligations.VoterKeepsFirstValidImage := by
  unfold Obligations.VoterKeepsFirstValidImage
  intro s i l b hup v good
  have hexec : exec (.voterImageReceive i l b) s = .next (s.voterReceive i l b) := rfl
  refine ⟨fun hcut hrecv hgood => ?_, fun hcut hrecv => ?_, fun hcut hrecv hbad => ?_, fun hcut => ?_, ?_⟩
  · have hok : imageCheck v l b = 0 := (imageCheck_eq_zero v l b).2 hgood
    refine ⟨_, hexec.trans (by rw [voterReceive_valid hup hcut hrecv hok]), ?_⟩
    rw [voter_voterSet]
    exact ⟨v.lnSet_ln_same .., fun k => v.lnSet_ln_other _, v.lnSet_out .., v.lnSet_members ..⟩
  · exact ⟨_, hexec.trans (by rw [voterReceive_again hup hcut hrecv]), voter_lcount .., State.lf_lcount_same _ _ _ _ rfl⟩
  · have hbad : imageCheck v l b ≠ 0 := fun h => hbad ((imageCheck_eq_zero v l b).1 h)
    refine ⟨_, hexec.trans (by rw [voterReceive_invalid hup hcut hrecv hbad]), ?_⟩
    rw [voter_voterEvt, voter_countInvalid, voter_voterSet]
    refine ⟨by rw [v.lnSet_ln_same], fun k => v.lnSet_ln_other _, ?_⟩
    rintro rfl
    exact hf_voterEvt_countInvalid_v1 s _ _ _
  · rw [hexec, voterReceive_late hup hcut]
  · refine ⟨_, exec_voterImageCutoff hup, ?_⟩
    rw [voter_voterSet]
    exact ⟨rfl, v.cutOff_recv, rfl, rfl⟩

end Sys2Proof.Machine

/-! The vote port of a lane: the images it sends and hands over, and the configuration it gives voter 2 (06 R173, R196, R197). -/

namespace Sys2Proof.Machine

-- One theorem after the other, as the model's tests: elaborated side by side they would exceed the check's memory limit.
set_option Elab.async false

/-! ### The image words (R173, R197) -/

/-- Eight image words of which the last has just been written. -/
theorem imageWords_lfSet_last {g : Nat → Fld} (hok : (g 7).ok = true) (hwidth : (g 7).hi + 1 - (g 7).lo = 32)
    (hapart : ∀ i < 7, (g 7).apart (g i) = true) (s : State) (l : LaneId) (x : Nat) :
    (List.range 8).flatMap (fun i => leBytes 4 ((s.lfSet l (g 7) x).lf l (g i))) =
      (List.range 8).flatMap (fun i => leBytes 4 (if i = 7 then x % 2 ^ 32 else s.lf l (g i))) := by
  refine List.flatMap_congr fun i hi => ?_
  by_cases h : i = 7
  · rw [h, State.lf_lfSet_same _ _ _ _ hok, hwidth, if_pos rfl]
  · have hlt : i < 7 := by
      have := List.mem_range.1 hi
      omega
    rw [State.lf_lfSet_apart _ _ _ _ _ _ (hapart i hlt), if_neg h]

theorem exec_votImgSend {s : State} {l : LaneId} (w : Word) (hs : (s.lane l).supplied = true) :
    exec (.votImgSend l 4 w) s = .next ((s.lfSet l (VOT_IMG 7) w.toNat).emit .voter2Image l.idx 0
      ((List.range 8).flatMap (fun i => leBytes 4 (if i = 7 then w.toNat % 2 ^ 32 else s.lf l (VOT_IMG i))))) := by
  rw [← imageWords_lfSet_last (g := VOT_IMG) rfl rfl (by decide)]
  show execVotImgSend l 4 w s = _
  exact if_neg (by simp [hs])

theorem exec_votImgSend_application (s : State) (l : LaneId) {c : Nat} (w : Word) (hc : c ≠ 4) :
    exec (.votImgSend l c w) s = .next s := by
  show execVotImgSend l c w s = _
  exact if_pos (by simp [hc])

theorem exec_votV1ImgLatch {s : State} {l : LaneId} (w : Word) (hs : (s.lane l).supplied = true) (hhub : s.hub.supplied = true) :
    exec (.votV1ImgLatch l w) s = .next ((s.lfSet l (VOT_V1_IMG 7) w.toNat).voterReceive .v1 l
      ((List.range 8).flatMap (fun i => leBytes 4 (if i = 7 then w.toNat % 2 ^ 32 else s.lf l (VOT_V1_IMG i))))) := by
  rw [← imageWords_lfSet_last (g := VOT_V1_IMG) rfl rfl (by decide)]
  show execVotV1ImgLatch l w s = _
  exact if_neg (by simp [hs, hhub])

/-! ### The configuration that a lane sends (R196) -/

theorem exec_votCtlSend_application (s : State) (l : LaneId) {c : Nat} (hc : c ≠ 4) : exec (.votCtlSend l c) s = .next s := by
  show execVotCtlSend l c s = _
  exact if_pos (by simp [hc])

/-- VOT_CTL as it is sent: without SEND, and with a limit of 0 replaced by its default. -/
def ctlSent (ctl : Nat) : Nat :=
  setBits (setBits (setBit ctl 0 false) 23 20 (if bitsOf ctl 23 20 = 0 then 2 else bitsOf ctl 23 20)) 19 16
    (if bitsOf ctl 19 16 = 0 then 3 else bitsOf ctl 19 16)

/-- The limits lie above SPLIT and SEND lies below it. -/
theorem bitOf_ctlSent_split (ctl : Nat) : bitOf (ctlSent ctl) 1 = bitOf ctl 1 := by
  rw [bitOf_eq_bitsOf, ctlSent, bitsOf_setBits_below _ _ _ _ _ _ (by decide) le_rfl,
    bitsOf_setBits_below _ _ _ _ _ _ (by decide) le_rfl, ← bitOf_eq_bitsOf, bitOf_setBit, if_neg (by decide)]

/-- The four words that lane `l` sends. -/
def State.configWords (s : State) (l : LaneId) : List Nat :=
  [s.lf l VOT_CLS0, s.lf l VOT_CLS1, s.lf l VOT_SPOWN, ctlSent (s.lf l VOT_CTL)]

/-- Voter 2 holds the words of lane `l`. -/
def State.configHeld (s : State) (l : LaneId) : State :=
  s.voterSet .v2 { s.sup.v2 with cfg := mapInsert (mapErase s.sup.v2.cfg l.idx) l.idx (s.configWords l) }

theorem exec_votCtlSend {s : State} {l : LaneId} (hs : (s.lane l).supplied = true) (hsup : s.sup.supplied = true) :
    exec (.votCtlSend l 4) s = .next ((s.configHeld l).voter2Accept s.suppliedSet) := by
  show execVotCtlSend l 4 s = _
  exact if_neg (by simp [hs, hsup])

theorem configHeld_same (s : State) (l : LaneId) : mapFind (s.configHeld l).sup.v2.cfg l.idx = some (s.configWords l) :=
  mapFind_put_same ..

theorem configHeld_other (s : State) {l k : LaneId} (h : k ≠ l) :
    mapFind (s.configHeld l).sup.v2.cfg k.idx = mapFind s.sup.v2.cfg k.idx :=
  mapFind_put_other _ _ (by cases l <;> cases k <;> simp_all [LaneId.idx])

/-! ### Voter 2 accepts what all lanes sent alike (R196) -/

/-- Voter 2 with a configuration taken over. -/
def Voter.configured (v : Voter) (c0 c1 own ctl : Nat) : Voter :=
  { v with
    cfgOk := true, classes := c0 + c1 * 2 ^ 32, owners := own, mapid := mapidOf c0 c1 own
    wdLim := bitsOf ctl 23 20, whLim := bitsOf ctl 19 16, split := bitOf ctl 1 }

/-- What voter 2 holds of the lanes of a set. -/
def State.configsOf (s : State) (part : Nat) : List (Option (List Nat)) :=
  (lanes.filter (fun k => inSet part k)).map (fun k => mapFind s.sup.v2.cfg k.idx)

theorem mem_configsOf {s : State} {part : Nat} {l : LaneId} (h : inSet part l = true) :
    mapFind s.sup.v2.cfg l.idx ∈ s.configsOf part :=
  List.mem_map_of_mem (List.mem_filter.2 ⟨by cases l <;> decide, h⟩)

section
variable {s : State} {part : Nat} {l : LaneId} {c0 c1 own ctl : Nat} (hl : inSet part l = true)
include hl

theorem voter2Accept_alike (hall : ∀ k, inSet part k = true → mapFind s.sup.v2.cfg k.idx = some [c0, c1, own, ctl]) :
    s.voter2Accept part = s.voterSet .v2 (s.sup.v2.configured c0 c1 own ctl) := by
  have hsent : ∀ x ∈ s.configsOf part, x = some [c0, c1, own, ctl] := by
    simp only [State.configsOf, List.forall_mem_map, List.mem_filter, and_imp]
    exact fun k _ => hall k
  have hmem := mem_configsOf (s := s) hl
  rw [State.voter2Accept, ← State.configsOf]
  cases hlist : s.configsOf part with
  | nil => simp [hlist] at hmem
  | cons x rest =>
    rw [hlist] at hsent
    obtain ⟨rfl, hrest⟩ := List.forall_mem_cons.1 hsent
    exact if_pos (List.all_eq_true.2 fun y hy => beq_iff_eq.2 (hrest y hy))

theorem voter2Accept_unlike {k : LaneId} (hk : inSet part k = true) (hne : mapFind s.sup.v2.cfg k.idx ≠ mapFind s.sup.v2.cfg l.idx) :
    s.voter2Accept part = s.voterSet .v2 { s.sup.v2 with cfgOk := false } := by
  have hkmem := mem_configsOf (s := s) hk
  have hlmem := mem_configsOf (s := s) hl
  rw [State.voter2Accept, ← State.configsOf]
  split
  case h_1 c0 c1 own ctl rest hlist =>
    refine if_neg fun hall => hne ?_
    have heq : ∀ x ∈ s.configsOf part, x = some [c0, c1, own, ctl] := by
      rw [hlist]
      exact List.forall_mem_cons.2 ⟨rfl, fun x hx => beq_iff_eq.1 (List.all_eq_true.1 hall x hx)⟩
    rw [heq _ hkmem, heq _ hlmem]
  case h_2 => rfl

end

theorem inSet_suppliedSet (s : State) (l : LaneId) : inSet s.suppliedSet l = (s.lane l).supplied := inSet_laneSet _ l

/-- Settles O18: the image port by core, the hand-over to voter 1 as a reception, and the configuration by whether another supplied lane
differs. -/
theorem votePortSendsAndConfigures : Obligations.VotePortSendsAndConfigures := by
  unfold Obligations.VotePortSendsAndConfigures
  intro s l w hs
  have hin : inSet s.suppliedSet l = true := (inSet_suppliedSet s l).trans hs
  refine ⟨⟨_, exec_votImgSend w hs, by rw [State.emit_tx, State.lfSet_tx], by simp, by simp⟩,
    fun c hc => ⟨exec_votImgSend_application s l w hc, exec_votCtlSend_application s l hc⟩, fun hhub hcut hrecv => ?_, fun hsup => ?_⟩
  · intro b hok
    have hv1 : (s.lfSet l (VOT_V1_IMG 7) w.toNat).voter .v1 = s.v1 := State.lfSet_v1 ..
    have hup : (s.lfSet l (VOT_V1_IMG 7) w.toNat).voterUp .v1 = true := by simpa [State.voterUp] using hhub
    refine ⟨_, (exec_votV1ImgLatch w hs hhub).trans
      (by rw [voterReceive_valid hup (by rwa [hv1]) (by rwa [hv1]) (by rwa [hv1])]), ?_⟩
    rw [hv1]
    refine ⟨?_, ?_, fun k hk => s.v1.lnSet_ln_other _ hk, State.lfSet_sup ..⟩
    · exact congrArg VoterLane.recv (s.v1.lnSet_ln_same l _)
    · exact congrArg VoterLane.img (s.v1.lnSet_ln_same l _)
  · intro ctl sent
    refine ⟨fun hall => ?_, fun k hk hsk hne => ?_⟩
    · have halike : ∀ k, inSet s.suppliedSet k = true → mapFind (s.configHeld l).sup.v2.cfg k.idx = some sent := by
        intro k hk
        by_cases h : k = l
        · rw [h]
          exact configHeld_same s l
        · rw [configHeld_other s h]
          exact hall k h ((inSet_suppliedSet s k).symm.trans hk)
      exact ⟨_, (exec_votCtlSend hs hsup).trans (congrArg Host.Outcome.next (voter2Accept_alike hin halike)), rfl, rfl, rfl, rfl,
        bitOf_ctlSent_split _, rfl⟩
    · have hunlike : mapFind (s.configHeld l).sup.v2.cfg k.idx ≠ mapFind (s.configHeld l).sup.v2.cfg l.idx := by
        rw [configHeld_other s hk, configHeld_same]
        exact hne
      exact ⟨_, (exec_votCtlSend hs hsup).trans
        (congrArg Host.Outcome.next (voter2Accept_unlike hin ((inSet_suppliedSet s k).trans hsk) hunlike)), rfl, rfl, rfl⟩

end Sys2Proof.Machine

/-! A lane leaves the vote at a limit: it is removed and restarts alone, the module halts, or in SPLIT the lane is disregarded
(06 R176, R178 to R180, R184, R195). -/

namespace Sys2Proof.Machine

-- One theorem after the other, as the model's tests: elaborated side by side they would exceed the check's memory limit.
set_option Elab.async false

/-! ### What leaves both voters as they are -/

/-- Both voters are in `t` as in `s`. -/
structure VotersKept (s t : State) : Prop where
  v1 : t.v1 = s.v1
  v2 : t.sup.v2 = s.sup.v2

theorem EventOnly.votersKept {s t : State} (h : EventOnly s t) : VotersKept s t := ⟨h.v1, by rw [h.sup]⟩

theorem LanesOnly.votersKept {s t : State} (h : LanesOnly s t) : VotersKept s t := ⟨by rw [h], by rw [h]⟩

theorem LaneOnly.votersKept {l : LaneId} {s t : State} (h : LaneOnly l s t) : VotersKept s t := h.lanesOnly.votersKept

theorem votersKept_ka (s : State) (k : KeepAlive) : VotersKept s { s with sup := { s.sup with ka := k } } := ⟨rfl, rfl⟩

namespace VotersKept

variable {s t u : State} {l : LaneId}

theorem refl (s : State) : VotersKept s s := ⟨rfl, rfl⟩

theorem trans (h : VotersKept s t) (g : VotersKept t u) : VotersKept s u := ⟨g.v1.trans h.v1, g.v2.trans h.v2⟩

theorem ite {c : Prop} [Decidable c] (h : VotersKept s t) (g : VotersKept s u) : VotersKept s (if c then t else u) := by
  split
  · exact h
  · exact g

theorem foldl {α : Type} {f : State → α → State} {xs : List α} (hf : ∀ t x, VotersKept s t → VotersKept s (f t x))
    (h : VotersKept s t) : VotersKept s (xs.foldl f t) := by
  induction xs generalizing t with
  | nil => exact h
  | cons x xs ih => exact ih (hf t x h)

theorem hregSet {a : Nat} {v : Word} (h : VotersKept s t) : VotersKept s (t.hregSet a v) := h.trans ⟨by simp, by simp⟩

theorem hfSet {f : Fld} {x : Nat} (h : VotersKept s t) : VotersKept s (t.hfSet f x) := h.hregSet

theorem lfSet {f : Fld} {x : Nat} (h : VotersKept s t) : VotersKept s (t.lfSet l f x) := h.trans (LaneOnly.lfSet l t f x).votersKept

theorem updLane {f : Lane → Lane} (h : VotersKept s t) : VotersKept s (t.updLane l f) := h.trans (LaneOnly.upd l t f).votersKept

theorem setLane {x : Lane} (h : VotersKept s t) : VotersKept s (t.setLane l x) := h.trans ⟨by simp, by simp⟩

theorem chanUpd {c : Nat} {f : Chan → Chan} (h : VotersKept s t) : VotersKept s (t.chanUpd c f) := h.trans ⟨rfl, rfl⟩

theorem noteFrame (h : VotersKept s t) : VotersKept s (t.noteFrame l) := by
  unfold State.noteFrame
  exact .ite (h.trans (votersKept_ka t _)) h

theorem pdeLaneOff (h : VotersKept s t) : VotersKept s (t.pdeLaneOff l) := by
  unfold State.pdeLaneOff
  refine .ite h (.foldl (fun _ _ h => ?_) (.foldl (fun _ _ h => ?_) h))
  · exact .ite h.hregSet.hfSet.hfSet.hfSet h
  · exact .ite (hfSet h.chanUpd) h

theorem lanePowerOff (h : VotersKept s t) : VotersKept s (t.lanePowerOff l) :=
  setLane (pdeLaneOff (lfSet (lfSet h.noteFrame)))

theorem powerLane (h : VotersKept s t) : VotersKept s (t.powerLane l) := h.updLane.lfSet

end VotersKept

/-! ### A lane restarts alone (R184) -/

theorem VotersKept.showLone {s t : State} {l : LaneId} (h : VotersKept s t) : VotersKept s (t.showLone l) :=
  (h.trans (loadMode_laneOnly t l).votersKept).lfSet.lfSet.lfSet.lfSet.lfSet.lfSet.lfSet

theorem showLone_lane (s : State) (l : LaneId) : ((s.showLone l).lane l).supplied = (s.lane l).supplied ∧
    ((s.showLone l).lane l).restart = (s.lane l).restart := by
  simp [State.showLone, State.loadMode, State.loadFlags, State.showReport]

/-- Lane `l` has its supply again, and start step `k` is to be run alone. -/
def State.laneRepowered (s : State) (l : LaneId) (k : Nat) : State :=
  ((s.lanePowerOff l).powerLane l).updLane l (fun x => { x with restart := some (k, true) })

theorem laneRestart_eq (s : State) (l : LaneId) (k : Nat) :
    s.laneRestart l k = if k = 2 then (s.laneRepowered l k).showLone l else s.laneRepowered l k := rfl

theorem laneRestart_votersKept (s : State) (l : LaneId) (k : Nat) : VotersKept s (s.laneRestart l k) := by
  have h : VotersKept s (s.laneRepowered l k) := (VotersKept.refl s).lanePowerOff.powerLane.updLane
  rw [laneRestart_eq]
  exact .ite h.showLone h

theorem laneRestart_lane (s : State) (l : LaneId) (k : Nat) : ((s.laneRestart l k).lane l).supplied = true ∧
    ((s.laneRestart l k).lane l).restart = some (k, true) := by
  obtain ⟨hsup, hrestart⟩ := showLone_lane (s.laneRepowered l k) l
  rw [laneRestart_eq]
  split
  · rw [hsup, hrestart]
    simp [State.laneRepowered, State.powerLane]
  · simp [State.laneRepowered, State.powerLane]

/-! ### A change of mode is due (03 R85) -/

/-- A mode change that is put at an edge, or gives way there, changes the modes and records events. -/
theorem setDue_eventOnly (s : State) (target : Mode) (frame cause : Nat) :
    ∃ m, EventOnly { s with md := m } (s.setDue target frame cause) := by
  unfold State.setDue
  dsimp only
  split
  · exact ⟨_, EventOnly.refl _⟩
  · split
    · exact ⟨_, supEvt_eventOnly ..⟩
    · exact ⟨s.md, supEvt_eventOnly ..⟩

theorem setDue_votersKept (s : State) (target : Mode) (frame cause : Nat) : VotersKept s (s.setDue target frame cause) := by
  obtain ⟨m, h⟩ := setDue_eventOnly s target frame cause
  exact ⟨h.v1, h.votersKept.v2⟩

theorem setDue_lane (s : State) (target : Mode) (frame cause : Nat) (l : LaneId) :
    ((s.setDue target frame cause).lane l).supplied = (s.lane l).supplied ∧
      ((s.setDue target frame cause).lane l).restart = (s.lane l).restart := by
  obtain ⟨m, h⟩ := setDue_eventOnly s target frame cause
  rw [h.lane l]
  cases l <;> exact ⟨rfl, rfl⟩

/-! ### A member is removed (R178 to R180) -/

/-- Voter 2's member set without lane `l`. -/
def Voter.without (v : Voter) (l : LaneId) : Voter := { v with members := nAndNot v.members (2 ^ l.idx) }

/-- A voter in its halt state, with every output off (R176). -/
def Voter.halted (v : Voter) : Voter := { v with halt := true, out := 0 }

theorem removeMembers_one (s : State) (l : LaneId) (c n : Nat) : (s.removeMembers [(l, c)] n).v1 = s.v1 ∧
    (s.removeMembers [(l, c)] n).sup.v2 = s.sup.v2.without l := by
  simp [State.removeMembers, Voter.without]

theorem voter2Halt_voters (s : State) (cause n : Nat) : (s.voter2Halt cause n).v1 = s.v1 ∧
    (s.voter2Halt cause n).sup.v2 = s.sup.v2.halted := by
  unfold State.voter2Halt
  have h := setDue_votersKept ((s.voterSet .v2 s.sup.v2.halted).supEvt 0x2003
    [(1, if cause = 4 then 0 else cause), (1, s.sup.v2.members)]) .halt (frameAdd n 2) 12
  exact ⟨h.v1.trans (State.supEvt_v1 ..), h.v2.trans (State.supEvt_sup_v2 ..)⟩

/-- Lane `l` leaves voter 2's member set for case `c` of R178: the lane restarts alone, or voter 2 halts where fewer than two remain. -/
def State.leaves (s : State) (l : LaneId) (c : Nat) : State :=
  let t := s.removeMembers [(l, c)] s.sup.v2.frame
  if laneSetCount t.sup.v2.members < 2 then t.voter2Halt 3 s.sup.v2.frame
  else (t.laneRestart l 2).setDue .safe2 (frameAdd s.sup.v2.frame 2) 10

section
variable {s : State} {l : LaneId} (c : Nat)

/-- Where two members remain, the vote goes on with them, and the lane restarts alone. -/
theorem leaves_restarts (hhalt : s.sup.v2.halt = false) (h : 2 ≤ laneSetCount (nAndNot s.sup.v2.members (2 ^ l.idx))) :
    (s.leaves l c).sup.v2.members = nAndNot s.sup.v2.members (2 ^ l.idx) ∧ (s.leaves l c).sup.v2.halt = false ∧
      ((s.leaves l c).lane l).supplied = true ∧ ((s.leaves l c).lane l).restart = some (2, true) ∧ (s.leaves l c).v1 = s.v1 := by
  obtain ⟨hv1, hv2⟩ := removeMembers_one s l c s.sup.v2.frame
  have hkeep : s.leaves l c =
      ((s.removeMembers [(l, c)] s.sup.v2.frame).laneRestart l 2).setDue .safe2 (frameAdd s.sup.v2.frame 2) 10 :=
    if_neg (by rw [hv2]; exact Nat.not_lt.2 h)
  rw [hkeep]
  generalize s.removeMembers [(l, c)] s.sup.v2.frame = t at hv1 hv2
  have hkept := (laneRestart_votersKept t l 2).trans (setDue_votersKept _ .safe2 (frameAdd s.sup.v2.frame 2) 10)
  obtain ⟨hsup, hrestart⟩ := laneRestart_lane t l 2
  obtain ⟨hdsup, hdrestart⟩ := setDue_lane (t.laneRestart l 2) .safe2 (frameAdd s.sup.v2.frame 2) 10 l
  rw [hkept.v1, hkept.v2, hdsup, hdrestart, hv2]
  exact ⟨rfl, hhalt, hsup, hrestart, hv1⟩

/-- Where fewer remain, voter 2 halts. -/
theorem leaves_halts (h : laneSetCount (nAndNot s.sup.v2.members (2 ^ l.idx)) < 2) :
    (s.leaves l c).sup.v2.halt = true ∧ (s.leaves l c).sup.v2.out = 0 ∧
      (s.leaves l c).sup.v2.members = nAndNot s.sup.v2.members (2 ^ l.idx) ∧ (s.leaves l c).v1 = s.v1 := by
  obtain ⟨hv1, hv2⟩ := removeMembers_one s l c s.sup.v2.frame
  have hkeep : s.leaves l c = (s.removeMembers [(l, c)] s.sup.v2.frame).voter2Halt 3 s.sup.v2.frame :=
    if_pos (by rw [hv2]; exact h)
  obtain ⟨hh1, hh2⟩ := voter2Halt_voters (s.removeMembers [(l, c)] s.sup.v2.frame) 3 s.sup.v2.frame
  rw [hkeep, hh1, hh2, hv2]
  exact ⟨rfl, rfl, rfl, hv1⟩

end

/-! ### The limits of a member (R178) -/

section
variable {s : State} {l : LaneId} (hsup : s.sup.supplied = true) (hhalt : s.sup.v2.halt = false) (hmem : inSet s.sup.v2.members l = true)
include hsup hhalt hmem

theorem exec_laneWatchdogExpire (hsplit : s.sup.v2.split = false) (hmiss : s.sup.v2.wd ≤ (s.sup.v2.ln l).miss)
    (hmode : runMode s.md.mode = true) : exec (.laneWatchdogExpire l) s = .next (s.leaves l 1) := by
  show execLaneWatchdogExpire l s = _
  rw [execLaneWatchdogExpire]
  dsimp only
  rw [if_neg (by simp [hsup, hhalt, hmem, hmiss, hmode]), if_neg (by simp [hsplit]), State.leaves, apply_ite Host.Outcome.next]

theorem exec_laneWatchdogExpire_split (hsplit : s.sup.v2.split = true) (hmiss : s.sup.v2.wd ≤ (s.sup.v2.ln l).miss)
    (hmode : runMode s.md.mode = true) : exec (.laneWatchdogExpire l) s = .next (s.disregard .v2 l 1) := by
  show execLaneWatchdogExpire l s = _
  rw [execLaneWatchdogExpire]
  dsimp only
  rw [if_neg (by simp [hsup, hhalt, hmem, hmiss, hmode]), if_pos hsplit]

theorem exec_withholdLimitRemove (hsplit : s.sup.v2.split = false) (hrun : s.sup.v2.wh ≤ (s.sup.v2.ln l).whRun)
    (hmode : safeMode s.md.mode = true) : exec (.withholdLimitRemove l) s = .next (s.leaves l 5) := by
  show execWithholdLimitRemove l s = _
  rw [execWithholdLimitRemove]
  dsimp only
  rw [if_neg (by simp [hsup, hhalt, hmem, hsplit, hrun, hmode]), State.leaves, apply_ite Host.Outcome.next]

end

theorem exec_voter1Disregard {s : State} {l : LaneId} (hhub : s.hub.supplied = true) (hsplit : s.v1.split = true)
    (hmiss : s.v1.wd ≤ (s.v1.ln l).miss) : exec (.voter1Disregard l) s = .next (s.disregard .v1 l 1) := by
  show execVoter1Disregard l s = _
  exact if_neg (by simp [hhub, hsplit, hmiss])

/-! ### A lane is disregarded in SPLIT (R195) -/

/-- A voter that disregards lane `l`. -/
def Voter.disregarding (v : Voter) (l : LaneId) : Voter := { v with disregarded := nOr v.disregarded (2 ^ l.idx) }

theorem inSet_disregarding (v : Voter) (l : LaneId) : inSet (v.disregarding l).disregarded l = true := by
  simp [Voter.disregarding, inSet_add]

theorem disregard_v1 {s : State} {l : LaneId} (cause : Nat) (hpart : inSet s.v1.members l = true ∨ s.v1.members = 0)
    (hnew : inSet s.v1.disregarded l = false) :
    s.disregard .v1 l cause = (s.voterSet .v1 (s.v1.disregarding l)).hubEvt 0x2040 [(1, l.idx), (1, cause)] := by
  have hact : ¬ (inSet s.v1.disregarded l || !(inSet s.v1.members l || decide (s.v1.members = 0))) = true := by
    simpa [hnew, or_iff_not_imp_left] using hpart
  unfold State.disregard
  exact if_neg hact

/-- Voter 2 disregards lane `l`, which is recorded, and has its supply removed. -/
def State.shutOut (s : State) (l : LaneId) (cause : Nat) : State :=
  ((s.voterSet .v2 (s.sup.v2.disregarding l)).supEvt 0x2040 [(1, l.idx), (1, cause)]).lanePowerOff l

theorem shutOut_v2 (s : State) (l : LaneId) (cause : Nat) : (s.shutOut l cause).sup.v2 = s.sup.v2.disregarding l :=
  (supEvt_eventOnly (s.voterSet .v2 (s.sup.v2.disregarding l)) _ _).votersKept.lanePowerOff.v2

theorem shutOut_supplied (s : State) (l : LaneId) (cause : Nat) : ((s.shutOut l cause).lane l).supplied = false :=
  lanePowerOff_same ..

/-- Whether a lane is left decides about the halt. -/
theorem disregard_v2 {s : State} {l : LaneId} (cause : Nat) (hmem : inSet s.sup.v2.members l = true)
    (hnew : inSet s.sup.v2.disregarded l = false) : s.disregard .v2 l cause =
      if nAndNot s.sup.v2.members (s.shutOut l cause).sup.v2.disregarded = 0 then
        ((s.shutOut l cause).voterSet .v2 (s.shutOut l cause).sup.v2.halted).setDue .halt (frameAdd (s.shutOut l cause).sup.frame 1) 14
      else s.shutOut l cause := by
  unfold State.disregard
  exact if_neg (by simp [State.voter, hnew, hmem])

theorem disregard_v2_outcome {s : State} {l : LaneId} (cause : Nat) (hmem : inSet s.sup.v2.members l = true)
    (hnew : inSet s.sup.v2.disregarded l = false) : inSet (s.disregard .v2 l cause).sup.v2.disregarded l = true ∧
      ((s.disregard .v2 l cause).lane l).supplied = false ∧ (s.disregard .v2 l cause).sup.v2.members = s.sup.v2.members := by
  have hv2 := shutOut_v2 s l cause
  have hdark := shutOut_supplied s l cause
  rw [disregard_v2 cause hmem hnew]
  generalize s.shutOut l cause = u at hv2 hdark
  split
  · have hdue := setDue_votersKept (u.voterSet .v2 u.sup.v2.halted) .halt (frameAdd u.sup.frame 1) 14
    obtain ⟨hlane, -⟩ := setDue_lane (u.voterSet .v2 u.sup.v2.halted) .halt (frameAdd u.sup.frame 1) 14 l
    rw [hdue.v2, hlane, hv2]
    exact ⟨inSet_disregarding .., by cases l <;> exact hdark, rfl⟩
  · rw [hv2]
    exact ⟨inSet_disregarding .., hdark, rfl⟩

/-- Settles O20: a limit takes a member out of the vote, which goes on or halts; in SPLIT each voter disregards the lane. -/
theorem limitsRemoveALane : Obligations.LimitsRemoveALane := by
  unfold Obligations.LimitsRemoveALane
  intro s l v rest
  refine ⟨fun hsup hhalt hmem hsplit =>
      ⟨fun hmiss hmode => ⟨fun h => ?_, fun h => ?_⟩, fun hrun hmode => ⟨fun h => ?_, fun h => ?_⟩⟩,
    fun hsup hhalt hmem hsplit hnew hmiss hmode => ?_, fun hhub hsplit hmiss hpart hnew => ?_⟩
  · exact ⟨_, exec_laneWatchdogExpire hsup hhalt hmem hsplit hmiss hmode, leaves_restarts 1 hhalt h⟩
  · exact ⟨_, exec_laneWatchdogExpire hsup hhalt hmem hsplit hmiss hmode, leaves_halts 1 h⟩
  · exact ⟨_, exec_withholdLimitRemove hsup hhalt hmem hsplit hrun hmode, leaves_restarts 5 hhalt h⟩
  · exact ⟨_, exec_withholdLimitRemove hsup hhalt hmem hsplit hrun hmode, leaves_halts 5 h⟩
  · exact ⟨_, exec_laneWatchdogExpire_split hsup hhalt hmem hsplit hmiss hmode, disregard_v2_outcome 1 hmem hnew⟩
  · refine ⟨_, (exec_voter1Disregard hhub hsplit hmiss).trans (congrArg Host.Outcome.next (disregard_v1 1 hpart hnew)), ?_⟩
    rw [State.hubEvt_v1, State.hubEvt_lane_supplied]
    exact ⟨inSet_disregarding .., rfl, by cases l <;> rfl⟩

end Sys2Proof.Machine

/-! The status record of voter 2 at a lane, and differences between the voters (06 R181, R183). -/

namespace Sys2Proof.Machine

-- One theorem after the other, as the model's tests: elaborated side by side they would exceed the check's memory limit.
set_option Elab.async false

/-! ### The status record (R181) -/

/-- What a lane's vote port shows of a record before its outputs: the fields with their values. -/
def State.recordFields (s : State) (l : LaneId) (r : StatusRecord) : List (Fld × Nat) :=
  [(VOT_V2FRAME, r.frame), (VOT_V2STAT_VALID, b2n (frameAdd r.frame 1 == s.lf l TCK_FRAME)), (VOT_V2STAT_HALT, b2n r.halt),
    (VOT_V2STAT_CAND_OK, r.candOk), (VOT_V2STAT_MEMBERS, r.members), (VOT_V2STAT_OUTCOME, r.outcome)]

/-- Lane `l` shows a record but for its outputs. -/
def State.showRecord (s : State) (l : LaneId) (r : StatusRecord) : State :=
  (s.recordFields l r).foldl (fun t p => t.lfSet l p.1 p.2) s

/-- Lane `l` shows a record's outputs too, which are its new expected state. -/
def State.showRecordOut (s : State) (l : LaneId) (r : StatusRecord) : State :=
  ((s.showRecord l r).newExpected l ((s.showRecord l r).lf l VOT_V2OUT) r.out).lfSet l VOT_V2OUT r.out

/-- Lane `l` with the interrupts of a record: MEMBERS where the member set has changed, and STATUS. -/
def State.recordInts (s : State) (l : LaneId) (changed : Bool) : State :=
  (if changed then s.lfSet l VOT_INT_STAT_MEMBERS 1 else s).lfSet l VOT_INT_STAT_STATUS 1

theorem lf_newExpected (s : State) (l k : LaneId) (old new : Nat) (f : Fld) : (s.newExpected l old new).lf k f = s.lf k f :=
  State.lf_congr (by simp only [State.newExpected, State.updLane_lane]; split <;> simp_all) f

theorem exec_statusRecordReceive {s : State} {l : LaneId} (r : StatusRecord) (hs : s.ticking l = true) :
    exec (.statusRecordReceive l r true) s =
      .next ((s.showRecordOut l r).recordInts l (decide (s.lf l VOT_V2STAT_MEMBERS ≠ r.members % 8))) := by
  have hframe : (s.lfSet l VOT_V2FRAME r.frame).frame l = s.lf l TCK_FRAME := State.lf_lfSet_apart _ _ _ _ _ _ rfl
  show execStatusRecordReceive l r true s = _
  rw [execStatusRecordReceive, if_neg (by simp [hs]), if_neg (by simp)]
  dsimp only
  rw [hframe]
  by_cases h : s.lf l VOT_V2STAT_MEMBERS = r.members % 8
  · simp only [h, State.recordInts, ne_eq, not_true_eq_false, decide_false, if_true]
    rfl
  · simp only [h, State.recordInts, ne_eq, not_false_eq_true, decide_true, if_false]
    rfl

theorem exec_statusRecordReceive_invalid {s : State} {l : LaneId} (r : StatusRecord) (hs : s.ticking l = true) :
    exec (.statusRecordReceive l r false) s = .next (s.lfSet l VOT_V2STAT_VALID 0) := by
  show execStatusRecordReceive l r false s = _
  rw [execStatusRecordReceive, if_neg (by simp [hs]), if_pos (by simp)]

theorem lf_recordInts (s : State) (l : LaneId) (changed : Bool) {f : Fld} (hm : VOT_INT_STAT_MEMBERS.apart f = true)
    (hst : VOT_INT_STAT_STATUS.apart f = true) : (s.recordInts l changed).lf l f = s.lf l f := by
  rw [State.recordInts, State.lf_lfSet_apart _ _ _ _ _ _ hst]
  split
  · exact State.lf_lfSet_apart _ _ _ _ _ _ hm
  · rfl

theorem lf_showRecord {s : State} {l : LaneId} {r : StatusRecord} {p : Fld × Nat} (h : p ∈ s.recordFields l r) :
    (s.showRecord l r).lf l p.1 = p.2 % 2 ^ (p.1.hi + 1 - p.1.lo) :=
  lf_foldl_lfSet (by simp [State.recordFields, Fld.apart, Fld.ok]) (by simp [State.recordFields, Fld.ok]) s h

/-- A field of the record reads as it came, cut to its width. -/
theorem lf_record {s : State} {l : LaneId} {r : StatusRecord} {f : Fld} {x : Nat} (changed : Bool) (h : (f, x) ∈ s.recordFields l r) :
    ((s.showRecordOut l r).recordInts l changed).lf l f = x % 2 ^ (f.hi + 1 - f.lo) := by
  have hapart : ∀ p ∈ s.recordFields l r, VOT_INT_STAT_MEMBERS.apart p.1 = true ∧ VOT_INT_STAT_STATUS.apart p.1 = true ∧
      VOT_V2OUT.apart p.1 = true := by
    simp [State.recordFields, Fld.apart, Fld.ok]
  obtain ⟨hm, hst, hout⟩ := hapart _ h
  rw [lf_recordInts _ _ _ hm hst, State.showRecordOut, State.lf_lfSet_apart _ _ _ _ _ _ hout, lf_newExpected, lf_showRecord h]

theorem lf_record_out (s : State) (l : LaneId) (r : StatusRecord) (changed : Bool) :
    ((s.showRecordOut l r).recordInts l changed).lf l VOT_V2OUT = r.out % 2 ^ 17 := by
  rw [lf_recordInts _ _ _ rfl rfl]
  exact State.lf_lfSet_same _ _ _ _ rfl

theorem record_laneOnly (s : State) (l : LaneId) (r : StatusRecord) (changed : Bool) :
    LaneOnly l s ((s.showRecordOut l r).recordInts l changed) := by
  have hshow : LaneOnly l s (s.showRecordOut l r) := ((LaneOnly.foldl_lfSet _ s).trans (.upd ..)).trans (.lfSet ..)
  exact hshow.trans (LaneOnly.trans (.ite (.lfSet ..) (.refl ..)) (.lfSet ..))

/-! ### Differences between the voters (R183) -/

/-- An event of lane `l` and a change of it concern the lane and its events. -/
theorem laneEvt_updLane (s : State) (l : LaneId) (code : Nat) (parts : List (Nat × Nat)) (f : Lane → Lane) :
    LaneEvt l s ((s.laneEvt l code parts).updLane l f) :=
  ((laneEvt_eventOnly s l code parts).inLane l).trans (LaneOnly.upd ..).evt

/-- A difference of the outputs is recorded, once for its run. -/
def State.outputDiffRecorded (s : State) (l : LaneId) : State :=
  (s.laneEvt l 0x2030 [(4, (s.lane l).rt.vBits), (4, (s.lane l).rt.vDiff)]).updLane l (fun x => { x with rt := { x.rt with vRec := true } })

theorem exec_voterDifferenceRecord {s : State} {l : LaneId} (hs : s.ticking l = true) (hdiff : 2 ≤ (s.lane l).rt.vDiff)
    (hrec : (s.lane l).rt.vRec = false) : exec (.voterDifferenceRecord l) s = .next (s.outputDiffRecorded l) := by
  show execVoterDifferenceRecord l s = _
  exact if_neg (by simpa [hs, hrec] using Nat.lt_of_succ_le hdiff)

/-- Differing member sets are recorded, once for their run. -/
def State.memberDiffRecorded (s : State) (l : LaneId) : State :=
  if 8 ≤ (s.lane l).rt.mDiff && !(s.lane l).rt.mRec then
    (s.laneEvt l 0x2030 [(1, s.hf VOT_V1_STATUS_MEMBERS), (1, s.lf l VOT_V2STAT_MEMBERS), (4, (s.lane l).rt.mDiff)]).updLane l
      (fun x => { x with rt := { x.rt with mRec := true } })
  else s

theorem memberDiffRecorded_laneEvt (s : State) (l : LaneId) : LaneEvt l s (s.memberDiffRecorded l) := by
  unfold State.memberDiffRecorded
  split
  · exact laneEvt_updLane ..
  · exact LaneOnly.evt (.refl ..)

theorem memberDiffRecorded_rt (s : State) (l : LaneId) : ((s.memberDiffRecorded l).lane l).rt =
    { (s.lane l).rt with mRec := (s.lane l).rt.mRec || decide (8 ≤ (s.lane l).rt.mDiff) } := by
  unfold State.memberDiffRecorded
  split
  case isTrue h =>
    rw [Bool.and_eq_true, decide_eq_true_iff] at h
    simp [h.1]
  case isFalse h =>
    have hkeep : (s.lane l).rt.mRec = ((s.lane l).rt.mRec || decide (8 ≤ (s.lane l).rt.mDiff)) := by
      cases hrec : (s.lane l).rt.mRec <;> simp_all
    rw [← hkeep]

theorem exec_voterDifferenceHalt {s : State} {l : LaneId} (hs : s.ticking l = true) (hvote : s.inVote l = true)
    (hdiff : 8 ≤ (s.lane l).rt.vDiff ∨ 8 ≤ (s.lane l).rt.mDiff) : exec (.voterDifferenceHalt l) s =
      .next ((s.memberDiffRecorded l).updLane l (fun x => { x with rt := { x.rt with haltReq := true } })) := by
  show execVoterDifferenceHalt l s = _
  exact if_pos (by simpa [hs, hvote] using hdiff)

/-- A member that is to send the halt request sends no output with it. -/
theorem formImage_haltReq {s : State} {l : LaneId} (h : (s.lane l).rt.haltReq = true) (off : Bool) :
    (s.formImage l off).haltReq = true ∧ (s.formImage l off).out = 0 := by
  simp [State.formImage, h]

/-- Settles O21: a record by whether it is valid, and the differences of the voters by how long they have lasted. -/
theorem statusRecordsAndVoterDifferences : Obligations.StatusRecordsAndVoterDifferences := by
  unfold Obligations.StatusRecordsAndVoterDifferences
  intro s l hs
  refine ⟨fun r => ⟨_, exec_statusRecordReceive r hs, ?_⟩, fun r => ⟨_, exec_statusRecordReceive_invalid r hs, ?_⟩,
    fun hdiff hrec => ⟨_, exec_voterDifferenceRecord hs hdiff hrec, by simp [State.outputDiffRecorded], laneEvt_updLane ..⟩,
    fun hvote hdiff => ⟨_, exec_voterDifferenceHalt hs hvote hdiff, ?_⟩⟩
  · refine ⟨lf_record (x := r.frame) _ ?_, lf_record (x := r.members) _ ?_, (lf_record (x := b2n r.halt) _ ?_).trans (b2n_mod_two _),
      lf_record_out .., lf_record (x := r.outcome) _ ?_,
      (lf_record (x := b2n (frameAdd r.frame 1 == s.lf l TCK_FRAME)) _ ?_).trans (b2n_mod_two _),
      State.lf_lfSet_same _ _ _ _ rfl, record_laneOnly ..⟩ <;>
    simp [State.recordFields]
  · exact ⟨State.lf_lfSet_same _ _ _ _ rfl, State.lf_lfSet_apart _ _ _ _ _ _ rfl, .lfSet ..⟩
  · have hrt := memberDiffRecorded_rt s l
    refine ⟨?_, (memberDiffRecorded_laneEvt s l).trans (LaneOnly.evt (.upd ..)), formImage_haltReq (by simp)⟩
    simp [hrt]

end Sys2Proof.Machine

/-! State checksum packets, and the pages of a realignment at the donor and at the target (06 R186 to R188). -/

namespace Sys2Proof.Machine

-- One theorem after the other, as the model's tests: elaborated side by side they would exceed the check's memory limit.
set_option Elab.async false

/-! ### A neighbour's state checksum packet (R124, R186) -/

/-- A state checksum packet passes every check. -/
def State.sumOk (s : State) (l : LaneId) (p : LinkPacket) : Prop :=
  p.crcOk = true ∧ p.nframeOk = true ∧ p.frame = s.frame l ∧ p.dst = l ∧ p.src ≠ l ∧ p.payload.length = 36 ∧
    (parseSum p.payload).smapid = s.smapid l

/-- Lane `l` holds a neighbour's packet for the compare. -/
def State.holdSum (s : State) (l : LaneId) (p : LinkPacket) : State :=
  if p.src = l.prev then (s.lfSet l VOT_SUM_PREV (parseSum p.payload).crc).updLane l
    (fun x => { x with sum := { x.sum with prev := some (parseSum p.payload) } })
  else (s.lfSet l VOT_SUM_NEXT (parseSum p.payload).crc).updLane l
    (fun x => { x with sum := { x.sum with next := some (parseSum p.payload) } })

theorem next_ne_prev (l : LaneId) : l.next ≠ l.prev := by cases l <;> decide

/-- A change of a lane that leaves its registers leaves every field. -/
theorem lf_updLane {f : Lane → Lane} (hf : ∀ y, (f y).regs = y.regs) (s : State) (l k : LaneId) (g : Fld) :
    (s.updLane l f).lf k g = s.lf k g :=
  State.lf_congr (by by_cases h : k = l <;> simp [h, hf]) g

section
variable {s : State} {l : LaneId} {p : LinkPacket}

theorem holdSum_prev (h : p.src = l.prev) : (s.holdSum l p).lf l VOT_SUM_PREV = (parseSum p.payload).crc % 2 ^ 32 ∧
    ((s.holdSum l p).lane l).sum = { (s.lane l).sum with prev := some (parseSum p.payload) } := by
  rw [State.holdSum, if_pos h]
  exact ⟨(lf_updLane (by exact fun _ => rfl) ..).trans (State.lf_lfSet_same _ _ _ _ rfl), by simp⟩

theorem holdSum_next (h : p.src = l.next) : (s.holdSum l p).lf l VOT_SUM_NEXT = (parseSum p.payload).crc % 2 ^ 32 ∧
    ((s.holdSum l p).lane l).sum = { (s.lane l).sum with next := some (parseSum p.payload) } := by
  rw [State.holdSum, if_neg (by rw [h]; exact next_ne_prev l)]
  exact ⟨(lf_updLane (by exact fun _ => rfl) ..).trans (State.lf_lfSet_same _ _ _ _ rfl), by simp⟩

theorem LaneOnly.holdSum (l : LaneId) (s : State) (p : LinkPacket) : LaneOnly l s (s.holdSum l p) :=
  .ite ((LaneOnly.lfSet ..).trans (.upd ..)) ((LaneOnly.lfSet ..).trans (.upd ..))

variable (hs : s.ticking l = true)
include hs

theorem exec_checksumPacketReceive (hok : s.sumOk l p) : exec (.checksumPacketReceive l p) s = .next (s.holdSum l p) := by
  obtain ⟨hcrc, hn, hframe, hdst, hself, hlen, hmap⟩ := hok
  show execChecksumPacketReceive l p s = _
  rw [execChecksumPacketReceive]
  dsimp only
  rw [if_neg (by simp [hs, hcrc, hn, hframe, hdst, hself, hlen, hmap]), State.holdSum, apply_ite Host.Outcome.next]

theorem exec_checksumPacketReceive_bad (hbad : ¬ s.sumOk l p) : exec (.checksumPacketReceive l p) s = .next s := by
  show execChecksumPacketReceive l p s = _
  refine if_pos (by_contra fun h => hbad ?_)
  simpa [State.sumOk, hs, and_assoc] using h

end

/-! ### The donor's next page (R187, R188) -/

/-- Pages of a pass that a donor still has to send. -/
def pagesDue (u : LaneSum) (pass : Nat) : Nat :=
  if pass = 0 then u.bulk.length else if pass = 1 then u.dirtyPass.length else u.finalPass.length

/-- A page's mark clears as a dirty pass or the final pass sends it. -/
theorem not_mem_marked_pageSent (u : LaneSum) (k : Nat) {pass : Nat} (h : pass ≠ 0) : k ∉ (pageSent u k pass).marked := by
  unfold pageSent
  split
  · exact absurd rfl h
  · simp
  · simp

/-- Donor `l` has sent page `k` of a pass to lane `d`, and shows what is due. -/
def State.pageGone (s : State) (l d : LaneId) (k pass : Nat) : State :=
  let u := pageSent (s.lane l).sum k pass
  (((((s.emit .linkPacket d.idx 4 (linkPacket 4 l d (s.frame l) 0 (pagePayload k (s.smapid l) pass (s.pageBytes l k)))).updLane l
    (fun x => { x with sum := u })).lfSet l VOT_RLN_PASS pass).lfSet l VOT_RLN_DUE (pagesDue u pass)).lfSet l VOT_DIRTY u.marked.length)

/-- Donor `l` has sent a page; when no page of the pass is left it raises its interrupt. -/
def State.pageDone (s : State) (l d : LaneId) (k pass : Nat) : State :=
  if pagesDue (pageSent (s.lane l).sum k pass) pass = 0 then (s.pageGone l d k pass).lfSet l VOT_INT_STAT_RLN_DONE 1
  else s.pageGone l d k pass

theorem exec_realignPageSend {s : State} {l d : LaneId} {k pass : Nat} (hs : s.ticking l = true) (hrole : s.lf l VOT_RLN_ROLE = 1)
    (htarget : (s.lane l).sum.target = some d) (hpage : nextPage (s.lane l).sum = some (k, pass)) :
    exec (.realignPageSend l) s = .next (s.pageDone l d k pass) := by
  show execRealignPageSend l s = _
  rw [execRealignPageSend]
  dsimp only
  rw [if_neg (by simp [hs, hrole]), htarget, hpage]
  rfl

theorem pageDone_tx (s : State) (l d : LaneId) (k pass : Nat) : (s.pageDone l d k pass).tx =
    ⟨.linkPacket, d.idx, 4, linkPacket 4 l d (s.frame l) 0 (pagePayload k (s.smapid l) pass (s.pageBytes l k))⟩ :: s.tx := by
  unfold State.pageDone
  split <;> simp [State.pageGone]

theorem pageDone_lane (s : State) (l d : LaneId) (k pass : Nat) :
    ((s.pageDone l d k pass).lane l).sum = pageSent (s.lane l).sum k pass ∧ ((s.pageDone l d k pass).lane l).mem = (s.lane l).mem := by
  unfold State.pageDone
  split <;> simp [State.pageGone]

theorem lf_pageDone_pass (s : State) (l d : LaneId) (k pass : Nat) : (s.pageDone l d k pass).lf l VOT_RLN_PASS = pass % 4 := by
  have hgone : (s.pageGone l d k pass).lf l VOT_RLN_PASS = pass % 4 := by
    rw [State.pageGone, State.lf_lfSet_apart _ _ _ _ _ _ rfl, State.lf_lfSet_apart _ _ _ _ _ _ rfl]
    exact State.lf_lfSet_same _ _ _ _ rfl
  unfold State.pageDone
  split
  · rw [State.lf_lfSet_apart _ _ _ _ _ _ rfl, hgone]
  · exact hgone

/-! ### A page reaches the target (R187) -/

/-- Target `l` has stored a page at its place, and it is no longer due. -/
def State.pageStored (s : State) (l : LaneId) (p : LinkPacket) : State :=
  let k := leAt p.payload 0 4
  let t := (s.lmemSet l (4096 * pageOf (s.smap l) k) (p.payload.drop 16)).updLane l
    (fun x => { x with sum := { x.sum with bulk := (s.lane l).sum.bulk.filter (· ≠ k) } })
  t.lfSet l VOT_RLN_DUE ((s.lane l).sum.bulk.filter (· ≠ k)).length

/-- Target `l` has stored a page and, while it is not yet a candidate, shows its pass. -/
def State.pageTaken (s : State) (l : LaneId) (p : LinkPacket) : State :=
  if (s.pageStored l p).lf l VOT_RLN_ROLE = 2 then (s.pageStored l p).lfSet l VOT_RLN_PASS (byteAt p.payload 12) else s.pageStored l p

section
variable {s : State} {l : LaneId} {p : LinkPacket} (hs : s.ticking l = true) (hrole : ¬ s.lf l VOT_RLN_ROLE < 2)
include hs hrole

theorem exec_realignPageReceive (hcrc : p.crcOk = true) (hn : p.nframeOk = true) (hdst : p.dst = l) (hlen : p.payload.length = 4112)
    (hmap : leAt p.payload 4 4 = s.smapid l) (hsum : leAt p.payload 8 4 = crc32c (p.payload.drop 16)) (hpass : byteAt p.payload 12 ≤ 2)
    (hk : leAt p.payload 0 4 < s.smapPages l) : exec (.realignPageReceive l p) s = .next (s.pageTaken l p) := by
  show execRealignPageReceive l p s = _
  rw [execRealignPageReceive]
  dsimp only
  rw [if_neg (by simp [hs, hrole]), if_neg (by simp [hcrc, hn, hdst, hlen, hmap, hsum, hpass, hk])]
  simp only [State.lmemSet_lane_sum]
  rfl

theorem exec_realignPageReceive_bad (hbad : p.crcOk = false ∨ p.nframeOk = false ∨ leAt p.payload 8 4 ≠ crc32c (p.payload.drop 16)) :
    exec (.realignPageReceive l p) s = .next (s.lcount l VOT_CNT_PAGE 1) := by
  show execRealignPageReceive l p s = _
  rw [execRealignPageReceive]
  dsimp only
  rw [if_neg (by simp [hs, hrole]), if_pos]
  rcases hbad with h | h | h <;> simp [h]

end

theorem pageTaken_lane (s : State) (l : LaneId) (p : LinkPacket) :
    ((s.pageTaken l p).lane l).mem = memWrite (s.lane l).mem (4096 * pageOf (s.smap l) (leAt p.payload 0 4)) (p.payload.drop 16) ∧
      ((s.pageTaken l p).lane l).sum.bulk = (s.lane l).sum.bulk.filter (· ≠ leAt p.payload 0 4) := by
  unfold State.pageTaken
  split <;> simp [State.pageStored, State.lmemSet]

theorem LaneOnly.pageTaken (l : LaneId) (s : State) (p : LinkPacket) : LaneOnly l s (s.pageTaken l p) := by
  have hstored : LaneOnly l s (s.pageStored l p) := ((LaneOnly.lmemSet ..).trans (.upd ..)).trans (.lfSet ..)
  exact .ite (hstored.trans (.lfSet ..)) hstored

/-- A page that is stored stands at its place, and every byte elsewhere as before. -/
theorem pageTaken_lmem {s : State} {l : LaneId} {p : LinkPacket} (hlen : p.payload.length = 4112) :
    (s.pageTaken l p).lmem l (4096 * pageOf (s.smap l) (leAt p.payload 0 4)) 4096 = p.payload.drop 16 ∧
      ∀ a, a < 4096 * pageOf (s.smap l) (leAt p.payload 0 4) ∨ 4096 * pageOf (s.smap l) (leAt p.payload 0 4) + 4096 ≤ a →
        (s.pageTaken l p).lmem l a 1 = s.lmem l a 1 := by
  obtain ⟨hmem, -⟩ := pageTaken_lane s l p
  have hpage : (p.payload.drop 16).length = 4096 := by rw [List.length_drop, hlen]
  constructor
  · have hread := memRead_memWrite_same (s.lane l).mem (4096 * pageOf (s.smap l) (leAt p.payload 0 4)) (p.payload.drop 16)
    rw [State.lmem, hmem]
    rwa [hpage] at hread
  · intro a ha
    rw [State.lmem, hmem, memRead_memWrite_out _ _ _ _ _ (by rw [hpage]; omega), State.lmem]

/-- Settles O22: a checksum packet by its checks and its sender, a donor's page, and a page at the target by its checks. -/
theorem realignmentPagesStored : Obligations.RealignmentPagesStored := by
  unfold Obligations.RealignmentPagesStored
  intro s l hs
  refine ⟨fun p => ?_, fun d k pass hrole htarget hpage => ?_, fun p k page hrole hdst hlen hk hpage hmap hpass hlt => ?_⟩
  · refine ⟨fun hok hsrc => ?_, fun hok hsrc => ?_, exec_checksumPacketReceive_bad hs⟩
    · obtain ⟨hfield, hsum⟩ := holdSum_prev (s := s) hsrc
      exact ⟨_, exec_checksumPacketReceive hs hok, hfield, hsum, .holdSum ..⟩
    · obtain ⟨hfield, hsum⟩ := holdSum_next (s := s) hsrc
      exact ⟨_, exec_checksumPacketReceive hs hok, hfield, hsum, .holdSum ..⟩
  · obtain ⟨hsum, hmem⟩ := pageDone_lane s l d k pass
    refine ⟨_, exec_realignPageSend hs hrole htarget hpage, pageDone_tx .., lf_pageDone_pass .., fun h => ?_, hmem⟩
    rw [hsum]
    exact not_mem_marked_pageSent _ k h
  · subst hk hpage
    have hrole := Nat.not_lt.2 hrole
    refine ⟨fun hcrc hn hsum => ?_, fun hbad => ?_⟩
    · obtain ⟨-, hbulk⟩ := pageTaken_lane s l p
      obtain ⟨hplace, helse⟩ := pageTaken_lmem (s := s) (l := l) hlen
      exact ⟨_, exec_realignPageReceive hs hrole hcrc hn hdst hlen hmap hsum hpass hlt, hplace, helse, by simp [hbulk], .pageTaken ..⟩
    · exact ⟨_, exec_realignPageReceive_bad hs hrole hbad, by simp, by simp, State.lf_lcount_same _ _ _ _ rfl, .lcount ..⟩

end Sys2Proof.Machine

/-! A realignment reaches its final pass, or is abandoned and begins anew within its limit (06 R187 to R190, R192). -/

namespace Sys2Proof.Machine

-- One theorem after the other, as the model's tests: elaborated side by side they would exceed the check's memory limit.
set_option Elab.async false

/-! ### The final pass (R188 to R190) -/

theorem donorFinal_finalPass (s : State) (l k : LaneId) : ((s.donorFinal l).lane k).sum.marked = (s.lane k).sum.marked ∧
    ((s.donorFinal l).lane k).sum.finalPass = if k = l then (s.lane k).sum.marked else (s.lane k).sum.finalPass := by
  by_cases h : k = l <;> simp [State.donorFinal, h]

theorem takeSet_sum (s : State) (t d k : LaneId) : ((s.takeSet t d).lane k).sum = (s.lane k).sum := by
  unfold State.takeSet
  dsimp only
  split
  · rfl
  · split
    · rfl
    · by_cases h : k = t <;> simp [h]

theorem takeSet_laneOnly (s : State) (t d : LaneId) : LaneOnly t s (s.takeSet t d) := by
  unfold State.takeSet
  dsimp only
  split
  · exact .refl t s
  · split
    · exact .refl t s
    · exact (LaneOnly.upd ..).trans (.lfSet ..)

/-- Lane `t` shows that it is a candidate, with the start that it takes part in. -/
def State.showCandidate (s : State) (t : LaneId) (warm : Nat) : State :=
  (((s.lfSet t VOT_RLN_ROLE 3).lfSet t VOT_RLN_PASS 3).lfSet t VOT_INT_STAT_RLN_DONE 1).lfSet t TCK_MODE_WARM warm

theorem lf_showCandidate_role (s : State) (t : LaneId) (warm : Nat) : (s.showCandidate t warm).lf t VOT_RLN_ROLE = 3 := by
  rw [State.showCandidate, State.lf_lfSet_apart _ _ _ _ _ _ rfl, State.lf_lfSet_apart _ _ _ _ _ _ rfl,
    State.lf_lfSet_apart _ _ _ _ _ _ rfl]
  exact State.lf_lfSet_same _ _ _ _ rfl

/-- After the copies a candidate shows its role; what it takes over from the lower donor leaves its registers and its books of checksum
and realignment. -/
theorem becomeCandidate_eq (s : State) (t d : LaneId) : ∃ (u : State) (warm : Nat) (f : Lane → Lane),
    (∀ k, (u.lane k).sum = (s.lane k).sum) ∧ u.sup = s.sup ∧
      (∀ y, (f y).regs = y.regs ∧ (f y).sum = y.sum ∧ (f y).rt.cand = true) ∧
      s.becomeCandidate t d = (u.showCandidate t warm).updLane t f := by
  unfold State.becomeCandidate
  extract_lets hub u uRole uPass uDone dr dk single uWarm
  refine ⟨u, _, _, ?sum, ?sup, ?target, rfl⟩
  case sum =>
    intro k
    rw [takeSet_sum]
    cases k <;> rfl
  case sup => exact (takeSet_laneOnly _ t d).lanesOnly.sup
  case target => exact fun _ => ⟨rfl, rfl, rfl⟩

theorem becomeCandidate_candidate (s : State) (t d : LaneId) : (s.becomeCandidate t d).lf t VOT_RLN_ROLE = 3 ∧
    ((s.becomeCandidate t d).lane t).rt.cand = true ∧ (∀ k, ((s.becomeCandidate t d).lane k).sum = (s.lane k).sum) ∧
      (s.becomeCandidate t d).members = s.members := by
  obtain ⟨u, warm, f, hsum, hsup, hf, heq⟩ := becomeCandidate_eq s t d
  rw [heq, lf_updLane fun y => (hf y).1]
  refine ⟨lf_showCandidate_role .., by simp [hf], fun k => ?_, by simp [State.members, State.showCandidate, hsup]⟩
  by_cases h : k = t <;> simp [h, hf, hsum, State.showCandidate]

/-- The donors have taken up the final pass, and lane `x` is a candidate. -/
def State.finalBegun (s : State) (x d e : LaneId) : State := ((s.donorFinal d).donorFinal e).becomeCandidate x d

/-- What is recorded of a final pass: its cycle, and how many pages it sends. -/
def State.finalParts (s : State) (d e : LaneId) : List (Nat × Nat) :=
  [(6, s.frame d), (4, (s.lane d).sum.marked.length + (s.lane e).sum.marked.length)]

theorem exec_realignFinalPass {s : State} {x d e : LaneId} (hmem : s.memberList = [d, e]) (hd : (s.lane d).sum.target = some x)
    (he : (s.lane e).sum.target = some x) (hrole : s.lf x VOT_RLN_ROLE = 2) (hready : s.finalReady d e = true) :
    exec (.realignFinalPass x) s =
      .next (((s.finalBegun x d e).laneEvt d 0x2021 (s.finalParts d e)).laneEvt e 0x2021 (s.finalParts d e)) := by
  show execRealignFinalPass x s = _
  rw [execRealignFinalPass, hmem]
  exact if_pos (by simp [hd, he, hrole, hready])

theorem finalBegun_finalPass (s : State) (x d e : LaneId) {l : LaneId} (h : l = d ∨ l = e) :
    ((s.finalBegun x d e).lane l).sum.finalPass = (s.lane l).sum.marked := by
  obtain ⟨-, -, hsum, -⟩ := becomeCandidate_candidate ((s.donorFinal d).donorFinal e) x d
  obtain ⟨hmarked, hfinal⟩ := donorFinal_finalPass s d l
  rw [State.finalBegun, hsum, (donorFinal_finalPass ..).2, hmarked, hfinal]
  rcases h with rfl | rfl <;> simp

theorem donorFinal_members (s : State) (l : LaneId) : (s.donorFinal l).members = s.members := by simp [State.members, State.donorFinal]

theorem finalBegun_members (s : State) (x d e : LaneId) : (s.finalBegun x d e).members = s.members := by
  obtain ⟨-, -, -, hmem⟩ := becomeCandidate_candidate ((s.donorFinal d).donorFinal e) x d
  rw [State.finalBegun, hmem, donorFinal_members, donorFinal_members]

/-! ### What the beginning of a realignment is judged by (R187, R192) -/

/-- `t` has of `s` what decides whether and with which pages a realignment begins: the supervisor's frame, voter 2, the dictionary, each
lane's attempts, its memory and its state map. -/
structure RealignBasis (s t : State) : Prop where
  frame : t.sup.frame = s.sup.frame
  v2 : t.sup.v2 = s.sup.v2
  dict : t.dict = s.dict
  attempts : ∀ k, (t.lane k).sum.attempts = (s.lane k).sum.attempts
  mem : ∀ k, (t.lane k).mem = (s.lane k).mem
  smap : ∀ k, t.lreg k VOT_SMAP.reg = s.lreg k VOT_SMAP.reg
  scfg : ∀ k, t.lreg k VOT_SCFG.reg = s.lreg k VOT_SCFG.reg

namespace RealignBasis

variable {s t u : State} {l : LaneId}

theorem refl (s : State) : RealignBasis s s := ⟨rfl, rfl, rfl, fun _ => rfl, fun _ => rfl, fun _ => rfl, fun _ => rfl⟩

theorem trans (h : RealignBasis s t) (g : RealignBasis t u) : RealignBasis s u :=
  ⟨g.frame.trans h.frame, g.v2.trans h.v2, g.dict.trans h.dict, fun k => (g.attempts k).trans (h.attempts k),
    fun k => (g.mem k).trans (h.mem k), fun k => (g.smap k).trans (h.smap k), fun k => (g.scfg k).trans (h.scfg k)⟩

theorem ite {c : Prop} [Decidable c] (h : RealignBasis s t) (g : RealignBasis s u) : RealignBasis s (if c then t else u) := by
  split
  · exact h
  · exact g

theorem lfSet {f : Fld} {x : Nat} (h : RealignBasis s t) (hmap : VOT_SMAP.reg ≠ f.reg := by decide)
    (hcfg : VOT_SCFG.reg ≠ f.reg := by decide) : RealignBasis s (t.lfSet l f x) :=
  h.trans ⟨by simp, by simp, by simp, by simp, by simp, fun _ => State.lreg_lregSet_other _ _ _ _ hmap,
    fun _ => State.lreg_lregSet_other _ _ _ _ hcfg⟩

theorem updSum {g : LaneSum → LaneSum} (h : RealignBasis s t) (hg : ∀ x, (g x).attempts = x.attempts := by exact fun _ => rfl) :
    RealignBasis s (t.updLane l (fun x => { x with sum := g x.sum })) := by
  refine h.trans ⟨by simp, by simp, by simp, fun k => ?_, fun k => ?_, fun k => ?_, fun k => ?_⟩
  · rw [State.updLane_lane]
    split
    · rw [hg, ‹k = l›]
    · rfl
  all_goals by_cases hk : k = l <;> simp [State.lreg, hk]

theorem supEvt {code : Nat} {parts : List (Nat × Nat)} (h : RealignBasis s t) : RealignBasis s (t.supEvt code parts) :=
  h.trans ⟨by simp, by simp, by simp, by simp, by simp, fun k => (supEvt_eventOnly ..).reg k _ rfl,
    fun k => (supEvt_eventOnly ..).reg k _ rfl⟩

theorem onLanes {f : LaneId → State → State} (hf : ∀ l t, RealignBasis s t → RealignBasis s (f l t)) (h : RealignBasis s t) :
    RealignBasis s (onLanes f t) :=
  hf .c _ (hf .b _ (hf .a t h))

theorem endRealign {x : LaneId} (h : RealignBasis s t) : RealignBasis s (t.endRealign x) := by
  unfold State.endRealign
  exact .onLanes (fun l t h => .ite (updSum
    (g := fun u => { u with target := none, bulk := [], dirtyPass := [], finalPass := [], marked := [] }) h.lfSet) h) h

theorem memberList (h : RealignBasis s t) : t.memberList = s.memberList := by
  rw [State.memberList, State.members, h.v2, ← State.members, State.memberList]

theorem obj (h : RealignBasis s t) (i j : Nat) : t.obj i j = s.obj i j := State.obj_congr h.dict i j

theorem recentAttempts (h : RealignBasis s t) (k : LaneId) : t.recentAttempts k = s.recentAttempts k := by
  have hperiod : t.period = s.period := by rw [State.period, h.obj, State.period]
  have hframes : t.framesOf 3600 = s.framesOf 3600 := by rw [State.framesOf, hperiod, State.framesOf]
  rw [State.recentAttempts, h.attempts, h.frame, hframes, State.recentAttempts]

theorem entries (h : RealignBasis s t) (k : LaneId) : t.lf k VOT_SCFG_ENTRIES = s.lf k VOT_SCFG_ENTRIES := congrArg (fldGet _) (h.scfg k)

theorem smapPages (h : RealignBasis s t) (k : LaneId) : t.smapPages k = s.smapPages k := by
  have hentry : t.smapEntry k = s.smapEntry k := by
    funext i
    simp only [State.smapEntry, State.lmem, h.smap, h.mem]
  simp only [State.smapPages, State.smap, hentry, h.entries]

end RealignBasis

/-! ### A realignment begins (R187, R192) -/

/-- Donor `l` begins the bulk transfer of its share to lane `x`. -/
def State.donorBegins (s : State) (x l : LaneId) (share : List Nat) : State :=
  let t := s.updLane l (fun y => { y with sum := { y.sum with
    bulk := share, marked := [], dirtyPass := [], finalPass := [], target := some x, bulkStart := s.sup.frame
    cleanRun := 0, candCycles := 0 } })
  ((t.lfSet l VOT_RLN_ROLE 1).lfSet l VOT_RLN_PASS 0).lfSet l VOT_RLN_DUE share.length

/-- Lane `x` begins to receive all pages as the target. -/
def State.targetBegins (s : State) (x : LaneId) (pages : Nat) : State :=
  let t := s.updLane x (fun y => { y with
    sum := { y.sum with
      bulk := List.range pages, target := some x, bulkStart := s.sup.frame, candCycles := 0, attempts := s.sup.frame :: s.recentAttempts x }
    rt := { y.rt with cand := false } })
  ((t.lfSet x VOT_RLN_ROLE 2).lfSet x VOT_RLN_PASS 0).lfSet x VOT_RLN_DUE pages

theorem RealignBasis.donorBegins {s t : State} {x l : LaneId} {share : List Nat} (h : RealignBasis s t) :
    RealignBasis s (t.donorBegins x l share) :=
  (updSum (g := fun u => { u with
    bulk := share, marked := [], dirtyPass := [], finalPass := [], target := some x, bulkStart := t.sup.frame, cleanRun := 0,
    candCycles := 0 }) h).lfSet.lfSet.lfSet

theorem targetBegins_lane (s : State) (x : LaneId) (pages : Nat) : (s.targetBegins x pages).lf x VOT_RLN_ROLE = 2 ∧
    ((s.targetBegins x pages).lane x).sum.bulkStart = s.sup.frame ∧ ((s.targetBegins x pages).lane x).sum.bulk = List.range pages ∧
      ((s.targetBegins x pages).lane x).sum.attempts = s.sup.frame :: s.recentAttempts x ∧
      (s.targetBegins x pages).members = s.members := by
  refine ⟨?_, ?_⟩
  · rw [State.targetBegins, State.lf_lfSet_apart _ _ _ _ _ _ rfl, State.lf_lfSet_apart _ _ _ _ _ _ rfl]
    exact State.lf_lfSet_same _ _ _ _ rfl
  · simp [State.targetBegins, State.members]

section
variable {s : State} {x d e : LaneId} (hmem : s.memberList = [d, e]) (hmap : s.lf d VOT_SCFG_ENTRIES ≠ 0)
include hmem hmap

/-- With the attempts used up the lane stays out. -/
theorem startRealign_limit (h : s.obj 0x1141 3 ≤ (s.recentAttempts x).length) :
    s.startRealign x = (s.supEvt 0x2024 [(1, x.idx)]).updLane x (fun y => { y with out := true }) := by
  unfold State.startRealign
  rw [hmem]
  dsimp only
  rw [if_neg hmap, if_pos h]

theorem startRealign_begins (h : (s.recentAttempts x).length < s.obj 0x1141 3) :
    ∃ u parts, RealignBasis s u ∧ s.startRealign x = (u.targetBegins x (s.smapPages d)).supEvt 0x2020 parts := by
  unfold State.startRealign
  rw [hmem]
  dsimp only
  rw [if_neg hmap, if_neg (Nat.not_le.2 h)]
  exact ⟨_, _, (RealignBasis.refl s).donorBegins.donorBegins, rfl⟩

end

/-! ### A realignment is abandoned (R189, R192) -/

/-- The realignment of lane `x` has been given up, and the event recorded. -/
def State.givenUp (s : State) (x : LaneId) : State := (s.endRealign x).supEvt 0x2022 [(1, x.idx), (1, 0)]

theorem givenUp_basis (s : State) (x : LaneId) : RealignBasis s (s.givenUp x) := (RealignBasis.refl s).endRealign.supEvt

theorem exec_realignmentAbandon {s : State} {x : LaneId} (hsup : s.sup.supplied = true) (hrole : s.lf x VOT_RLN_ROLE = 2)
    (hlate : (s.obj 0x1141 5 : Int) ≤ frameDiff s.sup.frame (s.lane x).sum.bulkStart) :
    exec (.realignmentAbandon x) s = .next ((s.givenUp x).startRealign x) := by
  show execRealignmentAbandon x s = _
  exact if_pos (by simp [hsup, hrole, hlate])

/-- Settles O23: the final pass with what the donors and the candidate take; an abandoned realignment begins anew from the same basis, or
the lane stays out. -/
theorem realignmentEndsOrIsAbandoned : Obligations.RealignmentEndsOrIsAbandoned := by
  unfold Obligations.RealignmentEndsOrIsAbandoned
  intro s x d e hmem
  constructor
  · intro hd he hrole _ _ hready
    obtain ⟨hrole3, hcand, -, -⟩ := becomeCandidate_candidate ((s.donorFinal d).donorFinal e) x d
    refine ⟨_, exec_realignFinalPass hmem hd he hrole hready, ?_, ?_, ?_, ?_, ?_⟩
    · rw [State.lf_laneEvt _ _ _ _ _ _ rfl, State.lf_laneEvt _ _ _ _ _ _ rfl]
      exact hrole3
    · simpa [State.finalBegun] using hcand
    · simpa using finalBegun_finalPass s x d e (.inl rfl)
    · simpa using finalBegun_finalPass s x d e (.inr rfl)
    · simpa [State.members] using finalBegun_members s x d e
  · intro hsup hrole hlate hmap
    have hexec := exec_realignmentAbandon hsup hrole hlate
    have hbasis := givenUp_basis s x
    have hmem' : (s.givenUp x).memberList = [d, e] := hbasis.memberList.trans hmem
    have hmap' : (s.givenUp x).lf d VOT_SCFG_ENTRIES ≠ 0 := by rwa [hbasis.entries]
    constructor
    · intro hlimit
      have hlimit : (s.givenUp x).obj 0x1141 3 ≤ ((s.givenUp x).recentAttempts x).length := by
        rwa [hbasis.obj, hbasis.recentAttempts]
      refine ⟨_, hexec.trans (congrArg Host.Outcome.next (startRealign_limit hmem' hmap' hlimit)), by simp, ?_⟩
      simp [State.members, hbasis.v2]
    · intro hlimit
      have hlimit : ((s.givenUp x).recentAttempts x).length < (s.givenUp x).obj 0x1141 3 := by
        rwa [hbasis.obj, hbasis.recentAttempts]
      obtain ⟨u, parts, hu, heq⟩ := startRealign_begins (x := x) hmem' hmap' hlimit
      obtain ⟨hrole2, hstart, hbulk, hattempts, hmembers⟩ := targetBegins_lane u x ((s.givenUp x).smapPages d)
      have hb := hbasis.trans hu
      rw [hb.frame] at hstart hattempts
      rw [hb.recentAttempts] at hattempts
      rw [hbasis.smapPages] at heq hrole2 hstart hbulk hattempts hmembers
      refine ⟨_, hexec.trans (congrArg Host.Outcome.next heq), ?_, by simpa using hstart, by simpa using hbulk,
        by simpa using hattempts, ?_⟩
      · rw [State.lf_supEvt _ _ _ _ _ rfl]
        exact hrole2
      · rw [State.members, State.supEvt_sup_v2, ← State.members, hmembers, State.members, hb.v2, State.members]

end Sys2Proof.Machine

/-! Traps of the cores and the tasks they end, stations that time out, and the reports that form the retained frame Q (05 R159;
07 R206, R219, R225). -/

namespace Sys2Proof.Machine

/-! ### What an exception leaves (R206; 10 R287) -/

theorem LaneOnly.writeEnter (l : LaneId) (s : State) (w : PendWrite) : LaneOnly l s (s.writeEnter l w) := by
  unfold State.writeEnter State.brgShow
  dsimp only
  split
  · exact ((((LaneOnly.brgUpd ..).trans (.lfSet ..)).trans (.lfSet ..)).trans (.lfSet ..)).trans (.lfSet ..)
  · exact .brgUpd ..

theorem LaneOnly.wcIssue (l : LaneId) (s : State) (c : Nat) : LaneOnly l s (s.wcIssue l c) := by
  unfold State.wcIssue
  split
  · exact (LaneOnly.brgUpd ..).trans (.writeEnter ..)
  · exact .refl ..

theorem LaneOnly.taskTraps (l : LaneId) (s : State) (n : Nat) : LaneOnly l s (s.taskTraps l n) := by
  unfold State.taskTraps
  split
  · exact .refl ..
  · split
    · exact .taskSet ..
    · exact .taskSet ..

theorem LaneOnly.afterTrap (l : LaneId) (s : State) (c : Nat) (k : CoreState) : LaneOnly l s (s.afterTrap l c k) := by
  unfold State.afterTrap
  dsimp only
  split
  · exact (LaneOnly.wcIssue ..).trans (.taskTraps ..)
  · exact .wcIssue ..

theorem LaneOnly.coreTrap (l : LaneId) (s : State) (c cause pc : Nat) (tval : Option Nat) :
    LaneOnly l s (s.coreTrap l c cause pc tval) :=
  (LaneOnly.coreSet ..).trans (.afterTrap ..)

/-- The core has its trap; the other consequences lie outside the cores. -/
theorem core_coreTrap (s : State) (l : LaneId) (c cause pc : Nat) (tval : Option Nat) :
    (s.coreTrap l c cause pc tval).core l c = takeTrap (s.core l c) cause pc tval := by
  obtain ⟨hcores, -⟩ := afterTrap_cores_mem (s.coreSet l c (takeTrap (s.core l c) cause pc tval)) l c (s.core l c)
  rw [State.coreTrap, State.core, hcores]
  exact State.core_coreSet_same ..

theorem writeEnter_rt (s : State) (l : LaneId) (w : PendWrite) : ((s.writeEnter l w).lane l).rt = (s.lane l).rt := by
  unfold State.writeEnter
  dsimp only
  split <;> simp [State.brgShow]

theorem wcIssue_rt (s : State) (l : LaneId) (c : Nat) : ((s.wcIssue l c).lane l).rt = (s.lane l).rt := by
  unfold State.wcIssue
  split
  · simp [writeEnter_rt]
  · rfl

/-- An exception in machine mode ends no task. -/
theorem task_coreTrap_machine {s : State} {l : LaneId} {c : Nat} (h : (s.core l c).priv = .m) (cause pc : Nat) (tval : Option Nat)
    (n : Nat) : (s.coreTrap l c cause pc tval).task l n = s.task l n := by
  have hpriv : (s.core l c).priv ≠ .u := by simp [h]
  simp [State.coreTrap, State.afterTrap, hpriv, State.task, wcIssue_rt]

/-! ### The kernel takes the trap of a task (R206; 05 R159) -/

/-- Core `c` of lane `l`, as `k` in machine mode, takes an exception. -/
def State.kernelTrap (s : State) (l : LaneId) (c : Nat) (k : CoreState) (cause pc : Nat) (tval : Option Nat) : State :=
  (s.coreSet l c { k with priv := .m }).coreTrap l c cause pc tval

section
variable (s : State) (l : LaneId) (c : Nat) (k : CoreState) (cause pc : Nat) (tval : Option Nat)

theorem LaneOnly.kernelTrap : LaneOnly l s (s.kernelTrap l c k cause pc tval) := (LaneOnly.coreSet ..).trans (.coreTrap ..)

@[simp] theorem core_kernelTrap :
    (s.kernelTrap l c k cause pc tval).core l c = { k with trap := some ⟨cause, pc, tval⟩, priv := .m, resv := none } := by
  rw [State.kernelTrap, core_coreTrap, State.core_coreSet_same, takeTrap]

@[simp] theorem task_kernelTrap (n : Nat) : (s.kernelTrap l c k cause pc tval).task l n = s.task l n := by
  rw [State.kernelTrap, task_coreTrap_machine (by simp), State.task_coreSet]

end

theorem exec_taskTrap {s : State} {l : LaneId} {c task : Nat} {d : TaskDecl} (cause pc : Nat) (tval : Option Nat)
    (hs : s.ticking l = true) (hc : c < 4) (hd : s.decl l task = some d) : exec (.taskTrap l c task cause pc tval) s =
      .next ((s.kernelTrap l c (s.core l c) cause pc tval).taskSet l task
        (if d.safe then { s.task l task with failed := true } else { s.task l task with ended := true })) := by
  show execTaskTrap l c task cause pc tval s = _
  rw [← task_kernelTrap s l c (s.core l c) cause pc tval task, execTaskTrap, if_neg (by simp [hs]; omega), hd]
  cases hsafe : d.safe
  case false => exact if_neg (by simp [hsafe])
  case true => exact if_pos hsafe

theorem exec_encodedPassIllegal {s : State} {l : LaneId} {c : Nat} (pc task : Nat) (hs : (s.lane l).supplied = true) (hc : c < 4)
    (hpass : cf l (s.core l c) CDA_CTL_PASS = 1) : exec (.encodedPassIllegal l c pc task) s =
      .next ((s.kernelTrap l c (setFault l (s.core l c) cdIll pc) 2 pc none).taskFail l task) := by
  show execEncodedPassIllegal l c pc task s = _
  exact if_pos (by simp [coreUp_of hs (show c < 5 by omega), hc, hpass])

/-- The fault recorded in the encoded pass is ILL, bit 5 of CDA_FAULT (05 R166). -/
theorem bitOf_cdaFault_ill (l : LaneId) (k : CoreState) (pc : Nat) :
    bitOf (cf l (setFault l k cdIll pc) CDA_FAULT) 5 = true := by
  obtain ⟨hfault, -⟩ := cf_setFault l k (bits := cdIll) pc (by decide) (by decide)
  rw [hfault, bitOf_nOr, show bitOf cdIll 5 = true from rfl, Bool.or_true]

/-! ### A station times out (R225) -/

theorem station_stationSet_other (s : State) (l : LaneId) {n k : Nat} (r : StationRec) (h : k ≠ n) :
    (s.stationSet l n r).station l k = s.station l k := by
  simp [State.station, State.stationSet, mapGet_mapSet_other _ _ _ h]

theorem exec_stationTimeout {s : State} {l : LaneId} {st : Nat} (hs : s.ticking l = true) (hlo : 1 ≤ st) (hhi : st ≤ 255)
    (hfresh : (s.station l st).fresh = false) (hage : s.stationTimeout st ≤ (s.station l st).age) :
    exec (.stationTimeout l st) s = .next (s.stationSet l st (staleRec (s.station l st))) := by
  show execStationTimeout l st s = _
  exact if_pos (by simp [hs, hlo, hhi, hfresh, hage])

/-- Settles O7: both traps are the kernel's exception followed by the task's record, and a station's timeout replaces its record. -/
theorem trapsAndStationTimeouts : Obligations.TrapsAndStationTimeouts := by
  unfold Obligations.TrapsAndStationTimeouts
  refine ⟨fun s l c task hc => ⟨fun hs cause pc tval d hd => ?_, fun hs hpass pc => ?_⟩, fun s l st hs hlo hhi hfresh hage => ?_⟩
  · refine ⟨_, exec_taskTrap cause pc tval hs hc hd, by simp, fun hsafe => ?_, fun hsafe => ?_,
      (LaneOnly.kernelTrap ..).trans (.taskSet ..)⟩
    · simp [hsafe]
    · simp [hsafe]
  · refine ⟨_, exec_encodedPassIllegal pc task hs hc hpass, by simp [State.taskFail], ?_, by simp [State.taskFail],
      (LaneOnly.kernelTrap ..).trans (.taskSet ..)⟩
    rw [State.taskFail, State.core_taskSet, core_kernelTrap]
    exact bitOf_cdaFault_ill l (s.core l c) pc
  · exact ⟨_, exec_stationTimeout hs hlo hhi hfresh hage, State.station_stationSet_same .., fun k hk => station_stationSet_other s l _ hk,
      .stationSet ..⟩

/-! ### A durable report (R219) -/

/-- A report of frame `q` by lane `l` makes it Q: another lane has reported it, and it is not older than a Q that stands. -/
def KeepAlive.makesQ (ka : KeepAlive) (l : LaneId) (q : Nat) : Bool :=
  ka.reported.any (fun p => p.1 ≠ l.idx && p.2 == q) && (!ka.commitFlag || frameGe q ka.q)

/-- What the report of frame `q` by lane `l`, with the identity and layout of its commit, makes of the keep-alive domain. -/
structure ReportTaken (l : LaneId) (q : Nat) (id : List Byte) (layout : Nat) (ka ka' : KeepAlive) : Prop where
  durable : ka'.durable = mapInsert (mapErase ka.durable l.idx) l.idx q
  newQ : ka.makesQ l q = true → ka'.q = q ∧ ka'.commitFlag = true ∧ ka'.commitId = padTo 16 id ∧ ka'.commitLayout = layout
  sameQ : ka.makesQ l q = false → ka'.q = ka.q ∧ ka'.commitFlag = ka.commitFlag ∧
    (ka.commitFlag = false → (l.idx, q) ∈ ka'.reported)

theorem exec_durableReport {s : State} (l : LaneId) (q : Nat) (id : List Byte) (layout : Nat) (hs : s.sup.supplied = true) :
    ∃ ka', exec (.durableReport l q id layout) s = .next { s with sup := { s.sup with ka := ka' } } ∧
      ReportTaken l q id layout s.sup.ka ka' := by
  refine ⟨_, if_neg (by simp [hs]), ?_⟩
  change ReportTaken l q id layout s.sup.ka (if s.sup.ka.makesQ l q then _ else _)
  split
  case isTrue hq => exact ⟨rfl, fun _ => ⟨rfl, rfl, rfl, rfl⟩, fun h => by simp [hq] at h⟩
  case isFalse hq =>
    refine ⟨rfl, fun h => absurd h hq, fun _ => ⟨rfl, rfl, fun hflag => ?_⟩⟩
    refine List.mem_filter.2 ⟨List.mem_cons_self, ?_⟩
    change (!(s.sup.ka.makesQ l q || s.sup.ka.commitFlag) || _) = true
    simp [hq, hflag]

theorem makesQ_of_second {ka : KeepAlive} {l : LaneId} {q : Nat} (htwo : ∃ p ∈ ka.reported, p.1 ≠ l.idx ∧ p.2 = q)
    (hnew : ka.commitFlag = false ∨ frameGe q ka.q = true) : ka.makesQ l q = true := by
  have htwo : ka.reported.any (fun p => p.1 ≠ l.idx && p.2 == q) = true := by simpa using htwo
  have hnew : (!ka.commitFlag || frameGe q ka.q) = true := by simpa using hnew
  rw [KeepAlive.makesQ, htwo, hnew, Bool.and_true]

theorem makesQ_of_first {ka : KeepAlive} {l : LaneId} {q : Nat} (h : ∀ p ∈ ka.reported, p.1 = l.idx ∨ p.2 ≠ q) :
    ka.makesQ l q = false := by
  have hone : ka.reported.any (fun p => p.1 ≠ l.idx && p.2 == q) = false := by
    refine List.any_eq_false.2 fun p hp => ?_
    rcases h p hp with hlane | hframe
    · simp [hlane]
    · simp [hframe]
  rw [KeepAlive.makesQ, hone, Bool.false_and]

/-- Settles O24: the report is put down as its lane's last, and makes Q when another lane has reported the frame before. -/
theorem durableReportsFormQ : Obligations.DurableReportsFormQ := by
  unfold Obligations.DurableReportsFormQ
  intro s l q id layout hs
  obtain ⟨ka', hexec, hdurable, hnewQ, hsameQ⟩ := exec_durableReport l q id layout hs
  refine ⟨_, hexec, ?_, fun k hk => ?_, fun htwo hnew => hnewQ (makesQ_of_second htwo hnew), fun h => hsameQ (makesQ_of_first h), rfl⟩
  · simp [hdurable]
  · have hidx : k.idx ≠ l.idx := fun he => hk (by rw [← laneOf_idx k, he, laneOf_idx])
    simp [hdurable, mapFind_put_other _ _ hidx]

end Sys2Proof.Machine

/-! Firmware installed in service: gate messages and switch records, lane by lane the installation and its revert, and the restart of
the hub's management cores (08 R235, R236, R245 to R247). -/

namespace Sys2Proof.Machine

-- One theorem after the other, as the model's tests: elaborated side by side they would exceed the check's memory limit.
set_option Elab.async false

/-! ### Gate messages and switch records (R235, R236) -/

theorem gateOk_iff {b : List Byte} :
    gateOk b = true ↔ b.length = 32 ∧ leAt b 28 4 = crc32c (b.take 28) ∧ leAt b 26 2 = 0 ∧ leAt b 6 2 = 0 := by
  simp [gateOk, and_assoc]

theorem exec_gateMessageReceive_message {l : LaneId} {b : List Byte} (s : State) (hok : gateOk b = true) (hlo : 1 ≤ byteAt b 25)
    (hhi : byteAt b 25 ≤ 3) (hlane : byteAt b 24 = l.idx) : exec (.gateMessageReceive l b) s = .next (s.gateKeep l b) := by
  show execGateMessageReceive l b s = _
  rw [execGateMessageReceive, if_neg (by simp [hok]), if_pos ⟨hlo, hhi, hlane⟩]

theorem exec_gateMessageReceive_record {b : List Byte} (l : LaneId) (s : State) (hok : gateOk b = true)
    (hkind : byteAt b 25 = 0x10 ∨ byteAt b 25 = 0x11) : exec (.gateMessageReceive l b) s = .next (s.gateRead l b) := by
  show execGateMessageReceive l b s = _
  rw [execGateMessageReceive, if_neg (by simp [hok]), if_neg (by omega), if_pos hkind]

/-- A message that is not well formed, of another lane than the link's, or of a KIND without a meaning, is dropped. -/
theorem exec_gateMessageReceive_dropped {l : LaneId} {b : List Byte} (s : State)
    (h : gateOk b = true → (byteAt b 24 = l.idx → byteAt b 25 = 0 ∨ 3 < byteAt b 25) ∧ byteAt b 25 ≠ 0x10 ∧ byteAt b 25 ≠ 0x11) :
    exec (.gateMessageReceive l b) s = .next s := by
  show execGateMessageReceive l b s = _
  rw [execGateMessageReceive]
  cases hok : gateOk b with
  | false => rfl
  | true =>
    obtain ⟨hmessage, hgo, hnogo⟩ := h hok
    rw [if_neg (by simp), if_neg fun ⟨hlo, hhi, hlane⟩ => by have := hmessage hlane; omega, if_neg (by simp [hgo, hnogo])]

theorem gateRead_eq (s : State) (l : LaneId) (b : List Byte) : s.gateRead l b =
    if s.ticking l = true ∧ s.rack.switchFrame = some (leAt b 0 6) ∧ frameAdd (s.frame l) 1 = leAt b 0 6 ∧
      slice b 8 16 = padTo 16 s.rack.stagedId
    then s.updLane l (fun x => { x with switchRec := some (byteAt b 25 == 0x10) }) else s := by
  simp [State.gateRead, and_assoc]

/-! ### A lane restarts at S0 -/

/-- What every step of a fold leaves, the fold leaves. -/
theorem foldl_keeps {α β : Type} (p : State → β) {f : State → α → State} (h : ∀ s x, p (f s x) = p s) (xs : List α) (s : State) :
    p (xs.foldl f s) = p s := by
  induction xs generalizing s with
  | nil => rfl
  | cons x xs ih => rw [List.foldl_cons, ih, h]

theorem pdeLaneOff_racking (s : State) (l : LaneId) : (s.pdeLaneOff l).rack = s.rack ∧ (s.pdeLaneOff l).sup = s.sup := by
  rw [← Prod.mk.injEq]
  unfold State.pdeLaneOff
  split
  · rfl
  · rw [foldl_keeps fun s : State => (s.rack, s.sup), foldl_keeps fun s : State => (s.rack, s.sup)]
    · intro s c
      split <;> simp [State.pdeStateSet]
    · intro s q
      split <;> simp

theorem kaSet_lastFrame_racking (s : State) (n : Nat) : (s.kaSet fun k => { k with lastFrame := n }).rack = s.rack ∧
    (s.kaSet fun k => { k with lastFrame := n }).sup.ka.sel = s.sup.ka.sel := ⟨rfl, rfl⟩

theorem noteFrame_racking (s : State) (l : LaneId) :
    (s.noteFrame l).rack = s.rack ∧ (s.noteFrame l).sup.ka.sel = s.sup.ka.sel := by
  unfold State.noteFrame
  split
  · exact kaSet_lastFrame_racking s (frameMax s.sup.ka.lastFrame (s.frame l))
  · exact ⟨rfl, rfl⟩

theorem linksDown_racking (s : State) (l : LaneId) : (s.linksDown l).rack = s.rack ∧ (s.linksDown l).sup = s.sup :=
  ⟨(State.lfSet_rack ..).trans (State.lfSet_rack ..), (State.lfSet_sup ..).trans (State.lfSet_sup ..)⟩

/-- A lane that loses its supply leaves the racking and the boot selectors as they are. -/
theorem lanePowerOff_racking (s : State) (l : LaneId) :
    (s.lanePowerOff l).rack = s.rack ∧ (s.lanePowerOff l).sup.ka.sel = s.sup.ka.sel := by
  rw [State.lanePowerOff, State.setLane_rack, State.setLane_sup]
  simp only [pdeLaneOff_racking, linksDown_racking, noteFrame_racking, and_self]

theorem laneRestart_racking (s : State) (l : LaneId) :
    (s.laneRestart l 0).rack = s.rack ∧ (s.laneRestart l 0).sup.ka.sel = s.sup.ka.sel := by
  rw [laneRestart_eq, if_neg (by decide)]
  simp [State.laneRepowered, State.powerLane, lanePowerOff_racking]

/-! ### A revert begins (R247) -/

/-- The hub's selector names the committed bank again, and the revert of lane `first` is recorded with its code. -/
def State.revertNoted (s : State) (first code : Nat) : State :=
  ((s.setSel 3 s.sup.ka.fwBank).rackCode code).supEvt 0x8024 [(1, first), (1, code)]

/-- The installation stands at `i`, and 0x1160 shows `state`. -/
def State.installAt (s : State) (state : Nat) (i : Option Install) : State :=
  { s with rack := { s.rack with state := state, install := i } }

@[simp] theorem installAt_rack (s : State) (state : Nat) (i : Option Install) :
    (s.installAt state i).rack = { s.rack with state := state, install := i } := rfl

@[simp] theorem installAt_sup (s : State) (state : Nat) (i : Option Install) : (s.installAt state i).sup = s.sup := rfl

@[simp] theorem installAt_lane (s : State) (state : Nat) (i : Option Install) (k : LaneId) : (s.installAt state i).lane k = s.lane k := by
  cases k <;> rfl

/-- Lane `f`, already out, restarts from the committed bank as the first of installation `i`. -/
def State.firstReturned (s : State) (f : Nat) (i : Install) : State :=
  let t := (s.setSel f s.sup.ka.fwBank).laneRestart (laneOf f) 0
  { t with rack := { t.rack with install := some { i with left := true, removed := t.sup.frame } } }

theorem beginRevert_of_none {s : State} {first : Nat} (code : Nat) (out : Bool) (h : s.revertLanes (some first) = []) :
    s.beginRevert first code out = (s.revertNoted first code).installAt 2 none := by
  simp only [State.beginRevert, h]
  rfl

theorem beginRevert_of_lanes {s : State} {first f : Nat} {ls : List Nat} (code : Nat) (out : Bool)
    (h : s.revertLanes (some first) = f :: ls) : s.beginRevert first code out =
      let i : Install := { lanes := f :: ls, revert := true }
      let u := (s.revertNoted first code).installAt 8 (some i)
      if out && f = first then u.firstReturned f i else u := by
  simp only [State.beginRevert, h]
  rfl

theorem revertNoted_racking (s : State) (first code : Nat) :
    (s.revertNoted first code).rack = { s.rack with code := code } ∧
      (s.revertNoted first code).sup.ka = { s.sup.ka with sel := mapSet 0 s.sup.ka.sel 3 s.sup.ka.fwBank } ∧
      (s.revertNoted first code).sup.frame = s.sup.frame := by
  simp [State.revertNoted, State.rackCode, State.setSel]

@[simp] theorem revertNoted_rt (s : State) (first code : Nat) (k : LaneId) :
    ((s.revertNoted first code).lane k).rt = (s.lane k).rt := by
  rw [State.revertNoted, State.supEvt_lane_rt]
  cases k <;> rfl

/-- State `t` is `s` after the beginning of a revert with its code: the lanes return one by one, or none has to. -/
structure RevertBegun (code : Nat) (s t : State) : Prop where
  code : t.rack.code = code
  hubSel : mapGet 0 t.sup.ka.sel 3 = s.sup.ka.fwBank
  state : t.rack.state = 8 ∨ t.rack.state = 2

theorem installAt_revertBegun {st : Nat} (s : State) (first code : Nat) (i : Option Install) (hst : st = 8 ∨ st = 2) :
    RevertBegun code s ((s.revertNoted first code).installAt st i) := by
  obtain ⟨hrack, hka, -⟩ := revertNoted_racking s first code
  exact ⟨by simp [hrack], by simp [hka], hst⟩

theorem RevertBegun.firstReturned {s t : State} {code f : Nat} (h : RevertBegun code s t) (i : Install) (hf : f < 3) :
    RevertBegun code s (t.firstReturned f i) := by
  obtain ⟨hrack, hsel⟩ := laneRestart_racking (t.setSel f t.sup.ka.fwBank) (laneOf f)
  constructor
  · exact (congrArg Rack.code hrack).trans h.code
  · refine (congrArg (mapGet 0 · 3) hsel).trans (.trans ?_ h.hubSel)
    exact mapGet_mapSet_other _ _ _ (by omega)
  · have hstate := congrArg Rack.state hrack
    exact h.state.imp hstate.trans hstate.trans

/-- With the lane still in the vote, nothing happens to it yet. -/
theorem beginRevert_in (s : State) (first code : Nat) :
    ∃ st i, (st = 8 ∨ st = 2) ∧ s.beginRevert first code false = (s.revertNoted first code).installAt st i := by
  cases h : s.revertLanes (some first) with
  | nil => exact ⟨2, none, .inr rfl, beginRevert_of_none code false h⟩
  | cons f ls => exact ⟨8, _, .inl rfl, beginRevert_of_lanes code false h⟩

theorem beginRevert_out (s : State) {first : Nat} (code : Nat) (hf : first < 3) : RevertBegun code s (s.beginRevert first code true) := by
  cases h : s.revertLanes (some first) with
  | nil =>
    rw [beginRevert_of_none code true h]
    exact installAt_revertBegun s first code none (.inr rfl)
  | cons f ls =>
    rw [beginRevert_of_lanes code true h]
    have hnoted := installAt_revertBegun s first code (some { lanes := f :: ls, revert := true }) (.inl rfl)
    dsimp only
    split
    next hfirst => exact hnoted.firstReturned _ (by simp at hfirst; omega)
    next => exact hnoted

/-! ### The next lane, and its time limit (R245, R247) -/

/-- Lane `f` is asked to leave the vote, to start from the bank that is being installed, or from the committed one on its return. -/
def State.laneLeaves (s : State) (f : Nat) (revert : Bool) : State :=
  let bank := if revert then s.sup.ka.fwBank else s.stagedFwBank
  let u := s.setSel f bank
  let u := if revert then u else u.supEvt 0x8020 [(1, f), (1, bank)]
  let u := { u with rack := { u.rack with state := if revert then 8 else 4 + f } }
  u.updLane (laneOf f) (fun x => { x with rt := { x.rt with leave := true } })

section
variable (s : State) (f : Nat) (revert : Bool)

theorem laneLeaves_rack : (s.laneLeaves f revert).rack = { s.rack with state := if revert then 8 else 4 + f } := by
  cases revert <;> simp [State.laneLeaves, State.setSel]

theorem laneLeaves_sel :
    mapGet 0 (s.laneLeaves f revert).sup.ka.sel f = if revert then s.sup.ka.fwBank else s.stagedFwBank := by
  cases revert <;> simp [State.laneLeaves, State.setSel]

theorem laneLeaves_leave : ((s.laneLeaves f revert).lane (laneOf f)).rt.leave = true := by
  simp [State.laneLeaves]

theorem setSel_lane (i bank : Nat) (k : LaneId) : (s.setSel i bank).lane k = s.lane k := by cases k <;> rfl

theorem laneLeaves_other {k : LaneId} (hk : k ≠ laneOf f) : ((s.laneLeaves f revert).lane k).rt = (s.lane k).rt := by
  rw [State.laneLeaves, State.updLane_lane, if_neg hk]
  cases revert with
  | false => exact (State.supEvt_lane_rt ..).trans (congrArg Lane.rt (setSel_lane ..))
  | true => exact congrArg Lane.rt (setSel_lane s f s.sup.ka.fwBank k)

end

section
variable {s : State} {n : Install} {f : Nat} {rest : List Nat} (hinst : s.rack.install = some n) (hlanes : n.lanes = f :: rest)
include hinst hlanes

/-- The lane's turn has not come. -/
theorem exec_installNextLane_waits
    (h : n.left = true ∨ s.md.mode ≠ .safe3 ∨ s.realigning = true ∨ s.inVote (laneOf f) = false) :
    exec .installNextLane s = .next s := by
  show execInstallNextLane s = _
  simp only [execInstallNextLane, hinst, hlanes]
  refine if_pos ?_
  rcases h with h | h | h | h <;> simp [h]

section
variable (hleft : n.left = false) (hmode : s.md.mode = .safe3) (hrealign : s.realigning = false) (hvote : s.inVote (laneOf f) = true)
  (hspaced : s.rack.lastJoin = 0 ∨ (s.framesOf (s.obj 0x1162 2) : Int) ≤ frameDiff s.sup.frame s.rack.lastJoin)
include hleft hmode hrealign hvote hspaced

/-- The lane's turn has come. -/
theorem exec_installNextLane_turn : exec .installNextLane s =
    .next (if n.aborting && !n.revert then s.beginRevert f 0x12 false else s.laneLeaves f n.revert) := by
  show execInstallNextLane s = _
  simp only [execInstallNextLane, hinst, hlanes]
  refine (if_neg ?_).trans (apply_ite Host.Outcome.next _ _ _).symm
  simpa [hleft, hmode, hrealign, hvote] using fun h => hspaced.resolve_right (Int.not_le.2 h)

theorem exec_installNextLane_leaves (hgo : n.aborting = false ∨ n.revert = true) :
    exec .installNextLane s = .next (s.laneLeaves f n.revert) := by
  rw [exec_installNextLane_turn hinst hlanes hleft hmode hrealign hvote hspaced, if_neg]
  rcases hgo with h | h <;> simp [h]

/-- The lane of an aborted installation is asked to leave no more: the revert begins with it. -/
theorem exec_installNextLane_aborts (habort : n.aborting = true) (hrevert : n.revert = false) :
    exec .installNextLane s = .next (s.beginRevert f 0x12 false) := by
  rw [exec_installNextLane_turn hinst hlanes hleft hmode hrealign hvote hspaced, if_pos (by simp [habort, hrevert])]

end

theorem exec_installAdmitTimeout_waits
    (h : n.left = false ∨ s.framesMs (frameDiff s.sup.frame n.removed).toNat < s.obj 0x1162 1) :
    exec .installAdmitTimeout s = .next s := by
  show execInstallAdmitTimeout s = _
  simp only [execInstallAdmitTimeout, hinst, hlanes]
  refine if_pos ?_
  rcases h with h | h <;> simp [h]

theorem exec_installAdmitTimeout_late (hleft : n.left = true)
    (hlate : s.obj 0x1162 1 ≤ s.framesMs (frameDiff s.sup.frame n.removed).toNat) :
    exec .installAdmitTimeout s =
      if n.revert then
        .next (s.installAt (if rest = [] then 2 else 8) (if rest = [] then none else some { n with lanes := rest, left := false }))
      else .next (s.beginRevert f 0x10 true) := by
  show execInstallAdmitTimeout s = _
  simp only [execInstallAdmitTimeout, hinst, hlanes]
  exact if_neg (by simp [hleft, hlate])

end

/-! ### What the hub's restart leaves (R246; 13 R369) -/

/-- The racking, the keep-alive domain and the hub firmware's bank are in `t` as in `s`. -/
structure FirmwareKept (s t : State) : Prop where
  rack : t.rack = s.rack
  ka : t.sup.ka = s.sup.ka
  bank : t.hub.bank = s.hub.bank
  mgmtUp : t.hub.mgmtUp = s.hub.mgmtUp

theorem EventOnly.firmwareKept {s t : State} (h : EventOnly s t) : FirmwareKept s t :=
  ⟨h.rack, by rw [h.sup], by rw [h.hub], by rw [h.hub]⟩

namespace FirmwareKept

variable {s t u : State}

theorem refl (s : State) : FirmwareKept s s := ⟨rfl, rfl, rfl, rfl⟩

theorem trans (h : FirmwareKept s t) (g : FirmwareKept t u) : FirmwareKept s u :=
  ⟨g.rack.trans h.rack, g.ka.trans h.ka, g.bank.trans h.bank, g.mgmtUp.trans h.mgmtUp⟩

theorem ite {c : Prop} [Decidable c] (h : FirmwareKept s t) (g : FirmwareKept s u) : FirmwareKept s (if c then t else u) := by
  split
  · exact h
  · exact g

theorem hfSet {f : Fld} {x : Nat} (h : FirmwareKept s t) : FirmwareKept s (t.hfSet f x) := h.trans ⟨by simp, by simp, by simp, by simp⟩

theorem hubEvt {code : Nat} {parts : List (Nat × Nat)} (h : FirmwareKept s t) : FirmwareKept s (t.hubEvt code parts) :=
  h.trans (hubEvt_eventOnly t code parts).firmwareKept

theorem supEvt {code : Nat} {parts : List (Nat × Nat)} (h : FirmwareKept s t) : FirmwareKept s (t.supEvt code parts) :=
  h.trans (supEvt_eventOnly t code parts).firmwareKept

theorem tbState {n cause : Nat} (h : FirmwareKept s t) : FirmwareKept s (t.tbState n cause) := by
  refine .ite h (.ite (.hubEvt (.hfSet ?_)) ?_)
  · exact .ite h.hfSet.hfSet.hubEvt h.hfSet
  · exact .ite h.hfSet.hfSet.hubEvt h.hfSet

theorem tbRestart (h : FirmwareKept s t) : FirmwareKept s t.tbRestart :=
  .ite h (.tbState (h.trans ⟨rfl, rfl, rfl, rfl⟩))

theorem tbRunning (h : FirmwareKept s t) : FirmwareKept s t.tbRunning := .ite h.tbState h

end FirmwareKept

/-! ### The hub's restart begins, succeeds or fails (R246, R247) -/

/-- The management cores restart from `bank`, and the lanes' reports are counted anew. -/
theorem beginHubRestart_begun (s : State) (bank : Nat) :
    (s.beginHubRestart bank).rack = { s.rack with state := 7, hubRestart := some s.sup.frame, hubReports := 0 } ∧
      (s.beginHubRestart bank).hub.bank = bank ∧ (s.beginHubRestart bank).hub.mgmtUp = false := by
  have hdecant := decantEnd_eventOnly s 6
  have hkept : FirmwareKept _ (s.beginHubRestart bank) := .supEvt (.tbRestart (.refl _))
  refine ⟨hkept.rack.trans ?_, hkept.bank, hkept.mgmtUp⟩
  rw [hdecant.rack, hdecant.sup]

/-- `s` once two members have reported the hub firmware, which began to restart at frame `f`. -/
def State.hubRunning (s : State) (f : Nat) : State :=
  let u := s.supEvt 0x8023 [(4, s.framesMs (frameDiff s.sup.frame f).toNat)]
  ({ u with rack := { u.rack with hubRestart := none }, hub := { u.hub with mgmtUp := true } } : State).tbRunning

/-- The bank that the hub runs from is the committed one, and the installation has ended. -/
def State.bankCommitted (s : State) : State :=
  let b := (mapFind s.store.fw s.hub.bank).getD []
  let u := { s with sup := { s.sup with ka := { s.sup.ka with fwBank := s.hub.bank } } }
  let u := (u.setSel 3 u.hub.bank).storedSet 0x1163 5 (leBytes 2 (leAt b 18 2))
  let u := { u with rack := { u.rack with state := 0, staged := false, kind := 0, lanes := [], install := none } }
  u.supEvt 0x8025 [(8, leNat ((imgId b).take 8)), (2, leAt b 18 2)]

theorem hubRunning_kept (s : State) (f : Nat) : FirmwareKept
    { s with rack := { s.rack with hubRestart := none }, hub := { s.hub with mgmtUp := true } } (s.hubRunning f) :=
  .tbRunning ⟨by simp, by simp, by simp, rfl⟩

/-- Two members have reported the firmware running. -/
structure HubRuns (s t : State) : Prop where
  restart : t.rack.hubRestart = none
  up : t.hub.mgmtUp = true
  bank : t.hub.bank = s.hub.bank

/-- The bank that the hub has started from is the committed one, and the installation has ended. -/
structure BankCommitted (s t : State) : Prop where
  fwBank : t.sup.ka.fwBank = s.hub.bank
  install : t.rack.install = none
  state : t.rack.state = 0
  staged : t.rack.staged = false

theorem bankCommitted_racking (s : State) :
    s.bankCommitted.rack = { s.rack with state := 0, staged := false, kind := 0, lanes := [], install := none } ∧
      s.bankCommitted.hub = s.hub ∧ s.bankCommitted.sup.ka.fwBank = s.hub.bank := by
  simp [State.bankCommitted, State.setSel]

theorem HubRuns.bankCommitted {s t : State} (h : HubRuns s t) : HubRuns s t.bankCommitted ∧ BankCommitted s t.bankCommitted := by
  obtain ⟨hrack, hhub, hfw⟩ := bankCommitted_racking t
  constructor
  · exact ⟨by rw [hrack]; exact h.restart, by rw [hhub, h.up], by rw [hhub, h.bank]⟩
  · exact ⟨by rw [hfw, h.bank], by rw [hrack], by rw [hrack], by rw [hrack]⟩

/-- `s` with `reports` as the lanes that have reported the hub firmware. -/
def State.withReports (s : State) (reports : Nat) : State := { s with rack := { s.rack with hubReports := reports } }

theorem withReports_hubRunning_runs (s : State) (reports f : Nat) : HubRuns s ((s.withReports reports).hubRunning f) := by
  have h := hubRunning_kept (s.withReports reports) f
  exact ⟨by rw [h.rack], by rw [h.mgmtUp], h.bank⟩

section
variable {s : State} {l : LaneId} {g : Nat} (hrestart : s.rack.hubRestart = some g) (hvote : s.inVote l = true)
include hrestart hvote

theorem exec_hubRunningReport_first (hfew : laneSetCount (nOr s.rack.hubReports (2 ^ l.idx)) < 2) :
    exec (.hubRunningReport l) s = .next (s.withReports (nOr s.rack.hubReports (2 ^ l.idx))) := by
  show execHubRunningReport l s = _
  simp only [execHubRunningReport, State.withReports, hrestart, hvote, if_true]
  exact if_pos hfew

/-- With two members' reports the hub runs, and the bank is committed when it is the staged one of an installation. -/
theorem exec_hubRunningReport_second (htwo : 2 ≤ laneSetCount (nOr s.rack.hubReports (2 ^ l.idx))) :
    exec (.hubRunningReport l) s =
      let t := (s.withReports (nOr s.rack.hubReports (2 ^ l.idx))).hubRunning g
      if s.hub.bank = s.stagedFwBank && s.rack.install.isSome then .next t.bankCommitted else .next t := by
  have hkept := hubRunning_kept (s.withReports (nOr s.rack.hubReports (2 ^ l.idx))) g
  rw [show s.rack.install = _ from (congrArg Rack.install hkept.rack).symm, show s.hub.bank = _ from hkept.bank.symm,
    State.stagedFwBank, show s.sup.ka = _ from hkept.ka.symm]
  show execHubRunningReport l s = _
  simp only [execHubRunningReport, State.withReports, hrestart, hvote, if_true]
  exact if_neg (Nat.not_lt.2 htwo)

theorem exec_hubRunningReport_completes (htwo : 2 ≤ laneSetCount (nOr s.rack.hubReports (2 ^ l.idx))) :
    ∃ t, exec (.hubRunningReport l) s = .next t ∧ t.rack.hubRestart = none ∧ t.hub.mgmtUp = true ∧ t.hub.bank = s.hub.bank ∧
      (s.hub.bank = s.stagedFwBank → s.rack.install.isSome = true → BankCommitted s t) ∧
      (s.hub.bank ≠ s.stagedFwBank ∨ s.rack.install = none → t.sup.ka = s.sup.ka ∧ t.rack.install = s.rack.install ∧
        t.rack.state = s.rack.state) := by
  rw [exec_hubRunningReport_second hrestart hvote htwo]
  have hruns := withReports_hubRunning_runs s (nOr s.rack.hubReports (2 ^ l.idx)) g
  have hkept := hubRunning_kept (s.withReports (nOr s.rack.hubReports (2 ^ l.idx))) g
  dsimp only
  split
  next hcommit =>
    obtain ⟨⟨hnone, hup, hbank⟩, hcommitted⟩ := hruns.bankCommitted
    exact ⟨_, rfl, hnone, hup, hbank, fun _ _ => hcommitted, fun hother => by rcases hother with h | h <;> simp [h] at hcommit⟩
  next hother =>
    obtain ⟨hnone, hup, hbank⟩ := hruns
    exact ⟨_, rfl, hnone, hup, hbank, fun h h' => absurd (by simp [h, h']) hother,
      fun _ => ⟨hkept.ka, (congrArg Rack.install hkept.rack :), (congrArg Rack.state hkept.rack :)⟩⟩

end

/-! ### The hub does not start in time (R246, R247) -/

/-- `s` with one more failed restart of the hub recorded. -/
def State.hubFailed (s : State) : State :=
  let u := s.supEvt 0x8026 [(4, s.rack.hubFails + 1)]
  { u with rack := { u.rack with hubFails := s.rack.hubFails + 1, hubRestart := none } }

theorem hubFailed_racking (s : State) : s.hubFailed.rack = { s.rack with hubFails := s.rack.hubFails + 1, hubRestart := none } ∧
    s.hubFailed.sup.ka = s.sup.ka ∧ s.hubFailed.sup.frame = s.sup.frame ∧ s.hubFailed.store = s.store := by
  simp [State.hubFailed]

theorem exec_hubRestartTimeout_waits {s : State} {g : Nat} (hrestart : s.rack.hubRestart = some g)
    (hsoon : s.framesMs (frameDiff s.sup.frame g).toNat < 2000) : exec .hubRestartTimeout s = .next s := by
  show execHubRestartTimeout s = _
  simp only [execHubRestartTimeout, hrestart]
  exact if_pos hsoon

section
variable {s : State} {g : Nat} (hrestart : s.rack.hubRestart = some g)
  (hlate : 2000 ≤ s.framesMs (frameDiff s.sup.frame g).toNat)
include hrestart hlate

theorem exec_hubRestartTimeout_late :
    exec .hubRestartTimeout s =
      if s.rack.hubFails + 1 = 1 then
        let v := s.hubFailed.beginRevert 0 0x11 false
        let w := v.beginHubRestart v.sup.ka.fwBank
        .next { w with rack := { w.rack with state := v.rack.state } }
      else .next { s.hubFailed with rack := { s.hubFailed.rack with hubStopped := true } } := by
  show execHubRestartTimeout s = _
  simp only [execHubRestartTimeout, hrestart]
  exact if_neg (Nat.not_lt.2 hlate)

/-- The first failure begins a revert, and the hub restarts from the committed bank. -/
theorem exec_hubRestartTimeout_first (hfails : s.rack.hubFails = 0) :
    ∃ t, exec .hubRestartTimeout s = .next t ∧ t.rack.hubFails = 1 ∧ t.rack.code = 0x11 ∧ t.hub.bank = s.sup.ka.fwBank ∧
      t.hub.mgmtUp = false ∧ t.rack.hubRestart = some s.sup.frame := by
  obtain ⟨hfailed, hka, hframe, -⟩ := hubFailed_racking s
  obtain ⟨hnoted, hkaNoted, hframeNoted⟩ := revertNoted_racking s.hubFailed 0 0x11
  obtain ⟨st, i, -, hrevert⟩ := beginRevert_in s.hubFailed 0 0x11
  rw [exec_hubRestartTimeout_late hrestart hlate, if_pos (by omega), hrevert]
  refine ⟨_, rfl, ?_, ?_, ?_, ?_, ?_⟩
  · simp [beginHubRestart_begun, hnoted, hfailed, hfails]
  · simp [beginHubRestart_begun, hnoted]
  · simp [beginHubRestart_begun, hkaNoted, hka]
  · simp [beginHubRestart_begun]
  · simp [beginHubRestart_begun, hframeNoted, hframe]

/-- A further failure leaves the management cores stopped. -/
theorem exec_hubRestartTimeout_again (hfails : 0 < s.rack.hubFails) :
    ∃ t, exec .hubRestartTimeout s = .next t ∧ t.rack.hubStopped = true ∧ t.rack.hubRestart = none ∧ t.store = s.store := by
  obtain ⟨hfailed, -, -, hstore⟩ := hubFailed_racking s
  rw [exec_hubRestartTimeout_late hrestart hlate, if_neg (by omega)]
  exact ⟨_, rfl, rfl, by rw [hfailed], hstore⟩

end

/-! ### The statement -/

/-- Settles O52: each command by what it finds; the revert that the abort and the two time limits begin is followed once, in
`revertNoted`, and the hub's restart once, in `FirmwareKept`. -/
theorem installationInService : Obligations.InstallationInService := by
  unfold Obligations.InstallationInService
  refine fun s => ⟨?_, ?_, ?_, ?_, ?_, ?_⟩
  · intro l msg kind hsup hlen hcrc hlane hkind hlo hhi hres hframe
    refine ⟨_, exec_gateMessageReceive_message s (gateOk_iff.2 ⟨hlen, hcrc, hres, hframe⟩) (by omega) (by omega) hlane, ?_⟩
    simp [State.gateKeep, hsup, hkind]
  · rintro l msg n hlen hcrc hres hframe hkind rfl
    rw [exec_gateMessageReceive_record l s (gateOk_iff.2 ⟨hlen, hcrc, hres, hframe⟩) hkind, gateRead_eq]
    refine ⟨fun htick hswitch hnext hid => ⟨_, by rw [if_pos ⟨htick, hswitch, hnext, hid⟩], .upd .., by simp⟩, fun h => ?_⟩
    rw [if_neg]
    rintro ⟨htick, hswitch, hnext, hid⟩
    simp [htick, hswitch, hnext, hid] at h
  · intro l msg h
    refine exec_gateMessageReceive_dropped s fun hok => ?_
    obtain ⟨hlen, hcrc, hres, hframe⟩ := gateOk_iff.1 hok
    simp only [hlen, hcrc, hres, hframe, ne_eq, not_true, false_or] at h
    omega
  · rintro n f rest hinst hlanes hf
    refine ⟨fun hleft hmode hrealign hvote hspaced => ?_, exec_installNextLane_waits hinst hlanes, fun hleft hlate => ?_,
      exec_installAdmitTimeout_waits hinst hlanes⟩
    · refine ⟨fun hgo => ⟨_, exec_installNextLane_leaves hinst hlanes hleft hmode hrealign hvote hspaced hgo, ?_,
        laneLeaves_leave .., laneLeaves_sel .., ?_, fun k => laneLeaves_other s f n.revert⟩, fun habort hrevert => ?_⟩
      · rw [laneLeaves_rack]
      · rw [laneLeaves_rack]
      · obtain ⟨st, i, hst, hbegin⟩ := beginRevert_in s f 0x12
        obtain ⟨hcode, hsel, hstate⟩ := installAt_revertBegun s f 0x12 i hst
        rw [exec_installNextLane_aborts hinst hlanes hleft hmode hrealign hvote hspaced habort hrevert, hbegin]
        exact ⟨_, rfl, hcode, hsel, hstate, by simp⟩
    · rw [exec_installAdmitTimeout_late hinst hlanes hleft hlate]
      refine ⟨fun hrevert => ?_, fun hrevert hlast => ?_⟩
      · obtain ⟨hcode, hsel, hstate⟩ := beginRevert_out s 0x10 hf
        exact ⟨_, by rw [hrevert]; rfl, hcode, hsel, hstate⟩
      · rw [hrevert, hlast]
        rfl
  · rintro l g reports hrestart hvote rfl
    refine ⟨exec_hubRunningReport_first hrestart hvote, fun htwo => ?_⟩
    obtain ⟨t, hexec, hnone, hup, hbank, hcommit, hkept⟩ := exec_hubRunningReport_completes hrestart hvote htwo
    refine ⟨t, hexec, hnone, hup, hbank, fun hstaged hinst => ?_, hkept⟩
    obtain ⟨hfw, hinstall, hstate, hempty⟩ := hcommit hstaged hinst
    exact ⟨hfw, hinstall, hstate, hempty⟩
  · intro g hrestart
    exact ⟨exec_hubRestartTimeout_waits hrestart, fun hlate =>
      ⟨exec_hubRestartTimeout_first hrestart hlate, exec_hubRestartTimeout_again hrestart hlate⟩⟩

end Sys2Proof.Machine

/-! The engine's fetch (09 R259): a write of PDE_VDONE for another cycle is counted in a register of the engine itself. -/

namespace Sys2Proof.Machine

-- One theorem after the other, as the model's tests: elaborated side by side they would exceed the check's memory limit.
set_option Elab.async false

/-- A write of PDE_VDONE for another cycle is counted, and has no other effect (R259). -/
theorem exec_pdeVdoneWrite_otherCycle {s : State} {v : Nat} (l : LaneId) (hs : s.hub.supplied = true)
    (hv : v % 65536 ≠ s.hub.frame % 65536) : exec (.pdeVdoneWrite l v) s = .next (s.hcount PDE_GCNT_VDONE_BAD 1) := by
  show execPdeVdoneWrite l v s = _
  rw [execPdeVdoneWrite, hs, State.vdoneWrite]
  exact congrArg Host.Outcome.next (if_pos hv)

/-- The count of bad writes is a part of the engine's own record. -/
theorem hf_vdoneBad_of_pde_eq {s t : State} (h : t.pde = s.pde) : t.hf PDE_GCNT_VDONE_BAD = s.hf PDE_GCNT_VDONE_BAD :=
  congrArg (fun p : Pde => fldGet PDE_GCNT_VDONE_BAD (mapGet (regReset .a PDE_GCNT_VDONE_BAD.reg) p.regs PDE_GCNT_VDONE_BAD.reg)) h

/-- The hub with its supply and with armed channels, right after reset otherwise: the running cycle is cycle 0. -/
def armedHub : State :=
  { State.reset with hub := { State.reset.hub with supplied := true }, pde := { State.reset.pde with armed := true } }

/-- In the state `armedHub` lane A's write for cycle 1 raises the count of bad writes from 0 to 1. -/
theorem exec_pdeVdoneWrite_armedHub :
    ∃ t, exec (.pdeVdoneWrite .a 1) armedHub = .next t ∧ t.hf PDE_GCNT_VDONE_BAD = 1 ∧ armedHub.hf PDE_GCNT_VDONE_BAD = 0 := by
  have hzero : armedHub.hf PDE_GCNT_VDONE_BAD = 0 := by decide +kernel
  refine ⟨_, exec_pdeVdoneWrite_otherCycle .a rfl (by decide), ?_, hzero⟩
  rw [State.hf_hcount_same _ _ _ rfl, hzero]
  rfl

/-- Refutes O26: its first clause leaves the engine's whole record as it was, but the bad write that the clause counts is counted in a
register of that record, so in `armedHub` the count would have to read 0 and 1. -/
theorem not_lastMemberStartsTheFetch : ¬ Obligations.LastMemberStartsTheFetch := by
  unfold Obligations.LastMemberStartsTheFetch
  intro h
  obtain ⟨hbad, -⟩ := h armedHub rfl rfl rfl
  obtain ⟨t, he, hpde, -⟩ := hbad .a 1 (by decide)
  obtain ⟨u, hu, hone, hzero⟩ := exec_pdeVdoneWrite_armedHub
  obtain rfl : t = u := Host.Outcome.next.inj (he.symm.trans hu)
  have hkept := hf_vdoneBad_of_pde_eq hpde
  omega

end Sys2Proof.Machine

/-! The process data engine's shared operations: which registers of the hub a write leaves, writes to a lane that takes them, and what the
record of a completion writes (09 R272 to R274). -/

namespace Sys2Proof.Machine

-- One theorem after the other, as the model's tests: elaborated side by side they would exceed the check's memory limit.
set_option Elab.async false

/-! ### Fields of the hub's registers -/

theorem hf_lt (s : State) (f : Fld) : s.hf f < 2 ^ (f.hi + 1 - f.lo) := Nat.mod_lt _ (Nat.two_pow_pos _)

/-- A field reads as it was set where the value fits. -/
theorem hf_hfSet_fits {f : Fld} {x : Nat} (s : State) (hf : f.ok = true) (hx : x < 2 ^ (f.hi + 1 - f.lo)) : (s.hfSet f x).hf f = x := by
  rw [State.hf_hfSet_same _ _ _ hf, Nat.mod_eq_of_lt hx]

/-- Fields of different registers share no bit. -/
theorem Fld.apart_of_reg {f g : Fld} (hf : f.ok = true := by rfl) (hg : g.lo ≤ g.hi := by simp)
    (h : f.reg ≠ g.reg := by dsimp only; omega) : f.apart g = true := by
  simp [Fld.apart, hf, hg, h]

@[simp] theorem hf_updLane (s : State) (l : LaneId) (u : Lane → Lane) (f : Fld) : (s.updLane l u).hf f = s.hf f := by cases l <;> rfl

@[simp] theorem hf_lmemSet (s : State) (l : LaneId) (a : Nat) (bs : List Byte) (f : Fld) : (s.lmemSet l a bs).hf f = s.hf f := hf_updLane ..

theorem LaneTx.hf {l : LaneId} {s t : State} (h : LaneTx l s t) (f : Fld) : t.hf f = s.hf f := LanesTx.hf h.lanesOnly f

/-! ### Channels beyond their registers -/

theorem chan_chanUpd_other (s : State) {c d : Nat} (u : Chan → Chan) (h : d ≠ c) : (s.chanUpd c u).chan d = s.chan d :=
  mapGet_mapSet_other _ _ _ h

theorem chan_congr {s t : State} (h : t.pde.chans = s.pde.chans) (c : Nat) : t.chan c = s.chan c := by rw [State.chan, h, State.chan]

@[simp] theorem chan_hfSet (s : State) (f : Fld) (x c : Nat) : (s.hfSet f x).chan c = s.chan c := chan_congr (by simp) c

@[simp] theorem chan_hcount (s : State) (f : Fld) (d c : Nat) : (s.hcount f d).chan c = s.chan c := chan_congr (by simp) c

@[simp] theorem chan_cntAdd (s : State) (i j d c : Nat) : (s.cntAdd i j d).chan c = s.chan c := rfl

@[simp] theorem chan_lmemSet (s : State) (l : LaneId) (a : Nat) (bs : List Byte) (c : Nat) : (s.lmemSet l a bs).chan c = s.chan c :=
  chan_congr (by simp) c

/-! ### Reads of a channel's state -/

theorem pdeState_pdeStateSet_same (s : State) (c : Nat) {n : Nat} (hn : n < 16) : (s.pdeStateSet c n).pdeState c = n :=
  hf_hfSet_fits s rfl hn

theorem pdeState_pdeStateSet_other (s : State) {c d : Nat} (n : Nat) (h : d ≠ c) : (s.pdeStateSet c n).pdeState d = s.pdeState d :=
  State.hf_hfSet_apart _ _ _ _ Fld.apart_of_reg

/-- Nothing of queue `q`'s registers that says whether it is full differs. -/
theorem cqFull_congr {s t : State} {q : Nat} (hm : t.hf (PDE_CQ_BASE_M q) = s.hf (PDE_CQ_BASE_M q))
    (hh : t.hf (PDE_CQ_HEAD q) = s.hf (PDE_CQ_HEAD q)) (ht : t.hf (PDE_CQ_TAIL q) = s.hf (PDE_CQ_TAIL q)) : t.cqFull q = s.cqFull q := by
  rw [State.cqFull, State.cqSize, State.cqFill, hm, hh, ht]
  rfl

/-- A descriptor reads alike where the channel's lane and its 16 bytes are as before. -/
theorem descAt_congr {s t : State} {c p : Nat} (hlane : t.pdeLane c = s.pdeLane c)
    (hmem : t.lmem (s.pdeLane c) (exchangeBase + p) 16 = s.lmem (s.pdeLane c) (exchangeBase + p) 16) : t.descAt c p = s.descAt c p := by
  simp only [State.descAt, State.outbound, hlane, hmem]

/-! ### A lane that takes the hub's writes (01 R31, 04 R117) -/

/-- Lane `l`'s link is up and none of its banks is sealed: every write within the exchange area is performed. -/
structure State.Takes (s : State) (l : LaneId) : Prop where
  up : s.linkUp l = true
  unsealed : (s.lane l).xch.sealed = false

theorem State.Takes.inbound {s : State} {l : LaneId} {off : Nat} {bs : List Byte} (h : s.Takes l) (hend : off + bs.length ≤ exchangeSize) :
    (s.inbound l off bs).1 = s.lmemSet l (exchangeBase + off) bs :=
  inbound_open h.up hend (by rw [State.sealedHit, h.unsealed, Bool.false_and])

theorem State.Takes.congr {s t : State} {l : LaneId} (h : s.Takes l) (hhub : t.hub.supplied = s.hub.supplied)
    (hsup : (t.lane l).supplied = (s.lane l).supplied) (hregs : (t.lane l).regs = (s.lane l).regs)
    (hxch : (t.lane l).xch = (s.lane l).xch) : t.Takes l :=
  ⟨by rw [State.linkUp, hhub, hsup, State.lf_congr hregs]; exact h.up, by rw [hxch, h.unsealed]⟩

theorem State.Takes.lmemSet {s : State} {l : LaneId} {a : Nat} {bs : List Byte} (h : s.Takes l) : (s.lmemSet l a bs).Takes l :=
  h.congr (by simp) (by simp) (by simp) (by simp)

theorem State.Takes.of_lane {s t : State} {l : LaneId} (h : s.Takes l) (hhub : t.hub.supplied = s.hub.supplied)
    (hlane : t.lane l = s.lane l) : t.Takes l :=
  h.congr hhub (by rw [hlane]) (by rw [hlane]) (by rw [hlane])

/-! ### Channels stall on a full queue (R274) -/

/-- Channels `us` stall, each with its note whether it was parked. -/
def State.stallAll (s : State) (us : List Nat) : State :=
  us.foldl (fun s c => (s.chanUpd c (fun x => { x with parked := decide (s.pdeState c = 3) })).pdeStateSet c 4) s

theorem stallAll_cons (s : State) (c : Nat) (us : List Nat) : s.stallAll (c :: us) =
    ((s.chanUpd c (fun x => { x with parked := decide (s.pdeState c = 3) })).pdeStateSet c 4).stallAll us := rfl

@[simp] theorem stallAll_lane (s : State) (us : List Nat) (l : LaneId) : (s.stallAll us).lane l = s.lane l :=
  foldl_keeps (fun s => s.lane l) (fun _ _ => by simp [State.pdeStateSet]) us s

theorem hf_stallAll_apart {us : List Nat} {g : Fld} (h : ∀ d ∈ us, (PDE_STAT_STATE d).apart g = true) (s : State) :
    (s.stallAll us).hf g = s.hf g := by
  induction us generalizing s with
  | nil => rfl
  | cons c us ih =>
    rw [stallAll_cons, ih fun d hd => h d (List.mem_cons_of_mem _ hd), State.pdeStateSet, State.hf_hfSet_apart _ _ _ _ (h c List.mem_cons_self),
      State.hf_chanUpd]

/-- The channels named read as stalled, and no other channel's state differs. -/
theorem pdeState_stallAll (us : List Nat) (s : State) (c : Nat) : (s.stallAll us).pdeState c = if c ∈ us then 4 else s.pdeState c := by
  induction us generalizing s with
  | nil => rfl
  | cons d us ih =>
    rw [stallAll_cons, ih]
    by_cases hc : c = d
    · subst hc
      simp [pdeState_pdeStateSet_same]
    · rw [pdeState_pdeStateSet_other _ _ hc]
      simp [hc, State.pdeState]

/-- Nothing of a channel beyond its registers differs but the note of a parked one. -/
theorem chan_stallAll (us : List Nat) (s : State) (c : Nat) : ∃ b, (s.stallAll us).chan c = { s.chan c with parked := b } := by
  induction us generalizing s with
  | nil => exact ⟨(s.chan c).parked, rfl⟩
  | cons d us ih =>
    obtain ⟨b, hb⟩ := ih ((s.chanUpd d (fun x => { x with parked := decide (s.pdeState d = 3) })).pdeStateSet d 4)
    refine ⟨b, hb.trans ?_⟩
    by_cases hc : c = d
    · subst hc
      simp [State.pdeStateSet]
    · simp [State.pdeStateSet, chan_chanUpd_other _ _ hc]

end Sys2Proof.Machine

/-! The record of a completion and what a chain does after it (09 R264, R273, R274). -/

namespace Sys2Proof.Machine

-- One theorem after the other, as the model's tests: elaborated side by side they would exceed the check's memory limit.
set_option Elab.async false

/-! ### Fields that a completion leaves -/

/-- Field `g` is none that the stall on queue `q` writes: the queue's status and the channels' states. -/
structure Fld.OffStall (g : Fld) (q : Nat) : Prop where
  full : (PDE_CQ_STAT_FULL q).apart g = true
  stalls : (PDE_CQ_STAT_STALLS q).apart g = true
  state : ∀ d < 192, (PDE_STAT_STATE d).apart g = true

/-- Nor is it one that a record of channel `c` in the queue writes: the queue's HEAD and the channel's cause of a completion. -/
structure Fld.OffRecord (g : Fld) (c q : Nat) : Prop extends g.OffStall q where
  head : (PDE_CQ_HEAD q).apart g = true
  cause : (PDE_INT_STAT_CQ c).apart g = true

section
variable {g : Fld} {c q : Nat}

/-- A register of a channel's block but its status and its interrupt causes. -/
theorem Fld.OffRecord.of_channel (hreg : g.reg < 0x5000C000 := by dsimp only; omega) (hstat : g.reg % 0x100 ≠ 0x48 := by dsimp only; omega)
    (hint : g.reg % 0x100 ≠ 0x7C := by dsimp only; omega) (hg : g.lo ≤ g.hi := by simp) : g.OffRecord c q where
  full := Fld.apart_of_reg rfl hg
  stalls := Fld.apart_of_reg rfl hg
  state _ _ := Fld.apart_of_reg rfl hg
  head := Fld.apart_of_reg rfl hg
  cause := Fld.apart_of_reg rfl hg

theorem Fld.OffStall.of_queue (hreg : 0x5000D000 ≤ g.reg := by dsimp only; omega) (hstat : g.reg % 0x10 ≠ 0xC := by dsimp only; omega)
    (hg : g.lo ≤ g.hi := by simp) : g.OffStall q where
  full := Fld.apart_of_reg rfl hg
  stalls := Fld.apart_of_reg rfl hg
  state _ _ := Fld.apart_of_reg rfl hg

/-- A queue's base and TAIL. -/
theorem Fld.OffRecord.of_queue (hc : c < 192) (hreg : 0x5000D000 ≤ g.reg := by dsimp only; omega)
    (hstat : g.reg % 0x10 ≠ 0xC := by dsimp only; omega) (hhead : g.reg % 0x10 ≠ 4 := by dsimp only; omega)
    (hg : g.lo ≤ g.hi := by simp) : g.OffRecord c q where
  toOffStall := .of_queue hreg hstat hg
  head := Fld.apart_of_reg rfl hg
  cause := Fld.apart_of_reg rfl hg

end

/-! ### A queue fills (R274) -/

/-- Channel `c` is in a queued mode and names queue `q`. -/
structure State.Names (s : State) (c q : Nat) : Prop where
  chan : c < 192
  mode : s.hf (PDE_CFG_MODE c) = 3 ∨ s.hf (PDE_CFG_MODE c) = 4
  queue : s.hf (PDE_CFG_CQ c) = q

theorem State.Names.congr {s t : State} {c q : Nat} (h : s.Names c q) (hmode : t.hf (PDE_CFG_MODE c) = s.hf (PDE_CFG_MODE c))
    (hcq : t.hf (PDE_CFG_CQ c) = s.hf (PDE_CFG_CQ c)) : t.Names c q :=
  ⟨h.chan, hmode ▸ h.mode, hcq ▸ h.queue⟩

theorem mem_cqUsers {s : State} {c q : Nat} : c ∈ s.cqUsers q ↔ s.Names c q := by
  simp only [State.cqUsers, pdeChannels, List.mem_filter, List.mem_range, Bool.and_eq_true, Bool.or_eq_true, decide_eq_true_eq]
  exact ⟨fun ⟨hc, hm, hq⟩ => ⟨hc, hm, hq⟩, fun ⟨hc, hm, hq⟩ => ⟨hc, hm, hq⟩⟩

/-- The channels that a queue's filling stops. -/
def State.cqStopped (s : State) (q : Nat) : List Nat := (s.cqUsers q).filter (fun c => s.pdeState c = 2 || s.pdeState c = 3)

theorem mem_cqStopped {s : State} {c q : Nat} : c ∈ s.cqStopped q ↔ s.Names c q ∧ (s.pdeState c = 2 ∨ s.pdeState c = 3) := by
  simp [State.cqStopped, mem_cqUsers]

/-- The state with the queue's status written as it fills. -/
def State.showFull (s : State) (q : Nat) : State :=
  let s := s.hfSet (PDE_CQ_STAT_FULL q) 1
  if s.cqStopped q = [] then s else s.hcount (PDE_CQ_STAT_STALLS q) 1

theorem cqStall_eq (s : State) (q : Nat) : s.cqStall q = (s.showFull q).stallAll ((s.hfSet (PDE_CQ_STAT_FULL q) 1).cqStopped q) := rfl

theorem hf_showFull {g : Fld} {q : Nat} (hg : g.OffStall q) (s : State) : (s.showFull q).hf g = s.hf g := by
  unfold State.showFull
  dsimp only
  split
  · exact State.hf_hfSet_apart _ _ _ _ hg.full
  · rw [State.hf_hcount_apart _ _ _ _ hg.stalls, State.hf_hfSet_apart _ _ _ _ hg.full]

@[simp] theorem showFull_lane (s : State) (q : Nat) (l : LaneId) : (s.showFull q).lane l = s.lane l := by
  unfold State.showFull
  dsimp only
  split <;> simp

@[simp] theorem chan_showFull (s : State) (q c : Nat) : (s.showFull q).chan c = s.chan c := by
  unfold State.showFull
  dsimp only
  split <;> simp

/-- The queue's status is no channel's state. -/
theorem pdeState_showFull (s : State) (q c : Nat) : (s.showFull q).pdeState c = s.pdeState c := by
  have hfull : (PDE_CQ_STAT_FULL q).apart (PDE_STAT_STATE c) = true := Fld.apart_of_reg
  have hstalls : (PDE_CQ_STAT_STALLS q).apart (PDE_STAT_STATE c) = true := Fld.apart_of_reg
  unfold State.showFull State.pdeState
  dsimp only
  split
  · exact State.hf_hfSet_apart _ _ _ _ hfull
  · rw [State.hf_hcount_apart _ _ _ _ hstalls, State.hf_hfSet_apart _ _ _ _ hfull]

theorem mem_cqStopped_congr {s t : State} {c q : Nat} (hmode : t.hf (PDE_CFG_MODE c) = s.hf (PDE_CFG_MODE c))
    (hcq : t.hf (PDE_CFG_CQ c) = s.hf (PDE_CFG_CQ c)) (hstate : t.pdeState c = s.pdeState c) : c ∈ t.cqStopped q ↔ c ∈ s.cqStopped q := by
  rw [mem_cqStopped, mem_cqStopped, hstate]
  exact and_congr_left' ⟨fun h => h.congr hmode.symm hcq.symm, fun h => h.congr hmode hcq⟩

/-- Showing that the queue is full does not change whom it stops. -/
theorem mem_cqStopped_full {s : State} {c q : Nat} : c ∈ (s.hfSet (PDE_CQ_STAT_FULL q) 1).cqStopped q ↔ c ∈ s.cqStopped q :=
  mem_cqStopped_congr (State.hf_hfSet_apart _ _ _ _ Fld.apart_of_reg)
    (State.hf_hfSet_apart _ _ _ _ Fld.apart_of_reg)
    (State.hf_hfSet_apart _ _ _ _ Fld.apart_of_reg)

/-- The channels stall if the record has filled the queue. -/
def State.stallIfFull (s : State) (q : Nat) : State := if s.cqFull q then s.cqStall q else s

section
variable (s : State) (c q : Nat)

theorem hf_stallIfFull {g : Fld} (hg : g.OffStall q) : (s.stallIfFull q).hf g = s.hf g := by
  unfold State.stallIfFull
  split
  · rw [cqStall_eq, hf_stallAll_apart fun d hd => hg.state d (mem_cqStopped.1 hd).1.chan, hf_showFull hg]
  · rfl

@[simp] theorem stallIfFull_lane (l : LaneId) : (s.stallIfFull q).lane l = s.lane l := by
  unfold State.stallIfFull
  split
  · rw [cqStall_eq, stallAll_lane, showFull_lane]
  · rfl

theorem chan_stallIfFull : ∃ b, (s.stallIfFull q).chan c = { s.chan c with parked := b } := by
  unfold State.stallIfFull
  split
  · rw [cqStall_eq, ← chan_showFull s q c]
    exact chan_stallAll ..
  · exact ⟨(s.chan c).parked, rfl⟩

theorem cqFull_stallIfFull : (s.stallIfFull q).cqFull q = s.cqFull q :=
  cqFull_congr (hf_stallIfFull s q .of_queue)
    (hf_stallIfFull s q .of_queue)
    (hf_stallIfFull s q .of_queue)

theorem pdeState_stallIfFull :
    (s.stallIfFull q).pdeState c = if s.cqFull q = true ∧ c ∈ s.cqStopped q then 4 else s.pdeState c := by
  unfold State.stallIfFull
  split
  next hfull => rw [cqStall_eq, pdeState_stallAll, pdeState_showFull]; simp only [mem_cqStopped_full, hfull, true_and]
  next hroom => rw [if_neg fun h => hroom h.1]

end

/-! ### A record is written (R273) -/

/-- The place of a queue's next record in the exchange area. -/
def State.cqSlot (s : State) (q : Nat) : Nat := s.hf (PDE_CQ_BASE_BASE q) + 16 * (s.hf (PDE_CQ_HEAD q) % 2 ^ s.hf (PDE_CQ_BASE_M q))

/-- The first word of a queue's next record, with its phase bit. -/
def State.recordWord (s : State) (c q status : Nat) : Nat :=
  (1 - s.hf (PDE_CQ_HEAD q) / 2 ^ s.hf (PDE_CQ_BASE_M q) % 2) * 2 ^ 31 + status * 2 ^ 24 + c

/-- The other bytes of a record. -/
def recordRest (xfer p frameLo cookie : Nat) : List Byte :=
  leBytes 4 (xfer % 2 ^ 24) ++ leBytes 4 p ++ leBytes 2 frameLo ++ leBytes 2 cookie

/-- The state with a record in queue `q` of lane `l`. -/
def State.recorded (s : State) (l : LaneId) (q word : Nat) (rest : List Byte) : State :=
  ((s.lmemSet l (exchangeBase + (s.cqSlot q + 4)) rest).lmemSet l (exchangeBase + s.cqSlot q) (leBytes 4 word)).hfSet (PDE_CQ_HEAD q)
    ((s.hf (PDE_CQ_HEAD q) + 1) % 2 ^ 32)

/-- The channel's cause of a completion, where its interrupt mode and the descriptor ask for it. -/
def State.causeCq (s : State) (c : Nat) (irq : Bool) : State :=
  if irq && decide (s.hf (PDE_CFG_IRQM c) = 1) then s.pdeInt c PDE_INT_STAT_CQ else s

/-- Channel `c` can complete a descriptor with a record in queue `q` of its lane `l`. -/
structure State.Completes (s : State) (c q : Nat) (l : LaneId) : Prop extends s.Names c q where
  lane : s.pdeLane c = l
  takes : s.Takes l
  owned : s.cqOwned l q = true
  room : s.cqSlot q + 16 ≤ exchangeSize

theorem cqWrite_eq {s : State} {c q : Nat} {l : LaneId} (h : s.Completes c q l) (p cookie status xfer frameLo : Nat) (irq : Bool) :
    s.cqWrite c p cookie status xfer frameLo irq =
      ((s.recorded l q (s.recordWord c q status) (recordRest xfer p frameLo cookie)).causeCq c irq).stallIfFull q := by
  have hroom := h.room
  have hrest : (s.inbound l (s.cqSlot q + 4) (recordRest xfer p frameLo cookie)).1 =
      s.lmemSet l (exchangeBase + (s.cqSlot q + 4)) (recordRest xfer p frameLo cookie) := h.takes.inbound (by simp [recordRest]; omega)
  have hword (t : State) (ht : t.Takes l) : (t.inbound l (s.cqSlot q) (leBytes 4 (s.recordWord c q status))).1 =
      t.lmemSet l (exchangeBase + s.cqSlot q) (leBytes 4 (s.recordWord c q status)) := ht.inbound (by simp; omega)
  simp only [State.cqWrite, h.queue, h.lane, h.owned, Bool.not_true, Bool.false_eq_true, if_false]
  simp only [State.cqSlot, State.recordWord, recordRest] at hrest hword
  rw [hrest, hword _ h.takes.lmemSet]
  rfl

theorem recorded_takes {s : State} {l : LaneId} (h : s.Takes l) (q word : Nat) (rest : List Byte) : (s.recorded l q word rest).Takes l :=
  h.congr (by simp [State.recorded]) (by simp [State.recorded]) (by simp [State.recorded]) (by simp [State.recorded])

section
variable (s : State) (c : Nat) (irq : Bool)

theorem hf_causeCq {g : Fld} (hg : (PDE_INT_STAT_CQ c).apart g = true) : (s.causeCq c irq).hf g = s.hf g := by
  unfold State.causeCq
  split
  · exact State.hf_hfSet_apart _ _ _ _ hg
  · rfl

@[simp] theorem causeCq_lane (l : LaneId) : (s.causeCq c irq).lane l = s.lane l := by
  unfold State.causeCq State.pdeInt
  split <;> simp

@[simp] theorem chan_causeCq (d : Nat) : (s.causeCq c irq).chan d = s.chan d := by
  unfold State.causeCq State.pdeInt
  split <;> simp

end

/-- `t` is `s` after the completion of a descriptor of channel `c`: a record with its first word and the rest stands in the slot of queue
`q` in lane `l`, and the queue's filling has stopped the channel if it ran. -/
structure State.Recorded (s t : State) (c q : Nat) (l : LaneId) (word : Nat) (rest : List Byte) : Prop where
  head : t.hf (PDE_CQ_HEAD q) = (s.hf (PDE_CQ_HEAD q) + 1) % 2 ^ 32
  word : t.lmem l (exchangeBase + s.cqSlot q) 4 = leBytes 4 word
  rest : t.lmem l (exchangeBase + s.cqSlot q + 4) 12 = rest
  mem : ∀ a n, a + n ≤ exchangeBase + s.cqSlot q ∨ exchangeBase + s.cqSlot q + 16 ≤ a → t.lmem l a n = s.lmem l a n
  field : ∀ g : Fld, g.OffRecord c q → t.hf g = s.hf g
  chan : ∃ done b, t.chan c = { s.chan c with doneCur := done, parked := b }
  state : t.pdeState c = if t.cqFull q = true ∧ (s.pdeState c = 2 ∨ s.pdeState c = 3) then 4 else s.pdeState c

theorem hf_recorded_apart {g : Fld} {q : Nat} (hg : (PDE_CQ_HEAD q).apart g = true) (s : State) (l : LaneId) (word : Nat) (rest : List Byte) :
    (s.recorded l q word rest).hf g = s.hf g := by
  rw [State.recorded, State.hf_hfSet_apart _ _ _ _ hg, hf_lmemSet, hf_lmemSet]

theorem hf_recorded_head (s : State) (l : LaneId) (q word : Nat) (rest : List Byte) :
    (s.recorded l q word rest).hf (PDE_CQ_HEAD q) = (s.hf (PDE_CQ_HEAD q) + 1) % 2 ^ 32 :=
  hf_hfSet_fits _ rfl (Nat.mod_lt _ (by decide))

theorem lmem_recorded (s : State) (l : LaneId) (q word a n : Nat) (rest : List Byte) : (s.recorded l q word rest).lmem l a n =
    ((s.lmemSet l (exchangeBase + (s.cqSlot q + 4)) rest).lmemSet l (exchangeBase + s.cqSlot q) (leBytes 4 word)).lmem l a n := by
  rw [State.recorded, State.lmem, State.hfSet_lane, State.lmem]

theorem cqWrite_recorded {s : State} {c q : Nat} {l : LaneId} (h : s.Completes c q l) (p cookie status xfer frameLo : Nat) (irq : Bool) :
    s.Recorded (s.cqWrite c p cookie status xfer frameLo irq) c q l (s.recordWord c q status) (recordRest xfer p frameLo cookie) := by
  have hlen : (recordRest xfer p frameLo cookie).length = 12 := by simp [recordRest]
  rw [cqWrite_eq h]
  generalize hw : s.recordWord c q status = word
  generalize hr : recordRest xfer p frameLo cookie = rest at hlen ⊢
  generalize hu : (s.recorded l q word rest).causeCq c irq = u
  have hlmem (a n : Nat) : (u.stallIfFull q).lmem l a n =
      ((s.lmemSet l (exchangeBase + (s.cqSlot q + 4)) rest).lmemSet l (exchangeBase + s.cqSlot q) (leBytes 4 word)).lmem l a n := by
    rw [← lmem_recorded, State.lmem, stallIfFull_lane, ← hu, causeCq_lane, State.lmem]
  have hfield (g : Fld) (hcause : (PDE_INT_STAT_CQ c).apart g = true) : u.hf g = (s.recorded l q word rest).hf g := by
    rw [← hu, hf_causeCq _ _ _ hcause]
  have hkept (g : Fld) (hhead : (PDE_CQ_HEAD q).apart g = true) (hcause : (PDE_INT_STAT_CQ c).apart g = true) : u.hf g = s.hf g :=
    (hfield g hcause).trans (hf_recorded_apart hhead ..)
  have hstate : u.pdeState c = s.pdeState c :=
    hkept _ Fld.apart_of_reg (by simp [Fld.apart, Fld.ok])
  have hnames : u.Names c q := h.toNames.congr (hkept _ Fld.apart_of_reg (by simp [Fld.apart, Fld.ok]))
    (hkept _ Fld.apart_of_reg (by simp [Fld.apart, Fld.ok]))
  constructor
  · rw [hf_stallIfFull _ _ .of_queue,
      hfield _ Fld.apart_of_reg, hf_recorded_head]
  · have hsame := lmem_lmemSet_same (s.lmemSet l (exchangeBase + (s.cqSlot q + 4)) rest) l (exchangeBase + s.cqSlot q) (leBytes 4 word)
    rwa [length_leBytes, ← hlmem] at hsame
  · have hsame := lmem_lmemSet_same s l (exchangeBase + (s.cqSlot q + 4)) rest
    rw [hlmem, Nat.add_assoc, lmem_lmemSet_out _ _ (by rw [length_leBytes]; omega), ← hlen, hsame]
  · intro a n ha
    rw [hlmem, lmem_lmemSet_out _ _ (by rw [length_leBytes]; omega), lmem_lmemSet_out _ _ (by omega)]
  · intro g hg
    rw [hf_stallIfFull _ _ hg.toOffStall, hkept _ hg.head hg.cause]
  · obtain ⟨b, hb⟩ := chan_stallIfFull u c q
    exact ⟨_, b, by rw [hb, ← hu, chan_causeCq, State.recorded, chan_hfSet, chan_lmemSet, chan_lmemSet]⟩
  · simp only [pdeState_stallIfFull, cqFull_stallIfFull, mem_cqStopped, hnames, hstate, true_and]

end Sys2Proof.Machine

/-! A queued input item (09 R266, R273): its buffer, its record, and the end of its chain. -/

namespace Sys2Proof.Machine

-- One theorem after the other, as the model's tests: elaborated side by side they would exceed the check's memory limit.
set_option Elab.async false

/-! ### The descriptor at PDE_CUR ends -/

theorem State.Completes.chanUpd {s : State} {c q : Nat} {l : LaneId} (h : s.Completes c q l) (u : Chan → Chan) :
    (s.chanUpd c u).Completes c q l :=
  ⟨h.toNames.congr (State.hf_chanUpd ..) (State.hf_chanUpd ..), h.lane, h.takes.of_lane rfl (by simp), h.owned, h.room⟩

theorem State.Recorded.of_done {s t : State} {c q word : Nat} {l : LaneId} {rest : List Byte}
    (h : (s.chanUpd c (fun x => { x with doneCur := true })).Recorded t c q l word rest) : s.Recorded t c q l word rest := by
  obtain ⟨done, b, hchan⟩ := h.chan
  rw [State.chan_chanUpd_same] at hchan
  exact ⟨h.head, h.word, h.rest, h.mem, h.field, ⟨done, b, hchan⟩, h.state⟩

theorem descDone_recorded {s : State} {c q : Nat} {l : LaneId} (h : s.Completes c q l) (status xfer frame : Nat) :
    s.Recorded (s.descDone c status xfer frame) c q l (s.recordWord c q status)
      (recordRest xfer (s.hf (PDE_CUR c)) (frame % 65536) (s.descAt c (s.hf (PDE_CUR c))).cookie) :=
  .of_done (cqWrite_recorded (h.chanUpd _) ..)

/-! ### A chain at its end (R264) -/

section
variable {s : State} {c : Nat} (hroom : s.cqFull (s.hf (PDE_CFG_CQ c)) = false)
include hroom

/-- With nothing to follow, the channel parks where its queue has room and no doorbell is pending. -/
theorem chain_wait_parks (hquiet : s.hf (PDE_STAT_DB_PEND c) = 0) (k : Nat) : State.chain c (k + 1) .wait s = s.pdeStateSet c 3 := by
  simp [State.chain, hroom, hquiet]

theorem chain_link_end (hend : (s.descAt c (s.hf (PDE_CUR c))).end_ = true) (hquiet : s.hf (PDE_STAT_DB_PEND c) = 0) :
    State.chain c chainFuel .link s = s.pdeStateSet c 3 := by
  show State.chain c (39998 + 1 + 1) .link s = _
  rw [State.chain, ← chain_wait_parks hroom hquiet 39998]
  simp [hroom, hend]

end

/-- Channel `c` parks unless queue `q` is full. -/
def State.parkIfRoom (s : State) (c q : Nat) : State := if s.cqFull q then s else s.pdeStateSet c 3

section
variable (s : State) (c q : Nat)

theorem hf_parkIfRoom {g : Fld} (hg : (PDE_STAT_STATE c).apart g = true) : (s.parkIfRoom c q).hf g = s.hf g := by
  unfold State.parkIfRoom
  split
  · rfl
  · exact State.hf_hfSet_apart _ _ _ _ hg

@[simp] theorem parkIfRoom_lane (l : LaneId) : (s.parkIfRoom c q).lane l = s.lane l := by
  unfold State.parkIfRoom State.pdeStateSet
  split <;> simp

@[simp] theorem chan_parkIfRoom : (s.parkIfRoom c q).chan c = s.chan c := by
  unfold State.parkIfRoom State.pdeStateSet
  split <;> simp

theorem cqFull_parkIfRoom (hc : c < 192) : (s.parkIfRoom c q).cqFull q = s.cqFull q :=
  cqFull_congr (hf_parkIfRoom _ _ _ Fld.apart_of_reg) (hf_parkIfRoom _ _ _ Fld.apart_of_reg) (hf_parkIfRoom _ _ _ Fld.apart_of_reg)

end

/-- Channel `c` runs at the last descriptor of its chain, and can complete it: no doorbell and no abort is pending, and the record will not
touch the descriptor. -/
structure State.AtLast (s : State) (c q : Nat) (l : LaneId) : Prop extends s.Completes c q l where
  running : s.pdeState c = 2
  last : (s.descAt c (s.hf (PDE_CUR c))).end_ = true
  quiet : s.hf (PDE_STAT_DB_PEND c) = 0
  goesOn : (s.chan c).abort = false
  apart : s.hf (PDE_CUR c) + 16 ≤ s.cqSlot q ∨ s.cqSlot q + 16 ≤ s.hf (PDE_CUR c)

theorem offRecord_dbPend (c q : Nat) : (PDE_STAT_DB_PEND c).OffRecord c q where
  full := Fld.apart_of_reg
  stalls := Fld.apart_of_reg
  state _ _ := by simp [Fld.apart, Fld.ok]
  head := Fld.apart_of_reg
  cause := Fld.apart_of_reg

/-- `t` is `u` after the end of the last descriptor of channel `c`: its record stands in the slot that queue `q` has next in `s`, and the
channel has parked, or stalls on the queue that the record filled. -/
structure State.Ended (s u t : State) (c q : Nat) (l : LaneId) (word : Nat) (rest : List Byte) : Prop where
  head : t.hf (PDE_CQ_HEAD q) = (s.hf (PDE_CQ_HEAD q) + 1) % 2 ^ 32
  word : t.lmem l (exchangeBase + s.cqSlot q) 4 = leBytes 4 word
  rest : t.lmem l (exchangeBase + s.cqSlot q + 4) 12 = rest
  mem : ∀ a n, a + n ≤ exchangeBase + s.cqSlot q ∨ exchangeBase + s.cqSlot q + 16 ≤ a → t.lmem l a n = u.lmem l a n
  field : ∀ g : Fld, g.OffRecord c q → t.hf g = u.hf g
  out : (t.chan c).out = (u.chan c).out
  state : t.pdeState c = if t.cqFull q then 4 else 3

section
variable {s t : State} {c q word : Nat} {l : LaneId} {rest : List Byte} (h : s.AtLast c q l) (hrec : s.Recorded t c q l word rest)
include h hrec

theorem State.AtLast.running_or_full : t.pdeState c = if t.cqFull q then 4 else 2 := by
  rw [hrec.state, h.running]
  simp

theorem State.AtLast.descAt_eq : t.descAt c (s.hf (PDE_CUR c)) = s.descAt c (s.hf (PDE_CUR c)) := by
  have hc := h.chan
  have hapart := h.apart
  refine descAt_congr (congrArg placeLane (hrec.field _ .of_channel)) ?_
  rw [h.lane]
  exact hrec.mem _ _ (by omega)

/-- After the record the chain is followed to its end, unless the queue is full now. -/
theorem State.AtLast.pdeGoOn_eq : t.pdeGoOn c = t.parkIfRoom c q := by
  obtain ⟨done, b, hchan⟩ := hrec.chan
  have hc := h.chan
  have hstate := h.running_or_full hrec
  have hcq : t.hf (PDE_CFG_CQ c) = q := (hrec.field _ .of_channel).trans h.queue
  have hcur : t.hf (PDE_CUR c) = s.hf (PDE_CUR c) := hrec.field _ .of_channel
  have hquiet : t.hf (PDE_STAT_DB_PEND c) = 0 := (hrec.field _ (offRecord_dbPend c q)).trans h.quiet
  have hlast : (t.descAt c (t.hf (PDE_CUR c))).end_ = true := by rw [hcur, h.descAt_eq hrec, h.last]
  rw [State.pdeGoOn, hchan, h.goesOn, if_neg Bool.false_ne_true, State.parkIfRoom]
  cases hfull : t.cqFull q with
  | true => simp [hstate, hfull]
  | false =>
    rw [if_pos (by simp [hstate, hfull]), if_neg Bool.false_ne_true, chain_link_end (hcq ▸ hfull) hlast hquiet]

theorem State.AtLast.ended : s.Ended s (t.pdeGoOn c) c q l word rest := by
  have hlmem (a n : Nat) : (t.parkIfRoom c q).lmem l a n = t.lmem l a n := by rw [State.lmem, parkIfRoom_lane, State.lmem]
  obtain ⟨done, b, hchan⟩ := hrec.chan
  rw [h.pdeGoOn_eq hrec]
  refine ⟨?_, (hlmem ..).trans hrec.word, (hlmem ..).trans hrec.rest, fun a n ha => (hlmem ..).trans (hrec.mem a n ha), fun g hg => ?_,
    ?_, ?_⟩
  · rw [hf_parkIfRoom _ _ _ Fld.apart_of_reg, hrec.head]
  · rw [hf_parkIfRoom _ _ _ (hg.state c h.chan), hrec.field g hg]
  · rw [chan_parkIfRoom, hchan]
  · rw [cqFull_parkIfRoom _ _ _ h.chan, State.parkIfRoom]
    split
    next hfull => rw [h.running_or_full hrec, if_pos hfull]
    next => exact pdeState_pdeStateSet_same _ _ (by decide)

end

/-! ### What is counted for an item (R281, R283) -/

/-- Field `g` is none that counts an item of channel `c`, delivered, sent or dropped, or is a cause of its interrupt for that. -/
structure Fld.OffCounts (g : Fld) (c : Nat) : Prop where
  item : (PDE_CNT_ITEM c).apart g = true
  frame : (PDE_LAST_FRAME c).apart g = true
  dropped : (PDE_CNT_DROP_DROPPED c).apart g = true
  causeItem : (PDE_INT_STAT_ITEM c).apart g = true
  causeDrop : (PDE_INT_STAT_DROP c).apart g = true

theorem Fld.OffCounts.of_reg {g : Fld} {c : Nat} (hreg : g.reg < 0x50000060 + 0x100 * c ∨ 0x50000080 + 0x100 * c ≤ g.reg := by dsimp only; omega)
    (hg : g.lo ≤ g.hi := by simp) : g.OffCounts c where
  item := Fld.apart_of_reg rfl hg
  frame := Fld.apart_of_reg rfl hg
  dropped := Fld.apart_of_reg rfl hg
  causeItem := Fld.apart_of_reg rfl hg
  causeDrop := Fld.apart_of_reg rfl hg

/-- The state after an item delivered, with its interrupt. -/
def State.itemDelivered (s : State) (c frame : Nat) : State := (s.pdeItemDone c frame).pdeItemInt c

section
variable (s : State) (c : Nat)

theorem hf_itemDelivered {g : Fld} (hg : g.OffCounts c) (frame : Nat) : (s.itemDelivered c frame).hf g = s.hf g := by
  have hdone : (s.pdeItemDone c frame).hf g = s.hf g := by
    rw [State.pdeItemDone, State.pdeLast, State.hf_hfSet_apart _ _ _ _ hg.frame, State.pdeCount, State.hf_cntAdd,
      State.hf_hcount_apart _ _ _ _ hg.item]
  unfold State.itemDelivered State.pdeItemInt
  split
  · rw [State.pdeInt, State.hf_hfSet_apart _ _ _ _ hg.causeItem, hdone]
  · exact hdone

theorem hf_itemDelivered_count (frame : Nat) :
    (s.itemDelivered c frame).hf (PDE_CNT_ITEM c) = satAdd 0xFFFFFFFF (s.hf (PDE_CNT_ITEM c)) 1 := by
  have hdone : (s.pdeItemDone c frame).hf (PDE_CNT_ITEM c) = satAdd 0xFFFFFFFF (s.hf (PDE_CNT_ITEM c)) 1 := by
    rw [State.pdeItemDone, State.pdeLast, State.hf_hfSet_apart _ _ _ _ Fld.apart_of_reg, State.pdeCount, State.hf_cntAdd,
      State.hf_hcount_same _ _ _ rfl]
    rfl
  unfold State.itemDelivered State.pdeItemInt
  split
  · rw [State.pdeInt, State.hf_hfSet_apart _ _ _ _ Fld.apart_of_reg, hdone]
  · exact hdone

@[simp] theorem itemDelivered_lane (frame : Nat) (l : LaneId) : (s.itemDelivered c frame).lane l = s.lane l := by
  unfold State.itemDelivered State.pdeItemInt
  split <;> simp [State.pdeItemDone, State.pdeLast, State.pdeCount, State.pdeInt]

@[simp] theorem itemDelivered_supplied (frame : Nat) : (s.itemDelivered c frame).hub.supplied = s.hub.supplied := by
  unfold State.itemDelivered State.pdeItemInt
  split <;> simp [State.pdeItemDone, State.pdeLast, State.pdeCount, State.pdeInt]

@[simp] theorem chan_itemDelivered (frame d : Nat) : (s.itemDelivered c frame).chan d = s.chan d := by
  unfold State.itemDelivered State.pdeItemInt
  split <;> simp [State.pdeItemDone, State.pdeLast, State.pdeCount, State.pdeInt]

theorem hf_pdeDrop {g : Fld} (hg : g.OffCounts c) : (s.pdeDrop c).hf g = s.hf g := by
  rw [State.pdeDrop, State.hf_cntAdd, State.pdeInt, State.hf_hfSet_apart _ _ _ _ hg.causeDrop, State.hf_hcount_apart _ _ _ _ hg.dropped]

theorem hf_pdeDrop_item : (s.pdeDrop c).hf (PDE_CNT_ITEM c) = s.hf (PDE_CNT_ITEM c) := by
  rw [State.pdeDrop, State.hf_cntAdd, State.pdeInt, State.hf_hfSet_apart _ _ _ _ Fld.apart_of_reg, State.hf_hcount_apart _ _ _ _ Fld.apart_of_reg]

theorem hf_pdeDrop_count : (s.pdeDrop c).hf (PDE_CNT_DROP_DROPPED c) = satAdd 0xFFFF (s.hf (PDE_CNT_DROP_DROPPED c)) 1 := by
  rw [State.pdeDrop, State.hf_cntAdd, State.pdeInt, State.hf_hfSet_apart _ _ _ _ Fld.apart_of_reg, State.hf_hcount_same _ _ _ rfl]
  rfl

@[simp] theorem pdeDrop_lane (l : LaneId) : (s.pdeDrop c).lane l = s.lane l := by simp [State.pdeDrop, State.pdeInt]

@[simp] theorem pdeDrop_supplied : (s.pdeDrop c).hub.supplied = s.hub.supplied := by simp [State.pdeDrop, State.pdeInt]

@[simp] theorem chan_pdeDrop (d : Nat) : (s.pdeDrop c).chan d = s.chan d := by simp [State.pdeDrop, State.pdeInt]

end

/-- What counts an item, or fills its buffer, leaves the channel able to complete. -/
theorem State.Completes.congr {s t : State} {c q : Nat} {l : LaneId} (h : s.Completes c q l) (hf : ∀ g : Fld, g.OffCounts c → t.hf g = s.hf g)
    (htakes : t.Takes l) : t.Completes c q l ∧ t.cqSlot q = s.cqSlot q := by
  have hc := h.chan
  have hslot : t.cqSlot q = s.cqSlot q := by rw [State.cqSlot, hf _ .of_reg, hf _ .of_reg, hf _ .of_reg, State.cqSlot]
  have howned : t.cqOwned l q = s.cqOwned l q := by rw [State.cqOwned, hf _ .of_reg, State.cqOwned]
  exact ⟨⟨h.toNames.congr (hf _ .of_reg) (hf _ .of_reg), (congrArg placeLane (hf _ .of_reg)).trans h.lane, htakes, howned.trans h.owned,
    hslot ▸ h.room⟩, hslot⟩

/-- It leaves the channel at the same last descriptor, where the buffer does not touch that. -/
theorem State.AtLast.congr {s t : State} {c q : Nat} {l : LaneId} (h : s.AtLast c q l) (hf : ∀ g : Fld, g.OffCounts c → t.hf g = s.hf g)
    (htakes : t.Takes l) (hchan : (t.chan c).abort = (s.chan c).abort)
    (hdesc : t.lmem l (exchangeBase + s.hf (PDE_CUR c)) 16 = s.lmem l (exchangeBase + s.hf (PDE_CUR c)) 16) : t.AtLast c q l := by
  obtain ⟨hcompletes, hslot⟩ := h.toCompletes.congr hf htakes
  have hcur : t.hf (PDE_CUR c) = s.hf (PDE_CUR c) := hf _ .of_reg
  constructor
  case toCompletes => exact hcompletes
  case running => exact (hf _ .of_reg).trans h.running
  case last => rw [hcur, descAt_congr (hcompletes.lane.trans h.lane.symm) (h.lane ▸ hdesc), h.last]
  case quiet => exact (hf _ .of_reg).trans h.quiet
  case goesOn => rw [hchan, h.goesOn]
  case apart => rw [hcur, hslot]; exact h.apart

/-! ### An item for a queued input channel (R266) -/

@[simp] theorem length_tagBytes (check kind len port frameLo : Nat) : (tagBytes check kind len port frameLo).length = 16 := by
  simp [tagBytes]

/-- The frame in the tag of an item of the coming cycle, also where the frame number wraps. -/
theorem coming_mod (f : Nat) : frameAdd f 1 % 65536 = (f + 1) % 65536 := by
  simp only [frameAdd, frameMod]
  omega

/-- The tag of item `raw` of channel `c` in the coming cycle. -/
def State.comingTag (s : State) (c : Nat) (raw : List Byte) : List Byte :=
  tagBytes (crc32c raw) (s.hf (PDE_SRC_KIND c)) raw.length (s.hf (PDE_SRC_PORT c)) ((s.hub.frame + 1) % 65536)

/-- The state with an item and its tag in a buffer of lane `l`. -/
def State.filled (s : State) (c : Nat) (l : LaneId) (buf : Nat) (raw : List Byte) : State :=
  (s.lmemSet l (exchangeBase + (buf + 16)) raw).lmemSet l (exchangeBase + buf) (s.comingTag c raw)

section
variable {s : State} {c : Nat} {raw : List Byte} {d : Desc} (hmode : s.hf (PDE_CFG_MODE c) = 3) (hstate : s.pdeState c = 2)
  (hkind : s.hf (PDE_SRC_KIND c) ≠ 1) (hd : d = s.descAt c (s.hf (PDE_CUR c)))
include hmode hstate hkind hd

theorem queuedArrive_large (h : d.len < 16 + raw.length) : s.queuedArrive c raw =
    ((s.pdeDrop c).descDone c 1 (16 + raw.length) (frameAdd s.hub.frame 1)).pdeGoOn c := by
  have hselect : s.pdeSelect c raw = some raw := if_neg hkind
  subst hd
  simp [State.queuedArrive, hmode, hstate, hselect, h]

theorem queuedArrive_fits {l : LaneId} (hl : s.pdeLane c = l) (htakes : s.Takes l) (h : 16 + raw.length ≤ d.len)
    (hbuf : d.buf + d.len ≤ exchangeSize) : s.queuedArrive c raw =
      (((s.filled c l d.buf raw).itemDelivered c (frameAdd s.hub.frame 1)).descDone c 0 (16 + raw.length)
        (frameAdd s.hub.frame 1)).pdeGoOn c := by
  have hselect : s.pdeSelect c raw = some raw := if_neg hkind
  have hpayload : (s.inbound l (d.buf + 16) raw).1 = s.lmemSet l (exchangeBase + (d.buf + 16)) raw := htakes.inbound (by omega)
  have htag : ((s.lmemSet l (exchangeBase + (d.buf + 16)) raw).inbound l d.buf (s.comingTag c raw)).1 = s.filled c l d.buf raw :=
    htakes.lmemSet.inbound (by rw [State.comingTag, length_tagBytes]; omega)
  rw [← htag, ← hpayload, State.comingTag, ← coming_mod]
  subst hd hl
  simp [State.queuedArrive, hmode, hstate, hselect, Nat.not_lt.2 h, State.pdeItem, State.itemDelivered]

end

theorem lmem_add (s : State) (l : LaneId) (a m n : Nat) : s.lmem l a (m + n) = s.lmem l a m ++ s.lmem l (a + m) n := by
  unfold State.lmem
  induction m generalizing a with
  | zero => simp [memRead]
  | succ m ih => rw [Nat.succ_add, memRead, ih, memRead, List.cons_append, Nat.add_assoc a 1 m, Nat.add_comm 1 m]

section
variable (s : State) (c : Nat) (l : LaneId) (buf : Nat) (raw : List Byte)

theorem lmem_filled_buffer : (s.filled c l buf raw).lmem l (exchangeBase + buf) (16 + raw.length) = s.comingTag c raw ++ raw := by
  have htag : (s.comingTag c raw).length = 16 := length_tagBytes ..
  have hsame := lmem_lmemSet_same (s.lmemSet l (exchangeBase + (buf + 16)) raw) l (exchangeBase + buf) (s.comingTag c raw)
  rw [htag] at hsame
  rw [State.filled, lmem_add, hsame, lmem_lmemSet_out _ _ (by omega), Nat.add_assoc, lmem_lmemSet_same]

theorem lmem_filled_out {a n : Nat} (h : a + n ≤ exchangeBase + buf ∨ exchangeBase + buf + 16 + raw.length ≤ a) :
    (s.filled c l buf raw).lmem l a n = s.lmem l a n := by
  have htag : (s.comingTag c raw).length = 16 := length_tagBytes ..
  rw [State.filled, lmem_lmemSet_out _ _ (by omega), lmem_lmemSet_out _ _ (by omega)]

@[simp] theorem hf_filled (g : Fld) : (s.filled c l buf raw).hf g = s.hf g := by simp [State.filled]

theorem filled_takes {s : State} {l : LaneId} (h : s.Takes l) : (s.filled c l buf raw).Takes l := h.lmemSet.lmemSet

end

/-- The last descriptor of channel `c` ends in a state that differs from `s` in what is counted and in the buffer only. -/
theorem State.AtLast.ended_after {s u : State} {c q : Nat} {l : LaneId} (h : s.AtLast c q l) (hf : ∀ g : Fld, g.OffCounts c → u.hf g = s.hf g)
    (htakes : u.Takes l) (hchan : (u.chan c).abort = (s.chan c).abort)
    (hdesc : u.lmem l (exchangeBase + s.hf (PDE_CUR c)) 16 = s.lmem l (exchangeBase + s.hf (PDE_CUR c)) 16) (status xfer frame : Nat) :
    s.Ended u ((u.descDone c status xfer frame).pdeGoOn c) c q l (s.recordWord c q status)
      (recordRest xfer (s.hf (PDE_CUR c)) (frame % 65536) (s.descAt c (s.hf (PDE_CUR c))).cookie) := by
  have hc := h.chan
  have hu := h.congr hf htakes hchan hdesc
  have hlane : u.pdeLane c = s.pdeLane c := congrArg placeLane (hf _ .of_reg)
  have hword : u.recordWord c q status = s.recordWord c q status := by rw [State.recordWord, hf _ .of_reg, hf _ .of_reg, State.recordWord]
  have hslot := (h.toCompletes.congr hf htakes).2
  have hcur : u.hf (PDE_CUR c) = s.hf (PDE_CUR c) := hf _ .of_reg
  have hrec := descDone_recorded hu.toCompletes status xfer frame
  rw [hword, hcur, descAt_congr hlane (h.lane ▸ hdesc)] at hrec
  have hended := hu.ended hrec
  exact ⟨hended.head.trans (by rw [hf _ .of_reg]), hslot ▸ hended.word, hslot ▸ hended.rest, hslot ▸ hended.mem, hended.field, hended.out,
    hended.state⟩

section
variable {s : State} {c q : Nat} {l : LaneId} {raw : List Byte} {d : Desc} (h : s.AtLast c q l) (hmode : s.hf (PDE_CFG_MODE c) = 3)
  (hkind : s.hf (PDE_SRC_KIND c) ≠ 1) (hd : d = s.descAt c (s.hf (PDE_CUR c)))
include h hmode hkind hd

theorem queuedArrive_large_ended (hlarge : d.len < 16 + raw.length) : s.Ended (s.pdeDrop c) (s.queuedArrive c raw) c q l
    (s.recordWord c q 1) (recordRest (16 + raw.length) (s.hf (PDE_CUR c)) ((s.hub.frame + 1) % 65536) d.cookie) := by
  rw [queuedArrive_large hmode h.running hkind hd hlarge, ← coming_mod, hd]
  exact h.ended_after (fun _ hg => hf_pdeDrop _ _ hg) (h.takes.of_lane (by simp) (by simp)) (by simp) (by simp [State.lmem]) ..

theorem queuedArrive_fits_ended (hfits : 16 + raw.length ≤ d.len) (hbuf : d.buf + d.len ≤ exchangeSize)
    (hapart : s.hf (PDE_CUR c) + 16 ≤ d.buf ∨ d.buf + d.len ≤ s.hf (PDE_CUR c)) :
    s.Ended ((s.filled c l d.buf raw).itemDelivered c (frameAdd s.hub.frame 1)) (s.queuedArrive c raw) c q l (s.recordWord c q 0)
      (recordRest (16 + raw.length) (s.hf (PDE_CUR c)) ((s.hub.frame + 1) % 65536) d.cookie) := by
  have hdesc : ((s.filled c l d.buf raw).itemDelivered c (frameAdd s.hub.frame 1)).lmem l (exchangeBase + s.hf (PDE_CUR c)) 16 =
      s.lmem l (exchangeBase + s.hf (PDE_CUR c)) 16 := by
    rw [State.lmem, itemDelivered_lane]
    exact lmem_filled_out _ _ _ _ _ (by omega)
  have hcookie : d.cookie = (s.descAt c (s.hf (PDE_CUR c))).cookie := congrArg Desc.cookie hd
  rw [queuedArrive_fits hmode h.running hkind hd h.lane h.takes hfits hbuf, ← coming_mod, hcookie]
  exact h.ended_after (fun _ hg => by rw [hf_itemDelivered _ _ hg, hf_filled]) ((filled_takes c d.buf raw h.takes).of_lane (by simp) (by simp))
    (by simp [State.filled]) hdesc ..

end

/-- Settles O27: an item that fits, and one that does not, both at the last descriptor of the chain. -/
theorem queuedInputItemCompletes : Obligations.QueuedInputItemCompletes := by
  unfold Obligations.QueuedInputItemCompletes
  intro s c raw l cur slot need d q hs hc hmode hstate hkind hl hup hseal hcur hd hend hdb habort hneed hlen hbuf hq howned hslot hroom
    hslotbuf hcurbuf hcurslot
  obtain rfl : slot = s.cqSlot q := hslot
  subst hcur hneed
  have hlast : s.AtLast c q l :=
    { chan := hc, mode := .inl hmode, queue := hq.symm, lane := hl.symm, takes := ⟨hup, hseal⟩, owned := howned, room := hroom,
      running := hstate, last := hd ▸ hend, quiet := hdb, goesOn := habort, apart := hcurslot }
  have hexec : exec (.queuedInputItem c raw) s = .next (s.queuedArrive c raw) := by
    show execQueuedInputItem c raw s = _
    rw [execQueuedInputItem, hs]
    rfl
  refine ⟨_, hexec, ?_⟩
  rcases Nat.lt_or_ge d.len (16 + raw.length) with hlarge | hfits
  · have hended := queuedArrive_large_ended hlast hmode hkind hd hlarge
    refine ⟨hended.head, hended.state, ?_, fun st hst => ?_, fun hle => absurd hle (Nat.not_le.2 hlarge), fun _ => ⟨?_, ?_, ?_⟩⟩
    · rw [hended.rest, recordRest, Nat.mod_eq_of_lt (by omega)]
    · rw [hst, if_neg (Nat.not_le.2 hlarge)]
      exact hended.word
    · rw [hended.mem _ _ (by omega), State.lmem, pdeDrop_lane, State.lmem]
    · rw [hended.field _ .of_channel, hf_pdeDrop_item]
    · rw [hended.field _ .of_channel, hf_pdeDrop_count]
  · have hended := queuedArrive_fits_ended hlast hmode hkind hd hfits hbuf hcurbuf
    refine ⟨hended.head, hended.state, ?_, fun st hst => ?_, fun _ => ⟨?_, ?_⟩, fun hlt => absurd hfits (Nat.not_le.2 hlt)⟩
    · rw [hended.rest, recordRest, Nat.mod_eq_of_lt (by omega)]
    · rw [hst, if_pos hfits]
      exact hended.word
    · rw [hended.mem _ _ (by omega), State.lmem, itemDelivered_lane]
      exact lmem_filled_buffer ..
    · rw [hended.field _ .of_channel, hf_itemDelivered_count, hf_filled]

end Sys2Proof.Machine

/-! Circular input channels (09 R270): records across the end of the ring, and the write of PDE_RD. -/

namespace Sys2Proof.Machine

-- One theorem after the other, as the model's tests: elaborated side by side they would exceed the check's memory limit.
set_option Elab.async false

/-! ### Places of a ring -/

/-- A place of a ring counted from the byte at `count`, before the ring's end and behind it. -/
theorem ring_place {size i : Nat} (count : Nat) (hi : i < size) :
    (count + i) % size = if i < size - count % size then count % size + i else count % size + i - size := by
  have hlt : count % size < size := Nat.mod_lt _ (by omega)
  rw [Nat.add_mod, Nat.mod_eq_of_lt hi]
  split
  · exact Nat.mod_eq_of_lt (by omega)
  · rw [Nat.mod_eq_sub_mod (by omega), Nat.mod_eq_of_lt (by omega)]

theorem ring_place_inj {size i j : Nat} (count : Nat) (hi : i < size) (hj : j < size) (h : (count + i) % size = (count + j) % size) :
    i = j := by
  have hlt : count % size < size := Nat.mod_lt _ (by omega)
  rw [ring_place count hi, ring_place count hj] at h
  split at h <;> split at h <;> omega

/-! ### Bytes of a ring -/

/-- Channel `c` has its ring in lane `l`, which takes the hub's writes; the ring lies within the exchange area. -/
structure State.Rings (s : State) (c : Nat) (l : LaneId) : Prop where
  lane : s.pdeLane c = l
  takes : s.Takes l
  within : s.hf (PDE_BANK0 c) + s.ringBytes c ≤ exchangeSize

/-- Where a ring begins in its lane's memory. -/
def State.ringBase (s : State) (c : Nat) : Nat := exchangeBase + s.hf (PDE_BANK0 c)

theorem lmem_lmemSet_byte (s : State) (l : LaneId) (a : Nat) {bs : List Byte} {i : Nat} (h : i < bs.length) :
    (s.lmemSet l a bs).lmem l (a + i) 1 = [bs[i]] := by
  simp [State.lmem, State.lmemSet, memRead, mapGet_memWrite_in _ _ _ _ h]

theorem ringBytes_pos (s : State) (c : Nat) : 0 < s.ringBytes c := Nat.two_pow_pos _

section
variable {s : State} {c : Nat} {l : LaneId} {bs : List Byte} (h : s.Rings c l) (hlen : bs.length ≤ s.ringBytes c) (count : Nat)
include h hlen

theorem ringWrite_eq : s.ringWrite c count bs =
    (s.lmemSet l (s.ringBase c + count % s.ringBytes c) (bs.take (s.ringBytes c - count % s.ringBytes c))).lmemSet l (s.ringBase c)
      (bs.drop (s.ringBytes c - count % s.ringBytes c)) := by
  have hwithin := h.within
  have hlt : count % s.ringBytes c < s.ringBytes c := Nat.mod_lt _ (ringBytes_pos s c)
  have hfirst := h.takes.inbound (off := s.hf (PDE_BANK0 c) + count % s.ringBytes c)
    (bs := bs.take (s.ringBytes c - count % s.ringBytes c)) (by rw [List.length_take]; omega)
  have hrest (t : State) (ht : t.Takes l) := ht.inbound (off := s.hf (PDE_BANK0 c))
    (bs := bs.drop (s.ringBytes c - count % s.ringBytes c)) (by rw [List.length_drop]; omega)
  simp only [State.ringWrite, h.lane, hfirst, hrest _ h.takes.lmemSet, State.ringBase, Nat.add_assoc]

/-- The bytes written stand at their places, also across the ring's end. -/
theorem ringWrite_byte {i : Nat} (hi : i < bs.length) :
    (s.ringWrite c count bs).lmem l (s.ringBase c + (count + i) % s.ringBytes c) 1 = [bs[i]] := by
  have hlt : count % s.ringBytes c < s.ringBytes c := Nat.mod_lt _ (ringBytes_pos s c)
  rw [ringWrite_eq h hlen, ring_place count (Nat.lt_of_lt_of_le hi hlen)]
  split
  next hbefore =>
    rw [lmem_lmemSet_out _ _ (by rw [List.length_drop]; omega), ← Nat.add_assoc, lmem_lmemSet_byte _ _ _ (by rw [List.length_take]; omega),
      List.getElem_take]
  next hbehind =>
    have hplace : count % s.ringBytes c + i - s.ringBytes c = i - (s.ringBytes c - count % s.ringBytes c) := by omega
    rw [hplace, lmem_lmemSet_byte _ _ _ (by rw [List.length_drop]; omega), List.getElem_drop]
    simp only [Nat.add_sub_cancel' (Nat.not_lt.1 hbehind)]

/-- A byte apart from all of these places is as before. -/
theorem ringWrite_byte_out {a : Nat} (ha : ∀ i < bs.length, a ≠ s.ringBase c + (count + i) % s.ringBytes c) :
    (s.ringWrite c count bs).lmem l a 1 = s.lmem l a 1 := by
  have hlt : count % s.ringBytes c < s.ringBytes c := Nat.mod_lt _ (ringBytes_pos s c)
  have hbefore (i : Nat) (hi : i < bs.length) (hroom : i < s.ringBytes c - count % s.ringBytes c) :
      a ≠ s.ringBase c + (count % s.ringBytes c + i) := by
    have hne := ha i hi
    rwa [ring_place count (Nat.lt_of_lt_of_le hi hlen), if_pos hroom] at hne
  have hbehind (i : Nat) (hi : s.ringBytes c - count % s.ringBytes c + i < bs.length) : a ≠ s.ringBase c + i := by
    have hne := ha _ hi
    rw [ring_place count (Nat.lt_of_lt_of_le hi hlen), if_neg (by omega)] at hne
    omega
  have hfirst := hbefore (a - s.ringBase c - count % s.ringBytes c)
  have hrest := hbehind (a - s.ringBase c)
  rw [ringWrite_eq h hlen, lmem_lmemSet_out _ _ (by rw [List.length_drop]; omega), lmem_lmemSet_out _ _ (by rw [List.length_take]; omega)]

theorem ringWrite_keeps : LaneOnly l s (s.ringWrite c count bs) ∧ (s.ringWrite c count bs).Rings c l ∧
    (s.ringWrite c count bs).ringBytes c = s.ringBytes c ∧ (s.ringWrite c count bs).ringBase c = s.ringBase c := by
  rw [ringWrite_eq h hlen]
  have hbytes : ∀ a b xs ys, ((s.lmemSet l a xs).lmemSet l b ys).ringBytes c = s.ringBytes c := fun _ _ _ _ => by simp [State.ringBytes]
  refine ⟨(LaneOnly.lmemSet ..).trans (.lmemSet ..), ⟨?_, h.takes.lmemSet.lmemSet, ?_⟩, hbytes .., by simp [State.ringBase]⟩
  · simpa [State.pdeLane] using h.lane
  · simpa [hbytes] using h.within

end

/-! ### A record of a ring -/

/-- A record, written behind its first bytes and then with them (R270: the tag last). -/
def State.ringRecord (s : State) (c count : Nat) (tag rest : List Byte) : State :=
  (s.ringWrite c (count + tag.length) rest).ringWrite c count tag

section
variable {s : State} {c : Nat} {l : LaneId} {tag rest : List Byte} (h : s.Rings c l) (hlen : (tag ++ rest).length ≤ s.ringBytes c)
  (count : Nat)
include h hlen

theorem ringRecord_keeps : LaneOnly l s (s.ringRecord c count tag rest) := by
  rw [List.length_append] at hlen
  obtain ⟨hrest, hrings, hbytes, -⟩ := ringWrite_keeps h (bs := rest) (by omega) (count + tag.length)
  exact hrest.trans (ringWrite_keeps hrings (by omega) count).1

/-- A record that is no longer than the ring stands at its places whole. -/
theorem ringRecord_byte {i : Nat} (hi : i < (tag ++ rest).length) :
    (s.ringRecord c count tag rest).lmem l (s.ringBase c + (count + i) % s.ringBytes c) 1 = [(tag ++ rest)[i]] := by
  rw [List.length_append] at hlen hi
  obtain ⟨-, hrings, hbytes, hbase⟩ := ringWrite_keeps h (bs := rest) (by omega) (count + tag.length)
  rw [State.ringRecord, ← hbytes, ← hbase]
  by_cases htag : i < tag.length
  · rw [ringWrite_byte hrings (by omega) count htag, List.getElem_append_left htag]
  · rw [ringWrite_byte_out hrings (by omega), hbytes, hbase, List.getElem_append_right (Nat.not_lt.1 htag)]
    · have hbyte := ringWrite_byte h (bs := rest) (by omega) (count + tag.length) (i := i - tag.length) (by omega)
      rwa [Nat.add_assoc, Nat.add_sub_cancel' (Nat.not_lt.1 htag)] at hbyte
    · intro j hj heq
      have := ring_place_inj count (by omega) (by omega) (Nat.add_left_cancel heq)
      omega

theorem ringRecord_out {a : Nat} (ha : a < s.ringBase c ∨ s.ringBase c + s.ringBytes c ≤ a) :
    (s.ringRecord c count tag rest).lmem l a 1 = s.lmem l a 1 := by
  rw [List.length_append] at hlen
  obtain ⟨-, hrings, hbytes, hbase⟩ := ringWrite_keeps h (bs := rest) (by omega) (count + tag.length)
  have hout (n : Nat) : a ≠ s.ringBase c + n % s.ringBytes c := by
    have := Nat.mod_lt n (ringBytes_pos s c)
    omega
  rw [State.ringRecord, ringWrite_byte_out hrings (by omega) _ fun _ _ => by rw [hbytes, hbase]; exact hout _,
    ringWrite_byte_out h (by omega) _ fun _ _ => hout _]

end

/-! ### An item for a circular channel (R270) -/

/-- The causes of a ring that a record of `len` bytes at `count` makes half or wholly full, where its interrupt mode asks for them (R271). -/
def State.ringCauses (s : State) (c count len size : Nat) : State :=
  if s.hf (PDE_CFG_IRQM c) = 3 then
    let o := count % size
    let half := size / 2
    let s := if (o < half ∧ half ≤ o + len) ∨ size + half ≤ o + len then s.pdeInt c PDE_INT_STAT_HALF else s
    if size ≤ o + len then s.pdeInt c PDE_INT_STAT_FULL else s
  else s

section
variable (s : State) (c count len size : Nat)

theorem hf_ringCauses {g : Fld} (hhalf : (PDE_INT_STAT_HALF c).apart g = true) (hfull : (PDE_INT_STAT_FULL c).apart g = true) :
    (s.ringCauses c count len size).hf g = s.hf g := by
  unfold State.ringCauses
  dsimp only
  split
  · split <;> split <;> simp only [State.pdeInt, State.hf_hfSet_apart _ _ _ _ hhalf, State.hf_hfSet_apart _ _ _ _ hfull]
  · rfl

@[simp] theorem ringCauses_lane (l : LaneId) : (s.ringCauses c count len size).lane l = s.lane l := by
  unfold State.ringCauses
  dsimp only
  split
  · split <;> split <;> simp [State.pdeInt]
  · rfl

end

/-- The payload of a record, padded to 8 bytes. -/
def padded (raw : List Byte) : List Byte := raw ++ List.replicate ((raw.length + 7) / 8 * 8 - raw.length) 0

theorem length_padded (raw : List Byte) : (padded raw).length = (raw.length + 7) / 8 * 8 := by
  rw [padded, List.length_append, List.length_replicate]
  omega

section
variable {s : State} {c : Nat} {raw : List Byte} (hmode : s.hf (PDE_CFG_MODE c) = 5) (hstate : s.pdeState c = 2)
  (hkind : s.hf (PDE_SRC_KIND c) ≠ 1)
include hmode hstate hkind

theorem circularArrive_large (hlarge : s.ringBytes c < s.ringFill c + (16 + (padded raw).length)) : s.circularArrive c raw = s.pdeDrop c := by
  have hselect : s.pdeSelect c raw = some raw := if_neg hkind
  rw [length_padded] at hlarge
  simp [State.circularArrive, hmode, hstate, hselect, hlarge]

theorem circularArrive_fits (hfits : s.ringFill c + (16 + (padded raw).length) ≤ s.ringBytes c) : s.circularArrive c raw =
    ((((s.ringRecord c (s.hf (PDE_WR c)) (s.comingTag c raw) (padded raw)).hfSet (PDE_WR c)
      ((s.hf (PDE_WR c) + (16 + (padded raw).length)) % 2 ^ 32)).itemDelivered c (frameAdd s.hub.frame 1)).ringCauses c (s.hf (PDE_WR c))
        (16 + (padded raw).length) (s.ringBytes c)) := by
  have hselect : s.pdeSelect c raw = some raw := if_neg hkind
  have hpad : padTo ((raw.length + 7) / 8 * 8) raw = padded raw := by rw [padTo, List.take_of_length_le (by omega), padded]
  have htag : (s.comingTag c raw).length = 16 := length_tagBytes ..
  rw [length_padded] at hfits
  rw [State.ringRecord, htag, State.comingTag, length_padded]
  rw [State.circularArrive, if_neg (by simp [hmode, hstate]), hselect]
  refine (if_neg (Nat.not_lt.2 hfits)).trans ?_
  rw [Nat.add_sub_cancel_left, hpad, coming_mod]
  rfl

end

/-- A record that fits stands at WR, WR goes on by it, and the item is counted. -/
theorem circularArrive_fits_effect {s : State} {c : Nat} {l : LaneId} {raw rec : List Byte} (h : s.Rings c l)
    (hmode : s.hf (PDE_CFG_MODE c) = 5) (hstate : s.pdeState c = 2) (hkind : s.hf (PDE_SRC_KIND c) ≠ 1)
    (hrec : rec = s.comingTag c raw ++ padded raw) (hfits : s.ringFill c + rec.length ≤ s.ringBytes c) :
    let t := s.circularArrive c raw
    t.hf (PDE_WR c) = (s.hf (PDE_WR c) + rec.length) % 2 ^ 32 ∧ t.hf (PDE_RD c) = s.hf (PDE_RD c) ∧
      (∀ i (b : Byte), rec[i]? = some b → t.lmem l (s.ringBase c + (s.hf (PDE_WR c) + i) % s.ringBytes c) 1 = [b]) ∧
      (∀ a, a < s.ringBase c ∨ s.ringBase c + s.ringBytes c ≤ a → t.lmem l a 1 = s.lmem l a 1) ∧
      t.hf (PDE_CNT_ITEM c) = satAdd 0xFFFFFFFF (s.hf (PDE_CNT_ITEM c)) 1 := by
  have hlen : rec.length = 16 + (padded raw).length := by rw [hrec, List.length_append, State.comingTag, length_tagBytes]
  have hsize : (s.comingTag c raw ++ padded raw).length ≤ s.ringBytes c := hrec ▸ (Nat.le_add_left ..).trans hfits
  rw [hlen] at hfits ⊢
  rw [circularArrive_fits hmode hstate hkind hfits]
  generalize hu : s.ringRecord c (s.hf (PDE_WR c)) (s.comingTag c raw) (padded raw) = u
  have hkept (g : Fld) : u.hf g = s.hf g := by
    rw [← hu]
    exact (ringRecord_keeps h hsize _).tx.hf g
  refine ⟨?_, ?_, fun i b hb => ?_, fun a ha => ?_, ?_⟩
  · rw [hf_ringCauses _ _ _ _ _ Fld.apart_of_reg Fld.apart_of_reg, hf_itemDelivered _ _ .of_reg]
    exact hf_hfSet_fits _ rfl (Nat.mod_lt _ (by decide))
  · rw [hf_ringCauses _ _ _ _ _ Fld.apart_of_reg Fld.apart_of_reg, hf_itemDelivered _ _ .of_reg, State.hf_hfSet_apart _ _ _ _ Fld.apart_of_reg,
      hkept]
  · obtain ⟨hi, rfl⟩ := List.getElem?_eq_some_iff.1 hb
    subst hrec
    rw [State.lmem, ringCauses_lane, itemDelivered_lane, State.hfSet_lane, ← hu]
    exact ringRecord_byte h hsize _ hi
  · rw [State.lmem, ringCauses_lane, itemDelivered_lane, State.hfSet_lane, ← hu]
    exact ringRecord_out h hsize _ ha
  · rw [hf_ringCauses _ _ _ _ _ Fld.apart_of_reg Fld.apart_of_reg, hf_itemDelivered_count, State.hf_hfSet_apart _ _ _ _ Fld.apart_of_reg, hkept]

theorem exec_circularInputItem {s : State} (hs : s.hub.supplied = true) (c : Nat) (raw : List Byte) :
    exec (.circularInputItem c raw) s = .next (s.circularArrive c raw) := by
  show execCircularInputItem c raw s = _
  rw [execCircularInputItem, hs]
  rfl

/-! ### Writes to a channel's block (R253) -/

/-- The active placement names the lane that writes. -/
theorem pdeMay_of_placed {s : State} {l : LaneId} {c : Nat} (hc : c < 192) (hmode : s.hf (PDE_CFG_MODE c) ≠ 0)
    (hplace : placeHas (s.hf (PDE_CFG_PLACE c)) l = true) : s.pdeMay l c = true := by
  simp [State.pdeMay, State.pdePlace, hc, hmode, hplace]

theorem chanWrite_of_may {s : State} {l : LaneId} {c : Nat} (hs : s.hub.supplied = true) (hmay : s.pdeMay l c = true) (core pc reg : Nat)
    (f : State → State) : s.chanWrite l core pc reg c f = f s := by
  have hc : c < 192 := by simp only [State.pdeMay, Bool.and_eq_true, decide_eq_true_eq] at hmay; exact hmay.1
  simp [State.chanWrite, hs, hmay, Nat.not_le.2 hc]

theorem chanWrite_of_mayNot {s : State} {l : LaneId} {c : Nat} (hs : s.hub.supplied = true) (hc : c < 192) (hmay : s.pdeMay l c = false)
    (core pc reg : Nat) (f : State → State) : s.chanWrite l core pc reg c f = s.windowFault l core pc reg := by
  simp [State.chanWrite, hs, hmay, Nat.not_le.2 hc]

theorem exec_pdeRdWrite {s : State} {l : LaneId} {c : Nat} (hs : s.hub.supplied = true) (hmay : s.pdeMay l c = true) (core pc v : Nat) :
    exec (.pdeRdWrite l core pc c v) s = .next (s.pdeRdWrite c v) :=
  congrArg Host.Outcome.next (chanWrite_of_may hs hmay ..)

/-- Settles O28: the record that fits, the item that does not, and the write of PDE_RD by whether it would pass WR. -/
theorem circularRecordsFollowWr : Obligations.CircularRecordsFollowWr := by
  unfold Obligations.CircularRecordsFollowWr
  intro s c l base size wr hs hc hmode hl hbase hsize hwr
  obtain rfl : size = s.ringBytes c := hsize
  subst hbase hwr
  refine ⟨fun raw rec hup hseal hwithin hstate hkind hrec => ?_, fun core pc v hv hplace => ?_⟩
  · rw [exec_circularInputItem hs]
    replace hrec : rec = s.comingTag c raw ++ padded raw := hrec.trans (List.append_assoc (s.comingTag c raw) raw _)
    refine ⟨fun hfits => ⟨_, rfl, ?_⟩, fun hlarge => ⟨_, rfl, ?_⟩⟩
    · exact circularArrive_fits_effect ⟨hl.symm, ⟨hup, hseal⟩, hwithin⟩ hmode hstate hkind hrec hfits
    · rw [hrec, List.length_append, State.comingTag, length_tagBytes] at hlarge
      rw [circularArrive_large hmode hstate hkind hlarge]
      exact ⟨by simp, hf_pdeDrop _ _ .of_reg, hf_pdeDrop_count ..⟩
  · rw [exec_pdeRdWrite hs (pdeMay_of_placed hc (by omega) hplace), State.pdeRdWrite, Nat.mod_eq_of_lt hv]
    refine ⟨fun hle => ⟨_, rfl, ?_⟩, fun hlt => by rw [if_pos hlt]⟩
    rw [if_neg (Nat.not_lt.2 hle)]
    exact ⟨hf_hfSet_fits _ rfl hv, State.hf_hfSet_apart _ _ _ _ Fld.apart_of_reg⟩

end Sys2Proof.Machine

/-! Descriptor chains on GO, a doorbell, ABORT and the report of a sink (09 R264, R267, R275). -/

namespace Sys2Proof.Machine

-- One theorem after the other, as the model's tests: elaborated side by side they would exceed the check's memory limit.
set_option Elab.async false

/-! ### What moves as a chain is followed -/

/-- Field `g` is none that GO, a doorbell or ABORT writes on channel `c`: its status, PDE_CUR, PDE_RESID and PDE_CTL. -/
structure Fld.OffChain (g : Fld) (c : Nat) : Prop where
  valid : g.lo ≤ g.hi
  stat : g.reg ≠ (PDE_STAT c).reg
  cur : g.reg ≠ (PDE_CUR c).reg
  resid : g.reg ≠ (PDE_RESID c).reg
  ctl : g.reg ≠ (PDE_CTL c).reg

theorem Fld.OffChain.of_reg {g : Fld} {c : Nat}
    (h : g.reg < 0x50000040 + 0x100 * c ∨ 0x5000005C + 0x100 * c ≤ g.reg := by dsimp only; omega) (hg : g.lo ≤ g.hi := by simp) :
    g.OffChain c :=
  ⟨hg, by dsimp only; omega, by dsimp only; omega, by dsimp only; omega, by dsimp only; omega⟩

/-- `t` is `s` but for where channel `c` stands in its chain. -/
structure State.Moved (s t : State) (c : Nat) : Prop where
  field : ∀ g : Fld, g.OffChain c → t.hf g = s.hf g
  lane : ∀ k, t.lane k = s.lane k
  out : (t.chan c).out = (s.chan c).out

namespace State.Moved

variable {s t : State} {c : Nat}

theorem refl (s : State) (c : Nat) : Moved s s c := ⟨fun _ _ => rfl, fun _ => rfl, rfl⟩

theorem hfSet {f : Fld} {x : Nat} (h : Moved s t c) (hf : f.ok = true := by rfl)
    (hreg : f.reg = (PDE_STAT c).reg ∨ f.reg = (PDE_CUR c).reg ∨ f.reg = (PDE_RESID c).reg ∨ f.reg = (PDE_CTL c).reg := by simp) :
    Moved s (t.hfSet f x) c where
  field g hg := by
    obtain ⟨hvalid, hstat, hcur, hresid, hctl⟩ := hg
    have hne : f.reg ≠ g.reg := by rcases hreg with e | e | e | e <;> rw [e] <;> exact Ne.symm ‹_›
    rw [State.hf_hfSet_apart _ _ _ _ (Fld.apart_of_reg hf hvalid hne), h.field g ⟨hvalid, hstat, hcur, hresid, hctl⟩]
  lane k := by rw [State.hfSet_lane, h.lane]
  out := by rw [chan_hfSet, h.out]

theorem pdeStateSet {n : Nat} (h : Moved s t c) : Moved s (t.pdeStateSet c n) c := h.hfSet

theorem chanUpd {u : Chan → Chan} (h : Moved s t c) (hu : ∀ x, (u x).out = x.out := by exact fun _ => rfl) : Moved s (t.chanUpd c u) c where
  field g hg := by rw [State.hf_chanUpd, h.field g hg]
  lane k := by rw [State.chanUpd_lane, h.lane]
  out := by rw [State.chan_chanUpd_same, hu, h.out]

variable (h : Moved s t c)
include h

theorem trans {u : State} (hu : Moved t u c) : Moved s u c where
  field g hg := by rw [hu.field g hg, h.field g hg]
  lane k := by rw [hu.lane, h.lane]
  out := by rw [hu.out, h.out]

theorem mem (k : LaneId) : (t.lane k).mem = (s.lane k).mem := by rw [h.lane]

theorem lmem (k : LaneId) (a n : Nat) : t.lmem k a n = s.lmem k a n := by rw [State.lmem, h.lane, State.lmem]

theorem descAt (p : Nat) : t.descAt c p = s.descAt c p :=
  descAt_congr (congrArg placeLane (h.field _ .of_reg)) (h.lmem ..)

theorem room (hc : c < 192) (hroom : s.cqFull (s.hf (PDE_CFG_CQ c)) = false) : t.cqFull (t.hf (PDE_CFG_CQ c)) = false := by
  rw [h.field _ .of_reg, ← hroom]
  exact cqFull_congr (h.field _ .of_reg) (h.field _ .of_reg) (h.field _ .of_reg)

end State.Moved

/-! ### GO (R264) -/

/-- The channel as GO starts it at descriptor `p` with generation `g` expected. -/
def State.goStarted (s : State) (c p g : Nat) : State :=
  ((((s.chanUpd c (fun x => { x with fresh := false })).hfSet (PDE_STAT_ERR c) 0).hfSet (PDE_CUR c) p).hfSet (PDE_STAT_EGEN c) g).pdeStateSet c 2

theorem goStarted_moved (s : State) (c p g : Nat) : s.Moved (s.goStarted c p g) c :=
  (State.Moved.refl s c).chanUpd.hfSet.hfSet.hfSet.pdeStateSet

section
variable (s : State) (c p g : Nat)

theorem goStarted_cur (hp : p < 2 ^ 21) : (s.goStarted c p g).hf (PDE_CUR c) = p := by
  simpa [State.goStarted, State.pdeStateSet, State.hf_hfSet_apart, State.hf_hfSet_same, Fld.apart, Fld.ok] using hp

theorem goStarted_err : (s.goStarted c p g).hf (PDE_STAT_ERR c) = 0 := by
  simp [State.goStarted, State.pdeStateSet, State.hf_hfSet_apart, State.hf_hfSet_same, Fld.apart, Fld.ok]

theorem goStarted_dbPend : (s.goStarted c p g).hf (PDE_STAT_DB_PEND c) = s.hf (PDE_STAT_DB_PEND c) := by
  simp [State.goStarted, State.pdeStateSet, State.hf_hfSet_apart, Fld.apart, Fld.ok]

end

/-- The first GO after a commit judges the first descriptor by its generation. -/
theorem pdeGo_fresh {s : State} {c : Nat} (hmode : s.hf (PDE_CFG_MODE c) = 3) (hstate : s.pdeState c = 1) (hfresh : (s.chan c).fresh = true) :
    s.pdeGo c = State.chain c chainFuel
      (if (s.descAt c (s.hf (PDE_BANK0 c))).gen = s.hf (PDE_SIZE_FIRST_GEN c) then .process else .wait)
      (s.goStarted c (s.hf (PDE_BANK0 c)) (s.hf (PDE_SIZE_FIRST_GEN c))) := by
  rw [← (goStarted_moved s c (s.hf (PDE_BANK0 c)) (s.hf (PDE_SIZE_FIRST_GEN c))).descAt]
  dsimp only [State.pdeGo]
  rw [hmode, hstate, if_neg (by decide), if_neg (by decide), hfresh, if_neg (by simp)]
  exact (apply_ite (fun a => State.chain c chainFuel a (s.goStarted c (s.hf (PDE_BANK0 c)) (s.hf (PDE_SIZE_FIRST_GEN c)))) _ _ _).symm

theorem hf_pdeStateSet {c : Nat} {g : Fld} (hg : (PDE_STAT_STATE c).apart g = true) (s : State) (n : Nat) :
    (s.pdeStateSet c n).hf g = s.hf g := State.hf_hfSet_apart _ _ _ _ hg

/-! ### Steps along a chain (R264) -/

section
variable {s : State} {c : Nat} (hroom : s.cqFull (s.hf (PDE_CFG_CQ c)) = false)
include hroom

/-- A descriptor of an input channel waits for an item where its buffer takes a tag and lies within the exchange area. -/
theorem chain_process_input (hmode : s.hf (PDE_CFG_MODE c) = 3) (hlen : 16 ≤ (s.descAt c (s.hf (PDE_CUR c))).len)
    (hbuf : (s.descAt c (s.hf (PDE_CUR c))).buf + (s.descAt c (s.hf (PDE_CUR c))).len ≤ exchangeSize) (k : Nat) :
    State.chain c (k + 1) .process s = s.pdeStateSet c 2 := by
  simp [State.chain, hroom, hmode, Nat.not_lt.2 hlen, Nat.not_lt.2 hbuf]

/-- The channel as it goes on to the descriptor at `p`, with generation `g` expected. -/
def State.goneOn (s : State) (c p g : Nat) : State :=
  ((s.hfSet (PDE_CUR c) p).hfSet (PDE_STAT_EGEN c) g).chanUpd c (fun x => { x with doneCur := false })

theorem chain_link_follows {d : Desc} (hd : d = s.descAt c (s.hf (PDE_CUR c))) (hend : d.end_ = false) (hother : d.next ≠ s.hf (PDE_CUR c))
    (halign : d.next % 16 = 0) (hgen : (s.descAt c d.next).gen = d.ngen) (k : Nat) :
    State.chain c (k + 1) .link s = State.chain c k .process (s.goneOn c d.next d.ngen) := by
  subst hd
  simp [State.chain, hroom, hend, hother, halign, hgen, State.goneOn]

end

theorem goneOn_moved (s : State) (c p g : Nat) : s.Moved (s.goneOn c p g) c := ((State.Moved.refl s c).hfSet.hfSet).chanUpd

theorem goneOn_cur (s : State) (c g : Nat) {p : Nat} (hp : p < 2 ^ 21) : (s.goneOn c p g).hf (PDE_CUR c) = p := by
  simpa [State.goneOn, State.hf_hfSet_apart, State.hf_hfSet_same, Fld.apart, Fld.ok] using hp

theorem goneOn_egen (s : State) (c p : Nat) {g : Nat} (hg : g < 2) : (s.goneOn c p g).hf (PDE_STAT_EGEN c) = g := by
  simpa [State.goneOn, State.hf_hfSet_same, Fld.ok] using hg

/-! ### A doorbell (R264) -/

/-- A parked channel as a doorbell makes it read its link again. -/
def State.rung (s : State) (c : Nat) : State := (s.hfSet (PDE_STAT_DB_PEND c) 0).pdeStateSet c 2

theorem rung_moved (s : State) (c : Nat) : s.Moved (s.rung c) c := (State.Moved.refl s c).hfSet.pdeStateSet

theorem rung_cur (s : State) (c : Nat) : (s.rung c).hf (PDE_CUR c) = s.hf (PDE_CUR c) := by
  simp [State.rung, State.pdeStateSet, State.hf_hfSet_apart, Fld.apart, Fld.ok]

theorem rung_dbPend (s : State) (c : Nat) : (s.rung c).hf (PDE_STAT_DB_PEND c) = 0 := by
  simp [State.rung, State.pdeStateSet, State.hf_hfSet_apart, State.hf_hfSet_same, Fld.apart, Fld.ok]

section
variable {s : State} {c : Nat} (hmode : 3 ≤ s.hf (PDE_CFG_MODE c))
include hmode

theorem pdeDoorbell_active (hstate : s.pdeState c = 2 ∨ s.pdeState c = 4) : s.pdeDoorbell c = s.hfSet (PDE_STAT_DB_PEND c) 1 := by
  rcases hstate with h | h <;> simp [State.pdeDoorbell, Nat.not_lt.2 hmode, h]

theorem pdeDoorbell_parked (hstate : s.pdeState c = 3) : s.pdeDoorbell c = State.chain c chainFuel .link (s.rung c) := by
  simp [State.pdeDoorbell, Nat.not_lt.2 hmode, hstate, State.rung]

end

/-! ### ABORT (R275) -/

theorem pdeAbort_idle {s : State} {c : Nat} (hmode : s.hf (PDE_CFG_MODE c) = 3 ∨ s.hf (PDE_CFG_MODE c) = 4)
    (hstate : s.pdeState c = 2 ∨ s.pdeState c = 3 ∨ s.pdeState c = 4) (hout : (s.chan c).out = none) :
    s.pdeAbort c = (s.hfSet (PDE_RESID c) 0).pdeStopAt c := by
  rw [State.pdeAbort, if_neg (by omega), if_neg (by simp; omega), hout]

/-- A channel that stops stands at the descriptor where it was, or at the next one if that one is done. -/
theorem pdeStopAt_moved {s : State} {c : Nat} (hstate : s.pdeState c ≠ 0) : ∃ u, s.pdeStopAt c = u.pdeStateSet c 5 ∧ s.Moved u c ∧
    u.hf (PDE_RESID c) = s.hf (PDE_RESID c) ∧ ((s.chan c).doneCur = false → u.hf (PDE_CUR c) = s.hf (PDE_CUR c)) := by
  rw [State.pdeStopAt]
  split
  next hnext =>
    refine ⟨_, rfl, goneOn_moved s c _ _, ?_, fun hdone => by simp [hdone] at hnext⟩
    simp [State.hf_hfSet_apart, Fld.apart, Fld.ok]
  next => exact ⟨s, rfl, .refl s c, rfl, fun _ => rfl⟩

/-! ### The four commands on a channel -/

theorem desc_next_lt (s : State) (c p : Nat) : (s.descAt c p).next < 2 ^ 21 := Nat.mod_lt _ (by decide)

theorem desc_ngen_lt (s : State) (c p : Nat) : (s.descAt c p).ngen < 2 := by
  show b2n _ < 2
  cases bitOf _ _ <;> decide

section
variable {s : State} {c : Nat} (hc : c < 192) (hroom : s.cqFull (s.hf (PDE_CFG_CQ c)) = false)
include hc hroom

theorem pdeGo_active {d : Desc} (hmode : s.hf (PDE_CFG_MODE c) = 3) (hstate : s.pdeState c = 1) (hfresh : (s.chan c).fresh = true)
    (hd : d = s.descAt c (s.hf (PDE_BANK0 c))) (hgen : d.gen = s.hf (PDE_SIZE_FIRST_GEN c)) (hlen : 16 ≤ d.len)
    (hbuf : d.buf + d.len ≤ exchangeSize) :
    (s.pdeGo c).pdeState c = 2 ∧ (s.pdeGo c).hf (PDE_CUR c) = s.hf (PDE_BANK0 c) ∧ (s.pdeGo c).hf (PDE_STAT_ERR c) = 0 ∧
      ∀ k, ((s.pdeGo c).lane k).mem = (s.lane k).mem := by
  have hmoved := goStarted_moved s c (s.hf (PDE_BANK0 c)) (s.hf (PDE_SIZE_FIRST_GEN c))
  have hcur := goStarted_cur s c (s.hf (PDE_BANK0 c)) (s.hf (PDE_SIZE_FIRST_GEN c)) (hf_lt ..)
  subst hd
  rw [pdeGo_fresh hmode hstate hfresh, if_pos hgen, chainFuel, chain_process_input (hmoved.room hc hroom) ((hmoved.field _ .of_reg).trans hmode)
    (by rwa [hcur, hmoved.descAt]) (by rwa [hcur, hmoved.descAt]) 39999]
  refine ⟨pdeState_pdeStateSet_same _ _ (by decide), ?_, ?_, hmoved.pdeStateSet.mem⟩
  · rw [hf_pdeStateSet Fld.apart_of_reg, hcur]
  · rw [hf_pdeStateSet (by simp [Fld.apart, Fld.ok]), goStarted_err]

theorem pdeGo_parked (hmode : s.hf (PDE_CFG_MODE c) = 3) (hstate : s.pdeState c = 1) (hfresh : (s.chan c).fresh = true)
    (hquiet : s.hf (PDE_STAT_DB_PEND c) = 0) (hgen : (s.descAt c (s.hf (PDE_BANK0 c))).gen ≠ s.hf (PDE_SIZE_FIRST_GEN c)) :
    (s.pdeGo c).pdeState c = 3 ∧ (s.pdeGo c).hf (PDE_CUR c) = s.hf (PDE_BANK0 c) := by
  have hmoved := goStarted_moved s c (s.hf (PDE_BANK0 c)) (s.hf (PDE_SIZE_FIRST_GEN c))
  rw [pdeGo_fresh hmode hstate hfresh, if_neg hgen, chainFuel, chain_wait_parks (hmoved.room hc hroom) ((goStarted_dbPend ..).trans hquiet) 39999]
  exact ⟨pdeState_pdeStateSet_same _ _ (by decide), (hf_pdeStateSet Fld.apart_of_reg ..).trans (goStarted_cur _ _ _ _ (hf_lt ..))⟩

/-- A doorbell finds that the chain has ended. -/
theorem pdeDoorbell_ended (hmode : 3 ≤ s.hf (PDE_CFG_MODE c)) (hstate : s.pdeState c = 3)
    (hend : (s.descAt c (s.hf (PDE_CUR c))).end_ = true) :
    (s.pdeDoorbell c).pdeState c = 3 ∧ (s.pdeDoorbell c).hf (PDE_STAT_DB_PEND c) = 0 ∧
      (s.pdeDoorbell c).hf (PDE_CUR c) = s.hf (PDE_CUR c) := by
  have hmoved := rung_moved s c
  rw [pdeDoorbell_parked hmode hstate, chain_link_end (hmoved.room hc hroom) (by rw [rung_cur, hmoved.descAt, hend]) (rung_dbPend ..)]
  refine ⟨pdeState_pdeStateSet_same _ _ (by decide), ?_, ?_⟩
  · rw [hf_pdeStateSet (by simp [Fld.apart, Fld.ok]), rung_dbPend]
  · rw [hf_pdeStateSet Fld.apart_of_reg, rung_cur]

/-- A doorbell finds the next descriptor of the chain. -/
theorem pdeDoorbell_linked {d e : Desc} (hmode : s.hf (PDE_CFG_MODE c) = 3) (hstate : s.pdeState c = 3)
    (hd : d = s.descAt c (s.hf (PDE_CUR c))) (hend : d.end_ = false) (hother : d.next ≠ s.hf (PDE_CUR c)) (halign : d.next % 16 = 0)
    (he : e = s.descAt c d.next) (hgen : e.gen = d.ngen) (hlen : 16 ≤ e.len) (hbuf : e.buf + e.len ≤ exchangeSize) :
    (s.pdeDoorbell c).pdeState c = 2 ∧ (s.pdeDoorbell c).hf (PDE_CUR c) = d.next ∧ (s.pdeDoorbell c).hf (PDE_STAT_EGEN c) = d.ngen := by
  have hrung := rung_moved s c
  have hgone := goneOn_moved (s.rung c) c d.next d.ngen
  have hcur : ((s.rung c).goneOn c d.next d.ngen).hf (PDE_CUR c) = d.next := goneOn_cur _ _ _ (hd ▸ desc_next_lt ..)
  have hroom' := hrung.room hc hroom
  have hdesc : ((s.rung c).goneOn c d.next d.ngen).descAt c d.next = e := by rw [hgone.descAt, hrung.descAt, he]
  rw [pdeDoorbell_parked hmode.ge hstate, chainFuel, chain_link_follows hroom' (by rw [rung_cur, hrung.descAt, hd]) hend
    (by rwa [rung_cur]) halign (by rw [hrung.descAt, ← he, hgen]) 39999, chain_process_input (hgone.room hc hroom')
    (by rw [hgone.field _ .of_reg, hrung.field _ .of_reg, hmode]) (by rwa [hcur, hdesc]) (by rwa [hcur, hdesc]) 39998]
  refine ⟨pdeState_pdeStateSet_same _ _ (by decide), ?_, ?_⟩
  · rw [hf_pdeStateSet Fld.apart_of_reg, hcur]
  · rw [hf_pdeStateSet (by simp [Fld.apart, Fld.ok]), goneOn_egen _ _ _ (hd ▸ desc_ngen_lt ..)]

end

theorem pdeGo_circular {s : State} {c : Nat} (hmode : s.hf (PDE_CFG_MODE c) = 5) (hstate : s.pdeState c = 1) :
    (s.pdeGo c).pdeState c = 2 ∧ (s.pdeGo c).hf (PDE_WR c) = s.hf (PDE_WR c) := by
  have heq : s.pdeGo c = (s.pdeStateSet c 2).hfSet (PDE_STAT_ERR c) 0 := by simp [State.pdeGo, hmode, hstate]
  rw [heq]
  refine ⟨?_, ?_⟩
  · rw [State.pdeState, State.hf_hfSet_apart _ _ _ _ (by simp [Fld.apart, Fld.ok])]
    exact pdeState_pdeStateSet_same _ _ (by decide)
  · rw [State.hf_hfSet_apart _ _ _ _ Fld.apart_of_reg, hf_pdeStateSet Fld.apart_of_reg]

theorem pdeAbort_stops {s : State} {c : Nat} (hmode : s.hf (PDE_CFG_MODE c) = 3 ∨ s.hf (PDE_CFG_MODE c) = 4)
    (hstate : s.pdeState c = 2 ∨ s.pdeState c = 3 ∨ s.pdeState c = 4) (hout : (s.chan c).out = none) :
    (s.pdeAbort c).pdeState c = 5 ∧ (s.pdeAbort c).hf (PDE_RESID c) = 0 ∧
      ((s.chan c).doneCur = false → (s.pdeAbort c).hf (PDE_CUR c) = s.hf (PDE_CUR c)) ∧
      ∀ k, ((s.pdeAbort c).lane k).mem = (s.lane k).mem := by
  have hsame : (s.hfSet (PDE_RESID c) 0).pdeState c = s.pdeState c := State.hf_hfSet_apart _ _ _ _ Fld.apart_of_reg
  obtain ⟨u, hu, hmoved, hresid, hcur⟩ := pdeStopAt_moved (s := s.hfSet (PDE_RESID c) 0) (c := c) (by omega)
  rw [pdeAbort_idle hmode hstate hout, hu]
  refine ⟨pdeState_pdeStateSet_same _ _ (by decide), ?_, fun hdone => ?_, fun k => ?_⟩
  · rw [hf_pdeStateSet Fld.apart_of_reg, hresid, hf_hfSet_fits _ rfl (Nat.two_pow_pos _)]
  · rw [hf_pdeStateSet Fld.apart_of_reg, hcur (by rwa [chan_hfSet]), State.hf_hfSet_apart _ _ _ _ Fld.apart_of_reg]
  · rw [hmoved.pdeStateSet.mem, State.hfSet_lane]

/-! ### The report of a sink (R267) -/

/-- The channel without the item that its sink has reported on, counted if it went out. -/
def State.outTaken (s : State) (c status : Nat) : State :=
  let s := s.chanUpd c (fun x => { x with out := none, onWire := false, retries := 0, cancel := false })
  if status = 0 then s.itemDelivered c s.hub.frame else s

theorem outputDone_eq {s : State} {c : Nat} {it : Item} (hout : (s.chan c).out = some it) (status : Nat) : s.outputDone c status =
    ((s.outTaken c status).descDone c status (16 + it.payload.length) (s.outTaken c status).hub.frame).pdeGoOn c := by
  rw [State.outputDone, hout]
  rfl

section
variable (s : State) (c status : Nat)

theorem hf_outTaken {g : Fld} (hg : g.OffCounts c) : (s.outTaken c status).hf g = s.hf g := by
  unfold State.outTaken
  dsimp only
  split
  · rw [hf_itemDelivered _ _ hg, State.hf_chanUpd]
  · rw [State.hf_chanUpd]

@[simp] theorem outTaken_lane (l : LaneId) : (s.outTaken c status).lane l = s.lane l := by
  unfold State.outTaken
  dsimp only
  split <;> simp

@[simp] theorem outTaken_supplied : (s.outTaken c status).hub.supplied = s.hub.supplied := by
  unfold State.outTaken
  dsimp only
  split
  · rw [itemDelivered_supplied]; rfl
  · rfl

theorem chan_outTaken : (s.outTaken c status).chan c = { s.chan c with out := none, onWire := false, retries := 0, cancel := false } := by
  unfold State.outTaken
  dsimp only
  split
  · rw [chan_itemDelivered, State.chan_chanUpd_same]
  · rw [State.chan_chanUpd_same]

end

/-- An aborted channel stops once its descriptor's record is written. -/
theorem pdeGoOn_aborted {s t : State} {c q word : Nat} {l : LaneId} {rest : List Byte}
    (hrec : s.Recorded t c q l word rest) (hactive : s.pdeState c ≠ 0) (habort : (s.chan c).abort = true) :
    (t.pdeGoOn c).pdeState c = 5 ∧ t.Moved (t.pdeGoOn c) c := by
  obtain ⟨done, b, hchan⟩ := hrec.chan
  have hstops : t.pdeGoOn c = ((t.chanUpd c (fun x => { x with abort := false })).hfSet (PDE_CTL_ABORT c) 0).pdeStopAt c := by
    rw [State.pdeGoOn, hchan, habort, if_pos rfl]
  have hstate : ((t.chanUpd c (fun x => { x with abort := false })).hfSet (PDE_CTL_ABORT c) 0).pdeState c = t.pdeState c :=
    (State.hf_hfSet_apart _ _ _ _ Fld.apart_of_reg).trans (State.hf_chanUpd ..)
  have hnonzero : t.pdeState c ≠ 0 := by
    rw [hrec.state]
    split
    · decide
    · exact hactive
  obtain ⟨u, hu, hmoved, -, -⟩ := pdeStopAt_moved (hstate.trans_ne hnonzero)
  have hcleared : t.Moved ((t.chanUpd c (fun x => { x with abort := false })).hfSet (PDE_CTL_ABORT c) 0) c :=
    (State.Moved.refl t c).chanUpd.hfSet
  rw [hstops, hu]
  exact ⟨pdeState_pdeStateSet_same _ _ (by decide), (hcleared.trans hmoved).pdeStateSet⟩

/-- What a sink's report leaves where queue `q` has its next record in `s`. -/
structure State.Reported (s t : State) (c q : Nat) (l : LaneId) (status : Nat) : Prop where
  out : (t.chan c).out = none
  head : t.hf (PDE_CQ_HEAD q) = (s.hf (PDE_CQ_HEAD q) + 1) % 2 ^ 32
  word : t.lmem l (exchangeBase + s.cqSlot q) 4 = leBytes 4 (s.recordWord c q status)

section
variable {s : State} {c q : Nat} {l : LaneId} {it : Item} (hout : (s.chan c).out = some it) (status : Nat)
include hout

theorem outputDone_last (h : s.AtLast c q l) : s.Reported (s.outputDone c status) c q l status ∧
    (s.outputDone c status).pdeState c = if (s.outputDone c status).cqFull q then 4 else 3 := by
  have hended := h.ended_after (fun _ => hf_outTaken s c status) (h.takes.of_lane (by simp) (by simp)) (by rw [chan_outTaken])
    (by simp [State.lmem]) status (16 + it.payload.length) (s.outTaken c status).hub.frame
  rw [outputDone_eq hout]
  exact ⟨⟨hended.out.trans (by rw [chan_outTaken]), hended.head, hended.word⟩, hended.state⟩

theorem outputDone_aborted (h : s.Completes c q l) (hactive : s.pdeState c ≠ 0) (habort : (s.chan c).abort = true) :
    s.Reported (s.outputDone c status) c q l status ∧ (s.outputDone c status).pdeState c = 5 := by
  have hc := h.chan
  have hkept (g : Fld) (hg : g.OffCounts c) : (s.outTaken c status).hf g = s.hf g := hf_outTaken s c status hg
  obtain ⟨htaken, hslot⟩ := h.congr hkept (h.takes.of_lane (by simp) (by simp))
  have hword : (s.outTaken c status).recordWord c q status = s.recordWord c q status := by
    rw [State.recordWord, hkept _ .of_reg, hkept _ .of_reg, State.recordWord]
  have hrec := descDone_recorded htaken status (16 + it.payload.length) (s.outTaken c status).hub.frame
  obtain ⟨hstate, hmoved⟩ := pdeGoOn_aborted hrec ((hkept _ .of_reg).trans_ne hactive) (by rw [chan_outTaken, habort])
  obtain ⟨done, b, hchan⟩ := hrec.chan
  rw [outputDone_eq hout]
  refine ⟨⟨?_, ?_, ?_⟩, hstate⟩
  · rw [hmoved.out, hchan, chan_outTaken]
  · rw [hmoved.field _ .of_reg, hrec.head, hkept _ .of_reg]
  · rw [hmoved.lmem, ← hslot, hrec.word, hword]

end

/-! ### The lane that commands a channel (R253) -/

theorem placeHas_placeLane {p : Nat} (h1 : 1 ≤ p) (h4 : p < 4) : placeHas p (placeLane p) = true := by
  interval_cases p <;> rfl

theorem pdeMay_placeLane {s : State} {c : Nat} (hc : c < 192) (hmode : s.hf (PDE_CFG_MODE c) ≠ 0) (hplace : 1 ≤ s.hf (PDE_CFG_PLACE c)) :
    s.pdeMay (placeLane (s.hf (PDE_CFG_PLACE c))) c = true :=
  pdeMay_of_placed hc hmode (placeHas_placeLane hplace (hf_lt ..))

section
variable {s : State} {l : LaneId} {c : Nat} (hs : s.hub.supplied = true) (hmay : s.pdeMay l c = true) (core pc : Nat)
include hs hmay

theorem exec_pdeGo : exec (.pdeGo l core pc c) s = .next (s.pdeGo c) := congrArg Host.Outcome.next (chanWrite_of_may hs hmay ..)

theorem exec_pdeDoorbell : exec (.pdeDoorbell l core pc c) s = .next (s.pdeDoorbell c) :=
  congrArg Host.Outcome.next (chanWrite_of_may hs hmay ..)

theorem exec_pdeAbort : exec (.pdeAbort l core pc c) s = .next (s.pdeAbort c) := congrArg Host.Outcome.next (chanWrite_of_may hs hmay ..)

end

theorem exec_queuedOutputComplete {s : State} {c status : Nat} (hs : s.hub.supplied = true) (hmode : s.hf (PDE_CFG_MODE c) = 4)
    (hstatus : status = 0 ∨ status = 7 ∨ status = 8) : exec (.queuedOutputComplete c status) s = .next (s.outputDone c status) := by
  show execQueuedOutputComplete c status s = _
  rw [execQueuedOutputComplete, if_pos (by simpa [hs, hmode, or_assoc] using hstatus)]

/-- Settles O29: GO, the doorbell and ABORT by the state of the channel, and the sink's report with an abort pending and without. -/
theorem chainsStartParkAndStop : Obligations.ChainsStartParkAndStop := by
  unfold Obligations.ChainsStartParkAndStop
  intro s c core pc l hs hc hl hplace hroom
  have hmay (hmode : s.hf (PDE_CFG_MODE c) ≠ 0) : s.pdeMay l c = true := hl ▸ pdeMay_placeLane hc hmode hplace
  refine ⟨fun hmode hstate hfresh _ hquiet => ?_, fun hmode hstate => ?_, fun hmode => ?_,
    fun it status q slot cur hmode hout hup hseal hstatus hq howned hactive hcur hslot hwithin hcase => ?_⟩
  · have hexec := exec_pdeGo hs (hmay (by omega)) core pc
    exact ⟨fun d hd hgen hlen hbuf => ⟨_, hexec, pdeGo_active hc hroom hmode hstate hfresh hd hgen hlen hbuf⟩,
      fun hgen => ⟨_, hexec, pdeGo_parked hc hroom hmode hstate hfresh hquiet hgen⟩⟩
  · exact ⟨_, exec_pdeGo hs (hmay (by omega)) core pc, pdeGo_circular hmode hstate⟩
  · have hexec := exec_pdeDoorbell hs (hmay (by omega)) core pc
    refine ⟨fun hstate => ⟨_, hexec, ?_⟩, fun hstate hend => ⟨_, hexec, pdeDoorbell_ended hc hroom (by omega) hstate hend⟩,
      fun d e hinput hstate hd hend hother halign he hgen hlen hbuf =>
        ⟨_, hexec, pdeDoorbell_linked hc hroom hinput hstate hd hend hother halign he hgen hlen hbuf⟩,
      fun hout hstate => ⟨_, exec_pdeAbort hs (hmay (by omega)) core pc, pdeAbort_stops hmode hstate hout⟩⟩
    rw [pdeDoorbell_active (by omega) hstate]
    exact ⟨hf_hfSet_fits _ rfl (Nat.one_lt_two_pow (by simp)), State.hf_hfSet_apart _ _ _ _ (by simp [Fld.apart, Fld.ok])⟩
  · obtain rfl : slot = s.cqSlot q := hslot
    subst hcur
    have hcompletes : s.Completes c q l :=
      { chan := hc, mode := .inr hmode, queue := hq.symm, lane := hl.symm, takes := ⟨hup, hseal⟩, owned := howned, room := hwithin }
    refine ⟨_, exec_queuedOutputComplete hs hmode hstatus, ?_⟩
    rcases hcase with habort | ⟨habort, hstate, hend, hquiet, hapart⟩
    · obtain ⟨hreported, hstops⟩ := outputDone_aborted hout status hcompletes hactive habort
      exact ⟨hreported.out, by rw [hstops, habort, if_pos rfl], hreported.head, hreported.word⟩
    · obtain ⟨hreported, hparks⟩ := outputDone_last hout status ⟨hcompletes, hstate, hend, hquiet, habort, hapart⟩
      exact ⟨hreported.out, by rw [hparks, habort, if_neg Bool.false_ne_true], hreported.head, hreported.word⟩

end Sys2Proof.Machine

/-! Completion queues (09 R272): a lane claims one, releases it, and takes records off it. -/

namespace Sys2Proof.Machine

-- One theorem after the other, as the model's tests: elaborated side by side they would exceed the check's memory limit.
set_option Elab.async false

/-! ### Writes to a queue's registers -/

section
variable {s : State} {l : LaneId} {q : Nat} {f : State → Option State} (hs : s.hub.supplied = true) (hq : q < 32) (core pc reg : Nat)
include hs hq

theorem queueWrite_of_some {t : State} (h : f s = some t) : s.queueWrite l core pc reg q f = t := by
  simp [State.queueWrite, hs, Nat.not_le.2 hq, h]

theorem queueWrite_of_none (h : f s = none) : s.queueWrite l core pc reg q f = s.windowFault l core pc reg := by
  simp [State.queueWrite, hs, Nat.not_le.2 hq, h]

end

/-- Queue `q` empty, with `w` in its base register. -/
def State.cqRenewed (s : State) (q : Nat) (w : Word) : State :=
  (((s.hregSet (PDE_CQ_BASE q).reg w).hfSet (PDE_CQ_HEAD q) 0).hfSet (PDE_CQ_TAIL q) 0).hfSet (PDE_CQ_STAT_FULL q) 0

section
variable (s : State) (q : Nat) (w : Word)

theorem hf_cqRenewed_base {g : Fld} (hreg : g.reg = (PDE_CQ_BASE q).reg := by rfl) (hg : g.lo ≤ g.hi := by simp) :
    (s.cqRenewed q w).hf g = fldGet g w := by
  have hfull : (PDE_CQ_STAT_FULL q).apart g = true := Fld.apart_of_reg rfl hg (by rw [hreg]; simp)
  have htail : (PDE_CQ_TAIL q).apart g = true := Fld.apart_of_reg rfl hg (by rw [hreg]; simp)
  have hhead : (PDE_CQ_HEAD q).apart g = true := Fld.apart_of_reg rfl hg (by rw [hreg]; simp)
  rw [State.cqRenewed, State.hf_hfSet_apart _ _ _ _ hfull, State.hf_hfSet_apart _ _ _ _ htail, State.hf_hfSet_apart _ _ _ _ hhead, State.hf,
    hreg, State.hreg_hregSet_same]

theorem hf_cqRenewed_head : (s.cqRenewed q w).hf (PDE_CQ_HEAD q) = 0 := by
  rw [State.cqRenewed, State.hf_hfSet_apart _ _ _ _ Fld.apart_of_reg, State.hf_hfSet_apart _ _ _ _ Fld.apart_of_reg]
  exact hf_hfSet_fits _ rfl (Nat.two_pow_pos _)

theorem hf_cqRenewed_tail : (s.cqRenewed q w).hf (PDE_CQ_TAIL q) = 0 := by
  rw [State.cqRenewed, State.hf_hfSet_apart _ _ _ _ Fld.apart_of_reg]
  exact hf_hfSet_fits _ rfl (Nat.two_pow_pos _)

end

/-- The word of a queue's base register: the lane that owns it, its size and its base. -/
def cqBaseWord (l : LaneId) (m base : Nat) : Word := BitVec.ofNat 64 ((l.idx + 1) * 2 ^ 30 + m * 2 ^ 21 + base)

section
variable (l : LaneId) {m base : Nat} (q : Nat) (hm : m ≤ 12) (hbase : base < 2 ^ 21)
include hm hbase

theorem cqBaseWord_fields : fldGet (PDE_CQ_BASE_OWNER q) (cqBaseWord l m base) = l.idx + 1 ∧
    fldGet (PDE_CQ_BASE_M q) (cqBaseWord l m base) = m ∧ fldGet (PDE_CQ_BASE_BASE q) (cqBaseWord l m base) = base := by
  have hl : l.idx < 3 := by cases l <;> decide
  simp only [fldGet, cqBaseWord, BitVec.toNat_ofNat, bitsOf]
  omega

theorem cqBaseWrite_claims {s : State} (hfree : s.cqNamed q = false)
    (howner : s.hf (PDE_CQ_BASE_OWNER q) = 0 ∨ s.hf (PDE_CQ_BASE_OWNER q) = l.idx + 1) (hmin : 4 ≤ m) (halign : base % (16 * 2 ^ m) = 0) :
    s.cqBaseWrite l q (m * 2 ^ 21 + base) = some (s.cqRenewed q (cqBaseWord l m base)) := by
  have hsize : bitsOf (m * 2 ^ 21 + base) 24 21 = m := by simp only [bitsOf]; omega
  have hplace : bitsOf (m * 2 ^ 21 + base) 20 0 = base := by simp only [bitsOf]; omega
  have hmay : ¬(s.hf (PDE_CQ_BASE_OWNER q) ≠ 0 ∧ (!s.cqOwned l q) = true) := by
    rintro ⟨howned, hother⟩
    simp [State.cqOwned, howner.resolve_left howned] at hother
  simp only [State.cqBaseWrite, hsize, hplace]
  rw [if_neg hmay, if_neg (by omega), if_neg (by simp [hfree, halign]; omega)]
  rfl

end

section
variable {s : State} {l : LaneId} {q : Nat}

/-- The queue of another lane. -/
theorem cqBaseWrite_other (howned : s.hf (PDE_CQ_BASE_OWNER q) ≠ 0) (hother : s.hf (PDE_CQ_BASE_OWNER q) ≠ l.idx + 1) (v : Nat) :
    s.cqBaseWrite l q v = none :=
  if_pos ⟨howned, by simp [State.cqOwned, hother]⟩

theorem cqTailWrite_other (hother : s.hf (PDE_CQ_BASE_OWNER q) ≠ l.idx + 1) (v : Nat) : s.cqTailWrite l q v = none :=
  if_pos (by simp [State.cqOwned, hother])

variable (howned : s.hf (PDE_CQ_BASE_OWNER q) = l.idx + 1)
include howned

/-- A queue is released while no armed channel names it. -/
theorem cqBaseWrite_zero : s.cqBaseWrite l q 0 = some (if s.cqNamed q then s else s.cqRenewed q 0) := by
  have hmay : ¬(s.hf (PDE_CQ_BASE_OWNER q) ≠ 0 ∧ (!s.cqOwned l q) = true) := by simp [State.cqOwned, howned]
  refine (if_neg hmay).trans ((if_pos rfl).trans ?_)
  cases hnamed : s.cqNamed q with
  | true => exact if_pos (.inr rfl)
  | false => exact if_neg (by simp [howned])

theorem cqTailWrite_owned {v : Nat} (hv : v < 2 ^ 32) : s.cqTailWrite l q v =
    if 2 ^ s.hf (PDE_CQ_BASE_M q) < (s.hf (PDE_CQ_HEAD q) + 2 ^ 32 - v) % 2 ^ 32 then some s
    else
      let t := s.hfSet (PDE_CQ_TAIL q) v
      some (if t.cqFull q then t else (t.hfSet (PDE_CQ_STAT_FULL q) 0).cqResume q) := by
  have hown : (!s.cqOwned l q) = false := by simp [State.cqOwned, howned]
  simp only [State.cqTailWrite, hown, Bool.false_eq_true, if_false, Nat.mod_eq_of_lt hv, State.cqSize, apply_ite some]

end

/-! ### What stalled channels leave as they go on (R274) -/

/-- A completion record leaves what is off it, whether or not it can be written. -/
theorem hf_cqWrite {s : State} {c : Nat} {g : Fld} (hg : g.OffRecord c (s.hf (PDE_CFG_CQ c))) (p cookie status xfer frameLo : Nat) (irq : Bool) :
    (s.cqWrite c p cookie status xfer frameLo irq).hf g = s.hf g := by
  unfold State.cqWrite
  dsimp only
  split
  · rfl
  · refine (hf_stallIfFull _ _ hg.toOffStall).trans ((hf_causeCq _ c irq hg.cause).trans ?_)
    rw [State.hf_hfSet_apart _ _ _ _ hg.head, (inbound_laneTx ..).hf, (inbound_laneTx ..).hf]

/-- A format error of a CAN item is counted beside the queues. -/
theorem tail_countFormat {q : Nat} (_ : q < 32) (s : State) (status port : Nat) :
    (if status = 7 then s.hcount (CAN_CNT_DROP_FORMAT port) 1 else s).hf (PDE_CQ_TAIL q) = s.hf (PDE_CQ_TAIL q) := by
  split
  · exact State.hf_hcount_apart _ _ _ _ Fld.apart_of_reg
  · rfl

section
variable {c q : Nat} (hc : c < 192)
include hc

theorem tail_descDone (s : State) (status xfer frame : Nat) :
    (s.descDone c status xfer frame).hf (PDE_CQ_TAIL q) = s.hf (PDE_CQ_TAIL q) :=
  (hf_cqWrite (.of_queue hc) ..).trans (State.hf_chanUpd ..)

theorem tail_descError (s : State) (p cookie code : Nat) (irq : Bool) :
    (s.descError c p cookie code irq).hf (PDE_CQ_TAIL q) = s.hf (PDE_CQ_TAIL q) := by
  rw [State.descError, State.hf_hubEvt, State.pdeInt, State.hf_hfSet_apart _ _ _ _ Fld.apart_of_reg, State.hf_hcount_apart _ _ _ _ Fld.apart_of_reg,
    State.hf_hfSet_apart _ _ _ _ Fld.apart_of_reg, hf_pdeStateSet Fld.apart_of_reg]
  exact hf_cqWrite (.of_queue hc) ..

theorem tail_pdeStateSet (s : State) (n : Nat) : (s.pdeStateSet c n).hf (PDE_CQ_TAIL q) = s.hf (PDE_CQ_TAIL q) :=
  hf_pdeStateSet Fld.apart_of_reg ..

theorem tail_chainStall (s : State) (parked : Bool) : (s.chainStall c parked).hf (PDE_CQ_TAIL q) = s.hf (PDE_CQ_TAIL q) :=
  (tail_pdeStateSet hc ..).trans (State.hf_chanUpd ..)

theorem tail_goneOn (s : State) (p g : Nat) : (s.goneOn c p g).hf (PDE_CQ_TAIL q) = s.hf (PDE_CQ_TAIL q) :=
  (goneOn_moved s c p g).field _ .of_reg

/-- A chain that is followed leaves every queue's TAIL. -/
theorem tail_chain (hq : q < 32) (k : Nat) (a : ChainAt) (s : State) : (State.chain c k a s).hf (PDE_CQ_TAIL q) = s.hf (PDE_CQ_TAIL q) := by
  induction k generalizing a s with
  | zero => rfl
  | succ k ih =>
    have hlink (t : State) : (if t.pdeState c = 2 then State.chain c k .link t else t).hf (PDE_CQ_TAIL q) = t.hf (PDE_CQ_TAIL q) := by
      split
      · exact ih ..
      · rfl
    cases a with
    | wait =>
      rw [State.chain]
      split
      · exact tail_chainStall hc ..
      · split
        · rw [ih, State.hf_hfSet_apart _ _ _ _ Fld.apart_of_reg]
        · exact tail_pdeStateSet hc ..
    | link =>
      rw [State.chain]
      dsimp only
      split
      · exact tail_chainStall hc ..
      · split
        · exact ih ..
        · split
          · exact tail_descError hc ..
          · split
            · exact (ih ..).trans (tail_goneOn hc ..)
            · exact ih ..
    | process =>
      rw [State.chain]
      dsimp only
      split
      · exact tail_chainStall hc ..
      · split
        · exact tail_descError hc ..
        · split
          · split
            · exact tail_descError hc ..
            · exact tail_pdeStateSet hc ..
          · split
            · exact tail_pdeStateSet hc ..
            · split
              · rw [State.hf_chanUpd, tail_pdeStateSet hc]
              · rw [hlink, tail_descDone hc, tail_countFormat hq, tail_pdeStateSet hc]

end

/-- A stalled channel goes on, while queue `q` has room. -/
def State.resumeOne (s : State) (q c : Nat) : State :=
  if s.cqFull q then s
  else if (s.chan c).parked then
    if s.hf (PDE_STAT_DB_PEND c) = 1 then State.chain c chainFuel .wait (s.pdeStateSet c 2) else s.pdeStateSet c 3
  else
    let s := s.pdeStateSet c 2
    if (s.chan c).out.isSome then s
    else if (s.chan c).doneCur then State.chain c chainFuel .link s
    else State.chain c chainFuel .process s

theorem cqResume_eq (s : State) (q : Nat) : s.cqResume q = ((s.cqUsers q).filter (fun c => s.pdeState c = 4)).foldl (·.resumeOne q) s := rfl

theorem tail_resumeOne {c p q : Nat} (hc : c < 192) (hq : q < 32) (s : State) :
    (s.resumeOne p c).hf (PDE_CQ_TAIL q) = s.hf (PDE_CQ_TAIL q) := by
  unfold State.resumeOne
  dsimp only
  split
  · rfl
  · split
    · split
      · rw [tail_chain hc hq, tail_pdeStateSet hc]
      · exact tail_pdeStateSet hc ..
    · split
      · exact tail_pdeStateSet hc ..
      · split <;> rw [tail_chain hc hq, tail_pdeStateSet hc]

theorem tail_cqResume {p q : Nat} (hq : q < 32) (s : State) : (s.cqResume p).hf (PDE_CQ_TAIL q) = s.hf (PDE_CQ_TAIL q) := by
  have hall (cs : List Nat) : ∀ t : State, (∀ c ∈ cs, c < 192) → (cs.foldl (·.resumeOne p) t).hf (PDE_CQ_TAIL q) = t.hf (PDE_CQ_TAIL q) := by
    induction cs with
    | nil => exact fun _ _ => rfl
    | cons c cs ih =>
      intro t hcs
      rw [List.foldl_cons, ih _ fun d hd => hcs d (List.mem_cons_of_mem _ hd), tail_resumeOne (hcs c List.mem_cons_self) hq]
  exact hall _ _ fun c hc => (mem_cqUsers.1 (List.mem_filter.1 hc).1).chan

/-- Without a stalled channel nothing goes on. -/
theorem cqResume_none {s : State} (h : ∀ c < 192, s.pdeState c ≠ 4) (q : Nat) : s.cqResume q = s := by
  have hnone : (s.cqUsers q).filter (fun c => s.pdeState c = 4) = [] :=
    List.filter_eq_nil_iff.2 fun c hc => by simpa using h c (mem_cqUsers.1 hc).chan
  rw [cqResume_eq, hnone, List.foldl_nil]

/-! ### The commands on a queue -/

section
variable {s : State} {l : LaneId} {q : Nat} (hs : s.hub.supplied = true) (hq : q < 32) (core pc : Nat)
include hs hq

theorem exec_pdeCqClaim_claims {m base : Nat} (hfree : s.cqNamed q = false)
    (howner : s.hf (PDE_CQ_BASE_OWNER q) = 0 ∨ s.hf (PDE_CQ_BASE_OWNER q) = l.idx + 1) (hmin : 4 ≤ m) (hm : m ≤ 12) (hbase : base < 2 ^ 21)
    (halign : base % (16 * 2 ^ m) = 0) :
    exec (.pdeCqClaim l core pc q (m * 2 ^ 21 + base)) s = .next (s.cqRenewed q (cqBaseWord l m base)) :=
  congrArg Host.Outcome.next (queueWrite_of_some hs hq _ _ _ (cqBaseWrite_claims l q hm hbase hfree howner hmin halign))

theorem exec_queue_other (howned : s.hf (PDE_CQ_BASE_OWNER q) ≠ 0) (hother : s.hf (PDE_CQ_BASE_OWNER q) ≠ l.idx + 1) (v : Nat) :
    exec (.pdeCqClaim l core pc q v) s = .next (s.windowFault l core pc (PDE_CQ_BASE q).reg) ∧
      exec (.pdeCqRelease l core pc q) s = .next (s.windowFault l core pc (PDE_CQ_BASE q).reg) ∧
      exec (.pdeCqTailWrite l core pc q v) s = .next (s.windowFault l core pc (PDE_CQ_TAIL q).reg) :=
  ⟨congrArg Host.Outcome.next (queueWrite_of_none hs hq _ _ _ (cqBaseWrite_other howned hother v)),
    congrArg Host.Outcome.next (queueWrite_of_none hs hq _ _ _ (cqBaseWrite_other howned hother 0)),
    congrArg Host.Outcome.next (queueWrite_of_none hs hq _ _ _ (cqTailWrite_other hother v))⟩

variable (howned : s.hf (PDE_CQ_BASE_OWNER q) = l.idx + 1)
include howned

theorem exec_pdeCqRelease_owned : exec (.pdeCqRelease l core pc q) s = .next (if s.cqNamed q then s else s.cqRenewed q 0) :=
  congrArg Host.Outcome.next (queueWrite_of_some hs hq _ _ _ (cqBaseWrite_zero howned))

variable {v : Nat} (hv : v < 2 ^ 32)
include hv

theorem exec_pdeCqTailWrite_ignored (hpast : 2 ^ s.hf (PDE_CQ_BASE_M q) < (s.hf (PDE_CQ_HEAD q) + 2 ^ 32 - v) % 2 ^ 32) :
    exec (.pdeCqTailWrite l core pc q v) s = .next s :=
  congrArg Host.Outcome.next (queueWrite_of_some hs hq _ _ _ ((cqTailWrite_owned howned hv).trans (if_pos hpast)))

theorem exec_pdeCqTailWrite_taken (hle : (s.hf (PDE_CQ_HEAD q) + 2 ^ 32 - v) % 2 ^ 32 ≤ 2 ^ s.hf (PDE_CQ_BASE_M q)) :
    ∃ t, exec (.pdeCqTailWrite l core pc q v) s = .next t ∧ t.hf (PDE_CQ_TAIL q) = v ∧
      ((∀ c, c < 192 → s.pdeState c ≠ 4) → t.hf (PDE_CQ_HEAD q) = s.hf (PDE_CQ_HEAD q)) := by
  refine ⟨_, congrArg Host.Outcome.next (queueWrite_of_some hs hq _ _ _ ((cqTailWrite_owned howned hv).trans (if_neg (Nat.not_lt.2 hle)))), ?_⟩
  have htail : (s.hfSet (PDE_CQ_TAIL q) v).hf (PDE_CQ_TAIL q) = v := hf_hfSet_fits _ rfl hv
  have hhead : (s.hfSet (PDE_CQ_TAIL q) v).hf (PDE_CQ_HEAD q) = s.hf (PDE_CQ_HEAD q) := State.hf_hfSet_apart _ _ _ _ Fld.apart_of_reg
  split
  · exact ⟨htail, fun _ => hhead⟩
  · refine ⟨?_, fun hnone => ?_⟩
    · rw [tail_cqResume hq, State.hf_hfSet_apart _ _ _ _ Fld.apart_of_reg, htail]
    · have hstate (c : Nat) (hc : c < 192) : ((s.hfSet (PDE_CQ_TAIL q) v).hfSet (PDE_CQ_STAT_FULL q) 0).pdeState c = s.pdeState c :=
        (State.hf_hfSet_apart _ _ _ _ Fld.apart_of_reg).trans (State.hf_hfSet_apart _ _ _ _ Fld.apart_of_reg)
      rw [cqResume_none fun c hc => (hstate c hc).trans_ne (hnone c hc), State.hf_hfSet_apart _ _ _ _ Fld.apart_of_reg, hhead]

end

end Sys2Proof.Machine

/-! The store access fault of a refused write (09 R253), and the commit of a shadow set by ARM (09 R276, R277). -/

namespace Sys2Proof.Machine

-- One theorem after the other, as the model's tests: elaborated side by side they would exceed the check's memory limit.
set_option Elab.async false

/-! ### A refused write (R253, R272; 10 R286) -/

section
variable {g : Fld} (hissued : g.reg ≠ BRG_WISSUED.reg) (hstatus : g.reg ≠ BRG_STATUS_WR_OUT.reg) (s : State) (l : LaneId)
include hissued hstatus

theorem lf_writeEnter (w : PendWrite) : (s.writeEnter l w).lf l g = s.lf l g := by
  unfold State.writeEnter State.brgShow
  dsimp only
  split
  · rw [lf_lfSet_otherReg (f := BRG_STATUS_TAGS) _ _ _ hstatus, lf_lfSet_otherReg (f := BRG_STATUS_QUAR) _ _ _ hstatus,
      lf_lfSet_otherReg _ _ _ hstatus, lf_lfSet_otherReg _ _ _ hissued, State.lf_brgUpd]
  · exact State.lf_brgUpd ..

theorem lf_wcIssue (c : Nat) : (s.wcIssue l c).lf l g = s.lf l g := by
  unfold State.wcIssue
  split
  · exact (lf_writeEnter hissued hstatus ..).trans (State.lf_brgUpd ..)
  · rfl

omit hissued hstatus in
theorem lf_taskTraps (n : Nat) : (s.taskTraps l n).lf l g = s.lf l g := by
  unfold State.taskTraps State.taskFail
  split
  · rfl
  · split <;> exact State.lf_congr (by simp) g

/-- A trap leaves the registers of the lane but those that show the writes of a buffer that closes. -/
theorem lf_coreTrap (c cause pc : Nat) (tval : Option Nat) : (s.coreTrap l c cause pc tval).lf l g = s.lf l g := by
  unfold State.coreTrap State.afterTrap
  dsimp only
  split
  · rw [lf_taskTraps, lf_wcIssue hissued hstatus, State.lf_coreSet]
  · rw [lf_wcIssue hissued hstatus, State.lf_coreSet]

end

section
variable (s : State) (l : LaneId) (core addr : Nat)

/-- The record of a write that the hub answered with SLVERR. -/
theorem brgFail_slverr_code : (s.brgFail l 2 true core addr).lf l BRG_FAULT_INFO_CODE = 2 := by
  show (((((((s.lfSet l BRG_FAULT_ADDR addr).lfSet l BRG_FAULT_INFO_CODE 2).lfSet l BRG_FAULT_INFO_WRITE 1).lfSet l BRG_FAULT_INFO_CORE
    core).lfSet l BRG_INT_STAT_FAULT 1).lcount l BRG_CNT_ERR_SLVERR 1)).lf l BRG_FAULT_INFO_CODE = 2
  rw [State.lf_lcount_apart _ _ _ _ _ _ rfl, State.lf_lfSet_apart _ _ _ _ _ _ rfl, State.lf_lfSet_apart _ _ _ _ _ _ rfl,
    State.lf_lfSet_apart _ _ _ _ _ _ rfl]
  exact State.lf_lfSet_same _ _ _ _ rfl

theorem LaneOnly.brgFail_slverr : LaneOnly l s (s.brgFail l 2 true core addr) :=
  (((((LaneOnly.lfSet ..).trans (.lfSet ..)).trans (.lfSet ..)).trans (.lfSet ..)).trans (.lfSet ..)).trans (.lcount ..)

theorem windowFault_effect (pc : Nat) : ((s.windowFault l core pc addr).core l core).trap = some ⟨7, pc, some addr⟩ ∧
    (s.windowFault l core pc addr).lf l BRG_FAULT_INFO_CODE = 2 ∧ LaneOnly l s (s.windowFault l core pc addr) :=
  ⟨(accessFault_trap_mem ..).1, (lf_coreTrap (by decide) (by decide) ..).trans (brgFail_slverr_code ..),
    (LaneOnly.brgFail_slverr ..).trans (.coreTrap ..)⟩

end

/-! ### Who has set ARM (R276) -/

@[simp] theorem inSet_armSet (s : State) (c : Nat) (l : LaneId) : inSet (s.armSet c) l = decide (s.lf l (PDE_ARM c) = 1) := inSet_laneSet ..

theorem armSet_eq_zero {s : State} {c : Nat} (h : ∀ k, s.lf k (PDE_ARM c) = 0) : s.armSet c = 0 := by
  simp [State.armSet, laneSet, h, b2n]

theorem armSet_ne_zero {s : State} {c : Nat} {l : LaneId} (h : s.lf l (PDE_ARM c) = 1) : s.armSet c ≠ 0 := by
  intro hzero
  have hin : inSet (s.armSet c) l = true := by rw [inSet_armSet, h]; rfl
  rw [hzero] at hin
  cases l <;> cases hin

/-- One lane has armed the channel, which its set places on that lane alone. -/
theorem armMatched_single {s : State} {c : Nat} {l : LaneId} (harm : ∀ k, s.lf k (PDE_ARM c) = if k = l then 1 else 0)
    (hplace : s.pdePlace l c = l.idx + 1) : s.armMatched c = some (s.shadowSet l c) := by
  have hfind : lanes.find? (fun k => inSet (s.armSet c) k) = some l := by
    simp only [inSet_armSet, harm]
    cases l <;> rfl
  rw [State.armMatched, hfind]
  simp [hplace, placeHas]

/-- A set for all lanes is matched by none while a lane has not armed. -/
theorem armMatched_missing {s : State} {c : Nat} {k : LaneId} (hplace : ∀ l, s.pdePlace l c = 0) (hup : s.linkUp k = true)
    (hmissing : s.lf k (PDE_ARM c) = 0) : s.armMatched c = none := by
  rw [State.armMatched]
  split
  · rfl
  · refine (if_neg (by simp [hplace])).trans (if_neg fun hall => ?_)
    have hk := List.all_eq_true.1 hall k (by cases k <;> simp [lanes])
    simp [hup, hmissing] at hk

/-! ### An ARM fails -/

section
variable (s : State) (c code : Nat)

theorem hf_armFail : (s.armFail c code).hf (PDE_STAT_ARM_ERR c) = 1 ∧
    (code < 256 → (s.armFail c code).hf (PDE_STAT_ERR c) = code) := by
  have hkept (g : Fld) (hg : (PDE_INT_STAT_ARM_ERR c).apart g = true) : (s.armFail c code).hf g =
      (((onLanes (fun l s => s.lfSet l (PDE_ARM c) 0) s).hfSet (PDE_STAT_ARM_ERR c) 1).hfSet (PDE_STAT_ERR c) code).hf g := by
    rw [State.armFail, State.hf_hubEvt, State.hf_chanUpd, State.pdeInt, State.hf_hfSet_apart _ _ _ _ hg]
  refine ⟨?_, fun hcode => ?_⟩
  · rw [hkept _ Fld.apart_of_reg, State.hf_hfSet_apart _ _ _ _ (by simp [Fld.apart, Fld.ok])]
    exact hf_hfSet_fits _ rfl (Nat.one_lt_two_pow (by simp))
  · rw [hkept _ Fld.apart_of_reg, hf_hfSet_fits _ rfl (by simpa using hcode)]

theorem chan_armFail : (s.armFail c code).chan c = { s.chan c with armWait := 0 } := by
  have hpde (t : State) (l : LaneId) : (t.lfSet l (PDE_ARM c) 0).chan c = t.chan c := by rw [State.chan, State.lfSet_pde, State.chan]
  rw [State.armFail, State.chan, State.hubEvt_pde, ← State.chan, State.chan_chanUpd_same, State.pdeInt, chan_hfSet, chan_hfSet, chan_hfSet,
    onLanes_keeps (fun t => t.chan c) fun l t => hpde t l]

/-- The registers of ARM lie apart from those that recording an event writes. -/
theorem lf_armFail_onLanes {d : Nat} (hd : d < 192) (k : LaneId) : (s.armFail c code).lf k (PDE_ARM d) =
    (onLanes (fun l s => s.lfSet l (PDE_ARM c) 0) s).lf k (PDE_ARM d) := by
  have hevent : eventReg (PDE_ARM d).reg = false := by simp [eventReg]; omega
  rw [State.armFail, State.lf_hubEvt _ _ _ _ _ hevent, State.lf_chanUpd, State.pdeInt, State.lf_hfSet, State.lf_hfSet, State.lf_hfSet]

theorem lf_armFail_other {d : Nat} (hd : d < 192) (hne : d ≠ c) (k : LaneId) : (s.armFail c code).lf k (PDE_ARM d) = s.lf k (PDE_ARM d) := by
  rw [lf_armFail_onLanes _ _ _ hd]
  exact onLanes_keeps (fun t => t.lf k (PDE_ARM d)) (fun l t => State.lf_lfSet_apart _ _ _ _ _ _ Fld.apart_of_reg) s

theorem lf_armFail_same (hc : c < 192) (k : LaneId) : (s.armFail c code).lf k (PDE_ARM c) = 0 := by
  rw [lf_armFail_onLanes _ _ _ hc]
  refine onLanes_each (P := fun t l => t.lf l (PDE_ARM c) = 0) (fun l t => ?_) (fun l m t hlm h => ?_) s k
  · rw [State.lf_lfSet_same _ _ _ _ rfl, Nat.zero_mod]
  · rw [State.lf_lfSet_lane _ _ _ _ hlm, h]

end

/-! ### The sample of the other channels -/

/-- `t` has what judges a shadow set as `s` has it: the lanes, the hub's registers, and the sets that come at the next edge. -/
structure State.JudgesAs (s t : State) : Prop where
  lane : ∀ k, t.lane k = s.lane k
  reg : ∀ a, t.hreg a = s.hreg a
  next : ∀ c, (t.chan c).next = (s.chan c).next

namespace State.JudgesAs

variable {s t : State}

theorem refl (s : State) : JudgesAs s s := ⟨fun _ => rfl, fun _ => rfl, fun _ => rfl⟩

theorem waits (s : State) (c : Nat) (w : Nat) : JudgesAs s (s.chanUpd c (fun x => { x with armWait := w })) where
  lane k := State.chanUpd_lane ..
  reg a := by simp [State.hreg, State.hubRegs, State.chanUpd, State.chanSet]
  next d := by
    by_cases hd : d = c
    · rw [hd, State.chan_chanUpd_same]
    · rw [chan_chanUpd_other _ _ hd]

variable (h : JudgesAs s t)
include h

theorem trans {u : State} (hu : JudgesAs t u) : JudgesAs s u :=
  ⟨fun k => (hu.lane k).trans (h.lane k), fun a => (hu.reg a).trans (h.reg a), fun c => (hu.next c).trans (h.next c)⟩

theorem hf (g : Fld) : t.hf g = s.hf g := congrArg (fldGet g) (h.reg _)

theorem lf (k : LaneId) (g : Fld) : t.lf k g = s.lf k g := State.lf_congr (congrArg Lane.regs (h.lane k)) g

theorem shadowSet (l : LaneId) (c : Nat) : t.shadowSet l c = s.shadowSet l c := by simp only [State.shadowSet, State.lreg, h.lane]

theorem pdePlace (l : LaneId) (c : Nat) : t.pdePlace l c = s.pdePlace l c := by simp only [State.pdePlace, h.hf, h.lf]

theorem comingSet (c : Nat) : t.comingSet c = s.comingSet c := by simp only [State.comingSet, h.next, h.lf, h.reg]

theorem shadowError (c : Nat) (v : List Nat) : t.shadowError c v = s.shadowError c v := by
  simp only [State.shadowError, State.cqOwned, State.mailboxTaken, h.hf, h.reg, h.comingSet]
  rfl

end State.JudgesAs

/-- The sample of channels that no lane has armed judges nothing. -/
theorem armSample_unarmed {ds : List Nat} {s : State} (h : ∀ d ∈ ds, ∀ k, s.lf k (PDE_ARM d) = 0) :
    s.JudgesAs (ds.foldl (fun s c => s.armSample c) s) := by
  induction ds generalizing s with
  | nil => exact .refl s
  | cons d ds ih =>
    have hwaits := State.JudgesAs.waits s d 0
    rw [List.foldl_cons, State.armSample, if_pos (armSet_eq_zero (h d List.mem_cons_self))]
    exact hwaits.trans (ih fun e he k => (hwaits.lf k _).trans (h e (List.mem_cons_of_mem _ he) k))

/-- A list of channels around one of them. -/
theorem pdeChannels_split {c : Nat} (hc : c < 192) : ∃ before after, pdeChannels = before ++ c :: after ∧ (∀ d ∈ before, d < 192 ∧ d ≠ c) ∧
    ∀ d ∈ after, d < 192 ∧ d ≠ c := by
  obtain ⟨before, after, hsplit⟩ := List.append_of_mem (List.mem_range.2 hc)
  have hnodup : (c :: (before ++ after)).Nodup := List.nodup_middle.1 (hsplit ▸ List.nodup_range)
  have hlt (d : Nat) (hd : d ∈ before ++ c :: after) : d < 192 := List.mem_range.1 (hsplit ▸ hd)
  have hne (d : Nat) (hd : d ∈ before ++ after) : d ≠ c := fun heq => (List.nodup_cons.1 hnodup).1 (heq ▸ hd)
  exact ⟨before, after, hsplit, fun d hd => ⟨hlt d (by simp [hd]), hne d (by simp [hd])⟩,
    fun d hd => ⟨hlt d (by simp [hd]), hne d (by simp [hd])⟩⟩

/-! ### The sample of an armed channel -/

theorem setError_le (c : Nat) (owns : LaneId → Nat → Bool) (taken : Bool) (v : List Nat) : setError c owns taken v ≤ 10 := by
  unfold setError
  dsimp only
  split_ifs <;> decide

theorem shadowError_lt (s : State) (c : Nat) (v : List Nat) : s.shadowError c v < 256 := by
  have hset := setError_le c (fun l q => s.cqOwned l q) (s.mailboxTaken c (v.getD 1 0)) v
  unfold State.shadowError
  dsimp only
  split_ifs <;> omega

/-- What the sample leaves of a channel that lane `l` has armed alone, with set `v`. -/
structure State.Judged (s t : State) (c : Nat) (l : LaneId) (v : List Nat) : Prop where
  accepted : s.shadowError c v = 0 → (t.chan c).next = some v ∧ t.lf l (PDE_ARM c) = 1
  refused : s.shadowError c v ≠ 0 → (t.chan c).next = (s.chan c).next ∧ t.lf l (PDE_ARM c) = 0 ∧ t.hf (PDE_STAT_ARM_ERR c) = 1 ∧
    t.hf (PDE_STAT_ERR c) = s.shadowError c v

section
variable {s t : State} {c : Nat} {l : LaneId} {v : List Nat}

theorem State.Judged.after {u : State} (h : s.Judged t c l v) (hu : t.JudgesAs u) : s.Judged u c l v where
  accepted he := by rw [hu.next, hu.lf]; exact h.accepted he
  refused he := by rw [hu.next, hu.lf, hu.hf, hu.hf]; exact h.refused he

theorem State.Judged.before {u : State} (hu : s.JudgesAs u) (h : u.Judged t c l v) : s.Judged t c l v where
  accepted he := h.accepted ((hu.shadowError c v).trans he)
  refused he := by
    rw [← hu.shadowError, ← hu.next]
    exact h.refused ((hu.shadowError c v).trans_ne he)

variable (hc : c < 192) (harm : ∀ k, s.lf k (PDE_ARM c) = if k = l then 1 else 0) (hplace : s.pdePlace l c = l.idx + 1)
include harm hplace

theorem armSample_single : s.armSample c = if s.shadowError c (s.shadowSet l c) = 0 then
      s.chanUpd c (fun x => { x with next := some (s.shadowSet l c), armWait := 0 })
    else s.armFail c (s.shadowError c (s.shadowSet l c)) := by
  rw [State.armSample, if_neg (armSet_ne_zero ((harm l).trans (if_pos rfl))), armMatched_single harm hplace]

theorem armSample_other {d : Nat} (hd : d < 192 ∧ d ≠ c) (k : LaneId) : (s.armSample c).lf k (PDE_ARM d) = s.lf k (PDE_ARM d) := by
  rw [armSample_single harm hplace]
  split
  · exact State.lf_chanUpd ..
  · exact lf_armFail_other _ _ _ hd.1 hd.2 k

include hc

theorem armSample_judged : s.Judged (s.armSample c) c l (s.shadowSet l c) := by
  rw [armSample_single harm hplace]
  refine ⟨fun he => ?_, fun he => ?_⟩
  · rw [if_pos he, State.chan_chanUpd_same, State.lf_chanUpd]
    exact ⟨rfl, (harm l).trans (if_pos rfl)⟩
  · rw [if_neg he, chan_armFail, lf_armFail_same _ _ _ hc]
    obtain ⟨harmErr, herr⟩ := hf_armFail s c (s.shadowError c (s.shadowSet l c))
    exact ⟨rfl, rfl, harmErr, herr (shadowError_lt ..)⟩

/-- The sample of all channels, one of which lane `l` has armed. -/
theorem armSample_all (hothers : ∀ k d, d < 192 → d ≠ c → s.lf k (PDE_ARM d) = 0) :
    s.Judged (pdeChannels.foldl (fun s c => s.armSample c) s) c l (s.shadowSet l c) := by
  obtain ⟨before, after, hsplit, hbefore, hafter⟩ := pdeChannels_split hc
  have hfirst := armSample_unarmed (ds := before) fun d hd k => hothers k d (hbefore d hd).1 (hbefore d hd).2
  rw [hsplit, List.foldl_append, List.foldl_cons]
  generalize before.foldl (fun s c => s.armSample c) s = u at hfirst ⊢
  have harm' (k : LaneId) : u.lf k (PDE_ARM c) = if k = l then 1 else 0 := (hfirst.lf k _).trans (harm k)
  have hplace' : u.pdePlace l c = l.idx + 1 := (hfirst.pdePlace l c).trans hplace
  have hjudged := armSample_judged hc harm' hplace'
  rw [hfirst.shadowSet] at hjudged
  refine .before hfirst (hjudged.after (armSample_unarmed fun d hd k => ?_))
  rw [armSample_other harm' hplace' (hafter d hd), hfirst.lf, hothers k d (hafter d hd).1 (hafter d hd).2]

end

/-! ### The commands of ARM -/

section
variable {s : State} (hs : s.hub.supplied = true)
include hs

theorem exec_pdeArmWrite {l : LaneId} {c : Nat} (hmay : s.pdeMay l c = true) (core pc : Nat) :
    exec (.pdeArmWrite l core pc c) s = .next (s.lfSet l (PDE_ARM c) 1) := congrArg Host.Outcome.next (chanWrite_of_may hs hmay ..)

theorem exec_pdeArmSample : exec .pdeArmSample s = .next (pdeChannels.foldl (fun s c => s.armSample c) s) := by
  show execPdeArmSample s = _
  rw [execPdeArmSample, hs]
  rfl

end

/-- An ARM that has waited for 16 edges fails, as its sets differ or as a lane is missing. -/
theorem armUnmatched_fails {s : State} {c : Nat} {l k : LaneId} (hwait : 16 ≤ (s.chan c).armWait) (hplace : ∀ k, s.pdePlace k c = 0)
    (harm : s.lf l (PDE_ARM c) = 1) (hup : s.linkUp k = true) (hmissing : s.lf k (PDE_ARM c) = 0) :
    ∃ code, (code = 5 ∨ code = 6) ∧ s.armUnmatched c = s.armFail c code := by
  have hunmatched := armMatched_missing hplace hup hmissing
  refine ⟨_, ?_, if_pos (by simp [hwait, armSet_ne_zero harm, hunmatched])⟩
  split
  · exact .inl rfl
  · exact .inr rfl

/-- Settles O30: queues by who owns them, writes that are refused, and ARM as it is set, sampled and left unmatched. -/
theorem queuesClaimedAndChannelsArmed : Obligations.QueuesClaimedAndChannelsArmed := by
  unfold Obligations.QueuesClaimedAndChannelsArmed
  intro s l core pc hs
  refine ⟨fun q m base hq hfree howner hmin hm hbase halign => ?_, fun q v hq howned hother => exec_queue_other hs hq core pc howned hother v,
    fun c v hc hmay => ?_, fun addr => windowFault_effect s l core addr pc, fun q hq howned =>
      ⟨fun hfree => ?_, fun hnamed => ?_, fun v hv => ?_⟩, fun c hmay => ?_, fun c hc harm hothers hplace => ?_, fun c hc hwait hplace harm ⟨k, hup, hmissing⟩ => ?_⟩
  · obtain ⟨howns, hsize, hplace⟩ := cqBaseWord_fields l q hm hbase
    exact ⟨_, exec_pdeCqClaim_claims hs hq core pc hfree howner hmin hm hbase halign, (hf_cqRenewed_base ..).trans howns,
      (hf_cqRenewed_base ..).trans hsize, (hf_cqRenewed_base ..).trans hplace, hf_cqRenewed_head .., hf_cqRenewed_tail ..⟩
  · exact ⟨congrArg Host.Outcome.next (chanWrite_of_mayNot hs hc hmay ..), congrArg Host.Outcome.next (chanWrite_of_mayNot hs hc hmay ..),
      congrArg Host.Outcome.next (chanWrite_of_mayNot hs hc hmay ..)⟩
  · refine ⟨_, exec_pdeCqRelease_owned hs hq core pc howned, ?_⟩
    rw [hfree, if_neg Bool.false_ne_true, hf_cqRenewed_base _ _ _]
    simp [fldGet, bitsOf]
  · rw [exec_pdeCqRelease_owned hs hq core pc howned, if_pos hnamed]
  · exact ⟨exec_pdeCqTailWrite_taken hs hq core pc howned hv, exec_pdeCqTailWrite_ignored hs hq core pc howned hv⟩
  · exact ⟨_, exec_pdeArmWrite hs hmay core pc, State.lf_lfSet_same _ _ _ _ rfl, .lfSet ..⟩
  · have hjudged := armSample_all hc harm hplace hothers
    exact ⟨_, exec_pdeArmSample hs, hjudged.accepted, hjudged.refused⟩
  · obtain ⟨code, hcode, hfails⟩ := armUnmatched_fails hwait hplace harm hup hmissing
    obtain ⟨harmErr, herr⟩ := hf_armFail s c code
    have hexec : exec (.pdeArmUnmatched c) s = .next (s.armFail c code) := by
      show execPdeArmUnmatched c s = _
      rw [execPdeArmUnmatched, hfails, if_pos (by simp [hs, hc])]
    rw [← herr (by omega)] at hcode
    exact ⟨_, hexec, lf_armFail_same _ _ _ hc, harmErr, hcode, by rw [chan_armFail]⟩

end Sys2Proof.Machine

/-! The lane end of the bridge: what traps, fences and waiting accesses leave of it, stores, combining buffers, write responses and
fences (10 R286 to R292). -/

namespace Sys2Proof.Machine

-- One theorem after the other, as the model's tests: elaborated side by side they would exceed the check's memory limit.
set_option Elab.async false

/-! ### What passes through the lane end leaves the rest of it (R289, R298) -/

/-- A field that shows neither the lane end's queues nor recorded events. -/
def Fld.offQueue (g : Fld) : Bool :=
  [BRG_WISSUED, BRG_STATUS_WR_OUT, BRG_STATUS_QUAR, BRG_STATUS_TAGS].all (·.apart g) && !eventReg g.reg

/-- The fields in which a failure is recorded (R298). -/
def failureFields : List Fld :=
  [BRG_FAULT_ADDR, BRG_FAULT_INFO_CODE, BRG_FAULT_INFO_WRITE, BRG_FAULT_INFO_CORE, BRG_INT_STAT_FAULT, BRG_CNT_ERR_DECERR,
    BRG_CNT_ERR_SLVERR, BRG_CNT_ERR_ECCERR, BRG_CNT_ERR_WTIMEOUT, BRG_CNT_DISC_TIMEOUT]

/-- A field that a failure does not write either. -/
def Fld.offFailure (g : Fld) : Bool := g.offQueue && failureFields.all (·.apart g)

theorem Fld.offQueue_apart {f g : Fld} (h : g.offQueue = true)
    (hf : f ∈ [BRG_WISSUED, BRG_STATUS_WR_OUT, BRG_STATUS_QUAR, BRG_STATUS_TAGS]) : f.apart g = true :=
  List.all_eq_true.1 (Bool.and_eq_true_iff.1 h).1 f hf

theorem Fld.offQueue_event {g : Fld} (h : g.offQueue = true) : eventReg g.reg = false := by
  simpa using (Bool.and_eq_true_iff.1 h).2

theorem Fld.offFailure_offQueue {g : Fld} (h : g.offFailure = true) : g.offQueue = true := (Bool.and_eq_true_iff.1 h).1

theorem Fld.offFailure_apart {f g : Fld} (h : g.offFailure = true) (hf : f ∈ failureFields) : f.apart g = true :=
  List.all_eq_true.1 (Bool.and_eq_true_iff.1 h).2 f hf

theorem State.linkUp_shown {s : State} {l : LaneId} (h : s.linkUp l = true) : s.lf l BRG_STATUS_LINK_UP = 1 := by
  simp only [State.linkUp, Bool.and_eq_true, decide_eq_true_eq] at h
  exact h.2

/-- A failure's address, code, direction and core, and the interrupt cause. -/
def State.failNoted (s : State) (l : LaneId) (code : Nat) (write : Bool) (core addr : Nat) : State :=
  ((((s.lfSet l BRG_FAULT_ADDR addr).lfSet l BRG_FAULT_INFO_CODE code).lfSet l BRG_FAULT_INFO_WRITE (b2n write)).lfSet l
    BRG_FAULT_INFO_CORE core).lfSet l BRG_INT_STAT_FAULT 1

/-- The counters of failures by code. -/
def failureCounters : List Fld :=
  [BRG_CNT_ERR_DECERR, BRG_CNT_ERR_SLVERR, BRG_CNT_ERR_ECCERR, BRG_CNT_ERR_WTIMEOUT, BRG_CNT_DISC_TIMEOUT]

/-- A failure is noted and, by its code, counted. -/
theorem brgFail_cases (s : State) (l : LaneId) (code : Nat) (write : Bool) (core addr : Nat) :
    s.brgFail l code write core addr = s.failNoted l code write core addr ∨
      ∃ f ∈ failureCounters, s.brgFail l code write core addr = (s.failNoted l code write core addr).lcount l f 1 := by
  unfold State.brgFail
  dsimp only
  split
  · exact .inr ⟨BRG_CNT_ERR_DECERR, by simp [failureCounters], rfl⟩
  · exact .inr ⟨BRG_CNT_ERR_SLVERR, by simp [failureCounters], rfl⟩
  · exact .inr ⟨BRG_CNT_ERR_ECCERR, by simp [failureCounters], rfl⟩
  · cases write with
    | true => exact .inr ⟨BRG_CNT_ERR_WTIMEOUT, by simp [failureCounters], rfl⟩
    | false => exact .inr ⟨BRG_CNT_DISC_TIMEOUT, by simp [failureCounters], rfl⟩
  · exact .inl rfl

/-- Only reads take tags. -/
theorem takeTags_fields (n : Nat) (b : LaneBrg) : takeTags n b = { b with reads := (takeTags n b).reads } := by
  induction n generalizing b with
  | zero => rfl
  | succ n ih =>
    rw [takeTags]
    split
    · rw [ih]
    · rfl

/-- From `s` to `t` the hub, the quarantine of lane `l` and its fields of the kind `off` are left, and no write is issued while the link
is down. -/
structure LinkKept (off : Fld → Bool) (l : LaneId) (s t : State) : Prop where
  hub : t.hub = s.hub
  quar : (t.lane l).brg.quar = (s.lane l).brg.quar
  lf : ∀ g, off g = true → t.lf l g = s.lf l g
  linkUp : t.lf l BRG_STATUS_LINK_UP = s.lf l BRG_STATUS_LINK_UP
  down : s.lf l BRG_STATUS_LINK_UP = 0 →
    t.lf l BRG_WISSUED = s.lf l BRG_WISSUED ∧ (t.lane l).brg.writes = (s.lane l).brg.writes

namespace LinkKept

section
variable {off : Fld → Bool} {l : LaneId} {s t u : State}

theorem of_regs (hhub : t.hub = s.hub) (hregs : (t.lane l).regs = (s.lane l).regs) (hquar : (t.lane l).brg.quar = (s.lane l).brg.quar)
    (hwrites : (t.lane l).brg.writes = (s.lane l).brg.writes) : LinkKept off l s t :=
  ⟨hhub, hquar, fun g _ => State.lf_congr hregs g, State.lf_congr hregs _, fun _ => ⟨State.lf_congr hregs _, hwrites⟩⟩

theorem refl : LinkKept off l s s := .of_regs rfl rfl rfl rfl

theorem trans (h : LinkKept off l s t) (g : LinkKept off l t u) : LinkKept off l s u where
  hub := g.hub.trans h.hub
  quar := g.quar.trans h.quar
  lf f hf := (g.lf f hf).trans (h.lf f hf)
  linkUp := g.linkUp.trans h.linkUp
  down hdown :=
    have hs := h.down hdown
    have ht := g.down (h.linkUp.trans hdown)
    ⟨ht.1.trans hs.1, ht.2.trans hs.2⟩

theorem ite {c : Prop} [Decidable c] (h : LinkKept off l s t) (g : LinkKept off l s u) : LinkKept off l s (if c then t else u) := by
  split
  · exact h
  · exact g

theorem foldl {α : Type} {f : State → α → State} (hf : ∀ t x, LinkKept off l s t → LinkKept off l s (f t x)) {xs : List α}
    (h : LinkKept off l s t) : LinkKept off l s (xs.foldl f t) := by
  induction xs generalizing t with
  | nil => exact h
  | cons x xs ih => exact ih (hf t x h)

/-- A step that leaves what the queue does not show leaves what neither the queue nor a failure shows. -/
theorem offFailure (h : LinkKept Fld.offQueue l s t) : LinkKept Fld.offFailure l s t :=
  ⟨h.hub, h.quar, fun g hg => h.lf g (Fld.offFailure_offQueue hg), h.linkUp, h.down⟩

theorem lfSet {f : Fld} {x : Nat} (h : LinkKept off l s t) (hoff : ∀ g, off g = true → f.apart g = true)
    (hup : f.apart BRG_STATUS_LINK_UP = true := by rfl) (hissued : f.apart BRG_WISSUED = true := by rfl) :
    LinkKept off l s (t.lfSet l f x) :=
  h.trans ⟨by simp, by simp, fun g hg => State.lf_lfSet_apart _ _ _ _ _ _ (hoff g hg), State.lf_lfSet_apart _ _ _ _ _ _ hup,
    fun _ => ⟨State.lf_lfSet_apart _ _ _ _ _ _ hissued, by simp⟩⟩

theorem updLane {f : Lane → Lane} (h : LinkKept off l s t) (hregs : ∀ x, (f x).regs = x.regs := by intro x; rfl)
    (hbrg : ∀ x, (f x).brg = x.brg := by intro x; rfl) : LinkKept off l s (t.updLane l f) :=
  h.trans (.of_regs (by simp) (by simp [hregs]) (by simp [hbrg]) (by simp [hbrg]))

theorem taskSet {n : Nat} {x : TaskRt} (h : LinkKept off l s t) : LinkKept off l s (t.taskSet l n x) := h.updLane

/-- A change of the lane end's record that touches neither the issued writes nor the quarantine. -/
theorem brgUpd {f : LaneBrg → LaneBrg} (h : LinkKept off l s t) (hquar : ∀ b, (f b).quar = b.quar := by intro b; rfl)
    (hwrites : ∀ b, (f b).writes = b.writes := by intro b; rfl) : LinkKept off l s (t.brgUpd l f) :=
  h.trans (.of_regs (by simp) (by simp) (by simp [hquar]) (by simp [hwrites]))

end

section
variable {l : LaneId} {s t u : State} (h : LinkKept Fld.offQueue l s t)
include h

/-! ### The queues of the lane end -/

theorem brgShow : LinkKept Fld.offQueue l s (t.brgShow l) :=
  ((h.lfSet fun _ hg => Fld.offQueue_apart hg (by simp)).lfSet fun _ hg => Fld.offQueue_apart hg (by simp)).lfSet
    fun _ hg => Fld.offQueue_apart hg (by simp)

/-- While the link is up, writes may be issued and counted. -/
theorem issued {f : LaneBrg → LaneBrg} {x : Nat} (hup : t.linkUp l = true) (hquar : ∀ b, (f b).quar = b.quar := by intro b; rfl) :
    LinkKept Fld.offQueue l s ((t.brgUpd l f).lfSet l BRG_WISSUED x) := by
  refine h.trans ⟨by simp, by simp [hquar], fun g hg => ?_, ?_, fun hdown => ?_⟩
  · rw [State.lf_lfSet_apart _ _ _ _ _ _ (Fld.offQueue_apart hg (by simp)), State.lf_brgUpd]
  · rw [State.lf_lfSet_apart _ _ _ _ _ _ rfl, State.lf_brgUpd]
  · rw [State.linkUp_shown hup] at hdown
    cases hdown

theorem writeEnter {w : PendWrite} : LinkKept Fld.offQueue l s (t.writeEnter l w) := by
  unfold State.writeEnter
  dsimp only
  split
  next hgo =>
    simp only [Bool.and_eq_true] at hgo
    obtain ⟨⟨hup, -⟩, -⟩ := hgo
    exact (h.issued hup).brgShow
  next => exact h.brgUpd

theorem wcIssue {c : Nat} : LinkKept Fld.offQueue l s (t.wcIssue l c) := by
  unfold State.wcIssue
  split
  · exact h.brgUpd.writeEnter
  · exact h

theorem bridgeWrite {core a : Nat} {bs : List Byte} : LinkKept Fld.offQueue l s (t.bridgeWrite l core a bs) := by
  unfold State.bridgeWrite
  refine foldl (fun t w h => ?_) h
  cases w with
  | nil => exact h
  | cons => exact h.writeEnter

theorem brgProceed : LinkKept Fld.offQueue l s (t.brgProceed l) := by
  unfold State.brgProceed
  dsimp only
  split
  next w ws _ =>
    split
    next hgo =>
      simp only [Bool.and_eq_true] at hgo
      exact (h.issued hgo.1).brgShow
    next => exact h.brgShow
  next => exact h.brgShow

theorem brgAll : LinkKept Fld.offQueue l s (t.brgAll l) := by
  unfold State.brgAll
  refine .ite h (brgShow (brgUpd (foldl (fun _ _ h => h.brgProceed) h) (fun b => ?_) (fun b => ?_)))
  · rw [takeTags_fields]
  · rw [takeTags_fields]

/-! ### Traps and fences -/

theorem taskTraps {n : Nat} : LinkKept Fld.offQueue l s (t.taskTraps l n) := by
  unfold State.taskTraps State.taskFail
  split
  · exact h
  · exact .ite h.taskSet h.taskSet

theorem coreTrap {c cause pc : Nat} {tval : Option Nat} : LinkKept Fld.offQueue l s (t.coreTrap l c cause pc tval) := by
  unfold State.coreTrap State.afterTrap
  dsimp only
  split
  · exact h.updLane.wcIssue.taskTraps
  · exact h.updLane.wcIssue

theorem accessFault {core pc addr : Nat} {store : Bool} : LinkKept Fld.offQueue l s (t.accessFault l core pc addr store) := h.coreTrap

theorem retainedAt {k : Nat} : LinkKept Fld.offQueue l s (t.retainedAt l k) := by
  have hreport : ∀ {u}, LinkKept Fld.offQueue l s u → LinkKept Fld.offQueue l s (u.retainedReport l) := fun h =>
    .ite (h.trans (.of_regs (by simp) (by simp) (by simp) (by simp))) h
  unfold State.retainedAt
  exact hreport (foldl (fun _ _ h => h.bridgeWrite) h.updLane)

theorem eventOnly (hevt : EventOnly t u) : LinkKept Fld.offQueue l s u := by
  have hbrg : (u.lane l).brg = (t.lane l).brg := by rw [hevt.lane]
  exact h.trans ⟨hevt.hub, by rw [hbrg], fun g hg => hevt.lf l g (Fld.offQueue_event hg), hevt.lf l _ rfl,
    fun _ => ⟨hevt.lf l _ rfl, by rw [hbrg]⟩⟩

theorem setRack {q : Rack} : LinkKept Fld.offQueue l s { t with rack := q } := by
  have hlane : ({ t with rack := q } : State).lane l = t.lane l := by cases l <;> rfl
  exact h.trans (.of_regs rfl (by rw [hlane]) (by rw [hlane]) (by rw [hlane]))

theorem retainedNext : LinkKept Fld.offQueue l s (t.retainedNext l) := by
  have hends : LinkKept Fld.offQueue l s (t.retainedEnds l) := by
    unfold State.retainedEnds
    exact .ite (h.updLane.setRack.eventOnly (laneEvt_eventOnly ..)) h.updLane
  unfold State.retainedNext
  exact .ite h (.ite hends h.retainedAt)

theorem fenceDone {core pc : Nat} : LinkKept Fld.offQueue l s (t.fenceDone l core pc) := by
  unfold State.fenceDone
  split
  next u howe =>
    unfold State.oweFault at howe
    split at howe
    · cases howe
      exact .ite h.brgUpd.accessFault.retainedAt h.brgUpd.accessFault
    · cases howe
  next => exact .ite h.retainedNext h

theorem fencesGo : LinkKept Fld.offQueue l s (t.fencesGo l) := by
  unfold State.fencesGo
  exact foldl (fun _ _ h => .ite h h.brgUpd.fenceDone) h

end

/-! ### Failures (R298) -/

section
variable {l : LaneId} {s t : State} (h : LinkKept Fld.offFailure l s t)
include h

theorem failureField {f : Fld} {x : Nat} (hf : f ∈ failureFields) : LinkKept Fld.offFailure l s (t.lfSet l f x) :=
  have happart : ∀ f ∈ failureFields, f.apart BRG_STATUS_LINK_UP = true ∧ f.apart BRG_WISSUED = true := by decide
  h.lfSet (fun _ hg => Fld.offFailure_apart hg hf) (happart f hf).1 (happart f hf).2

theorem brgFail {code core addr : Nat} {write : Bool} : LinkKept Fld.offFailure l s (t.brgFail l code write core addr) := by
  have hnoted : LinkKept Fld.offFailure l s (t.failNoted l code write core addr) :=
    ((((h.failureField (by simp [failureFields])).failureField (by simp [failureFields])).failureField
      (by simp [failureFields])).failureField (by simp [failureFields])).failureField (by simp [failureFields])
  obtain he | ⟨f, hf, he⟩ := brgFail_cases t l code write core addr
  · rw [he]
    exact hnoted
  · have hcounter : ∀ f ∈ failureCounters, f ∈ failureFields := by decide
    rw [he]
    exact hnoted.failureField (hcounter f hf)

theorem readFails {r : PendRead} :
    LinkKept Fld.offFailure l s ((t.brgFail l 5 false r.core r.addr).accessFault l r.core r.pc r.addr false) :=
  h.brgFail.trans (accessFault refl).offFailure

theorem writeFails {w : PendWrite} {code : Nat} : LinkKept Fld.offFailure l s (t.writeFails l w code) := by
  unfold State.writeFails
  exact .ite (h.brgFail.trans (accessFault refl).offFailure) (.ite h.brgFail h.brgFail.brgUpd)

end
end LinkKept

/-- What a failure's record shows. -/
theorem brgFail_recorded (s : State) (l : LaneId) (code : Nat) (write : Bool) (core addr : Nat) :
    (s.brgFail l code write core addr).lf l BRG_FAULT_ADDR = addr % 2 ^ 64 ∧
      (s.brgFail l code write core addr).lf l BRG_FAULT_INFO_CODE = code % 2 ^ 4 := by
  have hcounter : ∀ f ∈ failureCounters, f.apart BRG_FAULT_ADDR = true ∧ f.apart BRG_FAULT_INFO_CODE = true := by decide
  have hnoted : (s.failNoted l code write core addr).lf l BRG_FAULT_ADDR = addr % 2 ^ 64 ∧
      (s.failNoted l code write core addr).lf l BRG_FAULT_INFO_CODE = code % 2 ^ 4 := by
    unfold State.failNoted
    constructor
    · rw [State.lf_lfSet_apart _ _ _ _ _ _ rfl, State.lf_lfSet_apart _ _ _ _ _ _ rfl, State.lf_lfSet_apart _ _ _ _ _ _ rfl,
        State.lf_lfSet_apart _ _ _ _ _ _ rfl]
      exact State.lf_lfSet_same _ _ _ _ rfl
    · rw [State.lf_lfSet_apart _ _ _ _ _ _ rfl, State.lf_lfSet_apart _ _ _ _ _ _ rfl, State.lf_lfSet_apart _ _ _ _ _ _ rfl]
      exact State.lf_lfSet_same _ _ _ _ rfl
  obtain he | ⟨f, hf, he⟩ := brgFail_cases s l code write core addr
  · rw [he]
    exact hnoted
  · rw [he, State.lf_lcount_apart _ _ _ _ _ _ (hcounter f hf).1, State.lf_lcount_apart _ _ _ _ _ _ (hcounter f hf).2]
    exact hnoted

theorem LaneOnly.accessFault (l : LaneId) (s : State) (core pc addr : Nat) (store : Bool) :
    LaneOnly l s (s.accessFault l core pc addr store) := .coreTrap ..

/-! ### Accesses of a core -/

/-- The access that is let through is made in a state that differs in the core, not in its trap. -/
theorem guarded_made {s : State} {l : LaneId} {core pc addr n : Nat} {write : Bool} {who : Runner}
    (h : s.lets l core addr n write who = true) (f : State → State) :
    ∃ u, CoreOnly l core s u ∧ (u.core l core).trap = (s.core l core).trap ∧ s.guarded l core pc addr n write who f = f u := by
  cases who with
  | kernel => exact ⟨_, .inr ⟨_, rfl⟩, by simp, rfl⟩
  | dispatcher => exact ⟨_, .inr ⟨_, rfl⟩, by simp, rfl⟩
  | task t =>
    by_cases hc : core = 4
    · exact ⟨s, .inl rfl, rfl, by simp [State.guarded, hc]⟩
    · cases hd : s.decl l t with
      | none => simp [State.lets, hc, hd] at h
      | some d =>
        have hallow : ((s.dispatch l core d).core l core).pmpAllows addr n write = true := by simpa [State.lets, hc, hd] using h
        refine ⟨s.dispatch l core d, .inr ⟨_, rfl⟩, ?_, by simp [State.guarded, hc, hd, hallow]⟩
        rw [State.dispatch, State.core_coreSet_same]
        cases d.safe <;> rfl

/-- A state that differs in one core has the lane's end of the bridge, and the hub. -/
theorem CoreOnly.bridge {s u : State} {l : LaneId} {core : Nat} (h : CoreOnly l core s u) :
    (u.lane l).brg = (s.lane l).brg ∧ u.hub = s.hub ∧ u.linkUp l = s.linkUp l ∧ ∀ g, u.lf l g = s.lf l g := by
  rcases h with rfl | ⟨k, rfl⟩
  · exact ⟨rfl, rfl, rfl, fun _ => rfl⟩
  · exact ⟨by simp, by simp, by simp [State.linkUp], fun g => by simp⟩

theorem oweFault_none {s : State} {l : LaneId} {core : Nat} (h : mapFind (s.lane l).brg.failed core = none) (pc : Nat) :
    s.oweFault l core pc = none := by
  rw [State.oweFault, h]

theorem wcIssue_none {s : State} {l : LaneId} {core : Nat} (h : mapFind (s.lane l).brg.wc core = none) : s.wcIssue l core = s := by
  rw [State.wcIssue, h]

/-! ### Stores (R286, R287, R290) -/

section
variable {s : State} {l : LaneId} {core : Nat} (pc : Nat) {addr size : Nat} (v : Word) {who : Runner} (hup : s.coreUp l core = true)
  (hsize : accessSize size = true)
include hup hsize

/-- An atomic or misaligned access to the bridge faults in the core. -/
theorem bridgeStore_faults {amo : Bool} (hbad : amo = true ∨ addr % size ≠ 0) {i : Instr}
    (hi : i = .bridgeCombinedStore l core pc addr size v amo who ∨ i = .bridgeRegisterStore l core pc addr size v amo who) :
    ∃ u, CoreOnly l core s u ∧ exec i s = .next (u.accessFault l core pc addr true) := by
  have hfault (f : State → State) (hf : ∀ u, f u = u.accessFault l core pc addr true) : ∃ u, CoreOnly l core s u ∧
      s.guarded l core pc addr size true who f = u.accessFault l core pc addr true := by
    obtain ⟨u, hu, he | ⟨-, he⟩⟩ := guarded_cases s l core pc addr size true who f
    · exact ⟨u, hu, he.trans (hf u)⟩
    · exact ⟨u, hu, he⟩
  have hrefused (b : Bool) : (amo || addr % size ≠ 0 || b) = true := by
    rcases hbad with h | h <;> simp [h]
  rcases hi with rfl | rfl
  · obtain ⟨u, hu, he⟩ := hfault _ fun u => if_pos (hrefused _)
    refine ⟨u, hu, ?_⟩
    rw [← he]
    show execBridgeCombinedStore l core pc addr size v amo who s = _
    rw [execBridgeCombinedStore, hup, hsize]
    rfl
  · obtain ⟨u, hu, he⟩ := hfault _ fun u => if_pos (hrefused _)
    refine ⟨u, hu, ?_⟩
    rw [← he]
    show execBridgeRegisterStore l core pc addr size v amo who s = _
    rw [execBridgeRegisterStore, hup, hsize]
    rfl

section
variable (hlets : s.lets l core addr size true who = true) (hfailed : mapFind (s.lane l).brg.failed core = none)
  (halign : addr % size = 0)
include hlets hfailed halign

/-- A store to hub memory that is let through: refused by the partition, sent by itself, or combined. -/
theorem bridgeCombinedStore_made (hmem : inHubMem addr = true) :
    ∃ u, CoreOnly l core s u ∧ exec (.bridgeCombinedStore l core pc addr size v false who) s = .next (
      if 0x60000000 ≤ addr && !mramMay l addr then u.windowFault l core pc addr
      else if u.lf l BRG_CFG_WC_OFF = 1 then (u.wcIssue l core).writeEnter l ⟨core, pc, addr, storeBytes addr size v, true⟩
      else u.combinedStore l core addr size v) := by
  obtain ⟨u, hu, -, he⟩ := guarded_made (pc := pc) hlets _
  have howe := oweFault_none (s := u) (by rw [hu.bridge.1, hfailed]) pc
  refine ⟨u, hu, ?_⟩
  show execBridgeCombinedStore l core pc addr size v false who s = _
  rw [execBridgeCombinedStore, hup, hsize]
  refine (congrArg Host.Outcome.next he).trans ?_
  simp only [howe, halign, hmem]
  rfl

/-- A store to a hub register that is let through goes onto the link. -/
theorem bridgeRegisterStore_made (hwin : inWindow addr = true) (hend : laneEnd addr = false) :
    ∃ u, CoreOnly l core s u ∧ exec (.bridgeRegisterStore l core pc addr size v false who) s =
      .next ((u.wcIssue l core).writeEnter l ⟨core, pc, addr, storeBytes addr size v, true⟩) := by
  obtain ⟨u, hu, -, he⟩ := guarded_made (pc := pc) hlets _
  have howe := oweFault_none (s := u) (by rw [hu.bridge.1, hfailed]) pc
  refine ⟨u, hu, ?_⟩
  show execBridgeRegisterStore l core pc addr size v false who s = _
  rw [execBridgeRegisterStore, hup, hsize]
  refine (congrArg Host.Outcome.next he).trans ?_
  simp only [howe, halign, hwin, hend]
  rfl

end
end

/-- A fault of a core without open buffer leaves the lane's end of the bridge. -/
theorem accessFault_brg {s : State} {l : LaneId} {core : Nat} (h : mapFind (s.lane l).brg.wc core = none) (pc addr : Nat) (store : Bool) :
    ((s.accessFault l core pc addr store).lane l).brg = (s.lane l).brg := by
  have htasks (t : State) (n : Nat) : ((t.taskTraps l n).lane l).brg = (t.lane l).brg := by
    unfold State.taskTraps
    split
    · rfl
    · split <;> simp
  unfold State.accessFault State.coreTrap State.afterTrap
  rw [wcIssue_none (by simpa using h)]
  dsimp only
  split
  · simp [htasks]
  · simp

/-! ### The write-combining buffer (R287) -/

/-- Bytes put in behind all others are appended. -/
theorem wcPut_behind (m bs : List (Nat × Byte)) (h : (m ++ bs).Pairwise (·.1 < ·.1)) : wcPut m bs = m ++ bs := by
  induction bs generalizing m with
  | nil => simp [wcPut]
  | cons p bs ih =>
    have hlt : ∀ q ∈ m, q.1 < p.1 := fun q hq => (List.pairwise_append.1 h).2.2 q hq p List.mem_cons_self
    have hput : mapInsert (mapErase m p.1) p.1 p.2 = m ++ [p] := by
      clear h ih
      induction m with
      | nil => rfl
      | cons q m ih =>
        have hq := hlt q List.mem_cons_self
        rw [mapErase, if_neg (by omega), mapInsert, if_neg (by omega), ih fun r hr => hlt r (List.mem_cons_of_mem _ hr), List.cons_append]
    rw [wcPut, List.foldl_cons, hput]
    refine (ih (m ++ [p]) ?_).trans ?_
    · simpa using h
    · simp

theorem length_storeBytes (addr size : Nat) (v : Word) : (storeBytes addr size v).length = size := by simp [storeBytes]

/-- A store's bytes have rising addresses. -/
theorem wcPut_storeBytes (addr size : Nat) (v : Word) : wcPut [] (storeBytes addr size v) = storeBytes addr size v := by
  refine wcPut_behind [] _ (List.pairwise_iff_getElem.2 fun i j hi hj hij => ?_)
  simpa [storeBytes] using hij

/-- A store of a core without open buffer opens one. -/
theorem combinedStore_opens {s : State} {l : LaneId} {core : Nat} (h : mapFind (s.lane l).brg.wc core = none) (addr : Nat) {size : Nat}
    (hsize : accessSize size = true) (v : Word) : s.combinedStore l core addr size v =
      s.brgUpd l (fun x => { x with wc := mapSet [] x.wc core (storeBytes addr size v) }) := by
  have hlen : size ≠ 64 := by
    rintro rfl
    cases hsize
  unfold State.combinedStore
  simp only [h, Bool.false_eq_true, if_false, mapGet, Option.getD_none, wcPut_storeBytes, length_storeBytes, hlen]

theorem mapFind_mapSet_same {α : Type} [DecidableEq α] {d v : α} (h : v ≠ d) (m : List (Nat × α)) (k : Nat) :
    mapFind (mapSet d m k v) k = some v := by
  rw [mapSet, if_neg h, mapFind_put_same]

/-! ### The write queue (R289) -/

/-- While fewer than 32 writes are outstanding and none waits, a write goes onto the link and is counted as issued. -/
theorem writeEnter_issues {s : State} {l : LaneId} (w : PendWrite) (hup : s.linkUp l = true) (hwait : (s.lane l).brg.waiting = [])
    (hroom : (s.lane l).brg.writes.length < 32) :
    ((s.writeEnter l w).lane l).brg = { (s.lane l).brg with writes := (s.lane l).brg.writes ++ [w] } ∧
      (s.writeEnter l w).lf l BRG_WISSUED = (s.lf l BRG_WISSUED + 1) % 2 ^ 32 := by
  have henter : s.writeEnter l w = ((s.brgUpd l (fun x => { x with writes := x.writes ++ [w] })).lfSet l BRG_WISSUED
      (s.lf l BRG_WISSUED + 1)).brgShow l := by
    simp only [State.writeEnter, hup, hwait, hroom, State.lf_brgUpd]
    rfl
  rw [henter]
  constructor
  · simp [State.brgShow]
  · unfold State.brgShow
    rw [State.lf_lfSet_apart _ _ _ _ _ _ rfl, State.lf_lfSet_apart _ _ _ _ _ _ rfl, State.lf_lfSet_apart _ _ _ _ _ _ rfl,
      State.lf_lfSet_same _ _ _ _ rfl]
    rfl

theorem exec_wcBufferIssue {s : State} {l : LaneId} {core : Nat} (hup : s.coreUp l core = true) :
    exec (.wcBufferIssue l core) s = .next (s.wcIssue l core) := if_pos hup

/-- An open buffer that closes enters the queue as one write. -/
theorem wcIssue_open {s : State} {l : LaneId} {core : Nat} {p : Nat × Byte} {bs : List (Nat × Byte)}
    (h : mapFind (s.lane l).brg.wc core = some (p :: bs)) : s.wcIssue l core =
      (s.brgUpd l (fun x => { x with wc := mapErase x.wc core })).writeEnter l ⟨core, 0, p.1, p :: bs, false⟩ := by
  rw [State.wcIssue, h]

/-! ### Write responses and fences (R288, R289) -/

/-- The hub end performs a write to hub SRAM. -/
theorem hubStore_sram {a : Nat} (hlo : 0x58000000 ≤ a) (hhi : a < 0x59000000) (s : State) (l : LaneId) (core : Nat) (b : Byte)
    (bs : List (Nat × Byte)) : s.hubStore l core ((a, b) :: bs) =
      ({ s with hub := { s.hub with sram := memWriteCells s.hub.sram ((a, b) :: bs) } }, 0) := by
  have hmem : inHubMem a = true := by simp [inHubMem]; omega
  have hsram : a < 0x60000000 := by omega
  simp [State.hubStore, hmem, hsram]

/-- The hub end performs the oldest write, where it has not done so for a read behind it. -/
theorem performAhead_oldest {s : State} {l : LaneId} {w : PendWrite} {ws : List PendWrite} (hwrites : (s.lane l).brg.writes = w :: ws)
    (hdone : (s.lane l).brg.done = []) : s.performAhead l 1 =
      (s.performWrite l w).1.brgUpd l (fun x => { x with done := x.done ++ [(s.performWrite l w).2] }) := by
  rw [State.performAhead, hwrites, hdone]
  rfl

/-- The hub with bytes written to its SRAM, and the write counted as performed. -/
def State.sramPerformed (s : State) (l : LaneId) (bs : List (Nat × Byte)) : State :=
  ({ s with hub := { s.hub with sram := memWriteCells s.hub.sram bs } } : State).lfSet l BRG_WDONE (s.lf l BRG_WDONE + 1)

/-- The oldest write has its response: `ws` are the writes behind it. -/
def State.oldestAnswered (s : State) (l : LaneId) (ws : List PendWrite) : State :=
  s.brgUpd l (fun x => { x with
    writes := ws, done := x.done.drop 1
    reads := x.reads.map (fun r => { r with ahead := r.ahead - 1 }), quar := x.quar.map (fun r => { r with ahead := r.ahead - 1 }) })

theorem sramPerformed_brg (s : State) (l : LaneId) (bs : List (Nat × Byte)) : ((s.sramPerformed l bs).lane l).brg = (s.lane l).brg := by
  cases l <;> rfl

section
variable {s : State} {l : LaneId} {w : PendWrite} {p : Nat × Byte} {bs : List (Nat × Byte)} (hbytes : w.bytes = p :: bs)
  (hlo : 0x58000000 ≤ p.1) (hhi : p.1 < 0x59000000)
include hbytes hlo hhi

theorem performWrite_sram : s.performWrite l w = (s.sramPerformed l w.bytes, 0) := by
  have hlf : ∀ h : Hub, ({ s with hub := h } : State).lf l BRG_WDONE = s.lf l BRG_WDONE := fun h => by cases l <;> rfl
  rw [State.performWrite, hbytes, hubStore_sram hlo hhi, State.sramPerformed]
  simp only [hlf, if_true]

/-- The response to the oldest write, which goes to hub SRAM: the write has been performed, and what has waited proceeds. -/
theorem writeResponse_sram {ws : List PendWrite} (hup : s.linkUp l = true) (hwrites : (s.lane l).brg.writes = w :: ws)
    (hdone : (s.lane l).brg.done = []) : ∃ u t, exec (.writeResponse l) s = .next t ∧ u.hub = (s.sramPerformed l w.bytes).hub ∧
      u.lf l BRG_WDONE = (s.sramPerformed l w.bytes).lf l BRG_WDONE ∧ LinkKept Fld.offQueue l u t := by
  have hcode : (((s.performAhead l 1).lane l).brg.done).headD 0 = 0 := by
    rw [performAhead_oldest hwrites hdone, performWrite_sram hbytes hlo hhi]
    simp [sramPerformed_brg, hdone]
  have hahead : (s.performAhead l 1).hub = (s.sramPerformed l w.bytes).hub ∧
      (s.performAhead l 1).lf l BRG_WDONE = (s.sramPerformed l w.bytes).lf l BRG_WDONE := by
    rw [performAhead_oldest hwrites hdone, performWrite_sram hbytes hlo hhi]
    exact ⟨State.brgUpd_hub .., State.lf_brgUpd ..⟩
  have hexec : exec (.writeResponse l) s = .next ((((s.performAhead l 1).oldestAnswered l ws).brgAll l).fencesGo l) := by
    show execWriteResponse l s = _
    simp only [execWriteResponse, hwrites, hup, hcode, Bool.not_true, Bool.false_eq_true, if_false, if_true]
    rfl
  exact ⟨_, _, hexec, (State.brgUpd_hub ..).trans hahead.1, (State.lf_brgUpd ..).trans hahead.2, LinkKept.refl.brgAll.fencesGo⟩

end

theorem exec_fence_done {s : State} {l : LaneId} {core : Nat} (pc : Nat) (hup : s.coreUp l core = true)
    (hwc : mapFind (s.lane l).brg.wc core = none) (howes : (s.lane l).brg.owes core = false) :
    exec (.fence l core pc) s = .next (s.fenceDone l core pc) := by
  show execFence l core pc s = _
  simp [execFence, hup, wcIssue_none hwc, howes]

theorem exec_fence_waits {s : State} {l : LaneId} {core : Nat} (pc : Nat) (hup : s.coreUp l core = true)
    (hwc : mapFind (s.lane l).brg.wc core = none) (howes : (s.lane l).brg.owes core = true) :
    exec (.fence l core pc) s = .next (s.brgUpd l (fun x => { x with fences := mapInsert (mapErase x.fences core) core pc })) := by
  show execFence l core pc s = _
  simp [execFence, hup, wcIssue_none hwc, howes]

/-- A fence of an application core completes, or faults for the core's first failed write. -/
theorem fenceDone_of_app {s : State} {l : LaneId} {core : Nat} (hcore : core < 4) (pc : Nat) :
    s.fenceDone l core pc = (s.oweFault l core pc).getD s := by
  have happ : core ≠ 4 := by omega
  cases howe : s.oweFault l core pc <;> simp [State.fenceDone, happ, howe]

/-! ### What a store, a buffer that closes and a fence do -/

theorem inHubMem_lt {addr : Nat} (h : inHubMem addr = true) : addr < 0x64000000 := by
  simp only [inHubMem, Bool.or_eq_true, Bool.and_eq_true, decide_eq_true_eq] at h
  omega

theorem storeBytes_ne_nil {size : Nat} (hsize : accessSize size = true) (addr : Nat) (v : Word) : storeBytes addr size v ≠ [] := by
  intro h
  have hlen := length_storeBytes addr size v
  rw [h] at hlen
  exact absurd (one_le_of_accessSize hsize) (by simp [← hlen])

section
variable {s : State} {l : LaneId} {core : Nat} (pc : Nat) (hup : s.coreUp l core = true)
include hup

section
variable {addr size : Nat} (v : Word) {who : Runner} (hlets : s.lets l core addr size true who = true)
  (hfailed : mapFind (s.lane l).brg.failed core = none) (hsize : accessSize size = true) (halign : addr % size = 0)
include hlets hfailed hsize halign

/-- A store that its lane may make goes into the core's buffer. -/
theorem bridgeCombinedStore_combines (hmem : inHubMem addr = true) (hmay : addr < 0x60000000 ∨ mramMay l addr = true)
    (hwc : s.lf l BRG_CFG_WC_OFF = 0) (hbuf : mapFind (s.lane l).brg.wc core = none) :
    ∃ t, exec (.bridgeCombinedStore l core pc addr size v false who) s = .next t ∧
      mapFind (t.lane l).brg.wc core = some (storeBytes addr size v) ∧ (t.lane l).brg.writes = (s.lane l).brg.writes ∧
      t.hub = s.hub ∧ LaneOnly l s t := by
  obtain ⟨u, hu, he⟩ := bridgeCombinedStore_made pc v hup hsize hlets hfailed halign hmem
  obtain ⟨hbrg, hhub, -, hlf⟩ := hu.bridge
  have hallowed : ¬(decide (0x60000000 ≤ addr) && !mramMay l addr) = true := by
    rcases hmay with h | h <;> simp [h]
  rw [if_neg hallowed, if_neg (by rw [hlf, hwc]; decide), combinedStore_opens (by rw [hbrg, hbuf]) addr hsize v] at he
  refine ⟨_, he, ?_, ?_, by simp [hhub], hu.keeps.1.trans (.brgUpd ..)⟩
  · simp [mapFind_mapSet_same (storeBytes_ne_nil hsize addr v)]
  · simp [hbrg]

/-- A store to the MRAM of another lane faults and is recorded. -/
theorem bridgeCombinedStore_foreign (hmem : inHubMem addr = true) (hmram : 0x60000000 ≤ addr) (hmay : mramMay l addr = false) :
    ∃ t, exec (.bridgeCombinedStore l core pc addr size v false who) s = .next t ∧ (t.core l core).trap = some ⟨7, pc, some addr⟩ ∧
      t.hub = s.hub ∧ t.lf l BRG_FAULT_ADDR = addr ∧ t.lf l BRG_FAULT_INFO_CODE = 2 := by
  obtain ⟨u, hu, he⟩ := bridgeCombinedStore_made pc v hup hsize hlets hfailed halign hmem
  rw [if_pos (by simp [hmram, hmay])] at he
  obtain ⟨htrap, hcode, hlane⟩ := windowFault_effect u l core addr pc
  have hlt := inHubMem_lt hmem
  have haddr : (u.windowFault l core pc addr).lf l BRG_FAULT_ADDR = addr % 2 ^ 64 :=
    ((LinkKept.accessFault .refl).lf _ rfl).trans (brgFail_recorded ..).1
  exact ⟨_, he, htrap, hlane.lanesOnly.hub.trans hu.bridge.2.1, haddr.trans (Nat.mod_eq_of_lt (by omega)), hcode⟩

/-- A store to a hub register goes onto the link and is counted as issued. -/
theorem bridgeRegisterStore_issues (hlink : s.linkUp l = true) (hwait : (s.lane l).brg.waiting = [])
    (hroom : (s.lane l).brg.writes.length < 32) (hwin : inWindow addr = true) (hend : laneEnd addr = false)
    (hbuf : mapFind (s.lane l).brg.wc core = none) :
    ∃ t, exec (.bridgeRegisterStore l core pc addr size v false who) s = .next t ∧
      (t.lane l).brg.writes = (s.lane l).brg.writes ++ [⟨core, pc, addr, storeBytes addr size v, true⟩] ∧
      t.lf l BRG_WISSUED = (s.lf l BRG_WISSUED + 1) % 2 ^ 32 ∧ t.hub = s.hub ∧ LaneOnly l s t := by
  obtain ⟨u, hu, he⟩ := bridgeRegisterStore_made pc v hup hsize hlets hfailed halign hwin hend
  obtain ⟨hbrg, hhub, hlink', hlf⟩ := hu.bridge
  rw [wcIssue_none (by rw [hbrg, hbuf])] at he
  obtain ⟨hqueue, hissued⟩ := writeEnter_issues ⟨core, pc, addr, storeBytes addr size v, true⟩ (hlink'.trans hlink)
    (by rw [hbrg, hwait]) (by rw [hbrg]; exact hroom)
  exact ⟨_, he, by rw [hqueue, hbrg], by rw [hissued, hlf], (LaneOnly.writeEnter ..).lanesOnly.hub.trans hhub,
    hu.keeps.1.trans (.writeEnter ..)⟩

end

/-- A buffer that closes goes onto the link and is counted as issued. -/
theorem wcBufferIssue_issues {p : Nat × Byte} {bs : List (Nat × Byte)} (hlink : s.linkUp l = true) (hwait : (s.lane l).brg.waiting = [])
    (hroom : (s.lane l).brg.writes.length < 32) (hbuf : mapFind (s.lane l).brg.wc core = some (p :: bs)) :
    ∃ t, exec (.wcBufferIssue l core) s = .next t ∧ mapFind (t.lane l).brg.wc core = none ∧
      (t.lane l).brg.writes = (s.lane l).brg.writes ++ [⟨core, 0, p.1, p :: bs, false⟩] ∧
      t.lf l BRG_WISSUED = (s.lf l BRG_WISSUED + 1) % 2 ^ 32 ∧ LaneOnly l s t := by
  obtain ⟨hqueue, hissued⟩ := writeEnter_issues (s := s.brgUpd l (fun x => { x with wc := mapErase x.wc core })) (l := l)
    ⟨core, 0, p.1, p :: bs, false⟩ (by simpa [State.linkUp] using hlink) (by simpa using hwait) (by simpa using hroom)
  refine ⟨_, (exec_wcBufferIssue hup).trans (by rw [wcIssue_open hbuf]), ?_, ?_, ?_, (LaneOnly.brgUpd ..).trans (.writeEnter ..)⟩
  · simp [hqueue]
  · simp [hqueue]
  · rw [hissued, State.lf_brgUpd]

/-- A fence behind a failed write faults with the write's address. -/
theorem fence_failed {a : Nat} (hbuf : mapFind (s.lane l).brg.wc core = none) (howes : (s.lane l).brg.owes core = false)
    (hcore : core < 4) (hfailed : mapFind (s.lane l).brg.failed core = some a) :
    ∃ t, exec (.fence l core pc) s = .next t ∧ (t.core l core).trap = some ⟨7, pc, some a⟩ ∧
      mapFind (t.lane l).brg.failed core = none ∧ LaneOnly l s t := by
  have howe : s.oweFault l core pc =
      some ((s.brgUpd l (fun x => { x with failed := mapErase x.failed core })).accessFault l core pc a true) := by
    rw [State.oweFault, hfailed]
  refine ⟨_, by rw [exec_fence_done pc hup hbuf howes, fenceDone_of_app hcore, howe]; rfl, (accessFault_trap_mem ..).1, ?_,
    (LaneOnly.brgUpd ..).trans (.accessFault ..)⟩
  rw [accessFault_brg (by simpa using hbuf)]
  simp

end

/-- Settles O45: stores that are combined, refused or sent, buffers that close, responses and fences. -/
theorem bridgeStoresWritesAndFences : Obligations.BridgeStoresWritesAndFences := by
  unfold Obligations.BridgeStoresWritesAndFences
  intro s l core pc who hup
  refine ⟨fun addr size v hlets hfailed hsize halign hmem hmay hwc hbuf =>
      bridgeCombinedStore_combines pc hup v hlets hfailed hsize halign hmem hmay hwc hbuf,
    fun addr size v amo hbuf hsize hbad i hi => ?_,
    fun addr size v hlets hfailed hsize halign hmem hmram hmay =>
      bridgeCombinedStore_foreign pc hup v hlets hfailed hsize halign hmem hmram hmay,
    fun hlink hwait hroom =>
      ⟨fun addr size v hlets hsize halign hwin hend hbuf hfailed =>
          bridgeRegisterStore_issues pc hup v hlets hfailed hsize halign hlink hwait hroom hwin hend hbuf,
        fun p bs hbuf => wcBufferIssue_issues hup hlink hwait hroom hbuf,
        fun w ws hwrites hdone ⟨p, bs, hbytes, hlo, hhi⟩ => ?_⟩,
    fun hbuf howes hcore => ⟨fun hfailed => ?_, fun a hfailed => fence_failed pc hup hbuf howes hcore hfailed⟩,
    fun hbuf howes => ⟨_, exec_fence_waits pc hup hbuf howes, by simp, by simp [State.core], .brgUpd ..⟩⟩
  · obtain ⟨u, hu, he⟩ := bridgeStore_faults pc v hup hsize hbad hi
    exact ⟨_, he, (accessFault_trap_mem ..).1, (accessFault_brg (by rw [hu.bridge.1, hbuf]) ..).trans hu.bridge.1,
      hu.keeps.1.trans (.accessFault ..)⟩
  · obtain ⟨u, t, he, hhub, hcount, hkept⟩ := writeResponse_sram hbytes hlo hhi hlink hwrites hdone
    have hsram : t.hub = { s.hub with sram := memWriteCells s.hub.sram w.bytes } := by
      rw [hkept.hub, hhub, State.sramPerformed, State.lfSet_hub]
    refine ⟨t, he, by rw [hsram], fun _ => by rw [hsram], ?_⟩
    rw [hkept.lf _ rfl, hcount]
    exact State.lf_lfSet_same _ _ _ _ rfl
  · rw [exec_fence_done pc hup hbuf howes, fenceDone_of_app hcore, oweFault_none hfailed]
    rfl

end Sys2Proof.Machine

/-! Loads over the bridge, their responses, the discard timer, and the link reset (10 R291 to R301). -/

namespace Sys2Proof.Machine

-- One theorem after the other, as the model's tests: elaborated side by side they would exceed the check's memory limit.
set_option Elab.async false

/-! ### Loads (R291 to R293) -/

/-- A read as it waits for a tag. -/
def PendRead.untagged (r : PendRead) : PendRead := { r with tag := none }

/-- Tags change nothing else of the reads. -/
theorem takeTags_untagged (n : Nat) (b : LaneBrg) :
    (takeTags n b).reads.map PendRead.untagged = b.reads.map PendRead.untagged := by
  induction n generalizing b with
  | zero => rfl
  | succ n ih =>
    rw [takeTags]
    split
    next r t hr _ =>
      have hplace : (b.reads.map PendRead.untagged)[b.reads.findIdx (fun x => x.tag.isNone)]? = some r.untagged := by
        rw [List.getElem?_map, ← List.find?_eq_getElem?_findIdx, hr, Option.map_some]
      obtain ⟨hi, hread⟩ := List.getElem?_eq_some_iff.1 hplace
      refine (ih _).trans ?_
      rw [List.map_set, show ({ r with tag := some t } : PendRead).untagged = r.untagged from rfl, ← hread, List.set_getElem_self]
    next => rfl

/-- Closing a buffer leaves the reads. -/
theorem wcIssue_reads (s : State) (l : LaneId) (core : Nat) : ((s.wcIssue l core).lane l).brg.reads = (s.lane l).brg.reads := by
  have henter (t : State) (w : PendWrite) : ((t.writeEnter l w).lane l).brg.reads = (t.lane l).brg.reads := by
    unfold State.writeEnter State.brgShow
    dsimp only
    split <;> simp
  unfold State.wcIssue
  split
  · simp [henter]
  · rfl

/-- A load that enters waits behind the writes, with a tag or without one. -/
theorem readEnter_waits (s : State) (l : LaneId) (core pc addr size rd : Nat) (signed spec : Bool) :
    ∃ q, ((s.readEnter l core pc addr size rd signed spec).lane l).brg.reads.map PendRead.untagged =
        (s.lane l).brg.reads.map PendRead.untagged ++ [⟨none, core, pc, rd, addr, size, signed, spec, q⟩] ∧
      ((s.readEnter l core pc addr size rd signed spec).lane l).cores = (s.lane l).cores := by
  refine ⟨(s.lane l).brg.writes.length + (s.lane l).brg.waiting.length, ?_⟩
  unfold State.readEnter State.brgShow
  dsimp only
  split
  · simp [takeTags_untagged, PendRead.untagged]
  · simp [PendRead.untagged]

section
variable {s : State} {l : LaneId} {core addr size : Nat} {who : Runner} (pc rd : Nat) (signed spec : Bool)
  (hup : s.coreUp l core = true) (hlets : s.lets l core addr size false who = true)
  (hfailed : mapFind (s.lane l).brg.failed core = none) (hsize : accessSize size = true) (halign : addr % size = 0)
  (hplace : inWindow addr = true ∧ laneEnd addr = false ∨ inHubMem addr = true)
include hup hlets hfailed hsize halign hplace

/-- A load that is let through enters the lane end, behind the buffer that it closes. -/
theorem bridgeLoad_made :
    ∃ u, CoreOnly l core s u ∧ (u.core l core).trap = (s.core l core).trap ∧
      exec (.bridgeLoad l core pc addr size rd signed spec false who) s =
        .next ((u.wcIssue l core).readEnter l core pc addr size rd signed (spec && inHubMem addr)) := by
  obtain ⟨u, hu, htrap, he⟩ := guarded_made (pc := pc) hlets _
  have howe := oweFault_none (s := u) (by rw [hu.bridge.1, hfailed]) pc
  have hend : laneEnd addr = false := by
    rcases hplace with h | h
    · exact h.2
    · simp only [inHubMem, Bool.or_eq_true, Bool.and_eq_true, decide_eq_true_eq] at h
      simp [laneEnd]
      omega
  have hregion : (inWindow addr || inHubMem addr) = true := by
    rcases hplace with h | h <;> simp [h]
  refine ⟨u, hu, htrap, ?_⟩
  show execBridgeLoad l core pc addr size rd signed spec false who s = _
  rw [execBridgeLoad, hup, hsize]
  refine (congrArg Host.Outcome.next he).trans ?_
  simp only [howe, halign, hregion, hend]
  rfl

/-- A load waits for its response. -/
theorem bridgeLoad_waits :
    ∃ t r, exec (.bridgeLoad l core pc addr size rd signed spec false who) s = .next t ∧ r ∈ (t.lane l).brg.reads ∧
      r.core = core ∧ r.pc = pc ∧ r.rd = rd ∧ r.addr = addr ∧ r.size = size ∧
      (t.lane l).brg.reads.length = (s.lane l).brg.reads.length + 1 ∧ (t.core l core).trap = (s.core l core).trap := by
  obtain ⟨u, hu, htrap, he⟩ := bridgeLoad_made pc rd signed spec hup hlets hfailed hsize halign hplace
  obtain ⟨q, hreads, hcores⟩ := readEnter_waits (u.wcIssue l core) l core pc addr size rd signed (spec && inHubMem addr)
  rw [wcIssue_reads, hu.bridge.1] at hreads
  obtain ⟨r, hr, hwaits⟩ := List.mem_map.1 (hreads ▸ List.mem_append_right _ List.mem_cons_self)
  refine ⟨_, r, he, hr, congrArg PendRead.core hwaits, congrArg PendRead.pc hwaits, congrArg PendRead.rd hwaits,
    congrArg PendRead.addr hwaits, congrArg PendRead.size hwaits, ?_, ?_⟩
  · simpa using congrArg List.length hreads
  · rw [← htrap, State.core, hcores, (wcIssue_cores_mem ..).1, State.core]

end

/-! ### Responses (R291, R295, R298) -/

theorem brgAll_cores (s : State) (l : LaneId) : ((s.brgAll l).lane l).cores = (s.lane l).cores := by
  have hproceed (t : State) : ((t.brgProceed l).lane l).cores = (t.lane l).cores := by
    unfold State.brgProceed State.brgShow
    dsimp only
    split
    · split <;> simp
    · simp
  have hall (ns : List Nat) (t : State) : ((ns.foldl (fun t _ => t.brgProceed l) t).lane l).cores = (t.lane l).cores := by
    induction ns generalizing t with
    | nil => rfl
    | cons n ns ih => exact (ih _).trans (hproceed t)
  unfold State.brgAll State.brgShow
  dsimp only
  split
  · rfl
  · simp [hall]

/-- The writes that the hub end has performed already are not performed again. -/
theorem performAhead_done {s : State} {l : LaneId} {n : Nat} (h : n ≤ (s.lane l).brg.done.length) : s.performAhead l n = s := by
  have hnone : ((s.lane l).brg.writes.take n).drop (s.lane l).brg.done.length = [] :=
    List.drop_eq_nil_of_le ((List.length_take_le ..).trans h)
  simp [State.performAhead, hnone]

/-- The read with a tag has its response. -/
def State.readAnswered (s : State) (l : LaneId) (tag : Nat) : State :=
  s.brgUpd l (fun x => { x with reads := x.reads.filter (fun y => !(y.tag == some tag)) })

theorem hubLoad_sram {addr : Nat} (hlo : 0x58000000 ≤ addr) (hhi : addr < 0x59000000) (s : State) (l : LaneId) (core n : Nat)
    (ecc : Bool) : s.hubLoad l core addr n ecc = if ecc then (s, [], 3) else (s, memRead s.hub.sram addr n, 0) := by
  have hmem : inHubMem addr = true := by simp [inHubMem]; omega
  have hsram : addr < 0x60000000 := by omega
  simp [State.hubLoad, hmem, hsram]

section
variable {s : State} {l : LaneId} {tag : Nat} {r : PendRead} (hup : s.linkUp l = true)
  (hfind : (s.lane l).brg.reads.find? (fun r => r.tag == some tag) = some r) (hlo : 0x58000000 ≤ r.addr) (hhi : r.addr < 0x59000000)
  (hahead : r.ahead ≤ (s.lane l).brg.done.length)
include hup hfind hlo hhi hahead

/-- The response of hub SRAM, once the writes ahead of the read have been performed: the load completes, or faults. -/
theorem exec_readResponse_sram (ecc : Bool) : exec (.readResponse l tag ecc) s = .next (State.brgAll
    (if ecc then ((s.readAnswered l tag).brgFail l 3 false r.core r.addr).accessFault l r.core r.pc r.addr false
      else (s.readAnswered l tag).coreLoad l r.core r.rd (memRead s.hub.sram r.addr r.size) r.signed) l) := by
  have hdone : (s.readAnswered l tag).performAhead l r.ahead = s.readAnswered l tag :=
    performAhead_done (by simpa [State.readAnswered] using hahead)
  have hload := hubLoad_sram hlo hhi (s.readAnswered l tag) l r.core r.size ecc
  show execReadResponse l tag ecc s = _
  rw [State.readAnswered] at *
  cases ecc with
  | false =>
    simp only [execReadResponse, hup, hfind, hdone, hload, State.brgUpd_hub]
    rfl
  | true =>
    simp only [execReadResponse, hup, hfind, hdone, hload]
    rfl

/-- The loaded value is written. -/
theorem readResponse_loads : ∃ t, exec (.readResponse l tag false) s = .next t ∧
    xReg (t.core l r.core) r.rd = (if r.rd = 0 then 0 else loadWord (memRead s.hub.sram r.addr r.size) r.signed) ∧
    t.hub.sram = s.hub.sram := by
  refine ⟨_, exec_readResponse_sram hup hfind hlo hhi hahead false, ?_, ?_⟩
  · rw [State.core, brgAll_cores, if_neg Bool.false_ne_true, State.coreLoad, ← State.core, State.core_coreSet_same, xReg_xSet]
  · rw [(LinkKept.brgAll .refl).hub, if_neg Bool.false_ne_true, State.coreLoad, State.coreSet_hub, State.readAnswered, State.brgUpd_hub]

/-- An uncorrectable error faults the load, and is recorded. -/
theorem readResponse_faults : ∃ t, exec (.readResponse l tag true) s = .next t ∧
    (t.core l r.core).trap = some ⟨5, r.pc, some r.addr⟩ ∧ t.lf l BRG_FAULT_INFO_CODE = 3 ∧ t.lf l BRG_FAULT_ADDR = r.addr := by
  have hkept {u : State} := LinkKept.brgAll (.accessFault (.refl (s := u) (l := l)) (core := r.core) (pc := r.pc) (addr := r.addr)
    (store := false))
  refine ⟨_, exec_readResponse_sram hup hfind hlo hhi hahead true, ?_, ?_, ?_⟩
  · rw [State.core, brgAll_cores]
    exact (accessFault_trap_mem ..).1
  · exact (hkept.lf _ rfl).trans (brgFail_recorded ..).2
  · exact (hkept.lf _ rfl).trans ((brgFail_recorded ..).1.trans (Nat.mod_eq_of_lt (by omega)))

end

/-- The acknowledgement of a flush takes the reads with its tag out of the quarantine. -/
theorem flushAck_frees {s : State} {l : LaneId} (tag : Nat) (hup : s.linkUp l = true) : ∃ t, exec (.flushAck l tag) s = .next t ∧
    ∀ r, r ∈ (t.lane l).brg.quar ↔ r ∈ (s.lane l).brg.quar ∧ r.tag ≠ some tag := by
  have hexec : exec (.flushAck l tag) s =
      .next ((s.brgUpd l (fun x => { x with quar := x.quar.filter (fun y => !(y.tag == some tag)) })).brgAll l) :=
    if_neg (by simp [hup])
  refine ⟨_, hexec, fun r => ?_⟩
  rw [(LinkKept.brgAll .refl).quar]
  simp

/-! ### The discard timer of a read (R294) -/

/-- A read leaves the lane end; where it had a tag, the tag is quarantined. -/
def State.readDiscarded (s : State) (l : LaneId) (i : Nat) (r : PendRead) : State :=
  s.brgUpd l (fun x => { x with
    reads := x.reads.eraseIdx i
    quar := if r.tag.isSome then x.quar ++ [r] else x.quar })

theorem exec_discardTimerExpire_read {s : State} {l : LaneId} {i : Nat} {r : PendRead} (done : Nat) (hs : (s.lane l).supplied = true)
    (hread : (s.lane l).brg.reads[i]? = some r) (hspec : r.spec = false) : exec (.discardTimerExpire l false i done) s =
      .next (((((s.readDiscarded l i r).brgFail l 4 false r.core r.addr).accessFault l r.core r.pc r.addr false).brgUpd l
        (takeTags 64)).brgShow l) := by
  show execDiscardTimerExpire l false i done s = _
  simp only [execDiscardTimerExpire, hs, hread, hspec]
  rfl

theorem lf_brgFail_timeout (s : State) (l : LaneId) (core addr : Nat) : (s.brgFail l 4 false core addr).lf l BRG_CNT_DISC_TIMEOUT =
    satAdd 0xFFFF (s.lf l BRG_CNT_DISC_TIMEOUT) 1 := by
  have hnoted : (s.failNoted l 4 false core addr).lf l BRG_CNT_DISC_TIMEOUT = s.lf l BRG_CNT_DISC_TIMEOUT := by
    unfold State.failNoted
    rw [State.lf_lfSet_apart _ _ _ _ _ _ rfl, State.lf_lfSet_apart _ _ _ _ _ _ rfl, State.lf_lfSet_apart _ _ _ _ _ _ rfl,
      State.lf_lfSet_apart _ _ _ _ _ _ rfl, State.lf_lfSet_apart _ _ _ _ _ _ rfl]
  rw [← hnoted]
  exact State.lf_lcount_same _ _ _ _ rfl

theorem brgFail_brg (s : State) (l : LaneId) (code : Nat) (write : Bool) (core addr : Nat) :
    ((s.brgFail l code write core addr).lane l).brg = (s.lane l).brg := by
  obtain he | ⟨f, -, he⟩ := brgFail_cases s l code write core addr <;> rw [he] <;> simp [State.failNoted]

/-- The timer of a read of an executing load: the load faults, and a tag is quarantined. -/
theorem discardTimerExpire_read {s : State} {l : LaneId} {i : Nat} {r : PendRead} (done : Nat) (hs : (s.lane l).supplied = true)
    (hread : (s.lane l).brg.reads[i]? = some r) (hspec : r.spec = false) :
    ∃ t, exec (.discardTimerExpire l false i done) s = .next t ∧ (t.core l r.core).trap = some ⟨5, r.pc, some r.addr⟩ ∧
      t.lf l BRG_CNT_DISC_TIMEOUT = satAdd 0xFFFF (s.lf l BRG_CNT_DISC_TIMEOUT) 1 ∧ t.lf l BRG_FAULT_INFO_CODE = 4 ∧
      (t.lane l).brg.quar = (s.lane l).brg.quar ++ (if r.tag.isSome then [r] else []) := by
  have hkept {u : State} : LinkKept Fld.offQueue l u (((u.accessFault l r.core r.pc r.addr false).brgUpd l (takeTags 64)).brgShow l) :=
    .brgShow (.brgUpd (.accessFault .refl) (fun b => by rw [takeTags_fields]) (fun b => by rw [takeTags_fields]))
  refine ⟨_, exec_discardTimerExpire_read done hs hread hspec, ?_, ?_, (hkept.lf _ rfl).trans (brgFail_recorded ..).2, ?_⟩
  · simp only [State.brgShow, State.core, State.lfSet_lane_cores, State.brgUpd_lane_cores]
    exact (accessFault_trap_mem ..).1
  · rw [hkept.lf _ rfl, lf_brgFail_timeout, State.readDiscarded, State.lf_brgUpd]
  · rw [hkept.quar, brgFail_brg, State.readDiscarded, State.brgUpd_lane_brg, if_pos rfl]
    cases r.tag <;> simp

/-! ### The link resets (R299, R300) -/

/-- Both ends keep their counts of writes and begin again at 0, and nothing stays outstanding. -/
def State.countsRestart (s : State) (l : LaneId) : State :=
  let s := s.lfSet l BRG_WDONE_PREV (s.lf l BRG_WDONE)
  let s := s.lfSet l BRG_WISSUED_PREV (s.lf l BRG_WISSUED)
  ((s.lfSet l BRG_WDONE 0).lfSet l BRG_WISSUED 0).brgUpd l (fun x => { x with
    writes := [], done := [], reads := x.reads.filter (fun r => r.tag.isNone), quar := [] })

/-- The reads fail that were outstanding; a speculative one is dropped. -/
def State.readsFail (s : State) (l : LaneId) (rs : List PendRead) : State :=
  rs.foldl (fun s r => if r.spec then s else (s.brgFail l 5 false r.core r.addr).accessFault l r.core r.pc r.addr false) s

/-- Writes fail, as the link is reset. -/
def State.writesFail (s : State) (l : LaneId) (ws : List PendWrite) : State := ws.foldl (fun s w => s.writeFails l w 5) s

/-- The lane's registers of the shadow set of channel `c`. -/
def shadowRegs (c : Nat) : List Nat :=
  [PDE_SH_CFG c, PDE_SH_SRC c, PDE_SH_WIN c, PDE_SH_BANK0 c, PDE_SH_BANK1 c, PDE_SH_SIZE c, PDE_ARM c].map Fld.reg

/-- Registers of the lane go back to their reset values. -/
def State.regsReset (s : State) (l : LaneId) (regs : List Nat) : State := regs.foldl (fun s a => s.lregSet l a (regReset l a)) s

/-- The shadow sets of all channels. -/
def allShadowRegs : List Nat := (List.range 192).flatMap shadowRegs

theorem shadowsReset_eq (s : State) (l : LaneId) : (List.range 192).foldl (fun s c =>
    [PDE_SH_CFG c, PDE_SH_SRC c, PDE_SH_WIN c, PDE_SH_BANK0 c, PDE_SH_BANK1 c, PDE_SH_SIZE c, PDE_ARM c].foldl
      (fun s f => s.lregSet l f.reg (regReset l f.reg)) s) s = s.regsReset l allShadowRegs := by
  rw [State.regsReset, allShadowRegs, List.foldl_flatMap]
  simp only [shadowRegs, List.foldl_map]

/-- Everything that is outstanding when the link resets has failed; of the writes, the first `told` before. -/
def State.outstandingFails (s : State) (l : LaneId) (told : Nat) : State :=
  (((s.linkFalls l).countsRestart l).readsFail l ((s.lane l).brg.reads.filter (fun r => r.tag.isSome))).writesFail l
    ((s.lane l).brg.writes.drop told)

/-- The reset of a link whose outstanding writes the hub end has not performed. -/
theorem linkReset_eq (s : State) (l : LaneId) (told : Nat) : s.linkReset l 0 told =
    ((((((s.outstandingFails l told).regsReset l allShadowRegs).lcount l BRG_CNT_LINK_RESETS 1).lfSet l BRG_INT_STAT_RESET 1).brgShow
      l).fencesGo l) := by
  unfold State.linkReset
  rw [performAhead_done (Nat.zero_le _)]
  exact congrArg (fun t : State => (((t.lcount l BRG_CNT_LINK_RESETS 1).lfSet l BRG_INT_STAT_RESET 1).brgShow l).fencesGo l)
    (shadowsReset_eq (s.outstandingFails l told) l)

/-- A register that is reset reads its reset value, and every other one as before. -/
theorem lreg_regsReset (regs : List Nat) (s : State) (l : LaneId) (a : Nat) :
    (s.regsReset l regs).lreg l a = if a ∈ regs then regReset l a else s.lreg l a := by
  induction regs generalizing s with
  | nil => rfl
  | cons b regs ih =>
    refine (ih _).trans ?_
    by_cases hb : a = b
    · subst hb
      simp
    · simp [hb, State.lreg_lregSet_other _ _ _ _ hb]

theorem mem_allShadowRegs_arm {c : Nat} (hc : c < 192) : (PDE_ARM c).reg ∈ allShadowRegs :=
  List.mem_flatMap.2 ⟨c, List.mem_range.2 hc, by simp [shadowRegs]⟩

/-- The shadow sets lie below the registers of the bridge. -/
theorem lt_of_mem_allShadowRegs {a : Nat} (h : a ∈ allShadowRegs) : a < 0x5000C000 := by
  obtain ⟨c, hc, ha⟩ := List.mem_flatMap.1 h
  have hlt := List.mem_range.1 hc
  simp only [shadowRegs, List.map_cons, List.map_nil, List.mem_cons, List.not_mem_nil, or_false] at ha
  omega

theorem lf_regsReset_other {g : Fld} (h : 0x5000C000 ≤ g.reg) (s : State) (l : LaneId) :
    (s.regsReset l allShadowRegs).lf l g = s.lf l g := by
  have hout : g.reg ∉ allShadowRegs := fun hmem => absurd (lt_of_mem_allShadowRegs hmem) (by omega)
  rw [State.lf, lreg_regsReset, if_neg hout, State.lf]

/-- The rows of the ARM registers reset to 0. -/
theorem findReg_arm : ∀ c < 192, (findReg (PDE_ARM c).reg).map (fun r => (r.reset, r.laneStep)) = some (0, 0) := by decide +kernel

theorem regReset_arm {c : Nat} (hc : c < 192) (l : LaneId) : regReset l (PDE_ARM c).reg = 0 := by
  obtain ⟨r, hr, hrow⟩ := Option.map_eq_some_iff.1 (findReg_arm c hc)
  obtain ⟨hreset, hstep⟩ := Prod.mk.injEq .. ▸ hrow
  simp [regReset, hr, hreset, hstep]

theorem lf_regsReset_arm {c : Nat} (hc : c < 192) (s : State) (l : LaneId) : (s.regsReset l allShadowRegs).lf l (PDE_ARM c) = 0 := by
  rw [State.lf, lreg_regsReset, if_pos (mem_allShadowRegs_arm hc), regReset_arm hc]
  simp [fldGet, bitsOf]

theorem regsReset_brg (regs : List Nat) (s : State) (l : LaneId) : ((s.regsReset l regs).lane l).brg = (s.lane l).brg := by
  induction regs generalizing s with
  | nil => rfl
  | cons a regs ih => exact (ih _).trans (State.lregSet_lane_brg ..)

/-- From `s` to `t` the link of lane `l` has fallen for a reset: the counts of writes are kept aside, and nothing is outstanding. -/
structure LinkFallen (l : LaneId) (s t : State) : Prop where
  linkUp : t.lf l BRG_STATUS_LINK_UP = 0
  resetting : t.lf l BRG_STATUS_RESETTING = 1
  issued : t.lf l BRG_WISSUED = 0
  done : t.lf l BRG_WDONE = 0
  issuedPrev : t.lf l BRG_WISSUED_PREV = s.lf l BRG_WISSUED
  donePrev : t.lf l BRG_WDONE_PREV = s.lf l BRG_WDONE
  writes : (t.lane l).brg.writes = []
  quar : (t.lane l).brg.quar = []

/-- A link that has fallen stays so, whatever fails or traps: what it writes waits. -/
theorem LinkFallen.kept {l : LaneId} {s t u : State} (h : LinkFallen l s t) (g : LinkKept Fld.offFailure l t u) : LinkFallen l s u where
  linkUp := g.linkUp.trans h.linkUp
  resetting := (g.lf _ rfl).trans h.resetting
  issued := (g.down h.linkUp).1.trans h.issued
  done := (g.lf _ rfl).trans h.done
  issuedPrev := (g.lf _ rfl).trans h.issuedPrev
  donePrev := (g.lf _ rfl).trans h.donePrev
  writes := (g.down h.linkUp).2.trans h.writes
  quar := g.quar.trans h.quar

/-- The fields that show a reset and the counts of writes. -/
def resetFields : List Fld := [BRG_STATUS_LINK_UP, BRG_STATUS_RESETTING, BRG_WISSUED, BRG_WDONE, BRG_WISSUED_PREV, BRG_WDONE_PREV]

theorem LinkFallen.of_lf {l : LaneId} {s t u : State} (h : LinkFallen l s t) (hbrg : (u.lane l).brg = (t.lane l).brg)
    (hlf : ∀ g ∈ resetFields, u.lf l g = t.lf l g) : LinkFallen l s u where
  linkUp := (hlf _ (by simp [resetFields])).trans h.linkUp
  resetting := (hlf _ (by simp [resetFields])).trans h.resetting
  issued := (hlf _ (by simp [resetFields])).trans h.issued
  done := (hlf _ (by simp [resetFields])).trans h.done
  issuedPrev := (hlf _ (by simp [resetFields])).trans h.issuedPrev
  donePrev := (hlf _ (by simp [resetFields])).trans h.donePrev
  writes := by rw [hbrg, h.writes]
  quar := by rw [hbrg, h.quar]

theorem lf_linkFalls_apart {f : Fld} (hup : BRG_STATUS_LINK_UP.apart f = true) (hres : BRG_STATUS_RESETTING.apart f = true)
    (s : State) (l : LaneId) : (s.linkFalls l).lf l f = s.lf l f := by
  rw [State.linkFalls, State.lf_lfSet_apart _ _ _ _ _ _ hres, State.lf_lfSet_apart _ _ _ _ _ _ hup]

theorem linkFallen_countsRestart (s : State) (l : LaneId) : LinkFallen l s ((s.linkFalls l).countsRestart l) := by
  refine ⟨?_, ?_, ?_, ?_, ?_, ?_, by simp [State.countsRestart], by simp [State.countsRestart]⟩
  all_goals
    simp (disch := decide) only [State.countsRestart, State.linkFalls, State.lf_brgUpd, State.lf_lfSet_apart, State.lf_lfSet_same]
  · rfl
  · rfl
  · rfl
  · rfl
  · exact Nat.mod_eq_of_lt (lf_lt s l BRG_WISSUED)
  · exact Nat.mod_eq_of_lt (lf_lt s l BRG_WDONE)

/-- From `s` to `t` a reset of the link of lane `l` has begun: the shadow sets are cleared, and the reset is counted. -/
structure LinkResetBegun (l : LaneId) (s t : State) : Prop extends LinkFallen l s t where
  arm : ∀ c, c < 192 → t.lf l (PDE_ARM c) = 0
  resets : t.lf l BRG_CNT_LINK_RESETS = satAdd 0xFFFF (s.lf l BRG_CNT_LINK_RESETS) 1

theorem outstandingFails_kept (s : State) (l : LaneId) (told : Nat) :
    LinkKept Fld.offFailure l ((s.linkFalls l).countsRestart l) (s.outstandingFails l told) :=
  .foldl (fun _ _ h => h.writeFails) (.foldl (fun _ _ h => .ite h h.readFails) .refl)

theorem offQueue_arm {c : Nat} (hc : c < 192) : (PDE_ARM c).offQueue = true := by
  simp [Fld.offQueue, Fld.apart, Fld.ok, eventReg]
  omega

/-- A reset begins whose outstanding writes the hub end has not performed. -/
theorem linkReset_begins (s : State) (l : LaneId) (told : Nat) : LinkResetBegun l s (s.linkReset l 0 told) := by
  have hfails := outstandingFails_kept s l told
  have hfallen := (linkFallen_countsRestart s l).kept hfails
  have hcount : (s.outstandingFails l told).lf l BRG_CNT_LINK_RESETS = s.lf l BRG_CNT_LINK_RESETS := by
    rw [hfails.lf _ rfl]
    simp (disch := decide) only [State.countsRestart, State.linkFalls, State.lf_brgUpd, State.lf_lfSet_apart]
  rw [linkReset_eq]
  generalize s.outstandingFails l told = u at hfallen hcount ⊢
  have hkept {v : State} : LinkKept Fld.offQueue l v ((v.brgShow l).fencesGo l) := .fencesGo (.brgShow .refl)
  have hlf {g : Fld} (hresets : BRG_CNT_LINK_RESETS.apart g = true) (hint : BRG_INT_STAT_RESET.apart g = true) :
      (((u.regsReset l allShadowRegs).lcount l BRG_CNT_LINK_RESETS 1).lfSet l BRG_INT_STAT_RESET 1).lf l g =
        (u.regsReset l allShadowRegs).lf l g := by
    rw [State.lf_lfSet_apart _ _ _ _ _ _ hint, State.lf_lcount_apart _ _ _ _ _ _ hresets]
  refine ⟨(hfallen.of_lf (by simp [regsReset_brg]) fun g hg => ?_).kept hkept.offFailure, fun c hc => ?_, ?_⟩
  · have happart : ∀ g ∈ resetFields,
        BRG_CNT_LINK_RESETS.apart g = true ∧ BRG_INT_STAT_RESET.apart g = true ∧ 0x5000C000 ≤ g.reg := by decide
    obtain ⟨hresets, hint, hreg⟩ := happart g hg
    rw [hlf hresets hint, lf_regsReset_other hreg]
  · rw [hkept.lf _ (offQueue_arm hc), hlf Fld.apart_of_reg Fld.apart_of_reg,
      lf_regsReset_arm hc]
  · rw [hkept.lf _ rfl, State.lf_lfSet_apart _ _ _ _ _ _ rfl, State.lf_lcount_same _ _ _ _ rfl, lf_regsReset_other (by decide), hcount]
    rfl

/-! ### What resets a link, and its end (R294, R299, R300) -/

/-- A state with the same counts of writes and of resets may stand for the one before. -/
theorem LinkResetBegun.of_counts {l : LaneId} {s u t : State} (h : LinkResetBegun l u t) (hissued : u.lf l BRG_WISSUED = s.lf l BRG_WISSUED)
    (hdone : u.lf l BRG_WDONE = s.lf l BRG_WDONE) (hresets : u.lf l BRG_CNT_LINK_RESETS = s.lf l BRG_CNT_LINK_RESETS) :
    LinkResetBegun l s t :=
  { h with issuedPrev := h.issuedPrev.trans hissued, donePrev := h.donePrev.trans hdone, resets := by rw [h.resets, hresets] }

section
variable {s : State} {l : LaneId}

/-- The link loses lock, or eight replays of one frame have failed. -/
theorem linkReset_lost (n : Nat) (hs : (s.lane l).supplied = true) (hlink : s.lf l BRG_STATUS_LINK_UP = 1) :
    ∃ t, exec (.linkReset l 0 n) s = .next t ∧ LinkResetBegun l s t := by
  have hup : (s.lcount l BRG_CNT_LINK_REPLAYS n).lf l BRG_STATUS_LINK_UP = 1 := by rw [State.lf_lcount_apart _ _ _ _ _ _ rfl, hlink]
  refine ⟨(s.lcount l BRG_CNT_LINK_REPLAYS n).linkReset l 0 0, ?_, (linkReset_begins ..).of_counts ?_ ?_ ?_⟩
  · show execLinkReset l 0 n s = _
    simp only [execLinkReset, hs, hup]
    rfl
  all_goals exact State.lf_lcount_apart _ _ _ _ _ _ rfl

/-- A core writes BRG_RESET. -/
theorem linkReset_commanded {core : Nat} (hup : s.coreUp l core = true) (hidle : s.lf l BRG_STATUS_RESETTING = 0) :
    ∃ t, exec (.brgResetWrite l core 1 0) s = .next t ∧ LinkResetBegun l s t := by
  have hbegun := linkReset_begins s l 0
  have hexec : exec (.brgResetWrite l core 1 0) s = .next ((s.linkReset l 0 0).lfSet l BRG_RESET_RESET 1) := by
    show execBrgResetWrite l core 1 0 s = _
    simp only [execBrgResetWrite, hup, hidle]
    rfl
  refine ⟨_, hexec, hbegun.toLinkFallen.of_lf (by simp) fun g hg => ?_, fun c hc => ?_, ?_⟩
  · have happart : ∀ g ∈ resetFields, BRG_RESET_RESET.apart g = true := by decide
    exact State.lf_lfSet_apart _ _ _ _ _ _ (happart g hg)
  · exact (State.lf_lfSet_apart _ _ _ _ _ _ Fld.apart_of_reg).trans (hbegun.arm c hc)
  · exact (State.lf_lfSet_apart _ _ _ _ _ _ rfl).trans hbegun.resets

/-- The oldest write times out: it fails once the link has fallen, and the others fail with the reset. -/
theorem linkReset_timeout (k : Nat) {w : PendWrite} {ws : List PendWrite} (hs : (s.lane l).supplied = true)
    (hwrites : (s.lane l).brg.writes = w :: ws) : ∃ t, exec (.discardTimerExpire l true k 0) s = .next t ∧ LinkResetBegun l s t := by
  have hkept : LinkKept Fld.offFailure l (s.linkFalls l) ((s.linkFalls l).writeFails l w 4) := .writeFails .refl
  have hdown : (s.linkFalls l).lf l BRG_STATUS_LINK_UP = 0 := by
    rw [State.linkFalls, State.lf_lfSet_apart _ _ _ _ _ _ rfl]
    exact State.lf_lfSet_same _ _ _ _ rfl
  refine ⟨((s.linkFalls l).writeFails l w 4).linkReset l 0 1, ?_, (linkReset_begins ..).of_counts ?_ ?_ ?_⟩
  · show execDiscardTimerExpire l true k 0 s = _
    simp only [execDiscardTimerExpire, hs, hwrites]
    rfl
  · exact (hkept.down hdown).1.trans (lf_linkFalls_apart rfl rfl s l)
  · exact (hkept.lf _ rfl).trans (lf_linkFalls_apart rfl rfl s l)
  · exact (hkept.lf _ rfl).trans (lf_linkFalls_apart rfl rfl s l)

/-- The link has trained: the reset is over, and what waits proceeds. -/
theorem linkRetrained_up (hs : (s.lane l).supplied = true) (hhub : s.hub.supplied = true) (hres : s.lf l BRG_STATUS_RESETTING = 1) :
    ∃ t, exec (.linkRetrained l) s = .next t ∧ t.lf l BRG_STATUS_RESETTING = 0 ∧ t.lf l BRG_STATUS_LINK_UP = 1 ∧
      t.lf l BRG_RESET_RESET = 0 := by
  have hkept {u : State} : LinkKept Fld.offQueue l u (u.brgAll l) := .brgAll .refl
  refine ⟨_, if_pos (by simp [hs, hhub, hres]), ?_, ?_, ?_⟩
  · rw [hkept.lf _ rfl, State.lf_lfSet_apart _ _ _ _ _ _ rfl, State.lf_lfSet_apart _ _ _ _ _ _ rfl]
    exact State.lf_lfSet_same _ _ _ _ rfl
  · rw [hkept.linkUp, State.lf_lfSet_apart _ _ _ _ _ _ rfl]
    exact State.lf_lfSet_same _ _ _ _ rfl
  · rw [hkept.lf _ rfl]
    exact State.lf_lfSet_same _ _ _ _ rfl

end

/-- Settles O46: loads and their responses, flushes, the discard timer of a read, and the causes and the end of a link reset. -/
theorem bridgeLoadsTimersAndReset : Obligations.BridgeLoadsTimersAndReset := by
  unfold Obligations.BridgeLoadsTimersAndReset
  intro s l hs
  refine ⟨fun core pc addr size rd signed spec who hcore hlets hfailed hsize halign hplace =>
      bridgeLoad_waits pc rd signed spec (coreUp_of hs hcore) hlets hfailed hsize halign hplace,
    fun tag r hup hfind hlo hhi hahead => ⟨readResponse_loads hup hfind hlo hhi hahead, readResponse_faults hup hfind hlo hhi hahead⟩,
    fun tag hup => flushAck_frees tag hup,
    fun i r done hread hspec => discardTimerExpire_read done hs hread hspec,
    fun i hcause => ?_,
    fun hhub hres => linkRetrained_up hs hhub hres⟩
  have hbegins : ∃ t, exec i s = .next t ∧ LinkResetBegun l s t := by
    rcases hcause with ⟨n, rfl, hlink⟩ | ⟨core, rfl, hcore, hidle⟩ | ⟨k, w, ws, rfl, hwrites⟩
    · exact linkReset_lost n hs hlink
    · exact linkReset_commanded (coreUp_of hs hcore) hidle
    · exact linkReset_timeout k hs hwrites
  obtain ⟨t, hexec, h⟩ := hbegins
  exact ⟨t, hexec, h.linkUp, h.resetting, h.issued, h.done, h.issuedPrev, h.donePrev, h.writes, h.quar, h.arm, h.resets⟩

end Sys2Proof.Machine

/-! Every command answers a next state and leaves the queue of waiting commands to the step (95, log entries 1 and 164). -/

namespace Sys2Proof.Machine

-- One proof after another: proofs that wait side by side each keep a stack, and many of them exceed the memory of a check.
set_option Elab.async false

/-! ### Commands answer next states -/

/-- The outcome is a next state: neither a fault nor a refusal. -/
def Answers (o : Host.Outcome State Fault Refusal) : Prop := ∃ t, o = .next t

theorem Answers.next (t : State) : Answers (.next t) := ⟨t, rfl⟩

theorem Answers.ite {c : Prop} [Decidable c] {x y : Host.Outcome State Fault Refusal} (hx : Answers x) (hy : Answers y) :
    Answers (if c then x else y) := by
  split <;> assumption

/-! The commands whose branches are cases of a match. -/

theorem execTaskTrap_answers (l : LaneId) (c task cause pc : Nat) (tval : Option Nat) (s : State) :
    Answers (execTaskTrap l c task cause pc tval s) := by
  refine .ite (.next _) ?_
  split
  · exact .next _
  · exact .ite (.next _) (.next _)

theorem execCdaCsrWrite_answers (l : LaneId) (c pc : Nat) (pr : Priv) (op : CsrOp) (csr rd : Nat) (v : Word) (s : State) :
    Answers (execCdaCsrWrite l c pc pr op csr rd v s) := by
  refine .ite (.next _) (.ite (.ite (.next _) (.next _)) (.ite (.ite (.next _) (.next _)) ?_))
  split
  · exact .next _
  · exact .ite (.next _) (.next _)

theorem execRealignPageSend_answers (l : LaneId) (s : State) : Answers (execRealignPageSend l s) := by
  refine .ite (.next _) ?_
  split <;> exact .next _

theorem execRealignFinalPass_answers (t : LaneId) (s : State) : Answers (execRealignFinalPass t s) := by
  unfold execRealignFinalPass
  split
  · exact .ite (.next _) (.next _)
  · exact .next _

theorem execStartStepTimeout_answers (who : StartActor) (k : Nat) (s : State) : Answers (execStartStepTimeout who k s) := by
  cases who with
  | lane l =>
    unfold execStartStepTimeout
    dsimp only
    split
    · exact .ite (.next _) (.ite (.next _) (.next _))
    · exact .ite (.next _) (.next _)
  | power | sup | hub | field => exact .ite (.next _) (.next _)

theorem execC3TimeLimit_answers (ms : Nat) (s : State) : Answers (execC3TimeLimit ms s) := by
  unfold execC3TimeLimit
  split
  · exact .ite (.next _) (.next _)
  · exact .next _

theorem execWriteResponse_answers (l : LaneId) (s : State) : Answers (execWriteResponse l s) := by
  unfold execWriteResponse
  split
  · exact .next _
  · exact .ite (.next _) (.next _)

theorem execReadResponse_answers (l : LaneId) (tag : Nat) (ecc : Bool) (s : State) : Answers (execReadResponse l tag ecc s) := by
  refine .ite (.next _) ?_
  split
  · exact .next _
  · split <;> exact .next _

theorem execDiscardTimerExpire_answers (l : LaneId) (write : Bool) (i done : Nat) (s : State) :
    Answers (execDiscardTimerExpire l write i done s) := by
  refine .ite (.next _) (.ite ?_ ?_) <;> split <;> exact .next _

theorem execInboundWrite_answers (l : LaneId) (off : Nat) (bs : List Byte) (race : Option (Nat × List Byte × Bool)) (s : State) :
    Answers (execInboundWrite l off bs race s) := by
  cases race with
  | none => exact .next _
  | some r => exact .ite (.next _) (.ite (.next _) (.ite (.next _) (.next _)))

theorem execSinkTransmitOpportunity_answers (c now : Nat) (ok : Bool) (s : State) :
    Answers (execSinkTransmitOpportunity c now ok s) := by
  unfold execSinkTransmitOpportunity
  split
  · exact .ite (.next _) (.ite (.next _) (.ite (.next _) (.ite (.next _) (.ite (.next _) (.next _)))))
  · exact .next _

theorem execFrameReceive_answers (p : Nat) (f : EthFrame) (s : State) : Answers (execFrameReceive p f s) := by
  refine .ite (.next _) (.ite (.next _) (.ite (.ite (.next _) (.ite (.next _) (.next _))) (.ite (.next _) (.ite (.next _) ?_))))
  extract_lets h harvest
  split
  · exact .next _
  · exact .ite (.next _) (.ite (.next _) (.ite (.next _) (.next _)))

theorem execFrameEgress_answers (p now : Nat) (s : State) : Answers (execFrameEgress p now s) := by
  refine .ite (.next _) ?_
  split <;> exact .next _

theorem execCanFrameReceive_answers (ch : Nat) (f : CanFrame) (s : State) : Answers (execCanFrameReceive ch f s) := by
  refine .ite (.next _) (.ite (.next _) (.ite (.next _) ?_))
  extract_lets ref t
  split
  · exact .next _
  · extract_lets exp
    split
    · exact .next _
    · exact .ite (.next _) (.next _)

theorem execCanTransmitStart_answers (ch : Nat) (s : State) : Answers (execCanTransmitStart ch s) := by
  refine .ite (.next _) ?_
  dsimp only
  split <;> exact .next _

theorem execCanTransmitComplete_answers (ch : Nat) (s : State) : Answers (execCanTransmitComplete ch s) := by
  refine .ite (.next _) (.ite (.next _) ?_)
  split
  · exact .next _
  · split <;> exact .next _

theorem execCanTransmitError_answers (ch : Nat) (e : CanErr) (s : State) : Answers (execCanTransmitError ch e s) := by
  refine .ite (.next _) (.ite (.next _) ?_)
  split <;> exact .next _

theorem execSlyCrcDone_answers (l : LaneId) (s : State) : Answers (execSlyCrcDone l s) := by
  refine .ite (.next _) (.ite (.next _) ?_)
  dsimp only
  split <;> exact .next _

theorem execInputThresholdCross_answers (l : LaneId) (i mv : Nat) (s : State) : Answers (execInputThresholdCross l i mv s) := by
  refine .ite (.next _) ?_
  split
  · exact .next _
  · exact .ite (.next _) (.ite (.next _) (.next _))

theorem execDarkPulseStart_answers (d : Side) (o t : Nat) (s : State) : Answers (execDarkPulseStart d o t s) := by
  unfold execDarkPulseStart
  dsimp only
  split
  · exact .next _
  · exact .ite (.next _) (.next _)

theorem execDarkSlotCheck_answers (l : LaneId) (d : Side) (o t : Nat) (s : State) : Answers (execDarkSlotCheck l d o t s) := by
  refine .ite (.next _) ?_
  extract_lets k pos after seen held due
  exact .ite (.next _) (.ite (.next _) (.next _))

theorem execThrottleEnd_answers (p : Nat) (s : State) : Answers (execThrottleEnd p s) := by
  unfold execThrottleEnd
  split
  · exact .next _
  · exact .ite (.next _) (.next _)

theorem execCbkTokenGain_answers (code : Nat) (s : State) : Answers (execCbkTokenGain code s) := by
  unfold execCbkTokenGain
  split
  · exact .next _
  · exact .ite (.next _) (.ite (.next _) (.next _))

theorem execDecantComplete_answers (card : Nat) (s : State) : Answers (execDecantComplete card s) := by
  refine .ite (.next _) ?_
  split
  · exact .next _
  · exact .ite (.next _) (.next _)

theorem execInstallNextLane_answers (s : State) : Answers (execInstallNextLane s) := by
  unfold execInstallNextLane
  split
  · exact .next _
  · split
    · exact .next _
    · exact .ite (.next _) (.ite (.next _) (.next _))

theorem execInstallAdmitTimeout_answers (s : State) : Answers (execInstallAdmitTimeout s) := by
  unfold execInstallAdmitTimeout
  split
  · split
    · exact .next _
    · exact .ite (.next _) (.ite (.next _) (.next _))
  · exact .next _

theorem execHubRunningReport_answers (l : LaneId) (s : State) : Answers (execHubRunningReport l s) := by
  unfold execHubRunningReport
  split
  · exact .next _
  · exact .ite (.next _) (.ite (.next _) (.next _))

theorem execHubRestartTimeout_answers (s : State) : Answers (execHubRestartTimeout s) := by
  unfold execHubRestartTimeout
  split
  · exact .next _
  · exact .ite (.next _) (.ite (.next _) (.next _))

theorem execFAllowLower_answers (l : LaneId) (s : State) : Answers (execFAllowLower l s) := by
  unfold execFAllowLower
  split
  · exact .ite (.next _) (.next _)
  · exact .next _

theorem execShadowMismatch_answers (l : LaneId) (s : State) : Answers (execShadowMismatch l s) := by
  unfold execShadowMismatch
  split <;> exact .next _

theorem execMainInputOvervoltage_answers (peak : Nat) (us : Option Nat) (s : State) :
    Answers (execMainInputOvervoltage peak us s) := by
  refine .ite (.next _) ?_
  split <;> exact .ite (.next _) (.next _)

theorem execW1cWrite_answers (l : LaneId) (core pc addr : Nat) (v : Word) (set : Nat) (who : Runner) (s : State) :
    Answers (execW1cWrite l core pc addr v set who s) := by
  refine .ite (.next _) ?_
  dsimp only
  split <;> exact .next _

/-- A step of a start: a lane that runs it alone, and else by the unit that completes it. -/
theorem execStartStepComplete_answers (who : StartActor) (k : Nat) (ok : Bool) (ms : Nat) (meas : List Nat) (s : State) :
    Answers (execStartStepComplete who k ok ms meas s) := by
  unfold execStartStepComplete
  extract_lets lone st t
  clear_value lone
  cases lone with
  | some lq => exact .ite (.next _) (.next _)
  | none =>
    refine .ite (.next _) ?_
    cases who with
    | power | lane | sup | hub | field => exact .ite (.next _) (.ite (.next _) (.next _))

theorem execStagingComplete_answers (card : Option SdCard) (s : State) : Answers (execStagingComplete card s) := by
  refine .ite (.next _) (.ite (.next _) ?_)
  split
  · exact .next _
  · dsimp only
    split <;> exact .next _

/-- Every command answers a next state: the commands are grouped by the conditions that they test one after the other. -/
theorem exec_answers (i : Instr) (s : State) : Answers (exec i s) := by
  cases i with
  | cdEnc | cdDec | cdChk | cdResig | cdAdd | cdSub | cdMul | cdMulq | cdDiv | cdRem | cdSra | cdWrap | cdSlt | cdSeq | cdBand
  | cdBor | cdBnot | cdCond | cdPfold | cdRebase | cdFenc | cdFdec | cdFmul | cdFdiv | cdFsqrt | cdFmadd | cdFsgnjx | cdFlt
  | cdFle | cdFeq | cdFcvtX | cdFcvtF | cdFclass | cdFrebase | voterImageReceive | modeRequestConfigure | modeRequestDepot
  | modeRequestRun | modeRequestShutDown | lifecycleToInService | lifecycleToDepotOpen | lifecycleToRetired | pdeGo
  | pdeDoorbell | pdeAbort | pdeRdWrite | pdeCqClaim | pdeCqRelease | pdeCqTailWrite | pdeArmWrite | darkPulseEnd
  | transferTimeout | decantToSd | decantToService | unfreezeTail | reopenFirstFill | stageProgramFromHost | stageProgramFromSd
  | stageFirmwareFromHost | stageFirmwareFromSd | stagingSegmentWrite | switchProgram | installInService | installAtNextStart
  | abortRacking | discardStaged | commandedTest | handoverRequest | shadowMismatchClear | supervisorSupplyLoss | hubSupplyLoss
  | sdCardRemoval =>
    exact .next _
  | syncBeat | laneOutOfStep | hubLossEnter | hubLossLeave | supervisorEdge | hubEdge | endOfL | endOfA | inputDisagreementFlag
  | inputDisagreementClear | enterPhaseE | enterPhaseV | safetyDeadline | overrunBeyondTolerance | nonsafetyDeadline
  | laneMemoryRead | encodedPassIllegal | tckClsDoneWrite | tckFrameLowRead | xchVcountWrite | votImgSend | votV1ImgLatch
  | votCtlSend | voterImageCutoff | voter1Disregard | voterDifferenceRecord | voterDifferenceHalt | realignmentAbandon
  | stationTimeout | durableReport | wakeWithdrawnTimeout | bridgeRegisterStore | bridgeCombinedStore | wcBufferIssue
  | bridgeLoad | flushAck | linkRetrained | pdeItemArrive | pdeVdoneWrite | pdeFetchCutoff | queuedInputItem
  | queuedOutputComplete | circularInputItem | pdeArmSample | pdeArmUnmatched | quarantineHoldEnd | portReleaseHeld
  | portLinkUp | portLinkDown | trellisBankSwitch | windowClaim | windowRelease | harvestPassLost | harvestRingNormal
  | harvestStationMissing | canBusOff | canHoldoffEnd | canRecoveryComplete | canReleaseBlocked | canTxcancelWrite
  | canRestrictedEnd | canTriggerFire | canSegmentGapTimeout | holdoverTimeout | syncSend | pdelayRequestSend | setTime
  | tbSettimeWrite | tbCapture | tbLowWordRead | connectionReset | slyCrcGo | readbackChange | switchOverloadTrip
  | voterSilenceTimeout | brakeCurrentOutOfRange | brakeProofTest | proofTestOverdue | resetInputRise | resetInputFall
  | resetHeldTimeout | serviceRead | serviceWrite | serviceInfo | serviceCancel | serviceOutcome | laneLocalRequest
  | relayEntryExpire | configCommit | configDiscard | configRestoreDefaults | dictionaryImageLoad | trainDirectoryWrite
  | tokenRefill | partnerThrottle | partnerSlotFree | cbkSubmit | cooperStop | cooperRunDone | repairEntrySubmit
  | ageingRecordSubmit | avsRaise | avsLower | dailyAgeingRecord | handoverTimeout | takeHoldoffExpire | startWaitExpire
  | mainInputBelowRange | overvoltageDisconnect | holdupExhausted | holdupRechargeDone | dumpComplete | outputSupplyOutOfRange
  | outputSupplyRestored | rcRead | registerWrite | oscillatorMonitorFault =>
    exact .ite (.next _) (.next _)
  | tickEdge | tickMarker | imageCutoff | receiptReceive | receiptCutoff | withholdLimitRemove | statusRecordReceive
  | checksumPacketReceive | realignPageReceive | wakeInputQualified | rtcAlarm | fence | linkReset | inboundRead
  | harvestPassSend | harvestFrameReturn | canArbitrationLost | inputFilterChange | cooperGo | fmaxProjection | mainInputLost
  | keepaliveLow | boardOvertemperature =>
    exact .ite (.next _) (.ite (.next _) (.next _))
  | brgResetWrite | syncReceiptTimeout | rateUpdate | ageingReport =>
    exact .ite (.ite (.next _) (.next _)) (.next _)
  | imagePacketReceive | laneWatchdogExpire | canServiceSegment | ptpSyncReceive | gateMessageReceive =>
    exact .ite (.next _) (.ite (.next _) (.ite (.next _) (.next _)))
  | mainInputRestored => exact .ite (.next _) (.ite (.next _) (.ite (.next _) (.ite (.next _) (.next _))))
  | taskTrap => exact execTaskTrap_answers ..
  | cdaCsrWrite => exact execCdaCsrWrite_answers ..
  | realignPageSend => exact execRealignPageSend_answers ..
  | realignFinalPass => exact execRealignFinalPass_answers ..
  | startStepTimeout => exact execStartStepTimeout_answers ..
  | c3TimeLimit => exact execC3TimeLimit_answers ..
  | writeResponse => exact execWriteResponse_answers ..
  | readResponse => exact execReadResponse_answers ..
  | discardTimerExpire => exact execDiscardTimerExpire_answers ..
  | inboundWrite => exact execInboundWrite_answers ..
  | sinkTransmitOpportunity => exact execSinkTransmitOpportunity_answers ..
  | frameReceive => exact execFrameReceive_answers ..
  | frameEgress => exact execFrameEgress_answers ..
  | canFrameReceive => exact execCanFrameReceive_answers ..
  | canTransmitStart => exact execCanTransmitStart_answers ..
  | canTransmitComplete => exact execCanTransmitComplete_answers ..
  | canTransmitError => exact execCanTransmitError_answers ..
  | slyCrcDone => exact execSlyCrcDone_answers ..
  | inputThresholdCross => exact execInputThresholdCross_answers ..
  | darkPulseStart => exact execDarkPulseStart_answers ..
  | darkSlotCheck => exact execDarkSlotCheck_answers ..
  | throttleEnd => exact execThrottleEnd_answers ..
  | cbkTokenGain => exact execCbkTokenGain_answers ..
  | decantComplete => exact execDecantComplete_answers ..
  | installNextLane => exact execInstallNextLane_answers ..
  | installAdmitTimeout => exact execInstallAdmitTimeout_answers ..
  | hubRunningReport => exact execHubRunningReport_answers ..
  | hubRestartTimeout => exact execHubRestartTimeout_answers ..
  | fAllowLower => exact execFAllowLower_answers ..
  | shadowMismatch => exact execShadowMismatch_answers ..
  | mainInputOvervoltage => exact execMainInputOvervoltage_answers ..
  | w1cWrite => exact execW1cWrite_answers ..
  | startStepComplete => exact execStartStepComplete_answers ..
  | stagingComplete => exact execStagingComplete_answers ..

/-! ### Commands leave the queue -/

/-- No command puts a command into the queue or takes one from it. -/
theorem exec_pending {i : Instr} {s t : State} (e : exec i s = .next t) : t.pending = s.pending := by
  cases i with
  | endOfA => exact execEndOfA_keepsQueue (· = s.pending) e rfl
  | lifecycleToInService src => cases e; exact s.lifeRequest_keepsQueue (· = s.pending) src 3 rfl
  | lifecycleToDepotOpen src => cases e; exact s.lifeRequest_keepsQueue (· = s.pending) src 4 rfl
  | lifecycleToRetired src => cases e; exact s.lifeRequest_keepsQueue (· = s.pending) src 5 rfl
  | tickEdge => exact execTickEdge_pending e
  | syncBeat => exact execSyncBeat_pending e
  | laneOutOfStep => exact execLaneOutOfStep_pending e
  | tickMarker => exact execTickMarker_pending e
  | hubLossEnter => exact execHubLossEnter_pending e
  | hubLossLeave => exact execHubLossLeave_pending e
  | supervisorEdge => exact execSupervisorEdge_pending e
  | hubEdge => exact execHubEdge_pending e
  | endOfL => exact execEndOfL_pending e
  | imagePacketReceive => exact execImagePacketReceive_pending e
  | imageCutoff => exact execImageCutoff_pending e
  | receiptReceive => exact execReceiptReceive_pending e
  | receiptCutoff => exact execReceiptCutoff_pending e
  | inputDisagreementFlag => exact execInputDisagreementFlag_pending e
  | inputDisagreementClear => exact execInputDisagreementClear_pending e
  | enterPhaseE => exact execEnterPhaseE_pending e
  | enterPhaseV => exact execEnterPhaseV_pending e
  | safetyDeadline => exact execSafetyDeadline_pending e
  | overrunBeyondTolerance => exact execOverrunBeyondTolerance_pending e
  | nonsafetyDeadline => exact execNonsafetyDeadline_pending e
  | taskTrap => exact execTaskTrap_pending e
  | laneMemoryRead => exact execLaneMemoryRead_pending e
  | cdEnc => exact execCdEnc_pending e
  | cdDec => exact execCdDec_pending e
  | cdChk => exact execCdChk_pending e
  | cdResig => exact execCdResig_pending e
  | cdAdd => exact execCdAdd_pending e
  | cdSub => exact execCdSub_pending e
  | cdMul => exact execCdMul_pending e
  | cdMulq => exact execCdMulq_pending e
  | cdDiv => exact execCdDiv_pending e
  | cdRem => exact execCdRem_pending e
  | cdSra => exact execCdSra_pending e
  | cdWrap => exact execCdWrap_pending e
  | cdSlt => exact execCdSlt_pending e
  | cdSeq => exact execCdSeq_pending e
  | cdBand => exact execCdBand_pending e
  | cdBor => exact execCdBor_pending e
  | cdBnot => exact execCdBnot_pending e
  | cdCond => exact execCdCond_pending e
  | cdPfold => exact execCdPfold_pending e
  | cdRebase => exact execCdRebase_pending e
  | cdFenc => exact execCdFenc_pending e
  | cdFdec => exact execCdFdec_pending e
  | cdFmul => exact execCdFmul_pending e
  | cdFdiv => exact execCdFdiv_pending e
  | cdFsqrt => exact execCdFsqrt_pending e
  | cdFmadd => exact execCdFmadd_pending e
  | cdFsgnjx => exact execCdFsgnjx_pending e
  | cdFlt => exact execCdFlt_pending e
  | cdFle => exact execCdFle_pending e
  | cdFeq => exact execCdFeq_pending e
  | cdFcvtX => exact execCdFcvtX_pending e
  | cdFcvtF => exact execCdFcvtF_pending e
  | cdFclass => exact execCdFclass_pending e
  | cdFrebase => exact execCdFrebase_pending e
  | encodedPassIllegal => exact execEncodedPassIllegal_pending e
  | cdaCsrWrite => exact execCdaCsrWrite_pending e
  | tckClsDoneWrite => exact execTckClsDoneWrite_pending e
  | tckFrameLowRead => exact execTckFrameLowRead_pending e
  | xchVcountWrite => exact execXchVcountWrite_pending e
  | votImgSend => exact execVotImgSend_pending e
  | votV1ImgLatch => exact execVotV1ImgLatch_pending e
  | votCtlSend => exact execVotCtlSend_pending e
  | voterImageReceive => exact execVoterImageReceive_pending e
  | voterImageCutoff => exact execVoterImageCutoff_pending e
  | laneWatchdogExpire => exact execLaneWatchdogExpire_pending e
  | withholdLimitRemove => exact execWithholdLimitRemove_pending e
  | voter1Disregard => exact execVoter1Disregard_pending e
  | statusRecordReceive => exact execStatusRecordReceive_pending e
  | voterDifferenceRecord => exact execVoterDifferenceRecord_pending e
  | voterDifferenceHalt => exact execVoterDifferenceHalt_pending e
  | checksumPacketReceive => exact execChecksumPacketReceive_pending e
  | realignPageSend => exact execRealignPageSend_pending e
  | realignPageReceive => exact execRealignPageReceive_pending e
  | realignFinalPass => exact execRealignFinalPass_pending e
  | realignmentAbandon => exact execRealignmentAbandon_pending e
  | stationTimeout => exact execStationTimeout_pending e
  | durableReport => exact execDurableReport_pending e
  | modeRequestConfigure => exact execModeRequestConfigure_pending e
  | modeRequestDepot => exact execModeRequestDepot_pending e
  | modeRequestRun => exact execModeRequestRun_pending e
  | modeRequestShutDown => exact execModeRequestShutDown_pending e
  | wakeInputQualified => exact execWakeInputQualified_pending e
  | rtcAlarm => exact execRtcAlarm_pending e
  | startStepTimeout => exact execStartStepTimeout_pending e
  | wakeWithdrawnTimeout => exact execWakeWithdrawnTimeout_pending e
  | c3TimeLimit => exact execC3TimeLimit_pending e
  | bridgeRegisterStore => exact execBridgeRegisterStore_pending e
  | bridgeCombinedStore => exact execBridgeCombinedStore_pending e
  | wcBufferIssue => exact execWcBufferIssue_pending e
  | fence => exact execFence_pending e
  | bridgeLoad => exact execBridgeLoad_pending e
  | writeResponse => exact execWriteResponse_pending e
  | readResponse => exact execReadResponse_pending e
  | flushAck => exact execFlushAck_pending e
  | discardTimerExpire => exact execDiscardTimerExpire_pending e
  | linkReset => exact execLinkReset_pending e
  | brgResetWrite => exact execBrgResetWrite_pending e
  | linkRetrained => exact execLinkRetrained_pending e
  | inboundWrite => exact execInboundWrite_pending e
  | inboundRead => exact execInboundRead_pending e
  | pdeItemArrive => exact execPdeItemArrive_pending e
  | pdeVdoneWrite => exact execPdeVdoneWrite_pending e
  | pdeFetchCutoff => exact execPdeFetchCutoff_pending e
  | sinkTransmitOpportunity => exact execSinkTransmitOpportunity_pending e
  | pdeGo => exact execPdeGo_pending e
  | pdeDoorbell => exact execPdeDoorbell_pending e
  | pdeAbort => exact execPdeAbort_pending e
  | queuedInputItem => exact execQueuedInputItem_pending e
  | queuedOutputComplete => exact execQueuedOutputComplete_pending e
  | circularInputItem => exact execCircularInputItem_pending e
  | pdeRdWrite => exact execPdeRdWrite_pending e
  | pdeCqClaim => exact execPdeCqClaim_pending e
  | pdeCqRelease => exact execPdeCqRelease_pending e
  | pdeCqTailWrite => exact execPdeCqTailWrite_pending e
  | pdeArmWrite => exact execPdeArmWrite_pending e
  | pdeArmSample => exact execPdeArmSample_pending e
  | pdeArmUnmatched => exact execPdeArmUnmatched_pending e
  | frameReceive => exact execFrameReceive_pending e
  | frameEgress => exact execFrameEgress_pending e
  | quarantineHoldEnd => exact execQuarantineHoldEnd_pending e
  | portReleaseHeld => exact execPortReleaseHeld_pending e
  | portLinkUp => exact execPortLinkUp_pending e
  | portLinkDown => exact execPortLinkDown_pending e
  | trellisBankSwitch => exact execTrellisBankSwitch_pending e
  | windowClaim => exact execWindowClaim_pending e
  | windowRelease => exact execWindowRelease_pending e
  | harvestPassSend => exact execHarvestPassSend_pending e
  | harvestFrameReturn => exact execHarvestFrameReturn_pending e
  | harvestPassLost => exact execHarvestPassLost_pending e
  | harvestRingNormal => exact execHarvestRingNormal_pending e
  | harvestStationMissing => exact execHarvestStationMissing_pending e
  | canFrameReceive => exact execCanFrameReceive_pending e
  | canTransmitStart => exact execCanTransmitStart_pending e
  | canArbitrationLost => exact execCanArbitrationLost_pending e
  | canTransmitComplete => exact execCanTransmitComplete_pending e
  | canTransmitError => exact execCanTransmitError_pending e
  | canBusOff => exact execCanBusOff_pending e
  | canHoldoffEnd => exact execCanHoldoffEnd_pending e
  | canRecoveryComplete => exact execCanRecoveryComplete_pending e
  | canReleaseBlocked => exact execCanReleaseBlocked_pending e
  | canTxcancelWrite => exact execCanTxcancelWrite_pending e
  | canRestrictedEnd => exact execCanRestrictedEnd_pending e
  | canTriggerFire => exact execCanTriggerFire_pending e
  | canServiceSegment => exact execCanServiceSegment_pending e
  | canSegmentGapTimeout => exact execCanSegmentGapTimeout_pending e
  | ptpSyncReceive => exact execPtpSyncReceive_pending e
  | syncReceiptTimeout => exact execSyncReceiptTimeout_pending e
  | holdoverTimeout => exact execHoldoverTimeout_pending e
  | rateUpdate => exact execRateUpdate_pending e
  | syncSend => exact execSyncSend_pending e
  | pdelayRequestSend => exact execPdelayRequestSend_pending e
  | setTime => exact execSetTime_pending e
  | tbSettimeWrite => exact execTbSettimeWrite_pending e
  | tbCapture => exact execTbCapture_pending e
  | tbLowWordRead => exact execTbLowWordRead_pending e
  | connectionReset => exact execConnectionReset_pending e
  | slyCrcGo => exact execSlyCrcGo_pending e
  | slyCrcDone => exact execSlyCrcDone_pending e
  | inputThresholdCross => exact execInputThresholdCross_pending e
  | inputFilterChange => exact execInputFilterChange_pending e
  | darkPulseStart => exact execDarkPulseStart_pending e
  | darkPulseEnd => exact execDarkPulseEnd_pending e
  | readbackChange => exact execReadbackChange_pending e
  | darkSlotCheck => exact execDarkSlotCheck_pending e
  | switchOverloadTrip => exact execSwitchOverloadTrip_pending e
  | voterSilenceTimeout => exact execVoterSilenceTimeout_pending e
  | brakeCurrentOutOfRange => exact execBrakeCurrentOutOfRange_pending e
  | brakeProofTest => exact execBrakeProofTest_pending e
  | proofTestOverdue => exact execProofTestOverdue_pending e
  | resetInputRise => exact execResetInputRise_pending e
  | resetInputFall => exact execResetInputFall_pending e
  | resetHeldTimeout => exact execResetHeldTimeout_pending e
  | serviceRead => exact execServiceRead_pending e
  | serviceWrite => exact execServiceWrite_pending e
  | serviceInfo => exact execServiceInfo_pending e
  | serviceCancel => exact execServiceCancel_pending e
  | serviceOutcome => exact execServiceOutcome_pending e
  | transferTimeout => exact execTransferTimeout_pending e
  | laneLocalRequest => exact execLaneLocalRequest_pending e
  | relayEntryExpire => exact execRelayEntryExpire_pending e
  | configCommit => exact execConfigCommit_pending e
  | configDiscard => exact execConfigDiscard_pending e
  | configRestoreDefaults => exact execConfigRestoreDefaults_pending e
  | dictionaryImageLoad => exact execDictionaryImageLoad_pending e
  | trainDirectoryWrite => exact execTrainDirectoryWrite_pending e
  | tokenRefill => exact execTokenRefill_pending e
  | partnerThrottle => exact execPartnerThrottle_pending e
  | throttleEnd => exact execThrottleEnd_pending e
  | partnerSlotFree => exact execPartnerSlotFree_pending e
  | cbkSubmit => exact execCbkSubmit_pending e
  | cbkTokenGain => exact execCbkTokenGain_pending e
  | decantToSd => exact execDecantToSd_pending e
  | decantToService => exact execDecantToService_pending e
  | unfreezeTail => exact execUnfreezeTail_pending e
  | reopenFirstFill => exact execReopenFirstFill_pending e
  | decantComplete => exact execDecantComplete_pending e
  | stageProgramFromHost => exact execStageProgramFromHost_pending e
  | stageProgramFromSd => exact execStageProgramFromSd_pending e
  | stageFirmwareFromHost => exact execStageFirmwareFromHost_pending e
  | stageFirmwareFromSd => exact execStageFirmwareFromSd_pending e
  | stagingSegmentWrite => exact execStagingSegmentWrite_pending e
  | switchProgram => exact execSwitchProgram_pending e
  | gateMessageReceive => exact execGateMessageReceive_pending e
  | installInService => exact execInstallInService_pending e
  | installNextLane => exact execInstallNextLane_pending e
  | installAdmitTimeout => exact execInstallAdmitTimeout_pending e
  | hubRunningReport => exact execHubRunningReport_pending e
  | hubRestartTimeout => exact execHubRestartTimeout_pending e
  | installAtNextStart => exact execInstallAtNextStart_pending e
  | abortRacking => exact execAbortRacking_pending e
  | discardStaged => exact execDiscardStaged_pending e
  | cooperGo => exact execCooperGo_pending e
  | cooperStop => exact execCooperStop_pending e
  | cooperRunDone => exact execCooperRunDone_pending e
  | repairEntrySubmit => exact execRepairEntrySubmit_pending e
  | ageingRecordSubmit => exact execAgeingRecordSubmit_pending e
  | commandedTest => exact execCommandedTest_pending e
  | avsRaise => exact execAvsRaise_pending e
  | avsLower => exact execAvsLower_pending e
  | fmaxProjection => exact execFmaxProjection_pending e
  | fAllowLower => exact execFAllowLower_pending e
  | ageingReport => exact execAgeingReport_pending e
  | dailyAgeingRecord => exact execDailyAgeingRecord_pending e
  | handoverRequest => exact execHandoverRequest_pending e
  | handoverTimeout => exact execHandoverTimeout_pending e
  | takeHoldoffExpire => exact execTakeHoldoffExpire_pending e
  | startWaitExpire => exact execStartWaitExpire_pending e
  | shadowMismatch => exact execShadowMismatch_pending e
  | shadowMismatchClear => exact execShadowMismatchClear_pending e
  | mainInputBelowRange => exact execMainInputBelowRange_pending e
  | mainInputLost => exact execMainInputLost_pending e
  | mainInputRestored => exact execMainInputRestored_pending e
  | mainInputOvervoltage => exact execMainInputOvervoltage_pending e
  | overvoltageDisconnect => exact execOvervoltageDisconnect_pending e
  | holdupExhausted => exact execHoldupExhausted_pending e
  | holdupRechargeDone => exact execHoldupRechargeDone_pending e
  | dumpComplete => exact execDumpComplete_pending e
  | outputSupplyOutOfRange => exact execOutputSupplyOutOfRange_pending e
  | outputSupplyRestored => exact execOutputSupplyRestored_pending e
  | keepaliveLow => exact execKeepaliveLow_pending e
  | boardOvertemperature => exact execBoardOvertemperature_pending e
  | supervisorSupplyLoss => exact execSupervisorSupplyLoss_pending e
  | hubSupplyLoss => exact execHubSupplyLoss_pending e
  | rcRead => exact execRcRead_pending e
  | w1cWrite => exact execW1cWrite_pending e
  | registerWrite => exact execRegisterWrite_pending e
  | startStepComplete => exact execStartStepComplete_pending e
  | stagingComplete => exact execStagingComplete_pending e
  | sdCardRemoval => exact execSdCardRemoval_pending e
  | oscillatorMonitorFault => exact execOscillatorMonitorFault_pending e

theorem step_of_pending_cons {s : State} {i : Instr} {rest : List Instr} (h : s.pending = i :: rest) :
    step s = exec i { s with pending := rest } := by
  simp only [step, h]

theorem step_of_pending_nil {s : State} (h : s.pending = []) : step s = .next s := by
  simp only [step, h]

/-- Settles O56: a step by whether a command waits. -/
theorem frontCommandIsExecuted : Obligations.FrontCommandIsExecuted := by
  unfold Obligations.FrontCommandIsExecuted
  exact ⟨fun _ _ _ => step_of_pending_cons, fun _ => step_of_pending_nil⟩

/-- Settles O57: the command at the front answers a next state and leaves the queue's rest; without one the block idles. -/
theorem everyStepGoesOnAndTakesOne : Obligations.EveryStepGoesOnAndTakesOne := by
  unfold Obligations.EveryStepGoesOnAndTakesOne
  intro s
  match h : s.pending with
  | [] => exact ⟨s, step_of_pending_nil h, h⟩
  | i :: rest =>
    obtain ⟨t, ht⟩ := exec_answers i { s with pending := rest }
    exact ⟨t, (step_of_pending_cons h).trans ht, exec_pending ht⟩

end Sys2Proof.Machine

/-! Every lane acts in turn: what one lane's own act leaves, whatever the others do. -/

namespace Sys2Proof.Machine

-- One proof after another: proofs that wait side by side each keep a stack, and many of them exceed the memory of a check.
set_option Elab.async false

/-- `t` is as `s` in what lane `l` and the shared parts hold, but for what recording events writes. -/
structure LaneAlike (l : LaneId) (s t : State) : Prop where
  lane : t.lane l = { s.lane l with regs := (t.lane l).regs, book := (t.lane l).book }
  reg : ∀ a, eventReg a = false → t.lreg l a = s.lreg l a
  hub : t.hub = s.hub
  sup : t.sup = { s.sup with kept := t.sup.kept }
  md : t.md = s.md
  dict : t.dict = s.dict
  fld : t.fld = s.fld
  coo : t.coo = s.coo

namespace LaneAlike

variable {l : LaneId} {s t u : State}

theorem refl (l : LaneId) (s : State) : LaneAlike l s s := ⟨rfl, fun _ _ => rfl, rfl, rfl, rfl, rfl, rfl, rfl⟩

theorem trans (h : LaneAlike l s t) (g : LaneAlike l t u) : LaneAlike l s u where
  lane := by rw [g.lane, h.lane]
  reg a e := (g.reg a e).trans (h.reg a e)
  hub := g.hub.trans h.hub
  sup := by rw [g.sup, h.sup]
  md := g.md.trans h.md
  dict := g.dict.trans h.dict
  fld := g.fld.trans h.fld
  coo := g.coo.trans h.coo

/-- What is done within another lane, and events, leave lane `l` alike. -/
theorem of_evt {m : LaneId} (hm : l ≠ m) (h : LaneEvt m s t) : LaneAlike l s t where
  lane := by
    have hlane := h.lane l
    rwa [State.setLane_lane, if_neg hm] at hlane
  reg a e := by rw [EventOnly.reg h l a e, State.lreg, State.setLane_lane, if_neg hm, State.lreg]
  hub := h.hub.trans (State.setLane_hub ..)
  sup := by
    have hsup := h.sup
    rwa [State.setLane_sup] at hsup
  md := h.md.trans (State.setLane_md ..)
  dict := h.dict.trans (State.setLane_dict ..)
  fld := h.fld.trans (State.setLane_fld ..)
  coo := h.coo.trans (State.setLane_coo ..)

theorem of_events (h : EventOnly s t) : LaneAlike l s t where
  lane := h.lane l
  reg := h.reg l
  hub := h.hub
  sup := h.sup
  md := h.md
  dict := h.dict
  fld := h.fld
  coo := h.coo

theorem lf (h : LaneAlike l s t) (f : Fld) (e : eventReg f.reg = false) : t.lf l f = s.lf l f := by
  rw [State.lf, h.reg _ e, State.lf]

theorem supplied (h : LaneAlike l s t) : (t.lane l).supplied = (s.lane l).supplied := by rw [h.lane]

theorem ticking (h : LaneAlike l s t) : t.ticking l = s.ticking l := by
  rw [State.ticking, h.supplied, h.lf _ rfl, State.ticking]

theorem rt (h : LaneAlike l s t) : (t.lane l).rt = (s.lane l).rt := by rw [h.lane]

theorem obj (h : LaneAlike l s t) (i j : Nat) : t.obj i j = s.obj i j := State.obj_congr h.dict i j

/-- When every lane acts within itself, lane `l` ends as its own act leaves it, started from a state alike. -/
theorem onLanes {f : LaneId → State → State} (h : ∀ m s, LaneEvt m s (f m s)) (l : LaneId) (s : State) :
    ∃ u, LaneAlike l s u ∧ LaneAlike l (f l u) (onLanes f s) := by
  cases l with
  | a => exact ⟨s, refl _ s, (of_evt (by decide) (h .b _)).trans (of_evt (by decide) (h .c _))⟩
  | b => exact ⟨f .a s, of_evt (by decide) (h .a s), of_evt (by decide) (h .c _)⟩
  | c => exact ⟨f .b (f .a s), (of_evt (by decide) (h .a s)).trans (of_evt (by decide) (h .b _)), refl _ _⟩

/-- When every running lane acts within itself, a running lane ends as its own act leaves it. -/
theorem onTicking {f : LaneId → State → State} (h : ∀ m s, LaneEvt m s (f m s)) (l : LaneId) (s : State) (hl : s.ticking l = true) :
    ∃ u, LaneAlike l s u ∧ LaneAlike l (f l u) (Machine.onLanes (fun m s => if s.ticking m then f m s else s) s) := by
  obtain ⟨u, hu, ht⟩ := onLanes (f := fun m s => if s.ticking m then f m s else s)
    (fun m s => by
      split
      · exact h m s
      · exact (LaneOnly.refl m s).evt) l s
  exact ⟨u, hu, by rwa [if_pos (hu.ticking.trans hl)] at ht⟩

end LaneAlike

end Sys2Proof.Machine

/-! Safety connections: reset by the host; the CRC unit of a lane (14 R382, R386, R394). -/

namespace Sys2Proof.Machine

-- One proof after another: proofs that wait side by side each keep a stack, and many of them exceed the memory of a check.
set_option Elab.async false

/-! ### Reset of a connection (R386) -/

theorem EventOnly.conn {s t : State} (h : EventOnly s t) (l : LaneId) (k : Nat) : t.conn l k = s.conn l k := by
  rw [State.conn, h.lane l, State.conn]

theorem connEvt_eventOnly (s : State) (l : LaneId) (k code : Nat) (parts : List (Nat × Nat)) : EventOnly s (s.connEvt l k code parts) :=
  laneEvtP_eventOnly ..

@[simp] theorem State.conn_connSet_same (s : State) (l : LaneId) (k : Nat) (x : Conn) : (s.connSet l k x).conn l k = x := by
  simp [State.conn, State.connSet, mapGet_mapSet_same]

theorem State.conn_connSet_other (s : State) (l : LaneId) {j k : Nat} (x : Conn) (h : j ≠ k) :
    (s.connSet l k x).conn l j = s.conn l j := by
  simp [State.conn, State.connSet, mapGet_mapSet_other _ _ _ h]

/-- A connection's reset writes on its own lane, and records an event. -/
theorem connReset_laneEvt (s : State) (l : LaneId) (k src : Nat) : LaneEvt l s (s.connReset l k src).1 := by
  unfold State.connReset
  split
  · exact (LaneOnly.refl l s).evt
  · split
    · exact (LaneOnly.connSet ..).evt.trans ((connEvt_eventOnly ..).inLane l)
    · exact (LaneOnly.refl l s).evt

theorem connReset_conn_other (s : State) (l : LaneId) {j k : Nat} (src : Nat) (h : j ≠ k) :
    (s.connReset l k src).1.conn l j = s.conn l j := by
  unfold State.connReset
  split
  · rfl
  · split
    · rw [(connEvt_eventOnly ..).conn, State.conn_connSet_other _ _ _ h]
    · rfl

/-- A reset leaves a connection that has not failed as it is. -/
theorem connReset_of_ne_failed {s : State} {l : LaneId} {k src : Nat} (h : (s.conn l k).st ≠ 3) : (s.connReset l k src).1 = s := by
  rw [State.connReset, if_neg h]
  split <;> rfl

/-- A reset returns a failed input connection to INIT, its recent errors forgotten. -/
theorem connReset_conn_same {s : State} {l : LaneId} {k src : Nat} (hk : s.connKind k = 1 ∨ s.connKind k = 3)
    (h : (s.conn l k).st = 3) : (s.connReset l k src).1.conn l k = { s.conn l k with st := 0, errs := [] } := by
  rw [State.connReset, if_neg (by omega), if_pos h, (connEvt_eventOnly ..).conn, State.conn_connSet_same]

theorem LaneAlike.conn {s t : State} {l : LaneId} (h : LaneAlike l s t) (k : Nat) : t.conn l k = s.conn l k := by
  rw [State.conn, h.rt, State.conn]

theorem exec_connectionReset {s : State} {src k : Nat} (h : 1 ≤ s.sourceLevel src) :
    exec (.connectionReset src k) s = .next (onLanes (fun l s => if s.ticking l then (s.connReset l k src).1 else s) s) :=
  if_neg (by omega)

/-- Each lane that runs resets its own connection, whatever the others do. -/
theorem connectionReset_resets {s : State} {l : LaneId} {src k : Nat} (hsrc : 1 ≤ s.sourceLevel src) (ht : s.ticking l = true)
    (hk : s.connKind k = 1 ∨ s.connKind k = 3) :
    ∃ t, exec (.connectionReset src k) s = .next t ∧ (∀ j, j ≠ k → t.conn l j = s.conn l j) ∧
      ((s.conn l k).st ≠ 3 → t.conn l k = s.conn l k) ∧ ((s.conn l k).st = 3 → (t.conn l k).st = 0 ∧ (t.conn l k).errs = []) := by
  obtain ⟨u, hu, h⟩ := LaneAlike.onTicking (fun m s => connReset_laneEvt s m k src) l s ht
  refine ⟨_, exec_connectionReset hsrc, fun j hj => ?_, fun hst => ?_, fun hst => ?_⟩
  · rw [h.conn, connReset_conn_other _ _ _ hj, hu.conn]
  · rw [h.conn, connReset_of_ne_failed (by rwa [hu.conn]), hu.conn]
  · rw [h.conn, connReset_conn_same (by rwa [show u.connKind k = s.connKind k from hu.obj _ _]) (by rwa [hu.conn])]
    exact ⟨rfl, rfl⟩

/-! ### The CRC unit (R394) -/

/-- The CRC unit has ended its run: it is idle and has raised DONE, and its status says whether the range left the lane's SRAM. -/
def State.crcEnd (s : State) (l : LaneId) (range : Nat) : State :=
  ((s.lfSet l SLY_CRC_GO 0).lfSet l SLY_INT_STAT_DONE 1).lfSet l SLY_STATUS_RANGE range

theorem crcEnd_laneOnly (s : State) (l : LaneId) (range : Nat) : LaneOnly l s (s.crcEnd l range) :=
  ((LaneOnly.lfSet ..).trans (.lfSet ..)).trans (.lfSet ..)

/-- The end of a run leaves every other register than its own three. -/
theorem lf_crcEnd (s : State) (l : LaneId) (range : Nat) (f : Fld) (h0 : SLY_CRC_GO.apart f = true)
    (h1 : SLY_INT_STAT_DONE.apart f = true) (h2 : SLY_STATUS_RANGE.apart f = true) : (s.crcEnd l range).lf l f = s.lf l f := by
  rw [State.crcEnd, State.lf_lfSet_apart _ _ _ _ _ _ h2, State.lf_lfSet_apart _ _ _ _ _ _ h1, State.lf_lfSet_apart _ _ _ _ _ _ h0]

theorem lf_crcEnd_go (s : State) (l : LaneId) (range : Nat) : (s.crcEnd l range).lf l SLY_CRC_GO = 0 := by
  rw [State.crcEnd, State.lf_lfSet_apart _ _ _ _ _ _ rfl, State.lf_lfSet_apart _ _ _ _ _ _ rfl, State.lf_lfSet_same _ _ _ _ rfl]
  rfl

theorem lf_crcEnd_done (s : State) (l : LaneId) (range : Nat) : (s.crcEnd l range).lf l SLY_INT_STAT_DONE = 1 := by
  rw [State.crcEnd, State.lf_lfSet_apart _ _ _ _ _ _ rfl, State.lf_lfSet_same _ _ _ _ rfl]
  rfl

theorem lf_crcEnd_range (s : State) (l : LaneId) (range : Nat) : (s.crcEnd l range).lf l SLY_STATUS_RANGE = range % 2 :=
  State.lf_lfSet_same _ _ _ _ rfl

theorem exec_slyCrcGo {s : State} {l : LaneId} (hs : (s.lane l).supplied = true) :
    exec (.slyCrcGo l 4 1) s = .next (s.lfSet l SLY_CRC_GO 1) := if_pos (by rw [hs]; rfl)

/-- The run over a range within the lane's SRAM ends with a result. -/
theorem exec_slyCrcDone_inRange {s : State} {l : LaneId} (hs : (s.lane l).supplied = true) (hgo : s.lf l SLY_CRC_GO = 1)
    (hlo : 0x08000000 ≤ s.lf l SLY_CRC_ADDR) (hhi : s.lf l SLY_CRC_ADDR + s.lf l SLY_CRC_LEN ≤ 0x08800000) :
    ∃ r u, (u = s.crcEnd l 0 ∨ u = (s.crcEnd l 0).freeWord.2) ∧ exec (.slyCrcDone l) s = .next (u.lfSet l SLY_CRC_RES r) ∧
      (s.lf l SLY_CRC_CTL_POLY = 0 → u = s.crcEnd l 0 ∧ r = (~~~ (corkRun (s.lf l SLY_CRC_SEED)
        (beBytes 4 (s.lf l SLY_CRC_PRE) ++ s.lmem l (s.lf l SLY_CRC_ADDR) (s.lf l SLY_CRC_LEN)))).toNat) := by
  have hmem : ∀ a n, (s.crcEnd l 0).lmem l a n = s.lmem l a n := fun a n => by simp [State.crcEnd, State.lmem]
  show ∃ r u, _ ∧ execSlyCrcDone l s = _ ∧ _
  unfold execSlyCrcDone
  rw [if_neg (by simp [hs, hgo])]
  dsimp only
  rw [if_neg (by omega)]
  rw [show ((s.lfSet l SLY_CRC_GO 0).lfSet l SLY_INT_STAT_DONE 1).lfSet l SLY_STATUS_RANGE 0 = s.crcEnd l 0 from rfl,
    hmem, lf_crcEnd _ _ _ _ rfl rfl rfl, lf_crcEnd _ _ _ _ rfl rfl rfl, lf_crcEnd _ _ _ _ rfl rfl rfl]
  split
  · exact ⟨_, _, .inl rfl, rfl, fun _ => ⟨rfl, rfl⟩⟩
  next hp => exact ⟨_, _, .inl rfl, rfl, fun h => by omega⟩
  next hp _ => exact ⟨_, _, .inr rfl, rfl, fun h => absurd h hp⟩

theorem exec_slyCrcDone_outOfRange {s : State} {l : LaneId} (hs : (s.lane l).supplied = true) (hgo : s.lf l SLY_CRC_GO = 1)
    (hr : s.lf l SLY_CRC_ADDR < 0x08000000 ∨ 0x08800000 < s.lf l SLY_CRC_ADDR + s.lf l SLY_CRC_LEN) :
    exec (.slyCrcDone l) s = .next (s.crcEnd l 1) := by
  show execSlyCrcDone l s = _
  rw [execSlyCrcDone, if_neg (by simp [hs, hgo])]
  exact if_pos hr

/-- Settles O38: each lane's own reset seen through what the others keep; the CRC unit's end in its two outcomes. -/
theorem safetyConnectionsAndCrcUnit : Obligations.SafetyConnectionsAndCrcUnit := by
  unfold Obligations.SafetyConnectionsAndCrcUnit
  intro s l
  refine ⟨fun src k hsrc ht hk => connectionReset_resets hsrc ht hk, fun src k h => if_pos (by omega), fun hs => ⟨?_, ?_, ?_⟩⟩
  · exact ⟨_, exec_slyCrcGo hs, State.lf_lfSet_same _ _ _ _ rfl, .lfSet ..⟩
  · intro hgo hlo hhi
    obtain ⟨r, u, hu, he, hr⟩ := exec_slyCrcDone_inRange hs hgo hlo hhi
    have hlf : ∀ f, (u.lf l f) = (s.crcEnd l 0).lf l f := by rcases hu with rfl | rfl <;> intro f <;> rfl
    refine ⟨_, he, ?_, ?_, ?_, fun hp => ?_⟩
    · rw [State.lf_lfSet_apart _ _ _ _ _ _ rfl, hlf, lf_crcEnd_go]
    · rw [State.lf_lfSet_apart _ _ _ _ _ _ rfl, hlf, lf_crcEnd_done]
    · rw [State.lf_lfSet_apart _ _ _ _ _ _ rfl, hlf, lf_crcEnd_range]
    · obtain ⟨rfl, rfl⟩ := hr hp
      refine ⟨?_, (crcEnd_laneOnly ..).trans (.lfSet ..)⟩
      rw [State.lf_lfSet_same _ _ _ _ rfl, BitVec.toNat_not]
      exact Nat.mod_eq_of_lt (by show _ < 2 ^ 32; omega)
  · intro hgo hr
    exact ⟨_, exec_slyCrcDone_outOfRange hs hgo hr, lf_crcEnd_go .., lf_crcEnd_done .., lf_crcEnd_range ..,
      lf_crcEnd _ _ _ _ rfl rfl rfl, crcEnd_laneOnly ..⟩

end Sys2Proof.Machine

/-! The field stage: inputs with their filters, switches with dark pulses, overload trips and readbacks (15 R397 to R406). -/

namespace Sys2Proof.Machine

-- One proof after another: proofs that wait side by side each keep a stack, and many of them exceed the memory of a check.
set_option Elab.async false

/-! ### Inputs (R397, R399) -/

theorem lt_of_inputUsed {s : State} {l : LaneId} {i : Nat} (h : s.inputUsed l i = true) : i < 32 := by
  simp only [State.inputUsed, Bool.and_eq_true, decide_eq_true_eq] at h
  exact h.1.1

/-- The bits of a field that one bit has been set in. -/
theorem bitOf_lfSet_setBit {s : State} {l : LaneId} {f : Fld} {v i : Nat} (b : Bool) (hf : f.ok = true) (hi : i < f.hi + 1 - f.lo)
    (hv : v < 2 ^ (f.hi + 1 - f.lo)) (j : Nat) :
    bitOf ((s.lfSet l f (setBit v i b)).lf l f) j = if j = i then b else bitOf v j := by
  rw [State.lf_lfSet_same _ _ _ _ hf, Nat.mod_eq_of_lt (setBit_lt hv hi _), bitOf_setBit]

theorem exec_inputThresholdCross {s : State} {l : LaneId} {i mv on off : Nat} (hs : (s.lane l).supplied = true)
    (hu : s.inputUsed l i = true) (hc : thresholds (s.inputClass l i) = some (on, off)) :
    exec (.inputThresholdCross l i mv) s = .next (if mv ≤ off ∨ on ≤ mv then
      s.lfSet l DIN_RAW (setBit (s.lf l DIN_RAW) i (decide (on ≤ mv))) else s) := by
  show execInputThresholdCross l i mv s = _
  simp only [execInputThresholdCross, hs, hu, hc, Bool.not_true, Bool.or_self, Bool.false_eq_true, if_false]
  by_cases hon : on ≤ mv
  · simp [hon]
  · by_cases hoff : mv ≤ off <;> simp [hon, hoff]

theorem inputThresholdCross_follows {s : State} {l : LaneId} {i mv on off : Nat} (hs : (s.lane l).supplied = true)
    (hu : s.inputUsed l i = true) (hc : thresholds (s.inputClass l i) = some (on, off)) :
    ∃ t, exec (.inputThresholdCross l i mv) s = .next t ∧
      bitOf (t.lf l DIN_RAW) i = (if on ≤ mv then true else if mv ≤ off then false else bitOf (s.lf l DIN_RAW) i) ∧
      (∀ j, j ≠ i → bitOf (t.lf l DIN_RAW) j = bitOf (s.lf l DIN_RAW) j) ∧ t.lf l DIN_FILT = s.lf l DIN_FILT ∧ LaneOnly l s t := by
  refine ⟨_, exec_inputThresholdCross hs hu hc, ?_⟩
  split
  next h =>
    have hbit := bitOf_lfSet_setBit (s := s) (l := l) (f := DIN_RAW) (decide (on ≤ mv)) rfl (lt_of_inputUsed hu) (lf_lt s l _)
    refine ⟨?_, fun j hj => ?_, State.lf_lfSet_apart _ _ _ _ _ _ rfl, .lfSet ..⟩
    · rw [hbit, if_pos rfl]
      by_cases hon : on ≤ mv
      · simp [hon]
      · simp [hon, h.resolve_right hon]
    · rw [hbit, if_neg hj]
  next h =>
    rw [not_or] at h
    exact ⟨by rw [if_neg h.2, if_neg h.1], fun _ _ => rfl, rfl, .refl ..⟩

/-- What the lane's registers show when the filter of input `i` follows its comparator. -/
def State.filterShown (s : State) (l : LaneId) (i : Nat) : State :=
  ((s.lfSet l DIN_FILT (setBit (s.lf l DIN_FILT) i (bitOf (s.lf l DIN_RAW) i))).lcount l (DIN_CHG i) 1).lfSet l DIN_INT_STAT_CHG 1

/-- The filter of input `i` follows its comparator, stamped `at_`. -/
def State.filterFollows (s : State) (l : LaneId) (i at_ : Nat) : State :=
  (s.filterShown l i).updLane l (fun x => { x with fe := { x.fe with chg := mapInsert (mapErase x.fe.chg i) i at_ } })

theorem exec_inputFilterChange {s : State} {l : LaneId} {i held at_ : Nat} (hs : (s.lane l).supplied = true)
    (hu : s.inputUsed l i = true) (hne : bitOf (s.lf l DIN_FILT) i ≠ bitOf (s.lf l DIN_RAW) i) :
    exec (.inputFilterChange l i held at_) s = .next (if held < s.lf l (DIN_DEB i) then s else s.filterFollows l i at_) := by
  show execInputFilterChange l i held at_ s = _
  have hbeq : (bitOf (s.lf l DIN_FILT) i == bitOf (s.lf l DIN_RAW) i) = false := beq_eq_false_iff_ne.mpr hne
  simp only [execInputFilterChange, hs, hu, hbeq, Bool.not_true, Bool.or_self, Bool.false_eq_true, if_false, Bool.or_false,
    decide_eq_true_eq]
  split <;> rfl

theorem lf_filterFollows (s : State) (l : LaneId) (i at_ : Nat) (f : Fld) :
    (s.filterFollows l i at_).lf l f = (s.filterShown l i).lf l f := by
  rw [State.filterFollows, lf_updLane (by intro; rfl)]

theorem filterFollows_filt {s : State} {l : LaneId} {i : Nat} (at_ : Nat) (hi : i < 32) :
    bitOf ((s.filterFollows l i at_).lf l DIN_FILT) i = bitOf (s.lf l DIN_RAW) i := by
  rw [lf_filterFollows, State.filterShown, State.lf_lfSet_apart _ _ _ _ _ _ rfl,
    State.lf_lcount_apart _ _ _ _ _ _ Fld.apart_of_reg, bitOf_lfSet_setBit _ rfl hi (lf_lt s l _), if_pos rfl]

theorem filterFollows_chg (s : State) (l : LaneId) (i at_ : Nat) :
    (s.filterFollows l i at_).lf l (DIN_CHG i) = satAdd 0xFFFF (s.lf l (DIN_CHG i)) 1 := by
  rw [lf_filterFollows, State.filterShown, State.lf_lfSet_apart _ _ _ _ _ _ Fld.apart_of_reg,
    State.lf_lcount_same _ _ _ _ rfl, State.lf_lfSet_apart _ _ _ _ _ _ Fld.apart_of_reg]
  rfl

theorem filterFollows_laneOnly (s : State) (l : LaneId) (i at_ : Nat) : LaneOnly l s (s.filterFollows l i at_) :=
  (((LaneOnly.lfSet ..).trans (.lcount ..)).trans (.lfSet ..)).trans (.upd ..)

/-! ### Switches (R403 to R405) -/

/-- The switches follow the voters' own state. -/
theorem closed_congr {s t : State} (h : VotersKept s t) (hup : ∀ i, t.voterUp i = s.voterUp i) (d : Side) (o : Nat) :
    t.closed d o = s.closed d o := by
  have hv : ∀ i, t.voter i = s.voter i := fun i => by
    cases i with
    | v1 => exact h.v1
    | v2 => exact h.v2
  simp only [State.closed, State.refreshes, hv, hup]

theorem LanesOnly.voterUp {s t : State} (h : LanesOnly s t) (i : VoterId) : t.voterUp i = s.voterUp i := by
  cases i with
  | v1 => rw [State.voterUp, h.hub, State.voterUp]
  | v2 => rw [State.voterUp, h.sup, State.voterUp]

theorem EventOnly.voterUp {s t : State} (h : EventOnly s t) (i : VoterId) : t.voterUp i = s.voterUp i := by
  cases i with
  | v1 => rw [State.voterUp, h.hub, State.voterUp]
  | v2 => rw [State.voterUp, h.sup, State.voterUp]

theorem LanesOnly.closed {s t : State} (h : LanesOnly s t) (d : Side) (o : Nat) : t.closed d o = s.closed d o :=
  closed_congr h.votersKept h.voterUp d o

theorem EventOnly.closed {s t : State} (h : EventOnly s t) (d : Side) (o : Nat) : t.closed d o = s.closed d o :=
  closed_congr h.votersKept h.voterUp d o

theorem voterUp_voterSet (s : State) (i j : VoterId) (v : Voter) : (s.voterSet i v).voterUp j = s.voterUp j := by
  cases i <;> cases j <;> rfl

/-- The switches of a side after its voter is replaced. -/
theorem closed_voterSet_same (s : State) (d : Side) (v : Voter) (o : Nat) :
    (s.voterSet (voterOf d) v).closed d o = ((s.voterUp (voterOf d) && !v.halt && !v.silent && !v.oscFault) &&
      bitOf v.out o && !bitOf v.dark o && !bitOf v.trip o) := by
  rw [State.closed, State.refreshes, voter_voterSet, voterUp_voterSet]

/-- The switches of the other side stay. -/
theorem closed_voterSet_other (s : State) {d e : Side} (h : e ≠ d) (v : Voter) (o : Nat) :
    (s.voterSet (voterOf d) v).closed e o = s.closed e o := by
  cases d <;> cases e
  · exact absurd rfl h
  · rfl
  · rfl
  · exact absurd rfl h

/-- A voter's switches with one of them opened, or left as decided, by its dark pulse. -/
def State.darkSet (s : State) (d : Side) (o : Nat) (b : Bool) : State :=
  s.voterSet (voterOf d) { s.voter (voterOf d) with dark := setBit (s.voter (voterOf d)).dark o b }

theorem closed_darkSet (s : State) (d : Side) (o : Nat) (b : Bool) : (s.darkSet d o b).closed d o =
    (s.refreshes (voterOf d) && bitOf (s.voter (voterOf d)).out o && !b && !bitOf (s.voter (voterOf d)).trip o) := by
  rw [State.darkSet, closed_voterSet_same]
  simp only [bitOf_setBit, if_pos]
  rfl

theorem closed_darkSet_other (s : State) {d e : Side} {o p : Nat} (b : Bool) (h : e ≠ d ∨ p ≠ o) :
    (s.darkSet d o b).closed e p = s.closed e p := by
  by_cases he : e = d
  · subst he
    rw [State.darkSet, closed_voterSet_same]
    simp only [bitOf_setBit, if_neg (h.resolve_left (not_not_intro rfl))]
    rfl
  · exact closed_voterSet_other s he _ _

theorem exec_darkPulseStart {s : State} {d : Side} {o u f : Nat} (ho : o ≤ 16) (hr : s.refreshes (voterOf d) = true)
    (hon : bitOf (s.voter (voterOf d)).drove o = true) (hf : mapFind (s.voter (voterOf d)).onSince o = some f)
    (hlong : 300 ≤ (frameDiff (s.voterFrame (voterOf d)) f).toNat * s.tUs + u)
    (hpos : s.tpPos (s.voterFrame (voterOf d)) u = s.slotStart (slotOf d o)) :
    exec (.darkPulseStart d o u) s = .next (s.darkSet d o true) := by
  show execDarkPulseStart d o u s = _
  simp only [execDarkPulseStart, hf]
  exact if_pos (by simp [hr, hon, hlong, hpos, show o < 17 by omega])

theorem exec_darkPulseEnd (s : State) (d : Side) (o : Nat) : exec (.darkPulseEnd d o) s = .next (s.darkSet d o false) := rfl

/-- What a lane shows of a switch that opened in current limit. -/
def State.showOverload (o : Nat) (l : LaneId) (s : State) : State :=
  ((s.lfSet l DOUT_DIAG_OVL (setBit (s.lf l DOUT_DIAG_OVL) o true)).lfSet l DOUT_INT_STAT_OVL 1).laneEvt l 0x5013 [(1, o)]

theorem showOverload_laneEvt (o : Nat) (l : LaneId) (s : State) : LaneEvt l s (State.showOverload o l s) :=
  ((LaneOnly.lfSet ..).trans (.lfSet ..)).evt.laneEvt ..

theorem lf_showOverload {o : Nat} (ho : o ≤ 16) (l : LaneId) (s : State) :
    bitOf ((State.showOverload o l s).lf l DOUT_DIAG_OVL) o = true := by
  rw [State.showOverload, State.lf_laneEvt _ _ _ _ _ _ rfl, State.lf_lfSet_apart _ _ _ _ _ _ rfl,
    bitOf_lfSet_setBit _ rfl (Nat.lt_succ_of_le ho) (lf_lt ..), if_pos rfl]

theorem closed_showOverload (o : Nat) (l : LaneId) (s : State) (d : Side) (p : Nat) :
    (State.showOverload o l s).closed d p = s.closed d p := by
  rw [State.showOverload, (laneEvt_eventOnly ..).closed, ((LaneOnly.lfSet ..).trans (.lfSet ..)).lanesOnly.closed]

/-- A switch that has opened by itself. -/
def State.tripped (s : State) (d : Side) (o : Nat) : State :=
  s.voterSet (voterOf d) { s.voter (voterOf d) with trip := setBit (s.voter (voterOf d)).trip o true }

theorem closed_tripped (s : State) (d : Side) (o : Nat) : (s.tripped d o).closed d o = false := by
  rw [State.tripped, closed_voterSet_same, bitOf_setBit_true, Bool.not_true, Bool.and_false]

theorem ticking_voterSet (s : State) (i : VoterId) (v : Voter) (l : LaneId) : (s.voterSet i v).ticking l = s.ticking l := by
  cases i <;> rfl

theorem exec_switchOverloadTrip {s : State} {d : Side} {o : Nat} (ho : o ≤ 16) (h : s.closed d o = true) :
    exec (.switchOverloadTrip d o) s =
      .next (onLanes (fun l s => if s.ticking l then State.showOverload o l s else s) (s.tripped d o)) :=
  if_neg (by simp [h, ho])

theorem switchOverloadTrip_opens {s : State} {d : Side} {o : Nat} (ho : o ≤ 16) (h : s.closed d o = true) :
    ∃ t, exec (.switchOverloadTrip d o) s = .next t ∧ t.closed d o = false ∧
      ∀ k, s.ticking k = true → bitOf (t.lf k DOUT_DIAG_OVL) o = true := by
  refine ⟨_, exec_switchOverloadTrip ho h, ?_, fun k hk => ?_⟩
  · rw [onLanes_keeps (fun s => s.closed d o), closed_tripped]
    intro l s
    split
    · exact closed_showOverload ..
    · rfl
  · obtain ⟨u, -, ht⟩ := LaneAlike.onTicking (fun m s => showOverload_laneEvt o m s) k (s.tripped d o)
      ((ticking_voterSet ..).trans hk)
    rw [ht.lf _ rfl, lf_showOverload ho]

/-! ### Readbacks (R401) -/

section
variable (s : State) (l : LaneId)

/-- The front end has recorded a fault of a switch, or counted what it read of one: lane `l` alone, but for events, and its readback
of the high and low sides as it was. -/
structure ReadbackKept (l : LaneId) (s t : State) : Prop where
  evt : LaneEvt l s t
  hs : t.lf l DOUT_RB_HS = s.lf l DOUT_RB_HS
  ls : t.lf l DOUT_RB_LS = s.lf l DOUT_RB_LS

theorem ReadbackKept.refl : ReadbackKept l s s := ⟨(LaneOnly.refl l s).evt, rfl, rfl⟩

theorem ReadbackKept.trans {s l} {t u : State} (h : ReadbackKept l s t) (g : ReadbackKept l t u) : ReadbackKept l s u :=
  ⟨h.evt.trans g.evt, g.hs.trans h.hs, g.ls.trans h.ls⟩

theorem ReadbackKept.ite {s l} {t u : State} {c : Prop} [Decidable c] (h : ReadbackKept l s t) (g : ReadbackKept l s u) :
    ReadbackKept l s (if c then t else u) := by
  split
  · exact h
  · exact g

theorem ReadbackKept.foldl {α : Type} {l s} {f : State → α → State} (h : ∀ t x, ReadbackKept l t (f t x)) (xs : List α) :
    ReadbackKept l s (xs.foldl f s) := by
  induction xs generalizing s with
  | nil => exact .refl s l
  | cons x xs ih => exact (h s x).trans ih

theorem ReadbackKept.lfSet (f : Fld) (x : Nat) (hh : f.apart DOUT_RB_HS = true) (hl : f.apart DOUT_RB_LS = true) :
    ReadbackKept l s (s.lfSet l f x) :=
  ⟨(LaneOnly.lfSet ..).evt, State.lf_lfSet_apart _ _ _ _ _ _ hh, State.lf_lfSet_apart _ _ _ _ _ _ hl⟩

theorem ReadbackKept.upd (f : Lane → Lane) (h : ∀ x, (f x).regs = x.regs) : ReadbackKept l s (s.updLane l f) :=
  ⟨(LaneOnly.upd l s f).evt, lf_updLane h .., lf_updLane h ..⟩

theorem ReadbackKept.laneEvt (code : Nat) (parts : List (Nat × Nat)) : ReadbackKept l s (s.laneEvt l code parts) :=
  ⟨(laneEvt_eventOnly ..).inLane l, State.lf_laneEvt _ _ _ _ _ _ rfl, State.lf_laneEvt _ _ _ _ _ _ rfl⟩

end

/-- The findings of a side (R406). -/
def diagOf (d : Side) : Fld := match d with | .hs => DOUT_DIAG_HS | .ls => DOUT_DIAG_LS

theorem diagOf_ok (d : Side) : (diagOf d).ok = true := by cases d <;> rfl

theorem diagOf_apart (d : Side) (f : Fld) (h : DOUT_DIAG_HS.apart f = true) (g : DOUT_DIAG_LS.apart f = true) :
    (diagOf d).apart f = true := by
  cases d
  · exact h
  · exact g

/-- The front end shows a finding of a switch and raises its interrupt. -/
def State.faultShown (s : State) (l : LaneId) (d : Side) (o : Nat) : State :=
  (s.lfSet l (diagOf d) (setBit (s.lf l (diagOf d)) o true)).lfSet l DOUT_INT_STAT_FAULT 1

/-- A finding of a switch is shown and its kind kept, unless it is shown already. -/
theorem switchFault_eq (s : State) (l : LaneId) (d : Side) (o kind : Nat) : s.switchFault l d o kind =
    if bitOf (s.lf l (diagOf d)) o then s else (s.faultShown l d o).updLane l
      (fun x => { x with fe := { x.fe with found := mapInsert (mapErase x.fe.found (2 * o + d.num)) (2 * o + d.num) kind } }) := by
  cases d <;> rfl

theorem switchFault_laneOnly (s : State) (l : LaneId) (d : Side) (o kind : Nat) : LaneOnly l s (s.switchFault l d o kind) := by
  rw [switchFault_eq]
  exact .ite (.refl l s) (((LaneOnly.lfSet ..).trans (.lfSet ..)).trans (.upd ..))

theorem switchFault_readbackKept (s : State) (l : LaneId) (d : Side) (o kind : Nat) :
    ReadbackKept l s (s.switchFault l d o kind) := by
  rw [switchFault_eq]
  exact .ite (.refl s l) (((ReadbackKept.lfSet s l _ _ (diagOf_apart d _ rfl rfl) (diagOf_apart d _ rfl rfl)).trans
    (.lfSet _ l _ _ rfl rfl)).trans (.upd _ l _ fun _ => rfl))

/-- The finding stands afterwards. -/
theorem bitOf_diagOf_switchFault (s : State) (l : LaneId) (d : Side) {o : Nat} (kind : Nat) (ho : o ≤ 16) :
    bitOf ((s.switchFault l d o kind).lf l (diagOf d)) o = true := by
  have hwidth : (diagOf d).hi + 1 - (diagOf d).lo = 17 := by cases d <;> rfl
  have hapart : DOUT_INT_STAT_FAULT.apart (diagOf d) = true := by cases d <;> rfl
  have hshown : bitOf ((s.faultShown l d o).lf l (diagOf d)) o = true := by
    rw [State.faultShown, State.lf_lfSet_apart _ _ _ _ _ _ hapart, bitOf_lfSet_setBit _ (diagOf_ok d) (by omega) (lf_lt ..), if_pos rfl]
  rw [switchFault_eq]
  split
  next h => exact h
  · exact (congrArg (bitOf · o) (lf_updLane (by intro; rfl) ..)).trans hshown

theorem stuckCheck_readbackKept (s : State) (l : LaneId) (u : Nat) : ReadbackKept l s (s.stuckCheck l u) :=
  .foldl (fun t _ => .ite (switchFault_readbackKept ..) (.refl t l)) _

theorem readbackChange_takes {s : State} {l : LaneId} (hs ls oc u : Nat) (ht : s.ticking l = true) :
    ∃ t, exec (.readbackChange l hs ls oc u) s = .next t ∧ t.lf l DOUT_RB_HS = hs % 2 ^ 17 ∧
      t.lf l DOUT_RB_LS = ls % 2 ^ 17 ∧ LaneEvt l s t := by
  have htaken : LaneOnly l s (((s.lfSet l DOUT_RB_HS hs).lfSet l DOUT_RB_LS ls).lfSet l DOUT_RB_OC oc) :=
    ((LaneOnly.lfSet ..).trans (.lfSet ..)).trans (.lfSet ..)
  refine ⟨_, (by show execReadbackChange l hs ls oc u s = _; rw [execReadbackChange, if_neg (by simp [ht])]), ?_⟩
  suffices h : ReadbackKept l (((s.lfSet l DOUT_RB_HS hs).lfSet l DOUT_RB_LS ls).lfSet l DOUT_RB_OC oc) _ by
    refine ⟨h.hs.trans ?_, h.ls.trans ?_, htaken.evt.trans h.evt⟩
    · exact (State.lf_lfSet_apart _ _ _ _ _ _ rfl).trans ((State.lf_lfSet_apart _ _ _ _ _ _ rfl).trans (State.lf_lfSet_same _ _ _ _ rfl))
    · exact (State.lf_lfSet_apart _ _ _ _ _ _ rfl).trans (State.lf_lfSet_same _ _ _ _ rfl)
  refine (ReadbackKept.foldl (fun t p => .ite (.refl t l) (.ite ?_ (.ite ?_ (.refl t l)))) _).trans (stuckCheck_readbackKept ..)
  · exact (ReadbackKept.lfSet _ l _ _ rfl rfl).trans (.upd _ l _ fun _ => rfl)
  · exact ((ReadbackKept.lfSet _ l _ _ rfl rfl).trans (.lfSet _ l _ _ rfl rfl)).trans (.laneEvt _ l _ _)

/-! ### Switches that did not open (R406) -/

/-- What the front end has seen of a slot is forgotten after it. -/
def State.slotOver (s : State) (l : LaneId) (k : Nat) : State :=
  s.updLane l (fun x => { x with fe := { x.fe with seen := x.fe.seen.filter (· ≠ k) } })

theorem lf_slotOver (s : State) (l : LaneId) (k : Nat) (f : Fld) : (s.slotOver l k).lf l f = s.lf l f := by
  rw [State.slotOver, lf_updLane (by intro; rfl)]

theorem findingsOff_slotOver (s : State) (l : LaneId) (k o : Nat) : (s.slotOver l k).findingsOff l o = s.findingsOff l o := by
  simp [State.findingsOff, State.slotOver]

/-- The check of a slot whose switch was held on: a fault unless the switch was seen open in the slot. -/
theorem exec_darkSlotCheck {s : State} {l : LaneId} {d : Side} {o u pos : Nat} (ho : o ≤ 16) (ht : s.ticking l = true)
    (hpos : pos = s.tpPos (s.frame l) u) (hdue : s.slotStart (slotOf d o) + s.lf l (DOUT_DARK o) + 100 ≤ pos)
    (hon : bitOf (s.lf l VOT_V2OUT) o = true) (hoff : s.findingsOff l o = false) (hclosed : s.readsClosed l d o = true)
    (hheld : ∀ v, s.sinceExpected l o u = some v → pos - s.slotStart (slotOf d o) + 300 ≤ v) :
    exec (.darkSlotCheck l d o u) s = .next (if slotOf d o ∈ (s.lane l).fe.seen then s.slotOver l (slotOf d o) else
      (s.slotOver l (slotOf d o)).switchFault l d o 2) := by
  subst hpos
  show execDarkSlotCheck l d o u s = _
  rw [execDarkSlotCheck, if_neg (by simp [ht, ho])]
  dsimp only
  rw [if_neg (by simp [hdue])]
  rw [← State.slotOver, lf_slotOver, findingsOff_slotOver, hon, hoff, hclosed]
  by_cases hseen : slotOf d o ∈ (s.lane l).fe.seen
  · simp [hseen]
  · cases hv : s.sinceExpected l o u with
    | none => simp [hseen]
    | some v => simp [hseen, hheld v hv]

theorem darkSlotCheck_finds {s : State} {l : LaneId} {d : Side} {o u pos : Nat} (ho : o ≤ 16) (ht : s.ticking l = true)
    (hpos : pos = s.tpPos (s.frame l) u) (hdue : s.slotStart (slotOf d o) + s.lf l (DOUT_DARK o) + 100 ≤ pos)
    (hon : bitOf (s.lf l VOT_V2OUT) o = true) (hoff : s.findingsOff l o = false) (hclosed : s.readsClosed l d o = true)
    (hheld : ∀ v, s.sinceExpected l o u = some v → pos - s.slotStart (slotOf d o) + 300 ≤ v) :
    ∃ t, exec (.darkSlotCheck l d o u) s = .next t ∧ LaneOnly l s t ∧
      (slotOf d o ∉ (s.lane l).fe.seen → bitOf (t.lf l (diagOf d)) o = true) ∧
      (slotOf d o ∈ (s.lane l).fe.seen → (t.lane l).regs = (s.lane l).regs) := by
  have hover : LaneOnly l s (s.slotOver l (slotOf d o)) := .upd ..
  refine ⟨_, exec_darkSlotCheck ho ht hpos hdue hon hoff hclosed hheld, .ite hover (hover.trans (switchFault_laneOnly ..)),
    fun h => ?_, fun h => ?_⟩
  · rw [if_neg h, bitOf_diagOf_switchFault _ _ _ _ ho]
  · rw [if_pos h, State.slotOver, State.updLane_lane, if_pos rfl]

/-- Settles O39: each clause by the rule of its command. -/
theorem inputsAndSwitchesOfTheFieldStage : Obligations.InputsAndSwitchesOfTheFieldStage := by
  unfold Obligations.InputsAndSwitchesOfTheFieldStage
  intro s l d o ho
  refine ⟨fun i mv on off hs hu hc => inputThresholdCross_follows hs hu hc,
    fun i held at_ hs hu hne => ⟨fun hheld => ?_, fun hheld => ?_⟩,
    fun u f hr hon hf hlong hpos => ⟨_, exec_darkPulseStart ho hr hon hf hlong hpos, ?_, fun e p h => closed_darkSet_other s true h⟩,
    ⟨_, exec_darkPulseEnd s d o, ?_⟩, switchOverloadTrip_opens ho, fun hs ls oc u ht => readbackChange_takes hs ls oc u ht,
    fun u pos ht hpos hdue hon hoff hclosed hheld => ?_⟩
  · refine ⟨_, exec_inputFilterChange hs hu hne, ?_⟩
    rw [if_neg (by omega)]
    exact ⟨filterFollows_filt at_ (lt_of_inputUsed hu), filterFollows_chg .., by simp [State.filterFollows], filterFollows_laneOnly ..⟩
  · rw [exec_inputFilterChange hs hu hne, if_pos hheld]
  · rw [closed_darkSet, Bool.not_true, Bool.and_false, Bool.false_and]
  · rw [closed_darkSet, Bool.not_false, Bool.and_true]
  · exact darkSlotCheck_finds ho ht hpos hdue hon hoff hclosed hheld

end Sys2Proof.Machine

/-! Silence of a voter, the brake loop with its proof test, and the reset input (15 R413 to R418). -/

namespace Sys2Proof.Machine

-- One proof after another: proofs that wait side by side each keep a stack, and many of them exceed the memory of a check.
set_option Elab.async false

/-! ### A voter's refresh stops (R413) -/

/-- Dropping the mastership output touches neither voter. -/
theorem closed_lineDrop (s : State) (i : VoterId) (d : Side) (o : Nat) : (s.lineDrop i).closed d o = s.closed d o := by
  unfold State.lineDrop
  split
  · have h : LanesOnly _ (onLanes (fun l s => if (s.lane l).supplied then s.lfSet l PAIR_STAT_LINE_OUT 0 else s)
        (({ s with sup := { s.sup with lineOut := false } } : State).emit .pairLine 0 0 [])) :=
      .onLanes (fun l s => .ite (.lfSet ..) (.refl l s)) _
    rw [h.closed]
    exact closed_congr ⟨rfl, rfl⟩ (fun i => by cases i <;> rfl) d o
  · rfl

/-- A side whose voter is silent, or has a fault of its monitor, has its switches open. -/
theorem closed_of_noRefresh (s : State) (d : Side) {v : Voter} (h : v.silent = true ∨ v.oscFault = true) (o : Nat) :
    (s.voterSet (voterOf d) v).closed d o = false := by
  rw [closed_voterSet_same]
  rcases h with h | h <;> simp [h]

/-! ### The brake loop (R415 to R417) -/

theorem exec_brakeCurrentOutOfRange {s : State} {l : LaneId} (ht : s.ticking l = true) (hrec : (s.lane l).rt.brkRec = false)
    (hlong : 100000 ≤ (s.lane l).rt.brkRun * s.tUs) (hrun : 0 < (s.lane l).rt.brkRun) :
    exec (.brakeCurrentOutOfRange l) s = .next
      (((s.updLane l (fun x => { x with rt := { x.rt with brkRec := true } })).lcount l BRK_CNT_RANGE 1).laneEvt l 0x5030
        [(4, (s.updLane l (fun x => { x with rt := { x.rt with brkRec := true } })).agreedCurrent l)]) :=
  if_pos (by simp [ht, hrec, hlong, hrun])

theorem brakeCurrentOutOfRange_records {s : State} {l : LaneId} (ht : s.ticking l = true) (hrec : (s.lane l).rt.brkRec = false)
    (hlong : 100000 ≤ (s.lane l).rt.brkRun * s.tUs) (hrun : 0 < (s.lane l).rt.brkRun) :
    ∃ t, exec (.brakeCurrentOutOfRange l) s = .next t ∧ (t.lane l).rt.brkRec = true ∧
      t.lf l BRK_CNT_RANGE = satAdd 0xFFFF (s.lf l BRK_CNT_RANGE) 1 ∧ LaneEvt l s t := by
  refine ⟨_, exec_brakeCurrentOutOfRange ht hrec hlong hrun, by simp, ?_, ((LaneOnly.upd ..).trans (.lcount ..)).evt.laneEvt ..⟩
  rw [State.lf_laneEvt _ _ _ _ _ _ rfl, State.lf_lcount_same _ _ _ _ rfl, lf_updLane (by intro; rfl)]
  rfl

theorem showProof_laneOnly (s : State) (l : LaneId) : LaneOnly l s (s.showProof l) :=
  (((LaneOnly.lfSet ..).trans (.lfSet ..)).trans (.lfSet ..)).trans (.lfSet ..)

/-- BRK_PT of lane `l` shows the proof test `p` (R416, R417). -/
structure ShowsProof (p : Field) (l : LaneId) (t : State) : Prop where
  pass : t.lf l BRK_PT_PASS = b2n (p.result == 1)
  fail : t.lf l BRK_PT_FAIL = b2n (p.result == 2)
  hours : t.lf l BRK_PT_HOURS = min 0xFFFF (p.proofNs / 3600000000000)
  overdue : t.lf l BRK_PT_OVERDUE = b2n p.overdue

theorem showProof_eq (s : State) (l : LaneId) : s.showProof l =
    (((s.lfSet l BRK_PT_PASS (b2n (s.fld.result == 1))).lfSet l BRK_PT_FAIL (b2n (s.fld.result == 2))).lfSet l BRK_PT_HOURS
      (min 0xFFFF s.proofHours)).lfSet l BRK_PT_OVERDUE (b2n s.fld.overdue) := by
  simp [State.showProof, State.proofHours]

theorem showProof_shows (s : State) (l : LaneId) : ShowsProof s.fld l (s.showProof l) where
  pass := by
    rw [showProof_eq, State.lf_lfSet_apart _ _ _ _ _ _ rfl, State.lf_lfSet_apart _ _ _ _ _ _ rfl,
      State.lf_lfSet_apart _ _ _ _ _ _ rfl, State.lf_lfSet_same _ _ _ _ rfl]
    exact b2n_mod_two _
  fail := by
    rw [showProof_eq, State.lf_lfSet_apart _ _ _ _ _ _ rfl, State.lf_lfSet_apart _ _ _ _ _ _ rfl, State.lf_lfSet_same _ _ _ _ rfl]
    exact b2n_mod_two _
  hours := by
    rw [showProof_eq, State.lf_lfSet_apart _ _ _ _ _ _ rfl, State.lf_lfSet_same _ _ _ _ rfl]
    exact Nat.mod_eq_of_lt (Nat.lt_succ_of_le (Nat.min_le_left ..))
  overdue := by
    rw [showProof_eq, State.lf_lfSet_same _ _ _ _ rfl]
    exact b2n_mod_two _

theorem ShowsProof.congr {p : Field} {l : LaneId} {s t : State} (h : ShowsProof p l s)
    (hreg : t.lreg l BRK_PT.reg = s.lreg l BRK_PT.reg) : ShowsProof p l t :=
  ⟨(congrArg (fldGet BRK_PT_PASS) hreg).trans h.pass, (congrArg (fldGet BRK_PT_FAIL) hreg).trans h.fail,
    (congrArg (fldGet BRK_PT_HOURS) hreg).trans h.hours, (congrArg (fldGet BRK_PT_OVERDUE) hreg).trans h.overdue⟩

/-- What a running lane does with the result of a proof test. -/
def State.proofTaken (fail : Nat) (l : LaneId) (s : State) : State :=
  (if decide (fail = 0) then s.showProof l else (s.showProof l).lcount l BRK_CNT_PT_FAIL 1).laneEvt l 0x5031
    [(1, b2n (!decide (fail = 0))), (1, fail)]

section
variable (fail : Nat) (l : LaneId) (s : State)

theorem proofTaken_laneEvt : LaneEvt l s (State.proofTaken fail l s) :=
  (LaneOnly.ite (showProof_laneOnly s l) ((showProof_laneOnly s l).trans (.lcount ..))).evt.laneEvt ..

theorem proofTaken_shows : ShowsProof s.fld l (State.proofTaken fail l s) := by
  refine (showProof_shows s l).congr ?_
  rw [State.proofTaken, (laneEvt_eventOnly ..).reg _ _ rfl]
  split
  · rfl
  · exact State.lreg_lregSet_other _ _ _ _ (by decide)

variable {fail} in
theorem proofTaken_count (h : fail ≠ 0) :
    (State.proofTaken fail l s).lf l BRK_CNT_PT_FAIL = satAdd 0xFFFF (s.lf l BRK_CNT_PT_FAIL) 1 := by
  rw [State.proofTaken, State.lf_laneEvt _ _ _ _ _ _ rfl, if_neg (by simp [h]), State.lf_lcount_same _ _ _ _ rfl, showProof_eq,
    State.lf_lfSet_apart _ _ _ _ _ _ rfl, State.lf_lfSet_apart _ _ _ _ _ _ rfl, State.lf_lfSet_apart _ _ _ _ _ _ rfl,
    State.lf_lfSet_apart _ _ _ _ _ _ rfl]
  rfl

end

/-- The state of the brake loop after a proof test. -/
def Field.tested (p : Field) (fail : Nat) : Field := if decide (fail = 0) then { result := 1 } else { p with result := 2 }

theorem Field.tested_of_failed (p : Field) {fail : Nat} (h : fail ≠ 0) : p.tested fail = { p with result := 2 } := if_neg (by simp [h])

theorem proofResult_eq (s : State) (fail : Nat) : s.proofResult fail =
    onLanes (fun l s => if s.ticking l then State.proofTaken fail l s else s) { s with fld := s.fld.tested fail } := by
  have hlane : (fun (l : LaneId) (s : State) => if !s.ticking l then s else State.proofTaken fail l s) =
      fun l s => if s.ticking l then State.proofTaken fail l s else s := by
    funext l s
    cases s.ticking l <;> rfl
  rw [← hlane]
  rfl

/-- A lane that runs shows a proof test's result, and counts a failed one. -/
theorem proofResult_shows {s : State} (fail : Nat) {l : LaneId} (ht : s.ticking l = true) :
    ShowsProof (s.fld.tested fail) l (s.proofResult fail) ∧
      (fail ≠ 0 → (s.proofResult fail).lf l BRK_CNT_PT_FAIL = satAdd 0xFFFF (s.lf l BRK_CNT_PT_FAIL) 1) := by
  obtain ⟨u, hu, ht⟩ := LaneAlike.onTicking (fun m s => proofTaken_laneEvt fail m s) l { s with fld := s.fld.tested fail } ht
  rw [proofResult_eq]
  constructor
  · have h := (proofTaken_shows fail l u).congr (ht.reg _ rfl)
    rwa [hu.fld] at h
  · intro h
    rw [ht.lf _ rfl, proofTaken_count l u h, hu.lf _ rfl]
    rfl

theorem fld_proofResult (s : State) (fail : Nat) : (s.proofResult fail).fld = s.fld.tested fail := by
  rw [proofResult_eq, onLanes_keeps State.fld]
  intro l t
  split
  · exact (proofTaken_laneEvt fail l t).fld.trans (State.setLane_fld ..)
  · rfl

theorem exec_brakeProofTest {s : State} {src : Nat} {rs : List (Bool × Bool × Nat)} (hsrc : 1 ≤ s.sourceLevel src) :
    exec (.brakeProofTest src rs) s = .next (if s.md.mode = .depot then s.proofResult (halfClosedFail 1 halfClosedSteps rs) else s) := by
  show execBrakeProofTest src rs s = _
  rw [execBrakeProofTest, if_neg (by omega), State.proofTest]
  by_cases h : s.md.mode = .depot
  · rw [if_neg (not_not_intro h), if_pos h]
  · rw [if_pos h, if_neg h]

/-- What a running lane does when the proof test falls overdue. -/
def State.overdueShown (l : LaneId) (s : State) : State := (s.showProof l).laneEvt l 0x5032 [(4, min 0xFFFF s.proofHours)]

theorem overdueShown_laneEvt (l : LaneId) (s : State) : LaneEvt l s (s.overdueShown l) := (showProof_laneOnly s l).evt.laneEvt ..

theorem overdueShown_shows (l : LaneId) (s : State) : ShowsProof s.fld l (s.overdueShown l) :=
  (showProof_shows s l).congr ((laneEvt_eventOnly ..).reg _ _ rfl)

theorem exec_proofTestOverdue {s : State} {k : LaneId} (ho : s.fld.overdue = false) (hh : s.obj 0x5104 0 < s.proofHours)
    (hk : s.ticking k = true) : exec .proofTestOverdue s = .next (onLanes (fun l s => if s.ticking l then s.overdueShown l else s)
      { s with fld := { s.fld with overdue := true } }) := by
  have hany : lanes.any s.ticking = true := List.any_eq_true.mpr ⟨k, by cases k <;> decide, hk⟩
  show execProofTestOverdue s = _
  rw [execProofTestOverdue, if_neg (by simp [ho, hany, hh])]
  rfl

/-! ### The reset input (R418) -/

/-- The supervisor's record of the reset input. -/
def State.resetInput (s : State) (r : ResetIn) : State := { s with sup := { s.sup with rst := r } }

/-- Every running lane shows the level of the reset input. -/
def State.showReset (v : Nat) (s : State) : State := onLanes (fun l s => if s.ticking l then s.lfSet l DIN_STATUS_RESET v else s) s

theorem showReset_lanesOnly (v : Nat) (s : State) : LanesOnly s (s.showReset v) :=
  .onLanes (fun l s => .ite (.lfSet ..) (.refl l s)) s

theorem showReset_runKept (v : Nat) (s : State) : RunKept s (s.showReset v) := by
  refine .onLanes (fun l s => .ite ⟨fun k => ?_, fun k => ?_, fun k => ?_, fun k => ?_, ?_, ?_⟩ (.refl s)) s
  · simp
  · exact State.lf_lfSet_apart _ _ _ _ _ _ rfl
  · exact State.lf_lfSet_apart _ _ _ _ _ _ rfl
  · exact State.lf_lfSet_apart _ _ _ _ _ _ rfl
  · simp
  · simp

theorem lf_showReset (v : Nat) {s : State} {l : LaneId} (ht : s.ticking l = true) : (s.showReset v).lf l DIN_STATUS_RESET = v % 2 := by
  obtain ⟨u, -, h⟩ := LaneAlike.onTicking (f := fun l s => s.lfSet l DIN_STATUS_RESET v) (fun l s => (LaneOnly.lfSet ..).evt) l s ht
  exact (h.lf _ rfl).trans (State.lf_lfSet_same _ _ _ _ rfl)

theorem exec_resetInputRise {s : State} (low : Nat) (hs : s.sup.supplied = true) (hl : s.sup.rst.level = false) :
    exec (.resetInputRise low) s = .next
      ((s.resetInput { s.sup.rst with level := true, counting := decide (50000 ≤ low) }).showReset 1) := by
  show execResetInputRise low s = _
  rw [execResetInputRise, if_neg (by simp [hs, hl])]
  rfl

/-- A pulse that is judged and of the width of a reset command. -/
def ResetIn.pulse (r : ResetIn) (width : Nat) : Bool := r.counting && decide (50000 ≤ width) && decide (width ≤ 2000000)

/-- What the supervisor keeps of the reset input after a falling edge: the pulse is over, and judged. -/
def ResetIn.fallen (r : ResetIn) (width : Nat) : ResetIn := { level := false, counting := false, valid := r.valid || r.pulse width }

/-- A falling edge ends the pulse and judges it; one too short is an event. -/
theorem resetInputFall_judges {s : State} (width : Nat) (hs : s.sup.supplied = true) (hl : s.sup.rst.level = true)
    (ha : s.anyTick = true) : ∃ t, exec (.resetInputFall width) s = .next t ∧ t.sup.rst = s.sup.rst.fallen width := by
  have hev : ∀ (c : Prop) [Decidable c] (u : State), EventOnly u (if c then u.supEvt 0x5020 [(4, width)] else u) := fun c _ u => by
    split
    · exact supEvt_eventOnly ..
    · exact .refl u
  have hshown := (showReset_lanesOnly 0 (s.resetInput (s.sup.rst.fallen width))).sup
  show ∃ t, execResetInputFall width s = _ ∧ _
  rw [execResetInputFall, if_neg (by simp [hs, hl])]
  refine ⟨_, congrArg Host.Outcome.next (if_pos ?_), ?_⟩
  · rw [Bool.or_eq_true, (hev ..).runKept.anyTick]
    exact .inl ((showReset_runKept 0 (s.resetInput (s.sup.rst.fallen width))).anyTick.trans ha)
  · rw [(hev ..).sup]
    exact congrArg (·.rst) hshown

/-- Settles O40: each clause by the rule of its command. -/
theorem votersBrakeLoopAndResetInput : Obligations.VotersBrakeLoopAndResetInput := by
  unfold Obligations.VotersBrakeLoopAndResetInput
  intro s
  refine ⟨fun i us d o hup hi => ?_, fun l ht hrec hlong hrun => brakeCurrentOutOfRange_records ht hrec hlong hrun,
    fun src rs hsrc => ⟨fun hd => ?_, fun hd => ?_⟩, fun ho => ⟨fun hh ⟨k, hk⟩ => ?_, fun h => ?_⟩, fun hs => ⟨?_, ?_, ?_⟩⟩
  · subst hi
    refine ⟨fun h => ⟨_, if_pos (by simp [hup, h]), ?_⟩, fun h => if_neg (by simp [h]), _, if_pos hup, ?_⟩
    · rw [closed_lineDrop, closed_of_noRefresh _ _ (.inl rfl)]
    · rw [closed_lineDrop, closed_of_noRefresh _ _ (.inr rfl)]
  · refine ⟨_, (exec_brakeProofTest hsrc).trans (by rw [if_pos hd]), fun h => ?_, fun h => ?_⟩
    · rw [h, fld_proofResult]
      refine ⟨rfl, rfl, fun l ht => ?_⟩
      obtain ⟨hp, hf, hh, ho⟩ := (proofResult_shows 0 ht).1
      exact ⟨hp, hf, hh.trans (by simp [Field.tested]), ho⟩
    · rw [fld_proofResult, Field.tested_of_failed _ h]
      refine ⟨rfl, fun l ht => ?_⟩
      obtain ⟨⟨hp, hf, -, -⟩, hc⟩ := proofResult_shows (halfClosedFail 1 halfClosedSteps rs) ht
      rw [Field.tested_of_failed _ h] at hp hf
      exact ⟨hp, hf, hc h⟩
  · rw [exec_brakeProofTest hsrc, if_neg hd]
  · refine ⟨_, exec_proofTestOverdue ho hh hk, ?_, fun l ht => ?_⟩
    · rw [onLanes_keeps (fun t => t.fld.overdue)]
      intro l t
      split
      · rw [(overdueShown_laneEvt l t).fld, State.setLane_fld]
      · rfl
    · obtain ⟨u, hu, h⟩ := LaneAlike.onTicking overdueShown_laneEvt l { s with fld := { s.fld with overdue := true } } ht
      have hp := (overdueShown_shows l u).congr (h.reg _ rfl)
      rw [hu.fld] at hp
      exact ⟨hp.overdue, hp.hours⟩
  · refine if_pos ?_
    rcases h with h | h
    · simp [h]
    · simp [show lanes.any s.ticking = false by simp [h]]
  · intro low hl
    refine ⟨_, exec_resetInputRise low hs hl, ?_, ?_, fun l ht => lf_showReset 1 ht⟩
    · rw [(showReset_lanesOnly ..).sup]
      rfl
    · rw [(showReset_lanesOnly ..).sup]
      rfl
  · intro width hl ha
    obtain ⟨t, he, hr⟩ := resetInputFall_judges width hs hl ha
    refine ⟨t, he, by rw [hr]; rfl, ?_⟩
    rw [hr]
    simp [ResetIn.fallen, ResetIn.pulse, and_assoc]
  · intro hl hc
    refine ⟨_, if_pos (by simp [hs, hl, hc]), ?_, ?_⟩
    · rw [(supEvt_eventOnly ..).sup]
    · rw [(supEvt_eventOnly ..).sup]

end Sys2Proof.Machine

/-! What the payload engine leaves as it is while it works on one channel (09): the network, the time base, the CAN channels but for
their count of bad transmit items, and every other channel's items. -/

namespace Sys2Proof.Machine

-- One proof after another: proofs that wait side by side each keep a stack, and many of them exceed the memory of a check.
set_option Elab.async false

/-- The registers that the engine may write while it works on channel `c`: the channel's own but for CFG and SRC, the state of every
channel, the completion queues, and the count of CAN transmit items of a wrong format. -/
def engineReg (c a : Nat) : Prop :=
  0x50000008 + 0x100 * c ≤ a ∧ a < 0x50000100 + 0x100 * c ∨ a < 0x5000C000 ∧ a % 0x100 = 0x48 ∨ 0x5000D000 ≤ a ∧ a < 0x5000E000 ∨
    0x50200000 ≤ a ∧ a < 0x50300000 ∧ a % 0x1000 = 0x40

/-- Channel `d` stops while its completion queue is full. -/
def State.mayStall (s : State) (d : Nat) : Prop := d < 192 ∧ (s.hf (PDE_CFG_MODE d) = 3 ∨ s.hf (PDE_CFG_MODE d) = 4)

/-- `t` is `s` but for what the engine writes while it works on channel `c`. -/
structure EngineOnly (c : Nat) (s t : State) : Prop where
  hub : t.hub = s.hub
  net : t.net = s.net
  tb : t.tb = s.tb
  chs : t.can.chs = s.can.chs
  reg : ∀ a, ¬engineReg c a → t.hreg a = s.hreg a
  objBytes : ∀ i j, t.objBytes i j = s.objBytes i j
  parked : ∀ d, d ≠ c → ∃ b, t.chan d = { s.chan d with parked := b }
  other : ∀ d, d ≠ c → ¬s.mayStall d → t.chan d = s.chan d

/-! ### Registers of the hub -/

theorem hreg_congr {s t : State} (hpde : t.pde.regs = s.pde.regs) (hnet : t.net = s.net) (hcan : t.can = s.can) (htb : t.tb = s.tb)
    (hhub : t.hub = s.hub) (a : Nat) : t.hreg a = s.hreg a := by
  simp only [State.hreg, State.hubRegs, hpde, hnet, hcan, htb, hhub]

theorem objBytes_congr {s t : State} (h : t.dict = s.dict) (i j : Nat) : t.objBytes i j = s.objBytes i j := by
  simp only [State.objBytes, State.objRow, h]

namespace EngineOnly

variable {c : Nat} {s t u : State}

theorem refl (c : Nat) (s : State) : EngineOnly c s s :=
  ⟨rfl, rfl, rfl, rfl, fun _ _ => rfl, fun _ _ => rfl, fun _ _ => ⟨_, rfl⟩, fun _ _ _ => rfl⟩

/-- A field outside the engine's registers reads as before. -/
theorem hf (h : EngineOnly c s t) {f : Fld} (hf : ¬engineReg c f.reg := by unfold engineReg; dsimp only; omega) : t.hf f = s.hf f :=
  congrArg (fldGet f) (h.reg _ hf)

theorem mode (h : EngineOnly c s t) {d : Nat} (hd : d < 192) : t.hf (PDE_CFG_MODE d) = s.hf (PDE_CFG_MODE d) := h.hf

theorem mayStall (h : EngineOnly c s t) (d : Nat) : t.mayStall d ↔ s.mayStall d := by
  unfold State.mayStall
  exact and_congr_right fun hd => by rw [h.mode hd]

theorem trans (h : EngineOnly c s t) (g : EngineOnly c t u) : EngineOnly c s u where
  hub := g.hub.trans h.hub
  net := g.net.trans h.net
  tb := g.tb.trans h.tb
  chs := g.chs.trans h.chs
  reg a ha := (g.reg a ha).trans (h.reg a ha)
  objBytes i j := (g.objBytes i j).trans (h.objBytes i j)
  parked d hd := by
    obtain ⟨b, hb⟩ := g.parked d hd
    obtain ⟨b', hb'⟩ := h.parked d hd
    exact ⟨b, by rw [hb, hb']⟩
  other d hd hs := (g.other d hd (by rwa [h.mayStall])).trans (h.other d hd hs)

theorem ite {p : Prop} [Decidable p] (h : EngineOnly c s t) (g : EngineOnly c s u) : EngineOnly c s (if p then t else u) := by
  split
  · exact h
  · exact g

theorem obj (h : EngineOnly c s t) (i j : Nat) : t.obj i j = s.obj i j := congrArg leNat (h.objBytes i j)

theorem canCh (h : EngineOnly c s t) (ch : Nat) : t.canCh ch = s.canCh ch := by rw [State.canCh, h.chs, State.canCh]

/-- What touches neither the hub's blocks nor the dictionary leaves all of this. -/
theorem of_same (hpde : t.pde = s.pde) (hnet : t.net = s.net) (hcan : t.can = s.can) (htb : t.tb = s.tb) (hhub : t.hub = s.hub)
    (hdict : t.dict = s.dict) : EngineOnly c s t :=
  have hchan (d : Nat) : t.chan d = s.chan d := chan_congr (by rw [hpde]) d
  ⟨hhub, hnet, htb, by rw [hcan], fun _ _ => hreg_congr (by rw [hpde]) hnet hcan htb hhub _, objBytes_congr hdict,
    fun d _ => ⟨_, hchan d⟩, fun d _ _ => hchan d⟩

theorem evt (h : EventOnly t u) (g : EngineOnly c s t) : EngineOnly c s u :=
  g.trans (of_same h.pde h.net h.can h.tb h.hub h.dict)

theorem lane {l : LaneId} (h : LaneTx l t u) (g : EngineOnly c s t) : EngineOnly c s u := by
  refine g.trans (of_same ?_ ?_ ?_ ?_ ?_ ?_) <;> rw [h] <;> simp

/-! ### The state's operations -/

section
variable (h : EngineOnly c s t)
include h

/-- A register of the engine is written. -/
theorem hfSet {f : Fld} {x : Nat} (hblock : f.reg < 0x50100000 ∨ 0x50200000 ≤ f.reg ∧ f.reg < 0x50300000 := by dsimp only; omega)
    (hreg : engineReg c f.reg := by unfold engineReg; dsimp only; omega) : EngineOnly c s (t.hfSet f x) := by
  have hb : hubBlock f.reg = .pde ∨ hubBlock f.reg = .can := by
    unfold hubBlock
    rcases hblock with hr | ⟨hr, hr'⟩
    · exact .inl (if_pos hr)
    · right
      rw [if_neg (by omega), if_neg (by omega), if_pos hr']
  refine h.trans ⟨?_, ?_, ?_, ?_, fun a ha => State.hreg_hregSet_other _ _ fun e => ha (e ▸ hreg), objBytes_congr (by simp),
    fun d _ => ⟨_, chan_hfSet ..⟩, fun d _ _ => chan_hfSet ..⟩ <;>
  rcases hb with hb | hb <;> simp only [State.hfSet, State.hregSet, hb]

theorem hcount {f : Fld} {n : Nat} (hblock : f.reg < 0x50100000 ∨ 0x50200000 ≤ f.reg ∧ f.reg < 0x50300000 := by dsimp only; omega)
    (hreg : engineReg c f.reg := by unfold engineReg; dsimp only; omega) : EngineOnly c s (t.hcount f n) := h.hfSet hblock hreg

theorem chanUpd {f : Chan → Chan} : EngineOnly c s (t.chanUpd c f) :=
  h.trans ⟨rfl, rfl, rfl, rfl, fun _ _ => rfl, fun _ _ => rfl, fun _ hd => ⟨_, chan_chanUpd_other _ _ hd⟩,
    fun _ hd _ => chan_chanUpd_other _ _ hd⟩

theorem cntAdd {i j n : Nat} : EngineOnly c s (t.cntAdd i j n) :=
  h.trans ⟨rfl, rfl, rfl, rfl, fun _ _ => rfl, fun _ _ => rfl, fun _ _ => ⟨_, rfl⟩, fun _ _ _ => rfl⟩

/-- A channel stalls on a full queue. -/
theorem stall {d n : Nat} {b : Bool} (hd : t.mayStall d) :
    EngineOnly c s ((t.chanUpd d (fun x => { x with parked := b })).pdeStateSet d n) := by
  have hd' := hd.1
  have hparked : EngineOnly c t (t.chanUpd d (fun x => { x with parked := b })) := by
    refine ⟨rfl, rfl, rfl, rfl, fun _ _ => rfl, fun _ _ => rfl, fun e _ => ?_, fun e _ he => ?_⟩
    · by_cases hed : e = d
      · subst hed
        exact ⟨b, State.chan_chanUpd_same ..⟩
      · exact ⟨_, chan_chanUpd_other _ _ hed⟩
    · exact chan_chanUpd_other _ _ fun hed => he (hed ▸ hd)
  exact (h.trans hparked).hfSet

end

theorem foldl {α : Type} {f : State → α → State} {xs : List α} (hf : ∀ t, ∀ x ∈ xs, EngineOnly c s t → EngineOnly c s (f t x))
    (h : EngineOnly c s t) : EngineOnly c s (xs.foldl f t) := by
  induction xs generalizing t with
  | nil => exact h
  | cons x xs ih => exact ih (fun t y hy => hf t y (List.mem_cons_of_mem _ hy)) (hf t x List.mem_cons_self h)

/-! ### The engine's operations -/

section
variable (hc : c < 192) (h : EngineOnly c s t)
include hc h

theorem pdeStateSet {n : Nat} : EngineOnly c s (t.pdeStateSet c n) := h.hfSet

theorem pdeCount : EngineOnly c s (t.pdeCount c) := h.hcount.cntAdd

theorem pdeItemDone {n : Nat} : EngineOnly c s (t.pdeItemDone c n) := (h.pdeCount hc).hfSet

theorem pdeItemInt : EngineOnly c s (t.pdeItemInt c) := .ite h.hfSet h

theorem pdeSupersede : EngineOnly c s (t.pdeSupersede c) := h.hcount.hfSet.cntAdd

theorem pdeDrop : EngineOnly c s (t.pdeDrop c) := h.hcount.hfSet.cntAdd

end

theorem cqStall {q : Nat} (hq : q < 32) (h : EngineOnly c s t) : EngineOnly c s (t.cqStall q) := by
  have hfull : EngineOnly c t (t.hfSet (PDE_CQ_STAT_FULL q) 1) := (refl c t).hfSet
  have hshown : EngineOnly c t (if ((t.hfSet (PDE_CQ_STAT_FULL q) 1).cqStopped q) = [] then t.hfSet (PDE_CQ_STAT_FULL q) 1 else
      (t.hfSet (PDE_CQ_STAT_FULL q) 1).hcount (PDE_CQ_STAT_STALLS q) 1) := .ite hfull hfull.hcount
  refine h.trans (foldl (s := t) (fun u d hd hu => ?_) hshown)
  obtain ⟨hnames, -⟩ := mem_cqStopped.mp hd
  exact hu.stall ((hu.mayStall d).mpr ((hfull.mayStall d).mp ⟨hnames.chan, hnames.mode⟩))

theorem inbound {l : LaneId} {off : Nat} {bs : List Byte} (h : EngineOnly c s t) : EngineOnly c s (t.inbound l off bs).1 :=
  lane (inbound_laneTx ..) h

theorem countFormat {p : Prop} [Decidable p] {port : Nat} (h : EngineOnly c s t) (hport : port < 256) :
    EngineOnly c s (if p then t.hcount (CAN_CNT_DROP_FORMAT port) 1 else t) := .ite h.hcount h

section
variable (hc : c < 192) (h : EngineOnly c s t)
include hc h

theorem causeCq {irq : Bool} : EngineOnly c s (t.causeCq c irq) := .ite h.hfSet h

theorem cqWrite {p cookie status xfer frameLo : Nat} {irq : Bool} : EngineOnly c s (t.cqWrite c p cookie status xfer frameLo irq) := by
  have hq : t.hf (PDE_CFG_CQ c) < 32 := hf_lt ..
  have hfill {u : State} (hu : EngineOnly c s u) : EngineOnly c s (u.stallIfFull (t.hf (PDE_CFG_CQ c))) := .ite (hu.cqStall hq) hu
  exact .ite h (hfill (causeCq hc (hfSet h.inbound.inbound)))

theorem descDone {status xfer frame : Nat} : EngineOnly c s (t.descDone c status xfer frame) := h.chanUpd.cqWrite hc

theorem descError {p cookie code : Nat} {irq : Bool} : EngineOnly c s (t.descError c p cookie code irq) :=
  evt (hubEvt_eventOnly ..) (hfSet (hcount (hfSet ((h.cqWrite hc).pdeStateSet hc))))

theorem chainStall {parked : Bool} : EngineOnly c s (t.chainStall c parked) := h.chanUpd.pdeStateSet hc

end

/-- A chain that is followed is the engine's work on its channel. -/
theorem chain (hc : c < 192) (k : Nat) (a : ChainAt) (h : EngineOnly c s t) : EngineOnly c s (State.chain c k a t) := by
  induction k generalizing a t with
  | zero => exact h
  | succ k ih =>
    cases a with
    | wait => exact .ite (h.chainStall hc) (.ite (ih .link h.hfSet) (h.pdeStateSet hc))
    | link =>
      exact .ite (h.chainStall hc) (.ite (ih .wait h) (.ite (h.descError hc) (.ite (ih .process (chanUpd h.hfSet.hfSet)) (ih .wait h))))
    | process =>
      have hport (u : State) : u.hf (PDE_SRC_PORT c) < 256 := hf_lt ..
      have hlink {u : State} (hu : EngineOnly c s u) : EngineOnly c s (if u.pdeState c = 2 then State.chain c k .link u else u) :=
        .ite (ih .link hu) hu
      exact .ite (h.chainStall hc) (.ite (h.descError hc) (.ite (.ite (h.descError hc) (h.pdeStateSet hc)) (.ite (h.pdeStateSet hc)
        (.ite (h.pdeStateSet hc).chanUpd (hlink (((h.pdeStateSet hc).countFormat (hport _)).descDone hc))))))

section
variable (hc : c < 192) (h : EngineOnly c s t)
include hc h

theorem pdeStopAt : EngineOnly c s (t.pdeStopAt c) :=
  .ite (pdeStateSet hc (chanUpd h.hfSet.hfSet)) (.ite h (h.pdeStateSet hc))

theorem pdeGoOn : EngineOnly c s (t.pdeGoOn c) :=
  .ite (pdeStopAt hc (hfSet h.chanUpd)) (.ite (h.chain hc ..) h)

/-- An output item that ends at its sink is the engine's work on its channel. -/
theorem outputDone {status : Nat} : EngineOnly c s (t.outputDone c status) := by
  unfold State.outputDone
  split
  · exact h
  · exact pdeGoOn hc (descDone hc (.ite (pdeItemInt hc (pdeItemDone hc h.chanUpd)) h.chanUpd))

theorem outputSent : EngineOnly c s (t.outputSent c) := .ite (h.outputDone hc) (h.pdeCount hc).chanUpd

/-! ### Items that arrive -/

theorem cyclicArrive {raw : List Byte} : EngineOnly c s (t.cyclicArrive c raw) := by
  unfold State.cyclicArrive
  refine .ite h ?_
  split
  · exact h.hcount
  · have hcopied {ls : List LaneId} {off : Nat} {bs : List Byte} : EngineOnly c s (t.inboundAll ls off bs) :=
      foldl (fun _ _ _ hu => hu.inbound) h
    exact chanUpd (.ite (hcopied.pdeSupersede hc) hcopied)

theorem queuedArrive {raw : List Byte} : EngineOnly c s (t.queuedArrive c raw) := by
  unfold State.queuedArrive
  refine .ite h ?_
  split
  · exact h.hcount
  · exact .ite (h.pdeDrop hc) (.ite (pdeGoOn hc ((h.pdeDrop hc).descDone hc))
      (pdeGoOn hc (descDone hc (pdeItemInt hc (pdeItemDone hc h.inbound.inbound)))))

theorem circularArrive {raw : List Byte} : EngineOnly c s (t.circularArrive c raw) := by
  have hring {u : State} {count : Nat} {bs : List Byte} (hu : EngineOnly c s u) : EngineOnly c s (u.ringWrite c count bs) :=
    hu.inbound.inbound
  have hcause {u : State} {p q : Prop} [Decidable p] [Decidable q] (hu : EngineOnly c s u) :
      EngineOnly c s (if q then (if p then u.pdeInt c PDE_INT_STAT_HALF else u).pdeInt c PDE_INT_STAT_FULL else
        if p then u.pdeInt c PDE_INT_STAT_HALF else u) := .ite (hfSet (.ite hu.hfSet hu)) (.ite hu.hfSet hu)
  unfold State.circularArrive
  refine .ite h ?_
  split
  · exact h.hcount
  · have hdone {n : Nat} {count count' wr : Nat} {bs bs' : List Byte} :
        EngineOnly c s (((((t.ringWrite c count bs).ringWrite c count' bs').hfSet (PDE_WR c) wr).pdeItemDone c n).pdeItemInt c) :=
      pdeItemInt hc (pdeItemDone hc (hfSet (hring (hring h))))
    exact .ite (h.pdeDrop hc) (.ite (hcause hdone) hdone)

/-- An item that arrives for a channel is the engine's work on that channel. -/
theorem itemFor {raw : List Byte} : EngineOnly c s (t.itemFor c raw) := by
  unfold State.itemFor
  split
  · exact h.cyclicArrive hc
  · exact h.queuedArrive hc
  · exact h.circularArrive hc
  · exact h

end

end EngineOnly

end Sys2Proof.Machine

/-! Ports of the consist network: links, quarantine and its end; switches of the trellis and claims of spare windows (11 R303, R314 to
R319). -/

namespace Sys2Proof.Machine

-- One proof after another: proofs that wait side by side each keep a stack, and many of them exceed the memory of a check.
set_option Elab.async false

/-- Fields of one register at bits of their own share none. -/
theorem Fld.apart_of_bits {f g : Fld} (hf : f.ok = true := by rfl) (hg : g.lo ≤ g.hi := by simp)
    (h : f.hi < g.lo ∨ g.hi < f.lo := by simp) : f.apart g = true := by
  rcases h with h | h <;> simp [Fld.apart, hf, hg, h]

/-! ### Ports beyond their registers -/

theorem port_congr {s t : State} (h : t.net.ports = s.net.ports) (p : Nat) : t.port p = s.port p := by rw [State.port, h, State.port]

@[simp] theorem port_hfSet (s : State) (f : Fld) (x p : Nat) : (s.hfSet f x).port p = s.port p := port_congr (by simp) p

@[simp] theorem port_hcount (s : State) (f : Fld) (n p : Nat) : (s.hcount f n).port p = s.port p := port_congr (by simp) p

theorem EventOnly.port {s t : State} (h : EventOnly s t) (p : Nat) : t.port p = s.port p := port_congr (by rw [h.net]) p

theorem EventOnly.hf {s t : State} (h : EventOnly s t) (f : Fld) : t.hf f = s.hf f :=
  congrArg (fldGet f) (hreg_congr (by rw [h.pde]) h.net h.can h.tb h.hub _)

/-! ### The state of a port (R316) -/

@[simp] theorem port_portStateSet (s : State) (q n p : Nat) : (s.portStateSet q n).port p = s.port p := by simp [State.portStateSet]

section
variable {q : Nat} (hq : q < 16)
include hq

/-- A port's state is written in its own register and in TRL_PORTS, and stands nowhere else. -/
theorem hf_portStateSet (s : State) (n : Nat) {f : Fld} (hf : f.lo ≤ f.hi := by simp)
    (hs : (SW_PSTAT_STATE q).apart f = true := by exact Fld.apart_of_reg) (hr : 0x50100410 ≠ f.reg := by dsimp only; omega) :
    (s.portStateSet q n).hf f = s.hf f := by
  have hbit : ∀ i, i < 32 → Fld.apart ⟨TRL_PORTS.reg, i, i⟩ f = true := fun i hi =>
    Fld.apart_of_reg (by simp only [Fld.ok, Bool.and_eq_true, decide_eq_true_eq]; omega) hf hr
  rw [State.portStateSet, State.hf_hfSet_apart _ _ _ _ (hbit _ (by omega)), State.hf_hfSet_apart _ _ _ _ (hbit _ (by omega)),
    State.hf_hfSet_apart _ _ _ _ hs]

theorem portState_portStateSet_same (s : State) {n : Nat} (hn : n < 4) : (s.portStateSet q n).portState q = n := by
  have hbit : ∀ i, i < 32 → Fld.apart ⟨TRL_PORTS.reg, i, i⟩ (SW_PSTAT_STATE q) = true := fun i hi =>
    Fld.apart_of_reg (by simp only [Fld.ok, Bool.and_eq_true, decide_eq_true_eq]; omega)
  rw [State.portState, State.portStateSet, State.hf_hfSet_apart _ _ _ _ (hbit _ (by omega)),
    State.hf_hfSet_apart _ _ _ _ (hbit _ (by omega)), hf_hfSet_fits _ rfl hn]

theorem portState_portStateSet_other (s : State) {p : Nat} (n : Nat) (h : p ≠ q) : (s.portStateSet q n).portState p = s.portState p :=
  hf_portStateSet hq s n

/-- A port enters LISTEN; nothing else of its register is written. -/
theorem hf_listen (s : State) (after : Bool) {f : Fld} (hf : f.lo ≤ f.hi := by simp)
    (hs : (SW_PSTAT_STATE q).apart f = true := by exact Fld.apart_of_reg) (hr : 0x50100410 ≠ f.reg := by dsimp only; omega) :
    (s.listen q after).hf f = s.hf f := by
  rw [State.listen, State.hf_portUpd, hf_portStateSet hq s 0 hf hs hr]

theorem portState_listen_same (s : State) (after : Bool) : (s.listen q after).portState q = 0 := by
  rw [State.listen, State.portState, State.hf_portUpd]
  exact portState_portStateSet_same hq s (by decide)

theorem portState_listen_other (s : State) {p : Nat} (after : Bool) (h : p ≠ q) : (s.listen q after).portState p = s.portState p :=
  hf_listen hq s after

end

/-! ### The harvest ring's mode after a link change (R329) -/

/-- The ring's mode is kept beside the registers of the ports. -/
theorem hf_ringSplit (s : State) (cause looper : Nat) {f : Fld} (hf : f.lo ≤ f.hi) (hr : f.reg < 0x50100400) :
    (s.ringSplit cause looper).hf f = s.hf f := by
  have h : ∀ g : Fld, g.ok = true → 0x50100400 ≤ g.reg → g.apart f = true := fun g hg hr' => Fld.apart_of_reg hg hf (by omega)
  unfold State.ringSplit
  split
  · rfl
  · rw [State.hf_hubEvt, State.hf_hfSet_apart _ _ _ _ (h _ rfl (by decide)), State.hf_hcount_apart _ _ _ _ (h _ rfl (by decide)),
      State.hf_hfSet_apart _ _ _ _ (h _ rfl (by decide))]
    rfl

theorem hf_ringLinks (s : State) {f : Fld} (hf : f.lo ≤ f.hi) (hr : f.reg < 0x50100400) : s.ringLinks.hf f = s.hf f := by
  have hmode (n : Nat) : (s.hfSet HRV_STATUS_MODE n).hf f = s.hf f :=
    State.hf_hfSet_apart _ _ _ _ (Fld.apart_of_reg rfl hf (by show 0x50100804 ≠ _; omega))
  unfold State.ringLinks
  dsimp only
  split
  · exact hmode 0
  · split
    · exact hmode 0
    · split
      · split
        · exact hmode 1
        · exact (hf_ringSplit _ _ _ hf hr).trans (hmode 1)
      · split
        · rfl
        · exact hf_ringSplit _ _ _ hf hr

/-! ### Links come up and go down (R303) -/

/-- A port whose link has come up: a windowed one listens unless it is held, another is active; the ring follows its links. -/
def State.linkUpState (s : State) (p : Nat) : State :=
  let s := if !windowed p then s.portStateSet p 1 else if s.portState p = 3 then s else s.listen p (s.port p).after
  if p = 7 ∨ p = 8 then s.ringLinks else s

/-- The fallback of an uplink to its slower speed. -/
def State.fallsBack (s : State) (p speed : Nat) : Bool := (p == 9 || p == 10) && decide (s.obj 0x3030 (p - 8) = 0) && speed == 2

/-- A port's register shows that its link is up, and its speed. -/
def State.linkUpShown (s : State) (p speed : Nat) : State := (s.hfSet (SW_PSTAT_LINK p) 1).hfSet (SW_PSTAT_SPEED p) speed

/-- It also shows whether the link has fallen back. -/
def State.linkShown (s : State) (p speed : Nat) : State :=
  (s.linkUpShown p speed).hfSet (SW_PSTAT_FALLBACK p) (b2n ((s.linkUpShown p speed).fallsBack p speed))

/-- The latency of a port at a speed: committed for its fastest one, else a free value. -/
def State.latency (s : State) (p speed : Nat) : Word × State :=
  if speed = s.fastest p then (BitVec.ofNat 64 (s.obj 0x3404 (2 * p + 1) * 65536 + s.obj 0x3404 (2 * p + 2)), s) else s.freeWord

theorem hf_latency (s : State) (p speed : Nat) (f : Fld) : (s.latency p speed).2.hf f = s.hf f := by
  unfold State.latency
  split <;> rfl

/-- The latency of a link's speed is shown, and events record the link. -/
def State.linkRecorded (s : State) (p speed w : Nat) (fall : Bool) : State :=
  let s := (s.hfSet (TB_PLAT p) w).hubEvt 0x4001 [(1, p), (1, speed)]
  if fall then s.hubEvt 0x4003 [(1, p)] else s

theorem speed_le_of_ok {s : State} {p speed : Nat} (h : s.speedOk p speed = true) : speed ≤ 3 := by
  unfold State.speedOk at h
  split at h
  · have := beq_iff_eq.mp h
    omega
  · split at h
    · have := beq_iff_eq.mp h
      omega
    · split at h <;> simp at h <;> omega

section
variable {s : State} {p : Nat} (hp : p < 12)
include hp

theorem hf_linkUpState (s : State) {f : Fld} (hf : f.lo ≤ f.hi := by simp) (hs : (SW_PSTAT_STATE p).apart f = true := by exact Fld.apart_of_bits)
    (hr : f.reg < 0x50100400 := by dsimp only; omega) : (s.linkUpState p).hf f = s.hf f := by
  have hset : (if !windowed p then s.portStateSet p 1 else if s.portState p = 3 then s else s.listen p (s.port p).after).hf f = s.hf f := by
    split
    · exact hf_portStateSet (by omega) s 1 hf hs (by omega)
    · split
      · rfl
      · exact hf_listen (by omega) s _ hf hs (by omega)
  unfold State.linkUpState
  dsimp only
  split
  · rw [hf_ringLinks _ hf hr, hset]
  · exact hset

theorem portState_linkUpState (s : State) :
    (s.linkUpState p).portState p = if windowed p then (if s.portState p = 3 then 3 else 0) else 1 := by
  have hset : (if !windowed p then s.portStateSet p 1 else if s.portState p = 3 then s else s.listen p (s.port p).after).portState p =
      if windowed p then (if s.portState p = 3 then 3 else 0) else 1 := by
    cases windowed p with
    | false => exact portState_portStateSet_same (by omega) s (by decide)
    | true =>
      by_cases h : s.portState p = 3
      · simp [h]
      · simp [h, portState_listen_same (show p < 16 by omega)]
  unfold State.linkUpState
  dsimp only
  split
  · exact (hf_ringLinks _ (by simp) (by dsimp only; omega)).trans hset
  · exact hset

theorem hf_linkRecorded (s : State) (speed w : Nat) (fall : Bool) {f : Fld} (hf : f.lo ≤ f.hi := by simp)
    (hr : f.reg < 0x50100400 := by dsimp only; omega) : (s.linkRecorded p speed w fall).hf f = s.hf f := by
  have hplat : ((s.hfSet (TB_PLAT p) w).hubEvt 0x4001 [(1, p), (1, speed)]).hf f = s.hf f := by
    rw [State.hf_hubEvt, State.hf_hfSet_apart _ _ _ _ (Fld.apart_of_reg rfl hf (by show 0x50300108 + 0x10 * p ≠ _; omega))]
  unfold State.linkRecorded
  dsimp only
  split
  · rw [State.hf_hubEvt, hplat]
  · exact hplat

theorem exec_portLinkUp {speed : Nat} (hs : s.hub.supplied = true) (hon : bitOf (s.obj 0x3030 5) p = true)
    (hok : s.speedOk p speed = true) : exec (.portLinkUp p speed) s =
      .next ((((s.linkShown p speed).latency p speed).2.linkRecorded p speed ((s.linkShown p speed).latency p speed).1.toNat
        ((s.linkUpShown p speed).fallsBack p speed)).linkUpState p) :=
  if_neg (by simp [hs, hon, hok]; omega)

theorem portLinkUp_shows {speed : Nat} (hs : s.hub.supplied = true) (hon : bitOf (s.obj 0x3030 5) p = true) (hok : s.speedOk p speed = true) :
    ∃ t, exec (.portLinkUp p speed) s = .next t ∧ t.hf (SW_PSTAT_LINK p) = 1 ∧ t.hf (SW_PSTAT_SPEED p) = speed ∧
      t.portState p = (if windowed p then (if s.portState p = 3 then 3 else 0) else 1) := by
  refine ⟨_, exec_portLinkUp hp hs hon hok, ?_, ?_, ?_⟩
  · rw [hf_linkUpState hp, hf_linkRecorded hp, hf_latency, State.linkShown, State.hf_hfSet_apart _ _ _ _ Fld.apart_of_bits, State.linkUpShown,
      State.hf_hfSet_apart _ _ _ _ Fld.apart_of_bits, State.hf_hfSet_same _ _ _ rfl]
    simp
  · rw [hf_linkUpState hp, hf_linkRecorded hp, hf_latency, State.linkShown, State.hf_hfSet_apart _ _ _ _ Fld.apart_of_bits, State.linkUpShown,
      State.hf_hfSet_same _ _ _ rfl]
    exact Nat.mod_eq_of_lt (Nat.lt_of_le_of_lt (speed_le_of_ok hok) (by decide : 3 < 2 ^ 3))
  · have hstate {w : Nat} {fall : Bool} : (((s.linkShown p speed).latency p speed).2.linkRecorded p speed w fall).portState p = s.portState p := by
      rw [State.portState, hf_linkRecorded hp, hf_latency, State.linkShown, State.hf_hfSet_apart _ _ _ _ Fld.apart_of_bits, State.linkUpShown,
        State.hf_hfSet_apart _ _ _ _ Fld.apart_of_bits, State.hf_hfSet_apart _ _ _ _ Fld.apart_of_bits, State.portState]
    rw [portState_linkUpState hp, hstate]

theorem exec_portLinkDown (hs : s.hub.supplied = true) (hl : s.hf (SW_PSTAT_LINK p) = 1) :
    exec (.portLinkDown p) s = .next (s.portDown p) := if_neg (by simp [hs, hl]; omega)

/-- A port whose link is lost: a windowed one listens unless it is held; the ring follows its links. -/
theorem portDown_shows : (s.portDown p).hf (SW_PSTAT_LINK p) = 0 ∧ (s.portDown p).hf (SW_PSTAT_SPEED p) = 0 ∧
    (s.portDown p).portState p = (if windowed p = true ∧ s.portState p ≠ 3 then 0 else s.portState p) := by
  have hring (t : State) {f : Fld} (hf : f.lo ≤ f.hi) (hr : f.reg < 0x50100400) : (if p = 7 ∨ p = 8 then t.ringLinks else t).hf f = t.hf f := by
    split
    · exact hf_ringLinks t hf hr
    · rfl
  have hlisten (t : State) (after : Bool) {f : Fld} (hf : f.lo ≤ f.hi) (hs : (SW_PSTAT_STATE p).apart f = true) (hr : f.reg < 0x50100400) :
      (if windowed p && decide (s.portState p ≠ 3) then t.listen p after else t).hf f = t.hf f := by
    split
    · exact hf_listen (by omega) t after hf hs (by omega)
    · rfl
  have hreg : (SW_PSTAT_LINK p).reg < 0x50100400 := by dsimp only; omega
  unfold State.portDown
  dsimp only
  refine ⟨?_, ?_, ?_⟩
  · rw [hring _ (by simp) hreg, hlisten _ _ (by simp) Fld.apart_of_bits hreg, State.hf_hubEvt, State.hf_hfSet_apart _ _ _ _ Fld.apart_of_bits,
      State.hf_hfSet_same _ _ _ rfl, Nat.zero_mod]
  · rw [hring _ (f := SW_PSTAT_SPEED p) (by simp) hreg, hlisten _ _ (f := SW_PSTAT_SPEED p) (by simp) Fld.apart_of_bits hreg,
      State.hf_hubEvt, State.hf_hfSet_same _ _ _ rfl, Nat.zero_mod]
  · refine (hring _ (f := SW_PSTAT_STATE p) (by simp) hreg).trans ?_
    by_cases h : windowed p = true ∧ s.portState p ≠ 3
    · rw [if_pos h, if_pos (by simp [h])]
      exact portState_listen_same (by omega) ..
    · rw [if_neg h, if_neg (by simpa using h), State.hf_hubEvt, State.hf_hfSet_apart _ _ _ _ Fld.apart_of_bits,
        State.hf_hfSet_apart _ _ _ _ Fld.apart_of_bits]
      rfl

/-! ### Quarantine ends (R316, R319) -/

theorem holdEnd_rejoins (hq : s.portState p = 2) (hhold : (s.port p).quarAt + 1 + s.hf TRL_QCFG_HOLD ≤ s.net.matrix)
    (hlim : (s.recentRejoins p).length < s.hf TRL_QCFG_REJOIN_LIM) :
    (s.holdEnd p).portState p = 0 ∧ ((s.holdEnd p).port p).after = true := by
  rw [State.holdEnd, if_neg (by simp [hq]; omega), if_neg (by omega)]
  refine ⟨?_, ?_⟩
  · rw [State.portState, State.hf_hubEvt]
    exact portState_listen_same (by omega) ..
  · rw [(hubEvt_eventOnly ..).port, State.listen, State.port_portUpd_same]

theorem holdEnd_holds (hq : s.portState p = 2) (hhold : (s.port p).quarAt + 1 + s.hf TRL_QCFG_HOLD ≤ s.net.matrix)
    (hlim : s.hf TRL_QCFG_REJOIN_LIM ≤ (s.recentRejoins p).length) :
    (s.holdEnd p).portState p = 3 ∧ (s.holdEnd p).hf SW_INT_STAT_HELD = 1 := by
  rw [State.holdEnd, if_neg (by simp [hq]; omega), if_pos hlim]
  refine ⟨?_, ?_⟩
  · rw [State.portState, State.hf_hubEvt, State.hf_hfSet_apart _ _ _ _ Fld.apart_of_reg]
    exact portState_portStateSet_same (by omega) s (by decide)
  · exact (State.hf_hubEvt ..).trans (State.hf_hfSet_same _ _ _ rfl)

end

theorem exec_quarantineHoldEnd {s : State} {p : Nat} (hs : s.hub.supplied = true) (hw : windowed p = true) :
    exec (.quarantineHoldEnd p) s = .next (s.holdEnd p) := if_pos (by simp [hs, hw])

/-- A port of the mask is released when it is held. -/
def State.releaseOne (mask : Nat) (s : State) (q : Nat) : State := if bitOf mask q && decide (s.portState q = 3) then s.listen q true else s

theorem portState_releaseOne (s : State) (mask : Nat) {p q : Nat} (hq : q < 16) : (s.releaseOne mask q).portState p =
    if p = q ∧ bitOf mask p = true ∧ s.portState p = 3 then 0 else s.portState p := by
  unfold State.releaseOne
  by_cases hpq : p = q
  · subst hpq
    by_cases h : bitOf mask p = true ∧ s.portState p = 3
    · rw [if_pos (by simp [h]), if_pos ⟨rfl, h⟩, portState_listen_same hq]
    · rw [if_neg (by simpa using h), if_neg (fun g => h g.2)]
  · simp only [hpq, false_and, if_false]
    split
    · exact portState_listen_other hq s true hpq
    · rfl

theorem portState_release {qs : List Nat} (hqs : ∀ q ∈ qs, q < 16) (s : State) (mask p : Nat) : (qs.foldl (State.releaseOne mask) s).portState p =
    if p ∈ qs ∧ bitOf mask p = true ∧ s.portState p = 3 then 0 else s.portState p := by
  induction qs generalizing s with
  | nil => simp
  | cons q qs ih =>
    rw [List.foldl_cons, ih (fun x hx => hqs x (List.mem_cons_of_mem _ hx)), portState_releaseOne s mask (hqs q List.mem_cons_self)]
    by_cases hpq : p = q
    · by_cases h : bitOf mask p = true ∧ s.portState p = 3
      · simp [hpq, hpq ▸ h]
      · simp only [h, and_false, if_false]
    · simp [hpq]

theorem exec_portReleaseHeld {s : State} {src : Nat} (mask : Nat) (hs : s.hub.supplied = true) (hsrc : 1 ≤ s.sourceLevel src) :
    exec (.portReleaseHeld src mask) s = .next ((List.range 16).foldl (State.releaseOne mask) s) := if_pos (by simp [hs, hsrc])

/-! ### Bank switches and claims (R314, R315) -/

theorem exec_trellisBankSwitch {s : State} (hs : s.hub.supplied = true) : exec .trellisBankSwitch s =
    .next (if s.net.started = true ∧ s.hub.frame % s.basics = 0 ∧ s.switchDue s.hub.frame = true then s.bankSwitch else s) := by
  show execTrellisBankSwitch s = _
  rw [execTrellisBankSwitch]
  by_cases h : s.net.started = true ∧ s.hub.frame % s.basics = 0 ∧ s.switchDue s.hub.frame = true
  · rw [if_pos h, if_pos (by simp [hs, h])]
  · rw [if_neg h, if_neg (by simpa [hs, and_assoc] using h)]

/-- What the network keeps beside its registers is no part of them. -/
theorem hf_netSet (s t : State) (hpde : t.pde = s.pde) (hnet : t.net.regs = s.net.regs) (hcan : t.can = s.can) (htb : t.tb = s.tb)
    (hhub : t.hub = s.hub) (f : Fld) : t.hf f = s.hf f := by
  simp only [State.hf, State.hreg, State.hubRegs, hpde, hnet, hcan, htb, hhub]

/-- No switch of banks is awaited. -/
def State.noSwitch (s : State) : State := { s with net := { s.net with switchAt := none } }

/-- The claimed windows. -/
def State.claimsSet (s : State) (cs : List Nat) : State := { s with net := { s.net with claims := cs } }

@[simp] theorem hf_noSwitch (s : State) (f : Fld) : s.noSwitch.hf f = s.hf f := hf_netSet _ _ rfl rfl rfl rfl rfl f

@[simp] theorem hf_claimsSet (s : State) (cs : List Nat) (f : Fld) : (s.claimsSet cs).hf f = s.hf f := hf_netSet _ _ rfl rfl rfl rfl rfl f

theorem bankSwitch_eq (s : State) : s.bankSwitch =
    ((((((s.hfSet TRL_STATUS_BANK (1 - s.hf TRL_STATUS_BANK)).hfSet TRL_STATUS_PEND 0).hfSet TRL_CFG_B
      ((s.hfSet TRL_STATUS_BANK (1 - s.hf TRL_STATUS_BANK)).hfSet TRL_STATUS_PEND 0).net.nextB).noSwitch.hcount TRL_CNT_SWAPS 1).hfSet
      SW_INT_STAT_SWAP 1).hubEvt 0x4110 [(1, 1 - s.hf TRL_STATUS_BANK),
        (6, (((s.hfSet TRL_STATUS_BANK (1 - s.hf TRL_STATUS_BANK)).hfSet TRL_STATUS_PEND 0).hfSet TRL_CFG_B
          ((s.hfSet TRL_STATUS_BANK (1 - s.hf TRL_STATUS_BANK)).hfSet TRL_STATUS_PEND 0).net.nextB).noSwitch.hub.frame)]) := rfl

theorem bankSwitch_switches (s : State) : s.bankSwitch.hf TRL_STATUS_BANK = 1 - s.hf TRL_STATUS_BANK ∧ s.bankSwitch.hf TRL_STATUS_PEND = 0 ∧
    s.bankSwitch.net.switchAt = none ∧ s.bankSwitch.hf TRL_CNT_SWAPS = satAdd 0xFFFF (s.hf TRL_CNT_SWAPS) 1 := by
  rw [bankSwitch_eq]
  refine ⟨?_, ?_, ?_, ?_⟩
  · rw [State.hf_hubEvt, State.hf_hfSet_apart _ _ _ _ rfl, State.hf_hcount_apart _ _ _ _ rfl, hf_noSwitch,
      State.hf_hfSet_apart _ _ _ _ rfl, State.hf_hfSet_apart _ _ _ _ rfl, State.hf_hfSet_same _ _ _ rfl]
    exact Nat.mod_eq_of_lt (Nat.lt_succ_of_le (Nat.sub_le ..))
  · rw [State.hf_hubEvt, State.hf_hfSet_apart _ _ _ _ rfl, State.hf_hcount_apart _ _ _ _ rfl, hf_noSwitch,
      State.hf_hfSet_apart _ _ _ _ rfl, State.hf_hfSet_same _ _ _ rfl, Nat.zero_mod]
  · rw [(hubEvt_eventOnly ..).net]
    rfl
  · rw [State.hf_hubEvt, State.hf_hfSet_apart _ _ _ _ rfl, State.hf_hcount_same _ _ _ rfl, hf_noSwitch,
      State.hf_hfSet_apart _ _ _ _ rfl, State.hf_hfSet_apart _ _ _ _ rfl, State.hf_hfSet_apart _ _ _ _ rfl]
    rfl

theorem claims_otherBankSet (s : State) (t : List Byte) : (s.otherBankSet t).net.claims = s.net.claims := by
  unfold State.otherBankSet
  split <;> rfl

theorem hf_otherBankSet (s : State) (t : List Byte) (f : Fld) : (s.otherBankSet t).hf f = s.hf f := by
  unfold State.otherBankSet
  split
  · exact hf_netSet _ _ rfl rfl rfl rfl rfl f
  · exact hf_netSet _ _ rfl rfl rfl rfl rfl f

theorem claims_awaitSwitch (s : State) (at? : Option Nat) (b : Nat) :
    ({ s with net := { s.net with switchAt := at?, nextB := b } } : State).net.claims = s.net.claims := rfl

theorem hf_awaitSwitch (s : State) (at? : Option Nat) (b : Nat) (f : Fld) :
    ({ s with net := { s.net with switchAt := at?, nextB := b } } : State).hf f = s.hf f := hf_netSet _ _ rfl rfl rfl rfl rfl f

/-- A new trellis touches no claim, and of the registers only the pending switch. -/
theorem claims_newTrellis (s : State) (t : List Byte) (b : Nat) : (s.newTrellis t b).net.claims = s.net.claims := by
  have h : ((s.otherBankSet t).hfSet TRL_STATUS_PEND 1).net.claims = s.net.claims := by
    rw [State.hfSet, State.hregSet_net_claims, claims_otherBankSet]
  unfold State.newTrellis
  exact (claims_awaitSwitch ..).trans h

theorem hf_newTrellis (s : State) (t : List Byte) (b : Nat) {f : Fld} (h : TRL_STATUS_PEND.apart f = true) :
    (s.newTrellis t b).hf f = s.hf f := by
  have h : ((s.otherBankSet t).hfSet TRL_STATUS_PEND 1).hf f = s.hf f := by rw [State.hf_hfSet_apart _ _ _ _ h, hf_otherBankSet]
  unfold State.newTrellis
  exact (hf_awaitSwitch ..).trans h

theorem claims_putWindow (s : State) (b w : Nat) (e : Win) : (s.putWindow b w e).net.claims = s.net.claims := claims_newTrellis ..

theorem hf_putWindow (s : State) (b w : Nat) (e : Win) {f : Fld} (h : TRL_STATUS_PEND.apart f = true) : (s.putWindow b w e).hf f = s.hf f :=
  hf_newTrellis _ _ _ h

/-- An accepted claim: the window is put, it enters the claims, and it is counted and recorded. -/
theorem claim_eq {s : State} {v : Nat} (hok : s.claimOk (bitsOf v 29 24) (bitsOf v 20 16) (bitsOf v 8 0) = true) : ∃ e parts,
    (s.claim v).1 = (((s.putWindow (bitsOf v 29 24) (bitsOf v 20 16) e).claimsSet ((32 * bitsOf v 29 24 + bitsOf v 20 16) ::
      (s.putWindow (bitsOf v 29 24) (bitsOf v 20 16) e).net.claims)).hcount TRL_CNT_CLAIMS 1).hubEvt 0x4111 parts := by
  rw [State.claim, if_pos hok]
  exact ⟨_, _, rfl⟩

section
variable {s : State} {src v : Nat} (hs : s.hub.supplied = true) (hsrc : 1 ≤ s.sourceLevel src)
include hs hsrc

theorem exec_windowClaim : exec (.windowClaim src v) s = .next (s.claim v).1 := if_pos (by simp [hs, hsrc])

theorem exec_windowRelease : exec (.windowRelease src v) s = .next (s.releaseWindow v).1 := if_pos (by simp [hs, hsrc])

end

/-- An accepted claim enters the claims and is counted. -/
theorem claim_accepted {s : State} {v : Nat} (hok : s.claimOk (bitsOf v 29 24) (bitsOf v 20 16) (bitsOf v 8 0) = true) :
    (s.claim v).1.net.claims = (32 * bitsOf v 29 24 + bitsOf v 20 16) :: s.net.claims ∧
      (s.claim v).1.hf TRL_CNT_CLAIMS = satAdd 0xFFFF (s.hf TRL_CNT_CLAIMS) 1 := by
  obtain ⟨e, parts, heq⟩ := claim_eq hok
  rw [heq]
  refine ⟨?_, ?_⟩
  · rw [(hubEvt_eventOnly ..).net, State.hcount, State.hfSet, State.hregSet_net_claims, State.claimsSet, claims_putWindow]
  · rw [State.hf_hubEvt, State.hf_hcount_same _ _ _ rfl, hf_claimsSet, hf_putWindow _ _ _ _ rfl]
    rfl

/-- A refused claim is recorded. -/
theorem claim_refused {s : State} {v : Nat} (hok : s.claimOk (bitsOf v 29 24) (bitsOf v 20 16) (bitsOf v 8 0) = false) :
    EventOnly s (s.claim v).1 := by
  rw [State.claim, if_neg (by simp [hok])]
  exact hubEvt_eventOnly ..

theorem releaseWindow_claimed {s : State} {v : Nat} (h : 32 * bitsOf v 29 24 + bitsOf v 20 16 ∈ s.net.claims) :
    (s.releaseWindow v).1.net.claims = s.net.claims.filter (· ≠ 32 * bitsOf v 29 24 + bitsOf v 20 16) := by
  rw [State.releaseWindow, if_pos (List.contains_iff_mem.mpr h), (hubEvt_eventOnly ..).net]
  exact congrArg (List.filter _) (claims_putWindow ..)

theorem releaseWindow_unclaimed {s : State} {v : Nat} (h : 32 * bitsOf v 29 24 + bitsOf v 20 16 ∉ s.net.claims) : (s.releaseWindow v).1 = s := by
  rw [State.releaseWindow, if_neg (fun g => h (List.contains_iff_mem.mp g))]

/-- Settles O31: the port clauses by the rules of a port's state, the others by those of the trellis. -/
theorem portsAndTrellis : Obligations.PortsAndTrellis := by
  unfold Obligations.PortsAndTrellis
  refine ⟨fun s p hs hp => ⟨fun speed hon hok => portLinkUp_shows hp hs hon hok,
    fun hl => ⟨_, exec_portLinkDown hp hs hl, portDown_shows hp⟩, fun hw hq hhold => ⟨fun hlim => ?_, fun hlim => ?_⟩,
    fun src mask => ⟨fun hsrc => ⟨_, exec_portReleaseHeld mask hs hsrc, ?_⟩, fun hsrc => if_neg (by simp [hsrc])⟩⟩,
    fun s hs => ⟨fun hst hb hd => ?_, fun h => ?_, fun src v k hsrc hk => ?_, fun src v hsrc => ⟨if_neg (by simp [hsrc]), if_neg (by simp [hsrc])⟩⟩⟩
  · exact ⟨_, exec_quarantineHoldEnd hs hw, holdEnd_rejoins hp hq hhold hlim⟩
  · exact ⟨_, exec_quarantineHoldEnd hs hw, holdEnd_holds hp hq hhold hlim⟩
  · rw [portState_release (fun q hq => List.mem_range.mp hq)]
    simp [show p < 16 by omega]
  · refine ⟨_, (exec_trellisBankSwitch hs).trans (by rw [if_pos ⟨hst, hb, hd⟩]), bankSwitch_switches s⟩
  · rw [exec_trellisBankSwitch hs, if_neg]
    rintro ⟨hst, hb, hd⟩
    rcases h with h | h | h <;> simp_all
  · subst hk
    refine ⟨fun hok => ⟨_, exec_windowClaim hs hsrc, claim_accepted hok⟩, fun hok => ⟨_, exec_windowClaim hs hsrc, claim_refused hok⟩,
      fun hmem => ⟨_, exec_windowRelease hs hsrc, ?_, fun j hj => ?_⟩, fun hmem => ?_⟩
    · rw [releaseWindow_claimed hmem]
      simp
    · rw [releaseWindow_claimed hmem]
      simp [hj]
    · rw [exec_windowRelease hs hsrc, releaseWindow_unclaimed hmem]

end Sys2Proof.Machine

/-! Ethernet frames: reception under the trellis, forwarding, and the egress queues (11 R304 to R321). -/

namespace Sys2Proof.Machine

-- One proof after another: proofs that wait side by side each keep a stack, and many of them exceed the memory of a check.
set_option Elab.async false

/-- The network's registers are the network's. -/
theorem hf_of_net {s t : State} (h : t.net.regs = s.net.regs) {f : Fld}
    (hf : 0x50100000 ≤ f.reg ∧ f.reg < 0x50200000 := by dsimp only; omega) : t.hf f = s.hf f := by
  have hblock : hubBlock f.reg = .net := by rw [hubBlock, if_neg (by omega), if_pos (by omega)]
  simp only [State.hf, State.hreg, State.hubRegs, hblock, h]

/-! ### What reaches the engine leaves the network alone -/

theorem throttle_net (s : State) (p : Nat) : (s.throttle p).net = s.net := by
  unfold State.throttle
  dsimp only
  split
  · rfl
  · exact (hubEvtP_eventOnly ..).net

theorem clientViolation_net (s : State) (addr : List Byte) (code : Nat) (parts : List (Nat × Nat)) :
    (s.clientViolation addr code parts).net = s.net := by
  unfold State.clientViolation
  dsimp only
  rw [throttle_net, (violation_eventOnly ..).net]
  split
  · rfl
  · split <;> rfl

theorem streamChan_lt {s : State} {p h c : Nat} (hc : s.streamChan p h = some c) : c < 192 :=
  List.mem_range.mp (List.mem_of_find?_eq_some hc)

theorem toEngine_net (s : State) (p h : Nat) (b : List Byte) : (s.toEngine p h b).net = s.net := by
  unfold State.toEngine
  split
  · rfl
  next c hc =>
    have hitem : (s.itemFor c b).net = s.net := (EngineOnly.itemFor (streamChan_lt hc) (.refl c s)).net
    split
    · exact hitem
    · split
      · exact hitem
      · exact (violation_eventOnly ..).net
      · exact (violation_eventOnly ..).net
    · dsimp only
      split
      · rfl
      · split
        · rfl
        · split
          · exact hitem
          · exact clientViolation_net ..
          · exact clientViolation_net ..

/-! ### Forwarding (R304, R306, R307) -/

/-- A port's count of received frames stands, and so does its mark of a good frame. -/
structure PortCounted (p : Nat) (s t : State) : Prop where
  rx : t.hf (SW_PCNT_RX p) = s.hf (SW_PCNT_RX p)
  ok : (t.port p).ok = (s.port p).ok

namespace PortCounted

variable {p : Nat} {s t u : State}

theorem refl (p : Nat) (s : State) : PortCounted p s s := ⟨rfl, rfl⟩

theorem trans (h : PortCounted p s t) (g : PortCounted p t u) : PortCounted p s u := ⟨g.rx.trans h.rx, g.ok.trans h.ok⟩

theorem of_net (hp : p < 12) (hregs : t.net.regs = s.net.regs) (hports : t.net.ports = s.net.ports) : PortCounted p s t :=
  ⟨hf_of_net hregs, by rw [port_congr hports]⟩

theorem hcount {f : Fld} {n : Nat} (h : f.apart (SW_PCNT_RX p) = true) : PortCounted p s (s.hcount f n) :=
  ⟨State.hf_hcount_apart _ _ _ _ h, by rw [port_hcount]⟩

theorem hfSet {f : Fld} {n : Nat} (h : f.apart (SW_PCNT_RX p) = true) : PortCounted p s (s.hfSet f n) :=
  ⟨State.hf_hfSet_apart _ _ _ _ h, by rw [port_hfSet]⟩

theorem event (h : EventOnly s t) : PortCounted p s t := ⟨h.hf _, by rw [h.port]⟩

theorem portUpd {f : PortSt → PortSt} (h : ∀ x, (f x).ok = x.ok) : PortCounted p s (s.portUpd p f) :=
  ⟨State.hf_portUpd .., by rw [State.port_portUpd_same, h]⟩

/-- Queueing a frame at any port marks none. -/
theorem enqueueAt (hp : p < 12) (e q raw : Nat) (b : List Byte) : PortCounted p s (s.enqueueAt e q raw b) := by
  refine ⟨hf_of_net rfl, ?_⟩
  unfold State.enqueueAt State.port
  by_cases h : p = e
  · subst h
    rw [mapGet_mapSet_same]
  · rw [mapGet_mapSet_other _ _ _ h]

theorem recoverStep (hp : p < 12) (b : List Byte) : PortCounted p s (s.recoverStep b).1 := by
  unfold State.recoverStep
  dsimp only
  split
  · exact .of_net hp rfl rfl
  · split
    · exact .of_net hp rfl rfl
    · split
      · exact .refl p s
      · split
        · exact .of_net hp rfl rfl
        · split
          · exact .refl p s
          · exact .of_net hp rfl rfl

theorem toEngine (hp : p < 12) (h : Nat) (b : List Byte) : PortCounted p s (s.toEngine p h b) :=
  .of_net hp (by rw [toEngine_net]) (by rw [toEngine_net])

theorem ite {c : Prop} [Decidable c] (h : PortCounted p s t) (g : PortCounted p s u) : PortCounted p s (if c then t else u) := by
  split
  · exact h
  · exact g

theorem foldl {α : Type} {f : State → α → State} {xs : List α} (hf : ∀ t, ∀ x ∈ xs, PortCounted p t (f t x)) :
    PortCounted p s (xs.foldl f s) := by
  induction xs generalizing s with
  | nil => exact .refl p s
  | cons x xs ih => exact (hf s x List.mem_cons_self).trans (ih (fun t y hy => hf t y (List.mem_cons_of_mem _ hy)))

/-- Drawing the tag of a stream that generates them. -/
theorem tagged (hp : p < 12) {c : Prop} [Decidable c] {h : Nat} :
    PortCounted p s (if c then (some (s.rtagNext h).1, (s.rtagNext h).2) else (none, s)).2 := by
  split
  · exact .of_net hp rfl rfl
  · exact .refl p s

/-- Queueing copies of a frame at its egress ports, or counting them where the queue is full. -/
theorem copies (hp : p < 12) {mask full q raw : Nat} {es : List Nat} {copy : Nat → List Byte} (g : PortCounted p s t) :
    PortCounted p s (es.foldl (fun s e => if !bitOf mask e then s else if bitOf full e then s.hcount (SW_PCNT_DROP_QUEUE e) 1
      else s.enqueueAt e q raw (copy e)) t) := by
  refine g.trans (.foldl fun u e _ => ?_)
  split
  · exact .refl p u
  · split
    · exact .hcount Fld.apart_of_reg
    · exact .enqueueAt hp ..

/-- A frame of a stream arrives, and goes to the engine where it is meant for it. -/
theorem arrives (hp : p < 12) {c : Prop} [Decidable c] {h : Nat} {sfd : Int} {b : List Byte} (g : PortCounted p s t) :
    PortCounted p s (if c then (t.arrives h sfd).toEngine p h b else t.arrives h sfd) := by
  have harrives : PortCounted p s (t.arrives h sfd) := g.trans (.of_net hp rfl rfl)
  exact .ite (harrives.trans (.toEngine hp h b)) harrives

end PortCounted

/-- A forwarded frame is counted as received, whatever becomes of it. -/
theorem forward_counted {p : Nat} (hp : p < 12) (s : State) (h : Option Nat) (sfd : Int) (full : Nat) (b : List Byte) :
    PortCounted p (s.hcount (SW_PCNT_RX p) 1) (s.forward p h sfd full b) := by
  unfold State.forward
  dsimp only
  cases h with
  | none =>
    dsimp only
    split
    · exact .of_net hp rfl rfl
    · exact .refl p _
  | some h =>
    dsimp only
    split
    · split
      · exact .recoverStep hp b
      · exact (PortCounted.recoverStep hp b).trans ((PortCounted.tagged hp).copies hp |>.arrives hp)
    · split
      · exact .refl p _
      · exact (PortCounted.tagged hp).copies hp |>.arrives hp

theorem forward_received {p : Nat} (hp : p < 12) (s : State) (h : Option Nat) (sfd : Int) (full : Nat) (b : List Byte) :
    (s.forward p h sfd full b).hf (SW_PCNT_RX p) = satAdd 0xFFFFFFFF (s.hf (SW_PCNT_RX p)) 1 :=
  (forward_counted hp s h sfd full b).rx.trans (State.hf_hcount_same _ _ _ rfl)

/-! ### Violations (R313, R316) -/

theorem portViol_open {s : State} {p : Nat} (k : Viol) (w : Nat) (hw : windowed p = false) :
    s.portViol p k w = s.hcount (violField p k) 1 := by
  rw [State.portViol, hw]
  rfl

/-- The counter of a violation stands in a register of its own port. -/
theorem violField_apart {p : Nat} (k : Viol) {f : Fld} (h : f.ok = true) (hr : 0x50100010 + 0x40 * p ≠ f.reg) :
    f.apart (violField p k) = true := by
  cases k <;> exact Fld.apart_of_reg h (by simp [violField]) (by simpa [violField] using fun g => hr g.symm)

/-- What a violation of a port has counted and marked stands, and no frame leaves. -/
structure ViolShown (p : Nat) (k : Viol) (s t : State) : Prop where
  tx : t.tx = s.tx
  viol : (t.port p).viol = (s.port p).viol
  count : t.hf (violField p k) = s.hf (violField p k)

theorem ViolShown.trans {p : Nat} {k : Viol} {s t u : State} (h : ViolShown p k s t) (g : ViolShown p k t u) : ViolShown p k s u :=
  ⟨g.tx.trans h.tx, g.viol.trans h.viol, g.count.trans h.count⟩

theorem bucket_shown {p : Nat} (k : Viol) (s : State) (n : Nat) : ViolShown p k s (s.hfSet (SW_PSTAT_BUCKET p) n) where
  tx := State.hfSet_tx ..
  viol := by rw [port_hfSet]
  count := State.hf_hfSet_apart _ _ _ _ (violField_apart k rfl (by dsimp only; omega))

section
variable {p : Nat} (hp : p < 12) (k : Viol)
include hp

theorem quarantine_shown (s : State) : ViolShown p k s (s.quarantine p k) where
  tx := by
    rw [State.quarantine, State.hubEvt_tx, State.hfSet_tx, State.portUpd_tx, State.portStateSet, State.hfSet_tx, State.hfSet_tx, State.hfSet_tx]
  viol := by
    rw [State.quarantine, (hubEvt_eventOnly ..).port, port_hfSet, State.port_portUpd_same, port_portStateSet]
  count := by
    rw [State.quarantine, State.hf_hubEvt, State.hf_hfSet_apart _ _ _ _ (violField_apart k rfl (by dsimp only; omega)), State.hf_portUpd]
    refine hf_portStateSet (by omega) s 2 ?_ (violField_apart k rfl (by dsimp only; omega)) ?_
    · cases k <;> simp [violField]
    · cases k <;> (dsimp only [violField]; omega)

theorem portViol_shown {s : State} (w : Nat) (hw : windowed p = true) : ∃ code parts,
    ViolShown p k (((s.hcount (violField p k) 1).violation (p + 1) code parts).portUpd p (fun x => { x with viol := true })) (s.portViol p k w) := by
  rw [State.portViol, hw]
  refine ⟨0x3010 + k.num, [(1, p), (1, (s.hcount (violField p k) 1).hub.frame % (s.hcount (violField p k) 1).basics), (1, w)], ?_⟩
  dsimp only
  rw [if_neg (by simp)]
  split
  · exact ⟨rfl, rfl, rfl⟩
  · split
    · exact (bucket_shown k _ _).trans (quarantine_shown hp k _)
    · exact bucket_shown k _ _

/-- A violation of a windowed port is counted and marks the port; no frame leaves. -/
theorem portViol_windowed (s : State) (w : Nat) (hw : windowed p = true) :
    ((s.portViol p k w).port p).viol = true ∧ (s.portViol p k w).tx = s.tx ∧
      (s.portViol p k w).hf (violField p k) = satAdd 0xFF (s.hf (violField p k)) 1 := by
  have hcount : (s.hcount (violField p k) 1).hf (violField p k) = satAdd 0xFF (s.hf (violField p k)) 1 := by
    cases k <;> exact State.hf_hcount_same _ _ _ rfl
  obtain ⟨code, parts, h⟩ := portViol_shown hp k (s := s) w hw
  refine ⟨h.viol.trans (by rw [State.port_portUpd_same]), h.tx.trans ?_, h.count.trans ?_⟩
  · rw [State.portUpd_tx, (violation_eventOnly ..).tx, State.hcount_tx]
  · rw [State.hf_portUpd, (violation_eventOnly ..).hf, hcount]

end

/-! ### Reception (R304, R312, R313) -/

section
variable {s : State} {p : Nat} {f : EthFrame} (hs : s.hub.supplied = true) (hp : p < 12) (hl : s.hf (SW_PSTAT_LINK p) = 1)
include hs hp hl

/-- A frame that is none of the time base, on a port without windows. -/
theorem exec_frameReceive_open (hw : windowed p = false) (hptp : f.bytes.take 6 ≠ ptpAddress) : exec (.frameReceive p f) s =
    if f.fcsOk = false ∨ f.bytes.length + 4 < 64 ∨ 1536 < f.bytes.length + 4 then .next (s.portViol p .fcs 0)
    else if s.streamOf p f.bytes = none ∧ s.ownAddress (f.bytes.take 6) = false ∧ f.bytes.take 6 ≠ broadcast then
      .next (s.hcount (SW_PCNT_DROP_UNMATCHED p) 1)
    else .next (s.forward p (s.streamOf p f.bytes) f.sfd f.full f.bytes) := by
  show execFrameReceive p f s = _
  rw [execFrameReceive, if_neg (by simp [hs, hl]; omega), if_neg (by simp [hptp]), if_pos (by simp [hw])]
  simp

/-- Before the first marker, and in quarantine, no check is made on a windowed port. -/
theorem exec_frameReceive_idle (hw : windowed p = true) (hst : s.net.started = false) (hptp : f.bytes.take 6 ≠ ptpAddress) :
    exec (.frameReceive p f) s = .next (s.hcount (SW_PCNT_DROP_UNMATCHED p) 1) := by
  show execFrameReceive p f s = _
  rw [execFrameReceive, if_neg (by simp [hs, hl]; omega), if_neg (by simp [hptp]), if_neg (by simp [hw]), if_pos (by simp [hst])]

theorem exec_frameReceive_quarantined (hw : windowed p = true) (hst : s.net.started = true) (ht : s.trellis ≠ [])
    (hq : 2 ≤ s.portState p) (hptp : f.bytes.take 6 ≠ ptpAddress) : exec (.frameReceive p f) s = .next s := by
  show execFrameReceive p f s = _
  rw [execFrameReceive, if_neg (by simp [hs, hl]; omega), if_neg (by simp [hptp]), if_neg (by simp [hw]), if_neg (by simp [hst, ht]),
    if_pos hq]

theorem exec_frameReceive_violation (hw : windowed p = true) (hst : s.net.started = true) (ht : s.trellis ≠ [])
    (hq : s.portState p ≤ 1) (hptp : f.bytes.take 6 ≠ ptpAddress) {k : Viol} {w : Nat}
    (hv : s.verdictOf p (s.streamOf p f.bytes) (s.isHarvest p f.bytes) f = (.inl k, w)) :
    exec (.frameReceive p f) s = .next (s.portViol p k w) := by
  show execFrameReceive p f s = _
  rw [execFrameReceive, if_neg (by simp [hs, hl]; omega), if_neg (by simp [hptp]), if_neg (by simp [hw]), if_neg (by simp [hst, ht]),
    if_neg (by omega)]
  dsimp only
  rw [hv]

/-- A frame close to its window's border: it is counted, and the first one is recorded (R313). -/
def State.nearShown (s : State) (p ofs : Nat) : State :=
  let t := ((s.hcount (TRL_PNEAR p) 1).hfSet SW_INT_STAT_NEAR 1).portUpd p (fun x => { x with near := true })
  if !(s.port p).near && !(s.port p).nearLast then t.hubEvt 0x4105 [(1, p), (4, ofs)] else t

/-- A frame of a stream that its window admits marks the port good and is forwarded. -/
theorem exec_frameReceive_admitted (hw : windowed p = true) (hst : s.net.started = true) (ht : s.trellis ≠ [])
    (hq : s.portState p = 1) (hptp : f.bytes.take 6 ≠ ptpAddress) {h w ofs : Nat} {near : Bool} (hstream : s.streamOf p f.bytes = some h)
    (hharvest : s.isHarvest p f.bytes = false) (hv : s.verdictOf p (some h) false f = (.inr (near, ofs), w)) : ∃ used,
    exec (.frameReceive p f) s = .next ((if near then (s.portUpd p (fun x => { x with ok := true, used := used })).nearShown p ofs
      else s.portUpd p (fun x => { x with ok := true, used := used })).forward p (some h) f.sfd f.full f.bytes) := by
  show ∃ used, execFrameReceive p f s = _
  rw [execFrameReceive, if_neg (by simp [hs, hl]; omega), if_neg (by simp [hptp]), if_neg (by simp [hw]), if_neg (by simp [hst, ht]),
    if_neg (by omega)]
  dsimp only
  rw [hharvest, hstream, hv]
  dsimp only
  rw [if_neg (by simpa [State.portState] using hq), if_neg (by simp), if_neg (by simp)]
  exact ⟨_, rfl⟩

end

theorem nearShown_counted {p : Nat} (hp : p < 12) (s : State) (ofs : Nat) : PortCounted p s (s.nearShown p ofs) := by
  have hmark : PortCounted p s (((s.hcount (TRL_PNEAR p) 1).hfSet SW_INT_STAT_NEAR 1).portUpd p (fun x => { x with near := true })) :=
    ((PortCounted.hcount Fld.apart_of_reg).trans (.hfSet Fld.apart_of_reg)).trans (.portUpd fun _ => rfl)
  exact .ite (hmark.trans (.event (hubEvt_eventOnly ..))) hmark

/-- An admitted frame is counted as received and marks its port good. -/
theorem admitted_received {p : Nat} (hp : p < 12) (s : State) {h ofs full : Nat} {near : Bool} {used : Nat × Nat × Nat} {sfd : Int} {b : List Byte} :
    PortCounted p ((s.portUpd p (fun x => { x with ok := true, used := used })).hcount (SW_PCNT_RX p) 1)
      ((if near then (s.portUpd p (fun x => { x with ok := true, used := used })).nearShown p ofs
        else s.portUpd p (fun x => { x with ok := true, used := used })).forward p (some h) sfd full b) := by
  have hnear : PortCounted p (s.portUpd p (fun x => { x with ok := true, used := used }))
      (if near then (s.portUpd p (fun x => { x with ok := true, used := used })).nearShown p ofs
        else s.portUpd p (fun x => { x with ok := true, used := used })) := .ite (nearShown_counted hp _ _) (.refl p _)
  refine .trans ⟨?_, ?_⟩ (forward_counted hp _ _ _ _ _)
  · rw [State.hf_hcount_same _ _ _ rfl, State.hf_hcount_same _ _ _ rfl, hnear.rx]
  · rw [port_hcount, port_hcount, hnear.ok]

/-! ### Egress (R310, R312) -/

/-- Whether the first frame of a queue may start. -/
def State.headMayStart (s : State) (p now q : Nat) : Bool :=
  match mapGet [] (s.port p).queues q with
  | b :: _ => s.mayStart p q now b.2
  | [] => false

theorem headMayStart_cons {s : State} {p now q : Nat} {f : Nat × List Byte} {fs : List (Nat × List Byte)}
    (h : mapGet [] (s.port p).queues q = f :: fs) : s.headMayStart p now q = s.mayStart p q now f.2 := by rw [State.headMayStart, h]

theorem headMayStart_eq_false {s : State} {p now q : Nat}
    (h : ∀ g gs, mapGet [] (s.port p).queues q = g :: gs → s.mayStart p q now g.2 = false) : s.headMayStart p now q = false := by
  cases hq : mapGet [] (s.port p).queues q with
  | nil => rw [State.headMayStart, hq]
  | cons g gs => rw [headMayStart_cons hq, h g gs hq]

/-- The highest queue that may start is the first of them found. -/
theorem find_highest {f : Nat → Bool} {q : Nat} (hq : q < 8) (hf : f q = true) (h : ∀ k, q < k → k < 8 → f k = false) :
    [7, 6, 5, 4, 3, 2, 1, 0].find? f = some q := by
  interval_cases q <;> simp [hf, h]

theorem correct_keeps (s : State) (rawI rawE : Nat) (b : List Byte) : (s.correct rawI rawE b).1.net = s.net ∧ (s.correct rawI rawE b).1.tx = s.tx := by
  unfold State.correct
  split
  · exact ⟨rfl, rfl⟩
  · dsimp only
    split
    · split <;> exact ⟨rfl, rfl⟩
    · split
      · exact ⟨rfl, rfl⟩
      · split
        · exact ⟨rfl, State.hcount_tx ..⟩
        · exact ⟨rfl, rfl⟩

/-- The first frame of a queue leaves its port. -/
def State.sendHead (s : State) (p now q : Nat) : State :=
  let fs := mapGet [] (s.port p).queues q
  let s := s.portUpd p (fun x => { x with queues := mapSet [] x.queues q (fs.drop 1) })
  let f := fs.headD (0, [])
  let r := s.correct f.1 (s.tb.edgeRaw + 8 * now) f.2
  (r.1.hcount (SW_PCNT_TX p) 1).emit .ethernet p q r.2

theorem exec_frameEgress {s : State} {p : Nat} (now : Nat) (hs : s.hub.supplied = true) (hp : p < 12) (hl : s.hf (SW_PSTAT_LINK p) = 1) :
    exec (.frameEgress p now) s = (match [7, 6, 5, 4, 3, 2, 1, 0].find? (s.headMayStart p now) with
      | none => .next s
      | some q => .next (s.sendHead p now q)) := by
  show execFrameEgress p now s = _
  rw [execFrameEgress, if_neg (by simp [hs, hl]; omega)]
  rfl

theorem sendHead_sends {s : State} {p q now : Nat} {f : Nat × List Byte} {fs : List (Nat × List Byte)} (hp : p < 12)
    (hq : mapGet [] (s.port p).queues q = f :: fs) : ∃ b, mapGet [] ((s.sendHead p now q).port p).queues q = fs ∧
      (s.sendHead p now q).tx = ⟨.ethernet, p, q, b⟩ :: s.tx ∧
      (s.sendHead p now q).hf (SW_PCNT_TX p) = satAdd 0xFFFFFFFF (s.hf (SW_PCNT_TX p)) 1 := by
  unfold State.sendHead
  rw [hq]
  extract_lets fs' u f' r
  obtain ⟨hnet, htx⟩ : r.1.net = u.net ∧ r.1.tx = u.tx := correct_keeps ..
  refine ⟨r.2, ?_, ?_, ?_⟩
  · have hport : ((r.1.hcount (SW_PCNT_TX p) 1).emit .ethernet p q r.2).port p = u.port p :=
      (port_hcount ..).trans (port_congr (by rw [hnet]) p)
    rw [hport, State.port_portUpd_same]
    exact mapGet_mapSet_same ..
  · rw [State.emit_tx, State.hcount_tx, htx]
    rfl
  · have hcount : r.1.hf (SW_PCNT_TX p) = s.hf (SW_PCNT_TX p) := (hf_of_net (by rw [hnet])).trans (State.hf_portUpd ..)
    exact (State.hf_hcount_same _ _ _ rfl).trans (by rw [hcount]; rfl)

/-- Settles O32: reception by the cases of a port and the verdict on the frame, egress by the highest queue that may start. -/
theorem framesReceivedAndSent : Obligations.FramesReceivedAndSent := by
  unfold Obligations.FramesReceivedAndSent
  intro s p hs hp hl
  refine ⟨fun f hptp hw => ⟨fun hok hmin hmax => ⟨fun hmine => ?_, fun hnone hown hbc => ?_⟩, fun hbad => ?_⟩,
    fun f hptp hw => ⟨fun hst => exec_frameReceive_idle hs hp hl hw hst hptp, fun hst ht hq => exec_frameReceive_quarantined hs hp hl hw hst ht hq hptp,
      fun h near ofs w hst ht hq hstream hharvest hv => ?_, fun h k w hst ht hq hstream hv => ?_⟩, fun now q f fs hq hfs hmay hhigh => ?_,
    fun now hnone => ?_⟩
  · rw [exec_frameReceive_open hs hp hl hw hptp, if_neg (by simp [hok]; omega), if_neg]
    · exact ⟨_, rfl, forward_received hp ..⟩
    · rintro ⟨h1, h2, h3⟩
      simp [h1, h2, h3] at hmine
  · rw [exec_frameReceive_open hs hp hl hw hptp, if_neg (by simp [hok]; omega), if_pos ⟨hnone, hown, hbc⟩]
  · rw [exec_frameReceive_open hs hp hl hw hptp, if_pos (.inl hbad), portViol_open _ _ hw]
    rfl
  · obtain ⟨used, hexec⟩ := exec_frameReceive_admitted hs hp hl hw hst ht hq hptp hstream hharvest hv
    have hcounted := admitted_received hp s (h := h) (ofs := ofs) (full := f.full) (near := near) (used := used) (sfd := f.sfd) (b := f.bytes)
    refine ⟨_, hexec, hcounted.ok.trans ?_, hcounted.rx.trans ?_⟩
    · rw [port_hcount, State.port_portUpd_same]
    · rw [State.hf_hcount_same _ _ _ rfl, State.hf_portUpd]
      rfl
  · subst hstream
    exact ⟨_, exec_frameReceive_violation hs hp hl hw hst ht hq hptp hv, portViol_windowed hp k s w hw⟩
  · have hfind := find_highest (f := s.headMayStart p now) hq ((headMayStart_cons hfs).trans hmay)
      (fun k hk hk8 => headMayStart_eq_false fun g gs hg => hhigh k g gs hk hk8 hg)
    obtain ⟨b, h⟩ := sendHead_sends (now := now) hp hfs
    exact ⟨_, b, by rw [exec_frameEgress now hs hp hl, hfind], h⟩
  · have hfalse (q : Nat) (hq : q < 8) : s.headMayStart p now q = false := headMayStart_eq_false fun g gs hg => hnone q g gs hq hg
    rw [exec_frameEgress now hs hp hl, List.find?_eq_none.mpr (by simp [hfalse])]

end Sys2Proof.Machine

/-! The CAN channels: what an operation on one leaves of everything else, and how a received frame finds its mailbox (12 R339 to R342,
R355). -/

namespace Sys2Proof.Machine

-- One proof after another: proofs that wait side by side each keep a stack, and many of them exceed the memory of a check.
set_option Elab.async false

/-- `t` is `s` but for registers in `w`, what the CAN channels hold beside their registers, counts, and what recording events writes. -/
structure CanOnly (w : Nat → Prop) (s t : State) : Prop where
  pde : t.pde = s.pde
  hub : t.hub = s.hub
  tx : t.tx = s.tx
  objBytes : ∀ i j, t.objBytes i j = s.objBytes i j
  reg : ∀ a, ¬w a → t.hreg a = s.hreg a
  supplied : ∀ l, (t.lane l).supplied = (s.lane l).supplied
  lf : ∀ l f, eventReg f.reg = false → t.lf l f = s.lf l f

namespace CanOnly

variable {w : Nat → Prop} {s t u : State}

theorem refl (w : Nat → Prop) (s : State) : CanOnly w s s :=
  ⟨rfl, rfl, rfl, fun _ _ => rfl, fun _ _ => rfl, fun _ => rfl, fun _ _ _ => rfl⟩

theorem trans (h : CanOnly w s t) (g : CanOnly w t u) : CanOnly w s u where
  pde := g.pde.trans h.pde
  hub := g.hub.trans h.hub
  tx := g.tx.trans h.tx
  objBytes i j := (g.objBytes i j).trans (h.objBytes i j)
  reg a ha := (g.reg a ha).trans (h.reg a ha)
  supplied l := (g.supplied l).trans (h.supplied l)
  lf l f hf := (g.lf l f hf).trans (h.lf l f hf)

theorem ite {p : Prop} [Decidable p] (h : CanOnly w s t) (g : CanOnly w s u) : CanOnly w s (if p then t else u) := by
  split
  · exact h
  · exact g

/-- A field outside `w` reads as before. -/
theorem hf (h : CanOnly w s t) {f : Fld} (hf : ¬w f.reg) : t.hf f = s.hf f := congrArg (fldGet f) (h.reg _ hf)

theorem obj (h : CanOnly w s t) (i j : Nat) : t.obj i j = s.obj i j := congrArg leNat (h.objBytes i j)

theorem chan (h : CanOnly w s t) (c : Nat) : t.chan c = s.chan c := chan_congr (by rw [h.pde]) c

theorem ticking (h : CanOnly w s t) (l : LaneId) : t.ticking l = s.ticking l := by
  rw [State.ticking, h.supplied, h.lf _ _ rfl, State.ticking]

theorem pairStandby (h : CanOnly w s t) : t.pairStandby = s.pairStandby := by
  have hlead : t.leadLane = s.leadLane := by rw [State.leadLane, funext h.ticking, State.leadLane]
  unfold State.pairStandby State.pairOn
  rw [hlead, h.obj]
  cases s.leadLane with
  | none => rfl
  | some l =>
    dsimp only
    rw [h.lf _ _ rfl]

theorem evt (h : CanOnly w s t) (g : EventOnly t u) : CanOnly w s u :=
  h.trans ⟨g.pde, g.hub, g.tx, objBytes_congr g.dict, fun _ _ => hreg_congr (by rw [g.pde]) g.net g.can g.tb g.hub _,
    fun l => by rw [g.lane l], fun l f hf => g.lf l f hf⟩

theorem hfSet {f : Fld} {x : Nat} (h : CanOnly w s t) (hw : w f.reg)
    (hblock : 0x50200000 ≤ f.reg ∧ f.reg < 0x50300000 := by dsimp only; omega) : CanOnly w s (t.hfSet f x) := by
  have hb : hubBlock f.reg = .can := by
    unfold hubBlock
    rw [if_neg (by omega), if_neg (by omega), if_pos hblock.2]
  refine h.trans ⟨?_, ?_, State.hfSet_tx .., objBytes_congr (by simp), fun a ha => State.hreg_hregSet_other _ _ fun e => ha (e ▸ hw),
    fun l => by rw [State.hfSet, State.hregSet_lane], fun l g _ => State.lf_congr (by simp) g⟩ <;>
  simp only [State.hfSet, State.hregSet, hb]

theorem hcount {f : Fld} {n : Nat} (h : CanOnly w s t) (hw : w f.reg)
    (hblock : 0x50200000 ≤ f.reg ∧ f.reg < 0x50300000 := by dsimp only; omega) : CanOnly w s (t.hcount f n) := h.hfSet hw hblock

theorem canUpd {ch : Nat} {f : CanCh → CanCh} (h : CanOnly w s t) : CanOnly w s (t.canUpd ch f) :=
  h.trans ⟨rfl, rfl, rfl, fun _ _ => rfl, fun a _ => congrFun (by
    funext a
    simp only [State.hreg, State.hubRegs]
    cases hubBlock a <;> rfl) a, fun l => by simp, fun l f _ => State.lf_canUpd ..⟩

theorem cntAdd {i j n : Nat} (h : CanOnly w s t) : CanOnly w s (t.cntAdd i j n) :=
  h.trans ⟨rfl, rfl, rfl, fun _ _ => rfl, fun _ _ => rfl, fun l => by simp, fun l f _ => State.lf_cntAdd ..⟩

end CanOnly

/-! ### Mailboxes and the engine channels bound to them (R339, R343) -/

theorem hf_of_pde {s t : State} (h : t.pde = s.pde) {f : Fld} (hf : f.reg < 0x50100000 := by dsimp only; omega) : t.hf f = s.hf f := by
  have hblock : hubBlock f.reg = .pde := if_pos hf
  simp only [State.hf, State.hreg, State.hubRegs, hblock, h]

theorem canBound_congr {s t : State} (h : ∀ c, c < 192 → t.hf (PDE_CFG_MODE c) = s.hf (PDE_CFG_MODE c) ∧
    t.hf (PDE_SRC_KIND c) = s.hf (PDE_SRC_KIND c) ∧ t.hf (PDE_SRC_PORT c) = s.hf (PDE_SRC_PORT c)) (ch : Nat) :
    t.canBound ch = s.canBound ch := by
  refine List.filter_congr fun c hc => ?_
  obtain ⟨hmode, hkind, hport⟩ := h c (List.mem_range.mp hc)
  rw [hmode, hkind, hport]

/-- An enabled engine channel is bound to mailbox `m` of a CAN channel. -/
structure State.BoundTo (s : State) (ch m c : Nat) : Prop where
  chan : c < 192
  mode : s.hf (PDE_CFG_MODE c) ≠ 0
  kind : s.hf (PDE_SRC_KIND c) = 2
  port : s.hf (PDE_SRC_PORT c) = ch
  mailbox : s.mailbox c = m

theorem mem_canBound {s : State} {ch c : Nat} : c ∈ s.canBound ch ↔ s.BoundTo ch (s.mailbox c) c := by
  rw [State.canBound, List.mem_filter, pdeChannels, List.mem_range]
  simp only [Bool.and_eq_true, decide_eq_true_eq]
  exact ⟨fun ⟨h1, ⟨h2, h3⟩, h4⟩ => ⟨h1, h2, h3, h4, rfl⟩, fun h => ⟨h.chan, ⟨h.mode, h.kind⟩, h.port⟩⟩

theorem boundTo_of_canOf {s : State} {ch m c : Nat} (h : s.canOf ch m = some c) : s.BoundTo ch m c := by
  have hm : s.mailbox c = m := by simpa using List.find?_some h
  exact hm ▸ mem_canBound.mp (List.mem_of_find?_eq_some h)

theorem canOf_congr {s t : State} (h : t.pde = s.pde) (ch m : Nat) : t.canOf ch m = s.canOf ch m := by
  have hbound : t.canBound ch = s.canBound ch := canBound_congr (fun c _ => ⟨hf_of_pde h, hf_of_pde h, hf_of_pde h⟩) ch
  unfold State.canOf
  rw [hbound]
  refine List.find?_congr fun c hc => ?_
  have hc := (mem_canBound.mp hc).chan
  rw [State.mailbox, hf_of_pde h, State.mailbox]

/-! ### A frame is received (R339 to R342) -/

/-- The register CAN_STAT of a channel. -/
def canStatReg (ch a : Nat) : Prop := a = 0x50200010 + 0x1000 * ch

/-- The channel has seen the frame as good. -/
def State.canSees (s : State) (ch : Nat) : State := (s.canIntegrated ch).canGood ch

section
variable {s : State} {ch : Nat} (hch : ch < 8)
include hch

theorem canIntegrated_only : CanOnly (canStatReg ch) s (s.canIntegrated ch) := .ite (.hfSet (.refl _ s) rfl) (.refl _ s)

theorem canGood_only : CanOnly (canStatReg ch) s (s.canGood ch) := by
  unfold State.canGood
  exact .ite (.ite (.hfSet (.canUpd (.refl _ s)) rfl) (.canUpd (.refl _ s))) (.hfSet (.refl _ s) rfl)

theorem canSees_only : CanOnly (canStatReg ch) s (s.canSees ch) := (canIntegrated_only hch).trans (canGood_only hch)

end

theorem canCh_hfSet (s : State) (f : Fld) (x ch : Nat) : (s.hfSet f x).canCh ch = s.canCh ch := by simp [State.canCh]

/-- Of what a channel holds beside its registers, only the good frames of restricted operation are counted. -/
theorem canCh_canSees (s : State) (ch : Nat) : ∃ n, (s.canSees ch).canCh ch = { s.canCh ch with good := n } := by
  have hint : (s.canIntegrated ch).canCh ch = s.canCh ch := by
    unfold State.canIntegrated
    split
    · exact canCh_hfSet ..
    · rfl
  unfold State.canSees State.canGood
  dsimp only
  split
  · split
    · exact ⟨_, by rw [canCh_hfSet, State.canCh_canUpd_same, hint]⟩
    · exact ⟨_, by rw [State.canCh_canUpd_same, hint]⟩
  · exact ⟨_, by rw [canCh_hfSet, hint]⟩

/-- A frame that a mailbox takes: it goes to the engine channel bound to it, unless its length is not what the filter expects. -/
def State.canTaken (s : State) (ch : Nat) (f : CanFrame) (ref : Bool) (m : Nat) : State :=
  match s.canOf ch m with
  | none => s.hcount (CAN_CNT_DROP_UNMATCHED ch) 1
  | some c =>
    if s.hf (CAN_FLT2_EXP_LEN ch m) ≠ 127 ∧ s.hf (CAN_FLT2_EXP_LEN ch m) ≠ f.data.length then
      ((s.hcount (CAN_FLT3_LENERR ch m) 1).cntAdd (chanObj c 2) 1 1).violation (29 + ch) 0x4510 [(1, ch), (1, m), (4, f.id), (1, f.data.length)]
    else
      (((s.hcount (CAN_CNT_RX ch) 1).cntAdd (0x4010 + 0x100 * ch) 3 1).canUpd ch
        (fun x => { x with seen := if x.seen.contains m then x.seen else m :: x.seen })).itemFor c
        (canRecord f m (s.canTt ch && decide (s.hf (CAN_TT_STAT_ROLE ch) ≠ 0)) ref (s.hf (CAN_TT_STAT_CYCLE ch)))

/-- A data frame goes to the first mailbox whose filter takes it. -/
def State.canDelivered (s : State) (ch : Nat) (f : CanFrame) (ref : Bool) : State :=
  match (List.range 64).find? (fun m => s.filterTakes ch m f) with
  | none => if s.isService ch f then s else s.hcount (CAN_CNT_DROP_UNMATCHED ch) 1
  | some m => s.canTaken ch f ref m

section
variable {s : State} {ch : Nat} {f : CanFrame} (hon : s.canOn ch = true)
include hon

theorem exec_canFrameReceive_protocol (hf : f.fdf = true) (hfde : s.hf (CAN_CFG_FDE ch) = 0) :
    exec (.canFrameReceive ch f) s = .next (s.hcount (CAN_CNT_ERR2_PEX ch) 1) := by
  show execCanFrameReceive ch f s = _
  rw [execCanFrameReceive, if_neg (by simp [hon]), if_pos (by simp [hf, hfde])]

theorem exec_canFrameReceive_remote (hfd : f.fdf = false ∨ s.hf (CAN_CFG_FDE ch) ≠ 0) (hr : f.remote = true) :
    exec (.canFrameReceive ch f) s = .next ((s.canSees ch).hcount (CAN_CNT_DROP_UNMATCHED ch) 1) := by
  show execCanFrameReceive ch f s = _
  rw [execCanFrameReceive, if_neg (by simp [hon]), if_neg (by rcases hfd with h | h <;> simp [h])]
  dsimp only
  rw [if_pos hr]
  rfl

theorem exec_canFrameReceive_data (hfd : f.fdf = false ∨ s.hf (CAN_CFG_FDE ch) ≠ 0) (hr : f.remote = false) :
    exec (.canFrameReceive ch f) s = .next ((if (s.canSees ch).isRef ch f then (s.canSees ch).refArrives ch f else s.canSees ch).canDelivered
      ch f ((s.canSees ch).isRef ch f)) := by
  show execCanFrameReceive ch f s = _
  rw [execCanFrameReceive, if_neg (by simp [hon]), if_neg (by rcases hfd with h | h <;> simp [h])]
  dsimp only
  rw [if_neg (by simp [hr])]
  unfold State.canDelivered State.canTaken State.canSees
  generalize (if ((s.canIntegrated ch).canGood ch).isRef ch f = true then ((s.canIntegrated ch).canGood ch).refArrives ch f
    else (s.canIntegrated ch).canGood ch) = u
  cases (List.range 64).find? (fun m => u.filterTakes ch m f) with
  | none => rfl
  | some m =>
    dsimp only
    cases u.canOf ch m with
    | none => rfl
    | some c =>
      dsimp only
      split <;> rfl

end

/-! ### What the controller reads is not in CAN_STAT -/

section
variable {s t : State} {ch : Nat} (h : CanOnly (canStatReg ch) s t)
include h

theorem hf_apartStat {f : Fld} (hr : f.reg ≠ 0x50200010 + 0x1000 * ch := by dsimp only; omega) : t.hf f = s.hf f := h.hf hr

theorem canTt_congr : t.canTt ch = s.canTt ch := by
  rw [State.canTt, hf_apartStat h, State.canTt]

theorem isRef_congr (f : CanFrame) : t.isRef ch f = s.isRef ch f := by
  rw [State.isRef, canTt_congr h, hf_apartStat h, State.isRef]

theorem ownRef_congr : t.ownRef ch = s.ownRef ch := by
  rw [State.ownRef, hf_apartStat h, hf_apartStat h, State.ownRef]

theorem isService_congr (f : CanFrame) : t.isService ch f = s.isService ch f := by
  unfold State.isService
  rw [h.obj, h.obj]

theorem filterTakes_congr {m : Nat} (hm : m < 64) (f : CanFrame) : t.filterTakes ch m f = s.filterTakes ch m f := by
  unfold State.filterTakes
  rw [hf_apartStat h, hf_apartStat h, hf_apartStat h, hf_apartStat h, hf_apartStat h]

end

theorem canPtm_congr {w : Nat → Prop} {s t : State} {ch : Nat} (h : CanOnly w s t) (hw : ¬w (0x50200600 + 0x1000 * ch))
    (hdup : (t.canCh ch).dup = (s.canCh ch).dup) : t.canPtm ch = s.canPtm ch := by
  rw [State.canPtm, h.hf hw, hdup, h.pairStandby, State.canPtm]

theorem held_cyclicArrive {s : State} {c : Nat} {raw : List Byte} (hs : s.hub.supplied = true) (hmode : s.hf (PDE_CFG_MODE c) = 1)
    (hstate : s.pdeState c = 2) (hkind : s.hf (PDE_SRC_KIND c) ≠ 1) :
    ((s.cyclicArrive c raw).chan c).held = some ⟨s.hf (PDE_SRC_KIND c), s.hf (PDE_SRC_PORT c), raw, crc32c raw⟩ := by
  have hexec : exec (.pdeItemArrive c raw) s = .next (s.cyclicArrive c raw) := if_neg (by simp [hs])
  rw [exec_pdeItemArrive hs hmode hstate hkind] at hexec
  rw [← Host.Outcome.next.inj hexec, State.chan_chanUpd_same, State.pdeItem]

theorem itemFor_cyclic {s : State} {c : Nat} {raw : List Byte} (hmode : s.hf (PDE_CFG_MODE c) = 1) :
    s.itemFor c raw = s.cyclicArrive c raw := by simp only [State.itemFor, hmode]

/-! ### Where a data frame goes -/

theorem canDelivered_unmatched {s : State} {ch : Nat} {f : CanFrame} {ref : Bool} (hservice : s.isService ch f = false)
    (hnone : ∀ m, m < 64 → s.filterTakes ch m f = false) : s.canDelivered ch f ref = s.hcount (CAN_CNT_DROP_UNMATCHED ch) 1 := by
  rw [State.canDelivered, List.find?_eq_none.mpr (by simpa using hnone)]
  simp [hservice]

theorem canDelivered_first {s : State} {ch m : Nat} {f : CanFrame} {ref : Bool} (hm : m < 64)
    (hbefore : ∀ k, k < m → s.filterTakes ch k f = false) (hm' : s.filterTakes ch m f = true) :
    s.canDelivered ch f ref = s.canTaken ch f ref m := by
  have hfind : (List.range 64).find? (fun m => s.filterTakes ch m f) = some m :=
    List.find?_range_eq_some.mpr ⟨hm', List.mem_range.mpr hm, fun k hk => by rw [hbefore k hk]; rfl⟩
  rw [State.canDelivered, hfind]

section
variable {s : State} {ch m c : Nat} {f : CanFrame} {ref : Bool} (hch : ch < 8) (hc : s.canOf ch m = some c)
include hch hc

/-- A frame of the expected length is counted and becomes a record for the channel of its mailbox. -/
theorem canTaken_fits (hlen : s.hf (CAN_FLT2_EXP_LEN ch m) = 127 ∨ s.hf (CAN_FLT2_EXP_LEN ch m) = f.data.length) :
    (s.canTaken ch f ref m).hf (CAN_CNT_RX ch) = satAdd 0xFFFFFFFF (s.hf (CAN_CNT_RX ch)) 1 ∧
      m ∈ ((s.canTaken ch f ref m).canCh ch).seen ∧
      (s.hub.supplied = true → s.hf (PDE_CFG_MODE c) = 1 → s.pdeState c = 2 → s.canTt ch = false →
        ∃ r, ((s.canTaken ch f ref m).chan c).held = some ⟨2, ch, r, crc32c r⟩ ∧ r = canRecord f m false ref 0) := by
  obtain ⟨hc192, -, hkind, hport, -⟩ := boundTo_of_canOf hc
  have hcounted : CanOnly (fun _ => True) s (((s.hcount (CAN_CNT_RX ch) 1).cntAdd (0x4010 + 0x100 * ch) 3 1).canUpd ch
      (fun x => { x with seen := if x.seen.contains m then x.seen else m :: x.seen })) :=
    .canUpd (.cntAdd (.hcount (.refl _ s) trivial))
  unfold State.canTaken
  rw [hc]
  dsimp only
  rw [if_neg (by rcases hlen with h | h <;> simp [h])]
  refine ⟨?_, ?_, fun hs hmode hstate htt => ?_⟩
  · rw [(EngineOnly.itemFor hc192 (.refl c _)).hf, State.hf_canUpd, State.hf_cntAdd, State.hf_hcount_same _ _ _ rfl]
    rfl
  · rw [(EngineOnly.itemFor hc192 (.refl c _)).canCh, State.canCh_canUpd_same]
    dsimp only
    split
    next h => exact List.contains_iff_mem.mp h
    next => exact List.mem_cons_self
  · refine ⟨_, ?_, rfl⟩
    rw [itemFor_cyclic ((hf_of_pde hcounted.pde).trans hmode), htt,
      held_cyclicArrive (hcounted.hub ▸ hs) ((hf_of_pde hcounted.pde).trans hmode) ((hf_of_pde hcounted.pde).trans hstate)
      (by rw [hf_of_pde hcounted.pde, hkind]; decide), hf_of_pde hcounted.pde, hf_of_pde hcounted.pde, hkind, hport]
    rfl

/-- A frame of another length than the filter expects is dropped and counted. -/
theorem canTaken_misfits (hm : m < 64) (h127 : s.hf (CAN_FLT2_EXP_LEN ch m) ≠ 127) (hlen : s.hf (CAN_FLT2_EXP_LEN ch m) ≠ f.data.length) :
    (s.canTaken ch f ref m).pde = s.pde ∧ (s.canTaken ch f ref m).hf (CAN_CNT_RX ch) = s.hf (CAN_CNT_RX ch) ∧
      (s.canTaken ch f ref m).hf (CAN_FLT3_LENERR ch m) = satAdd 0xFFFF (s.hf (CAN_FLT3_LENERR ch m)) 1 := by
  have hcounted : CanOnly (fun a => a = 0x5020010C + 0x1000 * ch + 0x10 * m) s
      ((s.hcount (CAN_FLT3_LENERR ch m) 1).cntAdd (chanObj c 2) 1 1) := .cntAdd (.hcount (.refl _ s) rfl)
  unfold State.canTaken
  rw [hc]
  dsimp only
  rw [if_pos ⟨h127, hlen⟩]
  refine ⟨?_, ?_, ?_⟩
  · rw [(violation_eventOnly ..).pde, hcounted.pde]
  · rw [(violation_eventOnly ..).hf, hcounted.hf]
    dsimp only
    omega
  · rw [(violation_eventOnly ..).hf, State.hf_cntAdd, State.hf_hcount_same _ _ _ rfl]
    rfl

end

/-! ### Reference messages (R355) -/

/-- Wherever a frame goes, it leaves the state of time-triggered operation. -/
theorem hf_canDelivered {s : State} {ch : Nat} (hch : ch < 8) {f : CanFrame} {ref : Bool} {g : Fld} (hg : g.lo ≤ g.hi)
    (hr : g.reg = 0x50200604 + 0x1000 * ch) : (s.canDelivered ch f ref).hf g = s.hf g := by
  have hdrop : (s.hcount (CAN_CNT_DROP_UNMATCHED ch) 1).hf g = s.hf g :=
    State.hf_hcount_apart _ _ _ _ (Fld.apart_of_reg rfl hg (by rw [hr]; dsimp only; omega))
  unfold State.canDelivered
  split
  · split
    · rfl
    · exact hdrop
  next m hm =>
    unfold State.canTaken
    split
    · exact hdrop
    next c hc =>
      have hc192 := (boundTo_of_canOf hc).chan
      split
      · rw [(violation_eventOnly ..).hf, State.hf_cntAdd, State.hf_hcount_apart _ _ _ _ (Fld.apart_of_reg rfl hg ?_)]
        rw [hr]
        have := List.mem_range.mp (List.mem_of_find?_eq_some hm)
        dsimp only
        omega
      · rw [(EngineOnly.itemFor hc192 (.refl c _)).hf (by unfold engineReg; rw [hr]; omega), State.hf_canUpd, State.hf_cntAdd,
          State.hf_hcount_apart _ _ _ _ (Fld.apart_of_reg rfl hg (by rw [hr]; dsimp only; omega))]

/-- Showing the error level leaves the other fields of the state of time-triggered operation. -/
theorem hf_ttShow (s : State) (ch cause : Nat) {g : Fld} (hlevel : (CAN_TT_STAT_LEVEL ch).apart g = true)
    (hcnt1 : (CAN_TT_CNT_S1 ch).apart g = true) (hcnt2 : (CAN_TT_CNT_S2 ch).apart g = true) (hint : (CAN_INT_STAT_TTLVL ch).apart g = true) :
    (s.ttShow ch cause).hf g = s.hf g := by
  have hshown : (if s.hf (CAN_TT_STAT_LEVEL ch) < 1 ∧ s.ttLevel ch = 1 then (s.hfSet (CAN_TT_STAT_LEVEL ch) (s.ttLevel ch)).hcount
      (CAN_TT_CNT_S1 ch) 1 else s.hfSet (CAN_TT_STAT_LEVEL ch) (s.ttLevel ch)).hf g = s.hf g := by
    split
    · rw [State.hf_hcount_apart _ _ _ _ hcnt1, State.hf_hfSet_apart _ _ _ _ hlevel]
    · exact State.hf_hfSet_apart _ _ _ _ hlevel
  unfold State.ttShow
  split
  · rfl
  · dsimp only
    split
    · rw [State.hf_hubEvt, State.hf_hfSet_apart _ _ _ _ hint, State.hf_hcount_apart _ _ _ _ hcnt2, hshown]
    · exact hshown

/-- A basic cycle begins: its count and the channel's role are shown. -/
theorem ttCycle_shows (s : State) (ch cyc id role : Nat) : (s.ttCycle ch cyc id role).hf (CAN_TT_STAT_CYCLE ch) = cyc % 64 ∧
    (s.ttCycle ch cyc id role).hf (CAN_TT_STAT_ROLE ch) = role % 4 := by
  unfold State.ttCycle
  extract_lets was old u v w x
  have hw {g : Fld} (hint : (CAN_INT_STAT_MASTER ch).apart g = true) (hcnt : (CAN_TT_CNT_MASTER_CHG ch).apart g = true) : w.hf g = v.hf g := by
    unfold w
    split
    · rw [State.hf_hfSet_apart _ _ _ _ hint, State.hf_hcount_apart _ _ _ _ hcnt]
    · rfl
  refine ⟨?_, ?_⟩
  · rw [hf_ttShow _ _ _ Fld.apart_of_bits Fld.apart_of_reg Fld.apart_of_reg Fld.apart_of_reg, State.hf_canUpd, hw Fld.apart_of_reg Fld.apart_of_reg,
      State.hf_hfSet_apart _ _ _ _ Fld.apart_of_reg, State.hf_hfSet_apart _ _ _ _ Fld.apart_of_bits, State.hf_hfSet_apart _ _ _ _ Fld.apart_of_bits,
      State.hf_hfSet_same _ _ _ rfl]
    rfl
  · rw [hf_ttShow _ _ _ Fld.apart_of_bits Fld.apart_of_reg Fld.apart_of_reg Fld.apart_of_reg, State.hf_canUpd, hw Fld.apart_of_reg Fld.apart_of_reg,
      State.hf_hfSet_apart _ _ _ _ Fld.apart_of_reg, State.hf_hfSet_same _ _ _ rfl]
    rfl

/-- The reference message of another master begins a basic cycle. -/
theorem refArrives_other {s : State} {ch : Nat} {f : CanFrame} (h : f.id ≠ s.ownRef ch) :
    (s.refArrives ch f).hf (CAN_TT_STAT_CYCLE ch) = byteAt f.data 0 % 64 ∧
      (s.refArrives ch f).hf (CAN_TT_STAT_ROLE ch) = if s.canPtm ch then 2 else 1 := by
  have hshown : CanOnly (fun _ => False) s (if s.hf (CAN_TT_STAT_ROLE ch) = 3 then s.hubEvt 0x4522 [(1, ch), (2, f.id)] else s) :=
    .ite (.evt (.refl _ s) (hubEvt_eventOnly ..)) (.refl _ s)
  have hdup : ((if s.hf (CAN_TT_STAT_ROLE ch) = 3 then s.hubEvt 0x4522 [(1, ch), (2, f.id)] else s).canCh ch).dup = (s.canCh ch).dup := by
    split
    · rw [State.canCh, (hubEvt_eventOnly ..).can, State.canCh]
    · rfl
  rw [State.refArrives, if_neg (by simp [h])]
  obtain ⟨hcycle, hrole⟩ := ttCycle_shows _ ch (byteAt f.data 0 % 64) f.id _
  refine ⟨hcycle.trans (by omega), hrole.trans ?_⟩
  rw [canPtm_congr hshown (by simp) hdup]
  split <;> rfl

/-- Settles O34: the controller's own counts touch none of what the filters and the mailboxes read. -/
theorem canFramesReachTheirMailbox : Obligations.CanFramesReachTheirMailbox := by
  unfold Obligations.CanFramesReachTheirMailbox
  intro s ch f hon
  have hch : ch < 8 := by
    simp only [State.canOn, Bool.and_eq_true, decide_eq_true_eq] at hon
    omega
  have hs : s.hub.supplied = true := by
    simp only [State.canOn, Bool.and_eq_true] at hon
    exact hon.1.1.1
  have hsees := canSees_only (s := s) hch
  have hdropped (u : State) : CanOnly (fun _ => True) u (u.hcount (CAN_CNT_DROP_UNMATCHED ch) 1) := .hcount (.refl _ u) trivial
  have hdrop : ((s.canSees ch).hcount (CAN_CNT_DROP_UNMATCHED ch) 1).pde = s.pde ∧
      ((s.canSees ch).hcount (CAN_CNT_DROP_UNMATCHED ch) 1).hf (CAN_CNT_DROP_UNMATCHED ch) =
        satAdd 0xFFFF (s.hf (CAN_CNT_DROP_UNMATCHED ch)) 1 := by
    refine ⟨(hdropped _).pde.trans hsees.pde, ?_⟩
    rw [State.hf_hcount_same _ _ _ rfl, hf_apartStat hsees]
    rfl
  refine ⟨exec_canFrameReceive_protocol hon, fun hfd => ⟨fun hr => ⟨_, exec_canFrameReceive_remote hon hfd hr, hdrop⟩,
    fun hr href hservice hnone => ?_, fun m c hr href hm hbefore hm' hc => ?_, fun hr href hid => ?_⟩⟩
  · rw [exec_canFrameReceive_data hon hfd hr, isRef_congr hsees, href, if_neg (by simp), canDelivered_unmatched
      ((isService_congr hsees f).trans hservice) (fun m hm => (filterTakes_congr hsees hm f).trans (hnone m hm))]
    exact ⟨_, rfl, hdrop⟩
  · have hc' : (s.canSees ch).canOf ch m = some c := (canOf_congr hsees.pde ch m).trans hc
    have hlen : (s.canSees ch).hf (CAN_FLT2_EXP_LEN ch m) = s.hf (CAN_FLT2_EXP_LEN ch m) := hf_apartStat hsees
    have hrx : (s.canSees ch).hf (CAN_CNT_RX ch) = s.hf (CAN_CNT_RX ch) := hf_apartStat hsees
    rw [exec_canFrameReceive_data hon hfd hr, isRef_congr hsees, href, if_neg (by simp), canDelivered_first hm
      (fun k hk => (filterTakes_congr hsees (by omega) f).trans (hbefore k hk)) ((filterTakes_congr hsees hm f).trans hm')]
    refine ⟨fun hfits => ⟨_, rfl, ?_⟩, fun h127 hmisfit => ⟨_, rfl, ?_⟩⟩
    · obtain ⟨hcount, hseen, hheld⟩ := canTaken_fits (ref := false) hch hc' (by rwa [hlen])
      exact ⟨hcount.trans (by rw [hrx]), hseen, fun hmode hstate htt => hheld (hsees.hub ▸ hs) ((hf_of_pde hsees.pde
        (hf := by have := (boundTo_of_canOf hc).chan; dsimp only; omega)).trans hmode) ((hf_of_pde hsees.pde
        (hf := by have := (boundTo_of_canOf hc).chan; dsimp only; omega)).trans hstate) ((canTt_congr hsees).trans htt)⟩
    · obtain ⟨hpde, hcount, herr⟩ := canTaken_misfits (ref := false) hch hc' hm (by rwa [hlen]) (by rwa [hlen])
      exact ⟨hpde.trans hsees.pde, hcount.trans hrx, herr.trans (by rw [hf_apartStat hsees])⟩
  · obtain ⟨hcycle, hrole⟩ := refArrives_other (f := f) (s := s.canSees ch) (by rwa [ownRef_congr hsees])
    obtain ⟨good, hgood⟩ := canCh_canSees s ch
    rw [exec_canFrameReceive_data hon hfd hr, isRef_congr hsees, href, if_pos rfl]
    refine ⟨_, rfl, ?_, ?_⟩
    · rw [hf_canDelivered hch (by simp) rfl, hcycle]
    · rw [hf_canDelivered hch (by simp) rfl, hrole, canPtm_congr hsees (by unfold canStatReg; omega) (by rw [hgood])]

end Sys2Proof.Machine

/-! Items of the CAN mailboxes: what the work on one item leaves, how items leave the wire, and bus-off (12 R343 to R350). -/

namespace Sys2Proof.Machine

-- One proof after another: proofs that wait side by side each keep a stack, and many of them exceed the memory of a check.
set_option Elab.async false

/-- `t` is `s` but for what the engine and the controller of CAN channel `ch` write while they end an item of engine channel `c`, whose
cancel bit is `b`. -/
structure ItemOnly (ch b c : Nat) (s t : State) : Prop where
  hub : t.hub = s.hub
  canCh : ∀ k, t.canCh k = s.canCh k
  objBytes : ∀ i j, t.objBytes i j = s.objBytes i j
  reg : ∀ a, ¬engineReg c a → a ≠ 0x50200020 + 0x1000 * ch → a ≠ 0x5020004C + 0x1000 * ch → t.hreg a = s.hreg a
  bit : ∀ i, i ≠ b → t.hf ⟨0x50200020 + 0x1000 * ch, i, i⟩ = s.hf ⟨0x50200020 + 0x1000 * ch, i, i⟩
  parked : ∀ d, d ≠ c → ∃ p, t.chan d = { s.chan d with parked := p }
  other : ∀ d, d ≠ c → ¬s.mayStall d → t.chan d = s.chan d

namespace ItemOnly

variable {ch b c : Nat} {s t u : State}

theorem refl (ch b c : Nat) (s : State) : ItemOnly ch b c s s :=
  ⟨rfl, fun _ => rfl, fun _ _ => rfl, fun _ _ _ _ => rfl, fun _ _ => rfl, fun _ _ => ⟨_, rfl⟩, fun _ _ _ => rfl⟩

/-- A field outside these registers reads as before. -/
theorem hf (h : ItemOnly ch b c s t) {f : Fld} (hf : ¬engineReg c f.reg := by unfold engineReg; dsimp only; omega)
    (hx : f.reg ≠ 0x50200020 + 0x1000 * ch := by dsimp only; omega) (hi : f.reg ≠ 0x5020004C + 0x1000 * ch := by dsimp only; omega) :
    t.hf f = s.hf f := congrArg (fldGet f) (h.reg _ hf hx hi)

theorem obj (h : ItemOnly ch b c s t) (i j : Nat) : t.obj i j = s.obj i j := congrArg leNat (h.objBytes i j)

theorem mayStall (h : ItemOnly ch b c s t) (d : Nat) : t.mayStall d ↔ s.mayStall d := by
  unfold State.mayStall
  exact and_congr_right fun hd => by rw [h.hf]

theorem trans (h : ItemOnly ch b c s t) (g : ItemOnly ch b c t u) : ItemOnly ch b c s u where
  hub := g.hub.trans h.hub
  canCh k := (g.canCh k).trans (h.canCh k)
  objBytes i j := (g.objBytes i j).trans (h.objBytes i j)
  reg a ha hx hi := (g.reg a ha hx hi).trans (h.reg a ha hx hi)
  bit i hi := (g.bit i hi).trans (h.bit i hi)
  parked d hd := by
    obtain ⟨p, hp⟩ := g.parked d hd
    obtain ⟨p', hp'⟩ := h.parked d hd
    exact ⟨p, by rw [hp, hp']⟩
  other d hd hs := (g.other d hd (by rwa [h.mayStall])).trans (h.other d hd hs)

theorem ite {p : Prop} [Decidable p] (h : ItemOnly ch b c s t) (g : ItemOnly ch b c s u) : ItemOnly ch b c s (if p then t else u) := by
  split
  · exact h
  · exact g

/-- The engine's work on the channel. -/
theorem engine (hch : ch < 8) (hc : c < 192) (h : ItemOnly ch b c s t) (g : EngineOnly c t u) : ItemOnly ch b c s u :=
  h.trans ⟨g.hub, g.canCh, g.objBytes, fun a ha _ _ => g.reg a ha, fun _ _ => g.hf, g.parked, g.other⟩

/-- The item's cancel bit, or a cause of the controller's interrupt, is written. -/
theorem hfSet {f : Fld} {x : Nat} (hch : ch < 8) (h : ItemOnly ch b c s t)
    (hr : f.reg = 0x50200020 + 0x1000 * ch ∧ (∀ i, i ≠ b → f.apart ⟨0x50200020 + 0x1000 * ch, i, i⟩ = true) ∨
      f.reg = 0x5020004C + 0x1000 * ch ∧ f.ok = true) : ItemOnly ch b c s (t.hfSet f x) := by
  refine h.trans ⟨?_, fun k => canCh_hfSet .., objBytes_congr (by simp), fun a _ hx hi => State.hreg_hregSet_other _ _ ?_, fun i hi => ?_,
    fun d _ => ⟨_, chan_hfSet ..⟩, fun d _ _ => chan_hfSet ..⟩
  · exact (CanOnly.hfSet (w := fun _ => True) (.refl _ t) trivial (by rcases hr with hr | hr <;> omega)).hub
  · rcases hr with hr | hr <;> omega
  · rcases hr with ⟨-, hr⟩ | ⟨hr, hok⟩
    · exact State.hf_hfSet_apart _ _ _ _ (hr i hi)
    · exact State.hf_hfSet_apart _ _ _ _ (Fld.apart_of_reg hok (by simp) (by rw [hr]; dsimp only; omega))

end ItemOnly

/-- The cancel bit of a mailbox. -/
def cancelBit (ch m : Nat) : Fld := ⟨0x50200020 + 0x1000 * ch, m - 64, m - 64⟩

section
variable {s : State} {ch c : Nat} (hch : ch < 8) (hc : c < 192)
include hch hc

/-- Removing a cancelled item ends that item only. -/
theorem removeCancelled_only : ItemOnly ch (s.mailbox c - 64) c s (s.removeCancelled ch c) := by
  have hm : s.mailbox c - 64 < 64 := by
    have : s.mailbox c < 128 := Nat.mod_lt _ (by decide)
    omega
  have hmarked : ItemOnly ch (s.mailbox c - 64) c s ((s.hfSet (cancelBit ch (s.mailbox c)) 0).hfSet (CAN_INT_STAT_CANCEL ch) 1) := by
    refine .hfSet hch (.hfSet hch (.refl ..) (.inl ⟨rfl, fun i hi => Fld.apart_of_bits ?_ (by simp) ?_⟩)) (.inr ⟨rfl, rfl⟩)
    · simp [cancelBit, Fld.ok, hm]
    · simp only [cancelBit]
      omega
  unfold State.removeCancelled
  exact .ite (hmarked.engine hch hc (.outputDone hc (.refl c _))) (hmarked.engine hch hc (.chanUpd (.pdeDrop hc (.refl c _))))

theorem offWire_only (b : Nat) : ItemOnly ch b c s (s.offWire c) := by
  unfold State.offWire
  dsimp only
  split
  · exact .engine hch hc (.refl ..) (.chanUpd (.pdeSupersede hc (.refl c _)))
  · exact .engine hch hc (.refl ..) (.chanUpd (.refl c _))

end

/-- The item on the wire ends without completing: nothing changes, or that item only. -/
theorem wireFails_only {s : State} {ch : Nat} (hch : ch < 8) : s.wireFails ch = s ∨
    ∃ b c, c < 192 ∧ (s.chan c).onWire = true ∧ ItemOnly ch b c s (s.wireFails ch) := by
  unfold State.wireFails
  split
  · exact .inl rfl
  next c hc =>
    have hbound := (mem_canBound.mp (List.mem_of_find?_eq_some hc)).chan
    have hwire : (s.chan c).onWire = true := List.find?_some (p := fun c => (s.chan c).onWire) hc
    split
    · exact .inr ⟨_, c, hbound, hwire, removeCancelled_only hch hbound⟩
    · exact .inr ⟨0, c, hbound, hwire, offWire_only hch hbound 0⟩

/-! ### Bus-off (R349, R350, R357) -/

/-- The bus-offs of a channel at its next one. -/
def State.nextBoffs (s : State) (ch : Nat) : List Nat := s.hub.frame :: s.recentBoffs ch

/-- A bus-off is noted and counted. -/
def State.boffNoted (s : State) (ch : Nat) : State :=
  let bs := s.nextBoffs ch
  (((s.canUpd ch (fun x => { x with boffs := bs, refWire := false, window := [], slot := none })).cntAdd (0x4010 + 0x100 * ch) 1 1).hfSet
    (CAN_BOFF_STAT_K ch) (min 255 bs.length)).hfSet (CAN_INT_STAT_BOFF ch) 1

/-- The channel is blocked by too many bus-offs. -/
def State.boffBlocked (s : State) (ch k : Nat) : State :=
  ((s.hfSet (CAN_STAT_STATE ch) 6).hfSet (CAN_INT_STAT_BLOCKED ch) 1).hubEvt 0x4506 [(1, ch), (1, k)]

/-- The channel waits its hold-off. -/
def State.boffHeld (s : State) (ch k : Nat) : State :=
  let h := min (s.hf (CAN_BOFF_HOLD_MIN ch) * 2 ^ (k - 1)) (s.hf (CAN_BOFF_HOLD_MAX ch) * 100)
  (((s.canUpd ch (fun x => { x with holdFrame := s.hub.frame, holdMs := h })).hfSet (CAN_STAT_STATE ch) 4).hfSet
    (CAN_BOFF_STAT_HOLD_NOW ch) h).hubEvt 0x4503 [(1, ch), (1, k), (4, h)]

theorem canBusOff_eq (s : State) (ch : Nat) : s.canBusOff ch =
    if ((s.wireFails ch).boffNoted ch).hf (CAN_BOFF_BOFF_LIM ch) ≠ 0 ∧
        ((s.wireFails ch).boffNoted ch).hf (CAN_BOFF_BOFF_LIM ch) < ((s.wireFails ch).nextBoffs ch).length then
      ((s.wireFails ch).boffNoted ch).boffBlocked ch ((s.wireFails ch).nextBoffs ch).length
    else ((s.wireFails ch).boffNoted ch).boffHeld ch ((s.wireFails ch).nextBoffs ch).length := rfl

section
variable {s : State} {ch : Nat}

theorem canCh_wireFails (hch : ch < 8) (k : Nat) : (s.wireFails ch).canCh k = s.canCh k := by
  rcases wireFails_only (s := s) hch with h | ⟨b, c, hc, -, h⟩
  · rw [h]
  · exact h.canCh k

theorem hf_wireFails (hch : ch < 8) {g : Fld} (hr : 0x50200000 + 0x1000 * ch ≤ g.reg ∧ g.reg < 0x50201000 + 0x1000 * ch ∧
    g.reg ≠ 0x50200020 + 0x1000 * ch ∧ g.reg ≠ 0x50200040 + 0x1000 * ch ∧ g.reg ≠ 0x5020004C + 0x1000 * ch := by dsimp only; omega) :
    (s.wireFails ch).hf g = s.hf g := by
  obtain ⟨hlo, hhi, h20, h40, h4C⟩ := hr
  rcases wireFails_only (s := s) hch with h | ⟨b, c, hc, -, h⟩
  · rw [h]
  · exact h.hf (by unfold engineReg; omega) h20 h4C

theorem nextBoffs_wireFails (hch : ch < 8) : (s.wireFails ch).nextBoffs ch = s.nextBoffs ch := by
  rcases wireFails_only (s := s) hch with h | ⟨b, c, hc, -, h⟩
  · rw [h]
  · unfold State.nextBoffs State.recentBoffs State.framesOf State.period
    rw [h.hub, h.canCh, h.obj]

/-- An item that is not on the wire keeps its place, whatever ends there. -/
theorem chan_wireFails_out (hch : ch < 8) {d : Nat} (hd : (s.chan d).onWire = false) :
    ∃ p, (s.wireFails ch).chan d = { s.chan d with parked := p } := by
  rcases wireFails_only (s := s) hch with h | ⟨b, c, hc, hwire, h⟩
  · exact ⟨_, by rw [h]⟩
  · exact h.parked d (fun e => by simp [e, hwire] at hd)

theorem chan_wireFails (hch : ch < 8) {d : Nat} (hd : (s.chan d).onWire = false) (hstall : ¬s.mayStall d) :
    (s.wireFails ch).chan d = s.chan d := by
  rcases wireFails_only (s := s) hch with h | ⟨b, c, hc, hwire, h⟩
  · rw [h]
  · exact h.other d (fun e => by simp [e, hwire] at hd) hstall

/-! What follows the item's end touches the controller's registers only. -/

theorem boffNoted_only (hch : ch < 8) : CanOnly (fun a => a = 0x50200018 + 0x1000 * ch ∨ a = 0x5020004C + 0x1000 * ch) s (s.boffNoted ch) :=
  .hfSet (.hfSet (.cntAdd (.canUpd (.refl _ s))) (.inl rfl)) (.inr rfl)

/-- The registers of a channel that a bus-off writes after the item on the wire has ended. -/
def boffReg (ch a : Nat) : Prop := a = 0x50200010 + 0x1000 * ch ∨ a = 0x50200018 + 0x1000 * ch ∨ a = 0x5020004C + 0x1000 * ch

theorem canBusOff_only (hch : ch < 8) : CanOnly (boffReg ch) (s.wireFails ch) (s.canBusOff ch) := by
  have hnoted : CanOnly (boffReg ch) (s.wireFails ch) ((s.wireFails ch).boffNoted ch) :=
    .hfSet (.hfSet (.cntAdd (.canUpd (.refl _ _))) (.inr (.inl rfl))) (.inr (.inr rfl))
  rw [canBusOff_eq]
  exact .ite (.evt (.hfSet (.hfSet hnoted (.inl rfl)) (.inr (.inr rfl))) (hubEvt_eventOnly ..))
    (.evt (.hfSet (.hfSet (.canUpd hnoted) (.inl rfl)) (.inr (.inl rfl))) (hubEvt_eventOnly ..))

/-- Of CAN_STAT a bus-off writes the state only. -/
theorem hf_canBusOff_stat (hch : ch < 8) {g : Fld} (hg : g.lo ≤ g.hi := by simp)
    (hs : (CAN_STAT_STATE ch).apart g = true := by exact Fld.apart_of_bits) (hr : g.reg = 0x50200010 + 0x1000 * ch := by rfl) :
    (s.canBusOff ch).hf g = s.hf g := by
  have hnoted : ((s.wireFails ch).boffNoted ch).hf g = s.hf g := by
    rw [(boffNoted_only hch).hf (by rw [hr]; omega), hf_wireFails hch (by rw [hr]; omega)]
  rw [canBusOff_eq]
  split
  · rw [State.boffBlocked, State.hf_hubEvt, State.hf_hfSet_apart _ _ _ _ (Fld.apart_of_reg rfl hg (by rw [hr]; dsimp only; omega)),
      State.hf_hfSet_apart _ _ _ _ hs, hnoted]
  · rw [State.boffHeld, State.hf_hubEvt, State.hf_hfSet_apart _ _ _ _ (Fld.apart_of_reg rfl hg (by rw [hr]; dsimp only; omega)),
      State.hf_hfSet_apart _ _ _ _ hs, State.hf_canUpd, hnoted]

theorem hf_canBusOff (hch : ch < 8) {g : Fld} (hr : 0x50200000 + 0x1000 * ch ≤ g.reg ∧ g.reg < 0x50201000 + 0x1000 * ch ∧
    g.reg ≠ 0x50200010 + 0x1000 * ch ∧ g.reg ≠ 0x50200018 + 0x1000 * ch ∧ g.reg ≠ 0x50200020 + 0x1000 * ch ∧
    g.reg ≠ 0x50200040 + 0x1000 * ch ∧ g.reg ≠ 0x5020004C + 0x1000 * ch := by dsimp only; omega) : (s.canBusOff ch).hf g = s.hf g := by
  rw [(canBusOff_only hch).hf (by unfold boffReg; omega), hf_wireFails hch (by omega)]

/-! ### The stop of time-triggered operation (R357) -/

/-- What a stop shows and records before the channel goes off the bus. -/
def State.ttStopped (s : State) (ch cause : Nat) : State :=
  (((((s.hfSet (CAN_TT_STAT_LEVEL ch) 3).hcount (CAN_TT_CNT_S3 ch) 1).hfSet (CAN_INT_STAT_TTLVL ch) 1).hubEvt 0x4523
    [(1, ch), (1, cause)]).hfSet (CAN_TT_STAT_ROLE ch) 0).canUpd ch (fun x => { x with stopped := true })

theorem ttStop_eq (s : State) (ch cause : Nat) : s.ttStop ch cause = (s.ttStopped ch cause).canBusOff ch := rfl

/-- The registers that such a stop writes. -/
def ttStopReg (ch a : Nat) : Prop := a = 0x50200604 + 0x1000 * ch ∨ a = 0x5020060C + 0x1000 * ch ∨ a = 0x5020004C + 0x1000 * ch

theorem ttStopped_only (hch : ch < 8) (cause : Nat) : CanOnly (ttStopReg ch) s (s.ttStopped ch cause) :=
  .canUpd (.hfSet (.evt (.hfSet (.hcount (.hfSet (.refl _ s) (.inl rfl)) (.inr (.inl rfl))) (.inr (.inr rfl))) (hubEvt_eventOnly ..)) (.inl rfl))

/-- A stop counts among the bus-offs like any other. -/
theorem nextBoffs_ttStopped (hch : ch < 8) (cause : Nat) : (s.ttStopped ch cause).nextBoffs ch = s.nextBoffs ch := by
  have honly := ttStopped_only (s := s) hch cause
  have hboffs : ((s.ttStopped ch cause).canCh ch).boffs = (s.canCh ch).boffs := by
    rw [State.ttStopped, State.canCh_canUpd_same]
    dsimp only
    rw [canCh_hfSet, State.canCh, (hubEvt_eventOnly ..).can, ← State.canCh, canCh_hfSet, State.hcount, canCh_hfSet, canCh_hfSet]
  unfold State.nextBoffs State.recentBoffs State.framesOf State.period
  rw [honly.hub, hboffs, honly.obj]

/-! ### A channel goes off the bus -/

/-- The channel goes off the bus, time-triggered or not (R350, R357). -/
def State.goesOffBus (s : State) (ch : Nat) : State := if s.canTt ch then s.ttStop ch 2 else s.canBusOff ch

/-- It does so by a bus-off from a state that differs from this one only in what a stop shows. -/
theorem goesOffBus_eq (hch : ch < 8) : ∃ u, CanOnly (ttStopReg ch) s u ∧ u.nextBoffs ch = s.nextBoffs ch ∧ s.goesOffBus ch = u.canBusOff ch := by
  unfold State.goesOffBus
  split
  · exact ⟨_, ttStopped_only hch 2, nextBoffs_ttStopped hch 2, ttStop_eq s ch 2⟩
  · exact ⟨s, .refl _ s, rfl, rfl⟩

theorem CanOnly.mayStall {w : Nat → Prop} {s t : State} (h : CanOnly w s t) (d : Nat) : t.mayStall d ↔ s.mayStall d := by
  unfold State.mayStall
  exact and_congr_right fun hd => by rw [hf_of_pde h.pde]

theorem chan_goesOffBus_out (hch : ch < 8) {d : Nat} (hd : (s.chan d).onWire = false) :
    ∃ p, (s.goesOffBus ch).chan d = { s.chan d with parked := p } := by
  obtain ⟨u, hu, -, h⟩ := goesOffBus_eq (s := s) hch
  rw [h, (canBusOff_only hch).chan, ← hu.chan d]
  exact chan_wireFails_out hch (by rw [hu.chan, hd])

theorem chan_goesOffBus (hch : ch < 8) {d : Nat} (hd : (s.chan d).onWire = false) (hstall : ¬s.mayStall d) :
    (s.goesOffBus ch).chan d = s.chan d := by
  obtain ⟨u, hu, -, h⟩ := goesOffBus_eq (s := s) hch
  rw [h, (canBusOff_only hch).chan, chan_wireFails hch (by rw [hu.chan, hd]) (by rwa [hu.mayStall]), hu.chan]

theorem hf_goesOffBus_tec (hch : ch < 8) : (s.goesOffBus ch).hf (CAN_STAT_TEC ch) = s.hf (CAN_STAT_TEC ch) := by
  obtain ⟨u, hu, -, h⟩ := goesOffBus_eq (s := s) hch
  rw [h, hf_canBusOff_stat hch, hu.hf (by unfold ttStopReg; dsimp only; omega)]

theorem hf_goesOffBus_drop (hch : ch < 8) : (s.goesOffBus ch).hf (CAN_CNT_ERR2_RETRYDROP ch) = s.hf (CAN_CNT_ERR2_RETRYDROP ch) := by
  obtain ⟨u, hu, -, h⟩ := goesOffBus_eq (s := s) hch
  rw [h, hf_canBusOff hch, hu.hf (by unfold ttStopReg; dsimp only; omega)]

/-! ### A transmit error (R346) -/

theorem CanOnly.mono {w w' : Nat → Prop} {s t : State} (h : CanOnly w s t) (hw : ∀ a, w a → w' a) : CanOnly w' s t :=
  ⟨h.pde, h.hub, h.tx, h.objBytes, fun a ha => h.reg a fun g => ha (hw a g), h.supplied, h.lf⟩

theorem ttShow_only (hch : ch < 8) (cause : Nat) : CanOnly (ttStopReg ch) s (s.ttShow ch cause) := by
  have hlevel {n : Nat} : CanOnly (ttStopReg ch) s (s.hfSet (CAN_TT_STAT_LEVEL ch) n) := .hfSet (.refl _ s) (.inl rfl)
  have hcount {p : Prop} [Decidable p] {n : Nat} : CanOnly (ttStopReg ch) s
      (if p then (s.hfSet (CAN_TT_STAT_LEVEL ch) n).hcount (CAN_TT_CNT_S1 ch) 1 else s.hfSet (CAN_TT_STAT_LEVEL ch) n) :=
    .ite (.hcount hlevel (.inr (.inl rfl))) hlevel
  unfold State.ttShow
  exact .ite (.refl _ s) (.ite (.evt (.hfSet (.hcount hcount (.inr (.inl rfl))) (.inr (.inr rfl))) (hubEvt_eventOnly ..)) hcount)

/-- The transmit error counter rises, and the channel may become error passive. -/
def State.tecRaised (s : State) (ch : Nat) : State :=
  let tec := min 256 (s.hf (CAN_STAT_TEC ch) + 8)
  let s := s.hfSet (CAN_STAT_TEC ch) tec
  if s.canState ch = 2 ∧ 128 ≤ tec then
    let s := (s.hfSet (CAN_STAT_STATE ch) 3).hfSet (CAN_INT_STAT_PASSIVE ch) 1
    (s.hubEvt 0x4501 [(1, ch), (2, tec), (1, s.hf (CAN_STAT_REC ch))]).ttShow ch 2
  else s

theorem tecRaised_only (hch : ch < 8) : CanOnly (fun a => a = 0x50200010 + 0x1000 * ch ∨ ttStopReg ch a) s (s.tecRaised ch) := by
  unfold State.tecRaised
  refine .ite ?_ (.hfSet (.refl _ s) (.inl rfl))
  exact .trans (.evt (.hfSet (.hfSet (.hfSet (.refl _ s) (.inl rfl)) (.inl rfl)) (.inr (.inr (.inr rfl)))) (hubEvt_eventOnly ..))
    ((ttShow_only hch 2).mono fun _ => .inr)

theorem hf_tecRaised (hch : ch < 8) : (s.tecRaised ch).hf (CAN_STAT_TEC ch) = min 256 (s.hf (CAN_STAT_TEC ch) + 8) := by
  have htec : (s.hfSet (CAN_STAT_TEC ch) (min 256 (s.hf (CAN_STAT_TEC ch) + 8))).hf (CAN_STAT_TEC ch) = min 256 (s.hf (CAN_STAT_TEC ch) + 8) :=
    hf_hfSet_fits _ rfl (by dsimp only; omega)
  unfold State.tecRaised
  dsimp only
  split
  · rw [(ttShow_only hch 2).hf (by unfold ttStopReg; dsimp only; omega), State.hf_hubEvt, State.hf_hfSet_apart _ _ _ _ Fld.apart_of_reg,
      State.hf_hfSet_apart _ _ _ _ Fld.apart_of_bits, htec]
  · exact htec

theorem canTxBad_eq (s : State) (ch : Nat) : s.canTxBad ch =
    if 256 ≤ min 256 (s.hf (CAN_STAT_TEC ch) + 8) then (s.tecRaised ch).goesOffBus ch else s.tecRaised ch := rfl

/-- The error counter rises by 8; an item that is not on the wire stays. -/
theorem canTxBad_raises (hch : ch < 8) {d : Nat} (hd : (s.chan d).onWire = false) (hstall : ¬s.mayStall d) :
    (s.canTxBad ch).chan d = s.chan d ∧ (s.canTxBad ch).hf (CAN_STAT_TEC ch) = min 256 (s.hf (CAN_STAT_TEC ch) + 8) ∧
      (s.canTxBad ch).hf (CAN_CNT_ERR2_RETRYDROP ch) = s.hf (CAN_CNT_ERR2_RETRYDROP ch) := by
  have hraised := tecRaised_only (s := s) hch
  have hdrop : (s.tecRaised ch).hf (CAN_CNT_ERR2_RETRYDROP ch) = s.hf (CAN_CNT_ERR2_RETRYDROP ch) := hraised.hf (by unfold ttStopReg; dsimp only; omega)
  rw [canTxBad_eq]
  split
  · refine ⟨?_, ?_, ?_⟩
    · rw [chan_goesOffBus hch (by rw [hraised.chan, hd]) (by rwa [hraised.mayStall]), hraised.chan]
    · rw [hf_goesOffBus_tec hch, hf_tecRaised hch]
    · rw [hf_goesOffBus_drop hch, hdrop]
  · exact ⟨hraised.chan d, hf_tecRaised hch, hdrop⟩

end

end Sys2Proof.Machine

/-! Items of the CAN mailboxes: arbitration, errors, completion and cancel (12 R343 to R348). -/

namespace Sys2Proof.Machine

-- One proof after another: proofs that wait side by side each keep a stack, and many of them exceed the memory of a check.
set_option Elab.async false

/-! ### The winning offer (R345) -/

/-- The best offer is one of the offers, and none has a lower identifier, nor the same one in a lower mailbox. -/
theorem bestOffer_best {os : List (Nat × Nat × Nat)} {o : Nat × Nat × Nat} (h : bestOffer os = some o) :
    o ∈ os ∧ ∀ p ∈ os, o.1 < p.1 ∨ (o.1 = p.1 ∧ o.2.1 ≤ p.2.1) := by
  induction os generalizing o with
  | nil => simp [bestOffer] at h
  | cons p os ih =>
    rw [bestOffer] at h
    cases hbest : bestOffer os with
    | none =>
      have hnil : os = [] := by
        cases os with
        | nil => rfl
        | cons q qs =>
          rw [bestOffer] at hbest
          split at hbest
          · simp at hbest
          · split at hbest <;> simp at hbest
      simp only [hbest, Option.some.injEq] at h
      subst h hnil
      simp
    | some q =>
      obtain ⟨hq, hall⟩ := ih hbest
      simp only [hbest] at h
      split at h
      next hp =>
        simp only [Option.some.injEq] at h
        subst h
        refine ⟨List.mem_cons_self, fun r hr => ?_⟩
        rcases List.mem_cons.mp hr with rfl | hr
        · exact .inr ⟨rfl, le_refl _⟩
        · have := hall r hr
          omega
      next hp =>
        simp only [Option.some.injEq] at h
        subst h
        refine ⟨List.mem_cons_of_mem _ hq, fun r hr => ?_⟩
        rcases List.mem_cons.mp hr with rfl | hr
        · omega
        · exact hall r hr

section
variable {s : State} {ch : Nat}

theorem canCh_canIntegrated (k : Nat) : (s.canIntegrated ch).canCh k = s.canCh k := by
  unfold State.canIntegrated
  split
  · exact canCh_hfSet ..
  · rfl

/-- The first traffic ends the integration, and changes no offer. -/
theorem offers_canIntegrated (hch : ch < 8) : (s.canIntegrated ch).offers ch = s.offers ch := by
  have honly := canIntegrated_only (s := s) hch
  have hbound : (s.canIntegrated ch).canBound ch = s.canBound ch :=
    canBound_congr (fun c _ => ⟨hf_of_pde honly.pde, hf_of_pde honly.pde, hf_of_pde honly.pde⟩) ch
  unfold State.offers
  rw [hbound]
  refine List.filterMap_congr fun c hc => ?_
  have hc := (mem_canBound.mp hc).chan
  dsimp only
  rw [State.mailbox, hf_of_pde honly.pde, honly.chan, State.pdeState, hf_of_pde honly.pde, canTt_congr honly, canCh_canIntegrated]
  rfl

theorem canMaySend_on (h : s.canMaySend ch = true) : s.canOn ch = true ∧ ch < 8 := by
  simp only [State.canMaySend, Bool.and_eq_true] at h
  have hon := h.1.1.1.1
  simp only [State.canOn, Bool.and_eq_true, decide_eq_true_eq] at hon
  exact ⟨h.1.1.1.1, by omega⟩

theorem exec_canTransmitStart {o : Nat × Nat × Nat} (hsend : s.canMaySend ch = true) (hbest : bestOffer (s.offers ch) = some o) :
    exec (.canTransmitStart ch) s = .next ((s.canIntegrated ch).chanUpd o.2.2 (fun x => { x with onWire := true })) := by
  show execCanTransmitStart ch s = _
  rw [execCanTransmitStart, if_neg (by simp [hsend])]
  dsimp only
  rw [offers_canIntegrated (canMaySend_on hsend).2, hbest]

end

/-! ### The item on the wire -/

theorem EventOnly.chan {s t : State} (h : EventOnly s t) (c : Nat) : t.chan c = s.chan c := chan_congr (by rw [h.pde]) c

theorem hf_emit (s : State) (k : EmitKind) (place tag : Nat) (b : List Byte) (f : Fld) : (s.emit k place tag b).hf f = s.hf f := rfl

/-- A cyclic output channel never waits for its completion queue. -/
theorem not_mayStall {s : State} {c : Nat} (hmode : s.hf (PDE_CFG_MODE c) = 2) : ¬s.mayStall c := fun hs => by
  simp [State.mayStall, hmode] at hs

theorem mailbox_lt (s : State) (c : Nat) : s.mailbox c < 128 := Nat.mod_lt _ (by decide)

/-- Cyclic item `it` of engine channel `c` is on the wire of a channel that is on the bus. -/
structure State.Sending (s : State) (ch c : Nat) (it : Item) : Prop where
  on : s.canOn ch = true
  noRef : (s.canCh ch).refWire = false
  wire : s.wireChan ch = some c
  out : (s.chan c).out = some it
  mode : s.hf (PDE_CFG_MODE c) = 2

namespace State.Sending

variable {s : State} {ch c : Nat} {it : Item} (h : s.Sending ch c it)
include h

theorem can_lt : ch < 8 := by
  have hon := h.on
  simp only [State.canOn, Bool.and_eq_true, decide_eq_true_eq] at hon
  omega

theorem chan_lt : c < 192 := (mem_canBound.mp (List.mem_of_find?_eq_some h.wire)).chan

theorem noStall : ¬s.mayStall c := not_mayStall h.mode

section
variable (hcancel : (s.chan c).cancel = false) (habort : (s.chan c).abort = false) (hnewer : (s.chan c).newer = none)
include hcancel habort hnewer

theorem exec_arbitrationLost : exec (.canArbitrationLost ch) s = .next (s.chanUpd c (fun x => { x with onWire := false })) := by
  show execCanArbitrationLost ch s = _
  rw [execCanArbitrationLost, if_neg (by simp [h.on]), if_neg (by simp [h.noRef]), State.wireFails, h.wire]
  dsimp only
  rw [if_neg (by simp [hcancel, habort]), State.offWire]
  simp only [hnewer]

end

theorem exec_transmitError (e : CanErr) : exec (.canTransmitError ch e) s = .next (((s.canErrCount ch e).retryItem ch c).canTxBad ch) := by
  show execCanTransmitError ch e s = _
  rw [execCanTransmitError, if_neg (by simp [h.on]), if_neg (by simp [h.noRef]), h.wire]

omit h in
theorem canErrCount_only (hch : ch < 8) (e : CanErr) :
    CanOnly (fun a => a = 0x50200038 + 0x1000 * ch ∨ a = 0x5020003C + 0x1000 * ch) s (s.canErrCount ch e) := by
  unfold State.canErrCount
  cases e
  · exact .hcount (.cntAdd (.refl _ s)) (.inl rfl)
  · exact .hcount (.cntAdd (.refl _ s)) (.inl rfl)
  · exact .hcount (.cntAdd (.refl _ s)) (.inl rfl)
  · exact .hcount (.cntAdd (.refl _ s)) (.inl rfl)
  · exact .hcount (.cntAdd (.refl _ s)) (.inr rfl)

omit h in
theorem hf_canErrCount_drop (e : CanErr) : (s.canErrCount ch e).hf (CAN_CNT_ERR2_RETRYDROP ch) = s.hf (CAN_CNT_ERR2_RETRYDROP ch) := by
  unfold State.canErrCount
  cases e
  · exact State.hf_hcount_apart _ _ _ _ Fld.apart_of_reg
  · exact State.hf_hcount_apart _ _ _ _ Fld.apart_of_reg
  · exact State.hf_hcount_apart _ _ _ _ Fld.apart_of_reg
  · exact State.hf_hcount_apart _ _ _ _ Fld.apart_of_reg
  · exact State.hf_hcount_apart _ _ _ _ Fld.apart_of_bits

section
variable (hcancel : (s.chan c).cancel = false) (habort : (s.chan c).abort = false) (hnewer : (s.chan c).newer = none) (e : CanErr)
include hcancel habort hnewer

/-- An error counts against the item; beyond the limit it is dropped. -/
theorem retryItem_eq : (s.canErrCount ch e).retryItem ch c =
    if s.hf (CAN_TXCFG_RETRY_LIM ch (s.mailbox c - 64)) ≠ 15 ∧ s.hf (CAN_TXCFG_RETRY_LIM ch (s.mailbox c - 64)) < (s.chan c).retries + 1 then
      (((((s.canErrCount ch e).chanUpd c (fun x => { x with onWire := false, retries := (s.chan c).retries + 1 })).hubEvt 0x4511
        [(1, ch), (1, s.mailbox c)]).cntAdd (chanObj c 2) 1 1).hcount (CAN_CNT_ERR2_RETRYDROP ch) 1).chanUpd c
          (fun x => { x with out := none, retries := 0 })
    else (s.canErrCount ch e).chanUpd c (fun x => { x with onWire := false, retries := (s.chan c).retries + 1 }) := by
  have hcounted := canErrCount_only (s := s) h.can_lt e
  have hc := h.chan_lt
  have hch := h.can_lt
  have hm := mailbox_lt s c
  have hmailbox : (s.canErrCount ch e).mailbox c = s.mailbox c := by rw [State.mailbox, hf_of_pde hcounted.pde, State.mailbox]
  have hlim : (s.canErrCount ch e).hf (CAN_TXCFG_RETRY_LIM ch (s.mailbox c - 64)) = s.hf (CAN_TXCFG_RETRY_LIM ch (s.mailbox c - 64)) :=
    hcounted.hf (by dsimp only; omega)
  rw [State.retryItem, hcounted.chan, if_neg (by simp [hcancel, habort]), if_neg (by simp [hnewer])]
  dsimp only
  rw [hmailbox, hlim]
  refine if_congr Iff.rfl (if_neg ?_) rfl
  rw [State.hf_cntAdd, State.hf_hubEvt, State.hf_chanUpd, hf_of_pde hcounted.pde, h.mode]
  decide

theorem error_retries (hlim : s.hf (CAN_TXCFG_RETRY_LIM ch (s.mailbox c - 64)) = 15 ∨
      (s.chan c).retries + 1 ≤ s.hf (CAN_TXCFG_RETRY_LIM ch (s.mailbox c - 64))) : ∃ t, exec (.canTransmitError ch e) s = .next t ∧
    (t.chan c).out = some it ∧ (t.chan c).onWire = false ∧ (t.chan c).retries = (s.chan c).retries + 1 ∧
      t.hf (CAN_STAT_TEC ch) = min 256 (s.hf (CAN_STAT_TEC ch) + 8) := by
  have hcounted := canErrCount_only (s := s) h.can_lt e
  have hc := h.chan_lt
  have hch := h.can_lt
  obtain ⟨hchan, htec, -⟩ := canTxBad_raises (s := (s.canErrCount ch e).chanUpd c
    (fun x => { x with onWire := false, retries := (s.chan c).retries + 1 })) h.can_lt (d := c) (by rw [State.chan_chanUpd_same])
    (not_mayStall (by rw [State.hf_chanUpd, hf_of_pde hcounted.pde, h.mode]))
  refine ⟨_, h.exec_transmitError e, ?_⟩
  rw [h.retryItem_eq hcancel habort hnewer, if_neg (by omega), hchan, htec, State.chan_chanUpd_same, hcounted.chan, State.hf_chanUpd,
    hcounted.hf (by dsimp only; omega)]
  exact ⟨h.out, rfl, rfl, rfl⟩

theorem error_drops (hne : s.hf (CAN_TXCFG_RETRY_LIM ch (s.mailbox c - 64)) ≠ 15)
    (hlim : s.hf (CAN_TXCFG_RETRY_LIM ch (s.mailbox c - 64)) < (s.chan c).retries + 1) : ∃ t, exec (.canTransmitError ch e) s = .next t ∧
    (t.chan c).out = none ∧ (t.chan c).onWire = false ∧
      t.hf (CAN_CNT_ERR2_RETRYDROP ch) = satAdd 0xFF (s.hf (CAN_CNT_ERR2_RETRYDROP ch)) 1 := by
  have hcounted := canErrCount_only (s := s) h.can_lt e
  have hc := h.chan_lt
  have hch := h.can_lt
  have hdropped : ∀ u, u = ((((s.canErrCount ch e).chanUpd c (fun x => { x with onWire := false, retries := (s.chan c).retries + 1 })).hubEvt
      0x4511 [(1, ch), (1, s.mailbox c)]).cntAdd (chanObj c 2) 1 1).hcount (CAN_CNT_ERR2_RETRYDROP ch) 1 →
      (u.chan c).onWire = false ∧ u.hf (PDE_CFG_MODE c) = 2 ∧
        u.hf (CAN_CNT_ERR2_RETRYDROP ch) = satAdd 0xFF (s.hf (CAN_CNT_ERR2_RETRYDROP ch)) 1 := by
    rintro u rfl
    refine ⟨?_, ?_, ?_⟩
    · rw [State.hcount, chan_hfSet, chan_cntAdd, (hubEvt_eventOnly ..).chan, State.chan_chanUpd_same]
    · rw [State.hf_hcount_apart _ _ _ _ Fld.apart_of_reg, State.hf_cntAdd, State.hf_hubEvt, State.hf_chanUpd, hf_of_pde hcounted.pde, h.mode]
    · rw [State.hf_hcount_same _ _ _ rfl, State.hf_cntAdd, State.hf_hubEvt, State.hf_chanUpd, hf_canErrCount_drop]
      rfl
  obtain ⟨hwire, hmode, hcount⟩ := hdropped _ rfl
  rw [h.exec_transmitError e, h.retryItem_eq hcancel habort hnewer e, if_pos ⟨hne, hlim⟩]
  obtain ⟨hchan, -, hdrop⟩ := canTxBad_raises hch (s := State.chanUpd _ c (fun x => { x with out := none, retries := 0 })) (d := c)
    (by rw [State.chan_chanUpd_same]; exact hwire) (not_mayStall (by rw [State.hf_chanUpd]; exact hmode))
  refine ⟨_, rfl, ?_, ?_, ?_⟩
  · rw [hchan, State.chan_chanUpd_same]
  · rw [hchan, State.chan_chanUpd_same]
    exact hwire
  · rw [hdrop, State.hf_chanUpd, hcount]

end

/-! ### Completion (R346, R347) -/

omit h in
theorem canTxGood_only (hch : ch < 8) : CanOnly (canStatReg ch) s (s.canTxGood ch) := by
  have htec {n : Nat} : CanOnly (canStatReg ch) s (s.hfSet (CAN_STAT_TEC ch) n) := .hfSet (.refl _ s) rfl
  have hactive {n : Nat} : CanOnly (canStatReg ch) s ((s.hfSet (CAN_STAT_TEC ch) n).hfSet (CAN_STAT_STATE ch) 2) := htec.hfSet rfl
  unfold State.canTxGood
  exact .ite (hactive.evt (hubEvt_eventOnly ..)) htec

omit h in
theorem hf_canTxGood (s : State) (ch : Nat) : (s.canTxGood ch).hf (CAN_STAT_TEC ch) = s.hf (CAN_STAT_TEC ch) - 1 := by
  have htec : (s.hfSet (CAN_STAT_TEC ch) (s.hf (CAN_STAT_TEC ch) - 1)).hf (CAN_STAT_TEC ch) = s.hf (CAN_STAT_TEC ch) - 1 :=
    hf_hfSet_fits _ rfl (Nat.lt_of_le_of_lt (Nat.sub_le ..) (hf_lt ..))
  unfold State.canTxGood
  dsimp only
  split
  · rw [State.hf_hubEvt, State.hf_hfSet_apart _ _ _ _ Fld.apart_of_bits, htec]
  · exact htec

/-- A frame that was sent all the same is reported as cancelled too late. -/
def cancelledLate (s : State) (ch c m : Nat) : State :=
  ((((s.hfSet (cancelBit ch m) 0).hfSet (CAN_INT_STAT_CANCEL ch) 1).hcount (CAN_CNT_ERR2_CANLATE ch) 1).cntAdd (chanObj c 2) 2 1).hubEvt
    0x4512 [(1, ch), (1, m)]

omit h in
theorem cancelledLate_only (hch : ch < 8) (m : Nat) : CanOnly (fun a => a = 0x50200020 + 0x1000 * ch ∨ a = 0x5020004C + 0x1000 * ch ∨
    a = 0x5020003C + 0x1000 * ch) s (cancelledLate s ch c m) :=
  .evt (.cntAdd (.hcount (.hfSet (.hfSet (.refl _ s) (.inl rfl) (by simp only [cancelBit]; omega)) (.inr (.inl rfl))) (.inr (.inr rfl))))
    (hubEvt_eventOnly ..)

/-- The frame of an item has been sent and counted. -/
def frameSent (s : State) (ch m : Nat) (b : List Byte) : State :=
  (((s.canTxGood ch).hcount (CAN_CNT_TX ch) 1).cntAdd (0x4010 + 0x100 * ch) 2 1).emit .can ch m b

theorem exec_transmitComplete : exec (.canTransmitComplete ch) s = .next ((if
    ((frameSent s ch (s.mailbox c) it.payload).chan c).cancel || ((frameSent s ch (s.mailbox c) it.payload).chan c).abort then
      cancelledLate (frameSent s ch (s.mailbox c) it.payload) ch c (s.mailbox c)
    else frameSent s ch (s.mailbox c) it.payload).outputSent c) := by
  show execCanTransmitComplete ch s = _
  rw [execCanTransmitComplete, if_neg (by simp [h.on]), if_neg (by simp [h.noRef]), h.wire]
  dsimp only
  rw [h.out]
  rfl

omit h in
theorem frameSent_keeps (hch : ch < 8) (m : Nat) (b : List Byte) : (frameSent s ch m b).pde = s.pde ∧
    (frameSent s ch m b).tx = ⟨.can, ch, m, b⟩ :: s.tx ∧ (frameSent s ch m b).hf (CAN_CNT_TX ch) = satAdd 0xFFFFFFFF (s.hf (CAN_CNT_TX ch)) 1 ∧
      (frameSent s ch m b).hf (CAN_STAT_TEC ch) = s.hf (CAN_STAT_TEC ch) - 1 := by
  have hcounted : CanOnly (fun _ => True) s (((s.canTxGood ch).hcount (CAN_CNT_TX ch) 1).cntAdd (0x4010 + 0x100 * ch) 2 1) :=
    .cntAdd (.hcount ((canTxGood_only hch).mono fun _ _ => trivial) trivial)
  refine ⟨hcounted.pde, ?_, ?_, ?_⟩
  · rw [frameSent, State.emit_tx, hcounted.tx]
  · rw [frameSent, hf_emit, State.hf_cntAdd, State.hf_hcount_same _ _ _ rfl, (canTxGood_only hch).hf (by unfold canStatReg; dsimp only; omega)]
    rfl
  · rw [frameSent, hf_emit, State.hf_cntAdd, State.hf_hcount_apart _ _ _ _ Fld.apart_of_reg, hf_canTxGood]

/-- A cyclic item that was sent is counted, and a newer one follows. -/
theorem outputSent_cyclic {t : State} (hpde : t.pde = s.pde) : t.outputSent c =
    (t.pdeCount c).chanUpd c (fun x => { x with out := x.newer, newer := none, onWire := false, retries := 0, cancel := false }) := by
  have hc := h.chan_lt
  rw [State.outputSent, hf_of_pde hpde, h.mode]
  rfl

theorem complete_sends : ∃ t, exec (.canTransmitComplete ch) s = .next t ∧ (t.chan c).out = (s.chan c).newer ∧ (t.chan c).onWire = false ∧
    t.tx = ⟨.can, ch, s.mailbox c, it.payload⟩ :: s.tx ∧ t.hf (CAN_CNT_TX ch) = satAdd 0xFFFFFFFF (s.hf (CAN_CNT_TX ch)) 1 ∧
      t.hf (CAN_STAT_TEC ch) = s.hf (CAN_STAT_TEC ch) - 1 := by
  have hch := h.can_lt
  have hc := h.chan_lt
  obtain ⟨hpde, htx, hcount, htec⟩ := frameSent_keeps (s := s) hch (s.mailbox c) it.payload
  rw [h.exec_transmitComplete]
  generalize frameSent s ch (s.mailbox c) it.payload = u at *
  generalize hv : (if (u.chan c).cancel || (u.chan c).abort then cancelledLate u ch c (s.mailbox c) else u) = v
  have hlate : CanOnly (fun a => a = 0x50200020 + 0x1000 * ch ∨ a = 0x5020004C + 0x1000 * ch ∨ a = 0x5020003C + 0x1000 * ch) u v :=
    hv ▸ .ite (cancelledLate_only hch _) (.refl _ u)
  have hchan : v.chan c = s.chan c := chan_congr (by rw [hlate.pde, hpde]) c
  refine ⟨_, rfl, ?_⟩
  rw [h.outputSent_cyclic (hlate.pde.trans hpde), State.chan_chanUpd_same, State.hf_chanUpd, State.hf_chanUpd, State.chanUpd_tx, State.pdeCount,
    chan_cntAdd, State.hcount, chan_hfSet, hchan, State.cntAdd_tx, State.hfSet_tx, hlate.tx, htx, State.hf_cntAdd, State.hf_cntAdd]
  refine ⟨rfl, rfl, rfl, ?_, ?_⟩
  · rw [State.hf_hfSet_apart _ _ _ _ Fld.apart_of_reg, hlate.hf (by dsimp only; omega), hcount]
  · rw [State.hf_hfSet_apart _ _ _ _ Fld.apart_of_reg, hlate.hf (by dsimp only; omega), htec]

end State.Sending

/-! ### Cancellation (R347, R348) -/

/-- What the cancel of another mailbox's item leaves of channel `c`, its binding and its cancel bit `i`. -/
structure CancelKept (ch i c : Nat) (s t : State) : Prop where
  cfg : ∀ d, d < 192 → t.hreg (0x50000000 + 0x100 * d) = s.hreg (0x50000000 + 0x100 * d) ∧
    t.hreg (0x50000004 + 0x100 * d) = s.hreg (0x50000004 + 0x100 * d)
  chan : t.chan c = s.chan c
  bit : t.hf ⟨0x50200020 + 0x1000 * ch, i, i⟩ = s.hf ⟨0x50200020 + 0x1000 * ch, i, i⟩
  dropped : t.hf (PDE_CNT_DROP_DROPPED c) = s.hf (PDE_CNT_DROP_DROPPED c)

namespace CancelKept

variable {ch i c : Nat} {s t u : State}

theorem refl (ch i c : Nat) (s : State) : CancelKept ch i c s s := ⟨fun _ _ => ⟨rfl, rfl⟩, rfl, rfl, rfl⟩

theorem trans (h : CancelKept ch i c s t) (g : CancelKept ch i c t u) : CancelKept ch i c s u where
  cfg d hd := ⟨(g.cfg d hd).1.trans (h.cfg d hd).1, (g.cfg d hd).2.trans (h.cfg d hd).2⟩
  chan := g.chan.trans h.chan
  bit := g.bit.trans h.bit
  dropped := g.dropped.trans h.dropped

/-- A field of a channel's CFG or SRC. -/
theorem hf (h : CancelKept ch i c s t) {d : Nat} (hd : d < 192) {f : Fld}
    (hf : f.reg = 0x50000000 + 0x100 * d ∨ f.reg = 0x50000004 + 0x100 * d := by dsimp only; omega) : t.hf f = s.hf f := by
  obtain ⟨hcfg, hsrc⟩ := h.cfg d hd
  rcases hf with hf | hf <;> simp only [State.hf, hf, hcfg, hsrc]

theorem canOf (h : CancelKept ch i c s t) (k m : Nat) : t.canOf k m = s.canOf k m := by
  have hbound : t.canBound k = s.canBound k := canBound_congr (fun d hd => ⟨h.hf hd, h.hf hd, h.hf hd⟩) k
  unfold State.canOf
  rw [hbound]
  refine List.find?_congr fun d hd => ?_
  rw [State.mailbox, h.hf (mem_canBound.mp hd).chan, State.mailbox]

end CancelKept

/-- What ends the item of one mailbox leaves those of the others. -/
theorem ItemOnly.cancelKept {ch i b c d : Nat} {s t : State} (h : ItemOnly ch b d s t) (_ : ch < 8) (hc : c < 192) (_ : d < 192)
    (hcd : c ≠ d) (hib : i ≠ b) (hmode : s.hf (PDE_CFG_MODE c) = 2) : CancelKept ch i c s t where
  cfg e he := ⟨h.reg _ (by unfold engineReg; omega) (by omega) (by omega), h.reg _ (by unfold engineReg; omega) (by omega) (by omega)⟩
  chan := h.other c hcd (not_mayStall hmode)
  bit := h.bit i hib
  dropped := h.hf

theorem cancelBit_ok {ch j : Nat} (hj : j < 64) : (cancelBit ch (64 + j)).ok = true := by
  simp [cancelBit, Fld.ok, hj]

section
variable {s : State} {ch i j c : Nat} {l : LaneId} (hch : ch < 8)
include hch

/-- An item on the wire is marked. -/
theorem cancelMark_only (hj : j < 64) (hc : c < 192) :
    ItemOnly ch j c s ((s.chanUpd c (fun x => { x with cancel := true })).hfSet (cancelBit ch (64 + j)) 1) :=
  .hfSet hch (.engine hch hc (.refl ..) (.chanUpd (.refl c s))) (.inl ⟨rfl, fun k hk => Fld.apart_of_bits (cancelBit_ok hj) (by simp) (by
    simp only [cancelBit]
    omega)⟩)

/-- The cancel of another mailbox. -/
theorem cancelMailbox_other (hj : j < 32) (hij : i ≠ j) (hc : s.canOf ch (64 + i) = some c) (hmode : s.hf (PDE_CFG_MODE c) = 2) :
    CancelKept ch i c s (s.cancelMailbox l ch (64 + j)) := by
  have hbound := boundTo_of_canOf hc
  unfold State.cancelMailbox
  split
  · exact .refl ..
  next d hd =>
    have hbound' := boundTo_of_canOf hd
    have hne : c ≠ d := fun e => by
      have h1 := hbound.mailbox
      have h2 := hbound'.mailbox
      rw [← e] at h2
      omega
    split
    · exact .refl ..
    · split
      · exact (cancelMark_only hch (by omega) hbound'.chan).cancelKept hch hbound.chan hbound'.chan hne hij hmode
      · exact (removeCancelled_only hch hbound'.chan).cancelKept hch hbound.chan hbound'.chan hne (by rw [hbound'.mailbox]; omega) hmode

/-- One cancel bit that a lane writes. -/
def cancelOne (l : LaneId) (ch v : Nat) (s : State) (i : Nat) : State := if bitOf v i then s.cancelMailbox l ch (64 + i) else s

omit hch in
theorem txCancel_eq (v : Nat) : s.txCancel l ch v = (List.range 32).foldl (cancelOne l ch v) s := rfl

/-- The cancels of other mailboxes. -/
theorem cancels_other {js : List Nat} (hjs : ∀ j ∈ js, j < 32 ∧ i ≠ j) {v : Nat} (hc : s.canOf ch (64 + i) = some c)
    (hmode : s.hf (PDE_CFG_MODE c) = 2) : CancelKept ch i c s (js.foldl (cancelOne l ch v) s) := by
  induction js generalizing s with
  | nil => exact .refl ..
  | cons j js ih =>
    obtain ⟨hj, hij⟩ := hjs j List.mem_cons_self
    have hone : CancelKept ch i c s (cancelOne l ch v s j) := by
      unfold cancelOne
      split
      · exact cancelMailbox_other hch hj hij hc hmode
      · exact .refl ..
    have hc192 := (boundTo_of_canOf hc).chan
    exact hone.trans (ih (fun k hk => hjs k (List.mem_cons_of_mem _ hk)) (by rw [hone.canOf, hc]) (by rw [hone.hf hc192, hmode]))

omit hch in
/-- The bits before one of a word's, and those after it. -/
theorem bits_split (hi : i < 32) : ∃ before after, List.range 32 = before ++ i :: after ∧ (∀ j ∈ before, j < 32 ∧ i ≠ j) ∧
    ∀ j ∈ after, j < 32 ∧ i ≠ j := by
  obtain ⟨before, after, hsplit⟩ := List.append_of_mem (List.mem_range.mpr hi)
  have hnodup : (i :: (before ++ after)).Nodup := List.nodup_middle.mp (hsplit ▸ List.nodup_range)
  have hlt (j : Nat) (hj : j ∈ before ++ i :: after) : j < 32 := List.mem_range.mp (hsplit ▸ hj)
  have hne (j : Nat) (hj : j ∈ before ++ after) : i ≠ j := fun heq => (List.nodup_cons.mp hnodup).1 (heq ▸ hj)
  exact ⟨before, after, hsplit, fun j hj => ⟨hlt j (by simp [hj]), hne j (by simp [hj])⟩, fun j hj => ⟨hlt j (by simp [hj]), hne j (by simp [hj])⟩⟩

/-- A written cancel bit acts on its own mailbox as if it stood alone. -/
theorem txCancel_bit {v : Nat} (hi : i < 32) (hv : bitOf v i = true) (hc : s.canOf ch (64 + i) = some c) (hmode : s.hf (PDE_CFG_MODE c) = 2)
    (hcancelled : ∀ u, CancelKept ch i c s u → (u.cancelMailbox l ch (64 + i)).canOf ch (64 + i) = some c ∧
      (u.cancelMailbox l ch (64 + i)).hf (PDE_CFG_MODE c) = 2) :
    ∃ u, CancelKept ch i c s u ∧ CancelKept ch i c (u.cancelMailbox l ch (64 + i)) (s.txCancel l ch v) := by
  obtain ⟨before, after, hsplit, hbefore, hafter⟩ := bits_split hi
  have hfirst := cancels_other (l := l) (v := v) hch hbefore hc hmode
  obtain ⟨hof, hmode'⟩ := hcancelled _ hfirst
  refine ⟨_, hfirst, ?_⟩
  rw [txCancel_eq, hsplit, List.foldl_append, List.foldl_cons, cancelOne, if_pos hv]
  exact cancels_other hch hafter hof hmode'

omit hch in
theorem bitOf_txcancel (t : State) (hi : i < 32) :
    bitOf (t.hf (CAN_TXCANCEL ch)) i = (t.hf ⟨0x50200020 + 0x1000 * ch, i, i⟩ == 1) := by
  show bitOf (bitsOf _ 31 0) i = _
  rw [bitOf_bitsOf_zero _ (by omega), bitOf_eq_bitsOf]
  rfl

omit hch in
theorem ItemOnly.canOf {b m k : Nat} {t : State} (h : ItemOnly ch b c s t) : t.canOf k m = s.canOf k m := by
  have hbound : t.canBound k = s.canBound k := canBound_congr (fun d hd => ⟨h.hf, h.hf, h.hf⟩) k
  unfold State.canOf
  rw [hbound]
  refine List.find?_congr fun d hd => ?_
  have hd := (mem_canBound.mp hd).chan
  rw [State.mailbox, h.hf, State.mailbox]

section
variable {u : State} {m : Nat} (hof : u.canOf ch m = some c)
include hof

omit hch in
theorem cancelMailbox_unplaced (hplace : u.hf (PDE_CFG_PLACE c) ≠ l.idx + 1) : u.cancelMailbox l ch m = u := by
  rw [State.cancelMailbox, hof]
  exact if_pos (by simp [hplace])

variable {it : Item} (hplace : u.hf (PDE_CFG_PLACE c) = l.idx + 1) (hout : (u.chan c).out = some it)
include hplace hout

omit hch in
theorem cancelMailbox_wire (hwire : (u.chan c).onWire = true) :
    u.cancelMailbox l ch m = (u.chanUpd c (fun x => { x with cancel := true })).hfSet (cancelBit ch m) 1 := by
  rw [State.cancelMailbox, hof]
  exact (if_neg (by simp [hplace, hout])).trans (if_pos hwire)

omit hch in
theorem cancelMailbox_waiting (hwire : (u.chan c).onWire = false) : u.cancelMailbox l ch m = u.removeCancelled ch c := by
  rw [State.cancelMailbox, hof]
  exact (if_neg (by simp [hplace, hout])).trans (if_neg (by simp [hwire]))

end

omit hch in
/-- A cyclic item that is removed makes room for a newer one; its bit reads 0 and it counts as dropped. -/
theorem removeCancelled_cyclic {u : State} (hi : i < 32) (hof : u.canOf ch (64 + i) = some c) (hmode : u.hf (PDE_CFG_MODE c) = 2) :
    ((u.removeCancelled ch c).chan c).out = (u.chan c).newer ∧
      (u.removeCancelled ch c).hf ⟨0x50200020 + 0x1000 * ch, i, i⟩ = 0 ∧
      (u.removeCancelled ch c).hf (PDE_CNT_DROP_DROPPED c) = satAdd 0xFFFF (u.hf (PDE_CNT_DROP_DROPPED c)) 1 := by
  have hbound := boundTo_of_canOf hof
  have hc := hbound.chan
  have hbit : cancelBit ch (64 + i) = ⟨0x50200020 + 0x1000 * ch, i, i⟩ := by rw [cancelBit, Nat.add_sub_cancel_left]
  have hok : (cancelBit ch (64 + i)).ok = true := cancelBit_ok (by omega)
  have heq : u.removeCancelled ch c = (((u.hfSet (cancelBit ch (64 + i)) 0).hfSet (CAN_INT_STAT_CANCEL ch) 1).pdeDrop c).chanUpd c
      (fun x => { x with out := x.newer, newer := none, onWire := false, retries := 0, cancel := false }) := by
    rw [← hbound.mailbox]
    refine if_neg ?_
    rw [State.hf_hfSet_apart _ _ _ _ Fld.apart_of_reg, State.hf_hfSet_apart _ _ _ _ (Fld.apart_of_reg (hbound.mailbox ▸ hok) (by simp) (by
      dsimp only
      omega)), hmode]
    decide
  rw [heq, State.chan_chanUpd_same, State.hf_chanUpd, State.hf_chanUpd, chan_pdeDrop, chan_hfSet, chan_hfSet, hf_pdeDrop_count, ← hbit]
  refine ⟨rfl, ?_, ?_⟩
  · rw [hf_pdeDrop _ _ (.of_reg (by dsimp only [cancelBit]; omega) (by simp [cancelBit])), State.hf_hfSet_apart _ _ _ _ (Fld.apart_of_reg rfl
      (by simp [cancelBit]) (by dsimp only [cancelBit]; omega)), State.hf_hfSet_same _ _ _ hok, Nat.zero_mod]
  · rw [State.hf_hfSet_apart _ _ _ _ Fld.apart_of_reg, State.hf_hfSet_apart _ _ _ _ (Fld.apart_of_reg hok (by simp) (by
      dsimp only [cancelBit]
      omega))]

theorem exec_canTxcancelWrite (v : Nat) (hs : s.hub.supplied = true) : exec (.canTxcancelWrite l ch v) s = .next (s.txCancel l ch v) :=
  if_pos (by simp [hs, hch])

/-- The three cases of a cancel: another lane's channel, an item on the wire, and one that waits. -/
theorem txcancelWrite_cases {v : Nat} {it : Item} (hs : s.hub.supplied = true) (hi : i < 32) (hv : bitOf v i = true)
    (hc : s.canOf ch (64 + i) = some c) (hmode : s.hf (PDE_CFG_MODE c) = 2) (hout : (s.chan c).out = some it) :
    (s.hf (PDE_CFG_PLACE c) ≠ l.idx + 1 → ∃ t, exec (.canTxcancelWrite l ch v) s = .next t ∧ t.chan c = s.chan c) ∧
    (s.hf (PDE_CFG_PLACE c) = l.idx + 1 → (s.chan c).onWire = true → ∃ t, exec (.canTxcancelWrite l ch v) s = .next t ∧
      (t.chan c).cancel = true ∧ (t.chan c).out = some it ∧ bitOf (t.hf (CAN_TXCANCEL ch)) i = true) ∧
    (s.hf (PDE_CFG_PLACE c) = l.idx + 1 → (s.chan c).onWire = false → ∃ t, exec (.canTxcancelWrite l ch v) s = .next t ∧
      (t.chan c).out = (s.chan c).newer ∧ bitOf (t.hf (CAN_TXCANCEL ch)) i = false ∧
        t.hf (PDE_CNT_DROP_DROPPED c) = satAdd 0xFFFF (s.hf (PDE_CNT_DROP_DROPPED c)) 1) := by
  have hbound := boundTo_of_canOf hc
  have hc192 := hbound.chan
  have hkept {u : State} (hu : CancelKept ch i c s u) : u.canOf ch (64 + i) = some c ∧ u.hf (PDE_CFG_MODE c) = 2 ∧
      u.hf (PDE_CFG_PLACE c) = s.hf (PDE_CFG_PLACE c) ∧ u.chan c = s.chan c :=
    ⟨(hu.canOf ..).trans hc, (hu.hf hc192).trans hmode, hu.hf hc192, hu.chan⟩
  have hbit : cancelBit ch (64 + i) = ⟨0x50200020 + 0x1000 * ch, i, i⟩ := by rw [cancelBit, Nat.add_sub_cancel_left]
  refine ⟨fun hplace => ?_, fun hplace hwire => ?_, fun hplace hwire => ?_⟩
  · have hone {u : State} (hu : CancelKept ch i c s u) : u.cancelMailbox l ch (64 + i) = u := by
      obtain ⟨hof, -, hp, -⟩ := hkept hu
      exact cancelMailbox_unplaced hof (by rwa [hp])
    obtain ⟨u, hu, ht⟩ := txCancel_bit (l := l) hch hi hv hc hmode fun u hu => by rw [hone hu]; exact ⟨(hkept hu).1, (hkept hu).2.1⟩
    exact ⟨_, exec_canTxcancelWrite hch v hs, by rw [ht.chan, hone hu, hu.chan]⟩
  · have hone {u : State} (hu : CancelKept ch i c s u) : u.cancelMailbox l ch (64 + i) =
        (u.chanUpd c (fun x => { x with cancel := true })).hfSet (cancelBit ch (64 + i)) 1 := by
      obtain ⟨hof, -, hp, hchan⟩ := hkept hu
      exact cancelMailbox_wire hof (by rwa [hp]) (by rwa [hchan]) (by rwa [hchan])
    have honly (u : State) := cancelMark_only (s := u) (j := i) hch (by omega) hc192
    obtain ⟨u, hu, ht⟩ := txCancel_bit (l := l) hch hi hv hc hmode fun u hu => by
      rw [hone hu, (honly u).canOf, (honly u).hf]
      exact ⟨(hkept hu).1, (hkept hu).2.1⟩
    refine ⟨_, exec_canTxcancelWrite hch v hs, ?_⟩
    rw [ht.chan, bitOf_txcancel _ hi, ht.bit, hone hu, chan_hfSet, State.chan_chanUpd_same, hu.chan, ← hbit,
      State.hf_hfSet_same _ _ _ (cancelBit_ok (by omega))]
    exact ⟨rfl, hout, by simp [cancelBit]⟩
  · have hone {u : State} (hu : CancelKept ch i c s u) : u.cancelMailbox l ch (64 + i) = u.removeCancelled ch c := by
      obtain ⟨hof, -, hp, hchan⟩ := hkept hu
      exact cancelMailbox_waiting hof (by rwa [hp]) (by rwa [hchan]) (by rwa [hchan])
    have honly (u : State) := removeCancelled_only (s := u) hch hc192
    obtain ⟨u, hu, ht⟩ := txCancel_bit (l := l) hch hi hv hc hmode fun u hu => by
      rw [hone hu, (honly u).canOf, (honly u).hf]
      exact ⟨(hkept hu).1, (hkept hu).2.1⟩
    obtain ⟨hof, hmode', -, -⟩ := hkept hu
    obtain ⟨hnewer, hzero, hdropped⟩ := removeCancelled_cyclic hi hof hmode'
    refine ⟨_, exec_canTxcancelWrite hch v hs, ?_⟩
    rw [ht.chan, bitOf_txcancel _ hi, ht.bit, ht.dropped, hone hu, hnewer, hzero, hdropped, hu.chan, hu.dropped]
    exact ⟨rfl, rfl, rfl⟩

end

/-- Settles O35: the best offer by induction over the offers, the rest by what the end of one item leaves of the others. -/
theorem canItemsSentFromMailboxes : Obligations.CanItemsSentFromMailboxes := by
  unfold Obligations.CanItemsSentFromMailboxes
  refine fun s ch => ⟨fun k m c hsend hbest => ⟨⟨_, exec_canTransmitStart hsend hbest, ?_⟩, bestOffer_best hbest⟩,
    fun c it hon href hwire hout hmode => ?_, fun l v i c it hs hch hi hv hc hmode hout => txcancelWrite_cases hch hs hi hv hc hmode hout⟩
  · have hsame := (canIntegrated_only (s := s) (canMaySend_on hsend).2).chan
    refine ⟨?_, ?_, fun d hd => ?_⟩
    · rw [State.chan_chanUpd_same]
    · rw [State.chan_chanUpd_same, hsame]
    · rw [chan_chanUpd_other _ _ hd, hsame]
  · have hsending : s.Sending ch c it := ⟨hon, href, hwire, hout, hmode⟩
    exact ⟨fun hcancel habort hnewer => ⟨hsending.exec_arbitrationLost hcancel habort hnewer,
      fun e => hsending.error_retries hcancel habort hnewer e, fun e => hsending.error_drops hcancel habort hnewer e⟩, hsending.complete_sends⟩

end Sys2Proof.Machine

/-! Bus-off, recovery and restricted operation of a CAN channel; the triggers of time-triggered operation (12 R349 to R354). -/

namespace Sys2Proof.Machine

-- One proof after another: proofs that wait side by side each keep a stack, and many of them exceed the memory of a check.
set_option Elab.async false

section
variable {s : State} {ch : Nat} (hch : ch < 8)
include hch

/-! ### Bus-off (R349, R350) -/

omit hch in
theorem length_nextBoffs : (s.nextBoffs ch).length = (s.recentBoffs ch).length + 1 := rfl

/-- A bus-off shows its number, and that the channel waits its hold-off or is blocked. -/
theorem canBusOff_shows : (s.canBusOff ch).canState ch =
      (if s.hf (CAN_BOFF_BOFF_LIM ch) ≠ 0 ∧ s.hf (CAN_BOFF_BOFF_LIM ch) < (s.nextBoffs ch).length then 6 else 4) ∧
    (s.canBusOff ch).hf (CAN_BOFF_STAT_K ch) = min 255 (s.nextBoffs ch).length ∧
    (¬(s.hf (CAN_BOFF_BOFF_LIM ch) ≠ 0 ∧ s.hf (CAN_BOFF_BOFF_LIM ch) < (s.nextBoffs ch).length) →
      (s.canBusOff ch).hf (CAN_BOFF_STAT_HOLD_NOW ch) =
        min (s.hf (CAN_BOFF_HOLD_MIN ch) * 2 ^ ((s.nextBoffs ch).length - 1)) (s.hf (CAN_BOFF_HOLD_MAX ch) * 100)) := by
  have hcfg {g : Fld} (hr : g.reg = 0x50200014 + 0x1000 * ch) : ((s.wireFails ch).boffNoted ch).hf g = s.hf g := by
    rw [(boffNoted_only hch).hf (by rw [hr]; omega), hf_wireFails hch (by rw [hr]; omega)]
  have hk : ((s.wireFails ch).boffNoted ch).hf (CAN_BOFF_STAT_K ch) = min 255 (s.nextBoffs ch).length := by
    rw [State.boffNoted, State.hf_hfSet_apart _ _ _ _ Fld.apart_of_reg, nextBoffs_wireFails hch]
    exact hf_hfSet_fits _ rfl (by dsimp only; omega)
  rw [canBusOff_eq, nextBoffs_wireFails hch, hcfg rfl]
  by_cases hover : s.hf (CAN_BOFF_BOFF_LIM ch) ≠ 0 ∧ s.hf (CAN_BOFF_BOFF_LIM ch) < (s.nextBoffs ch).length
  · rw [if_pos hover, if_pos hover]
    refine ⟨?_, ?_, fun h => absurd hover h⟩
    · rw [State.boffBlocked, State.canState, State.hf_hubEvt, State.hf_hfSet_apart _ _ _ _ Fld.apart_of_reg]
      exact hf_hfSet_fits _ rfl (by simp)
    · rw [State.boffBlocked, State.hf_hubEvt, State.hf_hfSet_apart _ _ _ _ Fld.apart_of_reg, State.hf_hfSet_apart _ _ _ _ Fld.apart_of_reg, hk]
  · rw [if_neg hover, if_neg hover]
    refine ⟨?_, ?_, fun _ => ?_⟩
    · rw [State.boffHeld, State.canState, State.hf_hubEvt, State.hf_hfSet_apart _ _ _ _ Fld.apart_of_reg]
      exact hf_hfSet_fits _ rfl (by simp)
    · rw [State.boffHeld, State.hf_hubEvt, State.hf_hfSet_apart _ _ _ _ Fld.apart_of_bits, State.hf_hfSet_apart _ _ _ _ Fld.apart_of_reg,
        State.hf_canUpd, hk]
    · have hmax : s.hf (CAN_BOFF_HOLD_MAX ch) < 256 := hf_lt ..
      rw [State.boffHeld, State.hf_hubEvt, hcfg rfl, hcfg rfl]
      exact hf_hfSet_fits _ rfl (by dsimp only; omega)

omit hch in
theorem exec_canBusOff (hon : s.canOn ch = true) (htec : 256 ≤ s.hf (CAN_STAT_TEC ch)) : exec (.canBusOff ch) s = .next (s.goesOffBus ch) :=
  if_pos (by simp [hon, htec])

theorem goesOffBus_shows : (s.goesOffBus ch).canState ch =
      (if s.hf (CAN_BOFF_BOFF_LIM ch) ≠ 0 ∧ s.hf (CAN_BOFF_BOFF_LIM ch) < (s.nextBoffs ch).length then 6 else 4) ∧
    (s.goesOffBus ch).hf (CAN_BOFF_STAT_K ch) = min 255 (s.nextBoffs ch).length ∧
    (¬(s.hf (CAN_BOFF_BOFF_LIM ch) ≠ 0 ∧ s.hf (CAN_BOFF_BOFF_LIM ch) < (s.nextBoffs ch).length) →
      (s.goesOffBus ch).hf (CAN_BOFF_STAT_HOLD_NOW ch) =
        min (s.hf (CAN_BOFF_HOLD_MIN ch) * 2 ^ ((s.nextBoffs ch).length - 1)) (s.hf (CAN_BOFF_HOLD_MAX ch) * 100)) := by
  obtain ⟨u, hu, hboffs, h⟩ := goesOffBus_eq (s := s) hch
  have hcfg {g : Fld} (hr : g.reg = 0x50200014 + 0x1000 * ch) : u.hf g = s.hf g := hu.hf (by unfold ttStopReg; rw [hr]; omega)
  have hshows := canBusOff_shows (s := u) hch
  rwa [hboffs, hcfg rfl, hcfg rfl, hcfg rfl, ← h] at hshows

/-! ### Recovery (R350, R351) -/

theorem canRecover_only : CanOnly (fun a => a = 0x50200010 + 0x1000 * ch ∨ a = 0x50200018 + 0x1000 * ch) s (s.canRecover ch) :=
  .evt (.hfSet (.hfSet (.refl _ s) (.inl rfl)) (.inr rfl)) (hubEvt_eventOnly ..)

omit hch in
theorem canRecover_shows : (s.canRecover ch).canState ch = 5 ∧ (s.canRecover ch).hf (CAN_BOFF_STAT_HOLD_NOW ch) = 0 := by
  refine ⟨?_, ?_⟩
  · rw [State.canRecover, State.canState, State.hf_hubEvt, State.hf_hfSet_apart _ _ _ _ Fld.apart_of_reg]
    exact hf_hfSet_fits _ rfl (by simp)
  · rw [State.canRecover, State.hf_hubEvt]
    exact hf_hfSet_fits _ rfl (by simp)

omit hch in
theorem canCh_hubEvt (s : State) (code : Nat) (parts : List (Nat × Nat)) (k : Nat) : (s.hubEvt code parts).canCh k = s.canCh k := by
  rw [State.canCh, (hubEvt_eventOnly ..).can, State.canCh]

omit hch in
theorem canCh_canRecover (k : Nat) : (s.canRecover ch).canCh k = s.canCh k := by
  rw [State.canRecover, canCh_hubEvt, canCh_hfSet, canCh_hfSet]

end

/-! ### Queued channels go on (R349) -/

/-- What the queued channels that go on leave of the controllers and of the other channels' items. -/
structure ResumeKept (s t : State) : Prop where
  reg : ∀ a, 0x50200000 ≤ a → a < 0x50300000 → a % 0x1000 ≠ 0x40 → t.hreg a = s.hreg a
  mode : ∀ c, c < 192 → t.hf (PDE_CFG_MODE c) = s.hf (PDE_CFG_MODE c)
  out : ∀ c, (c < 192 → s.hf (PDE_CFG_MODE c) ≠ 4) → (t.chan c).out = (s.chan c).out

namespace ResumeKept

variable {s t u : State}

theorem refl (s : State) : ResumeKept s s := ⟨fun _ _ _ _ => rfl, fun _ _ => rfl, fun _ _ => rfl⟩

/-- A queued channel that goes on leaves the others. -/
theorem engine {d : Nat} (hd : d < 192) (hmode : t.hf (PDE_CFG_MODE d) = 4) (h : ResumeKept s t) (g : EngineOnly d t u) : ResumeKept s u where
  reg a hlo hhi ha := (g.reg a (by unfold engineReg; omega)).trans (h.reg a hlo hhi ha)
  mode c hc := (g.mode hc).trans (h.mode c hc)
  out c hc := by
    have hne : c ≠ d := fun e => hc (e ▸ hd) (by rw [e, ← h.mode d hd, hmode])
    obtain ⟨b, hb⟩ := g.parked c hne
    rw [hb]
    exact h.out c hc

theorem foldl {cs : List Nat} (hcs : ∀ c ∈ cs, c < 192) (h : ResumeKept s t) : ResumeKept s (cs.foldl (fun s c =>
    if s.hf (PDE_CFG_MODE c) = 4 && s.pdeState c = 2 && (s.chan c).out.isNone && !(s.chan c).doneCur then
      State.chain c chainFuel .process s
    else s) t) := by
  induction cs generalizing t with
  | nil => exact h
  | cons c cs ih =>
    have hc := hcs c List.mem_cons_self
    refine ih (fun d hd => hcs d (List.mem_cons_of_mem _ hd)) ?_
    dsimp only
    split
    next hgo =>
      simp only [Bool.and_eq_true, decide_eq_true_eq] at hgo
      exact h.engine hc hgo.1.1.1 (.chain hc _ _ (.refl c t))
    next => exact h

/-- A field of a CAN channel. -/
theorem hf (h : ResumeKept s t) {f : Fld} (hf : 0x50200000 ≤ f.reg ∧ f.reg < 0x50300000 ∧ f.reg % 0x1000 ≠ 0x40 := by dsimp only; omega) :
    t.hf f = s.hf f := congrArg (fldGet f) (h.reg _ hf.1 hf.2.1 hf.2.2)

end ResumeKept

theorem canResume_kept (s : State) (ch : Nat) : ResumeKept s (s.canResume ch) :=
  .foldl (fun _ hc => (mem_canBound.mp hc).chan) (.refl s)

/-- The error counters are 0 and the channel is error active; it may be restricted at first (R350, R351). -/
def State.canRecovered (s : State) (ch ms : Nat) : State :=
  let s := ((s.hfSet (CAN_STAT_TEC ch) 0).hfSet (CAN_STAT_REC ch) 0).hfSet (CAN_STAT_STATE ch) 2
  let s := (s.hfSet (CAN_INT_STAT_RECOV ch) 1).hubEvt 0x4505 [(1, ch), (4, ms)]
  if s.hf (CAN_CFG_LSTART ch) = 1 then (s.hfSet (CAN_STAT_RESTR ch) 1).canUpd ch (fun x => { x with good := 0 }) else s

/-- After a stop of time-triggered operation the channel integrates again (R357). -/
def State.ttAgain (s : State) (ch : Nat) : State :=
  if (s.canCh ch).stopped then
    ((((s.hfSet (CAN_TT_STAT_LEVEL ch) 0).hfSet (CAN_TT_STAT_ROLE ch) 0).canUpd ch
      (fun x => { x with stopped := false, s1 := false, s1Last := false })).hubEvt 0x4526 [(1, ch)])
  else s

section
variable {s : State} {ch : Nat} (hch : ch < 8)
include hch

theorem exec_canRecoveryComplete (ms : Nat) (hs : s.hub.supplied = true) (hstate : s.canState ch = 5) :
    exec (.canRecoveryComplete ch ms) s = .next (((s.canRecovered ch ms).canResume ch).ttAgain ch) :=
  if_pos (by simp [hs, hch, hstate])

theorem canRecovered_only (ms : Nat) : CanOnly (fun _ => True) s (s.canRecovered ch ms) := by
  have hevt : CanOnly (fun _ => True) s ((((((s.hfSet (CAN_STAT_TEC ch) 0).hfSet (CAN_STAT_REC ch) 0).hfSet (CAN_STAT_STATE ch) 2).hfSet
      (CAN_INT_STAT_RECOV ch) 1).hubEvt 0x4505 [(1, ch), (4, ms)])) :=
    .evt (.hfSet (.hfSet (.hfSet (.hfSet (.refl _ s) trivial) trivial) trivial) trivial) (hubEvt_eventOnly ..)
  exact .ite (.canUpd (.hfSet hevt trivial)) hevt

omit hch in
theorem canRecovered_shows (ms : Nat) : (s.canRecovered ch ms).canState ch = 2 ∧ (s.canRecovered ch ms).hf (CAN_STAT_TEC ch) = 0 ∧
    (s.canRecovered ch ms).hf (CAN_STAT_REC ch) = 0 ∧ (s.canRecovered ch ms).hf (CAN_INT_STAT_RECOV ch) = 1 := by
  have hrestr {u : State} {g : Fld} (hg : (CAN_STAT_RESTR ch).apart g = true) :
      (if u.hf (CAN_CFG_LSTART ch) = 1 then (u.hfSet (CAN_STAT_RESTR ch) 1).canUpd ch (fun x => { x with good := 0 }) else u).hf g = u.hf g := by
    split
    · rw [State.hf_canUpd, State.hf_hfSet_apart _ _ _ _ hg]
    · rfl
  unfold State.canRecovered
  dsimp only
  refine ⟨?_, ?_, ?_, ?_⟩
  · rw [State.canState, hrestr Fld.apart_of_bits, State.hf_hubEvt, State.hf_hfSet_apart _ _ _ _ Fld.apart_of_reg]
    exact hf_hfSet_fits _ rfl (by simp)
  · rw [hrestr Fld.apart_of_bits, State.hf_hubEvt, State.hf_hfSet_apart _ _ _ _ Fld.apart_of_reg, State.hf_hfSet_apart _ _ _ _ Fld.apart_of_bits,
      State.hf_hfSet_apart _ _ _ _ Fld.apart_of_bits]
    exact hf_hfSet_fits _ rfl (by simp)
  · rw [hrestr Fld.apart_of_bits, State.hf_hubEvt, State.hf_hfSet_apart _ _ _ _ Fld.apart_of_reg, State.hf_hfSet_apart _ _ _ _ Fld.apart_of_bits]
    exact hf_hfSet_fits _ rfl (by simp)
  · rw [hrestr Fld.apart_of_reg, State.hf_hubEvt]
    exact hf_hfSet_fits _ rfl (by simp)

theorem ttAgain_only : CanOnly (fun a => a = 0x50200604 + 0x1000 * ch) s (s.ttAgain ch) :=
  .ite (.evt (.canUpd (.hfSet (.hfSet (.refl _ s) rfl) rfl)) (hubEvt_eventOnly ..)) (.refl _ s)

theorem recoveryComplete_shows (ms : Nat) (hs : s.hub.supplied = true) (hstate : s.canState ch = 5) :
    ∃ t, exec (.canRecoveryComplete ch ms) s = .next t ∧ t.canState ch = 2 ∧ t.hf (CAN_STAT_TEC ch) = 0 ∧ t.hf (CAN_STAT_REC ch) = 0 ∧
      t.hf (CAN_INT_STAT_RECOV ch) = 1 ∧ ∀ c, s.hf (PDE_CFG_MODE c) ≠ 4 → (t.chan c).out = (s.chan c).out := by
  have hagain := ttAgain_only (s := (s.canRecovered ch ms).canResume ch) hch
  have hresume := canResume_kept (s.canRecovered ch ms) ch
  have hrecovered := canRecovered_only (s := s) hch ms
  have hshown {g : Fld} (hr : g.reg = 0x50200010 + 0x1000 * ch ∨ g.reg = 0x5020004C + 0x1000 * ch) :
      (((s.canRecovered ch ms).canResume ch).ttAgain ch).hf g = (s.canRecovered ch ms).hf g := by
    rw [hagain.hf (by omega), hresume.hf (by omega)]
  obtain ⟨hst, htec, hrec, hint⟩ := canRecovered_shows (s := s) (ch := ch) ms
  refine ⟨_, exec_canRecoveryComplete hch ms hs hstate, (hshown (.inl rfl)).trans hst, (hshown (.inl rfl)).trans htec,
    (hshown (.inl rfl)).trans hrec, (hshown (.inr rfl)).trans hint, fun c hc => ?_⟩
  rw [hagain.chan, hresume.out c fun hc192 => by rwa [hf_of_pde hrecovered.pde], hrecovered.chan]

/-! ### Release and restricted operation (R350, R351) -/

omit hch in
theorem exec_canReleaseBlocked_refused (src : Nat) (h : s.sourceLevel src = 0 ∨ s.canState ch ≠ 6) :
    exec (.canReleaseBlocked src ch) s = .next s := by
  show execCanReleaseBlocked src ch s = _
  unfold execCanReleaseBlocked
  split
  next hauth =>
    simp only [Bool.and_eq_true, decide_eq_true_eq] at hauth
    have hst : s.canState ch ≠ 6 := h.resolve_left (by omega)
    rw [State.canRelease, if_neg hst]
  next => rfl

theorem canReleaseBlocked_recovers {src : Nat} (hs : s.hub.supplied = true) (hsrc : 1 ≤ s.sourceLevel src) (hstate : s.canState ch = 6) :
    ∃ t, exec (.canReleaseBlocked src ch) s = .next t ∧ t.canState ch = 5 ∧ t.canCh ch = s.canCh ch := by
  have hexec : exec (.canReleaseBlocked src ch) s = .next ((s.hubEvt 0x4507 [(1, ch), (1, src)]).canRecover ch) :=
    (if_pos (by simp [hs, hch, hsrc])).trans (congrArg _ (if_pos hstate))
  exact ⟨_, hexec, canRecover_shows.1, by rw [canCh_canRecover, canCh_hubEvt]⟩

omit hch in
theorem exec_canRestrictedEnd {ms : Nat} (hon : s.canOn ch = true) (hr : s.hf (CAN_STAT_RESTR ch) = 1) (hmode : s.hf (CAN_CFG_OPMODE ch) ≠ 2) :
    exec (.canRestrictedEnd ch ms) s = .next (if 8 ≤ (s.canCh ch).good ∨ 100 ≤ ms then s.hfSet (CAN_STAT_RESTR ch) 0 else s) := by
  show execCanRestrictedEnd ch ms s = _
  unfold execCanRestrictedEnd
  by_cases h : 8 ≤ (s.canCh ch).good ∨ 100 ≤ ms
  · rw [if_pos h, if_pos (by simpa [hon, hr, hmode] using h)]
  · rw [if_neg h, if_neg (by simpa [hon, hr, hmode] using h)]

end

/-! ### Triggers (R352, R354) -/

theorem canCh_ttShow (s : State) (ch cause k : Nat) : (s.ttShow ch cause).canCh k = s.canCh k := by
  have hcount {p : Prop} [Decidable p] {n : Nat} : (if p then (s.hfSet (CAN_TT_STAT_LEVEL ch) n).hcount (CAN_TT_CNT_S1 ch) 1
      else s.hfSet (CAN_TT_STAT_LEVEL ch) n).canCh k = s.canCh k := by
    split
    · rw [State.hcount, canCh_hfSet, canCh_hfSet]
    · exact canCh_hfSet ..
  unfold State.ttShow
  dsimp only
  split
  · rfl
  · split
    · rw [canCh_hubEvt, canCh_hfSet, State.hcount, canCh_hfSet, hcount]
    · exact hcount

/-- A scheduling error is noted, and shown as a level of operation. -/
theorem canCh_ttS1 (s : State) (ch i : Nat) : (s.ttS1 ch i).canCh ch = { s.canCh ch with s1 := true } := by
  rw [State.ttS1, canCh_ttShow, canCh_hubEvt, State.canCh_canUpd_same]

section
variable {s : State} {ch i : Nat} {g : Trig} {free : Bool} (hch : ch < 8)
include hch

theorem ttS1_only : CanOnly (ttStopReg ch) s (s.ttS1 ch i) :=
  .trans (.evt (.canUpd (.refl _ s)) (hubEvt_eventOnly ..)) (ttShow_only hch 1)

omit hch in
theorem exec_canTriggerFire (hon : s.canOn ch = true) (htt : s.canTt ch = true) (hi : i < s.hf (CAN_TT_CFG_TRIG_CNT ch)) :
    exec (.canTriggerFire ch i free) s = .next ((s.canIntegrated ch).fireTrigger ch i free) := if_pos (by simp [hon, htt, hi])

/-- At a trigger's mark local time is set to it, and the window of the trigger before closes. -/
def State.marked (s : State) (ch : Nat) (g : Trig) : State :=
  (s.hfSet (CAN_TT_STAT_LOCAL ch) g.mark).canUpd ch (fun x => { x with window := [] })

theorem marked_only : CanOnly (fun a => a = 0x50200604 + 0x1000 * ch) s (s.marked ch g) := .canUpd (.hfSet (.refl _ s) rfl)

omit hch in
theorem trigAt_mark (s : State) (ch i : Nat) : (s.trigAt ch i).mark < 2 ^ 16 := Nat.mod_lt _ (by decide)

omit hch in
theorem hf_mark (hg : g = s.trigAt ch i) : (s.hfSet (CAN_TT_STAT_LOCAL ch) g.mark).hf (CAN_TT_STAT_LOCAL ch) = g.mark :=
  hf_hfSet_fits _ rfl (hg ▸ trigAt_mark s ch i)

/-- Trigger `g` of the list is due in the running basic cycle. -/
structure State.Due (s : State) (ch i : Nat) (g : Trig) : Prop where
  trig : g = s.trigAt ch i
  role : s.hf (CAN_TT_STAT_ROLE ch) ≠ 0
  cycle : s.hf (CAN_TT_STAT_CYCLE ch) % 2 ^ g.rep = g.ofs

section
variable (hdue : s.Due ch i g)
include hdue

omit hch in
theorem fireTrigger_exclusive (ht : g.type = 0) : s.fireTrigger ch i free = (match (s.marked ch g).canOf ch g.mbx with
    | none => (s.marked ch g).ttS1 ch i
    | some c => if ((s.marked ch g).chan c).out.isSome && decide ((s.marked ch g).pdeState c ≠ 0) && free && (s.marked ch g).canMaySend ch then
        (s.marked ch g).chanUpd c (fun x => { x with onWire := true })
      else (s.marked ch g).ttS1 ch i) := by
  obtain ⟨htrig, hrole, hcycle⟩ := hdue
  unfold State.fireTrigger
  rw [← htrig]
  dsimp only
  rw [ht, hcycle]
  exact if_neg (by simp [hrole])

omit hch in
theorem fireTrigger_merged (ht : g.type = 1) : s.fireTrigger ch i free = (s.hfSet (CAN_TT_STAT_LOCAL ch) g.mark).canUpd ch
    (fun x => { x with window := if x.window.contains g.mbx then x.window else g.mbx :: x.window }) := by
  obtain ⟨htrig, hrole, hcycle⟩ := hdue
  unfold State.fireTrigger
  rw [← htrig]
  dsimp only
  rw [ht, hcycle]
  exact if_pos (by simp [hrole])

omit hch in
theorem fireTrigger_receive (ht : g.type = 2) : s.fireTrigger ch i free =
    (if ((s.marked ch g).canCh ch).seen.contains g.mbx then
      (((s.marked ch g).canUpd ch (fun x => { x with seen := x.seen.filter (· ≠ g.mbx) })).hfSet (mscField ch g.mbx)
        (((s.marked ch g).canUpd ch (fun x => { x with seen := x.seen.filter (· ≠ g.mbx) })).hf (mscField ch g.mbx) - 1)).ttShow ch 0
    else (((s.marked ch g).canUpd ch (fun x => { x with seen := x.seen.filter (· ≠ g.mbx) })).hfSet (mscField ch g.mbx)
      (min 7 (((s.marked ch g).canUpd ch (fun x => { x with seen := x.seen.filter (· ≠ g.mbx) })).hf (mscField ch g.mbx) + 1))).ttS1 ch i) := by
  obtain ⟨htrig, hrole, hcycle⟩ := hdue
  unfold State.fireTrigger
  rw [← htrig]
  dsimp only
  rw [ht, hcycle]
  exact if_neg (by simp [hrole])

end

theorem Due.canIntegrated (h : s.Due ch i g) : (s.canIntegrated ch).Due ch i g := by
  have honly := canIntegrated_only (s := s) hch
  refine ⟨h.trig.trans ?_, ?_, ?_⟩
  · rw [State.trigAt, State.trigAt, honly.objBytes]
  · rw [hf_apartStat honly]
    exact h.role
  · rw [hf_apartStat honly]
    exact h.cycle

omit hch in
theorem wireChan_congr {t : State} (h : t.pde = s.pde) : t.wireChan ch = s.wireChan ch := by
  have hbound : t.canBound ch = s.canBound ch := canBound_congr (fun c _ => ⟨hf_of_pde h, hf_of_pde h, hf_of_pde h⟩) ch
  unfold State.wireChan
  rw [hbound]
  exact List.find?_congr fun c _ => congrArg Chan.onWire (chan_congr (congrArg Pde.chans h) c)

/-- At its mark an exclusive trigger finds the wire as free as before. -/
theorem canMaySend_marked (h : s.canMaySend ch = true) : ((s.canIntegrated ch).marked ch g).canMaySend ch = true := by
  have hint := canIntegrated_only (s := s) hch
  have hmark := marked_only (s := s.canIntegrated ch) (g := g) hch
  have hstat {f : Fld} (hf : (CAN_STAT_STATE ch).apart f = true) : (s.canIntegrated ch).hf f = s.hf f := by
    unfold State.canIntegrated
    split
    · exact State.hf_hfSet_apart _ _ _ _ hf
    · rfl
  have hstate : (s.canIntegrated ch).canState ch = if s.canState ch = 1 then 2 else s.canState ch := by
    unfold State.canIntegrated
    split
    · exact hf_hfSet_fits _ rfl (by simp)
    · rfl
  have hstate' : ((s.canIntegrated ch).marked ch g).canState ch = if s.canState ch = 1 then 2 else s.canState ch :=
    (hmark.hf (by dsimp only; omega)).trans hstate
  have hrestr : ((s.canIntegrated ch).marked ch g).hf (CAN_STAT_RESTR ch) = s.hf (CAN_STAT_RESTR ch) :=
    (hmark.hf (by dsimp only; omega)).trans (hstat Fld.apart_of_bits)
  have hmode : ((s.canIntegrated ch).marked ch g).hf (CAN_CFG_OPMODE ch) = s.hf (CAN_CFG_OPMODE ch) :=
    (hmark.hf (by dsimp only; omega)).trans (hf_apartStat hint)
  have href : (((s.canIntegrated ch).marked ch g).canCh ch).refWire = (s.canCh ch).refWire := by
    rw [State.marked, State.canCh_canUpd_same, canCh_hfSet, canCh_canIntegrated]
  have hhub : ((s.canIntegrated ch).marked ch g).hub = s.hub := hmark.hub.trans hint.hub
  rw [State.canMaySend, State.canOn, hrestr, hmode, href, hstate', wireChan_congr (hmark.pde.trans hint.pde), hhub]
  rw [State.canMaySend, State.canOn] at h
  simp only [Bool.and_eq_true, decide_eq_true_eq] at h ⊢
  obtain ⟨⟨⟨⟨⟨⟨⟨hs, hlt⟩, hlo⟩, hhi⟩, hr⟩, hw⟩, hf⟩, hm⟩ := h
  refine ⟨⟨⟨⟨⟨⟨⟨hs, hlt⟩, ?_⟩, ?_⟩, hr⟩, hw⟩, hf⟩, hm⟩ <;> split <;> omega

end

/-- The counter of a receive mailbox's missed messages. -/
theorem mscField_ok (ch m : Nat) : (mscField ch m).ok = true := by
  have htop : 4 * (m % 8) + 2 < 64 := by omega
  simp [mscField, Fld.ok, htop]

/-- A state that differs from `s` in what a trigger's mark shows, and in the messages that a channel has seen. -/
structure MarkedSeen (s : State) (ch m : Nat) (u : State) : Prop where
  count : u.hf (mscField ch m) = s.hf (mscField ch m)
  seen : m ∉ (u.canCh ch).seen

section
variable {s u : State} {ch m : Nat} (hch : ch < 8) (h : MarkedSeen s ch m u)
include hch h

omit hch h in
theorem hf_mscSet {x : Nat} (u : State) (hx : x < 8) : (u.hfSet (mscField ch m) x).hf (mscField ch m) = x := by
  have hwidth : (mscField ch m).hi + 1 - (mscField ch m).lo = 3 := by
    simp only [mscField]
    omega
  exact hf_hfSet_fits _ (mscField_ok ch m) (by rw [hwidth]; exact hx)

omit hch h in
theorem hf_ttShow_msc (hch : ch < 8) (u : State) (cause : Nat) : (u.ttShow ch cause).hf (mscField ch m) = u.hf (mscField ch m) :=
  (ttShow_only hch cause).hf (by unfold ttStopReg mscField; dsimp only; omega)

theorem received_lowers : ((u.hfSet (mscField ch m) (u.hf (mscField ch m) - 1)).ttShow ch 0).hf (mscField ch m) =
      s.hf (mscField ch m) - 1 ∧ m ∉ (((u.hfSet (mscField ch m) (u.hf (mscField ch m) - 1)).ttShow ch 0).canCh ch).seen := by
  have hlt : u.hf (mscField ch m) < 8 := by
    have := hf_lt u (mscField ch m)
    rwa [show (mscField ch m).hi + 1 - (mscField ch m).lo = 3 by simp only [mscField]; omega] at this
  refine ⟨?_, ?_⟩
  · rw [hf_ttShow_msc hch, hf_mscSet u (by omega), h.count]
  · rw [canCh_ttShow, canCh_hfSet]
    exact h.seen

theorem missed_raises (i : Nat) : ((u.hfSet (mscField ch m) (min 7 (u.hf (mscField ch m) + 1))).ttS1 ch i).hf (mscField ch m) =
      min 7 (s.hf (mscField ch m) + 1) ∧ (((u.hfSet (mscField ch m) (min 7 (u.hf (mscField ch m) + 1))).ttS1 ch i).canCh ch).s1 = true := by
  refine ⟨?_, ?_⟩
  · rw [(ttS1_only hch).hf (by unfold ttStopReg mscField; dsimp only; omega), hf_mscSet u (by omega), h.count]
  · rw [canCh_ttS1]

end

/-- Settles O36: the rules of bus-off and recovery, and the three kinds of trigger. -/
theorem canRecoveryAndTriggers : Obligations.CanRecoveryAndTriggers := by
  unfold Obligations.CanRecoveryAndTriggers
  refine ⟨fun s ch k hs hch hk => ⟨fun hon htec => ?_, fun hstate => ?_, fun ms hstate => recoveryComplete_shows hch ms hs hstate,
    fun src => ⟨fun hsrc hstate => canReleaseBlocked_recovers hch hs hsrc hstate, exec_canReleaseBlocked_refused src⟩, fun ms hon hr hmode => ?_⟩,
    fun s ch i g free hon htt hi hg hrole hcycle => ?_⟩
  · obtain ⟨hst, hcount, hhold⟩ := goesOffBus_shows (s := s) hch
    rw [length_nextBoffs, ← hk] at hst hcount hhold
    refine ⟨_, exec_canBusOff hon htec, hst, hcount, hhold, fun c hc => ?_⟩
    obtain ⟨p, hp⟩ := chan_goesOffBus_out hch hc
    rw [hp]
  · exact ⟨_, if_pos (by simp [hs, hch, hstate]), canRecover_shows.1, canRecover_shows.2, (canRecover_only hch).pde⟩
  · rw [exec_canRestrictedEnd hon hr hmode]
    refine ⟨fun h => ⟨_, by rw [if_pos h], ?_, ?_⟩, fun hgood hms => by rw [if_neg (by omega)]⟩
    · exact hf_hfSet_fits _ rfl (by simp)
    · have hch : ch < 8 := by
        simp only [State.canOn, Bool.and_eq_true, decide_eq_true_eq] at hon
        omega
      exact (CanOnly.hfSet (w := fun _ => True) (.refl _ s) trivial).pde
  · have hch : ch < 8 := by
      simp only [State.canOn, Bool.and_eq_true, decide_eq_true_eq] at hon
      omega
    have hdue := Due.canIntegrated hch ⟨hg, hrole, hcycle⟩
    have hint := canIntegrated_only (s := s) hch
    have hmark := marked_only (s := s.canIntegrated ch) (g := g) hch
    have hmarked : ((s.canIntegrated ch).marked ch g).pde = s.pde := hmark.pde.trans hint.pde
    have hlocal : ((s.canIntegrated ch).marked ch g).hf (CAN_TT_STAT_LOCAL ch) = g.mark :=
      (State.hf_canUpd ..).trans (hf_mark hdue.trig)
    have hseens : (((s.canIntegrated ch).marked ch g).canCh ch).seen = (s.canCh ch).seen := by
      rw [State.marked, State.canCh_canUpd_same, canCh_hfSet, canCh_canIntegrated]
    have hkept : MarkedSeen s ch g.mbx (((s.canIntegrated ch).marked ch g).canUpd ch (fun x => { x with seen := x.seen.filter (· ≠ g.mbx) })) :=
      ⟨by rw [State.hf_canUpd, hmark.hf (by unfold mscField; dsimp only; omega), hf_apartStat hint (by unfold mscField; dsimp only; omega)],
        by rw [State.canCh_canUpd_same]; simp⟩
    rw [exec_canTriggerFire hon htt hi]
    refine ⟨fun ht hfree hsend c hc hout hstate => ⟨_, rfl, ?_⟩, fun ht hc => ⟨_, rfl, ?_⟩, fun ht => ⟨_, rfl, ?_⟩, fun ht _ =>
      ⟨fun hseen => ⟨_, rfl, ?_⟩, fun hseen => ⟨_, rfl, ?_⟩⟩⟩
    · have hc192 := (boundTo_of_canOf hc).chan
      rw [fireTrigger_exclusive hdue ht, canOf_congr hmarked, hc]
      dsimp only
      rw [if_pos ?_]
      · refine ⟨?_, ?_, ?_⟩
        · rw [State.chan_chanUpd_same]
        · show (((s.canIntegrated ch).marked ch g).canCh ch).window = []
          rw [State.marked, State.canCh_canUpd_same]
        · exact (State.hf_chanUpd ..).trans hlocal
      · rw [chan_congr (congrArg Pde.chans hmarked), State.pdeState, hf_of_pde hmarked, canMaySend_marked hch hsend, hfree]
        simpa [hout, State.pdeState] using hstate
    · rw [fireTrigger_exclusive hdue ht, canOf_congr hmarked, hc]
      exact ⟨by rw [canCh_ttS1], (ttS1_only hch).pde.trans hmarked⟩
    · rw [fireTrigger_merged hdue ht]
      refine ⟨?_, ?_, ?_⟩
      · rw [State.canCh_canUpd_same]
        dsimp only
        split
        next h => exact List.contains_iff_mem.mp h
        next => exact List.mem_cons_self
      · rw [State.hf_canUpd, hf_mark hdue.trig]
      · exact hmarked
    · rw [fireTrigger_receive hdue ht, hseens, if_pos (by simpa using hseen)]
      exact received_lowers hch hkept
    · rw [fireTrigger_receive hdue ht, hseens, if_neg (by simpa using hseen)]
      exact missed_raises hch hkept i

end Sys2Proof.Machine

/-! The dictionary service: requests of network clients, outcomes of the lanes, CAN segments and the ends of transfers (16 R429, R438 to
R447). -/

namespace Sys2Proof.Machine

-- One proof after another: proofs that wait side by side each keep a stack, and many of them exceed the memory of a check.
set_option Elab.async false

/-! ### Answers to clients on the network (R438, R439) -/

/-- The open request that an unsigned PDU makes. -/
def openRequest (c : Client) (p : Pdu) : OpenRequest := ⟨0, c, 0, p.tid, p.index, p.sub, p.offset⟩

section
variable (s : State) {c : Client} (p : Pdu) {op : Nat} (code : Nat) (last : Bool) (data : List Byte) (hc : c.kind = 1)
include hc

/-- A client on the network gets one PDU; the answer is counted. -/
theorem respond_network (hop : op < 128) : s.respond (openRequest c p) op code last data =
    ((s.cntAdd 0x7000 1 1).cntAdd 0x7000 2 (b2n (code ≠ 0))).emit .service 13 (beNat c.addr) (answerPdu op p code last data) := by
  have hhost : (openRequest c p).host = 0 := rfl
  have hkind : (openRequest c p).client.kind = 1 := hc
  rw [State.respond, if_pos hhost, Nat.mod_eq_of_lt hop, State.deliver, if_pos hkind, answerPdu, hhost]
  simp [openRequest, b2n]

theorem respond_answered (hop : op < 128) : s.answered (s.respond (openRequest c p) op code last data) c op p code last data := by
  rw [respond_network s p code last data hc hop, State.answered, State.emit_tx]
  rfl

/-- An answer changes no object, and nothing of the service beside its counts. -/
theorem respond_keeps (hop : op < 128) : (s.respond (openRequest c p) op code last data).hub = s.hub ∧
    (s.respond (openRequest c p) op code last data).svc = s.svc ∧
    (s.respond (openRequest c p) op code last data).dict.stored = s.dict.stored ∧
    (s.respond (openRequest c p) op code last data).dict.pend = s.dict.pend := by
  rw [respond_network s p code last data hc hop]
  simp only [State.emit_hub, State.emit_svc, State.emit_dict, State.cntAdd_hub, State.cntAdd_svc, State.cntAdd_dict_stored,
    State.cntAdd_dict_pend, and_self]

end

/-! ### The request's checks (R440, R445) -/

theorem formCode_eq_zero {p : Pdu} {n : Nat} (h : formCode p n false = 0) : 16 ≤ n ∧ p.op < 5 := by
  unfold formCode at h
  split at h
  · simp at h
  · split at h
    · simp at h
    next hn hop =>
      simp at hop
      omega

theorem pduOp_eq {b : List Byte} (h : 16 ≤ b.length) : pduOp b = (parsePdu b).op := by
  unfold pduOp parsePdu byteAt padTo
  dsimp only
  rw [List.getD_append _ _ _ _ (by simp; omega), List.getD_eq_getElem?_getD, List.getD_eq_getElem?_getD, List.getElem?_take_of_lt (by decide)]

/-- What a cancel by client `c` leaves: its own open transfer is ended. -/
def State.cancelled (s : State) (c : Client) (k : Nat) : State :=
  if (s.transferAt k).any (fun x => x.client == c) then s.transferKill k 0x0602 else s

/-- A well-formed, unsigned request of an open client on the network that is not throttled. -/
structure State.Requests (s : State) (c : Client) (b : List Byte) (p : Pdu) : Prop where
  opened : s.serviceOpen c = true
  network : c.kind = 1
  free : s.throttled c.addr = false
  pdu : p = parsePdu b
  form : formCode p b.length false = 0
  unsigned : p.auth = false

namespace State.Requests

variable {s : State} {c : Client} {b : List Byte} {p : Pdu} (h : s.Requests c b p)
include h

theorem op_lt : p.op < 5 := (formCode_eq_zero h.form).2

theorem pduOp : pduOp b = p.op := by rw [pduOp_eq (formCode_eq_zero h.form).1, h.pdu]

theorem serve_eq : s.serve c b = s.handle c (openRequest c p) (s.requestSource c 0) p := by
  obtain ⟨hopen, hnet, hfree, hpdu, hform, hauth⟩ := id h
  have hop := h.op_lt
  rw [State.serve, if_neg (by simp [hopen]), if_neg (by simp [hfree]), ← hpdu]
  dsimp only
  rw [hnet, if_neg (by simpa using hform), if_neg (by omega), hauth]
  rfl

theorem exec_read (hop : p.op = 1) : exec (.serviceRead c b) s = .next (s.handle c (openRequest c p) (s.requestSource c 0) p) := by
  rw [← h.serve_eq]
  exact if_neg (by simp [h.pduOp, hop])

theorem exec_write (hop : p.op = 2) : exec (.serviceWrite c b) s = .next (s.handle c (openRequest c p) (s.requestSource c 0) p) := by
  rw [← h.serve_eq]
  exact if_pos (h.pduOp.trans hop)

theorem exec_info (hop : p.op = 3) : exec (.serviceInfo c b) s = .next (s.handle c (openRequest c p) (s.requestSource c 0) p) := by
  rw [← h.serve_eq]
  exact if_pos (h.pduOp.trans hop)

theorem exec_cancel (hop : p.op = 4) : exec (.serviceCancel c b) s = .next (s.handle c (openRequest c p) (s.requestSource c 0) p) := by
  rw [← h.serve_eq]
  exact if_pos (h.pduOp.trans hop)

/-! ### Answers by object (R427, R440) -/

omit h in
theorem handle_unknown (hi : s.indexExists p.index = false) (src : Nat) :
    s.handle c (openRequest c p) src p = s.respond (openRequest c p) p.op 0x0201 true [] := by
  rw [State.handle, if_pos (by simp [hi])]

section
variable {r : ObjRow} (hi : s.indexExists p.index = true) (hr : s.serviceRow p.index p.sub = some r) (src : Nat)
include hi hr

omit h in
theorem handle_info (hop : p.op = 3) : s.handle c (openRequest c p) src p =
    s.respond (openRequest c p) 3 0 true (s.infoBytes p.index p.sub r) := by
  rw [State.handle, if_neg (by simp [hi]), hr]
  simp only [hop]

omit h in
theorem handle_read (hop : p.op = 1) (hacc : r.acc ≠ .wo) (hlen : p.len ≠ 0) (hoff : p.offset < (s.readValue p.index p.sub r).length) :
    s.handle c (openRequest c p) src p = s.respond (openRequest c p) 1 0
      (p.offset + min (min p.len 992) ((s.readValue p.index p.sub r).length - p.offset) == (s.readValue p.index p.sub r).length)
      (((s.readValue p.index p.sub r).drop p.offset).take (min p.len 992)) := by
  rw [State.handle, if_neg (by simp [hi]), hr]
  simp only [hop]
  rw [if_neg hacc, State.readAnswer]
  dsimp only
  rw [if_neg (by simp [hlen]; omega), slice, List.length_take, List.length_drop]

omit h in
theorem handle_cancel (hop : p.op = 4) : s.handle c (openRequest c p) src p =
    (s.cancelled c (objKey p.index p.sub)).respond (openRequest c p) 4 0 true [] := by
  rw [State.handle, if_neg (by simp [hi]), hr]
  simp only [hop, State.cancelled]
  cases s.transferAt (objKey p.index p.sub) <;> rfl

omit h in
theorem handle_write (hop : p.op = 2) : s.handle c (openRequest c p) src p =
    if s.writeCode src p.index p.sub r ≠ 0 then (s.refuseRequest p.index (leNat p.data) (s.writeCode src p.index p.sub r)).respond (openRequest c p)
      2 (s.writeCode src p.index p.sub r) true []
    else s.writeSegment c (openRequest c p) src p r := by
  rw [State.handle, if_neg (by simp [hi]), hr]
  simp only [hop]

end

end State.Requests

/-! ### Transfers (R440, R441) -/

/-- A transfer that is ended leaves a mark for its client's next segment. -/
theorem transferKill_ends {s : State} {k : Nat} {x : Transfer} (h : s.transferAt k = some x) (code : Nat) :
    (s.transferKill k code).transferAt k = none ∧ ((s.transferKill k code).deadAt x.client k).map (fun d => d.code) = some code := by
  rw [State.transferKill, h]
  refine ⟨mapFind_mapErase_same .., ?_⟩
  simp [State.deadAt]

theorem transferKill_keeps (s : State) (k code : Nat) :
    (s.transferKill k code).tx = s.tx ∧ (s.transferKill k code).dict = s.dict ∧ (s.transferKill k code).hub = s.hub := by
  unfold State.transferKill
  split <;> exact ⟨rfl, rfl, rfl⟩

theorem refuseRequest_eventOnly (s : State) (i v code : Nat) : EventOnly s (s.refuseRequest i v code) := by
  unfold State.refuseRequest
  split
  · exact supEvt_eventOnly ..
  · split
    · exact supEvt_eventOnly ..
    · exact .refl s

/-- What a value may be goes by the objects alone. -/
theorem valueOk_congr {s t : State} (h : t.dict = s.dict) (i j : Nat) (r : ObjRow) (bs : List Byte) : t.valueOk i j r bs = s.valueOk i j r bs := by
  have hmerged : t.merged.dict = s.merged.dict := by simp only [State.merged, h]
  unfold State.valueOk State.specialOk State.period
  simp only [State.obj_congr hmerged]

/-- A segment that is a whole value, of a type it fits. -/
structure WholeValue (s : State) (c : Client) (p : Pdu) (r : ObjRow) : Prop where
  first : p.first = true
  last : p.last = true
  offset : p.offset = 0
  alone : s.transferAt (objKey p.index p.sub) = none
  fits : p.len ≤ typeLen r.ty
  whole : typeFixed r.ty = true → p.len = typeLen r.ty
  hub : s.laneOwned p.index p.sub = false

theorem segmentCode_whole {s : State} {c : Client} {p : Pdu} {r : ObjRow} (h : WholeValue s c p r) (dead : Option Nat) :
    s.segmentCode p r false dead none = 0 := by
  obtain ⟨hfirst, hlast, hoff, -, hfits, hwhole, hhub⟩ := h
  rw [State.segmentCode, if_neg (by simp), if_neg (by simp [hfirst]), if_neg (by simp [hhub]), hoff, Nat.zero_add]
  rw [if_neg (by simpa using fun _ h => hwhole h), if_neg (by simp [hfirst]; omega)]

/-- A whole value of a configuration object becomes its pending value. -/
theorem writeSegment_pends {s : State} {c : Client} {p : Pdu} {r : ObjRow} (h : WholeValue s c p r) (hacc : r.acc = .rwc)
    (hok : s.valueOk p.index p.sub r p.data = true) (src : Nat) : s.writeSegment c (openRequest c p) src p r =
    ((((s.deadClear c (objKey p.index p.sub)).transferEnd (objKey p.index p.sub)).pendSet p.index p.sub p.data)).respond (openRequest c p)
      2 0 true [] := by
  obtain ⟨hfirst, hlast, hoff, halone, -, -, hhub⟩ := id h
  have hcode := segmentCode_whole h ((s.deadAt c (objKey p.index p.sub)).map (fun d => d.code))
  have hvalue : ((s.deadClear c (objKey p.index p.sub)).transferEnd (objKey p.index p.sub)).valueOk p.index p.sub r p.data = true :=
    (valueOk_congr rfl ..).trans hok
  have hhub' : ((s.deadClear c (objKey p.index p.sub)).transferEnd (objKey p.index p.sub)).laneOwned p.index p.sub = false := hhub
  unfold State.writeSegment
  simp only [halone, hfirst, hlast, Option.isSome_none, Bool.false_and, Bool.false_eq_true, if_false, Bool.true_or, if_true, hcode,
    Bool.not_true, List.nil_append, hvalue, hhub', ne_eq, not_true_eq_false, State.hubValue, hacc, true_or]

end Sys2Proof.Machine

/-! The dictionary service: the clauses of its obligation (16 R438 to R441, R445 to R447). -/

namespace Sys2Proof.Machine

-- One proof after another: proofs that wait side by side each keep a stack, and many of them exceed the memory of a check.
set_option Elab.async false

/-! ### Requests of a client on the network -/

theorem cancelled_tx (s : State) (c : Client) (k : Nat) : (s.cancelled c k).tx = s.tx := by
  unfold State.cancelled
  split
  · exact (transferKill_keeps ..).1
  · rfl

namespace State.Requests

variable {s : State} {c : Client} {b : List Byte} {p : Pdu} (h : s.Requests c b p)
include h

theorem unknown_answered {i : Instr} (hi : i = .serviceRead c b ∧ p.op = 1 ∨ i = .serviceWrite c b ∧ p.op = 2 ∨
    i = .serviceInfo c b ∧ p.op = 3 ∨ i = .serviceCancel c b ∧ p.op = 4) (hx : s.indexExists p.index = false) :
    ∃ t, exec i s = .next t ∧ s.answered t c p.op p 0x0201 true [] ∧ t.dict.stored = s.dict.stored := by
  have hop : p.op < 128 := by have := h.op_lt; omega
  have hexec : exec i s = .next (s.handle c (openRequest c p) (s.requestSource c 0) p) := by
    obtain ⟨rfl, ho⟩ | ⟨rfl, ho⟩ | ⟨rfl, ho⟩ | ⟨rfl, ho⟩ := hi
    · exact h.exec_read ho
    · exact h.exec_write ho
    · exact h.exec_info ho
    · exact h.exec_cancel ho
  rw [handle_unknown hx] at hexec
  obtain ⟨-, -, hstored, -⟩ := respond_keeps s p 0x0201 true [] h.network hop
  exact ⟨_, hexec, respond_answered s p _ _ _ h.network hop, hstored⟩

section
variable {r : ObjRow} (hi : s.indexExists p.index = true) (hr : s.serviceRow p.index p.sub = some r)
include hi hr

theorem read_answered (hop : p.op = 1) (hacc : r.acc ≠ .wo) (hlen : p.len ≠ 0) (hoff : p.offset < (s.readValue p.index p.sub r).length) :
    ∃ t, exec (.serviceRead c b) s = .next t ∧ t.hub = s.hub ∧ t.dict.stored = s.dict.stored ∧
      s.answered t c 1 p 0
        (p.offset + min (min p.len 992) ((s.readValue p.index p.sub r).length - p.offset) == (s.readValue p.index p.sub r).length)
        (((s.readValue p.index p.sub r).drop p.offset).take (min p.len 992)) := by
  have hexec := h.exec_read hop
  rw [handle_read hi hr _ hop hacc hlen hoff] at hexec
  refine ⟨_, hexec, ?_, ?_, respond_answered s p _ _ _ h.network (by decide)⟩
  · exact (respond_keeps s p _ _ _ h.network (by decide)).1
  · exact (respond_keeps s p _ _ _ h.network (by decide)).2.2.1

theorem info_answered (hop : p.op = 3) :
    ∃ t, exec (.serviceInfo c b) s = .next t ∧ s.answered t c 3 p 0 true (s.infoBytes p.index p.sub r) ∧ t.hub = s.hub := by
  have hexec := h.exec_info hop
  rw [handle_info hi hr _ hop] at hexec
  exact ⟨_, hexec, respond_answered s p _ _ _ h.network (by decide), (respond_keeps s p _ _ _ h.network (by decide)).1⟩

theorem cancel_answered (hop : p.op = 4) :
    ∃ t, exec (.serviceCancel c b) s = .next t ∧ s.answered t c 4 p 0 true [] ∧
      (∀ x, s.transferAt (objKey p.index p.sub) = some x → x.client = c → t.transferAt (objKey p.index p.sub) = none) := by
  have hexec := h.exec_cancel hop
  rw [handle_cancel hi hr _ hop] at hexec
  refine ⟨_, hexec, ?_, fun x hx hxc => ?_⟩
  · have hans := respond_answered (s.cancelled c (objKey p.index p.sub)) p 0 true [] h.network (by decide : 4 < 128)
    unfold State.answered at hans ⊢
    rwa [cancelled_tx] at hans
  · have hsvc := (respond_keeps (s.transferKill (objKey p.index p.sub) 0x0602) p 0 true [] h.network (by decide : 4 < 128)).2.1
    rw [State.cancelled, if_pos (by simp [hx, hxc]), State.transferAt, hsvc]
    exact (transferKill_ends hx _).1

theorem write_refused (hop : p.op = 2) {code : Nat} (hcode : code = s.writeCode (s.requestSource c 0) p.index p.sub r) (hne : code ≠ 0) :
    ∃ t, exec (.serviceWrite c b) s = .next t ∧ s.answered t c 2 p code true [] ∧ t.dict.pend = s.dict.pend ∧
      t.dict.stored = s.dict.stored := by
  have hexec := h.exec_write hop
  rw [handle_write hi hr _ hop, ← hcode, if_pos hne] at hexec
  have hevt := refuseRequest_eventOnly s p.index (leNat p.data) code
  obtain ⟨-, -, hstored, hpend⟩ := respond_keeps (s.refuseRequest p.index (leNat p.data) code) p code true [] h.network (by decide : 2 < 128)
  refine ⟨_, hexec, ?_, hpend.trans (by rw [hevt.dict]), hstored.trans (by rw [hevt.dict])⟩
  have hans := respond_answered (s.refuseRequest p.index (leNat p.data) code) p code true [] h.network (by decide : 2 < 128)
  unfold State.answered at hans ⊢
  rwa [hevt.tx] at hans

theorem write_pends (hop : p.op = 2) (hcode : s.writeCode (s.requestSource c 0) p.index p.sub r = 0) (hacc : r.acc = .rwc)
    (hw : WholeValue s c p r) (hok : s.valueOk p.index p.sub r p.data = true) :
    ∃ t, exec (.serviceWrite c b) s = .next t ∧ s.answered t c 2 p 0 true [] ∧
      mapFind t.dict.pend (objKey p.index p.sub) = some p.data ∧ t.dict.stored = s.dict.stored := by
  have hexec := h.exec_write hop
  rw [handle_write hi hr _ hop, if_neg (by simp [hcode]), writeSegment_pends hw hacc hok] at hexec
  obtain ⟨-, -, hstored, hpend⟩ := respond_keeps
    (((s.deadClear c (objKey p.index p.sub)).transferEnd (objKey p.index p.sub)).pendSet p.index p.sub p.data) p 0 true []
    h.network (by decide : 2 < 128)
  refine ⟨_, hexec, ?_, ?_, hstored⟩
  · exact respond_answered
      (((s.deadClear c (objKey p.index p.sub)).transferEnd (objKey p.index p.sub)).pendSet p.index p.sub p.data) p 0 true []
      h.network (by decide : 2 < 128)
  · rw [hpend]
    exact mapFind_put_same ..

end

end State.Requests

/-! ### The relay (R446, R447) -/

theorem foldl_emit_svc {α : Type} (f : State → α → State) (hf : ∀ s x, (f s x).svc = s.svc) (xs : List α) (s : State) :
    (xs.foldl f s).svc = s.svc := by
  induction xs generalizing s with
  | nil => rfl
  | cons x xs ih => exact (ih _).trans (hf s x)

theorem deliver_svc (s : State) (c : Client) (b : List Byte) : (s.deliver c b).svc = s.svc := by
  unfold State.deliver
  split
  · exact State.emit_svc ..
  · split
    · exact foldl_emit_svc _ (fun _ _ => State.emit_svc ..) _ _
    · rfl

theorem respond_svc (s : State) (q : OpenRequest) (op code : Nat) (last : Bool) (data : List Byte) :
    (s.respond q op code last data).svc = s.svc :=
  (deliver_svc ..).trans ((State.cntAdd_svc ..).trans (State.cntAdd_svc ..))

/-- The end of a request takes its entries off the relay. -/
theorem relayFinish_svc (s : State) (req code : Nat) : (s.relayFinish req code).svc =
    { s.svc with relay := s.svc.relay.filter (fun e => e.req ≠ req), reqs := s.svc.reqs.filter (fun q => q.id ≠ req) } := by
  unfold State.relayFinish
  dsimp only
  split
  · exact respond_svc ..
  · rfl

/-- An outcome ends its entry and is remembered. -/
theorem relayOutcome_ends {s : State} {seq : Nat} {e : RelayEntry} (h : s.svc.relay.find? (fun e => e.seq == seq) = some e) (code : Nat) :
    e ∉ (s.relayOutcome seq code).svc.relay ∧ (s.relayOutcome seq code).svc.outcomes.head? = some (seq, code) := by
  have hseq : e.seq = seq := by simpa using List.find?_some h
  rw [State.relayOutcome, h]
  dsimp only
  split
  · rw [relayFinish_svc]
    simp
  · simp [hseq]

theorem formCode_length {p : Pdu} {n : Nat} {lane : Bool} (h : formCode p n lane = 0) : 16 ≤ n := by
  unfold formCode at h
  split at h
  · simp at h
  · omega

theorem serviceOpen_laneClient {s : State} (hsup : s.hub.supplied = true) (hup : s.hub.mgmtUp = true) (hst : s.md.mode ≠ .stowed)
    (l : LaneId) : s.serviceOpen (laneClient l) = true := by
  have hidx : byteAt (leBytes 1 l.idx) 0 < 3 := by cases l <;> decide
  simp [State.serviceOpen, laneClient, hsup, hup, hst, hidx]

theorem exec_serviceOutcome {s : State} {l : LaneId} {b : List Byte} {p : Pdu} (hopen : s.serviceOpen (laneClient l) = true)
    (hp : p = parsePdu b) (hform : formCode p b.length true = 0) (hop : p.op = 16) :
    exec (.serviceOutcome l b) s = .next (s.relayOutcome p.tid p.abort) := by
  have hpdu : pduOp b = 16 := by rw [pduOp_eq (formCode_length hform), ← hp, hop]
  have hserve : s.serve (laneClient l) b = s.relayOutcome p.tid p.abort := by
    have hkind : (laneClient l).kind = 3 := rfl
    rw [State.serve, if_neg (by simp [hopen]), if_neg (by simp [hkind]), ← hp]
    dsimp only
    rw [hkind, if_neg (by simpa using hform), if_pos hop]
    rfl
  rw [← hserve]
  exact if_pos hpdu

/-- A step of the expiry: what is still queued of an old entry's request goes. -/
def relayExpireOne (s : State) (e : RelayEntry) : State :=
  if s.svc.relay.contains e then (s.relayFinish e.req 0x0503).cntAdd 0x7000 3 1 else s

theorem mem_relayExpireOne {s : State} {x e : RelayEntry} :
    e ∈ (relayExpireOne s x).svc.relay ↔ e ∈ s.svc.relay ∧ (x ∈ s.svc.relay → x.req ≠ e.req) := by
  unfold relayExpireOne
  split
  next hx =>
    rw [State.cntAdd_svc, relayFinish_svc]
    simp only [List.mem_filter, decide_eq_true_eq]
    exact and_congr_right fun _ => ⟨fun h _ => h.symm, fun h => (h (List.contains_iff_mem.mp hx)).symm⟩
  next hx =>
    exact ⟨fun h => ⟨h, fun hm => absurd (List.contains_iff_mem.mpr hm) hx⟩, And.left⟩

theorem mem_foldl_relayExpireOne {e : RelayEntry} (old : List RelayEntry) (s : State) :
    e ∈ (old.foldl relayExpireOne s).svc.relay ↔ e ∈ s.svc.relay ∧ ∀ x ∈ old, x ∈ s.svc.relay → x.req ≠ e.req := by
  induction old generalizing s with
  | nil => simp
  | cons x old ih =>
    rw [List.foldl_cons, ih, mem_relayExpireOne]
    constructor
    · rintro ⟨⟨he, hx⟩, hold⟩
      refine ⟨he, fun y hy hm hreq => ?_⟩
      obtain rfl | hy := List.mem_cons.mp hy
      · exact hx hm hreq
      · exact hold y hy (mem_relayExpireOne.mpr ⟨hm, fun hxm hxy => hx hxm (hxy.trans hreq)⟩) hreq
    · rintro ⟨he, hall⟩
      refine ⟨⟨he, hall x List.mem_cons_self⟩, fun y hy hm => ?_⟩
      exact hall y (List.mem_cons_of_mem _ hy) (mem_relayExpireOne.mp hm).1

/-- Every entry of a request that has an entry of 16 snapshots goes. -/
theorem mem_relayExpire {s : State} {e : RelayEntry} :
    e ∈ s.relayExpire.svc.relay ↔ e ∈ s.svc.relay ∧ ∀ x ∈ s.svc.relay, 16 ≤ x.snaps → x.req ≠ e.req := by
  refine (mem_foldl_relayExpireOne (s.svc.relay.filter (fun e => decide (16 ≤ e.snaps))) s).trans (and_congr_right fun _ => ?_)
  simp only [List.mem_filter, decide_eq_true_eq]
  exact ⟨fun h x hx hs => h x ⟨hx, hs⟩ hx, fun h x hx _ => h x hx.1 hx.2⟩

/-! ### The lanes' rings (R447) -/

theorem exec_laneLocalRequest {s : State} {l : LaneId} {base r n : Nat} (hb : base = laneRing l.idx) (hr : r = s.ringCount (base + 0xFF04))
    (hopen : s.serviceOpen (laneClient l) = true) (hn : n = leNat (memRead s.hub.sram (base + 0x410 * (r % 16)) 2)) (hle : n ≤ 1024) :
    (s.ringCount (base + 0xFF00) ≠ r → exec (.laneLocalRequest l) s =
      .next ((s.sramSet (base + 0xFF04) (leBytes 4 ((r + 1) % 2 ^ 32))).serve (laneClient l)
        (memRead s.hub.sram (base + 0x410 * (r % 16) + 16) n))) ∧
    (s.ringCount (base + 0xFF00) = r → exec (.laneLocalRequest l) s = .next s) := by
  have hexec : exec (.laneLocalRequest l) s = if !s.serviceOpen (laneClient l) || s.ringCount (base + 0xFF00) = r then .next s
      else .next ((s.sramSet (base + 0xFF04) (leBytes 4 ((r + 1) % 2 ^ 32))).serve (laneClient l)
        (if 1024 < n then [] else memRead s.hub.sram (base + 0x410 * (r % 16) + 16) (min n 1024))) := by
    subst hn hr hb
    rfl
  rw [hexec, hopen, if_neg (by omega : ¬1024 < n), Nat.min_eq_left hle]
  exact ⟨fun hne => if_neg (by simpa using hne), fun he => if_pos (by simpa using he)⟩

/-! ### CAN segments and the ends of transfers (R438, R440) -/

theorem throttle_eventOnly (s : State) (p : Nat) : EventOnly s (s.throttle p) := by
  unfold State.throttle
  dsimp only
  split
  · exact .refl s
  · exact (partners_eventOnly s _).trans (hubEvtP_eventOnly ..)

theorem clientViolation_eventOnly (s : State) (addr : List Byte) (code : Nat) (parts : List (Nat × Nat)) :
    EventOnly s (s.clientViolation addr code parts) := by
  unfold State.clientViolation
  dsimp only
  refine .trans ?_ ((violation_eventOnly _ _ code parts).trans (throttle_eventOnly _ _))
  split
  · exact partners_eventOnly s _
  · split
    · exact .refl s
    · exact partners_eventOnly s _

/-- A broken PDU is given up; no object changes. -/
theorem canBroken_gives_up (s : State) (ch : Nat) : (s.canBroken ch).svc.canRx = none ∧ (s.canBroken ch).dict = s.dict := by
  have hevt : EventOnly { s with svc := { s.svc with canRx := none } } (s.canBroken ch) := clientViolation_eventOnly ..
  exact ⟨by rw [hevt.svc], hevt.dict⟩

/-- A frame of the request identifier, of a client whose transport is open. -/
structure State.Segment (s : State) (ch : Nat) (f : CanFrame) : Prop where
  opened : s.serviceOpen (canClient ch) = true
  on : s.canOn ch = true
  service : s.isService ch f = true
  plain : f.remote = false
  bytes : f.data ≠ []

namespace State.Segment

variable {s : State} {ch : Nat} {f : CanFrame} (h : s.Segment ch f)
include h

theorem exec_first (hrx : s.svc.canRx = none) (h7 : bitOf (byteAt f.data 0) 7 = true) (h6 : bitOf (byteAt f.data 0) 6 = false)
    (h0 : byteAt f.data 0 % 64 = 0) : exec (.canServiceSegment ch f) s =
      .next { s with svc := { s.svc with canRx := some (1, f.data.drop 1) } } := by
  obtain ⟨hopen, hon, hsvc, hrem, hdata⟩ := h
  show execCanServiceSegment ch f s = _
  simp [execCanServiceSegment, hopen, hon, hsvc, hrem, hdata, hrx, h7, h6, h0]

section
variable {n : Nat} {got : List Byte} (hrx : s.svc.canRx = some (n, got)) (h7 : bitOf (byteAt f.data 0) 7 = false)
include hrx h7

theorem exec_next (hn : byteAt f.data 0 % 64 = n) (h6 : bitOf (byteAt f.data 0) 6 = false) : exec (.canServiceSegment ch f) s =
    .next { s with svc := { s.svc with canRx := some ((n + 1) % 64, got ++ f.data.drop 1) } } := by
  obtain ⟨hopen, hon, hsvc, hrem, hdata⟩ := h
  show execCanServiceSegment ch f s = _
  simp [execCanServiceSegment, hopen, hon, hsvc, hrem, hdata, hrx, h7, h6, hn]

theorem exec_last (hn : byteAt f.data 0 % 64 = n) (h6 : bitOf (byteAt f.data 0) 6 = true) : exec (.canServiceSegment ch f) s =
    .next (({ s with svc := { s.svc with canRx := none } } : State).serve (canClient ch) (trimPdu (got ++ f.data.drop 1))) := by
  obtain ⟨hopen, hon, hsvc, hrem, hdata⟩ := h
  show execCanServiceSegment ch f s = _
  simp [execCanServiceSegment, hopen, hon, hsvc, hrem, hdata, hrx, h7, h6, hn]

theorem exec_broken (hn : byteAt f.data 0 % 64 ≠ n) : exec (.canServiceSegment ch f) s = .next (s.canBroken ch) := by
  obtain ⟨hopen, hon, hsvc, hrem, hdata⟩ := h
  have hne : ¬n = byteAt f.data 0 % 64 := fun he => hn he.symm
  show execCanServiceSegment ch f s = _
  simp [execCanServiceSegment, hopen, hon, hsvc, hrem, hdata, hrx, h7, hne]

end

end State.Segment

/-- Settles O48: requests of the network by their answers, the relay by its entries, CAN segments by the bytes collected. -/
theorem serviceRequestsAnswered : Obligations.ServiceRequestsAnswered := by
  unfold Obligations.ServiceRequestsAnswered
  intro s
  refine ⟨fun c b p hopen hnet hfree hp hform hauth => ?_, fun l b p e hsup hup hst hp hform hop he => ?_,
    fun l base r n hb hr hopen hn hle => exec_laneLocalRequest hb hr hopen hn hle,
    fun ch f h hopen hon hsvc hrem hdata hh => ?_, fun hrx => ?_, fun i j x hx => ?_, fun hsup hup => ?_⟩
  · have hreq : s.Requests c b p := ⟨hopen, hnet, hfree, hp, hform, hauth⟩
    refine ⟨fun i hi hx => hreq.unknown_answered hi hx, fun r hi hr => ⟨?_, hreq.info_answered hi hr, hreq.cancel_answered hi hr, ?_⟩⟩
    · rintro v hop hacc rfl hlen hoff
      exact hreq.read_answered hi hr hop hacc hlen hoff
    · intro code hop hcode
      refine ⟨hreq.write_refused hi hr hop hcode, ?_⟩
      intro hz hacc howned hfirst hlast hoff halone hlen hfix hok
      exact hreq.write_pends hi hr hop (hcode.symm.trans hz) hacc ⟨hfirst, hlast, hoff, halone, hlen, hfix, howned⟩ hok
  · exact ⟨_, exec_serviceOutcome (serviceOpen_laneClient hsup hup hst l) hp hform hop, relayOutcome_ends he _⟩
  · subst hh
    have hseg : s.Segment ch f := ⟨hopen, hon, hsvc, hrem, hdata⟩
    exact ⟨hseg.exec_first,
      fun n got hrx h7 hn _ => ⟨hseg.exec_next hrx h7 hn, hseg.exec_last hrx h7 hn⟩,
      fun n got hrx h7 hn => ⟨_, hseg.exec_broken hrx h7 hn, canBroken_gives_up s ch⟩⟩
  · exact ⟨_, if_pos hrx, canBroken_gives_up s _⟩
  · obtain ⟨hgone, hdead⟩ := transferKill_ends hx 0x0601
    exact ⟨_, rfl, hgone, hdead, (transferKill_keeps s _ _).2.1⟩
  · exact ⟨_, if_pos (by simp [hsup, hup]), fun e => mem_relayExpire⟩

end Sys2Proof.Machine

/-! Cooper: self-test sets and their results, the repair map, ageing records and commanded tests (18 R472 to R483, R491, R493). -/

namespace Sys2Proof.Machine

-- One proof after another: proofs that wait side by side each keep a stack, and many of them exceed the memory of a check.
set_option Elab.async false

/-! ### The start of a set (R472, R473) -/

section
variable (s : State) (k : LaneId) (f : Fld) (x : Nat) (l : LaneId)

theorem underTest_lfSet : (s.lfSet k f x).underTest l = s.underTest l := by
  rw [State.underTest, State.lfSet_coo, State.underTest]

theorem inS3_lfSet : (s.lfSet k f x).inS3 l = s.inS3 l := by
  rw [State.inS3, State.lfSet_md, State.lfSet_lane_restart, State.inS3]

theorem recordValid_lfSet : (s.lfSet k f x).recordValid = s.recordValid := by
  unfold State.recordValid State.runningFw State.activeImage
  simp only [State.obj_congr (State.lfSet_dict s k f x), State.lfSet_sup, State.lfSet_store]

theorem quickS3_lfSet : (s.lfSet k f x).quickS3 l = s.quickS3 l := by
  rw [State.quickS3, State.lfSet_lane_restart, recordValid_lfSet, State.quickS3]

theorem cooMay_lfSet (set : Nat) : (s.lfSet k f x).cooMay l set = s.cooMay l set := by
  unfold State.cooMay
  rw [underTest_lfSet, inS3_lfSet, quickS3_lfSet, State.lfSet_md, State.lfSet_coo]

end

/-- What a step does not change in a field, many do not. -/
theorem lf_foldl {α : Type} {f : State → α → State} {l : LaneId} {g : Fld} (h : ∀ s x, (f s x).lf l g = s.lf l g) (xs : List α) (s : State) :
    (xs.foldl f s).lf l g = s.lf l g := by
  induction xs generalizing s with
  | nil => rfl
  | cons x xs ih => exact (ih _).trans (h s x)

theorem LaneOnly.foldl {α : Type} {f : State → α → State} {l : LaneId} (h : ∀ s x, LaneOnly l s (f s x)) (xs : List α) (s : State) :
    LaneOnly l s (xs.foldl f s) := by
  induction xs generalizing s with
  | nil => exact .refl l s
  | cons x xs ih => exact (h s x).trans (ih _)

/-- The registers as a set shows its start. -/
def State.cooShown (s : State) (l : LaneId) (set running : Nat) : State :=
  (((((s.lfSet l COO_CMD_GO 1).lfSet l COO_STATUS 0).lfSet l COO_STATUS_STATE 1).lfSet l COO_STATUS_SET set).lfSet l COO_STATUS_RUNNING
    running).lfSet l COO_RESULT 0

theorem cooShown_shows (s : State) (l : LaneId) {set : Nat} (hset : set < 16) (n : Nat) :
    (s.cooShown l set n).lf l COO_STATUS_STATE = 1 ∧ (s.cooShown l set n).lf l COO_STATUS_SET = set ∧
    (s.cooShown l set n).lf l COO_CMD_GO = 1 ∧ (s.cooShown l set n).lf l COO_RESULT = 0 := by
  unfold State.cooShown
  refine ⟨?_, ?_, ?_, State.lf_lfSet_same _ _ _ _ rfl⟩
  · rw [State.lf_lfSet_apart _ _ _ _ _ _ rfl, State.lf_lfSet_apart _ _ _ _ _ _ rfl, State.lf_lfSet_apart _ _ _ _ _ _ rfl]
    exact State.lf_lfSet_same _ _ _ _ rfl
  · rw [State.lf_lfSet_apart _ _ _ _ _ _ rfl, State.lf_lfSet_apart _ _ _ _ _ _ rfl, State.lf_lfSet_same _ _ _ _ rfl]
    exact Nat.mod_eq_of_lt hset
  · rw [State.lf_lfSet_apart _ _ _ _ _ _ rfl, State.lf_lfSet_apart _ _ _ _ _ _ rfl, State.lf_lfSet_apart _ _ _ _ _ _ rfl,
      State.lf_lfSet_apart _ _ _ _ _ _ rfl, State.lf_lfSet_apart _ _ _ _ _ _ rfl]
    exact State.lf_lfSet_same _ _ _ _ rfl

/-- Clearing the fail log leaves the registers before it. -/
theorem cooStart_lf (s : State) (l : LaneId) (set blocks : Nat) {f : Fld} (hf : f.reg < 0x40050100) : (s.cooStart l set blocks).lf l f =
    (s.cooShown l set (firstBlocks (s.lf l COO_CFG_BUDGET) (setBlocks set blocks) 0)).lf l f := by
  unfold State.cooStart
  dsimp only
  rw [lf_updLane (by intro; rfl), lf_foldl (fun s i => congrArg (fldGet f) (State.lreg_lregSet_other s l l 0
    (by show f.reg ≠ 0x40050100 + 0x8 * i; omega)))]
  rfl

theorem cooStart_laneOnly (s : State) (l : LaneId) (set blocks : Nat) : LaneOnly l s (s.cooStart l set blocks) := by
  unfold State.cooStart
  dsimp only
  refine .trans ?_ (.upd l _ _)
  refine .trans ?_ (LaneOnly.foldl (fun s i => .lregSet l s _ _) _ _)
  exact (LaneOnly.lfSet l s _ _).trans ((LaneOnly.lfSet l _ _ _).trans ((LaneOnly.lfSet l _ _ _).trans ((LaneOnly.lfSet l _ _ _).trans
    ((LaneOnly.lfSet l _ _ _).trans (.lfSet l _ _ _)))))

/-- The command register as a write of COO_CMD leaves it. -/
def State.cooCommand (s : State) (l : LaneId) (v : Nat) : State :=
  (s.lfSet l COO_CMD_BLOCKS (bitsOf v 15 8)).lfSet l COO_CMD_SET (bitsOf v 7 4)

theorem cooCommand_laneOnly (s : State) (l : LaneId) (v : Nat) : LaneOnly l s (s.cooCommand l v) :=
  (LaneOnly.lfSet l s _ _).trans (.lfSet l _ _ _)

theorem exec_cooperGo {s : State} {l : LaneId} {v : Nat} (hsup : (s.lane l).supplied = true) (hgo : v % 2 = 1) (h1 : 1 ≤ bitsOf v 7 4)
    (h6 : bitsOf v 7 4 ≤ 6) : exec (.cooperGo l 4 v) s =
    .next (if (s.lf l COO_STATUS_STATE = 0 ∨ s.lf l COO_STATUS_STATE = 3) ∧ s.cooMay l (bitsOf v 7 4) = true
      then (s.cooCommand l v).cooStart l (bitsOf v 7 4) (bitsOf v 15 8) else s.cooCommand l v) := by
  have hmay : (s.cooCommand l v).cooMay l (bitsOf v 7 4) = s.cooMay l (bitsOf v 7 4) := by
    rw [State.cooCommand, cooMay_lfSet, cooMay_lfSet]
  show execCooperGo l 4 v s = _
  unfold execCooperGo
  rw [if_neg (by simp [hsup])]
  dsimp only
  rw [if_pos (show 1 ≤ bitsOf v 7 4 ∧ bitsOf v 7 4 ≤ 6 from ⟨h1, h6⟩)]
  show (if (v % 2 = 1 && (s.lf l COO_STATUS_STATE = 0 || s.lf l COO_STATUS_STATE = 3) && (s.cooCommand l v).cooMay l (bitsOf v 7 4)) = true
    then _ else _) = _
  rw [hmay]
  split
  next h => rw [if_pos (by simpa [hgo] using h)]; rfl
  next h => rw [if_neg (by simpa [hgo] using h)]; rfl

/-! ### The end of a set (R474 to R477, R493) -/

theorem cooStop_stops {s : State} {l : LaneId} (h : s.lf l COO_STATUS_STATE = 1) : LaneOnly l s (s.cooStop l) ∧
    (s.cooStop l).lf l COO_STATUS_STATE = 2 ∧ (s.cooStop l).lf l COO_STOP = 1 := by
  rw [State.cooStop, if_pos h]
  refine ⟨(LaneOnly.lfSet l s _ _).trans (.lfSet l _ _ _), State.lf_lfSet_same _ _ _ _ rfl, ?_⟩
  rw [State.lf_lfSet_apart _ _ _ _ _ _ rfl]
  exact State.lf_lfSet_same _ _ _ _ rfl

/-- Lane `l`'s registers but for the counts of spares and the events', the mode and Cooper's own state stay. -/
structure CooKept (l : LaneId) (s t : State) : Prop where
  reg : ∀ a, a ≠ COO_SPARES.reg → eventReg a = false → t.lreg l a = s.lreg l a
  md : t.md = s.md
  coo : t.coo = s.coo

namespace CooKept

variable {l : LaneId} {s t u : State}

theorem refl (l : LaneId) (s : State) : CooKept l s s := ⟨fun _ _ _ => rfl, rfl, rfl⟩

theorem trans (h : CooKept l s t) (g : CooKept l t u) : CooKept l s u :=
  ⟨fun a ha he => (g.reg a ha he).trans (h.reg a ha he), g.md.trans h.md, g.coo.trans h.coo⟩

theorem ite {p : Prop} [Decidable p] (h : CooKept l s t) (g : CooKept l s u) : CooKept l s (if p then t else u) := by
  split
  · exact h
  · exact g

theorem laneEvt {code : Nat} {parts : List (Nat × Nat)} (h : CooKept l s t) : CooKept l s (t.laneEvt l code parts) :=
  have hevt := laneEvt_eventOnly t l code parts
  h.trans ⟨fun a _ he => hevt.reg l a he, hevt.md, hevt.coo⟩

theorem cntSet {i j v : Nat} (h : CooKept l s t) : CooKept l s (t.cntSet i j v) :=
  h.trans ⟨fun _ _ _ => by simp [State.lreg], rfl, rfl⟩

theorem showSpares (h : CooKept l s t) : CooKept l s (t.showSpares l) := by
  have hset (u : State) (f : Fld) (hf : f.reg = COO_SPARES.reg) (x : Nat) : CooKept l u (u.lfSet l f x) :=
    ⟨fun a ha _ => State.lreg_lregSet_other _ _ _ _ (hf ▸ ha), by simp, by simp⟩
  unfold State.showSpares
  exact h.trans ((hset t COO_SPARES_SRAM rfl _).trans (hset _ COO_SPARES_L1 rfl _)).cntSet

theorem lf (h : CooKept l s t) {f : Fld} (hf : f.reg ≠ COO_SPARES.reg) (he : eventReg f.reg = false) : t.lf l f = s.lf l f :=
  congrArg (fldGet f) (h.reg _ hf he)

end CooKept

/-- The registers as a set without a fault shows its end: in state `st`, passed or not. -/
def State.cooDone (s : State) (l : LaneId) (st pass ended ms : Nat) : State :=
  (((((((((s.lfSet l COO_STATUS_FLOG_OVF 0).lfSet l COO_RESULT 0).lfSet l COO_STATUS_STATE st).lfSet l COO_STATUS_RUNNING 0).lfSet l
    COO_STATUS_DONE ended).lfSet l COO_STATUS_PASS pass).lfSet l COO_TIME ms).lfSet l COO_CMD_GO 0).lfSet l COO_STOP 0).lfSet l
    COO_INT_STAT_DONE 1

theorem cooDone_shows (s : State) (l : LaneId) {st pass : Nat} (hst : st < 16) (hpass : pass < 2) (ended ms : Nat) :
    (s.cooDone l st pass ended ms).lf l COO_STATUS_STATE = st ∧ (s.cooDone l st pass ended ms).lf l COO_STATUS_PASS = pass ∧
    (s.cooDone l st pass ended ms).lf l COO_RESULT = 0 ∧ (s.cooDone l st pass ended ms).lf l COO_STATUS_RUNNING = 0 ∧
    (s.cooDone l st pass ended ms).lf l COO_CMD_GO = 0 ∧ (s.cooDone l st pass ended ms).lf l COO_STOP = 0 := by
  unfold State.cooDone
  refine ⟨?_, ?_, ?_, ?_, ?_, ?_⟩
  · rw [State.lf_lfSet_apart _ _ _ _ _ _ rfl, State.lf_lfSet_apart _ _ _ _ _ _ rfl, State.lf_lfSet_apart _ _ _ _ _ _ rfl,
      State.lf_lfSet_apart _ _ _ _ _ _ rfl, State.lf_lfSet_apart _ _ _ _ _ _ rfl, State.lf_lfSet_apart _ _ _ _ _ _ rfl,
      State.lf_lfSet_apart _ _ _ _ _ _ rfl, State.lf_lfSet_same _ _ _ _ rfl]
    exact Nat.mod_eq_of_lt hst
  · rw [State.lf_lfSet_apart _ _ _ _ _ _ rfl, State.lf_lfSet_apart _ _ _ _ _ _ rfl, State.lf_lfSet_apart _ _ _ _ _ _ rfl,
      State.lf_lfSet_apart _ _ _ _ _ _ rfl, State.lf_lfSet_same _ _ _ _ rfl]
    exact Nat.mod_eq_of_lt hpass
  · rw [State.lf_lfSet_apart _ _ _ _ _ _ rfl, State.lf_lfSet_apart _ _ _ _ _ _ rfl, State.lf_lfSet_apart _ _ _ _ _ _ rfl,
      State.lf_lfSet_apart _ _ _ _ _ _ rfl, State.lf_lfSet_apart _ _ _ _ _ _ rfl, State.lf_lfSet_apart _ _ _ _ _ _ rfl,
      State.lf_lfSet_apart _ _ _ _ _ _ rfl, State.lf_lfSet_apart _ _ _ _ _ _ rfl]
    exact State.lf_lfSet_same _ _ _ _ rfl
  · rw [State.lf_lfSet_apart _ _ _ _ _ _ rfl, State.lf_lfSet_apart _ _ _ _ _ _ rfl, State.lf_lfSet_apart _ _ _ _ _ _ rfl,
      State.lf_lfSet_apart _ _ _ _ _ _ rfl, State.lf_lfSet_apart _ _ _ _ _ _ rfl, State.lf_lfSet_apart _ _ _ _ _ _ rfl]
    exact State.lf_lfSet_same _ _ _ _ rfl
  · rw [State.lf_lfSet_apart _ _ _ _ _ _ rfl, State.lf_lfSet_apart _ _ _ _ _ _ rfl]
    exact State.lf_lfSet_same _ _ _ _ rfl
  · rw [State.lf_lfSet_apart _ _ _ _ _ _ rfl]
    exact State.lf_lfSet_same _ _ _ _ rfl

/-- A run without failing bits, mismatches or unrepaired rows. -/
structure CleanRun (r : CooperRun) : Prop where
  fails : r.fails = []
  logic : r.logic = []
  remain : r.remain = []
  lpddr : r.lpddr = false

/-- A clean run shows its end; beside that only counts of spares, counters and events change. -/
theorem cooEnd_clean {r : CooperRun} (h : CleanRun r) (s : State) (l : LaneId) :
    ∃ ended ms, CooKept l (s.cooDone l (if s.lf l COO_STATUS_STATE = 2 then 4 else 3) (b2n !decide (s.lf l COO_STATUS_STATE = 2)) ended ms)
      (s.cooEnd l r) := by
  obtain ⟨hfails, hlogic, hremain, hlpddr⟩ := h
  unfold State.cooEnd
  simp only [hfails, hlogic, hremain, hlpddr, failRows, State.failLog, State.repairRows, List.filter_nil, List.zipIdx_nil, List.foldl_nil,
    List.map_nil, List.any_nil, List.append_nil, List.find?_nil, ite_self, if_true, List.filter_false, List.sum_nil,
    decide_true, Bool.and_true, List.length_nil, Nat.not_lt_zero, decide_false, decide_eq_true_eq]
  have hdone (st pass ended ms : Nat) : (((((((((s.lfSet l COO_STATUS_FLOG_OVF (b2n false)).lfSet l COO_RESULT 0).lfSet l
      COO_STATUS_STATE st).lfSet l COO_STATUS_RUNNING 0).lfSet l COO_STATUS_DONE ended).lfSet l COO_STATUS_PASS pass).lfSet l COO_TIME ms).lfSet
      l COO_CMD_GO 0).lfSet l COO_STOP 0).lfSet l COO_INT_STAT_DONE 1 = s.cooDone l st pass ended ms := rfl
  rw [hdone]
  have htail {d : State} {i j v i' j' v' : Nat} : CooKept l d (((d.cntSet i j v).cntSet i' j' v').showSpares l) :=
    (CooKept.refl l d).cntSet.cntSet.showSpares
  exact ⟨_, _, .ite (.laneEvt (.ite htail.laneEvt htail)) (.ite htail.laneEvt htail)⟩

theorem afterSegment_self {s : State} (hclose : s.coo.closeAfter = none) (hreset : s.coo.resetAfter = false) : s.afterSegment = s := by
  unfold State.afterSegment
  split
  · rfl
  · simp only [hclose, hreset, Bool.false_eq_true, if_false]

theorem exec_cooperRunDone_clean {s : State} {l : LaneId} {r : CooperRun} (hsup : (s.lane l).supplied = true) (hclosing : s.md.closing = none)
    (htest : s.underTest l = false) (hclose : s.coo.closeAfter = none) (hreset : s.coo.resetAfter = false) (hclean : CleanRun r)
    (hst : s.lf l COO_STATUS_STATE = 1 ∨ s.lf l COO_STATUS_STATE = 2) :
    ∃ t ended ms, exec (.cooperRunDone l r) s = .next t ∧
      CooKept l (s.cooDone l (if s.lf l COO_STATUS_STATE = 2 then 4 else 3) (b2n !decide (s.lf l COO_STATUS_STATE = 2)) ended ms) t ∧
      t.md = s.md := by
  obtain ⟨ended, ms, hkept⟩ := cooEnd_clean hclean s l
  have hmd : (s.cooEnd l r).md = s.md := hkept.md.trans (by simp [State.cooDone])
  have hcoo : (s.cooEnd l r).coo = s.coo := hkept.coo.trans (by simp [State.cooDone])
  have hruns : s.cooRuns l = true := by
    simp only [State.cooRuns, hsup, Bool.true_and, Bool.or_eq_true, decide_eq_true_eq]
    exact hst
  have htest' : (s.cooEnd l r).underTest l = false := by rwa [State.underTest, hcoo]
  refine ⟨s.cooEnd l r, ended, ms, ?_, hkept, hmd⟩
  show execCooperRunDone l r s = _
  unfold execCooperRunDone
  rw [if_neg (by simp [hruns])]
  simp only [hmd, hclosing, htest', Bool.false_eq_true, if_false]
  rw [afterSegment_self (by rw [hcoo, hclose]) (by rw [hcoo, hreset])]

theorem CooKept.done {s t : State} {l : LaneId} {st pass ended ms : Nat} (h : CooKept l (s.cooDone l st pass ended ms) t) (hst : st < 16)
    (hpass : pass < 2) : t.lf l COO_STATUS_STATE = st ∧ t.lf l COO_STATUS_PASS = pass ∧ t.lf l COO_RESULT = 0 ∧
      t.lf l COO_STATUS_RUNNING = 0 ∧ t.lf l COO_CMD_GO = 0 ∧ t.lf l COO_STOP = 0 := by
  have hread (f : Fld) (hf : f.reg ≠ COO_SPARES.reg) (he : eventReg f.reg = false) := h.lf hf he
  rw [hread COO_STATUS_STATE (by decide) rfl, hread COO_STATUS_PASS (by decide) rfl, hread COO_RESULT (by decide) rfl,
    hread COO_STATUS_RUNNING (by decide) rfl, hread COO_CMD_GO (by decide) rfl, hread COO_STOP (by decide) rfl]
  exact cooDone_shows s l hst hpass ended ms

/-! ### The repair map (R478) -/

theorem mramRead_out {s : State} {a b n : Nat} {bs : List Byte} (h : b + n ≤ a ∨ a + bs.length ≤ b) :
    (s.mramWrite a bs).mramRead b n = s.mramRead b n := memRead_memWrite_out _ _ _ _ _ h

theorem mramRead_same (s : State) (a : Nat) (bs : List Byte) : (s.mramWrite a bs).mramRead a bs.length = bs := memRead_memWrite_same _ _ _

/-- The header of a copy of the repair map: `n` entries, sequence number `q`. -/
def mapHeader (q n : Nat) : List Byte :=
  let h := [0x4F, 0x52, 0x50, 0x4D] ++ leBytes 8 q ++ leBytes 4 n ++ List.replicate 44 0
  h ++ leBytes 4 (crc32c h)

theorem length_mapHeader (q n : Nat) : (mapHeader q n).length = 64 := by simp [mapHeader]

theorem mapHeader_seq (q n : Nat) : leAt (mapHeader q n) 4 8 = q % 2 ^ 64 := by
  have hslice : slice (mapHeader q n) 4 8 = leBytes 8 q := by simp [slice, mapHeader]
  rw [leAt, hslice, leNat_leBytes]
  norm_num

theorem padTo_self {n : Nat} {bs : List Byte} (h : bs.length = n) : padTo n bs = bs := by simp [padTo, h]

/-- The copy that the next entry is written to, and its sequence number. -/
def State.mapNext (s : State) : Nat × Nat :=
  match s.mapCopy with
  | some (k, q) => (1 - k, q + 1)
  | none => (0, 1)

theorem mapAppend_eq {s : State} {e : List Byte} (he : e.length = 16) : s.mapAppend e =
    (s.mramWrite (mapBase s.mapNext.1 + 64) (s.mapEntries ++ [e]).flatten).mramWrite (mapBase s.mapNext.1)
      (mapHeader s.mapNext.2 (s.mapEntries ++ [e]).length) := by
  unfold State.mapAppend
  rw [padTo_self he]
  rfl

theorem repairEntrySubmit_appends {s : State} {src : Nat} (hsup : s.hub.supplied = true) (hlo : 0x20 ≤ src) (hhi : src ≤ 0x22)
    {e : List Byte} {k q : Nat} (he : e.length = 16)
    (hkq : (k, q) = s.mapNext) : ∃ t, exec (.repairEntrySubmit src e) s = .next t ∧
      t.mramRead (mapBase k + 64) (s.mapEntries ++ [e]).flatten.length = (s.mapEntries ++ [e]).flatten ∧
      leAt (t.mramRead (mapBase k) 64) 4 8 = q % 2 ^ 64 ∧ (∀ k, t.lane k = s.lane k) ∧
      (∀ a, a < mapBase k ∨ mapBase k + 64 + (s.mapEntries ++ [e]).flatten.length ≤ a → t.mramRead a 1 = s.mramRead a 1) := by
  refine ⟨s.mapAppend e, if_pos (by simp [hsup, hlo, hhi, he]), ?_⟩
  rw [mapAppend_eq he, ← hkq]
  dsimp only
  have hlen := length_mapHeader q (s.mapEntries ++ [e]).length
  refine ⟨?_, ?_, fun j => by rw [State.mramWrite_lane, State.mramWrite_lane], fun a ha => ?_⟩
  · rw [mramRead_out (.inr (by omega)), mramRead_same]
  · rw [← mapHeader_seq q (s.mapEntries ++ [e]).length]
    exact congrArg (leAt · 4 8) (hlen ▸ mramRead_same ..)
  · rw [mramRead_out (by omega), mramRead_out (by omega)]

/-! ### Ageing records (R491) and commanded tests (R483) -/

theorem ageAppend_writes {s : State} {b : List Byte} (hb : b.length = 64) :
    (s.ageAppend b).mramRead (0x60D00000 + 64 * ageSlot s.coo.recs) 64 = b ∧ (s.ageAppend b).coo.recs = s.coo.recs + 1 ∧
    (∀ a, a < 0x60D00000 + 64 * ageSlot s.coo.recs ∨ 0x60D00000 + 64 * ageSlot s.coo.recs + 64 ≤ a →
      (s.ageAppend b).mramRead a 1 = s.mramRead a 1) := by
  have hread (a n : Nat) : (s.ageAppend b).mramRead a n = (s.mramWrite (0x60D00000 + 64 * ageSlot s.coo.recs) b).mramRead a n := by
    rw [State.ageAppend, padTo_self hb]
    rfl
  refine ⟨?_, rfl, fun a ha => ?_⟩
  · have hsame := mramRead_same s (0x60D00000 + 64 * ageSlot s.coo.recs) b
    rwa [hb, ← hread] at hsame
  · rw [hread, mramRead_out (by omega)]

theorem bitsOf_mod_ne_zero {v : Nat} {l : LaneId} (h : bitOf v l.idx = true) : v % 8 ≠ 0 := by
  cases l <;> simp [bitOf, LaneId.idx] at h <;> omega

/-- The next lane's turn in a test that has one. -/
theorem testLane_keeps {s : State} {x : Commanded} (hx : s.coo.test = some x) (hne : x.lanes ≠ []) :
    s.testLane.coo.test = some x ∧ s.testLane.md = s.md ∧ s.testLane.hub = s.hub := by
  unfold State.testLane
  rw [hx]
  dsimp only
  split
  next h => exact absurd h hne
  next => exact ⟨by simp [hx], by simp, by simp⟩

theorem commandTest_taken {s : State} {src v : Nat} {l : LaneId} (hlevel : 3 ≤ s.sourceLevel src) (hmode : s.md.mode = .depot)
    (hlife : s.md.life = .factory ∨ s.md.life = .depotOpen) (hfree : s.coo.test = none) (hlo : 4 ≤ bitsOf v 7 4) (hhi : bitsOf v 7 4 ≤ 6)
    (hzero : bitsOf v 3 3 = 0) (hbit : bitOf v l.idx = true) (hsup : (s.lane l).supplied = true) :
    ∃ x, (s.commandTest src v).1.coo.test = some x ∧ x.set = bitsOf v 7 4 ∧ x.blocks = bitsOf v 15 8 ∧ l.idx ∈ x.lanes ∧
      (s.commandTest src v).1.md = s.md ∧ (s.commandTest src v).1.hub = s.hub := by
  have hv := bitsOf_mod_ne_zero hbit
  have hmem : l.idx ∈ (List.range 3).filter (fun i => bitOf v i && (s.lane (laneOf i)).supplied) := by
    have hidx : laneOf l.idx = l := by cases l <;> rfl
    have hlt : l.idx < 3 := by cases l <;> decide
    simp [hlt, hbit, hidx, hsup]
  unfold State.commandTest
  rw [if_neg (by omega), if_neg (by rcases hlife with h | h <;> simp [hmode, hfree, h]), if_neg (by simp [hzero]; omega)]
  obtain ⟨htest, hmd, hhub⟩ := testLane_keeps
    (s := { s with coo := { s.coo with test := some ⟨bitsOf v 15 8, bitsOf v 7 4, _⟩ } }) rfl (List.ne_nil_of_mem hmem)
  exact ⟨_, htest, rfl, rfl, hmem, hmd, hhub⟩

theorem commandTest_refused {s : State} {src v : Nat}
    (h : s.sourceLevel src < 3 ∨ s.md.mode ≠ .depot ∨ bitsOf v 7 4 < 4 ∨ 6 < bitsOf v 7 4) : (s.commandTest src v).1 = s := by
  unfold State.commandTest
  split
  · rfl
  · split
    · rfl
    next hlevel hmode =>
      have hdepot : s.md.mode = .depot := by
        simp only [ne_eq, decide_not, Bool.or_eq_true, not_or] at hmode
        simpa using hmode.1.1
      have hset : bitsOf v 7 4 < 4 ∨ 6 < bitsOf v 7 4 := by
        obtain h | h | h | h := h
        · exact absurd h hlevel
        · exact absurd hdepot h
        · exact .inl h
        · exact .inr h
      exact congrArg Prod.fst (if_pos (by rcases hset with h | h <;> simp [h]))

/-- Settles O53: each clause by the lemma on its command. -/
theorem cooperSetsAndRecords : Obligations.CooperSetsAndRecords := by
  unfold Obligations.CooperSetsAndRecords
  intro s l
  refine ⟨fun hsup v set hset hgo h1 h6 => ?_, fun hsup v hv => ?_, fun r hsup hclosing htest hclose hreset hf hlg hr hlp => ?_,
    fun src hsup hlo hhi => ⟨fun e k q he hkq => repairEntrySubmit_appends hsup hlo hhi he hkq, fun e he => ?_, fun rec hrec => ?_⟩,
    fun src v set hset => ⟨fun hlevel hmode hlife hfree hlo hhi hzero hbit hsup => ?_, fun h => ?_⟩⟩
  · subst hset
    have hexec := exec_cooperGo hsup hgo h1 h6
    refine ⟨fun hst hmay => ?_, fun hno => ?_⟩
    · rw [if_pos ⟨hst, hmay⟩] at hexec
      have hshows := cooShown_shows (s.cooCommand l v) l (Nat.lt_of_le_of_lt h6 (by decide : 6 < 16))
        (firstBlocks ((s.cooCommand l v).lf l COO_CFG_BUDGET) (setBlocks (bitsOf v 7 4) (bitsOf v 15 8)) 0)
      simp only [← cooStart_lf _ _ _ _ (by decide : COO_STATUS_STATE.reg < 0x40050100),
        ← cooStart_lf _ _ _ _ (by decide : COO_STATUS_SET.reg < 0x40050100), ← cooStart_lf _ _ _ _ (by decide : COO_CMD_GO.reg < 0x40050100),
        ← cooStart_lf _ _ _ _ (by decide : COO_RESULT.reg < 0x40050100)] at hshows
      exact ⟨_, hexec, (cooCommand_laneOnly s l v).trans (cooStart_laneOnly ..), hshows⟩
    · rw [if_neg (by rintro ⟨hst, hmay⟩; simp [hmay] at hno; omega)] at hexec
      refine ⟨_, hexec, cooCommand_laneOnly s l v, ?_, ?_⟩
      · exact (State.lf_lfSet_apart _ _ _ _ _ _ rfl).trans (State.lf_lfSet_apart _ _ _ _ _ _ rfl)
      · exact (State.lf_lfSet_apart _ _ _ _ _ _ rfl).trans (State.lf_lfSet_apart _ _ _ _ _ _ rfl)
  · have hexec : exec (.cooperStop l 4 v) s = .next (s.cooStop l) := if_pos (by simp [hsup, hv])
    exact ⟨fun hst => ⟨_, hexec, cooStop_stops hst⟩, fun hst => by rw [hexec, State.cooStop, if_neg hst]⟩
  · have hclean : CleanRun r := ⟨hf, hlg, hr, hlp⟩
    refine ⟨fun hst => ?_, fun hst => ?_⟩
    · obtain ⟨t, ended, ms, hexec, hkept, hmd⟩ := exec_cooperRunDone_clean hsup hclosing htest hclose hreset hclean (.inl hst)
      rw [hst] at hkept
      obtain ⟨hstate, hpass, hresult, hrun, hgo, hstop⟩ := hkept.done (by decide) (by decide)
      exact ⟨t, hexec, hstate, hpass, hresult, hrun, hgo, hstop, hmd⟩
    · obtain ⟨t, ended, ms, hexec, hkept, hmd⟩ := exec_cooperRunDone_clean hsup hclosing htest hclose hreset hclean (.inr hst)
      rw [hst] at hkept
      obtain ⟨hstate, hpass, -, hrun, -, -⟩ := hkept.done (by decide) (by decide)
      exact ⟨t, hexec, hstate, hpass, hrun, hmd⟩
  · exact if_neg (by simp [he])
  · exact ⟨_, if_pos (by simp [hsup, hlo, hhi, hrec]), ageAppend_writes hrec⟩
  · subst hset
    obtain ⟨x, hx⟩ := commandTest_taken hlevel hmode hlife hfree hlo hhi hzero hbit hsup
    exact ⟨_, x, rfl, hx⟩
  · subst hset
    exact congrArg Host.Outcome.next (commandTest_refused h)

end Sys2Proof.Machine

/-! The voltage loop, the projection of f_max, and the ageing reports and records of a lane (18 R484 to R492). -/

namespace Sys2Proof.Machine

-- One proof after another: proofs that wait side by side each keep a stack, and many of them exceed the memory of a check.
set_option Elab.async false

/-! ### The voltage loop (R484, R485) -/

/-- A measurement of the replicas writes their registers and the slack's. -/
theorem replicas_lf (s : State) (l : LaneId) (cpr : List Int) {f : Fld} (hf : 0x40040024 ≤ f.reg) : (s.replicas l cpr).lf l f = s.lf l f := by
  have hset (t : State) {g : Fld} (hg : g.reg < 0x40040024) (x : Nat) : (t.lfSet l g x).lf l f = t.lf l f :=
    congrArg (fldGet f) (State.lreg_lregSet_other _ _ _ _ (by omega))
  unfold State.replicas
  dsimp only
  rw [hset _ (by decide), lf_foldl fun t p => ?_]
  split
  next h => exact hset _ (show 0x40040000 + 0x4 * p.2 < 0x40040024 by omega) _
  next => rfl

theorem replicas_laneOnly (s : State) (l : LaneId) (cpr : List Int) : LaneOnly l s (s.replicas l cpr) := by
  unfold State.replicas
  exact (LaneOnly.foldl (fun t p => .ite (.lfSet l t _ _) (.refl l t)) _ s).trans (.lfSet l _ _ _)

/-- V_MAX and HARD are shown beside the voltage. -/
theorem showVmax_v (s : State) (l : LaneId) (cpr : List Int) : (s.showVmax l cpr).lf l AGE_AVS_V = s.lf l AGE_AVS_V := by
  have hset (t : State) {g : Fld} (hg : g.reg ≠ AGE_AVS_V.reg) (x : Nat) : (t.lfSet l g x).lf l AGE_AVS_V = t.lf l AGE_AVS_V :=
    congrArg (fldGet _) (State.lreg_lregSet_other _ _ _ _ hg.symm)
  have hite (p : Prop) [Decidable p] (t : State) {g : Fld} (hg : g.reg ≠ AGE_AVS_V.reg) :
      (if p then t.lfSet l g 1 else t).lf l AGE_AVS_V = t.lf l AGE_AVS_V := by
    split
    · exact hset t hg 1
    · rfl
  unfold State.showVmax
  exact (hset _ (by decide) _).trans ((hset _ (by decide) _).trans ((hite _ _ (by decide)).trans (hite _ _ (by decide))))

theorem showVmax_laneOnly (s : State) (l : LaneId) (cpr : List Int) : LaneOnly l s (s.showVmax l cpr) := by
  have hite (p : Prop) [Decidable p] (t : State) (g : Fld) : LaneOnly l t (if p then t.lfSet l g 1 else t) := .ite (.lfSet l t g 1) (.refl l t)
  unfold State.showVmax
  exact (hite _ _ _).trans ((hite _ _ _).trans ((LaneOnly.lfSet l _ _ _).trans (.lfSet l _ _ _)))

/-- The measurement, then the voltage moved to `v` under `p`, then V_MAX and HARD. -/
def State.avsMoved (s : State) (l : LaneId) (cpr : List Int) (p : Prop) [Decidable p] (v : Nat) : State :=
  (if p then (s.replicas l cpr).lfSet l AGE_AVS_V v else s.replicas l cpr).showVmax l cpr

section
variable (s : State) (l : LaneId) (cpr : List Int) (p : Prop) [Decidable p] (v : Nat)

theorem avsMoved_other {k : LaneId} (hk : k ≠ l) : (s.avsMoved l cpr p v).lane k = s.lane k :=
  LaneOnly.other ((replicas_laneOnly s l cpr).trans ((LaneOnly.ite (.lfSet l _ _ _) (.refl l _)).trans (showVmax_laneOnly _ l cpr))) hk

theorem avsMoved_v (hv : v < 256) : (s.avsMoved l cpr p v).lf l AGE_AVS_V = if p then v else s.lf l AGE_AVS_V := by
  rw [State.avsMoved, showVmax_v]
  split
  · rw [State.lf_lfSet_same _ _ _ _ rfl]
    exact Nat.mod_eq_of_lt hv
  · exact replicas_lf s l cpr (by decide)

end

theorem exec_avsRaise {s : State} {l : LaneId} (hsup : (s.lane l).supplied = true) (cpr : List Int) : exec (.avsRaise l cpr) s =
    .next (s.avsMoved l cpr ((∃ x ∈ cpr, x < (s.lf l AGE_AVS_SLACK_PLAN : Int)) ∧ s.lf l AGE_AVS_V < 60) (s.lf l AGE_AVS_V + 1)) := by
  show execAvsRaise l cpr s = _
  unfold execAvsRaise
  rw [if_neg (by simp [hsup])]
  dsimp only
  rw [replicas_lf s l cpr (by decide), replicas_lf s l cpr (by decide), State.avsMoved]
  simp only [Bool.and_eq_true, List.any_eq_true, decide_eq_true_eq]

theorem exec_avsLower {s : State} {l : LaneId} (hsup : (s.lane l).supplied = true) (cpr : List Int) : exec (.avsLower l cpr) s =
    .next (s.avsMoved l cpr ((∀ x ∈ cpr, (s.lf l AGE_AVS_SLACK_PLAN : Int) + 20 < x) ∧ s.lf l AGE_AVS_V_FLOOR < s.lf l AGE_AVS_V)
      (s.lf l AGE_AVS_V - 1)) := by
  show execAvsLower l cpr s = _
  unfold execAvsLower
  rw [if_neg (by simp [hsup])]
  dsimp only
  rw [replicas_lf s l cpr (by decide), replicas_lf s l cpr (by decide), replicas_lf s l cpr (by decide), State.avsMoved]
  simp only [Bool.and_eq_true, List.all_eq_true, decide_eq_true_eq]

/-! ### The projection of f_max (R486, R489) -/

/-- What a projection of `f` leaves on lane `l` before it may take the lane out. -/
def State.fmaxTaken (s : State) (l : LaneId) (f : Nat) (tj : Int) : State :=
  let t := (s.lfSet l AGE_TJ (ofInt 16 tj)).cntSet 0x7210 (l.idx + 4) f
  let boot := s.md.mode == .start || (s.lane l).restart.isSome
  let held := match (s.lane l).coop.allow with
    | some (q, n) => some (min q (pointOf f), n + 1)
    | none => some (pointOf f, 1)
  (if boot then t.lfSet l AGE_PLAN_F_ALLOW (pointOf f) else t).updLane l (fun x => { x with coop := { x.coop with
    fmax := f
    allow := if boot || pointOf f ≤ s.lf l AGE_PLAN_F_ALLOW then none else held } })

/-- A lane whose f_max is below 1.2 GHz goes out. -/
def State.fmaxOut (s : State) (l : LaneId) (f : Nat) : State :=
  if f < 1200 && !((s.lane l).out && (s.lane l).rt.leave) then
    (s.laneEvt l 0x7032 [(1, l.idx), (2, f)]).updLane l (fun x => { x with out := true, rt := { x.rt with leave := true } })
  else s

theorem exec_fmaxProjection {s : State} {l : LaneId} {slack tj : Int} (hsup : (s.lane l).supplied = true) {f : Nat}
    (hf : f = Config.fmax l.idx slack (s.lf l AGE_AVS_V) tj (s.lf l AGE_PLAN_F_RUN)) :
    exec (.fmaxProjection l slack tj) s = .next ((s.fmaxTaken l f tj).fmaxOut l f) := by
  subst hf
  show execFmaxProjection l slack tj s = _
  unfold execFmaxProjection
  rw [if_neg (by simp [hsup])]
  simp only [State.lf_cntSet, State.lf_lfSet_apart s l l AGE_TJ AGE_PLAN_F_ALLOW _ rfl, State.cntSet_md, State.lfSet_md, State.cntSet_lane,
    State.lfSet_lane_restart, State.lfSet_lane_coop]
  exact (apply_ite Host.Outcome.next _ _ _).symm

section
variable (s : State) (l : LaneId) (f : Nat) (tj : Int)

theorem fmaxTaken_lane : ((s.fmaxTaken l f tj).lane l).coop.fmax = f ∧ ((s.fmaxTaken l f tj).lane l).out = (s.lane l).out ∧
    ((s.fmaxTaken l f tj).lane l).rt = (s.lane l).rt := by
  unfold State.fmaxTaken
  dsimp only
  split <;> simp

/-- Out of START the code in force stays; a lower one is held at the highest point that the readings stayed at. -/
theorem fmaxTaken_runs (hmode : s.md.mode ≠ .start) (hrestart : (s.lane l).restart = none) :
    (s.fmaxTaken l f tj).lf l AGE_PLAN_F_ALLOW = s.lf l AGE_PLAN_F_ALLOW ∧
    (pointOf f ≤ s.lf l AGE_PLAN_F_ALLOW → ((s.fmaxTaken l f tj).lane l).coop.allow = none) ∧
    (∀ n, s.lf l AGE_PLAN_F_ALLOW < pointOf f → (s.lane l).coop.allow = some (pointOf f, n) →
      ((s.fmaxTaken l f tj).lane l).coop.allow = some (pointOf f, n + 1)) := by
  have hboot : (s.md.mode == .start || (s.lane l).restart.isSome) = false := by simp [hmode, hrestart]
  unfold State.fmaxTaken
  simp only [hboot, Bool.false_eq_true, if_false, Bool.false_or, decide_eq_true_eq]
  refine ⟨?_, fun h => ?_, fun n h ha => ?_⟩
  · rw [lf_updLane (by intro; rfl), State.lf_cntSet]
    exact State.lf_lfSet_apart _ _ _ _ _ _ rfl
  · simp [h]
  · simp [ha, Nat.not_le.mpr h]

theorem fmaxTaken_starts (hmode : s.md.mode = .start) : (s.fmaxTaken l f tj).lf l AGE_PLAN_F_ALLOW = pointOf f := by
  have hboot : (s.md.mode == .start || (s.lane l).restart.isSome) = true := by simp [hmode]
  have hpoint : pointOf f < 32 := by unfold pointOf; omega
  unfold State.fmaxTaken
  simp only [hboot, if_true]
  rw [lf_updLane (by intro; rfl), State.lf_lfSet_same _ _ _ _ rfl]
  exact Nat.mod_eq_of_lt hpoint

theorem fmaxOut_lf : (s.fmaxOut l f).lf l AGE_PLAN_F_ALLOW = s.lf l AGE_PLAN_F_ALLOW := by
  unfold State.fmaxOut
  split
  · rw [lf_updLane (by intro; rfl)]
    exact State.lf_laneEvt _ _ _ _ _ _ rfl
  · rfl

theorem fmaxOut_coop : ((s.fmaxOut l f).lane l).coop = (s.lane l).coop := by
  unfold State.fmaxOut
  split
  · have hlane := (laneEvt_eventOnly s l 0x7032 [(1, l.idx), (2, f)]).lane l
    rw [State.updLane_lane, if_pos rfl, hlane]
  · rfl

theorem fmaxOut_below (hf : f < 1200) : ((s.fmaxOut l f).lane l).out = true ∧ ((s.fmaxOut l f).lane l).rt.leave = true := by
  unfold State.fmaxOut
  split
  · rw [State.updLane_lane, if_pos rfl]
    exact ⟨rfl, rfl⟩
  next h => simpa [hf] using h

theorem fmaxOut_above (hf : 1200 ≤ f) : s.fmaxOut l f = s := if_neg (by simp; omega)

end

theorem fmaxProjection_projects {s : State} {l : LaneId} {slack tj : Int} (hsup : (s.lane l).supplied = true) {f : Nat}
    (hf : f = Config.fmax l.idx slack (s.lf l AGE_AVS_V) tj (s.lf l AGE_PLAN_F_RUN)) :
    ∃ t, exec (.fmaxProjection l slack tj) s = .next t ∧ (t.lane l).coop.fmax = f ∧
      (f < 1200 → (t.lane l).out = true ∧ (t.lane l).rt.leave = true) ∧
      (1200 ≤ f → (t.lane l).out = (s.lane l).out ∧ (t.lane l).rt = (s.lane l).rt) ∧
      (s.md.mode = .start → t.lf l AGE_PLAN_F_ALLOW = pointOf f) ∧
      (s.md.mode ≠ .start → (s.lane l).restart = none → t.lf l AGE_PLAN_F_ALLOW = s.lf l AGE_PLAN_F_ALLOW ∧
        (pointOf f ≤ s.lf l AGE_PLAN_F_ALLOW → (t.lane l).coop.allow = none) ∧
        (∀ n, s.lf l AGE_PLAN_F_ALLOW < pointOf f → (s.lane l).coop.allow = some (pointOf f, n) →
          (t.lane l).coop.allow = some (pointOf f, n + 1))) := by
  obtain ⟨hfmax, hout, hrt⟩ := fmaxTaken_lane s l f tj
  refine ⟨_, exec_fmaxProjection hsup hf, ?_⟩
  rw [fmaxOut_lf, fmaxOut_coop]
  refine ⟨hfmax, fmaxOut_below _ l f, fun h => ?_, fmaxTaken_starts s l f tj, fmaxTaken_runs s l f tj⟩
  rw [fmaxOut_above _ l f h]
  exact ⟨hout, hrt⟩

/-! ### A lower f_allow (R486) -/

theorem fAllowLower_acts {s : State} {l : LaneId} {p n : Nat} (h : (s.lane l).coop.allow = some (p, n)) (hp : p ≤ 16) :
    (60 ≤ n → s.lf l AGE_PLAN_F_ALLOW < p → ∃ t, exec (.fAllowLower l) s = .next t ∧ LaneOnly l s t ∧
      t.lf l AGE_PLAN_F_ALLOW = p ∧ (t.lane l).coop.allow = none) ∧
    (n < 60 → exec (.fAllowLower l) s = .next s) := by
  have hexec : exec (.fAllowLower l) s = if 60 ≤ n ∧ s.lf l AGE_PLAN_F_ALLOW < p then
      .next ((s.lfSet l AGE_PLAN_F_ALLOW p).updLane l (fun x => { x with coop := { x.coop with allow := none } })) else .next s := by
    show execFAllowLower l s = _
    rw [execFAllowLower, h]
  refine ⟨fun hn hlt => ?_, fun hn => hexec.trans (if_neg (by omega))⟩
  rw [if_pos ⟨hn, hlt⟩] at hexec
  refine ⟨_, hexec, (LaneOnly.lfSet l s _ _).trans (.upd l _ _), ?_, ?_⟩
  · rw [lf_updLane (by intro; rfl), State.lf_lfSet_same _ _ _ _ rfl]
    exact Nat.mod_eq_of_lt (Nat.lt_of_le_of_lt hp (by decide))
  · simp

/-! ### Ageing reports and records (R487, R491) -/

/-- The supervisor keeps report `r` of lane `l`. -/
def State.reportKept (s : State) (l : LaneId) (r : AgeReport) : State :=
  { s with sup := { s.sup with reports := mapInsert (mapErase s.sup.reports l.idx) l.idx r } }

theorem reportKept_lane (s : State) (l k : LaneId) (r : AgeReport) : (s.reportKept l r).lane k = s.lane k := by cases k <;> rfl

theorem exec_ageingReport {s : State} {l : LaneId} (htick : s.ticking l = true) (hrun : runMode (s.laneMode l) = true)
    (hsup : s.sup.supplied = true) (hdue : s.frame l % max 1 (1000000000 / max 1 s.period) = 0) : ∃ bs, exec (.ageingReport l) s =
    .next ((s.emit .report l.idx 2 bs).reportKept l
      ⟨s.lf l AGE_PLAN_F_ALLOW, s.lf l AGE_PLAN_F_RUN, decide (s.lf l AGE_PLAN_HARD = 1), s.frame l⟩) := by
  refine ⟨leBytes 6 (s.frame l) ++ leBytes 1 l.idx ++ leBytes 1 (s.lf l AGE_PLAN_F_ALLOW) ++
    leBytes 1 (b2n (decide (s.lf l AGE_PLAN_HARD = 1))), ?_⟩
  show execAgeingReport l s = _
  unfold execAgeingReport
  dsimp only
  rw [if_pos (by simp [htick, hrun, hdue]), State.emit_sup, if_pos hsup]
  rfl

theorem ageingReport_reports {s : State} {l : LaneId} (htick : s.ticking l = true) (hrun : runMode (s.laneMode l) = true)
    (hsup : s.sup.supplied = true) (hdue : s.frame l % max 1 (1000000000 / max 1 s.period) = 0) :
    ∃ t r, exec (.ageingReport l) s = .next t ∧ mapFind t.sup.reports l.idx = some r ∧ r.fAllow = s.lf l AGE_PLAN_F_ALLOW ∧
      r.fRun = s.lf l AGE_PLAN_F_RUN ∧ r.frame = s.frame l ∧ (r.hard = true ↔ s.lf l AGE_PLAN_HARD = 1) ∧ ∀ k, t.lane k = s.lane k := by
  obtain ⟨bs, hexec⟩ := exec_ageingReport htick hrun hsup hdue
  exact ⟨_, _, hexec, mapFind_put_same .., rfl, rfl, rfl, decide_eq_true_iff, fun k => by rw [reportKept_lane, State.emit_lane]⟩

/-- A new forecast leaves the records, the days and the mode. -/
theorem forecast_keeps (s : State) : s.forecast.coo.recs = s.coo.recs ∧ s.forecast.coo.daily = s.coo.daily ∧ s.forecast.md = s.md := by
  unfold State.forecast
  dsimp only
  split
  · simp only [State.cntSet_coo, State.cntSet_md, and_self]
  · split <;> simp only [(allEvt_eventOnly _ _ _).coo, (allEvt_eventOnly _ _ _).md, State.cntSet_coo, State.cntSet_md, and_self]

/-- The measurements of a day as they are shown and recorded. -/
def State.dailyMeasured (s : State) (l : LaneId) (m : AgeMeas) : State :=
  let s := (((s.lfSet l AGE_NBTI m.nbti).lfSet l AGE_TJ (ofInt 16 m.tj)).cntSet 0x7211 (l.idx + 7) m.nbti).cntSet 0x7212 (m.ronOut + 1) m.ron
  if 2000 < m.ron then s.laneEvt l 0x7042 [(1, m.ronOut), (1, m.ronSide.num), (4, m.ron)] else s

theorem dailyMeasured_keeps (s : State) (l : LaneId) (m : AgeMeas) : (s.dailyMeasured l m).coo = s.coo ∧ (s.dailyMeasured l m).md = s.md := by
  unfold State.dailyMeasured
  dsimp only
  split <;> simp only [State.laneEvt_coo, State.laneEvt_md, State.cntSet_coo, State.cntSet_md, State.lfSet_coo, State.lfSet_md, and_self]

/-- The record of a day, and the time at which the next is due. -/
def State.dailyTaken (s : State) (l : LaneId) (b : List Byte) (due out ron : Nat) : State :=
  let s := s.ageAppend b
  { s with coo := { s.coo with
    daily := mapSet 0 s.coo.daily l.idx due
    ron := mapSet 0 s.coo.ron out ron } }

theorem dailyTaken_keeps (s : State) (l : LaneId) (b : List Byte) (due out ron : Nat) :
    (s.dailyTaken l b due out ron).coo.recs = s.coo.recs + 1 ∧ mapGet 0 (s.dailyTaken l b due out ron).coo.daily l.idx = due ∧
    (s.dailyTaken l b due out ron).md = s.md := ⟨rfl, mapGet_mapSet_same .., rfl⟩

theorem exec_dailyAgeingRecord {s : State} {l : LaneId} {m : AgeMeas} (hsup : (s.lane l).supplied = true) (hhub : s.hub.supplied = true)
    (hdue : mapGet 0 s.coo.daily l.idx + 86400000000000 ≤ s.coo.opNs) : exec (.dailyAgeingRecord l m) s =
    .next ((s.dailyMeasured l m).dailyTaken l ((s.dailyMeasured l m).ageRecord l m) (mapGet 0 s.coo.daily l.idx + 86400000000000) m.ronOut
      m.ron).forecast :=
  if_neg (by simp [hsup, hhub, hdue])

/-- Settles O54: each clause by the lemma on its command. -/
theorem voltageLoopAndAgeing : Obligations.VoltageLoopAndAgeing := by
  unfold Obligations.VoltageLoopAndAgeing
  intro s l hsup
  refine ⟨fun cpr hlow hv => ?_, fun cpr hno => ?_, fun cpr hhigh hv => ?_, fun cpr hno => ?_,
    fun slack tj f hf => fmaxProjection_projects hsup hf, fun p n h hp => fAllowLower_acts h hp, ageingReport_reports,
    fun m last hhub hlast => ⟨fun hdue => ?_, fun hdue => if_pos (by subst hlast; simp [hdue])⟩⟩
  · refine ⟨_, exec_avsRaise hsup cpr, ?_, fun k hk => avsMoved_other _ _ _ _ _ hk⟩
    rw [avsMoved_v _ _ _ _ _ (by omega), if_pos ⟨hlow, hv⟩]
  · have hno' : ¬((∃ x ∈ cpr, x < (s.lf l AGE_AVS_SLACK_PLAN : Int)) ∧ s.lf l AGE_AVS_V < 60) := by
      rintro ⟨⟨x, hx, hlt⟩, hv⟩
      obtain h | h := hno
      · exact absurd hlt (Int.not_lt.mpr (h x hx))
      · omega
    have hmoved := showVmax_v (s.replicas l cpr) l cpr
    refine ⟨_, exec_avsRaise hsup cpr, ?_⟩
    rw [State.avsMoved, if_neg hno', hmoved]
    exact replicas_lf s l cpr (by decide)
  · have hlt : s.lf l AGE_AVS_V < 256 := lf_lt s l AGE_AVS_V
    refine ⟨_, exec_avsLower hsup cpr, ?_, fun k hk => avsMoved_other _ _ _ _ _ hk⟩
    rw [avsMoved_v _ _ _ _ _ (by omega), if_pos ⟨hhigh, hv⟩]
  · have hno' : ¬((∀ x ∈ cpr, (s.lf l AGE_AVS_SLACK_PLAN : Int) + 20 < x) ∧ s.lf l AGE_AVS_V_FLOOR < s.lf l AGE_AVS_V) := by
      rintro ⟨hall, hv⟩
      obtain ⟨x, hx, hle⟩ | h := hno
      · exact absurd (hall x hx) (Int.not_lt.mpr hle)
      · omega
    have hlt : s.lf l AGE_AVS_V < 256 := lf_lt s l AGE_AVS_V
    refine ⟨_, exec_avsLower hsup cpr, ?_⟩
    rw [avsMoved_v _ _ _ _ _ (by omega), if_neg hno']
  · subst hlast
    have hexec := exec_dailyAgeingRecord (m := m) hsup hhub hdue
    generalize hdue' : mapGet 0 s.coo.daily l.idx + 86400000000000 = due at hexec
    obtain ⟨hcoo, hmd⟩ := dailyMeasured_keeps s l m
    obtain ⟨hrecs', hdaily', hmd'⟩ := dailyTaken_keeps (s.dailyMeasured l m) l ((s.dailyMeasured l m).ageRecord l m) due m.ronOut m.ron
    obtain ⟨hrecs'', hdaily'', hmd''⟩ :=
      forecast_keeps ((s.dailyMeasured l m).dailyTaken l ((s.dailyMeasured l m).ageRecord l m) due m.ronOut m.ron)
    exact ⟨_, hexec, by rw [hrecs'', hrecs', hcoo], by rw [hdaily'', hdaily'], hmd''.trans (hmd'.trans hmd)⟩

end Sys2Proof.Machine

/-! Paired modules: roles, hand-over, take-back and the shadow comparison (19 R500 to R513). -/

namespace Sys2Proof.Machine

-- One proof after another: proofs that wait side by side each keep a stack, and many of them exceed the memory of a check.
set_option Elab.async false

/-! ### The pairing state of a lane -/

section
variable (s : State) (l k : LaneId) (x : LanePair)

theorem pr_congr {t : State} (h : (t.lane k).rt = (s.lane k).rt) : t.pr k = s.pr k := congrArg LaneRt.pair h

theorem pr_prSet_same : (s.prSet l x).pr l = x := by simp [State.pr, State.prSet]

theorem pr_prSet_other (hk : k ≠ l) : (s.prSet l x).pr k = s.pr k := congrArg (fun y : Lane => y.rt.pair) ((LaneOnly.prSet l s x).other hk)

theorem pr_lfSet (f : Fld) (n : Nat) : (s.lfSet l f n).pr k = s.pr k := pr_congr s k (State.lfSet_lane_rt ..)

theorem pr_laneEvt (code : Nat) (parts : List (Nat × Nat)) : (s.laneEvt l code parts).pr k = s.pr k :=
  pr_congr s k (by rw [(laneEvt_eventOnly s l code parts).lane k])

theorem lf_prSet (f : Fld) : (s.prSet l x).lf k f = s.lf k f := lf_updLane (by intro; rfl) ..

/-- The time roles are the hub's. -/
theorem pairTime_lane (b : Bool) : (s.pairTime b).lane k = s.lane k := by
  unfold State.pairTime
  split
  · simp
  · rfl

theorem takeRole_lane (role : Nat) : ((s.takeRole l role).lane k) = (((s.prSet l { s.pr l with
    role := role, noHb := 0, lowLine := 0, yieldAt := none, asked := false }).lfSet l PAIR_CTL_ROLE role).lane k) := by
  unfold State.takeRole
  dsimp only
  split
  · exact pairTime_lane ..
  · rfl

theorem takeRole_pr (role : Nat) : (s.takeRole l role).pr l =
    { s.pr l with role := role, noHb := 0, lowLine := 0, yieldAt := none, asked := false } := by
  rw [pr_congr _ l (congrArg Lane.rt (takeRole_lane s l l role)), pr_lfSet, pr_prSet_same]

theorem takeRole_pr_other (role : Nat) (hk : k ≠ l) : (s.takeRole l role).pr k = s.pr k := by
  rw [pr_congr _ k (congrArg Lane.rt (takeRole_lane s l k role)), pr_lfSet, pr_prSet_other _ _ _ _ hk]

theorem takeRole_shows {role : Nat} (hrole : role < 4) : (s.takeRole l role).lf l PAIR_CTL_ROLE = role := by
  rw [State.lf_congr (congrArg Lane.regs (takeRole_lane s l l role)), State.lf_lfSet_same _ _ _ _ rfl]
  exact Nat.mod_eq_of_lt hrole

end

/-! ### Hand-over (R506, R507) -/

/-- Lane `l` is of a master whose partner is eligible. -/
def State.mayHandOver (s : State) (l : LaneId) : Bool := decide ((s.pr l).role = 1) && (s.pr l).hb.any Heartbeat.elig

/-- A ticking lane that may hand over keeps the request. -/
def askedLane (may : LaneId → Bool) (l : LaneId) (s : State) : State :=
  if s.ticking l && may l then s.prSet l { s.pr l with asked := true } else s

theorem askedLane_pr (may : LaneId → Bool) (l : LaneId) (s : State) :
    (askedLane may l s).pr l = if s.ticking l && may l then { s.pr l with asked := true } else s.pr l := by
  unfold askedLane
  split
  · exact pr_prSet_same ..
  · rfl

/-- Every lane by itself. -/
theorem onLanes_askedLane_pr (may : LaneId → Bool) (s : State) (l : LaneId) :
    (onLanes (askedLane may) s).pr l = if s.ticking l && may l then { s.pr l with asked := true } else s.pr l := by
  have hlane (m : LaneId) (u : State) : LaneEvt m u (askedLane may m u) := (LaneOnly.ite (.prSet m u _) (.refl m u)).evt
  obtain ⟨u, hsu, hut⟩ := LaneAlike.onLanes hlane l s
  have hpr : u.pr l = s.pr l := pr_congr s l hsu.rt
  rw [pr_congr _ l hut.rt, askedLane_pr, hpr, hsu.ticking]

theorem askHandover_taken {s : State} {src : Nat} (hlevel : 1 ≤ s.sourceLevel src) (hon : s.pairOn = true)
    (h : ∃ l, s.ticking l = true ∧ s.mayHandOver l = true) : (s.askHandover src).1 = onLanes (askedLane s.mayHandOver) s := by
  have hany : (s.pairOn && lanes.any (fun l => s.ticking l && s.mayHandOver l)) = true := by
    obtain ⟨l, htick, hmay⟩ := h
    rw [hon, Bool.true_and]
    exact List.any_eq_true.mpr ⟨l, by cases l <;> decide, by simp [htick, hmay]⟩
  unfold State.askHandover
  rw [if_neg (by omega)]
  exact congrArg Prod.fst (if_pos hany)

theorem askHandover_refused {s : State} {src : Nat} (h : s.sourceLevel src = 0 ∨ s.pairOn = false ∨ ∀ l, (s.pr l).role ≠ 1) :
    (s.askHandover src).1 = s := by
  unfold State.askHandover
  split
  · rfl
  next hlevel =>
    obtain h | h | h := h
    · omega
    · exact congrArg Prod.fst (if_neg (by simp [h]))
    · exact congrArg Prod.fst (if_neg (by simp [h]))

/-- A yielding position that saw no successor is master again. -/
theorem yieldEnd_master {s : State} {l : LaneId} {e : Nat} (he : (s.pr l).yieldAt = some e) (hrole : (s.pr l).role = 2)
    (hlate : frameGe (s.frame l) (frameAdd e 8) = true) : (s.yieldEnd l).pr l = { s.pr l with
      role := 1, noHb := 0, lowLine := 0, yieldAt := none, asked := false } ∧
    (s.yieldEnd l).lf l PAIR_CTL_ROLE = 1 ∧ ∀ k, k ≠ l → (s.yieldEnd l).pr k = s.pr k := by
  have heq : s.yieldEnd l = (s.takeRole l 1).laneEvt l 0x006A [(6, e)] := by
    rw [State.yieldEnd, he]
    exact if_pos (by simp [hrole, hlate])
  rw [heq]
  refine ⟨by rw [pr_laneEvt, takeRole_pr], ?_, fun k hk => by rw [pr_laneEvt, takeRole_pr_other _ _ _ _ hk]⟩
  rw [State.lf_laneEvt _ _ _ _ _ _ rfl]
  exact takeRole_shows s l (by decide)

theorem yieldEnd_early {s : State} {l : LaneId} {e : Nat} (he : (s.pr l).yieldAt = some e)
    (hlate : frameGe (s.frame l) (frameAdd e 8) = false) : s.yieldEnd l = s := by
  rw [State.yieldEnd, he]
  exact if_neg (by simp [hlate])

/-! ### Take-back (R508) and the start wait (R503) -/

/-- The conditions of TAKE have held long enough, and take-back is configured. -/
structure TakeDue (s : State) (l : LaneId) : Prop where
  held : s.framesOf (s.obj 0x7300 6) ≤ (s.pr l).takeRun
  ran : (s.pr l).takeRun ≠ 0
  standby : (s.pr l).role = 0
  idle : (s.pr l).take = false
  limit : s.obj 0x7300 7 ≠ 0

theorem takeHold_eq {s : State} {l : LaneId} (h : TakeDue s l) : s.takeHold l =
    if (s.recentBacks l).length < s.obj 0x7300 7 then s.prSet l { s.pr l with take := true, held := false }
    else if (s.pr l).held then s
    else (s.prSet l { s.pr l with held := true }).laneEvt l 0x0068 [(4, (s.recentBacks l).length)] := by
  obtain ⟨hheld, hran, hrole, hidle, hlimit⟩ := h
  exact if_pos (by simp [hheld, hran, hrole, hidle, hlimit])

theorem takeHold_takes {s : State} {l : LaneId} (h : TakeDue s l) (hn : (s.recentBacks l).length < s.obj 0x7300 7) :
    LaneOnly l s (s.takeHold l) ∧ ((s.takeHold l).pr l).take = true := by
  rw [takeHold_eq h, if_pos hn, pr_prSet_same]
  exact ⟨.prSet l s _, rfl⟩

theorem takeHold_held {s : State} {l : LaneId} (h : TakeDue s l) (hn : s.obj 0x7300 7 ≤ (s.recentBacks l).length)
    (hheld : (s.pr l).held = false) : ((s.takeHold l).pr l).take = false ∧ ((s.takeHold l).pr l).held = true := by
  rw [takeHold_eq h, if_neg (by omega), if_neg (by simp [hheld]), pr_laneEvt, pr_prSet_same]
  exact ⟨h.idle, rfl⟩

theorem startWait_master {s : State} {l : LaneId} (hrole : (s.pr l).role = 0) (hwait : (s.pr l).waiting = true) (hel : s.eligible l = true)
    (hrun : s.framesOf (s.obj 0x7300 9) ≤ (s.pr l).lowRun) : ((s.startWait l).pr l).role = 1 ∧ ((s.startWait l).pr l).waiting = false ∧
      (s.startWait l).lf l PAIR_CTL_ROLE = 1 := by
  have heq : s.startWait l = ((s.takeRole l 1).laneEvt l 0x0060 [(1, 2)]).prSet l
      { ((s.takeRole l 1).laneEvt l 0x0060 [(1, 2)]).pr l with take := false, takeRun := 0, waiting := false } :=
    if_pos (by simp [hrole, hwait, hel, hrun])
  rw [heq, pr_prSet_same, lf_prSet, State.lf_laneEvt _ _ _ _ _ _ rfl, pr_laneEvt, takeRole_pr]
  exact ⟨rfl, rfl, takeRole_shows s l (by decide)⟩

/-! ### The shadow comparison (R509) -/

theorem shadowBad_clears {s : State} {l : LaneId} (hn : s.lf l PAIR_CFG_SHADOW_N ≤ (s.pr l).diff) (hok : (s.pr l).ok = true)
    (bits own other : Nat) : ((s.shadowBad l bits own other).pr l).ok = false ∧ (s.shadowBad l bits own other).lf l PAIR_STAT_SHADOW_OK = 0 ∧
      ((s.shadowBad l bits own other).pr l).role = (s.pr l).role := by
  have heq : s.shadowBad l bits own other = ((s.prSet l { s.pr l with ok := false }).lfSet l PAIR_STAT_SHADOW_OK 0).laneEvt l 0x0066
      [(4, bits), (4, own), (4, other)] := if_pos (by simp [hn, hok])
  rw [heq, pr_laneEvt, pr_lfSet, pr_prSet_same, State.lf_laneEvt _ _ _ _ _ _ rfl]
  exact ⟨rfl, State.lf_lfSet_same _ _ _ _ rfl, rfl⟩

theorem shadowBad_kept {s : State} {l : LaneId} (hn : (s.pr l).diff < s.lf l PAIR_CFG_SHADOW_N) (bits own other : Nat) :
    s.shadowBad l bits own other = s := if_neg (by simp; omega)

theorem shadowGood_sets {s : State} {l : LaneId} (hn : s.lf l PAIR_CFG_SHADOW_N ≤ (s.pr l).same) (hok : (s.pr l).ok = false) :
    ((s.shadowGood l).pr l).ok = true ∧ (s.shadowGood l).lf l PAIR_STAT_SHADOW_OK = 1 := by
  have heq : s.shadowGood l = ((s.prSet l { s.pr l with ok := true }).lfSet l PAIR_STAT_SHADOW_OK 1).laneEvt l 0x0067 [] :=
    if_pos (by simp [hn, hok])
  rw [heq, pr_laneEvt, pr_lfSet, pr_prSet_same, State.lf_laneEvt _ _ _ _ _ _ rfl]
  exact ⟨rfl, State.lf_lfSet_same _ _ _ _ rfl⟩

theorem shadowGood_kept {s : State} {l : LaneId} (hn : (s.pr l).same < s.lf l PAIR_CFG_SHADOW_N) : s.shadowGood l = s :=
  if_neg (by simp; omega)

theorem exec_shadowMismatch_kept {s : State} {l : LaneId} (hn : (s.pr l).diff < s.lf l PAIR_CFG_SHADOW_N) :
    exec (.shadowMismatch l) s = .next s := by
  show execShadowMismatch l s = _
  unfold execShadowMismatch
  split
  · rw [shadowBad_kept hn]
  · rfl

/-- Settles O55: each clause by the lemma on the step of the role or of the comparison. -/
theorem pairRolesAndShadow : Obligations.PairRolesAndShadow := by
  unfold Obligations.PairRolesAndShadow
  intro s
  refine ⟨fun src => ⟨fun hlevel hon h => ?_, fun h => congrArg Host.Outcome.next (askHandover_refused h)⟩, fun l htick hon => ?_,
    fun l => ⟨fun h hlast hn hok => ?_, exec_shadowMismatch_kept, fun hn hok => ⟨_, rfl, shadowGood_sets hn hok⟩,
      fun hn => congrArg Host.Outcome.next (shadowGood_kept hn)⟩⟩
  · have hmay (l : LaneId) : s.mayHandOver l = true ↔ (s.pr l).role = 1 ∧ (s.pr l).hb.any Heartbeat.elig = true := by
      simp only [State.mayHandOver, Bool.and_eq_true, decide_eq_true_eq]
    refine ⟨_, rfl, fun l => ?_⟩
    rw [askHandover_taken hlevel hon (by simpa only [hmay] using h), onLanes_askedLane_pr]
    simp only [Bool.and_eq_true, hmay]
  · have hacts : (s.ticking l && s.pairOn) = true := by rw [htick, hon]; rfl
    have htimeout : exec (.handoverTimeout l) s = .next (s.yieldEnd l) := if_pos hacts
    have hholdoff : exec (.takeHoldoffExpire l) s = .next (s.takeHold l) := if_pos hacts
    have hwaited : exec (.startWaitExpire l) s = .next (s.startWait l) := if_pos hacts
    refine ⟨fun e he hrole => ⟨fun hlate => ?_, fun hlate => ?_⟩, fun hheld hran hrole hidle hlimit => ?_, fun hrole hwait hel =>
      ⟨fun hrun => ⟨_, hwaited, startWait_master hrole hwait hel hrun⟩, fun hrun => ?_⟩⟩
    · obtain ⟨hpr, hctl, hothers⟩ := yieldEnd_master he hrole hlate
      exact ⟨_, htimeout, by rw [hpr], by rw [hpr], hctl, hothers⟩
    · rw [htimeout, yieldEnd_early he hlate]
    · have hdue : TakeDue s l := ⟨hheld, hran, hrole, hidle, hlimit⟩
      refine ⟨fun hn => ?_, fun hn hfree => ⟨_, hholdoff, takeHold_held hdue hn hfree⟩⟩
      obtain ⟨honly, htake⟩ := takeHold_takes hdue hn
      exact ⟨_, hholdoff, honly, htake⟩
    · rw [hwaited]
      exact congrArg Host.Outcome.next (if_neg (by simp; omega))
  · have hexec : exec (.shadowMismatch l) s = .next (s.shadowBad l (s.lf l PAIR_SHADOW) (s.pr l).ownDig h.outdig) := by
      show execShadowMismatch l s = _
      rw [execShadowMismatch, hlast]
    exact ⟨_, hexec, shadowBad_clears hn hok _ _ _⟩

end Sys2Proof.Machine
